-- ==== Sys2Proof/Word.lean ====
section
/-! DEFINITION. Words, bytes and the plain-data operand types that the commands of the AX960 carry. -/

namespace Sys2Proof

/-- A 32-bit register or bus word (R68, R96). -/
abbrev Word := BitVec 32

/-- One byte of an addressed memory. -/
abbrev Byte := BitVec 8

/-- An interconnect initiator port, 0 to 11 (chapter 01, table of ports). -/
abbrev Port := Fin 12

/-- What the ECC of the trim memories says of the words one trim instruction read (R187). -/
inductive Ecc where
  | ok | corrected | uncorrectable
deriving DecidableEq, Repr

/-- The level a safety input, SAFE_RESET or WAKE pin stands at (R37, R149, R456). -/
inductive Level where
  | low | band | high
deriving DecidableEq, Repr

/-- The pattern on an island's path B line (R155). -/
inductive LineCode where
  | run | lowSteady | highSteady | slowSquare | undecodable
deriving DecidableEq, Repr

/-- The atomic memory operations of RV32A (R106, R115). -/
inductive AmoOp where
  | swap | add | xor | and | or | min | max | minu | maxu
deriving DecidableEq, Repr

/-- A transaction of R96: a single access of 1, 2, 4, 8 or 16 bytes, or a burst of 2 to 4 beats of 16 bytes. -/
structure Txn where
  write : Bool
  addr : Word
  /-- bytes of a single access; 16 for each beat of a burst -/
  size : Nat
  /-- 1 for a single access, 2 to 4 for a burst -/
  beats : Nat
  /-- the bytes written, lowest address first -/
  data : List Byte
deriving DecidableEq, Repr

/-- One item folded into a core's signature (R118). -/
inductive FoldItem where
  /-- kind 0x1: register index 0 to 63 and value -/
  | regWrite (index : BitVec 6) (value : Word)
  /-- kind 0x2 -/
  | csrWrite (csr : BitVec 12) (value : Word)
  /-- kind 0x3 -/
  | storeAddr (enables : BitVec 4) (addr : Word)
  /-- kind 0x4 -/
  | storeData (data : Word)
  /-- kind 0x5 -/
  | periph (write : Bool) (addr : Word)
  /-- kind 0x6 -/
  | transfer (target : Word)
  /-- kind 0x7 -/
  | trap (interrupt : Bool) (cause : BitVec 5) (target : Word)
deriving DecidableEq, Repr

/-- A core register that a debugger's abstract command writes (R139). -/
inductive CoreReg where
  | gpr (x : Fin 32) | fpr (f : Fin 32) | csr (n : BitVec 12) | pc
deriving DecidableEq, Repr

/-- What secure boot finds in one image slot (R419). [DESIGN CHOICE, assumption 66] -/
structure SlotFacts where
  /-- the Novmoax signature and every section hash match -/
  signed : Bool
  /-- the OEM signature of the pair sections matches the hash in OTP -/
  oemSigned : Bool
  rollback : Nat
  version : Word
deriving DecidableEq, Repr

/-- What a cold start meets that is decided outside the model: slots, crystals and the BISTs (R56, R58, R147, R419). [DESIGN CHOICE, assumption 66] -/
structure BootFacts where
  slotA : SlotFacts
  slotB : SlotFacts
  /-- the OEM key hash is written in OTP -/
  oemKeyWritten : Bool
  /-- XTAL25 oscillates and PLL_SYS locks -/
  xtalOk : Bool
  /-- a configuration bank of the MRAM is valid (R407) -/
  configValid : Bool
  /-- the provisioned Shroud configuration as (offset, word), in force until COMMISSION stores one (R148) -/
  provisioned : List (BitVec 12 × Word)
  /-- there is a valid black-box bank -/
  bbBank : Bool
  bistA : Bool
  bistB : Bool
deriving DecidableEq, Repr

/-- A node that enumeration found: its CAP, TMASK, TTURN and TREADY (R376, R378). -/
structure NodeFacts where
  nch : Nat
  ncell : Nat
  tmask : BitVec 18
  tturn : Nat
  tready : Nat
deriving DecidableEq, Repr

/-- One area of a returned STREAM frame (R384): the status slot and the data slots. -/
structure RingArea where
  node : Nat
  status : BitVec 16
  slots : List (BitVec 16)
deriving DecidableEq, Repr

/-- One housekeeping round's raw readings (R220): sensors in 1/16 °C (none while a link reports a fault),
NTC pin voltages and supplies in mV. -/
structure HkReadings where
  temps : List (Option Int)
  ntcMv : List Nat
  supMv : List Nat
deriving DecidableEq, Repr

end Sys2Proof
end

