-- ==== Sys2Proof/Syntax.lean ====
section
/-! DEFINITION. The commands of the AX960: one constructor per row of spec/opcode_table.json, in its order.
The docstring of each is the row's rule and its summary's operands; the meanings stand in Machine/Exec*.lean. -/

namespace Sys2Proof

/-- A command: one indivisible step of the part (spec/95_what_each_step_holds.md). -/
inductive Instr where
  /-- PERSONALITY (R1) -/
  | personality (pair : Fin 2)
  /-- PD_REQ (R43) -/
  | pdReq (pair : Fin 2)
  /-- DOMAIN_POWERED (R46) -/
  | domainPowered (d : Fin 12)
  /-- SLEEP (R53) -/
  | sleep (pair : Fin 2)
  /-- WAKE_SOURCE_LATCH (R50) -/
  | wakeSourceLatch (src : Fin 18)
  /-- WAKE_TIMER_EXPIRY (R458) -/
  | wakeTimerExpiry
  /-- WARM_WAKE (R59) -/
  | warmWake (facts : BootFacts)
  /-- COLD_START (R58) -/
  | coldStart (facts : BootFacts)
  /-- CLOCK_FAULT (R56) -/
  | clockFault (xtal : Bool)
  /-- PLLNET_FAULT (R57) -/
  | pllnetFault
  /-- PLLNET_RELOCK (R57) -/
  | pllnetRelock (ok : Bool)
  /-- VS_WARNING (R62) -/
  | vsWarning (vs : BitVec 16)
  /-- VS_RESUME (R63) -/
  | vsResume (vs : BitVec 16) (lowest : BitVec 16)
  /-- VS_OVERVOLTAGE (R34) -/
  | vsOvervoltage (vs : BitVec 16)
  /-- SUPPLY_RESET (R64) -/
  | supplyReset (vs : BitVec 16)
  /-- HOLDUP_EXHAUSTED (R64) -/
  | holdupExhausted (mastLost : Bool)
  /-- COLD_RESET (R404) -/
  | coldReset (pair : Fin 2)
  /-- GMS_RESTART (R61) -/
  | gmsRestart (back : Bool)
  /-- PAGE_ENABLE (R70) -/
  | pageEnable (port : Port) (page : Nat)
  /-- PAGE_DISABLE (R69) -/
  | pageDisable (port : Port) (page : Nat)
  /-- SOFT_RESET (R71) -/
  | softReset (port : Port) (page : Nat)
  /-- CONFIG_LOCK (R82) -/
  | configLock (port : Port) (page : Nat)
  /-- KEY_WRITE (R75) -/
  | keyWrite (port : Port) (page : Nat) (key : BitVec 16)
  /-- KEY_LAPSE (R75) -/
  | keyLapse (page : Nat)
  /-- OWNER_CLAIM (R78) -/
  | ownerClaim (port : Port) (page : Nat) (value : Word)
  /-- ALIAS_WRITE (R77) -/
  | aliasWrite (port : Port) (clear : Bool) (addr : Word) (value : Word)
  /-- REGISTER_WRITE (R72) -/
  | registerWrite (port : Port) (addr : Word) (value : Word)
  /-- CRC_RECOMPUTED (R81) -/
  | crcRecomputed (page : Nat)
  /-- CRC_CHECK (R82) -/
  | crcCheck (page : Nat) (upset : Option (BitVec 12 × Word))
  /-- EVENT_OCCURRENCE (R86) -/
  | eventOccurrence (e : Fin 256)
  /-- CAPTURE_SNAP (R93) -/
  | captureSnap (port : Port) (n : Fin 2) (k : Fin 8)
  /-- CAPTURE_FREEZE_READ (R93) -/
  | captureFreezeRead (port : Port) (n : Fin 2) (k : Fin 8)
  /-- CAPTURE_RELEASE_READ (R93) -/
  | captureReleaseRead (port : Port) (n : Fin 2) (k : Fin 8)
  /-- CAPTURE_FREEZE_LAPSE (R93) -/
  | captureFreezeLapse (n : Fin 2) (k : Fin 8)
  /-- DTIME_READ (R87) -/
  | dtimeRead (port : Port) (n : Fin 2)
  /-- EVR_TIMER_EXPIRY (R87) -/
  | evrTimerExpiry (n : Fin 2)
  /-- RECORD_DRAIN (R94) -/
  | recordDrain
  /-- TRANSACTION_ISSUE (R96) -/
  | transactionIssue (port : Port) (t : Txn)
  /-- ARBITRATION_ROUND (R101) -/
  | arbitrationRound (t : Fin 16)
  /-- TRANSACTION_RESPONSE (R97) -/
  | transactionResponse (t : Fin 16)
  /-- TARGET_TIMEOUT (R109) -/
  | targetTimeout (t : Fin 16)
  /-- LR_W (R106) -/
  | lrW (port : Port) (rd : Fin 32) (addr : Word)
  /-- SC_W (R106) -/
  | scW (port : Port) (rd : Fin 32) (addr : Word) (value : Word)
  /-- AMO (R106) -/
  | amo (port : Port) (op : AmoOp) (rd : Fin 32) (addr : Word) (value : Word)
  /-- FENCE (R97) -/
  | fence (core : Fin 4)
  /-- LOCK_EXPIRY (R106) -/
  | lockExpiry (t : Fin 16)
  /-- ICX_CFG (R110) -/
  | icxCfg (pair : Fin 2)
  /-- INTERCONNECT_PERIOD (R111) -/
  | interconnectPeriod
  /-- TRIM_BUDGET_CUT (R112) -/
  | trimBudgetCut (n : Fin 4) (mismatch : Bool)
  /-- WINDOW_CLOSE (R120) -/
  | windowClose (pair : Fin 2) (main : List FoldItem) (checker : List FoldItem)
  /-- COMPARE_RESULT (R121) -/
  | compareResult (pair : Fin 2) (selfTestOk : Bool)
  /-- DELAY_FAULT (R124) -/
  | delayFault (pair : Fin 2)
  /-- REALIGN_COMPLETE (R128) -/
  | realignComplete (pair : Fin 2)
  /-- AXFIN_READ (R126) -/
  | axfinRead (core : Fin 4) (rd : Fin 32)
  /-- DEV_EDGE_WAKE (R126) -/
  | devEdgeWake (core : Fin 4) (k : Fin 4)
  /-- PAIR_RESTART (R135) -/
  | pairRestart (pair : Fin 2)
  /-- SYNC_REQ (R136) -/
  | syncReq (core : Fin 4)
  /-- SYNC_TIMEOUT (R136) -/
  | syncTimeout (pair : Fin 2)
  /-- LOCK_COMPLETE (R136) -/
  | lockComplete (pair : Fin 2)
  /-- SPLIT_REQ (R137) -/
  | splitReq (core : Fin 4)
  /-- DEBUG_HALT (R139) -/
  | debugHalt (pair : Fin 2)
  /-- DEBUG_ABSTRACT_COMMAND (R140) -/
  | debugAbstractCommand (pair : Fin 2) (dst : CoreReg) (value : Word)
  /-- DEBUG_RESUME (R139) -/
  | debugResume (pair : Fin 2)
  /-- SHROUD_A_CYCLE (R143) -/
  | shroudACycle
  /-- SHROUD_B_CYCLE (R155) -/
  | shroudBCycle
  /-- XCMP_EXCHANGE (R144) -/
  | xcmpExchange (missing : Bool) (lpRcOff : Bool)
  /-- SHROUD_OPERATE_ENTRY (R147) -/
  | shroudOperateEntry
  /-- COMMISSION (R148) -/
  | commission (pair : Fin 2)
  /-- SIN_INPUT_CHANGE (R149) -/
  | sinInputChange (i : Fin 8) (chB : Bool) (level : Level)
  /-- SIN_FILTER_EXPIRY (R150) -/
  | sinFilterExpiry (i : Fin 8)
  /-- SIN_DISCREPANCY (R151) -/
  | sinDiscrepancy (i : Fin 8)
  /-- SS1_TIMEOUT (R153) -/
  | ss1Timeout (g : Fin 2)
  /-- FINAL_STO (R157) -/
  | finalSto (g : Fin 6)
  /-- ISLAND_SAFE_CODE (R155) -/
  | islandSafeCode (ch : Fin 36) (code : LineCode)
  /-- SAFE_RESET_REQUEST (R162) -/
  | safeResetRequest (idleMs : Nat) (skewMs : Nat) (widthMs : Nat)
  /-- SAFE_RESET_JAM (R163) -/
  | safeResetJam
  /-- TRIM_RUN_START (R184) -/
  | trimRunStart (n : Fin 4) (ecc : Ecc)
  /-- END (R178) -/
  | trEnd (n : Fin 4) (ecc : Ecc)
  /-- ENDN (R173) -/
  | trEndn (n : Fin 4) (ecc : Ecc)
  /-- ENDT (R188) -/
  | trEndt (n : Fin 4) (ecc : Ecc)
  /-- LDS (R176) -/
  | trLds (n : Fin 4) (ecc : Ecc)
  /-- LDF (R177) -/
  | trLdf (n : Fin 4) (ecc : Ecc)
  /-- LDT (R173) -/
  | trLdt (n : Fin 4) (ecc : Ecc)
  /-- STO (R178) -/
  | trSto (n : Fin 4) (ecc : Ecc)
  /-- LDK (R173) -/
  | trLdk (n : Fin 4) (ecc : Ecc)
  /-- LST (R173) -/
  | trLst (n : Fin 4) (ecc : Ecc)
  /-- SST (R173) -/
  | trSst (n : Fin 4) (ecc : Ecc)
  /-- MOV (R173) -/
  | trMov (n : Fin 4) (ecc : Ecc)
  /-- ADD (R173) -/
  | trAdd (n : Fin 4) (ecc : Ecc)
  /-- SUB (R173) -/
  | trSub (n : Fin 4) (ecc : Ecc)
  /-- NEG (R173) -/
  | trNeg (n : Fin 4) (ecc : Ecc)
  /-- ABS (R173) -/
  | trAbs (n : Fin 4) (ecc : Ecc)
  /-- MUL (R170) -/
  | trMul (n : Fin 4) (ecc : Ecc)
  /-- MULR (R173) -/
  | trMulr (n : Fin 4) (ecc : Ecc)
  /-- ACLR (R173) -/
  | trAclr (n : Fin 4) (ecc : Ecc)
  /-- MAC (R171) -/
  | trMac (n : Fin 4) (ecc : Ecc)
  /-- MACR (R171) -/
  | trMacr (n : Fin 4) (ecc : Ecc)
  /-- ARND (R171) -/
  | trArnd (n : Fin 4) (ecc : Ecc)
  /-- SATK (R173) -/
  | trSatk (n : Fin 4) (ecc : Ecc)
  /-- LIM (R173) -/
  | trLim (n : Fin 4) (ecc : Ecc)
  /-- RAMP (R173) -/
  | trRamp (n : Fin 4) (ecc : Ecc)
  /-- PI (R175) -/
  | trPi (n : Fin 4) (ecc : Ecc)
  /-- PIT (R175) -/
  | trPit (n : Fin 4) (ecc : Ecc)
  /-- BIQ (R175) -/
  | trBiq (n : Fin 4) (ecc : Ecc)
  /-- CLARKE (R173) -/
  | trClarke (n : Fin 4) (ecc : Ecc)
  /-- PARK (R173) -/
  | trPark (n : Fin 4) (ecc : Ecc)
  /-- IPARK (R173) -/
  | trIpark (n : Fin 4) (ecc : Ecc)
  /-- SVM (R174) -/
  | trSvm (n : Fin 4) (ecc : Ecc)
  /-- SINCOS (R174) -/
  | trSincos (n : Fin 4) (ecc : Ecc)
  /-- ATAN2 (R174) -/
  | trAtan2 (n : Fin 4) (ecc : Ecc)
  /-- SQRT (R173) -/
  | trSqrt (n : Fin 4) (ecc : Ecc)
  /-- DIV (R173) -/
  | trDiv (n : Fin 4) (ecc : Ecc)
  /-- B (R172) -/
  | trB (n : Fin 4) (ecc : Ecc)
  /-- CONTEXT_ENABLE (R182) -/
  | contextEnable (port : Port) (n : Fin 4) (i : Fin 8)
  /-- ENABLE_SCAN_DONE (R182) -/
  | enableScanDone (n : Fin 4) (i : Fin 8)
  /-- CONTEXT_DISABLE (R183) -/
  | contextDisable (port : Port) (n : Fin 4) (i : Fin 8)
  /-- CONTEXT_WATCHDOG (R188) -/
  | contextWatchdog (n : Fin 4) (i : Fin 8)
  /-- TRIM_MEMORY_WRITE (R180) -/
  | trimMemoryWrite (port : Port) (addr : Word) (eight : Bool) (data : BitVec 64)
  /-- TUNE_START (R191) -/
  | tuneStart (port : Port) (n : Fin 4) (slot : Fin 8) (rule : Fin 4)
  /-- TUNE_ABORT (R194) -/
  | tuneAbort (port : Port) (n : Fin 4)
  /-- TUNE_TIMEOUT (R194) -/
  | tuneTimeout (n : Fin 4)
  /-- LATENCY_CLEAR (R197) -/
  | latencyClear (port : Port)
  /-- ADC_SEQSTART_GO (R200) -/
  | adcSeqstartGo (port : Port) (n : Fin 8)
  /-- ADC_SLOT_DONE (R199) -/
  | adcSlotDone (n : Fin 8) (code : BitVec 14)
  /-- SDM_WINDOW_END (R206) -/
  | sdmWindowEnd (n : Fin 24) (sum : Nat)
  /-- SDM_FAULT (R207) -/
  | sdmFault (n : Fin 24) (stuck : Bool)
  /-- SCD_TRIP (R208) -/
  | scdTrip (n : Fin 24) (count : Nat)
  /-- SCD_RELEASE (R208) -/
  | scdRelease (n : Fin 24) (count : Nat)
  /-- COMPARATOR_TRIP (R215) -/
  | comparatorTrip (k : Fin 32) (x : Int)
  /-- COMPARATOR_RELEASE (R212) -/
  | comparatorRelease (k : Fin 32) (x : Int)
  /-- COMPARATOR_SETTLED (R213) -/
  | comparatorSettled (k : Fin 32) (x : Int)
  /-- COMPARATOR_CLEAR (R215) -/
  | comparatorClear (port : Port) (k : Fin 32) (x : Int)
  /-- HOUSEKEEPING_ROUND (R220) -/
  | housekeepingRound (r : HkReadings)
  /-- SUP5_SWITCH_OFF (R221) -/
  | sup5SwitchOff (j : Fin 9)
  /-- SUP5_RETRY (R221) -/
  | sup5Retry (j : Fin 9) (ok : Bool)
  /-- LOAD_POINT (R11) -/
  | loadPoint (u : Fin 16) (peak : Bool)
  /-- EVENT_GENERATOR (R234) -/
  | eventGenerator (u : Fin 16) (g : Fin 2)
  /-- ASYNCHRONOUS_TRIP (R230) -/
  | asynchronousTrip (u : Fin 16)
  /-- TRIPCLR (R231) -/
  | tripclr (port : Port) (u : Fin 16)
  /-- SWCOMMIT (R235) -/
  | swcommit (port : Port) (u : Fin 16)
  /-- SRD_SUPPLY_FAIL (R238) -/
  | srdSupplyFail (mv : Nat)
  /-- GATE_COMMAND_EDGE (R240) -/
  | gateCommandEdge (ch : Fin 36) (rising : Bool)
  /-- PROFILE_PHASE_END (R240) -/
  | profilePhaseEnd (ch : Fin 36) (onTime : Bool)
  /-- PARTNER_GATE_LOW_CONFIRMED (R248) -/
  | partnerGateLowConfirmed (ch : Fin 36)
  /-- HANDSHAKE_TIMEOUT (R248) -/
  | handshakeTimeout (ch : Fin 36)
  /-- DESATURATION (R242) -/
  | desaturation (ch : Fin 36)
  /-- REEF_STEP2 (R243) -/
  | reefStep2 (ch : Fin 36)
  /-- GCLR (R245) -/
  | gclr (port : Port) (g : Fin 6)
  /-- UNDERVOLTAGE_LOCKOUT (R246) -/
  | undervoltageLockout (ch : Fin 36) (mv : Nat)
  /-- LINK_FAULT (R247) -/
  | linkFault (ch : Fin 36)
  /-- ISLAND_OVERTEMPERATURE (R247) -/
  | islandOvertemperature (ch : Fin 36) (degC : Int)
  /-- SELFTEST_RUN (R253) -/
  | selftestRun (port : Port) (g : Fin 6)
  /-- SELFTEST_DONE (R253) -/
  | selftestDone (g : Fin 6) (fails : BitVec 8)
  /-- TW_EDGE (R257) -/
  | twEdge (n : Fin 4) (a : Bool) (b : Bool)
  /-- TW_STANDSTILL (R265) -/
  | twStandstill (n : Fin 4)
  /-- REST_END (R267) -/
  | restEnd (n : Fin 4)
  /-- HALL_CHANGE (R275) -/
  | hallChange (set : Fin 3) (code : BitVec 3)
  /-- DCDC_START (R312) -/
  | dcdcStart (port : Port)
  /-- DCDC_STOP (R312) -/
  | dcdcStop (port : Port)
  /-- DCDC_SHORT_CHECK (R314) -/
  | dcdcShortCheck
  /-- DCDC_HICCUP_RETRY (R314) -/
  | dcdcHiccupRetry
  /-- HICCNT_CLEAR (R314) -/
  | hiccntClear
  /-- DCDC_SHORT_CLEAR (R314) -/
  | dcdcShortClear (port : Port)
  /-- DCDC_SYNC_EDGE (R316) -/
  | dcdcSyncEdge
  /-- DCDC_SYNC_MISSING (R317) -/
  | dcdcSyncMissing
  /-- DCDC_SHED (R318) -/
  | dcdcShed
  /-- DCDC_DUTY_TIMEOUT (R321) -/
  | dcdcDutyTimeout
  /-- OBC_UPDATE (R324) -/
  | obcUpdate (v1 : Nat) (v2 : Nat) (v3 : Nat) (freq : Nat)
  /-- OBC_PLUGGED (R331) -/
  | obcPlugged
  /-- OBC_START (R333) -/
  | obcStart (port : Port)
  /-- OBC_EXPORT (R343) -/
  | obcExport (port : Port)
  /-- OBC_STOP (R331) -/
  | obcStop (port : Port)
  /-- PRECHARGE_DONE (R333) -/
  | prechargeDone (timeout : Bool)
  /-- AC_PRESENT (R333) -/
  | acPresent (timeout : Bool)
  /-- SEARCH_CLIMB (R334) -/
  | searchClimb
  /-- CV_STEP (R337) -/
  | cvStep
  /-- CHARGE_DONE (R337) -/
  | chargeDone
  /-- HOST_WATCHDOG_EXPIRY (R338) -/
  | hostWatchdogExpiry
  /-- HANDOVER_S2_OPEN (R339) -/
  | handoverS2Open (timeout : Bool)
  /-- HANDOVER_AC_WAIT_END (R339) -/
  | handoverAcWaitEnd (timeout : Bool)
  /-- HANDOVER_END (R339) -/
  | handoverEnd
  /-- PILOT_STATE_CHANGE (R327) -/
  | pilotStateChange (high : Int) (low : Int) (osc : Bool)
  /-- PP_CHANGE (R329) -/
  | ppChange (mv : Nat)
  /-- PILOT_LIMIT_TIMEOUT (R340) -/
  | pilotLimitTimeout
  /-- EXPORT_RECONNECT (R343) -/
  | exportReconnect
  /-- EXPORT_WINDOW_TRIP (R343) -/
  | exportWindowTrip
  /-- LAMP_OVERCURRENT (R345) -/
  | lampOvercurrent (status : Bool)
  /-- LAMP_RETRY (R345) -/
  | lampRetry (status : Bool)
  /-- ACT_START (R355) -/
  | actStart (port : Port) (n : Fin 3)
  /-- ACT_ARM (R355) -/
  | actArm (port : Port) (n : Fin 3)
  /-- ACT_STOP (R355) -/
  | actStop (port : Port) (n : Fin 3)
  /-- ACT_SPEED_UPDATE (R353) -/
  | actSpeedUpdate (n : Fin 3)
  /-- ACT_SPEED_ZERO (R352) -/
  | actSpeedZero (n : Fin 3)
  /-- ACT_HALL_TIMEOUT (R351) -/
  | actHallTimeout (n : Fin 3)
  /-- ACT_OVERLOAD (R354) -/
  | actOverload (n : Fin 3)
  /-- ACT_STALL (R355) -/
  | actStall (n : Fin 3)
  /-- BOOTSTRAP_UNDERVOLTAGE (R357) -/
  | bootstrapUndervoltage (n : Fin 3) (phase : Fin 3) (mv : Nat)
  /-- ENGAGE_INHIBIT (R358) -/
  | engageInhibit (n : Fin 3)
  /-- ACT_SUPPLY_OVERVOLTAGE (R359) -/
  | actSupplyOvervoltage (mv : Nat)
  /-- CTR_CLOSE (R364) -/
  | ctrClose (port : Port)
  /-- CTR_OPEN (R366) -/
  | ctrOpen (port : Port)
  /-- CTR_STEP_TIMER (R364) -/
  | ctrStepTimer (short : Bool)
  /-- CTR_NEG_OPEN (R366) -/
  | ctrNegOpen
  /-- TCOOL_END (R364) -/
  | tcoolEnd
  /-- PULL_IN_END (R360) -/
  | pullInEnd (k : Fin 8)
  /-- HSO_OVERCURRENT (R361) -/
  | hsoOvercurrent (k : Fin 8)
  /-- CONTACTOR_DISABLE (R362) -/
  | contactorDisable
  /-- RING_RUN (R378) -/
  | ringRun (port : Port) (k : Fin 4)
  /-- RING_STOP (R394) -/
  | ringStop (port : Port) (k : Fin 4)
  /-- RING_TONE (R394) -/
  | ringTone (port : Port) (k : Fin 4)
  /-- RING_TRAIN_END (R378) -/
  | ringTrainEnd (k : Fin 4) (aUp : Bool) (bUp : Bool)
  /-- RING_ENUM_DONE (R379) -/
  | ringEnumDone (k : Fin 4) (fromA : List (Nat × NodeFacts)) (fromB : List (Nat × NodeFacts)) (full : Bool)
  /-- RING_MEAS_DONE (R380) -/
  | ringMeasDone (k : Fin 4) (hops : List (Nat × Option Nat × Option Nat))
  /-- RING_STREAM_START (R383) -/
  | ringStreamStart (port : Port) (k : Fin 4)
  /-- RING_SYNC (R381) -/
  | ringSync (k : Fin 4)
  /-- RING_STREAM_SEND (R383) -/
  | ringStreamSend (k : Fin 4)
  /-- RING_STREAM_RECEIVE (R388) -/
  | ringStreamReceive (k : Fin 4) (areas : List RingArea) (aborted : Bool)
  /-- ZCOR_COPY_DONE (R398) -/
  | zcorCopyDone (k : Fin 4)
  /-- ZCOR_START (R396) -/
  | zcorStart (port : Port) (k : Fin 4)
  /-- ZCOR_ABORT (R400) -/
  | zcorAbort (port : Port) (k : Fin 4)
  /-- TQTAIL_WRITE (R390) -/
  | tqtailWrite (port : Port) (k : Fin 4) (tail : BitVec 8)
  /-- RING_TRANSACTION_COMPLETE (R390) -/
  | ringTransactionComplete (k : Fin 4) (tag : Fin 32) (data : List Word) (status : Word) (ack : List Byte) (aborted : Bool)
  /-- RING_TRANSACTION_TIMEOUT (R390) -/
  | ringTransactionTimeout (k : Fin 4) (tag : Fin 32)
  /-- RING_LANE_DOWN (R371) -/
  | ringLaneDown (k : Fin 4) (portB : Bool) (reachedA : Nat) (fromB : Nat)
  /-- RING_LANE_UP (R371) -/
  | ringLaneUp (k : Fin 4) (portB : Bool)
  /-- VERSION (R404) -/
  | version (pair : Fin 2)
  /-- WAKE_CFG (R404) -/
  | wakeCfg (pair : Fin 2)
  /-- RETAIN_WRITE (R404) -/
  | retainWrite (pair : Fin 2)
  /-- DATA_STORE (R406) -/
  | dataStore (pair : Fin 2)
  /-- DATA_LOAD (R460) -/
  | dataLoad (pair : Fin 2)
  /-- BB_MARK (R404) -/
  | bbMark (pair : Fin 2)
  /-- BB_COMMIT (R412) -/
  | bbCommit (pair : Fin 2)
  /-- BB_READ (R404) -/
  | bbRead (pair : Fin 2)
  /-- BB_CFG (R404) -/
  | bbCfg (pair : Fin 2)
  /-- FC_CFG (R413) -/
  | fcCfg (pair : Fin 2)
  /-- FC_ARM (R413) -/
  | fcArm (pair : Fin 2)
  /-- METER_READ (R404) -/
  | meterRead (pair : Fin 2)
  /-- METER_CAL (R417) -/
  | meterCal (pair : Fin 2)
  /-- PASSPORT_GET (R418) -/
  | passportGet (pair : Fin 2)
  /-- PASSPORT_ZADD (R418) -/
  | passportZadd (pair : Fin 2)
  /-- UPDATE_CONFIRM (R421) -/
  | updateConfirm (pair : Fin 2)
  /-- ACCESS_DROP (R426) -/
  | accessDrop (pair : Fin 2)
  /-- BB_COMMIT_START (R412) -/
  | bbCommitStart
  /-- BB_COMMIT_DONE (R412) -/
  | bbCommitDone
  /-- BB_PERIOD (R412) -/
  | bbPeriod
  /-- FC_TICK (R413) -/
  | fcTick
  /-- FC_FREEZE (R415) -/
  | fcFreeze
  /-- METER_SAMPLE (R416) -/
  | meterSample
  /-- METER_RECORD (R417) -/
  | meterRecord
  /-- PASSPORT_HISTOGRAM (R418) -/
  | passportHistogram
  /-- MRAM_SCRUB (R408) -/
  | mramScrub (uncorrectable : Bool)
  /-- DIAGNOSTIC_SESSION_CONTROL (R421) -/
  | diagnosticSessionControl (ch : Fin 6) (session : Byte)
  /-- SECURITY_ACCESS (R424) -/
  | securityAccess (ch : Fin 6) (sub : Byte) (verdict : Bool)
  /-- ACCESS_TIMEOUT (R426) -/
  | accessTimeout
  /-- READ_DATA_BY_IDENTIFIER (R418) -/
  | readDataByIdentifier (ch : Fin 6) (did : BitVec 16)
  /-- REQUEST_DOWNLOAD (R421) -/
  | requestDownload (ch : Fin 6) (slotB : Bool) (length : Nat)
  /-- TRANSFER_DATA (R421) -/
  | transferData (ch : Fin 6) (seq : Byte) (data : List Byte)
  /-- REQUEST_TRANSFER_EXIT (R421) -/
  | requestTransferExit (ch : Fin 6)
  /-- ROUTINE_CHECK_SLOT (R421) -/
  | routineCheckSlot (ch : Fin 6) (facts : SlotFacts)
  /-- ROUTINE_ACTIVATE_SLOT (R421) -/
  | routineActivateSlot (ch : Fin 6)
  /-- ROUTINE_PAIR_RESTART (R422) -/
  | routinePairRestart (ch : Fin 6) (option : Byte)
  /-- ECU_RESET (R421) -/
  | ecuReset (ch : Fin 6) (sub : Byte)
  /-- TESTER_CONFIG_WRITE (R461) -/
  | testerConfigWrite (ch : Fin 6) (addr : Word) (value : Word)
  /-- TWIN_RUN (R428) -/
  | twinRun (port : Port)
  /-- TWIN_FRAME_SEND (R429) -/
  | twinFrameSend
  /-- TWIN_FRAME_RECEIVE (R429) -/
  | twinFrameReceive (frame : List Byte) (lane1 : Bool)
  /-- TWIN_PARTNER_LOST (R432) -/
  | twinPartnerLost
  /-- TWIN_XREQ (R431) -/
  | twinXreq (port : Port) (groups : BitVec 6)
  /-- TWIN_XREQ_EXPIRY (R431) -/
  | twinXreqExpiry (groups : BitVec 6)
  /-- TWIN_OFFSET_MEASURE (R430) -/
  | twinOffsetMeasure (offset : Word)
  /-- TWIN_RING_HANDOVER (R437) -/
  | twinRingHandover (port : Port) (rings : BitVec 4)
  /-- TWIN_TAKEOVER (R439) -/
  | twinTakeover (k : Fin 4)
  /-- CAN_RX_FRAME (R447) -/
  | canRxFrame (n : Fin 4) (xtd : Bool) (remote : Bool) (fd : Bool) (id : BitVec 29) (data : List Byte)
  /-- CAN_TXTAIL_WRITE (R452) -/
  | canTxtailWrite (port : Port) (n : Fin 4) (tail : BitVec 8)
  /-- CAN_TX_DONE (R452) -/
  | canTxDone (n : Fin 4)
  /-- ETH_RX_FRAME (R447) -/
  | ethRxFrame (n : Fin 2) (frame : List Byte) (crcOk : Bool)
  /-- ETH_TXTAIL_WRITE (R453) -/
  | ethTxtailWrite (port : Port) (n : Fin 2) (ring : Fin 2) (tail : BitVec 16)
  /-- ETH_TX_DONE (R453) -/
  | ethTxDone (n : Fin 2)
  /-- ETH_LINK_CHANGE (R453) -/
  | ethLinkChange (n : Fin 2) (up : Bool)
  /-- NTOFSH_WRITE (R449) -/
  | ntofshWrite (port : Port) (value : Word)
  /-- NTNOWL_READ (R449) -/
  | ntnowlRead (port : Port)
  /-- XTAL25_RETRY (R56) -/
  | xtal25Retry (facts : BootFacts)
  /-- ACT_CURRENT_LIMIT (R354) -/
  | actCurrentLimit (n : Fin 3) (milliamps : Int)
  /-- LAMP_PATTERN (R345) -/
  | lampPattern (status : Bool)
  /-- PILOT_CYCLE_MEASURED (R328) -/
  | pilotCycleMeasured (freq : Nat) (duty : Nat) (high : Int) (low : Int)
  /-- CAN_BUS_OFF (R452) -/
  | canBusOff (n : Fin 4)
  /-- TWIN_LINK_TRAINED (R428) -/
  | twinLinkTrained
  /-- TWIN_TOKEN_RECEIVE (R437) -/
  | twinTokenReceive (k : Fin 4)
  /-- TWIN_SUMMARY_FORWARD (R436) -/
  | twinSummaryForward (k : Fin 4) (words : List (Word × Bool)) (stamp : BitVec 64)
deriving DecidableEq, Repr

end Sys2Proof
end

