-- ==== Sys2Proof/Decode.lean ====
section
/-! DEFINITION. The commands that words spell by the table's bits. -/

namespace Sys2Proof

/-- No row of spec/opcode_table.json gives its command bits: no word spells a command (DEDUCED, assumption 3). -/
def decodeTableWord (_nbits _w : Nat) : Option Instr := none

end Sys2Proof
end

