-- ==== Sys2Proof/Config.lean ====
section
/-! DEFINITION. What an implementation fixes and the specification leaves open: constants without a body, so that no proof can see a
value of one. The free values are applied to the counter `State.free`, which a step reads and advances (DESIGN CHOICE, assumption 1). -/

namespace Sys2Proof.Config

/-- A free word: a value the spec does not state, at the n-th place where one is needed. [DESIGN CHOICE, assumption 1] -/
opaque freeWord : Nat → Word

/-- A free byte. [DESIGN CHOICE, assumption 1] -/
opaque freeByte : Nat → Byte

/-- A free error of a trigonometric result, in units of its last place; Machine/TrimIsa.lean holds it to the bound of R174. [DESIGN CHOICE, assumption 1; DEDUCED, assumption 36] -/
opaque freeErr : Nat → Int

/-- The boot ROM's bytes (R19, R277): their text is not given. [DESIGN CHOICE, assumption 1; DESIGN CHOICE, assumption 65] -/
opaque romByte : Nat → Byte

/-- Factory trims of the HV sense channels (R204): g as C with s = 30, and o in Q1.31. [DESIGN CHOICE, assumption 1] -/
opaque hvsGain : Nat → Word
/-- The o trims of the same channels, by channel (R204). [DESIGN CHOICE, assumption 1] -/
opaque hvsOff : Nat → Word

/-- The module serial number, the pack's public-key identifier and the device certificate (R404, R418). [DESIGN CHOICE, assumption 1] -/
opaque serial : Nat → Word
opaque kid : Nat → Byte
/-- The device certificate, DER bytes, as R418 delivers it. [DESIGN CHOICE, assumption 1] -/
opaque certificate : List Byte

/-- The pack passport's signature over a payload, byte by byte (R418): ES256 with a sealed key. [DESIGN CHOICE, assumption 1] -/
opaque signByte : List Byte → Nat → Byte

/-- Whether a pattern of three rising edges counts as consistent for Shroud B (R152). -/
opaque patternOk : Nat → Nat → Bool

/-- Magic words of the two-bank records whose magic the spec does not give (R406). -/
opaque dataMagic : Word
opaque meterMagic : Word

end Sys2Proof.Config
end

