-- ==== Sys2Proof/Machine/Bits.lean ====
section
/-! DEFINITION. Bit fields of 32-bit words, signed readings, saturation and rounding, and the two CRCs: the vocabulary every block shares. -/

namespace Sys2Proof.Machine

/-- The field [hi:lo] of a word, as a number. -/
def bits (w : Word) (hi lo : Nat) : Nat := w.toNat / 2 ^ lo % 2 ^ (hi + 1 - lo)

/-- Bit i of a word. -/
def bit (w : Word) (i : Nat) : Bool := w.getLsbD i

/-- The ones of a field [hi:lo]. -/
def fieldMask (hi lo : Nat) : Word := BitVec.ofNat 32 ((2 ^ (hi + 1 - lo) - 1) * 2 ^ lo)

/-- A word with its field [hi:lo] holding v, cut to the field's width. -/
def setBits (w : Word) (hi lo v : Nat) : Word :=
  (w &&& ~~~(fieldMask hi lo)) ||| BitVec.ofNat 32 (v % 2 ^ (hi + 1 - lo) * 2 ^ lo)

/-- A word with bit i at b. -/
def setBit (w : Word) (i : Nat) (b : Bool) : Word :=
  if b then w ||| BitVec.ofNat 32 (2 ^ i) else w &&& ~~~(BitVec.ofNat 32 (2 ^ i))

/-- One bit as a mask. -/
def oneBit (i : Nat) : Word := BitVec.ofNat 32 (2 ^ i)

/-- A word from a number. -/
def w32 (n : Nat) : Word := BitVec.ofNat 32 n

/-- A word from an integer, in two's complement. -/
def wInt (x : Int) : Word := BitVec.ofInt 32 x

/-- The two's complement reading of the low n bits of v. -/
def signed (n v : Nat) : Int := if v % 2 ^ n < 2 ^ (n - 1) then (v % 2 ^ n : Nat) else ((v % 2 ^ n : Nat) : Int) - 2 ^ n

/-- x held between lo and hi. -/
def clampInt (lo hi x : Int) : Int := if x < lo then lo else if hi < x then hi else x

/-- n held between lo and hi. -/
def clampNat (lo hi n : Nat) : Nat := if n < lo then lo else if hi < n then hi else n

/-- Saturation to a signed 32-bit word. -/
def sat32 (x : Int) : Word := wInt (clampInt (-2147483648) 2147483647 x)

/-- x · 2^-n rounded to the nearest integer, ties toward +∞ (floor of x + half). [DEDUCED, assumption 10] -/
def roundShift (x : Int) (n : Nat) : Int := if n = 0 then x else (x + 2 ^ (n - 1)) / 2 ^ n

/-- a / b rounded to the nearest integer, ties toward +∞; 0 for b = 0. [DEDUCED, assumption 10] -/
def roundDiv (a b : Int) : Int :=
  if b = 0 then 0 else if 0 < b then (2 * a + b) / (2 * b) else (-2 * a - b) / (-2 * b)

/-- The four bytes of a word, least significant first. [DESIGN CHOICE, assumption 50] -/
def wordBytes (w : Word) : List Byte :=
  [w.extractLsb' 0 8, w.extractLsb' 8 8, w.extractLsb' 16 8, w.extractLsb' 24 8]

/-- The number that bytes spell, least significant first. -/
def bytesNat : List Byte → Nat
  | [] => 0
  | b :: t => b.toNat + 256 * bytesNat t

/-- n bytes of a number, least significant first. -/
def natBytes : Nat → Nat → List Byte
  | 0, _ => []
  | n + 1, v => BitVec.ofNat 8 v :: natBytes n (v / 256)

/-- One shift of the reflected CRC-32 register (R81: polynomial 0x04C1_1DB7, reflected 0xEDB8_8320). -/
def crc32Shift (c : Word) : Word :=
  if c.getLsbD 0 then (c >>> 1) ^^^ 0xEDB88320#32 else c >>> 1

/-- One byte into the CRC-32 register. -/
def crc32Byte (c : Word) (b : Byte) : Word :=
  crc32Shift (crc32Shift (crc32Shift (crc32Shift (crc32Shift (crc32Shift (crc32Shift (crc32Shift
    (c ^^^ b.setWidth 32))))))))

/-- CRC-32 of IEEE 802.3 over bytes (R81). -/
def crc32 (bs : List Byte) : Word := bs.foldl crc32Byte 0xFFFFFFFF#32 ^^^ 0xFFFFFFFF#32

/-- The index of the lowest set bit below n, if any. -/
def lowestBit (w : Word) (n : Nat) : Option Nat := (List.range n).find? fun i => bit w i

/-- The number of ones in the low n bits. -/
def popCount (w : Word) (n : Nat) : Nat := ((List.range n).filter fun i => bit w i).length

/-- The number whose bit k is p k, for k below n. -/
def maskOf (n : Nat) (p : Nat → Bool) : Nat := (List.range n).foldl (fun v k => if p k then v + 2 ^ k else v) 0

/-- An element of a list, or a default. -/
def nthD {α : Type} (d : α) (l : List α) (i : Nat) : α := (l[i]?).getD d

end Sys2Proof.Machine
end

