-- ==== Sys2Proof/Machine/RegTable.lean ====
section
/-! DEFINITION. The page map of R83 and the register summary of every block: offset, access masks, reset value (R6, R68, R69, and the
register table of each chapter, named in INVENTORY.md line by line). Rows are data; Machine/Clamp.lean reads `Clamp`. -/

namespace Sys2Proof.Machine

/-- The block types of the page map (R83). -/
inductive Block where
  | sys | icx | evr | tbu | pair | trim | tsch | pwm | ggrp | lvdrv | adc | sdm | cmpb | hvs | hk | twl | hall | enc | efr | zcor | dcdc | obc | pilot | ctr | act | can | eth | shrd | mbx | twin
deriving DecidableEq, Repr

/-- Registers whose stored value differs from the written one: a value outside the legal range stores what the block's chapter says. -/
inductive Clamp where
  | none_ | actcfg | actilim | adcslot | chcfg | cmpcfg | ctxmap | dcdccfg | drive | eco | efrcfg | efrper | eg | expt | fsw | gmisc | mclk | nt | nz16 | pfilt | plkcfg | precfg | prot | pwmper | ramprate | rcfg | role | scd | sdmcfg | search | shrdmisc | sincfg | ss1tmax | tctrl | tmrper | tqcfg | tstill | twlcfg | twlcmp | vset | waitlim | wheel | wlen | zbin | zcfg
deriving DecidableEq, Repr

/-- One line of a block's register table. -/
structure RegRow where
  off : Nat
  stride : Nat
  count : Nat
  reset : Nat
  /-- bits of type RW -/
  rw : Nat
  /-- bits of type RWD -/
  rwd : Nat
  /-- bits of type RWK -/
  rwk : Nat
  /-- bits of type RW1 -/
  rw1 : Nat
  /-- bits of type W1C -/
  w1c : Nat
  /-- marked run-time in its block's register summary (R81) -/
  run : Bool
  clamp : Clamp
deriving DecidableEq, Repr

/-- One line of the page map: first page number (address / 4096 from 0x4000_0000), instances, TYPE, power domain. -/
structure BlockRow where
  blk : Block
  page : Nat
  count : Nat
  type : Nat
  dom : Nat
  /-- bits of PEVT the block defines -/
  pevt : Nat
  /-- block bits of PFAULT -/
  pfault : Nat
deriving DecidableEq, Repr

/-- The page map (R83). -/
def pageMap : List BlockRow := [
  ⟨.sys, 0x0, 1, 0x1, 1, 0x7F, 0x0⟩,
  ⟨.icx, 0x10, 1, 0x2, 1, 0xF, 0x0⟩,
  ⟨.evr, 0x11, 2, 0x3, 1, 0xFF03, 0x0⟩,
  ⟨.tbu, 0x13, 1, 0x4, 1, 0xFF, 0x0⟩,
  ⟨.pair, 0x20, 2, 0x5, 1, 0xF, 0x1F⟩,
  ⟨.trim, 0x40, 4, 0x6, 5, 0xFFFFFFFF, 0xFF⟩,
  ⟨.tsch, 0x44, 1, 0x7, 5, 0x0, 0x0⟩,
  ⟨.pwm, 0x60, 16, 0x8, 5, 0x1F, 0x0⟩,
  ⟨.ggrp, 0x80, 6, 0x9, 5, 0xF, 0x1FF⟩,
  ⟨.lvdrv, 0x86, 1, 0xB, 10, 0x3, 0x0⟩,
  ⟨.adc, 0xA0, 8, 0xC, 6, 0x3, 0x0⟩,
  ⟨.sdm, 0xA8, 24, 0xD, 6, 0xF, 0x3⟩,
  ⟨.cmpb, 0xC0, 8, 0xF, 6, 0xFF, 0x0⟩,
  ⟨.hvs, 0xC8, 1, 0xE, 6, 0x0, 0x0⟩,
  ⟨.hk, 0xD0, 1, 0x10, 6, 0x0, 0x0⟩,
  ⟨.twl, 0xE0, 4, 0x11, 6, 0x3F, 0x7⟩,
  ⟨.hall, 0xE4, 1, 0x12, 6, 0x77, 0x0⟩,
  ⟨.enc, 0xE5, 1, 0x13, 6, 0x3, 0x0⟩,
  ⟨.efr, 0x100, 4, 0x14, 7, 0x7F, 0x7⟩,
  ⟨.zcor, 0x104, 1, 0x15, 7, 0xF, 0x0⟩,
  ⟨.dcdc, 0x120, 1, 0x16, 5, 0xF, 0x7⟩,
  ⟨.obc, 0x121, 1, 0x17, 5, 0xF, 0x0⟩,
  ⟨.pilot, 0x122, 1, 0x18, 5, 0xF, 0x0⟩,
  ⟨.ctr, 0x123, 1, 0x19, 11, 0x3, 0x3FF⟩,
  ⟨.act, 0x124, 3, 0x1A, 11, 0xF, 0x3⟩,
  ⟨.can, 0x140, 4, 0x1B, 8, 0xF, 0x1⟩,
  ⟨.eth, 0x144, 2, 0x1C, 8, 0xF, 0x1⟩,
  ⟨.shrd, 0x160, 1, 0x1D, 2, 0xFF, 0x0⟩,
  ⟨.mbx, 0x161, 1, 0x1E, 1, 0x3F, 0x7⟩,
  ⟨.twin, 0x162, 1, 0x1F, 8, 0xF, 0x0⟩]

/-- The registers of SYS. -/
def rowsSYS : List RegRow :=
  [⟨0x40, 4, 1, 0x7, 0x0, 0x0, 0x0, 0x0, 0x0, false, .none_⟩, /- PDSTAT -/
  ⟨0x44, 4, 1, 0x7, 0x0, 0x0, 0xFF8, 0x0, 0x0, false, .none_⟩, /- PDREQ -/
  ⟨0x48, 4, 1, 0x1, 0x3FFFF, 0x0, 0x0, 0x0, 0x0, false, .none_⟩, /- WAKEEN -/
  ⟨0x4C, 4, 1, 0x0, 0x0, 0x0, 0x0, 0x0, 0x3FFFF, true, .none_⟩, /- WAKESRC -/
  ⟨0x50, 4, 1, 0x0, 0x0, 0x0, 0x1, 0x0, 0x0, false, .none_⟩, /- SLEEPCTRL -/
  ⟨0x54, 4, 1, 0x1, 0x0, 0x0, 0x0, 0x0, 0x3FF, false, .none_⟩, /- RSTCAUSE -/
  ⟨0x58, 4, 1, 0x3, 0x0, 0x0, 0x0, 0x0, 0x0, false, .none_⟩, /- CLKSTAT -/
  ⟨0x5C, 4, 1, 0x0, 0x0, 0x0, 0x0, 0x0, 0x0, false, .none_⟩, /- VSMON -/
  ⟨0x60, 4, 1, 0x0, 0x0, 0x0, 0x0, 0x0, 0x0, false, .none_⟩, /- BOOTSTAT -/
  ⟨0x64, 4, 1, 0x0, 0xFFFFFFFF, 0x0, 0x0, 0x0, 0x0, true, .none_⟩, /- WAKETMR -/
  ⟨0x68, 4, 1, 0x0, 0x0, 0x0, 0x0, 0x0, 0x0, false, .none_⟩, /- RTC -/
  ⟨0x80, 4, 16, 0x0, 0xFFFFFFFF, 0x0, 0x0, 0x0, 0x0, false, .none_⟩ /- RETAIN -/]

/-- The registers of ICX. -/
def rowsICX : List RegRow :=
  [⟨0x40, 4, 1, 0x92ABAA, 0xFFFFFF, 0x0, 0x0, 0x0, 0x0, true, .none_⟩, /- CLASS -/
  ⟨0x44, 4, 1, 0x0, 0x0, 0x0, 0x0, 0x0, 0xFFFF0000, false, .none_⟩, /- LOCKSTAT -/
  ⟨0x48, 4, 1, 0x0, 0x0, 0x0, 0x0, 0x0, 0x0, false, .none_⟩, /- TAGSTAT -/
  ⟨0x80, 4, 16, 0x10, 0xFF, 0x0, 0x0, 0x0, 0x0, false, .waitlim⟩, /- WAITLIM -/
  ⟨0xC0, 4, 16, 0x0, 0x0, 0x0, 0x0, 0x0, 0x0, false, .none_⟩ /- TGTSTAT -/]

/-- The registers of EVR. -/
def rowsEVR : List RegRow :=
  [⟨0x40, 4, 1, 0x0, 0x0, 0x0, 0x0, 0x0, 0x0, false, .none_⟩, /- DTIMEL -/
  ⟨0x44, 4, 1, 0x0, 0x0, 0x0, 0x0, 0x0, 0x0, false, .none_⟩, /- DTIMEH -/
  ⟨0x48, 4, 1, 0x0, 0x0, 0x0, 0x0, 0x0, 0x0, false, .none_⟩, /- EPOCH -/
  ⟨0x4C, 4, 1, 0x0, 0x0, 0x0, 0x0, 0x0, 0x0, false, .none_⟩, /- EPOCHSUB -/
  ⟨0x50, 4, 1, 0x0, 0x1, 0x0, 0x0, 0x0, 0x0, true, .none_⟩, /- TMRCTRL -/
  ⟨0x54, 4, 1, 0x258, 0x0, 0xFFFFFFFF, 0x0, 0x0, 0x0, false, .tmrper⟩, /- TMRPER -/
  ⟨0x60, 4, 2, 0x0, 0x0, 0x0, 0x0, 0x0, 0x0, false, .none_⟩, /- IRQPEND -/
  ⟨0x80, 4, 8, 0x0, 0x0, 0x0, 0x0, 0x0, 0xFFFFFFFF, true, .none_⟩, /- SPEND -/
  ⟨0xC0, 4, 1, 0x0, 0x0, 0x0, 0x0, 0x0, 0x0, false, .none_⟩, /- ACCADDR -/
  ⟨0xC4, 4, 1, 0x0, 0x0, 0x0, 0x0, 0x0, 0x80000000, true, .none_⟩, /- ACCINFO -/
  ⟨0x100, 32, 8, 0x0, 0xFF71, 0x0, 0x0, 0x0, 0x0, false, .none_⟩, /- CAPCTRL -/
  ⟨0x104, 32, 8, 0x0, 0x0, 0x0, 0x0, 0x0, 0x2, true, .none_⟩, /- CAPSTAT -/
  ⟨0x108, 32, 8, 0x0, 0x0, 0x0, 0x0, 0x0, 0x0, false, .none_⟩, /- CAPTL -/
  ⟨0x10C, 32, 8, 0x0, 0x0, 0x0, 0x0, 0x0, 0x0, false, .none_⟩, /- CAPTH -/
  ⟨0x110, 32, 8, 0x0, 0x0, 0x0, 0x0, 0x0, 0x0, false, .none_⟩, /- CAPV -/
  ⟨0x400, 4, 256, 0x0, 0x11F, 0x0, 0x0, 0x0, 0x0, false, .none_⟩ /- ROUTE -/]

/-- The registers of TBU. -/
def rowsTBU : List RegRow :=
  [⟨0x40, 4, 1, 0x0, 0x0, 0x0, 0x0, 0x0, 0x0, false, .none_⟩, /- PERIOD -/
  ⟨0x80, 4, 12, 0x0, 0xFFFF, 0x0, 0x0, 0x0, 0x0, false, .none_⟩, /- BUDGET -/
  ⟨0xC0, 4, 12, 0x0, 0x0, 0x0, 0x0, 0x0, 0x0, false, .none_⟩, /- USED -/
  ⟨0x100, 4, 1, 0x0, 0x0, 0x0, 0x0, 0x0, 0xFFF, true, .none_⟩, /- ICXOVR -/
  ⟨0x104, 4, 1, 0x0, 0x0, 0x0, 0x0, 0x0, 0xFFFFFFFF, true, .none_⟩, /- TRIMOVR -/
  ⟨0x108, 4, 1, 0x0, 0x0, 0x0, 0x0, 0x0, 0xF, true, .none_⟩ /- RINGOVR -/]

/-- The registers of PAIR. -/
def rowsPAIR : List RegRow :=
  [⟨0x40, 4, 1, 0x1, 0x0, 0x0, 0x0, 0x0, 0x0, false, .none_⟩, /- STAT -/
  ⟨0x44, 4, 1, 0x30, 0x0, 0x0, 0xF1, 0x0, 0x0, false, .none_⟩, /- CTRL -/
  ⟨0x48, 4, 1, 0x400, 0x0, 0x0, 0x1FFF, 0x0, 0x0, false, .wlen⟩, /- WINCFG -/
  ⟨0x4C, 4, 1, 0x0, 0x0, 0x0, 0x0, 0x0, 0x0, true, .none_⟩, /- SYNC -/
  ⟨0x50, 4, 1, 0x0, 0x0, 0x0, 0x0, 0x0, 0x0, true, .none_⟩, /- SPLIT -/
  ⟨0x54, 4, 1, 0x0, 0xFFFFFFFE, 0x0, 0x0, 0x0, 0x0, false, .none_⟩, /- SPLIT_ENTRY -/
  ⟨0x58, 4, 1, 0x0, 0x0, 0x0, 0x0, 0x0, 0x0, false, .none_⟩, /- FCAUSE -/
  ⟨0x5C, 4, 1, 0x0, 0x0, 0x0, 0x0, 0x0, 0x0, false, .none_⟩, /- FWIN -/
  ⟨0x60, 4, 1, 0x0, 0x0, 0x0, 0x0, 0x0, 0x0, false, .none_⟩, /- SIGL -/
  ⟨0x64, 4, 1, 0x0, 0x0, 0x0, 0x0, 0x0, 0x0, false, .none_⟩, /- SIGH -/
  ⟨0x68, 4, 1, 0x0, 0x0, 0x0, 0x0, 0x0, 0x0, false, .none_⟩, /- WINCNT -/
  ⟨0x6C, 4, 1, 0x0, 0x0, 0x0, 0x0, 0x0, 0x0, false, .none_⟩, /- ALIGNCNT -/
  ⟨0x70, 4, 1, 0x0, 0x1F1F1F3F, 0x0, 0x0, 0x0, 0x0, false, .none_⟩ /- FINSEL -/]

/-- The registers of TRIM. -/
def rowsTRIM : List RegRow :=
  [⟨0x40, 4, 1, 0x0, 0x0, 0x0, 0x0, 0x0, 0x0, false, .none_⟩, /- ESTAT -/
  ⟨0x44, 4, 1, 0x0, 0x0, 0x0, 0x3FF, 0x0, 0x0, false, .none_⟩, /- CFIX -/
  ⟨0x48, 4, 1, 0x0, 0x0, 0x0, 0x0, 0x0, 0x0, false, .none_⟩, /- ECCCNT -/
  ⟨0x100, 64, 8, 0x0, 0x1, 0x0, 0x0, 0x0, 0x0, true, .none_⟩, /- CCTRL -/
  ⟨0x104, 64, 8, 0x0, 0xFFFFF000, 0x0, 0x0, 0x0, 0x0, false, .none_⟩, /- CCFG -/
  ⟨0x108, 64, 8, 0x0, 0xFFFF3FFF, 0x0, 0x0, 0x0, 0x0, false, .none_⟩, /- CBUDGET -/
  ⟨0x10C, 64, 8, 0x0, 0x1FFF0FFF, 0x0, 0x0, 0x0, 0x0, false, .none_⟩, /- CPROG -/
  ⟨0x110, 64, 8, 0x0, 0x3FF03FF, 0x0, 0x0, 0x0, 0x0, false, .none_⟩, /- CBANK -/
  ⟨0x114, 64, 8, 0x0, 0x1, 0x0, 0x0, 0x0, 0x0, true, .none_⟩, /- CBSEL -/
  ⟨0x118, 64, 8, 0x0, 0x801FFFFC, 0x0, 0x0, 0x0, 0x0, false, .none_⟩, /- SPTGT0 -/
  ⟨0x11C, 64, 8, 0x0, 0x801FFFFC, 0x0, 0x0, 0x0, 0x0, false, .none_⟩, /- SPTGT1 -/
  ⟨0x120, 64, 8, 0x0, 0x801FFFFC, 0x0, 0x0, 0x0, 0x0, false, .none_⟩, /- SPTGT2 -/
  ⟨0x124, 64, 8, 0x0, 0x801FFFFC, 0x0, 0x0, 0x0, 0x0, false, .none_⟩, /- SPTGT3 -/
  ⟨0x128, 64, 8, 0x0, 0x800003FF, 0x0, 0x0, 0x0, 0x0, false, .none_⟩, /- RAMPCFG -/
  ⟨0x12C, 64, 8, 0x1, 0xFFFFFFFF, 0x0, 0x0, 0x0, 0x0, false, .ramprate⟩, /- RAMPRATE -/
  ⟨0x130, 64, 8, 0x0, 0xFFFFFFFF, 0x0, 0x0, 0x0, 0x0, true, .none_⟩, /- SETP0 -/
  ⟨0x134, 64, 8, 0x0, 0xFFFFFFFF, 0x0, 0x0, 0x0, 0x0, true, .none_⟩, /- SETP1 -/
  ⟨0x138, 64, 8, 0x0, 0xFFFFFFFF, 0x0, 0x0, 0x0, 0x0, true, .none_⟩, /- SETP2 -/
  ⟨0x13C, 64, 8, 0x0, 0xFFFFFFFF, 0x0, 0x0, 0x0, 0x0, true, .none_⟩, /- SETP3 -/
  ⟨0x300, 16, 8, 0x0, 0x0, 0x0, 0x0, 0x0, 0x0, false, .none_⟩ /- CSTAT -/] ++
  [⟨0x304, 16, 8, 0x0, 0x0, 0x0, 0x0, 0x0, 0xFF, true, .none_⟩, /- CFLAG -/
  ⟨0x308, 16, 8, 0x0, 0x0, 0x0, 0x0, 0x0, 0x0, false, .none_⟩, /- CRAMP -/
  ⟨0x400, 4, 1, 0x0, 0x370, 0x0, 0x0, 0x0, 0x0, true, .tctrl⟩, /- TCTRL -/
  ⟨0x404, 4, 1, 0x0, 0xFFFFFFFF, 0x0, 0x0, 0x0, 0x0, false, .none_⟩, /- TH -/
  ⟨0x408, 4, 1, 0x0, 0xFFFFFFFF, 0x0, 0x0, 0x0, 0x0, false, .none_⟩, /- TEPS -/
  ⟨0x40C, 4, 1, 0x2, 0xFFFF0F, 0x0, 0x0, 0x0, 0x0, false, .none_⟩, /- TCFG -/
  ⟨0x410, 4, 1, 0x7FFFFFFF, 0xFFFFFFFF, 0x0, 0x0, 0x0, 0x0, false, .none_⟩, /- TALIM -/
  ⟨0x414, 4, 1, 0x0, 0x0, 0x0, 0x0, 0x0, 0x0, false, .none_⟩, /- TSTAT -/
  ⟨0x418, 4, 1, 0x0, 0x0, 0x0, 0x0, 0x0, 0x0, false, .none_⟩, /- TTU -/
  ⟨0x41C, 4, 1, 0x0, 0x0, 0x0, 0x0, 0x0, 0x0, false, .none_⟩, /- TTS -/
  ⟨0x420, 4, 1, 0x0, 0x0, 0x0, 0x0, 0x0, 0x0, false, .none_⟩, /- TA -/
  ⟨0x424, 4, 1, 0x0, 0x0, 0x0, 0x0, 0x0, 0x0, false, .none_⟩, /- TKUC -/
  ⟨0x428, 4, 1, 0x0, 0x0, 0x0, 0x0, 0x0, 0x0, false, .none_⟩, /- TKUS -/
  ⟨0x42C, 4, 1, 0x0, 0x0, 0x0, 0x0, 0x0, 0x0, false, .none_⟩, /- PKPC -/
  ⟨0x430, 4, 1, 0x0, 0x0, 0x0, 0x0, 0x0, 0x0, false, .none_⟩, /- PKPS -/
  ⟨0x434, 4, 1, 0x0, 0x0, 0x0, 0x0, 0x0, 0x0, false, .none_⟩, /- PKIC -/
  ⟨0x438, 4, 1, 0x0, 0x0, 0x0, 0x0, 0x0, 0x0, false, .none_⟩, /- PKIS -/
  ⟨0x800, 4, 128, 0x0, 0xFFFFFFFF, 0x0, 0x0, 0x0, 0x0, true, .none_⟩ /- ST -/]

/-- The registers of TSCH. -/
def rowsTSCH : List RegRow :=
  [⟨0x40, 4, 32, 0x0, 0x0, 0x0, 0x0, 0x0, 0x0, true, .none_⟩, /- LAT -/
  ⟨0xC0, 4, 1, 0x0, 0x0, 0x0, 0x0, 0x0, 0x0, true, .none_⟩, /- CLR -/
  ⟨0xC4, 4, 4, 0x0, 0x0, 0x0, 0x0, 0x0, 0x0, true, .none_⟩ /- LOAD -/]

/-- The registers of PWM. -/
def rowsPWM : List RegRow :=
  [⟨0x40, 4, 1, 0x0, 0x0, 0xF83, 0x0, 0x0, 0x0, false, .none_⟩, /- CFG -/
  ⟨0x44, 4, 1, 0x3A98, 0xFFFFF, 0x0, 0x0, 0x0, 0x0, true, .pwmper⟩, /- PER -/
  ⟨0x48, 4, 1, 0xF00, 0xFFFF, 0x0, 0x0, 0x0, 0x0, false, .none_⟩, /- DT -/
  ⟨0x4C, 4, 1, 0x0, 0x7777, 0x0, 0x0, 0x0, 0x0, false, .none_⟩, /- CHCFG -/
  ⟨0x50, 4, 1, 0x0, 0xFFFFF, 0x0, 0x0, 0x0, 0x0, false, .none_⟩, /- SYNCOFS -/
  ⟨0x54, 4, 2, 0x0, 0xFFFFFFFF, 0x0, 0x0, 0x0, 0x0, false, .eg⟩, /- EG -/
  ⟨0x5C, 4, 1, 0x0, 0xFF0007, 0x0, 0x0, 0x0, 0x0, false, .none_⟩, /- TRIPCFG -/
  ⟨0x60, 4, 1, 0x0, 0xFF, 0x0, 0x0, 0x0, 0x0, false, .none_⟩, /- TRIPOUT -/
  ⟨0x64, 4, 1, 0x0, 0x0, 0x0, 0x0, 0x0, 0x0, true, .none_⟩, /- TRIPCLR -/
  ⟨0x68, 4, 1, 0x0, 0xFFFF, 0x0, 0x0, 0x0, 0x0, true, .none_⟩, /- FORCE -/
  ⟨0x6C, 4, 1, 0x0, 0x0, 0x0, 0x0, 0x0, 0x0, false, .none_⟩, /- STAT -/
  ⟨0x70, 4, 1, 0x0, 0x0, 0x0, 0x0, 0x0, 0x0, true, .none_⟩, /- SWCOMMIT -/
  ⟨0x80, 4, 8, 0x0, 0x0, 0x0, 0x0, 0x0, 0x0, false, .none_⟩, /- CMP -/
  ⟨0xA0, 4, 8, 0x0, 0xFFFFFFFF, 0x0, 0x0, 0x0, 0x0, true, .none_⟩ /- SHD -/]

/-- The registers of GGRP. -/
def rowsGGRP : List RegRow :=
  [⟨0x40, 4, 1, 0x0, 0x0, 0x1F, 0x0, 0x0, 0x0, false, .none_⟩, /- GCFG -/
  ⟨0x44, 4, 1, 0x0, 0x0, 0x0, 0x0, 0x0, 0x0, false, .none_⟩, /- GSTAT -/
  ⟨0x48, 4, 1, 0x0, 0x0, 0x0, 0x0, 0x0, 0x0, true, .none_⟩, /- GCLR -/
  ⟨0x4C, 4, 1, 0x0, 0x0, 0x0, 0x0, 0x0, 0x0, true, .none_⟩, /- STCTRL -/
  ⟨0x50, 4, 1, 0x0, 0x0, 0x0, 0x0, 0x0, 0x0, false, .none_⟩, /- STRES -/
  ⟨0x200, 256, 8, 0xC0C, 0x0, 0x3F1F, 0x0, 0x0, 0x0, false, .chcfg⟩, /- CHCFG -/
  ⟨0x204, 256, 8, 0x3228B482, 0x0, 0xFFFFFFFF, 0x0, 0x0, 0x0, false, .none_⟩, /- PROFON -/
  ⟨0x208, 256, 8, 0x32285AA0, 0x0, 0xFFFFFFFF, 0x0, 0x0, 0x0, false, .none_⟩, /- PROFOFF -/
  ⟨0x20C, 256, 8, 0xC0C, 0x0, 0xFF1F1F, 0x0, 0x0, 0x0, false, .drive⟩, /- DRIVE -/
  ⟨0x210, 256, 8, 0x18100808, 0x0, 0x7F3F3F1F, 0x0, 0x0, 0x0, false, .prot⟩, /- PROT -/
  ⟨0x214, 256, 8, 0x960A, 0x0, 0xFF3F, 0x0, 0x0, 0x0, false, .gmisc⟩, /- MISC -/
  ⟨0x218, 256, 8, 0x0, 0x0, 0x0, 0x0, 0x3, 0x0, false, .none_⟩, /- SAFEOUT -/
  ⟨0x220, 256, 8, 0x0, 0x0, 0x0, 0x0, 0x0, 0x0, false, .none_⟩, /- CSTAT -/
  ⟨0x224, 256, 8, 0x0, 0x0, 0x0, 0x0, 0x0, 0x7, true, .none_⟩ /- CFLAG -/]

/-- The registers of LVDRV. -/
def rowsLVDRV : List RegRow :=
  [⟨0x40, 4, 1, 0x0, 0x0, 0xF, 0x0, 0x0, 0x0, false, .none_⟩, /- CFG -/
  ⟨0x44, 4, 1, 0x0, 0x0, 0x0, 0x0, 0x0, 0x0, false, .none_⟩ /- STAT -/]

/-- The registers of ADC. -/
def rowsADC : List RegRow :=
  [⟨0x40, 4, 1, 0x0, 0xFF80000F, 0x0, 0x0, 0x0, 0x0, false, .none_⟩, /- SEQCFG -/
  ⟨0x44, 4, 1, 0x0, 0x0, 0x0, 0x0, 0x0, 0x0, true, .none_⟩, /- SEQSTART -/
  ⟨0x48, 4, 1, 0x0, 0x0, 0x0, 0x0, 0x0, 0x0, false, .none_⟩, /- SEQSTAT -/
  ⟨0x80, 4, 16, 0x40000, 0xFF003F, 0x0, 0x0, 0x0, 0x0, false, .adcslot⟩, /- SLOT -/
  ⟨0xC0, 4, 16, 0x0, 0x0, 0x0, 0x0, 0x0, 0x0, false, .none_⟩ /- RES -/]

/-- The registers of SDM. -/
def rowsSDM : List RegRow :=
  [⟨0x40, 4, 1, 0x20, 0xFF3D01FF, 0x0, 0x0, 0x0, 0x0, false, .sdmcfg⟩, /- CFG -/
  ⟨0x44, 4, 1, 0x0, 0xFFF, 0x0, 0x0, 0x0, 0x0, false, .none_⟩, /- DELAY -/
  ⟨0x48, 4, 1, 0x0, 0xBF3F3F00, 0x0, 0x0, 0x0, 0x0, false, .scd⟩, /- SCD -/
  ⟨0x4C, 4, 1, 0x0, 0xFFFF, 0x0, 0x0, 0x0, 0x0, false, .none_⟩, /- SCDROUTE -/
  ⟨0x50, 4, 1, 0x0, 0x0, 0x0, 0x0, 0x0, 0x0, false, .none_⟩, /- RES -/
  ⟨0x54, 4, 1, 0x0, 0x0, 0x0, 0x0, 0x0, 0x0, false, .none_⟩, /- RESTL -/
  ⟨0x58, 4, 1, 0x0, 0x0, 0x0, 0x0, 0x0, 0x0, false, .none_⟩, /- STAT -/
  ⟨0x60, 4, 1, 0x1E, 0x8000003F, 0x0, 0x0, 0x0, 0x0, false, .mclk⟩ /- MCLKCFG -/]

/-- The registers of CMPB. -/
def rowsCMPB : List RegRow :=
  [⟨0x40, 32, 4, 0x0, 0x3F3D, 0x0, 0x0, 0x0, 0x0, false, .cmpcfg⟩, /- CFG -/
  ⟨0x44, 32, 4, 0x3FF0000, 0x3FF03FF, 0x0, 0x0, 0x0, 0x0, true, .none_⟩, /- THR -/
  ⟨0x48, 32, 4, 0x0, 0x3F00FF, 0x0, 0x0, 0x0, 0x0, false, .none_⟩, /- HYS -/
  ⟨0x4C, 32, 4, 0x0, 0xFFFF, 0x0, 0x0, 0x0, 0x0, false, .none_⟩, /- BLK -/
  ⟨0x50, 32, 4, 0x0, 0xFFFF, 0x0, 0x0, 0x0, 0x0, false, .none_⟩, /- ROUTE -/
  ⟨0x54, 32, 4, 0x0, 0x0, 0x0, 0x0, 0x0, 0x0, true, .none_⟩, /- STAT -/
  ⟨0x58, 32, 4, 0x0, 0x0, 0x0, 0x0, 0x0, 0x0, true, .none_⟩ /- CLR -/]

/-- The registers of HVS. -/
def rowsHVS : List RegRow :=
  [⟨0x40, 4, 1, 0x0, 0x7F, 0x0, 0x0, 0x0, 0x0, false, .none_⟩, /- CHEN -/
  ⟨0x44, 4, 1, 0x0, 0x0, 0x0, 0x0, 0x0, 0x0, false, .none_⟩, /- STAT -/
  ⟨0x80, 8, 7, 0x0, 0x0, 0x0, 0x0, 0x0, 0x0, false, .none_⟩, /- GAIN -/
  ⟨0x84, 8, 7, 0x0, 0x0, 0x0, 0x0, 0x0, 0x0, false, .none_⟩ /- OFF -/]

/-- The registers of HK. -/
def rowsHK : List RegRow :=
  [⟨0x40, 4, 1, 0x140A, 0xFFFF, 0x0, 0x0, 0x0, 0x0, false, .rcfg⟩, /- RCFG -/
  ⟨0x44, 4, 1, 0x0, 0x0, 0x0, 0x0, 0x0, 0x0, false, .none_⟩, /- RSTAT -/
  ⟨0x80, 4, 44, 0x0, 0x0, 0x0, 0x0, 0x0, 0x0, false, .none_⟩, /- TEMP -/
  ⟨0x140, 4, 8, 0x0, 0x0, 0x0, 0x0, 0x0, 0x0, false, .none_⟩, /- NTC -/
  ⟨0x180, 4, 12, 0x0, 0x0, 0x0, 0x0, 0x0, 0x0, false, .none_⟩ /- SUP -/]

/-- The registers of TWL. -/
def rowsTWL : List RegRow :=
  [⟨0x40, 4, 1, 0x12001400, 0x0, 0xFFFF3F1D, 0x0, 0x0, 0x0, false, .twlcfg⟩, /- CFG -/
  ⟨0x44, 4, 1, 0x1F4023C, 0x0, 0xFFF03FF, 0x0, 0x0, 0x0, false, .wheel⟩, /- WHEEL -/
  ⟨0x48, 4, 1, 0x0, 0xFFFFFFFF, 0x0, 0x0, 0x0, 0x0, false, .none_⟩, /- EOFS -/
  ⟨0x4C, 4, 1, 0x64, 0x3FF, 0x0, 0x0, 0x0, 0x0, false, .tstill⟩, /- TSTILL -/
  ⟨0x50, 4, 1, 0x0, 0x1, 0x0, 0x0, 0x0, 0x0, true, .none_⟩, /- CTRL -/
  ⟨0x54, 4, 1, 0x0, 0x0, 0x0, 0x0, 0x0, 0x0, false, .none_⟩, /- STAT -/
  ⟨0x58, 4, 1, 0x0, 0x0, 0x0, 0x0, 0x0, 0x0, false, .none_⟩, /- POS -/
  ⟨0x5C, 4, 1, 0x0, 0x0, 0x0, 0x0, 0x0, 0x0, false, .none_⟩, /- ANGLE -/
  ⟨0x60, 4, 1, 0x0, 0x0, 0x0, 0x0, 0x0, 0x0, false, .none_⟩, /- SPEED -/
  ⟨0x64, 4, 1, 0x0, 0x0, 0x0, 0x0, 0x0, 0x0, false, .none_⟩, /- EDGETL -/
  ⟨0x68, 4, 1, 0x0, 0x0, 0x0, 0x0, 0x0, 0x0, false, .none_⟩, /- COUNT -/
  ⟨0x6C, 4, 1, 0x0, 0x0, 0x0, 0x0, 0x0, 0x0, false, .none_⟩, /- ERRCNT -/
  ⟨0x80, 4, 16, 0x0, 0xF800FFFF, 0x0, 0x0, 0x0, 0x0, true, .twlcmp⟩, /- CMP -/
  ⟨0xC0, 4, 1, 0x0, 0x0, 0x0, 0x0, 0x0, 0xFFFF, true, .none_⟩ /- CMPFIRED -/]

/-- The registers of HALL. -/
def rowsHALL : List RegRow :=
  [⟨0x40, 16, 3, 0x1400, 0x3F03, 0x0, 0x0, 0x0, 0x0, false, .none_⟩, /- CFG -/
  ⟨0x44, 16, 3, 0x0, 0x0, 0x0, 0x0, 0x0, 0x0, true, .none_⟩, /- STAT -/
  ⟨0x48, 16, 3, 0x0, 0x0, 0x0, 0x0, 0x0, 0x0, true, .none_⟩, /- TIME -/
  ⟨0x4C, 16, 3, 0x0, 0x0, 0x0, 0x0, 0x0, 0x0, true, .none_⟩ /- PERS -/]

/-- The registers of ENC. -/
def rowsENC : List RegRow :=
  [⟨0x40, 16, 2, 0x0, 0xFFF001F, 0x0, 0x0, 0x0, 0x0, false, .none_⟩, /- CFG -/
  ⟨0x44, 16, 2, 0x0, 0x0, 0x0, 0x0, 0x0, 0x0, true, .none_⟩ /- STAT -/]

/-- The registers of EFR. -/
def rowsEFR : List RegRow :=
  [⟨0x40, 4, 1, 0x328100, 0x0, 0x1FFFFDFF, 0x0, 0x0, 0x0, false, .efrcfg⟩, /- CFG -/
  ⟨0x44, 4, 1, 0x927C0, 0x0, 0xFFFFFF, 0x0, 0x0, 0x0, false, .efrper⟩, /- PERIOD -/
  ⟨0x48, 4, 1, 0x0, 0x3, 0x0, 0x0, 0x0, 0x0, true, .none_⟩, /- CTRL -/
  ⟨0x4C, 4, 1, 0x0, 0x0, 0x0, 0x0, 0x0, 0x0, false, .none_⟩, /- STAT -/
  ⟨0x50, 4, 1, 0x0, 0x0, 0x0, 0x0, 0x0, 0x0, false, .none_⟩, /- BRK -/
  ⟨0x54, 4, 1, 0x0, 0x0, 0x0, 0x0, 0x0, 0x0, false, .none_⟩, /- DMAX -/
  ⟨0x58, 4, 1, 0x0, 0x0, 0x0, 0x0, 0x0, 0x0, false, .none_⟩, /- ERRCNT -/
  ⟨0x5C, 4, 1, 0x0, 0x0, 0x0, 0x0, 0x0, 0x0, false, .none_⟩, /- SSTAT -/
  ⟨0x60, 4, 1, 0x20000000, 0x0, 0xFFFFFFFF, 0x0, 0x0, 0x0, false, .none_⟩, /- DBASE -/
  ⟨0x64, 4, 1, 0x20000000, 0x0, 0xFFFFFFFF, 0x0, 0x0, 0x0, false, .none_⟩, /- TQBASE -/
  ⟨0x68, 4, 1, 0xC800FF, 0x0, 0xFFFF00FF, 0x0, 0x0, 0x0, false, .tqcfg⟩, /- TQCFG -/
  ⟨0x6C, 4, 1, 0x0, 0x0, 0x0, 0x0, 0x0, 0x0, false, .none_⟩, /- TQHEAD -/
  ⟨0x70, 4, 1, 0x0, 0xFF, 0x0, 0x0, 0x0, 0x0, true, .none_⟩, /- TQTAIL -/
  ⟨0x74, 4, 1, 0x0, 0x0, 0x0, 0x0, 0x0, 0x0, false, .none_⟩, /- TAGS -/
  ⟨0x400, 4, 256, 0x0, 0x0, 0x3F, 0x0, 0x0, 0x0, false, .nt⟩, /- NT -/
  ⟨0x800, 4, 256, 0x0, 0x0, 0x0, 0x0, 0x0, 0x0, false, .none_⟩ /- HOP -/]

/-- The registers of ZCOR. -/
def rowsZCOR : List RegRow :=
  [⟨0x100, 256, 4, 0xC000000, 0x0, 0x5FFF03FF, 0x0, 0x0, 0x0, false, .zcfg⟩, /- ZCFG -/
  ⟨0x104, 256, 4, 0x0, 0x0, 0x0, 0x0, 0x0, 0x0, true, .none_⟩, /- ZCTRL -/
  ⟨0x108, 256, 4, 0x20000000, 0xFFFFFFFF, 0x0, 0x0, 0x0, 0x0, false, .none_⟩, /- ZDST -/
  ⟨0x10C, 256, 4, 0x0, 0x0, 0x0, 0x0, 0x0, 0x0, false, .none_⟩, /- ZSTAT -/
  ⟨0x110, 256, 4, 0x0, 0x0, 0x0, 0x0, 0x0, 0x0, false, .none_⟩, /- ZN -/
  ⟨0x120, 256, 4, 0x1, 0xFFFF, 0x0, 0x0, 0x0, 0x0, true, .zbin⟩, /- BIN0 -/
  ⟨0x124, 256, 4, 0x1, 0xFFFF, 0x0, 0x0, 0x0, 0x0, true, .zbin⟩, /- BIN1 -/
  ⟨0x128, 256, 4, 0x1, 0xFFFF, 0x0, 0x0, 0x0, 0x0, true, .zbin⟩, /- BIN2 -/
  ⟨0x12C, 256, 4, 0x1, 0xFFFF, 0x0, 0x0, 0x0, 0x0, true, .zbin⟩, /- BIN3 -/
  ⟨0x130, 256, 4, 0x1, 0xFFFF, 0x0, 0x0, 0x0, 0x0, true, .zbin⟩, /- BIN4 -/
  ⟨0x134, 256, 4, 0x1, 0xFFFF, 0x0, 0x0, 0x0, 0x0, true, .zbin⟩, /- BIN5 -/
  ⟨0x138, 256, 4, 0x1, 0xFFFF, 0x0, 0x0, 0x0, 0x0, true, .zbin⟩, /- BIN6 -/
  ⟨0x13C, 256, 4, 0x1, 0xFFFF, 0x0, 0x0, 0x0, 0x0, true, .zbin⟩, /- BIN7 -/
  ⟨0x140, 256, 4, 0x0, 0x0, 0x0, 0x0, 0x0, 0x0, false, .none_⟩, /- IIL0 -/
  ⟨0x144, 256, 4, 0x0, 0x0, 0x0, 0x0, 0x0, 0x0, false, .none_⟩, /- IIH0 -/
  ⟨0x148, 256, 4, 0x0, 0x0, 0x0, 0x0, 0x0, 0x0, false, .none_⟩, /- IQL0 -/
  ⟨0x14C, 256, 4, 0x0, 0x0, 0x0, 0x0, 0x0, 0x0, false, .none_⟩, /- IQH0 -/
  ⟨0x150, 256, 4, 0x0, 0x0, 0x0, 0x0, 0x0, 0x0, false, .none_⟩, /- IIL1 -/
  ⟨0x154, 256, 4, 0x0, 0x0, 0x0, 0x0, 0x0, 0x0, false, .none_⟩, /- IIH1 -/
  ⟨0x158, 256, 4, 0x0, 0x0, 0x0, 0x0, 0x0, 0x0, false, .none_⟩ /- IQL1 -/] ++
  [⟨0x15C, 256, 4, 0x0, 0x0, 0x0, 0x0, 0x0, 0x0, false, .none_⟩, /- IQH1 -/
  ⟨0x160, 256, 4, 0x0, 0x0, 0x0, 0x0, 0x0, 0x0, false, .none_⟩, /- IIL2 -/
  ⟨0x164, 256, 4, 0x0, 0x0, 0x0, 0x0, 0x0, 0x0, false, .none_⟩, /- IIH2 -/
  ⟨0x168, 256, 4, 0x0, 0x0, 0x0, 0x0, 0x0, 0x0, false, .none_⟩, /- IQL2 -/
  ⟨0x16C, 256, 4, 0x0, 0x0, 0x0, 0x0, 0x0, 0x0, false, .none_⟩, /- IQH2 -/
  ⟨0x170, 256, 4, 0x0, 0x0, 0x0, 0x0, 0x0, 0x0, false, .none_⟩, /- IIL3 -/
  ⟨0x174, 256, 4, 0x0, 0x0, 0x0, 0x0, 0x0, 0x0, false, .none_⟩, /- IIH3 -/
  ⟨0x178, 256, 4, 0x0, 0x0, 0x0, 0x0, 0x0, 0x0, false, .none_⟩, /- IQL3 -/
  ⟨0x17C, 256, 4, 0x0, 0x0, 0x0, 0x0, 0x0, 0x0, false, .none_⟩, /- IQH3 -/
  ⟨0x180, 256, 4, 0x0, 0x0, 0x0, 0x0, 0x0, 0x0, false, .none_⟩, /- IIL4 -/
  ⟨0x184, 256, 4, 0x0, 0x0, 0x0, 0x0, 0x0, 0x0, false, .none_⟩, /- IIH4 -/
  ⟨0x188, 256, 4, 0x0, 0x0, 0x0, 0x0, 0x0, 0x0, false, .none_⟩, /- IQL4 -/
  ⟨0x18C, 256, 4, 0x0, 0x0, 0x0, 0x0, 0x0, 0x0, false, .none_⟩, /- IQH4 -/
  ⟨0x190, 256, 4, 0x0, 0x0, 0x0, 0x0, 0x0, 0x0, false, .none_⟩, /- IIL5 -/
  ⟨0x194, 256, 4, 0x0, 0x0, 0x0, 0x0, 0x0, 0x0, false, .none_⟩, /- IIH5 -/
  ⟨0x198, 256, 4, 0x0, 0x0, 0x0, 0x0, 0x0, 0x0, false, .none_⟩, /- IQL5 -/
  ⟨0x19C, 256, 4, 0x0, 0x0, 0x0, 0x0, 0x0, 0x0, false, .none_⟩, /- IQH5 -/
  ⟨0x1A0, 256, 4, 0x0, 0x0, 0x0, 0x0, 0x0, 0x0, false, .none_⟩, /- IIL6 -/
  ⟨0x1A4, 256, 4, 0x0, 0x0, 0x0, 0x0, 0x0, 0x0, false, .none_⟩, /- IIH6 -/
  ⟨0x1A8, 256, 4, 0x0, 0x0, 0x0, 0x0, 0x0, 0x0, false, .none_⟩ /- IQL6 -/] ++
  [⟨0x1AC, 256, 4, 0x0, 0x0, 0x0, 0x0, 0x0, 0x0, false, .none_⟩, /- IQH6 -/
  ⟨0x1B0, 256, 4, 0x0, 0x0, 0x0, 0x0, 0x0, 0x0, false, .none_⟩, /- IIL7 -/
  ⟨0x1B4, 256, 4, 0x0, 0x0, 0x0, 0x0, 0x0, 0x0, false, .none_⟩, /- IIH7 -/
  ⟨0x1B8, 256, 4, 0x0, 0x0, 0x0, 0x0, 0x0, 0x0, false, .none_⟩, /- IQL7 -/
  ⟨0x1BC, 256, 4, 0x0, 0x0, 0x0, 0x0, 0x0, 0x0, false, .none_⟩, /- IQH7 -/
  ⟨0x800, 4, 512, 0x0, 0x0, 0x0, 0x0, 0x0, 0x0, false, .none_⟩ /- MISS -/]

/-- The registers of DCDC. -/
def rowsDCDC : List RegRow :=
  [⟨0x40, 4, 1, 0x40F00065, 0x0, 0xF7F31FFF, 0x0, 0x0, 0x0, false, .dcdccfg⟩, /- CFG -/
  ⟨0x44, 4, 1, 0x0, 0x0, 0x3FF, 0x0, 0x0, 0x0, false, .none_⟩, /- VSEL -/
  ⟨0x48, 4, 1, 0x0, 0x0, 0x3FF03FF, 0x0, 0x0, 0x0, false, .none_⟩, /- ISEL12 -/
  ⟨0x4C, 4, 1, 0x0, 0x0, 0x3FF03FF, 0x0, 0x0, 0x0, false, .none_⟩, /- ISEL34 -/
  ⟨0x50, 4, 1, 0x7D00, 0x0, 0xFFFF, 0x0, 0x0, 0x0, false, .none_⟩, /- VFS -/
  ⟨0x54, 4, 1, 0x249F0, 0x3FFFF, 0x0, 0x0, 0x0, 0x0, false, .fsw⟩, /- FSW -/
  ⟨0x58, 4, 1, 0x0, 0x3FF, 0x0, 0x0, 0x0, 0x0, false, .none_⟩, /- SYNCDLY -/
  ⟨0x5C, 4, 1, 0x6B6C, 0xFFFF, 0x0, 0x0, 0x0, 0x0, true, .vset⟩, /- VSET -/
  ⟨0x60, 4, 1, 0x3E8, 0xFFFF, 0x0, 0x0, 0x0, 0x0, false, .nz16⟩, /- SLEW -/
  ⟨0x64, 4, 1, 0x0, 0xFFFFFFFF, 0x0, 0x0, 0x0, 0x0, false, .none_⟩, /- IPH -/
  ⟨0x68, 4, 1, 0xDA9A, 0xFFFF, 0x0, 0x0, 0x0, 0x0, false, .none_⟩, /- SHED -/
  ⟨0x6C, 4, 1, 0x100, 0xFFFF, 0x0, 0x0, 0x0, 0x0, false, .none_⟩, /- KBAL -/
  ⟨0x70, 4, 1, 0x3D70A3D7, 0xFFFFFFFF, 0x0, 0x0, 0x0, 0x0, false, .none_⟩, /- DMAX -/
  ⟨0x74, 4, 1, 0x0, 0x0, 0x0, 0x0, 0x0, 0x0, true, .none_⟩, /- CMD -/
  ⟨0x78, 4, 1, 0x0, 0xFFFFFFFF, 0x0, 0x0, 0x0, 0x0, true, .none_⟩, /- DUTY -/
  ⟨0x7C, 4, 1, 0x0, 0x0, 0x0, 0x0, 0x0, 0x0, false, .none_⟩, /- STAT -/
  ⟨0x80, 4, 1, 0x0, 0x0, 0x0, 0x0, 0x0, 0x0, false, .none_⟩, /- VREF -/
  ⟨0x84, 4, 1, 0x0, 0x0, 0x0, 0x0, 0x0, 0x0, false, .none_⟩, /- FNOW -/
  ⟨0x88, 4, 4, 0x0, 0x0, 0x0, 0x0, 0x0, 0x0, false, .none_⟩, /- TRIM -/
  ⟨0x98, 4, 1, 0x0, 0x0, 0x0, 0x0, 0x0, 0x0, false, .none_⟩ /- CAUSE -/]

/-- The registers of OBC. -/
def rowsOBC : List RegRow :=
  [⟨0x40, 4, 1, 0xF001918, 0x0, 0x1F1F1F1F, 0x0, 0x0, 0x0, false, .none_⟩, /- CFG -/
  ⟨0x44, 4, 1, 0xCF0A06, 0x0, 0x1FFFFFF, 0x0, 0x0, 0x0, false, .search⟩, /- SEARCH -/
  ⟨0x48, 4, 1, 0x28A0320, 0x0, 0x3FF03FF, 0x0, 0x0, 0x0, false, .none_⟩, /- BUS -/
  ⟨0x4C, 4, 1, 0x6410, 0x0, 0xFFFFFF, 0x0, 0x0, 0x0, false, .none_⟩, /- DEFLIM -/
  ⟨0x50, 8, 5, 0x0, 0x0, 0xFFFFFFFF, 0x0, 0x0, 0x0, false, .none_⟩, /- ZIC -/
  ⟨0x54, 8, 5, 0x0, 0x0, 0xFFFFFFFF, 0x0, 0x0, 0x0, false, .none_⟩, /- ZV -/
  ⟨0x78, 4, 1, 0xFD00C4, 0x0, 0x1FF01FF, 0x0, 0x0, 0x0, false, .none_⟩, /- EXPV -/
  ⟨0x7C, 4, 1, 0x141E128E, 0x0, 0xFFFFFFFF, 0x0, 0x0, 0x0, false, .none_⟩, /- EXPF -/
  ⟨0x80, 4, 1, 0x3C0A, 0x0, 0xFFFF, 0x0, 0x0, 0x0, false, .expt⟩, /- EXPT -/
  ⟨0x84, 4, 1, 0x0, 0x0, 0xFFFF00FF, 0x0, 0x0, 0x0, false, .none_⟩, /- EXPLIM -/
  ⟨0x88, 4, 1, 0x10, 0xFF, 0x0, 0x0, 0x0, 0x0, true, .none_⟩, /- IACMAX -/
  ⟨0x8C, 4, 1, 0x0, 0xFFFF, 0x0, 0x0, 0x0, 0x0, true, .none_⟩, /- IBATMAX -/
  ⟨0x90, 4, 1, 0x0, 0xFF, 0x0, 0x0, 0x0, 0x0, true, .none_⟩, /- HBEAT -/
  ⟨0x94, 4, 1, 0x0, 0x0, 0x0, 0x0, 0x0, 0x0, true, .none_⟩, /- CMD -/
  ⟨0x98, 4, 1, 0x70, 0x0, 0x0, 0x0, 0x0, 0x0, false, .none_⟩, /- STAT -/
  ⟨0x9C, 4, 1, 0x0, 0x0, 0x0, 0x0, 0x0, 0x0, false, .none_⟩, /- ISRCH -/
  ⟨0xA0, 4, 1, 0x0, 0x0, 0x0, 0x0, 0x0, 0x0, false, .none_⟩, /- LINE -/
  ⟨0xA4, 4, 1, 0x0, 0x0, 0x0, 0x0, 0x0, 0x0, false, .none_⟩ /- CAUSE -/]

/-- The registers of PILOT. -/
def rowsPILOT : List RegRow :=
  [⟨0x40, 4, 1, 0x5, 0x0, 0xFF, 0x0, 0x0, 0x0, false, .pfilt⟩, /- CFG -/
  ⟨0x44, 4, 1, 0x0, 0x1, 0x0, 0x0, 0x0, 0x0, true, .none_⟩, /- CTRL -/
  ⟨0x48, 4, 1, 0x0, 0x0, 0x0, 0x0, 0x0, 0x0, false, .none_⟩, /- STAT -/
  ⟨0x4C, 4, 1, 0x0, 0x0, 0x0, 0x0, 0x0, 0x0, false, .none_⟩, /- CPMEAS -/
  ⟨0x50, 4, 1, 0x0, 0x0, 0x0, 0x0, 0x0, 0x0, false, .none_⟩, /- ILIM -/
  ⟨0x54, 4, 1, 0x0, 0xFFF, 0x0, 0x0, 0x0, 0x0, true, .none_⟩, /- DIGLIM -/
  ⟨0x58, 4, 1, 0x88, 0xFF, 0x0, 0x0, 0x0, 0x0, true, .none_⟩, /- LAMP -/
  ⟨0x5C, 4, 1, 0x0, 0x0, 0x0, 0x0, 0x0, 0x0, false, .none_⟩ /- LSTAT -/]

/-- The registers of CTR. -/
def rowsCTR : List RegRow :=
  [⟨0x40, 4, 1, 0x0, 0x0, 0xFFFFFFFF, 0x0, 0x0, 0x0, false, .role⟩, /- ROLE -/
  ⟨0x44, 4, 1, 0xA281E, 0x0, 0xFFFFFF, 0x0, 0x0, 0x0, false, .eco⟩, /- ECO -/
  ⟨0x48, 4, 1, 0x32145F14, 0x0, 0xFFFFFFFF, 0x0, 0x0, 0x0, false, .precfg⟩, /- PRECFG -/
  ⟨0x4C, 4, 1, 0x32003C, 0x0, 0xFFFFFF, 0x0, 0x0, 0x0, false, .none_⟩, /- WELD -/
  ⟨0x50, 4, 1, 0x1E, 0x0, 0xFFFF, 0x0, 0x0, 0x0, false, .none_⟩, /- COOL -/
  ⟨0x54, 4, 1, 0x0, 0x0, 0x0, 0x0, 0x0, 0x0, true, .none_⟩, /- CMD -/
  ⟨0x58, 4, 1, 0x0, 0xFF, 0x0, 0x0, 0x0, 0x0, true, .none_⟩, /- MAN -/
  ⟨0x5C, 4, 1, 0x0, 0x0, 0x0, 0x0, 0x0, 0x0, false, .none_⟩ /- STAT -/]

/-- The registers of ACT. -/
def rowsACT : List RegRow :=
  [⟨0x40, 4, 1, 0x100032, 0x0, 0xFFF701FF, 0x0, 0x0, 0x0, false, .actcfg⟩, /- CFG -/
  ⟨0x44, 4, 1, 0x0, 0xFFFF, 0x0, 0x0, 0x0, 0x0, true, .none_⟩, /- SPD -/
  ⟨0x48, 4, 1, 0x64, 0xFFFF, 0x0, 0x0, 0x0, 0x0, false, .nz16⟩, /- ACCEL -/
  ⟨0x4C, 4, 1, 0x0, 0xFFFFFFFF, 0x0, 0x0, 0x0, 0x0, false, .none_⟩, /- GAIN -/
  ⟨0x50, 4, 1, 0x7FFFFFFF, 0xFFFFFFFF, 0x0, 0x0, 0x0, 0x0, false, .none_⟩, /- DMAX -/
  ⟨0x54, 4, 1, 0x1E, 0x1F, 0x0, 0x0, 0x0, 0x0, false, .actilim⟩, /- ILIM -/
  ⟨0x58, 4, 1, 0xC8, 0xFFFF, 0x0, 0x0, 0x0, 0x0, false, .none_⟩, /- NCOAST -/
  ⟨0x5C, 4, 1, 0x0, 0x8000FFFF, 0x0, 0x0, 0x0, 0x0, true, .none_⟩, /- STOPPOS -/
  ⟨0x60, 4, 1, 0x0, 0x0, 0x0, 0x0, 0x0, 0x0, true, .none_⟩, /- CMD -/
  ⟨0x64, 4, 1, 0x0, 0x0, 0x0, 0x0, 0x0, 0x0, false, .none_⟩, /- STAT -/
  ⟨0x68, 4, 1, 0x0, 0xFFFF, 0x0, 0x0, 0x0, 0x0, true, .none_⟩, /- POS -/
  ⟨0x6C, 4, 1, 0x0, 0x0, 0x0, 0x0, 0x0, 0x0, false, .none_⟩ /- DUTY -/]

/-- The registers of CAN. -/
def rowsCAN : List RegRow :=
  [⟨0x40, 4, 1, 0x0, 0x0, 0xFFFFFF7F, 0x0, 0x0, 0x0, false, .none_⟩, /- NBT -/
  ⟨0x44, 4, 1, 0x0, 0x0, 0xFFFFFF7F, 0x0, 0x0, 0x0, false, .none_⟩, /- DBT -/
  ⟨0x48, 4, 1, 0x0, 0x0, 0xE0000000, 0x0, 0x0, 0x0, false, .none_⟩, /- CFG -/
  ⟨0x4C, 4, 2, 0x20000000, 0x0, 0xFFFFFFF0, 0x0, 0x0, 0x0, false, .none_⟩, /- RXBASE -/
  ⟨0x54, 4, 1, 0x20000000, 0x0, 0xFFFFFFF0, 0x0, 0x0, 0x0, false, .none_⟩, /- TXBASE -/
  ⟨0x58, 4, 1, 0x0, 0x0, 0xFFFFFF, 0x0, 0x0, 0x0, false, .none_⟩, /- RINGLEN -/
  ⟨0x5C, 4, 1, 0x0, 0xFF, 0x0, 0x0, 0x0, 0x0, true, .none_⟩, /- TXTAIL -/
  ⟨0x60, 4, 1, 0x0, 0x0, 0x0, 0x0, 0x0, 0x0, false, .none_⟩, /- ERRC -/
  ⟨0x64, 4, 1, 0x0, 0x9FFFFFFF, 0x0, 0x0, 0x0, 0x0, false, .none_⟩, /- WUF -/
  ⟨0x68, 4, 1, 0x0, 0x1FFFFFFF, 0x0, 0x0, 0x0, 0x0, false, .none_⟩, /- WUFMASK -/
  ⟨0x6C, 4, 2, 0x0, 0xFFFFFFFF, 0x0, 0x0, 0x0, 0x0, false, .none_⟩, /- WUFDATA -/
  ⟨0x74, 4, 2, 0x0, 0x0, 0x0, 0x0, 0x0, 0x0, false, .none_⟩, /- RXHEAD -/
  ⟨0x7C, 4, 1, 0x0, 0x0, 0x0, 0x0, 0x0, 0x0, false, .none_⟩, /- TXHEAD -/
  ⟨0x100, 8, 32, 0x0, 0x0, 0xFFFFFFFF, 0x0, 0x0, 0x0, false, .none_⟩, /- FLT -/
  ⟨0x104, 8, 32, 0x0, 0x0, 0x1FFFFFFF, 0x0, 0x0, 0x0, false, .none_⟩ /- FMASK -/]

/-- The registers of ETH. -/
def rowsETH : List RegRow :=
  [⟨0x40, 4, 2, 0x20000000, 0x0, 0xFFFFFFF0, 0x0, 0x0, 0x0, false, .none_⟩, /- RXBASE -/
  ⟨0x48, 4, 2, 0x20000000, 0x0, 0xFFFFFFF0, 0x0, 0x0, 0x0, false, .none_⟩, /- TXBASE -/
  ⟨0x50, 4, 1, 0x0, 0x0, 0xFFFFFFFF, 0x0, 0x0, 0x0, false, .none_⟩, /- RXLEN -/
  ⟨0x54, 4, 1, 0x0, 0x0, 0xFFFFFFFF, 0x0, 0x0, 0x0, false, .none_⟩, /- TXLEN -/
  ⟨0x58, 4, 2, 0x0, 0xFFFF, 0x0, 0x0, 0x0, 0x0, true, .none_⟩, /- TXTAIL -/
  ⟨0x60, 4, 2, 0x0, 0x0, 0x0, 0x0, 0x0, 0x0, false, .none_⟩, /- RXHEAD -/
  ⟨0x68, 4, 2, 0x0, 0x0, 0x0, 0x0, 0x0, 0x0, false, .none_⟩, /- TXHEAD -/
  ⟨0x70, 4, 1, 0x0, 0x0, 0x0, 0x0, 0x0, 0x0, false, .none_⟩, /- ERRC -/
  ⟨0x80, 4, 1, 0x0, 0x0, 0xFFFFFFFF, 0x0, 0x0, 0x0, false, .none_⟩, /- MACL -/
  ⟨0x84, 4, 1, 0x0, 0x0, 0xFFFF, 0x0, 0x0, 0x0, false, .none_⟩, /- MACH -/
  ⟨0x88, 4, 1, 0x0, 0x0, 0x1, 0x0, 0x0, 0x0, false, .none_⟩, /- PHYCFG -/
  ⟨0x90, 4, 1, 0x0, 0xFFFFFFFF, 0x0, 0x0, 0x0, 0x0, true, .none_⟩, /- NTRATE -/
  ⟨0x94, 4, 1, 0x0, 0xFFFFFFFF, 0x0, 0x0, 0x0, 0x0, true, .none_⟩, /- NTOFSL -/
  ⟨0x98, 4, 1, 0x0, 0xFFFFFFFF, 0x0, 0x0, 0x0, 0x0, true, .none_⟩, /- NTOFSH -/
  ⟨0x9C, 4, 1, 0x0, 0x0, 0x0, 0x0, 0x0, 0x0, false, .none_⟩, /- NTNOWL -/
  ⟨0xA0, 4, 1, 0x0, 0x0, 0x0, 0x0, 0x0, 0x0, false, .none_⟩, /- NTNOWH -/
  ⟨0x100, 12, 16, 0x0, 0x0, 0xFFFFFFFF, 0x0, 0x0, 0x0, false, .none_⟩, /- FMACL -/
  ⟨0x104, 12, 16, 0x0, 0x0, 0xFFFFFFFF, 0x0, 0x0, 0x0, false, .none_⟩, /- FTYPE -/
  ⟨0x108, 12, 16, 0x0, 0x0, 0xF, 0x0, 0x0, 0x0, false, .none_⟩ /- FCTL -/]

/-- The registers of SHRD. -/
def rowsSHRD : List RegRow :=
  [⟨0x40, 4, 1, 0x0, 0x0, 0x0, 0x0, 0x0, 0x0, false, .none_⟩, /- STATE -/
  ⟨0x44, 4, 1, 0x0, 0x0, 0x0, 0x0, 0x0, 0x0, false, .none_⟩, /- GSTAT -/
  ⟨0x48, 4, 6, 0x0, 0x0, 0x0, 0x0, 0x0, 0x0, false, .none_⟩, /- GCAUSE -/
  ⟨0x60, 4, 1, 0x0, 0x0, 0x0, 0x0, 0x0, 0x0, false, .none_⟩, /- SINSTAT -/
  ⟨0x64, 4, 1, 0x0, 0x0, 0x0, 0x0, 0x0, 0x0, false, .none_⟩, /- SPEED -/
  ⟨0x68, 4, 1, 0x0, 0x0, 0x0, 0x0, 0x0, 0x0, false, .none_⟩, /- XSTAT -/
  ⟨0x80, 4, 8, 0x3207, 0x0, 0x0, 0xFF3FFF3F, 0x0, 0x0, false, .sincfg⟩, /- SINCFG -/
  ⟨0xC0, 4, 2, 0x0, 0x0, 0x0, 0xFFFFFFF, 0x0, 0x0, false, .none_⟩, /- GCFG -/
  ⟨0xC8, 4, 1, 0x0, 0x0, 0x0, 0xFFFF, 0x0, 0x0, false, .none_⟩, /- SS1DEC -/
  ⟨0xCC, 4, 1, 0x64, 0x0, 0x0, 0xFFF, 0x0, 0x0, false, .ss1tmax⟩, /- SS1TMAX -/
  ⟨0xD0, 4, 1, 0x14, 0x0, 0x0, 0xFFFF, 0x0, 0x0, false, .none_⟩, /- NSTILL -/
  ⟨0xD4, 4, 1, 0x0, 0x0, 0x0, 0x7FFFF, 0x0, 0x0, false, .plkcfg⟩, /- PLKCFG -/
  ⟨0xD8, 4, 1, 0x0, 0x0, 0x0, 0x3F, 0x0, 0x0, false, .none_⟩, /- CMPSF4 -/
  ⟨0xDC, 4, 1, 0x0, 0x0, 0x0, 0xFFFFFFFF, 0x0, 0x0, false, .none_⟩, /- CMPMASK -/
  ⟨0xE0, 4, 1, 0x0, 0x0, 0x0, 0x3F, 0x0, 0x0, false, .none_⟩, /- CMPGRP -/
  ⟨0xE4, 4, 1, 0xC821, 0x0, 0x0, 0xFFFFF1, 0x0, 0x0, false, .shrdmisc⟩, /- MISC -/
  ⟨0x100, 4, 32, 0x7, 0x0, 0x0, 0xF, 0x0, 0x0, false, .ctxmap⟩, /- CTXMAP -/
  ⟨0x180, 4, 1, 0x3F00, 0x0, 0x0, 0x80033F3F, 0x0, 0x0, false, .none_⟩ /- TWX -/]

/-- The registers of MBX. -/
def rowsMBX : List RegRow :=
  [⟨0x40, 4, 1, 0x0, 0x0, 0x0, 0x0, 0x0, 0x0, false, .none_⟩, /- GSTAT -/
  ⟨0x44, 4, 1, 0x0, 0x0, 0x0, 0x0, 0x0, 0x0, false, .none_⟩, /- BOOT -/
  ⟨0x48, 4, 1, 0x0, 0x0, 0x0, 0x0, 0x0, 0x0, false, .none_⟩, /- IMGVER -/
  ⟨0x4C, 4, 1, 0x0, 0x0, 0x0, 0x0, 0x0, 0x0, false, .none_⟩, /- BBSEQ -/
  ⟨0x50, 4, 1, 0x0, 0x0, 0x0, 0x0, 0x0, 0x0, false, .none_⟩, /- BBLOST -/
  ⟨0x54, 4, 1, 0x0, 0x0, 0x0, 0x0, 0x0, 0x0, false, .none_⟩ /- AFAIL -/]

/-- The registers of TWIN. -/
def rowsTWIN : List RegRow :=
  [⟨0x40, 4, 1, 0x30, 0x0, 0xF3, 0x0, 0x0, 0x0, false, .none_⟩, /- CFG -/
  ⟨0x44, 4, 1, 0x0, 0x1, 0x0, 0x0, 0x0, 0x0, true, .none_⟩, /- CTRL -/
  ⟨0x48, 4, 1, 0x0, 0x0, 0x0, 0x0, 0x0, 0x0, false, .none_⟩, /- STAT -/
  ⟨0x4C, 4, 1, 0x0, 0x0, 0x0, 0x0, 0x0, 0x0, true, .none_⟩, /- RHAND -/
  ⟨0x50, 4, 1, 0x0, 0x0, 0x0, 0x0, 0x0, 0x0, true, .none_⟩, /- XREQ -/
  ⟨0x54, 4, 1, 0x0, 0x0, 0x0, 0x0, 0x0, 0x0, false, .none_⟩, /- TOFS -/
  ⟨0x58, 4, 1, 0x0, 0x0, 0x0, 0x0, 0x0, 0x0, false, .none_⟩ /- HBCNT -/]

/-- The register table of a block. -/
def rowsOf : Block → List RegRow
  | .sys => rowsSYS
  | .icx => rowsICX
  | .evr => rowsEVR
  | .tbu => rowsTBU
  | .pair => rowsPAIR
  | .trim => rowsTRIM
  | .tsch => rowsTSCH
  | .pwm => rowsPWM
  | .ggrp => rowsGGRP
  | .lvdrv => rowsLVDRV
  | .adc => rowsADC
  | .sdm => rowsSDM
  | .cmpb => rowsCMPB
  | .hvs => rowsHVS
  | .hk => rowsHK
  | .twl => rowsTWL
  | .hall => rowsHALL
  | .enc => rowsENC
  | .efr => rowsEFR
  | .zcor => rowsZCOR
  | .dcdc => rowsDCDC
  | .obc => rowsOBC
  | .pilot => rowsPILOT
  | .ctr => rowsCTR
  | .act => rowsACT
  | .can => rowsCAN
  | .eth => rowsETH
  | .shrd => rowsSHRD
  | .mbx => rowsMBX
  | .twin => rowsTWIN

end Sys2Proof.Machine
end

