-- ==== Sys2Proof/Machine/Adr.lean ====
section
/-! DEFINITION. Register addresses by the manual's names: byte offsets from 0x4000_0000 (R83 and each chapter's register table). -/

namespace Sys2Proof.Machine

/-- Page numbers of the page map (R83). -/
def Pg.SYS : Nat := 0x0
def Pg.ICX : Nat := 0x10
def Pg.EVR (n : Nat) : Nat := 0x11 + n
def Pg.TBU : Nat := 0x13
def Pg.PAIR (n : Nat) : Nat := 0x20 + n
def Pg.TRIM (n : Nat) : Nat := 0x40 + n
def Pg.TSCH : Nat := 0x44
def Pg.PWM (n : Nat) : Nat := 0x60 + n
def Pg.GGRP (n : Nat) : Nat := 0x80 + n
def Pg.LVDRV : Nat := 0x86
def Pg.ADC (n : Nat) : Nat := 0xA0 + n
def Pg.SDM (n : Nat) : Nat := 0xA8 + n
def Pg.CMPB (n : Nat) : Nat := 0xC0 + n
def Pg.HVS : Nat := 0xC8
def Pg.HK : Nat := 0xD0
def Pg.TWL (n : Nat) : Nat := 0xE0 + n
def Pg.HALL : Nat := 0xE4
def Pg.ENC : Nat := 0xE5
def Pg.EFR (n : Nat) : Nat := 0x100 + n
def Pg.ZCOR : Nat := 0x104
def Pg.DCDC : Nat := 0x120
def Pg.OBC : Nat := 0x121
def Pg.PILOT : Nat := 0x122
def Pg.CTR : Nat := 0x123
def Pg.ACT (n : Nat) : Nat := 0x124 + n
def Pg.CAN (n : Nat) : Nat := 0x140 + n
def Pg.ETH (n : Nat) : Nat := 0x144 + n
def Pg.SHRD : Nat := 0x160
def Pg.MBX : Nat := 0x161
def Pg.TWIN : Nat := 0x162

/-- PID of page number p (R68). -/
def Adr.PID (p : Nat) : Nat := p * 4096 + 0x0
/-- PCTRL of page number p (R68). -/
def Adr.PCTRL (p : Nat) : Nat := p * 4096 + 0x4
/-- PSTAT of page number p (R68). -/
def Adr.PSTAT (p : Nat) : Nat := p * 4096 + 0x8
/-- PEVT of page number p (R68). -/
def Adr.PEVT (p : Nat) : Nat := p * 4096 + 0xC
/-- PEVEN of page number p (R68). -/
def Adr.PEVEN (p : Nat) : Nat := p * 4096 + 0x10
/-- PFAULT of page number p (R68). -/
def Adr.PFAULT (p : Nat) : Nat := p * 4096 + 0x14
/-- POWNER of page number p (R68). -/
def Adr.POWNER (p : Nat) : Nat := p * 4096 + 0x18
/-- PKEY of page number p (R68). -/
def Adr.PKEY (p : Nat) : Nat := p * 4096 + 0x1C
/-- PCRC of page number p (R68). -/
def Adr.PCRC (p : Nat) : Nat := p * 4096 + 0x20

def Adr.SYS_PDSTAT : Nat := 0x40
def Adr.SYS_PDREQ : Nat := 0x44
def Adr.SYS_WAKEEN : Nat := 0x48
def Adr.SYS_WAKESRC : Nat := 0x4C
def Adr.SYS_SLEEPCTRL : Nat := 0x50
def Adr.SYS_RSTCAUSE : Nat := 0x54
def Adr.SYS_CLKSTAT : Nat := 0x58
def Adr.SYS_VSMON : Nat := 0x5C
def Adr.SYS_BOOTSTAT : Nat := 0x60
def Adr.SYS_WAKETMR : Nat := 0x64
def Adr.SYS_RTC : Nat := 0x68
def Adr.SYS_RETAIN (k : Nat) : Nat := 0x80 + k * 0x4
def Adr.ICX_CLASS : Nat := 0x10040
def Adr.ICX_LOCKSTAT : Nat := 0x10044
def Adr.ICX_TAGSTAT : Nat := 0x10048
def Adr.ICX_WAITLIM (k : Nat) : Nat := 0x10080 + k * 0x4
def Adr.ICX_TGTSTAT (k : Nat) : Nat := 0x100C0 + k * 0x4
def Adr.EVR_DTIMEL (n : Nat) : Nat := 0x11040 + n * 0x1000
def Adr.EVR_DTIMEH (n : Nat) : Nat := 0x11044 + n * 0x1000
def Adr.EVR_EPOCH (n : Nat) : Nat := 0x11048 + n * 0x1000
def Adr.EVR_EPOCHSUB (n : Nat) : Nat := 0x1104C + n * 0x1000
def Adr.EVR_TMRCTRL (n : Nat) : Nat := 0x11050 + n * 0x1000
def Adr.EVR_TMRPER (n : Nat) : Nat := 0x11054 + n * 0x1000
def Adr.EVR_IRQPEND (n : Nat) (k : Nat) : Nat := 0x11060 + n * 0x1000 + k * 0x4
def Adr.EVR_SPEND (n : Nat) (k : Nat) : Nat := 0x11080 + n * 0x1000 + k * 0x4
def Adr.EVR_ACCADDR (n : Nat) : Nat := 0x110C0 + n * 0x1000
def Adr.EVR_ACCINFO (n : Nat) : Nat := 0x110C4 + n * 0x1000
def Adr.EVR_CAPCTRL (n : Nat) (k : Nat) : Nat := 0x11100 + n * 0x1000 + k * 0x20
def Adr.EVR_CAPSTAT (n : Nat) (k : Nat) : Nat := 0x11104 + n * 0x1000 + k * 0x20
def Adr.EVR_CAPTL (n : Nat) (k : Nat) : Nat := 0x11108 + n * 0x1000 + k * 0x20
def Adr.EVR_CAPTH (n : Nat) (k : Nat) : Nat := 0x1110C + n * 0x1000 + k * 0x20
def Adr.EVR_CAPV (n : Nat) (k : Nat) : Nat := 0x11110 + n * 0x1000 + k * 0x20
def Adr.EVR_ROUTE (n : Nat) (k : Nat) : Nat := 0x11400 + n * 0x1000 + k * 0x4
def Adr.TBU_PERIOD : Nat := 0x13040
def Adr.TBU_BUDGET (k : Nat) : Nat := 0x13080 + k * 0x4
def Adr.TBU_USED (k : Nat) : Nat := 0x130C0 + k * 0x4
def Adr.TBU_ICXOVR : Nat := 0x13100
def Adr.TBU_TRIMOVR : Nat := 0x13104
def Adr.TBU_RINGOVR : Nat := 0x13108
def Adr.PAIR_STAT (n : Nat) : Nat := 0x20040 + n * 0x1000
def Adr.PAIR_CTRL (n : Nat) : Nat := 0x20044 + n * 0x1000
def Adr.PAIR_WINCFG (n : Nat) : Nat := 0x20048 + n * 0x1000
def Adr.PAIR_SYNC (n : Nat) : Nat := 0x2004C + n * 0x1000
def Adr.PAIR_SPLIT (n : Nat) : Nat := 0x20050 + n * 0x1000
def Adr.PAIR_SPLIT_ENTRY (n : Nat) : Nat := 0x20054 + n * 0x1000
def Adr.PAIR_FCAUSE (n : Nat) : Nat := 0x20058 + n * 0x1000
def Adr.PAIR_FWIN (n : Nat) : Nat := 0x2005C + n * 0x1000
def Adr.PAIR_SIGL (n : Nat) : Nat := 0x20060 + n * 0x1000
def Adr.PAIR_SIGH (n : Nat) : Nat := 0x20064 + n * 0x1000
def Adr.PAIR_WINCNT (n : Nat) : Nat := 0x20068 + n * 0x1000
def Adr.PAIR_ALIGNCNT (n : Nat) : Nat := 0x2006C + n * 0x1000
def Adr.PAIR_FINSEL (n : Nat) : Nat := 0x20070 + n * 0x1000
def Adr.TRIM_ESTAT (n : Nat) : Nat := 0x40040 + n * 0x1000
def Adr.TRIM_CFIX (n : Nat) : Nat := 0x40044 + n * 0x1000
def Adr.TRIM_ECCCNT (n : Nat) : Nat := 0x40048 + n * 0x1000
def Adr.TRIM_CCTRL (n : Nat) (k : Nat) : Nat := 0x40100 + n * 0x1000 + k * 0x40
def Adr.TRIM_CCFG (n : Nat) (k : Nat) : Nat := 0x40104 + n * 0x1000 + k * 0x40
def Adr.TRIM_CBUDGET (n : Nat) (k : Nat) : Nat := 0x40108 + n * 0x1000 + k * 0x40
def Adr.TRIM_CPROG (n : Nat) (k : Nat) : Nat := 0x4010C + n * 0x1000 + k * 0x40
def Adr.TRIM_CBANK (n : Nat) (k : Nat) : Nat := 0x40110 + n * 0x1000 + k * 0x40
def Adr.TRIM_CBSEL (n : Nat) (k : Nat) : Nat := 0x40114 + n * 0x1000 + k * 0x40
def Adr.TRIM_SPTGT0 (n : Nat) (k : Nat) : Nat := 0x40118 + n * 0x1000 + k * 0x40
def Adr.TRIM_SPTGT1 (n : Nat) (k : Nat) : Nat := 0x4011C + n * 0x1000 + k * 0x40
def Adr.TRIM_SPTGT2 (n : Nat) (k : Nat) : Nat := 0x40120 + n * 0x1000 + k * 0x40
def Adr.TRIM_SPTGT3 (n : Nat) (k : Nat) : Nat := 0x40124 + n * 0x1000 + k * 0x40
def Adr.TRIM_RAMPCFG (n : Nat) (k : Nat) : Nat := 0x40128 + n * 0x1000 + k * 0x40
def Adr.TRIM_RAMPRATE (n : Nat) (k : Nat) : Nat := 0x4012C + n * 0x1000 + k * 0x40
def Adr.TRIM_SETP0 (n : Nat) (k : Nat) : Nat := 0x40130 + n * 0x1000 + k * 0x40
def Adr.TRIM_SETP1 (n : Nat) (k : Nat) : Nat := 0x40134 + n * 0x1000 + k * 0x40
def Adr.TRIM_SETP2 (n : Nat) (k : Nat) : Nat := 0x40138 + n * 0x1000 + k * 0x40
def Adr.TRIM_SETP3 (n : Nat) (k : Nat) : Nat := 0x4013C + n * 0x1000 + k * 0x40
def Adr.TRIM_CSTAT (n : Nat) (k : Nat) : Nat := 0x40300 + n * 0x1000 + k * 0x10
def Adr.TRIM_CFLAG (n : Nat) (k : Nat) : Nat := 0x40304 + n * 0x1000 + k * 0x10
def Adr.TRIM_CRAMP (n : Nat) (k : Nat) : Nat := 0x40308 + n * 0x1000 + k * 0x10
def Adr.TRIM_TCTRL (n : Nat) : Nat := 0x40400 + n * 0x1000
def Adr.TRIM_TH (n : Nat) : Nat := 0x40404 + n * 0x1000
def Adr.TRIM_TEPS (n : Nat) : Nat := 0x40408 + n * 0x1000
def Adr.TRIM_TCFG (n : Nat) : Nat := 0x4040C + n * 0x1000
def Adr.TRIM_TALIM (n : Nat) : Nat := 0x40410 + n * 0x1000
def Adr.TRIM_TSTAT (n : Nat) : Nat := 0x40414 + n * 0x1000
def Adr.TRIM_TTU (n : Nat) : Nat := 0x40418 + n * 0x1000
def Adr.TRIM_TTS (n : Nat) : Nat := 0x4041C + n * 0x1000
def Adr.TRIM_TA (n : Nat) : Nat := 0x40420 + n * 0x1000
def Adr.TRIM_TKUC (n : Nat) : Nat := 0x40424 + n * 0x1000
def Adr.TRIM_TKUS (n : Nat) : Nat := 0x40428 + n * 0x1000
def Adr.TRIM_PKPC (n : Nat) : Nat := 0x4042C + n * 0x1000
def Adr.TRIM_PKPS (n : Nat) : Nat := 0x40430 + n * 0x1000
def Adr.TRIM_PKIC (n : Nat) : Nat := 0x40434 + n * 0x1000
def Adr.TRIM_PKIS (n : Nat) : Nat := 0x40438 + n * 0x1000
def Adr.TRIM_ST (n : Nat) (k : Nat) : Nat := 0x40800 + n * 0x1000 + k * 0x4
def Adr.TSCH_LAT (k : Nat) : Nat := 0x44040 + k * 0x4
def Adr.TSCH_CLR : Nat := 0x440C0
def Adr.TSCH_LOAD (k : Nat) : Nat := 0x440C4 + k * 0x4
def Adr.PWM_CFG (n : Nat) : Nat := 0x60040 + n * 0x1000
def Adr.PWM_PER (n : Nat) : Nat := 0x60044 + n * 0x1000
def Adr.PWM_DT (n : Nat) : Nat := 0x60048 + n * 0x1000
def Adr.PWM_CHCFG (n : Nat) : Nat := 0x6004C + n * 0x1000
def Adr.PWM_SYNCOFS (n : Nat) : Nat := 0x60050 + n * 0x1000
def Adr.PWM_EG (n : Nat) (k : Nat) : Nat := 0x60054 + n * 0x1000 + k * 0x4
def Adr.PWM_TRIPCFG (n : Nat) : Nat := 0x6005C + n * 0x1000
def Adr.PWM_TRIPOUT (n : Nat) : Nat := 0x60060 + n * 0x1000
def Adr.PWM_TRIPCLR (n : Nat) : Nat := 0x60064 + n * 0x1000
def Adr.PWM_FORCE (n : Nat) : Nat := 0x60068 + n * 0x1000
def Adr.PWM_STAT (n : Nat) : Nat := 0x6006C + n * 0x1000
def Adr.PWM_SWCOMMIT (n : Nat) : Nat := 0x60070 + n * 0x1000
def Adr.PWM_CMP (n : Nat) (k : Nat) : Nat := 0x60080 + n * 0x1000 + k * 0x4
def Adr.PWM_SHD (n : Nat) (k : Nat) : Nat := 0x600A0 + n * 0x1000 + k * 0x4
def Adr.GGRP_GCFG (n : Nat) : Nat := 0x80040 + n * 0x1000
def Adr.GGRP_GSTAT (n : Nat) : Nat := 0x80044 + n * 0x1000
def Adr.GGRP_GCLR (n : Nat) : Nat := 0x80048 + n * 0x1000
def Adr.GGRP_STCTRL (n : Nat) : Nat := 0x8004C + n * 0x1000
def Adr.GGRP_STRES (n : Nat) : Nat := 0x80050 + n * 0x1000
def Adr.GGRP_CHCFG (n : Nat) (k : Nat) : Nat := 0x80200 + n * 0x1000 + k * 0x100
def Adr.GGRP_PROFON (n : Nat) (k : Nat) : Nat := 0x80204 + n * 0x1000 + k * 0x100
def Adr.GGRP_PROFOFF (n : Nat) (k : Nat) : Nat := 0x80208 + n * 0x1000 + k * 0x100
def Adr.GGRP_DRIVE (n : Nat) (k : Nat) : Nat := 0x8020C + n * 0x1000 + k * 0x100
def Adr.GGRP_PROT (n : Nat) (k : Nat) : Nat := 0x80210 + n * 0x1000 + k * 0x100
def Adr.GGRP_MISC (n : Nat) (k : Nat) : Nat := 0x80214 + n * 0x1000 + k * 0x100
def Adr.GGRP_SAFEOUT (n : Nat) (k : Nat) : Nat := 0x80218 + n * 0x1000 + k * 0x100
def Adr.GGRP_CSTAT (n : Nat) (k : Nat) : Nat := 0x80220 + n * 0x1000 + k * 0x100
def Adr.GGRP_CFLAG (n : Nat) (k : Nat) : Nat := 0x80224 + n * 0x1000 + k * 0x100
def Adr.LVDRV_CFG : Nat := 0x86040
def Adr.LVDRV_STAT : Nat := 0x86044
def Adr.ADC_SEQCFG (n : Nat) : Nat := 0xA0040 + n * 0x1000
def Adr.ADC_SEQSTART (n : Nat) : Nat := 0xA0044 + n * 0x1000
def Adr.ADC_SEQSTAT (n : Nat) : Nat := 0xA0048 + n * 0x1000
def Adr.ADC_SLOT (n : Nat) (k : Nat) : Nat := 0xA0080 + n * 0x1000 + k * 0x4
def Adr.ADC_RES (n : Nat) (k : Nat) : Nat := 0xA00C0 + n * 0x1000 + k * 0x4
def Adr.SDM_CFG (n : Nat) : Nat := 0xA8040 + n * 0x1000
def Adr.SDM_DELAY (n : Nat) : Nat := 0xA8044 + n * 0x1000
def Adr.SDM_SCD (n : Nat) : Nat := 0xA8048 + n * 0x1000
def Adr.SDM_SCDROUTE (n : Nat) : Nat := 0xA804C + n * 0x1000
def Adr.SDM_RES (n : Nat) : Nat := 0xA8050 + n * 0x1000
def Adr.SDM_RESTL (n : Nat) : Nat := 0xA8054 + n * 0x1000
def Adr.SDM_STAT (n : Nat) : Nat := 0xA8058 + n * 0x1000
def Adr.SDM_MCLKCFG (n : Nat) : Nat := 0xA8060 + n * 0x1000
def Adr.CMPB_CFG (n : Nat) (k : Nat) : Nat := 0xC0040 + n * 0x1000 + k * 0x20
def Adr.CMPB_THR (n : Nat) (k : Nat) : Nat := 0xC0044 + n * 0x1000 + k * 0x20
def Adr.CMPB_HYS (n : Nat) (k : Nat) : Nat := 0xC0048 + n * 0x1000 + k * 0x20
def Adr.CMPB_BLK (n : Nat) (k : Nat) : Nat := 0xC004C + n * 0x1000 + k * 0x20
def Adr.CMPB_ROUTE (n : Nat) (k : Nat) : Nat := 0xC0050 + n * 0x1000 + k * 0x20
def Adr.CMPB_STAT (n : Nat) (k : Nat) : Nat := 0xC0054 + n * 0x1000 + k * 0x20
def Adr.CMPB_CLR (n : Nat) (k : Nat) : Nat := 0xC0058 + n * 0x1000 + k * 0x20
def Adr.HVS_CHEN : Nat := 0xC8040
def Adr.HVS_STAT : Nat := 0xC8044
def Adr.HVS_GAIN (k : Nat) : Nat := 0xC8080 + k * 0x8
def Adr.HVS_OFF (k : Nat) : Nat := 0xC8084 + k * 0x8
def Adr.HK_RCFG : Nat := 0xD0040
def Adr.HK_RSTAT : Nat := 0xD0044
def Adr.HK_TEMP (k : Nat) : Nat := 0xD0080 + k * 0x4
def Adr.HK_NTC (k : Nat) : Nat := 0xD0140 + k * 0x4
def Adr.HK_SUP (k : Nat) : Nat := 0xD0180 + k * 0x4
def Adr.TWL_CFG (n : Nat) : Nat := 0xE0040 + n * 0x1000
def Adr.TWL_WHEEL (n : Nat) : Nat := 0xE0044 + n * 0x1000
def Adr.TWL_EOFS (n : Nat) : Nat := 0xE0048 + n * 0x1000
def Adr.TWL_TSTILL (n : Nat) : Nat := 0xE004C + n * 0x1000
def Adr.TWL_CTRL (n : Nat) : Nat := 0xE0050 + n * 0x1000
def Adr.TWL_STAT (n : Nat) : Nat := 0xE0054 + n * 0x1000
def Adr.TWL_POS (n : Nat) : Nat := 0xE0058 + n * 0x1000
def Adr.TWL_ANGLE (n : Nat) : Nat := 0xE005C + n * 0x1000
def Adr.TWL_SPEED (n : Nat) : Nat := 0xE0060 + n * 0x1000
def Adr.TWL_EDGETL (n : Nat) : Nat := 0xE0064 + n * 0x1000
def Adr.TWL_COUNT (n : Nat) : Nat := 0xE0068 + n * 0x1000
def Adr.TWL_ERRCNT (n : Nat) : Nat := 0xE006C + n * 0x1000
def Adr.TWL_CMP (n : Nat) (k : Nat) : Nat := 0xE0080 + n * 0x1000 + k * 0x4
def Adr.TWL_CMPFIRED (n : Nat) : Nat := 0xE00C0 + n * 0x1000
def Adr.HALL_CFG (k : Nat) : Nat := 0xE4040 + k * 0x10
def Adr.HALL_STAT (k : Nat) : Nat := 0xE4044 + k * 0x10
def Adr.HALL_TIME (k : Nat) : Nat := 0xE4048 + k * 0x10
def Adr.HALL_PERS (k : Nat) : Nat := 0xE404C + k * 0x10
def Adr.ENC_CFG (k : Nat) : Nat := 0xE5040 + k * 0x10
def Adr.ENC_STAT (k : Nat) : Nat := 0xE5044 + k * 0x10
def Adr.EFR_CFG (n : Nat) : Nat := 0x100040 + n * 0x1000
def Adr.EFR_PERIOD (n : Nat) : Nat := 0x100044 + n * 0x1000
def Adr.EFR_CTRL (n : Nat) : Nat := 0x100048 + n * 0x1000
def Adr.EFR_STAT (n : Nat) : Nat := 0x10004C + n * 0x1000
def Adr.EFR_BRK (n : Nat) : Nat := 0x100050 + n * 0x1000
def Adr.EFR_DMAX (n : Nat) : Nat := 0x100054 + n * 0x1000
def Adr.EFR_ERRCNT (n : Nat) : Nat := 0x100058 + n * 0x1000
def Adr.EFR_SSTAT (n : Nat) : Nat := 0x10005C + n * 0x1000
def Adr.EFR_DBASE (n : Nat) : Nat := 0x100060 + n * 0x1000
def Adr.EFR_TQBASE (n : Nat) : Nat := 0x100064 + n * 0x1000
def Adr.EFR_TQCFG (n : Nat) : Nat := 0x100068 + n * 0x1000
def Adr.EFR_TQHEAD (n : Nat) : Nat := 0x10006C + n * 0x1000
def Adr.EFR_TQTAIL (n : Nat) : Nat := 0x100070 + n * 0x1000
def Adr.EFR_TAGS (n : Nat) : Nat := 0x100074 + n * 0x1000
def Adr.EFR_NT (n : Nat) (k : Nat) : Nat := 0x100400 + n * 0x1000 + k * 0x4
def Adr.EFR_HOP (n : Nat) (k : Nat) : Nat := 0x100800 + n * 0x1000 + k * 0x4
def Adr.ZCOR_ZCFG (k : Nat) : Nat := 0x104100 + k * 0x100
def Adr.ZCOR_ZCTRL (k : Nat) : Nat := 0x104104 + k * 0x100
def Adr.ZCOR_ZDST (k : Nat) : Nat := 0x104108 + k * 0x100
def Adr.ZCOR_ZSTAT (k : Nat) : Nat := 0x10410C + k * 0x100
def Adr.ZCOR_ZN (k : Nat) : Nat := 0x104110 + k * 0x100
def Adr.ZCOR_BIN0 (k : Nat) : Nat := 0x104120 + k * 0x100
def Adr.ZCOR_BIN1 (k : Nat) : Nat := 0x104124 + k * 0x100
def Adr.ZCOR_BIN2 (k : Nat) : Nat := 0x104128 + k * 0x100
def Adr.ZCOR_BIN3 (k : Nat) : Nat := 0x10412C + k * 0x100
def Adr.ZCOR_BIN4 (k : Nat) : Nat := 0x104130 + k * 0x100
def Adr.ZCOR_BIN5 (k : Nat) : Nat := 0x104134 + k * 0x100
def Adr.ZCOR_BIN6 (k : Nat) : Nat := 0x104138 + k * 0x100
def Adr.ZCOR_BIN7 (k : Nat) : Nat := 0x10413C + k * 0x100
def Adr.ZCOR_IIL0 (k : Nat) : Nat := 0x104140 + k * 0x100
def Adr.ZCOR_IIH0 (k : Nat) : Nat := 0x104144 + k * 0x100
def Adr.ZCOR_IQL0 (k : Nat) : Nat := 0x104148 + k * 0x100
def Adr.ZCOR_IQH0 (k : Nat) : Nat := 0x10414C + k * 0x100
def Adr.ZCOR_IIL1 (k : Nat) : Nat := 0x104150 + k * 0x100
def Adr.ZCOR_IIH1 (k : Nat) : Nat := 0x104154 + k * 0x100
def Adr.ZCOR_IQL1 (k : Nat) : Nat := 0x104158 + k * 0x100
def Adr.ZCOR_IQH1 (k : Nat) : Nat := 0x10415C + k * 0x100
def Adr.ZCOR_IIL2 (k : Nat) : Nat := 0x104160 + k * 0x100
def Adr.ZCOR_IIH2 (k : Nat) : Nat := 0x104164 + k * 0x100
def Adr.ZCOR_IQL2 (k : Nat) : Nat := 0x104168 + k * 0x100
def Adr.ZCOR_IQH2 (k : Nat) : Nat := 0x10416C + k * 0x100
def Adr.ZCOR_IIL3 (k : Nat) : Nat := 0x104170 + k * 0x100
def Adr.ZCOR_IIH3 (k : Nat) : Nat := 0x104174 + k * 0x100
def Adr.ZCOR_IQL3 (k : Nat) : Nat := 0x104178 + k * 0x100
def Adr.ZCOR_IQH3 (k : Nat) : Nat := 0x10417C + k * 0x100
def Adr.ZCOR_IIL4 (k : Nat) : Nat := 0x104180 + k * 0x100
def Adr.ZCOR_IIH4 (k : Nat) : Nat := 0x104184 + k * 0x100
def Adr.ZCOR_IQL4 (k : Nat) : Nat := 0x104188 + k * 0x100
def Adr.ZCOR_IQH4 (k : Nat) : Nat := 0x10418C + k * 0x100
def Adr.ZCOR_IIL5 (k : Nat) : Nat := 0x104190 + k * 0x100
def Adr.ZCOR_IIH5 (k : Nat) : Nat := 0x104194 + k * 0x100
def Adr.ZCOR_IQL5 (k : Nat) : Nat := 0x104198 + k * 0x100
def Adr.ZCOR_IQH5 (k : Nat) : Nat := 0x10419C + k * 0x100
def Adr.ZCOR_IIL6 (k : Nat) : Nat := 0x1041A0 + k * 0x100
def Adr.ZCOR_IIH6 (k : Nat) : Nat := 0x1041A4 + k * 0x100
def Adr.ZCOR_IQL6 (k : Nat) : Nat := 0x1041A8 + k * 0x100
def Adr.ZCOR_IQH6 (k : Nat) : Nat := 0x1041AC + k * 0x100
def Adr.ZCOR_IIL7 (k : Nat) : Nat := 0x1041B0 + k * 0x100
def Adr.ZCOR_IIH7 (k : Nat) : Nat := 0x1041B4 + k * 0x100
def Adr.ZCOR_IQL7 (k : Nat) : Nat := 0x1041B8 + k * 0x100
def Adr.ZCOR_IQH7 (k : Nat) : Nat := 0x1041BC + k * 0x100
def Adr.ZCOR_MISS (k : Nat) : Nat := 0x104800 + k * 0x4
def Adr.DCDC_CFG : Nat := 0x120040
def Adr.DCDC_VSEL : Nat := 0x120044
def Adr.DCDC_ISEL12 : Nat := 0x120048
def Adr.DCDC_ISEL34 : Nat := 0x12004C
def Adr.DCDC_VFS : Nat := 0x120050
def Adr.DCDC_FSW : Nat := 0x120054
def Adr.DCDC_SYNCDLY : Nat := 0x120058
def Adr.DCDC_VSET : Nat := 0x12005C
def Adr.DCDC_SLEW : Nat := 0x120060
def Adr.DCDC_IPH : Nat := 0x120064
def Adr.DCDC_SHED : Nat := 0x120068
def Adr.DCDC_KBAL : Nat := 0x12006C
def Adr.DCDC_DMAX : Nat := 0x120070
def Adr.DCDC_CMD : Nat := 0x120074
def Adr.DCDC_DUTY : Nat := 0x120078
def Adr.DCDC_STAT : Nat := 0x12007C
def Adr.DCDC_VREF : Nat := 0x120080
def Adr.DCDC_FNOW : Nat := 0x120084
def Adr.DCDC_TRIM (k : Nat) : Nat := 0x120088 + k * 0x4
def Adr.DCDC_CAUSE : Nat := 0x120098
def Adr.OBC_CFG : Nat := 0x121040
def Adr.OBC_SEARCH : Nat := 0x121044
def Adr.OBC_BUS : Nat := 0x121048
def Adr.OBC_DEFLIM : Nat := 0x12104C
def Adr.OBC_ZIC (k : Nat) : Nat := 0x121050 + k * 0x8
def Adr.OBC_ZV (k : Nat) : Nat := 0x121054 + k * 0x8
def Adr.OBC_EXPV : Nat := 0x121078
def Adr.OBC_EXPF : Nat := 0x12107C
def Adr.OBC_EXPT : Nat := 0x121080
def Adr.OBC_EXPLIM : Nat := 0x121084
def Adr.OBC_IACMAX : Nat := 0x121088
def Adr.OBC_IBATMAX : Nat := 0x12108C
def Adr.OBC_HBEAT : Nat := 0x121090
def Adr.OBC_CMD : Nat := 0x121094
def Adr.OBC_STAT : Nat := 0x121098
def Adr.OBC_ISRCH : Nat := 0x12109C
def Adr.OBC_LINE : Nat := 0x1210A0
def Adr.OBC_CAUSE : Nat := 0x1210A4
def Adr.PILOT_CFG : Nat := 0x122040
def Adr.PILOT_CTRL : Nat := 0x122044
def Adr.PILOT_STAT : Nat := 0x122048
def Adr.PILOT_CPMEAS : Nat := 0x12204C
def Adr.PILOT_ILIM : Nat := 0x122050
def Adr.PILOT_DIGLIM : Nat := 0x122054
def Adr.PILOT_LAMP : Nat := 0x122058
def Adr.PILOT_LSTAT : Nat := 0x12205C
def Adr.CTR_ROLE : Nat := 0x123040
def Adr.CTR_ECO : Nat := 0x123044
def Adr.CTR_PRECFG : Nat := 0x123048
def Adr.CTR_WELD : Nat := 0x12304C
def Adr.CTR_COOL : Nat := 0x123050
def Adr.CTR_CMD : Nat := 0x123054
def Adr.CTR_MAN : Nat := 0x123058
def Adr.CTR_STAT : Nat := 0x12305C
def Adr.ACT_CFG (n : Nat) : Nat := 0x124040 + n * 0x1000
def Adr.ACT_SPD (n : Nat) : Nat := 0x124044 + n * 0x1000
def Adr.ACT_ACCEL (n : Nat) : Nat := 0x124048 + n * 0x1000
def Adr.ACT_GAIN (n : Nat) : Nat := 0x12404C + n * 0x1000
def Adr.ACT_DMAX (n : Nat) : Nat := 0x124050 + n * 0x1000
def Adr.ACT_ILIM (n : Nat) : Nat := 0x124054 + n * 0x1000
def Adr.ACT_NCOAST (n : Nat) : Nat := 0x124058 + n * 0x1000
def Adr.ACT_STOPPOS (n : Nat) : Nat := 0x12405C + n * 0x1000
def Adr.ACT_CMD (n : Nat) : Nat := 0x124060 + n * 0x1000
def Adr.ACT_STAT (n : Nat) : Nat := 0x124064 + n * 0x1000
def Adr.ACT_POS (n : Nat) : Nat := 0x124068 + n * 0x1000
def Adr.ACT_DUTY (n : Nat) : Nat := 0x12406C + n * 0x1000
def Adr.CAN_NBT (n : Nat) : Nat := 0x140040 + n * 0x1000
def Adr.CAN_DBT (n : Nat) : Nat := 0x140044 + n * 0x1000
def Adr.CAN_CFG (n : Nat) : Nat := 0x140048 + n * 0x1000
def Adr.CAN_RXBASE (n : Nat) (k : Nat) : Nat := 0x14004C + n * 0x1000 + k * 0x4
def Adr.CAN_TXBASE (n : Nat) : Nat := 0x140054 + n * 0x1000
def Adr.CAN_RINGLEN (n : Nat) : Nat := 0x140058 + n * 0x1000
def Adr.CAN_TXTAIL (n : Nat) : Nat := 0x14005C + n * 0x1000
def Adr.CAN_ERRC (n : Nat) : Nat := 0x140060 + n * 0x1000
def Adr.CAN_WUF (n : Nat) : Nat := 0x140064 + n * 0x1000
def Adr.CAN_WUFMASK (n : Nat) : Nat := 0x140068 + n * 0x1000
def Adr.CAN_WUFDATA (n : Nat) (k : Nat) : Nat := 0x14006C + n * 0x1000 + k * 0x4
def Adr.CAN_RXHEAD (n : Nat) (k : Nat) : Nat := 0x140074 + n * 0x1000 + k * 0x4
def Adr.CAN_TXHEAD (n : Nat) : Nat := 0x14007C + n * 0x1000
def Adr.CAN_FLT (n : Nat) (k : Nat) : Nat := 0x140100 + n * 0x1000 + k * 0x8
def Adr.CAN_FMASK (n : Nat) (k : Nat) : Nat := 0x140104 + n * 0x1000 + k * 0x8
def Adr.ETH_RXBASE (n : Nat) (k : Nat) : Nat := 0x144040 + n * 0x1000 + k * 0x4
def Adr.ETH_TXBASE (n : Nat) (k : Nat) : Nat := 0x144048 + n * 0x1000 + k * 0x4
def Adr.ETH_RXLEN (n : Nat) : Nat := 0x144050 + n * 0x1000
def Adr.ETH_TXLEN (n : Nat) : Nat := 0x144054 + n * 0x1000
def Adr.ETH_TXTAIL (n : Nat) (k : Nat) : Nat := 0x144058 + n * 0x1000 + k * 0x4
def Adr.ETH_RXHEAD (n : Nat) (k : Nat) : Nat := 0x144060 + n * 0x1000 + k * 0x4
def Adr.ETH_TXHEAD (n : Nat) (k : Nat) : Nat := 0x144068 + n * 0x1000 + k * 0x4
def Adr.ETH_ERRC (n : Nat) : Nat := 0x144070 + n * 0x1000
def Adr.ETH_MACL (n : Nat) : Nat := 0x144080 + n * 0x1000
def Adr.ETH_MACH (n : Nat) : Nat := 0x144084 + n * 0x1000
def Adr.ETH_PHYCFG (n : Nat) : Nat := 0x144088 + n * 0x1000
def Adr.ETH_NTRATE (n : Nat) : Nat := 0x144090 + n * 0x1000
def Adr.ETH_NTOFSL (n : Nat) : Nat := 0x144094 + n * 0x1000
def Adr.ETH_NTOFSH (n : Nat) : Nat := 0x144098 + n * 0x1000
def Adr.ETH_NTNOWL (n : Nat) : Nat := 0x14409C + n * 0x1000
def Adr.ETH_NTNOWH (n : Nat) : Nat := 0x1440A0 + n * 0x1000
def Adr.ETH_FMACL (n : Nat) (k : Nat) : Nat := 0x144100 + n * 0x1000 + k * 0xC
def Adr.ETH_FTYPE (n : Nat) (k : Nat) : Nat := 0x144104 + n * 0x1000 + k * 0xC
def Adr.ETH_FCTL (n : Nat) (k : Nat) : Nat := 0x144108 + n * 0x1000 + k * 0xC
def Adr.SHRD_STATE : Nat := 0x160040
def Adr.SHRD_GSTAT : Nat := 0x160044
def Adr.SHRD_GCAUSE (k : Nat) : Nat := 0x160048 + k * 0x4
def Adr.SHRD_SINSTAT : Nat := 0x160060
def Adr.SHRD_SPEED : Nat := 0x160064
def Adr.SHRD_XSTAT : Nat := 0x160068
def Adr.SHRD_SINCFG (k : Nat) : Nat := 0x160080 + k * 0x4
def Adr.SHRD_GCFG (k : Nat) : Nat := 0x1600C0 + k * 0x4
def Adr.SHRD_SS1DEC : Nat := 0x1600C8
def Adr.SHRD_SS1TMAX : Nat := 0x1600CC
def Adr.SHRD_NSTILL : Nat := 0x1600D0
def Adr.SHRD_PLKCFG : Nat := 0x1600D4
def Adr.SHRD_CMPSF4 : Nat := 0x1600D8
def Adr.SHRD_CMPMASK : Nat := 0x1600DC
def Adr.SHRD_CMPGRP : Nat := 0x1600E0
def Adr.SHRD_MISC : Nat := 0x1600E4
def Adr.SHRD_CTXMAP (k : Nat) : Nat := 0x160100 + k * 0x4
def Adr.SHRD_TWX : Nat := 0x160180
def Adr.MBX_GSTAT : Nat := 0x161040
def Adr.MBX_BOOT : Nat := 0x161044
def Adr.MBX_IMGVER : Nat := 0x161048
def Adr.MBX_BBSEQ : Nat := 0x16104C
def Adr.MBX_BBLOST : Nat := 0x161050
def Adr.MBX_AFAIL : Nat := 0x161054
def Adr.TWIN_CFG : Nat := 0x162040
def Adr.TWIN_CTRL : Nat := 0x162044
def Adr.TWIN_STAT : Nat := 0x162048
def Adr.TWIN_RHAND : Nat := 0x16204C
def Adr.TWIN_XREQ : Nat := 0x162050
def Adr.TWIN_TOFS : Nat := 0x162054
def Adr.TWIN_HBCNT : Nat := 0x162058

end Sys2Proof.Machine
end

