-- ==== Sys2Proof/Machine/PageMap.lean ====
section
/-! DEFINITION. Which block a page belongs to, which register an offset names, and what every register reads after reset
(R68, R69, R83 and the register tables). -/

namespace Sys2Proof.Machine

/-- The block and instance of a page number (R83); none for an empty slot. [DESIGN CHOICE, assumption 15] -/
def pageRow (p : Nat) : Option BlockRow := pageMap.find? fun r => decide (r.page ≤ p) && decide (p < r.page + r.count)

/-- The register of a block that stands at an offset, with its index in an array of registers. [DESIGN CHOICE, assumption 15] -/
def findReg (b : Block) (off : Nat) : Option (RegRow × Nat) :=
  match (rowsOf b).find? fun r => decide (r.off ≤ off) && decide ((off - r.off) % r.stride = 0)
      && decide ((off - r.off) / r.stride < r.count) with
  | some r => some (r, (off - r.off) / r.stride)
  | none => none

/-- Channels of gate group g (R23): G1 to G3 six, G4 and G5 eight, G6 two. -/
def groupSize : Nat → Nat
  | 0 | 1 | 2 => 6
  | 3 | 4 => 8
  | _ => 2

/-- The first channel of gate group g (R23). -/
def groupBase : Nat → Nat
  | 0 => 0
  | 1 => 6
  | 2 => 12
  | 3 => 18
  | 4 => 26
  | _ => 34

/-- Registers that stand on some instances of a page only: channel positions (R254), MCLKCFG (R209), CAN0's wake registers (R452), ETH0's
network time (R453). -/
def existsOn (b : Block) (inst off : Nat) : Bool :=
  match b with
  | .ggrp => decide (off < 0x200) || decide ((off - 0x200) / 0x100 < groupSize inst)
  | .sdm => decide (off ≠ 0x60) || decide (inst < 4)
  | .can => decide (off < 0x64) || decide (0x70 < off) || decide (inst = 0)
  | .eth => decide (off < 0x90) || decide (0xA0 < off) || decide (inst = 0)
  | _ => true

/-- The register at an offset of an instance's page. -/
def regAt (b : Block) (inst off : Nat) : Option (RegRow × Nat) := if existsOn b inst off then findReg b off else none

/-- SAFEOUT of G1 and G2 is fixed: X on the low sides (odd positions), L nowhere (R252). -/
def fixedSafeOut (off : Nat) : Word := if (off - 0x218) / 0x100 % 2 = 1 then 2#32 else 0#32

/-- Reset value of a block-specific register (R68 and the register tables; HVS trims are the factory's, R204). [DESIGN CHOICE, assumption 68] -/
def blockDefault (b : Block) (inst off : Nat) : Word :=
  match regAt b inst off with
  | none => 0#32
  | some (r, k) =>
    match b with
    | .hvs => if r.off = 0x80 then Config.hvsGain k else if r.off = 0x84 then Config.hvsOff k else BitVec.ofNat 32 r.reset
    | .ggrp => if r.off = 0x218 ∧ inst < 2 then fixedSafeOut off else BitVec.ofNat 32 r.reset
    | _ => BitVec.ofNat 32 r.reset

/-- Pages that GMS owns from reset (R16). -/
def gmsFromReset (b : Block) : Bool :=
  match b with
  | .sys | .hk | .shrd | .mbx => true
  | _ => false

/-- PID (R69): TYPE, instance, version 1, layout 1. -/
def pidOf (r : BlockRow) (p : Nat) : Word := BitVec.ofNat 32 (r.type * 2 ^ 24 + (p - r.page) * 2 ^ 16 + 0x0101)

/-- Configuration registers (R81): RW, RWK, RWD or RW1, and not run-time. -/
def isConfig (r : RegRow) : Bool := !r.run && decide (r.rw ||| r.rwd ||| r.rwk ||| r.rw1 ≠ 0)

/-- Offsets of a row's registers. -/
def rowOffsets (r : RegRow) : List Nat := (List.range r.count).map fun k => r.off + k * r.stride

/-- A number put in its place in a rising list. -/
def insertNat (a : Nat) : List Nat → List Nat
  | [] => [a]
  | b :: t => if a ≤ b then a :: b :: t else b :: insertNat a t

/-- A list in rising order. -/
def sortNat : List Nat → List Nat
  | [] => []
  | a :: t => insertNat a (sortNat t)

/-- Offsets of a page's configuration registers, ascending (R81). -/
def configOffsets (b : Block) (inst : Nat) : List Nat :=
  sortNat ((((rowsOf b).filter isConfig).flatMap rowOffsets).filter (existsOn b inst))

/-- Bits of a configuration word that the CRC covers: all but run-time fields (CFGk.MODE of a comparator, R217). [DESIGN CHOICE, assumption 19] -/
def crcMask (b : Block) (off : Nat) : Word :=
  match b with
  | .cmpb => if off % 0x20 = 0 then ~~~0x30#32 else ~~~0#32
  | _ => ~~~0#32

/-- CRC-32 over a page's words (R81): PCTRL with SAFETY alone, PEVEN, POWNER, then each configuration register. -/
def pageCrc (b : Block) (inst : Nat) (read : Nat → Word) : Word :=
  crc32 ((wordBytes (read 4 &&& 8#32) ++ wordBytes (read 0x10) ++ wordBytes (read 0x18))
    ++ (configOffsets b inst).flatMap fun o => wordBytes (read o &&& crcMask b o))

/-- Reset value of a header register. [DESIGN CHOICE, assumption 68] -/
def headDefault (r : BlockRow) (p off : Nat) : Word :=
  if off = 0 then pidOf r p
  else if off = 0x18 ∧ gmsFromReset r.blk then 3#32
  else if off = 0x20 then
    pageCrc r.blk (p - r.page) fun o =>
      if o = 0x18 ∧ gmsFromReset r.blk then 3#32 else if o < 0x40 then 0#32 else blockDefault r.blk (p - r.page) o
  else 0#32

/-- What the register at byte offset a from 0x4000_0000 reads when nothing has been stored in it: its reset value. [DESIGN CHOICE, assumption 68] -/
def regDefault (a : Nat) : Word :=
  match pageRow (a / 4096) with
  | none => 0#32
  | some r =>
    if a % 4096 < 0x40 then headDefault r (a / 4096) (a % 4096) else blockDefault r.blk (a / 4096 - r.page) (a % 4096)

end Sys2Proof.Machine
end

