-- ==== Sys2Proof/Machine/Store.lean ====
section
/-! DEFINITION. Sparse stores: a list of (key, value) pairs in one canonical form, keys strictly rising and no entry equal to what an
unlisted key reads as. Page registers, addressed memories and the numbered units of a block are all held this way. -/

namespace Sys2Proof.Machine

/-- What key k reads as: its entry, or the default of an unlisted key. -/
def Store.get {α : Type} (d : Nat → α) : List (Nat × α) → Nat → α
  | [], k => d k
  | (j, v) :: t, k => if j = k then v else Store.get d t k

/-- The store without key k. -/
def Store.erase {α : Type} : List (Nat × α) → Nat → List (Nat × α)
  | [], _ => []
  | (j, v) :: t, k => if j = k then Store.erase t k else (j, v) :: Store.erase t k

/-- An entry put before the first greater key. -/
def Store.insert {α : Type} (k : Nat) (v : α) : List (Nat × α) → List (Nat × α)
  | [] => [(k, v)]
  | (j, u) :: t => if k < j then (k, v) :: (j, u) :: t else (j, u) :: Store.insert k v t

/-- Key k made to read v; writing the default removes the entry. -/
def Store.put {α : Type} [DecidableEq α] (d : Nat → α) (k : Nat) (v : α) (m : List (Nat × α)) : List (Nat × α) :=
  if v = d k then Store.erase m k else Store.insert k v (Store.erase m k)

/-- Every key that p holds of made to read its default. -/
def Store.clear {α : Type} (p : Nat → Bool) (m : List (Nat × α)) : List (Nat × α) := m.filter fun e => !p e.1

/-- Every entry has a key above lo, keys rise strictly, and no entry reads as an unlisted key would. -/
def Store.wfFrom {α : Type} [DecidableEq α] (d : Nat → α) : Nat → List (Nat × α) → Bool
  | _, [] => true
  | lo, (j, v) :: t => decide (lo ≤ j) && decide (v ≠ d j) && Store.wfFrom d (j + 1) t

/-- The canonical form of a store. -/
def Store.wf {α : Type} [DecidableEq α] (d : Nat → α) (m : List (Nat × α)) : Bool := Store.wfFrom d 0 m

end Sys2Proof.Machine
end

