-- ==== Sys2Proof/Machine/State.lean ====
section
/-! DEFINITION. The state of the AX960 as plain data: every register, latch, queue and mode the specification gives it, and the queue of
commands that wait. Numbered units (cores, PWM units, channels, rings, …) stand in canonical sparse stores (Machine/Store.lean): a unit that
is not listed is as reset leaves it. -/

namespace Sys2Proof.Machine

/-! ### Power, clocks and reset (chapter 03) -/

/-- Where the module stands between power-up and power-down (chapter 03). -/
inductive Phase where
  /-- VS has not yet risen through 9.0 V, or the hold-up is exhausted -/
  | dark
  /-- a cold start waits for XTAL25 (R56) -/
  | halted
  /-- started: stages 1 to 8 -/
  | run
  /-- both image slots failed (R420) -/
  | recovery
  | sleep
  /-- running on the hold-up after VS fell through 8.0 V (R64) -/
  | holdup
deriving DecidableEq, Repr

/-- Power, clock and start-up state that no register shows (chapter 03). -/
structure Power where
  phase : Phase
  /-- the personality in force: true STORE (R1) -/
  store : Bool
  /-- PDREQ mask saved at sleep entry (R59) -/
  savedReq : Word
  /-- MRAM write counter sealed in Masthead at sleep entry (R59) -/
  sealed : Nat
  /-- the MRAM die's non-resettable write counter (R59) -/
  writes : Nat
  /-- domains GMS has switched on whose clamps have not yet released (R46) -/
  switching : List Nat
  /-- device time and lowest VS in 10 mV of the supply dip in progress (R63) -/
  dip : Option (Nat × Nat)
  /-- failed attempts to relock PLL_NET (R57) -/
  relocks : Nat
  /-- device time, in 600 MHz ticks modulo 2^64 -/
  dtime : Nat
  /-- ticks since the last increment of RTC -/
  second : Nat
deriving DecidableEq, Repr

/-! ### Register pages and the event router (chapter 04) -/

/-- The key sequence of a page (R75): idle, first word seen from a port, armed by a port. -/
inductive Key where
  | idle | first (port : Nat) | armed (port : Nat)
deriving DecidableEq, Repr

/-- What a page keeps beside its registers: key state and latched PCRC (R75, R82). -/
structure PageHid where
  key : Key
  /-- PCRC latched under the lock -/
  latch : Option Word
  /-- the page latches PCRC again when CRCBUSY clears -/
  due : Bool
deriving DecidableEq, Repr

/-- The answer an initiator port got last (R72, R97): data bytes, or a bus error with its reason (0 for a plain bus error). -/
inductive Resp where
  | none_ | ok (data : List Byte) | err (reason : Nat)
deriving DecidableEq, Repr

/-- What an initiator port's own latches and last answer hold (R73). -/
structure PortSt where
  resp : Resp
  /-- DTIMEH latch of EVR0, EVR1 (R87) -/
  dtimeH0 : Word
  dtimeH1 : Word
  /-- NTNOWH latch (R449) -/
  ntH : Word
deriving DecidableEq, Repr

/-- A capture unit's freeze: the freezing port, and the capture held meanwhile as (time, level word) (R93). -/
structure CapHid where
  frozen : Option Nat
  held : Option (Nat × Word)
deriving DecidableEq, Repr

/-- Event router: pulses on their way and the record channel (R85, R86, R94). -/
structure Router where
  /-- event lines that have pulsed and have not yet reached the router -/
  pulses : List Nat
  /-- record-channel entries: time of the first undrained occurrence and the count (0: empty) -/
  entries : List (Nat × (Nat × Nat))
deriving DecidableEq, Repr

/-! ### Interconnect (chapter 05) -/

/-- Requests, queues, ranks, locks and budgets of the interconnect (chapter 05). -/
structure Icx where
  /-- key t · 12 + p: transactions of port p at target t, the first in arbitration, the rest waiting at the initiator (R99) -/
  queue : List (Nat × List Txn)
  /-- key t · 12 + p: the first one is parked in the target's pending queue (R102) -/
  parked : List (Nat × Bool)
  /-- key t · 12 + p: it lost a round and stays on its port (R102) -/
  held : List (Nat × Bool)
  /-- key t · 12 + p: wait counter (R103) -/
  wait : List (Nat × Nat)
  /-- key t: ports from highest to lowest rank (R101) -/
  ranks : List (Nat × List Nat)
  /-- key t: granted transactions not yet answered (R97, R100) -/
  granted : List (Nat × List (Nat × Txn))
  /-- key p: target of the lock the port holds, plus one; 0 none (R106) -/
  lock : List (Nat × Nat)
  /-- key p: beats charged in this period, debt included (R111) -/
  charged : List (Nat × Nat)
  /-- targets whose broken lock no SC.W has met yet: bit t (R107) -/
  broken : Word
deriving DecidableEq, Repr

/-! ### Core pairs (chapter 06) -/

/-- A core's architectural state (R115, R128): x1 to x31, f0 to f31, CSRs by number, pc. -/
structure Core where
  x : List (Nat × Word)
  f : List (Nat × Word)
  csr : List (Nat × Word)
  pc : Word
  /-- stalled by the pair: at SYNC, at a final compare, in a realign or a lock (R128, R136, R137) -/
  stalled : Bool
  /-- waits at a FENCE for its outstanding transactions (R97) -/
  fence : Bool
deriving DecidableEq, Repr

/-- A closed window whose verdict is due: both signatures, and whether an asynchronous read fell in it (R120, R127). -/
structure Window where
  main : BitVec 64
  checker : BitVec 64
  async : Bool
deriving DecidableEq, Repr

/-- What a pair keeps beside its PAIR page (chapter 06). -/
structure PairSt where
  /-- pair reset is asserted (R61) -/
  inReset : Bool
  /-- the mismatch wire to Shroud (R133) -/
  wire : Bool
  window : Option Window
  /-- the next compare is the final one of a split (R137) -/
  final : Bool
  /-- a realign or a lock is copying the state (R128, R136) -/
  copying : Bool
  /-- device times of the kept realigns, newest first (R129) -/
  aligns : List Nat
  /-- replay buffer, oldest first (R139) -/
  replay : List (CoreReg × Word)
  /-- the core that waits at SYNC (R136) -/
  syncCore : Option Nat
  /-- pair images are loaded -/
  loaded : Bool
deriving DecidableEq, Repr

/-! ### Shroud (chapter 07) -/

/-- Group decision GST of R165. -/
inductive Gst where
  | held | run | x | xh | l | sto | ss1
deriving DecidableEq, Repr

/-- Speed class of a traction group or the vehicle (R152). -/
inductive Speed where
  | low | high | unknown
deriving DecidableEq, Repr

/-- One channel's decision for one group. -/
structure GroupDec where
  /-- the selection commanded: RUN, SS1, X, XH or L; HELD before the first decision -/
  gst : Gst
  /-- safety functions in force, latched: bit k is SF(k + 1); the group is locked out while any is set (R153, R162) -/
  fns : Nat
  /-- L latched after a low-side and a high-side fault (R159, R251) -/
  latchL : Bool
  /-- SS1 in progress: speed at the demand in 1/32768 rpm, and its device time (R153) -/
  ss1 : Option (Nat × Nat)
deriving DecidableEq, Repr

/-- One channel's filtered input image (R144). -/
structure Image where
  /-- SIN0 to SIN7 in demand, and their discrepancies -/
  sin : Word
  disc : Word
  /-- comparators in TRIPPED, and their settling marks (R213) -/
  trips : Word
  marks : Word
  /-- bit 2g, 2g + 1: a low-side, a high-side fault latch of safety-marked group g (R251) -/
  gates : Word
  /-- [1:0], [3:2] mode of PAIR0, PAIR1; [4], [5] their mismatch wires; [7 + 2g:6 + 2g] owner and [18 + g] safety mark of group g (R160) -/
  pairs : Word
  /-- contexts whose overruns in a row reached OVRLIM, and contexts that report TRIP (R160) -/
  ctx : Word
  ctxTrip : Word
  /-- [0] clock, [1] supply, [2] charge connector; [8 + g] demanded by the partner module -/
  misc : Word
deriving DecidableEq, Repr

/-- One Shroud channel (R143). -/
structure Channel where
  /-- 0 INIT, 1 OPERATE, 2 COMMISSION, 3 FAILSAFE (R146) -/
  state : Nat
  image : Image
  groups : List (Nat × GroupDec)
  /-- class of TWL0, TWL1 and the vehicle (TWL2) -/
  cls : List (Nat × Speed)
  bist : Bool
  /-- the vehicle speed is at or above PLK_RPM, or unknown (SF7) -/
  park : Bool
deriving DecidableEq, Repr

/-- Shroud's two channels and the wires between them and to the rest (chapter 07). -/
structure Shroud where
  a : Channel
  b : Channel
  /-- exchanges whose input images differed, whose decided states differed, that were missing, in a row (R144) -/
  diffImages : Nat
  diffStates : Nat
  missed : Nat
  /-- Shroud B's own copy of the configuration agrees by CRC (R147) -/
  cfgOk : Bool
  /-- the configuration is loaded from a valid bank (R407) -/
  cfgLoaded : Bool
  /-- key 2i, 2i + 1: levels of SINiA, SINiB (R149) -/
  pins : List (Nat × Level)
  /-- filtered demand of SIN0 to SIN7 -/
  demand : Word
  /-- latched discrepancy of SIN0 to SIN7 -/
  disc : Word
  /-- key c: consecutive overruns reported by context c (R160) -/
  overruns : List (Nat × Nat)
  /-- contexts whose status wire reports TRIP, and those that reported it since channel A, channel B last looked (R153) -/
  trips : Word
  tripsA : Word
  tripsB : Word
  /-- contexts whose overruns reached OVRLIM since channel A, channel B last looked (R160) -/
  oversA : Word
  oversB : Word
  /-- comparators that tripped since channel A, channel B last looked (R215) -/
  cmpsA : Word
  cmpsB : Word
  /-- groups whose islands' supplies are cut (R157) -/
  cut : Word
  /-- the clock wire and the supply wire (R56, R64) -/
  clock : Bool
  supply : Bool
  /-- contactor-disable line, engage-inhibit lines (R153) -/
  ctrLine : Bool
  inhibit : Word
  /-- charge-connector wire (R330) -/
  connector : Bool
  /-- groups the partner module demanded since channel A, channel B last looked (R431) -/
  twinA : Word
  twinB : Word
  /-- traction groups whose speed classes differed at the last exchange (R154) -/
  classDiff : Word
deriving DecidableEq, Repr

/-! ### Trim engines (chapter 08) -/

/-- A word of the sample bus (R176). -/
structure Sample where
  value : Word
  valid : Bool
  /-- device time of the sampling instant -/
  time : Nat
deriving DecidableEq, Repr

/-- The run in progress on an engine (R168). -/
structure TrimRun where
  slot : Nat
  pc : Nat
  cyc : Nat
  d : List (Nat × Word)
  a0 : Int
  a1 : Int
  /-- staging words written, by selector (R178) -/
  staged : List (Nat × Word)
  written : List Nat
  setp : List Word
  trigTime : Nat
  /-- the last LDS or LDF found its word invalid -/
  inv : Bool
  /-- a PIT has acted as the relay in this run -/
  relayed : Bool
deriving DecidableEq, Repr

/-- Tuner of one engine (R191 to R194). -/
structure Tuner where
  slot : Nat
  rule : Nat
  /-- relay state: +1 true; none before the first relay -/
  y : Option Bool
  /-- trigger time of the last switch from -1 to +1 -/
  lastUp : Option Nat
  /-- whether the first cycle has been discarded -/
  skipped : Bool
  periods : List Nat
  emin : Int
  emax : Int
  /-- trigger times: first and last of the measured span, and triggers in it -/
  firstT : Nat
  lastT : Nat
  runs : Nat
  /-- reason to fail with at the next run; 0 none -/
  failNext : Nat
deriving DecidableEq, Repr

/-- What a context keeps beside its registers (R184, R188, R189). -/
structure Ctx where
  /-- stamp of the pending trigger -/
  pendTime : Nat
  /-- CEN was cleared while a run was in progress: it takes effect at its end (R183) -/
  closing : Bool
  /-- the trigger watchdog has been started (R188) -/
  wdg : Bool
  /-- every enable check has passed: triggers are accepted (R182) -/
  accepts : Bool
deriving DecidableEq, Repr

/-- One trim engine (R167). -/
structure Engine where
  run : Option TrimRun
  /-- device time at which the last run ended -/
  freeAt : Nat
  tuner : Option Tuner
  /-- busy cycles in this interconnect period (R197) -/
  busy : Nat
deriving DecidableEq, Repr

/-! ### Acquisition, comparators and housekeeping (chapter 09) -/

/-- A running ADC sequence: SEQCFG.LAST and the SLOT words as they stood at its start (R200). -/
structure AdcSeq where
  last : Nat
  slots : List Word
deriving DecidableEq, Repr

/-- A demodulator's private state (R206, R207). -/
structure Sdm where
  /-- TRIGGERED mode: device time at which the open window began -/
  window : Option Nat
  /-- bits taken before this device time do not count (R207) -/
  clean : Nat
  /-- the short-circuit path drives its PWM units (R208) -/
  trip : Bool
deriving DecidableEq, Repr

/-- A comparator's private state (R213, R216). -/
structure Cmp where
  /-- it settles after a start: its Shroud input carries the settling mark -/
  mark : Bool
  /-- it runs under R210 -/
  running : Bool
  /-- Masthead comparator in its sleep setting: MICRO, routes deactivated (R216) -/
  asleep : Bool
  /-- the input as a command last gave it, in 1/256 of a threshold code -/
  x : Int
deriving DecidableEq, Repr

/-- Consecutive rounds a sensor has deviated, and has been within XDEV (R219). -/
structure Sensor where
  out : Nat
  within : Nat
deriving DecidableEq, Repr

/-! ### PWM units and gate channels (chapter 10) -/

/-- The waveform of one PWM channel (R224, R225, R228). -/
structure Wave where
  /-- inside the interval of R224 or R225 -/
  on : Bool
  /-- fine units since that side began, saturating at 65536 -/
  since : Nat
  /-- COMPL: the side that the dead time has judged long enough, H for true -/
  eff : Bool
  /-- EDGE mode: fine units until the carried interval ends -/
  left : Nat
deriving DecidableEq, Repr

/-- A PWM unit's private state. -/
structure Pwm where
  /-- the counter runs -/
  run : Bool
  /-- enabled as a follower and waiting for its source's first boundary (R233) -/
  wait : Bool
  count : Nat
  down : Bool
  /-- PER in force -/
  per : Nat
  /-- commit sets not yet loaded, newest first, each with the device time it completed at (R11) -/
  sets : List (Nat × List Word)
  /-- newest committed words, loaded or not: unwritten words of a later set keep them (R178) -/
  last : List Word
  /-- synchronous trip occurrences since the last load point (R231) -/
  tripS : Bool
  /-- TRIPCLR written and kept (R231) -/
  clr : Bool
  waves : List (Nat × Wave)
  /-- outputs after the interlock: bit 2k is H, bit 2k + 1 is L of channel k (R229) -/
  out : Nat
  /-- event generators: references counted since the start (R234); key 0, 1 -/
  eg : List (Nat × Nat)
  /-- channels that the converter or an actuator block gates OFF: bit k (R310, R351) -/
  gate : Nat
  /-- channels whose high side an actuator block holds OFF: bit k (R354, R357) -/
  high : Nat
deriving DecidableEq, Repr

/-- What path B has an island do (R155, R250). -/
inductive PathB where
  | run | x | l | xh
deriving DecidableEq, Repr

/-- A gate channel: its island and its link (R236 to R250). -/
structure Chan where
  /-- level of the command from the control die -/
  cmd : Bool
  /-- a rising command waits for the partner's gate-low confirmation (R248) -/
  wait : Bool
  /-- OFF until the next rising edge after a GCLR (R245) -/
  hold : Bool
  /-- path B code decoded -/
  b : PathB
  /-- positive rail below 13.0 V and not yet above 13.8 V (R246) -/
  uv : Bool
  /-- the isolated supply is up (R46, R157) -/
  supply : Bool
  /-- island link fault reported to housekeeping (R219) -/
  link : Bool
  /-- device time since which gate-low has been confirmed (R248) -/
  confAt : Nat
deriving DecidableEq, Repr

/-- A gate group's private state. -/
structure Group where
  /-- selected by path A: none is RUN (R155, R232) -/
  pathA : Gst
  /-- the source unit it receives commands from (R237) -/
  bound : Option Nat
  /-- a GCLR waits for the reef steps of the group to end (R245) -/
  clr : Bool
  /-- the reduced self-test is due since a warm wake (R253) -/
  warmDue : Bool
  /-- the running self-test omits the pulse -/
  reduced : Bool
deriving DecidableEq, Repr

/-- The synchronous-rectifier drivers: output levels, and outputs that wait for a rising command (R238); bit 2k is H of channel k. -/
structure Lv where
  srd : Nat
  hold : Nat
  /-- the source unit LVDRV receives commands from (R237) -/
  bound : Option Nat
deriving DecidableEq, Repr

/-! ### Toothed wheels, encoders and Halls (chapter 11) -/

/-- One counted edge: its stamp and the index it gave, unwrapped (R264). -/
structure TwEdge where
  time : Nat
  index : Int
deriving DecidableEq, Repr

/-- A toothed-wheel interface's private state. -/
structure Twl where
  run : Bool
  a : Bool
  b : Bool
  /-- index of the last edge, unwrapped by TURNS -/
  pos : Int
  /-- counted edges in the present direction, newest first -/
  edges : List TwEdge
  /-- stamps of successive rising edges of A in one direction, newest first -/
  rises : List Nat
  /-- net edges counted since the last rising edge of A, that edge included (R258) -/
  moved : Int
  /-- direction of the last counted edge, reverse for true -/
  rawRev : Bool
  /-- net edges counted since the last reference -/
  net : Int
  /-- a reference has been taken since enable -/
  refSeen : Bool
  /-- direction changed since the last reference (R259) -/
  turned : Bool
  /-- the next reference takes index 0 without a count comparison (R260) -/
  noCompare : Bool
  /-- REST is in force after enable or an error; it waits for a reference whose count passes (R267) -/
  rest : Bool
  restDue : Bool
  /-- raw count C less reported count R; `pos` is the index that R gives -/
  raw : Int
  /-- magnitude of the speed before the last reversal, and the stamp of the reversal edge (R266) -/
  revSpeed : Nat
  revTime : Nat
  /-- compare entries that are armed: bit k (R270) -/
  armed : Word
  /-- Shroud B: stamps of rising edges of A, newest first (R152) -/
  bRises : List Nat
  /-- Shroud B: its cycles since the last rising edge of A, up to 400 (100 ms) -/
  bQuiet : Nat
deriving DecidableEq, Repr

/-- Levels of an encoder output, the emulated count's position and its Z pulse (R273). -/
structure Enc where
  a : Bool
  b : Bool
  z : Bool
  /-- the source's position was valid -/
  valid : Bool
  /-- tick of the last output change -/
  last : Nat
  /-- tick until which a compare pulse holds Z high -/
  zUntil : Nat
deriving DecidableEq, Repr

/-- A Hall set: stamp of the last adjacent change and the code. -/
structure Hall where
  code : Nat
  lastAdj : Option Nat
deriving DecidableEq, Repr

/-! ### Converter, charger, pilot, actuators, contactors (chapters 13 to 15) -/

/-- The DC/DC converter's private state (chapter 13). -/
structure Dcdc where
  /-- VREF in 1/600 µV, so that SLEW times a period in ticks is whole (R313) -/
  vref : Nat
  /-- frequency in mHz (R315) -/
  fMilli : Nat
  /-- consecutive boundaries with the VOUT word invalid (R321) -/
  badV : Nat
  /-- device time of the last valid sync edge and of the one before, intervals, and edges in a row (R316) -/
  edge : Option Nat
  interval : Nat
  valid : Nat
  missing : Nat
deriving DecidableEq, Repr

/-- The charger's private state (chapter 14). -/
structure Obc where
  /-- a session has run since enable (R331) -/
  ran : Bool
  /-- export session -/
  export_ : Bool
  /-- I_S in A (R334) -/
  iSearch : Nat
  /-- export current ramp, in 10 µA (R343) -/
  iRamp : Nat
  /-- device time of the last end of a sag, plus one; 0 none (R334) -/
  sagEnd : Nat
  /-- pack current command I*, in 0.1 mA (R337) -/
  iStar : Nat
  /-- what the CV steps leave of I*, in 0.1 mA -/
  iCap : Nat
  /-- RMS of VAC1 to VAC3 in 0.1 V, and the line frequency in 0.01 Hz, as last measured (R333) -/
  rms : List Nat
  freq : Nat
  /-- HANDOVER: 0 current ramp, 1 wait for the lines, 2 bus discharge (R339) -/
  step : Nat
  /-- RUN of the PFC law, RUN and PRE of the DAB law, and its bus target in V (R324) -/
  pfcRun : Bool
  dabRun : Bool
  pre : Bool
  target : Nat
  /-- S2 as the block wants it -/
  s2 : Bool
  /-- device time since which the connector has been present with CP in state B, plus one; 0 otherwise (R331) -/
  since : Nat
  /-- the last session ended with one of the causes that blink the STATUS lamp (R345) -/
  blink : Bool
deriving DecidableEq, Repr

/-- A lamp: the pattern it runs, the interval it stands in, its level, and whether it is off for overcurrent (R345). -/
structure Lamp where
  pattern : Nat
  phase : Nat
  on : Bool
  off : Bool
deriving DecidableEq, Repr

/-- An actuator bridge's private state (chapter 15). -/
structure Act where
  /-- SREF in rpm, and the integrator of the speed law in Q1.31 duty (R353) -/
  sref : Int
  integ : Int
  /-- measured speed in rpm (R352) -/
  speed : Int
  /-- COAST came from SPD: RUN may follow it (R355) -/
  again : Bool
  /-- phases whose high side is off: for the current limit, and for bootstrap undervoltage (R354, R357) -/
  limited : Nat
  bsuv : Nat
  /-- bootstrap voltage of a phase as last measured, in mV (R357) -/
  boot : List (Nat × Nat)
  /-- periods since the last bootstrap refresh (R357) -/
  periods : Nat
  /-- a stop has arisen since the last period boundary (R356) -/
  recent : Bool
deriving DecidableEq, Repr

/-- The contactor block's private state (chapter 15). -/
structure Ctr where
  /-- outputs in pull-in -/
  pull : Word
  /-- NEG opens when its 20 ms pass (R366) -/
  negDue : Bool
  /-- the short check of step P has passed (R364) -/
  shortOk : Bool
deriving DecidableEq, Repr

/-! ### Rings and correlator (chapter 16) -/

/-- A channel of a node as the controller reconstructs it (R386, R387, R389). -/
structure Recon where
  r : Int
  valid : Bool
  approx : Bool
  /-- LOSSLESS: running sum S -/
  sum : Nat
  /-- FIXED and LOSSLESS: a reference (anchor or absolute value) has arrived since the start or the last loss -/
  sync : Bool
  /-- newest sample valid and not APPROX, and its cycle -/
  good : Option (Int × Nat)
deriving DecidableEq, Repr

/-- A transaction in flight: descriptor index, its four words and its payload (R390). -/
structure RingTx where
  index : Nat
  words : List Word
deriving DecidableEq, Repr

/-- A ring controller's private state (R378 to R393). -/
structure Ring where
  /-- node table read at enumeration: address to facts, addresses rising -/
  nodes : List (Nat × NodeFacts)
  /-- COMP written to a node: COMPB, COMPA (R380) -/
  comp : List (Nat × Word)
  /-- nodes below reachA are reached from port a, nodes from reachB on from port b (R393) -/
  reachA : Nat
  reachB : Nat
  /-- cycle number, and device time t_c of the SYNC in force (R381) -/
  cycle : Nat
  tc : Nat
  /-- the STREAM frame of the cycle is under way -/
  sent : Bool
  /-- key 18a + j -/
  recon : List (Nat × Recon)
  /-- transactions in flight with their tags, oldest first (R390) -/
  tags : List (Nat × RingTx)
  /-- the port of a ring owned by the partner turns every frame back (R434) -/
  loopback : Bool
  /-- device time at which the wake tone ends, plus one; 0 none (R377) -/
  tone : Nat
deriving DecidableEq, Repr

/-- A correlator block's private state (R396 to R398). -/
structure Zcor where
  /-- code_c0 of cell c, plus one; 0 none yet -/
  first : List (Nat × Nat)
  /-- bins m_j taken at START -/
  bins : List Nat
  /-- II_j and IQ_j -/
  ii : List (Nat × Int)
  iq : List (Nat × Int)
  /-- the newest current word, and the two words around this cycle's t_s once both have come (R397) -/
  last : Sample
  around : List Sample
deriving DecidableEq, Repr

/-! ### Twin and networks (chapters 18 and 19) -/

/-- The Twin link's private state (R428 to R439). -/
structure Twin where
  /-- sequence byte of the next frame sent, and the last frame sent -/
  seq : Byte
  lastSent : List Byte
  /-- SEQ of the last valid frame received; none after a loss -/
  rxSeq : Option Byte
  /-- consecutive valid frames since the loss -/
  good : Nat
  lost : Bool
  /-- partner DEM bits in force; DEM bits requested through XREQ (R431) -/
  dem : Word
  xreq : Word
  /-- good (true) and bad frame slots of the two lanes, newest first, at most 16 (R428) -/
  lane0 : List Bool
  lane1 : List Bool
  /-- lanes that have delivered this slot's frame: bit 0, bit 1 -/
  heard : Nat
  /-- rings whose token was sent to the partner (R437) -/
  token : Word
deriving DecidableEq, Repr

/-- NTOFS in force, and its staged low word (R449). -/
structure Net where
  ntofs : Nat
  /-- wake filter copied into the CAN0 transceiver at sleep entry (R451): WUF, WUFMASK, WUFDATA0, WUFDATA1, NBT -/
  wake : List Word
  /-- links up: bit n -/
  link : Word
  /-- CAN ports off the bus: bit n; ports stopped by a PLL_NET fault: bit 4 + n for ETHn -/
  busOff : Word
  stopped : Word
deriving DecidableEq, Repr

/-- Levels the pins stand at (R29 to R37): VS, VP_ACT, VP_CTR in 10 mV, the PINS word of R92, and DCDC_SYNC with it. [DESIGN CHOICE, assumption 73] -/
structure Pins where
  vs : Nat
  vpAct : Nat
  pins : Word
  /-- hold of the emulated safe reset channels: bits 0 and 1 of SINSTAT [25:24] -/
  safeReset : Word
deriving DecidableEq, Repr

/-! ### Goldon management subsystem (chapter 17) -/

/-- KIND of an event-log entry (R410). -/
inductive LogKind where
  | event | start | dip | mark | access | update
deriving DecidableEq, Repr

/-- One event-log entry (R410). -/
structure LogEntry where
  time : Nat
  count : Nat
  kind : LogKind
  event : Nat
  starts : Nat
  low : Nat
deriving DecidableEq, Repr

/-- A refused access as the black-box summary keeps it (R74, R409). -/
structure Refused where
  addr : Word
  port : Nat
  reason : Nat
  write : Bool
deriving DecidableEq, Repr

/-- A logged supply dip: its duration in device ticks and its minimum in 10 mV (R63, R409). -/
structure Dip where
  ticks : Nat
  lowest : Nat
deriving DecidableEq, Repr

/-- The live black-box record of R409, and the snapshot a commit writes. -/
structure BlackBox where
  starts : Nat
  causes : List Word
  dips : List Dip
  refusedEvr0 : List Refused
  refusedEvr1 : List Refused
  refusedGms : List Refused
  log : List LogEntry
  lost : Nat
  recmask : BitVec 256
  bbper : Nat
  /-- outcomes of the attempts to relock PLL_NET, oldest first (R57) -/
  relocks : List Bool
  /-- CAUSE of the converter at the last supply reset (R67) -/
  dcdcCause : Nat
deriving DecidableEq, Repr

/-- What GMS does once the commit in progress has completed (R53, R56, R404, R412, R64). -/
inductive AfterCommit where
  | nothing | sleep | coldReset (cause : Nat)
deriving DecidableEq, Repr

/-- One linear segment of a fault capture (R414). -/
structure Segment where
  chan : Nat
  inv : Bool
  len : Nat
  value : Nat
deriving DecidableEq, Repr

/-- An open segment of one capture channel: the exact sample it starts from (none: the channel opens), and the samples since. -/
structure OpenSeg where
  from_ : Option Int
  run : List (Option Int)
deriving DecidableEq, Repr

/-- Fault capture (R413 to R415). -/
structure Capture where
  sels : List Nat
  fcper : Nat
  fcpost : Nat
  trig : List Nat
  shroudTrig : Bool
  /-- device time of the trigger -/
  trigAt : Option Nat
  /-- triggers after the first -/
  later : Nat
  open_ : List (Nat × OpenSeg)
  /-- closed segments, newest first -/
  segs : List Segment
  /-- segments closed since arming -/
  total : Nat
  /-- ticks since arming -/
  ticks : Nat
  /-- tick of the trigger -/
  trigTick : Nat
deriving DecidableEq, Repr

/-- One passport impedance-trend entry (R418 key 12). -/
structure ZTrend where
  rtc : Word
  mHz : Word
  cells : Word
  median : Word
  p95 : Word
  maxZ : Word
deriving DecidableEq, Repr

/-- The energy meter and the pack passport's counters (R416 to R418). Energies and charges in mJ and mC times 2^32. -/
structure Meter where
  misel : Nat
  /-- full scale in mA -/
  mifs : Nat
  gain : Word
  offs : Word
  negate : Bool
  ringMask : Nat
  /-- capacity in mAh -/
  capacity : Nat
  packId : List Word
  calseq : Nat
  eIn : Nat
  eOut : Nat
  qIn : Nat
  qOut : Nat
  /-- metering gaps in device ticks; GAPT shows ms -/
  gapTicks : Nat
  /-- stamp of the last current word -/
  lastT : Option Nat
  /-- the two newest VBAT words (R416) -/
  vb0 : Sample
  vb1 : Sample
  temp : List (Nat × Nat)
  cCharge : List (Nat × Nat)
  cDischarge : List (Nat × Nat)
  trend : List ZTrend
  /-- newest last: RTC and personality (true STORE) -/
  personalities : List (Word × Bool)
deriving DecidableEq, Repr

/-- A download into the inactive slot (R421). -/
structure Download where
  slotB : Bool
  length : Nat
  /-- bytes received -/
  got : Nat
  /-- sequence byte expected next -/
  seq : Byte
deriving DecidableEq, Repr

/-- Challenge outstanding: the level it opens and the device time it was issued at (R424). -/
structure Challenge where
  level : Nat
  chan : Nat
  issued : Nat
deriving DecidableEq, Repr

/-- What the last UDS request was answered with. -/
inductive UdsAnswer where
  | none_ | positive (data : List Byte) | negative (nrc : Byte)
deriving DecidableEq, Repr

/-- Goldon's private state (R401 to R426). -/
structure Gms where
  /-- the GMS core is being reset; doorbells complete with GMS_DOWN (R61, R403) -/
  restarting : Bool
  /-- pairs whose mailbox command is in progress, in doorbell order (R403) -/
  doors : List Nat
  bb : BlackBox
  /-- snapshot taken at the start of the commit in progress (R412) -/
  snap : Option BlackBox
  after : AfterCommit
  /-- a commit broken by a GMS restart is repeated (chapter 17, restart during a commit) -/
  repeatCommit : Bool
  fc : Capture
  meter : Meter
  /-- diagnostic session of channel 0 to 5 (R421) -/
  session : List (Nat × Byte)
  challenge : Option Challenge
  download : Option Download
  /-- the other slot verified under R419 by routine 0xFF01 -/
  checked : Option Bool
  confirms : List Nat
  uds : UdsAnswer
deriving DecidableEq, Repr

/-- What the MRAM and the OTP keep through every reset, beside the MRAM bytes themselves (R405, R418 to R425). [DESIGN CHOICE, assumption 63] -/
structure Kept where
  /-- personality for the next cold start: true STORE (R1) -/
  store : Bool
  /-- Shroud configuration stored by COMMISSION (R148): offset and word -/
  config : Option (List (Nat × Word))
  /-- newest black-box snapshot (R409) -/
  bb : Option BlackBox
  /-- newest meter and passport record (R417, R418) -/
  meter : Option Meter
  /-- active slot is B (R420) -/
  slotB : Bool
  /-- slot marked as trial: none, A, B (R421) -/
  trial : Option Bool
  /-- a trial has been booted and not yet confirmed -/
  trialRan : Bool
  /-- slot marked rejected -/
  rejected : Option Bool
  /-- rollback index of the trial slot, to be burned on confirmation -/
  trialIndex : Nat
  rollback : Nat
  /-- consecutive access failures (R425) -/
  fails : Nat
  /-- RTC second of the last MRAM scrub (R408) -/
  scrubbed : Nat
deriving DecidableEq, Repr

/-! ### Values right after the first power-up of the Masthead -/

/-- Power control of a machine that was never powered: dark. [DESIGN CHOICE, assumption 4; DESIGN CHOICE, assumption 69] -/
def Power.reset : Power where
  phase := .dark
  store := false
  savedReq := 7#32
  sealed := 0
  writes := 0
  switching := []
  dip := none
  relocks := 0
  dtime := 0
  second := 0

def PageHid.reset : PageHid where
  key := .idle
  latch := none
  due := false

def PortSt.reset : PortSt where
  resp := .none_
  dtimeH0 := 0#32
  dtimeH1 := 0#32
  ntH := 0#32

def CapHid.reset : CapHid where
  frozen := none
  held := none

/-- The router with nothing in flight. [DESIGN CHOICE, assumption 69] -/
def Router.reset : Router where
  pulses := []
  entries := []

/-- The interconnect with nothing queued, parked or held. [DESIGN CHOICE, assumption 69] -/
def Icx.reset : Icx where
  queue := []
  parked := []
  held := []
  wait := []
  ranks := []
  granted := []
  lock := []
  charged := []
  broken := 0#32

/-- A core that has run nothing. [DESIGN CHOICE, assumption 68] -/
def Core.reset : Core where
  x := []
  f := []
  csr := []
  pc := 0#32
  stalled := false
  fence := false

def PairSt.reset : PairSt where
  inReset := true
  wire := false
  window := none
  final := false
  copying := false
  aligns := []
  replay := []
  syncCore := none
  loaded := false

def GroupDec.reset : GroupDec where
  gst := .held
  fns := 0
  latchL := false
  ss1 := none

def Image.reset : Image where
  sin := 0#32
  disc := 0#32
  trips := 0#32
  marks := 0#32
  gates := 0#32
  pairs := 0#32
  ctx := 0#32
  ctxTrip := 0#32
  misc := 0#32

def Channel.reset : Channel where
  state := 0
  image := Image.reset
  groups := []
  cls := []
  bist := false
  park := false

/-- Shroud before its stage of the first cold start. [DESIGN CHOICE, assumption 69] -/
def Shroud.reset : Shroud where
  a := Channel.reset
  b := Channel.reset
  diffImages := 0
  diffStates := 0
  missed := 0
  cfgOk := false
  cfgLoaded := false
  pins := []
  demand := 0#32
  disc := 0#32
  overruns := []
  trips := 0#32
  tripsA := 0#32
  tripsB := 0#32
  oversA := 0#32
  oversB := 0#32
  cmpsA := 0#32
  cmpsB := 0#32
  cut := 0#32
  clock := false
  supply := false
  ctrLine := false
  inhibit := 0#32
  connector := false
  twinA := 0#32
  twinB := 0#32
  classDiff := 0#32

def Engine.reset : Engine where
  run := none
  freeAt := 0
  tuner := none
  busy := 0

def Ctx.reset : Ctx where
  pendTime := 0
  closing := false
  wdg := false
  accepts := false

def Sample.reset : Sample where
  value := 0#32
  valid := false
  time := 0

def AdcSeq.reset : AdcSeq where
  last := 0
  slots := []

def Sdm.reset : Sdm where
  window := none
  clean := 0
  trip := false

def Cmp.reset : Cmp where
  mark := false
  running := false
  asleep := false
  x := 0

def Sensor.reset : Sensor where
  out := 0
  within := 0

def Wave.reset : Wave where
  on := false
  since := 0
  eff := false
  left := 0

/-- A PWM unit that is stopped. [DESIGN CHOICE, assumption 69] -/
def Pwm.reset : Pwm where
  run := false
  wait := false
  count := 0
  down := false
  per := 0x3A98
  sets := []
  last := [0#32, 0#32, 0#32, 0#32, 0#32, 0#32, 0#32, 0#32]
  tripS := false
  clr := false
  waves := []
  out := 0
  eg := []
  gate := 0
  high := 0

/-- A gate channel with no command. [DESIGN CHOICE, assumption 69] -/
def Chan.reset : Chan where
  cmd := false
  wait := false
  hold := false
  b := .x
  uv := false
  supply := false
  link := false
  confAt := 0

def Group.reset : Group where
  pathA := .held
  bound := none
  clr := false
  warmDue := false
  reduced := false

def Lv.reset : Lv where
  srd := 0
  hold := 0
  bound := none

def Twl.reset : Twl where
  run := false
  a := false
  b := false
  pos := 0
  edges := []
  rises := []
  moved := 0
  rawRev := false
  net := 0
  refSeen := false
  turned := false
  noCompare := false
  rest := false
  restDue := false
  raw := 0
  revSpeed := 0
  revTime := 0
  armed := 0xFFFF#32
  bRises := []
  bQuiet := 0

def Enc.reset : Enc where
  a := false
  b := false
  z := false
  valid := false
  last := 0
  zUntil := 0

def Hall.reset : Hall where
  code := 0
  lastAdj := none

def Dcdc.reset : Dcdc where
  vref := 0
  fMilli := 0
  badV := 0
  edge := none
  interval := 0
  valid := 0
  missing := 0

/-- The charger idle. [DESIGN CHOICE, assumption 69] -/
def Obc.reset : Obc where
  ran := false
  export_ := false
  iSearch := 0
  iRamp := 0
  sagEnd := 0
  iStar := 0
  iCap := 0
  rms := [0, 0, 0]
  freq := 0
  step := 0
  pfcRun := false
  dabRun := false
  pre := false
  target := 0
  s2 := false
  since := 0
  blink := false

def Lamp.reset : Lamp where
  pattern := 0
  phase := 0
  on := false
  off := false

def Act.reset : Act where
  sref := 0
  integ := 0
  speed := 0
  again := false
  limited := 0
  bsuv := 0
  boot := []
  periods := 0
  recent := false

def Ctr.reset : Ctr where
  pull := 0#32
  negDue := false
  shortOk := false

def Recon.reset : Recon where
  r := 0
  valid := false
  approx := false
  sum := 0
  sync := false
  good := none

/-- The ring with no node found. [DESIGN CHOICE, assumption 69] -/
def Ring.reset : Ring where
  nodes := []
  comp := []
  reachA := 0
  reachB := 0
  cycle := 0
  tc := 0
  sent := false
  recon := []
  tags := []
  loopback := false
  tone := 0

def Zcor.reset : Zcor where
  first := []
  bins := []
  ii := []
  iq := []
  last := Sample.reset
  around := []

def Twin.reset : Twin where
  seq := 0#8
  lastSent := []
  rxSeq := none
  good := 0
  lost := false
  dem := 0#32
  xreq := 0#32
  lane0 := []
  lane1 := []
  heard := 0
  token := 0#32

def Net.reset : Net where
  ntofs := 0
  wake := []
  link := 0#32
  busOff := 0#32
  stopped := 0#32

def Pins.reset : Pins where
  vs := 0
  vpAct := 0
  pins := 0#32
  safeReset := 0#32

def Meter.reset : Meter where
  misel := 0
  mifs := 0
  gain := 0#32
  offs := 0#32
  negate := false
  ringMask := 0
  capacity := 0
  packId := []
  calseq := 0
  eIn := 0
  eOut := 0
  qIn := 0
  qOut := 0
  gapTicks := 0
  lastT := none
  vb0 := Sample.reset
  vb1 := Sample.reset
  temp := []
  cCharge := []
  cDischarge := []
  trend := []
  personalities := []

/-- The events a fresh RECMASK selects (R411): EV064 to EV095, EV168 to EV199, EV216 to EV230, EV232 to EV253. -/
def recmaskReset : BitVec 256 :=
  BitVec.ofNat 256 ((2 ^ 32 - 1) * 2 ^ 64 + (2 ^ 32 - 1) * 2 ^ 168 + (2 ^ 15 - 1) * 2 ^ 216 + (2 ^ 22 - 1) * 2 ^ 232)

def BlackBox.reset : BlackBox where
  starts := 0
  causes := []
  dips := []
  refusedEvr0 := []
  refusedEvr1 := []
  refusedGms := []
  log := []
  lost := 0
  recmask := recmaskReset
  bbper := 60
  relocks := []
  dcdcCause := 0

def Capture.reset : Capture where
  sels := []
  fcper := 1
  fcpost := 0
  trig := []
  shroudTrig := false
  trigAt := none
  later := 0
  open_ := []
  segs := []
  total := 0
  ticks := 0
  trigTick := 0

/-- Goldon before its first boot. [DESIGN CHOICE, assumption 69] -/
def Gms.reset : Gms where
  restarting := false
  doors := []
  bb := BlackBox.reset
  snap := none
  after := .nothing
  repeatCommit := false
  fc := Capture.reset
  meter := Meter.reset
  session := []
  challenge := none
  download := none
  checked := none
  confirms := []
  uds := .none_

/-- What the non-volatile stores hold before anything is committed to them. [DESIGN CHOICE, assumption 69] -/
def Kept.reset : Kept where
  store := false
  config := none
  bb := none
  meter := none
  slotB := false
  trial := none
  trialRan := false
  rejected := none
  trialIndex := 0
  rollback := 0
  fails := 0
  scrubbed := 0


/-- The module's state. -/
structure State where
  /-- commands waiting, first in first out -/
  pending : List Instr
  /-- page registers, by byte offset from 0x4000_0000 (chapter 04 and every register table) -/
  regs : List (Nat × Word)
  /-- addressed memories, by address: TCMs, MRAM, SRAM, correlator RAM, trim memories, mailbox payload (R19) -/
  mem : List Host.Cell
  /-- the model's own counter of free values taken (DESIGN CHOICE, assumption 1) -/
  free : Nat
  /-- chapter 03 -/
  pwr : Power
  /-- levels the pins stand at -/
  pins : Pins
  /-- MRAM and OTP records (chapter 17) -/
  kept : Kept
  /-- Goldon (chapter 17) -/
  gms : Gms
  /-- key: page number -/
  pages : List (Nat × PageHid)
  /-- key: initiator port -/
  ports : List (Nat × PortSt)
  /-- key: 8n + k -/
  caps : List (Nat × CapHid)
  /-- event router (R85 to R94) -/
  router : Router
  /-- interconnect (chapter 05) -/
  icx : Icx
  /-- key: core 0 to 3 -/
  cores : List (Nat × Core)
  /-- key: pair -/
  pairs : List (Nat × PairSt)
  /-- chapter 07 -/
  shroud : Shroud
  /-- key: engine -/
  engines : List (Nat × Engine)
  /-- key: context 8n + i -/
  ctxs : List (Nat × Ctx)
  /-- sample bus, key: selector (R176) -/
  samples : List (Nat × Sample)
  /-- key: ADC, running sequence -/
  adcs : List (Nat × AdcSeq)
  /-- key: demodulator -/
  sdms : List (Nat × Sdm)
  /-- key: comparator -/
  cmps : List (Nat × Cmp)
  /-- key: temperature sensor -/
  sensors : List (Nat × Sensor)
  /-- key: PWM unit -/
  pwms : List (Nat × Pwm)
  /-- key: gate channel -/
  chans : List (Nat × Chan)
  /-- key: gate group -/
  groups : List (Nat × Group)
  /-- key: HV sense channel; the ADC whose conversion its word holds (R203) -/
  hvs : List (Nat × Nat)
  /-- synchronous-rectifier drivers -/
  lvdrv : Lv
  /-- key: wheel interface -/
  twls : List (Nat × Twl)
  /-- key: encoder output -/
  encs : List (Nat × Enc)
  /-- key: Hall set -/
  halls : List (Nat × Hall)
  /-- chapter 13 -/
  dcdc : Dcdc
  /-- chapter 14 -/
  obc : Obc
  /-- key: 0 CHG, 1 STATUS -/
  lamps : List (Nat × Lamp)
  /-- key: bridge -/
  acts : List (Nat × Act)
  /-- contactors -/
  ctr : Ctr
  /-- key: ring -/
  rings : List (Nat × Ring)
  /-- key: ring -/
  zcors : List (Nat × Zcor)
  /-- chapter 18 -/
  twin : Twin
  /-- chapter 19 -/
  net : Net
deriving DecidableEq, Repr

/-- Why a step faults. [DESIGN CHOICE, assumption 8] -/
inductive Fault where
  /-- A command whose operands the spec gives no meaning, such as a transaction of 3 bytes (R96): no such command exists. Safe: the machine
  stops where nothing could have been commanded. -/
  | illFormedCommand
deriving DecidableEq, Repr

/-- Why a command is refused by the model. -/
inductive Refusal where
  /-- Raised by Dispatch alone, for a row without a meaning. Safe. -/
  | notModelled (mnemonic : String)
deriving DecidableEq, Repr

/-- The module right after the first power-up of the Masthead, VS not yet through 9.0 V: every register at its reset value, memory with
nothing listed, an empty queue. [DESIGN CHOICE, assumption 4] -/
def State.reset : State where
  pending := []
  regs := []
  mem := []
  free := 0
  pwr := Power.reset
  pins := Pins.reset
  kept := Kept.reset
  gms := Gms.reset
  pages := []
  ports := []
  caps := []
  router := Router.reset
  icx := Icx.reset
  cores := []
  pairs := []
  shroud := Shroud.reset
  engines := []
  ctxs := []
  samples := []
  adcs := []
  sdms := []
  cmps := []
  sensors := []
  pwms := []
  chans := []
  groups := []
  hvs := []
  lvdrv := Lv.reset
  twls := []
  encs := []
  halls := []
  dcdc := Dcdc.reset
  obc := Obc.reset
  lamps := []
  acts := []
  ctr := Ctr.reset
  rings := []
  zcors := []
  twin := Twin.reset
  net := Net.reset

end Sys2Proof.Machine
end

