-- ==== Sys2Proof/Machine/Set.lean ====
section
/-! DEFINITION. One setter per field of State; Laws/State.lean says of each what every field reads after it. -/

namespace Sys2Proof.Machine

/-- The state with its pending replaced. -/
def State.setPending (s : State) (v : List Instr) : State := { s with pending := v }
/-- The state with its regs replaced. -/
def State.setRegs (s : State) (v : List (Nat × Word)) : State := { s with regs := v }
/-- The state with its mem replaced. -/
def State.setMem (s : State) (v : List Host.Cell) : State := { s with mem := v }
/-- The state with its free replaced. -/
def State.setFree (s : State) (v : Nat) : State := { s with free := v }
/-- The state with its pwr replaced. -/
def State.setPwr (s : State) (v : Power) : State := { s with pwr := v }
/-- The state with its pins replaced. -/
def State.setPins (s : State) (v : Pins) : State := { s with pins := v }
/-- The state with its kept replaced. -/
def State.setKept (s : State) (v : Kept) : State := { s with kept := v }
/-- The state with its gms replaced. -/
def State.setGms (s : State) (v : Gms) : State := { s with gms := v }
/-- The state with its pages replaced. -/
def State.setPages (s : State) (v : List (Nat × PageHid)) : State := { s with pages := v }
/-- The state with its ports replaced. -/
def State.setPorts (s : State) (v : List (Nat × PortSt)) : State := { s with ports := v }
/-- The state with its caps replaced. -/
def State.setCaps (s : State) (v : List (Nat × CapHid)) : State := { s with caps := v }
/-- The state with its router replaced. -/
def State.setRouter (s : State) (v : Router) : State := { s with router := v }
/-- The state with its icx replaced. -/
def State.setIcx (s : State) (v : Icx) : State := { s with icx := v }
/-- The state with its cores replaced. -/
def State.setCores (s : State) (v : List (Nat × Core)) : State := { s with cores := v }
/-- The state with its pairs replaced. -/
def State.setPairs (s : State) (v : List (Nat × PairSt)) : State := { s with pairs := v }
/-- The state with its shroud replaced. -/
def State.setShroud (s : State) (v : Shroud) : State := { s with shroud := v }
/-- The state with its engines replaced. -/
def State.setEngines (s : State) (v : List (Nat × Engine)) : State := { s with engines := v }
/-- The state with its ctxs replaced. -/
def State.setCtxs (s : State) (v : List (Nat × Ctx)) : State := { s with ctxs := v }
/-- The state with its samples replaced. -/
def State.setSamples (s : State) (v : List (Nat × Sample)) : State := { s with samples := v }
/-- The state with its adcs replaced. -/
def State.setAdcs (s : State) (v : List (Nat × AdcSeq)) : State := { s with adcs := v }
/-- The state with its sdms replaced. -/
def State.setSdms (s : State) (v : List (Nat × Sdm)) : State := { s with sdms := v }
/-- The state with its cmps replaced. -/
def State.setCmps (s : State) (v : List (Nat × Cmp)) : State := { s with cmps := v }
/-- The state with its sensors replaced. -/
def State.setSensors (s : State) (v : List (Nat × Sensor)) : State := { s with sensors := v }
/-- The state with its pwms replaced. -/
def State.setPwms (s : State) (v : List (Nat × Pwm)) : State := { s with pwms := v }
/-- The state with its chans replaced. -/
def State.setChans (s : State) (v : List (Nat × Chan)) : State := { s with chans := v }
/-- The state with its groups replaced. -/
def State.setGroups (s : State) (v : List (Nat × Group)) : State := { s with groups := v }
/-- The state with its hvs replaced. -/
def State.setHvs (s : State) (v : List (Nat × Nat)) : State := { s with hvs := v }
/-- The state with its lvdrv replaced. -/
def State.setLvdrv (s : State) (v : Lv) : State := { s with lvdrv := v }
/-- The state with its twls replaced. -/
def State.setTwls (s : State) (v : List (Nat × Twl)) : State := { s with twls := v }
/-- The state with its encs replaced. -/
def State.setEncs (s : State) (v : List (Nat × Enc)) : State := { s with encs := v }
/-- The state with its halls replaced. -/
def State.setHalls (s : State) (v : List (Nat × Hall)) : State := { s with halls := v }
/-- The state with its dcdc replaced. -/
def State.setDcdc (s : State) (v : Dcdc) : State := { s with dcdc := v }
/-- The state with its obc replaced. -/
def State.setObc (s : State) (v : Obc) : State := { s with obc := v }
/-- The state with its lamps replaced. -/
def State.setLamps (s : State) (v : List (Nat × Lamp)) : State := { s with lamps := v }
/-- The state with its acts replaced. -/
def State.setActs (s : State) (v : List (Nat × Act)) : State := { s with acts := v }
/-- The state with its ctr replaced. -/
def State.setCtr (s : State) (v : Ctr) : State := { s with ctr := v }
/-- The state with its rings replaced. -/
def State.setRings (s : State) (v : List (Nat × Ring)) : State := { s with rings := v }
/-- The state with its zcors replaced. -/
def State.setZcors (s : State) (v : List (Nat × Zcor)) : State := { s with zcors := v }
/-- The state with its twin replaced. -/
def State.setTwin (s : State) (v : Twin) : State := { s with twin := v }
/-- The state with its net replaced. -/
def State.setNet (s : State) (v : Net) : State := { s with net := v }

end Sys2Proof.Machine
end

