-- ==== Sys2Proof/Machine/Ops.lean ====
section
/-! DEFINITION. The named operations over registers, memory, numbered units and the clock that every meaning is written in. -/

namespace Sys2Proof.Machine

/-- What a meaning answers. -/
abbrev Res := Host.Outcome State Fault Refusal

/-! ### Page registers -/

/-- The register at byte offset a from 0x4000_0000, as stored. -/
def State.reg (s : State) (a : Nat) : Word := Store.get regDefault s.regs a

/-- A register made to hold v. -/
def State.setReg (s : State) (a : Nat) (v : Word) : State := s.setRegs (Store.put regDefault a v s.regs)

/-- A field of a register. -/
def State.fld (s : State) (a hi lo : Nat) : Nat := bits (s.reg a) hi lo

/-- A bit of a register. -/
def State.flag (s : State) (a i : Nat) : Bool := bit (s.reg a) i

/-- A register with one field replaced. -/
def State.setFld (s : State) (a hi lo v : Nat) : State := s.setReg a (setBits (s.reg a) hi lo v)

/-- A register with one bit replaced. -/
def State.setFlag (s : State) (a i : Nat) (b : Bool) : State := s.setReg a (setBit (s.reg a) i b)

/-- A register with the bits of m set. -/
def State.orReg (s : State) (a : Nat) (m : Word) : State := s.setReg a (s.reg a ||| m)

/-- A register with the bits of m cleared. -/
def State.clrReg (s : State) (a : Nat) (m : Word) : State := s.setReg a (s.reg a &&& ~~~m)

/-- Every register whose address p holds of back at its reset value. -/
def State.clearRegs (s : State) (p : Nat → Bool) : State := s.setRegs (Store.clear p s.regs)

/-- A saturating counter field raised by one. -/
def State.bump (s : State) (a hi lo : Nat) : State :=
  s.setFld a hi lo (min (s.fld a hi lo + 1) (2 ^ (hi + 1 - lo) - 1))

/-- A wrapping counter field raised by one. -/
def State.wrap (s : State) (a hi lo : Nat) : State := s.setFld a hi lo (s.fld a hi lo + 1)

/-! ### Numbered units -/

/-- PageHid number k. -/
def State.page (s : State) (k : Nat) : PageHid := Store.get (fun _ => PageHid.reset) s.pages k
/-- PageHid number k replaced. -/
def State.putPage (s : State) (k : Nat) (v : PageHid) : State := s.setPages (Store.put (fun _ => PageHid.reset) k v s.pages)
/-- PortSt number k. -/
def State.port (s : State) (k : Nat) : PortSt := Store.get (fun _ => PortSt.reset) s.ports k
/-- PortSt number k replaced. -/
def State.putPort (s : State) (k : Nat) (v : PortSt) : State := s.setPorts (Store.put (fun _ => PortSt.reset) k v s.ports)
/-- CapHid number k. -/
def State.cap (s : State) (k : Nat) : CapHid := Store.get (fun _ => CapHid.reset) s.caps k
/-- CapHid number k replaced. -/
def State.putCap (s : State) (k : Nat) (v : CapHid) : State := s.setCaps (Store.put (fun _ => CapHid.reset) k v s.caps)
/-- Core number k. -/
def State.core (s : State) (k : Nat) : Core := Store.get (fun _ => Core.reset) s.cores k
/-- Core number k replaced. -/
def State.putCore (s : State) (k : Nat) (v : Core) : State := s.setCores (Store.put (fun _ => Core.reset) k v s.cores)
/-- PairSt number k. -/
def State.pair (s : State) (k : Nat) : PairSt := Store.get (fun _ => PairSt.reset) s.pairs k
/-- PairSt number k replaced. -/
def State.putPair (s : State) (k : Nat) (v : PairSt) : State := s.setPairs (Store.put (fun _ => PairSt.reset) k v s.pairs)
/-- Engine number k. -/
def State.engine (s : State) (k : Nat) : Engine := Store.get (fun _ => Engine.reset) s.engines k
/-- Engine number k replaced. -/
def State.putEngine (s : State) (k : Nat) (v : Engine) : State := s.setEngines (Store.put (fun _ => Engine.reset) k v s.engines)
/-- Ctx number k. -/
def State.ctx (s : State) (k : Nat) : Ctx := Store.get (fun _ => Ctx.reset) s.ctxs k
/-- Ctx number k replaced. -/
def State.putCtx (s : State) (k : Nat) (v : Ctx) : State := s.setCtxs (Store.put (fun _ => Ctx.reset) k v s.ctxs)
/-- Sample number k. -/
def State.word (s : State) (k : Nat) : Sample := Store.get (fun _ => Sample.reset) s.samples k
/-- Sample number k replaced. -/
def State.putSample (s : State) (k : Nat) (v : Sample) : State := s.setSamples (Store.put (fun _ => Sample.reset) k v s.samples)
/-- AdcSeq number k. -/
def State.adc (s : State) (k : Nat) : AdcSeq := Store.get (fun _ => AdcSeq.reset) s.adcs k
/-- AdcSeq number k replaced. -/
def State.putAdc (s : State) (k : Nat) (v : AdcSeq) : State := s.setAdcs (Store.put (fun _ => AdcSeq.reset) k v s.adcs)
/-- Sdm number k. -/
def State.sdm (s : State) (k : Nat) : Sdm := Store.get (fun _ => Sdm.reset) s.sdms k
/-- Sdm number k replaced. -/
def State.putSdm (s : State) (k : Nat) (v : Sdm) : State := s.setSdms (Store.put (fun _ => Sdm.reset) k v s.sdms)
/-- Cmp number k. -/
def State.cmp (s : State) (k : Nat) : Cmp := Store.get (fun _ => Cmp.reset) s.cmps k
/-- Cmp number k replaced. -/
def State.putCmp (s : State) (k : Nat) (v : Cmp) : State := s.setCmps (Store.put (fun _ => Cmp.reset) k v s.cmps)
/-- Sensor number k. -/
def State.sensor (s : State) (k : Nat) : Sensor := Store.get (fun _ => Sensor.reset) s.sensors k
/-- Sensor number k replaced. -/
def State.putSensor (s : State) (k : Nat) (v : Sensor) : State := s.setSensors (Store.put (fun _ => Sensor.reset) k v s.sensors)
/-- Pwm number k. -/
def State.pwm (s : State) (k : Nat) : Pwm := Store.get (fun _ => Pwm.reset) s.pwms k
/-- Pwm number k replaced. -/
def State.putPwm (s : State) (k : Nat) (v : Pwm) : State := s.setPwms (Store.put (fun _ => Pwm.reset) k v s.pwms)
/-- Chan number k. -/
def State.chan (s : State) (k : Nat) : Chan := Store.get (fun _ => Chan.reset) s.chans k
/-- Chan number k replaced. -/
def State.putChan (s : State) (k : Nat) (v : Chan) : State := s.setChans (Store.put (fun _ => Chan.reset) k v s.chans)
/-- Group number k. -/
def State.group (s : State) (k : Nat) : Group := Store.get (fun _ => Group.reset) s.groups k
/-- Group number k replaced. -/
def State.putGroup (s : State) (k : Nat) (v : Group) : State := s.setGroups (Store.put (fun _ => Group.reset) k v s.groups)
/-- Twl number k. -/
def State.twl (s : State) (k : Nat) : Twl := Store.get (fun _ => Twl.reset) s.twls k
/-- Twl number k replaced. -/
def State.putTwl (s : State) (k : Nat) (v : Twl) : State := s.setTwls (Store.put (fun _ => Twl.reset) k v s.twls)
/-- Enc number k. -/
def State.enc (s : State) (k : Nat) : Enc := Store.get (fun _ => Enc.reset) s.encs k
/-- Enc number k replaced. -/
def State.putEnc (s : State) (k : Nat) (v : Enc) : State := s.setEncs (Store.put (fun _ => Enc.reset) k v s.encs)
/-- Hall number k. -/
def State.hall (s : State) (k : Nat) : Hall := Store.get (fun _ => Hall.reset) s.halls k
/-- Hall number k replaced. -/
def State.putHall (s : State) (k : Nat) (v : Hall) : State := s.setHalls (Store.put (fun _ => Hall.reset) k v s.halls)
/-- Lamp number k. -/
def State.lamp (s : State) (k : Nat) : Lamp := Store.get (fun _ => Lamp.reset) s.lamps k
/-- Lamp number k replaced. -/
def State.putLamp (s : State) (k : Nat) (v : Lamp) : State := s.setLamps (Store.put (fun _ => Lamp.reset) k v s.lamps)
/-- Act number k. -/
def State.act (s : State) (k : Nat) : Act := Store.get (fun _ => Act.reset) s.acts k
/-- Act number k replaced. -/
def State.putAct (s : State) (k : Nat) (v : Act) : State := s.setActs (Store.put (fun _ => Act.reset) k v s.acts)
/-- Ring number k. -/
def State.ring (s : State) (k : Nat) : Ring := Store.get (fun _ => Ring.reset) s.rings k
/-- Ring number k replaced. -/
def State.putRing (s : State) (k : Nat) (v : Ring) : State := s.setRings (Store.put (fun _ => Ring.reset) k v s.rings)
/-- Zcor number k. -/
def State.zcor (s : State) (k : Nat) : Zcor := Store.get (fun _ => Zcor.reset) s.zcors k
/-- Zcor number k replaced. -/
def State.putZcor (s : State) (k : Nat) (v : Zcor) : State := s.setZcors (Store.put (fun _ => Zcor.reset) k v s.zcors)

/-! ### Addressed memory (R19): bytes never written read 0 -/

/-- The canonical form of memory. [DESIGN CHOICE, assumption 7] -/
abbrev Memory.wf (m : List Host.Cell) : Prop := Store.wf (fun _ => 0#8) m = true

/-- One byte of memory. [DESIGN CHOICE, assumption 7] -/
def State.byte (s : State) (a : Nat) : Byte := Store.get (fun _ => 0#8) s.mem a

/-- One byte of memory written. [DESIGN CHOICE, assumption 7] -/
def State.putByte (s : State) (a : Nat) (b : Byte) : State := s.setMem (Store.put (fun _ => 0#8) a b s.mem)

/-- n bytes from a on. -/
def State.bytes (s : State) (a n : Nat) : List Byte := (List.range n).map fun i => s.byte (a + i)

/-- Bytes written from a on. -/
def State.putBytes (s : State) (a : Nat) : List Byte → State
  | [] => s
  | b :: t => State.putBytes (s.putByte a b) (a + 1) t

/-- A little-endian word of memory. -/
def State.mword (s : State) (a : Nat) : Word := BitVec.ofNat 32 (bytesNat (s.bytes a 4))

/-- A little-endian word written. -/
def State.putWord (s : State) (a : Nat) (w : Word) : State := s.putBytes a (wordBytes w)

/-- Bytes from a on cleared, n of them. [DESIGN CHOICE, assumption 7] -/
def State.clearMem (s : State) (a n : Nat) : State :=
  s.setMem (Store.clear (fun k => decide (a ≤ k) && decide (k < a + n)) s.mem)

/-! ### Time, free values, power -/

/-- Device time, in ticks of 1/600 MHz (chapter 04). -/
def State.now (s : State) : Nat := s.pwr.dtime

/-- The next free word; the counter advances (DESIGN CHOICE, assumption 1). [DESIGN CHOICE, assumption 53] -/
def State.freeWord (s : State) : Word := Config.freeWord s.free

/-- The counter of free values advanced by n. [DESIGN CHOICE, assumption 1] -/
def State.took (s : State) (n : Nat) : State := s.setFree (s.free + n)

/-- Domain d is on (R46, R49); PD0 always is, every other one is off before VS rises and in sleep, whatever PDSTAT would read. -/
def State.domOn (s : State) (d : Nat) : Bool :=
  d == 0 || (s.pwr.phase != .dark && s.pwr.phase != .sleep && s.flag Adr.SYS_PDSTAT d)

/-- The power domain of a page (R83): CMPB7 is in PD0 (R216). -/
def pageDom (p : Nat) : Nat :=
  if p = Pg.CMPB 7 then 0 else match pageRow p with
    | some r => r.dom
    | none => 1

/-- A page's registers are powered. -/
def State.pageOn (s : State) (p : Nat) : Bool := s.domOn (pageDom p)

/-- PCTRL.EN of a page (R69). -/
def State.pageEn (s : State) (p : Nat) : Bool := s.flag (Adr.PCTRL p) 0

/-- PSTAT.SAFE of a page (R69). -/
def State.pageSafeSt (s : State) (p : Nat) : Bool := s.flag (Adr.PSTAT p) 30

/-- The page is safety-marked (R69). -/
def State.pageMarked (s : State) (p : Nat) : Bool := s.flag (Adr.PCTRL p) 3

/-- OWNER of a page: 0 none, 1 PAIR0, 2 PAIR1, 3 GMS (R69). -/
def State.owner (s : State) (p : Nat) : Nat := s.fld (Adr.POWNER p) 1 0

/-- The owner code that a port writes for (R78). -/
def portOwner (port : Nat) : Nat := if port < 2 then 1 else if port < 4 then 2 else if port = 4 then 3 else 0

/-- Instance of a page within its block. -/
def pageInst (p : Nat) : Nat := match pageRow p with
  | some r => p - r.page
  | none => 0

/-- Page number of an offset from 0x4000_0000. -/
def pageOf (a : Nat) : Nat := a / 4096

/-! ### Sample bus (R176) -/

/-- A word placed on the sample bus, valid, with its stamp. -/
def State.publish (s : State) (sel : Nat) (v : Word) (t : Nat) : State := s.putSample sel ⟨v, true, t⟩

/-- A word made invalid: value and stamp stay. -/
def State.invalidate (s : State) (sel : Nat) : State := s.putSample sel { s.word sel with valid := false }

/-! ### Folding over indices -/

/-- f done for each index of a list, in order. -/
def State.each (s : State) (l : List Nat) (f : State → Nat → State) : State := l.foldl f s

/-- f done when b holds. -/
def State.when (s : State) (b : Bool) (f : State → State) : State := if b then f s else s

end Sys2Proof.Machine
end

