-- ==== Sys2Proof/Machine/Clamp.lean ====
section
/-! DEFINITION. What a register stores when a field is written outside its legal range: the nearest limit, or the substitute its chapter
names. Where a chapter states a range and no rule (rings, pilot, converter frequency) the nearest limit is taken as well (DEDUCED, assumption 12). -/

namespace Sys2Proof.Machine

/-- Field [hi:lo] held between two limits. [DEDUCED, assumption 12] -/
def limitField (w : Word) (hi lo a b : Nat) : Word := setBits w hi lo (clampNat a b (bits w hi lo))

/-- Field [hi:lo] at most b. [DEDUCED, assumption 12] -/
def capField (w : Word) (hi lo b : Nat) : Word := limitField w hi lo 0 b

/-- Field [hi:lo] at y where it was x. [DEDUCED, assumption 12] -/
def swapField (w : Word) (hi lo x y : Nat) : Word := if bits w hi lo = x then setBits w hi lo y else w

/-- A 4-bit role above 4 stores 0 (R368). [DEDUCED, assumption 12] -/
def roleField (w : Word) (k : Nat) : Word := if 4 < bits w (4 * k + 3) (4 * k) then setBits w (4 * k + 3) (4 * k) 0 else w

/-- SCD (R208): NS 4 to 32, SCHI at most NS - 1. [DEDUCED, assumption 12] -/
def scdStored (w : Word) : Word :=
  let v := limitField w 29 24 4 32
  capField v 21 16 (bits v 29 24 - 1)

/-- The value register address a stores when w is written to its fields. [DEDUCED, assumption 12] -/
def storedValue (s : State) (a : Nat) (c : Clamp) (w : Word) : Word :=
  match c with
  | .none_ => w
  | .actcfg => limitField (capField (limitField w 23 20 1 15) 18 16 5) 7 0 1 255
  | .actilim => limitField w 4 0 1 30
  | .adcslot => limitField w 23 16 4 255
  | .chcfg => capField (capField w 11 8 12) 4 0 20
  | .cmpcfg => swapField w 3 2 3 2
  | .ctxmap => swapField w 2 0 6 7
  | .dcdccfg => swapField w 31 28 0 1
  | .drive => capField (capField w 12 8 28) 4 0 28
  | .eco => limitField (limitField (limitField w 23 16 1 20) 15 8 10 100) 7 0 10 50
  | .efrcfg => limitField (limitField w 28 16 20 4095) 8 0 1 256
  | .efrper => limitField w 23 0 300000 16777215
  | .eg => swapField w 23 22 3 0
  | .expt => limitField w 7 0 1 255
  | .fsw => limitField w 17 0 100000 250000
  | .gmisc => limitField (limitField w 15 8 100 175) 5 0 2 50
  | .mclk => limitField w 5 0 24 60
  | .nt => capField w 4 0 18
  | .nz16 => swapField w 15 0 0 1
  | .pfilt => limitField w 7 0 1 50
  | .plkcfg => capField w 17 16 2
  | .precfg => limitField w 15 8 80 99
  | .prot => capField (capField (capField (limitField w 30 24 4 80) 21 16 32) 13 8 34) 4 0 20
  | .pwmper => limitField w 19 0 64 1048575
  | .ramprate => if w.toInt ≤ 0 then 1#32 else w
  | .rcfg => limitField (limitField w 15 8 5 60) 7 0 1 100
  | .role => (List.range 8).foldl roleField w
  | .scd => scdStored w
  | .sdmcfg => limitField w 8 0 16 256
  | .search => limitField (limitField w 24 16 150 250) 7 0 6 63
  | .shrdmisc => limitField (limitField w 23 8 1 65535) 7 4 1 15
  | .sincfg => limitField w 15 8 5 250
  | .ss1tmax => limitField w 11 0 50 3000
  | .tctrl => swapField w 9 8 3 2
  | .tmrper => if w.toNat < 600 then 600#32 else w
  | .tqcfg => limitField w 31 16 10 65535
  | .tstill => limitField w 9 0 1 1000
  | .twlcfg => swapField (limitField w 31 24 12 40) 19 16 0 1
  | .twlcmp => swapField w 29 28 3 0
  | .vset => limitField w 15 0 24000 29000
  | .waitlim => limitField w 7 0 4 255
  | .wheel => limitField (limitField w 9 8 1 3) 7 0 8 255
  | .wlen => limitField w 12 0 64 4096
  | .zbin =>
    let k := (a - Adr.ZCOR_ZCFG 0) / 0x100
    limitField w 15 0 1 (2 ^ (s.fld (Adr.ZCOR_ZCFG k) 28 24) / 2 - 1)
  | .zcfg => limitField w 28 24 8 16

end Sys2Proof.Machine
end

