-- ==== Sys2Proof/Machine/Flags.lean ====
section
/-! DEFINITION. Event flags, sticky faults and the lines they pulse (R85, R69), the refusal logs (R74, R89), and what GMS logs (R410). -/

namespace Sys2Proof.Machine

/-- The event line that PEVT bit i of an instance's page belongs to (R85 and each block's PEVT layout). -/
def lineOf (b : Block) (n i : Nat) : Nat :=
  match b with
  | .sys => if i < 3 then 249 else 247 + i
  | .icx => 216 + i
  | .evr => if i = 0 then 220 + n else if i = 1 then 254 + n else 222 + n
  | .tbu => 224 + i
  | .pair => 232 + 4 * n + i
  | .trim => 32 + 8 * n + i % 8
  | .pwm => if i = 0 then 2 * n else 2 * n + 1
  | .ggrp => if i = 0 then 168 + 2 * n else 169 + 2 * n
  | .lvdrv => 187
  | .adc => 96 + 2 * n + i
  | .sdm => 112 + n
  | .cmpb => 64 + 4 * n + i % 4
  | .twl => if i < 2 then 136 + 3 * n + i else 138 + 3 * n
  | .hall => 148 + i % 4
  | .enc => 151
  | .efr => if i = 0 then 152 + 3 * n else if i < 3 then 153 + 3 * n else 154 + 3 * n
  | .zcor => 164 + i
  | .dcdc => 188 + i
  | .obc => 192 + i
  | .pilot => 196 + i
  | .ctr => 186
  | .act => if i < 2 then 180 + 2 * n else 181 + 2 * n
  | .can => if i = 0 then 200 + 2 * n else 201 + 2 * n
  | .eth => if i = 0 then 208 + 3 * n else if i < 3 then 209 + 3 * n else 210 + 3 * n
  | .shrd => 240 + i
  | .mbx => 248
  | .twin => if i < 2 then 214 else 215
  | .tsch | .hvs | .hk => 0

/-- The line of PEVT bit i of page p. -/
def pageLine (p i : Nat) : Nat := match pageRow p with
  | some r => lineOf r.blk (p - r.page) i
  | none => 0

/-- An event line pulses; pulses of one line that have not reached the router are one occurrence (R85). [DEDUCED, assumption 9] -/
def State.pulse (s : State) (e : Nat) : State :=
  if s.router.pulses.contains e then s else s.setRouter { s.router with pulses := s.router.pulses ++ [e] }

/-- Hardware sets PEVT bit i of page p: the line pulses when the flag becomes set while PEVEN enables it; a page in a switched-off domain
raises nothing (R85, R459). [DEDUCED, assumption 9] -/
def State.raise (s : State) (p i : Nat) : State :=
  if s.pageOn p && !s.flag (Adr.PEVT p) i then
    (s.setFlag (Adr.PEVT p) i true).when (s.flag (Adr.PEVEN p) i) fun t => t.pulse (pageLine p i)
  else s

/-- A sticky fault bit of a page (R69). -/
def State.fault (s : State) (p i : Nat) : State := s.setFlag (Adr.PFAULT p) i true

/-! ### GMS's event log (R410, R411) -/

/-- The live record replaced. -/
def State.setBb (s : State) (b : BlackBox) : State := s.setGms { s.gms with bb := b }

/-- An entry at the end of the event log of 8192 entries; a full log loses its oldest and counts LOST (R411). -/
def State.logEntry (s : State) (e : LogEntry) : State :=
  if s.gms.bb.log.length < 8192 then s.setBb { s.gms.bb with log := s.gms.bb.log ++ [e] }
  else
    let lost := min (s.gms.bb.lost + 1) (2 ^ 32 - 1)
    (s.setBb { s.gms.bb with log := s.gms.bb.log.drop 1 ++ [e], lost := lost }).setReg Adr.MBX_BBLOST (w32 lost)

/-- An entry of a kind, stamped now. -/
def State.logKind (s : State) (k : LogKind) (event low : Nat) : State :=
  s.logEntry ⟨s.now, 1, k, event, s.gms.bb.starts % 65536, low % 65536⟩

/-- The last 16 of a list with one more at its end. -/
def keep16 {α : Type} (l : List α) (a : α) : List α := (l ++ [a]).drop ((l.length + 1) - 16)

/-! ### Refused accesses (R74, R89) -/

/-- One refused access in EVRn: the first is kept, later ones count; each raises the access event. -/
def State.logAcc (s : State) (n port : Nat) (addr : Word) (reason : Nat) (write : Bool) : State :=
  let info := s.reg (Adr.EVR_ACCINFO n)
  let s1 := if bit info 31 then s.bump (Adr.EVR_ACCINFO n) 15 8
    else (s.setReg (Adr.EVR_ACCADDR n) addr).setReg (Adr.EVR_ACCINFO n)
      (w32 (2 ^ 31 + reason * 2 ^ 24 + port * 2 ^ 16 + write.toNat))
  let e : Refused := ⟨addr, port, reason, write⟩
  let bb := s1.gms.bb
  (s1.setBb (if n = 0 then { bb with refusedEvr0 := keep16 bb.refusedEvr0 e }
    else { bb with refusedEvr1 := keep16 bb.refusedEvr1 e })).raise (Pg.EVR n) 0

/-- GMS logs a refusal of its own (R74). -/
def State.logGms (s : State) (port : Nat) (addr : Word) (reason : Nat) (write : Bool) : State :=
  s.setBb { s.gms.bb with refusedGms := keep16 s.gms.bb.refusedGms ⟨addr, port, reason, write⟩ }

/-- Where a refused access of a port is logged (R74): ports 0 and 1 in EVR0, 2 and 3 in EVR1, GMS in its own log, 5 to 11 in both pages and
in the black-box record. [DESIGN CHOICE, assumption 19] -/
def State.logRefusal (s : State) (port : Nat) (addr : Word) (reason : Nat) (write : Bool) : State :=
  if port < 2 then s.logAcc 0 port addr reason write
  else if port < 4 then s.logAcc 1 port addr reason write
  else if port = 4 then s.logGms port addr reason write
  else ((s.logAcc 0 port addr reason write).logAcc 1 port addr reason write).logGms port addr reason write

/-! ### Reasons of R72 -/

def Reason.notOwner : Nat := 1
def Reason.noKey : Nat := 2
def Reason.enabled : Nat := 3
def Reason.locked : Nat := 4
def Reason.alias_ : Nat := 5
def Reason.domainOff : Nat := 6
def Reason.port : Nat := 7
def Reason.faulted : Nat := 8
def Reason.cfgCrc : Nat := 9

end Sys2Proof.Machine
end

