-- ==== Sys2Proof/Machine/GateOps.lean ====
section
/-! DEFINITION. Gate channels and their groups (chapter 10): what decides a gate, the gate-low handshake, fault latches, the group fault
manager, the source check and the SRD outputs. -/

namespace Sys2Proof.Machine

/-! ### Names -/

/-- The group of a channel (R23). -/
def groupOf (ch : Nat) : Nat :=
  if ch < 6 then 0 else if ch < 12 then 1 else if ch < 18 then 2 else if ch < 26 then 3 else if ch < 34 then 4 else 5

/-- A channel's position in its group. -/
def posOf (ch : Nat) : Nat := ch - groupBase (groupOf ch)

/-- The other channel of the row: high sides have the lower, even position (R236). -/
def partnerOf (ch : Nat) : Nat := if posOf ch % 2 = 0 then ch + 1 else ch - 1

/-- The channels of a group, in order. -/
def chansOf (g : Nat) : List Nat := (List.range (groupSize g)).map fun k => groupBase g + k

/-- The supply domain of a group's islands: PD9 for G1 and G2, PD10 for G3 to G6. -/
def islandDom (g : Nat) : Nat := if g < 2 then 9 else 10

/-- CSTAT, and the other registers of a channel block, by channel number. -/
def cstat (ch : Nat) : Nat := Adr.GGRP_CSTAT (groupOf ch) (posOf ch)
def chcfg (ch : Nat) : Nat := Adr.GGRP_CHCFG (groupOf ch) (posOf ch)
def cflag (ch : Nat) : Nat := Adr.GGRP_CFLAG (groupOf ch) (posOf ch)

/-- CSTAT.PHASE (R255). -/
def State.phase (s : State) (ch : Nat) : Nat := s.fld (cstat ch) 3 0

/-- CSTAT.PHASE replaced. -/
def State.setPhase (s : State) (ch p : Nat) : State := s.setFld (cstat ch) 3 0 p

/-- The gate is on or turning on: HOIST, LUFF on or CLEAT. -/
def State.gateOn (s : State) (ch : Nat) : Bool := s.phase ch == 1 || s.phase ch == 2 || s.phase ch == 3

/-- The channel is in a reef step (R243). -/
def State.reefing (s : State) (ch : Nat) : Bool := s.phase ch == 6 || s.phase ch == 7

/-- The channel's own fault latch (GSTAT.FLT). -/
def State.ownLatch (s : State) (ch : Nat) : Bool := s.flag (Adr.GGRP_GSTAT (groupOf ch)) (16 + posOf ch)

/-- The group latch (GSTAT.GLATCH). -/
def State.groupLatch (s : State) (g : Nat) : Bool := s.flag (Adr.GGRP_GSTAT g) 8

/-- Booster mode (R241). -/
def State.booster (s : State) (ch : Nat) : Bool := s.flag (chcfg ch) 12

/-- An unpopulated position (R24). -/
def State.unusedChan (s : State) (ch : Nat) : Bool := s.flag (chcfg ch) 13

/-- The safe output of a channel under a selection: SAFE_OUT_X, its inverse for XH, else SAFE_OUT_L (R155, R252). -/
def State.safeOut (s : State) (ch : Nat) (sel : Gst) : Bool :=
  let w := s.reg (Adr.GGRP_SAFEOUT (groupOf ch) (posOf ch))
  match sel with
  | .x => bit w 1
  | .xh => !bit w 1
  | .held | .run | .l | .sto | .ss1 => bit w 0

/-- The selection that a path B code stands for (R155). -/
def PathB.sel : PathB → Gst
  | .run => .run
  | .x => .x
  | .l => .l
  | .xh => .xh

/-- Path A lets the group follow its commands: Shroud decides RUN, in SS1 too (R153, R232). -/
def pathRuns (g : Gst) : Bool :=
  match g with
  | .run | .ss1 => true
  | .held | .x | .xh | .l | .sto => false

/-! ### Gate-low confirmation and turn-on (R248, R249) -/

/-- Gate-low confirmed from now on. [DEDUCED, assumption 32] -/
def State.confirm (s : State) (ch : Nat) : State :=
  (s.setFlag (cstat ch) 10 true).putChan ch { s.chan ch with confAt := s.now }

/-- DT_MIN of a channel in device ticks: 10 ns are 6 ticks. -/
def State.dtMin (s : State) (ch : Nat) : Nat := 6 * s.fld (Adr.GGRP_MISC (groupOf ch) (posOf ch)) 5 0

/-- The partner has confirmed gate-low; an unpopulated position has no switch to wait for (R24). -/
def State.partnerLow (s : State) (ch : Nat) : Bool :=
  s.unusedChan (partnerOf ch) || (s.flag (cstat (partnerOf ch)) 10 && !(s.chan (partnerOf ch)).wait)

/-- The partner has confirmed it for DT_MIN. -/
def State.partnerLowLong (s : State) (ch : Nat) : Bool :=
  s.partnerLow ch && (s.unusedChan (partnerOf ch) || decide ((s.chan (partnerOf ch)).confAt + s.dtMin ch ≤ s.now))

/-- The turn-on begins: the first phase of the profile whose time is not 0; in booster mode the gate is driven at once (R240, R241). -/
def State.hoist (s : State) (ch : Nat) : State :=
  let on := s.reg (Adr.GGRP_PROFON (groupOf ch) (posOf ch))
  let p := if s.booster ch then 3 else if bits on 23 16 ≠ 0 then 1 else if bits on 31 24 ≠ 0 then 2 else 3
  (s.setPhase ch p).putChan ch { s.chan ch with wait := false }

/-- The turn-off begins (R240). -/
def State.strike (s : State) (ch : Nat) : State :=
  let off := s.reg (Adr.GGRP_PROFOFF (groupOf ch) (posOf ch))
  if s.booster ch then s.setPhase ch 4
  else if bits off 23 16 ≠ 0 then s.setPhase ch 4
  else if bits off 31 24 ≠ 0 then s.setPhase ch 5
  else (s.setPhase ch 0).confirm ch

/-- A rising command is accepted: confirmation is withdrawn, and the channel turns on at once where the partner has been low for DT_MIN. -/
def State.turnOn (s : State) (ch : Nat) : State :=
  if (s.chan ch).wait then s
  else
    let t := (s.setFlag (cstat ch) 10 false).putChan ch { s.chan ch with wait := true }
    if t.partnerLowLong ch then t.hoist ch else t

/-- The channel turns off, or gives up a turn-on that still waits. [DEDUCED, assumption 32] -/
def State.turnOff (s : State) (ch : Nat) : State :=
  if s.gateOn ch then (s.putChan ch { s.chan ch with wait := false }).strike ch
  else if (s.chan ch).wait then
    (s.putChan ch { s.chan ch with wait := false }).when (s.phase ch == 0) fun t => t.confirm ch
  else s

/-! ### What decides a gate (R250) -/

/-- The output that the first applying rule of R250 gives. -/
def State.wantsOn (s : State) (ch : Nat) : Bool :=
  let c := s.chan ch
  if !c.supply || c.uv then false
  else if s.ownLatch ch then false
  else match c.b with
    | .run => c.cmd && !c.hold
    | .x | .l | .xh => s.safeOut ch c.b.sel

/-- The gate follows R250; a reef in progress runs to its end first. -/
def State.settleGate (s : State) (ch : Nat) : State :=
  if s.reefing ch then s
  else if s.wantsOn ch then (if s.gateOn ch then s else s.turnOn ch)
  else s.turnOff ch

/-! ### Fault latches and the group's fault manager (R242 to R247) -/

/-- A reef begins on a channel that is on; one that is off stays off (R243). [DEDUCED, assumption 32] -/
def State.reef (s : State) (ch : Nat) : State :=
  if s.gateOn ch then (s.setPhase ch 6).putChan ch { s.chan ch with wait := false } else s

/-- The group latch of g is set and its other channels that are on are reefed (R244). -/
def State.latchGroup (s : State) (g : Nat) (except : Option Nat) : State :=
  ((s.setFlag (Adr.GGRP_GSTAT g) 8 true).raise (Pg.GGRP g) 0).each (chansOf g)
    fun t ch => if except = some ch then t else t.reef ch

/-- The fault manager's reaction: its group, and with SCOPE = ALL every other enabled group. -/
def State.reportFault (s : State) (ch : Nat) : State :=
  let g := groupOf ch
  let s1 := s.latchGroup g (some ch)
  if s.flag (Adr.GGRP_GCFG g) 4 then
    s1.each (List.range 6) fun t h => if h ≠ g ∧ t.pageEn (Pg.GGRP h) then t.latchGroup h none else t
  else s1

/-- A channel's own fault latch with its kind: 1 DSAT, 2 UV, 3 HSK, 4 LINK. UV reaches neither the group latch nor a reef (R246). -/
def State.latchFault (s : State) (ch kind : Nat) : State :=
  if s.ownLatch ch then s
  else
    let g := groupOf ch
    let s1 := ((s.setFlag (Adr.GGRP_GSTAT g) (16 + posOf ch) true).setFld (cstat ch) 8 6 kind).fault (Pg.GGRP g) (posOf ch)
    let s2 := s1.raise (Pg.GGRP g) 0
    if kind = 2 then s2 else s2.reportFault ch

/-- The own latch and its kind cleared. -/
def State.clearLatch (s : State) (ch : Nat) : State :=
  ((s.setFlag (Adr.GGRP_GSTAT (groupOf ch)) (16 + posOf ch) false).setFld (cstat ch) 8 6 0).putChan ch
    { s.chan ch with link := false }

/-- A rising edge clears an own latch: UV once the rail has recovered, any other kind once GCLR has been through (R245, R246). -/
def State.edgeClears (s : State) (ch : Nat) : Bool :=
  s.ownLatch ch && (if s.fld (cstat ch) 8 6 = 2 then !(s.chan ch).uv else (s.chan ch).hold)

/-- A rising command edge at the island; while a reef runs it is ignored (R240, R245). -/
def State.risingEdge (s : State) (ch : Nat) : State :=
  let s1 := s.putChan ch { s.chan ch with cmd := true }
  if s.reefing ch then s1
  else
    let s2 := if s1.edgeClears ch then s1.clearLatch ch else s1
    (s2.putChan ch { s2.chan ch with hold := false }).settleGate ch

/-- A falling command edge at the island. -/
def State.fallingEdge (s : State) (ch : Nat) : State := (s.putChan ch { s.chan ch with cmd := false }).settleGate ch

/-- The command of a channel comes to a level; a level it already has is no edge. [DESIGN CHOICE, assumption 31] -/
def State.commandEdge (s : State) (ch : Nat) (level : Bool) : State :=
  if (s.chan ch).cmd = level then s else if level then s.risingEdge ch else s.fallingEdge ch

/-- Both commands of a row rise in one tick: neither is forwarded, both wait (R249). -/
def State.bothRise (s : State) (hi lo : Nat) : State :=
  let t := (s.setFlag (cstat hi) 10 false).setFlag (cstat lo) 10 false
  (t.putChan hi { t.chan hi with cmd := true, wait := true }).putChan lo
    { t.chan lo with cmd := true, wait := true }

/-- Commands of a group brought to the given levels, one bit for each channel: falling edges first, then rising ones (R248, R249). -/
def State.driveGroup (s : State) (g : Nat) (want : Nat → Bool) : State :=
  let falls := s.each (chansOf g) fun t ch => if want ch then t else t.commandEdge ch false
  falls.each (chansOf g) fun t ch =>
    if posOf ch % 2 = 1 then t
    else if want ch && want (ch + 1) && !(t.chan ch).cmd && !(t.chan (ch + 1)).cmd then t.bothRise ch (ch + 1)
    else (if want ch then t.commandEdge ch true else t).when (want (ch + 1)) fun u => u.commandEdge (ch + 1) true

/-- The group latch clears once a GCLR waits and no channel is in a reef step; then every channel stays off until its next rising edge
(R245). -/
def State.finishGclr (s : State) (g : Nat) : State :=
  if (s.group g).clr && (chansOf g).all fun ch => !s.reefing ch then
    ((s.setFlag (Adr.GGRP_GSTAT g) 8 false).putGroup g { s.group g with clr := false }).each (chansOf g)
      fun t ch => (t.putChan ch { t.chan ch with hold := true }).settleGate ch
  else s

/-- GCLR.CLR written: a group without its latch and without a channel's own latch of another kind than UV has nothing to clear. -/
def State.gclr (s : State) (g : Nat) : State :=
  if s.groupLatch g || (chansOf g).any fun ch => s.ownLatch ch && s.fld (cstat ch) 8 6 != 2 then (s.putGroup g { s.group g with clr := true }).finishGclr g else s

/-! ### Island supplies (R46, R157, R463) -/

/-- The island's supply comes up, gate low and confirmed, or goes away. Its fault latch is kept in the fault manager (R463). -/
def State.islandSupply (s : State) (ch : Nat) (up : Bool) : State :=
  let kind := s.fld (cstat ch) 8 6
  let c := s.chan ch
  let s1 := (s.setReg (cstat ch) (setBits 0#32 8 6 kind)).putChan ch
    { c with supply := up, uv := false, wait := false, hold := c.hold, confAt := s.now }
  if up then ((s1.setFlag (cstat ch) 10 true).setFlag (cstat ch) 9 (c.b != .run)).settleGate ch else s1

/-- All islands of a group. -/
def State.groupSupply (s : State) (g : Nat) (up : Bool) : State := s.each (chansOf g) fun t ch => t.islandSupply ch up

/-- A path B code decoded by an island (R155, R250). [DESIGN CHOICE, assumption 44] -/
def State.pathBCode (s : State) (ch : Nat) (b : PathB) : State :=
  ((s.putChan ch { s.chan ch with b := b }).when (s.chan ch).supply fun t => t.setFlag (cstat ch) 9 (b != .run)).settleGate ch

/-! ### Source check (R237) -/

/-- Enabled users of PWM units: groups 0 to 5, and 6 for LVDRV. -/
def State.userOn (s : State) (x : Nat) : Bool := if x < 6 then s.pageEn (Pg.GGRP x) else s.pageEn Pg.LVDRV

/-- The unit a user names. -/
def State.userUnit (s : State) (x : Nat) : Nat := if x < 6 then s.fld (Adr.GGRP_GCFG x) 3 0 else s.fld Adr.LVDRV_CFG 3 0

/-- Its page. -/
def userPage (x : Nat) : Nat := if x < 6 then Pg.GGRP x else Pg.LVDRV

/-- The unit it receives commands from. -/
def State.userBound (s : State) (x : Nat) : Option Nat := if x < 6 then (s.group x).bound else s.lvdrv.bound

/-- Its source has the same owner. -/
def State.userOwnerOk (s : State) (x : Nat) : Bool := s.owner (userPage x) == s.owner (Pg.PWM (s.userUnit x))

/-- The user that keeps unit u: the enabled one that already receives from it, else the first that names it. -/
def State.keeper (s : State) (u : Nat) : Option Nat :=
  let l := (List.range 7).filter fun x => s.userOn x && s.userUnit x == u && s.userOwnerOk x
  match l.find? fun x => s.userBound x == some u with
  | some x => some x
  | none => l.head?

/-- SRCERR of a user, and the line it receives commands over. -/
def State.setUser (s : State) (x : Nat) (ok : Bool) : State :=
  let b := if ok then some (s.userUnit x) else none
  let s1 := if x < 6 then s.putGroup x { s.group x with bound := b } else s.setLvdrv { s.lvdrv with bound := b }
  if x < 6 then
    let s2 := s1.setFlag (Adr.GGRP_GSTAT x) 9 (!ok)
    if ok || s.flag (Adr.GGRP_GSTAT x) 9 then s2 else s2.raise (Pg.GGRP x) 3
  else
    let s2 := s1.setFlag Adr.LVDRV_STAT 1 (!ok)
    if ok || s.flag Adr.LVDRV_STAT 1 then s2 else s2.raise Pg.LVDRV 1

/-- The check of R237 over every enabled group and LVDRV. -/
def State.sourceCheck (s : State) : State :=
  s.each (List.range 7) fun t x =>
    if t.userOn x then t.setUser x (s.userOwnerOk x && s.keeper (s.userUnit x) == some x)
    else if x < 6 then (if t.pageSafeSt (Pg.GGRP x) then t else t.putGroup x { t.group x with bound := none })
    else t.setLvdrv { t.lvdrv with bound := none }

/-- The group that binds a unit's channels (R462): enabled or in its safe state, without SRCERR; an enabled one first. -/
def State.boundGroup (s : State) (u : Nat) : Option Nat :=
  let ok (g : Nat) : Bool := s.userUnit g == u && !s.flag (Adr.GGRP_GSTAT g) 9
  match (List.range 6).find? fun g => ok g && s.pageEn (Pg.GGRP g) with
  | some g => some g
  | none => (List.range 6).find? fun g => ok g && s.pageSafeSt (Pg.GGRP g)

/-- A group's commands come from its unit: it is the group that binds it. -/
def State.groupBinds (s : State) (g : Nat) : Bool :=
  (s.pageEn (Pg.GGRP g) || s.pageSafeSt (Pg.GGRP g)) && s.boundGroup (s.userUnit g) == some g

/-- The level that path A, the group latch and the source unit give a channel's command: safe outputs unless Shroud decides RUN; OFF for a
group that latches, is neither enabled nor safe, or has SRCERR; else the unit's output (R232, R462). [DESIGN CHOICE, assumption 31] -/
def State.commandOf (s : State) (g ch : Nat) : Bool :=
  let a := (s.group g).pathA
  if !pathRuns a then s.safeOut ch a
  else if s.groupLatch g then false
  else if s.pageEn (Pg.GGRP g) && s.groupBinds g then (s.pwm (s.userUnit g)).out.testBit (posOf ch)
  else false

/-- Commands of a group brought to what R232 and R462 give. [DESIGN CHOICE, assumption 31] -/
def State.refreshGroup (s : State) (g : Nat) : State := s.driveGroup g (s.commandOf g)

/-- Commands of every group. -/
def State.refreshGroups (s : State) : State := s.each (List.range 6) fun t g => t.refreshGroup g

/-! ### SRD outputs (R238) -/

/-- SRD0 to SRD7: the unit's outputs, OFF while Shroud does not decide RUN for G5, LVDRV is disabled, SRCERR is set or the drive supply
has failed; after a supply failure an output returns at its next rising command. -/
def State.refreshSrd (s : State) : State :=
  let cmd := (s.pwm (s.fld Adr.LVDRV_CFG 3 0)).out
  let open_ := pathRuns (s.group 4).pathA && s.pageEn Pg.LVDRV && !s.flag Adr.LVDRV_STAT 1 && !s.flag Adr.LVDRV_STAT 0
  let on (k : Nat) : Bool := open_ && cmd.testBit k && !s.lvdrv.hold.testBit k
  s.setLvdrv { s.lvdrv with srd := maskOf 8 on }

/-- A command of the source unit that is low lets go of its output's hold: the next rising edge drives it. -/
def State.releaseSrd (s : State) : State :=
  if s.flag Adr.LVDRV_STAT 0 then s
  else
    let cmd := (s.pwm (s.fld Adr.LVDRV_CFG 3 0)).out
    s.setLvdrv { s.lvdrv with hold := maskOf 8 fun k => s.lvdrv.hold.testBit k && cmd.testBit k }

/-- The 10 V drive supply: below 8.5 V SUPF is set, above 9.0 V it clears. -/
def State.srdSupply (s : State) (mv : Nat) : State :=
  if mv < 8500 then
    let t := (s.setFlag Adr.LVDRV_STAT 0 true).setLvdrv { s.lvdrv with hold := 255 }
    (if s.flag Adr.LVDRV_STAT 0 then t else t.raise Pg.LVDRV 0).refreshSrd
  else if 9000 < mv then (s.setFlag Adr.LVDRV_STAT 0 false).refreshSrd
  else s

/-! ### Self-test (R253) -/

/-- A group's self-test begins; the first one after a warm wake is the reduced one. -/
def State.selfTestStart (s : State) (g : Nat) : State :=
  let gr := s.group g
  ((s.setFlag (Adr.GGRP_GSTAT g) 7 true).setReg (Adr.GGRP_STRES g) 0#32).putGroup g { gr with reduced := gr.warmDue }

/-- A self-test ends: PASS and FAIL of each tested position, STFAIL on a failure, STDONE. -/
def State.selfTestDone (s : State) (g : Nat) (fails : BitVec 8) : State :=
  let used (k : Nat) : Bool := decide (k < groupSize g) && !s.unusedChan (groupBase g + k)
  let bad := maskOf 8 fun k => used k && fails.getLsbD k
  let good := maskOf 8 fun k => used k && !fails.getLsbD k
  let s1 := (s.setFlag (Adr.GGRP_GSTAT g) 7 false).setReg (Adr.GGRP_STRES g) (w32 (bad * 256 + good))
  let s2 := if bad = 0 then s1.putGroup g { s1.group g with warmDue := false, reduced := false }
    else (s1.fault (Pg.GGRP g) 8).putGroup g { s1.group g with reduced := false }
  s2.raise (Pg.GGRP g) 2

/-- Why PCTRL.EN of a group page cannot be set: a failed self-test, or the test due since a warm wake (R253). -/
def State.groupEnableBlocked (s : State) (g : Nat) : Bool := s.flag (Adr.PFAULT (Pg.GGRP g)) 8 || (s.group g).warmDue

end Sys2Proof.Machine
end

