-- ==== Sys2Proof/Machine/PwmOps.lean ====
section
/-! DEFINITION. PWM units (chapter 10): counters, load points, waveforms, trips, the complementary interlock and the event generators. -/

namespace Sys2Proof.Machine

/-! ### Trip inputs (R230) -/

/-- TRIPA of unit u: a tripped comparator routed to it, or a short-circuit path (R208, R215). -/
def State.tripA (s : State) (u : Nat) : Bool :=
  ((List.range 32).any fun k =>
    s.fld (Adr.CMPB_STAT (k / 4) (k % 4)) 1 0 == 2 && s.flag (Adr.CMPB_ROUTE (k / 4) (k % 4)) u && !(s.cmp k).asleep)
  || (List.range 24).any fun n => s.flag (Adr.SDM_STAT n) 3 && s.flag (Adr.SDM_SCDROUTE n) u

/-- CFG.MODE: EDGE for true. -/
def State.pwmEdge (s : State) (u : Nat) : Bool := s.flag (Adr.PWM_CFG u) 0

/-- STAT.TRIPPED. -/
def State.pwmTripped (s : State) (u : Nat) : Bool := s.flag (Adr.PWM_STAT u) 30

/-- STAT.ARMED (R227). -/
def State.pwmArmed (s : State) (u : Nat) : Bool := s.flag (Adr.PWM_STAT u) 31

/-- The unit enters the tripped state, or is in it already (R230). [DESIGN CHOICE, assumption 33] -/
def State.pwmTrip (s : State) (u : Nat) : State :=
  if s.pwmTripped u then s else (s.setFlag (Adr.PWM_STAT u) 30 true).raise (Pg.PWM u) 3

/-- TRIPA acts on a unit whose AEN is set. -/
def State.tripAsync (s : State) (u : Nat) : State :=
  if s.flag (Adr.PWM_TRIPCFG u) 0 && s.tripA u then s.pwmTrip u else s

/-- TRIPA acts on every unit. -/
def State.tripAll (s : State) : State := s.each (List.range 16) State.tripAsync

/-- An occurrence of event e trips the units that select it (R230, R231). -/
def State.tripSync (s : State) (e : Nat) : State :=
  s.each (List.range 16) fun t u =>
    let c := t.reg (Adr.PWM_TRIPCFG u)
    if bit c 1 && bits c 23 16 = e then (t.putPwm u { t.pwm u with tripS := true }).pwmTrip u else t

/-! ### Counter (R223, R233) -/

/-- The period in force, in ticks: bit 0 of PER is ignored in CENTRE mode. -/
def State.pwmPeriod (s : State) (u : Nat) : Nat := if s.pwmEdge u then (s.pwm u).per else (s.pwm u).per / 2 * 2

/-- Ticks since the period boundary. -/
def State.pwmPos (s : State) (u : Nat) : Nat :=
  let p := s.pwm u
  if p.down then s.pwmPeriod u - p.count else p.count

/-- The counter set to a position of the period. -/
def State.setPos (s : State) (u pos : Nat) : State :=
  let per := s.pwmPeriod u
  let x := pos % max per 1
  if !s.pwmEdge u && decide (per / 2 < x) then s.putPwm u { s.pwm u with count := per - x, down := true }
  else s.putPwm u { s.pwm u with count := x, down := !s.pwmEdge u && decide (x = per / 2) }

/-- The unit follows another (R233). -/
def State.follows (s : State) (v u : Nat) : Bool := s.flag (Adr.PWM_CFG v) 7 && s.fld (Adr.PWM_CFG v) 11 8 == u && v != u

/-! ### Load points (R11, R12, R227, R231) -/

/-- Commit sets of a unit that completed four or more ticks ago, newest first. -/
def Pwm.ready (p : Pwm) (now : Nat) : List (Nat × List Word) := p.sets.filter fun e => decide (e.1 + 4 ≤ now)

/-- The words of a set come into force; a set of the converter or an actuator block carries the channels it gates OFF as a ninth word. -/
def State.loadWords (s : State) (u : Nat) (ws : List Word) : State :=
  ((s.putPwm u { s.pwm u with gate := match ws[8]? with
    | some g => g.toNat
    | none => (s.pwm u).gate }).each (List.range 8) fun t w => t.setReg (Adr.PWM_CMP u w) (nthD 0#32 ws w)).setFlag (Adr.PWM_STAT u) 31 true

/-- The newest ready set is loaded and older ones are dropped; without one an armed unit keeps its values and is late. [DEDUCED, assumption 35] -/
def State.loadSet (s : State) (u : Nat) : State :=
  match (s.pwm u).ready s.now with
  | (_, ws) :: _ =>
    (s.putPwm u { s.pwm u with sets := (s.pwm u).sets.filter fun e => decide (s.now < e.1 + 4) }).loadWords u ws
  | [] => if s.pwmArmed u then s.raise (Pg.PWM u) 2 else s

/-- A trip ends at a load point at which both inputs are quiet (R231). -/
def State.tripRelease (s : State) (u : Nat) : State :=
  let c := s.reg (Adr.PWM_TRIPCFG u)
  let p := s.pwm u
  let quiet := !(bit c 0 && s.tripA u) && !(bit c 1 && p.tripS)
  let free := quiet && (bit c 2 || p.clr)
  let t := s.putPwm u { p with tripS := false, clr := p.clr && !(s.pwmTripped u && free) }
  if s.pwmTripped u && free then t.setFlag (Adr.PWM_STAT u) 30 false else t

/-- A load point: the boundary always, the peak with double update in CENTRE mode. [DESIGN CHOICE, assumption 33] -/
def State.loadPoint (s : State) (u : Nat) (peak : Bool) : State :=
  let s1 := if peak then s
    else s.putPwm u { s.pwm u with per := clampNat 64 1048575 (s.fld (Adr.PWM_PER u) 19 0) }
  if peak && (s.pwmEdge u || !s.flag (Adr.PWM_CFG u) 1) then s1
  else (s1.loadSet u).tripRelease u

/-- A commit set completes now (R10, R11). -/
def State.commitSet (s : State) (u : Nat) (ws : List Word) : State :=
  s.putPwm u { s.pwm u with sets := (s.now, ws) :: (s.pwm u).sets, last := ws }

/-- PCTRL.EN is set: the unit is not armed; a stopped counter starts at 0, or waits for the boundary of its source (R223, R227, R233). -/
def State.pwmStart (s : State) (u : Nat) : State :=
  let s1 := s.setFlag (Adr.PWM_STAT u) 31 false
  let p := s1.pwm u
  if p.run then s1.putPwm u { p with eg := [] }
  else if s.flag (Adr.PWM_CFG u) 7 then
    s1.putPwm u { p with wait := s.fld (Adr.PWM_CFG u) 11 8 != u, count := 0, down := false, eg := [] }
  else (s1.putPwm u { p with run := true, count := 0, down := false, eg := [] }).loadPoint u false

/-- The counter stops and is held at 0 (R223). -/
def State.pwmStop (s : State) (u : Nat) : State :=
  s.putPwm u { s.pwm u with run := false, wait := false, count := 0, down := false, out := 0, eg := [] }

/-- The followers of u are set to SYNCOFS, and theirs where that is their own boundary; answers the units now at a boundary (R233). -/
def State.syncFollowers : Nat → State → Nat → State × List Nat
  | 0, s, _ => (s, [])
  | fuel + 1, s, u =>
    ((List.range 16).filter fun v => s.follows v u).foldl (fun (acc : State × List Nat) v =>
      let t := acc.1
      if (t.pwm v).run || (t.pwm v).wait then
        let t1 := (t.putPwm v { t.pwm v with run := true, wait := false }).setPos v (t.fld (Adr.PWM_SYNCOFS v) 19 0)
        if t1.pwmPos v = 0 then
          let r := State.syncFollowers fuel t1 v
          (r.1, acc.2 ++ v :: r.2)
        else (t1, acc.2)
      else acc) (s, [])

/-! ### Event generators (R234) -/

/-- A selected reference of generator g of a running, enabled unit: the first one fires, then every DIV-th. -/
def State.egReference (s : State) (u g : Nat) : State :=
  let c := s.reg (Adr.PWM_EG u g)
  if bit c 21 && s.pageEn (Pg.PWM u) && (s.pwm u).run then
    let n := Store.get (fun _ => 0) (s.pwm u).eg g
    let div := max (bits c 31 24) 1
    let t := s.putPwm u { s.pwm u with eg := Store.put (fun _ => 0) g ((n + 1) % div) (s.pwm u).eg }
    if n = 0 then t.raise (Pg.PWM u) g else t
  else s

/-- The generator's reference plus OFF falls on the unit's present position: valleys (or boundaries) and peaks as REF selects. -/
def State.egHere (s : State) (u g : Nat) : Bool :=
  let c := s.reg (Adr.PWM_EG u g)
  let per : Int := max (s.pwmPeriod u) 1
  let off := signed 21 (bits c 20 0)
  let ref := bits c 23 22
  let at_ (r : Int) : Bool := (s.pwmPos u : Int) == (r + off) % per
  (at_ 0 && (s.pwmEdge u || ref != 2)) || (!s.pwmEdge u && at_ (per / 2) && ref != 1)

/-! ### Waveforms (R224 to R228) -/

/-- A fraction of a full scale in fine units: (D · full + 2^30) >> 31, held between 0 and full (R224, R225). [DEDUCED, assumption 10] -/
def dutyOf (d : Word) (full : Nat) : Nat := (clampInt 0 full (roundShift (d.toInt * full) 31)).toNat

/-- The interval of one side one fine unit on: x is its place in the period of P fine units, w the duty word, ph the phase word. -/
def Wave.raw (edge valley : Bool) (P x : Nat) (w ph : Word) (v : Wave) : Bool × Nat :=
  if edge then
    let left := if x = ph.toNat * P / 2 ^ 32 then max v.left (dutyOf w P) else v.left
    (decide (0 < left), left - 1)
  else
    let e := dutyOf w (P / 2)
    if valley then
      (if x < P / 2 then v.on && decide (x < e) else decide (0 < e) && decide (P - e ≤ x), 0)
    else
      (if x < P / 2 then decide (0 < e) && decide (P / 2 - e ≤ x) else v.on && decide (x < P / 2 + e), 0)

/-- The length of the interval (or off-interval) that starts now, as the set in force places its end. -/
def judged (edge : Bool) (P : Nat) (w : Word) (rise : Bool) : Nat :=
  let t := if edge then dutyOf w P else 2 * dutyOf w (P / 2)
  if rise then t else P - t

/-- One fine unit of a side's waveform with its dead-time judgement (R228). -/
def Wave.fine (edge valley : Bool) (P dt x : Nat) (w ph : Word) (v : Wave) : Wave :=
  let r := Wave.raw edge valley P x w ph v
  if r.1 = v.on then { v with since := min (v.since + 1) 65536, left := r.2 }
  else if judged edge P w r.1 ≤ dt ∨ v.eff = r.1 then { v with on := r.1, since := min (v.since + 1) 65536, left := r.2 }
  else { on := r.1, eff := r.1, since := 0, left := r.2 }

/-- Requests of one channel over the 32 fine units of a tick: the waves of H and of an independent L, and whether H or L was requested. -/
def fineTick (edge : Bool) (mode P dt : Nat) (wh wl : Word) : Nat → Nat → Wave → Wave → Bool → Bool → Wave × Wave × Bool × Bool
  | 0, _, h, l, qh, ql => (h, l, qh, ql)
  | n + 1, x, h, l, qh, ql =>
    let h1 := Wave.fine edge false P (if mode = 0 then dt else 0) x wh wl h
    let l1 := Wave.fine edge true P 0 x wl wl l
    let rh := match mode with
      | 0 => h1.eff && decide (dt ≤ h1.since)
      | 1 => h1.on
      | 2 => h1.on
      | _ => false
    let rl := match mode with
      | 0 => !h1.eff && decide (dt ≤ h1.since)
      | 1 => l1.on
      | 2 => false
      | _ => h1.on
    fineTick edge mode P dt wh wl n (x + 1) h1 l1 (qh || rh) (ql || rl)

/-- OUTMODE of a channel; in EDGE mode INDEP is treated as COMPL (R228). -/
def State.outMode (s : State) (u k : Nat) : Nat :=
  let m := s.fld (Adr.PWM_CHCFG u) (4 * k + 2) (4 * k + 1)
  if s.pwmEdge u ∧ m = 1 then 0 else m

/-- The channel's waveform advanced by one tick; answers its requests. -/
def State.waveTick (s : State) (u k : Nat) : State × Bool × Bool :=
  let p := s.pwm u
  let r := fineTick (s.pwmEdge u) (s.outMode u k) (32 * s.pwmPeriod u) (s.fld (Adr.PWM_DT u) 15 0)
    (s.reg (Adr.PWM_CMP u (2 * k))) (s.reg (Adr.PWM_CMP u (2 * k + 1))) 32 (32 * s.pwmPos u)
    (Store.get (fun _ => Wave.reset) p.waves (2 * k)) (Store.get (fun _ => Wave.reset) p.waves (2 * k + 1)) false false
  let w1 := Store.put (fun _ => Wave.reset) (2 * k) r.1 p.waves
  (s.putPwm u { p with waves := Store.put (fun _ => Wave.reset) (2 * k + 1) r.2.1 w1 }, r.2.2.1, r.2.2.2)

/-! ### Precedence and interlock (R229, R232) -/

/-- The requests presented to the interlock of channel k (R232): q is what the compare result requests for (H, L). -/
def State.requests (s : State) (u k : Nat) (q : Bool × Bool) : Bool × Bool :=
  let f := s.reg (Adr.PWM_FORCE u)
  let force (i : Nat) (b : Bool) : Bool := if bit f (8 + i) then bit f i else b
  let own : Bool × Bool :=
    if !s.pageEn (Pg.PWM u) || s.pageSafeSt (Pg.PWM u) || !s.flag (Adr.PWM_CHCFG u) (4 * k) || (s.pwm u).gate.testBit k || !s.pwmArmed u then (false, false)
    else if s.pwmTripped u then (s.flag (Adr.PWM_TRIPOUT u) (2 * k), s.flag (Adr.PWM_TRIPOUT u) (2 * k + 1))
    else (force (2 * k) q.1 && !(s.pwm u).high.testBit k, force (2 * k + 1) q.2)
  match s.boundGroup u with
  | some g =>
    if decide (2 * k + 1 < groupSize g) then
      let a := (s.group g).pathA
      if !pathRuns a then (s.safeOut (groupBase g + 2 * k) a, s.safeOut (groupBase g + 2 * k + 1) a)
      else if s.groupLatch g then (false, false)
      else own
    else own
  | none => own

/-- The interlock of one channel at a tick: (H, L) of the last tick and the requests give the outputs of this one (R229). -/
def interlock (was req : Bool × Bool) : Bool × Bool :=
  (req.1 && (was.1 || (!was.2 && !req.2)), req.2 && (was.2 || (!was.1 && !req.1)))

/-- The unit named by LVDRV drives rectifiers and has no interlock. -/
def State.interlocked (s : State) (u : Nat) : Bool := !(s.pageEn Pg.LVDRV && s.fld Adr.LVDRV_CFG 3 0 == u)

/-- Outputs of channel k replaced. -/
def setOut (o k : Nat) (b : Bool × Bool) : Nat := maskOf 8 fun i => if i = 2 * k then b.1 else if i = 2 * k + 1 then b.2 else o.testBit i

/-- One channel through R232 and R229; both sides requested raise SHOOT. -/
def State.outTick (s : State) (u k : Nat) (q : Bool × Bool) : State :=
  let r := s.requests u k q
  let o := (s.pwm u).out
  let was := (o.testBit (2 * k), o.testBit (2 * k + 1))
  if s.interlocked u then
    (s.putPwm u { s.pwm u with out := setOut o k (interlock was r) }).when (r.1 && r.2) fun t => t.raise (Pg.PWM u) 4
  else s.putPwm u { s.pwm u with out := setOut o k r }

/-- All four channels of a unit over one tick. -/
def State.unitTick (s : State) (u : Nat) : State :=
  s.each [0, 1, 2, 3] fun t k =>
    let r := t.waveTick u k
    r.1.outTick u k r.2

/-- The counter one tick on: up to PER / 2 and back in CENTRE mode, 0 to PER - 1 in EDGE mode. -/
def State.countTick (s : State) (u : Nat) : State := s.setPos u (s.pwmPos u + 1)

end Sys2Proof.Machine
end

