-- ==== Sys2Proof/Machine/AcqOps.lean ====
section
/-! DEFINITION. Acquisition, window comparators and housekeeping (chapter 09). -/

namespace Sys2Proof.Machine

/-! ### SAR converters (R199 to R201) -/

/-- Selector of slot m of ADCn (R176). -/
def adcSel (n m : Nat) : Nat := 0x20 + 16 * n + m

/-- The sequencer runs. -/
def State.adcBusy (s : State) (n : Nat) : Bool := s.flag (Adr.ADC_SEQSTAT n) 4

/-- A sequence start reaches ADCn: dropped with OVR while one runs; SEQCFG and SLOT words are taken now (R200, R201). -/
def State.adcStart (s : State) (n : Nat) : State :=
  if !s.pageEn (Pg.ADC n) then s
  else if s.adcBusy n then s.raise (Pg.ADC n) 1
  else (s.setReg (Adr.ADC_SEQSTAT n) 0x10#32).putAdc n
    ⟨s.fld (Adr.ADC_SEQCFG n) 3 0, (List.range 16).map fun m => s.reg (Adr.ADC_SLOT n m)⟩

/-- The sequencer stops at once. -/
def State.adcStop (s : State) (n : Nat) : State := (s.setReg (Adr.ADC_SEQSTAT n) 0#32).putAdc n AdcSeq.reset

/-- The slot words of ADCn become invalid. -/
def State.adcInvalidate (s : State) (n : Nat) : State :=
  s.each (List.range 16) fun t m => (t.invalidate (adcSel n m)).setFlag (Adr.ADC_RES n m) 31 false

/-- An occurrence of event e starts the sequencers that select it (R200). -/
def State.adcTrigger (s : State) (e : Nat) : State :=
  s.each (List.range 8) fun t n =>
    if t.flag (Adr.ADC_SEQCFG n) 23 && t.fld (Adr.ADC_SEQCFG n) 31 24 == e then t.adcStart n else t

/-- HV sense channel h runs: enabled with a good supply (R203). -/
def State.hvsRuns (s : State) (h : Nat) : Bool := s.flag Adr.HVS_CHEN h && s.flag Adr.HVS_STAT h

/-- Full scale and V0 of HV sense input 24 + h, in volts (R198). -/
def hvsScale (h : Nat) : Int × Int := if h < 4 then (1100, 0) else (1600, -800)

/-- The HV sense word of a code: g · (code · FS / 16384 + V0) + o, over 2000 V in Q1.31, rounded and saturated (R203, R204). [DEDUCED, assumption 10] -/
def hvsWord (g o : Word) (h code : Nat) : Word :=
  let x : Int := code * (hvsScale h).1 + 16384 * (hvsScale h).2
  sat32 ((2 * (g.toInt * x) + 16384000) / 32768000 + o.toInt)

/-- A conversion of input 24 + h by ADCn sampled at t is published; of two with one instant the lower-numbered ADC's stays (R203). -/
def State.hvsPublish (s : State) (n h code t : Nat) : State :=
  let w := s.word (0xA0 + h)
  if !s.hvsRuns h then s
  else if w.valid && w.time == t && decide (Store.get (fun _ => 0) s.hvs h < n) then s
  else ((s.publish (0xA0 + h) (hvsWord (s.reg (Adr.HVS_GAIN h)) (s.reg (Adr.HVS_OFF h)) h code) t).setHvs
    (Store.put (fun _ => 0) h n s.hvs)).setFlag Adr.HVS_STAT (8 + h) true

/-- Words of HV sense channels that do not run are invalid (R203). -/
def State.hvsRefresh (s : State) : State :=
  s.each (List.range 7) fun t h =>
    if t.hvsRuns h then t else (t.invalidate (0xA0 + h)).setFlag Adr.HVS_STAT (8 + h) false

/-- The code that input i converts as: 0 for the reserved index and for an HV sense channel that does not run (R198, R203). -/
def State.adcCode (s : State) (i : Nat) (code : Nat) : Nat :=
  if i = 63 then 0 else if 24 ≤ i ∧ i < 31 ∧ !s.hvsRuns (i - 24) then 0 else code

/-- A slot conversion ends: sampled 16 cycles of 100 MHz before; its word is published, and the next slot follows or DONE is set (R199). -/
def State.adcSlotDone (s : State) (n code : Nat) : State :=
  if !s.adcBusy n then s
  else
    let m := s.fld (Adr.ADC_SEQSTAT n) 3 0
    let i := bits (nthD 0#32 (s.adc n).slots m) 5 0
    let c := s.adcCode i code
    let t := s.now - 96
    let s1 := (s.publish (adcSel n m) (w32 (c * 2 ^ 17)) t).setReg (Adr.ADC_RES n m) (w32 (2 ^ 31 + c))
    let s2 := if 24 ≤ i ∧ i < 31 then s1.hvsPublish n (i - 24) c t else s1
    if m < (s.adc n).last then s2.setFld (Adr.ADC_SEQSTAT n) 3 0 (m + 1) else (s2.adcStop n).raise (Pg.ADC n) 0

/-! ### Sigma-delta demodulators (R205 to R208) -/

/-- The modulator clock a demodulator selects, its divider and whether it runs. -/
def State.mclk (s : State) (n : Nat) : Nat × Bool :=
  let m := s.fld (Adr.SDM_CFG n) 21 20
  (clampNat 24 60 (s.fld (Adr.SDM_MCLKCFG m) 5 0), s.flag (Adr.SDM_MCLKCFG m) 31)

/-- Order and oversampling ratio of the main filter. -/
def State.sdmK (s : State) (n : Nat) : Nat := if s.flag (Adr.SDM_CFG n) 16 then 4 else 3
def State.sdmN (s : State) (n : Nat) : Nat := clampNat 16 256 (s.fld (Adr.SDM_CFG n) 8 0)

/-- The word of a filter sum R: sat32(round((2R - N^k) · 2^31 / N^k)), half toward +∞ (R206). [DEDUCED, assumption 10] -/
def sdmWord (N k R : Nat) : Word :=
  sat32 (((2 * (R : Int) - N ^ k) * 2 ^ 32 + (N ^ k : Nat)) / (2 * (N ^ k : Nat)))

/-- The main filter's word becomes invalid, and only bits taken from now on count (R207). -/
def State.sdmInvalidate (s : State) (n : Nat) : State :=
  ((s.invalidate n).setFlag (Adr.SDM_STAT n) 0 false).putSdm n { s.sdm n with clean := s.now, window := none }

/-- The demodulator has a fault (R207). -/
def State.sdmFaulty (s : State) (n : Nat) : Bool := s.fld (Adr.SDM_STAT n) 2 1 != 0

/-- The short-circuit path of a demodulator runs: enabled or in the safe state, with SCD.EN (R207, R208). -/
def State.scdRuns (s : State) (n : Nat) : Bool :=
  s.flag (Adr.SDM_SCD n) 31 && (s.pageEn (Pg.SDM n) || s.pageSafeSt (Pg.SDM n))

/-- A trigger opens a window at the first selected edge at or after now plus DELAY clocks (R205, R206). -/
def State.sdmOpen (s : State) (n : Nat) : State :=
  if (s.sdm n).window.isSome then s.raise (Pg.SDM n) 2
  else
    let d := (s.mclk n).1
    let off := if s.flag (Adr.SDM_CFG n) 19 then d / 2 else 0
    let edge := (s.now + d - 1 - off) / d * d + off
    s.putSdm n { s.sdm n with window := some (edge + d * s.fld (Adr.SDM_DELAY n) 11 0) }

/-- An occurrence of event e opens windows of the triggered demodulators that select it. -/
def State.sdmTrigger (s : State) (e : Nat) : State :=
  s.each (List.range 24) fun t n =>
    if t.pageEn (Pg.SDM n) && t.flag (Adr.SDM_CFG n) 18 && t.fld (Adr.SDM_CFG n) 31 24 == e && !t.sdmFaulty n
    then t.sdmOpen n else t

/-- Length of a window in device ticks. -/
def State.sdmSpan (s : State) (n : Nat) : Nat := s.sdmK n * s.sdmN n * (s.mclk n).1

/-- Start of the window whose word arrives now, 50 ns (30 ticks) after its last bit. -/
def State.sdmStart (s : State) (n : Nat) : Nat :=
  match (s.sdm n).window with
  | some t => t
  | none => s.now - 30 - s.sdmSpan n

/-- A window ends with sum R: the word, stamped with the window's centre, and RDY. It is valid when all its bits are clean (R206, R207). -/
def State.sdmEnd (s : State) (n R : Nat) : State :=
  let N := s.sdmN n
  let k := s.sdmK n
  let r := min R (N ^ k)
  let start := s.sdmStart n
  let centre := start + s.sdmSpan n / 2
  let ok := decide ((s.sdm n).clean ≤ start)
  let v := sdmWord N k r
  let s1 := (s.putSample n ⟨v, ok, centre⟩).putSdm n { s.sdm n with window := none }
  (((s1.setReg (Adr.SDM_RES n) v).setReg (Adr.SDM_RESTL n) (w32 centre)).setFlag (Adr.SDM_STAT n) 0 ok).raise (Pg.SDM n) 0

/-- A filter window completes on an enabled demodulator. STUCK ends with the first window that shows both levels; while a fault stands
there is no word. In TRIGGERED mode a window must be open. -/
def State.sdmWindowEnd (s : State) (n R : Nat) : State :=
  if !s.pageEn (Pg.SDM n) then s
  else if s.flag (Adr.SDM_STAT n) 2 then
    if 0 < R ∧ R < s.sdmN n ^ s.sdmK n then (s.setFlag (Adr.SDM_STAT n) 2 false).sdmInvalidate n else s
  else if s.flag (Adr.SDM_STAT n) 1 then s
  else if s.flag (Adr.SDM_CFG n) 18 && (s.sdm n).window.isNone then s
  else s.sdmEnd n R

/-- A fault: STUCK (i = 1) or NOCLK (i = 0, bit i of PFAULT). -/
def State.sdmFault (s : State) (n i : Nat) : State :=
  (((s.setFlag (Adr.SDM_STAT n) (1 + i) true).fault (Pg.SDM n) i).sdmInvalidate n).raise (Pg.SDM n) 3

/-- NOCLK ends when the selected clock runs. -/
def State.sdmClocks (s : State) : State :=
  s.each (List.range 24) fun t n =>
    if t.flag (Adr.SDM_STAT n) 1 && (t.mclk n).2 then (t.setFlag (Adr.SDM_STAT n) 1 false).sdmInvalidate n else t

/-- The count of the short-circuit path leaves SCLO to SCHI: it trips its PWM units (R208). -/
def State.scdTrip (s : State) (n count : Nat) : State :=
  let c := s.reg (Adr.SDM_SCD n)
  if s.scdRuns n && (decide (bits c 21 16 < count) || decide (count < bits c 13 8)) && !s.flag (Adr.SDM_STAT n) 3 then
    ((s.setFlag (Adr.SDM_STAT n) 3 true).raise (Pg.SDM n) 1).tripAll
  else s

/-- The count has stayed within for NS clocks: the path releases. -/
def State.scdRelease (s : State) (n count : Nat) : State :=
  let c := s.reg (Adr.SDM_SCD n)
  if decide (count ≤ bits c 21 16) && decide (bits c 13 8 ≤ count) then s.setFlag (Adr.SDM_STAT n) 3 false else s

/-- The short-circuit path is off: it drives nothing. -/
def State.scdStop (s : State) (n : Nat) : State := if s.scdRuns n then s else s.setFlag (Adr.SDM_STAT n) 3 false

/-! ### Window comparators (R210 to R216) -/

/-- Registers of comparator k by its number 0 to 31. -/
def cmpCfg (k : Nat) : Nat := Adr.CMPB_CFG (k / 4) (k % 4)
def cmpThr (k : Nat) : Nat := Adr.CMPB_THR (k / 4) (k % 4)
def cmpHys (k : Nat) : Nat := Adr.CMPB_HYS (k / 4) (k % 4)
def cmpRoute (k : Nat) : Nat := Adr.CMPB_ROUTE (k / 4) (k % 4)
def cmpStat (k : Nat) : Nat := Adr.CMPB_STAT (k / 4) (k % 4)

/-- STATk.STATE: 0 INACTIVE, 1 CLEAR, 2 TRIPPED. -/
def State.cmpState (s : State) (k : Nat) : Nat := s.fld (cmpStat k) 1 0

/-- The input a comparator sees, in 1/256 code: 0 for index 31, for a Masthead comparator's index above 15, and for an HV sense channel
that does not run (R203, R216, R217). -/
def State.cmpInput (s : State) (k : Nat) (x : Int) : Int :=
  let i := s.fld (cmpCfg k) 13 9
  if i = 31 ∨ (28 ≤ k ∧ 15 < i) then 0
  else if 24 ≤ i ∧ !s.hvsRuns (i - 24) then 0
  else x

/-- The region an input lies in (R212): 0 band, 1 release, 2 trip. -/
def cmpRegion (win hi lo hys : Nat) (x : Int) : Nat :=
  let H : Int := 256 * hi
  let L : Int := 256 * lo
  let Y : Int := 256 * hys
  if win = 0 then (if H < x then 2 else if x < H - Y then 1 else 0)
  else if win = 1 then (if x < L then 2 else if L + Y < x then 1 else 0)
  else if H < x ∨ x < L then 2 else if L + Y < x ∧ x < H - Y then 1 else 0

/-- The region of comparator k's input. -/
def State.cmpAt (s : State) (k : Nat) (x : Int) : Nat :=
  cmpRegion (s.fld (cmpCfg k) 3 2) (s.fld (cmpThr k) 25 16) (s.fld (cmpThr k) 9 0) (s.fld (cmpHys k) 21 16) (s.cmpInput k x)

/-- A comparator runs: enabled on a page that is enabled or in its safe state (R210). -/
def State.cmpRuns (s : State) (k : Nat) : Bool :=
  s.flag (cmpCfg k) 0 && (s.pageEn (Pg.CMPB (k / 4)) || s.pageSafeSt (Pg.CMPB (k / 4)))

/-- A comparator is routed (R213). -/
def State.cmpRouted (s : State) (k : Nat) : Bool :=
  s.fld (cmpRoute k) 15 0 != 0 || s.flag Adr.SHRD_CMPMASK k || (s.flag Adr.SHRD_CMPSF4 5 && s.fld Adr.SHRD_CMPSF4 4 0 == k)

/-- STATE replaced; entering TRIPPED sets SIDE (1: the high side tripped, R217) and PEVT bit k, entering CLEAR PEVT bit 4 + k, and the PWM units and Shroud see it (R215). -/
def State.cmpEnter (s : State) (k st : Nat) : State :=
  let hi : Int := 256 * s.fld (cmpThr k) 25 16
  let win := s.fld (cmpCfg k) 3 2
  let high := win == 0 || (win != 1 && decide (hi < s.cmpInput k (s.cmp k).x))
  let side := if st = 2 then high else s.flag (cmpStat k) 3
  let s1 := (s.setFld (cmpStat k) 1 0 st).setFlag (cmpStat k) 3 side
  let s2 := if st = 2 then (s1.raise (Pg.CMPB (k / 4)) (k % 4)).setShroud
      { s1.shroud with cmpsA := s1.shroud.cmpsA ||| oneBit k, cmpsB := s1.shroud.cmpsB ||| oneBit k }
    else if st = 1 then s1.raise (Pg.CMPB (k / 4)) (4 + k % 4) else s1
  s2.tripAll

/-- A start (R213): settling, reported TRIPPED if routed. -/
def State.cmpBegin (s : State) (k : Nat) : State :=
  (((s.setFlag (cmpStat k) 2 true).setFld (cmpStat k) 1 0 (if s.cmpRouted k then 2 else 0)).putCmp k
    { s.cmp k with mark := true, running := true }).tripAll

/-- The comparator stops: not tripped. -/
def State.cmpHalt (s : State) (k : Nat) : State :=
  (s.setReg (cmpStat k) 0#32).putCmp k { s.cmp k with mark := false, running := false }

/-- A comparator that begins to run takes a start, one that no longer runs stops (R210, R213). -/
def State.cmpRefresh (s : State) (k : Nat) : State :=
  if s.cmpRuns k = (s.cmp k).running then s else if s.cmpRuns k then s.cmpBegin k else s.cmpHalt k

/-- The comparators of a page. -/
def State.cmpPage (s : State) (n : Nat) : State := s.each [4 * n, 4 * n + 1, 4 * n + 2, 4 * n + 3] State.cmpRefresh

/-- A change of mode or of a threshold on a running comparator: it holds its state while it settles (R213). [DEDUCED, assumption 34] -/
def State.cmpResettle (s : State) (k : Nat) : State := if (s.cmp k).running then s.setFlag (cmpStat k) 2 true else s

/-- The trip condition has held for DGL outside blanking. -/
def State.cmpTrip (s : State) (k : Nat) (x : Int) : State :=
  let s1 := s.putCmp k { s.cmp k with x := x }
  if (s.cmp k).running && !s.flag (cmpStat k) 2 && s.cmpState k != 2 && s1.cmpAt k x == 2 then s1.cmpEnter k 2 else s1

/-- The release condition has held for DGL: from TRIPPED unless latched, and from INACTIVE. -/
def State.cmpRelease (s : State) (k : Nat) (x : Int) : State :=
  let s1 := s.putCmp k { s.cmp k with x := x }
  if (s.cmp k).running && !s.flag (cmpStat k) 2 && s1.cmpAt k x == 1 &&
      (s.cmpState k == 0 || (s.cmpState k == 2 && !s.flag (cmpCfg k) 8)) then s1.cmpEnter k 1 else s1

/-- Settling ends: after a start the comparator evaluates once, a routed one in the band as TRIPPED (R213). -/
def State.cmpSettled (s : State) (k : Nat) (x : Int) : State :=
  if !s.flag (cmpStat k) 2 then s
  else
    let m := (s.cmp k).mark
    let s1 := (s.setFlag (cmpStat k) 2 false).putCmp k { s.cmp k with x := x, mark := false }
    if !m then s1
    else match s1.cmpAt k x with
      | 2 => s1.cmpEnter k 2
      | 1 => s1.cmpEnter k 1
      | _ => s1.cmpEnter k (if s1.cmpRouted k then 2 else 0)

/-- CLRk written: a latched trip is released if the input is in the release region (R215). [DEDUCED, assumption 34] -/
def State.cmpClear (s : State) (k : Nat) : State :=
  if (s.cmp k).running && !s.flag (cmpStat k) 2 && s.cmpState k == 2 && s.flag (cmpCfg k) 8 && s.cmpAt k (s.cmp k).x == 1
  then s.cmpEnter k 1 else s

/-! ### Housekeeping (R218 to R222) -/

/-- The neighbours of sensor q (R219): the other control-die sensors, or the other islands of its press-fit group. -/
def neighbours (q : Nat) : List Nat :=
  if q < 8 then (List.range 8).filter fun j => j != q
  else ((chansOf (groupOf (q - 8))).map fun c => 8 + c).filter fun j => j != q

/-- An integer put in its place in a rising list. -/
def insertInt (a : Int) : List Int → List Int
  | [] => [a]
  | b :: t => if a ≤ b then a :: b :: t else b :: insertInt a t

/-- Twice the median of a list: the mean of the two middle values for an even count. -/
def median2 (l : List Int) : Option Int :=
  let t := l.foldr insertInt []
  let n := t.length
  if n = 0 then none else some (nthD 0 t ((n - 1) / 2) + nthD 0 t (n / 2))

/-- A sensor's reading in this round, if valid: an island's domain is on and its link has no fault (R219). -/
def State.sensorValue (s : State) (r : HkReadings) (q : Nat) : Option Int :=
  if q < 8 then nthD none r.temps q
  else if s.domOn (islandDom (groupOf (q - 8))) && !(s.chan (q - 8)).link then nthD none r.temps q
  else none

/-- One sensor's line of the round: three rounds beyond XDEV make it SUSPECT, three within end that (R219). -/
def State.hkSensor (s : State) (val : Nat → Option Int) (q : Nat) : State :=
  match val q with
  | none => (s.setFlag (Adr.HK_TEMP q) 31 false).putSensor q Sensor.reset
  | some t =>
    let old := bit (s.reg (Adr.HK_TEMP q)) 30
    match median2 ((neighbours q).filterMap val) with
    | none => (s.setReg (Adr.HK_TEMP q) (setBits (setBit (oneBit 31) 30 old) 15 0 (t % 65536).toNat)).putSensor q Sensor.reset
    | some m2 =>
      let far := decide (2 * 16 * (s.fld Adr.HK_RCFG 15 8 : Int) < |2 * t - m2|)
      let c : Sensor := if far then ⟨min ((s.sensor q).out + 1) 3, 0⟩ else ⟨0, min ((s.sensor q).within + 1) 3⟩
      let sus := if far then old || decide (c.out = 3) else old && decide (c.within < 3)
      (s.setReg (Adr.HK_TEMP q) (setBits (setBit (oneBit 31) 30 sus) 15 0 (t % 65536).toNat)).putSensor q c

/-- NTCj: R = 3.3 kΩ · V / (5 V - V), OPEN above 4.95 V, SHORT below 0.05 V (R220). -/
def ntcWord (mv : Nat) : Word :=
  let r : Nat := if 5000 ≤ mv then 65535 else min (roundDiv (3300 * mv) (5000 - mv)).toNat 65535
  setBit (setBit (w32 (2 ^ 31 + r)) 17 (decide (4950 < mv))) 18 (decide (mv < 50))

/-- PSTAT of the HK page: any sensor SUSPECT, any SUP5 output OFF (R222). -/
def State.hkStatus (s : State) : State :=
  let sus := (List.range 44).any fun q => s.flag (Adr.HK_TEMP q) 30
  let off := (List.range 9).any fun j => s.flag (Adr.HK_SUP j) 18
  (s.setFlag (Adr.PSTAT Pg.HK) 1 sus).setFlag (Adr.PSTAT Pg.HK) 0 off

/-- A housekeeping round (R220). -/
def State.hkRound (s : State) (r : HkReadings) : State :=
  if !s.domOn 6 then s
  else
    let s1 := s.each (List.range 44) fun t q => t.hkSensor (s.sensorValue r) q
    let s2 := s1.each (List.range 8) fun t j => t.setReg (Adr.HK_NTC j) (ntcWord (nthD 0 r.ntcMv j))
    let s3 := s2.each (List.range 12) fun t j =>
      t.setReg (Adr.HK_SUP j) (setBit (setBits (t.reg (Adr.HK_SUP j)) 15 0 (min (nthD 0 r.supMv j) 65535)) 31 true)
    (s3.wrap Adr.HK_RSTAT 15 0).hkStatus

/-- A SUP5 output switches off after 10 ms in limit, or back-fed (R221). -/
def State.supOff (s : State) (j : Nat) : State := (s.orReg (Adr.HK_SUP j) 0x60000#32).hkStatus

/-- A switched-off SUP5 output retries (R221). -/
def State.supRetry (s : State) (j : Nat) (ok : Bool) : State :=
  if s.flag (Adr.HK_SUP j) 18 && ok then (s.clrReg (Adr.HK_SUP j) 0x60000#32).hkStatus else s

end Sys2Proof.Machine
end

