-- ==== Sys2Proof/Machine/TwlOps.lean ====
section
/-! DEFINITION. Toothed-wheel interfaces, encoder emulation and Hall sets (chapter 11), and the sample bus as a reader sees it (R176). -/

namespace Sys2Proof.Machine

/-! ### Geometry (R257 to R259, R271, R272) -/

/-- Edges per tooth pitch: 4 in QUAD, 2 in SINGLE. -/
def State.twlEpe (s : State) (n : Nat) : Nat := if s.flag (Adr.TWL_CFG n) 0 then 2 else 4

/-- Index positions of a turn: EPE · NPITCH. -/
def State.twlN (s : State) (n : Nat) : Nat := s.twlEpe n * s.fld (Adr.TWL_WHEEL n) 7 0

/-- Index positions of the missing teeth; none in EXTRA mode. -/
def State.twlGap (s : State) (n : Nat) : Nat := if s.flag (Adr.TWL_CFG n) 2 then 0 else s.twlEpe n * s.fld (Adr.TWL_WHEEL n) 9 8

/-- Nominal count between references. -/
def State.twlNominal (s : State) (n : Nat) : Nat := s.twlN n - s.twlGap n

/-- Pole pairs; a stored 0 reads 1 (R271). -/
def State.twlPp (s : State) (n : Nat) : Nat := max (s.fld (Adr.TWL_CFG n) 19 16) 1

/-- STAT bits by name (R272). -/
def TwlStat.rest : Nat := 10
def TwlStat.still : Nat := 9
def TwlStat.estimate : Nat := 8
def TwlStat.spdValid : Nat := 7
def TwlStat.uncertain : Nat := 6
def TwlStat.posValid : Nat := 5
def TwlStat.dir : Nat := 4

/-- A STAT bit. -/
def State.tw (s : State) (n i : Nat) : Bool := s.flag (Adr.TWL_STAT n) i

/-- A STAT bit replaced; a change of one that has an event raises it (PEVT bit ev). -/
def State.setTw (s : State) (n i : Nat) (b : Bool) (ev : Option Nat) : State :=
  if s.tw n i = b then s
  else
    let t := s.setFlag (Adr.TWL_STAT n) i b
    match ev with
    | some e => t.raise (Pg.TWL n) e
    | none => t

/-! ### Speed and angle words (R262 to R266) -/

/-- rpm · 2^15 of Δ index positions in Δt ticks: 60 · Δ / (EPE · NPITCH · Δt), rounded and saturated. [DEDUCED, assumption 10] -/
def speedWord (N : Nat) (d : Int) (ticks : Nat) : Word :=
  let den : Int := N * ticks
  if den = 0 then 0#32 else sat32 ((2 * 60 * 600000000 * 32768 * d + den) / (2 * den))

/-- The magnitude bound 60 / (EPE · NPITCH · τ) as a speed word; none at τ = 0. -/
def speedBound (N ticks : Nat) : Option Nat := if N * ticks = 0 then none else some (60 * 600000000 * 32768 / (N * ticks))

/-- The speed word as it reads at time t: held between edges to the bound, or the signed bound of R266 after a reversal. [DEDUCED, assumption 59] -/
def State.twlSpeed (s : State) (n t : Nat) : Word :=
  let tw := s.twl n
  let last := (s.reg (Adr.TWL_SPEED n)).toInt
  let cap (m : Nat) (since : Nat) : Nat := match speedBound (s.twlN n) (t - since) with
    | some b => min m b
    | none => m
  if s.tw n TwlStat.estimate then
    let m : Int := cap tw.revSpeed tw.revTime
    wInt (if s.tw n TwlStat.dir then -m else m)
  else if !s.tw n TwlStat.spdValid then 0#32
  else
    let m : Int := cap last.natAbs (s.word (0xB3 + 4 * n)).time
    wInt (if last < 0 then -m else m)

/-- The electrical angle of an index (R262). -/
def State.twlAngle (s : State) (n : Nat) (idx : Int) : Word :=
  let N := s.twlN n
  let k : Nat := (s.twlPp n * idx % (max N 1 : Nat)).toNat
  w32 ((2 * k * 2 ^ 32 + N) / (2 * max N 1)) + s.reg (Adr.TWL_EOFS n)

/-- The advance of the interpolated angle at time t, mul pole pairs: at most one edge step, 0 while the speed is invalid (R263). -/
def State.twlAdvance (s : State) (n t mul : Nat) : Int :=
  if !s.tw n TwlStat.spdValid then 0
  else
    let tau : Int := (t : Int) - (s.word (0xB3 + 4 * n)).time
    let v : Int := mul * (s.twlSpeed n t).toInt * tau * 2 ^ 32
    let den : Int := 2 ^ 15 * 60 * 600000000
    let step : Int := mul * 2 ^ 32 / (max (s.twlN n) 1 : Nat)
    clampInt (-step) step ((2 * v + den) / (2 * den))

/-- The interface counts (R269). -/
def State.twlRuns (s : State) (n : Nat) : Bool := s.tw n 0

/-- Sample word j of TWLn for a run triggered at t (R268): speed and angle words are invalid while the sensor supply is off. [DEDUCED, assumption 59] -/
def State.twlWord (s : State) (n j t : Nat) : Sample :=
  let edge := s.word (0xB3 + 4 * n)
  let ok := s.twlRuns n && !s.tw n 11
  match j with
  | 0 => ⟨edge.value + wInt (s.twlAdvance n t (s.twlPp n)), ok && s.tw n TwlStat.posValid, t⟩
  | 1 => ⟨s.twlSpeed n s.now, ok && s.tw n TwlStat.spdValid, edge.time⟩
  | 2 => ⟨s.reg (Adr.TWL_STAT n), s.twlRuns n, s.now⟩
  | _ => ⟨edge.value, ok && s.tw n TwlStat.posValid, edge.time⟩

/-- A sample word as a reader sees it now, for a trigger at t: wheel words are formed at the reading, and a ring summary word older than
three streaming cycles is invalid (R14, R176). [DEDUCED, assumption 59] -/
def State.live (s : State) (sel t : Nat) : Sample :=
  if 0xB0 ≤ sel ∧ sel < 0xC0 then s.twlWord ((sel - 0xB0) / 4) ((sel - 0xB0) % 4) t
  else
    let w := s.word sel
    if 0xC0 ≤ sel ∧ sel < 0xD0 then
      { w with valid := w.valid && decide (s.now ≤ w.time + 3 * (s.reg (Adr.EFR_PERIOD ((sel - 0xC0) / 4))).toNat) }
    else w

/-! ### Position compare (R270) -/

/-- INDEX lies on the way from position p0 (left) to p1 (reached), modulo N. -/
def passes (N : Nat) (idx : Nat) (p0 p1 : Int) : Bool :=
  let span : Nat := (p1 - p0).natAbs
  let off : Int := if p0 < p1 then (idx - p0) % (max N 1 : Nat) else (p0 - idx) % (max N 1 : Nat)
  decide (idx < N) && (if off = 0 then decide (N ≤ span) else decide (off ≤ span))

/-- Distance of two positions around the wheel. -/
def around (N : Nat) (a b : Int) : Nat :=
  let d : Nat := ((a - b) % (max N 1 : Nat)).toNat
  min d (N - d)

/-- A compare entry fires: its CMPFIRED bit, PEVT.CMP, a Z pulse of 1 µs; ONESHOT clears EN, any other entry disarms. -/
def State.twlFire (s : State) (n k : Nat) : State :=
  let c := s.reg (Adr.TWL_CMP n k)
  let s1 := (s.setFlag (Adr.TWL_CMPFIRED n) k true).raise (Pg.TWL n) 1
  let s2 := if bit c 27 then s1.each [0, 1] fun t m =>
      if t.flag (Adr.ENC_CFG m) 3 && t.fld (Adr.ENC_CFG m) 2 1 == n then t.putEnc m { t.enc m with zUntil := t.now + 600 } else t
    else s1
  if bit c 30 then s2.setFlag (Adr.TWL_CMP n k) 31 false
  else s2.putTwl n { s2.twl n with armed := setBit (s2.twl n).armed k false }

/-- Compare entries at a move of the index from p0 to p1. -/
def State.twlCompare (s : State) (n : Nat) (p0 p1 : Int) : State :=
  let N := s.twlN n
  let fwd := decide (p0 < p1)
  if !s.tw n TwlStat.posValid || !s.pageEn (Pg.TWL n) then s
  else s.each (List.range 16) fun t k =>
    let c := t.reg (Adr.TWL_CMP n k)
    let dirOk := bits c 29 28 = 0 ∨ (bits c 29 28 = 1 ∧ fwd) ∨ (bits c 29 28 = 2 ∧ !fwd)
    if bit (t.twl n).armed k then
      (if bit c 31 ∧ dirOk ∧ passes N (bits c 15 0) p0 p1 then t.twlFire n k else t)
    else if s.twlEpe n ≤ around N p1 (bits c 15 0) then t.putTwl n { t.twl n with armed := setBit (t.twl n).armed k true }
    else t

/-! ### Counted edges (R257 to R267) -/

/-- POS from the unwrapped position: TURNS and INDEX. -/
def State.setPosReg (s : State) (n : Nat) : State :=
  let N : Nat := max (s.twlN n) 1
  let p := (s.twl n).pos
  s.setReg (Adr.TWL_POS n) (w32 ((p / N % 65536).toNat * 65536 + (p % N).toNat % 65536))

/-- The net count since the last reference that is settled: in EXTRA mode, edges since the last rising edge of A may yet prove to belong to
the extra half-tooth (R258). -/
def State.twlSure (s : State) (n : Nat) : Int :=
  (s.twl n).net - if s.flag (Adr.TWL_CFG n) 2 then (s.twl n).moved else 0

/-- POSVALID: a reference since enable, not UNCERTAIN, and the count not past the nominal one (R262). -/
def State.twlValidity (s : State) (n : Nat) : State :=
  let tw := s.twl n
  s.setTw n TwlStat.posValid
    (tw.refSeen && !s.tw n TwlStat.uncertain && decide ((s.twlSure n).natAbs ≤ s.twlNominal n)) (some 5)

/-- COUNT: net count since the last reference. -/
def State.twlCountReg (s : State) (n : Nat) : State :=
  s.setFld (Adr.TWL_COUNT n) 15 0 ((s.twl n).net % 65536).toNat

/-- The reported position comes to p1 at an edge stamped t: direction, speed, angle and stamps; a reversal makes the speed an estimate only
outside REST (R261 to R267). -/
def State.twlReport (s : State) (n : Nat) (p1 : Int) (t : Nat) : State :=
  let tw := s.twl n
  let rev := decide (p1 < tw.pos)
  let flip := rev != s.tw n TwlStat.dir
  let edges := if flip then [⟨t, p1⟩] else (⟨t, p1⟩ :: tw.edges).take (s.twlEpe n + 1)
  let s1 := s.setTw n TwlStat.still false (some 4)
  let s2 := if flip then
      ((s1.setTw n TwlStat.dir rev (some 3)).setTw n TwlStat.estimate (!s.tw n TwlStat.rest) none).putTwl n
        { tw with pos := p1, edges := edges, turned := true, revTime := t, revSpeed := (s.reg (Adr.TWL_SPEED n)).toInt.natAbs }
    else s1.putTwl n { tw with pos := p1, edges := edges }
  let s3 := match edges with
    | e :: f :: rest =>
      let o := (f :: rest).getLast (List.cons_ne_nil f rest)
      ((s2.setReg (Adr.TWL_SPEED n) (speedWord (s.twlN n) (e.index - o.index) (e.time - o.time))).setTw n
        TwlStat.spdValid true none).setTw n TwlStat.estimate false none
    | _ => s2
  let th := s.twlAngle n p1
  (((s3.setReg (Adr.TWL_ANGLE n) th).setReg (Adr.TWL_EDGETL n) (w32 t)).publish (0xB3 + 4 * n) th t).setPosReg n

/-- An edge error: ERRCNT, its PFAULT bit, UNCERTAIN, PEVT.ERR, and REST until RESTT after the next reference that passes (R259, R260,
R267). -/
def State.twlError (s : State) (n i : Nat) : State :=
  ((((s.bump (Adr.TWL_ERRCNT n) 15 0).fault (Pg.TWL n) i).setTw n TwlStat.uncertain true none).raise (Pg.TWL n) 2
    |>.putTwl n { s.twl n with rest := true, restDue := true } |>.setTw n TwlStat.rest true none).twlValidity n

/-- REST ends: R = C (R267). -/
def State.twlLeaveRest (s : State) (n : Nat) : State :=
  if s.tw n TwlStat.rest && !(s.twl n).rest && !s.flag (Adr.TWL_CTRL n) 0 then
    ((s.putTwl n { s.twl n with pos := (s.twl n).pos + (s.twl n).raw, raw := 0 }).setTw n TwlStat.rest false none).setPosReg n
  else s

/-- REST begins with R = C, which outside REST it is. -/
def State.twlEnterRest (s : State) (n : Nat) : State := s.setTw n TwlStat.rest true none

/-- One counted edge of direction d that is no reference: R follows C, in REST with its dead band; past the nominal count plus CNTTOL the
reference is missing (R259, R267); sure is the settled count before the edge. -/
def State.twlStep (s : State) (n : Nat) (d sure : Int) (t : Nat) : State :=
  let tw := s.twl n
  let c := tw.raw + d
  let move := if s.tw n TwlStat.rest then (if 1 < c then 1 else if c < -1 then -1 else 0) else c
  let s1 := s.putTwl n { tw with raw := c - move }
  let s2 := if move = 0 then s1 else s1.twlReport n (tw.pos + move) t
  let lim := s.twlNominal n + s.fld (Adr.TWL_CFG n) 23 20
  let s3 := s2.twlValidity n
  let s4 := if sure.natAbs ≤ lim ∧ lim < (s.twlSure n).natAbs then s3.twlError n 0 else s3
  if move = 0 then s4 else s4.twlCompare n tw.pos (tw.pos + move)

/-- The position congruent to T modulo N that is nearest to p. [DEDUCED, assumption 48] -/
def nearest (N : Nat) (T p : Int) : Int := p + ((T - p + N / 2) % (max N 1 : Nat)) - N / 2

/-- The count comparison of a reference with net count c (R259, R260). [DEDUCED, assumption 48] -/
def State.twlCheck (s : State) (n : Nat) (c : Int) : State :=
  let tw := s.twl n
  let off := (c.natAbs : Int) - s.twlNominal n
  if !tw.refSeen then s.setTw n 3 false none
  else if tw.noCompare then (s.setTw n 3 false none).setTw n TwlStat.uncertain false none
  else if tw.turned then s.setTw n 3 true none
  else if (s.fld (Adr.TWL_CFG n) 23 20 : Int) < off.natAbs then (s.setTw n 3 false none).twlError n 2
  else ((s.setTw n 3 false none).setTw n TwlStat.uncertain false none).putTwl n { tw with restDue := false }

/-- A reference edge of direction d at t: undone is what an extra half-tooth had counted (R258, R259). The index takes its place on the
wheel, 0 in forward rotation; earlier edges keep their distance to it. [DEDUCED, assumption 48] -/
def State.twlReference (s : State) (n : Nat) (d undone : Int) (t : Nat) : State :=
  let tw := s.twl n
  let N := s.twlN n
  let gap : Int := s.twlGap n
  let was := tw.pos + tw.raw - undone
  let base := was + d * (1 + gap)
  let goal := nearest N (if 0 < d then 0 else N - gap - (s.twlEpe n / 2 : Nat)) base
  let c := tw.net - undone
  let first := !tw.refSeen
  let s1 := s.twlCheck n c
  let t1 := s1.twl n
  let s2 := s1.putTwl n { t1 with net := 0, refSeen := true, turned := false, noCompare := false,
                                  pos := t1.pos + (goal - base) - undone,
                                  edges := t1.edges.map fun e => ⟨e.time, e.index + (goal - base) - undone⟩ }
  let s3 := ((s2.setFld (Adr.TWL_COUNT n) 31 16 (c % 65536).toNat).setFld (Adr.TWL_COUNT n) 15 0 0).twlReport n (goal - tw.raw) t
  let s4 := (s3.twlValidity n).raise (Pg.TWL n) 0
  let from_ := if first then goal - d * (1 + gap) else was
  (s4.twlCompare n from_ goal).when (s.fld (Adr.TWL_WHEEL n) 27 16 == 0) fun u =>
    (u.putTwl n { u.twl n with rest := (u.twl n).restDue }).twlLeaveRest n

/-- The gap or extra-tooth test on the newest three rising edges (R258): G is GAPR tenths. -/
def gapTest (extra : Bool) (gapr : Nat) : List Nat → Bool
  | a :: b :: c :: _ => if extra then decide (gapr * (a - b) < 10 * (b - c)) else decide (gapr * (b - c) < 10 * (a - b))
  | _ => false

/-- One counted edge of direction d; rise: A rose at it (R257 to R259). -/
def State.twlEdge (s : State) (n : Nat) (d : Int) (rise : Bool) (t : Nat) : State :=
  let tw := s.twl n
  let turned := tw.rawRev != decide (d < 0)
  let kept := if turned then [] else tw.rises
  let rises := if rise then (t :: kept).take 3 else kept
  let extra := s.flag (Adr.TWL_CFG n) 2
  let s1 := s.putTwl n { tw with rises := rises, rawRev := decide (d < 0), net := tw.net + d,
                                 moved := if rise then d else tw.moved + d }
  let s2 := if rise && !turned && gapTest extra (s.fld (Adr.TWL_CFG n) 31 24) rises then
      s1.twlReference n d (if extra then tw.moved else 0) t
    else (s1.twlStep n d (s.twlSure n) t).twlCountReg n
  s2

/-- Both tracks change in one sample (R260). -/
def State.twlBoth (s : State) (n : Nat) (rise : Bool) (t : Nat) : State :=
  let tw := s.twl n
  (s.putTwl n { tw with noCompare := true, edges := [], rises := if rise then (t :: tw.rises).take 3 else tw.rises }).twlError n 1

/-- A qualified change of the tracks to levels a and b (R256, R257); the stamp is the qualifying sample's less FILT · 10 ns. [DEDUCED, assumption 48] -/
def State.twEdge (s : State) (n : Nat) (a b : Bool) : State :=
  let tw := s.twl n
  let t := s.now - 6 * s.fld (Adr.TWL_CFG n) 13 8
  let da := tw.a != a
  let db := tw.b != b
  let pins := setBit (setBit s.pins.pins (2 * n) a) (2 * n + 1) b
  let rises := if da && a then (t :: tw.bRises).take 4 else tw.bRises
  let quiet := if da && a then 0 else tw.bQuiet
  let s1 := (s.setPins { s.pins with pins := pins }).putTwl n
    { tw with a := a, b := b, bRises := rises, bQuiet := quiet }
  if !s.twlRuns n then s1
  else if s.flag (Adr.TWL_CFG n) 0 then
    if da then s1.twlEdge n (if s.flag (Adr.TWL_CFG n) 3 then -1 else 1) a t else s1
  else if da && db then s1.twlBoth n a t
  else if da || db then
    let lead := if da then a != b else a == b
    s1.twlEdge n (if lead != s.flag (Adr.TWL_CFG n) 4 then 1 else -1) (da && a) t
  else s1

/-- No edge for TSTILL ms (R265). -/
def State.twlStandstill (s : State) (n : Nat) : State :=
  if !s.twlRuns n then s
  else ((((s.setReg (Adr.TWL_SPEED n) 0#32).setTw n TwlStat.spdValid false none).setTw n TwlStat.estimate false none).setTw n
    TwlStat.still true (some 4)).putTwl n { s.twl n with edges := [] }

/-- RESTT elapses (R267). -/
def State.twlRestEnd (s : State) (n : Nat) : State :=
  if (s.twl n).rest && !(s.twl n).restDue then (s.putTwl n { s.twl n with rest := false }).twlLeaveRest n else s

/-- CTRL.TEST changes (R267). -/
def State.twlTest (s : State) (n : Nat) : State := if s.flag (Adr.TWL_CTRL n) 0 then s.twlEnterRest n else s.twlLeaveRest n

/-- PCTRL.EN is set: counting starts from index 0, or runs on from the safe state; REST for RESTT (R256, R267, R269). -/
def State.twlStart (s : State) (n : Nat) : State :=
  let rest := s.fld (Adr.TWL_WHEEL n) 27 16 != 0
  let tw := s.twl n
  let s1 := if s.twlRuns n then s.putTwl n { tw with rest := tw.rest || rest }
    else
      let f : Twl := { Twl.reset with run := true, a := bit s.pins.pins (2 * n), b := bit s.pins.pins (2 * n + 1), bRises := tw.bRises,
                                      rest := rest, armed := tw.armed, bQuiet := tw.bQuiet }
      ((s.setReg (Adr.TWL_STAT n) (setBit 1#32 11 (s.tw n 11))).setReg (Adr.TWL_SPEED n) 0#32).putTwl n f |>.setPosReg n
  if rest || s.flag (Adr.TWL_CTRL n) 0 then s1.twlEnterRest n else s1

/-- The interface stops: POSVALID and SPDVALID drop (R269). -/
def State.twlStop (s : State) (n : Nat) : State :=
  (((s.setTw n TwlStat.posValid false (some 5)).setTw n TwlStat.spdValid false none).setTw n 0 false none).putTwl n
    { s.twl n with run := false }

/-- STAT.SUPF follows SUP5_TWn OFF or LIMIT (R268). -/
def State.twlSupplies (s : State) : State :=
  s.each [0, 1, 2, 3] fun t n => t.setTw n 11 (t.fld (Adr.HK_SUP n) 18 17 != 0) none

/-! ### Encoder emulation (R273) -/

/-- The source position as an emulated count: 4 · lines per turn of the interpolated mechanical angle. -/
def State.encTarget (s : State) (m : Nat) : Nat :=
  let c := s.reg (Adr.ENC_CFG m)
  let n := bits c 2 1
  let N := max (s.twlN n) 1
  let frac : Int := (s.twl n).pos % N * 2 ^ 32 / N + s.twlAdvance n s.now 1
  (frac % 2 ^ 32).toNat * (4 * (bits c 27 16 + 1)) / 2 ^ 32

/-- Output levels of an emulated count: A leads B, reversed by INV; Z in the quarter after count 0. -/
def State.encLevels (s : State) (m count : Nat) (e : Enc) : Enc :=
  let q := count % 4
  let x := q == 1 || q == 2
  let y := q == 2 || q == 3
  let inv := s.flag (Adr.ENC_CFG m) 4
  { e with a := if inv then y else x, b := if inv then x else y }

/-- Z: the count quarter after 0, or the compare pulse. -/
def State.encZ (s : State) (m count : Nat) (e : Enc) : Bool :=
  if s.flag (Adr.ENC_CFG m) 3 then decide (s.now < e.zUntil) else decide (count = 0)

/-- One step of an encoder output at the present time: at most one change per 80 ns (48 ticks); more than 4 counts behind is LAG. -/
def State.encStep (s : State) (m : Nat) : State :=
  let c := s.reg (Adr.ENC_CFG m)
  let e := s.enc m
  let run := s.pageEn Pg.ENC && bit c 0
  let ok := s.tw (bits c 2 1) TwlStat.posValid
  let s0 := s.setFlag (Adr.ENC_STAT m) 0 run
  if !run || !ok then s0.putEnc m { e with z := false, valid := e.valid && ok }
  else
    let full := 4 * (bits c 27 16 + 1)
    let cur := s.fld (Adr.ENC_STAT m) 31 16
    let goal := s.encTarget m
    if !e.valid then
      ((s0.setFld (Adr.ENC_STAT m) 31 16 goal).setFlag (Adr.ENC_STAT m) 2 true).putEnc m
        { e with valid := true, z := s.encZ m goal e }
    else
      let fwd := (goal + full - cur) % full
      let behind := min fwd (full - fwd)
      let next := if fwd = 0 then cur else if fwd ≤ full / 2 then (cur + 1) % full else (cur + full - 1) % full
      let lag := decide (4 < behind)
      let s1 := (s0.setFlag (Adr.ENC_STAT m) 1 lag).when (lag && !s.flag (Adr.ENC_STAT m) 1) fun t => t.raise Pg.ENC m
      if next ≠ cur ∧ e.last + 48 ≤ s.now then
        (s1.setFld (Adr.ENC_STAT m) 31 16 next).putEnc m
          { s.encLevels m next e with last := s.now, z := s.encZ m next e }
      else s1.putEnc m { e with z := s.encZ m cur e }

/-- Both encoder outputs. -/
def State.encSteps (s : State) : State := s.each [0, 1] State.encStep

/-! ### Hall sets (R275) -/

/-- The forward sector of a code; none for 0b000 and 0b111. -/
def hallSector : Nat → Option Nat
  | 1 => some 0
  | 3 => some 1
  | 2 => some 2
  | 6 => some 3
  | 4 => some 4
  | 5 => some 5
  | _ => none

/-- A qualified change of a Hall code. Answers the state and whether the sector moved to an adjacent one. -/
def State.hallChange (s : State) (k code : Nat) : State × Bool :=
  let cfg := s.reg (Adr.HALL_CFG k)
  let st := s.reg (Adr.HALL_STAT k)
  let t := s.now - 6 * bits cfg 13 8
  let pins := (List.range 3).foldl (fun w i => setBit w (8 + 3 * k + i) (code.testBit i)) s.pins.pins
  let s0 := (s.setPins { s.pins with pins := pins }).putHall k { s.hall k with code := code }
  if !(s.pageEn Pg.HALL && bit cfg 0) ∨ code = (s.hall k).code then (s0, false)
  else
    match hallSector code with
    | none => (((s0.setFlag (Adr.HALL_STAT k) 3 false).setFlag (Adr.HALL_STAT k) 5 true).raise Pg.HALL (4 + k), false)
    | some f =>
      let sec := if bit cfg 1 then 5 - f else f
      let old := bits st 2 0
      let s1 := ((s0.setFld (Adr.HALL_STAT k) 2 0 sec).setFlag (Adr.HALL_STAT k) 3 true).setReg (Adr.HALL_TIME k) (w32 t)
      if sec = (old + 1) % 6 ∨ old = (sec + 1) % 6 then
        let per := match (s.hall k).lastAdj with
          | some u => min (t - u) (2 ^ 32 - 1)
          | none => 2 ^ 32 - 1
        (((s1.setFlag (Adr.HALL_STAT k) 4 (decide (old = (sec + 1) % 6))).setReg (Adr.HALL_PERS k) (w32 per)).putHall k
          ⟨code, some t⟩ |>.raise Pg.HALL k, true)
      else if sec = old then (s1, false)
      else ((s1.setFlag (Adr.HALL_STAT k) 6 true).raise Pg.HALL (4 + k), false)

/-- A Hall set is enabled: its present code is the starting code, without an edge (R256). -/
def State.hallStart (s : State) (k : Nat) : State :=
  let code := bits s.pins.pins (8 + 3 * k + 2) (8 + 3 * k)
  let s1 := s.putHall k ⟨code, none⟩
  match hallSector code with
  | none => s1.setFlag (Adr.HALL_STAT k) 3 false
  | some f =>
    (s1.setFld (Adr.HALL_STAT k) 2 0 (if s.flag (Adr.HALL_CFG k) 1 then 5 - f else f)).setFlag (Adr.HALL_STAT k) 3 true

end Sys2Proof.Machine
end

