-- ==== Sys2Proof/Machine/TrimIsa.lean ====
section
/-! DEFINITION. The trim instruction set (R168 to R178): exact fixed-point arithmetic, and the transcendental results, which are exact up to
rounding plus a free error within the bound of R174. -/

namespace Sys2Proof.Machine

/-! ### Numbers (R169 to R171) -/

/-- num · 2^-n rounded half toward +∞ and clamped to 32 bits; the flag says that the exact value lies beyond ±2^31 (R170). -/
def satQ (num : Int) (n : Nat) : Int × Bool :=
  (clampInt (-2147483648) 2147483647 (roundShift num n), decide (2147483648 * 2 ^ n < num) || decide (num < -2147483648 * 2 ^ n))

/-- A coefficient: C and shift s. -/
abbrev Coef := Int × Nat

/-- x times a coefficient (R170). -/
def mulK (x : Int) (k : Coef) : Int × Bool := satQ (x * k.1) k.2

/-- The LDK value of a coefficient, sat32(C · 2^(31 - s)) (R173). -/
def ldkValue (k : Coef) : Int × Bool := if k.2 ≤ 31 then satQ (k.1 * 2 ^ (31 - k.2)) 0 else satQ k.1 (k.2 - 31)

/-- The term that MAC by coefficient adds (R171). -/
def macTerm (x : Int) (k : Coef) : Int := if k.2 ≤ 31 then x * k.1 * 2 ^ (31 - k.2) else roundShift (x * k.1) (k.2 - 31)

/-- A 72-bit accumulator value: saturates at ±2^71 (R171). -/
def acc72 (a : Int) : Int × Bool :=
  (clampInt (-2361183241434822606848) 2361183241434822606847 a,
    decide (2361183241434822606848 ≤ a) || decide (a < -2361183241434822606848))

/-! ### Transcendental values, with 64 fraction bits -/

/-- π/2, √3/2 and 1/√3 with 64 fraction bits. -/
def halfPi64 : Int := 28976077832308491369
def halfRoot3 : Int := 15975348984942515101
def invRoot3 : Int := 10650232656628343401

/-- Σ terms of a Taylor series: term, then -term · y² / (k (k + 1)), n times. -/
def taylor : Nat → Int → Int → Nat → Int
  | 0, _, _, _ => 0
  | n + 1, term, y2, k => term + taylor n (-(term * y2 / 2 ^ 64) / ((k * (k + 1) : Nat) : Int)) y2 (k + 2)

/-- sin and cos of r · (π/2) / 2^30 for 0 ≤ r ≤ 2^30. -/
def quadSin (r : Nat) : Int :=
  let y := r * halfPi64 / 2 ^ 30
  taylor 16 y (y * y / 2 ^ 64) 2
def quadCos (r : Nat) : Int :=
  let y := r * halfPi64 / 2 ^ 30
  taylor 16 (2 ^ 64) (y * y / 2 ^ 64) 1

/-- sin of a turn word. [DEDUCED, assumption 36] -/
def turnSin (w : Nat) : Int :=
  let r := w % 2 ^ 30
  match w / 2 ^ 30 % 4 with
  | 0 => quadSin r
  | 1 => quadCos r
  | 2 => -quadSin r
  | _ => -quadCos r

/-- cos of a turn word. [DEDUCED, assumption 36] -/
def turnCos (w : Nat) : Int := turnSin (w + 2 ^ 30)

/-- The greatest r below 2^n more than base with sin r · b ≤ a · cos r: the angle of the first quadrant whose tangent is a / b. -/
def atanBits (a b : Int) : Nat → Nat → Nat
  | 0, base => base
  | n + 1, base =>
    let r := base + 2 ^ n
    atanBits a b n (if quadSin r * b ≤ a * quadCos r then r else base)

/-- atan2(a, b) as a turn word. [DEDUCED, assumption 36] -/
def turnAtan2 (a b : Int) : Nat :=
  let q := if b = 0 then 2 ^ 30 else atanBits a.natAbs b.natAbs 30 0
  if 0 ≤ a then (if 0 ≤ b then q else 2 ^ 31 - q) else (if 0 ≤ b then 2 ^ 32 - q else 2 ^ 31 + q)

/-- The integer square root by bits: the greatest r below 2^n more than base with r² ≤ x. -/
def rootBits (x : Nat) : Nat → Nat → Nat
  | 0, base => base
  | n + 1, base => rootBits x n (if (base + 2 ^ n) * (base + 2 ^ n) ≤ x then base + 2 ^ n else base)

/-- √x rounded to the nearest integer, for x below 2^64. -/
def rootRound (x : Nat) : Nat :=
  let r := rootBits x 32 0
  if r < x - r * r then r + 1 else r

/-- A free error of a transcendental result, held to ±bound (R174). [DEDUCED, assumption 36] -/
def State.err (s : State) (k : Nat) (bound : Int) : Int := clampInt (-bound) bound (Config.freeErr (s.free + k))

/-- A result within 2^-22 of num · 2^-64: rounded, with a free error of at most 510 in its last place; saturation and its flag as in R170. [DEDUCED, assumption 36] -/
def State.nearQ (s : State) (k : Nat) (num : Int) : Int × Bool :=
  (clampInt (-2147483648) 2147483647 (roundShift num 64 + s.err k 510), (satQ num 64).2)

/-! ### The run (R168) -/

/-- A data register, signed. -/
def TrimRun.rd (r : TrimRun) (i : Nat) : Int := (Store.get (fun _ => 0#32) r.d i).toInt

/-- A data register written. -/
def TrimRun.wr (r : TrimRun) (i : Nat) (v : Int) : TrimRun := { r with d := Store.put (fun _ => 0#32) i (wInt v) r.d }

/-- Fields of an instruction word (R172). -/
def fOp (w : Word) : Nat := bits w 31 26
def fD (w : Word) : Nat := bits w 25 22
def fA (w : Word) : Nat := bits w 21 18
def fB (w : Word) : Nat := bits w 17 14
def fC (w : Word) : Nat := bits w 13 10
def fK (w : Word) : Nat := bits w 9 0
def fSel (w : Word) : Nat := bits w 19 10

/-- Address of instruction index p of engine n, and of coefficient entry e (R180). -/
def progAddr (n p : Nat) : Nat := 0x30000000 + n * 0x4000 + 4 * p
def coefAddr (n e : Nat) : Nat := 0x30010000 + n * 0x2000 + 8 * e

/-- Coefficient entry e of engine n, by its absolute index; none beyond 1023 (R181, R187). -/
def State.coef (s : State) (n e : Nat) : Option Coef :=
  if e < 1024 then some ((s.mword (coefAddr n e)).toInt, min (bits (s.mword (coefAddr n e + 4)) 5 0) 62) else none

/-- The base entry of the bank that the run uses (R181). -/
def State.bank (s : State) (n i : Nat) : Nat :=
  if s.flag (Adr.TRIM_CBSEL n i) 8 then s.fld (Adr.TRIM_CBANK n i) 25 16 else s.fld (Adr.TRIM_CBANK n i) 9 0

/-- Bank-relative entry K of the running context. -/
def State.entry (s : State) (n i k : Nat) : Option Coef := s.coef n (s.bank n i + k)

/-- State word c of slot i, signed, and written (R168). -/
def State.stw (s : State) (n i c : Nat) : Int := (s.reg (Adr.TRIM_ST n (16 * i + c))).toInt
def State.setStw (s : State) (n i c : Nat) (v : Int) : State := s.setReg (Adr.TRIM_ST n (16 * i + c)) (wInt v)

/-- A sticky context flag (CFLAG, R196). -/
def State.ctxFlag (s : State) (n i b : Nat) (on : Bool) : State := if on then s.setFlag (Adr.TRIM_CFLAG n i) b true else s

/-- The state and the run after an instruction; none for a BOUND fault. -/
abbrev IsaRes := Option (State × TrimRun)

/-- A result into d with its SAT flag. -/
def State.toD (s : State) (n : Nat) (r : TrimRun) (d : Nat) (v : Int × Bool) : State × TrimRun :=
  (s.ctxFlag n r.slot 0 v.2, r.wr d v.1)

/-- The sample word a program reads under a selector (R176). [DEDUCED, assumption 59; DESIGN CHOICE, assumption 65] -/
def State.sampleFor (s : State) (n : Nat) (r : TrimRun) (sel : Nat) : Sample :=
  if sel = 0x180 then ⟨s.reg (Adr.TRIM_CRAMP n r.slot), true, r.trigTime⟩
  else if 0x181 ≤ sel ∧ sel ≤ 0x183 then ⟨nthD 0#32 r.setp (sel - 0x180), true, r.trigTime⟩
  else if sel = 0x184 then ⟨nthD 0#32 r.setp 0, true, r.trigTime⟩
  else if sel = 0x185 then ⟨w32 r.trigTime, true, r.trigTime⟩
  else s.live sel r.trigTime

/-! ### Loads, stores and moves -/

def isaLds (s : State) (n : Nat) (r : TrimRun) (w : Word) : IsaRes :=
  let x := s.sampleFor n r (fSel w)
  some (s.ctxFlag n r.slot 4 (!x.valid), { r.wr (fD w) x.value.toInt with inv := !x.valid })

/-- LDF: an invalid word takes the value of absolute entry K (R177). -/
def isaLdf (s : State) (n : Nat) (r : TrimRun) (w : Word) : IsaRes :=
  let x := s.sampleFor n r (fSel w)
  if x.valid then some (s, { r.wr (fD w) x.value.toInt with inv := false })
  else (s.coef n (fK w)).map fun k =>
    ((s.ctxFlag n r.slot 4 true).ctxFlag n r.slot 0 (ldkValue k).2, { r.wr (fD w) (ldkValue k).1 with inv := true })

def isaLdt (s : State) (n : Nat) (r : TrimRun) (w : Word) : IsaRes :=
  some (s, r.wr (fD w) (w32 (s.sampleFor n r (fSel w)).time).toInt)

/-- STO: the source register stands in the D field (R172). -/
def isaSto (s : State) (_n : Nat) (r : TrimRun) (w : Word) : IsaRes :=
  let sel := fSel w
  some (s, { r with staged := Store.put (fun _ => 0#32) sel (wInt (r.rd (fD w))) r.staged,
                    written := if r.written.contains sel then r.written else sel :: r.written })

def isaLdk (s : State) (n : Nat) (r : TrimRun) (w : Word) : IsaRes :=
  (s.entry n r.slot (fK w)).map fun k => s.toD n r (fD w) (ldkValue k)

def isaLst (s : State) (n : Nat) (r : TrimRun) (w : Word) : IsaRes := some (s, r.wr (fD w) (s.stw n r.slot (fC w)))

def isaSst (s : State) (n : Nat) (r : TrimRun) (w : Word) : IsaRes := some (s.setStw n r.slot (fC w) (r.rd (fA w)), r)

def isaMov (s : State) (_n : Nat) (r : TrimRun) (w : Word) : IsaRes := some (s, r.wr (fD w) (r.rd (fA w)))

/-! ### Arithmetic -/

def isaAdd (s : State) (n : Nat) (r : TrimRun) (w : Word) : IsaRes :=
  some (s.toD n r (fD w) (satQ (r.rd (fA w) + r.rd (fB w)) 0))

def isaSub (s : State) (n : Nat) (r : TrimRun) (w : Word) : IsaRes :=
  some (s.toD n r (fD w) (satQ (r.rd (fA w) - r.rd (fB w)) 0))

def isaNeg (s : State) (n : Nat) (r : TrimRun) (w : Word) : IsaRes := some (s.toD n r (fD w) (satQ (-r.rd (fA w)) 0))

def isaAbs (s : State) (n : Nat) (r : TrimRun) (w : Word) : IsaRes := some (s.toD n r (fD w) (satQ (r.rd (fA w)).natAbs 0))

def isaMul (s : State) (n : Nat) (r : TrimRun) (w : Word) : IsaRes :=
  (s.entry n r.slot (fK w)).map fun k => s.toD n r (fD w) (mulK (r.rd (fA w)) k)

def isaMulr (s : State) (n : Nat) (r : TrimRun) (w : Word) : IsaRes :=
  some (s.toD n r (fD w) (satQ (r.rd (fA w) * r.rd (fB w)) 31))

/-- Accumulator i, and written with its ASAT flag (R171). -/
def TrimRun.acc (r : TrimRun) (i : Nat) : Int := if i % 2 = 0 then r.a0 else r.a1
def State.toAcc (s : State) (n : Nat) (r : TrimRun) (i : Nat) (a : Int) : State × TrimRun :=
  (s.ctxFlag n r.slot 1 (acc72 a).2, if i % 2 = 0 then { r with a0 := (acc72 a).1 } else { r with a1 := (acc72 a).1 })

def isaAclr (s : State) (n : Nat) (r : TrimRun) (w : Word) : IsaRes := some (s.toAcc n r (fD w) 0)

def isaMac (s : State) (n : Nat) (r : TrimRun) (w : Word) : IsaRes :=
  (s.entry n r.slot (fK w)).map fun k => s.toAcc n r (fD w) (r.acc (fD w) + macTerm (r.rd (fA w)) k)

def isaMacr (s : State) (n : Nat) (r : TrimRun) (w : Word) : IsaRes :=
  some (s.toAcc n r (fD w) (r.acc (fD w) + r.rd (fA w) * r.rd (fB w)))

def isaArnd (s : State) (n : Nat) (r : TrimRun) (w : Word) : IsaRes := some (s.toD n r (fD w) (satQ (r.acc (fA w)) 31))

def isaSatk (s : State) (n : Nat) (r : TrimRun) (w : Word) : IsaRes :=
  (s.entry n r.slot (fK w)).map fun k =>
    let l : Int := (ldkValue k).1.natAbs
    s.toD n r (fD w) (max (min (r.rd (fA w)) l) (-l), (ldkValue k).2)

def isaLim (s : State) (_n : Nat) (r : TrimRun) (w : Word) : IsaRes :=
  some (s, r.wr (fD w) (max (min (r.rd (fA w)) (r.rd (fB w))) (r.rd (fC w))))

/-- x moved toward a by at most step. -/
def toward (x a step : Int) : Int := if x < a then min (x + step) a else max (x - step) a

def isaRamp (s : State) (n : Nat) (r : TrimRun) (w : Word) : IsaRes :=
  (s.entry n r.slot (fK w)).map fun k =>
    let y := toward (s.stw n r.slot (fC w)) (r.rd (fA w)) (ldkValue k).1.natAbs
    (s.setStw n r.slot (fC w) y).toD n r (fD w) (y, (ldkValue k).2)

/-! ### PI, relay and biquad (R175, R191, R192) -/

/-- The PI law: output, new state, whether anything saturated. -/
def piLaw (e st hi lo : Int) (kp ki : Coef) : Int × Int × Bool :=
  let p := mulK e kp
  let m := mulK e ki
  let ii := satQ (st + m.1) 0
  let u := satQ (p.1 + ii.1) 0
  let held := (decide (hi < u.1) && decide (0 < e)) || (decide (u.1 < lo) && decide (e < 0))
  let ii2 := if held then st else ii.1
  let u2 := if held then satQ (p.1 + st) 0 else u
  (max (min u2.1 hi) lo, max (min ii2 hi) lo, p.2 || m.2 || ii.2 || u.2 || u2.2)

def isaPi (s : State) (n : Nat) (r : TrimRun) (w : Word) : IsaRes :=
  match s.entry n r.slot (fK w), s.entry n r.slot (fK w + 1) with
  | some kp, some ki =>
    let o := piLaw (r.rd (fA w)) (s.stw n r.slot (fC w)) (r.rd (fB w)) (r.rd (fB w + 1)) kp ki
    some ((s.setStw n r.slot (fC w) o.2.1).toD n r (fD w) (o.1, o.2.2))
  | _, _ => none

/-- The first reason a tune fails with is kept (R194). -/
def Tuner.failWith (t : Tuner) (reason : Nat) : Tuner := if t.failNext = 0 then { t with failNext := reason } else t

/-- The relay's state after an error e (R191). -/
def relayNext (y : Option Bool) (e eps : Int) : Bool :=
  match y with
  | none => decide (0 ≤ e)
  | some b => if eps < e then true else if e < -eps then false else b

/-- The tuner's record of one relay run at trigger time t: cycles run from one switch to +1 to the next, the first is discarded (R192). -/
def Tuner.record (u : Tuner) (up : Bool) (e : Int) (t : Nat) : Tuner :=
  let began := match u.y with
    | some false => up
    | _ => false
  let u1 := if u.skipped && !began then { u with emin := min u.emin e, emax := max u.emax e, runs := u.runs + 1 } else u
  let u2 := if !began then u1
    else match u1.lastUp with
      | none => { u1 with lastUp := some t }
      | some t0 =>
        if u1.skipped then
          { u1 with lastUp := some t, periods := u1.periods ++ [t - t0], lastT := t, runs := u1.runs + 1,
                    emin := min u1.emin e, emax := max u1.emax e }
        else { u1 with lastUp := some t, skipped := true, firstT := t, lastT := t, emin := e, emax := e, runs := 0 }
  { u2 with y := some up }

/-- C and s of a positive fraction: the greatest s up to 62 for which C stays below 2^31; PSAT at 2^31 or more (R192). -/
def coefOf (num den : Nat) : Nat × Nat × Bool :=
  if den = 0 ∨ 2 ^ 31 * den ≤ num then (0x7FFFFFFF, 0, true)
  else
    let c (s : Nat) : Nat := (2 * num * 2 ^ s + den) / (2 * den)
    let s := ((List.range 63).reverse.find? fun s => decide (c s < 2 ^ 31)).getD 0
    (c s, s, false)

/-- f_p and f_i of a tuning rule, as fractions (R192). -/
def tuneRule : Nat → (Nat × Nat) × (Nat × Nat)
  | 0 => ((45, 100), (10, 12))
  | 1 => ((10, 32), (22, 10))
  | _ => ((1, 4), (3, 2))

/-- A tune ends with STATE, REASON and PEVT.AUX; the tuner is free again (R193). -/
def State.tuneEnd (s : State) (n state reason : Nat) : State :=
  match (s.engine n).tuner with
  | none => s
  | some u =>
    (((s.setFld (Adr.TRIM_TSTAT n) 1 0 state).setFld (Adr.TRIM_TSTAT n) 7 4 reason).putEngine n
      { s.engine n with tuner := none }).raise (Pg.TRIM n) (24 + u.slot)

/-- A coefficient into a pair of registers with PSAT. -/
def State.putCoef (s : State) (n a b : Nat) (c : Nat × Nat × Bool) : State :=
  ((s.setReg a (w32 c.1)).setReg b (w32 c.2.1)).when c.2.2 fun t => t.setFlag (Adr.TRIM_TSTAT n) 12 true

/-- The measured cycles are complete: Tu, a, Ts, Ku and the proposals, or IRREGULAR (R192, R194). -/
def State.tuneComplete (s : State) (n : Nat) (u : Tuner) : State :=
  let k := u.periods.length
  let sum := u.periods.foldl (· + ·) 0
  let tu := (2 * sum + k) / (2 * max k 1)
  let ts := (2 * (u.lastT - u.firstT) + u.runs) / (2 * max u.runs 1)
  let a := ((u.emax - u.emin) / 2).toNat
  let h := (s.reg (Adr.TRIM_TH n)).toNat
  let f := tuneRule u.rule
  let kuN := 4 * h * 2 ^ 64
  let kuD := 2 * halfPi64.toNat * a
  let kpN := kuN * f.1.1
  let kpD := kuD * f.1.2
  let s1 := ((s.setReg (Adr.TRIM_TTU n) (w32 tu)).setReg (Adr.TRIM_TTS n) (w32 ts)).setReg (Adr.TRIM_TA n) (w32 a)
  let s2 := ((s1.putCoef n (Adr.TRIM_TKUC n) (Adr.TRIM_TKUS n) (coefOf kuN kuD)).putCoef n (Adr.TRIM_PKPC n) (Adr.TRIM_PKPS n)
    (coefOf kpN kpD)).putCoef n (Adr.TRIM_PKIC n) (Adr.TRIM_PKIS n) (coefOf (kpN * ts * f.2.2) (kpD * f.2.1 * tu))
  if u.periods.any fun p => decide (sum < 10 * (p * k - sum + (sum - p * k))) then s.tuneEnd n 3 5 else s2.tuneEnd n 2 0

/-- The relay of the first PIT of a run: out = sat32(st + y · h), the state word frozen as the bias (R191); the amplitude and clip checks
(R194). -/
def State.relay (s : State) (n : Nat) (r : TrimRun) (w : Word) (u : Tuner) : State × TrimRun :=
  let e := r.rd (fA w)
  let st := s.stw n r.slot (fC w)
  let h := (s.reg (Adr.TRIM_TH n)).toInt
  let up := relayNext u.y e (s.reg (Adr.TRIM_TEPS n)).toInt
  let out := satQ (if up then st + h else st - h) 0
  let u1 := u.record up e r.trigTime
  let u2 := if (s.reg (Adr.TRIM_TALIM n)).toInt < e.natAbs then u1.failWith 4 else u1
  let hi := r.rd (fB w)
  let lo := r.rd (fB w + 1)
  let u3 := if hi < st + h ∨ st - h < lo ∨ hi < st - h ∨ st + h < lo then u2.failWith 6 else u2
  let s1 := (s.putEngine n { s.engine n with tuner := some u3 }).setFld (Adr.TRIM_TSTAT n) 11 8 u3.periods.length
  let s2 := if u3.failNext = 0 ∧ clampNat 2 15 (s.fld (Adr.TRIM_TCFG n) 3 0) ≤ u3.periods.length then s1.tuneComplete n u3 else s1
  s2.toD n { r with relayed := true } (fD w) out

def isaPit (s : State) (n : Nat) (r : TrimRun) (w : Word) : IsaRes :=
  match (s.engine n).tuner with
  | some u => if u.slot = r.slot ∧ !r.relayed then some (s.relay n r w u) else isaPi s n r w
  | none => isaPi s n r w

/-- BIQ in direct form II transposed with an accumulator of its own (R175): output, new states, SAT, ASAT. -/
def biquad (x s1 s2 : Int) (b0 b1 b2 a1 a2 : Coef) : Int × Int × Int × Bool × Bool :=
  let p := acc72 (s1 * 2 ^ 31 + macTerm x b0)
  let y := satQ p.1 31
  let q1 := acc72 (s2 * 2 ^ 31 + macTerm x b1)
  let q2 := acc72 (q1.1 - macTerm y.1 a1)
  let n1 := satQ q2.1 31
  let t1 := acc72 (macTerm x b2)
  let t2 := acc72 (t1.1 - macTerm y.1 a2)
  let n2 := satQ t2.1 31
  (y.1, n1.1, n2.1, y.2 || n1.2 || n2.2, p.2 || q1.2 || q2.2 || t1.2 || t2.2)

def isaBiq (s : State) (n : Nat) (r : TrimRun) (w : Word) : IsaRes :=
  let k (j : Nat) : Option Coef := s.entry n r.slot (fK w + j)
  match k 0, k 1, k 2, k 3, k 4 with
  | some b0, some b1, some b2, some a1, some a2 =>
    let o := biquad (r.rd (fA w)) (s.stw n r.slot (fC w)) (s.stw n r.slot (fC w + 1)) b0 b1 b2 a1 a2
    some ((((s.setStw n r.slot (fC w) o.2.1).setStw n r.slot (fC w + 1) o.2.2.1).ctxFlag n r.slot 1 o.2.2.2.2).toD n r (fD w)
      (o.1, o.2.2.2.1))
  | _, _, _, _, _ => none

/-! ### Transforms (R173, R174) -/

/-- Two results with free errors into d and d + 1. -/
def State.toD2 (s : State) (n : Nat) (r : TrimRun) (d : Nat) (x y : Int × Bool) : State × TrimRun :=
  (((s.ctxFlag n r.slot 0 (x.2 || y.2)).took 2), (r.wr d x.1).wr (d + 1) y.1)

def isaClarke (s : State) (n : Nat) (r : TrimRun) (w : Word) : IsaRes :=
  let a := r.rd (fA w)
  some (s.toD2 n r (fD w) (a, false) (s.nearQ 1 ((a + 2 * r.rd (fB w)) * invRoot3)))

def isaPark (s : State) (n : Nat) (r : TrimRun) (w : Word) : IsaRes :=
  let a := r.rd (fA w)
  let b := r.rd (fA w + 1)
  let t := (wInt (r.rd (fB w))).toNat
  some (s.toD2 n r (fD w) (s.nearQ 0 (a * turnCos t + b * turnSin t)) (s.nearQ 1 (b * turnCos t - a * turnSin t)))

def isaIpark (s : State) (n : Nat) (r : TrimRun) (w : Word) : IsaRes :=
  let d := r.rd (fA w)
  let q := r.rd (fA w + 1)
  let t := (wInt (r.rd (fB w))).toNat
  some (s.toD2 n r (fD w) (s.nearQ 0 (d * turnCos t - q * turnSin t)) (s.nearQ 1 (d * turnSin t + q * turnCos t)))

/-- The zero-sequence term of SVM, doubled, with 1.0 = 2^96 (31 + 64 fraction bits and the doubling) (R174). -/
def svmZero (mode : Nat) (a b c : Int) : Int :=
  let hi := max a (max b c)
  let lo := min a (min b c)
  let one : Int := 2 ^ 95
  match mode with
  | 0 => -(hi + lo)
  | 1 => 0
  | 2 => -one - 2 * lo
  | 3 => one - 2 * hi
  | _ =>
    let x := if b.natAbs ≤ a.natAbs ∧ c.natAbs ≤ a.natAbs then a else if c.natAbs ≤ b.natAbs then b else c
    if 0 ≤ x then one - 2 * x else -one - 2 * x

/-- One duty of SVM: 0.5 + v + v0 clamped to 0 to 0x7FFF_FFFF; exactly 1.0 gives 0x7FFF_FFFF without SAT (R174). -/
def State.svmDuty (s : State) (k : Nat) (v zero : Int) : Int × Bool :=
  let x : Int := 2 ^ 95 + 2 * v + zero
  let y := if x = 2 ^ 96 then 2147483647 else roundShift x 65 + s.err k 510
  (clampInt 0 2147483647 y, decide (x < 0) || decide (2 ^ 96 < x))

def isaSvm (s : State) (n : Nat) (r : TrimRun) (w : Word) : IsaRes :=
  let al := r.rd (fA w)
  let be := r.rd (fA w + 1)
  let va : Int := al * 2 ^ 64
  let vb : Int := -al * 2 ^ 63 + be * halfRoot3
  let vc : Int := -al * 2 ^ 63 - be * halfRoot3
  let z := svmZero (fC w) va vb vc
  let x := s.svmDuty 0 va z
  let y := s.svmDuty 1 vb z
  let u := s.svmDuty 2 vc z
  some (((s.ctxFlag n r.slot 0 (x.2 || y.2 || u.2)).took 3), ((r.wr (fD w) x.1).wr (fD w + 1) y.1).wr (fD w + 2) u.1)

/-- A sine value as a result word: exactly +1.0 is 0x7FFF_FFFF, without SAT (R170, R174). -/
def State.sineWord (s : State) (k t : Nat) : Int :=
  if t % 2 ^ 32 = 2 ^ 30 then 2147483647 else (s.nearQ k (turnSin t * 2 ^ 31)).1

def isaSincos (s : State) (n : Nat) (r : TrimRun) (w : Word) : IsaRes :=
  let t := (wInt (r.rd (fA w))).toNat
  some (s.toD2 n r (fD w) (s.sineWord 0 t, false) (s.sineWord 1 (t + 2 ^ 30), false))

/-- ATAN2 within 2^-22 turn; atan2(0, 0) is 0 and sets DOMAIN (R173, R174). -/
def isaAtan2 (s : State) (n : Nat) (r : TrimRun) (w : Word) : IsaRes :=
  let a := r.rd (fA w)
  let b := r.rd (fB w)
  if a = 0 ∧ b = 0 then some (s.ctxFlag n r.slot 3 true, r.wr (fD w) 0)
  else some (s.took 1, r.wr (fD w) (turnAtan2 a b + s.err 0 1000))

def isaSqrt (s : State) (n : Nat) (r : TrimRun) (w : Word) : IsaRes :=
  let a := r.rd (fA w)
  if a < 0 then some (s.ctxFlag n r.slot 3 true, r.wr (fD w) 0)
  else some (s, r.wr (fD w) (rootRound (a.toNat * 2 ^ 31)))

/-- The quotient A · 2^31 / B rounded half toward +∞, and whether it lies beyond ±2^31 (R173). -/
def divQ (a b : Int) : Int × Bool :=
  let p := if b < 0 then -a else a
  let q : Int := b.natAbs
  (clampInt (-2147483648) 2147483647 ((2 * p * 2 ^ 31 + q) / (2 * q)), decide (q < p) || decide (p < -q))

def isaDiv (s : State) (n : Nat) (r : TrimRun) (w : Word) : IsaRes :=
  let a := r.rd (fA w)
  let b := r.rd (fB w)
  if b = 0 then some (s.ctxFlag n r.slot 2 true, r.wr (fD w) (if 0 ≤ a then 2147483647 else -2147483648))
  else some (s.toD n r (fD w) (divQ a b))

/-! ### Branch (R172) -/

/-- Whether a branch condition holds. -/
def State.condHolds (s : State) (n : Nat) (r : TrimRun) (w : Word) : Bool :=
  let a := r.rd (fD w)
  let b := r.rd (fA w)
  match fB w with
  | 0 => decide (a = b)
  | 1 => decide (a ≠ b)
  | 2 => decide (a < b)
  | 3 => decide (b ≤ a)
  | 4 => r.inv
  | 5 => !s.flag (Adr.TRIM_RAMPCFG n r.slot) 31 || s.reg (Adr.TRIM_CRAMP n r.slot) == nthD 0#32 r.setp 0
  | 6 => match (s.engine n).tuner with
    | some u => u.slot == r.slot
    | none => false
  | _ => true

/-- The target of a branch: its index + 1 + OFFSET. -/
def branchTarget (pc : Nat) (w : Word) : Int := pc + 1 + signed 12 (bits w 11 0)

end Sys2Proof.Machine
end

