-- ==== Sys2Proof/Machine/TrimOps.lean ====
section
/-! DEFINITION. Trim engines (chapter 08): enabling and disabling contexts, triggers, scheduling, faults, statuses to Shroud and the tuner's
control. -/

namespace Sys2Proof.Machine

/-! ### Bits of CSTAT (R196) -/

def Cstat.chk : Nat := 19
def Cstat.rampDone : Nat := 18
def Cstat.pend : Nat := 17
def Cstat.run : Nat := 16

/-- CCTRL.CEN of slot i of engine n. -/
def State.cen (s : State) (n i : Nat) : Bool := s.flag (Adr.TRIM_CCTRL n i) 0

/-- CCFG.SAFE. -/
def State.ctxSafe (s : State) (n i : Nat) : Bool := s.flag (Adr.TRIM_CCFG n i) 23

/-- The context is pending. -/
def State.ctxPend (s : State) (n i : Nat) : Bool := s.flag (Adr.TRIM_CSTAT n i) Cstat.pend

/-- ESTAT from the pending bits and the run (R195). -/
def State.estat (s : State) (n : Nat) : State :=
  let pend := maskOf 8 fun i => s.ctxPend n i
  let run := match (s.engine n).run with
    | some r => 8 + r.slot
    | none => 0
  s.setReg (Adr.TRIM_ESTAT n) (w32 (pend * 256 + run))

/-! ### Status wires (R188) -/

/-- What a safety-marked context reports for a trigger. -/
inductive CtxStatus where
  | ok | trip | overrun
deriving DecidableEq, Repr

/-- A status on the wire of context c: OVERRUN counts in a row, any other status ends the row (R160, R188). -/
def State.reportStatus (s : State) (c : Nat) (st : CtxStatus) : State :=
  let h := s.shroud
  let n := Store.get (fun _ => 0) h.overruns c
  match st with
  | .ok => s.setShroud { h with overruns := Store.put (fun _ => 0) c 0 h.overruns, trips := setBit h.trips c false }
  | .trip => s.setShroud { h with overruns := Store.put (fun _ => 0) c 0 h.overruns, trips := setBit h.trips c true,
                                  tripsA := h.tripsA ||| oneBit c, tripsB := h.tripsB ||| oneBit c }
  | .overrun =>
    let seen (w : Word) : Word := if s.fld Adr.SHRD_MISC 7 4 ≤ n + 1 then w ||| oneBit c else w
    s.setShroud { h with overruns := Store.put (fun _ => 0) c (min (n + 1) 15) h.overruns, trips := setBit h.trips c false,
                         oversA := seen h.oversA, oversB := seen h.oversB }

/-- The same, only where the context is safety-marked. -/
def State.ctxReport (s : State) (n i : Nat) (st : CtxStatus) : State :=
  if s.ctxSafe n i then s.reportStatus (8 * n + i) st else s

/-! ### Ends of runs (R179, R184, R187) -/

/-- A run is over: LASTCYC, CYCMAX, the engine idle. A CEN cleared meanwhile takes effect (R183). -/
def State.runOver (s : State) (n : Nat) (r : TrimRun) : State :=
  let c := 8 * n + r.slot
  let lat := s.reg (Adr.TSCH_LAT c)
  let s1 := ((s.setFld (Adr.TRIM_CSTAT n r.slot) 13 0 (min r.cyc 16383)).setFlag (Adr.TRIM_CSTAT n r.slot) Cstat.run false).setReg
    (Adr.TSCH_LAT c) (setBits lat 31 16 (max (bits lat 31 16) (min r.cyc 65535)))
  ((s1.putEngine n { s.engine n with run := none, freeAt := s.now, busy := (s.engine n).busy + r.cyc }).putCtx c
    { s.ctx c with closing := false }).estat n

/-- A pending trigger is dropped, reported as OVERRUN (R183). -/
def State.dropPending (s : State) (n i : Nat) : State :=
  if s.ctxPend n i then ((s.setFlag (Adr.TRIM_CSTAT n i) Cstat.pend false).ctxReport n i .overrun).estat n else s

/-- A tune of the slot fails once its context is disabled (R194). -/
def State.tuneAbortSlot (s : State) (n i : Nat) : State :=
  match (s.engine n).tuner with
  | some u => if u.slot = i then s.putEngine n { s.engine n with tuner := some (u.failWith 7) } else s
  | none => s

/-- The context no longer accepts triggers. -/
def State.ctxOff (s : State) (n i : Nat) : State :=
  ((s.setFlag (Adr.TRIM_CCTRL n i) 0 false).setFlag (Adr.TRIM_CSTAT n i) Cstat.chk false).putCtx (8 * n + i)
    { s.ctx (8 * n + i) with accepts := false }

/-- A context fault: no commit, CEN clears, PFAULT and PEVT.ERR, FCAUSE 1 ECC or 2 BOUND; an OVERRUN (R187, R188). -/
def State.ctxFault (s : State) (n : Nat) (r : TrimRun) (cause : Nat) : State :=
  let i := r.slot
  ((((((s.setFld (Adr.TRIM_CSTAT n i) 27 24 cause).runOver n r).ctxOff n i).dropPending n i).tuneAbortSlot n i).fault
    (Pg.TRIM n) i).raise (Pg.TRIM n) (16 + i) |>.ctxReport n i .overrun

/-- CEN cleared by firmware: a run in progress ends normally, a pending trigger is dropped (R183). -/
def State.ctxClose (s : State) (n i : Nat) : State :=
  let running := match (s.engine n).run with
    | some r => r.slot == i
    | none => false
  let s1 := ((s.dropPending n i).ctxOff n i).tuneAbortSlot n i
  s1.putCtx (8 * n + i) { s1.ctx (8 * n + i) with closing := running }

/-- Everything of an engine stops at once: no commit, no pending trigger, no CEN (R183). -/
def State.engineStop (s : State) (n : Nat) : State :=
  let s1 := match (s.engine n).run with
    | some r => (s.runOver n r).ctxReport n r.slot .overrun
    | none => s
  s1.each (List.range 8) fun t i => ((t.dropPending n i).ctxOff n i).tuneAbortSlot n i

/-! ### Enabling (R182) -/

/-- Contexts with CEN = 1 but for context c. -/
def State.otherEnabled (s : State) (c : Nat) : List Nat :=
  (List.range 32).filter fun d => d != c && s.cen (d / 8) (d % 8)

/-- PWM units that context c binds. -/
def State.ctxUnits (s : State) (c : Nat) : List Nat :=
  let w := s.reg (Adr.TRIM_CCFG (c / 8) (c % 8))
  (if bit w 20 then [bits w 15 12] else []) ++ (if bit w 21 then [bits w 19 16] else [])

/-- SPTGTj of context c. -/
def State.sptgt (s : State) (c j : Nat) : Word := s.reg (Adr.TRIM_SPTGT0 (c / 8) (c % 8) + 4 * j)

/-- Byte offsets of the registers that its enabled set-point targets name. -/
def State.ctxTargets (s : State) (c : Nat) : List Nat :=
  ((List.range 4).filter fun j => bit (s.sptgt c j) 31).map fun j => bits (s.sptgt c j) 20 2 * 4

/-- A PWM unit is bound by an enabled context (R13). -/
def State.unitBound (s : State) (u : Nat) : Bool := (List.range 32).any fun c => s.cen (c / 8) (c % 8) && (s.ctxUnits c).contains u

/-- The first refusal of the checks before the scan; 0 when all pass (R182). -/
def State.enableCheck (s : State) (n i : Nat) : Nat :=
  let c := 8 * n + i
  let own := s.owner (Pg.TRIM n)
  let prog := s.reg (Adr.TRIM_CPROG n i)
  let others := s.otherEnabled c
  if !s.pageEn (Pg.TRIM n) then 1
  else if s.flag (Adr.PFAULT (Pg.TRIM n)) i then 2
  else if s.fld (Adr.TRIM_CBUDGET n i) 13 0 = 0 ∨ bits prog 28 16 = 0 ∨ 4096 < bits prog 11 0 + bits prog 28 16 then 3
  else if s.ctxSafe n i && !s.pageMarked (Pg.TRIM n) then 4
  else if others.any fun d => (s.ctxUnits c).any fun u => (s.ctxUnits d).contains u then 5
  else if ((s.ctxUnits c).any fun u => s.owner (Pg.PWM u) != own) || (s.ctxTargets c).any fun a => s.owner (pageOf a) != own then 6
  else if others.any fun d => (s.ctxTargets c).any fun a => (s.ctxTargets d).contains a then 7
  else if s.flag (Adr.TRIM_CCFG n i) 22 && (s.ctxUnits c).any fun u => s.boundGroup u == some 0 || s.boundGroup u == some 1 then 8
  else 0

/-- A mapped sample selector (R176). -/
def selMapped (x : Nat) : Bool :=
  decide (x ≤ 0x17) || (decide (0x20 ≤ x) && decide (x ≤ 0xA6)) || (decide (0xB0 ≤ x) && decide (x ≤ 0xCF))
    || (decide (0x100 ≤ x) && decide (x ≤ 0x185))

/-- A staging selector (R178). -/
def stageMapped (x : Nat) : Bool := decide (x ≤ 0x13) || (decide (0x20 ≤ x) && decide (x ≤ 0x23))

/-- Whether the scan accepts instruction w at index p of a program of len instructions with a fixed region of fix entries (R182). -/
def scanOk (len fix p : Nat) (w : Word) : Bool :=
  match fOp w with
  | 0x00 => bits w 1 0 != 3
  | 0x01 | 0x03 => selMapped (fSel w)
  | 0x02 => selMapped (fSel w) && decide (fK w < fix)
  | 0x04 => stageMapped (fSel w)
  | 0x05 | 0x06 | 0x07 | 0x08 | 0x09 | 0x0A | 0x0B | 0x0C | 0x10 | 0x11 | 0x12 | 0x13 | 0x14 | 0x15 | 0x16 | 0x17 | 0x18 => true
  | 0x19 | 0x1A => decide (fB w < 15)
  | 0x1B => decide (fC w < 15)
  | 0x20 | 0x24 => decide (fD w < 15)
  | 0x21 | 0x22 => decide (fD w < 15) && decide (fA w < 15)
  | 0x23 => decide (fC w ≤ 4) && decide (fD w < 14) && decide (fA w < 15)
  | 0x25 | 0x26 | 0x27 => true
  | 0x30 => decide (fB w ≤ 7) && decide (0 ≤ branchTarget p w) && decide (branchTarget p w < len)
  | _ => false

/-- The scan of the program range (R182). -/
def State.scanProgram (s : State) (n i : Nat) : Bool :=
  let prog := s.reg (Adr.TRIM_CPROG n i)
  let fix := s.fld (Adr.TRIM_CFIX n) 9 0
  (List.range (bits prog 28 16)).all fun p => scanOk (bits prog 28 16) fix p (s.mword (progAddr n (bits prog 11 0 + p)))

/-- An enable attempt fails: CEN clears, ENREF, PEVT.ERR. -/
def State.enableRefuse (s : State) (n i why : Nat) : State :=
  ((s.ctxOff n i).setFld (Adr.TRIM_CSTAT n i) 31 28 why).raise (Pg.TRIM n) (16 + i)

/-- CEN = 1 has been written: the checks before the scan, in order (R182). -/
def State.ctxEnable (s : State) (n i : Nat) : State :=
  let s1 := s.setFld (Adr.TRIM_CSTAT n i) 31 28 0
  match s1.enableCheck n i with
  | 0 => s1.setFlag (Adr.TRIM_CSTAT n i) Cstat.chk true
  | why => s1.enableRefuse n i why

/-- The ramp's starting value (R189). -/
def State.rampStart (s : State) (n i : Nat) : State :=
  let cfg := s.reg (Adr.TRIM_RAMPCFG n i)
  if !bit cfg 31 then s.setReg (Adr.TRIM_CRAMP n i) (s.reg (Adr.TRIM_SETP0 n i))
  else
    let w := s.live (bits cfg 9 0) s.now
    if w.valid then s.setReg (Adr.TRIM_CRAMP n i) w.value
    else (s.setReg (Adr.TRIM_CRAMP n i) 0#32).setFlag (Adr.TRIM_CFLAG n i) 6 true

/-- The scan ends: the context accepts triggers and its ramp and watchdog start, or it is refused with PROGRAM (R182, R188, R189). -/
def State.scanDone (s : State) (n i : Nat) : State :=
  if !s.flag (Adr.TRIM_CSTAT n i) Cstat.chk then s
  else if s.scanProgram n i then
    let c := s.ctx (8 * n + i)
    ((s.setFlag (Adr.TRIM_CSTAT n i) Cstat.chk false).putCtx (8 * n + i) { c with accepts := true, wdg := true }).rampStart n i
  else s.enableRefuse n i 9

/-! ### Triggers and run starts (R184, R185, R189) -/

/-- One context at an occurrence of its trigger, stamped now. -/
def State.ctxTrigger (s : State) (n i : Nat) : State :=
  if !(s.ctx (8 * n + i)).accepts then s.ctxReport n i .overrun
  else if s.ctxPend n i then
    ((s.setFlag (Adr.TRIM_CFLAG n i) 5 true).raise (Pg.TRIM n) (8 + i)).ctxReport n i .overrun
  else ((s.setFlag (Adr.TRIM_CSTAT n i) Cstat.pend true).putCtx (8 * n + i)
    { s.ctx (8 * n + i) with pendTime := s.now }).estat n

/-- An occurrence of event e at the trim engines. [DESIGN CHOICE, assumption 44] -/
def State.trimTrigger (s : State) (e : Nat) : State :=
  if !s.domOn 5 then s
  else s.each (List.range 32) fun t c =>
    if t.fld (Adr.TRIM_CCFG (c / 8) (c % 8)) 31 24 = e then t.ctxTrigger (c / 8) (c % 8) else t

/-- The ramp steps toward the latched SETP0; its first arrival sets RAMPDONE and PEVT.AUX (R189). -/
def State.rampStep (s : State) (n i : Nat) (goal : Word) : State :=
  if !s.flag (Adr.TRIM_RAMPCFG n i) 31 then s.setReg (Adr.TRIM_CRAMP n i) goal
  else
    let r := toward (s.reg (Adr.TRIM_CRAMP n i)).toInt goal.toInt (s.reg (Adr.TRIM_RAMPRATE n i)).toInt
    let s1 := s.setReg (Adr.TRIM_CRAMP n i) (wInt r)
    if r = goal.toInt ∧ !s.flag (Adr.TRIM_CSTAT n i) Cstat.rampDone then
      (s1.setFlag (Adr.TRIM_CSTAT n i) Cstat.rampDone true).raise (Pg.TRIM n) (24 + i)
    else s1

/-- A tune of the slot that has failed ends at this run start; so does one after Shroud has left COMMISSION (R194). -/
def State.tuneCheck (s : State) (n i : Nat) : State :=
  match (s.engine n).tuner with
  | some u =>
    if u.slot ≠ i then s
    else if u.failNext ≠ 0 then s.tuneEnd n 3 u.failNext
    else if s.fld Adr.SHRD_STATE 1 0 ≠ 2 then s.tuneEnd n 3 1
    else s
  | none => s

/-- Latency in trim cycles from a stamp to now: 3 ticks are 2 cycles. -/
def State.latency (s : State) (t : Nat) : Nat := (s.now - t) * 2 / 3

/-- An idle engine starts its lowest pending slot: registers cleared, set-points latched, the ramp stepped, the bank taken (R168, R181,
R184). [DEDUCED, assumption 35] -/
def State.runStart (s : State) (n : Nat) : State :=
  match (s.engine n).run, lowestBit (s.reg (Adr.TRIM_ESTAT n) >>> 8) 8 with
  | none, some i =>
    let c := 8 * n + i
    let setp := (List.range 4).map fun j => s.reg (Adr.TRIM_SETP0 n i + 4 * j)
    let lat := s.reg (Adr.TSCH_LAT c)
    let run : TrimRun := { slot := i, pc := s.fld (Adr.TRIM_CPROG n i) 11 0, cyc := 0, d := [], a0 := 0, a1 := 0, staged := [],
                           written := [], setp := setp, trigTime := (s.ctx c).pendTime, inv := false, relayed := false }
    let s1 := (((s.setFlag (Adr.TRIM_CSTAT n i) Cstat.pend false).setFlag (Adr.TRIM_CSTAT n i) Cstat.run true).setFlag
      (Adr.TRIM_CBSEL n i) 8 (s.flag (Adr.TRIM_CBSEL n i) 0)).setReg (Adr.TSCH_LAT c)
      (setBits lat 15 0 (max (bits lat 15 0) (min (s.latency (s.ctx c).pendTime) 65535)))
    (((s1.putEngine n { s.engine n with run := some run }).rampStep n i (nthD 0#32 setp 0)).tuneCheck n i).estat n
  | _, _ => s

/-! ### Running one instruction (R172, R173, R187) -/

/-- The context's program ends at this index. -/
def State.progEnd (s : State) (n i : Nat) : Nat := s.fld (Adr.TRIM_CPROG n i) 11 0 + s.fld (Adr.TRIM_CPROG n i) 28 16

/-- A corrected ECC error is counted (R187). -/
def State.eccCount (s : State) (n : Nat) (e : Ecc) : State := if e = .corrected then s.bump (Adr.TRIM_ECCCNT n) 15 0 else s

/-- The run goes on at index pc after c more cycles; past the end of the program range it is a BOUND fault (R187). [DESIGN CHOICE, assumption 6] -/
def State.goOn (s : State) (n : Nat) (r : TrimRun) (pc : Int) (c : Nat) : State :=
  let r1 := { r with pc := pc.toNat, cyc := r.cyc + c }
  if decide (pc < (s.fld (Adr.TRIM_CPROG n r.slot) 11 0 : Int)) || decide ((s.progEnd n r.slot : Int) ≤ pc) then s.ctxFault n r1 2
  else s.putEngine n { s.engine n with run := some r1 }

/-- The instruction that engine n issues now is one that p holds of: a run is in progress within its budget. -/
def State.issues (s : State) (n : Nat) (p : Word → Bool) : Option (TrimRun × Word) :=
  match (s.engine n).run with
  | some r =>
    let w := s.mword (progAddr n r.pc)
    if r.cyc < s.fld (Adr.TRIM_CBUDGET n r.slot) 13 0 ∧ p w then some (r, w) else none
  | none => none

/-- An ordinary instruction with opcode op and a cost in cycles; where engine n issues another one, nothing happens. [DESIGN CHOICE, assumption 6; DESIGN CHOICE, assumption 65] -/
def State.isaStep (s : State) (n : Nat) (ecc : Ecc) (op cost : Nat) (f : State → Nat → TrimRun → Word → IsaRes) : State :=
  match s.issues n fun w => fOp w == op with
  | none => s
  | some (r, w) =>
    if ecc = .uncorrectable then s.ctxFault n r 1
    else match f (s.eccCount n ecc) n r w with
      | some (t, r1) => t.goOn n r1 (r.pc + 1) cost
      | none => (s.eccCount n ecc).ctxFault n r 2

/-- A branch: 1 cycle not taken, 2 taken (R172). -/
def State.isaBranch (s : State) (n : Nat) (ecc : Ecc) : State :=
  match s.issues n fun w => fOp w == 0x30 with
  | none => s
  | some (r, w) =>
    if ecc = .uncorrectable then s.ctxFault n r 1
    else if s.condHolds n r w then (s.eccCount n ecc).goOn n r (branchTarget r.pc w) 2
    else (s.eccCount n ecc).goOn n r (r.pc + 1) 1

/-- The cut of R112: the count has reached the budget (or the two counters disagree, R113). -/
def State.budgetCut (s : State) (n : Nat) (mismatch : Bool) : State :=
  match (s.engine n).run with
  | none => s
  | some r =>
    if mismatch || decide (s.fld (Adr.TRIM_CBUDGET n r.slot) 13 0 ≤ r.cyc) then
      let t := ((s.runOver n r).setFlag Adr.TBU_TRIMOVR (8 * n + r.slot) true).raise (Pg.TRIM n) (8 + r.slot)
      ((t.raise Pg.TBU (if s.ctxSafe n r.slot then 3 else 2)).when mismatch fun u => u.raise Pg.TBU 6).ctxReport n r.slot .overrun
    else s

/-- The staged words of a commit for PWM unit u, selectors from base on: none written, none committed; unwritten words keep the last
committed value (R178). [DEDUCED, assumption 35] -/
def State.commitUnit (s : State) (r : TrimRun) (u base : Nat) : State :=
  if (List.range 8).any fun w => r.written.contains (base + w) then
    s.commitSet u ((List.range 8).map fun w =>
      if r.written.contains (base + w) then Store.get (fun _ => 0#32) r.staged (base + w) else nthD 0#32 (s.pwm u).last w)
  else s

/-- The PWM sets and published words of a commit (R178). -/
def State.commitWords (s : State) (n : Nat) (r : TrimRun) : State :=
  let w := s.reg (Adr.TRIM_CCFG n r.slot)
  let s1 := if bit w 20 then s.commitUnit r (bits w 15 12) 0 else s
  let s2 := if bit w 21 then s1.commitUnit r (bits w 19 16) 8 else s1
  s2.each (List.range 4) fun t j =>
    if r.written.contains (0x20 + j) then
      t.publish (0x100 + 4 * (8 * n + r.slot) + j) (Store.get (fun _ => 0#32) r.staged (0x20 + j)) r.trigTime
    else t

/-! ### Tuner control (R191, R194) -/

/-- TCTRL.START: refused with a reason, or the tuner starts. -/
def State.tuneStart (s : State) (n : Nat) : State :=
  let c := s.reg (Adr.TRIM_TCTRL n)
  let i := bits c 6 4
  let refuse (why : Nat) : State := (s.setFld (Adr.TRIM_TSTAT n) 1 0 3).setFld (Adr.TRIM_TSTAT n) 7 4 why
  if s.fld Adr.SHRD_STATE 1 0 ≠ 2 then refuse 1
  else if !(s.ctx (8 * n + i)).accepts || !s.flag (Adr.TRIM_CCFG n i) 22 || (s.engine n).tuner.isSome then refuse 2
  else
    let u : Tuner := { slot := i, rule := bits c 9 8, y := none, lastUp := none, skipped := false, periods := [], emin := 0, emax := 0,
                       firstT := 0, lastT := 0, runs := 0, failNext := 0 }
    (s.setReg (Adr.TRIM_TSTAT n) 1#32).putEngine n { s.engine n with tuner := some u }

/-- TCTRL.ABORT, or TMAX has passed: the tune fails at the next run (R194). -/
def State.tuneFail (s : State) (n why : Nat) : State :=
  match (s.engine n).tuner with
  | some u => s.putEngine n { s.engine n with tuner := some (u.failWith why) }
  | none => s

/-- No trigger within TWDG µs (R188). -/
def State.ctxWatchdog (s : State) (n i : Nat) : State :=
  if (s.ctx (8 * n + i)).wdg && s.fld (Adr.TRIM_CBUDGET n i) 31 16 != 0 then s.ctxReport n i .overrun else s

/-! ### Trim memories (R180) -/

/-- Engine and instruction index of an address in trim program memory. -/
def progSlot (a : Nat) : Nat × Nat := ((a - 0x30000000) / 0x4000, (a - 0x30000000) % 0x4000 / 4)

/-- The instruction lies in the program range of an enabled context of its engine. -/
def State.progBusy (s : State) (n p : Nat) : Bool :=
  (List.range 8).any fun i => s.cen n i && decide (s.fld (Adr.TRIM_CPROG n i) 11 0 ≤ p) && decide (p < s.progEnd n i)

/-- The engine's fixed region is locked: PCTRL.LOCK while PD5 is on (R177, R180). -/
def State.fixLocked (s : State) (n e : Nat) : Bool :=
  s.domOn 5 && s.flag (Adr.PCTRL (Pg.TRIM n)) 2 && decide (e < s.fld (Adr.TRIM_CFIX n) 9 0)

end Sys2Proof.Machine
end

