-- ==== Sys2Proof/Machine/DcdcOps.lean ====
section
/-! DEFINITION. The DC/DC converter block (chapter 13): start and stop, the reference, frequency and synchronisation, phases, faults, and what
it does at each period boundary of its unit. -/

namespace Sys2Proof.Machine

/-! ### Set-points and gating by a block -/

/-- A set-point register of context c written by a block; another SETP0 ends RAMPDONE (R189). -/
def State.putSetp (s : State) (c j : Nat) (v : Word) : State :=
  let t := s.setReg (Adr.TRIM_SETP0 (c / 8) (c % 8) + 4 * j) v
  if j = 0 ∧ v ≠ s.reg (Adr.TRIM_CRAMP (c / 8) (c % 8)) then t.setFlag (Adr.TRIM_CSTAT (c / 8) (c % 8)) Cstat.rampDone false else t

/-- A waiting set of a block made to gate the channels of a mask OFF. -/
def regate (mask : Nat) (e : Nat × List Word) : Nat × List Word :=
  if e.2.length = 9 then (e.1, e.2.take 8 ++ [w32 mask]) else e

/-- Channels of unit u that a block gates OFF from now on, in its waiting sets too (R310, R326). -/
def State.gateUnit (s : State) (u mask : Nat) : State :=
  s.putPwm u { s.pwm u with gate := mask, sets := (s.pwm u).sets.map (regate mask) }

/-- x / y as a Q1.31 word: nearest, half toward +∞, saturated. -/
def ratioWord (x : Int) (y : Nat) : Word := sat32 ((x * 2 ^ 32 + y) / (2 * (max y 1 : Nat)))

/-- Shroud decides RUN for group g (R165): path A selects its commands. -/
def State.shroudRuns (s : State) (g : Nat) : Bool := pathRuns (s.group g).pathA

/-! ### Fields -/

/-- STAT.STATE: 0 OFF, 1 RAMP, 2 RUN, 3 HICCUP, 4 LATCHED (R311). -/
def State.dcdcState (s : State) : Nat := s.fld Adr.DCDC_STAT 2 0

/-- The primary and the rectifier unit, and the voltage context. -/
def State.dcdcUnit (s : State) : Nat := s.fld Adr.DCDC_CFG 3 0
def State.dcdcSr (s : State) : Nat := s.fld Adr.DCDC_CFG 7 4
def State.dcdcCtx (s : State) : Nat := s.fld Adr.DCDC_CFG 12 8

/-- Populated phases, bit p - 1. -/
def State.dcdcPhen (s : State) : Nat := s.fld Adr.DCDC_CFG 23 20

/-- Active phases. -/
def State.dcdcAct (s : State) : Nat := s.fld Adr.DCDC_STAT 19 16

/-- The block runs its law: RAMP or RUN. -/
def State.dcdcRuns (s : State) : Bool := s.dcdcState == 1 || s.dcdcState == 2

/-- The VOUT word. -/
def State.dcdcVout (s : State) : Sample := s.live (s.fld Adr.DCDC_VSEL 9 0) s.now

/-- The output voltage that a word stands for, in 1/600 µV (R309); a negative word is 0 V. -/
def State.dcdcFine (s : State) (w : Word) : Nat :=
  (roundShift (w.toInt * (s.fld Adr.DCDC_VFS 15 0 * 600000 : Nat)) 31).toNat

/-- The current word of phase k + 1. -/
def State.dcdcI (s : State) (k : Nat) : Sample :=
  let r := s.reg (if k < 2 then Adr.DCDC_ISEL12 else Adr.DCDC_ISEL34)
  s.live (if k % 2 = 0 then bits r 9 0 else bits r 25 16) s.now

/-- A change of state sets PEVT.STATE (R311). -/
def State.dcdcEnter (s : State) (st : Nat) : State :=
  if s.dcdcState = st then s else (s.setFld Adr.DCDC_STAT 2 0 st).raise Pg.DCDC 0

/-- CAUSE written. -/
def State.dcdcCause (s : State) (c : Nat) : State := s.setReg Adr.DCDC_CAUSE (w32 c)

/-- VREF written, with the register that shows it in mV. -/
def State.dcdcVref (s : State) (v : Nat) : State :=
  (s.setDcdc { s.dcdc with vref := v }).setReg Adr.DCDC_VREF (w32 (v / 600000))

/-- The active phases replaced; a change of their number sets PEVT.SHED, and a phase that is not active holds trim 0 (R318, R319). -/
def State.dcdcPhases (s : State) (act : Nat) (event : Bool) : State :=
  let old := s.dcdcAct
  let t := (s.setFld Adr.DCDC_STAT 19 16 act).each [0, 1, 2, 3] fun t k =>
    if act.testBit k then t else t.setReg (Adr.DCDC_TRIM (k + 1)) 0#32
  t.when (event && popCount (w32 old) 4 != popCount (w32 act) 4) fun u => u.raise Pg.DCDC 2

/-- RUN = 0 and every phase gated OFF: the state becomes st (R311, R321). [DEDUCED, assumption 54] -/
def State.dcdcHalt (s : State) (st : Nat) : State :=
  let t := ((s.dcdcPhases 0 false).gateUnit s.dcdcUnit 15).gateUnit s.dcdcSr 15
  (t.putSetp s.dcdcCtx 1 0#32).dcdcEnter st

/-! ### Start and stop (R312, R314, R321) -/

/-- The ownership of R308. -/
def State.dcdcOwned (s : State) : Bool :=
  [Pg.PWM s.dcdcUnit, Pg.PWM s.dcdcSr, Pg.GGRP 4, Pg.LVDRV, Pg.TRIM (s.dcdcCtx / 8)].all fun p => s.owner p == s.owner Pg.DCDC

/-- Why a start is refused; 0 when it is accepted (R312). -/
def State.dcdcRefusal (s : State) : Nat :=
  let c := s.dcdcCtx
  if !s.pageEn Pg.DCDC || !s.shroudRuns 4 then 2
  else if s.flag (Adr.PFAULT Pg.DCDC) 0 then 7
  else if !s.dcdcVout.valid then 4
  else if !s.cen (c / 8) (c % 8) || s.flag (Adr.TRIM_RAMPCFG (c / 8) (c % 8)) 31 || !s.dcdcOwned || s.dcdcPhen == 0
      || (s.flag Adr.DCDC_CFG 25 && decide (s.fld Adr.DCDC_SHED 15 8 ≤ s.fld Adr.DCDC_SHED 7 0)) then 6
  else 0

/-- An accepted start. -/
def State.dcdcAccept (s : State) : State :=
  let t := (s.dcdcVref (s.dcdcFine s.dcdcVout.value)).each [1, 2, 3, 4] fun t p => t.setReg (Adr.DCDC_TRIM p) 0#32
  ((t.setDcdc { t.dcdc with badV := 0 }).dcdcPhases s.dcdcPhen false).dcdcEnter 1

/-- CMD.START in OFF. -/
def State.dcdcStart (s : State) : State :=
  if s.dcdcState ≠ 0 then s
  else if s.dcdcRefusal = 0 then s.dcdcAccept
  else (s.dcdcCause s.dcdcRefusal).raise Pg.DCDC 0

/-- CMD.STOP in any state except LATCHED. -/
def State.dcdcStop (s : State) : State :=
  if s.dcdcState = 4 then s else ((s.dcdcHalt 0).dcdcCause 1).setFld Adr.DCDC_STAT 13 12 0

/-- CMD written: STOP wins over START. -/
def State.dcdcCmd (s : State) (v : Word) : State := if bit v 1 then s.dcdcStop else if bit v 0 then s.dcdcStart else s

/-- A stop by R321 with its cause and its fault bit, if any. -/
def State.dcdcTrip (s : State) (cause : Nat) (bit_ : Option Nat) : State :=
  if s.dcdcRuns then
    let t := ((s.dcdcHalt 0).dcdcCause cause).raise Pg.DCDC 3
    match bit_ with
    | some b => t.fault Pg.DCDC b
    | none => t
  else s

/-- Shroud no longer decides RUN for G5. -/
def State.dcdcShroud (s : State) : State := if s.shroudRuns 4 then s else s.dcdcTrip 2 none

/-- The page's safe state: OFF, CAUSE SAFE; a latch stays (R314, R321). [DEDUCED, assumption 54] -/
def State.dcdcSafe (s : State) : State := if s.dcdcState = 4 then s else (s.dcdcHalt 0).dcdcCause 8

/-- VOUT has stayed below 0.2 × VSET for 10 ms (R314). -/
def State.dcdcShort (s : State) : State :=
  let v := s.dcdcVout
  if s.dcdcState = 2 ∧ v.valid ∧ 5 * s.dcdcFine v.value < s.fld Adr.DCDC_VSET 15 0 * 600000 then
    if s.fld Adr.DCDC_STAT 13 12 < 2 then ((s.dcdcHalt 3).bump Adr.DCDC_STAT 13 12).raise Pg.DCDC 3
    else (((s.dcdcHalt 4).fault Pg.DCDC 0).dcdcCause 3).raise Pg.DCDC 3
  else s

/-- 500 ms after a hiccup: a start as R312 gives it, HICCNT kept; a refused one leaves OFF. -/
def State.dcdcRetry (s : State) : State :=
  if s.dcdcState = 3 then
    if s.dcdcRefusal = 0 then s.dcdcAccept else (s.dcdcEnter 0).dcdcCause s.dcdcRefusal
  else s

/-- VOUT has stayed at or above 0.9 × VSET for 1 s in RUN. -/
def State.dcdcHealthy (s : State) : State :=
  let v := s.dcdcVout
  if s.dcdcState = 2 ∧ v.valid ∧ 9 * s.fld Adr.DCDC_VSET 15 0 * 600000 ≤ 10 * s.dcdcFine v.value then s.setFld Adr.DCDC_STAT 13 12 0
  else s

/-- PFAULT.SHORT has been cleared with the key: LATCHED ends. -/
def State.dcdcUnlatch (s : State) : State :=
  if s.dcdcState = 4 && !s.flag (Adr.PFAULT Pg.DCDC) 0 then s.dcdcEnter 0 else s

/-- The page becomes enabled: the frequency begins at FSW, and no phase is active (R311, R315). [DEDUCED, assumption 54] -/
def State.dcdcEnable (s : State) : State :=
  let f := clampNat 100000 250000 (s.fld Adr.DCDC_FSW 17 0)
  let t := (s.setDcdc { s.dcdc with fMilli := f * 1000, edge := none, interval := 0, valid := 0, missing := 0, badV := 0 }).setReg
    Adr.DCDC_FNOW (w32 f)
  if s.dcdcState = 4 then t else (t.gateUnit s.dcdcUnit 15).gateUnit s.dcdcSr 15

/-- The page is no longer enabled: it gates nothing. -/
def State.dcdcRelease (s : State) : State := (s.gateUnit s.dcdcUnit 0).gateUnit s.dcdcSr 0

/-- The page is disabled: RUN = 0. -/
def State.dcdcDisable (s : State) : State := (if s.dcdcState = 4 then s else s.dcdcHalt 0).dcdcRelease

/-! ### Synchronisation (R316, R317) -/

/-- SYNCEN, four valid edges in a row: the sync frequency is known. -/
def State.dcdcSynced (s : State) : Bool := s.flag Adr.DCDC_CFG 24 && decide (4 ≤ s.dcdc.valid)

/-- A rising edge on DCDC_SYNC, stamped now. [DEDUCED, assumption 54] -/
def State.dcdcEdge (s : State) : State :=
  let d := s.dcdc
  if !s.pageEn Pg.DCDC || !s.flag Adr.DCDC_CFG 24 then s
  else match d.edge with
    | none => s.setDcdc { d with edge := some s.now, interval := 0, valid := 0, missing := 0 }
    | some e =>
      let i := s.now - e
      let inRange := decide (3000 ≤ i) && decide (i ≤ 7500)
      let near := d.interval == 0 || decide ((20 * ((i : Int) - d.interval)).natAbs ≤ d.interval)
      if inRange && near then s.setDcdc { d with edge := some s.now, interval := i, valid := min (d.valid + 1) 4, missing := 0 }
      else if s.flag Adr.DCDC_STAT 9 || decide (i < 3000) then s
      else s.setDcdc { d with edge := some s.now, interval := if inRange then i else 0, valid := 0 }

/-- No valid edge within 25 % of the period after its instant: the next one is expected a period later, and the third one missing loses the
sync (R317). [DEDUCED, assumption 54] -/
def State.dcdcMissing (s : State) : State :=
  let d := s.dcdc
  if !s.dcdcSynced then s
  else if d.missing < 2 then s.setDcdc { d with missing := d.missing + 1, edge := d.edge.map fun e => e + d.interval }
  else
    let t := s.setDcdc { d with missing := 0, valid := 0, edge := none, interval := 0 }
    if s.flag Adr.DCDC_STAT 9 then (t.setFlag Adr.DCDC_STAT 9 false).raise Pg.DCDC 1 else t

/-- Signed distance in ticks of the boundary at now from the nearest instant edge + SYNCDLY + k · interval. -/
def State.dcdcOff (s : State) : Int :=
  let i : Int := max s.dcdc.interval 1
  let e : Int := ((s.now : Int) - ((s.dcdc.edge.getD 0 : Nat) + (s.fld Adr.DCDC_SYNCDLY 9 0 : Nat))) % i
  if i < 2 * e then e - i else e

/-- The frequency in force is the one wanted, in mHz. -/
def State.dcdcWant (s : State) : Nat :=
  if s.dcdcSynced then 600000000000 / max s.dcdc.interval 1 else clampNat 100000 250000 (s.fld Adr.DCDC_FSW 17 0) * 1000

/-- PER of both units. -/
def State.dcdcPer (s : State) (n : Nat) : State :=
  (s.setFld (Adr.PWM_PER s.dcdcUnit) 19 0 n).setFld (Adr.PWM_PER s.dcdcSr) 19 0 n

/-- The frequency at a boundary: at most 2 % of itself a millisecond toward the one wanted; at the sync frequency the boundary is pulled
toward the edge by at most 0.5 % a period (R315, R316). -/
def State.dcdcFreq (s : State) : State :=
  let d := s.dcdc
  let want := s.dcdcWant
  let step := d.fMilli * (s.pwm s.dcdcUnit).per / 30000000
  let f := if d.fMilli < want then min want (d.fMilli + step) else max want (d.fMilli - step)
  let t := (s.setDcdc { d with fMilli := f }).setReg Adr.DCDC_FNOW (w32 (f / 1000))
  let ended := s.flag Adr.DCDC_STAT 10 && f == want
  let u := (t.setFlag Adr.DCDC_STAT 10 (f != want)).when ended fun v => v.raise Pg.DCDC 1
  if s.dcdcSynced && f == want then
    let e := s.dcdcOff
    let lim : Int := d.interval * 5 / 1000
    let v := u.dcdcPer ((d.interval : Int) - clampInt (-lim) lim e).toNat
    if e.natAbs ≤ 2 && !s.flag Adr.DCDC_STAT 9 then (v.setFlag Adr.DCDC_STAT 9 true).raise Pg.DCDC 1 else v
  else u.dcdcPer ((600000000000 + f / 2) / max f 1)

/-! ### Phases (R310, R318, R319) -/

/-- I_tot: the sum of the active phases' current words. -/
def State.dcdcTotal (s : State) : Int :=
  (List.range 4).foldl (fun n k => if s.dcdcAct.testBit k then n + (s.dcdcI k).value.toInt else n) 0

/-- Number of active phases. -/
def State.dcdcCount (s : State) : Nat := popCount (w32 s.dcdcAct) 4

/-- I_tot stands below m × IPH × k / 256. -/
def State.dcdcBelow (s : State) (m k : Nat) : Bool := decide (256 * s.dcdcTotal < m * (s.reg Adr.DCDC_IPH).toInt * k)

/-- 5 ms below the threshold: the highest-numbered active phase is shed, down to NMIN + 1. -/
def State.dcdcShed (s : State) : State :=
  let n := s.dcdcCount
  if s.dcdcState = 2 && s.flag Adr.DCDC_CFG 25 && !s.flag Adr.DCDC_STAT 11 && decide (s.fld Adr.DCDC_CFG 17 16 + 1 < n)
      && s.dcdcBelow (n - 1) (s.fld Adr.DCDC_SHED 7 0) then
    match (List.range 4).reverse.find? fun k => s.dcdcAct.testBit k with
    | some k => s.dcdcPhases (s.dcdcAct - 2 ^ k) true
    | none => s
  else s

/-- A phase is added at once above its threshold. -/
def State.dcdcAdd (s : State) : State :=
  let n := s.dcdcCount
  let above := decide (n * (s.reg Adr.DCDC_IPH).toInt * (s.fld Adr.DCDC_SHED 15 8) < 256 * s.dcdcTotal)
  match (List.range 4).find? fun k => s.dcdcPhen.testBit k && !s.dcdcAct.testBit k with
  | some k => if above then s.dcdcPhases (s.dcdcAct + 2 ^ k) true else s
  | none => s

/-- The trims of the active phases (R319). -/
def State.dcdcBalance (s : State) : State :=
  let n : Int := max s.dcdcCount 1
  let tot := s.dcdcTotal
  s.each [0, 1, 2, 3] fun t k =>
    if s.dcdcAct.testBit k then
      let d := (s.fld Adr.DCDC_KBAL 15 0 : Nat) * (tot - n * (s.dcdcI k).value.toInt)
      let x := (s.reg (Adr.DCDC_TRIM (k + 1))).toInt + (2 * d + n * 65536) / (2 * n * 65536)
      t.setReg (Adr.DCDC_TRIM (k + 1)) (wInt (clampInt (-0x06666666) 0x06666666 x))
    else t

/-- What shedding and balance do at a boundary in RUN; an invalid current word suspends both and makes every populated phase active. -/
def State.dcdcShare (s : State) : State :=
  let bad := (List.range 4).any fun k => s.dcdcPhen.testBit k && !(s.dcdcI k).valid
  let t := s.setFlag Adr.DCDC_STAT 11 bad
  if bad then t.dcdcPhases s.dcdcPhen true
  else
    let t1 := if !s.flag Adr.DCDC_CFG 25 then t.dcdcPhases s.dcdcPhen true else if s.dcdcState = 2 then t.dcdcAdd else t
    if s.flag Adr.DCDC_CFG 26 && s.dcdcState = 2 then t1.dcdcBalance else t1

/-- Duty and phase words of the four channels: active phases in ascending order at j / m of a turn (R310). -/
def State.dcdcWords (s : State) : List Word :=
  let m := max s.dcdcCount 1
  let duty (k : Nat) : Word :=
    wInt (max 0 (min ((s.reg Adr.DCDC_DUTY).toInt + (s.reg (Adr.DCDC_TRIM (k + 1))).toInt) (s.reg Adr.DCDC_DMAX).toInt))
  (List.range 4).flatMap fun k =>
    if s.dcdcAct.testBit k then
      let j := ((List.range k).filter fun i => s.dcdcAct.testBit i).length
      [duty k, w32 ((2 * j * 2 ^ 32 + m) / (2 * m))]
    else [0#32, 0#32]

/-- The set of this period, to both units, with the channels it gates OFF (R310). -/
def State.dcdcCommit (s : State) : State :=
  let ws := s.dcdcWords ++ [w32 (15 - s.dcdcAct % 16)]
  (s.commitSet s.dcdcUnit ws).commitSet s.dcdcSr ws

/-! ### The period boundary of the unit (R309 to R321) -/

/-- VREF toward VSET by at most SLEW × the period; the first arrival in RAMP enters RUN (R313). -/
def State.dcdcSlew (s : State) : State :=
  if !s.dcdcRuns then s
  else
    let goal := s.fld Adr.DCDC_VSET 15 0 * 600000
    let step := s.fld Adr.DCDC_SLEW 15 0 * (s.pwm s.dcdcUnit).per
    let v := s.dcdc.vref
    let t := s.dcdcVref (if v < goal then min goal (v + step) else max goal (v - step))
    if s.dcdcState = 1 ∧ t.dcdc.vref = goal then t.dcdcEnter 2 else t

/-- The VOUT word: invalid at two consecutive boundaries stops the block (R321). -/
def State.dcdcSense (s : State) : State :=
  let n := if s.dcdcVout.valid then 0 else s.dcdc.badV + 1
  let t := s.setDcdc { s.dcdc with badV := min n 2 }
  if 2 ≤ n then t.dcdcTrip 4 (some 1) else t

/-- VREF / VFS and RUN to the law's set-points (R309). -/
def State.dcdcSetpoints (s : State) : State :=
  let t := s.putSetp s.dcdcCtx 0 (ratioWord s.dcdc.vref (s.fld Adr.DCDC_VFS 15 0 * 600000))
  t.putSetp s.dcdcCtx 1 (w32 s.dcdcRuns.toNat)

/-- One period boundary of CFG.UNIT with the page enabled. -/
def State.dcdcBoundary (s : State) : State :=
  if !s.pageEn Pg.DCDC then s
  else
    let t := s.dcdcSense.dcdcSlew
    let u := if t.dcdcRuns then t.dcdcShare else t
    u.dcdcFreq.dcdcSetpoints.dcdcCommit

end Sys2Proof.Machine
end

