-- ==== Sys2Proof/Machine/ObcOps.lean ====
section
/-! DEFINITION. The on-board charger, the control pilot and the lamps (chapter 14). -/

namespace Sys2Proof.Machine

/-! ### Control pilot and proximity (R327 to R330) -/

/-- PILOT.STAT.STATE: 0 A, 1 B, 2 C, 4 E, 5 F, 6 INVALID. -/
def State.cp (s : State) : Nat := s.fld Adr.PILOT_STAT 2 0

/-- PILOT.STAT.PP: 0 NONE, 1 13A, 2 20A, 3 32A, 4 63A, 5 INVALID, 6 SHORT. -/
def State.pp (s : State) : Nat := s.fld Adr.PILOT_STAT 10 8

/-- The pilot measures: enabled, or in its safe state (R330). -/
def State.pilotOn (s : State) : Bool := s.pageEn Pg.PILOT || s.pageSafeSt Pg.PILOT

/-- STORE: the charger ignores pilot and proximity (R443). -/
def State.obcStore (s : State) : Bool := s.pwr.store

/-- DIODE: a low plateau outside -13.0 to -11.0 V while the pilot oscillates; plateaus in 0.1 V. -/
def cpDiode (low : Int) (osc : Bool) : Bool := osc && !(decide (-130 ≤ low) && decide (low ≤ -110))

/-- The state that the plateaus show (R327). -/
def cpDecode (high low : Int) (osc : Bool) : Nat :=
  let within (a b : Int) : Bool := decide (a ≤ high) && decide (high ≤ b)
  if cpDiode low osc then 6
  else if within 110 130 then 0
  else if within 80 100 then 1
  else if within 50 70 then 2
  else if within (-10) 10 && !osc then 4
  else if within (-130) (-110) && !osc then 5
  else 6

/-- The pilot limit in 0.1 A, rounded down, for a duty in 0.1 % (R328). [DEDUCED, assumption 55] -/
def pilotLimit (duty diglim : Nat) : Nat :=
  if duty < 30 ∨ 970 < duty then 0
  else if duty ≤ 70 then diglim
  else if duty < 80 then 0
  else if duty ≤ 100 then 60
  else if duty ≤ 850 then duty * 6 / 10
  else if duty ≤ 960 then (duty - 640) * 25 / 10
  else 800

/-- The proximity code of a pin voltage (R329). [DEDUCED, assumption 55] -/
def ppDecode (mv : Nat) : Nat :=
  if 4700 < mv then 0 else if 4500 ≤ mv then 5 else if 3750 ≤ mv then 1 else if 2800 ≤ mv then 2 else if 1600 ≤ mv then 3
  else if 800 ≤ mv then 4 else 6

/-- The cable limit of a code, in 0.1 A. -/
def cableLimit (code : Nat) : Nat := match code with
  | 1 => 130
  | 2 => 200
  | 3 => 320
  | 4 => 630
  | _ => 0

/-- The pilot limit and DIGITAL recomputed; a new limit raises PEVT.DUTY. -/
def State.pilotRelimit (s : State) : State :=
  let duty := s.fld Adr.PILOT_CPMEAS 31 22
  let osc := s.flag Adr.PILOT_STAT 3
  let lim := if osc then pilotLimit duty (s.fld Adr.PILOT_DIGLIM 11 0) else 0
  let t := s.setFlag Adr.PILOT_STAT 11 (osc && decide (30 ≤ duty) && decide (duty ≤ 70))
  if lim = s.fld Adr.PILOT_ILIM 11 0 then t else (t.setFld Adr.PILOT_ILIM 11 0 lim).raise Pg.PILOT 2

/-- The charge-connector wire to Shroud (R330). -/
def State.pilotWire (s : State) : State :=
  let c := s.pp != 0 || s.cp != 0 || s.fld Adr.OBC_STAT 2 0 == 6
  (s.setFlag Adr.PILOT_STAT 13 c).setShroud { s.shroud with connector := c }

/-- S2: the charger's while its page is enabled, else CTRL.S2; open in the pilot's safe state (R330). -/
def State.pilotS2 (s : State) : State :=
  s.setFlag Adr.PILOT_STAT 12 (s.pageEn Pg.PILOT && (if s.pageEn Pg.OBC then s.obc.s2 else s.flag Adr.PILOT_CTRL 0))

/-- CPMEAS of the plateaus and the duty. -/
def cpMeas (duty : Nat) (high low : Int) : Word :=
  setBits (setBits (setBits 0#32 31 22 (min duty 1000)) 19 10 (clampInt (-512) 511 low % 1024).toNat) 9 0
    (clampInt (-512) 511 high % 1024).toNat

/-! ### Lamps (R345) -/

/-- Address bits of lamp i in LAMP: 0 CHG, 1 STATUS. -/
def State.lampAuto (s : State) (i : Nat) : Bool := s.flag Adr.PILOT_LAMP (4 * i + 3)

/-- The pattern that AUTO gives a lamp: the first row that applies. -/
def State.lampRule (s : State) (i : Nat) : Nat :=
  let st := s.fld Adr.OBC_STAT 2 0
  if i = 0 then
    if st ≤ 1 ∨ st = 7 then 0 else if st = 6 then 3 else if st = 2 then (if s.fld Adr.OBC_CAUSE 3 0 = 2 then 1 else 4) else 2
  else if 4 ≤ s.cp ∨ 5 ≤ s.pp then 1
  else if s.obc.blink then 3
  else if st = 5 then 4
  else if s.flag Adr.OBC_STAT 8 then 2
  else 0

/-- The pattern wanted: values above 4 are patterns of no effect. -/
def State.lampWant (s : State) (i : Nat) : Nat :=
  if !s.pilotOn then 0 else if s.lampAuto i then s.lampRule i else s.fld Adr.PILOT_LAMP (4 * i + 2) (4 * i)

/-- A change of pattern restarts the lamp. -/
def State.lampRefresh (s : State) : State :=
  s.each [0, 1] fun t i =>
    let p := t.lampWant i
    if (t.lamp i).pattern = p then t
    else t.putLamp i { t.lamp i with pattern := p, phase := 0, on := decide (1 ≤ p) && decide (p ≤ 4) }

/-- The end of an on or off interval of a blinking or flashing pattern. -/
def State.lampNext (s : State) (i : Nat) : State :=
  let l := s.lamp i
  if l.pattern = 2 ∨ l.pattern = 3 then s.putLamp i { l with phase := (l.phase + 1) % 2, on := !l.on }
  else if l.pattern = 4 then s.putLamp i { l with phase := (l.phase + 1) % 4, on := !l.on }
  else s

/-- A lamp output above 0.7 A for 1 ms. -/
def State.lampOver (s : State) (i : Nat) : State :=
  if (s.lamp i).on && !(s.lamp i).off then
    ((s.putLamp i { s.lamp i with off := true }).setFlag Adr.PILOT_LSTAT i true).raise Pg.PILOT 3
  else s

/-- The lamp that turned off retries. -/
def State.lampRetry (s : State) (i : Nat) : State :=
  if (s.lamp i).off then (s.putLamp i { s.lamp i with off := false }).setFlag Adr.PILOT_LSTAT i false else s

/-! ### Charger: fields -/

/-- OBC.STAT.STATE (R331). -/
def State.obcState (s : State) : Nat := s.fld Adr.OBC_STAT 2 0

/-- A session runs: PRECHARGE, CHARGE or EXPORT. -/
def State.obcSession (s : State) : Bool := decide (3 ≤ s.obcState) && decide (s.obcState ≤ 5)

/-- The law contexts and the PWM units they bind as PWMA. -/
def State.pfcCtx (s : State) : Nat := s.fld Adr.OBC_CFG 4 0
def State.dabCtx (s : State) : Nat := s.fld Adr.OBC_CFG 12 8
def State.pwmA (s : State) (c : Nat) : Option Nat :=
  let w := s.reg (Adr.TRIM_CCFG (c / 8) (c % 8))
  if bit w 20 then some (bits w 15 12) else none

/-- Published word j of context c. -/
def State.pubWord (s : State) (c j : Nat) : Sample := s.word (0x100 + 4 * c + j)

/-- Volts of an HV sense word, times 2^31 over 2000. -/
def State.hvWord (s : State) (h : Nat) : Sample := s.word (0xA0 + h)

/-- The pack current is below a limit in 0.1 A, by the DAB law's word 0 on the scale of 200 A. -/
def State.packBelow (s : State) (lim : Nat) : Bool := decide ((s.pubWord s.dabCtx 0).value.toInt.natAbs * 2000 < lim * 2 ^ 31)

/-- The rings that carry this pack, and their summary words. -/
def State.packRings (s : State) : List Nat := (List.range 4).filter fun k => s.fld Adr.OBC_CFG 27 24 |>.testBit k
def State.ringWord (s : State) (k j : Nat) : Sample := s.live (0xC0 + 4 * k + j) s.now
def State.ringsOk (s : State) : Bool := s.packRings.all fun k => (List.range 4).all fun j => (s.ringWord k j).valid
def State.packMax (s : State) (j : Nat) : Int := (s.packRings.map fun k => (s.ringWord k j).value.toInt).foldl max (-2147483648)
def State.packMin (s : State) (j : Nat) : Int := (s.packRings.map fun k => (s.ringWord k j).value.toInt).foldl min 2147483647

/-- Limits in force: IACMAX in A and IBATMAX in 0.1 A (R338). -/
def State.iacMax (s : State) : Nat := if s.flag Adr.OBC_STAT 8 then s.fld Adr.OBC_DEFLIM 7 0 else s.fld Adr.OBC_IACMAX 7 0
def State.ibatMax (s : State) : Nat := if s.flag Adr.OBC_STAT 8 then s.fld Adr.OBC_DEFLIM 23 8 else s.fld Adr.OBC_IBATMAX 15 0

/-- The pilot limit and the cable limit that the charger sees, in 0.1 A. -/
def State.obcPilot (s : State) : Nat := if s.obcStore then 630 else s.fld Adr.PILOT_ILIM 11 0
def State.obcCable (s : State) : Nat := if s.obcStore then 630 else s.fld Adr.PILOT_ILIM 27 16

/-- Used lines: L1 alone in 1PH, or while VAC2 and VAC3 are both below 50 V. -/
def State.usedLines (s : State) : List Nat :=
  let r := s.obc.rms
  if s.flag Adr.OBC_STAT 10 || (decide (nthD 0 r 1 < 500) && decide (nthD 0 r 2 < 500)) then r.take 1 else r

/-- V_min in 0.1 V. -/
def State.obcVmin (s : State) : Nat := s.usedLines.foldl min 5110

/-! ### Zone, ceilings and values (R334 to R337) -/

/-- ILIM in 0.1 A. -/
def State.obcIlim (s : State) : Nat :=
  let m := min (min s.obcPilot s.obcCable) (min (s.iacMax * 10) 630)
  if s.flag Adr.OBC_STAT 10 then min m 320 else m

/-- The zone at a temperature code (0.01 °C times 2^16), coming from a zone: a boundary is passed 1 °C beyond it. -/
def zoneAt (old : Nat) (t : Int) : Nat :=
  let b (i : Nat) : Int := (nthD 0 [0, 1000, 4000, 5000] i : Int) * 65536
  let up := ((List.range 4).filter fun i => decide (b i + 100 * 65536 ≤ t)).length
  let down := ((List.range 4).filter fun i => decide (b i - 100 * 65536 < t)).length
  if 4 < old then ((List.range 4).filter fun i => decide (b i < t)).length else if old < up then up else if down < old then down else old

/-- STAT.ZONE. -/
def State.obcZone (s : State) : Nat := s.fld Adr.OBC_STAT 6 4

/-- The zone whose values are in force: NORMAL in ring fallback. -/
def State.zoneUsed (s : State) : Nat := if s.flag Adr.OBC_STAT 9 || decide (4 < s.obcZone) then 2 else s.obcZone

/-- ICC of the zone in force, in 0.1 A; in ring fallback the limit is DEFIBAT. -/
def State.obcIcc (s : State) : Nat :=
  if s.flag Adr.OBC_STAT 9 then s.fld Adr.OBC_DEFLIM 23 8 else s.fld (Adr.OBC_ZIC s.zoneUsed) 15 0

/-- I_A in 0.01 A (R335, R343). -/
def State.obcIa (s : State) : Nat :=
  let st := s.obcState
  if st = 4 then
    let vsag := s.fld Adr.OBC_SEARCH 24 16 * 10
    let cut := if s.obcVmin < vsag then s.fld Adr.OBC_SEARCH 15 8 * (vsag - s.obcVmin) else 0
    s.obc.iSearch * 100 - cut
  else if st = 5 ∧ !s.flag Adr.OBC_STAT 14 then
    min (min (s.obc.iRamp / 1000) (s.fld Adr.OBC_EXPLIM 7 0 * 100)) (s.obcIlim * 10)
  else 0

/-! ### Gating, states and ends (R326, R331, R339) -/

/-- Gates of both units: a law's unit is gated OFF while its RUN is 0; the release waits for a load point (R326). -/
def State.obcGate (s : State) : State :=
  let off (t : State) (c : Nat) (run : Bool) : State :=
    match t.pwmA c with
    | some u => if run then t else t.gateUnit u 15
    | none => t
  off (off s s.pfcCtx s.obc.pfcRun) s.dabCtx s.obc.dabRun

/-- A load point of unit u releases its gating once the law runs. -/
def State.obcLoad (s : State) (u : Nat) : State :=
  if !s.pageEn Pg.OBC then s
  else if (s.pwmA s.pfcCtx == some u && s.obc.pfcRun) || (s.pwmA s.dabCtx == some u && s.obc.dabRun) then s.gateUnit u 0
  else s

/-- A change of state sets PEVT.STATE; the wire, S2 and the lamps follow. -/
def State.obcEnter (s : State) (st : Nat) : State :=
  let t := if s.obcState = st then s else (s.setFld Adr.OBC_STAT 2 0 st).raise Pg.OBC 0
  t.obcGate.pilotWire.pilotS2.lampRefresh

/-- CAUSE written. -/
def State.obcCause (s : State) (c : Nat) : State := s.setReg Adr.OBC_CAUSE (w32 c)

/-- Causes that count as faults: PILOT, PACK_LOST, SHROUD, NOAC, PRETO, NOLAW and HOST (R345, R347). [DEDUCED, assumption 55] -/
def obcFaulty (c : Nat) : Bool := (decide (4 ≤ c) && decide (c ≤ 9)) || c == 12

/-- A session ends with a cause: HANDOVER; for PACK_LOST and SHROUD both laws stop and S2 opens at once (R339). -/
def State.obcEnd (s : State) (cause : Nat) : State :=
  if !s.obcSession then s
  else
    let fast := cause == 5 || cause == 6
    let o := s.obc
    let o1 := { o with blink := obcFaulty cause, iStar := 0, step := if fast then 1 else 0,
                       pfcRun := o.pfcRun && !fast, dabRun := o.dabRun && !fast, s2 := o.s2 && !fast }
    let t := ((s.setObc o1).setFlag Adr.OBC_STAT 14 false).obcCause cause
    (t.obcEnter 6).when (obcFaulty cause) fun u => u.raise Pg.OBC 3

/-- The connector is present with CP in state B. -/
def State.obcConnected (s : State) : Bool := s.obcStore || (s.pp != 0 && s.cp == 1)

/-- The time since which it has been. -/
def State.obcSince (s : State) : State :=
  if s.obcConnected then (if s.obc.since = 0 then s.setObc { s.obc with since := s.now + 1 } else s)
  else s.setObc { s.obc with since := 0 }

/-! ### Starts (R331 to R333) -/

/-- The ownership of R324. -/
def State.obcOwned (s : State) : Bool :=
  let units := (s.pwmA s.pfcCtx).toList ++ (s.pwmA s.dabCtx).toList
  (s.pwmA s.pfcCtx).isSome && (s.pwmA s.dabCtx).isSome &&
  ([Pg.PILOT, Pg.TRIM (s.pfcCtx / 8), Pg.TRIM (s.dabCtx / 8), Pg.GGRP 2, Pg.GGRP 3] ++ units.map Pg.PWM).all
    fun p => s.owner p == s.owner Pg.OBC

/-- The pack-disconnect comparator is set as R332 asks. -/
def State.pdcmpOk (s : State) : Bool :=
  let k := s.fld Adr.OBC_CFG 20 16
  match s.pwmA s.dabCtx with
  | some u => s.flag (cmpCfg k) 0 && s.fld (cmpCfg k) 5 4 == 0 && s.flag (cmpRoute k) u && s.flag (Adr.PWM_TRIPCFG u) 0
      && s.fld (Adr.PWM_TRIPOUT u) 7 0 == 0
  | none => false

/-- The VDC word is within 5 % of the VBAT word. -/
def State.packClosed (s : State) : Bool :=
  let b := (s.hvWord 0).value.toInt
  (s.hvWord 0).valid && (s.hvWord 1).valid && decide (((s.hvWord 1).value.toInt - b).natAbs * 20 ≤ b.natAbs)

/-- Why a START or EXPORT is refused; 0 when it is accepted. -/
def State.obcRefusal (s : State) (export_ : Bool) : Nat :=
  let ctxBad (c : Nat) : Bool := !s.cen (c / 8) (c % 8) || s.flag (Adr.TRIM_RAMPCFG (c / 8) (c % 8)) 31
  if !s.shroudRuns 2 || !s.shroudRuns 3 then 6
  else if s.obcPilot = 0 ∨ s.obcCable = 0 then 4
  else if !s.packClosed then 5
  else if !s.flag (Adr.PCTRL Pg.OBC) 2 || ctxBad s.pfcCtx || ctxBad s.dabCtx || !s.obcOwned || !s.pdcmpOk
      || (export_ && (s.flag Adr.OBC_STAT 8 || s.fld Adr.OBC_EXPLIM 7 0 == 0
        || decide (s.fld Adr.OBC_EXPV 24 16 ≤ s.fld Adr.OBC_EXPV 8 0) || decide (s.fld Adr.OBC_EXPF 31 16 ≤ s.fld Adr.OBC_EXPF 15 0)))
  then 10
  else 0

/-- START or EXPORT in PLUGGED: refused with a cause, or PRECHARGE. -/
def State.obcStart (s : State) (export_ : Bool) : State :=
  if !s.pageEn Pg.OBC || s.obcState != 2 then s
  else match s.obcRefusal export_ with
    | 0 =>
      let o := { s.obc with ran := true, export_ := export_, iSearch := 0, iRamp := 0, sagEnd := 0, iStar := 0, iCap := 0, step := 0,
                            pfcRun := false, dabRun := true, pre := true, target := s.fld Adr.OBC_BUS 25 16, s2 := false, blink := false }
      ((s.setObc o).clrReg Adr.OBC_STAT 0xEC80#32).obcEnter 3
    | c => ((s.obcCause c).raise Pg.OBC 0).lampRefresh

/-- CP has been in state B with the connector present for 2 s: PLUGGED, and an automatic start (R331). -/
def State.obcPlugged (s : State) : State :=
  if s.pageEn Pg.OBC && s.obcState == 1 && s.obcConnected then
    let t := s.obcEnter 2
    if s.flag Adr.OBC_CFG 28 && (!s.obc.ran || s.fld Adr.OBC_CAUSE 3 0 == 3) then t.obcStart false else t
  else s

/-- CMD.STOP. -/
def State.obcStop (s : State) : State := s.obcEnd 1

/-- CMD written: STOP wins over the others. -/
def State.obcCmd (s : State) (v : Word) : State :=
  if bit v 1 then s.obcStop else if bit v 0 then s.obcStart false else if bit v 2 then s.obcStart true else s

/-- The bus has reached 0.98 × VPFCPRE, or 500 ms have passed (R333). -/
def State.obcPrecharged (s : State) (timeout : Bool) : State :=
  if s.obcState ≠ 3 ∨ s.obc.step ≠ 0 then s
  else if timeout then s.obcEnd 8
  else if (s.hvWord 3).valid && decide ((98 * s.fld Adr.OBC_BUS 25 16 * 2 ^ 31 : Nat) ≤ (s.hvWord 3).value.toInt * 200000) then
    let s2 := !s.obcStore
    (s.setObc { s.obc with s2 := s2, step := 1 }).pilotS2
  else s

/-- AC present: every used line at 100 V RMS or more, at 45 to 65 Hz. -/
def State.acOk (s : State) : Bool :=
  s.usedLines.all (fun v => decide (1000 ≤ v)) && decide (4500 ≤ s.obc.freq) && decide (s.obc.freq ≤ 6500)

/-- AC is qualified, or 5 s have passed since S2 closed. -/
def State.obcAc (s : State) (timeout : Bool) : State :=
  if s.obcState ≠ 3 ∨ s.obc.step ≠ 1 then s
  else if timeout then s.obcEnd 7
  else if !s.acOk then s
  else
    let one := decide (nthD 0 s.obc.rms 1 < 500) && decide (nthD 0 s.obc.rms 2 < 500)
    let t := s.setFlag Adr.OBC_STAT 10 one
    let o := { t.obc with pfcRun := true, pre := false, iSearch := s.fld Adr.OBC_SEARCH 7 0, iRamp := 0 }
    if s.obc.export_ then (((t.setObc o).setFlag Adr.OBC_STAT 14 true).obcEnter 5) else (t.setObc o).obcEnter 4

/-! ### The 100 µs update (R324, R334 to R337, R340, R343) -/

/-- A published word that the block needs is invalid or older than 1 ms. -/
def State.stale (s : State) (c j : Nat) : Bool := !(s.pubWord c j).valid || decide ((s.pubWord c j).time + 600000 < s.now)

/-- A law that runs does not keep its contract (R325). -/
def State.lawDead (s : State) : Bool :=
  (s.obc.pfcRun && s.stale s.pfcCtx 0) || (s.obc.dabRun && (s.stale s.dabCtx 0 || s.stale s.dabCtx 1))

/-- The zone and RINGFB (R336); in CHARGE a change of zone restarts CC (R337). -/
def State.obcRezone (s : State) : State :=
  if !s.ringsOk then s.setFlag Adr.OBC_STAT 9 true
  else
    let z := zoneAt s.obcZone (s.packMax 2)
    let t := (s.setFlag Adr.OBC_STAT 9 false).setFld Adr.OBC_STAT 6 4 z
    if z = s.obcZone ∨ s.obcState ≠ 4 then t
    else
      let icc := t.obcIcc * 1000
      let o := t.obc
      (t.setObc { o with iStar := if s.flag Adr.OBC_STAT 7 then min o.iStar icc else o.iStar, iCap := icc }).setFlag Adr.OBC_STAT 7 false

/-- ILIM, the search value and the sag (R334). -/
def State.obcSearch (s : State) : State :=
  let ilim := s.obcIlim
  let t := s.when (s.fld Adr.OBC_ISRCH 31 24 != ilim / 10) fun u => (u.setFld Adr.OBC_ISRCH 31 24 (ilim / 10)).raise Pg.OBC 1
  if s.obcState ≠ 4 then t
  else
    let vsag := s.fld Adr.OBC_SEARCH 24 16 * 10
    let start := s.fld Adr.OBC_SEARCH 7 0
    let o := t.obc
    let i0 := min o.iSearch (ilim / 10)
    if s.obcVmin < vsag ∧ !s.flag Adr.OBC_STAT 11 then
      (((t.setObc { o with iSearch := max (i0 - 2) (min i0 start) }).setFlag Adr.OBC_STAT 11 true).raise Pg.OBC 1)
    else if s.flag Adr.OBC_STAT 11 ∧ vsag + 20 ≤ s.obcVmin then
      (t.setObc { o with iSearch := i0, sagEnd := s.now + 1 }).setFlag Adr.OBC_STAT 11 false
    else t.setObc { o with iSearch := i0 }

/-- CV begins once the DAB reports CVACT or the highest cell reaches VCELL (R337). -/
def State.obcCv (s : State) : State :=
  let cell := !s.flag Adr.OBC_STAT 9 && decide ((s.fld (Adr.OBC_ZV s.zoneUsed) 31 16 * 10 * 2 ^ 15 : Nat) ≤ s.packMax 1)
  if s.obcState = 4 ∧ !s.flag Adr.OBC_STAT 7 ∧ (bit (s.pubWord s.dabCtx 1).value 0 || cell) then
    (s.setFlag Adr.OBC_STAT 7 true).setObc { s.obc with iCap := s.obcIcc * 1000 }
  else s

/-- I* toward its target by at most 50 A/s; HOLD keeps it at 0 (R337). -/
def State.obcCurrent (s : State) : State :=
  if s.obcState ≠ 4 then s
  else
    let hold := s.obcIcc == 0
    let t := s.setFlag Adr.OBC_STAT 13 hold
    let o := t.obc
    let goal := min (min (s.obcIcc * 1000) (s.ibatMax * 1000)) (if s.flag Adr.OBC_STAT 7 then o.iCap else 2 ^ 32)
    let i := if hold then 0 else if o.iStar < goal then min goal (o.iStar + 50) else max goal (o.iStar - 50)
    let u := t.setObc { o with iStar := i }
    if s.flag Adr.OBC_STAT 7 && !hold && decide (i ≤ s.fld (Adr.OBC_ZIC s.zoneUsed) 31 16 * 1000) then u.obcEnd 2 else u

/-- The grid is inside the windows (R343). -/
def State.gridInside (s : State) : Bool :=
  s.usedLines.all (fun v => decide (s.fld Adr.OBC_EXPV 8 0 * 10 ≤ v) && decide (v ≤ s.fld Adr.OBC_EXPV 24 16 * 10)) &&
    decide (s.fld Adr.OBC_EXPF 15 0 ≤ s.obc.freq) && decide (s.obc.freq ≤ s.fld Adr.OBC_EXPF 31 16)

/-- The export's ramp and its end (R343). -/
def State.obcExporting (s : State) : State :=
  if s.obcState ≠ 5 then s
  else if !s.ringsOk || decide (s.packMin 0 < (s.fld Adr.OBC_EXPLIM 31 16 * 10 * 2 ^ 15 : Nat)) then s.obcEnd 13
  else if s.flag Adr.OBC_STAT 14 then s
  else
    let iexp := s.fld Adr.OBC_EXPLIM 7 0
    s.setObc { s.obc with iRamp := min (s.obc.iRamp + iexp) (iexp * 100000) }

/-- Set-points of both laws (R324). The pack current command of an export is not stated: a free word. [DESIGN CHOICE, assumption 53] -/
def State.obcSetpoints (s : State) : State :=
  let o := s.obc
  let p := s.pfcCtx
  let d := s.dabCtx
  let exporting := s.obcState == 5
  let s1 := s.putSetp p 0 (ratioWord s.obcIa 10000)
  let s2 := s1.putSetp p 1 (w32 (o.pfcRun.toNat + 2 * o.export_.toNat + 4 * (s.flag Adr.OBC_STAT 10).toNat))
  let s3 := s2.putSetp p 2 (ratioWord (s.fld Adr.OBC_BUS 9 0) 1000)
  let s4 := s3.putSetp d 0 (if exporting then s.freeWord else ratioWord o.iStar 2000000)
  let s5 := s4.putSetp d 1 (w32 (o.dabRun.toNat + 2 * o.pre.toNat))
  let s6 := s5.putSetp d 2 (ratioWord (s.fld (Adr.OBC_ZV s.zoneUsed) 15 0) 10000)
  (s6.putSetp d 3 (ratioWord o.target 1000)).took exporting.toNat

/-- ISRCH as the update leaves it. -/
def State.obcShow (s : State) : State :=
  (s.setFld Adr.OBC_ISRCH 23 16 s.obc.iSearch).setFld Adr.OBC_ISRCH 15 0 (s.obcIa / 10)

/-- The update at a multiple of 60 000 ticks with new line readings in 0.1 V and 0.01 Hz. -/
def State.obcUpdate (s : State) (v1 v2 v3 freq : Nat) : State :=
  if !s.pageEn Pg.OBC then s
  else
    let t := s.setObc { s.obc with rms := [v1, v2, v3], freq := freq }
    let t1 := t.setReg Adr.OBC_LINE (w32 (min freq 65535 * 65536 + min (t.obcVmin / 10) 511))
    let t2 := if t1.obcSession && t1.lawDead then t1.obcEnd 9 else t1
    let t3 := t2.obcRezone.obcSearch
    t3.obcCv.obcCurrent.obcExporting.obcShow.obcSetpoints

/-- Every 2 s under the climb conditions (R334). [DESIGN CHOICE, assumption 5] -/
def State.obcClimb (s : State) : State :=
  let o := s.obc
  if s.obcState = 4 ∧ o.iSearch * 10 < s.obcIlim ∧ o.iSearch < s.obcIlim / 10 ∧ !s.flag Adr.OBC_STAT 11
      ∧ (o.sagEnd = 0 ∨ o.sagEnd - 1 + 36000000000 ≤ s.now) ∧ bit (s.pubWord s.pfcCtx 0).value 0 then
    (s.setObc { o with iSearch := o.iSearch + 1 }).obcShow
  else s

/-- A second of CV with the highest cell at VCELL: I* falls by a tenth of ICC (R337). -/
def State.obcCvStep (s : State) : State :=
  let o := s.obc
  if s.obcState = 4 ∧ s.flag Adr.OBC_STAT 7 ∧ !s.flag Adr.OBC_STAT 9
      ∧ (s.fld (Adr.OBC_ZV s.zoneUsed) 31 16 * 10 * 2 ^ 15 : Nat) ≤ s.packMax 1 then
    let i := o.iStar - s.obcIcc * 100
    s.setObc { o with iStar := i, iCap := i }
  else s

/-- The pack current has stayed below ITERM for 60 s; the check pauses in HOLD. [DEDUCED, assumption 55] -/
def State.obcDone (s : State) : State :=
  if s.obcState = 4 ∧ !s.flag Adr.OBC_STAT 13 ∧ s.packBelow (s.fld (Adr.OBC_ZIC s.zoneUsed) 31 16) then s.obcEnd 2 else s

/-- HBEAT.SEQ has not changed for 3 s (R338). -/
def State.obcHostLost (s : State) : State :=
  if !s.pageEn Pg.OBC || s.flag Adr.OBC_STAT 8 then s
  else
    let t := (s.setFlag Adr.OBC_STAT 8 true).raise Pg.OBC 3
    if s.obc.export_ && s.obcSession then t.obcEnd 12 else t.lampRefresh

/-- A change of HBEAT.SEQ ends FALLBACK. -/
def State.obcHost (s : State) : State := (s.setFlag Adr.OBC_STAT 8 false).lampRefresh

/-! ### Handover (R339, R443) -/

/-- The pack current is below 1 A, or 50 ms have passed: PFC RUN clears and S2 opens. In STORE the wait for the lines is skipped. -/
def State.obcS2Open (s : State) (timeout : Bool) : State :=
  if s.obcState = 6 ∧ s.obc.step = 0 ∧ (timeout || s.packBelow 10) then
    let o := s.obc
    let o1 := if s.obcStore then { o with pfcRun := false, s2 := false, step := 2, pre := true, target := 50 }
      else { o with pfcRun := false, s2 := false, step := 1 }
    (s.setObc o1).obcGate.pilotS2
  else s

/-- The lines have fallen below 50 V, or 3 s have passed: ACLIVE. Unless ACLIVE or a fast end, the DAB discharges the bus. -/
def State.obcAcGone (s : State) (timeout : Bool) : State :=
  if s.obcState = 6 ∧ s.obc.step = 1 ∧ (timeout || s.obc.rms.all fun v => decide (v < 500)) then
    let live := timeout && !s.obcStore
    let o := s.obc
    let o1 := if live then { o with step := 2 } else { o with step := 2, pre := true, target := 50 }
    (s.setObc o1).when live fun t => (t.setFlag Adr.OBC_STAT 15 true).raise Pg.OBC 3
  else s

/-- HANDOVER ends: PLUGGED once R331 holds, else IDLE. -/
def State.obcFinish (s : State) : State :=
  if s.obcState = 6 ∧ s.obc.step = 2 then
    let t := s.setObc { s.obc with dabRun := false, pre := false, export_ := false }
    let held := s.obcStore || (s.obcConnected && s.obc.since != 0 && decide (s.obc.since - 1 + 1200000000 ≤ s.now))
    if held then t.obcEnter 2 else (t.setObc { t.obc with blink := false }).obcEnter 1
  else s

/-! ### Events from outside -/

/-- The reaction of a session, or of PLUGGED, to a new pilot state or proximity code (R331, R340, R341). -/
def State.obcPilotEvent (s : State) : State :=
  let t := s.obcSince
  if s.obcStore then t
  else if t.obcSession then
    if t.pp = 0 ∨ t.cp = 0 then t.obcEnd 3
    else if 4 ≤ t.cp ∨ 5 ≤ t.pp then t.obcEnd 4
    else t
  else if t.obcState = 2 ∧ !t.obcConnected then (t.setObc { t.obc with blink := false }).obcEnter 1
  else t

/-- A pilot state or oscillation status is taken (R327). -/
def State.pilotState (s : State) (high low : Int) (osc : Bool) : State :=
  if !s.pilotOn then s
  else
    let st := cpDecode high low osc
    let changed := s.cp != st || s.flag Adr.PILOT_STAT 3 != osc
    let t := ((s.setFld Adr.PILOT_STAT 2 0 st).setFlag Adr.PILOT_STAT 3 osc).setFlag Adr.PILOT_STAT 4 (cpDiode low osc)
    (t.when changed fun u => u.raise Pg.PILOT 0).pilotRelimit.pilotWire.obcPilotEvent.lampRefresh

/-- A proximity code is taken (R329). -/
def State.pilotPp (s : State) (mv : Nat) : State :=
  if !s.pilotOn then s
  else
    let c := ppDecode mv
    let t := (s.setFld Adr.PILOT_STAT 10 8 c).setFld Adr.PILOT_ILIM 27 16 (cableLimit c)
    (t.when (s.pp != c) fun u => u.raise Pg.PILOT 1).pilotWire.obcPilotEvent.lampRefresh

/-- A pilot cycle of a frequency in Hz and a duty in 0.1 % is measured (R327, R328). [DEDUCED, assumption 55] -/
def State.pilotCycle (s : State) (freq duty : Nat) (high low : Int) : State :=
  if !s.pilotOn then s
  else
    let osc := decide (980 ≤ freq) && decide (freq ≤ 1020)
    let t := ((s.setReg Adr.PILOT_CPMEAS (cpMeas duty high low)).setFlag Adr.PILOT_STAT 3 osc).setFlag Adr.PILOT_STAT 4 (cpDiode low osc)
    (t.when (s.flag Adr.PILOT_STAT 3 != osc) fun u => u.raise Pg.PILOT 0).pilotRelimit

/-- The pilot limit has stayed at 0 for 3 s (R340). -/
def State.obcPilotLost (s : State) : State := if s.obcPilot = 0 then s.obcEnd 4 else s

/-- The comparator PDCMP has tripped: the PFC's unit is gated and the session ends with PACK_LOST (R342). -/
def State.obcPackLost (s : State) (k : Nat) : State :=
  if s.pageEn Pg.OBC && s.fld Adr.OBC_CFG 20 16 == k then s.obcEnd 5 else s

/-- Shroud no longer decides RUN for G3 or G4 (R340). -/
def State.obcShroud (s : State) : State := if s.shroudRuns 2 && s.shroudRuns 3 then s else s.obcEnd 6

/-- Export current starts: the grid has been inside the windows for TRECON (R343). -/
def State.obcReconnect (s : State) : State :=
  if s.obcState = 5 ∧ s.flag Adr.OBC_STAT 14 ∧ s.gridInside then
    (((s.setFlag Adr.OBC_STAT 14 false).setObc { s.obc with pfcRun := true, dabRun := true, iRamp := 0 }).raise Pg.OBC 2)
  else s

/-- The grid has stayed outside the windows for TEXTRIP. -/
def State.obcWindowTrip (s : State) : State :=
  if s.obcState = 5 ∧ !s.flag Adr.OBC_STAT 14 ∧ !s.gridInside then
    ((((s.setFlag Adr.OBC_STAT 14 true).setObc { s.obc with pfcRun := false, dabRun := false, iRamp := 0 }).raise Pg.OBC 2)).obcGate
  else s

/-- The page becomes enabled: IDLE, or PLUGGED in STORE (R331, R443). -/
def State.obcEnable (s : State) : State :=
  ((s.setObc { Obc.reset with rms := s.obc.rms, freq := s.obc.freq }).obcSince).obcEnter (if s.obcStore then 2 else 1)

/-- The page is disabled: OFF, both laws stopped, gating released. -/
def State.obcDisable (s : State) : State :=
  let t := (s.setObc { s.obc with pfcRun := false, dabRun := false, pre := false, s2 := false, blink := false }).obcEnter 0
  let rel (u : State) (c : Nat) : State := match u.pwmA c with
    | some k => u.gateUnit k 0
    | none => u
  rel (rel t t.pfcCtx) t.dabCtx

/-- The page's safe state: both units gated OFF, RUN 0, OFF with CAUSE SAFE (R346). -/
def State.obcSafe (s : State) : State :=
  ((s.setObc { s.obc with pfcRun := false, dabRun := false, pre := false, s2 := false, blink := false }).obcCause 11).obcEnter 0

end Sys2Proof.Machine
end

