-- ==== Sys2Proof/Machine/ActOps.lean ====
section
/-! DEFINITION. Gearbox actuators and contactor outputs (chapter 15). -/

namespace Sys2Proof.Machine

/-! ### Actuators: fields -/

/-- STAT.STATE: 0 OFF, 1 RUN, 2 COAST (R355). -/
def State.actState (s : State) (n : Nat) : Nat := s.fld (Adr.ACT_STAT n) 1 0

/-- The PWM unit of a bridge (R350). -/
def actUnit (n : Nat) : Nat := 7 + n

/-- SPD, signed rpm. -/
def State.actSpd (s : State) (n : Nat) : Int := signed 16 (s.fld (Adr.ACT_SPD n) 15 0)

/-- STAT.DIR: reverse for true. -/
def State.actDir (s : State) (n : Nat) : Bool := s.flag (Adr.ACT_STAT n) 8

/-- The drive is in reverse: the sign of the reference, at 0 that of SPD. [DEDUCED, assumption 56] -/
def State.actReverse (s : State) (n : Nat) : Bool :=
  let r := (s.act n).sref
  decide (r < 0) || (decide (r = 0) && decide (s.actSpd n < 0))

/-- D in force. -/
def State.actD (s : State) (n : Nat) : Int := (s.reg (Adr.ACT_DUTY n)).toInt

/-- Rank of a cause in R356: the lowest comes first. -/
def actRank (c : Nat) : Nat := match c with
  | 8 => 0
  | 4 => 1
  | 5 => 2
  | 6 => 3
  | 7 => 4
  | 3 => 5
  | 2 => 6
  | 1 => 7
  | _ => 8

/-- CAUSE of a stop: of several in one period the first in the order of R356. -/
def State.actCause (s : State) (n c : Nat) : State :=
  let old := s.fld (Adr.ACT_STAT n) 7 4
  let t := if (s.act n).recent && decide (actRank old < actRank c) then s else s.setFld (Adr.ACT_STAT n) 7 4 c
  t.putAct n { t.act n with recent := true }

/-- A change of state sets PEVT.STATE. -/
def State.actEnter (s : State) (n st : Nat) : State :=
  if s.actState n = st then s else (s.setFld (Adr.ACT_STAT n) 1 0 st).raise (Pg.ACT n) 0

/-- OFF or COAST: phases gated OFF, D and the integrator at 0. -/
def State.actLeave (s : State) (n st : Nat) : State :=
  let t := (s.gateUnit (actUnit n) 7).setReg (Adr.ACT_DUTY n) 0#32
  (t.putAct n { t.act n with sref := 0, integ := 0 }).actEnter n st

/-! ### Inhibit and commutation (R351, R358) -/

/-- The engage-inhibit line of bridge n is active. -/
def State.actLine (s : State) (n : Nat) : Bool := bit s.shroud.inhibit n

/-- Drive in a direction is inhibited. -/
def State.actInhibits (s : State) (n : Nat) (rev : Bool) : Bool := s.actLine n && rev == s.flag Adr.SHRD_PLKCFG 18

/-- Phases (0 U, 1 V, 2 W) with duty D, with L held on, and gated OFF, at drive step k. -/
def actStep (k : Nat) : Nat × Nat × Nat := nthD (0, 1, 2) [(0, 1, 2), (0, 2, 1), (1, 2, 0), (1, 0, 2), (2, 0, 1), (2, 1, 0)] k

/-- The drive step in force. -/
def State.actK (s : State) (n : Nat) : Nat :=
  (s.fld (Adr.HALL_STAT n) 2 0 + s.fld (Adr.ACT_CFG n) 18 16 + (if s.actReverse n then 3 else 0)) % 6

/-- The driven phase. -/
def State.actPhase (s : State) (n : Nat) : Nat := (actStep (s.actK n)).1

/-- The bridge drives: RUN with a valid Hall code. -/
def State.actDrives (s : State) (n : Nat) : Bool := s.actState n == 1 && s.flag (Adr.HALL_STAT n) 3

/-- The duty that leaves the driven low side on for 200 ns after dead time (R357). -/
def State.actRefresh (s : State) (n : Nat) : Word :=
  let P := 32 * (s.pwm (actUnit n)).per
  ratioWord (P - (3840 + s.fld (Adr.PWM_DT (actUnit n)) 15 0)) P

/-- A refresh falls in this period. -/
def State.actRefreshDue (s : State) (n : Nat) : Bool :=
  decide (0x7D70A3D7 < s.actD n) && decide ((s.act n).periods % 16 = 15) &&
    !(s.flag (Adr.ACT_CFG n) 8 && decide (9500 ≤ Store.get (fun _ => 0) (s.act n).boot (s.actPhase n)))

/-- The set that the block commits: duties of U, V, W and the phases it gates OFF (R351). -/
def State.actCommit (s : State) (n : Nat) : State :=
  if s.actDrives n then
    let k := actStep (s.actK n)
    let d := if s.actRefreshDue n then wInt (min (s.actD n) (s.actRefresh n).toInt) else wInt (s.actD n)
    let ws := (List.range 8).map fun i => if i = 2 * k.1 then d else 0#32
    s.commitSet (actUnit n) (ws ++ [w32 (2 ^ k.2.2)])
  else s.commitSet (actUnit n) (List.replicate 8 0#32 ++ [7#32])

/-- High sides held OFF follow the limit and the bootstrap (R354, R357). -/
def State.actHigh (s : State) (n : Nat) : State :=
  let a := s.act n
  (s.putPwm (actUnit n) { s.pwm (actUnit n) with high := a.limited ||| a.bsuv }).setFlag (Adr.ACT_STAT n) 10 (a.bsuv != 0)

/-! ### Commands and stops (R355) -/

/-- START: OFF with SPD not 0. -/
def State.actStart (s : State) (n : Nat) : State :=
  if !s.pageEn (Pg.ACT n) || s.actState n != 0 || s.actSpd n == 0 then s
  else if s.fld (Adr.PFAULT (Pg.ACT n)) 1 0 ≠ 0 then s.raise (Pg.ACT n) 0
  else if s.actInhibits n (decide (s.actSpd n < 0)) then (s.setFld (Adr.ACT_STAT n) 7 4 4).raise (Pg.ACT n) 0
  else if 3400 ≤ s.pins.vpAct then (s.setFld (Adr.ACT_STAT n) 7 4 5).raise (Pg.ACT n) 0
  else
    let t := s.putAct n { s.act n with sref := 0, integ := 0, again := false, periods := 0, recent := false }
    t.actEnter n 1

/-- ARM: acts in OFF. -/
def State.actArm (s : State) (n : Nat) : State :=
  if s.pageEn (Pg.ACT n) && s.actState n == 0 then s.setFlag (Adr.ACT_STAT n) 9 true else s

/-- COAST with its kind. -/
def State.actCoast (s : State) (n : Nat) (again : Bool) : State :=
  let t := s.actLeave n 2
  t.putAct n { t.act n with again := again }

/-- STOP: ARMED clears; a bridge in RUN or COAST coasts to OFF. [DEDUCED, assumption 56] -/
def State.actStop (s : State) (n : Nat) : State :=
  let t := s.setFlag (Adr.ACT_STAT n) 9 false
  if t.actState n = 0 then t else (t.actCoast n false).actCause n 1

/-- CMD written: STOP wins over START. -/
def State.actCmd (s : State) (n : Nat) (v : Word) : State :=
  if bit v 1 then s.actStop n
  else (if bit v 0 then s.actStart n else s).when (bit v 2) fun t => t.actArm n

/-- An occurrence of event e starts the bridges that are armed on it. -/
def State.actTrigger (s : State) (e : Nat) : State :=
  s.each [0, 1, 2] fun t n =>
    if t.flag (Adr.ACT_STAT n) 9 && t.fld (Adr.ACT_CFG n) 31 24 == e then (t.setFlag (Adr.ACT_STAT n) 9 false).actStart n else t

/-- A stop into OFF with a cause; HALL, OVLD, OV and INHIBIT set PEVT.FAULT. -/
def State.actHalt (s : State) (n cause : Nat) : State :=
  ((s.actLeave n 0).actCause n cause).when (decide (4 ≤ cause) && decide (cause ≤ 7)) fun t => t.raise (Pg.ACT n) 2

/-- The bridge runs, or another cause has stopped it in this period (R356). -/
def State.actLive (s : State) (n : Nat) : Bool := s.actState n == 1 || (s.act n).recent

/-- The Hall code has been invalid for 10 ms in RUN. -/
def State.actHallLost (s : State) (n : Nat) : State :=
  if s.actLive n && !s.flag (Adr.HALL_STAT n) 3 then (s.actHalt n 6).fault (Pg.ACT n) 0 else s

/-- The mean current over 500 ms exceeds 12 A. -/
def State.actOverload (s : State) (n : Nat) : State := if s.actLive n then (s.actHalt n 7).fault (Pg.ACT n) 1 else s

/-- No Hall change for TSTALL at a duty of 0.1 or more; 0.1 is 214748364.8. -/
def State.actStall (s : State) (n : Nat) : State :=
  if s.actState n = 1 ∧ 214748365 ≤ s.actD n then s.actHalt n 3 else s

/-- The inhibited bridge stops (R358). -/
def State.actInhibit (s : State) (n : Nat) : State :=
  let t := s.setFlag (Adr.ACT_STAT n) 12 (s.actLine n)
  let rev := if s.actState n = 1 then s.actReverse n else s.actDir n
  if s.actState n ≠ 0 ∧ s.actInhibits n rev then t.actHalt n 4 else t

/-- VP_ACT comes to a level in mV; above 36.0 V every bridge is OFF (R359). [DEDUCED, assumption 56] -/
def State.actSupply (s : State) (mv : Nat) : State :=
  let t := s.setPins { s.pins with vpAct := mv / 10 }
  if 36000 < mv then t.each [0, 1, 2] fun u n => if u.pageOn (Pg.ACT n) then u.actHalt n 5 else u else t

/-- The page's safe state: OFF, CAUSE SAFE, ARMED clear (R359). -/
def State.actSafe (s : State) (n : Nat) : State := ((s.setFlag (Adr.ACT_STAT n) 9 false).actLeave n 0).actCause n 8

/-- The page becomes enabled: phases gated OFF. -/
def State.actEnable (s : State) (n : Nat) : State := s.gateUnit (actUnit n) 7

/-- The page is disabled: OFF, its unit released. -/
def State.actDisable (s : State) (n : Nat) : State :=
  let t := ((s.setFlag (Adr.ACT_STAT n) 9 false).actLeave n 0).gateUnit (actUnit n) 0
  t.putPwm (actUnit n) { t.pwm (actUnit n) with high := 0 }

/-! ### Speed law (R352, R353) -/

/-- Measured speed and DIR shown. -/
def State.actShow (s : State) (n : Nat) (v : Int) : State :=
  (s.putAct n { s.act n with speed := v }).setFld (Adr.ACT_STAT n) 31 16 (clampInt (-32768) 32767 v % 65536).toNat

/-- COAST ends: in OFF at speed 0, or in RUN below NCOAST where SPD asks for it (R355). -/
def State.actCoastEnd (s : State) (n : Nat) : State :=
  let v := (s.act n).speed
  if s.actState n ≠ 2 then s
  else if (s.act n).again && s.actSpd n != 0 then
    (if v.natAbs < s.fld (Adr.ACT_NCOAST n) 15 0 then
      if s.actInhibits n (decide (s.actSpd n < 0)) then s.actHalt n 4 else s.actEnter n 1
    else s)
  else if v = 0 then s.actEnter n 0
  else s

/-- D from SREF - speed, taken in the direction of drive, with conditional integration (R353). -/
def State.actLaw (s : State) (n : Nat) : State :=
  let a := s.act n
  let e := if s.actReverse n then a.speed - a.sref else a.sref - a.speed
  let p := (s.fld (Adr.ACT_GAIN n) 15 0 : Nat) * e * 2 ^ 15
  let i := a.integ + (s.fld (Adr.ACT_GAIN n) 31 16 : Nat) * e * 2 ^ 15
  let hi := max 0 (s.reg (Adr.ACT_DMAX n)).toInt
  let held := (decide (hi < p + i) && decide (0 < e)) || (decide (p + i < 0) && decide (e < 0))
  let i2 := if held then a.integ else i
  (s.putAct n { a with integ := clampInt 0 hi i2 }).setReg (Adr.ACT_DUTY n) (wInt (clampInt 0 hi (p + i2)))

/-- The 1 ms update (R353, R355). -/
def State.actUpdate (s : State) (n : Nat) : State :=
  let a := s.act n
  let spd := s.actSpd n
  if s.actState n = 1 then
    let against := decide (a.speed ≠ 0) && (decide (spd < 0) != decide (a.speed < 0))
    if spd = 0 ∨ (against ∧ s.fld (Adr.ACT_NCOAST n) 15 0 ≤ a.speed.natAbs) then s.actCoast n true
    else
      let acc : Int := s.fld (Adr.ACT_ACCEL n) 15 0
      let r := if a.sref < spd then min spd (a.sref + acc) else max spd (a.sref - acc)
      (s.putAct n { a with sref := r }).actLaw n
  else s.actCoastEnd n

/-- No adjacent Hall change for 20 ms. -/
def State.actSpeedZero (s : State) (n : Nat) : State := (s.actShow n 0).actCoastEnd n

/-- A change of the Hall code of set n, from sector `old`; adjacent or not (R351, R352, R355). -/
def State.actHall (s : State) (n old : Nat) (adjacent : Bool) : State :=
  if !s.pageEn (Pg.ACT n) then s
  else
    let st := s.reg (Adr.HALL_STAT n)
    let rev := bit st 4
    let now := bits st 2 0
    let d : Int := if rev then -(((old + 6 - now) % 6 : Nat) : Int) else (((now + 6 - old) % 6 : Nat) : Int)
    let pos := signed 16 (s.fld (Adr.ACT_POS n) 15 0)
    let pos1 := signed 16 ((pos + d) % 65536).toNat
    let s1 := (s.setFld (Adr.ACT_POS n) 15 0 ((pos + d) % 65536).toNat).setFlag (Adr.ACT_STAT n) 8 rev
    let den : Int := (max (s.fld (Adr.ACT_CFG n) 23 20) 1 * max (s.reg (Adr.HALL_PERS n)).toNat 1 : Nat)
    let v := (2 * 6000000000 + den) / (2 * den)
    let s2 := if adjacent then s1.actShow n (clampInt (-32768) 32767 (if rev then -v else v)) else s1
    let stop := signed 16 (s.fld (Adr.ACT_STOPPOS n) 15 0)
    let hit := if rev then decide (pos1 ≤ stop) && decide (stop < pos) else decide (pos < stop) && decide (stop ≤ pos1)
    let s3 := if s.flag (Adr.ACT_STOPPOS n) 31 && hit && s.actState n == 1 then
        ((s2.actCoast n false).actCause n 2).raise (Pg.ACT n) 1 else s2
    if s3.actState n = 1 then s3.actCommit n else s3

/-! ### Current limit, bootstrap, period boundary (R354, R357) -/

/-- A bridge-current sample in mA: above ILIM the driven high side is OFF until the next boundary. -/
def State.actLimit (s : State) (n : Nat) (ma : Int) : State :=
  if s.actState n = 1 ∧ s.fld (Adr.ACT_ILIM n) 4 0 * 1000 < ma.natAbs then
    ((s.putAct n { s.act n with limited := (s.act n).limited ||| 2 ^ s.actPhase n }).setFlag (Adr.ACT_STAT n) 11 true).actHigh n
  else s

/-- A bootstrap voltage in mV: below 8.0 V its high side is OFF. -/
def State.actBoot (s : State) (n phase mv : Nat) : State :=
  let t := s.putAct n { s.act n with boot := Store.put (fun _ => 0) phase mv (s.act n).boot }
  if mv < 8000 then
    ((t.putAct n { t.act n with bsuv := (t.act n).bsuv ||| 2 ^ phase }).actHigh n).raise (Pg.ACT n) 3
  else t

/-- A period boundary of the bridge's unit. -/
def State.actBoundary (s : State) (n : Nat) : State :=
  if !s.pageEn (Pg.ACT n) then s
  else
    let a := s.act n
    let bs := maskOf 3 fun p => a.bsuv.testBit p && decide (Store.get (fun _ => 0) a.boot p ≤ 9000)
    let t := ((s.putAct n { a with limited := 0, bsuv := bs, recent := false, periods := (a.periods + 1) % 16 }).setFlag
      (Adr.ACT_STAT n) 11 false).actHigh n
    t.actCommit n

/-! ### Contactor outputs (R360 to R363) -/

/-- STAT.STATE: 0 OPEN, 1 W1, 2 W2, 3 P, 4 O, 5 CLOSED (R364). -/
def State.ctrState (s : State) : Nat := s.fld Adr.CTR_STAT 2 0

/-- Role of output k: 0 MAN, 1 MANI, 2 NEG, 3 PRE, 4 POS. -/
def State.ctrRole (s : State) (k : Nat) : Nat := s.fld Adr.CTR_ROLE (4 * k + 3) (4 * k)

/-- The contactor-disable line is active (R362). -/
def State.ctrDis (s : State) : Bool := s.shroud.ctrLine

/-- Output k as its role and the sequencer want it. [DEDUCED, assumption 57] -/
def State.ctrWant (s : State) (k : Nat) : Bool :=
  let st := s.ctrState
  if !s.pageEn Pg.CTR || s.ctrDis || s.flag (Adr.PFAULT Pg.CTR) k then false
  else match s.ctrRole k with
    | 0 => s.flag Adr.CTR_MAN k
    | 1 => s.flag Adr.CTR_MAN k && st == 5
    | 2 => st == 2 || st == 3 || st == 4 || st == 5 || (st == 0 && s.ctr.negDue)
    | 3 => st == 1 || st == 3 || st == 4
    | _ => st == 4 || st == 5

/-- Outputs brought to what R362 to R364 give: one that switches on begins its pull-in (R360). [DEDUCED, assumption 57] -/
def State.ctrOutputs (s : State) : State :=
  let old := s.fld Adr.CTR_STAT 31 24
  let on := maskOf 8 s.ctrWant
  let pull := maskOf 8 fun k => on.testBit k && (!old.testBit k || bit s.ctr.pull k)
  (s.setFld Adr.CTR_STAT 31 24 on).setCtr { s.ctr with pull := w32 pull }

/-- The duty an output that is on runs at, in 1/1000, at a coil supply in mV: full in pull-in, then the economiser (R360). -/
def State.hsoDuty (s : State) (k vpCtr : Nat) : Nat :=
  if !s.flag Adr.CTR_STAT (24 + k) then 0
  else if bit s.ctr.pull k then 1000
  else min 1000 (s.fld Adr.CTR_ECO 15 8 * 240000 / max vpCtr 1)

/-- TPULL has elapsed. -/
def State.pullInEnd (s : State) (k : Nat) : State := s.setCtr { s.ctr with pull := setBit s.ctr.pull k false }

/-- CAUSE written. -/
def State.ctrCause (s : State) (c : Nat) : State := s.setFld Adr.CTR_STAT 11 8 c

/-- The sequencer enters a state. -/
def State.ctrEnter (s : State) (st : Nat) : State :=
  (if s.ctrState = st then s else (s.setFld Adr.CTR_STAT 2 0 st).raise Pg.CTR 0).ctrOutputs

/-- OPEN at once with a cause: every sequenced output off. -/
def State.ctrDrop (s : State) (cause : Nat) : State :=
  ((s.setCtr { s.ctr with negDue := false, shortOk := false }).ctrCause cause).ctrEnter 0

/-- A failure of the sequence (R364). -/
def State.ctrFail (s : State) (cause : Nat) : State :=
  let t := (s.ctrDrop cause).raise Pg.CTR 1
  if cause = 4 then t.fault Pg.CTR 8
  else if cause = 5 then t.fault Pg.CTR 9
  else t.setFlag Adr.CTR_STAT 6 true

/-- Exactly one NEG, one PRE and one POS output (R363). -/
def State.ctrRolesOk (s : State) : Bool :=
  [2, 3, 4].all fun r => ((List.range 8).filter fun k => s.ctrRole k == r).length == 1

/-- VDC below VWELD: an HV sense word counts 2000 V at 1.0. -/
def State.vdcLow (s : State) : Bool :=
  (s.hvWord 1).valid && decide ((s.hvWord 1).value.toInt * 2000 < (s.fld Adr.CTR_WELD 15 0 * 2 ^ 31 : Nat))

/-- VDC at a fraction of VBAT or more, in percent. -/
def State.vdcAbove (s : State) (pct : Nat) : Bool :=
  (s.hvWord 1).valid && (s.hvWord 0).valid && decide (pct * (s.hvWord 0).value.toInt ≤ 100 * (s.hvWord 1).value.toInt)

/-- CMD.CLOSE in OPEN (R362, R364, R365). -/
def State.ctrClose (s : State) : State :=
  if !s.pageEn Pg.CTR || s.ctrState != 0 then s
  else if s.ctrDis then (s.ctrCause 6).raise Pg.CTR 0
  else if !s.flag Adr.SYS_BOOTSTAT 4 then (s.ctrCause 10).raise Pg.CTR 0
  else if !s.ctrRolesOk || !(s.hvWord 0).valid then (s.ctrCause 9).raise Pg.CTR 0
  else if s.flag Adr.CTR_STAT 6 || s.fld (Adr.PFAULT Pg.CTR) 9 0 != 0 then s.raise Pg.CTR 0
  else
    let t := s.setCtr { s.ctr with negDue := false, shortOk := false }
    if s.vdcLow then (t.setFlag Adr.CTR_STAT 7 false).ctrEnter 1 else (t.setFlag Adr.CTR_STAT 7 true).ctrEnter 3

/-- CMD.OPEN (R366). -/
def State.ctrOpen (s : State) : State :=
  if s.ctrState = 5 then ((s.setCtr { s.ctr with negDue := true, shortOk := false }).ctrCause 1).ctrEnter 0 else s.ctrDrop 1

/-- CMD written: OPEN wins over CLOSE. -/
def State.ctrCmd (s : State) (v : Word) : State := if bit v 1 then s.ctrOpen else if bit v 0 then s.ctrClose else s

/-- 20 ms after POS opened. -/
def State.ctrNegOpen (s : State) : State := (s.setCtr { s.ctr with negDue := false }).ctrOutputs

/-- A step's time passes: the short check of P for true, else the end of the step (R364). [DESIGN CHOICE, assumption 5] -/
def State.ctrStep (s : State) (short : Bool) : State :=
  match s.ctrState with
  | 1 => if short then s else if s.vdcLow then s.ctrEnter 2 else s.ctrFail 4
  | 2 => if short then s else if s.vdcLow then s.ctrEnter 3 else s.ctrFail 5
  | 3 =>
    if short then (if s.vdcAbove 20 then s.setCtr { s.ctr with shortOk := true } else s.ctrFail 3)
    else if !s.vdcAbove (s.fld Adr.CTR_PRECFG 15 8) then s.ctrFail 2
    else if s.ctr.shortOk then s.ctrEnter 4
    else s
  | 4 => if short then s else s.ctrEnter 5
  | _ => s

/-- The cooling time ends. -/
def State.ctrCooled (s : State) : State := s.setFlag Adr.CTR_STAT 6 false

/-- An output over its current limit turns off; one with a sequenced role opens the sequencer (R361). -/
def State.ctrOver (s : State) (k : Nat) : State :=
  if !s.flag Adr.CTR_STAT (24 + k) then s
  else
    let t := (s.fault Pg.CTR k).raise Pg.CTR 1
    if 2 ≤ s.ctrRole k then t.ctrDrop 7 else t.ctrOutputs

/-- The SF8 line is active: every output off, OPEN with cause SHROUD (R362). -/
def State.ctrDisable (s : State) : State :=
  let t := s.setFlag Adr.CTR_STAT 5 s.ctrDis
  if s.ctrDis then t.ctrDrop 6 else t

/-- The page's safe state: every output off, OPEN with cause SAFE. -/
def State.ctrSafe (s : State) : State := s.ctrDrop 8

end Sys2Proof.Machine
end

