-- ==== Sys2Proof/Machine/RingOps.lean ====
section
/-! DEFINITION. The Efhimbe rings and the impedance correlator (chapter 16). -/

namespace Sys2Proof.Machine

/-! ### SRAM as engines reach it -/

/-- n bytes from a on lie in SRAM. -/
def inSram (a n : Nat) : Bool := decide (0x20000000 ≤ a) && decide (a + n ≤ 0x20400000)

/-- An engine's write to SRAM; one that leaves SRAM writes nothing (R19). -/
def State.dmaPut (s : State) (a : Nat) (bs : List Byte) : State := if inSram a bs.length then s.putBytes a bs else s

/-! ### CRC-8 and bit streams (R373, R384) -/

/-- One shift of the area CRC: polynomial 0x07. -/
def crc8Shift (c : Byte) : Byte := if c.getLsbD 7 then (c <<< 1) ^^^ 7#8 else c <<< 1

/-- One byte into it. -/
def crc8Byte (c b : Byte) : Byte :=
  crc8Shift (crc8Shift (crc8Shift (crc8Shift (crc8Shift (crc8Shift (crc8Shift (crc8Shift (c ^^^ b))))))))

/-- CRC-8 with initial value 0. -/
def crc8 (bs : List Byte) : Byte := bs.foldl crc8Byte 0#8

/-- The low and the high byte of a slot, in line order. -/
def slotBytes (w : BitVec 16) : List Byte := [w.extractLsb' 0 8, w.extractLsb' 8 8]

/-- An area's CRC covers status [15:8] and the data-slot bytes. -/
def areaOk (a : RingArea) : Bool := crc8 (a.status.extractLsb' 8 8 :: a.slots.flatMap slotBytes) == a.status.extractLsb' 0 8

/-- Bits of a slot, bit 15 first. -/
def slotBits (w : BitVec 16) : List Bool := (List.range 16).map fun i => w.getLsbD (15 - i)

/-- The number that bits spell, first bit highest. -/
def bitsNat (l : List Bool) : Nat := l.foldl (fun n b => 2 * n + b.toNat) 0

/-- The number of leading ones. -/
def leadOnes : List Bool → Nat
  | true :: t => leadOnes t + 1
  | _ => 0

/-! ### Fields -/

/-- STAT.STATE: 0 OFF, 1 WAKE, 2 TRAIN, 3 ENUM, 4 MEAS, 5 READY, 6 STREAM, 7 FAILED (R394). -/
def State.ringState (s : State) (k : Nat) : Nat := s.fld (Adr.EFR_STAT k) 2 0

/-- A change of state sets PEVT.STATE. -/
def State.ringEnter (s : State) (k st : Nat) : State :=
  if s.ringState k = st then s else (s.setFld (Adr.EFR_STAT k) 2 0 st).raise (Pg.EFR k) 6

/-- FAILED with a cause: 1 LINK, 2 ENUM, 3 DELAY. -/
def State.ringFail (s : State) (k cause : Nat) : State := (s.setFld (Adr.EFR_STAT k) 31 28 cause).ringEnter k 7

/-- STAT.FOLD. -/
def State.ringFold (s : State) (k : Nat) : Bool := s.flag (Adr.EFR_STAT k) 4

/-- Fold entered or left. -/
def State.setFold (s : State) (k : Nat) (b : Bool) : State :=
  if s.ringFold k = b then s else (s.setFlag (Adr.EFR_STAT k) 4 b).raise (Pg.EFR k) 3

/-- BRK from what is reached (R394): the last node from a and the first from b, each with its valid bit. -/
def State.ringBrk (s : State) (k : Nat) : State :=
  let r := s.ring k
  let n := s.fld (Adr.EFR_STAT k) 24 16
  let a := if 0 < r.reachA then 256 + (r.reachA - 1) % 256 else 0
  let b := if r.reachB < n then 2 ^ 24 + r.reachB % 256 * 65536 else 0
  s.setReg (Adr.EFR_BRK k) (if s.ringFold k then w32 (a + b) else 0#32)

/-- The module serves the ring: it holds the token, or no Twin link runs (R434). -/
def State.ringOwned (s : State) (k : Nat) : Bool := s.fld Adr.TWIN_STAT 2 0 == 0 || s.flag Adr.TWIN_STAT (8 + k)

/-- Node a is reached from a port. -/
def State.ringReaches (s : State) (k a : Nat) : Bool :=
  (s.ring k).nodes.any (fun e => e.1 == a) && (!s.ringFold k || decide (a < (s.ring k).reachA) || decide ((s.ring k).reachB ≤ a))

/-- Enabled nodes, in ascending order. -/
def State.ringEnabled (s : State) (k : Nat) : List Nat := (List.range 256).filter fun a => s.flag (Adr.EFR_NT k a) 5

/-- What enumeration read from a node. -/
def State.ringNode (s : State) (k a : Nat) : NodeFacts :=
  match (s.ring k).nodes.find? fun e => e.1 == a with
  | some e => e.2
  | none => ⟨0, 0, 0, 0, 0⟩

/-! ### Transactions (R390, R391) -/

/-- Entries of the descriptor queue. -/
def State.tqLen (s : State) (k : Nat) : Nat := s.fld (Adr.EFR_TQCFG k) 7 0 + 1

/-- The address of descriptor i. -/
def State.tqAddr (s : State) (k i : Nat) : Nat := (s.reg (Adr.EFR_TQBASE k)).toNat + 16 * i

/-- A descriptor is written back: DONE, RESULT and TAG; TXDONE, and TXERR unless OK. -/
def State.txResult (s : State) (k i tag result : Nat) : State :=
  let a := s.tqAddr k i + 4
  let w := s.mword a
  let v := setBits (setBits (setBit w 31 true) 27 24 result) 20 16 tag
  ((s.dmaPut a (wordBytes v)).raise (Pg.EFR k) 1).when (result != 0) fun t => t.raise (Pg.EFR k) 2

/-- TAGS shows the tags in flight. -/
def State.tagsShow (s : State) (k : Nat) : State :=
  s.setReg (Adr.EFR_TAGS k) (w32 (maskOf 32 fun t => (s.ring k).tags.any fun e => e.1 == t))

/-- A descriptor that cannot be issued: 6 BADDESC, 5 UNREACH; 0 for one that can. -/
def State.txRefusal (s : State) (k : Nat) (ws : List Word) : Nat :=
  let op := bits (nthD 0#32 ws 0) 31 28
  let len := bits (nthD 0#32 ws 0) 23 16
  let dst := bits (nthD 0#32 ws 0) 7 0
  let pay := (nthD 0#32 ws 2).toNat
  let mask := (nthD 0#32 ws 3).toNat
  if op = 0 ∨ 3 < op ∨ len = 0 ∨ 32 < len ∨ !inSram pay (4 * len) ∨ (op = 3 ∧ !inSram mask 64) then 6
  else if op ≠ 3 then (if s.ringReaches k dst then 0 else 5)
  else if (List.range 256).any fun a => (s.byte (mask + a / 8)).getLsbD (a % 8) && s.ringReaches k a then 0 else 5

/-- TQHEAD moves to the next descriptor. -/
def State.tqNext (s : State) (k : Nat) : State :=
  s.setReg (Adr.EFR_TQHEAD k) (w32 ((s.fld (Adr.EFR_TQHEAD k) 7 0 + 1) % s.tqLen k))

/-- Descriptors are issued while some are queued and a tag is free. -/
def State.txIssue : Nat → State → Nat → State
  | 0, s, _ => s
  | fuel + 1, s, k =>
    let i := s.fld (Adr.EFR_TQHEAD k) 7 0
    let runs := (s.ringState k == 5 || s.ringState k == 6) && s.pageEn (Pg.EFR k) && !s.pageSafeSt (Pg.EFR k) && s.ringOwned k
    if !runs || i == s.fld (Adr.EFR_TQTAIL k) 7 0 then s
    else
      let ws := (List.range 4).map fun j => s.mword (s.tqAddr k i + 4 * j)
      match s.txRefusal k ws with
      | 0 =>
        match (List.range 32).find? fun t => !(s.ring k).tags.any fun e => e.1 == t with
        | some t =>
          let u := s.putRing k { s.ring k with tags := (s.ring k).tags ++ [(t, ⟨i, ws⟩)] }
          State.txIssue fuel ((u.tagsShow k).tqNext k) k
        | none => s
      | e => State.txIssue fuel ((s.txResult k i 0 e).tqNext k) k

/-- Everything queued that can be issued is. -/
def State.txRun (s : State) (k : Nat) : State := State.txIssue 256 s k

/-- Queued descriptors complete with ABORTED. -/
def State.txFlush : Nat → State → Nat → State
  | 0, s, _ => s
  | fuel + 1, s, k =>
    let i := s.fld (Adr.EFR_TQHEAD k) 7 0
    if i = s.fld (Adr.EFR_TQTAIL k) 7 0 then s else State.txFlush fuel ((s.txResult k i 0 4).tqNext k) k

/-- Every descriptor, in flight or queued, completes with ABORTED. -/
def State.txAbort (s : State) (k : Nat) : State :=
  let t := (s.ring k).tags.foldl (fun u e => u.txResult k e.2.index e.1 4) s
  State.txFlush 256 ((t.putRing k { t.ring k with tags := [] }).tagsShow k) k

/-- The transaction of a tag ends: its tag is freed and further descriptors are issued. -/
def State.txEnd (s : State) (k tag result : Nat) (e : RingTx) : State :=
  let t := s.putRing k { s.ring k with tags := (s.ring k).tags.filter fun x => x.1 != tag }
  ((t.tagsShow k).txResult k e.index tag result).txRun k

/-- The transaction in flight with a tag; in a closed ring the oldest one alone can end (R390). -/
def State.txOf (s : State) (k tag : Nat) : Option RingTx :=
  match (s.ring k).tags with
  | [] => none
  | e :: rest =>
    if e.1 = tag then some e.2
    else if s.ringFold k then (rest.find? fun x => x.1 == tag).map fun x => x.2
    else none

/-- A transaction frame returns. -/
def State.txComplete (s : State) (k tag : Nat) (data : List Word) (status : Word) (ack : List Byte) (aborted : Bool) : State :=
  match s.txOf k tag with
  | none => s
  | some e =>
    let op := bits (nthD 0#32 e.words 0) 31 28
    let len := bits (nthD 0#32 e.words 0) 23 16
    let pay := (nthD 0#32 e.words 2).toNat
    let mask := (nthD 0#32 e.words 3).toNat
    if aborted then s.txEnd k tag 4 e
    else if op = 3 then
      let bad := (List.range 256).any fun a =>
        (s.byte (mask + a / 8)).getLsbD (a % 8) && s.ringReaches k a && !(nthD 0#8 ack (a / 8)).getLsbD (a % 8)
      (s.dmaPut (mask + 32) ((List.range 32).map fun i => nthD 0#8 ack i)).txEnd k tag (if bad then 1 else 0) e
    else
      let s1 := if op = 1 then s.dmaPut pay ((List.range len).flatMap fun i => wordBytes (nthD 0#32 data i)) else s
      (s1.dmaPut (pay + 4 * len) (wordBytes status)).txEnd k tag (if bits status 7 0 = 1 then 0 else 2) e

/-- A transaction has not returned within TTO. -/
def State.txTimeout (s : State) (k tag : Nat) : State :=
  match (s.ring k).tags.find? fun x => x.1 == tag with
  | some e => s.txEnd k tag 3 e.2
  | none => s

/-! ### Start and stop (R377 to R383, R394) -/

/-- A 2 ms wake tone on both ports. -/
def State.ringTone (s : State) (k : Nat) : State := s.putRing k { s.ring k with tone := s.now + 1200000 + 1 }

/-- CTRL.RUN = 1 in OFF: the start-up sequence with PLL_NET locked; the non-owner of a Twin's ring keeps its port in LOOPBACK (R434). -/
def State.ringRun (s : State) (k : Nat) : State :=
  if s.ringState k ≠ 0 then s
  else if !s.ringOwned k then s.putRing k { s.ring k with loopback := true }
  else if !s.flag Adr.SYS_CLKSTAT 4 then s.ringFail k 1
  else
    let t := s.putRing k { Ring.reset with tone := s.now + 1200000 + 1 }
    ((t.setFld (Adr.EFR_STAT k) 31 28 0).setFold k false).ringEnter k 1

/-- The wake tone ends: a starting ring trains (R378). -/
def State.ringToneEnd (s : State) (k : Nat) : State :=
  if (s.ring k).tone ≠ 0 ∧ (s.ring k).tone - 1 ≤ s.now then
    (s.putRing k { s.ring k with tone := 0 }).when (s.ringState k == 1) fun t => t.ringEnter k 2
  else s

/-- RUN = 0: OFF; every descriptor completes with ABORTED (R394). -/
def State.ringStop (s : State) (k : Nat) : State :=
  let t := (s.txAbort k).putRing k { (s.txAbort k).ring k with sent := false, loopback := false, tone := 0 }
  ((t.setFlag (Adr.EFR_CTRL k) 1 false).setFold k false).ringEnter k 0

/-- Training ends: closed, folded from the start, or FAILED. -/
def State.ringTrained (s : State) (k : Nat) (aUp bUp : Bool) : State :=
  if s.ringState k ≠ 1 ∧ s.ringState k ≠ 2 then s
  else
    let t := (s.setFlag (Adr.EFR_STAT k) 5 aUp).setFlag (Adr.EFR_STAT k) 6 bUp
    if !aUp && !bUp then t.ringFail k 1 else (t.setFold k (!(aUp && bUp))).ringEnter k 3

/-- Enumeration ends (R379): what each side found, and whether FULL came back. -/
def State.ringEnumerated (s : State) (k : Nat) (fromA fromB : List (Nat × NodeFacts)) (full : Bool) : State :=
  if s.ringState k ≠ 3 then s
  else
    let found := fromA ++ fromB.filter fun e => !fromA.any fun f => f.1 == e.1
    let both := fromA.any fun e => fromB.any fun f => f.1 == e.1
    let nexp := s.fld (Adr.EFR_CFG k) 8 0
    let t := (s.setFld (Adr.EFR_STAT k) 24 16 found.length).each (List.range 256) fun t a =>
      match found.find? fun e => e.1 == a with
      | some e =>
        let w := t.reg (Adr.EFR_NT k a)
        t.setReg (Adr.EFR_NT k a) (setBits (setBits w 28 11 e.2.tmask.toNat) 10 6 e.2.ncell)
      | none => t.setReg (Adr.EFR_NT k a) (t.reg (Adr.EFR_NT k a) &&& 0x3F#32)
    let nodes := (List.range 256).filterMap fun a => found.find? fun e => e.1 == a
    let u := t.putRing k { t.ring k with nodes := nodes, comp := [], recon := [], reachA := fromA.length, reachB := nexp - fromB.length }
    if full || found.length != nexp || (s.ringFold k && both) then (u.fault (Pg.EFR k) 0).ringFail k 2
    else (u.ringBrk k).ringEnter k 4

/-- COMP of a one-way delay in ns, D_ref minus it (R380). -/
def compOf (d : Option Nat) : Nat := match d with
  | some v => (40000 - v) % 65536
  | none => 0

/-- COMPA and COMPB of measured nodes are written (R380). -/
def State.putComps (s : State) (k : Nat) (hops : List (Nat × Option Nat × Option Nat)) : State :=
  hops.foldl (fun u h => u.putRing k
    { u.ring k with comp := Store.put (fun _ => 0#32) h.1 (w32 (compOf h.2.2 * 65536 + compOf h.2.1)) (u.ring k).comp }) s

/-- Hop delays in ns are measured (R380): HOP, DMAX and COMP are written; node addresses have 8 bits. In LOOPBACK the partner's measurement
fills them alone (R435); in STREAM with TRACK a node measured again has its COMP rewritten. [DEDUCED, assumption 58] -/
def State.ringMeasured (s : State) (k : Nat) (measured : List (Nat × Option Nat × Option Nat)) : State :=
  let hops := measured.filter fun h => decide (h.1 < 256)
  if s.ringState k ≠ 4 ∧ !(s.ring k).loopback then
    s.when (s.ringState k == 6 && s.flag (Adr.EFR_CFG k) 15) fun t => t.putComps k hops
  else
    let ns (d : Option Nat) : Nat := match d with
      | some v => min v 0xFFFF
      | none => 0xFFFF
    let all := hops.flatMap fun h => h.2.1.toList ++ h.2.2.toList
    let t := (hops.foldl (fun u h => u.setReg (Adr.EFR_HOP k h.1) (w32 (ns h.2.2 * 65536 + ns h.2.1))) s).putComps k hops
    let t1 := t.setReg (Adr.EFR_DMAX k) (w32 (min (all.foldl max 0) 65535))
    let lost := (s.ring k).nodes.any fun e => !hops.any fun h => h.1 == e.1 && (h.2.1.isSome || h.2.2.isSome)
    let t2 := t1.when lost fun u => u.fault (Pg.EFR k) 1
    if s.ringState k ≠ 4 then t2
    else if all.any fun d => decide (39000 < d) then t2.ringFail k 3
    else (t2.ringEnter k 5).txRun k

/-- Bytes of the STREAM frame (R383): 12 and two bytes a slot. -/
def State.ringFrame (s : State) (k : Nat) : Nat :=
  (s.ringEnabled k).foldl (fun n a => n + 2 * (1 + s.fld (Adr.EFR_NT k a) 4 0)) 12

/-- STREAM is refused with PARAM (R383). -/
def State.ringParam (s : State) (k : Nat) : Bool :=
  let sdly := s.fld (Adr.EFR_CFG k) 28 16
  let base := (s.reg (Adr.EFR_DBASE k)).toNat
  (s.ringEnabled k).any (fun a => decide (sdly < (s.ringNode k a).tready)) ||
    decide (s.fld (Adr.EFR_PERIOD k) 23 0 < sdly * 600 + s.ringFrame k * 48 + 12000) ||
    !(inSram base 1 && decide (base % 64 = 0)) ||
    (s.fld (Adr.EFR_CFG k) 11 10 == 2 && (s.ringEnabled k).any fun a => decide (s.fld (Adr.EFR_NT k a) 4 0 < 9))

/-- CTRL.STREAM = 1 in READY. [DEDUCED, assumption 58] -/
def State.ringStream (s : State) (k : Nat) : State :=
  if s.ringState k ≠ 5 then s
  else if s.ringParam k then ((s.setFlag (Adr.EFR_CTRL k) 1 false).fault (Pg.EFR k) 2).raise (Pg.EFR k) 6
  else (s.putRing k { s.ring k with recon := [], sent := false }).ringEnter k 6

/-- CTRL.STREAM = 0 while streaming. [DEDUCED, assumption 58] -/
def State.ringUnstream (s : State) (k : Nat) : State :=
  if s.ringState k = 6 then (s.putRing k { s.ring k with sent := false }).ringEnter k 5 else s

/-- SYNC at a multiple of PERIOD (R381). -/
def State.ringSync (s : State) (k : Nat) : State :=
  if s.ringState k ≠ 5 ∧ s.ringState k ≠ 6 then s
  else
    let per := max (s.fld (Adr.EFR_PERIOD k) 23 0) 1
    let t := s.putRing k { s.ring k with cycle := s.now / per, tc := s.now / per * per, sent := false }
    t.putZcor k { t.zcor k with around := [] }

/-- The sampling instant t_s of the cycle. -/
def State.ringTs (s : State) (k : Nat) : Nat := (s.ring k).tc + 24000

/-- The STREAM frame leaves. -/
def State.ringSend (s : State) (k : Nat) : State :=
  if s.ringState k = 6 then s.putRing k { s.ring k with sent := true } else s

/-! ### Decoding an area (R384 to R387) -/

/-- A channel carries temperature. -/
def isTemp (n : NodeFacts) (c : Nat) : Bool := n.tmask.getLsbD c

/-- A 16-bit code of a channel as a number: signed for temperatures. -/
def codeOf (n : NodeFacts) (c v : Nat) : Int := if isTemp n c then signed 16 v else (v % 65536 : Nat)

/-- A channel without a sample in this cycle. -/
def Recon.none_ (r : Recon) : Recon := { r with valid := false, approx := false }

/-- A channel with a sample. -/
def Recon.take (r : Recon) (v : Int) (approx : Bool) (cyc : Nat) : Recon :=
  { r with r := v, valid := true, approx := approx, sync := true, good := if approx then r.good else some (v, cyc) }

/-- RAW: data slot j carries channel j (R385). -/
def rawChan (n : NodeFacts) (slots cyc : Nat) (data : List (BitVec 16)) (old : Recon) (c : Nat) : Recon :=
  if c < n.nch ∧ c < slots then old.take (codeOf n c (nthD 0#16 data c).toNat) false cyc else old.none_

/-- FIXED: 18 codes of 7 bits, then the anchor (R386). -/
def fixedChan (n : NodeFacts) (q cyc : Nat) (bs : List Bool) (old : Recon) (c : Nat) : Recon :=
  let code := signed 7 (bitsNat ((bs.drop (7 * c)).take 7))
  if code = -64 then old.none_
  else if cyc % 64 = c then old.take (codeOf n c (bitsNat ((bs.drop 126).take 16))) false cyc
  else if !old.sync then old.none_
  else old.take (old.r + code * q) (decide (code = 63) || decide (code = -63)) cyc

/-- k of the Rice coder for a running sum S (R387). -/
def riceK (S : Nat) : Nat := if S / 16 = 0 then 0 else min 15 (Nat.log2 (S / 16) + 1)

/-- LOSSLESS: channels 0 to NSENT - 1 from the bit stream; a Rice value of a channel without a reference ends what can be read. [DEDUCED, assumption 58] -/
def losslessChans (n : NodeFacts) (cyc : Nat) (old : Nat → Recon) : Nat → Nat → List Bool → List (Nat × Recon)
  | 0, _, _ => []
  | m + 1, c, true :: bs =>
    let k := bitsNat (bs.take 4)
    let v := bitsNat ((bs.drop 4).take 16)
    let r : Recon := { old c with sum := if k = 0 then 0 else 2 ^ (k + 3) }
    (c, r.take (codeOf n c v) false cyc) :: losslessChans n cyc old m (c + 1) (bs.drop 20)
  | m + 1, c, false :: bs =>
    let r := old c
    if !r.sync then []
    else
      let k := riceK r.sum
      let h := leadOnes bs
      let u := h * 2 ^ k + bitsNat ((bs.drop (h + 1)).take k)
      let d : Int := if u % 2 = 0 then ((u / 2 : Nat) : Int) else -((u / 2 : Nat) : Int) - 1
      let v := ((r.r + d) % 65536).toNat
      let r1 : Recon := { r with sum := min (r.sum + u - r.sum / 16) (2 ^ 24 - 1) }
      (c, r1.take (codeOf n c v) false cyc) :: losslessChans n cyc old m (c + 1) (bs.drop (h + 1 + k))
  | _ + 1, _, [] => []

/-- The 18 channels of a node after an area; none for a lost one. -/
def State.nodeChans (s : State) (k a : Nat) (area : Option RingArea) : List Recon :=
  let r := s.ring k
  let n := s.ringNode k a
  let old (c : Nat) : Recon := Store.get (fun _ => Recon.reset) r.recon (18 * a + c)
  match area with
  | none => (List.range 18).map fun c => { (old c).none_ with sync := false }
  | some ar =>
    let bs := ar.slots.flatMap slotBits
    match s.fld (Adr.EFR_CFG k) 11 10 with
    | 0 => (List.range 18).map fun c => rawChan n (s.fld (Adr.EFR_NT k a) 4 0) r.cycle ar.slots (old c) c
    | 2 => (List.range 18).map fun c => fixedChan n (s.fld (Adr.EFR_CFG k) 14 12 + 1) r.cycle bs (old c) c
    | _ =>
      let got := losslessChans n r.cycle old (min (bitsNat (bs.take 5)) 18) 0 (bs.drop 5)
      (List.range 18).map fun c => match got.find? fun e => e.1 == c with
        | some e => e.2
        | none => (old c).none_

/-! ### The record and the summary (R388, R389) -/

/-- Bytes of one node entry: a channel without a sample shows a free half-word, the record's 18a + c-th. [DESIGN CHOICE, assumption 53] -/
def State.recordEntry (s : State) (k a : Nat) (chans : List Recon) (status : Nat) : List Byte :=
  let half (c : Nat) : Nat :=
    let r := nthD Recon.reset chans c
    if r.valid then (r.r % 65536).toNat else (Config.freeWord (s.free + 18 * a + c)).toNat % 65536
  let valid := maskOf 18 fun c => (nthD Recon.reset chans c).valid
  let appr := maskOf 18 fun c => (nthD Recon.reset chans c).valid && (nthD Recon.reset chans c).approx
  (List.range 18).flatMap (fun c => natBytes 2 (half c)) ++ natBytes 4 valid ++ natBytes 4 appr ++
    natBytes 4 ((s.ring k).cycle % 65536 * 65536 + status)

/-- Every contributing channel of the enabled nodes: cells for true, temperatures for false (R389). -/
def State.ringChans (s : State) (k : Nat) (cells : Bool) : List Recon :=
  (s.ringEnabled k).flatMap fun a =>
    let n := s.ringNode k a
    ((List.range 18).filter fun c => if cells then decide (c < n.ncell) && !isTemp n c else isTemp n c).map fun c =>
      Store.get (fun _ => Recon.reset) (s.ring k).recon (18 * a + c)

/-- A channel's newest good sample is at most three cycles old. -/
def Recon.current (r : Recon) (cyc : Nat) : Bool := match r.good with
  | some g => decide (cyc ≤ g.2 + 3)
  | none => false

/-- Enabled nodes whose channels are all current. -/
def State.ringCurrent (s : State) (k : Nat) : Nat :=
  ((s.ringEnabled k).filter fun a =>
    let n := s.ringNode k a
    ((List.range 18).filter fun c => decide (c < n.ncell) || isTemp n c).all fun c =>
      (Store.get (fun _ => Recon.reset) (s.ring k).recon (18 * a + c)).current (s.ring k).cycle).length

/-- The summary words of ring k (R389). -/
def State.ringSummary (s : State) (k : Nat) : State :=
  let cyc := (s.ring k).cycle
  let cells := s.ringChans k true
  let temps := s.ringChans k false
  let ok := (cells ++ temps).all fun r => r.current cyc
  let vals (l : List Recon) : List Int := l.filterMap fun r => r.good.map fun g => g.1
  let lo := match vals cells with
    | [] => 0
    | v :: t => t.foldl min v
  let hi := match vals cells with
    | [] => 0
    | v :: t => t.foldl max v
  let hot := match vals temps with
    | [] => 0
    | v :: t => t.foldl max v
  let put (u : State) (j : Nat) (w : Word) (v : Bool) : State := u.putSample (0xC0 + 4 * k + j) ⟨w, v, s.ringTs k⟩
  let s1 := put s 0 (wInt (lo * 2 ^ 15)) (ok && !cells.isEmpty)
  let s2 := put s1 1 (wInt (hi * 2 ^ 15)) (ok && !cells.isEmpty)
  let s3 := put s2 2 (wInt (hot * 2 ^ 16)) (ok && !temps.isEmpty)
  put s3 3 (w32 (cyc % 65536 * 65536 + (s.ringFold k).toNat * 32768 + s.ringCurrent k % 512)) true

/-- A returned area that counts: intact, of an enabled node, with DV set. -/
def goodArea (areas : List RingArea) (aborted : Bool) (a : Nat) : Option RingArea :=
  if aborted then none else areas.find? fun x => x.node == a && areaOk x && x.status.getLsbD 15

/-- One enabled node of a returned frame: its channels, its loss or its overflow. -/
def State.ringTake (s : State) (k : Nat) (areas : List RingArea) (aborted : Bool) (a : Nat) : State :=
  let ar := goodArea areas aborted a
  let chans := s.nodeChans k a ar
  let rec_ := (List.range 18).foldl (fun m c => Store.put (fun _ => Recon.reset) (18 * a + c) (nthD Recon.reset chans c) m) (s.ring k).recon
  let t := s.putRing k { s.ring k with recon := rec_ }
  let buf := 1 - s.fld (Adr.EFR_SSTAT k) 0 0
  let status := match areas.find? fun x => x.node == a with
    | some x => x.status.toNat
    | none => 0
  let base := (s.reg (Adr.EFR_DBASE k)).toNat + buf * 0x3000 + a * 48
  let t1 := t.dmaPut base (s.recordEntry k a chans status)
  match ar with
  | none => (t1.bump (Adr.EFR_ERRCNT k) 15 0).raise (Pg.EFR k) 5
  | some x =>
    if x.status.getLsbD 14 || (s.fld (Adr.EFR_CFG k) 11 10 == 0 && decide (s.fld (Adr.EFR_NT k a) 4 0 < (s.ringNode k a).nch)) then
      (t1.setFlag Adr.TBU_RINGOVR k true).raise Pg.TBU 4
    else t1

/-! ### Correlator (R396 to R398) -/

/-- ZSTAT.STATE: 0 IDLE, 1 RUN, 2 DONE, 3 COPY. -/
def State.zState (s : State) (k : Nat) : Nat := s.fld (Adr.ZCOR_ZSTAT k) 1 0

/-- Correlator RAM of ring k. -/
def zRam (k : Nat) : Nat := 0x28000000 + k * 0x80000

/-- Block length as an exponent. -/
def State.zB (s : State) (k : Nat) : Nat := clampNat 8 16 (s.fld (Adr.ZCOR_ZCFG k) 28 24)

/-- A 64-bit accumulator's two registers. -/
def State.setPair (s : State) (a : Nat) (v : Int) : State :=
  (s.setReg a (w32 (v % 2 ^ 64).toNat)).setReg (a + 4) (w32 ((v % 2 ^ 64).toNat / 2 ^ 32))

/-- A block begins: RAM, current accumulators and MISS cleared, bins taken (R396). -/
def State.zBegin (s : State) (k : Nat) : State :=
  let lim := 2 ^ (s.zB k - 1) - 1
  let ms := (List.range 8).map fun j => clampNat 1 lim (s.fld (Adr.ZCOR_BIN0 k + 4 * j) 15 0)
  let t := (s.clearMem (zRam k) 0x80000).clearRegs fun a =>
    (decide (Adr.ZCOR_IIL0 k ≤ a) && decide (a < Adr.ZCOR_IIL0 k + 128))
      || (decide (Adr.ZCOR_MISS (128 * k) ≤ a) && decide (a < Adr.ZCOR_MISS (128 * k) + 512))
  let z := s.zcor k
  ((t.putZcor k { z with first := [], bins := ms, ii := [], iq := [], around := [] }).setReg (Adr.ZCOR_ZN k) 0#32).setFld
    (Adr.ZCOR_ZSTAT k) 1 0 1

/-- START: refused while the ring does not stream or a COPY runs (R400). -/
def State.zStart (s : State) (k : Nat) : State :=
  if !s.pageEn Pg.ZCOR || s.ringState k != 6 || s.zState k == 3 then s else s.zBegin k

/-- ABORT, or the safe state. -/
def State.zIdle (s : State) (k : Nat) : State := s.setFld (Adr.ZCOR_ZSTAT k) 1 0 0

/-- The newest word of ISEL is taken when it has a new stamp; the pair around t_s is kept (R397). -/
def State.zWatch (s : State) (k : Nat) : State :=
  if s.zState k ≠ 1 then s
  else
    let z := s.zcor k
    let w := s.live (s.fld (Adr.ZCOR_ZCFG k) 9 0) s.now
    let ts := s.ringTs k
    if w.time = z.last.time then s
    else
      let hit := z.around.isEmpty && decide (z.last.time ≤ ts) && decide (ts ≤ w.time)
      s.putZcor k { z with last := w, around := if hit then [z.last, w] else z.around }

/-- The pack current at t_s, shifted right by 8; none when the cycle is skipped (R396, R397). -/
def State.zCurrent (s : State) (k : Nat) : Option Int :=
  match (s.zcor k).around with
  | [w1, w2] =>
    if 12000 < w2.time - w1.time then none
    else
      let den : Int := max (w2.time - w1.time) 1
      let x := w1.value.toInt * den + (w2.value.toInt - w1.value.toInt) * ((s.ringTs k - w1.time : Nat) : Int)
      some ((2 * x + den) / (2 * den) / 256)
  | _ => none

/-- round(2^15 cos φ) and round(2^15 sin φ) of a turn word, limited to ±32767. -/
def zCos (w : Nat) : Int := clampInt (-32767) 32767 (roundShift (turnCos w) 49)
def zSin (w : Nat) : Int := clampInt (-32767) 32767 (roundShift (turnSin w) 49)

/-- A signed 64-bit word of memory raised by d. -/
def State.acc64 (s : State) (a : Nat) (d : Int) : State :=
  s.putBytes a (natBytes 8 (((bytesNat (s.bytes a 8) : Int) + d) % 2 ^ 64).toNat)

/-- Enabled bins with their C and S in cycle n. -/
def State.zPhases (s : State) (k n : Nat) : List (Nat × Int × Int) :=
  ((List.range 8).filter fun j => s.flag (Adr.ZCOR_ZCFG k) (16 + j)).map fun j =>
    let w := n * nthD 1 (s.zcor k).bins j % 2 ^ s.zB k * 2 ^ (32 - s.zB k)
    (j, zCos w, zSin w)

/-- Cell c = 16a + ch in a cycle: accumulated, or missing. -/
def State.zCell (s : State) (k a ch : Nat) (ph : List (Nat × Int × Int)) : State :=
  let c := 16 * a + ch
  let r := Store.get (fun _ => Recon.reset) (s.ring k).recon (18 * a + ch)
  if !r.valid || r.approx then s.setFlag (Adr.ZCOR_MISS (128 * k + c / 32)) (c % 32) true
  else
    let z := s.zcor k
    let code := (r.r % 65536).toNat
    let f := Store.get (fun _ => 0) z.first c
    let x : Int := if f = 0 then 0 else (code : Int) - (f - 1 : Nat)
    let t := if f = 0 then s.putZcor k { z with first := Store.put (fun _ => 0) c (code + 1) z.first } else s
    ph.foldl (fun u p => (u.acc64 (zRam k + (8 * c + p.1) * 16) (x * p.2.1)).acc64 (zRam k + (8 * c + p.1) * 16 + 8) (x * p.2.2)) t

/-- II and IQ of a cycle with current i. -/
def State.zAmps (s : State) (k : Nat) (i : Int) (ph : List (Nat × Int × Int)) : State :=
  ph.foldl (fun u p =>
    let z := u.zcor k
    let a := Store.get (fun _ => 0) z.ii p.1 + i * p.2.1
    let b := Store.get (fun _ => 0) z.iq p.1 + i * p.2.2
    ((u.putZcor k { z with ii := Store.put (fun _ => 0) p.1 a z.ii, iq := Store.put (fun _ => 0) p.1 b z.iq }).setPair
      (Adr.ZCOR_IIL0 k + 16 * p.1) a).setPair (Adr.ZCOR_IQL0 k + 16 * p.1) b) s

/-- One streaming cycle of a running block (R396 to R398). -/
def State.zCycle (s : State) (k : Nat) : State :=
  if s.zState k ≠ 1 then s
  else
    let n := s.fld (Adr.ZCOR_ZN k) 16 0
    let ph := s.zPhases k n
    let t := match s.zCurrent k with
      | none => s.bump (Adr.ZCOR_ZSTAT k) 31 16
      | some i =>
        let u := s.zAmps k i ph
        (s.ringEnabled k).foldl (fun v a =>
          v.each ((List.range 16).filter fun ch => decide (ch < (s.ringNode k a).ncell) && !isTemp (s.ringNode k a) ch)
            fun v ch => v.zCell k a ch ph) u
    let t1 := t.setReg (Adr.ZCOR_ZN k) (w32 (n + 1))
    if n + 1 < 2 ^ s.zB k then t1
    else (t1.setFld (Adr.ZCOR_ZSTAT k) 1 0 (if s.flag (Adr.ZCOR_ZCFG k) 30 then 3 else 2)).raise Pg.ZCOR k

/-- The COPY ends: 512 KiB and the current accumulators at ZDST; the next block begins (R398). -/
def State.zCopied (s : State) (k : Nat) : State :=
  if s.zState k ≠ 3 then s
  else
    let dst := (s.reg (Adr.ZCOR_ZDST k)).toNat
    let cells := s.mem.filter fun e => decide (zRam k ≤ e.1) && decide (e.1 < zRam k + 0x80000)
    let amps := (List.range 32).flatMap fun i => wordBytes (s.reg (Adr.ZCOR_IIL0 k + 4 * i))
    let t := if inSram dst (0x80000 + 128) then
        (cells.foldl (fun u e => u.putByte (dst + (e.1 - zRam k)) e.2) (s.clearMem dst 0x80000)).putBytes (dst + 0x80000) amps
      else s
    t.zBegin k

/-! ### The frame's return and the lanes (R388, R393) -/

/-- The STREAM frame returns: areas, the record, SSTAT, the summary and the correlator. [DEDUCED, assumption 58] -/
def State.ringReceive (s : State) (k : Nat) (areas : List RingArea) (aborted : Bool) : State :=
  if s.ringState k ≠ 6 ∨ !(s.ring k).sent then s
  else
    let buf := 1 - s.fld (Adr.EFR_SSTAT k) 0 0
    let base := (s.reg (Adr.EFR_DBASE k)).toNat + buf * 0x3000
    let s0 := if inSram base 0x3000 then s.clearMem base 0x3000 else s
    let s1 := s0.when aborted fun t => t.bump (Adr.EFR_ERRCNT k) 31 16
    let s2 := s1.each (s.ringEnabled k) fun t a => t.ringTake k areas aborted a
    let s3 := ((s2.setReg (Adr.EFR_SSTAT k) (w32 ((s.ring k).cycle % 65536 * 65536 + buf))).raise (Pg.EFR k) 0).took 4608
    ((s3.putRing k { s3.ring k with sent := false }).ringSummary k).zCycle k

/-- A port's receive lane goes down: fold, with what is still reached from each port (R393); a Twin's non-owner leaves LOOPBACK (R438). -/
def State.ringLaneDown (s : State) (k : Nat) (portB : Bool) (reachA reachB : Nat) : State :=
  let bit_ := if portB then 6 else 5
  let t := (s.setFlag (Adr.EFR_STAT k) bit_ false).when (s.flag (Adr.EFR_STAT k) bit_) fun u => u.raise (Pg.EFR k) 4
  if !((decide (3 ≤ s.ringState k) && decide (s.ringState k ≤ 6)) || (s.ring k).loopback) then t
  else
    let u := (t.putRing k { t.ring k with reachA := reachA, reachB := reachB, loopback := false }).setFold k true
    let lost := (s.ring k).nodes.any fun e => decide (reachA ≤ e.1) && decide (e.1 < reachB)
    (u.ringBrk k).when lost fun v => v.fault (Pg.EFR k) 1

/-- A port's receive lane is up; with both up the fold is left. -/
def State.ringLaneUp (s : State) (k : Nat) (portB : Bool) : State :=
  let bit_ := if portB then 6 else 5
  let t := (s.setFlag (Adr.EFR_STAT k) bit_ true).when (!s.flag (Adr.EFR_STAT k) bit_) fun u => u.raise (Pg.EFR k) 4
  if t.flag (Adr.EFR_STAT k) 5 && t.flag (Adr.EFR_STAT k) 6 && t.ringFold k then (t.setFold k false).ringBrk k else t

end Sys2Proof.Machine
end

