-- ==== Sys2Proof/Machine/IcxOps.lean ====
section
/-! DEFINITION. The interconnect (chapter 05): targets, tags, arbitration, locks and the budgets of ports. What an access does at its target
stands in Machine/Bus.lean. -/

namespace Sys2Proof.Machine

/-! ### Targets and transactions (R95, R96) -/

/-- The target of an address; none outside every range (R19, R95). -/
def targetOf (a : Nat) : Option Nat :=
  if a < 0x10000 then some 0
  else if 0x1000000 ≤ a ∧ a < 0x1100000 then some 15
  else if 0x10000000 ≤ a ∧ a < 0x12000000 then some 10
  else if 0x20000000 ≤ a ∧ a < 0x20400000 then some (1 + (a - 0x20000000) / 0x80000)
  else if 0x28000000 ≤ a ∧ a < 0x28200000 then some 9
  else if 0x30000000 ≤ a ∧ a < 0x30018000 then some 11
  else if 0x40000000 ≤ a ∧ a < 0x40200000 then some (12 + (a - 0x40000000) / 0x100000)
  else if 0x41000000 ≤ a ∧ a < 0x41200000 then some (12 + (a - 0x41000000) / 0x100000)
  else if 0x42000000 ≤ a ∧ a < 0x42200000 then some (12 + (a - 0x42000000) / 0x100000)
  else if 0x50000000 ≤ a ∧ a < 0x50010000 then some 14
  else none

/-- A transaction of R96: an aligned single access, or an aligned burst of 2 to 4 beats; a write carries its bytes. [DESIGN CHOICE, assumption 8] -/
def txnOk (t : Txn) : Bool :=
  let total := t.size * t.beats
  ((t.beats == 1 && [1, 2, 4, 8, 16].contains t.size) || (decide (2 ≤ t.beats) && decide (t.beats ≤ 4) && t.size == 16)) &&
    decide (t.addr.toNat % max total 1 = 0) && (!t.write || t.data.length == total)

/-! ### Stores of the interconnect -/

def icxKey (t p : Nat) : Nat := 12 * t + p
def State.icxQueue (s : State) (t p : Nat) : List Txn := Store.get (fun _ => []) s.icx.queue (icxKey t p)
def State.icxParked (s : State) (t p : Nat) : Bool := Store.get (fun _ => false) s.icx.parked (icxKey t p)
def State.icxHeld (s : State) (t p : Nat) : Bool := Store.get (fun _ => false) s.icx.held (icxKey t p)
def State.icxWait (s : State) (t p : Nat) : Nat := Store.get (fun _ => 0) s.icx.wait (icxKey t p)
def State.icxRanks (s : State) (t : Nat) : List Nat := Store.get (fun _ => List.range 12) s.icx.ranks t
def State.icxGranted (s : State) (t : Nat) : List (Nat × Txn) := Store.get (fun _ => []) s.icx.granted t
def State.icxCharged (s : State) (p : Nat) : Nat := Store.get (fun _ => 0) s.icx.charged p

def State.putQueue (s : State) (t p : Nat) (q : List Txn) : State :=
  s.setIcx { s.icx with queue := Store.put (fun _ => []) (icxKey t p) q s.icx.queue }
def State.putParked (s : State) (t p : Nat) (b : Bool) : State :=
  s.setIcx { s.icx with parked := Store.put (fun _ => false) (icxKey t p) b s.icx.parked }
def State.putHeld (s : State) (t p : Nat) (b : Bool) : State :=
  s.setIcx { s.icx with held := Store.put (fun _ => false) (icxKey t p) b s.icx.held }
def State.putWait (s : State) (t p n : Nat) : State :=
  s.setIcx { s.icx with wait := Store.put (fun _ => 0) (icxKey t p) n s.icx.wait }
def State.putRanks (s : State) (t : Nat) (r : List Nat) : State :=
  s.setIcx { s.icx with ranks := Store.put (fun _ => List.range 12) t r s.icx.ranks }
def State.putGranted (s : State) (t : Nat) (g : List (Nat × Txn)) : State :=
  s.setIcx { s.icx with granted := Store.put (fun _ => []) t g s.icx.granted }
def State.putCharged (s : State) (p n : Nat) : State :=
  s.setIcx { s.icx with charged := Store.put (fun _ => 0) p n s.icx.charged }

/-! ### Tags (R98) -/

/-- Tags that port p holds. -/
def State.icxTags (s : State) (p : Nat) : Nat :=
  (List.range 16).foldl (fun n t => n + (s.icxQueue t p).length + ((s.icxGranted t).filter fun e => e.1 == p).length) 0

/-- Tags in flight. -/
def State.icxInflight (s : State) : Nat := (List.range 12).foldl (fun n p => n + s.icxTags p) 0

/-- Tags taken from the shared pool of 104. -/
def State.icxShared (s : State) : Nat := (List.range 12).foldl (fun n p => n + (s.icxTags p - 2)) 0

/-- TAGSTAT and the QDEPTH fields follow. -/
def State.icxShow (s : State) : State :=
  let t := s.setFld Adr.ICX_TAGSTAT 7 0 s.icxInflight
  t.each (List.range 16) fun u t => u.setFld (Adr.ICX_TGTSTAT t) 3 0 ((List.range 12).filter fun p => u.icxParked t p).length

/-- Port p waits with a request that could not park: it issues nothing (R102). -/
def State.icxStuck (s : State) (p : Nat) : Bool := (List.range 16).any fun t => s.icxHeld t p

/-- A port takes a tag and presents its transaction to target t; without a tag it issues nothing, and TAGFULL is set when the shared pool
is what it lacks (R98). -/
def State.icxIssue (s : State) (p t : Nat) (x : Txn) : State :=
  if s.icxStuck p || decide (16 ≤ s.icxTags p) then s
  else if 2 ≤ s.icxTags p ∧ 104 ≤ s.icxShared then s.raise Pg.ICX 2
  else (s.putQueue t p (s.icxQueue t p ++ [x])).icxShow

/-! ### Locks (R106, R107) -/

/-- The lock of target t is held. -/
def State.lockHeld (s : State) (t : Nat) : Bool := s.flag Adr.ICX_LOCKSTAT t

/-- Its holder. -/
def State.lockPort (s : State) (t : Nat) : Nat := s.fld (Adr.ICX_TGTSTAT t) 11 8

/-- The target is locked by another port than p. -/
def State.lockedOut (s : State) (t p : Nat) : Bool := s.lockHeld t && s.lockPort t != p

/-- A lock ends. -/
def State.lockDrop (s : State) (t : Nat) : State :=
  (s.setFlag Adr.ICX_LOCKSTAT t false).setIcx { s.icx with lock := Store.put (fun _ => 0) (s.lockPort t) 0 s.icx.lock }

/-- It ends at LOCK_MAX. -/
def State.lockExpire (s : State) (t : Nat) : State := if s.lockHeld t then (s.lockDrop t).raise Pg.ICX 1 else s

/-- Port p opens a lock at target t; one it holds elsewhere ends as at LOCK_MAX. -/
def State.lockOpen (s : State) (t p : Nat) : State :=
  let old := Store.get (fun _ => 0) s.icx.lock p
  let s1 := if old ≠ 0 ∧ old ≠ t + 1 then s.lockExpire (old - 1) else s
  let s2 := (s1.setFlag Adr.ICX_LOCKSTAT t true).setFld (Adr.ICX_TGTSTAT t) 11 8 p
  s2.setIcx { s2.icx with lock := Store.put (fun _ => 0) p (t + 1) s2.icx.lock }

/-! ### Budgets of ports (R111) -/

/-- BEATS of port p; 0 is unlimited. -/
def State.icxBudget (s : State) (p : Nat) : Nat := s.fld (Adr.TBU_BUDGET p) 15 0

/-- Port p has beats left in this period. -/
def State.icxEligible (s : State) (p : Nat) : Bool := s.icxBudget p == 0 || decide (s.icxCharged p < s.icxBudget p)

/-- A grant charges its beats; a port that becomes ineligible is marked. -/
def State.icxCharge (s : State) (p n : Nat) : State :=
  let t := s.putCharged p (s.icxCharged p + n)
  if s.icxEligible p && !t.icxEligible p then
    (t.setFlag Adr.TBU_ICXOVR p true).raise Pg.TBU (if p < 4 then 0 else 1)
  else t

/-- A period begins: LAST, debt, PERIOD. -/
def State.icxPeriod (s : State) : State :=
  let debt (p : Nat) : Nat := if s.icxBudget p = 0 then 0 else s.icxCharged p - s.icxBudget p
  let t := s.each (List.range 12) fun u p =>
    (u.setReg (Adr.TBU_USED p) (w32 (min (s.icxCharged p) 65535))).putCharged p (debt p)
  let t1 := (t.setReg Adr.TBU_PERIOD (t.reg Adr.TBU_PERIOD + 1#32)).raise Pg.TBU 7
  t1.when ((List.range 12).any fun p => decide (0 < debt p)) fun u => u.raise Pg.TBU 5

/-! ### Rounds (R100 to R104) -/

/-- Class of port p. -/
def State.icxClass (s : State) (p : Nat) : Nat := s.fld Adr.ICX_CLASS (2 * p + 1) (2 * p)

/-- W of target t. -/
def State.icxLimit (s : State) (t : Nat) : Nat := s.fld (Adr.ICX_WAITLIM t) 7 0

/-- Of two ports the one with the greater measure; the first on a tie. -/
def better (m : Nat → Nat) (a b : Nat) : Nat := if m a < m b then b else a

/-- The port of a list with the greatest measure, the first of equals. -/
def bestBy (m : Nat → Nat) : List Nat → Option Nat
  | [] => none
  | p :: l => some (l.foldl (better m) p)

/-- Ports that take part in a round at target t. -/
def State.icxRound (s : State) (t : Nat) : List Nat := (List.range 12).filter fun p => !(s.icxQueue t p).isEmpty && s.icxEligible p

/-- The winner of a round, and whether it won by its rank: forced first, then class, then rank (R101). [DEDUCED, assumption 39] -/
def State.icxWinner (s : State) (t : Nat) : Option (Nat × Bool) :=
  let l := s.icxRound t
  match bestBy (s.icxWait t) (l.filter fun p => decide (s.icxLimit t ≤ s.icxWait t p)) with
  | some p => some (p, false)
  | none =>
    match bestBy s.icxClass l with
    | none => none
    | some q => ((s.icxRanks t).find? fun p => l.contains p && s.icxClass p == s.icxClass q).map fun p => (p, true)

/-- A port falls to the lowest rank at target t. -/
def State.icxLast (s : State) (t p : Nat) : State := s.putRanks t ((s.icxRanks t).filter (fun q => q != p) ++ [p])

/-- The first request of port p at target t is granted: charged, its slot and wait count cleared. [DEDUCED, assumption 39] -/
def State.icxGrant (s : State) (t p : Nat) : State :=
  match s.icxQueue t p with
  | [] => s
  | x :: rest =>
    let s1 := (((s.putQueue t p rest).putParked t p false).putHeld t p false).putWait t p 0
    (s1.putGranted t (s1.icxGranted t ++ [(p, x)])).icxCharge p x.beats

/-- Losers park while slots are free, the highest wait count first; the others hold their port (R102). -/
def State.icxPark : Nat → State → Nat → State
  | 0, s, _ => s
  | fuel + 1, s, t =>
    let waiting := (List.range 12).filter fun p => !(s.icxQueue t p).isEmpty && decide (0 < s.icxWait t p) && !s.icxParked t p
    let used := ((List.range 12).filter fun p => s.icxParked t p).length
    match bestBy (s.icxWait t) waiting with
    | none => s
    | some p =>
      if used < 8 then State.icxPark fuel ((s.putParked t p true).putHeld t p false) t
      else s.each waiting fun u q => u.putHeld t q true

/-- A round at target t. A locked target grants its holder alone and counts no round (R106). -/
def State.icxArbitrate (s : State) (t : Nat) : State :=
  if s.lockHeld t then (s.icxGrant t (s.lockPort t)).icxShow
  else match s.icxWinner t with
    | none => s
    | some (p, ranked) =>
      let losers := (s.icxRound t).filter fun q => q != p
      let s1 := losers.foldl (fun u q => u.putWait t q (min (u.icxWait t q + 1) 255)) s
      let s2 := s1.icxGrant t p
      let s3 := if ranked then s2.icxLast t p else s2
      (State.icxPark 12 s3 t).icxShow

/-- A write of CLASS: ports whose class changes enter it at the lowest rank, at every target (R104). -/
def State.icxClasses (s : State) (old : Word) : State :=
  s.each (List.range 12) fun u p =>
    if bits old (2 * p + 1) (2 * p) = u.icxClass p then u else u.each (List.range 16) fun v t => v.icxLast t p

/-! ### Answers and resets (R97, R107 to R109) -/

/-- The first granted transaction of target t leaves it: its tag returns, and a FENCE that waits for it ends with the last one. -/
def State.icxAnswer (s : State) (t : Nat) : State :=
  match s.icxGranted t with
  | [] => s
  | (p, _) :: rest =>
    let s1 := (s.putGranted t rest).icxShow
    if p < 4 ∧ s1.icxTags p = 0 then s1.putCore p { s1.core p with fence := false } else s1

/-- An initiator is reset: its lock is broken, its requests are withdrawn, its tags return. [DEDUCED, assumption 39] -/
def State.icxReset (s : State) (p : Nat) : State :=
  let s1 := s.each (List.range 16) fun u t =>
    let broke := u.lockHeld t && u.lockPort t == p
    let u1 := if broke then
        let v := (u.lockDrop t).setFlag Adr.ICX_LOCKSTAT (16 + t) true
        (v.setIcx { v.icx with broken := setBit v.icx.broken t true }).raise Pg.ICX 0
      else u
    let u2 := (((u1.putQueue t p []).putParked t p false).putHeld t p false).putWait t p 0
    u2.putGranted t ((u2.icxGranted t).filter fun e => e.1 != p)
  s1.icxShow

/-- A port's last answer. -/
def State.answer (s : State) (p : Nat) (r : Resp) : State := s.putPort p { s.port p with resp := r }

end Sys2Proof.Machine
end

