-- ==== Sys2Proof/Machine/NetOps.lean ====
section
/-! DEFINITION. The CAN and Ethernet ports and network time (chapter 19). -/

namespace Sys2Proof.Machine

/-! ### Frame rings (R447) -/

/-- A ring of n descriptors at base, and every buffer its descriptors name, lie in SRAM. [DEDUCED, assumption 52] -/
def State.ringInSram (s : State) (base : Word) (n : Nat) : Bool :=
  inSram base.toNat (16 * n) && (List.range n).all fun i => inSram (s.mword (base.toNat + 16 * i + 4)).toNat 1

/-- The rings of a CAN page: base register and number of descriptors, of FIFO 0, FIFO 1 and transmit. -/
def State.canRings (s : State) (n : Nat) : List (Word × Nat) :=
  [(s.reg (Adr.CAN_RXBASE n 0), s.fld (Adr.CAN_RINGLEN n) 7 0 + 1), (s.reg (Adr.CAN_RXBASE n 1), s.fld (Adr.CAN_RINGLEN n) 15 8 + 1),
    (s.reg (Adr.CAN_TXBASE n), s.fld (Adr.CAN_RINGLEN n) 23 16 + 1)]

/-- The rings of an Ethernet page: receive 0 and 1, transmit 0 and 1. -/
def State.ethRings (s : State) (n : Nat) : List (Word × Nat) :=
  [(s.reg (Adr.ETH_RXBASE n 0), s.fld (Adr.ETH_RXLEN n) 15 0 + 1), (s.reg (Adr.ETH_RXBASE n 1), s.fld (Adr.ETH_RXLEN n) 31 16 + 1),
    (s.reg (Adr.ETH_TXBASE n 0), s.fld (Adr.ETH_TXLEN n) 15 0 + 1), (s.reg (Adr.ETH_TXBASE n 1), s.fld (Adr.ETH_TXLEN n) 31 16 + 1)]

/-- Whether every ring and buffer of a network page lies in SRAM. [DEDUCED, assumption 52] -/
def State.ringsInSram (s : State) (l : List (Word × Nat)) : Bool := l.all fun r => s.ringInSram r.1 r.2

/-- Ring k of a list. -/
def ringOf (l : List (Word × Nat)) (k : Nat) : Word × Nat := nthD (0#32, 1) l k

/-- Word 0 of a completed descriptor: DONE, STATUS, filter index, length. -/
def descWord (status filt len : Nat) : Word := w32 (2 ^ 31 + status % 8 * 2 ^ 28 + filt % 64 * 2 ^ 22 + len % 65536)

/-- A descriptor completed: word 0, and the device time in words 2 and 3 (R448). -/
def State.descDone (s : State) (a : Nat) (w : Word) : State :=
  (((s.dmaPut a (wordBytes w)).dmaPut (a + 8) (wordBytes (w32 s.now)))).dmaPut (a + 12) (wordBytes (w32 (s.now / 2 ^ 32)))

/-- A received frame put into the ring's next descriptor, or dropped for want of one (R447, R452): head register, DROP field, buffer bytes. [DEDUCED, assumption 51] -/
def State.netReceive (s : State) (page head errc hi lo : Nat) (r : Word × Nat) (w : Word) (buf : List Byte) : State :=
  let a := r.1.toNat + 16 * (s.reg head).toNat
  if bit (s.mword a) 31 then (s.bump errc hi lo).raise page 2
  else
    (((s.dmaPut (s.mword (a + 4)).toNat buf).descDone a w).setReg head (w32 (((s.reg head).toNat + 1) % r.2))).raise page 0

/-- The transmit descriptor at the head completes: STATUS and the time stamp, DONE set, the head advances (R452). -/
def State.netSent (s : State) (page head : Nat) (r : Word × Nat) : State :=
  let a := r.1.toNat + 16 * (s.reg head).toNat
  ((s.descDone a (setBit (setBits (s.mword a) 30 28 0) 31 true)).setReg head (w32 (((s.reg head).toNat + 1) % r.2))).raise page 1

/-! ### CAN -/

/-- The port takes part on its bus: page on and enabled, not bus-off. -/
def State.canOn (s : State) (n : Nat) : Bool := s.pageOn (Pg.CAN n) && s.pageEn (Pg.CAN n) && !bit s.net.busOff n

/-- Filter k accepts a frame (R450). -/
def State.canAccepts (s : State) (n : Nat) (xtd : Bool) (id : Nat) (k : Nat) : Bool :=
  let f := s.reg (Adr.CAN_FLT n k)
  bit f 31 && bit f 30 == xtd && ((w32 id ^^^ w32 (bits f 28 0)) &&& w32 (bits (s.reg (Adr.CAN_FMASK n k)) 28 0)) == 0#32

/-- The identifier word of a received frame: the identifier in [28:0]; the other bits are not given and stay free (PRESUMED, assumption 20). -/
def State.canIdWord (s : State) (id : Nat) : Word := w32 (id % 2 ^ 29) ||| (s.freeWord &&& 0xE0000000#32)

/-- A frame arrives (R445, R447, R450): remote frames are dropped, FD frames need FDEN. [DEDUCED, assumption 51] -/
def State.canReceive (s : State) (n : Nat) (xtd remote fd : Bool) (id : Nat) (data : List Byte) : State :=
  if !s.canOn n || remote || (fd && !s.flag (Adr.CAN_CFG n) 31) then s
  else match (List.range 32).find? (s.canAccepts n xtd id) with
    | none => s.bump (Adr.CAN_ERRC n) 31 24
    | some k =>
      let f := if s.flag (Adr.CAN_FLT n k) 29 then 1 else 0
      (s.netReceive (Pg.CAN n) (Adr.CAN_RXHEAD n f) (Adr.CAN_ERRC n) 23 16 (ringOf (s.canRings n) f) (descWord 0 k data.length)
        (wordBytes (s.canIdWord id) ++ data)).took 1

/-- A queued frame has been sent; a silent port sends nothing. [DEDUCED, assumption 51] -/
def State.canSent (s : State) (n : Nat) : State :=
  if s.canOn n && !s.flag (Adr.CAN_CFG n) 29 && s.reg (Adr.CAN_TXHEAD n) != s.reg (Adr.CAN_TXTAIL n) then
    s.netSent (Pg.CAN n) (Adr.CAN_TXHEAD n) (ringOf (s.canRings n) 2)
  else s

/-- The error counters reach bus-off: TEC at its ceiling, the port off the bus until it is next enabled. [PRESUMED, assumption 20; DEDUCED, assumption 51] -/
def State.canBusOff (s : State) (n : Nat) : State :=
  if s.canOn n then ((s.setNet { s.net with busOff := setBit s.net.busOff n true }).setFld (Adr.CAN_ERRC n) 7 0 255).raise (Pg.CAN n) 3 else s

/-- A port enabled afresh: on the bus, error counters 0 (R452, PRESUMED, assumption 20). -/
def State.canEnable (s : State) (n : Nat) : State :=
  (s.setNet { s.net with busOff := setBit s.net.busOff n false }).setFld (Adr.CAN_ERRC n) 15 0 0

/-! ### Ethernet -/

/-- The port runs: page on and enabled, not stopped by PLL_NET (R57). -/
def State.ethOn (s : State) (n : Nat) : Bool := s.pageOn (Pg.ETH n) && s.pageEn (Pg.ETH n) && !bit s.net.stopped (4 + n)

/-- The EtherType of a frame, inner to an 802.1Q tag. -/
def etherType (f : List Byte) : Nat :=
  let at_ := fun i => (nthD 0#8 f i).toNat * 256 + (nthD 0#8 f (i + 1)).toNat
  if at_ 12 = 0x8100 then at_ 16 else at_ 12

/-- Filter k accepts a frame (R450). -/
def State.ethAccepts (s : State) (n : Nat) (f : List Byte) (k : Nat) : Bool :=
  let c := s.reg (Adr.ETH_FCTL n k)
  let t := s.reg (Adr.ETH_FTYPE n k)
  bit c 3 && (!bit c 2 || bytesNat (f.take 6) == (s.reg (Adr.ETH_FMACL n k)).toNat + 2 ^ 32 * bits t 15 0)
    && (!bit c 1 || etherType f == bits t 31 16)

/-- A frame arrives: STATUS CRC for a bad check, TRUNC above 1522 bytes (R445, R447, R450). [DEDUCED, assumption 51] -/
def State.ethReceive (s : State) (n : Nat) (f : List Byte) (crcOk : Bool) : State :=
  if !s.ethOn n then s
  else match (List.range 16).find? (s.ethAccepts n f) with
    | none => s.bump (Adr.ETH_ERRC n) 31 16
    | some k =>
      let r := if s.flag (Adr.ETH_FCTL n k) 0 then 1 else 0
      let st := if !crcOk then 1 else if 1522 < f.length then 2 else 0
      let g := f.take 1522
      s.netReceive (Pg.ETH n) (Adr.ETH_RXHEAD n r) (Adr.ETH_ERRC n) 15 0 (ringOf (s.ethRings n) r) (descWord st k g.length) g

/-- The transmit ring the port sends from: ring 0 first (R453). -/
def State.ethSends (s : State) (n : Nat) : Option Nat :=
  [0, 1].find? fun r => s.reg (Adr.ETH_TXHEAD n r) != s.reg (Adr.ETH_TXTAIL n r)

/-- A queued frame has been sent. -/
def State.ethSent (s : State) (n : Nat) : State :=
  if s.ethOn n then match s.ethSends n with
    | some r => s.netSent (Pg.ETH n) (Adr.ETH_TXHEAD n r) (ringOf (s.ethRings n) (2 + r))
    | none => s
  else s

/-- A link goes up or down. -/
def State.ethLink (s : State) (n : Nat) (up : Bool) : State :=
  if bit s.net.link n = up then s else (s.setNet { s.net with link := setBit s.net.link n up }).raise (Pg.ETH n) 3

/-! ### Network time (R449) -/

/-- NT in ns, modulo 2^64: device time × 5/3 × (1 + NTRATE × 2^-40), to the nearest ns, and NTOFS. [DEDUCED, assumption 52] -/
def State.netTime (s : State) : Nat :=
  let num : Int := 5 * (s.now : Int) * (2 ^ 40 + (s.reg (Adr.ETH_NTRATE 0)).toInt)
  (((2 * num + 3 * 2 ^ 40) / (6 * 2 ^ 40) + s.net.ntofs) % (2 ^ 64 : Nat)).toNat

/-- A write of NTOFSH puts the 64-bit offset in force. -/
def State.netOffset (s : State) : State :=
  s.setNet { s.net with ntofs := (s.reg (Adr.ETH_NTOFSL 0)).toNat + 2 ^ 32 * (s.reg (Adr.ETH_NTOFSH 0)).toNat }

/-- NTNOWL read by a port: its latch takes the high word. -/
def State.netNowRead (s : State) (p : Nat) : State := s.putPort p { s.port p with ntH := w32 (s.netTime / 2 ^ 32) }

/-- The wake filter is copied into the CAN0 transceiver (R451). -/
def State.wakeCopy (s : State) : State :=
  s.setNet { s.net with wake := [s.reg (Adr.CAN_WUF 0), s.reg (Adr.CAN_WUFMASK 0), s.reg (Adr.CAN_WUFDATA 0 0), s.reg (Adr.CAN_WUFDATA 0 1),
    s.reg (Adr.CAN_NBT 0)] }

end Sys2Proof.Machine
end

