-- ==== Sys2Proof/Machine/ShroudOps.lean ====
section
/-! DEFINITION. Shroud's two channels (chapter 07): inputs, speed classes, safety functions, selections, paths A and B, cross-comparison,
lock-out and reset. -/

namespace Sys2Proof.Machine

/-- The personality is STORE (R442). -/
def State.isStore (s : State) : Bool := s.pwr.store

/-! ### Safety inputs (R149 to R151) -/

/-- The level of channel A (false) or B of SINi. -/
def State.sinLevel (s : State) (i : Nat) (b : Bool) : Level := Store.get (fun _ => .low) s.shroud.pins (2 * i + b.toNat)

/-- A level demands: the level DEMLOW names, and the band in both settings. -/
def levelDemands (demLow : Bool) : Level → Bool
  | .band => true
  | .low => demLow
  | .high => !demLow

/-- A channel of an input shows demand. -/
def State.sinShows (s : State) (i : Nat) (b : Bool) : Bool := levelDemands (s.flag (Adr.SHRD_SINCFG i) 0) (s.sinLevel i b)

/-- SINSTAT: a latched discrepancy counts as demand. -/
def State.sinShow (s : State) : State :=
  let h := s.shroud
  s.setReg Adr.SHRD_SINSTAT (w32 (maskOf 26 fun k =>
    if k < 8 then bit h.demand k || bit h.disc k
    else if k < 16 then bit h.disc (k - 8)
    else if k < 24 then s.sinLevel (k - 16) false == .band || s.sinLevel (k - 16) true == .band
    else if k = 24 then bit s.pins.safeReset 1 else bit s.pins.safeReset 0))

/-- A level on one channel of an input. -/
def State.sinChange (s : State) (i : Nat) (b : Bool) (l : Level) : State :=
  (s.setShroud { s.shroud with pins := Store.put (fun _ => .low) (2 * i + b.toNat) l s.shroud.pins }).sinShow

/-- The filter time has passed: demand while either channel shows it, none once both show none (R150). [DESIGN CHOICE, assumption 5] -/
def State.sinFilter (s : State) (i : Nat) : State :=
  (s.setShroud { s.shroud with demand := setBit s.shroud.demand i (s.sinShows i false || s.sinShows i true) }).sinShow

/-- The discrepancy time has passed with the channels different (R151). -/
def State.sinDiffer (s : State) (i : Nat) : State :=
  if s.sinShows i false != s.sinShows i true && !bit s.shroud.disc i then
    ((s.setShroud { s.shroud with disc := setBit s.shroud.disc i true }).sinShow).raise Pg.SHRD 3
  else s

/-! ### Speed (R152, R268) -/

/-- Speed of TWLg as Shroud A reads it, in 1/32768 rpm; none is UNKNOWN. -/
def State.speedA (s : State) (g : Nat) : Option Nat :=
  if !s.twlRuns g || s.tw g TwlStat.uncertain || s.tw g 11 then none else some (s.live (0xB1 + 4 * g) s.now).value.toInt.natAbs

/-- Speed of TWgA as Shroud B measures it: the newest period between rising edges, over the reference gap; 0 after 100 ms without one. [DEDUCED, assumption 43] -/
def State.speedB (s : State) (g : Nat) : Option Nat :=
  if 400 ≤ (s.twl g).bQuiet then some 0
  else
    let pitch := s.fld (Adr.TWL_WHEEL g) 7 0
    let speed (iv pitches : Nat) : Option Nat :=
      if pitch * iv = 0 then none else some (60 * 600000000 * 32768 * pitches / (pitch * iv))
    match (s.twl g).bRises with
    | t0 :: t1 :: t2 :: _ =>
      let gap := !s.flag (Adr.TWL_CFG g) 2 && decide (s.fld (Adr.TWL_CFG g) 31 24 * (t1 - t2) < 10 * (t0 - t1))
      let back := !s.flag (Adr.TWL_CFG g) 2 && decide (s.fld (Adr.TWL_CFG g) 31 24 * (t0 - t1) < 10 * (t1 - t2))
      if gap || back || Config.patternOk (t0 - t1) (t1 - t2) then
        speed (t0 - t1) (if gap then s.fld (Adr.TWL_WHEEL g) 9 8 + 1 else 1)
      else none
    | [t0, t1] => speed (t0 - t1) 1
    | _ => none

/-- The speed a channel uses: B for true. -/
def State.chanSpeed (s : State) (b : Bool) (g : Nat) : Option Nat := if b then s.speedB g else s.speedA g

/-- The class of a speed under thresholds NX and HYS in rpm; inside the band it is unchanged. [DEDUCED, assumption 40] -/
def speedClass (nx hys : Nat) (old : Speed) : Option Nat → Speed
  | none => .unknown
  | some v => if nx * 32768 ≤ v then .high else if v < (nx - hys) * 32768 then .low else old

/-- Thresholds of TWLg: GCFG for G1 and G2, NSTILL for the vehicle. [DEDUCED, assumption 41] -/
def State.classLimits (s : State) (g : Nat) : Nat × Nat :=
  if g < 2 then (s.fld (Adr.SHRD_GCFG g) 15 0, s.fld (Adr.SHRD_GCFG g) 27 16) else (s.fld Adr.SHRD_NSTILL 15 0, 0)

/-- A vehicle speed at or above a threshold in rpm; an unknown one counts as such. [DEDUCED, assumption 40] -/
def State.vehicleAt (s : State) (b : Bool) (rpm : Nat) : Bool := match s.chanSpeed b 2 with
  | none => true
  | some v => decide (rpm * 32768 ≤ v)

/-! ### Channels -/

/-- Channel A or B. -/
def State.chanOf (s : State) (b : Bool) : Channel := if b then s.shroud.b else s.shroud.a

/-- A channel replaced. -/
def State.putChannel (s : State) (b : Bool) (c : Channel) : State :=
  s.setShroud (if b then { s.shroud with b := c } else { s.shroud with a := c })

/-- A group's decision in a channel. -/
def Channel.dec (c : Channel) (g : Nat) : GroupDec := Store.get (fun _ => GroupDec.reset) c.groups g

/-- A group's decision replaced. -/
def Channel.putDec (c : Channel) (g : Nat) (d : GroupDec) : Channel :=
  { c with groups := Store.put (fun _ => GroupDec.reset) g d c.groups }

/-- A class in a channel: UNKNOWN before the first cycle. -/
def Channel.clsOf (c : Channel) (g : Nat) : Speed := Store.get (fun _ => Speed.unknown) c.cls g

/-- Some fault latch of the group's channels on low sides (odd positions) or high sides. -/
def State.latchedSide (s : State) (g : Nat) (high : Bool) : Bool :=
  (List.range (groupSize g)).any fun k => s.flag (Adr.GGRP_GSTAT g) (16 + k) && (k % 2 == 0) == high

/-- The input image as it stands, with the momentary demands this channel has not looked at yet (R144). -/
def State.shroudImage (s : State) (b : Bool) : Image where
  sin := s.shroud.demand ||| s.shroud.disc
  disc := s.shroud.disc
  trips := w32 (maskOf 32 fun k => s.cmpState k == 2) ||| (if b then s.shroud.cmpsB else s.shroud.cmpsA)
  marks := w32 (maskOf 32 fun k => (s.cmp k).mark)
  gates := w32 (maskOf 12 fun k => s.pageMarked (Pg.GGRP (k / 2)) && s.latchedSide (k / 2) (k % 2 == 1))
  pairs := w32 (s.fld (Adr.PAIR_STAT 0) 1 0 + 4 * s.fld (Adr.PAIR_STAT 1) 1 0 + 16 * (s.pair 0).wire.toNat + 32 * (s.pair 1).wire.toNat
    + (List.range 6).foldl (fun n g => n + s.owner (Pg.GGRP g) * 2 ^ (6 + 2 * g) + (s.pageMarked (Pg.GGRP g)).toNat * 2 ^ (18 + g)) 0)
  ctx := w32 (maskOf 32 fun c => decide (s.fld Adr.SHRD_MISC 7 4 ≤ Store.get (fun _ => 0) s.shroud.overruns c))
    ||| (if b then s.shroud.oversB else s.shroud.oversA)
  ctxTrip := s.shroud.trips ||| (if b then s.shroud.tripsB else s.shroud.tripsA)
  misc := w32 (s.shroud.clock.toNat + 2 * s.shroud.supply.toNat + 4 * s.shroud.connector.toNat
    + 256 * bits (if b then s.shroud.twinB else s.shroud.twinA) 5 0)
    ||| (if s.flag Adr.SHRD_TWX 31 then w32 (256 * bits s.twin.dem 5 0) ||| (if s.twin.lost then w32 (256 * s.fld Adr.SHRD_TWX 13 8) else 0#32)
         else 0#32)

/-- Owner of group g's page in an image. -/
def Image.owner (m : Image) (g : Nat) : Nat := bits m.pairs (7 + 2 * g) (6 + 2 * g)

/-- Mode of the pair that owns group g; none when no pair does (R160). -/
def Image.mode (m : Image) (g : Nat) : Option Nat :=
  match m.owner g with
  | 1 => some (bits m.pairs 1 0)
  | 2 => some (bits m.pairs 3 2)
  | _ => none

/-- The mismatch wire of the pair that owns group g. -/
def Image.wire (m : Image) (g : Nat) : Bool :=
  match m.owner g with
  | 1 => bit m.pairs 4
  | 2 => bit m.pairs 5
  | _ => false

/-- Group g is safety-marked. -/
def Image.marked (m : Image) (g : Nat) : Bool := bit m.pairs (18 + g)

/-! ### Safety functions (R153, R160, R251) -/

/-- One latching demand: function index k (SF(k + 1)) and cause. -/
abbrev Demand := Nat × Nat

/-- Demands of input i on group g. -/
def State.sinDemands (s : State) (m : Image) (veh : Bool) (g i : Nat) : List Demand :=
  if !bit m.sin i then []
  else
    let cfg := s.reg (Adr.SHRD_SINCFG i)
    let cause := if bit m.disc i then 2 else 1
    let on := bit cfg (16 + g)
    let trac := decide (g < 2) && !s.isStore
    (if bit cfg 24 && on && (decide (2 ≤ g) || trac) then [(0, cause)] else [])
      ++ (if (trac && on && bit cfg 25) || (trac && bit cfg 26 && veh) then [(1, cause)] else [])
      ++ (if trac && on && bit cfg 28 then [(4, cause)] else [])
      ++ (if 2 ≤ g ∧ bit cfg 31 then [(7, cause)] else [])

/-- A comparator's input to Shroud: TRIPPED and not settling, or settling (R213). -/
def Image.cmpTrip (m : Image) (k : Nat) (settling : Bool) : Bool := bit m.trips k && bit m.marks k == settling

/-- Group g is acted on by a comparator of CMPMASK. -/
def State.maskTrip (s : State) (m : Image) (g : Nat) (settling : Bool) : Bool :=
  s.flag Adr.SHRD_CMPGRP g && (List.range 32).any fun k => s.flag Adr.SHRD_CMPMASK k && m.cmpTrip k settling

/-- Group g is acted on by the comparator of SF4: G1 to G5, without G1 and G2 in STORE. -/
def State.sf4Trip (s : State) (m : Image) (g : Nat) (settling : Bool) : Bool :=
  s.flag Adr.SHRD_CMPSF4 5 && decide (g < 5) && (!s.isStore || decide (2 ≤ g)) && m.cmpTrip (s.fld Adr.SHRD_CMPSF4 4 0) settling

/-- A context mapped to group g is set in a word. -/
def State.ctxHit (s : State) (w : Word) (g : Nat) (sf6 : Bool) : Bool :=
  (List.range 32).any fun c => bit w c && s.fld (Adr.SHRD_CTXMAP c) 2 0 == g && (!sf6 || s.flag (Adr.SHRD_CTXMAP c) 3)

/-- Every latching demand on group g in a channel, in the order in which the first one gives the cause. [DEDUCED, assumption 41] -/
def State.demands (s : State) (c : Channel) (m : Image) (veh : Bool) (g : Nat) : List Demand :=
  ((List.range 8).flatMap fun i => s.sinDemands m veh g i)
    ++ (if bit m.misc 2 && veh && decide (g < 2) && !s.isStore then [(1, 1)] else [])
    ++ (if s.maskTrip m g false then [(0, 3)] else []) ++ (if s.sf4Trip m g false then [(3, 3)] else [])
    ++ (if bit m.gates (2 * g) || bit m.gates (2 * g + 1) then [(0, 4)] else [])
    ++ (if m.mode g == some 3 || m.wire g then [(0, 5)] else [])
    ++ (if m.mode g == some 2 && m.marked g && s.flag Adr.SHRD_MISC 0 then [(0, 6)] else [])
    ++ (if s.ctxHit m.ctx g false then [(0, 7)] else []) ++ (if s.ctxHit m.ctxTrip g true then [(0, 8)] else [])
    ++ (if bit m.misc 0 then [(0, 10)] else []) ++ (if bit m.misc 1 then [(0, 11)] else [])
    ++ (if c.state = 3 then [(0, 12)] else []) ++ (if bit m.misc (8 + g) then [(0, 13)] else [])

/-- Group g is held without lock-out: settling comparators, SF3 at standstill, a SPLIT owner of a safety-marked group (R153, R160, R213). [DEDUCED, assumption 41] -/
def State.holds (s : State) (m : Image) (veh : Bool) (g : Nat) : Bool :=
  s.maskTrip m g true || s.sf4Trip m g true || (m.mode g == some 0 && m.marked g)
    || (decide (g < 2) && !s.isStore && !veh
        && (bit m.misc 2 || (List.range 8).any fun i => bit m.sin i && s.flag (Adr.SHRD_SINCFG i) 26))

/-- G1 and G2 stay in STO: in STORE and in COMMISSION (R148, R442). -/
def State.forcedSto (s : State) (state g : Nat) : Bool := decide (g < 2) && (s.isStore || state == 2)

/-- SS1 monitoring of a group whose speed is v: SF1 follows above the line, below NSTILL, at an unknown speed and after SS1TMAX (R153). -/
def State.ss1Ends (s : State) (n0 t0 : Nat) : Option Nat → Bool
  | none => true
  | some v =>
    let t := s.now - t0
    decide ((100 * n0 + 5 * n0) * 600000000 < 100 * v * 600000000 + 100 * s.fld Adr.SHRD_SS1DEC 15 0 * 32768 * t)
      || decide (v < s.fld Adr.SHRD_NSTILL 15 0 * 32768) || decide (s.fld Adr.SHRD_SS1TMAX 11 0 * 6000000 ≤ t)

/-- The selection of a group (R153, R154, R158, R159). [DEDUCED, assumption 42] -/
def State.selection (s : State) (c : Channel) (m : Image) (hold : Bool) (g : Nat) (d : GroupDec) : Gst :=
  if (c.state == 1 || c.state == 2) && !hold && !s.forcedSto c.state g && (d.fns == 0 || (d.fns == 2 && d.ss1.isSome)) then
    if d.fns = 0 then .run else .ss1
  else if 2 ≤ g ∨ d.latchL ∨ s.forcedSto c.state g then .l
  else if d.fns.testBit 4 || bit s.shroud.classDiff g || c.clsOf g != .low then (if bit m.gates (2 * g) then .xh else .x)
  else .l

/-- One group in one channel: functions, SS1, the latched L and the selection. -/
def State.decide_ (s : State) (b : Bool) (c : Channel) (m : Image) (g : Nat) : GroupDec :=
  let d := c.dec g
  let veh := s.vehicleAt b (s.fld Adr.SHRD_NSTILL 15 0)
  let fns := (s.demands c m veh g).foldl (fun n e => n ||| 2 ^ e.1) d.fns
  let v := s.chanSpeed b g
  let ss1 := if fns.testBit 0 || !fns.testBit 1 then none
    else match d.ss1 with
      | some x => some x
      | none => some (v.getD 0, s.now)
  let ends := match ss1 with
    | some (n0, t0) => s.ss1Ends n0 t0 v
    | none => false
  let e : GroupDec := { d with fns := if ends then fns ||| 1 else fns, ss1 := if ends then none else ss1,
                               latchL := d.latchL || (bit m.gates (2 * g) && bit m.gates (2 * g + 1)) }
  { e with gst := s.selection c m (s.holds m veh g) g e }

/-- The cause a group's lock-out is recorded with: its first demand, else the SS1 line (R166). [DEDUCED, assumption 42] -/
def State.causeOf (s : State) (b : Bool) (c : Channel) (m : Image) (g : Nat) : Nat :=
  match s.demands c m (s.vehicleAt b (s.fld Adr.SHRD_NSTILL 15 0)) g with
  | e :: _ => e.2
  | [] => 9

/-! ### What the decisions show -/

/-- Group g is locked out in either channel. -/
def State.lockedOutGroup (s : State) (g : Nat) : Bool := (s.shroud.a.dec g).fns != 0 || (s.shroud.b.dec g).fns != 0

/-- GST of a group (R165). -/
def State.gstOf (s : State) (g : Nat) : Nat :=
  let a := (s.shroud.a.dec g).gst
  let b := (s.shroud.b.dec g).gst
  if a = .run ∧ b = .run then 1
  else if pathRuns a && pathRuns b then 6
  else if bit s.shroud.cut g || s.forcedSto s.shroud.a.state g then 5
  else if !s.lockedOutGroup g then 0
  else match if pathRuns a then b else a with
    | .x => 2
    | .xh => 3
    | .l => 4
    | .held | .run | .sto | .ss1 => 0

/-- Code of a class in SPEED (R164). -/
def Speed.code : Speed → Nat
  | .low => 0
  | .high => 1
  | .unknown => 3

/-- GSTAT and SPEED. -/
def State.shroudShow (s : State) : State :=
  let st := (List.range 6).foldl (fun n g => n + (s.gstOf g + 8 * (s.lockedOutGroup g).toNat) * 16 ^ g) 0
  let sp := (List.range 3).foldl (fun n g => n + (s.shroud.a.clsOf g).code * 4 ^ g + (s.shroud.b.clsOf g).code * 256 * 4 ^ g) 0
  (s.setReg Adr.SHRD_GSTAT (w32 st)).setReg Adr.SHRD_SPEED (w32 sp)

/-- The contactor-disable and engage-inhibit lines (SF7, SF8). -/
def State.shroudLines (s : State) : State :=
  let sf8 := (List.range 6).any fun g => (s.shroud.a.dec g).fns.testBit 7 || (s.shroud.b.dec g).fns.testBit 7
  let park := !s.isStore && (s.shroud.a.park || s.shroud.b.park)
  s.setShroud { s.shroud with ctrLine := sf8, inhibit := if park then oneBit (s.fld Adr.SHRD_PLKCFG 17 16) else 0#32 }

/-- Group g's island supplies cut or restored (R157). -/
def State.cutGroup (s : State) (g : Nat) (cut : Bool) : State :=
  if bit s.shroud.cut g = cut then s
  else
    let t := s.setShroud { s.shroud with cut := setBit s.shroud.cut g cut }
    if s.domOn (islandDom g) then t.groupSupply g (!cut) else t

/-- Supplies that a selection of X or XH, or a release, gives back. [DEDUCED, assumption 42] -/
def State.restoreGroup (s : State) (g : Nat) : State :=
  if bit s.shroud.cut g && !(s.forcedSto s.shroud.a.state g)
      && !((s.shroud.a.dec g).gst == .l && (s.shroud.b.dec g).gst == .l && s.lockedOutGroup g)
  then s.cutGroup g false else s

/-- Path A follows channel A's selections: outputs, and the blocks that a group's leaving RUN stops (R155, R232). -/
def State.pathAll (s : State) : State :=
  let t := s.each (List.range 6) fun t g =>
    let sel := (t.shroud.a.dec g).gst
    let u := t.when (sel == .xh && (t.group g).pathA != .xh) fun u => u.raise Pg.SHRD 4
    (u.putGroup g { u.group g with pathA := sel }).restoreGroup g
  ((t.refreshGroups.refreshSrd).dcdcShroud).obcShroud

/-- A function that newly acts on group g in a channel: EV240, and the first cause since lock-out cleared (R165, R166). -/
def State.noteFns (s : State) (old new : GroupDec) (g cause : Nat) : State :=
  if new.fns = old.fns then s
  else
    (s.when (!s.lockedOutGroup g && s.reg (Adr.SHRD_GCAUSE g) == 0#32) fun t => t.setReg (Adr.SHRD_GCAUSE g) (w32 cause)).raise Pg.SHRD 0

/-- DEBUG_SPLIT begins under DBGTRIP = 0: EV240 only (R160). -/
def State.debugSeen (s : State) (old new : Image) : State :=
  let starts (lo : Nat) : Bool := bits new.pairs (lo + 1) lo == 2 && bits old.pairs (lo + 1) lo != 2
  if !s.flag Adr.SHRD_MISC 0 && (starts 0 || starts 2) then s.raise Pg.SHRD 0 else s

/-- One decision of a channel: image, classes, every group (R143, R152 to R160). -/
def State.channelCycle (s : State) (b : Bool) : State :=
  let m := s.shroudImage b
  let c := s.chanOf b
  let cls := (List.range 3).foldl (fun l g => Store.put (fun _ => Speed.unknown) g
    (speedClass (s.classLimits g).1 (s.classLimits g).2 (c.clsOf g) (s.chanSpeed b g)) l) c.cls
  let c1 : Channel := { c with image := m, cls := cls, park := s.vehicleAt b (s.fld Adr.SHRD_PLKCFG 15 0) }
  let ds := (List.range 6).map fun g => (g, s.decide_ b c1 m g)
  let s1 := ds.foldl (fun t e => t.noteFns (c.dec e.1) e.2 e.1 (s.causeOf b c1 m e.1)) s
  let c2 := ds.foldl (fun k e => k.putDec e.1 e.2) c1
  let s2 := ((s1.putChannel b c2).debugSeen c.image m).when (cls != c.cls) fun t => t.raise Pg.SHRD 6
  s2.setShroud (if b then { s2.shroud with tripsB := 0#32, twinB := 0#32, oversB := 0#32, cmpsB := 0#32 }
    else { s2.shroud with tripsA := 0#32, twinA := 0#32, oversA := 0#32, cmpsA := 0#32 })

/-- Shroud A is powered and clocked (PD2, LP RC). -/
def State.shroudAOn (s : State) : Bool := s.domOn 2

/-- Shroud B runs: not before the first start, its clock halted in sleep (chapter 03). -/
def State.shroudBOn (s : State) : Bool := s.pwr.phase != .dark && s.pwr.phase != .sleep

/-- Shroud A's cycle. -/
def State.cycleA (s : State) : State := if s.shroudAOn then ((s.channelCycle false).shroudLines).pathAll.shroudShow else s

/-- Shroud B's cycle: its own stand-still count, its decisions, the codes its lines carry. [DEDUCED, assumption 43] -/
def State.cycleB (s : State) : State :=
  if s.shroudBOn then
    let t := s.each [0, 1, 2] fun t g => t.putTwl g { t.twl g with bQuiet := min ((t.twl g).bQuiet + 1) 400 }
    ((((t.channelCycle true).shroudLines).each (List.range 6) State.restoreGroup)).shroudShow
  else s

/-- An island decodes its path B line (R155). [DESIGN CHOICE, assumption 44] -/
def pathBOf : LineCode → PathB
  | .run => .run
  | .lowSteady | .undecodable => .x
  | .highSteady => .l
  | .slowSquare => .xh

/-! ### States (R145 to R148) -/

/-- Both channels enter a Shroud state. -/
def State.shroudEnter (s : State) (st : Nat) : State :=
  if s.shroud.a.state = st ∧ s.shroud.b.state = st then s
  else
    let h := s.shroud
    ((s.setShroud { h with a := { h.a with state := st }, b := { h.b with state := st } }).setReg Adr.SHRD_STATE (w32 st)).raise Pg.SHRD 5

/-- SF1 set on a group in both channels with a cause. [DEDUCED, assumption 45] -/
def State.forceSf1 (s : State) (g cause : Nat) : State :=
  let put (c : Channel) : Channel := c.putDec g { c.dec g with fns := (c.dec g).fns ||| 1, ss1 := none }
  if (s.shroud.a.dec g).fns.testBit 0 && (s.shroud.b.dec g).fns.testBit 0 then s
  else
    let t := (s.when (!s.lockedOutGroup g && s.reg (Adr.SHRD_GCAUSE g) == 0#32) fun t => t.setReg (Adr.SHRD_GCAUSE g) (w32 cause)).raise
      Pg.SHRD 0
    t.setShroud { t.shroud with a := put t.shroud.a, b := put t.shroud.b }

/-- Both channels select again from their present images, and both paths follow. -/
def State.reselect (s : State) : State :=
  let pick (b : Bool) (c : Channel) : Channel := (List.range 6).foldl (fun k g =>
    k.putDec g { k.dec g with gst := s.selection k k.image (s.holds k.image (s.vehicleAt b (s.fld Adr.SHRD_NSTILL 15 0)) g) g (k.dec g) }) c
  ((s.setShroud { s.shroud with a := pick false s.shroud.a, b := pick true s.shroud.b }).shroudLines).pathAll.shroudShow

/-- XCMP: FAILSAFE, every group under SF1 (R145). -/
def State.xcmpFault (s : State) : State :=
  if s.shroud.a.state = 3 then s
  else (((s.shroudEnter 3).each (List.range 6) fun t g => t.forceSf1 g 12).raise Pg.SHRD 7).reselect

/-- The decided states of the channels differ (R144). -/
def State.statesDiffer (s : State) : Bool :=
  s.shroud.a.state != s.shroud.b.state || (List.range 6).any fun g =>
    (s.shroud.a.dec g).gst != (s.shroud.b.dec g).gst || ((s.shroud.a.dec g).fns != 0) != ((s.shroud.b.dec g).fns != 0)

/-- One exchange of the channels (R144, R154). -/
def State.exchange (s : State) (missing rcOff : Bool) : State :=
  if !s.shroudAOn || !s.shroudBOn then s
  else if missing then
    let n := s.shroud.missed + 1
    (s.setShroud { s.shroud with missed := n }).when (decide (2 ≤ n) || rcOff) State.xcmpFault
  else
    let di := s.shroud.a.image != s.shroud.b.image
    let ds := s.statesDiffer
    let ni := if di then s.shroud.diffImages + 1 else 0
    let ns := if ds then s.shroud.diffStates + 1 else 0
    let cd := w32 (maskOf 2 fun g => s.shroud.a.clsOf g != s.shroud.b.clsOf g)
    let t := ((s.setShroud { s.shroud with missed := 0, diffImages := ni, diffStates := ns, classDiff := cd }).wrap Adr.SHRD_XSTAT 15 0).when
      (di || ds) fun u => u.bump Adr.SHRD_XSTAT 31 16
    t.when (decide (3 ≤ ni) || decide (2 ≤ ns) || rcOff) State.xcmpFault

/-- The conditions of OPERATE hold (R147). -/
def State.operateReady (s : State) : Bool :=
  s.shroud.a.state == 0 && s.shroudAOn && s.shroudBOn && s.shroud.a.bist && s.shroud.b.bist && s.shroud.cfgLoaded && s.shroud.cfgOk
    && s.shroud.a.image == s.shroud.b.image

/-! ### SS1, final STO, resets -/

/-- SS1TMAX elapses after an SF2 demand: SF1 follows (R153). [DESIGN CHOICE, assumption 5] -/
def State.ss1Timeout (s : State) (g : Nat) : State :=
  if (s.shroud.a.dec g).ss1.isSome || (s.shroud.b.dec g).ss1.isSome then (s.forceSf1 g 9).reselect else s

/-- TFINAL at L under SF1: both channels cut the supplies; never at X or XH (R157). -/
def State.finalSto (s : State) (g : Nat) : State :=
  let at_ (d : GroupDec) : Bool := d.gst == .l && (d.fns.testBit 0 || s.forcedSto s.shroud.a.state g)
  if at_ (s.shroud.a.dec g) && at_ (s.shroud.b.dec g) then (s.cutGroup g true).shroudShow else s

/-- A cause of group g's lock-out is still present (R163). -/
def State.causePresent (s : State) (g : Nat) : Bool :=
  let here (b : Bool) : Bool := !(s.demands (s.chanOf b) (s.shroudImage b) (s.vehicleAt b (s.fld Adr.SHRD_NSTILL 15 0)) g).isEmpty
  here false || here true

/-- Lock-out cleared on a group. -/
def State.clearLockout (s : State) (g : Nat) : State :=
  let put (c : Channel) : Channel := c.putDec g { c.dec g with fns := 0, ss1 := none, latchL := false }
  (s.setShroud { s.shroud with a := put s.shroud.a, b := put s.shroud.b }).setReg (Adr.SHRD_GCAUSE g) 0#32

/-- A valid SAFE_RESET request acts (R151, R162, R163). [DESIGN CHOICE, assumption 44] -/
def State.safeReset (s : State) : State :=
  let disc := (List.range 8).foldl (fun w i => if s.sinShows i false = s.sinShows i true then setBit w i false else w) s.shroud.disc
  let s0 := (s.setShroud { s.shroud with disc := disc }).sinShow
  let locked := (List.range 6).filter s0.lockedOutGroup
  let ok := locked.filter fun g => !s0.causePresent g
  let s1 := s0.each ok State.clearLockout
  (((s1.when (!ok.isEmpty) fun t => t.raise Pg.SHRD 1).when (ok.length != locked.length) fun t => t.raise Pg.SHRD 2)).shroudShow

/-- A pulse is a valid request: 100 ms idle, rises within 20 ms, 50 to 2000 ms wide (R162). [DESIGN CHOICE, assumption 44] -/
def resetValid (idleMs skewMs widthMs : Nat) : Bool :=
  decide (100 ≤ idleMs) && decide (skewMs ≤ 20) && decide (50 ≤ widthMs) && decide (widthMs ≤ 2000)

/-! ### Configuration and start (R147, R148) -/

/-- Shroud's configuration words as (offset, word). -/
def State.shroudConfig (s : State) : List (Nat × Word) :=
  (configOffsets .shrd 0).map fun o => (o, s.reg (Pg.SHRD * 4096 + o))

/-- A stored configuration loaded into the page; offsets that are no configuration register are left out. -/
def State.loadConfig (s : State) (l : List (Nat × Word)) : State :=
  l.foldl (fun t e => if (configOffsets .shrd 0).contains e.1 then t.setReg (Pg.SHRD * 4096 + e.1) e.2 else t) s

/-- Entry into COMMISSION is refused: 1 not in OPERATE, 2 traction not in STO, 3 vehicle speed (R148). [DEDUCED, assumption 70] -/
def State.commissionRefusal (s : State) : Nat :=
  if s.shroud.a.state ≠ 1 then 1
  else if s.isStore then 0
  else if !(bit s.shroud.cut 0 && bit s.shroud.cut 1) then 2
  else if s.vehicleAt false (s.fld Adr.SHRD_PLKCFG 15 0) || s.vehicleAt true (s.fld Adr.SHRD_PLKCFG 15 0) then 3
  else 0

/-- COMMISSION left: the configuration is stored and reloaded; INIT until it has been compared. -/
def State.commissionLeave (s : State) : State :=
  let t := s.setKept { s.kept with config := some s.shroudConfig }
  ((t.setShroud { t.shroud with cfgOk := true, cfgLoaded := true }).shroudEnter 0).reselect

end Sys2Proof.Machine
end

