-- ==== Sys2Proof/Machine/TwinOps.lean ====
section
/-! DEFINITION. The Twin link: safety frames, heartbeat, offset, ring tokens and forwarded summaries (chapter 18). -/

namespace Sys2Proof.Machine

/-- TWIN.STAT.STATE: 0 OFF, 1 TRAIN, 2 UP, 3 LOST, 4 MISMATCH. -/
def State.twinState (s : State) : Nat := s.fld Adr.TWIN_STAT 2 0

/-- The state changes: PEVT.LINK (R440). -/
def State.twinEnter (s : State) (st : Nat) : State :=
  if s.twinState = st then s else (s.setFld Adr.TWIN_STAT 2 0 st).raise Pg.TWIN 0

/-- The link has trained: frames go both ways. [DEDUCED, assumption 49] -/
def State.twinLinked (s : State) : Bool := decide (2 ≤ s.twinState) && s.pageOn Pg.TWIN

/-- Ring k is owned here. -/
def State.twinOwns (s : State) (k : Nat) : Bool := s.flag Adr.TWIN_STAT (8 + k)

/-- The role is B. -/
def State.twinRoleB (s : State) : Bool := s.flag Adr.TWIN_CFG 0

/-! ### Start and stop -/

/-- RUN is set on an enabled page: training; the rings are owned as RINGA and ROLE say (R428, R434). -/
def State.twinRun (s : State) : State :=
  if s.pageEn Pg.TWIN ∧ s.twinState = 0 ∧ s.flag Adr.SYS_CLKSTAT 4 then
    let own := maskOf 4 fun k => s.flag Adr.TWIN_CFG (4 + k) != s.twinRoleB
    ((s.setTwin { Twin.reset with seq := s.twin.seq }).setFld Adr.TWIN_STAT 11 8 own).twinEnter 1
  else s

/-- The link stops: RUN or EN cleared, or PLL_NET lost (R57). -/
def State.twinOff (s : State) : State :=
  if s.twinState = 0 then s
  else ((s.setTwin { Twin.reset with seq := s.twin.seq }).setReg Adr.TWIN_STAT (s.reg Adr.TWIN_STAT &&& 7#32)).twinEnter 0

/-- Training completes. -/
def State.twinTrained (s : State) : State := if s.twinState = 1 then (s.orReg Adr.TWIN_STAT 0x30#32).twinEnter 2 else s

/-! ### Frames out (R429, R431) -/

/-- DEM: groups under a latching function that XMAP names, every group in FAILSAFE under FSALL, and the bits of XREQ. -/
def State.twinDem (s : State) : Nat :=
  if !s.flag Adr.SHRD_TWX 31 then 0
  else maskOf 6 fun g => (s.flag Adr.SHRD_TWX g && s.lockedOutGroup g)
    || (s.flag Adr.SHRD_TWX 17 && (s.shroud.a.state == 3 || s.shroud.b.state == 3)) || bit s.twin.xreq g

/-- Bytes 0 to 11 of the frame. [DESIGN CHOICE, assumption 50] -/
def State.twinBody (s : State) : List Byte :=
  [s.twin.seq, BitVec.ofNat 8 (s.isStore.toNat * 128 + s.twinRoleB.toNat * 64 + s.fld Adr.SHRD_STATE 1 0 * 16)]
    ++ (wordBytes (s.reg Adr.SHRD_GSTAT)).take 3 ++ [BitVec.ofNat 8 s.twinDem, 0#8, 0#8] ++ natBytes 4 s.now

/-- A body with its CRC-32, least significant byte first (R81). [DESIGN CHOICE, assumption 50] -/
def twinSealed (body : List Byte) : List Byte := body ++ wordBytes (crc32 body)

/-- The safety frame of this slot leaves. -/
def State.twinSend (s : State) : State :=
  if s.twinLinked then s.setTwin { s.twin with lastSent := twinSealed s.twinBody, seq := s.twin.seq + 1#8 } else s

/-! ### Frames in (R428, R429, R431, R432) -/

/-- Eight bad or missing slots among the last 16 mark a lane down. -/
def laneDown (l : List Bool) : Bool := decide (8 ≤ (l.filter (· == false)).length)

/-- A slot of a lane: good or bad; LANE0OK and LANE1OK follow. -/
def State.laneSlot (s : State) (lane : Nat) (good : Bool) : State :=
  let l := (good :: (if lane = 0 then s.twin.lane0 else s.twin.lane1)).take 16
  (s.setTwin (if lane = 0 then { s.twin with lane0 := l } else { s.twin with lane1 := l })).setFlag Adr.TWIN_STAT (4 + lane) (!laneDown l)

/-- The partner is lost: STATE, PEVT.LOST; its demands of the last valid frame stay in force (R432). -/
def State.twinLose (s : State) (st : Nat) : State :=
  ((s.setTwin { s.twin with lost := true, rxSeq := none, good := 0 }).when (!s.twin.lost) fun t => t.raise Pg.TWIN 1).twinEnter st

/-- A frame that is not valid: counted, and no longer in a row. -/
def State.twinBad (s : State) : State := (s.setTwin { s.twin with good := 0 }).bump Adr.TWIN_HBCNT 31 16

/-- The partner's demands taken over: PDEM, PEVT.XDEM for new ones, and Shroud's wires under TWEN (R431). -/
def State.twinDemands (s : State) (dem : Nat) : State :=
  let fresh := w32 dem &&& ~~~s.twin.dem
  let t := ((s.setTwin { s.twin with dem := w32 dem }).setFld Adr.TWIN_STAT 21 16 dem).when (fresh != 0#32) fun u => u.raise Pg.TWIN 3
  if s.flag Adr.SHRD_TWX 31 then
    t.setShroud { t.shroud with twinA := t.shroud.twinA ||| w32 dem, twinB := t.shroud.twinB ||| w32 dem }
  else t

/-- A valid frame acts: demands, count, end of a loss after ten in a row, loss on the other personality (R3, R432). -/
def State.twinValid (s : State) (f : List Byte) : State :=
  let good := min (s.twin.good + 1) 10
  let t := ((s.setTwin { s.twin with rxSeq := some (nthD 0#8 f 0), good := good }).wrap Adr.TWIN_HBCNT 15 0).twinDemands
    (bits (w32 (nthD 0#8 f 5).toNat) 5 0)
  if (nthD 0#8 f 1).getLsbD 7 != s.isStore then t.twinLose 4
  else if s.twin.lost && decide (10 ≤ good) then ((t.setTwin { t.twin with lost := false }).raise Pg.TWIN 1).twinEnter 2
  else t

/-- A frame arrives on a lane: the second lane's copy of a frame acted on counts for the lane alone (R428). -/
def State.twinReceive (s : State) (f : List Byte) (lane : Nat) : State :=
  if !s.twinLinked then s
  else
    let heard (t : State) : State := t.setTwin { t.twin with heard := setOf t.twin.heard }
    if f.length ≠ 16 ∨ twinSealed (f.take 12) ≠ f then (heard ((s.laneSlot lane false).twinBad))
    else if s.twin.rxSeq = some (nthD 0#8 f 0) ∧ !s.twin.heard.testBit lane then heard (s.laneSlot lane true)
    else
      let missed := if s.twin.rxSeq.isSome then [0, 1].filter fun l => !s.twin.heard.testBit l else []
      let t := (s.each missed fun u l => u.laneSlot l false).laneSlot lane true
      let u := t.setTwin { t.twin with heard := 2 ^ lane }
      match s.twin.rxSeq with
      | none => u.twinValid f
      | some q => if nthD 0#8 f 0 = q + 1#8 then u.twinValid f else u.twinBad
where
  /-- The lane marked as heard in this slot. -/
  setOf (h : Nat) : Nat := h ||| 2 ^ lane

/-- 2 ms without a valid frame (R432). [DESIGN CHOICE, assumption 5; DEDUCED, assumption 49] -/
def State.twinLost (s : State) : State :=
  if s.twinLinked && s.twinState != 4 then s.twinLose 3 else s

/-! ### XREQ and the offset (R430, R431) -/

/-- XREQ written: accepted while FWEN is set. -/
def State.twinXreq (s : State) (groups : Nat) : State :=
  if s.flag Adr.SHRD_TWX 16 then s.setTwin { s.twin with xreq := s.twin.xreq ||| w32 (groups % 64) } else s

/-- 10 ms after a write its bits clear. -/
def State.twinXreqEnd (s : State) (groups : Nat) : State := s.setTwin { s.twin with xreq := s.twin.xreq &&& ~~~w32 (groups % 64) }

/-- TOFS measured by round trip. -/
def State.twinOffset (s : State) (o : Word) : State := if s.twinLinked then s.setReg Adr.TWIN_TOFS o else s

/-! ### Rings (R434 to R439) -/

/-- Ring k's token leaves: the cycle ends, descriptors complete with ABORTED, the port turns frames back. [DEDUCED, assumption 49] -/
def State.twinHand (s : State) (k : Nat) : State :=
  if s.twinLinked && s.twinOwns k then
    let t := s.txAbort k
    let u := (t.putRing k { t.ring k with loopback := true, sent := false }).ringEnter k 0
    ((u.setTwin { u.twin with token := u.twin.token ||| oneBit k }).setFlag Adr.TWIN_STAT (8 + k) false).raise Pg.TWIN 2
  else s

/-- RHAND written. -/
def State.twinHands (s : State) (rings : Nat) : State := s.each ((List.range 4).filter fun k => rings.testBit k) State.twinHand

/-- The token of ring k arrives: owner, out of LOOPBACK, streaming from the next cycle (R437). -/
def State.twinToken (s : State) (k : Nat) : State :=
  if s.twinLinked && !s.twinOwns k then
    let t := ((s.setTwin { s.twin with token := setBit s.twin.token k false }).setFlag Adr.TWIN_STAT (8 + k) true).raise Pg.TWIN 2
    if t.pageEn (Pg.EFR k) && t.flag (Adr.EFR_CTRL k) 0 then
      (t.putRing k { t.ring k with loopback := false, recon := [], sent := false }).ringEnter k 6
    else t.putRing k { t.ring k with loopback := false }
  else s

/-- After the partner's loss and 5 ms of silence a non-owner takes the token and starts the ring (R439). -/
def State.twinTake (s : State) (k : Nat) : State :=
  if s.flag Adr.TWIN_CFG 1 && s.twin.lost && !s.twinOwns k then
    let t := ((s.setFlag Adr.TWIN_STAT (8 + k) true).raise Pg.TWIN 2).putRing k { s.ring k with loopback := false }
    if t.pageEn (Pg.EFR k) && t.flag (Adr.EFR_CTRL k) 0 then t.ringRun k else t
  else s

/-- A forwarded summary: the non-owner publishes it, restamped; the owner of a folded ring merges it (R436, R438). [DEDUCED, assumption 49] -/
def State.twinSummary (s : State) (k : Nat) (ws : List (Word × Bool)) (stamp : Nat) : State :=
  if !s.twinLinked then s
  else
    let t : Nat := (((stamp : Int) - (s.reg Adr.TWIN_TOFS).toInt) % (2 ^ 64 : Nat)).toNat
    let w (j : Nat) : Word × Bool := nthD (0#32, false) ws j
    let own (j : Nat) : Sample := s.word (0xC0 + 4 * k + j)
    let pick (up : Bool) (j : Nat) : Word :=
      if !(own j).valid then (w j).1 else if !(w j).2 then (own j).value
      else if ((own j).value.toInt < (w j).1.toInt) == up then (w j).1 else (own j).value
    if !s.twinOwns k then s.each [0, 1, 2, 3] fun u j => u.putSample (0xC0 + 4 * k + j) ⟨(w j).1, (w j).2, t⟩
    else if s.ringFold k then
      s.each [0, 1, 2] fun u j => u.putSample (0xC0 + 4 * k + j) ⟨pick (j != 0) j, (own j).valid && (w j).2, (own j).time⟩
    else s

end Sys2Proof.Machine
end

