-- ==== Sys2Proof/Machine/RouterOps.lean ====
section
/-! DEFINITION. The event router (chapter 04): deliveries, interrupt lines, capture units, latches of reading ports and the record channel. -/

namespace Sys2Proof.Machine

/-! ### Interrupt lines (R91) -/

/-- MODE of a pair: 0 SPLIT, 1 LOCKED, 2 DEBUG_SPLIT, 3 FAULTED (R142). -/
def State.pairMode (s : State) (n : Nat) : Nat := s.fld (Adr.PAIR_STAT n) 1 0

/-- Sources pending in EVRn, in order. -/
def State.pendingSources (s : State) (n : Nat) : List Nat :=
  (List.range 8).flatMap fun k =>
    let w := s.reg (Adr.EVR_SPEND n k)
    if w = 0#32 then [] else ((List.range 32).filter fun b => bit w b).map fun b => 32 * k + b

/-- The line that a pending source asserts on core c (0 main, 1 second) of pair n; none where it is not routed there. -/
def State.routeLine (s : State) (n c e : Nat) : Word :=
  let r := s.reg (Adr.EVR_ROUTE n e)
  if bit r 8 && (bits r 4 4 == c) then oneBit (bits r 3 0) else 0#32

/-- IRQPENDc of EVRn: in a LOCKED pair the second core's reads 0. -/
def State.irqLines (s : State) (n c : Nat) : Word :=
  if c = 1 ∧ s.pairMode n = 1 then 0#32
  else (s.pendingSources n).foldl (fun w e => w ||| s.routeLine n c e) 0#32

/-- IRQPEND0 and IRQPEND1 of both pages show the asserted lines. [DESIGN CHOICE, assumption 72] -/
def State.settleIrq (s : State) : State :=
  (((s.setReg (Adr.EVR_IRQPEND 0 0) (s.irqLines 0 0)).setReg (Adr.EVR_IRQPEND 0 1) (s.irqLines 0 1)).setReg
    (Adr.EVR_IRQPEND 1 0) (s.irqLines 1 0)).setReg (Adr.EVR_IRQPEND 1 1) (s.irqLines 1 1)

/-- The two newest VBAT words are kept for the energy meter (R416). -/
def State.vbatWatch (s : State) : State :=
  let w := s.word 0xA0
  let m := s.gms.meter
  if w = m.vb0 then s else s.setGms { s.gms with meter := { m with vb1 := m.vb0, vb0 := w } }

/-- What follows every command: the correlators and the meter meet newly arrived words (R397, R416), and the interrupt lines settle (R91). [DESIGN CHOICE, assumption 72] -/
def State.settle (s : State) : State := ((s.each [0, 1, 2, 3] State.zWatch).vbatWatch).settleIrq

/-- A meaning's next state. [DESIGN CHOICE, assumption 6; DESIGN CHOICE, assumption 72] -/
def done (s : State) : Res := .next s.settle

/-! ### Capture units (R92, R93) -/

/-- The level word that LSEL names. -/
def State.levelWord (s : State) (lsel : Nat) : Word :=
  match lsel with
  | 1 => w32 (maskOf 32 fun k => s.cmpState k == 2)
  | 2 => s.pins.pins &&& 0xFFFFF#32
  | 3 => w32 (maskOf 14 fun i =>
      if i < 6 then s.fld (Adr.GGRP_GSTAT i) 23 16 != 0 || s.groupLatch i
      else decide (8 ≤ i) && !pathRuns (s.group (i - 8)).pathA)
  | _ => 0#32

/-- A set is taken: FULL, and the capture event. -/
def State.capTake (s : State) (n k t : Nat) (w : Word) : State :=
  (((((s.setReg (Adr.EVR_CAPTL n k) (w32 t)).setReg (Adr.EVR_CAPTH n k) (w32 (t / 2 ^ 32))).setReg (Adr.EVR_CAPV n k) w).setFlag
    (Adr.EVR_CAPSTAT n k) 0 true)).raise (Pg.EVR n) (8 + k)

/-- A capture arrives: taken at once, or held during a freeze; a second one replaces the held one with OVR. -/
def State.capArrive (s : State) (n k : Nat) : State :=
  let c := s.cap (8 * n + k)
  let w := s.levelWord (s.fld (Adr.EVR_CAPCTRL n k) 6 4)
  if c.frozen.isSome then
    ((s.setFlag (Adr.EVR_CAPSTAT n k) 2 true).when c.held.isSome fun t => t.setFlag (Adr.EVR_CAPSTAT n k) 1 true).putCap (8 * n + k)
      { c with held := some (s.now, w) }
  else s.capTake n k s.now w

/-- A freeze ends: a held capture is applied. -/
def State.capThaw (s : State) (n k : Nat) : State :=
  let c := s.cap (8 * n + k)
  let t := (s.putCap (8 * n + k) CapHid.reset).setFlag (Adr.EVR_CAPSTAT n k) 2 false
  match c.held with
  | some (at_, w) => t.capTake n k at_ w
  | none => t

/-- A port of the page's owner (R73, R75). -/
def State.ownerPort (s : State) (p port : Nat) : Bool := s.owner p != 0 && portOwner port == s.owner p

/-- CAPTLk read: an owner port freezes a set that nobody has frozen. -/
def State.capFreeze (s : State) (port n k : Nat) : State :=
  let c := s.cap (8 * n + k)
  if s.ownerPort (Pg.EVR n) port && c.frozen.isNone then s.putCap (8 * n + k) { c with frozen := some port } else s

/-- CAPVk read: the freezing port ends the freeze and clears FULL. -/
def State.capRelease (s : State) (port n k : Nat) : State :=
  if (s.cap (8 * n + k)).frozen = some port then (s.setFlag (Adr.EVR_CAPSTAT n k) 0 false).capThaw n k else s

/-- The freeze has lasted 64 interconnect cycles. -/
def State.capLapse (s : State) (n k : Nat) : State := if (s.cap (8 * n + k)).frozen.isSome then s.capThaw n k else s

/-! ### DTIMEL (R73, R87) -/

/-- DTIMEL read: DTIMEH is latched for the reading port. -/
def State.dtimeRead (s : State) (port n : Nat) : State :=
  let h := w32 (s.now / 2 ^ 32)
  s.putPort port (if n = 0 then { s.port port with dtimeH0 := h } else { s.port port with dtimeH1 := h })

/-- The periodic timer counts (R87). -/
def State.timerRuns (s : State) (n : Nat) : Bool := s.pageEn (Pg.EVR n) && s.flag (Adr.EVR_TMRCTRL n) 0

/-! ### Occurrences (R86, R91, R94) -/

/-- The record channel's entry of a source. -/
def State.record (s : State) (e : Nat) : State :=
  let r := Store.get (fun _ => (0, 0)) s.router.entries e
  let v := if r.2 = 0 then (s.now, 1) else (r.1, min (r.2 + 1) 65535)
  s.setRouter { s.router with entries := Store.put (fun _ => (0, 0)) e v s.router.entries }

/-- Source e pends in both EVR pages. -/
def State.pend (s : State) (e : Nat) : State :=
  (s.setFlag (Adr.EVR_SPEND 0 (e / 32)) (e % 32) true).setFlag (Adr.EVR_SPEND 1 (e / 32)) (e % 32) true

/-- Capture units that select e. -/
def State.capEvent (s : State) (e : Nat) : State :=
  s.each (List.range 16) fun t i =>
    let c := t.reg (Adr.EVR_CAPCTRL (i / 8) (i % 8))
    if bit c 0 && bits c 15 8 == e then t.capArrive (i / 8) (i % 8) else t

/-- The fault capture's trigger: the first one counts, later ones are counted (R413, R415). -/
def State.fcTrigger (s : State) (e : Nat) : State :=
  let fc := s.gms.fc
  let armed := s.flag Adr.MBX_GSTAT 11
  if (armed || s.flag Adr.MBX_GSTAT 12) && (fc.trig.contains e || (fc.shroudTrig && e == 240)) then
    if armed && fc.trigAt.isNone then s.setGms { s.gms with fc := { fc with trigAt := some s.now, trigTick := fc.ticks } }
    else s.setGms { s.gms with fc := { fc with later := fc.later + 1 } }
  else s

/-- An occurrence reaches every destination in the cycle of its stamp. [DEDUCED, assumption 9] -/
def State.occur (s : State) (e : Nat) : State :=
  ((((((((s.pend e).record e).capEvent e).tripSync e).adcTrigger e).sdmTrigger e).trimTrigger e).actTrigger e).fcTrigger e

/-- A pulse that is on its way reaches the router. [DEDUCED, assumption 9] -/
def State.deliver (s : State) (e : Nat) : State :=
  if s.router.pulses.contains e then (s.setRouter { s.router with pulses := s.router.pulses.filter fun x => x != e }).occur e else s

end Sys2Proof.Machine
end

