-- ==== Sys2Proof/Machine/Pages.lean ====
section
/-! DEFINITION. Register pages as wholes: enabling and disabling a block, safe states, soft resets, configuration CRCs and power domains
(R17, R45 to R48, R69 to R71, R81, R82). -/

namespace Sys2Proof.Machine

/-! ### Keys and CRC (R75, R81, R82) -/

/-- The block of a page. -/
def pageBlock (p : Nat) : Option Block := (pageRow p).map fun r => r.blk

/-- A page's key replaced. [DESIGN CHOICE, assumption 17] -/
def State.setKey (s : State) (p : Nat) (k : Key) : State := s.putPage p { s.page p with key := k }

/-- KSTATE. -/
def Key.code : Key → Nat
  | .idle => 0
  | .first _ => 1
  | .armed _ => 2

/-- A word the CRC covers has changed: CRCBUSY until the recomputation completes. -/
def State.crcTouch (s : State) (p : Nat) : State := s.setFlag (Adr.PSTAT p) 31 true

/-- PCRC over the page as it stands. [DESIGN CHOICE, assumption 19] -/
def State.crcNow (s : State) (p : Nat) : Word :=
  match pageRow p with
  | some r => pageCrc r.blk (p - r.page) fun o => s.reg (4096 * p + o)
  | none => 0#32

/-- LOCK of a page. -/
def State.pageLocked (s : State) (p : Nat) : Bool := s.flag (Adr.PCTRL p) 2

/-- PCRC is latched, or will be once CRCBUSY clears. -/
def State.crcLatch (s : State) (p : Nat) : State :=
  if s.flag (Adr.PSTAT p) 31 then s.putPage p { s.page p with due := true }
  else s.putPage p { s.page p with latch := some (s.reg (Adr.PCRC p)), due := false }

/-- The recomputation completes. -/
def State.crcDone (s : State) (p : Nat) : State :=
  if s.flag (Adr.PSTAT p) 31 then
    ((s.setReg (Adr.PCRC p) (s.crcNow p)).setFlag (Adr.PSTAT p) 31 false).when (s.page p).due fun t => t.crcLatch p
  else s

/-! ### Blocks of a page starting, stopping and going safe -/

/-- Comparator, HV sense, gate and driver users that look at a page's enable look again. -/
def State.gatesRefresh (s : State) : State := (s.refreshGroups).refreshSrd

/-- What PCTRL.EN starts in each block. -/
def State.blockStart (s : State) (p : Nat) : State :=
  match pageBlock p with
  | some .pwm => ((s.pwmStart (pageInst p)).sourceCheck).gatesRefresh
  | some .ggrp | some .lvdrv => s.sourceCheck.gatesRefresh
  | some .cmpb => s.cmpPage (pageInst p)
  | some .hvs => s.hvsRefresh
  | some .sdm => s.sdmInvalidate (pageInst p)
  | some .twl => s.twlStart (pageInst p)
  | some .hall => s.each [0, 1, 2] fun t k => if t.flag (Adr.HALL_CFG k) 0 then t.hallStart k else t
  | some .dcdc => s.dcdcEnable
  | some .obc => s.obcEnable
  | some .act => s.actEnable (pageInst p)
  | some .pilot => s.pilotS2.lampRefresh
  | some .ctr => s.ctrOutputs
  | some .can => s.canEnable (pageInst p)
  | some .eth => s.setNet { s.net with stopped := setBit s.net.stopped (4 + pageInst p) false }
  | some .efr => if s.flag (Adr.EFR_CTRL (pageInst p)) 0 then s.ringRun (pageInst p) else s
  | some .twin => if s.flag Adr.TWIN_CTRL 0 then s.twinRun else s
  | some .sys | some .icx | some .evr | some .tbu | some .pair | some .trim | some .tsch | some .adc | some .hk | some .enc | some .zcor
  | some .shrd | some .mbx | none => s

/-- What clearing PCTRL.EN stops in each block. -/
def State.blockStop (s : State) (p : Nat) : State :=
  match pageBlock p with
  | some .trim => s.engineStop (pageInst p)
  | some .pwm => ((s.pwmStop (pageInst p)).sourceCheck).gatesRefresh
  | some .ggrp | some .lvdrv => s.sourceCheck.gatesRefresh
  | some .adc => s.adcStop (pageInst p)
  | some .sdm => (s.sdmInvalidate (pageInst p)).scdStop (pageInst p)
  | some .cmpb => s.cmpPage (pageInst p)
  | some .hvs => s.hvsRefresh
  | some .twl => s.twlStop (pageInst p)
  | some .efr => s.ringStop (pageInst p)
  | some .zcor => s.each [0, 1, 2, 3] State.zIdle
  | some .dcdc => s.dcdcDisable
  | some .obc => s.obcDisable
  | some .act => s.actDisable (pageInst p)
  | some .pilot => s.pilotS2.lampRefresh
  | some .ctr => s.ctrDrop 0
  | some .twin => s.twinOff
  | some .sys | some .icx | some .evr | some .tbu | some .pair | some .tsch | some .hk | some .hall | some .enc | some .can | some .eth
  | some .shrd | some .mbx | none => s

/-- The safe state of each block, as its chapter defines it; a block whose chapter names none only clears EN and sets SAFE. -/
def State.blockSafe (s : State) (p : Nat) : State :=
  match pageBlock p with
  | some .trim => s.engineStop (pageInst p)
  | some .pwm => s.sourceCheck.gatesRefresh
  | some .ggrp | some .lvdrv => s.sourceCheck.gatesRefresh
  | some .adc => (s.adcStop (pageInst p)).adcInvalidate (pageInst p)
  | some .sdm => s.sdmInvalidate (pageInst p)
  | some .cmpb => s.cmpPage (pageInst p)
  | some .efr => s.txAbort (pageInst p)
  | some .zcor => s.each [0, 1, 2, 3] State.zIdle
  | some .dcdc => s.dcdcSafe
  | some .obc => s.obcSafe
  | some .act => s.actSafe (pageInst p)
  | some .pilot => s.pilotS2.lampRefresh
  | some .ctr => s.ctrSafe
  | some .sys | some .icx | some .evr | some .tbu | some .pair | some .tsch | some .hvs | some .hk | some .twl | some .hall | some .enc
  | some .can | some .eth | some .shrd | some .mbx | some .twin | none => s

/-- A page enters its safe state (R17, R69): EN clears, SAFE is set, an armed key is cancelled (R76). A page whose domain is off has none
to enter. -/
def State.pageSafe (s : State) (p : Nat) : State :=
  if s.pageOn p then
    (((s.setFlag (Adr.PCTRL p) 0 false).setFlag (Adr.PSTAT p) 30 true).setKey p .idle).blockSafe p
  else s

/-- In STORE these pages have EN read-only at 0 (R442). -/
def State.storeHeld (s : State) (p : Nat) : Bool :=
  s.pwr.store && match pageBlock p with
    | some .ggrp => decide (pageInst p < 2)
    | some .twl | some .enc | some .act => true
    | _ => false

/-- Why an allowed write of EN = 1 is still refused with reason FAULTED: CFGCRC or PAIRFLT (R70), a gate group's self-test (R253), or a
network page whose rings are not in SRAM (R447). -/
def State.enableFaulted (s : State) (p : Nat) : Bool :=
  s.flag (Adr.PFAULT p) 31 || s.flag (Adr.PFAULT p) 30 || match pageBlock p with
    | some .ggrp => s.groupEnableBlocked (pageInst p)
    | some .can => !s.ringsInSram (s.canRings (pageInst p))
    | some .eth => !s.ringsInSram (s.ethRings (pageInst p))
    | _ => false

/-- EN is set: SAFE clears and the block starts. -/
def State.enablePage (s : State) (p : Nat) : State :=
  if s.storeHeld p || s.pageEn p then s
  else ((s.setFlag (Adr.PCTRL p) 0 true).setFlag (Adr.PSTAT p) 30 false).blockStart p

/-- EN is cleared by firmware: the block stops. -/
def State.disablePage (s : State) (p : Nat) : State := if s.pageEn p then (s.setFlag (Adr.PCTRL p) 0 false).blockStop p else s

/-! ### Hidden state of a block at its reset -/

/-- What a block keeps beside its registers goes back to reset; latches that hardware outside the page holds stay. [DEDUCED, assumption 28] -/
def State.blockHidden (s : State) (p : Nat) : State :=
  let n := pageInst p
  match pageBlock p with
  | some .evr => s.each (List.range 8) fun t k => t.putCap (8 * n + k) CapHid.reset
  | some .trim => (s.putEngine n Engine.reset).each (List.range 8) fun t i => t.putCtx (8 * n + i) Ctx.reset
  | some .pwm => s.putPwm n { Pwm.reset with gate := (s.pwm n).gate, high := (s.pwm n).high }
  | some .ggrp => s.putGroup n { s.group n with bound := none, clr := false, reduced := false }
  | some .lvdrv => s.setLvdrv { s.lvdrv with bound := none }
  | some .adc => (s.putAdc n AdcSeq.reset).adcInvalidate n
  | some .sdm => s.putSdm n { Sdm.reset with clean := s.now }
  | some .cmpb => s.each [4 * n, 4 * n + 1, 4 * n + 2, 4 * n + 3] fun t k => t.putCmp k { t.cmp k with mark := false, running := false }
  | some .hvs => s.setHvs []
  | some .hk => s.setSensors []
  | some .twl => s.putTwl n { Twl.reset with a := (s.twl n).a, b := (s.twl n).b, bRises := (s.twl n).bRises, bQuiet := (s.twl n).bQuiet }
  | some .hall => s.each [0, 1, 2] fun t k => t.putHall k { Hall.reset with code := (t.hall k).code }
  | some .enc => s.setEncs []
  | some .efr => s.putRing n Ring.reset
  | some .zcor => s.setZcors []
  | some .dcdc => s.setDcdc Dcdc.reset
  | some .obc => s.setObc Obc.reset
  | some .pilot => s.setLamps []
  | some .ctr => s.setCtr Ctr.reset
  | some .act => s.putAct n Act.reset
  | some .can => s.setNet { s.net with busOff := setBit s.net.busOff n false }
  | some .eth =>
    let w := { s.net with stopped := setBit s.net.stopped (4 + n) false }
    s.setNet (if n = 0 then { w with ntofs := 0 } else w)
  | some .twin => s.setTwin { Twin.reset with rxSeq := s.twin.rxSeq, token := s.twin.token }
  | some .sys | some .icx | some .tbu | some .pair | some .tsch | some .shrd | some .mbx | none => s

/-- Registers that show what hardware outside the page holds: a soft reset leaves them. [DEDUCED, assumption 28] -/
def keepsOnSoftReset (b : Block) (off : Nat) : Bool :=
  match b with
  | .sys => decide (off = 0x40) || decide (0x54 ≤ off && off ≤ 0x68) || decide (0x80 ≤ off)
  | .icx => decide (off = 0x44) || decide (off = 0x48) || decide (0xC0 ≤ off)
  | .evr => decide (off = 0x48) || decide (off = 0x4C)
  | .pair => decide (off = 0x40)
  | .ggrp => decide (off = 0x44) || (decide (0x200 ≤ off) && decide (off % 0x100 = 0x20))
  | .shrd => decide (off < 0x80)
  | .hvs => decide (off = 0x44)
  | .pilot => decide (off = 0x48) || decide (off = 0x4C) || decide (off = 0x50)
  | .mbx => true
  | _ => false

/-- PCTRL.SRST (R71). Of a group's GSTAT only the channels' own latches stay (R463). -/
def State.softReset (s : State) (p : Nat) : State :=
  match pageRow p with
  | none => s
  | some r =>
    let s1 := ((s.setFlag (Adr.PCTRL p) 0 false).blockStop p)
    let s2 := s1.clearRegs fun a => decide (a / 4096 = p) && decide (0x40 ≤ a % 4096) && !keepsOnSoftReset r.blk (a % 4096)
    let s3 := ((s2.setReg (Adr.PEVT p) 0#32).setReg (Adr.PEVEN p) 0#32).setReg (Adr.PFAULT p) (s.reg (Adr.PFAULT p) &&& 0xC0000000#32)
    let s4 := (s3.blockHidden p).crcTouch p
    match r.blk with
    | .ggrp => (s4.setReg (Adr.GGRP_GSTAT (pageInst p)) (s4.reg (Adr.GGRP_GSTAT (pageInst p)) &&& 0xFF0000#32)).sourceCheck.gatesRefresh
    | .lvdrv | .pwm => s4.sourceCheck.gatesRefresh
    | .cmpb => s4.cmpPage (pageInst p)
    | .hk => s4.hkStatus
    | .hvs => s4.hvsRefresh
    | .pilot => s4.pilotRelimit.pilotS2.lampRefresh
    | .ctr => s4.ctrOutputs
    | _ => s4

/-! ### Power domains (R45 to R48) -/

/-- Pages of the part, in order. -/
def allPages : List Nat := pageMap.flatMap fun r => (List.range r.count).map fun i => r.page + i

/-- Pages of domain d. -/
def domPages (d : Nat) : List Nat := allPages.filter fun p => pageDom p == d

/-- An enabled page stands in domain d, or, for PD3 and PD4, that pair owns an enabled page (R45). -/
def State.domBusy (s : State) (d : Nat) : Bool :=
  (domPages d).any (fun p => s.pageEn p) ||
    ((d == 3 || d == 4) && allPages.any fun p => s.pageOn p && s.pageEn p && s.owner p == d - 2)

/-- What each domain requires (chapter 03, power domains). -/
def domNeeds (d : Nat) : List Nat :=
  match d with
  | 1 | 2 => [0]
  | 3 | 4 | 6 | 11 => [1, 2]
  | 5 => [1, 2, 6]
  | 7 | 8 => [1]
  | 9 | 10 => [2, 5]
  | _ => []

/-- The domains in an order in which each follows what it requires (R43). -/
def domOrder : List Nat := [1, 2, 3, 4, 6, 7, 8, 11, 5, 9, 10]

/-- Sample selectors whose source lies in domain d. -/
def selDom (d sel : Nat) : Bool :=
  match d with
  | 5 => decide (0x100 ≤ sel)
  | 6 => decide (sel < 0xC0)
  | 7 => decide (0xC0 ≤ sel) && decide (sel < 0xD0)
  | _ => false

/-- Memories of a domain lose their contents (R47, R53, R180): SRAM, trim memories and mailbox with PD1, TCMs with PD3 and PD4, correlator
RAM with PD7. -/
def State.domMemory (s : State) (d : Nat) : State :=
  match d with
  | 1 => ((s.clearMem 0x20000000 0x400000).clearMem 0x30000000 0x18000).clearMem 0x50000000 0x10000
  | 3 => s.clearMem 0x01000000 0x80000
  | 4 => s.clearMem 0x01080000 0x80000
  | 7 => s.clearMem 0x28000000 0x200000
  | _ => s

/-- The pages of a domain lose their contents; owners are held in PD1 and stay while it is on (R47). -/
def State.domClear (s : State) (d : Nat) : State :=
  let s1 := s.clearRegs fun a => pageDom (a / 4096) == d && (d == 1 || a % 4096 != 0x18) && decide (a / 4096 ≠ Pg.SYS)
  let s2 := (domPages d).foldl (fun t p => (t.blockHidden p).putPage p PageHid.reset) s1
  (s2.setSamples (Store.clear (selDom d) s2.samples)).domMemory d

/-- The islands of the domains of gate supplies (R46). -/
def State.domIslands (s : State) (d : Nat) (up : Bool) : State :=
  let gs := (List.range 6).filter fun g => islandDom g == d
  s.each gs fun t g => if up && bit t.shroud.cut g then t else t.groupSupply g up

/-- PDSTAT of a domain, shown; every change raises EV249 (R46). -/
def State.domShow (s : State) (d : Nat) (b : Bool) : State :=
  if s.flag Adr.SYS_PDSTAT d = b then s else (s.setFlag Adr.SYS_PDSTAT d b).raise Pg.SYS 0

/-- What other blocks see of a domain that has changed. -/
def State.domEffects (s : State) : State := ((s.tripAll).hvsRefresh).gatesRefresh

/-- Blocks of a domain stop, as clearing PCTRL.EN stops them. -/
def State.domStop (s : State) (d : Nat) : State :=
  (domPages d).foldl (fun t p => (t.setFlag (Adr.PCTRL p) 0 false).blockStop p) s

/-- Domain d switches off. -/
def State.domainOff (s : State) (d : Nat) : State :=
  if !s.domOn d then s
  else
    let s1 := (s.domStop d).domIslands d false
    let s2 := (s1.domClear d).domShow d false
    let s3 := if d = 7 ∧ !s2.domOn 8 ∨ d = 8 ∧ !s2.domOn 7 then s2.setFlag Adr.SYS_CLKSTAT 4 false else s2
    let s4 := if d = 6 then s3.setReg Adr.HVS_STAT 0#32 else s3
    s4.domEffects

/-- Domain d is on, its clamps released: its pages hold their reset values (R46). PLL_NET runs while PD7 or PD8 is on; HV sense supplies are
good with PD6. -/
def State.domainOn (s : State) (d : Nat) : State :=
  let s1 := s.setPwr { s.pwr with switching := s.pwr.switching.filter fun x => x != d }
  let s2 := (s1.domShow d true).domIslands d true
  let s3 := (domPages d).foldl (fun t p => if t.owner p = 0 then t else t.crcTouch p) s2
  let s4 := if (d = 7 ∨ d = 8) ∧ s3.pwr.relocks < 3 then s3.setFlag Adr.SYS_CLKSTAT 4 true else s3
  let s5 := if d = 6 then s4.setReg Adr.HVS_STAT 0x7F#32 else s4
  s5.domEffects

end Sys2Proof.Machine
end

