-- ==== Sys2Proof/Machine/PairOps.lean ====
section
/-! DEFINITION. Core pairs (chapter 06): signatures and their comparison, pair faults and restarts, realigns, locking, splitting, debug and
the asynchronous inputs. -/

namespace Sys2Proof.Machine

/-! ### Signatures (R118, R119) -/

/-- One shift of the CRC-64 register, most significant bit first (polynomial 0x42F0_E1EB_A9EA_3693). -/
def crc64Shift (c : BitVec 64) : BitVec 64 := if c.getLsbD 63 then (c <<< 1) ^^^ 0x42F0E1EBA9EA3693#64 else c <<< 1

/-- One byte into the CRC-64 register. -/
def crc64Byte (c : BitVec 64) (b : Byte) : BitVec 64 :=
  crc64Shift (crc64Shift (crc64Shift (crc64Shift (crc64Shift (crc64Shift (crc64Shift (crc64Shift
    (c ^^^ (b.setWidth 64 <<< 56)))))))))

/-- CRC-64 over bytes, from 0, no final XOR. -/
def crc64 (bs : List Byte) : BitVec 64 := bs.foldl crc64Byte 0#64

/-- The bytes of an item word, most significant first. -/
def beBytes (w : BitVec 64) : List Byte := [56, 48, 40, 32, 24, 16, 8, 0].map fun i => w.extractLsb' i 8

/-- An item word of R118: its kind and its fields. -/
def itemWord (i : FoldItem) : BitVec 64 :=
  match i with
  | .regWrite x v => BitVec.ofNat 64 (1 * 2 ^ 60 + x.toNat * 2 ^ 54 + v.toNat)
  | .csrWrite n v => BitVec.ofNat 64 (2 * 2 ^ 60 + n.toNat * 2 ^ 32 + v.toNat)
  | .storeAddr e a => BitVec.ofNat 64 (3 * 2 ^ 60 + e.toNat * 2 ^ 32 + a.toNat)
  | .storeData d => BitVec.ofNat 64 (4 * 2 ^ 60 + d.toNat)
  | .periph w a => BitVec.ofNat 64 (5 * 2 ^ 60 + w.toNat * 2 ^ 32 + a.toNat)
  | .transfer t => BitVec.ofNat 64 (6 * 2 ^ 60 + t.toNat)
  | .trap irq c t => BitVec.ofNat 64 (7 * 2 ^ 60 + irq.toNat * 2 ^ 37 + c.toNat * 2 ^ 32 + t.toNat)

/-- A write of x0 folds nothing. [DESIGN CHOICE, assumption 47] -/
def folds (i : FoldItem) : Bool :=
  match i with
  | .regWrite x _ => decide (x ≠ 0#6)
  | .csrWrite _ _ | .storeAddr _ _ | .storeData _ | .periph _ _ | .transfer _ | .trap _ _ _ => true

/-- A window's signature. -/
def signature (l : List FoldItem) : BitVec 64 := crc64 ((l.filter folds).flatMap fun i => beBytes (itemWord i))

/-! ### The pair's cores (R115, R128) -/

/-- The main core and the checker of pair n. -/
def mainCore (n : Nat) : Nat := 2 * n
def checkCore (n : Nat) : Nat := 2 * n + 1

/-- A register of a core. -/
def Core.xreg (c : Core) (i : Nat) : Word := Store.get (fun _ => 0#32) c.x i
def Core.csrReg (c : Core) (i : Nat) : Word := Store.get (fun _ => 0#32) c.csr i

/-- A register written; x0 stays 0, AXFIE keeps bits [3:0], AXFIN is read-only (R126). -/
def Core.write (c : Core) (r : CoreReg) (v : Word) : Core :=
  match r with
  | .gpr i => if i = 0 then c else { c with x := Store.put (fun _ => 0#32) i.val v c.x }
  | .fpr i => { c with f := Store.put (fun _ => 0#32) i.val v c.f }
  | .csr n =>
    if n = 0xFC0#12 then c
    else { c with csr := Store.put (fun _ => 0#32) n.toNat (if n = 0x7C0#12 then v &&& 0xF#32 else v) c.csr }
  | .pc => { c with pc := v }

/-- A value written to x[rd] of a core. -/
def State.toX (s : State) (core : Nat) (rd : Fin 32) (v : Word) : State := s.putCore core ((s.core core).write (.gpr rd) v)

/-- The main core's architectural state is copied to the checker. -/
def State.copyCore (s : State) (n : Nat) : State :=
  let m := s.core (mainCore n)
  let c := s.core (checkCore n)
  s.putCore (checkCore n) { c with x := m.x, f := m.f, csr := m.csr, pc := m.pc }

/-- Both cores stall or go on. -/
def State.stallPair (s : State) (n : Nat) (b : Bool) : State :=
  let t := s.putCore (mainCore n) { s.core (mainCore n) with stalled := b }
  t.putCore (checkCore n) { t.core (checkCore n) with stalled := b }

/-- Pair n runs: its domain is on, PLL_SYS drives it (R56) and its reset is released. -/
def State.pairRuns (s : State) (n : Nat) : Bool := s.domOn (3 + n) && s.flag Adr.SYS_CLKSTAT 3 && !(s.pair n).inReset

/-- MODE replaced. -/
def State.setMode (s : State) (n m : Nat) : State := s.setFld (Adr.PAIR_STAT n) 1 0 m

/-- The pair has locked: WINCNT and ALIGNCNT count from here, and comparison starts with the next full window (R136, R141). -/
def State.pairLocked (s : State) (n : Nat) : State :=
  let t := ((((s.setMode n 1).setFlag (Adr.PAIR_STAT n) 3 false).setReg (Adr.PAIR_WINCNT n) 0#32).setReg (Adr.PAIR_ALIGNCNT n) 0#32)
  (t.putPair n { t.pair n with copying := false, final := false, window := none, syncCore := none }).stallPair n false

/-! ### Pair reset and pair faults (R61, R107, R132 to R135) -/

/-- Images of a pair that its reset destroys: its cores and its TCMs (R61). -/
def State.pairScope (s : State) (n : Nat) : State :=
  (((s.putCore (mainCore n) Core.reset).putCore (checkCore n) Core.reset).domMemory (3 + n)).putPair n
    { s.pair n with window := none, final := false, copying := false, replay := [], syncCore := none, loaded := false }

/-- Pair reset asserts: locks break and requests are withdrawn (R107, R108); every owned page goes to its safe state. -/
def State.pairReset (s : State) (n : Nat) (flt : Bool) : State :=
  let s1 := ((s.icxReset (mainCore n)).icxReset (checkCore n)).pairScope n
  let s2 := s1.putPair n { s1.pair n with inReset := true }
  let s3 := s2.when flt fun t => t.setFlag Adr.SYS_RSTCAUSE (5 + n) true
  s3.each (allPages.filter fun p => s3.owner p == n + 1 && s3.pageOn p) fun t p =>
    (t.pageSafe p).when flt fun u => u.setFlag (Adr.PFAULT p) 30 true

/-- The sequence of R133: the mismatch wire, pair reset, FCAUSE and FWIN of the first fault, MODE FAULTED, PEVT.FAULT. -/
def State.pairFault (s : State) (n cause : Nat) : State :=
  if s.pairMode n = 3 then s
  else
    let first := s.reg (Adr.PAIR_FCAUSE n) == 0#32
    let s1 := s.putPair n { s.pair n with wire := true }
    let s2 := s1.when first fun t => (t.setReg (Adr.PAIR_FCAUSE n) (w32 cause)).setReg (Adr.PAIR_FWIN n) (t.reg (Adr.PAIR_WINCNT n))
    let s3 := (s2.fault (Pg.PAIR n) (cause - 1)).setReg (Adr.PAIR_STAT n) 3#32
    (s3.raise (Pg.PAIR n) 0).pairReset n true

/-- A pair leaves reset LOCKED, its images loaded, its mismatch wire quiet (R115, R135). -/
def State.pairRelease (s : State) (n : Nat) : State :=
  let s1 := s.pairScope n
  let s2 := s1.putPair n { s1.pair n with inReset := false, wire := false, loaded := true, aligns := [] }
  (s2.setReg (Adr.PAIR_STAT n) 1#32).pairLocked n

/-- A restart of a FAULTED pair (R135); false where the pair is not FAULTED. -/
def State.pairRestart (s : State) (n : Nat) : State := if s.pairMode n = 3 ∧ s.domOn (3 + n) then s.pairRelease n else s

/-- A fault bit of a PAIR page is cleared: FCAUSE goes with the bit it matches (R135). -/
def State.pairUnlatch (s : State) (n : Nat) (w : Word) : State :=
  let c := s.fld (Adr.PAIR_FCAUSE n) 2 0
  if c ≠ 0 ∧ bit w (c - 1) then s.setReg (Adr.PAIR_FCAUSE n) 0#32 else s

/-! ### Windows and verdicts (R120 to R129) -/

/-- Windows are counted: the pair is LOCKED and runs, not halted and not copying. -/
def State.windowsRun (s : State) (n : Nat) : Bool :=
  s.pairRuns n && s.pairMode n == 1 && !s.flag (Adr.PAIR_STAT n) 6 && !(s.pair n).copying

/-- A window closes: both signatures go to the comparator, and the next window opens at once. [DEDUCED, assumption 46] -/
def State.windowClose (s : State) (n : Nat) (main checker : List FoldItem) : State :=
  if s.windowsRun n && (s.pair n).window.isNone then
    (s.putPair n { s.pair n with window := some ⟨signature main, signature checker, s.flag (Adr.PAIR_STAT n) 3⟩ }).setFlag
      (Adr.PAIR_STAT n) 3 false
  else s

/-- A realign starts (R128, R129): both cores stall, the time is kept. [DEDUCED, assumption 46] -/
def State.realign (s : State) (n : Nat) : State :=
  let keep := s.fld (Adr.PAIR_CTRL n) 7 4
  let p := s.pair n
  (((s.putPair n { p with copying := true, aligns := (s.now :: p.aligns).take keep }).stallPair n true).bump (Adr.PAIR_ALIGNCNT n) 15 0).raise
    (Pg.PAIR n) 1

/-- The limit of R129 is reached: 100 ms are 60 000 000 ticks. -/
def State.alignLimit (s : State) (n : Nat) : Bool :=
  let keep := s.fld (Adr.PAIR_CTRL n) 7 4
  let l := (s.pair n).aligns.take keep
  keep == 0 || (l.length == keep && match l.getLast? with
    | some t => decide (s.now < t + 60000000)
    | none => false)

/-- A mismatch is classified (R127); a divergence at a split's final compare refuses the split (R137). [DEDUCED, assumption 46] -/
def State.mismatch (s : State) (n : Nat) (async : Bool) : State :=
  if !async then s.pairFault n 1
  else if !s.flag (Adr.PAIR_CTRL n) 0 then s.pairFault n 2
  else if s.alignLimit n then s.pairFault n 3
  else
    let s1 := if (s.pair n).final then
        ((s.setFlag (Adr.PAIR_STAT n) 4 true).raise (Pg.PAIR n) 2).putPair n { s.pair n with final := false }
      else s
    s1.realign n

/-- A matching final compare: the pair becomes SPLIT and the checker starts at SPLIT_ENTRY (R137). -/
def State.splitDone (s : State) (n : Nat) : State :=
  let s1 := (s.putPair n { s.pair n with final := false }).setMode n 0
  let s2 := s1.putCore (checkCore n) { Core.reset with pc := s.reg (Adr.PAIR_SPLIT_ENTRY n) }
  (s2.putCore (mainCore n) { s2.core (mainCore n) with stalled := false }).raise (Pg.PAIR n) 2

/-- The comparator's verdict for the closed window. -/
def State.verdict (s : State) (n : Nat) (selfTestOk : Bool) : State :=
  match (s.pair n).window with
  | none => s
  | some w =>
    let s1 := ((s.putPair n { s.pair n with window := none }).setReg (Adr.PAIR_SIGL n) (w.main.extractLsb' 0 32)).setReg
      (Adr.PAIR_SIGH n) (w.main.extractLsb' 32 32)
    let count (t : State) : State := t.setReg (Adr.PAIR_WINCNT n) (t.reg (Adr.PAIR_WINCNT n) + 1#32)
    if !selfTestOk then s1.pairFault n 4
    else if w.main ≠ w.checker then
      let s2 := s1.mismatch n w.async
      s2.when (s2.pairMode n == 1) count
    else (count s1).when (s.pair n).final fun t => t.splitDone n

/-- The copy of a realign finishes: both cores resume from the main core's pc. -/
def State.realigned (s : State) (n : Nat) : State :=
  if (s.pair n).copying && s.pairMode n == 1 then
    let t := (s.copyCore n).stallPair n false
    (t.putPair n { t.pair n with copying := false, window := none }).setFlag (Adr.PAIR_STAT n) 3 false
  else s

/-- A parity error in a delay register of a LOCKED pair (R124). [DESIGN CHOICE, assumption 47] -/
def State.delayFault (s : State) (n : Nat) : State := if s.pairRuns n && s.pairMode n == 1 then s.pairFault n 5 else s

/-! ### Asynchronous inputs (R126) -/

/-- Line DEVk of a pair: the pin its FINSEL selects; indices from 20 on are 0. -/
def State.devLine (s : State) (n k : Nat) : Bool :=
  let i := s.fld (Adr.PAIR_FINSEL n) (8 * k + 4) (8 * k)
  decide (i < 20) && bit s.pins.pins i

/-- AXFIN as a core of pair n reads it. -/
def State.axfin (s : State) (n : Nat) : Word :=
  let base := if s.flag (Adr.PAIR_FINSEL n) 5 then 16 else 0
  w32 (maskOf 20 fun i => if i < 16 then s.cmpState (base + i) == 2 else s.devLine n (i - 16))

/-- The window in progress contains an asynchronous read. -/
def State.asyncRead (s : State) (n : Nat) : State := if s.pairMode n = 1 then s.setFlag (Adr.PAIR_STAT n) 3 true else s

/-- Core c executes: its pair runs, it is not halted and not stalled. -/
def State.coreRuns (s : State) (c : Nat) : Bool :=
  s.pairRuns (c / 2) && !s.flag (Adr.PAIR_STAT (c / 2)) 6 && !(s.core c).stalled

/-- A core reads AXFIN into rd. -/
def State.axfinRead (s : State) (c : Nat) (rd : Fin 32) : State :=
  if s.coreRuns c then (s.toX c rd (s.axfin (c / 2))).asyncRead (c / 2) else s

/-- A rising DEVk edge ends a core's WFI where AXFIE enables it. -/
def State.devWake (s : State) (c k : Nat) : State :=
  if s.coreRuns c && bit ((s.core c).csrReg 0x7C0) k then s.asyncRead (c / 2) else s

/-! ### Locking and splitting (R136, R137) -/

/-- SYNC.REQ written by core c of pair n. [DESIGN CHOICE, assumption 47] -/
def State.syncReq (s : State) (n c : Nat) : State :=
  if s.pairMode n ≠ 0 ∨ c / 2 ≠ n then s
  else
    let s1 := (s.setFlag (Adr.PAIR_STAT n) 5 false).putCore c { s.core c with stalled := true }
    match (s.pair n).syncCore with
    | none => (s1.putPair n { s1.pair n with syncCore := some c }).setFlag (Adr.PAIR_STAT n) 2 true
    | some d => if d = c then s1 else (s1.putPair n { s1.pair n with copying := true }).setFlag (Adr.PAIR_STAT n) 2 false

/-- 100 µs pass without the second write. -/
def State.syncTimeout (s : State) (n : Nat) : State :=
  match (s.pair n).syncCore with
  | some c =>
    if (s.pair n).copying then s
    else
      let s1 := (s.putPair n { s.pair n with syncCore := none }).putCore c { s.core c with stalled := false }
      ((s1.setFlag (Adr.PAIR_STAT n) 2 false).setFlag (Adr.PAIR_STAT n) 5 true).raise (Pg.PAIR n) 2
  | none => s

/-- The copy of a lock finishes, once both cores' transactions have completed. [DEDUCED, assumption 46] -/
def State.lockDone (s : State) (n : Nat) : State :=
  if (s.pair n).copying && s.pairMode n == 0 && s.icxTags (mainCore n) == 0 && s.icxTags (checkCore n) == 0 then
    ((s.copyCore n).pairLocked n).raise (Pg.PAIR n) 2
  else s

/-- The pair owns an enabled safety-marked page, its PAIR page excepted. -/
def State.pairMarked (s : State) (n : Nat) : Bool :=
  allPages.any fun p => s.pageOn p && s.owner p == n + 1 && s.pageMarked p && s.pageEn p && p != Pg.PAIR n

/-- SPLIT.REQ written by core c. -/
def State.splitReq (s : State) (n c : Nat) : State :=
  if s.pairMode n ≠ 1 ∨ c ≠ mainCore n then s
  else if s.pairMarked n then (s.setFlag (Adr.PAIR_STAT n) 4 true).raise (Pg.PAIR n) 2
  else ((s.setFlag (Adr.PAIR_STAT n) 4 false).putPair n { s.pair n with final := true }).putCore c { s.core c with stalled := true }

/-! ### Debug (R139, R140) -/

/-- The port is open (L3) and the pair is one hart. -/
def State.debugOpen (s : State) (n : Nat) : Bool :=
  s.fld Adr.MBX_GSTAT 2 0 == 3 && s.pairRuns n && (s.pairMode n == 1 || s.pairMode n == 2)

/-- A halt reaches both cores. -/
def State.debugHalt (s : State) (n : Nat) : State := if s.debugOpen n then s.setFlag (Adr.PAIR_STAT n) 6 true else s

/-- An abstract command writes a main-core register and is logged; the 65th entry makes the pair DEBUG_SPLIT. -/
def State.debugWrite (s : State) (n : Nat) (r : CoreReg) (v : Word) : State :=
  if s.debugOpen n && s.flag (Adr.PAIR_STAT n) 6 then
    let s1 := s.putCore (mainCore n) ((s.core (mainCore n)).write r v)
    if s.pairMode n ≠ 1 then s1
    else if (s.pair n).replay.length < 64 then
      (s1.putPair n { s1.pair n with replay := (s1.pair n).replay ++ [(r, v)] }).setFld (Adr.PAIR_STAT n) 14 8
        ((s.pair n).replay.length + 1)
    else (((s1.putPair n { s1.pair n with replay := [], window := none }).setFld (Adr.PAIR_STAT n) 14 8 0).setMode n 2).raise (Pg.PAIR n) 3
  else s

/-- A resume: the entries are applied to the checker, or a DEBUG_SPLIT pair realigns and locks. -/
def State.debugResume (s : State) (n : Nat) : State :=
  if s.pairRuns n && s.flag (Adr.PAIR_STAT n) 6 then
    let s1 := (s.setFlag (Adr.PAIR_STAT n) 6 false).setFld (Adr.PAIR_STAT n) 14 8 0
    if s.pairMode n = 2 then ((s1.copyCore n).pairLocked n).raise (Pg.PAIR n) 1
    else
      let c := (s.pair n).replay.foldl (fun c e => c.write e.1 e.2) (s1.core (checkCore n))
      (s1.putCore (checkCore n) c).putPair n { s1.pair n with replay := [] }
  else s

end Sys2Proof.Machine
end

