-- ==== Sys2Proof/Machine/GmsOps.lean ====
section
/-! DEFINITION. Goldon (chapter 17): two-bank records, black box and commits, fault capture, meter, passport, access levels and the
mailbox protocol. The layouts that the chapter leaves to its implementer are those of DESIGN CHOICE, assumption 60. -/

namespace Sys2Proof.Machine

/-! ### Two-bank records in MRAM (R406) -/

/-- A bank: its magic, length and CRC are right. -/
def State.bankValid (s : State) (magic : Word) (base size : Nat) : Bool :=
  let len := (s.mword (base + 8)).toNat
  s.mword base == magic && decide (16 ≤ len) && decide (len ≤ size) &&
    s.mword (base + 12) == crc32 (s.bytes base 12 ++ s.bytes (base + 16) (len - 16))

/-- SEQ a is newer than b. -/
def newer (a b : Word) : Bool := decide (1 ≤ (a - b).toNat) && decide ((a - b).toNat < 2 ^ 31)

/-- The bank that holds the newest valid record, of two. [DESIGN CHOICE, assumption 63] -/
def State.newestBank (s : State) (magic : Word) (b0 b1 size : Nat) : Option Nat :=
  let v0 := s.bankValid magic b0 size
  let v1 := s.bankValid magic b1 size
  if v0 && v1 then some (if newer (s.mword (b1 + 4)) (s.mword (b0 + 4)) then b1 else b0)
  else if v0 then some b0 else if v1 then some b1 else none

/-- SEQ of the newest valid record; 0 without one. -/
def State.newestSeq (s : State) (magic : Word) (b0 b1 size : Nat) : Word :=
  match s.newestBank magic b0 b1 size with
  | some b => s.mword (b + 4)
  | none => 0#32

/-- The bank a write takes: the one that does not hold the newest valid record. -/
def State.targetBank (s : State) (magic : Word) (b0 b1 size : Nat) : Nat := if s.newestBank magic b0 b1 size = some b0 then b1 else b0

/-- A record's header: magic, SEQ, LEN, CRC. [DESIGN CHOICE, assumption 63] -/
def bankHeader (magic seq : Word) (body : List Byte) : List Byte :=
  let h := wordBytes magic ++ wordBytes seq ++ wordBytes (w32 (16 + body.length))
  h ++ wordBytes (crc32 (h ++ body))

/-- The MRAM die's write counter moves on (R59). -/
def State.mramWrote (s : State) : State := s.setPwr { s.pwr with writes := s.pwr.writes + 1 }

/-- A record written: the body, then the header in one beat. [DESIGN CHOICE, assumption 63] -/
def State.writeBank (s : State) (magic : Word) (b0 b1 size : Nat) (body : List Byte) : State :=
  let t := s.targetBank magic b0 b1 size
  let seq := s.newestSeq magic b0 b1 size + 1#32
  (((s.clearMem t size).putBytes (t + 16) body).putBytes t (bankHeader magic seq body)).mramWrote

/-- The body of the newest valid record; empty without one. -/
def State.bankBody (s : State) (magic : Word) (b0 b1 size : Nat) : List Byte :=
  match s.newestBank magic b0 b1 size with
  | some b => s.bytes (b + 16) ((s.mword (b + 8)).toNat - 16)
  | none => []

/-- A target bank left invalid by a write that broke off. -/
def State.spoilBank (s : State) (magic : Word) (b0 b1 size : Nat) : State :=
  (s.clearMem (s.targetBank magic b0 b1 size) 16).mramWrote

/-! ### Black-box banks (R409, R410) -/

def bbMagic : Word := 0x47424B31#32
def bb0 : Nat := 0x11C00000
def bb1 : Nat := 0x11D00000

/-- KIND of an entry. [DESIGN CHOICE, assumption 24] -/
def LogKind.code : LogKind → Nat
  | .event => 0
  | .start => 1
  | .dip => 2
  | .mark => 3
  | .access => 4
  | .update => 5

/-- An entry's four words. -/
def LogEntry.bytes (e : LogEntry) : List Byte :=
  natBytes 8 e.time ++ wordBytes (w32 (e.count % 65536 * 65536 + e.kind.code * 256 + e.event % 256)) ++
    wordBytes (w32 (e.starts % 65536 * 65536 + e.low % 65536))

/-- Bytes brought to a length. -/
def padTo (n : Nat) (l : List Byte) : List Byte := (l ++ List.replicate (n - l.length) 0#8).take n

/-- A refused access in the summary: address, then reason, port and direction. -/
def Refused.bytes (r : Refused) : List Byte :=
  wordBytes r.addr ++ wordBytes (w32 (r.reason * 2 ^ 24 + r.port * 2 ^ 16 + r.write.toNat))

/-- The summary of 4080 bytes. -/
def BlackBox.summary (b : BlackBox) : List Byte :=
  padTo 4080 (natBytes 4 b.starts ++ padTo 64 (b.causes.flatMap wordBytes) ++
    padTo 384 (b.dips.flatMap fun d => natBytes 8 d.ticks ++ natBytes 4 d.lowest) ++ natBytes 4 b.lost ++
    padTo 128 (b.refusedEvr0.flatMap Refused.bytes) ++ padTo 128 (b.refusedEvr1.flatMap Refused.bytes) ++
    padTo 128 (b.refusedGms.flatMap Refused.bytes) ++ natBytes 4 b.dcdcCause ++ natBytes 1 b.relocks.length ++
    b.relocks.map fun r => if r then 1#8 else 0#8)

/-- A segment's word (R414). [DESIGN CHOICE, assumption 62] -/
def Segment.word (g : Segment) : Word := w32 (g.chan * 2 ^ 28 + g.inv.toNat * 2 ^ 27 + (g.len - 1) % 2048 * 2 ^ 16 + g.value % 65536)

/-- The span kept before the trigger, in ticks: the longest of the channels'. -/
def Capture.span (c : Capture) : Nat :=
  let total (k : Nat) : Nat := (c.segs.filter fun g => g.chan == k).foldl (fun n g => n + g.len) 0
  ((List.range 16).map total).foldl max 0 - (c.ticks - c.trigTick)

/-- A frozen capture as a commit writes it: its header, then the segments, oldest first. [DESIGN CHOICE, assumption 62] -/
def Capture.bytes (c : Capture) : List Byte :=
  natBytes 4 c.segs.length ++ natBytes 4 c.fcper ++ natBytes 4 c.fcpost ++ natBytes 4 c.span ++ natBytes 8 (c.trigAt.getD 0) ++
    natBytes 4 c.later ++ (c.sels.flatMap fun x => natBytes 2 x) ++ c.segs.reverse.flatMap fun g => wordBytes g.word

/-- The body of a bank: summary, event log of 8192 entries, and a frozen capture. [DESIGN CHOICE, assumption 60] -/
def State.bbBody (s : State) (b : BlackBox) : List Byte :=
  b.summary ++ padTo 131072 (b.log.flatMap LogEntry.bytes) ++ if s.flag Adr.MBX_GSTAT 12 then s.gms.fc.bytes else []

/-! ### Meter and passport records (R417, R418) -/

def meter0 : Nat := 0x11E00000
def pass0 : Nat := 0x11F00000

/-- The body of the meter record. [DESIGN CHOICE, assumption 60] -/
def Meter.record (m : Meter) : List Byte :=
  natBytes 12 m.eIn ++ natBytes 12 m.eOut ++ natBytes 12 m.qIn ++ natBytes 12 m.qOut ++ natBytes 8 m.gapTicks ++ natBytes 4 m.calseq ++
    natBytes 4 m.misel ++ natBytes 4 m.mifs ++ wordBytes m.gain ++ wordBytes m.offs ++ natBytes 1 m.negate.toNat ++ natBytes 1 m.ringMask ++
    natBytes 4 m.capacity ++ m.packId.flatMap wordBytes

/-- A count of a histogram. -/
def bin (l : List (Nat × Nat)) (k : Nat) : Nat := Store.get (fun _ => 0) l k

/-- The body of the passport record: the histograms, the trend and the personalities. -/
def Meter.passport (m : Meter) : List Byte :=
  ((List.range 26).flatMap fun k => natBytes 4 (bin m.temp k)) ++ ((List.range 17).flatMap fun k => natBytes 4 (bin m.cCharge k)) ++
    ((List.range 17).flatMap fun k => natBytes 4 (bin m.cDischarge k)) ++
    (m.trend.flatMap fun z => wordBytes z.rtc ++ wordBytes z.mHz ++ wordBytes z.cells ++ wordBytes z.median ++ wordBytes z.p95 ++
      wordBytes z.maxZ) ++ m.personalities.flatMap fun p => wordBytes p.1 ++ natBytes 1 p.2.toNat

/-- The meter record, and the passport beside it, are written. -/
def State.meterWrite (s : State) : State :=
  let s1 := s.writeBank Config.meterMagic meter0 (meter0 + 0x1000) 0x1000 s.gms.meter.record
  (s1.writeBank Config.meterMagic pass0 (pass0 + 0x80000) 0x80000 s.gms.meter.passport).setKept
    { s.kept with meter := some s.gms.meter }

/-! ### Commits (R412) -/

/-- A commit starts, or one more is marked to follow the present one. [DESIGN CHOICE, assumption 29] -/
def State.commitStart (s : State) : State :=
  if s.gms.restarting then s
  else if s.flag Adr.MBX_GSTAT 9 then s.setFlag Adr.MBX_GSTAT 10 true
  else (s.setFlag Adr.MBX_GSTAT 9 true).setGms { s.gms with snap := some s.gms.bb }

/-- The MRAM write of a commit completes; a marked one follows at once. [DESIGN CHOICE, assumption 29] -/
def State.commitWritten (s : State) : State :=
  let b := s.gms.snap.getD s.gms.bb
  let s1 := (s.writeBank bbMagic bb0 bb1 0x100000 (s.bbBody b)).meterWrite
  let s2 := s1.setKept { s1.kept with bb := some b }
  let s3 := (s2.setReg Adr.MBX_BBSEQ (s2.newestSeq bbMagic bb0 bb1 0x100000)).setFlag Adr.MBX_GSTAT 9 false
  let s4 := (s3.setGms { s3.gms with snap := none }).raise Pg.MBX 2
  if s4.flag Adr.MBX_GSTAT 10 then (s4.setFlag Adr.MBX_GSTAT 10 false).commitStart else s4

/-! ### Starts (R409, R410, R426) -/

/-- A start's entry and its RSTCAUSE in the live record. -/
def State.logStart (s : State) : State :=
  let b := s.gms.bb
  let s1 := s.setBb { b with starts := b.starts + 1, causes := keep16 b.causes (s.reg Adr.SYS_RSTCAUSE) }
  s1.logKind .start 0 (bits (s.reg (Adr.EVR_EPOCH 0)) 15 0)

/-! ### Field access (R423 to R426) -/

/-- The level in force. -/
def State.level (s : State) : Nat := s.fld Adr.MBX_GSTAT 2 0

/-- A change of level, logged. -/
def State.setLevel (s : State) (lvl chan : Nat) : State :=
  if s.level = lvl then s.setFld Adr.MBX_GSTAT 7 4 (if lvl = 0 then 0 else chan)
  else (((s.setFld Adr.MBX_GSTAT 2 0 lvl).setFld Adr.MBX_GSTAT 7 4 (if lvl = 0 then 0 else chan)).logKind .access 0 lvl).raise Pg.MBX 3

/-- The wait after n consecutive failures, in seconds (R425). -/
def backOff (n : Nat) : Nat := if n < 3 then 0 else min 3600 (10 * 2 ^ (n - 3))

/-- An access attempt fails. -/
def State.accessFailed (s : State) : State :=
  let n := s.kept.fails + 1
  (s.setKept { s.kept with fails := n }).setReg Adr.MBX_AFAIL (w32 (backOff n * 65536 + min n 255))

/-- An access attempt succeeds. [DESIGN CHOICE, assumption 5] -/
def State.accessOpened (s : State) (lvl chan : Nat) : State :=
  ((s.setKept { s.kept with fails := 0 }).setReg Adr.MBX_AFAIL 0#32).setLevel lvl chan

/-! ### Fault capture (R413 to R415) -/

/-- A word as a 16-bit sample: (x + 2^15) >> 16, saturated at 0x7FFF. -/
def sample16 (w : Sample) : Option Int := if w.valid then some (min ((w.value.toInt + 32768) / 65536) 32767) else none

/-- The point i of a segment of n ticks from a to x, rounded half toward +∞. -/
def lerp (a x : Int) (i n : Nat) : Int := (2 * (a * (n - i : Nat) + x * i) + n) / (2 * n)

/-- Every sample of a run lies within 2 LSB of the segment from a to its last sample. -/
def fits (a : Int) (run : List Int) : Bool :=
  let x := run.getLastD a
  (List.range run.length).all fun i => decide ((lerp a x (i + 1) run.length - nthD 0 run i).natAbs ≤ 2)

/-- A segment closed: it joins the list and the buffer in SRAM bank 7, which holds the 131 072 most recent. [DESIGN CHOICE, assumption 62] -/
def State.fcClose (s : State) (g : Segment) : State :=
  let c := s.gms.fc
  (s.setGms { s.gms with fc := { c with segs := (g :: c.segs).take 131072, total := c.total + 1 } }).putWord
    (0x20380000 + 4 * (c.total % 131072)) g.word

/-- The open segment of a channel. -/
def State.fcOpen (s : State) (k : Nat) : OpenSeg := Store.get (fun _ => ⟨none, []⟩) s.gms.fc.open_ k
def State.putFcOpen (s : State) (k : Nat) (o : OpenSeg) : State :=
  s.setGms { s.gms with fc := { s.gms.fc with open_ := Store.put (fun _ => ⟨none, []⟩) k o s.gms.fc.open_ } }

/-- The segment that closes an open run of channel k: an INV one, or one that ends at its last sample. -/
def closing (k : Nat) (o : OpenSeg) : Option Segment :=
  if o.run.isEmpty then none
  else match o.from_, o.run.getLast? with
    | some _, some (some x) => some ⟨k, false, o.run.length, (x % 65536).toNat⟩
    | _, _ => some ⟨k, true, o.run.length, 0⟩

/-- The open run of a channel closed. -/
def State.fcFlush (s : State) (k : Nat) : State := match closing k (s.fcOpen k) with
  | some g => s.fcClose g
  | none => s

/-- One channel's sample at a tick. [DESIGN CHOICE, assumption 62] -/
def State.fcSample (s : State) (k : Nat) (x : Option Int) : State :=
  let o := s.fcOpen k
  match x, o.from_ with
  | none, none =>
    if o.run.length < 2048 then s.putFcOpen k { o with run := o.run ++ [none] } else (s.fcFlush k).putFcOpen k ⟨none, [none]⟩
  | none, some _ => (s.fcFlush k).putFcOpen k ⟨none, [none]⟩
  | some v, none => ((s.fcFlush k).fcClose ⟨k, false, 1, (v % 65536).toNat⟩).putFcOpen k ⟨some v, []⟩
  | some v, some a =>
    let run := o.run.filterMap id
    if decide (run.length < 2048) && fits a (run ++ [v]) then s.putFcOpen k { o with run := o.run ++ [some v] }
    else (s.fcFlush k).putFcOpen k ⟨some (run.getLastD a), [some v]⟩

/-- A tick: every channel takes its newest word. -/
def State.fcTick (s : State) : State :=
  if !s.flag Adr.MBX_GSTAT 11 then s
  else
    let s1 := s.each (List.range 16) fun t k => t.fcSample k (sample16 (t.live (nthD 0 t.gms.fc.sels k) t.now))
    s1.setGms { s1.gms with fc := { s1.gms.fc with ticks := s1.gms.fc.ticks + 1 } }

/-- Segments of one channel, newest first, as far back as a number of ticks reaches. -/
def within : Nat → List Segment → List Segment
  | _, [] => []
  | n, g :: t => if n = 0 then [] else g :: within (n - g.len) t

/-- Pre-trigger history older than 2 s is cut. [DESIGN CHOICE, assumption 62] -/
def Capture.cut (c : Capture) : Capture :=
  let back := c.ticks - c.trigTick + 2000000 / max c.fcper 1
  let keep (k : Nat) : Nat := (within back (c.segs.filter fun g => g.chan == k)).length
  let step (acc : List Segment × (Nat → Nat)) (g : Segment) : List Segment × (Nat → Nat) :=
    if acc.2 g.chan = 0 then acc else (acc.1 ++ [g], fun k => if k = g.chan then acc.2 k - 1 else acc.2 k)
  { c with segs := (c.segs.foldl step ([], keep)).1 }

/-- FCPOST after the trigger: every open segment closes, the capture freezes and asks for a commit. -/
def State.fcFreeze (s : State) : State :=
  if !s.flag Adr.MBX_GSTAT 11 || s.gms.fc.trigAt.isNone then s
  else
    let s1 := s.each (List.range 16) State.fcFlush
    let s2 := s1.setGms { s1.gms with fc := { s1.gms.fc.cut with open_ := [] } }
    (((s2.setFlag Adr.MBX_GSTAT 11 false).setFlag Adr.MBX_GSTAT 12 true).raise Pg.MBX 5).commitStart

/-- FC_ARM. -/
def State.fcArm (s : State) (on : Bool) : State :=
  let c := s.gms.fc
  (((s.setFlag Adr.MBX_GSTAT 11 on).setFlag Adr.MBX_GSTAT 12 false).setGms { s.gms with fc :=
    { c with trigAt := none, later := 0, open_ := [], segs := [], total := 0, ticks := 0, trigTick := 0 } })

/-! ### The energy meter (R416) -/

/-- VBAT at a stamp, between the two bracketing words: Q1.31 of 2000 V. -/
def Meter.vbat (m : Meter) (t : Nat) : Option Int :=
  if m.vb0.valid && m.vb1.valid && decide (m.vb1.time ≤ t) && decide (t ≤ m.vb0.time) then
    some (if m.vb0.time = m.vb1.time then m.vb0.value.toInt
      else m.vb1.value.toInt + (m.vb0.value.toInt - m.vb1.value.toInt) * (t - m.vb1.time : Nat) / (m.vb0.time - m.vb1.time : Nat))
  else none

/-- The pack current as a fraction of MIFS: the trims and the sign of METER_CAL. -/
def Meter.current (m : Meter) (w : Word) : Int :=
  let i := roundShift (m.gain.toInt * w.toInt) 30 + m.offs.toInt
  if m.negate then -i else i

/-- A 64-bit accumulator with 32 fractional bits. -/
def acc96 (a : Nat) (d : Int) : Nat := (a + d.natAbs) % 2 ^ 96

/-- An interval of dt ticks: energy in mJ and charge in mC, times 2^32. -/
def Meter.add (m : Meter) (v i : Int) (dt : Nat) : Meter :=
  let e : Int := v * i * m.mifs * 2000 * dt / (2 ^ 30 * 600000000)
  let q : Int := 2 * i * m.mifs * dt / 600000000
  let m1 := if 0 < v * i then { m with eIn := acc96 m.eIn e } else { m with eOut := acc96 m.eOut e }
  if 0 < i then { m1 with qIn := acc96 m.qIn q } else { m1 with qOut := acc96 m.qOut q }

/-- A new current word: its interval is integrated, or added to GAPT. -/
def State.meterSample (s : State) : State :=
  let m := s.gms.meter
  let w := s.word m.misel
  let put (n : Meter) : State := s.setGms { s.gms with meter := { n with lastT := some w.time } }
  match m.lastT with
  | none => if w.valid then put m else s
  | some t0 =>
    if w.time ≤ t0 then s
    else
      let dt := w.time - t0
      match m.vbat w.time with
      | some v => if w.valid && decide (dt ≤ 600000) then put (m.add v (m.current w.value) dt) else put { m with gapTicks := m.gapTicks + dt }
      | none => put { m with gapTicks := m.gapTicks + dt }

/-- One more second in a bin. -/
def plusOne (l : List (Nat × Nat)) (k : Nat) : List (Nat × Nat) := Store.put (fun _ => 0) k (bin l k + 1) l

/-- The temperature bin: 0 below -40 °C, 24 bins of 5 °C, 25 from +80 °C on; codes are 0.01 °C. -/
def tempBin (c : Int) : Nat := if c < -4000 then 0 else if 8000 ≤ c then 25 else ((c + 4000) / 500).toNat + 1

/-- The histograms once a second (R418). -/
def State.histogram (s : State) : State :=
  let m := s.gms.meter
  let hot := ((List.range 4).filter fun k => m.ringMask.testBit k).filterMap fun k =>
    let w := s.live (0xC0 + 4 * k + 2) s.now
    if w.valid then some (w.value.toInt / 65536) else none
  let m1 := match hot with
    | [] => m
    | c :: t => { m with temp := plusOne m.temp (tempBin (t.foldl max c)) }
  let w := s.live m.misel s.now
  let i := m.current w.value
  let rate := min 16 (4 * i.natAbs * m.mifs / (2 ^ 31 * max m.capacity 1))
  let m2 := if !w.valid || m.capacity == 0 then m1
    else if 0 < i then { m1 with cCharge := plusOne m1.cCharge rate } else { m1 with cDischarge := plusOne m1.cDischarge rate }
  s.setGms { s.gms with meter := m2 }

/-- Every second entry of the older half goes when a 1025th arrives. -/
def thin (l : List ZTrend) : List ZTrend :=
  if l.length ≤ 1024 then l
  else
    let old := l.take 512
    ((List.range 256).filterMap fun i => old[2 * i + 1]?) ++ l.drop 512

/-! ### The pack passport (R418): CBOR (RFC 8949), COSE_Sign1 (RFC 9052) -/

/-- A CBOR head: major type and argument, in the shortest form. -/
def cborHead (major n : Nat) : List Byte :=
  let b (x : Nat) : Byte := BitVec.ofNat 8 (major * 32 + x)
  if n < 24 then [b n]
  else if n < 256 then b 24 :: (natBytes 1 n).reverse
  else if n < 65536 then b 25 :: (natBytes 2 n).reverse
  else if n < 2 ^ 32 then b 26 :: (natBytes 4 n).reverse
  else b 27 :: (natBytes 8 n).reverse

def cborNat (n : Nat) : List Byte := cborHead 0 n
def cborBytes (l : List Byte) : List Byte := cborHead 2 l.length ++ l
def cborArray (l : List (List Byte)) : List Byte := cborHead 4 l.length ++ l.flatten

/-- The payload: the map of keys 1 to 14. -/
def State.passportMap (s : State) : List Byte :=
  let m := s.gms.meter
  let wh (e : Nat) : Nat := e / 2 ^ 32 / 3600000
  let keys : List (List Byte) := [
    cborNat 1, cborBytes ((List.range 4).flatMap fun k => wordBytes (Config.serial k)), cborBytes (m.packId.flatMap wordBytes),
    cborNat (s.reg Adr.SYS_RTC).toNat, cborNat (wh m.eIn), cborNat (wh m.eOut), cborNat (wh m.qIn), cborNat (wh m.qOut),
    cborArray ((List.range 26).map fun k => cborNat (bin m.temp k)), cborArray ((List.range 17).map fun k => cborNat (bin m.cCharge k)),
    cborArray ((List.range 17).map fun k => cborNat (bin m.cDischarge k)),
    cborArray (m.trend.map fun z => cborArray ([z.rtc, z.mHz, z.cells, z.median, z.p95, z.maxZ].map fun w => cborNat w.toNat)),
    cborArray [cborNat (m.gapTicks / 600000000), cborNat m.calseq],
    cborArray (m.personalities.map fun p => cborArray [cborNat p.1.toNat, cborNat p.2.toNat])]
  cborHead 5 14 ++ (List.range 14).flatMap fun i => cborNat (i + 1) ++ nthD [] keys i

/-- The passport: tag 18, the protected header, the key identifier, the payload and a signature of 64 bytes that is a free value of the payload. -/
def State.passport (s : State) : List Byte :=
  cborHead 6 18 ++ cborHead 4 4 ++ cborBytes [0xA1#8, 0x01#8, 0x26#8] ++ (cborHead 5 1 ++ cborNat 4 ++ cborBytes ((List.range 8).map Config.kid))
    ++ cborBytes s.passportMap ++ cborBytes ((List.range 64).map (Config.signByte s.passportMap))

/-! ### The mailbox (R402 to R404) -/

/-- The area of a pair. -/
def mbxBase (pair : Nat) : Nat := 0x50000000 + 0x8000 * pair

/-- BUSY of a pair's area. -/
def State.mbxBusy (s : State) (pair : Nat) : Bool := bit (s.mword (mbxBase pair + 4)) 31

/-- Words and bytes of the request. [DESIGN CHOICE, assumption 60] -/
def State.reqWord (s : State) (pair i : Nat) : Word := s.mword (mbxBase pair + 0x100 + 4 * i)
def State.reqBytes (s : State) (pair at_ n : Nat) : List Byte := s.bytes (mbxBase pair + 0x100 + at_) n
/-- LEN of the request: how many bytes it holds. [DESIGN CHOICE, assumption 60] -/
def State.reqLen (s : State) (pair : Nat) : Nat := bits (s.mword (mbxBase pair + 0xC)) 13 0

/-- CMD. -/
def State.mbxCode (s : State) (pair : Nat) : Nat := bits (s.mword (mbxBase pair + 8)) 15 0

/-- What a completed command writes to its area: RESP, RLEN, RSP with the doorbell's SEQ and BUSY clear. -/
def State.mbxWrite (s : State) (pair result : Nat) (resp : List Byte) : State :=
  ((s.putBytes (mbxBase pair + 0x4000) resp).putWord (mbxBase pair + 0x10) (w32 resp.length)).putWord (mbxBase pair + 4)
    (w32 (result * 65536 + (s.byte (mbxBase pair)).toNat))

/-- A command completes: its answer, and DONE. -/
def State.mbxDone (s : State) (pair result : Nat) (resp : List Byte) : State :=
  let t := s.mbxWrite pair result resp
  (t.setGms { t.gms with doors := t.gms.doors.filter fun d => d != pair }).raise Pg.MBX pair

/-- Codes of R404. -/
def mbxCodes : List Nat := [0x1, 0x10, 0x11, 0x12, 0x13, 0x14, 0x15, 0x16, 0x20, 0x21, 0x30, 0x31, 0x40, 0x41, 0x42, 0x43, 0x44, 0x45, 0x50, 0x51, 0x60, 0x61,
  0x70, 0x80]

/-- The first command in doorbell order is answered UNKNOWN where its code is none of R404. -/
def State.mbxAdvance : Nat → State → State
  | 0, s => s
  | n + 1, s =>
    match s.gms.doors with
    | d :: _ => if mbxCodes.contains (s.mbxCode d) then s else State.mbxAdvance n (s.mbxDone d 2 [])
    | [] => s

/-- A doorbell: discarded while BUSY, answered by hardware while GMS restarts, else queued. GMS clears DONE as it accepts it. -/
def State.doorbell (s : State) (pair : Nat) (seq : Byte) : State :=
  if s.mbxBusy pair then s
  else
    let s1 := s.putByte (mbxBase pair) seq
    if s.gms.restarting then s1.mbxDone pair 1 []
    else
      let s2 := s1.putWord (mbxBase pair + 4) (s.mword (mbxBase pair + 4) ||| 0x80000000#32)
      State.mbxAdvance 2 ((s2.setFlag (Adr.PEVT Pg.MBX) pair false).setGms { s2.gms with doors := s2.gms.doors ++ [pair] })

/-- What a command answers: the state after it, RESULT and the response. -/
abbrev Answer := State × Nat × List Byte

def Answer.ok (s : State) (resp : List Byte) : Answer := (s, 0, resp)
def Answer.refused (s : State) (reason : Nat) : Answer := (s, 4, wordBytes (w32 reason))
def Answer.badArg (s : State) : Answer := (s, 5, [])

/-- A mailbox command of a pair: it runs when it is the first in doorbell order, its code is the one in CMD and the level suffices. [DEDUCED, assumption 70] -/
def State.mbxRun (s : State) (pair code lvl : Nat) (f : State → Answer) : State :=
  if s.gms.doors.head? = some pair ∧ s.mbxCode pair = code ∧ s.gms.restarting = false then
    let a : Answer := if s.level < lvl then (s, 3, []) else if 16128 < s.reqLen pair ∧ code ≠ 0x13 then .badArg s else f s
    State.mbxAdvance 2 (a.1.mbxDone pair a.2.1 a.2.2)
  else s

/-- GMS restarts: commands in progress are answered GMS_DOWN, a commit in progress leaves its bank invalid (R61, R403, R412). [DEDUCED, assumption 71] -/
def State.gmsDown (s : State) : State :=
  let s1 := (s.icxReset 4).setFlag Adr.SYS_RSTCAUSE 7 true
  let s2 := s1.gms.doors.foldl (fun t d => t.mbxDone d 1 []) s1
  let s3 := if s2.flag Adr.MBX_GSTAT 9 then
      ((s2.spoilBank bbMagic bb0 bb1 0x100000).setFld Adr.MBX_GSTAT 10 9 0).setGms { s2.gms with repeatCommit := true, snap := none }
    else s2
  s3.setGms { s3.gms with restarting := true, challenge := none, download := none, session := [] }

/-- GMS is back: a broken commit is repeated at once. [DEDUCED, assumption 71] -/
def State.gmsBack (s : State) : State :=
  let s1 := s.setGms { s.gms with restarting := false, repeatCommit := false }
  if s.gms.repeatCommit then s1.commitStart else s1

end Sys2Proof.Machine
end

