-- ==== Sys2Proof/Machine/PowerOps.lean ====
section
/-! DEFINITION. Power, clocks and reset (chapter 03): domain requests, start-up and its stages, sleep and wake, supply levels, clock faults
and the scopes of the resets. -/

namespace Sys2Proof.Machine

/-! ### What survives a reset (R47, R53, R61) -/

/-- Registers kept in PD0: WAKEEN, WAKESRC, RSTCAUSE, WAKETMR, RTC, RETAIN0 to RETAIN15, and the CMPB7 page without its owner (R49, R216). -/
def mastReg (a : Nat) : Bool :=
  [Adr.SYS_WAKEEN, Adr.SYS_WAKESRC, Adr.SYS_RSTCAUSE, Adr.SYS_WAKETMR, Adr.SYS_RTC].contains a
    || (decide (Adr.SYS_RETAIN 0 ≤ a) && decide (a ≤ Adr.SYS_RETAIN 15))
    || (decide (a / 4096 = Pg.CMPB 7) && decide (a % 4096 ≠ 0x18))

/-- The module with everything but PD0 lost: Masthead registers and comparators, MRAM and OTP, the CAN0 wake filter and the levels at the
pins stay; Shroud B keeps its state where keepB says so. -/
def State.resetImage (s : State) (ph : Phase) (keepB : Bool) : State :=
  { State.reset with
    pending := s.pending
    regs := Store.clear (fun a => !mastReg a) s.regs
    mem := Store.clear (fun a => decide (a < 0x10000000) || decide (0x12000000 ≤ a)) s.mem
    free := s.free
    pwr := { Power.reset with
      phase := ph, store := s.pwr.store, savedReq := s.pwr.savedReq, sealed := s.pwr.sealed, writes := s.pwr.writes, second := s.pwr.second }
    pins := s.pins
    kept := s.kept
    shroud := if keepB then { s.shroud with a := Channel.reset } else { Shroud.reset with pins := s.shroud.pins }
    cmps := Store.clear (fun k => decide (k < 28)) s.cmps
    twls := (List.range 4).foldl (fun l n => Store.put (fun _ => Twl.reset) n { Twl.reset with a := (s.twl n).a, b := (s.twl n).b } l) []
    halls := (List.range 3).foldl (fun l n => Store.put (fun _ => Hall.reset) n { Hall.reset with code := (s.hall n).code } l) []
    net := { Net.reset with wake := s.net.wake } }

/-- A new phase. -/
def State.setPhaseOf (s : State) (p : Phase) : State := s.setPwr { s.pwr with phase := p }

/-- The part is started: not dark and not asleep. -/
def State.awake (s : State) : Bool := s.pwr.phase != .dark && s.pwr.phase != .sleep

/-- GMS runs its firmware. [DEDUCED, assumption 71] -/
def State.gmsRuns (s : State) : Bool := s.pwr.phase == .run && !s.gms.restarting

/-! ### Start-up stages (R58, R60, R457) -/

/-- BOOTSTAT.STAGE. -/
def State.stage (s : State) : Nat := s.fld Adr.SYS_BOOTSTAT 3 0
def State.setStage (s : State) (n : Nat) : State := s.setFld Adr.SYS_BOOTSTAT 3 0 n

/-- The last start was a warm wake. -/
def State.wasWarm (s : State) : Bool := s.flag Adr.SYS_BOOTSTAT 5

/-- Gate islands that STORE leaves unpowered (R2, R442). -/
def State.islandHeld (s : State) (g : Nat) : Bool := s.pwr.store && decide (g < 2)

/-- The requested gate supplies are up, one of them at least. -/
def State.suppliesUp (s : State) : Bool :=
  let l := [9, 10].filter fun d => s.flag Adr.SYS_PDREQ d
  !l.isEmpty && l.all s.domOn

/-- No self-test of a powered group runs or has failed. -/
def State.testsPassed (s : State) : Bool :=
  (List.range 6).all fun g => !s.domOn (islandDom g) || s.islandHeld g
    || (!s.flag (Adr.GGRP_GSTAT g) 7 && !s.flag (Adr.PFAULT (Pg.GGRP g)) 8)

/-- Every configured group has passed its reduced self-test: a group is configured once its page has an owner (DEDUCED, assumption 21). -/
def State.warmTestsPassed (s : State) : Bool :=
  let l := (List.range 6).filter fun g => s.owner (Pg.GGRP g) != 0 && s.domOn (islandDom g)
  !l.isEmpty && l.all fun g => !s.groupEnableBlocked g

/-- Ready for precharge: stage 8, RFP and its event. -/
def State.readyForPrecharge (s : State) : State := ((s.setStage 8).setFlag Adr.SYS_BOOTSTAT 4 true).raise Pg.SYS 2

/-- The stages that the present state allows. -/
def State.bootAdvance (s : State) : State :=
  let operate := s.shroud.a.state == 1 && s.shroud.b.state == 1
  if s.wasWarm then s.when (s.stage == 3 && operate && s.warmTestsPassed) State.readyForPrecharge
  else
    let s1 := s.when (s.stage == 4 && s.fld Adr.SYS_PDREQ 11 5 != 0) fun t => t.setStage 5
    let s2 := s1.when (s1.stage == 5 && s1.suppliesUp) fun t => t.setStage 6
    let s3 := s2.when (s2.stage == 6 && s2.testsPassed) fun t => t.setStage 7
    s3.when (s3.stage == 7 && operate) State.readyForPrecharge

/-! ### Domain requests (R43 to R46) -/

/-- A domain is on or being switched on. -/
def State.domUp (s : State) (d : Nat) : Bool := s.domOn d || s.pwr.switching.contains d

/-- The domains that make GMS refuse a request to switch on and off two lists of domains. [DEDUCED, assumption 70] -/
def State.pdRefusal (s : State) (on off : List Nat) : Nat :=
  let after (d : Nat) : Bool := (s.domUp d || on.contains d) && !off.contains d
  maskOf 12 fun d =>
    (on.contains d && ((domNeeds d).any (fun r => !after r) || (s.pwr.store && d == 9)))
      || (off.contains d && (s.domBusy d || (List.range 12).any fun e => after e && (domNeeds e).contains d))

/-- An accepted request: off in reverse dependency order at once, on in dependency order. -/
def State.pdAccept (s : State) (on off : List Nat) : State :=
  let s1 := s.each (domOrder.reverse.filter off.contains) fun t d =>
    (t.setPwr { t.pwr with switching := t.pwr.switching.filter fun x => x != d }).domainOff d
  let s2 := s1.setPwr { s1.pwr with switching := s1.pwr.switching ++ domOrder.filter on.contains }
  let req := (s2.reg Adr.SYS_PDREQ ||| w32 (maskOf 12 on.contains)) &&& ~~~w32 (maskOf 12 off.contains)
  (s2.setReg Adr.SYS_PDREQ req).bootAdvance

/-- PD_REQ: request word 0 names the domains to switch on, word 1 those to switch off. [DEDUCED, assumption 26] -/
def State.pdRequest (s : State) (pair : Nat) : Answer :=
  let a := s.reqWord pair 0
  let b := s.reqWord pair 1
  if s.reqLen pair < 8 ∨ a &&& b ≠ 0#32 ∨ (a ||| b) &&& 0xFFFFF007#32 ≠ 0#32 then .badArg s
  else
    let on := (List.range 12).filter fun d => bit a d && !s.domUp d
    let off := (List.range 12).filter fun d => bit b d && s.domUp d
    let m := s.pdRefusal on off
    if m ≠ 0 then .refused s m else .ok (s.pdAccept on off) []

/-- The clamps of a switched domain release; the full self-test of a gate group starts with its islands' supplies (R253). -/
def State.domainPowered (s : State) (d : Nat) : State :=
  if s.pwr.switching.contains d && (domNeeds d).all s.domOn then
    let s1 := s.domainOn d
    let gs := (List.range 6).filter fun g => islandDom g == d && !s.islandHeld g && !bit s.shroud.cut g
    (s1.each gs State.selfTestStart).bootAdvance
  else s

/-! ### Supply (R34, R62 to R64) -/

/-- VS shown in VSMON. [DEDUCED, assumption 23] -/
def State.setVs (s : State) (vs : Nat) : State :=
  ((s.setPins { s.pins with vs := vs }).setFld Adr.SYS_VSMON 15 0 vs).setFlag Adr.SYS_VSMON 17 (decide (3600 < vs))

/-- VS falls through 16.0 V. [DEDUCED, assumption 23] -/
def State.vsWarning (s : State) (vs : Nat) : State :=
  let t := s.setVs vs
  if s.awake && decide (vs < 1600) && !s.flag Adr.SYS_VSMON 16 then
    let u := ((t.setFlag Adr.SYS_VSMON 16 true).raise Pg.SYS 4).setPwr { t.pwr with dip := some (s.now, vs) }
    if u.flag Adr.MBX_GSTAT 9 then u else u.commitStart
  else t

/-- VS rises through 17.0 V: the dip is logged with its duration and minimum. [DEDUCED, assumption 23] -/
def State.vsResume (s : State) (vs lowest : Nat) : State :=
  let t := s.setVs vs
  if s.awake && decide (1700 < vs) && s.flag Adr.SYS_VSMON 16 then
    let u := (t.setFlag Adr.SYS_VSMON 16 false).raise Pg.SYS 4
    let (t0, low) := s.pwr.dip.getD (s.now, lowest)
    let d : Dip := ⟨s.now - t0, min low lowest⟩
    let v := (u.setPwr { u.pwr with dip := none }).logKind .dip 0 d.lowest
    let bb := v.gms.bb
    v.setBb { bb with dips := (bb.dips ++ [d]).drop ((bb.dips.length + 1) - 32) }
  else t

/-- VS rises above 36.0 V. -/
def State.vsOvervoltage (s : State) (vs : Nat) : State :=
  (s.setVs vs).when (s.awake && decide (3600 < vs) && !s.flag Adr.SYS_VSMON 17) fun t => t.raise Pg.SYS 5

/-- Shroud puts every group under SF1 with a cause, in both channels. [DEDUCED, assumption 45] -/
def State.shroudAll (s : State) (cause : Nat) : State := (s.each (List.range 6) fun t g => t.forceSf1 g cause).reselect

/-- Every trim context stops. -/
def State.trimStopAll (s : State) : State := s.each [0, 1, 2, 3] State.engineStop

/-- VS falls through 8.0 V (R64). [DEDUCED, assumption 45] -/
def State.supplyReset (s : State) (vs : Nat) : State :=
  let t := s.setVs vs
  if decide (vs < 800) && (s.pwr.phase == .run || s.pwr.phase == .recovery || s.pwr.phase == .halted) then
    let s1 := (t.setShroud { t.shroud with supply := true }).shroudAll 11
    let s2 := s1.setBb { s1.gms.bb with dcdcCause := s1.fld Adr.DCDC_CAUSE 7 0 }
    let s3 := (((s2.pairReset 0 false).pairReset 1 false).trimStopAll).ctrDrop 0
    let s4 := s3.each [11, 8, 7, 4, 3] State.domainOff
    let s5 := (s4.setPwr { s4.pwr with phase := .holdup, switching := [] }).setFlag Adr.SYS_RSTCAUSE 1 true
    let s6 := s5.setGms { s5.gms with after := .nothing, doors := [] }
    if s6.flag Adr.MBX_GSTAT 9 then s6 else s6.commitStart
  else if decide (vs < 800) && s.pwr.phase == .sleep then (t.resetImage .dark false).setFlag Adr.SYS_RSTCAUSE 1 true
  else t

/-- Masthead loses power too: PD0 starts again with MLOSS; a supply reset that stands in RSTCAUSE is kept in it (R51, R61, R455). [DEDUCED, assumption 25] -/
def State.mastheadLost (s : State) : State :=
  ((s.setRegs []).setCmps []).setReg Adr.SYS_RSTCAUSE (oneBit 9 ||| (s.reg Adr.SYS_RSTCAUSE &&& 2#32))
    |>.setPwr { s.pwr with second := 0, savedReq := 7#32, sealed := 0 }

/-- The hold-up runs out: the remaining domains switch off, a commit in progress breaks; the Masthead may be lost too, at this instant or
later. [DEDUCED, assumption 25] -/
def State.holdupExhausted (s : State) (mastLost : Bool) : State :=
  if s.pwr.phase = .holdup then
    let s1 := if s.flag Adr.MBX_GSTAT 9 then s.spoilBank bbMagic bb0 bb1 0x100000 else s
    (s1.resetImage .dark false).when mastLost State.mastheadLost
  else s.when (s.pwr.phase == .dark && mastLost) State.mastheadLost

/-! ### Wake sources (R50, R53, R54, R458) -/

/-- Level-type sources that are active: WAKE pins, pilot, Masthead comparators. [PRESUMED, assumption 20] -/
def State.wakeActive (s : State) : Word :=
  w32 (maskOf 15 fun i =>
    if i < 2 then bit s.pins.pins (17 + i)
    else if i = 14 then s.fld Adr.PILOT_STAT 2 0 != 0 || s.fld Adr.PILOT_STAT 10 8 != 0
    else decide (10 ≤ i) && s.cmpState (18 + i) == 2)

/-- A source qualifies: it latches at any time. -/
def State.wakeLatch (s : State) (src : Nat) : State :=
  let ok := if src = 15 then false else if 10 ≤ src ∧ src ≤ 13 then s.cmpState (18 + src) == 2 else true
  if !ok then s
  else
    let t := if src < 2 then s.setPins { s.pins with pins := setBit s.pins.pins (17 + src) true } else s
    t.setFlag Adr.SYS_WAKESRC src true

/-- The wake timer expires. -/
def State.wakeTimerEnd (s : State) : State :=
  if s.reg Adr.SYS_WAKETMR = 0#32 then s
  else ((s.setReg Adr.SYS_WAKETMR 0#32).setFlag Adr.SYS_WAKESRC 15 true).when s.awake fun t => t.raise Pg.SYS 3

/-- A second of RTC: the wake timer and the wait after failed access attempts count down. -/
def State.rtcSecond (s : State) : State :=
  let s1 := s.setReg Adr.SYS_RTC (s.reg Adr.SYS_RTC + 1#32)
  let w := s1.reg Adr.SYS_WAKETMR
  let s2 := if w = 0#32 then s1 else if w = 1#32 then s1.wakeTimerEnd else s1.setReg Adr.SYS_WAKETMR (w - 1#32)
  s2.when (s2.fld Adr.MBX_AFAIL 31 16 != 0) fun t => t.setFld Adr.MBX_AFAIL 31 16 (t.fld Adr.MBX_AFAIL 31 16 - 1)

/-- WAKE_CFG: set and clear masks of WAKEEN, WAKETMR, clear mask of WAKESRC. A cleared WAKE0 or WAKE1 is taken as its pin low again
(PRESUMED, assumption 20). -/
def State.wakeCfg (s : State) (pair : Nat) : Answer :=
  if s.reqLen pair < 16 then .badArg s
  else
    let en := (s.reg Adr.SYS_WAKEEN ||| s.reqWord pair 0) &&& ~~~(s.reqWord pair 1) &&& 0x3FFFF#32
    let clr := s.reqWord pair 3
    let s1 := ((s.setReg Adr.SYS_WAKEEN en).setReg Adr.SYS_WAKETMR (s.reqWord pair 2)).clrReg Adr.SYS_WAKESRC clr
    .ok (s1.setPins { s1.pins with pins := s1.pins.pins &&& ~~~((clr &&& 3#32) <<< 17) }) []

/-! ### Sleep (R53, R216) -/

/-- Why sleep or a cold reset is refused: 1 a contactor output is on, 2 a gate group is enabled; sleep also 3 a commit in progress, 4 an
active enabled level-type source. [DEDUCED, assumption 70] -/
def State.offRefusal (s : State) : Nat :=
  if s.fld Adr.CTR_STAT 31 24 ≠ 0 then 1 else if (List.range 6).any fun g => s.pageEn (Pg.GGRP g) then 2 else 0
/-- Why a request of sleep is refused, 0 where it is accepted. [DEDUCED, assumption 70] -/
def State.sleepRefusal (s : State) : Nat :=
  if s.offRefusal ≠ 0 then s.offRefusal
  else if s.flag Adr.MBX_GSTAT 9 then 3
  else if s.wakeActive &&& s.reg Adr.SYS_WAKEEN ≠ 0#32 then 4 else 0

/-- What follows the next commit. -/
def State.setAfter (s : State) (a : AfterCommit) : State := s.setGms { s.gms with after := a }

/-- SLEEP: GO, and a commit before the entry. [DEDUCED, assumption 26] -/
def State.sleepGo (s : State) : Answer :=
  if s.sleepRefusal ≠ 0 then .refused s s.sleepRefusal
  else .ok (((s.setFlag Adr.SYS_SLEEPCTRL 0 true).setAfter .sleep).commitStart) []

/-- Sleep entry: the requests are saved, the MRAM counter sealed, the wake filter copied; running Masthead comparators take their sleep
setting and a start. [DEDUCED, assumption 30] -/
def State.sleepEntry (s : State) : State :=
  let s1 := (s.setPwr { s.pwr with savedReq := s.reg Adr.SYS_PDREQ, sealed := s.pwr.writes }).wakeCopy
  let s2 := s1.each [28, 29, 30, 31] fun t k =>
    if (t.cmp k).running then (t.putCmp k { t.cmp k with asleep := true }).cmpBegin k else t
  s2.resetImage .sleep true

/-- COLD_RESET and ECUReset: a commit, then the reset with its cause. -/
def State.coldResetGo (s : State) (cause : Nat) : State := (s.setAfter (.coldReset cause)).commitStart

/-- The cold reset itself (R61); a cold start follows. -/
def State.coldResetNow (s : State) (cause : Nat) : State := (s.resetImage .dark false).setFlag Adr.SYS_RSTCAUSE cause true

/-- A commit's write completes, and what waited for it takes place. -/
def State.commitDone (s : State) : State :=
  if !s.flag Adr.MBX_GSTAT 9 then s
  else
    let t := s.commitWritten
    if t.flag Adr.MBX_GSTAT 9 then t
    else match t.gms.after with
      | .nothing => t
      | .sleep => (t.setAfter .nothing).sleepEntry
      | .coldReset c => (t.setAfter .nothing).coldResetNow c

/-! ### Cold start (R58, R419, R420, R455, R459) -/

/-- The pages GMS claims and the event enables it writes at stage 1 (R110, R459). -/
def State.gmsPages (s : State) : State :=
  let own (t : State) (p : Nat) : State := (t.setReg (Adr.POWNER p) 3#32).crcTouch p
  let en (t : State) (p : Nat) (m : Word) : State := (t.setReg (Adr.PEVEN p) m).crcTouch p
  let s1 := own (own s Pg.ICX) Pg.TBU
  let s2 := en (en (en s1 Pg.SYS 0x7F#32) Pg.ICX 0xF#32) Pg.TBU 0xFF#32
  (en (en s2 Pg.SHRD 0xFF#32) Pg.MBX 0x3F#32).setStage 1

/-- Device time starts (R87). -/
def State.startTime (s : State) : State :=
  let sub := w32 (s.pwr.second * 32768 / 600000000)
  let s1 := (s.setPwr { s.pwr with dtime := 0 }).each [0, 1] fun t n =>
    (t.setReg (Adr.EVR_EPOCH n) (t.reg Adr.SYS_RTC)).setReg (Adr.EVR_EPOCHSUB n) sub
  s1.setStage 2

/-- The live record as a start finds it, its START entry, and the return to L0 (R409, R410, R426). [DESIGN CHOICE, assumption 24] -/
def State.startRecords (s : State) (bank : Bool) (level : Nat) : State :=
  let b := if bank then s.kept.bb.getD BlackBox.reset else BlackBox.reset
  let s1 := s.setGms { s.gms with bb := { b with recmask := recmaskReset, bbper := 60 }, meter := s.kept.meter.getD Meter.reset }
  let s2 := (s1.when (!bank) fun t => t.fault Pg.MBX 1).logStart
  let s3 := if level = 0 then s2 else (s2.logKind .access 0 0).raise Pg.MBX 3
  let n := s3.kept.fails
  (((s3.setReg Adr.MBX_BBSEQ (s3.newestSeq bbMagic bb0 bb1 0x100000)).setReg Adr.MBX_BBLOST (w32 s3.gms.bb.lost)).setReg Adr.MBX_AFAIL
    (w32 (backOff n * 65536 + min n 255))).setFld Adr.MBX_BOOT 25 16 s3.kept.rollback

/-- An update entry and its flag. -/
def State.logUpdate (s : State) (low : Nat) : State := (s.logKind .update 0 low).raise Pg.MBX 4

/-- The boot ROM accepts a slot (R419). -/
def State.slotOk (s : State) (f : SlotFacts) (oem : Bool) : Bool := f.signed && decide (s.kept.rollback ≤ f.rollback) && (!oem || f.oemSigned)

/-- The slot to boot first, and whether as a trial: a trial that has run unconfirmed is rejected (R421). [DESIGN CHOICE, assumption 66] -/
def State.bootChoice (s : State) : State × Bool × Bool :=
  match s.kept.trial with
  | none => (s, s.kept.slotB, false)
  | some b =>
    if s.kept.trialRan then
      ((s.setKept { s.kept with trial := none, trialRan := false, rejected := some b }).mramWrote.logUpdate 2, s.kept.slotB, false)
    else ((s.setKept { s.kept with trialRan := true }).mramWrote, b, true)

/-- A personality history entry when the personality changes (R418). -/
def State.notePersonality (s : State) : State :=
  let m := s.gms.meter
  match m.personalities.getLast? with
  | some (_, p) => if p = s.pwr.store then s else s.setGms { s.gms with meter := { m with personalities := m.personalities ++ [(s.reg Adr.SYS_RTC, s.pwr.store)] } }
  | none => s.setGms { s.gms with meter := { m with personalities := [(s.reg Adr.SYS_RTC, s.pwr.store)] } }

/-- The Shroud configuration is loaded into the page and into Shroud B (R147, R407). -/
def State.loadShroud (s : State) (f : BootFacts) : State :=
  let bits_ : List (Nat × Word) := f.provisioned.map fun e => (e.1.toNat, e.2)
  if f.configValid then
    let t := s.loadConfig (s.kept.config.getD bits_)
    t.setShroud { t.shroud with cfgLoaded := true, cfgOk := true }
  else (s.setShroud { s.shroud with cfgLoaded := false, cfgOk := false }).fault Pg.MBX 2

/-- The pairs' domains come on; both pairs leave reset once the OEM key is written (R58, R419). [DESIGN CHOICE, assumption 47] -/
def State.releasePairs (s : State) (oem : Bool) : State :=
  let s1 := ((s.domainOn 3).domainOn 4).orReg Adr.SYS_PDREQ 0x18#32
  s1.when oem fun t => (t.pairRelease 0).pairRelease 1

/-- From secure boot to the pairs' first instruction; recovery when both slots fail. -/
def State.coldBoot (s : State) (f : BootFacts) (level : Nat) : State :=
  let s1 := ((s.setReg Adr.SYS_CLKSTAT 0xF#32).setPhaseOf .run).startTime
  let s2 := (s1.startRecords f.bbBank level).notePersonality
  let (s3, first, trial) := s2.bootChoice
  let ok (b : Bool) : Bool := s3.slotOk (if b then f.slotB else f.slotA) f.oemKeyWritten
  let boot (t : State) (b : Bool) : State :=
    let u := ((t.setFlag Adr.MBX_BOOT 0 b).setReg Adr.MBX_IMGVER (if b then f.slotB.version else f.slotA.version)).loadShroud f
    let h := u.shroud
    let v := u.setShroud { h with a := { h.a with bist := f.bistA }, b := { h.b with bist := f.bistB } }
    let w := if f.bistA && f.bistB then v else v.logKind .event 0 (maskOf 2 fun k => if k = 0 then !f.bistA else !f.bistB)
    (w.releasePairs f.oemKeyWritten).setStage 3
  if ok first then (boot s3 first).setFlag Adr.MBX_BOOT 1 trial
  else if ok (!first) then boot ((s3.setFlag Adr.MBX_BOOT 2 true).logUpdate 1) (!first)
  else (s3.setPhaseOf .recovery).setFlag Adr.MBX_GSTAT 8 true

/-- The start from power alone: everything but PD0 is as after reset; without XTAL25 it halts before secure boot (R56). -/
def State.coldPower (s : State) (f : BootFacts) : State :=
  let level := if s.pwr.phase = .sleep then 0 else s.level
  let vs := max s.pins.vs 900
  let s1 := (s.resetImage .halted false).setVs vs
  let s2 := (s1.setPwr { s1.pwr with store := s1.kept.store }).gmsPages
  if f.xtalOk then s2.coldBoot f level else s2

/-- A cold start may begin: dark, or on the hold-up with no commit in progress (R65). -/
def State.coldReady (s : State) : Bool := s.pwr.phase == .dark || (s.pwr.phase == .holdup && !s.flag Adr.MBX_GSTAT 9)
/-- R65: the cold start, from a phase that may begin one. [DESIGN CHOICE, assumption 4; DEDUCED, assumption 23] -/
def State.coldStart (s : State) (f : BootFacts) : State := if s.coldReady then s.coldPower f else s

/-- A retry while XTAL25 is absent. -/
def State.xtalRetry (s : State) (f : BootFacts) : State := if s.pwr.phase == .halted && f.xtalOk then s.coldBoot f 0 else s

/-! ### Warm wake (R59, R60) -/

/-- A latched, enabled wake source. -/
def State.wakeLatched (s : State) : Bool := s.reg Adr.SYS_WAKESRC &&& s.reg Adr.SYS_WAKEEN != 0#32

/-- Shroud B keeps its state (R147); Shroud A starts from Shroud B's kept decisions (DEDUCED, assumption 22). INIT if Shroud A's BIST fails or the
configuration is not valid; FAILSAFE stays. -/
def State.shroudWake (s : State) (f : BootFacts) : State :=
  let h := s.shroud
  let st := if h.b.state = 3 ∨ (f.bistA && f.configValid) then h.b.state else 0
  let t := s.setShroud { h with a := { h.b with state := st, image := Image.reset, bist := f.bistA }, b := { h.b with state := st } }
  (t.setReg Adr.SHRD_STATE (w32 st)).loadShroud f

/-- The domains of the saved mask come on with their gate supplies; the reduced self-tests are due. -/
def State.restoreDomains (s : State) : State :=
  let req := s.pwr.savedReq
  let ds := domOrder.filter fun d => decide (3 ≤ d) && bit req d
  let s1 := (s.each ds State.domainOn).setReg Adr.SYS_PDREQ (req ||| 7#32)
  let gs := (List.range 6).filter fun g => s1.domOn (islandDom g) && !s1.islandHeld g
  s1.each gs fun t g => t.putGroup g { t.group g with warmDue := true }

/-- The start from sleep; a counter that differs from the seal makes it a cold start. [DEDUCED, assumption 25; DEDUCED, assumption 30] -/
def State.warmWake (s : State) (f : BootFacts) : State :=
  if s.pwr.phase ≠ .sleep ∨ !s.wakeLatched then s
  else if s.pwr.writes ≠ s.pwr.sealed ∨ !f.xtalOk then s.coldPower f
  else
    let s1 := (s.setPhaseOf .run).setVs s.pins.vs
    let s2 := (s1.each [28, 29, 30, 31] fun t k => t.putCmp k { t.cmp k with asleep := false }).gmsPages
    let s3 := (s2.setReg Adr.SYS_CLKSTAT 0xF#32).startTime
    let s4 := ((s3.setFlag Adr.SYS_RSTCAUSE 2 true).startRecords f.bbBank 0).setFlag Adr.MBX_BOOT 0 s.kept.slotB
    let s5 := (s4.shroudWake f).restoreDomains
    let s6 := s5.when f.oemKeyWritten fun t => [0, 1].foldl (fun u n => u.when (u.domOn (3 + n)) fun v => v.pairRelease n) t
    ((s6.setReg Adr.MBX_IMGVER (if s.kept.slotB then f.slotB.version else f.slotA.version)).setFlag Adr.SYS_BOOTSTAT 5 true).setStage 3

/-! ### Clock faults (R56, R57) -/

/-- PLL_NET is gone: rings, Ethernet ports and the Twin link stop. [DEDUCED, assumption 27] -/
def State.pllnetDown (s : State) : State :=
  let s1 := (s.setFlag Adr.SYS_CLKSTAT 4 false).each [0, 1, 2, 3] State.ringStop
  (s1.setNet { s1.net with stopped := s1.net.stopped ||| 0x30#32 }).twinOff

/-- A fault of PLL_NET alone. -/
def State.pllnetFault (s : State) : State :=
  if s.flag Adr.SYS_CLKSTAT 4 then
    let t := s.pllnetDown.raise Pg.SYS 6
    t.setPwr { t.pwr with relocks := 0 }
  else s

/-- An attempt to relock it, three at most. -/
def State.pllnetRelock (s : State) (ok : Bool) : State :=
  if s.flag Adr.SYS_CLKSTAT 3 && !s.flag Adr.SYS_CLKSTAT 4 && (s.domOn 7 || s.domOn 8) && decide (s.pwr.relocks < 3) then
    let t := (s.setBb { s.gms.bb with relocks := s.gms.bb.relocks ++ [ok] }).setPwr { s.pwr with relocks := s.pwr.relocks + 1 }
    if !ok then t
    else
      let keep := w32 (maskOf 2 fun n => t.owner (Pg.ETH n) != 3) <<< 4
      let u := (t.setFlag Adr.SYS_CLKSTAT 4 true).setNet { t.net with stopped := t.net.stopped &&& (keep ||| 0xFFFFFFCF#32) }
      u.when (u.flag Adr.TWIN_CTRL 0) State.twinRun
  else s

/-- XTAL25 (true) or PLL_SYS fails. [DEDUCED, assumption 27; DEDUCED, assumption 45] -/
def State.clockFault (s : State) (xtal : Bool) : State :=
  if s.flag Adr.SYS_CLKSTAT 3 then
    let s1 := s.setReg Adr.SYS_CLKSTAT (if xtal then 3#32 else setBit (s.reg Adr.SYS_CLKSTAT) 3 false)
    let s2 := (s1.setShroud { s1.shroud with clock := true }).shroudAll 10
    let s3 := (s2.when xtal State.pllnetDown).trimStopAll.raise Pg.SYS 6
    s3.coldResetGo 8
  else s

end Sys2Proof.Machine
end

