-- ==== Sys2Proof/Machine/GmsCmds.lean ====
section
/-! DEFINITION. What the mailbox commands of R404 answer, and the jobs Goldon does by itself: draining records, metering, scrubbing. Payload
layouts that chapter 17 leaves open are those of DESIGN CHOICE, assumption 60. -/

namespace Sys2Proof.Machine

/-- VERSION: image version, rollback counter, serial number. -/
def State.ansVersion (s : State) : Answer :=
  .ok s (wordBytes (s.reg Adr.MBX_IMGVER) ++ wordBytes (w32 s.kept.rollback) ++ (List.range 4).flatMap fun k => wordBytes (Config.serial k))

/-- PERSONALITY: word 0 is 0 for AXLE, 1 for STORE; it takes effect at the next cold start (R1). -/
def State.ansPersonality (s : State) (pair : Nat) : Answer :=
  let w := s.reqWord pair 0
  if s.reqLen pair < 4 ∨ 1 < w.toNat then .badArg s else .ok ((s.setKept { s.kept with store := w == 1#32 }).mramWrote) []

/-- COLD_RESET. -/
def State.ansColdReset (s : State) : Answer := if s.offRefusal ≠ 0 then .refused s s.offRefusal else .ok (s.coldResetGo 3) []

/-- PAIR_RESTART: the other pair, refused unless it is FAULTED (R135). -/
def State.ansPairRestart (s : State) (pair : Nat) : Answer :=
  if s.pairMode (1 - pair) ≠ 3 then .refused s 1 else .ok (s.pairRestart (1 - pair)) []

/-- ICX_CFG: CLASS, 16 wait limits, 12 budgets (R110). -/
def State.ansIcxCfg (s : State) (pair : Nat) : Answer :=
  if s.reqLen pair < 116 then .badArg s
  else
    let old := s.reg Adr.ICX_CLASS
    let s1 := (s.setReg Adr.ICX_CLASS (s.reqWord pair 0 &&& 0xFFFFFF#32)).icxClasses old
    let s2 := s1.each (List.range 16) fun t k =>
      t.setReg (Adr.ICX_WAITLIM k) (limitField (s.reqWord pair (1 + k) &&& 0xFF#32) 7 0 4 255)
    let s3 := s2.each (List.range 12) fun t p => t.setReg (Adr.TBU_BUDGET p) (s.reqWord pair (17 + p) &&& 0xFFFF#32)
    .ok ((s3.crcTouch Pg.ICX).crcTouch Pg.TBU) []

/-- RETAIN_WRITE: pairs of index and value; an index of the other pair is out of range. -/
def State.ansRetain (s : State) (pair : Nat) : Answer :=
  let n := s.reqLen pair / 8
  let idx (k : Nat) : Nat := (s.reqWord pair (2 * k)).toNat
  if n = 0 ∨ s.reqLen pair % 8 ≠ 0 ∨ (List.range n).any (fun k => idx k / 8 != pair) then .badArg s
  else .ok (s.each (List.range n) fun t k => t.setReg (Adr.SYS_RETAIN (idx k)) (s.reqWord pair (2 * k + 1))) []

/-- A pair's data area (R405): its two banks. -/
def dataBank (pair : Nat) : Nat := 0x11A00000 + pair * 0x100000
def dataRoom : Nat := 0x80000 - 16

/-- DATA_STORE: offset, length, bytes. -/
def State.ansDataStore (s : State) (pair : Nat) : Answer :=
  let off := (s.reqWord pair 0).toNat
  let len := (s.reqWord pair 1).toNat
  if s.reqLen pair < 8 ∨ s.reqLen pair ≠ 8 + len ∨ dataRoom < off + len then .badArg s
  else
    let b := dataBank pair
    let old := s.bankBody Config.dataMagic b (b + 0x80000) 0x80000
    let body := padTo off old ++ s.reqBytes pair 8 len ++ old.drop (off + len)
    .ok (s.writeBank Config.dataMagic b (b + 0x80000) 0x80000 body) []

/-- A response holds at most 16 384 bytes. -/
def respRoom : Nat := 16384

/-- DATA_LOAD: bytes never stored read 0 (R460). -/
def State.ansDataLoad (s : State) (pair : Nat) : Answer :=
  let off := (s.reqWord pair 0).toNat
  let len := (s.reqWord pair 1).toNat
  if s.reqLen pair < 8 ∨ respRoom < len ∨ dataRoom < off + len then .badArg s
  else
    let b := dataBank pair
    .ok s (padTo len ((s.bankBody Config.dataMagic b (b + 0x80000) 0x80000).drop off))

/-- COMMISSION: word 0 is 1 to enter, 0 to leave (R148). -/
def State.ansCommission (s : State) (pair : Nat) : Answer :=
  let w := s.reqWord pair 0
  if s.reqLen pair < 4 ∨ 1 < w.toNat then .badArg s
  else if w = 1#32 then
    (if s.commissionRefusal ≠ 0 then .refused s s.commissionRefusal else .ok ((s.shroudEnter 2).reselect) [])
  else if s.shroud.a.state ≠ 2 then .refused s 1
  else .ok s.commissionLeave.mramWrote []

/-- BB_MARK: word 0 [15:0] is the firmware data. -/
def State.ansMark (s : State) (pair : Nat) : Answer :=
  if s.reqLen pair < 4 then .badArg s else .ok (s.logKind .mark 0 (bits (s.reqWord pair 0) 15 0)) []

/-- BB_READ: the newest valid bank by offset and length; FAILED without one. -/
def State.ansBbRead (s : State) (pair : Nat) : Answer :=
  let off := (s.reqWord pair 0).toNat
  let len := (s.reqWord pair 1).toNat
  if s.reqLen pair < 8 ∨ respRoom < len ∨ 0x100000 < off + len then .badArg s
  else match s.newestBank bbMagic bb0 bb1 0x100000 with
    | some b => .ok s (s.bytes (b + off) len)
    | none => (s, 6, [])

/-- BB_CFG: RECMASK in eight words, BBPER of 10 to 3600 s. -/
def State.ansBbCfg (s : State) (pair : Nat) : Answer :=
  let per := (s.reqWord pair 8).toNat
  if s.reqLen pair < 36 ∨ per < 10 ∨ 3600 < per then .badArg s
  else .ok (s.setBb { s.gms.bb with recmask := BitVec.ofNat 256 (bytesNat (s.reqBytes pair 0 32)), bbper := per }) []

/-- FC_CFG: 16 selectors, FCPER, FCPOST, four triggers (bit 31: used), the Shroud-trip trigger (R413). [DESIGN CHOICE, assumption 60] -/
def State.ansFcCfg (s : State) (pair : Nat) : Answer :=
  let w (k : Nat) : Word := s.reqWord pair k
  if s.reqLen pair < 92 ∨ (w 16).toNat < 1 ∨ 1000 < (w 16).toNat ∨ 2000 < (w 17).toNat then .badArg s
  else
    let trig := ([18, 19, 20, 21].filter fun k => bit (w k) 31).map fun k => bits (w k) 7 0
    .ok (s.setGms { s.gms with fc := { s.gms.fc with
      sels := (List.range 16).map (fun k => bits (w k) 15 0), fcper := (w 16).toNat, fcpost := (w 17).toNat, trig := trig,
      shroudTrig := bit (w 22) 0 } }) []

/-- FC_ARM: word 0 is 1 to arm, 0 to disarm. -/
def State.ansFcArm (s : State) (pair : Nat) : Answer :=
  let w := s.reqWord pair 0
  if s.reqLen pair < 4 ∨ 1 < w.toNat then .badArg s else .ok (s.fcArm (w == 1#32)) []

/-- METER_READ: E_IN, E_OUT, Q_IN, Q_OUT in 64 bits, GAPT in ms, CALSEQ. -/
def State.ansMeterRead (s : State) : Answer :=
  let m := s.gms.meter
  .ok s ([m.eIn, m.eOut, m.qIn, m.qOut].flatMap (fun a => natBytes 8 (a / 2 ^ 32)) ++ natBytes 4 (m.gapTicks / 600000) ++ natBytes 4 m.calseq)

/-- METER_CAL: MISEL, MIFS, gain (s = 30), offset, sign, ring mask, capacity, pack identifier; CALSEQ counts and is logged (R417). [DESIGN CHOICE, assumption 24; DESIGN CHOICE, assumption 60] -/
def State.ansMeterCal (s : State) (pair : Nat) : Answer :=
  if s.reqLen pair < 44 then .badArg s
  else
    let w (k : Nat) : Word := s.reqWord pair k
    let m := { s.gms.meter with
      misel := bits (w 0) 15 0, mifs := (w 1).toNat, gain := w 2, offs := w 3, negate := bit (w 4) 0, ringMask := bits (w 5) 3 0,
      capacity := (w 6).toNat, packId := [w 7, w 8, w 9, w 10], calseq := s.gms.meter.calseq + 1 }
    .ok (((s.setGms { s.gms with meter := m }).logKind .update 0 m.calseq).meterWrite) []

/-- PASSPORT_GET: the signed passport by offset and length. [DESIGN CHOICE, assumption 60] -/
def State.ansPassport (s : State) (pair : Nat) : Answer :=
  let off := (s.reqWord pair 0).toNat
  let len := (s.reqWord pair 1).toNat
  if s.reqLen pair < 8 ∨ respRoom < len ∨ s.passport.length < off then .badArg s else .ok s ((s.passport.drop off).take len)

/-- PASSPORT_ZADD: one entry of six words (R418). -/
def State.ansZadd (s : State) (pair : Nat) : Answer :=
  if s.reqLen pair < 24 then .badArg s
  else
    let w (k : Nat) : Word := s.reqWord pair k
    let m := s.gms.meter
    .ok (s.setGms { s.gms with meter := { m with trend := thin (m.trend ++ [⟨w 0, w 1, w 2, w 3, w 4, w 5⟩]) } }) []

/-- UPDATE_CONFIRM: with both pairs' the trial slot becomes active and the rollback counter follows (R421). -/
def State.ansConfirm (s : State) (pair : Nat) : Answer :=
  match s.kept.trial with
  | none => .refused s 1
  | some b =>
    if !s.flag Adr.MBX_BOOT 1 then .refused s 1
    else
      let c := if s.gms.confirms.contains pair then s.gms.confirms else pair :: s.gms.confirms
      let t := s.setGms { s.gms with confirms := c }
      if c.length < 2 then .ok t []
      else
        let r := max s.kept.rollback s.kept.trialIndex
        let u := (t.setKept { t.kept with slotB := b, trial := none, trialRan := false, rollback := r }).mramWrote
        .ok (((u.setFlag Adr.MBX_BOOT 1 false).setFld Adr.MBX_BOOT 25 16 r).logUpdate 3) []

/-! ### What Goldon does by itself -/

/-- A record-channel entry put where its time of first occurrence belongs. -/
def insertEntry (e : Nat × (Nat × Nat)) : List (Nat × (Nat × Nat)) → List (Nat × (Nat × Nat))
  | [] => [e]
  | f :: t => if e.2.1 < f.2.1 then e :: f :: t else f :: insertEntry e t

/-- The entries oldest first. -/
def sortEntries (l : List (Nat × (Nat × Nat))) : List (Nat × (Nat × Nat)) := l.foldl (fun m e => insertEntry e m) []

/-- GMS clears the flags behind a drained event in the pages it owns, DONE0 and DONE1 apart (R94, R459). -/
def State.clearGmsFlags (s : State) (e : Nat) : State :=
  (allPages.filter fun p => s.pageOn p && s.owner p == 3).foldl (fun t p =>
    t.clrReg (Adr.PEVT p) (w32 (maskOf 32 fun i => pageLine p i == e && !(p == Pg.MBX && decide (i < 2))))) s

/-- The record channel drained (R94, R411). -/
def State.recordDrain (s : State) : State :=
  if !s.gmsRuns then s
  else
    let l := sortEntries s.router.entries
    let s1 := l.foldl (fun t e =>
      let u := if t.gms.bb.recmask.getLsbD e.1 then
          t.logEntry ⟨e.2.1, e.2.2, .event, e.1, t.gms.bb.starts % 65536, 0⟩
        else t
      u.clearGmsFlags e.1) s
    s1.setRouter { s1.router with entries := [] }

/-- The yearly scrub of the MRAM, or the one after a Masthead power loss (R408). -/
def State.scrub (s : State) (bad : Bool) : State :=
  let rtc := (s.reg Adr.SYS_RTC).toNat
  if s.gmsRuns && (s.flag Adr.SYS_RSTCAUSE 9 || decide (s.kept.scrubbed + 31536000 ≤ rtc)) then
    let t := s.setKept { s.kept with scrubbed := rtc }
    if bad then (t.fault Pg.MBX 0).logKind .event 0 0 else t
  else s

end Sys2Proof.Machine
end

