-- ==== Sys2Proof/Machine/UdsOps.lean ====
section
/-! DEFINITION. The UDS services of Goldon (R401, R418 to R426). Negative response codes beside 0x22, 0x31 and 0x33 of chapter 17 are those of
ISO 14229 (PRESUMED, assumption 61). -/

namespace Sys2Proof.Machine

/-- The page of diagnostic channel 0 to 5: CAN0 to CAN3, ETH0, ETH1. -/
def chanPage (ch : Nat) : Nat := if ch < 4 then Pg.CAN ch else Pg.ETH (ch - 4)

/-- GMS serves a channel: its page is GMS's and enabled; in recovery CAN0 and ETH1 alone, for download (R401, R420). [PRESUMED, assumption 61] -/
def State.udsServes (s : State) (ch : Nat) (download : Bool) : Bool :=
  !s.gms.restarting && ((s.pwr.phase == .run && s.pageOn (chanPage ch) && s.owner (chanPage ch) == 3 && s.pageEn (chanPage ch))
    || (s.pwr.phase == .recovery && download && (ch == 0 || ch == 5)))

/-- The last answer. -/
def State.udsSay (s : State) (a : UdsAnswer) : State := s.setGms { s.gms with uds := a }

/-- A positive and a negative response. -/
def State.udsOk (s : State) (d : List Byte) : State := s.udsSay (.positive d)
def State.udsNo (s : State) (nrc : Byte) : State := s.udsSay (.negative nrc)

/-- The session of a channel: the default session is 1. -/
def State.udsSession (s : State) (ch : Nat) : Byte := Store.get (fun _ => 1#8) s.gms.session ch

/-- DiagnosticSessionControl. [PRESUMED, assumption 61] -/
def State.udsSessionControl (s : State) (ch : Nat) (x : Byte) : State :=
  if !s.udsServes ch true then s
  else if x = 0#8 ∨ 3 < x.toNat then s.udsNo 0x12#8
  else (s.setGms { s.gms with session := Store.put (fun _ => 1#8) ch x s.gms.session }).udsOk [x]

/-- SecurityAccess (R424, R425): odd sub-functions ask for the seed of a level, even ones answer. A challenge of L2 or L3 is good for 60 s
and one response. [PRESUMED, assumption 61; DESIGN CHOICE, assumption 66] -/
def State.udsSecurity (s : State) (ch : Nat) (sub : Byte) (verdict : Bool) : State :=
  let n := sub.toNat
  let lvl := (n + 1) / 2
  if !s.udsServes ch true then s
  else if s.udsSession ch = 1#8 then s.udsNo 0x7F#8
  else if n = 0 ∨ 6 < n then s.udsNo 0x12#8
  else if s.fld Adr.MBX_AFAIL 31 16 ≠ 0 then s.udsNo 0x37#8
  else if n % 2 = 1 then
    let t := s.setGms { s.gms with challenge := some ⟨lvl, ch, s.now⟩ }
    if lvl = 1 then t.udsOk [sub] else (t.took 16).udsOk (sub :: (List.range 16).map fun i => Config.freeByte (s.free + i))
  else
    let t := s.setGms { s.gms with challenge := none }
    match s.gms.challenge with
    | none => t.udsNo 0x24#8
    | some c =>
      if c.level ≠ lvl ∨ c.chan ≠ ch ∨ (1 < lvl ∧ c.issued + 36000000000 < s.now) then t.udsNo 0x24#8
      else if verdict then (t.accessOpened lvl (ch + 1)).udsOk [sub]
      else t.accessFailed.udsNo 0x35#8

/-- ReadDataByIdentifier: the passport at L1, its certificate. -/
def State.udsRead (s : State) (ch : Nat) (did : Nat) : State :=
  if !s.udsServes ch false then s
  else if did = 0xF1A0 then (if s.level < 1 then s.udsNo 0x33#8 else s.udsOk s.passport)
  else if did = 0xF1A1 then s.udsOk Config.certificate
  else s.udsNo 0x31#8

/-- The slot that a download takes, and its base address: neither the active slot nor a trial in progress. -/
def State.slotFree (s : State) (b : Bool) : Bool := b != s.kept.slotB && s.kept.trial.isNone && s.flag Adr.MBX_BOOT 0 != b
def slotBase (b : Bool) : Nat := if b then 0x10C00000 else 0x10000000

/-- RequestDownload. In recovery neither slot runs, so the active one may be replaced too (PRESUMED, assumption 61). -/
def State.udsDownload (s : State) (ch : Nat) (b : Bool) (len : Nat) : State :=
  if !s.udsServes ch true then s
  else if s.level < 2 then s.udsNo 0x33#8
  else if !(s.slotFree b || (s.pwr.phase == .recovery && b != s.kept.slotB)) then s.udsNo 0x22#8
  else if len = 0 ∨ 0xC00000 < len then s.udsNo 0x31#8
  else (s.setGms { s.gms with download := some ⟨b, len, 0, 1#8⟩, checked := none }).udsOk []

/-- TransferData; during a commit the write to MRAM waits (R412). -/
def State.udsTransfer (s : State) (ch : Nat) (seq : Byte) (data : List Byte) : State :=
  if !s.udsServes ch true || s.flag Adr.MBX_GSTAT 9 then s
  else match s.gms.download with
    | none => s.udsNo 0x24#8
    | some d =>
      if s.level < 2 then s.udsNo 0x33#8
      else if seq + 1#8 = d.seq ∧ 0 < d.got then s.udsOk [seq]
      else if seq ≠ d.seq then s.udsNo 0x73#8
      else if d.length < d.got + data.length then s.udsNo 0x71#8
      else
        let t := (s.putBytes (slotBase d.slotB + d.got) data).mramWrote
        (t.setGms { t.gms with download := some { d with got := d.got + data.length, seq := d.seq + 1#8 } }).udsOk [seq]

/-- RequestTransferExit. -/
def State.udsExit (s : State) (ch : Nat) : State :=
  if !s.udsServes ch true then s
  else match s.gms.download with
    | none => s.udsNo 0x24#8
    | some d => if d.got = d.length then (s.setGms { s.gms with download := none }).udsOk [] else s.udsNo 0x24#8

/-- Routine 0xFF01: the inactive slot is verified under R419; the answer's byte is 0 where it passed. [PRESUMED, assumption 61; DESIGN CHOICE, assumption 66] -/
def State.udsCheck (s : State) (ch : Nat) (f : SlotFacts) : State :=
  if !s.udsServes ch true then s
  else if s.level < 2 then s.udsNo 0x33#8
  else if s.gms.download.isSome then s.udsNo 0x22#8
  else
    let ok := s.slotOk f true
    ((s.setGms { s.gms with checked := some ok }).setKept { s.kept with trialIndex := if ok then f.rollback else s.kept.trialIndex }).udsOk
      [if ok then 0#8 else 1#8]

/-- Routine 0xFF02: the checked slot becomes the trial slot. -/
def State.udsActivate (s : State) (ch : Nat) : State :=
  if !s.udsServes ch true then s
  else if s.level < 2 then s.udsNo 0x33#8
  else if s.gms.checked ≠ some true ∨ s.kept.trial.isSome then s.udsNo 0x22#8
  else
    let t := (s.setKept { s.kept with trial := some (!s.kept.slotB), trialRan := false, rejected := none }).mramWrote
    ((t.setGms { t.gms with checked := none }).logUpdate 4).udsOk []

/-- Routine 0xFF10 (R422). -/
def State.udsPairRestart (s : State) (ch : Nat) (option : Byte) : State :=
  if !s.udsServes ch false then s
  else if s.udsSession ch ≠ 3#8 then s.udsNo 0x7F#8
  else if 1 < option.toNat then s.udsNo 0x31#8
  else if s.pairMode option.toNat ≠ 3 then s.udsNo 0x22#8
  else (s.pairRestart option.toNat).udsOk [option]

/-- ECUReset 0x01: a cold reset at L2, with DEBUG where L3 is in force (R51, R421). [PRESUMED, assumption 61] -/
def State.udsReset (s : State) (ch : Nat) (sub : Byte) : State :=
  if !s.udsServes ch true then s
  else if sub ≠ 1#8 then s.udsNo 0x12#8
  else if s.level < 2 then s.udsNo 0x33#8
  else if s.offRefusal ≠ 0 then s.udsNo 0x22#8
  else (s.coldResetGo (if s.level = 3 then 4 else 3)).udsOk [sub]

end Sys2Proof.Machine
end

