-- ==== Sys2Proof/Machine/Regs.lean ====
section
/-! DEFINITION. Accesses to register pages (R6, R72 to R82, R454): which fields a write reaches, why it is refused, what is stored, and what
each register's write or read does beside storing. -/

namespace Sys2Proof.Machine

/-- A plain write, or one through the set or clear alias (R77). -/
inductive WriteMode where
  | plain | set | clear
deriving DecidableEq, Repr

/-- Access masks of a register. -/
structure RegInfo where
  rw : Word
  rwd : Word
  rwk : Word
  rw1 : Word
  w1c : Word
  /-- a configuration register (R81) -/
  conf : Bool
  clamp : Clamp
deriving DecidableEq, Repr

/-- A register without a writable field. -/
def RegInfo.ro : RegInfo := ⟨0#32, 0#32, 0#32, 0#32, 0#32, false, .none_⟩

/-- Header registers (R68, R69). POWNER and PKEY have rules of their own. -/
def headInfo (r : BlockRow) (off : Nat) : RegInfo :=
  if off = 0x04 then { RegInfo.ro with rw := 1#32, rwd := 8#32, rw1 := 4#32 }
  else if off = 0x0C then { RegInfo.ro with w1c := w32 r.pevt }
  else if off = 0x10 then { RegInfo.ro with rw := w32 r.pevt }
  else if off = 0x14 then { RegInfo.ro with w1c := w32 r.pfault ||| 0xC0000000#32 }
  else RegInfo.ro

/-- The register at an offset of page p; SAFEOUT of G1 and G2 is fixed by hardware (R252). -/
def regInfo (p off : Nat) : RegInfo :=
  match pageRow p with
  | none => RegInfo.ro
  | some r =>
    if off < 0x40 then headInfo r off
    else match regAt r.blk (p - r.page) off with
      | some (x, _) =>
        if r.blk = .ggrp ∧ x.off = 0x218 ∧ p - r.page < 2 then RegInfo.ro
        else ⟨w32 x.rw, w32 x.rwd, w32 x.rwk, w32 x.rw1, w32 x.w1c, isConfig x, x.clamp⟩
      | none => RegInfo.ro

/-- What the fields would hold after a write of w. -/
def RegInfo.next (i : RegInfo) (m : WriteMode) (old w : Word) : Word :=
  match m with
  | .plain =>
    let all := i.rw ||| i.rwd ||| i.rwk ||| i.rw1
    ((old &&& ~~~all) ||| (w &&& all)) &&& ~~~(w &&& i.w1c)
  | .set => old ||| (w &&& i.rw)
  | .clear => old &&& ~~~(w &&& i.rw)

/-! ### Refusals -/

/-- A refused access: logged with its reason, nothing written (R72, R74). -/
def State.refuse (s : State) (port : Nat) (bus : Word) (reason : Nat) (write : Bool) : State × Option Nat :=
  (s.logRefusal port bus reason write, some reason)

/-- An access to a page whose domain is off (R48). -/
def State.refuseOff (s : State) (port : Nat) (bus : Word) (write : Bool) : State × Option Nat :=
  (s.raise Pg.SYS 1).refuse port bus Reason.domainOff write

/-- Registers of TRIM that firmware cannot write while the slot's CEN = 1 (R182, R195), and set-points that an enabled DCDC or OBC block
writes (R309, R324). -/
def State.trimRefuses (s : State) (n off : Nat) : Bool :=
  if 0x800 ≤ off then s.cen n ((off - 0x800) / 0x40)
  else if 0x100 ≤ off ∧ off < 0x300 then
    let i := (off - 0x100) / 0x40
    let x := (off - 0x100) % 0x40
    let c := 8 * n + i
    (s.cen n i && (decide (4 ≤ x) && decide (x ≤ 0x10) || decide (0x18 ≤ x) && decide (x ≤ 0x28)))
      || (s.pageEn Pg.DCDC && c == s.dcdcCtx && decide (0x30 ≤ x) && decide (x ≤ 0x34))
      || (s.pageEn Pg.OBC && ((c == s.pfcCtx && decide (0x30 ≤ x) && decide (x ≤ 0x38)) || (c == s.dabCtx && decide (0x30 ≤ x))))
  else false

/-- PWM unit u is bound to a trim context, or driven by the enabled converter or an enabled actuator block (R235, R308, R350). -/
def State.unitDriven (s : State) (u : Nat) : Bool :=
  s.unitBound u || (s.pageEn Pg.DCDC && (u == s.dcdcUnit || u == s.dcdcSr))
    || (decide (7 ≤ u) && decide (u ≤ 9) && s.pageEn (Pg.ACT (u - 7)))

/-- Refusals with reason ENABLED that a chapter states for a particular register, whatever the value written (R454). [DESIGN CHOICE, assumption 13; DEDUCED, assumption 52] -/
def State.blockRefuses (s : State) (b : Block) (n off : Nat) : Bool :=
  match b with
  | .trim => s.trimRefuses n off
  | .pwm => (decide (0xA0 ≤ off && off < 0xC0) || off == 0x70) && s.unitDriven n
  | .pilot => off == 0x44 && s.pageEn Pg.OBC
  | _ => false

/-- Why a write by the owner is refused, if it is (R70, R72, R82, R148, R454): old is what the register holds, new what it would hold. [DESIGN CHOICE, assumption 13] -/
def State.writeRefusal (s : State) (p off : Nat) (keyed : Bool) (m : WriteMode) (i : RegInfo) (w old new : Word) : Option Nat :=
  let d := old ^^^ new
  let conf (b : Block) : Bool := i.conf && d &&& crcMask b off != 0#32
  match pageRow p with
  | none => none
  | some r =>
    if !keyed && (d &&& i.rwk != 0#32 || (off == 0x14 && d != 0#32)) then some Reason.noKey
    else if off = 0x04 ∧ bit new 0 ∧ ¬ bit old 0 ∧ s.enableFaulted p then some Reason.faulted
    else if d &&& i.rwd ≠ 0#32 ∧ s.pageEn p then some Reason.enabled
    else if d &&& i.rw1 &&& old ≠ 0#32 then some Reason.locked
    else if s.pageLocked p && (conf r.blk || (off == 0x04 && (bit d 3 || (m == .plain && bit w 1)))) then some Reason.locked
    else if r.blk = .shrd ∧ conf r.blk ∧ s.shroud.a.state ≠ 2 then some Reason.locked
    else if m ≠ .plain ∧ i.rw = 0#32 then some Reason.alias_
    else if s.blockRefuses r.blk (p - r.page) off then some Reason.enabled
    else none

/-! ### What a write does beside storing -/

/-- TRIM registers: CEN, the tuner's commands, a new SETP0. -/
def State.trimHook (s : State) (n off : Nat) (plain old new : Word) : State :=
  if off = 0x400 then
    let t := if bit plain 1 then s.tuneFail n 7 else s
    if bit plain 0 then t.tuneStart n else t
  else if 0x100 ≤ off ∧ off < 0x300 then
    let i := (off - 0x100) / 0x40
    let x := (off - 0x100) % 0x40
    if x = 0 then
      (if bit new 0 && !bit old 0 then s.ctxEnable n i else if !bit new 0 && bit old 0 then s.ctxClose n i else s)
    else if x = 0x30 then s.putSetp (8 * n + i) 0 new
    else s
  else s

/-- Comparator registers (R213). [DEDUCED, assumption 34] -/
def State.cmpHook (s : State) (n off : Nat) (plain old new : Word) : State :=
  let k := 4 * n + (off - 0x40) / 0x20
  let d := old ^^^ new
  match (off - 0x40) % 0x20 with
  | 0x00 =>
    let s1 := s.cmpRefresh k
    if (s.cmp k).running && (s1.cmp k).running then
      (if d &&& 0x3E0C#32 ≠ 0#32 then s1.cmpBegin k else if d &&& 0x30#32 ≠ 0#32 then s1.cmpResettle k else s1)
    else s1
  | 0x04 => if d = 0#32 then s else s.cmpResettle k
  | 0x08 => if d &&& 0x3F0000#32 = 0#32 then s else s.cmpResettle k
  | 0x10 => s.tripAll
  | 0x18 => if bit plain 0 then s.cmpClear k else s
  | _ => s

/-- PWM registers: event generators start afresh, TRIPCLR, TRIPCFG, SWCOMMIT (R231, R234, R235). -/
def State.pwmHook (s : State) (n off : Nat) (plain old new : Word) : State :=
  if off = 0x54 ∨ off = 0x58 then
    let g := (off - 0x54) / 4
    let p := s.pwm n
    if bit new 31 && !bit old 31 then s.putPwm n { p with eg := Store.erase p.eg g } else s
  else if off = 0x5C then s.tripAsync n
  else if off = 0x64 then (if bit plain 0 && s.pwmTripped n then s.putPwm n { s.pwm n with clr := true } else s)
  else if off = 0x70 then (if bit plain 0 then s.commitSet n ((List.range 8).map fun k => s.reg (Adr.PWM_SHD n k)) else s)
  else s

/-- Gate groups: GCLR, STCTRL, the source unit and what the islands read (R237, R245, R253). -/
def State.groupHook (s : State) (n off : Nat) (plain : Word) : State :=
  if off = 0x48 then (if bit plain 0 then s.gclr n else s)
  else if off = 0x4C then (if bit plain 0 && !s.pageEn (Pg.GGRP n) && s.domOn (islandDom n) then s.selfTestStart n else s)
  else if off = 0x40 then s.sourceCheck.gatesRefresh
  else if 0x200 ≤ off ∧ off % 0x20 ≠ 4 then s.gatesRefresh
  else s

/-- Ring control: RUN, STREAM, TONE (R377, R378, R383, R394). -/
def State.ringHook (s : State) (n : Nat) (plain old new : Word) : State :=
  let s1 := if bit new 0 && !bit old 0 then (if s.pageEn (Pg.EFR n) then s.ringRun n else s)
    else if !bit new 0 && bit old 0 then s.ringStop n else s
  let s2 := if bit new 1 && !bit old 1 && bit new 0 then s1.ringStream n
    else if !bit new 1 && bit old 1 then s1.ringUnstream n else s1
  if bit plain 2 then s2.ringTone n else s2

/-- What a stored write does in its block: plain is the written word of a plain write, 0 through an alias. [DEDUCED, assumption 26] -/
def State.blockHook (s : State) (port : Nat) (b : Block) (n off : Nat) (plain old new : Word) : State :=
  match b with
  | .sys =>
    if off = 0x44 then
      let on := (List.range 12).filter fun d => bit new d && !bit old d && !s.domUp d
      let off_ := (List.range 12).filter fun d => !bit new d && bit old d && s.domUp d
      if s.pdRefusal on off_ = 0 then s.pdAccept on off_ else s
    else if off = 0x50 ∧ bit new 0 ∧ ¬ bit old 0 ∧ s.sleepRefusal = 0 then (s.setAfter .sleep).commitStart
    else s
  | .icx => if off = 0x40 then s.icxClasses old else s
  | .evr =>
    if off = 0xC4 then (if bit plain 31 then s.setReg (Adr.EVR_ACCINFO n) (new &&& 0xFFFF00FF#32) else s)
    else if 0x100 ≤ off ∧ off < 0x200 ∧ off % 0x20 = 0 ∧ bit plain 1 then s.capArrive n ((off - 0x100) / 0x20)
    else s
  | .pair =>
    if off = 0x4C ∧ bit plain 0 then s.syncReq n port else if off = 0x50 ∧ bit plain 0 then s.splitReq n port else s
  | .trim => s.trimHook n off plain old new
  | .tsch => if off = 0xC0 ∧ bit plain 0 then s.clearRegs fun a => decide (Adr.TSCH_LAT 0 ≤ a) && decide (a ≤ Adr.TSCH_LAT 31) else s
  | .pwm => s.pwmHook n off plain old new
  | .ggrp => s.groupHook n off plain
  | .lvdrv => if off = 0x40 then s.sourceCheck.gatesRefresh else s
  | .adc => if off = 0x44 ∧ bit plain 0 then s.adcStart n else s
  | .sdm =>
    if off = 0x40 then (if old = new then s else s.sdmInvalidate n)
    else if off = 0x48 then s.scdStop n
    else if off = 0x60 then s.sdmClocks else s
  | .cmpb => s.cmpHook n off plain old new
  | .hvs => if off = 0x40 then s.hvsRefresh else s
  | .twl =>
    if off = 0x50 then (if old = new then s else s.twlTest n)
    else if 0x80 ≤ off ∧ off < 0xC0 then s.putTwl n { s.twl n with armed := setBit (s.twl n).armed ((off - 0x80) / 4) true }
    else s
  | .hall =>
    let k := (off - 0x40) / 0x10
    if (off - 0x40) % 0x10 = 0 ∧ bit new 0 ∧ ¬ bit old 0 ∧ s.pageEn Pg.HALL then s.hallStart k else s
  | .efr => if off = 0x48 then s.ringHook n plain old new else if off = 0x70 then s.txRun n else s
  | .zcor =>
    let k := (off - 0x100) / 0x100
    if 0x100 ≤ off ∧ off % 0x100 = 4 ∧ off < 0x500 then
      (if bit plain 1 then s.zIdle k else if bit plain 0 then s.zStart k else s)
    else s
  | .dcdc => if off = 0x74 then s.dcdcCmd plain else s
  | .obc => if off = 0x94 then s.obcCmd plain else if off = 0x90 ∧ old ≠ new then s.obcHost else s
  | .pilot =>
    if off = 0x44 then s.pilotS2 else if off = 0x54 then s.pilotRelimit else if off = 0x58 then s.lampRefresh else s
  | .ctr => if off = 0x54 then s.ctrCmd plain else if off = 0x58 ∨ off = 0x40 then s.ctrOutputs else s
  | .act => if off = 0x60 then s.actCmd n plain else s
  | .eth => if off = 0x98 then s.netOffset else s
  | .shrd => if off < 0xA0 then s.sinShow else s
  | .twin =>
    if off = 0x44 then (if bit new 0 then s.twinRun else s.twinOff)
    else if off = 0x4C then s.twinHands (bits plain 3 0)
    else if off = 0x50 then s.twinXreq (bits plain 5 0) else s
  | .tbu | .hk | .enc | .can | .mbx => s

/-- What a cleared fault bit does in its block (R135, R314, R361). -/
def State.faultHook (s : State) (b : Block) (n : Nat) (cleared : Word) : State :=
  match b with
  | .pair => s.pairUnlatch n cleared
  | .dcdc => s.dcdcUnlatch
  | .ctr => s.ctrOutputs
  | _ => s

/-- A page whose owner, enable or source unit changes: the source check (R237). -/
def State.sourceHook (s : State) (b : Block) : State :=
  match b with
  | .pwm | .ggrp | .lvdrv => s.sourceCheck.gatesRefresh
  | _ => s

/-- An accepted write of PCTRL. -/
def State.writePctrl (s : State) (p : Nat) (srst : Bool) (old new : Word) : State :=
  let s1 := s.setReg (Adr.PCTRL p) (setBit new 0 (bit old 0))
  let s2 := if bit old 3 = bit new 3 then s1 else s1.crcTouch p
  let s3 := if bit new 2 && !bit old 2 then s2.crcLatch p else s2
  if srst then s3.softReset p
  else if bit new 0 && !bit old 0 then s3.enablePage p
  else if !bit new 0 && bit old 0 then s3.disablePage p
  else s3

/-- An accepted write of any other register. -/
def State.writeReg (s : State) (port p off : Nat) (i : RegInfo) (m : WriteMode) (w old new : Word) : State :=
  let s1 := s.setReg (4096 * p + off) new
  match pageRow p with
  | none => s1
  | some r =>
    let n := p - r.page
    if off = 0x10 then
      (if old = new then s1 else (s1.crcTouch p).when (s1.pageLocked p) fun t => t.crcLatch p)
    else if off = 0x14 then s1.faultHook r.blk n (old &&& ~~~new)
    else if off < 0x40 then s1
    else
      let s2 := if i.conf && old != new then s1.crcTouch p else s1
      s2.blockHook port r.blk n off (if m = .plain then w else 0#32) old new

/-! ### Owner and key (R75, R76, R78, R79) -/

/-- A claim that a port may make of page p. -/
def claimOk (p port v : Nat) : Bool :=
  (v == portOwner port && decide (v ≠ 0) || (port == 4 && (v == 1 || v == 2)))
    && !(v == 2 && (p == Pg.EVR 0 || p == Pg.PAIR 0)) && !(v == 1 && (p == Pg.EVR 1 || p == Pg.PAIR 1))

/-- A write of POWNER. -/
def State.writeOwner (s : State) (port p : Nat) (bus : Word) (m : WriteMode) (w : Word) : State × Option Nat :=
  let v := bits w 1 0
  if m ≠ .plain then s.refuse port bus Reason.alias_ true
  else if s.owner p ≠ 0 then s.refuse port bus Reason.locked true
  else if v = 0 then (s, none)
  else if !claimOk p port v then s.refuse port bus Reason.notOwner true
  else
    let t := (s.setReg (Adr.POWNER p) (w32 v)).crcTouch p
    (match pageBlock p with
      | some b => t.sourceHook b
      | none => t, none)

/-- The key after an owner write of a port: a key word, or a write that consumes, cancels or resets (R75, R76). A second first word counts as
the first of a new pair (DEDUCED, assumption 11). -/
def Key.after (k : Key) (port : Nat) (word : Option Nat) : Key :=
  match word with
  | none => .idle
  | some 0x9C3A => .first port
  | some 0x63C5 => if k = .first port then .armed port else .idle
  | some _ => .idle

/-! ### The access itself -/

/-- What a write of page p stores in a register: a page that STORE holds keeps EN at 0 (R442). -/
def State.wouldHold (s : State) (p off : Nat) (i : RegInfo) (m : WriteMode) (w old : Word) : Word :=
  let v := i.next m old w
  let u := if v = old then v else storedValue s (4096 * p + off) i.clamp v
  if off = 0x04 ∧ s.storeHeld p ∧ ¬ bit old 0 then setBit u 0 false else u

/-- A 32-bit write of a port to register address a of a page: the new state, and the reason where it is refused. [DESIGN CHOICE, assumption 13] -/
def State.regWrite (s : State) (port : Nat) (bus : Word) (a : Nat) (m : WriteMode) (w : Word) : State × Option Nat :=
  let p := a / 4096
  let off := a % 4096
  match pageRow p with
  | none => (s, none)
  | some r =>
    if !s.pageOn p then s.refuseOff port bus true
    else if 5 ≤ port then s.refuse port bus Reason.port true
    else
      let owned := s.ownerPort p port
      let keyed := decide ((s.page p).key = .armed port)
      let word := if off = 0x1C ∧ m = .plain then some (bits w 15 0) else none
      let t := if owned then s.setKey p ((s.page p).key.after port word) else s
      if off = 0x18 then t.writeOwner port p bus m w
      else if !owned then s.refuse port bus Reason.notOwner true
      else if off = 0x1C then (if m = .plain then (t, none) else t.refuse port bus Reason.alias_ true)
      else
        let i := regInfo p off
        let old := t.reg a
        let new := t.wouldHold p off i m w old
        match t.writeRefusal p off keyed m i w old new with
        | some reason =>
          let u := if reason = Reason.faulted ∧ (r.blk = .can ∨ r.blk = .eth) ∧ ¬ t.ringsInSram (if r.blk = .can then t.canRings (p - r.page) else t.ethRings (p - r.page))
            then t.fault p 0 else t
          u.refuse port bus reason true
        | none => (if off = 0x04 then t.writePctrl p (m == .plain && bit w 1) old new else t.writeReg port p off i m w old new, none)

/-- A set-point target written by hardware (R178): limits and effects as for a write, no checks. -/
def State.targetWrite (s : State) (a : Nat) (w : Word) : State :=
  let p := a / 4096
  let off := a % 4096
  if off < 0x40 ∨ ¬ s.pageOn p then s
  else
    let i := regInfo p off
    let old := s.reg a
    s.writeReg 12 p off { i with conf := false } .plain w old (storedValue s a i.clamp ((old &&& ~~~i.rw) ||| (w &&& i.rw)))

/-- What a read of register address a shows a port (R69, R73, R87, R235, R264, R272, R453). [DESIGN CHOICE, assumption 15] -/
def State.regView (s : State) (port a : Nat) : Word :=
  let p := a / 4096
  let off := a % 4096
  match pageRow p with
  | none => 0#32
  | some r =>
    let n := p - r.page
    if off = 0x1C then w32 (s.page p).key.code
    else match r.blk with
      | .evr =>
        if off = 0x40 then w32 s.now
        else if off = 0x44 then (if n = 0 then (s.port port).dtimeH0 else (s.port port).dtimeH1)
        else s.reg a
      | .pwm =>
        if off = 0x6C then
          (s.reg a &&& 0xC0000000#32) ||| w32 ((s.tripA n).toNat * 2 ^ 29 + (s.pwm n).tripS.toNat * 2 ^ 28 + (s.pwm n).down.toNat * 2 ^ 27
            + (s.pwm n).count % 2 ^ 20)
        else s.reg a
      | .twl =>
        if off = 0x40 ∧ bits (s.reg a) 19 16 = 0 then setBits (s.reg a) 19 16 1
        else if off = 0x60 then s.twlSpeed n s.now
        else s.reg a
      | .eth =>
        if n = 0 ∧ off = 0x9C then w32 s.netTime
        else if n = 0 ∧ off = 0xA0 then (s.port port).ntH
        else s.reg a
      | _ => s.reg a

/-- What reading it does: the latches of the reading port, and the freeze of a capture set by its owner (R73, R93). -/
def State.readHook (s : State) (port a : Nat) : State :=
  let p := a / 4096
  let off := a % 4096
  if p = Pg.EVR 0 ∨ p = Pg.EVR 1 then
    let n := p - Pg.EVR 0
    let k := (off - 0x100) / 0x20
    if off = 0x40 then s.dtimeRead port n
    else if 0x100 ≤ off ∧ off < 0x200 ∧ off % 0x20 = 0x08 then s.capFreeze port n k
    else if 0x100 ≤ off ∧ off < 0x200 ∧ off % 0x20 = 0x10 then s.capRelease port n k
    else s
  else if a = Adr.ETH_NTNOWL 0 then s.netNowRead port
  else s

/-- A 32-bit read of a port: the state after it, and the word unless it is refused. -/
def State.regRead (s : State) (port : Nat) (bus : Word) (a : Nat) : State × Option Word :=
  if (pageRow (a / 4096)).isSome && !s.pageOn (a / 4096) then ((s.refuseOff port bus false).1, none)
  else (s.readHook port a, some (s.regView port a))

end Sys2Proof.Machine
end

