-- ==== Sys2Proof/Machine/Operands.lean ====
section
/-! DEFINITION. The operand forms of the commands: the port that a command comes from, the register it names and the word it writes there. -/

namespace Sys2Proof.Machine

/-- Bus address of a register (R19). -/
def busAddr (a : Nat) : Nat := 0x40000000 + a

/-- Bus address of a register's set or clear alias (R19, R77). -/
def aliasAddr (clear : Bool) (a : Nat) : Nat := (if clear then 0x42000000 else 0x41000000) + a

/-- A bus address as the offset of a register from 0x4000_0000. [DESIGN CHOICE, assumption 8] -/
def regOffset (a : Nat) : Option Nat := if 0x40000000 ≤ a ∧ a < 0x40200000 ∧ a % 4 = 0 then some (a - 0x40000000) else none

/-- A page number of the map of 512 pages. [DESIGN CHOICE, assumption 15] -/
def pageExists (p : Nat) : Bool := decide (p < 512)

/-- The checker of a LOCKED pair issues nothing of its own (R116). -/
def State.shadows (s : State) (port : Nat) : Bool := decide (port < 4) && port % 2 == 1 && s.pairMode (port / 2) == 1

/-- The initiator behind a port can issue: a core executes and waits for no FENCE, GMS runs, any other port is powered. [DESIGN CHOICE, assumption 6] -/
def State.portLive (s : State) (port : Nat) : Bool :=
  if port < 4 then s.coreRuns port && !(s.core port).fence && !s.shadows port
  else if port = 4 then (s.pwr.phase == .run || s.pwr.phase == .recovery) && !s.gms.restarting
  else s.awake

/-- A single aligned read of one word. -/
def readTxn (a : Nat) : Txn := { write := false, addr := BitVec.ofNat 32 a, size := 4, beats := 1, data := [] }

/-- A single aligned write of one word. -/
def writeTxn (a : Nat) (w : Word) : Txn := { write := true, addr := BitVec.ofNat 32 a, size := 4, beats := 1, data := wordBytes w }

/-- The fields of a register that are read and written (RW), as it holds them: what a command that changes one of them writes back. [DEDUCED, assumption 16] -/
def State.rwBits (s : State) (a : Nat) : Word := s.reg a &&& (regInfo (a / 4096) (a % 4096)).rw

/-- The word of a command that sets the bits of m by a plain write: every other RW field as it stands, no other command bit. [DEDUCED, assumption 16] -/
def State.withBits (s : State) (a : Nat) (m : Word) : Word := s.rwBits a ||| m

/-- The same with bits cleared. [DEDUCED, assumption 16] -/
def State.withoutBits (s : State) (a : Nat) (m : Word) : Word := s.rwBits a &&& ~~~m

/-- The address of the trim memories (R180): an instruction, or a coefficient entry, of engine n. [DESIGN CHOICE, assumption 8] -/
def trimMemory (a : Nat) : Bool := decide (0x30000000 ≤ a) && decide (a < 0x30018000)

/-- The engine that a trim memory address belongs to. -/
def trimEngineOf (a : Nat) : Nat := if a < 0x30010000 then (a - 0x30000000) / 0x4000 else (a - 0x30010000) / 0x2000

/-- f, where the domain of page p is on: a block without power does nothing (R46, R47). [DESIGN CHOICE, assumption 6] -/
def State.onPage (s : State) (p : Nat) (f : State → State) : State := if s.pageOn p then f s else s

/-- f, while GMS runs its firmware (R401). [DESIGN CHOICE, assumption 6] -/
def State.onGms (s : State) (f : State → State) : State := if s.gmsRuns then f s else s

end Sys2Proof.Machine
end

