-- ==== Sys2Proof/Machine/Bus.lean ====
section
/-! DEFINITION. An access at its target (R15, R19, R20, R95 to R97, R180, R401 to R403, R413): what it reads, what it writes, and why it is
answered with a bus error. -/

namespace Sys2Proof.Machine

/-- A bus error that no page logged: its reason field is 0. [DESIGN CHOICE, assumption 14] -/
def busError : Resp := .err 0

/-- A plain memory access. -/
def State.memAccess (s : State) (t : Txn) : State × Resp :=
  if t.write then (s.putBytes t.addr.toNat t.data, .ok []) else (s, .ok (s.bytes t.addr.toNat (t.size * t.beats)))

/-! ### Register pages (R72 to R82) -/

/-- Alias of an address in the page windows. -/
def writeMode (a : Nat) : WriteMode := if a < 0x41000000 then .plain else if a < 0x42000000 then .set else .clear

/-- A single 32-bit access to a page or an alias; any other size is a bus error (R96). [DESIGN CHOICE, assumption 14] -/
def State.pageAccess (s : State) (port : Nat) (t : Txn) : State × Resp :=
  let a := t.addr.toNat
  if t.size ≠ 4 ∨ t.beats ≠ 1 then (s, busError)
  else if t.write then
    match s.regWrite port t.addr (a % 0x1000000) (writeMode a) (BitVec.ofNat 32 (bytesNat t.data)) with
    | (u, none) => (u, .ok [])
    | (u, some reason) => (u, .err reason)
  else match s.regRead port t.addr (a % 0x1000000) with
    | (u, some w) => (u, .ok (wordBytes w))
    | (u, none) => (u, .err Reason.domainOff)

/-! ### Trim memories (R169, R180) -/

/-- The shift of coefficient entry e of engine n as stored: above 62 stores 62, reserved bits read 0. -/
def State.entryStored (s : State) (a : Nat) : State := s.putWord (a + 4) (w32 (min (bits (s.mword (a + 4)) 5 0) 62))

/-- A word of trim memory cannot be written now: an instruction of an enabled context, or a locked fixed-region entry. -/
def State.trimWordHeld (s : State) (a : Nat) : Bool :=
  if a < 0x30010000 then s.progBusy (trimEngineOf a) ((a - 0x30000000) % 0x4000 / 4)
  else s.fixLocked (trimEngineOf a) ((a - 0x30010000) % 0x2000 / 8)

/-- An access to trim memory. -/
def State.trimAccess (s : State) (port : Nat) (t : Txn) : State × Resp :=
  let a := t.addr.toNat
  let n := t.size * t.beats
  if !t.write then s.memAccess t
  else if !s.ownerPort (Pg.TRIM (trimEngineOf a)) port then (s, busError)
  else if (List.range n).any fun i => s.trimWordHeld (a + i) then (s, busError)
  else
    let u := (s.memAccess t).1
    (if a < 0x30010000 then u else u.each (List.range ((n + 7) / 8)) fun v j => v.entryStored (a / 8 * 8 + 8 * j), .ok [])

/-! ### The mailbox window (R401 to R403) -/

/-- The window of a pair and the offset in it. -/
def mbxPlace (a : Nat) : Nat × Nat := ((a - 0x50000000) / 0x8000, (a - 0x50000000) % 0x8000)

/-- A pair writes its own window (R401). -/
def mbxWriter (port pair : Nat) : Bool := decide (port < 4) && port / 2 == pair

/-- A word register of the window: DOORBELL, STATUS, CMD, LEN, RLEN. -/
def State.mbxWord (s : State) (port pair off : Nat) (w : Word) : State × Resp :=
  if !mbxWriter port pair then (s, busError)
  else if off = 0 then (s.doorbell pair (w.extractLsb' 0 8), .ok [])
  else if off = 8 ∧ !s.mbxBusy pair then (s.putWord (mbxBase pair + 8) (w &&& 0xFFFF#32), .ok [])
  else if off = 0xC ∧ !s.mbxBusy pair then (s.putWord (mbxBase pair + 0xC) (w &&& 0x3FFF#32), .ok [])
  else (s, busError)

/-- An access to the mailbox window. -/
def State.mbxAccess (s : State) (port : Nat) (t : Txn) : State × Resp :=
  let a := t.addr.toNat
  let pair := (mbxPlace a).1
  let off := (mbxPlace a).2
  if off < 0x14 then
    if t.size ≠ 4 ∨ t.beats ≠ 1 then (s, busError)
    else if t.write then s.mbxWord port pair off (BitVec.ofNat 32 (bytesNat t.data))
    else (s, .ok (if off = 0 then [0#8, 0#8, 0#8, 0#8] else s.bytes a 4))
  else if !t.write then s.memAccess t
  else if mbxWriter port pair && decide (0x100 ≤ off) && decide (off < 0x4000) && !s.mbxBusy pair then s.memAccess t
  else (s, busError)

/-! ### The access -/

/-- A core's TCM is reached only while the core is held in reset (R20). [DEDUCED, assumption 64] -/
def State.tcmOpen (s : State) (core : Nat) : Bool := s.domOn (3 + core / 2) && (s.pair (core / 2)).inReset

/-- An access of a port at its target: the state after it and the answer. [DESIGN CHOICE, assumption 14; DEDUCED, assumption 64] -/
def State.access (s : State) (port : Nat) (t : Txn) : State × Resp :=
  let a := t.addr.toNat
  match targetOf a with
  | none => (s, busError)
  | some 0 => if t.write then (s, busError) else (s, .ok ((List.range (t.size * t.beats)).map fun i => Config.romByte (a + i)))
  | some 9 =>
    let k := (a - 0x28000000) / 0x80000
    if !s.domOn 7 then (s, busError)
    else if t.write && (s.zState k == 1 || s.zState k == 3) then (s, busError)
    else s.memAccess t
  | some 10 =>
    if t.write then (if port = 4 then ((s.memAccess t).1.mramWrote, .ok []) else (s, busError)) else s.memAccess t
  | some 11 => s.trimAccess port t
  | some 12 | some 13 => s.pageAccess port t
  | some 14 => s.mbxAccess port t
  | some 15 => if s.tcmOpen ((a - 0x1000000) / 0x40000) then s.memAccess t else (s, busError)
  | some 8 =>
    if t.write && port != 4 && (s.flag Adr.MBX_GSTAT 11 || s.flag Adr.MBX_GSTAT 12) then (s, busError) else s.memAccess t
  | some _ => s.memAccess t

/-- An access of a live port, its answer delivered. [DEDUCED, assumption 18] -/
def State.perform (s : State) (port : Nat) (t : Txn) : State :=
  if s.portLive port then (s.access port t).1.answer port (s.access port t).2 else s

/-- A register written by a command of a port. [DESIGN CHOICE, assumption 6] -/
def State.portStore (s : State) (port a : Nat) (w : Word) : State := s.perform port (writeTxn (busAddr a) w)

/-- A register of page p written; there is no page beyond 511 (R19). [DESIGN CHOICE, assumption 15] -/
def State.pageStore (s : State) (port p off : Nat) (w : Word) : State :=
  if pageExists p then s.portStore port (4096 * p + off) w
  else s.when (s.portLive port) fun t => t.answer port busError

/-- A register read by a command of a port. -/
def State.portLoad (s : State) (port a : Nat) : State := s.perform port (readTxn (busAddr a))

/-! ### Locked sequences (R106, R107) -/

/-- The targets that take LR.W and SC.W. [DEDUCED, assumption 18] -/
def lockable (t : Nat) : Bool := decide (1 ≤ t) && decide (t ≤ 9) || t == 14

/-- A result in a register of a core, or in the port's answer. -/
def State.give (s : State) (port : Nat) (rd : Fin 32) (w : Word) : State :=
  (if port < 4 then s.toX port rd w else s).answer port (.ok (wordBytes w))

/-- LR.W: the word, and the lock of its target. [DEDUCED, assumption 18] -/
def State.loadReserved (s : State) (port : Nat) (rd : Fin 32) (addr : Word) : State :=
  match targetOf addr.toNat with
  | some t =>
    if !lockable t then s.answer port busError
    else if s.lockedOut t port then s
    else match s.access port (readTxn addr.toNat) with
      | (u, .ok b) => (u.lockOpen t port).give port rd (BitVec.ofNat 32 (bytesNat b))
      | (u, r) => u.answer port r
  | none => s.answer port busError

/-- SC.W: 0 written inside the lock, 1 after its end, 2 after a broken lock. [DEDUCED, assumption 18] -/
def State.storeConditional (s : State) (port : Nat) (rd : Fin 32) (addr value : Word) : State :=
  match targetOf addr.toNat with
  | some t =>
    if !lockable t then s.answer port busError
    else if s.lockedOut t port then s
    else if bit s.icx.broken t then (s.setIcx { s.icx with broken := setBit s.icx.broken t false }).give port rd 2#32
    else if s.lockHeld t then
      match s.access port (writeTxn addr.toNat value) with
      | (u, .ok _) => (u.lockDrop t).give port rd 0#32
      | (u, r) => (u.lockDrop t).answer port r
    else s.give port rd 1#32
  | none => s.answer port busError

/-- What an atomic operation stores. -/
def amoResult (op : AmoOp) (m v : Word) : Word :=
  match op with
  | .swap => v
  | .add => m + v
  | .xor => m ^^^ v
  | .and => m &&& v
  | .or => m ||| v
  | .min => if m.toInt ≤ v.toInt then m else v
  | .max => if v.toInt ≤ m.toInt then m else v
  | .minu => if m.toNat ≤ v.toNat then m else v
  | .maxu => if v.toNat ≤ m.toNat then m else v

/-- AMO: read and write at the target within one grant. Pages and the boot ROM take none. [DEDUCED, assumption 18] -/
def State.atomic (s : State) (port : Nat) (op : AmoOp) (rd : Fin 32) (addr value : Word) : State :=
  match targetOf addr.toNat with
  | some t =>
    if t = 0 ∨ t = 12 ∨ t = 13 then s.answer port busError
    else if s.lockedOut t port then s
    else match s.access port (readTxn addr.toNat) with
      | (u, .ok b) =>
        let m : Word := BitVec.ofNat 32 (bytesNat b)
        match u.access port (writeTxn addr.toNat (amoResult op m value)) with
        | (v, .ok _) => v.give port rd m
        | (v, r) => v.answer port r
      | (u, r) => u.answer port r
  | none => s.answer port busError

/-! ### Transactions through the queues (R96 to R98, R109) -/

/-- A transaction presented; outside every target it is answered at once (R19). -/
def State.issue (s : State) (port : Nat) (t : Txn) : State :=
  if !s.portLive port then s
  else match targetOf t.addr.toNat with
    | none => s.answer port busError
    | some k => s.icxIssue port k t

/-- The transaction that target k performs completes and is answered. -/
def State.respond (s : State) (k : Nat) : State :=
  match s.icxGranted k with
  | [] => s
  | (p, t) :: _ => ((s.access p t).1.answer p (s.access p t).2).icxAnswer k

/-- It has not been answered within 8192 cycles. [DESIGN CHOICE, assumption 5; DESIGN CHOICE, assumption 14] -/
def State.targetTimeout (s : State) (k : Nat) : State :=
  match s.icxGranted k with
  | [] => s
  | (p, _) :: _ => ((s.answer p busError).icxAnswer k).raise Pg.ICX 3

end Sys2Proof.Machine
end

