-- ==== Sys2Proof/Machine/ExecAcq.lean ====
section
/-! DEFINITION. Commands of chapter 09: ADC sequences, demodulators, comparators, housekeeping. -/

namespace Sys2Proof.Machine

/-- R200: SEQSTART.GO written as 1. -/
def execAdcSeqstartGo (port : Port) (n : Fin 8) (s : State) : Res := done (s.portStore port (Adr.ADC_SEQSTART n) 1#32)

/-- R199, R203. -/
def execAdcSlotDone (n : Fin 8) (code : BitVec 14) (s : State) : Res := done (s.adcSlotDone n code.toNat)

/-- R206: the sum of the bits of a window. -/
def execSdmWindowEnd (n : Fin 24) (sum : Nat) (s : State) : Res := done (s.sdmWindowEnd n sum)

/-- R207: NOCLK where the selected clock does not run, or 256 unchanged bits. -/
def execSdmFault (n : Fin 24) (stuck : Bool) (s : State) : Res :=
  done (if s.pageEn (Pg.SDM n) && !s.flag (Adr.SDM_STAT n) (1 + stuck.toNat) && (stuck || !(s.mclk n).2) then s.sdmFault n stuck.toNat
    else s)

/-- R208. -/
def execScdTrip (n : Fin 24) (count : Nat) (s : State) : Res := done (s.scdTrip n count)

/-- R208. -/
def execScdRelease (n : Fin 24) (count : Nat) (s : State) : Res := done (s.scdRelease n count)

/-- A comparator that has entered TRIPPED may be the charger's pack disconnect (R342). -/
def State.cmpWatch (s : State) (k old : Nat) : State := if s.cmpState k = 2 ∧ old ≠ 2 then s.obcPackLost k else s

/-- R215: the trip condition has held for DGL. -/
def execComparatorTrip (k : Fin 32) (x : Int) (s : State) : Res := done ((s.cmpTrip k x).cmpWatch k (s.cmpState k))

/-- R212. -/
def execComparatorRelease (k : Fin 32) (x : Int) (s : State) : Res := done (s.cmpRelease k x)

/-- R213. -/
def execComparatorSettled (k : Fin 32) (x : Int) (s : State) : Res := done ((s.cmpSettled k x).cmpWatch k (s.cmpState k))

/-- R215: CLRk written as 1, with the input at x. -/
def execComparatorClear (port : Port) (k : Fin 32) (x : Int) (s : State) : Res :=
  done ((s.putCmp k { s.cmp k with x := x }).portStore port (Adr.CMPB_CLR (k / 4) (k % 4)) 1#32)

/-- R220, R268. -/
def execHousekeepingRound (r : HkReadings) (s : State) : Res := done ((s.hkRound r).twlSupplies)

/-- R221, R268. -/
def execSup5SwitchOff (j : Fin 9) (s : State) : Res := done (s.onPage Pg.HK fun t => (t.supOff j).twlSupplies)

/-- R221. -/
def execSup5Retry (j : Fin 9) (ok : Bool) (s : State) : Res := done (s.onPage Pg.HK fun t => (t.supRetry j ok).twlSupplies)

end Sys2Proof.Machine
end

