-- ==== Sys2Proof/Machine/ExecAct.lean ====
section
/-! DEFINITION. Commands of chapter 15: gearbox actuators and contactors. -/

namespace Sys2Proof.Machine

/-- R355: CMD.START. -/
def execActStart (port : Port) (n : Fin 3) (s : State) : Res := done (s.portStore port (Adr.ACT_CMD n) 1#32)

/-- R355: CMD.ARM. -/
def execActArm (port : Port) (n : Fin 3) (s : State) : Res := done (s.portStore port (Adr.ACT_CMD n) 4#32)

/-- R355: CMD.STOP. -/
def execActStop (port : Port) (n : Fin 3) (s : State) : Res := done (s.portStore port (Adr.ACT_CMD n) 2#32)

/-- R353. -/
def execActSpeedUpdate (n : Fin 3) (s : State) : Res := done (s.onPage (Pg.ACT n) fun t => t.actUpdate n)

/-- R352. -/
def execActSpeedZero (n : Fin 3) (s : State) : Res := done (s.onPage (Pg.ACT n) fun t => t.actSpeedZero n)

/-- R351. -/
def execActHallTimeout (n : Fin 3) (s : State) : Res := done (s.actHallLost n)

/-- R354. -/
def execActOverload (n : Fin 3) (s : State) : Res := done (s.actOverload n)

/-- R355. -/
def execActStall (n : Fin 3) (s : State) : Res := done (s.actStall n)

/-- R357. -/
def execBootstrapUndervoltage (n : Fin 3) (phase : Fin 3) (mv : Nat) (s : State) : Res :=
  done (s.onPage (Pg.ACT n) fun t => t.actBoot n phase mv)

/-- R358: the SF7 line as Shroud drives it. -/
def execEngageInhibit (n : Fin 3) (s : State) : Res := done (s.onPage (Pg.ACT n) fun t => t.actInhibit n)

/-- R359. -/
def execActSupplyOvervoltage (mv : Nat) (s : State) : Res := done (s.actSupply mv)

/-- R364: CMD.CLOSE. -/
def execCtrClose (port : Port) (s : State) : Res := done (s.portStore port Adr.CTR_CMD 1#32)

/-- R366: CMD.OPEN. -/
def execCtrOpen (port : Port) (s : State) : Res := done (s.portStore port Adr.CTR_CMD 2#32)

/-- R364. -/
def execCtrStepTimer (short : Bool) (s : State) : Res := done (s.ctrStep short)

/-- R366. -/
def execCtrNegOpen (s : State) : Res := done (s.onPage Pg.CTR State.ctrNegOpen)

/-- R364. -/
def execTcoolEnd (s : State) : Res := done (s.onPage Pg.CTR State.ctrCooled)

/-- R360. -/
def execPullInEnd (k : Fin 8) (s : State) : Res := done (s.pullInEnd k)

/-- R361. -/
def execHsoOvercurrent (k : Fin 8) (s : State) : Res := done (s.ctrOver k)

/-- R362: the SF8 line as Shroud drives it. -/
def execContactorDisable (s : State) : Res := done (s.onPage Pg.CTR State.ctrDisable)

/-- R354. -/
def execActCurrentLimit (n : Fin 3) (milliamps : Int) (s : State) : Res := done (s.actLimit n milliamps)

end Sys2Proof.Machine
end

