-- ==== Sys2Proof/Machine/ExecDcdc.lean ====
section
/-! DEFINITION. Commands of chapter 13: the DC/DC converter. -/

namespace Sys2Proof.Machine

/-- R312: CMD.START. -/
def execDcdcStart (port : Port) (s : State) : Res := done (s.portStore port Adr.DCDC_CMD 1#32)

/-- R312: CMD.STOP. -/
def execDcdcStop (port : Port) (s : State) : Res := done (s.portStore port Adr.DCDC_CMD 2#32)

/-- R314: 10 ms below 0.2 × VSET. -/
def execDcdcShortCheck (s : State) : Res := done s.dcdcShort

/-- R314. -/
def execDcdcHiccupRetry (s : State) : Res := done s.dcdcRetry

/-- R314. -/
def execHiccntClear (s : State) : Res := done s.dcdcHealthy

/-- R314: PFAULT.SHORT written as 1. -/
def execDcdcShortClear (port : Port) (s : State) : Res := done (s.portStore port (Adr.PFAULT Pg.DCDC) 1#32)

/-- R316. -/
def execDcdcSyncEdge (s : State) : Res := done s.dcdcEdge

/-- R317. -/
def execDcdcSyncMissing (s : State) : Res := done s.dcdcMissing

/-- R318. -/
def execDcdcShed (s : State) : Res := done s.dcdcShed

/-- R321: DTO × 10 µs without a write of DUTY. -/
def execDcdcDutyTimeout (s : State) : Res := done (s.dcdcTrip 5 (some 2))

end Sys2Proof.Machine
end

