-- ==== Sys2Proof/Machine/ExecGate.lean ====
section
/-! DEFINITION. Commands of chapter 10 at the gate channels: command edges, profile phases, the handshake, faults, self-tests. -/

namespace Sys2Proof.Machine

/-- An output of the group's source unit at a level. -/
def State.driveOut (s : State) (g pos : Nat) (level : Bool) : State :=
  let p := s.pwm (s.userUnit g)
  s.putPwm (s.userUnit g) { p with out := maskOf 8 fun i => if i = pos then level else p.out.testBit i }

/-- A command edge that reaches an island. It is the source unit's where the group's commands come from it; a path A selection gives only its
own level, a latched, disabled or unbound group only OFF (R232, R240, R462). -/
def State.edgeArrives (s : State) (ch : Nat) (rising : Bool) : State :=
  let g := groupOf ch
  let a := (s.group g).pathA
  if !pathRuns a then (if s.safeOut ch a = rising then s.commandEdge ch rising else s)
  else if !s.groupLatch g && s.pageEn (Pg.GGRP g) && s.groupBinds g then (s.driveOut g (posOf ch) rising).commandEdge ch rising
  else if rising then s else s.commandEdge ch false

/-- R240, R245, R248. -/
def execGateCommandEdge (ch : Fin 36) (rising : Bool) (s : State) : Res := done (s.edgeArrives ch rising)

/-- A phase that ended on its time: its flag and PEVT.WARN. -/
def State.phaseLate (s : State) (ch bit_ : Nat) (onTime : Bool) : State :=
  if onTime then (s.setFlag (cflag ch) bit_ true).raise (Pg.GGRP (groupOf ch)) 1 else s

/-- CLEAT-low: gate-low confirmed; the channel then follows R250, and a partner that waits may turn on by PARTNER_GATE_LOW_CONFIRMED. -/
def State.gateLow (s : State) (ch : Nat) : State := ((s.setPhase ch 0).confirm ch).settleGate ch

/-- The present phase of a channel ends, skipping a following one whose time is 0 (R240). A booster has no measured phase: its turn-off ends
100 ns after it began (R241). -/
def State.phaseEnd (s : State) (ch : Nat) (onTime : Bool) : State :=
  let on := bits (s.reg (Adr.GGRP_PROFON (groupOf ch) (posOf ch))) 31 24
  let off := bits (s.reg (Adr.GGRP_PROFOFF (groupOf ch) (posOf ch))) 31 24
  match s.phase ch with
  | 1 => (s.phaseLate ch 0 onTime).setPhase ch (if on = 0 then 3 else 2)
  | 2 => (s.phaseLate ch 1 onTime).setPhase ch 3
  | 4 =>
    if s.booster ch then s.gateLow ch
    else if off = 0 then (s.phaseLate ch 0 onTime).gateLow ch
    else (s.phaseLate ch 0 onTime).setPhase ch 5
  | 5 => (s.phaseLate ch 1 onTime).gateLow ch
  | _ => s

/-- R240. -/
def execProfilePhaseEnd (ch : Fin 36) (onTime : Bool) (s : State) : Res := done (s.phaseEnd ch onTime)

/-- R248. -/
def execPartnerGateLowConfirmed (ch : Fin 36) (s : State) : Res :=
  done (if (s.chan ch).wait && s.partnerLow ch && !s.reefing ch then s.hoist ch else s)

/-- A rising command has waited 1 µs: it is dropped, HSK (R248, R249). -/
def State.handshakeLost (s : State) (ch : Nat) : State :=
  if (s.chan ch).wait then
    let t := s.putChan ch { s.chan ch with wait := false }
    ((t.when (t.phase ch == 0) fun u => u.confirm ch).latchFault ch 3).gatesRefresh
  else s

/-- R248, R249, R244. -/
def execHandshakeTimeout (ch : Fin 36) (s : State) : Res := done (s.handshakeLost ch)

/-- R242 to R244: detection is active from HOIST to the falling command. -/
def execDesaturation (ch : Fin 36) (s : State) : Res :=
  done (if s.gateOn ch then ((s.latchFault ch 1).reef ch).gatesRefresh else s)

/-- REEFT has passed: sink, CLEAT-low and gate-low confirmed; a waiting GCLR may now clear the group latch (R243, R245). -/
def State.reefEnds (s : State) (ch : Nat) : State :=
  if s.reefing ch then (((s.setPhase ch 0).confirm ch).finishGclr (groupOf ch)).settleGate ch else s

/-- R243. -/
def execReefStep2 (ch : Fin 36) (s : State) : Res := done (s.reefEnds ch).gatesRefresh

/-- R245: GCLR written as 1. -/
def execGclr (port : Port) (g : Fin 6) (s : State) : Res := done (s.portStore port (Adr.GGRP_GCLR g) 1#32)

/-- UV is latched and reported only on an enabled group whose supplies Shroud has not cut and whose domain is on (R246). -/
def State.uvReported (s : State) (ch : Nat) : Bool :=
  s.pageEn (Pg.GGRP (groupOf ch)) && !bit s.shroud.cut (groupOf ch) && s.domOn (islandDom (groupOf ch))

/-- The positive rail comes to a level in mV: lockout below 13.0 V, recovery above 13.8 V (R246). -/
def State.railLevel (s : State) (ch mv : Nat) : State :=
  let c := s.chan ch
  if !c.supply then s
  else if mv < 13000 ∧ !c.uv then
    let t := (s.putChan ch { c with uv := true, wait := false }).setPhase ch 8
    (if s.uvReported ch then t.latchFault ch 2 else t).finishGclr (groupOf ch)
  else if 13800 < mv ∧ c.uv then (s.putChan ch { c with uv := false }).gateLow ch
  else s

/-- R246. -/
def execUndervoltageLockout (ch : Fin 36) (mv : Nat) (s : State) : Res := done (s.railLevel ch mv)

/-- R247: no valid command frame for 200 ns. -/
def execLinkFault (ch : Fin 36) (s : State) : Res :=
  done (if (s.chan ch).supply then
      (((s.latchFault ch 4).putChan ch { (s.latchFault ch 4).chan ch with link := true }).reef ch).gatesRefresh
    else s)

/-- CSTAT.OT follows OTW; at or above it the flag and PEVT.WARN are set (R247). -/
def State.islandTemp (s : State) (ch : Nat) (degC : Int) : State :=
  let otw := s.fld (Adr.GGRP_MISC (groupOf ch) (posOf ch)) 15 8
  if !(s.chan ch).supply then s
  else if (otw : Int) ≤ degC then
    ((s.setFlag (cstat ch) 11 true).setFlag (cflag ch) 2 true).raise (Pg.GGRP (groupOf ch)) 1
  else s.setFlag (cstat ch) 11 false

/-- R247. -/
def execIslandOvertemperature (ch : Fin 36) (degC : Int) (s : State) : Res := done (s.islandTemp ch degC)

/-- R253: STCTRL.RUN written as 1. -/
def execSelftestRun (port : Port) (g : Fin 6) (s : State) : Res := done (s.portStore port (Adr.GGRP_STCTRL g) 1#32)

/-- R253. -/
def execSelftestDone (g : Fin 6) (fails : BitVec 8) (s : State) : Res :=
  done (if s.flag (Adr.GGRP_GSTAT g) 7 then (s.selfTestDone g fails).bootAdvance else s)

end Sys2Proof.Machine
end

