-- ==== Sys2Proof/Machine/ExecGms.lean ====
section
/-! DEFINITION. Commands of chapter 17: the mailbox, the records, UDS. A mailbox command runs when its pair's doorbell is the first in order and
CMD holds its code (R403, R404). -/

namespace Sys2Proof.Machine

def execVersion (pair : Fin 2) (s : State) : Res := done (s.mbxRun pair 0x01 0 fun t => t.ansVersion)
def execWakeCfg (pair : Fin 2) (s : State) : Res := done (s.mbxRun pair 0x15 0 fun t => t.wakeCfg pair)
def execRetainWrite (pair : Fin 2) (s : State) : Res := done (s.mbxRun pair 0x16 0 fun t => t.ansRetain pair)
def execDataStore (pair : Fin 2) (s : State) : Res := done (s.mbxRun pair 0x20 0 fun t => t.ansDataStore pair)
def execDataLoad (pair : Fin 2) (s : State) : Res := done (s.mbxRun pair 0x21 0 fun t => t.ansDataLoad pair)
def execBbMark (pair : Fin 2) (s : State) : Res := done (s.mbxRun pair 0x40 0 fun t => t.ansMark pair)
/-- R412. -/
def execBbCommit (pair : Fin 2) (s : State) : Res := done (s.mbxRun pair 0x41 0 fun t => .ok t.commitStart [])
def execBbRead (pair : Fin 2) (s : State) : Res := done (s.mbxRun pair 0x42 0 fun t => t.ansBbRead pair)
def execBbCfg (pair : Fin 2) (s : State) : Res := done (s.mbxRun pair 0x43 0 fun t => t.ansBbCfg pair)
def execFcCfg (pair : Fin 2) (s : State) : Res := done (s.mbxRun pair 0x44 0 fun t => t.ansFcCfg pair)
def execFcArm (pair : Fin 2) (s : State) : Res := done (s.mbxRun pair 0x45 0 fun t => t.ansFcArm pair)
def execMeterRead (pair : Fin 2) (s : State) : Res := done (s.mbxRun pair 0x50 0 fun t => t.ansMeterRead)
def execMeterCal (pair : Fin 2) (s : State) : Res := done (s.mbxRun pair 0x51 2 fun t => t.ansMeterCal pair)
def execPassportGet (pair : Fin 2) (s : State) : Res := done (s.mbxRun pair 0x60 0 fun t => t.ansPassport pair)
def execPassportZadd (pair : Fin 2) (s : State) : Res := done (s.mbxRun pair 0x61 0 fun t => t.ansZadd pair)
def execUpdateConfirm (pair : Fin 2) (s : State) : Res := done (s.mbxRun pair 0x70 0 fun t => t.ansConfirm pair)
/-- R426. -/
def execAccessDrop (pair : Fin 2) (s : State) : Res := done (s.mbxRun pair 0x80 0 fun t => .ok (t.setLevel 0 0) [])

/-- R412: one of the causes of a commit. [DESIGN CHOICE, assumption 29] -/
def execBbCommitStart (s : State) : Res := done (s.onGms State.commitStart)

/-- R412: the write to MRAM is complete. -/
def execBbCommitDone (s : State) : Res := done s.commitDone

/-- R412: BBPER seconds have passed. -/
def execBbPeriod (s : State) : Res := done (s.onGms State.commitStart)

/-- R413. -/
def execFcTick (s : State) : Res := done (s.onGms State.fcTick)

/-- R415. -/
def execFcFreeze (s : State) : Res := done (s.onGms State.fcFreeze)

/-- R416. -/
def execMeterSample (s : State) : Res := done (s.onGms State.meterSample)

/-- R417. -/
def execMeterRecord (s : State) : Res := done (s.onGms State.meterWrite)

/-- R418. -/
def execPassportHistogram (s : State) : Res := done (s.onGms State.histogram)

/-- R408. -/
def execMramScrub (uncorrectable : Bool) (s : State) : Res := done (s.scrub uncorrectable)

/-! ### UDS (R421 to R426) -/

def execDiagnosticSessionControl (ch : Fin 6) (session : Byte) (s : State) : Res := done (s.udsSessionControl ch session)

/-- R424, R425. -/
def execSecurityAccess (ch : Fin 6) (sub : Byte) (verdict : Bool) (s : State) : Res := done (s.udsSecurity ch sub verdict)

/-- R426: 30 min without an authenticated request. -/
def execAccessTimeout (s : State) : Res := done (s.onGms fun t => t.setLevel 0 0)

/-- R418. -/
def execReadDataByIdentifier (ch : Fin 6) (did : BitVec 16) (s : State) : Res := done (s.udsRead ch did.toNat)

/-- R421. -/
def execRequestDownload (ch : Fin 6) (slotB : Bool) (length : Nat) (s : State) : Res := done (s.udsDownload ch slotB length)

/-- R421. -/
def execTransferData (ch : Fin 6) (seq : Byte) (data : List Byte) (s : State) : Res := done (s.udsTransfer ch seq data)

/-- R421. -/
def execRequestTransferExit (ch : Fin 6) (s : State) : Res := done (s.udsExit ch)

/-- R419, R421. -/
def execRoutineCheckSlot (ch : Fin 6) (facts : SlotFacts) (s : State) : Res := done (s.udsCheck ch facts)

/-- R421. -/
def execRoutineActivateSlot (ch : Fin 6) (s : State) : Res := done (s.udsActivate ch)

/-- R422. -/
def execRoutinePairRestart (ch : Fin 6) (option : Byte) (s : State) : Res := done (s.udsPairRestart ch option)

/-- R421. -/
def execEcuReset (ch : Fin 6) (sub : Byte) (s : State) : Res := done (s.udsReset ch sub)

/-- A tester's configuration write, made by GMS with the key of the page where GMS owns it (R461). -/
def State.testerWrite (s : State) (ch a : Nat) (w : Word) : State :=
  if !s.udsServes ch false then s
  else if s.level < 2 then s.udsNo 0x33#8
  else
    let p := a / 4096
    let t := if s.owner p = 3 then s.setKey p (.armed 4) else s
    match t.regWrite 4 (w32 (busAddr a)) a .plain w with
    | (u, none) => u.udsOk []
    | (u, some _) => u.udsNo 0x22#8

/-- R461. [DESIGN CHOICE, assumption 17] -/
def execTesterConfigWrite (ch : Fin 6) (addr value : Word) (s : State) : Res :=
  match regOffset addr.toNat with
  | some a => done (s.testerWrite ch a value)
  | none => .fault .illFormedCommand

end Sys2Proof.Machine
end

