-- ==== Sys2Proof/Machine/ExecIcx.lean ====
section
/-! DEFINITION. Commands of chapter 05: transactions, arbitration, locked sequences, budgets. -/

namespace Sys2Proof.Machine

/-- R96, R98: a transaction of no such form does not exist. -/
def execTransactionIssue (port : Port) (t : Txn) (s : State) : Res :=
  if txnOk t then done (s.issue port t) else .fault .illFormedCommand

/-- R100 to R103. -/
def execArbitrationRound (t : Fin 16) (s : State) : Res := done (s.icxArbitrate t)

/-- R97. -/
def execTransactionResponse (t : Fin 16) (s : State) : Res := done (s.respond t)

/-- R109. -/
def execTargetTimeout (t : Fin 16) (s : State) : Res := done (s.targetTimeout t)

/-- The atomic instructions come from ports 0 to 4, on an aligned word (R106). -/
def atomicOk (port : Nat) (addr : Word) : Bool := decide (port < 5) && addr.toNat % 4 == 0

/-- R106. -/
def execLrW (port : Port) (rd : Fin 32) (addr : Word) (s : State) : Res :=
  if atomicOk port addr then done (s.when (s.portLive port) fun t => t.loadReserved port rd addr) else .fault .illFormedCommand

/-- R106, R107. -/
def execScW (port : Port) (rd : Fin 32) (addr value : Word) (s : State) : Res :=
  if atomicOk port addr then done (s.when (s.portLive port) fun t => t.storeConditional port rd addr value)
  else .fault .illFormedCommand

/-- R106. -/
def execAmo (port : Port) (op : AmoOp) (rd : Fin 32) (addr value : Word) (s : State) : Res :=
  if atomicOk port addr then done (s.when (s.portLive port) fun t => t.atomic port op rd addr value) else .fault .illFormedCommand

/-- R97: the core waits for its outstanding transactions. -/
def execFence (core : Fin 4) (s : State) : Res :=
  done (if s.coreRuns core && decide (0 < s.icxTags core) then s.putCore core { s.core core with fence := true } else s)

/-- R106: LOCK_MAX. -/
def execLockExpiry (t : Fin 16) (s : State) : Res := done (s.lockExpire t)

/-- R110. -/
def execIcxCfg (pair : Fin 2) (s : State) : Res := done (s.mbxRun pair 0x14 0 fun t => t.ansIcxCfg pair)

/-- R111. -/
def execInterconnectPeriod (s : State) : Res := done (s.onPage Pg.TBU State.icxPeriod)

/-- R112, R113. -/
def execTrimBudgetCut (n : Fin 4) (mismatch : Bool) (s : State) : Res := done (s.budgetCut n mismatch)

end Sys2Proof.Machine
end

