-- ==== Sys2Proof/Machine/ExecNet.lean ====
section
/-! DEFINITION. Commands of chapter 19: CAN, Ethernet, network time. -/

namespace Sys2Proof.Machine

/-- R447, R450, R452. -/
def execCanRxFrame (n : Fin 4) (xtd remote fd : Bool) (id : BitVec 29) (data : List Byte) (s : State) : Res :=
  done (s.canReceive n xtd remote fd id.toNat data)

/-- R452: TXTAIL written. -/
def execCanTxtailWrite (port : Port) (n : Fin 4) (tail : BitVec 8) (s : State) : Res :=
  done (s.portStore port (Adr.CAN_TXTAIL n) (tail.zeroExtend 32))

/-- R452. -/
def execCanTxDone (n : Fin 4) (s : State) : Res := done (s.canSent n)

/-- R447, R450, R453. -/
def execEthRxFrame (n : Fin 2) (frame : List Byte) (crcOk : Bool) (s : State) : Res := done (s.ethReceive n frame crcOk)

/-- R453: TXTAIL0 or TXTAIL1 written. -/
def execEthTxtailWrite (port : Port) (n : Fin 2) (ring : Fin 2) (tail : BitVec 16) (s : State) : Res :=
  done (s.portStore port (Adr.ETH_TXTAIL n ring) (tail.zeroExtend 32))

/-- R453. -/
def execEthTxDone (n : Fin 2) (s : State) : Res := done (s.ethSent n)

/-- R453. -/
def execEthLinkChange (n : Fin 2) (up : Bool) (s : State) : Res := done (s.ethLink n up)

/-- R449: NTOFSH written. -/
def execNtofshWrite (port : Port) (value : Word) (s : State) : Res := done (s.portStore port (Adr.ETH_NTOFSH 0) value)

/-- R449: NTNOWL read. -/
def execNtnowlRead (port : Port) (s : State) : Res := done (s.portLoad port (Adr.ETH_NTNOWL 0))

/-- R452. -/
def execCanBusOff (n : Fin 4) (s : State) : Res := done (s.canBusOff n)

end Sys2Proof.Machine
end

