-- ==== Sys2Proof/Machine/ExecObc.lean ====
section
/-! DEFINITION. Commands of chapter 14: the charger, its pilot and its lamps. -/

namespace Sys2Proof.Machine

/-- R324: line voltages in 0.1 V and the frequency in 0.01 Hz. -/
def execObcUpdate (v1 v2 v3 freq : Nat) (s : State) : Res := done (s.obcUpdate v1 v2 v3 freq)

/-- R331. -/
def execObcPlugged (s : State) : Res := done s.obcPlugged

/-- R333: CMD.START. -/
def execObcStart (port : Port) (s : State) : Res := done (s.portStore port Adr.OBC_CMD 1#32)

/-- R343: CMD.EXPORT. -/
def execObcExport (port : Port) (s : State) : Res := done (s.portStore port Adr.OBC_CMD 4#32)

/-- R331: CMD.STOP. -/
def execObcStop (port : Port) (s : State) : Res := done (s.portStore port Adr.OBC_CMD 2#32)

/-- R333. -/
def execPrechargeDone (timeout : Bool) (s : State) : Res := done (s.obcPrecharged timeout)

/-- R333, R343. -/
def execAcPresent (timeout : Bool) (s : State) : Res := done (s.obcAc timeout)

/-- R334. -/
def execSearchClimb (s : State) : Res := done s.obcClimb

/-- R337. -/
def execCvStep (s : State) : Res := done s.obcCvStep

/-- R337. -/
def execChargeDone (s : State) : Res := done s.obcDone

/-- R338. -/
def execHostWatchdogExpiry (s : State) : Res := done s.obcHostLost

/-- R339. -/
def execHandoverS2Open (timeout : Bool) (s : State) : Res := done (s.obcS2Open timeout)

/-- R339. -/
def execHandoverAcWaitEnd (timeout : Bool) (s : State) : Res := done (s.obcAcGone timeout)

/-- R339. -/
def execHandoverEnd (s : State) : Res := done s.obcFinish

/-- R327. -/
def execPilotStateChange (high low : Int) (osc : Bool) (s : State) : Res := done (s.pilotState high low osc)

/-- R329. -/
def execPpChange (mv : Nat) (s : State) : Res := done (s.pilotPp mv)

/-- R340. -/
def execPilotLimitTimeout (s : State) : Res := done s.obcPilotLost

/-- R343. -/
def execExportReconnect (s : State) : Res := done s.obcReconnect

/-- R343. -/
def execExportWindowTrip (s : State) : Res := done s.obcWindowTrip

/-- R345. -/
def execLampOvercurrent (status : Bool) (s : State) : Res := done (s.onPage Pg.PILOT fun t => t.lampOver status.toNat)

/-- R345. -/
def execLampRetry (status : Bool) (s : State) : Res := done (s.onPage Pg.PILOT fun t => t.lampRetry status.toNat)

/-- R345: the end of an on or off interval. -/
def execLampPattern (status : Bool) (s : State) : Res := done (s.lampNext status.toNat)

/-- R327, R328. -/
def execPilotCycleMeasured (freq duty : Nat) (high low : Int) (s : State) : Res := done (s.pilotCycle freq duty high low)

end Sys2Proof.Machine
end

