-- ==== Sys2Proof/Machine/ExecPages.lean ====
section
/-! DEFINITION. Commands of chapter 04: register pages, captures, device time, events. -/

namespace Sys2Proof.Machine

/-- The word that writes PCTRL with a bit set, or cleared: EN, LOCK and SAFETY as they stand, SRST, which reads 0, written as 0 (R69). [DEDUCED, assumption 16] -/
def State.pctrlWith (s : State) (p : Nat) (m : Word) : Word := (s.reg (Adr.PCTRL p) &&& 0xD#32) ||| m
/-- The word that writes PCTRL with a bit cleared (R69). [DEDUCED, assumption 16] -/
def State.pctrlWithout (s : State) (p : Nat) (m : Word) : Word := (s.reg (Adr.PCTRL p) &&& 0xD#32) &&& ~~~m

/-- R70: PCTRL.EN written as 1. -/
def execPageEnable (port : Port) (page : Nat) (s : State) : Res :=
  done (s.pageStore port page 0x04 (s.pctrlWith page 1#32))

/-- R69: PCTRL.EN written as 0. -/
def execPageDisable (port : Port) (page : Nat) (s : State) : Res :=
  done (s.pageStore port page 0x04 (s.pctrlWithout page 1#32))

/-- R71: PCTRL.SRST written as 1. -/
def execSoftReset (port : Port) (page : Nat) (s : State) : Res :=
  done (s.pageStore port page 0x04 (s.pctrlWith page 2#32))

/-- R82: PCTRL.LOCK written as 1. -/
def execConfigLock (port : Port) (page : Nat) (s : State) : Res :=
  done (s.pageStore port page 0x04 (s.pctrlWith page 4#32))

/-- R75: PKEY written. -/
def execKeyWrite (port : Port) (page : Nat) (key : BitVec 16) (s : State) : Res := done (s.pageStore port page 0x1C (key.zeroExtend 32))

/-- R75: 64 interconnect cycles have passed without the armed key's write. -/
def State.keyLapse (s : State) (p : Nat) : State :=
  match (s.page p).key with
  | .armed _ => s.setKey p .idle
  | .idle | .first _ => s

def execKeyLapse (page : Nat) (s : State) : Res := done (s.keyLapse page)

/-- R78: POWNER written. -/
def execOwnerClaim (port : Port) (page : Nat) (value : Word) (s : State) : Res := done (s.pageStore port page 0x18 value)

/-- R77: a write through an alias. The address is the register's own. -/
def execAliasWrite (port : Port) (clear : Bool) (addr value : Word) (s : State) : Res :=
  match regOffset addr.toNat with
  | some a => done (s.perform port (writeTxn (aliasAddr clear a) value))
  | none => .fault .illFormedCommand

/-- R72: a register written. -/
def execRegisterWrite (port : Port) (addr value : Word) (s : State) : Res :=
  match regOffset addr.toNat with
  | some a => done (s.portStore port a value)
  | none => .fault .illFormedCommand

/-- R81. -/
def execCrcRecomputed (page : Nat) (s : State) : Res := done (s.onPage page fun t => t.crcDone page)

/-- R82: an upset of a covered word, if any, then the compare of a locked page. -/
def State.upset (s : State) (p off : Nat) (x : Word) : State :=
  match pageRow p with
  | some r => if (configOffsets r.blk (p - r.page)).contains off then s.setReg (4096 * p + off) (s.reg (4096 * p + off) ^^^ (x &&& crcMask r.blk off)) else s
  | none => s

/-- A mismatch found: CFGCRC, the log of the page's owner, the safe state of a marked page. -/
def State.crcBad (s : State) (p : Nat) : State :=
  if s.flag (Adr.PFAULT p) 31 then s
  else
    let base := w32 (busAddr (4096 * p))
    let t := s.fault p 31
    let u := if s.owner p = 3 then t.logGms 15 base Reason.cfgCrc false
      else if s.owner p = 0 then t else t.logAcc (s.owner p - 1) 15 base Reason.cfgCrc false
    u.when (s.pageMarked p) fun v => v.pageSafe p

/-- The compare of R82: none while CRCBUSY or before PCRC is latched. -/
def State.crcCompare (s : State) (p : Nat) : State :=
  if !s.pageLocked p || s.flag (Adr.PSTAT p) 31 then s
  else match (s.page p).latch with
    | none => s
    | some l =>
      let t := s.setReg (Adr.PCRC p) (s.crcNow p)
      if s.crcNow p = l then t else t.crcBad p

/-- A CRC check of one page (R81), after the upset of a stored word that the command may carry. [DESIGN CHOICE, assumption 19] -/
def execCrcCheck (page : Nat) (upset : Option (BitVec 12 × Word)) (s : State) : Res :=
  done (s.onPage page fun t =>
    (match upset with
      | some (off, x) => t.upset page off.toNat x
      | none => t).crcCompare page)

/-- R86. -/
def execEventOccurrence (e : Fin 256) (s : State) : Res := done (s.deliver e)

/-- R93: CAPCTRL.SNAP written as 1. -/
def execCaptureSnap (port : Port) (n : Fin 2) (k : Fin 8) (s : State) : Res :=
  done (s.portStore port (Adr.EVR_CAPCTRL n k) (s.withBits (Adr.EVR_CAPCTRL n k) 2#32))

/-- R93: CAPTLk read. -/
def execCaptureFreezeRead (port : Port) (n : Fin 2) (k : Fin 8) (s : State) : Res := done (s.portLoad port (Adr.EVR_CAPTL n k))

/-- R93: CAPVk read. -/
def execCaptureReleaseRead (port : Port) (n : Fin 2) (k : Fin 8) (s : State) : Res := done (s.portLoad port (Adr.EVR_CAPV n k))

/-- R93: 64 interconnect cycles of a freeze have passed. -/
def execCaptureFreezeLapse (n : Fin 2) (k : Fin 8) (s : State) : Res := done (s.capLapse n k)

/-- R87: DTIMEL read. -/
def execDtimeRead (port : Port) (n : Fin 2) (s : State) : Res := done (s.portLoad port (Adr.EVR_DTIMEL n))

/-- R87: the periodic timer reaches TMRPER. -/
def execEvrTimerExpiry (n : Fin 2) (s : State) : Res := done (if s.timerRuns n then s.raise (Pg.EVR n) 1 else s)

/-- R94. -/
def execRecordDrain (s : State) : Res := done (s.onGms State.recordDrain)

end Sys2Proof.Machine
end

