-- ==== Sys2Proof/Machine/ExecPair.lean ====
section
/-! DEFINITION. Commands of chapter 06: windows, verdicts, realignment, locking, splitting, debug. -/

namespace Sys2Proof.Machine

/-- R120. -/
def execWindowClose (pair : Fin 2) (main checker : List FoldItem) (s : State) : Res := done (s.windowClose pair main checker)

/-- R121 to R127, R137. -/
def execCompareResult (pair : Fin 2) (selfTestOk : Bool) (s : State) : Res := done (s.verdict pair selfTestOk)

/-- R124. -/
def execDelayFault (pair : Fin 2) (s : State) : Res := done (s.delayFault pair)

/-- R128. -/
def execRealignComplete (pair : Fin 2) (s : State) : Res := done (s.realigned pair)

/-- R126. -/
def execAxfinRead (core : Fin 4) (rd : Fin 32) (s : State) : Res := done (s.axfinRead core rd)

/-- R126. -/
def execDevEdgeWake (core : Fin 4) (k : Fin 4) (s : State) : Res := done (s.devWake core k)

/-- R135. -/
def execPairRestart (pair : Fin 2) (s : State) : Res := done (s.mbxRun pair 0x13 0 fun t => t.ansPairRestart pair)

/-- R136: SYNC.REQ written by a core of its own pair. -/
def execSyncReq (core : Fin 4) (s : State) : Res := done (s.portStore core (Adr.PAIR_SYNC (core / 2)) 1#32)

/-- R136. -/
def execSyncTimeout (pair : Fin 2) (s : State) : Res := done (s.syncTimeout pair)

/-- R136. -/
def execLockComplete (pair : Fin 2) (s : State) : Res := done (s.lockDone pair)

/-- R137: SPLIT.REQ written by a core of its own pair. -/
def execSplitReq (core : Fin 4) (s : State) : Res := done (s.portStore core (Adr.PAIR_SPLIT (core / 2)) 1#32)

/-- R139. -/
def execDebugHalt (pair : Fin 2) (s : State) : Res := done (s.debugHalt pair)

/-- R140. -/
def execDebugAbstractCommand (pair : Fin 2) (dst : CoreReg) (value : Word) (s : State) : Res := done (s.debugWrite pair dst value)

/-- R139, R140. -/
def execDebugResume (pair : Fin 2) (s : State) : Res := done (s.debugResume pair)

end Sys2Proof.Machine
end

