-- ==== Sys2Proof/Machine/ExecPower.lean ====
section
/-! DEFINITION. Commands of chapters 00 and 03: power domains, start, sleep, wake, supply and clock faults. -/

namespace Sys2Proof.Machine

/-- R1: the personality of the next cold start. -/
def execPersonality (pair : Fin 2) (s : State) : Res := done (s.mbxRun pair 0x31 2 fun t => t.ansPersonality pair)

/-- R43, R44. -/
def execPdReq (pair : Fin 2) (s : State) : Res := done (s.mbxRun pair 0x10 0 fun t => t.pdRequest pair)

/-- R46: a domain being switched on is powered. -/
def execDomainPowered (d : Fin 12) (s : State) : Res := done (s.domainPowered d)

/-- R53. -/
def execSleep (pair : Fin 2) (s : State) : Res := done (s.mbxRun pair 0x11 0 fun t => t.sleepGo)

/-- R50. -/
def execWakeSourceLatch (src : Fin 18) (s : State) : Res := done (s.wakeLatch src)

/-- R458: the wake timer's time passes. -/
def execWakeTimerExpiry (s : State) : Res := done s.wakeTimerEnd

/-- R59. -/
def execWarmWake (facts : BootFacts) (s : State) : Res := done (s.warmWake facts)

/-- R58. -/
def execColdStart (facts : BootFacts) (s : State) : Res := done (s.coldStart facts)

/-- R56. -/
def execClockFault (xtal : Bool) (s : State) : Res := done (s.clockFault xtal)

/-- R57. -/
def execPllnetFault (s : State) : Res := done s.pllnetFault

/-- R57. -/
def execPllnetRelock (ok : Bool) (s : State) : Res := done (s.pllnetRelock ok)

/-- R62. -/
def execVsWarning (vs : BitVec 16) (s : State) : Res := done (s.vsWarning vs.toNat)

/-- R63. -/
def execVsResume (vs lowest : BitVec 16) (s : State) : Res := done (s.vsResume vs.toNat lowest.toNat)

/-- R34. -/
def execVsOvervoltage (vs : BitVec 16) (s : State) : Res := done (s.vsOvervoltage vs.toNat)

/-- R64. -/
def execSupplyReset (vs : BitVec 16) (s : State) : Res := done (s.supplyReset vs.toNat)

/-- R64. -/
def execHoldupExhausted (mastLost : Bool) (s : State) : Res := done (s.holdupExhausted mastLost)

/-- R404. -/
def execColdReset (pair : Fin 2) (s : State) : Res := done (s.mbxRun pair 0x12 0 fun t => t.ansColdReset)

/-- R61: the watchdog resets the GMS core, or GMS is back. -/
def execGmsRestart (back : Bool) (s : State) : Res :=
  done (if back then (if s.gms.restarting then s.gmsBack else s) else s.onGms State.gmsDown)

/-- R56: the halted cold start tries again. -/
def execXtal25Retry (facts : BootFacts) (s : State) : Res := done (s.xtalRetry facts)

end Sys2Proof.Machine
end

