-- ==== Sys2Proof/Machine/ExecPwm.lean ====
section
/-! DEFINITION. Commands of chapter 10 at the PWM units and the low-voltage drivers. -/

namespace Sys2Proof.Machine

/-- What happens at the period boundary of one unit: its load point, and the blocks that commit there (R11, R310, R326, R351). -/
def State.unitBoundary (s : State) (u : Nat) : State :=
  let t := (s.loadPoint u false).obcLoad u
  let v := if u = t.dcdcUnit then t.dcdcBoundary else t
  if 7 ≤ u ∧ u ≤ 9 then v.actBoundary (u - 7) else v

/-- A unit is at its boundary: its followers are set, and those that come to their own boundary are served too (R233). -/
def State.boundary (s : State) (u : Nat) : State :=
  let r := State.syncFollowers 16 s u
  (u :: r.2).foldl State.unitBoundary r.1

/-- R11: the counter of a running unit comes to its boundary, or to its peak. -/
def execLoadPoint (u : Fin 16) (peak : Bool) (s : State) : Res :=
  done (if !(s.pwm u).run || (peak && s.pwmEdge u) then s
    else if peak then (s.setPos u (s.pwmPeriod u / 2)).loadPoint u true
    else (s.setPos u 0).boundary u)

/-- R234: the instant of a generator. -/
def execEventGenerator (u : Fin 16) (g : Fin 2) (s : State) : Res := done (s.egReference u g)

/-- R230: a tripped unit's outputs take TRIPOUT at once, and what they drive follows. -/
def execAsynchronousTrip (u : Fin 16) (s : State) : Res :=
  let t := s.tripAsync u
  done (if t.pwmTripped u && !s.pwmTripped u then (t.each [0, 1, 2, 3] fun v k => v.outTick u k (false, false)).gatesRefresh else t)

/-- R231: TRIPCLR written as 1. -/
def execTripclr (port : Port) (u : Fin 16) (s : State) : Res := done (s.portStore port (Adr.PWM_TRIPCLR u) 1#32)

/-- R235: SWCOMMIT written as 1. -/
def execSwcommit (port : Port) (u : Fin 16) (s : State) : Res := done (s.portStore port (Adr.PWM_SWCOMMIT u) 1#32)

/-- R238: the drive supply in mV. -/
def execSrdSupplyFail (mv : Nat) (s : State) : Res := done (s.onPage Pg.LVDRV fun t => t.srdSupply mv)

end Sys2Proof.Machine
end

