-- ==== Sys2Proof/Machine/ExecRing.lean ====
section
/-! DEFINITION. Commands of chapter 16: the rings, their transactions, the correlator. -/

namespace Sys2Proof.Machine

/-- R378: CTRL.RUN written as 1. -/
def execRingRun (port : Port) (k : Fin 4) (s : State) : Res :=
  done (s.portStore port (Adr.EFR_CTRL k) (s.withBits (Adr.EFR_CTRL k) 1#32))

/-- R394: CTRL.RUN written as 0. -/
def execRingStop (port : Port) (k : Fin 4) (s : State) : Res :=
  done (s.portStore port (Adr.EFR_CTRL k) (s.withoutBits (Adr.EFR_CTRL k) 1#32))

/-- R394: CTRL.TONE written as 1. -/
def execRingTone (port : Port) (k : Fin 4) (s : State) : Res :=
  done (s.portStore port (Adr.EFR_CTRL k) (s.withBits (Adr.EFR_CTRL k) 4#32))

/-- R378. -/
def execRingTrainEnd (k : Fin 4) (aUp bUp : Bool) (s : State) : Res := done (s.ringTrained k aUp bUp)

/-- R379. -/
def execRingEnumDone (k : Fin 4) (fromA fromB : List (Nat × NodeFacts)) (full : Bool) (s : State) : Res :=
  done (s.ringEnumerated k fromA fromB full)

/-- R380. -/
def execRingMeasDone (k : Fin 4) (hops : List (Nat × Option Nat × Option Nat)) (s : State) : Res := done (s.ringMeasured k hops)

/-- R383: CTRL.STREAM written as 1. -/
def execRingStreamStart (port : Port) (k : Fin 4) (s : State) : Res :=
  done (s.portStore port (Adr.EFR_CTRL k) (s.withBits (Adr.EFR_CTRL k) 2#32))

/-- R381. -/
def execRingSync (k : Fin 4) (s : State) : Res := done (s.ringSync k)

/-- R383. -/
def execRingStreamSend (k : Fin 4) (s : State) : Res := done (s.ringSend k)

/-- R384 to R390, R397. -/
def execRingStreamReceive (k : Fin 4) (areas : List RingArea) (aborted : Bool) (s : State) : Res := done (s.ringReceive k areas aborted)

/-- R398. -/
def execZcorCopyDone (k : Fin 4) (s : State) : Res := done (s.zCopied k)

/-- R396: ZCTRL.START written as 1. -/
def execZcorStart (port : Port) (k : Fin 4) (s : State) : Res := done (s.portStore port (Adr.ZCOR_ZCTRL k) 1#32)

/-- R400: ZCTRL.ABORT written as 1. -/
def execZcorAbort (port : Port) (k : Fin 4) (s : State) : Res := done (s.portStore port (Adr.ZCOR_ZCTRL k) 2#32)

/-- R390: TQTAIL written. -/
def execTqtailWrite (port : Port) (k : Fin 4) (tail : BitVec 8) (s : State) : Res :=
  done (s.portStore port (Adr.EFR_TQTAIL k) (tail.zeroExtend 32))

/-- R390, R391. -/
def execRingTransactionComplete (k : Fin 4) (tag : Fin 32) (data : List Word) (status : Word) (ack : List Byte) (aborted : Bool)
    (s : State) : Res :=
  done (s.txComplete k tag data status ack aborted)

/-- R390. -/
def execRingTransactionTimeout (k : Fin 4) (tag : Fin 32) (s : State) : Res := done (s.txTimeout k tag)

/-- R371. -/
def execRingLaneDown (k : Fin 4) (portB : Bool) (reachedA fromB : Nat) (s : State) : Res := done (s.ringLaneDown k portB reachedA fromB)

/-- R371. -/
def execRingLaneUp (k : Fin 4) (portB : Bool) (s : State) : Res := done (s.ringLaneUp k portB)

end Sys2Proof.Machine
end

