-- ==== Sys2Proof/Machine/ExecShroud.lean ====
section
/-! DEFINITION. Commands of chapter 07: Shroud's cycles, its inputs, resets and configuration. -/

namespace Sys2Proof.Machine

/-- R143. -/
def execShroudACycle (s : State) : Res := done s.cycleA

/-- R155. -/
def execShroudBCycle (s : State) : Res := done s.cycleB

/-- Stage 4 of the cold start, once both BISTs have passed and the channels exchange (R58). -/
def State.stageFour (s : State) : State :=
  if s.stage = 3 ∧ !s.wasWarm ∧ s.shroud.a.state = 0 ∧ s.shroud.a.bist ∧ s.shroud.b.bist then s.setStage 4 else s

/-- R144. -/
def execXcmpExchange (missing lpRcOff : Bool) (s : State) : Res := done ((s.exchange missing lpRcOff).stageFour.bootAdvance)

/-- R147. -/
def execShroudOperateEntry (s : State) : Res := done (if s.operateReady then ((s.shroudEnter 1).reselect).bootAdvance else s)

/-- R148. -/
def execCommission (pair : Fin 2) (s : State) : Res := done (s.mbxRun pair 0x30 2 fun t => t.ansCommission pair)

/-- R149. -/
def execSinInputChange (i : Fin 8) (chB : Bool) (level : Level) (s : State) : Res := done (s.sinChange i chB level)

/-- R150. -/
def execSinFilterExpiry (i : Fin 8) (s : State) : Res := done (s.sinFilter i)

/-- R151. -/
def execSinDiscrepancy (i : Fin 8) (s : State) : Res := done (s.sinDiffer i)

/-- R153. -/
def execSs1Timeout (g : Fin 2) (s : State) : Res := done (s.ss1Timeout g)

/-- R157. -/
def execFinalSto (g : Fin 6) (s : State) : Res := done (s.finalSto g)

/-- R155, R250. -/
def execIslandSafeCode (ch : Fin 36) (code : LineCode) (s : State) : Res := done (s.pathBCode ch (pathBOf code))

/-- R162, R163. -/
def execSafeResetRequest (idleMs skewMs widthMs : Nat) (s : State) : Res :=
  done (if resetValid idleMs skewMs widthMs && s.shroudAOn then s.safeReset else s)

/-- R163: a pulse longer than 2000 ms is ignored. -/
def execSafeResetJam (s : State) : Res := done (s.onPage Pg.SHRD fun t => t.raise Pg.SHRD 2)

end Sys2Proof.Machine
end

