-- ==== Sys2Proof/Machine/ExecTrim.lean ====
section
/-! DEFINITION. Commands of chapter 08: run starts, the trim instructions, contexts, trim memories, the tuner. A trim instruction's command
issues the instruction at the engine's present index; while the engine is idle, has spent its budget or stands at another instruction, it does
nothing. -/

namespace Sys2Proof.Machine

/-- An idle engine's run begins; what it reads may be corrected or lost (R187). -/
def State.runBegin (s : State) (n : Nat) (ecc : Ecc) : State :=
  match (s.engine n).run, ((s.runStart n).engine n).run with
  | none, some r => if ecc = .uncorrectable then (s.runStart n).ctxFault n r 1 else (s.runStart n).eccCount n ecc
  | _, _ => s

/-- R184. [DESIGN CHOICE, assumption 65] -/
def execTrimRunStart (n : Fin 4) (ecc : Ecc) (s : State) : Res := done (s.onPage (Pg.TRIM n) fun t => t.runBegin n ecc)

/-! ### End instructions (R172, R173, R178, R188) -/

/-- An END variant issues: the run's cycle is counted, and f ends it. -/
def State.isaEnd (s : State) (n : Nat) (ecc : Ecc) (variant : Nat) (f : State → TrimRun → State) : State :=
  match s.issues n fun w => fOp w == 0 && bits w 1 0 == variant with
  | none => s
  | some (r, _) =>
    if ecc = .uncorrectable then s.ctxFault n r 1
    else
      let r1 := { r with cyc := r.cyc + 1 }
      f ((s.eccCount n ecc).runOver n r1) r1

/-- The set-point targets of a commit (R178): staged words 0x10 + j go to the registers that SPTGTj names. -/
def State.commitTargets (s : State) (n : Nat) (r : TrimRun) : State :=
  s.each (List.range 4) fun t j =>
    let g := s.sptgt (8 * n + r.slot) j
    if bit g 31 && r.written.contains (0x10 + j) then
      t.targetWrite (bits g 20 2 * 4) (Store.get (fun _ => 0#32) r.staged (0x10 + j))
    else t

/-- The commit of a run: its PWM sets, published words and targets, and PEVT.DONE (R10, R178). -/
def State.commitRun (s : State) (n : Nat) (r : TrimRun) : State :=
  ((s.commitWords n r).commitTargets n r).raise (Pg.TRIM n) r.slot

/-- R178. -/
def execTrEnd (n : Fin 4) (ecc : Ecc) (s : State) : Res :=
  done (s.isaEnd n ecc 0 fun t r => (t.commitRun n r).ctxReport n r.slot .ok)

/-- R173, R179. -/
def execTrEndn (n : Fin 4) (ecc : Ecc) (s : State) : Res := done (s.isaEnd n ecc 1 fun t r => t.ctxReport n r.slot .ok)

/-- R188. -/
def execTrEndt (n : Fin 4) (ecc : Ecc) (s : State) : Res :=
  done (s.isaEnd n ecc 2 fun t r => ((t.commitRun n r).setFlag (Adr.TRIM_CFLAG n r.slot) 7 true).ctxReport n r.slot .trip)

/-! ### Instructions (R173 to R177): opcode, cost in cycles, meaning -/

def execTrLds (n : Fin 4) (ecc : Ecc) (s : State) : Res := done (s.isaStep n ecc 0x01 1 isaLds)
def execTrLdf (n : Fin 4) (ecc : Ecc) (s : State) : Res := done (s.isaStep n ecc 0x02 1 isaLdf)
def execTrLdt (n : Fin 4) (ecc : Ecc) (s : State) : Res := done (s.isaStep n ecc 0x03 1 isaLdt)
def execTrSto (n : Fin 4) (ecc : Ecc) (s : State) : Res := done (s.isaStep n ecc 0x04 1 isaSto)
def execTrLdk (n : Fin 4) (ecc : Ecc) (s : State) : Res := done (s.isaStep n ecc 0x05 1 isaLdk)
def execTrLst (n : Fin 4) (ecc : Ecc) (s : State) : Res := done (s.isaStep n ecc 0x06 1 isaLst)
def execTrSst (n : Fin 4) (ecc : Ecc) (s : State) : Res := done (s.isaStep n ecc 0x07 1 isaSst)
def execTrMov (n : Fin 4) (ecc : Ecc) (s : State) : Res := done (s.isaStep n ecc 0x08 1 isaMov)
def execTrAdd (n : Fin 4) (ecc : Ecc) (s : State) : Res := done (s.isaStep n ecc 0x09 1 isaAdd)
def execTrSub (n : Fin 4) (ecc : Ecc) (s : State) : Res := done (s.isaStep n ecc 0x0A 1 isaSub)
def execTrNeg (n : Fin 4) (ecc : Ecc) (s : State) : Res := done (s.isaStep n ecc 0x0B 1 isaNeg)
def execTrAbs (n : Fin 4) (ecc : Ecc) (s : State) : Res := done (s.isaStep n ecc 0x0C 1 isaAbs)
def execTrMul (n : Fin 4) (ecc : Ecc) (s : State) : Res := done (s.isaStep n ecc 0x10 2 isaMul)
def execTrMulr (n : Fin 4) (ecc : Ecc) (s : State) : Res := done (s.isaStep n ecc 0x11 2 isaMulr)
def execTrAclr (n : Fin 4) (ecc : Ecc) (s : State) : Res := done (s.isaStep n ecc 0x12 1 isaAclr)
def execTrMac (n : Fin 4) (ecc : Ecc) (s : State) : Res := done (s.isaStep n ecc 0x13 1 isaMac)
def execTrMacr (n : Fin 4) (ecc : Ecc) (s : State) : Res := done (s.isaStep n ecc 0x14 1 isaMacr)
def execTrArnd (n : Fin 4) (ecc : Ecc) (s : State) : Res := done (s.isaStep n ecc 0x15 1 isaArnd)
def execTrSatk (n : Fin 4) (ecc : Ecc) (s : State) : Res := done (s.isaStep n ecc 0x16 1 isaSatk)
def execTrLim (n : Fin 4) (ecc : Ecc) (s : State) : Res := done (s.isaStep n ecc 0x17 1 isaLim)
def execTrRamp (n : Fin 4) (ecc : Ecc) (s : State) : Res := done (s.isaStep n ecc 0x18 3 isaRamp)
def execTrPi (n : Fin 4) (ecc : Ecc) (s : State) : Res := done (s.isaStep n ecc 0x19 6 isaPi)
def execTrPit (n : Fin 4) (ecc : Ecc) (s : State) : Res := done (s.isaStep n ecc 0x1A 6 isaPit)
def execTrBiq (n : Fin 4) (ecc : Ecc) (s : State) : Res := done (s.isaStep n ecc 0x1B 8 isaBiq)
def execTrClarke (n : Fin 4) (ecc : Ecc) (s : State) : Res := done (s.isaStep n ecc 0x20 3 isaClarke)
def execTrPark (n : Fin 4) (ecc : Ecc) (s : State) : Res := done (s.isaStep n ecc 0x21 6 isaPark)
def execTrIpark (n : Fin 4) (ecc : Ecc) (s : State) : Res := done (s.isaStep n ecc 0x22 6 isaIpark)
def execTrSvm (n : Fin 4) (ecc : Ecc) (s : State) : Res := done (s.isaStep n ecc 0x23 8 isaSvm)
def execTrSincos (n : Fin 4) (ecc : Ecc) (s : State) : Res := done (s.isaStep n ecc 0x24 5 isaSincos)
def execTrAtan2 (n : Fin 4) (ecc : Ecc) (s : State) : Res := done (s.isaStep n ecc 0x25 24 isaAtan2)
def execTrSqrt (n : Fin 4) (ecc : Ecc) (s : State) : Res := done (s.isaStep n ecc 0x26 18 isaSqrt)
def execTrDiv (n : Fin 4) (ecc : Ecc) (s : State) : Res := done (s.isaStep n ecc 0x27 34 isaDiv)

/-- R172. -/
def execTrB (n : Fin 4) (ecc : Ecc) (s : State) : Res := done (s.isaBranch n ecc)

/-! ### Contexts, memories, tuner -/

/-- R182: CCTRL.CEN written as 1. -/
def execContextEnable (port : Port) (n : Fin 4) (i : Fin 8) (s : State) : Res :=
  done (s.portStore port (Adr.TRIM_CCTRL n i) (s.withBits (Adr.TRIM_CCTRL n i) 1#32))

/-- R182: the scan ends. -/
def execEnableScanDone (n : Fin 4) (i : Fin 8) (s : State) : Res := done (s.scanDone n i)

/-- R183: CCTRL.CEN written as 0. -/
def execContextDisable (port : Port) (n : Fin 4) (i : Fin 8) (s : State) : Res :=
  done (s.portStore port (Adr.TRIM_CCTRL n i) (s.withoutBits (Adr.TRIM_CCTRL n i) 1#32))

/-- R188: TWDG µs have passed without a trigger. -/
def execContextWatchdog (n : Fin 4) (i : Fin 8) (s : State) : Res := done (s.ctxWatchdog n i)

/-- R180: an aligned write of 4 or 8 bytes to the trim memories. -/
def execTrimMemoryWrite (port : Port) (addr : Word) (eight : Bool) (data : BitVec 64) (s : State) : Res :=
  let n := if eight then 8 else 4
  if trimMemory addr.toNat && addr.toNat % n == 0 then
    done (s.perform port { write := true, addr := addr, size := n, beats := 1, data := natBytes n data.toNat })
  else .fault .illFormedCommand

/-- R191: TCTRL written with SLOT, RULE and START. -/
def execTuneStart (port : Port) (n : Fin 4) (slot : Fin 8) (rule : Fin 4) (s : State) : Res :=
  done (s.portStore port (Adr.TRIM_TCTRL n) (w32 (rule.val * 256 + slot.val * 16 + 1)))

/-- R194: TCTRL.ABORT written as 1. -/
def execTuneAbort (port : Port) (n : Fin 4) (s : State) : Res :=
  done (s.portStore port (Adr.TRIM_TCTRL n) (s.withBits (Adr.TRIM_TCTRL n) 2#32))

/-- R194: TMAX ms have passed. -/
def execTuneTimeout (n : Fin 4) (s : State) : Res := done (s.tuneFail n 3)

/-- R197: TSCH.CLR written as 1. -/
def execLatencyClear (port : Port) (s : State) : Res := done (s.portStore port Adr.TSCH_CLR 1#32)

end Sys2Proof.Machine
end

