-- ==== Sys2Proof/Machine/ExecTwin.lean ====
section
/-! DEFINITION. Commands of chapter 18: the Twin link. -/

namespace Sys2Proof.Machine

/-- R428: CTRL.RUN written as 1. -/
def execTwinRun (port : Port) (s : State) : Res := done (s.portStore port Adr.TWIN_CTRL (s.withBits Adr.TWIN_CTRL 1#32))

/-- R429. -/
def execTwinFrameSend (s : State) : Res := done (s.twinSend)

/-- R429 to R432. -/
def execTwinFrameReceive (frame : List Byte) (lane1 : Bool) (s : State) : Res := done (s.twinReceive frame lane1.toNat)

/-- R432. -/
def execTwinPartnerLost (s : State) : Res := done s.twinLost

/-- R431: XREQ written. -/
def execTwinXreq (port : Port) (groups : BitVec 6) (s : State) : Res := done (s.portStore port Adr.TWIN_XREQ (groups.zeroExtend 32))

/-- R431. -/
def execTwinXreqExpiry (groups : BitVec 6) (s : State) : Res := done (s.twinXreqEnd groups.toNat)

/-- R430. -/
def execTwinOffsetMeasure (offset : Word) (s : State) : Res := done (s.twinOffset offset)

/-- R437: RHAND written. -/
def execTwinRingHandover (port : Port) (rings : BitVec 4) (s : State) : Res :=
  done (s.portStore port Adr.TWIN_RHAND (rings.zeroExtend 32))

/-- R439. -/
def execTwinTakeover (k : Fin 4) (s : State) : Res := done (s.twinTake k)

/-- R428. -/
def execTwinLinkTrained (s : State) : Res := done s.twinTrained

/-- R437. -/
def execTwinTokenReceive (k : Fin 4) (s : State) : Res := done (s.twinToken k)

/-- R436, R438. -/
def execTwinSummaryForward (k : Fin 4) (words : List (Word × Bool)) (stamp : BitVec 64) (s : State) : Res :=
  done (s.twinSummary k words stamp.toNat)

end Sys2Proof.Machine
end

