-- ==== Sys2Proof/Machine/ExecTwl.lean ====
section
/-! DEFINITION. Commands of chapter 11: wheel edges, stand-still, Hall codes. -/

namespace Sys2Proof.Machine

/-- R256 to R267. -/
def execTwEdge (n : Fin 4) (a b : Bool) (s : State) : Res := done (s.twEdge n a b)

/-- R265. -/
def execTwStandstill (n : Fin 4) (s : State) : Res := done (s.twlStandstill n)

/-- R267. -/
def execRestEnd (n : Fin 4) (s : State) : Res := done (s.twlRestEnd n)

/-- R275, and the bridge that the set commutates (R351, R352). -/
def execHallChange (set : Fin 3) (code : BitVec 3) (s : State) : Res :=
  let r := s.hallChange set code.toNat
  done (if code.toNat = (s.hall set).code then r.1 else r.1.actHall set (s.fld (Adr.HALL_STAT set) 2 0) r.2)

end Sys2Proof.Machine
end

