-- ==== Sys2Proof/Machine/Dispatch.lean ====
section
/-! DEFINITION. One arm per command: each is one direct call of the meaning of its row. -/

namespace Sys2Proof.Machine

/-- The effect of one command (spec/opcode_table.json) on everything but the queue. [DEDUCED, assumption 67; DESIGN CHOICE, assumption 73] -/
def exec (i : Instr) (s : State) : Host.Outcome State Fault Refusal :=
  match i with
  | .personality pair => Sys2Proof.Machine.execPersonality pair s
  | .pdReq pair => Sys2Proof.Machine.execPdReq pair s
  | .domainPowered d => Sys2Proof.Machine.execDomainPowered d s
  | .sleep pair => Sys2Proof.Machine.execSleep pair s
  | .wakeSourceLatch src => Sys2Proof.Machine.execWakeSourceLatch src s
  | .wakeTimerExpiry => Sys2Proof.Machine.execWakeTimerExpiry s
  | .warmWake facts => Sys2Proof.Machine.execWarmWake facts s
  | .coldStart facts => Sys2Proof.Machine.execColdStart facts s
  | .clockFault xtal => Sys2Proof.Machine.execClockFault xtal s
  | .pllnetFault => Sys2Proof.Machine.execPllnetFault s
  | .pllnetRelock ok => Sys2Proof.Machine.execPllnetRelock ok s
  | .vsWarning vs => Sys2Proof.Machine.execVsWarning vs s
  | .vsResume vs lowest => Sys2Proof.Machine.execVsResume vs lowest s
  | .vsOvervoltage vs => Sys2Proof.Machine.execVsOvervoltage vs s
  | .supplyReset vs => Sys2Proof.Machine.execSupplyReset vs s
  | .holdupExhausted mastLost => Sys2Proof.Machine.execHoldupExhausted mastLost s
  | .coldReset pair => Sys2Proof.Machine.execColdReset pair s
  | .gmsRestart back => Sys2Proof.Machine.execGmsRestart back s
  | .pageEnable port page => Sys2Proof.Machine.execPageEnable port page s
  | .pageDisable port page => Sys2Proof.Machine.execPageDisable port page s
  | .softReset port page => Sys2Proof.Machine.execSoftReset port page s
  | .configLock port page => Sys2Proof.Machine.execConfigLock port page s
  | .keyWrite port page key => Sys2Proof.Machine.execKeyWrite port page key s
  | .keyLapse page => Sys2Proof.Machine.execKeyLapse page s
  | .ownerClaim port page value => Sys2Proof.Machine.execOwnerClaim port page value s
  | .aliasWrite port clear addr value => Sys2Proof.Machine.execAliasWrite port clear addr value s
  | .registerWrite port addr value => Sys2Proof.Machine.execRegisterWrite port addr value s
  | .crcRecomputed page => Sys2Proof.Machine.execCrcRecomputed page s
  | .crcCheck page upset => Sys2Proof.Machine.execCrcCheck page upset s
  | .eventOccurrence e => Sys2Proof.Machine.execEventOccurrence e s
  | .captureSnap port n k => Sys2Proof.Machine.execCaptureSnap port n k s
  | .captureFreezeRead port n k => Sys2Proof.Machine.execCaptureFreezeRead port n k s
  | .captureReleaseRead port n k => Sys2Proof.Machine.execCaptureReleaseRead port n k s
  | .captureFreezeLapse n k => Sys2Proof.Machine.execCaptureFreezeLapse n k s
  | .dtimeRead port n => Sys2Proof.Machine.execDtimeRead port n s
  | .evrTimerExpiry n => Sys2Proof.Machine.execEvrTimerExpiry n s
  | .recordDrain => Sys2Proof.Machine.execRecordDrain s
  | .transactionIssue port t => Sys2Proof.Machine.execTransactionIssue port t s
  | .arbitrationRound t => Sys2Proof.Machine.execArbitrationRound t s
  | .transactionResponse t => Sys2Proof.Machine.execTransactionResponse t s
  | .targetTimeout t => Sys2Proof.Machine.execTargetTimeout t s
  | .lrW port rd addr => Sys2Proof.Machine.execLrW port rd addr s
  | .scW port rd addr value => Sys2Proof.Machine.execScW port rd addr value s
  | .amo port op rd addr value => Sys2Proof.Machine.execAmo port op rd addr value s
  | .fence core => Sys2Proof.Machine.execFence core s
  | .lockExpiry t => Sys2Proof.Machine.execLockExpiry t s
  | .icxCfg pair => Sys2Proof.Machine.execIcxCfg pair s
  | .interconnectPeriod => Sys2Proof.Machine.execInterconnectPeriod s
  | .trimBudgetCut n mismatch => Sys2Proof.Machine.execTrimBudgetCut n mismatch s
  | .windowClose pair main checker => Sys2Proof.Machine.execWindowClose pair main checker s
  | .compareResult pair selfTestOk => Sys2Proof.Machine.execCompareResult pair selfTestOk s
  | .delayFault pair => Sys2Proof.Machine.execDelayFault pair s
  | .realignComplete pair => Sys2Proof.Machine.execRealignComplete pair s
  | .axfinRead core rd => Sys2Proof.Machine.execAxfinRead core rd s
  | .devEdgeWake core k => Sys2Proof.Machine.execDevEdgeWake core k s
  | .pairRestart pair => Sys2Proof.Machine.execPairRestart pair s
  | .syncReq core => Sys2Proof.Machine.execSyncReq core s
  | .syncTimeout pair => Sys2Proof.Machine.execSyncTimeout pair s
  | .lockComplete pair => Sys2Proof.Machine.execLockComplete pair s
  | .splitReq core => Sys2Proof.Machine.execSplitReq core s
  | .debugHalt pair => Sys2Proof.Machine.execDebugHalt pair s
  | .debugAbstractCommand pair dst value => Sys2Proof.Machine.execDebugAbstractCommand pair dst value s
  | .debugResume pair => Sys2Proof.Machine.execDebugResume pair s
  | .shroudACycle => Sys2Proof.Machine.execShroudACycle s
  | .shroudBCycle => Sys2Proof.Machine.execShroudBCycle s
  | .xcmpExchange missing lpRcOff => Sys2Proof.Machine.execXcmpExchange missing lpRcOff s
  | .shroudOperateEntry => Sys2Proof.Machine.execShroudOperateEntry s
  | .commission pair => Sys2Proof.Machine.execCommission pair s
  | .sinInputChange j chB level => Sys2Proof.Machine.execSinInputChange j chB level s
  | .sinFilterExpiry j => Sys2Proof.Machine.execSinFilterExpiry j s
  | .sinDiscrepancy j => Sys2Proof.Machine.execSinDiscrepancy j s
  | .ss1Timeout g => Sys2Proof.Machine.execSs1Timeout g s
  | .finalSto g => Sys2Proof.Machine.execFinalSto g s
  | .islandSafeCode ch code => Sys2Proof.Machine.execIslandSafeCode ch code s
  | .safeResetRequest idleMs skewMs widthMs => Sys2Proof.Machine.execSafeResetRequest idleMs skewMs widthMs s
  | .safeResetJam => Sys2Proof.Machine.execSafeResetJam s
  | .trimRunStart n ecc => Sys2Proof.Machine.execTrimRunStart n ecc s
  | .trEnd n ecc => Sys2Proof.Machine.execTrEnd n ecc s
  | .trEndn n ecc => Sys2Proof.Machine.execTrEndn n ecc s
  | .trEndt n ecc => Sys2Proof.Machine.execTrEndt n ecc s
  | .trLds n ecc => Sys2Proof.Machine.execTrLds n ecc s
  | .trLdf n ecc => Sys2Proof.Machine.execTrLdf n ecc s
  | .trLdt n ecc => Sys2Proof.Machine.execTrLdt n ecc s
  | .trSto n ecc => Sys2Proof.Machine.execTrSto n ecc s
  | .trLdk n ecc => Sys2Proof.Machine.execTrLdk n ecc s
  | .trLst n ecc => Sys2Proof.Machine.execTrLst n ecc s
  | .trSst n ecc => Sys2Proof.Machine.execTrSst n ecc s
  | .trMov n ecc => Sys2Proof.Machine.execTrMov n ecc s
  | .trAdd n ecc => Sys2Proof.Machine.execTrAdd n ecc s
  | .trSub n ecc => Sys2Proof.Machine.execTrSub n ecc s
  | .trNeg n ecc => Sys2Proof.Machine.execTrNeg n ecc s
  | .trAbs n ecc => Sys2Proof.Machine.execTrAbs n ecc s
  | .trMul n ecc => Sys2Proof.Machine.execTrMul n ecc s
  | .trMulr n ecc => Sys2Proof.Machine.execTrMulr n ecc s
  | .trAclr n ecc => Sys2Proof.Machine.execTrAclr n ecc s
  | .trMac n ecc => Sys2Proof.Machine.execTrMac n ecc s
  | .trMacr n ecc => Sys2Proof.Machine.execTrMacr n ecc s
  | .trArnd n ecc => Sys2Proof.Machine.execTrArnd n ecc s
  | .trSatk n ecc => Sys2Proof.Machine.execTrSatk n ecc s
  | .trLim n ecc => Sys2Proof.Machine.execTrLim n ecc s
  | .trRamp n ecc => Sys2Proof.Machine.execTrRamp n ecc s
  | .trPi n ecc => Sys2Proof.Machine.execTrPi n ecc s
  | .trPit n ecc => Sys2Proof.Machine.execTrPit n ecc s
  | .trBiq n ecc => Sys2Proof.Machine.execTrBiq n ecc s
  | .trClarke n ecc => Sys2Proof.Machine.execTrClarke n ecc s
  | .trPark n ecc => Sys2Proof.Machine.execTrPark n ecc s
  | .trIpark n ecc => Sys2Proof.Machine.execTrIpark n ecc s
  | .trSvm n ecc => Sys2Proof.Machine.execTrSvm n ecc s
  | .trSincos n ecc => Sys2Proof.Machine.execTrSincos n ecc s
  | .trAtan2 n ecc => Sys2Proof.Machine.execTrAtan2 n ecc s
  | .trSqrt n ecc => Sys2Proof.Machine.execTrSqrt n ecc s
  | .trDiv n ecc => Sys2Proof.Machine.execTrDiv n ecc s
  | .trB n ecc => Sys2Proof.Machine.execTrB n ecc s
  | .contextEnable port n j => Sys2Proof.Machine.execContextEnable port n j s
  | .enableScanDone n j => Sys2Proof.Machine.execEnableScanDone n j s
  | .contextDisable port n j => Sys2Proof.Machine.execContextDisable port n j s
  | .contextWatchdog n j => Sys2Proof.Machine.execContextWatchdog n j s
  | .trimMemoryWrite port addr eight data => Sys2Proof.Machine.execTrimMemoryWrite port addr eight data s
  | .tuneStart port n slot rule => Sys2Proof.Machine.execTuneStart port n slot rule s
  | .tuneAbort port n => Sys2Proof.Machine.execTuneAbort port n s
  | .tuneTimeout n => Sys2Proof.Machine.execTuneTimeout n s
  | .latencyClear port => Sys2Proof.Machine.execLatencyClear port s
  | .adcSeqstartGo port n => Sys2Proof.Machine.execAdcSeqstartGo port n s
  | .adcSlotDone n code => Sys2Proof.Machine.execAdcSlotDone n code s
  | .sdmWindowEnd n sum => Sys2Proof.Machine.execSdmWindowEnd n sum s
  | .sdmFault n stuck => Sys2Proof.Machine.execSdmFault n stuck s
  | .scdTrip n count => Sys2Proof.Machine.execScdTrip n count s
  | .scdRelease n count => Sys2Proof.Machine.execScdRelease n count s
  | .comparatorTrip k x => Sys2Proof.Machine.execComparatorTrip k x s
  | .comparatorRelease k x => Sys2Proof.Machine.execComparatorRelease k x s
  | .comparatorSettled k x => Sys2Proof.Machine.execComparatorSettled k x s
  | .comparatorClear port k x => Sys2Proof.Machine.execComparatorClear port k x s
  | .housekeepingRound r => Sys2Proof.Machine.execHousekeepingRound r s
  | .sup5SwitchOff j => Sys2Proof.Machine.execSup5SwitchOff j s
  | .sup5Retry j ok => Sys2Proof.Machine.execSup5Retry j ok s
  | .loadPoint u peak => Sys2Proof.Machine.execLoadPoint u peak s
  | .eventGenerator u g => Sys2Proof.Machine.execEventGenerator u g s
  | .asynchronousTrip u => Sys2Proof.Machine.execAsynchronousTrip u s
  | .tripclr port u => Sys2Proof.Machine.execTripclr port u s
  | .swcommit port u => Sys2Proof.Machine.execSwcommit port u s
  | .srdSupplyFail mv => Sys2Proof.Machine.execSrdSupplyFail mv s
  | .gateCommandEdge ch rising => Sys2Proof.Machine.execGateCommandEdge ch rising s
  | .profilePhaseEnd ch onTime => Sys2Proof.Machine.execProfilePhaseEnd ch onTime s
  | .partnerGateLowConfirmed ch => Sys2Proof.Machine.execPartnerGateLowConfirmed ch s
  | .handshakeTimeout ch => Sys2Proof.Machine.execHandshakeTimeout ch s
  | .desaturation ch => Sys2Proof.Machine.execDesaturation ch s
  | .reefStep2 ch => Sys2Proof.Machine.execReefStep2 ch s
  | .gclr port g => Sys2Proof.Machine.execGclr port g s
  | .undervoltageLockout ch mv => Sys2Proof.Machine.execUndervoltageLockout ch mv s
  | .linkFault ch => Sys2Proof.Machine.execLinkFault ch s
  | .islandOvertemperature ch degC => Sys2Proof.Machine.execIslandOvertemperature ch degC s
  | .selftestRun port g => Sys2Proof.Machine.execSelftestRun port g s
  | .selftestDone g fails => Sys2Proof.Machine.execSelftestDone g fails s
  | .twEdge n a b => Sys2Proof.Machine.execTwEdge n a b s
  | .twStandstill n => Sys2Proof.Machine.execTwStandstill n s
  | .restEnd n => Sys2Proof.Machine.execRestEnd n s
  | .hallChange set code => Sys2Proof.Machine.execHallChange set code s
  | .dcdcStart port => Sys2Proof.Machine.execDcdcStart port s
  | .dcdcStop port => Sys2Proof.Machine.execDcdcStop port s
  | .dcdcShortCheck => Sys2Proof.Machine.execDcdcShortCheck s
  | .dcdcHiccupRetry => Sys2Proof.Machine.execDcdcHiccupRetry s
  | .hiccntClear => Sys2Proof.Machine.execHiccntClear s
  | .dcdcShortClear port => Sys2Proof.Machine.execDcdcShortClear port s
  | .dcdcSyncEdge => Sys2Proof.Machine.execDcdcSyncEdge s
  | .dcdcSyncMissing => Sys2Proof.Machine.execDcdcSyncMissing s
  | .dcdcShed => Sys2Proof.Machine.execDcdcShed s
  | .dcdcDutyTimeout => Sys2Proof.Machine.execDcdcDutyTimeout s
  | .obcUpdate v1 v2 v3 freq => Sys2Proof.Machine.execObcUpdate v1 v2 v3 freq s
  | .obcPlugged => Sys2Proof.Machine.execObcPlugged s
  | .obcStart port => Sys2Proof.Machine.execObcStart port s
  | .obcExport port => Sys2Proof.Machine.execObcExport port s
  | .obcStop port => Sys2Proof.Machine.execObcStop port s
  | .prechargeDone timeout => Sys2Proof.Machine.execPrechargeDone timeout s
  | .acPresent timeout => Sys2Proof.Machine.execAcPresent timeout s
  | .searchClimb => Sys2Proof.Machine.execSearchClimb s
  | .cvStep => Sys2Proof.Machine.execCvStep s
  | .chargeDone => Sys2Proof.Machine.execChargeDone s
  | .hostWatchdogExpiry => Sys2Proof.Machine.execHostWatchdogExpiry s
  | .handoverS2Open timeout => Sys2Proof.Machine.execHandoverS2Open timeout s
  | .handoverAcWaitEnd timeout => Sys2Proof.Machine.execHandoverAcWaitEnd timeout s
  | .handoverEnd => Sys2Proof.Machine.execHandoverEnd s
  | .pilotStateChange high low osc => Sys2Proof.Machine.execPilotStateChange high low osc s
  | .ppChange mv => Sys2Proof.Machine.execPpChange mv s
  | .pilotLimitTimeout => Sys2Proof.Machine.execPilotLimitTimeout s
  | .exportReconnect => Sys2Proof.Machine.execExportReconnect s
  | .exportWindowTrip => Sys2Proof.Machine.execExportWindowTrip s
  | .lampOvercurrent status => Sys2Proof.Machine.execLampOvercurrent status s
  | .lampRetry status => Sys2Proof.Machine.execLampRetry status s
  | .actStart port n => Sys2Proof.Machine.execActStart port n s
  | .actArm port n => Sys2Proof.Machine.execActArm port n s
  | .actStop port n => Sys2Proof.Machine.execActStop port n s
  | .actSpeedUpdate n => Sys2Proof.Machine.execActSpeedUpdate n s
  | .actSpeedZero n => Sys2Proof.Machine.execActSpeedZero n s
  | .actHallTimeout n => Sys2Proof.Machine.execActHallTimeout n s
  | .actOverload n => Sys2Proof.Machine.execActOverload n s
  | .actStall n => Sys2Proof.Machine.execActStall n s
  | .bootstrapUndervoltage n phase mv => Sys2Proof.Machine.execBootstrapUndervoltage n phase mv s
  | .engageInhibit n => Sys2Proof.Machine.execEngageInhibit n s
  | .actSupplyOvervoltage mv => Sys2Proof.Machine.execActSupplyOvervoltage mv s
  | .ctrClose port => Sys2Proof.Machine.execCtrClose port s
  | .ctrOpen port => Sys2Proof.Machine.execCtrOpen port s
  | .ctrStepTimer short => Sys2Proof.Machine.execCtrStepTimer short s
  | .ctrNegOpen => Sys2Proof.Machine.execCtrNegOpen s
  | .tcoolEnd => Sys2Proof.Machine.execTcoolEnd s
  | .pullInEnd k => Sys2Proof.Machine.execPullInEnd k s
  | .hsoOvercurrent k => Sys2Proof.Machine.execHsoOvercurrent k s
  | .contactorDisable => Sys2Proof.Machine.execContactorDisable s
  | .ringRun port k => Sys2Proof.Machine.execRingRun port k s
  | .ringStop port k => Sys2Proof.Machine.execRingStop port k s
  | .ringTone port k => Sys2Proof.Machine.execRingTone port k s
  | .ringTrainEnd k aUp bUp => Sys2Proof.Machine.execRingTrainEnd k aUp bUp s
  | .ringEnumDone k fromA fromB full => Sys2Proof.Machine.execRingEnumDone k fromA fromB full s
  | .ringMeasDone k hops => Sys2Proof.Machine.execRingMeasDone k hops s
  | .ringStreamStart port k => Sys2Proof.Machine.execRingStreamStart port k s
  | .ringSync k => Sys2Proof.Machine.execRingSync k s
  | .ringStreamSend k => Sys2Proof.Machine.execRingStreamSend k s
  | .ringStreamReceive k areas aborted => Sys2Proof.Machine.execRingStreamReceive k areas aborted s
  | .zcorCopyDone k => Sys2Proof.Machine.execZcorCopyDone k s
  | .zcorStart port k => Sys2Proof.Machine.execZcorStart port k s
  | .zcorAbort port k => Sys2Proof.Machine.execZcorAbort port k s
  | .tqtailWrite port k tail => Sys2Proof.Machine.execTqtailWrite port k tail s
  | .ringTransactionComplete k tag data status ack aborted => Sys2Proof.Machine.execRingTransactionComplete k tag data status ack aborted s
  | .ringTransactionTimeout k tag => Sys2Proof.Machine.execRingTransactionTimeout k tag s
  | .ringLaneDown k portB reachedA fromB => Sys2Proof.Machine.execRingLaneDown k portB reachedA fromB s
  | .ringLaneUp k portB => Sys2Proof.Machine.execRingLaneUp k portB s
  | .version pair => Sys2Proof.Machine.execVersion pair s
  | .wakeCfg pair => Sys2Proof.Machine.execWakeCfg pair s
  | .retainWrite pair => Sys2Proof.Machine.execRetainWrite pair s
  | .dataStore pair => Sys2Proof.Machine.execDataStore pair s
  | .dataLoad pair => Sys2Proof.Machine.execDataLoad pair s
  | .bbMark pair => Sys2Proof.Machine.execBbMark pair s
  | .bbCommit pair => Sys2Proof.Machine.execBbCommit pair s
  | .bbRead pair => Sys2Proof.Machine.execBbRead pair s
  | .bbCfg pair => Sys2Proof.Machine.execBbCfg pair s
  | .fcCfg pair => Sys2Proof.Machine.execFcCfg pair s
  | .fcArm pair => Sys2Proof.Machine.execFcArm pair s
  | .meterRead pair => Sys2Proof.Machine.execMeterRead pair s
  | .meterCal pair => Sys2Proof.Machine.execMeterCal pair s
  | .passportGet pair => Sys2Proof.Machine.execPassportGet pair s
  | .passportZadd pair => Sys2Proof.Machine.execPassportZadd pair s
  | .updateConfirm pair => Sys2Proof.Machine.execUpdateConfirm pair s
  | .accessDrop pair => Sys2Proof.Machine.execAccessDrop pair s
  | .bbCommitStart => Sys2Proof.Machine.execBbCommitStart s
  | .bbCommitDone => Sys2Proof.Machine.execBbCommitDone s
  | .bbPeriod => Sys2Proof.Machine.execBbPeriod s
  | .fcTick => Sys2Proof.Machine.execFcTick s
  | .fcFreeze => Sys2Proof.Machine.execFcFreeze s
  | .meterSample => Sys2Proof.Machine.execMeterSample s
  | .meterRecord => Sys2Proof.Machine.execMeterRecord s
  | .passportHistogram => Sys2Proof.Machine.execPassportHistogram s
  | .mramScrub uncorrectable => Sys2Proof.Machine.execMramScrub uncorrectable s
  | .diagnosticSessionControl ch session => Sys2Proof.Machine.execDiagnosticSessionControl ch session s
  | .securityAccess ch sub verdict => Sys2Proof.Machine.execSecurityAccess ch sub verdict s
  | .accessTimeout => Sys2Proof.Machine.execAccessTimeout s
  | .readDataByIdentifier ch did => Sys2Proof.Machine.execReadDataByIdentifier ch did s
  | .requestDownload ch slotB length => Sys2Proof.Machine.execRequestDownload ch slotB length s
  | .transferData ch seq data => Sys2Proof.Machine.execTransferData ch seq data s
  | .requestTransferExit ch => Sys2Proof.Machine.execRequestTransferExit ch s
  | .routineCheckSlot ch facts => Sys2Proof.Machine.execRoutineCheckSlot ch facts s
  | .routineActivateSlot ch => Sys2Proof.Machine.execRoutineActivateSlot ch s
  | .routinePairRestart ch option => Sys2Proof.Machine.execRoutinePairRestart ch option s
  | .ecuReset ch sub => Sys2Proof.Machine.execEcuReset ch sub s
  | .testerConfigWrite ch addr value => Sys2Proof.Machine.execTesterConfigWrite ch addr value s
  | .twinRun port => Sys2Proof.Machine.execTwinRun port s
  | .twinFrameSend => Sys2Proof.Machine.execTwinFrameSend s
  | .twinFrameReceive frame lane1 => Sys2Proof.Machine.execTwinFrameReceive frame lane1 s
  | .twinPartnerLost => Sys2Proof.Machine.execTwinPartnerLost s
  | .twinXreq port groups => Sys2Proof.Machine.execTwinXreq port groups s
  | .twinXreqExpiry groups => Sys2Proof.Machine.execTwinXreqExpiry groups s
  | .twinOffsetMeasure offset => Sys2Proof.Machine.execTwinOffsetMeasure offset s
  | .twinRingHandover port rings => Sys2Proof.Machine.execTwinRingHandover port rings s
  | .twinTakeover k => Sys2Proof.Machine.execTwinTakeover k s
  | .canRxFrame n xtd remote fd id data => Sys2Proof.Machine.execCanRxFrame n xtd remote fd id data s
  | .canTxtailWrite port n tail => Sys2Proof.Machine.execCanTxtailWrite port n tail s
  | .canTxDone n => Sys2Proof.Machine.execCanTxDone n s
  | .ethRxFrame n frame crcOk => Sys2Proof.Machine.execEthRxFrame n frame crcOk s
  | .ethTxtailWrite port n ring tail => Sys2Proof.Machine.execEthTxtailWrite port n ring tail s
  | .ethTxDone n => Sys2Proof.Machine.execEthTxDone n s
  | .ethLinkChange n up => Sys2Proof.Machine.execEthLinkChange n up s
  | .ntofshWrite port value => Sys2Proof.Machine.execNtofshWrite port value s
  | .ntnowlRead port => Sys2Proof.Machine.execNtnowlRead port s
  | .xtal25Retry facts => Sys2Proof.Machine.execXtal25Retry facts s
  | .actCurrentLimit n milliamps => Sys2Proof.Machine.execActCurrentLimit n milliamps s
  | .lampPattern status => Sys2Proof.Machine.execLampPattern status s
  | .pilotCycleMeasured freq duty high low => Sys2Proof.Machine.execPilotCycleMeasured freq duty high low s
  | .canBusOff n => Sys2Proof.Machine.execCanBusOff n s
  | .twinLinkTrained => Sys2Proof.Machine.execTwinLinkTrained s
  | .twinTokenReceive k => Sys2Proof.Machine.execTwinTokenReceive k s
  | .twinSummaryForward k words stamp => Sys2Proof.Machine.execTwinSummaryForward k words stamp s

end Sys2Proof.Machine
end

