-- ==== Sys2Proof/Machine/Tick.lean ====
section
/-! DEFINITION. One tick of PLL_SYS (1/600 MHz): what happens in the part while no command is waiting (DESIGN CHOICE, assumption 2). The rows of the
table name every other passage of time themselves. -/

namespace Sys2Proof.Machine

/-- A tick of the real-time clock's divider, which runs wherever there is supply: awake and asleep (R58). [DESIGN CHOICE, assumption 2] -/
def State.rtcTick (s : State) : State :=
  if s.pwr.second + 1 = 600000000 then (s.setPwr { s.pwr with second := 0 }).rtcSecond
  else s.setPwr { s.pwr with second := s.pwr.second + 1 }

/-- The units whose counters run. -/
def State.runningUnits (s : State) : List Nat := (List.range 16).filter fun u => (s.pwm u).run

/-- A counter has just come to its peak: the second load point of CENTRE mode (R11). -/
def State.peakTick (s : State) (u : Nat) : State :=
  if !s.pwmEdge u && s.pwmPos u == s.pwmPeriod u / 2 then s.loadPoint u true else s

/-- The running PWM units over one tick: the waveforms of the tick that passes, then the counters, the boundaries of units that follow
no other unit at its boundary, the peaks, and the instants of the event generators (R11, R223, R228, R233, R234). [DESIGN CHOICE, assumption 2; DESIGN CHOICE, assumption 33] -/
def State.pwmTick (s : State) : State :=
  let us := s.runningUnits
  let t := (s.each us State.unitTick).each us State.countTick
  let zero := us.filter fun u => t.pwmPos u == 0
  let lead := zero.filter fun u => !zero.any fun v => t.follows u v
  let b := (t.each lead State.boundary).each us State.peakTick
  b.each us fun v u => v.each [0, 1] fun w g => w.when (w.egHere u g) fun x => x.egReference u g

/-- One tick of device time and of the outputs that hang on it (R58, R223, R227, R238, R271, R378); PLL_SYS gone stops them (R56). [DESIGN CHOICE, assumption 2; DESIGN CHOICE, assumption 33] -/
def State.sysTick (s : State) : State :=
  if s.awake && s.flag Adr.SYS_CLKSTAT 3 then
    let t := s.setPwr { s.pwr with dtime := s.pwr.dtime + 1 }
    ((t.pwmTick.releaseSrd.gatesRefresh).encSteps).each [0, 1, 2, 3] State.ringToneEnd
  else s

/-- One tick of the whole part; without supply nothing moves. [DESIGN CHOICE, assumption 2] -/
def State.tick (s : State) : State := if s.pwr.phase == .dark then s else s.rtcTick.sysTick

end Sys2Proof.Machine
end

