-- ==== Sys2Proof/Machine/Step.lean ====
section
/-! DEFINITION. One step: the command at the front of the queue, or a tick of time where none is waiting. -/

namespace Sys2Proof.Machine

/-- The command at the front of the queue is taken and has its effect on a state that holds the queue's rest; on an empty queue one tick
of PLL_SYS passes (DESIGN CHOICE, assumption 2). [DEDUCED, assumption 67] -/
def step (s : State) : Host.Outcome State Fault Refusal :=
  match s.pending with
  | [] => .next s.tick.settle
  | c :: rest => exec c (s.setPending rest)

/-- The command a word spells, at the front of the queue. [DEDUCED, assumption 3] -/
def State.withFetchWord (s : State) (nbits w : Nat) : State :=
  match decodeTableWord nbits w with
  | some c => s.setPending (c :: s.pending)
  | none => s

end Sys2Proof.Machine
end

