-- ==== Sys2Proof/WellFormed.lean ====
section
/-! DEFINITION. Which commands exist. The types of the operands say most of it; what is left is what R96, R19, R106 and R180 ask of an
address, a size and a burst. -/

namespace Sys2Proof

/-- The sizes of a single access (R96). -/
def singleSizes : List Nat := [1, 2, 4, 8, 16]

/-- R96: a single access aligned to its size, or a burst of 2 to 4 beats of 16 bytes aligned to its total size; a write carries exactly
its bytes. [DEDUCED, assumption 39] -/
def Txn.wf (t : Txn) : Bool :=
  if t.beats = 1 then decide (t.size ∈ singleSizes) && decide (t.size ∣ t.addr.toNat) && (!t.write || decide (t.data.length = t.size))
  else decide (t.beats ∈ [2, 3, 4]) && decide (t.size = 16) && decide (16 * t.beats ∣ t.addr.toNat)
    && (!t.write || decide (t.data.length = 16 * t.beats))

/-- The address of a register: a word of the page space 0x4000_0000 to 0x401F_FFFF (R19). -/
def registerAddr (addr : Word) : Bool := decide (addr.toNat / 2 ^ 21 = 512) && decide (4 ∣ addr.toNat)

/-- R106: the initiators with locked sequences and atomic instructions, at an aligned word. [DESIGN CHOICE, assumption 8] -/
def atomicPlace (port : Port) (addr : Word) : Bool := decide (port.val ≤ 4) && decide (4 ∣ addr.toNat)

/-- R180: a place of a trim memory for a write of 4 or 8 bytes. -/
def trimPlace (addr : Word) (eight : Bool) : Bool :=
  decide (addr.toNat / 2 ^ 15 ∈ [24576, 24577, 24578]) && decide ((if eight then 8 else 4) ∣ addr.toNat)

/-- A command of the part. [DESIGN CHOICE, assumption 8] -/
def Instr.wf : Instr → Bool
  | .transactionIssue _ t => t.wf
  | .aliasWrite _ _ addr _ => registerAddr addr
  | .registerWrite _ addr _ => registerAddr addr
  | .testerConfigWrite _ addr _ => registerAddr addr
  | .lrW port _ addr => atomicPlace port addr
  | .scW port _ addr _ => atomicPlace port addr
  | .amo port _ _ addr _ => atomicPlace port addr
  | .trimMemoryWrite _ addr eight _ => trimPlace addr eight
  | _ => true

end Sys2Proof
end

