-- ==== Sys2Proof/Safety.lean ====
section
/-! DEFINITION. What counts as a safe run: the words the statements use. -/

namespace Sys2Proof.Machine

/-- The outcome is a next state. -/
def Completes (r : Host.Outcome State Fault Refusal) : Prop := ∃ t, r = .next t

/-- Every command that waits exists, so no step of the queue stops on an ill-formed one. -/
def State.QueueWf (s : State) : Prop := ∀ c ∈ s.pending, c.wf = true

/-- IRQPEND0 and IRQPEND1 of both routers: they follow every command (R91). -/
def irqReg (a : Nat) : Bool := [Adr.EVR_IRQPEND 0 0, Adr.EVR_IRQPEND 0 1, Adr.EVR_IRQPEND 1 0, Adr.EVR_IRQPEND 1 1].contains a

/-- IRQPEND0 and IRQPEND1 show the asserted lines (R91). -/
def State.IrqShown (s : State) : Prop := ∀ n c : Fin 2, s.reg (Adr.EVR_IRQPEND n c) = s.irqLines n c

/-- Every register but those listed, and the IRQPEND registers that follow every command, reads in t as in s. -/
def State.RegsBut (s : State) (l : List Nat) (t : State) : Prop := ∀ a, a ∉ l → irqReg a = false → t.reg a = s.reg a

/-- A port that can write the registers of page p: its initiator can issue, it is one of the ports 0 to 4, the page is powered and the port
belongs to its owner (R48, R72, R78). -/
abbrev State.Owns (s : State) (port p : Nat) : Prop :=
  s.portLive port = true ∧ port < 5 ∧ s.pageOn p = true ∧ s.ownerPort p port = true

/-- Why a write of word w to register a is refused although the port owns the page, if it is (R70, R72, R82, R454). -/
def State.refusalOf (s : State) (port a : Nat) (m : WriteMode) (w : Word) : Option Nat :=
  let t := s.setKey (a / 4096) .idle
  t.writeRefusal (a / 4096) (a % 4096) (decide ((s.page (a / 4096)).key = .armed port)) m (regInfo (a / 4096) (a % 4096)) w (s.reg a)
    (t.wouldHold (a / 4096) (a % 4096) (regInfo (a / 4096) (a % 4096)) m w (s.reg a))

/-- The mailbox command of a pair that GMS runs next: its doorbell is the first in order, CMD holds the code, GMS is up, the level in force
suffices and LEN is legal (R402 to R404, R423). -/
abbrev State.Calls (s : State) (pair code lvl : Nat) : Prop :=
  s.gms.doors.head? = some pair ∧ s.mbxCode pair = code ∧ s.gms.restarting = false ∧ lvl ≤ s.level ∧ s.reqLen pair ≤ 16128

/-- STATUS of a pair's mailbox area shows a completed command: BUSY clear, RESULT, and the SEQ of the doorbell as s held it (R402). -/
def State.Answered (s : State) (pair result : Nat) (t : State) : Prop :=
  t.mword (mbxBase pair + 4) = w32 (result * 65536 + (s.byte (mbxBase pair)).toNat)

/-- The response of a pair's mailbox area: RLEN and RESP (R402). -/
def State.Gives (pair : Nat) (resp : List Byte) (t : State) : Prop :=
  t.mword (mbxBase pair + 0x10) = w32 resp.length ∧ ∀ k, ∀ h : k < resp.length, t.byte (mbxBase pair + 0x4000 + k) = resp[k]

/-- Every byte of memory below the mailbox areas, the last thing of the memory map (R19), reads in t as in s. -/
def State.MemButMailbox (s t : State) : Prop := ∀ a, a < 0x50000000 → t.byte a = s.byte a

/-- Every byte of memory reads in t as in s. -/
def State.MemSame (s t : State) : Prop := ∀ a, t.byte a = s.byte a

/-- Every register but those listed, and IRQPEND, and every byte of memory reads in t as in s. -/
def State.KeepsBut (s : State) (l : List Nat) (t : State) : Prop := s.RegsBut l t ∧ s.MemSame t

/-- The registers in which trips of PWM units show (R230). -/
def tripRegs : List Nat := (List.range 16).flatMap fun u => [Adr.PWM_STAT u, Adr.PEVT (Pg.PWM u)]

/-- STAT of the toothed-wheel interfaces. -/
def twlStats : List Nat := (List.range 4).map Adr.TWL_STAT

/-- Every register outside the pages listed, but IRQPEND, and every byte of memory reads in t as in s. -/
def State.KeepsButPages (s : State) (ps : List Nat) (t : State) : Prop :=
  (∀ a, a / 4096 ∉ ps → irqReg a = false → t.reg a = s.reg a) ∧ s.MemSame t

/-- The charger's session ends with a cause: HANDOVER begins with the current at 0, and the laws run on for now (R339). -/
def State.HandsOver (s : State) (cause : Nat) (t : State) : Prop :=
  t.obcState = 6 ∧ t.reg Adr.OBC_CAUSE = w32 cause ∧ t.obc.iStar = 0 ∧ t.obc.step = 0 ∧ t.obc.pfcRun = s.obc.pfcRun
    ∧ t.obc.dabRun = s.obc.dabRun ∧ t.obc.s2 = s.obc.s2 ∧ s.KeepsBut [Adr.OBC_STAT, Adr.OBC_CAUSE, Adr.PEVT Pg.OBC, Adr.PILOT_STAT] t

/-- A mailbox command that reads: its response, and no register but PEVT of MBX, no kept record and no byte outside the mailbox changes. -/
def State.Reads (s : State) (pair : Nat) (resp : List Byte) (t : State) : Prop :=
  s.Answered pair 0 t ∧ State.Gives pair resp t ∧ s.RegsBut [Adr.PEVT Pg.MBX] t ∧ t.kept = s.kept ∧ t.pwr = s.pwr ∧ s.MemButMailbox t

/-- Engine n of the trim stands at an instruction word w of opcode op in run r of a slot: it has cycles of its budget left (R112, R172). -/
abbrev State.Stands (s : State) (n : Nat) (r : TrimRun) (w : Word) (op : Nat) : Prop :=
  (s.engine n).run = some r ∧ r.slot < 8 ∧ s.mword (progAddr n r.pc) = w ∧ fOp w = op ∧ r.cyc < s.fld (Adr.TRIM_CBUDGET n r.slot) 13 0

/-- The same, and the next index lies in the program range (R187). -/
abbrev State.AtInstr (s : State) (n : Nat) (r : TrimRun) (w : Word) (op : Nat) : Prop :=
  s.Stands n r w op ∧ s.fld (Adr.TRIM_CPROG n r.slot) 11 0 ≤ r.pc + 1 ∧ r.pc + 1 < s.progEnd n r.slot

/-- Engine n goes on in run r' at the next index, cost cycles later. No register but those listed and the count of corrected errors, no byte of
memory and no engine but n changes. -/
def State.RanOn (s : State) (n : Nat) (r' : TrimRun) (cost : Nat) (l : List Nat) (t : State) : Prop :=
  t.engine n = { s.engine n with run := some { r' with pc := r'.pc + 1, cyc := r'.cyc + cost } }
    ∧ (∀ m, m ≠ n → t.engine m = s.engine m) ∧ s.KeepsBut (Adr.TRIM_ECCCNT n :: l) t

/-- The same, with flag b of the run's context (CFLAG) set where on holds, and no other flag changed (R196). -/
def State.RanFlag (s : State) (n : Nat) (r' : TrimRun) (cost b : Nat) (on : Bool) (l : List Nat) (t : State) : Prop :=
  s.RanOn n r' cost (Adr.TRIM_CFLAG n r'.slot :: l) t ∧
    t.reg (Adr.TRIM_CFLAG n r'.slot) = (if on then setBit (s.reg (Adr.TRIM_CFLAG n r'.slot)) b true else s.reg (Adr.TRIM_CFLAG n r'.slot))

/-- x is a result within 2^-22 of exact · 2^-64, both held to a signed word (R174). -/
def NearTo (x exact : Int) : Prop :=
  -2147483648 ≤ x ∧ x ≤ 2147483647 ∧ (x - max (-2147483648) (min (roundShift exact 64) 2147483647)).natAbs ≤ 510

/-- The opcodes of the trim's ordinary instructions and their commands (R172). -/
def trimRows (n : Fin 4) (e : Ecc) : List (Nat × Instr) :=
  [(0x01, .trLds n e), (0x02, .trLdf n e), (0x03, .trLdt n e), (0x04, .trSto n e), (0x05, .trLdk n e), (0x06, .trLst n e), (0x07, .trSst n e),
    (0x08, .trMov n e), (0x09, .trAdd n e), (0x0A, .trSub n e), (0x0B, .trNeg n e), (0x0C, .trAbs n e), (0x10, .trMul n e),
    (0x11, .trMulr n e), (0x12, .trAclr n e), (0x13, .trMac n e), (0x14, .trMacr n e), (0x15, .trArnd n e), (0x16, .trSatk n e)]
  ++ [(0x17, .trLim n e), (0x18, .trRamp n e), (0x19, .trPi n e), (0x1A, .trPit n e), (0x1B, .trBiq n e), (0x20, .trClarke n e),
    (0x21, .trPark n e), (0x22, .trIpark n e), (0x23, .trSvm n e), (0x24, .trSincos n e), (0x25, .trAtan2 n e), (0x26, .trSqrt n e),
    (0x27, .trDiv n e), (0x30, .trB n e)]

/-- The kinds of state: one for each field of State. -/
inductive Part where
  | pending | regs | mem | free | pwr | pins | kept | gms | pages | ports | caps | router | icx | cores
  | pairs | shroud | engines | ctxs | samples | adcs | sdms | cmps | sensors | pwms | chans | groups | hvs | lvdrv
  | twls | encs | halls | dcdc | obc | lamps | acts | ctr | rings | zcors | twin | net
deriving DecidableEq, Repr

/-- The kind p of state is in t as in s. -/
def State.agree (s : State) (p : Part) (t : State) : Prop :=
  match p with
  | .pending => t.pending = s.pending
  | .regs => t.regs = s.regs
  | .mem => t.mem = s.mem
  | .free => t.free = s.free
  | .pwr => t.pwr = s.pwr
  | .pins => t.pins = s.pins
  | .kept => t.kept = s.kept
  | .gms => t.gms = s.gms
  | .pages => t.pages = s.pages
  | .ports => t.ports = s.ports
  | .caps => t.caps = s.caps
  | .router => t.router = s.router
  | .icx => t.icx = s.icx
  | .cores => t.cores = s.cores
  | .pairs => t.pairs = s.pairs
  | .shroud => t.shroud = s.shroud
  | .engines => t.engines = s.engines
  | .ctxs => t.ctxs = s.ctxs
  | .samples => t.samples = s.samples
  | .adcs => t.adcs = s.adcs
  | .sdms => t.sdms = s.sdms
  | .cmps => t.cmps = s.cmps
  | .sensors => t.sensors = s.sensors
  | .pwms => t.pwms = s.pwms
  | .chans => t.chans = s.chans
  | .groups => t.groups = s.groups
  | .hvs => t.hvs = s.hvs
  | .lvdrv => t.lvdrv = s.lvdrv
  | .twls => t.twls = s.twls
  | .encs => t.encs = s.encs
  | .halls => t.halls = s.halls
  | .dcdc => t.dcdc = s.dcdc
  | .obc => t.obc = s.obc
  | .lamps => t.lamps = s.lamps
  | .acts => t.acts = s.acts
  | .ctr => t.ctr = s.ctr
  | .rings => t.rings = s.rings
  | .zcors => t.zcors = s.zcors
  | .twin => t.twin = s.twin
  | .net => t.net = s.net

end Sys2Proof.Machine
end

