-- ==== Sys2Proof/Machine/Reach.lean ====
section
/-! DEFINITION. What a command of each row can change at most: the kinds of state beside those that any command can change. -/

namespace Sys2Proof.Machine

/-- The kinds of state that any command can change: registers (IRQPEND follows every command), Goldon's newest VBAT words, and the newest
words the correlators have met. -/
def Part.common : List Part := [.regs, .gms, .zcors]

/-- Every kind of state but those listed. -/
def Part.allBut (l : List Part) : List Part :=
  [Part.pending, .regs, .mem, .free, .pwr, .pins, .kept, .gms, .pages, .ports, .caps, .router, .icx, .cores, .pairs, .shroud, .engines, .ctxs,
    .samples, .adcs, .sdms, .cmps, .sensors, .pwms, .chans, .groups, .hvs, .lvdrv, .twls, .encs, .halls, .dcdc, .obc, .lamps, .acts, .ctr, .rings,
    .zcors, .twin, .net].filter fun p => !l.contains p

/-- The kinds of state that a command can change beside the common ones. -/
def reach : Instr → List Part
  | .warmWake .. | .coldStart .. | .supplyReset .. | .holdupExhausted .. | .bbCommitDone => Part.allBut [.pending, .free]
  | .pageEnable .. | .pageDisable .. | .softReset .. | .configLock .. | .keyWrite .. | .ownerClaim .. | .aliasWrite ..
  | .registerWrite .. | .captureSnap .. | .captureFreezeRead .. | .captureReleaseRead .. | .dtimeRead ..
  | .transactionResponse .. | .lrW .. | .scW .. | .amo .. | .syncReq .. | .splitReq .. | .contextEnable ..
  | .contextDisable .. | .trimMemoryWrite .. | .tuneStart .. | .tuneAbort .. | .latencyClear .. | .adcSeqstartGo ..
  | .comparatorClear .. | .tripclr .. | .swcommit .. | .gclr .. | .selftestRun .. | .dcdcStart .. | .dcdcStop ..
  | .dcdcShortClear .. | .obcStart .. | .obcExport .. | .obcStop .. | .actStart .. | .actArm .. | .actStop ..
  | .ctrClose .. | .ctrOpen .. | .ringRun .. | .ringStop .. | .ringTone .. | .ringStreamStart .. | .zcorStart ..
  | .zcorAbort .. | .tqtailWrite .. | .twinRun .. | .twinXreq .. | .twinRingHandover .. | .canTxtailWrite ..
  | .ethTxtailWrite .. | .ntofshWrite .. | .ntnowlRead .. => Part.allBut [.pending, .free, .pins, .kept]
  | .trEnd .. | .trEndt .. | .testerConfigWrite .. => Part.allBut [.pending, .free, .pins, .kept, .ports]
  | .pdReq .. => Part.allBut [.pending, .free, .pins, .kept, .ports, .icx, .cores, .pairs]
  | .compareResult .. | .delayFault .. =>
    Part.allBut [.pending, .free, .pwr, .pins, .kept, .ports, .caps, .sensors, .hvs, .twls, .encs, .halls, .dcdc, .twin, .net]
  | .crcCheck .. =>
    Part.allBut [.pending, .free, .pwr, .pins, .kept, .ports, .caps, .icx, .cores, .pairs, .sensors, .hvs, .twls, .encs, .halls, .dcdc, .twin, .net]
  | .clockFault .. => [.mem, .router, .shroud, .engines, .ctxs, .pwms, .chans, .groups, .lvdrv, .obc, .lamps, .rings, .twin, .net]
  | .commission .. => [.mem, .pwr, .kept, .router, .shroud, .pwms, .chans, .groups, .lvdrv, .obc, .lamps]
  | .xtal25Retry .. => [.mem, .pwr, .kept, .router, .cores, .pairs, .shroud, .samples, .chans, .lvdrv]
  | .eventOccurrence .. => [.caps, .router, .shroud, .ctxs, .adcs, .sdms, .pwms, .acts]
  | .shroudACycle | .xcmpExchange .. | .shroudOperateEntry | .ss1Timeout .. =>
    [.router, .shroud, .pwms, .chans, .groups, .lvdrv, .obc, .lamps]
  | .obcUpdate .. => [.free, .router, .shroud, .pwms, .obc, .lamps]
  | .comparatorTrip .. | .comparatorSettled .. => [.router, .shroud, .cmps, .pwms, .obc, .lamps]
  | .pllnetFault => [.mem, .pwr, .router, .rings, .twin, .net]
  | .domainPowered .. => [.pwr, .router, .samples, .chans, .groups, .lvdrv]
  | .trClarke .. | .trPark .. | .trIpark .. | .trSvm .. | .trSincos .. | .trAtan2 .. => [.free, .router, .shroud, .engines, .ctxs]
  | .obcPlugged | .prechargeDone .. | .acPresent .. | .chargeDone | .hostWatchdogExpiry | .handoverEnd
  | .pilotStateChange .. | .ppChange .. | .pilotLimitTimeout => [.router, .shroud, .pwms, .obc, .lamps]
  | .ringStreamReceive .. => [.mem, .free, .router, .samples, .rings]
  | .hallChange .. => [.pins, .router, .pwms, .halls, .acts]
  | .twEdge .. => [.pins, .router, .samples, .twls, .encs]
  | .targetTimeout .. => [.ports, .router, .icx, .cores]
  | .asynchronousTrip .. => [.router, .pwms, .chans, .lvdrv]
  | .loadPoint .. => [.router, .pwms, .dcdc, .acts]
  | .adcSlotDone .. => [.router, .samples, .adcs, .hvs]
  | .shroudBCycle => [.router, .shroud, .chans, .twls]
  | .trimBudgetCut .. | .trimRunStart .. | .trEndn .. | .trLds .. | .trLdf .. | .trLdt .. | .trSto .. | .trLdk ..
  | .trLst .. | .trSst .. | .trMov .. | .trAdd .. | .trSub .. | .trNeg .. | .trAbs .. | .trMul .. | .trMulr ..
  | .trAclr .. | .trMac .. | .trMacr .. | .trArnd .. | .trSatk .. | .trLim .. | .trRamp .. | .trPi .. | .trPit ..
  | .trBiq .. | .trSqrt .. | .trDiv .. | .trB .. => [.router, .shroud, .engines, .ctxs]
  | .pairRestart .. => [.mem, .router, .cores, .pairs]
  | .gmsRestart .. => [.mem, .pwr, .router, .icx]
  | .personality .. | .meterCal .. | .updateConfirm .. => [.mem, .pwr, .kept, .router]
  | .actSupplyOvervoltage .. => [.pins, .router, .pwms, .acts]
  | .pllnetRelock .. => [.pwr, .router, .twin, .net]
  | .securityAccess .. => [.free, .kept, .router]
  | .reefStep2 .. => [.chans, .groups, .lvdrv]
  | .transactionIssue .. => [.ports, .router, .icx]
  | .undervoltageLockout .. => [.router, .chans, .groups]
  | .handshakeTimeout .. | .desaturation .. | .linkFault .. => [.router, .chans, .lvdrv]
  | .syncTimeout .. | .lockComplete .. | .debugAbstractCommand .. | .debugResume .. => [.router, .cores, .pairs]
  | .actSpeedUpdate .. | .actSpeedZero .. | .actHallTimeout .. | .actOverload .. | .actStall ..
  | .bootstrapUndervoltage .. | .engageInhibit .. => [.router, .pwms, .acts]
  | .exportWindowTrip => [.router, .pwms, .obc]
  | .twinTokenReceive .. => [.router, .rings, .twin]
  | .sdmWindowEnd .. | .sdmFault .. => [.router, .samples, .sdms]
  | .comparatorRelease .. => [.router, .shroud, .cmps]
  | .twinFrameReceive .. => [.router, .shroud, .twin]
  | .canRxFrame .. => [.mem, .free, .router]
  | .routinePairRestart .. => [.mem, .cores, .pairs]
  | .icxCfg .. => [.mem, .router, .icx]
  | .ringMeasDone .. | .ringTransactionTimeout .. | .ringTransactionComplete .. => [.mem, .router, .rings]
  | .wakeCfg .. => [.mem, .pins, .router]
  | .dataStore .. => [.mem, .pwr, .router]
  | .meterRecord => [.mem, .pwr, .kept]
  | .routineActivateSlot .. => [.pwr, .kept, .router]
  | .vsWarning .. | .vsResume .. => [.pwr, .pins, .router]
  | .captureFreezeLapse .. => [.caps, .router]
  | .realignComplete .. => [.cores, .pairs]
  | .actCurrentLimit .. => [.pwms, .acts]
  | .gateCommandEdge .. => [.pwms, .chans]
  | .handoverS2Open .. => [.pwms, .obc]
  | .profilePhaseEnd .. => [.router, .chans]
  | .ctrStepTimer .. | .hsoOvercurrent .. | .contactorDisable => [.router, .ctr]
  | .enableScanDone .. => [.router, .ctxs]
  | .dcdcHiccupRetry | .dcdcSyncMissing => [.router, .dcdc]
  | .selftestDone .. => [.router, .groups]
  | .arbitrationRound .. | .lockExpiry .. | .interconnectPeriod => [.router, .icx]
  | .lampOvercurrent .. => [.router, .lamps]
  | .srdSupplyFail .. => [.router, .lvdrv]
  | .handoverAcWaitEnd .. | .exportReconnect => [.router, .obc]
  | .eventGenerator .. | .dcdcShortCheck | .dcdcDutyTimeout => [.router, .pwms]
  | .ringEnumDone .. | .ringLaneDown .. | .twinTakeover .. => [.router, .rings]
  | .housekeepingRound .. => [.router, .sensors]
  | .sinDiscrepancy .. | .safeResetRequest .. => [.router, .shroud]
  | .twStandstill .. | .restEnd .. => [.router, .twls]
  | .ethLinkChange .. | .canBusOff .. => [.router, .net]
  | .twinPartnerLost => [.router, .twin]
  | .finalSto .. => [.shroud, .chans]
  | .sleep .. | .coldReset .. | .version .. | .retainWrite .. | .dataLoad .. | .bbMark .. | .bbCommit .. | .bbRead ..
  | .bbCfg .. | .fcCfg .. | .fcArm .. | .meterRead .. | .passportGet .. | .passportZadd .. | .accessDrop .. | .fcFreeze
  | .canTxDone .. | .ethRxFrame .. | .ethTxDone .. => [.mem, .router]
  | .transferData .. => [.mem, .pwr]
  | .vsOvervoltage .. => [.pins, .router]
  | .islandSafeCode .. | .partnerGateLowConfirmed .. => [.chans]
  | .fence .. | .axfinRead .. => [.cores]
  | .ctrNegOpen | .pullInEnd .. => [.ctr]
  | .dcdcSyncEdge => [.dcdc]
  | .tuneTimeout .. => [.engines]
  | .lampRetry .. | .lampPattern .. => [.lamps]
  | .searchClimb | .cvStep => [.obc]
  | .keyLapse .. | .crcRecomputed .. => [.pages]
  | .windowClose .. => [.pairs]
  | .ringSync .. | .ringStreamSend .. => [.rings]
  | .wakeTimerExpiry | .evrTimerExpiry .. | .recordDrain | .safeResetJam | .scdTrip .. | .sup5SwitchOff ..
  | .sup5Retry .. | .islandOvertemperature .. | .dcdcShed | .ringTrainEnd .. | .ringLaneUp .. | .accessTimeout
  | .pilotCycleMeasured .. | .twinLinkTrained => [.router]
  | .twinSummaryForward .. => [.samples]
  | .sinInputChange .. | .sinFilterExpiry .. | .contextWatchdog .. => [.shroud]
  | .twinFrameSend | .twinXreqExpiry .. => [.twin]
  | .mramScrub .. | .routineCheckSlot .. => [.kept]
  | .zcorCopyDone .. | .fcTick => [.mem]
  | .wakeSourceLatch .. => [.pins]
  | .devEdgeWake .. | .debugHalt .. | .scdRelease .. | .hiccntClear | .tcoolEnd | .bbCommitStart | .bbPeriod
  | .meterSample | .passportHistogram | .diagnosticSessionControl .. | .readDataByIdentifier .. | .requestDownload ..
  | .requestTransferExit .. | .ecuReset .. | .twinOffsetMeasure .. => []

/-- The kinds of state that a command can change. -/
def canChange (c : Instr) : List Part := Part.common ++ reach c

end Sys2Proof.Machine
end

