-- ==== Sys2Proof/Certificates/Slice0/Obligations.lean ====
section
/-! DEFINITION. What is to be proved of the model: one proposition for each family of commands and each kind of state, with what a command leaves unchanged
beside what it does. `t` is always the state after the command, and every command of a statement completes in the states the statement names. -/

open Sys2Proof Sys2Proof.Machine

/-- A step runs the command at the front of the queue. For every command c, rest of queue and state s: if the queue is c :: rest, step s is exec c on s
with the queue rest; the same with c put at the front of any state's queue. On an empty queue a step is one tick of PLL_SYS (the model's choice,
assumption 2), after which the interrupt lines settle. -/
def Obligations.StepTakesFront : Prop := ∀ (c : Instr) (rest : List Instr) (s : State),
  (s.pending = c :: rest → step s = exec c (s.setPending rest))
  ∧ step (s.setPending (c :: rest)) = exec c (s.setPending rest)
  ∧ (s.pending = [] → step s = .next s.tick.settle)

/-- Every well-formed command completes, and a step keeps the queue's commands well-formed. (R19, R96, R106, R180) For every command and every state: a
well-formed command answers a next state and leaves the queue alone; a command whose operands the spec excludes (R19, R96, R106, R180: the model's
fault illFormedCommand, assumption 8) is the only one that stops; and from a state whose queue holds well-formed commands only, a step answers a next
state whose queue is the tail of the old one and again holds well-formed commands only. -/
def Obligations.CommandsComplete : Prop := ∀ (c : Instr) (s : State),
  (c.wf = true → ∃ t, exec c s = .next t ∧ t.pending = s.pending)
  ∧ (c.wf = false → exec c s = .fault .illFormedCommand)
  ∧ (s.QueueWf → ∃ t, step s = .next t ∧ t.pending = s.pending.tail ∧ t.QueueWf)

/-- A command changes only the kinds of state its row can reach. If exec of c answers a next state t, then t agrees with s on every kind of state (memory,
queue, kept records, cores, pairs, rings, converters and so on: the parts of State) that is not in the list canChange c of the row's reach. -/
def Obligations.OnlyWhatARowCanChange : Prop := ∀ (c : Instr) (s t : State), exec c s = .next t → ∀ p, p ∉ canChange c → s.agree p t

/-- After every step IRQPEND of both routers shows the asserted lines. (R91) If a step answers next t then, in t, IRQPEND0 and IRQPEND1 of EVR0 and of
EVR1 hold exactly the interrupt lines that the page events, their enables and the routes assert (R91), from whatever state the step was taken. -/
def Obligations.InterruptLinesAreShown : Prop := ∀ (s t : State), step s = .next t → t.IrqShown

/-- Every step keeps the memory in its canonical form. If the memory's list of (address, byte) pairs is in canonical form (addresses strictly rising, no
entry equal to what an unlisted address reads as) and a step answers next t, then t's memory is in canonical form. That an unlisted byte reads as 0 is
the model's choice (assumption 7). -/
def Obligations.MemoryStaysCanonical : Prop := ∀ (s t : State), Memory.wf s.mem → step s = .next t → Memory.wf t.mem

/-- What reset leaves, and the invariants hold there. (R49, R87, R110, R141, R195, R202, R209, R217, R222, R235, R254, R271, R276, R322, R346, R348, R367,
R368, R394, R400, R440, R452, R453) At State.reset the interrupt lines are shown, the memory is canonical and the queue is well-formed; the listed
registers, at least one of each block with a reset value other than 0, read the reset value the spec's register tables give; the queue and the mailbox
doorbells are empty, both pairs' mode is LOCKED, and the device is dark (that a run begins with COLD_START is the model's choice, assumption 4). -/
def Obligations.WhatResetLeaves : Prop :=
  (State.reset.IrqShown ∧ Memory.wf State.reset.mem ∧ State.reset.QueueWf)
  ∧ ((∀ e ∈ [(Adr.SYS_PDSTAT, 7), (Adr.SYS_PDREQ, 7), (Adr.SYS_WAKEEN, 1), (Adr.SYS_RSTCAUSE, 1), (Adr.SYS_CLKSTAT, 3), (Adr.ICX_CLASS, 0x92ABAA),
      (Adr.ICX_WAITLIM 5, 0x10), (Adr.EVR_TMRPER 1, 600), (Adr.PAIR_CTRL 0, 0x30), (Adr.PAIR_WINCFG 1, 0x400), (Adr.TRIM_TCFG 3, 2)],
    State.reset.reg e.1 = BitVec.ofNat 32 e.2)
  ∧ (∀ e ∈ [(Adr.TRIM_TALIM 0, 0x7FFFFFFF), (Adr.PWM_PER 7, 0x3A98), (Adr.PWM_DT 15, 0xF00), (Adr.ADC_SLOT 2 9, 0x40000), (Adr.SDM_CFG 23, 0x20),
      (Adr.CMPB_THR 7 3, 0x3FF0000), (Adr.HK_RCFG, 0x140A), (Adr.TWL_CFG 3, 0x12001400), (Adr.TWL_WHEEL 0, 0x1F4023C), (Adr.TWL_TSTILL 1, 0x64)],
    State.reset.reg e.1 = BitVec.ofNat 32 e.2)
  ∧ (∀ e ∈ [(Adr.EFR_CFG 2, 0x328100), (Adr.EFR_PERIOD 3, 600000), (Adr.EFR_TQCFG 0, 0xC800FF), (Adr.ZCOR_ZCFG 1, 0xC000000),
      (Adr.DCDC_FSW, 150000), (Adr.DCDC_VFS, 32000), (Adr.OBC_CFG, 0xF001918), (Adr.OBC_STAT, 0x70), (Adr.PILOT_CFG, 5), (Adr.PILOT_LAMP, 0x88)],
    State.reset.reg e.1 = BitVec.ofNat 32 e.2)
  ∧ (∀ e ∈ [(Adr.CTR_ECO, 0xA281E), (Adr.CTR_WELD, 0x32003C), (Adr.ACT_CFG 2, 0x100032), (Adr.ACT_ILIM 0, 30), (Adr.CAN_TXBASE 3, 0x20000000),
      (Adr.ETH_RXBASE 1 1, 0x20000000), (Adr.SHRD_SINCFG 7, 0x3207), (Adr.SHRD_NSTILL, 20), (Adr.SHRD_TWX, 0x3F00), (Adr.TWIN_CFG, 0x30)],
    State.reset.reg e.1 = BitVec.ofNat 32 e.2)
  ∧ State.reset.pending = [] ∧ State.reset.pwr.phase = .dark ∧ (∀ n, n < 2 → State.reset.pairMode n = 1) ∧ State.reset.gms.doors = [])

/-- EN of a page with PFAULT.CFGCRC or PAIRFLT cannot be set. (R70, R442) For every page of the map whose EN is 0 and whose PFAULT.CFGCRC or
PFAULT.PAIRFLT is 1: no register write and no set-alias write of its PCTRL, by any port, of any word, leaves EN at 1; and where the writer owns the
page and writes EN as 1 (on a page that STORE does not hold), both writes are refused with FAULTED and PCTRL keeps its value. -/
def Obligations.FaultedPagesStayDisabled : Prop := ∀ (port : Port) (p : Nat) (w : Word) (s : State), (pageRow p).isSome = true →
  s.pageEn p = false → s.flag (Adr.PFAULT p) 31 = true ∨ s.flag (Adr.PFAULT p) 30 = true →
  (∃ t, exec (.registerWrite port (w32 (busAddr (Adr.PCTRL p))) w) s = .next t ∧ t.pageEn p = false)
  ∧ (∃ t, exec (.aliasWrite port false (w32 (busAddr (Adr.PCTRL p))) w) s = .next t ∧ t.pageEn p = false)
  ∧ (s.Owns port p → s.storeHeld p = false → bit w 0 = true →
    ∃ t u, exec (.registerWrite port (w32 (busAddr (Adr.PCTRL p))) w) s = .next t
      ∧ exec (.aliasWrite port false (w32 (busAddr (Adr.PCTRL p))) w) s = .next u
      ∧ (t.port port).resp = .err Reason.faulted ∧ t.reg (Adr.PCTRL p) = s.reg (Adr.PCTRL p)
      ∧ (u.port port).resp = .err Reason.faulted ∧ u.reg (Adr.PCTRL p) = s.reg (Adr.PCTRL p))

/-- Who may own EVR0, EVR1, PAIR0 and PAIR1. (R79) For n = 0, 1 and the pages EVR n and PAIR n, unowned and powered: a claim of PAIR n by a core of it or
by GMS is accepted, a claim of GMS by GMS is accepted, and a claim of the other pair, by any of the five ports, is refused with NOT_OWNER and leaves
the page unowned. -/
def Obligations.RouterAndPairOwners : Prop := ∀ (n : Fin 2) (port : Port) (p : Nat) (w : Word) (s : State), port.val < 5 →
  p = Pg.EVR n ∨ p = Pg.PAIR n → s.portLive port = true → s.pageOn p = true → s.owner p = 0 →
  (bits w 1 0 = n + 1 → portOwner port = n + 1 ∨ port.val = 4 → ∃ t, exec (.ownerClaim port p w) s = .next t ∧ (t.port port).resp = .ok []
    ∧ t.owner p = n + 1)
  ∧ (bits w 1 0 = 3 → port.val = 4 → ∃ t, exec (.ownerClaim port p w) s = .next t ∧ (t.port port).resp = .ok [] ∧ t.owner p = 3)
  ∧ (bits w 1 0 = 2 - n.val → ∃ t, exec (.ownerClaim port p w) s = .next t ∧ (t.port port).resp = .err Reason.notOwner ∧ t.owner p = 0)

/-- A target that does not answer ends the transaction with a bus error. (R109) When a target's time-out of 8192 cycles passes on its oldest granted
transaction, that transaction leaves the target, its port gets a bus error (reason 0: the model's number where no page logs, assumption 14),
ICX.PEVT.TOUT is set, and no other port's answer and no register but TAGSTAT, TGTSTAT and PEVT changes. -/
def Obligations.TargetsTimeOut : Prop := ∀ (k : Fin 16) (p : Nat) (x : Txn) (rest : List (Nat × Txn)) (s : State),
  s.icxGranted k = (p, x) :: rest → s.pageOn Pg.ICX = true → ∃ t, exec (.targetTimeout k) s = .next t ∧ (t.port p).resp = .err 0
    ∧ t.icxGranted k = rest ∧ t.flag (Adr.PEVT Pg.ICX) 3 = true ∧ (∀ q, q ≠ p → t.port q = s.port q)
    ∧ s.KeepsBut (Adr.ICX_TAGSTAT :: Adr.PEVT Pg.ICX :: (List.range 16).map Adr.ICX_TGTSTAT) t

/-- PKEY, its lapse, and claims of POWNER. (R75, R76, R78) On every page of the map: the owner's write of 0x9C3A puts the key after its first word, 0x63C5
then arms it, any other word idles it (a first word repeated stays the first word, assumption 11), and 64 cycles idle an armed key. A claim of an
unowned page is accepted under R78 and R79 and sets POWNER and CRCBUSY; a claim of an owned page is refused with LOCKED and changes no owner. Nothing
else changes. -/
def Obligations.KeysAndOwners : Prop := ∀ (port : Port) (p : Nat) (s : State), (pageRow p).isSome = true →
  (s.Owns port p → ∃ t, exec (.keyWrite port p 0x9C3A#16) s = .next t ∧ (t.port port).resp = .ok [] ∧ (t.page p).key = .first port
    ∧ (∀ q, q ≠ p → t.page q = s.page q) ∧ s.KeepsBut [] t)
  ∧ (s.Owns port p → (s.page p).key = .first port → ∃ t, exec (.keyWrite port p 0x63C5#16) s = .next t ∧ (t.port port).resp = .ok []
    ∧ (t.page p).key = .armed port ∧ (∀ q, q ≠ p → t.page q = s.page q) ∧ s.KeepsBut [] t)
  ∧ (∀ w, s.Owns port p → w ≠ 0x9C3A#16 → (w = 0x63C5#16 → (s.page p).key ≠ .first port) → ∃ t, exec (.keyWrite port p w) s = .next t
    ∧ (t.port port).resp = .ok [] ∧ (t.page p).key = .idle ∧ (∀ q, q ≠ p → t.page q = s.page q) ∧ s.KeepsBut [] t)
  ∧ (∀ q, (s.page p).key = .armed q → ∃ t, exec (.keyLapse p) s = .next t ∧ (t.page p).key = .idle
    ∧ (∀ q, q ≠ p → t.page q = s.page q) ∧ s.KeepsBut [] t)
  ∧ (∀ w, s.portLive port = true → port < 5 → s.pageOn p = true → s.owner p = 0 → bits w 1 0 ≠ 0 →
    (bits w 1 0 = portOwner port ∨ port = 4) → ¬(bits w 1 0 = 2 ∧ (p = Pg.EVR 0 ∨ p = Pg.PAIR 0)) →
    ¬(bits w 1 0 = 1 ∧ (p = Pg.EVR 1 ∨ p = Pg.PAIR 1)) → ∃ t, exec (.ownerClaim port p w) s = .next t ∧ (t.port port).resp = .ok []
      ∧ t.owner p = bits w 1 0 ∧ t.flag (Adr.PSTAT p) 31 = true ∧ s.MemSame t
      ∧ (pageBlock p ≠ some .pwm → pageBlock p ≠ some .ggrp → pageBlock p ≠ some .lvdrv → s.RegsBut [Adr.POWNER p, Adr.PSTAT p] t))
  ∧ (∀ w, s.portLive port = true → port < 5 → s.pageOn p = true → s.owner p ≠ 0 → ∃ t, exec (.ownerClaim port p w) s = .next t
    ∧ (t.port port).resp = .err 4 ∧ t.owner p = s.owner p ∧ s.MemSame t)

/-- An accepted write stores the writable bits, through the page and through its aliases. (R68, R72, R77, R81, R82) On the pages of TBU, HK, ENC and CAN,
for a register the model does not clamp: a write that no check refuses is answered OK, stores what the access types of the register's fields make of
the word, marks CRCBUSY where a configuration register changed, idles the key, and changes nothing else; the set alias ors and the clear alias clears
the RW bits written as 1. -/
def Obligations.AcceptedWrites : Prop := ∀ (port : Port) (a : Nat) (w : Word) (s : State), a < 0x200000 → a % 4 = 0 → 0x40 ≤ a % 4096 →
  s.Owns port (a / 4096) →
  (pageBlock (a / 4096) = some .tbu ∨ pageBlock (a / 4096) = some .hk ∨ pageBlock (a / 4096) = some .enc ∨ pageBlock (a / 4096) = some .can) →
  (regInfo (a / 4096) (a % 4096)).clamp = .none_ →
  (s.refusalOf port a .plain w = none → ∃ t, exec (.registerWrite port (w32 (busAddr a)) w) s = .next t ∧ (t.port port).resp = .ok []
    ∧ t.reg a = (regInfo (a / 4096) (a % 4096)).next .plain (s.reg a) w
    ∧ t.flag (Adr.PSTAT (a / 4096)) 31 = (s.flag (Adr.PSTAT (a / 4096)) 31 || ((regInfo (a / 4096) (a % 4096)).conf && t.reg a != s.reg a))
    ∧ (t.page (a / 4096)).key = .idle ∧ s.KeepsBut [a, Adr.PSTAT (a / 4096)] t)
  ∧ (s.refusalOf port a .set w = none → ∃ t, exec (.aliasWrite port false (w32 (busAddr a)) w) s = .next t ∧ (t.port port).resp = .ok []
    ∧ t.reg a = s.reg a ||| (w &&& (regInfo (a / 4096) (a % 4096)).rw) ∧ s.KeepsBut [a, Adr.PSTAT (a / 4096)] t)
  ∧ (s.refusalOf port a .clear w = none → ∃ t, exec (.aliasWrite port true (w32 (busAddr a)) w) s = .next t ∧ (t.port port).resp = .ok []
    ∧ t.reg a = s.reg a &&& ~~~(w &&& (regInfo (a / 4096) (a % 4096)).rw) ∧ s.KeepsBut [a, Adr.PSTAT (a / 4096)] t)

/-- A refused write writes nothing, is answered with its reason and is logged. (R72, R74) For a write to a page's register by a port that is no core and
not GMS (PORT), by one that does not own the page (NOT_OWNER), or one a check refuses (its reason): the answer is that bus error, the register and the
memory keep their values, and the first refusal fills ACCADDR and ACCINFO of the router of the port's pair, a later one counts; refusals of GMS and of
the engines also go to the black box. -/
def Obligations.RefusedWrites : Prop := ∀ (port : Port) (a : Nat) (w : Word) (s : State), a < 0x200000 → a % 4 = 0 → a % 4096 ≠ 0x18 →
  a % 4096 ≠ 0x1C → (pageRow (a / 4096)).isSome = true → s.portLive port = true → s.pageOn (a / 4096) = true →
  (∀ b, pageBlock (a / 4096) = some b → b ≠ .evr ∧ b ≠ .can ∧ b ≠ .eth) →
  (∀ r, (5 ≤ port.val ∧ r = 7) ∨ (port < 5 ∧ s.ownerPort (a / 4096) port = false ∧ r = 1) ∨ (s.Owns port (a / 4096) ∧ s.refusalOf port a .plain w = some r) →
    ∃ t, exec (.registerWrite port (w32 (busAddr a)) w) s = .next t ∧ (t.port port).resp = .err r ∧ t.reg a = s.reg a ∧ s.MemSame t
      ∧ (∀ n : Fin 2, (5 ≤ port.val ∨ port.val / 2 = n.val) → s.flag (Adr.EVR_ACCINFO n) 31 = false →
          t.reg (Adr.EVR_ACCADDR n) = w32 (busAddr a) ∧ t.fld (Adr.EVR_ACCINFO n) 28 24 = r % 32 ∧ t.fld (Adr.EVR_ACCINFO n) 19 16 = port.val
            ∧ t.flag (Adr.EVR_ACCINFO n) 31 = true)
      ∧ (∀ n : Fin 2, (5 ≤ port.val ∨ port.val / 2 = n.val) → s.flag (Adr.EVR_ACCINFO n) 31 = true →
          t.reg (Adr.EVR_ACCADDR n) = s.reg (Adr.EVR_ACCADDR n) ∧ t.fld (Adr.EVR_ACCINFO n) 15 8 = min (s.fld (Adr.EVR_ACCINFO n) 15 8 + 1) 255)
      ∧ (4 ≤ port.val → t.gms.bb.refusedGms.getLast? = some ⟨w32 (busAddr a), port, r, true⟩))

/-- PCTRL and the configuration CRC. (R69, R70, R71, R82, R81) A write that sets EN, clears EN, sets SRST or sets LOCK, not refused, is answered OK; for
the blocks named EN becomes 1 and SAFE 0, or EN becomes 0, or every block register returns to its reset value with EN 0, PEVT and PEVEN 0, the two
upper PFAULT bits, owner, LOCK and SAFETY kept; LOCK latches PCRC at once or when CRCBUSY clears. The recomputation sets PCRC to the CRC of the
configuration registers, clears CRCBUSY and serves a latch due; the check of a locked page leaves it alone when the CRC agrees, sets PFAULT.CFGCRC
when it differs (GMS's page, without pair fault), and an upset of an unlocked page changes those bits alone. -/
def Obligations.EnableDisableReset : Prop :=
  (∀ (port : Port) (p : Nat) (b : Block) (s : State), pageBlock p = some b → s.Owns port p →
  (s.refusalOf port (Adr.PCTRL p) .plain (s.pctrlWith p 1#32) = none → ∃ t, exec (.pageEnable port p) s = .next t ∧ (t.port port).resp = .ok []
    ∧ (b ∈ [.icx, .evr, .tbu, .pair, .trim, .tsch, .adc, .hk, .zcor] → s.pageEn p = false → t.pageEn p = true ∧ t.pageSafeSt p = false
        ∧ s.KeepsBut [Adr.PCTRL p, Adr.PSTAT p] t))
  ∧ (s.refusalOf port (Adr.PCTRL p) .plain (s.pctrlWithout p 1#32) = none → ∃ t, exec (.pageDisable port p) s = .next t
    ∧ (t.port port).resp = .ok [] ∧ (b ∈ [.icx, .evr, .tbu, .pair, .tsch, .hk, .hall, .can, .eth] → t.pageEn p = false
        ∧ s.KeepsBut [Adr.PCTRL p] t))
  ∧ (s.refusalOf port (Adr.PCTRL p) .plain (s.pctrlWith p 2#32) = none → ∃ t, exec (.softReset port p) s = .next t
    ∧ (t.port port).resp = .ok [] ∧ (b ∈ [.tbu, .tsch, .hall, .enc, .can] → t.pageEn p = false
        ∧ (∀ a, a / 4096 = p → 0x40 ≤ a % 4096 → t.reg a = regDefault a) ∧ t.reg (Adr.PEVT p) = 0#32 ∧ t.reg (Adr.PEVEN p) = 0#32
        ∧ t.reg (Adr.PFAULT p) = s.reg (Adr.PFAULT p) &&& 0xC0000000#32 ∧ t.owner p = s.owner p ∧ t.pageLocked p = s.pageLocked p
        ∧ t.pageMarked p = s.pageMarked p ∧ (∀ a, a / 4096 ≠ p → irqReg a = false → t.reg a = s.reg a) ∧ s.MemSame t))
  ∧ (s.refusalOf port (Adr.PCTRL p) .plain (s.pctrlWith p 4#32) = none → ∃ t, exec (.configLock port p) s = .next t
    ∧ (t.port port).resp = .ok [] ∧ t.pageLocked p = true ∧ s.KeepsBut [Adr.PCTRL p] t
    ∧ (s.pageLocked p = false → s.flag (Adr.PSTAT p) 31 = false → (t.page p).latch = some (s.reg (Adr.PCRC p)))
    ∧ (s.pageLocked p = false → s.flag (Adr.PSTAT p) 31 = true → (t.page p).due = true)))
  ∧ (∀ (p : Nat) (r : BlockRow) (s : State), pageRow p = some r → s.pageOn p = true →
  (s.flag (Adr.PSTAT p) 31 = true → ∃ t, exec (.crcRecomputed p) s = .next t
    ∧ t.reg (Adr.PCRC p) = pageCrc r.blk (p - r.page) (fun o => s.reg (4096 * p + o)) ∧ t.flag (Adr.PSTAT p) 31 = false
    ∧ ((s.page p).due = true → (t.page p).latch = some (t.reg (Adr.PCRC p))) ∧ s.KeepsBut [Adr.PCRC p, Adr.PSTAT p] t)
  ∧ (∀ l, s.pageLocked p = true → s.flag (Adr.PSTAT p) 31 = false → (s.page p).latch = some l →
    pageCrc r.blk (p - r.page) (fun o => s.reg (4096 * p + o)) = l → ∃ t, exec (.crcCheck p none) s = .next t
      ∧ t.reg (Adr.PCRC p) = l ∧ s.KeepsBut [Adr.PCRC p] t)
  ∧ (∀ l, s.pageLocked p = true → s.flag (Adr.PSTAT p) 31 = false → (s.page p).latch = some l →
    pageCrc r.blk (p - r.page) (fun o => s.reg (4096 * p + o)) ≠ l → s.pageMarked p = false → s.owner p = 3 → s.flag (Adr.PFAULT p) 31 = false →
    ∃ t, exec (.crcCheck p none) s = .next t ∧ t.flag (Adr.PFAULT p) 31 = true
      ∧ t.reg (Adr.PCRC p) = pageCrc r.blk (p - r.page) (fun o => s.reg (4096 * p + o))
      ∧ t.gms.bb.refusedGms.getLast? = some ⟨w32 (busAddr (4096 * p)), 15, 9, false⟩ ∧ s.KeepsBut [Adr.PCRC p, Adr.PFAULT p] t)
  ∧ (∀ (off : BitVec 12) (x : Word), s.pageLocked p = false → off.toNat ∈ configOffsets r.blk (p - r.page) →
    ∃ t, exec (.crcCheck p (some (off, x))) s = .next t
      ∧ t.reg (4096 * p + off.toNat) = s.reg (4096 * p + off.toNat) ^^^ (x &&& crcMask r.blk off.toNat) ∧ s.KeepsBut [4096 * p + off.toNat] t))

/-- Capture units, device time, events, the periodic timer and the record channel. (R73, R87, R92, R93, R85, R86, R94) Reads of CAPTL freeze the unit for
its reader, reads of CAPV release it and let a held capture in, a lapse releases it; SNAP captures the input word at once; DTIMEL answers the low word
and keeps the high word for the reader. An event pulse on its way sets SPEND in both routers and its entry of the record channel (first stamp, then
the count to 65535); the timer's expiry raises its event; the drain moves the entries, oldest first and masked, into the black-box log and empties
them. -/
def Obligations.CapturesAndTime : Prop :=
  (∀ (port : Port) (n : Fin 2) (k : Fin 8) (s : State),
  (s.portLive port = true → s.pageOn (Pg.EVR n) = true → ∃ t, exec (.captureFreezeRead port n k) s = .next t
    ∧ (t.port port).resp = .ok (wordBytes (s.reg (Adr.EVR_CAPTL n k)))
    ∧ (s.ownerPort (Pg.EVR n) port = true → (s.cap (8 * n + k)).frozen = none →
        t.cap (8 * n + k) = { s.cap (8 * n + k) with frozen := some port.val })
    ∧ (s.ownerPort (Pg.EVR n) port = false ∨ (s.cap (8 * n + k)).frozen ≠ none → t.caps = s.caps) ∧ s.KeepsBut [] t)
  ∧ (s.portLive port = true → s.pageOn (Pg.EVR n) = true → (s.cap (8 * n + k)).frozen = some port.val → (s.cap (8 * n + k)).held = none →
    ∃ t, exec (.captureReleaseRead port n k) s = .next t ∧ (t.port port).resp = .ok (wordBytes (s.reg (Adr.EVR_CAPV n k)))
      ∧ t.cap (8 * n + k) = CapHid.reset ∧ t.flag (Adr.EVR_CAPSTAT n k) 0 = false ∧ t.flag (Adr.EVR_CAPSTAT n k) 2 = false
      ∧ s.KeepsBut [Adr.EVR_CAPSTAT n k] t)
  ∧ (∀ at_ w, s.portLive port = true → s.pageOn (Pg.EVR n) = true → (s.cap (8 * n + k)).frozen = some port.val →
    (s.cap (8 * n + k)).held = some (at_, w) → ∃ t, exec (.captureReleaseRead port n k) s = .next t
      ∧ (t.port port).resp = .ok (wordBytes (s.reg (Adr.EVR_CAPV n k))) ∧ t.cap (8 * n + k) = CapHid.reset
      ∧ t.reg (Adr.EVR_CAPTL n k) = w32 at_ ∧ t.reg (Adr.EVR_CAPTH n k) = w32 (at_ / 2 ^ 32) ∧ t.reg (Adr.EVR_CAPV n k) = w
      ∧ t.flag (Adr.EVR_CAPSTAT n k) 0 = true ∧ t.flag (Adr.EVR_CAPSTAT n k) 2 = false
      ∧ s.KeepsBut [Adr.EVR_CAPTL n k, Adr.EVR_CAPTH n k, Adr.EVR_CAPV n k, Adr.EVR_CAPSTAT n k, Adr.PEVT (Pg.EVR n)] t)
  ∧ ((s.cap (8 * n + k)).frozen ≠ none → (s.cap (8 * n + k)).held = none → ∃ t, exec (.captureFreezeLapse n k) s = .next t
      ∧ t.cap (8 * n + k) = CapHid.reset ∧ t.flag (Adr.EVR_CAPSTAT n k) 0 = s.flag (Adr.EVR_CAPSTAT n k) 0
      ∧ t.flag (Adr.EVR_CAPSTAT n k) 2 = false ∧ s.KeepsBut [Adr.EVR_CAPSTAT n k] t)
  ∧ (s.Owns port (Pg.EVR n) → s.refusalOf port (Adr.EVR_CAPCTRL n k) .plain (s.withBits (Adr.EVR_CAPCTRL n k) 2#32) = none →
    (s.cap (8 * n + k)).frozen = none → s.fld (Adr.EVR_CAPCTRL n k) 6 4 = 2 → ∃ t, exec (.captureSnap port n k) s = .next t
      ∧ (t.port port).resp = .ok [] ∧ t.reg (Adr.EVR_CAPTL n k) = w32 s.now ∧ t.reg (Adr.EVR_CAPTH n k) = w32 (s.now / 2 ^ 32)
      ∧ t.reg (Adr.EVR_CAPV n k) = s.pins.pins &&& 0xFFFFF#32 ∧ t.flag (Adr.EVR_CAPSTAT n k) 0 = true
      ∧ s.KeepsBut [Adr.EVR_CAPTL n k, Adr.EVR_CAPTH n k, Adr.EVR_CAPV n k, Adr.EVR_CAPSTAT n k, Adr.PEVT (Pg.EVR n)] t)
  ∧ (s.portLive port = true → s.pageOn (Pg.EVR n) = true → ∃ t, exec (.dtimeRead port n) s = .next t
    ∧ (t.port port).resp = .ok (wordBytes (w32 s.now)) ∧ (if n = 0 then (t.port port).dtimeH0 else (t.port port).dtimeH1) = w32 (s.now / 2 ^ 32)
    ∧ s.KeepsBut [] t))
  ∧ (∀ (s : State),
  (∀ e : Fin 256, e.val ∈ s.router.pulses → ∃ t, exec (.eventOccurrence e) s = .next t
    ∧ (∀ n : Fin 2, t.flag (Adr.EVR_SPEND n (e / 32)) (e % 32) = true)
    ∧ (Store.get (fun _ => (0, 0)) s.router.entries e = (0, 0) → Store.get (fun _ => (0, 0)) t.router.entries e = (s.now, 1))
    ∧ (∀ first m, Store.get (fun _ => (0, 0)) s.router.entries e = (first, m) → 0 < m →
        Store.get (fun _ => (0, 0)) t.router.entries e = (first, min (m + 1) 65535)))
  ∧ (∀ n : Fin 2, s.timerRuns n = true → s.pageOn (Pg.EVR n) = true → ∃ t, exec (.evrTimerExpiry n) s = .next t
    ∧ t.flag (Adr.PEVT (Pg.EVR n)) 1 = true
    ∧ (s.flag (Adr.PEVT (Pg.EVR n)) 1 = false → s.flag (Adr.PEVEN (Pg.EVR n)) 1 = true → (254 + n.val) ∈ t.router.pulses)
    ∧ s.KeepsBut [Adr.PEVT (Pg.EVR n)] t)
  ∧ (s.gmsRuns = true → s.gms.bb.log.length + s.router.entries.length ≤ 8192 → ∃ t, exec .recordDrain s = .next t ∧ t.router.entries = []
    ∧ t.gms.bb.log = s.gms.bb.log ++ (((sortEntries s.router.entries).filter fun e => s.gms.bb.recmask.getLsbD e.1).map fun e =>
        (⟨e.2.1, e.2.2, .event, e.1, s.gms.bb.starts % 65536, 0⟩ : LogEntry))
    ∧ s.KeepsBut (allPages.map Adr.PEVT) t))

/-- Supply warnings, supply reset, hold-up and clock faults. (R34, R62, R63, R64, R56, R57) In 10 mV: below 16.00 V the warning sets WARN, notes the dip
and starts a commit; above 17.00 V its end clears WARN and records length and lowest voltage; above 36.00 V OV and its event are set; the supply reset
(below 8.00 V) enters hold-up with pairs and cores reset and a commit started; the end of the hold-up leaves the Masthead's registers, the kept
records and the MRAM and clears the rest; a lost Masthead leaves RSTCAUSE.MLOSS and RTC and RETAIN at 0 (assumption 25). A fault of PLL_SYS or XTAL25
forces safe function SF1 on every group and leads to a cold reset with cause 8; a fault of PLL_NET stops rings, Ethernet and Twin; a relock, at most
three, restores the lock. -/
def Obligations.SupplyLoss : Prop :=
  (∀ (s : State), s.awake = true →
  (∀ vs : BitVec 16, vs.toNat < 1600 → s.flag Adr.SYS_VSMON 16 = false → s.flag Adr.MBX_GSTAT 9 = false → s.gms.restarting = false →
    ∃ t, exec (.vsWarning vs) s = .next t ∧ t.flag Adr.SYS_VSMON 16 = true ∧ t.fld Adr.SYS_VSMON 15 0 = vs.toNat
      ∧ t.pins.vs = vs.toNat ∧ t.pwr.dip = some (s.now, vs.toNat) ∧ t.flag Adr.MBX_GSTAT 9 = true ∧ t.gms.snap = some s.gms.bb
      ∧ s.KeepsBut [Adr.SYS_VSMON, Adr.MBX_GSTAT, Adr.PEVT Pg.SYS] t)
  ∧ (∀ (vs : BitVec 16), 1600 ≤ vs.toNat → ∃ t, exec (.vsWarning vs) s = .next t ∧ t.flag Adr.SYS_VSMON 16 = s.flag Adr.SYS_VSMON 16
    ∧ t.fld Adr.SYS_VSMON 15 0 = vs.toNat ∧ t.gms.snap = s.gms.snap ∧ s.KeepsBut [Adr.SYS_VSMON] t)
  ∧ (∀ (vs lowest : BitVec 16) (t0 low : Nat), 1700 < vs.toNat → s.flag Adr.SYS_VSMON 16 = true → s.pwr.dip = some (t0, low) →
    s.gms.bb.log.length < 8192 → ∃ t, exec (.vsResume vs lowest) s = .next t ∧ t.flag Adr.SYS_VSMON 16 = false
      ∧ t.fld Adr.SYS_VSMON 15 0 = vs.toNat ∧ t.pwr.dip = none
      ∧ t.gms.bb.dips.getLast? = some ⟨s.now - t0, min low lowest.toNat⟩ ∧ t.gms.bb.dips.length = min (s.gms.bb.dips.length + 1) 32
      ∧ t.gms.bb.log = s.gms.bb.log ++ [⟨s.now, 1, .dip, 0, s.gms.bb.starts % 65536, min low lowest.toNat % 65536⟩]
      ∧ s.KeepsBut [Adr.SYS_VSMON, Adr.PEVT Pg.SYS] t)
  ∧ (∀ vs : BitVec 16, 3600 < vs.toNat → s.flag Adr.SYS_VSMON 17 = false → s.pageOn Pg.SYS = true → ∃ t, exec (.vsOvervoltage vs) s = .next t
    ∧ t.flag Adr.SYS_VSMON 17 = true ∧ t.fld Adr.SYS_VSMON 15 0 = vs.toNat ∧ t.flag (Adr.PEVT Pg.SYS) 5 = true
    ∧ s.KeepsBut [Adr.SYS_VSMON, Adr.PEVT Pg.SYS] t))
  ∧ (∀ (s : State),
  (∀ vs : BitVec 16, vs.toNat < 800 → s.pwr.phase = .run → ∃ t, exec (.supplyReset vs) s = .next t ∧ t.pwr.phase = .holdup
    ∧ t.pwr.switching = [] ∧ t.flag Adr.SYS_RSTCAUSE 1 = true ∧ (s.gms.restarting = false → t.flag Adr.MBX_GSTAT 9 = true)
    ∧ (∀ n : Fin 2, (t.pair n).inReset = true) ∧ (∀ c : Fin 4, t.core c = Core.reset))
  ∧ (s.pwr.phase = .holdup → s.flag Adr.MBX_GSTAT 9 = false → ∃ t, exec (.holdupExhausted false) s = .next t ∧ t.pwr.phase = .dark
    ∧ (∀ a, mastReg a = true → irqReg a = false → t.reg a = s.reg a) ∧ (∀ a, mastReg a = false → irqReg a = false → t.reg a = regDefault a)
    ∧ t.kept = s.kept ∧ (∀ a, 0x10000000 ≤ a → a < 0x12000000 → t.byte a = s.byte a)
    ∧ (∀ a, a < 0x10000000 ∨ 0x12000000 ≤ a → t.byte a = 0#8) ∧ t.cores = [] ∧ t.rings = [] ∧ t.router = Router.reset)
  ∧ (s.pwr.phase = .holdup ∨ s.pwr.phase = .dark → ∃ t, exec (.holdupExhausted true) s = .next t ∧ t.pwr.phase = .dark
    ∧ t.flag Adr.SYS_RSTCAUSE 9 = true ∧ t.reg Adr.SYS_RTC = 0#32 ∧ (∀ k : Fin 16, t.reg (Adr.SYS_RETAIN k) = 0#32)
    ∧ t.reg Adr.SYS_WAKEEN = 1#32 ∧ t.pwr.savedReq = 7#32))
  ∧ (∀ (s : State),
  (∀ xtal, s.flag Adr.SYS_CLKSTAT 3 = true → s.gms.restarting = false → ∃ t, exec (.clockFault xtal) s = .next t
    ∧ t.flag Adr.SYS_CLKSTAT 3 = false ∧ (xtal = true → t.reg Adr.SYS_CLKSTAT = 3#32) ∧ t.shroud.clock = true
    ∧ (∀ g : Fin 6, (t.shroud.a.dec g).fns.testBit 0 = true ∧ (t.shroud.b.dec g).fns.testBit 0 = true)
    ∧ t.gms.after = .coldReset 8 ∧ t.flag Adr.MBX_GSTAT 9 = true)
  ∧ (s.flag Adr.SYS_CLKSTAT 4 = true → s.pageOn Pg.SYS = true → ∃ t, exec .pllnetFault s = .next t ∧ t.flag Adr.SYS_CLKSTAT 4 = false
    ∧ t.flag (Adr.PEVT Pg.SYS) 6 = true ∧ t.pwr.relocks = 0 ∧ t.flag Adr.SYS_CLKSTAT 3 = s.flag Adr.SYS_CLKSTAT 3
    ∧ bit t.net.stopped 4 = true ∧ bit t.net.stopped 5 = true ∧ (∀ k : Fin 4, t.ringState k = 0))
  ∧ (s.flag Adr.SYS_CLKSTAT 3 = true → s.flag Adr.SYS_CLKSTAT 4 = false → s.domOn 8 = true → s.pwr.relocks < 3 → s.flag Adr.TWIN_CTRL 0 = false →
    ∃ t, exec (.pllnetRelock true) s = .next t ∧ t.flag Adr.SYS_CLKSTAT 4 = true ∧ t.pwr.relocks = s.pwr.relocks + 1
      ∧ (∀ n : Fin 2, s.owner (Pg.ETH n) = 3 → bit t.net.stopped (4 + n) = false) ∧ s.KeepsBut [Adr.SYS_CLKSTAT] t)
  ∧ (s.flag Adr.SYS_CLKSTAT 3 = true → s.flag Adr.SYS_CLKSTAT 4 = false → s.domOn 8 = true → s.pwr.relocks < 3 →
    ∃ t, exec (.pllnetRelock false) s = .next t ∧ t.pwr.relocks = s.pwr.relocks + 1
      ∧ t.gms.bb.relocks = s.gms.bb.relocks ++ [false] ∧ t.net = s.net ∧ s.KeepsBut [] t))

/-- Black-box commits and the fault capture. (R413, R414, R415, R53, R61, R406, R409, R412) A commit start (by row or period) takes a snapshot and sets
the busy bit, or marks a repeat where one is running; its end writes the summary to the older bank with the next sequence number, raises its event and
then sleeps, resets or repeats as was asked. A tick of the fault capture appends one sample per channel to the open sequence, in the delta form or as
a new sequence; its freeze after a trigger closes the sequences, ends ARMED, sets FROZEN and starts a commit. -/
def Obligations.Commits : Prop :=
  (∀ (s : State), s.gmsRuns = true → s.flag Adr.MBX_GSTAT 11 = true →
  (∃ t, exec .fcTick s = .next t ∧ t.gms.fc.ticks = s.gms.fc.ticks + 1
    ∧ (∀ (k : Fin 16) o x, s.fcOpen k = o → sample16 (s.live (nthD 0 s.gms.fc.sels k) s.now) = x →
      (x = none → o.from_ = none → o.run.length < 2048 → t.fcOpen k = ⟨none, o.run ++ [none]⟩)
      ∧ (∀ a, x = none → o.from_ = some a → t.fcOpen k = ⟨none, [none]⟩)
      ∧ (∀ v, x = some v → o.from_ = none → t.fcOpen k = ⟨some v, []⟩)
      ∧ (∀ v a, x = some v → o.from_ = some a → (o.run.filterMap id).length < 2048 → fits a (o.run.filterMap id ++ [v]) = true →
        t.fcOpen k = ⟨some a, o.run ++ [some v]⟩)
      ∧ (∀ v a, x = some v → o.from_ = some a → fits a (o.run.filterMap id ++ [v]) = false →
        t.fcOpen k = ⟨some ((o.run.filterMap id).getLastD a), [some v]⟩))
    ∧ s.RegsBut [] t ∧ (∀ a, a < 0x20380000 ∨ 0x20400000 ≤ a → t.byte a = s.byte a))
  ∧ (s.gms.fc.trigAt.isSome = true → s.flag Adr.MBX_GSTAT 9 = false → ∃ t, exec .fcFreeze s = .next t
    ∧ t.flag Adr.MBX_GSTAT 11 = false ∧ t.flag Adr.MBX_GSTAT 12 = true ∧ t.flag Adr.MBX_GSTAT 9 = true ∧ t.gms.snap = some s.gms.bb
    ∧ t.gms.fc.open_ = [] ∧ t.gms.fc.trigAt = s.gms.fc.trigAt ∧ (s.pageOn Pg.MBX = true → t.flag (Adr.PEVT Pg.MBX) 5 = true)
    ∧ s.RegsBut [Adr.MBX_GSTAT, Adr.PEVT Pg.MBX] t ∧ (∀ a, a < 0x20380000 ∨ 0x20400000 ≤ a → t.byte a = s.byte a)))
  ∧ (∀ (s : State), s.gmsRuns = true →
  (s.flag Adr.MBX_GSTAT 9 = false → ∃ t u, exec .bbCommitStart s = .next t ∧ exec .bbPeriod s = .next u
    ∧ t.flag Adr.MBX_GSTAT 9 = true ∧ t.gms.snap = some s.gms.bb ∧ s.KeepsBut [Adr.MBX_GSTAT] t
    ∧ u.flag Adr.MBX_GSTAT 9 = true ∧ u.gms.snap = some s.gms.bb ∧ s.KeepsBut [Adr.MBX_GSTAT] u)
  ∧ (s.flag Adr.MBX_GSTAT 9 = true → ∃ t u, exec .bbCommitStart s = .next t ∧ exec .bbPeriod s = .next u
    ∧ t.flag Adr.MBX_GSTAT 9 = true ∧ t.flag Adr.MBX_GSTAT 10 = true ∧ t.gms.snap = s.gms.snap ∧ s.KeepsBut [Adr.MBX_GSTAT] t
    ∧ u.flag Adr.MBX_GSTAT 9 = true ∧ u.flag Adr.MBX_GSTAT 10 = true ∧ u.gms.snap = s.gms.snap ∧ s.KeepsBut [Adr.MBX_GSTAT] u)
  ∧ (∀ b, s.flag Adr.MBX_GSTAT 9 = true → s.flag Adr.MBX_GSTAT 10 = false → s.gms.snap = some b → s.gms.after = .nothing →
    (s.bbBody b).length ≤ 0xFFFF0 → ∃ t, exec .bbCommitDone s = .next t ∧ t.flag Adr.MBX_GSTAT 9 = false ∧ t.gms.snap = none
      ∧ t.kept = { s.kept with bb := some b, meter := some s.gms.meter } ∧ t.pwr.writes = s.pwr.writes + 3
      ∧ t.reg Adr.MBX_BBSEQ = s.newestSeq bbMagic bb0 bb1 0x100000 + 1#32
      ∧ t.bankBody bbMagic bb0 bb1 0x100000 = s.bbBody b
      ∧ (s.pageOn Pg.MBX = true → t.flag (Adr.PEVT Pg.MBX) 2 = true)
      ∧ s.RegsBut [Adr.MBX_GSTAT, Adr.MBX_BBSEQ, Adr.PEVT Pg.MBX] t ∧ (∀ a, a < bb0 → t.byte a = s.byte a))
  ∧ (s.flag Adr.MBX_GSTAT 9 = true → s.flag Adr.MBX_GSTAT 10 = true → ∃ t, exec .bbCommitDone s = .next t
    ∧ t.flag Adr.MBX_GSTAT 9 = true ∧ t.flag Adr.MBX_GSTAT 10 = false ∧ t.gms.snap = some s.gms.bb ∧ t.gms.after = s.gms.after
    ∧ s.RegsBut [Adr.MBX_GSTAT, Adr.MBX_BBSEQ, Adr.PEVT Pg.MBX] t ∧ (∀ a, a < bb0 → t.byte a = s.byte a))
  ∧ (s.flag Adr.MBX_GSTAT 9 = true → s.flag Adr.MBX_GSTAT 10 = false → s.gms.after = .sleep → ∃ t, exec .bbCommitDone s = .next t
    ∧ t.pwr.phase = .sleep ∧ t.pwr.savedReq = s.reg Adr.SYS_PDREQ ∧ t.pwr.sealed = s.pwr.writes + 3 ∧ t.pwr.writes = s.pwr.writes + 3
    ∧ t.kept.bb = some (s.gms.snap.getD s.gms.bb) ∧ t.cores = [] ∧ t.gms = { Gms.reset with meter := t.gms.meter })
  ∧ (∀ c, c < 10 → s.flag Adr.MBX_GSTAT 9 = true → s.flag Adr.MBX_GSTAT 10 = false → s.gms.after = .coldReset c →
    ∃ t, exec .bbCommitDone s = .next t ∧ t.pwr.phase = .dark ∧ t.flag Adr.SYS_RSTCAUSE c = true
      ∧ (∀ j, j < 32 → j ≠ c → t.flag Adr.SYS_RSTCAUSE j = s.flag Adr.SYS_RSTCAUSE j) ∧ t.reg Adr.SYS_RTC = s.reg Adr.SYS_RTC
      ∧ t.kept.bb = some (s.gms.snap.getD s.gms.bb) ∧ t.cores = [] ∧ t.gms = { Gms.reset with meter := t.gms.meter }))

/-- The energy meter, its records, the passport histograms and the MRAM scrub. (R408, R416, R417, R418) With a new valid current sample within 1 ms and a
valid battery voltage, the charge and energy accumulators of the sign's direction grow by the product's whole part modulo 2^96 and the others stay;
otherwise the time is counted as a gap. A meter record is readable afterwards as the newest of its bank pair; the histograms count in the bin of the
pack temperature and of the charge rate; a scrub, due yearly or after MLOSS, notes the time, and a bad word sets PFAULT and a log entry. -/
def Obligations.MeterAndScrub : Prop := ∀ (s : State) (m : Meter) (w : Sample), s.gmsRuns = true → m = s.gms.meter → w = s.word m.misel →
  (∀ t0 v, m.lastT = some t0 → t0 < w.time → w.time ≤ t0 + 600000 → w.valid = true → m.vbat w.time = some v →
    ∃ t, exec .meterSample s = .next t ∧ t.gms.meter.lastT = some w.time ∧ t.gms.meter.gapTicks = m.gapTicks
      ∧ (0 < v * m.current w.value → t.gms.meter.eOut = m.eOut ∧ t.gms.meter.eIn
          = (m.eIn + (v * m.current w.value * m.mifs * 2000 * (w.time - t0 : Nat) / (2 ^ 30 * 600000000)).natAbs) % 2 ^ 96)
      ∧ (v * m.current w.value ≤ 0 → t.gms.meter.eIn = m.eIn ∧ t.gms.meter.eOut
          = (m.eOut + (v * m.current w.value * m.mifs * 2000 * (w.time - t0 : Nat) / (2 ^ 30 * 600000000)).natAbs) % 2 ^ 96)
      ∧ (0 < m.current w.value → t.gms.meter.qOut = m.qOut ∧ t.gms.meter.qIn
          = (m.qIn + (2 * m.current w.value * m.mifs * (w.time - t0 : Nat) / 600000000).natAbs) % 2 ^ 96)
      ∧ (m.current w.value ≤ 0 → t.gms.meter.qIn = m.qIn ∧ t.gms.meter.qOut
          = (m.qOut + (2 * m.current w.value * m.mifs * (w.time - t0 : Nat) / 600000000).natAbs) % 2 ^ 96)
      ∧ s.KeepsBut [] t)
  ∧ (∀ t0, m.lastT = some t0 → t0 < w.time → t0 + 600000 < w.time ∨ w.valid = false ∨ m.vbat w.time = none →
    ∃ t, exec .meterSample s = .next t ∧ t.gms.meter.lastT = some w.time ∧ t.gms.meter.gapTicks = m.gapTicks + (w.time - t0)
      ∧ t.gms.meter.eIn = m.eIn ∧ t.gms.meter.eOut = m.eOut ∧ t.gms.meter.qIn = m.qIn ∧ t.gms.meter.qOut = m.qOut ∧ s.KeepsBut [] t)
  ∧ (m.record.length ≤ 0xFF0 → ∃ t, exec .meterRecord s = .next t ∧ t.kept = { s.kept with meter := some m }
    ∧ t.pwr.writes = s.pwr.writes + 2 ∧ t.bankBody Config.meterMagic meter0 (meter0 + 0x1000) 0x1000 = m.record
    ∧ s.RegsBut [] t ∧ (∀ a, a < meter0 → t.byte a = s.byte a))
  ∧ (∀ (k : Fin 4) x, m.ringMask = 2 ^ k.val → s.live (0xC0 + 4 * k + 2) s.now = x → x.valid = true → ∃ t,
    exec .passportHistogram s = .next t
      ∧ (∀ b, bin t.gms.meter.temp b = bin m.temp b + if b = tempBin (x.value.toInt / 65536) then 1 else 0) ∧ s.KeepsBut [] t)
  ∧ (∀ x, s.live m.misel s.now = x → x.valid = true → m.capacity ≠ 0 → 0 < m.current x.value → ∃ t, exec .passportHistogram s = .next t
    ∧ (∀ b, bin t.gms.meter.cCharge b = bin m.cCharge b
        + if b = min 16 (4 * (m.current x.value).natAbs * m.mifs / (2 ^ 31 * m.capacity)) then 1 else 0)
    ∧ t.gms.meter.cDischarge = m.cDischarge ∧ s.KeepsBut [] t)
  ∧ (∀ bad : Bool, s.flag Adr.SYS_RSTCAUSE 9 = true ∨ s.kept.scrubbed + 31536000 ≤ (s.reg Adr.SYS_RTC).toNat → s.gms.bb.log.length < 8192 →
    ∃ t, exec (.mramScrub bad) s = .next t ∧ t.kept = { s.kept with scrubbed := (s.reg Adr.SYS_RTC).toNat }
      ∧ (bad = true → t.flag (Adr.PFAULT Pg.MBX) 0 = true ∧ t.gms.bb.log.length = s.gms.bb.log.length + 1)
      ∧ (bad = false → t.gms.bb.log = s.gms.bb.log ∧ s.KeepsBut [] t) ∧ s.KeepsBut [Adr.PFAULT Pg.MBX] t)

/-- Diagnostic sessions and security access. (R423, R424, R425, R426) On a channel that GMS serves: a session request changes that channel's session
alone; security access is refused while the back-off runs; a seed for L2 or L3 is 16 free bytes (assumption 1); a verified key opens its level once,
logs it and clears the failures; a wrong one counts and sets the back-off 10·2^n s up to 3600 s; a challenge of another level, channel or age is
refused; the time-out closes the level and logs it. -/
def Obligations.FieldAccess : Prop := ∀ (ch : Fin 6) (s : State),
  (∀ x : Byte, s.udsServes ch true = true → 1 ≤ x.toNat → x.toNat ≤ 3 → ∃ t, exec (.diagnosticSessionControl ch x) s = .next t
    ∧ t.gms.uds = .positive [x] ∧ t.udsSession ch = x ∧ (∀ d : Fin 6, d ≠ ch → t.udsSession d = s.udsSession d) ∧ s.KeepsBut [] t)
  ∧ (∀ (sub : Byte) (v : Bool), s.udsServes ch true = true → s.udsSession ch ≠ 1#8 → 1 ≤ sub.toNat → sub.toNat ≤ 6 →
    s.fld Adr.MBX_AFAIL 31 16 ≠ 0 → ∃ t, exec (.securityAccess ch sub v) s = .next t ∧ t.gms.uds = .negative 0x37#8
      ∧ t.gms.challenge = s.gms.challenge ∧ s.KeepsBut [] t)
  ∧ (∀ (sub : Byte) (v : Bool), s.udsServes ch true = true → s.udsSession ch ≠ 1#8 → s.fld Adr.MBX_AFAIL 31 16 = 0 →
    sub = 3#8 ∨ sub = 5#8 → ∃ t, exec (.securityAccess ch sub v) s = .next t
      ∧ t.gms.uds = .positive (sub :: (List.range 16).map fun i => Config.freeByte (s.free + i)) ∧ t.free = s.free + 16
      ∧ t.gms.challenge = some ⟨(sub.toNat + 1) / 2, ch, s.now⟩ ∧ s.KeepsBut [] t)
  ∧ (∀ (lvl : Nat) (c : Challenge), s.udsServes ch true = true → s.udsSession ch ≠ 1#8 → s.fld Adr.MBX_AFAIL 31 16 = 0 → 1 ≤ lvl → lvl ≤ 3 →
    s.gms.challenge = some c → c.level = lvl → c.chan = ch.val → lvl = 1 ∨ s.now ≤ c.issued + 36000000000 →
    (s.level ≠ lvl → s.gms.bb.log.length < 8192 → ∃ t, exec (.securityAccess ch (BitVec.ofNat 8 (2 * lvl)) true) s = .next t
      ∧ t.gms.uds = .positive [BitVec.ofNat 8 (2 * lvl)] ∧ t.level = lvl ∧ t.fld Adr.MBX_GSTAT 7 4 = ch + 1 ∧ t.gms.challenge = none
      ∧ t.kept = { s.kept with fails := 0 } ∧ t.reg Adr.MBX_AFAIL = 0#32
      ∧ t.gms.bb.log = s.gms.bb.log ++ [⟨s.now, 1, .access, 0, s.gms.bb.starts % 65536, lvl⟩]
      ∧ (s.pageOn Pg.MBX = true → t.flag (Adr.PEVT Pg.MBX) 3 = true) ∧ s.KeepsBut [Adr.MBX_GSTAT, Adr.MBX_AFAIL, Adr.PEVT Pg.MBX] t)
    ∧ (∃ t, exec (.securityAccess ch (BitVec.ofNat 8 (2 * lvl)) false) s = .next t ∧ t.gms.uds = .negative 0x35#8 ∧ t.level = s.level
      ∧ t.gms.challenge = none ∧ t.kept = { s.kept with fails := s.kept.fails + 1 }
      ∧ (s.kept.fails < 2 → t.fld Adr.MBX_AFAIL 31 16 = 0)
      ∧ (2 ≤ s.kept.fails → t.fld Adr.MBX_AFAIL 31 16 = min 3600 (10 * 2 ^ (s.kept.fails - 2))) ∧ s.KeepsBut [Adr.MBX_AFAIL] t))
  ∧ (∀ (lvl : Nat) (c : Challenge) (v : Bool), s.udsServes ch true = true → s.udsSession ch ≠ 1#8 → s.fld Adr.MBX_AFAIL 31 16 = 0 →
    1 ≤ lvl → lvl ≤ 3 → s.gms.challenge = some c → c.level ≠ lvl ∨ c.chan ≠ ch.val ∨ (1 < lvl ∧ c.issued + 36000000000 < s.now) →
    ∃ t, exec (.securityAccess ch (BitVec.ofNat 8 (2 * lvl)) v) s = .next t ∧ t.gms.uds = .negative 0x24#8 ∧ t.gms.challenge = none
      ∧ t.kept = s.kept ∧ s.KeepsBut [] t)
  ∧ (s.gmsRuns = true → s.level ≠ 0 → s.gms.bb.log.length < 8192 → ∃ t, exec .accessTimeout s = .next t ∧ t.level = 0
    ∧ t.fld Adr.MBX_GSTAT 7 4 = 0 ∧ t.gms.bb.log = s.gms.bb.log ++ [⟨s.now, 1, .access, 0, s.gms.bb.starts % 65536, 0⟩]
    ∧ s.KeepsBut [Adr.MBX_GSTAT, Adr.PEVT Pg.MBX] t)

/-- What a tester reads, loads, checks, activates and restarts. (R418, R421, R422, R423, R461) Passport (from L1) and certificate reads; download to the
slot that is not running from L2, its blocks written to MRAM at their place, its exit; the slot check with its verdict; activation of a checked slot
as a trial; the reset, refused while contactors or gate groups are on; the restart of a halted pair; a tester's configuration write from L2, checked
as GMS's write (assumption 17), or refused below L2. Verdicts of signatures are operands of the rows (assumption 66). -/
def Obligations.UpdateServices : Prop := ∀ (ch : Fin 6) (s : State),
  (s.udsServes ch false = true → 1 ≤ s.level → ∃ t, exec (.readDataByIdentifier ch 0xF1A0#16) s = .next t
    ∧ t.gms.uds = .positive s.passport ∧ s.KeepsBut [] t)
  ∧ (s.udsServes ch false = true → s.level = 0 → ∃ t, exec (.readDataByIdentifier ch 0xF1A0#16) s = .next t
    ∧ t.gms.uds = .negative 0x33#8 ∧ s.KeepsBut [] t)
  ∧ (s.udsServes ch false = true → ∃ t, exec (.readDataByIdentifier ch 0xF1A1#16) s = .next t ∧ t.gms.uds = .positive Config.certificate
    ∧ s.KeepsBut [] t)
  ∧ (∀ (b : Bool) (len : Nat), s.udsServes ch true = true → 2 ≤ s.level → s.slotFree b = true → 0 < len → len ≤ 0xC00000 →
    ∃ t, exec (.requestDownload ch b len) s = .next t ∧ t.gms.uds = .positive [] ∧ t.gms.download = some ⟨b, len, 0, 1#8⟩
      ∧ t.gms.checked = none ∧ s.KeepsBut [] t)
  ∧ (∀ (len : Nat), s.udsServes ch true = true → 2 ≤ s.level → s.pwr.phase = .run → ∃ t,
    exec (.requestDownload ch s.kept.slotB len) s = .next t ∧ t.gms.uds = .negative 0x22#8 ∧ t.gms.download = s.gms.download ∧ s.KeepsBut [] t)
  ∧ (∀ (d : Download) (data : List Byte), s.udsServes ch true = true → 2 ≤ s.level → s.flag Adr.MBX_GSTAT 9 = false →
    s.gms.download = some d → d.got + data.length ≤ d.length → ∃ t, exec (.transferData ch d.seq data) s = .next t
      ∧ t.gms.uds = .positive [d.seq] ∧ t.gms.download = some { d with got := d.got + data.length, seq := d.seq + 1#8 }
      ∧ (∀ k, ∀ h : k < data.length, t.byte (slotBase d.slotB + d.got + k) = data[k])
      ∧ (∀ a, a < slotBase d.slotB + d.got ∨ slotBase d.slotB + d.got + data.length ≤ a → t.byte a = s.byte a)
      ∧ t.pwr.writes = s.pwr.writes + 1 ∧ s.RegsBut [] t)
  ∧ (∀ d : Download, s.udsServes ch true = true → s.gms.download = some d → d.got = d.length → ∃ t,
    exec (.requestTransferExit ch) s = .next t ∧ t.gms.uds = .positive [] ∧ t.gms.download = none ∧ s.KeepsBut [] t)
  ∧ (∀ f : SlotFacts, s.udsServes ch true = true → 2 ≤ s.level → s.gms.download = none →
    (f.signed = true → s.kept.rollback ≤ f.rollback → f.oemSigned = true → ∃ t, exec (.routineCheckSlot ch f) s = .next t
      ∧ t.gms.uds = .positive [0#8] ∧ t.gms.checked = some true ∧ t.kept = { s.kept with trialIndex := f.rollback } ∧ s.KeepsBut [] t)
    ∧ (f.signed = false ∨ f.rollback < s.kept.rollback → ∃ t, exec (.routineCheckSlot ch f) s = .next t
      ∧ t.gms.uds = .positive [1#8] ∧ t.gms.checked = some false ∧ t.kept = s.kept ∧ s.KeepsBut [] t))
  ∧ (s.udsServes ch true = true → 2 ≤ s.level → s.gms.checked = some true → s.kept.trial = none → s.gms.bb.log.length < 8192 →
    ∃ t, exec (.routineActivateSlot ch) s = .next t ∧ t.gms.uds = .positive [] ∧ t.gms.checked = none
      ∧ t.kept = { s.kept with trial := some (!s.kept.slotB), trialRan := false, rejected := none } ∧ t.pwr.writes = s.pwr.writes + 1
      ∧ s.KeepsBut [Adr.PEVT Pg.MBX] t)
  ∧ (s.udsServes ch true = true → 2 ≤ s.level → s.fld Adr.CTR_STAT 31 24 = 0 → (∀ g : Fin 6, s.pageEn (Pg.GGRP g) = false) →
    ∃ t, exec (.ecuReset ch 1#8) s = .next t ∧ t.gms.uds = .positive [1#8] ∧ t.gms.after = .coldReset (if s.level = 3 then 4 else 3)
      ∧ t.flag Adr.MBX_GSTAT 9 = true ∧ s.KeepsBut [Adr.MBX_GSTAT] t)
  ∧ (s.udsServes ch true = true → 2 ≤ s.level → s.fld Adr.CTR_STAT 31 24 ≠ 0 ∨ (∃ g : Fin 6, s.pageEn (Pg.GGRP g) = true) →
    ∃ t, exec (.ecuReset ch 1#8) s = .next t ∧ t.gms.uds = .negative 0x22#8 ∧ t.gms.after = s.gms.after ∧ s.KeepsBut [] t)
  ∧ (∀ n : Fin 2, s.udsServes ch false = true → s.udsSession ch = 3#8 → s.pairMode n = 3 → s.domOn (3 + n) = true →
    ∃ t, exec (.routinePairRestart ch (BitVec.ofNat 8 n)) s = .next t ∧ t.gms.uds = .positive [BitVec.ofNat 8 n]
      ∧ (t.pair n).inReset = false ∧ t.pairMode n = 1)
  ∧ (∀ n : Fin 2, s.udsServes ch false = true → s.udsSession ch = 3#8 → s.pairMode n ≠ 3 →
    ∃ t, exec (.routinePairRestart ch (BitVec.ofNat 8 n)) s = .next t ∧ t.gms.uds = .negative 0x22#8 ∧ s.KeepsBut [] t)
  ∧ (∀ (addr value : Word) (a : Nat), regOffset addr.toNat = some a → s.udsServes ch false = true → s.level < 2 →
    ∃ t, exec (.testerConfigWrite ch addr value) s = .next t ∧ t.gms.uds = .negative 0x33#8 ∧ s.KeepsBut [] t)
  ∧ (∀ (addr value : Word) (a : Nat), regOffset addr.toNat = some a → s.udsServes ch false = true → 2 ≤ s.level → s.owner (a / 4096) = 3 →
    s.pageOn (a / 4096) = true → 0x40 ≤ a % 4096 →
    (pageBlock (a / 4096) = some .tbu ∨ pageBlock (a / 4096) = some .hk ∨ pageBlock (a / 4096) = some .enc ∨ pageBlock (a / 4096) = some .can) →
    (regInfo (a / 4096) (a % 4096)).clamp = .none_ → (s.setKey (a / 4096) (.armed 4)).refusalOf 4 a .plain value = none →
    ∃ t, exec (.testerConfigWrite ch addr value) s = .next t ∧ t.gms.uds = .positive []
      ∧ t.reg a = (regInfo (a / 4096) (a % 4096)).next .plain (s.reg a) value ∧ s.KeepsBut [a, Adr.PSTAT (a / 4096)] t)

/-- Wake sources, the wake timer and the warm wake. (R50, R53, R59, R60, R458) A qualified source sets its WAKESRC bit alone; the wake timer's expiry
clears WAKETMR, sets TIMER and, awake, raises EV250; a warm wake from sleep with an enabled source, unbroken seal and working crystal runs:
RSTCAUSE.WAKE, WARM, STAGE 3, the saved domains, device time 0, EPOCH from RTC, RETAIN kept; without an enabled source nothing happens. -/
def Obligations.Waking : Prop := ∀ (s : State),
  (∀ src : Fin 18, src.val ≠ 15 → (src.val < 10 ∨ 13 < src.val ∨ s.cmpState (18 + src) = 2) → ∃ t, exec (.wakeSourceLatch src) s = .next t
    ∧ t.flag Adr.SYS_WAKESRC src = true ∧ (∀ j, j < 32 → j ≠ src.val → t.flag Adr.SYS_WAKESRC j = s.flag Adr.SYS_WAKESRC j)
    ∧ s.KeepsBut [Adr.SYS_WAKESRC] t)
  ∧ (s.reg Adr.SYS_WAKETMR ≠ 0#32 → ∃ t, exec .wakeTimerExpiry s = .next t ∧ t.reg Adr.SYS_WAKETMR = 0#32
    ∧ t.flag Adr.SYS_WAKESRC 15 = true ∧ (s.awake = true → s.pageOn Pg.SYS = true → t.flag (Adr.PEVT Pg.SYS) 3 = true)
    ∧ s.KeepsBut [Adr.SYS_WAKETMR, Adr.SYS_WAKESRC, Adr.PEVT Pg.SYS] t)
  ∧ (∀ f : BootFacts, s.pwr.phase = .sleep → s.reg Adr.SYS_WAKESRC &&& s.reg Adr.SYS_WAKEEN ≠ 0#32 → s.pwr.writes = s.pwr.sealed →
    f.xtalOk = true → ∃ t, exec (.warmWake f) s = .next t ∧ t.pwr.phase = .run ∧ t.flag Adr.SYS_RSTCAUSE 2 = true
      ∧ t.flag Adr.SYS_BOOTSTAT 5 = true ∧ t.stage = 3 ∧ t.reg Adr.SYS_PDREQ = s.pwr.savedReq ||| 7#32 ∧ t.now = 0
      ∧ (∀ n : Fin 2, t.reg (Adr.EVR_EPOCH n) = s.reg Adr.SYS_RTC) ∧ t.reg Adr.SYS_RTC = s.reg Adr.SYS_RTC
      ∧ (∀ k : Fin 16, t.reg (Adr.SYS_RETAIN k) = s.reg (Adr.SYS_RETAIN k)))
  ∧ (∀ f : BootFacts, s.pwr.phase = .sleep → s.reg Adr.SYS_WAKESRC &&& s.reg Adr.SYS_WAKEEN = 0#32 →
    ∃ t, exec (.warmWake f) s = .next t ∧ t.pwr.phase = .sleep ∧ s.KeepsBut [] t)

/-- Cold starts, secure boot and the start that waits for XTAL25. (R1, R56, R58, R87, R110, R419, R459) From dark: without XTAL25 the device halts at
stage 1 with its GMS pages owned; with it, the personality is the stored one, device time starts at 0, PLL_SYS is locked, the chosen slot's version
shows in IMGVER and the pairs leave reset in mode LOCKED when the OEM key is written; with no valid slot it enters recovery. A retry after the halt
starts the device or leaves it waiting. The verdicts are operands of the row (assumption 66). -/
def Obligations.ColdStarts : Prop := ∀ (f : BootFacts) (s : State),
  (s.pwr.phase = .dark → f.xtalOk = false → ∃ t, exec (.coldStart f) s = .next t ∧ t.pwr.phase = .halted ∧ t.pwr.store = s.kept.store
    ∧ t.owner Pg.ICX = 3 ∧ t.owner Pg.TBU = 3 ∧ t.reg (Adr.PEVEN Pg.SYS) = 0x7F#32 ∧ t.stage = 1 ∧ t.kept = s.kept ∧ t.cores = [])
  ∧ (s.pwr.phase = .dark → f.xtalOk = true → s.kept.trial = none → (if s.kept.slotB then f.slotB else f.slotA).signed = true →
    s.kept.rollback ≤ (if s.kept.slotB then f.slotB else f.slotA).rollback →
    (f.oemKeyWritten = true → (if s.kept.slotB then f.slotB else f.slotA).oemSigned = true) → ∃ t, exec (.coldStart f) s = .next t
      ∧ t.pwr.phase = .run ∧ t.pwr.store = s.kept.store ∧ t.now = 0 ∧ t.kept = s.kept ∧ t.stage = 3 ∧ t.flag Adr.SYS_CLKSTAT 3 = true
      ∧ (∀ n : Fin 2, t.reg (Adr.EVR_EPOCH n) = s.reg Adr.SYS_RTC) ∧ t.flag Adr.MBX_BOOT 0 = s.kept.slotB
      ∧ t.reg Adr.MBX_IMGVER = (if s.kept.slotB then f.slotB else f.slotA).version
      ∧ (∀ n : Fin 2, (t.pair n).inReset = !f.oemKeyWritten ∧ (f.oemKeyWritten = true → t.pairMode n = 1)))
  ∧ (s.pwr.phase = .dark → f.xtalOk = true → s.kept.trial = none → f.slotA.signed = false → f.slotB.signed = false →
    ∃ t, exec (.coldStart f) s = .next t ∧ t.pwr.phase = .recovery ∧ t.flag Adr.MBX_GSTAT 8 = true)
  ∧ (s.pwr.phase = .halted → f.xtalOk = true → s.kept.trial = none → (if s.kept.slotB then f.slotB else f.slotA).signed = true →
    s.kept.rollback ≤ (if s.kept.slotB then f.slotB else f.slotA).rollback →
    (f.oemKeyWritten = true → (if s.kept.slotB then f.slotB else f.slotA).oemSigned = true) → ∃ t, exec (.xtal25Retry f) s = .next t
      ∧ t.pwr.phase = .run ∧ t.now = 0 ∧ t.stage = 3 ∧ t.flag Adr.SYS_CLKSTAT 3 = true ∧ t.kept = s.kept)
  ∧ (s.pwr.phase = .halted → f.xtalOk = false → ∃ t, exec (.xtal25Retry f) s = .next t ∧ t.pwr = s.pwr ∧ s.KeepsBut [] t)

/-- Domain requests, a domain powered, and a restart of GMS. (R43, R44, R45, R46, R61, R253, R403, R412) A switch-on request whose domains have what they
need sets PDREQ and starts the switching; one that lacks a domain it needs is answered 4 and changes nothing; a domain powered sets PDSTAT and starts
its islands' self-test; a GMS restart drops its doors, session and challenge, answers waiting requests with GMS_DOWN and repeats an interrupted commit
when it is back. -/
def Obligations.DomainsAndGms : Prop := ∀ (s : State),
  (∀ (pair : Fin 2) (a : Word), s.Calls pair 0x10 0 → 8 ≤ s.reqLen pair → s.reqWord pair 0 = a → s.reqWord pair 1 = 0#32 →
    a &&& 0xFFFFF007#32 = 0#32 →
    (∀ d, d < 12 → bit a d = true → s.domUp d = false → (∀ r ∈ domNeeds d, s.domUp r = true ∨ bit a r = true) ∧ ¬(s.pwr.store = true ∧ d = 9)) →
    ∃ t, exec (.pdReq pair) s = .next t ∧ s.Answered pair 0 t
      ∧ (∀ d, d < 12 → t.flag Adr.SYS_PDREQ d = (s.flag Adr.SYS_PDREQ d || (bit a d && !s.domUp d)))
      ∧ (∀ d, d < 12 → (d ∈ t.pwr.switching ↔ d ∈ s.pwr.switching ∨ (1 ≤ d ∧ bit a d = true ∧ s.domUp d = false)))
      ∧ s.RegsBut [Adr.PEVT Pg.MBX, Adr.SYS_PDREQ, Adr.SYS_BOOTSTAT, Adr.PEVT Pg.SYS] t ∧ s.MemButMailbox t)
  ∧ (∀ (pair : Fin 2) (a : Word) (d r : Nat), s.Calls pair 0x10 0 → 8 ≤ s.reqLen pair → s.reqWord pair 0 = a → s.reqWord pair 1 = 0#32 →
    a &&& 0xFFFFF007#32 = 0#32 → d < 12 → bit a d = true → s.domUp d = false → r ∈ domNeeds d → s.domUp r = false → bit a r = false →
    ∃ t, exec (.pdReq pair) s = .next t ∧ s.Answered pair 4 t ∧ t.pwr = s.pwr ∧ s.RegsBut [Adr.PEVT Pg.MBX] t ∧ s.MemButMailbox t)
  ∧ (∀ d : Fin 12, s.pwr.switching.contains d.val = true → (∀ r ∈ domNeeds d, s.domOn r = true) →
    ∃ t, exec (.domainPowered d) s = .next t ∧ t.flag Adr.SYS_PDSTAT d = true ∧ t.pwr.switching.contains d.val = false
      ∧ (∀ g : Fin 6, islandDom g = d → s.islandHeld g = false → bit s.shroud.cut g = false → t.flag (Adr.GGRP_GSTAT g) 7 = true)
      ∧ s.MemSame t)
  ∧ (s.gmsRuns = true → ∃ t, exec (.gmsRestart false) s = .next t ∧ t.gms.restarting = true ∧ t.gms.doors = [] ∧ t.gms.session = []
    ∧ t.gms.challenge = none ∧ t.gms.download = none ∧ t.flag Adr.SYS_RSTCAUSE 7 = true
    ∧ (∀ pair : Fin 2, pair.val ∈ s.gms.doors → s.Answered pair 1 t)
    ∧ (s.flag Adr.MBX_GSTAT 9 = true → t.flag Adr.MBX_GSTAT 9 = false ∧ t.flag Adr.MBX_GSTAT 10 = false ∧ t.gms.repeatCommit = true))
  ∧ (s.gms.restarting = true → ∃ t, exec (.gmsRestart true) s = .next t ∧ t.gms.restarting = false ∧ t.gms.repeatCommit = false
    ∧ (s.gms.repeatCommit = true → t.flag Adr.MBX_GSTAT 9 = true) ∧ s.KeepsBut [Adr.MBX_GSTAT] t)

/-- SLEEP, COLD_RESET, COMMISSION and ICX_CFG. (R53, R61, R110, R148, R404) Each mailbox request, called with its level and length: sleep and cold reset
are accepted only with contactors open, gate groups disabled (sleep also without a running commit or active wake source) and start a commit after
which they happen; COMMISSION enters state 2 or leaves it, storing Shroud's configuration; ICX_CFG writes class, wait limits (at least 4) and budgets.
Nothing outside the named registers and the mailbox changes. -/
def Obligations.SystemRequests : Prop := ∀ (pair : Fin 2) (s : State),
  (s.Calls pair 0x11 0 → s.fld Adr.CTR_STAT 31 24 = 0 → (∀ g : Fin 6, s.pageEn (Pg.GGRP g) = false) → s.flag Adr.MBX_GSTAT 9 = false →
    s.wakeActive &&& s.reg Adr.SYS_WAKEEN = 0#32 → ∃ t, exec (.sleep pair) s = .next t ∧ s.Answered pair 0 t
      ∧ t.flag Adr.SYS_SLEEPCTRL 0 = true ∧ t.gms.after = .sleep ∧ t.flag Adr.MBX_GSTAT 9 = true ∧ t.gms.snap = some s.gms.bb
      ∧ s.RegsBut [Adr.PEVT Pg.MBX, Adr.SYS_SLEEPCTRL, Adr.MBX_GSTAT] t ∧ s.MemButMailbox t)
  ∧ (s.Calls pair 0x11 0 → s.fld Adr.CTR_STAT 31 24 ≠ 0 ∨ (∃ g : Fin 6, s.pageEn (Pg.GGRP g) = true) ∨ s.flag Adr.MBX_GSTAT 9 = true ∨
      s.wakeActive &&& s.reg Adr.SYS_WAKEEN ≠ 0#32 → ∃ t, exec (.sleep pair) s = .next t ∧ s.Answered pair 4 t ∧ t.gms.after = s.gms.after
    ∧ s.RegsBut [Adr.PEVT Pg.MBX] t ∧ s.MemButMailbox t)
  ∧ (s.Calls pair 0x12 0 → s.fld Adr.CTR_STAT 31 24 = 0 → (∀ g : Fin 6, s.pageEn (Pg.GGRP g) = false) →
    ∃ t, exec (.coldReset pair) s = .next t ∧ s.Answered pair 0 t ∧ t.gms.after = .coldReset 3 ∧ t.flag Adr.MBX_GSTAT 9 = true
      ∧ s.RegsBut [Adr.PEVT Pg.MBX, Adr.MBX_GSTAT] t ∧ s.MemButMailbox t)
  ∧ (s.Calls pair 0x30 2 → 4 ≤ s.reqLen pair → s.reqWord pair 0 = 1#32 → s.commissionRefusal = 0 → ∃ t, exec (.commission pair) s = .next t
    ∧ s.Answered pair 0 t ∧ t.shroud.a.state = 2 ∧ t.shroud.b.state = 2 ∧ t.reg Adr.SHRD_STATE = 2#32 ∧ t.kept = s.kept)
  ∧ (s.Calls pair 0x30 2 → 4 ≤ s.reqLen pair → s.reqWord pair 0 = 0#32 → s.shroud.a.state = 2 → ∃ t, exec (.commission pair) s = .next t
    ∧ s.Answered pair 0 t ∧ t.shroud.a.state = 0 ∧ t.shroud.b.state = 0 ∧ t.reg Adr.SHRD_STATE = 0#32
    ∧ t.kept.config = some s.shroudConfig ∧ t.pwr.writes = s.pwr.writes + 1)
  ∧ (s.Calls pair 0x14 0 → 116 ≤ s.reqLen pair → ∃ t, exec (.icxCfg pair) s = .next t ∧ s.Answered pair 0 t
    ∧ t.reg Adr.ICX_CLASS = s.reqWord pair 0 &&& 0xFFFFFF#32
    ∧ (∀ k : Fin 16, t.reg (Adr.ICX_WAITLIM k) = w32 (max 4 (bits (s.reqWord pair (1 + k)) 7 0)))
    ∧ (∀ p : Fin 12, t.reg (Adr.TBU_BUDGET p) = s.reqWord pair (17 + p) &&& 0xFFFF#32)
    ∧ s.RegsBut ([Adr.PEVT Pg.MBX, Adr.ICX_CLASS, Adr.PSTAT Pg.ICX, Adr.PSTAT Pg.TBU] ++ (List.range 16).map Adr.ICX_WAITLIM
        ++ (List.range 12).map Adr.TBU_BUDGET) t ∧ s.MemButMailbox t)

/-- PERSONALITY, BB_COMMIT, METER_CAL, UPDATE_CONFIRM and ACCESS_DROP. (R1, R412, R417, R421, R426) PERSONALITY is kept for the next cold start and does
not change the present one; BB_COMMIT starts a commit or asks for a repeat; METER_CAL sets the calibration, counts CALSEQ, keeps and logs it;
UPDATE_CONFIRM from both pairs makes the trial slot the running one and raises the rollback index; ACCESS_DROP closes the level. Frames as named. -/
def Obligations.RecordRequests : Prop := ∀ (pair : Fin 2) (s : State),
  (∀ b : Bool, s.Calls pair 0x31 2 → 4 ≤ s.reqLen pair → s.reqWord pair 0 = (if b then 1#32 else 0#32) →
    ∃ t, exec (.personality pair) s = .next t ∧ s.Answered pair 0 t ∧ t.kept = { s.kept with store := b } ∧ t.pwr.store = s.pwr.store
      ∧ t.pwr.writes = s.pwr.writes + 1 ∧ s.RegsBut [Adr.PEVT Pg.MBX] t ∧ s.MemButMailbox t)
  ∧ (s.Calls pair 0x41 0 → s.flag Adr.MBX_GSTAT 9 = false → ∃ t, exec (.bbCommit pair) s = .next t ∧ s.Answered pair 0 t
    ∧ t.flag Adr.MBX_GSTAT 9 = true ∧ t.gms.snap = some s.gms.bb ∧ s.RegsBut [Adr.PEVT Pg.MBX, Adr.MBX_GSTAT] t ∧ s.MemButMailbox t)
  ∧ (s.Calls pair 0x41 0 → s.flag Adr.MBX_GSTAT 9 = true → ∃ t, exec (.bbCommit pair) s = .next t ∧ s.Answered pair 0 t
    ∧ t.flag Adr.MBX_GSTAT 9 = true ∧ t.flag Adr.MBX_GSTAT 10 = true ∧ t.gms.snap = s.gms.snap
    ∧ s.RegsBut [Adr.PEVT Pg.MBX, Adr.MBX_GSTAT] t ∧ s.MemButMailbox t)
  ∧ (s.Calls pair 0x51 2 → 44 ≤ s.reqLen pair → s.gms.bb.log.length < 8192 → ∃ t, exec (.meterCal pair) s = .next t ∧ s.Answered pair 0 t
    ∧ t.gms.meter.misel = bits (s.reqWord pair 0) 15 0 ∧ t.gms.meter.mifs = (s.reqWord pair 1).toNat ∧ t.gms.meter.gain = s.reqWord pair 2
    ∧ t.gms.meter.offs = s.reqWord pair 3 ∧ t.gms.meter.negate = bit (s.reqWord pair 4) 0 ∧ t.gms.meter.capacity = (s.reqWord pair 6).toNat
    ∧ t.gms.meter.calseq = s.gms.meter.calseq + 1 ∧ t.kept.meter.map (fun m => m.calseq) = some (s.gms.meter.calseq + 1)
    ∧ t.gms.bb.log = s.gms.bb.log ++ [⟨s.now, 1, .update, 0, s.gms.bb.starts % 65536, (s.gms.meter.calseq + 1) % 65536⟩]
    ∧ s.RegsBut [Adr.PEVT Pg.MBX] t ∧ (∀ a, a < 0x11E00000 → t.byte a = s.byte a))
  ∧ (∀ b, s.Calls pair 0x70 0 → s.kept.trial = some b → s.flag Adr.MBX_BOOT 1 = true → s.gms.confirms = [] →
    ∃ t, exec (.updateConfirm pair) s = .next t ∧ s.Answered pair 0 t ∧ t.gms.confirms = [pair.val] ∧ t.kept = s.kept
      ∧ s.RegsBut [Adr.PEVT Pg.MBX] t ∧ s.MemButMailbox t)
  ∧ (∀ b, s.Calls pair 0x70 0 → s.kept.trial = some b → s.flag Adr.MBX_BOOT 1 = true → s.gms.confirms = [1 - pair.val] →
    s.gms.bb.log.length < 8192 → ∃ t, exec (.updateConfirm pair) s = .next t ∧ s.Answered pair 0 t
      ∧ t.kept = { s.kept with slotB := b, trial := none, trialRan := false, rollback := max s.kept.rollback s.kept.trialIndex }
      ∧ t.flag Adr.MBX_BOOT 1 = false ∧ t.fld Adr.MBX_BOOT 25 16 = max s.kept.rollback s.kept.trialIndex % 1024
      ∧ s.RegsBut [Adr.PEVT Pg.MBX, Adr.MBX_BOOT] t ∧ s.MemButMailbox t)
  ∧ (s.Calls pair 0x80 0 → s.level ≠ 0 → s.gms.bb.log.length < 8192 → ∃ t, exec (.accessDrop pair) s = .next t ∧ s.Answered pair 0 t
    ∧ t.level = 0 ∧ t.fld Adr.MBX_GSTAT 7 4 = 0 ∧ t.gms.bb.log = s.gms.bb.log ++ [⟨s.now, 1, .access, 0, s.gms.bb.starts % 65536, 0⟩]
    ∧ s.RegsBut [Adr.PEVT Pg.MBX, Adr.MBX_GSTAT] t ∧ s.MemButMailbox t)

/-- DATA_STORE: the newest record then holds the bytes stored. (R404, R405, R406) An accepted DATA_STORE leaves as the newest record of the pair's area
the old body with the stored bytes over it at their offset, under the next sequence number; the other areas of MRAM and every register but the
mailbox's keep their values. -/
def Obligations.DataStoreIsRead : Prop := ∀ (pair : Fin 2) (off len : Nat) (old : List Byte) (s : State), s.Calls pair 0x20 0 →
  s.reqLen pair = 8 + len → (s.reqWord pair 0).toNat = off → (s.reqWord pair 1).toNat = len → off + len ≤ dataRoom →
  s.bankBody Config.dataMagic (dataBank pair) (dataBank pair + 0x80000) 0x80000 = old →
  ∃ t, exec (.dataStore pair) s = .next t ∧ s.Answered pair 0 t
    ∧ t.bankBody Config.dataMagic (dataBank pair) (dataBank pair + 0x80000) 0x80000
        = padTo off old ++ s.reqBytes pair 8 len ++ old.drop (off + len)
    ∧ t.newestSeq Config.dataMagic (dataBank pair) (dataBank pair + 0x80000) 0x80000
        = s.newestSeq Config.dataMagic (dataBank pair) (dataBank pair + 0x80000) 0x80000 + 1#32
    ∧ t.kept = s.kept ∧ t.pwr.writes = s.pwr.writes + 1 ∧ s.RegsBut [Adr.PEVT Pg.MBX] t
    ∧ (∀ a, a < dataBank pair ∨ dataBank pair + 0x100000 ≤ a → a < 0x50000000 → t.byte a = s.byte a)

/-- The Twin link: its start, its frames, and the partner's loss. (R3, R428, R429, R431, R432, R440) RUN starts training; a trained link is up; each sent
frame carries the next sequence number and its CRC; a good frame updates demands, counters and, with TWEN, Shroud's twin inputs, and the tenth after a
loss restores the link; a partner of the other personality gives MISMATCH (R3); bad length, CRC or sequence counts an error and changes no demand; a
loss sets LOST; XREQ requests need TWX's enable and expire; TOFS takes the measured offset. Byte orders are the model's (assumption 50). -/
def Obligations.TwinFrames : Prop := ∀ (s : State), s.pageOn Pg.TWIN = true →
  (∀ port : Port, s.Owns port Pg.TWIN → s.refusalOf port Adr.TWIN_CTRL .plain (s.withBits Adr.TWIN_CTRL 1#32) = none →
    s.pageEn Pg.TWIN = true → s.twinState = 0 → s.flag Adr.SYS_CLKSTAT 4 = true → ∃ t, exec (.twinRun port) s = .next t
      ∧ (t.port port).resp = .ok [] ∧ t.twinState = 1 ∧ t.flag Adr.TWIN_CTRL 0 = true ∧ t.twin = { Twin.reset with seq := s.twin.seq }
      ∧ (∀ k : Fin 4, t.flag Adr.TWIN_STAT (8 + k) = (s.flag Adr.TWIN_CFG (4 + k) != s.flag Adr.TWIN_CFG 0))
      ∧ t.flag (Adr.PEVT Pg.TWIN) 0 = true ∧ s.KeepsBut [Adr.TWIN_CTRL, Adr.TWIN_STAT, Adr.PEVT Pg.TWIN] t)
  ∧ (s.twinState = 1 → ∃ t, exec .twinLinkTrained s = .next t ∧ t.twinState = 2 ∧ t.flag Adr.TWIN_STAT 4 = true
    ∧ t.flag Adr.TWIN_STAT 5 = true ∧ t.flag (Adr.PEVT Pg.TWIN) 0 = true ∧ t.twin = s.twin ∧ s.KeepsBut [Adr.TWIN_STAT, Adr.PEVT Pg.TWIN] t)
  ∧ (2 ≤ s.twinState → ∃ t, exec .twinFrameSend s = .next t
    ∧ t.twin = { s.twin with lastSent := s.twinBody ++ wordBytes (crc32 s.twinBody), seq := s.twin.seq + 1#8 } ∧ s.KeepsBut [] t)
  ∧ (∀ (f : List Byte) (lane1 : Bool) (q : Byte) (dem : Nat), 2 ≤ s.twinState → f.length = 16 → f = f.take 12 ++ wordBytes (crc32 (f.take 12)) →
    s.twin.rxSeq = some q → nthD 0#8 f 0 = q + 1#8 → (nthD 0#8 f 1).getLsbD 7 = s.isStore → dem = (nthD 0#8 f 5).toNat % 64 →
    ∃ t, exec (.twinFrameReceive f lane1) s = .next t ∧ t.twin.rxSeq = some (q + 1#8) ∧ t.twin.dem = w32 dem
      ∧ t.fld Adr.TWIN_STAT 21 16 = dem ∧ t.fld Adr.TWIN_HBCNT 15 0 = (s.fld Adr.TWIN_HBCNT 15 0 + 1) % 65536
      ∧ t.fld Adr.TWIN_HBCNT 31 16 = s.fld Adr.TWIN_HBCNT 31 16
      ∧ (w32 dem &&& ~~~s.twin.dem ≠ 0#32 → t.flag (Adr.PEVT Pg.TWIN) 3 = true)
      ∧ (s.flag Adr.SHRD_TWX 31 = true → t.shroud = { s.shroud with twinA := s.shroud.twinA ||| w32 dem, twinB := s.shroud.twinB ||| w32 dem })
      ∧ (s.flag Adr.SHRD_TWX 31 = false → t.shroud = s.shroud)
      ∧ (s.twin.lost = false → t.twin.lost = false ∧ t.twinState = s.twinState)
      ∧ (s.twin.lost = true → s.twin.good < 9 → t.twin.lost = true ∧ t.twinState = s.twinState ∧ t.twin.good = s.twin.good + 1)
      ∧ (s.twin.lost = true → 9 ≤ s.twin.good → t.twin.lost = false ∧ t.twinState = 2 ∧ t.flag (Adr.PEVT Pg.TWIN) 1 = true)
      ∧ s.KeepsBut [Adr.TWIN_STAT, Adr.TWIN_HBCNT, Adr.PEVT Pg.TWIN] t)
  ∧ (∀ (f : List Byte) (lane1 : Bool) (q : Byte), 2 ≤ s.twinState → f.length = 16 → f = f.take 12 ++ wordBytes (crc32 (f.take 12)) →
    s.twin.rxSeq = some q → nthD 0#8 f 0 = q + 1#8 → (nthD 0#8 f 1).getLsbD 7 ≠ s.isStore →
    ∃ t, exec (.twinFrameReceive f lane1) s = .next t ∧ t.twinState = 4 ∧ t.twin.lost = true
      ∧ s.KeepsBut [Adr.TWIN_STAT, Adr.TWIN_HBCNT, Adr.PEVT Pg.TWIN] t)
  ∧ (∀ (f : List Byte) (lane1 : Bool), 2 ≤ s.twinState → f.length ≠ 16 ∨ f ≠ f.take 12 ++ wordBytes (crc32 (f.take 12)) →
    ∃ t, exec (.twinFrameReceive f lane1) s = .next t ∧ t.twin.rxSeq = s.twin.rxSeq ∧ t.twin.dem = s.twin.dem ∧ t.twin.good = 0
      ∧ t.shroud = s.shroud ∧ t.twinState = s.twinState
      ∧ t.fld Adr.TWIN_HBCNT 31 16 = min (s.fld Adr.TWIN_HBCNT 31 16 + 1) 65535 ∧ s.KeepsBut [Adr.TWIN_STAT, Adr.TWIN_HBCNT] t)
  ∧ (∀ (f : List Byte) (lane1 : Bool) (q : Byte), 2 ≤ s.twinState → f.length = 16 → f = f.take 12 ++ wordBytes (crc32 (f.take 12)) →
    s.twin.rxSeq = some q → nthD 0#8 f 0 ≠ q → nthD 0#8 f 0 ≠ q + 1#8 → ∃ t, exec (.twinFrameReceive f lane1) s = .next t
      ∧ t.twin.rxSeq = some q ∧ t.twin.dem = s.twin.dem ∧ t.twin.good = 0 ∧ t.shroud = s.shroud ∧ t.twinState = s.twinState
      ∧ t.fld Adr.TWIN_HBCNT 31 16 = min (s.fld Adr.TWIN_HBCNT 31 16 + 1) 65535 ∧ s.KeepsBut [Adr.TWIN_STAT, Adr.TWIN_HBCNT] t)
  ∧ (2 ≤ s.twinState → s.twinState ≠ 4 → ∃ t, exec .twinPartnerLost s = .next t ∧ t.twinState = 3 ∧ t.twin.lost = true
    ∧ t.twin.rxSeq = none ∧ t.twin.good = 0 ∧ t.twin.dem = s.twin.dem ∧ (s.twin.lost = false → t.flag (Adr.PEVT Pg.TWIN) 1 = true)
    ∧ s.KeepsBut [Adr.TWIN_STAT, Adr.PEVT Pg.TWIN] t)
  ∧ (∀ (port : Port) (g : BitVec 6), s.Owns port Pg.TWIN → s.refusalOf port Adr.TWIN_XREQ .plain (g.zeroExtend 32) = none →
    ∃ t, exec (.twinXreq port g) s = .next t ∧ (t.port port).resp = .ok []
      ∧ t.twin = { s.twin with xreq := if s.flag Adr.SHRD_TWX 16 then s.twin.xreq ||| g.zeroExtend 32 else s.twin.xreq } ∧ s.KeepsBut [] t)
  ∧ (∀ g : BitVec 6, ∃ t, exec (.twinXreqExpiry g) s = .next t
    ∧ t.twin = { s.twin with xreq := s.twin.xreq &&& ~~~(g.zeroExtend 32) } ∧ s.KeepsBut [] t)
  ∧ (∀ o : Word, 2 ≤ s.twinState → ∃ t, exec (.twinOffsetMeasure o) s = .next t ∧ t.reg Adr.TWIN_TOFS = o ∧ s.KeepsBut [Adr.TWIN_TOFS] t)

/-- Rings handed over, taken over and given back over the Twin link. (R434, R435, R436, R437, R438, R439) A hand-over of rings without open transactions
turns them off into loopback and passes the token; a token received makes the module the owner and lets the ring stream; a take-over after the
partner's loss starts the ring; a non-owner publishes a forwarded summary corrected by TOFS; an owner with a folded ring merges it: the minimum by
min, the maxima by max (assumption 49). -/
def Obligations.TwinRings : Prop := ∀ (s : State), s.pageOn Pg.TWIN = true →
  (∀ (port : Port) (r : BitVec 4), s.Owns port Pg.TWIN → s.refusalOf port Adr.TWIN_RHAND .plain (r.zeroExtend 32) = none → 2 ≤ s.twinState →
    (∀ k : Fin 4, r.getLsbD k = true → (s.ring k).tags = [] ∧ s.fld (Adr.EFR_TQHEAD k) 7 0 = s.fld (Adr.EFR_TQTAIL k) 7 0) →
    ∃ t, exec (.twinRingHandover port r) s = .next t ∧ (t.port port).resp = .ok []
      ∧ (∀ k : Fin 4, t.flag Adr.TWIN_STAT (8 + k) = (s.flag Adr.TWIN_STAT (8 + k) && !r.getLsbD k))
      ∧ (∀ k : Fin 4, r.getLsbD k = true → s.flag Adr.TWIN_STAT (8 + k) = true → t.ringState k = 0 ∧ (t.ring k).loopback = true
          ∧ bit t.twin.token k = true ∧ t.flag (Adr.PEVT Pg.TWIN) 2 = true)
      ∧ (∀ k : Fin 4, r.getLsbD k = false ∨ s.flag Adr.TWIN_STAT (8 + k) = false → t.ring k = s.ring k ∧ t.ringState k = s.ringState k)
      ∧ s.KeepsButPages [Pg.TWIN, Pg.EFR 0, Pg.EFR 1, Pg.EFR 2, Pg.EFR 3] t)
  ∧ (∀ k : Fin 4, 2 ≤ s.twinState → s.flag Adr.TWIN_STAT (8 + k) = false →
    ∃ t, exec (.twinTokenReceive k) s = .next t ∧ t.flag Adr.TWIN_STAT (8 + k) = true ∧ bit t.twin.token k = false
      ∧ t.flag (Adr.PEVT Pg.TWIN) 2 = true ∧ (t.ring k).loopback = false
      ∧ (s.pageEn (Pg.EFR k) = true → s.flag (Adr.EFR_CTRL k) 0 = true → t.ringState k = 6)
      ∧ (s.pageEn (Pg.EFR k) = false ∨ s.flag (Adr.EFR_CTRL k) 0 = false → t.ringState k = s.ringState k)
      ∧ s.KeepsBut [Adr.TWIN_STAT, Adr.PEVT Pg.TWIN, Adr.EFR_STAT k, Adr.PEVT (Pg.EFR k)] t)
  ∧ (∀ k : Fin 4, s.flag Adr.TWIN_CFG 1 = true → s.twin.lost = true → s.flag Adr.TWIN_STAT (8 + k) = false → s.ringState k = 0 →
    s.flag Adr.SYS_CLKSTAT 4 = true → ∃ t, exec (.twinTakeover k) s = .next t ∧ t.flag Adr.TWIN_STAT (8 + k) = true
      ∧ t.flag (Adr.PEVT Pg.TWIN) 2 = true ∧ (t.ring k).loopback = false
      ∧ (s.pageEn (Pg.EFR k) = true → s.flag (Adr.EFR_CTRL k) 0 = true → t.ringState k = 1)
      ∧ (s.pageEn (Pg.EFR k) = false ∨ s.flag (Adr.EFR_CTRL k) 0 = false → t.ringState k = 0)
      ∧ s.KeepsBut [Adr.TWIN_STAT, Adr.PEVT Pg.TWIN, Adr.EFR_STAT k, Adr.PEVT (Pg.EFR k)] t)
  ∧ (∀ (k : Fin 4) (ws : List (Word × Bool)) (stamp : BitVec 64), 2 ≤ s.twinState → s.flag Adr.TWIN_STAT (8 + k) = false →
    ∃ t, exec (.twinSummaryForward k ws stamp) s = .next t
      ∧ (∀ j : Fin 4, t.word (0xC0 + 4 * k + j) = ⟨(nthD (0#32, false) ws j).1, (nthD (0#32, false) ws j).2,
          (((stamp.toNat : Int) - (s.reg Adr.TWIN_TOFS).toInt) % (2 ^ 64 : Nat)).toNat⟩)
      ∧ (∀ i, i < 0xC0 + 4 * k.val ∨ 0xC4 + 4 * k.val ≤ i → t.word i = s.word i) ∧ s.KeepsBut [] t)
  ∧ (∀ (k : Fin 4) (ws : List (Word × Bool)) (stamp : BitVec 64), 2 ≤ s.twinState → s.flag Adr.TWIN_STAT (8 + k) = true → s.ringFold k = true →
    ∃ t, exec (.twinSummaryForward k ws stamp) s = .next t
      ∧ (∀ j : Fin 4, j.val < 3 → (s.word (0xC0 + 4 * k + j)).valid = true → (nthD (0#32, false) ws j).2 = true →
          (t.word (0xC0 + 4 * k + j)).valid = true ∧ (t.word (0xC0 + 4 * k + j)).time = (s.word (0xC0 + 4 * k + j)).time
            ∧ (t.word (0xC0 + 4 * k + j)).value.toInt = (if j.val = 0
                then min (s.word (0xC0 + 4 * k + j)).value.toInt (nthD (0#32, false) ws j).1.toInt
                else max (s.word (0xC0 + 4 * k + j)).value.toInt (nthD (0#32, false) ws j).1.toInt))
      ∧ (∀ i, i < 0xC0 + 4 * k.val ∨ 0xC3 + 4 * k.val ≤ i → t.word i = s.word i) ∧ s.KeepsBut [] t)

/-- CAN and Ethernet frames in and out, bus-off, links and network time. (R447, R448, R450, R452, R449, R453) A frame accepted by a filter is written with
its status, time stamp and data to the ring's next descriptor and the head moves on; without a free descriptor it is counted as overrun; without a
filter as dropped; an erroneous CAN frame changes nothing. A tail write is stored; a sent frame sets its descriptor's status and time stamp (the
low-priority Ethernet ring only when the other is empty). Bus-off stops the controller. A link change is shown and raises its event; NTOFSH commits
the offset and NTNOWL reads network time and keeps its high word. Frame errors are operands of the rows. -/
def Obligations.NetworkFrames : Prop :=
  (∀ (n : Fin 4) (s : State),
  (∀ (xtd fd : Bool) (id : BitVec 29) (data : List Byte) (k f a b : Nat) (r : Word × Nat), s.canOn n = true →
    (fd = true → s.flag (Adr.CAN_CFG n) 31 = true) → (List.range 32).find? (s.canAccepts n xtd id.toNat) = some k →
    f = (s.flag (Adr.CAN_FLT n k) 29).toNat → r = ringOf (s.canRings n) f → a = r.1.toNat + 16 * (s.reg (Adr.CAN_RXHEAD n f)).toNat →
    b = (s.mword (a + 4)).toNat →
    (bit (s.mword a) 31 = true → ∃ t, exec (.canRxFrame n xtd false fd id data) s = .next t
      ∧ t.fld (Adr.CAN_ERRC n) 23 16 = min (s.fld (Adr.CAN_ERRC n) 23 16 + 1) 255 ∧ t.flag (Adr.PEVT (Pg.CAN n)) 2 = true
      ∧ s.KeepsBut [Adr.CAN_ERRC n, Adr.PEVT (Pg.CAN n)] t)
    ∧ (bit (s.mword a) 31 = false → data.length < 65532 → inSram a 16 = true → inSram b (4 + data.length) = true →
      b + 4 + data.length ≤ a ∨ a + 16 ≤ b → ∃ t, exec (.canRxFrame n xtd false fd id data) s = .next t
        ∧ t.mword a = w32 (2 ^ 31 + k * 2 ^ 22 + data.length) ∧ t.mword (a + 4) = s.mword (a + 4)
        ∧ t.mword (a + 8) = w32 s.now ∧ t.mword (a + 12) = w32 (s.now / 2 ^ 32)
        ∧ t.mword b &&& 0x1FFFFFFF#32 = id.zeroExtend 32 ∧ (∀ i, ∀ h : i < data.length, t.byte (b + 4 + i) = data[i])
        ∧ t.reg (Adr.CAN_RXHEAD n f) = w32 (((s.reg (Adr.CAN_RXHEAD n f)).toNat + 1) % r.2) ∧ t.flag (Adr.PEVT (Pg.CAN n)) 0 = true
        ∧ s.RegsBut [Adr.CAN_RXHEAD n f, Adr.PEVT (Pg.CAN n)] t
        ∧ (∀ x, x < a ∨ a + 16 ≤ x → x < b ∨ b + 4 + data.length ≤ x → t.byte x = s.byte x)))
  ∧ (∀ (xtd fd : Bool) (id : BitVec 29) (data : List Byte), s.canOn n = true → (fd = true → s.flag (Adr.CAN_CFG n) 31 = true) →
    (∀ k, k < 32 → s.canAccepts n xtd id.toNat k = false) → ∃ t, exec (.canRxFrame n xtd false fd id data) s = .next t
      ∧ t.fld (Adr.CAN_ERRC n) 31 24 = min (s.fld (Adr.CAN_ERRC n) 31 24 + 1) 255 ∧ s.KeepsBut [Adr.CAN_ERRC n] t)
  ∧ (∀ (xtd fd : Bool) (id : BitVec 29) (data : List Byte), ∃ t, exec (.canRxFrame n xtd true fd id data) s = .next t ∧ s.KeepsBut [] t)
  ∧ (∀ (port : Port) (tail : BitVec 8), s.Owns port (Pg.CAN n) → s.refusalOf port (Adr.CAN_TXTAIL n) .plain (tail.zeroExtend 32) = none →
    ∃ t, exec (.canTxtailWrite port n tail) s = .next t ∧ (t.port port).resp = .ok [] ∧ t.fld (Adr.CAN_TXTAIL n) 7 0 = tail.toNat
      ∧ s.KeepsBut [Adr.CAN_TXTAIL n] t)
  ∧ (∀ (r : Word × Nat) (a : Nat), s.canOn n = true → s.flag (Adr.CAN_CFG n) 29 = false → s.reg (Adr.CAN_TXHEAD n) ≠ s.reg (Adr.CAN_TXTAIL n) →
    r = ringOf (s.canRings n) 2 → a = r.1.toNat + 16 * (s.reg (Adr.CAN_TXHEAD n)).toNat → inSram a 16 = true →
    ∃ t, exec (.canTxDone n) s = .next t ∧ bit (t.mword a) 31 = true ∧ bits (t.mword a) 30 28 = 0 ∧ bits (t.mword a) 27 0 = bits (s.mword a) 27 0
      ∧ t.mword (a + 8) = w32 s.now ∧ t.mword (a + 12) = w32 (s.now / 2 ^ 32)
      ∧ t.reg (Adr.CAN_TXHEAD n) = w32 (((s.reg (Adr.CAN_TXHEAD n)).toNat + 1) % r.2) ∧ t.flag (Adr.PEVT (Pg.CAN n)) 1 = true
      ∧ s.RegsBut [Adr.CAN_TXHEAD n, Adr.PEVT (Pg.CAN n)] t
      ∧ (∀ x, x < a ∨ (a + 4 ≤ x ∧ x < a + 8) ∨ a + 16 ≤ x → t.byte x = s.byte x))
  ∧ (s.flag (Adr.CAN_CFG n) 29 = true ∨ s.reg (Adr.CAN_TXHEAD n) = s.reg (Adr.CAN_TXTAIL n) → ∃ t, exec (.canTxDone n) s = .next t
    ∧ s.KeepsBut [] t)
  ∧ (s.canOn n = true → ∃ t, exec (.canBusOff n) s = .next t ∧ t.canOn n = false ∧ t.fld (Adr.CAN_ERRC n) 7 0 = 255
    ∧ t.flag (Adr.PEVT (Pg.CAN n)) 3 = true ∧ s.KeepsBut [Adr.CAN_ERRC n, Adr.PEVT (Pg.CAN n)] t))
  ∧ (∀ (n : Fin 2) (s : State),
  (∀ (frame : List Byte) (crcOk : Bool) (k f a b : Nat) (r : Word × Nat) (g : List Byte), s.ethOn n = true → g = frame.take 1522 →
    (List.range 16).find? (s.ethAccepts n frame) = some k → f = (s.flag (Adr.ETH_FCTL n k) 0).toNat → r = ringOf (s.ethRings n) f →
    a = r.1.toNat + 16 * (s.reg (Adr.ETH_RXHEAD n f)).toNat → b = (s.mword (a + 4)).toNat →
    (bit (s.mword a) 31 = true → ∃ t, exec (.ethRxFrame n frame crcOk) s = .next t
      ∧ t.fld (Adr.ETH_ERRC n) 15 0 = min (s.fld (Adr.ETH_ERRC n) 15 0 + 1) 65535 ∧ t.flag (Adr.PEVT (Pg.ETH n)) 2 = true
      ∧ s.KeepsBut [Adr.ETH_ERRC n, Adr.PEVT (Pg.ETH n)] t)
    ∧ (bit (s.mword a) 31 = false → inSram a 16 = true → inSram b g.length = true → b + g.length ≤ a ∨ a + 16 ≤ b →
      ∃ t, exec (.ethRxFrame n frame crcOk) s = .next t
        ∧ t.mword a = w32 (2 ^ 31 + (if crcOk = false then 1 else if 1522 < frame.length then 2 else 0) * 2 ^ 28 + k * 2 ^ 22 + g.length)
        ∧ t.mword (a + 8) = w32 s.now ∧ t.mword (a + 12) = w32 (s.now / 2 ^ 32) ∧ (∀ i, ∀ h : i < g.length, t.byte (b + i) = g[i])
        ∧ t.reg (Adr.ETH_RXHEAD n f) = w32 (((s.reg (Adr.ETH_RXHEAD n f)).toNat + 1) % r.2) ∧ t.flag (Adr.PEVT (Pg.ETH n)) 0 = true
        ∧ s.RegsBut [Adr.ETH_RXHEAD n f, Adr.PEVT (Pg.ETH n)] t
        ∧ (∀ x, x < a ∨ (a + 4 ≤ x ∧ x < a + 8) ∨ a + 16 ≤ x → x < b ∨ b + g.length ≤ x → t.byte x = s.byte x)))
  ∧ (∀ (frame : List Byte) (crcOk : Bool), s.ethOn n = true → (∀ k, k < 16 → s.ethAccepts n frame k = false) →
    ∃ t, exec (.ethRxFrame n frame crcOk) s = .next t ∧ t.fld (Adr.ETH_ERRC n) 31 16 = min (s.fld (Adr.ETH_ERRC n) 31 16 + 1) 65535
      ∧ s.KeepsBut [Adr.ETH_ERRC n] t)
  ∧ (∀ (port : Port) (ring : Fin 2) (tail : BitVec 16), s.Owns port (Pg.ETH n) →
    s.refusalOf port (Adr.ETH_TXTAIL n ring) .plain (tail.zeroExtend 32) = none → ∃ t, exec (.ethTxtailWrite port n ring tail) s = .next t
      ∧ (t.port port).resp = .ok [] ∧ t.fld (Adr.ETH_TXTAIL n ring) 15 0 = tail.toNat ∧ s.KeepsBut [Adr.ETH_TXTAIL n ring] t)
  ∧ (∀ (q : Fin 2) (r : Word × Nat) (a : Nat), s.ethOn n = true → s.reg (Adr.ETH_TXHEAD n q) ≠ s.reg (Adr.ETH_TXTAIL n q) →
    (q.val = 1 → s.reg (Adr.ETH_TXHEAD n 0) = s.reg (Adr.ETH_TXTAIL n 0)) → r = ringOf (s.ethRings n) (2 + q) →
    a = r.1.toNat + 16 * (s.reg (Adr.ETH_TXHEAD n q)).toNat → inSram a 16 = true → ∃ t, exec (.ethTxDone n) s = .next t
      ∧ bit (t.mword a) 31 = true ∧ bits (t.mword a) 30 28 = 0 ∧ bits (t.mword a) 27 0 = bits (s.mword a) 27 0
      ∧ t.mword (a + 8) = w32 s.now ∧ t.mword (a + 12) = w32 (s.now / 2 ^ 32)
      ∧ t.reg (Adr.ETH_TXHEAD n q) = w32 (((s.reg (Adr.ETH_TXHEAD n q)).toNat + 1) % r.2) ∧ t.flag (Adr.PEVT (Pg.ETH n)) 1 = true
      ∧ s.RegsBut [Adr.ETH_TXHEAD n q, Adr.PEVT (Pg.ETH n)] t
      ∧ (∀ x, x < a ∨ (a + 4 ≤ x ∧ x < a + 8) ∨ a + 16 ≤ x → t.byte x = s.byte x))
  ∧ (∀ up : Bool, ∃ t, exec (.ethLinkChange n up) s = .next t ∧ bit t.net.link n = up
    ∧ (bit s.net.link n ≠ up → s.pageOn (Pg.ETH n) = true → t.flag (Adr.PEVT (Pg.ETH n)) 3 = true)
    ∧ s.KeepsBut (if bit s.net.link n = up then [] else [Adr.PEVT (Pg.ETH n)]) t)
  ∧ (∀ (port : Port) (v : Word), s.Owns port (Pg.ETH 0) → s.refusalOf port (Adr.ETH_NTOFSH 0) .plain v = none →
    ∃ t, exec (.ntofshWrite port v) s = .next t ∧ (t.port port).resp = .ok [] ∧ t.reg (Adr.ETH_NTOFSH 0) = v
      ∧ t.net = { s.net with ntofs := (s.reg (Adr.ETH_NTOFSL 0)).toNat + 2 ^ 32 * v.toNat } ∧ s.KeepsBut [Adr.ETH_NTOFSH 0] t)
  ∧ (∀ port : Port, s.portLive port = true → s.pageOn (Pg.ETH 0) = true → ∃ t, exec (.ntnowlRead port) s = .next t
    ∧ (t.port port).resp = .ok (wordBytes (w32 s.netTime)) ∧ (t.port port).ntH = w32 (s.netTime / 2 ^ 32) ∧ s.KeepsBut [] t))

/-- Transactions take tags and rounds grant them. (R19, R96, R97, R98, R100, R101, R102, R103, R106, R111) A transaction to a target takes a tag and joins
its port's queue there, unless two tags are held and the shared tags are gone, when it waits and ICX's event is set; one outside the map gets a bus
error. A round grants the winner's oldest request, resets its wait and counts one round for the others; the winner is an eligible port: one at its
wait limit first, the longest waiting of these, else of the highest class; a locked target grants its holder alone. -/
def Obligations.TransactionsQueue : Prop :=
  (∀ (port : Port) (x : Txn) (s : State), x.wf = true → s.portLive port = true →
  (∀ k, targetOf x.addr.toNat = some k → s.icxStuck port = false → s.icxTags port < 16 → (s.icxTags port < 2 ∨ s.icxShared < 104) →
    ∃ t, exec (.transactionIssue port x) s = .next t ∧ t.icxQueue k port = s.icxQueue k port ++ [x]
      ∧ (∀ (j : Fin 16) (p : Fin 12), (j.val, p) ≠ (k, port) → t.icxQueue j p = s.icxQueue j p) ∧ t.icxTags port = s.icxTags port + 1
      ∧ t.ports = s.ports ∧ s.KeepsBut (Adr.ICX_TAGSTAT :: (List.range 16).map Adr.ICX_TGTSTAT) t)
  ∧ (∀ k, targetOf x.addr.toNat = some k → s.icxStuck port = false → 2 ≤ s.icxTags port → s.icxTags port < 16 → 104 ≤ s.icxShared →
    ∃ t, exec (.transactionIssue port x) s = .next t ∧ t.icx = s.icx ∧ t.ports = s.ports
      ∧ (s.pageOn Pg.ICX = true → t.flag (Adr.PEVT Pg.ICX) 2 = true) ∧ s.KeepsBut [Adr.PEVT Pg.ICX] t)
  ∧ (targetOf x.addr.toNat = none → ∃ t, exec (.transactionIssue port x) s = .next t ∧ (t.port port).resp = .err 0 ∧ t.icx = s.icx
    ∧ s.KeepsBut [] t))
  ∧ (∀ (k : Fin 16) (s : State),
  (∀ (p : Fin 12) (r : Bool) (x : Txn) (rest : List Txn), s.lockHeld k = false → s.icxWinner k = some (p.val, r) → s.icxQueue k p = x :: rest →
    ∃ t, exec (.arbitrationRound k) s = .next t ∧ t.icxGranted k = s.icxGranted k ++ [(p.val, x)] ∧ t.icxQueue k p = rest ∧ t.icxWait k p = 0
      ∧ t.icxCharged p = s.icxCharged p + x.beats
      ∧ (∀ q : Fin 12, q ≠ p → t.icxQueue k q = s.icxQueue k q
          ∧ t.icxWait k q = (if q.val ∈ s.icxRound k then min (s.icxWait k q + 1) 255 else s.icxWait k q))
      ∧ s.KeepsBut (Adr.ICX_TAGSTAT :: Adr.TBU_ICXOVR :: Adr.PEVT Pg.TBU :: (List.range 16).map Adr.ICX_TGTSTAT) t)
  ∧ (∀ p r, s.icxWinner k = some (p, r) → p < 12 ∧ s.icxQueue k p ≠ [] ∧ s.icxEligible p = true
    ∧ (∀ q ∈ s.icxRound k, s.icxLimit k ≤ s.icxWait k q → s.icxLimit k ≤ s.icxWait k p ∧ s.icxWait k q ≤ s.icxWait k p)
    ∧ ((∀ q ∈ s.icxRound k, s.icxWait k q < s.icxLimit k) → ∀ q ∈ s.icxRound k, s.icxClass q ≤ s.icxClass p))
  ∧ (∀ (p : Fin 12) (x : Txn) (rest : List Txn), s.lockHeld k = true → s.lockPort k = p → s.icxQueue k p = x :: rest →
    ∃ t, exec (.arbitrationRound k) s = .next t ∧ t.icxGranted k = s.icxGranted k ++ [(p.val, x)] ∧ t.icxQueue k p = rest
      ∧ (∀ q : Fin 12, q ≠ p → t.icxQueue k q = s.icxQueue k q ∧ t.icxWait k q = s.icxWait k q)
      ∧ s.KeepsBut (Adr.ICX_TAGSTAT :: Adr.TBU_ICXOVR :: Adr.PEVT Pg.TBU :: (List.range 16).map Adr.ICX_TGTSTAT) t))

/-- SRAM answers, locked sequences, atomics, FENCE and the port budgets. (R97, R106, R107, R111) An SRAM bank answers a read with its bytes and stores a
write's bytes and no others. LR.W reads, locks the bank for its port and sets rd unless it is x0; SC.W by the holder stores and answers 0, without a
lock 1, after a broken lock 2; an AMO answers the old word and stores the result; the lock expires alone. FENCE holds a core until its transactions
have ended. Each period publishes USED per port and carries debts over. -/
def Obligations.TargetsAnswer : Prop :=
  (∀ (k : Fin 16) (p : Nat) (x : Txn) (rest : List (Nat × Txn)) (s : State), s.icxGranted k = (p, x) :: rest →
  (1 ≤ k.val → k.val ≤ 7 → targetOf x.addr.toNat = some k.val → x.write = false → ∃ t, exec (.transactionResponse k) s = .next t
    ∧ (t.port p).resp = .ok (s.bytes x.addr.toNat (x.size * x.beats)) ∧ t.icxGranted k = rest ∧ (∀ q, q ≠ p → t.port q = s.port q)
    ∧ (p < 4 → t.icxTags p = 0 → (t.core p).fence = false) ∧ s.KeepsBut (Adr.ICX_TAGSTAT :: (List.range 16).map Adr.ICX_TGTSTAT) t)
  ∧ (1 ≤ k.val → k.val ≤ 7 → targetOf x.addr.toNat = some k.val → x.write = true → ∃ t, exec (.transactionResponse k) s = .next t
    ∧ (t.port p).resp = .ok [] ∧ t.icxGranted k = rest ∧ (∀ i, ∀ h : i < x.data.length, t.byte (x.addr.toNat + i) = x.data[i])
    ∧ (∀ a, a < x.addr.toNat ∨ x.addr.toNat + x.data.length ≤ a → t.byte a = s.byte a)
    ∧ (p < 4 → t.icxTags p = 0 → (t.core p).fence = false) ∧ s.RegsBut (Adr.ICX_TAGSTAT :: (List.range 16).map Adr.ICX_TGTSTAT) t))
  ∧ (∀ (port : Port) (rd : Fin 32) (addr value : Word) (k : Nat) (s : State), port.val ≤ 4 →
  addr.toNat % 4 = 0 → s.portLive port = true → targetOf addr.toNat = some k → 1 ≤ k → k ≤ 7 →
  (s.lockedOut k port = false → ∃ t, exec (.lrW port rd addr) s = .next t ∧ (t.port port).resp = .ok (wordBytes (s.mword addr.toNat))
    ∧ (port.val < 4 → rd ≠ 0 → (t.core port).xreg rd = s.mword addr.toNat) ∧ t.lockHeld k = true ∧ t.lockPort k = port
    ∧ s.KeepsBut (Adr.ICX_LOCKSTAT :: Adr.PEVT Pg.ICX :: (List.range 16).map Adr.ICX_TGTSTAT) t)
  ∧ (s.lockedOut k port = true → ∃ t, exec (.lrW port rd addr) s = .next t ∧ t.ports = s.ports ∧ t.cores = s.cores ∧ s.KeepsBut [] t)
  ∧ (s.lockHeld k = true → s.lockPort k = port → bit s.icx.broken k = false → ∃ t, exec (.scW port rd addr value) s = .next t
    ∧ (t.port port).resp = .ok (wordBytes 0#32) ∧ (port.val < 4 → rd ≠ 0 → (t.core port).xreg rd = 0#32)
    ∧ t.mword addr.toNat = value ∧ (∀ a, a < addr.toNat ∨ addr.toNat + 4 ≤ a → t.byte a = s.byte a) ∧ t.lockHeld k = false
    ∧ s.RegsBut [Adr.ICX_LOCKSTAT] t)
  ∧ (s.lockHeld k = false → bit s.icx.broken k = false → ∃ t, exec (.scW port rd addr value) s = .next t
    ∧ (t.port port).resp = .ok (wordBytes 1#32) ∧ (port.val < 4 → rd ≠ 0 → (t.core port).xreg rd = 1#32) ∧ t.icx = s.icx ∧ s.KeepsBut [] t)
  ∧ (s.lockedOut k port = false → bit s.icx.broken k = true → ∃ t, exec (.scW port rd addr value) s = .next t
    ∧ (t.port port).resp = .ok (wordBytes 2#32) ∧ (port.val < 4 → rd ≠ 0 → (t.core port).xreg rd = 2#32) ∧ bit t.icx.broken k = false
    ∧ s.KeepsBut [] t)
  ∧ (∀ op : AmoOp, s.lockedOut k port = false → ∃ t, exec (.amo port op rd addr value) s = .next t
    ∧ (t.port port).resp = .ok (wordBytes (s.mword addr.toNat)) ∧ (port.val < 4 → rd ≠ 0 → (t.core port).xreg rd = s.mword addr.toNat)
    ∧ t.mword addr.toNat = amoResult op (s.mword addr.toNat) value ∧ (∀ a, a < addr.toNat ∨ addr.toNat + 4 ≤ a → t.byte a = s.byte a)
    ∧ s.RegsBut [] t)
  ∧ (∀ j : Fin 16, s.lockHeld j = true → ∃ t, exec (.lockExpiry j) s = .next t ∧ t.lockHeld j = false
    ∧ (∀ i : Fin 16, i ≠ j → t.lockHeld i = s.lockHeld i) ∧ (s.pageOn Pg.ICX = true → t.flag (Adr.PEVT Pg.ICX) 1 = true)
    ∧ s.KeepsBut [Adr.ICX_LOCKSTAT, Adr.PEVT Pg.ICX] t))
  ∧ (∀ (s : State),
  (∀ c : Fin 4, s.coreRuns c = true → 0 < s.icxTags c → ∃ t, exec (.fence c) s = .next t ∧ t.core c = { s.core c with fence := true }
    ∧ (∀ d, d ≠ c.val → t.core d = s.core d) ∧ s.KeepsBut [] t)
  ∧ (∀ c : Fin 4, s.icxTags c = 0 → ∃ t, exec (.fence c) s = .next t ∧ t.cores = s.cores ∧ s.KeepsBut [] t)
  ∧ (s.pageOn Pg.TBU = true → ∃ t, exec .interconnectPeriod s = .next t
    ∧ (∀ p : Fin 12, t.reg (Adr.TBU_USED p) = w32 (min (s.icxCharged p) 65535)
        ∧ t.icxCharged p = (if s.icxBudget p = 0 then 0 else s.icxCharged p - s.icxBudget p))
    ∧ t.reg Adr.TBU_PERIOD = s.reg Adr.TBU_PERIOD + 1#32 ∧ t.flag (Adr.PEVT Pg.TBU) 7 = true
    ∧ s.KeepsBut (Adr.TBU_PERIOD :: Adr.PEVT Pg.TBU :: (List.range 12).map Adr.TBU_USED) t))

/-- The safety inputs: levels, filter and discrepancy. (R149, R150, R151) A level change of one channel of one input changes that level alone; at the
filter's end the demand is the or of both channels; a discrepancy latches its bit, the status bits and its event; none where both channels agree. -/
def Obligations.SafetyInputs : Prop := ∀ (i : Fin 8) (s : State),
  (∀ (c : Bool) (l : Level), ∃ t, exec (.sinInputChange i c l) s = .next t ∧ t.sinLevel i c = l
    ∧ (∀ (j : Fin 8) (d : Bool), (j, d) ≠ (i, c) → t.sinLevel j d = s.sinLevel j d)
    ∧ t.shroud.demand = s.shroud.demand ∧ t.shroud.disc = s.shroud.disc ∧ s.KeepsBut [Adr.SHRD_SINSTAT] t)
  ∧ (∃ t, exec (.sinFilterExpiry i) s = .next t ∧ bit t.shroud.demand i = (s.sinShows i false || s.sinShows i true)
    ∧ (∀ j : Fin 8, j ≠ i → bit t.shroud.demand j = bit s.shroud.demand j)
    ∧ t.flag Adr.SHRD_SINSTAT i = (s.sinShows i false || s.sinShows i true || bit s.shroud.disc i) ∧ s.KeepsBut [Adr.SHRD_SINSTAT] t)
  ∧ (s.sinShows i false ≠ s.sinShows i true → bit s.shroud.disc i = false → ∃ t, exec (.sinDiscrepancy i) s = .next t
    ∧ bit t.shroud.disc i = true ∧ t.flag Adr.SHRD_SINSTAT i = true ∧ t.flag Adr.SHRD_SINSTAT (8 + i) = true
    ∧ (s.pageOn Pg.SHRD = true → t.flag (Adr.PEVT Pg.SHRD) 3 = true) ∧ s.KeepsBut [Adr.SHRD_SINSTAT, Adr.PEVT Pg.SHRD] t)
  ∧ (s.sinShows i false = s.sinShows i true → ∃ t, exec (.sinDiscrepancy i) s = .next t ∧ t.shroud = s.shroud ∧ s.KeepsBut [] t)

/-- SAFE_RESET pulses, the end of SS1, and the final STO. (R162, R163, R153, R157) A pulse is valid after 100 ms idle, with skew up to 20 ms and width 50
to 2000 ms: it clears a group's lockout where its cause is gone, keeps it where it is present, with the events of R162 and R163, and lets
discrepancies go whose channels agree; an invalid one changes nothing; a jammed one raises its event. The end of SS1 sets SF1 in both channels for its
group; a final STO cuts the group's supplies only where both channels select L for SF1, and not where either selects X. -/
def Obligations.SafeResets : Prop :=
  (∀ (s : State),
  (∀ (idle skew width : Nat) (g : Fin 6), 100 ≤ idle → skew ≤ 20 → 50 ≤ width → width ≤ 2000 → s.domOn 2 = true → s.lockedOutGroup g = true →
    ∃ t, exec (.safeResetRequest idle skew width) s = .next t
      ∧ (((s.setShroud { s.shroud with disc := t.shroud.disc }).sinShow).causePresent g = false → t.lockedOutGroup g = false
        ∧ t.reg (Adr.SHRD_GCAUSE g) = 0#32 ∧ (s.pageOn Pg.SHRD = true → t.flag (Adr.PEVT Pg.SHRD) 1 = true))
      ∧ (((s.setShroud { s.shroud with disc := t.shroud.disc }).sinShow).causePresent g = true → t.lockedOutGroup g = true
        ∧ t.reg (Adr.SHRD_GCAUSE g) = s.reg (Adr.SHRD_GCAUSE g) ∧ (s.pageOn Pg.SHRD = true → t.flag (Adr.PEVT Pg.SHRD) 2 = true))
      ∧ (∀ i : Fin 8, bit t.shroud.disc i = (bit s.shroud.disc i && (s.sinShows i false != s.sinShows i true)))
      ∧ s.KeepsBut ([Adr.SHRD_SINSTAT, Adr.SHRD_GSTAT, Adr.SHRD_SPEED, Adr.PEVT Pg.SHRD] ++ (List.range 6).map Adr.SHRD_GCAUSE) t)
  ∧ (∀ (idle skew width : Nat), idle < 100 ∨ 20 < skew ∨ width < 50 ∨ 2000 < width →
    ∃ t, exec (.safeResetRequest idle skew width) s = .next t ∧ t.shroud = s.shroud ∧ s.KeepsBut [] t)
  ∧ (s.pageOn Pg.SHRD = true → ∃ t, exec .safeResetJam s = .next t ∧ t.flag (Adr.PEVT Pg.SHRD) 2 = true ∧ t.shroud = s.shroud
    ∧ s.KeepsBut [Adr.PEVT Pg.SHRD] t))
  ∧ (∀ (g : Fin 6) (s : State),
  (∀ h : Fin 2, (s.shroud.a.dec h).ss1.isSome = true → ∃ t, exec (.ss1Timeout h) s = .next t
    ∧ (t.shroud.a.dec h).fns.testBit 0 = true ∧ (t.shroud.b.dec h).fns.testBit 0 = true
    ∧ (t.shroud.a.dec h).gst ≠ .run ∧ (t.shroud.a.dec h).gst ≠ .ss1 ∧ t.shroud.a.state = s.shroud.a.state)
  ∧ ((s.shroud.a.dec g).gst = .l → (s.shroud.b.dec g).gst = .l → (s.shroud.a.dec g).fns.testBit 0 = true →
    (s.shroud.b.dec g).fns.testBit 0 = true → ∃ t, exec (.finalSto g) s = .next t ∧ bit t.shroud.cut g = true
      ∧ (∀ h : Fin 6, h ≠ g → bit t.shroud.cut h = bit s.shroud.cut h) ∧ t.shroud.a = s.shroud.a ∧ t.shroud.b = s.shroud.b)
  ∧ ((s.shroud.a.dec g).gst = .x ∨ (s.shroud.a.dec g).gst = .xh ∨ (s.shroud.b.dec g).gst = .x ∨ (s.shroud.b.dec g).gst = .xh →
    ∃ t, exec (.finalSto g) s = .next t ∧ t.shroud = s.shroud ∧ s.KeepsBut [] t))

/-- Shroud's cycles select RUN only without cause; the channels' exchange. (R143, R152, R153, R154, R144, R145, R147) A cycle of channel A or B takes its
image, keeps every latched function and selects RUN for a group only in OPERATE or COMMISSION with no function on the group (and, for A, no demand or
hold). Equal images and states clear the difference counters; a third differing image, a second differing state, a second missing exchange or a
supply/clock loss leads to FAILSAFE: both channels set SF1 and no group runs. OPERATE is entered by both channels when its conditions hold. -/
def Obligations.ShroudDecides : Prop :=
  (∀ (s : State),
  (s.domOn 2 = true → ∃ t, exec .shroudACycle s = .next t ∧ t.shroud.a.image = s.shroudImage false ∧ t.shroud.a.state = s.shroud.a.state
    ∧ ∀ g : Fin 6, (∀ k, (s.shroud.a.dec g).fns.testBit k = true → (t.shroud.a.dec g).fns.testBit k = true)
      ∧ ((t.shroud.a.dec g).gst = .run → (t.shroud.a.dec g).fns = 0 ∧ (s.shroud.a.state = 1 ∨ s.shroud.a.state = 2)
        ∧ s.demands s.shroud.a (s.shroudImage false) (s.vehicleAt false (s.fld Adr.SHRD_NSTILL 15 0)) g = []
        ∧ s.holds (s.shroudImage false) (s.vehicleAt false (s.fld Adr.SHRD_NSTILL 15 0)) g = false))
  ∧ (s.pwr.phase ≠ .dark → s.pwr.phase ≠ .sleep → ∃ t, exec .shroudBCycle s = .next t ∧ t.shroud.b.state = s.shroud.b.state
    ∧ ∀ g : Fin 6, (∀ k, (s.shroud.b.dec g).fns.testBit k = true → (t.shroud.b.dec g).fns.testBit k = true)
      ∧ ((t.shroud.b.dec g).gst = .run → (t.shroud.b.dec g).fns = 0 ∧ (s.shroud.b.state = 1 ∨ s.shroud.b.state = 2))))
  ∧ (∀ (s : State),
  (s.domOn 2 = true → s.shroud.a.image = s.shroud.b.image → s.statesDiffer = false → ∃ t, exec (.xcmpExchange false false) s = .next t
    ∧ t.shroud.diffImages = 0 ∧ t.shroud.diffStates = 0 ∧ t.shroud.missed = 0
    ∧ t.fld Adr.SHRD_XSTAT 15 0 = (s.fld Adr.SHRD_XSTAT 15 0 + 1) % 65536 ∧ t.fld Adr.SHRD_XSTAT 31 16 = s.fld Adr.SHRD_XSTAT 31 16
    ∧ t.shroud.a = s.shroud.a ∧ t.shroud.b = s.shroud.b ∧ s.KeepsBut [Adr.SHRD_XSTAT, Adr.SYS_BOOTSTAT, Adr.PEVT Pg.SYS] t)
  ∧ (s.domOn 2 = true → s.shroud.a.image ≠ s.shroud.b.image → s.shroud.diffImages = 0 → s.statesDiffer = false →
    ∃ t, exec (.xcmpExchange false false) s = .next t ∧ t.shroud.diffImages = 1 ∧ t.shroud.a = s.shroud.a ∧ t.shroud.b = s.shroud.b
      ∧ t.fld Adr.SHRD_XSTAT 31 16 = min (s.fld Adr.SHRD_XSTAT 31 16 + 1) 65535)
  ∧ (∀ missing rcOff : Bool, s.domOn 2 = true → s.shroud.a.state ≠ 3 → rcOff = true ∨ (missing = true ∧ s.shroud.missed = 1) ∨
      (missing = false ∧ s.shroud.a.image ≠ s.shroud.b.image ∧ s.shroud.diffImages = 2) ∨
      (missing = false ∧ s.statesDiffer = true ∧ s.shroud.diffStates = 1) → ∃ t, exec (.xcmpExchange missing rcOff) s = .next t
    ∧ t.shroud.a.state = 3 ∧ t.shroud.b.state = 3 ∧ t.reg Adr.SHRD_STATE = 3#32
    ∧ ∀ g : Fin 6, (t.shroud.a.dec g).fns.testBit 0 = true ∧ (t.shroud.b.dec g).fns.testBit 0 = true
      ∧ (t.shroud.a.dec g).gst ≠ .run ∧ (t.shroud.b.dec g).gst ≠ .run)
  ∧ (s.operateReady = true → ∃ t, exec .shroudOperateEntry s = .next t ∧ t.shroud.a.state = 1 ∧ t.shroud.b.state = 1 ∧ t.reg Adr.SHRD_STATE = 1#32))

/-- Trim: loads, stores and moves. (R168, R172, R173, R176, R177, R178) At an instruction of the row (not faulted by ECC, within the program and budget):
LDS, LDF, LDT, STO, LDK, LST, SST and MOV write exactly the register, staged output or state word the rules name, set their flag, cost one cycle and
move to the next instruction; the frame of the context's run, registers and memory is stated whole. -/
def Obligations.TrimMoves : Prop := ∀ (n : Fin 4) (e : Ecc) (r : TrimRun) (w : Word) (s : State), e ≠ .uncorrectable →
  (s.AtInstr n r w 0x01 → ∃ t, exec (.trLds n e) s = .next t
    ∧ s.RanFlag n { r.wr (fD w) (s.sampleFor n r (fSel w)).value.toInt with inv := !(s.sampleFor n r (fSel w)).valid } 1
        4 (!(s.sampleFor n r (fSel w)).valid) [] t)
  ∧ (s.AtInstr n r w 0x02 → (s.sampleFor n r (fSel w)).valid = true → ∃ t, exec (.trLdf n e) s = .next t
    ∧ s.RanOn n { r.wr (fD w) (s.sampleFor n r (fSel w)).value.toInt with inv := false } 1 [] t)
  ∧ (∀ k, s.AtInstr n r w 0x02 → (s.sampleFor n r (fSel w)).valid = false → s.coef n (fK w) = some k → ∃ t, exec (.trLdf n e) s = .next t
    ∧ s.RanOn n { r.wr (fD w) (ldkValue k).1 with inv := true } 1 [Adr.TRIM_CFLAG n r.slot] t ∧ t.flag (Adr.TRIM_CFLAG n r.slot) 4 = true
    ∧ t.flag (Adr.TRIM_CFLAG n r.slot) 0 = (s.flag (Adr.TRIM_CFLAG n r.slot) 0 || (ldkValue k).2)
    ∧ ∀ b, b ≠ 4 → b ≠ 0 → t.flag (Adr.TRIM_CFLAG n r.slot) b = s.flag (Adr.TRIM_CFLAG n r.slot) b)
  ∧ (s.AtInstr n r w 0x03 → ∃ t, exec (.trLdt n e) s = .next t
    ∧ s.RanOn n (r.wr (fD w) (w32 (s.sampleFor n r (fSel w)).time).toInt) 1 [] t)
  ∧ (s.AtInstr n r w 0x04 → ∃ t q, exec (.trSto n e) s = .next t ∧ (t.engine n).run = some q
    ∧ Store.get (fun _ => 0#32) q.staged (fSel w) = Store.get (fun _ => 0#32) r.d (fD w) ∧ fSel w ∈ q.written
    ∧ (∀ x, x ≠ fSel w → Store.get (fun _ => 0#32) q.staged x = Store.get (fun _ => 0#32) r.staged x ∧ (x ∈ q.written ↔ x ∈ r.written))
    ∧ q.d = r.d ∧ q.pc = r.pc + 1 ∧ q.cyc = r.cyc + 1 ∧ s.KeepsBut [Adr.TRIM_ECCCNT n] t)
  ∧ (∀ k, s.AtInstr n r w 0x05 → s.coef n (s.bank n r.slot + fK w) = some k → ∃ t, exec (.trLdk n e) s = .next t
    ∧ s.RanFlag n (r.wr (fD w) (ldkValue k).1) 1 0 (ldkValue k).2 [] t)
  ∧ (s.AtInstr n r w 0x06 → ∃ t, exec (.trLst n e) s = .next t
    ∧ s.RanOn n (r.wr (fD w) (s.reg (Adr.TRIM_ST n (16 * r.slot + fC w))).toInt) 1 [] t)
  ∧ (s.AtInstr n r w 0x07 → ∃ t, exec (.trSst n e) s = .next t
    ∧ t.reg (Adr.TRIM_ST n (16 * r.slot + fC w)) = Store.get (fun _ => 0#32) r.d (fA w)
    ∧ s.RanOn n r 1 [Adr.TRIM_ST n (16 * r.slot + fC w)] t)
  ∧ (s.AtInstr n r w 0x08 → ∃ t, exec (.trMov n e) s = .next t ∧ s.RanOn n (r.wr (fD w) (r.rd (fA w))) 1 [] t)

/-- Rounding and saturation of the trim are exact. (R170) For every integer x and n: satQ x n is x·2^-n rounded half toward +∞ where that lies in range,
the upper or lower limit beyond it, and its flag is set exactly for values beyond ±2^31; a root is the nearest integer to the exact root. -/
def Obligations.RoundingIsExact : Prop := ∀ (x : Int) (n : Nat),
  (-(2 ^ 31 * 2 ^ n) ≤ x → 2 * x < (2 ^ 32 - 1) * 2 ^ n →
    2 * (satQ x n).1 * 2 ^ n ≤ 2 * x + 2 ^ n ∧ 2 * x + 2 ^ n < 2 * ((satQ x n).1 + 1) * 2 ^ n)
  ∧ (2 ^ 31 * 2 ^ n ≤ x → (satQ x n).1 = 2 ^ 31 - 1) ∧ (x ≤ -(2 ^ 31 * 2 ^ n) → (satQ x n).1 = -2 ^ 31)
  ∧ ((satQ x n).2 = true ↔ 2 ^ 31 * 2 ^ n < x ∨ x < -(2 ^ 31 * 2 ^ n))
  ∧ (∀ m : Nat, m < 2 ^ 62 → (rootRound m = 0 ↔ m = 0) ∧ (4 * m : Int) < (2 * rootRound m + 1) * (2 * rootRound m + 1)
      ∧ (0 < m → (2 * rootRound m - 1 : Int) * (2 * rootRound m - 1) < 4 * m + 1))

/-- Trim: arithmetic, multiply-accumulate and limits. (R170, R171, R173) ADD, SUB, NEG, ABS, MUL, MULR, ACLR, MAC, MACR, ARND, SATK and LIM give the exact
result, rounded and limited as R170 says, set SAT or ASAT on saturation, take 1 or 2 cycles and change nothing else of the run, the registers or the
memory. -/
def Obligations.TrimArithmetic : Prop := ∀ (n : Fin 4) (e : Ecc) (r : TrimRun) (w : Word) (s : State), e ≠ .uncorrectable →
  (∀ op c x, (op = 0x09 ∧ c = .trAdd n e ∧ x = r.rd (fA w) + r.rd (fB w)) ∨ (op = 0x0A ∧ c = .trSub n e ∧ x = r.rd (fA w) - r.rd (fB w)) ∨
      (op = 0x0B ∧ c = .trNeg n e ∧ x = -r.rd (fA w)) ∨ (op = 0x0C ∧ c = .trAbs n e ∧ x = (r.rd (fA w)).natAbs) → s.AtInstr n r w op →
    ∃ t, exec c s = .next t ∧ s.RanFlag n (r.wr (fD w) (max (-2147483648) (min x 2147483647))) 1
      0 (decide (2147483648 < x) || decide (x < -2147483648)) [] t)
  ∧ (∀ k, s.AtInstr n r w 0x10 → s.coef n (s.bank n r.slot + fK w) = some k → ∃ t, exec (.trMul n e) s = .next t
    ∧ s.RanFlag n (r.wr (fD w) (satQ (r.rd (fA w) * k.1) k.2).1) 2 0 (satQ (r.rd (fA w) * k.1) k.2).2 [] t)
  ∧ (s.AtInstr n r w 0x11 → ∃ t, exec (.trMulr n e) s = .next t
    ∧ s.RanFlag n (r.wr (fD w) (satQ (r.rd (fA w) * r.rd (fB w)) 31).1) 2 0 (satQ (r.rd (fA w) * r.rd (fB w)) 31).2 [] t)
  ∧ (s.AtInstr n r w 0x12 → ∃ t, exec (.trAclr n e) s = .next t
    ∧ s.RanOn n (if fD w % 2 = 0 then { r with a0 := 0 } else { r with a1 := 0 }) 1 [] t)
  ∧ (∀ a, a = r.acc (fD w) + r.rd (fA w) * r.rd (fB w) → s.AtInstr n r w 0x14 → -2 ^ 71 ≤ a → a < 2 ^ 71 → ∃ t, exec (.trMacr n e) s = .next t
    ∧ s.RanOn n (if fD w % 2 = 0 then { r with a0 := a } else { r with a1 := a }) 1 [] t)
  ∧ (∀ k a, a = r.acc (fD w) + (if k.2 ≤ 31 then r.rd (fA w) * k.1 * 2 ^ (31 - k.2) else roundShift (r.rd (fA w) * k.1) (k.2 - 31)) →
    s.AtInstr n r w 0x13 → s.coef n (s.bank n r.slot + fK w) = some k → -2 ^ 71 ≤ a → a < 2 ^ 71 → ∃ t, exec (.trMac n e) s = .next t
      ∧ s.RanOn n (if fD w % 2 = 0 then { r with a0 := a } else { r with a1 := a }) 1 [] t)
  ∧ (∀ a, a = r.acc (fD w) + r.rd (fA w) * r.rd (fB w) → s.AtInstr n r w 0x14 → 2 ^ 71 ≤ a → ∃ t, exec (.trMacr n e) s = .next t
    ∧ s.RanFlag n (if fD w % 2 = 0 then { r with a0 := 2 ^ 71 - 1 } else { r with a1 := 2 ^ 71 - 1 }) 1 1 true [] t)
  ∧ (s.AtInstr n r w 0x15 → ∃ t, exec (.trArnd n e) s = .next t
    ∧ s.RanFlag n (r.wr (fD w) (satQ (r.acc (fA w)) 31).1) 1 0 (satQ (r.acc (fA w)) 31).2 [] t)
  ∧ (∀ k, s.AtInstr n r w 0x16 → s.coef n (s.bank n r.slot + fK w) = some k → ∃ t, exec (.trSatk n e) s = .next t
    ∧ s.RanFlag n (r.wr (fD w) (max (min (r.rd (fA w)) (ldkValue k).1.natAbs) (-(ldkValue k).1.natAbs))) 1 0 (ldkValue k).2 [] t)
  ∧ (s.AtInstr n r w 0x17 → ∃ t, exec (.trLim n e) s = .next t
    ∧ s.RanOn n (r.wr (fD w) (max (min (r.rd (fA w)) (r.rd (fB w))) (r.rd (fC w)))) 1 [] t)

/-- Trim: ramps, PI, biquad, root, quotient and arctangent. (R173, R174, R175, R189) RAMP moves its state toward the target by at most the rate; PI and
PIT (with no tuner) give P + I within the limits and keep the integral when limited in the driving direction; BIQ gives the transposed form's output
and states; SQRT the nearest root, 0 with DOM for a negative; DIV the rounded quotient, limited, DIV0 for 0; ATAN2 within 1000 units of the exact
angle (the error is a free value), DOM for 0, 0. Cycles and frames are stated. -/
def Obligations.TrimControl : Prop := ∀ (n : Fin 4) (e : Ecc) (r : TrimRun) (w : Word) (s : State), e ≠ .uncorrectable →
  (∀ k y, s.AtInstr n r w 0x18 → s.coef n (s.bank n r.slot + fK w) = some k →
    y = (if s.stw n r.slot (fC w) < r.rd (fA w) then min (s.stw n r.slot (fC w) + (ldkValue k).1.natAbs) (r.rd (fA w))
      else max (s.stw n r.slot (fC w) - (ldkValue k).1.natAbs) (r.rd (fA w))) → ∃ t, exec (.trRamp n e) s = .next t
    ∧ t.stw n r.slot (fC w) = y ∧ s.RanFlag n (r.wr (fD w) y) 3 0 (ldkValue k).2 [Adr.TRIM_ST n (16 * r.slot + fC w)] t)
  ∧ (∀ (kp ki : Coef) (p m i : Int × Bool) (op : Nat) (c : Instr), (op = 0x19 ∧ c = .trPi n e) ∨ (op = 0x1A ∧ c = .trPit n e ∧ (s.engine n).tuner = none) →
    s.AtInstr n r w op → s.coef n (s.bank n r.slot + fK w) = some kp → s.coef n (s.bank n r.slot + (fK w + 1)) = some ki →
    p = satQ (r.rd (fA w) * kp.1) kp.2 → m = satQ (r.rd (fA w) * ki.1) ki.2 → i = satQ (s.stw n r.slot (fC w) + m.1) 0 →
    (r.rd (fB w + 1) ≤ p.1 + i.1 → p.1 + i.1 ≤ r.rd (fB w) → r.rd (fB w + 1) ≤ i.1 → i.1 ≤ r.rd (fB w) → ∃ t, exec c s = .next t
      ∧ t.stw n r.slot (fC w) = i.1
      ∧ s.RanFlag n (r.wr (fD w) (p.1 + i.1)) 6 0 (p.2 || m.2 || i.2) [Adr.TRIM_ST n (16 * r.slot + fC w)] t)
    ∧ (r.rd (fB w) < p.1 + i.1 → p.1 + i.1 ≤ 2147483647 → 0 < r.rd (fA w) → r.rd (fB w) ≤ p.1 + s.stw n r.slot (fC w) →
      p.1 + s.stw n r.slot (fC w) ≤ 2147483647 → r.rd (fB w + 1) ≤ s.stw n r.slot (fC w) → s.stw n r.slot (fC w) ≤ r.rd (fB w) →
      r.rd (fB w + 1) ≤ r.rd (fB w) → ∃ t, exec c s = .next t
      ∧ s.RanFlag n (r.wr (fD w) (r.rd (fB w))) 6 0 (p.2 || m.2 || i.2) [] t))
  ∧ (∀ b0 b1 b2 a1 a2 : Coef, s.AtInstr n r w 0x1B → fC w < 15 → s.coef n (s.bank n r.slot + (fK w + 0)) = some b0 →
    s.coef n (s.bank n r.slot + (fK w + 1)) = some b1 → s.coef n (s.bank n r.slot + (fK w + 2)) = some b2 →
    s.coef n (s.bank n r.slot + (fK w + 3)) = some a1 → s.coef n (s.bank n r.slot + (fK w + 4)) = some a2 → ∃ t, exec (.trBiq n e) s = .next t
      ∧ t.stw n r.slot (fC w) = (biquad (r.rd (fA w)) (s.stw n r.slot (fC w)) (s.stw n r.slot (fC w + 1)) b0 b1 b2 a1 a2).2.1
      ∧ t.stw n r.slot (fC w + 1) = (biquad (r.rd (fA w)) (s.stw n r.slot (fC w)) (s.stw n r.slot (fC w + 1)) b0 b1 b2 a1 a2).2.2.1
      ∧ s.RanOn n (r.wr (fD w) (biquad (r.rd (fA w)) (s.stw n r.slot (fC w)) (s.stw n r.slot (fC w + 1)) b0 b1 b2 a1 a2).1) 8
          [Adr.TRIM_CFLAG n r.slot, Adr.TRIM_ST n (16 * r.slot + fC w), Adr.TRIM_ST n (16 * r.slot + (fC w + 1))] t
      ∧ ∀ b, 2 ≤ b → t.flag (Adr.TRIM_CFLAG n r.slot) b = s.flag (Adr.TRIM_CFLAG n r.slot) b)
  ∧ (s.AtInstr n r w 0x26 → 0 ≤ r.rd (fA w) → ∃ t, exec (.trSqrt n e) s = .next t
    ∧ s.RanOn n (r.wr (fD w) (rootRound ((r.rd (fA w)).toNat * 2 ^ 31))) 18 [] t)
  ∧ (s.AtInstr n r w 0x26 → r.rd (fA w) < 0 → ∃ t, exec (.trSqrt n e) s = .next t ∧ s.RanFlag n (r.wr (fD w) 0) 18 3 true [] t)
  ∧ (s.AtInstr n r w 0x27 → r.rd (fB w) = 0 → ∃ t, exec (.trDiv n e) s = .next t
    ∧ s.RanFlag n (r.wr (fD w) (if 0 ≤ r.rd (fA w) then 2147483647 else -2147483648)) 34 2 true [] t)
  ∧ (∀ p q d : Int, s.AtInstr n r w 0x27 → r.rd (fB w) ≠ 0 → p = (if r.rd (fB w) < 0 then -r.rd (fA w) else r.rd (fA w)) →
    d = (r.rd (fB w)).natAbs → 2 * q * d ≤ 2 * (p * 2 ^ 31) + d → 2 * (p * 2 ^ 31) + d < 2 * (q + 1) * d →
    ∃ t, exec (.trDiv n e) s = .next t ∧ s.RanFlag n (r.wr (fD w) (max (-2147483648) (min q 2147483647))) 34 0
      (decide (d < p) || decide (p < -d)) [] t)
  ∧ (s.AtInstr n r w 0x25 → r.rd (fA w) = 0 → r.rd (fB w) = 0 → ∃ t, exec (.trAtan2 n e) s = .next t
    ∧ s.RanFlag n (r.wr (fD w) 0) 24 3 true [] t)
  ∧ (s.AtInstr n r w 0x25 → (r.rd (fA w) ≠ 0 ∨ r.rd (fB w) ≠ 0) → ∃ t, ∃ x : Int, exec (.trAtan2 n e) s = .next t
    ∧ (x - turnAtan2 (r.rd (fA w)) (r.rd (fB w))).natAbs ≤ 1000 ∧ s.RanOn n (r.wr (fD w) x) 24 [] t)

/-- Trim: Clarke, Park, inverse Park, space-vector modulation and sine/cosine. (R173, R174) Every result lies within 2^-22 of full scale of the exact
value, limited to its range, whatever the free error is (assumption 36), SAT follows the exact values, the end points of SINCOS are exact, and the
duties of SVM lie in 0 to 1; cycles and frames are stated. -/
def Obligations.TrimTransforms : Prop := ∀ (n : Fin 4) (e : Ecc) (r : TrimRun) (w : Word) (s : State), e ≠ .uncorrectable →
  (s.AtInstr n r w 0x20 → ∃ t, ∃ b : Int, exec (.trClarke n e) s = .next t ∧ NearTo b ((r.rd (fA w) + 2 * r.rd (fB w)) * invRoot3)
    ∧ s.RanFlag n ((r.wr (fD w) (r.rd (fA w))).wr (fD w + 1) b) 3 0 (satQ ((r.rd (fA w) + 2 * r.rd (fB w)) * invRoot3) 64).2 [] t)
  ∧ (∀ (x : Nat) (vd vq : Int), s.AtInstr n r w 0x21 → x = (wInt (r.rd (fB w))).toNat →
    vd = r.rd (fA w) * turnCos x + r.rd (fA w + 1) * turnSin x → vq = r.rd (fA w + 1) * turnCos x - r.rd (fA w) * turnSin x →
    ∃ t, ∃ d q : Int, exec (.trPark n e) s = .next t ∧ NearTo d vd ∧ NearTo q vq
      ∧ s.RanFlag n ((r.wr (fD w) d).wr (fD w + 1) q) 6 0 ((satQ vd 64).2 || (satQ vq 64).2) [] t)
  ∧ (∀ (x : Nat) (va vb : Int), s.AtInstr n r w 0x22 → x = (wInt (r.rd (fB w))).toNat →
    va = r.rd (fA w) * turnCos x - r.rd (fA w + 1) * turnSin x → vb = r.rd (fA w) * turnSin x + r.rd (fA w + 1) * turnCos x →
    ∃ t, ∃ a b : Int, exec (.trIpark n e) s = .next t ∧ NearTo a va ∧ NearTo b vb
      ∧ s.RanFlag n ((r.wr (fD w) a).wr (fD w + 1) b) 6 0 ((satQ va 64).2 || (satQ vb 64).2) [] t)
  ∧ (∀ a b z : Int, s.AtInstr n r w 0x23 → a = r.rd (fA w) → b = r.rd (fA w + 1) →
    z = svmZero (fC w) (a * 2 ^ 64) (-a * 2 ^ 63 + b * halfRoot3) (-a * 2 ^ 63 - b * halfRoot3) →
    ∃ t, ∃ x : Fin 3 → Int, exec (.trSvm n e) s = .next t
      ∧ (∀ k, 0 ≤ x k ∧ x k ≤ 2147483647)
      ∧ (x 0 - max 0 (min (roundShift (2 ^ 95 + 2 * (a * 2 ^ 64) + z) 65) 2147483647)).natAbs ≤ 510
      ∧ (x 1 - max 0 (min (roundShift (2 ^ 95 + 2 * (-a * 2 ^ 63 + b * halfRoot3) + z) 65) 2147483647)).natAbs ≤ 510
      ∧ (x 2 - max 0 (min (roundShift (2 ^ 95 + 2 * (-a * 2 ^ 63 - b * halfRoot3) + z) 65) 2147483647)).natAbs ≤ 510
      ∧ s.RanOn n (((r.wr (fD w) (x 0)).wr (fD w + 1) (x 1)).wr (fD w + 2) (x 2)) 8 [Adr.TRIM_CFLAG n r.slot] t
      ∧ ∀ f, 1 ≤ f → t.flag (Adr.TRIM_CFLAG n r.slot) f = s.flag (Adr.TRIM_CFLAG n r.slot) f)
  ∧ (∀ x : Nat, s.AtInstr n r w 0x24 → x = (wInt (r.rd (fA w))).toNat → ∃ t, ∃ a b : Int, exec (.trSincos n e) s = .next t
    ∧ (x = 2 ^ 30 → a = 2147483647) ∧ (x = 0 → b = 2147483647)
    ∧ (x ≠ 2 ^ 30 → NearTo a (turnSin x * 2 ^ 31)) ∧ (x ≠ 0 → NearTo b (turnCos x * 2 ^ 31))
    ∧ s.RanOn n ((r.wr (fD w) a).wr (fD w + 1) b) 5 [] t)

/-- Trim: ECC faults, the program's end, engines that do not run, and branches. (R172, R187) For every trim row: an uncorrectable ECC error ends the run
with fault 1 of the context, which is disabled; an engine at another instruction or at none does nothing; running past the program faults with 2; B
moves on by one where its condition fails and to its target, with two cycles, where it holds and the target lies inside the program. -/
def Obligations.TrimSequencing : Prop := ∀ (n : Fin 4) (r : TrimRun) (w : Word) (s : State),
  (∀ op c, (op, c) ∈ trimRows n .uncorrectable → s.Stands n r w op → ∃ t, exec c s = .next t ∧ (t.engine n).run = none
    ∧ t.fld (Adr.TRIM_CSTAT n r.slot) 27 24 = 1 ∧ t.cen n r.slot = false ∧ (t.ctx (8 * n + r.slot)).accepts = false
    ∧ t.flag (Adr.PFAULT (Pg.TRIM n)) r.slot = true ∧ t.samples = s.samples ∧ t.pwms = s.pwms ∧ s.MemSame t)
  ∧ (∀ op c e, (op, c) ∈ trimRows n e → (s.engine n).run = some r → fOp (s.mword (progAddr n r.pc)) ≠ op → ∃ t, exec c s = .next t
    ∧ t.engines = s.engines ∧ s.KeepsBut [] t)
  ∧ (∀ op c e, (op, c) ∈ trimRows n e → (s.engine n).run = none → ∃ t, exec c s = .next t ∧ t.engines = s.engines ∧ s.KeepsBut [] t)
  ∧ (s.Stands n r w 0x08 → r.pc + 1 = s.progEnd n r.slot → ∃ t, exec (.trMov n .ok) s = .next t ∧ (t.engine n).run = none
      ∧ t.fld (Adr.TRIM_CSTAT n r.slot) 27 24 = 2 ∧ t.cen n r.slot = false ∧ t.flag (Adr.PFAULT (Pg.TRIM n)) r.slot = true)
  ∧ (∀ e, e ≠ .uncorrectable → s.AtInstr n r w 0x30 → s.condHolds n r w = false → ∃ t, exec (.trB n e) s = .next t ∧ s.RanOn n r 1 [] t)
  ∧ (∀ (e : Ecc) (p : Nat), e ≠ .uncorrectable → s.Stands n r w 0x30 → s.condHolds n r w = true →
    (p : Int) = r.pc + 1 + signed 12 (bits w 11 0) → s.fld (Adr.TRIM_CPROG n r.slot) 11 0 ≤ p → p < s.progEnd n r.slot →
    ∃ t, exec (.trB n e) s = .next t ∧ (t.engine n).run = some { r with pc := p, cyc := r.cyc + 2 } ∧ s.KeepsBut [Adr.TRIM_ECCCNT n] t)

/-- How a trim run begins and ends, and the cut of the budget unit. (R112, R113, R168, R178, R179, R181, R184, R188, R195) A run starts for the lowest
pending context with cleared registers and the sampled set points; END and ENDT publish the staged outputs with the trigger's time, ENDT also flags
and trips; END with a PWM unit commits the compare set; a set-point target gets its word; ENDN publishes nothing; a run at its budget is cut with its
events and publishes nothing, one below is not. -/
def Obligations.TrimRuns : Prop := ∀ (n : Fin 4) (i : Fin 8) (e : Ecc) (r : TrimRun) (w : Word) (s : State), e ≠ .uncorrectable →
  (s.pageOn (Pg.TRIM n) = true → (s.engine n).run = none → (s.engine n).tuner = none →
    lowestBit (s.reg (Adr.TRIM_ESTAT n) >>> 8) 8 = some i.val → s.flag (Adr.TRIM_RAMPCFG n i) 31 = false →
    ∃ t q, exec (.trimRunStart n e) s = .next t ∧ (t.engine n).run = some q ∧ q.slot = i.val ∧ q.pc = s.fld (Adr.TRIM_CPROG n i) 11 0
      ∧ q.cyc = 0 ∧ q.d = [] ∧ q.a0 = 0 ∧ q.a1 = 0 ∧ q.written = [] ∧ q.trigTime = (s.ctx (8 * n + i)).pendTime
      ∧ q.setp = (List.range 4).map (fun j => s.reg (Adr.TRIM_SETP0 n i + 4 * j)) ∧ t.ctxPend n i = false
      ∧ t.flag (Adr.TRIM_CSTAT n i) 16 = true ∧ t.flag (Adr.TRIM_CBSEL n i) 8 = s.flag (Adr.TRIM_CBSEL n i) 0
      ∧ t.reg (Adr.TRIM_CRAMP n i) = s.reg (Adr.TRIM_SETP0 n i) ∧ t.fld (Adr.TRIM_ESTAT n) 7 0 = 8 + i.val
      ∧ (∀ j : Fin 8, t.flag (Adr.TRIM_ESTAT n) (8 + j) = (decide (j ≠ i) && s.ctxPend n j))
      ∧ s.KeepsBut [Adr.TRIM_CSTAT n i, Adr.TRIM_CBSEL n i, Adr.TRIM_CRAMP n i, Adr.TRIM_ESTAT n, Adr.TRIM_ECCCNT n, Adr.TSCH_LAT (8 * n + i)] t)
  ∧ (∀ v c, v = 0 ∧ c = .trEnd n e ∨ v = 2 ∧ c = .trEndt n e → s.Stands n r w 0 → bits w 1 0 = v →
    s.flag (Adr.TRIM_CCFG n r.slot) 20 = false → s.flag (Adr.TRIM_CCFG n r.slot) 21 = false →
    (∀ j : Fin 4, bit (s.sptgt (8 * n + r.slot) j) 31 = false) → s.pageOn (Pg.TRIM n) = true → ∃ t, exec c s = .next t
      ∧ (t.engine n).run = none ∧ t.flag (Adr.TRIM_CSTAT n r.slot) 16 = false ∧ t.fld (Adr.TRIM_CSTAT n r.slot) 13 0 = min (r.cyc + 1) 16383
      ∧ (∀ j : Fin 4, 0x20 + j.val ∈ r.written → t.word (0x100 + 4 * (8 * n + r.slot) + j) =
          ⟨Store.get (fun _ => 0#32) r.staged (0x20 + j), true, r.trigTime⟩)
      ∧ (∀ k, (∀ j : Fin 4, 0x20 + j.val ∈ r.written → k ≠ 0x100 + 4 * (8 * n + r.slot) + j) → t.word k = s.word k)
      ∧ t.flag (Adr.PEVT (Pg.TRIM n)) r.slot = true ∧ t.pwms = s.pwms
      ∧ (v = 2 → t.flag (Adr.TRIM_CFLAG n r.slot) 7 = true ∧ (s.ctxSafe n r.slot = true → bit t.shroud.trips (8 * n + r.slot) = true))
      ∧ s.KeepsBut ([Adr.TRIM_CSTAT n r.slot, Adr.TRIM_ESTAT n, Adr.TRIM_ECCCNT n, Adr.TSCH_LAT (8 * n + r.slot), Adr.PEVT (Pg.TRIM n)]
          ++ if v = 2 then [Adr.TRIM_CFLAG n r.slot] else []) t)
  ∧ (s.Stands n r w 0 → bits w 1 0 = 0 → s.flag (Adr.TRIM_CCFG n r.slot) 20 = true → s.flag (Adr.TRIM_CCFG n r.slot) 21 = false →
    (r.written.any fun k => decide (k < 8)) = true → (∀ j : Fin 4, bit (s.sptgt (8 * n + r.slot) j) 31 = false) → ∃ t, exec (.trEnd n e) s = .next t
      ∧ (t.pwm (s.fld (Adr.TRIM_CCFG n r.slot) 15 12)).sets = (s.now, (List.range 8).map fun k => if r.written.contains k then
          Store.get (fun _ => 0#32) r.staged k else nthD 0#32 (s.pwm (s.fld (Adr.TRIM_CCFG n r.slot) 15 12)).last k)
            :: (s.pwm (s.fld (Adr.TRIM_CCFG n r.slot) 15 12)).sets
      ∧ ∀ u, u ≠ s.fld (Adr.TRIM_CCFG n r.slot) 15 12 → t.pwm u = s.pwm u)
  ∧ (∀ (m : Fin 4) (x : Fin 8) (k : Fin 3) (a : Nat), a = Adr.TRIM_SETP0 m x + 4 * (k.val + 1) → s.Stands n r w 0 → bits w 1 0 = 0 →
    s.flag (Adr.TRIM_CCFG n r.slot) 20 = false → s.flag (Adr.TRIM_CCFG n r.slot) 21 = false → s.pageOn (Pg.TRIM m) = true →
    bit (s.sptgt (8 * n + r.slot) 0) 31 = true → bits (s.sptgt (8 * n + r.slot) 0) 20 2 * 4 = a → 0x10 ∈ r.written →
    (∀ j : Fin 3, bit (s.sptgt (8 * n + r.slot) (j + 1)) 31 = false) → ∃ t, exec (.trEnd n e) s = .next t
      ∧ t.reg a = Store.get (fun _ => 0#32) r.staged 0x10
      ∧ s.KeepsBut [a, Adr.TRIM_CSTAT n r.slot, Adr.TRIM_ESTAT n, Adr.TRIM_ECCCNT n, Adr.TSCH_LAT (8 * n + r.slot), Adr.PEVT (Pg.TRIM n)] t)
  ∧ (s.Stands n r w 0 → bits w 1 0 = 1 → ∃ t, exec (.trEndn n e) s = .next t ∧ (t.engine n).run = none
    ∧ t.fld (Adr.TRIM_CSTAT n r.slot) 13 0 = min (r.cyc + 1) 16383 ∧ t.samples = s.samples ∧ t.pwms = s.pwms
    ∧ s.KeepsBut [Adr.TRIM_CSTAT n r.slot, Adr.TRIM_ESTAT n, Adr.TRIM_ECCCNT n, Adr.TSCH_LAT (8 * n + r.slot)] t)
  ∧ (∀ mis, (s.engine n).run = some r → r.slot < 8 → s.pageOn (Pg.TRIM n) = true → s.pageOn Pg.TBU = true →
    mis = true ∨ s.fld (Adr.TRIM_CBUDGET n r.slot) 13 0 ≤ r.cyc → ∃ t, exec (.trimBudgetCut n mis) s = .next t ∧ (t.engine n).run = none
      ∧ t.flag Adr.TBU_TRIMOVR (8 * n + r.slot) = true ∧ t.flag (Adr.PEVT (Pg.TRIM n)) (8 + r.slot) = true
      ∧ t.flag (Adr.PEVT Pg.TBU) (if s.ctxSafe n r.slot then 3 else 2) = true ∧ (mis = true → t.flag (Adr.PEVT Pg.TBU) 6 = true)
      ∧ t.samples = s.samples ∧ t.pwms = s.pwms ∧ s.KeepsBut [Adr.TRIM_CSTAT n r.slot, Adr.TRIM_ESTAT n, Adr.TSCH_LAT (8 * n + r.slot),
          Adr.TBU_TRIMOVR, Adr.PEVT (Pg.TRIM n), Adr.PEVT Pg.TBU] t)
  ∧ ((s.engine n).run = some r → r.cyc < s.fld (Adr.TRIM_CBUDGET n r.slot) 13 0 → ∃ t, exec (.trimBudgetCut n false) s = .next t
    ∧ t.engines = s.engines ∧ s.KeepsBut [] t)

/-- Trim contexts, their watchdogs and memories, and the tuner's commands. (R180, R182, R183, R187, R188, R189, R191, R194, R197) Enabling checks and
starts the scan or reports the failing check; the scan's end accepts or refuses the program; disabling withdraws the trigger and lets a run end; the
watchdog of a safety context counts an overrun for Shroud; the owner writes program words and coefficients, refused on running programs and fixed
coefficients. A tune starts only in COMMISSION on a context that allows it, else TSTAT shows the reason; abort and time-out end it with 7 and 3 at the
next start; the latency records clear. -/
def Obligations.TrimContexts : Prop :=
  (∀ (n : Fin 4) (i : Fin 8) (port : Port) (s : State),
  (s.Owns port (Pg.TRIM n) → s.refusalOf port (Adr.TRIM_CCTRL n i) .plain (s.withBits (Adr.TRIM_CCTRL n i) 1#32) = none → s.cen n i = false →
    (s.enableCheck n i = 0 → ∃ t, exec (.contextEnable port n i) s = .next t ∧ (t.port port).resp = .ok [] ∧ t.cen n i = true
      ∧ t.flag (Adr.TRIM_CSTAT n i) 19 = true ∧ t.fld (Adr.TRIM_CSTAT n i) 31 28 = 0
      ∧ s.KeepsBut [Adr.TRIM_CCTRL n i, Adr.TRIM_CSTAT n i] t)
    ∧ (s.enableCheck n i ≠ 0 → ∃ t, exec (.contextEnable port n i) s = .next t ∧ (t.port port).resp = .ok [] ∧ t.cen n i = false
      ∧ t.fld (Adr.TRIM_CSTAT n i) 31 28 = s.enableCheck n i ∧ t.flag (Adr.PEVT (Pg.TRIM n)) (16 + i) = true
      ∧ (t.ctx (8 * n + i)).accepts = false ∧ s.KeepsBut [Adr.TRIM_CCTRL n i, Adr.TRIM_CSTAT n i, Adr.PEVT (Pg.TRIM n)] t))
  ∧ (s.flag (Adr.TRIM_CSTAT n i) 19 = true → s.scanProgram n i = true → ∃ t, exec (.enableScanDone n i) s = .next t
    ∧ t.flag (Adr.TRIM_CSTAT n i) 19 = false ∧ (t.ctx (8 * n + i)).accepts = true ∧ (t.ctx (8 * n + i)).wdg = true
    ∧ (s.flag (Adr.TRIM_RAMPCFG n i) 31 = false → t.reg (Adr.TRIM_CRAMP n i) = s.reg (Adr.TRIM_SETP0 n i))
    ∧ (∀ x, s.flag (Adr.TRIM_RAMPCFG n i) 31 = true → s.live (s.fld (Adr.TRIM_RAMPCFG n i) 9 0) s.now = x →
        t.reg (Adr.TRIM_CRAMP n i) = (if x.valid then x.value else 0#32)
          ∧ t.flag (Adr.TRIM_CFLAG n i) 6 = (s.flag (Adr.TRIM_CFLAG n i) 6 || !x.valid))
    ∧ s.KeepsBut [Adr.TRIM_CSTAT n i, Adr.TRIM_CRAMP n i, Adr.TRIM_CFLAG n i] t)
  ∧ (s.flag (Adr.TRIM_CSTAT n i) 19 = true → s.scanProgram n i = false → s.pageOn (Pg.TRIM n) = true →
    ∃ t, exec (.enableScanDone n i) s = .next t ∧ t.cen n i = false ∧ t.fld (Adr.TRIM_CSTAT n i) 31 28 = 9
      ∧ (t.ctx (8 * n + i)).accepts = false ∧ t.flag (Adr.PEVT (Pg.TRIM n)) (16 + i) = true
      ∧ s.KeepsBut [Adr.TRIM_CCTRL n i, Adr.TRIM_CSTAT n i, Adr.PEVT (Pg.TRIM n)] t)
  ∧ (s.Owns port (Pg.TRIM n) → s.refusalOf port (Adr.TRIM_CCTRL n i) .plain (s.withoutBits (Adr.TRIM_CCTRL n i) 1#32) = none →
    s.cen n i = true → ∃ t, exec (.contextDisable port n i) s = .next t ∧ (t.port port).resp = .ok [] ∧ t.cen n i = false
      ∧ t.ctxPend n i = false ∧ (t.ctx (8 * n + i)).accepts = false ∧ (t.engine n).run = (s.engine n).run
      ∧ ((t.ctx (8 * n + i)).closing = true ↔ ∃ r, (s.engine n).run = some r ∧ r.slot = i.val)
      ∧ s.KeepsBut [Adr.TRIM_CCTRL n i, Adr.TRIM_CSTAT n i, Adr.TRIM_ESTAT n] t)
  ∧ ((s.ctx (8 * n + i)).wdg = true → s.fld (Adr.TRIM_CBUDGET n i) 31 16 ≠ 0 → s.ctxSafe n i = true →
    ∃ t, exec (.contextWatchdog n i) s = .next t ∧ Store.get (fun _ => 0) t.shroud.overruns (8 * n + i)
      = min (Store.get (fun _ => 0) s.shroud.overruns (8 * n + i) + 1) 15 ∧ s.KeepsBut [] t)
  ∧ (s.ctxSafe n i = false → ∃ t, exec (.contextWatchdog n i) s = .next t ∧ t.shroud = s.shroud ∧ s.KeepsBut [] t)
  ∧ (∀ (p : Nat) (d : BitVec 64), p < 4096 → s.portLive port = true → s.ownerPort (Pg.TRIM n) port = true → s.progBusy n p = false →
    ∃ t, exec (.trimMemoryWrite port (w32 (progAddr n p)) false d) s = .next t ∧ (t.port port).resp = .ok []
      ∧ t.mword (progAddr n p) = d.truncate 32 ∧ s.RegsBut [] t
      ∧ ∀ a, a < progAddr n p ∨ progAddr n p + 4 ≤ a → t.byte a = s.byte a)
  ∧ (∀ (p : Nat) (d : BitVec 64), p < 4096 → s.portLive port = true → s.ownerPort (Pg.TRIM n) port = true → s.progBusy n p = true →
    ∃ t, exec (.trimMemoryWrite port (w32 (progAddr n p)) false d) s = .next t ∧ (t.port port).resp = .err 0 ∧ s.KeepsBut [] t)
  ∧ (∀ (k : Nat) (d : BitVec 64), k < 1024 → s.portLive port = true → s.ownerPort (Pg.TRIM n) port = true → s.fixLocked n k = false →
    ∃ t, exec (.trimMemoryWrite port (w32 (coefAddr n k)) true d) s = .next t ∧ (t.port port).resp = .ok []
      ∧ t.mword (coefAddr n k) = d.truncate 32 ∧ t.mword (coefAddr n k + 4) = w32 (min (bits ((d >>> 32).truncate 32) 5 0) 62)
      ∧ t.coef n k = some ((d.truncate 32).toInt, min (bits ((d >>> 32).truncate 32) 5 0) 62) ∧ s.RegsBut [] t
      ∧ ∀ a, a < coefAddr n k ∨ coefAddr n k + 8 ≤ a → t.byte a = s.byte a)
  ∧ (∀ (k : Nat) (d : BitVec 64), k < 1024 → s.portLive port = true → s.ownerPort (Pg.TRIM n) port = true → s.fixLocked n k = true →
    ∃ t, exec (.trimMemoryWrite port (w32 (coefAddr n k)) true d) s = .next t ∧ (t.port port).resp = .err 0 ∧ s.KeepsBut [] t))
  ∧ (∀ (n : Fin 4) (i : Fin 8) (rule : Fin 4) (port : Port) (s : State),
  (∀ w, w = w32 (rule.val * 256 + i.val * 16 + 1) → s.Owns port (Pg.TRIM n) → s.refusalOf port (Adr.TRIM_TCTRL n) .plain w = none →
    (s.fld Adr.SHRD_STATE 1 0 = 2 → (s.ctx (8 * n + i)).accepts = true → s.flag (Adr.TRIM_CCFG n i) 22 = true → (s.engine n).tuner = none →
      (rule.val = 3 → s.fld (Adr.TRIM_TCTRL n) 9 8 ≠ 3) → ∃ t u, exec (.tuneStart port n i rule) s = .next t ∧ (t.port port).resp = .ok [] ∧ t.reg (Adr.TRIM_TSTAT n) = 1#32
        ∧ (t.engine n).tuner = some u ∧ u.slot = i.val ∧ u.rule = min rule.val 2 ∧ u.y = none ∧ u.periods = [] ∧ u.failNext = 0
        ∧ s.KeepsBut [Adr.TRIM_TCTRL n, Adr.TRIM_TSTAT n] t)
    ∧ (s.fld Adr.SHRD_STATE 1 0 ≠ 2 → ∃ t, exec (.tuneStart port n i rule) s = .next t ∧ (t.port port).resp = .ok []
        ∧ t.fld (Adr.TRIM_TSTAT n) 1 0 = 3 ∧ t.fld (Adr.TRIM_TSTAT n) 7 4 = 1 ∧ t.engines = s.engines
        ∧ s.KeepsBut [Adr.TRIM_TCTRL n, Adr.TRIM_TSTAT n] t)
    ∧ (s.fld Adr.SHRD_STATE 1 0 = 2 → (s.ctx (8 * n + i)).accepts = false ∨ s.flag (Adr.TRIM_CCFG n i) 22 = false ∨ (s.engine n).tuner.isSome →
      ∃ t, exec (.tuneStart port n i rule) s = .next t ∧ (t.port port).resp = .ok []
        ∧ t.fld (Adr.TRIM_TSTAT n) 1 0 = 3 ∧ t.fld (Adr.TRIM_TSTAT n) 7 4 = 2 ∧ t.engines = s.engines
        ∧ s.KeepsBut [Adr.TRIM_TCTRL n, Adr.TRIM_TSTAT n] t))
  ∧ (∀ u, s.Owns port (Pg.TRIM n) → s.refusalOf port (Adr.TRIM_TCTRL n) .plain (s.withBits (Adr.TRIM_TCTRL n) 2#32) = none →
    (s.engine n).tuner = some u → u.failNext = 0 → ∃ t, exec (.tuneAbort port n) s = .next t ∧ (t.port port).resp = .ok []
      ∧ (t.engine n).tuner = some { u with failNext := 7 } ∧ s.KeepsBut [Adr.TRIM_TCTRL n] t)
  ∧ (∀ u, (s.engine n).tuner = some u → u.failNext = 0 → ∃ t, exec (.tuneTimeout n) s = .next t
    ∧ (t.engine n).tuner = some { u with failNext := 3 } ∧ s.KeepsBut [] t)
  ∧ (∀ u x, s.pageOn (Pg.TRIM n) = true → (s.engine n).run = none → (s.engine n).tuner = some u → u.slot = i.val → u.failNext = x → x ≠ 0 →
    x < 16 → lowestBit (s.reg (Adr.TRIM_ESTAT n) >>> 8) 8 = some i.val → ∃ q, exec (.trimRunStart n .ok) s = .next q ∧
    q.fld (Adr.TRIM_TSTAT n) 1 0 = 3 ∧ q.fld (Adr.TRIM_TSTAT n) 7 4 = x ∧ (q.engine n).tuner = none
      ∧ q.flag (Adr.PEVT (Pg.TRIM n)) (24 + i) = true)
  ∧ (s.Owns port Pg.TSCH → s.refusalOf port Adr.TSCH_CLR .plain 1#32 = none → ∃ t, exec (.latencyClear port) s = .next t
    ∧ (t.port port).resp = .ok [] ∧ (∀ c : Fin 32, t.reg (Adr.TSCH_LAT c) = 0#32) ∧ s.KeepsBut ((List.range 32).map Adr.TSCH_LAT) t))

/-- PWM units: load points, event generators, trips, set commits and the drive supply. (R11, R230, R231, R234, R235, R238) At a load point of a unit no
converter drives, the newest set at least 4 clocks old is loaded, or a late event is raised; an event generator raises its event and counts its
prescaler; an asynchronous trip sets TRIPPED, its event and the trip outputs; TRIPCLR asks for the clearing; SWCOMMIT adds the shadow set; the drive
supply's failure and return show in LVDRV. -/
def Obligations.PwmUnits : Prop := ∀ (u : Fin 16) (port : Port) (s : State),
  (∀ at_ ws rest, (s.pwm u).run = true → u.val ≠ s.dcdcUnit → (u.val < 7 ∨ 9 < u.val) → (∀ v : Nat, v < 16 → s.follows v u = false) →
    s.pageEn Pg.OBC = false → s.pwmTripped u = false → (s.pwm u).sets = (at_, ws) :: rest → at_ + 4 ≤ s.now → ws.length = 8 →
    ∃ t, exec (.loadPoint u false) s = .next t ∧ (∀ k : Fin 8, ws[k.val]? = some (t.reg (Adr.PWM_CMP u k))) ∧ t.pwmArmed u = true
      ∧ (t.pwm u).per = min 1048575 (max 64 (s.fld (Adr.PWM_PER u) 19 0)) ∧ (t.pwm u).count = 0
      ∧ s.KeepsBut (Adr.PWM_STAT u :: (List.range 8).map (Adr.PWM_CMP u)) t)
  ∧ ((s.pwm u).run = true → u.val ≠ s.dcdcUnit → (u.val < 7 ∨ 9 < u.val) → (∀ v : Nat, v < 16 → s.follows v u = false) →
    s.pageEn Pg.OBC = false → s.pwmTripped u = false → (s.pwm u).sets = [] → s.pwmArmed u = true → s.pageOn (Pg.PWM u) = true →
    ∃ t, exec (.loadPoint u false) s = .next t ∧ t.flag (Adr.PEVT (Pg.PWM u)) 2 = true ∧ s.KeepsBut [Adr.PEVT (Pg.PWM u)] t)
  ∧ (∀ g : Fin 2, s.flag (Adr.PWM_EG u g) 21 = true → s.pageEn (Pg.PWM u) = true → s.pageOn (Pg.PWM u) = true → (s.pwm u).run = true →
    Store.get (fun _ => 0) (s.pwm u).eg g = 0 → ∃ t, exec (.eventGenerator u g) s = .next t ∧ t.flag (Adr.PEVT (Pg.PWM u)) g = true
      ∧ Store.get (fun _ => 0) (t.pwm u).eg g = 1 % max (s.fld (Adr.PWM_EG u g) 31 24) 1 ∧ s.KeepsBut [Adr.PEVT (Pg.PWM u)] t)
  ∧ (s.flag (Adr.PWM_TRIPCFG u) 0 = true → s.tripA u = true → s.pwmTripped u = false → s.pageOn (Pg.PWM u) = true →
    ∃ t, exec (.asynchronousTrip u) s = .next t ∧ t.pwmTripped u = true ∧ t.flag (Adr.PEVT (Pg.PWM u)) 3 = true
      ∧ (s.boundGroup u = none → s.reg (Adr.PWM_TRIPOUT u) = 0#32 → (t.pwm u).out = 0) ∧ s.MemSame t)
  ∧ (s.Owns port (Pg.PWM u) → s.refusalOf port (Adr.PWM_TRIPCLR u) .plain 1#32 = none → s.pwmTripped u = true →
    ∃ t, exec (.tripclr port u) s = .next t ∧ (t.port port).resp = .ok [] ∧ t.pwm u = { s.pwm u with clr := true } ∧ s.KeepsBut [] t)
  ∧ (s.Owns port (Pg.PWM u) → s.refusalOf port (Adr.PWM_SWCOMMIT u) .plain 1#32 = none → ∃ t, exec (.swcommit port u) s = .next t
    ∧ (t.port port).resp = .ok []
    ∧ (t.pwm u).sets = (s.now, (List.range 8).map fun k => s.reg (Adr.PWM_SHD u k)) :: (s.pwm u).sets ∧ s.KeepsBut [] t)
  ∧ (∀ mv, s.pageOn Pg.LVDRV = true → mv < 8500 → ∃ t, exec (.srdSupplyFail mv) s = .next t ∧ t.flag Adr.LVDRV_STAT 0 = true
    ∧ t.flag (Adr.PEVT Pg.LVDRV) 0 = (s.flag (Adr.PEVT Pg.LVDRV) 0 || !s.flag Adr.LVDRV_STAT 0) ∧ t.lvdrv.srd = 0
    ∧ s.KeepsBut [Adr.LVDRV_STAT, Adr.PEVT Pg.LVDRV] t)
  ∧ (∀ mv, s.pageOn Pg.LVDRV = true → 9000 < mv → ∃ t, exec (.srdSupplyFail mv) s = .next t ∧ t.flag Adr.LVDRV_STAT 0 = false
    ∧ s.KeepsBut [Adr.LVDRV_STAT] t)

/-- What turns a gate on and off. (R155, R240, R248, R250) A rising command of a running, unlatched channel turns the gate on where its partner has been
low long enough and else waits; a falling one turns it off; a safe code sets path B and the safe output decides; the partner's confirmation ends the
wait; the profile's phases follow one another and note a missed comparison. That the row is the source unit's edge is the model's choice (assumption
31). -/
def Obligations.GatesFollow : Prop := ∀ (ch : Fin 36) (s : State),
  (s.groupBinds (groupOf ch) = true → pathRuns (s.group (groupOf ch)).pathA = true → s.groupLatch (groupOf ch) = false →
    s.pageEn (Pg.GGRP (groupOf ch)) = true → (s.chan ch).cmd = false → (s.chan ch).supply = true → (s.chan ch).uv = false →
    (s.chan ch).b = .run → s.ownLatch ch = false → s.phase ch = 0 → (s.chan ch).wait = false → ∃ t, exec (.gateCommandEdge ch true) s = .next t
      ∧ (t.chan ch).cmd = true ∧ t.flag (cstat ch) 10 = false
      ∧ (s.partnerLowLong ch = true → t.gateOn ch = true ∧ (t.chan ch).wait = false)
      ∧ (s.partnerLowLong ch = false → t.phase ch = 0 ∧ (t.chan ch).wait = true)
      ∧ (t.pwm (s.userUnit (groupOf ch))).out.testBit (posOf ch) = true ∧ s.KeepsBut [cstat ch] t)
  ∧ (s.groupBinds (groupOf ch) = true → pathRuns (s.group (groupOf ch)).pathA = true → s.groupLatch (groupOf ch) = false →
    s.pageEn (Pg.GGRP (groupOf ch)) = true → (s.chan ch).cmd = true → (s.chan ch).b = .run → s.gateOn ch = true →
    ∃ t, exec (.gateCommandEdge ch false) s = .next t ∧ (t.chan ch).cmd = false ∧ t.gateOn ch = false
      ∧ (t.pwm (s.userUnit (groupOf ch))).out.testBit (posOf ch) = false ∧ s.KeepsBut [cstat ch] t)
  ∧ (∀ code : LineCode, (s.chan ch).supply = true → (s.chan ch).uv = false → s.ownLatch ch = false → s.reefing ch = false →
    ∃ t, exec (.islandSafeCode ch code) s = .next t ∧ (t.chan ch).b = pathBOf code ∧ t.flag (cstat ch) 9 = (pathBOf code != .run)
      ∧ (code ≠ .run → s.safeOut ch (pathBOf code).sel = true → t.gateOn ch = true ∨ (t.chan ch).wait = true)
      ∧ (code ≠ .run → s.safeOut ch (pathBOf code).sel = false → t.gateOn ch = false ∧ (t.chan ch).wait = false)
      ∧ (∀ c : Fin 36, c ≠ ch → t.chan c = s.chan c) ∧ s.KeepsBut [cstat ch] t)
  ∧ ((s.chan ch).wait = true → s.partnerLow ch = true → s.reefing ch = false → ∃ t, exec (.partnerGateLowConfirmed ch) s = .next t
    ∧ t.gateOn ch = true ∧ (t.chan ch).wait = false ∧ s.KeepsBut [cstat ch] t)
  ∧ (∀ onTime, s.phase ch = 1 → ∃ t, exec (.profilePhaseEnd ch onTime) s = .next t
    ∧ t.phase ch = (if s.fld (Adr.GGRP_PROFON (groupOf ch) (posOf ch)) 31 24 = 0 then 3 else 2)
    ∧ t.flag (cflag ch) 0 = (s.flag (cflag ch) 0 || onTime) ∧ s.KeepsBut [cstat ch, cflag ch, Adr.PEVT (Pg.GGRP (groupOf ch))] t)
  ∧ (∀ onTime, s.phase ch = 2 → ∃ t, exec (.profilePhaseEnd ch onTime) s = .next t ∧ t.phase ch = 3
    ∧ t.flag (cflag ch) 1 = (s.flag (cflag ch) 1 || onTime) ∧ s.KeepsBut [cstat ch, cflag ch, Adr.PEVT (Pg.GGRP (groupOf ch))] t)
  ∧ (∀ onTime, s.phase ch = 4 → s.booster ch = false → s.fld (Adr.GGRP_PROFOFF (groupOf ch) (posOf ch)) 31 24 ≠ 0 →
    ∃ t, exec (.profilePhaseEnd ch onTime) s = .next t ∧ t.phase ch = 5
      ∧ t.flag (cflag ch) 0 = (s.flag (cflag ch) 0 || onTime) ∧ s.KeepsBut [cstat ch, cflag ch, Adr.PEVT (Pg.GGRP (groupOf ch))] t)
  ∧ (∀ onTime, s.phase ch = 5 → s.wantsOn ch = false → ∃ t, exec (.profilePhaseEnd ch onTime) s = .next t ∧ t.phase ch = 0
    ∧ t.flag (cstat ch) 10 = true ∧ (t.chan ch).confAt = s.now ∧ t.flag (cflag ch) 1 = (s.flag (cflag ch) 1 || onTime)
    ∧ s.KeepsBut [cstat ch, cflag ch, Adr.PEVT (Pg.GGRP (groupOf ch))] t)

/-- Gate faults, reef and recovery. (R242, R243, R244, R247, R249, R245, R246, R253) Desaturation, hand-shake time-out and link fault latch the channel
with their code, the group and PFAULT; a desaturation reefs every conducting channel of the group. The reef's second step leaves the channel off and
latched; GCLR clears the group's latch, or waits for the reef; undervoltage locks a channel out and returns with hysteresis; the temperature warning
follows its limit; a self-test starts on a disabled group and reports each channel in use. -/
def Obligations.GateFaults : Prop :=
  (∀ (ch : Fin 36) (s : State), s.ownLatch ch = false → (s.chan ch).hold = false →
  (s.gateOn ch = true → ∃ t, exec (.desaturation ch) s = .next t ∧ t.ownLatch ch = true ∧ t.fld (cstat ch) 8 6 = 1
    ∧ t.groupLatch (groupOf ch) = true ∧ t.flag (Adr.PFAULT (Pg.GGRP (groupOf ch))) (posOf ch) = true ∧ t.phase ch = 6
    ∧ (∀ c : Fin 36, groupOf c = groupOf ch → s.gateOn c = true → t.phase c = 6) ∧ s.MemSame t)
  ∧ ((s.chan ch).wait = true → ∃ t, exec (.handshakeTimeout ch) s = .next t ∧ t.ownLatch ch = true ∧ t.fld (cstat ch) 8 6 = 3
    ∧ t.groupLatch (groupOf ch) = true ∧ t.flag (Adr.PFAULT (Pg.GGRP (groupOf ch))) (posOf ch) = true ∧ s.MemSame t)
  ∧ ((s.chan ch).supply = true → ∃ t, exec (.linkFault ch) s = .next t ∧ t.ownLatch ch = true ∧ t.fld (cstat ch) 8 6 = 4
    ∧ (t.chan ch).link = true ∧ t.groupLatch (groupOf ch) = true
    ∧ t.flag (Adr.PFAULT (Pg.GGRP (groupOf ch))) (posOf ch) = true ∧ s.MemSame t))
  ∧ (∀ (ch : Fin 36) (g : Fin 6) (port : Port) (s : State),
  (s.reefing ch = true → (s.group (groupOf ch)).clr = false → s.ownLatch ch = true → s.fld (cstat ch) 8 6 = 1 → (s.chan ch).hold = false →
    ∃ t, exec (.reefStep2 ch) s = .next t ∧ t.phase ch = 0 ∧ (t.chan ch).confAt = s.now ∧ t.ownLatch ch = true ∧ s.MemSame t)
  ∧ (s.Owns port (Pg.GGRP g) → s.refusalOf port (Adr.GGRP_GCLR g) .plain 1#32 = none → s.groupLatch g = true →
    (∀ c ∈ chansOf g, s.reefing c = false) → ∃ t, exec (.gclr port g) s = .next t ∧ (t.port port).resp = .ok [] ∧ t.groupLatch g = false
      ∧ (∀ c ∈ chansOf g, (t.chan c).hold = true ∧ ((t.chan c).b = .run → t.gateOn c = false))
      ∧ s.KeepsBut (Adr.GGRP_GSTAT g :: (chansOf g).map cstat) t)
  ∧ (s.Owns port (Pg.GGRP g) → s.refusalOf port (Adr.GGRP_GCLR g) .plain 1#32 = none → s.groupLatch g = true →
    (∃ c ∈ chansOf g, s.reefing c = true) → ∃ t, exec (.gclr port g) s = .next t ∧ (t.port port).resp = .ok [] ∧ t.groupLatch g = true
      ∧ (t.group g).clr = true ∧ t.chans = s.chans ∧ s.KeepsBut [] t)
  ∧ (∀ mv, (s.chan ch).supply = true → (s.chan ch).uv = false → mv < 13000 → s.ownLatch ch = false → (s.group (groupOf ch)).clr = false →
    ∃ t, exec (.undervoltageLockout ch mv) s = .next t ∧ (t.chan ch).uv = true ∧ t.phase ch = 8 ∧ t.ownLatch ch = s.uvReported ch
      ∧ (s.uvReported ch = true → t.fld (cstat ch) 8 6 = 2 ∧ t.flag (Adr.PFAULT (Pg.GGRP (groupOf ch))) (posOf ch) = true)
      ∧ t.groupLatch (groupOf ch) = s.groupLatch (groupOf ch)
      ∧ s.KeepsBut [cstat ch, Adr.GGRP_GSTAT (groupOf ch), Adr.PFAULT (Pg.GGRP (groupOf ch)), Adr.PEVT (Pg.GGRP (groupOf ch))] t)
  ∧ (∀ mv, (s.chan ch).supply = true → (s.chan ch).uv = true → 13800 < mv → s.ownLatch ch = true →
    ∃ t, exec (.undervoltageLockout ch mv) s = .next t ∧ (t.chan ch).uv = false ∧ t.phase ch = 0 ∧ t.flag (cstat ch) 10 = true
      ∧ t.ownLatch ch = true ∧ s.KeepsBut [cstat ch] t)
  ∧ (∀ deg : Int, (s.chan ch).supply = true → ∃ t, exec (.islandOvertemperature ch deg) s = .next t
    ∧ t.flag (cstat ch) 11 = decide ((s.fld (Adr.GGRP_MISC (groupOf ch) (posOf ch)) 15 8 : Int) ≤ deg)
    ∧ t.flag (cflag ch) 2 = (s.flag (cflag ch) 2 || decide ((s.fld (Adr.GGRP_MISC (groupOf ch) (posOf ch)) 15 8 : Int) ≤ deg))
    ∧ s.KeepsBut [cstat ch, cflag ch, Adr.PEVT (Pg.GGRP (groupOf ch))] t)
  ∧ (s.Owns port (Pg.GGRP g) → s.refusalOf port (Adr.GGRP_STCTRL g) .plain 1#32 = none → s.pageEn (Pg.GGRP g) = false →
    s.domOn (islandDom g) = true → ∃ t, exec (.selftestRun port g) s = .next t ∧ (t.port port).resp = .ok []
      ∧ t.flag (Adr.GGRP_GSTAT g) 7 = true ∧ t.reg (Adr.GGRP_STRES g) = 0#32 ∧ s.KeepsBut [Adr.GGRP_GSTAT g, Adr.GGRP_STRES g] t)
  ∧ (∀ fails : BitVec 8, s.flag (Adr.GGRP_GSTAT g) 7 = true → ∃ t, exec (.selftestDone g fails) s = .next t
    ∧ t.flag (Adr.GGRP_GSTAT g) 7 = false
    ∧ (∀ k : Fin 8, t.flag (Adr.GGRP_STRES g) k = (decide (k.val < groupSize g) && !s.unusedChan (groupBase g + k) && !fails.getLsbD k)
        ∧ t.flag (Adr.GGRP_STRES g) (8 + k) = (decide (k.val < groupSize g) && !s.unusedChan (groupBase g + k) && fails.getLsbD k))
    ∧ (fails = 0#8 → (t.group g).warmDue = false ∧ t.reg (Adr.PFAULT (Pg.GGRP g)) = s.reg (Adr.PFAULT (Pg.GGRP g)))
    ∧ (∀ k : Fin 8, k.val < groupSize g → s.unusedChan (groupBase g + k) = false → fails.getLsbD k = true →
        t.flag (Adr.PFAULT (Pg.GGRP g)) 8 = true)
    ∧ s.KeepsBut [Adr.GGRP_GSTAT g, Adr.GGRP_STRES g, Adr.PFAULT (Pg.GGRP g), Adr.PEVT (Pg.GGRP g), Adr.SYS_BOOTSTAT, Adr.PEVT Pg.SYS] t))

/-- ADC sequences, demodulators, short-circuit paths and housekeeping. (R176, R199, R200, R201, R203, R206, R207, R208, R219, R220, R221, R222, R268) A
sequence start, each slot's result with its stamp 96 ticks before, the sequence's end; an HV channel's scaled word; a demodulator window's word and
stamp at its middle; a stuck bit or missing clock faults the channel and invalidates its word; a short-circuit path trips the units it is routed to
and releases within its band. A housekeeping round publishes temperatures (with the plausibility test of neighbours), supplies and NTC limits; the 5 V
sensor supplies switch off and retry. -/
def Obligations.Conversions : Prop :=
  (∀ (port : Port) (n : Fin 8) (d : Fin 24) (s : State),
  (s.Owns port (Pg.ADC n) → s.refusalOf port (Adr.ADC_SEQSTART n) .plain 1#32 = none → s.pageEn (Pg.ADC n) = true →
    (s.adcBusy n = false → ∃ t, exec (.adcSeqstartGo port n) s = .next t ∧ (t.port port).resp = .ok [] ∧ t.reg (Adr.ADC_SEQSTAT n) = 0x10#32
      ∧ (t.adc n).last = s.fld (Adr.ADC_SEQCFG n) 3 0 ∧ (t.adc n).slots = (List.range 16).map (fun m => s.reg (Adr.ADC_SLOT n m))
      ∧ s.KeepsBut [Adr.ADC_SEQSTAT n] t)
    ∧ (s.adcBusy n = true → ∃ t, exec (.adcSeqstartGo port n) s = .next t ∧ (t.port port).resp = .ok [] ∧ t.flag (Adr.PEVT (Pg.ADC n)) 1 = true
      ∧ t.adcs = s.adcs ∧ s.KeepsBut [Adr.PEVT (Pg.ADC n)] t))
  ∧ (∀ (code : BitVec 14) (m i : Nat), s.adcBusy n = true → s.fld (Adr.ADC_SEQSTAT n) 3 0 = m →
    bits (nthD 0#32 (s.adc n).slots m) 5 0 = i → i < 24 → s.pageOn (Pg.ADC n) = true → ∃ t, exec (.adcSlotDone n code) s = .next t
      ∧ t.word (adcSel n m) = ⟨w32 (code.toNat * 2 ^ 17), true, s.now - 96⟩ ∧ (∀ x, x ≠ adcSel n m → t.word x = s.word x)
      ∧ t.reg (Adr.ADC_RES n m) = w32 (2 ^ 31 + code.toNat)
      ∧ (m < (s.adc n).last → m < 15 → t.fld (Adr.ADC_SEQSTAT n) 3 0 = m + 1 ∧ t.adcBusy n = true ∧ s.KeepsBut [Adr.ADC_RES n m, Adr.ADC_SEQSTAT n] t)
      ∧ ((s.adc n).last ≤ m → t.reg (Adr.ADC_SEQSTAT n) = 0#32 ∧ t.flag (Adr.PEVT (Pg.ADC n)) 0 = true
          ∧ s.KeepsBut [Adr.ADC_RES n m, Adr.ADC_SEQSTAT n, Adr.PEVT (Pg.ADC n)] t))
  ∧ (∀ (code : BitVec 14) (m : Nat) (h : Fin 7), s.adcBusy n = true → s.fld (Adr.ADC_SEQSTAT n) 3 0 = m →
    bits (nthD 0#32 (s.adc n).slots m) 5 0 = 24 + h.val → s.hvsRuns h = true → (s.word (0xA0 + h)).time ≠ s.now - 96 →
    ∃ t, exec (.adcSlotDone n code) s = .next t ∧ t.word (0xA0 + h) = ⟨hvsWord (s.reg (Adr.HVS_GAIN h)) (s.reg (Adr.HVS_OFF h)) h code.toNat, true, s.now - 96⟩
      ∧ t.word (adcSel n m) = ⟨w32 (code.toNat * 2 ^ 17), true, s.now - 96⟩ ∧ t.flag Adr.HVS_STAT (8 + h) = true
      ∧ s.KeepsBut [Adr.ADC_RES n m, Adr.ADC_SEQSTAT n, Adr.PEVT (Pg.ADC n), Adr.HVS_STAT] t)
  ∧ (∀ sum x, s.pageEn (Pg.SDM d) = true → s.pageOn (Pg.SDM d) = true → s.flag (Adr.SDM_STAT d) 2 = false → s.flag (Adr.SDM_STAT d) 1 = false →
    (s.flag (Adr.SDM_CFG d) 18 = true → (s.sdm d).window.isSome = true) → x = s.sdmStart d + s.sdmSpan d / 2 →
    ∃ t, exec (.sdmWindowEnd d sum) s = .next t
      ∧ t.word d = ⟨sdmWord (s.sdmN d) (s.sdmK d) (min sum (s.sdmN d ^ s.sdmK d)), decide ((s.sdm d).clean ≤ s.sdmStart d), x⟩
      ∧ t.reg (Adr.SDM_RES d) = (t.word d).value ∧ t.reg (Adr.SDM_RESTL d) = w32 x ∧ (t.sdm d).window = none
      ∧ t.flag (Adr.PEVT (Pg.SDM d)) 0 = true
      ∧ s.KeepsBut [Adr.SDM_RES d, Adr.SDM_RESTL d, Adr.SDM_STAT d, Adr.PEVT (Pg.SDM d)] t)
  ∧ (∀ stuck, s.pageEn (Pg.SDM d) = true → s.pageOn (Pg.SDM d) = true → s.flag (Adr.SDM_STAT d) (1 + stuck.toNat) = false →
    (stuck = true ∨ (s.mclk d).2 = false) → ∃ t, exec (.sdmFault d stuck) s = .next t ∧ t.flag (Adr.SDM_STAT d) (1 + stuck.toNat) = true
      ∧ t.flag (Adr.PFAULT (Pg.SDM d)) stuck.toNat = true ∧ (t.word d).valid = false ∧ t.flag (Adr.SDM_STAT d) 0 = false
      ∧ (t.sdm d).clean = s.now ∧ t.flag (Adr.PEVT (Pg.SDM d)) 3 = true
      ∧ s.KeepsBut [Adr.SDM_STAT d, Adr.PFAULT (Pg.SDM d), Adr.PEVT (Pg.SDM d)] t)
  ∧ (∀ count, s.scdRuns d = true → s.pageOn (Pg.SDM d) = true → s.flag (Adr.SDM_STAT d) 3 = false →
    s.fld (Adr.SDM_SCD d) 21 16 < count ∨ count < s.fld (Adr.SDM_SCD d) 13 8 → ∃ t, exec (.scdTrip d count) s = .next t
      ∧ t.flag (Adr.SDM_STAT d) 3 = true ∧ t.flag (Adr.PEVT (Pg.SDM d)) 1 = true
      ∧ (∀ u : Fin 16, s.flag (Adr.SDM_SCDROUTE d) u = true → s.flag (Adr.PWM_TRIPCFG u) 0 = true → t.pwmTripped u = true)
      ∧ s.KeepsBut (Adr.SDM_STAT d :: Adr.PEVT (Pg.SDM d) :: tripRegs) t)
  ∧ (∀ count, count ≤ s.fld (Adr.SDM_SCD d) 21 16 → s.fld (Adr.SDM_SCD d) 13 8 ≤ count → ∃ t, exec (.scdRelease d count) s = .next t
    ∧ t.flag (Adr.SDM_STAT d) 3 = false ∧ s.KeepsBut [Adr.SDM_STAT d] t))
  ∧ (∀ (r : HkReadings) (j : Fin 9) (q : Fin 44) (s : State), s.pageOn Pg.HK = true →
  (∃ t, exec (.housekeepingRound r) s = .next t ∧ t.fld Adr.HK_RSTAT 15 0 = (s.fld Adr.HK_RSTAT 15 0 + 1) % 65536
    ∧ (s.sensorValue r q = none → t.flag (Adr.HK_TEMP q) 31 = false)
    ∧ (∀ v, s.sensorValue r q = some v → t.flag (Adr.HK_TEMP q) 31 = true ∧ t.fld (Adr.HK_TEMP q) 15 0 = (v % 65536).toNat)
    ∧ (∀ v m, s.sensorValue r q = some v → median2 ((neighbours q).filterMap (s.sensorValue r)) = some m →
        2 * 16 * (s.fld Adr.HK_RCFG 15 8 : Int) < |2 * v - m| → 2 ≤ (s.sensor q).out → t.flag (Adr.HK_TEMP q) 30 = true)
    ∧ (∀ v m, s.sensorValue r q = some v → median2 ((neighbours q).filterMap (s.sensorValue r)) = some m →
        |2 * v - m| ≤ 2 * 16 * (s.fld Adr.HK_RCFG 15 8 : Int) → 2 ≤ (s.sensor q).within → t.flag (Adr.HK_TEMP q) 30 = false)
    ∧ (∀ k : Fin 12, t.fld (Adr.HK_SUP k) 15 0 = min (nthD 0 r.supMv k) 65535 ∧ t.flag (Adr.HK_SUP k) 31 = true
        ∧ t.flag (Adr.HK_SUP k) 18 = s.flag (Adr.HK_SUP k) 18)
    ∧ (∀ k : Fin 8, t.flag (Adr.HK_NTC k) 17 = decide (4950 < nthD 0 r.ntcMv k) ∧ t.flag (Adr.HK_NTC k) 18 = decide (nthD 0 r.ntcMv k < 50))
    ∧ s.KeepsBut (Adr.HK_RSTAT :: Adr.PSTAT Pg.HK :: (List.range 44).map Adr.HK_TEMP ++ (List.range 8).map Adr.HK_NTC
        ++ (List.range 12).map Adr.HK_SUP ++ twlStats) t)
  ∧ (∃ t, exec (.sup5SwitchOff j) s = .next t ∧ t.fld (Adr.HK_SUP j) 18 17 = 3 ∧ t.flag (Adr.PSTAT Pg.HK) 0 = true
    ∧ (∀ n : Fin 4, n.val = j.val → t.flag (Adr.TWL_STAT n) 11 = true) ∧ s.KeepsBut (Adr.HK_SUP j :: Adr.PSTAT Pg.HK :: twlStats) t)
  ∧ (s.flag (Adr.HK_SUP j) 18 = true → ∃ t, exec (.sup5Retry j true) s = .next t ∧ t.fld (Adr.HK_SUP j) 18 17 = 0
    ∧ (t.flag (Adr.PSTAT Pg.HK) 0 = true ↔ ∃ k : Fin 9, k ≠ j ∧ s.flag (Adr.HK_SUP k) 18 = true)
    ∧ (∀ n : Fin 4, n.val = j.val → t.flag (Adr.TWL_STAT n) 11 = false) ∧ s.KeepsBut (Adr.HK_SUP j :: Adr.PSTAT Pg.HK :: twlStats) t)
  ∧ (∀ ok, s.flag (Adr.HK_SUP j) 18 = false ∨ ok = false → ∃ t, exec (.sup5Retry j ok) s = .next t ∧ s.KeepsBut twlStats t))

/-- Comparators and the PWM units they trip. (R210, R211, R212, R213, R214, R215, R230, R342) A running, settled comparator whose input passes its
threshold trips: its state, event, Shroud's inputs and the routed units; it releases below its hysteresis unless LATCH holds it, and then only by CLR;
the end of settling takes the state of the input where a change asked for it. -/
def Obligations.Comparators : Prop := ∀ (k : Fin 32) (x : Int) (port : Port) (s : State), s.pageOn (Pg.CMPB (k / 4)) = true →
  ((s.cmp k).running = true → s.flag (cmpStat k) 2 = false → s.cmpState k ≠ 2 → s.cmpAt k x = 2 → s.pageEn Pg.OBC = false →
    ∃ t, exec (.comparatorTrip k x) s = .next t ∧ t.cmpState k = 2 ∧ t.flag (Adr.PEVT (Pg.CMPB (k / 4))) (k % 4) = true
      ∧ bit t.shroud.cmpsA k = true ∧ bit t.shroud.cmpsB k = true
      ∧ (∀ u : Fin 16, s.flag (cmpRoute k) u = true → (s.cmp k).asleep = false → s.flag (Adr.PWM_TRIPCFG u) 0 = true → t.pwmTripped u = true)
      ∧ (s.fld (cmpCfg k) 3 2 = 0 → t.flag (cmpStat k) 3 = true) ∧ (s.fld (cmpCfg k) 3 2 = 1 → t.flag (cmpStat k) 3 = false)
      ∧ s.KeepsBut (cmpStat k :: Adr.PEVT (Pg.CMPB (k / 4)) :: tripRegs) t)
  ∧ ((s.cmp k).running = true → s.flag (cmpStat k) 2 = false → s.cmpAt k x = 1 →
    s.cmpState k = 0 ∨ (s.cmpState k = 2 ∧ s.flag (cmpCfg k) 8 = false) → ∃ t, exec (.comparatorRelease k x) s = .next t ∧ t.cmpState k = 1
      ∧ t.flag (Adr.PEVT (Pg.CMPB (k / 4))) (4 + k % 4) = true ∧ s.KeepsBut (cmpStat k :: Adr.PEVT (Pg.CMPB (k / 4)) :: tripRegs) t)
  ∧ ((s.cmp k).running = true → s.cmpState k = 2 → s.flag (cmpCfg k) 8 = true → ∃ t, exec (.comparatorRelease k x) s = .next t
    ∧ t.cmpState k = 2 ∧ s.KeepsBut [] t)
  ∧ (s.flag (cmpStat k) 2 = true → (s.cmp k).mark = true → s.pageEn Pg.OBC = false → ∃ t, exec (.comparatorSettled k x) s = .next t
    ∧ t.flag (cmpStat k) 2 = false ∧ (t.cmp k).mark = false
    ∧ t.cmpState k = (if s.cmpAt k x = 0 then (if s.cmpRouted k then 2 else 0) else s.cmpAt k x)
    ∧ s.KeepsBut (cmpStat k :: Adr.PEVT (Pg.CMPB (k / 4)) :: tripRegs) t)
  ∧ (s.flag (cmpStat k) 2 = true → (s.cmp k).mark = false → ∃ t, exec (.comparatorSettled k x) s = .next t
    ∧ t.flag (cmpStat k) 2 = false ∧ t.cmpState k = s.cmpState k ∧ s.KeepsBut [cmpStat k] t)
  ∧ (s.Owns port (Pg.CMPB (k / 4)) → s.refusalOf port (Adr.CMPB_CLR (k / 4) (k % 4)) .plain 1#32 = none → (s.cmp k).running = true →
    s.flag (cmpStat k) 2 = false → s.cmpState k = 2 → s.flag (cmpCfg k) 8 = true →
    (s.cmpAt k x = 1 → ∃ t, exec (.comparatorClear port k x) s = .next t ∧ (t.port port).resp = .ok [] ∧ t.cmpState k = 1
      ∧ t.flag (Adr.PEVT (Pg.CMPB (k / 4))) (4 + k % 4) = true ∧ s.KeepsBut (cmpStat k :: Adr.PEVT (Pg.CMPB (k / 4)) :: tripRegs) t)
    ∧ (s.cmpAt k x ≠ 1 → ∃ t, exec (.comparatorClear port k x) s = .next t ∧ (t.port port).resp = .ok [] ∧ t.cmpState k = 2
      ∧ s.KeepsBut [] t))

/-- Toothed wheels and Hall codes. (R256, R257, R259, R260, R261, R262, R263, R265, R266, R267, R272, R275, R352) A counted edge of a wheel moves position
and count by one in its direction, with its angle published and stamped at the edge less the filter; two tracks at once count an error; a reference
sets position 0 and latches the count; stand-still reads speed 0; the end of REST applies the counted edges. A Hall code of the neighbouring sector
updates sector, direction and period; a skipped sector and an impossible code are errors; the actuator's position counts with it. -/
def Obligations.PositionEdges : Prop :=
  (∀ (n : Fin 4) (a b : Bool) (s : State),
  (s.twlRuns n = false → ∃ t, exec (.twEdge n a b) s = .next t ∧ (t.twl n).a = a ∧ (t.twl n).b = b ∧ bit t.pins.pins (2 * n) = a
    ∧ bit t.pins.pins (2 * n + 1) = b ∧ s.KeepsBut [] t)
  ∧ (∀ (d p : Int) (stamp : Nat), s.twlRuns n = true →
    (if s.flag (Adr.TWL_CFG n) 0 then (s.twl n).a ≠ a else ((s.twl n).a ≠ a ↔ (s.twl n).b = b)) → (s.twl n).raw = 0 → s.tw n 10 = false →
    d = (if s.flag (Adr.TWL_CFG n) 0 then (if s.flag (Adr.TWL_CFG n) 3 then -1 else 1)
      else if (if (s.twl n).a ≠ a then a != b else a == b) ≠ s.flag (Adr.TWL_CFG n) 4 then 1 else -1) → p = (s.twl n).pos + d →
    stamp = s.now - 6 * s.fld (Adr.TWL_CFG n) 13 8 → (a = true → (s.twl n).a = false → (s.twl n).rawRev = decide (d < 0) →
      gapTest (s.flag (Adr.TWL_CFG n) 2) (s.fld (Adr.TWL_CFG n) 31 24) ((stamp :: (s.twl n).rises).take 3) = false) →
    ∃ t, exec (.twEdge n a b) s = .next t ∧ (t.twl n).pos = p ∧ (t.twl n).net = (s.twl n).net + d
      ∧ t.fld (Adr.TWL_COUNT n) 15 0 = (((s.twl n).net + d) % 65536).toNat
      ∧ t.fld (Adr.TWL_POS n) 15 0 = (p % max (s.twlN n) 1).toNat % 65536 ∧ t.reg (Adr.TWL_EDGETL n) = w32 stamp
      ∧ t.word (0xB3 + 4 * n) = ⟨s.twlAngle n p, true, stamp⟩ ∧ t.reg (Adr.TWL_ANGLE n) = s.twlAngle n p
      ∧ t.tw n 4 = decide (d < 0) ∧ t.tw n 9 = false ∧ s.KeepsButPages [Pg.TWL n] t)
  ∧ (s.twlRuns n = true → s.flag (Adr.TWL_CFG n) 0 = false → (s.twl n).a ≠ a → (s.twl n).b ≠ b → s.pageOn (Pg.TWL n) = true →
    ∃ t, exec (.twEdge n a b) s = .next t ∧ t.fld (Adr.TWL_ERRCNT n) 15 0 = min (s.fld (Adr.TWL_ERRCNT n) 15 0 + 1) 65535
      ∧ t.flag (Adr.PFAULT (Pg.TWL n)) 1 = true ∧ t.tw n 6 = true ∧ t.tw n 10 = true ∧ t.tw n 5 = false
      ∧ t.flag (Adr.PEVT (Pg.TWL n)) 2 = true ∧ (t.twl n).pos = (s.twl n).pos ∧ s.KeepsButPages [Pg.TWL n] t)
  ∧ (s.twlRuns n = true → s.flag (Adr.TWL_CFG n) 0 = false → s.flag (Adr.TWL_CFG n) 2 = false → (s.twl n).a = false → a = true → (s.twl n).b = b →
    (a != b) ≠ s.flag (Adr.TWL_CFG n) 4 → (s.twl n).rawRev = false → (s.twl n).raw = 0 → 0 < s.twlN n → s.pageOn (Pg.TWL n) = true →
    gapTest false (s.fld (Adr.TWL_CFG n) 31 24) (((s.now - 6 * s.fld (Adr.TWL_CFG n) 13 8) :: (s.twl n).rises).take 3) = true →
    ∃ t, exec (.twEdge n a b) s = .next t ∧ t.fld (Adr.TWL_POS n) 15 0 = 0 ∧ (t.twl n).net = 0 ∧ (t.twl n).refSeen = true
      ∧ t.fld (Adr.TWL_COUNT n) 15 0 = 0 ∧ t.fld (Adr.TWL_COUNT n) 31 16 = (((s.twl n).net + 1) % 65536).toNat
      ∧ t.flag (Adr.PEVT (Pg.TWL n)) 0 = true ∧ s.KeepsButPages [Pg.TWL n] t)
  ∧ (s.twlRuns n = true → s.pageOn (Pg.TWL n) = true → ∃ t, exec (.twStandstill n) s = .next t ∧ t.reg (Adr.TWL_SPEED n) = 0#32
    ∧ t.tw n 7 = false ∧ t.tw n 8 = false ∧ t.tw n 9 = true ∧ t.flag (Adr.PEVT (Pg.TWL n)) 4 = (s.flag (Adr.PEVT (Pg.TWL n)) 4 || !s.tw n 9)
    ∧ (t.twl n).pos = (s.twl n).pos ∧ s.KeepsBut [Adr.TWL_SPEED n, Adr.TWL_STAT n, Adr.PEVT (Pg.TWL n)] t)
  ∧ ((s.twl n).rest = true → (s.twl n).restDue = false → s.tw n 10 = true → s.flag (Adr.TWL_CTRL n) 0 = false →
    ∃ t, exec (.restEnd n) s = .next t ∧ t.tw n 10 = false ∧ (t.twl n).rest = false ∧ (t.twl n).pos = (s.twl n).pos + (s.twl n).raw
      ∧ (t.twl n).raw = 0 ∧ t.fld (Adr.TWL_POS n) 15 0 = (((s.twl n).pos + (s.twl n).raw) % max (s.twlN n) 1).toNat % 65536
      ∧ s.KeepsBut [Adr.TWL_STAT n, Adr.TWL_POS n] t)
  ∧ ((s.twl n).rest = false ∨ (s.twl n).restDue = true → ∃ t, exec (.restEnd n) s = .next t ∧ t.twls = s.twls ∧ s.KeepsBut [] t))
  ∧ (∀ (k : Fin 3) (code : BitVec 3) (s : State), s.pageOn Pg.HALL = true →
  (code.toNat = (s.hall k).code → ∃ t, exec (.hallChange k code) s = .next t ∧ s.KeepsBut [] t)
  ∧ (∀ f sec old stamp : Nat, code.toNat ≠ (s.hall k).code → s.pageEn Pg.HALL = true → s.flag (Adr.HALL_CFG k) 0 = true →
    s.pageEn (Pg.ACT k) = false → hallSector code.toNat = some f → sec = (if s.flag (Adr.HALL_CFG k) 1 then 5 - f else f) →
    old = s.fld (Adr.HALL_STAT k) 2 0 → stamp = s.now - 6 * s.fld (Adr.HALL_CFG k) 13 8 →
    (sec = (old + 1) % 6 ∨ old = (sec + 1) % 6 → ∃ t, exec (.hallChange k code) s = .next t ∧ t.fld (Adr.HALL_STAT k) 2 0 = sec
      ∧ t.flag (Adr.HALL_STAT k) 3 = true ∧ t.flag (Adr.HALL_STAT k) 4 = decide (old = (sec + 1) % 6) ∧ t.reg (Adr.HALL_TIME k) = w32 stamp
      ∧ t.reg (Adr.HALL_PERS k) = w32 (match (s.hall k).lastAdj with
        | some u => min (stamp - u) (2 ^ 32 - 1)
        | none => 2 ^ 32 - 1)
      ∧ (t.hall k).lastAdj = some stamp ∧ t.flag (Adr.PEVT Pg.HALL) k = true
      ∧ s.KeepsBut [Adr.HALL_STAT k, Adr.HALL_TIME k, Adr.HALL_PERS k, Adr.PEVT Pg.HALL] t)
    ∧ (sec ≠ (old + 1) % 6 → old ≠ (sec + 1) % 6 → sec ≠ old → ∃ t, exec (.hallChange k code) s = .next t ∧ t.fld (Adr.HALL_STAT k) 2 0 = sec
      ∧ t.flag (Adr.HALL_STAT k) 6 = true ∧ t.flag (Adr.PEVT Pg.HALL) (4 + k) = true
      ∧ s.KeepsBut [Adr.HALL_STAT k, Adr.HALL_TIME k, Adr.PEVT Pg.HALL] t))
  ∧ (code.toNat ≠ (s.hall k).code → s.pageEn Pg.HALL = true → s.flag (Adr.HALL_CFG k) 0 = true → s.pageEn (Pg.ACT k) = false →
    code = 0#3 ∨ code = 7#3 → ∃ t, exec (.hallChange k code) s = .next t ∧ t.flag (Adr.HALL_STAT k) 3 = false
      ∧ t.flag (Adr.HALL_STAT k) 5 = true ∧ t.fld (Adr.HALL_STAT k) 2 0 = s.fld (Adr.HALL_STAT k) 2 0
      ∧ t.flag (Adr.PEVT Pg.HALL) (4 + k) = true ∧ s.KeepsBut [Adr.HALL_STAT k, Adr.PEVT Pg.HALL] t)
  ∧ (∀ (f sec old : Nat) (d : Int), code.toNat ≠ (s.hall k).code → s.pageEn Pg.HALL = true → s.flag (Adr.HALL_CFG k) 0 = true →
    s.pageEn (Pg.ACT k) = true → s.actState k = 0 → hallSector code.toNat = some f → sec = (if s.flag (Adr.HALL_CFG k) 1 then 5 - f else f) →
    old = s.fld (Adr.HALL_STAT k) 2 0 → (sec = (old + 1) % 6 ∧ d = 1) ∨ (old = (sec + 1) % 6 ∧ d = -1) → ∃ t, exec (.hallChange k code) s = .next t
      ∧ t.fld (Adr.ACT_POS k) 15 0 = ((signed 16 (s.fld (Adr.ACT_POS k) 15 0) + d) % 65536).toNat
      ∧ t.flag (Adr.ACT_STAT k) 8 = decide (d < 0) ∧ s.KeepsButPages [Pg.HALL, Pg.ACT k] t))

/-- The DC/DC converter: start, stop, short circuits, synchronisation and shedding. (R308, R311, R312, R313, R314, R316, R317, R318, R321) START enters
the soft start from the measured output or shows its refusal; STOP opens the gates and clears the set point; a short circuit enters the hiccup, the
third latches; retry, health and clearing follow R311 to R314. Sync edges in range are taken as the interval, three missing lose the lock; a phase is
shed under its threshold, the highest first; an unserved duty stops with cause 5. Frames as named. -/
def Obligations.Converter : Prop :=
  (∀ (port : Port) (s : State), s.pageOn Pg.DCDC = true →
  (s.Owns port Pg.DCDC → s.refusalOf port Adr.DCDC_CMD .plain 1#32 = none → s.dcdcState = 0 →
    (s.dcdcRefusal = 0 → ∃ t, exec (.dcdcStart port) s = .next t ∧ (t.port port).resp = .ok [] ∧ t.dcdcState = 1 ∧ t.dcdcAct = s.dcdcPhen
      ∧ t.dcdc.vref = s.dcdcFine s.dcdcVout.value ∧ t.reg Adr.DCDC_VREF = w32 (t.dcdc.vref / 600000)
      ∧ (∀ p : Fin 4, t.reg (Adr.DCDC_TRIM (p + 1)) = 0#32) ∧ t.flag (Adr.PEVT Pg.DCDC) 0 = true
      ∧ s.KeepsBut ([Adr.DCDC_STAT, Adr.DCDC_VREF, Adr.PEVT Pg.DCDC] ++ [1, 2, 3, 4].map Adr.DCDC_TRIM) t)
    ∧ (s.dcdcRefusal ≠ 0 → ∃ t, exec (.dcdcStart port) s = .next t ∧ (t.port port).resp = .ok [] ∧ t.dcdcState = 0
      ∧ t.reg Adr.DCDC_CAUSE = w32 s.dcdcRefusal ∧ t.flag (Adr.PEVT Pg.DCDC) 0 = true
      ∧ s.KeepsBut [Adr.DCDC_CAUSE, Adr.PEVT Pg.DCDC] t))
  ∧ (s.Owns port Pg.DCDC → s.refusalOf port Adr.DCDC_CMD .plain 2#32 = none → s.dcdcState ≠ 4 → ∃ t, exec (.dcdcStop port) s = .next t
    ∧ (t.port port).resp = .ok [] ∧ t.dcdcState = 0 ∧ t.reg Adr.DCDC_CAUSE = 1#32 ∧ t.fld Adr.DCDC_STAT 13 12 = 0 ∧ t.dcdcAct = 0
    ∧ (t.pwm s.dcdcUnit).gate = 15 ∧ (t.pwm s.dcdcSr).gate = 15 ∧ t.reg (Adr.TRIM_SETP0 (s.dcdcCtx / 8) (s.dcdcCtx % 8) + 4) = 0#32
    ∧ s.KeepsBut ([Adr.DCDC_STAT, Adr.DCDC_CAUSE, Adr.PEVT Pg.DCDC, Adr.TRIM_SETP0 (s.dcdcCtx / 8) (s.dcdcCtx % 8) + 4]
        ++ [1, 2, 3, 4].map Adr.DCDC_TRIM) t)
  ∧ (s.dcdcState = 2 → s.dcdcVout.valid = true → 5 * s.dcdcFine s.dcdcVout.value < s.fld Adr.DCDC_VSET 15 0 * 600000 →
    ∃ t, exec .dcdcShortCheck s = .next t ∧ t.flag (Adr.PEVT Pg.DCDC) 3 = true ∧ t.dcdcAct = 0 ∧ (t.pwm s.dcdcUnit).gate = 15
      ∧ (s.fld Adr.DCDC_STAT 13 12 < 2 → t.dcdcState = 3 ∧ t.fld Adr.DCDC_STAT 13 12 = s.fld Adr.DCDC_STAT 13 12 + 1)
      ∧ (2 ≤ s.fld Adr.DCDC_STAT 13 12 → t.dcdcState = 4 ∧ t.flag (Adr.PFAULT Pg.DCDC) 0 = true ∧ t.reg Adr.DCDC_CAUSE = 3#32)
      ∧ s.KeepsBut ([Adr.DCDC_STAT, Adr.DCDC_CAUSE, Adr.PEVT Pg.DCDC, Adr.PFAULT Pg.DCDC,
          Adr.TRIM_SETP0 (s.dcdcCtx / 8) (s.dcdcCtx % 8) + 4] ++ [1, 2, 3, 4].map Adr.DCDC_TRIM) t)
  ∧ (s.dcdcState = 3 → s.dcdcRefusal = 0 → ∃ t, exec .dcdcHiccupRetry s = .next t ∧ t.dcdcState = 1 ∧ t.dcdcAct = s.dcdcPhen
    ∧ t.fld Adr.DCDC_STAT 13 12 = s.fld Adr.DCDC_STAT 13 12
    ∧ s.KeepsBut ([Adr.DCDC_STAT, Adr.DCDC_VREF, Adr.PEVT Pg.DCDC] ++ [1, 2, 3, 4].map Adr.DCDC_TRIM) t)
  ∧ (s.dcdcState = 3 → s.dcdcRefusal ≠ 0 → ∃ t, exec .dcdcHiccupRetry s = .next t ∧ t.dcdcState = 0 ∧ t.reg Adr.DCDC_CAUSE = w32 s.dcdcRefusal
    ∧ s.KeepsBut [Adr.DCDC_STAT, Adr.DCDC_CAUSE, Adr.PEVT Pg.DCDC] t)
  ∧ (s.dcdcState = 2 → s.dcdcVout.valid = true → 9 * s.fld Adr.DCDC_VSET 15 0 * 600000 ≤ 10 * s.dcdcFine s.dcdcVout.value →
    ∃ t, exec .hiccntClear s = .next t ∧ t.fld Adr.DCDC_STAT 13 12 = 0 ∧ t.dcdcState = 2 ∧ s.KeepsBut [Adr.DCDC_STAT] t)
  ∧ (s.Owns port Pg.DCDC → s.refusalOf port (Adr.PFAULT Pg.DCDC) .plain 1#32 = none → s.dcdcState = 4 → ∃ t, exec (.dcdcShortClear port) s = .next t
    ∧ (t.port port).resp = .ok [] ∧ t.flag (Adr.PFAULT Pg.DCDC) 0 = false ∧ t.dcdcState = 0 ∧ t.flag (Adr.PEVT Pg.DCDC) 0 = true
    ∧ s.KeepsBut [Adr.PFAULT Pg.DCDC, Adr.DCDC_STAT, Adr.PEVT Pg.DCDC] t))
  ∧ (∀ (s : State), s.pageOn Pg.DCDC = true →
  (s.pageEn Pg.DCDC = true → s.flag Adr.DCDC_CFG 24 = true → s.dcdc.edge = none → ∃ t, exec .dcdcSyncEdge s = .next t
    ∧ t.dcdc.edge = some s.now ∧ t.dcdc.valid = 0 ∧ s.KeepsBut [] t)
  ∧ (∀ e, s.pageEn Pg.DCDC = true → s.flag Adr.DCDC_CFG 24 = true → s.dcdc.edge = some e → e + 3000 ≤ s.now → s.now ≤ e + 7500 →
    s.dcdc.interval = 0 ∨ (20 * ((s.now : Int) - e - s.dcdc.interval)).natAbs ≤ s.dcdc.interval → ∃ t, exec .dcdcSyncEdge s = .next t
      ∧ t.dcdc.edge = some s.now ∧ t.dcdc.interval = s.now - e ∧ t.dcdc.valid = min (s.dcdc.valid + 1) 4 ∧ s.KeepsBut [] t)
  ∧ (s.dcdcSynced = true → s.dcdc.missing < 2 → ∃ t, exec .dcdcSyncMissing s = .next t ∧ t.dcdc.missing = s.dcdc.missing + 1
    ∧ t.dcdc.edge = s.dcdc.edge.map (· + s.dcdc.interval) ∧ s.KeepsBut [] t)
  ∧ (s.dcdcSynced = true → 2 ≤ s.dcdc.missing → s.flag Adr.DCDC_STAT 9 = true → ∃ t, exec .dcdcSyncMissing s = .next t
    ∧ t.dcdcSynced = false ∧ t.flag Adr.DCDC_STAT 9 = false ∧ t.flag (Adr.PEVT Pg.DCDC) 1 = true
    ∧ s.KeepsBut [Adr.DCDC_STAT, Adr.PEVT Pg.DCDC] t)
  ∧ (∀ k : Fin 4, s.dcdcState = 2 → s.flag Adr.DCDC_CFG 25 = true → s.flag Adr.DCDC_STAT 11 = false → s.fld Adr.DCDC_CFG 17 16 + 1 < s.dcdcCount →
    256 * s.dcdcTotal < ((s.dcdcCount - 1 : Nat) : Int) * (s.reg Adr.DCDC_IPH).toInt * s.fld Adr.DCDC_SHED 7 0 → s.dcdcAct.testBit k = true →
    (∀ j : Fin 4, k < j → s.dcdcAct.testBit j = false) → ∃ t, exec .dcdcShed s = .next t ∧ t.dcdcAct = s.dcdcAct - 2 ^ k.val
      ∧ t.reg (Adr.DCDC_TRIM (k + 1)) = 0#32 ∧ t.flag (Adr.PEVT Pg.DCDC) 2 = true
      ∧ s.KeepsBut ([Adr.DCDC_STAT, Adr.PEVT Pg.DCDC] ++ [1, 2, 3, 4].map Adr.DCDC_TRIM) t)
  ∧ (s.dcdcRuns = true → ∃ t, exec .dcdcDutyTimeout s = .next t ∧ t.dcdcState = 0 ∧ t.reg Adr.DCDC_CAUSE = 5#32
    ∧ t.flag (Adr.PFAULT Pg.DCDC) 2 = true ∧ t.flag (Adr.PEVT Pg.DCDC) 3 = true ∧ t.dcdcAct = 0 ∧ (t.pwm s.dcdcUnit).gate = 15
    ∧ t.reg (Adr.TRIM_SETP0 (s.dcdcCtx / 8) (s.dcdcCtx % 8) + 4) = 0#32
    ∧ s.KeepsBut ([Adr.DCDC_STAT, Adr.DCDC_CAUSE, Adr.PEVT Pg.DCDC, Adr.PFAULT Pg.DCDC,
        Adr.TRIM_SETP0 (s.dcdcCtx / 8) (s.dcdcCtx % 8) + 4] ++ [1, 2, 3, 4].map Adr.DCDC_TRIM) t)
  ∧ (s.dcdcRuns = false → ∃ t, exec .dcdcDutyTimeout s = .next t ∧ t.pwms = s.pwms ∧ s.KeepsBut [] t))

/-- How a charging session starts and ends. (R326, R331, R332, R333, R338, R339, R340, R343) The plug is noticed; START and EXPORT start or show their
refusal; precharge and mains lead to CHARGE or EXPORT or hand over with causes 8 and 7; STOP, full charge, host loss in export and a lost pilot hand
over with causes 1, 2, 12 and 4; the host watchdog otherwise only shows. -/
def Obligations.ChargerSessions : Prop := ∀ (port : Port) (s : State), s.pageOn Pg.OBC = true →
  (s.pageEn Pg.OBC = true → s.obcState = 1 → s.obcConnected = true → s.flag Adr.OBC_CFG 28 = false → ∃ t, exec .obcPlugged s = .next t
    ∧ t.obcState = 2 ∧ t.flag (Adr.PEVT Pg.OBC) 0 = true ∧ s.KeepsBut [Adr.OBC_STAT, Adr.PEVT Pg.OBC, Adr.PILOT_STAT] t)
  ∧ (∀ (x : Bool) (c : Instr) (w : Word), (x = false ∧ c = .obcStart port ∧ w = 1#32) ∨ (x = true ∧ c = .obcExport port ∧ w = 4#32) →
    s.Owns port Pg.OBC → s.refusalOf port Adr.OBC_CMD .plain w = none → s.pageEn Pg.OBC = true → s.obcState = 2 →
    (s.obcRefusal x = 0 → ∃ t, exec c s = .next t ∧ (t.port port).resp = .ok [] ∧ t.obcState = 3 ∧ t.obc.step = 0 ∧ t.obc.export_ = x
      ∧ t.obc.pfcRun = false ∧ t.obc.dabRun = true ∧ t.obc.pre = true ∧ t.obc.s2 = false ∧ t.obc.iStar = 0
      ∧ t.obc.target = s.fld Adr.OBC_BUS 25 16 ∧ t.flag (Adr.PEVT Pg.OBC) 0 = true
      ∧ s.KeepsBut [Adr.OBC_STAT, Adr.PEVT Pg.OBC, Adr.PILOT_STAT] t)
    ∧ (s.obcRefusal x ≠ 0 → ∃ t, exec c s = .next t ∧ (t.port port).resp = .ok [] ∧ t.obcState = 2 ∧ t.obc = s.obc
      ∧ t.reg Adr.OBC_CAUSE = w32 (s.obcRefusal x) ∧ t.flag (Adr.PEVT Pg.OBC) 0 = true ∧ s.KeepsBut [Adr.OBC_CAUSE, Adr.PEVT Pg.OBC] t))
  ∧ (s.obcState = 3 → s.obc.step = 0 → (s.hvWord 3).valid = true →
    ((98 * s.fld Adr.OBC_BUS 25 16 * 2 ^ 31 : Nat) : Int) ≤ (s.hvWord 3).value.toInt * 200000 → ∃ t, exec (.prechargeDone false) s = .next t
      ∧ t.obc = { s.obc with s2 := !s.obcStore, step := 1 } ∧ t.obcState = 3 ∧ s.KeepsBut [Adr.PILOT_STAT] t)
  ∧ (s.obcState = 3 → s.obc.step = 0 → ∃ t, exec (.prechargeDone true) s = .next t ∧ t.flag (Adr.PEVT Pg.OBC) 3 = true ∧ s.HandsOver 8 t)
  ∧ (∀ x, s.obcState = 3 → s.obc.step = 1 → s.acOk = true → s.obc.export_ = x → ∃ t, exec (.acPresent false) s = .next t
    ∧ t.obcState = (if x then 5 else 4) ∧ t.obc.pfcRun = true ∧ t.obc.pre = false ∧ t.obc.iSearch = s.fld Adr.OBC_SEARCH 7 0
    ∧ t.flag Adr.OBC_STAT 10 = (decide (nthD 0 s.obc.rms 1 < 500) && decide (nthD 0 s.obc.rms 2 < 500))
    ∧ (x = true → t.flag Adr.OBC_STAT 14 = true) ∧ s.KeepsBut [Adr.OBC_STAT, Adr.PEVT Pg.OBC, Adr.PILOT_STAT] t)
  ∧ (s.obcState = 3 → s.obc.step = 1 → ∃ t, exec (.acPresent true) s = .next t ∧ t.flag (Adr.PEVT Pg.OBC) 3 = true ∧ s.HandsOver 7 t)
  ∧ (s.Owns port Pg.OBC → s.refusalOf port Adr.OBC_CMD .plain 2#32 = none → s.obcSession = true → ∃ t, exec (.obcStop port) s = .next t
    ∧ (t.port port).resp = .ok [] ∧ s.HandsOver 1 t)
  ∧ (s.Owns port Pg.OBC → s.refusalOf port Adr.OBC_CMD .plain 2#32 = none → s.obcSession = false → ∃ t, exec (.obcStop port) s = .next t
    ∧ (t.port port).resp = .ok [] ∧ t.obc = s.obc ∧ s.KeepsBut [] t)
  ∧ (s.obcState = 4 → s.flag Adr.OBC_STAT 13 = false → s.packBelow (s.fld (Adr.OBC_ZIC s.zoneUsed) 31 16) = true →
    ∃ t, exec .chargeDone s = .next t ∧ s.HandsOver 2 t)
  ∧ (s.pageEn Pg.OBC = true → s.flag Adr.OBC_STAT 8 = false → (s.obc.export_ && s.obcSession) = false → ∃ t, exec .hostWatchdogExpiry s = .next t
    ∧ t.flag Adr.OBC_STAT 8 = true ∧ t.flag (Adr.PEVT Pg.OBC) 3 = true ∧ t.obcState = s.obcState ∧ s.KeepsBut [Adr.OBC_STAT, Adr.PEVT Pg.OBC] t)
  ∧ (s.pageEn Pg.OBC = true → s.flag Adr.OBC_STAT 8 = false → s.obc.export_ = true → s.obcSession = true →
    ∃ t, exec .hostWatchdogExpiry s = .next t ∧ t.flag Adr.OBC_STAT 8 = true ∧ s.HandsOver 12 t)
  ∧ (s.obcPilot = 0 → s.obcSession = true → ∃ t, exec .pilotLimitTimeout s = .next t ∧ t.flag (Adr.PEVT Pg.OBC) 3 = true ∧ s.HandsOver 4 t)
  ∧ (s.obcPilot ≠ 0 → ∃ t, exec .pilotLimitTimeout s = .next t ∧ t.obc = s.obc ∧ s.KeepsBut [] t)

/-- The charger's update, search, current, hand-over and grid windows. (R324, R334, R337, R339, R343) An update takes the line's values, writes LINE and
the set points of the PFC and DAB contexts, and moves the current command by at most 5 mA; the search climbs by 1 A below its limit; a CV step lowers
the current; the hand-over opens S2, waits for the mains to go, and ends in its state; an export reconnects inside the grid window and trips outside. -/
def Obligations.ChargerRuns : Prop := ∀ (v1 v2 v3 freq : Nat) (s : State), s.pageOn Pg.OBC = true →
  (s.pageEn Pg.OBC = true → s.obcState = 1 → s.pfcCtx ≠ s.dabCtx → ∃ t, exec (.obcUpdate v1 v2 v3 freq) s = .next t ∧ t.obc.rms = [v1, v2, v3]
    ∧ t.obc.freq = freq ∧ t.obcState = 1 ∧ t.fld Adr.OBC_LINE 31 16 = min freq 65535
    ∧ t.fld Adr.OBC_LINE 8 0 = min ((if s.flag Adr.OBC_STAT 10 || (decide (v2 < 500) && decide (v3 < 500)) then min 5110 v1
        else min (min (min 5110 v1) v2) v3) / 10) 511
    ∧ t.reg (Adr.TRIM_SETP0 (s.pfcCtx / 8) (s.pfcCtx % 8)) = 0#32
    ∧ t.reg (Adr.TRIM_SETP0 (s.pfcCtx / 8) (s.pfcCtx % 8) + 4) =
        w32 (s.obc.pfcRun.toNat + 2 * s.obc.export_.toNat + 4 * (s.flag Adr.OBC_STAT 10).toNat)
    ∧ t.reg (Adr.TRIM_SETP0 (s.dabCtx / 8) (s.dabCtx % 8) + 4) = w32 (s.obc.dabRun.toNat + 2 * s.obc.pre.toNat)
    ∧ s.KeepsButPages [Pg.OBC, Pg.TRIM (s.pfcCtx / 8), Pg.TRIM (s.dabCtx / 8)] t)
  ∧ (s.pageEn Pg.OBC = true → s.obcState = 4 → s.flag Adr.OBC_STAT 7 = false → ∃ t, exec (.obcUpdate v1 v2 v3 freq) s = .next t
    ∧ (t.obcState = 4 → t.flag Adr.OBC_STAT 13 = false → t.obc.iStar ≤ s.obc.iStar + 50 ∧ s.obc.iStar ≤ t.obc.iStar + 50)
    ∧ (t.obcState = 4 → t.flag Adr.OBC_STAT 13 = true → t.obc.iStar = 0) ∧ s.MemSame t)
  ∧ (s.obcState = 4 → s.obc.iSearch * 10 < s.obcIlim → s.obc.iSearch < s.obcIlim / 10 → s.flag Adr.OBC_STAT 11 = false →
    (s.obc.sagEnd = 0 ∨ s.obc.sagEnd - 1 + 36000000000 ≤ s.now) → bit (s.pubWord s.pfcCtx 0).value 0 = true → ∃ t, exec .searchClimb s = .next t
      ∧ t.obc = { s.obc with iSearch := s.obc.iSearch + 1 } ∧ t.fld Adr.OBC_ISRCH 23 16 = (s.obc.iSearch + 1) % 256
      ∧ s.KeepsBut [Adr.OBC_ISRCH] t)
  ∧ (s.obcState = 4 → s.flag Adr.OBC_STAT 7 = true → s.flag Adr.OBC_STAT 9 = false →
    ((s.fld (Adr.OBC_ZV s.zoneUsed) 31 16 * 10 * 2 ^ 15 : Nat) : Int) ≤ s.packMax 1 → ∃ t, exec .cvStep s = .next t
      ∧ t.obc = { s.obc with iStar := s.obc.iStar - s.obcIcc * 100, iCap := s.obc.iStar - s.obcIcc * 100 } ∧ s.KeepsBut [] t)
  ∧ (∀ x, s.obcState = 6 → s.obc.step = 0 → s.obcStore = false → x = true ∨ s.packBelow 10 = true → ∃ t, exec (.handoverS2Open x) s = .next t
    ∧ t.obc = { s.obc with pfcRun := false, s2 := false, step := 1 }
    ∧ (∀ u, s.pwmA s.pfcCtx = some u → (t.pwm u).gate = 15) ∧ s.KeepsBut [Adr.PILOT_STAT] t)
  ∧ (s.obcState = 6 → s.obc.step = 1 → s.obcStore = false → ∃ t, exec (.handoverAcWaitEnd true) s = .next t ∧ t.obc = { s.obc with step := 2 }
    ∧ t.flag Adr.OBC_STAT 15 = true ∧ t.flag (Adr.PEVT Pg.OBC) 3 = true ∧ s.KeepsBut [Adr.OBC_STAT, Adr.PEVT Pg.OBC] t)
  ∧ (s.obcState = 6 → s.obc.step = 1 → (∀ v ∈ s.obc.rms, v < 500) → ∃ t, exec (.handoverAcWaitEnd false) s = .next t
    ∧ t.obc = { s.obc with step := 2, pre := true, target := 50 } ∧ s.KeepsBut [] t)
  ∧ (s.obcState = 6 → s.obc.step = 2 → ∃ t, exec .handoverEnd s = .next t
    ∧ t.obcState = (if s.obcStore || (s.obcConnected && s.obc.since != 0 && decide (s.obc.since - 1 + 1200000000 ≤ s.now)) then 2 else 1)
    ∧ t.obc.dabRun = false ∧ t.obc.pre = false ∧ t.obc.export_ = false ∧ t.flag (Adr.PEVT Pg.OBC) 0 = true
    ∧ s.KeepsBut [Adr.OBC_STAT, Adr.PEVT Pg.OBC, Adr.PILOT_STAT] t)
  ∧ (s.obcState = 5 → s.flag Adr.OBC_STAT 14 = true → s.gridInside = true → ∃ t, exec .exportReconnect s = .next t
    ∧ t.flag Adr.OBC_STAT 14 = false ∧ t.obc = { s.obc with pfcRun := true, dabRun := true, iRamp := 0 } ∧ t.flag (Adr.PEVT Pg.OBC) 2 = true
    ∧ s.KeepsBut [Adr.OBC_STAT, Adr.PEVT Pg.OBC] t)
  ∧ (s.obcState = 5 → s.flag Adr.OBC_STAT 14 = false → s.gridInside = false → ∃ t, exec .exportWindowTrip s = .next t
    ∧ t.flag Adr.OBC_STAT 14 = true ∧ t.obc = { s.obc with pfcRun := false, dabRun := false, iRamp := 0 }
    ∧ (∀ u, s.pwmA s.pfcCtx = some u → (t.pwm u).gate = 15) ∧ t.flag (Adr.PEVT Pg.OBC) 2 = true
    ∧ s.KeepsBut [Adr.OBC_STAT, Adr.PEVT Pg.OBC] t)

/-- The control pilot, proximity and the lamps. (R327, R328, R329, R330, R331, R341, R345) CP levels decode to their state, diode and oscillation, with
limits and events; PP decodes to the cable's limit; losing either in a session hands over with cause 3; a measured cycle gives the duty and its
current limit; a lamp's overcurrent switches it off and a retry restores it; patterns toggle. -/
def Obligations.PilotAndLamps : Prop := ∀ (high low : Int) (i : Bool) (s : State), s.pageOn Pg.PILOT = true →
  (∀ osc, s.pilotOn = true → s.obcState ≤ 1 → ∃ t, exec (.pilotStateChange high low osc) s = .next t ∧ t.cp = cpDecode high low osc
    ∧ t.flag Adr.PILOT_STAT 3 = osc ∧ t.flag Adr.PILOT_STAT 4 = cpDiode low osc
    ∧ t.flag (Adr.PEVT Pg.PILOT) 0 = (s.flag (Adr.PEVT Pg.PILOT) 0 || s.cp != cpDecode high low osc || s.flag Adr.PILOT_STAT 3 != osc)
    ∧ t.fld Adr.PILOT_ILIM 11 0 = (if osc then pilotLimit (s.fld Adr.PILOT_CPMEAS 31 22) (s.fld Adr.PILOT_DIGLIM 11 0) else 0)
    ∧ s.KeepsBut [Adr.PILOT_STAT, Adr.PILOT_ILIM, Adr.PEVT Pg.PILOT] t)
  ∧ (∀ osc, s.pilotOn = true → s.obcStore = false → s.obcSession = true → cpDecode high low osc = 0 → ∃ t, exec (.pilotStateChange high low osc) s = .next t
    ∧ t.obcState = 6 ∧ t.reg Adr.OBC_CAUSE = 3#32 ∧ t.obc.iStar = 0)
  ∧ (∀ mv, s.pilotOn = true → s.obcState ≤ 1 → ∃ t, exec (.ppChange mv) s = .next t ∧ t.pp = ppDecode mv
    ∧ t.fld Adr.PILOT_ILIM 27 16 = cableLimit (ppDecode mv) ∧ t.flag Adr.PILOT_STAT 13 = (ppDecode mv != 0 || s.cp != 0)
    ∧ t.flag (Adr.PEVT Pg.PILOT) 1 = (s.flag (Adr.PEVT Pg.PILOT) 1 || s.pp != ppDecode mv)
    ∧ s.KeepsBut [Adr.PILOT_STAT, Adr.PILOT_ILIM, Adr.PEVT Pg.PILOT] t)
  ∧ (∀ mv, s.pilotOn = true → s.obcStore = false → s.obcSession = true → 4700 < mv → ∃ t, exec (.ppChange mv) s = .next t
    ∧ t.pp = 0 ∧ t.obcState = 6 ∧ t.reg Adr.OBC_CAUSE = 3#32)
  ∧ (∀ freq duty : Nat, s.pilotOn = true → 980 ≤ freq → freq ≤ 1020 → duty ≤ 1000 → ∃ t, exec (.pilotCycleMeasured freq duty high low) s = .next t
    ∧ t.flag Adr.PILOT_STAT 3 = true ∧ t.fld Adr.PILOT_CPMEAS 31 22 = duty
    ∧ t.fld Adr.PILOT_ILIM 11 0 = pilotLimit duty (s.fld Adr.PILOT_DIGLIM 11 0)
    ∧ t.flag Adr.PILOT_STAT 11 = (decide (30 ≤ duty) && decide (duty ≤ 70))
    ∧ (pilotLimit duty (s.fld Adr.PILOT_DIGLIM 11 0) ≠ s.fld Adr.PILOT_ILIM 11 0 → t.flag (Adr.PEVT Pg.PILOT) 2 = true)
    ∧ s.KeepsBut [Adr.PILOT_CPMEAS, Adr.PILOT_STAT, Adr.PILOT_ILIM, Adr.PEVT Pg.PILOT] t)
  ∧ ((s.lamp i.toNat).on = true → (s.lamp i.toNat).off = false → ∃ t, exec (.lampOvercurrent i) s = .next t
    ∧ t.lamp i.toNat = { s.lamp i.toNat with off := true } ∧ t.flag Adr.PILOT_LSTAT i.toNat = true ∧ t.flag (Adr.PEVT Pg.PILOT) 3 = true
    ∧ s.KeepsBut [Adr.PILOT_LSTAT, Adr.PEVT Pg.PILOT] t)
  ∧ ((s.lamp i.toNat).off = true → ∃ t, exec (.lampRetry i) s = .next t ∧ t.lamp i.toNat = { s.lamp i.toNat with off := false }
    ∧ t.flag Adr.PILOT_LSTAT i.toNat = false ∧ s.KeepsBut [Adr.PILOT_LSTAT] t)
  ∧ ((s.lamp i.toNat).pattern = 2 ∨ (s.lamp i.toNat).pattern = 3 ∨ (s.lamp i.toNat).pattern = 4 → ∃ t, exec (.lampPattern i) s = .next t
    ∧ (t.lamp i.toNat).on = (!(s.lamp i.toNat).on) ∧ (t.lamp i.toNat).pattern = (s.lamp i.toNat).pattern ∧ s.KeepsBut [] t)
  ∧ ((s.lamp i.toNat).pattern ≤ 1 → ∃ t, exec (.lampPattern i) s = .next t ∧ t.lamps = s.lamps ∧ s.KeepsBut [] t)

/-- The actuator bridges: commands, the 1 ms law and what stops them. (R351, R352, R353, R354, R355, R356, R357, R358, R359) START runs or shows causes 4
and 5; ARM arms only in OFF; STOP coasts; the update ramps the reference by ACCEL and keeps the duty in range; at speed 0 it coasts and then is OFF;
lost Hall, overload, stall and engagement inhibit stop it with causes 6, 7, 3 and 4; bootstrap undervoltage, supply overvoltage and the current limit
act as the rules say. Frames as named. -/
def Obligations.ActuatorBridges : Prop := ∀ (port : Port) (n : Fin 3) (s : State), s.pageOn (Pg.ACT n) = true →
  (s.Owns port (Pg.ACT n) → s.refusalOf port (Adr.ACT_CMD n) .plain 1#32 = none → s.pageEn (Pg.ACT n) = true → s.actState n = 0 →
    s.actSpd n ≠ 0 → s.fld (Adr.PFAULT (Pg.ACT n)) 1 0 = 0 →
    (s.actInhibits n (decide (s.actSpd n < 0)) = false → s.pins.vpAct < 3400 → ∃ t, exec (.actStart port n) s = .next t
      ∧ (t.port port).resp = .ok [] ∧ t.actState n = 1 ∧ (t.act n).sref = 0 ∧ (t.act n).integ = 0 ∧ t.flag (Adr.PEVT (Pg.ACT n)) 0 = true
      ∧ s.KeepsBut [Adr.ACT_STAT n, Adr.PEVT (Pg.ACT n)] t)
    ∧ (∀ x, (s.actInhibits n (decide (s.actSpd n < 0)) = true ∧ x = 4) ∨
      (s.actInhibits n (decide (s.actSpd n < 0)) = false ∧ 3400 ≤ s.pins.vpAct ∧ x = 5) → ∃ t, exec (.actStart port n) s = .next t
      ∧ (t.port port).resp = .ok [] ∧ t.actState n = 0 ∧ t.fld (Adr.ACT_STAT n) 7 4 = x ∧ t.flag (Adr.PEVT (Pg.ACT n)) 0 = true
      ∧ s.KeepsBut [Adr.ACT_STAT n, Adr.PEVT (Pg.ACT n)] t))
  ∧ (s.Owns port (Pg.ACT n) → s.refusalOf port (Adr.ACT_CMD n) .plain 4#32 = none → s.pageEn (Pg.ACT n) = true →
    (s.actState n = 0 → ∃ t, exec (.actArm port n) s = .next t ∧ (t.port port).resp = .ok [] ∧ t.flag (Adr.ACT_STAT n) 9 = true
      ∧ t.actState n = 0 ∧ s.KeepsBut [Adr.ACT_STAT n] t)
    ∧ (s.actState n ≠ 0 → ∃ t, exec (.actArm port n) s = .next t ∧ (t.port port).resp = .ok [] ∧ s.KeepsBut [] t))
  ∧ (s.Owns port (Pg.ACT n) → s.refusalOf port (Adr.ACT_CMD n) .plain 2#32 = none → (s.act n).recent = false → s.actState n ≠ 0 →
    ∃ t, exec (.actStop port n) s = .next t ∧ (t.port port).resp = .ok [] ∧ t.actState n = 2 ∧ t.flag (Adr.ACT_STAT n) 9 = false
      ∧ t.fld (Adr.ACT_STAT n) 7 4 = 1 ∧ t.actD n = 0 ∧ (t.pwm (7 + n)).gate = 7 ∧ (t.act n).again = false
      ∧ s.KeepsBut [Adr.ACT_STAT n, Adr.ACT_DUTY n, Adr.PEVT (Pg.ACT n)] t)
  ∧ (∀ spd ref, s.actState n = 1 → s.actSpd n = spd → (s.act n).sref = ref → spd ≠ 0 →
    ((s.act n).speed = 0 ∨ (spd < 0 ↔ (s.act n).speed < 0) ∨ (s.act n).speed.natAbs < s.fld (Adr.ACT_NCOAST n) 15 0) →
    ∃ t, exec (.actSpeedUpdate n) s = .next t
      ∧ (t.act n).sref = (if ref < spd then min spd (ref + s.fld (Adr.ACT_ACCEL n) 15 0) else max spd (ref - s.fld (Adr.ACT_ACCEL n) 15 0))
      ∧ 0 ≤ t.actD n ∧ t.actD n ≤ max 0 (s.reg (Adr.ACT_DMAX n)).toInt ∧ t.actState n = 1 ∧ s.KeepsBut [Adr.ACT_DUTY n] t)
  ∧ (s.actState n = 1 → s.actSpd n = 0 → ∃ t, exec (.actSpeedUpdate n) s = .next t ∧ t.actState n = 2 ∧ t.actD n = 0
    ∧ (t.pwm (7 + n)).gate = 7 ∧ s.KeepsBut [Adr.ACT_STAT n, Adr.ACT_DUTY n, Adr.PEVT (Pg.ACT n)] t)
  ∧ (s.actState n = 2 → (s.act n).again = false → ∃ t, exec (.actSpeedZero n) s = .next t ∧ t.actState n = 0
    ∧ t.fld (Adr.ACT_STAT n) 31 16 = 0 ∧ (t.act n).speed = 0 ∧ s.KeepsBut [Adr.ACT_STAT n, Adr.PEVT (Pg.ACT n)] t)
  ∧ (s.actState n ≠ 2 → ∃ t, exec (.actSpeedZero n) s = .next t ∧ t.actState n = s.actState n ∧ t.fld (Adr.ACT_STAT n) 31 16 = 0
    ∧ s.KeepsBut [Adr.ACT_STAT n] t)
  ∧ (s.actState n = 1 → (s.act n).recent = false →
    (s.flag (Adr.HALL_STAT n) 3 = false → ∃ t, exec (.actHallTimeout n) s = .next t ∧ t.actState n = 0 ∧ t.fld (Adr.ACT_STAT n) 7 4 = 6
      ∧ t.flag (Adr.PFAULT (Pg.ACT n)) 0 = true ∧ t.flag (Adr.PEVT (Pg.ACT n)) 2 = true ∧ (t.pwm (7 + n)).gate = 7
      ∧ s.KeepsBut [Adr.ACT_STAT n, Adr.ACT_DUTY n, Adr.PEVT (Pg.ACT n), Adr.PFAULT (Pg.ACT n)] t)
    ∧ (∃ t, exec (.actOverload n) s = .next t ∧ t.actState n = 0 ∧ t.fld (Adr.ACT_STAT n) 7 4 = 7
      ∧ t.flag (Adr.PFAULT (Pg.ACT n)) 1 = true ∧ t.flag (Adr.PEVT (Pg.ACT n)) 2 = true ∧ (t.pwm (7 + n)).gate = 7
      ∧ s.KeepsBut [Adr.ACT_STAT n, Adr.ACT_DUTY n, Adr.PEVT (Pg.ACT n), Adr.PFAULT (Pg.ACT n)] t)
    ∧ (214748365 ≤ s.actD n → ∃ t, exec (.actStall n) s = .next t ∧ t.actState n = 0 ∧ t.fld (Adr.ACT_STAT n) 7 4 = 3
      ∧ (t.pwm (7 + n)).gate = 7 ∧ s.KeepsBut [Adr.ACT_STAT n, Adr.ACT_DUTY n, Adr.PEVT (Pg.ACT n)] t)
    ∧ (s.actInhibits n (s.actReverse n) = true → ∃ t, exec (.engageInhibit n) s = .next t ∧ t.actState n = 0
      ∧ t.fld (Adr.ACT_STAT n) 7 4 = 4 ∧ t.flag (Adr.ACT_STAT n) 12 = true ∧ t.flag (Adr.PEVT (Pg.ACT n)) 2 = true
      ∧ (t.pwm (7 + n)).gate = 7 ∧ s.KeepsBut [Adr.ACT_STAT n, Adr.ACT_DUTY n, Adr.PEVT (Pg.ACT n)] t))
  ∧ (s.actState n = 0 ∨ s.actLine n = false → ∃ t, exec (.engageInhibit n) s = .next t ∧ t.actState n = s.actState n
    ∧ t.flag (Adr.ACT_STAT n) 12 = s.actLine n ∧ s.KeepsBut [Adr.ACT_STAT n] t)
  ∧ (∀ (p : Fin 3) mv, mv < 8000 → ∃ t, exec (.bootstrapUndervoltage n p mv) s = .next t ∧ (t.pwm (7 + n)).high.testBit p = true
    ∧ t.flag (Adr.ACT_STAT n) 10 = true ∧ t.flag (Adr.PEVT (Pg.ACT n)) 3 = true ∧ s.KeepsBut [Adr.ACT_STAT n, Adr.PEVT (Pg.ACT n)] t)
  ∧ (∀ (p : Fin 3) mv, 8000 ≤ mv → ∃ t, exec (.bootstrapUndervoltage n p mv) s = .next t ∧ t.pwms = s.pwms ∧ s.KeepsBut [] t)
  ∧ (∀ mv, 36000 < mv → ∃ t, exec (.actSupplyOvervoltage mv) s = .next t ∧ t.pins.vpAct = mv / 10 ∧ (∀ m : Fin 3, t.actState m = 0)
    ∧ (∀ m : Fin 3, (s.act m).recent = false → t.fld (Adr.ACT_STAT m) 7 4 = 5) ∧ (∀ m : Fin 3, (t.pwm (7 + m)).gate = 7)
    ∧ s.KeepsBut ((List.range 3).flatMap fun m => [Adr.ACT_STAT m, Adr.ACT_DUTY m, Adr.PEVT (Pg.ACT m)]) t)
  ∧ (∀ mv, mv ≤ 36000 → ∃ t, exec (.actSupplyOvervoltage mv) s = .next t ∧ t.pins.vpAct = mv / 10 ∧ s.KeepsBut [] t)
  ∧ (∀ ma : Int, s.actState n = 1 → s.fld (Adr.ACT_ILIM n) 4 0 * 1000 < ma.natAbs → ∃ t, exec (.actCurrentLimit n ma) s = .next t
    ∧ t.flag (Adr.ACT_STAT n) 11 = true ∧ (t.pwm (7 + n)).high.testBit (s.actPhase n) = true ∧ s.KeepsBut [Adr.ACT_STAT n] t)
  ∧ (∀ ma : Int, ma.natAbs ≤ s.fld (Adr.ACT_ILIM n) 4 0 * 1000 → ∃ t, exec (.actCurrentLimit n ma) s = .next t ∧ t.pwms = s.pwms
    ∧ s.KeepsBut [] t)

/-- The contactor outputs and their sequence. (R360, R361, R362, R363, R364, R365, R366) CLOSE starts the sequence (with or without the weld test) or
shows causes 6 and 9; OPEN opens at once with NEG delayed; each step's timer leads on or stops with causes 4, 5, 3 and 2; the economiser, cool-down,
overcurrent and disable line act on their outputs alone. -/
def Obligations.Contactors : Prop := ∀ (port : Port) (k : Fin 8) (s : State), s.pageOn Pg.CTR = true →
  (s.Owns port Pg.CTR → s.refusalOf port Adr.CTR_CMD .plain 1#32 = none → s.pageEn Pg.CTR = true → s.ctrState = 0 →
    (s.ctrDis = false → s.flag Adr.SYS_BOOTSTAT 4 = true → s.ctrRolesOk = true → (s.hvWord 0).valid = true → s.flag Adr.CTR_STAT 6 = false →
      s.fld (Adr.PFAULT Pg.CTR) 9 0 = 0 → ∃ t, exec (.ctrClose port) s = .next t ∧ (t.port port).resp = .ok []
        ∧ t.ctrState = (if s.vdcLow then 1 else 3) ∧ t.flag Adr.CTR_STAT 7 = !s.vdcLow ∧ t.flag (Adr.PEVT Pg.CTR) 0 = true
        ∧ (s.ctrRole k = 2 → t.flag Adr.CTR_STAT (24 + k) = !s.vdcLow) ∧ (s.ctrRole k = 3 → t.flag Adr.CTR_STAT (24 + k) = true)
        ∧ (s.ctrRole k = 4 → t.flag Adr.CTR_STAT (24 + k) = false) ∧ s.KeepsBut [Adr.CTR_STAT, Adr.PEVT Pg.CTR] t)
    ∧ (s.ctrDis = true → ∃ t, exec (.ctrClose port) s = .next t ∧ (t.port port).resp = .ok [] ∧ t.ctrState = 0
        ∧ t.fld Adr.CTR_STAT 11 8 = 6 ∧ t.flag (Adr.PEVT Pg.CTR) 0 = true ∧ s.KeepsBut [Adr.CTR_STAT, Adr.PEVT Pg.CTR] t)
    ∧ (s.ctrDis = false → s.flag Adr.SYS_BOOTSTAT 4 = true → s.ctrRolesOk = false → ∃ t, exec (.ctrClose port) s = .next t
        ∧ (t.port port).resp = .ok [] ∧ t.ctrState = 0 ∧ t.fld Adr.CTR_STAT 11 8 = 9 ∧ s.KeepsBut [Adr.CTR_STAT, Adr.PEVT Pg.CTR] t))
  ∧ (s.Owns port Pg.CTR → s.refusalOf port Adr.CTR_CMD .plain 2#32 = none → ∃ t, exec (.ctrOpen port) s = .next t ∧ (t.port port).resp = .ok []
    ∧ t.ctrState = 0 ∧ t.fld Adr.CTR_STAT 11 8 = 1 ∧ (3 ≤ s.ctrRole k → t.flag Adr.CTR_STAT (24 + k) = false)
    ∧ (s.ctrRole k = 2 → t.flag Adr.CTR_STAT (24 + k) =
        (decide (s.ctrState = 5) && s.pageEn Pg.CTR && !s.ctrDis && !s.flag (Adr.PFAULT Pg.CTR) k))
    ∧ s.KeepsBut [Adr.CTR_STAT, Adr.PEVT Pg.CTR] t)
  ∧ (∀ st x, (st = 1 ∧ x = 4) ∨ (st = 2 ∧ x = 5) → s.ctrState = st → (s.vdcLow = true → ∃ t, exec (.ctrStepTimer false) s = .next t
      ∧ t.ctrState = st + 1 ∧ t.flag (Adr.PEVT Pg.CTR) 0 = true ∧ s.KeepsBut [Adr.CTR_STAT, Adr.PEVT Pg.CTR] t)
    ∧ (s.vdcLow = false → ∃ t, exec (.ctrStepTimer false) s = .next t ∧ t.ctrState = 0 ∧ t.fld Adr.CTR_STAT 11 8 = x
      ∧ t.flag (Adr.PFAULT Pg.CTR) (4 + x) = true ∧ t.flag (Adr.PEVT Pg.CTR) 1 = true
      ∧ (2 ≤ s.ctrRole k → t.flag Adr.CTR_STAT (24 + k) = false) ∧ s.KeepsBut [Adr.CTR_STAT, Adr.PEVT Pg.CTR, Adr.PFAULT Pg.CTR] t))
  ∧ (s.ctrState = 3 →
    (s.vdcAbove 20 = true → ∃ t, exec (.ctrStepTimer true) s = .next t ∧ t.ctr.shortOk = true ∧ t.ctrState = 3 ∧ s.KeepsBut [] t)
    ∧ (s.vdcAbove 20 = false → ∃ t, exec (.ctrStepTimer true) s = .next t ∧ t.ctrState = 0 ∧ t.fld Adr.CTR_STAT 11 8 = 3
      ∧ t.flag Adr.CTR_STAT 6 = true ∧ s.KeepsBut [Adr.CTR_STAT, Adr.PEVT Pg.CTR] t)
    ∧ (s.vdcAbove (s.fld Adr.CTR_PRECFG 15 8) = true → s.ctr.shortOk = true → ∃ t, exec (.ctrStepTimer false) s = .next t ∧ t.ctrState = 4
      ∧ s.KeepsBut [Adr.CTR_STAT, Adr.PEVT Pg.CTR] t)
    ∧ (s.vdcAbove (s.fld Adr.CTR_PRECFG 15 8) = false → ∃ t, exec (.ctrStepTimer false) s = .next t ∧ t.ctrState = 0
      ∧ t.fld Adr.CTR_STAT 11 8 = 2 ∧ t.flag Adr.CTR_STAT 6 = true ∧ s.KeepsBut [Adr.CTR_STAT, Adr.PEVT Pg.CTR] t))
  ∧ (s.ctrState = 4 → ∃ t, exec (.ctrStepTimer false) s = .next t ∧ t.ctrState = 5 ∧ (s.ctrRole k = 3 → t.flag Adr.CTR_STAT (24 + k) = false)
    ∧ s.KeepsBut [Adr.CTR_STAT, Adr.PEVT Pg.CTR] t)
  ∧ (∃ t, exec .ctrNegOpen s = .next t ∧ t.ctr.negDue = false ∧ t.ctrState = s.ctrState
    ∧ (s.ctrState = 0 → s.ctrRole k = 2 → t.flag Adr.CTR_STAT (24 + k) = false) ∧ s.KeepsBut [Adr.CTR_STAT] t)
  ∧ (∃ t, exec .tcoolEnd s = .next t ∧ t.flag Adr.CTR_STAT 6 = false ∧ t.ctrState = s.ctrState ∧ s.KeepsBut [Adr.CTR_STAT] t)
  ∧ (∃ t, exec (.pullInEnd k) s = .next t ∧ bit t.ctr.pull k = false ∧ (∀ j : Fin 8, j ≠ k → bit t.ctr.pull j = bit s.ctr.pull j) ∧ s.KeepsBut [] t)
  ∧ (s.flag Adr.CTR_STAT (24 + k) = true → ∃ t, exec (.hsoOvercurrent k) s = .next t ∧ t.flag (Adr.PFAULT Pg.CTR) k = true
    ∧ t.flag Adr.CTR_STAT (24 + k) = false ∧ t.flag (Adr.PEVT Pg.CTR) 1 = true
    ∧ (2 ≤ s.ctrRole k → t.ctrState = 0 ∧ t.fld Adr.CTR_STAT 11 8 = 7) ∧ (s.ctrRole k ≤ 1 → t.ctrState = s.ctrState)
    ∧ s.KeepsBut [Adr.CTR_STAT, Adr.PEVT Pg.CTR, Adr.PFAULT Pg.CTR] t)
  ∧ (s.ctrDis = true → ∃ t, exec .contactorDisable s = .next t ∧ t.flag Adr.CTR_STAT 5 = true ∧ t.ctrState = 0 ∧ t.fld Adr.CTR_STAT 11 8 = 6
    ∧ t.fld Adr.CTR_STAT 31 24 = 0 ∧ s.KeepsBut [Adr.CTR_STAT, Adr.PEVT Pg.CTR] t)
  ∧ (s.ctrDis = false → ∃ t, exec .contactorDisable s = .next t ∧ t.flag Adr.CTR_STAT 5 = false ∧ t.ctrState = s.ctrState
    ∧ s.KeepsBut [Adr.CTR_STAT] t)

/-- How a ring starts, trains, enumerates and measures its nodes. (R377, R378, R379, R380, R394, R434) RUN starts the wake tone, or fails without PLL_NET,
or stays off where the Twin partner owns the ring; training needs one lane and folds with one; enumeration fills the node table and must find NODES
nodes; the measurement gives hop delays, DMAX and the compensation, and fails beyond 39 µs; RUN = 0 stops the ring. -/
def Obligations.RingStartup : Prop := ∀ (port : Port) (k : Fin 4) (s : State), s.pageOn (Pg.EFR k) = true →
  (s.Owns port (Pg.EFR k) → s.refusalOf port (Adr.EFR_CTRL k) .plain (s.withBits (Adr.EFR_CTRL k) 1#32) = none →
    s.flag (Adr.EFR_CTRL k) 0 = false → s.pageEn (Pg.EFR k) = true → s.ringState k = 0 →
    (s.ringOwned k = true → s.flag Adr.SYS_CLKSTAT 4 = true → ∃ t, exec (.ringRun port k) s = .next t ∧ (t.port port).resp = .ok []
      ∧ t.ringState k = 1 ∧ t.flag (Adr.EFR_CTRL k) 0 = true ∧ (t.ring k).tone = s.now + 1200001 ∧ t.ringFold k = false
      ∧ t.fld (Adr.EFR_STAT k) 31 28 = 0 ∧ s.KeepsBut [Adr.EFR_CTRL k, Adr.EFR_STAT k, Adr.PEVT (Pg.EFR k)] t)
    ∧ (s.ringOwned k = true → s.flag Adr.SYS_CLKSTAT 4 = false → ∃ t, exec (.ringRun port k) s = .next t ∧ (t.port port).resp = .ok []
      ∧ t.ringState k = 7 ∧ t.fld (Adr.EFR_STAT k) 31 28 = 1 ∧ s.KeepsBut [Adr.EFR_CTRL k, Adr.EFR_STAT k, Adr.PEVT (Pg.EFR k)] t)
    ∧ (s.ringOwned k = false → ∃ t, exec (.ringRun port k) s = .next t ∧ (t.port port).resp = .ok [] ∧ t.ringState k = 0
      ∧ (t.ring k).loopback = true ∧ s.KeepsBut [Adr.EFR_CTRL k] t))
  ∧ (s.Owns port (Pg.EFR k) → s.refusalOf port (Adr.EFR_CTRL k) .plain (s.withoutBits (Adr.EFR_CTRL k) 1#32) = none →
    s.flag (Adr.EFR_CTRL k) 0 = true → (s.ring k).tags = [] → s.fld (Adr.EFR_TQHEAD k) 7 0 = s.fld (Adr.EFR_TQTAIL k) 7 0 →
    ∃ t, exec (.ringStop port k) s = .next t ∧ (t.port port).resp = .ok [] ∧ t.ringState k = 0 ∧ t.fld (Adr.EFR_CTRL k) 1 0 = 0
      ∧ t.ringFold k = false ∧ (t.ring k).loopback = false ∧ (t.ring k).sent = false
      ∧ s.KeepsBut [Adr.EFR_CTRL k, Adr.EFR_STAT k, Adr.EFR_TAGS k, Adr.PEVT (Pg.EFR k)] t)
  ∧ (s.Owns port (Pg.EFR k) → s.refusalOf port (Adr.EFR_CTRL k) .plain (s.withBits (Adr.EFR_CTRL k) 4#32) = none →
    ∃ t, exec (.ringTone port k) s = .next t ∧ (t.port port).resp = .ok [] ∧ t.ring k = { s.ring k with tone := s.now + 1200001 } ∧ s.KeepsBut [] t)
  ∧ (∀ a b, s.ringState k = 1 ∨ s.ringState k = 2 → ∃ t, exec (.ringTrainEnd k a b) s = .next t ∧ t.flag (Adr.EFR_STAT k) 5 = a
    ∧ t.flag (Adr.EFR_STAT k) 6 = b ∧ ((a || b) = true → t.ringState k = 3 ∧ t.ringFold k = !(a && b))
    ∧ ((a || b) = false → t.ringState k = 7 ∧ t.fld (Adr.EFR_STAT k) 31 28 = 1) ∧ s.KeepsBut [Adr.EFR_STAT k, Adr.PEVT (Pg.EFR k)] t)
  ∧ (∀ (l : List (Nat × NodeFacts)), s.ringState k = 3 → s.ringFold k = false → l.length = s.fld (Adr.EFR_CFG k) 8 0 →
    ∃ t, exec (.ringEnumDone k l [] false) s = .next t ∧ t.ringState k = 4 ∧ t.fld (Adr.EFR_STAT k) 24 16 = l.length
      ∧ (t.ring k).reachA = l.length ∧ (t.ring k).reachB = l.length ∧ t.reg (Adr.EFR_BRK k) = 0#32
      ∧ (∀ (a : Fin 256) e, l.find? (fun x => x.1 == a.val) = some e → t.fld (Adr.EFR_NT k a) 28 11 = e.2.tmask.toNat
          ∧ t.fld (Adr.EFR_NT k a) 10 6 = e.2.ncell % 32 ∧ t.fld (Adr.EFR_NT k a) 5 0 = s.fld (Adr.EFR_NT k a) 5 0 ∧ t.ringNode k a = e.2)
      ∧ (∀ a : Fin 256, l.find? (fun x => x.1 == a.val) = none → t.reg (Adr.EFR_NT k a) = s.reg (Adr.EFR_NT k a) &&& 0x3F#32)
      ∧ s.KeepsButPages [Pg.EFR k] t)
  ∧ (∀ l m full, s.ringState k = 3 → full = true ∨ (m = [] ∧ l.length ≠ s.fld (Adr.EFR_CFG k) 8 0) → ∃ t, exec (.ringEnumDone k l m full) s = .next t
    ∧ t.ringState k = 7 ∧ t.fld (Adr.EFR_STAT k) 31 28 = 2 ∧ t.flag (Adr.PFAULT (Pg.EFR k)) 0 = true ∧ s.KeepsButPages [Pg.EFR k] t)
  ∧ (∀ (hops : List (Nat × Option Nat × Option Nat)) (ds : List Nat), s.ringState k = 4 → (∀ h ∈ hops, h.1 < 256) →
    ds = hops.flatMap (fun h => h.2.1.toList ++ h.2.2.toList) → s.fld (Adr.EFR_TQHEAD k) 7 0 = s.fld (Adr.EFR_TQTAIL k) 7 0 →
    ∃ t, exec (.ringMeasDone k hops) s = .next t ∧ t.reg (Adr.EFR_DMAX k) = w32 (min (ds.foldl max 0) 65535)
      ∧ ((∀ d ∈ ds, d ≤ 39000) → t.ringState k = 5) ∧ ((∃ d ∈ ds, 39000 < d) → t.ringState k = 7 ∧ t.fld (Adr.EFR_STAT k) 31 28 = 3)
      ∧ s.KeepsButPages [Pg.EFR k] t)
  ∧ (∀ (a : Fin 256) (x y : Nat), s.ringState k = 4 → x ≤ 39000 → y ≤ 39000 → s.fld (Adr.EFR_TQHEAD k) 7 0 = s.fld (Adr.EFR_TQTAIL k) 7 0 →
    ∃ t, exec (.ringMeasDone k [(a, some x, some y)]) s = .next t ∧ t.reg (Adr.EFR_HOP k a) = w32 (y * 65536 + x)
      ∧ Store.get (fun _ => 0#32) (t.ring k).comp a = w32 ((40000 - y) * 65536 + (40000 - x)) ∧ t.ringState k = 5)

/-- Ring streaming, its records, its lanes and its transactions. (R371, R381, R383, R388, R389, R393, R390, R391) STREAM starts with good parameters; SYNC
starts the cycle; the record of a received cycle goes to the other buffer alone, with its number and event, aborted cycles count; a lost lane folds
the ring and a gap between the reached nodes faults; a lane's return unfolds. A descriptor is refused with its result or issued with the lowest free
tag; its end writes result, tag and payload and frees the tag. -/
def Obligations.RingTraffic : Prop :=
  (∀ (port : Port) (k : Fin 4) (s : State), s.pageOn (Pg.EFR k) = true →
  (s.Owns port (Pg.EFR k) → s.refusalOf port (Adr.EFR_CTRL k) .plain (s.withBits (Adr.EFR_CTRL k) 2#32) = none →
    s.fld (Adr.EFR_CTRL k) 1 0 = 1 → s.ringState k = 5 →
    (s.ringParam k = false → ∃ t, exec (.ringStreamStart port k) s = .next t ∧ (t.port port).resp = .ok [] ∧ t.ringState k = 6
      ∧ t.fld (Adr.EFR_CTRL k) 1 0 = 3 ∧ (t.ring k).recon = [] ∧ s.KeepsBut [Adr.EFR_CTRL k, Adr.EFR_STAT k, Adr.PEVT (Pg.EFR k)] t)
    ∧ (s.ringParam k = true → ∃ t, exec (.ringStreamStart port k) s = .next t ∧ (t.port port).resp = .ok [] ∧ t.ringState k = 5
      ∧ t.fld (Adr.EFR_CTRL k) 1 0 = 1 ∧ t.flag (Adr.PFAULT (Pg.EFR k)) 2 = true
      ∧ s.KeepsBut [Adr.EFR_CTRL k, Adr.PFAULT (Pg.EFR k), Adr.PEVT (Pg.EFR k)] t))
  ∧ (s.ringState k = 5 ∨ s.ringState k = 6 → ∃ t, exec (.ringSync k) s = .next t
    ∧ t.ring k = { s.ring k with cycle := s.now / max (s.fld (Adr.EFR_PERIOD k) 23 0) 1, sent := false,
                                 tc := s.now / max (s.fld (Adr.EFR_PERIOD k) 23 0) 1 * max (s.fld (Adr.EFR_PERIOD k) 23 0) 1 }
    ∧ s.KeepsBut [] t)
  ∧ (s.ringState k = 6 → ∃ t, exec (.ringStreamSend k) s = .next t ∧ t.ring k = { s.ring k with sent := true } ∧ s.KeepsBut [] t)
  ∧ (∀ areas aborted base buf, s.ringState k = 6 → (s.ring k).sent = true → s.zState k ≠ 1 → buf = 1 - s.fld (Adr.EFR_SSTAT k) 0 0 →
    base = (s.reg (Adr.EFR_DBASE k)).toNat + buf * 0x3000 → ∃ t, exec (.ringStreamReceive k areas aborted) s = .next t
      ∧ t.reg (Adr.EFR_SSTAT k) = w32 ((s.ring k).cycle % 65536 * 65536 + buf) ∧ (t.ring k).sent = false
      ∧ t.flag (Adr.PEVT (Pg.EFR k)) 0 = true ∧ (t.word (0xC3 + 4 * k)).valid = true
      ∧ (aborted = true → t.fld (Adr.EFR_ERRCNT k) 31 16 = min (s.fld (Adr.EFR_ERRCNT k) 31 16 + 1) 65535
          ∧ t.fld (Adr.EFR_ERRCNT k) 15 0 = min (s.fld (Adr.EFR_ERRCNT k) 15 0 + (s.ringEnabled k).length) 65535)
      ∧ (∀ a, a < base ∨ base + 0x3000 ≤ a → t.byte a = s.byte a)
      ∧ (∀ a, a / 4096 ≠ Pg.EFR k → a / 4096 ≠ Pg.TBU → irqReg a = false → t.reg a = s.reg a))
  ∧ (∀ areas aborted, (s.ring k).sent = false → ∃ t, exec (.ringStreamReceive k areas aborted) s = .next t ∧ t.rings = s.rings ∧ s.KeepsBut [] t)
  ∧ (∀ (b : Bool) (i x y : Nat), i = (if b then 6 else 5) → 3 ≤ s.ringState k → s.ringState k ≤ 6 → ∃ t, exec (.ringLaneDown k b x y) s = .next t
    ∧ t.flag (Adr.EFR_STAT k) i = false ∧ t.ringFold k = true ∧ (t.ring k).reachA = x ∧ (t.ring k).reachB = y
    ∧ t.flag (Adr.PEVT (Pg.EFR k)) 4 = (s.flag (Adr.PEVT (Pg.EFR k)) 4 || s.flag (Adr.EFR_STAT k) i)
    ∧ ((∃ e ∈ (s.ring k).nodes, x ≤ e.1 ∧ e.1 < y) → t.flag (Adr.PFAULT (Pg.EFR k)) 1 = true)
    ∧ s.KeepsBut [Adr.EFR_STAT k, Adr.EFR_BRK k, Adr.PFAULT (Pg.EFR k), Adr.PEVT (Pg.EFR k)] t)
  ∧ (∀ (b : Bool) (i j : Nat), i = (if b then 6 else 5) → j = (if b then 5 else 6) → s.flag (Adr.EFR_STAT k) j = true → s.ringFold k = true →
    ∃ t, exec (.ringLaneUp k b) s = .next t ∧ t.flag (Adr.EFR_STAT k) i = true ∧ t.ringFold k = false ∧ t.reg (Adr.EFR_BRK k) = 0#32
      ∧ s.KeepsBut [Adr.EFR_STAT k, Adr.EFR_BRK k, Adr.PEVT (Pg.EFR k)] t)
  ∧ (∀ (b : Bool) (i j : Nat), i = (if b then 6 else 5) → j = (if b then 5 else 6) → s.flag (Adr.EFR_STAT k) j = false →
    ∃ t, exec (.ringLaneUp k b) s = .next t ∧ t.flag (Adr.EFR_STAT k) i = true ∧ t.ringFold k = s.ringFold k
      ∧ s.KeepsBut [Adr.EFR_STAT k, Adr.PEVT (Pg.EFR k)] t))
  ∧ (∀ (port : Port) (k : Fin 4) (s : State), s.pageOn (Pg.EFR k) = true →
  (∀ tail : BitVec 8, s.Owns port (Pg.EFR k) → s.refusalOf port (Adr.EFR_TQTAIL k) .plain (tail.zeroExtend 32) = none →
    (s.ringState k ≠ 5 → s.ringState k ≠ 6 → ∃ t, exec (.tqtailWrite port k tail) s = .next t ∧ (t.port port).resp = .ok []
      ∧ t.fld (Adr.EFR_TQTAIL k) 7 0 = tail.toNat ∧ t.rings = s.rings ∧ s.KeepsBut [Adr.EFR_TQTAIL k] t)
    ∧ (∀ i ws, s.ringState k = 5 ∨ s.ringState k = 6 → s.pageEn (Pg.EFR k) = true → s.pageSafeSt (Pg.EFR k) = false → s.ringOwned k = true →
      (s.ring k).tags = [] → i = s.fld (Adr.EFR_TQHEAD k) 7 0 → tail.toNat = (i + 1) % s.tqLen k → i ≠ tail.toNat →
      ws = (List.range 4).map (fun j => s.mword (s.tqAddr k i + 4 * j)) →
      (s.txRefusal k ws = 0 → ∃ t, exec (.tqtailWrite port k tail) s = .next t ∧ (t.port port).resp = .ok [] ∧ (t.ring k).tags = [(0, ⟨i, ws⟩)]
        ∧ t.reg (Adr.EFR_TAGS k) = 1#32 ∧ t.fld (Adr.EFR_TQHEAD k) 7 0 = tail.toNat
        ∧ s.KeepsBut [Adr.EFR_TQTAIL k, Adr.EFR_TQHEAD k, Adr.EFR_TAGS k] t)
      ∧ (s.txRefusal k ws ≠ 0 → inSram (s.tqAddr k i + 4) 4 = true → ∃ t, exec (.tqtailWrite port k tail) s = .next t
        ∧ (t.port port).resp = .ok [] ∧ (t.ring k).tags = [] ∧ t.fld (Adr.EFR_TQHEAD k) 7 0 = tail.toNat
        ∧ bit (t.mword (s.tqAddr k i + 4)) 31 = true ∧ bits (t.mword (s.tqAddr k i + 4)) 27 24 = s.txRefusal k ws
        ∧ t.flag (Adr.PEVT (Pg.EFR k)) 1 = true ∧ t.flag (Adr.PEVT (Pg.EFR k)) 2 = true
        ∧ (∀ a, a < s.tqAddr k i + 4 ∨ s.tqAddr k i + 8 ≤ a → t.byte a = s.byte a)
        ∧ s.RegsBut [Adr.EFR_TQTAIL k, Adr.EFR_TQHEAD k, Adr.PEVT (Pg.EFR k)] t)))
  ∧ (∀ (tag : Fin 32) e d, (s.ring k).tags = [(tag.val, e)] → s.fld (Adr.EFR_TQHEAD k) 7 0 = s.fld (Adr.EFR_TQTAIL k) 7 0 →
    d = s.tqAddr k e.index + 4 → inSram d 4 = true →
    (∀ c r, (c = .ringTransactionTimeout k tag ∧ r = 3) ∨ (∃ data st ack, c = .ringTransactionComplete k tag data st ack true ∧ r = 4) →
      ∃ t, exec c s = .next t ∧ (t.ring k).tags = [] ∧ t.reg (Adr.EFR_TAGS k) = 0#32 ∧ bit (t.mword d) 31 = true
        ∧ bits (t.mword d) 27 24 = r ∧ bits (t.mword d) 20 16 = tag.val ∧ t.flag (Adr.PEVT (Pg.EFR k)) 1 = true
        ∧ t.flag (Adr.PEVT (Pg.EFR k)) 2 = true ∧ (∀ a, a < d ∨ d + 4 ≤ a → t.byte a = s.byte a)
        ∧ s.RegsBut [Adr.EFR_TAGS k, Adr.PEVT (Pg.EFR k)] t)
    ∧ (∀ (x status : Word) ack pay, bits (nthD 0#32 e.words 0) 31 28 = 1 → bits (nthD 0#32 e.words 0) 23 16 = 1 →
      pay = (nthD 0#32 e.words 2).toNat → inSram pay 8 = true → pay + 8 ≤ d ∨ d + 4 ≤ pay →
      ∃ t, exec (.ringTransactionComplete k tag [x] status ack false) s = .next t ∧ (t.ring k).tags = [] ∧ t.mword pay = x
        ∧ t.mword (pay + 4) = status ∧ bit (t.mword d) 31 = true ∧ bits (t.mword d) 27 24 = (if bits status 7 0 = 1 then 0 else 2)
        ∧ bits (t.mword d) 20 16 = tag.val ∧ t.flag (Adr.PEVT (Pg.EFR k)) 1 = true
        ∧ (∀ a, (a < d ∨ d + 4 ≤ a) → (a < pay ∨ pay + 8 ≤ a) → t.byte a = s.byte a)
        ∧ s.RegsBut [Adr.EFR_TAGS k, Adr.PEVT (Pg.EFR k)] t))
  ∧ (∀ (tag : Fin 32) data st ack ab, (∀ e ∈ (s.ring k).tags, e.1 ≠ tag.val) → (∃ t, exec (.ringTransactionTimeout k tag) s = .next t
      ∧ t.rings = s.rings ∧ s.KeepsBut [] t)
    ∧ ∃ t, exec (.ringTransactionComplete k tag data st ack ab) s = .next t ∧ t.rings = s.rings ∧ s.KeepsBut [] t))

/-- The correlator's blocks. (R396, R397, R398, R400) START on a streaming ring clears the ring's RAM and sums and runs; ABORT idles it; the copy's end
places RAM and current sums at ZDST, clears both and runs on; nothing happens in other states. -/
def Obligations.CorrelatorBlocks : Prop := ∀ (port : Port) (k : Fin 4) (s : State),
  (s.Owns port Pg.ZCOR → s.refusalOf port (Adr.ZCOR_ZCTRL k) .plain 1#32 = none → s.pageEn Pg.ZCOR = true → s.ringState k = 6 → s.zState k ≠ 3 →
    ∃ t, exec (.zcorStart port k) s = .next t ∧ (t.port port).resp = .ok [] ∧ t.zState k = 1 ∧ t.reg (Adr.ZCOR_ZN k) = 0#32
      ∧ (∀ j : Fin 32, t.reg (Adr.ZCOR_IIL0 k + 4 * j) = 0#32) ∧ (t.zcor k).first = []
      ∧ (∀ a, zRam k ≤ a → a < zRam k + 0x80000 → t.byte a = 0#8)
      ∧ (∀ a, a < zRam k ∨ zRam k + 0x80000 ≤ a → t.byte a = s.byte a)
      ∧ ∀ a, a / 4096 ≠ Pg.ZCOR → irqReg a = false → t.reg a = s.reg a)
  ∧ (s.Owns port Pg.ZCOR → s.refusalOf port (Adr.ZCOR_ZCTRL k) .plain 1#32 = none → s.ringState k ≠ 6 ∨ s.zState k = 3 →
    ∃ t, exec (.zcorStart port k) s = .next t ∧ (t.port port).resp = .ok [] ∧ s.KeepsBut [] t)
  ∧ (s.Owns port Pg.ZCOR → s.refusalOf port (Adr.ZCOR_ZCTRL k) .plain 2#32 = none → ∃ t, exec (.zcorAbort port k) s = .next t
    ∧ (t.port port).resp = .ok [] ∧ t.zState k = 0 ∧ s.KeepsBut [Adr.ZCOR_ZSTAT k] t)
  ∧ (∀ dst, s.zState k = 3 → Memory.wf s.mem → dst = (s.reg (Adr.ZCOR_ZDST k)).toNat → inSram dst 0x80080 = true → ∃ t, exec (.zcorCopyDone k) s = .next t
    ∧ t.zState k = 1 ∧ (∀ i, i < 0x80000 → t.byte (dst + i) = s.byte (zRam k + i))
    ∧ (∀ j : Fin 32, t.mword (dst + 0x80000 + 4 * j) = s.reg (Adr.ZCOR_IIL0 k + 4 * j))
    ∧ (∀ a, zRam k ≤ a → a < zRam k + 0x80000 → t.byte a = 0#8)
    ∧ (∀ a, (a < zRam k ∨ zRam k + 0x80000 ≤ a) → (a < dst ∨ dst + 0x80080 ≤ a) → t.byte a = s.byte a)
    ∧ ∀ a, a / 4096 ≠ Pg.ZCOR → irqReg a = false → t.reg a = s.reg a)
  ∧ (s.zState k ≠ 3 → ∃ t, exec (.zcorCopyDone k) s = .next t ∧ s.KeepsBut [] t)

/-- Mailbox requests that read, and those that set. (R402, R404, R416, R417, R418, R460, R50, R405, R413, R415) VERSION, METER_READ, DATA_LOAD, BB_READ
and PASSPORT_GET answer the bytes named (payload layouts are the model's, assumption 60) and change nothing else; WAKE_CFG, RETAIN_WRITE, BB_MARK,
BB_CFG, FC_CFG, FC_ARM and PASSPORT_ZADD, with arguments in range, set what they name, with every other register and the memory outside the mailbox
kept. -/
def Obligations.MailboxRecords : Prop :=
  (∀ (pair : Fin 2) (s : State),
  (s.Calls pair 0x01 0 → ∃ t, exec (.version pair) s = .next t ∧
    s.Reads pair (wordBytes (s.reg Adr.MBX_IMGVER) ++ wordBytes (w32 s.kept.rollback)
      ++ (List.range 4).flatMap fun k => wordBytes (Config.serial k)) t)
  ∧ (s.Calls pair 0x50 0 → ∃ t, exec (.meterRead pair) s = .next t ∧
    s.Reads pair ([s.gms.meter.eIn, s.gms.meter.eOut, s.gms.meter.qIn, s.gms.meter.qOut].flatMap (fun a => natBytes 8 (a / 2 ^ 32))
      ++ natBytes 4 (s.gms.meter.gapTicks / 600000) ++ natBytes 4 s.gms.meter.calseq) t)
  ∧ (∀ off len, s.Calls pair 0x21 0 → 8 ≤ s.reqLen pair → (s.reqWord pair 0).toNat = off → (s.reqWord pair 1).toNat = len →
    len ≤ 16384 → off + len ≤ dataRoom → ∃ t, exec (.dataLoad pair) s = .next t ∧
      s.Reads pair ((List.range len).map fun k =>
        nthD 0#8 (s.bankBody Config.dataMagic (dataBank pair) (dataBank pair + 0x80000) 0x80000) (off + k)) t)
  ∧ (∀ off len b, s.Calls pair 0x42 0 → 8 ≤ s.reqLen pair → (s.reqWord pair 0).toNat = off → (s.reqWord pair 1).toNat = len →
    len ≤ 16384 → off + len ≤ 0x100000 → s.newestBank bbMagic bb0 bb1 0x100000 = some b →
      ∃ t, exec (.bbRead pair) s = .next t ∧ s.Reads pair (s.bytes (b + off) len) t)
  ∧ (∀ off len, s.Calls pair 0x60 0 → 8 ≤ s.reqLen pair → (s.reqWord pair 0).toNat = off → (s.reqWord pair 1).toNat = len →
    len ≤ 16384 → off ≤ s.passport.length →
      ∃ t, exec (.passportGet pair) s = .next t ∧ s.Reads pair ((s.passport.drop off).take len) t))
  ∧ (∀ (pair : Fin 2) (s : State),
  (s.Calls pair 0x15 0 → 16 ≤ s.reqLen pair → ∃ t, exec (.wakeCfg pair) s = .next t ∧ s.Answered pair 0 t
    ∧ t.reg Adr.SYS_WAKEEN = (s.reg Adr.SYS_WAKEEN ||| s.reqWord pair 0) &&& ~~~(s.reqWord pair 1) &&& 0x3FFFF#32
    ∧ t.reg Adr.SYS_WAKETMR = s.reqWord pair 2 ∧ t.reg Adr.SYS_WAKESRC = s.reg Adr.SYS_WAKESRC &&& ~~~(s.reqWord pair 3)
    ∧ s.RegsBut [Adr.PEVT Pg.MBX, Adr.SYS_WAKEEN, Adr.SYS_WAKETMR, Adr.SYS_WAKESRC] t ∧ s.MemButMailbox t)
  ∧ (∀ n, s.Calls pair 0x16 0 → 0 < n → s.reqLen pair = 8 * n → (∀ k, k < n → (s.reqWord pair (2 * k)).toNat / 8 = pair.val) →
    ∃ t, exec (.retainWrite pair) s = .next t ∧ s.Answered pair 0 t
      ∧ (∀ k, k < n → (∀ j, k < j → j < n → s.reqWord pair (2 * j) ≠ s.reqWord pair (2 * k)) →
          t.reg (Adr.SYS_RETAIN (s.reqWord pair (2 * k)).toNat) = s.reqWord pair (2 * k + 1))
      ∧ s.RegsBut (Adr.PEVT Pg.MBX :: (List.range n).map fun k => Adr.SYS_RETAIN (s.reqWord pair (2 * k)).toNat) t ∧ s.MemButMailbox t)
  ∧ (s.Calls pair 0x40 0 → 4 ≤ s.reqLen pair → s.gms.bb.log.length < 8192 → ∃ t, exec (.bbMark pair) s = .next t ∧ s.Answered pair 0 t
    ∧ t.gms.bb.log = s.gms.bb.log ++ [⟨s.now, 1, .mark, 0, s.gms.bb.starts % 65536, bits (s.reqWord pair 0) 15 0⟩]
    ∧ s.RegsBut [Adr.PEVT Pg.MBX] t ∧ s.MemButMailbox t)
  ∧ (s.Calls pair 0x43 0 → 36 ≤ s.reqLen pair → 10 ≤ (s.reqWord pair 8).toNat → (s.reqWord pair 8).toNat ≤ 3600 →
    ∃ t, exec (.bbCfg pair) s = .next t ∧ s.Answered pair 0 t
      ∧ t.gms.bb = { s.gms.bb with recmask := BitVec.ofNat 256 (bytesNat (s.reqBytes pair 0 32)), bbper := (s.reqWord pair 8).toNat }
      ∧ s.RegsBut [Adr.PEVT Pg.MBX] t ∧ s.MemButMailbox t)
  ∧ (s.Calls pair 0x44 0 → 92 ≤ s.reqLen pair → 1 ≤ (s.reqWord pair 16).toNat → (s.reqWord pair 16).toNat ≤ 1000 →
    (s.reqWord pair 17).toNat ≤ 2000 → ∃ t, exec (.fcCfg pair) s = .next t ∧ s.Answered pair 0 t
      ∧ t.gms.fc.fcper = (s.reqWord pair 16).toNat ∧ t.gms.fc.fcpost = (s.reqWord pair 17).toNat
      ∧ (∀ k, k < 16 → t.gms.fc.sels[k]? = some (bits (s.reqWord pair k) 15 0))
      ∧ t.gms.fc.trig = (([18, 19, 20, 21].filter fun k => bit (s.reqWord pair k) 31).map fun k => bits (s.reqWord pair k) 7 0)
      ∧ s.RegsBut [Adr.PEVT Pg.MBX] t ∧ s.MemButMailbox t)
  ∧ (∀ w : Bool, s.Calls pair 0x45 0 → 4 ≤ s.reqLen pair → s.reqWord pair 0 = (if w then 1#32 else 0#32) →
    ∃ t, exec (.fcArm pair) s = .next t ∧ s.Answered pair 0 t
      ∧ t.flag Adr.MBX_GSTAT 11 = w ∧ t.flag Adr.MBX_GSTAT 12 = false ∧ t.gms.fc.trigAt = none ∧ t.gms.fc.segs = []
      ∧ s.RegsBut [Adr.PEVT Pg.MBX, Adr.MBX_GSTAT] t ∧ s.MemButMailbox t)
  ∧ (s.Calls pair 0x61 0 → 24 ≤ s.reqLen pair → s.gms.meter.trend.length < 1024 → ∃ t, exec (.passportZadd pair) s = .next t ∧ s.Answered pair 0 t
    ∧ t.gms.meter.trend = s.gms.meter.trend
        ++ [⟨s.reqWord pair 0, s.reqWord pair 1, s.reqWord pair 2, s.reqWord pair 3, s.reqWord pair 4, s.reqWord pair 5⟩]
    ∧ s.RegsBut [Adr.PEVT Pg.MBX] t ∧ s.MemButMailbox t))

/-- Comparison windows, verdicts, delay faults, core inputs and debug. (R118, R119, R120, R121, R123, R124, R125, R127, R128, R129, R132, R133, R137,
R126, R135, R139, R140) A window's end notes both cores' signatures; equal ones count and show, the final one before a split sets the checker free at
SPLIT_ENTRY, unequal ones outside an asynchronous window fault and reset the pair; a delay fault does. AXFIN reads the interrupt inputs into rd; a
wake marks the window asynchronous; an open debug halts, writes the main core, and replays the writes in the checker at resume; PAIR_RESTART restarts
the halted other pair or answers 4. -/
def Obligations.LockStep : Prop :=
  (∀ (n : Fin 2) (s : State),
  (∀ main checker, s.windowsRun n = true → (s.pair n).window = none → ∃ t, exec (.windowClose n main checker) s = .next t
    ∧ (t.pair n).window = some ⟨signature main, signature checker, s.flag (Adr.PAIR_STAT n) 3⟩ ∧ t.flag (Adr.PAIR_STAT n) 3 = false
    ∧ s.RegsBut [Adr.PAIR_STAT n] t ∧ t.cores = s.cores ∧ t.mem = s.mem)
  ∧ (∀ w, (s.pair n).window = some w → w.main = w.checker → (s.pair n).final = false → ∃ t, exec (.compareResult n true) s = .next t
    ∧ (t.pair n).window = none ∧ t.reg (Adr.PAIR_SIGL n) = w.main.extractLsb' 0 32 ∧ t.reg (Adr.PAIR_SIGH n) = w.main.extractLsb' 32 32
    ∧ t.reg (Adr.PAIR_WINCNT n) = s.reg (Adr.PAIR_WINCNT n) + 1#32
    ∧ s.RegsBut [Adr.PAIR_SIGL n, Adr.PAIR_SIGH n, Adr.PAIR_WINCNT n] t ∧ t.cores = s.cores ∧ t.mem = s.mem)
  ∧ (∀ w, (s.pair n).window = some w → w.main = w.checker → (s.pair n).final = true → ∃ t, exec (.compareResult n true) s = .next t
    ∧ t.pairMode n = 0 ∧ t.core (checkCore n) = { Core.reset with pc := s.reg (Adr.PAIR_SPLIT_ENTRY n) }
    ∧ t.core (mainCore n) = { s.core (mainCore n) with stalled := false }
    ∧ s.RegsBut [Adr.PAIR_SIGL n, Adr.PAIR_SIGH n, Adr.PAIR_WINCNT n, Adr.PAIR_STAT n, Adr.PEVT (Pg.PAIR n)] t ∧ t.mem = s.mem)
  ∧ (∀ w ok, (s.pair n).window = some w → s.pairMode n ≠ 3 → (ok = false ∨ (w.main ≠ w.checker ∧ w.async = false)) →
    ∃ t, exec (.compareResult n ok) s = .next t ∧ (t.pair n).inReset = true ∧ (t.pair n).wire = true ∧ (t.pair n).window = none
      ∧ t.core (mainCore n) = Core.reset ∧ t.core (checkCore n) = Core.reset)
  ∧ (s.pairRuns n = true → s.pairMode n = 1 → ∃ t, exec (.delayFault n) s = .next t ∧ (t.pair n).inReset = true ∧ (t.pair n).wire = true
      ∧ t.core (mainCore n) = Core.reset ∧ t.core (checkCore n) = Core.reset))
  ∧ (∀ (n : Fin 2) (s : State),
  (∀ (c : Fin 4) (rd : Fin 32), s.coreRuns c = true → rd ≠ 0 → ∃ t, exec (.axfinRead c rd) s = .next t
    ∧ (t.core c).xreg rd = s.axfin (c / 2) ∧ (∀ r : Nat, r ≠ rd.val → (t.core c).xreg r = (s.core c).xreg r)
    ∧ (s.pairMode (c / 2) = 1 → t.flag (Adr.PAIR_STAT (c / 2)) 3 = true) ∧ s.RegsBut [Adr.PAIR_STAT (c / 2)] t ∧ t.mem = s.mem)
  ∧ (∀ c : Fin 4, s.coreRuns c = true → ∃ t, exec (.axfinRead c 0) s = .next t ∧ t.core c = s.core c
    ∧ s.RegsBut [Adr.PAIR_STAT (c / 2)] t ∧ t.mem = s.mem)
  ∧ (∀ (c : Fin 4) (k : Fin 4), s.coreRuns c = true → bit ((s.core c).csrReg 0x7C0) k = true → s.pairMode (c / 2) = 1 →
    ∃ t, exec (.devEdgeWake c k) s = .next t ∧ t.flag (Adr.PAIR_STAT (c / 2)) 3 = true ∧ t.cores = s.cores
      ∧ s.RegsBut [Adr.PAIR_STAT (c / 2)] t ∧ t.mem = s.mem)
  ∧ (s.debugOpen n = true → ∃ t, exec (.debugHalt n) s = .next t ∧ t.flag (Adr.PAIR_STAT n) 6 = true ∧ t.cores = s.cores
    ∧ s.RegsBut [Adr.PAIR_STAT n] t ∧ t.mem = s.mem)
  ∧ (∀ r v, s.debugOpen n = true → s.flag (Adr.PAIR_STAT n) 6 = true → s.pairMode n = 1 → (s.pair n).replay.length < 64 →
    ∃ t, exec (.debugAbstractCommand n r v) s = .next t ∧ t.core (mainCore n) = (s.core (mainCore n)).write r v
      ∧ t.core (checkCore n) = s.core (checkCore n) ∧ (t.pair n).replay = (s.pair n).replay ++ [(r, v)]
      ∧ t.fld (Adr.PAIR_STAT n) 14 8 = (s.pair n).replay.length + 1 ∧ s.RegsBut [Adr.PAIR_STAT n] t ∧ t.mem = s.mem)
  ∧ (s.pairRuns n = true → s.flag (Adr.PAIR_STAT n) 6 = true → s.pairMode n = 1 → ∃ t, exec (.debugResume n) s = .next t
    ∧ t.flag (Adr.PAIR_STAT n) 6 = false ∧ (t.pair n).replay = [] ∧ t.core (mainCore n) = s.core (mainCore n)
    ∧ t.core (checkCore n) = (s.pair n).replay.foldl (fun c e => c.write e.1 e.2) (s.core (checkCore n))
    ∧ s.RegsBut [Adr.PAIR_STAT n] t ∧ t.mem = s.mem)
  ∧ (s.Calls n 0x13 0 → s.pairMode (1 - n.val) = 3 → s.domOn (3 + (1 - n.val)) = true → ∃ t, exec (.pairRestart n) s = .next t
    ∧ s.Answered n 0 t ∧ t.pairMode (1 - n.val) = 1 ∧ (t.pair (1 - n.val)).inReset = false ∧ (t.pair (1 - n.val)).wire = false
    ∧ (t.pair (1 - n.val)).loaded = true)
  ∧ (s.Calls n 0x13 0 → s.pairMode (1 - n.val) ≠ 3 → ∃ t, exec (.pairRestart n) s = .next t
    ∧ s.Answered n 4 t ∧ t.pairs = s.pairs ∧ t.cores = s.cores ∧ s.RegsBut [Adr.PEVT Pg.MBX] t ∧ s.MemButMailbox t))

/-- Realignment, locking and splitting of a pair. (R128, R136, R137) A finished realignment or lock gives the checker the main core's registers, CSRs and
pc and lets both run; the first core to ask for the lock waits, the second starts the copy, the wait times out; SPLIT by the main core waits for the
final window, refused on a pair with marked pages. -/
def Obligations.CopiesAndLocks : Prop :=
  (∀ (n : Fin 2) (s : State),
  ((s.pair n).copying = true → s.pairMode n = 1 → ∃ t, exec (.realignComplete n) s = .next t
    ∧ (t.core (checkCore n)).x = (s.core (mainCore n)).x ∧ (t.core (checkCore n)).f = (s.core (mainCore n)).f
    ∧ (t.core (checkCore n)).csr = (s.core (mainCore n)).csr ∧ (t.core (checkCore n)).pc = (s.core (mainCore n)).pc
    ∧ t.core (mainCore n) = { s.core (mainCore n) with stalled := false } ∧ (t.core (checkCore n)).stalled = false
    ∧ (t.pair n).copying = false ∧ s.RegsBut [Adr.PAIR_STAT n] t ∧ t.mem = s.mem)
  ∧ ((s.pair n).copying = true → s.pairMode n = 0 → s.icxTags (mainCore n) = 0 → s.icxTags (checkCore n) = 0 →
    ∃ t, exec (.lockComplete n) s = .next t ∧ t.pairMode n = 1
      ∧ (t.core (checkCore n)).x = (s.core (mainCore n)).x ∧ (t.core (checkCore n)).f = (s.core (mainCore n)).f
      ∧ (t.core (checkCore n)).csr = (s.core (mainCore n)).csr ∧ (t.core (checkCore n)).pc = (s.core (mainCore n)).pc
      ∧ (t.core (mainCore n)).stalled = false ∧ (t.core (checkCore n)).stalled = false
      ∧ t.reg (Adr.PAIR_WINCNT n) = 0#32 ∧ t.reg (Adr.PAIR_ALIGNCNT n) = 0#32
      ∧ s.RegsBut [Adr.PAIR_STAT n, Adr.PAIR_WINCNT n, Adr.PAIR_ALIGNCNT n, Adr.PEVT (Pg.PAIR n)] t ∧ t.mem = s.mem)
  ∧ (∀ c, (s.pair n).syncCore = some c → (s.pair n).copying = false → ∃ t, exec (.syncTimeout n) s = .next t
    ∧ (t.pair n).syncCore = none ∧ t.core c = { s.core c with stalled := false }
    ∧ t.flag (Adr.PAIR_STAT n) 2 = false ∧ t.flag (Adr.PAIR_STAT n) 5 = true
    ∧ s.RegsBut [Adr.PAIR_STAT n, Adr.PEVT (Pg.PAIR n)] t ∧ t.mem = s.mem))
  ∧ (∀ (c : Fin 4) (s : State),
  (s.Owns c (Pg.PAIR (c / 2)) → s.refusalOf c (Adr.PAIR_SYNC (c / 2)) .plain 1#32 = none → s.pairMode (c / 2) = 0 →
    (s.pair (c / 2)).syncCore = none → ∃ t, exec (.syncReq c) s = .next t ∧ (t.port c).resp = .ok []
      ∧ (t.pair (c / 2)).syncCore = some c.val ∧ (t.core c).stalled = true ∧ t.flag (Adr.PAIR_STAT (c / 2)) 2 = true
      ∧ s.RegsBut [Adr.PAIR_SYNC (c / 2), Adr.PAIR_STAT (c / 2)] t ∧ t.mem = s.mem)
  ∧ (∀ d, s.Owns c (Pg.PAIR (c / 2)) → s.refusalOf c (Adr.PAIR_SYNC (c / 2)) .plain 1#32 = none → s.pairMode (c / 2) = 0 →
    (s.pair (c / 2)).syncCore = some d → d ≠ c.val → ∃ t, exec (.syncReq c) s = .next t ∧ (t.port c).resp = .ok []
      ∧ (t.pair (c / 2)).copying = true ∧ (t.core c).stalled = true ∧ t.flag (Adr.PAIR_STAT (c / 2)) 2 = false
      ∧ s.RegsBut [Adr.PAIR_SYNC (c / 2), Adr.PAIR_STAT (c / 2)] t ∧ t.mem = s.mem)
  ∧ (s.Owns c (Pg.PAIR (c / 2)) → s.refusalOf c (Adr.PAIR_SPLIT (c / 2)) .plain 1#32 = none → s.pairMode (c / 2) = 1 →
    c.val = mainCore (c / 2) → s.pairMarked (c / 2) = false → ∃ t, exec (.splitReq c) s = .next t ∧ (t.port c).resp = .ok []
      ∧ (t.pair (c / 2)).final = true ∧ (t.core c).stalled = true ∧ t.flag (Adr.PAIR_STAT (c / 2)) 4 = false
      ∧ s.RegsBut [Adr.PAIR_SPLIT (c / 2), Adr.PAIR_STAT (c / 2)] t ∧ t.mem = s.mem)
  ∧ (s.Owns c (Pg.PAIR (c / 2)) → s.refusalOf c (Adr.PAIR_SPLIT (c / 2)) .plain 1#32 = none → s.pairMode (c / 2) = 1 →
    c.val = mainCore (c / 2) → s.pairMarked (c / 2) = true → ∃ t, exec (.splitReq c) s = .next t ∧ (t.port c).resp = .ok []
      ∧ t.pairs = s.pairs ∧ t.cores = s.cores ∧ t.flag (Adr.PAIR_STAT (c / 2)) 4 = true
      ∧ s.RegsBut [Adr.PAIR_SPLIT (c / 2), Adr.PAIR_STAT (c / 2), Adr.PEVT (Pg.PAIR (c / 2))] t ∧ t.mem = s.mem))
end

