-- ==== Sys2Proof/Laws/Bits.lean ====
section
/-! SUPPORT. Bit fields: what a bit or a field of a word reads after a bit or a field of it has been replaced. -/

namespace Sys2Proof.Machine

theorem bit_ofNat (n i : Nat) : bit (BitVec.ofNat 32 n) i = (decide (i < 32) && n.testBit i) := by
  simp [bit, BitVec.getLsbD_ofNat]

theorem bit_or (x y : Word) (i : Nat) : bit (x ||| y) i = (bit x i || bit y i) := by simp [bit]
theorem bit_and (x y : Word) (i : Nat) : bit (x &&& y) i = (bit x i && bit y i) := by simp [bit]
theorem bit_xor (x y : Word) (i : Nat) : bit (x ^^^ y) i = (bit x i ^^ bit y i) := by simp [bit]
theorem bit_not (x : Word) (i : Nat) (h : i < 32) : bit (~~~x) i = !bit x i := by simp [bit, h]
theorem bit_oneBit (i j : Nat) : bit (oneBit i) j = (decide (j < 32) && decide (i = j)) := by
  unfold oneBit; rw [bit_ofNat, Nat.testBit_two_pow]
theorem bit_high (x : Word) (i : Nat) (h : 32 ≤ i) : bit x i = false := BitVec.getLsbD_of_ge x i h

theorem bit_setBit (w : Word) (i j : Nat) (b : Bool) : bit (setBit w i b) j = if i = j ∧ i < 32 then b else bit w j := by
  unfold setBit
  by_cases hj : j < 32
  · cases b
    · simp only [Bool.false_eq_true, if_false, bit_and, bit_not _ _ hj, bit_ofNat, Nat.testBit_two_pow, hj]
      by_cases h : i = j <;> simp [h, hj]
    · simp only [if_true, bit_or, bit_ofNat, Nat.testBit_two_pow, hj]
      by_cases h : i = j <;> simp [h, hj]
  · have hne : ¬ (i = j ∧ i < 32) := by omega
    rw [if_neg hne, bit_high _ _ (by omega), bit_high w _ (by omega)]

@[simp] theorem bit_setBit_self {i : Nat} (w : Word) (b : Bool) (h : i < 32) : bit (setBit w i b) i = b := by simp [bit_setBit, h]

theorem bit_setBit_ne {i j : Nat} (w : Word) (b : Bool) (h : i ≠ j) : bit (setBit w i b) j = bit w j := by simp [bit_setBit, h]

theorem bits_testBit (w : Word) (hi lo k : Nat) : (bits w hi lo).testBit k = (decide (k < hi + 1 - lo) && bit w (lo + k)) := by
  simp [bits, bit, Nat.testBit_mod_two_pow, Nat.testBit_div_two_pow, BitVec.getLsbD, Nat.add_comm]

theorem bits_lt (w : Word) (hi lo : Nat) : bits w hi lo < 2 ^ (hi + 1 - lo) := Nat.mod_lt _ (by positivity)

theorem fieldMask_bit (hi lo i : Nat) : bit (fieldMask hi lo) i = (decide (i < 32) && decide (lo ≤ i) && decide (i ≤ hi)) := by
  unfold fieldMask
  rw [bit_ofNat, Nat.testBit_mul_two_pow, Nat.testBit_two_pow_sub_one]
  by_cases h : lo ≤ i <;> by_cases g : i ≤ hi <;> simp [h, g] <;> omega

theorem bit_setBits (w : Word) (hi lo v i : Nat) (h : hi < 32) :
    bit (setBits w hi lo v) i = if lo ≤ i ∧ i ≤ hi then v.testBit (i - lo) else bit w i := by
  unfold setBits
  have m := fieldMask_bit hi lo i
  unfold bit at *
  by_cases hi32 : i < 32
  · simp only [BitVec.getLsbD_or, BitVec.getLsbD_and, BitVec.getLsbD_not, m, BitVec.getLsbD_ofNat, Nat.testBit_mul_two_pow,
      Nat.testBit_mod_two_pow, hi32]
    by_cases a : lo ≤ i <;> by_cases b : i ≤ hi <;> simp [a, b] <;> omega
  · have : w.getLsbD i = false := BitVec.getLsbD_of_ge w i (by omega)
    have g : ¬ (lo ≤ i ∧ i ≤ hi) := by omega
    rw [if_neg g, this]
    exact BitVec.getLsbD_of_ge _ i (by omega)

theorem bits_ext {n : Nat} {w : Word} {hi lo : Nat} (hn : n < 2 ^ (hi + 1 - lo)) (h : ∀ k, k < hi + 1 - lo → bit w (lo + k) = n.testBit k) :
    bits w hi lo = n := by
  apply Nat.eq_of_testBit_eq
  intro k
  rw [bits_testBit]
  by_cases hk : k < hi + 1 - lo
  · simp [hk, h k hk]
  · simp only [hk, decide_false, Bool.false_and]
    exact (Nat.testBit_lt_two_pow (lt_of_lt_of_le hn (Nat.pow_le_pow_right (by omega) (by omega)))).symm

/-- The field written reads the value, cut to its width. -/
theorem bits_setBits_self (w : Word) (hi lo v : Nat) (h : hi < 32) : bits (setBits w hi lo v) hi lo = v % 2 ^ (hi + 1 - lo) := by
  apply bits_ext (Nat.mod_lt _ (by positivity))
  intro k hk
  rw [bit_setBits w hi lo v _ h, if_pos (by omega), Nat.testBit_mod_two_pow]
  simp [hk]

/-- A field that does not meet the one written reads as before. -/
theorem bits_setBits_ne (w : Word) (hi lo v a b : Nat) (h : hi < 32) (d : hi < b ∨ a < lo) : bits (setBits w hi lo v) a b = bits w a b := by
  apply Nat.eq_of_testBit_eq
  intro k
  rw [bits_testBit, bits_testBit]
  by_cases hk : k < a + 1 - b
  · rw [bit_setBits w hi lo v _ h, if_neg (by omega)]
  · simp [hk]

/-- A field without the bit written reads as before. -/
theorem bits_setBit_ne (w : Word) (i : Nat) (v : Bool) (a b : Nat) (d : i < b ∨ a < i) : bits (setBit w i v) a b = bits w a b := by
  apply Nat.eq_of_testBit_eq
  intro k
  rw [bits_testBit, bits_testBit]
  by_cases hk : k < a + 1 - b
  · rw [bit_setBit, if_neg (by omega)]
  · simp [hk]

/-- Words are equal when their bits are. -/
theorem word_ext {x y : Word} (h : ∀ i, i < 32 → bit x i = bit y i) : x = y := BitVec.eq_of_getLsbD_eq h

end Sys2Proof.Machine
end

