-- ==== Sys2Proof/Laws/State.lean ====
section
/-! SUPPORT. What each field reads after each setter: true by rfl, so that no proof unfolds a record update. -/

namespace Sys2Proof.Machine

variable (s : State)

@[simp] theorem State.setPending_pending (v : List Instr) : (s.setPending v).pending = v := rfl
@[simp] theorem State.setPending_regs (v : List Instr) : (s.setPending v).regs = s.regs := rfl
@[simp] theorem State.setPending_mem (v : List Instr) : (s.setPending v).mem = s.mem := rfl
@[simp] theorem State.setPending_free (v : List Instr) : (s.setPending v).free = s.free := rfl
@[simp] theorem State.setPending_pwr (v : List Instr) : (s.setPending v).pwr = s.pwr := rfl
@[simp] theorem State.setPending_pins (v : List Instr) : (s.setPending v).pins = s.pins := rfl
@[simp] theorem State.setPending_kept (v : List Instr) : (s.setPending v).kept = s.kept := rfl
@[simp] theorem State.setPending_gms (v : List Instr) : (s.setPending v).gms = s.gms := rfl
@[simp] theorem State.setPending_pages (v : List Instr) : (s.setPending v).pages = s.pages := rfl
@[simp] theorem State.setPending_ports (v : List Instr) : (s.setPending v).ports = s.ports := rfl
@[simp] theorem State.setPending_caps (v : List Instr) : (s.setPending v).caps = s.caps := rfl
@[simp] theorem State.setPending_router (v : List Instr) : (s.setPending v).router = s.router := rfl
@[simp] theorem State.setPending_icx (v : List Instr) : (s.setPending v).icx = s.icx := rfl
@[simp] theorem State.setPending_cores (v : List Instr) : (s.setPending v).cores = s.cores := rfl
@[simp] theorem State.setPending_pairs (v : List Instr) : (s.setPending v).pairs = s.pairs := rfl
@[simp] theorem State.setPending_shroud (v : List Instr) : (s.setPending v).shroud = s.shroud := rfl
@[simp] theorem State.setPending_engines (v : List Instr) : (s.setPending v).engines = s.engines := rfl
@[simp] theorem State.setPending_ctxs (v : List Instr) : (s.setPending v).ctxs = s.ctxs := rfl
@[simp] theorem State.setPending_samples (v : List Instr) : (s.setPending v).samples = s.samples := rfl
@[simp] theorem State.setPending_adcs (v : List Instr) : (s.setPending v).adcs = s.adcs := rfl
@[simp] theorem State.setPending_sdms (v : List Instr) : (s.setPending v).sdms = s.sdms := rfl
@[simp] theorem State.setPending_cmps (v : List Instr) : (s.setPending v).cmps = s.cmps := rfl
@[simp] theorem State.setPending_sensors (v : List Instr) : (s.setPending v).sensors = s.sensors := rfl
@[simp] theorem State.setPending_pwms (v : List Instr) : (s.setPending v).pwms = s.pwms := rfl
@[simp] theorem State.setPending_chans (v : List Instr) : (s.setPending v).chans = s.chans := rfl
@[simp] theorem State.setPending_groups (v : List Instr) : (s.setPending v).groups = s.groups := rfl
@[simp] theorem State.setPending_hvs (v : List Instr) : (s.setPending v).hvs = s.hvs := rfl
@[simp] theorem State.setPending_lvdrv (v : List Instr) : (s.setPending v).lvdrv = s.lvdrv := rfl
@[simp] theorem State.setPending_twls (v : List Instr) : (s.setPending v).twls = s.twls := rfl
@[simp] theorem State.setPending_encs (v : List Instr) : (s.setPending v).encs = s.encs := rfl
@[simp] theorem State.setPending_halls (v : List Instr) : (s.setPending v).halls = s.halls := rfl
@[simp] theorem State.setPending_dcdc (v : List Instr) : (s.setPending v).dcdc = s.dcdc := rfl
@[simp] theorem State.setPending_obc (v : List Instr) : (s.setPending v).obc = s.obc := rfl
@[simp] theorem State.setPending_lamps (v : List Instr) : (s.setPending v).lamps = s.lamps := rfl
@[simp] theorem State.setPending_acts (v : List Instr) : (s.setPending v).acts = s.acts := rfl
@[simp] theorem State.setPending_ctr (v : List Instr) : (s.setPending v).ctr = s.ctr := rfl
@[simp] theorem State.setPending_rings (v : List Instr) : (s.setPending v).rings = s.rings := rfl
@[simp] theorem State.setPending_zcors (v : List Instr) : (s.setPending v).zcors = s.zcors := rfl
@[simp] theorem State.setPending_twin (v : List Instr) : (s.setPending v).twin = s.twin := rfl
@[simp] theorem State.setPending_net (v : List Instr) : (s.setPending v).net = s.net := rfl
@[simp] theorem State.setRegs_pending (v : List (Nat × Word)) : (s.setRegs v).pending = s.pending := rfl
@[simp] theorem State.setRegs_regs (v : List (Nat × Word)) : (s.setRegs v).regs = v := rfl
@[simp] theorem State.setRegs_mem (v : List (Nat × Word)) : (s.setRegs v).mem = s.mem := rfl
@[simp] theorem State.setRegs_free (v : List (Nat × Word)) : (s.setRegs v).free = s.free := rfl
@[simp] theorem State.setRegs_pwr (v : List (Nat × Word)) : (s.setRegs v).pwr = s.pwr := rfl
@[simp] theorem State.setRegs_pins (v : List (Nat × Word)) : (s.setRegs v).pins = s.pins := rfl
@[simp] theorem State.setRegs_kept (v : List (Nat × Word)) : (s.setRegs v).kept = s.kept := rfl
@[simp] theorem State.setRegs_gms (v : List (Nat × Word)) : (s.setRegs v).gms = s.gms := rfl
@[simp] theorem State.setRegs_pages (v : List (Nat × Word)) : (s.setRegs v).pages = s.pages := rfl
@[simp] theorem State.setRegs_ports (v : List (Nat × Word)) : (s.setRegs v).ports = s.ports := rfl
@[simp] theorem State.setRegs_caps (v : List (Nat × Word)) : (s.setRegs v).caps = s.caps := rfl
@[simp] theorem State.setRegs_router (v : List (Nat × Word)) : (s.setRegs v).router = s.router := rfl
@[simp] theorem State.setRegs_icx (v : List (Nat × Word)) : (s.setRegs v).icx = s.icx := rfl
@[simp] theorem State.setRegs_cores (v : List (Nat × Word)) : (s.setRegs v).cores = s.cores := rfl
@[simp] theorem State.setRegs_pairs (v : List (Nat × Word)) : (s.setRegs v).pairs = s.pairs := rfl
@[simp] theorem State.setRegs_shroud (v : List (Nat × Word)) : (s.setRegs v).shroud = s.shroud := rfl
@[simp] theorem State.setRegs_engines (v : List (Nat × Word)) : (s.setRegs v).engines = s.engines := rfl
@[simp] theorem State.setRegs_ctxs (v : List (Nat × Word)) : (s.setRegs v).ctxs = s.ctxs := rfl
@[simp] theorem State.setRegs_samples (v : List (Nat × Word)) : (s.setRegs v).samples = s.samples := rfl
@[simp] theorem State.setRegs_adcs (v : List (Nat × Word)) : (s.setRegs v).adcs = s.adcs := rfl
@[simp] theorem State.setRegs_sdms (v : List (Nat × Word)) : (s.setRegs v).sdms = s.sdms := rfl
@[simp] theorem State.setRegs_cmps (v : List (Nat × Word)) : (s.setRegs v).cmps = s.cmps := rfl
@[simp] theorem State.setRegs_sensors (v : List (Nat × Word)) : (s.setRegs v).sensors = s.sensors := rfl
@[simp] theorem State.setRegs_pwms (v : List (Nat × Word)) : (s.setRegs v).pwms = s.pwms := rfl
@[simp] theorem State.setRegs_chans (v : List (Nat × Word)) : (s.setRegs v).chans = s.chans := rfl
@[simp] theorem State.setRegs_groups (v : List (Nat × Word)) : (s.setRegs v).groups = s.groups := rfl
@[simp] theorem State.setRegs_hvs (v : List (Nat × Word)) : (s.setRegs v).hvs = s.hvs := rfl
@[simp] theorem State.setRegs_lvdrv (v : List (Nat × Word)) : (s.setRegs v).lvdrv = s.lvdrv := rfl
@[simp] theorem State.setRegs_twls (v : List (Nat × Word)) : (s.setRegs v).twls = s.twls := rfl
@[simp] theorem State.setRegs_encs (v : List (Nat × Word)) : (s.setRegs v).encs = s.encs := rfl
@[simp] theorem State.setRegs_halls (v : List (Nat × Word)) : (s.setRegs v).halls = s.halls := rfl
@[simp] theorem State.setRegs_dcdc (v : List (Nat × Word)) : (s.setRegs v).dcdc = s.dcdc := rfl
@[simp] theorem State.setRegs_obc (v : List (Nat × Word)) : (s.setRegs v).obc = s.obc := rfl
@[simp] theorem State.setRegs_lamps (v : List (Nat × Word)) : (s.setRegs v).lamps = s.lamps := rfl
@[simp] theorem State.setRegs_acts (v : List (Nat × Word)) : (s.setRegs v).acts = s.acts := rfl
@[simp] theorem State.setRegs_ctr (v : List (Nat × Word)) : (s.setRegs v).ctr = s.ctr := rfl
@[simp] theorem State.setRegs_rings (v : List (Nat × Word)) : (s.setRegs v).rings = s.rings := rfl
@[simp] theorem State.setRegs_zcors (v : List (Nat × Word)) : (s.setRegs v).zcors = s.zcors := rfl
@[simp] theorem State.setRegs_twin (v : List (Nat × Word)) : (s.setRegs v).twin = s.twin := rfl
@[simp] theorem State.setRegs_net (v : List (Nat × Word)) : (s.setRegs v).net = s.net := rfl
@[simp] theorem State.setMem_pending (v : List Host.Cell) : (s.setMem v).pending = s.pending := rfl
@[simp] theorem State.setMem_regs (v : List Host.Cell) : (s.setMem v).regs = s.regs := rfl
@[simp] theorem State.setMem_mem (v : List Host.Cell) : (s.setMem v).mem = v := rfl
@[simp] theorem State.setMem_free (v : List Host.Cell) : (s.setMem v).free = s.free := rfl
@[simp] theorem State.setMem_pwr (v : List Host.Cell) : (s.setMem v).pwr = s.pwr := rfl
@[simp] theorem State.setMem_pins (v : List Host.Cell) : (s.setMem v).pins = s.pins := rfl
@[simp] theorem State.setMem_kept (v : List Host.Cell) : (s.setMem v).kept = s.kept := rfl
@[simp] theorem State.setMem_gms (v : List Host.Cell) : (s.setMem v).gms = s.gms := rfl
@[simp] theorem State.setMem_pages (v : List Host.Cell) : (s.setMem v).pages = s.pages := rfl
@[simp] theorem State.setMem_ports (v : List Host.Cell) : (s.setMem v).ports = s.ports := rfl
@[simp] theorem State.setMem_caps (v : List Host.Cell) : (s.setMem v).caps = s.caps := rfl
@[simp] theorem State.setMem_router (v : List Host.Cell) : (s.setMem v).router = s.router := rfl
@[simp] theorem State.setMem_icx (v : List Host.Cell) : (s.setMem v).icx = s.icx := rfl
@[simp] theorem State.setMem_cores (v : List Host.Cell) : (s.setMem v).cores = s.cores := rfl
@[simp] theorem State.setMem_pairs (v : List Host.Cell) : (s.setMem v).pairs = s.pairs := rfl
@[simp] theorem State.setMem_shroud (v : List Host.Cell) : (s.setMem v).shroud = s.shroud := rfl
@[simp] theorem State.setMem_engines (v : List Host.Cell) : (s.setMem v).engines = s.engines := rfl
@[simp] theorem State.setMem_ctxs (v : List Host.Cell) : (s.setMem v).ctxs = s.ctxs := rfl
@[simp] theorem State.setMem_samples (v : List Host.Cell) : (s.setMem v).samples = s.samples := rfl
@[simp] theorem State.setMem_adcs (v : List Host.Cell) : (s.setMem v).adcs = s.adcs := rfl
@[simp] theorem State.setMem_sdms (v : List Host.Cell) : (s.setMem v).sdms = s.sdms := rfl
@[simp] theorem State.setMem_cmps (v : List Host.Cell) : (s.setMem v).cmps = s.cmps := rfl
@[simp] theorem State.setMem_sensors (v : List Host.Cell) : (s.setMem v).sensors = s.sensors := rfl
@[simp] theorem State.setMem_pwms (v : List Host.Cell) : (s.setMem v).pwms = s.pwms := rfl
@[simp] theorem State.setMem_chans (v : List Host.Cell) : (s.setMem v).chans = s.chans := rfl
@[simp] theorem State.setMem_groups (v : List Host.Cell) : (s.setMem v).groups = s.groups := rfl
@[simp] theorem State.setMem_hvs (v : List Host.Cell) : (s.setMem v).hvs = s.hvs := rfl
@[simp] theorem State.setMem_lvdrv (v : List Host.Cell) : (s.setMem v).lvdrv = s.lvdrv := rfl
@[simp] theorem State.setMem_twls (v : List Host.Cell) : (s.setMem v).twls = s.twls := rfl
@[simp] theorem State.setMem_encs (v : List Host.Cell) : (s.setMem v).encs = s.encs := rfl
@[simp] theorem State.setMem_halls (v : List Host.Cell) : (s.setMem v).halls = s.halls := rfl
@[simp] theorem State.setMem_dcdc (v : List Host.Cell) : (s.setMem v).dcdc = s.dcdc := rfl
@[simp] theorem State.setMem_obc (v : List Host.Cell) : (s.setMem v).obc = s.obc := rfl
@[simp] theorem State.setMem_lamps (v : List Host.Cell) : (s.setMem v).lamps = s.lamps := rfl
@[simp] theorem State.setMem_acts (v : List Host.Cell) : (s.setMem v).acts = s.acts := rfl
@[simp] theorem State.setMem_ctr (v : List Host.Cell) : (s.setMem v).ctr = s.ctr := rfl
@[simp] theorem State.setMem_rings (v : List Host.Cell) : (s.setMem v).rings = s.rings := rfl
@[simp] theorem State.setMem_zcors (v : List Host.Cell) : (s.setMem v).zcors = s.zcors := rfl
@[simp] theorem State.setMem_twin (v : List Host.Cell) : (s.setMem v).twin = s.twin := rfl
@[simp] theorem State.setMem_net (v : List Host.Cell) : (s.setMem v).net = s.net := rfl
@[simp] theorem State.setFree_pending (v : Nat) : (s.setFree v).pending = s.pending := rfl
@[simp] theorem State.setFree_regs (v : Nat) : (s.setFree v).regs = s.regs := rfl
@[simp] theorem State.setFree_mem (v : Nat) : (s.setFree v).mem = s.mem := rfl
@[simp] theorem State.setFree_free (v : Nat) : (s.setFree v).free = v := rfl
@[simp] theorem State.setFree_pwr (v : Nat) : (s.setFree v).pwr = s.pwr := rfl
@[simp] theorem State.setFree_pins (v : Nat) : (s.setFree v).pins = s.pins := rfl
@[simp] theorem State.setFree_kept (v : Nat) : (s.setFree v).kept = s.kept := rfl
@[simp] theorem State.setFree_gms (v : Nat) : (s.setFree v).gms = s.gms := rfl
@[simp] theorem State.setFree_pages (v : Nat) : (s.setFree v).pages = s.pages := rfl
@[simp] theorem State.setFree_ports (v : Nat) : (s.setFree v).ports = s.ports := rfl
@[simp] theorem State.setFree_caps (v : Nat) : (s.setFree v).caps = s.caps := rfl
@[simp] theorem State.setFree_router (v : Nat) : (s.setFree v).router = s.router := rfl
@[simp] theorem State.setFree_icx (v : Nat) : (s.setFree v).icx = s.icx := rfl
@[simp] theorem State.setFree_cores (v : Nat) : (s.setFree v).cores = s.cores := rfl
@[simp] theorem State.setFree_pairs (v : Nat) : (s.setFree v).pairs = s.pairs := rfl
@[simp] theorem State.setFree_shroud (v : Nat) : (s.setFree v).shroud = s.shroud := rfl
@[simp] theorem State.setFree_engines (v : Nat) : (s.setFree v).engines = s.engines := rfl
@[simp] theorem State.setFree_ctxs (v : Nat) : (s.setFree v).ctxs = s.ctxs := rfl
@[simp] theorem State.setFree_samples (v : Nat) : (s.setFree v).samples = s.samples := rfl
@[simp] theorem State.setFree_adcs (v : Nat) : (s.setFree v).adcs = s.adcs := rfl
@[simp] theorem State.setFree_sdms (v : Nat) : (s.setFree v).sdms = s.sdms := rfl
@[simp] theorem State.setFree_cmps (v : Nat) : (s.setFree v).cmps = s.cmps := rfl
@[simp] theorem State.setFree_sensors (v : Nat) : (s.setFree v).sensors = s.sensors := rfl
@[simp] theorem State.setFree_pwms (v : Nat) : (s.setFree v).pwms = s.pwms := rfl
@[simp] theorem State.setFree_chans (v : Nat) : (s.setFree v).chans = s.chans := rfl
@[simp] theorem State.setFree_groups (v : Nat) : (s.setFree v).groups = s.groups := rfl
@[simp] theorem State.setFree_hvs (v : Nat) : (s.setFree v).hvs = s.hvs := rfl
@[simp] theorem State.setFree_lvdrv (v : Nat) : (s.setFree v).lvdrv = s.lvdrv := rfl
@[simp] theorem State.setFree_twls (v : Nat) : (s.setFree v).twls = s.twls := rfl
@[simp] theorem State.setFree_encs (v : Nat) : (s.setFree v).encs = s.encs := rfl
@[simp] theorem State.setFree_halls (v : Nat) : (s.setFree v).halls = s.halls := rfl
@[simp] theorem State.setFree_dcdc (v : Nat) : (s.setFree v).dcdc = s.dcdc := rfl
@[simp] theorem State.setFree_obc (v : Nat) : (s.setFree v).obc = s.obc := rfl
@[simp] theorem State.setFree_lamps (v : Nat) : (s.setFree v).lamps = s.lamps := rfl
@[simp] theorem State.setFree_acts (v : Nat) : (s.setFree v).acts = s.acts := rfl
@[simp] theorem State.setFree_ctr (v : Nat) : (s.setFree v).ctr = s.ctr := rfl
@[simp] theorem State.setFree_rings (v : Nat) : (s.setFree v).rings = s.rings := rfl
@[simp] theorem State.setFree_zcors (v : Nat) : (s.setFree v).zcors = s.zcors := rfl
@[simp] theorem State.setFree_twin (v : Nat) : (s.setFree v).twin = s.twin := rfl
@[simp] theorem State.setFree_net (v : Nat) : (s.setFree v).net = s.net := rfl
@[simp] theorem State.setPwr_pending (v : Power) : (s.setPwr v).pending = s.pending := rfl
@[simp] theorem State.setPwr_regs (v : Power) : (s.setPwr v).regs = s.regs := rfl
@[simp] theorem State.setPwr_mem (v : Power) : (s.setPwr v).mem = s.mem := rfl
@[simp] theorem State.setPwr_free (v : Power) : (s.setPwr v).free = s.free := rfl
@[simp] theorem State.setPwr_pwr (v : Power) : (s.setPwr v).pwr = v := rfl
@[simp] theorem State.setPwr_pins (v : Power) : (s.setPwr v).pins = s.pins := rfl
@[simp] theorem State.setPwr_kept (v : Power) : (s.setPwr v).kept = s.kept := rfl
@[simp] theorem State.setPwr_gms (v : Power) : (s.setPwr v).gms = s.gms := rfl
@[simp] theorem State.setPwr_pages (v : Power) : (s.setPwr v).pages = s.pages := rfl
@[simp] theorem State.setPwr_ports (v : Power) : (s.setPwr v).ports = s.ports := rfl
@[simp] theorem State.setPwr_caps (v : Power) : (s.setPwr v).caps = s.caps := rfl
@[simp] theorem State.setPwr_router (v : Power) : (s.setPwr v).router = s.router := rfl
@[simp] theorem State.setPwr_icx (v : Power) : (s.setPwr v).icx = s.icx := rfl
@[simp] theorem State.setPwr_cores (v : Power) : (s.setPwr v).cores = s.cores := rfl
@[simp] theorem State.setPwr_pairs (v : Power) : (s.setPwr v).pairs = s.pairs := rfl
@[simp] theorem State.setPwr_shroud (v : Power) : (s.setPwr v).shroud = s.shroud := rfl
@[simp] theorem State.setPwr_engines (v : Power) : (s.setPwr v).engines = s.engines := rfl
@[simp] theorem State.setPwr_ctxs (v : Power) : (s.setPwr v).ctxs = s.ctxs := rfl
@[simp] theorem State.setPwr_samples (v : Power) : (s.setPwr v).samples = s.samples := rfl
@[simp] theorem State.setPwr_adcs (v : Power) : (s.setPwr v).adcs = s.adcs := rfl
@[simp] theorem State.setPwr_sdms (v : Power) : (s.setPwr v).sdms = s.sdms := rfl
@[simp] theorem State.setPwr_cmps (v : Power) : (s.setPwr v).cmps = s.cmps := rfl
@[simp] theorem State.setPwr_sensors (v : Power) : (s.setPwr v).sensors = s.sensors := rfl
@[simp] theorem State.setPwr_pwms (v : Power) : (s.setPwr v).pwms = s.pwms := rfl
@[simp] theorem State.setPwr_chans (v : Power) : (s.setPwr v).chans = s.chans := rfl
@[simp] theorem State.setPwr_groups (v : Power) : (s.setPwr v).groups = s.groups := rfl
@[simp] theorem State.setPwr_hvs (v : Power) : (s.setPwr v).hvs = s.hvs := rfl
@[simp] theorem State.setPwr_lvdrv (v : Power) : (s.setPwr v).lvdrv = s.lvdrv := rfl
@[simp] theorem State.setPwr_twls (v : Power) : (s.setPwr v).twls = s.twls := rfl
@[simp] theorem State.setPwr_encs (v : Power) : (s.setPwr v).encs = s.encs := rfl
@[simp] theorem State.setPwr_halls (v : Power) : (s.setPwr v).halls = s.halls := rfl
@[simp] theorem State.setPwr_dcdc (v : Power) : (s.setPwr v).dcdc = s.dcdc := rfl
@[simp] theorem State.setPwr_obc (v : Power) : (s.setPwr v).obc = s.obc := rfl
@[simp] theorem State.setPwr_lamps (v : Power) : (s.setPwr v).lamps = s.lamps := rfl
@[simp] theorem State.setPwr_acts (v : Power) : (s.setPwr v).acts = s.acts := rfl
@[simp] theorem State.setPwr_ctr (v : Power) : (s.setPwr v).ctr = s.ctr := rfl
@[simp] theorem State.setPwr_rings (v : Power) : (s.setPwr v).rings = s.rings := rfl
@[simp] theorem State.setPwr_zcors (v : Power) : (s.setPwr v).zcors = s.zcors := rfl
@[simp] theorem State.setPwr_twin (v : Power) : (s.setPwr v).twin = s.twin := rfl
@[simp] theorem State.setPwr_net (v : Power) : (s.setPwr v).net = s.net := rfl
@[simp] theorem State.setPins_pending (v : Pins) : (s.setPins v).pending = s.pending := rfl
@[simp] theorem State.setPins_regs (v : Pins) : (s.setPins v).regs = s.regs := rfl
@[simp] theorem State.setPins_mem (v : Pins) : (s.setPins v).mem = s.mem := rfl
@[simp] theorem State.setPins_free (v : Pins) : (s.setPins v).free = s.free := rfl
@[simp] theorem State.setPins_pwr (v : Pins) : (s.setPins v).pwr = s.pwr := rfl
@[simp] theorem State.setPins_pins (v : Pins) : (s.setPins v).pins = v := rfl
@[simp] theorem State.setPins_kept (v : Pins) : (s.setPins v).kept = s.kept := rfl
@[simp] theorem State.setPins_gms (v : Pins) : (s.setPins v).gms = s.gms := rfl
@[simp] theorem State.setPins_pages (v : Pins) : (s.setPins v).pages = s.pages := rfl
@[simp] theorem State.setPins_ports (v : Pins) : (s.setPins v).ports = s.ports := rfl
@[simp] theorem State.setPins_caps (v : Pins) : (s.setPins v).caps = s.caps := rfl
@[simp] theorem State.setPins_router (v : Pins) : (s.setPins v).router = s.router := rfl
@[simp] theorem State.setPins_icx (v : Pins) : (s.setPins v).icx = s.icx := rfl
@[simp] theorem State.setPins_cores (v : Pins) : (s.setPins v).cores = s.cores := rfl
@[simp] theorem State.setPins_pairs (v : Pins) : (s.setPins v).pairs = s.pairs := rfl
@[simp] theorem State.setPins_shroud (v : Pins) : (s.setPins v).shroud = s.shroud := rfl
@[simp] theorem State.setPins_engines (v : Pins) : (s.setPins v).engines = s.engines := rfl
@[simp] theorem State.setPins_ctxs (v : Pins) : (s.setPins v).ctxs = s.ctxs := rfl
@[simp] theorem State.setPins_samples (v : Pins) : (s.setPins v).samples = s.samples := rfl
@[simp] theorem State.setPins_adcs (v : Pins) : (s.setPins v).adcs = s.adcs := rfl
@[simp] theorem State.setPins_sdms (v : Pins) : (s.setPins v).sdms = s.sdms := rfl
@[simp] theorem State.setPins_cmps (v : Pins) : (s.setPins v).cmps = s.cmps := rfl
@[simp] theorem State.setPins_sensors (v : Pins) : (s.setPins v).sensors = s.sensors := rfl
@[simp] theorem State.setPins_pwms (v : Pins) : (s.setPins v).pwms = s.pwms := rfl
@[simp] theorem State.setPins_chans (v : Pins) : (s.setPins v).chans = s.chans := rfl
@[simp] theorem State.setPins_groups (v : Pins) : (s.setPins v).groups = s.groups := rfl
@[simp] theorem State.setPins_hvs (v : Pins) : (s.setPins v).hvs = s.hvs := rfl
@[simp] theorem State.setPins_lvdrv (v : Pins) : (s.setPins v).lvdrv = s.lvdrv := rfl
@[simp] theorem State.setPins_twls (v : Pins) : (s.setPins v).twls = s.twls := rfl
@[simp] theorem State.setPins_encs (v : Pins) : (s.setPins v).encs = s.encs := rfl
@[simp] theorem State.setPins_halls (v : Pins) : (s.setPins v).halls = s.halls := rfl
@[simp] theorem State.setPins_dcdc (v : Pins) : (s.setPins v).dcdc = s.dcdc := rfl
@[simp] theorem State.setPins_obc (v : Pins) : (s.setPins v).obc = s.obc := rfl
@[simp] theorem State.setPins_lamps (v : Pins) : (s.setPins v).lamps = s.lamps := rfl
@[simp] theorem State.setPins_acts (v : Pins) : (s.setPins v).acts = s.acts := rfl
@[simp] theorem State.setPins_ctr (v : Pins) : (s.setPins v).ctr = s.ctr := rfl
@[simp] theorem State.setPins_rings (v : Pins) : (s.setPins v).rings = s.rings := rfl
@[simp] theorem State.setPins_zcors (v : Pins) : (s.setPins v).zcors = s.zcors := rfl
@[simp] theorem State.setPins_twin (v : Pins) : (s.setPins v).twin = s.twin := rfl
@[simp] theorem State.setPins_net (v : Pins) : (s.setPins v).net = s.net := rfl
@[simp] theorem State.setKept_pending (v : Kept) : (s.setKept v).pending = s.pending := rfl
@[simp] theorem State.setKept_regs (v : Kept) : (s.setKept v).regs = s.regs := rfl
@[simp] theorem State.setKept_mem (v : Kept) : (s.setKept v).mem = s.mem := rfl
@[simp] theorem State.setKept_free (v : Kept) : (s.setKept v).free = s.free := rfl
@[simp] theorem State.setKept_pwr (v : Kept) : (s.setKept v).pwr = s.pwr := rfl
@[simp] theorem State.setKept_pins (v : Kept) : (s.setKept v).pins = s.pins := rfl
@[simp] theorem State.setKept_kept (v : Kept) : (s.setKept v).kept = v := rfl
@[simp] theorem State.setKept_gms (v : Kept) : (s.setKept v).gms = s.gms := rfl
@[simp] theorem State.setKept_pages (v : Kept) : (s.setKept v).pages = s.pages := rfl
@[simp] theorem State.setKept_ports (v : Kept) : (s.setKept v).ports = s.ports := rfl
@[simp] theorem State.setKept_caps (v : Kept) : (s.setKept v).caps = s.caps := rfl
@[simp] theorem State.setKept_router (v : Kept) : (s.setKept v).router = s.router := rfl
@[simp] theorem State.setKept_icx (v : Kept) : (s.setKept v).icx = s.icx := rfl
@[simp] theorem State.setKept_cores (v : Kept) : (s.setKept v).cores = s.cores := rfl
@[simp] theorem State.setKept_pairs (v : Kept) : (s.setKept v).pairs = s.pairs := rfl
@[simp] theorem State.setKept_shroud (v : Kept) : (s.setKept v).shroud = s.shroud := rfl
@[simp] theorem State.setKept_engines (v : Kept) : (s.setKept v).engines = s.engines := rfl
@[simp] theorem State.setKept_ctxs (v : Kept) : (s.setKept v).ctxs = s.ctxs := rfl
@[simp] theorem State.setKept_samples (v : Kept) : (s.setKept v).samples = s.samples := rfl
@[simp] theorem State.setKept_adcs (v : Kept) : (s.setKept v).adcs = s.adcs := rfl
@[simp] theorem State.setKept_sdms (v : Kept) : (s.setKept v).sdms = s.sdms := rfl
@[simp] theorem State.setKept_cmps (v : Kept) : (s.setKept v).cmps = s.cmps := rfl
@[simp] theorem State.setKept_sensors (v : Kept) : (s.setKept v).sensors = s.sensors := rfl
@[simp] theorem State.setKept_pwms (v : Kept) : (s.setKept v).pwms = s.pwms := rfl
@[simp] theorem State.setKept_chans (v : Kept) : (s.setKept v).chans = s.chans := rfl
@[simp] theorem State.setKept_groups (v : Kept) : (s.setKept v).groups = s.groups := rfl
@[simp] theorem State.setKept_hvs (v : Kept) : (s.setKept v).hvs = s.hvs := rfl
@[simp] theorem State.setKept_lvdrv (v : Kept) : (s.setKept v).lvdrv = s.lvdrv := rfl
@[simp] theorem State.setKept_twls (v : Kept) : (s.setKept v).twls = s.twls := rfl
@[simp] theorem State.setKept_encs (v : Kept) : (s.setKept v).encs = s.encs := rfl
@[simp] theorem State.setKept_halls (v : Kept) : (s.setKept v).halls = s.halls := rfl
@[simp] theorem State.setKept_dcdc (v : Kept) : (s.setKept v).dcdc = s.dcdc := rfl
@[simp] theorem State.setKept_obc (v : Kept) : (s.setKept v).obc = s.obc := rfl
@[simp] theorem State.setKept_lamps (v : Kept) : (s.setKept v).lamps = s.lamps := rfl
@[simp] theorem State.setKept_acts (v : Kept) : (s.setKept v).acts = s.acts := rfl
@[simp] theorem State.setKept_ctr (v : Kept) : (s.setKept v).ctr = s.ctr := rfl
@[simp] theorem State.setKept_rings (v : Kept) : (s.setKept v).rings = s.rings := rfl
@[simp] theorem State.setKept_zcors (v : Kept) : (s.setKept v).zcors = s.zcors := rfl
@[simp] theorem State.setKept_twin (v : Kept) : (s.setKept v).twin = s.twin := rfl
@[simp] theorem State.setKept_net (v : Kept) : (s.setKept v).net = s.net := rfl
@[simp] theorem State.setGms_pending (v : Gms) : (s.setGms v).pending = s.pending := rfl
@[simp] theorem State.setGms_regs (v : Gms) : (s.setGms v).regs = s.regs := rfl
@[simp] theorem State.setGms_mem (v : Gms) : (s.setGms v).mem = s.mem := rfl
@[simp] theorem State.setGms_free (v : Gms) : (s.setGms v).free = s.free := rfl
@[simp] theorem State.setGms_pwr (v : Gms) : (s.setGms v).pwr = s.pwr := rfl
@[simp] theorem State.setGms_pins (v : Gms) : (s.setGms v).pins = s.pins := rfl
@[simp] theorem State.setGms_kept (v : Gms) : (s.setGms v).kept = s.kept := rfl
@[simp] theorem State.setGms_gms (v : Gms) : (s.setGms v).gms = v := rfl
@[simp] theorem State.setGms_pages (v : Gms) : (s.setGms v).pages = s.pages := rfl
@[simp] theorem State.setGms_ports (v : Gms) : (s.setGms v).ports = s.ports := rfl
@[simp] theorem State.setGms_caps (v : Gms) : (s.setGms v).caps = s.caps := rfl
@[simp] theorem State.setGms_router (v : Gms) : (s.setGms v).router = s.router := rfl
@[simp] theorem State.setGms_icx (v : Gms) : (s.setGms v).icx = s.icx := rfl
@[simp] theorem State.setGms_cores (v : Gms) : (s.setGms v).cores = s.cores := rfl
@[simp] theorem State.setGms_pairs (v : Gms) : (s.setGms v).pairs = s.pairs := rfl
@[simp] theorem State.setGms_shroud (v : Gms) : (s.setGms v).shroud = s.shroud := rfl
@[simp] theorem State.setGms_engines (v : Gms) : (s.setGms v).engines = s.engines := rfl
@[simp] theorem State.setGms_ctxs (v : Gms) : (s.setGms v).ctxs = s.ctxs := rfl
@[simp] theorem State.setGms_samples (v : Gms) : (s.setGms v).samples = s.samples := rfl
@[simp] theorem State.setGms_adcs (v : Gms) : (s.setGms v).adcs = s.adcs := rfl
@[simp] theorem State.setGms_sdms (v : Gms) : (s.setGms v).sdms = s.sdms := rfl
@[simp] theorem State.setGms_cmps (v : Gms) : (s.setGms v).cmps = s.cmps := rfl
@[simp] theorem State.setGms_sensors (v : Gms) : (s.setGms v).sensors = s.sensors := rfl
@[simp] theorem State.setGms_pwms (v : Gms) : (s.setGms v).pwms = s.pwms := rfl
@[simp] theorem State.setGms_chans (v : Gms) : (s.setGms v).chans = s.chans := rfl
@[simp] theorem State.setGms_groups (v : Gms) : (s.setGms v).groups = s.groups := rfl
@[simp] theorem State.setGms_hvs (v : Gms) : (s.setGms v).hvs = s.hvs := rfl
@[simp] theorem State.setGms_lvdrv (v : Gms) : (s.setGms v).lvdrv = s.lvdrv := rfl
@[simp] theorem State.setGms_twls (v : Gms) : (s.setGms v).twls = s.twls := rfl
@[simp] theorem State.setGms_encs (v : Gms) : (s.setGms v).encs = s.encs := rfl
@[simp] theorem State.setGms_halls (v : Gms) : (s.setGms v).halls = s.halls := rfl
@[simp] theorem State.setGms_dcdc (v : Gms) : (s.setGms v).dcdc = s.dcdc := rfl
@[simp] theorem State.setGms_obc (v : Gms) : (s.setGms v).obc = s.obc := rfl
@[simp] theorem State.setGms_lamps (v : Gms) : (s.setGms v).lamps = s.lamps := rfl
@[simp] theorem State.setGms_acts (v : Gms) : (s.setGms v).acts = s.acts := rfl
@[simp] theorem State.setGms_ctr (v : Gms) : (s.setGms v).ctr = s.ctr := rfl
@[simp] theorem State.setGms_rings (v : Gms) : (s.setGms v).rings = s.rings := rfl
@[simp] theorem State.setGms_zcors (v : Gms) : (s.setGms v).zcors = s.zcors := rfl
@[simp] theorem State.setGms_twin (v : Gms) : (s.setGms v).twin = s.twin := rfl
@[simp] theorem State.setGms_net (v : Gms) : (s.setGms v).net = s.net := rfl
@[simp] theorem State.setPages_pending (v : List (Nat × PageHid)) : (s.setPages v).pending = s.pending := rfl
@[simp] theorem State.setPages_regs (v : List (Nat × PageHid)) : (s.setPages v).regs = s.regs := rfl
@[simp] theorem State.setPages_mem (v : List (Nat × PageHid)) : (s.setPages v).mem = s.mem := rfl
@[simp] theorem State.setPages_free (v : List (Nat × PageHid)) : (s.setPages v).free = s.free := rfl
@[simp] theorem State.setPages_pwr (v : List (Nat × PageHid)) : (s.setPages v).pwr = s.pwr := rfl
@[simp] theorem State.setPages_pins (v : List (Nat × PageHid)) : (s.setPages v).pins = s.pins := rfl
@[simp] theorem State.setPages_kept (v : List (Nat × PageHid)) : (s.setPages v).kept = s.kept := rfl
@[simp] theorem State.setPages_gms (v : List (Nat × PageHid)) : (s.setPages v).gms = s.gms := rfl
@[simp] theorem State.setPages_pages (v : List (Nat × PageHid)) : (s.setPages v).pages = v := rfl
@[simp] theorem State.setPages_ports (v : List (Nat × PageHid)) : (s.setPages v).ports = s.ports := rfl
@[simp] theorem State.setPages_caps (v : List (Nat × PageHid)) : (s.setPages v).caps = s.caps := rfl
@[simp] theorem State.setPages_router (v : List (Nat × PageHid)) : (s.setPages v).router = s.router := rfl
@[simp] theorem State.setPages_icx (v : List (Nat × PageHid)) : (s.setPages v).icx = s.icx := rfl
@[simp] theorem State.setPages_cores (v : List (Nat × PageHid)) : (s.setPages v).cores = s.cores := rfl
@[simp] theorem State.setPages_pairs (v : List (Nat × PageHid)) : (s.setPages v).pairs = s.pairs := rfl
@[simp] theorem State.setPages_shroud (v : List (Nat × PageHid)) : (s.setPages v).shroud = s.shroud := rfl
@[simp] theorem State.setPages_engines (v : List (Nat × PageHid)) : (s.setPages v).engines = s.engines := rfl
@[simp] theorem State.setPages_ctxs (v : List (Nat × PageHid)) : (s.setPages v).ctxs = s.ctxs := rfl
@[simp] theorem State.setPages_samples (v : List (Nat × PageHid)) : (s.setPages v).samples = s.samples := rfl
@[simp] theorem State.setPages_adcs (v : List (Nat × PageHid)) : (s.setPages v).adcs = s.adcs := rfl
@[simp] theorem State.setPages_sdms (v : List (Nat × PageHid)) : (s.setPages v).sdms = s.sdms := rfl
@[simp] theorem State.setPages_cmps (v : List (Nat × PageHid)) : (s.setPages v).cmps = s.cmps := rfl
@[simp] theorem State.setPages_sensors (v : List (Nat × PageHid)) : (s.setPages v).sensors = s.sensors := rfl
@[simp] theorem State.setPages_pwms (v : List (Nat × PageHid)) : (s.setPages v).pwms = s.pwms := rfl
@[simp] theorem State.setPages_chans (v : List (Nat × PageHid)) : (s.setPages v).chans = s.chans := rfl
@[simp] theorem State.setPages_groups (v : List (Nat × PageHid)) : (s.setPages v).groups = s.groups := rfl
@[simp] theorem State.setPages_hvs (v : List (Nat × PageHid)) : (s.setPages v).hvs = s.hvs := rfl
@[simp] theorem State.setPages_lvdrv (v : List (Nat × PageHid)) : (s.setPages v).lvdrv = s.lvdrv := rfl
@[simp] theorem State.setPages_twls (v : List (Nat × PageHid)) : (s.setPages v).twls = s.twls := rfl
@[simp] theorem State.setPages_encs (v : List (Nat × PageHid)) : (s.setPages v).encs = s.encs := rfl
@[simp] theorem State.setPages_halls (v : List (Nat × PageHid)) : (s.setPages v).halls = s.halls := rfl
@[simp] theorem State.setPages_dcdc (v : List (Nat × PageHid)) : (s.setPages v).dcdc = s.dcdc := rfl
@[simp] theorem State.setPages_obc (v : List (Nat × PageHid)) : (s.setPages v).obc = s.obc := rfl
@[simp] theorem State.setPages_lamps (v : List (Nat × PageHid)) : (s.setPages v).lamps = s.lamps := rfl
@[simp] theorem State.setPages_acts (v : List (Nat × PageHid)) : (s.setPages v).acts = s.acts := rfl
@[simp] theorem State.setPages_ctr (v : List (Nat × PageHid)) : (s.setPages v).ctr = s.ctr := rfl
@[simp] theorem State.setPages_rings (v : List (Nat × PageHid)) : (s.setPages v).rings = s.rings := rfl
@[simp] theorem State.setPages_zcors (v : List (Nat × PageHid)) : (s.setPages v).zcors = s.zcors := rfl
@[simp] theorem State.setPages_twin (v : List (Nat × PageHid)) : (s.setPages v).twin = s.twin := rfl
@[simp] theorem State.setPages_net (v : List (Nat × PageHid)) : (s.setPages v).net = s.net := rfl
@[simp] theorem State.setPorts_pending (v : List (Nat × PortSt)) : (s.setPorts v).pending = s.pending := rfl
@[simp] theorem State.setPorts_regs (v : List (Nat × PortSt)) : (s.setPorts v).regs = s.regs := rfl
@[simp] theorem State.setPorts_mem (v : List (Nat × PortSt)) : (s.setPorts v).mem = s.mem := rfl
@[simp] theorem State.setPorts_free (v : List (Nat × PortSt)) : (s.setPorts v).free = s.free := rfl
@[simp] theorem State.setPorts_pwr (v : List (Nat × PortSt)) : (s.setPorts v).pwr = s.pwr := rfl
@[simp] theorem State.setPorts_pins (v : List (Nat × PortSt)) : (s.setPorts v).pins = s.pins := rfl
@[simp] theorem State.setPorts_kept (v : List (Nat × PortSt)) : (s.setPorts v).kept = s.kept := rfl
@[simp] theorem State.setPorts_gms (v : List (Nat × PortSt)) : (s.setPorts v).gms = s.gms := rfl
@[simp] theorem State.setPorts_pages (v : List (Nat × PortSt)) : (s.setPorts v).pages = s.pages := rfl
@[simp] theorem State.setPorts_ports (v : List (Nat × PortSt)) : (s.setPorts v).ports = v := rfl
@[simp] theorem State.setPorts_caps (v : List (Nat × PortSt)) : (s.setPorts v).caps = s.caps := rfl
@[simp] theorem State.setPorts_router (v : List (Nat × PortSt)) : (s.setPorts v).router = s.router := rfl
@[simp] theorem State.setPorts_icx (v : List (Nat × PortSt)) : (s.setPorts v).icx = s.icx := rfl
@[simp] theorem State.setPorts_cores (v : List (Nat × PortSt)) : (s.setPorts v).cores = s.cores := rfl
@[simp] theorem State.setPorts_pairs (v : List (Nat × PortSt)) : (s.setPorts v).pairs = s.pairs := rfl
@[simp] theorem State.setPorts_shroud (v : List (Nat × PortSt)) : (s.setPorts v).shroud = s.shroud := rfl
@[simp] theorem State.setPorts_engines (v : List (Nat × PortSt)) : (s.setPorts v).engines = s.engines := rfl
@[simp] theorem State.setPorts_ctxs (v : List (Nat × PortSt)) : (s.setPorts v).ctxs = s.ctxs := rfl
@[simp] theorem State.setPorts_samples (v : List (Nat × PortSt)) : (s.setPorts v).samples = s.samples := rfl
@[simp] theorem State.setPorts_adcs (v : List (Nat × PortSt)) : (s.setPorts v).adcs = s.adcs := rfl
@[simp] theorem State.setPorts_sdms (v : List (Nat × PortSt)) : (s.setPorts v).sdms = s.sdms := rfl
@[simp] theorem State.setPorts_cmps (v : List (Nat × PortSt)) : (s.setPorts v).cmps = s.cmps := rfl
@[simp] theorem State.setPorts_sensors (v : List (Nat × PortSt)) : (s.setPorts v).sensors = s.sensors := rfl
@[simp] theorem State.setPorts_pwms (v : List (Nat × PortSt)) : (s.setPorts v).pwms = s.pwms := rfl
@[simp] theorem State.setPorts_chans (v : List (Nat × PortSt)) : (s.setPorts v).chans = s.chans := rfl
@[simp] theorem State.setPorts_groups (v : List (Nat × PortSt)) : (s.setPorts v).groups = s.groups := rfl
@[simp] theorem State.setPorts_hvs (v : List (Nat × PortSt)) : (s.setPorts v).hvs = s.hvs := rfl
@[simp] theorem State.setPorts_lvdrv (v : List (Nat × PortSt)) : (s.setPorts v).lvdrv = s.lvdrv := rfl
@[simp] theorem State.setPorts_twls (v : List (Nat × PortSt)) : (s.setPorts v).twls = s.twls := rfl
@[simp] theorem State.setPorts_encs (v : List (Nat × PortSt)) : (s.setPorts v).encs = s.encs := rfl
@[simp] theorem State.setPorts_halls (v : List (Nat × PortSt)) : (s.setPorts v).halls = s.halls := rfl
@[simp] theorem State.setPorts_dcdc (v : List (Nat × PortSt)) : (s.setPorts v).dcdc = s.dcdc := rfl
@[simp] theorem State.setPorts_obc (v : List (Nat × PortSt)) : (s.setPorts v).obc = s.obc := rfl
@[simp] theorem State.setPorts_lamps (v : List (Nat × PortSt)) : (s.setPorts v).lamps = s.lamps := rfl
@[simp] theorem State.setPorts_acts (v : List (Nat × PortSt)) : (s.setPorts v).acts = s.acts := rfl
@[simp] theorem State.setPorts_ctr (v : List (Nat × PortSt)) : (s.setPorts v).ctr = s.ctr := rfl
@[simp] theorem State.setPorts_rings (v : List (Nat × PortSt)) : (s.setPorts v).rings = s.rings := rfl
@[simp] theorem State.setPorts_zcors (v : List (Nat × PortSt)) : (s.setPorts v).zcors = s.zcors := rfl
@[simp] theorem State.setPorts_twin (v : List (Nat × PortSt)) : (s.setPorts v).twin = s.twin := rfl
@[simp] theorem State.setPorts_net (v : List (Nat × PortSt)) : (s.setPorts v).net = s.net := rfl
@[simp] theorem State.setCaps_pending (v : List (Nat × CapHid)) : (s.setCaps v).pending = s.pending := rfl
@[simp] theorem State.setCaps_regs (v : List (Nat × CapHid)) : (s.setCaps v).regs = s.regs := rfl
@[simp] theorem State.setCaps_mem (v : List (Nat × CapHid)) : (s.setCaps v).mem = s.mem := rfl
@[simp] theorem State.setCaps_free (v : List (Nat × CapHid)) : (s.setCaps v).free = s.free := rfl
@[simp] theorem State.setCaps_pwr (v : List (Nat × CapHid)) : (s.setCaps v).pwr = s.pwr := rfl
@[simp] theorem State.setCaps_pins (v : List (Nat × CapHid)) : (s.setCaps v).pins = s.pins := rfl
@[simp] theorem State.setCaps_kept (v : List (Nat × CapHid)) : (s.setCaps v).kept = s.kept := rfl
@[simp] theorem State.setCaps_gms (v : List (Nat × CapHid)) : (s.setCaps v).gms = s.gms := rfl
@[simp] theorem State.setCaps_pages (v : List (Nat × CapHid)) : (s.setCaps v).pages = s.pages := rfl
@[simp] theorem State.setCaps_ports (v : List (Nat × CapHid)) : (s.setCaps v).ports = s.ports := rfl
@[simp] theorem State.setCaps_caps (v : List (Nat × CapHid)) : (s.setCaps v).caps = v := rfl
@[simp] theorem State.setCaps_router (v : List (Nat × CapHid)) : (s.setCaps v).router = s.router := rfl
@[simp] theorem State.setCaps_icx (v : List (Nat × CapHid)) : (s.setCaps v).icx = s.icx := rfl
@[simp] theorem State.setCaps_cores (v : List (Nat × CapHid)) : (s.setCaps v).cores = s.cores := rfl
@[simp] theorem State.setCaps_pairs (v : List (Nat × CapHid)) : (s.setCaps v).pairs = s.pairs := rfl
@[simp] theorem State.setCaps_shroud (v : List (Nat × CapHid)) : (s.setCaps v).shroud = s.shroud := rfl
@[simp] theorem State.setCaps_engines (v : List (Nat × CapHid)) : (s.setCaps v).engines = s.engines := rfl
@[simp] theorem State.setCaps_ctxs (v : List (Nat × CapHid)) : (s.setCaps v).ctxs = s.ctxs := rfl
@[simp] theorem State.setCaps_samples (v : List (Nat × CapHid)) : (s.setCaps v).samples = s.samples := rfl
@[simp] theorem State.setCaps_adcs (v : List (Nat × CapHid)) : (s.setCaps v).adcs = s.adcs := rfl
@[simp] theorem State.setCaps_sdms (v : List (Nat × CapHid)) : (s.setCaps v).sdms = s.sdms := rfl
@[simp] theorem State.setCaps_cmps (v : List (Nat × CapHid)) : (s.setCaps v).cmps = s.cmps := rfl
@[simp] theorem State.setCaps_sensors (v : List (Nat × CapHid)) : (s.setCaps v).sensors = s.sensors := rfl
@[simp] theorem State.setCaps_pwms (v : List (Nat × CapHid)) : (s.setCaps v).pwms = s.pwms := rfl
@[simp] theorem State.setCaps_chans (v : List (Nat × CapHid)) : (s.setCaps v).chans = s.chans := rfl
@[simp] theorem State.setCaps_groups (v : List (Nat × CapHid)) : (s.setCaps v).groups = s.groups := rfl
@[simp] theorem State.setCaps_hvs (v : List (Nat × CapHid)) : (s.setCaps v).hvs = s.hvs := rfl
@[simp] theorem State.setCaps_lvdrv (v : List (Nat × CapHid)) : (s.setCaps v).lvdrv = s.lvdrv := rfl
@[simp] theorem State.setCaps_twls (v : List (Nat × CapHid)) : (s.setCaps v).twls = s.twls := rfl
@[simp] theorem State.setCaps_encs (v : List (Nat × CapHid)) : (s.setCaps v).encs = s.encs := rfl
@[simp] theorem State.setCaps_halls (v : List (Nat × CapHid)) : (s.setCaps v).halls = s.halls := rfl
@[simp] theorem State.setCaps_dcdc (v : List (Nat × CapHid)) : (s.setCaps v).dcdc = s.dcdc := rfl
@[simp] theorem State.setCaps_obc (v : List (Nat × CapHid)) : (s.setCaps v).obc = s.obc := rfl
@[simp] theorem State.setCaps_lamps (v : List (Nat × CapHid)) : (s.setCaps v).lamps = s.lamps := rfl
@[simp] theorem State.setCaps_acts (v : List (Nat × CapHid)) : (s.setCaps v).acts = s.acts := rfl
@[simp] theorem State.setCaps_ctr (v : List (Nat × CapHid)) : (s.setCaps v).ctr = s.ctr := rfl
@[simp] theorem State.setCaps_rings (v : List (Nat × CapHid)) : (s.setCaps v).rings = s.rings := rfl
@[simp] theorem State.setCaps_zcors (v : List (Nat × CapHid)) : (s.setCaps v).zcors = s.zcors := rfl
@[simp] theorem State.setCaps_twin (v : List (Nat × CapHid)) : (s.setCaps v).twin = s.twin := rfl
@[simp] theorem State.setCaps_net (v : List (Nat × CapHid)) : (s.setCaps v).net = s.net := rfl
@[simp] theorem State.setRouter_pending (v : Router) : (s.setRouter v).pending = s.pending := rfl
@[simp] theorem State.setRouter_regs (v : Router) : (s.setRouter v).regs = s.regs := rfl
@[simp] theorem State.setRouter_mem (v : Router) : (s.setRouter v).mem = s.mem := rfl
@[simp] theorem State.setRouter_free (v : Router) : (s.setRouter v).free = s.free := rfl
@[simp] theorem State.setRouter_pwr (v : Router) : (s.setRouter v).pwr = s.pwr := rfl
@[simp] theorem State.setRouter_pins (v : Router) : (s.setRouter v).pins = s.pins := rfl
@[simp] theorem State.setRouter_kept (v : Router) : (s.setRouter v).kept = s.kept := rfl
@[simp] theorem State.setRouter_gms (v : Router) : (s.setRouter v).gms = s.gms := rfl
@[simp] theorem State.setRouter_pages (v : Router) : (s.setRouter v).pages = s.pages := rfl
@[simp] theorem State.setRouter_ports (v : Router) : (s.setRouter v).ports = s.ports := rfl
@[simp] theorem State.setRouter_caps (v : Router) : (s.setRouter v).caps = s.caps := rfl
@[simp] theorem State.setRouter_router (v : Router) : (s.setRouter v).router = v := rfl
@[simp] theorem State.setRouter_icx (v : Router) : (s.setRouter v).icx = s.icx := rfl
@[simp] theorem State.setRouter_cores (v : Router) : (s.setRouter v).cores = s.cores := rfl
@[simp] theorem State.setRouter_pairs (v : Router) : (s.setRouter v).pairs = s.pairs := rfl
@[simp] theorem State.setRouter_shroud (v : Router) : (s.setRouter v).shroud = s.shroud := rfl
@[simp] theorem State.setRouter_engines (v : Router) : (s.setRouter v).engines = s.engines := rfl
@[simp] theorem State.setRouter_ctxs (v : Router) : (s.setRouter v).ctxs = s.ctxs := rfl
@[simp] theorem State.setRouter_samples (v : Router) : (s.setRouter v).samples = s.samples := rfl
@[simp] theorem State.setRouter_adcs (v : Router) : (s.setRouter v).adcs = s.adcs := rfl
@[simp] theorem State.setRouter_sdms (v : Router) : (s.setRouter v).sdms = s.sdms := rfl
@[simp] theorem State.setRouter_cmps (v : Router) : (s.setRouter v).cmps = s.cmps := rfl
@[simp] theorem State.setRouter_sensors (v : Router) : (s.setRouter v).sensors = s.sensors := rfl
@[simp] theorem State.setRouter_pwms (v : Router) : (s.setRouter v).pwms = s.pwms := rfl
@[simp] theorem State.setRouter_chans (v : Router) : (s.setRouter v).chans = s.chans := rfl
@[simp] theorem State.setRouter_groups (v : Router) : (s.setRouter v).groups = s.groups := rfl
@[simp] theorem State.setRouter_hvs (v : Router) : (s.setRouter v).hvs = s.hvs := rfl
@[simp] theorem State.setRouter_lvdrv (v : Router) : (s.setRouter v).lvdrv = s.lvdrv := rfl
@[simp] theorem State.setRouter_twls (v : Router) : (s.setRouter v).twls = s.twls := rfl
@[simp] theorem State.setRouter_encs (v : Router) : (s.setRouter v).encs = s.encs := rfl
@[simp] theorem State.setRouter_halls (v : Router) : (s.setRouter v).halls = s.halls := rfl
@[simp] theorem State.setRouter_dcdc (v : Router) : (s.setRouter v).dcdc = s.dcdc := rfl
@[simp] theorem State.setRouter_obc (v : Router) : (s.setRouter v).obc = s.obc := rfl
@[simp] theorem State.setRouter_lamps (v : Router) : (s.setRouter v).lamps = s.lamps := rfl
@[simp] theorem State.setRouter_acts (v : Router) : (s.setRouter v).acts = s.acts := rfl
@[simp] theorem State.setRouter_ctr (v : Router) : (s.setRouter v).ctr = s.ctr := rfl
@[simp] theorem State.setRouter_rings (v : Router) : (s.setRouter v).rings = s.rings := rfl
@[simp] theorem State.setRouter_zcors (v : Router) : (s.setRouter v).zcors = s.zcors := rfl
@[simp] theorem State.setRouter_twin (v : Router) : (s.setRouter v).twin = s.twin := rfl
@[simp] theorem State.setRouter_net (v : Router) : (s.setRouter v).net = s.net := rfl
@[simp] theorem State.setIcx_pending (v : Icx) : (s.setIcx v).pending = s.pending := rfl
@[simp] theorem State.setIcx_regs (v : Icx) : (s.setIcx v).regs = s.regs := rfl
@[simp] theorem State.setIcx_mem (v : Icx) : (s.setIcx v).mem = s.mem := rfl
@[simp] theorem State.setIcx_free (v : Icx) : (s.setIcx v).free = s.free := rfl
@[simp] theorem State.setIcx_pwr (v : Icx) : (s.setIcx v).pwr = s.pwr := rfl
@[simp] theorem State.setIcx_pins (v : Icx) : (s.setIcx v).pins = s.pins := rfl
@[simp] theorem State.setIcx_kept (v : Icx) : (s.setIcx v).kept = s.kept := rfl
@[simp] theorem State.setIcx_gms (v : Icx) : (s.setIcx v).gms = s.gms := rfl
@[simp] theorem State.setIcx_pages (v : Icx) : (s.setIcx v).pages = s.pages := rfl
@[simp] theorem State.setIcx_ports (v : Icx) : (s.setIcx v).ports = s.ports := rfl
@[simp] theorem State.setIcx_caps (v : Icx) : (s.setIcx v).caps = s.caps := rfl
@[simp] theorem State.setIcx_router (v : Icx) : (s.setIcx v).router = s.router := rfl
@[simp] theorem State.setIcx_icx (v : Icx) : (s.setIcx v).icx = v := rfl
@[simp] theorem State.setIcx_cores (v : Icx) : (s.setIcx v).cores = s.cores := rfl
@[simp] theorem State.setIcx_pairs (v : Icx) : (s.setIcx v).pairs = s.pairs := rfl
@[simp] theorem State.setIcx_shroud (v : Icx) : (s.setIcx v).shroud = s.shroud := rfl
@[simp] theorem State.setIcx_engines (v : Icx) : (s.setIcx v).engines = s.engines := rfl
@[simp] theorem State.setIcx_ctxs (v : Icx) : (s.setIcx v).ctxs = s.ctxs := rfl
@[simp] theorem State.setIcx_samples (v : Icx) : (s.setIcx v).samples = s.samples := rfl
@[simp] theorem State.setIcx_adcs (v : Icx) : (s.setIcx v).adcs = s.adcs := rfl
@[simp] theorem State.setIcx_sdms (v : Icx) : (s.setIcx v).sdms = s.sdms := rfl
@[simp] theorem State.setIcx_cmps (v : Icx) : (s.setIcx v).cmps = s.cmps := rfl
@[simp] theorem State.setIcx_sensors (v : Icx) : (s.setIcx v).sensors = s.sensors := rfl
@[simp] theorem State.setIcx_pwms (v : Icx) : (s.setIcx v).pwms = s.pwms := rfl
@[simp] theorem State.setIcx_chans (v : Icx) : (s.setIcx v).chans = s.chans := rfl
@[simp] theorem State.setIcx_groups (v : Icx) : (s.setIcx v).groups = s.groups := rfl
@[simp] theorem State.setIcx_hvs (v : Icx) : (s.setIcx v).hvs = s.hvs := rfl
@[simp] theorem State.setIcx_lvdrv (v : Icx) : (s.setIcx v).lvdrv = s.lvdrv := rfl
@[simp] theorem State.setIcx_twls (v : Icx) : (s.setIcx v).twls = s.twls := rfl
@[simp] theorem State.setIcx_encs (v : Icx) : (s.setIcx v).encs = s.encs := rfl
@[simp] theorem State.setIcx_halls (v : Icx) : (s.setIcx v).halls = s.halls := rfl
@[simp] theorem State.setIcx_dcdc (v : Icx) : (s.setIcx v).dcdc = s.dcdc := rfl
@[simp] theorem State.setIcx_obc (v : Icx) : (s.setIcx v).obc = s.obc := rfl
@[simp] theorem State.setIcx_lamps (v : Icx) : (s.setIcx v).lamps = s.lamps := rfl
@[simp] theorem State.setIcx_acts (v : Icx) : (s.setIcx v).acts = s.acts := rfl
@[simp] theorem State.setIcx_ctr (v : Icx) : (s.setIcx v).ctr = s.ctr := rfl
@[simp] theorem State.setIcx_rings (v : Icx) : (s.setIcx v).rings = s.rings := rfl
@[simp] theorem State.setIcx_zcors (v : Icx) : (s.setIcx v).zcors = s.zcors := rfl
@[simp] theorem State.setIcx_twin (v : Icx) : (s.setIcx v).twin = s.twin := rfl
@[simp] theorem State.setIcx_net (v : Icx) : (s.setIcx v).net = s.net := rfl
@[simp] theorem State.setCores_pending (v : List (Nat × Core)) : (s.setCores v).pending = s.pending := rfl
@[simp] theorem State.setCores_regs (v : List (Nat × Core)) : (s.setCores v).regs = s.regs := rfl
@[simp] theorem State.setCores_mem (v : List (Nat × Core)) : (s.setCores v).mem = s.mem := rfl
@[simp] theorem State.setCores_free (v : List (Nat × Core)) : (s.setCores v).free = s.free := rfl
@[simp] theorem State.setCores_pwr (v : List (Nat × Core)) : (s.setCores v).pwr = s.pwr := rfl
@[simp] theorem State.setCores_pins (v : List (Nat × Core)) : (s.setCores v).pins = s.pins := rfl
@[simp] theorem State.setCores_kept (v : List (Nat × Core)) : (s.setCores v).kept = s.kept := rfl
@[simp] theorem State.setCores_gms (v : List (Nat × Core)) : (s.setCores v).gms = s.gms := rfl
@[simp] theorem State.setCores_pages (v : List (Nat × Core)) : (s.setCores v).pages = s.pages := rfl
@[simp] theorem State.setCores_ports (v : List (Nat × Core)) : (s.setCores v).ports = s.ports := rfl
@[simp] theorem State.setCores_caps (v : List (Nat × Core)) : (s.setCores v).caps = s.caps := rfl
@[simp] theorem State.setCores_router (v : List (Nat × Core)) : (s.setCores v).router = s.router := rfl
@[simp] theorem State.setCores_icx (v : List (Nat × Core)) : (s.setCores v).icx = s.icx := rfl
@[simp] theorem State.setCores_cores (v : List (Nat × Core)) : (s.setCores v).cores = v := rfl
@[simp] theorem State.setCores_pairs (v : List (Nat × Core)) : (s.setCores v).pairs = s.pairs := rfl
@[simp] theorem State.setCores_shroud (v : List (Nat × Core)) : (s.setCores v).shroud = s.shroud := rfl
@[simp] theorem State.setCores_engines (v : List (Nat × Core)) : (s.setCores v).engines = s.engines := rfl
@[simp] theorem State.setCores_ctxs (v : List (Nat × Core)) : (s.setCores v).ctxs = s.ctxs := rfl
@[simp] theorem State.setCores_samples (v : List (Nat × Core)) : (s.setCores v).samples = s.samples := rfl
@[simp] theorem State.setCores_adcs (v : List (Nat × Core)) : (s.setCores v).adcs = s.adcs := rfl
@[simp] theorem State.setCores_sdms (v : List (Nat × Core)) : (s.setCores v).sdms = s.sdms := rfl
@[simp] theorem State.setCores_cmps (v : List (Nat × Core)) : (s.setCores v).cmps = s.cmps := rfl
@[simp] theorem State.setCores_sensors (v : List (Nat × Core)) : (s.setCores v).sensors = s.sensors := rfl
@[simp] theorem State.setCores_pwms (v : List (Nat × Core)) : (s.setCores v).pwms = s.pwms := rfl
@[simp] theorem State.setCores_chans (v : List (Nat × Core)) : (s.setCores v).chans = s.chans := rfl
@[simp] theorem State.setCores_groups (v : List (Nat × Core)) : (s.setCores v).groups = s.groups := rfl
@[simp] theorem State.setCores_hvs (v : List (Nat × Core)) : (s.setCores v).hvs = s.hvs := rfl
@[simp] theorem State.setCores_lvdrv (v : List (Nat × Core)) : (s.setCores v).lvdrv = s.lvdrv := rfl
@[simp] theorem State.setCores_twls (v : List (Nat × Core)) : (s.setCores v).twls = s.twls := rfl
@[simp] theorem State.setCores_encs (v : List (Nat × Core)) : (s.setCores v).encs = s.encs := rfl
@[simp] theorem State.setCores_halls (v : List (Nat × Core)) : (s.setCores v).halls = s.halls := rfl
@[simp] theorem State.setCores_dcdc (v : List (Nat × Core)) : (s.setCores v).dcdc = s.dcdc := rfl
@[simp] theorem State.setCores_obc (v : List (Nat × Core)) : (s.setCores v).obc = s.obc := rfl
@[simp] theorem State.setCores_lamps (v : List (Nat × Core)) : (s.setCores v).lamps = s.lamps := rfl
@[simp] theorem State.setCores_acts (v : List (Nat × Core)) : (s.setCores v).acts = s.acts := rfl
@[simp] theorem State.setCores_ctr (v : List (Nat × Core)) : (s.setCores v).ctr = s.ctr := rfl
@[simp] theorem State.setCores_rings (v : List (Nat × Core)) : (s.setCores v).rings = s.rings := rfl
@[simp] theorem State.setCores_zcors (v : List (Nat × Core)) : (s.setCores v).zcors = s.zcors := rfl
@[simp] theorem State.setCores_twin (v : List (Nat × Core)) : (s.setCores v).twin = s.twin := rfl
@[simp] theorem State.setCores_net (v : List (Nat × Core)) : (s.setCores v).net = s.net := rfl
@[simp] theorem State.setPairs_pending (v : List (Nat × PairSt)) : (s.setPairs v).pending = s.pending := rfl
@[simp] theorem State.setPairs_regs (v : List (Nat × PairSt)) : (s.setPairs v).regs = s.regs := rfl
@[simp] theorem State.setPairs_mem (v : List (Nat × PairSt)) : (s.setPairs v).mem = s.mem := rfl
@[simp] theorem State.setPairs_free (v : List (Nat × PairSt)) : (s.setPairs v).free = s.free := rfl
@[simp] theorem State.setPairs_pwr (v : List (Nat × PairSt)) : (s.setPairs v).pwr = s.pwr := rfl
@[simp] theorem State.setPairs_pins (v : List (Nat × PairSt)) : (s.setPairs v).pins = s.pins := rfl
@[simp] theorem State.setPairs_kept (v : List (Nat × PairSt)) : (s.setPairs v).kept = s.kept := rfl
@[simp] theorem State.setPairs_gms (v : List (Nat × PairSt)) : (s.setPairs v).gms = s.gms := rfl
@[simp] theorem State.setPairs_pages (v : List (Nat × PairSt)) : (s.setPairs v).pages = s.pages := rfl
@[simp] theorem State.setPairs_ports (v : List (Nat × PairSt)) : (s.setPairs v).ports = s.ports := rfl
@[simp] theorem State.setPairs_caps (v : List (Nat × PairSt)) : (s.setPairs v).caps = s.caps := rfl
@[simp] theorem State.setPairs_router (v : List (Nat × PairSt)) : (s.setPairs v).router = s.router := rfl
@[simp] theorem State.setPairs_icx (v : List (Nat × PairSt)) : (s.setPairs v).icx = s.icx := rfl
@[simp] theorem State.setPairs_cores (v : List (Nat × PairSt)) : (s.setPairs v).cores = s.cores := rfl
@[simp] theorem State.setPairs_pairs (v : List (Nat × PairSt)) : (s.setPairs v).pairs = v := rfl
@[simp] theorem State.setPairs_shroud (v : List (Nat × PairSt)) : (s.setPairs v).shroud = s.shroud := rfl
@[simp] theorem State.setPairs_engines (v : List (Nat × PairSt)) : (s.setPairs v).engines = s.engines := rfl
@[simp] theorem State.setPairs_ctxs (v : List (Nat × PairSt)) : (s.setPairs v).ctxs = s.ctxs := rfl
@[simp] theorem State.setPairs_samples (v : List (Nat × PairSt)) : (s.setPairs v).samples = s.samples := rfl
@[simp] theorem State.setPairs_adcs (v : List (Nat × PairSt)) : (s.setPairs v).adcs = s.adcs := rfl
@[simp] theorem State.setPairs_sdms (v : List (Nat × PairSt)) : (s.setPairs v).sdms = s.sdms := rfl
@[simp] theorem State.setPairs_cmps (v : List (Nat × PairSt)) : (s.setPairs v).cmps = s.cmps := rfl
@[simp] theorem State.setPairs_sensors (v : List (Nat × PairSt)) : (s.setPairs v).sensors = s.sensors := rfl
@[simp] theorem State.setPairs_pwms (v : List (Nat × PairSt)) : (s.setPairs v).pwms = s.pwms := rfl
@[simp] theorem State.setPairs_chans (v : List (Nat × PairSt)) : (s.setPairs v).chans = s.chans := rfl
@[simp] theorem State.setPairs_groups (v : List (Nat × PairSt)) : (s.setPairs v).groups = s.groups := rfl
@[simp] theorem State.setPairs_hvs (v : List (Nat × PairSt)) : (s.setPairs v).hvs = s.hvs := rfl
@[simp] theorem State.setPairs_lvdrv (v : List (Nat × PairSt)) : (s.setPairs v).lvdrv = s.lvdrv := rfl
@[simp] theorem State.setPairs_twls (v : List (Nat × PairSt)) : (s.setPairs v).twls = s.twls := rfl
@[simp] theorem State.setPairs_encs (v : List (Nat × PairSt)) : (s.setPairs v).encs = s.encs := rfl
@[simp] theorem State.setPairs_halls (v : List (Nat × PairSt)) : (s.setPairs v).halls = s.halls := rfl
@[simp] theorem State.setPairs_dcdc (v : List (Nat × PairSt)) : (s.setPairs v).dcdc = s.dcdc := rfl
@[simp] theorem State.setPairs_obc (v : List (Nat × PairSt)) : (s.setPairs v).obc = s.obc := rfl
@[simp] theorem State.setPairs_lamps (v : List (Nat × PairSt)) : (s.setPairs v).lamps = s.lamps := rfl
@[simp] theorem State.setPairs_acts (v : List (Nat × PairSt)) : (s.setPairs v).acts = s.acts := rfl
@[simp] theorem State.setPairs_ctr (v : List (Nat × PairSt)) : (s.setPairs v).ctr = s.ctr := rfl
@[simp] theorem State.setPairs_rings (v : List (Nat × PairSt)) : (s.setPairs v).rings = s.rings := rfl
@[simp] theorem State.setPairs_zcors (v : List (Nat × PairSt)) : (s.setPairs v).zcors = s.zcors := rfl
@[simp] theorem State.setPairs_twin (v : List (Nat × PairSt)) : (s.setPairs v).twin = s.twin := rfl
@[simp] theorem State.setPairs_net (v : List (Nat × PairSt)) : (s.setPairs v).net = s.net := rfl
@[simp] theorem State.setShroud_pending (v : Shroud) : (s.setShroud v).pending = s.pending := rfl
@[simp] theorem State.setShroud_regs (v : Shroud) : (s.setShroud v).regs = s.regs := rfl
@[simp] theorem State.setShroud_mem (v : Shroud) : (s.setShroud v).mem = s.mem := rfl
@[simp] theorem State.setShroud_free (v : Shroud) : (s.setShroud v).free = s.free := rfl
@[simp] theorem State.setShroud_pwr (v : Shroud) : (s.setShroud v).pwr = s.pwr := rfl
@[simp] theorem State.setShroud_pins (v : Shroud) : (s.setShroud v).pins = s.pins := rfl
@[simp] theorem State.setShroud_kept (v : Shroud) : (s.setShroud v).kept = s.kept := rfl
@[simp] theorem State.setShroud_gms (v : Shroud) : (s.setShroud v).gms = s.gms := rfl
@[simp] theorem State.setShroud_pages (v : Shroud) : (s.setShroud v).pages = s.pages := rfl
@[simp] theorem State.setShroud_ports (v : Shroud) : (s.setShroud v).ports = s.ports := rfl
@[simp] theorem State.setShroud_caps (v : Shroud) : (s.setShroud v).caps = s.caps := rfl
@[simp] theorem State.setShroud_router (v : Shroud) : (s.setShroud v).router = s.router := rfl
@[simp] theorem State.setShroud_icx (v : Shroud) : (s.setShroud v).icx = s.icx := rfl
@[simp] theorem State.setShroud_cores (v : Shroud) : (s.setShroud v).cores = s.cores := rfl
@[simp] theorem State.setShroud_pairs (v : Shroud) : (s.setShroud v).pairs = s.pairs := rfl
@[simp] theorem State.setShroud_shroud (v : Shroud) : (s.setShroud v).shroud = v := rfl
@[simp] theorem State.setShroud_engines (v : Shroud) : (s.setShroud v).engines = s.engines := rfl
@[simp] theorem State.setShroud_ctxs (v : Shroud) : (s.setShroud v).ctxs = s.ctxs := rfl
@[simp] theorem State.setShroud_samples (v : Shroud) : (s.setShroud v).samples = s.samples := rfl
@[simp] theorem State.setShroud_adcs (v : Shroud) : (s.setShroud v).adcs = s.adcs := rfl
@[simp] theorem State.setShroud_sdms (v : Shroud) : (s.setShroud v).sdms = s.sdms := rfl
@[simp] theorem State.setShroud_cmps (v : Shroud) : (s.setShroud v).cmps = s.cmps := rfl
@[simp] theorem State.setShroud_sensors (v : Shroud) : (s.setShroud v).sensors = s.sensors := rfl
@[simp] theorem State.setShroud_pwms (v : Shroud) : (s.setShroud v).pwms = s.pwms := rfl
@[simp] theorem State.setShroud_chans (v : Shroud) : (s.setShroud v).chans = s.chans := rfl
@[simp] theorem State.setShroud_groups (v : Shroud) : (s.setShroud v).groups = s.groups := rfl
@[simp] theorem State.setShroud_hvs (v : Shroud) : (s.setShroud v).hvs = s.hvs := rfl
@[simp] theorem State.setShroud_lvdrv (v : Shroud) : (s.setShroud v).lvdrv = s.lvdrv := rfl
@[simp] theorem State.setShroud_twls (v : Shroud) : (s.setShroud v).twls = s.twls := rfl
@[simp] theorem State.setShroud_encs (v : Shroud) : (s.setShroud v).encs = s.encs := rfl
@[simp] theorem State.setShroud_halls (v : Shroud) : (s.setShroud v).halls = s.halls := rfl
@[simp] theorem State.setShroud_dcdc (v : Shroud) : (s.setShroud v).dcdc = s.dcdc := rfl
@[simp] theorem State.setShroud_obc (v : Shroud) : (s.setShroud v).obc = s.obc := rfl
@[simp] theorem State.setShroud_lamps (v : Shroud) : (s.setShroud v).lamps = s.lamps := rfl
@[simp] theorem State.setShroud_acts (v : Shroud) : (s.setShroud v).acts = s.acts := rfl
@[simp] theorem State.setShroud_ctr (v : Shroud) : (s.setShroud v).ctr = s.ctr := rfl
@[simp] theorem State.setShroud_rings (v : Shroud) : (s.setShroud v).rings = s.rings := rfl
@[simp] theorem State.setShroud_zcors (v : Shroud) : (s.setShroud v).zcors = s.zcors := rfl
@[simp] theorem State.setShroud_twin (v : Shroud) : (s.setShroud v).twin = s.twin := rfl
@[simp] theorem State.setShroud_net (v : Shroud) : (s.setShroud v).net = s.net := rfl
@[simp] theorem State.setEngines_pending (v : List (Nat × Engine)) : (s.setEngines v).pending = s.pending := rfl
@[simp] theorem State.setEngines_regs (v : List (Nat × Engine)) : (s.setEngines v).regs = s.regs := rfl
@[simp] theorem State.setEngines_mem (v : List (Nat × Engine)) : (s.setEngines v).mem = s.mem := rfl
@[simp] theorem State.setEngines_free (v : List (Nat × Engine)) : (s.setEngines v).free = s.free := rfl
@[simp] theorem State.setEngines_pwr (v : List (Nat × Engine)) : (s.setEngines v).pwr = s.pwr := rfl
@[simp] theorem State.setEngines_pins (v : List (Nat × Engine)) : (s.setEngines v).pins = s.pins := rfl
@[simp] theorem State.setEngines_kept (v : List (Nat × Engine)) : (s.setEngines v).kept = s.kept := rfl
@[simp] theorem State.setEngines_gms (v : List (Nat × Engine)) : (s.setEngines v).gms = s.gms := rfl
@[simp] theorem State.setEngines_pages (v : List (Nat × Engine)) : (s.setEngines v).pages = s.pages := rfl
@[simp] theorem State.setEngines_ports (v : List (Nat × Engine)) : (s.setEngines v).ports = s.ports := rfl
@[simp] theorem State.setEngines_caps (v : List (Nat × Engine)) : (s.setEngines v).caps = s.caps := rfl
@[simp] theorem State.setEngines_router (v : List (Nat × Engine)) : (s.setEngines v).router = s.router := rfl
@[simp] theorem State.setEngines_icx (v : List (Nat × Engine)) : (s.setEngines v).icx = s.icx := rfl
@[simp] theorem State.setEngines_cores (v : List (Nat × Engine)) : (s.setEngines v).cores = s.cores := rfl
@[simp] theorem State.setEngines_pairs (v : List (Nat × Engine)) : (s.setEngines v).pairs = s.pairs := rfl
@[simp] theorem State.setEngines_shroud (v : List (Nat × Engine)) : (s.setEngines v).shroud = s.shroud := rfl
@[simp] theorem State.setEngines_engines (v : List (Nat × Engine)) : (s.setEngines v).engines = v := rfl
@[simp] theorem State.setEngines_ctxs (v : List (Nat × Engine)) : (s.setEngines v).ctxs = s.ctxs := rfl
@[simp] theorem State.setEngines_samples (v : List (Nat × Engine)) : (s.setEngines v).samples = s.samples := rfl
@[simp] theorem State.setEngines_adcs (v : List (Nat × Engine)) : (s.setEngines v).adcs = s.adcs := rfl
@[simp] theorem State.setEngines_sdms (v : List (Nat × Engine)) : (s.setEngines v).sdms = s.sdms := rfl
@[simp] theorem State.setEngines_cmps (v : List (Nat × Engine)) : (s.setEngines v).cmps = s.cmps := rfl
@[simp] theorem State.setEngines_sensors (v : List (Nat × Engine)) : (s.setEngines v).sensors = s.sensors := rfl
@[simp] theorem State.setEngines_pwms (v : List (Nat × Engine)) : (s.setEngines v).pwms = s.pwms := rfl
@[simp] theorem State.setEngines_chans (v : List (Nat × Engine)) : (s.setEngines v).chans = s.chans := rfl
@[simp] theorem State.setEngines_groups (v : List (Nat × Engine)) : (s.setEngines v).groups = s.groups := rfl
@[simp] theorem State.setEngines_hvs (v : List (Nat × Engine)) : (s.setEngines v).hvs = s.hvs := rfl
@[simp] theorem State.setEngines_lvdrv (v : List (Nat × Engine)) : (s.setEngines v).lvdrv = s.lvdrv := rfl
@[simp] theorem State.setEngines_twls (v : List (Nat × Engine)) : (s.setEngines v).twls = s.twls := rfl
@[simp] theorem State.setEngines_encs (v : List (Nat × Engine)) : (s.setEngines v).encs = s.encs := rfl
@[simp] theorem State.setEngines_halls (v : List (Nat × Engine)) : (s.setEngines v).halls = s.halls := rfl
@[simp] theorem State.setEngines_dcdc (v : List (Nat × Engine)) : (s.setEngines v).dcdc = s.dcdc := rfl
@[simp] theorem State.setEngines_obc (v : List (Nat × Engine)) : (s.setEngines v).obc = s.obc := rfl
@[simp] theorem State.setEngines_lamps (v : List (Nat × Engine)) : (s.setEngines v).lamps = s.lamps := rfl
@[simp] theorem State.setEngines_acts (v : List (Nat × Engine)) : (s.setEngines v).acts = s.acts := rfl
@[simp] theorem State.setEngines_ctr (v : List (Nat × Engine)) : (s.setEngines v).ctr = s.ctr := rfl
@[simp] theorem State.setEngines_rings (v : List (Nat × Engine)) : (s.setEngines v).rings = s.rings := rfl
@[simp] theorem State.setEngines_zcors (v : List (Nat × Engine)) : (s.setEngines v).zcors = s.zcors := rfl
@[simp] theorem State.setEngines_twin (v : List (Nat × Engine)) : (s.setEngines v).twin = s.twin := rfl
@[simp] theorem State.setEngines_net (v : List (Nat × Engine)) : (s.setEngines v).net = s.net := rfl
@[simp] theorem State.setCtxs_pending (v : List (Nat × Ctx)) : (s.setCtxs v).pending = s.pending := rfl
@[simp] theorem State.setCtxs_regs (v : List (Nat × Ctx)) : (s.setCtxs v).regs = s.regs := rfl
@[simp] theorem State.setCtxs_mem (v : List (Nat × Ctx)) : (s.setCtxs v).mem = s.mem := rfl
@[simp] theorem State.setCtxs_free (v : List (Nat × Ctx)) : (s.setCtxs v).free = s.free := rfl
@[simp] theorem State.setCtxs_pwr (v : List (Nat × Ctx)) : (s.setCtxs v).pwr = s.pwr := rfl
@[simp] theorem State.setCtxs_pins (v : List (Nat × Ctx)) : (s.setCtxs v).pins = s.pins := rfl
@[simp] theorem State.setCtxs_kept (v : List (Nat × Ctx)) : (s.setCtxs v).kept = s.kept := rfl
@[simp] theorem State.setCtxs_gms (v : List (Nat × Ctx)) : (s.setCtxs v).gms = s.gms := rfl
@[simp] theorem State.setCtxs_pages (v : List (Nat × Ctx)) : (s.setCtxs v).pages = s.pages := rfl
@[simp] theorem State.setCtxs_ports (v : List (Nat × Ctx)) : (s.setCtxs v).ports = s.ports := rfl
@[simp] theorem State.setCtxs_caps (v : List (Nat × Ctx)) : (s.setCtxs v).caps = s.caps := rfl
@[simp] theorem State.setCtxs_router (v : List (Nat × Ctx)) : (s.setCtxs v).router = s.router := rfl
@[simp] theorem State.setCtxs_icx (v : List (Nat × Ctx)) : (s.setCtxs v).icx = s.icx := rfl
@[simp] theorem State.setCtxs_cores (v : List (Nat × Ctx)) : (s.setCtxs v).cores = s.cores := rfl
@[simp] theorem State.setCtxs_pairs (v : List (Nat × Ctx)) : (s.setCtxs v).pairs = s.pairs := rfl
@[simp] theorem State.setCtxs_shroud (v : List (Nat × Ctx)) : (s.setCtxs v).shroud = s.shroud := rfl
@[simp] theorem State.setCtxs_engines (v : List (Nat × Ctx)) : (s.setCtxs v).engines = s.engines := rfl
@[simp] theorem State.setCtxs_ctxs (v : List (Nat × Ctx)) : (s.setCtxs v).ctxs = v := rfl
@[simp] theorem State.setCtxs_samples (v : List (Nat × Ctx)) : (s.setCtxs v).samples = s.samples := rfl
@[simp] theorem State.setCtxs_adcs (v : List (Nat × Ctx)) : (s.setCtxs v).adcs = s.adcs := rfl
@[simp] theorem State.setCtxs_sdms (v : List (Nat × Ctx)) : (s.setCtxs v).sdms = s.sdms := rfl
@[simp] theorem State.setCtxs_cmps (v : List (Nat × Ctx)) : (s.setCtxs v).cmps = s.cmps := rfl
@[simp] theorem State.setCtxs_sensors (v : List (Nat × Ctx)) : (s.setCtxs v).sensors = s.sensors := rfl
@[simp] theorem State.setCtxs_pwms (v : List (Nat × Ctx)) : (s.setCtxs v).pwms = s.pwms := rfl
@[simp] theorem State.setCtxs_chans (v : List (Nat × Ctx)) : (s.setCtxs v).chans = s.chans := rfl
@[simp] theorem State.setCtxs_groups (v : List (Nat × Ctx)) : (s.setCtxs v).groups = s.groups := rfl
@[simp] theorem State.setCtxs_hvs (v : List (Nat × Ctx)) : (s.setCtxs v).hvs = s.hvs := rfl
@[simp] theorem State.setCtxs_lvdrv (v : List (Nat × Ctx)) : (s.setCtxs v).lvdrv = s.lvdrv := rfl
@[simp] theorem State.setCtxs_twls (v : List (Nat × Ctx)) : (s.setCtxs v).twls = s.twls := rfl
@[simp] theorem State.setCtxs_encs (v : List (Nat × Ctx)) : (s.setCtxs v).encs = s.encs := rfl
@[simp] theorem State.setCtxs_halls (v : List (Nat × Ctx)) : (s.setCtxs v).halls = s.halls := rfl
@[simp] theorem State.setCtxs_dcdc (v : List (Nat × Ctx)) : (s.setCtxs v).dcdc = s.dcdc := rfl
@[simp] theorem State.setCtxs_obc (v : List (Nat × Ctx)) : (s.setCtxs v).obc = s.obc := rfl
@[simp] theorem State.setCtxs_lamps (v : List (Nat × Ctx)) : (s.setCtxs v).lamps = s.lamps := rfl
@[simp] theorem State.setCtxs_acts (v : List (Nat × Ctx)) : (s.setCtxs v).acts = s.acts := rfl
@[simp] theorem State.setCtxs_ctr (v : List (Nat × Ctx)) : (s.setCtxs v).ctr = s.ctr := rfl
@[simp] theorem State.setCtxs_rings (v : List (Nat × Ctx)) : (s.setCtxs v).rings = s.rings := rfl
@[simp] theorem State.setCtxs_zcors (v : List (Nat × Ctx)) : (s.setCtxs v).zcors = s.zcors := rfl
@[simp] theorem State.setCtxs_twin (v : List (Nat × Ctx)) : (s.setCtxs v).twin = s.twin := rfl
@[simp] theorem State.setCtxs_net (v : List (Nat × Ctx)) : (s.setCtxs v).net = s.net := rfl
@[simp] theorem State.setSamples_pending (v : List (Nat × Sample)) : (s.setSamples v).pending = s.pending := rfl
@[simp] theorem State.setSamples_regs (v : List (Nat × Sample)) : (s.setSamples v).regs = s.regs := rfl
@[simp] theorem State.setSamples_mem (v : List (Nat × Sample)) : (s.setSamples v).mem = s.mem := rfl
@[simp] theorem State.setSamples_free (v : List (Nat × Sample)) : (s.setSamples v).free = s.free := rfl
@[simp] theorem State.setSamples_pwr (v : List (Nat × Sample)) : (s.setSamples v).pwr = s.pwr := rfl
@[simp] theorem State.setSamples_pins (v : List (Nat × Sample)) : (s.setSamples v).pins = s.pins := rfl
@[simp] theorem State.setSamples_kept (v : List (Nat × Sample)) : (s.setSamples v).kept = s.kept := rfl
@[simp] theorem State.setSamples_gms (v : List (Nat × Sample)) : (s.setSamples v).gms = s.gms := rfl
@[simp] theorem State.setSamples_pages (v : List (Nat × Sample)) : (s.setSamples v).pages = s.pages := rfl
@[simp] theorem State.setSamples_ports (v : List (Nat × Sample)) : (s.setSamples v).ports = s.ports := rfl
@[simp] theorem State.setSamples_caps (v : List (Nat × Sample)) : (s.setSamples v).caps = s.caps := rfl
@[simp] theorem State.setSamples_router (v : List (Nat × Sample)) : (s.setSamples v).router = s.router := rfl
@[simp] theorem State.setSamples_icx (v : List (Nat × Sample)) : (s.setSamples v).icx = s.icx := rfl
@[simp] theorem State.setSamples_cores (v : List (Nat × Sample)) : (s.setSamples v).cores = s.cores := rfl
@[simp] theorem State.setSamples_pairs (v : List (Nat × Sample)) : (s.setSamples v).pairs = s.pairs := rfl
@[simp] theorem State.setSamples_shroud (v : List (Nat × Sample)) : (s.setSamples v).shroud = s.shroud := rfl
@[simp] theorem State.setSamples_engines (v : List (Nat × Sample)) : (s.setSamples v).engines = s.engines := rfl
@[simp] theorem State.setSamples_ctxs (v : List (Nat × Sample)) : (s.setSamples v).ctxs = s.ctxs := rfl
@[simp] theorem State.setSamples_samples (v : List (Nat × Sample)) : (s.setSamples v).samples = v := rfl
@[simp] theorem State.setSamples_adcs (v : List (Nat × Sample)) : (s.setSamples v).adcs = s.adcs := rfl
@[simp] theorem State.setSamples_sdms (v : List (Nat × Sample)) : (s.setSamples v).sdms = s.sdms := rfl
@[simp] theorem State.setSamples_cmps (v : List (Nat × Sample)) : (s.setSamples v).cmps = s.cmps := rfl
@[simp] theorem State.setSamples_sensors (v : List (Nat × Sample)) : (s.setSamples v).sensors = s.sensors := rfl
@[simp] theorem State.setSamples_pwms (v : List (Nat × Sample)) : (s.setSamples v).pwms = s.pwms := rfl
@[simp] theorem State.setSamples_chans (v : List (Nat × Sample)) : (s.setSamples v).chans = s.chans := rfl
@[simp] theorem State.setSamples_groups (v : List (Nat × Sample)) : (s.setSamples v).groups = s.groups := rfl
@[simp] theorem State.setSamples_hvs (v : List (Nat × Sample)) : (s.setSamples v).hvs = s.hvs := rfl
@[simp] theorem State.setSamples_lvdrv (v : List (Nat × Sample)) : (s.setSamples v).lvdrv = s.lvdrv := rfl
@[simp] theorem State.setSamples_twls (v : List (Nat × Sample)) : (s.setSamples v).twls = s.twls := rfl
@[simp] theorem State.setSamples_encs (v : List (Nat × Sample)) : (s.setSamples v).encs = s.encs := rfl
@[simp] theorem State.setSamples_halls (v : List (Nat × Sample)) : (s.setSamples v).halls = s.halls := rfl
@[simp] theorem State.setSamples_dcdc (v : List (Nat × Sample)) : (s.setSamples v).dcdc = s.dcdc := rfl
@[simp] theorem State.setSamples_obc (v : List (Nat × Sample)) : (s.setSamples v).obc = s.obc := rfl
@[simp] theorem State.setSamples_lamps (v : List (Nat × Sample)) : (s.setSamples v).lamps = s.lamps := rfl
@[simp] theorem State.setSamples_acts (v : List (Nat × Sample)) : (s.setSamples v).acts = s.acts := rfl
@[simp] theorem State.setSamples_ctr (v : List (Nat × Sample)) : (s.setSamples v).ctr = s.ctr := rfl
@[simp] theorem State.setSamples_rings (v : List (Nat × Sample)) : (s.setSamples v).rings = s.rings := rfl
@[simp] theorem State.setSamples_zcors (v : List (Nat × Sample)) : (s.setSamples v).zcors = s.zcors := rfl
@[simp] theorem State.setSamples_twin (v : List (Nat × Sample)) : (s.setSamples v).twin = s.twin := rfl
@[simp] theorem State.setSamples_net (v : List (Nat × Sample)) : (s.setSamples v).net = s.net := rfl
@[simp] theorem State.setAdcs_pending (v : List (Nat × AdcSeq)) : (s.setAdcs v).pending = s.pending := rfl
@[simp] theorem State.setAdcs_regs (v : List (Nat × AdcSeq)) : (s.setAdcs v).regs = s.regs := rfl
@[simp] theorem State.setAdcs_mem (v : List (Nat × AdcSeq)) : (s.setAdcs v).mem = s.mem := rfl
@[simp] theorem State.setAdcs_free (v : List (Nat × AdcSeq)) : (s.setAdcs v).free = s.free := rfl
@[simp] theorem State.setAdcs_pwr (v : List (Nat × AdcSeq)) : (s.setAdcs v).pwr = s.pwr := rfl
@[simp] theorem State.setAdcs_pins (v : List (Nat × AdcSeq)) : (s.setAdcs v).pins = s.pins := rfl
@[simp] theorem State.setAdcs_kept (v : List (Nat × AdcSeq)) : (s.setAdcs v).kept = s.kept := rfl
@[simp] theorem State.setAdcs_gms (v : List (Nat × AdcSeq)) : (s.setAdcs v).gms = s.gms := rfl
@[simp] theorem State.setAdcs_pages (v : List (Nat × AdcSeq)) : (s.setAdcs v).pages = s.pages := rfl
@[simp] theorem State.setAdcs_ports (v : List (Nat × AdcSeq)) : (s.setAdcs v).ports = s.ports := rfl
@[simp] theorem State.setAdcs_caps (v : List (Nat × AdcSeq)) : (s.setAdcs v).caps = s.caps := rfl
@[simp] theorem State.setAdcs_router (v : List (Nat × AdcSeq)) : (s.setAdcs v).router = s.router := rfl
@[simp] theorem State.setAdcs_icx (v : List (Nat × AdcSeq)) : (s.setAdcs v).icx = s.icx := rfl
@[simp] theorem State.setAdcs_cores (v : List (Nat × AdcSeq)) : (s.setAdcs v).cores = s.cores := rfl
@[simp] theorem State.setAdcs_pairs (v : List (Nat × AdcSeq)) : (s.setAdcs v).pairs = s.pairs := rfl
@[simp] theorem State.setAdcs_shroud (v : List (Nat × AdcSeq)) : (s.setAdcs v).shroud = s.shroud := rfl
@[simp] theorem State.setAdcs_engines (v : List (Nat × AdcSeq)) : (s.setAdcs v).engines = s.engines := rfl
@[simp] theorem State.setAdcs_ctxs (v : List (Nat × AdcSeq)) : (s.setAdcs v).ctxs = s.ctxs := rfl
@[simp] theorem State.setAdcs_samples (v : List (Nat × AdcSeq)) : (s.setAdcs v).samples = s.samples := rfl
@[simp] theorem State.setAdcs_adcs (v : List (Nat × AdcSeq)) : (s.setAdcs v).adcs = v := rfl
@[simp] theorem State.setAdcs_sdms (v : List (Nat × AdcSeq)) : (s.setAdcs v).sdms = s.sdms := rfl
@[simp] theorem State.setAdcs_cmps (v : List (Nat × AdcSeq)) : (s.setAdcs v).cmps = s.cmps := rfl
@[simp] theorem State.setAdcs_sensors (v : List (Nat × AdcSeq)) : (s.setAdcs v).sensors = s.sensors := rfl
@[simp] theorem State.setAdcs_pwms (v : List (Nat × AdcSeq)) : (s.setAdcs v).pwms = s.pwms := rfl
@[simp] theorem State.setAdcs_chans (v : List (Nat × AdcSeq)) : (s.setAdcs v).chans = s.chans := rfl
@[simp] theorem State.setAdcs_groups (v : List (Nat × AdcSeq)) : (s.setAdcs v).groups = s.groups := rfl
@[simp] theorem State.setAdcs_hvs (v : List (Nat × AdcSeq)) : (s.setAdcs v).hvs = s.hvs := rfl
@[simp] theorem State.setAdcs_lvdrv (v : List (Nat × AdcSeq)) : (s.setAdcs v).lvdrv = s.lvdrv := rfl
@[simp] theorem State.setAdcs_twls (v : List (Nat × AdcSeq)) : (s.setAdcs v).twls = s.twls := rfl
@[simp] theorem State.setAdcs_encs (v : List (Nat × AdcSeq)) : (s.setAdcs v).encs = s.encs := rfl
@[simp] theorem State.setAdcs_halls (v : List (Nat × AdcSeq)) : (s.setAdcs v).halls = s.halls := rfl
@[simp] theorem State.setAdcs_dcdc (v : List (Nat × AdcSeq)) : (s.setAdcs v).dcdc = s.dcdc := rfl
@[simp] theorem State.setAdcs_obc (v : List (Nat × AdcSeq)) : (s.setAdcs v).obc = s.obc := rfl
@[simp] theorem State.setAdcs_lamps (v : List (Nat × AdcSeq)) : (s.setAdcs v).lamps = s.lamps := rfl
@[simp] theorem State.setAdcs_acts (v : List (Nat × AdcSeq)) : (s.setAdcs v).acts = s.acts := rfl
@[simp] theorem State.setAdcs_ctr (v : List (Nat × AdcSeq)) : (s.setAdcs v).ctr = s.ctr := rfl
@[simp] theorem State.setAdcs_rings (v : List (Nat × AdcSeq)) : (s.setAdcs v).rings = s.rings := rfl
@[simp] theorem State.setAdcs_zcors (v : List (Nat × AdcSeq)) : (s.setAdcs v).zcors = s.zcors := rfl
@[simp] theorem State.setAdcs_twin (v : List (Nat × AdcSeq)) : (s.setAdcs v).twin = s.twin := rfl
@[simp] theorem State.setAdcs_net (v : List (Nat × AdcSeq)) : (s.setAdcs v).net = s.net := rfl
@[simp] theorem State.setSdms_pending (v : List (Nat × Sdm)) : (s.setSdms v).pending = s.pending := rfl
@[simp] theorem State.setSdms_regs (v : List (Nat × Sdm)) : (s.setSdms v).regs = s.regs := rfl
@[simp] theorem State.setSdms_mem (v : List (Nat × Sdm)) : (s.setSdms v).mem = s.mem := rfl
@[simp] theorem State.setSdms_free (v : List (Nat × Sdm)) : (s.setSdms v).free = s.free := rfl
@[simp] theorem State.setSdms_pwr (v : List (Nat × Sdm)) : (s.setSdms v).pwr = s.pwr := rfl
@[simp] theorem State.setSdms_pins (v : List (Nat × Sdm)) : (s.setSdms v).pins = s.pins := rfl
@[simp] theorem State.setSdms_kept (v : List (Nat × Sdm)) : (s.setSdms v).kept = s.kept := rfl
@[simp] theorem State.setSdms_gms (v : List (Nat × Sdm)) : (s.setSdms v).gms = s.gms := rfl
@[simp] theorem State.setSdms_pages (v : List (Nat × Sdm)) : (s.setSdms v).pages = s.pages := rfl
@[simp] theorem State.setSdms_ports (v : List (Nat × Sdm)) : (s.setSdms v).ports = s.ports := rfl
@[simp] theorem State.setSdms_caps (v : List (Nat × Sdm)) : (s.setSdms v).caps = s.caps := rfl
@[simp] theorem State.setSdms_router (v : List (Nat × Sdm)) : (s.setSdms v).router = s.router := rfl
@[simp] theorem State.setSdms_icx (v : List (Nat × Sdm)) : (s.setSdms v).icx = s.icx := rfl
@[simp] theorem State.setSdms_cores (v : List (Nat × Sdm)) : (s.setSdms v).cores = s.cores := rfl
@[simp] theorem State.setSdms_pairs (v : List (Nat × Sdm)) : (s.setSdms v).pairs = s.pairs := rfl
@[simp] theorem State.setSdms_shroud (v : List (Nat × Sdm)) : (s.setSdms v).shroud = s.shroud := rfl
@[simp] theorem State.setSdms_engines (v : List (Nat × Sdm)) : (s.setSdms v).engines = s.engines := rfl
@[simp] theorem State.setSdms_ctxs (v : List (Nat × Sdm)) : (s.setSdms v).ctxs = s.ctxs := rfl
@[simp] theorem State.setSdms_samples (v : List (Nat × Sdm)) : (s.setSdms v).samples = s.samples := rfl
@[simp] theorem State.setSdms_adcs (v : List (Nat × Sdm)) : (s.setSdms v).adcs = s.adcs := rfl
@[simp] theorem State.setSdms_sdms (v : List (Nat × Sdm)) : (s.setSdms v).sdms = v := rfl
@[simp] theorem State.setSdms_cmps (v : List (Nat × Sdm)) : (s.setSdms v).cmps = s.cmps := rfl
@[simp] theorem State.setSdms_sensors (v : List (Nat × Sdm)) : (s.setSdms v).sensors = s.sensors := rfl
@[simp] theorem State.setSdms_pwms (v : List (Nat × Sdm)) : (s.setSdms v).pwms = s.pwms := rfl
@[simp] theorem State.setSdms_chans (v : List (Nat × Sdm)) : (s.setSdms v).chans = s.chans := rfl
@[simp] theorem State.setSdms_groups (v : List (Nat × Sdm)) : (s.setSdms v).groups = s.groups := rfl
@[simp] theorem State.setSdms_hvs (v : List (Nat × Sdm)) : (s.setSdms v).hvs = s.hvs := rfl
@[simp] theorem State.setSdms_lvdrv (v : List (Nat × Sdm)) : (s.setSdms v).lvdrv = s.lvdrv := rfl
@[simp] theorem State.setSdms_twls (v : List (Nat × Sdm)) : (s.setSdms v).twls = s.twls := rfl
@[simp] theorem State.setSdms_encs (v : List (Nat × Sdm)) : (s.setSdms v).encs = s.encs := rfl
@[simp] theorem State.setSdms_halls (v : List (Nat × Sdm)) : (s.setSdms v).halls = s.halls := rfl
@[simp] theorem State.setSdms_dcdc (v : List (Nat × Sdm)) : (s.setSdms v).dcdc = s.dcdc := rfl
@[simp] theorem State.setSdms_obc (v : List (Nat × Sdm)) : (s.setSdms v).obc = s.obc := rfl
@[simp] theorem State.setSdms_lamps (v : List (Nat × Sdm)) : (s.setSdms v).lamps = s.lamps := rfl
@[simp] theorem State.setSdms_acts (v : List (Nat × Sdm)) : (s.setSdms v).acts = s.acts := rfl
@[simp] theorem State.setSdms_ctr (v : List (Nat × Sdm)) : (s.setSdms v).ctr = s.ctr := rfl
@[simp] theorem State.setSdms_rings (v : List (Nat × Sdm)) : (s.setSdms v).rings = s.rings := rfl
@[simp] theorem State.setSdms_zcors (v : List (Nat × Sdm)) : (s.setSdms v).zcors = s.zcors := rfl
@[simp] theorem State.setSdms_twin (v : List (Nat × Sdm)) : (s.setSdms v).twin = s.twin := rfl
@[simp] theorem State.setSdms_net (v : List (Nat × Sdm)) : (s.setSdms v).net = s.net := rfl
@[simp] theorem State.setCmps_pending (v : List (Nat × Cmp)) : (s.setCmps v).pending = s.pending := rfl
@[simp] theorem State.setCmps_regs (v : List (Nat × Cmp)) : (s.setCmps v).regs = s.regs := rfl
@[simp] theorem State.setCmps_mem (v : List (Nat × Cmp)) : (s.setCmps v).mem = s.mem := rfl
@[simp] theorem State.setCmps_free (v : List (Nat × Cmp)) : (s.setCmps v).free = s.free := rfl
@[simp] theorem State.setCmps_pwr (v : List (Nat × Cmp)) : (s.setCmps v).pwr = s.pwr := rfl
@[simp] theorem State.setCmps_pins (v : List (Nat × Cmp)) : (s.setCmps v).pins = s.pins := rfl
@[simp] theorem State.setCmps_kept (v : List (Nat × Cmp)) : (s.setCmps v).kept = s.kept := rfl
@[simp] theorem State.setCmps_gms (v : List (Nat × Cmp)) : (s.setCmps v).gms = s.gms := rfl
@[simp] theorem State.setCmps_pages (v : List (Nat × Cmp)) : (s.setCmps v).pages = s.pages := rfl
@[simp] theorem State.setCmps_ports (v : List (Nat × Cmp)) : (s.setCmps v).ports = s.ports := rfl
@[simp] theorem State.setCmps_caps (v : List (Nat × Cmp)) : (s.setCmps v).caps = s.caps := rfl
@[simp] theorem State.setCmps_router (v : List (Nat × Cmp)) : (s.setCmps v).router = s.router := rfl
@[simp] theorem State.setCmps_icx (v : List (Nat × Cmp)) : (s.setCmps v).icx = s.icx := rfl
@[simp] theorem State.setCmps_cores (v : List (Nat × Cmp)) : (s.setCmps v).cores = s.cores := rfl
@[simp] theorem State.setCmps_pairs (v : List (Nat × Cmp)) : (s.setCmps v).pairs = s.pairs := rfl
@[simp] theorem State.setCmps_shroud (v : List (Nat × Cmp)) : (s.setCmps v).shroud = s.shroud := rfl
@[simp] theorem State.setCmps_engines (v : List (Nat × Cmp)) : (s.setCmps v).engines = s.engines := rfl
@[simp] theorem State.setCmps_ctxs (v : List (Nat × Cmp)) : (s.setCmps v).ctxs = s.ctxs := rfl
@[simp] theorem State.setCmps_samples (v : List (Nat × Cmp)) : (s.setCmps v).samples = s.samples := rfl
@[simp] theorem State.setCmps_adcs (v : List (Nat × Cmp)) : (s.setCmps v).adcs = s.adcs := rfl
@[simp] theorem State.setCmps_sdms (v : List (Nat × Cmp)) : (s.setCmps v).sdms = s.sdms := rfl
@[simp] theorem State.setCmps_cmps (v : List (Nat × Cmp)) : (s.setCmps v).cmps = v := rfl
@[simp] theorem State.setCmps_sensors (v : List (Nat × Cmp)) : (s.setCmps v).sensors = s.sensors := rfl
@[simp] theorem State.setCmps_pwms (v : List (Nat × Cmp)) : (s.setCmps v).pwms = s.pwms := rfl
@[simp] theorem State.setCmps_chans (v : List (Nat × Cmp)) : (s.setCmps v).chans = s.chans := rfl
@[simp] theorem State.setCmps_groups (v : List (Nat × Cmp)) : (s.setCmps v).groups = s.groups := rfl
@[simp] theorem State.setCmps_hvs (v : List (Nat × Cmp)) : (s.setCmps v).hvs = s.hvs := rfl
@[simp] theorem State.setCmps_lvdrv (v : List (Nat × Cmp)) : (s.setCmps v).lvdrv = s.lvdrv := rfl
@[simp] theorem State.setCmps_twls (v : List (Nat × Cmp)) : (s.setCmps v).twls = s.twls := rfl
@[simp] theorem State.setCmps_encs (v : List (Nat × Cmp)) : (s.setCmps v).encs = s.encs := rfl
@[simp] theorem State.setCmps_halls (v : List (Nat × Cmp)) : (s.setCmps v).halls = s.halls := rfl
@[simp] theorem State.setCmps_dcdc (v : List (Nat × Cmp)) : (s.setCmps v).dcdc = s.dcdc := rfl
@[simp] theorem State.setCmps_obc (v : List (Nat × Cmp)) : (s.setCmps v).obc = s.obc := rfl
@[simp] theorem State.setCmps_lamps (v : List (Nat × Cmp)) : (s.setCmps v).lamps = s.lamps := rfl
@[simp] theorem State.setCmps_acts (v : List (Nat × Cmp)) : (s.setCmps v).acts = s.acts := rfl
@[simp] theorem State.setCmps_ctr (v : List (Nat × Cmp)) : (s.setCmps v).ctr = s.ctr := rfl
@[simp] theorem State.setCmps_rings (v : List (Nat × Cmp)) : (s.setCmps v).rings = s.rings := rfl
@[simp] theorem State.setCmps_zcors (v : List (Nat × Cmp)) : (s.setCmps v).zcors = s.zcors := rfl
@[simp] theorem State.setCmps_twin (v : List (Nat × Cmp)) : (s.setCmps v).twin = s.twin := rfl
@[simp] theorem State.setCmps_net (v : List (Nat × Cmp)) : (s.setCmps v).net = s.net := rfl
@[simp] theorem State.setSensors_pending (v : List (Nat × Sensor)) : (s.setSensors v).pending = s.pending := rfl
@[simp] theorem State.setSensors_regs (v : List (Nat × Sensor)) : (s.setSensors v).regs = s.regs := rfl
@[simp] theorem State.setSensors_mem (v : List (Nat × Sensor)) : (s.setSensors v).mem = s.mem := rfl
@[simp] theorem State.setSensors_free (v : List (Nat × Sensor)) : (s.setSensors v).free = s.free := rfl
@[simp] theorem State.setSensors_pwr (v : List (Nat × Sensor)) : (s.setSensors v).pwr = s.pwr := rfl
@[simp] theorem State.setSensors_pins (v : List (Nat × Sensor)) : (s.setSensors v).pins = s.pins := rfl
@[simp] theorem State.setSensors_kept (v : List (Nat × Sensor)) : (s.setSensors v).kept = s.kept := rfl
@[simp] theorem State.setSensors_gms (v : List (Nat × Sensor)) : (s.setSensors v).gms = s.gms := rfl
@[simp] theorem State.setSensors_pages (v : List (Nat × Sensor)) : (s.setSensors v).pages = s.pages := rfl
@[simp] theorem State.setSensors_ports (v : List (Nat × Sensor)) : (s.setSensors v).ports = s.ports := rfl
@[simp] theorem State.setSensors_caps (v : List (Nat × Sensor)) : (s.setSensors v).caps = s.caps := rfl
@[simp] theorem State.setSensors_router (v : List (Nat × Sensor)) : (s.setSensors v).router = s.router := rfl
@[simp] theorem State.setSensors_icx (v : List (Nat × Sensor)) : (s.setSensors v).icx = s.icx := rfl
@[simp] theorem State.setSensors_cores (v : List (Nat × Sensor)) : (s.setSensors v).cores = s.cores := rfl
@[simp] theorem State.setSensors_pairs (v : List (Nat × Sensor)) : (s.setSensors v).pairs = s.pairs := rfl
@[simp] theorem State.setSensors_shroud (v : List (Nat × Sensor)) : (s.setSensors v).shroud = s.shroud := rfl
@[simp] theorem State.setSensors_engines (v : List (Nat × Sensor)) : (s.setSensors v).engines = s.engines := rfl
@[simp] theorem State.setSensors_ctxs (v : List (Nat × Sensor)) : (s.setSensors v).ctxs = s.ctxs := rfl
@[simp] theorem State.setSensors_samples (v : List (Nat × Sensor)) : (s.setSensors v).samples = s.samples := rfl
@[simp] theorem State.setSensors_adcs (v : List (Nat × Sensor)) : (s.setSensors v).adcs = s.adcs := rfl
@[simp] theorem State.setSensors_sdms (v : List (Nat × Sensor)) : (s.setSensors v).sdms = s.sdms := rfl
@[simp] theorem State.setSensors_cmps (v : List (Nat × Sensor)) : (s.setSensors v).cmps = s.cmps := rfl
@[simp] theorem State.setSensors_sensors (v : List (Nat × Sensor)) : (s.setSensors v).sensors = v := rfl
@[simp] theorem State.setSensors_pwms (v : List (Nat × Sensor)) : (s.setSensors v).pwms = s.pwms := rfl
@[simp] theorem State.setSensors_chans (v : List (Nat × Sensor)) : (s.setSensors v).chans = s.chans := rfl
@[simp] theorem State.setSensors_groups (v : List (Nat × Sensor)) : (s.setSensors v).groups = s.groups := rfl
@[simp] theorem State.setSensors_hvs (v : List (Nat × Sensor)) : (s.setSensors v).hvs = s.hvs := rfl
@[simp] theorem State.setSensors_lvdrv (v : List (Nat × Sensor)) : (s.setSensors v).lvdrv = s.lvdrv := rfl
@[simp] theorem State.setSensors_twls (v : List (Nat × Sensor)) : (s.setSensors v).twls = s.twls := rfl
@[simp] theorem State.setSensors_encs (v : List (Nat × Sensor)) : (s.setSensors v).encs = s.encs := rfl
@[simp] theorem State.setSensors_halls (v : List (Nat × Sensor)) : (s.setSensors v).halls = s.halls := rfl
@[simp] theorem State.setSensors_dcdc (v : List (Nat × Sensor)) : (s.setSensors v).dcdc = s.dcdc := rfl
@[simp] theorem State.setSensors_obc (v : List (Nat × Sensor)) : (s.setSensors v).obc = s.obc := rfl
@[simp] theorem State.setSensors_lamps (v : List (Nat × Sensor)) : (s.setSensors v).lamps = s.lamps := rfl
@[simp] theorem State.setSensors_acts (v : List (Nat × Sensor)) : (s.setSensors v).acts = s.acts := rfl
@[simp] theorem State.setSensors_ctr (v : List (Nat × Sensor)) : (s.setSensors v).ctr = s.ctr := rfl
@[simp] theorem State.setSensors_rings (v : List (Nat × Sensor)) : (s.setSensors v).rings = s.rings := rfl
@[simp] theorem State.setSensors_zcors (v : List (Nat × Sensor)) : (s.setSensors v).zcors = s.zcors := rfl
@[simp] theorem State.setSensors_twin (v : List (Nat × Sensor)) : (s.setSensors v).twin = s.twin := rfl
@[simp] theorem State.setSensors_net (v : List (Nat × Sensor)) : (s.setSensors v).net = s.net := rfl
@[simp] theorem State.setPwms_pending (v : List (Nat × Pwm)) : (s.setPwms v).pending = s.pending := rfl
@[simp] theorem State.setPwms_regs (v : List (Nat × Pwm)) : (s.setPwms v).regs = s.regs := rfl
@[simp] theorem State.setPwms_mem (v : List (Nat × Pwm)) : (s.setPwms v).mem = s.mem := rfl
@[simp] theorem State.setPwms_free (v : List (Nat × Pwm)) : (s.setPwms v).free = s.free := rfl
@[simp] theorem State.setPwms_pwr (v : List (Nat × Pwm)) : (s.setPwms v).pwr = s.pwr := rfl
@[simp] theorem State.setPwms_pins (v : List (Nat × Pwm)) : (s.setPwms v).pins = s.pins := rfl
@[simp] theorem State.setPwms_kept (v : List (Nat × Pwm)) : (s.setPwms v).kept = s.kept := rfl
@[simp] theorem State.setPwms_gms (v : List (Nat × Pwm)) : (s.setPwms v).gms = s.gms := rfl
@[simp] theorem State.setPwms_pages (v : List (Nat × Pwm)) : (s.setPwms v).pages = s.pages := rfl
@[simp] theorem State.setPwms_ports (v : List (Nat × Pwm)) : (s.setPwms v).ports = s.ports := rfl
@[simp] theorem State.setPwms_caps (v : List (Nat × Pwm)) : (s.setPwms v).caps = s.caps := rfl
@[simp] theorem State.setPwms_router (v : List (Nat × Pwm)) : (s.setPwms v).router = s.router := rfl
@[simp] theorem State.setPwms_icx (v : List (Nat × Pwm)) : (s.setPwms v).icx = s.icx := rfl
@[simp] theorem State.setPwms_cores (v : List (Nat × Pwm)) : (s.setPwms v).cores = s.cores := rfl
@[simp] theorem State.setPwms_pairs (v : List (Nat × Pwm)) : (s.setPwms v).pairs = s.pairs := rfl
@[simp] theorem State.setPwms_shroud (v : List (Nat × Pwm)) : (s.setPwms v).shroud = s.shroud := rfl
@[simp] theorem State.setPwms_engines (v : List (Nat × Pwm)) : (s.setPwms v).engines = s.engines := rfl
@[simp] theorem State.setPwms_ctxs (v : List (Nat × Pwm)) : (s.setPwms v).ctxs = s.ctxs := rfl
@[simp] theorem State.setPwms_samples (v : List (Nat × Pwm)) : (s.setPwms v).samples = s.samples := rfl
@[simp] theorem State.setPwms_adcs (v : List (Nat × Pwm)) : (s.setPwms v).adcs = s.adcs := rfl
@[simp] theorem State.setPwms_sdms (v : List (Nat × Pwm)) : (s.setPwms v).sdms = s.sdms := rfl
@[simp] theorem State.setPwms_cmps (v : List (Nat × Pwm)) : (s.setPwms v).cmps = s.cmps := rfl
@[simp] theorem State.setPwms_sensors (v : List (Nat × Pwm)) : (s.setPwms v).sensors = s.sensors := rfl
@[simp] theorem State.setPwms_pwms (v : List (Nat × Pwm)) : (s.setPwms v).pwms = v := rfl
@[simp] theorem State.setPwms_chans (v : List (Nat × Pwm)) : (s.setPwms v).chans = s.chans := rfl
@[simp] theorem State.setPwms_groups (v : List (Nat × Pwm)) : (s.setPwms v).groups = s.groups := rfl
@[simp] theorem State.setPwms_hvs (v : List (Nat × Pwm)) : (s.setPwms v).hvs = s.hvs := rfl
@[simp] theorem State.setPwms_lvdrv (v : List (Nat × Pwm)) : (s.setPwms v).lvdrv = s.lvdrv := rfl
@[simp] theorem State.setPwms_twls (v : List (Nat × Pwm)) : (s.setPwms v).twls = s.twls := rfl
@[simp] theorem State.setPwms_encs (v : List (Nat × Pwm)) : (s.setPwms v).encs = s.encs := rfl
@[simp] theorem State.setPwms_halls (v : List (Nat × Pwm)) : (s.setPwms v).halls = s.halls := rfl
@[simp] theorem State.setPwms_dcdc (v : List (Nat × Pwm)) : (s.setPwms v).dcdc = s.dcdc := rfl
@[simp] theorem State.setPwms_obc (v : List (Nat × Pwm)) : (s.setPwms v).obc = s.obc := rfl
@[simp] theorem State.setPwms_lamps (v : List (Nat × Pwm)) : (s.setPwms v).lamps = s.lamps := rfl
@[simp] theorem State.setPwms_acts (v : List (Nat × Pwm)) : (s.setPwms v).acts = s.acts := rfl
@[simp] theorem State.setPwms_ctr (v : List (Nat × Pwm)) : (s.setPwms v).ctr = s.ctr := rfl
@[simp] theorem State.setPwms_rings (v : List (Nat × Pwm)) : (s.setPwms v).rings = s.rings := rfl
@[simp] theorem State.setPwms_zcors (v : List (Nat × Pwm)) : (s.setPwms v).zcors = s.zcors := rfl
@[simp] theorem State.setPwms_twin (v : List (Nat × Pwm)) : (s.setPwms v).twin = s.twin := rfl
@[simp] theorem State.setPwms_net (v : List (Nat × Pwm)) : (s.setPwms v).net = s.net := rfl
@[simp] theorem State.setChans_pending (v : List (Nat × Chan)) : (s.setChans v).pending = s.pending := rfl
@[simp] theorem State.setChans_regs (v : List (Nat × Chan)) : (s.setChans v).regs = s.regs := rfl
@[simp] theorem State.setChans_mem (v : List (Nat × Chan)) : (s.setChans v).mem = s.mem := rfl
@[simp] theorem State.setChans_free (v : List (Nat × Chan)) : (s.setChans v).free = s.free := rfl
@[simp] theorem State.setChans_pwr (v : List (Nat × Chan)) : (s.setChans v).pwr = s.pwr := rfl
@[simp] theorem State.setChans_pins (v : List (Nat × Chan)) : (s.setChans v).pins = s.pins := rfl
@[simp] theorem State.setChans_kept (v : List (Nat × Chan)) : (s.setChans v).kept = s.kept := rfl
@[simp] theorem State.setChans_gms (v : List (Nat × Chan)) : (s.setChans v).gms = s.gms := rfl
@[simp] theorem State.setChans_pages (v : List (Nat × Chan)) : (s.setChans v).pages = s.pages := rfl
@[simp] theorem State.setChans_ports (v : List (Nat × Chan)) : (s.setChans v).ports = s.ports := rfl
@[simp] theorem State.setChans_caps (v : List (Nat × Chan)) : (s.setChans v).caps = s.caps := rfl
@[simp] theorem State.setChans_router (v : List (Nat × Chan)) : (s.setChans v).router = s.router := rfl
@[simp] theorem State.setChans_icx (v : List (Nat × Chan)) : (s.setChans v).icx = s.icx := rfl
@[simp] theorem State.setChans_cores (v : List (Nat × Chan)) : (s.setChans v).cores = s.cores := rfl
@[simp] theorem State.setChans_pairs (v : List (Nat × Chan)) : (s.setChans v).pairs = s.pairs := rfl
@[simp] theorem State.setChans_shroud (v : List (Nat × Chan)) : (s.setChans v).shroud = s.shroud := rfl
@[simp] theorem State.setChans_engines (v : List (Nat × Chan)) : (s.setChans v).engines = s.engines := rfl
@[simp] theorem State.setChans_ctxs (v : List (Nat × Chan)) : (s.setChans v).ctxs = s.ctxs := rfl
@[simp] theorem State.setChans_samples (v : List (Nat × Chan)) : (s.setChans v).samples = s.samples := rfl
@[simp] theorem State.setChans_adcs (v : List (Nat × Chan)) : (s.setChans v).adcs = s.adcs := rfl
@[simp] theorem State.setChans_sdms (v : List (Nat × Chan)) : (s.setChans v).sdms = s.sdms := rfl
@[simp] theorem State.setChans_cmps (v : List (Nat × Chan)) : (s.setChans v).cmps = s.cmps := rfl
@[simp] theorem State.setChans_sensors (v : List (Nat × Chan)) : (s.setChans v).sensors = s.sensors := rfl
@[simp] theorem State.setChans_pwms (v : List (Nat × Chan)) : (s.setChans v).pwms = s.pwms := rfl
@[simp] theorem State.setChans_chans (v : List (Nat × Chan)) : (s.setChans v).chans = v := rfl
@[simp] theorem State.setChans_groups (v : List (Nat × Chan)) : (s.setChans v).groups = s.groups := rfl
@[simp] theorem State.setChans_hvs (v : List (Nat × Chan)) : (s.setChans v).hvs = s.hvs := rfl
@[simp] theorem State.setChans_lvdrv (v : List (Nat × Chan)) : (s.setChans v).lvdrv = s.lvdrv := rfl
@[simp] theorem State.setChans_twls (v : List (Nat × Chan)) : (s.setChans v).twls = s.twls := rfl
@[simp] theorem State.setChans_encs (v : List (Nat × Chan)) : (s.setChans v).encs = s.encs := rfl
@[simp] theorem State.setChans_halls (v : List (Nat × Chan)) : (s.setChans v).halls = s.halls := rfl
@[simp] theorem State.setChans_dcdc (v : List (Nat × Chan)) : (s.setChans v).dcdc = s.dcdc := rfl
@[simp] theorem State.setChans_obc (v : List (Nat × Chan)) : (s.setChans v).obc = s.obc := rfl
@[simp] theorem State.setChans_lamps (v : List (Nat × Chan)) : (s.setChans v).lamps = s.lamps := rfl
@[simp] theorem State.setChans_acts (v : List (Nat × Chan)) : (s.setChans v).acts = s.acts := rfl
@[simp] theorem State.setChans_ctr (v : List (Nat × Chan)) : (s.setChans v).ctr = s.ctr := rfl
@[simp] theorem State.setChans_rings (v : List (Nat × Chan)) : (s.setChans v).rings = s.rings := rfl
@[simp] theorem State.setChans_zcors (v : List (Nat × Chan)) : (s.setChans v).zcors = s.zcors := rfl
@[simp] theorem State.setChans_twin (v : List (Nat × Chan)) : (s.setChans v).twin = s.twin := rfl
@[simp] theorem State.setChans_net (v : List (Nat × Chan)) : (s.setChans v).net = s.net := rfl
@[simp] theorem State.setGroups_pending (v : List (Nat × Group)) : (s.setGroups v).pending = s.pending := rfl
@[simp] theorem State.setGroups_regs (v : List (Nat × Group)) : (s.setGroups v).regs = s.regs := rfl
@[simp] theorem State.setGroups_mem (v : List (Nat × Group)) : (s.setGroups v).mem = s.mem := rfl
@[simp] theorem State.setGroups_free (v : List (Nat × Group)) : (s.setGroups v).free = s.free := rfl
@[simp] theorem State.setGroups_pwr (v : List (Nat × Group)) : (s.setGroups v).pwr = s.pwr := rfl
@[simp] theorem State.setGroups_pins (v : List (Nat × Group)) : (s.setGroups v).pins = s.pins := rfl
@[simp] theorem State.setGroups_kept (v : List (Nat × Group)) : (s.setGroups v).kept = s.kept := rfl
@[simp] theorem State.setGroups_gms (v : List (Nat × Group)) : (s.setGroups v).gms = s.gms := rfl
@[simp] theorem State.setGroups_pages (v : List (Nat × Group)) : (s.setGroups v).pages = s.pages := rfl
@[simp] theorem State.setGroups_ports (v : List (Nat × Group)) : (s.setGroups v).ports = s.ports := rfl
@[simp] theorem State.setGroups_caps (v : List (Nat × Group)) : (s.setGroups v).caps = s.caps := rfl
@[simp] theorem State.setGroups_router (v : List (Nat × Group)) : (s.setGroups v).router = s.router := rfl
@[simp] theorem State.setGroups_icx (v : List (Nat × Group)) : (s.setGroups v).icx = s.icx := rfl
@[simp] theorem State.setGroups_cores (v : List (Nat × Group)) : (s.setGroups v).cores = s.cores := rfl
@[simp] theorem State.setGroups_pairs (v : List (Nat × Group)) : (s.setGroups v).pairs = s.pairs := rfl
@[simp] theorem State.setGroups_shroud (v : List (Nat × Group)) : (s.setGroups v).shroud = s.shroud := rfl
@[simp] theorem State.setGroups_engines (v : List (Nat × Group)) : (s.setGroups v).engines = s.engines := rfl
@[simp] theorem State.setGroups_ctxs (v : List (Nat × Group)) : (s.setGroups v).ctxs = s.ctxs := rfl
@[simp] theorem State.setGroups_samples (v : List (Nat × Group)) : (s.setGroups v).samples = s.samples := rfl
@[simp] theorem State.setGroups_adcs (v : List (Nat × Group)) : (s.setGroups v).adcs = s.adcs := rfl
@[simp] theorem State.setGroups_sdms (v : List (Nat × Group)) : (s.setGroups v).sdms = s.sdms := rfl
@[simp] theorem State.setGroups_cmps (v : List (Nat × Group)) : (s.setGroups v).cmps = s.cmps := rfl
@[simp] theorem State.setGroups_sensors (v : List (Nat × Group)) : (s.setGroups v).sensors = s.sensors := rfl
@[simp] theorem State.setGroups_pwms (v : List (Nat × Group)) : (s.setGroups v).pwms = s.pwms := rfl
@[simp] theorem State.setGroups_chans (v : List (Nat × Group)) : (s.setGroups v).chans = s.chans := rfl
@[simp] theorem State.setGroups_groups (v : List (Nat × Group)) : (s.setGroups v).groups = v := rfl
@[simp] theorem State.setGroups_hvs (v : List (Nat × Group)) : (s.setGroups v).hvs = s.hvs := rfl
@[simp] theorem State.setGroups_lvdrv (v : List (Nat × Group)) : (s.setGroups v).lvdrv = s.lvdrv := rfl
@[simp] theorem State.setGroups_twls (v : List (Nat × Group)) : (s.setGroups v).twls = s.twls := rfl
@[simp] theorem State.setGroups_encs (v : List (Nat × Group)) : (s.setGroups v).encs = s.encs := rfl
@[simp] theorem State.setGroups_halls (v : List (Nat × Group)) : (s.setGroups v).halls = s.halls := rfl
@[simp] theorem State.setGroups_dcdc (v : List (Nat × Group)) : (s.setGroups v).dcdc = s.dcdc := rfl
@[simp] theorem State.setGroups_obc (v : List (Nat × Group)) : (s.setGroups v).obc = s.obc := rfl
@[simp] theorem State.setGroups_lamps (v : List (Nat × Group)) : (s.setGroups v).lamps = s.lamps := rfl
@[simp] theorem State.setGroups_acts (v : List (Nat × Group)) : (s.setGroups v).acts = s.acts := rfl
@[simp] theorem State.setGroups_ctr (v : List (Nat × Group)) : (s.setGroups v).ctr = s.ctr := rfl
@[simp] theorem State.setGroups_rings (v : List (Nat × Group)) : (s.setGroups v).rings = s.rings := rfl
@[simp] theorem State.setGroups_zcors (v : List (Nat × Group)) : (s.setGroups v).zcors = s.zcors := rfl
@[simp] theorem State.setGroups_twin (v : List (Nat × Group)) : (s.setGroups v).twin = s.twin := rfl
@[simp] theorem State.setGroups_net (v : List (Nat × Group)) : (s.setGroups v).net = s.net := rfl
@[simp] theorem State.setHvs_pending (v : List (Nat × Nat)) : (s.setHvs v).pending = s.pending := rfl
@[simp] theorem State.setHvs_regs (v : List (Nat × Nat)) : (s.setHvs v).regs = s.regs := rfl
@[simp] theorem State.setHvs_mem (v : List (Nat × Nat)) : (s.setHvs v).mem = s.mem := rfl
@[simp] theorem State.setHvs_free (v : List (Nat × Nat)) : (s.setHvs v).free = s.free := rfl
@[simp] theorem State.setHvs_pwr (v : List (Nat × Nat)) : (s.setHvs v).pwr = s.pwr := rfl
@[simp] theorem State.setHvs_pins (v : List (Nat × Nat)) : (s.setHvs v).pins = s.pins := rfl
@[simp] theorem State.setHvs_kept (v : List (Nat × Nat)) : (s.setHvs v).kept = s.kept := rfl
@[simp] theorem State.setHvs_gms (v : List (Nat × Nat)) : (s.setHvs v).gms = s.gms := rfl
@[simp] theorem State.setHvs_pages (v : List (Nat × Nat)) : (s.setHvs v).pages = s.pages := rfl
@[simp] theorem State.setHvs_ports (v : List (Nat × Nat)) : (s.setHvs v).ports = s.ports := rfl
@[simp] theorem State.setHvs_caps (v : List (Nat × Nat)) : (s.setHvs v).caps = s.caps := rfl
@[simp] theorem State.setHvs_router (v : List (Nat × Nat)) : (s.setHvs v).router = s.router := rfl
@[simp] theorem State.setHvs_icx (v : List (Nat × Nat)) : (s.setHvs v).icx = s.icx := rfl
@[simp] theorem State.setHvs_cores (v : List (Nat × Nat)) : (s.setHvs v).cores = s.cores := rfl
@[simp] theorem State.setHvs_pairs (v : List (Nat × Nat)) : (s.setHvs v).pairs = s.pairs := rfl
@[simp] theorem State.setHvs_shroud (v : List (Nat × Nat)) : (s.setHvs v).shroud = s.shroud := rfl
@[simp] theorem State.setHvs_engines (v : List (Nat × Nat)) : (s.setHvs v).engines = s.engines := rfl
@[simp] theorem State.setHvs_ctxs (v : List (Nat × Nat)) : (s.setHvs v).ctxs = s.ctxs := rfl
@[simp] theorem State.setHvs_samples (v : List (Nat × Nat)) : (s.setHvs v).samples = s.samples := rfl
@[simp] theorem State.setHvs_adcs (v : List (Nat × Nat)) : (s.setHvs v).adcs = s.adcs := rfl
@[simp] theorem State.setHvs_sdms (v : List (Nat × Nat)) : (s.setHvs v).sdms = s.sdms := rfl
@[simp] theorem State.setHvs_cmps (v : List (Nat × Nat)) : (s.setHvs v).cmps = s.cmps := rfl
@[simp] theorem State.setHvs_sensors (v : List (Nat × Nat)) : (s.setHvs v).sensors = s.sensors := rfl
@[simp] theorem State.setHvs_pwms (v : List (Nat × Nat)) : (s.setHvs v).pwms = s.pwms := rfl
@[simp] theorem State.setHvs_chans (v : List (Nat × Nat)) : (s.setHvs v).chans = s.chans := rfl
@[simp] theorem State.setHvs_groups (v : List (Nat × Nat)) : (s.setHvs v).groups = s.groups := rfl
@[simp] theorem State.setHvs_hvs (v : List (Nat × Nat)) : (s.setHvs v).hvs = v := rfl
@[simp] theorem State.setHvs_lvdrv (v : List (Nat × Nat)) : (s.setHvs v).lvdrv = s.lvdrv := rfl
@[simp] theorem State.setHvs_twls (v : List (Nat × Nat)) : (s.setHvs v).twls = s.twls := rfl
@[simp] theorem State.setHvs_encs (v : List (Nat × Nat)) : (s.setHvs v).encs = s.encs := rfl
@[simp] theorem State.setHvs_halls (v : List (Nat × Nat)) : (s.setHvs v).halls = s.halls := rfl
@[simp] theorem State.setHvs_dcdc (v : List (Nat × Nat)) : (s.setHvs v).dcdc = s.dcdc := rfl
@[simp] theorem State.setHvs_obc (v : List (Nat × Nat)) : (s.setHvs v).obc = s.obc := rfl
@[simp] theorem State.setHvs_lamps (v : List (Nat × Nat)) : (s.setHvs v).lamps = s.lamps := rfl
@[simp] theorem State.setHvs_acts (v : List (Nat × Nat)) : (s.setHvs v).acts = s.acts := rfl
@[simp] theorem State.setHvs_ctr (v : List (Nat × Nat)) : (s.setHvs v).ctr = s.ctr := rfl
@[simp] theorem State.setHvs_rings (v : List (Nat × Nat)) : (s.setHvs v).rings = s.rings := rfl
@[simp] theorem State.setHvs_zcors (v : List (Nat × Nat)) : (s.setHvs v).zcors = s.zcors := rfl
@[simp] theorem State.setHvs_twin (v : List (Nat × Nat)) : (s.setHvs v).twin = s.twin := rfl
@[simp] theorem State.setHvs_net (v : List (Nat × Nat)) : (s.setHvs v).net = s.net := rfl
@[simp] theorem State.setLvdrv_pending (v : Lv) : (s.setLvdrv v).pending = s.pending := rfl
@[simp] theorem State.setLvdrv_regs (v : Lv) : (s.setLvdrv v).regs = s.regs := rfl
@[simp] theorem State.setLvdrv_mem (v : Lv) : (s.setLvdrv v).mem = s.mem := rfl
@[simp] theorem State.setLvdrv_free (v : Lv) : (s.setLvdrv v).free = s.free := rfl
@[simp] theorem State.setLvdrv_pwr (v : Lv) : (s.setLvdrv v).pwr = s.pwr := rfl
@[simp] theorem State.setLvdrv_pins (v : Lv) : (s.setLvdrv v).pins = s.pins := rfl
@[simp] theorem State.setLvdrv_kept (v : Lv) : (s.setLvdrv v).kept = s.kept := rfl
@[simp] theorem State.setLvdrv_gms (v : Lv) : (s.setLvdrv v).gms = s.gms := rfl
@[simp] theorem State.setLvdrv_pages (v : Lv) : (s.setLvdrv v).pages = s.pages := rfl
@[simp] theorem State.setLvdrv_ports (v : Lv) : (s.setLvdrv v).ports = s.ports := rfl
@[simp] theorem State.setLvdrv_caps (v : Lv) : (s.setLvdrv v).caps = s.caps := rfl
@[simp] theorem State.setLvdrv_router (v : Lv) : (s.setLvdrv v).router = s.router := rfl
@[simp] theorem State.setLvdrv_icx (v : Lv) : (s.setLvdrv v).icx = s.icx := rfl
@[simp] theorem State.setLvdrv_cores (v : Lv) : (s.setLvdrv v).cores = s.cores := rfl
@[simp] theorem State.setLvdrv_pairs (v : Lv) : (s.setLvdrv v).pairs = s.pairs := rfl
@[simp] theorem State.setLvdrv_shroud (v : Lv) : (s.setLvdrv v).shroud = s.shroud := rfl
@[simp] theorem State.setLvdrv_engines (v : Lv) : (s.setLvdrv v).engines = s.engines := rfl
@[simp] theorem State.setLvdrv_ctxs (v : Lv) : (s.setLvdrv v).ctxs = s.ctxs := rfl
@[simp] theorem State.setLvdrv_samples (v : Lv) : (s.setLvdrv v).samples = s.samples := rfl
@[simp] theorem State.setLvdrv_adcs (v : Lv) : (s.setLvdrv v).adcs = s.adcs := rfl
@[simp] theorem State.setLvdrv_sdms (v : Lv) : (s.setLvdrv v).sdms = s.sdms := rfl
@[simp] theorem State.setLvdrv_cmps (v : Lv) : (s.setLvdrv v).cmps = s.cmps := rfl
@[simp] theorem State.setLvdrv_sensors (v : Lv) : (s.setLvdrv v).sensors = s.sensors := rfl
@[simp] theorem State.setLvdrv_pwms (v : Lv) : (s.setLvdrv v).pwms = s.pwms := rfl
@[simp] theorem State.setLvdrv_chans (v : Lv) : (s.setLvdrv v).chans = s.chans := rfl
@[simp] theorem State.setLvdrv_groups (v : Lv) : (s.setLvdrv v).groups = s.groups := rfl
@[simp] theorem State.setLvdrv_hvs (v : Lv) : (s.setLvdrv v).hvs = s.hvs := rfl
@[simp] theorem State.setLvdrv_lvdrv (v : Lv) : (s.setLvdrv v).lvdrv = v := rfl
@[simp] theorem State.setLvdrv_twls (v : Lv) : (s.setLvdrv v).twls = s.twls := rfl
@[simp] theorem State.setLvdrv_encs (v : Lv) : (s.setLvdrv v).encs = s.encs := rfl
@[simp] theorem State.setLvdrv_halls (v : Lv) : (s.setLvdrv v).halls = s.halls := rfl
@[simp] theorem State.setLvdrv_dcdc (v : Lv) : (s.setLvdrv v).dcdc = s.dcdc := rfl
@[simp] theorem State.setLvdrv_obc (v : Lv) : (s.setLvdrv v).obc = s.obc := rfl
@[simp] theorem State.setLvdrv_lamps (v : Lv) : (s.setLvdrv v).lamps = s.lamps := rfl
@[simp] theorem State.setLvdrv_acts (v : Lv) : (s.setLvdrv v).acts = s.acts := rfl
@[simp] theorem State.setLvdrv_ctr (v : Lv) : (s.setLvdrv v).ctr = s.ctr := rfl
@[simp] theorem State.setLvdrv_rings (v : Lv) : (s.setLvdrv v).rings = s.rings := rfl
@[simp] theorem State.setLvdrv_zcors (v : Lv) : (s.setLvdrv v).zcors = s.zcors := rfl
@[simp] theorem State.setLvdrv_twin (v : Lv) : (s.setLvdrv v).twin = s.twin := rfl
@[simp] theorem State.setLvdrv_net (v : Lv) : (s.setLvdrv v).net = s.net := rfl
@[simp] theorem State.setTwls_pending (v : List (Nat × Twl)) : (s.setTwls v).pending = s.pending := rfl
@[simp] theorem State.setTwls_regs (v : List (Nat × Twl)) : (s.setTwls v).regs = s.regs := rfl
@[simp] theorem State.setTwls_mem (v : List (Nat × Twl)) : (s.setTwls v).mem = s.mem := rfl
@[simp] theorem State.setTwls_free (v : List (Nat × Twl)) : (s.setTwls v).free = s.free := rfl
@[simp] theorem State.setTwls_pwr (v : List (Nat × Twl)) : (s.setTwls v).pwr = s.pwr := rfl
@[simp] theorem State.setTwls_pins (v : List (Nat × Twl)) : (s.setTwls v).pins = s.pins := rfl
@[simp] theorem State.setTwls_kept (v : List (Nat × Twl)) : (s.setTwls v).kept = s.kept := rfl
@[simp] theorem State.setTwls_gms (v : List (Nat × Twl)) : (s.setTwls v).gms = s.gms := rfl
@[simp] theorem State.setTwls_pages (v : List (Nat × Twl)) : (s.setTwls v).pages = s.pages := rfl
@[simp] theorem State.setTwls_ports (v : List (Nat × Twl)) : (s.setTwls v).ports = s.ports := rfl
@[simp] theorem State.setTwls_caps (v : List (Nat × Twl)) : (s.setTwls v).caps = s.caps := rfl
@[simp] theorem State.setTwls_router (v : List (Nat × Twl)) : (s.setTwls v).router = s.router := rfl
@[simp] theorem State.setTwls_icx (v : List (Nat × Twl)) : (s.setTwls v).icx = s.icx := rfl
@[simp] theorem State.setTwls_cores (v : List (Nat × Twl)) : (s.setTwls v).cores = s.cores := rfl
@[simp] theorem State.setTwls_pairs (v : List (Nat × Twl)) : (s.setTwls v).pairs = s.pairs := rfl
@[simp] theorem State.setTwls_shroud (v : List (Nat × Twl)) : (s.setTwls v).shroud = s.shroud := rfl
@[simp] theorem State.setTwls_engines (v : List (Nat × Twl)) : (s.setTwls v).engines = s.engines := rfl
@[simp] theorem State.setTwls_ctxs (v : List (Nat × Twl)) : (s.setTwls v).ctxs = s.ctxs := rfl
@[simp] theorem State.setTwls_samples (v : List (Nat × Twl)) : (s.setTwls v).samples = s.samples := rfl
@[simp] theorem State.setTwls_adcs (v : List (Nat × Twl)) : (s.setTwls v).adcs = s.adcs := rfl
@[simp] theorem State.setTwls_sdms (v : List (Nat × Twl)) : (s.setTwls v).sdms = s.sdms := rfl
@[simp] theorem State.setTwls_cmps (v : List (Nat × Twl)) : (s.setTwls v).cmps = s.cmps := rfl
@[simp] theorem State.setTwls_sensors (v : List (Nat × Twl)) : (s.setTwls v).sensors = s.sensors := rfl
@[simp] theorem State.setTwls_pwms (v : List (Nat × Twl)) : (s.setTwls v).pwms = s.pwms := rfl
@[simp] theorem State.setTwls_chans (v : List (Nat × Twl)) : (s.setTwls v).chans = s.chans := rfl
@[simp] theorem State.setTwls_groups (v : List (Nat × Twl)) : (s.setTwls v).groups = s.groups := rfl
@[simp] theorem State.setTwls_hvs (v : List (Nat × Twl)) : (s.setTwls v).hvs = s.hvs := rfl
@[simp] theorem State.setTwls_lvdrv (v : List (Nat × Twl)) : (s.setTwls v).lvdrv = s.lvdrv := rfl
@[simp] theorem State.setTwls_twls (v : List (Nat × Twl)) : (s.setTwls v).twls = v := rfl
@[simp] theorem State.setTwls_encs (v : List (Nat × Twl)) : (s.setTwls v).encs = s.encs := rfl
@[simp] theorem State.setTwls_halls (v : List (Nat × Twl)) : (s.setTwls v).halls = s.halls := rfl
@[simp] theorem State.setTwls_dcdc (v : List (Nat × Twl)) : (s.setTwls v).dcdc = s.dcdc := rfl
@[simp] theorem State.setTwls_obc (v : List (Nat × Twl)) : (s.setTwls v).obc = s.obc := rfl
@[simp] theorem State.setTwls_lamps (v : List (Nat × Twl)) : (s.setTwls v).lamps = s.lamps := rfl
@[simp] theorem State.setTwls_acts (v : List (Nat × Twl)) : (s.setTwls v).acts = s.acts := rfl
@[simp] theorem State.setTwls_ctr (v : List (Nat × Twl)) : (s.setTwls v).ctr = s.ctr := rfl
@[simp] theorem State.setTwls_rings (v : List (Nat × Twl)) : (s.setTwls v).rings = s.rings := rfl
@[simp] theorem State.setTwls_zcors (v : List (Nat × Twl)) : (s.setTwls v).zcors = s.zcors := rfl
@[simp] theorem State.setTwls_twin (v : List (Nat × Twl)) : (s.setTwls v).twin = s.twin := rfl
@[simp] theorem State.setTwls_net (v : List (Nat × Twl)) : (s.setTwls v).net = s.net := rfl
@[simp] theorem State.setEncs_pending (v : List (Nat × Enc)) : (s.setEncs v).pending = s.pending := rfl
@[simp] theorem State.setEncs_regs (v : List (Nat × Enc)) : (s.setEncs v).regs = s.regs := rfl
@[simp] theorem State.setEncs_mem (v : List (Nat × Enc)) : (s.setEncs v).mem = s.mem := rfl
@[simp] theorem State.setEncs_free (v : List (Nat × Enc)) : (s.setEncs v).free = s.free := rfl
@[simp] theorem State.setEncs_pwr (v : List (Nat × Enc)) : (s.setEncs v).pwr = s.pwr := rfl
@[simp] theorem State.setEncs_pins (v : List (Nat × Enc)) : (s.setEncs v).pins = s.pins := rfl
@[simp] theorem State.setEncs_kept (v : List (Nat × Enc)) : (s.setEncs v).kept = s.kept := rfl
@[simp] theorem State.setEncs_gms (v : List (Nat × Enc)) : (s.setEncs v).gms = s.gms := rfl
@[simp] theorem State.setEncs_pages (v : List (Nat × Enc)) : (s.setEncs v).pages = s.pages := rfl
@[simp] theorem State.setEncs_ports (v : List (Nat × Enc)) : (s.setEncs v).ports = s.ports := rfl
@[simp] theorem State.setEncs_caps (v : List (Nat × Enc)) : (s.setEncs v).caps = s.caps := rfl
@[simp] theorem State.setEncs_router (v : List (Nat × Enc)) : (s.setEncs v).router = s.router := rfl
@[simp] theorem State.setEncs_icx (v : List (Nat × Enc)) : (s.setEncs v).icx = s.icx := rfl
@[simp] theorem State.setEncs_cores (v : List (Nat × Enc)) : (s.setEncs v).cores = s.cores := rfl
@[simp] theorem State.setEncs_pairs (v : List (Nat × Enc)) : (s.setEncs v).pairs = s.pairs := rfl
@[simp] theorem State.setEncs_shroud (v : List (Nat × Enc)) : (s.setEncs v).shroud = s.shroud := rfl
@[simp] theorem State.setEncs_engines (v : List (Nat × Enc)) : (s.setEncs v).engines = s.engines := rfl
@[simp] theorem State.setEncs_ctxs (v : List (Nat × Enc)) : (s.setEncs v).ctxs = s.ctxs := rfl
@[simp] theorem State.setEncs_samples (v : List (Nat × Enc)) : (s.setEncs v).samples = s.samples := rfl
@[simp] theorem State.setEncs_adcs (v : List (Nat × Enc)) : (s.setEncs v).adcs = s.adcs := rfl
@[simp] theorem State.setEncs_sdms (v : List (Nat × Enc)) : (s.setEncs v).sdms = s.sdms := rfl
@[simp] theorem State.setEncs_cmps (v : List (Nat × Enc)) : (s.setEncs v).cmps = s.cmps := rfl
@[simp] theorem State.setEncs_sensors (v : List (Nat × Enc)) : (s.setEncs v).sensors = s.sensors := rfl
@[simp] theorem State.setEncs_pwms (v : List (Nat × Enc)) : (s.setEncs v).pwms = s.pwms := rfl
@[simp] theorem State.setEncs_chans (v : List (Nat × Enc)) : (s.setEncs v).chans = s.chans := rfl
@[simp] theorem State.setEncs_groups (v : List (Nat × Enc)) : (s.setEncs v).groups = s.groups := rfl
@[simp] theorem State.setEncs_hvs (v : List (Nat × Enc)) : (s.setEncs v).hvs = s.hvs := rfl
@[simp] theorem State.setEncs_lvdrv (v : List (Nat × Enc)) : (s.setEncs v).lvdrv = s.lvdrv := rfl
@[simp] theorem State.setEncs_twls (v : List (Nat × Enc)) : (s.setEncs v).twls = s.twls := rfl
@[simp] theorem State.setEncs_encs (v : List (Nat × Enc)) : (s.setEncs v).encs = v := rfl
@[simp] theorem State.setEncs_halls (v : List (Nat × Enc)) : (s.setEncs v).halls = s.halls := rfl
@[simp] theorem State.setEncs_dcdc (v : List (Nat × Enc)) : (s.setEncs v).dcdc = s.dcdc := rfl
@[simp] theorem State.setEncs_obc (v : List (Nat × Enc)) : (s.setEncs v).obc = s.obc := rfl
@[simp] theorem State.setEncs_lamps (v : List (Nat × Enc)) : (s.setEncs v).lamps = s.lamps := rfl
@[simp] theorem State.setEncs_acts (v : List (Nat × Enc)) : (s.setEncs v).acts = s.acts := rfl
@[simp] theorem State.setEncs_ctr (v : List (Nat × Enc)) : (s.setEncs v).ctr = s.ctr := rfl
@[simp] theorem State.setEncs_rings (v : List (Nat × Enc)) : (s.setEncs v).rings = s.rings := rfl
@[simp] theorem State.setEncs_zcors (v : List (Nat × Enc)) : (s.setEncs v).zcors = s.zcors := rfl
@[simp] theorem State.setEncs_twin (v : List (Nat × Enc)) : (s.setEncs v).twin = s.twin := rfl
@[simp] theorem State.setEncs_net (v : List (Nat × Enc)) : (s.setEncs v).net = s.net := rfl
@[simp] theorem State.setHalls_pending (v : List (Nat × Hall)) : (s.setHalls v).pending = s.pending := rfl
@[simp] theorem State.setHalls_regs (v : List (Nat × Hall)) : (s.setHalls v).regs = s.regs := rfl
@[simp] theorem State.setHalls_mem (v : List (Nat × Hall)) : (s.setHalls v).mem = s.mem := rfl
@[simp] theorem State.setHalls_free (v : List (Nat × Hall)) : (s.setHalls v).free = s.free := rfl
@[simp] theorem State.setHalls_pwr (v : List (Nat × Hall)) : (s.setHalls v).pwr = s.pwr := rfl
@[simp] theorem State.setHalls_pins (v : List (Nat × Hall)) : (s.setHalls v).pins = s.pins := rfl
@[simp] theorem State.setHalls_kept (v : List (Nat × Hall)) : (s.setHalls v).kept = s.kept := rfl
@[simp] theorem State.setHalls_gms (v : List (Nat × Hall)) : (s.setHalls v).gms = s.gms := rfl
@[simp] theorem State.setHalls_pages (v : List (Nat × Hall)) : (s.setHalls v).pages = s.pages := rfl
@[simp] theorem State.setHalls_ports (v : List (Nat × Hall)) : (s.setHalls v).ports = s.ports := rfl
@[simp] theorem State.setHalls_caps (v : List (Nat × Hall)) : (s.setHalls v).caps = s.caps := rfl
@[simp] theorem State.setHalls_router (v : List (Nat × Hall)) : (s.setHalls v).router = s.router := rfl
@[simp] theorem State.setHalls_icx (v : List (Nat × Hall)) : (s.setHalls v).icx = s.icx := rfl
@[simp] theorem State.setHalls_cores (v : List (Nat × Hall)) : (s.setHalls v).cores = s.cores := rfl
@[simp] theorem State.setHalls_pairs (v : List (Nat × Hall)) : (s.setHalls v).pairs = s.pairs := rfl
@[simp] theorem State.setHalls_shroud (v : List (Nat × Hall)) : (s.setHalls v).shroud = s.shroud := rfl
@[simp] theorem State.setHalls_engines (v : List (Nat × Hall)) : (s.setHalls v).engines = s.engines := rfl
@[simp] theorem State.setHalls_ctxs (v : List (Nat × Hall)) : (s.setHalls v).ctxs = s.ctxs := rfl
@[simp] theorem State.setHalls_samples (v : List (Nat × Hall)) : (s.setHalls v).samples = s.samples := rfl
@[simp] theorem State.setHalls_adcs (v : List (Nat × Hall)) : (s.setHalls v).adcs = s.adcs := rfl
@[simp] theorem State.setHalls_sdms (v : List (Nat × Hall)) : (s.setHalls v).sdms = s.sdms := rfl
@[simp] theorem State.setHalls_cmps (v : List (Nat × Hall)) : (s.setHalls v).cmps = s.cmps := rfl
@[simp] theorem State.setHalls_sensors (v : List (Nat × Hall)) : (s.setHalls v).sensors = s.sensors := rfl
@[simp] theorem State.setHalls_pwms (v : List (Nat × Hall)) : (s.setHalls v).pwms = s.pwms := rfl
@[simp] theorem State.setHalls_chans (v : List (Nat × Hall)) : (s.setHalls v).chans = s.chans := rfl
@[simp] theorem State.setHalls_groups (v : List (Nat × Hall)) : (s.setHalls v).groups = s.groups := rfl
@[simp] theorem State.setHalls_hvs (v : List (Nat × Hall)) : (s.setHalls v).hvs = s.hvs := rfl
@[simp] theorem State.setHalls_lvdrv (v : List (Nat × Hall)) : (s.setHalls v).lvdrv = s.lvdrv := rfl
@[simp] theorem State.setHalls_twls (v : List (Nat × Hall)) : (s.setHalls v).twls = s.twls := rfl
@[simp] theorem State.setHalls_encs (v : List (Nat × Hall)) : (s.setHalls v).encs = s.encs := rfl
@[simp] theorem State.setHalls_halls (v : List (Nat × Hall)) : (s.setHalls v).halls = v := rfl
@[simp] theorem State.setHalls_dcdc (v : List (Nat × Hall)) : (s.setHalls v).dcdc = s.dcdc := rfl
@[simp] theorem State.setHalls_obc (v : List (Nat × Hall)) : (s.setHalls v).obc = s.obc := rfl
@[simp] theorem State.setHalls_lamps (v : List (Nat × Hall)) : (s.setHalls v).lamps = s.lamps := rfl
@[simp] theorem State.setHalls_acts (v : List (Nat × Hall)) : (s.setHalls v).acts = s.acts := rfl
@[simp] theorem State.setHalls_ctr (v : List (Nat × Hall)) : (s.setHalls v).ctr = s.ctr := rfl
@[simp] theorem State.setHalls_rings (v : List (Nat × Hall)) : (s.setHalls v).rings = s.rings := rfl
@[simp] theorem State.setHalls_zcors (v : List (Nat × Hall)) : (s.setHalls v).zcors = s.zcors := rfl
@[simp] theorem State.setHalls_twin (v : List (Nat × Hall)) : (s.setHalls v).twin = s.twin := rfl
@[simp] theorem State.setHalls_net (v : List (Nat × Hall)) : (s.setHalls v).net = s.net := rfl
@[simp] theorem State.setDcdc_pending (v : Dcdc) : (s.setDcdc v).pending = s.pending := rfl
@[simp] theorem State.setDcdc_regs (v : Dcdc) : (s.setDcdc v).regs = s.regs := rfl
@[simp] theorem State.setDcdc_mem (v : Dcdc) : (s.setDcdc v).mem = s.mem := rfl
@[simp] theorem State.setDcdc_free (v : Dcdc) : (s.setDcdc v).free = s.free := rfl
@[simp] theorem State.setDcdc_pwr (v : Dcdc) : (s.setDcdc v).pwr = s.pwr := rfl
@[simp] theorem State.setDcdc_pins (v : Dcdc) : (s.setDcdc v).pins = s.pins := rfl
@[simp] theorem State.setDcdc_kept (v : Dcdc) : (s.setDcdc v).kept = s.kept := rfl
@[simp] theorem State.setDcdc_gms (v : Dcdc) : (s.setDcdc v).gms = s.gms := rfl
@[simp] theorem State.setDcdc_pages (v : Dcdc) : (s.setDcdc v).pages = s.pages := rfl
@[simp] theorem State.setDcdc_ports (v : Dcdc) : (s.setDcdc v).ports = s.ports := rfl
@[simp] theorem State.setDcdc_caps (v : Dcdc) : (s.setDcdc v).caps = s.caps := rfl
@[simp] theorem State.setDcdc_router (v : Dcdc) : (s.setDcdc v).router = s.router := rfl
@[simp] theorem State.setDcdc_icx (v : Dcdc) : (s.setDcdc v).icx = s.icx := rfl
@[simp] theorem State.setDcdc_cores (v : Dcdc) : (s.setDcdc v).cores = s.cores := rfl
@[simp] theorem State.setDcdc_pairs (v : Dcdc) : (s.setDcdc v).pairs = s.pairs := rfl
@[simp] theorem State.setDcdc_shroud (v : Dcdc) : (s.setDcdc v).shroud = s.shroud := rfl
@[simp] theorem State.setDcdc_engines (v : Dcdc) : (s.setDcdc v).engines = s.engines := rfl
@[simp] theorem State.setDcdc_ctxs (v : Dcdc) : (s.setDcdc v).ctxs = s.ctxs := rfl
@[simp] theorem State.setDcdc_samples (v : Dcdc) : (s.setDcdc v).samples = s.samples := rfl
@[simp] theorem State.setDcdc_adcs (v : Dcdc) : (s.setDcdc v).adcs = s.adcs := rfl
@[simp] theorem State.setDcdc_sdms (v : Dcdc) : (s.setDcdc v).sdms = s.sdms := rfl
@[simp] theorem State.setDcdc_cmps (v : Dcdc) : (s.setDcdc v).cmps = s.cmps := rfl
@[simp] theorem State.setDcdc_sensors (v : Dcdc) : (s.setDcdc v).sensors = s.sensors := rfl
@[simp] theorem State.setDcdc_pwms (v : Dcdc) : (s.setDcdc v).pwms = s.pwms := rfl
@[simp] theorem State.setDcdc_chans (v : Dcdc) : (s.setDcdc v).chans = s.chans := rfl
@[simp] theorem State.setDcdc_groups (v : Dcdc) : (s.setDcdc v).groups = s.groups := rfl
@[simp] theorem State.setDcdc_hvs (v : Dcdc) : (s.setDcdc v).hvs = s.hvs := rfl
@[simp] theorem State.setDcdc_lvdrv (v : Dcdc) : (s.setDcdc v).lvdrv = s.lvdrv := rfl
@[simp] theorem State.setDcdc_twls (v : Dcdc) : (s.setDcdc v).twls = s.twls := rfl
@[simp] theorem State.setDcdc_encs (v : Dcdc) : (s.setDcdc v).encs = s.encs := rfl
@[simp] theorem State.setDcdc_halls (v : Dcdc) : (s.setDcdc v).halls = s.halls := rfl
@[simp] theorem State.setDcdc_dcdc (v : Dcdc) : (s.setDcdc v).dcdc = v := rfl
@[simp] theorem State.setDcdc_obc (v : Dcdc) : (s.setDcdc v).obc = s.obc := rfl
@[simp] theorem State.setDcdc_lamps (v : Dcdc) : (s.setDcdc v).lamps = s.lamps := rfl
@[simp] theorem State.setDcdc_acts (v : Dcdc) : (s.setDcdc v).acts = s.acts := rfl
@[simp] theorem State.setDcdc_ctr (v : Dcdc) : (s.setDcdc v).ctr = s.ctr := rfl
@[simp] theorem State.setDcdc_rings (v : Dcdc) : (s.setDcdc v).rings = s.rings := rfl
@[simp] theorem State.setDcdc_zcors (v : Dcdc) : (s.setDcdc v).zcors = s.zcors := rfl
@[simp] theorem State.setDcdc_twin (v : Dcdc) : (s.setDcdc v).twin = s.twin := rfl
@[simp] theorem State.setDcdc_net (v : Dcdc) : (s.setDcdc v).net = s.net := rfl
@[simp] theorem State.setObc_pending (v : Obc) : (s.setObc v).pending = s.pending := rfl
@[simp] theorem State.setObc_regs (v : Obc) : (s.setObc v).regs = s.regs := rfl
@[simp] theorem State.setObc_mem (v : Obc) : (s.setObc v).mem = s.mem := rfl
@[simp] theorem State.setObc_free (v : Obc) : (s.setObc v).free = s.free := rfl
@[simp] theorem State.setObc_pwr (v : Obc) : (s.setObc v).pwr = s.pwr := rfl
@[simp] theorem State.setObc_pins (v : Obc) : (s.setObc v).pins = s.pins := rfl
@[simp] theorem State.setObc_kept (v : Obc) : (s.setObc v).kept = s.kept := rfl
@[simp] theorem State.setObc_gms (v : Obc) : (s.setObc v).gms = s.gms := rfl
@[simp] theorem State.setObc_pages (v : Obc) : (s.setObc v).pages = s.pages := rfl
@[simp] theorem State.setObc_ports (v : Obc) : (s.setObc v).ports = s.ports := rfl
@[simp] theorem State.setObc_caps (v : Obc) : (s.setObc v).caps = s.caps := rfl
@[simp] theorem State.setObc_router (v : Obc) : (s.setObc v).router = s.router := rfl
@[simp] theorem State.setObc_icx (v : Obc) : (s.setObc v).icx = s.icx := rfl
@[simp] theorem State.setObc_cores (v : Obc) : (s.setObc v).cores = s.cores := rfl
@[simp] theorem State.setObc_pairs (v : Obc) : (s.setObc v).pairs = s.pairs := rfl
@[simp] theorem State.setObc_shroud (v : Obc) : (s.setObc v).shroud = s.shroud := rfl
@[simp] theorem State.setObc_engines (v : Obc) : (s.setObc v).engines = s.engines := rfl
@[simp] theorem State.setObc_ctxs (v : Obc) : (s.setObc v).ctxs = s.ctxs := rfl
@[simp] theorem State.setObc_samples (v : Obc) : (s.setObc v).samples = s.samples := rfl
@[simp] theorem State.setObc_adcs (v : Obc) : (s.setObc v).adcs = s.adcs := rfl
@[simp] theorem State.setObc_sdms (v : Obc) : (s.setObc v).sdms = s.sdms := rfl
@[simp] theorem State.setObc_cmps (v : Obc) : (s.setObc v).cmps = s.cmps := rfl
@[simp] theorem State.setObc_sensors (v : Obc) : (s.setObc v).sensors = s.sensors := rfl
@[simp] theorem State.setObc_pwms (v : Obc) : (s.setObc v).pwms = s.pwms := rfl
@[simp] theorem State.setObc_chans (v : Obc) : (s.setObc v).chans = s.chans := rfl
@[simp] theorem State.setObc_groups (v : Obc) : (s.setObc v).groups = s.groups := rfl
@[simp] theorem State.setObc_hvs (v : Obc) : (s.setObc v).hvs = s.hvs := rfl
@[simp] theorem State.setObc_lvdrv (v : Obc) : (s.setObc v).lvdrv = s.lvdrv := rfl
@[simp] theorem State.setObc_twls (v : Obc) : (s.setObc v).twls = s.twls := rfl
@[simp] theorem State.setObc_encs (v : Obc) : (s.setObc v).encs = s.encs := rfl
@[simp] theorem State.setObc_halls (v : Obc) : (s.setObc v).halls = s.halls := rfl
@[simp] theorem State.setObc_dcdc (v : Obc) : (s.setObc v).dcdc = s.dcdc := rfl
@[simp] theorem State.setObc_obc (v : Obc) : (s.setObc v).obc = v := rfl
@[simp] theorem State.setObc_lamps (v : Obc) : (s.setObc v).lamps = s.lamps := rfl
@[simp] theorem State.setObc_acts (v : Obc) : (s.setObc v).acts = s.acts := rfl
@[simp] theorem State.setObc_ctr (v : Obc) : (s.setObc v).ctr = s.ctr := rfl
@[simp] theorem State.setObc_rings (v : Obc) : (s.setObc v).rings = s.rings := rfl
@[simp] theorem State.setObc_zcors (v : Obc) : (s.setObc v).zcors = s.zcors := rfl
@[simp] theorem State.setObc_twin (v : Obc) : (s.setObc v).twin = s.twin := rfl
@[simp] theorem State.setObc_net (v : Obc) : (s.setObc v).net = s.net := rfl
@[simp] theorem State.setLamps_pending (v : List (Nat × Lamp)) : (s.setLamps v).pending = s.pending := rfl
@[simp] theorem State.setLamps_regs (v : List (Nat × Lamp)) : (s.setLamps v).regs = s.regs := rfl
@[simp] theorem State.setLamps_mem (v : List (Nat × Lamp)) : (s.setLamps v).mem = s.mem := rfl
@[simp] theorem State.setLamps_free (v : List (Nat × Lamp)) : (s.setLamps v).free = s.free := rfl
@[simp] theorem State.setLamps_pwr (v : List (Nat × Lamp)) : (s.setLamps v).pwr = s.pwr := rfl
@[simp] theorem State.setLamps_pins (v : List (Nat × Lamp)) : (s.setLamps v).pins = s.pins := rfl
@[simp] theorem State.setLamps_kept (v : List (Nat × Lamp)) : (s.setLamps v).kept = s.kept := rfl
@[simp] theorem State.setLamps_gms (v : List (Nat × Lamp)) : (s.setLamps v).gms = s.gms := rfl
@[simp] theorem State.setLamps_pages (v : List (Nat × Lamp)) : (s.setLamps v).pages = s.pages := rfl
@[simp] theorem State.setLamps_ports (v : List (Nat × Lamp)) : (s.setLamps v).ports = s.ports := rfl
@[simp] theorem State.setLamps_caps (v : List (Nat × Lamp)) : (s.setLamps v).caps = s.caps := rfl
@[simp] theorem State.setLamps_router (v : List (Nat × Lamp)) : (s.setLamps v).router = s.router := rfl
@[simp] theorem State.setLamps_icx (v : List (Nat × Lamp)) : (s.setLamps v).icx = s.icx := rfl
@[simp] theorem State.setLamps_cores (v : List (Nat × Lamp)) : (s.setLamps v).cores = s.cores := rfl
@[simp] theorem State.setLamps_pairs (v : List (Nat × Lamp)) : (s.setLamps v).pairs = s.pairs := rfl
@[simp] theorem State.setLamps_shroud (v : List (Nat × Lamp)) : (s.setLamps v).shroud = s.shroud := rfl
@[simp] theorem State.setLamps_engines (v : List (Nat × Lamp)) : (s.setLamps v).engines = s.engines := rfl
@[simp] theorem State.setLamps_ctxs (v : List (Nat × Lamp)) : (s.setLamps v).ctxs = s.ctxs := rfl
@[simp] theorem State.setLamps_samples (v : List (Nat × Lamp)) : (s.setLamps v).samples = s.samples := rfl
@[simp] theorem State.setLamps_adcs (v : List (Nat × Lamp)) : (s.setLamps v).adcs = s.adcs := rfl
@[simp] theorem State.setLamps_sdms (v : List (Nat × Lamp)) : (s.setLamps v).sdms = s.sdms := rfl
@[simp] theorem State.setLamps_cmps (v : List (Nat × Lamp)) : (s.setLamps v).cmps = s.cmps := rfl
@[simp] theorem State.setLamps_sensors (v : List (Nat × Lamp)) : (s.setLamps v).sensors = s.sensors := rfl
@[simp] theorem State.setLamps_pwms (v : List (Nat × Lamp)) : (s.setLamps v).pwms = s.pwms := rfl
@[simp] theorem State.setLamps_chans (v : List (Nat × Lamp)) : (s.setLamps v).chans = s.chans := rfl
@[simp] theorem State.setLamps_groups (v : List (Nat × Lamp)) : (s.setLamps v).groups = s.groups := rfl
@[simp] theorem State.setLamps_hvs (v : List (Nat × Lamp)) : (s.setLamps v).hvs = s.hvs := rfl
@[simp] theorem State.setLamps_lvdrv (v : List (Nat × Lamp)) : (s.setLamps v).lvdrv = s.lvdrv := rfl
@[simp] theorem State.setLamps_twls (v : List (Nat × Lamp)) : (s.setLamps v).twls = s.twls := rfl
@[simp] theorem State.setLamps_encs (v : List (Nat × Lamp)) : (s.setLamps v).encs = s.encs := rfl
@[simp] theorem State.setLamps_halls (v : List (Nat × Lamp)) : (s.setLamps v).halls = s.halls := rfl
@[simp] theorem State.setLamps_dcdc (v : List (Nat × Lamp)) : (s.setLamps v).dcdc = s.dcdc := rfl
@[simp] theorem State.setLamps_obc (v : List (Nat × Lamp)) : (s.setLamps v).obc = s.obc := rfl
@[simp] theorem State.setLamps_lamps (v : List (Nat × Lamp)) : (s.setLamps v).lamps = v := rfl
@[simp] theorem State.setLamps_acts (v : List (Nat × Lamp)) : (s.setLamps v).acts = s.acts := rfl
@[simp] theorem State.setLamps_ctr (v : List (Nat × Lamp)) : (s.setLamps v).ctr = s.ctr := rfl
@[simp] theorem State.setLamps_rings (v : List (Nat × Lamp)) : (s.setLamps v).rings = s.rings := rfl
@[simp] theorem State.setLamps_zcors (v : List (Nat × Lamp)) : (s.setLamps v).zcors = s.zcors := rfl
@[simp] theorem State.setLamps_twin (v : List (Nat × Lamp)) : (s.setLamps v).twin = s.twin := rfl
@[simp] theorem State.setLamps_net (v : List (Nat × Lamp)) : (s.setLamps v).net = s.net := rfl
@[simp] theorem State.setActs_pending (v : List (Nat × Act)) : (s.setActs v).pending = s.pending := rfl
@[simp] theorem State.setActs_regs (v : List (Nat × Act)) : (s.setActs v).regs = s.regs := rfl
@[simp] theorem State.setActs_mem (v : List (Nat × Act)) : (s.setActs v).mem = s.mem := rfl
@[simp] theorem State.setActs_free (v : List (Nat × Act)) : (s.setActs v).free = s.free := rfl
@[simp] theorem State.setActs_pwr (v : List (Nat × Act)) : (s.setActs v).pwr = s.pwr := rfl
@[simp] theorem State.setActs_pins (v : List (Nat × Act)) : (s.setActs v).pins = s.pins := rfl
@[simp] theorem State.setActs_kept (v : List (Nat × Act)) : (s.setActs v).kept = s.kept := rfl
@[simp] theorem State.setActs_gms (v : List (Nat × Act)) : (s.setActs v).gms = s.gms := rfl
@[simp] theorem State.setActs_pages (v : List (Nat × Act)) : (s.setActs v).pages = s.pages := rfl
@[simp] theorem State.setActs_ports (v : List (Nat × Act)) : (s.setActs v).ports = s.ports := rfl
@[simp] theorem State.setActs_caps (v : List (Nat × Act)) : (s.setActs v).caps = s.caps := rfl
@[simp] theorem State.setActs_router (v : List (Nat × Act)) : (s.setActs v).router = s.router := rfl
@[simp] theorem State.setActs_icx (v : List (Nat × Act)) : (s.setActs v).icx = s.icx := rfl
@[simp] theorem State.setActs_cores (v : List (Nat × Act)) : (s.setActs v).cores = s.cores := rfl
@[simp] theorem State.setActs_pairs (v : List (Nat × Act)) : (s.setActs v).pairs = s.pairs := rfl
@[simp] theorem State.setActs_shroud (v : List (Nat × Act)) : (s.setActs v).shroud = s.shroud := rfl
@[simp] theorem State.setActs_engines (v : List (Nat × Act)) : (s.setActs v).engines = s.engines := rfl
@[simp] theorem State.setActs_ctxs (v : List (Nat × Act)) : (s.setActs v).ctxs = s.ctxs := rfl
@[simp] theorem State.setActs_samples (v : List (Nat × Act)) : (s.setActs v).samples = s.samples := rfl
@[simp] theorem State.setActs_adcs (v : List (Nat × Act)) : (s.setActs v).adcs = s.adcs := rfl
@[simp] theorem State.setActs_sdms (v : List (Nat × Act)) : (s.setActs v).sdms = s.sdms := rfl
@[simp] theorem State.setActs_cmps (v : List (Nat × Act)) : (s.setActs v).cmps = s.cmps := rfl
@[simp] theorem State.setActs_sensors (v : List (Nat × Act)) : (s.setActs v).sensors = s.sensors := rfl
@[simp] theorem State.setActs_pwms (v : List (Nat × Act)) : (s.setActs v).pwms = s.pwms := rfl
@[simp] theorem State.setActs_chans (v : List (Nat × Act)) : (s.setActs v).chans = s.chans := rfl
@[simp] theorem State.setActs_groups (v : List (Nat × Act)) : (s.setActs v).groups = s.groups := rfl
@[simp] theorem State.setActs_hvs (v : List (Nat × Act)) : (s.setActs v).hvs = s.hvs := rfl
@[simp] theorem State.setActs_lvdrv (v : List (Nat × Act)) : (s.setActs v).lvdrv = s.lvdrv := rfl
@[simp] theorem State.setActs_twls (v : List (Nat × Act)) : (s.setActs v).twls = s.twls := rfl
@[simp] theorem State.setActs_encs (v : List (Nat × Act)) : (s.setActs v).encs = s.encs := rfl
@[simp] theorem State.setActs_halls (v : List (Nat × Act)) : (s.setActs v).halls = s.halls := rfl
@[simp] theorem State.setActs_dcdc (v : List (Nat × Act)) : (s.setActs v).dcdc = s.dcdc := rfl
@[simp] theorem State.setActs_obc (v : List (Nat × Act)) : (s.setActs v).obc = s.obc := rfl
@[simp] theorem State.setActs_lamps (v : List (Nat × Act)) : (s.setActs v).lamps = s.lamps := rfl
@[simp] theorem State.setActs_acts (v : List (Nat × Act)) : (s.setActs v).acts = v := rfl
@[simp] theorem State.setActs_ctr (v : List (Nat × Act)) : (s.setActs v).ctr = s.ctr := rfl
@[simp] theorem State.setActs_rings (v : List (Nat × Act)) : (s.setActs v).rings = s.rings := rfl
@[simp] theorem State.setActs_zcors (v : List (Nat × Act)) : (s.setActs v).zcors = s.zcors := rfl
@[simp] theorem State.setActs_twin (v : List (Nat × Act)) : (s.setActs v).twin = s.twin := rfl
@[simp] theorem State.setActs_net (v : List (Nat × Act)) : (s.setActs v).net = s.net := rfl
@[simp] theorem State.setCtr_pending (v : Ctr) : (s.setCtr v).pending = s.pending := rfl
@[simp] theorem State.setCtr_regs (v : Ctr) : (s.setCtr v).regs = s.regs := rfl
@[simp] theorem State.setCtr_mem (v : Ctr) : (s.setCtr v).mem = s.mem := rfl
@[simp] theorem State.setCtr_free (v : Ctr) : (s.setCtr v).free = s.free := rfl
@[simp] theorem State.setCtr_pwr (v : Ctr) : (s.setCtr v).pwr = s.pwr := rfl
@[simp] theorem State.setCtr_pins (v : Ctr) : (s.setCtr v).pins = s.pins := rfl
@[simp] theorem State.setCtr_kept (v : Ctr) : (s.setCtr v).kept = s.kept := rfl
@[simp] theorem State.setCtr_gms (v : Ctr) : (s.setCtr v).gms = s.gms := rfl
@[simp] theorem State.setCtr_pages (v : Ctr) : (s.setCtr v).pages = s.pages := rfl
@[simp] theorem State.setCtr_ports (v : Ctr) : (s.setCtr v).ports = s.ports := rfl
@[simp] theorem State.setCtr_caps (v : Ctr) : (s.setCtr v).caps = s.caps := rfl
@[simp] theorem State.setCtr_router (v : Ctr) : (s.setCtr v).router = s.router := rfl
@[simp] theorem State.setCtr_icx (v : Ctr) : (s.setCtr v).icx = s.icx := rfl
@[simp] theorem State.setCtr_cores (v : Ctr) : (s.setCtr v).cores = s.cores := rfl
@[simp] theorem State.setCtr_pairs (v : Ctr) : (s.setCtr v).pairs = s.pairs := rfl
@[simp] theorem State.setCtr_shroud (v : Ctr) : (s.setCtr v).shroud = s.shroud := rfl
@[simp] theorem State.setCtr_engines (v : Ctr) : (s.setCtr v).engines = s.engines := rfl
@[simp] theorem State.setCtr_ctxs (v : Ctr) : (s.setCtr v).ctxs = s.ctxs := rfl
@[simp] theorem State.setCtr_samples (v : Ctr) : (s.setCtr v).samples = s.samples := rfl
@[simp] theorem State.setCtr_adcs (v : Ctr) : (s.setCtr v).adcs = s.adcs := rfl
@[simp] theorem State.setCtr_sdms (v : Ctr) : (s.setCtr v).sdms = s.sdms := rfl
@[simp] theorem State.setCtr_cmps (v : Ctr) : (s.setCtr v).cmps = s.cmps := rfl
@[simp] theorem State.setCtr_sensors (v : Ctr) : (s.setCtr v).sensors = s.sensors := rfl
@[simp] theorem State.setCtr_pwms (v : Ctr) : (s.setCtr v).pwms = s.pwms := rfl
@[simp] theorem State.setCtr_chans (v : Ctr) : (s.setCtr v).chans = s.chans := rfl
@[simp] theorem State.setCtr_groups (v : Ctr) : (s.setCtr v).groups = s.groups := rfl
@[simp] theorem State.setCtr_hvs (v : Ctr) : (s.setCtr v).hvs = s.hvs := rfl
@[simp] theorem State.setCtr_lvdrv (v : Ctr) : (s.setCtr v).lvdrv = s.lvdrv := rfl
@[simp] theorem State.setCtr_twls (v : Ctr) : (s.setCtr v).twls = s.twls := rfl
@[simp] theorem State.setCtr_encs (v : Ctr) : (s.setCtr v).encs = s.encs := rfl
@[simp] theorem State.setCtr_halls (v : Ctr) : (s.setCtr v).halls = s.halls := rfl
@[simp] theorem State.setCtr_dcdc (v : Ctr) : (s.setCtr v).dcdc = s.dcdc := rfl
@[simp] theorem State.setCtr_obc (v : Ctr) : (s.setCtr v).obc = s.obc := rfl
@[simp] theorem State.setCtr_lamps (v : Ctr) : (s.setCtr v).lamps = s.lamps := rfl
@[simp] theorem State.setCtr_acts (v : Ctr) : (s.setCtr v).acts = s.acts := rfl
@[simp] theorem State.setCtr_ctr (v : Ctr) : (s.setCtr v).ctr = v := rfl
@[simp] theorem State.setCtr_rings (v : Ctr) : (s.setCtr v).rings = s.rings := rfl
@[simp] theorem State.setCtr_zcors (v : Ctr) : (s.setCtr v).zcors = s.zcors := rfl
@[simp] theorem State.setCtr_twin (v : Ctr) : (s.setCtr v).twin = s.twin := rfl
@[simp] theorem State.setCtr_net (v : Ctr) : (s.setCtr v).net = s.net := rfl
@[simp] theorem State.setRings_pending (v : List (Nat × Ring)) : (s.setRings v).pending = s.pending := rfl
@[simp] theorem State.setRings_regs (v : List (Nat × Ring)) : (s.setRings v).regs = s.regs := rfl
@[simp] theorem State.setRings_mem (v : List (Nat × Ring)) : (s.setRings v).mem = s.mem := rfl
@[simp] theorem State.setRings_free (v : List (Nat × Ring)) : (s.setRings v).free = s.free := rfl
@[simp] theorem State.setRings_pwr (v : List (Nat × Ring)) : (s.setRings v).pwr = s.pwr := rfl
@[simp] theorem State.setRings_pins (v : List (Nat × Ring)) : (s.setRings v).pins = s.pins := rfl
@[simp] theorem State.setRings_kept (v : List (Nat × Ring)) : (s.setRings v).kept = s.kept := rfl
@[simp] theorem State.setRings_gms (v : List (Nat × Ring)) : (s.setRings v).gms = s.gms := rfl
@[simp] theorem State.setRings_pages (v : List (Nat × Ring)) : (s.setRings v).pages = s.pages := rfl
@[simp] theorem State.setRings_ports (v : List (Nat × Ring)) : (s.setRings v).ports = s.ports := rfl
@[simp] theorem State.setRings_caps (v : List (Nat × Ring)) : (s.setRings v).caps = s.caps := rfl
@[simp] theorem State.setRings_router (v : List (Nat × Ring)) : (s.setRings v).router = s.router := rfl
@[simp] theorem State.setRings_icx (v : List (Nat × Ring)) : (s.setRings v).icx = s.icx := rfl
@[simp] theorem State.setRings_cores (v : List (Nat × Ring)) : (s.setRings v).cores = s.cores := rfl
@[simp] theorem State.setRings_pairs (v : List (Nat × Ring)) : (s.setRings v).pairs = s.pairs := rfl
@[simp] theorem State.setRings_shroud (v : List (Nat × Ring)) : (s.setRings v).shroud = s.shroud := rfl
@[simp] theorem State.setRings_engines (v : List (Nat × Ring)) : (s.setRings v).engines = s.engines := rfl
@[simp] theorem State.setRings_ctxs (v : List (Nat × Ring)) : (s.setRings v).ctxs = s.ctxs := rfl
@[simp] theorem State.setRings_samples (v : List (Nat × Ring)) : (s.setRings v).samples = s.samples := rfl
@[simp] theorem State.setRings_adcs (v : List (Nat × Ring)) : (s.setRings v).adcs = s.adcs := rfl
@[simp] theorem State.setRings_sdms (v : List (Nat × Ring)) : (s.setRings v).sdms = s.sdms := rfl
@[simp] theorem State.setRings_cmps (v : List (Nat × Ring)) : (s.setRings v).cmps = s.cmps := rfl
@[simp] theorem State.setRings_sensors (v : List (Nat × Ring)) : (s.setRings v).sensors = s.sensors := rfl
@[simp] theorem State.setRings_pwms (v : List (Nat × Ring)) : (s.setRings v).pwms = s.pwms := rfl
@[simp] theorem State.setRings_chans (v : List (Nat × Ring)) : (s.setRings v).chans = s.chans := rfl
@[simp] theorem State.setRings_groups (v : List (Nat × Ring)) : (s.setRings v).groups = s.groups := rfl
@[simp] theorem State.setRings_hvs (v : List (Nat × Ring)) : (s.setRings v).hvs = s.hvs := rfl
@[simp] theorem State.setRings_lvdrv (v : List (Nat × Ring)) : (s.setRings v).lvdrv = s.lvdrv := rfl
@[simp] theorem State.setRings_twls (v : List (Nat × Ring)) : (s.setRings v).twls = s.twls := rfl
@[simp] theorem State.setRings_encs (v : List (Nat × Ring)) : (s.setRings v).encs = s.encs := rfl
@[simp] theorem State.setRings_halls (v : List (Nat × Ring)) : (s.setRings v).halls = s.halls := rfl
@[simp] theorem State.setRings_dcdc (v : List (Nat × Ring)) : (s.setRings v).dcdc = s.dcdc := rfl
@[simp] theorem State.setRings_obc (v : List (Nat × Ring)) : (s.setRings v).obc = s.obc := rfl
@[simp] theorem State.setRings_lamps (v : List (Nat × Ring)) : (s.setRings v).lamps = s.lamps := rfl
@[simp] theorem State.setRings_acts (v : List (Nat × Ring)) : (s.setRings v).acts = s.acts := rfl
@[simp] theorem State.setRings_ctr (v : List (Nat × Ring)) : (s.setRings v).ctr = s.ctr := rfl
@[simp] theorem State.setRings_rings (v : List (Nat × Ring)) : (s.setRings v).rings = v := rfl
@[simp] theorem State.setRings_zcors (v : List (Nat × Ring)) : (s.setRings v).zcors = s.zcors := rfl
@[simp] theorem State.setRings_twin (v : List (Nat × Ring)) : (s.setRings v).twin = s.twin := rfl
@[simp] theorem State.setRings_net (v : List (Nat × Ring)) : (s.setRings v).net = s.net := rfl
@[simp] theorem State.setZcors_pending (v : List (Nat × Zcor)) : (s.setZcors v).pending = s.pending := rfl
@[simp] theorem State.setZcors_regs (v : List (Nat × Zcor)) : (s.setZcors v).regs = s.regs := rfl
@[simp] theorem State.setZcors_mem (v : List (Nat × Zcor)) : (s.setZcors v).mem = s.mem := rfl
@[simp] theorem State.setZcors_free (v : List (Nat × Zcor)) : (s.setZcors v).free = s.free := rfl
@[simp] theorem State.setZcors_pwr (v : List (Nat × Zcor)) : (s.setZcors v).pwr = s.pwr := rfl
@[simp] theorem State.setZcors_pins (v : List (Nat × Zcor)) : (s.setZcors v).pins = s.pins := rfl
@[simp] theorem State.setZcors_kept (v : List (Nat × Zcor)) : (s.setZcors v).kept = s.kept := rfl
@[simp] theorem State.setZcors_gms (v : List (Nat × Zcor)) : (s.setZcors v).gms = s.gms := rfl
@[simp] theorem State.setZcors_pages (v : List (Nat × Zcor)) : (s.setZcors v).pages = s.pages := rfl
@[simp] theorem State.setZcors_ports (v : List (Nat × Zcor)) : (s.setZcors v).ports = s.ports := rfl
@[simp] theorem State.setZcors_caps (v : List (Nat × Zcor)) : (s.setZcors v).caps = s.caps := rfl
@[simp] theorem State.setZcors_router (v : List (Nat × Zcor)) : (s.setZcors v).router = s.router := rfl
@[simp] theorem State.setZcors_icx (v : List (Nat × Zcor)) : (s.setZcors v).icx = s.icx := rfl
@[simp] theorem State.setZcors_cores (v : List (Nat × Zcor)) : (s.setZcors v).cores = s.cores := rfl
@[simp] theorem State.setZcors_pairs (v : List (Nat × Zcor)) : (s.setZcors v).pairs = s.pairs := rfl
@[simp] theorem State.setZcors_shroud (v : List (Nat × Zcor)) : (s.setZcors v).shroud = s.shroud := rfl
@[simp] theorem State.setZcors_engines (v : List (Nat × Zcor)) : (s.setZcors v).engines = s.engines := rfl
@[simp] theorem State.setZcors_ctxs (v : List (Nat × Zcor)) : (s.setZcors v).ctxs = s.ctxs := rfl
@[simp] theorem State.setZcors_samples (v : List (Nat × Zcor)) : (s.setZcors v).samples = s.samples := rfl
@[simp] theorem State.setZcors_adcs (v : List (Nat × Zcor)) : (s.setZcors v).adcs = s.adcs := rfl
@[simp] theorem State.setZcors_sdms (v : List (Nat × Zcor)) : (s.setZcors v).sdms = s.sdms := rfl
@[simp] theorem State.setZcors_cmps (v : List (Nat × Zcor)) : (s.setZcors v).cmps = s.cmps := rfl
@[simp] theorem State.setZcors_sensors (v : List (Nat × Zcor)) : (s.setZcors v).sensors = s.sensors := rfl
@[simp] theorem State.setZcors_pwms (v : List (Nat × Zcor)) : (s.setZcors v).pwms = s.pwms := rfl
@[simp] theorem State.setZcors_chans (v : List (Nat × Zcor)) : (s.setZcors v).chans = s.chans := rfl
@[simp] theorem State.setZcors_groups (v : List (Nat × Zcor)) : (s.setZcors v).groups = s.groups := rfl
@[simp] theorem State.setZcors_hvs (v : List (Nat × Zcor)) : (s.setZcors v).hvs = s.hvs := rfl
@[simp] theorem State.setZcors_lvdrv (v : List (Nat × Zcor)) : (s.setZcors v).lvdrv = s.lvdrv := rfl
@[simp] theorem State.setZcors_twls (v : List (Nat × Zcor)) : (s.setZcors v).twls = s.twls := rfl
@[simp] theorem State.setZcors_encs (v : List (Nat × Zcor)) : (s.setZcors v).encs = s.encs := rfl
@[simp] theorem State.setZcors_halls (v : List (Nat × Zcor)) : (s.setZcors v).halls = s.halls := rfl
@[simp] theorem State.setZcors_dcdc (v : List (Nat × Zcor)) : (s.setZcors v).dcdc = s.dcdc := rfl
@[simp] theorem State.setZcors_obc (v : List (Nat × Zcor)) : (s.setZcors v).obc = s.obc := rfl
@[simp] theorem State.setZcors_lamps (v : List (Nat × Zcor)) : (s.setZcors v).lamps = s.lamps := rfl
@[simp] theorem State.setZcors_acts (v : List (Nat × Zcor)) : (s.setZcors v).acts = s.acts := rfl
@[simp] theorem State.setZcors_ctr (v : List (Nat × Zcor)) : (s.setZcors v).ctr = s.ctr := rfl
@[simp] theorem State.setZcors_rings (v : List (Nat × Zcor)) : (s.setZcors v).rings = s.rings := rfl
@[simp] theorem State.setZcors_zcors (v : List (Nat × Zcor)) : (s.setZcors v).zcors = v := rfl
@[simp] theorem State.setZcors_twin (v : List (Nat × Zcor)) : (s.setZcors v).twin = s.twin := rfl
@[simp] theorem State.setZcors_net (v : List (Nat × Zcor)) : (s.setZcors v).net = s.net := rfl
@[simp] theorem State.setTwin_pending (v : Twin) : (s.setTwin v).pending = s.pending := rfl
@[simp] theorem State.setTwin_regs (v : Twin) : (s.setTwin v).regs = s.regs := rfl
@[simp] theorem State.setTwin_mem (v : Twin) : (s.setTwin v).mem = s.mem := rfl
@[simp] theorem State.setTwin_free (v : Twin) : (s.setTwin v).free = s.free := rfl
@[simp] theorem State.setTwin_pwr (v : Twin) : (s.setTwin v).pwr = s.pwr := rfl
@[simp] theorem State.setTwin_pins (v : Twin) : (s.setTwin v).pins = s.pins := rfl
@[simp] theorem State.setTwin_kept (v : Twin) : (s.setTwin v).kept = s.kept := rfl
@[simp] theorem State.setTwin_gms (v : Twin) : (s.setTwin v).gms = s.gms := rfl
@[simp] theorem State.setTwin_pages (v : Twin) : (s.setTwin v).pages = s.pages := rfl
@[simp] theorem State.setTwin_ports (v : Twin) : (s.setTwin v).ports = s.ports := rfl
@[simp] theorem State.setTwin_caps (v : Twin) : (s.setTwin v).caps = s.caps := rfl
@[simp] theorem State.setTwin_router (v : Twin) : (s.setTwin v).router = s.router := rfl
@[simp] theorem State.setTwin_icx (v : Twin) : (s.setTwin v).icx = s.icx := rfl
@[simp] theorem State.setTwin_cores (v : Twin) : (s.setTwin v).cores = s.cores := rfl
@[simp] theorem State.setTwin_pairs (v : Twin) : (s.setTwin v).pairs = s.pairs := rfl
@[simp] theorem State.setTwin_shroud (v : Twin) : (s.setTwin v).shroud = s.shroud := rfl
@[simp] theorem State.setTwin_engines (v : Twin) : (s.setTwin v).engines = s.engines := rfl
@[simp] theorem State.setTwin_ctxs (v : Twin) : (s.setTwin v).ctxs = s.ctxs := rfl
@[simp] theorem State.setTwin_samples (v : Twin) : (s.setTwin v).samples = s.samples := rfl
@[simp] theorem State.setTwin_adcs (v : Twin) : (s.setTwin v).adcs = s.adcs := rfl
@[simp] theorem State.setTwin_sdms (v : Twin) : (s.setTwin v).sdms = s.sdms := rfl
@[simp] theorem State.setTwin_cmps (v : Twin) : (s.setTwin v).cmps = s.cmps := rfl
@[simp] theorem State.setTwin_sensors (v : Twin) : (s.setTwin v).sensors = s.sensors := rfl
@[simp] theorem State.setTwin_pwms (v : Twin) : (s.setTwin v).pwms = s.pwms := rfl
@[simp] theorem State.setTwin_chans (v : Twin) : (s.setTwin v).chans = s.chans := rfl
@[simp] theorem State.setTwin_groups (v : Twin) : (s.setTwin v).groups = s.groups := rfl
@[simp] theorem State.setTwin_hvs (v : Twin) : (s.setTwin v).hvs = s.hvs := rfl
@[simp] theorem State.setTwin_lvdrv (v : Twin) : (s.setTwin v).lvdrv = s.lvdrv := rfl
@[simp] theorem State.setTwin_twls (v : Twin) : (s.setTwin v).twls = s.twls := rfl
@[simp] theorem State.setTwin_encs (v : Twin) : (s.setTwin v).encs = s.encs := rfl
@[simp] theorem State.setTwin_halls (v : Twin) : (s.setTwin v).halls = s.halls := rfl
@[simp] theorem State.setTwin_dcdc (v : Twin) : (s.setTwin v).dcdc = s.dcdc := rfl
@[simp] theorem State.setTwin_obc (v : Twin) : (s.setTwin v).obc = s.obc := rfl
@[simp] theorem State.setTwin_lamps (v : Twin) : (s.setTwin v).lamps = s.lamps := rfl
@[simp] theorem State.setTwin_acts (v : Twin) : (s.setTwin v).acts = s.acts := rfl
@[simp] theorem State.setTwin_ctr (v : Twin) : (s.setTwin v).ctr = s.ctr := rfl
@[simp] theorem State.setTwin_rings (v : Twin) : (s.setTwin v).rings = s.rings := rfl
@[simp] theorem State.setTwin_zcors (v : Twin) : (s.setTwin v).zcors = s.zcors := rfl
@[simp] theorem State.setTwin_twin (v : Twin) : (s.setTwin v).twin = v := rfl
@[simp] theorem State.setTwin_net (v : Twin) : (s.setTwin v).net = s.net := rfl
@[simp] theorem State.setNet_pending (v : Net) : (s.setNet v).pending = s.pending := rfl
@[simp] theorem State.setNet_regs (v : Net) : (s.setNet v).regs = s.regs := rfl
@[simp] theorem State.setNet_mem (v : Net) : (s.setNet v).mem = s.mem := rfl
@[simp] theorem State.setNet_free (v : Net) : (s.setNet v).free = s.free := rfl
@[simp] theorem State.setNet_pwr (v : Net) : (s.setNet v).pwr = s.pwr := rfl
@[simp] theorem State.setNet_pins (v : Net) : (s.setNet v).pins = s.pins := rfl
@[simp] theorem State.setNet_kept (v : Net) : (s.setNet v).kept = s.kept := rfl
@[simp] theorem State.setNet_gms (v : Net) : (s.setNet v).gms = s.gms := rfl
@[simp] theorem State.setNet_pages (v : Net) : (s.setNet v).pages = s.pages := rfl
@[simp] theorem State.setNet_ports (v : Net) : (s.setNet v).ports = s.ports := rfl
@[simp] theorem State.setNet_caps (v : Net) : (s.setNet v).caps = s.caps := rfl
@[simp] theorem State.setNet_router (v : Net) : (s.setNet v).router = s.router := rfl
@[simp] theorem State.setNet_icx (v : Net) : (s.setNet v).icx = s.icx := rfl
@[simp] theorem State.setNet_cores (v : Net) : (s.setNet v).cores = s.cores := rfl
@[simp] theorem State.setNet_pairs (v : Net) : (s.setNet v).pairs = s.pairs := rfl
@[simp] theorem State.setNet_shroud (v : Net) : (s.setNet v).shroud = s.shroud := rfl
@[simp] theorem State.setNet_engines (v : Net) : (s.setNet v).engines = s.engines := rfl
@[simp] theorem State.setNet_ctxs (v : Net) : (s.setNet v).ctxs = s.ctxs := rfl
@[simp] theorem State.setNet_samples (v : Net) : (s.setNet v).samples = s.samples := rfl
@[simp] theorem State.setNet_adcs (v : Net) : (s.setNet v).adcs = s.adcs := rfl
@[simp] theorem State.setNet_sdms (v : Net) : (s.setNet v).sdms = s.sdms := rfl
@[simp] theorem State.setNet_cmps (v : Net) : (s.setNet v).cmps = s.cmps := rfl
@[simp] theorem State.setNet_sensors (v : Net) : (s.setNet v).sensors = s.sensors := rfl
@[simp] theorem State.setNet_pwms (v : Net) : (s.setNet v).pwms = s.pwms := rfl
@[simp] theorem State.setNet_chans (v : Net) : (s.setNet v).chans = s.chans := rfl
@[simp] theorem State.setNet_groups (v : Net) : (s.setNet v).groups = s.groups := rfl
@[simp] theorem State.setNet_hvs (v : Net) : (s.setNet v).hvs = s.hvs := rfl
@[simp] theorem State.setNet_lvdrv (v : Net) : (s.setNet v).lvdrv = s.lvdrv := rfl
@[simp] theorem State.setNet_twls (v : Net) : (s.setNet v).twls = s.twls := rfl
@[simp] theorem State.setNet_encs (v : Net) : (s.setNet v).encs = s.encs := rfl
@[simp] theorem State.setNet_halls (v : Net) : (s.setNet v).halls = s.halls := rfl
@[simp] theorem State.setNet_dcdc (v : Net) : (s.setNet v).dcdc = s.dcdc := rfl
@[simp] theorem State.setNet_obc (v : Net) : (s.setNet v).obc = s.obc := rfl
@[simp] theorem State.setNet_lamps (v : Net) : (s.setNet v).lamps = s.lamps := rfl
@[simp] theorem State.setNet_acts (v : Net) : (s.setNet v).acts = s.acts := rfl
@[simp] theorem State.setNet_ctr (v : Net) : (s.setNet v).ctr = s.ctr := rfl
@[simp] theorem State.setNet_rings (v : Net) : (s.setNet v).rings = s.rings := rfl
@[simp] theorem State.setNet_zcors (v : Net) : (s.setNet v).zcors = s.zcors := rfl
@[simp] theorem State.setNet_twin (v : Net) : (s.setNet v).twin = s.twin := rfl
@[simp] theorem State.setNet_net (v : Net) : (s.setNet v).net = v := rfl

end Sys2Proof.Machine
end

