-- ==== Sys2Proof/Laws/Store.lean ====
section
/-! SUPPORT. Sparse stores: reading after writing, and the canonical form that every operation keeps. -/

namespace Sys2Proof.Machine

variable {α : Type}

theorem Store.get_erase (d : Nat → α) (m : List (Nat × α)) (k j : Nat) :
    Store.get d (Store.erase m k) j = if j = k then d j else Store.get d m j := by
  induction m with
  | nil => simp [Store.erase, Store.get]
  | cons e t ih =>
    obtain ⟨i, v⟩ := e
    by_cases h : i = k <;> by_cases g : i = j <;> by_cases f : j = k <;> simp_all [Store.erase, Store.get]

theorem Store.get_insert (d : Nat → α) (m : List (Nat × α)) (k j : Nat) (v : α) (h : ∀ e ∈ m, e.1 ≠ k) :
    Store.get d (Store.insert k v m) j = if j = k then v else Store.get d m j := by
  induction m with
  | nil => by_cases f : k = j <;> simp_all [Store.insert, Store.get, eq_comm]
  | cons e t ih =>
    obtain ⟨i, u⟩ := e
    have hi : i ≠ k := h (i, u) (by simp)
    have ht : ∀ e ∈ t, e.1 ≠ k := fun e he => h e (by simp [he])
    by_cases g : k < i
    · by_cases f : k = j <;> simp_all [Store.insert, Store.get, eq_comm]
    · by_cases f : i = j
      · subst f; simp [Store.insert, Store.get, g, hi]
      · simp [Store.insert, Store.get, g, f, ih ht]

theorem Store.erase_ne (m : List (Nat × α)) (k : Nat) : ∀ e ∈ Store.erase m k, e.1 ≠ k := by
  induction m with
  | nil => simp [Store.erase]
  | cons e t ih =>
    obtain ⟨i, v⟩ := e
    by_cases h : i = k
    · simpa [Store.erase, h] using ih
    · simpa [Store.erase, h] using ih

/-- Reading after a write: the key written reads the value, every other key reads as before. -/
theorem Store.get_put [DecidableEq α] (d : Nat → α) (m : List (Nat × α)) (k j : Nat) (v : α) :
    Store.get d (Store.put d k v m) j = if j = k then v else Store.get d m j := by
  unfold Store.put
  by_cases h : v = d k
  · by_cases g : j = k <;> simp [h, Store.get_erase, g]
  · simp only [h, if_false]
    rw [Store.get_insert _ _ _ _ _ (Store.erase_ne m k), Store.get_erase]
    by_cases g : j = k <;> simp [g]

/-- Reading after keys have been cleared. -/
theorem Store.get_clear (d : Nat → α) (p : Nat → Bool) (m : List (Nat × α)) (j : Nat) :
    Store.get d (Store.clear p m) j = if p j then d j else Store.get d m j := by
  induction m with
  | nil => simp [Store.clear, Store.get]
  | cons e t ih =>
    obtain ⟨i, v⟩ := e
    unfold Store.clear at *
    by_cases h : p i <;> by_cases g : i = j
    · subst g; simp_all
    · simp_all [Store.get]
    · subst g; simp_all [Store.get]
    · simp_all [Store.get]

variable [DecidableEq α]

theorem Store.wfFrom_mono (d : Nat → α) (m : List (Nat × α)) {a b : Nat} (h : a ≤ b) (w : Store.wfFrom d b m = true) :
    Store.wfFrom d a m = true := by
  cases m with
  | nil => rfl
  | cons e t => obtain ⟨i, v⟩ := e; simp_all [Store.wfFrom]; omega

theorem Store.wfFrom_erase (d : Nat → α) (m : List (Nat × α)) (k lo : Nat) (w : Store.wfFrom d lo m = true) :
    Store.wfFrom d lo (Store.erase m k) = true := by
  induction m generalizing lo with
  | nil => rfl
  | cons e t ih =>
    obtain ⟨i, v⟩ := e
    simp only [Store.wfFrom, Bool.and_eq_true, decide_eq_true_eq] at w
    by_cases h : i = k
    · simp only [Store.erase, h, if_true]
      exact Store.wfFrom_mono d _ (by omega) (ih _ w.2)
    · simp [Store.erase, h, Store.wfFrom, w.1, ih _ w.2]

theorem Store.wfFrom_insert (d : Nat → α) (m : List (Nat × α)) (k lo : Nat) (v : α) (hv : v ≠ d k) (hk : lo ≤ k)
    (hm : ∀ e ∈ m, e.1 ≠ k) (w : Store.wfFrom d lo m = true) : Store.wfFrom d lo (Store.insert k v m) = true := by
  induction m generalizing lo with
  | nil => simp [Store.insert, Store.wfFrom, hv, hk]
  | cons e t ih =>
    obtain ⟨i, u⟩ := e
    simp only [Store.wfFrom, Bool.and_eq_true, decide_eq_true_eq] at w
    have hi : i ≠ k := hm (i, u) (by simp)
    by_cases g : k < i
    · simp [Store.insert, g, Store.wfFrom, hv, hk, w.1.2, w.2]
    · simp only [Store.insert, g, if_false, Store.wfFrom, Bool.and_eq_true, decide_eq_true_eq]
      exact ⟨w.1, ih _ (by omega) (fun e he => hm e (by simp [he])) w.2⟩

/-- A write keeps the canonical form. -/
theorem Store.wf_put (d : Nat → α) (m : List (Nat × α)) (k : Nat) (v : α) (w : Store.wf d m = true) :
    Store.wf d (Store.put d k v m) = true := by
  unfold Store.put Store.wf at *
  by_cases h : v = d k
  · simp only [h, if_true]; exact Store.wfFrom_erase d m k 0 w
  · simp only [h, if_false]
    exact Store.wfFrom_insert d _ k 0 v h (Nat.zero_le _) (Store.erase_ne m k) (Store.wfFrom_erase d m k 0 w)

/-- Clearing keeps the canonical form. -/
theorem Store.wf_clear (d : Nat → α) (p : Nat → Bool) (m : List (Nat × α)) (w : Store.wf d m = true) :
    Store.wf d (Store.clear p m) = true := by
  unfold Store.wf at *
  suffices h : ∀ lo, Store.wfFrom d lo m = true → Store.wfFrom d lo (Store.clear p m) = true from h 0 w
  clear w
  induction m with
  | nil => intro lo _; rfl
  | cons e t ih =>
    intro lo w
    obtain ⟨i, v⟩ := e
    simp only [Store.wfFrom, Bool.and_eq_true, decide_eq_true_eq] at w
    unfold Store.clear at *
    by_cases h : p i
    · simp only [List.filter, h, Bool.not_true]
      exact Store.wfFrom_mono d _ (by omega) (ih _ w.2)
    · simp [List.filter, h, Store.wfFrom, w.1, ih _ w.2]

end Sys2Proof.Machine
end

