-- ==== Sys2Proof/Laws/Ops.lean ====
section
/-! SUPPORT. The shared operations: what a register, a unit or a byte reads after each of them, and which fields each leaves alone. -/

namespace Sys2Proof.Machine

variable (s : State)

/-! ### Registers -/

theorem State.reg_setReg (a : Nat) (v : Word) (b : Nat) : (s.setReg a v).reg b = if b = a then v else s.reg b :=
  Store.get_put regDefault s.regs a b v

@[simp] theorem State.reg_setReg_self (a : Nat) (v : Word) : (s.setReg a v).reg a = v := by simp [State.reg_setReg]

theorem State.reg_setReg_ne {a b : Nat} (v : Word) (h : b ≠ a) : (s.setReg a v).reg b = s.reg b := by simp [State.reg_setReg, h]

theorem State.reg_clearRegs (p : Nat → Bool) (b : Nat) : (s.clearRegs p).reg b = if p b then regDefault b else s.reg b :=
  Store.get_clear regDefault p s.regs b

@[simp] theorem State.setReg_pending (a : Nat) (v : Word) : (s.setReg a v).pending = s.pending := rfl
@[simp] theorem State.setReg_mem (a : Nat) (v : Word) : (s.setReg a v).mem = s.mem := rfl
@[simp] theorem State.setReg_free (a : Nat) (v : Word) : (s.setReg a v).free = s.free := rfl
@[simp] theorem State.setReg_pwr (a : Nat) (v : Word) : (s.setReg a v).pwr = s.pwr := rfl
@[simp] theorem State.setReg_pins (a : Nat) (v : Word) : (s.setReg a v).pins = s.pins := rfl
@[simp] theorem State.setReg_kept (a : Nat) (v : Word) : (s.setReg a v).kept = s.kept := rfl
@[simp] theorem State.setReg_gms (a : Nat) (v : Word) : (s.setReg a v).gms = s.gms := rfl
@[simp] theorem State.setReg_pages (a : Nat) (v : Word) : (s.setReg a v).pages = s.pages := rfl
@[simp] theorem State.setReg_ports (a : Nat) (v : Word) : (s.setReg a v).ports = s.ports := rfl
@[simp] theorem State.setReg_caps (a : Nat) (v : Word) : (s.setReg a v).caps = s.caps := rfl
@[simp] theorem State.setReg_router (a : Nat) (v : Word) : (s.setReg a v).router = s.router := rfl
@[simp] theorem State.setReg_icx (a : Nat) (v : Word) : (s.setReg a v).icx = s.icx := rfl
@[simp] theorem State.setReg_cores (a : Nat) (v : Word) : (s.setReg a v).cores = s.cores := rfl
@[simp] theorem State.setReg_pairs (a : Nat) (v : Word) : (s.setReg a v).pairs = s.pairs := rfl
@[simp] theorem State.setReg_shroud (a : Nat) (v : Word) : (s.setReg a v).shroud = s.shroud := rfl
@[simp] theorem State.setReg_engines (a : Nat) (v : Word) : (s.setReg a v).engines = s.engines := rfl
@[simp] theorem State.setReg_ctxs (a : Nat) (v : Word) : (s.setReg a v).ctxs = s.ctxs := rfl
@[simp] theorem State.setReg_samples (a : Nat) (v : Word) : (s.setReg a v).samples = s.samples := rfl
@[simp] theorem State.setReg_adcs (a : Nat) (v : Word) : (s.setReg a v).adcs = s.adcs := rfl
@[simp] theorem State.setReg_sdms (a : Nat) (v : Word) : (s.setReg a v).sdms = s.sdms := rfl
@[simp] theorem State.setReg_cmps (a : Nat) (v : Word) : (s.setReg a v).cmps = s.cmps := rfl
@[simp] theorem State.setReg_sensors (a : Nat) (v : Word) : (s.setReg a v).sensors = s.sensors := rfl
@[simp] theorem State.setReg_pwms (a : Nat) (v : Word) : (s.setReg a v).pwms = s.pwms := rfl
@[simp] theorem State.setReg_chans (a : Nat) (v : Word) : (s.setReg a v).chans = s.chans := rfl
@[simp] theorem State.setReg_groups (a : Nat) (v : Word) : (s.setReg a v).groups = s.groups := rfl
@[simp] theorem State.setReg_hvs (a : Nat) (v : Word) : (s.setReg a v).hvs = s.hvs := rfl
@[simp] theorem State.setReg_lvdrv (a : Nat) (v : Word) : (s.setReg a v).lvdrv = s.lvdrv := rfl
@[simp] theorem State.setReg_twls (a : Nat) (v : Word) : (s.setReg a v).twls = s.twls := rfl
@[simp] theorem State.setReg_encs (a : Nat) (v : Word) : (s.setReg a v).encs = s.encs := rfl
@[simp] theorem State.setReg_halls (a : Nat) (v : Word) : (s.setReg a v).halls = s.halls := rfl
@[simp] theorem State.setReg_dcdc (a : Nat) (v : Word) : (s.setReg a v).dcdc = s.dcdc := rfl
@[simp] theorem State.setReg_obc (a : Nat) (v : Word) : (s.setReg a v).obc = s.obc := rfl
@[simp] theorem State.setReg_lamps (a : Nat) (v : Word) : (s.setReg a v).lamps = s.lamps := rfl
@[simp] theorem State.setReg_acts (a : Nat) (v : Word) : (s.setReg a v).acts = s.acts := rfl
@[simp] theorem State.setReg_ctr (a : Nat) (v : Word) : (s.setReg a v).ctr = s.ctr := rfl
@[simp] theorem State.setReg_rings (a : Nat) (v : Word) : (s.setReg a v).rings = s.rings := rfl
@[simp] theorem State.setReg_zcors (a : Nat) (v : Word) : (s.setReg a v).zcors = s.zcors := rfl
@[simp] theorem State.setReg_twin (a : Nat) (v : Word) : (s.setReg a v).twin = s.twin := rfl
@[simp] theorem State.setReg_net (a : Nat) (v : Word) : (s.setReg a v).net = s.net := rfl
@[simp] theorem State.setPending_reg (v : List Instr) (a : Nat) : (s.setPending v).reg a = s.reg a := rfl
@[simp] theorem State.setMem_reg (v : List Host.Cell) (a : Nat) : (s.setMem v).reg a = s.reg a := rfl
@[simp] theorem State.setFree_reg (v : Nat) (a : Nat) : (s.setFree v).reg a = s.reg a := rfl
@[simp] theorem State.setPwr_reg (v : Power) (a : Nat) : (s.setPwr v).reg a = s.reg a := rfl
@[simp] theorem State.setPins_reg (v : Pins) (a : Nat) : (s.setPins v).reg a = s.reg a := rfl
@[simp] theorem State.setKept_reg (v : Kept) (a : Nat) : (s.setKept v).reg a = s.reg a := rfl
@[simp] theorem State.setGms_reg (v : Gms) (a : Nat) : (s.setGms v).reg a = s.reg a := rfl
@[simp] theorem State.setPages_reg (v : List (Nat × PageHid)) (a : Nat) : (s.setPages v).reg a = s.reg a := rfl
@[simp] theorem State.setPorts_reg (v : List (Nat × PortSt)) (a : Nat) : (s.setPorts v).reg a = s.reg a := rfl
@[simp] theorem State.setCaps_reg (v : List (Nat × CapHid)) (a : Nat) : (s.setCaps v).reg a = s.reg a := rfl
@[simp] theorem State.setRouter_reg (v : Router) (a : Nat) : (s.setRouter v).reg a = s.reg a := rfl
@[simp] theorem State.setIcx_reg (v : Icx) (a : Nat) : (s.setIcx v).reg a = s.reg a := rfl
@[simp] theorem State.setCores_reg (v : List (Nat × Core)) (a : Nat) : (s.setCores v).reg a = s.reg a := rfl
@[simp] theorem State.setPairs_reg (v : List (Nat × PairSt)) (a : Nat) : (s.setPairs v).reg a = s.reg a := rfl
@[simp] theorem State.setShroud_reg (v : Shroud) (a : Nat) : (s.setShroud v).reg a = s.reg a := rfl
@[simp] theorem State.setEngines_reg (v : List (Nat × Engine)) (a : Nat) : (s.setEngines v).reg a = s.reg a := rfl
@[simp] theorem State.setCtxs_reg (v : List (Nat × Ctx)) (a : Nat) : (s.setCtxs v).reg a = s.reg a := rfl
@[simp] theorem State.setSamples_reg (v : List (Nat × Sample)) (a : Nat) : (s.setSamples v).reg a = s.reg a := rfl
@[simp] theorem State.setAdcs_reg (v : List (Nat × AdcSeq)) (a : Nat) : (s.setAdcs v).reg a = s.reg a := rfl
@[simp] theorem State.setSdms_reg (v : List (Nat × Sdm)) (a : Nat) : (s.setSdms v).reg a = s.reg a := rfl
@[simp] theorem State.setCmps_reg (v : List (Nat × Cmp)) (a : Nat) : (s.setCmps v).reg a = s.reg a := rfl
@[simp] theorem State.setSensors_reg (v : List (Nat × Sensor)) (a : Nat) : (s.setSensors v).reg a = s.reg a := rfl
@[simp] theorem State.setPwms_reg (v : List (Nat × Pwm)) (a : Nat) : (s.setPwms v).reg a = s.reg a := rfl
@[simp] theorem State.setChans_reg (v : List (Nat × Chan)) (a : Nat) : (s.setChans v).reg a = s.reg a := rfl
@[simp] theorem State.setGroups_reg (v : List (Nat × Group)) (a : Nat) : (s.setGroups v).reg a = s.reg a := rfl
@[simp] theorem State.setHvs_reg (v : List (Nat × Nat)) (a : Nat) : (s.setHvs v).reg a = s.reg a := rfl
@[simp] theorem State.setLvdrv_reg (v : Lv) (a : Nat) : (s.setLvdrv v).reg a = s.reg a := rfl
@[simp] theorem State.setTwls_reg (v : List (Nat × Twl)) (a : Nat) : (s.setTwls v).reg a = s.reg a := rfl
@[simp] theorem State.setEncs_reg (v : List (Nat × Enc)) (a : Nat) : (s.setEncs v).reg a = s.reg a := rfl
@[simp] theorem State.setHalls_reg (v : List (Nat × Hall)) (a : Nat) : (s.setHalls v).reg a = s.reg a := rfl
@[simp] theorem State.setDcdc_reg (v : Dcdc) (a : Nat) : (s.setDcdc v).reg a = s.reg a := rfl
@[simp] theorem State.setObc_reg (v : Obc) (a : Nat) : (s.setObc v).reg a = s.reg a := rfl
@[simp] theorem State.setLamps_reg (v : List (Nat × Lamp)) (a : Nat) : (s.setLamps v).reg a = s.reg a := rfl
@[simp] theorem State.setActs_reg (v : List (Nat × Act)) (a : Nat) : (s.setActs v).reg a = s.reg a := rfl
@[simp] theorem State.setCtr_reg (v : Ctr) (a : Nat) : (s.setCtr v).reg a = s.reg a := rfl
@[simp] theorem State.setRings_reg (v : List (Nat × Ring)) (a : Nat) : (s.setRings v).reg a = s.reg a := rfl
@[simp] theorem State.setZcors_reg (v : List (Nat × Zcor)) (a : Nat) : (s.setZcors v).reg a = s.reg a := rfl
@[simp] theorem State.setTwin_reg (v : Twin) (a : Nat) : (s.setTwin v).reg a = s.reg a := rfl
@[simp] theorem State.setNet_reg (v : Net) (a : Nat) : (s.setNet v).reg a = s.reg a := rfl

/-! ### Numbered units -/

theorem State.page_putPage (k : Nat) (v : PageHid) (j : Nat) : (s.putPage k v).page j = if j = k then v else s.page j := Store.get_put _ s.pages k j v
@[simp] theorem State.page_putPage_self (k : Nat) (v : PageHid) : (s.putPage k v).page k = v := by simp [State.page_putPage]
@[simp] theorem State.putPage_pending (k : Nat) (v : PageHid) : (s.putPage k v).pending = s.pending := rfl
@[simp] theorem State.putPage_regs (k : Nat) (v : PageHid) : (s.putPage k v).regs = s.regs := rfl
@[simp] theorem State.putPage_mem (k : Nat) (v : PageHid) : (s.putPage k v).mem = s.mem := rfl
@[simp] theorem State.putPage_free (k : Nat) (v : PageHid) : (s.putPage k v).free = s.free := rfl
@[simp] theorem State.putPage_pwr (k : Nat) (v : PageHid) : (s.putPage k v).pwr = s.pwr := rfl
@[simp] theorem State.putPage_pins (k : Nat) (v : PageHid) : (s.putPage k v).pins = s.pins := rfl
@[simp] theorem State.putPage_kept (k : Nat) (v : PageHid) : (s.putPage k v).kept = s.kept := rfl
@[simp] theorem State.putPage_gms (k : Nat) (v : PageHid) : (s.putPage k v).gms = s.gms := rfl
@[simp] theorem State.putPage_ports (k : Nat) (v : PageHid) : (s.putPage k v).ports = s.ports := rfl
@[simp] theorem State.putPage_caps (k : Nat) (v : PageHid) : (s.putPage k v).caps = s.caps := rfl
@[simp] theorem State.putPage_router (k : Nat) (v : PageHid) : (s.putPage k v).router = s.router := rfl
@[simp] theorem State.putPage_icx (k : Nat) (v : PageHid) : (s.putPage k v).icx = s.icx := rfl
@[simp] theorem State.putPage_cores (k : Nat) (v : PageHid) : (s.putPage k v).cores = s.cores := rfl
@[simp] theorem State.putPage_pairs (k : Nat) (v : PageHid) : (s.putPage k v).pairs = s.pairs := rfl
@[simp] theorem State.putPage_shroud (k : Nat) (v : PageHid) : (s.putPage k v).shroud = s.shroud := rfl
@[simp] theorem State.putPage_engines (k : Nat) (v : PageHid) : (s.putPage k v).engines = s.engines := rfl
@[simp] theorem State.putPage_ctxs (k : Nat) (v : PageHid) : (s.putPage k v).ctxs = s.ctxs := rfl
@[simp] theorem State.putPage_samples (k : Nat) (v : PageHid) : (s.putPage k v).samples = s.samples := rfl
@[simp] theorem State.putPage_adcs (k : Nat) (v : PageHid) : (s.putPage k v).adcs = s.adcs := rfl
@[simp] theorem State.putPage_sdms (k : Nat) (v : PageHid) : (s.putPage k v).sdms = s.sdms := rfl
@[simp] theorem State.putPage_cmps (k : Nat) (v : PageHid) : (s.putPage k v).cmps = s.cmps := rfl
@[simp] theorem State.putPage_sensors (k : Nat) (v : PageHid) : (s.putPage k v).sensors = s.sensors := rfl
@[simp] theorem State.putPage_pwms (k : Nat) (v : PageHid) : (s.putPage k v).pwms = s.pwms := rfl
@[simp] theorem State.putPage_chans (k : Nat) (v : PageHid) : (s.putPage k v).chans = s.chans := rfl
@[simp] theorem State.putPage_groups (k : Nat) (v : PageHid) : (s.putPage k v).groups = s.groups := rfl
@[simp] theorem State.putPage_hvs (k : Nat) (v : PageHid) : (s.putPage k v).hvs = s.hvs := rfl
@[simp] theorem State.putPage_lvdrv (k : Nat) (v : PageHid) : (s.putPage k v).lvdrv = s.lvdrv := rfl
@[simp] theorem State.putPage_twls (k : Nat) (v : PageHid) : (s.putPage k v).twls = s.twls := rfl
@[simp] theorem State.putPage_encs (k : Nat) (v : PageHid) : (s.putPage k v).encs = s.encs := rfl
@[simp] theorem State.putPage_halls (k : Nat) (v : PageHid) : (s.putPage k v).halls = s.halls := rfl
@[simp] theorem State.putPage_dcdc (k : Nat) (v : PageHid) : (s.putPage k v).dcdc = s.dcdc := rfl
@[simp] theorem State.putPage_obc (k : Nat) (v : PageHid) : (s.putPage k v).obc = s.obc := rfl
@[simp] theorem State.putPage_lamps (k : Nat) (v : PageHid) : (s.putPage k v).lamps = s.lamps := rfl
@[simp] theorem State.putPage_acts (k : Nat) (v : PageHid) : (s.putPage k v).acts = s.acts := rfl
@[simp] theorem State.putPage_ctr (k : Nat) (v : PageHid) : (s.putPage k v).ctr = s.ctr := rfl
@[simp] theorem State.putPage_rings (k : Nat) (v : PageHid) : (s.putPage k v).rings = s.rings := rfl
@[simp] theorem State.putPage_zcors (k : Nat) (v : PageHid) : (s.putPage k v).zcors = s.zcors := rfl
@[simp] theorem State.putPage_twin (k : Nat) (v : PageHid) : (s.putPage k v).twin = s.twin := rfl
@[simp] theorem State.putPage_net (k : Nat) (v : PageHid) : (s.putPage k v).net = s.net := rfl
@[simp] theorem State.putPage_reg (k : Nat) (v : PageHid) (a : Nat) : (s.putPage k v).reg a = s.reg a := rfl
theorem State.port_putPort (k : Nat) (v : PortSt) (j : Nat) : (s.putPort k v).port j = if j = k then v else s.port j := Store.get_put _ s.ports k j v
@[simp] theorem State.port_putPort_self (k : Nat) (v : PortSt) : (s.putPort k v).port k = v := by simp [State.port_putPort]
@[simp] theorem State.putPort_pending (k : Nat) (v : PortSt) : (s.putPort k v).pending = s.pending := rfl
@[simp] theorem State.putPort_regs (k : Nat) (v : PortSt) : (s.putPort k v).regs = s.regs := rfl
@[simp] theorem State.putPort_mem (k : Nat) (v : PortSt) : (s.putPort k v).mem = s.mem := rfl
@[simp] theorem State.putPort_free (k : Nat) (v : PortSt) : (s.putPort k v).free = s.free := rfl
@[simp] theorem State.putPort_pwr (k : Nat) (v : PortSt) : (s.putPort k v).pwr = s.pwr := rfl
@[simp] theorem State.putPort_pins (k : Nat) (v : PortSt) : (s.putPort k v).pins = s.pins := rfl
@[simp] theorem State.putPort_kept (k : Nat) (v : PortSt) : (s.putPort k v).kept = s.kept := rfl
@[simp] theorem State.putPort_gms (k : Nat) (v : PortSt) : (s.putPort k v).gms = s.gms := rfl
@[simp] theorem State.putPort_pages (k : Nat) (v : PortSt) : (s.putPort k v).pages = s.pages := rfl
@[simp] theorem State.putPort_caps (k : Nat) (v : PortSt) : (s.putPort k v).caps = s.caps := rfl
@[simp] theorem State.putPort_router (k : Nat) (v : PortSt) : (s.putPort k v).router = s.router := rfl
@[simp] theorem State.putPort_icx (k : Nat) (v : PortSt) : (s.putPort k v).icx = s.icx := rfl
@[simp] theorem State.putPort_cores (k : Nat) (v : PortSt) : (s.putPort k v).cores = s.cores := rfl
@[simp] theorem State.putPort_pairs (k : Nat) (v : PortSt) : (s.putPort k v).pairs = s.pairs := rfl
@[simp] theorem State.putPort_shroud (k : Nat) (v : PortSt) : (s.putPort k v).shroud = s.shroud := rfl
@[simp] theorem State.putPort_engines (k : Nat) (v : PortSt) : (s.putPort k v).engines = s.engines := rfl
@[simp] theorem State.putPort_ctxs (k : Nat) (v : PortSt) : (s.putPort k v).ctxs = s.ctxs := rfl
@[simp] theorem State.putPort_samples (k : Nat) (v : PortSt) : (s.putPort k v).samples = s.samples := rfl
@[simp] theorem State.putPort_adcs (k : Nat) (v : PortSt) : (s.putPort k v).adcs = s.adcs := rfl
@[simp] theorem State.putPort_sdms (k : Nat) (v : PortSt) : (s.putPort k v).sdms = s.sdms := rfl
@[simp] theorem State.putPort_cmps (k : Nat) (v : PortSt) : (s.putPort k v).cmps = s.cmps := rfl
@[simp] theorem State.putPort_sensors (k : Nat) (v : PortSt) : (s.putPort k v).sensors = s.sensors := rfl
@[simp] theorem State.putPort_pwms (k : Nat) (v : PortSt) : (s.putPort k v).pwms = s.pwms := rfl
@[simp] theorem State.putPort_chans (k : Nat) (v : PortSt) : (s.putPort k v).chans = s.chans := rfl
@[simp] theorem State.putPort_groups (k : Nat) (v : PortSt) : (s.putPort k v).groups = s.groups := rfl
@[simp] theorem State.putPort_hvs (k : Nat) (v : PortSt) : (s.putPort k v).hvs = s.hvs := rfl
@[simp] theorem State.putPort_lvdrv (k : Nat) (v : PortSt) : (s.putPort k v).lvdrv = s.lvdrv := rfl
@[simp] theorem State.putPort_twls (k : Nat) (v : PortSt) : (s.putPort k v).twls = s.twls := rfl
@[simp] theorem State.putPort_encs (k : Nat) (v : PortSt) : (s.putPort k v).encs = s.encs := rfl
@[simp] theorem State.putPort_halls (k : Nat) (v : PortSt) : (s.putPort k v).halls = s.halls := rfl
@[simp] theorem State.putPort_dcdc (k : Nat) (v : PortSt) : (s.putPort k v).dcdc = s.dcdc := rfl
@[simp] theorem State.putPort_obc (k : Nat) (v : PortSt) : (s.putPort k v).obc = s.obc := rfl
@[simp] theorem State.putPort_lamps (k : Nat) (v : PortSt) : (s.putPort k v).lamps = s.lamps := rfl
@[simp] theorem State.putPort_acts (k : Nat) (v : PortSt) : (s.putPort k v).acts = s.acts := rfl
@[simp] theorem State.putPort_ctr (k : Nat) (v : PortSt) : (s.putPort k v).ctr = s.ctr := rfl
@[simp] theorem State.putPort_rings (k : Nat) (v : PortSt) : (s.putPort k v).rings = s.rings := rfl
@[simp] theorem State.putPort_zcors (k : Nat) (v : PortSt) : (s.putPort k v).zcors = s.zcors := rfl
@[simp] theorem State.putPort_twin (k : Nat) (v : PortSt) : (s.putPort k v).twin = s.twin := rfl
@[simp] theorem State.putPort_net (k : Nat) (v : PortSt) : (s.putPort k v).net = s.net := rfl
@[simp] theorem State.putPort_reg (k : Nat) (v : PortSt) (a : Nat) : (s.putPort k v).reg a = s.reg a := rfl
theorem State.cap_putCap (k : Nat) (v : CapHid) (j : Nat) : (s.putCap k v).cap j = if j = k then v else s.cap j := Store.get_put _ s.caps k j v
@[simp] theorem State.cap_putCap_self (k : Nat) (v : CapHid) : (s.putCap k v).cap k = v := by simp [State.cap_putCap]
@[simp] theorem State.putCap_pending (k : Nat) (v : CapHid) : (s.putCap k v).pending = s.pending := rfl
@[simp] theorem State.putCap_regs (k : Nat) (v : CapHid) : (s.putCap k v).regs = s.regs := rfl
@[simp] theorem State.putCap_mem (k : Nat) (v : CapHid) : (s.putCap k v).mem = s.mem := rfl
@[simp] theorem State.putCap_free (k : Nat) (v : CapHid) : (s.putCap k v).free = s.free := rfl
@[simp] theorem State.putCap_pwr (k : Nat) (v : CapHid) : (s.putCap k v).pwr = s.pwr := rfl
@[simp] theorem State.putCap_pins (k : Nat) (v : CapHid) : (s.putCap k v).pins = s.pins := rfl
@[simp] theorem State.putCap_kept (k : Nat) (v : CapHid) : (s.putCap k v).kept = s.kept := rfl
@[simp] theorem State.putCap_gms (k : Nat) (v : CapHid) : (s.putCap k v).gms = s.gms := rfl
@[simp] theorem State.putCap_pages (k : Nat) (v : CapHid) : (s.putCap k v).pages = s.pages := rfl
@[simp] theorem State.putCap_ports (k : Nat) (v : CapHid) : (s.putCap k v).ports = s.ports := rfl
@[simp] theorem State.putCap_router (k : Nat) (v : CapHid) : (s.putCap k v).router = s.router := rfl
@[simp] theorem State.putCap_icx (k : Nat) (v : CapHid) : (s.putCap k v).icx = s.icx := rfl
@[simp] theorem State.putCap_cores (k : Nat) (v : CapHid) : (s.putCap k v).cores = s.cores := rfl
@[simp] theorem State.putCap_pairs (k : Nat) (v : CapHid) : (s.putCap k v).pairs = s.pairs := rfl
@[simp] theorem State.putCap_shroud (k : Nat) (v : CapHid) : (s.putCap k v).shroud = s.shroud := rfl
@[simp] theorem State.putCap_engines (k : Nat) (v : CapHid) : (s.putCap k v).engines = s.engines := rfl
@[simp] theorem State.putCap_ctxs (k : Nat) (v : CapHid) : (s.putCap k v).ctxs = s.ctxs := rfl
@[simp] theorem State.putCap_samples (k : Nat) (v : CapHid) : (s.putCap k v).samples = s.samples := rfl
@[simp] theorem State.putCap_adcs (k : Nat) (v : CapHid) : (s.putCap k v).adcs = s.adcs := rfl
@[simp] theorem State.putCap_sdms (k : Nat) (v : CapHid) : (s.putCap k v).sdms = s.sdms := rfl
@[simp] theorem State.putCap_cmps (k : Nat) (v : CapHid) : (s.putCap k v).cmps = s.cmps := rfl
@[simp] theorem State.putCap_sensors (k : Nat) (v : CapHid) : (s.putCap k v).sensors = s.sensors := rfl
@[simp] theorem State.putCap_pwms (k : Nat) (v : CapHid) : (s.putCap k v).pwms = s.pwms := rfl
@[simp] theorem State.putCap_chans (k : Nat) (v : CapHid) : (s.putCap k v).chans = s.chans := rfl
@[simp] theorem State.putCap_groups (k : Nat) (v : CapHid) : (s.putCap k v).groups = s.groups := rfl
@[simp] theorem State.putCap_hvs (k : Nat) (v : CapHid) : (s.putCap k v).hvs = s.hvs := rfl
@[simp] theorem State.putCap_lvdrv (k : Nat) (v : CapHid) : (s.putCap k v).lvdrv = s.lvdrv := rfl
@[simp] theorem State.putCap_twls (k : Nat) (v : CapHid) : (s.putCap k v).twls = s.twls := rfl
@[simp] theorem State.putCap_encs (k : Nat) (v : CapHid) : (s.putCap k v).encs = s.encs := rfl
@[simp] theorem State.putCap_halls (k : Nat) (v : CapHid) : (s.putCap k v).halls = s.halls := rfl
@[simp] theorem State.putCap_dcdc (k : Nat) (v : CapHid) : (s.putCap k v).dcdc = s.dcdc := rfl
@[simp] theorem State.putCap_obc (k : Nat) (v : CapHid) : (s.putCap k v).obc = s.obc := rfl
@[simp] theorem State.putCap_lamps (k : Nat) (v : CapHid) : (s.putCap k v).lamps = s.lamps := rfl
@[simp] theorem State.putCap_acts (k : Nat) (v : CapHid) : (s.putCap k v).acts = s.acts := rfl
@[simp] theorem State.putCap_ctr (k : Nat) (v : CapHid) : (s.putCap k v).ctr = s.ctr := rfl
@[simp] theorem State.putCap_rings (k : Nat) (v : CapHid) : (s.putCap k v).rings = s.rings := rfl
@[simp] theorem State.putCap_zcors (k : Nat) (v : CapHid) : (s.putCap k v).zcors = s.zcors := rfl
@[simp] theorem State.putCap_twin (k : Nat) (v : CapHid) : (s.putCap k v).twin = s.twin := rfl
@[simp] theorem State.putCap_net (k : Nat) (v : CapHid) : (s.putCap k v).net = s.net := rfl
@[simp] theorem State.putCap_reg (k : Nat) (v : CapHid) (a : Nat) : (s.putCap k v).reg a = s.reg a := rfl
theorem State.core_putCore (k : Nat) (v : Core) (j : Nat) : (s.putCore k v).core j = if j = k then v else s.core j := Store.get_put _ s.cores k j v
@[simp] theorem State.core_putCore_self (k : Nat) (v : Core) : (s.putCore k v).core k = v := by simp [State.core_putCore]
@[simp] theorem State.putCore_pending (k : Nat) (v : Core) : (s.putCore k v).pending = s.pending := rfl
@[simp] theorem State.putCore_regs (k : Nat) (v : Core) : (s.putCore k v).regs = s.regs := rfl
@[simp] theorem State.putCore_mem (k : Nat) (v : Core) : (s.putCore k v).mem = s.mem := rfl
@[simp] theorem State.putCore_free (k : Nat) (v : Core) : (s.putCore k v).free = s.free := rfl
@[simp] theorem State.putCore_pwr (k : Nat) (v : Core) : (s.putCore k v).pwr = s.pwr := rfl
@[simp] theorem State.putCore_pins (k : Nat) (v : Core) : (s.putCore k v).pins = s.pins := rfl
@[simp] theorem State.putCore_kept (k : Nat) (v : Core) : (s.putCore k v).kept = s.kept := rfl
@[simp] theorem State.putCore_gms (k : Nat) (v : Core) : (s.putCore k v).gms = s.gms := rfl
@[simp] theorem State.putCore_pages (k : Nat) (v : Core) : (s.putCore k v).pages = s.pages := rfl
@[simp] theorem State.putCore_ports (k : Nat) (v : Core) : (s.putCore k v).ports = s.ports := rfl
@[simp] theorem State.putCore_caps (k : Nat) (v : Core) : (s.putCore k v).caps = s.caps := rfl
@[simp] theorem State.putCore_router (k : Nat) (v : Core) : (s.putCore k v).router = s.router := rfl
@[simp] theorem State.putCore_icx (k : Nat) (v : Core) : (s.putCore k v).icx = s.icx := rfl
@[simp] theorem State.putCore_pairs (k : Nat) (v : Core) : (s.putCore k v).pairs = s.pairs := rfl
@[simp] theorem State.putCore_shroud (k : Nat) (v : Core) : (s.putCore k v).shroud = s.shroud := rfl
@[simp] theorem State.putCore_engines (k : Nat) (v : Core) : (s.putCore k v).engines = s.engines := rfl
@[simp] theorem State.putCore_ctxs (k : Nat) (v : Core) : (s.putCore k v).ctxs = s.ctxs := rfl
@[simp] theorem State.putCore_samples (k : Nat) (v : Core) : (s.putCore k v).samples = s.samples := rfl
@[simp] theorem State.putCore_adcs (k : Nat) (v : Core) : (s.putCore k v).adcs = s.adcs := rfl
@[simp] theorem State.putCore_sdms (k : Nat) (v : Core) : (s.putCore k v).sdms = s.sdms := rfl
@[simp] theorem State.putCore_cmps (k : Nat) (v : Core) : (s.putCore k v).cmps = s.cmps := rfl
@[simp] theorem State.putCore_sensors (k : Nat) (v : Core) : (s.putCore k v).sensors = s.sensors := rfl
@[simp] theorem State.putCore_pwms (k : Nat) (v : Core) : (s.putCore k v).pwms = s.pwms := rfl
@[simp] theorem State.putCore_chans (k : Nat) (v : Core) : (s.putCore k v).chans = s.chans := rfl
@[simp] theorem State.putCore_groups (k : Nat) (v : Core) : (s.putCore k v).groups = s.groups := rfl
@[simp] theorem State.putCore_hvs (k : Nat) (v : Core) : (s.putCore k v).hvs = s.hvs := rfl
@[simp] theorem State.putCore_lvdrv (k : Nat) (v : Core) : (s.putCore k v).lvdrv = s.lvdrv := rfl
@[simp] theorem State.putCore_twls (k : Nat) (v : Core) : (s.putCore k v).twls = s.twls := rfl
@[simp] theorem State.putCore_encs (k : Nat) (v : Core) : (s.putCore k v).encs = s.encs := rfl
@[simp] theorem State.putCore_halls (k : Nat) (v : Core) : (s.putCore k v).halls = s.halls := rfl
@[simp] theorem State.putCore_dcdc (k : Nat) (v : Core) : (s.putCore k v).dcdc = s.dcdc := rfl
@[simp] theorem State.putCore_obc (k : Nat) (v : Core) : (s.putCore k v).obc = s.obc := rfl
@[simp] theorem State.putCore_lamps (k : Nat) (v : Core) : (s.putCore k v).lamps = s.lamps := rfl
@[simp] theorem State.putCore_acts (k : Nat) (v : Core) : (s.putCore k v).acts = s.acts := rfl
@[simp] theorem State.putCore_ctr (k : Nat) (v : Core) : (s.putCore k v).ctr = s.ctr := rfl
@[simp] theorem State.putCore_rings (k : Nat) (v : Core) : (s.putCore k v).rings = s.rings := rfl
@[simp] theorem State.putCore_zcors (k : Nat) (v : Core) : (s.putCore k v).zcors = s.zcors := rfl
@[simp] theorem State.putCore_twin (k : Nat) (v : Core) : (s.putCore k v).twin = s.twin := rfl
@[simp] theorem State.putCore_net (k : Nat) (v : Core) : (s.putCore k v).net = s.net := rfl
@[simp] theorem State.putCore_reg (k : Nat) (v : Core) (a : Nat) : (s.putCore k v).reg a = s.reg a := rfl
theorem State.pair_putPair (k : Nat) (v : PairSt) (j : Nat) : (s.putPair k v).pair j = if j = k then v else s.pair j := Store.get_put _ s.pairs k j v
@[simp] theorem State.pair_putPair_self (k : Nat) (v : PairSt) : (s.putPair k v).pair k = v := by simp [State.pair_putPair]
@[simp] theorem State.putPair_pending (k : Nat) (v : PairSt) : (s.putPair k v).pending = s.pending := rfl
@[simp] theorem State.putPair_regs (k : Nat) (v : PairSt) : (s.putPair k v).regs = s.regs := rfl
@[simp] theorem State.putPair_mem (k : Nat) (v : PairSt) : (s.putPair k v).mem = s.mem := rfl
@[simp] theorem State.putPair_free (k : Nat) (v : PairSt) : (s.putPair k v).free = s.free := rfl
@[simp] theorem State.putPair_pwr (k : Nat) (v : PairSt) : (s.putPair k v).pwr = s.pwr := rfl
@[simp] theorem State.putPair_pins (k : Nat) (v : PairSt) : (s.putPair k v).pins = s.pins := rfl
@[simp] theorem State.putPair_kept (k : Nat) (v : PairSt) : (s.putPair k v).kept = s.kept := rfl
@[simp] theorem State.putPair_gms (k : Nat) (v : PairSt) : (s.putPair k v).gms = s.gms := rfl
@[simp] theorem State.putPair_pages (k : Nat) (v : PairSt) : (s.putPair k v).pages = s.pages := rfl
@[simp] theorem State.putPair_ports (k : Nat) (v : PairSt) : (s.putPair k v).ports = s.ports := rfl
@[simp] theorem State.putPair_caps (k : Nat) (v : PairSt) : (s.putPair k v).caps = s.caps := rfl
@[simp] theorem State.putPair_router (k : Nat) (v : PairSt) : (s.putPair k v).router = s.router := rfl
@[simp] theorem State.putPair_icx (k : Nat) (v : PairSt) : (s.putPair k v).icx = s.icx := rfl
@[simp] theorem State.putPair_cores (k : Nat) (v : PairSt) : (s.putPair k v).cores = s.cores := rfl
@[simp] theorem State.putPair_shroud (k : Nat) (v : PairSt) : (s.putPair k v).shroud = s.shroud := rfl
@[simp] theorem State.putPair_engines (k : Nat) (v : PairSt) : (s.putPair k v).engines = s.engines := rfl
@[simp] theorem State.putPair_ctxs (k : Nat) (v : PairSt) : (s.putPair k v).ctxs = s.ctxs := rfl
@[simp] theorem State.putPair_samples (k : Nat) (v : PairSt) : (s.putPair k v).samples = s.samples := rfl
@[simp] theorem State.putPair_adcs (k : Nat) (v : PairSt) : (s.putPair k v).adcs = s.adcs := rfl
@[simp] theorem State.putPair_sdms (k : Nat) (v : PairSt) : (s.putPair k v).sdms = s.sdms := rfl
@[simp] theorem State.putPair_cmps (k : Nat) (v : PairSt) : (s.putPair k v).cmps = s.cmps := rfl
@[simp] theorem State.putPair_sensors (k : Nat) (v : PairSt) : (s.putPair k v).sensors = s.sensors := rfl
@[simp] theorem State.putPair_pwms (k : Nat) (v : PairSt) : (s.putPair k v).pwms = s.pwms := rfl
@[simp] theorem State.putPair_chans (k : Nat) (v : PairSt) : (s.putPair k v).chans = s.chans := rfl
@[simp] theorem State.putPair_groups (k : Nat) (v : PairSt) : (s.putPair k v).groups = s.groups := rfl
@[simp] theorem State.putPair_hvs (k : Nat) (v : PairSt) : (s.putPair k v).hvs = s.hvs := rfl
@[simp] theorem State.putPair_lvdrv (k : Nat) (v : PairSt) : (s.putPair k v).lvdrv = s.lvdrv := rfl
@[simp] theorem State.putPair_twls (k : Nat) (v : PairSt) : (s.putPair k v).twls = s.twls := rfl
@[simp] theorem State.putPair_encs (k : Nat) (v : PairSt) : (s.putPair k v).encs = s.encs := rfl
@[simp] theorem State.putPair_halls (k : Nat) (v : PairSt) : (s.putPair k v).halls = s.halls := rfl
@[simp] theorem State.putPair_dcdc (k : Nat) (v : PairSt) : (s.putPair k v).dcdc = s.dcdc := rfl
@[simp] theorem State.putPair_obc (k : Nat) (v : PairSt) : (s.putPair k v).obc = s.obc := rfl
@[simp] theorem State.putPair_lamps (k : Nat) (v : PairSt) : (s.putPair k v).lamps = s.lamps := rfl
@[simp] theorem State.putPair_acts (k : Nat) (v : PairSt) : (s.putPair k v).acts = s.acts := rfl
@[simp] theorem State.putPair_ctr (k : Nat) (v : PairSt) : (s.putPair k v).ctr = s.ctr := rfl
@[simp] theorem State.putPair_rings (k : Nat) (v : PairSt) : (s.putPair k v).rings = s.rings := rfl
@[simp] theorem State.putPair_zcors (k : Nat) (v : PairSt) : (s.putPair k v).zcors = s.zcors := rfl
@[simp] theorem State.putPair_twin (k : Nat) (v : PairSt) : (s.putPair k v).twin = s.twin := rfl
@[simp] theorem State.putPair_net (k : Nat) (v : PairSt) : (s.putPair k v).net = s.net := rfl
@[simp] theorem State.putPair_reg (k : Nat) (v : PairSt) (a : Nat) : (s.putPair k v).reg a = s.reg a := rfl
theorem State.engine_putEngine (k : Nat) (v : Engine) (j : Nat) : (s.putEngine k v).engine j = if j = k then v else s.engine j := Store.get_put _ s.engines k j v
@[simp] theorem State.engine_putEngine_self (k : Nat) (v : Engine) : (s.putEngine k v).engine k = v := by simp [State.engine_putEngine]
@[simp] theorem State.putEngine_pending (k : Nat) (v : Engine) : (s.putEngine k v).pending = s.pending := rfl
@[simp] theorem State.putEngine_regs (k : Nat) (v : Engine) : (s.putEngine k v).regs = s.regs := rfl
@[simp] theorem State.putEngine_mem (k : Nat) (v : Engine) : (s.putEngine k v).mem = s.mem := rfl
@[simp] theorem State.putEngine_free (k : Nat) (v : Engine) : (s.putEngine k v).free = s.free := rfl
@[simp] theorem State.putEngine_pwr (k : Nat) (v : Engine) : (s.putEngine k v).pwr = s.pwr := rfl
@[simp] theorem State.putEngine_pins (k : Nat) (v : Engine) : (s.putEngine k v).pins = s.pins := rfl
@[simp] theorem State.putEngine_kept (k : Nat) (v : Engine) : (s.putEngine k v).kept = s.kept := rfl
@[simp] theorem State.putEngine_gms (k : Nat) (v : Engine) : (s.putEngine k v).gms = s.gms := rfl
@[simp] theorem State.putEngine_pages (k : Nat) (v : Engine) : (s.putEngine k v).pages = s.pages := rfl
@[simp] theorem State.putEngine_ports (k : Nat) (v : Engine) : (s.putEngine k v).ports = s.ports := rfl
@[simp] theorem State.putEngine_caps (k : Nat) (v : Engine) : (s.putEngine k v).caps = s.caps := rfl
@[simp] theorem State.putEngine_router (k : Nat) (v : Engine) : (s.putEngine k v).router = s.router := rfl
@[simp] theorem State.putEngine_icx (k : Nat) (v : Engine) : (s.putEngine k v).icx = s.icx := rfl
@[simp] theorem State.putEngine_cores (k : Nat) (v : Engine) : (s.putEngine k v).cores = s.cores := rfl
@[simp] theorem State.putEngine_pairs (k : Nat) (v : Engine) : (s.putEngine k v).pairs = s.pairs := rfl
@[simp] theorem State.putEngine_shroud (k : Nat) (v : Engine) : (s.putEngine k v).shroud = s.shroud := rfl
@[simp] theorem State.putEngine_ctxs (k : Nat) (v : Engine) : (s.putEngine k v).ctxs = s.ctxs := rfl
@[simp] theorem State.putEngine_samples (k : Nat) (v : Engine) : (s.putEngine k v).samples = s.samples := rfl
@[simp] theorem State.putEngine_adcs (k : Nat) (v : Engine) : (s.putEngine k v).adcs = s.adcs := rfl
@[simp] theorem State.putEngine_sdms (k : Nat) (v : Engine) : (s.putEngine k v).sdms = s.sdms := rfl
@[simp] theorem State.putEngine_cmps (k : Nat) (v : Engine) : (s.putEngine k v).cmps = s.cmps := rfl
@[simp] theorem State.putEngine_sensors (k : Nat) (v : Engine) : (s.putEngine k v).sensors = s.sensors := rfl
@[simp] theorem State.putEngine_pwms (k : Nat) (v : Engine) : (s.putEngine k v).pwms = s.pwms := rfl
@[simp] theorem State.putEngine_chans (k : Nat) (v : Engine) : (s.putEngine k v).chans = s.chans := rfl
@[simp] theorem State.putEngine_groups (k : Nat) (v : Engine) : (s.putEngine k v).groups = s.groups := rfl
@[simp] theorem State.putEngine_hvs (k : Nat) (v : Engine) : (s.putEngine k v).hvs = s.hvs := rfl
@[simp] theorem State.putEngine_lvdrv (k : Nat) (v : Engine) : (s.putEngine k v).lvdrv = s.lvdrv := rfl
@[simp] theorem State.putEngine_twls (k : Nat) (v : Engine) : (s.putEngine k v).twls = s.twls := rfl
@[simp] theorem State.putEngine_encs (k : Nat) (v : Engine) : (s.putEngine k v).encs = s.encs := rfl
@[simp] theorem State.putEngine_halls (k : Nat) (v : Engine) : (s.putEngine k v).halls = s.halls := rfl
@[simp] theorem State.putEngine_dcdc (k : Nat) (v : Engine) : (s.putEngine k v).dcdc = s.dcdc := rfl
@[simp] theorem State.putEngine_obc (k : Nat) (v : Engine) : (s.putEngine k v).obc = s.obc := rfl
@[simp] theorem State.putEngine_lamps (k : Nat) (v : Engine) : (s.putEngine k v).lamps = s.lamps := rfl
@[simp] theorem State.putEngine_acts (k : Nat) (v : Engine) : (s.putEngine k v).acts = s.acts := rfl
@[simp] theorem State.putEngine_ctr (k : Nat) (v : Engine) : (s.putEngine k v).ctr = s.ctr := rfl
@[simp] theorem State.putEngine_rings (k : Nat) (v : Engine) : (s.putEngine k v).rings = s.rings := rfl
@[simp] theorem State.putEngine_zcors (k : Nat) (v : Engine) : (s.putEngine k v).zcors = s.zcors := rfl
@[simp] theorem State.putEngine_twin (k : Nat) (v : Engine) : (s.putEngine k v).twin = s.twin := rfl
@[simp] theorem State.putEngine_net (k : Nat) (v : Engine) : (s.putEngine k v).net = s.net := rfl
@[simp] theorem State.putEngine_reg (k : Nat) (v : Engine) (a : Nat) : (s.putEngine k v).reg a = s.reg a := rfl
theorem State.ctx_putCtx (k : Nat) (v : Ctx) (j : Nat) : (s.putCtx k v).ctx j = if j = k then v else s.ctx j := Store.get_put _ s.ctxs k j v
@[simp] theorem State.ctx_putCtx_self (k : Nat) (v : Ctx) : (s.putCtx k v).ctx k = v := by simp [State.ctx_putCtx]
@[simp] theorem State.putCtx_pending (k : Nat) (v : Ctx) : (s.putCtx k v).pending = s.pending := rfl
@[simp] theorem State.putCtx_regs (k : Nat) (v : Ctx) : (s.putCtx k v).regs = s.regs := rfl
@[simp] theorem State.putCtx_mem (k : Nat) (v : Ctx) : (s.putCtx k v).mem = s.mem := rfl
@[simp] theorem State.putCtx_free (k : Nat) (v : Ctx) : (s.putCtx k v).free = s.free := rfl
@[simp] theorem State.putCtx_pwr (k : Nat) (v : Ctx) : (s.putCtx k v).pwr = s.pwr := rfl
@[simp] theorem State.putCtx_pins (k : Nat) (v : Ctx) : (s.putCtx k v).pins = s.pins := rfl
@[simp] theorem State.putCtx_kept (k : Nat) (v : Ctx) : (s.putCtx k v).kept = s.kept := rfl
@[simp] theorem State.putCtx_gms (k : Nat) (v : Ctx) : (s.putCtx k v).gms = s.gms := rfl
@[simp] theorem State.putCtx_pages (k : Nat) (v : Ctx) : (s.putCtx k v).pages = s.pages := rfl
@[simp] theorem State.putCtx_ports (k : Nat) (v : Ctx) : (s.putCtx k v).ports = s.ports := rfl
@[simp] theorem State.putCtx_caps (k : Nat) (v : Ctx) : (s.putCtx k v).caps = s.caps := rfl
@[simp] theorem State.putCtx_router (k : Nat) (v : Ctx) : (s.putCtx k v).router = s.router := rfl
@[simp] theorem State.putCtx_icx (k : Nat) (v : Ctx) : (s.putCtx k v).icx = s.icx := rfl
@[simp] theorem State.putCtx_cores (k : Nat) (v : Ctx) : (s.putCtx k v).cores = s.cores := rfl
@[simp] theorem State.putCtx_pairs (k : Nat) (v : Ctx) : (s.putCtx k v).pairs = s.pairs := rfl
@[simp] theorem State.putCtx_shroud (k : Nat) (v : Ctx) : (s.putCtx k v).shroud = s.shroud := rfl
@[simp] theorem State.putCtx_engines (k : Nat) (v : Ctx) : (s.putCtx k v).engines = s.engines := rfl
@[simp] theorem State.putCtx_samples (k : Nat) (v : Ctx) : (s.putCtx k v).samples = s.samples := rfl
@[simp] theorem State.putCtx_adcs (k : Nat) (v : Ctx) : (s.putCtx k v).adcs = s.adcs := rfl
@[simp] theorem State.putCtx_sdms (k : Nat) (v : Ctx) : (s.putCtx k v).sdms = s.sdms := rfl
@[simp] theorem State.putCtx_cmps (k : Nat) (v : Ctx) : (s.putCtx k v).cmps = s.cmps := rfl
@[simp] theorem State.putCtx_sensors (k : Nat) (v : Ctx) : (s.putCtx k v).sensors = s.sensors := rfl
@[simp] theorem State.putCtx_pwms (k : Nat) (v : Ctx) : (s.putCtx k v).pwms = s.pwms := rfl
@[simp] theorem State.putCtx_chans (k : Nat) (v : Ctx) : (s.putCtx k v).chans = s.chans := rfl
@[simp] theorem State.putCtx_groups (k : Nat) (v : Ctx) : (s.putCtx k v).groups = s.groups := rfl
@[simp] theorem State.putCtx_hvs (k : Nat) (v : Ctx) : (s.putCtx k v).hvs = s.hvs := rfl
@[simp] theorem State.putCtx_lvdrv (k : Nat) (v : Ctx) : (s.putCtx k v).lvdrv = s.lvdrv := rfl
@[simp] theorem State.putCtx_twls (k : Nat) (v : Ctx) : (s.putCtx k v).twls = s.twls := rfl
@[simp] theorem State.putCtx_encs (k : Nat) (v : Ctx) : (s.putCtx k v).encs = s.encs := rfl
@[simp] theorem State.putCtx_halls (k : Nat) (v : Ctx) : (s.putCtx k v).halls = s.halls := rfl
@[simp] theorem State.putCtx_dcdc (k : Nat) (v : Ctx) : (s.putCtx k v).dcdc = s.dcdc := rfl
@[simp] theorem State.putCtx_obc (k : Nat) (v : Ctx) : (s.putCtx k v).obc = s.obc := rfl
@[simp] theorem State.putCtx_lamps (k : Nat) (v : Ctx) : (s.putCtx k v).lamps = s.lamps := rfl
@[simp] theorem State.putCtx_acts (k : Nat) (v : Ctx) : (s.putCtx k v).acts = s.acts := rfl
@[simp] theorem State.putCtx_ctr (k : Nat) (v : Ctx) : (s.putCtx k v).ctr = s.ctr := rfl
@[simp] theorem State.putCtx_rings (k : Nat) (v : Ctx) : (s.putCtx k v).rings = s.rings := rfl
@[simp] theorem State.putCtx_zcors (k : Nat) (v : Ctx) : (s.putCtx k v).zcors = s.zcors := rfl
@[simp] theorem State.putCtx_twin (k : Nat) (v : Ctx) : (s.putCtx k v).twin = s.twin := rfl
@[simp] theorem State.putCtx_net (k : Nat) (v : Ctx) : (s.putCtx k v).net = s.net := rfl
@[simp] theorem State.putCtx_reg (k : Nat) (v : Ctx) (a : Nat) : (s.putCtx k v).reg a = s.reg a := rfl
theorem State.word_putSample (k : Nat) (v : Sample) (j : Nat) : (s.putSample k v).word j = if j = k then v else s.word j := Store.get_put _ s.samples k j v
@[simp] theorem State.word_putSample_self (k : Nat) (v : Sample) : (s.putSample k v).word k = v := by simp [State.word_putSample]
@[simp] theorem State.putSample_pending (k : Nat) (v : Sample) : (s.putSample k v).pending = s.pending := rfl
@[simp] theorem State.putSample_regs (k : Nat) (v : Sample) : (s.putSample k v).regs = s.regs := rfl
@[simp] theorem State.putSample_mem (k : Nat) (v : Sample) : (s.putSample k v).mem = s.mem := rfl
@[simp] theorem State.putSample_free (k : Nat) (v : Sample) : (s.putSample k v).free = s.free := rfl
@[simp] theorem State.putSample_pwr (k : Nat) (v : Sample) : (s.putSample k v).pwr = s.pwr := rfl
@[simp] theorem State.putSample_pins (k : Nat) (v : Sample) : (s.putSample k v).pins = s.pins := rfl
@[simp] theorem State.putSample_kept (k : Nat) (v : Sample) : (s.putSample k v).kept = s.kept := rfl
@[simp] theorem State.putSample_gms (k : Nat) (v : Sample) : (s.putSample k v).gms = s.gms := rfl
@[simp] theorem State.putSample_pages (k : Nat) (v : Sample) : (s.putSample k v).pages = s.pages := rfl
@[simp] theorem State.putSample_ports (k : Nat) (v : Sample) : (s.putSample k v).ports = s.ports := rfl
@[simp] theorem State.putSample_caps (k : Nat) (v : Sample) : (s.putSample k v).caps = s.caps := rfl
@[simp] theorem State.putSample_router (k : Nat) (v : Sample) : (s.putSample k v).router = s.router := rfl
@[simp] theorem State.putSample_icx (k : Nat) (v : Sample) : (s.putSample k v).icx = s.icx := rfl
@[simp] theorem State.putSample_cores (k : Nat) (v : Sample) : (s.putSample k v).cores = s.cores := rfl
@[simp] theorem State.putSample_pairs (k : Nat) (v : Sample) : (s.putSample k v).pairs = s.pairs := rfl
@[simp] theorem State.putSample_shroud (k : Nat) (v : Sample) : (s.putSample k v).shroud = s.shroud := rfl
@[simp] theorem State.putSample_engines (k : Nat) (v : Sample) : (s.putSample k v).engines = s.engines := rfl
@[simp] theorem State.putSample_ctxs (k : Nat) (v : Sample) : (s.putSample k v).ctxs = s.ctxs := rfl
@[simp] theorem State.putSample_adcs (k : Nat) (v : Sample) : (s.putSample k v).adcs = s.adcs := rfl
@[simp] theorem State.putSample_sdms (k : Nat) (v : Sample) : (s.putSample k v).sdms = s.sdms := rfl
@[simp] theorem State.putSample_cmps (k : Nat) (v : Sample) : (s.putSample k v).cmps = s.cmps := rfl
@[simp] theorem State.putSample_sensors (k : Nat) (v : Sample) : (s.putSample k v).sensors = s.sensors := rfl
@[simp] theorem State.putSample_pwms (k : Nat) (v : Sample) : (s.putSample k v).pwms = s.pwms := rfl
@[simp] theorem State.putSample_chans (k : Nat) (v : Sample) : (s.putSample k v).chans = s.chans := rfl
@[simp] theorem State.putSample_groups (k : Nat) (v : Sample) : (s.putSample k v).groups = s.groups := rfl
@[simp] theorem State.putSample_hvs (k : Nat) (v : Sample) : (s.putSample k v).hvs = s.hvs := rfl
@[simp] theorem State.putSample_lvdrv (k : Nat) (v : Sample) : (s.putSample k v).lvdrv = s.lvdrv := rfl
@[simp] theorem State.putSample_twls (k : Nat) (v : Sample) : (s.putSample k v).twls = s.twls := rfl
@[simp] theorem State.putSample_encs (k : Nat) (v : Sample) : (s.putSample k v).encs = s.encs := rfl
@[simp] theorem State.putSample_halls (k : Nat) (v : Sample) : (s.putSample k v).halls = s.halls := rfl
@[simp] theorem State.putSample_dcdc (k : Nat) (v : Sample) : (s.putSample k v).dcdc = s.dcdc := rfl
@[simp] theorem State.putSample_obc (k : Nat) (v : Sample) : (s.putSample k v).obc = s.obc := rfl
@[simp] theorem State.putSample_lamps (k : Nat) (v : Sample) : (s.putSample k v).lamps = s.lamps := rfl
@[simp] theorem State.putSample_acts (k : Nat) (v : Sample) : (s.putSample k v).acts = s.acts := rfl
@[simp] theorem State.putSample_ctr (k : Nat) (v : Sample) : (s.putSample k v).ctr = s.ctr := rfl
@[simp] theorem State.putSample_rings (k : Nat) (v : Sample) : (s.putSample k v).rings = s.rings := rfl
@[simp] theorem State.putSample_zcors (k : Nat) (v : Sample) : (s.putSample k v).zcors = s.zcors := rfl
@[simp] theorem State.putSample_twin (k : Nat) (v : Sample) : (s.putSample k v).twin = s.twin := rfl
@[simp] theorem State.putSample_net (k : Nat) (v : Sample) : (s.putSample k v).net = s.net := rfl
@[simp] theorem State.putSample_reg (k : Nat) (v : Sample) (a : Nat) : (s.putSample k v).reg a = s.reg a := rfl
theorem State.adc_putAdc (k : Nat) (v : AdcSeq) (j : Nat) : (s.putAdc k v).adc j = if j = k then v else s.adc j := Store.get_put _ s.adcs k j v
@[simp] theorem State.adc_putAdc_self (k : Nat) (v : AdcSeq) : (s.putAdc k v).adc k = v := by simp [State.adc_putAdc]
@[simp] theorem State.putAdc_pending (k : Nat) (v : AdcSeq) : (s.putAdc k v).pending = s.pending := rfl
@[simp] theorem State.putAdc_regs (k : Nat) (v : AdcSeq) : (s.putAdc k v).regs = s.regs := rfl
@[simp] theorem State.putAdc_mem (k : Nat) (v : AdcSeq) : (s.putAdc k v).mem = s.mem := rfl
@[simp] theorem State.putAdc_free (k : Nat) (v : AdcSeq) : (s.putAdc k v).free = s.free := rfl
@[simp] theorem State.putAdc_pwr (k : Nat) (v : AdcSeq) : (s.putAdc k v).pwr = s.pwr := rfl
@[simp] theorem State.putAdc_pins (k : Nat) (v : AdcSeq) : (s.putAdc k v).pins = s.pins := rfl
@[simp] theorem State.putAdc_kept (k : Nat) (v : AdcSeq) : (s.putAdc k v).kept = s.kept := rfl
@[simp] theorem State.putAdc_gms (k : Nat) (v : AdcSeq) : (s.putAdc k v).gms = s.gms := rfl
@[simp] theorem State.putAdc_pages (k : Nat) (v : AdcSeq) : (s.putAdc k v).pages = s.pages := rfl
@[simp] theorem State.putAdc_ports (k : Nat) (v : AdcSeq) : (s.putAdc k v).ports = s.ports := rfl
@[simp] theorem State.putAdc_caps (k : Nat) (v : AdcSeq) : (s.putAdc k v).caps = s.caps := rfl
@[simp] theorem State.putAdc_router (k : Nat) (v : AdcSeq) : (s.putAdc k v).router = s.router := rfl
@[simp] theorem State.putAdc_icx (k : Nat) (v : AdcSeq) : (s.putAdc k v).icx = s.icx := rfl
@[simp] theorem State.putAdc_cores (k : Nat) (v : AdcSeq) : (s.putAdc k v).cores = s.cores := rfl
@[simp] theorem State.putAdc_pairs (k : Nat) (v : AdcSeq) : (s.putAdc k v).pairs = s.pairs := rfl
@[simp] theorem State.putAdc_shroud (k : Nat) (v : AdcSeq) : (s.putAdc k v).shroud = s.shroud := rfl
@[simp] theorem State.putAdc_engines (k : Nat) (v : AdcSeq) : (s.putAdc k v).engines = s.engines := rfl
@[simp] theorem State.putAdc_ctxs (k : Nat) (v : AdcSeq) : (s.putAdc k v).ctxs = s.ctxs := rfl
@[simp] theorem State.putAdc_samples (k : Nat) (v : AdcSeq) : (s.putAdc k v).samples = s.samples := rfl
@[simp] theorem State.putAdc_sdms (k : Nat) (v : AdcSeq) : (s.putAdc k v).sdms = s.sdms := rfl
@[simp] theorem State.putAdc_cmps (k : Nat) (v : AdcSeq) : (s.putAdc k v).cmps = s.cmps := rfl
@[simp] theorem State.putAdc_sensors (k : Nat) (v : AdcSeq) : (s.putAdc k v).sensors = s.sensors := rfl
@[simp] theorem State.putAdc_pwms (k : Nat) (v : AdcSeq) : (s.putAdc k v).pwms = s.pwms := rfl
@[simp] theorem State.putAdc_chans (k : Nat) (v : AdcSeq) : (s.putAdc k v).chans = s.chans := rfl
@[simp] theorem State.putAdc_groups (k : Nat) (v : AdcSeq) : (s.putAdc k v).groups = s.groups := rfl
@[simp] theorem State.putAdc_hvs (k : Nat) (v : AdcSeq) : (s.putAdc k v).hvs = s.hvs := rfl
@[simp] theorem State.putAdc_lvdrv (k : Nat) (v : AdcSeq) : (s.putAdc k v).lvdrv = s.lvdrv := rfl
@[simp] theorem State.putAdc_twls (k : Nat) (v : AdcSeq) : (s.putAdc k v).twls = s.twls := rfl
@[simp] theorem State.putAdc_encs (k : Nat) (v : AdcSeq) : (s.putAdc k v).encs = s.encs := rfl
@[simp] theorem State.putAdc_halls (k : Nat) (v : AdcSeq) : (s.putAdc k v).halls = s.halls := rfl
@[simp] theorem State.putAdc_dcdc (k : Nat) (v : AdcSeq) : (s.putAdc k v).dcdc = s.dcdc := rfl
@[simp] theorem State.putAdc_obc (k : Nat) (v : AdcSeq) : (s.putAdc k v).obc = s.obc := rfl
@[simp] theorem State.putAdc_lamps (k : Nat) (v : AdcSeq) : (s.putAdc k v).lamps = s.lamps := rfl
@[simp] theorem State.putAdc_acts (k : Nat) (v : AdcSeq) : (s.putAdc k v).acts = s.acts := rfl
@[simp] theorem State.putAdc_ctr (k : Nat) (v : AdcSeq) : (s.putAdc k v).ctr = s.ctr := rfl
@[simp] theorem State.putAdc_rings (k : Nat) (v : AdcSeq) : (s.putAdc k v).rings = s.rings := rfl
@[simp] theorem State.putAdc_zcors (k : Nat) (v : AdcSeq) : (s.putAdc k v).zcors = s.zcors := rfl
@[simp] theorem State.putAdc_twin (k : Nat) (v : AdcSeq) : (s.putAdc k v).twin = s.twin := rfl
@[simp] theorem State.putAdc_net (k : Nat) (v : AdcSeq) : (s.putAdc k v).net = s.net := rfl
@[simp] theorem State.putAdc_reg (k : Nat) (v : AdcSeq) (a : Nat) : (s.putAdc k v).reg a = s.reg a := rfl
theorem State.sdm_putSdm (k : Nat) (v : Sdm) (j : Nat) : (s.putSdm k v).sdm j = if j = k then v else s.sdm j := Store.get_put _ s.sdms k j v
@[simp] theorem State.sdm_putSdm_self (k : Nat) (v : Sdm) : (s.putSdm k v).sdm k = v := by simp [State.sdm_putSdm]
@[simp] theorem State.putSdm_pending (k : Nat) (v : Sdm) : (s.putSdm k v).pending = s.pending := rfl
@[simp] theorem State.putSdm_regs (k : Nat) (v : Sdm) : (s.putSdm k v).regs = s.regs := rfl
@[simp] theorem State.putSdm_mem (k : Nat) (v : Sdm) : (s.putSdm k v).mem = s.mem := rfl
@[simp] theorem State.putSdm_free (k : Nat) (v : Sdm) : (s.putSdm k v).free = s.free := rfl
@[simp] theorem State.putSdm_pwr (k : Nat) (v : Sdm) : (s.putSdm k v).pwr = s.pwr := rfl
@[simp] theorem State.putSdm_pins (k : Nat) (v : Sdm) : (s.putSdm k v).pins = s.pins := rfl
@[simp] theorem State.putSdm_kept (k : Nat) (v : Sdm) : (s.putSdm k v).kept = s.kept := rfl
@[simp] theorem State.putSdm_gms (k : Nat) (v : Sdm) : (s.putSdm k v).gms = s.gms := rfl
@[simp] theorem State.putSdm_pages (k : Nat) (v : Sdm) : (s.putSdm k v).pages = s.pages := rfl
@[simp] theorem State.putSdm_ports (k : Nat) (v : Sdm) : (s.putSdm k v).ports = s.ports := rfl
@[simp] theorem State.putSdm_caps (k : Nat) (v : Sdm) : (s.putSdm k v).caps = s.caps := rfl
@[simp] theorem State.putSdm_router (k : Nat) (v : Sdm) : (s.putSdm k v).router = s.router := rfl
@[simp] theorem State.putSdm_icx (k : Nat) (v : Sdm) : (s.putSdm k v).icx = s.icx := rfl
@[simp] theorem State.putSdm_cores (k : Nat) (v : Sdm) : (s.putSdm k v).cores = s.cores := rfl
@[simp] theorem State.putSdm_pairs (k : Nat) (v : Sdm) : (s.putSdm k v).pairs = s.pairs := rfl
@[simp] theorem State.putSdm_shroud (k : Nat) (v : Sdm) : (s.putSdm k v).shroud = s.shroud := rfl
@[simp] theorem State.putSdm_engines (k : Nat) (v : Sdm) : (s.putSdm k v).engines = s.engines := rfl
@[simp] theorem State.putSdm_ctxs (k : Nat) (v : Sdm) : (s.putSdm k v).ctxs = s.ctxs := rfl
@[simp] theorem State.putSdm_samples (k : Nat) (v : Sdm) : (s.putSdm k v).samples = s.samples := rfl
@[simp] theorem State.putSdm_adcs (k : Nat) (v : Sdm) : (s.putSdm k v).adcs = s.adcs := rfl
@[simp] theorem State.putSdm_cmps (k : Nat) (v : Sdm) : (s.putSdm k v).cmps = s.cmps := rfl
@[simp] theorem State.putSdm_sensors (k : Nat) (v : Sdm) : (s.putSdm k v).sensors = s.sensors := rfl
@[simp] theorem State.putSdm_pwms (k : Nat) (v : Sdm) : (s.putSdm k v).pwms = s.pwms := rfl
@[simp] theorem State.putSdm_chans (k : Nat) (v : Sdm) : (s.putSdm k v).chans = s.chans := rfl
@[simp] theorem State.putSdm_groups (k : Nat) (v : Sdm) : (s.putSdm k v).groups = s.groups := rfl
@[simp] theorem State.putSdm_hvs (k : Nat) (v : Sdm) : (s.putSdm k v).hvs = s.hvs := rfl
@[simp] theorem State.putSdm_lvdrv (k : Nat) (v : Sdm) : (s.putSdm k v).lvdrv = s.lvdrv := rfl
@[simp] theorem State.putSdm_twls (k : Nat) (v : Sdm) : (s.putSdm k v).twls = s.twls := rfl
@[simp] theorem State.putSdm_encs (k : Nat) (v : Sdm) : (s.putSdm k v).encs = s.encs := rfl
@[simp] theorem State.putSdm_halls (k : Nat) (v : Sdm) : (s.putSdm k v).halls = s.halls := rfl
@[simp] theorem State.putSdm_dcdc (k : Nat) (v : Sdm) : (s.putSdm k v).dcdc = s.dcdc := rfl
@[simp] theorem State.putSdm_obc (k : Nat) (v : Sdm) : (s.putSdm k v).obc = s.obc := rfl
@[simp] theorem State.putSdm_lamps (k : Nat) (v : Sdm) : (s.putSdm k v).lamps = s.lamps := rfl
@[simp] theorem State.putSdm_acts (k : Nat) (v : Sdm) : (s.putSdm k v).acts = s.acts := rfl
@[simp] theorem State.putSdm_ctr (k : Nat) (v : Sdm) : (s.putSdm k v).ctr = s.ctr := rfl
@[simp] theorem State.putSdm_rings (k : Nat) (v : Sdm) : (s.putSdm k v).rings = s.rings := rfl
@[simp] theorem State.putSdm_zcors (k : Nat) (v : Sdm) : (s.putSdm k v).zcors = s.zcors := rfl
@[simp] theorem State.putSdm_twin (k : Nat) (v : Sdm) : (s.putSdm k v).twin = s.twin := rfl
@[simp] theorem State.putSdm_net (k : Nat) (v : Sdm) : (s.putSdm k v).net = s.net := rfl
@[simp] theorem State.putSdm_reg (k : Nat) (v : Sdm) (a : Nat) : (s.putSdm k v).reg a = s.reg a := rfl
theorem State.cmp_putCmp (k : Nat) (v : Cmp) (j : Nat) : (s.putCmp k v).cmp j = if j = k then v else s.cmp j := Store.get_put _ s.cmps k j v
@[simp] theorem State.cmp_putCmp_self (k : Nat) (v : Cmp) : (s.putCmp k v).cmp k = v := by simp [State.cmp_putCmp]
@[simp] theorem State.putCmp_pending (k : Nat) (v : Cmp) : (s.putCmp k v).pending = s.pending := rfl
@[simp] theorem State.putCmp_regs (k : Nat) (v : Cmp) : (s.putCmp k v).regs = s.regs := rfl
@[simp] theorem State.putCmp_mem (k : Nat) (v : Cmp) : (s.putCmp k v).mem = s.mem := rfl
@[simp] theorem State.putCmp_free (k : Nat) (v : Cmp) : (s.putCmp k v).free = s.free := rfl
@[simp] theorem State.putCmp_pwr (k : Nat) (v : Cmp) : (s.putCmp k v).pwr = s.pwr := rfl
@[simp] theorem State.putCmp_pins (k : Nat) (v : Cmp) : (s.putCmp k v).pins = s.pins := rfl
@[simp] theorem State.putCmp_kept (k : Nat) (v : Cmp) : (s.putCmp k v).kept = s.kept := rfl
@[simp] theorem State.putCmp_gms (k : Nat) (v : Cmp) : (s.putCmp k v).gms = s.gms := rfl
@[simp] theorem State.putCmp_pages (k : Nat) (v : Cmp) : (s.putCmp k v).pages = s.pages := rfl
@[simp] theorem State.putCmp_ports (k : Nat) (v : Cmp) : (s.putCmp k v).ports = s.ports := rfl
@[simp] theorem State.putCmp_caps (k : Nat) (v : Cmp) : (s.putCmp k v).caps = s.caps := rfl
@[simp] theorem State.putCmp_router (k : Nat) (v : Cmp) : (s.putCmp k v).router = s.router := rfl
@[simp] theorem State.putCmp_icx (k : Nat) (v : Cmp) : (s.putCmp k v).icx = s.icx := rfl
@[simp] theorem State.putCmp_cores (k : Nat) (v : Cmp) : (s.putCmp k v).cores = s.cores := rfl
@[simp] theorem State.putCmp_pairs (k : Nat) (v : Cmp) : (s.putCmp k v).pairs = s.pairs := rfl
@[simp] theorem State.putCmp_shroud (k : Nat) (v : Cmp) : (s.putCmp k v).shroud = s.shroud := rfl
@[simp] theorem State.putCmp_engines (k : Nat) (v : Cmp) : (s.putCmp k v).engines = s.engines := rfl
@[simp] theorem State.putCmp_ctxs (k : Nat) (v : Cmp) : (s.putCmp k v).ctxs = s.ctxs := rfl
@[simp] theorem State.putCmp_samples (k : Nat) (v : Cmp) : (s.putCmp k v).samples = s.samples := rfl
@[simp] theorem State.putCmp_adcs (k : Nat) (v : Cmp) : (s.putCmp k v).adcs = s.adcs := rfl
@[simp] theorem State.putCmp_sdms (k : Nat) (v : Cmp) : (s.putCmp k v).sdms = s.sdms := rfl
@[simp] theorem State.putCmp_sensors (k : Nat) (v : Cmp) : (s.putCmp k v).sensors = s.sensors := rfl
@[simp] theorem State.putCmp_pwms (k : Nat) (v : Cmp) : (s.putCmp k v).pwms = s.pwms := rfl
@[simp] theorem State.putCmp_chans (k : Nat) (v : Cmp) : (s.putCmp k v).chans = s.chans := rfl
@[simp] theorem State.putCmp_groups (k : Nat) (v : Cmp) : (s.putCmp k v).groups = s.groups := rfl
@[simp] theorem State.putCmp_hvs (k : Nat) (v : Cmp) : (s.putCmp k v).hvs = s.hvs := rfl
@[simp] theorem State.putCmp_lvdrv (k : Nat) (v : Cmp) : (s.putCmp k v).lvdrv = s.lvdrv := rfl
@[simp] theorem State.putCmp_twls (k : Nat) (v : Cmp) : (s.putCmp k v).twls = s.twls := rfl
@[simp] theorem State.putCmp_encs (k : Nat) (v : Cmp) : (s.putCmp k v).encs = s.encs := rfl
@[simp] theorem State.putCmp_halls (k : Nat) (v : Cmp) : (s.putCmp k v).halls = s.halls := rfl
@[simp] theorem State.putCmp_dcdc (k : Nat) (v : Cmp) : (s.putCmp k v).dcdc = s.dcdc := rfl
@[simp] theorem State.putCmp_obc (k : Nat) (v : Cmp) : (s.putCmp k v).obc = s.obc := rfl
@[simp] theorem State.putCmp_lamps (k : Nat) (v : Cmp) : (s.putCmp k v).lamps = s.lamps := rfl
@[simp] theorem State.putCmp_acts (k : Nat) (v : Cmp) : (s.putCmp k v).acts = s.acts := rfl
@[simp] theorem State.putCmp_ctr (k : Nat) (v : Cmp) : (s.putCmp k v).ctr = s.ctr := rfl
@[simp] theorem State.putCmp_rings (k : Nat) (v : Cmp) : (s.putCmp k v).rings = s.rings := rfl
@[simp] theorem State.putCmp_zcors (k : Nat) (v : Cmp) : (s.putCmp k v).zcors = s.zcors := rfl
@[simp] theorem State.putCmp_twin (k : Nat) (v : Cmp) : (s.putCmp k v).twin = s.twin := rfl
@[simp] theorem State.putCmp_net (k : Nat) (v : Cmp) : (s.putCmp k v).net = s.net := rfl
@[simp] theorem State.putCmp_reg (k : Nat) (v : Cmp) (a : Nat) : (s.putCmp k v).reg a = s.reg a := rfl
theorem State.sensor_putSensor (k : Nat) (v : Sensor) (j : Nat) : (s.putSensor k v).sensor j = if j = k then v else s.sensor j := Store.get_put _ s.sensors k j v
@[simp] theorem State.sensor_putSensor_self (k : Nat) (v : Sensor) : (s.putSensor k v).sensor k = v := by simp [State.sensor_putSensor]
@[simp] theorem State.putSensor_pending (k : Nat) (v : Sensor) : (s.putSensor k v).pending = s.pending := rfl
@[simp] theorem State.putSensor_regs (k : Nat) (v : Sensor) : (s.putSensor k v).regs = s.regs := rfl
@[simp] theorem State.putSensor_mem (k : Nat) (v : Sensor) : (s.putSensor k v).mem = s.mem := rfl
@[simp] theorem State.putSensor_free (k : Nat) (v : Sensor) : (s.putSensor k v).free = s.free := rfl
@[simp] theorem State.putSensor_pwr (k : Nat) (v : Sensor) : (s.putSensor k v).pwr = s.pwr := rfl
@[simp] theorem State.putSensor_pins (k : Nat) (v : Sensor) : (s.putSensor k v).pins = s.pins := rfl
@[simp] theorem State.putSensor_kept (k : Nat) (v : Sensor) : (s.putSensor k v).kept = s.kept := rfl
@[simp] theorem State.putSensor_gms (k : Nat) (v : Sensor) : (s.putSensor k v).gms = s.gms := rfl
@[simp] theorem State.putSensor_pages (k : Nat) (v : Sensor) : (s.putSensor k v).pages = s.pages := rfl
@[simp] theorem State.putSensor_ports (k : Nat) (v : Sensor) : (s.putSensor k v).ports = s.ports := rfl
@[simp] theorem State.putSensor_caps (k : Nat) (v : Sensor) : (s.putSensor k v).caps = s.caps := rfl
@[simp] theorem State.putSensor_router (k : Nat) (v : Sensor) : (s.putSensor k v).router = s.router := rfl
@[simp] theorem State.putSensor_icx (k : Nat) (v : Sensor) : (s.putSensor k v).icx = s.icx := rfl
@[simp] theorem State.putSensor_cores (k : Nat) (v : Sensor) : (s.putSensor k v).cores = s.cores := rfl
@[simp] theorem State.putSensor_pairs (k : Nat) (v : Sensor) : (s.putSensor k v).pairs = s.pairs := rfl
@[simp] theorem State.putSensor_shroud (k : Nat) (v : Sensor) : (s.putSensor k v).shroud = s.shroud := rfl
@[simp] theorem State.putSensor_engines (k : Nat) (v : Sensor) : (s.putSensor k v).engines = s.engines := rfl
@[simp] theorem State.putSensor_ctxs (k : Nat) (v : Sensor) : (s.putSensor k v).ctxs = s.ctxs := rfl
@[simp] theorem State.putSensor_samples (k : Nat) (v : Sensor) : (s.putSensor k v).samples = s.samples := rfl
@[simp] theorem State.putSensor_adcs (k : Nat) (v : Sensor) : (s.putSensor k v).adcs = s.adcs := rfl
@[simp] theorem State.putSensor_sdms (k : Nat) (v : Sensor) : (s.putSensor k v).sdms = s.sdms := rfl
@[simp] theorem State.putSensor_cmps (k : Nat) (v : Sensor) : (s.putSensor k v).cmps = s.cmps := rfl
@[simp] theorem State.putSensor_pwms (k : Nat) (v : Sensor) : (s.putSensor k v).pwms = s.pwms := rfl
@[simp] theorem State.putSensor_chans (k : Nat) (v : Sensor) : (s.putSensor k v).chans = s.chans := rfl
@[simp] theorem State.putSensor_groups (k : Nat) (v : Sensor) : (s.putSensor k v).groups = s.groups := rfl
@[simp] theorem State.putSensor_hvs (k : Nat) (v : Sensor) : (s.putSensor k v).hvs = s.hvs := rfl
@[simp] theorem State.putSensor_lvdrv (k : Nat) (v : Sensor) : (s.putSensor k v).lvdrv = s.lvdrv := rfl
@[simp] theorem State.putSensor_twls (k : Nat) (v : Sensor) : (s.putSensor k v).twls = s.twls := rfl
@[simp] theorem State.putSensor_encs (k : Nat) (v : Sensor) : (s.putSensor k v).encs = s.encs := rfl
@[simp] theorem State.putSensor_halls (k : Nat) (v : Sensor) : (s.putSensor k v).halls = s.halls := rfl
@[simp] theorem State.putSensor_dcdc (k : Nat) (v : Sensor) : (s.putSensor k v).dcdc = s.dcdc := rfl
@[simp] theorem State.putSensor_obc (k : Nat) (v : Sensor) : (s.putSensor k v).obc = s.obc := rfl
@[simp] theorem State.putSensor_lamps (k : Nat) (v : Sensor) : (s.putSensor k v).lamps = s.lamps := rfl
@[simp] theorem State.putSensor_acts (k : Nat) (v : Sensor) : (s.putSensor k v).acts = s.acts := rfl
@[simp] theorem State.putSensor_ctr (k : Nat) (v : Sensor) : (s.putSensor k v).ctr = s.ctr := rfl
@[simp] theorem State.putSensor_rings (k : Nat) (v : Sensor) : (s.putSensor k v).rings = s.rings := rfl
@[simp] theorem State.putSensor_zcors (k : Nat) (v : Sensor) : (s.putSensor k v).zcors = s.zcors := rfl
@[simp] theorem State.putSensor_twin (k : Nat) (v : Sensor) : (s.putSensor k v).twin = s.twin := rfl
@[simp] theorem State.putSensor_net (k : Nat) (v : Sensor) : (s.putSensor k v).net = s.net := rfl
@[simp] theorem State.putSensor_reg (k : Nat) (v : Sensor) (a : Nat) : (s.putSensor k v).reg a = s.reg a := rfl
theorem State.pwm_putPwm (k : Nat) (v : Pwm) (j : Nat) : (s.putPwm k v).pwm j = if j = k then v else s.pwm j := Store.get_put _ s.pwms k j v
@[simp] theorem State.pwm_putPwm_self (k : Nat) (v : Pwm) : (s.putPwm k v).pwm k = v := by simp [State.pwm_putPwm]
@[simp] theorem State.putPwm_pending (k : Nat) (v : Pwm) : (s.putPwm k v).pending = s.pending := rfl
@[simp] theorem State.putPwm_regs (k : Nat) (v : Pwm) : (s.putPwm k v).regs = s.regs := rfl
@[simp] theorem State.putPwm_mem (k : Nat) (v : Pwm) : (s.putPwm k v).mem = s.mem := rfl
@[simp] theorem State.putPwm_free (k : Nat) (v : Pwm) : (s.putPwm k v).free = s.free := rfl
@[simp] theorem State.putPwm_pwr (k : Nat) (v : Pwm) : (s.putPwm k v).pwr = s.pwr := rfl
@[simp] theorem State.putPwm_pins (k : Nat) (v : Pwm) : (s.putPwm k v).pins = s.pins := rfl
@[simp] theorem State.putPwm_kept (k : Nat) (v : Pwm) : (s.putPwm k v).kept = s.kept := rfl
@[simp] theorem State.putPwm_gms (k : Nat) (v : Pwm) : (s.putPwm k v).gms = s.gms := rfl
@[simp] theorem State.putPwm_pages (k : Nat) (v : Pwm) : (s.putPwm k v).pages = s.pages := rfl
@[simp] theorem State.putPwm_ports (k : Nat) (v : Pwm) : (s.putPwm k v).ports = s.ports := rfl
@[simp] theorem State.putPwm_caps (k : Nat) (v : Pwm) : (s.putPwm k v).caps = s.caps := rfl
@[simp] theorem State.putPwm_router (k : Nat) (v : Pwm) : (s.putPwm k v).router = s.router := rfl
@[simp] theorem State.putPwm_icx (k : Nat) (v : Pwm) : (s.putPwm k v).icx = s.icx := rfl
@[simp] theorem State.putPwm_cores (k : Nat) (v : Pwm) : (s.putPwm k v).cores = s.cores := rfl
@[simp] theorem State.putPwm_pairs (k : Nat) (v : Pwm) : (s.putPwm k v).pairs = s.pairs := rfl
@[simp] theorem State.putPwm_shroud (k : Nat) (v : Pwm) : (s.putPwm k v).shroud = s.shroud := rfl
@[simp] theorem State.putPwm_engines (k : Nat) (v : Pwm) : (s.putPwm k v).engines = s.engines := rfl
@[simp] theorem State.putPwm_ctxs (k : Nat) (v : Pwm) : (s.putPwm k v).ctxs = s.ctxs := rfl
@[simp] theorem State.putPwm_samples (k : Nat) (v : Pwm) : (s.putPwm k v).samples = s.samples := rfl
@[simp] theorem State.putPwm_adcs (k : Nat) (v : Pwm) : (s.putPwm k v).adcs = s.adcs := rfl
@[simp] theorem State.putPwm_sdms (k : Nat) (v : Pwm) : (s.putPwm k v).sdms = s.sdms := rfl
@[simp] theorem State.putPwm_cmps (k : Nat) (v : Pwm) : (s.putPwm k v).cmps = s.cmps := rfl
@[simp] theorem State.putPwm_sensors (k : Nat) (v : Pwm) : (s.putPwm k v).sensors = s.sensors := rfl
@[simp] theorem State.putPwm_chans (k : Nat) (v : Pwm) : (s.putPwm k v).chans = s.chans := rfl
@[simp] theorem State.putPwm_groups (k : Nat) (v : Pwm) : (s.putPwm k v).groups = s.groups := rfl
@[simp] theorem State.putPwm_hvs (k : Nat) (v : Pwm) : (s.putPwm k v).hvs = s.hvs := rfl
@[simp] theorem State.putPwm_lvdrv (k : Nat) (v : Pwm) : (s.putPwm k v).lvdrv = s.lvdrv := rfl
@[simp] theorem State.putPwm_twls (k : Nat) (v : Pwm) : (s.putPwm k v).twls = s.twls := rfl
@[simp] theorem State.putPwm_encs (k : Nat) (v : Pwm) : (s.putPwm k v).encs = s.encs := rfl
@[simp] theorem State.putPwm_halls (k : Nat) (v : Pwm) : (s.putPwm k v).halls = s.halls := rfl
@[simp] theorem State.putPwm_dcdc (k : Nat) (v : Pwm) : (s.putPwm k v).dcdc = s.dcdc := rfl
@[simp] theorem State.putPwm_obc (k : Nat) (v : Pwm) : (s.putPwm k v).obc = s.obc := rfl
@[simp] theorem State.putPwm_lamps (k : Nat) (v : Pwm) : (s.putPwm k v).lamps = s.lamps := rfl
@[simp] theorem State.putPwm_acts (k : Nat) (v : Pwm) : (s.putPwm k v).acts = s.acts := rfl
@[simp] theorem State.putPwm_ctr (k : Nat) (v : Pwm) : (s.putPwm k v).ctr = s.ctr := rfl
@[simp] theorem State.putPwm_rings (k : Nat) (v : Pwm) : (s.putPwm k v).rings = s.rings := rfl
@[simp] theorem State.putPwm_zcors (k : Nat) (v : Pwm) : (s.putPwm k v).zcors = s.zcors := rfl
@[simp] theorem State.putPwm_twin (k : Nat) (v : Pwm) : (s.putPwm k v).twin = s.twin := rfl
@[simp] theorem State.putPwm_net (k : Nat) (v : Pwm) : (s.putPwm k v).net = s.net := rfl
@[simp] theorem State.putPwm_reg (k : Nat) (v : Pwm) (a : Nat) : (s.putPwm k v).reg a = s.reg a := rfl
theorem State.chan_putChan (k : Nat) (v : Chan) (j : Nat) : (s.putChan k v).chan j = if j = k then v else s.chan j := Store.get_put _ s.chans k j v
@[simp] theorem State.chan_putChan_self (k : Nat) (v : Chan) : (s.putChan k v).chan k = v := by simp [State.chan_putChan]
@[simp] theorem State.putChan_pending (k : Nat) (v : Chan) : (s.putChan k v).pending = s.pending := rfl
@[simp] theorem State.putChan_regs (k : Nat) (v : Chan) : (s.putChan k v).regs = s.regs := rfl
@[simp] theorem State.putChan_mem (k : Nat) (v : Chan) : (s.putChan k v).mem = s.mem := rfl
@[simp] theorem State.putChan_free (k : Nat) (v : Chan) : (s.putChan k v).free = s.free := rfl
@[simp] theorem State.putChan_pwr (k : Nat) (v : Chan) : (s.putChan k v).pwr = s.pwr := rfl
@[simp] theorem State.putChan_pins (k : Nat) (v : Chan) : (s.putChan k v).pins = s.pins := rfl
@[simp] theorem State.putChan_kept (k : Nat) (v : Chan) : (s.putChan k v).kept = s.kept := rfl
@[simp] theorem State.putChan_gms (k : Nat) (v : Chan) : (s.putChan k v).gms = s.gms := rfl
@[simp] theorem State.putChan_pages (k : Nat) (v : Chan) : (s.putChan k v).pages = s.pages := rfl
@[simp] theorem State.putChan_ports (k : Nat) (v : Chan) : (s.putChan k v).ports = s.ports := rfl
@[simp] theorem State.putChan_caps (k : Nat) (v : Chan) : (s.putChan k v).caps = s.caps := rfl
@[simp] theorem State.putChan_router (k : Nat) (v : Chan) : (s.putChan k v).router = s.router := rfl
@[simp] theorem State.putChan_icx (k : Nat) (v : Chan) : (s.putChan k v).icx = s.icx := rfl
@[simp] theorem State.putChan_cores (k : Nat) (v : Chan) : (s.putChan k v).cores = s.cores := rfl
@[simp] theorem State.putChan_pairs (k : Nat) (v : Chan) : (s.putChan k v).pairs = s.pairs := rfl
@[simp] theorem State.putChan_shroud (k : Nat) (v : Chan) : (s.putChan k v).shroud = s.shroud := rfl
@[simp] theorem State.putChan_engines (k : Nat) (v : Chan) : (s.putChan k v).engines = s.engines := rfl
@[simp] theorem State.putChan_ctxs (k : Nat) (v : Chan) : (s.putChan k v).ctxs = s.ctxs := rfl
@[simp] theorem State.putChan_samples (k : Nat) (v : Chan) : (s.putChan k v).samples = s.samples := rfl
@[simp] theorem State.putChan_adcs (k : Nat) (v : Chan) : (s.putChan k v).adcs = s.adcs := rfl
@[simp] theorem State.putChan_sdms (k : Nat) (v : Chan) : (s.putChan k v).sdms = s.sdms := rfl
@[simp] theorem State.putChan_cmps (k : Nat) (v : Chan) : (s.putChan k v).cmps = s.cmps := rfl
@[simp] theorem State.putChan_sensors (k : Nat) (v : Chan) : (s.putChan k v).sensors = s.sensors := rfl
@[simp] theorem State.putChan_pwms (k : Nat) (v : Chan) : (s.putChan k v).pwms = s.pwms := rfl
@[simp] theorem State.putChan_groups (k : Nat) (v : Chan) : (s.putChan k v).groups = s.groups := rfl
@[simp] theorem State.putChan_hvs (k : Nat) (v : Chan) : (s.putChan k v).hvs = s.hvs := rfl
@[simp] theorem State.putChan_lvdrv (k : Nat) (v : Chan) : (s.putChan k v).lvdrv = s.lvdrv := rfl
@[simp] theorem State.putChan_twls (k : Nat) (v : Chan) : (s.putChan k v).twls = s.twls := rfl
@[simp] theorem State.putChan_encs (k : Nat) (v : Chan) : (s.putChan k v).encs = s.encs := rfl
@[simp] theorem State.putChan_halls (k : Nat) (v : Chan) : (s.putChan k v).halls = s.halls := rfl
@[simp] theorem State.putChan_dcdc (k : Nat) (v : Chan) : (s.putChan k v).dcdc = s.dcdc := rfl
@[simp] theorem State.putChan_obc (k : Nat) (v : Chan) : (s.putChan k v).obc = s.obc := rfl
@[simp] theorem State.putChan_lamps (k : Nat) (v : Chan) : (s.putChan k v).lamps = s.lamps := rfl
@[simp] theorem State.putChan_acts (k : Nat) (v : Chan) : (s.putChan k v).acts = s.acts := rfl
@[simp] theorem State.putChan_ctr (k : Nat) (v : Chan) : (s.putChan k v).ctr = s.ctr := rfl
@[simp] theorem State.putChan_rings (k : Nat) (v : Chan) : (s.putChan k v).rings = s.rings := rfl
@[simp] theorem State.putChan_zcors (k : Nat) (v : Chan) : (s.putChan k v).zcors = s.zcors := rfl
@[simp] theorem State.putChan_twin (k : Nat) (v : Chan) : (s.putChan k v).twin = s.twin := rfl
@[simp] theorem State.putChan_net (k : Nat) (v : Chan) : (s.putChan k v).net = s.net := rfl
@[simp] theorem State.putChan_reg (k : Nat) (v : Chan) (a : Nat) : (s.putChan k v).reg a = s.reg a := rfl
theorem State.group_putGroup (k : Nat) (v : Group) (j : Nat) : (s.putGroup k v).group j = if j = k then v else s.group j := Store.get_put _ s.groups k j v
@[simp] theorem State.group_putGroup_self (k : Nat) (v : Group) : (s.putGroup k v).group k = v := by simp [State.group_putGroup]
@[simp] theorem State.putGroup_pending (k : Nat) (v : Group) : (s.putGroup k v).pending = s.pending := rfl
@[simp] theorem State.putGroup_regs (k : Nat) (v : Group) : (s.putGroup k v).regs = s.regs := rfl
@[simp] theorem State.putGroup_mem (k : Nat) (v : Group) : (s.putGroup k v).mem = s.mem := rfl
@[simp] theorem State.putGroup_free (k : Nat) (v : Group) : (s.putGroup k v).free = s.free := rfl
@[simp] theorem State.putGroup_pwr (k : Nat) (v : Group) : (s.putGroup k v).pwr = s.pwr := rfl
@[simp] theorem State.putGroup_pins (k : Nat) (v : Group) : (s.putGroup k v).pins = s.pins := rfl
@[simp] theorem State.putGroup_kept (k : Nat) (v : Group) : (s.putGroup k v).kept = s.kept := rfl
@[simp] theorem State.putGroup_gms (k : Nat) (v : Group) : (s.putGroup k v).gms = s.gms := rfl
@[simp] theorem State.putGroup_pages (k : Nat) (v : Group) : (s.putGroup k v).pages = s.pages := rfl
@[simp] theorem State.putGroup_ports (k : Nat) (v : Group) : (s.putGroup k v).ports = s.ports := rfl
@[simp] theorem State.putGroup_caps (k : Nat) (v : Group) : (s.putGroup k v).caps = s.caps := rfl
@[simp] theorem State.putGroup_router (k : Nat) (v : Group) : (s.putGroup k v).router = s.router := rfl
@[simp] theorem State.putGroup_icx (k : Nat) (v : Group) : (s.putGroup k v).icx = s.icx := rfl
@[simp] theorem State.putGroup_cores (k : Nat) (v : Group) : (s.putGroup k v).cores = s.cores := rfl
@[simp] theorem State.putGroup_pairs (k : Nat) (v : Group) : (s.putGroup k v).pairs = s.pairs := rfl
@[simp] theorem State.putGroup_shroud (k : Nat) (v : Group) : (s.putGroup k v).shroud = s.shroud := rfl
@[simp] theorem State.putGroup_engines (k : Nat) (v : Group) : (s.putGroup k v).engines = s.engines := rfl
@[simp] theorem State.putGroup_ctxs (k : Nat) (v : Group) : (s.putGroup k v).ctxs = s.ctxs := rfl
@[simp] theorem State.putGroup_samples (k : Nat) (v : Group) : (s.putGroup k v).samples = s.samples := rfl
@[simp] theorem State.putGroup_adcs (k : Nat) (v : Group) : (s.putGroup k v).adcs = s.adcs := rfl
@[simp] theorem State.putGroup_sdms (k : Nat) (v : Group) : (s.putGroup k v).sdms = s.sdms := rfl
@[simp] theorem State.putGroup_cmps (k : Nat) (v : Group) : (s.putGroup k v).cmps = s.cmps := rfl
@[simp] theorem State.putGroup_sensors (k : Nat) (v : Group) : (s.putGroup k v).sensors = s.sensors := rfl
@[simp] theorem State.putGroup_pwms (k : Nat) (v : Group) : (s.putGroup k v).pwms = s.pwms := rfl
@[simp] theorem State.putGroup_chans (k : Nat) (v : Group) : (s.putGroup k v).chans = s.chans := rfl
@[simp] theorem State.putGroup_hvs (k : Nat) (v : Group) : (s.putGroup k v).hvs = s.hvs := rfl
@[simp] theorem State.putGroup_lvdrv (k : Nat) (v : Group) : (s.putGroup k v).lvdrv = s.lvdrv := rfl
@[simp] theorem State.putGroup_twls (k : Nat) (v : Group) : (s.putGroup k v).twls = s.twls := rfl
@[simp] theorem State.putGroup_encs (k : Nat) (v : Group) : (s.putGroup k v).encs = s.encs := rfl
@[simp] theorem State.putGroup_halls (k : Nat) (v : Group) : (s.putGroup k v).halls = s.halls := rfl
@[simp] theorem State.putGroup_dcdc (k : Nat) (v : Group) : (s.putGroup k v).dcdc = s.dcdc := rfl
@[simp] theorem State.putGroup_obc (k : Nat) (v : Group) : (s.putGroup k v).obc = s.obc := rfl
@[simp] theorem State.putGroup_lamps (k : Nat) (v : Group) : (s.putGroup k v).lamps = s.lamps := rfl
@[simp] theorem State.putGroup_acts (k : Nat) (v : Group) : (s.putGroup k v).acts = s.acts := rfl
@[simp] theorem State.putGroup_ctr (k : Nat) (v : Group) : (s.putGroup k v).ctr = s.ctr := rfl
@[simp] theorem State.putGroup_rings (k : Nat) (v : Group) : (s.putGroup k v).rings = s.rings := rfl
@[simp] theorem State.putGroup_zcors (k : Nat) (v : Group) : (s.putGroup k v).zcors = s.zcors := rfl
@[simp] theorem State.putGroup_twin (k : Nat) (v : Group) : (s.putGroup k v).twin = s.twin := rfl
@[simp] theorem State.putGroup_net (k : Nat) (v : Group) : (s.putGroup k v).net = s.net := rfl
@[simp] theorem State.putGroup_reg (k : Nat) (v : Group) (a : Nat) : (s.putGroup k v).reg a = s.reg a := rfl
theorem State.twl_putTwl (k : Nat) (v : Twl) (j : Nat) : (s.putTwl k v).twl j = if j = k then v else s.twl j := Store.get_put _ s.twls k j v
@[simp] theorem State.twl_putTwl_self (k : Nat) (v : Twl) : (s.putTwl k v).twl k = v := by simp [State.twl_putTwl]
@[simp] theorem State.putTwl_pending (k : Nat) (v : Twl) : (s.putTwl k v).pending = s.pending := rfl
@[simp] theorem State.putTwl_regs (k : Nat) (v : Twl) : (s.putTwl k v).regs = s.regs := rfl
@[simp] theorem State.putTwl_mem (k : Nat) (v : Twl) : (s.putTwl k v).mem = s.mem := rfl
@[simp] theorem State.putTwl_free (k : Nat) (v : Twl) : (s.putTwl k v).free = s.free := rfl
@[simp] theorem State.putTwl_pwr (k : Nat) (v : Twl) : (s.putTwl k v).pwr = s.pwr := rfl
@[simp] theorem State.putTwl_pins (k : Nat) (v : Twl) : (s.putTwl k v).pins = s.pins := rfl
@[simp] theorem State.putTwl_kept (k : Nat) (v : Twl) : (s.putTwl k v).kept = s.kept := rfl
@[simp] theorem State.putTwl_gms (k : Nat) (v : Twl) : (s.putTwl k v).gms = s.gms := rfl
@[simp] theorem State.putTwl_pages (k : Nat) (v : Twl) : (s.putTwl k v).pages = s.pages := rfl
@[simp] theorem State.putTwl_ports (k : Nat) (v : Twl) : (s.putTwl k v).ports = s.ports := rfl
@[simp] theorem State.putTwl_caps (k : Nat) (v : Twl) : (s.putTwl k v).caps = s.caps := rfl
@[simp] theorem State.putTwl_router (k : Nat) (v : Twl) : (s.putTwl k v).router = s.router := rfl
@[simp] theorem State.putTwl_icx (k : Nat) (v : Twl) : (s.putTwl k v).icx = s.icx := rfl
@[simp] theorem State.putTwl_cores (k : Nat) (v : Twl) : (s.putTwl k v).cores = s.cores := rfl
@[simp] theorem State.putTwl_pairs (k : Nat) (v : Twl) : (s.putTwl k v).pairs = s.pairs := rfl
@[simp] theorem State.putTwl_shroud (k : Nat) (v : Twl) : (s.putTwl k v).shroud = s.shroud := rfl
@[simp] theorem State.putTwl_engines (k : Nat) (v : Twl) : (s.putTwl k v).engines = s.engines := rfl
@[simp] theorem State.putTwl_ctxs (k : Nat) (v : Twl) : (s.putTwl k v).ctxs = s.ctxs := rfl
@[simp] theorem State.putTwl_samples (k : Nat) (v : Twl) : (s.putTwl k v).samples = s.samples := rfl
@[simp] theorem State.putTwl_adcs (k : Nat) (v : Twl) : (s.putTwl k v).adcs = s.adcs := rfl
@[simp] theorem State.putTwl_sdms (k : Nat) (v : Twl) : (s.putTwl k v).sdms = s.sdms := rfl
@[simp] theorem State.putTwl_cmps (k : Nat) (v : Twl) : (s.putTwl k v).cmps = s.cmps := rfl
@[simp] theorem State.putTwl_sensors (k : Nat) (v : Twl) : (s.putTwl k v).sensors = s.sensors := rfl
@[simp] theorem State.putTwl_pwms (k : Nat) (v : Twl) : (s.putTwl k v).pwms = s.pwms := rfl
@[simp] theorem State.putTwl_chans (k : Nat) (v : Twl) : (s.putTwl k v).chans = s.chans := rfl
@[simp] theorem State.putTwl_groups (k : Nat) (v : Twl) : (s.putTwl k v).groups = s.groups := rfl
@[simp] theorem State.putTwl_hvs (k : Nat) (v : Twl) : (s.putTwl k v).hvs = s.hvs := rfl
@[simp] theorem State.putTwl_lvdrv (k : Nat) (v : Twl) : (s.putTwl k v).lvdrv = s.lvdrv := rfl
@[simp] theorem State.putTwl_encs (k : Nat) (v : Twl) : (s.putTwl k v).encs = s.encs := rfl
@[simp] theorem State.putTwl_halls (k : Nat) (v : Twl) : (s.putTwl k v).halls = s.halls := rfl
@[simp] theorem State.putTwl_dcdc (k : Nat) (v : Twl) : (s.putTwl k v).dcdc = s.dcdc := rfl
@[simp] theorem State.putTwl_obc (k : Nat) (v : Twl) : (s.putTwl k v).obc = s.obc := rfl
@[simp] theorem State.putTwl_lamps (k : Nat) (v : Twl) : (s.putTwl k v).lamps = s.lamps := rfl
@[simp] theorem State.putTwl_acts (k : Nat) (v : Twl) : (s.putTwl k v).acts = s.acts := rfl
@[simp] theorem State.putTwl_ctr (k : Nat) (v : Twl) : (s.putTwl k v).ctr = s.ctr := rfl
@[simp] theorem State.putTwl_rings (k : Nat) (v : Twl) : (s.putTwl k v).rings = s.rings := rfl
@[simp] theorem State.putTwl_zcors (k : Nat) (v : Twl) : (s.putTwl k v).zcors = s.zcors := rfl
@[simp] theorem State.putTwl_twin (k : Nat) (v : Twl) : (s.putTwl k v).twin = s.twin := rfl
@[simp] theorem State.putTwl_net (k : Nat) (v : Twl) : (s.putTwl k v).net = s.net := rfl
@[simp] theorem State.putTwl_reg (k : Nat) (v : Twl) (a : Nat) : (s.putTwl k v).reg a = s.reg a := rfl
theorem State.enc_putEnc (k : Nat) (v : Enc) (j : Nat) : (s.putEnc k v).enc j = if j = k then v else s.enc j := Store.get_put _ s.encs k j v
@[simp] theorem State.enc_putEnc_self (k : Nat) (v : Enc) : (s.putEnc k v).enc k = v := by simp [State.enc_putEnc]
@[simp] theorem State.putEnc_pending (k : Nat) (v : Enc) : (s.putEnc k v).pending = s.pending := rfl
@[simp] theorem State.putEnc_regs (k : Nat) (v : Enc) : (s.putEnc k v).regs = s.regs := rfl
@[simp] theorem State.putEnc_mem (k : Nat) (v : Enc) : (s.putEnc k v).mem = s.mem := rfl
@[simp] theorem State.putEnc_free (k : Nat) (v : Enc) : (s.putEnc k v).free = s.free := rfl
@[simp] theorem State.putEnc_pwr (k : Nat) (v : Enc) : (s.putEnc k v).pwr = s.pwr := rfl
@[simp] theorem State.putEnc_pins (k : Nat) (v : Enc) : (s.putEnc k v).pins = s.pins := rfl
@[simp] theorem State.putEnc_kept (k : Nat) (v : Enc) : (s.putEnc k v).kept = s.kept := rfl
@[simp] theorem State.putEnc_gms (k : Nat) (v : Enc) : (s.putEnc k v).gms = s.gms := rfl
@[simp] theorem State.putEnc_pages (k : Nat) (v : Enc) : (s.putEnc k v).pages = s.pages := rfl
@[simp] theorem State.putEnc_ports (k : Nat) (v : Enc) : (s.putEnc k v).ports = s.ports := rfl
@[simp] theorem State.putEnc_caps (k : Nat) (v : Enc) : (s.putEnc k v).caps = s.caps := rfl
@[simp] theorem State.putEnc_router (k : Nat) (v : Enc) : (s.putEnc k v).router = s.router := rfl
@[simp] theorem State.putEnc_icx (k : Nat) (v : Enc) : (s.putEnc k v).icx = s.icx := rfl
@[simp] theorem State.putEnc_cores (k : Nat) (v : Enc) : (s.putEnc k v).cores = s.cores := rfl
@[simp] theorem State.putEnc_pairs (k : Nat) (v : Enc) : (s.putEnc k v).pairs = s.pairs := rfl
@[simp] theorem State.putEnc_shroud (k : Nat) (v : Enc) : (s.putEnc k v).shroud = s.shroud := rfl
@[simp] theorem State.putEnc_engines (k : Nat) (v : Enc) : (s.putEnc k v).engines = s.engines := rfl
@[simp] theorem State.putEnc_ctxs (k : Nat) (v : Enc) : (s.putEnc k v).ctxs = s.ctxs := rfl
@[simp] theorem State.putEnc_samples (k : Nat) (v : Enc) : (s.putEnc k v).samples = s.samples := rfl
@[simp] theorem State.putEnc_adcs (k : Nat) (v : Enc) : (s.putEnc k v).adcs = s.adcs := rfl
@[simp] theorem State.putEnc_sdms (k : Nat) (v : Enc) : (s.putEnc k v).sdms = s.sdms := rfl
@[simp] theorem State.putEnc_cmps (k : Nat) (v : Enc) : (s.putEnc k v).cmps = s.cmps := rfl
@[simp] theorem State.putEnc_sensors (k : Nat) (v : Enc) : (s.putEnc k v).sensors = s.sensors := rfl
@[simp] theorem State.putEnc_pwms (k : Nat) (v : Enc) : (s.putEnc k v).pwms = s.pwms := rfl
@[simp] theorem State.putEnc_chans (k : Nat) (v : Enc) : (s.putEnc k v).chans = s.chans := rfl
@[simp] theorem State.putEnc_groups (k : Nat) (v : Enc) : (s.putEnc k v).groups = s.groups := rfl
@[simp] theorem State.putEnc_hvs (k : Nat) (v : Enc) : (s.putEnc k v).hvs = s.hvs := rfl
@[simp] theorem State.putEnc_lvdrv (k : Nat) (v : Enc) : (s.putEnc k v).lvdrv = s.lvdrv := rfl
@[simp] theorem State.putEnc_twls (k : Nat) (v : Enc) : (s.putEnc k v).twls = s.twls := rfl
@[simp] theorem State.putEnc_halls (k : Nat) (v : Enc) : (s.putEnc k v).halls = s.halls := rfl
@[simp] theorem State.putEnc_dcdc (k : Nat) (v : Enc) : (s.putEnc k v).dcdc = s.dcdc := rfl
@[simp] theorem State.putEnc_obc (k : Nat) (v : Enc) : (s.putEnc k v).obc = s.obc := rfl
@[simp] theorem State.putEnc_lamps (k : Nat) (v : Enc) : (s.putEnc k v).lamps = s.lamps := rfl
@[simp] theorem State.putEnc_acts (k : Nat) (v : Enc) : (s.putEnc k v).acts = s.acts := rfl
@[simp] theorem State.putEnc_ctr (k : Nat) (v : Enc) : (s.putEnc k v).ctr = s.ctr := rfl
@[simp] theorem State.putEnc_rings (k : Nat) (v : Enc) : (s.putEnc k v).rings = s.rings := rfl
@[simp] theorem State.putEnc_zcors (k : Nat) (v : Enc) : (s.putEnc k v).zcors = s.zcors := rfl
@[simp] theorem State.putEnc_twin (k : Nat) (v : Enc) : (s.putEnc k v).twin = s.twin := rfl
@[simp] theorem State.putEnc_net (k : Nat) (v : Enc) : (s.putEnc k v).net = s.net := rfl
@[simp] theorem State.putEnc_reg (k : Nat) (v : Enc) (a : Nat) : (s.putEnc k v).reg a = s.reg a := rfl
theorem State.hall_putHall (k : Nat) (v : Hall) (j : Nat) : (s.putHall k v).hall j = if j = k then v else s.hall j := Store.get_put _ s.halls k j v
@[simp] theorem State.hall_putHall_self (k : Nat) (v : Hall) : (s.putHall k v).hall k = v := by simp [State.hall_putHall]
@[simp] theorem State.putHall_pending (k : Nat) (v : Hall) : (s.putHall k v).pending = s.pending := rfl
@[simp] theorem State.putHall_regs (k : Nat) (v : Hall) : (s.putHall k v).regs = s.regs := rfl
@[simp] theorem State.putHall_mem (k : Nat) (v : Hall) : (s.putHall k v).mem = s.mem := rfl
@[simp] theorem State.putHall_free (k : Nat) (v : Hall) : (s.putHall k v).free = s.free := rfl
@[simp] theorem State.putHall_pwr (k : Nat) (v : Hall) : (s.putHall k v).pwr = s.pwr := rfl
@[simp] theorem State.putHall_pins (k : Nat) (v : Hall) : (s.putHall k v).pins = s.pins := rfl
@[simp] theorem State.putHall_kept (k : Nat) (v : Hall) : (s.putHall k v).kept = s.kept := rfl
@[simp] theorem State.putHall_gms (k : Nat) (v : Hall) : (s.putHall k v).gms = s.gms := rfl
@[simp] theorem State.putHall_pages (k : Nat) (v : Hall) : (s.putHall k v).pages = s.pages := rfl
@[simp] theorem State.putHall_ports (k : Nat) (v : Hall) : (s.putHall k v).ports = s.ports := rfl
@[simp] theorem State.putHall_caps (k : Nat) (v : Hall) : (s.putHall k v).caps = s.caps := rfl
@[simp] theorem State.putHall_router (k : Nat) (v : Hall) : (s.putHall k v).router = s.router := rfl
@[simp] theorem State.putHall_icx (k : Nat) (v : Hall) : (s.putHall k v).icx = s.icx := rfl
@[simp] theorem State.putHall_cores (k : Nat) (v : Hall) : (s.putHall k v).cores = s.cores := rfl
@[simp] theorem State.putHall_pairs (k : Nat) (v : Hall) : (s.putHall k v).pairs = s.pairs := rfl
@[simp] theorem State.putHall_shroud (k : Nat) (v : Hall) : (s.putHall k v).shroud = s.shroud := rfl
@[simp] theorem State.putHall_engines (k : Nat) (v : Hall) : (s.putHall k v).engines = s.engines := rfl
@[simp] theorem State.putHall_ctxs (k : Nat) (v : Hall) : (s.putHall k v).ctxs = s.ctxs := rfl
@[simp] theorem State.putHall_samples (k : Nat) (v : Hall) : (s.putHall k v).samples = s.samples := rfl
@[simp] theorem State.putHall_adcs (k : Nat) (v : Hall) : (s.putHall k v).adcs = s.adcs := rfl
@[simp] theorem State.putHall_sdms (k : Nat) (v : Hall) : (s.putHall k v).sdms = s.sdms := rfl
@[simp] theorem State.putHall_cmps (k : Nat) (v : Hall) : (s.putHall k v).cmps = s.cmps := rfl
@[simp] theorem State.putHall_sensors (k : Nat) (v : Hall) : (s.putHall k v).sensors = s.sensors := rfl
@[simp] theorem State.putHall_pwms (k : Nat) (v : Hall) : (s.putHall k v).pwms = s.pwms := rfl
@[simp] theorem State.putHall_chans (k : Nat) (v : Hall) : (s.putHall k v).chans = s.chans := rfl
@[simp] theorem State.putHall_groups (k : Nat) (v : Hall) : (s.putHall k v).groups = s.groups := rfl
@[simp] theorem State.putHall_hvs (k : Nat) (v : Hall) : (s.putHall k v).hvs = s.hvs := rfl
@[simp] theorem State.putHall_lvdrv (k : Nat) (v : Hall) : (s.putHall k v).lvdrv = s.lvdrv := rfl
@[simp] theorem State.putHall_twls (k : Nat) (v : Hall) : (s.putHall k v).twls = s.twls := rfl
@[simp] theorem State.putHall_encs (k : Nat) (v : Hall) : (s.putHall k v).encs = s.encs := rfl
@[simp] theorem State.putHall_dcdc (k : Nat) (v : Hall) : (s.putHall k v).dcdc = s.dcdc := rfl
@[simp] theorem State.putHall_obc (k : Nat) (v : Hall) : (s.putHall k v).obc = s.obc := rfl
@[simp] theorem State.putHall_lamps (k : Nat) (v : Hall) : (s.putHall k v).lamps = s.lamps := rfl
@[simp] theorem State.putHall_acts (k : Nat) (v : Hall) : (s.putHall k v).acts = s.acts := rfl
@[simp] theorem State.putHall_ctr (k : Nat) (v : Hall) : (s.putHall k v).ctr = s.ctr := rfl
@[simp] theorem State.putHall_rings (k : Nat) (v : Hall) : (s.putHall k v).rings = s.rings := rfl
@[simp] theorem State.putHall_zcors (k : Nat) (v : Hall) : (s.putHall k v).zcors = s.zcors := rfl
@[simp] theorem State.putHall_twin (k : Nat) (v : Hall) : (s.putHall k v).twin = s.twin := rfl
@[simp] theorem State.putHall_net (k : Nat) (v : Hall) : (s.putHall k v).net = s.net := rfl
@[simp] theorem State.putHall_reg (k : Nat) (v : Hall) (a : Nat) : (s.putHall k v).reg a = s.reg a := rfl
theorem State.lamp_putLamp (k : Nat) (v : Lamp) (j : Nat) : (s.putLamp k v).lamp j = if j = k then v else s.lamp j := Store.get_put _ s.lamps k j v
@[simp] theorem State.lamp_putLamp_self (k : Nat) (v : Lamp) : (s.putLamp k v).lamp k = v := by simp [State.lamp_putLamp]
@[simp] theorem State.putLamp_pending (k : Nat) (v : Lamp) : (s.putLamp k v).pending = s.pending := rfl
@[simp] theorem State.putLamp_regs (k : Nat) (v : Lamp) : (s.putLamp k v).regs = s.regs := rfl
@[simp] theorem State.putLamp_mem (k : Nat) (v : Lamp) : (s.putLamp k v).mem = s.mem := rfl
@[simp] theorem State.putLamp_free (k : Nat) (v : Lamp) : (s.putLamp k v).free = s.free := rfl
@[simp] theorem State.putLamp_pwr (k : Nat) (v : Lamp) : (s.putLamp k v).pwr = s.pwr := rfl
@[simp] theorem State.putLamp_pins (k : Nat) (v : Lamp) : (s.putLamp k v).pins = s.pins := rfl
@[simp] theorem State.putLamp_kept (k : Nat) (v : Lamp) : (s.putLamp k v).kept = s.kept := rfl
@[simp] theorem State.putLamp_gms (k : Nat) (v : Lamp) : (s.putLamp k v).gms = s.gms := rfl
@[simp] theorem State.putLamp_pages (k : Nat) (v : Lamp) : (s.putLamp k v).pages = s.pages := rfl
@[simp] theorem State.putLamp_ports (k : Nat) (v : Lamp) : (s.putLamp k v).ports = s.ports := rfl
@[simp] theorem State.putLamp_caps (k : Nat) (v : Lamp) : (s.putLamp k v).caps = s.caps := rfl
@[simp] theorem State.putLamp_router (k : Nat) (v : Lamp) : (s.putLamp k v).router = s.router := rfl
@[simp] theorem State.putLamp_icx (k : Nat) (v : Lamp) : (s.putLamp k v).icx = s.icx := rfl
@[simp] theorem State.putLamp_cores (k : Nat) (v : Lamp) : (s.putLamp k v).cores = s.cores := rfl
@[simp] theorem State.putLamp_pairs (k : Nat) (v : Lamp) : (s.putLamp k v).pairs = s.pairs := rfl
@[simp] theorem State.putLamp_shroud (k : Nat) (v : Lamp) : (s.putLamp k v).shroud = s.shroud := rfl
@[simp] theorem State.putLamp_engines (k : Nat) (v : Lamp) : (s.putLamp k v).engines = s.engines := rfl
@[simp] theorem State.putLamp_ctxs (k : Nat) (v : Lamp) : (s.putLamp k v).ctxs = s.ctxs := rfl
@[simp] theorem State.putLamp_samples (k : Nat) (v : Lamp) : (s.putLamp k v).samples = s.samples := rfl
@[simp] theorem State.putLamp_adcs (k : Nat) (v : Lamp) : (s.putLamp k v).adcs = s.adcs := rfl
@[simp] theorem State.putLamp_sdms (k : Nat) (v : Lamp) : (s.putLamp k v).sdms = s.sdms := rfl
@[simp] theorem State.putLamp_cmps (k : Nat) (v : Lamp) : (s.putLamp k v).cmps = s.cmps := rfl
@[simp] theorem State.putLamp_sensors (k : Nat) (v : Lamp) : (s.putLamp k v).sensors = s.sensors := rfl
@[simp] theorem State.putLamp_pwms (k : Nat) (v : Lamp) : (s.putLamp k v).pwms = s.pwms := rfl
@[simp] theorem State.putLamp_chans (k : Nat) (v : Lamp) : (s.putLamp k v).chans = s.chans := rfl
@[simp] theorem State.putLamp_groups (k : Nat) (v : Lamp) : (s.putLamp k v).groups = s.groups := rfl
@[simp] theorem State.putLamp_hvs (k : Nat) (v : Lamp) : (s.putLamp k v).hvs = s.hvs := rfl
@[simp] theorem State.putLamp_lvdrv (k : Nat) (v : Lamp) : (s.putLamp k v).lvdrv = s.lvdrv := rfl
@[simp] theorem State.putLamp_twls (k : Nat) (v : Lamp) : (s.putLamp k v).twls = s.twls := rfl
@[simp] theorem State.putLamp_encs (k : Nat) (v : Lamp) : (s.putLamp k v).encs = s.encs := rfl
@[simp] theorem State.putLamp_halls (k : Nat) (v : Lamp) : (s.putLamp k v).halls = s.halls := rfl
@[simp] theorem State.putLamp_dcdc (k : Nat) (v : Lamp) : (s.putLamp k v).dcdc = s.dcdc := rfl
@[simp] theorem State.putLamp_obc (k : Nat) (v : Lamp) : (s.putLamp k v).obc = s.obc := rfl
@[simp] theorem State.putLamp_acts (k : Nat) (v : Lamp) : (s.putLamp k v).acts = s.acts := rfl
@[simp] theorem State.putLamp_ctr (k : Nat) (v : Lamp) : (s.putLamp k v).ctr = s.ctr := rfl
@[simp] theorem State.putLamp_rings (k : Nat) (v : Lamp) : (s.putLamp k v).rings = s.rings := rfl
@[simp] theorem State.putLamp_zcors (k : Nat) (v : Lamp) : (s.putLamp k v).zcors = s.zcors := rfl
@[simp] theorem State.putLamp_twin (k : Nat) (v : Lamp) : (s.putLamp k v).twin = s.twin := rfl
@[simp] theorem State.putLamp_net (k : Nat) (v : Lamp) : (s.putLamp k v).net = s.net := rfl
@[simp] theorem State.putLamp_reg (k : Nat) (v : Lamp) (a : Nat) : (s.putLamp k v).reg a = s.reg a := rfl
theorem State.act_putAct (k : Nat) (v : Act) (j : Nat) : (s.putAct k v).act j = if j = k then v else s.act j := Store.get_put _ s.acts k j v
@[simp] theorem State.act_putAct_self (k : Nat) (v : Act) : (s.putAct k v).act k = v := by simp [State.act_putAct]
@[simp] theorem State.putAct_pending (k : Nat) (v : Act) : (s.putAct k v).pending = s.pending := rfl
@[simp] theorem State.putAct_regs (k : Nat) (v : Act) : (s.putAct k v).regs = s.regs := rfl
@[simp] theorem State.putAct_mem (k : Nat) (v : Act) : (s.putAct k v).mem = s.mem := rfl
@[simp] theorem State.putAct_free (k : Nat) (v : Act) : (s.putAct k v).free = s.free := rfl
@[simp] theorem State.putAct_pwr (k : Nat) (v : Act) : (s.putAct k v).pwr = s.pwr := rfl
@[simp] theorem State.putAct_pins (k : Nat) (v : Act) : (s.putAct k v).pins = s.pins := rfl
@[simp] theorem State.putAct_kept (k : Nat) (v : Act) : (s.putAct k v).kept = s.kept := rfl
@[simp] theorem State.putAct_gms (k : Nat) (v : Act) : (s.putAct k v).gms = s.gms := rfl
@[simp] theorem State.putAct_pages (k : Nat) (v : Act) : (s.putAct k v).pages = s.pages := rfl
@[simp] theorem State.putAct_ports (k : Nat) (v : Act) : (s.putAct k v).ports = s.ports := rfl
@[simp] theorem State.putAct_caps (k : Nat) (v : Act) : (s.putAct k v).caps = s.caps := rfl
@[simp] theorem State.putAct_router (k : Nat) (v : Act) : (s.putAct k v).router = s.router := rfl
@[simp] theorem State.putAct_icx (k : Nat) (v : Act) : (s.putAct k v).icx = s.icx := rfl
@[simp] theorem State.putAct_cores (k : Nat) (v : Act) : (s.putAct k v).cores = s.cores := rfl
@[simp] theorem State.putAct_pairs (k : Nat) (v : Act) : (s.putAct k v).pairs = s.pairs := rfl
@[simp] theorem State.putAct_shroud (k : Nat) (v : Act) : (s.putAct k v).shroud = s.shroud := rfl
@[simp] theorem State.putAct_engines (k : Nat) (v : Act) : (s.putAct k v).engines = s.engines := rfl
@[simp] theorem State.putAct_ctxs (k : Nat) (v : Act) : (s.putAct k v).ctxs = s.ctxs := rfl
@[simp] theorem State.putAct_samples (k : Nat) (v : Act) : (s.putAct k v).samples = s.samples := rfl
@[simp] theorem State.putAct_adcs (k : Nat) (v : Act) : (s.putAct k v).adcs = s.adcs := rfl
@[simp] theorem State.putAct_sdms (k : Nat) (v : Act) : (s.putAct k v).sdms = s.sdms := rfl
@[simp] theorem State.putAct_cmps (k : Nat) (v : Act) : (s.putAct k v).cmps = s.cmps := rfl
@[simp] theorem State.putAct_sensors (k : Nat) (v : Act) : (s.putAct k v).sensors = s.sensors := rfl
@[simp] theorem State.putAct_pwms (k : Nat) (v : Act) : (s.putAct k v).pwms = s.pwms := rfl
@[simp] theorem State.putAct_chans (k : Nat) (v : Act) : (s.putAct k v).chans = s.chans := rfl
@[simp] theorem State.putAct_groups (k : Nat) (v : Act) : (s.putAct k v).groups = s.groups := rfl
@[simp] theorem State.putAct_hvs (k : Nat) (v : Act) : (s.putAct k v).hvs = s.hvs := rfl
@[simp] theorem State.putAct_lvdrv (k : Nat) (v : Act) : (s.putAct k v).lvdrv = s.lvdrv := rfl
@[simp] theorem State.putAct_twls (k : Nat) (v : Act) : (s.putAct k v).twls = s.twls := rfl
@[simp] theorem State.putAct_encs (k : Nat) (v : Act) : (s.putAct k v).encs = s.encs := rfl
@[simp] theorem State.putAct_halls (k : Nat) (v : Act) : (s.putAct k v).halls = s.halls := rfl
@[simp] theorem State.putAct_dcdc (k : Nat) (v : Act) : (s.putAct k v).dcdc = s.dcdc := rfl
@[simp] theorem State.putAct_obc (k : Nat) (v : Act) : (s.putAct k v).obc = s.obc := rfl
@[simp] theorem State.putAct_lamps (k : Nat) (v : Act) : (s.putAct k v).lamps = s.lamps := rfl
@[simp] theorem State.putAct_ctr (k : Nat) (v : Act) : (s.putAct k v).ctr = s.ctr := rfl
@[simp] theorem State.putAct_rings (k : Nat) (v : Act) : (s.putAct k v).rings = s.rings := rfl
@[simp] theorem State.putAct_zcors (k : Nat) (v : Act) : (s.putAct k v).zcors = s.zcors := rfl
@[simp] theorem State.putAct_twin (k : Nat) (v : Act) : (s.putAct k v).twin = s.twin := rfl
@[simp] theorem State.putAct_net (k : Nat) (v : Act) : (s.putAct k v).net = s.net := rfl
@[simp] theorem State.putAct_reg (k : Nat) (v : Act) (a : Nat) : (s.putAct k v).reg a = s.reg a := rfl
theorem State.ring_putRing (k : Nat) (v : Ring) (j : Nat) : (s.putRing k v).ring j = if j = k then v else s.ring j := Store.get_put _ s.rings k j v
@[simp] theorem State.ring_putRing_self (k : Nat) (v : Ring) : (s.putRing k v).ring k = v := by simp [State.ring_putRing]
@[simp] theorem State.putRing_pending (k : Nat) (v : Ring) : (s.putRing k v).pending = s.pending := rfl
@[simp] theorem State.putRing_regs (k : Nat) (v : Ring) : (s.putRing k v).regs = s.regs := rfl
@[simp] theorem State.putRing_mem (k : Nat) (v : Ring) : (s.putRing k v).mem = s.mem := rfl
@[simp] theorem State.putRing_free (k : Nat) (v : Ring) : (s.putRing k v).free = s.free := rfl
@[simp] theorem State.putRing_pwr (k : Nat) (v : Ring) : (s.putRing k v).pwr = s.pwr := rfl
@[simp] theorem State.putRing_pins (k : Nat) (v : Ring) : (s.putRing k v).pins = s.pins := rfl
@[simp] theorem State.putRing_kept (k : Nat) (v : Ring) : (s.putRing k v).kept = s.kept := rfl
@[simp] theorem State.putRing_gms (k : Nat) (v : Ring) : (s.putRing k v).gms = s.gms := rfl
@[simp] theorem State.putRing_pages (k : Nat) (v : Ring) : (s.putRing k v).pages = s.pages := rfl
@[simp] theorem State.putRing_ports (k : Nat) (v : Ring) : (s.putRing k v).ports = s.ports := rfl
@[simp] theorem State.putRing_caps (k : Nat) (v : Ring) : (s.putRing k v).caps = s.caps := rfl
@[simp] theorem State.putRing_router (k : Nat) (v : Ring) : (s.putRing k v).router = s.router := rfl
@[simp] theorem State.putRing_icx (k : Nat) (v : Ring) : (s.putRing k v).icx = s.icx := rfl
@[simp] theorem State.putRing_cores (k : Nat) (v : Ring) : (s.putRing k v).cores = s.cores := rfl
@[simp] theorem State.putRing_pairs (k : Nat) (v : Ring) : (s.putRing k v).pairs = s.pairs := rfl
@[simp] theorem State.putRing_shroud (k : Nat) (v : Ring) : (s.putRing k v).shroud = s.shroud := rfl
@[simp] theorem State.putRing_engines (k : Nat) (v : Ring) : (s.putRing k v).engines = s.engines := rfl
@[simp] theorem State.putRing_ctxs (k : Nat) (v : Ring) : (s.putRing k v).ctxs = s.ctxs := rfl
@[simp] theorem State.putRing_samples (k : Nat) (v : Ring) : (s.putRing k v).samples = s.samples := rfl
@[simp] theorem State.putRing_adcs (k : Nat) (v : Ring) : (s.putRing k v).adcs = s.adcs := rfl
@[simp] theorem State.putRing_sdms (k : Nat) (v : Ring) : (s.putRing k v).sdms = s.sdms := rfl
@[simp] theorem State.putRing_cmps (k : Nat) (v : Ring) : (s.putRing k v).cmps = s.cmps := rfl
@[simp] theorem State.putRing_sensors (k : Nat) (v : Ring) : (s.putRing k v).sensors = s.sensors := rfl
@[simp] theorem State.putRing_pwms (k : Nat) (v : Ring) : (s.putRing k v).pwms = s.pwms := rfl
@[simp] theorem State.putRing_chans (k : Nat) (v : Ring) : (s.putRing k v).chans = s.chans := rfl
@[simp] theorem State.putRing_groups (k : Nat) (v : Ring) : (s.putRing k v).groups = s.groups := rfl
@[simp] theorem State.putRing_hvs (k : Nat) (v : Ring) : (s.putRing k v).hvs = s.hvs := rfl
@[simp] theorem State.putRing_lvdrv (k : Nat) (v : Ring) : (s.putRing k v).lvdrv = s.lvdrv := rfl
@[simp] theorem State.putRing_twls (k : Nat) (v : Ring) : (s.putRing k v).twls = s.twls := rfl
@[simp] theorem State.putRing_encs (k : Nat) (v : Ring) : (s.putRing k v).encs = s.encs := rfl
@[simp] theorem State.putRing_halls (k : Nat) (v : Ring) : (s.putRing k v).halls = s.halls := rfl
@[simp] theorem State.putRing_dcdc (k : Nat) (v : Ring) : (s.putRing k v).dcdc = s.dcdc := rfl
@[simp] theorem State.putRing_obc (k : Nat) (v : Ring) : (s.putRing k v).obc = s.obc := rfl
@[simp] theorem State.putRing_lamps (k : Nat) (v : Ring) : (s.putRing k v).lamps = s.lamps := rfl
@[simp] theorem State.putRing_acts (k : Nat) (v : Ring) : (s.putRing k v).acts = s.acts := rfl
@[simp] theorem State.putRing_ctr (k : Nat) (v : Ring) : (s.putRing k v).ctr = s.ctr := rfl
@[simp] theorem State.putRing_zcors (k : Nat) (v : Ring) : (s.putRing k v).zcors = s.zcors := rfl
@[simp] theorem State.putRing_twin (k : Nat) (v : Ring) : (s.putRing k v).twin = s.twin := rfl
@[simp] theorem State.putRing_net (k : Nat) (v : Ring) : (s.putRing k v).net = s.net := rfl
@[simp] theorem State.putRing_reg (k : Nat) (v : Ring) (a : Nat) : (s.putRing k v).reg a = s.reg a := rfl
theorem State.zcor_putZcor (k : Nat) (v : Zcor) (j : Nat) : (s.putZcor k v).zcor j = if j = k then v else s.zcor j := Store.get_put _ s.zcors k j v
@[simp] theorem State.zcor_putZcor_self (k : Nat) (v : Zcor) : (s.putZcor k v).zcor k = v := by simp [State.zcor_putZcor]
@[simp] theorem State.putZcor_pending (k : Nat) (v : Zcor) : (s.putZcor k v).pending = s.pending := rfl
@[simp] theorem State.putZcor_regs (k : Nat) (v : Zcor) : (s.putZcor k v).regs = s.regs := rfl
@[simp] theorem State.putZcor_mem (k : Nat) (v : Zcor) : (s.putZcor k v).mem = s.mem := rfl
@[simp] theorem State.putZcor_free (k : Nat) (v : Zcor) : (s.putZcor k v).free = s.free := rfl
@[simp] theorem State.putZcor_pwr (k : Nat) (v : Zcor) : (s.putZcor k v).pwr = s.pwr := rfl
@[simp] theorem State.putZcor_pins (k : Nat) (v : Zcor) : (s.putZcor k v).pins = s.pins := rfl
@[simp] theorem State.putZcor_kept (k : Nat) (v : Zcor) : (s.putZcor k v).kept = s.kept := rfl
@[simp] theorem State.putZcor_gms (k : Nat) (v : Zcor) : (s.putZcor k v).gms = s.gms := rfl
@[simp] theorem State.putZcor_pages (k : Nat) (v : Zcor) : (s.putZcor k v).pages = s.pages := rfl
@[simp] theorem State.putZcor_ports (k : Nat) (v : Zcor) : (s.putZcor k v).ports = s.ports := rfl
@[simp] theorem State.putZcor_caps (k : Nat) (v : Zcor) : (s.putZcor k v).caps = s.caps := rfl
@[simp] theorem State.putZcor_router (k : Nat) (v : Zcor) : (s.putZcor k v).router = s.router := rfl
@[simp] theorem State.putZcor_icx (k : Nat) (v : Zcor) : (s.putZcor k v).icx = s.icx := rfl
@[simp] theorem State.putZcor_cores (k : Nat) (v : Zcor) : (s.putZcor k v).cores = s.cores := rfl
@[simp] theorem State.putZcor_pairs (k : Nat) (v : Zcor) : (s.putZcor k v).pairs = s.pairs := rfl
@[simp] theorem State.putZcor_shroud (k : Nat) (v : Zcor) : (s.putZcor k v).shroud = s.shroud := rfl
@[simp] theorem State.putZcor_engines (k : Nat) (v : Zcor) : (s.putZcor k v).engines = s.engines := rfl
@[simp] theorem State.putZcor_ctxs (k : Nat) (v : Zcor) : (s.putZcor k v).ctxs = s.ctxs := rfl
@[simp] theorem State.putZcor_samples (k : Nat) (v : Zcor) : (s.putZcor k v).samples = s.samples := rfl
@[simp] theorem State.putZcor_adcs (k : Nat) (v : Zcor) : (s.putZcor k v).adcs = s.adcs := rfl
@[simp] theorem State.putZcor_sdms (k : Nat) (v : Zcor) : (s.putZcor k v).sdms = s.sdms := rfl
@[simp] theorem State.putZcor_cmps (k : Nat) (v : Zcor) : (s.putZcor k v).cmps = s.cmps := rfl
@[simp] theorem State.putZcor_sensors (k : Nat) (v : Zcor) : (s.putZcor k v).sensors = s.sensors := rfl
@[simp] theorem State.putZcor_pwms (k : Nat) (v : Zcor) : (s.putZcor k v).pwms = s.pwms := rfl
@[simp] theorem State.putZcor_chans (k : Nat) (v : Zcor) : (s.putZcor k v).chans = s.chans := rfl
@[simp] theorem State.putZcor_groups (k : Nat) (v : Zcor) : (s.putZcor k v).groups = s.groups := rfl
@[simp] theorem State.putZcor_hvs (k : Nat) (v : Zcor) : (s.putZcor k v).hvs = s.hvs := rfl
@[simp] theorem State.putZcor_lvdrv (k : Nat) (v : Zcor) : (s.putZcor k v).lvdrv = s.lvdrv := rfl
@[simp] theorem State.putZcor_twls (k : Nat) (v : Zcor) : (s.putZcor k v).twls = s.twls := rfl
@[simp] theorem State.putZcor_encs (k : Nat) (v : Zcor) : (s.putZcor k v).encs = s.encs := rfl
@[simp] theorem State.putZcor_halls (k : Nat) (v : Zcor) : (s.putZcor k v).halls = s.halls := rfl
@[simp] theorem State.putZcor_dcdc (k : Nat) (v : Zcor) : (s.putZcor k v).dcdc = s.dcdc := rfl
@[simp] theorem State.putZcor_obc (k : Nat) (v : Zcor) : (s.putZcor k v).obc = s.obc := rfl
@[simp] theorem State.putZcor_lamps (k : Nat) (v : Zcor) : (s.putZcor k v).lamps = s.lamps := rfl
@[simp] theorem State.putZcor_acts (k : Nat) (v : Zcor) : (s.putZcor k v).acts = s.acts := rfl
@[simp] theorem State.putZcor_ctr (k : Nat) (v : Zcor) : (s.putZcor k v).ctr = s.ctr := rfl
@[simp] theorem State.putZcor_rings (k : Nat) (v : Zcor) : (s.putZcor k v).rings = s.rings := rfl
@[simp] theorem State.putZcor_twin (k : Nat) (v : Zcor) : (s.putZcor k v).twin = s.twin := rfl
@[simp] theorem State.putZcor_net (k : Nat) (v : Zcor) : (s.putZcor k v).net = s.net := rfl
@[simp] theorem State.putZcor_reg (k : Nat) (v : Zcor) (a : Nat) : (s.putZcor k v).reg a = s.reg a := rfl

end Sys2Proof.Machine
end

