-- ==== Sys2Proof/Laws/Flags.lean ====
section
/-! SUPPORT. Flags and fields of registers, event flags and their lines, and what follows every command: what each reads after, and what
each leaves alone. -/

namespace Sys2Proof.Machine

variable (s : State)

/-! ### Bits and fields of registers -/

theorem State.flag_eq (a i : Nat) : s.flag a i = bit (s.reg a) i := rfl
theorem State.fld_eq (a hi lo : Nat) : s.fld a hi lo = bits (s.reg a) hi lo := rfl

theorem State.reg_setFlag (a i : Nat) (b : Bool) (c : Nat) : (s.setFlag a i b).reg c = if c = a then setBit (s.reg a) i b else s.reg c :=
  s.reg_setReg a _ c
theorem State.reg_setFld (a hi lo v c : Nat) : (s.setFld a hi lo v).reg c = if c = a then setBits (s.reg a) hi lo v else s.reg c :=
  s.reg_setReg a _ c
theorem State.reg_orReg (a : Nat) (m : Word) (c : Nat) : (s.orReg a m).reg c = if c = a then s.reg a ||| m else s.reg c := s.reg_setReg a _ c
theorem State.reg_clrReg (a : Nat) (m : Word) (c : Nat) : (s.clrReg a m).reg c = if c = a then s.reg a &&& ~~~m else s.reg c :=
  s.reg_setReg a _ c
theorem State.reg_bump (a hi lo c : Nat) (h : c ≠ a) : (s.bump a hi lo).reg c = s.reg c := by simp [State.bump, State.reg_setFld, h]
theorem State.reg_wrap (a hi lo c : Nat) (h : c ≠ a) : (s.wrap a hi lo).reg c = s.reg c := by simp [State.wrap, State.reg_setFld, h]
theorem State.reg_fault (p i c : Nat) : (s.fault p i).reg c = if c = Adr.PFAULT p then setBit (s.reg (Adr.PFAULT p)) i true else s.reg c :=
  s.reg_setReg _ _ c

@[simp] theorem State.setFlag_pending (a i : Nat) (b : Bool) : (s.setFlag a i b).pending = s.pending := rfl
@[simp] theorem State.setFlag_mem (a i : Nat) (b : Bool) : (s.setFlag a i b).mem = s.mem := rfl
@[simp] theorem State.setFlag_free (a i : Nat) (b : Bool) : (s.setFlag a i b).free = s.free := rfl
@[simp] theorem State.setFlag_pwr (a i : Nat) (b : Bool) : (s.setFlag a i b).pwr = s.pwr := rfl
@[simp] theorem State.setFlag_pins (a i : Nat) (b : Bool) : (s.setFlag a i b).pins = s.pins := rfl
@[simp] theorem State.setFlag_kept (a i : Nat) (b : Bool) : (s.setFlag a i b).kept = s.kept := rfl
@[simp] theorem State.setFlag_gms (a i : Nat) (b : Bool) : (s.setFlag a i b).gms = s.gms := rfl
@[simp] theorem State.setFlag_pages (a i : Nat) (b : Bool) : (s.setFlag a i b).pages = s.pages := rfl
@[simp] theorem State.setFlag_ports (a i : Nat) (b : Bool) : (s.setFlag a i b).ports = s.ports := rfl
@[simp] theorem State.setFlag_caps (a i : Nat) (b : Bool) : (s.setFlag a i b).caps = s.caps := rfl
@[simp] theorem State.setFlag_router (a i : Nat) (b : Bool) : (s.setFlag a i b).router = s.router := rfl
@[simp] theorem State.setFlag_icx (a i : Nat) (b : Bool) : (s.setFlag a i b).icx = s.icx := rfl
@[simp] theorem State.setFlag_cores (a i : Nat) (b : Bool) : (s.setFlag a i b).cores = s.cores := rfl
@[simp] theorem State.setFlag_pairs (a i : Nat) (b : Bool) : (s.setFlag a i b).pairs = s.pairs := rfl
@[simp] theorem State.setFlag_shroud (a i : Nat) (b : Bool) : (s.setFlag a i b).shroud = s.shroud := rfl
@[simp] theorem State.setFlag_engines (a i : Nat) (b : Bool) : (s.setFlag a i b).engines = s.engines := rfl
@[simp] theorem State.setFlag_ctxs (a i : Nat) (b : Bool) : (s.setFlag a i b).ctxs = s.ctxs := rfl
@[simp] theorem State.setFlag_samples (a i : Nat) (b : Bool) : (s.setFlag a i b).samples = s.samples := rfl
@[simp] theorem State.setFlag_adcs (a i : Nat) (b : Bool) : (s.setFlag a i b).adcs = s.adcs := rfl
@[simp] theorem State.setFlag_sdms (a i : Nat) (b : Bool) : (s.setFlag a i b).sdms = s.sdms := rfl
@[simp] theorem State.setFlag_cmps (a i : Nat) (b : Bool) : (s.setFlag a i b).cmps = s.cmps := rfl
@[simp] theorem State.setFlag_sensors (a i : Nat) (b : Bool) : (s.setFlag a i b).sensors = s.sensors := rfl
@[simp] theorem State.setFlag_pwms (a i : Nat) (b : Bool) : (s.setFlag a i b).pwms = s.pwms := rfl
@[simp] theorem State.setFlag_chans (a i : Nat) (b : Bool) : (s.setFlag a i b).chans = s.chans := rfl
@[simp] theorem State.setFlag_groups (a i : Nat) (b : Bool) : (s.setFlag a i b).groups = s.groups := rfl
@[simp] theorem State.setFlag_hvs (a i : Nat) (b : Bool) : (s.setFlag a i b).hvs = s.hvs := rfl
@[simp] theorem State.setFlag_lvdrv (a i : Nat) (b : Bool) : (s.setFlag a i b).lvdrv = s.lvdrv := rfl
@[simp] theorem State.setFlag_twls (a i : Nat) (b : Bool) : (s.setFlag a i b).twls = s.twls := rfl
@[simp] theorem State.setFlag_encs (a i : Nat) (b : Bool) : (s.setFlag a i b).encs = s.encs := rfl
@[simp] theorem State.setFlag_halls (a i : Nat) (b : Bool) : (s.setFlag a i b).halls = s.halls := rfl
@[simp] theorem State.setFlag_dcdc (a i : Nat) (b : Bool) : (s.setFlag a i b).dcdc = s.dcdc := rfl
@[simp] theorem State.setFlag_obc (a i : Nat) (b : Bool) : (s.setFlag a i b).obc = s.obc := rfl
@[simp] theorem State.setFlag_lamps (a i : Nat) (b : Bool) : (s.setFlag a i b).lamps = s.lamps := rfl
@[simp] theorem State.setFlag_acts (a i : Nat) (b : Bool) : (s.setFlag a i b).acts = s.acts := rfl
@[simp] theorem State.setFlag_ctr (a i : Nat) (b : Bool) : (s.setFlag a i b).ctr = s.ctr := rfl
@[simp] theorem State.setFlag_rings (a i : Nat) (b : Bool) : (s.setFlag a i b).rings = s.rings := rfl
@[simp] theorem State.setFlag_zcors (a i : Nat) (b : Bool) : (s.setFlag a i b).zcors = s.zcors := rfl
@[simp] theorem State.setFlag_twin (a i : Nat) (b : Bool) : (s.setFlag a i b).twin = s.twin := rfl
@[simp] theorem State.setFlag_net (a i : Nat) (b : Bool) : (s.setFlag a i b).net = s.net := rfl
@[simp] theorem State.setFld_pending (a hi lo v : Nat) : (s.setFld a hi lo v).pending = s.pending := rfl
@[simp] theorem State.setFld_mem (a hi lo v : Nat) : (s.setFld a hi lo v).mem = s.mem := rfl
@[simp] theorem State.setFld_free (a hi lo v : Nat) : (s.setFld a hi lo v).free = s.free := rfl
@[simp] theorem State.setFld_pwr (a hi lo v : Nat) : (s.setFld a hi lo v).pwr = s.pwr := rfl
@[simp] theorem State.setFld_pins (a hi lo v : Nat) : (s.setFld a hi lo v).pins = s.pins := rfl
@[simp] theorem State.setFld_kept (a hi lo v : Nat) : (s.setFld a hi lo v).kept = s.kept := rfl
@[simp] theorem State.setFld_gms (a hi lo v : Nat) : (s.setFld a hi lo v).gms = s.gms := rfl
@[simp] theorem State.setFld_pages (a hi lo v : Nat) : (s.setFld a hi lo v).pages = s.pages := rfl
@[simp] theorem State.setFld_ports (a hi lo v : Nat) : (s.setFld a hi lo v).ports = s.ports := rfl
@[simp] theorem State.setFld_caps (a hi lo v : Nat) : (s.setFld a hi lo v).caps = s.caps := rfl
@[simp] theorem State.setFld_router (a hi lo v : Nat) : (s.setFld a hi lo v).router = s.router := rfl
@[simp] theorem State.setFld_icx (a hi lo v : Nat) : (s.setFld a hi lo v).icx = s.icx := rfl
@[simp] theorem State.setFld_cores (a hi lo v : Nat) : (s.setFld a hi lo v).cores = s.cores := rfl
@[simp] theorem State.setFld_pairs (a hi lo v : Nat) : (s.setFld a hi lo v).pairs = s.pairs := rfl
@[simp] theorem State.setFld_shroud (a hi lo v : Nat) : (s.setFld a hi lo v).shroud = s.shroud := rfl
@[simp] theorem State.setFld_engines (a hi lo v : Nat) : (s.setFld a hi lo v).engines = s.engines := rfl
@[simp] theorem State.setFld_ctxs (a hi lo v : Nat) : (s.setFld a hi lo v).ctxs = s.ctxs := rfl
@[simp] theorem State.setFld_samples (a hi lo v : Nat) : (s.setFld a hi lo v).samples = s.samples := rfl
@[simp] theorem State.setFld_adcs (a hi lo v : Nat) : (s.setFld a hi lo v).adcs = s.adcs := rfl
@[simp] theorem State.setFld_sdms (a hi lo v : Nat) : (s.setFld a hi lo v).sdms = s.sdms := rfl
@[simp] theorem State.setFld_cmps (a hi lo v : Nat) : (s.setFld a hi lo v).cmps = s.cmps := rfl
@[simp] theorem State.setFld_sensors (a hi lo v : Nat) : (s.setFld a hi lo v).sensors = s.sensors := rfl
@[simp] theorem State.setFld_pwms (a hi lo v : Nat) : (s.setFld a hi lo v).pwms = s.pwms := rfl
@[simp] theorem State.setFld_chans (a hi lo v : Nat) : (s.setFld a hi lo v).chans = s.chans := rfl
@[simp] theorem State.setFld_groups (a hi lo v : Nat) : (s.setFld a hi lo v).groups = s.groups := rfl
@[simp] theorem State.setFld_hvs (a hi lo v : Nat) : (s.setFld a hi lo v).hvs = s.hvs := rfl
@[simp] theorem State.setFld_lvdrv (a hi lo v : Nat) : (s.setFld a hi lo v).lvdrv = s.lvdrv := rfl
@[simp] theorem State.setFld_twls (a hi lo v : Nat) : (s.setFld a hi lo v).twls = s.twls := rfl
@[simp] theorem State.setFld_encs (a hi lo v : Nat) : (s.setFld a hi lo v).encs = s.encs := rfl
@[simp] theorem State.setFld_halls (a hi lo v : Nat) : (s.setFld a hi lo v).halls = s.halls := rfl
@[simp] theorem State.setFld_dcdc (a hi lo v : Nat) : (s.setFld a hi lo v).dcdc = s.dcdc := rfl
@[simp] theorem State.setFld_obc (a hi lo v : Nat) : (s.setFld a hi lo v).obc = s.obc := rfl
@[simp] theorem State.setFld_lamps (a hi lo v : Nat) : (s.setFld a hi lo v).lamps = s.lamps := rfl
@[simp] theorem State.setFld_acts (a hi lo v : Nat) : (s.setFld a hi lo v).acts = s.acts := rfl
@[simp] theorem State.setFld_ctr (a hi lo v : Nat) : (s.setFld a hi lo v).ctr = s.ctr := rfl
@[simp] theorem State.setFld_rings (a hi lo v : Nat) : (s.setFld a hi lo v).rings = s.rings := rfl
@[simp] theorem State.setFld_zcors (a hi lo v : Nat) : (s.setFld a hi lo v).zcors = s.zcors := rfl
@[simp] theorem State.setFld_twin (a hi lo v : Nat) : (s.setFld a hi lo v).twin = s.twin := rfl
@[simp] theorem State.setFld_net (a hi lo v : Nat) : (s.setFld a hi lo v).net = s.net := rfl
@[simp] theorem State.fault_pending (p i : Nat) : (s.fault p i).pending = s.pending := rfl
@[simp] theorem State.fault_mem (p i : Nat) : (s.fault p i).mem = s.mem := rfl
@[simp] theorem State.fault_free (p i : Nat) : (s.fault p i).free = s.free := rfl
@[simp] theorem State.fault_pwr (p i : Nat) : (s.fault p i).pwr = s.pwr := rfl
@[simp] theorem State.fault_pins (p i : Nat) : (s.fault p i).pins = s.pins := rfl
@[simp] theorem State.fault_kept (p i : Nat) : (s.fault p i).kept = s.kept := rfl
@[simp] theorem State.fault_gms (p i : Nat) : (s.fault p i).gms = s.gms := rfl
@[simp] theorem State.fault_pages (p i : Nat) : (s.fault p i).pages = s.pages := rfl
@[simp] theorem State.fault_ports (p i : Nat) : (s.fault p i).ports = s.ports := rfl
@[simp] theorem State.fault_caps (p i : Nat) : (s.fault p i).caps = s.caps := rfl
@[simp] theorem State.fault_router (p i : Nat) : (s.fault p i).router = s.router := rfl
@[simp] theorem State.fault_icx (p i : Nat) : (s.fault p i).icx = s.icx := rfl
@[simp] theorem State.fault_cores (p i : Nat) : (s.fault p i).cores = s.cores := rfl
@[simp] theorem State.fault_pairs (p i : Nat) : (s.fault p i).pairs = s.pairs := rfl
@[simp] theorem State.fault_shroud (p i : Nat) : (s.fault p i).shroud = s.shroud := rfl
@[simp] theorem State.fault_engines (p i : Nat) : (s.fault p i).engines = s.engines := rfl
@[simp] theorem State.fault_ctxs (p i : Nat) : (s.fault p i).ctxs = s.ctxs := rfl
@[simp] theorem State.fault_samples (p i : Nat) : (s.fault p i).samples = s.samples := rfl
@[simp] theorem State.fault_adcs (p i : Nat) : (s.fault p i).adcs = s.adcs := rfl
@[simp] theorem State.fault_sdms (p i : Nat) : (s.fault p i).sdms = s.sdms := rfl
@[simp] theorem State.fault_cmps (p i : Nat) : (s.fault p i).cmps = s.cmps := rfl
@[simp] theorem State.fault_sensors (p i : Nat) : (s.fault p i).sensors = s.sensors := rfl
@[simp] theorem State.fault_pwms (p i : Nat) : (s.fault p i).pwms = s.pwms := rfl
@[simp] theorem State.fault_chans (p i : Nat) : (s.fault p i).chans = s.chans := rfl
@[simp] theorem State.fault_groups (p i : Nat) : (s.fault p i).groups = s.groups := rfl
@[simp] theorem State.fault_hvs (p i : Nat) : (s.fault p i).hvs = s.hvs := rfl
@[simp] theorem State.fault_lvdrv (p i : Nat) : (s.fault p i).lvdrv = s.lvdrv := rfl
@[simp] theorem State.fault_twls (p i : Nat) : (s.fault p i).twls = s.twls := rfl
@[simp] theorem State.fault_encs (p i : Nat) : (s.fault p i).encs = s.encs := rfl
@[simp] theorem State.fault_halls (p i : Nat) : (s.fault p i).halls = s.halls := rfl
@[simp] theorem State.fault_dcdc (p i : Nat) : (s.fault p i).dcdc = s.dcdc := rfl
@[simp] theorem State.fault_obc (p i : Nat) : (s.fault p i).obc = s.obc := rfl
@[simp] theorem State.fault_lamps (p i : Nat) : (s.fault p i).lamps = s.lamps := rfl
@[simp] theorem State.fault_acts (p i : Nat) : (s.fault p i).acts = s.acts := rfl
@[simp] theorem State.fault_ctr (p i : Nat) : (s.fault p i).ctr = s.ctr := rfl
@[simp] theorem State.fault_rings (p i : Nat) : (s.fault p i).rings = s.rings := rfl
@[simp] theorem State.fault_zcors (p i : Nat) : (s.fault p i).zcors = s.zcors := rfl
@[simp] theorem State.fault_twin (p i : Nat) : (s.fault p i).twin = s.twin := rfl
@[simp] theorem State.fault_net (p i : Nat) : (s.fault p i).net = s.net := rfl

/-! ### Event flags (R85) -/

@[simp] theorem State.pulse_pending (e : Nat) : (s.pulse e).pending = s.pending := by unfold State.pulse; split <;> rfl
@[simp] theorem State.pulse_regs (e : Nat) : (s.pulse e).regs = s.regs := by unfold State.pulse; split <;> rfl
@[simp] theorem State.pulse_mem (e : Nat) : (s.pulse e).mem = s.mem := by unfold State.pulse; split <;> rfl
@[simp] theorem State.pulse_free (e : Nat) : (s.pulse e).free = s.free := by unfold State.pulse; split <;> rfl
@[simp] theorem State.pulse_pwr (e : Nat) : (s.pulse e).pwr = s.pwr := by unfold State.pulse; split <;> rfl
@[simp] theorem State.pulse_pins (e : Nat) : (s.pulse e).pins = s.pins := by unfold State.pulse; split <;> rfl
@[simp] theorem State.pulse_kept (e : Nat) : (s.pulse e).kept = s.kept := by unfold State.pulse; split <;> rfl
@[simp] theorem State.pulse_gms (e : Nat) : (s.pulse e).gms = s.gms := by unfold State.pulse; split <;> rfl
@[simp] theorem State.pulse_pages (e : Nat) : (s.pulse e).pages = s.pages := by unfold State.pulse; split <;> rfl
@[simp] theorem State.pulse_ports (e : Nat) : (s.pulse e).ports = s.ports := by unfold State.pulse; split <;> rfl
@[simp] theorem State.pulse_caps (e : Nat) : (s.pulse e).caps = s.caps := by unfold State.pulse; split <;> rfl
@[simp] theorem State.pulse_icx (e : Nat) : (s.pulse e).icx = s.icx := by unfold State.pulse; split <;> rfl
@[simp] theorem State.pulse_cores (e : Nat) : (s.pulse e).cores = s.cores := by unfold State.pulse; split <;> rfl
@[simp] theorem State.pulse_pairs (e : Nat) : (s.pulse e).pairs = s.pairs := by unfold State.pulse; split <;> rfl
@[simp] theorem State.pulse_shroud (e : Nat) : (s.pulse e).shroud = s.shroud := by unfold State.pulse; split <;> rfl
@[simp] theorem State.pulse_engines (e : Nat) : (s.pulse e).engines = s.engines := by unfold State.pulse; split <;> rfl
@[simp] theorem State.pulse_ctxs (e : Nat) : (s.pulse e).ctxs = s.ctxs := by unfold State.pulse; split <;> rfl
@[simp] theorem State.pulse_samples (e : Nat) : (s.pulse e).samples = s.samples := by unfold State.pulse; split <;> rfl
@[simp] theorem State.pulse_adcs (e : Nat) : (s.pulse e).adcs = s.adcs := by unfold State.pulse; split <;> rfl
@[simp] theorem State.pulse_sdms (e : Nat) : (s.pulse e).sdms = s.sdms := by unfold State.pulse; split <;> rfl
@[simp] theorem State.pulse_cmps (e : Nat) : (s.pulse e).cmps = s.cmps := by unfold State.pulse; split <;> rfl
@[simp] theorem State.pulse_sensors (e : Nat) : (s.pulse e).sensors = s.sensors := by unfold State.pulse; split <;> rfl
@[simp] theorem State.pulse_pwms (e : Nat) : (s.pulse e).pwms = s.pwms := by unfold State.pulse; split <;> rfl
@[simp] theorem State.pulse_chans (e : Nat) : (s.pulse e).chans = s.chans := by unfold State.pulse; split <;> rfl
@[simp] theorem State.pulse_groups (e : Nat) : (s.pulse e).groups = s.groups := by unfold State.pulse; split <;> rfl
@[simp] theorem State.pulse_hvs (e : Nat) : (s.pulse e).hvs = s.hvs := by unfold State.pulse; split <;> rfl
@[simp] theorem State.pulse_lvdrv (e : Nat) : (s.pulse e).lvdrv = s.lvdrv := by unfold State.pulse; split <;> rfl
@[simp] theorem State.pulse_twls (e : Nat) : (s.pulse e).twls = s.twls := by unfold State.pulse; split <;> rfl
@[simp] theorem State.pulse_encs (e : Nat) : (s.pulse e).encs = s.encs := by unfold State.pulse; split <;> rfl
@[simp] theorem State.pulse_halls (e : Nat) : (s.pulse e).halls = s.halls := by unfold State.pulse; split <;> rfl
@[simp] theorem State.pulse_dcdc (e : Nat) : (s.pulse e).dcdc = s.dcdc := by unfold State.pulse; split <;> rfl
@[simp] theorem State.pulse_obc (e : Nat) : (s.pulse e).obc = s.obc := by unfold State.pulse; split <;> rfl
@[simp] theorem State.pulse_lamps (e : Nat) : (s.pulse e).lamps = s.lamps := by unfold State.pulse; split <;> rfl
@[simp] theorem State.pulse_acts (e : Nat) : (s.pulse e).acts = s.acts := by unfold State.pulse; split <;> rfl
@[simp] theorem State.pulse_ctr (e : Nat) : (s.pulse e).ctr = s.ctr := by unfold State.pulse; split <;> rfl
@[simp] theorem State.pulse_rings (e : Nat) : (s.pulse e).rings = s.rings := by unfold State.pulse; split <;> rfl
@[simp] theorem State.pulse_zcors (e : Nat) : (s.pulse e).zcors = s.zcors := by unfold State.pulse; split <;> rfl
@[simp] theorem State.pulse_twin (e : Nat) : (s.pulse e).twin = s.twin := by unfold State.pulse; split <;> rfl
@[simp] theorem State.pulse_net (e : Nat) : (s.pulse e).net = s.net := by unfold State.pulse; split <;> rfl
@[simp] theorem State.pulse_reg (e a : Nat) : (s.pulse e).reg a = s.reg a := by unfold State.pulse; split <;> rfl
theorem State.raise_shape (p i : Nat) : ∃ r q, s.raise p i = (s.setRegs r).setRouter q := by
  unfold State.raise State.when State.pulse
  by_cases h : (s.pageOn p && !s.flag (Adr.PEVT p) i) = true
  · rw [if_pos h]
    by_cases g : s.flag (Adr.PEVEN p) i = true
    · rw [if_pos g]
      by_cases f : ((s.setFlag (Adr.PEVT p) i true).router.pulses.contains (pageLine p i)) = true
      · exact ⟨(s.setFlag (Adr.PEVT p) i true).regs, s.router, by dsimp only; rw [if_pos f]; rfl⟩
      · exact ⟨(s.setFlag (Adr.PEVT p) i true).regs, _, by dsimp only; rw [if_neg f]; rfl⟩
    · exact ⟨(s.setFlag (Adr.PEVT p) i true).regs, s.router, by rw [if_neg g]; rfl⟩
  · exact ⟨s.regs, s.router, by rw [if_neg h]; rfl⟩

@[simp] theorem State.raise_pending (p i : Nat) : (s.raise p i).pending = s.pending := by obtain ⟨r, q, h⟩ := s.raise_shape p i; rw [h]; rfl
@[simp] theorem State.raise_mem (p i : Nat) : (s.raise p i).mem = s.mem := by obtain ⟨r, q, h⟩ := s.raise_shape p i; rw [h]; rfl
@[simp] theorem State.raise_free (p i : Nat) : (s.raise p i).free = s.free := by obtain ⟨r, q, h⟩ := s.raise_shape p i; rw [h]; rfl
@[simp] theorem State.raise_pwr (p i : Nat) : (s.raise p i).pwr = s.pwr := by obtain ⟨r, q, h⟩ := s.raise_shape p i; rw [h]; rfl
@[simp] theorem State.raise_pins (p i : Nat) : (s.raise p i).pins = s.pins := by obtain ⟨r, q, h⟩ := s.raise_shape p i; rw [h]; rfl
@[simp] theorem State.raise_kept (p i : Nat) : (s.raise p i).kept = s.kept := by obtain ⟨r, q, h⟩ := s.raise_shape p i; rw [h]; rfl
@[simp] theorem State.raise_gms (p i : Nat) : (s.raise p i).gms = s.gms := by obtain ⟨r, q, h⟩ := s.raise_shape p i; rw [h]; rfl
@[simp] theorem State.raise_pages (p i : Nat) : (s.raise p i).pages = s.pages := by obtain ⟨r, q, h⟩ := s.raise_shape p i; rw [h]; rfl
@[simp] theorem State.raise_ports (p i : Nat) : (s.raise p i).ports = s.ports := by obtain ⟨r, q, h⟩ := s.raise_shape p i; rw [h]; rfl
@[simp] theorem State.raise_caps (p i : Nat) : (s.raise p i).caps = s.caps := by obtain ⟨r, q, h⟩ := s.raise_shape p i; rw [h]; rfl
@[simp] theorem State.raise_icx (p i : Nat) : (s.raise p i).icx = s.icx := by obtain ⟨r, q, h⟩ := s.raise_shape p i; rw [h]; rfl
@[simp] theorem State.raise_cores (p i : Nat) : (s.raise p i).cores = s.cores := by obtain ⟨r, q, h⟩ := s.raise_shape p i; rw [h]; rfl
@[simp] theorem State.raise_pairs (p i : Nat) : (s.raise p i).pairs = s.pairs := by obtain ⟨r, q, h⟩ := s.raise_shape p i; rw [h]; rfl
@[simp] theorem State.raise_shroud (p i : Nat) : (s.raise p i).shroud = s.shroud := by obtain ⟨r, q, h⟩ := s.raise_shape p i; rw [h]; rfl
@[simp] theorem State.raise_engines (p i : Nat) : (s.raise p i).engines = s.engines := by obtain ⟨r, q, h⟩ := s.raise_shape p i; rw [h]; rfl
@[simp] theorem State.raise_ctxs (p i : Nat) : (s.raise p i).ctxs = s.ctxs := by obtain ⟨r, q, h⟩ := s.raise_shape p i; rw [h]; rfl
@[simp] theorem State.raise_samples (p i : Nat) : (s.raise p i).samples = s.samples := by obtain ⟨r, q, h⟩ := s.raise_shape p i; rw [h]; rfl
@[simp] theorem State.raise_adcs (p i : Nat) : (s.raise p i).adcs = s.adcs := by obtain ⟨r, q, h⟩ := s.raise_shape p i; rw [h]; rfl
@[simp] theorem State.raise_sdms (p i : Nat) : (s.raise p i).sdms = s.sdms := by obtain ⟨r, q, h⟩ := s.raise_shape p i; rw [h]; rfl
@[simp] theorem State.raise_cmps (p i : Nat) : (s.raise p i).cmps = s.cmps := by obtain ⟨r, q, h⟩ := s.raise_shape p i; rw [h]; rfl
@[simp] theorem State.raise_sensors (p i : Nat) : (s.raise p i).sensors = s.sensors := by obtain ⟨r, q, h⟩ := s.raise_shape p i; rw [h]; rfl
@[simp] theorem State.raise_pwms (p i : Nat) : (s.raise p i).pwms = s.pwms := by obtain ⟨r, q, h⟩ := s.raise_shape p i; rw [h]; rfl
@[simp] theorem State.raise_chans (p i : Nat) : (s.raise p i).chans = s.chans := by obtain ⟨r, q, h⟩ := s.raise_shape p i; rw [h]; rfl
@[simp] theorem State.raise_groups (p i : Nat) : (s.raise p i).groups = s.groups := by obtain ⟨r, q, h⟩ := s.raise_shape p i; rw [h]; rfl
@[simp] theorem State.raise_hvs (p i : Nat) : (s.raise p i).hvs = s.hvs := by obtain ⟨r, q, h⟩ := s.raise_shape p i; rw [h]; rfl
@[simp] theorem State.raise_lvdrv (p i : Nat) : (s.raise p i).lvdrv = s.lvdrv := by obtain ⟨r, q, h⟩ := s.raise_shape p i; rw [h]; rfl
@[simp] theorem State.raise_twls (p i : Nat) : (s.raise p i).twls = s.twls := by obtain ⟨r, q, h⟩ := s.raise_shape p i; rw [h]; rfl
@[simp] theorem State.raise_encs (p i : Nat) : (s.raise p i).encs = s.encs := by obtain ⟨r, q, h⟩ := s.raise_shape p i; rw [h]; rfl
@[simp] theorem State.raise_halls (p i : Nat) : (s.raise p i).halls = s.halls := by obtain ⟨r, q, h⟩ := s.raise_shape p i; rw [h]; rfl
@[simp] theorem State.raise_dcdc (p i : Nat) : (s.raise p i).dcdc = s.dcdc := by obtain ⟨r, q, h⟩ := s.raise_shape p i; rw [h]; rfl
@[simp] theorem State.raise_obc (p i : Nat) : (s.raise p i).obc = s.obc := by obtain ⟨r, q, h⟩ := s.raise_shape p i; rw [h]; rfl
@[simp] theorem State.raise_lamps (p i : Nat) : (s.raise p i).lamps = s.lamps := by obtain ⟨r, q, h⟩ := s.raise_shape p i; rw [h]; rfl
@[simp] theorem State.raise_acts (p i : Nat) : (s.raise p i).acts = s.acts := by obtain ⟨r, q, h⟩ := s.raise_shape p i; rw [h]; rfl
@[simp] theorem State.raise_ctr (p i : Nat) : (s.raise p i).ctr = s.ctr := by obtain ⟨r, q, h⟩ := s.raise_shape p i; rw [h]; rfl
@[simp] theorem State.raise_rings (p i : Nat) : (s.raise p i).rings = s.rings := by obtain ⟨r, q, h⟩ := s.raise_shape p i; rw [h]; rfl
@[simp] theorem State.raise_zcors (p i : Nat) : (s.raise p i).zcors = s.zcors := by obtain ⟨r, q, h⟩ := s.raise_shape p i; rw [h]; rfl
@[simp] theorem State.raise_twin (p i : Nat) : (s.raise p i).twin = s.twin := by obtain ⟨r, q, h⟩ := s.raise_shape p i; rw [h]; rfl
@[simp] theorem State.raise_net (p i : Nat) : (s.raise p i).net = s.net := by obtain ⟨r, q, h⟩ := s.raise_shape p i; rw [h]; rfl

/-- Hardware's setting of PEVT bit i of page p touches that register alone. -/
theorem State.reg_raise (p i a : Nat) : (s.raise p i).reg a =
    if a = Adr.PEVT p ∧ s.pageOn p = true then setBit (s.reg (Adr.PEVT p)) i true else s.reg a := by
  unfold State.raise State.when
  by_cases h : s.pageOn p = true <;> by_cases g : s.flag (Adr.PEVT p) i = true <;> by_cases f : a = Adr.PEVT p
  all_goals simp only [h, g, f, Bool.not_true, Bool.not_false, Bool.and_true, Bool.and_false, Bool.false_eq_true, if_false, if_true, true_and,
    and_true, and_false, false_and]
  all_goals try (split <;> simp [State.reg_setFlag, f])
  have : setBit (s.reg (Adr.PEVT p)) i true = s.reg (Adr.PEVT p) := by
    apply word_ext; intro j _; rw [bit_setBit]; split
    · rename_i q; rw [← q.1]; exact g.symm
    · rfl
  exact this.symm

theorem State.raise_reg_ne (p i : Nat) {a : Nat} (h : a ≠ Adr.PEVT p) : (s.raise p i).reg a = s.reg a := by simp [State.reg_raise, h]

/-- A page that is powered shows the flag. -/
theorem State.raise_flag (p i : Nat) (h : s.pageOn p = true) (hi : i < 32) : (s.raise p i).flag (Adr.PEVT p) i = true := by
  simp [State.flag_eq, State.reg_raise, h, hi]

/-! ### What follows every command -/

@[simp] theorem State.zWatch_pending (k : Nat) : (s.zWatch k).pending = s.pending := by unfold State.zWatch; repeat (first | rfl | split | dsimp only)
@[simp] theorem State.zWatch_regs (k : Nat) : (s.zWatch k).regs = s.regs := by unfold State.zWatch; repeat (first | rfl | split | dsimp only)
@[simp] theorem State.zWatch_mem (k : Nat) : (s.zWatch k).mem = s.mem := by unfold State.zWatch; repeat (first | rfl | split | dsimp only)
@[simp] theorem State.zWatch_free (k : Nat) : (s.zWatch k).free = s.free := by unfold State.zWatch; repeat (first | rfl | split | dsimp only)
@[simp] theorem State.zWatch_pwr (k : Nat) : (s.zWatch k).pwr = s.pwr := by unfold State.zWatch; repeat (first | rfl | split | dsimp only)
@[simp] theorem State.zWatch_pins (k : Nat) : (s.zWatch k).pins = s.pins := by unfold State.zWatch; repeat (first | rfl | split | dsimp only)
@[simp] theorem State.zWatch_kept (k : Nat) : (s.zWatch k).kept = s.kept := by unfold State.zWatch; repeat (first | rfl | split | dsimp only)
@[simp] theorem State.zWatch_gms (k : Nat) : (s.zWatch k).gms = s.gms := by unfold State.zWatch; repeat (first | rfl | split | dsimp only)
@[simp] theorem State.zWatch_pages (k : Nat) : (s.zWatch k).pages = s.pages := by unfold State.zWatch; repeat (first | rfl | split | dsimp only)
@[simp] theorem State.zWatch_ports (k : Nat) : (s.zWatch k).ports = s.ports := by unfold State.zWatch; repeat (first | rfl | split | dsimp only)
@[simp] theorem State.zWatch_caps (k : Nat) : (s.zWatch k).caps = s.caps := by unfold State.zWatch; repeat (first | rfl | split | dsimp only)
@[simp] theorem State.zWatch_router (k : Nat) : (s.zWatch k).router = s.router := by unfold State.zWatch; repeat (first | rfl | split | dsimp only)
@[simp] theorem State.zWatch_icx (k : Nat) : (s.zWatch k).icx = s.icx := by unfold State.zWatch; repeat (first | rfl | split | dsimp only)
@[simp] theorem State.zWatch_cores (k : Nat) : (s.zWatch k).cores = s.cores := by unfold State.zWatch; repeat (first | rfl | split | dsimp only)
@[simp] theorem State.zWatch_pairs (k : Nat) : (s.zWatch k).pairs = s.pairs := by unfold State.zWatch; repeat (first | rfl | split | dsimp only)
@[simp] theorem State.zWatch_shroud (k : Nat) : (s.zWatch k).shroud = s.shroud := by unfold State.zWatch; repeat (first | rfl | split | dsimp only)
@[simp] theorem State.zWatch_engines (k : Nat) : (s.zWatch k).engines = s.engines := by unfold State.zWatch; repeat (first | rfl | split | dsimp only)
@[simp] theorem State.zWatch_ctxs (k : Nat) : (s.zWatch k).ctxs = s.ctxs := by unfold State.zWatch; repeat (first | rfl | split | dsimp only)
@[simp] theorem State.zWatch_samples (k : Nat) : (s.zWatch k).samples = s.samples := by unfold State.zWatch; repeat (first | rfl | split | dsimp only)
@[simp] theorem State.zWatch_adcs (k : Nat) : (s.zWatch k).adcs = s.adcs := by unfold State.zWatch; repeat (first | rfl | split | dsimp only)
@[simp] theorem State.zWatch_sdms (k : Nat) : (s.zWatch k).sdms = s.sdms := by unfold State.zWatch; repeat (first | rfl | split | dsimp only)
@[simp] theorem State.zWatch_cmps (k : Nat) : (s.zWatch k).cmps = s.cmps := by unfold State.zWatch; repeat (first | rfl | split | dsimp only)
@[simp] theorem State.zWatch_sensors (k : Nat) : (s.zWatch k).sensors = s.sensors := by unfold State.zWatch; repeat (first | rfl | split | dsimp only)
@[simp] theorem State.zWatch_pwms (k : Nat) : (s.zWatch k).pwms = s.pwms := by unfold State.zWatch; repeat (first | rfl | split | dsimp only)
@[simp] theorem State.zWatch_chans (k : Nat) : (s.zWatch k).chans = s.chans := by unfold State.zWatch; repeat (first | rfl | split | dsimp only)
@[simp] theorem State.zWatch_groups (k : Nat) : (s.zWatch k).groups = s.groups := by unfold State.zWatch; repeat (first | rfl | split | dsimp only)
@[simp] theorem State.zWatch_hvs (k : Nat) : (s.zWatch k).hvs = s.hvs := by unfold State.zWatch; repeat (first | rfl | split | dsimp only)
@[simp] theorem State.zWatch_lvdrv (k : Nat) : (s.zWatch k).lvdrv = s.lvdrv := by unfold State.zWatch; repeat (first | rfl | split | dsimp only)
@[simp] theorem State.zWatch_twls (k : Nat) : (s.zWatch k).twls = s.twls := by unfold State.zWatch; repeat (first | rfl | split | dsimp only)
@[simp] theorem State.zWatch_encs (k : Nat) : (s.zWatch k).encs = s.encs := by unfold State.zWatch; repeat (first | rfl | split | dsimp only)
@[simp] theorem State.zWatch_halls (k : Nat) : (s.zWatch k).halls = s.halls := by unfold State.zWatch; repeat (first | rfl | split | dsimp only)
@[simp] theorem State.zWatch_dcdc (k : Nat) : (s.zWatch k).dcdc = s.dcdc := by unfold State.zWatch; repeat (first | rfl | split | dsimp only)
@[simp] theorem State.zWatch_obc (k : Nat) : (s.zWatch k).obc = s.obc := by unfold State.zWatch; repeat (first | rfl | split | dsimp only)
@[simp] theorem State.zWatch_lamps (k : Nat) : (s.zWatch k).lamps = s.lamps := by unfold State.zWatch; repeat (first | rfl | split | dsimp only)
@[simp] theorem State.zWatch_acts (k : Nat) : (s.zWatch k).acts = s.acts := by unfold State.zWatch; repeat (first | rfl | split | dsimp only)
@[simp] theorem State.zWatch_ctr (k : Nat) : (s.zWatch k).ctr = s.ctr := by unfold State.zWatch; repeat (first | rfl | split | dsimp only)
@[simp] theorem State.zWatch_rings (k : Nat) : (s.zWatch k).rings = s.rings := by unfold State.zWatch; repeat (first | rfl | split | dsimp only)
@[simp] theorem State.zWatch_twin (k : Nat) : (s.zWatch k).twin = s.twin := by unfold State.zWatch; repeat (first | rfl | split | dsimp only)
@[simp] theorem State.zWatch_net (k : Nat) : (s.zWatch k).net = s.net := by unfold State.zWatch; repeat (first | rfl | split | dsimp only)
@[simp] theorem State.vbatWatch_pending : (s.vbatWatch).pending = s.pending := by unfold State.vbatWatch; repeat (first | rfl | split | dsimp only)
@[simp] theorem State.vbatWatch_regs : (s.vbatWatch).regs = s.regs := by unfold State.vbatWatch; repeat (first | rfl | split | dsimp only)
@[simp] theorem State.vbatWatch_mem : (s.vbatWatch).mem = s.mem := by unfold State.vbatWatch; repeat (first | rfl | split | dsimp only)
@[simp] theorem State.vbatWatch_free : (s.vbatWatch).free = s.free := by unfold State.vbatWatch; repeat (first | rfl | split | dsimp only)
@[simp] theorem State.vbatWatch_pwr : (s.vbatWatch).pwr = s.pwr := by unfold State.vbatWatch; repeat (first | rfl | split | dsimp only)
@[simp] theorem State.vbatWatch_pins : (s.vbatWatch).pins = s.pins := by unfold State.vbatWatch; repeat (first | rfl | split | dsimp only)
@[simp] theorem State.vbatWatch_kept : (s.vbatWatch).kept = s.kept := by unfold State.vbatWatch; repeat (first | rfl | split | dsimp only)
@[simp] theorem State.vbatWatch_pages : (s.vbatWatch).pages = s.pages := by unfold State.vbatWatch; repeat (first | rfl | split | dsimp only)
@[simp] theorem State.vbatWatch_ports : (s.vbatWatch).ports = s.ports := by unfold State.vbatWatch; repeat (first | rfl | split | dsimp only)
@[simp] theorem State.vbatWatch_caps : (s.vbatWatch).caps = s.caps := by unfold State.vbatWatch; repeat (first | rfl | split | dsimp only)
@[simp] theorem State.vbatWatch_router : (s.vbatWatch).router = s.router := by unfold State.vbatWatch; repeat (first | rfl | split | dsimp only)
@[simp] theorem State.vbatWatch_icx : (s.vbatWatch).icx = s.icx := by unfold State.vbatWatch; repeat (first | rfl | split | dsimp only)
@[simp] theorem State.vbatWatch_cores : (s.vbatWatch).cores = s.cores := by unfold State.vbatWatch; repeat (first | rfl | split | dsimp only)
@[simp] theorem State.vbatWatch_pairs : (s.vbatWatch).pairs = s.pairs := by unfold State.vbatWatch; repeat (first | rfl | split | dsimp only)
@[simp] theorem State.vbatWatch_shroud : (s.vbatWatch).shroud = s.shroud := by unfold State.vbatWatch; repeat (first | rfl | split | dsimp only)
@[simp] theorem State.vbatWatch_engines : (s.vbatWatch).engines = s.engines := by unfold State.vbatWatch; repeat (first | rfl | split | dsimp only)
@[simp] theorem State.vbatWatch_ctxs : (s.vbatWatch).ctxs = s.ctxs := by unfold State.vbatWatch; repeat (first | rfl | split | dsimp only)
@[simp] theorem State.vbatWatch_samples : (s.vbatWatch).samples = s.samples := by unfold State.vbatWatch; repeat (first | rfl | split | dsimp only)
@[simp] theorem State.vbatWatch_adcs : (s.vbatWatch).adcs = s.adcs := by unfold State.vbatWatch; repeat (first | rfl | split | dsimp only)
@[simp] theorem State.vbatWatch_sdms : (s.vbatWatch).sdms = s.sdms := by unfold State.vbatWatch; repeat (first | rfl | split | dsimp only)
@[simp] theorem State.vbatWatch_cmps : (s.vbatWatch).cmps = s.cmps := by unfold State.vbatWatch; repeat (first | rfl | split | dsimp only)
@[simp] theorem State.vbatWatch_sensors : (s.vbatWatch).sensors = s.sensors := by unfold State.vbatWatch; repeat (first | rfl | split | dsimp only)
@[simp] theorem State.vbatWatch_pwms : (s.vbatWatch).pwms = s.pwms := by unfold State.vbatWatch; repeat (first | rfl | split | dsimp only)
@[simp] theorem State.vbatWatch_chans : (s.vbatWatch).chans = s.chans := by unfold State.vbatWatch; repeat (first | rfl | split | dsimp only)
@[simp] theorem State.vbatWatch_groups : (s.vbatWatch).groups = s.groups := by unfold State.vbatWatch; repeat (first | rfl | split | dsimp only)
@[simp] theorem State.vbatWatch_hvs : (s.vbatWatch).hvs = s.hvs := by unfold State.vbatWatch; repeat (first | rfl | split | dsimp only)
@[simp] theorem State.vbatWatch_lvdrv : (s.vbatWatch).lvdrv = s.lvdrv := by unfold State.vbatWatch; repeat (first | rfl | split | dsimp only)
@[simp] theorem State.vbatWatch_twls : (s.vbatWatch).twls = s.twls := by unfold State.vbatWatch; repeat (first | rfl | split | dsimp only)
@[simp] theorem State.vbatWatch_encs : (s.vbatWatch).encs = s.encs := by unfold State.vbatWatch; repeat (first | rfl | split | dsimp only)
@[simp] theorem State.vbatWatch_halls : (s.vbatWatch).halls = s.halls := by unfold State.vbatWatch; repeat (first | rfl | split | dsimp only)
@[simp] theorem State.vbatWatch_dcdc : (s.vbatWatch).dcdc = s.dcdc := by unfold State.vbatWatch; repeat (first | rfl | split | dsimp only)
@[simp] theorem State.vbatWatch_obc : (s.vbatWatch).obc = s.obc := by unfold State.vbatWatch; repeat (first | rfl | split | dsimp only)
@[simp] theorem State.vbatWatch_lamps : (s.vbatWatch).lamps = s.lamps := by unfold State.vbatWatch; repeat (first | rfl | split | dsimp only)
@[simp] theorem State.vbatWatch_acts : (s.vbatWatch).acts = s.acts := by unfold State.vbatWatch; repeat (first | rfl | split | dsimp only)
@[simp] theorem State.vbatWatch_ctr : (s.vbatWatch).ctr = s.ctr := by unfold State.vbatWatch; repeat (first | rfl | split | dsimp only)
@[simp] theorem State.vbatWatch_rings : (s.vbatWatch).rings = s.rings := by unfold State.vbatWatch; repeat (first | rfl | split | dsimp only)
@[simp] theorem State.vbatWatch_zcors : (s.vbatWatch).zcors = s.zcors := by unfold State.vbatWatch; repeat (first | rfl | split | dsimp only)
@[simp] theorem State.vbatWatch_twin : (s.vbatWatch).twin = s.twin := by unfold State.vbatWatch; repeat (first | rfl | split | dsimp only)
@[simp] theorem State.vbatWatch_net : (s.vbatWatch).net = s.net := by unfold State.vbatWatch; repeat (first | rfl | split | dsimp only)
@[simp] theorem State.settleIrq_pending : (s.settleIrq).pending = s.pending := by rfl
@[simp] theorem State.settleIrq_mem : (s.settleIrq).mem = s.mem := by rfl
@[simp] theorem State.settleIrq_free : (s.settleIrq).free = s.free := by rfl
@[simp] theorem State.settleIrq_pwr : (s.settleIrq).pwr = s.pwr := by rfl
@[simp] theorem State.settleIrq_pins : (s.settleIrq).pins = s.pins := by rfl
@[simp] theorem State.settleIrq_kept : (s.settleIrq).kept = s.kept := by rfl
@[simp] theorem State.settleIrq_gms : (s.settleIrq).gms = s.gms := by rfl
@[simp] theorem State.settleIrq_pages : (s.settleIrq).pages = s.pages := by rfl
@[simp] theorem State.settleIrq_ports : (s.settleIrq).ports = s.ports := by rfl
@[simp] theorem State.settleIrq_caps : (s.settleIrq).caps = s.caps := by rfl
@[simp] theorem State.settleIrq_router : (s.settleIrq).router = s.router := by rfl
@[simp] theorem State.settleIrq_icx : (s.settleIrq).icx = s.icx := by rfl
@[simp] theorem State.settleIrq_cores : (s.settleIrq).cores = s.cores := by rfl
@[simp] theorem State.settleIrq_pairs : (s.settleIrq).pairs = s.pairs := by rfl
@[simp] theorem State.settleIrq_shroud : (s.settleIrq).shroud = s.shroud := by rfl
@[simp] theorem State.settleIrq_engines : (s.settleIrq).engines = s.engines := by rfl
@[simp] theorem State.settleIrq_ctxs : (s.settleIrq).ctxs = s.ctxs := by rfl
@[simp] theorem State.settleIrq_samples : (s.settleIrq).samples = s.samples := by rfl
@[simp] theorem State.settleIrq_adcs : (s.settleIrq).adcs = s.adcs := by rfl
@[simp] theorem State.settleIrq_sdms : (s.settleIrq).sdms = s.sdms := by rfl
@[simp] theorem State.settleIrq_cmps : (s.settleIrq).cmps = s.cmps := by rfl
@[simp] theorem State.settleIrq_sensors : (s.settleIrq).sensors = s.sensors := by rfl
@[simp] theorem State.settleIrq_pwms : (s.settleIrq).pwms = s.pwms := by rfl
@[simp] theorem State.settleIrq_chans : (s.settleIrq).chans = s.chans := by rfl
@[simp] theorem State.settleIrq_groups : (s.settleIrq).groups = s.groups := by rfl
@[simp] theorem State.settleIrq_hvs : (s.settleIrq).hvs = s.hvs := by rfl
@[simp] theorem State.settleIrq_lvdrv : (s.settleIrq).lvdrv = s.lvdrv := by rfl
@[simp] theorem State.settleIrq_twls : (s.settleIrq).twls = s.twls := by rfl
@[simp] theorem State.settleIrq_encs : (s.settleIrq).encs = s.encs := by rfl
@[simp] theorem State.settleIrq_halls : (s.settleIrq).halls = s.halls := by rfl
@[simp] theorem State.settleIrq_dcdc : (s.settleIrq).dcdc = s.dcdc := by rfl
@[simp] theorem State.settleIrq_obc : (s.settleIrq).obc = s.obc := by rfl
@[simp] theorem State.settleIrq_lamps : (s.settleIrq).lamps = s.lamps := by rfl
@[simp] theorem State.settleIrq_acts : (s.settleIrq).acts = s.acts := by rfl
@[simp] theorem State.settleIrq_ctr : (s.settleIrq).ctr = s.ctr := by rfl
@[simp] theorem State.settleIrq_rings : (s.settleIrq).rings = s.rings := by rfl
@[simp] theorem State.settleIrq_zcors : (s.settleIrq).zcors = s.zcors := by rfl
@[simp] theorem State.settleIrq_twin : (s.settleIrq).twin = s.twin := by rfl
@[simp] theorem State.settleIrq_net : (s.settleIrq).net = s.net := by rfl
@[simp] theorem State.zWatch_reg (k a : Nat) : (s.zWatch k).reg a = s.reg a := by simp [State.reg]
@[simp] theorem State.vbatWatch_reg (a : Nat) : (s.vbatWatch).reg a = s.reg a := by simp [State.reg]
@[simp] theorem State.settle_pending : (s.settle).pending = s.pending := by simp [State.settle, State.each]
@[simp] theorem State.settle_mem : (s.settle).mem = s.mem := by simp [State.settle, State.each]
@[simp] theorem State.settle_free : (s.settle).free = s.free := by simp [State.settle, State.each]
@[simp] theorem State.settle_pwr : (s.settle).pwr = s.pwr := by simp [State.settle, State.each]
@[simp] theorem State.settle_pins : (s.settle).pins = s.pins := by simp [State.settle, State.each]
@[simp] theorem State.settle_kept : (s.settle).kept = s.kept := by simp [State.settle, State.each]
@[simp] theorem State.settle_pages : (s.settle).pages = s.pages := by simp [State.settle, State.each]
@[simp] theorem State.settle_ports : (s.settle).ports = s.ports := by simp [State.settle, State.each]
@[simp] theorem State.settle_caps : (s.settle).caps = s.caps := by simp [State.settle, State.each]
@[simp] theorem State.settle_router : (s.settle).router = s.router := by simp [State.settle, State.each]
@[simp] theorem State.settle_icx : (s.settle).icx = s.icx := by simp [State.settle, State.each]
@[simp] theorem State.settle_cores : (s.settle).cores = s.cores := by simp [State.settle, State.each]
@[simp] theorem State.settle_pairs : (s.settle).pairs = s.pairs := by simp [State.settle, State.each]
@[simp] theorem State.settle_shroud : (s.settle).shroud = s.shroud := by simp [State.settle, State.each]
@[simp] theorem State.settle_engines : (s.settle).engines = s.engines := by simp [State.settle, State.each]
@[simp] theorem State.settle_ctxs : (s.settle).ctxs = s.ctxs := by simp [State.settle, State.each]
@[simp] theorem State.settle_samples : (s.settle).samples = s.samples := by simp [State.settle, State.each]
@[simp] theorem State.settle_adcs : (s.settle).adcs = s.adcs := by simp [State.settle, State.each]
@[simp] theorem State.settle_sdms : (s.settle).sdms = s.sdms := by simp [State.settle, State.each]
@[simp] theorem State.settle_cmps : (s.settle).cmps = s.cmps := by simp [State.settle, State.each]
@[simp] theorem State.settle_sensors : (s.settle).sensors = s.sensors := by simp [State.settle, State.each]
@[simp] theorem State.settle_pwms : (s.settle).pwms = s.pwms := by simp [State.settle, State.each]
@[simp] theorem State.settle_chans : (s.settle).chans = s.chans := by simp [State.settle, State.each]
@[simp] theorem State.settle_groups : (s.settle).groups = s.groups := by simp [State.settle, State.each]
@[simp] theorem State.settle_hvs : (s.settle).hvs = s.hvs := by simp [State.settle, State.each]
@[simp] theorem State.settle_lvdrv : (s.settle).lvdrv = s.lvdrv := by simp [State.settle, State.each]
@[simp] theorem State.settle_twls : (s.settle).twls = s.twls := by simp [State.settle, State.each]
@[simp] theorem State.settle_encs : (s.settle).encs = s.encs := by simp [State.settle, State.each]
@[simp] theorem State.settle_halls : (s.settle).halls = s.halls := by simp [State.settle, State.each]
@[simp] theorem State.settle_dcdc : (s.settle).dcdc = s.dcdc := by simp [State.settle, State.each]
@[simp] theorem State.settle_obc : (s.settle).obc = s.obc := by simp [State.settle, State.each]
@[simp] theorem State.settle_lamps : (s.settle).lamps = s.lamps := by simp [State.settle, State.each]
@[simp] theorem State.settle_acts : (s.settle).acts = s.acts := by simp [State.settle, State.each]
@[simp] theorem State.settle_ctr : (s.settle).ctr = s.ctr := by simp [State.settle, State.each]
@[simp] theorem State.settle_rings : (s.settle).rings = s.rings := by simp [State.settle, State.each]
@[simp] theorem State.settle_twin : (s.settle).twin = s.twin := by simp [State.settle, State.each]
@[simp] theorem State.settle_net : (s.settle).net = s.net := by simp [State.settle, State.each]

/-- Every other register is as the meaning left it. -/
theorem State.settle_reg {a : Nat} (h : irqReg a = false) : (s.settle).reg a = s.reg a := by
  simp only [irqReg, List.contains_cons, List.contains_nil, Bool.or_false, Bool.or_eq_false_iff, beq_eq_false_iff_ne, ne_eq] at h
  simp [State.settle, State.settleIrq, State.reg_setReg, State.each, h]

/-- A meaning that is `done` answers a next state. -/
theorem done_eq (s : State) : done s = .next s.settle := rfl

end Sys2Proof.Machine
end

