-- ==== Sys2Proof/Laws/Bus.lean ====
section
/-! SUPPORT. A register written by a port: what a port's access to a page comes to, and what an accepted write is. -/

namespace Sys2Proof.Machine

theorem bytesNat_wordBytes (w : Word) : BitVec.ofNat 32 (bytesNat (wordBytes w)) = w := by
  apply BitVec.eq_of_toNat_eq
  have h := w.isLt
  simp only [wordBytes, bytesNat, BitVec.toNat_ofNat, BitVec.extractLsb'_toNat, Nat.shiftRight_eq_div_pow]
  omega

theorem busAddr_toNat {a : Nat} (h : a < 0x200000) : (BitVec.ofNat 32 (busAddr a)).toNat = 0x40000000 + a := by
  simp only [busAddr, BitVec.toNat_ofNat]; omega

theorem targetOf_page {a : Nat} (h : a < 0x200000) : targetOf (0x40000000 + a) = some (12 + a / 0x100000) := by
  unfold targetOf
  repeat rw [if_neg (by omega)]
  rw [if_pos (by omega)]
  simp

/-- An access of a live port to a page's register is a register write, answered. -/
theorem State.portStore_eq (s : State) (port a : Nat) (w : Word) (h : a < 0x200000) :
    s.portStore port a w = if s.portLive port then
      match s.regWrite port (BitVec.ofNat 32 (busAddr a)) a .plain w with
      | (u, none) => u.answer port (.ok [])
      | (u, some r) => u.answer port (.err r)
    else s := by
  have ht := targetOf_page h
  have hb := busAddr_toNat h
  have hm : (0x40000000 + a) % 0x1000000 = a := by omega
  have hk : writeMode (0x40000000 + a) = .plain := by unfold writeMode; rw [if_pos (by omega)]
  have hq : a / 0x100000 = 0 ∨ a / 0x100000 = 1 := by omega
  unfold State.portStore State.perform
  by_cases hl : s.portLive port = true
  · rw [if_pos hl, if_pos hl]
    unfold State.access writeTxn
    simp only [hb]
    rw [ht]
    rcases hq with hq | hq <;> rw [hq] <;>
    · simp only [State.pageAccess, hb, hm, hk, bytesNat_wordBytes, ne_eq, not_true_eq_false, or_self, if_false, if_true, reduceIte]
      split <;> rename_i e <;> simp [e]
  · rw [if_neg hl, if_neg hl]

/-- A read of a page's register by a live port. -/
theorem State.portLoad_eq (s : State) (port a : Nat) (h : a < 0x200000) :
    s.portLoad port a = if s.portLive port then
      match s.regRead port (BitVec.ofNat 32 (busAddr a)) a with
      | (u, some v) => u.answer port (.ok (wordBytes v))
      | (u, none) => u.answer port (.err Reason.domainOff)
    else s := by
  have ht := targetOf_page h
  have hb := busAddr_toNat h
  have hm : (0x40000000 + a) % 0x1000000 = a := by omega
  have hq : a / 0x100000 = 0 ∨ a / 0x100000 = 1 := by omega
  unfold State.portLoad State.perform
  by_cases hl : s.portLive port = true
  · rw [if_pos hl, if_pos hl]
    unfold State.access readTxn
    simp only [hb]
    rw [ht]
    rcases hq with hq | hq <;> rw [hq] <;>
    · simp only [State.pageAccess, hb, hm, ne_eq, not_true_eq_false, or_self, if_false, reduceIte, Bool.false_eq_true]
      split <;> rename_i e <;> simp [e]
  · rw [if_neg hl, if_neg hl]

@[simp] theorem State.setKey_reg (s : State) (p : Nat) (k : Key) (a : Nat) : (s.setKey p k).reg a = s.reg a := by simp [State.setKey]

/-- A write that nothing refuses stores in its register and does what the register's block does beside it (R72). -/
theorem State.regWrite_accept (s : State) (port : Nat) (bus : Word) (a : Nat) (m : WriteMode) (w : Word) {r : BlockRow}
    (hr : pageRow (a / 4096) = some r) (hon : s.pageOn (a / 4096) = true) (hp : port < 5) (ho : s.ownerPort (a / 4096) port = true)
    (h18 : a % 4096 ≠ 0x18) (h1C : a % 4096 ≠ 0x1C) (h04 : a % 4096 ≠ 0x04) (hw : s.refusalOf port a m w = none) :
    s.regWrite port bus a m w =
      ((s.setKey (a / 4096) .idle).writeReg port (a / 4096) (a % 4096) (regInfo (a / 4096) (a % 4096)) m w (s.reg a)
        ((s.setKey (a / 4096) .idle).wouldHold (a / 4096) (a % 4096) (regInfo (a / 4096) (a % 4096)) m w (s.reg a)), none) := by
  unfold State.refusalOf at hw
  have hkey : ∀ k : Key, k.after port none = .idle := fun _ => rfl
  unfold State.regWrite
  simp [hr, hon, ho, h18, h1C, h04, hkey, hw, show ¬ 5 ≤ port by omega]

/-- The same for PCTRL. -/
theorem State.regWrite_pctrl (s : State) (port : Nat) (bus : Word) (a : Nat) (m : WriteMode) (w : Word) {r : BlockRow}
    (hr : pageRow (a / 4096) = some r) (hon : s.pageOn (a / 4096) = true) (hp : port < 5) (ho : s.ownerPort (a / 4096) port = true)
    (h04 : a % 4096 = 0x04) (hw : s.refusalOf port a m w = none) :
    s.regWrite port bus a m w =
      ((s.setKey (a / 4096) .idle).writePctrl (a / 4096) (m == .plain && bit w 1) (s.reg a)
        ((s.setKey (a / 4096) .idle).wouldHold (a / 4096) (a % 4096) (regInfo (a / 4096) (a % 4096)) m w (s.reg a)), none) := by
  unfold State.refusalOf at hw
  have hkey : ∀ k : Key, k.after port none = .idle := fun _ => rfl
  unfold State.regWrite
  simp only [h04] at hw ⊢
  simp [hr, hon, ho, hkey, hw, show ¬ 5 ≤ port by omega]

/-- A write that something refuses: nothing is stored, the access is logged with its reason (R72, R74). -/
theorem State.regWrite_notOwner (s : State) (port : Nat) (bus : Word) (a : Nat) (m : WriteMode) (w : Word) {r : BlockRow}
    (hr : pageRow (a / 4096) = some r) (hon : s.pageOn (a / 4096) = true) (hp : port < 5) (ho : s.ownerPort (a / 4096) port = false)
    (h18 : a % 4096 ≠ 0x18) : s.regWrite port bus a m w = s.refuse port bus Reason.notOwner true := by
  unfold State.regWrite
  simp [hr, hon, ho, h18, show ¬ 5 ≤ port by omega]

end Sys2Proof.Machine
end

