-- ==== Sys2Proof/Laws/Mem.lean ====
section
/-! SUPPORT. Addressed memory: reading after writing, and its canonical form, which every memory operation keeps. -/

namespace Sys2Proof.Machine

variable (s : State)

theorem State.byte_putByte (a : Nat) (b : Byte) (j : Nat) : (s.putByte a b).byte j = if j = a then b else s.byte j :=
  Store.get_put _ s.mem a j b

@[simp] theorem State.putByte_reg (a : Nat) (b : Byte) (c : Nat) : (s.putByte a b).reg c = s.reg c := rfl

/-- A byte outside the bytes written reads as before; one inside reads its byte. -/
theorem State.byte_putBytes (l : List Byte) (a j : Nat) :
    (s.putBytes a l).byte j = if h : a ≤ j ∧ j < a + l.length then l[j - a]'(by omega) else s.byte j := by
  induction l generalizing s a with
  | nil => simp only [State.putBytes, List.length_nil]; rw [dif_neg (by omega)]
  | cons b t ih =>
    simp only [State.putBytes, ih, List.length_cons, State.byte_putByte]
    by_cases e : j = a
    · subst e; rw [dif_neg (by omega), dif_pos (by omega)]; simp
    · by_cases g : a + 1 ≤ j ∧ j < a + 1 + t.length
      · rw [dif_pos g, dif_pos (by omega)]
        rw [List.getElem_cons, dif_neg (by omega)]
        congr 1
      · rw [dif_neg g, dif_neg (by omega), if_neg e]

theorem State.byte_putBytes_ne (l : List Byte) {a j : Nat} (h : j < a ∨ a + l.length ≤ j) : (s.putBytes a l).byte j = s.byte j := by
  rw [State.byte_putBytes, dif_neg (by omega)]

theorem State.bytes_putBytes_ne (l : List Byte) {a b n : Nat} (h : b + n ≤ a ∨ a + l.length ≤ b) : (s.putBytes a l).bytes b n = s.bytes b n := by
  apply List.map_congr_left
  intro i hi
  have := List.mem_range.mp hi
  exact State.byte_putBytes_ne s l (by omega)

theorem State.bytes_putBytes_self (l : List Byte) (a : Nat) : (s.putBytes a l).bytes a l.length = l := by
  apply List.ext_getElem
  · simp [State.bytes]
  · intro i h1 h2
    simp only [State.bytes, List.getElem_map, List.getElem_range, State.byte_putBytes]
    rw [dif_pos (by omega)]
    congr 1; omega

@[simp] theorem wordBytes_length (w : Word) : (wordBytes w).length = 4 := rfl

theorem bytesNat_word (w : Word) : BitVec.ofNat 32 (bytesNat (wordBytes w)) = w := by
  apply BitVec.eq_of_toNat_eq
  have h := w.isLt
  simp only [wordBytes, bytesNat, BitVec.toNat_ofNat, BitVec.extractLsb'_toNat, Nat.shiftRight_eq_div_pow]
  omega

/-- A word of memory written reads the word. -/
@[simp] theorem State.mword_putWord_self (a : Nat) (w : Word) : (s.putWord a w).mword a = w := by
  have h := s.bytes_putBytes_self (wordBytes w) a
  rw [wordBytes_length] at h
  unfold State.mword State.putWord
  rw [h]; exact bytesNat_word w

/-- A word away from the bytes written reads as before. -/
theorem State.mword_putBytes_ne (l : List Byte) {a b : Nat} (h : b + 4 ≤ a ∨ a + l.length ≤ b) : (s.putBytes a l).mword b = s.mword b := by
  unfold State.mword; rw [State.bytes_putBytes_ne s l h]

theorem State.mword_putWord_ne (w : Word) {a b : Nat} (h : b + 4 ≤ a ∨ a + 4 ≤ b) : (s.putWord a w).mword b = s.mword b :=
  s.mword_putBytes_ne (wordBytes w) (by simpa using h)

theorem State.byte_clearMem (a n j : Nat) : (s.clearMem a n).byte j = if a ≤ j ∧ j < a + n then 0#8 else s.byte j := by
  have := Store.get_clear (fun _ => 0#8) (fun k => decide (a ≤ k) && decide (k < a + n)) s.mem j
  unfold State.byte State.clearMem
  simp only [State.setMem_mem, this, Bool.and_eq_true, decide_eq_true_eq]

/-! ### Which fields a write of memory leaves alone -/

theorem State.putBytes_shape (l : List Byte) (a : Nat) : ∃ m, s.putBytes a l = s.setMem m := by
  induction l generalizing s a with
  | nil => exact ⟨s.mem, rfl⟩
  | cons b t ih => obtain ⟨m, h⟩ := ih (s.putByte a b) (a + 1); exact ⟨m, h⟩

@[simp] theorem State.putBytes_reg (l : List Byte) (a c : Nat) : (s.putBytes a l).reg c = s.reg c := by
  obtain ⟨m, h⟩ := s.putBytes_shape l a; rw [h]; rfl
@[simp] theorem State.putBytes_pending (l : List Byte) (a : Nat) : (s.putBytes a l).pending = s.pending := by
  obtain ⟨m, h⟩ := s.putBytes_shape l a; rw [h]; rfl
@[simp] theorem State.putWord_pending (a : Nat) (w : Word) : (s.putWord a w).pending = s.pending := s.putBytes_pending _ _
@[simp] theorem State.putBytes_regs (l : List Byte) (a : Nat) : (s.putBytes a l).regs = s.regs := by
  obtain ⟨m, h⟩ := s.putBytes_shape l a; rw [h]; rfl
@[simp] theorem State.putWord_regs (a : Nat) (w : Word) : (s.putWord a w).regs = s.regs := s.putBytes_regs _ _
@[simp] theorem State.putBytes_free (l : List Byte) (a : Nat) : (s.putBytes a l).free = s.free := by
  obtain ⟨m, h⟩ := s.putBytes_shape l a; rw [h]; rfl
@[simp] theorem State.putWord_free (a : Nat) (w : Word) : (s.putWord a w).free = s.free := s.putBytes_free _ _
@[simp] theorem State.putBytes_pwr (l : List Byte) (a : Nat) : (s.putBytes a l).pwr = s.pwr := by
  obtain ⟨m, h⟩ := s.putBytes_shape l a; rw [h]; rfl
@[simp] theorem State.putWord_pwr (a : Nat) (w : Word) : (s.putWord a w).pwr = s.pwr := s.putBytes_pwr _ _
@[simp] theorem State.putBytes_pins (l : List Byte) (a : Nat) : (s.putBytes a l).pins = s.pins := by
  obtain ⟨m, h⟩ := s.putBytes_shape l a; rw [h]; rfl
@[simp] theorem State.putWord_pins (a : Nat) (w : Word) : (s.putWord a w).pins = s.pins := s.putBytes_pins _ _
@[simp] theorem State.putBytes_kept (l : List Byte) (a : Nat) : (s.putBytes a l).kept = s.kept := by
  obtain ⟨m, h⟩ := s.putBytes_shape l a; rw [h]; rfl
@[simp] theorem State.putWord_kept (a : Nat) (w : Word) : (s.putWord a w).kept = s.kept := s.putBytes_kept _ _
@[simp] theorem State.putBytes_gms (l : List Byte) (a : Nat) : (s.putBytes a l).gms = s.gms := by
  obtain ⟨m, h⟩ := s.putBytes_shape l a; rw [h]; rfl
@[simp] theorem State.putWord_gms (a : Nat) (w : Word) : (s.putWord a w).gms = s.gms := s.putBytes_gms _ _
@[simp] theorem State.putBytes_pages (l : List Byte) (a : Nat) : (s.putBytes a l).pages = s.pages := by
  obtain ⟨m, h⟩ := s.putBytes_shape l a; rw [h]; rfl
@[simp] theorem State.putWord_pages (a : Nat) (w : Word) : (s.putWord a w).pages = s.pages := s.putBytes_pages _ _
@[simp] theorem State.putBytes_ports (l : List Byte) (a : Nat) : (s.putBytes a l).ports = s.ports := by
  obtain ⟨m, h⟩ := s.putBytes_shape l a; rw [h]; rfl
@[simp] theorem State.putWord_ports (a : Nat) (w : Word) : (s.putWord a w).ports = s.ports := s.putBytes_ports _ _
@[simp] theorem State.putBytes_caps (l : List Byte) (a : Nat) : (s.putBytes a l).caps = s.caps := by
  obtain ⟨m, h⟩ := s.putBytes_shape l a; rw [h]; rfl
@[simp] theorem State.putWord_caps (a : Nat) (w : Word) : (s.putWord a w).caps = s.caps := s.putBytes_caps _ _
@[simp] theorem State.putBytes_router (l : List Byte) (a : Nat) : (s.putBytes a l).router = s.router := by
  obtain ⟨m, h⟩ := s.putBytes_shape l a; rw [h]; rfl
@[simp] theorem State.putWord_router (a : Nat) (w : Word) : (s.putWord a w).router = s.router := s.putBytes_router _ _
@[simp] theorem State.putBytes_icx (l : List Byte) (a : Nat) : (s.putBytes a l).icx = s.icx := by
  obtain ⟨m, h⟩ := s.putBytes_shape l a; rw [h]; rfl
@[simp] theorem State.putWord_icx (a : Nat) (w : Word) : (s.putWord a w).icx = s.icx := s.putBytes_icx _ _
@[simp] theorem State.putBytes_cores (l : List Byte) (a : Nat) : (s.putBytes a l).cores = s.cores := by
  obtain ⟨m, h⟩ := s.putBytes_shape l a; rw [h]; rfl
@[simp] theorem State.putWord_cores (a : Nat) (w : Word) : (s.putWord a w).cores = s.cores := s.putBytes_cores _ _
@[simp] theorem State.putBytes_pairs (l : List Byte) (a : Nat) : (s.putBytes a l).pairs = s.pairs := by
  obtain ⟨m, h⟩ := s.putBytes_shape l a; rw [h]; rfl
@[simp] theorem State.putWord_pairs (a : Nat) (w : Word) : (s.putWord a w).pairs = s.pairs := s.putBytes_pairs _ _
@[simp] theorem State.putBytes_shroud (l : List Byte) (a : Nat) : (s.putBytes a l).shroud = s.shroud := by
  obtain ⟨m, h⟩ := s.putBytes_shape l a; rw [h]; rfl
@[simp] theorem State.putWord_shroud (a : Nat) (w : Word) : (s.putWord a w).shroud = s.shroud := s.putBytes_shroud _ _
@[simp] theorem State.putBytes_engines (l : List Byte) (a : Nat) : (s.putBytes a l).engines = s.engines := by
  obtain ⟨m, h⟩ := s.putBytes_shape l a; rw [h]; rfl
@[simp] theorem State.putWord_engines (a : Nat) (w : Word) : (s.putWord a w).engines = s.engines := s.putBytes_engines _ _
@[simp] theorem State.putBytes_ctxs (l : List Byte) (a : Nat) : (s.putBytes a l).ctxs = s.ctxs := by
  obtain ⟨m, h⟩ := s.putBytes_shape l a; rw [h]; rfl
@[simp] theorem State.putWord_ctxs (a : Nat) (w : Word) : (s.putWord a w).ctxs = s.ctxs := s.putBytes_ctxs _ _
@[simp] theorem State.putBytes_samples (l : List Byte) (a : Nat) : (s.putBytes a l).samples = s.samples := by
  obtain ⟨m, h⟩ := s.putBytes_shape l a; rw [h]; rfl
@[simp] theorem State.putWord_samples (a : Nat) (w : Word) : (s.putWord a w).samples = s.samples := s.putBytes_samples _ _
@[simp] theorem State.putBytes_adcs (l : List Byte) (a : Nat) : (s.putBytes a l).adcs = s.adcs := by
  obtain ⟨m, h⟩ := s.putBytes_shape l a; rw [h]; rfl
@[simp] theorem State.putWord_adcs (a : Nat) (w : Word) : (s.putWord a w).adcs = s.adcs := s.putBytes_adcs _ _
@[simp] theorem State.putBytes_sdms (l : List Byte) (a : Nat) : (s.putBytes a l).sdms = s.sdms := by
  obtain ⟨m, h⟩ := s.putBytes_shape l a; rw [h]; rfl
@[simp] theorem State.putWord_sdms (a : Nat) (w : Word) : (s.putWord a w).sdms = s.sdms := s.putBytes_sdms _ _
@[simp] theorem State.putBytes_cmps (l : List Byte) (a : Nat) : (s.putBytes a l).cmps = s.cmps := by
  obtain ⟨m, h⟩ := s.putBytes_shape l a; rw [h]; rfl
@[simp] theorem State.putWord_cmps (a : Nat) (w : Word) : (s.putWord a w).cmps = s.cmps := s.putBytes_cmps _ _
@[simp] theorem State.putBytes_sensors (l : List Byte) (a : Nat) : (s.putBytes a l).sensors = s.sensors := by
  obtain ⟨m, h⟩ := s.putBytes_shape l a; rw [h]; rfl
@[simp] theorem State.putWord_sensors (a : Nat) (w : Word) : (s.putWord a w).sensors = s.sensors := s.putBytes_sensors _ _
@[simp] theorem State.putBytes_pwms (l : List Byte) (a : Nat) : (s.putBytes a l).pwms = s.pwms := by
  obtain ⟨m, h⟩ := s.putBytes_shape l a; rw [h]; rfl
@[simp] theorem State.putWord_pwms (a : Nat) (w : Word) : (s.putWord a w).pwms = s.pwms := s.putBytes_pwms _ _
@[simp] theorem State.putBytes_chans (l : List Byte) (a : Nat) : (s.putBytes a l).chans = s.chans := by
  obtain ⟨m, h⟩ := s.putBytes_shape l a; rw [h]; rfl
@[simp] theorem State.putWord_chans (a : Nat) (w : Word) : (s.putWord a w).chans = s.chans := s.putBytes_chans _ _
@[simp] theorem State.putBytes_groups (l : List Byte) (a : Nat) : (s.putBytes a l).groups = s.groups := by
  obtain ⟨m, h⟩ := s.putBytes_shape l a; rw [h]; rfl
@[simp] theorem State.putWord_groups (a : Nat) (w : Word) : (s.putWord a w).groups = s.groups := s.putBytes_groups _ _
@[simp] theorem State.putBytes_hvs (l : List Byte) (a : Nat) : (s.putBytes a l).hvs = s.hvs := by
  obtain ⟨m, h⟩ := s.putBytes_shape l a; rw [h]; rfl
@[simp] theorem State.putWord_hvs (a : Nat) (w : Word) : (s.putWord a w).hvs = s.hvs := s.putBytes_hvs _ _
@[simp] theorem State.putBytes_lvdrv (l : List Byte) (a : Nat) : (s.putBytes a l).lvdrv = s.lvdrv := by
  obtain ⟨m, h⟩ := s.putBytes_shape l a; rw [h]; rfl
@[simp] theorem State.putWord_lvdrv (a : Nat) (w : Word) : (s.putWord a w).lvdrv = s.lvdrv := s.putBytes_lvdrv _ _
@[simp] theorem State.putBytes_twls (l : List Byte) (a : Nat) : (s.putBytes a l).twls = s.twls := by
  obtain ⟨m, h⟩ := s.putBytes_shape l a; rw [h]; rfl
@[simp] theorem State.putWord_twls (a : Nat) (w : Word) : (s.putWord a w).twls = s.twls := s.putBytes_twls _ _
@[simp] theorem State.putBytes_encs (l : List Byte) (a : Nat) : (s.putBytes a l).encs = s.encs := by
  obtain ⟨m, h⟩ := s.putBytes_shape l a; rw [h]; rfl
@[simp] theorem State.putWord_encs (a : Nat) (w : Word) : (s.putWord a w).encs = s.encs := s.putBytes_encs _ _
@[simp] theorem State.putBytes_halls (l : List Byte) (a : Nat) : (s.putBytes a l).halls = s.halls := by
  obtain ⟨m, h⟩ := s.putBytes_shape l a; rw [h]; rfl
@[simp] theorem State.putWord_halls (a : Nat) (w : Word) : (s.putWord a w).halls = s.halls := s.putBytes_halls _ _
@[simp] theorem State.putBytes_dcdc (l : List Byte) (a : Nat) : (s.putBytes a l).dcdc = s.dcdc := by
  obtain ⟨m, h⟩ := s.putBytes_shape l a; rw [h]; rfl
@[simp] theorem State.putWord_dcdc (a : Nat) (w : Word) : (s.putWord a w).dcdc = s.dcdc := s.putBytes_dcdc _ _
@[simp] theorem State.putBytes_obc (l : List Byte) (a : Nat) : (s.putBytes a l).obc = s.obc := by
  obtain ⟨m, h⟩ := s.putBytes_shape l a; rw [h]; rfl
@[simp] theorem State.putWord_obc (a : Nat) (w : Word) : (s.putWord a w).obc = s.obc := s.putBytes_obc _ _
@[simp] theorem State.putBytes_lamps (l : List Byte) (a : Nat) : (s.putBytes a l).lamps = s.lamps := by
  obtain ⟨m, h⟩ := s.putBytes_shape l a; rw [h]; rfl
@[simp] theorem State.putWord_lamps (a : Nat) (w : Word) : (s.putWord a w).lamps = s.lamps := s.putBytes_lamps _ _
@[simp] theorem State.putBytes_acts (l : List Byte) (a : Nat) : (s.putBytes a l).acts = s.acts := by
  obtain ⟨m, h⟩ := s.putBytes_shape l a; rw [h]; rfl
@[simp] theorem State.putWord_acts (a : Nat) (w : Word) : (s.putWord a w).acts = s.acts := s.putBytes_acts _ _
@[simp] theorem State.putBytes_ctr (l : List Byte) (a : Nat) : (s.putBytes a l).ctr = s.ctr := by
  obtain ⟨m, h⟩ := s.putBytes_shape l a; rw [h]; rfl
@[simp] theorem State.putWord_ctr (a : Nat) (w : Word) : (s.putWord a w).ctr = s.ctr := s.putBytes_ctr _ _
@[simp] theorem State.putBytes_rings (l : List Byte) (a : Nat) : (s.putBytes a l).rings = s.rings := by
  obtain ⟨m, h⟩ := s.putBytes_shape l a; rw [h]; rfl
@[simp] theorem State.putWord_rings (a : Nat) (w : Word) : (s.putWord a w).rings = s.rings := s.putBytes_rings _ _
@[simp] theorem State.putBytes_zcors (l : List Byte) (a : Nat) : (s.putBytes a l).zcors = s.zcors := by
  obtain ⟨m, h⟩ := s.putBytes_shape l a; rw [h]; rfl
@[simp] theorem State.putWord_zcors (a : Nat) (w : Word) : (s.putWord a w).zcors = s.zcors := s.putBytes_zcors _ _
@[simp] theorem State.putBytes_twin (l : List Byte) (a : Nat) : (s.putBytes a l).twin = s.twin := by
  obtain ⟨m, h⟩ := s.putBytes_shape l a; rw [h]; rfl
@[simp] theorem State.putWord_twin (a : Nat) (w : Word) : (s.putWord a w).twin = s.twin := s.putBytes_twin _ _
@[simp] theorem State.putBytes_net (l : List Byte) (a : Nat) : (s.putBytes a l).net = s.net := by
  obtain ⟨m, h⟩ := s.putBytes_shape l a; rw [h]; rfl
@[simp] theorem State.putWord_net (a : Nat) (w : Word) : (s.putWord a w).net = s.net := s.putBytes_net _ _
@[simp] theorem State.putWord_reg (a : Nat) (w : Word) (c : Nat) : (s.putWord a w).reg c = s.reg c := s.putBytes_reg _ _ _

/-! ### The canonical form -/

theorem State.wf_putByte (a : Nat) (b : Byte) (h : Memory.wf s.mem) : Memory.wf (s.putByte a b).mem := Store.wf_put _ s.mem a b h

theorem State.wf_putBytes (l : List Byte) (a : Nat) (h : Memory.wf s.mem) : Memory.wf (s.putBytes a l).mem := by
  induction l generalizing s a with
  | nil => exact h
  | cons b t ih => exact ih _ _ (s.wf_putByte a b h)

theorem State.wf_putWord (a : Nat) (w : Word) (h : Memory.wf s.mem) : Memory.wf (s.putWord a w).mem := s.wf_putBytes _ _ h

theorem State.wf_clearMem (a n : Nat) (h : Memory.wf s.mem) : Memory.wf (s.clearMem a n).mem := by
  unfold State.clearMem
  exact Store.wf_clear (fun _ => 0#8) (fun k => decide (a ≤ k) && decide (k < a + n)) s.mem h

theorem State.wf_reset : Memory.wf State.reset.mem := rfl

end Sys2Proof.Machine
end

