-- ==== Sys2Proof/Laws/Mailbox.lean ====
section
/-! SUPPORT. The mailbox: what a completed command leaves, and the command that GMS runs next (R402 to R404). -/

namespace Sys2Proof.Machine

variable (s : State)

theorem State.byte_congr {s t : State} (h : s.mem = t.mem) (a : Nat) : s.byte a = t.byte a := by unfold State.byte; rw [h]
theorem State.bytes_congr {s t : State} (h : s.mem = t.mem) (a n : Nat) : s.bytes a n = t.bytes a n := by
  unfold State.bytes State.byte; rw [h]
theorem State.mword_congr {s t : State} (h : s.mem = t.mem) (a : Nat) : s.mword a = t.mword a := by
  unfold State.mword; rw [State.bytes_congr h]

@[simp] theorem State.mbxWrite_pending (pair result : Nat) (resp : List Byte) : (s.mbxWrite pair result resp).pending = s.pending := by simp [State.mbxWrite]
@[simp] theorem State.mbxWrite_regs (pair result : Nat) (resp : List Byte) : (s.mbxWrite pair result resp).regs = s.regs := by simp [State.mbxWrite]
@[simp] theorem State.mbxWrite_free (pair result : Nat) (resp : List Byte) : (s.mbxWrite pair result resp).free = s.free := by simp [State.mbxWrite]
@[simp] theorem State.mbxWrite_pwr (pair result : Nat) (resp : List Byte) : (s.mbxWrite pair result resp).pwr = s.pwr := by simp [State.mbxWrite]
@[simp] theorem State.mbxWrite_pins (pair result : Nat) (resp : List Byte) : (s.mbxWrite pair result resp).pins = s.pins := by simp [State.mbxWrite]
@[simp] theorem State.mbxWrite_kept (pair result : Nat) (resp : List Byte) : (s.mbxWrite pair result resp).kept = s.kept := by simp [State.mbxWrite]
@[simp] theorem State.mbxWrite_gms (pair result : Nat) (resp : List Byte) : (s.mbxWrite pair result resp).gms = s.gms := by simp [State.mbxWrite]
@[simp] theorem State.mbxWrite_pages (pair result : Nat) (resp : List Byte) : (s.mbxWrite pair result resp).pages = s.pages := by simp [State.mbxWrite]
@[simp] theorem State.mbxWrite_ports (pair result : Nat) (resp : List Byte) : (s.mbxWrite pair result resp).ports = s.ports := by simp [State.mbxWrite]
@[simp] theorem State.mbxWrite_caps (pair result : Nat) (resp : List Byte) : (s.mbxWrite pair result resp).caps = s.caps := by simp [State.mbxWrite]
@[simp] theorem State.mbxWrite_router (pair result : Nat) (resp : List Byte) : (s.mbxWrite pair result resp).router = s.router := by simp [State.mbxWrite]
@[simp] theorem State.mbxWrite_icx (pair result : Nat) (resp : List Byte) : (s.mbxWrite pair result resp).icx = s.icx := by simp [State.mbxWrite]
@[simp] theorem State.mbxWrite_cores (pair result : Nat) (resp : List Byte) : (s.mbxWrite pair result resp).cores = s.cores := by simp [State.mbxWrite]
@[simp] theorem State.mbxWrite_pairs (pair result : Nat) (resp : List Byte) : (s.mbxWrite pair result resp).pairs = s.pairs := by simp [State.mbxWrite]
@[simp] theorem State.mbxWrite_shroud (pair result : Nat) (resp : List Byte) : (s.mbxWrite pair result resp).shroud = s.shroud := by simp [State.mbxWrite]
@[simp] theorem State.mbxWrite_engines (pair result : Nat) (resp : List Byte) : (s.mbxWrite pair result resp).engines = s.engines := by simp [State.mbxWrite]
@[simp] theorem State.mbxWrite_ctxs (pair result : Nat) (resp : List Byte) : (s.mbxWrite pair result resp).ctxs = s.ctxs := by simp [State.mbxWrite]
@[simp] theorem State.mbxWrite_samples (pair result : Nat) (resp : List Byte) : (s.mbxWrite pair result resp).samples = s.samples := by simp [State.mbxWrite]
@[simp] theorem State.mbxWrite_adcs (pair result : Nat) (resp : List Byte) : (s.mbxWrite pair result resp).adcs = s.adcs := by simp [State.mbxWrite]
@[simp] theorem State.mbxWrite_sdms (pair result : Nat) (resp : List Byte) : (s.mbxWrite pair result resp).sdms = s.sdms := by simp [State.mbxWrite]
@[simp] theorem State.mbxWrite_cmps (pair result : Nat) (resp : List Byte) : (s.mbxWrite pair result resp).cmps = s.cmps := by simp [State.mbxWrite]
@[simp] theorem State.mbxWrite_sensors (pair result : Nat) (resp : List Byte) : (s.mbxWrite pair result resp).sensors = s.sensors := by simp [State.mbxWrite]
@[simp] theorem State.mbxWrite_pwms (pair result : Nat) (resp : List Byte) : (s.mbxWrite pair result resp).pwms = s.pwms := by simp [State.mbxWrite]
@[simp] theorem State.mbxWrite_chans (pair result : Nat) (resp : List Byte) : (s.mbxWrite pair result resp).chans = s.chans := by simp [State.mbxWrite]
@[simp] theorem State.mbxWrite_groups (pair result : Nat) (resp : List Byte) : (s.mbxWrite pair result resp).groups = s.groups := by simp [State.mbxWrite]
@[simp] theorem State.mbxWrite_hvs (pair result : Nat) (resp : List Byte) : (s.mbxWrite pair result resp).hvs = s.hvs := by simp [State.mbxWrite]
@[simp] theorem State.mbxWrite_lvdrv (pair result : Nat) (resp : List Byte) : (s.mbxWrite pair result resp).lvdrv = s.lvdrv := by simp [State.mbxWrite]
@[simp] theorem State.mbxWrite_twls (pair result : Nat) (resp : List Byte) : (s.mbxWrite pair result resp).twls = s.twls := by simp [State.mbxWrite]
@[simp] theorem State.mbxWrite_encs (pair result : Nat) (resp : List Byte) : (s.mbxWrite pair result resp).encs = s.encs := by simp [State.mbxWrite]
@[simp] theorem State.mbxWrite_halls (pair result : Nat) (resp : List Byte) : (s.mbxWrite pair result resp).halls = s.halls := by simp [State.mbxWrite]
@[simp] theorem State.mbxWrite_dcdc (pair result : Nat) (resp : List Byte) : (s.mbxWrite pair result resp).dcdc = s.dcdc := by simp [State.mbxWrite]
@[simp] theorem State.mbxWrite_obc (pair result : Nat) (resp : List Byte) : (s.mbxWrite pair result resp).obc = s.obc := by simp [State.mbxWrite]
@[simp] theorem State.mbxWrite_lamps (pair result : Nat) (resp : List Byte) : (s.mbxWrite pair result resp).lamps = s.lamps := by simp [State.mbxWrite]
@[simp] theorem State.mbxWrite_acts (pair result : Nat) (resp : List Byte) : (s.mbxWrite pair result resp).acts = s.acts := by simp [State.mbxWrite]
@[simp] theorem State.mbxWrite_ctr (pair result : Nat) (resp : List Byte) : (s.mbxWrite pair result resp).ctr = s.ctr := by simp [State.mbxWrite]
@[simp] theorem State.mbxWrite_rings (pair result : Nat) (resp : List Byte) : (s.mbxWrite pair result resp).rings = s.rings := by simp [State.mbxWrite]
@[simp] theorem State.mbxWrite_zcors (pair result : Nat) (resp : List Byte) : (s.mbxWrite pair result resp).zcors = s.zcors := by simp [State.mbxWrite]
@[simp] theorem State.mbxWrite_twin (pair result : Nat) (resp : List Byte) : (s.mbxWrite pair result resp).twin = s.twin := by simp [State.mbxWrite]
@[simp] theorem State.mbxWrite_net (pair result : Nat) (resp : List Byte) : (s.mbxWrite pair result resp).net = s.net := by simp [State.mbxWrite]
@[simp] theorem State.mbxWrite_reg (pair result : Nat) (resp : List Byte) (a : Nat) : (s.mbxWrite pair result resp).reg a = s.reg a := by simp [State.mbxWrite]

/-- Memory away from the pair's area reads as before. -/
theorem State.mbxWrite_mword_ne (pair d result : Nat) (h : d ≠ pair) (k : Nat) (hk : k + 4 ≤ 0x8000) :
    (s.mbxWrite d result []).mword (mbxBase pair + k) = s.mword (mbxBase pair + k) := by
  have hb : mbxBase d + 0x8000 ≤ mbxBase pair ∨ mbxBase pair + 0x8000 ≤ mbxBase d := by unfold mbxBase; omega
  unfold State.mbxWrite
  rw [State.mword_putWord_ne _ _ (by omega), State.mword_putWord_ne _ _ (by omega), State.putBytes]

theorem State.mbxWrite_byte_ne (pair d result : Nat) (h : d ≠ pair) (k : Nat) (hk : k < 0x8000) :
    (s.mbxWrite d result []).byte (mbxBase pair + k) = s.byte (mbxBase pair + k) := by
  have hb : mbxBase d + 0x8000 ≤ mbxBase pair ∨ mbxBase pair + 0x8000 ≤ mbxBase d := by unfold mbxBase; omega
  unfold State.mbxWrite State.putWord
  rw [State.byte_putBytes_ne _ _ (by simp; omega), State.byte_putBytes_ne _ _ (by simp; omega), State.putBytes]

/-- STATUS after a completion: BUSY is clear, RESULT and the doorbell's SEQ are shown. -/
theorem State.mbxWrite_status (pair result : Nat) (resp : List Byte) :
    (s.mbxWrite pair result resp).mword (mbxBase pair + 4) = w32 (result * 65536 + (s.byte (mbxBase pair)).toNat) := by
  unfold State.mbxWrite
  rw [State.mword_putWord_self]

/-- The response after a completion. -/
theorem State.mbxWrite_resp (pair result : Nat) (resp : List Byte) (k : Nat) (hk : k < resp.length) :
    (s.mbxWrite pair result resp).byte (mbxBase pair + 0x4000 + k) = resp[k] := by
  unfold State.mbxWrite State.putWord
  rw [State.byte_putBytes_ne _ _ (by simp; omega), State.byte_putBytes_ne _ _ (by simp; omega), State.byte_putBytes, dif_pos (by omega)]
  simp

@[simp] theorem State.mbxDone_pending (pair result : Nat) (resp : List Byte) : (s.mbxDone pair result resp).pending = s.pending := by
  rw [State.mbxDone, State.raise_pending, State.setGms_pending, State.mbxWrite_pending]
@[simp] theorem State.mbxDone_free (pair result : Nat) (resp : List Byte) : (s.mbxDone pair result resp).free = s.free := by
  rw [State.mbxDone, State.raise_free, State.setGms_free, State.mbxWrite_free]
@[simp] theorem State.mbxDone_pwr (pair result : Nat) (resp : List Byte) : (s.mbxDone pair result resp).pwr = s.pwr := by
  rw [State.mbxDone, State.raise_pwr, State.setGms_pwr, State.mbxWrite_pwr]
@[simp] theorem State.mbxDone_pins (pair result : Nat) (resp : List Byte) : (s.mbxDone pair result resp).pins = s.pins := by
  rw [State.mbxDone, State.raise_pins, State.setGms_pins, State.mbxWrite_pins]
@[simp] theorem State.mbxDone_kept (pair result : Nat) (resp : List Byte) : (s.mbxDone pair result resp).kept = s.kept := by
  rw [State.mbxDone, State.raise_kept, State.setGms_kept, State.mbxWrite_kept]
@[simp] theorem State.mbxDone_pages (pair result : Nat) (resp : List Byte) : (s.mbxDone pair result resp).pages = s.pages := by
  rw [State.mbxDone, State.raise_pages, State.setGms_pages, State.mbxWrite_pages]
@[simp] theorem State.mbxDone_ports (pair result : Nat) (resp : List Byte) : (s.mbxDone pair result resp).ports = s.ports := by
  rw [State.mbxDone, State.raise_ports, State.setGms_ports, State.mbxWrite_ports]
@[simp] theorem State.mbxDone_caps (pair result : Nat) (resp : List Byte) : (s.mbxDone pair result resp).caps = s.caps := by
  rw [State.mbxDone, State.raise_caps, State.setGms_caps, State.mbxWrite_caps]
@[simp] theorem State.mbxDone_icx (pair result : Nat) (resp : List Byte) : (s.mbxDone pair result resp).icx = s.icx := by
  rw [State.mbxDone, State.raise_icx, State.setGms_icx, State.mbxWrite_icx]
@[simp] theorem State.mbxDone_cores (pair result : Nat) (resp : List Byte) : (s.mbxDone pair result resp).cores = s.cores := by
  rw [State.mbxDone, State.raise_cores, State.setGms_cores, State.mbxWrite_cores]
@[simp] theorem State.mbxDone_pairs (pair result : Nat) (resp : List Byte) : (s.mbxDone pair result resp).pairs = s.pairs := by
  rw [State.mbxDone, State.raise_pairs, State.setGms_pairs, State.mbxWrite_pairs]
@[simp] theorem State.mbxDone_shroud (pair result : Nat) (resp : List Byte) : (s.mbxDone pair result resp).shroud = s.shroud := by
  rw [State.mbxDone, State.raise_shroud, State.setGms_shroud, State.mbxWrite_shroud]
@[simp] theorem State.mbxDone_engines (pair result : Nat) (resp : List Byte) : (s.mbxDone pair result resp).engines = s.engines := by
  rw [State.mbxDone, State.raise_engines, State.setGms_engines, State.mbxWrite_engines]
@[simp] theorem State.mbxDone_ctxs (pair result : Nat) (resp : List Byte) : (s.mbxDone pair result resp).ctxs = s.ctxs := by
  rw [State.mbxDone, State.raise_ctxs, State.setGms_ctxs, State.mbxWrite_ctxs]
@[simp] theorem State.mbxDone_samples (pair result : Nat) (resp : List Byte) : (s.mbxDone pair result resp).samples = s.samples := by
  rw [State.mbxDone, State.raise_samples, State.setGms_samples, State.mbxWrite_samples]
@[simp] theorem State.mbxDone_adcs (pair result : Nat) (resp : List Byte) : (s.mbxDone pair result resp).adcs = s.adcs := by
  rw [State.mbxDone, State.raise_adcs, State.setGms_adcs, State.mbxWrite_adcs]
@[simp] theorem State.mbxDone_sdms (pair result : Nat) (resp : List Byte) : (s.mbxDone pair result resp).sdms = s.sdms := by
  rw [State.mbxDone, State.raise_sdms, State.setGms_sdms, State.mbxWrite_sdms]
@[simp] theorem State.mbxDone_cmps (pair result : Nat) (resp : List Byte) : (s.mbxDone pair result resp).cmps = s.cmps := by
  rw [State.mbxDone, State.raise_cmps, State.setGms_cmps, State.mbxWrite_cmps]
@[simp] theorem State.mbxDone_sensors (pair result : Nat) (resp : List Byte) : (s.mbxDone pair result resp).sensors = s.sensors := by
  rw [State.mbxDone, State.raise_sensors, State.setGms_sensors, State.mbxWrite_sensors]
@[simp] theorem State.mbxDone_pwms (pair result : Nat) (resp : List Byte) : (s.mbxDone pair result resp).pwms = s.pwms := by
  rw [State.mbxDone, State.raise_pwms, State.setGms_pwms, State.mbxWrite_pwms]
@[simp] theorem State.mbxDone_chans (pair result : Nat) (resp : List Byte) : (s.mbxDone pair result resp).chans = s.chans := by
  rw [State.mbxDone, State.raise_chans, State.setGms_chans, State.mbxWrite_chans]
@[simp] theorem State.mbxDone_groups (pair result : Nat) (resp : List Byte) : (s.mbxDone pair result resp).groups = s.groups := by
  rw [State.mbxDone, State.raise_groups, State.setGms_groups, State.mbxWrite_groups]
@[simp] theorem State.mbxDone_hvs (pair result : Nat) (resp : List Byte) : (s.mbxDone pair result resp).hvs = s.hvs := by
  rw [State.mbxDone, State.raise_hvs, State.setGms_hvs, State.mbxWrite_hvs]
@[simp] theorem State.mbxDone_lvdrv (pair result : Nat) (resp : List Byte) : (s.mbxDone pair result resp).lvdrv = s.lvdrv := by
  rw [State.mbxDone, State.raise_lvdrv, State.setGms_lvdrv, State.mbxWrite_lvdrv]
@[simp] theorem State.mbxDone_twls (pair result : Nat) (resp : List Byte) : (s.mbxDone pair result resp).twls = s.twls := by
  rw [State.mbxDone, State.raise_twls, State.setGms_twls, State.mbxWrite_twls]
@[simp] theorem State.mbxDone_encs (pair result : Nat) (resp : List Byte) : (s.mbxDone pair result resp).encs = s.encs := by
  rw [State.mbxDone, State.raise_encs, State.setGms_encs, State.mbxWrite_encs]
@[simp] theorem State.mbxDone_halls (pair result : Nat) (resp : List Byte) : (s.mbxDone pair result resp).halls = s.halls := by
  rw [State.mbxDone, State.raise_halls, State.setGms_halls, State.mbxWrite_halls]
@[simp] theorem State.mbxDone_dcdc (pair result : Nat) (resp : List Byte) : (s.mbxDone pair result resp).dcdc = s.dcdc := by
  rw [State.mbxDone, State.raise_dcdc, State.setGms_dcdc, State.mbxWrite_dcdc]
@[simp] theorem State.mbxDone_obc (pair result : Nat) (resp : List Byte) : (s.mbxDone pair result resp).obc = s.obc := by
  rw [State.mbxDone, State.raise_obc, State.setGms_obc, State.mbxWrite_obc]
@[simp] theorem State.mbxDone_lamps (pair result : Nat) (resp : List Byte) : (s.mbxDone pair result resp).lamps = s.lamps := by
  rw [State.mbxDone, State.raise_lamps, State.setGms_lamps, State.mbxWrite_lamps]
@[simp] theorem State.mbxDone_acts (pair result : Nat) (resp : List Byte) : (s.mbxDone pair result resp).acts = s.acts := by
  rw [State.mbxDone, State.raise_acts, State.setGms_acts, State.mbxWrite_acts]
@[simp] theorem State.mbxDone_ctr (pair result : Nat) (resp : List Byte) : (s.mbxDone pair result resp).ctr = s.ctr := by
  rw [State.mbxDone, State.raise_ctr, State.setGms_ctr, State.mbxWrite_ctr]
@[simp] theorem State.mbxDone_rings (pair result : Nat) (resp : List Byte) : (s.mbxDone pair result resp).rings = s.rings := by
  rw [State.mbxDone, State.raise_rings, State.setGms_rings, State.mbxWrite_rings]
@[simp] theorem State.mbxDone_zcors (pair result : Nat) (resp : List Byte) : (s.mbxDone pair result resp).zcors = s.zcors := by
  rw [State.mbxDone, State.raise_zcors, State.setGms_zcors, State.mbxWrite_zcors]
@[simp] theorem State.mbxDone_twin (pair result : Nat) (resp : List Byte) : (s.mbxDone pair result resp).twin = s.twin := by
  rw [State.mbxDone, State.raise_twin, State.setGms_twin, State.mbxWrite_twin]
@[simp] theorem State.mbxDone_net (pair result : Nat) (resp : List Byte) : (s.mbxDone pair result resp).net = s.net := by
  rw [State.mbxDone, State.raise_net, State.setGms_net, State.mbxWrite_net]
@[simp] theorem State.mbxDone_mem (pair result : Nat) (resp : List Byte) :
    (s.mbxDone pair result resp).mem = (s.mbxWrite pair result resp).mem := by simp [State.mbxDone]
@[simp] theorem State.mbxDone_gms (pair result : Nat) (resp : List Byte) :
    (s.mbxDone pair result resp).gms = { s.gms with doors := s.gms.doors.filter fun d => d != pair } := by simp [State.mbxDone]

theorem State.mbxDone_reg (pair result : Nat) (resp : List Byte) {a : Nat} (h : a ≠ Adr.PEVT Pg.MBX) :
    (s.mbxDone pair result resp).reg a = s.reg a := by simp [State.mbxDone, State.raise_reg_ne _ _ _ h]

/-- A doorbell in front that spells no command of R404 is answered, and the next one looked at. -/
theorem State.mbxAdvance_cons (n d : Nat) (t : List Nat) (h : s.gms.doors = d :: t) : State.mbxAdvance (n + 1) s =
    if mbxCodes.contains (s.mbxCode d) then s else State.mbxAdvance n (s.mbxDone d 2 []) := by
  rw [State.mbxAdvance, h]

theorem State.mbxAdvance_nil (n : Nat) (h : s.gms.doors = []) : State.mbxAdvance n s = s := by
  cases n with
  | zero => rw [State.mbxAdvance]
  | succ n => rw [State.mbxAdvance, h]

/-- What every answered command keeps, answering commands keeps. -/
theorem State.mbxAdvance_keeps (P : State → Prop) (h : ∀ (t : State) (d : Nat), d ∈ t.gms.doors → P t → P (t.mbxDone d 2 [])) (n : Nat) (hs : P s) :
    P (State.mbxAdvance n s) := by
  induction n generalizing s with
  | zero => rw [State.mbxAdvance]; exact hs
  | succ n ih =>
    cases hd : s.gms.doors with
    | nil => rw [s.mbxAdvance_nil _ hd]; exact hs
    | cons d t =>
      rw [s.mbxAdvance_cons n d t hd]
      by_cases hc : mbxCodes.contains (s.mbxCode d) = true
      · rw [if_pos hc]; exact hs
      · rw [if_neg hc]; exact ih _ (h s d (by simp [hd]) hs)

/-- Unknown commands behind it are answered: only areas, doorbells and PEVT of MBX change. -/
theorem State.mbxAdvance_reg (n : Nat) {a : Nat} (h : a ≠ Adr.PEVT Pg.MBX) : (State.mbxAdvance n s).reg a = s.reg a :=
  s.mbxAdvance_keeps (fun t => t.reg a = s.reg a) (fun t d _ ht => by rw [t.mbxDone_reg _ _ _ h, ht]) n rfl

theorem State.mbxAdvance_gms (n : Nat) : ∃ d, (State.mbxAdvance n s).gms = { s.gms with doors := d } ∧ ∀ e ∈ d, e ∈ s.gms.doors :=
  s.mbxAdvance_keeps (fun t => ∃ d, t.gms = { s.gms with doors := d } ∧ ∀ e ∈ d, e ∈ s.gms.doors)
    (fun t d _ ht => by
      obtain ⟨e, h1, h2⟩ := ht
      refine ⟨e.filter fun x => x != d, by simp [h1], fun x hx => h2 x ?_⟩
      simp at hx; exact hx.1) n ⟨s.gms.doors, rfl, fun _ h => h⟩

@[simp] theorem State.mbxAdvance_pending (n : Nat) : (State.mbxAdvance n s).pending = s.pending :=
  s.mbxAdvance_keeps (fun t => t.pending = s.pending) (fun t d _ ht => by rw [State.mbxDone_pending, ht]) n rfl
@[simp] theorem State.mbxAdvance_free (n : Nat) : (State.mbxAdvance n s).free = s.free :=
  s.mbxAdvance_keeps (fun t => t.free = s.free) (fun t d _ ht => by rw [State.mbxDone_free, ht]) n rfl
@[simp] theorem State.mbxAdvance_pwr (n : Nat) : (State.mbxAdvance n s).pwr = s.pwr :=
  s.mbxAdvance_keeps (fun t => t.pwr = s.pwr) (fun t d _ ht => by rw [State.mbxDone_pwr, ht]) n rfl
@[simp] theorem State.mbxAdvance_pins (n : Nat) : (State.mbxAdvance n s).pins = s.pins :=
  s.mbxAdvance_keeps (fun t => t.pins = s.pins) (fun t d _ ht => by rw [State.mbxDone_pins, ht]) n rfl
@[simp] theorem State.mbxAdvance_kept (n : Nat) : (State.mbxAdvance n s).kept = s.kept :=
  s.mbxAdvance_keeps (fun t => t.kept = s.kept) (fun t d _ ht => by rw [State.mbxDone_kept, ht]) n rfl
@[simp] theorem State.mbxAdvance_pages (n : Nat) : (State.mbxAdvance n s).pages = s.pages :=
  s.mbxAdvance_keeps (fun t => t.pages = s.pages) (fun t d _ ht => by rw [State.mbxDone_pages, ht]) n rfl
@[simp] theorem State.mbxAdvance_ports (n : Nat) : (State.mbxAdvance n s).ports = s.ports :=
  s.mbxAdvance_keeps (fun t => t.ports = s.ports) (fun t d _ ht => by rw [State.mbxDone_ports, ht]) n rfl
@[simp] theorem State.mbxAdvance_caps (n : Nat) : (State.mbxAdvance n s).caps = s.caps :=
  s.mbxAdvance_keeps (fun t => t.caps = s.caps) (fun t d _ ht => by rw [State.mbxDone_caps, ht]) n rfl
@[simp] theorem State.mbxAdvance_icx (n : Nat) : (State.mbxAdvance n s).icx = s.icx :=
  s.mbxAdvance_keeps (fun t => t.icx = s.icx) (fun t d _ ht => by rw [State.mbxDone_icx, ht]) n rfl
@[simp] theorem State.mbxAdvance_cores (n : Nat) : (State.mbxAdvance n s).cores = s.cores :=
  s.mbxAdvance_keeps (fun t => t.cores = s.cores) (fun t d _ ht => by rw [State.mbxDone_cores, ht]) n rfl
@[simp] theorem State.mbxAdvance_pairs (n : Nat) : (State.mbxAdvance n s).pairs = s.pairs :=
  s.mbxAdvance_keeps (fun t => t.pairs = s.pairs) (fun t d _ ht => by rw [State.mbxDone_pairs, ht]) n rfl
@[simp] theorem State.mbxAdvance_shroud (n : Nat) : (State.mbxAdvance n s).shroud = s.shroud :=
  s.mbxAdvance_keeps (fun t => t.shroud = s.shroud) (fun t d _ ht => by rw [State.mbxDone_shroud, ht]) n rfl
@[simp] theorem State.mbxAdvance_engines (n : Nat) : (State.mbxAdvance n s).engines = s.engines :=
  s.mbxAdvance_keeps (fun t => t.engines = s.engines) (fun t d _ ht => by rw [State.mbxDone_engines, ht]) n rfl
@[simp] theorem State.mbxAdvance_ctxs (n : Nat) : (State.mbxAdvance n s).ctxs = s.ctxs :=
  s.mbxAdvance_keeps (fun t => t.ctxs = s.ctxs) (fun t d _ ht => by rw [State.mbxDone_ctxs, ht]) n rfl
@[simp] theorem State.mbxAdvance_samples (n : Nat) : (State.mbxAdvance n s).samples = s.samples :=
  s.mbxAdvance_keeps (fun t => t.samples = s.samples) (fun t d _ ht => by rw [State.mbxDone_samples, ht]) n rfl
@[simp] theorem State.mbxAdvance_adcs (n : Nat) : (State.mbxAdvance n s).adcs = s.adcs :=
  s.mbxAdvance_keeps (fun t => t.adcs = s.adcs) (fun t d _ ht => by rw [State.mbxDone_adcs, ht]) n rfl
@[simp] theorem State.mbxAdvance_sdms (n : Nat) : (State.mbxAdvance n s).sdms = s.sdms :=
  s.mbxAdvance_keeps (fun t => t.sdms = s.sdms) (fun t d _ ht => by rw [State.mbxDone_sdms, ht]) n rfl
@[simp] theorem State.mbxAdvance_cmps (n : Nat) : (State.mbxAdvance n s).cmps = s.cmps :=
  s.mbxAdvance_keeps (fun t => t.cmps = s.cmps) (fun t d _ ht => by rw [State.mbxDone_cmps, ht]) n rfl
@[simp] theorem State.mbxAdvance_sensors (n : Nat) : (State.mbxAdvance n s).sensors = s.sensors :=
  s.mbxAdvance_keeps (fun t => t.sensors = s.sensors) (fun t d _ ht => by rw [State.mbxDone_sensors, ht]) n rfl
@[simp] theorem State.mbxAdvance_pwms (n : Nat) : (State.mbxAdvance n s).pwms = s.pwms :=
  s.mbxAdvance_keeps (fun t => t.pwms = s.pwms) (fun t d _ ht => by rw [State.mbxDone_pwms, ht]) n rfl
@[simp] theorem State.mbxAdvance_chans (n : Nat) : (State.mbxAdvance n s).chans = s.chans :=
  s.mbxAdvance_keeps (fun t => t.chans = s.chans) (fun t d _ ht => by rw [State.mbxDone_chans, ht]) n rfl
@[simp] theorem State.mbxAdvance_groups (n : Nat) : (State.mbxAdvance n s).groups = s.groups :=
  s.mbxAdvance_keeps (fun t => t.groups = s.groups) (fun t d _ ht => by rw [State.mbxDone_groups, ht]) n rfl
@[simp] theorem State.mbxAdvance_hvs (n : Nat) : (State.mbxAdvance n s).hvs = s.hvs :=
  s.mbxAdvance_keeps (fun t => t.hvs = s.hvs) (fun t d _ ht => by rw [State.mbxDone_hvs, ht]) n rfl
@[simp] theorem State.mbxAdvance_lvdrv (n : Nat) : (State.mbxAdvance n s).lvdrv = s.lvdrv :=
  s.mbxAdvance_keeps (fun t => t.lvdrv = s.lvdrv) (fun t d _ ht => by rw [State.mbxDone_lvdrv, ht]) n rfl
@[simp] theorem State.mbxAdvance_twls (n : Nat) : (State.mbxAdvance n s).twls = s.twls :=
  s.mbxAdvance_keeps (fun t => t.twls = s.twls) (fun t d _ ht => by rw [State.mbxDone_twls, ht]) n rfl
@[simp] theorem State.mbxAdvance_encs (n : Nat) : (State.mbxAdvance n s).encs = s.encs :=
  s.mbxAdvance_keeps (fun t => t.encs = s.encs) (fun t d _ ht => by rw [State.mbxDone_encs, ht]) n rfl
@[simp] theorem State.mbxAdvance_halls (n : Nat) : (State.mbxAdvance n s).halls = s.halls :=
  s.mbxAdvance_keeps (fun t => t.halls = s.halls) (fun t d _ ht => by rw [State.mbxDone_halls, ht]) n rfl
@[simp] theorem State.mbxAdvance_dcdc (n : Nat) : (State.mbxAdvance n s).dcdc = s.dcdc :=
  s.mbxAdvance_keeps (fun t => t.dcdc = s.dcdc) (fun t d _ ht => by rw [State.mbxDone_dcdc, ht]) n rfl
@[simp] theorem State.mbxAdvance_obc (n : Nat) : (State.mbxAdvance n s).obc = s.obc :=
  s.mbxAdvance_keeps (fun t => t.obc = s.obc) (fun t d _ ht => by rw [State.mbxDone_obc, ht]) n rfl
@[simp] theorem State.mbxAdvance_lamps (n : Nat) : (State.mbxAdvance n s).lamps = s.lamps :=
  s.mbxAdvance_keeps (fun t => t.lamps = s.lamps) (fun t d _ ht => by rw [State.mbxDone_lamps, ht]) n rfl
@[simp] theorem State.mbxAdvance_acts (n : Nat) : (State.mbxAdvance n s).acts = s.acts :=
  s.mbxAdvance_keeps (fun t => t.acts = s.acts) (fun t d _ ht => by rw [State.mbxDone_acts, ht]) n rfl
@[simp] theorem State.mbxAdvance_ctr (n : Nat) : (State.mbxAdvance n s).ctr = s.ctr :=
  s.mbxAdvance_keeps (fun t => t.ctr = s.ctr) (fun t d _ ht => by rw [State.mbxDone_ctr, ht]) n rfl
@[simp] theorem State.mbxAdvance_rings (n : Nat) : (State.mbxAdvance n s).rings = s.rings :=
  s.mbxAdvance_keeps (fun t => t.rings = s.rings) (fun t d _ ht => by rw [State.mbxDone_rings, ht]) n rfl
@[simp] theorem State.mbxAdvance_zcors (n : Nat) : (State.mbxAdvance n s).zcors = s.zcors :=
  s.mbxAdvance_keeps (fun t => t.zcors = s.zcors) (fun t d _ ht => by rw [State.mbxDone_zcors, ht]) n rfl
@[simp] theorem State.mbxAdvance_twin (n : Nat) : (State.mbxAdvance n s).twin = s.twin :=
  s.mbxAdvance_keeps (fun t => t.twin = s.twin) (fun t d _ ht => by rw [State.mbxDone_twin, ht]) n rfl
@[simp] theorem State.mbxAdvance_net (n : Nat) : (State.mbxAdvance n s).net = s.net :=
  s.mbxAdvance_keeps (fun t => t.net = s.net) (fun t d _ ht => by rw [State.mbxDone_net, ht]) n rfl

theorem State.mbxAdvance_mword (n pair : Nat) (h : pair ∉ s.gms.doors) (k : Nat) (hk : k + 4 ≤ 0x8000) :
    (State.mbxAdvance n s).mword (mbxBase pair + k) = s.mword (mbxBase pair + k) :=
  (s.mbxAdvance_keeps (fun t => pair ∉ t.gms.doors ∧ t.mword (mbxBase pair + k) = s.mword (mbxBase pair + k))
    (fun t d hd ht => by
      have hne : d ≠ pair := by rintro rfl; exact ht.1 hd
      refine ⟨by simp [ht.1], ?_⟩
      rw [State.mword_congr (t.mbxDone_mem d 2 []), t.mbxWrite_mword_ne pair d 2 hne k hk, ht.2]) n ⟨h, rfl⟩).2

theorem State.mbxAdvance_byte (n pair : Nat) (h : pair ∉ s.gms.doors) (k : Nat) (hk : k < 0x8000) :
    (State.mbxAdvance n s).byte (mbxBase pair + k) = s.byte (mbxBase pair + k) :=
  (s.mbxAdvance_keeps (fun t => pair ∉ t.gms.doors ∧ t.byte (mbxBase pair + k) = s.byte (mbxBase pair + k))
    (fun t d hd ht => by
      have hne : d ≠ pair := by rintro rfl; exact ht.1 hd
      refine ⟨by simp [ht.1], ?_⟩
      rw [State.byte_congr (t.mbxDone_mem d 2 []), t.mbxWrite_byte_ne pair d 2 hne k hk, ht.2]) n ⟨h, rfl⟩).2

/-- The command that GMS runs next: its doorbell is the first in order, CMD holds its code, GMS is up, the level suffices, LEN is legal. -/
theorem State.mbxRun_eq (pair code lvl : Nat) (f : State → Answer) (h1 : s.gms.doors.head? = some pair) (h2 : s.mbxCode pair = code)
    (h3 : s.gms.restarting = false) (h4 : lvl ≤ s.level) (h5 : s.reqLen pair ≤ 16128) :
    s.mbxRun pair code lvl f = State.mbxAdvance 2 ((f s).1.mbxDone pair (f s).2.1 (f s).2.2) := by
  unfold State.mbxRun
  rw [if_pos ⟨h1, h2, h3⟩, if_neg (by omega), if_neg (by omega)]

end Sys2Proof.Machine
end

