-- ==== Sys2Proof/Laws/MailboxRun.lean ====
section
/-! SUPPORT. A mailbox command that runs: what its next state shows, whatever the command did before it was answered. -/

namespace Sys2Proof.Machine

variable (s : State)

/-- The state after a mailbox command whose effect left u and whose answer is r and resp. -/
def State.answeredFrom (u : State) (pair r : Nat) (resp : List Byte) : State := (State.mbxAdvance 2 (u.mbxDone pair r resp)).settle

theorem State.mbxRun_done {pair code lvl : Nat} {f : State → Answer} (h : s.Calls pair code lvl) :
    done (s.mbxRun pair code lvl f) = .next ((f s).1.answeredFrom pair (f s).2.1 (f s).2.2) := by
  obtain ⟨h1, h2, h3, h4, h5⟩ := h
  rw [done_eq, s.mbxRun_eq pair code lvl f h1 h2 h3 h4 h5, State.answeredFrom]

variable (u : State) (pair r : Nat) (resp : List Byte)

theorem State.answeredFrom_reg {a : Nat} (h : a ≠ Adr.PEVT Pg.MBX) (hi : irqReg a = false) : (u.answeredFrom pair r resp).reg a = u.reg a := by
  rw [State.answeredFrom, State.settle_reg _ hi, State.mbxAdvance_reg _ _ h, State.mbxDone_reg _ _ _ _ h]

@[simp] theorem State.answeredFrom_kept : (u.answeredFrom pair r resp).kept = u.kept := by simp [State.answeredFrom]
@[simp] theorem State.answeredFrom_pwr : (u.answeredFrom pair r resp).pwr = u.pwr := by simp [State.answeredFrom]
@[simp] theorem State.answeredFrom_pending : (u.answeredFrom pair r resp).pending = u.pending := by simp [State.answeredFrom]
@[simp] theorem State.answeredFrom_shroud : (u.answeredFrom pair r resp).shroud = u.shroud := by simp [State.answeredFrom]
@[simp] theorem State.answeredFrom_pairs : (u.answeredFrom pair r resp).pairs = u.pairs := by simp [State.answeredFrom]
@[simp] theorem State.answeredFrom_cores : (u.answeredFrom pair r resp).cores = u.cores := by simp [State.answeredFrom]
@[simp] theorem State.answeredFrom_icx : (u.answeredFrom pair r resp).icx = u.icx := by simp [State.answeredFrom]

theorem State.vbatWatch_gms : ∃ a b, u.vbatWatch.gms = { u.gms with meter := { u.gms.meter with vb0 := a, vb1 := b } } := by
  unfold State.vbatWatch
  dsimp only
  split
  · exact ⟨_, _, rfl⟩
  · exact ⟨_, _, rfl⟩

theorem State.settle_gms : ∃ a b, u.settle.gms = { u.gms with meter := { u.gms.meter with vb0 := a, vb1 := b } } := by
  unfold State.settle
  rw [State.settleIrq_gms]
  obtain ⟨a, b, h⟩ := (u.each [0, 1, 2, 3] State.zWatch).vbatWatch_gms
  refine ⟨a, b, ?_⟩
  rw [h]
  simp only [State.each, List.foldl, State.zWatch_gms]

/-- What GMS holds afterwards: the doorbells that still wait, the newest VBAT words, and everything else as the command left it. -/
theorem State.answeredFrom_gms : ∃ d a b, (u.answeredFrom pair r resp).gms =
    { u.gms with doors := d, meter := { u.gms.meter with vb0 := a, vb1 := b } } := by
  obtain ⟨a, b, h⟩ := (State.mbxAdvance 2 (u.mbxDone pair r resp)).settle_gms
  obtain ⟨d, h2, -⟩ := (u.mbxDone pair r resp).mbxAdvance_gms 2
  refine ⟨d, a, b, ?_⟩
  rw [State.answeredFrom, h, h2]
  simp

theorem State.answeredFrom_answered (h : u.byte (mbxBase pair) = s.byte (mbxBase pair)) : s.Answered pair r (u.answeredFrom pair r resp) := by
  unfold State.Answered State.answeredFrom
  rw [State.mword_congr (State.settle_mem _), State.mbxAdvance_mword _ 2 pair (by simp) 4 (by omega),
    State.mword_congr (u.mbxDone_mem pair r resp), State.mbxWrite_status, h]

theorem State.answeredFrom_gives (h : resp.length ≤ 0x4000) : State.Gives pair resp (u.answeredFrom pair r resp) := by
  unfold State.Gives State.answeredFrom
  refine ⟨?_, fun k hk => ?_⟩
  · rw [State.mword_congr (State.settle_mem _), State.mbxAdvance_mword _ 2 pair (by simp) 0x10 (by omega),
      State.mword_congr (u.mbxDone_mem pair r resp)]
    unfold State.mbxWrite
    rw [State.mword_putWord_ne _ _ (by omega), State.mword_putWord_self]
  · rw [State.byte_congr (State.settle_mem _), Nat.add_assoc, State.mbxAdvance_byte _ 2 pair (by simp) (0x4000 + k) (by omega),
      State.byte_congr (u.mbxDone_mem pair r resp), ← Nat.add_assoc, u.mbxWrite_resp _ _ _ _ hk]

/-- A byte below both areas: no answer reaches it. -/
theorem State.mbxWrite_byte_below (p a : Nat) (h : a < 0x50000000) : (u.mbxWrite p r resp).byte a = u.byte a := by
  have hb : 0x50000000 ≤ mbxBase p := by unfold mbxBase; omega
  unfold State.mbxWrite State.putWord
  rw [State.byte_putBytes_ne _ _ (by simp; omega), State.byte_putBytes_ne _ _ (by simp; omega), State.byte_putBytes_ne _ _ (by omega)]

theorem State.answeredFrom_byte (a : Nat) (h : a < 0x50000000) : (u.answeredFrom pair r resp).byte a = u.byte a := by
  unfold State.answeredFrom
  rw [State.byte_congr (State.settle_mem _)]
  refine (u.mbxDone pair r resp).mbxAdvance_keeps (fun t => t.byte a = u.byte a) (fun t d _ ht => ?_) 2 ?_
  · rw [State.byte_congr (t.mbxDone_mem d 2 []), t.mbxWrite_byte_below 2 [] d a h, ht]
  · rw [State.byte_congr (u.mbxDone_mem pair r resp), u.mbxWrite_byte_below r resp pair a h]

end Sys2Proof.Machine
end

