-- ==== Sys2Proof/Laws/Within.lean ====
section
/-! SUPPORT. Which kinds of state an operation can change: the relation, and how it composes. A mask names kinds of state by the bits of Part.idx. -/

namespace Sys2Proof.Machine

/-- A kind of state as a bit number. -/
def Part.idx : Part → Nat
  | .pending => 0
  | .regs => 1
  | .mem => 2
  | .free => 3
  | .pwr => 4
  | .pins => 5
  | .kept => 6
  | .gms => 7
  | .pages => 8
  | .ports => 9
  | .caps => 10
  | .router => 11
  | .icx => 12
  | .cores => 13
  | .pairs => 14
  | .shroud => 15
  | .engines => 16
  | .ctxs => 17
  | .samples => 18
  | .adcs => 19
  | .sdms => 20
  | .cmps => 21
  | .sensors => 22
  | .pwms => 23
  | .chans => 24
  | .groups => 25
  | .hvs => 26
  | .lvdrv => 27
  | .twls => 28
  | .encs => 29
  | .halls => 30
  | .dcdc => 31
  | .obc => 32
  | .lamps => 33
  | .acts => 34
  | .ctr => 35
  | .rings => 36
  | .zcors => 37
  | .twin => 38
  | .net => 39

/-- t differs from s in the kinds of state of mask m at most. -/
structure State.WithinM (m : Nat) (s t : State) : Prop where
  same : ∀ p : Part, m.testBit p.idx = false → s.agree p t

variable {m g : Nat} {s t u : State}

theorem State.agree_refl (p : Part) (s : State) : s.agree p s := by cases p <;> rfl

theorem State.agree_trans {p : Part} (h : s.agree p t) (k : t.agree p u) : s.agree p u := by
  cases p <;> exact Eq.trans k h

theorem State.WithinM.refl (m : Nat) (s : State) : State.WithinM m s s := ⟨fun p _ => s.agree_refl p⟩

/-- One operation more, of no more kinds of state. -/
theorem State.WithinM.step (h : State.WithinM g t u) (hg : g &&& m = g) (k : State.WithinM m s t) : State.WithinM m s u := by
  refine ⟨fun p hp => State.agree_trans (k.same p hp) (h.same p ?_)⟩
  rw [← hg, Nat.testBit_land, hp, Bool.and_false]

theorem mask_sub {a b m : Nat} (h : a &&& m = a) (k : b &&& a = b) : b &&& m = b := by
  rw [← k, Nat.and_assoc, h]

theorem State.WithinM.ite {c : Prop} [Decidable c] (h : c → State.WithinM m s t) (k : ¬c → State.WithinM m s u) :
    State.WithinM m s (if c then t else u) := by
  by_cases hc : c
  · rw [if_pos hc]; exact h hc
  · rw [if_neg hc]; exact k hc

theorem State.WithinM.cond {c : Bool} (h : State.WithinM m s t) (k : State.WithinM m s u) : State.WithinM m s (bif c then t else u) := by
  cases c
  · exact k
  · exact h

theorem State.WithinM.iteFst {α : Type} {c : Prop} [Decidable c] {a b : State × α} (h : c → State.WithinM m s a.1) (k : ¬c → State.WithinM m s b.1) :
    State.WithinM m s (if c then a else b).1 := by
  by_cases hc : c
  · rw [if_pos hc]; exact h hc
  · rw [if_neg hc]; exact k hc

theorem State.WithinM.fst {α : Type} {x : State × α} {a : α} (h : x = (t, a)) (k : State.WithinM m s x.1) : State.WithinM m s t := by
  subst h; exact k

theorem State.WithinM.foldl {α : Type} {f : State → α → State} (l : List α) (h : ∀ t a, State.WithinM m t (f t a)) (k : State.WithinM m s t) :
    State.WithinM m s (l.foldl f t) := by
  induction l generalizing t with
  | nil => exact k
  | cons a l ih => exact ih ((h t a).step (Nat.and_self m) k)

theorem State.setPending_within (v) : s.WithinM 1 (s.setPending v) := by
  refine ⟨fun p hp => ?_⟩; cases p <;> first | rfl | exact absurd hp (by decide)
theorem State.setRegs_within (v) : s.WithinM 2 (s.setRegs v) := by
  refine ⟨fun p hp => ?_⟩; cases p <;> first | rfl | exact absurd hp (by decide)
theorem State.setMem_within (v) : s.WithinM 4 (s.setMem v) := by
  refine ⟨fun p hp => ?_⟩; cases p <;> first | rfl | exact absurd hp (by decide)
theorem State.setFree_within (v) : s.WithinM 8 (s.setFree v) := by
  refine ⟨fun p hp => ?_⟩; cases p <;> first | rfl | exact absurd hp (by decide)
theorem State.setPwr_within (v) : s.WithinM 16 (s.setPwr v) := by
  refine ⟨fun p hp => ?_⟩; cases p <;> first | rfl | exact absurd hp (by decide)
theorem State.setPins_within (v) : s.WithinM 32 (s.setPins v) := by
  refine ⟨fun p hp => ?_⟩; cases p <;> first | rfl | exact absurd hp (by decide)
theorem State.setKept_within (v) : s.WithinM 64 (s.setKept v) := by
  refine ⟨fun p hp => ?_⟩; cases p <;> first | rfl | exact absurd hp (by decide)
theorem State.setGms_within (v) : s.WithinM 128 (s.setGms v) := by
  refine ⟨fun p hp => ?_⟩; cases p <;> first | rfl | exact absurd hp (by decide)
theorem State.setPages_within (v) : s.WithinM 256 (s.setPages v) := by
  refine ⟨fun p hp => ?_⟩; cases p <;> first | rfl | exact absurd hp (by decide)
theorem State.setPorts_within (v) : s.WithinM 512 (s.setPorts v) := by
  refine ⟨fun p hp => ?_⟩; cases p <;> first | rfl | exact absurd hp (by decide)
theorem State.setCaps_within (v) : s.WithinM 1024 (s.setCaps v) := by
  refine ⟨fun p hp => ?_⟩; cases p <;> first | rfl | exact absurd hp (by decide)
theorem State.setRouter_within (v) : s.WithinM 2048 (s.setRouter v) := by
  refine ⟨fun p hp => ?_⟩; cases p <;> first | rfl | exact absurd hp (by decide)
theorem State.setIcx_within (v) : s.WithinM 4096 (s.setIcx v) := by
  refine ⟨fun p hp => ?_⟩; cases p <;> first | rfl | exact absurd hp (by decide)
theorem State.setCores_within (v) : s.WithinM 8192 (s.setCores v) := by
  refine ⟨fun p hp => ?_⟩; cases p <;> first | rfl | exact absurd hp (by decide)
theorem State.setPairs_within (v) : s.WithinM 16384 (s.setPairs v) := by
  refine ⟨fun p hp => ?_⟩; cases p <;> first | rfl | exact absurd hp (by decide)
theorem State.setShroud_within (v) : s.WithinM 32768 (s.setShroud v) := by
  refine ⟨fun p hp => ?_⟩; cases p <;> first | rfl | exact absurd hp (by decide)
theorem State.setEngines_within (v) : s.WithinM 65536 (s.setEngines v) := by
  refine ⟨fun p hp => ?_⟩; cases p <;> first | rfl | exact absurd hp (by decide)
theorem State.setCtxs_within (v) : s.WithinM 131072 (s.setCtxs v) := by
  refine ⟨fun p hp => ?_⟩; cases p <;> first | rfl | exact absurd hp (by decide)
theorem State.setSamples_within (v) : s.WithinM 262144 (s.setSamples v) := by
  refine ⟨fun p hp => ?_⟩; cases p <;> first | rfl | exact absurd hp (by decide)
theorem State.setAdcs_within (v) : s.WithinM 524288 (s.setAdcs v) := by
  refine ⟨fun p hp => ?_⟩; cases p <;> first | rfl | exact absurd hp (by decide)
theorem State.setSdms_within (v) : s.WithinM 1048576 (s.setSdms v) := by
  refine ⟨fun p hp => ?_⟩; cases p <;> first | rfl | exact absurd hp (by decide)
theorem State.setCmps_within (v) : s.WithinM 2097152 (s.setCmps v) := by
  refine ⟨fun p hp => ?_⟩; cases p <;> first | rfl | exact absurd hp (by decide)
theorem State.setSensors_within (v) : s.WithinM 4194304 (s.setSensors v) := by
  refine ⟨fun p hp => ?_⟩; cases p <;> first | rfl | exact absurd hp (by decide)
theorem State.setPwms_within (v) : s.WithinM 8388608 (s.setPwms v) := by
  refine ⟨fun p hp => ?_⟩; cases p <;> first | rfl | exact absurd hp (by decide)
theorem State.setChans_within (v) : s.WithinM 16777216 (s.setChans v) := by
  refine ⟨fun p hp => ?_⟩; cases p <;> first | rfl | exact absurd hp (by decide)
theorem State.setGroups_within (v) : s.WithinM 33554432 (s.setGroups v) := by
  refine ⟨fun p hp => ?_⟩; cases p <;> first | rfl | exact absurd hp (by decide)
theorem State.setHvs_within (v) : s.WithinM 67108864 (s.setHvs v) := by
  refine ⟨fun p hp => ?_⟩; cases p <;> first | rfl | exact absurd hp (by decide)
theorem State.setLvdrv_within (v) : s.WithinM 134217728 (s.setLvdrv v) := by
  refine ⟨fun p hp => ?_⟩; cases p <;> first | rfl | exact absurd hp (by decide)
theorem State.setTwls_within (v) : s.WithinM 268435456 (s.setTwls v) := by
  refine ⟨fun p hp => ?_⟩; cases p <;> first | rfl | exact absurd hp (by decide)
theorem State.setEncs_within (v) : s.WithinM 536870912 (s.setEncs v) := by
  refine ⟨fun p hp => ?_⟩; cases p <;> first | rfl | exact absurd hp (by decide)
theorem State.setHalls_within (v) : s.WithinM 1073741824 (s.setHalls v) := by
  refine ⟨fun p hp => ?_⟩; cases p <;> first | rfl | exact absurd hp (by decide)
theorem State.setDcdc_within (v) : s.WithinM 2147483648 (s.setDcdc v) := by
  refine ⟨fun p hp => ?_⟩; cases p <;> first | rfl | exact absurd hp (by decide)
theorem State.setObc_within (v) : s.WithinM 4294967296 (s.setObc v) := by
  refine ⟨fun p hp => ?_⟩; cases p <;> first | rfl | exact absurd hp (by decide)
theorem State.setLamps_within (v) : s.WithinM 8589934592 (s.setLamps v) := by
  refine ⟨fun p hp => ?_⟩; cases p <;> first | rfl | exact absurd hp (by decide)
theorem State.setActs_within (v) : s.WithinM 17179869184 (s.setActs v) := by
  refine ⟨fun p hp => ?_⟩; cases p <;> first | rfl | exact absurd hp (by decide)
theorem State.setCtr_within (v) : s.WithinM 34359738368 (s.setCtr v) := by
  refine ⟨fun p hp => ?_⟩; cases p <;> first | rfl | exact absurd hp (by decide)
theorem State.setRings_within (v) : s.WithinM 68719476736 (s.setRings v) := by
  refine ⟨fun p hp => ?_⟩; cases p <;> first | rfl | exact absurd hp (by decide)
theorem State.setZcors_within (v) : s.WithinM 137438953472 (s.setZcors v) := by
  refine ⟨fun p hp => ?_⟩; cases p <;> first | rfl | exact absurd hp (by decide)
theorem State.setTwin_within (v) : s.WithinM 274877906944 (s.setTwin v) := by
  refine ⟨fun p hp => ?_⟩; cases p <;> first | rfl | exact absurd hp (by decide)
theorem State.setNet_within (v) : s.WithinM 549755813888 (s.setNet v) := by
  refine ⟨fun p hp => ?_⟩; cases p <;> first | rfl | exact absurd hp (by decide)

end Sys2Proof.Machine
end

