-- ==== Sys2Proof/Laws/WithinOps.lean ====
section
/-! SUPPORT. Which kinds of state each operation of Machine/Ops.lean can change. -/

namespace Sys2Proof.Machine

variable {m : Nat} {s t u : State}

theorem State.setReg_within (s : State) (a : Nat) (v : Word) : s.WithinM 2 (State.setReg s a v) := by
  unfold State.setReg
  repeat' first
    | with_reducible exact State.WithinM.refl _ _
    | with_reducible assumption
    | with_reducible apply State.WithinM.step (State.setRegs_within ..)
    | decide

theorem State.setFld_within (s : State) (a hi lo v : Nat) : s.WithinM 2 (State.setFld s a hi lo v) := by
  unfold State.setFld
  repeat' first
    | with_reducible exact State.WithinM.refl _ _
    | with_reducible assumption
    | with_reducible apply State.WithinM.step (State.setReg_within ..)
    | decide

theorem State.setFlag_within (s : State) (a i : Nat) (b : Bool) : s.WithinM 2 (State.setFlag s a i b) := by
  unfold State.setFlag
  repeat' first
    | with_reducible exact State.WithinM.refl _ _
    | with_reducible assumption
    | with_reducible apply State.WithinM.step (State.setReg_within ..)
    | decide

theorem State.orReg_within (s : State) (a : Nat) (m : Word) : s.WithinM 2 (State.orReg s a m) := by
  unfold State.orReg
  repeat' first
    | with_reducible exact State.WithinM.refl _ _
    | with_reducible assumption
    | with_reducible apply State.WithinM.step (State.setReg_within ..)
    | decide

theorem State.clrReg_within (s : State) (a : Nat) (m : Word) : s.WithinM 2 (State.clrReg s a m) := by
  unfold State.clrReg
  repeat' first
    | with_reducible exact State.WithinM.refl _ _
    | with_reducible assumption
    | with_reducible apply State.WithinM.step (State.setReg_within ..)
    | decide

theorem State.clearRegs_within (s : State) (p : Nat → Bool) : s.WithinM 2 (State.clearRegs s p) := by
  unfold State.clearRegs
  repeat' first
    | with_reducible exact State.WithinM.refl _ _
    | with_reducible assumption
    | with_reducible apply State.WithinM.step (State.setRegs_within ..)
    | decide

theorem State.bump_within (s : State) (a hi lo : Nat) : s.WithinM 2 (State.bump s a hi lo) := by
  unfold State.bump
  repeat' first
    | with_reducible exact State.WithinM.refl _ _
    | with_reducible assumption
    | with_reducible apply State.WithinM.step (State.setFld_within ..)
    | decide

theorem State.wrap_within (s : State) (a hi lo : Nat) : s.WithinM 2 (State.wrap s a hi lo) := by
  unfold State.wrap
  repeat' first
    | with_reducible exact State.WithinM.refl _ _
    | with_reducible assumption
    | with_reducible apply State.WithinM.step (State.setFld_within ..)
    | decide

theorem State.putPage_within (s : State) (k : Nat) (v : PageHid) : s.WithinM 256 (State.putPage s k v) := by
  unfold State.putPage
  repeat' first
    | with_reducible exact State.WithinM.refl _ _
    | with_reducible assumption
    | with_reducible apply State.WithinM.step (State.setPages_within ..)
    | decide

theorem State.putPort_within (s : State) (k : Nat) (v : PortSt) : s.WithinM 512 (State.putPort s k v) := by
  unfold State.putPort
  repeat' first
    | with_reducible exact State.WithinM.refl _ _
    | with_reducible assumption
    | with_reducible apply State.WithinM.step (State.setPorts_within ..)
    | decide

theorem State.putCap_within (s : State) (k : Nat) (v : CapHid) : s.WithinM 1024 (State.putCap s k v) := by
  unfold State.putCap
  repeat' first
    | with_reducible exact State.WithinM.refl _ _
    | with_reducible assumption
    | with_reducible apply State.WithinM.step (State.setCaps_within ..)
    | decide

theorem State.putCore_within (s : State) (k : Nat) (v : Core) : s.WithinM 8192 (State.putCore s k v) := by
  unfold State.putCore
  repeat' first
    | with_reducible exact State.WithinM.refl _ _
    | with_reducible assumption
    | with_reducible apply State.WithinM.step (State.setCores_within ..)
    | decide

theorem State.putPair_within (s : State) (k : Nat) (v : PairSt) : s.WithinM 16384 (State.putPair s k v) := by
  unfold State.putPair
  repeat' first
    | with_reducible exact State.WithinM.refl _ _
    | with_reducible assumption
    | with_reducible apply State.WithinM.step (State.setPairs_within ..)
    | decide

theorem State.putEngine_within (s : State) (k : Nat) (v : Engine) : s.WithinM 65536 (State.putEngine s k v) := by
  unfold State.putEngine
  repeat' first
    | with_reducible exact State.WithinM.refl _ _
    | with_reducible assumption
    | with_reducible apply State.WithinM.step (State.setEngines_within ..)
    | decide

theorem State.putCtx_within (s : State) (k : Nat) (v : Ctx) : s.WithinM 131072 (State.putCtx s k v) := by
  unfold State.putCtx
  repeat' first
    | with_reducible exact State.WithinM.refl _ _
    | with_reducible assumption
    | with_reducible apply State.WithinM.step (State.setCtxs_within ..)
    | decide

theorem State.putSample_within (s : State) (k : Nat) (v : Sample) : s.WithinM 262144 (State.putSample s k v) := by
  unfold State.putSample
  repeat' first
    | with_reducible exact State.WithinM.refl _ _
    | with_reducible assumption
    | with_reducible apply State.WithinM.step (State.setSamples_within ..)
    | decide

theorem State.putAdc_within (s : State) (k : Nat) (v : AdcSeq) : s.WithinM 524288 (State.putAdc s k v) := by
  unfold State.putAdc
  repeat' first
    | with_reducible exact State.WithinM.refl _ _
    | with_reducible assumption
    | with_reducible apply State.WithinM.step (State.setAdcs_within ..)
    | decide

theorem State.putSdm_within (s : State) (k : Nat) (v : Sdm) : s.WithinM 1048576 (State.putSdm s k v) := by
  unfold State.putSdm
  repeat' first
    | with_reducible exact State.WithinM.refl _ _
    | with_reducible assumption
    | with_reducible apply State.WithinM.step (State.setSdms_within ..)
    | decide

theorem State.putCmp_within (s : State) (k : Nat) (v : Cmp) : s.WithinM 2097152 (State.putCmp s k v) := by
  unfold State.putCmp
  repeat' first
    | with_reducible exact State.WithinM.refl _ _
    | with_reducible assumption
    | with_reducible apply State.WithinM.step (State.setCmps_within ..)
    | decide

theorem State.putSensor_within (s : State) (k : Nat) (v : Sensor) : s.WithinM 4194304 (State.putSensor s k v) := by
  unfold State.putSensor
  repeat' first
    | with_reducible exact State.WithinM.refl _ _
    | with_reducible assumption
    | with_reducible apply State.WithinM.step (State.setSensors_within ..)
    | decide

theorem State.putPwm_within (s : State) (k : Nat) (v : Pwm) : s.WithinM 8388608 (State.putPwm s k v) := by
  unfold State.putPwm
  repeat' first
    | with_reducible exact State.WithinM.refl _ _
    | with_reducible assumption
    | with_reducible apply State.WithinM.step (State.setPwms_within ..)
    | decide

theorem State.putChan_within (s : State) (k : Nat) (v : Chan) : s.WithinM 16777216 (State.putChan s k v) := by
  unfold State.putChan
  repeat' first
    | with_reducible exact State.WithinM.refl _ _
    | with_reducible assumption
    | with_reducible apply State.WithinM.step (State.setChans_within ..)
    | decide

theorem State.putGroup_within (s : State) (k : Nat) (v : Group) : s.WithinM 33554432 (State.putGroup s k v) := by
  unfold State.putGroup
  repeat' first
    | with_reducible exact State.WithinM.refl _ _
    | with_reducible assumption
    | with_reducible apply State.WithinM.step (State.setGroups_within ..)
    | decide

theorem State.putTwl_within (s : State) (k : Nat) (v : Twl) : s.WithinM 268435456 (State.putTwl s k v) := by
  unfold State.putTwl
  repeat' first
    | with_reducible exact State.WithinM.refl _ _
    | with_reducible assumption
    | with_reducible apply State.WithinM.step (State.setTwls_within ..)
    | decide

theorem State.putEnc_within (s : State) (k : Nat) (v : Enc) : s.WithinM 536870912 (State.putEnc s k v) := by
  unfold State.putEnc
  repeat' first
    | with_reducible exact State.WithinM.refl _ _
    | with_reducible assumption
    | with_reducible apply State.WithinM.step (State.setEncs_within ..)
    | decide

theorem State.putHall_within (s : State) (k : Nat) (v : Hall) : s.WithinM 1073741824 (State.putHall s k v) := by
  unfold State.putHall
  repeat' first
    | with_reducible exact State.WithinM.refl _ _
    | with_reducible assumption
    | with_reducible apply State.WithinM.step (State.setHalls_within ..)
    | decide

theorem State.putLamp_within (s : State) (k : Nat) (v : Lamp) : s.WithinM 8589934592 (State.putLamp s k v) := by
  unfold State.putLamp
  repeat' first
    | with_reducible exact State.WithinM.refl _ _
    | with_reducible assumption
    | with_reducible apply State.WithinM.step (State.setLamps_within ..)
    | decide

theorem State.putAct_within (s : State) (k : Nat) (v : Act) : s.WithinM 17179869184 (State.putAct s k v) := by
  unfold State.putAct
  repeat' first
    | with_reducible exact State.WithinM.refl _ _
    | with_reducible assumption
    | with_reducible apply State.WithinM.step (State.setActs_within ..)
    | decide

theorem State.putRing_within (s : State) (k : Nat) (v : Ring) : s.WithinM 68719476736 (State.putRing s k v) := by
  unfold State.putRing
  repeat' first
    | with_reducible exact State.WithinM.refl _ _
    | with_reducible assumption
    | with_reducible apply State.WithinM.step (State.setRings_within ..)
    | decide

theorem State.putZcor_within (s : State) (k : Nat) (v : Zcor) : s.WithinM 137438953472 (State.putZcor s k v) := by
  unfold State.putZcor
  repeat' first
    | with_reducible exact State.WithinM.refl _ _
    | with_reducible assumption
    | with_reducible apply State.WithinM.step (State.setZcors_within ..)
    | decide

theorem State.putByte_within (s : State) (a : Nat) (b : Byte) : s.WithinM 4 (State.putByte s a b) := by
  unfold State.putByte
  repeat' first
    | with_reducible exact State.WithinM.refl _ _
    | with_reducible assumption
    | with_reducible apply State.WithinM.step (State.setMem_within ..)
    | decide

theorem State.putBytes_within (s : State) (l : List Byte) (a : Nat) : s.WithinM 4 (s.putBytes a l) := by
  induction l generalizing s a with
  | nil => exact State.WithinM.refl _ _
  | cons b l ih => exact (ih _ _).step (by decide) (s.putByte_within a b)

theorem State.putWord_within (s : State) (a : Nat) (w : Word) : s.WithinM 4 (State.putWord s a w) := by
  unfold State.putWord
  repeat' first
    | with_reducible exact State.WithinM.refl _ _
    | with_reducible assumption
    | with_reducible apply State.WithinM.step (State.putBytes_within ..)
    | decide

theorem State.clearMem_within (s : State) (a n : Nat) : s.WithinM 4 (State.clearMem s a n) := by
  unfold State.clearMem
  repeat' first
    | with_reducible exact State.WithinM.refl _ _
    | with_reducible assumption
    | with_reducible apply State.WithinM.step (State.setMem_within ..)
    | decide

theorem State.took_within (s : State) (n : Nat) : s.WithinM 8 (State.took s n) := by
  unfold State.took
  repeat' first
    | with_reducible exact State.WithinM.refl _ _
    | with_reducible assumption
    | with_reducible apply State.WithinM.step (State.setFree_within ..)
    | decide

theorem State.publish_within (s : State) (sel : Nat) (v : Word) (t : Nat) : s.WithinM 262144 (State.publish s sel v t) := by
  unfold State.publish
  repeat' first
    | with_reducible exact State.WithinM.refl _ _
    | with_reducible assumption
    | with_reducible apply State.WithinM.step (State.putSample_within ..)
    | decide

theorem State.invalidate_within (s : State) (sel : Nat) : s.WithinM 262144 (State.invalidate s sel) := by
  unfold State.invalidate
  repeat' first
    | with_reducible exact State.WithinM.refl _ _
    | with_reducible assumption
    | with_reducible apply State.WithinM.step (State.putSample_within ..)
    | decide

theorem State.each_within {f : State → Nat → State} {l : List Nat} (h : ∀ t k, State.WithinM m t (f t k)) (k : State.WithinM m s t) :
    State.WithinM m s (t.each l f) := State.WithinM.foldl l h k

theorem State.when_within {f : State → State} {b : Bool} (h : ∀ t, State.WithinM m t (f t)) (k : State.WithinM m s t) :
    State.WithinM m s (t.when b f) := State.WithinM.ite (fun _ => (h t).step (Nat.and_self m) k) (fun _ => k)

theorem State.onPage_within {f : State → State} {p : Nat} (h : ∀ t, State.WithinM m t (f t)) (k : State.WithinM m s t) :
    State.WithinM m s (t.onPage p f) := State.WithinM.ite (fun _ => (h t).step (Nat.and_self m) k) (fun _ => k)

end Sys2Proof.Machine
end

