-- ==== Sys2Proof/Laws/WithinFlags.lean ====
section
/-! SUPPORT. Which kinds of state each operation of Machine/Flags.lean can change. -/

namespace Sys2Proof.Machine

variable {m : Nat} {s t u : State}

theorem State.pulse_within (s : State) (e : Nat) : s.WithinM 2048 (State.pulse s e) := by
  unfold State.pulse
  repeat' first
    | with_reducible exact State.WithinM.refl _ _
    | with_reducible assumption
    | with_reducible refine State.WithinM.ite (fun _ => ?_) (fun _ => ?_)
    | with_reducible refine State.WithinM.iteFst (fun _ => ?_) (fun _ => ?_)
    | with_reducible apply State.WithinM.step (State.setRouter_within ..)
    | decide

theorem State.raise_within (s : State) (p i : Nat) : s.WithinM 2050 (State.raise s p i) := by
  unfold State.raise
  repeat' first
    | with_reducible exact State.WithinM.refl _ _
    | with_reducible assumption
    | with_reducible refine State.WithinM.ite (fun _ => ?_) (fun _ => ?_)
    | with_reducible refine State.WithinM.iteFst (fun _ => ?_) (fun _ => ?_)
    | with_reducible refine State.when_within (fun _ => ?_) ?_
    | with_reducible apply State.WithinM.step (State.pulse_within ..)
    | with_reducible apply State.WithinM.step (State.setFlag_within ..)
    | decide

theorem State.fault_within (s : State) (p i : Nat) : s.WithinM 2 (State.fault s p i) := by
  unfold State.fault
  repeat' first
    | with_reducible exact State.WithinM.refl _ _
    | with_reducible assumption
    | with_reducible apply State.WithinM.step (State.setFlag_within ..)
    | decide

theorem State.setBb_within (s : State) (b : BlackBox) : s.WithinM 128 (State.setBb s b) := by
  unfold State.setBb
  repeat' first
    | with_reducible exact State.WithinM.refl _ _
    | with_reducible assumption
    | with_reducible apply State.WithinM.step (State.setGms_within ..)
    | decide

theorem State.logEntry_within (s : State) (e : LogEntry) : s.WithinM 130 (State.logEntry s e) := by
  unfold State.logEntry
  try dsimp only
  repeat' first
    | with_reducible exact State.WithinM.refl _ _
    | with_reducible assumption
    | with_reducible refine State.WithinM.ite (fun _ => ?_) (fun _ => ?_)
    | with_reducible refine State.WithinM.iteFst (fun _ => ?_) (fun _ => ?_)
    | with_reducible apply State.WithinM.step (State.setBb_within ..)
    | with_reducible apply State.WithinM.step (State.setReg_within ..)
    | decide

theorem State.logKind_within (s : State) (k : LogKind) (event low : Nat) : s.WithinM 130 (State.logKind s k event low) := by
  unfold State.logKind
  repeat' first
    | with_reducible exact State.WithinM.refl _ _
    | with_reducible assumption
    | with_reducible apply State.WithinM.step (State.logEntry_within ..)
    | decide

theorem State.logAcc_within (s : State) (n port : Nat) (addr : Word) (reason : Nat) (write : Bool) : s.WithinM 2178 (State.logAcc s n port addr reason write) := by
  unfold State.logAcc
  try dsimp only
  repeat' first
    | with_reducible exact State.WithinM.refl _ _
    | with_reducible assumption
    | with_reducible refine State.WithinM.ite (fun _ => ?_) (fun _ => ?_)
    | with_reducible refine State.WithinM.iteFst (fun _ => ?_) (fun _ => ?_)
    | with_reducible apply State.WithinM.step (State.bump_within ..)
    | with_reducible apply State.WithinM.step (State.raise_within ..)
    | with_reducible apply State.WithinM.step (State.setBb_within ..)
    | with_reducible apply State.WithinM.step (State.setReg_within ..)
    | decide

theorem State.logGms_within (s : State) (port : Nat) (addr : Word) (reason : Nat) (write : Bool) : s.WithinM 128 (State.logGms s port addr reason write) := by
  unfold State.logGms
  repeat' first
    | with_reducible exact State.WithinM.refl _ _
    | with_reducible assumption
    | with_reducible apply State.WithinM.step (State.setBb_within ..)
    | decide

theorem State.logRefusal_within (s : State) (port : Nat) (addr : Word) (reason : Nat) (write : Bool) : s.WithinM 2178 (State.logRefusal s port addr reason write) := by
  unfold State.logRefusal
  repeat' first
    | with_reducible exact State.WithinM.refl _ _
    | with_reducible assumption
    | with_reducible refine State.WithinM.ite (fun _ => ?_) (fun _ => ?_)
    | with_reducible refine State.WithinM.iteFst (fun _ => ?_) (fun _ => ?_)
    | with_reducible apply State.WithinM.step (State.logAcc_within ..)
    | with_reducible apply State.WithinM.step (State.logGms_within ..)
    | decide

end Sys2Proof.Machine
end

