-- ==== Sys2Proof/Laws/WithinGateOps.lean ====
section
/-! SUPPORT. Which kinds of state each operation of Machine/GateOps.lean can change. -/

namespace Sys2Proof.Machine

variable {m : Nat} {s t u : State}

theorem State.setPhase_within (s : State) (ch p : Nat) : s.WithinM 2 (State.setPhase s ch p) := by
  unfold State.setPhase
  repeat' first
    | with_reducible exact State.WithinM.refl _ _
    | with_reducible assumption
    | with_reducible apply State.WithinM.step (State.setFld_within ..)
    | decide

theorem State.confirm_within (s : State) (ch : Nat) : s.WithinM 16777218 (State.confirm s ch) := by
  unfold State.confirm
  repeat' first
    | with_reducible exact State.WithinM.refl _ _
    | with_reducible assumption
    | with_reducible apply State.WithinM.step (State.putChan_within ..)
    | with_reducible apply State.WithinM.step (State.setFlag_within ..)
    | decide

theorem State.hoist_within (s : State) (ch : Nat) : s.WithinM 16777218 (State.hoist s ch) := by
  unfold State.hoist
  try dsimp only
  repeat' first
    | with_reducible exact State.WithinM.refl _ _
    | with_reducible assumption
    | with_reducible refine State.WithinM.ite (fun _ => ?_) (fun _ => ?_)
    | with_reducible refine State.WithinM.iteFst (fun _ => ?_) (fun _ => ?_)
    | with_reducible apply State.WithinM.step (State.putChan_within ..)
    | with_reducible apply State.WithinM.step (State.setPhase_within ..)
    | decide

theorem State.strike_within (s : State) (ch : Nat) : s.WithinM 16777218 (State.strike s ch) := by
  unfold State.strike
  try dsimp only
  repeat' first
    | with_reducible exact State.WithinM.refl _ _
    | with_reducible assumption
    | with_reducible refine State.WithinM.ite (fun _ => ?_) (fun _ => ?_)
    | with_reducible refine State.WithinM.iteFst (fun _ => ?_) (fun _ => ?_)
    | with_reducible apply State.WithinM.step (State.confirm_within ..)
    | with_reducible apply State.WithinM.step (State.setPhase_within ..)
    | decide

theorem State.turnOn_within (s : State) (ch : Nat) : s.WithinM 16777218 (State.turnOn s ch) := by
  unfold State.turnOn
  try dsimp only
  repeat' first
    | with_reducible exact State.WithinM.refl _ _
    | with_reducible assumption
    | with_reducible refine State.WithinM.ite (fun _ => ?_) (fun _ => ?_)
    | with_reducible refine State.WithinM.iteFst (fun _ => ?_) (fun _ => ?_)
    | with_reducible apply State.WithinM.step (State.hoist_within ..)
    | with_reducible apply State.WithinM.step (State.putChan_within ..)
    | with_reducible apply State.WithinM.step (State.setFlag_within ..)
    | decide

theorem State.turnOff_within (s : State) (ch : Nat) : s.WithinM 16777218 (State.turnOff s ch) := by
  unfold State.turnOff
  repeat' first
    | with_reducible exact State.WithinM.refl _ _
    | with_reducible assumption
    | with_reducible refine State.WithinM.ite (fun _ => ?_) (fun _ => ?_)
    | with_reducible refine State.WithinM.iteFst (fun _ => ?_) (fun _ => ?_)
    | with_reducible refine State.when_within (fun _ => ?_) ?_
    | with_reducible apply State.WithinM.step (State.confirm_within ..)
    | with_reducible apply State.WithinM.step (State.putChan_within ..)
    | with_reducible apply State.WithinM.step (State.strike_within ..)
    | decide

theorem State.settleGate_within (s : State) (ch : Nat) : s.WithinM 16777218 (State.settleGate s ch) := by
  unfold State.settleGate
  repeat' first
    | with_reducible exact State.WithinM.refl _ _
    | with_reducible assumption
    | with_reducible refine State.WithinM.ite (fun _ => ?_) (fun _ => ?_)
    | with_reducible refine State.WithinM.iteFst (fun _ => ?_) (fun _ => ?_)
    | with_reducible apply State.WithinM.step (State.turnOff_within ..)
    | with_reducible apply State.WithinM.step (State.turnOn_within ..)
    | decide

theorem State.reef_within (s : State) (ch : Nat) : s.WithinM 16777218 (State.reef s ch) := by
  unfold State.reef
  repeat' first
    | with_reducible exact State.WithinM.refl _ _
    | with_reducible assumption
    | with_reducible refine State.WithinM.ite (fun _ => ?_) (fun _ => ?_)
    | with_reducible refine State.WithinM.iteFst (fun _ => ?_) (fun _ => ?_)
    | with_reducible apply State.WithinM.step (State.putChan_within ..)
    | with_reducible apply State.WithinM.step (State.setPhase_within ..)
    | decide

theorem State.latchGroup_within (s : State) (g : Nat) (except : Option Nat) : s.WithinM 16779266 (State.latchGroup s g except) := by
  unfold State.latchGroup
  repeat' first
    | with_reducible exact State.WithinM.refl _ _
    | with_reducible assumption
    | with_reducible refine State.WithinM.ite (fun _ => ?_) (fun _ => ?_)
    | with_reducible refine State.WithinM.iteFst (fun _ => ?_) (fun _ => ?_)
    | with_reducible refine State.each_within (fun _ _ => ?_) ?_
    | with_reducible apply State.WithinM.step (State.raise_within ..)
    | with_reducible apply State.WithinM.step (State.reef_within ..)
    | with_reducible apply State.WithinM.step (State.setFlag_within ..)
    | decide

theorem State.reportFault_within (s : State) (ch : Nat) : s.WithinM 16779266 (State.reportFault s ch) := by
  unfold State.reportFault
  try dsimp only
  repeat' first
    | with_reducible exact State.WithinM.refl _ _
    | with_reducible assumption
    | with_reducible refine State.WithinM.ite (fun _ => ?_) (fun _ => ?_)
    | with_reducible refine State.WithinM.iteFst (fun _ => ?_) (fun _ => ?_)
    | with_reducible refine State.each_within (fun _ _ => ?_) ?_
    | with_reducible apply State.WithinM.step (State.latchGroup_within ..)
    | decide

theorem State.latchFault_within (s : State) (ch kind : Nat) : s.WithinM 16779266 (State.latchFault s ch kind) := by
  unfold State.latchFault
  try dsimp only
  repeat' first
    | with_reducible exact State.WithinM.refl _ _
    | with_reducible assumption
    | with_reducible refine State.WithinM.ite (fun _ => ?_) (fun _ => ?_)
    | with_reducible refine State.WithinM.iteFst (fun _ => ?_) (fun _ => ?_)
    | with_reducible apply State.WithinM.step (State.fault_within ..)
    | with_reducible apply State.WithinM.step (State.raise_within ..)
    | with_reducible apply State.WithinM.step (State.reportFault_within ..)
    | with_reducible apply State.WithinM.step (State.setFlag_within ..)
    | with_reducible apply State.WithinM.step (State.setFld_within ..)
    | decide

theorem State.clearLatch_within (s : State) (ch : Nat) : s.WithinM 16777218 (State.clearLatch s ch) := by
  unfold State.clearLatch
  repeat' first
    | with_reducible exact State.WithinM.refl _ _
    | with_reducible assumption
    | with_reducible apply State.WithinM.step (State.putChan_within ..)
    | with_reducible apply State.WithinM.step (State.setFlag_within ..)
    | with_reducible apply State.WithinM.step (State.setFld_within ..)
    | decide

theorem State.risingEdge_within (s : State) (ch : Nat) : s.WithinM 16777218 (State.risingEdge s ch) := by
  unfold State.risingEdge
  try dsimp only
  repeat' first
    | with_reducible exact State.WithinM.refl _ _
    | with_reducible assumption
    | with_reducible refine State.WithinM.ite (fun _ => ?_) (fun _ => ?_)
    | with_reducible refine State.WithinM.iteFst (fun _ => ?_) (fun _ => ?_)
    | with_reducible apply State.WithinM.step (State.clearLatch_within ..)
    | with_reducible apply State.WithinM.step (State.putChan_within ..)
    | with_reducible apply State.WithinM.step (State.settleGate_within ..)
    | decide

theorem State.fallingEdge_within (s : State) (ch : Nat) : s.WithinM 16777218 (State.fallingEdge s ch) := by
  unfold State.fallingEdge
  repeat' first
    | with_reducible exact State.WithinM.refl _ _
    | with_reducible assumption
    | with_reducible apply State.WithinM.step (State.putChan_within ..)
    | with_reducible apply State.WithinM.step (State.settleGate_within ..)
    | decide

theorem State.commandEdge_within (s : State) (ch : Nat) (level : Bool) : s.WithinM 16777218 (State.commandEdge s ch level) := by
  unfold State.commandEdge
  repeat' first
    | with_reducible exact State.WithinM.refl _ _
    | with_reducible assumption
    | with_reducible refine State.WithinM.ite (fun _ => ?_) (fun _ => ?_)
    | with_reducible refine State.WithinM.iteFst (fun _ => ?_) (fun _ => ?_)
    | with_reducible apply State.WithinM.step (State.fallingEdge_within ..)
    | with_reducible apply State.WithinM.step (State.risingEdge_within ..)
    | decide

theorem State.bothRise_within (s : State) (hi lo : Nat) : s.WithinM 16777218 (State.bothRise s hi lo) := by
  unfold State.bothRise
  try dsimp only
  repeat' first
    | with_reducible exact State.WithinM.refl _ _
    | with_reducible assumption
    | with_reducible apply State.WithinM.step (State.putChan_within ..)
    | with_reducible apply State.WithinM.step (State.setFlag_within ..)
    | decide

theorem State.driveGroup_within (s : State) (g : Nat) (want : Nat → Bool) : s.WithinM 16777218 (State.driveGroup s g want) := by
  unfold State.driveGroup
  try dsimp only
  repeat' first
    | with_reducible exact State.WithinM.refl _ _
    | with_reducible assumption
    | with_reducible refine State.WithinM.ite (fun _ => ?_) (fun _ => ?_)
    | with_reducible refine State.WithinM.iteFst (fun _ => ?_) (fun _ => ?_)
    | with_reducible refine State.each_within (fun _ _ => ?_) ?_
    | with_reducible refine State.when_within (fun _ => ?_) ?_
    | with_reducible apply State.WithinM.step (State.bothRise_within ..)
    | with_reducible apply State.WithinM.step (State.commandEdge_within ..)
    | decide

theorem State.finishGclr_within (s : State) (g : Nat) : s.WithinM 50331650 (State.finishGclr s g) := by
  unfold State.finishGclr
  repeat' first
    | with_reducible exact State.WithinM.refl _ _
    | with_reducible assumption
    | with_reducible refine State.WithinM.ite (fun _ => ?_) (fun _ => ?_)
    | with_reducible refine State.WithinM.iteFst (fun _ => ?_) (fun _ => ?_)
    | with_reducible refine State.each_within (fun _ _ => ?_) ?_
    | with_reducible apply State.WithinM.step (State.putChan_within ..)
    | with_reducible apply State.WithinM.step (State.putGroup_within ..)
    | with_reducible apply State.WithinM.step (State.setFlag_within ..)
    | with_reducible apply State.WithinM.step (State.settleGate_within ..)
    | decide

theorem State.gclr_within (s : State) (g : Nat) : s.WithinM 50331650 (State.gclr s g) := by
  unfold State.gclr
  repeat' first
    | with_reducible exact State.WithinM.refl _ _
    | with_reducible assumption
    | with_reducible refine State.WithinM.ite (fun _ => ?_) (fun _ => ?_)
    | with_reducible refine State.WithinM.iteFst (fun _ => ?_) (fun _ => ?_)
    | with_reducible apply State.WithinM.step (State.finishGclr_within ..)
    | with_reducible apply State.WithinM.step (State.putGroup_within ..)
    | decide

theorem State.islandSupply_within (s : State) (ch : Nat) (up : Bool) : s.WithinM 16777218 (State.islandSupply s ch up) := by
  unfold State.islandSupply
  try dsimp only
  repeat' first
    | with_reducible exact State.WithinM.refl _ _
    | with_reducible assumption
    | with_reducible refine State.WithinM.ite (fun _ => ?_) (fun _ => ?_)
    | with_reducible refine State.WithinM.iteFst (fun _ => ?_) (fun _ => ?_)
    | with_reducible apply State.WithinM.step (State.putChan_within ..)
    | with_reducible apply State.WithinM.step (State.setFlag_within ..)
    | with_reducible apply State.WithinM.step (State.setReg_within ..)
    | with_reducible apply State.WithinM.step (State.settleGate_within ..)
    | decide

theorem State.groupSupply_within (s : State) (g : Nat) (up : Bool) : s.WithinM 16777218 (State.groupSupply s g up) := by
  unfold State.groupSupply
  repeat' first
    | with_reducible exact State.WithinM.refl _ _
    | with_reducible assumption
    | with_reducible refine State.each_within (fun _ _ => ?_) ?_
    | with_reducible apply State.WithinM.step (State.islandSupply_within ..)
    | decide

theorem State.pathBCode_within (s : State) (ch : Nat) (b : PathB) : s.WithinM 16777218 (State.pathBCode s ch b) := by
  unfold State.pathBCode
  repeat' first
    | with_reducible exact State.WithinM.refl _ _
    | with_reducible assumption
    | with_reducible refine State.when_within (fun _ => ?_) ?_
    | with_reducible apply State.WithinM.step (State.putChan_within ..)
    | with_reducible apply State.WithinM.step (State.setFlag_within ..)
    | with_reducible apply State.WithinM.step (State.settleGate_within ..)
    | decide

theorem State.setUser_within (s : State) (x : Nat) (ok : Bool) : s.WithinM 167774210 (State.setUser s x ok) := by
  unfold State.setUser
  try dsimp only
  repeat' first
    | with_reducible exact State.WithinM.refl _ _
    | with_reducible assumption
    | with_reducible refine State.WithinM.ite (fun _ => ?_) (fun _ => ?_)
    | with_reducible refine State.WithinM.iteFst (fun _ => ?_) (fun _ => ?_)
    | with_reducible apply State.WithinM.step (State.putGroup_within ..)
    | with_reducible apply State.WithinM.step (State.raise_within ..)
    | with_reducible apply State.WithinM.step (State.setFlag_within ..)
    | with_reducible apply State.WithinM.step (State.setLvdrv_within ..)
    | decide

theorem State.sourceCheck_within (s : State) : s.WithinM 167774210 (State.sourceCheck s) := by
  unfold State.sourceCheck
  repeat' first
    | with_reducible exact State.WithinM.refl _ _
    | with_reducible assumption
    | with_reducible refine State.WithinM.ite (fun _ => ?_) (fun _ => ?_)
    | with_reducible refine State.WithinM.iteFst (fun _ => ?_) (fun _ => ?_)
    | with_reducible refine State.each_within (fun _ _ => ?_) ?_
    | with_reducible apply State.WithinM.step (State.putGroup_within ..)
    | with_reducible apply State.WithinM.step (State.setLvdrv_within ..)
    | with_reducible apply State.WithinM.step (State.setUser_within ..)
    | decide

theorem State.refreshGroup_within (s : State) (g : Nat) : s.WithinM 16777218 (State.refreshGroup s g) := by
  unfold State.refreshGroup
  repeat' first
    | with_reducible exact State.WithinM.refl _ _
    | with_reducible assumption
    | with_reducible apply State.WithinM.step (State.driveGroup_within ..)
    | decide

theorem State.refreshGroups_within (s : State) : s.WithinM 16777218 (State.refreshGroups s) := by
  unfold State.refreshGroups
  repeat' first
    | with_reducible exact State.WithinM.refl _ _
    | with_reducible assumption
    | with_reducible refine State.each_within (fun _ _ => ?_) ?_
    | with_reducible apply State.WithinM.step (State.refreshGroup_within ..)
    | decide

theorem State.refreshSrd_within (s : State) : s.WithinM 134217728 (State.refreshSrd s) := by
  unfold State.refreshSrd
  try dsimp only
  repeat' first
    | with_reducible exact State.WithinM.refl _ _
    | with_reducible assumption
    | with_reducible apply State.WithinM.step (State.setLvdrv_within ..)
    | decide

theorem State.releaseSrd_within (s : State) : s.WithinM 134217728 (State.releaseSrd s) := by
  unfold State.releaseSrd
  try dsimp only
  repeat' first
    | with_reducible exact State.WithinM.refl _ _
    | with_reducible assumption
    | with_reducible refine State.WithinM.ite (fun _ => ?_) (fun _ => ?_)
    | with_reducible refine State.WithinM.iteFst (fun _ => ?_) (fun _ => ?_)
    | with_reducible apply State.WithinM.step (State.setLvdrv_within ..)
    | decide

theorem State.srdSupply_within (s : State) (mv : Nat) : s.WithinM 134219778 (State.srdSupply s mv) := by
  unfold State.srdSupply
  try dsimp only
  repeat' first
    | with_reducible exact State.WithinM.refl _ _
    | with_reducible assumption
    | with_reducible refine State.WithinM.ite (fun _ => ?_) (fun _ => ?_)
    | with_reducible refine State.WithinM.iteFst (fun _ => ?_) (fun _ => ?_)
    | with_reducible apply State.WithinM.step (State.raise_within ..)
    | with_reducible apply State.WithinM.step (State.refreshSrd_within ..)
    | with_reducible apply State.WithinM.step (State.setFlag_within ..)
    | with_reducible apply State.WithinM.step (State.setLvdrv_within ..)
    | decide

theorem State.selfTestStart_within (s : State) (g : Nat) : s.WithinM 33554434 (State.selfTestStart s g) := by
  unfold State.selfTestStart
  try dsimp only
  repeat' first
    | with_reducible exact State.WithinM.refl _ _
    | with_reducible assumption
    | with_reducible apply State.WithinM.step (State.putGroup_within ..)
    | with_reducible apply State.WithinM.step (State.setFlag_within ..)
    | with_reducible apply State.WithinM.step (State.setReg_within ..)
    | decide

theorem State.selfTestDone_within (s : State) (g : Nat) (fails : BitVec 8) : s.WithinM 33556482 (State.selfTestDone s g fails) := by
  unfold State.selfTestDone
  try dsimp only
  repeat' first
    | with_reducible exact State.WithinM.refl _ _
    | with_reducible assumption
    | with_reducible refine State.WithinM.ite (fun _ => ?_) (fun _ => ?_)
    | with_reducible refine State.WithinM.iteFst (fun _ => ?_) (fun _ => ?_)
    | with_reducible apply State.WithinM.step (State.fault_within ..)
    | with_reducible apply State.WithinM.step (State.putGroup_within ..)
    | with_reducible apply State.WithinM.step (State.raise_within ..)
    | with_reducible apply State.WithinM.step (State.setFlag_within ..)
    | with_reducible apply State.WithinM.step (State.setReg_within ..)
    | decide

end Sys2Proof.Machine
end

