-- ==== Sys2Proof/Laws/WithinPwmOps.lean ====
section
/-! SUPPORT. Which kinds of state each operation of Machine/PwmOps.lean can change. -/

namespace Sys2Proof.Machine

variable {m : Nat} {s t u : State}

theorem State.pwmTrip_within (s : State) (u : Nat) : s.WithinM 2050 (State.pwmTrip s u) := by
  unfold State.pwmTrip
  repeat' first
    | with_reducible exact State.WithinM.refl _ _
    | with_reducible assumption
    | with_reducible refine State.WithinM.ite (fun _ => ?_) (fun _ => ?_)
    | with_reducible refine State.WithinM.iteFst (fun _ => ?_) (fun _ => ?_)
    | with_reducible apply State.WithinM.step (State.raise_within ..)
    | with_reducible apply State.WithinM.step (State.setFlag_within ..)
    | decide

theorem State.tripAsync_within (s : State) (u : Nat) : s.WithinM 2050 (State.tripAsync s u) := by
  unfold State.tripAsync
  repeat' first
    | with_reducible exact State.WithinM.refl _ _
    | with_reducible assumption
    | with_reducible refine State.WithinM.ite (fun _ => ?_) (fun _ => ?_)
    | with_reducible refine State.WithinM.iteFst (fun _ => ?_) (fun _ => ?_)
    | with_reducible apply State.WithinM.step (State.pwmTrip_within ..)
    | decide

theorem State.tripAll_within (s : State) : s.WithinM 2050 (State.tripAll s) := by
  unfold State.tripAll
  repeat' first
    | with_reducible exact State.WithinM.refl _ _
    | with_reducible assumption
    | with_reducible refine State.each_within (fun _ _ => ?_) ?_
    | with_reducible apply State.WithinM.step (State.tripAsync_within ..)
    | decide

theorem State.tripSync_within (s : State) (e : Nat) : s.WithinM 8390658 (State.tripSync s e) := by
  unfold State.tripSync
  try dsimp only
  repeat' first
    | with_reducible exact State.WithinM.refl _ _
    | with_reducible assumption
    | with_reducible refine State.WithinM.ite (fun _ => ?_) (fun _ => ?_)
    | with_reducible refine State.WithinM.iteFst (fun _ => ?_) (fun _ => ?_)
    | with_reducible refine State.each_within (fun _ _ => ?_) ?_
    | with_reducible apply State.WithinM.step (State.putPwm_within ..)
    | with_reducible apply State.WithinM.step (State.pwmTrip_within ..)
    | decide

theorem State.setPos_within (s : State) (u pos : Nat) : s.WithinM 8388608 (State.setPos s u pos) := by
  unfold State.setPos
  try dsimp only
  repeat' first
    | with_reducible exact State.WithinM.refl _ _
    | with_reducible assumption
    | with_reducible refine State.WithinM.ite (fun _ => ?_) (fun _ => ?_)
    | with_reducible refine State.WithinM.iteFst (fun _ => ?_) (fun _ => ?_)
    | with_reducible apply State.WithinM.step (State.putPwm_within ..)
    | decide

theorem State.loadWords_within (s : State) (u : Nat) (ws : List Word) : s.WithinM 8388610 (State.loadWords s u ws) := by
  unfold State.loadWords
  repeat' first
    | with_reducible exact State.WithinM.refl _ _
    | with_reducible assumption
    | with_reducible refine State.each_within (fun _ _ => ?_) ?_
    | with_reducible apply State.WithinM.step (State.putPwm_within ..)
    | with_reducible apply State.WithinM.step (State.setFlag_within ..)
    | with_reducible apply State.WithinM.step (State.setReg_within ..)
    | with_reducible refine State.WithinM.fst (by assumption) ?_
    | decide

theorem State.loadSet_within (s : State) (u : Nat) : s.WithinM 8390658 (State.loadSet s u) := by
  unfold State.loadSet
  repeat' first
    | with_reducible exact State.WithinM.refl _ _
    | with_reducible assumption
    | with_reducible refine State.WithinM.ite (fun _ => ?_) (fun _ => ?_)
    | with_reducible refine State.WithinM.iteFst (fun _ => ?_) (fun _ => ?_)
    | with_reducible apply State.WithinM.step (State.loadWords_within ..)
    | with_reducible apply State.WithinM.step (State.putPwm_within ..)
    | with_reducible apply State.WithinM.step (State.raise_within ..)
    | with_reducible refine State.WithinM.fst (by assumption) ?_
    | decide
    | split

theorem State.tripRelease_within (s : State) (u : Nat) : s.WithinM 8388610 (State.tripRelease s u) := by
  unfold State.tripRelease
  try dsimp only
  repeat' first
    | with_reducible exact State.WithinM.refl _ _
    | with_reducible assumption
    | with_reducible refine State.WithinM.ite (fun _ => ?_) (fun _ => ?_)
    | with_reducible refine State.WithinM.iteFst (fun _ => ?_) (fun _ => ?_)
    | with_reducible apply State.WithinM.step (State.putPwm_within ..)
    | with_reducible apply State.WithinM.step (State.setFlag_within ..)
    | decide

theorem State.loadPoint_within (s : State) (u : Nat) (peak : Bool) : s.WithinM 8390658 (State.loadPoint s u peak) := by
  unfold State.loadPoint
  try dsimp only
  repeat' first
    | with_reducible exact State.WithinM.refl _ _
    | with_reducible assumption
    | with_reducible refine State.WithinM.ite (fun _ => ?_) (fun _ => ?_)
    | with_reducible refine State.WithinM.iteFst (fun _ => ?_) (fun _ => ?_)
    | with_reducible apply State.WithinM.step (State.loadSet_within ..)
    | with_reducible apply State.WithinM.step (State.putPwm_within ..)
    | with_reducible apply State.WithinM.step (State.tripRelease_within ..)
    | decide

theorem State.commitSet_within (s : State) (u : Nat) (ws : List Word) : s.WithinM 8388608 (State.commitSet s u ws) := by
  unfold State.commitSet
  repeat' first
    | with_reducible exact State.WithinM.refl _ _
    | with_reducible assumption
    | with_reducible apply State.WithinM.step (State.putPwm_within ..)
    | decide

theorem State.pwmStart_within (s : State) (u : Nat) : s.WithinM 8390658 (State.pwmStart s u) := by
  unfold State.pwmStart
  try dsimp only
  repeat' first
    | with_reducible exact State.WithinM.refl _ _
    | with_reducible assumption
    | with_reducible refine State.WithinM.ite (fun _ => ?_) (fun _ => ?_)
    | with_reducible refine State.WithinM.iteFst (fun _ => ?_) (fun _ => ?_)
    | with_reducible apply State.WithinM.step (State.loadPoint_within ..)
    | with_reducible apply State.WithinM.step (State.putPwm_within ..)
    | with_reducible apply State.WithinM.step (State.setFlag_within ..)
    | decide

theorem State.pwmStop_within (s : State) (u : Nat) : s.WithinM 8388608 (State.pwmStop s u) := by
  unfold State.pwmStop
  repeat' first
    | with_reducible exact State.WithinM.refl _ _
    | with_reducible assumption
    | with_reducible apply State.WithinM.step (State.putPwm_within ..)
    | decide

theorem State.syncFollowers_within (n : Nat) (s : State) (u : Nat) : s.WithinM 8388608 (State.syncFollowers n s u).1 := by
  induction n generalizing s u with
  | zero => exact State.WithinM.refl _ _
  | succ n ih =>
    rw [State.syncFollowers]
    have key : ∀ (l : List Nat) (f : State × List Nat → Nat → State × List Nat) (acc : State × List Nat),
        (∀ a v, State.WithinM 8388608 a.1 (f a v).1) → State.WithinM 8388608 s acc.1 → State.WithinM 8388608 s (l.foldl f acc).1 := by
      intro l f
      induction l with
      | nil => exact fun _ _ h => h
      | cons v l ihl => exact fun acc hf h => ihl (f acc v) hf ((hf acc v).step (by decide) h)
    refine key _ _ _ (fun a v => ?_) (State.WithinM.refl _ _)
    dsimp only
    repeat' first
      | with_reducible exact State.WithinM.refl _ _
      | with_reducible assumption
      | with_reducible refine State.WithinM.ite (fun _ => ?_) (fun _ => ?_)
      | with_reducible refine State.WithinM.iteFst (fun _ => ?_) (fun _ => ?_)
      | with_reducible refine State.WithinM.foldl _ (fun _ _ => ?_) ?_
      | with_reducible apply State.WithinM.step (State.putPwm_within ..)
      | with_reducible apply State.WithinM.step (State.setPos_within ..)
      | with_reducible apply State.WithinM.step (ih _ _)
      | with_reducible refine State.WithinM.fst (by assumption) ?_
      | decide

theorem State.egReference_within (s : State) (u g : Nat) : s.WithinM 8390658 (State.egReference s u g) := by
  unfold State.egReference
  try dsimp only
  repeat' first
    | with_reducible exact State.WithinM.refl _ _
    | with_reducible assumption
    | with_reducible refine State.WithinM.ite (fun _ => ?_) (fun _ => ?_)
    | with_reducible refine State.WithinM.iteFst (fun _ => ?_) (fun _ => ?_)
    | with_reducible apply State.WithinM.step (State.putPwm_within ..)
    | with_reducible apply State.WithinM.step (State.raise_within ..)
    | decide

theorem State.waveTick_within (s : State) (u k : Nat) : s.WithinM 8388608 (State.waveTick s u k).1 := by
  unfold State.waveTick
  try dsimp only
  repeat' first
    | with_reducible exact State.WithinM.refl _ _
    | with_reducible assumption
    | with_reducible apply State.WithinM.step (State.putPwm_within ..)
    | decide

theorem State.outTick_within (s : State) (u k : Nat) (q : Bool × Bool) : s.WithinM 8390658 (State.outTick s u k q) := by
  unfold State.outTick
  try dsimp only
  repeat' first
    | with_reducible exact State.WithinM.refl _ _
    | with_reducible assumption
    | with_reducible refine State.WithinM.ite (fun _ => ?_) (fun _ => ?_)
    | with_reducible refine State.WithinM.iteFst (fun _ => ?_) (fun _ => ?_)
    | with_reducible refine State.when_within (fun _ => ?_) ?_
    | with_reducible apply State.WithinM.step (State.putPwm_within ..)
    | with_reducible apply State.WithinM.step (State.raise_within ..)
    | decide

theorem State.unitTick_within (s : State) (u : Nat) : s.WithinM 8390658 (State.unitTick s u) := by
  unfold State.unitTick
  try dsimp only
  repeat' first
    | with_reducible exact State.WithinM.refl _ _
    | with_reducible assumption
    | with_reducible refine State.each_within (fun _ _ => ?_) ?_
    | with_reducible apply State.WithinM.step (State.outTick_within ..)
    | with_reducible apply State.WithinM.step (State.waveTick_within ..)
    | decide

theorem State.countTick_within (s : State) (u : Nat) : s.WithinM 8388608 (State.countTick s u) := by
  unfold State.countTick
  repeat' first
    | with_reducible exact State.WithinM.refl _ _
    | with_reducible assumption
    | with_reducible apply State.WithinM.step (State.setPos_within ..)
    | decide

end Sys2Proof.Machine
end

