-- ==== Sys2Proof/Laws/WithinAcqOps.lean ====
section
/-! SUPPORT. Which kinds of state each operation of Machine/AcqOps.lean can change. -/

namespace Sys2Proof.Machine

variable {m : Nat} {s t u : State}

theorem State.adcStart_within (s : State) (n : Nat) : s.WithinM 526338 (State.adcStart s n) := by
  unfold State.adcStart
  repeat' first
    | with_reducible exact State.WithinM.refl _ _
    | with_reducible assumption
    | with_reducible refine State.WithinM.ite (fun _ => ?_) (fun _ => ?_)
    | with_reducible refine State.WithinM.iteFst (fun _ => ?_) (fun _ => ?_)
    | with_reducible apply State.WithinM.step (State.putAdc_within ..)
    | with_reducible apply State.WithinM.step (State.raise_within ..)
    | with_reducible apply State.WithinM.step (State.setReg_within ..)
    | decide

theorem State.adcStop_within (s : State) (n : Nat) : s.WithinM 524290 (State.adcStop s n) := by
  unfold State.adcStop
  repeat' first
    | with_reducible exact State.WithinM.refl _ _
    | with_reducible assumption
    | with_reducible apply State.WithinM.step (State.putAdc_within ..)
    | with_reducible apply State.WithinM.step (State.setReg_within ..)
    | decide

theorem State.adcInvalidate_within (s : State) (n : Nat) : s.WithinM 262146 (State.adcInvalidate s n) := by
  unfold State.adcInvalidate
  repeat' first
    | with_reducible exact State.WithinM.refl _ _
    | with_reducible assumption
    | with_reducible refine State.each_within (fun _ _ => ?_) ?_
    | with_reducible apply State.WithinM.step (State.invalidate_within ..)
    | with_reducible apply State.WithinM.step (State.setFlag_within ..)
    | decide

theorem State.adcTrigger_within (s : State) (e : Nat) : s.WithinM 526338 (State.adcTrigger s e) := by
  unfold State.adcTrigger
  repeat' first
    | with_reducible exact State.WithinM.refl _ _
    | with_reducible assumption
    | with_reducible refine State.WithinM.ite (fun _ => ?_) (fun _ => ?_)
    | with_reducible refine State.WithinM.iteFst (fun _ => ?_) (fun _ => ?_)
    | with_reducible refine State.each_within (fun _ _ => ?_) ?_
    | with_reducible apply State.WithinM.step (State.adcStart_within ..)
    | decide

theorem State.hvsPublish_within (s : State) (n h code t : Nat) : s.WithinM 67371010 (State.hvsPublish s n h code t) := by
  unfold State.hvsPublish
  try dsimp only
  repeat' first
    | with_reducible exact State.WithinM.refl _ _
    | with_reducible assumption
    | with_reducible refine State.WithinM.ite (fun _ => ?_) (fun _ => ?_)
    | with_reducible refine State.WithinM.iteFst (fun _ => ?_) (fun _ => ?_)
    | with_reducible apply State.WithinM.step (State.publish_within ..)
    | with_reducible apply State.WithinM.step (State.setFlag_within ..)
    | with_reducible apply State.WithinM.step (State.setHvs_within ..)
    | decide

theorem State.hvsRefresh_within (s : State) : s.WithinM 262146 (State.hvsRefresh s) := by
  unfold State.hvsRefresh
  repeat' first
    | with_reducible exact State.WithinM.refl _ _
    | with_reducible assumption
    | with_reducible refine State.WithinM.ite (fun _ => ?_) (fun _ => ?_)
    | with_reducible refine State.WithinM.iteFst (fun _ => ?_) (fun _ => ?_)
    | with_reducible refine State.each_within (fun _ _ => ?_) ?_
    | with_reducible apply State.WithinM.step (State.invalidate_within ..)
    | with_reducible apply State.WithinM.step (State.setFlag_within ..)
    | decide

theorem State.adcSlotDone_within (s : State) (n code : Nat) : s.WithinM 67897346 (State.adcSlotDone s n code) := by
  unfold State.adcSlotDone
  try dsimp only
  repeat' first
    | with_reducible exact State.WithinM.refl _ _
    | with_reducible assumption
    | with_reducible refine State.WithinM.ite (fun _ => ?_) (fun _ => ?_)
    | with_reducible refine State.WithinM.iteFst (fun _ => ?_) (fun _ => ?_)
    | with_reducible apply State.WithinM.step (State.adcStop_within ..)
    | with_reducible apply State.WithinM.step (State.hvsPublish_within ..)
    | with_reducible apply State.WithinM.step (State.publish_within ..)
    | with_reducible apply State.WithinM.step (State.raise_within ..)
    | with_reducible apply State.WithinM.step (State.setFld_within ..)
    | with_reducible apply State.WithinM.step (State.setReg_within ..)
    | decide

theorem State.sdmInvalidate_within (s : State) (n : Nat) : s.WithinM 1310722 (State.sdmInvalidate s n) := by
  unfold State.sdmInvalidate
  repeat' first
    | with_reducible exact State.WithinM.refl _ _
    | with_reducible assumption
    | with_reducible apply State.WithinM.step (State.invalidate_within ..)
    | with_reducible apply State.WithinM.step (State.putSdm_within ..)
    | with_reducible apply State.WithinM.step (State.setFlag_within ..)
    | decide

theorem State.sdmOpen_within (s : State) (n : Nat) : s.WithinM 1050626 (State.sdmOpen s n) := by
  unfold State.sdmOpen
  try dsimp only
  repeat' first
    | with_reducible exact State.WithinM.refl _ _
    | with_reducible assumption
    | with_reducible refine State.WithinM.ite (fun _ => ?_) (fun _ => ?_)
    | with_reducible refine State.WithinM.iteFst (fun _ => ?_) (fun _ => ?_)
    | with_reducible apply State.WithinM.step (State.putSdm_within ..)
    | with_reducible apply State.WithinM.step (State.raise_within ..)
    | decide

theorem State.sdmTrigger_within (s : State) (e : Nat) : s.WithinM 1050626 (State.sdmTrigger s e) := by
  unfold State.sdmTrigger
  repeat' first
    | with_reducible exact State.WithinM.refl _ _
    | with_reducible assumption
    | with_reducible refine State.WithinM.ite (fun _ => ?_) (fun _ => ?_)
    | with_reducible refine State.WithinM.iteFst (fun _ => ?_) (fun _ => ?_)
    | with_reducible refine State.each_within (fun _ _ => ?_) ?_
    | with_reducible apply State.WithinM.step (State.sdmOpen_within ..)
    | decide

theorem State.sdmEnd_within (s : State) (n R : Nat) : s.WithinM 1312770 (State.sdmEnd s n R) := by
  unfold State.sdmEnd
  try dsimp only
  repeat' first
    | with_reducible exact State.WithinM.refl _ _
    | with_reducible assumption
    | with_reducible apply State.WithinM.step (State.putSample_within ..)
    | with_reducible apply State.WithinM.step (State.putSdm_within ..)
    | with_reducible apply State.WithinM.step (State.raise_within ..)
    | with_reducible apply State.WithinM.step (State.setFlag_within ..)
    | with_reducible apply State.WithinM.step (State.setReg_within ..)
    | decide

theorem State.sdmWindowEnd_within (s : State) (n R : Nat) : s.WithinM 1312770 (State.sdmWindowEnd s n R) := by
  unfold State.sdmWindowEnd
  repeat' first
    | with_reducible exact State.WithinM.refl _ _
    | with_reducible assumption
    | with_reducible refine State.WithinM.ite (fun _ => ?_) (fun _ => ?_)
    | with_reducible refine State.WithinM.iteFst (fun _ => ?_) (fun _ => ?_)
    | with_reducible apply State.WithinM.step (State.sdmEnd_within ..)
    | with_reducible apply State.WithinM.step (State.sdmInvalidate_within ..)
    | with_reducible apply State.WithinM.step (State.setFlag_within ..)
    | decide

theorem State.sdmFault_within (s : State) (n i : Nat) : s.WithinM 1312770 (State.sdmFault s n i) := by
  unfold State.sdmFault
  repeat' first
    | with_reducible exact State.WithinM.refl _ _
    | with_reducible assumption
    | with_reducible apply State.WithinM.step (State.fault_within ..)
    | with_reducible apply State.WithinM.step (State.raise_within ..)
    | with_reducible apply State.WithinM.step (State.sdmInvalidate_within ..)
    | with_reducible apply State.WithinM.step (State.setFlag_within ..)
    | decide

theorem State.sdmClocks_within (s : State) : s.WithinM 1310722 (State.sdmClocks s) := by
  unfold State.sdmClocks
  repeat' first
    | with_reducible exact State.WithinM.refl _ _
    | with_reducible assumption
    | with_reducible refine State.WithinM.ite (fun _ => ?_) (fun _ => ?_)
    | with_reducible refine State.WithinM.iteFst (fun _ => ?_) (fun _ => ?_)
    | with_reducible refine State.each_within (fun _ _ => ?_) ?_
    | with_reducible apply State.WithinM.step (State.sdmInvalidate_within ..)
    | with_reducible apply State.WithinM.step (State.setFlag_within ..)
    | decide

theorem State.scdTrip_within (s : State) (n count : Nat) : s.WithinM 2050 (State.scdTrip s n count) := by
  unfold State.scdTrip
  try dsimp only
  repeat' first
    | with_reducible exact State.WithinM.refl _ _
    | with_reducible assumption
    | with_reducible refine State.WithinM.ite (fun _ => ?_) (fun _ => ?_)
    | with_reducible refine State.WithinM.iteFst (fun _ => ?_) (fun _ => ?_)
    | with_reducible apply State.WithinM.step (State.raise_within ..)
    | with_reducible apply State.WithinM.step (State.setFlag_within ..)
    | with_reducible apply State.WithinM.step (State.tripAll_within ..)
    | decide

theorem State.scdRelease_within (s : State) (n count : Nat) : s.WithinM 2 (State.scdRelease s n count) := by
  unfold State.scdRelease
  try dsimp only
  repeat' first
    | with_reducible exact State.WithinM.refl _ _
    | with_reducible assumption
    | with_reducible refine State.WithinM.ite (fun _ => ?_) (fun _ => ?_)
    | with_reducible refine State.WithinM.iteFst (fun _ => ?_) (fun _ => ?_)
    | with_reducible apply State.WithinM.step (State.setFlag_within ..)
    | decide

theorem State.scdStop_within (s : State) (n : Nat) : s.WithinM 2 (State.scdStop s n) := by
  unfold State.scdStop
  repeat' first
    | with_reducible exact State.WithinM.refl _ _
    | with_reducible assumption
    | with_reducible refine State.WithinM.ite (fun _ => ?_) (fun _ => ?_)
    | with_reducible refine State.WithinM.iteFst (fun _ => ?_) (fun _ => ?_)
    | with_reducible apply State.WithinM.step (State.setFlag_within ..)
    | decide

theorem State.cmpEnter_within (s : State) (k st : Nat) : s.WithinM 34818 (State.cmpEnter s k st) := by
  unfold State.cmpEnter
  try dsimp only
  repeat' first
    | with_reducible exact State.WithinM.refl _ _
    | with_reducible assumption
    | with_reducible refine State.WithinM.ite (fun _ => ?_) (fun _ => ?_)
    | with_reducible refine State.WithinM.iteFst (fun _ => ?_) (fun _ => ?_)
    | with_reducible apply State.WithinM.step (State.raise_within ..)
    | with_reducible apply State.WithinM.step (State.setFlag_within ..)
    | with_reducible apply State.WithinM.step (State.setFld_within ..)
    | with_reducible apply State.WithinM.step (State.setShroud_within ..)
    | with_reducible apply State.WithinM.step (State.tripAll_within ..)
    | decide

theorem State.cmpBegin_within (s : State) (k : Nat) : s.WithinM 2099202 (State.cmpBegin s k) := by
  unfold State.cmpBegin
  repeat' first
    | with_reducible exact State.WithinM.refl _ _
    | with_reducible assumption
    | with_reducible refine State.WithinM.ite (fun _ => ?_) (fun _ => ?_)
    | with_reducible refine State.WithinM.iteFst (fun _ => ?_) (fun _ => ?_)
    | with_reducible apply State.WithinM.step (State.putCmp_within ..)
    | with_reducible apply State.WithinM.step (State.setFlag_within ..)
    | with_reducible apply State.WithinM.step (State.setFld_within ..)
    | with_reducible apply State.WithinM.step (State.tripAll_within ..)
    | decide

theorem State.cmpHalt_within (s : State) (k : Nat) : s.WithinM 2097154 (State.cmpHalt s k) := by
  unfold State.cmpHalt
  repeat' first
    | with_reducible exact State.WithinM.refl _ _
    | with_reducible assumption
    | with_reducible apply State.WithinM.step (State.putCmp_within ..)
    | with_reducible apply State.WithinM.step (State.setReg_within ..)
    | decide

theorem State.cmpRefresh_within (s : State) (k : Nat) : s.WithinM 2099202 (State.cmpRefresh s k) := by
  unfold State.cmpRefresh
  repeat' first
    | with_reducible exact State.WithinM.refl _ _
    | with_reducible assumption
    | with_reducible refine State.WithinM.ite (fun _ => ?_) (fun _ => ?_)
    | with_reducible refine State.WithinM.iteFst (fun _ => ?_) (fun _ => ?_)
    | with_reducible apply State.WithinM.step (State.cmpBegin_within ..)
    | with_reducible apply State.WithinM.step (State.cmpHalt_within ..)
    | decide

theorem State.cmpPage_within (s : State) (n : Nat) : s.WithinM 2099202 (State.cmpPage s n) := by
  unfold State.cmpPage
  repeat' first
    | with_reducible exact State.WithinM.refl _ _
    | with_reducible assumption
    | with_reducible refine State.each_within (fun _ _ => ?_) ?_
    | with_reducible apply State.WithinM.step (State.cmpRefresh_within ..)
    | decide

theorem State.cmpResettle_within (s : State) (k : Nat) : s.WithinM 2 (State.cmpResettle s k) := by
  unfold State.cmpResettle
  repeat' first
    | with_reducible exact State.WithinM.refl _ _
    | with_reducible assumption
    | with_reducible refine State.WithinM.ite (fun _ => ?_) (fun _ => ?_)
    | with_reducible refine State.WithinM.iteFst (fun _ => ?_) (fun _ => ?_)
    | with_reducible apply State.WithinM.step (State.setFlag_within ..)
    | decide

theorem State.cmpTrip_within (s : State) (k : Nat) (x : Int) : s.WithinM 2131970 (State.cmpTrip s k x) := by
  unfold State.cmpTrip
  try dsimp only
  repeat' first
    | with_reducible exact State.WithinM.refl _ _
    | with_reducible assumption
    | with_reducible refine State.WithinM.ite (fun _ => ?_) (fun _ => ?_)
    | with_reducible refine State.WithinM.iteFst (fun _ => ?_) (fun _ => ?_)
    | with_reducible apply State.WithinM.step (State.cmpEnter_within ..)
    | with_reducible apply State.WithinM.step (State.putCmp_within ..)
    | decide

theorem State.cmpRelease_within (s : State) (k : Nat) (x : Int) : s.WithinM 2131970 (State.cmpRelease s k x) := by
  unfold State.cmpRelease
  try dsimp only
  repeat' first
    | with_reducible exact State.WithinM.refl _ _
    | with_reducible assumption
    | with_reducible refine State.WithinM.ite (fun _ => ?_) (fun _ => ?_)
    | with_reducible refine State.WithinM.iteFst (fun _ => ?_) (fun _ => ?_)
    | with_reducible apply State.WithinM.step (State.cmpEnter_within ..)
    | with_reducible apply State.WithinM.step (State.putCmp_within ..)
    | decide

theorem State.cmpSettled_within (s : State) (k : Nat) (x : Int) : s.WithinM 2131970 (State.cmpSettled s k x) := by
  unfold State.cmpSettled
  try dsimp only
  repeat' first
    | with_reducible exact State.WithinM.refl _ _
    | with_reducible assumption
    | with_reducible refine State.WithinM.ite (fun _ => ?_) (fun _ => ?_)
    | with_reducible refine State.WithinM.iteFst (fun _ => ?_) (fun _ => ?_)
    | with_reducible apply State.WithinM.step (State.cmpEnter_within ..)
    | with_reducible apply State.WithinM.step (State.putCmp_within ..)
    | with_reducible apply State.WithinM.step (State.setFlag_within ..)
    | with_reducible refine State.WithinM.fst (by assumption) ?_
    | decide
    | split

theorem State.cmpClear_within (s : State) (k : Nat) : s.WithinM 34818 (State.cmpClear s k) := by
  unfold State.cmpClear
  repeat' first
    | with_reducible exact State.WithinM.refl _ _
    | with_reducible assumption
    | with_reducible refine State.WithinM.ite (fun _ => ?_) (fun _ => ?_)
    | with_reducible refine State.WithinM.iteFst (fun _ => ?_) (fun _ => ?_)
    | with_reducible apply State.WithinM.step (State.cmpEnter_within ..)
    | decide

theorem State.hkSensor_within (s : State) (val : Nat → Option Int) (q : Nat) : s.WithinM 4194306 (State.hkSensor s val q) := by
  unfold State.hkSensor
  try dsimp only
  repeat' first
    | with_reducible exact State.WithinM.refl _ _
    | with_reducible assumption
    | with_reducible refine State.WithinM.ite (fun _ => ?_) (fun _ => ?_)
    | with_reducible refine State.WithinM.iteFst (fun _ => ?_) (fun _ => ?_)
    | with_reducible apply State.WithinM.step (State.putSensor_within ..)
    | with_reducible apply State.WithinM.step (State.setFlag_within ..)
    | with_reducible apply State.WithinM.step (State.setReg_within ..)
    | with_reducible refine State.WithinM.fst (by assumption) ?_
    | decide
    | split

theorem State.hkStatus_within (s : State) : s.WithinM 2 (State.hkStatus s) := by
  unfold State.hkStatus
  try dsimp only
  repeat' first
    | with_reducible exact State.WithinM.refl _ _
    | with_reducible assumption
    | with_reducible apply State.WithinM.step (State.setFlag_within ..)
    | decide

theorem State.hkRound_within (s : State) (r : HkReadings) : s.WithinM 4194306 (State.hkRound s r) := by
  unfold State.hkRound
  try dsimp only
  repeat' first
    | with_reducible exact State.WithinM.refl _ _
    | with_reducible assumption
    | with_reducible refine State.WithinM.ite (fun _ => ?_) (fun _ => ?_)
    | with_reducible refine State.WithinM.iteFst (fun _ => ?_) (fun _ => ?_)
    | with_reducible refine State.each_within (fun _ _ => ?_) ?_
    | with_reducible apply State.WithinM.step (State.hkSensor_within ..)
    | with_reducible apply State.WithinM.step (State.hkStatus_within ..)
    | with_reducible apply State.WithinM.step (State.setReg_within ..)
    | with_reducible apply State.WithinM.step (State.wrap_within ..)
    | decide

theorem State.supOff_within (s : State) (j : Nat) : s.WithinM 2 (State.supOff s j) := by
  unfold State.supOff
  repeat' first
    | with_reducible exact State.WithinM.refl _ _
    | with_reducible assumption
    | with_reducible apply State.WithinM.step (State.hkStatus_within ..)
    | with_reducible apply State.WithinM.step (State.orReg_within ..)
    | decide

theorem State.supRetry_within (s : State) (j : Nat) (ok : Bool) : s.WithinM 2 (State.supRetry s j ok) := by
  unfold State.supRetry
  repeat' first
    | with_reducible exact State.WithinM.refl _ _
    | with_reducible assumption
    | with_reducible refine State.WithinM.ite (fun _ => ?_) (fun _ => ?_)
    | with_reducible refine State.WithinM.iteFst (fun _ => ?_) (fun _ => ?_)
    | with_reducible apply State.WithinM.step (State.clrReg_within ..)
    | with_reducible apply State.WithinM.step (State.hkStatus_within ..)
    | decide

end Sys2Proof.Machine
end

