-- ==== Sys2Proof/Laws/WithinTwlOps.lean ====
section
/-! SUPPORT. Which kinds of state each operation of Machine/TwlOps.lean can change. -/

namespace Sys2Proof.Machine

variable {m : Nat} {s t u : State}

theorem State.setTw_within (s : State) (n i : Nat) (b : Bool) (ev : Option Nat) : s.WithinM 2050 (State.setTw s n i b ev) := by
  unfold State.setTw
  try dsimp only
  repeat' first
    | with_reducible exact State.WithinM.refl _ _
    | with_reducible assumption
    | with_reducible refine State.WithinM.ite (fun _ => ?_) (fun _ => ?_)
    | with_reducible refine State.WithinM.iteFst (fun _ => ?_) (fun _ => ?_)
    | with_reducible apply State.WithinM.step (State.raise_within ..)
    | with_reducible apply State.WithinM.step (State.setFlag_within ..)
    | with_reducible refine State.WithinM.fst (by assumption) ?_
    | decide
    | split

theorem State.twlFire_within (s : State) (n k : Nat) : s.WithinM 805308418 (State.twlFire s n k) := by
  unfold State.twlFire
  try dsimp only
  repeat' first
    | with_reducible exact State.WithinM.refl _ _
    | with_reducible assumption
    | with_reducible refine State.WithinM.ite (fun _ => ?_) (fun _ => ?_)
    | with_reducible refine State.WithinM.iteFst (fun _ => ?_) (fun _ => ?_)
    | with_reducible refine State.each_within (fun _ _ => ?_) ?_
    | with_reducible apply State.WithinM.step (State.putEnc_within ..)
    | with_reducible apply State.WithinM.step (State.putTwl_within ..)
    | with_reducible apply State.WithinM.step (State.raise_within ..)
    | with_reducible apply State.WithinM.step (State.setFlag_within ..)
    | decide

theorem State.twlCompare_within (s : State) (n : Nat) (p0 p1 : Int) : s.WithinM 805308418 (State.twlCompare s n p0 p1) := by
  unfold State.twlCompare
  try dsimp only
  repeat' first
    | with_reducible exact State.WithinM.refl _ _
    | with_reducible assumption
    | with_reducible refine State.WithinM.ite (fun _ => ?_) (fun _ => ?_)
    | with_reducible refine State.WithinM.iteFst (fun _ => ?_) (fun _ => ?_)
    | with_reducible refine State.each_within (fun _ _ => ?_) ?_
    | with_reducible apply State.WithinM.step (State.putTwl_within ..)
    | with_reducible apply State.WithinM.step (State.twlFire_within ..)
    | decide

theorem State.setPosReg_within (s : State) (n : Nat) : s.WithinM 2 (State.setPosReg s n) := by
  unfold State.setPosReg
  try dsimp only
  repeat' first
    | with_reducible exact State.WithinM.refl _ _
    | with_reducible assumption
    | with_reducible apply State.WithinM.step (State.setReg_within ..)
    | decide

theorem State.twlValidity_within (s : State) (n : Nat) : s.WithinM 2050 (State.twlValidity s n) := by
  unfold State.twlValidity
  try dsimp only
  repeat' first
    | with_reducible exact State.WithinM.refl _ _
    | with_reducible assumption
    | with_reducible apply State.WithinM.step (State.setTw_within ..)
    | decide

theorem State.twlCountReg_within (s : State) (n : Nat) : s.WithinM 2 (State.twlCountReg s n) := by
  unfold State.twlCountReg
  repeat' first
    | with_reducible exact State.WithinM.refl _ _
    | with_reducible assumption
    | with_reducible apply State.WithinM.step (State.setFld_within ..)
    | decide

theorem State.twlReport_within (s : State) (n : Nat) (p1 : Int) (t : Nat) : s.WithinM 268699650 (State.twlReport s n p1 t) := by
  unfold State.twlReport
  try dsimp only
  repeat' first
    | with_reducible exact State.WithinM.refl _ _
    | with_reducible assumption
    | with_reducible refine State.WithinM.ite (fun _ => ?_) (fun _ => ?_)
    | with_reducible refine State.WithinM.iteFst (fun _ => ?_) (fun _ => ?_)
    | with_reducible apply State.WithinM.step (State.publish_within ..)
    | with_reducible apply State.WithinM.step (State.putTwl_within ..)
    | with_reducible apply State.WithinM.step (State.setPosReg_within ..)
    | with_reducible apply State.WithinM.step (State.setReg_within ..)
    | with_reducible apply State.WithinM.step (State.setTw_within ..)
    | with_reducible refine State.WithinM.fst (by assumption) ?_
    | decide
    | split

theorem State.twlError_within (s : State) (n i : Nat) : s.WithinM 268437506 (State.twlError s n i) := by
  unfold State.twlError
  repeat' first
    | with_reducible exact State.WithinM.refl _ _
    | with_reducible assumption
    | with_reducible apply State.WithinM.step (State.bump_within ..)
    | with_reducible apply State.WithinM.step (State.fault_within ..)
    | with_reducible apply State.WithinM.step (State.putTwl_within ..)
    | with_reducible apply State.WithinM.step (State.raise_within ..)
    | with_reducible apply State.WithinM.step (State.setTw_within ..)
    | with_reducible apply State.WithinM.step (State.twlValidity_within ..)
    | decide

theorem State.twlLeaveRest_within (s : State) (n : Nat) : s.WithinM 268437506 (State.twlLeaveRest s n) := by
  unfold State.twlLeaveRest
  repeat' first
    | with_reducible exact State.WithinM.refl _ _
    | with_reducible assumption
    | with_reducible refine State.WithinM.ite (fun _ => ?_) (fun _ => ?_)
    | with_reducible refine State.WithinM.iteFst (fun _ => ?_) (fun _ => ?_)
    | with_reducible apply State.WithinM.step (State.putTwl_within ..)
    | with_reducible apply State.WithinM.step (State.setPosReg_within ..)
    | with_reducible apply State.WithinM.step (State.setTw_within ..)
    | decide

theorem State.twlEnterRest_within (s : State) (n : Nat) : s.WithinM 2050 (State.twlEnterRest s n) := by
  unfold State.twlEnterRest
  repeat' first
    | with_reducible exact State.WithinM.refl _ _
    | with_reducible assumption
    | with_reducible apply State.WithinM.step (State.setTw_within ..)
    | decide

theorem State.twlStep_within (s : State) (n : Nat) (d sure : Int) (t : Nat) : s.WithinM 805570562 (State.twlStep s n d sure t) := by
  unfold State.twlStep
  try dsimp only
  repeat' first
    | with_reducible exact State.WithinM.refl _ _
    | with_reducible assumption
    | with_reducible refine State.WithinM.ite (fun _ => ?_) (fun _ => ?_)
    | with_reducible refine State.WithinM.iteFst (fun _ => ?_) (fun _ => ?_)
    | with_reducible apply State.WithinM.step (State.putTwl_within ..)
    | with_reducible apply State.WithinM.step (State.twlCompare_within ..)
    | with_reducible apply State.WithinM.step (State.twlError_within ..)
    | with_reducible apply State.WithinM.step (State.twlReport_within ..)
    | with_reducible apply State.WithinM.step (State.twlValidity_within ..)
    | decide

theorem State.twlCheck_within (s : State) (n : Nat) (c : Int) : s.WithinM 268437506 (State.twlCheck s n c) := by
  unfold State.twlCheck
  try dsimp only
  repeat' first
    | with_reducible exact State.WithinM.refl _ _
    | with_reducible assumption
    | with_reducible refine State.WithinM.ite (fun _ => ?_) (fun _ => ?_)
    | with_reducible refine State.WithinM.iteFst (fun _ => ?_) (fun _ => ?_)
    | with_reducible apply State.WithinM.step (State.putTwl_within ..)
    | with_reducible apply State.WithinM.step (State.setTw_within ..)
    | with_reducible apply State.WithinM.step (State.twlError_within ..)
    | decide

theorem State.twlReference_within (s : State) (n : Nat) (d undone : Int) (t : Nat) : s.WithinM 805570562 (State.twlReference s n d undone t) := by
  unfold State.twlReference
  try dsimp only
  repeat' first
    | with_reducible exact State.WithinM.refl _ _
    | with_reducible assumption
    | with_reducible refine State.WithinM.ite (fun _ => ?_) (fun _ => ?_)
    | with_reducible refine State.WithinM.iteFst (fun _ => ?_) (fun _ => ?_)
    | with_reducible refine State.when_within (fun _ => ?_) ?_
    | with_reducible apply State.WithinM.step (State.putTwl_within ..)
    | with_reducible apply State.WithinM.step (State.raise_within ..)
    | with_reducible apply State.WithinM.step (State.setFld_within ..)
    | with_reducible apply State.WithinM.step (State.twlCheck_within ..)
    | with_reducible apply State.WithinM.step (State.twlCompare_within ..)
    | with_reducible apply State.WithinM.step (State.twlLeaveRest_within ..)
    | with_reducible apply State.WithinM.step (State.twlReport_within ..)
    | with_reducible apply State.WithinM.step (State.twlValidity_within ..)
    | decide

theorem State.twlEdge_within (s : State) (n : Nat) (d : Int) (rise : Bool) (t : Nat) : s.WithinM 805570562 (State.twlEdge s n d rise t) := by
  unfold State.twlEdge
  try dsimp only
  repeat' first
    | with_reducible exact State.WithinM.refl _ _
    | with_reducible assumption
    | with_reducible refine State.WithinM.ite (fun _ => ?_) (fun _ => ?_)
    | with_reducible refine State.WithinM.iteFst (fun _ => ?_) (fun _ => ?_)
    | with_reducible apply State.WithinM.step (State.putTwl_within ..)
    | with_reducible apply State.WithinM.step (State.twlCountReg_within ..)
    | with_reducible apply State.WithinM.step (State.twlReference_within ..)
    | with_reducible apply State.WithinM.step (State.twlStep_within ..)
    | decide

theorem State.twlBoth_within (s : State) (n : Nat) (rise : Bool) (t : Nat) : s.WithinM 268437506 (State.twlBoth s n rise t) := by
  unfold State.twlBoth
  try dsimp only
  repeat' first
    | with_reducible exact State.WithinM.refl _ _
    | with_reducible assumption
    | with_reducible refine State.WithinM.ite (fun _ => ?_) (fun _ => ?_)
    | with_reducible refine State.WithinM.iteFst (fun _ => ?_) (fun _ => ?_)
    | with_reducible apply State.WithinM.step (State.putTwl_within ..)
    | with_reducible apply State.WithinM.step (State.twlError_within ..)
    | decide

theorem State.twEdge_within (s : State) (n : Nat) (a b : Bool) : s.WithinM 805570594 (State.twEdge s n a b) := by
  unfold State.twEdge
  try dsimp only
  repeat' first
    | with_reducible exact State.WithinM.refl _ _
    | with_reducible assumption
    | with_reducible refine State.WithinM.ite (fun _ => ?_) (fun _ => ?_)
    | with_reducible refine State.WithinM.iteFst (fun _ => ?_) (fun _ => ?_)
    | with_reducible apply State.WithinM.step (State.putTwl_within ..)
    | with_reducible apply State.WithinM.step (State.setPins_within ..)
    | with_reducible apply State.WithinM.step (State.twlBoth_within ..)
    | with_reducible apply State.WithinM.step (State.twlEdge_within ..)
    | decide

theorem State.twlStandstill_within (s : State) (n : Nat) : s.WithinM 268437506 (State.twlStandstill s n) := by
  unfold State.twlStandstill
  repeat' first
    | with_reducible exact State.WithinM.refl _ _
    | with_reducible assumption
    | with_reducible refine State.WithinM.ite (fun _ => ?_) (fun _ => ?_)
    | with_reducible refine State.WithinM.iteFst (fun _ => ?_) (fun _ => ?_)
    | with_reducible apply State.WithinM.step (State.putTwl_within ..)
    | with_reducible apply State.WithinM.step (State.setReg_within ..)
    | with_reducible apply State.WithinM.step (State.setTw_within ..)
    | decide

theorem State.twlRestEnd_within (s : State) (n : Nat) : s.WithinM 268437506 (State.twlRestEnd s n) := by
  unfold State.twlRestEnd
  repeat' first
    | with_reducible exact State.WithinM.refl _ _
    | with_reducible assumption
    | with_reducible refine State.WithinM.ite (fun _ => ?_) (fun _ => ?_)
    | with_reducible refine State.WithinM.iteFst (fun _ => ?_) (fun _ => ?_)
    | with_reducible apply State.WithinM.step (State.putTwl_within ..)
    | with_reducible apply State.WithinM.step (State.twlLeaveRest_within ..)
    | decide

theorem State.twlTest_within (s : State) (n : Nat) : s.WithinM 268437506 (State.twlTest s n) := by
  unfold State.twlTest
  repeat' first
    | with_reducible exact State.WithinM.refl _ _
    | with_reducible assumption
    | with_reducible refine State.WithinM.ite (fun _ => ?_) (fun _ => ?_)
    | with_reducible refine State.WithinM.iteFst (fun _ => ?_) (fun _ => ?_)
    | with_reducible apply State.WithinM.step (State.twlEnterRest_within ..)
    | with_reducible apply State.WithinM.step (State.twlLeaveRest_within ..)
    | decide

theorem State.twlStart_within (s : State) (n : Nat) : s.WithinM 268437506 (State.twlStart s n) := by
  unfold State.twlStart
  try dsimp only
  repeat' first
    | with_reducible exact State.WithinM.refl _ _
    | with_reducible assumption
    | with_reducible refine State.WithinM.ite (fun _ => ?_) (fun _ => ?_)
    | with_reducible refine State.WithinM.iteFst (fun _ => ?_) (fun _ => ?_)
    | with_reducible apply State.WithinM.step (State.putTwl_within ..)
    | with_reducible apply State.WithinM.step (State.setPosReg_within ..)
    | with_reducible apply State.WithinM.step (State.setReg_within ..)
    | with_reducible apply State.WithinM.step (State.twlEnterRest_within ..)
    | decide

theorem State.twlStop_within (s : State) (n : Nat) : s.WithinM 268437506 (State.twlStop s n) := by
  unfold State.twlStop
  repeat' first
    | with_reducible exact State.WithinM.refl _ _
    | with_reducible assumption
    | with_reducible apply State.WithinM.step (State.putTwl_within ..)
    | with_reducible apply State.WithinM.step (State.setTw_within ..)
    | decide

theorem State.twlSupplies_within (s : State) : s.WithinM 2050 (State.twlSupplies s) := by
  unfold State.twlSupplies
  repeat' first
    | with_reducible exact State.WithinM.refl _ _
    | with_reducible assumption
    | with_reducible refine State.each_within (fun _ _ => ?_) ?_
    | with_reducible apply State.WithinM.step (State.setTw_within ..)
    | decide

theorem State.encStep_within (s : State) (m : Nat) : s.WithinM 536872962 (State.encStep s m) := by
  unfold State.encStep
  try dsimp only
  repeat' first
    | with_reducible exact State.WithinM.refl _ _
    | with_reducible assumption
    | with_reducible refine State.WithinM.ite (fun _ => ?_) (fun _ => ?_)
    | with_reducible refine State.WithinM.iteFst (fun _ => ?_) (fun _ => ?_)
    | with_reducible refine State.when_within (fun _ => ?_) ?_
    | with_reducible apply State.WithinM.step (State.putEnc_within ..)
    | with_reducible apply State.WithinM.step (State.raise_within ..)
    | with_reducible apply State.WithinM.step (State.setFlag_within ..)
    | with_reducible apply State.WithinM.step (State.setFld_within ..)
    | decide

theorem State.encSteps_within (s : State) : s.WithinM 536872962 (State.encSteps s) := by
  unfold State.encSteps
  repeat' first
    | with_reducible exact State.WithinM.refl _ _
    | with_reducible assumption
    | with_reducible refine State.each_within (fun _ _ => ?_) ?_
    | with_reducible apply State.WithinM.step (State.encStep_within ..)
    | decide

theorem State.hallChange_within (s : State) (k code : Nat) : s.WithinM 1073743906 (State.hallChange s k code).1 := by
  unfold State.hallChange
  try dsimp only
  repeat' first
    | with_reducible exact State.WithinM.refl _ _
    | with_reducible assumption
    | with_reducible refine State.WithinM.ite (fun _ => ?_) (fun _ => ?_)
    | with_reducible refine State.WithinM.iteFst (fun _ => ?_) (fun _ => ?_)
    | with_reducible refine State.WithinM.foldl _ (fun _ _ => ?_) ?_
    | with_reducible apply State.WithinM.step (State.putHall_within ..)
    | with_reducible apply State.WithinM.step (State.raise_within ..)
    | with_reducible apply State.WithinM.step (State.setFlag_within ..)
    | with_reducible apply State.WithinM.step (State.setFld_within ..)
    | with_reducible apply State.WithinM.step (State.setPins_within ..)
    | with_reducible apply State.WithinM.step (State.setReg_within ..)
    | with_reducible refine State.WithinM.fst (by assumption) ?_
    | decide
    | split

theorem State.hallStart_within (s : State) (k : Nat) : s.WithinM 1073741826 (State.hallStart s k) := by
  unfold State.hallStart
  try dsimp only
  repeat' first
    | with_reducible exact State.WithinM.refl _ _
    | with_reducible assumption
    | with_reducible refine State.WithinM.ite (fun _ => ?_) (fun _ => ?_)
    | with_reducible refine State.WithinM.iteFst (fun _ => ?_) (fun _ => ?_)
    | with_reducible apply State.WithinM.step (State.putHall_within ..)
    | with_reducible apply State.WithinM.step (State.setFlag_within ..)
    | with_reducible apply State.WithinM.step (State.setFld_within ..)
    | with_reducible refine State.WithinM.fst (by assumption) ?_
    | decide
    | split

end Sys2Proof.Machine
end

