-- ==== Sys2Proof/Laws/WithinTrimIsa.lean ====
section
/-! SUPPORT. Which kinds of state each operation of Machine/TrimIsa.lean can change. -/

namespace Sys2Proof.Machine

variable {m : Nat} {s t u : State}

theorem State.setStw_within (s : State) (n i c : Nat) (v : Int) : s.WithinM 2 (State.setStw s n i c v) := by
  unfold State.setStw
  repeat' first
    | with_reducible exact State.WithinM.refl _ _
    | with_reducible assumption
    | with_reducible apply State.WithinM.step (State.setReg_within ..)
    | decide

theorem State.ctxFlag_within (s : State) (n i b : Nat) (on : Bool) : s.WithinM 2 (State.ctxFlag s n i b on) := by
  unfold State.ctxFlag
  repeat' first
    | with_reducible exact State.WithinM.refl _ _
    | with_reducible assumption
    | with_reducible refine State.WithinM.ite (fun _ => ?_) (fun _ => ?_)
    | with_reducible refine State.WithinM.iteFst (fun _ => ?_) (fun _ => ?_)
    | with_reducible apply State.WithinM.step (State.setFlag_within ..)
    | decide

theorem State.toD_within (s : State) (n : Nat) (r : TrimRun) (d : Nat) (v : Int × Bool) : s.WithinM 2 (State.toD s n r d v).1 := by
  unfold State.toD
  try dsimp only
  repeat' first
    | with_reducible exact State.WithinM.refl _ _
    | with_reducible assumption
    | with_reducible apply State.WithinM.step (State.ctxFlag_within ..)
    | decide

theorem State.isaLds_within (s : State) (n : Nat) (r : TrimRun) (w : Word) : ∀ u q, isaLds s n r w = some (u, q) → s.WithinM 2 u := by
  intro u q h
  unfold isaLds at h
  try dsimp only at h
  all_goals first
    | contradiction
    | (obtain ⟨k, -, h⟩ := Option.map_eq_some_iff.mp h; refine State.WithinM.fst h ?_)
    | refine State.WithinM.fst (Option.some.inj h) ?_
  all_goals
    try dsimp only
    repeat' first
      | with_reducible exact State.WithinM.refl _ _
      | with_reducible assumption
      | with_reducible apply State.WithinM.step (State.ctxFlag_within ..)
      | decide

theorem State.isaLdf_within (s : State) (n : Nat) (r : TrimRun) (w : Word) : ∀ u q, isaLdf s n r w = some (u, q) → s.WithinM 2 u := by
  intro u q h
  unfold isaLdf at h
  try dsimp only at h
  repeat' split at h
  all_goals first
    | contradiction
    | (obtain ⟨k, -, h⟩ := Option.map_eq_some_iff.mp h; refine State.WithinM.fst h ?_)
    | refine State.WithinM.fst (Option.some.inj h) ?_
  all_goals
    try dsimp only
    repeat' first
      | with_reducible exact State.WithinM.refl _ _
      | with_reducible assumption
      | with_reducible refine State.WithinM.ite (fun _ => ?_) (fun _ => ?_)
      | with_reducible refine State.WithinM.iteFst (fun _ => ?_) (fun _ => ?_)
      | with_reducible apply State.WithinM.step (State.ctxFlag_within ..)
      | decide

theorem State.isaLdt_within (s : State) (n : Nat) (r : TrimRun) (w : Word) : ∀ u q, isaLdt s n r w = some (u, q) → s.WithinM 0 u := by
  intro u q h
  unfold isaLdt at h
  all_goals first
    | contradiction
    | (obtain ⟨k, -, h⟩ := Option.map_eq_some_iff.mp h; refine State.WithinM.fst h ?_)
    | refine State.WithinM.fst (Option.some.inj h) ?_
  all_goals
    try dsimp only
    repeat' first
      | with_reducible exact State.WithinM.refl _ _

theorem State.isaSto_within (s : State) (_n : Nat) (r : TrimRun) (w : Word) : ∀ u q, isaSto s _n r w = some (u, q) → s.WithinM 0 u := by
  intro u q h
  unfold isaSto at h
  try dsimp only at h
  repeat' split at h
  all_goals first
    | contradiction
    | (obtain ⟨k, -, h⟩ := Option.map_eq_some_iff.mp h; refine State.WithinM.fst h ?_)
    | refine State.WithinM.fst (Option.some.inj h) ?_
  all_goals
    try dsimp only
    repeat' first
      | with_reducible exact State.WithinM.refl _ _

theorem State.isaLdk_within (s : State) (n : Nat) (r : TrimRun) (w : Word) : ∀ u q, isaLdk s n r w = some (u, q) → s.WithinM 2 u := by
  intro u q h
  unfold isaLdk at h
  all_goals first
    | contradiction
    | (obtain ⟨k, -, h⟩ := Option.map_eq_some_iff.mp h; refine State.WithinM.fst h ?_)
  all_goals
    try dsimp only
    repeat' first
      | with_reducible exact State.WithinM.refl _ _
      | with_reducible assumption
      | with_reducible apply State.WithinM.step (State.toD_within ..)
      | decide

theorem State.isaLst_within (s : State) (n : Nat) (r : TrimRun) (w : Word) : ∀ u q, isaLst s n r w = some (u, q) → s.WithinM 0 u := by
  intro u q h
  unfold isaLst at h
  all_goals first
    | contradiction
    | (obtain ⟨k, -, h⟩ := Option.map_eq_some_iff.mp h; refine State.WithinM.fst h ?_)
    | refine State.WithinM.fst (Option.some.inj h) ?_
  all_goals
    try dsimp only
    repeat' first
      | with_reducible exact State.WithinM.refl _ _

theorem State.isaSst_within (s : State) (n : Nat) (r : TrimRun) (w : Word) : ∀ u q, isaSst s n r w = some (u, q) → s.WithinM 2 u := by
  intro u q h
  unfold isaSst at h
  all_goals first
    | contradiction
    | (obtain ⟨k, -, h⟩ := Option.map_eq_some_iff.mp h; refine State.WithinM.fst h ?_)
    | refine State.WithinM.fst (Option.some.inj h) ?_
  all_goals
    try dsimp only
    repeat' first
      | with_reducible exact State.WithinM.refl _ _
      | with_reducible assumption
      | with_reducible apply State.WithinM.step (State.setStw_within ..)
      | decide

theorem State.isaMov_within (s : State) (_n : Nat) (r : TrimRun) (w : Word) : ∀ u q, isaMov s _n r w = some (u, q) → s.WithinM 0 u := by
  intro u q h
  unfold isaMov at h
  all_goals first
    | contradiction
    | (obtain ⟨k, -, h⟩ := Option.map_eq_some_iff.mp h; refine State.WithinM.fst h ?_)
    | refine State.WithinM.fst (Option.some.inj h) ?_
  all_goals
    try dsimp only
    repeat' first
      | with_reducible exact State.WithinM.refl _ _

theorem State.isaAdd_within (s : State) (n : Nat) (r : TrimRun) (w : Word) : ∀ u q, isaAdd s n r w = some (u, q) → s.WithinM 2 u := by
  intro u q h
  unfold isaAdd at h
  all_goals first
    | contradiction
    | (obtain ⟨k, -, h⟩ := Option.map_eq_some_iff.mp h; refine State.WithinM.fst h ?_)
    | refine State.WithinM.fst (Option.some.inj h) ?_
  all_goals
    try dsimp only
    repeat' first
      | with_reducible exact State.WithinM.refl _ _
      | with_reducible assumption
      | with_reducible apply State.WithinM.step (State.toD_within ..)
      | decide

theorem State.isaSub_within (s : State) (n : Nat) (r : TrimRun) (w : Word) : ∀ u q, isaSub s n r w = some (u, q) → s.WithinM 2 u := by
  intro u q h
  unfold isaSub at h
  all_goals first
    | contradiction
    | (obtain ⟨k, -, h⟩ := Option.map_eq_some_iff.mp h; refine State.WithinM.fst h ?_)
    | refine State.WithinM.fst (Option.some.inj h) ?_
  all_goals
    try dsimp only
    repeat' first
      | with_reducible exact State.WithinM.refl _ _
      | with_reducible assumption
      | with_reducible apply State.WithinM.step (State.toD_within ..)
      | decide

theorem State.isaNeg_within (s : State) (n : Nat) (r : TrimRun) (w : Word) : ∀ u q, isaNeg s n r w = some (u, q) → s.WithinM 2 u := by
  intro u q h
  unfold isaNeg at h
  all_goals first
    | contradiction
    | (obtain ⟨k, -, h⟩ := Option.map_eq_some_iff.mp h; refine State.WithinM.fst h ?_)
    | refine State.WithinM.fst (Option.some.inj h) ?_
  all_goals
    try dsimp only
    repeat' first
      | with_reducible exact State.WithinM.refl _ _
      | with_reducible assumption
      | with_reducible apply State.WithinM.step (State.toD_within ..)
      | decide

theorem State.isaAbs_within (s : State) (n : Nat) (r : TrimRun) (w : Word) : ∀ u q, isaAbs s n r w = some (u, q) → s.WithinM 2 u := by
  intro u q h
  unfold isaAbs at h
  all_goals first
    | contradiction
    | (obtain ⟨k, -, h⟩ := Option.map_eq_some_iff.mp h; refine State.WithinM.fst h ?_)
    | refine State.WithinM.fst (Option.some.inj h) ?_
  all_goals
    try dsimp only
    repeat' first
      | with_reducible exact State.WithinM.refl _ _
      | with_reducible assumption
      | with_reducible apply State.WithinM.step (State.toD_within ..)
      | decide

theorem State.isaMul_within (s : State) (n : Nat) (r : TrimRun) (w : Word) : ∀ u q, isaMul s n r w = some (u, q) → s.WithinM 2 u := by
  intro u q h
  unfold isaMul at h
  all_goals first
    | contradiction
    | (obtain ⟨k, -, h⟩ := Option.map_eq_some_iff.mp h; refine State.WithinM.fst h ?_)
  all_goals
    try dsimp only
    repeat' first
      | with_reducible exact State.WithinM.refl _ _
      | with_reducible assumption
      | with_reducible apply State.WithinM.step (State.toD_within ..)
      | decide

theorem State.isaMulr_within (s : State) (n : Nat) (r : TrimRun) (w : Word) : ∀ u q, isaMulr s n r w = some (u, q) → s.WithinM 2 u := by
  intro u q h
  unfold isaMulr at h
  all_goals first
    | contradiction
    | (obtain ⟨k, -, h⟩ := Option.map_eq_some_iff.mp h; refine State.WithinM.fst h ?_)
    | refine State.WithinM.fst (Option.some.inj h) ?_
  all_goals
    try dsimp only
    repeat' first
      | with_reducible exact State.WithinM.refl _ _
      | with_reducible assumption
      | with_reducible apply State.WithinM.step (State.toD_within ..)
      | decide

theorem State.toAcc_within (s : State) (n : Nat) (r : TrimRun) (i : Nat) (a : Int) : s.WithinM 2 (State.toAcc s n r i a).1 := by
  unfold State.toAcc
  try dsimp only
  repeat' first
    | with_reducible exact State.WithinM.refl _ _
    | with_reducible assumption
    | with_reducible refine State.WithinM.ite (fun _ => ?_) (fun _ => ?_)
    | with_reducible refine State.WithinM.iteFst (fun _ => ?_) (fun _ => ?_)
    | with_reducible apply State.WithinM.step (State.ctxFlag_within ..)
    | decide

theorem State.isaAclr_within (s : State) (n : Nat) (r : TrimRun) (w : Word) : ∀ u q, isaAclr s n r w = some (u, q) → s.WithinM 2 u := by
  intro u q h
  unfold isaAclr at h
  all_goals first
    | contradiction
    | (obtain ⟨k, -, h⟩ := Option.map_eq_some_iff.mp h; refine State.WithinM.fst h ?_)
    | refine State.WithinM.fst (Option.some.inj h) ?_
  all_goals
    try dsimp only
    repeat' first
      | with_reducible exact State.WithinM.refl _ _
      | with_reducible assumption
      | with_reducible apply State.WithinM.step (State.toAcc_within ..)
      | decide

theorem State.isaMac_within (s : State) (n : Nat) (r : TrimRun) (w : Word) : ∀ u q, isaMac s n r w = some (u, q) → s.WithinM 2 u := by
  intro u q h
  unfold isaMac at h
  all_goals first
    | contradiction
    | (obtain ⟨k, -, h⟩ := Option.map_eq_some_iff.mp h; refine State.WithinM.fst h ?_)
  all_goals
    try dsimp only
    repeat' first
      | with_reducible exact State.WithinM.refl _ _
      | with_reducible assumption
      | with_reducible apply State.WithinM.step (State.toAcc_within ..)
      | decide

theorem State.isaMacr_within (s : State) (n : Nat) (r : TrimRun) (w : Word) : ∀ u q, isaMacr s n r w = some (u, q) → s.WithinM 2 u := by
  intro u q h
  unfold isaMacr at h
  all_goals first
    | contradiction
    | (obtain ⟨k, -, h⟩ := Option.map_eq_some_iff.mp h; refine State.WithinM.fst h ?_)
    | refine State.WithinM.fst (Option.some.inj h) ?_
  all_goals
    try dsimp only
    repeat' first
      | with_reducible exact State.WithinM.refl _ _
      | with_reducible assumption
      | with_reducible apply State.WithinM.step (State.toAcc_within ..)
      | decide

theorem State.isaArnd_within (s : State) (n : Nat) (r : TrimRun) (w : Word) : ∀ u q, isaArnd s n r w = some (u, q) → s.WithinM 2 u := by
  intro u q h
  unfold isaArnd at h
  all_goals first
    | contradiction
    | (obtain ⟨k, -, h⟩ := Option.map_eq_some_iff.mp h; refine State.WithinM.fst h ?_)
    | refine State.WithinM.fst (Option.some.inj h) ?_
  all_goals
    try dsimp only
    repeat' first
      | with_reducible exact State.WithinM.refl _ _
      | with_reducible assumption
      | with_reducible apply State.WithinM.step (State.toD_within ..)
      | decide

theorem State.isaSatk_within (s : State) (n : Nat) (r : TrimRun) (w : Word) : ∀ u q, isaSatk s n r w = some (u, q) → s.WithinM 2 u := by
  intro u q h
  unfold isaSatk at h
  try dsimp only at h
  all_goals first
    | contradiction
    | (obtain ⟨k, -, h⟩ := Option.map_eq_some_iff.mp h; refine State.WithinM.fst h ?_)
  all_goals
    try dsimp only
    repeat' first
      | with_reducible exact State.WithinM.refl _ _
      | with_reducible assumption
      | with_reducible apply State.WithinM.step (State.toD_within ..)
      | decide

theorem State.isaLim_within (s : State) (_n : Nat) (r : TrimRun) (w : Word) : ∀ u q, isaLim s _n r w = some (u, q) → s.WithinM 0 u := by
  intro u q h
  unfold isaLim at h
  all_goals first
    | contradiction
    | (obtain ⟨k, -, h⟩ := Option.map_eq_some_iff.mp h; refine State.WithinM.fst h ?_)
    | refine State.WithinM.fst (Option.some.inj h) ?_
  all_goals
    try dsimp only
    repeat' first
      | with_reducible exact State.WithinM.refl _ _

theorem State.isaRamp_within (s : State) (n : Nat) (r : TrimRun) (w : Word) : ∀ u q, isaRamp s n r w = some (u, q) → s.WithinM 2 u := by
  intro u q h
  unfold isaRamp at h
  try dsimp only at h
  all_goals first
    | contradiction
    | (obtain ⟨k, -, h⟩ := Option.map_eq_some_iff.mp h; refine State.WithinM.fst h ?_)
  all_goals
    try dsimp only
    repeat' first
      | with_reducible exact State.WithinM.refl _ _
      | with_reducible assumption
      | with_reducible apply State.WithinM.step (State.setStw_within ..)
      | with_reducible apply State.WithinM.step (State.toD_within ..)
      | decide

theorem State.isaPi_within (s : State) (n : Nat) (r : TrimRun) (w : Word) : ∀ u q, isaPi s n r w = some (u, q) → s.WithinM 2 u := by
  intro u q h
  unfold isaPi at h
  try dsimp only at h
  repeat' split at h
  all_goals first
    | contradiction
    | (obtain ⟨k, -, h⟩ := Option.map_eq_some_iff.mp h; refine State.WithinM.fst h ?_)
    | refine State.WithinM.fst (Option.some.inj h) ?_
  all_goals
    try dsimp only
    repeat' first
      | with_reducible exact State.WithinM.refl _ _
      | with_reducible assumption
      | with_reducible apply State.WithinM.step (State.setStw_within ..)
      | with_reducible apply State.WithinM.step (State.toD_within ..)
      | with_reducible refine State.WithinM.fst (by assumption) ?_
      | decide

theorem State.tuneEnd_within (s : State) (n state reason : Nat) : s.WithinM 67586 (State.tuneEnd s n state reason) := by
  unfold State.tuneEnd
  repeat' first
    | with_reducible exact State.WithinM.refl _ _
    | with_reducible assumption
    | with_reducible apply State.WithinM.step (State.putEngine_within ..)
    | with_reducible apply State.WithinM.step (State.raise_within ..)
    | with_reducible apply State.WithinM.step (State.setFld_within ..)
    | with_reducible refine State.WithinM.fst (by assumption) ?_
    | decide
    | split

theorem State.putCoef_within (s : State) (n a b : Nat) (c : Nat × Nat × Bool) : s.WithinM 2 (State.putCoef s n a b c) := by
  unfold State.putCoef
  repeat' first
    | with_reducible exact State.WithinM.refl _ _
    | with_reducible assumption
    | with_reducible refine State.when_within (fun _ => ?_) ?_
    | with_reducible apply State.WithinM.step (State.setFlag_within ..)
    | with_reducible apply State.WithinM.step (State.setReg_within ..)
    | decide

theorem State.tuneComplete_within (s : State) (n : Nat) (u : Tuner) : s.WithinM 67586 (State.tuneComplete s n u) := by
  unfold State.tuneComplete
  try dsimp only
  repeat' first
    | with_reducible exact State.WithinM.refl _ _
    | with_reducible assumption
    | with_reducible refine State.WithinM.ite (fun _ => ?_) (fun _ => ?_)
    | with_reducible refine State.WithinM.iteFst (fun _ => ?_) (fun _ => ?_)
    | with_reducible refine State.WithinM.foldl _ (fun _ _ => ?_) ?_
    | with_reducible apply State.WithinM.step (State.putCoef_within ..)
    | with_reducible apply State.WithinM.step (State.setReg_within ..)
    | with_reducible apply State.WithinM.step (State.tuneEnd_within ..)
    | decide

theorem State.relay_within (s : State) (n : Nat) (r : TrimRun) (w : Word) (u : Tuner) : s.WithinM 67586 (State.relay s n r w u).1 := by
  unfold State.relay
  try dsimp only
  repeat' first
    | with_reducible exact State.WithinM.refl _ _
    | with_reducible assumption
    | with_reducible refine State.WithinM.ite (fun _ => ?_) (fun _ => ?_)
    | with_reducible refine State.WithinM.iteFst (fun _ => ?_) (fun _ => ?_)
    | with_reducible apply State.WithinM.step (State.putEngine_within ..)
    | with_reducible apply State.WithinM.step (State.setFld_within ..)
    | with_reducible apply State.WithinM.step (State.toD_within ..)
    | with_reducible apply State.WithinM.step (State.tuneComplete_within ..)
    | decide

theorem State.isaPit_within (s : State) (n : Nat) (r : TrimRun) (w : Word) : ∀ u q, isaPit s n r w = some (u, q) → s.WithinM 67586 u := by
  intro u q h
  unfold isaPit at h
  repeat' split at h
  all_goals first
    | contradiction
    | (have k := State.isaPi_within _ _ _ _ _ _ h; exact State.WithinM.step k (by decide) (State.WithinM.refl _ _))
    | (obtain ⟨k, -, h⟩ := Option.map_eq_some_iff.mp h; refine State.WithinM.fst h ?_)
    | refine State.WithinM.fst (Option.some.inj h) ?_
  all_goals
    try dsimp only
    repeat' first
      | with_reducible exact State.WithinM.refl _ _
      | with_reducible assumption
      | with_reducible refine State.WithinM.ite (fun _ => ?_) (fun _ => ?_)
      | with_reducible refine State.WithinM.iteFst (fun _ => ?_) (fun _ => ?_)
      | with_reducible apply State.WithinM.step (State.relay_within ..)
      | with_reducible refine State.WithinM.fst (by assumption) ?_
      | decide

theorem State.isaBiq_within (s : State) (n : Nat) (r : TrimRun) (w : Word) : ∀ u q, isaBiq s n r w = some (u, q) → s.WithinM 2 u := by
  intro u q h
  unfold isaBiq at h
  try dsimp only at h
  repeat' split at h
  all_goals first
    | contradiction
    | (obtain ⟨k, -, h⟩ := Option.map_eq_some_iff.mp h; refine State.WithinM.fst h ?_)
    | refine State.WithinM.fst (Option.some.inj h) ?_
  all_goals
    try dsimp only
    repeat' first
      | with_reducible exact State.WithinM.refl _ _
      | with_reducible assumption
      | with_reducible apply State.WithinM.step (State.ctxFlag_within ..)
      | with_reducible apply State.WithinM.step (State.setStw_within ..)
      | with_reducible apply State.WithinM.step (State.toD_within ..)
      | with_reducible refine State.WithinM.fst (by assumption) ?_
      | decide

theorem State.toD2_within (s : State) (n : Nat) (r : TrimRun) (d : Nat) (x y : Int × Bool) : s.WithinM 10 (State.toD2 s n r d x y).1 := by
  unfold State.toD2
  try dsimp only
  repeat' first
    | with_reducible exact State.WithinM.refl _ _
    | with_reducible assumption
    | with_reducible apply State.WithinM.step (State.ctxFlag_within ..)
    | with_reducible apply State.WithinM.step (State.took_within ..)
    | decide

theorem State.isaClarke_within (s : State) (n : Nat) (r : TrimRun) (w : Word) : ∀ u q, isaClarke s n r w = some (u, q) → s.WithinM 10 u := by
  intro u q h
  unfold isaClarke at h
  try dsimp only at h
  all_goals first
    | contradiction
    | (obtain ⟨k, -, h⟩ := Option.map_eq_some_iff.mp h; refine State.WithinM.fst h ?_)
    | refine State.WithinM.fst (Option.some.inj h) ?_
  all_goals
    try dsimp only
    repeat' first
      | with_reducible exact State.WithinM.refl _ _
      | with_reducible assumption
      | with_reducible apply State.WithinM.step (State.toD2_within ..)
      | decide

theorem State.isaPark_within (s : State) (n : Nat) (r : TrimRun) (w : Word) : ∀ u q, isaPark s n r w = some (u, q) → s.WithinM 10 u := by
  intro u q h
  unfold isaPark at h
  try dsimp only at h
  all_goals first
    | contradiction
    | (obtain ⟨k, -, h⟩ := Option.map_eq_some_iff.mp h; refine State.WithinM.fst h ?_)
    | refine State.WithinM.fst (Option.some.inj h) ?_
  all_goals
    try dsimp only
    repeat' first
      | with_reducible exact State.WithinM.refl _ _
      | with_reducible assumption
      | with_reducible apply State.WithinM.step (State.toD2_within ..)
      | decide

theorem State.isaIpark_within (s : State) (n : Nat) (r : TrimRun) (w : Word) : ∀ u q, isaIpark s n r w = some (u, q) → s.WithinM 10 u := by
  intro u q h
  unfold isaIpark at h
  try dsimp only at h
  all_goals first
    | contradiction
    | (obtain ⟨k, -, h⟩ := Option.map_eq_some_iff.mp h; refine State.WithinM.fst h ?_)
    | refine State.WithinM.fst (Option.some.inj h) ?_
  all_goals
    try dsimp only
    repeat' first
      | with_reducible exact State.WithinM.refl _ _
      | with_reducible assumption
      | with_reducible apply State.WithinM.step (State.toD2_within ..)
      | decide

theorem State.isaSvm_within (s : State) (n : Nat) (r : TrimRun) (w : Word) : ∀ u q, isaSvm s n r w = some (u, q) → s.WithinM 10 u := by
  intro u q h
  unfold isaSvm at h
  try dsimp only at h
  all_goals first
    | contradiction
    | (obtain ⟨k, -, h⟩ := Option.map_eq_some_iff.mp h; refine State.WithinM.fst h ?_)
    | refine State.WithinM.fst (Option.some.inj h) ?_
  all_goals
    try dsimp only
    repeat' first
      | with_reducible exact State.WithinM.refl _ _
      | with_reducible assumption
      | with_reducible apply State.WithinM.step (State.ctxFlag_within ..)
      | with_reducible apply State.WithinM.step (State.took_within ..)
      | decide

theorem State.isaSincos_within (s : State) (n : Nat) (r : TrimRun) (w : Word) : ∀ u q, isaSincos s n r w = some (u, q) → s.WithinM 10 u := by
  intro u q h
  unfold isaSincos at h
  try dsimp only at h
  all_goals first
    | contradiction
    | (obtain ⟨k, -, h⟩ := Option.map_eq_some_iff.mp h; refine State.WithinM.fst h ?_)
    | refine State.WithinM.fst (Option.some.inj h) ?_
  all_goals
    try dsimp only
    repeat' first
      | with_reducible exact State.WithinM.refl _ _
      | with_reducible assumption
      | with_reducible apply State.WithinM.step (State.toD2_within ..)
      | decide

theorem State.isaAtan2_within (s : State) (n : Nat) (r : TrimRun) (w : Word) : ∀ u q, isaAtan2 s n r w = some (u, q) → s.WithinM 10 u := by
  intro u q h
  unfold isaAtan2 at h
  try dsimp only at h
  repeat' split at h
  all_goals first
    | contradiction
    | (obtain ⟨k, -, h⟩ := Option.map_eq_some_iff.mp h; refine State.WithinM.fst h ?_)
    | refine State.WithinM.fst (Option.some.inj h) ?_
  all_goals
    try dsimp only
    repeat' first
      | with_reducible exact State.WithinM.refl _ _
      | with_reducible assumption
      | with_reducible refine State.WithinM.ite (fun _ => ?_) (fun _ => ?_)
      | with_reducible refine State.WithinM.iteFst (fun _ => ?_) (fun _ => ?_)
      | with_reducible apply State.WithinM.step (State.ctxFlag_within ..)
      | with_reducible apply State.WithinM.step (State.took_within ..)
      | decide

theorem State.isaSqrt_within (s : State) (n : Nat) (r : TrimRun) (w : Word) : ∀ u q, isaSqrt s n r w = some (u, q) → s.WithinM 2 u := by
  intro u q h
  unfold isaSqrt at h
  try dsimp only at h
  repeat' split at h
  all_goals first
    | contradiction
    | (obtain ⟨k, -, h⟩ := Option.map_eq_some_iff.mp h; refine State.WithinM.fst h ?_)
    | refine State.WithinM.fst (Option.some.inj h) ?_
  all_goals
    try dsimp only
    repeat' first
      | with_reducible exact State.WithinM.refl _ _
      | with_reducible assumption
      | with_reducible refine State.WithinM.ite (fun _ => ?_) (fun _ => ?_)
      | with_reducible refine State.WithinM.iteFst (fun _ => ?_) (fun _ => ?_)
      | with_reducible apply State.WithinM.step (State.ctxFlag_within ..)
      | decide

theorem State.isaDiv_within (s : State) (n : Nat) (r : TrimRun) (w : Word) : ∀ u q, isaDiv s n r w = some (u, q) → s.WithinM 2 u := by
  intro u q h
  unfold isaDiv at h
  try dsimp only at h
  repeat' split at h
  all_goals first
    | contradiction
    | (obtain ⟨k, -, h⟩ := Option.map_eq_some_iff.mp h; refine State.WithinM.fst h ?_)
    | refine State.WithinM.fst (Option.some.inj h) ?_
  all_goals
    try dsimp only
    repeat' first
      | with_reducible exact State.WithinM.refl _ _
      | with_reducible assumption
      | with_reducible refine State.WithinM.ite (fun _ => ?_) (fun _ => ?_)
      | with_reducible refine State.WithinM.iteFst (fun _ => ?_) (fun _ => ?_)
      | with_reducible apply State.WithinM.step (State.ctxFlag_within ..)
      | with_reducible apply State.WithinM.step (State.toD_within ..)
      | decide

end Sys2Proof.Machine
end

