-- ==== Sys2Proof/Laws/WithinTrimOps.lean ====
section
/-! SUPPORT. Which kinds of state each operation of Machine/TrimOps.lean can change. -/

namespace Sys2Proof.Machine

variable {m : Nat} {s t u : State}

theorem State.estat_within (s : State) (n : Nat) : s.WithinM 2 (State.estat s n) := by
  unfold State.estat
  try dsimp only
  repeat' first
    | with_reducible exact State.WithinM.refl _ _
    | with_reducible assumption
    | with_reducible apply State.WithinM.step (State.setReg_within ..)
    | with_reducible refine State.WithinM.fst (by assumption) ?_
    | decide

theorem State.reportStatus_within (s : State) (c : Nat) (st : CtxStatus) : s.WithinM 32768 (State.reportStatus s c st) := by
  unfold State.reportStatus
  try dsimp only
  repeat' first
    | with_reducible exact State.WithinM.refl _ _
    | with_reducible assumption
    | with_reducible refine State.WithinM.ite (fun _ => ?_) (fun _ => ?_)
    | with_reducible refine State.WithinM.iteFst (fun _ => ?_) (fun _ => ?_)
    | with_reducible apply State.WithinM.step (State.setShroud_within ..)
    | with_reducible refine State.WithinM.fst (by assumption) ?_
    | decide
    | split

theorem State.ctxReport_within (s : State) (n i : Nat) (st : CtxStatus) : s.WithinM 32768 (State.ctxReport s n i st) := by
  unfold State.ctxReport
  repeat' first
    | with_reducible exact State.WithinM.refl _ _
    | with_reducible assumption
    | with_reducible refine State.WithinM.ite (fun _ => ?_) (fun _ => ?_)
    | with_reducible refine State.WithinM.iteFst (fun _ => ?_) (fun _ => ?_)
    | with_reducible apply State.WithinM.step (State.reportStatus_within ..)
    | decide

theorem State.runOver_within (s : State) (n : Nat) (r : TrimRun) : s.WithinM 196610 (State.runOver s n r) := by
  unfold State.runOver
  try dsimp only
  repeat' first
    | with_reducible exact State.WithinM.refl _ _
    | with_reducible assumption
    | with_reducible apply State.WithinM.step (State.estat_within ..)
    | with_reducible apply State.WithinM.step (State.putCtx_within ..)
    | with_reducible apply State.WithinM.step (State.putEngine_within ..)
    | with_reducible apply State.WithinM.step (State.setFlag_within ..)
    | with_reducible apply State.WithinM.step (State.setFld_within ..)
    | with_reducible apply State.WithinM.step (State.setReg_within ..)
    | decide

theorem State.dropPending_within (s : State) (n i : Nat) : s.WithinM 32770 (State.dropPending s n i) := by
  unfold State.dropPending
  repeat' first
    | with_reducible exact State.WithinM.refl _ _
    | with_reducible assumption
    | with_reducible refine State.WithinM.ite (fun _ => ?_) (fun _ => ?_)
    | with_reducible refine State.WithinM.iteFst (fun _ => ?_) (fun _ => ?_)
    | with_reducible apply State.WithinM.step (State.ctxReport_within ..)
    | with_reducible apply State.WithinM.step (State.estat_within ..)
    | with_reducible apply State.WithinM.step (State.setFlag_within ..)
    | decide

theorem State.tuneAbortSlot_within (s : State) (n i : Nat) : s.WithinM 65536 (State.tuneAbortSlot s n i) := by
  unfold State.tuneAbortSlot
  repeat' first
    | with_reducible exact State.WithinM.refl _ _
    | with_reducible assumption
    | with_reducible refine State.WithinM.ite (fun _ => ?_) (fun _ => ?_)
    | with_reducible refine State.WithinM.iteFst (fun _ => ?_) (fun _ => ?_)
    | with_reducible apply State.WithinM.step (State.putEngine_within ..)
    | with_reducible refine State.WithinM.fst (by assumption) ?_
    | decide
    | split

theorem State.ctxOff_within (s : State) (n i : Nat) : s.WithinM 131074 (State.ctxOff s n i) := by
  unfold State.ctxOff
  repeat' first
    | with_reducible exact State.WithinM.refl _ _
    | with_reducible assumption
    | with_reducible apply State.WithinM.step (State.putCtx_within ..)
    | with_reducible apply State.WithinM.step (State.setFlag_within ..)
    | decide

theorem State.ctxFault_within (s : State) (n : Nat) (r : TrimRun) (cause : Nat) : s.WithinM 231426 (State.ctxFault s n r cause) := by
  unfold State.ctxFault
  try dsimp only
  repeat' first
    | with_reducible exact State.WithinM.refl _ _
    | with_reducible assumption
    | with_reducible apply State.WithinM.step (State.ctxOff_within ..)
    | with_reducible apply State.WithinM.step (State.ctxReport_within ..)
    | with_reducible apply State.WithinM.step (State.dropPending_within ..)
    | with_reducible apply State.WithinM.step (State.fault_within ..)
    | with_reducible apply State.WithinM.step (State.raise_within ..)
    | with_reducible apply State.WithinM.step (State.runOver_within ..)
    | with_reducible apply State.WithinM.step (State.setFld_within ..)
    | with_reducible apply State.WithinM.step (State.tuneAbortSlot_within ..)
    | decide

theorem State.ctxClose_within (s : State) (n i : Nat) : s.WithinM 229378 (State.ctxClose s n i) := by
  unfold State.ctxClose
  try dsimp only
  repeat' first
    | with_reducible exact State.WithinM.refl _ _
    | with_reducible assumption
    | with_reducible apply State.WithinM.step (State.ctxOff_within ..)
    | with_reducible apply State.WithinM.step (State.dropPending_within ..)
    | with_reducible apply State.WithinM.step (State.putCtx_within ..)
    | with_reducible apply State.WithinM.step (State.tuneAbortSlot_within ..)
    | with_reducible refine State.WithinM.fst (by assumption) ?_
    | decide

theorem State.engineStop_within (s : State) (n : Nat) : s.WithinM 229378 (State.engineStop s n) := by
  unfold State.engineStop
  try dsimp only
  repeat' first
    | with_reducible exact State.WithinM.refl _ _
    | with_reducible assumption
    | with_reducible refine State.each_within (fun _ _ => ?_) ?_
    | with_reducible apply State.WithinM.step (State.ctxOff_within ..)
    | with_reducible apply State.WithinM.step (State.ctxReport_within ..)
    | with_reducible apply State.WithinM.step (State.dropPending_within ..)
    | with_reducible apply State.WithinM.step (State.runOver_within ..)
    | with_reducible apply State.WithinM.step (State.tuneAbortSlot_within ..)
    | with_reducible refine State.WithinM.fst (by assumption) ?_
    | decide
    | split

theorem State.enableRefuse_within (s : State) (n i why : Nat) : s.WithinM 133122 (State.enableRefuse s n i why) := by
  unfold State.enableRefuse
  repeat' first
    | with_reducible exact State.WithinM.refl _ _
    | with_reducible assumption
    | with_reducible apply State.WithinM.step (State.ctxOff_within ..)
    | with_reducible apply State.WithinM.step (State.raise_within ..)
    | with_reducible apply State.WithinM.step (State.setFld_within ..)
    | decide

theorem State.ctxEnable_within (s : State) (n i : Nat) : s.WithinM 133122 (State.ctxEnable s n i) := by
  unfold State.ctxEnable
  try dsimp only
  repeat' first
    | with_reducible exact State.WithinM.refl _ _
    | with_reducible assumption
    | with_reducible apply State.WithinM.step (State.enableRefuse_within ..)
    | with_reducible apply State.WithinM.step (State.setFlag_within ..)
    | with_reducible apply State.WithinM.step (State.setFld_within ..)
    | with_reducible refine State.WithinM.fst (by assumption) ?_
    | decide
    | split

theorem State.rampStart_within (s : State) (n i : Nat) : s.WithinM 2 (State.rampStart s n i) := by
  unfold State.rampStart
  try dsimp only
  repeat' first
    | with_reducible exact State.WithinM.refl _ _
    | with_reducible assumption
    | with_reducible refine State.WithinM.ite (fun _ => ?_) (fun _ => ?_)
    | with_reducible refine State.WithinM.iteFst (fun _ => ?_) (fun _ => ?_)
    | with_reducible apply State.WithinM.step (State.setFlag_within ..)
    | with_reducible apply State.WithinM.step (State.setReg_within ..)
    | decide

theorem State.scanDone_within (s : State) (n i : Nat) : s.WithinM 133122 (State.scanDone s n i) := by
  unfold State.scanDone
  try dsimp only
  repeat' first
    | with_reducible exact State.WithinM.refl _ _
    | with_reducible assumption
    | with_reducible refine State.WithinM.ite (fun _ => ?_) (fun _ => ?_)
    | with_reducible refine State.WithinM.iteFst (fun _ => ?_) (fun _ => ?_)
    | with_reducible apply State.WithinM.step (State.enableRefuse_within ..)
    | with_reducible apply State.WithinM.step (State.putCtx_within ..)
    | with_reducible apply State.WithinM.step (State.rampStart_within ..)
    | with_reducible apply State.WithinM.step (State.setFlag_within ..)
    | decide

theorem State.ctxTrigger_within (s : State) (n i : Nat) : s.WithinM 165890 (State.ctxTrigger s n i) := by
  unfold State.ctxTrigger
  repeat' first
    | with_reducible exact State.WithinM.refl _ _
    | with_reducible assumption
    | with_reducible refine State.WithinM.ite (fun _ => ?_) (fun _ => ?_)
    | with_reducible refine State.WithinM.iteFst (fun _ => ?_) (fun _ => ?_)
    | with_reducible apply State.WithinM.step (State.ctxReport_within ..)
    | with_reducible apply State.WithinM.step (State.estat_within ..)
    | with_reducible apply State.WithinM.step (State.putCtx_within ..)
    | with_reducible apply State.WithinM.step (State.raise_within ..)
    | with_reducible apply State.WithinM.step (State.setFlag_within ..)
    | decide

theorem State.trimTrigger_within (s : State) (e : Nat) : s.WithinM 165890 (State.trimTrigger s e) := by
  unfold State.trimTrigger
  repeat' first
    | with_reducible exact State.WithinM.refl _ _
    | with_reducible assumption
    | with_reducible refine State.WithinM.ite (fun _ => ?_) (fun _ => ?_)
    | with_reducible refine State.WithinM.iteFst (fun _ => ?_) (fun _ => ?_)
    | with_reducible refine State.each_within (fun _ _ => ?_) ?_
    | with_reducible apply State.WithinM.step (State.ctxTrigger_within ..)
    | decide

theorem State.rampStep_within (s : State) (n i : Nat) (goal : Word) : s.WithinM 2050 (State.rampStep s n i goal) := by
  unfold State.rampStep
  try dsimp only
  repeat' first
    | with_reducible exact State.WithinM.refl _ _
    | with_reducible assumption
    | with_reducible refine State.WithinM.ite (fun _ => ?_) (fun _ => ?_)
    | with_reducible refine State.WithinM.iteFst (fun _ => ?_) (fun _ => ?_)
    | with_reducible apply State.WithinM.step (State.raise_within ..)
    | with_reducible apply State.WithinM.step (State.setFlag_within ..)
    | with_reducible apply State.WithinM.step (State.setReg_within ..)
    | decide

theorem State.tuneCheck_within (s : State) (n i : Nat) : s.WithinM 67586 (State.tuneCheck s n i) := by
  unfold State.tuneCheck
  repeat' first
    | with_reducible exact State.WithinM.refl _ _
    | with_reducible assumption
    | with_reducible refine State.WithinM.ite (fun _ => ?_) (fun _ => ?_)
    | with_reducible refine State.WithinM.iteFst (fun _ => ?_) (fun _ => ?_)
    | with_reducible apply State.WithinM.step (State.tuneEnd_within ..)
    | with_reducible refine State.WithinM.fst (by assumption) ?_
    | decide
    | split

theorem State.runStart_within (s : State) (n : Nat) : s.WithinM 67586 (State.runStart s n) := by
  unfold State.runStart
  try dsimp only
  repeat' first
    | with_reducible exact State.WithinM.refl _ _
    | with_reducible assumption
    | with_reducible apply State.WithinM.step (State.estat_within ..)
    | with_reducible apply State.WithinM.step (State.putEngine_within ..)
    | with_reducible apply State.WithinM.step (State.rampStep_within ..)
    | with_reducible apply State.WithinM.step (State.setFlag_within ..)
    | with_reducible apply State.WithinM.step (State.setReg_within ..)
    | with_reducible apply State.WithinM.step (State.tuneCheck_within ..)
    | with_reducible refine State.WithinM.fst (by assumption) ?_
    | decide
    | split

theorem State.eccCount_within (s : State) (n : Nat) (e : Ecc) : s.WithinM 2 (State.eccCount s n e) := by
  unfold State.eccCount
  repeat' first
    | with_reducible exact State.WithinM.refl _ _
    | with_reducible assumption
    | with_reducible refine State.WithinM.ite (fun _ => ?_) (fun _ => ?_)
    | with_reducible refine State.WithinM.iteFst (fun _ => ?_) (fun _ => ?_)
    | with_reducible apply State.WithinM.step (State.bump_within ..)
    | decide

theorem State.goOn_within (s : State) (n : Nat) (r : TrimRun) (pc : Int) (c : Nat) : s.WithinM 231426 (State.goOn s n r pc c) := by
  unfold State.goOn
  try dsimp only
  repeat' first
    | with_reducible exact State.WithinM.refl _ _
    | with_reducible assumption
    | with_reducible refine State.WithinM.ite (fun _ => ?_) (fun _ => ?_)
    | with_reducible refine State.WithinM.iteFst (fun _ => ?_) (fun _ => ?_)
    | with_reducible apply State.WithinM.step (State.ctxFault_within ..)
    | with_reducible apply State.WithinM.step (State.putEngine_within ..)
    | decide

theorem State.isaStep_within {f : State → Nat → TrimRun → Word → IsaRes} {n op cost : Nat} {ecc : Ecc} (hm : 231426 &&& m = 231426)
    (h : ∀ t n r w u q, f t n r w = some (u, q) → State.WithinM m t u) : State.WithinM m s (s.isaStep n ecc op cost f) := by
  unfold State.isaStep
  split
  · exact State.WithinM.refl _ _
  · refine State.WithinM.ite (fun _ => ?_) (fun _ => ?_)
    · exact (State.ctxFault_within ..).step (mask_sub hm (by decide)) (State.WithinM.refl _ _)
    · split
      · rename_i e
        refine (State.goOn_within ..).step (mask_sub hm (by decide)) ((h _ _ _ _ _ _ e).step (Nat.and_self m) ?_)
        exact (State.eccCount_within ..).step (mask_sub hm (by decide)) (State.WithinM.refl _ _)
      · refine (State.ctxFault_within ..).step (mask_sub hm (by decide)) ?_
        exact (State.eccCount_within ..).step (mask_sub hm (by decide)) (State.WithinM.refl _ _)

theorem State.isaBranch_within (s : State) (n : Nat) (ecc : Ecc) : s.WithinM 231426 (State.isaBranch s n ecc) := by
  unfold State.isaBranch
  repeat' first
    | with_reducible exact State.WithinM.refl _ _
    | with_reducible assumption
    | with_reducible refine State.WithinM.ite (fun _ => ?_) (fun _ => ?_)
    | with_reducible refine State.WithinM.iteFst (fun _ => ?_) (fun _ => ?_)
    | with_reducible apply State.WithinM.step (State.ctxFault_within ..)
    | with_reducible apply State.WithinM.step (State.eccCount_within ..)
    | with_reducible apply State.WithinM.step (State.goOn_within ..)
    | with_reducible refine State.WithinM.fst (by assumption) ?_
    | decide
    | split

theorem State.budgetCut_within (s : State) (n : Nat) (mismatch : Bool) : s.WithinM 231426 (State.budgetCut s n mismatch) := by
  unfold State.budgetCut
  try dsimp only
  repeat' first
    | with_reducible exact State.WithinM.refl _ _
    | with_reducible assumption
    | with_reducible refine State.WithinM.ite (fun _ => ?_) (fun _ => ?_)
    | with_reducible refine State.WithinM.iteFst (fun _ => ?_) (fun _ => ?_)
    | with_reducible refine State.when_within (fun _ => ?_) ?_
    | with_reducible apply State.WithinM.step (State.ctxReport_within ..)
    | with_reducible apply State.WithinM.step (State.raise_within ..)
    | with_reducible apply State.WithinM.step (State.runOver_within ..)
    | with_reducible apply State.WithinM.step (State.setFlag_within ..)
    | with_reducible refine State.WithinM.fst (by assumption) ?_
    | decide
    | split

theorem State.commitUnit_within (s : State) (r : TrimRun) (u base : Nat) : s.WithinM 8388608 (State.commitUnit s r u base) := by
  unfold State.commitUnit
  repeat' first
    | with_reducible exact State.WithinM.refl _ _
    | with_reducible assumption
    | with_reducible refine State.WithinM.ite (fun _ => ?_) (fun _ => ?_)
    | with_reducible refine State.WithinM.iteFst (fun _ => ?_) (fun _ => ?_)
    | with_reducible apply State.WithinM.step (State.commitSet_within ..)
    | decide

theorem State.commitWords_within (s : State) (n : Nat) (r : TrimRun) : s.WithinM 8650752 (State.commitWords s n r) := by
  unfold State.commitWords
  try dsimp only
  repeat' first
    | with_reducible exact State.WithinM.refl _ _
    | with_reducible assumption
    | with_reducible refine State.WithinM.ite (fun _ => ?_) (fun _ => ?_)
    | with_reducible refine State.WithinM.iteFst (fun _ => ?_) (fun _ => ?_)
    | with_reducible refine State.each_within (fun _ _ => ?_) ?_
    | with_reducible apply State.WithinM.step (State.commitUnit_within ..)
    | with_reducible apply State.WithinM.step (State.publish_within ..)
    | decide

theorem State.tuneStart_within (s : State) (n : Nat) : s.WithinM 65538 (State.tuneStart s n) := by
  unfold State.tuneStart
  try dsimp only
  repeat' first
    | with_reducible exact State.WithinM.refl _ _
    | with_reducible assumption
    | with_reducible refine State.WithinM.ite (fun _ => ?_) (fun _ => ?_)
    | with_reducible refine State.WithinM.iteFst (fun _ => ?_) (fun _ => ?_)
    | with_reducible apply State.WithinM.step (State.putEngine_within ..)
    | with_reducible apply State.WithinM.step (State.setFld_within ..)
    | with_reducible apply State.WithinM.step (State.setReg_within ..)
    | decide

theorem State.tuneFail_within (s : State) (n why : Nat) : s.WithinM 65536 (State.tuneFail s n why) := by
  unfold State.tuneFail
  repeat' first
    | with_reducible exact State.WithinM.refl _ _
    | with_reducible assumption
    | with_reducible apply State.WithinM.step (State.putEngine_within ..)
    | with_reducible refine State.WithinM.fst (by assumption) ?_
    | decide
    | split

theorem State.ctxWatchdog_within (s : State) (n i : Nat) : s.WithinM 32768 (State.ctxWatchdog s n i) := by
  unfold State.ctxWatchdog
  repeat' first
    | with_reducible exact State.WithinM.refl _ _
    | with_reducible assumption
    | with_reducible refine State.WithinM.ite (fun _ => ?_) (fun _ => ?_)
    | with_reducible refine State.WithinM.iteFst (fun _ => ?_) (fun _ => ?_)
    | with_reducible apply State.WithinM.step (State.ctxReport_within ..)
    | decide

end Sys2Proof.Machine
end

