-- ==== Sys2Proof/Laws/WithinDcdcOps.lean ====
section
/-! SUPPORT. Which kinds of state each operation of Machine/DcdcOps.lean can change. -/

namespace Sys2Proof.Machine

variable {m : Nat} {s t u : State}

theorem State.putSetp_within (s : State) (c j : Nat) (v : Word) : s.WithinM 2 (State.putSetp s c j v) := by
  unfold State.putSetp
  try dsimp only
  repeat' first
    | with_reducible exact State.WithinM.refl _ _
    | with_reducible assumption
    | with_reducible refine State.WithinM.ite (fun _ => ?_) (fun _ => ?_)
    | with_reducible refine State.WithinM.iteFst (fun _ => ?_) (fun _ => ?_)
    | with_reducible apply State.WithinM.step (State.setFlag_within ..)
    | with_reducible apply State.WithinM.step (State.setReg_within ..)
    | decide

theorem State.gateUnit_within (s : State) (u mask : Nat) : s.WithinM 8388608 (State.gateUnit s u mask) := by
  unfold State.gateUnit
  repeat' first
    | with_reducible exact State.WithinM.refl _ _
    | with_reducible assumption
    | with_reducible apply State.WithinM.step (State.putPwm_within ..)
    | decide

theorem State.dcdcEnter_within (s : State) (st : Nat) : s.WithinM 2050 (State.dcdcEnter s st) := by
  unfold State.dcdcEnter
  repeat' first
    | with_reducible exact State.WithinM.refl _ _
    | with_reducible assumption
    | with_reducible refine State.WithinM.ite (fun _ => ?_) (fun _ => ?_)
    | with_reducible refine State.WithinM.iteFst (fun _ => ?_) (fun _ => ?_)
    | with_reducible apply State.WithinM.step (State.raise_within ..)
    | with_reducible apply State.WithinM.step (State.setFld_within ..)
    | decide

theorem State.dcdcCause_within (s : State) (c : Nat) : s.WithinM 2 (State.dcdcCause s c) := by
  unfold State.dcdcCause
  repeat' first
    | with_reducible exact State.WithinM.refl _ _
    | with_reducible assumption
    | with_reducible apply State.WithinM.step (State.setReg_within ..)
    | decide

theorem State.dcdcVref_within (s : State) (v : Nat) : s.WithinM 2147483650 (State.dcdcVref s v) := by
  unfold State.dcdcVref
  repeat' first
    | with_reducible exact State.WithinM.refl _ _
    | with_reducible assumption
    | with_reducible apply State.WithinM.step (State.setDcdc_within ..)
    | with_reducible apply State.WithinM.step (State.setReg_within ..)
    | decide

theorem State.dcdcPhases_within (s : State) (act : Nat) (event : Bool) : s.WithinM 2050 (State.dcdcPhases s act event) := by
  unfold State.dcdcPhases
  try dsimp only
  repeat' first
    | with_reducible exact State.WithinM.refl _ _
    | with_reducible assumption
    | with_reducible refine State.WithinM.ite (fun _ => ?_) (fun _ => ?_)
    | with_reducible refine State.WithinM.iteFst (fun _ => ?_) (fun _ => ?_)
    | with_reducible refine State.each_within (fun _ _ => ?_) ?_
    | with_reducible refine State.when_within (fun _ => ?_) ?_
    | with_reducible apply State.WithinM.step (State.raise_within ..)
    | with_reducible apply State.WithinM.step (State.setFld_within ..)
    | with_reducible apply State.WithinM.step (State.setReg_within ..)
    | decide

theorem State.dcdcHalt_within (s : State) (st : Nat) : s.WithinM 8390658 (State.dcdcHalt s st) := by
  unfold State.dcdcHalt
  try dsimp only
  repeat' first
    | with_reducible exact State.WithinM.refl _ _
    | with_reducible assumption
    | with_reducible apply State.WithinM.step (State.dcdcEnter_within ..)
    | with_reducible apply State.WithinM.step (State.dcdcPhases_within ..)
    | with_reducible apply State.WithinM.step (State.gateUnit_within ..)
    | with_reducible apply State.WithinM.step (State.putSetp_within ..)
    | decide

theorem State.dcdcAccept_within (s : State) : s.WithinM 2147485698 (State.dcdcAccept s) := by
  unfold State.dcdcAccept
  try dsimp only
  repeat' first
    | with_reducible exact State.WithinM.refl _ _
    | with_reducible assumption
    | with_reducible refine State.each_within (fun _ _ => ?_) ?_
    | with_reducible apply State.WithinM.step (State.dcdcEnter_within ..)
    | with_reducible apply State.WithinM.step (State.dcdcPhases_within ..)
    | with_reducible apply State.WithinM.step (State.dcdcVref_within ..)
    | with_reducible apply State.WithinM.step (State.setDcdc_within ..)
    | with_reducible apply State.WithinM.step (State.setReg_within ..)
    | decide

theorem State.dcdcStart_within (s : State) : s.WithinM 2147485698 (State.dcdcStart s) := by
  unfold State.dcdcStart
  repeat' first
    | with_reducible exact State.WithinM.refl _ _
    | with_reducible assumption
    | with_reducible refine State.WithinM.ite (fun _ => ?_) (fun _ => ?_)
    | with_reducible refine State.WithinM.iteFst (fun _ => ?_) (fun _ => ?_)
    | with_reducible apply State.WithinM.step (State.dcdcAccept_within ..)
    | with_reducible apply State.WithinM.step (State.dcdcCause_within ..)
    | with_reducible apply State.WithinM.step (State.raise_within ..)
    | decide

theorem State.dcdcStop_within (s : State) : s.WithinM 8390658 (State.dcdcStop s) := by
  unfold State.dcdcStop
  repeat' first
    | with_reducible exact State.WithinM.refl _ _
    | with_reducible assumption
    | with_reducible refine State.WithinM.ite (fun _ => ?_) (fun _ => ?_)
    | with_reducible refine State.WithinM.iteFst (fun _ => ?_) (fun _ => ?_)
    | with_reducible apply State.WithinM.step (State.dcdcCause_within ..)
    | with_reducible apply State.WithinM.step (State.dcdcHalt_within ..)
    | with_reducible apply State.WithinM.step (State.setFld_within ..)
    | decide

theorem State.dcdcCmd_within (s : State) (v : Word) : s.WithinM 2155874306 (State.dcdcCmd s v) := by
  unfold State.dcdcCmd
  repeat' first
    | with_reducible exact State.WithinM.refl _ _
    | with_reducible assumption
    | with_reducible refine State.WithinM.ite (fun _ => ?_) (fun _ => ?_)
    | with_reducible refine State.WithinM.iteFst (fun _ => ?_) (fun _ => ?_)
    | with_reducible apply State.WithinM.step (State.dcdcStart_within ..)
    | with_reducible apply State.WithinM.step (State.dcdcStop_within ..)
    | decide

theorem State.dcdcTrip_within (s : State) (cause : Nat) (bit_ : Option Nat) : s.WithinM 8390658 (State.dcdcTrip s cause bit_) := by
  unfold State.dcdcTrip
  try dsimp only
  repeat' first
    | with_reducible exact State.WithinM.refl _ _
    | with_reducible assumption
    | with_reducible refine State.WithinM.ite (fun _ => ?_) (fun _ => ?_)
    | with_reducible refine State.WithinM.iteFst (fun _ => ?_) (fun _ => ?_)
    | with_reducible apply State.WithinM.step (State.dcdcCause_within ..)
    | with_reducible apply State.WithinM.step (State.dcdcHalt_within ..)
    | with_reducible apply State.WithinM.step (State.fault_within ..)
    | with_reducible apply State.WithinM.step (State.raise_within ..)
    | with_reducible refine State.WithinM.fst (by assumption) ?_
    | decide
    | split

theorem State.dcdcShroud_within (s : State) : s.WithinM 8390658 (State.dcdcShroud s) := by
  unfold State.dcdcShroud
  repeat' first
    | with_reducible exact State.WithinM.refl _ _
    | with_reducible assumption
    | with_reducible refine State.WithinM.ite (fun _ => ?_) (fun _ => ?_)
    | with_reducible refine State.WithinM.iteFst (fun _ => ?_) (fun _ => ?_)
    | with_reducible apply State.WithinM.step (State.dcdcTrip_within ..)
    | decide

theorem State.dcdcSafe_within (s : State) : s.WithinM 8390658 (State.dcdcSafe s) := by
  unfold State.dcdcSafe
  repeat' first
    | with_reducible exact State.WithinM.refl _ _
    | with_reducible assumption
    | with_reducible refine State.WithinM.ite (fun _ => ?_) (fun _ => ?_)
    | with_reducible refine State.WithinM.iteFst (fun _ => ?_) (fun _ => ?_)
    | with_reducible apply State.WithinM.step (State.dcdcCause_within ..)
    | with_reducible apply State.WithinM.step (State.dcdcHalt_within ..)
    | decide

theorem State.dcdcShort_within (s : State) : s.WithinM 8390658 (State.dcdcShort s) := by
  unfold State.dcdcShort
  try dsimp only
  repeat' first
    | with_reducible exact State.WithinM.refl _ _
    | with_reducible assumption
    | with_reducible refine State.WithinM.ite (fun _ => ?_) (fun _ => ?_)
    | with_reducible refine State.WithinM.iteFst (fun _ => ?_) (fun _ => ?_)
    | with_reducible apply State.WithinM.step (State.bump_within ..)
    | with_reducible apply State.WithinM.step (State.dcdcCause_within ..)
    | with_reducible apply State.WithinM.step (State.dcdcHalt_within ..)
    | with_reducible apply State.WithinM.step (State.fault_within ..)
    | with_reducible apply State.WithinM.step (State.raise_within ..)
    | decide

theorem State.dcdcRetry_within (s : State) : s.WithinM 2147485698 (State.dcdcRetry s) := by
  unfold State.dcdcRetry
  repeat' first
    | with_reducible exact State.WithinM.refl _ _
    | with_reducible assumption
    | with_reducible refine State.WithinM.ite (fun _ => ?_) (fun _ => ?_)
    | with_reducible refine State.WithinM.iteFst (fun _ => ?_) (fun _ => ?_)
    | with_reducible apply State.WithinM.step (State.dcdcAccept_within ..)
    | with_reducible apply State.WithinM.step (State.dcdcCause_within ..)
    | with_reducible apply State.WithinM.step (State.dcdcEnter_within ..)
    | decide

theorem State.dcdcHealthy_within (s : State) : s.WithinM 2 (State.dcdcHealthy s) := by
  unfold State.dcdcHealthy
  try dsimp only
  repeat' first
    | with_reducible exact State.WithinM.refl _ _
    | with_reducible assumption
    | with_reducible refine State.WithinM.ite (fun _ => ?_) (fun _ => ?_)
    | with_reducible refine State.WithinM.iteFst (fun _ => ?_) (fun _ => ?_)
    | with_reducible apply State.WithinM.step (State.setFld_within ..)
    | decide

theorem State.dcdcUnlatch_within (s : State) : s.WithinM 2050 (State.dcdcUnlatch s) := by
  unfold State.dcdcUnlatch
  repeat' first
    | with_reducible exact State.WithinM.refl _ _
    | with_reducible assumption
    | with_reducible refine State.WithinM.ite (fun _ => ?_) (fun _ => ?_)
    | with_reducible refine State.WithinM.iteFst (fun _ => ?_) (fun _ => ?_)
    | with_reducible apply State.WithinM.step (State.dcdcEnter_within ..)
    | decide

theorem State.dcdcEnable_within (s : State) : s.WithinM 2155872258 (State.dcdcEnable s) := by
  unfold State.dcdcEnable
  try dsimp only
  repeat' first
    | with_reducible exact State.WithinM.refl _ _
    | with_reducible assumption
    | with_reducible refine State.WithinM.ite (fun _ => ?_) (fun _ => ?_)
    | with_reducible refine State.WithinM.iteFst (fun _ => ?_) (fun _ => ?_)
    | with_reducible apply State.WithinM.step (State.gateUnit_within ..)
    | with_reducible apply State.WithinM.step (State.setDcdc_within ..)
    | with_reducible apply State.WithinM.step (State.setReg_within ..)
    | decide

theorem State.dcdcRelease_within (s : State) : s.WithinM 8388608 (State.dcdcRelease s) := by
  unfold State.dcdcRelease
  repeat' first
    | with_reducible exact State.WithinM.refl _ _
    | with_reducible assumption
    | with_reducible apply State.WithinM.step (State.gateUnit_within ..)
    | decide

theorem State.dcdcDisable_within (s : State) : s.WithinM 8390658 (State.dcdcDisable s) := by
  unfold State.dcdcDisable
  repeat' first
    | with_reducible exact State.WithinM.refl _ _
    | with_reducible assumption
    | with_reducible refine State.WithinM.ite (fun _ => ?_) (fun _ => ?_)
    | with_reducible refine State.WithinM.iteFst (fun _ => ?_) (fun _ => ?_)
    | with_reducible apply State.WithinM.step (State.dcdcHalt_within ..)
    | with_reducible apply State.WithinM.step (State.dcdcRelease_within ..)
    | decide

theorem State.dcdcEdge_within (s : State) : s.WithinM 2147483648 (State.dcdcEdge s) := by
  unfold State.dcdcEdge
  try dsimp only
  repeat' first
    | with_reducible exact State.WithinM.refl _ _
    | with_reducible assumption
    | with_reducible refine State.WithinM.ite (fun _ => ?_) (fun _ => ?_)
    | with_reducible refine State.WithinM.iteFst (fun _ => ?_) (fun _ => ?_)
    | with_reducible apply State.WithinM.step (State.setDcdc_within ..)
    | with_reducible refine State.WithinM.fst (by assumption) ?_
    | decide
    | split

theorem State.dcdcMissing_within (s : State) : s.WithinM 2147485698 (State.dcdcMissing s) := by
  unfold State.dcdcMissing
  try dsimp only
  repeat' first
    | with_reducible exact State.WithinM.refl _ _
    | with_reducible assumption
    | with_reducible refine State.WithinM.ite (fun _ => ?_) (fun _ => ?_)
    | with_reducible refine State.WithinM.iteFst (fun _ => ?_) (fun _ => ?_)
    | with_reducible apply State.WithinM.step (State.raise_within ..)
    | with_reducible apply State.WithinM.step (State.setDcdc_within ..)
    | with_reducible apply State.WithinM.step (State.setFlag_within ..)
    | decide

theorem State.dcdcPer_within (s : State) (n : Nat) : s.WithinM 2 (State.dcdcPer s n) := by
  unfold State.dcdcPer
  repeat' first
    | with_reducible exact State.WithinM.refl _ _
    | with_reducible assumption
    | with_reducible apply State.WithinM.step (State.setFld_within ..)
    | decide

theorem State.dcdcFreq_within (s : State) : s.WithinM 2147485698 (State.dcdcFreq s) := by
  unfold State.dcdcFreq
  try dsimp only
  repeat' first
    | with_reducible exact State.WithinM.refl _ _
    | with_reducible assumption
    | with_reducible refine State.WithinM.ite (fun _ => ?_) (fun _ => ?_)
    | with_reducible refine State.WithinM.iteFst (fun _ => ?_) (fun _ => ?_)
    | with_reducible refine State.when_within (fun _ => ?_) ?_
    | with_reducible apply State.WithinM.step (State.dcdcPer_within ..)
    | with_reducible apply State.WithinM.step (State.raise_within ..)
    | with_reducible apply State.WithinM.step (State.setDcdc_within ..)
    | with_reducible apply State.WithinM.step (State.setFlag_within ..)
    | with_reducible apply State.WithinM.step (State.setReg_within ..)
    | decide

theorem State.dcdcShed_within (s : State) : s.WithinM 2050 (State.dcdcShed s) := by
  unfold State.dcdcShed
  try dsimp only
  repeat' first
    | with_reducible exact State.WithinM.refl _ _
    | with_reducible assumption
    | with_reducible refine State.WithinM.ite (fun _ => ?_) (fun _ => ?_)
    | with_reducible refine State.WithinM.iteFst (fun _ => ?_) (fun _ => ?_)
    | with_reducible apply State.WithinM.step (State.dcdcPhases_within ..)
    | with_reducible refine State.WithinM.fst (by assumption) ?_
    | decide
    | split

theorem State.dcdcAdd_within (s : State) : s.WithinM 2050 (State.dcdcAdd s) := by
  unfold State.dcdcAdd
  try dsimp only
  repeat' first
    | with_reducible exact State.WithinM.refl _ _
    | with_reducible assumption
    | with_reducible refine State.WithinM.ite (fun _ => ?_) (fun _ => ?_)
    | with_reducible refine State.WithinM.iteFst (fun _ => ?_) (fun _ => ?_)
    | with_reducible apply State.WithinM.step (State.dcdcPhases_within ..)
    | with_reducible refine State.WithinM.fst (by assumption) ?_
    | decide
    | split

theorem State.dcdcBalance_within (s : State) : s.WithinM 2 (State.dcdcBalance s) := by
  unfold State.dcdcBalance
  try dsimp only
  repeat' first
    | with_reducible exact State.WithinM.refl _ _
    | with_reducible assumption
    | with_reducible refine State.WithinM.ite (fun _ => ?_) (fun _ => ?_)
    | with_reducible refine State.WithinM.iteFst (fun _ => ?_) (fun _ => ?_)
    | with_reducible refine State.each_within (fun _ _ => ?_) ?_
    | with_reducible apply State.WithinM.step (State.setReg_within ..)
    | decide

theorem State.dcdcShare_within (s : State) : s.WithinM 2050 (State.dcdcShare s) := by
  unfold State.dcdcShare
  try dsimp only
  repeat' first
    | with_reducible exact State.WithinM.refl _ _
    | with_reducible assumption
    | with_reducible refine State.WithinM.ite (fun _ => ?_) (fun _ => ?_)
    | with_reducible refine State.WithinM.iteFst (fun _ => ?_) (fun _ => ?_)
    | with_reducible apply State.WithinM.step (State.dcdcAdd_within ..)
    | with_reducible apply State.WithinM.step (State.dcdcBalance_within ..)
    | with_reducible apply State.WithinM.step (State.dcdcPhases_within ..)
    | with_reducible apply State.WithinM.step (State.setFlag_within ..)
    | decide

theorem State.dcdcCommit_within (s : State) : s.WithinM 8388608 (State.dcdcCommit s) := by
  unfold State.dcdcCommit
  try dsimp only
  repeat' first
    | with_reducible exact State.WithinM.refl _ _
    | with_reducible assumption
    | with_reducible apply State.WithinM.step (State.commitSet_within ..)
    | decide

theorem State.dcdcSlew_within (s : State) : s.WithinM 2147485698 (State.dcdcSlew s) := by
  unfold State.dcdcSlew
  try dsimp only
  repeat' first
    | with_reducible exact State.WithinM.refl _ _
    | with_reducible assumption
    | with_reducible refine State.WithinM.ite (fun _ => ?_) (fun _ => ?_)
    | with_reducible refine State.WithinM.iteFst (fun _ => ?_) (fun _ => ?_)
    | with_reducible apply State.WithinM.step (State.dcdcEnter_within ..)
    | with_reducible apply State.WithinM.step (State.dcdcVref_within ..)
    | decide

theorem State.dcdcSense_within (s : State) : s.WithinM 2155874306 (State.dcdcSense s) := by
  unfold State.dcdcSense
  try dsimp only
  repeat' first
    | with_reducible exact State.WithinM.refl _ _
    | with_reducible assumption
    | with_reducible refine State.WithinM.ite (fun _ => ?_) (fun _ => ?_)
    | with_reducible refine State.WithinM.iteFst (fun _ => ?_) (fun _ => ?_)
    | with_reducible apply State.WithinM.step (State.dcdcTrip_within ..)
    | with_reducible apply State.WithinM.step (State.setDcdc_within ..)
    | decide

theorem State.dcdcSetpoints_within (s : State) : s.WithinM 2 (State.dcdcSetpoints s) := by
  unfold State.dcdcSetpoints
  try dsimp only
  repeat' first
    | with_reducible exact State.WithinM.refl _ _
    | with_reducible assumption
    | with_reducible apply State.WithinM.step (State.putSetp_within ..)
    | decide

theorem State.dcdcBoundary_within (s : State) : s.WithinM 2155874306 (State.dcdcBoundary s) := by
  unfold State.dcdcBoundary
  try dsimp only
  repeat' first
    | with_reducible exact State.WithinM.refl _ _
    | with_reducible assumption
    | with_reducible refine State.WithinM.ite (fun _ => ?_) (fun _ => ?_)
    | with_reducible refine State.WithinM.iteFst (fun _ => ?_) (fun _ => ?_)
    | with_reducible apply State.WithinM.step (State.dcdcCommit_within ..)
    | with_reducible apply State.WithinM.step (State.dcdcFreq_within ..)
    | with_reducible apply State.WithinM.step (State.dcdcSense_within ..)
    | with_reducible apply State.WithinM.step (State.dcdcSetpoints_within ..)
    | with_reducible apply State.WithinM.step (State.dcdcShare_within ..)
    | with_reducible apply State.WithinM.step (State.dcdcSlew_within ..)
    | decide

end Sys2Proof.Machine
end

