-- ==== Sys2Proof/Laws/WithinObcOps.lean ====
section
/-! SUPPORT. Which kinds of state each operation of Machine/ObcOps.lean can change. -/

namespace Sys2Proof.Machine

variable {m : Nat} {s t u : State}

theorem State.pilotRelimit_within (s : State) : s.WithinM 2050 (State.pilotRelimit s) := by
  unfold State.pilotRelimit
  try dsimp only
  repeat' first
    | with_reducible exact State.WithinM.refl _ _
    | with_reducible assumption
    | with_reducible refine State.WithinM.ite (fun _ => ?_) (fun _ => ?_)
    | with_reducible refine State.WithinM.iteFst (fun _ => ?_) (fun _ => ?_)
    | with_reducible apply State.WithinM.step (State.raise_within ..)
    | with_reducible apply State.WithinM.step (State.setFlag_within ..)
    | with_reducible apply State.WithinM.step (State.setFld_within ..)
    | decide

theorem State.pilotWire_within (s : State) : s.WithinM 32770 (State.pilotWire s) := by
  unfold State.pilotWire
  try dsimp only
  repeat' first
    | with_reducible exact State.WithinM.refl _ _
    | with_reducible assumption
    | with_reducible apply State.WithinM.step (State.setFlag_within ..)
    | with_reducible apply State.WithinM.step (State.setShroud_within ..)
    | decide

theorem State.pilotS2_within (s : State) : s.WithinM 2 (State.pilotS2 s) := by
  unfold State.pilotS2
  repeat' first
    | with_reducible exact State.WithinM.refl _ _
    | with_reducible assumption
    | with_reducible refine State.WithinM.ite (fun _ => ?_) (fun _ => ?_)
    | with_reducible refine State.WithinM.iteFst (fun _ => ?_) (fun _ => ?_)
    | with_reducible apply State.WithinM.step (State.setFlag_within ..)
    | decide

theorem State.lampRefresh_within (s : State) : s.WithinM 8589934592 (State.lampRefresh s) := by
  unfold State.lampRefresh
  try dsimp only
  repeat' first
    | with_reducible exact State.WithinM.refl _ _
    | with_reducible assumption
    | with_reducible refine State.WithinM.ite (fun _ => ?_) (fun _ => ?_)
    | with_reducible refine State.WithinM.iteFst (fun _ => ?_) (fun _ => ?_)
    | with_reducible refine State.each_within (fun _ _ => ?_) ?_
    | with_reducible apply State.WithinM.step (State.putLamp_within ..)
    | decide

theorem State.lampNext_within (s : State) (i : Nat) : s.WithinM 8589934592 (State.lampNext s i) := by
  unfold State.lampNext
  try dsimp only
  repeat' first
    | with_reducible exact State.WithinM.refl _ _
    | with_reducible assumption
    | with_reducible refine State.WithinM.ite (fun _ => ?_) (fun _ => ?_)
    | with_reducible refine State.WithinM.iteFst (fun _ => ?_) (fun _ => ?_)
    | with_reducible apply State.WithinM.step (State.putLamp_within ..)
    | decide

theorem State.lampOver_within (s : State) (i : Nat) : s.WithinM 8589936642 (State.lampOver s i) := by
  unfold State.lampOver
  repeat' first
    | with_reducible exact State.WithinM.refl _ _
    | with_reducible assumption
    | with_reducible refine State.WithinM.ite (fun _ => ?_) (fun _ => ?_)
    | with_reducible refine State.WithinM.iteFst (fun _ => ?_) (fun _ => ?_)
    | with_reducible apply State.WithinM.step (State.putLamp_within ..)
    | with_reducible apply State.WithinM.step (State.raise_within ..)
    | with_reducible apply State.WithinM.step (State.setFlag_within ..)
    | decide

theorem State.lampRetry_within (s : State) (i : Nat) : s.WithinM 8589934594 (State.lampRetry s i) := by
  unfold State.lampRetry
  repeat' first
    | with_reducible exact State.WithinM.refl _ _
    | with_reducible assumption
    | with_reducible refine State.WithinM.ite (fun _ => ?_) (fun _ => ?_)
    | with_reducible refine State.WithinM.iteFst (fun _ => ?_) (fun _ => ?_)
    | with_reducible apply State.WithinM.step (State.putLamp_within ..)
    | with_reducible apply State.WithinM.step (State.setFlag_within ..)
    | decide

theorem State.obcGate_within (s : State) : s.WithinM 8388608 (State.obcGate s) := by
  unfold State.obcGate
  try dsimp only
  repeat' first
    | with_reducible exact State.WithinM.refl _ _
    | with_reducible assumption
    | with_reducible refine State.WithinM.ite (fun _ => ?_) (fun _ => ?_)
    | with_reducible refine State.WithinM.iteFst (fun _ => ?_) (fun _ => ?_)
    | with_reducible apply State.WithinM.step (State.gateUnit_within ..)
    | with_reducible refine State.WithinM.fst (by assumption) ?_
    | decide
    | split

theorem State.obcLoad_within (s : State) (u : Nat) : s.WithinM 8388608 (State.obcLoad s u) := by
  unfold State.obcLoad
  repeat' first
    | with_reducible exact State.WithinM.refl _ _
    | with_reducible assumption
    | with_reducible refine State.WithinM.ite (fun _ => ?_) (fun _ => ?_)
    | with_reducible refine State.WithinM.iteFst (fun _ => ?_) (fun _ => ?_)
    | with_reducible apply State.WithinM.step (State.gateUnit_within ..)
    | decide

theorem State.obcEnter_within (s : State) (st : Nat) : s.WithinM 8598358018 (State.obcEnter s st) := by
  unfold State.obcEnter
  try dsimp only
  repeat' first
    | with_reducible exact State.WithinM.refl _ _
    | with_reducible assumption
    | with_reducible refine State.WithinM.ite (fun _ => ?_) (fun _ => ?_)
    | with_reducible refine State.WithinM.iteFst (fun _ => ?_) (fun _ => ?_)
    | with_reducible apply State.WithinM.step (State.lampRefresh_within ..)
    | with_reducible apply State.WithinM.step (State.obcGate_within ..)
    | with_reducible apply State.WithinM.step (State.pilotS2_within ..)
    | with_reducible apply State.WithinM.step (State.pilotWire_within ..)
    | with_reducible apply State.WithinM.step (State.raise_within ..)
    | with_reducible apply State.WithinM.step (State.setFld_within ..)
    | decide

theorem State.obcCause_within (s : State) (c : Nat) : s.WithinM 2 (State.obcCause s c) := by
  unfold State.obcCause
  repeat' first
    | with_reducible exact State.WithinM.refl _ _
    | with_reducible assumption
    | with_reducible apply State.WithinM.step (State.setReg_within ..)
    | decide

theorem State.obcEnd_within (s : State) (cause : Nat) : s.WithinM 12893325314 (State.obcEnd s cause) := by
  unfold State.obcEnd
  try dsimp only
  repeat' first
    | with_reducible exact State.WithinM.refl _ _
    | with_reducible assumption
    | with_reducible refine State.WithinM.ite (fun _ => ?_) (fun _ => ?_)
    | with_reducible refine State.WithinM.iteFst (fun _ => ?_) (fun _ => ?_)
    | with_reducible refine State.when_within (fun _ => ?_) ?_
    | with_reducible apply State.WithinM.step (State.obcCause_within ..)
    | with_reducible apply State.WithinM.step (State.obcEnter_within ..)
    | with_reducible apply State.WithinM.step (State.raise_within ..)
    | with_reducible apply State.WithinM.step (State.setFlag_within ..)
    | with_reducible apply State.WithinM.step (State.setObc_within ..)
    | decide

theorem State.obcSince_within (s : State) : s.WithinM 4294967296 (State.obcSince s) := by
  unfold State.obcSince
  repeat' first
    | with_reducible exact State.WithinM.refl _ _
    | with_reducible assumption
    | with_reducible refine State.WithinM.ite (fun _ => ?_) (fun _ => ?_)
    | with_reducible refine State.WithinM.iteFst (fun _ => ?_) (fun _ => ?_)
    | with_reducible apply State.WithinM.step (State.setObc_within ..)
    | decide

theorem State.obcStart_within (s : State) (export_ : Bool) : s.WithinM 12893325314 (State.obcStart s export_) := by
  unfold State.obcStart
  try dsimp only
  repeat' first
    | with_reducible exact State.WithinM.refl _ _
    | with_reducible assumption
    | with_reducible refine State.WithinM.ite (fun _ => ?_) (fun _ => ?_)
    | with_reducible refine State.WithinM.iteFst (fun _ => ?_) (fun _ => ?_)
    | with_reducible apply State.WithinM.step (State.clrReg_within ..)
    | with_reducible apply State.WithinM.step (State.lampRefresh_within ..)
    | with_reducible apply State.WithinM.step (State.obcCause_within ..)
    | with_reducible apply State.WithinM.step (State.obcEnter_within ..)
    | with_reducible apply State.WithinM.step (State.raise_within ..)
    | with_reducible apply State.WithinM.step (State.setObc_within ..)
    | with_reducible refine State.WithinM.fst (by assumption) ?_
    | decide
    | split

theorem State.obcPlugged_within (s : State) : s.WithinM 12893325314 (State.obcPlugged s) := by
  unfold State.obcPlugged
  try dsimp only
  repeat' first
    | with_reducible exact State.WithinM.refl _ _
    | with_reducible assumption
    | with_reducible refine State.WithinM.ite (fun _ => ?_) (fun _ => ?_)
    | with_reducible refine State.WithinM.iteFst (fun _ => ?_) (fun _ => ?_)
    | with_reducible apply State.WithinM.step (State.obcEnter_within ..)
    | with_reducible apply State.WithinM.step (State.obcStart_within ..)
    | decide

theorem State.obcStop_within (s : State) : s.WithinM 12893325314 (State.obcStop s) := by
  unfold State.obcStop
  repeat' first
    | with_reducible exact State.WithinM.refl _ _
    | with_reducible assumption
    | with_reducible apply State.WithinM.step (State.obcEnd_within ..)
    | decide

theorem State.obcCmd_within (s : State) (v : Word) : s.WithinM 12893325314 (State.obcCmd s v) := by
  unfold State.obcCmd
  repeat' first
    | with_reducible exact State.WithinM.refl _ _
    | with_reducible assumption
    | with_reducible refine State.WithinM.ite (fun _ => ?_) (fun _ => ?_)
    | with_reducible refine State.WithinM.iteFst (fun _ => ?_) (fun _ => ?_)
    | with_reducible apply State.WithinM.step (State.obcStart_within ..)
    | with_reducible apply State.WithinM.step (State.obcStop_within ..)
    | decide

theorem State.obcPrecharged_within (s : State) (timeout : Bool) : s.WithinM 12893325314 (State.obcPrecharged s timeout) := by
  unfold State.obcPrecharged
  try dsimp only
  repeat' first
    | with_reducible exact State.WithinM.refl _ _
    | with_reducible assumption
    | with_reducible refine State.WithinM.ite (fun _ => ?_) (fun _ => ?_)
    | with_reducible refine State.WithinM.iteFst (fun _ => ?_) (fun _ => ?_)
    | with_reducible apply State.WithinM.step (State.obcEnd_within ..)
    | with_reducible apply State.WithinM.step (State.pilotS2_within ..)
    | with_reducible apply State.WithinM.step (State.setObc_within ..)
    | decide

theorem State.obcAc_within (s : State) (timeout : Bool) : s.WithinM 12893325314 (State.obcAc s timeout) := by
  unfold State.obcAc
  try dsimp only
  repeat' first
    | with_reducible exact State.WithinM.refl _ _
    | with_reducible assumption
    | with_reducible refine State.WithinM.ite (fun _ => ?_) (fun _ => ?_)
    | with_reducible refine State.WithinM.iteFst (fun _ => ?_) (fun _ => ?_)
    | with_reducible apply State.WithinM.step (State.obcEnd_within ..)
    | with_reducible apply State.WithinM.step (State.obcEnter_within ..)
    | with_reducible apply State.WithinM.step (State.setFlag_within ..)
    | with_reducible apply State.WithinM.step (State.setObc_within ..)
    | decide

theorem State.obcRezone_within (s : State) : s.WithinM 4294967298 (State.obcRezone s) := by
  unfold State.obcRezone
  try dsimp only
  repeat' first
    | with_reducible exact State.WithinM.refl _ _
    | with_reducible assumption
    | with_reducible refine State.WithinM.ite (fun _ => ?_) (fun _ => ?_)
    | with_reducible refine State.WithinM.iteFst (fun _ => ?_) (fun _ => ?_)
    | with_reducible apply State.WithinM.step (State.setFlag_within ..)
    | with_reducible apply State.WithinM.step (State.setFld_within ..)
    | with_reducible apply State.WithinM.step (State.setObc_within ..)
    | decide

theorem State.obcSearch_within (s : State) : s.WithinM 4294969346 (State.obcSearch s) := by
  unfold State.obcSearch
  try dsimp only
  repeat' first
    | with_reducible exact State.WithinM.refl _ _
    | with_reducible assumption
    | with_reducible refine State.WithinM.ite (fun _ => ?_) (fun _ => ?_)
    | with_reducible refine State.WithinM.iteFst (fun _ => ?_) (fun _ => ?_)
    | with_reducible refine State.when_within (fun _ => ?_) ?_
    | with_reducible apply State.WithinM.step (State.raise_within ..)
    | with_reducible apply State.WithinM.step (State.setFlag_within ..)
    | with_reducible apply State.WithinM.step (State.setFld_within ..)
    | with_reducible apply State.WithinM.step (State.setObc_within ..)
    | decide

theorem State.obcCv_within (s : State) : s.WithinM 4294967298 (State.obcCv s) := by
  unfold State.obcCv
  try dsimp only
  repeat' first
    | with_reducible exact State.WithinM.refl _ _
    | with_reducible assumption
    | with_reducible refine State.WithinM.ite (fun _ => ?_) (fun _ => ?_)
    | with_reducible refine State.WithinM.iteFst (fun _ => ?_) (fun _ => ?_)
    | with_reducible apply State.WithinM.step (State.setFlag_within ..)
    | with_reducible apply State.WithinM.step (State.setObc_within ..)
    | decide

theorem State.obcCurrent_within (s : State) : s.WithinM 12893325314 (State.obcCurrent s) := by
  unfold State.obcCurrent
  try dsimp only
  repeat' first
    | with_reducible exact State.WithinM.refl _ _
    | with_reducible assumption
    | with_reducible refine State.WithinM.ite (fun _ => ?_) (fun _ => ?_)
    | with_reducible refine State.WithinM.iteFst (fun _ => ?_) (fun _ => ?_)
    | with_reducible apply State.WithinM.step (State.obcEnd_within ..)
    | with_reducible apply State.WithinM.step (State.setFlag_within ..)
    | with_reducible apply State.WithinM.step (State.setObc_within ..)
    | decide

theorem State.obcExporting_within (s : State) : s.WithinM 12893325314 (State.obcExporting s) := by
  unfold State.obcExporting
  try dsimp only
  repeat' first
    | with_reducible exact State.WithinM.refl _ _
    | with_reducible assumption
    | with_reducible refine State.WithinM.ite (fun _ => ?_) (fun _ => ?_)
    | with_reducible refine State.WithinM.iteFst (fun _ => ?_) (fun _ => ?_)
    | with_reducible apply State.WithinM.step (State.obcEnd_within ..)
    | with_reducible apply State.WithinM.step (State.setObc_within ..)
    | decide

theorem State.obcSetpoints_within (s : State) : s.WithinM 10 (State.obcSetpoints s) := by
  unfold State.obcSetpoints
  try dsimp only
  repeat' first
    | with_reducible exact State.WithinM.refl _ _
    | with_reducible assumption
    | with_reducible refine State.WithinM.ite (fun _ => ?_) (fun _ => ?_)
    | with_reducible refine State.WithinM.iteFst (fun _ => ?_) (fun _ => ?_)
    | with_reducible apply State.WithinM.step (State.putSetp_within ..)
    | with_reducible apply State.WithinM.step (State.took_within ..)
    | decide

theorem State.obcShow_within (s : State) : s.WithinM 2 (State.obcShow s) := by
  unfold State.obcShow
  repeat' first
    | with_reducible exact State.WithinM.refl _ _
    | with_reducible assumption
    | with_reducible apply State.WithinM.step (State.setFld_within ..)
    | decide

theorem State.obcUpdate_within (s : State) (v1 v2 v3 freq : Nat) : s.WithinM 12893325322 (State.obcUpdate s v1 v2 v3 freq) := by
  unfold State.obcUpdate
  try dsimp only
  repeat' first
    | with_reducible exact State.WithinM.refl _ _
    | with_reducible assumption
    | with_reducible refine State.WithinM.ite (fun _ => ?_) (fun _ => ?_)
    | with_reducible refine State.WithinM.iteFst (fun _ => ?_) (fun _ => ?_)
    | with_reducible apply State.WithinM.step (State.obcCurrent_within ..)
    | with_reducible apply State.WithinM.step (State.obcCv_within ..)
    | with_reducible apply State.WithinM.step (State.obcEnd_within ..)
    | with_reducible apply State.WithinM.step (State.obcExporting_within ..)
    | with_reducible apply State.WithinM.step (State.obcRezone_within ..)
    | with_reducible apply State.WithinM.step (State.obcSearch_within ..)
    | with_reducible apply State.WithinM.step (State.obcSetpoints_within ..)
    | with_reducible apply State.WithinM.step (State.obcShow_within ..)
    | with_reducible apply State.WithinM.step (State.setObc_within ..)
    | with_reducible apply State.WithinM.step (State.setReg_within ..)
    | decide

theorem State.obcClimb_within (s : State) : s.WithinM 4294967298 (State.obcClimb s) := by
  unfold State.obcClimb
  try dsimp only
  repeat' first
    | with_reducible exact State.WithinM.refl _ _
    | with_reducible assumption
    | with_reducible refine State.WithinM.ite (fun _ => ?_) (fun _ => ?_)
    | with_reducible refine State.WithinM.iteFst (fun _ => ?_) (fun _ => ?_)
    | with_reducible apply State.WithinM.step (State.obcShow_within ..)
    | with_reducible apply State.WithinM.step (State.setObc_within ..)
    | decide

theorem State.obcCvStep_within (s : State) : s.WithinM 4294967296 (State.obcCvStep s) := by
  unfold State.obcCvStep
  try dsimp only
  repeat' first
    | with_reducible exact State.WithinM.refl _ _
    | with_reducible assumption
    | with_reducible refine State.WithinM.ite (fun _ => ?_) (fun _ => ?_)
    | with_reducible refine State.WithinM.iteFst (fun _ => ?_) (fun _ => ?_)
    | with_reducible apply State.WithinM.step (State.setObc_within ..)
    | decide

theorem State.obcDone_within (s : State) : s.WithinM 12893325314 (State.obcDone s) := by
  unfold State.obcDone
  repeat' first
    | with_reducible exact State.WithinM.refl _ _
    | with_reducible assumption
    | with_reducible refine State.WithinM.ite (fun _ => ?_) (fun _ => ?_)
    | with_reducible refine State.WithinM.iteFst (fun _ => ?_) (fun _ => ?_)
    | with_reducible apply State.WithinM.step (State.obcEnd_within ..)
    | decide

theorem State.obcHostLost_within (s : State) : s.WithinM 12893325314 (State.obcHostLost s) := by
  unfold State.obcHostLost
  try dsimp only
  repeat' first
    | with_reducible exact State.WithinM.refl _ _
    | with_reducible assumption
    | with_reducible refine State.WithinM.ite (fun _ => ?_) (fun _ => ?_)
    | with_reducible refine State.WithinM.iteFst (fun _ => ?_) (fun _ => ?_)
    | with_reducible apply State.WithinM.step (State.lampRefresh_within ..)
    | with_reducible apply State.WithinM.step (State.obcEnd_within ..)
    | with_reducible apply State.WithinM.step (State.raise_within ..)
    | with_reducible apply State.WithinM.step (State.setFlag_within ..)
    | decide

theorem State.obcHost_within (s : State) : s.WithinM 8589934594 (State.obcHost s) := by
  unfold State.obcHost
  repeat' first
    | with_reducible exact State.WithinM.refl _ _
    | with_reducible assumption
    | with_reducible apply State.WithinM.step (State.lampRefresh_within ..)
    | with_reducible apply State.WithinM.step (State.setFlag_within ..)
    | decide

theorem State.obcS2Open_within (s : State) (timeout : Bool) : s.WithinM 4303355906 (State.obcS2Open s timeout) := by
  unfold State.obcS2Open
  try dsimp only
  repeat' first
    | with_reducible exact State.WithinM.refl _ _
    | with_reducible assumption
    | with_reducible refine State.WithinM.ite (fun _ => ?_) (fun _ => ?_)
    | with_reducible refine State.WithinM.iteFst (fun _ => ?_) (fun _ => ?_)
    | with_reducible apply State.WithinM.step (State.obcGate_within ..)
    | with_reducible apply State.WithinM.step (State.pilotS2_within ..)
    | with_reducible apply State.WithinM.step (State.setObc_within ..)
    | decide

theorem State.obcAcGone_within (s : State) (timeout : Bool) : s.WithinM 4294969346 (State.obcAcGone s timeout) := by
  unfold State.obcAcGone
  try dsimp only
  repeat' first
    | with_reducible exact State.WithinM.refl _ _
    | with_reducible assumption
    | with_reducible refine State.WithinM.ite (fun _ => ?_) (fun _ => ?_)
    | with_reducible refine State.WithinM.iteFst (fun _ => ?_) (fun _ => ?_)
    | with_reducible refine State.when_within (fun _ => ?_) ?_
    | with_reducible apply State.WithinM.step (State.raise_within ..)
    | with_reducible apply State.WithinM.step (State.setFlag_within ..)
    | with_reducible apply State.WithinM.step (State.setObc_within ..)
    | decide

theorem State.obcFinish_within (s : State) : s.WithinM 12893325314 (State.obcFinish s) := by
  unfold State.obcFinish
  try dsimp only
  repeat' first
    | with_reducible exact State.WithinM.refl _ _
    | with_reducible assumption
    | with_reducible refine State.WithinM.ite (fun _ => ?_) (fun _ => ?_)
    | with_reducible refine State.WithinM.iteFst (fun _ => ?_) (fun _ => ?_)
    | with_reducible apply State.WithinM.step (State.obcEnter_within ..)
    | with_reducible apply State.WithinM.step (State.setObc_within ..)
    | decide

theorem State.obcPilotEvent_within (s : State) : s.WithinM 12893325314 (State.obcPilotEvent s) := by
  unfold State.obcPilotEvent
  try dsimp only
  repeat' first
    | with_reducible exact State.WithinM.refl _ _
    | with_reducible assumption
    | with_reducible refine State.WithinM.ite (fun _ => ?_) (fun _ => ?_)
    | with_reducible refine State.WithinM.iteFst (fun _ => ?_) (fun _ => ?_)
    | with_reducible apply State.WithinM.step (State.obcEnd_within ..)
    | with_reducible apply State.WithinM.step (State.obcEnter_within ..)
    | with_reducible apply State.WithinM.step (State.obcSince_within ..)
    | with_reducible apply State.WithinM.step (State.setObc_within ..)
    | decide

theorem State.pilotState_within (s : State) (high low : Int) (osc : Bool) : s.WithinM 12893325314 (State.pilotState s high low osc) := by
  unfold State.pilotState
  try dsimp only
  repeat' first
    | with_reducible exact State.WithinM.refl _ _
    | with_reducible assumption
    | with_reducible refine State.WithinM.ite (fun _ => ?_) (fun _ => ?_)
    | with_reducible refine State.WithinM.iteFst (fun _ => ?_) (fun _ => ?_)
    | with_reducible refine State.when_within (fun _ => ?_) ?_
    | with_reducible apply State.WithinM.step (State.lampRefresh_within ..)
    | with_reducible apply State.WithinM.step (State.obcPilotEvent_within ..)
    | with_reducible apply State.WithinM.step (State.pilotRelimit_within ..)
    | with_reducible apply State.WithinM.step (State.pilotWire_within ..)
    | with_reducible apply State.WithinM.step (State.raise_within ..)
    | with_reducible apply State.WithinM.step (State.setFlag_within ..)
    | with_reducible apply State.WithinM.step (State.setFld_within ..)
    | decide

theorem State.pilotPp_within (s : State) (mv : Nat) : s.WithinM 12893325314 (State.pilotPp s mv) := by
  unfold State.pilotPp
  try dsimp only
  repeat' first
    | with_reducible exact State.WithinM.refl _ _
    | with_reducible assumption
    | with_reducible refine State.WithinM.ite (fun _ => ?_) (fun _ => ?_)
    | with_reducible refine State.WithinM.iteFst (fun _ => ?_) (fun _ => ?_)
    | with_reducible refine State.when_within (fun _ => ?_) ?_
    | with_reducible apply State.WithinM.step (State.lampRefresh_within ..)
    | with_reducible apply State.WithinM.step (State.obcPilotEvent_within ..)
    | with_reducible apply State.WithinM.step (State.pilotWire_within ..)
    | with_reducible apply State.WithinM.step (State.raise_within ..)
    | with_reducible apply State.WithinM.step (State.setFld_within ..)
    | decide

theorem State.pilotCycle_within (s : State) (freq duty : Nat) (high low : Int) : s.WithinM 2050 (State.pilotCycle s freq duty high low) := by
  unfold State.pilotCycle
  try dsimp only
  repeat' first
    | with_reducible exact State.WithinM.refl _ _
    | with_reducible assumption
    | with_reducible refine State.WithinM.ite (fun _ => ?_) (fun _ => ?_)
    | with_reducible refine State.WithinM.iteFst (fun _ => ?_) (fun _ => ?_)
    | with_reducible refine State.when_within (fun _ => ?_) ?_
    | with_reducible apply State.WithinM.step (State.pilotRelimit_within ..)
    | with_reducible apply State.WithinM.step (State.raise_within ..)
    | with_reducible apply State.WithinM.step (State.setFlag_within ..)
    | with_reducible apply State.WithinM.step (State.setReg_within ..)
    | decide

theorem State.obcPilotLost_within (s : State) : s.WithinM 12893325314 (State.obcPilotLost s) := by
  unfold State.obcPilotLost
  repeat' first
    | with_reducible exact State.WithinM.refl _ _
    | with_reducible assumption
    | with_reducible refine State.WithinM.ite (fun _ => ?_) (fun _ => ?_)
    | with_reducible refine State.WithinM.iteFst (fun _ => ?_) (fun _ => ?_)
    | with_reducible apply State.WithinM.step (State.obcEnd_within ..)
    | decide

theorem State.obcPackLost_within (s : State) (k : Nat) : s.WithinM 12893325314 (State.obcPackLost s k) := by
  unfold State.obcPackLost
  repeat' first
    | with_reducible exact State.WithinM.refl _ _
    | with_reducible assumption
    | with_reducible refine State.WithinM.ite (fun _ => ?_) (fun _ => ?_)
    | with_reducible refine State.WithinM.iteFst (fun _ => ?_) (fun _ => ?_)
    | with_reducible apply State.WithinM.step (State.obcEnd_within ..)
    | decide

theorem State.obcShroud_within (s : State) : s.WithinM 12893325314 (State.obcShroud s) := by
  unfold State.obcShroud
  repeat' first
    | with_reducible exact State.WithinM.refl _ _
    | with_reducible assumption
    | with_reducible refine State.WithinM.ite (fun _ => ?_) (fun _ => ?_)
    | with_reducible refine State.WithinM.iteFst (fun _ => ?_) (fun _ => ?_)
    | with_reducible apply State.WithinM.step (State.obcEnd_within ..)
    | decide

theorem State.obcReconnect_within (s : State) : s.WithinM 4294969346 (State.obcReconnect s) := by
  unfold State.obcReconnect
  repeat' first
    | with_reducible exact State.WithinM.refl _ _
    | with_reducible assumption
    | with_reducible refine State.WithinM.ite (fun _ => ?_) (fun _ => ?_)
    | with_reducible refine State.WithinM.iteFst (fun _ => ?_) (fun _ => ?_)
    | with_reducible apply State.WithinM.step (State.raise_within ..)
    | with_reducible apply State.WithinM.step (State.setFlag_within ..)
    | with_reducible apply State.WithinM.step (State.setObc_within ..)
    | decide

theorem State.obcWindowTrip_within (s : State) : s.WithinM 4303357954 (State.obcWindowTrip s) := by
  unfold State.obcWindowTrip
  repeat' first
    | with_reducible exact State.WithinM.refl _ _
    | with_reducible assumption
    | with_reducible refine State.WithinM.ite (fun _ => ?_) (fun _ => ?_)
    | with_reducible refine State.WithinM.iteFst (fun _ => ?_) (fun _ => ?_)
    | with_reducible apply State.WithinM.step (State.obcGate_within ..)
    | with_reducible apply State.WithinM.step (State.raise_within ..)
    | with_reducible apply State.WithinM.step (State.setFlag_within ..)
    | with_reducible apply State.WithinM.step (State.setObc_within ..)
    | decide

theorem State.obcEnable_within (s : State) : s.WithinM 12893325314 (State.obcEnable s) := by
  unfold State.obcEnable
  repeat' first
    | with_reducible exact State.WithinM.refl _ _
    | with_reducible assumption
    | with_reducible refine State.WithinM.ite (fun _ => ?_) (fun _ => ?_)
    | with_reducible refine State.WithinM.iteFst (fun _ => ?_) (fun _ => ?_)
    | with_reducible apply State.WithinM.step (State.obcEnter_within ..)
    | with_reducible apply State.WithinM.step (State.obcSince_within ..)
    | with_reducible apply State.WithinM.step (State.setObc_within ..)
    | decide

theorem State.obcDisable_within (s : State) : s.WithinM 12893325314 (State.obcDisable s) := by
  unfold State.obcDisable
  try dsimp only
  repeat' first
    | with_reducible exact State.WithinM.refl _ _
    | with_reducible assumption
    | with_reducible apply State.WithinM.step (State.gateUnit_within ..)
    | with_reducible apply State.WithinM.step (State.obcEnter_within ..)
    | with_reducible apply State.WithinM.step (State.setObc_within ..)
    | with_reducible refine State.WithinM.fst (by assumption) ?_
    | decide
    | split

theorem State.obcSafe_within (s : State) : s.WithinM 12893325314 (State.obcSafe s) := by
  unfold State.obcSafe
  repeat' first
    | with_reducible exact State.WithinM.refl _ _
    | with_reducible assumption
    | with_reducible apply State.WithinM.step (State.obcCause_within ..)
    | with_reducible apply State.WithinM.step (State.obcEnter_within ..)
    | with_reducible apply State.WithinM.step (State.setObc_within ..)
    | decide

end Sys2Proof.Machine
end

