-- ==== Sys2Proof/Laws/WithinActOps.lean ====
section
/-! SUPPORT. Which kinds of state each operation of Machine/ActOps.lean can change. -/

namespace Sys2Proof.Machine

variable {m : Nat} {s t u : State}

theorem State.actCause_within (s : State) (n c : Nat) : s.WithinM 17179869186 (State.actCause s n c) := by
  unfold State.actCause
  try dsimp only
  repeat' first
    | with_reducible exact State.WithinM.refl _ _
    | with_reducible assumption
    | with_reducible refine State.WithinM.ite (fun _ => ?_) (fun _ => ?_)
    | with_reducible refine State.WithinM.iteFst (fun _ => ?_) (fun _ => ?_)
    | with_reducible apply State.WithinM.step (State.putAct_within ..)
    | with_reducible apply State.WithinM.step (State.setFld_within ..)
    | decide

theorem State.actEnter_within (s : State) (n st : Nat) : s.WithinM 2050 (State.actEnter s n st) := by
  unfold State.actEnter
  repeat' first
    | with_reducible exact State.WithinM.refl _ _
    | with_reducible assumption
    | with_reducible refine State.WithinM.ite (fun _ => ?_) (fun _ => ?_)
    | with_reducible refine State.WithinM.iteFst (fun _ => ?_) (fun _ => ?_)
    | with_reducible apply State.WithinM.step (State.raise_within ..)
    | with_reducible apply State.WithinM.step (State.setFld_within ..)
    | decide

theorem State.actLeave_within (s : State) (n st : Nat) : s.WithinM 17188259842 (State.actLeave s n st) := by
  unfold State.actLeave
  try dsimp only
  repeat' first
    | with_reducible exact State.WithinM.refl _ _
    | with_reducible assumption
    | with_reducible apply State.WithinM.step (State.actEnter_within ..)
    | with_reducible apply State.WithinM.step (State.gateUnit_within ..)
    | with_reducible apply State.WithinM.step (State.putAct_within ..)
    | with_reducible apply State.WithinM.step (State.setReg_within ..)
    | decide

theorem State.actCommit_within (s : State) (n : Nat) : s.WithinM 8388608 (State.actCommit s n) := by
  unfold State.actCommit
  try dsimp only
  repeat' first
    | with_reducible exact State.WithinM.refl _ _
    | with_reducible assumption
    | with_reducible refine State.WithinM.ite (fun _ => ?_) (fun _ => ?_)
    | with_reducible refine State.WithinM.iteFst (fun _ => ?_) (fun _ => ?_)
    | with_reducible apply State.WithinM.step (State.commitSet_within ..)
    | decide

theorem State.actHigh_within (s : State) (n : Nat) : s.WithinM 8388610 (State.actHigh s n) := by
  unfold State.actHigh
  try dsimp only
  repeat' first
    | with_reducible exact State.WithinM.refl _ _
    | with_reducible assumption
    | with_reducible apply State.WithinM.step (State.putPwm_within ..)
    | with_reducible apply State.WithinM.step (State.setFlag_within ..)
    | decide

theorem State.actStart_within (s : State) (n : Nat) : s.WithinM 17179871234 (State.actStart s n) := by
  unfold State.actStart
  try dsimp only
  repeat' first
    | with_reducible exact State.WithinM.refl _ _
    | with_reducible assumption
    | with_reducible refine State.WithinM.ite (fun _ => ?_) (fun _ => ?_)
    | with_reducible refine State.WithinM.iteFst (fun _ => ?_) (fun _ => ?_)
    | with_reducible apply State.WithinM.step (State.actEnter_within ..)
    | with_reducible apply State.WithinM.step (State.putAct_within ..)
    | with_reducible apply State.WithinM.step (State.raise_within ..)
    | with_reducible apply State.WithinM.step (State.setFld_within ..)
    | decide

theorem State.actArm_within (s : State) (n : Nat) : s.WithinM 2 (State.actArm s n) := by
  unfold State.actArm
  repeat' first
    | with_reducible exact State.WithinM.refl _ _
    | with_reducible assumption
    | with_reducible refine State.WithinM.ite (fun _ => ?_) (fun _ => ?_)
    | with_reducible refine State.WithinM.iteFst (fun _ => ?_) (fun _ => ?_)
    | with_reducible apply State.WithinM.step (State.setFlag_within ..)
    | decide

theorem State.actCoast_within (s : State) (n : Nat) (again : Bool) : s.WithinM 17188259842 (State.actCoast s n again) := by
  unfold State.actCoast
  try dsimp only
  repeat' first
    | with_reducible exact State.WithinM.refl _ _
    | with_reducible assumption
    | with_reducible apply State.WithinM.step (State.actLeave_within ..)
    | with_reducible apply State.WithinM.step (State.putAct_within ..)
    | decide

theorem State.actStop_within (s : State) (n : Nat) : s.WithinM 17188259842 (State.actStop s n) := by
  unfold State.actStop
  try dsimp only
  repeat' first
    | with_reducible exact State.WithinM.refl _ _
    | with_reducible assumption
    | with_reducible refine State.WithinM.ite (fun _ => ?_) (fun _ => ?_)
    | with_reducible refine State.WithinM.iteFst (fun _ => ?_) (fun _ => ?_)
    | with_reducible apply State.WithinM.step (State.actCause_within ..)
    | with_reducible apply State.WithinM.step (State.actCoast_within ..)
    | with_reducible apply State.WithinM.step (State.setFlag_within ..)
    | decide

theorem State.actCmd_within (s : State) (n : Nat) (v : Word) : s.WithinM 17188259842 (State.actCmd s n v) := by
  unfold State.actCmd
  repeat' first
    | with_reducible exact State.WithinM.refl _ _
    | with_reducible assumption
    | with_reducible refine State.WithinM.ite (fun _ => ?_) (fun _ => ?_)
    | with_reducible refine State.WithinM.iteFst (fun _ => ?_) (fun _ => ?_)
    | with_reducible refine State.when_within (fun _ => ?_) ?_
    | with_reducible apply State.WithinM.step (State.actArm_within ..)
    | with_reducible apply State.WithinM.step (State.actStart_within ..)
    | with_reducible apply State.WithinM.step (State.actStop_within ..)
    | decide

theorem State.actTrigger_within (s : State) (e : Nat) : s.WithinM 17179871234 (State.actTrigger s e) := by
  unfold State.actTrigger
  repeat' first
    | with_reducible exact State.WithinM.refl _ _
    | with_reducible assumption
    | with_reducible refine State.WithinM.ite (fun _ => ?_) (fun _ => ?_)
    | with_reducible refine State.WithinM.iteFst (fun _ => ?_) (fun _ => ?_)
    | with_reducible refine State.each_within (fun _ _ => ?_) ?_
    | with_reducible apply State.WithinM.step (State.actStart_within ..)
    | with_reducible apply State.WithinM.step (State.setFlag_within ..)
    | decide

theorem State.actHalt_within (s : State) (n cause : Nat) : s.WithinM 17188259842 (State.actHalt s n cause) := by
  unfold State.actHalt
  repeat' first
    | with_reducible exact State.WithinM.refl _ _
    | with_reducible assumption
    | with_reducible refine State.when_within (fun _ => ?_) ?_
    | with_reducible apply State.WithinM.step (State.actCause_within ..)
    | with_reducible apply State.WithinM.step (State.actLeave_within ..)
    | with_reducible apply State.WithinM.step (State.raise_within ..)
    | decide

theorem State.actHallLost_within (s : State) (n : Nat) : s.WithinM 17188259842 (State.actHallLost s n) := by
  unfold State.actHallLost
  repeat' first
    | with_reducible exact State.WithinM.refl _ _
    | with_reducible assumption
    | with_reducible refine State.WithinM.ite (fun _ => ?_) (fun _ => ?_)
    | with_reducible refine State.WithinM.iteFst (fun _ => ?_) (fun _ => ?_)
    | with_reducible apply State.WithinM.step (State.actHalt_within ..)
    | with_reducible apply State.WithinM.step (State.fault_within ..)
    | decide

theorem State.actOverload_within (s : State) (n : Nat) : s.WithinM 17188259842 (State.actOverload s n) := by
  unfold State.actOverload
  repeat' first
    | with_reducible exact State.WithinM.refl _ _
    | with_reducible assumption
    | with_reducible refine State.WithinM.ite (fun _ => ?_) (fun _ => ?_)
    | with_reducible refine State.WithinM.iteFst (fun _ => ?_) (fun _ => ?_)
    | with_reducible apply State.WithinM.step (State.actHalt_within ..)
    | with_reducible apply State.WithinM.step (State.fault_within ..)
    | decide

theorem State.actStall_within (s : State) (n : Nat) : s.WithinM 17188259842 (State.actStall s n) := by
  unfold State.actStall
  repeat' first
    | with_reducible exact State.WithinM.refl _ _
    | with_reducible assumption
    | with_reducible refine State.WithinM.ite (fun _ => ?_) (fun _ => ?_)
    | with_reducible refine State.WithinM.iteFst (fun _ => ?_) (fun _ => ?_)
    | with_reducible apply State.WithinM.step (State.actHalt_within ..)
    | decide

theorem State.actInhibit_within (s : State) (n : Nat) : s.WithinM 17188259842 (State.actInhibit s n) := by
  unfold State.actInhibit
  try dsimp only
  repeat' first
    | with_reducible exact State.WithinM.refl _ _
    | with_reducible assumption
    | with_reducible refine State.WithinM.ite (fun _ => ?_) (fun _ => ?_)
    | with_reducible refine State.WithinM.iteFst (fun _ => ?_) (fun _ => ?_)
    | with_reducible apply State.WithinM.step (State.actHalt_within ..)
    | with_reducible apply State.WithinM.step (State.setFlag_within ..)
    | decide

theorem State.actSupply_within (s : State) (mv : Nat) : s.WithinM 17188259874 (State.actSupply s mv) := by
  unfold State.actSupply
  try dsimp only
  repeat' first
    | with_reducible exact State.WithinM.refl _ _
    | with_reducible assumption
    | with_reducible refine State.WithinM.ite (fun _ => ?_) (fun _ => ?_)
    | with_reducible refine State.WithinM.iteFst (fun _ => ?_) (fun _ => ?_)
    | with_reducible refine State.each_within (fun _ _ => ?_) ?_
    | with_reducible apply State.WithinM.step (State.actHalt_within ..)
    | with_reducible apply State.WithinM.step (State.setPins_within ..)
    | decide

theorem State.actSafe_within (s : State) (n : Nat) : s.WithinM 17188259842 (State.actSafe s n) := by
  unfold State.actSafe
  repeat' first
    | with_reducible exact State.WithinM.refl _ _
    | with_reducible assumption
    | with_reducible apply State.WithinM.step (State.actCause_within ..)
    | with_reducible apply State.WithinM.step (State.actLeave_within ..)
    | with_reducible apply State.WithinM.step (State.setFlag_within ..)
    | decide

theorem State.actEnable_within (s : State) (n : Nat) : s.WithinM 8388608 (State.actEnable s n) := by
  unfold State.actEnable
  repeat' first
    | with_reducible exact State.WithinM.refl _ _
    | with_reducible assumption
    | with_reducible apply State.WithinM.step (State.gateUnit_within ..)
    | decide

theorem State.actDisable_within (s : State) (n : Nat) : s.WithinM 17188259842 (State.actDisable s n) := by
  unfold State.actDisable
  try dsimp only
  repeat' first
    | with_reducible exact State.WithinM.refl _ _
    | with_reducible assumption
    | with_reducible apply State.WithinM.step (State.actLeave_within ..)
    | with_reducible apply State.WithinM.step (State.gateUnit_within ..)
    | with_reducible apply State.WithinM.step (State.putPwm_within ..)
    | with_reducible apply State.WithinM.step (State.setFlag_within ..)
    | decide

theorem State.actShow_within (s : State) (n : Nat) (v : Int) : s.WithinM 17179869186 (State.actShow s n v) := by
  unfold State.actShow
  repeat' first
    | with_reducible exact State.WithinM.refl _ _
    | with_reducible assumption
    | with_reducible apply State.WithinM.step (State.putAct_within ..)
    | with_reducible apply State.WithinM.step (State.setFld_within ..)
    | decide

theorem State.actCoastEnd_within (s : State) (n : Nat) : s.WithinM 17188259842 (State.actCoastEnd s n) := by
  unfold State.actCoastEnd
  try dsimp only
  repeat' first
    | with_reducible exact State.WithinM.refl _ _
    | with_reducible assumption
    | with_reducible refine State.WithinM.ite (fun _ => ?_) (fun _ => ?_)
    | with_reducible refine State.WithinM.iteFst (fun _ => ?_) (fun _ => ?_)
    | with_reducible apply State.WithinM.step (State.actEnter_within ..)
    | with_reducible apply State.WithinM.step (State.actHalt_within ..)
    | decide

theorem State.actLaw_within (s : State) (n : Nat) : s.WithinM 17179869186 (State.actLaw s n) := by
  unfold State.actLaw
  try dsimp only
  repeat' first
    | with_reducible exact State.WithinM.refl _ _
    | with_reducible assumption
    | with_reducible refine State.WithinM.ite (fun _ => ?_) (fun _ => ?_)
    | with_reducible refine State.WithinM.iteFst (fun _ => ?_) (fun _ => ?_)
    | with_reducible apply State.WithinM.step (State.putAct_within ..)
    | with_reducible apply State.WithinM.step (State.setReg_within ..)
    | decide

theorem State.actUpdate_within (s : State) (n : Nat) : s.WithinM 17188259842 (State.actUpdate s n) := by
  unfold State.actUpdate
  try dsimp only
  repeat' first
    | with_reducible exact State.WithinM.refl _ _
    | with_reducible assumption
    | with_reducible refine State.WithinM.ite (fun _ => ?_) (fun _ => ?_)
    | with_reducible refine State.WithinM.iteFst (fun _ => ?_) (fun _ => ?_)
    | with_reducible apply State.WithinM.step (State.actCoast_within ..)
    | with_reducible apply State.WithinM.step (State.actCoastEnd_within ..)
    | with_reducible apply State.WithinM.step (State.actLaw_within ..)
    | with_reducible apply State.WithinM.step (State.putAct_within ..)
    | decide

theorem State.actSpeedZero_within (s : State) (n : Nat) : s.WithinM 17188259842 (State.actSpeedZero s n) := by
  unfold State.actSpeedZero
  repeat' first
    | with_reducible exact State.WithinM.refl _ _
    | with_reducible assumption
    | with_reducible apply State.WithinM.step (State.actCoastEnd_within ..)
    | with_reducible apply State.WithinM.step (State.actShow_within ..)
    | decide

theorem State.actHall_within (s : State) (n old : Nat) (adjacent : Bool) : s.WithinM 17188259842 (State.actHall s n old adjacent) := by
  unfold State.actHall
  try dsimp only
  repeat' first
    | with_reducible exact State.WithinM.refl _ _
    | with_reducible assumption
    | with_reducible refine State.WithinM.ite (fun _ => ?_) (fun _ => ?_)
    | with_reducible refine State.WithinM.iteFst (fun _ => ?_) (fun _ => ?_)
    | with_reducible apply State.WithinM.step (State.actCause_within ..)
    | with_reducible apply State.WithinM.step (State.actCoast_within ..)
    | with_reducible apply State.WithinM.step (State.actCommit_within ..)
    | with_reducible apply State.WithinM.step (State.actShow_within ..)
    | with_reducible apply State.WithinM.step (State.raise_within ..)
    | with_reducible apply State.WithinM.step (State.setFlag_within ..)
    | with_reducible apply State.WithinM.step (State.setFld_within ..)
    | decide

theorem State.actLimit_within (s : State) (n : Nat) (ma : Int) : s.WithinM 17188257794 (State.actLimit s n ma) := by
  unfold State.actLimit
  repeat' first
    | with_reducible exact State.WithinM.refl _ _
    | with_reducible assumption
    | with_reducible refine State.WithinM.ite (fun _ => ?_) (fun _ => ?_)
    | with_reducible refine State.WithinM.iteFst (fun _ => ?_) (fun _ => ?_)
    | with_reducible apply State.WithinM.step (State.actHigh_within ..)
    | with_reducible apply State.WithinM.step (State.putAct_within ..)
    | with_reducible apply State.WithinM.step (State.setFlag_within ..)
    | decide

theorem State.actBoot_within (s : State) (n phase mv : Nat) : s.WithinM 17188259842 (State.actBoot s n phase mv) := by
  unfold State.actBoot
  try dsimp only
  repeat' first
    | with_reducible exact State.WithinM.refl _ _
    | with_reducible assumption
    | with_reducible refine State.WithinM.ite (fun _ => ?_) (fun _ => ?_)
    | with_reducible refine State.WithinM.iteFst (fun _ => ?_) (fun _ => ?_)
    | with_reducible apply State.WithinM.step (State.actHigh_within ..)
    | with_reducible apply State.WithinM.step (State.putAct_within ..)
    | with_reducible apply State.WithinM.step (State.raise_within ..)
    | decide

theorem State.actBoundary_within (s : State) (n : Nat) : s.WithinM 17188257794 (State.actBoundary s n) := by
  unfold State.actBoundary
  try dsimp only
  repeat' first
    | with_reducible exact State.WithinM.refl _ _
    | with_reducible assumption
    | with_reducible refine State.WithinM.ite (fun _ => ?_) (fun _ => ?_)
    | with_reducible refine State.WithinM.iteFst (fun _ => ?_) (fun _ => ?_)
    | with_reducible apply State.WithinM.step (State.actCommit_within ..)
    | with_reducible apply State.WithinM.step (State.actHigh_within ..)
    | with_reducible apply State.WithinM.step (State.putAct_within ..)
    | with_reducible apply State.WithinM.step (State.setFlag_within ..)
    | decide

theorem State.ctrOutputs_within (s : State) : s.WithinM 34359738370 (State.ctrOutputs s) := by
  unfold State.ctrOutputs
  try dsimp only
  repeat' first
    | with_reducible exact State.WithinM.refl _ _
    | with_reducible assumption
    | with_reducible apply State.WithinM.step (State.setCtr_within ..)
    | with_reducible apply State.WithinM.step (State.setFld_within ..)
    | decide

theorem State.pullInEnd_within (s : State) (k : Nat) : s.WithinM 34359738368 (State.pullInEnd s k) := by
  unfold State.pullInEnd
  repeat' first
    | with_reducible exact State.WithinM.refl _ _
    | with_reducible assumption
    | with_reducible apply State.WithinM.step (State.setCtr_within ..)
    | decide

theorem State.ctrCause_within (s : State) (c : Nat) : s.WithinM 2 (State.ctrCause s c) := by
  unfold State.ctrCause
  repeat' first
    | with_reducible exact State.WithinM.refl _ _
    | with_reducible assumption
    | with_reducible apply State.WithinM.step (State.setFld_within ..)
    | decide

theorem State.ctrEnter_within (s : State) (st : Nat) : s.WithinM 34359740418 (State.ctrEnter s st) := by
  unfold State.ctrEnter
  repeat' first
    | with_reducible exact State.WithinM.refl _ _
    | with_reducible assumption
    | with_reducible refine State.WithinM.ite (fun _ => ?_) (fun _ => ?_)
    | with_reducible refine State.WithinM.iteFst (fun _ => ?_) (fun _ => ?_)
    | with_reducible apply State.WithinM.step (State.ctrOutputs_within ..)
    | with_reducible apply State.WithinM.step (State.raise_within ..)
    | with_reducible apply State.WithinM.step (State.setFld_within ..)
    | decide

theorem State.ctrDrop_within (s : State) (cause : Nat) : s.WithinM 34359740418 (State.ctrDrop s cause) := by
  unfold State.ctrDrop
  repeat' first
    | with_reducible exact State.WithinM.refl _ _
    | with_reducible assumption
    | with_reducible apply State.WithinM.step (State.ctrCause_within ..)
    | with_reducible apply State.WithinM.step (State.ctrEnter_within ..)
    | with_reducible apply State.WithinM.step (State.setCtr_within ..)
    | decide

theorem State.ctrFail_within (s : State) (cause : Nat) : s.WithinM 34359740418 (State.ctrFail s cause) := by
  unfold State.ctrFail
  try dsimp only
  repeat' first
    | with_reducible exact State.WithinM.refl _ _
    | with_reducible assumption
    | with_reducible refine State.WithinM.ite (fun _ => ?_) (fun _ => ?_)
    | with_reducible refine State.WithinM.iteFst (fun _ => ?_) (fun _ => ?_)
    | with_reducible apply State.WithinM.step (State.ctrDrop_within ..)
    | with_reducible apply State.WithinM.step (State.fault_within ..)
    | with_reducible apply State.WithinM.step (State.raise_within ..)
    | with_reducible apply State.WithinM.step (State.setFlag_within ..)
    | decide

theorem State.ctrClose_within (s : State) : s.WithinM 34359740418 (State.ctrClose s) := by
  unfold State.ctrClose
  try dsimp only
  repeat' first
    | with_reducible exact State.WithinM.refl _ _
    | with_reducible assumption
    | with_reducible refine State.WithinM.ite (fun _ => ?_) (fun _ => ?_)
    | with_reducible refine State.WithinM.iteFst (fun _ => ?_) (fun _ => ?_)
    | with_reducible apply State.WithinM.step (State.ctrCause_within ..)
    | with_reducible apply State.WithinM.step (State.ctrEnter_within ..)
    | with_reducible apply State.WithinM.step (State.raise_within ..)
    | with_reducible apply State.WithinM.step (State.setCtr_within ..)
    | with_reducible apply State.WithinM.step (State.setFlag_within ..)
    | decide

theorem State.ctrOpen_within (s : State) : s.WithinM 34359740418 (State.ctrOpen s) := by
  unfold State.ctrOpen
  repeat' first
    | with_reducible exact State.WithinM.refl _ _
    | with_reducible assumption
    | with_reducible refine State.WithinM.ite (fun _ => ?_) (fun _ => ?_)
    | with_reducible refine State.WithinM.iteFst (fun _ => ?_) (fun _ => ?_)
    | with_reducible apply State.WithinM.step (State.ctrCause_within ..)
    | with_reducible apply State.WithinM.step (State.ctrDrop_within ..)
    | with_reducible apply State.WithinM.step (State.ctrEnter_within ..)
    | with_reducible apply State.WithinM.step (State.setCtr_within ..)
    | decide

theorem State.ctrCmd_within (s : State) (v : Word) : s.WithinM 34359740418 (State.ctrCmd s v) := by
  unfold State.ctrCmd
  repeat' first
    | with_reducible exact State.WithinM.refl _ _
    | with_reducible assumption
    | with_reducible refine State.WithinM.ite (fun _ => ?_) (fun _ => ?_)
    | with_reducible refine State.WithinM.iteFst (fun _ => ?_) (fun _ => ?_)
    | with_reducible apply State.WithinM.step (State.ctrClose_within ..)
    | with_reducible apply State.WithinM.step (State.ctrOpen_within ..)
    | decide

theorem State.ctrNegOpen_within (s : State) : s.WithinM 34359738370 (State.ctrNegOpen s) := by
  unfold State.ctrNegOpen
  repeat' first
    | with_reducible exact State.WithinM.refl _ _
    | with_reducible assumption
    | with_reducible apply State.WithinM.step (State.ctrOutputs_within ..)
    | with_reducible apply State.WithinM.step (State.setCtr_within ..)
    | decide

theorem State.ctrStep_within (s : State) (short : Bool) : s.WithinM 34359740418 (State.ctrStep s short) := by
  unfold State.ctrStep
  repeat' first
    | with_reducible exact State.WithinM.refl _ _
    | with_reducible assumption
    | with_reducible refine State.WithinM.ite (fun _ => ?_) (fun _ => ?_)
    | with_reducible refine State.WithinM.iteFst (fun _ => ?_) (fun _ => ?_)
    | with_reducible apply State.WithinM.step (State.ctrEnter_within ..)
    | with_reducible apply State.WithinM.step (State.ctrFail_within ..)
    | with_reducible apply State.WithinM.step (State.setCtr_within ..)
    | with_reducible refine State.WithinM.fst (by assumption) ?_
    | decide
    | split

theorem State.ctrCooled_within (s : State) : s.WithinM 2 (State.ctrCooled s) := by
  unfold State.ctrCooled
  repeat' first
    | with_reducible exact State.WithinM.refl _ _
    | with_reducible assumption
    | with_reducible apply State.WithinM.step (State.setFlag_within ..)
    | decide

theorem State.ctrOver_within (s : State) (k : Nat) : s.WithinM 34359740418 (State.ctrOver s k) := by
  unfold State.ctrOver
  try dsimp only
  repeat' first
    | with_reducible exact State.WithinM.refl _ _
    | with_reducible assumption
    | with_reducible refine State.WithinM.ite (fun _ => ?_) (fun _ => ?_)
    | with_reducible refine State.WithinM.iteFst (fun _ => ?_) (fun _ => ?_)
    | with_reducible apply State.WithinM.step (State.ctrDrop_within ..)
    | with_reducible apply State.WithinM.step (State.ctrOutputs_within ..)
    | with_reducible apply State.WithinM.step (State.fault_within ..)
    | with_reducible apply State.WithinM.step (State.raise_within ..)
    | decide

theorem State.ctrDisable_within (s : State) : s.WithinM 34359740418 (State.ctrDisable s) := by
  unfold State.ctrDisable
  try dsimp only
  repeat' first
    | with_reducible exact State.WithinM.refl _ _
    | with_reducible assumption
    | with_reducible refine State.WithinM.ite (fun _ => ?_) (fun _ => ?_)
    | with_reducible refine State.WithinM.iteFst (fun _ => ?_) (fun _ => ?_)
    | with_reducible apply State.WithinM.step (State.ctrDrop_within ..)
    | with_reducible apply State.WithinM.step (State.setFlag_within ..)
    | decide

theorem State.ctrSafe_within (s : State) : s.WithinM 34359740418 (State.ctrSafe s) := by
  unfold State.ctrSafe
  repeat' first
    | with_reducible exact State.WithinM.refl _ _
    | with_reducible assumption
    | with_reducible apply State.WithinM.step (State.ctrDrop_within ..)
    | decide

end Sys2Proof.Machine
end

