-- ==== Sys2Proof/Laws/WithinRingOps.lean ====
section
/-! SUPPORT. Which kinds of state each operation of Machine/RingOps.lean can change. -/

namespace Sys2Proof.Machine

variable {m : Nat} {s t u : State}

theorem State.dmaPut_within (s : State) (a : Nat) (bs : List Byte) : s.WithinM 4 (State.dmaPut s a bs) := by
  unfold State.dmaPut
  repeat' first
    | with_reducible exact State.WithinM.refl _ _
    | with_reducible assumption
    | with_reducible refine State.WithinM.ite (fun _ => ?_) (fun _ => ?_)
    | with_reducible refine State.WithinM.iteFst (fun _ => ?_) (fun _ => ?_)
    | with_reducible apply State.WithinM.step (State.putBytes_within ..)
    | decide

theorem State.ringEnter_within (s : State) (k st : Nat) : s.WithinM 2050 (State.ringEnter s k st) := by
  unfold State.ringEnter
  repeat' first
    | with_reducible exact State.WithinM.refl _ _
    | with_reducible assumption
    | with_reducible refine State.WithinM.ite (fun _ => ?_) (fun _ => ?_)
    | with_reducible refine State.WithinM.iteFst (fun _ => ?_) (fun _ => ?_)
    | with_reducible apply State.WithinM.step (State.raise_within ..)
    | with_reducible apply State.WithinM.step (State.setFld_within ..)
    | decide

theorem State.ringFail_within (s : State) (k cause : Nat) : s.WithinM 2050 (State.ringFail s k cause) := by
  unfold State.ringFail
  repeat' first
    | with_reducible exact State.WithinM.refl _ _
    | with_reducible assumption
    | with_reducible apply State.WithinM.step (State.ringEnter_within ..)
    | with_reducible apply State.WithinM.step (State.setFld_within ..)
    | decide

theorem State.setFold_within (s : State) (k : Nat) (b : Bool) : s.WithinM 2050 (State.setFold s k b) := by
  unfold State.setFold
  repeat' first
    | with_reducible exact State.WithinM.refl _ _
    | with_reducible assumption
    | with_reducible refine State.WithinM.ite (fun _ => ?_) (fun _ => ?_)
    | with_reducible refine State.WithinM.iteFst (fun _ => ?_) (fun _ => ?_)
    | with_reducible apply State.WithinM.step (State.raise_within ..)
    | with_reducible apply State.WithinM.step (State.setFlag_within ..)
    | decide

theorem State.ringBrk_within (s : State) (k : Nat) : s.WithinM 2 (State.ringBrk s k) := by
  unfold State.ringBrk
  try dsimp only
  repeat' first
    | with_reducible exact State.WithinM.refl _ _
    | with_reducible assumption
    | with_reducible refine State.WithinM.ite (fun _ => ?_) (fun _ => ?_)
    | with_reducible refine State.WithinM.iteFst (fun _ => ?_) (fun _ => ?_)
    | with_reducible apply State.WithinM.step (State.setReg_within ..)
    | decide

theorem State.txResult_within (s : State) (k i tag result : Nat) : s.WithinM 2054 (State.txResult s k i tag result) := by
  unfold State.txResult
  try dsimp only
  repeat' first
    | with_reducible exact State.WithinM.refl _ _
    | with_reducible assumption
    | with_reducible refine State.when_within (fun _ => ?_) ?_
    | with_reducible apply State.WithinM.step (State.dmaPut_within ..)
    | with_reducible apply State.WithinM.step (State.raise_within ..)
    | decide

theorem State.tagsShow_within (s : State) (k : Nat) : s.WithinM 2 (State.tagsShow s k) := by
  unfold State.tagsShow
  repeat' first
    | with_reducible exact State.WithinM.refl _ _
    | with_reducible assumption
    | with_reducible apply State.WithinM.step (State.setReg_within ..)
    | decide

theorem State.tqNext_within (s : State) (k : Nat) : s.WithinM 2 (State.tqNext s k) := by
  unfold State.tqNext
  repeat' first
    | with_reducible exact State.WithinM.refl _ _
    | with_reducible assumption
    | with_reducible apply State.WithinM.step (State.setReg_within ..)
    | decide

theorem State.txIssue_within (n : Nat) (s : State) (k : Nat) : s.WithinM 68719478790 (State.txIssue n s k) := by
  induction n generalizing s with
  | zero => exact State.WithinM.refl _ _
  | succ n ih =>
    rw [State.txIssue]
    repeat' first
      | with_reducible exact State.WithinM.refl _ _
      | with_reducible assumption
      | with_reducible refine State.WithinM.ite (fun _ => ?_) (fun _ => ?_)
      | with_reducible refine State.WithinM.iteFst (fun _ => ?_) (fun _ => ?_)
      | with_reducible refine State.WithinM.foldl _ (fun _ _ => ?_) ?_
      | with_reducible apply State.WithinM.step (State.putRing_within ..)
      | with_reducible apply State.WithinM.step (State.tagsShow_within ..)
      | with_reducible apply State.WithinM.step (State.tqNext_within ..)
      | with_reducible apply State.WithinM.step (State.txResult_within ..)
      | with_reducible apply State.WithinM.step (ih _)
      | with_reducible refine State.WithinM.fst (by assumption) ?_
      | decide
      | split
      | dsimp only

theorem State.txRun_within (s : State) (k : Nat) : s.WithinM 68719478790 (State.txRun s k) := by
  unfold State.txRun
  repeat' first
    | with_reducible exact State.WithinM.refl _ _
    | with_reducible assumption
    | with_reducible apply State.WithinM.step (State.txIssue_within ..)
    | decide

theorem State.txFlush_within (n : Nat) (s : State) (k : Nat) : s.WithinM 2054 (State.txFlush n s k) := by
  induction n generalizing s with
  | zero => exact State.WithinM.refl _ _
  | succ n ih =>
    rw [State.txFlush]
    repeat' first
      | with_reducible exact State.WithinM.refl _ _
      | with_reducible assumption
      | with_reducible refine State.WithinM.ite (fun _ => ?_) (fun _ => ?_)
      | with_reducible refine State.WithinM.iteFst (fun _ => ?_) (fun _ => ?_)
      | with_reducible refine State.WithinM.foldl _ (fun _ _ => ?_) ?_
      | with_reducible apply State.WithinM.step (State.tqNext_within ..)
      | with_reducible apply State.WithinM.step (State.txResult_within ..)
      | with_reducible apply State.WithinM.step (ih _)
      | with_reducible refine State.WithinM.fst (by assumption) ?_
      | decide

theorem State.txAbort_within (s : State) (k : Nat) : s.WithinM 68719478790 (State.txAbort s k) := by
  unfold State.txAbort
  try dsimp only
  repeat' first
    | with_reducible exact State.WithinM.refl _ _
    | with_reducible assumption
    | with_reducible refine State.WithinM.foldl _ (fun _ _ => ?_) ?_
    | with_reducible apply State.WithinM.step (State.putRing_within ..)
    | with_reducible apply State.WithinM.step (State.tagsShow_within ..)
    | with_reducible apply State.WithinM.step (State.txResult_within ..)
    | with_reducible apply State.WithinM.step (State.txFlush_within ..)
    | decide

theorem State.txEnd_within (s : State) (k tag result : Nat) (e : RingTx) : s.WithinM 68719478790 (State.txEnd s k tag result e) := by
  unfold State.txEnd
  try dsimp only
  repeat' first
    | with_reducible exact State.WithinM.refl _ _
    | with_reducible assumption
    | with_reducible apply State.WithinM.step (State.putRing_within ..)
    | with_reducible apply State.WithinM.step (State.tagsShow_within ..)
    | with_reducible apply State.WithinM.step (State.txResult_within ..)
    | with_reducible apply State.WithinM.step (State.txRun_within ..)
    | decide

theorem State.txComplete_within (s : State) (k tag : Nat) (data : List Word) (status : Word) (ack : List Byte) (aborted : Bool) : s.WithinM 68719478790 (State.txComplete s k tag data status ack aborted) := by
  unfold State.txComplete
  try dsimp only
  repeat' first
    | with_reducible exact State.WithinM.refl _ _
    | with_reducible assumption
    | with_reducible refine State.WithinM.ite (fun _ => ?_) (fun _ => ?_)
    | with_reducible refine State.WithinM.iteFst (fun _ => ?_) (fun _ => ?_)
    | with_reducible apply State.WithinM.step (State.dmaPut_within ..)
    | with_reducible apply State.WithinM.step (State.txEnd_within ..)
    | with_reducible refine State.WithinM.fst (by assumption) ?_
    | decide
    | split

theorem State.txTimeout_within (s : State) (k tag : Nat) : s.WithinM 68719478790 (State.txTimeout s k tag) := by
  unfold State.txTimeout
  repeat' first
    | with_reducible exact State.WithinM.refl _ _
    | with_reducible assumption
    | with_reducible apply State.WithinM.step (State.txEnd_within ..)
    | with_reducible refine State.WithinM.fst (by assumption) ?_
    | decide
    | split

theorem State.ringTone_within (s : State) (k : Nat) : s.WithinM 68719476736 (State.ringTone s k) := by
  unfold State.ringTone
  repeat' first
    | with_reducible exact State.WithinM.refl _ _
    | with_reducible assumption
    | with_reducible apply State.WithinM.step (State.putRing_within ..)
    | decide

theorem State.ringRun_within (s : State) (k : Nat) : s.WithinM 68719478786 (State.ringRun s k) := by
  unfold State.ringRun
  try dsimp only
  repeat' first
    | with_reducible exact State.WithinM.refl _ _
    | with_reducible assumption
    | with_reducible refine State.WithinM.ite (fun _ => ?_) (fun _ => ?_)
    | with_reducible refine State.WithinM.iteFst (fun _ => ?_) (fun _ => ?_)
    | with_reducible apply State.WithinM.step (State.putRing_within ..)
    | with_reducible apply State.WithinM.step (State.ringEnter_within ..)
    | with_reducible apply State.WithinM.step (State.ringFail_within ..)
    | with_reducible apply State.WithinM.step (State.setFld_within ..)
    | with_reducible apply State.WithinM.step (State.setFold_within ..)
    | decide

theorem State.ringToneEnd_within (s : State) (k : Nat) : s.WithinM 68719478786 (State.ringToneEnd s k) := by
  unfold State.ringToneEnd
  repeat' first
    | with_reducible exact State.WithinM.refl _ _
    | with_reducible assumption
    | with_reducible refine State.WithinM.ite (fun _ => ?_) (fun _ => ?_)
    | with_reducible refine State.WithinM.iteFst (fun _ => ?_) (fun _ => ?_)
    | with_reducible refine State.when_within (fun _ => ?_) ?_
    | with_reducible apply State.WithinM.step (State.putRing_within ..)
    | with_reducible apply State.WithinM.step (State.ringEnter_within ..)
    | decide

theorem State.ringStop_within (s : State) (k : Nat) : s.WithinM 68719478790 (State.ringStop s k) := by
  unfold State.ringStop
  try dsimp only
  repeat' first
    | with_reducible exact State.WithinM.refl _ _
    | with_reducible assumption
    | with_reducible apply State.WithinM.step (State.putRing_within ..)
    | with_reducible apply State.WithinM.step (State.ringEnter_within ..)
    | with_reducible apply State.WithinM.step (State.setFlag_within ..)
    | with_reducible apply State.WithinM.step (State.setFold_within ..)
    | with_reducible apply State.WithinM.step (State.txAbort_within ..)
    | decide

theorem State.ringTrained_within (s : State) (k : Nat) (aUp bUp : Bool) : s.WithinM 2050 (State.ringTrained s k aUp bUp) := by
  unfold State.ringTrained
  try dsimp only
  repeat' first
    | with_reducible exact State.WithinM.refl _ _
    | with_reducible assumption
    | with_reducible refine State.WithinM.ite (fun _ => ?_) (fun _ => ?_)
    | with_reducible refine State.WithinM.iteFst (fun _ => ?_) (fun _ => ?_)
    | with_reducible apply State.WithinM.step (State.ringEnter_within ..)
    | with_reducible apply State.WithinM.step (State.ringFail_within ..)
    | with_reducible apply State.WithinM.step (State.setFlag_within ..)
    | with_reducible apply State.WithinM.step (State.setFold_within ..)
    | decide

theorem State.ringEnumerated_within (s : State) (k : Nat) (fromA fromB : List (Nat × NodeFacts)) (full : Bool) : s.WithinM 68719478786 (State.ringEnumerated s k fromA fromB full) := by
  unfold State.ringEnumerated
  try dsimp only
  repeat' first
    | with_reducible exact State.WithinM.refl _ _
    | with_reducible assumption
    | with_reducible refine State.WithinM.ite (fun _ => ?_) (fun _ => ?_)
    | with_reducible refine State.WithinM.iteFst (fun _ => ?_) (fun _ => ?_)
    | with_reducible refine State.each_within (fun _ _ => ?_) ?_
    | with_reducible apply State.WithinM.step (State.fault_within ..)
    | with_reducible apply State.WithinM.step (State.putRing_within ..)
    | with_reducible apply State.WithinM.step (State.ringBrk_within ..)
    | with_reducible apply State.WithinM.step (State.ringEnter_within ..)
    | with_reducible apply State.WithinM.step (State.ringFail_within ..)
    | with_reducible apply State.WithinM.step (State.setFld_within ..)
    | with_reducible apply State.WithinM.step (State.setReg_within ..)
    | with_reducible refine State.WithinM.fst (by assumption) ?_
    | decide
    | split

theorem State.putComps_within (s : State) (k : Nat) (hops : List (Nat × Option Nat × Option Nat)) : s.WithinM 68719476736 (State.putComps s k hops) := by
  unfold State.putComps
  repeat' first
    | with_reducible exact State.WithinM.refl _ _
    | with_reducible assumption
    | with_reducible refine State.WithinM.foldl _ (fun _ _ => ?_) ?_
    | with_reducible apply State.WithinM.step (State.putRing_within ..)
    | decide

theorem State.ringMeasured_within (s : State) (k : Nat) (hops : List (Nat × Option Nat × Option Nat)) : s.WithinM 68719478790 (State.ringMeasured s k hops) := by
  unfold State.ringMeasured
  try dsimp only
  repeat' first
    | with_reducible exact State.WithinM.refl _ _
    | with_reducible assumption
    | with_reducible refine State.WithinM.ite (fun _ => ?_) (fun _ => ?_)
    | with_reducible refine State.WithinM.iteFst (fun _ => ?_) (fun _ => ?_)
    | with_reducible refine State.WithinM.foldl _ (fun _ _ => ?_) ?_
    | with_reducible refine State.when_within (fun _ => ?_) ?_
    | with_reducible apply State.WithinM.step (State.fault_within ..)
    | with_reducible apply State.WithinM.step (State.putComps_within ..)
    | with_reducible apply State.WithinM.step (State.ringEnter_within ..)
    | with_reducible apply State.WithinM.step (State.ringFail_within ..)
    | with_reducible apply State.WithinM.step (State.setReg_within ..)
    | with_reducible apply State.WithinM.step (State.txRun_within ..)
    | with_reducible refine State.WithinM.fst (by assumption) ?_
    | decide

theorem State.ringStream_within (s : State) (k : Nat) : s.WithinM 68719478786 (State.ringStream s k) := by
  unfold State.ringStream
  repeat' first
    | with_reducible exact State.WithinM.refl _ _
    | with_reducible assumption
    | with_reducible refine State.WithinM.ite (fun _ => ?_) (fun _ => ?_)
    | with_reducible refine State.WithinM.iteFst (fun _ => ?_) (fun _ => ?_)
    | with_reducible apply State.WithinM.step (State.fault_within ..)
    | with_reducible apply State.WithinM.step (State.putRing_within ..)
    | with_reducible apply State.WithinM.step (State.raise_within ..)
    | with_reducible apply State.WithinM.step (State.ringEnter_within ..)
    | with_reducible apply State.WithinM.step (State.setFlag_within ..)
    | decide

theorem State.ringUnstream_within (s : State) (k : Nat) : s.WithinM 68719478786 (State.ringUnstream s k) := by
  unfold State.ringUnstream
  repeat' first
    | with_reducible exact State.WithinM.refl _ _
    | with_reducible assumption
    | with_reducible refine State.WithinM.ite (fun _ => ?_) (fun _ => ?_)
    | with_reducible refine State.WithinM.iteFst (fun _ => ?_) (fun _ => ?_)
    | with_reducible apply State.WithinM.step (State.putRing_within ..)
    | with_reducible apply State.WithinM.step (State.ringEnter_within ..)
    | decide

theorem State.ringSync_within (s : State) (k : Nat) : s.WithinM 206158430208 (State.ringSync s k) := by
  unfold State.ringSync
  try dsimp only
  repeat' first
    | with_reducible exact State.WithinM.refl _ _
    | with_reducible assumption
    | with_reducible refine State.WithinM.ite (fun _ => ?_) (fun _ => ?_)
    | with_reducible refine State.WithinM.iteFst (fun _ => ?_) (fun _ => ?_)
    | with_reducible apply State.WithinM.step (State.putRing_within ..)
    | with_reducible apply State.WithinM.step (State.putZcor_within ..)
    | decide

theorem State.ringSend_within (s : State) (k : Nat) : s.WithinM 68719476736 (State.ringSend s k) := by
  unfold State.ringSend
  repeat' first
    | with_reducible exact State.WithinM.refl _ _
    | with_reducible assumption
    | with_reducible refine State.WithinM.ite (fun _ => ?_) (fun _ => ?_)
    | with_reducible refine State.WithinM.iteFst (fun _ => ?_) (fun _ => ?_)
    | with_reducible apply State.WithinM.step (State.putRing_within ..)
    | decide

theorem State.ringSummary_within (s : State) (k : Nat) : s.WithinM 262144 (State.ringSummary s k) := by
  unfold State.ringSummary
  try dsimp only
  repeat' first
    | with_reducible exact State.WithinM.refl _ _
    | with_reducible assumption
    | with_reducible refine State.WithinM.foldl _ (fun _ _ => ?_) ?_
    | with_reducible apply State.WithinM.step (State.putSample_within ..)
    | with_reducible refine State.WithinM.fst (by assumption) ?_
    | decide

theorem State.ringTake_within (s : State) (k : Nat) (areas : List RingArea) (aborted : Bool) (a : Nat) : s.WithinM 68719478790 (State.ringTake s k areas aborted a) := by
  unfold State.ringTake
  try dsimp only
  repeat' first
    | with_reducible exact State.WithinM.refl _ _
    | with_reducible assumption
    | with_reducible refine State.WithinM.ite (fun _ => ?_) (fun _ => ?_)
    | with_reducible refine State.WithinM.iteFst (fun _ => ?_) (fun _ => ?_)
    | with_reducible refine State.WithinM.foldl _ (fun _ _ => ?_) ?_
    | with_reducible apply State.WithinM.step (State.bump_within ..)
    | with_reducible apply State.WithinM.step (State.dmaPut_within ..)
    | with_reducible apply State.WithinM.step (State.putRing_within ..)
    | with_reducible apply State.WithinM.step (State.raise_within ..)
    | with_reducible apply State.WithinM.step (State.setFlag_within ..)
    | with_reducible refine State.WithinM.fst (by assumption) ?_
    | decide
    | split

theorem State.setPair_within (s : State) (a : Nat) (v : Int) : s.WithinM 2 (State.setPair s a v) := by
  unfold State.setPair
  repeat' first
    | with_reducible exact State.WithinM.refl _ _
    | with_reducible assumption
    | with_reducible apply State.WithinM.step (State.setReg_within ..)
    | decide

theorem State.zBegin_within (s : State) (k : Nat) : s.WithinM 137438953478 (State.zBegin s k) := by
  unfold State.zBegin
  try dsimp only
  repeat' first
    | with_reducible exact State.WithinM.refl _ _
    | with_reducible assumption
    | with_reducible apply State.WithinM.step (State.clearMem_within ..)
    | with_reducible apply State.WithinM.step (State.clearRegs_within ..)
    | with_reducible apply State.WithinM.step (State.putZcor_within ..)
    | with_reducible apply State.WithinM.step (State.setFld_within ..)
    | with_reducible apply State.WithinM.step (State.setReg_within ..)
    | decide

theorem State.zStart_within (s : State) (k : Nat) : s.WithinM 137438953478 (State.zStart s k) := by
  unfold State.zStart
  repeat' first
    | with_reducible exact State.WithinM.refl _ _
    | with_reducible assumption
    | with_reducible refine State.WithinM.ite (fun _ => ?_) (fun _ => ?_)
    | with_reducible refine State.WithinM.iteFst (fun _ => ?_) (fun _ => ?_)
    | with_reducible apply State.WithinM.step (State.zBegin_within ..)
    | decide

theorem State.zIdle_within (s : State) (k : Nat) : s.WithinM 2 (State.zIdle s k) := by
  unfold State.zIdle
  repeat' first
    | with_reducible exact State.WithinM.refl _ _
    | with_reducible assumption
    | with_reducible apply State.WithinM.step (State.setFld_within ..)
    | decide

theorem State.zWatch_within (s : State) (k : Nat) : s.WithinM 137438953472 (State.zWatch s k) := by
  unfold State.zWatch
  try dsimp only
  repeat' first
    | with_reducible exact State.WithinM.refl _ _
    | with_reducible assumption
    | with_reducible refine State.WithinM.ite (fun _ => ?_) (fun _ => ?_)
    | with_reducible refine State.WithinM.iteFst (fun _ => ?_) (fun _ => ?_)
    | with_reducible apply State.WithinM.step (State.putZcor_within ..)
    | decide

theorem State.acc64_within (s : State) (a : Nat) (d : Int) : s.WithinM 4 (State.acc64 s a d) := by
  unfold State.acc64
  repeat' first
    | with_reducible exact State.WithinM.refl _ _
    | with_reducible assumption
    | with_reducible apply State.WithinM.step (State.putBytes_within ..)
    | decide

theorem State.zCell_within (s : State) (k a ch : Nat) (ph : List (Nat × Int × Int)) : s.WithinM 137438953478 (State.zCell s k a ch ph) := by
  unfold State.zCell
  try dsimp only
  repeat' first
    | with_reducible exact State.WithinM.refl _ _
    | with_reducible assumption
    | with_reducible refine State.WithinM.ite (fun _ => ?_) (fun _ => ?_)
    | with_reducible refine State.WithinM.iteFst (fun _ => ?_) (fun _ => ?_)
    | with_reducible refine State.WithinM.foldl _ (fun _ _ => ?_) ?_
    | with_reducible apply State.WithinM.step (State.acc64_within ..)
    | with_reducible apply State.WithinM.step (State.putZcor_within ..)
    | with_reducible apply State.WithinM.step (State.setFlag_within ..)
    | decide

theorem State.zAmps_within (s : State) (k : Nat) (i : Int) (ph : List (Nat × Int × Int)) : s.WithinM 137438953474 (State.zAmps s k i ph) := by
  unfold State.zAmps
  try dsimp only
  repeat' first
    | with_reducible exact State.WithinM.refl _ _
    | with_reducible assumption
    | with_reducible refine State.WithinM.foldl _ (fun _ _ => ?_) ?_
    | with_reducible apply State.WithinM.step (State.putZcor_within ..)
    | with_reducible apply State.WithinM.step (State.setPair_within ..)
    | decide

theorem State.zCycle_within (s : State) (k : Nat) : s.WithinM 137438955526 (State.zCycle s k) := by
  unfold State.zCycle
  try dsimp only
  repeat' first
    | with_reducible exact State.WithinM.refl _ _
    | with_reducible assumption
    | with_reducible refine State.WithinM.ite (fun _ => ?_) (fun _ => ?_)
    | with_reducible refine State.WithinM.iteFst (fun _ => ?_) (fun _ => ?_)
    | with_reducible refine State.WithinM.foldl _ (fun _ _ => ?_) ?_
    | with_reducible refine State.each_within (fun _ _ => ?_) ?_
    | with_reducible apply State.WithinM.step (State.bump_within ..)
    | with_reducible apply State.WithinM.step (State.raise_within ..)
    | with_reducible apply State.WithinM.step (State.setFld_within ..)
    | with_reducible apply State.WithinM.step (State.setReg_within ..)
    | with_reducible apply State.WithinM.step (State.zAmps_within ..)
    | with_reducible apply State.WithinM.step (State.zCell_within ..)
    | with_reducible refine State.WithinM.fst (by assumption) ?_
    | decide
    | split

theorem State.zCopied_within (s : State) (k : Nat) : s.WithinM 137438953478 (State.zCopied s k) := by
  unfold State.zCopied
  try dsimp only
  repeat' first
    | with_reducible exact State.WithinM.refl _ _
    | with_reducible assumption
    | with_reducible refine State.WithinM.ite (fun _ => ?_) (fun _ => ?_)
    | with_reducible refine State.WithinM.iteFst (fun _ => ?_) (fun _ => ?_)
    | with_reducible refine State.WithinM.foldl _ (fun _ _ => ?_) ?_
    | with_reducible apply State.WithinM.step (State.clearMem_within ..)
    | with_reducible apply State.WithinM.step (State.putByte_within ..)
    | with_reducible apply State.WithinM.step (State.zBegin_within ..)
    | with_reducible apply State.WithinM.step (State.putBytes_within ..)
    | decide

theorem State.ringReceive_within (s : State) (k : Nat) (areas : List RingArea) (aborted : Bool) : s.WithinM 206158694414 (State.ringReceive s k areas aborted) := by
  unfold State.ringReceive
  try dsimp only
  repeat' first
    | with_reducible exact State.WithinM.refl _ _
    | with_reducible assumption
    | with_reducible refine State.WithinM.ite (fun _ => ?_) (fun _ => ?_)
    | with_reducible refine State.WithinM.iteFst (fun _ => ?_) (fun _ => ?_)
    | with_reducible refine State.each_within (fun _ _ => ?_) ?_
    | with_reducible refine State.when_within (fun _ => ?_) ?_
    | with_reducible apply State.WithinM.step (State.bump_within ..)
    | with_reducible apply State.WithinM.step (State.clearMem_within ..)
    | with_reducible apply State.WithinM.step (State.putRing_within ..)
    | with_reducible apply State.WithinM.step (State.raise_within ..)
    | with_reducible apply State.WithinM.step (State.ringSummary_within ..)
    | with_reducible apply State.WithinM.step (State.ringTake_within ..)
    | with_reducible apply State.WithinM.step (State.setReg_within ..)
    | with_reducible apply State.WithinM.step (State.took_within ..)
    | with_reducible apply State.WithinM.step (State.zCycle_within ..)
    | decide

theorem State.ringLaneDown_within (s : State) (k : Nat) (portB : Bool) (reachA reachB : Nat) : s.WithinM 68719478786 (State.ringLaneDown s k portB reachA reachB) := by
  unfold State.ringLaneDown
  try dsimp only
  repeat' first
    | with_reducible exact State.WithinM.refl _ _
    | with_reducible assumption
    | with_reducible refine State.WithinM.ite (fun _ => ?_) (fun _ => ?_)
    | with_reducible refine State.WithinM.iteFst (fun _ => ?_) (fun _ => ?_)
    | with_reducible refine State.when_within (fun _ => ?_) ?_
    | with_reducible apply State.WithinM.step (State.fault_within ..)
    | with_reducible apply State.WithinM.step (State.putRing_within ..)
    | with_reducible apply State.WithinM.step (State.raise_within ..)
    | with_reducible apply State.WithinM.step (State.ringBrk_within ..)
    | with_reducible apply State.WithinM.step (State.setFlag_within ..)
    | with_reducible apply State.WithinM.step (State.setFold_within ..)
    | decide

theorem State.ringLaneUp_within (s : State) (k : Nat) (portB : Bool) : s.WithinM 2050 (State.ringLaneUp s k portB) := by
  unfold State.ringLaneUp
  try dsimp only
  repeat' first
    | with_reducible exact State.WithinM.refl _ _
    | with_reducible assumption
    | with_reducible refine State.WithinM.ite (fun _ => ?_) (fun _ => ?_)
    | with_reducible refine State.WithinM.iteFst (fun _ => ?_) (fun _ => ?_)
    | with_reducible refine State.when_within (fun _ => ?_) ?_
    | with_reducible apply State.WithinM.step (State.raise_within ..)
    | with_reducible apply State.WithinM.step (State.ringBrk_within ..)
    | with_reducible apply State.WithinM.step (State.setFlag_within ..)
    | with_reducible apply State.WithinM.step (State.setFold_within ..)
    | decide

end Sys2Proof.Machine
end

