-- ==== Sys2Proof/Laws/WithinIcxOps.lean ====
section
/-! SUPPORT. Which kinds of state each operation of Machine/IcxOps.lean can change. -/

namespace Sys2Proof.Machine

variable {m : Nat} {s t u : State}

theorem State.putQueue_within (s : State) (t p : Nat) (q : List Txn) : s.WithinM 4096 (State.putQueue s t p q) := by
  unfold State.putQueue
  repeat' first
    | with_reducible exact State.WithinM.refl _ _
    | with_reducible assumption
    | with_reducible apply State.WithinM.step (State.setIcx_within ..)
    | decide

theorem State.putParked_within (s : State) (t p : Nat) (b : Bool) : s.WithinM 4096 (State.putParked s t p b) := by
  unfold State.putParked
  repeat' first
    | with_reducible exact State.WithinM.refl _ _
    | with_reducible assumption
    | with_reducible apply State.WithinM.step (State.setIcx_within ..)
    | decide

theorem State.putHeld_within (s : State) (t p : Nat) (b : Bool) : s.WithinM 4096 (State.putHeld s t p b) := by
  unfold State.putHeld
  repeat' first
    | with_reducible exact State.WithinM.refl _ _
    | with_reducible assumption
    | with_reducible apply State.WithinM.step (State.setIcx_within ..)
    | decide

theorem State.putWait_within (s : State) (t p n : Nat) : s.WithinM 4096 (State.putWait s t p n) := by
  unfold State.putWait
  repeat' first
    | with_reducible exact State.WithinM.refl _ _
    | with_reducible assumption
    | with_reducible apply State.WithinM.step (State.setIcx_within ..)
    | decide

theorem State.putRanks_within (s : State) (t : Nat) (r : List Nat) : s.WithinM 4096 (State.putRanks s t r) := by
  unfold State.putRanks
  repeat' first
    | with_reducible exact State.WithinM.refl _ _
    | with_reducible assumption
    | with_reducible apply State.WithinM.step (State.setIcx_within ..)
    | decide

theorem State.putGranted_within (s : State) (t : Nat) (g : List (Nat × Txn)) : s.WithinM 4096 (State.putGranted s t g) := by
  unfold State.putGranted
  repeat' first
    | with_reducible exact State.WithinM.refl _ _
    | with_reducible assumption
    | with_reducible apply State.WithinM.step (State.setIcx_within ..)
    | decide

theorem State.putCharged_within (s : State) (p n : Nat) : s.WithinM 4096 (State.putCharged s p n) := by
  unfold State.putCharged
  repeat' first
    | with_reducible exact State.WithinM.refl _ _
    | with_reducible assumption
    | with_reducible apply State.WithinM.step (State.setIcx_within ..)
    | decide

theorem State.icxShow_within (s : State) : s.WithinM 2 (State.icxShow s) := by
  unfold State.icxShow
  try dsimp only
  repeat' first
    | with_reducible exact State.WithinM.refl _ _
    | with_reducible assumption
    | with_reducible refine State.each_within (fun _ _ => ?_) ?_
    | with_reducible apply State.WithinM.step (State.setFld_within ..)
    | decide

theorem State.icxIssue_within (s : State) (p t : Nat) (x : Txn) : s.WithinM 6146 (State.icxIssue s p t x) := by
  unfold State.icxIssue
  repeat' first
    | with_reducible exact State.WithinM.refl _ _
    | with_reducible assumption
    | with_reducible refine State.WithinM.ite (fun _ => ?_) (fun _ => ?_)
    | with_reducible refine State.WithinM.iteFst (fun _ => ?_) (fun _ => ?_)
    | with_reducible apply State.WithinM.step (State.icxShow_within ..)
    | with_reducible apply State.WithinM.step (State.putQueue_within ..)
    | with_reducible apply State.WithinM.step (State.raise_within ..)
    | decide

theorem State.lockDrop_within (s : State) (t : Nat) : s.WithinM 4098 (State.lockDrop s t) := by
  unfold State.lockDrop
  repeat' first
    | with_reducible exact State.WithinM.refl _ _
    | with_reducible assumption
    | with_reducible apply State.WithinM.step (State.setFlag_within ..)
    | with_reducible apply State.WithinM.step (State.setIcx_within ..)
    | decide

theorem State.lockExpire_within (s : State) (t : Nat) : s.WithinM 6146 (State.lockExpire s t) := by
  unfold State.lockExpire
  repeat' first
    | with_reducible exact State.WithinM.refl _ _
    | with_reducible assumption
    | with_reducible refine State.WithinM.ite (fun _ => ?_) (fun _ => ?_)
    | with_reducible refine State.WithinM.iteFst (fun _ => ?_) (fun _ => ?_)
    | with_reducible apply State.WithinM.step (State.lockDrop_within ..)
    | with_reducible apply State.WithinM.step (State.raise_within ..)
    | decide

theorem State.lockOpen_within (s : State) (t p : Nat) : s.WithinM 6146 (State.lockOpen s t p) := by
  unfold State.lockOpen
  try dsimp only
  repeat' first
    | with_reducible exact State.WithinM.refl _ _
    | with_reducible assumption
    | with_reducible refine State.WithinM.ite (fun _ => ?_) (fun _ => ?_)
    | with_reducible refine State.WithinM.iteFst (fun _ => ?_) (fun _ => ?_)
    | with_reducible apply State.WithinM.step (State.lockExpire_within ..)
    | with_reducible apply State.WithinM.step (State.setFlag_within ..)
    | with_reducible apply State.WithinM.step (State.setFld_within ..)
    | with_reducible apply State.WithinM.step (State.setIcx_within ..)
    | decide

theorem State.icxCharge_within (s : State) (p n : Nat) : s.WithinM 6146 (State.icxCharge s p n) := by
  unfold State.icxCharge
  try dsimp only
  repeat' first
    | with_reducible exact State.WithinM.refl _ _
    | with_reducible assumption
    | with_reducible refine State.WithinM.ite (fun _ => ?_) (fun _ => ?_)
    | with_reducible refine State.WithinM.iteFst (fun _ => ?_) (fun _ => ?_)
    | with_reducible apply State.WithinM.step (State.putCharged_within ..)
    | with_reducible apply State.WithinM.step (State.raise_within ..)
    | with_reducible apply State.WithinM.step (State.setFlag_within ..)
    | decide

theorem State.icxPeriod_within (s : State) : s.WithinM 6146 (State.icxPeriod s) := by
  unfold State.icxPeriod
  try dsimp only
  repeat' first
    | with_reducible exact State.WithinM.refl _ _
    | with_reducible assumption
    | with_reducible refine State.WithinM.ite (fun _ => ?_) (fun _ => ?_)
    | with_reducible refine State.WithinM.iteFst (fun _ => ?_) (fun _ => ?_)
    | with_reducible refine State.each_within (fun _ _ => ?_) ?_
    | with_reducible refine State.when_within (fun _ => ?_) ?_
    | with_reducible apply State.WithinM.step (State.putCharged_within ..)
    | with_reducible apply State.WithinM.step (State.raise_within ..)
    | with_reducible apply State.WithinM.step (State.setReg_within ..)
    | decide

theorem State.icxLast_within (s : State) (t p : Nat) : s.WithinM 4096 (State.icxLast s t p) := by
  unfold State.icxLast
  repeat' first
    | with_reducible exact State.WithinM.refl _ _
    | with_reducible assumption
    | with_reducible apply State.WithinM.step (State.putRanks_within ..)
    | decide

theorem State.icxGrant_within (s : State) (t p : Nat) : s.WithinM 6146 (State.icxGrant s t p) := by
  unfold State.icxGrant
  try dsimp only
  repeat' first
    | with_reducible exact State.WithinM.refl _ _
    | with_reducible assumption
    | with_reducible apply State.WithinM.step (State.icxCharge_within ..)
    | with_reducible apply State.WithinM.step (State.putGranted_within ..)
    | with_reducible apply State.WithinM.step (State.putHeld_within ..)
    | with_reducible apply State.WithinM.step (State.putParked_within ..)
    | with_reducible apply State.WithinM.step (State.putQueue_within ..)
    | with_reducible apply State.WithinM.step (State.putWait_within ..)
    | with_reducible refine State.WithinM.fst (by assumption) ?_
    | decide
    | split

theorem State.icxPark_within (n : Nat) (s : State) (k : Nat) : s.WithinM 4096 (State.icxPark n s k) := by
  induction n generalizing s with
  | zero => exact State.WithinM.refl _ _
  | succ n ih =>
    rw [State.icxPark]
    repeat' first
      | with_reducible exact State.WithinM.refl _ _
      | with_reducible assumption
      | with_reducible refine State.WithinM.ite (fun _ => ?_) (fun _ => ?_)
      | with_reducible refine State.WithinM.iteFst (fun _ => ?_) (fun _ => ?_)
      | with_reducible refine State.WithinM.foldl _ (fun _ _ => ?_) ?_
      | with_reducible refine State.each_within (fun _ _ => ?_) ?_
      | with_reducible apply State.WithinM.step (State.putHeld_within ..)
      | with_reducible apply State.WithinM.step (State.putParked_within ..)
      | with_reducible apply State.WithinM.step (ih _)
      | with_reducible refine State.WithinM.fst (by assumption) ?_
      | decide
      | split

theorem State.icxArbitrate_within (s : State) (t : Nat) : s.WithinM 6146 (State.icxArbitrate s t) := by
  unfold State.icxArbitrate
  try dsimp only
  repeat' first
    | with_reducible exact State.WithinM.refl _ _
    | with_reducible assumption
    | with_reducible refine State.WithinM.ite (fun _ => ?_) (fun _ => ?_)
    | with_reducible refine State.WithinM.iteFst (fun _ => ?_) (fun _ => ?_)
    | with_reducible refine State.WithinM.foldl _ (fun _ _ => ?_) ?_
    | with_reducible apply State.WithinM.step (State.icxGrant_within ..)
    | with_reducible apply State.WithinM.step (State.icxLast_within ..)
    | with_reducible apply State.WithinM.step (State.icxShow_within ..)
    | with_reducible apply State.WithinM.step (State.putWait_within ..)
    | with_reducible apply State.WithinM.step (State.icxPark_within ..)
    | with_reducible refine State.WithinM.fst (by assumption) ?_
    | decide
    | split

theorem State.icxClasses_within (s : State) (old : Word) : s.WithinM 4096 (State.icxClasses s old) := by
  unfold State.icxClasses
  repeat' first
    | with_reducible exact State.WithinM.refl _ _
    | with_reducible assumption
    | with_reducible refine State.WithinM.ite (fun _ => ?_) (fun _ => ?_)
    | with_reducible refine State.WithinM.iteFst (fun _ => ?_) (fun _ => ?_)
    | with_reducible refine State.each_within (fun _ _ => ?_) ?_
    | with_reducible apply State.WithinM.step (State.icxLast_within ..)
    | decide

theorem State.icxAnswer_within (s : State) (t : Nat) : s.WithinM 12290 (State.icxAnswer s t) := by
  unfold State.icxAnswer
  try dsimp only
  repeat' first
    | with_reducible exact State.WithinM.refl _ _
    | with_reducible assumption
    | with_reducible refine State.WithinM.ite (fun _ => ?_) (fun _ => ?_)
    | with_reducible refine State.WithinM.iteFst (fun _ => ?_) (fun _ => ?_)
    | with_reducible apply State.WithinM.step (State.icxShow_within ..)
    | with_reducible apply State.WithinM.step (State.putCore_within ..)
    | with_reducible apply State.WithinM.step (State.putGranted_within ..)
    | with_reducible refine State.WithinM.fst (by assumption) ?_
    | decide
    | split

theorem State.icxReset_within (s : State) (p : Nat) : s.WithinM 6146 (State.icxReset s p) := by
  unfold State.icxReset
  try dsimp only
  repeat' first
    | with_reducible exact State.WithinM.refl _ _
    | with_reducible assumption
    | with_reducible refine State.WithinM.ite (fun _ => ?_) (fun _ => ?_)
    | with_reducible refine State.WithinM.iteFst (fun _ => ?_) (fun _ => ?_)
    | with_reducible refine State.each_within (fun _ _ => ?_) ?_
    | with_reducible apply State.WithinM.step (State.icxShow_within ..)
    | with_reducible apply State.WithinM.step (State.lockDrop_within ..)
    | with_reducible apply State.WithinM.step (State.putGranted_within ..)
    | with_reducible apply State.WithinM.step (State.putHeld_within ..)
    | with_reducible apply State.WithinM.step (State.putParked_within ..)
    | with_reducible apply State.WithinM.step (State.putQueue_within ..)
    | with_reducible apply State.WithinM.step (State.putWait_within ..)
    | with_reducible apply State.WithinM.step (State.raise_within ..)
    | with_reducible apply State.WithinM.step (State.setFlag_within ..)
    | with_reducible apply State.WithinM.step (State.setIcx_within ..)
    | decide

theorem State.answer_within (s : State) (p : Nat) (r : Resp) : s.WithinM 512 (State.answer s p r) := by
  unfold State.answer
  repeat' first
    | with_reducible exact State.WithinM.refl _ _
    | with_reducible assumption
    | with_reducible apply State.WithinM.step (State.putPort_within ..)
    | decide

end Sys2Proof.Machine
end

