-- ==== Sys2Proof/Laws/WithinNetOps.lean ====
section
/-! SUPPORT. Which kinds of state each operation of Machine/NetOps.lean can change. -/

namespace Sys2Proof.Machine

variable {m : Nat} {s t u : State}

theorem State.descDone_within (s : State) (a : Nat) (w : Word) : s.WithinM 4 (State.descDone s a w) := by
  unfold State.descDone
  repeat' first
    | with_reducible exact State.WithinM.refl _ _
    | with_reducible assumption
    | with_reducible apply State.WithinM.step (State.dmaPut_within ..)
    | decide

theorem State.netReceive_within (s : State) (page head errc hi lo : Nat) (r : Word × Nat) (w : Word) (buf : List Byte) : s.WithinM 2054 (State.netReceive s page head errc hi lo r w buf) := by
  unfold State.netReceive
  try dsimp only
  repeat' first
    | with_reducible exact State.WithinM.refl _ _
    | with_reducible assumption
    | with_reducible refine State.WithinM.ite (fun _ => ?_) (fun _ => ?_)
    | with_reducible refine State.WithinM.iteFst (fun _ => ?_) (fun _ => ?_)
    | with_reducible apply State.WithinM.step (State.bump_within ..)
    | with_reducible apply State.WithinM.step (State.descDone_within ..)
    | with_reducible apply State.WithinM.step (State.dmaPut_within ..)
    | with_reducible apply State.WithinM.step (State.raise_within ..)
    | with_reducible apply State.WithinM.step (State.setReg_within ..)
    | decide

theorem State.netSent_within (s : State) (page head : Nat) (r : Word × Nat) : s.WithinM 2054 (State.netSent s page head r) := by
  unfold State.netSent
  try dsimp only
  repeat' first
    | with_reducible exact State.WithinM.refl _ _
    | with_reducible assumption
    | with_reducible apply State.WithinM.step (State.descDone_within ..)
    | with_reducible apply State.WithinM.step (State.raise_within ..)
    | with_reducible apply State.WithinM.step (State.setReg_within ..)
    | decide

theorem State.canReceive_within (s : State) (n : Nat) (xtd remote fd : Bool) (id : Nat) (data : List Byte) : s.WithinM 2062 (State.canReceive s n xtd remote fd id data) := by
  unfold State.canReceive
  try dsimp only
  repeat' first
    | with_reducible exact State.WithinM.refl _ _
    | with_reducible assumption
    | with_reducible refine State.WithinM.ite (fun _ => ?_) (fun _ => ?_)
    | with_reducible refine State.WithinM.iteFst (fun _ => ?_) (fun _ => ?_)
    | with_reducible apply State.WithinM.step (State.bump_within ..)
    | with_reducible apply State.WithinM.step (State.netReceive_within ..)
    | with_reducible apply State.WithinM.step (State.took_within ..)
    | with_reducible refine State.WithinM.fst (by assumption) ?_
    | decide
    | split

theorem State.canSent_within (s : State) (n : Nat) : s.WithinM 2054 (State.canSent s n) := by
  unfold State.canSent
  repeat' first
    | with_reducible exact State.WithinM.refl _ _
    | with_reducible assumption
    | with_reducible refine State.WithinM.ite (fun _ => ?_) (fun _ => ?_)
    | with_reducible refine State.WithinM.iteFst (fun _ => ?_) (fun _ => ?_)
    | with_reducible apply State.WithinM.step (State.netSent_within ..)
    | decide

theorem State.canBusOff_within (s : State) (n : Nat) : s.WithinM 549755815938 (State.canBusOff s n) := by
  unfold State.canBusOff
  repeat' first
    | with_reducible exact State.WithinM.refl _ _
    | with_reducible assumption
    | with_reducible refine State.WithinM.ite (fun _ => ?_) (fun _ => ?_)
    | with_reducible refine State.WithinM.iteFst (fun _ => ?_) (fun _ => ?_)
    | with_reducible apply State.WithinM.step (State.raise_within ..)
    | with_reducible apply State.WithinM.step (State.setFld_within ..)
    | with_reducible apply State.WithinM.step (State.setNet_within ..)
    | decide

theorem State.canEnable_within (s : State) (n : Nat) : s.WithinM 549755813890 (State.canEnable s n) := by
  unfold State.canEnable
  repeat' first
    | with_reducible exact State.WithinM.refl _ _
    | with_reducible assumption
    | with_reducible apply State.WithinM.step (State.setFld_within ..)
    | with_reducible apply State.WithinM.step (State.setNet_within ..)
    | decide

theorem State.ethReceive_within (s : State) (n : Nat) (f : List Byte) (crcOk : Bool) : s.WithinM 2054 (State.ethReceive s n f crcOk) := by
  unfold State.ethReceive
  try dsimp only
  repeat' first
    | with_reducible exact State.WithinM.refl _ _
    | with_reducible assumption
    | with_reducible refine State.WithinM.ite (fun _ => ?_) (fun _ => ?_)
    | with_reducible refine State.WithinM.iteFst (fun _ => ?_) (fun _ => ?_)
    | with_reducible apply State.WithinM.step (State.bump_within ..)
    | with_reducible apply State.WithinM.step (State.netReceive_within ..)
    | with_reducible refine State.WithinM.fst (by assumption) ?_
    | decide
    | split

theorem State.ethSent_within (s : State) (n : Nat) : s.WithinM 2054 (State.ethSent s n) := by
  unfold State.ethSent
  repeat' first
    | with_reducible exact State.WithinM.refl _ _
    | with_reducible assumption
    | with_reducible refine State.WithinM.ite (fun _ => ?_) (fun _ => ?_)
    | with_reducible refine State.WithinM.iteFst (fun _ => ?_) (fun _ => ?_)
    | with_reducible apply State.WithinM.step (State.netSent_within ..)
    | with_reducible refine State.WithinM.fst (by assumption) ?_
    | decide
    | split

theorem State.ethLink_within (s : State) (n : Nat) (up : Bool) : s.WithinM 549755815938 (State.ethLink s n up) := by
  unfold State.ethLink
  repeat' first
    | with_reducible exact State.WithinM.refl _ _
    | with_reducible assumption
    | with_reducible refine State.WithinM.ite (fun _ => ?_) (fun _ => ?_)
    | with_reducible refine State.WithinM.iteFst (fun _ => ?_) (fun _ => ?_)
    | with_reducible apply State.WithinM.step (State.raise_within ..)
    | with_reducible apply State.WithinM.step (State.setNet_within ..)
    | decide

theorem State.netOffset_within (s : State) : s.WithinM 549755813888 (State.netOffset s) := by
  unfold State.netOffset
  repeat' first
    | with_reducible exact State.WithinM.refl _ _
    | with_reducible assumption
    | with_reducible apply State.WithinM.step (State.setNet_within ..)
    | decide

theorem State.netNowRead_within (s : State) (p : Nat) : s.WithinM 512 (State.netNowRead s p) := by
  unfold State.netNowRead
  repeat' first
    | with_reducible exact State.WithinM.refl _ _
    | with_reducible assumption
    | with_reducible apply State.WithinM.step (State.putPort_within ..)
    | decide

theorem State.wakeCopy_within (s : State) : s.WithinM 549755813888 (State.wakeCopy s) := by
  unfold State.wakeCopy
  repeat' first
    | with_reducible exact State.WithinM.refl _ _
    | with_reducible assumption
    | with_reducible apply State.WithinM.step (State.setNet_within ..)
    | decide

end Sys2Proof.Machine
end

