-- ==== Sys2Proof/Laws/WithinShroudOps.lean ====
section
/-! SUPPORT. Which kinds of state each operation of Machine/ShroudOps.lean can change. -/

namespace Sys2Proof.Machine

variable {m : Nat} {s t u : State}

theorem State.sinShow_within (s : State) : s.WithinM 2 (State.sinShow s) := by
  unfold State.sinShow
  try dsimp only
  repeat' first
    | with_reducible exact State.WithinM.refl _ _
    | with_reducible assumption
    | with_reducible refine State.WithinM.ite (fun _ => ?_) (fun _ => ?_)
    | with_reducible refine State.WithinM.iteFst (fun _ => ?_) (fun _ => ?_)
    | with_reducible apply State.WithinM.step (State.setReg_within ..)
    | decide

theorem State.sinChange_within (s : State) (i : Nat) (b : Bool) (l : Level) : s.WithinM 32770 (State.sinChange s i b l) := by
  unfold State.sinChange
  repeat' first
    | with_reducible exact State.WithinM.refl _ _
    | with_reducible assumption
    | with_reducible apply State.WithinM.step (State.setShroud_within ..)
    | with_reducible apply State.WithinM.step (State.sinShow_within ..)
    | decide

theorem State.sinFilter_within (s : State) (i : Nat) : s.WithinM 32770 (State.sinFilter s i) := by
  unfold State.sinFilter
  repeat' first
    | with_reducible exact State.WithinM.refl _ _
    | with_reducible assumption
    | with_reducible apply State.WithinM.step (State.setShroud_within ..)
    | with_reducible apply State.WithinM.step (State.sinShow_within ..)
    | decide

theorem State.sinDiffer_within (s : State) (i : Nat) : s.WithinM 34818 (State.sinDiffer s i) := by
  unfold State.sinDiffer
  repeat' first
    | with_reducible exact State.WithinM.refl _ _
    | with_reducible assumption
    | with_reducible refine State.WithinM.ite (fun _ => ?_) (fun _ => ?_)
    | with_reducible refine State.WithinM.iteFst (fun _ => ?_) (fun _ => ?_)
    | with_reducible apply State.WithinM.step (State.raise_within ..)
    | with_reducible apply State.WithinM.step (State.setShroud_within ..)
    | with_reducible apply State.WithinM.step (State.sinShow_within ..)
    | decide

theorem State.putChannel_within (s : State) (b : Bool) (c : Channel) : s.WithinM 32768 (State.putChannel s b c) := by
  unfold State.putChannel
  repeat' first
    | with_reducible exact State.WithinM.refl _ _
    | with_reducible assumption
    | with_reducible refine State.WithinM.ite (fun _ => ?_) (fun _ => ?_)
    | with_reducible refine State.WithinM.iteFst (fun _ => ?_) (fun _ => ?_)
    | with_reducible apply State.WithinM.step (State.setShroud_within ..)
    | decide

theorem State.shroudShow_within (s : State) : s.WithinM 2 (State.shroudShow s) := by
  unfold State.shroudShow
  try dsimp only
  repeat' first
    | with_reducible exact State.WithinM.refl _ _
    | with_reducible assumption
    | with_reducible refine State.WithinM.foldl _ (fun _ _ => ?_) ?_
    | with_reducible apply State.WithinM.step (State.setReg_within ..)
    | decide

theorem State.shroudLines_within (s : State) : s.WithinM 32768 (State.shroudLines s) := by
  unfold State.shroudLines
  try dsimp only
  repeat' first
    | with_reducible exact State.WithinM.refl _ _
    | with_reducible assumption
    | with_reducible refine State.WithinM.ite (fun _ => ?_) (fun _ => ?_)
    | with_reducible refine State.WithinM.iteFst (fun _ => ?_) (fun _ => ?_)
    | with_reducible apply State.WithinM.step (State.setShroud_within ..)
    | decide

theorem State.cutGroup_within (s : State) (g : Nat) (cut : Bool) : s.WithinM 16809986 (State.cutGroup s g cut) := by
  unfold State.cutGroup
  try dsimp only
  repeat' first
    | with_reducible exact State.WithinM.refl _ _
    | with_reducible assumption
    | with_reducible refine State.WithinM.ite (fun _ => ?_) (fun _ => ?_)
    | with_reducible refine State.WithinM.iteFst (fun _ => ?_) (fun _ => ?_)
    | with_reducible apply State.WithinM.step (State.groupSupply_within ..)
    | with_reducible apply State.WithinM.step (State.setShroud_within ..)
    | decide

theorem State.restoreGroup_within (s : State) (g : Nat) : s.WithinM 16809986 (State.restoreGroup s g) := by
  unfold State.restoreGroup
  repeat' first
    | with_reducible exact State.WithinM.refl _ _
    | with_reducible assumption
    | with_reducible refine State.WithinM.ite (fun _ => ?_) (fun _ => ?_)
    | with_reducible refine State.WithinM.iteFst (fun _ => ?_) (fun _ => ?_)
    | with_reducible apply State.WithinM.step (State.cutGroup_within ..)
    | decide

theorem State.pathAll_within (s : State) : s.WithinM 13077874690 (State.pathAll s) := by
  unfold State.pathAll
  try dsimp only
  repeat' first
    | with_reducible exact State.WithinM.refl _ _
    | with_reducible assumption
    | with_reducible refine State.each_within (fun _ _ => ?_) ?_
    | with_reducible refine State.when_within (fun _ => ?_) ?_
    | with_reducible apply State.WithinM.step (State.dcdcShroud_within ..)
    | with_reducible apply State.WithinM.step (State.obcShroud_within ..)
    | with_reducible apply State.WithinM.step (State.putGroup_within ..)
    | with_reducible apply State.WithinM.step (State.raise_within ..)
    | with_reducible apply State.WithinM.step (State.refreshGroups_within ..)
    | with_reducible apply State.WithinM.step (State.refreshSrd_within ..)
    | with_reducible apply State.WithinM.step (State.restoreGroup_within ..)
    | decide

theorem State.noteFns_within (s : State) (old new : GroupDec) (g cause : Nat) : s.WithinM 2050 (State.noteFns s old new g cause) := by
  unfold State.noteFns
  repeat' first
    | with_reducible exact State.WithinM.refl _ _
    | with_reducible assumption
    | with_reducible refine State.WithinM.ite (fun _ => ?_) (fun _ => ?_)
    | with_reducible refine State.WithinM.iteFst (fun _ => ?_) (fun _ => ?_)
    | with_reducible refine State.when_within (fun _ => ?_) ?_
    | with_reducible apply State.WithinM.step (State.raise_within ..)
    | with_reducible apply State.WithinM.step (State.setReg_within ..)
    | decide

theorem State.debugSeen_within (s : State) (old new : Image) : s.WithinM 2050 (State.debugSeen s old new) := by
  unfold State.debugSeen
  try dsimp only
  repeat' first
    | with_reducible exact State.WithinM.refl _ _
    | with_reducible assumption
    | with_reducible refine State.WithinM.ite (fun _ => ?_) (fun _ => ?_)
    | with_reducible refine State.WithinM.iteFst (fun _ => ?_) (fun _ => ?_)
    | with_reducible apply State.WithinM.step (State.raise_within ..)
    | decide

theorem State.channelCycle_within (s : State) (b : Bool) : s.WithinM 34818 (State.channelCycle s b) := by
  unfold State.channelCycle
  try dsimp only
  repeat' first
    | with_reducible exact State.WithinM.refl _ _
    | with_reducible assumption
    | with_reducible refine State.WithinM.ite (fun _ => ?_) (fun _ => ?_)
    | with_reducible refine State.WithinM.iteFst (fun _ => ?_) (fun _ => ?_)
    | with_reducible refine State.WithinM.foldl _ (fun _ _ => ?_) ?_
    | with_reducible refine State.when_within (fun _ => ?_) ?_
    | with_reducible apply State.WithinM.step (State.debugSeen_within ..)
    | with_reducible apply State.WithinM.step (State.noteFns_within ..)
    | with_reducible apply State.WithinM.step (State.putChannel_within ..)
    | with_reducible apply State.WithinM.step (State.raise_within ..)
    | with_reducible apply State.WithinM.step (State.setShroud_within ..)
    | decide

theorem State.cycleA_within (s : State) : s.WithinM 13077874690 (State.cycleA s) := by
  unfold State.cycleA
  repeat' first
    | with_reducible exact State.WithinM.refl _ _
    | with_reducible assumption
    | with_reducible refine State.WithinM.ite (fun _ => ?_) (fun _ => ?_)
    | with_reducible refine State.WithinM.iteFst (fun _ => ?_) (fun _ => ?_)
    | with_reducible apply State.WithinM.step (State.channelCycle_within ..)
    | with_reducible apply State.WithinM.step (State.pathAll_within ..)
    | with_reducible apply State.WithinM.step (State.shroudLines_within ..)
    | with_reducible apply State.WithinM.step (State.shroudShow_within ..)
    | decide

theorem State.cycleB_within (s : State) : s.WithinM 285247490 (State.cycleB s) := by
  unfold State.cycleB
  try dsimp only
  repeat' first
    | with_reducible exact State.WithinM.refl _ _
    | with_reducible assumption
    | with_reducible refine State.WithinM.ite (fun _ => ?_) (fun _ => ?_)
    | with_reducible refine State.WithinM.iteFst (fun _ => ?_) (fun _ => ?_)
    | with_reducible refine State.each_within (fun _ _ => ?_) ?_
    | with_reducible apply State.WithinM.step (State.channelCycle_within ..)
    | with_reducible apply State.WithinM.step (State.putTwl_within ..)
    | with_reducible apply State.WithinM.step (State.restoreGroup_within ..)
    | with_reducible apply State.WithinM.step (State.shroudLines_within ..)
    | with_reducible apply State.WithinM.step (State.shroudShow_within ..)
    | decide

theorem State.shroudEnter_within (s : State) (st : Nat) : s.WithinM 34818 (State.shroudEnter s st) := by
  unfold State.shroudEnter
  try dsimp only
  repeat' first
    | with_reducible exact State.WithinM.refl _ _
    | with_reducible assumption
    | with_reducible refine State.WithinM.ite (fun _ => ?_) (fun _ => ?_)
    | with_reducible refine State.WithinM.iteFst (fun _ => ?_) (fun _ => ?_)
    | with_reducible apply State.WithinM.step (State.raise_within ..)
    | with_reducible apply State.WithinM.step (State.setReg_within ..)
    | with_reducible apply State.WithinM.step (State.setShroud_within ..)
    | decide

theorem State.forceSf1_within (s : State) (g cause : Nat) : s.WithinM 34818 (State.forceSf1 s g cause) := by
  unfold State.forceSf1
  try dsimp only
  repeat' first
    | with_reducible exact State.WithinM.refl _ _
    | with_reducible assumption
    | with_reducible refine State.WithinM.ite (fun _ => ?_) (fun _ => ?_)
    | with_reducible refine State.WithinM.iteFst (fun _ => ?_) (fun _ => ?_)
    | with_reducible refine State.when_within (fun _ => ?_) ?_
    | with_reducible apply State.WithinM.step (State.raise_within ..)
    | with_reducible apply State.WithinM.step (State.setReg_within ..)
    | with_reducible apply State.WithinM.step (State.setShroud_within ..)
    | decide

theorem State.reselect_within (s : State) : s.WithinM 13077874690 (State.reselect s) := by
  unfold State.reselect
  try dsimp only
  repeat' first
    | with_reducible exact State.WithinM.refl _ _
    | with_reducible assumption
    | with_reducible refine State.WithinM.foldl _ (fun _ _ => ?_) ?_
    | with_reducible apply State.WithinM.step (State.pathAll_within ..)
    | with_reducible apply State.WithinM.step (State.setShroud_within ..)
    | with_reducible apply State.WithinM.step (State.shroudLines_within ..)
    | with_reducible apply State.WithinM.step (State.shroudShow_within ..)
    | decide

theorem State.xcmpFault_within (s : State) : s.WithinM 13077874690 (State.xcmpFault s) := by
  unfold State.xcmpFault
  repeat' first
    | with_reducible exact State.WithinM.refl _ _
    | with_reducible assumption
    | with_reducible refine State.WithinM.ite (fun _ => ?_) (fun _ => ?_)
    | with_reducible refine State.WithinM.iteFst (fun _ => ?_) (fun _ => ?_)
    | with_reducible refine State.each_within (fun _ _ => ?_) ?_
    | with_reducible apply State.WithinM.step (State.forceSf1_within ..)
    | with_reducible apply State.WithinM.step (State.raise_within ..)
    | with_reducible apply State.WithinM.step (State.reselect_within ..)
    | with_reducible apply State.WithinM.step (State.shroudEnter_within ..)
    | decide

theorem State.exchange_within (s : State) (missing rcOff : Bool) : s.WithinM 13077874690 (State.exchange s missing rcOff) := by
  unfold State.exchange
  try dsimp only
  repeat' first
    | with_reducible exact State.WithinM.refl _ _
    | with_reducible assumption
    | with_reducible refine State.WithinM.ite (fun _ => ?_) (fun _ => ?_)
    | with_reducible refine State.WithinM.iteFst (fun _ => ?_) (fun _ => ?_)
    | with_reducible refine State.when_within (fun _ => ?_) ?_
    | with_reducible apply State.WithinM.step (State.bump_within ..)
    | with_reducible apply State.WithinM.step (State.setShroud_within ..)
    | with_reducible apply State.WithinM.step (State.wrap_within ..)
    | with_reducible apply State.WithinM.step (State.xcmpFault_within ..)
    | decide

theorem State.ss1Timeout_within (s : State) (g : Nat) : s.WithinM 13077874690 (State.ss1Timeout s g) := by
  unfold State.ss1Timeout
  repeat' first
    | with_reducible exact State.WithinM.refl _ _
    | with_reducible assumption
    | with_reducible refine State.WithinM.ite (fun _ => ?_) (fun _ => ?_)
    | with_reducible refine State.WithinM.iteFst (fun _ => ?_) (fun _ => ?_)
    | with_reducible apply State.WithinM.step (State.forceSf1_within ..)
    | with_reducible apply State.WithinM.step (State.reselect_within ..)
    | decide

theorem State.finalSto_within (s : State) (g : Nat) : s.WithinM 16809986 (State.finalSto s g) := by
  unfold State.finalSto
  try dsimp only
  repeat' first
    | with_reducible exact State.WithinM.refl _ _
    | with_reducible assumption
    | with_reducible refine State.WithinM.ite (fun _ => ?_) (fun _ => ?_)
    | with_reducible refine State.WithinM.iteFst (fun _ => ?_) (fun _ => ?_)
    | with_reducible apply State.WithinM.step (State.cutGroup_within ..)
    | with_reducible apply State.WithinM.step (State.shroudShow_within ..)
    | decide

theorem State.clearLockout_within (s : State) (g : Nat) : s.WithinM 32770 (State.clearLockout s g) := by
  unfold State.clearLockout
  try dsimp only
  repeat' first
    | with_reducible exact State.WithinM.refl _ _
    | with_reducible assumption
    | with_reducible apply State.WithinM.step (State.setReg_within ..)
    | with_reducible apply State.WithinM.step (State.setShroud_within ..)
    | decide

theorem State.safeReset_within (s : State) : s.WithinM 34818 (State.safeReset s) := by
  unfold State.safeReset
  try dsimp only
  repeat' first
    | with_reducible exact State.WithinM.refl _ _
    | with_reducible assumption
    | with_reducible refine State.WithinM.ite (fun _ => ?_) (fun _ => ?_)
    | with_reducible refine State.WithinM.iteFst (fun _ => ?_) (fun _ => ?_)
    | with_reducible refine State.WithinM.foldl _ (fun _ _ => ?_) ?_
    | with_reducible refine State.each_within (fun _ _ => ?_) ?_
    | with_reducible refine State.when_within (fun _ => ?_) ?_
    | with_reducible apply State.WithinM.step (State.clearLockout_within ..)
    | with_reducible apply State.WithinM.step (State.raise_within ..)
    | with_reducible apply State.WithinM.step (State.setShroud_within ..)
    | with_reducible apply State.WithinM.step (State.shroudShow_within ..)
    | with_reducible apply State.WithinM.step (State.sinShow_within ..)
    | decide

theorem State.loadConfig_within (s : State) (l : List (Nat × Word)) : s.WithinM 2 (State.loadConfig s l) := by
  unfold State.loadConfig
  repeat' first
    | with_reducible exact State.WithinM.refl _ _
    | with_reducible assumption
    | with_reducible refine State.WithinM.ite (fun _ => ?_) (fun _ => ?_)
    | with_reducible refine State.WithinM.iteFst (fun _ => ?_) (fun _ => ?_)
    | with_reducible refine State.WithinM.foldl _ (fun _ _ => ?_) ?_
    | with_reducible apply State.WithinM.step (State.setReg_within ..)
    | decide

theorem State.commissionLeave_within (s : State) : s.WithinM 13077874754 (State.commissionLeave s) := by
  unfold State.commissionLeave
  try dsimp only
  repeat' first
    | with_reducible exact State.WithinM.refl _ _
    | with_reducible assumption
    | with_reducible apply State.WithinM.step (State.reselect_within ..)
    | with_reducible apply State.WithinM.step (State.setKept_within ..)
    | with_reducible apply State.WithinM.step (State.setShroud_within ..)
    | with_reducible apply State.WithinM.step (State.shroudEnter_within ..)
    | decide

end Sys2Proof.Machine
end

