-- ==== Sys2Proof/Laws/WithinTwinOps.lean ====
section
/-! SUPPORT. Which kinds of state each operation of Machine/TwinOps.lean can change. -/

namespace Sys2Proof.Machine

variable {m : Nat} {s t u : State}

theorem State.twinEnter_within (s : State) (st : Nat) : s.WithinM 2050 (State.twinEnter s st) := by
  unfold State.twinEnter
  repeat' first
    | with_reducible exact State.WithinM.refl _ _
    | with_reducible assumption
    | with_reducible refine State.WithinM.ite (fun _ => ?_) (fun _ => ?_)
    | with_reducible refine State.WithinM.iteFst (fun _ => ?_) (fun _ => ?_)
    | with_reducible apply State.WithinM.step (State.raise_within ..)
    | with_reducible apply State.WithinM.step (State.setFld_within ..)
    | decide

theorem State.twinRun_within (s : State) : s.WithinM 274877908994 (State.twinRun s) := by
  unfold State.twinRun
  try dsimp only
  repeat' first
    | with_reducible exact State.WithinM.refl _ _
    | with_reducible assumption
    | with_reducible refine State.WithinM.ite (fun _ => ?_) (fun _ => ?_)
    | with_reducible refine State.WithinM.iteFst (fun _ => ?_) (fun _ => ?_)
    | with_reducible apply State.WithinM.step (State.setFld_within ..)
    | with_reducible apply State.WithinM.step (State.setTwin_within ..)
    | with_reducible apply State.WithinM.step (State.twinEnter_within ..)
    | decide

theorem State.twinOff_within (s : State) : s.WithinM 274877908994 (State.twinOff s) := by
  unfold State.twinOff
  repeat' first
    | with_reducible exact State.WithinM.refl _ _
    | with_reducible assumption
    | with_reducible refine State.WithinM.ite (fun _ => ?_) (fun _ => ?_)
    | with_reducible refine State.WithinM.iteFst (fun _ => ?_) (fun _ => ?_)
    | with_reducible apply State.WithinM.step (State.setReg_within ..)
    | with_reducible apply State.WithinM.step (State.setTwin_within ..)
    | with_reducible apply State.WithinM.step (State.twinEnter_within ..)
    | decide

theorem State.twinTrained_within (s : State) : s.WithinM 2050 (State.twinTrained s) := by
  unfold State.twinTrained
  repeat' first
    | with_reducible exact State.WithinM.refl _ _
    | with_reducible assumption
    | with_reducible refine State.WithinM.ite (fun _ => ?_) (fun _ => ?_)
    | with_reducible refine State.WithinM.iteFst (fun _ => ?_) (fun _ => ?_)
    | with_reducible apply State.WithinM.step (State.orReg_within ..)
    | with_reducible apply State.WithinM.step (State.twinEnter_within ..)
    | decide

theorem State.twinSend_within (s : State) : s.WithinM 274877906944 (State.twinSend s) := by
  unfold State.twinSend
  repeat' first
    | with_reducible exact State.WithinM.refl _ _
    | with_reducible assumption
    | with_reducible refine State.WithinM.ite (fun _ => ?_) (fun _ => ?_)
    | with_reducible refine State.WithinM.iteFst (fun _ => ?_) (fun _ => ?_)
    | with_reducible apply State.WithinM.step (State.setTwin_within ..)
    | decide

theorem State.laneSlot_within (s : State) (lane : Nat) (good : Bool) : s.WithinM 274877906946 (State.laneSlot s lane good) := by
  unfold State.laneSlot
  try dsimp only
  repeat' first
    | with_reducible exact State.WithinM.refl _ _
    | with_reducible assumption
    | with_reducible refine State.WithinM.ite (fun _ => ?_) (fun _ => ?_)
    | with_reducible refine State.WithinM.iteFst (fun _ => ?_) (fun _ => ?_)
    | with_reducible apply State.WithinM.step (State.setFlag_within ..)
    | with_reducible apply State.WithinM.step (State.setTwin_within ..)
    | decide

theorem State.twinLose_within (s : State) (st : Nat) : s.WithinM 274877908994 (State.twinLose s st) := by
  unfold State.twinLose
  repeat' first
    | with_reducible exact State.WithinM.refl _ _
    | with_reducible assumption
    | with_reducible refine State.when_within (fun _ => ?_) ?_
    | with_reducible apply State.WithinM.step (State.raise_within ..)
    | with_reducible apply State.WithinM.step (State.setTwin_within ..)
    | with_reducible apply State.WithinM.step (State.twinEnter_within ..)
    | decide

theorem State.twinBad_within (s : State) : s.WithinM 274877906946 (State.twinBad s) := by
  unfold State.twinBad
  repeat' first
    | with_reducible exact State.WithinM.refl _ _
    | with_reducible assumption
    | with_reducible apply State.WithinM.step (State.bump_within ..)
    | with_reducible apply State.WithinM.step (State.setTwin_within ..)
    | decide

theorem State.twinDemands_within (s : State) (dem : Nat) : s.WithinM 274877941762 (State.twinDemands s dem) := by
  unfold State.twinDemands
  try dsimp only
  repeat' first
    | with_reducible exact State.WithinM.refl _ _
    | with_reducible assumption
    | with_reducible refine State.WithinM.ite (fun _ => ?_) (fun _ => ?_)
    | with_reducible refine State.WithinM.iteFst (fun _ => ?_) (fun _ => ?_)
    | with_reducible refine State.when_within (fun _ => ?_) ?_
    | with_reducible apply State.WithinM.step (State.raise_within ..)
    | with_reducible apply State.WithinM.step (State.setFld_within ..)
    | with_reducible apply State.WithinM.step (State.setShroud_within ..)
    | with_reducible apply State.WithinM.step (State.setTwin_within ..)
    | decide

theorem State.twinValid_within (s : State) (f : List Byte) : s.WithinM 274877941762 (State.twinValid s f) := by
  unfold State.twinValid
  try dsimp only
  repeat' first
    | with_reducible exact State.WithinM.refl _ _
    | with_reducible assumption
    | with_reducible refine State.WithinM.ite (fun _ => ?_) (fun _ => ?_)
    | with_reducible refine State.WithinM.iteFst (fun _ => ?_) (fun _ => ?_)
    | with_reducible apply State.WithinM.step (State.raise_within ..)
    | with_reducible apply State.WithinM.step (State.setTwin_within ..)
    | with_reducible apply State.WithinM.step (State.twinDemands_within ..)
    | with_reducible apply State.WithinM.step (State.twinEnter_within ..)
    | with_reducible apply State.WithinM.step (State.twinLose_within ..)
    | with_reducible apply State.WithinM.step (State.wrap_within ..)
    | decide

theorem State.twinReceive_within (s : State) (f : List Byte) (lane : Nat) : s.WithinM 274877941762 (State.twinReceive s f lane) := by
  unfold State.twinReceive
  try dsimp only
  repeat' first
    | with_reducible exact State.WithinM.refl _ _
    | with_reducible assumption
    | with_reducible refine State.WithinM.ite (fun _ => ?_) (fun _ => ?_)
    | with_reducible refine State.WithinM.iteFst (fun _ => ?_) (fun _ => ?_)
    | with_reducible refine State.each_within (fun _ _ => ?_) ?_
    | with_reducible apply State.WithinM.step (State.laneSlot_within ..)
    | with_reducible apply State.WithinM.step (State.setTwin_within ..)
    | with_reducible apply State.WithinM.step (State.twinBad_within ..)
    | with_reducible apply State.WithinM.step (State.twinValid_within ..)
    | with_reducible refine State.WithinM.fst (by assumption) ?_
    | decide
    | split

theorem State.twinLost_within (s : State) : s.WithinM 274877908994 (State.twinLost s) := by
  unfold State.twinLost
  repeat' first
    | with_reducible exact State.WithinM.refl _ _
    | with_reducible assumption
    | with_reducible refine State.WithinM.ite (fun _ => ?_) (fun _ => ?_)
    | with_reducible refine State.WithinM.iteFst (fun _ => ?_) (fun _ => ?_)
    | with_reducible apply State.WithinM.step (State.twinLose_within ..)
    | decide

theorem State.twinXreq_within (s : State) (groups : Nat) : s.WithinM 274877906944 (State.twinXreq s groups) := by
  unfold State.twinXreq
  repeat' first
    | with_reducible exact State.WithinM.refl _ _
    | with_reducible assumption
    | with_reducible refine State.WithinM.ite (fun _ => ?_) (fun _ => ?_)
    | with_reducible refine State.WithinM.iteFst (fun _ => ?_) (fun _ => ?_)
    | with_reducible apply State.WithinM.step (State.setTwin_within ..)
    | decide

theorem State.twinXreqEnd_within (s : State) (groups : Nat) : s.WithinM 274877906944 (State.twinXreqEnd s groups) := by
  unfold State.twinXreqEnd
  repeat' first
    | with_reducible exact State.WithinM.refl _ _
    | with_reducible assumption
    | with_reducible apply State.WithinM.step (State.setTwin_within ..)
    | decide

theorem State.twinOffset_within (s : State) (o : Word) : s.WithinM 2 (State.twinOffset s o) := by
  unfold State.twinOffset
  repeat' first
    | with_reducible exact State.WithinM.refl _ _
    | with_reducible assumption
    | with_reducible refine State.WithinM.ite (fun _ => ?_) (fun _ => ?_)
    | with_reducible refine State.WithinM.iteFst (fun _ => ?_) (fun _ => ?_)
    | with_reducible apply State.WithinM.step (State.setReg_within ..)
    | decide

theorem State.twinHand_within (s : State) (k : Nat) : s.WithinM 343597385734 (State.twinHand s k) := by
  unfold State.twinHand
  try dsimp only
  repeat' first
    | with_reducible exact State.WithinM.refl _ _
    | with_reducible assumption
    | with_reducible refine State.WithinM.ite (fun _ => ?_) (fun _ => ?_)
    | with_reducible refine State.WithinM.iteFst (fun _ => ?_) (fun _ => ?_)
    | with_reducible apply State.WithinM.step (State.putRing_within ..)
    | with_reducible apply State.WithinM.step (State.raise_within ..)
    | with_reducible apply State.WithinM.step (State.ringEnter_within ..)
    | with_reducible apply State.WithinM.step (State.setFlag_within ..)
    | with_reducible apply State.WithinM.step (State.setTwin_within ..)
    | with_reducible apply State.WithinM.step (State.txAbort_within ..)
    | decide

theorem State.twinHands_within (s : State) (rings : Nat) : s.WithinM 343597385734 (State.twinHands s rings) := by
  unfold State.twinHands
  repeat' first
    | with_reducible exact State.WithinM.refl _ _
    | with_reducible assumption
    | with_reducible refine State.each_within (fun _ _ => ?_) ?_
    | with_reducible apply State.WithinM.step (State.twinHand_within ..)
    | decide

theorem State.twinToken_within (s : State) (k : Nat) : s.WithinM 343597385730 (State.twinToken s k) := by
  unfold State.twinToken
  try dsimp only
  repeat' first
    | with_reducible exact State.WithinM.refl _ _
    | with_reducible assumption
    | with_reducible refine State.WithinM.ite (fun _ => ?_) (fun _ => ?_)
    | with_reducible refine State.WithinM.iteFst (fun _ => ?_) (fun _ => ?_)
    | with_reducible apply State.WithinM.step (State.putRing_within ..)
    | with_reducible apply State.WithinM.step (State.raise_within ..)
    | with_reducible apply State.WithinM.step (State.ringEnter_within ..)
    | with_reducible apply State.WithinM.step (State.setFlag_within ..)
    | with_reducible apply State.WithinM.step (State.setTwin_within ..)
    | decide

theorem State.twinTake_within (s : State) (k : Nat) : s.WithinM 68719478786 (State.twinTake s k) := by
  unfold State.twinTake
  try dsimp only
  repeat' first
    | with_reducible exact State.WithinM.refl _ _
    | with_reducible assumption
    | with_reducible refine State.WithinM.ite (fun _ => ?_) (fun _ => ?_)
    | with_reducible refine State.WithinM.iteFst (fun _ => ?_) (fun _ => ?_)
    | with_reducible apply State.WithinM.step (State.putRing_within ..)
    | with_reducible apply State.WithinM.step (State.raise_within ..)
    | with_reducible apply State.WithinM.step (State.ringRun_within ..)
    | with_reducible apply State.WithinM.step (State.setFlag_within ..)
    | decide

theorem State.twinSummary_within (s : State) (k : Nat) (ws : List (Word × Bool)) (stamp : Nat) : s.WithinM 262144 (State.twinSummary s k ws stamp) := by
  unfold State.twinSummary
  try dsimp only
  repeat' first
    | with_reducible exact State.WithinM.refl _ _
    | with_reducible assumption
    | with_reducible refine State.WithinM.ite (fun _ => ?_) (fun _ => ?_)
    | with_reducible refine State.WithinM.iteFst (fun _ => ?_) (fun _ => ?_)
    | with_reducible refine State.each_within (fun _ _ => ?_) ?_
    | with_reducible apply State.WithinM.step (State.putSample_within ..)
    | decide

end Sys2Proof.Machine
end

