-- ==== Sys2Proof/Laws/WithinRouterOps.lean ====
section
/-! SUPPORT. Which kinds of state each operation of Machine/RouterOps.lean can change. -/

namespace Sys2Proof.Machine

variable {m : Nat} {s t u : State}

theorem State.settleIrq_within (s : State) : s.WithinM 2 (State.settleIrq s) := by
  unfold State.settleIrq
  repeat' first
    | with_reducible exact State.WithinM.refl _ _
    | with_reducible assumption
    | with_reducible apply State.WithinM.step (State.setReg_within ..)
    | decide

theorem State.vbatWatch_within (s : State) : s.WithinM 128 (State.vbatWatch s) := by
  unfold State.vbatWatch
  try dsimp only
  repeat' first
    | with_reducible exact State.WithinM.refl _ _
    | with_reducible assumption
    | with_reducible refine State.WithinM.ite (fun _ => ?_) (fun _ => ?_)
    | with_reducible refine State.WithinM.iteFst (fun _ => ?_) (fun _ => ?_)
    | with_reducible apply State.WithinM.step (State.setGms_within ..)
    | decide

theorem State.settle_within (s : State) : s.WithinM 137438953602 (State.settle s) := by
  unfold State.settle
  repeat' first
    | with_reducible exact State.WithinM.refl _ _
    | with_reducible assumption
    | with_reducible refine State.each_within (fun _ _ => ?_) ?_
    | with_reducible apply State.WithinM.step (State.settleIrq_within ..)
    | with_reducible apply State.WithinM.step (State.vbatWatch_within ..)
    | with_reducible apply State.WithinM.step (State.zWatch_within ..)
    | decide

theorem State.done_within {t : State} (hm : 137438953602 &&& m = 137438953602) (h : done s = .next t) (k : State.WithinM m u s) : State.WithinM m u t := by
  obtain rfl : s.settle = t := by simpa [done] using h
  exact s.settle_within.step hm k

theorem State.capTake_within (s : State) (n k t : Nat) (w : Word) : s.WithinM 2050 (State.capTake s n k t w) := by
  unfold State.capTake
  repeat' first
    | with_reducible exact State.WithinM.refl _ _
    | with_reducible assumption
    | with_reducible apply State.WithinM.step (State.raise_within ..)
    | with_reducible apply State.WithinM.step (State.setFlag_within ..)
    | with_reducible apply State.WithinM.step (State.setReg_within ..)
    | decide

theorem State.capArrive_within (s : State) (n k : Nat) : s.WithinM 3074 (State.capArrive s n k) := by
  unfold State.capArrive
  try dsimp only
  repeat' first
    | with_reducible exact State.WithinM.refl _ _
    | with_reducible assumption
    | with_reducible refine State.WithinM.ite (fun _ => ?_) (fun _ => ?_)
    | with_reducible refine State.WithinM.iteFst (fun _ => ?_) (fun _ => ?_)
    | with_reducible refine State.when_within (fun _ => ?_) ?_
    | with_reducible apply State.WithinM.step (State.capTake_within ..)
    | with_reducible apply State.WithinM.step (State.putCap_within ..)
    | with_reducible apply State.WithinM.step (State.setFlag_within ..)
    | decide

theorem State.capThaw_within (s : State) (n k : Nat) : s.WithinM 3074 (State.capThaw s n k) := by
  unfold State.capThaw
  try dsimp only
  repeat' first
    | with_reducible exact State.WithinM.refl _ _
    | with_reducible assumption
    | with_reducible apply State.WithinM.step (State.capTake_within ..)
    | with_reducible apply State.WithinM.step (State.putCap_within ..)
    | with_reducible apply State.WithinM.step (State.setFlag_within ..)
    | with_reducible refine State.WithinM.fst (by assumption) ?_
    | decide
    | split

theorem State.capFreeze_within (s : State) (port n k : Nat) : s.WithinM 1024 (State.capFreeze s port n k) := by
  unfold State.capFreeze
  try dsimp only
  repeat' first
    | with_reducible exact State.WithinM.refl _ _
    | with_reducible assumption
    | with_reducible refine State.WithinM.ite (fun _ => ?_) (fun _ => ?_)
    | with_reducible refine State.WithinM.iteFst (fun _ => ?_) (fun _ => ?_)
    | with_reducible apply State.WithinM.step (State.putCap_within ..)
    | decide

theorem State.capRelease_within (s : State) (port n k : Nat) : s.WithinM 3074 (State.capRelease s port n k) := by
  unfold State.capRelease
  repeat' first
    | with_reducible exact State.WithinM.refl _ _
    | with_reducible assumption
    | with_reducible refine State.WithinM.ite (fun _ => ?_) (fun _ => ?_)
    | with_reducible refine State.WithinM.iteFst (fun _ => ?_) (fun _ => ?_)
    | with_reducible apply State.WithinM.step (State.capThaw_within ..)
    | with_reducible apply State.WithinM.step (State.setFlag_within ..)
    | decide

theorem State.capLapse_within (s : State) (n k : Nat) : s.WithinM 3074 (State.capLapse s n k) := by
  unfold State.capLapse
  repeat' first
    | with_reducible exact State.WithinM.refl _ _
    | with_reducible assumption
    | with_reducible refine State.WithinM.ite (fun _ => ?_) (fun _ => ?_)
    | with_reducible refine State.WithinM.iteFst (fun _ => ?_) (fun _ => ?_)
    | with_reducible apply State.WithinM.step (State.capThaw_within ..)
    | decide

theorem State.dtimeRead_within (s : State) (port n : Nat) : s.WithinM 512 (State.dtimeRead s port n) := by
  unfold State.dtimeRead
  try dsimp only
  repeat' first
    | with_reducible exact State.WithinM.refl _ _
    | with_reducible assumption
    | with_reducible refine State.WithinM.ite (fun _ => ?_) (fun _ => ?_)
    | with_reducible refine State.WithinM.iteFst (fun _ => ?_) (fun _ => ?_)
    | with_reducible apply State.WithinM.step (State.putPort_within ..)
    | decide

theorem State.record_within (s : State) (e : Nat) : s.WithinM 2048 (State.record s e) := by
  unfold State.record
  try dsimp only
  repeat' first
    | with_reducible exact State.WithinM.refl _ _
    | with_reducible assumption
    | with_reducible refine State.WithinM.ite (fun _ => ?_) (fun _ => ?_)
    | with_reducible refine State.WithinM.iteFst (fun _ => ?_) (fun _ => ?_)
    | with_reducible apply State.WithinM.step (State.setRouter_within ..)
    | decide

theorem State.pend_within (s : State) (e : Nat) : s.WithinM 2 (State.pend s e) := by
  unfold State.pend
  repeat' first
    | with_reducible exact State.WithinM.refl _ _
    | with_reducible assumption
    | with_reducible apply State.WithinM.step (State.setFlag_within ..)
    | decide

theorem State.capEvent_within (s : State) (e : Nat) : s.WithinM 3074 (State.capEvent s e) := by
  unfold State.capEvent
  try dsimp only
  repeat' first
    | with_reducible exact State.WithinM.refl _ _
    | with_reducible assumption
    | with_reducible refine State.WithinM.ite (fun _ => ?_) (fun _ => ?_)
    | with_reducible refine State.WithinM.iteFst (fun _ => ?_) (fun _ => ?_)
    | with_reducible refine State.each_within (fun _ _ => ?_) ?_
    | with_reducible apply State.WithinM.step (State.capArrive_within ..)
    | decide

theorem State.fcTrigger_within (s : State) (e : Nat) : s.WithinM 128 (State.fcTrigger s e) := by
  unfold State.fcTrigger
  try dsimp only
  repeat' first
    | with_reducible exact State.WithinM.refl _ _
    | with_reducible assumption
    | with_reducible refine State.WithinM.ite (fun _ => ?_) (fun _ => ?_)
    | with_reducible refine State.WithinM.iteFst (fun _ => ?_) (fun _ => ?_)
    | with_reducible apply State.WithinM.step (State.setGms_within ..)
    | decide

theorem State.occur_within (s : State) (e : Nat) : s.WithinM 17189997698 (State.occur s e) := by
  unfold State.occur
  repeat' first
    | with_reducible exact State.WithinM.refl _ _
    | with_reducible assumption
    | with_reducible apply State.WithinM.step (State.actTrigger_within ..)
    | with_reducible apply State.WithinM.step (State.adcTrigger_within ..)
    | with_reducible apply State.WithinM.step (State.capEvent_within ..)
    | with_reducible apply State.WithinM.step (State.fcTrigger_within ..)
    | with_reducible apply State.WithinM.step (State.pend_within ..)
    | with_reducible apply State.WithinM.step (State.record_within ..)
    | with_reducible apply State.WithinM.step (State.sdmTrigger_within ..)
    | with_reducible apply State.WithinM.step (State.trimTrigger_within ..)
    | with_reducible apply State.WithinM.step (State.tripSync_within ..)
    | decide

theorem State.deliver_within (s : State) (e : Nat) : s.WithinM 17189997698 (State.deliver s e) := by
  unfold State.deliver
  repeat' first
    | with_reducible exact State.WithinM.refl _ _
    | with_reducible assumption
    | with_reducible refine State.WithinM.ite (fun _ => ?_) (fun _ => ?_)
    | with_reducible refine State.WithinM.iteFst (fun _ => ?_) (fun _ => ?_)
    | with_reducible apply State.WithinM.step (State.occur_within ..)
    | with_reducible apply State.WithinM.step (State.setRouter_within ..)
    | decide

end Sys2Proof.Machine
end

