-- ==== Sys2Proof/Laws/WithinPages.lean ====
section
/-! SUPPORT. Which kinds of state each operation of Machine/Pages.lean can change. -/

namespace Sys2Proof.Machine

variable {m : Nat} {s t u : State}

theorem State.setKey_within (s : State) (p : Nat) (k : Key) : s.WithinM 256 (State.setKey s p k) := by
  unfold State.setKey
  repeat' first
    | with_reducible exact State.WithinM.refl _ _
    | with_reducible assumption
    | with_reducible apply State.WithinM.step (State.putPage_within ..)
    | decide

theorem State.crcTouch_within (s : State) (p : Nat) : s.WithinM 2 (State.crcTouch s p) := by
  unfold State.crcTouch
  repeat' first
    | with_reducible exact State.WithinM.refl _ _
    | with_reducible assumption
    | with_reducible apply State.WithinM.step (State.setFlag_within ..)
    | decide

theorem State.crcLatch_within (s : State) (p : Nat) : s.WithinM 256 (State.crcLatch s p) := by
  unfold State.crcLatch
  repeat' first
    | with_reducible exact State.WithinM.refl _ _
    | with_reducible assumption
    | with_reducible refine State.WithinM.ite (fun _ => ?_) (fun _ => ?_)
    | with_reducible refine State.WithinM.iteFst (fun _ => ?_) (fun _ => ?_)
    | with_reducible apply State.WithinM.step (State.putPage_within ..)
    | decide

theorem State.crcDone_within (s : State) (p : Nat) : s.WithinM 258 (State.crcDone s p) := by
  unfold State.crcDone
  repeat' first
    | with_reducible exact State.WithinM.refl _ _
    | with_reducible assumption
    | with_reducible refine State.WithinM.ite (fun _ => ?_) (fun _ => ?_)
    | with_reducible refine State.WithinM.iteFst (fun _ => ?_) (fun _ => ?_)
    | with_reducible refine State.when_within (fun _ => ?_) ?_
    | with_reducible apply State.WithinM.step (State.crcLatch_within ..)
    | with_reducible apply State.WithinM.step (State.setFlag_within ..)
    | with_reducible apply State.WithinM.step (State.setReg_within ..)
    | decide

theorem State.gatesRefresh_within (s : State) : s.WithinM 150994946 (State.gatesRefresh s) := by
  unfold State.gatesRefresh
  repeat' first
    | with_reducible exact State.WithinM.refl _ _
    | with_reducible assumption
    | with_reducible apply State.WithinM.step (State.refreshGroups_within ..)
    | with_reducible apply State.WithinM.step (State.refreshSrd_within ..)
    | decide

theorem State.blockStart_within (s : State) (p : Nat) : s.WithinM 944283879426 (State.blockStart s p) := by
  unfold State.blockStart
  repeat' first
    | with_reducible exact State.WithinM.refl _ _
    | with_reducible assumption
    | with_reducible refine State.WithinM.ite (fun _ => ?_) (fun _ => ?_)
    | with_reducible refine State.WithinM.iteFst (fun _ => ?_) (fun _ => ?_)
    | with_reducible refine State.each_within (fun _ _ => ?_) ?_
    | with_reducible apply State.WithinM.step (State.actEnable_within ..)
    | with_reducible apply State.WithinM.step (State.canEnable_within ..)
    | with_reducible apply State.WithinM.step (State.cmpPage_within ..)
    | with_reducible apply State.WithinM.step (State.ctrOutputs_within ..)
    | with_reducible apply State.WithinM.step (State.dcdcEnable_within ..)
    | with_reducible apply State.WithinM.step (State.gatesRefresh_within ..)
    | with_reducible apply State.WithinM.step (State.hallStart_within ..)
    | with_reducible apply State.WithinM.step (State.hvsRefresh_within ..)
    | with_reducible apply State.WithinM.step (State.lampRefresh_within ..)
    | with_reducible apply State.WithinM.step (State.obcEnable_within ..)
    | with_reducible apply State.WithinM.step (State.pilotS2_within ..)
    | with_reducible apply State.WithinM.step (State.pwmStart_within ..)
    | with_reducible apply State.WithinM.step (State.ringRun_within ..)
    | with_reducible apply State.WithinM.step (State.sdmInvalidate_within ..)
    | with_reducible apply State.WithinM.step (State.setNet_within ..)
    | with_reducible apply State.WithinM.step (State.sourceCheck_within ..)
    | with_reducible apply State.WithinM.step (State.twinRun_within ..)
    | with_reducible apply State.WithinM.step (State.twlStart_within ..)
    | with_reducible refine State.WithinM.fst (by assumption) ?_
    | decide
    | split

theorem State.blockStop_within (s : State) (p : Nat) : s.WithinM 408487430150 (State.blockStop s p) := by
  unfold State.blockStop
  repeat' first
    | with_reducible exact State.WithinM.refl _ _
    | with_reducible assumption
    | with_reducible refine State.each_within (fun _ _ => ?_) ?_
    | with_reducible apply State.WithinM.step (State.actDisable_within ..)
    | with_reducible apply State.WithinM.step (State.adcStop_within ..)
    | with_reducible apply State.WithinM.step (State.cmpPage_within ..)
    | with_reducible apply State.WithinM.step (State.ctrDrop_within ..)
    | with_reducible apply State.WithinM.step (State.dcdcDisable_within ..)
    | with_reducible apply State.WithinM.step (State.engineStop_within ..)
    | with_reducible apply State.WithinM.step (State.gatesRefresh_within ..)
    | with_reducible apply State.WithinM.step (State.hvsRefresh_within ..)
    | with_reducible apply State.WithinM.step (State.lampRefresh_within ..)
    | with_reducible apply State.WithinM.step (State.obcDisable_within ..)
    | with_reducible apply State.WithinM.step (State.pilotS2_within ..)
    | with_reducible apply State.WithinM.step (State.pwmStop_within ..)
    | with_reducible apply State.WithinM.step (State.ringStop_within ..)
    | with_reducible apply State.WithinM.step (State.scdStop_within ..)
    | with_reducible apply State.WithinM.step (State.sdmInvalidate_within ..)
    | with_reducible apply State.WithinM.step (State.sourceCheck_within ..)
    | with_reducible apply State.WithinM.step (State.twinOff_within ..)
    | with_reducible apply State.WithinM.step (State.twlStop_within ..)
    | with_reducible apply State.WithinM.step (State.zIdle_within ..)
    | with_reducible refine State.WithinM.fst (by assumption) ?_
    | decide
    | split

theorem State.blockSafe_within (s : State) (p : Nat) : s.WithinM 133341087750 (State.blockSafe s p) := by
  unfold State.blockSafe
  repeat' first
    | with_reducible exact State.WithinM.refl _ _
    | with_reducible assumption
    | with_reducible refine State.each_within (fun _ _ => ?_) ?_
    | with_reducible apply State.WithinM.step (State.actSafe_within ..)
    | with_reducible apply State.WithinM.step (State.adcInvalidate_within ..)
    | with_reducible apply State.WithinM.step (State.adcStop_within ..)
    | with_reducible apply State.WithinM.step (State.cmpPage_within ..)
    | with_reducible apply State.WithinM.step (State.ctrSafe_within ..)
    | with_reducible apply State.WithinM.step (State.dcdcSafe_within ..)
    | with_reducible apply State.WithinM.step (State.engineStop_within ..)
    | with_reducible apply State.WithinM.step (State.gatesRefresh_within ..)
    | with_reducible apply State.WithinM.step (State.lampRefresh_within ..)
    | with_reducible apply State.WithinM.step (State.obcSafe_within ..)
    | with_reducible apply State.WithinM.step (State.pilotS2_within ..)
    | with_reducible apply State.WithinM.step (State.sdmInvalidate_within ..)
    | with_reducible apply State.WithinM.step (State.sourceCheck_within ..)
    | with_reducible apply State.WithinM.step (State.txAbort_within ..)
    | with_reducible apply State.WithinM.step (State.zIdle_within ..)
    | with_reducible refine State.WithinM.fst (by assumption) ?_
    | decide
    | split

theorem State.pageSafe_within (s : State) (p : Nat) : s.WithinM 133341088006 (State.pageSafe s p) := by
  unfold State.pageSafe
  repeat' first
    | with_reducible exact State.WithinM.refl _ _
    | with_reducible assumption
    | with_reducible refine State.WithinM.ite (fun _ => ?_) (fun _ => ?_)
    | with_reducible refine State.WithinM.iteFst (fun _ => ?_) (fun _ => ?_)
    | with_reducible apply State.WithinM.step (State.blockSafe_within ..)
    | with_reducible apply State.WithinM.step (State.setFlag_within ..)
    | with_reducible apply State.WithinM.step (State.setKey_within ..)
    | decide

theorem State.enablePage_within (s : State) (p : Nat) : s.WithinM 944283879426 (State.enablePage s p) := by
  unfold State.enablePage
  repeat' first
    | with_reducible exact State.WithinM.refl _ _
    | with_reducible assumption
    | with_reducible refine State.WithinM.ite (fun _ => ?_) (fun _ => ?_)
    | with_reducible refine State.WithinM.iteFst (fun _ => ?_) (fun _ => ?_)
    | with_reducible apply State.WithinM.step (State.blockStart_within ..)
    | with_reducible apply State.WithinM.step (State.setFlag_within ..)
    | decide

theorem State.disablePage_within (s : State) (p : Nat) : s.WithinM 408487430150 (State.disablePage s p) := by
  unfold State.disablePage
  repeat' first
    | with_reducible exact State.WithinM.refl _ _
    | with_reducible assumption
    | with_reducible refine State.WithinM.ite (fun _ => ?_) (fun _ => ?_)
    | with_reducible refine State.WithinM.iteFst (fun _ => ?_) (fun _ => ?_)
    | with_reducible apply State.WithinM.step (State.blockStop_within ..)
    | with_reducible apply State.WithinM.step (State.setFlag_within ..)
    | decide

theorem State.blockHidden_within (s : State) (p : Nat) : s.WithinM 1099494786050 (State.blockHidden s p) := by
  unfold State.blockHidden
  try dsimp only
  repeat' first
    | with_reducible exact State.WithinM.refl _ _
    | with_reducible assumption
    | with_reducible refine State.WithinM.ite (fun _ => ?_) (fun _ => ?_)
    | with_reducible refine State.WithinM.iteFst (fun _ => ?_) (fun _ => ?_)
    | with_reducible refine State.each_within (fun _ _ => ?_) ?_
    | with_reducible apply State.WithinM.step (State.adcInvalidate_within ..)
    | with_reducible apply State.WithinM.step (State.putAct_within ..)
    | with_reducible apply State.WithinM.step (State.putAdc_within ..)
    | with_reducible apply State.WithinM.step (State.putCap_within ..)
    | with_reducible apply State.WithinM.step (State.putCmp_within ..)
    | with_reducible apply State.WithinM.step (State.putCtx_within ..)
    | with_reducible apply State.WithinM.step (State.putEngine_within ..)
    | with_reducible apply State.WithinM.step (State.putGroup_within ..)
    | with_reducible apply State.WithinM.step (State.putHall_within ..)
    | with_reducible apply State.WithinM.step (State.putPwm_within ..)
    | with_reducible apply State.WithinM.step (State.putRing_within ..)
    | with_reducible apply State.WithinM.step (State.putSdm_within ..)
    | with_reducible apply State.WithinM.step (State.putTwl_within ..)
    | with_reducible apply State.WithinM.step (State.setCtr_within ..)
    | with_reducible apply State.WithinM.step (State.setDcdc_within ..)
    | with_reducible apply State.WithinM.step (State.setEncs_within ..)
    | with_reducible apply State.WithinM.step (State.setHvs_within ..)
    | with_reducible apply State.WithinM.step (State.setLamps_within ..)
    | with_reducible apply State.WithinM.step (State.setLvdrv_within ..)
    | with_reducible apply State.WithinM.step (State.setNet_within ..)
    | with_reducible apply State.WithinM.step (State.setObc_within ..)
    | with_reducible apply State.WithinM.step (State.setSensors_within ..)
    | with_reducible apply State.WithinM.step (State.setTwin_within ..)
    | with_reducible apply State.WithinM.step (State.setZcors_within ..)
    | with_reducible refine State.WithinM.fst (by assumption) ?_
    | decide
    | split

theorem State.softReset_within (s : State) (p : Nat) : s.WithinM 1099511598086 (State.softReset s p) := by
  unfold State.softReset
  try dsimp only
  repeat' first
    | with_reducible exact State.WithinM.refl _ _
    | with_reducible assumption
    | with_reducible apply State.WithinM.step (State.blockHidden_within ..)
    | with_reducible apply State.WithinM.step (State.blockStop_within ..)
    | with_reducible apply State.WithinM.step (State.clearRegs_within ..)
    | with_reducible apply State.WithinM.step (State.cmpPage_within ..)
    | with_reducible apply State.WithinM.step (State.crcTouch_within ..)
    | with_reducible apply State.WithinM.step (State.ctrOutputs_within ..)
    | with_reducible apply State.WithinM.step (State.gatesRefresh_within ..)
    | with_reducible apply State.WithinM.step (State.hkStatus_within ..)
    | with_reducible apply State.WithinM.step (State.hvsRefresh_within ..)
    | with_reducible apply State.WithinM.step (State.lampRefresh_within ..)
    | with_reducible apply State.WithinM.step (State.pilotRelimit_within ..)
    | with_reducible apply State.WithinM.step (State.pilotS2_within ..)
    | with_reducible apply State.WithinM.step (State.setFlag_within ..)
    | with_reducible apply State.WithinM.step (State.setReg_within ..)
    | with_reducible apply State.WithinM.step (State.sourceCheck_within ..)
    | with_reducible refine State.WithinM.fst (by assumption) ?_
    | decide
    | split

theorem State.domMemory_within (s : State) (d : Nat) : s.WithinM 4 (State.domMemory s d) := by
  unfold State.domMemory
  repeat' first
    | with_reducible exact State.WithinM.refl _ _
    | with_reducible assumption
    | with_reducible apply State.WithinM.step (State.clearMem_within ..)
    | with_reducible refine State.WithinM.fst (by assumption) ?_
    | decide
    | split

theorem State.domClear_within (s : State) (d : Nat) : s.WithinM 1099494786310 (State.domClear s d) := by
  unfold State.domClear
  try dsimp only
  repeat' first
    | with_reducible exact State.WithinM.refl _ _
    | with_reducible assumption
    | with_reducible refine State.WithinM.foldl _ (fun _ _ => ?_) ?_
    | with_reducible apply State.WithinM.step (State.blockHidden_within ..)
    | with_reducible apply State.WithinM.step (State.clearRegs_within ..)
    | with_reducible apply State.WithinM.step (State.domMemory_within ..)
    | with_reducible apply State.WithinM.step (State.putPage_within ..)
    | with_reducible apply State.WithinM.step (State.setSamples_within ..)
    | decide

theorem State.domIslands_within (s : State) (d : Nat) (up : Bool) : s.WithinM 16777218 (State.domIslands s d up) := by
  unfold State.domIslands
  try dsimp only
  repeat' first
    | with_reducible exact State.WithinM.refl _ _
    | with_reducible assumption
    | with_reducible refine State.WithinM.ite (fun _ => ?_) (fun _ => ?_)
    | with_reducible refine State.WithinM.iteFst (fun _ => ?_) (fun _ => ?_)
    | with_reducible refine State.each_within (fun _ _ => ?_) ?_
    | with_reducible apply State.WithinM.step (State.groupSupply_within ..)
    | decide

theorem State.domShow_within (s : State) (d : Nat) (b : Bool) : s.WithinM 2050 (State.domShow s d b) := by
  unfold State.domShow
  repeat' first
    | with_reducible exact State.WithinM.refl _ _
    | with_reducible assumption
    | with_reducible refine State.WithinM.ite (fun _ => ?_) (fun _ => ?_)
    | with_reducible refine State.WithinM.iteFst (fun _ => ?_) (fun _ => ?_)
    | with_reducible apply State.WithinM.step (State.raise_within ..)
    | with_reducible apply State.WithinM.step (State.setFlag_within ..)
    | decide

theorem State.domEffects_within (s : State) : s.WithinM 151259138 (State.domEffects s) := by
  unfold State.domEffects
  repeat' first
    | with_reducible exact State.WithinM.refl _ _
    | with_reducible assumption
    | with_reducible apply State.WithinM.step (State.gatesRefresh_within ..)
    | with_reducible apply State.WithinM.step (State.hvsRefresh_within ..)
    | with_reducible apply State.WithinM.step (State.tripAll_within ..)
    | decide

theorem State.domStop_within (s : State) (d : Nat) : s.WithinM 408487430150 (State.domStop s d) := by
  unfold State.domStop
  repeat' first
    | with_reducible exact State.WithinM.refl _ _
    | with_reducible assumption
    | with_reducible refine State.WithinM.foldl _ (fun _ _ => ?_) ?_
    | with_reducible apply State.WithinM.step (State.blockStop_within ..)
    | with_reducible apply State.WithinM.step (State.setFlag_within ..)
    | decide

theorem State.domainOff_within (s : State) (d : Nat) : s.WithinM 1099511598342 (State.domainOff s d) := by
  unfold State.domainOff
  try dsimp only
  repeat' first
    | with_reducible exact State.WithinM.refl _ _
    | with_reducible assumption
    | with_reducible refine State.WithinM.ite (fun _ => ?_) (fun _ => ?_)
    | with_reducible refine State.WithinM.iteFst (fun _ => ?_) (fun _ => ?_)
    | with_reducible apply State.WithinM.step (State.domClear_within ..)
    | with_reducible apply State.WithinM.step (State.domEffects_within ..)
    | with_reducible apply State.WithinM.step (State.domIslands_within ..)
    | with_reducible apply State.WithinM.step (State.domShow_within ..)
    | with_reducible apply State.WithinM.step (State.domStop_within ..)
    | with_reducible apply State.WithinM.step (State.setFlag_within ..)
    | with_reducible apply State.WithinM.step (State.setReg_within ..)
    | decide

theorem State.domainOn_within (s : State) (d : Nat) : s.WithinM 151259154 (State.domainOn s d) := by
  unfold State.domainOn
  try dsimp only
  repeat' first
    | with_reducible exact State.WithinM.refl _ _
    | with_reducible assumption
    | with_reducible refine State.WithinM.ite (fun _ => ?_) (fun _ => ?_)
    | with_reducible refine State.WithinM.iteFst (fun _ => ?_) (fun _ => ?_)
    | with_reducible refine State.WithinM.foldl _ (fun _ _ => ?_) ?_
    | with_reducible apply State.WithinM.step (State.crcTouch_within ..)
    | with_reducible apply State.WithinM.step (State.domEffects_within ..)
    | with_reducible apply State.WithinM.step (State.domIslands_within ..)
    | with_reducible apply State.WithinM.step (State.domShow_within ..)
    | with_reducible apply State.WithinM.step (State.setFlag_within ..)
    | with_reducible apply State.WithinM.step (State.setPwr_within ..)
    | with_reducible apply State.WithinM.step (State.setReg_within ..)
    | decide

end Sys2Proof.Machine
end

