-- ==== Sys2Proof/Laws/WithinPairOps.lean ====
section
/-! SUPPORT. Which kinds of state each operation of Machine/PairOps.lean can change. -/

namespace Sys2Proof.Machine

variable {m : Nat} {s t u : State}

theorem State.toX_within (s : State) (core : Nat) (rd : Fin 32) (v : Word) : s.WithinM 8192 (State.toX s core rd v) := by
  unfold State.toX
  repeat' first
    | with_reducible exact State.WithinM.refl _ _
    | with_reducible assumption
    | with_reducible apply State.WithinM.step (State.putCore_within ..)
    | decide

theorem State.copyCore_within (s : State) (n : Nat) : s.WithinM 8192 (State.copyCore s n) := by
  unfold State.copyCore
  try dsimp only
  repeat' first
    | with_reducible exact State.WithinM.refl _ _
    | with_reducible assumption
    | with_reducible apply State.WithinM.step (State.putCore_within ..)
    | decide

theorem State.stallPair_within (s : State) (n : Nat) (b : Bool) : s.WithinM 8192 (State.stallPair s n b) := by
  unfold State.stallPair
  try dsimp only
  repeat' first
    | with_reducible exact State.WithinM.refl _ _
    | with_reducible assumption
    | with_reducible apply State.WithinM.step (State.putCore_within ..)
    | decide

theorem State.setMode_within (s : State) (n m : Nat) : s.WithinM 2 (State.setMode s n m) := by
  unfold State.setMode
  repeat' first
    | with_reducible exact State.WithinM.refl _ _
    | with_reducible assumption
    | with_reducible apply State.WithinM.step (State.setFld_within ..)
    | decide

theorem State.pairLocked_within (s : State) (n : Nat) : s.WithinM 24578 (State.pairLocked s n) := by
  unfold State.pairLocked
  try dsimp only
  repeat' first
    | with_reducible exact State.WithinM.refl _ _
    | with_reducible assumption
    | with_reducible apply State.WithinM.step (State.putPair_within ..)
    | with_reducible apply State.WithinM.step (State.setFlag_within ..)
    | with_reducible apply State.WithinM.step (State.setMode_within ..)
    | with_reducible apply State.WithinM.step (State.setReg_within ..)
    | with_reducible apply State.WithinM.step (State.stallPair_within ..)
    | decide

theorem State.pairScope_within (s : State) (n : Nat) : s.WithinM 24580 (State.pairScope s n) := by
  unfold State.pairScope
  repeat' first
    | with_reducible exact State.WithinM.refl _ _
    | with_reducible assumption
    | with_reducible apply State.WithinM.step (State.domMemory_within ..)
    | with_reducible apply State.WithinM.step (State.putCore_within ..)
    | with_reducible apply State.WithinM.step (State.putPair_within ..)
    | decide

theorem State.pairReset_within (s : State) (n : Nat) (flt : Bool) : s.WithinM 133341116678 (State.pairReset s n flt) := by
  unfold State.pairReset
  try dsimp only
  repeat' first
    | with_reducible exact State.WithinM.refl _ _
    | with_reducible assumption
    | with_reducible refine State.each_within (fun _ _ => ?_) ?_
    | with_reducible refine State.when_within (fun _ => ?_) ?_
    | with_reducible apply State.WithinM.step (State.icxReset_within ..)
    | with_reducible apply State.WithinM.step (State.pageSafe_within ..)
    | with_reducible apply State.WithinM.step (State.pairScope_within ..)
    | with_reducible apply State.WithinM.step (State.putPair_within ..)
    | with_reducible apply State.WithinM.step (State.setFlag_within ..)
    | decide

theorem State.pairFault_within (s : State) (n cause : Nat) : s.WithinM 133341116678 (State.pairFault s n cause) := by
  unfold State.pairFault
  try dsimp only
  repeat' first
    | with_reducible exact State.WithinM.refl _ _
    | with_reducible assumption
    | with_reducible refine State.WithinM.ite (fun _ => ?_) (fun _ => ?_)
    | with_reducible refine State.WithinM.iteFst (fun _ => ?_) (fun _ => ?_)
    | with_reducible refine State.when_within (fun _ => ?_) ?_
    | with_reducible apply State.WithinM.step (State.fault_within ..)
    | with_reducible apply State.WithinM.step (State.pairReset_within ..)
    | with_reducible apply State.WithinM.step (State.putPair_within ..)
    | with_reducible apply State.WithinM.step (State.raise_within ..)
    | with_reducible apply State.WithinM.step (State.setReg_within ..)
    | decide

theorem State.pairRelease_within (s : State) (n : Nat) : s.WithinM 24582 (State.pairRelease s n) := by
  unfold State.pairRelease
  try dsimp only
  repeat' first
    | with_reducible exact State.WithinM.refl _ _
    | with_reducible assumption
    | with_reducible apply State.WithinM.step (State.pairLocked_within ..)
    | with_reducible apply State.WithinM.step (State.pairScope_within ..)
    | with_reducible apply State.WithinM.step (State.putPair_within ..)
    | with_reducible apply State.WithinM.step (State.setReg_within ..)
    | decide

theorem State.pairRestart_within (s : State) (n : Nat) : s.WithinM 24582 (State.pairRestart s n) := by
  unfold State.pairRestart
  repeat' first
    | with_reducible exact State.WithinM.refl _ _
    | with_reducible assumption
    | with_reducible refine State.WithinM.ite (fun _ => ?_) (fun _ => ?_)
    | with_reducible refine State.WithinM.iteFst (fun _ => ?_) (fun _ => ?_)
    | with_reducible apply State.WithinM.step (State.pairRelease_within ..)
    | decide

theorem State.pairUnlatch_within (s : State) (n : Nat) (w : Word) : s.WithinM 2 (State.pairUnlatch s n w) := by
  unfold State.pairUnlatch
  try dsimp only
  repeat' first
    | with_reducible exact State.WithinM.refl _ _
    | with_reducible assumption
    | with_reducible refine State.WithinM.ite (fun _ => ?_) (fun _ => ?_)
    | with_reducible refine State.WithinM.iteFst (fun _ => ?_) (fun _ => ?_)
    | with_reducible apply State.WithinM.step (State.setReg_within ..)
    | decide

theorem State.windowClose_within (s : State) (n : Nat) (main checker : List FoldItem) : s.WithinM 16386 (State.windowClose s n main checker) := by
  unfold State.windowClose
  repeat' first
    | with_reducible exact State.WithinM.refl _ _
    | with_reducible assumption
    | with_reducible refine State.WithinM.ite (fun _ => ?_) (fun _ => ?_)
    | with_reducible refine State.WithinM.iteFst (fun _ => ?_) (fun _ => ?_)
    | with_reducible apply State.WithinM.step (State.putPair_within ..)
    | with_reducible apply State.WithinM.step (State.setFlag_within ..)
    | decide

theorem State.realign_within (s : State) (n : Nat) : s.WithinM 26626 (State.realign s n) := by
  unfold State.realign
  try dsimp only
  repeat' first
    | with_reducible exact State.WithinM.refl _ _
    | with_reducible assumption
    | with_reducible apply State.WithinM.step (State.bump_within ..)
    | with_reducible apply State.WithinM.step (State.putPair_within ..)
    | with_reducible apply State.WithinM.step (State.raise_within ..)
    | with_reducible apply State.WithinM.step (State.stallPair_within ..)
    | decide

theorem State.mismatch_within (s : State) (n : Nat) (async : Bool) : s.WithinM 133341116678 (State.mismatch s n async) := by
  unfold State.mismatch
  try dsimp only
  repeat' first
    | with_reducible exact State.WithinM.refl _ _
    | with_reducible assumption
    | with_reducible refine State.WithinM.ite (fun _ => ?_) (fun _ => ?_)
    | with_reducible refine State.WithinM.iteFst (fun _ => ?_) (fun _ => ?_)
    | with_reducible apply State.WithinM.step (State.pairFault_within ..)
    | with_reducible apply State.WithinM.step (State.putPair_within ..)
    | with_reducible apply State.WithinM.step (State.raise_within ..)
    | with_reducible apply State.WithinM.step (State.realign_within ..)
    | with_reducible apply State.WithinM.step (State.setFlag_within ..)
    | decide

theorem State.splitDone_within (s : State) (n : Nat) : s.WithinM 26626 (State.splitDone s n) := by
  unfold State.splitDone
  try dsimp only
  repeat' first
    | with_reducible exact State.WithinM.refl _ _
    | with_reducible assumption
    | with_reducible apply State.WithinM.step (State.putCore_within ..)
    | with_reducible apply State.WithinM.step (State.putPair_within ..)
    | with_reducible apply State.WithinM.step (State.raise_within ..)
    | with_reducible apply State.WithinM.step (State.setMode_within ..)
    | decide

theorem State.verdict_within (s : State) (n : Nat) (selfTestOk : Bool) : s.WithinM 133341116678 (State.verdict s n selfTestOk) := by
  unfold State.verdict
  try dsimp only
  repeat' first
    | with_reducible exact State.WithinM.refl _ _
    | with_reducible assumption
    | with_reducible refine State.WithinM.ite (fun _ => ?_) (fun _ => ?_)
    | with_reducible refine State.WithinM.iteFst (fun _ => ?_) (fun _ => ?_)
    | with_reducible refine State.when_within (fun _ => ?_) ?_
    | with_reducible apply State.WithinM.step (State.mismatch_within ..)
    | with_reducible apply State.WithinM.step (State.pairFault_within ..)
    | with_reducible apply State.WithinM.step (State.putPair_within ..)
    | with_reducible apply State.WithinM.step (State.setReg_within ..)
    | with_reducible apply State.WithinM.step (State.splitDone_within ..)
    | with_reducible refine State.WithinM.fst (by assumption) ?_
    | decide
    | split

theorem State.realigned_within (s : State) (n : Nat) : s.WithinM 24578 (State.realigned s n) := by
  unfold State.realigned
  try dsimp only
  repeat' first
    | with_reducible exact State.WithinM.refl _ _
    | with_reducible assumption
    | with_reducible refine State.WithinM.ite (fun _ => ?_) (fun _ => ?_)
    | with_reducible refine State.WithinM.iteFst (fun _ => ?_) (fun _ => ?_)
    | with_reducible apply State.WithinM.step (State.copyCore_within ..)
    | with_reducible apply State.WithinM.step (State.putPair_within ..)
    | with_reducible apply State.WithinM.step (State.setFlag_within ..)
    | with_reducible apply State.WithinM.step (State.stallPair_within ..)
    | decide

theorem State.delayFault_within (s : State) (n : Nat) : s.WithinM 133341116678 (State.delayFault s n) := by
  unfold State.delayFault
  repeat' first
    | with_reducible exact State.WithinM.refl _ _
    | with_reducible assumption
    | with_reducible refine State.WithinM.ite (fun _ => ?_) (fun _ => ?_)
    | with_reducible refine State.WithinM.iteFst (fun _ => ?_) (fun _ => ?_)
    | with_reducible apply State.WithinM.step (State.pairFault_within ..)
    | decide

theorem State.asyncRead_within (s : State) (n : Nat) : s.WithinM 2 (State.asyncRead s n) := by
  unfold State.asyncRead
  repeat' first
    | with_reducible exact State.WithinM.refl _ _
    | with_reducible assumption
    | with_reducible refine State.WithinM.ite (fun _ => ?_) (fun _ => ?_)
    | with_reducible refine State.WithinM.iteFst (fun _ => ?_) (fun _ => ?_)
    | with_reducible apply State.WithinM.step (State.setFlag_within ..)
    | decide

theorem State.axfinRead_within (s : State) (c : Nat) (rd : Fin 32) : s.WithinM 8194 (State.axfinRead s c rd) := by
  unfold State.axfinRead
  repeat' first
    | with_reducible exact State.WithinM.refl _ _
    | with_reducible assumption
    | with_reducible refine State.WithinM.ite (fun _ => ?_) (fun _ => ?_)
    | with_reducible refine State.WithinM.iteFst (fun _ => ?_) (fun _ => ?_)
    | with_reducible apply State.WithinM.step (State.asyncRead_within ..)
    | with_reducible apply State.WithinM.step (State.toX_within ..)
    | decide

theorem State.devWake_within (s : State) (c k : Nat) : s.WithinM 2 (State.devWake s c k) := by
  unfold State.devWake
  repeat' first
    | with_reducible exact State.WithinM.refl _ _
    | with_reducible assumption
    | with_reducible refine State.WithinM.ite (fun _ => ?_) (fun _ => ?_)
    | with_reducible refine State.WithinM.iteFst (fun _ => ?_) (fun _ => ?_)
    | with_reducible apply State.WithinM.step (State.asyncRead_within ..)
    | decide

theorem State.syncReq_within (s : State) (n c : Nat) : s.WithinM 24578 (State.syncReq s n c) := by
  unfold State.syncReq
  try dsimp only
  repeat' first
    | with_reducible exact State.WithinM.refl _ _
    | with_reducible assumption
    | with_reducible refine State.WithinM.ite (fun _ => ?_) (fun _ => ?_)
    | with_reducible refine State.WithinM.iteFst (fun _ => ?_) (fun _ => ?_)
    | with_reducible apply State.WithinM.step (State.putCore_within ..)
    | with_reducible apply State.WithinM.step (State.putPair_within ..)
    | with_reducible apply State.WithinM.step (State.setFlag_within ..)
    | with_reducible refine State.WithinM.fst (by assumption) ?_
    | decide
    | split

theorem State.syncTimeout_within (s : State) (n : Nat) : s.WithinM 26626 (State.syncTimeout s n) := by
  unfold State.syncTimeout
  try dsimp only
  repeat' first
    | with_reducible exact State.WithinM.refl _ _
    | with_reducible assumption
    | with_reducible refine State.WithinM.ite (fun _ => ?_) (fun _ => ?_)
    | with_reducible refine State.WithinM.iteFst (fun _ => ?_) (fun _ => ?_)
    | with_reducible apply State.WithinM.step (State.putCore_within ..)
    | with_reducible apply State.WithinM.step (State.putPair_within ..)
    | with_reducible apply State.WithinM.step (State.raise_within ..)
    | with_reducible apply State.WithinM.step (State.setFlag_within ..)
    | with_reducible refine State.WithinM.fst (by assumption) ?_
    | decide
    | split

theorem State.lockDone_within (s : State) (n : Nat) : s.WithinM 26626 (State.lockDone s n) := by
  unfold State.lockDone
  repeat' first
    | with_reducible exact State.WithinM.refl _ _
    | with_reducible assumption
    | with_reducible refine State.WithinM.ite (fun _ => ?_) (fun _ => ?_)
    | with_reducible refine State.WithinM.iteFst (fun _ => ?_) (fun _ => ?_)
    | with_reducible apply State.WithinM.step (State.copyCore_within ..)
    | with_reducible apply State.WithinM.step (State.pairLocked_within ..)
    | with_reducible apply State.WithinM.step (State.raise_within ..)
    | decide

theorem State.splitReq_within (s : State) (n c : Nat) : s.WithinM 26626 (State.splitReq s n c) := by
  unfold State.splitReq
  repeat' first
    | with_reducible exact State.WithinM.refl _ _
    | with_reducible assumption
    | with_reducible refine State.WithinM.ite (fun _ => ?_) (fun _ => ?_)
    | with_reducible refine State.WithinM.iteFst (fun _ => ?_) (fun _ => ?_)
    | with_reducible apply State.WithinM.step (State.putCore_within ..)
    | with_reducible apply State.WithinM.step (State.putPair_within ..)
    | with_reducible apply State.WithinM.step (State.raise_within ..)
    | with_reducible apply State.WithinM.step (State.setFlag_within ..)
    | decide

theorem State.debugHalt_within (s : State) (n : Nat) : s.WithinM 2 (State.debugHalt s n) := by
  unfold State.debugHalt
  repeat' first
    | with_reducible exact State.WithinM.refl _ _
    | with_reducible assumption
    | with_reducible refine State.WithinM.ite (fun _ => ?_) (fun _ => ?_)
    | with_reducible refine State.WithinM.iteFst (fun _ => ?_) (fun _ => ?_)
    | with_reducible apply State.WithinM.step (State.setFlag_within ..)
    | decide

theorem State.debugWrite_within (s : State) (n : Nat) (r : CoreReg) (v : Word) : s.WithinM 26626 (State.debugWrite s n r v) := by
  unfold State.debugWrite
  try dsimp only
  repeat' first
    | with_reducible exact State.WithinM.refl _ _
    | with_reducible assumption
    | with_reducible refine State.WithinM.ite (fun _ => ?_) (fun _ => ?_)
    | with_reducible refine State.WithinM.iteFst (fun _ => ?_) (fun _ => ?_)
    | with_reducible apply State.WithinM.step (State.putCore_within ..)
    | with_reducible apply State.WithinM.step (State.putPair_within ..)
    | with_reducible apply State.WithinM.step (State.raise_within ..)
    | with_reducible apply State.WithinM.step (State.setFld_within ..)
    | with_reducible apply State.WithinM.step (State.setMode_within ..)
    | decide

theorem State.debugResume_within (s : State) (n : Nat) : s.WithinM 26626 (State.debugResume s n) := by
  unfold State.debugResume
  try dsimp only
  repeat' first
    | with_reducible exact State.WithinM.refl _ _
    | with_reducible assumption
    | with_reducible refine State.WithinM.ite (fun _ => ?_) (fun _ => ?_)
    | with_reducible refine State.WithinM.iteFst (fun _ => ?_) (fun _ => ?_)
    | with_reducible refine State.WithinM.foldl _ (fun _ _ => ?_) ?_
    | with_reducible apply State.WithinM.step (State.copyCore_within ..)
    | with_reducible apply State.WithinM.step (State.pairLocked_within ..)
    | with_reducible apply State.WithinM.step (State.putCore_within ..)
    | with_reducible apply State.WithinM.step (State.putPair_within ..)
    | with_reducible apply State.WithinM.step (State.raise_within ..)
    | with_reducible apply State.WithinM.step (State.setFlag_within ..)
    | with_reducible apply State.WithinM.step (State.setFld_within ..)
    | decide

end Sys2Proof.Machine
end

