-- ==== Sys2Proof/Laws/WithinGmsOps.lean ====
section
/-! SUPPORT. Which kinds of state each operation of Machine/GmsOps.lean can change. -/

namespace Sys2Proof.Machine

variable {m : Nat} {s t u : State}

theorem State.mramWrote_within (s : State) : s.WithinM 16 (State.mramWrote s) := by
  unfold State.mramWrote
  repeat' first
    | with_reducible exact State.WithinM.refl _ _
    | with_reducible assumption
    | with_reducible apply State.WithinM.step (State.setPwr_within ..)
    | decide

theorem State.writeBank_within (s : State) (magic : Word) (b0 b1 size : Nat) (body : List Byte) : s.WithinM 20 (State.writeBank s magic b0 b1 size body) := by
  unfold State.writeBank
  try dsimp only
  repeat' first
    | with_reducible exact State.WithinM.refl _ _
    | with_reducible assumption
    | with_reducible apply State.WithinM.step (State.clearMem_within ..)
    | with_reducible apply State.WithinM.step (State.mramWrote_within ..)
    | with_reducible apply State.WithinM.step (State.putBytes_within ..)
    | decide

theorem State.spoilBank_within (s : State) (magic : Word) (b0 b1 size : Nat) : s.WithinM 20 (State.spoilBank s magic b0 b1 size) := by
  unfold State.spoilBank
  repeat' first
    | with_reducible exact State.WithinM.refl _ _
    | with_reducible assumption
    | with_reducible apply State.WithinM.step (State.clearMem_within ..)
    | with_reducible apply State.WithinM.step (State.mramWrote_within ..)
    | decide

theorem State.meterWrite_within (s : State) : s.WithinM 84 (State.meterWrite s) := by
  unfold State.meterWrite
  try dsimp only
  repeat' first
    | with_reducible exact State.WithinM.refl _ _
    | with_reducible assumption
    | with_reducible apply State.WithinM.step (State.setKept_within ..)
    | with_reducible apply State.WithinM.step (State.writeBank_within ..)
    | decide

theorem State.commitStart_within (s : State) : s.WithinM 130 (State.commitStart s) := by
  unfold State.commitStart
  repeat' first
    | with_reducible exact State.WithinM.refl _ _
    | with_reducible assumption
    | with_reducible refine State.WithinM.ite (fun _ => ?_) (fun _ => ?_)
    | with_reducible refine State.WithinM.iteFst (fun _ => ?_) (fun _ => ?_)
    | with_reducible apply State.WithinM.step (State.setFlag_within ..)
    | with_reducible apply State.WithinM.step (State.setGms_within ..)
    | decide

theorem State.commitWritten_within (s : State) : s.WithinM 2262 (State.commitWritten s) := by
  unfold State.commitWritten
  try dsimp only
  repeat' first
    | with_reducible exact State.WithinM.refl _ _
    | with_reducible assumption
    | with_reducible refine State.WithinM.ite (fun _ => ?_) (fun _ => ?_)
    | with_reducible refine State.WithinM.iteFst (fun _ => ?_) (fun _ => ?_)
    | with_reducible apply State.WithinM.step (State.commitStart_within ..)
    | with_reducible apply State.WithinM.step (State.meterWrite_within ..)
    | with_reducible apply State.WithinM.step (State.raise_within ..)
    | with_reducible apply State.WithinM.step (State.setFlag_within ..)
    | with_reducible apply State.WithinM.step (State.setGms_within ..)
    | with_reducible apply State.WithinM.step (State.setKept_within ..)
    | with_reducible apply State.WithinM.step (State.setReg_within ..)
    | with_reducible apply State.WithinM.step (State.writeBank_within ..)
    | decide

theorem State.logStart_within (s : State) : s.WithinM 130 (State.logStart s) := by
  unfold State.logStart
  try dsimp only
  repeat' first
    | with_reducible exact State.WithinM.refl _ _
    | with_reducible assumption
    | with_reducible apply State.WithinM.step (State.logKind_within ..)
    | with_reducible apply State.WithinM.step (State.setBb_within ..)
    | decide

theorem State.setLevel_within (s : State) (lvl chan : Nat) : s.WithinM 2178 (State.setLevel s lvl chan) := by
  unfold State.setLevel
  repeat' first
    | with_reducible exact State.WithinM.refl _ _
    | with_reducible assumption
    | with_reducible refine State.WithinM.ite (fun _ => ?_) (fun _ => ?_)
    | with_reducible refine State.WithinM.iteFst (fun _ => ?_) (fun _ => ?_)
    | with_reducible apply State.WithinM.step (State.logKind_within ..)
    | with_reducible apply State.WithinM.step (State.raise_within ..)
    | with_reducible apply State.WithinM.step (State.setFld_within ..)
    | decide

theorem State.accessFailed_within (s : State) : s.WithinM 66 (State.accessFailed s) := by
  unfold State.accessFailed
  try dsimp only
  repeat' first
    | with_reducible exact State.WithinM.refl _ _
    | with_reducible assumption
    | with_reducible apply State.WithinM.step (State.setKept_within ..)
    | with_reducible apply State.WithinM.step (State.setReg_within ..)
    | decide

theorem State.accessOpened_within (s : State) (lvl chan : Nat) : s.WithinM 2242 (State.accessOpened s lvl chan) := by
  unfold State.accessOpened
  repeat' first
    | with_reducible exact State.WithinM.refl _ _
    | with_reducible assumption
    | with_reducible apply State.WithinM.step (State.setKept_within ..)
    | with_reducible apply State.WithinM.step (State.setLevel_within ..)
    | with_reducible apply State.WithinM.step (State.setReg_within ..)
    | decide

theorem State.fcClose_within (s : State) (g : Segment) : s.WithinM 132 (State.fcClose s g) := by
  unfold State.fcClose
  try dsimp only
  repeat' first
    | with_reducible exact State.WithinM.refl _ _
    | with_reducible assumption
    | with_reducible apply State.WithinM.step (State.putWord_within ..)
    | with_reducible apply State.WithinM.step (State.setGms_within ..)
    | decide

theorem State.putFcOpen_within (s : State) (k : Nat) (o : OpenSeg) : s.WithinM 128 (State.putFcOpen s k o) := by
  unfold State.putFcOpen
  repeat' first
    | with_reducible exact State.WithinM.refl _ _
    | with_reducible assumption
    | with_reducible apply State.WithinM.step (State.setGms_within ..)
    | decide

theorem State.fcFlush_within (s : State) (k : Nat) : s.WithinM 132 (State.fcFlush s k) := by
  unfold State.fcFlush
  repeat' first
    | with_reducible exact State.WithinM.refl _ _
    | with_reducible assumption
    | with_reducible apply State.WithinM.step (State.fcClose_within ..)
    | with_reducible refine State.WithinM.fst (by assumption) ?_
    | decide
    | split

theorem State.fcSample_within (s : State) (k : Nat) (x : Option Int) : s.WithinM 132 (State.fcSample s k x) := by
  unfold State.fcSample
  try dsimp only
  repeat' first
    | with_reducible exact State.WithinM.refl _ _
    | with_reducible assumption
    | with_reducible refine State.WithinM.ite (fun _ => ?_) (fun _ => ?_)
    | with_reducible refine State.WithinM.iteFst (fun _ => ?_) (fun _ => ?_)
    | with_reducible apply State.WithinM.step (State.fcClose_within ..)
    | with_reducible apply State.WithinM.step (State.fcFlush_within ..)
    | with_reducible apply State.WithinM.step (State.putFcOpen_within ..)
    | with_reducible refine State.WithinM.fst (by assumption) ?_
    | decide
    | split

theorem State.fcTick_within (s : State) : s.WithinM 132 (State.fcTick s) := by
  unfold State.fcTick
  try dsimp only
  repeat' first
    | with_reducible exact State.WithinM.refl _ _
    | with_reducible assumption
    | with_reducible refine State.WithinM.ite (fun _ => ?_) (fun _ => ?_)
    | with_reducible refine State.WithinM.iteFst (fun _ => ?_) (fun _ => ?_)
    | with_reducible refine State.each_within (fun _ _ => ?_) ?_
    | with_reducible apply State.WithinM.step (State.fcSample_within ..)
    | with_reducible apply State.WithinM.step (State.setGms_within ..)
    | decide

theorem State.fcFreeze_within (s : State) : s.WithinM 2182 (State.fcFreeze s) := by
  unfold State.fcFreeze
  try dsimp only
  repeat' first
    | with_reducible exact State.WithinM.refl _ _
    | with_reducible assumption
    | with_reducible refine State.WithinM.ite (fun _ => ?_) (fun _ => ?_)
    | with_reducible refine State.WithinM.iteFst (fun _ => ?_) (fun _ => ?_)
    | with_reducible refine State.each_within (fun _ _ => ?_) ?_
    | with_reducible apply State.WithinM.step (State.commitStart_within ..)
    | with_reducible apply State.WithinM.step (State.fcFlush_within ..)
    | with_reducible apply State.WithinM.step (State.raise_within ..)
    | with_reducible apply State.WithinM.step (State.setFlag_within ..)
    | with_reducible apply State.WithinM.step (State.setGms_within ..)
    | decide

theorem State.fcArm_within (s : State) (on : Bool) : s.WithinM 130 (State.fcArm s on) := by
  unfold State.fcArm
  try dsimp only
  repeat' first
    | with_reducible exact State.WithinM.refl _ _
    | with_reducible assumption
    | with_reducible apply State.WithinM.step (State.setFlag_within ..)
    | with_reducible apply State.WithinM.step (State.setGms_within ..)
    | decide

theorem State.meterSample_within (s : State) : s.WithinM 128 (State.meterSample s) := by
  unfold State.meterSample
  try dsimp only
  repeat' first
    | with_reducible exact State.WithinM.refl _ _
    | with_reducible assumption
    | with_reducible refine State.WithinM.ite (fun _ => ?_) (fun _ => ?_)
    | with_reducible refine State.WithinM.iteFst (fun _ => ?_) (fun _ => ?_)
    | with_reducible apply State.WithinM.step (State.setGms_within ..)
    | with_reducible refine State.WithinM.fst (by assumption) ?_
    | decide
    | split

theorem State.histogram_within (s : State) : s.WithinM 128 (State.histogram s) := by
  unfold State.histogram
  try dsimp only
  repeat' first
    | with_reducible exact State.WithinM.refl _ _
    | with_reducible assumption
    | with_reducible refine State.WithinM.ite (fun _ => ?_) (fun _ => ?_)
    | with_reducible refine State.WithinM.iteFst (fun _ => ?_) (fun _ => ?_)
    | with_reducible refine State.WithinM.foldl _ (fun _ _ => ?_) ?_
    | with_reducible apply State.WithinM.step (State.setGms_within ..)
    | with_reducible refine State.WithinM.fst (by assumption) ?_
    | decide

theorem State.mbxWrite_within (s : State) (pair result : Nat) (resp : List Byte) : s.WithinM 4 (State.mbxWrite s pair result resp) := by
  unfold State.mbxWrite
  repeat' first
    | with_reducible exact State.WithinM.refl _ _
    | with_reducible assumption
    | with_reducible apply State.WithinM.step (State.putWord_within ..)
    | with_reducible apply State.WithinM.step (State.putBytes_within ..)
    | decide

theorem State.mbxDone_within (s : State) (pair result : Nat) (resp : List Byte) : s.WithinM 2182 (State.mbxDone s pair result resp) := by
  unfold State.mbxDone
  try dsimp only
  repeat' first
    | with_reducible exact State.WithinM.refl _ _
    | with_reducible assumption
    | with_reducible apply State.WithinM.step (State.mbxWrite_within ..)
    | with_reducible apply State.WithinM.step (State.raise_within ..)
    | with_reducible apply State.WithinM.step (State.setGms_within ..)
    | decide

theorem State.mbxAdvance_within (n : Nat) (s : State) : s.WithinM 2182 (State.mbxAdvance n s) := by
  induction n generalizing s with
  | zero => exact State.WithinM.refl _ _
  | succ n ih =>
    rw [State.mbxAdvance]
    split
    · refine State.WithinM.ite (fun _ => State.WithinM.refl _ _) (fun _ => ?_)
      exact (ih _).step (by decide) (s.mbxDone_within ..)
    · exact State.WithinM.refl _ _

theorem State.doorbell_within (s : State) (pair : Nat) (seq : Byte) : s.WithinM 2182 (State.doorbell s pair seq) := by
  unfold State.doorbell
  try dsimp only
  repeat' first
    | with_reducible exact State.WithinM.refl _ _
    | with_reducible assumption
    | with_reducible refine State.WithinM.ite (fun _ => ?_) (fun _ => ?_)
    | with_reducible refine State.WithinM.iteFst (fun _ => ?_) (fun _ => ?_)
    | with_reducible apply State.WithinM.step (State.mbxDone_within ..)
    | with_reducible apply State.WithinM.step (State.putByte_within ..)
    | with_reducible apply State.WithinM.step (State.putWord_within ..)
    | with_reducible apply State.WithinM.step (State.setFlag_within ..)
    | with_reducible apply State.WithinM.step (State.setGms_within ..)
    | with_reducible apply State.WithinM.step (State.mbxAdvance_within ..)
    | decide

theorem State.Answer.ok_within (s : State) (resp : List Byte) : s.WithinM 0 (Answer.ok s resp).1 := by
  unfold Answer.ok
  try dsimp only
  repeat' first
    | with_reducible exact State.WithinM.refl _ _

theorem State.Answer.refused_within (s : State) (reason : Nat) : s.WithinM 0 (Answer.refused s reason).1 := by
  unfold Answer.refused
  try dsimp only
  repeat' first
    | with_reducible exact State.WithinM.refl _ _

theorem State.Answer.badArg_within (s : State) : s.WithinM 0 (Answer.badArg s).1 := by
  unfold Answer.badArg
  try dsimp only
  repeat' first
    | with_reducible exact State.WithinM.refl _ _

theorem State.mbxRun_within {f : State → Answer} {pair code lvl : Nat} (hm : 2182 &&& m = 2182) (h : ∀ t, State.WithinM m t (f t).1) :
    State.WithinM m s (s.mbxRun pair code lvl f) := by
  unfold State.mbxRun
  refine State.WithinM.ite (fun _ => ?_) (fun _ => State.WithinM.refl _ _)
  refine (State.mbxAdvance_within _ _).step hm ((State.mbxDone_within ..).step hm ?_)
  refine State.WithinM.iteFst (fun _ => State.WithinM.refl _ _) (fun _ => ?_)
  exact State.WithinM.iteFst (fun _ => State.WithinM.refl _ _) (fun _ => h s)

theorem State.gmsDown_within (s : State) : s.WithinM 6294 (State.gmsDown s) := by
  unfold State.gmsDown
  try dsimp only
  repeat' first
    | with_reducible exact State.WithinM.refl _ _
    | with_reducible assumption
    | with_reducible refine State.WithinM.ite (fun _ => ?_) (fun _ => ?_)
    | with_reducible refine State.WithinM.iteFst (fun _ => ?_) (fun _ => ?_)
    | with_reducible refine State.WithinM.foldl _ (fun _ _ => ?_) ?_
    | with_reducible apply State.WithinM.step (State.icxReset_within ..)
    | with_reducible apply State.WithinM.step (State.mbxDone_within ..)
    | with_reducible apply State.WithinM.step (State.setFlag_within ..)
    | with_reducible apply State.WithinM.step (State.setFld_within ..)
    | with_reducible apply State.WithinM.step (State.setGms_within ..)
    | with_reducible apply State.WithinM.step (State.spoilBank_within ..)
    | decide

theorem State.gmsBack_within (s : State) : s.WithinM 130 (State.gmsBack s) := by
  unfold State.gmsBack
  try dsimp only
  repeat' first
    | with_reducible exact State.WithinM.refl _ _
    | with_reducible assumption
    | with_reducible refine State.WithinM.ite (fun _ => ?_) (fun _ => ?_)
    | with_reducible refine State.WithinM.iteFst (fun _ => ?_) (fun _ => ?_)
    | with_reducible apply State.WithinM.step (State.commitStart_within ..)
    | with_reducible apply State.WithinM.step (State.setGms_within ..)
    | decide

end Sys2Proof.Machine
end

