-- ==== Sys2Proof/Laws/WithinPowerOps.lean ====
section
/-! SUPPORT. Which kinds of state each operation of Machine/PowerOps.lean can change. -/

namespace Sys2Proof.Machine

variable {m : Nat} {s t u : State}

theorem State.resetImage_within (s : State) (ph : Phase) (keepB : Bool) : s.WithinM 1099511627766 (s.resetImage ph keepB) := by
  refine ⟨fun p hp => ?_⟩; cases p <;> first | rfl | exact absurd hp (by decide)

theorem State.setPhaseOf_within (s : State) (p : Phase) : s.WithinM 16 (State.setPhaseOf s p) := by
  unfold State.setPhaseOf
  repeat' first
    | with_reducible exact State.WithinM.refl _ _
    | with_reducible assumption
    | with_reducible apply State.WithinM.step (State.setPwr_within ..)
    | decide

theorem State.setStage_within (s : State) (n : Nat) : s.WithinM 2 (State.setStage s n) := by
  unfold State.setStage
  repeat' first
    | with_reducible exact State.WithinM.refl _ _
    | with_reducible assumption
    | with_reducible apply State.WithinM.step (State.setFld_within ..)
    | decide

theorem State.readyForPrecharge_within (s : State) : s.WithinM 2050 (State.readyForPrecharge s) := by
  unfold State.readyForPrecharge
  repeat' first
    | with_reducible exact State.WithinM.refl _ _
    | with_reducible assumption
    | with_reducible apply State.WithinM.step (State.raise_within ..)
    | with_reducible apply State.WithinM.step (State.setFlag_within ..)
    | with_reducible apply State.WithinM.step (State.setStage_within ..)
    | decide

theorem State.bootAdvance_within (s : State) : s.WithinM 2050 (State.bootAdvance s) := by
  unfold State.bootAdvance
  try dsimp only
  repeat' first
    | with_reducible exact State.WithinM.refl _ _
    | with_reducible assumption
    | with_reducible refine State.WithinM.ite (fun _ => ?_) (fun _ => ?_)
    | with_reducible refine State.WithinM.iteFst (fun _ => ?_) (fun _ => ?_)
    | with_reducible refine State.when_within (fun _ => ?_) ?_
    | with_reducible apply State.WithinM.step (State.readyForPrecharge_within ..)
    | with_reducible apply State.WithinM.step (State.setStage_within ..)
    | decide

theorem State.pdAccept_within (s : State) (on off : List Nat) : s.WithinM 1099511598358 (State.pdAccept s on off) := by
  unfold State.pdAccept
  try dsimp only
  repeat' first
    | with_reducible exact State.WithinM.refl _ _
    | with_reducible assumption
    | with_reducible refine State.each_within (fun _ _ => ?_) ?_
    | with_reducible apply State.WithinM.step (State.bootAdvance_within ..)
    | with_reducible apply State.WithinM.step (State.domainOff_within ..)
    | with_reducible apply State.WithinM.step (State.setPwr_within ..)
    | with_reducible apply State.WithinM.step (State.setReg_within ..)
    | decide

theorem State.pdRequest_within (s : State) (pair : Nat) : s.WithinM 1099511598358 (State.pdRequest s pair).1 := by
  unfold State.pdRequest
  try dsimp only
  repeat' first
    | with_reducible exact State.WithinM.refl _ _
    | with_reducible assumption
    | with_reducible refine State.WithinM.ite (fun _ => ?_) (fun _ => ?_)
    | with_reducible refine State.WithinM.iteFst (fun _ => ?_) (fun _ => ?_)
    | with_reducible apply State.WithinM.step (State.Answer.badArg_within ..)
    | with_reducible apply State.WithinM.step (State.Answer.ok_within ..)
    | with_reducible apply State.WithinM.step (State.Answer.refused_within ..)
    | with_reducible apply State.WithinM.step (State.pdAccept_within ..)
    | decide

theorem State.domainPowered_within (s : State) (d : Nat) : s.WithinM 184813586 (State.domainPowered s d) := by
  unfold State.domainPowered
  try dsimp only
  repeat' first
    | with_reducible exact State.WithinM.refl _ _
    | with_reducible assumption
    | with_reducible refine State.WithinM.ite (fun _ => ?_) (fun _ => ?_)
    | with_reducible refine State.WithinM.iteFst (fun _ => ?_) (fun _ => ?_)
    | with_reducible refine State.each_within (fun _ _ => ?_) ?_
    | with_reducible apply State.WithinM.step (State.bootAdvance_within ..)
    | with_reducible apply State.WithinM.step (State.domainOn_within ..)
    | with_reducible apply State.WithinM.step (State.selfTestStart_within ..)
    | decide

theorem State.setVs_within (s : State) (vs : Nat) : s.WithinM 34 (State.setVs s vs) := by
  unfold State.setVs
  repeat' first
    | with_reducible exact State.WithinM.refl _ _
    | with_reducible assumption
    | with_reducible apply State.WithinM.step (State.setFlag_within ..)
    | with_reducible apply State.WithinM.step (State.setFld_within ..)
    | with_reducible apply State.WithinM.step (State.setPins_within ..)
    | decide

theorem State.vsWarning_within (s : State) (vs : Nat) : s.WithinM 2226 (State.vsWarning s vs) := by
  unfold State.vsWarning
  try dsimp only
  repeat' first
    | with_reducible exact State.WithinM.refl _ _
    | with_reducible assumption
    | with_reducible refine State.WithinM.ite (fun _ => ?_) (fun _ => ?_)
    | with_reducible refine State.WithinM.iteFst (fun _ => ?_) (fun _ => ?_)
    | with_reducible apply State.WithinM.step (State.commitStart_within ..)
    | with_reducible apply State.WithinM.step (State.raise_within ..)
    | with_reducible apply State.WithinM.step (State.setFlag_within ..)
    | with_reducible apply State.WithinM.step (State.setPwr_within ..)
    | with_reducible apply State.WithinM.step (State.setVs_within ..)
    | decide

theorem State.vsResume_within (s : State) (vs lowest : Nat) : s.WithinM 2226 (State.vsResume s vs lowest) := by
  unfold State.vsResume
  try dsimp only
  repeat' first
    | with_reducible exact State.WithinM.refl _ _
    | with_reducible assumption
    | with_reducible refine State.WithinM.ite (fun _ => ?_) (fun _ => ?_)
    | with_reducible refine State.WithinM.iteFst (fun _ => ?_) (fun _ => ?_)
    | with_reducible apply State.WithinM.step (State.logKind_within ..)
    | with_reducible apply State.WithinM.step (State.raise_within ..)
    | with_reducible apply State.WithinM.step (State.setBb_within ..)
    | with_reducible apply State.WithinM.step (State.setFlag_within ..)
    | with_reducible apply State.WithinM.step (State.setPwr_within ..)
    | with_reducible apply State.WithinM.step (State.setVs_within ..)
    | with_reducible refine State.WithinM.fst (by assumption) ?_
    | decide

theorem State.vsOvervoltage_within (s : State) (vs : Nat) : s.WithinM 2082 (State.vsOvervoltage s vs) := by
  unfold State.vsOvervoltage
  repeat' first
    | with_reducible exact State.WithinM.refl _ _
    | with_reducible assumption
    | with_reducible refine State.when_within (fun _ => ?_) ?_
    | with_reducible apply State.WithinM.step (State.raise_within ..)
    | with_reducible apply State.WithinM.step (State.setVs_within ..)
    | decide

theorem State.shroudAll_within (s : State) (cause : Nat) : s.WithinM 13077874690 (State.shroudAll s cause) := by
  unfold State.shroudAll
  repeat' first
    | with_reducible exact State.WithinM.refl _ _
    | with_reducible assumption
    | with_reducible refine State.each_within (fun _ _ => ?_) ?_
    | with_reducible apply State.WithinM.step (State.forceSf1_within ..)
    | with_reducible apply State.WithinM.step (State.reselect_within ..)
    | decide

theorem State.trimStopAll_within (s : State) : s.WithinM 229378 (State.trimStopAll s) := by
  unfold State.trimStopAll
  repeat' first
    | with_reducible exact State.WithinM.refl _ _
    | with_reducible assumption
    | with_reducible refine State.each_within (fun _ _ => ?_) ?_
    | with_reducible apply State.WithinM.step (State.engineStop_within ..)
    | decide

theorem State.supplyReset_within (s : State) (vs : Nat) : s.WithinM 1099511627766 (State.supplyReset s vs) := by
  unfold State.supplyReset
  try dsimp only
  repeat' first
    | with_reducible exact State.WithinM.refl _ _
    | with_reducible assumption
    | with_reducible refine State.WithinM.ite (fun _ => ?_) (fun _ => ?_)
    | with_reducible refine State.WithinM.iteFst (fun _ => ?_) (fun _ => ?_)
    | with_reducible refine State.each_within (fun _ _ => ?_) ?_
    | with_reducible apply State.WithinM.step (State.commitStart_within ..)
    | with_reducible apply State.WithinM.step (State.ctrDrop_within ..)
    | with_reducible apply State.WithinM.step (State.domainOff_within ..)
    | with_reducible apply State.WithinM.step (State.pairReset_within ..)
    | with_reducible apply State.WithinM.step (State.resetImage_within ..)
    | with_reducible apply State.WithinM.step (State.setBb_within ..)
    | with_reducible apply State.WithinM.step (State.setFlag_within ..)
    | with_reducible apply State.WithinM.step (State.setGms_within ..)
    | with_reducible apply State.WithinM.step (State.setPwr_within ..)
    | with_reducible apply State.WithinM.step (State.setShroud_within ..)
    | with_reducible apply State.WithinM.step (State.setVs_within ..)
    | with_reducible apply State.WithinM.step (State.shroudAll_within ..)
    | with_reducible apply State.WithinM.step (State.trimStopAll_within ..)
    | decide

theorem State.mastheadLost_within (s : State) : s.WithinM 2097170 (State.mastheadLost s) := by
  unfold State.mastheadLost
  repeat' first
    | with_reducible exact State.WithinM.refl _ _
    | with_reducible assumption
    | with_reducible apply State.WithinM.step (State.setCmps_within ..)
    | with_reducible apply State.WithinM.step (State.setPwr_within ..)
    | with_reducible apply State.WithinM.step (State.setReg_within ..)
    | with_reducible apply State.WithinM.step (State.setRegs_within ..)
    | decide

theorem State.holdupExhausted_within (s : State) (mastLost : Bool) : s.WithinM 1099511627766 (State.holdupExhausted s mastLost) := by
  unfold State.holdupExhausted
  try dsimp only
  repeat' first
    | with_reducible exact State.WithinM.refl _ _
    | with_reducible assumption
    | with_reducible refine State.WithinM.ite (fun _ => ?_) (fun _ => ?_)
    | with_reducible refine State.WithinM.iteFst (fun _ => ?_) (fun _ => ?_)
    | with_reducible refine State.when_within (fun _ => ?_) ?_
    | with_reducible apply State.WithinM.step (State.mastheadLost_within ..)
    | with_reducible apply State.WithinM.step (State.resetImage_within ..)
    | with_reducible apply State.WithinM.step (State.spoilBank_within ..)
    | decide

theorem State.wakeLatch_within (s : State) (src : Nat) : s.WithinM 34 (State.wakeLatch s src) := by
  unfold State.wakeLatch
  try dsimp only
  repeat' first
    | with_reducible exact State.WithinM.refl _ _
    | with_reducible assumption
    | with_reducible refine State.WithinM.ite (fun _ => ?_) (fun _ => ?_)
    | with_reducible refine State.WithinM.iteFst (fun _ => ?_) (fun _ => ?_)
    | with_reducible apply State.WithinM.step (State.setFlag_within ..)
    | with_reducible apply State.WithinM.step (State.setPins_within ..)
    | decide

theorem State.wakeTimerEnd_within (s : State) : s.WithinM 2050 (State.wakeTimerEnd s) := by
  unfold State.wakeTimerEnd
  repeat' first
    | with_reducible exact State.WithinM.refl _ _
    | with_reducible assumption
    | with_reducible refine State.WithinM.ite (fun _ => ?_) (fun _ => ?_)
    | with_reducible refine State.WithinM.iteFst (fun _ => ?_) (fun _ => ?_)
    | with_reducible refine State.when_within (fun _ => ?_) ?_
    | with_reducible apply State.WithinM.step (State.raise_within ..)
    | with_reducible apply State.WithinM.step (State.setFlag_within ..)
    | with_reducible apply State.WithinM.step (State.setReg_within ..)
    | decide

theorem State.rtcSecond_within (s : State) : s.WithinM 2050 (State.rtcSecond s) := by
  unfold State.rtcSecond
  try dsimp only
  repeat' first
    | with_reducible exact State.WithinM.refl _ _
    | with_reducible assumption
    | with_reducible refine State.WithinM.ite (fun _ => ?_) (fun _ => ?_)
    | with_reducible refine State.WithinM.iteFst (fun _ => ?_) (fun _ => ?_)
    | with_reducible refine State.when_within (fun _ => ?_) ?_
    | with_reducible apply State.WithinM.step (State.setFld_within ..)
    | with_reducible apply State.WithinM.step (State.setReg_within ..)
    | with_reducible apply State.WithinM.step (State.wakeTimerEnd_within ..)
    | decide

theorem State.wakeCfg_within (s : State) (pair : Nat) : s.WithinM 34 (State.wakeCfg s pair).1 := by
  unfold State.wakeCfg
  try dsimp only
  repeat' first
    | with_reducible exact State.WithinM.refl _ _
    | with_reducible assumption
    | with_reducible refine State.WithinM.ite (fun _ => ?_) (fun _ => ?_)
    | with_reducible refine State.WithinM.iteFst (fun _ => ?_) (fun _ => ?_)
    | with_reducible apply State.WithinM.step (State.Answer.badArg_within ..)
    | with_reducible apply State.WithinM.step (State.Answer.ok_within ..)
    | with_reducible apply State.WithinM.step (State.clrReg_within ..)
    | with_reducible apply State.WithinM.step (State.setPins_within ..)
    | with_reducible apply State.WithinM.step (State.setReg_within ..)
    | decide

theorem State.setAfter_within (s : State) (a : AfterCommit) : s.WithinM 128 (State.setAfter s a) := by
  unfold State.setAfter
  repeat' first
    | with_reducible exact State.WithinM.refl _ _
    | with_reducible assumption
    | with_reducible apply State.WithinM.step (State.setGms_within ..)
    | decide

theorem State.sleepGo_within (s : State) : s.WithinM 130 (State.sleepGo s).1 := by
  unfold State.sleepGo
  try dsimp only
  repeat' first
    | with_reducible exact State.WithinM.refl _ _
    | with_reducible assumption
    | with_reducible refine State.WithinM.ite (fun _ => ?_) (fun _ => ?_)
    | with_reducible refine State.WithinM.iteFst (fun _ => ?_) (fun _ => ?_)
    | with_reducible apply State.WithinM.step (State.Answer.ok_within ..)
    | with_reducible apply State.WithinM.step (State.Answer.refused_within ..)
    | with_reducible apply State.WithinM.step (State.commitStart_within ..)
    | with_reducible apply State.WithinM.step (State.setAfter_within ..)
    | with_reducible apply State.WithinM.step (State.setFlag_within ..)
    | decide

theorem State.sleepEntry_within (s : State) : s.WithinM 1099511627766 (State.sleepEntry s) := by
  unfold State.sleepEntry
  try dsimp only
  repeat' first
    | with_reducible exact State.WithinM.refl _ _
    | with_reducible assumption
    | with_reducible refine State.WithinM.ite (fun _ => ?_) (fun _ => ?_)
    | with_reducible refine State.WithinM.iteFst (fun _ => ?_) (fun _ => ?_)
    | with_reducible refine State.each_within (fun _ _ => ?_) ?_
    | with_reducible apply State.WithinM.step (State.cmpBegin_within ..)
    | with_reducible apply State.WithinM.step (State.putCmp_within ..)
    | with_reducible apply State.WithinM.step (State.resetImage_within ..)
    | with_reducible apply State.WithinM.step (State.setPwr_within ..)
    | with_reducible apply State.WithinM.step (State.wakeCopy_within ..)
    | decide

theorem State.coldResetGo_within (s : State) (cause : Nat) : s.WithinM 130 (State.coldResetGo s cause) := by
  unfold State.coldResetGo
  repeat' first
    | with_reducible exact State.WithinM.refl _ _
    | with_reducible assumption
    | with_reducible apply State.WithinM.step (State.commitStart_within ..)
    | with_reducible apply State.WithinM.step (State.setAfter_within ..)
    | decide

theorem State.coldResetNow_within (s : State) (cause : Nat) : s.WithinM 1099511627766 (State.coldResetNow s cause) := by
  unfold State.coldResetNow
  repeat' first
    | with_reducible exact State.WithinM.refl _ _
    | with_reducible assumption
    | with_reducible apply State.WithinM.step (State.resetImage_within ..)
    | with_reducible apply State.WithinM.step (State.setFlag_within ..)
    | decide

theorem State.commitDone_within (s : State) : s.WithinM 1099511627766 (State.commitDone s) := by
  unfold State.commitDone
  try dsimp only
  repeat' first
    | with_reducible exact State.WithinM.refl _ _
    | with_reducible assumption
    | with_reducible refine State.WithinM.ite (fun _ => ?_) (fun _ => ?_)
    | with_reducible refine State.WithinM.iteFst (fun _ => ?_) (fun _ => ?_)
    | with_reducible apply State.WithinM.step (State.coldResetNow_within ..)
    | with_reducible apply State.WithinM.step (State.commitWritten_within ..)
    | with_reducible apply State.WithinM.step (State.setAfter_within ..)
    | with_reducible apply State.WithinM.step (State.sleepEntry_within ..)
    | with_reducible refine State.WithinM.fst (by assumption) ?_
    | decide
    | split

theorem State.gmsPages_within (s : State) : s.WithinM 2 (State.gmsPages s) := by
  unfold State.gmsPages
  try dsimp only
  repeat' first
    | with_reducible exact State.WithinM.refl _ _
    | with_reducible assumption
    | with_reducible apply State.WithinM.step (State.crcTouch_within ..)
    | with_reducible apply State.WithinM.step (State.setReg_within ..)
    | with_reducible apply State.WithinM.step (State.setStage_within ..)
    | decide

theorem State.startTime_within (s : State) : s.WithinM 18 (State.startTime s) := by
  unfold State.startTime
  try dsimp only
  repeat' first
    | with_reducible exact State.WithinM.refl _ _
    | with_reducible assumption
    | with_reducible refine State.each_within (fun _ _ => ?_) ?_
    | with_reducible apply State.WithinM.step (State.setPwr_within ..)
    | with_reducible apply State.WithinM.step (State.setReg_within ..)
    | with_reducible apply State.WithinM.step (State.setStage_within ..)
    | decide

theorem State.startRecords_within (s : State) (bank : Bool) (level : Nat) : s.WithinM 2178 (State.startRecords s bank level) := by
  unfold State.startRecords
  try dsimp only
  repeat' first
    | with_reducible exact State.WithinM.refl _ _
    | with_reducible assumption
    | with_reducible refine State.WithinM.ite (fun _ => ?_) (fun _ => ?_)
    | with_reducible refine State.WithinM.iteFst (fun _ => ?_) (fun _ => ?_)
    | with_reducible refine State.when_within (fun _ => ?_) ?_
    | with_reducible apply State.WithinM.step (State.fault_within ..)
    | with_reducible apply State.WithinM.step (State.logKind_within ..)
    | with_reducible apply State.WithinM.step (State.logStart_within ..)
    | with_reducible apply State.WithinM.step (State.raise_within ..)
    | with_reducible apply State.WithinM.step (State.setFld_within ..)
    | with_reducible apply State.WithinM.step (State.setGms_within ..)
    | with_reducible apply State.WithinM.step (State.setReg_within ..)
    | decide

theorem State.logUpdate_within (s : State) (low : Nat) : s.WithinM 2178 (State.logUpdate s low) := by
  unfold State.logUpdate
  repeat' first
    | with_reducible exact State.WithinM.refl _ _
    | with_reducible assumption
    | with_reducible apply State.WithinM.step (State.logKind_within ..)
    | with_reducible apply State.WithinM.step (State.raise_within ..)
    | decide

theorem State.bootChoice_within (s : State) : s.WithinM 2258 (State.bootChoice s).1 := by
  unfold State.bootChoice
  try dsimp only
  repeat' first
    | with_reducible exact State.WithinM.refl _ _
    | with_reducible assumption
    | with_reducible refine State.WithinM.ite (fun _ => ?_) (fun _ => ?_)
    | with_reducible refine State.WithinM.iteFst (fun _ => ?_) (fun _ => ?_)
    | with_reducible apply State.WithinM.step (State.logUpdate_within ..)
    | with_reducible apply State.WithinM.step (State.mramWrote_within ..)
    | with_reducible apply State.WithinM.step (State.setKept_within ..)
    | with_reducible refine State.WithinM.fst (by assumption) ?_
    | decide
    | split

theorem State.notePersonality_within (s : State) : s.WithinM 128 (State.notePersonality s) := by
  unfold State.notePersonality
  try dsimp only
  repeat' first
    | with_reducible exact State.WithinM.refl _ _
    | with_reducible assumption
    | with_reducible refine State.WithinM.ite (fun _ => ?_) (fun _ => ?_)
    | with_reducible refine State.WithinM.iteFst (fun _ => ?_) (fun _ => ?_)
    | with_reducible apply State.WithinM.step (State.setGms_within ..)
    | with_reducible refine State.WithinM.fst (by assumption) ?_
    | decide
    | split

theorem State.loadShroud_within (s : State) (f : BootFacts) : s.WithinM 32770 (State.loadShroud s f) := by
  unfold State.loadShroud
  try dsimp only
  repeat' first
    | with_reducible exact State.WithinM.refl _ _
    | with_reducible assumption
    | with_reducible refine State.WithinM.ite (fun _ => ?_) (fun _ => ?_)
    | with_reducible refine State.WithinM.iteFst (fun _ => ?_) (fun _ => ?_)
    | with_reducible apply State.WithinM.step (State.fault_within ..)
    | with_reducible apply State.WithinM.step (State.loadConfig_within ..)
    | with_reducible apply State.WithinM.step (State.setShroud_within ..)
    | decide

theorem State.releasePairs_within (s : State) (oem : Bool) : s.WithinM 151283734 (State.releasePairs s oem) := by
  unfold State.releasePairs
  try dsimp only
  repeat' first
    | with_reducible exact State.WithinM.refl _ _
    | with_reducible assumption
    | with_reducible refine State.when_within (fun _ => ?_) ?_
    | with_reducible apply State.WithinM.step (State.domainOn_within ..)
    | with_reducible apply State.WithinM.step (State.orReg_within ..)
    | with_reducible apply State.WithinM.step (State.pairRelease_within ..)
    | decide

theorem State.coldBoot_within (s : State) (f : BootFacts) (level : Nat) : s.WithinM 151316694 (State.coldBoot s f level) := by
  unfold State.coldBoot
  try dsimp only
  repeat' first
    | with_reducible exact State.WithinM.refl _ _
    | with_reducible assumption
    | with_reducible refine State.WithinM.ite (fun _ => ?_) (fun _ => ?_)
    | with_reducible refine State.WithinM.iteFst (fun _ => ?_) (fun _ => ?_)
    | with_reducible apply State.WithinM.step (State.bootChoice_within ..)
    | with_reducible apply State.WithinM.step (State.loadShroud_within ..)
    | with_reducible apply State.WithinM.step (State.logKind_within ..)
    | with_reducible apply State.WithinM.step (State.logUpdate_within ..)
    | with_reducible apply State.WithinM.step (State.notePersonality_within ..)
    | with_reducible apply State.WithinM.step (State.releasePairs_within ..)
    | with_reducible apply State.WithinM.step (State.setFlag_within ..)
    | with_reducible apply State.WithinM.step (State.setPhaseOf_within ..)
    | with_reducible apply State.WithinM.step (State.setReg_within ..)
    | with_reducible apply State.WithinM.step (State.setShroud_within ..)
    | with_reducible apply State.WithinM.step (State.setStage_within ..)
    | with_reducible apply State.WithinM.step (State.startRecords_within ..)
    | with_reducible apply State.WithinM.step (State.startTime_within ..)
    | with_reducible refine State.WithinM.fst (by assumption) ?_
    | decide

theorem State.coldPower_within (s : State) (f : BootFacts) : s.WithinM 1099511627766 (State.coldPower s f) := by
  unfold State.coldPower
  try dsimp only
  repeat' first
    | with_reducible exact State.WithinM.refl _ _
    | with_reducible assumption
    | with_reducible refine State.WithinM.ite (fun _ => ?_) (fun _ => ?_)
    | with_reducible refine State.WithinM.iteFst (fun _ => ?_) (fun _ => ?_)
    | with_reducible apply State.WithinM.step (State.coldBoot_within ..)
    | with_reducible apply State.WithinM.step (State.gmsPages_within ..)
    | with_reducible apply State.WithinM.step (State.resetImage_within ..)
    | with_reducible apply State.WithinM.step (State.setPwr_within ..)
    | with_reducible apply State.WithinM.step (State.setVs_within ..)
    | decide

theorem State.coldStart_within (s : State) (f : BootFacts) : s.WithinM 1099511627766 (State.coldStart s f) := by
  unfold State.coldStart
  repeat' first
    | with_reducible exact State.WithinM.refl _ _
    | with_reducible assumption
    | with_reducible refine State.WithinM.ite (fun _ => ?_) (fun _ => ?_)
    | with_reducible refine State.WithinM.iteFst (fun _ => ?_) (fun _ => ?_)
    | with_reducible apply State.WithinM.step (State.coldPower_within ..)
    | decide

theorem State.xtalRetry_within (s : State) (f : BootFacts) : s.WithinM 151316694 (State.xtalRetry s f) := by
  unfold State.xtalRetry
  repeat' first
    | with_reducible exact State.WithinM.refl _ _
    | with_reducible assumption
    | with_reducible refine State.WithinM.ite (fun _ => ?_) (fun _ => ?_)
    | with_reducible refine State.WithinM.iteFst (fun _ => ?_) (fun _ => ?_)
    | with_reducible apply State.WithinM.step (State.coldBoot_within ..)
    | decide

theorem State.shroudWake_within (s : State) (f : BootFacts) : s.WithinM 32770 (State.shroudWake s f) := by
  unfold State.shroudWake
  try dsimp only
  repeat' first
    | with_reducible exact State.WithinM.refl _ _
    | with_reducible assumption
    | with_reducible refine State.WithinM.ite (fun _ => ?_) (fun _ => ?_)
    | with_reducible refine State.WithinM.iteFst (fun _ => ?_) (fun _ => ?_)
    | with_reducible apply State.WithinM.step (State.loadShroud_within ..)
    | with_reducible apply State.WithinM.step (State.setReg_within ..)
    | with_reducible apply State.WithinM.step (State.setShroud_within ..)
    | decide

theorem State.restoreDomains_within (s : State) : s.WithinM 184813586 (State.restoreDomains s) := by
  unfold State.restoreDomains
  try dsimp only
  repeat' first
    | with_reducible exact State.WithinM.refl _ _
    | with_reducible assumption
    | with_reducible refine State.each_within (fun _ _ => ?_) ?_
    | with_reducible apply State.WithinM.step (State.domainOn_within ..)
    | with_reducible apply State.WithinM.step (State.putGroup_within ..)
    | with_reducible apply State.WithinM.step (State.setReg_within ..)
    | decide

theorem State.warmWake_within (s : State) (f : BootFacts) : s.WithinM 1099511627766 (State.warmWake s f) := by
  unfold State.warmWake
  try dsimp only
  repeat' first
    | with_reducible exact State.WithinM.refl _ _
    | with_reducible assumption
    | with_reducible refine State.WithinM.ite (fun _ => ?_) (fun _ => ?_)
    | with_reducible refine State.WithinM.iteFst (fun _ => ?_) (fun _ => ?_)
    | with_reducible refine State.WithinM.foldl _ (fun _ _ => ?_) ?_
    | with_reducible refine State.each_within (fun _ _ => ?_) ?_
    | with_reducible refine State.when_within (fun _ => ?_) ?_
    | with_reducible apply State.WithinM.step (State.coldPower_within ..)
    | with_reducible apply State.WithinM.step (State.gmsPages_within ..)
    | with_reducible apply State.WithinM.step (State.pairRelease_within ..)
    | with_reducible apply State.WithinM.step (State.putCmp_within ..)
    | with_reducible apply State.WithinM.step (State.restoreDomains_within ..)
    | with_reducible apply State.WithinM.step (State.setFlag_within ..)
    | with_reducible apply State.WithinM.step (State.setPhaseOf_within ..)
    | with_reducible apply State.WithinM.step (State.setReg_within ..)
    | with_reducible apply State.WithinM.step (State.setStage_within ..)
    | with_reducible apply State.WithinM.step (State.setVs_within ..)
    | with_reducible apply State.WithinM.step (State.shroudWake_within ..)
    | with_reducible apply State.WithinM.step (State.startRecords_within ..)
    | with_reducible apply State.WithinM.step (State.startTime_within ..)
    | decide

theorem State.pllnetDown_within (s : State) : s.WithinM 893353199622 (State.pllnetDown s) := by
  unfold State.pllnetDown
  try dsimp only
  repeat' first
    | with_reducible exact State.WithinM.refl _ _
    | with_reducible assumption
    | with_reducible refine State.each_within (fun _ _ => ?_) ?_
    | with_reducible apply State.WithinM.step (State.ringStop_within ..)
    | with_reducible apply State.WithinM.step (State.setFlag_within ..)
    | with_reducible apply State.WithinM.step (State.setNet_within ..)
    | with_reducible apply State.WithinM.step (State.twinOff_within ..)
    | decide

theorem State.pllnetFault_within (s : State) : s.WithinM 893353199638 (State.pllnetFault s) := by
  unfold State.pllnetFault
  try dsimp only
  repeat' first
    | with_reducible exact State.WithinM.refl _ _
    | with_reducible assumption
    | with_reducible refine State.WithinM.ite (fun _ => ?_) (fun _ => ?_)
    | with_reducible refine State.WithinM.iteFst (fun _ => ?_) (fun _ => ?_)
    | with_reducible apply State.WithinM.step (State.pllnetDown_within ..)
    | with_reducible apply State.WithinM.step (State.raise_within ..)
    | with_reducible apply State.WithinM.step (State.setPwr_within ..)
    | decide

theorem State.pllnetRelock_within (s : State) (ok : Bool) : s.WithinM 824633723026 (State.pllnetRelock s ok) := by
  unfold State.pllnetRelock
  try dsimp only
  repeat' first
    | with_reducible exact State.WithinM.refl _ _
    | with_reducible assumption
    | with_reducible refine State.WithinM.ite (fun _ => ?_) (fun _ => ?_)
    | with_reducible refine State.WithinM.iteFst (fun _ => ?_) (fun _ => ?_)
    | with_reducible refine State.when_within (fun _ => ?_) ?_
    | with_reducible apply State.WithinM.step (State.setBb_within ..)
    | with_reducible apply State.WithinM.step (State.setFlag_within ..)
    | with_reducible apply State.WithinM.step (State.setNet_within ..)
    | with_reducible apply State.WithinM.step (State.setPwr_within ..)
    | with_reducible apply State.WithinM.step (State.twinRun_within ..)
    | decide

theorem State.clockFault_within (s : State) (xtal : Bool) : s.WithinM 906431268998 (State.clockFault s xtal) := by
  unfold State.clockFault
  try dsimp only
  repeat' first
    | with_reducible exact State.WithinM.refl _ _
    | with_reducible assumption
    | with_reducible refine State.WithinM.ite (fun _ => ?_) (fun _ => ?_)
    | with_reducible refine State.WithinM.iteFst (fun _ => ?_) (fun _ => ?_)
    | with_reducible refine State.when_within (fun _ => ?_) ?_
    | with_reducible apply State.WithinM.step (State.coldResetGo_within ..)
    | with_reducible apply State.WithinM.step (State.pllnetDown_within ..)
    | with_reducible apply State.WithinM.step (State.raise_within ..)
    | with_reducible apply State.WithinM.step (State.setReg_within ..)
    | with_reducible apply State.WithinM.step (State.setShroud_within ..)
    | with_reducible apply State.WithinM.step (State.shroudAll_within ..)
    | with_reducible apply State.WithinM.step (State.trimStopAll_within ..)
    | decide

end Sys2Proof.Machine
end

