-- ==== Sys2Proof/Laws/WithinGmsCmds.lean ====
section
/-! SUPPORT. Which kinds of state each operation of Machine/GmsCmds.lean can change. -/

namespace Sys2Proof.Machine

variable {m : Nat} {s t u : State}

theorem State.ansVersion_within (s : State) : s.WithinM 0 (State.ansVersion s).1 := by
  unfold State.ansVersion
  try dsimp only
  repeat' first
    | with_reducible exact State.WithinM.refl _ _
    | with_reducible assumption
    | with_reducible apply State.WithinM.step (State.Answer.ok_within ..)
    | decide

theorem State.ansPersonality_within (s : State) (pair : Nat) : s.WithinM 80 (State.ansPersonality s pair).1 := by
  unfold State.ansPersonality
  try dsimp only
  repeat' first
    | with_reducible exact State.WithinM.refl _ _
    | with_reducible assumption
    | with_reducible refine State.WithinM.ite (fun _ => ?_) (fun _ => ?_)
    | with_reducible refine State.WithinM.iteFst (fun _ => ?_) (fun _ => ?_)
    | with_reducible apply State.WithinM.step (State.Answer.badArg_within ..)
    | with_reducible apply State.WithinM.step (State.Answer.ok_within ..)
    | with_reducible apply State.WithinM.step (State.mramWrote_within ..)
    | with_reducible apply State.WithinM.step (State.setKept_within ..)
    | decide

theorem State.ansColdReset_within (s : State) : s.WithinM 130 (State.ansColdReset s).1 := by
  unfold State.ansColdReset
  try dsimp only
  repeat' first
    | with_reducible exact State.WithinM.refl _ _
    | with_reducible assumption
    | with_reducible refine State.WithinM.ite (fun _ => ?_) (fun _ => ?_)
    | with_reducible refine State.WithinM.iteFst (fun _ => ?_) (fun _ => ?_)
    | with_reducible apply State.WithinM.step (State.Answer.ok_within ..)
    | with_reducible apply State.WithinM.step (State.Answer.refused_within ..)
    | with_reducible apply State.WithinM.step (State.coldResetGo_within ..)
    | decide

theorem State.ansPairRestart_within (s : State) (pair : Nat) : s.WithinM 24582 (State.ansPairRestart s pair).1 := by
  unfold State.ansPairRestart
  try dsimp only
  repeat' first
    | with_reducible exact State.WithinM.refl _ _
    | with_reducible assumption
    | with_reducible refine State.WithinM.ite (fun _ => ?_) (fun _ => ?_)
    | with_reducible refine State.WithinM.iteFst (fun _ => ?_) (fun _ => ?_)
    | with_reducible apply State.WithinM.step (State.Answer.ok_within ..)
    | with_reducible apply State.WithinM.step (State.Answer.refused_within ..)
    | with_reducible apply State.WithinM.step (State.pairRestart_within ..)
    | decide

theorem State.ansIcxCfg_within (s : State) (pair : Nat) : s.WithinM 4098 (State.ansIcxCfg s pair).1 := by
  unfold State.ansIcxCfg
  try dsimp only
  repeat' first
    | with_reducible exact State.WithinM.refl _ _
    | with_reducible assumption
    | with_reducible refine State.WithinM.ite (fun _ => ?_) (fun _ => ?_)
    | with_reducible refine State.WithinM.iteFst (fun _ => ?_) (fun _ => ?_)
    | with_reducible refine State.each_within (fun _ _ => ?_) ?_
    | with_reducible apply State.WithinM.step (State.Answer.badArg_within ..)
    | with_reducible apply State.WithinM.step (State.Answer.ok_within ..)
    | with_reducible apply State.WithinM.step (State.crcTouch_within ..)
    | with_reducible apply State.WithinM.step (State.icxClasses_within ..)
    | with_reducible apply State.WithinM.step (State.setReg_within ..)
    | decide

theorem State.ansRetain_within (s : State) (pair : Nat) : s.WithinM 2 (State.ansRetain s pair).1 := by
  unfold State.ansRetain
  try dsimp only
  repeat' first
    | with_reducible exact State.WithinM.refl _ _
    | with_reducible assumption
    | with_reducible refine State.WithinM.ite (fun _ => ?_) (fun _ => ?_)
    | with_reducible refine State.WithinM.iteFst (fun _ => ?_) (fun _ => ?_)
    | with_reducible refine State.each_within (fun _ _ => ?_) ?_
    | with_reducible apply State.WithinM.step (State.Answer.badArg_within ..)
    | with_reducible apply State.WithinM.step (State.Answer.ok_within ..)
    | with_reducible apply State.WithinM.step (State.setReg_within ..)
    | decide

theorem State.ansDataStore_within (s : State) (pair : Nat) : s.WithinM 20 (State.ansDataStore s pair).1 := by
  unfold State.ansDataStore
  try dsimp only
  repeat' first
    | with_reducible exact State.WithinM.refl _ _
    | with_reducible assumption
    | with_reducible refine State.WithinM.ite (fun _ => ?_) (fun _ => ?_)
    | with_reducible refine State.WithinM.iteFst (fun _ => ?_) (fun _ => ?_)
    | with_reducible apply State.WithinM.step (State.Answer.badArg_within ..)
    | with_reducible apply State.WithinM.step (State.Answer.ok_within ..)
    | with_reducible apply State.WithinM.step (State.writeBank_within ..)
    | decide

theorem State.ansDataLoad_within (s : State) (pair : Nat) : s.WithinM 0 (State.ansDataLoad s pair).1 := by
  unfold State.ansDataLoad
  try dsimp only
  repeat' first
    | with_reducible exact State.WithinM.refl _ _
    | with_reducible assumption
    | with_reducible refine State.WithinM.ite (fun _ => ?_) (fun _ => ?_)
    | with_reducible refine State.WithinM.iteFst (fun _ => ?_) (fun _ => ?_)
    | with_reducible apply State.WithinM.step (State.Answer.badArg_within ..)
    | with_reducible apply State.WithinM.step (State.Answer.ok_within ..)
    | decide

theorem State.ansCommission_within (s : State) (pair : Nat) : s.WithinM 13077874770 (State.ansCommission s pair).1 := by
  unfold State.ansCommission
  try dsimp only
  repeat' first
    | with_reducible exact State.WithinM.refl _ _
    | with_reducible assumption
    | with_reducible refine State.WithinM.ite (fun _ => ?_) (fun _ => ?_)
    | with_reducible refine State.WithinM.iteFst (fun _ => ?_) (fun _ => ?_)
    | with_reducible apply State.WithinM.step (State.Answer.badArg_within ..)
    | with_reducible apply State.WithinM.step (State.Answer.ok_within ..)
    | with_reducible apply State.WithinM.step (State.Answer.refused_within ..)
    | with_reducible apply State.WithinM.step (State.commissionLeave_within ..)
    | with_reducible apply State.WithinM.step (State.mramWrote_within ..)
    | with_reducible apply State.WithinM.step (State.reselect_within ..)
    | with_reducible apply State.WithinM.step (State.shroudEnter_within ..)
    | decide

theorem State.ansMark_within (s : State) (pair : Nat) : s.WithinM 130 (State.ansMark s pair).1 := by
  unfold State.ansMark
  try dsimp only
  repeat' first
    | with_reducible exact State.WithinM.refl _ _
    | with_reducible assumption
    | with_reducible refine State.WithinM.ite (fun _ => ?_) (fun _ => ?_)
    | with_reducible refine State.WithinM.iteFst (fun _ => ?_) (fun _ => ?_)
    | with_reducible apply State.WithinM.step (State.Answer.badArg_within ..)
    | with_reducible apply State.WithinM.step (State.Answer.ok_within ..)
    | with_reducible apply State.WithinM.step (State.logKind_within ..)
    | decide

theorem State.ansBbRead_within (s : State) (pair : Nat) : s.WithinM 0 (State.ansBbRead s pair).1 := by
  unfold State.ansBbRead
  try dsimp only
  repeat' first
    | with_reducible exact State.WithinM.refl _ _
    | with_reducible assumption
    | with_reducible refine State.WithinM.ite (fun _ => ?_) (fun _ => ?_)
    | with_reducible refine State.WithinM.iteFst (fun _ => ?_) (fun _ => ?_)
    | with_reducible apply State.WithinM.step (State.Answer.badArg_within ..)
    | with_reducible apply State.WithinM.step (State.Answer.ok_within ..)
    | with_reducible refine State.WithinM.fst (by assumption) ?_
    | decide
    | split

theorem State.ansBbCfg_within (s : State) (pair : Nat) : s.WithinM 128 (State.ansBbCfg s pair).1 := by
  unfold State.ansBbCfg
  try dsimp only
  repeat' first
    | with_reducible exact State.WithinM.refl _ _
    | with_reducible assumption
    | with_reducible refine State.WithinM.ite (fun _ => ?_) (fun _ => ?_)
    | with_reducible refine State.WithinM.iteFst (fun _ => ?_) (fun _ => ?_)
    | with_reducible apply State.WithinM.step (State.Answer.badArg_within ..)
    | with_reducible apply State.WithinM.step (State.Answer.ok_within ..)
    | with_reducible apply State.WithinM.step (State.setBb_within ..)
    | decide

theorem State.ansFcCfg_within (s : State) (pair : Nat) : s.WithinM 128 (State.ansFcCfg s pair).1 := by
  unfold State.ansFcCfg
  try dsimp only
  repeat' first
    | with_reducible exact State.WithinM.refl _ _
    | with_reducible assumption
    | with_reducible refine State.WithinM.ite (fun _ => ?_) (fun _ => ?_)
    | with_reducible refine State.WithinM.iteFst (fun _ => ?_) (fun _ => ?_)
    | with_reducible apply State.WithinM.step (State.Answer.badArg_within ..)
    | with_reducible apply State.WithinM.step (State.Answer.ok_within ..)
    | with_reducible apply State.WithinM.step (State.setGms_within ..)
    | decide

theorem State.ansFcArm_within (s : State) (pair : Nat) : s.WithinM 130 (State.ansFcArm s pair).1 := by
  unfold State.ansFcArm
  try dsimp only
  repeat' first
    | with_reducible exact State.WithinM.refl _ _
    | with_reducible assumption
    | with_reducible refine State.WithinM.ite (fun _ => ?_) (fun _ => ?_)
    | with_reducible refine State.WithinM.iteFst (fun _ => ?_) (fun _ => ?_)
    | with_reducible apply State.WithinM.step (State.Answer.badArg_within ..)
    | with_reducible apply State.WithinM.step (State.Answer.ok_within ..)
    | with_reducible apply State.WithinM.step (State.fcArm_within ..)
    | decide

theorem State.ansMeterRead_within (s : State) : s.WithinM 0 (State.ansMeterRead s).1 := by
  unfold State.ansMeterRead
  try dsimp only
  repeat' first
    | with_reducible exact State.WithinM.refl _ _
    | with_reducible assumption
    | with_reducible apply State.WithinM.step (State.Answer.ok_within ..)
    | decide

theorem State.ansMeterCal_within (s : State) (pair : Nat) : s.WithinM 214 (State.ansMeterCal s pair).1 := by
  unfold State.ansMeterCal
  try dsimp only
  repeat' first
    | with_reducible exact State.WithinM.refl _ _
    | with_reducible assumption
    | with_reducible refine State.WithinM.ite (fun _ => ?_) (fun _ => ?_)
    | with_reducible refine State.WithinM.iteFst (fun _ => ?_) (fun _ => ?_)
    | with_reducible apply State.WithinM.step (State.Answer.badArg_within ..)
    | with_reducible apply State.WithinM.step (State.Answer.ok_within ..)
    | with_reducible apply State.WithinM.step (State.logKind_within ..)
    | with_reducible apply State.WithinM.step (State.meterWrite_within ..)
    | with_reducible apply State.WithinM.step (State.setGms_within ..)
    | decide

theorem State.ansPassport_within (s : State) (pair : Nat) : s.WithinM 0 (State.ansPassport s pair).1 := by
  unfold State.ansPassport
  try dsimp only
  repeat' first
    | with_reducible exact State.WithinM.refl _ _
    | with_reducible assumption
    | with_reducible refine State.WithinM.ite (fun _ => ?_) (fun _ => ?_)
    | with_reducible refine State.WithinM.iteFst (fun _ => ?_) (fun _ => ?_)
    | with_reducible apply State.WithinM.step (State.Answer.badArg_within ..)
    | with_reducible apply State.WithinM.step (State.Answer.ok_within ..)
    | decide

theorem State.ansZadd_within (s : State) (pair : Nat) : s.WithinM 128 (State.ansZadd s pair).1 := by
  unfold State.ansZadd
  try dsimp only
  repeat' first
    | with_reducible exact State.WithinM.refl _ _
    | with_reducible assumption
    | with_reducible refine State.WithinM.ite (fun _ => ?_) (fun _ => ?_)
    | with_reducible refine State.WithinM.iteFst (fun _ => ?_) (fun _ => ?_)
    | with_reducible apply State.WithinM.step (State.Answer.badArg_within ..)
    | with_reducible apply State.WithinM.step (State.Answer.ok_within ..)
    | with_reducible apply State.WithinM.step (State.setGms_within ..)
    | decide

theorem State.ansConfirm_within (s : State) (pair : Nat) : s.WithinM 2258 (State.ansConfirm s pair).1 := by
  unfold State.ansConfirm
  try dsimp only
  repeat' first
    | with_reducible exact State.WithinM.refl _ _
    | with_reducible assumption
    | with_reducible refine State.WithinM.ite (fun _ => ?_) (fun _ => ?_)
    | with_reducible refine State.WithinM.iteFst (fun _ => ?_) (fun _ => ?_)
    | with_reducible apply State.WithinM.step (State.Answer.ok_within ..)
    | with_reducible apply State.WithinM.step (State.Answer.refused_within ..)
    | with_reducible apply State.WithinM.step (State.logUpdate_within ..)
    | with_reducible apply State.WithinM.step (State.mramWrote_within ..)
    | with_reducible apply State.WithinM.step (State.setFlag_within ..)
    | with_reducible apply State.WithinM.step (State.setFld_within ..)
    | with_reducible apply State.WithinM.step (State.setGms_within ..)
    | with_reducible apply State.WithinM.step (State.setKept_within ..)
    | with_reducible refine State.WithinM.fst (by assumption) ?_
    | decide
    | split

theorem State.clearGmsFlags_within (s : State) (e : Nat) : s.WithinM 2 (State.clearGmsFlags s e) := by
  unfold State.clearGmsFlags
  repeat' first
    | with_reducible exact State.WithinM.refl _ _
    | with_reducible assumption
    | with_reducible refine State.WithinM.foldl _ (fun _ _ => ?_) ?_
    | with_reducible apply State.WithinM.step (State.clrReg_within ..)
    | decide

theorem State.recordDrain_within (s : State) : s.WithinM 2178 (State.recordDrain s) := by
  unfold State.recordDrain
  try dsimp only
  repeat' first
    | with_reducible exact State.WithinM.refl _ _
    | with_reducible assumption
    | with_reducible refine State.WithinM.ite (fun _ => ?_) (fun _ => ?_)
    | with_reducible refine State.WithinM.iteFst (fun _ => ?_) (fun _ => ?_)
    | with_reducible refine State.WithinM.foldl _ (fun _ _ => ?_) ?_
    | with_reducible apply State.WithinM.step (State.clearGmsFlags_within ..)
    | with_reducible apply State.WithinM.step (State.logEntry_within ..)
    | with_reducible apply State.WithinM.step (State.setRouter_within ..)
    | decide

theorem State.scrub_within (s : State) (bad : Bool) : s.WithinM 194 (State.scrub s bad) := by
  unfold State.scrub
  try dsimp only
  repeat' first
    | with_reducible exact State.WithinM.refl _ _
    | with_reducible assumption
    | with_reducible refine State.WithinM.ite (fun _ => ?_) (fun _ => ?_)
    | with_reducible refine State.WithinM.iteFst (fun _ => ?_) (fun _ => ?_)
    | with_reducible apply State.WithinM.step (State.fault_within ..)
    | with_reducible apply State.WithinM.step (State.logKind_within ..)
    | with_reducible apply State.WithinM.step (State.setKept_within ..)
    | decide

end Sys2Proof.Machine
end

