-- ==== Sys2Proof/Laws/WithinUdsOps.lean ====
section
/-! SUPPORT. Which kinds of state each operation of Machine/UdsOps.lean can change. -/

namespace Sys2Proof.Machine

variable {m : Nat} {s t u : State}

theorem State.udsSay_within (s : State) (a : UdsAnswer) : s.WithinM 128 (State.udsSay s a) := by
  unfold State.udsSay
  repeat' first
    | with_reducible exact State.WithinM.refl _ _
    | with_reducible assumption
    | with_reducible apply State.WithinM.step (State.setGms_within ..)
    | decide

theorem State.udsOk_within (s : State) (d : List Byte) : s.WithinM 128 (State.udsOk s d) := by
  unfold State.udsOk
  repeat' first
    | with_reducible exact State.WithinM.refl _ _
    | with_reducible assumption
    | with_reducible apply State.WithinM.step (State.udsSay_within ..)
    | decide

theorem State.udsNo_within (s : State) (nrc : Byte) : s.WithinM 128 (State.udsNo s nrc) := by
  unfold State.udsNo
  repeat' first
    | with_reducible exact State.WithinM.refl _ _
    | with_reducible assumption
    | with_reducible apply State.WithinM.step (State.udsSay_within ..)
    | decide

theorem State.udsSessionControl_within (s : State) (ch : Nat) (x : Byte) : s.WithinM 128 (State.udsSessionControl s ch x) := by
  unfold State.udsSessionControl
  repeat' first
    | with_reducible exact State.WithinM.refl _ _
    | with_reducible assumption
    | with_reducible refine State.WithinM.ite (fun _ => ?_) (fun _ => ?_)
    | with_reducible refine State.WithinM.iteFst (fun _ => ?_) (fun _ => ?_)
    | with_reducible apply State.WithinM.step (State.setGms_within ..)
    | with_reducible apply State.WithinM.step (State.udsNo_within ..)
    | with_reducible apply State.WithinM.step (State.udsOk_within ..)
    | decide

theorem State.udsSecurity_within (s : State) (ch : Nat) (sub : Byte) (verdict : Bool) : s.WithinM 2250 (State.udsSecurity s ch sub verdict) := by
  unfold State.udsSecurity
  try dsimp only
  repeat' first
    | with_reducible exact State.WithinM.refl _ _
    | with_reducible assumption
    | with_reducible refine State.WithinM.ite (fun _ => ?_) (fun _ => ?_)
    | with_reducible refine State.WithinM.iteFst (fun _ => ?_) (fun _ => ?_)
    | with_reducible apply State.WithinM.step (State.accessFailed_within ..)
    | with_reducible apply State.WithinM.step (State.accessOpened_within ..)
    | with_reducible apply State.WithinM.step (State.setGms_within ..)
    | with_reducible apply State.WithinM.step (State.took_within ..)
    | with_reducible apply State.WithinM.step (State.udsNo_within ..)
    | with_reducible apply State.WithinM.step (State.udsOk_within ..)
    | with_reducible refine State.WithinM.fst (by assumption) ?_
    | decide
    | split

theorem State.udsRead_within (s : State) (ch : Nat) (did : Nat) : s.WithinM 128 (State.udsRead s ch did) := by
  unfold State.udsRead
  repeat' first
    | with_reducible exact State.WithinM.refl _ _
    | with_reducible assumption
    | with_reducible refine State.WithinM.ite (fun _ => ?_) (fun _ => ?_)
    | with_reducible refine State.WithinM.iteFst (fun _ => ?_) (fun _ => ?_)
    | with_reducible apply State.WithinM.step (State.udsNo_within ..)
    | with_reducible apply State.WithinM.step (State.udsOk_within ..)
    | decide

theorem State.udsDownload_within (s : State) (ch : Nat) (b : Bool) (len : Nat) : s.WithinM 128 (State.udsDownload s ch b len) := by
  unfold State.udsDownload
  repeat' first
    | with_reducible exact State.WithinM.refl _ _
    | with_reducible assumption
    | with_reducible refine State.WithinM.ite (fun _ => ?_) (fun _ => ?_)
    | with_reducible refine State.WithinM.iteFst (fun _ => ?_) (fun _ => ?_)
    | with_reducible apply State.WithinM.step (State.setGms_within ..)
    | with_reducible apply State.WithinM.step (State.udsNo_within ..)
    | with_reducible apply State.WithinM.step (State.udsOk_within ..)
    | decide

theorem State.udsTransfer_within (s : State) (ch : Nat) (seq : Byte) (data : List Byte) : s.WithinM 148 (State.udsTransfer s ch seq data) := by
  unfold State.udsTransfer
  try dsimp only
  repeat' first
    | with_reducible exact State.WithinM.refl _ _
    | with_reducible assumption
    | with_reducible refine State.WithinM.ite (fun _ => ?_) (fun _ => ?_)
    | with_reducible refine State.WithinM.iteFst (fun _ => ?_) (fun _ => ?_)
    | with_reducible apply State.WithinM.step (State.mramWrote_within ..)
    | with_reducible apply State.WithinM.step (State.setGms_within ..)
    | with_reducible apply State.WithinM.step (State.udsNo_within ..)
    | with_reducible apply State.WithinM.step (State.udsOk_within ..)
    | with_reducible apply State.WithinM.step (State.putBytes_within ..)
    | with_reducible refine State.WithinM.fst (by assumption) ?_
    | decide
    | split

theorem State.udsExit_within (s : State) (ch : Nat) : s.WithinM 128 (State.udsExit s ch) := by
  unfold State.udsExit
  repeat' first
    | with_reducible exact State.WithinM.refl _ _
    | with_reducible assumption
    | with_reducible refine State.WithinM.ite (fun _ => ?_) (fun _ => ?_)
    | with_reducible refine State.WithinM.iteFst (fun _ => ?_) (fun _ => ?_)
    | with_reducible apply State.WithinM.step (State.setGms_within ..)
    | with_reducible apply State.WithinM.step (State.udsNo_within ..)
    | with_reducible apply State.WithinM.step (State.udsOk_within ..)
    | with_reducible refine State.WithinM.fst (by assumption) ?_
    | decide
    | split

theorem State.udsCheck_within (s : State) (ch : Nat) (f : SlotFacts) : s.WithinM 192 (State.udsCheck s ch f) := by
  unfold State.udsCheck
  try dsimp only
  repeat' first
    | with_reducible exact State.WithinM.refl _ _
    | with_reducible assumption
    | with_reducible refine State.WithinM.ite (fun _ => ?_) (fun _ => ?_)
    | with_reducible refine State.WithinM.iteFst (fun _ => ?_) (fun _ => ?_)
    | with_reducible apply State.WithinM.step (State.setGms_within ..)
    | with_reducible apply State.WithinM.step (State.setKept_within ..)
    | with_reducible apply State.WithinM.step (State.udsNo_within ..)
    | with_reducible apply State.WithinM.step (State.udsOk_within ..)
    | decide

theorem State.udsActivate_within (s : State) (ch : Nat) : s.WithinM 2258 (State.udsActivate s ch) := by
  unfold State.udsActivate
  try dsimp only
  repeat' first
    | with_reducible exact State.WithinM.refl _ _
    | with_reducible assumption
    | with_reducible refine State.WithinM.ite (fun _ => ?_) (fun _ => ?_)
    | with_reducible refine State.WithinM.iteFst (fun _ => ?_) (fun _ => ?_)
    | with_reducible apply State.WithinM.step (State.logUpdate_within ..)
    | with_reducible apply State.WithinM.step (State.mramWrote_within ..)
    | with_reducible apply State.WithinM.step (State.setGms_within ..)
    | with_reducible apply State.WithinM.step (State.setKept_within ..)
    | with_reducible apply State.WithinM.step (State.udsNo_within ..)
    | with_reducible apply State.WithinM.step (State.udsOk_within ..)
    | decide

theorem State.udsPairRestart_within (s : State) (ch : Nat) (option : Byte) : s.WithinM 24710 (State.udsPairRestart s ch option) := by
  unfold State.udsPairRestart
  repeat' first
    | with_reducible exact State.WithinM.refl _ _
    | with_reducible assumption
    | with_reducible refine State.WithinM.ite (fun _ => ?_) (fun _ => ?_)
    | with_reducible refine State.WithinM.iteFst (fun _ => ?_) (fun _ => ?_)
    | with_reducible apply State.WithinM.step (State.pairRestart_within ..)
    | with_reducible apply State.WithinM.step (State.udsNo_within ..)
    | with_reducible apply State.WithinM.step (State.udsOk_within ..)
    | decide

theorem State.udsReset_within (s : State) (ch : Nat) (sub : Byte) : s.WithinM 130 (State.udsReset s ch sub) := by
  unfold State.udsReset
  repeat' first
    | with_reducible exact State.WithinM.refl _ _
    | with_reducible assumption
    | with_reducible refine State.WithinM.ite (fun _ => ?_) (fun _ => ?_)
    | with_reducible refine State.WithinM.iteFst (fun _ => ?_) (fun _ => ?_)
    | with_reducible apply State.WithinM.step (State.coldResetGo_within ..)
    | with_reducible apply State.WithinM.step (State.udsNo_within ..)
    | with_reducible apply State.WithinM.step (State.udsOk_within ..)
    | decide

end Sys2Proof.Machine
end

