-- ==== Sys2Proof/Laws/WithinRegs.lean ====
section
/-! SUPPORT. Which kinds of state each operation of Machine/Regs.lean can change. -/

namespace Sys2Proof.Machine

variable {m : Nat} {s t u : State}

theorem State.refuse_within (s : State) (port : Nat) (bus : Word) (reason : Nat) (write : Bool) : s.WithinM 2178 (State.refuse s port bus reason write).1 := by
  unfold State.refuse
  try dsimp only
  repeat' first
    | with_reducible exact State.WithinM.refl _ _
    | with_reducible assumption
    | with_reducible apply State.WithinM.step (State.logRefusal_within ..)
    | decide

theorem State.refuseOff_within (s : State) (port : Nat) (bus : Word) (write : Bool) : s.WithinM 2178 (State.refuseOff s port bus write).1 := by
  unfold State.refuseOff
  try dsimp only
  repeat' first
    | with_reducible exact State.WithinM.refl _ _
    | with_reducible assumption
    | with_reducible apply State.WithinM.step (State.raise_within ..)
    | with_reducible apply State.WithinM.step (State.refuse_within ..)
    | decide

theorem State.trimHook_within (s : State) (n off : Nat) (plain old new : Word) : s.WithinM 231426 (State.trimHook s n off plain old new) := by
  unfold State.trimHook
  try dsimp only
  repeat' first
    | with_reducible exact State.WithinM.refl _ _
    | with_reducible assumption
    | with_reducible refine State.WithinM.ite (fun _ => ?_) (fun _ => ?_)
    | with_reducible refine State.WithinM.iteFst (fun _ => ?_) (fun _ => ?_)
    | with_reducible apply State.WithinM.step (State.ctxClose_within ..)
    | with_reducible apply State.WithinM.step (State.ctxEnable_within ..)
    | with_reducible apply State.WithinM.step (State.putSetp_within ..)
    | with_reducible apply State.WithinM.step (State.tuneFail_within ..)
    | with_reducible apply State.WithinM.step (State.tuneStart_within ..)
    | decide

theorem State.cmpHook_within (s : State) (n off : Nat) (plain old new : Word) : s.WithinM 2131970 (State.cmpHook s n off plain old new) := by
  unfold State.cmpHook
  try dsimp only
  repeat' first
    | with_reducible exact State.WithinM.refl _ _
    | with_reducible assumption
    | with_reducible refine State.WithinM.ite (fun _ => ?_) (fun _ => ?_)
    | with_reducible refine State.WithinM.iteFst (fun _ => ?_) (fun _ => ?_)
    | with_reducible apply State.WithinM.step (State.cmpBegin_within ..)
    | with_reducible apply State.WithinM.step (State.cmpClear_within ..)
    | with_reducible apply State.WithinM.step (State.cmpRefresh_within ..)
    | with_reducible apply State.WithinM.step (State.cmpResettle_within ..)
    | with_reducible apply State.WithinM.step (State.tripAll_within ..)
    | with_reducible refine State.WithinM.fst (by assumption) ?_
    | decide
    | split

theorem State.pwmHook_within (s : State) (n off : Nat) (plain old new : Word) : s.WithinM 8390658 (State.pwmHook s n off plain old new) := by
  unfold State.pwmHook
  try dsimp only
  repeat' first
    | with_reducible exact State.WithinM.refl _ _
    | with_reducible assumption
    | with_reducible refine State.WithinM.ite (fun _ => ?_) (fun _ => ?_)
    | with_reducible refine State.WithinM.iteFst (fun _ => ?_) (fun _ => ?_)
    | with_reducible apply State.WithinM.step (State.commitSet_within ..)
    | with_reducible apply State.WithinM.step (State.putPwm_within ..)
    | with_reducible apply State.WithinM.step (State.tripAsync_within ..)
    | decide

theorem State.groupHook_within (s : State) (n off : Nat) (plain : Word) : s.WithinM 184551426 (State.groupHook s n off plain) := by
  unfold State.groupHook
  repeat' first
    | with_reducible exact State.WithinM.refl _ _
    | with_reducible assumption
    | with_reducible refine State.WithinM.ite (fun _ => ?_) (fun _ => ?_)
    | with_reducible refine State.WithinM.iteFst (fun _ => ?_) (fun _ => ?_)
    | with_reducible apply State.WithinM.step (State.gatesRefresh_within ..)
    | with_reducible apply State.WithinM.step (State.gclr_within ..)
    | with_reducible apply State.WithinM.step (State.selfTestStart_within ..)
    | with_reducible apply State.WithinM.step (State.sourceCheck_within ..)
    | decide

theorem State.ringHook_within (s : State) (n : Nat) (plain old new : Word) : s.WithinM 68719478790 (State.ringHook s n plain old new) := by
  unfold State.ringHook
  try dsimp only
  repeat' first
    | with_reducible exact State.WithinM.refl _ _
    | with_reducible assumption
    | with_reducible refine State.WithinM.ite (fun _ => ?_) (fun _ => ?_)
    | with_reducible refine State.WithinM.iteFst (fun _ => ?_) (fun _ => ?_)
    | with_reducible apply State.WithinM.step (State.ringRun_within ..)
    | with_reducible apply State.WithinM.step (State.ringStop_within ..)
    | with_reducible apply State.WithinM.step (State.ringStream_within ..)
    | with_reducible apply State.WithinM.step (State.ringTone_within ..)
    | with_reducible apply State.WithinM.step (State.ringUnstream_within ..)
    | decide

theorem State.blockHook_within (s : State) (port : Nat) (b : Block) (n off : Nat) (plain old new : Word) : s.WithinM 1099511627158 (State.blockHook s port b n off plain old new) := by
  unfold State.blockHook
  try dsimp only
  repeat' first
    | with_reducible exact State.WithinM.refl _ _
    | with_reducible assumption
    | with_reducible refine State.WithinM.ite (fun _ => ?_) (fun _ => ?_)
    | with_reducible refine State.WithinM.iteFst (fun _ => ?_) (fun _ => ?_)
    | with_reducible apply State.WithinM.step (State.actCmd_within ..)
    | with_reducible apply State.WithinM.step (State.adcStart_within ..)
    | with_reducible apply State.WithinM.step (State.capArrive_within ..)
    | with_reducible apply State.WithinM.step (State.clearRegs_within ..)
    | with_reducible apply State.WithinM.step (State.cmpHook_within ..)
    | with_reducible apply State.WithinM.step (State.commitStart_within ..)
    | with_reducible apply State.WithinM.step (State.ctrCmd_within ..)
    | with_reducible apply State.WithinM.step (State.ctrOutputs_within ..)
    | with_reducible apply State.WithinM.step (State.dcdcCmd_within ..)
    | with_reducible apply State.WithinM.step (State.gatesRefresh_within ..)
    | with_reducible apply State.WithinM.step (State.groupHook_within ..)
    | with_reducible apply State.WithinM.step (State.hallStart_within ..)
    | with_reducible apply State.WithinM.step (State.hvsRefresh_within ..)
    | with_reducible apply State.WithinM.step (State.icxClasses_within ..)
    | with_reducible apply State.WithinM.step (State.lampRefresh_within ..)
    | with_reducible apply State.WithinM.step (State.netOffset_within ..)
    | with_reducible apply State.WithinM.step (State.obcCmd_within ..)
    | with_reducible apply State.WithinM.step (State.obcHost_within ..)
    | with_reducible apply State.WithinM.step (State.pdAccept_within ..)
    | with_reducible apply State.WithinM.step (State.pilotRelimit_within ..)
    | with_reducible apply State.WithinM.step (State.pilotS2_within ..)
    | with_reducible apply State.WithinM.step (State.putTwl_within ..)
    | with_reducible apply State.WithinM.step (State.pwmHook_within ..)
    | with_reducible apply State.WithinM.step (State.ringHook_within ..)
    | with_reducible apply State.WithinM.step (State.scdStop_within ..)
    | with_reducible apply State.WithinM.step (State.sdmClocks_within ..)
    | with_reducible apply State.WithinM.step (State.sdmInvalidate_within ..)
    | with_reducible apply State.WithinM.step (State.setAfter_within ..)
    | with_reducible apply State.WithinM.step (State.setReg_within ..)
    | with_reducible apply State.WithinM.step (State.sinShow_within ..)
    | with_reducible apply State.WithinM.step (State.sourceCheck_within ..)
    | with_reducible apply State.WithinM.step (State.splitReq_within ..)
    | with_reducible apply State.WithinM.step (State.syncReq_within ..)
    | with_reducible apply State.WithinM.step (State.trimHook_within ..)
    | with_reducible apply State.WithinM.step (State.twinHands_within ..)
    | with_reducible apply State.WithinM.step (State.twinOff_within ..)
    | with_reducible apply State.WithinM.step (State.twinRun_within ..)
    | with_reducible apply State.WithinM.step (State.twinXreq_within ..)
    | with_reducible apply State.WithinM.step (State.twlTest_within ..)
    | with_reducible apply State.WithinM.step (State.txRun_within ..)
    | with_reducible apply State.WithinM.step (State.zIdle_within ..)
    | with_reducible apply State.WithinM.step (State.zStart_within ..)
    | with_reducible refine State.WithinM.fst (by assumption) ?_
    | decide
    | split

theorem State.faultHook_within (s : State) (b : Block) (n : Nat) (cleared : Word) : s.WithinM 34359740418 (State.faultHook s b n cleared) := by
  unfold State.faultHook
  repeat' first
    | with_reducible exact State.WithinM.refl _ _
    | with_reducible assumption
    | with_reducible apply State.WithinM.step (State.ctrOutputs_within ..)
    | with_reducible apply State.WithinM.step (State.dcdcUnlatch_within ..)
    | with_reducible apply State.WithinM.step (State.pairUnlatch_within ..)
    | with_reducible refine State.WithinM.fst (by assumption) ?_
    | decide
    | split

theorem State.sourceHook_within (s : State) (b : Block) : s.WithinM 184551426 (State.sourceHook s b) := by
  unfold State.sourceHook
  repeat' first
    | with_reducible exact State.WithinM.refl _ _
    | with_reducible assumption
    | with_reducible apply State.WithinM.step (State.gatesRefresh_within ..)
    | with_reducible apply State.WithinM.step (State.sourceCheck_within ..)
    | with_reducible refine State.WithinM.fst (by assumption) ?_
    | decide
    | split

theorem State.writePctrl_within (s : State) (p : Nat) (srst : Bool) (old new : Word) : s.WithinM 1099511598342 (State.writePctrl s p srst old new) := by
  unfold State.writePctrl
  try dsimp only
  repeat' first
    | with_reducible exact State.WithinM.refl _ _
    | with_reducible assumption
    | with_reducible refine State.WithinM.ite (fun _ => ?_) (fun _ => ?_)
    | with_reducible refine State.WithinM.iteFst (fun _ => ?_) (fun _ => ?_)
    | with_reducible apply State.WithinM.step (State.crcLatch_within ..)
    | with_reducible apply State.WithinM.step (State.crcTouch_within ..)
    | with_reducible apply State.WithinM.step (State.disablePage_within ..)
    | with_reducible apply State.WithinM.step (State.enablePage_within ..)
    | with_reducible apply State.WithinM.step (State.setReg_within ..)
    | with_reducible apply State.WithinM.step (State.softReset_within ..)
    | decide

theorem State.writeReg_within (s : State) (port p off : Nat) (i : RegInfo) (m : WriteMode) (w old new : Word) : s.WithinM 1099511627158 (State.writeReg s port p off i m w old new) := by
  unfold State.writeReg
  try dsimp only
  repeat' first
    | with_reducible exact State.WithinM.refl _ _
    | with_reducible assumption
    | with_reducible refine State.WithinM.ite (fun _ => ?_) (fun _ => ?_)
    | with_reducible refine State.WithinM.iteFst (fun _ => ?_) (fun _ => ?_)
    | with_reducible refine State.when_within (fun _ => ?_) ?_
    | with_reducible apply State.WithinM.step (State.blockHook_within ..)
    | with_reducible apply State.WithinM.step (State.crcLatch_within ..)
    | with_reducible apply State.WithinM.step (State.crcTouch_within ..)
    | with_reducible apply State.WithinM.step (State.faultHook_within ..)
    | with_reducible apply State.WithinM.step (State.setReg_within ..)
    | with_reducible refine State.WithinM.fst (by assumption) ?_
    | decide
    | split

theorem State.writeOwner_within (s : State) (port p : Nat) (bus : Word) (m : WriteMode) (w : Word) : s.WithinM 184551554 (State.writeOwner s port p bus m w).1 := by
  unfold State.writeOwner
  try dsimp only
  repeat' first
    | with_reducible exact State.WithinM.refl _ _
    | with_reducible assumption
    | with_reducible refine State.WithinM.ite (fun _ => ?_) (fun _ => ?_)
    | with_reducible refine State.WithinM.iteFst (fun _ => ?_) (fun _ => ?_)
    | with_reducible apply State.WithinM.step (State.crcTouch_within ..)
    | with_reducible apply State.WithinM.step (State.refuse_within ..)
    | with_reducible apply State.WithinM.step (State.setReg_within ..)
    | with_reducible apply State.WithinM.step (State.sourceHook_within ..)
    | with_reducible refine State.WithinM.fst (by assumption) ?_
    | decide
    | split

theorem State.regWrite_within (s : State) (port : Nat) (bus : Word) (a : Nat) (m : WriteMode) (w : Word) : s.WithinM 1099511627158 (State.regWrite s port bus a m w).1 := by
  unfold State.regWrite
  try dsimp only
  repeat' first
    | with_reducible exact State.WithinM.refl _ _
    | with_reducible assumption
    | with_reducible refine State.WithinM.ite (fun _ => ?_) (fun _ => ?_)
    | with_reducible refine State.WithinM.iteFst (fun _ => ?_) (fun _ => ?_)
    | with_reducible apply State.WithinM.step (State.fault_within ..)
    | with_reducible apply State.WithinM.step (State.refuse_within ..)
    | with_reducible apply State.WithinM.step (State.refuseOff_within ..)
    | with_reducible apply State.WithinM.step (State.setKey_within ..)
    | with_reducible apply State.WithinM.step (State.writeOwner_within ..)
    | with_reducible apply State.WithinM.step (State.writePctrl_within ..)
    | with_reducible apply State.WithinM.step (State.writeReg_within ..)
    | with_reducible refine State.WithinM.fst (by assumption) ?_
    | decide
    | split

theorem State.targetWrite_within (s : State) (a : Nat) (w : Word) : s.WithinM 1099511627158 (State.targetWrite s a w) := by
  unfold State.targetWrite
  try dsimp only
  repeat' first
    | with_reducible exact State.WithinM.refl _ _
    | with_reducible assumption
    | with_reducible refine State.WithinM.ite (fun _ => ?_) (fun _ => ?_)
    | with_reducible refine State.WithinM.iteFst (fun _ => ?_) (fun _ => ?_)
    | with_reducible apply State.WithinM.step (State.writeReg_within ..)
    | decide

theorem State.readHook_within (s : State) (port a : Nat) : s.WithinM 3586 (State.readHook s port a) := by
  unfold State.readHook
  try dsimp only
  repeat' first
    | with_reducible exact State.WithinM.refl _ _
    | with_reducible assumption
    | with_reducible refine State.WithinM.ite (fun _ => ?_) (fun _ => ?_)
    | with_reducible refine State.WithinM.iteFst (fun _ => ?_) (fun _ => ?_)
    | with_reducible apply State.WithinM.step (State.capFreeze_within ..)
    | with_reducible apply State.WithinM.step (State.capRelease_within ..)
    | with_reducible apply State.WithinM.step (State.dtimeRead_within ..)
    | with_reducible apply State.WithinM.step (State.netNowRead_within ..)
    | decide

theorem State.regRead_within (s : State) (port : Nat) (bus : Word) (a : Nat) : s.WithinM 3714 (State.regRead s port bus a).1 := by
  unfold State.regRead
  try dsimp only
  repeat' first
    | with_reducible exact State.WithinM.refl _ _
    | with_reducible assumption
    | with_reducible refine State.WithinM.ite (fun _ => ?_) (fun _ => ?_)
    | with_reducible refine State.WithinM.iteFst (fun _ => ?_) (fun _ => ?_)
    | with_reducible apply State.WithinM.step (State.readHook_within ..)
    | with_reducible apply State.WithinM.step (State.refuseOff_within ..)
    | decide

end Sys2Proof.Machine
end

