-- ==== Sys2Proof/Laws/WithinOperands.lean ====
section
/-! SUPPORT. Which kinds of state each operation of Machine/Operands.lean can change. -/

namespace Sys2Proof.Machine

variable {m : Nat} {s t u : State}

theorem State.onGms_within {f : State → State} (h : ∀ t, State.WithinM m t (f t)) (k : State.WithinM m s t) :
    State.WithinM m s (t.onGms f) := State.WithinM.ite (fun _ => (h t).step (Nat.and_self m) k) (fun _ => k)

end Sys2Proof.Machine
end

