-- ==== Sys2Proof/Laws/WithinBus.lean ====
section
/-! SUPPORT. Which kinds of state each operation of Machine/Bus.lean can change. -/

namespace Sys2Proof.Machine

variable {m : Nat} {s t u : State}

theorem State.memAccess_within (s : State) (t : Txn) : s.WithinM 4 (State.memAccess s t).1 := by
  unfold State.memAccess
  try dsimp only
  repeat' first
    | with_reducible exact State.WithinM.refl _ _
    | with_reducible assumption
    | with_reducible refine State.WithinM.ite (fun _ => ?_) (fun _ => ?_)
    | with_reducible refine State.WithinM.iteFst (fun _ => ?_) (fun _ => ?_)
    | with_reducible apply State.WithinM.step (State.putBytes_within ..)
    | decide

theorem State.pageAccess_within (s : State) (port : Nat) (t : Txn) : s.WithinM 1099511627670 (State.pageAccess s port t).1 := by
  unfold State.pageAccess
  try dsimp only
  repeat' first
    | with_reducible exact State.WithinM.refl _ _
    | with_reducible assumption
    | with_reducible refine State.WithinM.ite (fun _ => ?_) (fun _ => ?_)
    | with_reducible refine State.WithinM.iteFst (fun _ => ?_) (fun _ => ?_)
    | with_reducible apply State.WithinM.step (State.regRead_within ..)
    | with_reducible apply State.WithinM.step (State.regWrite_within ..)
    | with_reducible refine State.WithinM.fst (by assumption) ?_
    | decide
    | split

theorem State.entryStored_within (s : State) (a : Nat) : s.WithinM 4 (State.entryStored s a) := by
  unfold State.entryStored
  repeat' first
    | with_reducible exact State.WithinM.refl _ _
    | with_reducible assumption
    | with_reducible apply State.WithinM.step (State.putWord_within ..)
    | decide

theorem State.trimAccess_within (s : State) (port : Nat) (t : Txn) : s.WithinM 4 (State.trimAccess s port t).1 := by
  unfold State.trimAccess
  try dsimp only
  repeat' first
    | with_reducible exact State.WithinM.refl _ _
    | with_reducible assumption
    | with_reducible refine State.WithinM.ite (fun _ => ?_) (fun _ => ?_)
    | with_reducible refine State.WithinM.iteFst (fun _ => ?_) (fun _ => ?_)
    | with_reducible refine State.each_within (fun _ _ => ?_) ?_
    | with_reducible apply State.WithinM.step (State.entryStored_within ..)
    | with_reducible apply State.WithinM.step (State.memAccess_within ..)
    | decide

theorem State.mbxWord_within (s : State) (port pair off : Nat) (w : Word) : s.WithinM 2182 (State.mbxWord s port pair off w).1 := by
  unfold State.mbxWord
  try dsimp only
  repeat' first
    | with_reducible exact State.WithinM.refl _ _
    | with_reducible assumption
    | with_reducible refine State.WithinM.ite (fun _ => ?_) (fun _ => ?_)
    | with_reducible refine State.WithinM.iteFst (fun _ => ?_) (fun _ => ?_)
    | with_reducible apply State.WithinM.step (State.doorbell_within ..)
    | with_reducible apply State.WithinM.step (State.putWord_within ..)
    | decide

theorem State.mbxAccess_within (s : State) (port : Nat) (t : Txn) : s.WithinM 2182 (State.mbxAccess s port t).1 := by
  unfold State.mbxAccess
  extract_lets a
  generalize a = a
  repeat' first
    | with_reducible exact State.WithinM.refl _ _
    | with_reducible assumption
    | with_reducible refine State.WithinM.ite (fun _ => ?_) (fun _ => ?_)
    | with_reducible refine State.WithinM.iteFst (fun _ => ?_) (fun _ => ?_)
    | with_reducible apply State.WithinM.step (State.mbxWord_within ..)
    | with_reducible apply State.WithinM.step (State.memAccess_within ..)
    | decide

theorem State.access_within (s : State) (port : Nat) (t : Txn) : s.WithinM 1099511627670 (State.access s port t).1 := by
  unfold State.access
  try dsimp only
  repeat' first
    | with_reducible exact State.WithinM.refl _ _
    | with_reducible assumption
    | with_reducible refine State.WithinM.ite (fun _ => ?_) (fun _ => ?_)
    | with_reducible refine State.WithinM.iteFst (fun _ => ?_) (fun _ => ?_)
    | with_reducible apply State.WithinM.step (State.mbxAccess_within ..)
    | with_reducible apply State.WithinM.step (State.memAccess_within ..)
    | with_reducible apply State.WithinM.step (State.mramWrote_within ..)
    | with_reducible apply State.WithinM.step (State.pageAccess_within ..)
    | with_reducible apply State.WithinM.step (State.trimAccess_within ..)
    | with_reducible refine State.WithinM.fst (by assumption) ?_
    | decide
    | split

theorem State.perform_within (s : State) (port : Nat) (t : Txn) : s.WithinM 1099511627670 (State.perform s port t) := by
  unfold State.perform
  repeat' first
    | with_reducible exact State.WithinM.refl _ _
    | with_reducible assumption
    | with_reducible refine State.WithinM.ite (fun _ => ?_) (fun _ => ?_)
    | with_reducible refine State.WithinM.iteFst (fun _ => ?_) (fun _ => ?_)
    | with_reducible apply State.WithinM.step (State.access_within ..)
    | with_reducible apply State.WithinM.step (State.answer_within ..)
    | decide

theorem State.portStore_within (s : State) (port a : Nat) (w : Word) : s.WithinM 1099511627670 (State.portStore s port a w) := by
  unfold State.portStore
  repeat' first
    | with_reducible exact State.WithinM.refl _ _
    | with_reducible assumption
    | with_reducible apply State.WithinM.step (State.perform_within ..)
    | decide

theorem State.pageStore_within (s : State) (port p off : Nat) (w : Word) : s.WithinM 1099511627670 (State.pageStore s port p off w) := by
  unfold State.pageStore
  repeat' first
    | with_reducible exact State.WithinM.refl _ _
    | with_reducible assumption
    | with_reducible refine State.WithinM.ite (fun _ => ?_) (fun _ => ?_)
    | with_reducible refine State.WithinM.iteFst (fun _ => ?_) (fun _ => ?_)
    | with_reducible refine State.when_within (fun _ => ?_) ?_
    | with_reducible apply State.WithinM.step (State.answer_within ..)
    | with_reducible apply State.WithinM.step (State.portStore_within ..)
    | decide

theorem State.portLoad_within (s : State) (port a : Nat) : s.WithinM 1099511627670 (State.portLoad s port a) := by
  unfold State.portLoad
  repeat' first
    | with_reducible exact State.WithinM.refl _ _
    | with_reducible assumption
    | with_reducible apply State.WithinM.step (State.perform_within ..)
    | decide

theorem State.give_within (s : State) (port : Nat) (rd : Fin 32) (w : Word) : s.WithinM 8704 (State.give s port rd w) := by
  unfold State.give
  repeat' first
    | with_reducible exact State.WithinM.refl _ _
    | with_reducible assumption
    | with_reducible refine State.WithinM.ite (fun _ => ?_) (fun _ => ?_)
    | with_reducible refine State.WithinM.iteFst (fun _ => ?_) (fun _ => ?_)
    | with_reducible apply State.WithinM.step (State.answer_within ..)
    | with_reducible apply State.WithinM.step (State.toX_within ..)
    | decide

theorem State.loadReserved_within (s : State) (port : Nat) (rd : Fin 32) (addr : Word) : s.WithinM 1099511627670 (State.loadReserved s port rd addr) := by
  unfold State.loadReserved
  repeat' first
    | with_reducible exact State.WithinM.refl _ _
    | with_reducible assumption
    | with_reducible refine State.WithinM.ite (fun _ => ?_) (fun _ => ?_)
    | with_reducible refine State.WithinM.iteFst (fun _ => ?_) (fun _ => ?_)
    | with_reducible apply State.WithinM.step (State.access_within ..)
    | with_reducible apply State.WithinM.step (State.answer_within ..)
    | with_reducible apply State.WithinM.step (State.give_within ..)
    | with_reducible apply State.WithinM.step (State.lockOpen_within ..)
    | with_reducible refine State.WithinM.fst (by assumption) ?_
    | decide
    | split

theorem State.storeConditional_within (s : State) (port : Nat) (rd : Fin 32) (addr value : Word) : s.WithinM 1099511627670 (State.storeConditional s port rd addr value) := by
  unfold State.storeConditional
  repeat' first
    | with_reducible exact State.WithinM.refl _ _
    | with_reducible assumption
    | with_reducible refine State.WithinM.ite (fun _ => ?_) (fun _ => ?_)
    | with_reducible refine State.WithinM.iteFst (fun _ => ?_) (fun _ => ?_)
    | with_reducible apply State.WithinM.step (State.access_within ..)
    | with_reducible apply State.WithinM.step (State.answer_within ..)
    | with_reducible apply State.WithinM.step (State.give_within ..)
    | with_reducible apply State.WithinM.step (State.lockDrop_within ..)
    | with_reducible apply State.WithinM.step (State.setIcx_within ..)
    | with_reducible refine State.WithinM.fst (by assumption) ?_
    | decide
    | split

theorem State.atomic_within (s : State) (port : Nat) (op : AmoOp) (rd : Fin 32) (addr value : Word) : s.WithinM 1099511627670 (State.atomic s port op rd addr value) := by
  unfold State.atomic
  try dsimp only
  repeat' first
    | with_reducible exact State.WithinM.refl _ _
    | with_reducible assumption
    | with_reducible refine State.WithinM.ite (fun _ => ?_) (fun _ => ?_)
    | with_reducible refine State.WithinM.iteFst (fun _ => ?_) (fun _ => ?_)
    | with_reducible apply State.WithinM.step (State.access_within ..)
    | with_reducible apply State.WithinM.step (State.answer_within ..)
    | with_reducible apply State.WithinM.step (State.give_within ..)
    | with_reducible refine State.WithinM.fst (by assumption) ?_
    | decide
    | split

theorem State.issue_within (s : State) (port : Nat) (t : Txn) : s.WithinM 6658 (State.issue s port t) := by
  unfold State.issue
  repeat' first
    | with_reducible exact State.WithinM.refl _ _
    | with_reducible assumption
    | with_reducible refine State.WithinM.ite (fun _ => ?_) (fun _ => ?_)
    | with_reducible refine State.WithinM.iteFst (fun _ => ?_) (fun _ => ?_)
    | with_reducible apply State.WithinM.step (State.answer_within ..)
    | with_reducible apply State.WithinM.step (State.icxIssue_within ..)
    | with_reducible refine State.WithinM.fst (by assumption) ?_
    | decide
    | split

theorem State.respond_within (s : State) (k : Nat) : s.WithinM 1099511627670 (State.respond s k) := by
  unfold State.respond
  repeat' first
    | with_reducible exact State.WithinM.refl _ _
    | with_reducible assumption
    | with_reducible apply State.WithinM.step (State.access_within ..)
    | with_reducible apply State.WithinM.step (State.answer_within ..)
    | with_reducible apply State.WithinM.step (State.icxAnswer_within ..)
    | with_reducible refine State.WithinM.fst (by assumption) ?_
    | decide
    | split

theorem State.targetTimeout_within (s : State) (k : Nat) : s.WithinM 14850 (State.targetTimeout s k) := by
  unfold State.targetTimeout
  repeat' first
    | with_reducible exact State.WithinM.refl _ _
    | with_reducible assumption
    | with_reducible apply State.WithinM.step (State.answer_within ..)
    | with_reducible apply State.WithinM.step (State.icxAnswer_within ..)
    | with_reducible apply State.WithinM.step (State.raise_within ..)
    | with_reducible refine State.WithinM.fst (by assumption) ?_
    | decide
    | split

end Sys2Proof.Machine
end

