-- ==== Sys2Proof/Laws/WithinExecAcq.lean ====
section
/-! SUPPORT. Which kinds of state each operation of Machine/ExecAcq.lean can change. -/

namespace Sys2Proof.Machine

variable {m : Nat} {s t u : State}

theorem State.execAdcSeqstartGo_within (port : Port) (n : Fin 8) (s : State) : ∀ v, execAdcSeqstartGo port n s = .next v → s.WithinM 1099511627670 v := by
  intro v h
  unfold execAdcSeqstartGo at h
  refine State.done_within (by decide) h ?_
  repeat' first
    | with_reducible exact State.WithinM.refl _ _
    | with_reducible assumption
    | with_reducible apply State.WithinM.step (State.portStore_within ..)
    | decide

theorem State.execAdcSlotDone_within (n : Fin 8) (code : BitVec 14) (s : State) : ∀ v, execAdcSlotDone n code s = .next v → s.WithinM 137506850946 v := by
  intro v h
  unfold execAdcSlotDone at h
  refine State.done_within (by decide) h ?_
  repeat' first
    | with_reducible exact State.WithinM.refl _ _
    | with_reducible assumption
    | with_reducible apply State.WithinM.step (State.adcSlotDone_within ..)
    | decide

theorem State.execSdmWindowEnd_within (n : Fin 24) (sum : Nat) (s : State) : ∀ v, execSdmWindowEnd n sum s = .next v → s.WithinM 137440266370 v := by
  intro v h
  unfold execSdmWindowEnd at h
  refine State.done_within (by decide) h ?_
  repeat' first
    | with_reducible exact State.WithinM.refl _ _
    | with_reducible assumption
    | with_reducible apply State.WithinM.step (State.sdmWindowEnd_within ..)
    | decide

theorem State.execSdmFault_within (n : Fin 24) (stuck : Bool) (s : State) : ∀ v, execSdmFault n stuck s = .next v → s.WithinM 137440266370 v := by
  intro v h
  unfold execSdmFault at h
  refine State.done_within (by decide) h ?_
  repeat' first
    | with_reducible exact State.WithinM.refl _ _
    | with_reducible assumption
    | with_reducible refine State.WithinM.ite (fun _ => ?_) (fun _ => ?_)
    | with_reducible refine State.WithinM.iteFst (fun _ => ?_) (fun _ => ?_)
    | with_reducible apply State.WithinM.step (State.sdmFault_within ..)
    | decide

theorem State.execScdTrip_within (n : Fin 24) (count : Nat) (s : State) : ∀ v, execScdTrip n count s = .next v → s.WithinM 137438955650 v := by
  intro v h
  unfold execScdTrip at h
  refine State.done_within (by decide) h ?_
  repeat' first
    | with_reducible exact State.WithinM.refl _ _
    | with_reducible assumption
    | with_reducible apply State.WithinM.step (State.scdTrip_within ..)
    | decide

theorem State.execScdRelease_within (n : Fin 24) (count : Nat) (s : State) : ∀ v, execScdRelease n count s = .next v → s.WithinM 137438953602 v := by
  intro v h
  unfold execScdRelease at h
  refine State.done_within (by decide) h ?_
  repeat' first
    | with_reducible exact State.WithinM.refl _ _
    | with_reducible assumption
    | with_reducible apply State.WithinM.step (State.scdRelease_within ..)
    | decide

theorem State.cmpWatch_within (s : State) (k old : Nat) : s.WithinM 12893325314 (State.cmpWatch s k old) := by
  unfold State.cmpWatch
  repeat' first
    | with_reducible exact State.WithinM.refl _ _
    | with_reducible assumption
    | with_reducible refine State.WithinM.ite (fun _ => ?_) (fun _ => ?_)
    | with_reducible refine State.WithinM.iteFst (fun _ => ?_) (fun _ => ?_)
    | with_reducible apply State.WithinM.step (State.obcPackLost_within ..)
    | decide

theorem State.execComparatorTrip_within (k : Fin 32) (x : Int) (s : State) : ∀ v, execComparatorTrip k x s = .next v → s.WithinM 150334376066 v := by
  intro v h
  unfold execComparatorTrip at h
  refine State.done_within (by decide) h ?_
  repeat' first
    | with_reducible exact State.WithinM.refl _ _
    | with_reducible assumption
    | with_reducible apply State.WithinM.step (State.cmpTrip_within ..)
    | with_reducible apply State.WithinM.step (State.cmpWatch_within ..)
    | decide

theorem State.execComparatorRelease_within (k : Fin 32) (x : Int) (s : State) : ∀ v, execComparatorRelease k x s = .next v → s.WithinM 137441085570 v := by
  intro v h
  unfold execComparatorRelease at h
  refine State.done_within (by decide) h ?_
  repeat' first
    | with_reducible exact State.WithinM.refl _ _
    | with_reducible assumption
    | with_reducible apply State.WithinM.step (State.cmpRelease_within ..)
    | decide

theorem State.execComparatorSettled_within (k : Fin 32) (x : Int) (s : State) : ∀ v, execComparatorSettled k x s = .next v → s.WithinM 150334376066 v := by
  intro v h
  unfold execComparatorSettled at h
  refine State.done_within (by decide) h ?_
  repeat' first
    | with_reducible exact State.WithinM.refl _ _
    | with_reducible assumption
    | with_reducible apply State.WithinM.step (State.cmpSettled_within ..)
    | with_reducible apply State.WithinM.step (State.cmpWatch_within ..)
    | decide

theorem State.execComparatorClear_within (port : Port) (k : Fin 32) (x : Int) (s : State) : ∀ v, execComparatorClear port k x s = .next v → s.WithinM 1099511627670 v := by
  intro v h
  unfold execComparatorClear at h
  refine State.done_within (by decide) h ?_
  repeat' first
    | with_reducible exact State.WithinM.refl _ _
    | with_reducible assumption
    | with_reducible apply State.WithinM.step (State.portStore_within ..)
    | with_reducible apply State.WithinM.step (State.putCmp_within ..)
    | decide

theorem State.execHousekeepingRound_within (r : HkReadings) (s : State) : ∀ v, execHousekeepingRound r s = .next v → s.WithinM 137443149954 v := by
  intro v h
  unfold execHousekeepingRound at h
  refine State.done_within (by decide) h ?_
  repeat' first
    | with_reducible exact State.WithinM.refl _ _
    | with_reducible assumption
    | with_reducible apply State.WithinM.step (State.hkRound_within ..)
    | with_reducible apply State.WithinM.step (State.twlSupplies_within ..)
    | decide

theorem State.execSup5SwitchOff_within (j : Fin 9) (s : State) : ∀ v, execSup5SwitchOff j s = .next v → s.WithinM 137438955650 v := by
  intro v h
  unfold execSup5SwitchOff at h
  refine State.done_within (by decide) h ?_
  repeat' first
    | with_reducible exact State.WithinM.refl _ _
    | with_reducible assumption
    | with_reducible refine State.onPage_within (fun _ => ?_) ?_
    | with_reducible apply State.WithinM.step (State.supOff_within ..)
    | with_reducible apply State.WithinM.step (State.twlSupplies_within ..)
    | decide

theorem State.execSup5Retry_within (j : Fin 9) (ok : Bool) (s : State) : ∀ v, execSup5Retry j ok s = .next v → s.WithinM 137438955650 v := by
  intro v h
  unfold execSup5Retry at h
  refine State.done_within (by decide) h ?_
  repeat' first
    | with_reducible exact State.WithinM.refl _ _
    | with_reducible assumption
    | with_reducible refine State.onPage_within (fun _ => ?_) ?_
    | with_reducible apply State.WithinM.step (State.supRetry_within ..)
    | with_reducible apply State.WithinM.step (State.twlSupplies_within ..)
    | decide

end Sys2Proof.Machine
end

