-- ==== Sys2Proof/Laws/WithinExecAct.lean ====
section
/-! SUPPORT. Which kinds of state each operation of Machine/ExecAct.lean can change. -/

namespace Sys2Proof.Machine

variable {m : Nat} {s t u : State}

theorem State.execActStart_within (port : Port) (n : Fin 3) (s : State) : ∀ v, execActStart port n s = .next v → s.WithinM 1099511627670 v := by
  intro v h
  unfold execActStart at h
  refine State.done_within (by decide) h ?_
  repeat' first
    | with_reducible exact State.WithinM.refl _ _
    | with_reducible assumption
    | with_reducible apply State.WithinM.step (State.portStore_within ..)
    | decide

theorem State.execActArm_within (port : Port) (n : Fin 3) (s : State) : ∀ v, execActArm port n s = .next v → s.WithinM 1099511627670 v := by
  intro v h
  unfold execActArm at h
  refine State.done_within (by decide) h ?_
  repeat' first
    | with_reducible exact State.WithinM.refl _ _
    | with_reducible assumption
    | with_reducible apply State.WithinM.step (State.portStore_within ..)
    | decide

theorem State.execActStop_within (port : Port) (n : Fin 3) (s : State) : ∀ v, execActStop port n s = .next v → s.WithinM 1099511627670 v := by
  intro v h
  unfold execActStop at h
  refine State.done_within (by decide) h ?_
  repeat' first
    | with_reducible exact State.WithinM.refl _ _
    | with_reducible assumption
    | with_reducible apply State.WithinM.step (State.portStore_within ..)
    | decide

theorem State.execActSpeedUpdate_within (n : Fin 3) (s : State) : ∀ v, execActSpeedUpdate n s = .next v → s.WithinM 154627213442 v := by
  intro v h
  unfold execActSpeedUpdate at h
  refine State.done_within (by decide) h ?_
  repeat' first
    | with_reducible exact State.WithinM.refl _ _
    | with_reducible assumption
    | with_reducible refine State.onPage_within (fun _ => ?_) ?_
    | with_reducible apply State.WithinM.step (State.actUpdate_within ..)
    | decide

theorem State.execActSpeedZero_within (n : Fin 3) (s : State) : ∀ v, execActSpeedZero n s = .next v → s.WithinM 154627213442 v := by
  intro v h
  unfold execActSpeedZero at h
  refine State.done_within (by decide) h ?_
  repeat' first
    | with_reducible exact State.WithinM.refl _ _
    | with_reducible assumption
    | with_reducible refine State.onPage_within (fun _ => ?_) ?_
    | with_reducible apply State.WithinM.step (State.actSpeedZero_within ..)
    | decide

theorem State.execActHallTimeout_within (n : Fin 3) (s : State) : ∀ v, execActHallTimeout n s = .next v → s.WithinM 154627213442 v := by
  intro v h
  unfold execActHallTimeout at h
  refine State.done_within (by decide) h ?_
  repeat' first
    | with_reducible exact State.WithinM.refl _ _
    | with_reducible assumption
    | with_reducible apply State.WithinM.step (State.actHallLost_within ..)
    | decide

theorem State.execActOverload_within (n : Fin 3) (s : State) : ∀ v, execActOverload n s = .next v → s.WithinM 154627213442 v := by
  intro v h
  unfold execActOverload at h
  refine State.done_within (by decide) h ?_
  repeat' first
    | with_reducible exact State.WithinM.refl _ _
    | with_reducible assumption
    | with_reducible apply State.WithinM.step (State.actOverload_within ..)
    | decide

theorem State.execActStall_within (n : Fin 3) (s : State) : ∀ v, execActStall n s = .next v → s.WithinM 154627213442 v := by
  intro v h
  unfold execActStall at h
  refine State.done_within (by decide) h ?_
  repeat' first
    | with_reducible exact State.WithinM.refl _ _
    | with_reducible assumption
    | with_reducible apply State.WithinM.step (State.actStall_within ..)
    | decide

theorem State.execBootstrapUndervoltage_within (n : Fin 3) (phase : Fin 3) (mv : Nat) (s : State) : ∀ v, execBootstrapUndervoltage n phase mv s = .next v → s.WithinM 154627213442 v := by
  intro v h
  unfold execBootstrapUndervoltage at h
  refine State.done_within (by decide) h ?_
  repeat' first
    | with_reducible exact State.WithinM.refl _ _
    | with_reducible assumption
    | with_reducible refine State.onPage_within (fun _ => ?_) ?_
    | with_reducible apply State.WithinM.step (State.actBoot_within ..)
    | decide

theorem State.execEngageInhibit_within (n : Fin 3) (s : State) : ∀ v, execEngageInhibit n s = .next v → s.WithinM 154627213442 v := by
  intro v h
  unfold execEngageInhibit at h
  refine State.done_within (by decide) h ?_
  repeat' first
    | with_reducible exact State.WithinM.refl _ _
    | with_reducible assumption
    | with_reducible refine State.onPage_within (fun _ => ?_) ?_
    | with_reducible apply State.WithinM.step (State.actInhibit_within ..)
    | decide

theorem State.execActSupplyOvervoltage_within (mv : Nat) (s : State) : ∀ v, execActSupplyOvervoltage mv s = .next v → s.WithinM 154627213474 v := by
  intro v h
  unfold execActSupplyOvervoltage at h
  refine State.done_within (by decide) h ?_
  repeat' first
    | with_reducible exact State.WithinM.refl _ _
    | with_reducible assumption
    | with_reducible apply State.WithinM.step (State.actSupply_within ..)
    | decide

theorem State.execCtrClose_within (port : Port) (s : State) : ∀ v, execCtrClose port s = .next v → s.WithinM 1099511627670 v := by
  intro v h
  unfold execCtrClose at h
  refine State.done_within (by decide) h ?_
  repeat' first
    | with_reducible exact State.WithinM.refl _ _
    | with_reducible assumption
    | with_reducible apply State.WithinM.step (State.portStore_within ..)
    | decide

theorem State.execCtrOpen_within (port : Port) (s : State) : ∀ v, execCtrOpen port s = .next v → s.WithinM 1099511627670 v := by
  intro v h
  unfold execCtrOpen at h
  refine State.done_within (by decide) h ?_
  repeat' first
    | with_reducible exact State.WithinM.refl _ _
    | with_reducible assumption
    | with_reducible apply State.WithinM.step (State.portStore_within ..)
    | decide

theorem State.execCtrStepTimer_within (short : Bool) (s : State) : ∀ v, execCtrStepTimer short s = .next v → s.WithinM 171798694018 v := by
  intro v h
  unfold execCtrStepTimer at h
  refine State.done_within (by decide) h ?_
  repeat' first
    | with_reducible exact State.WithinM.refl _ _
    | with_reducible assumption
    | with_reducible apply State.WithinM.step (State.ctrStep_within ..)
    | decide

theorem State.execCtrNegOpen_within (s : State) : ∀ v, execCtrNegOpen s = .next v → s.WithinM 171798691970 v := by
  intro v h
  unfold execCtrNegOpen at h
  refine State.done_within (by decide) h ?_
  repeat' first
    | with_reducible exact State.WithinM.refl _ _
    | with_reducible assumption
    | with_reducible refine State.onPage_within (fun _ => ?_) ?_
    | with_reducible apply State.WithinM.step (State.ctrNegOpen_within ..)
    | decide

theorem State.execTcoolEnd_within (s : State) : ∀ v, execTcoolEnd s = .next v → s.WithinM 137438953602 v := by
  intro v h
  unfold execTcoolEnd at h
  refine State.done_within (by decide) h ?_
  repeat' first
    | with_reducible exact State.WithinM.refl _ _
    | with_reducible assumption
    | with_reducible refine State.onPage_within (fun _ => ?_) ?_
    | with_reducible apply State.WithinM.step (State.ctrCooled_within ..)
    | decide

theorem State.execPullInEnd_within (k : Fin 8) (s : State) : ∀ v, execPullInEnd k s = .next v → s.WithinM 171798691970 v := by
  intro v h
  unfold execPullInEnd at h
  refine State.done_within (by decide) h ?_
  repeat' first
    | with_reducible exact State.WithinM.refl _ _
    | with_reducible assumption
    | with_reducible apply State.WithinM.step (State.pullInEnd_within ..)
    | decide

theorem State.execHsoOvercurrent_within (k : Fin 8) (s : State) : ∀ v, execHsoOvercurrent k s = .next v → s.WithinM 171798694018 v := by
  intro v h
  unfold execHsoOvercurrent at h
  refine State.done_within (by decide) h ?_
  repeat' first
    | with_reducible exact State.WithinM.refl _ _
    | with_reducible assumption
    | with_reducible apply State.WithinM.step (State.ctrOver_within ..)
    | decide

theorem State.execContactorDisable_within (s : State) : ∀ v, execContactorDisable s = .next v → s.WithinM 171798694018 v := by
  intro v h
  unfold execContactorDisable at h
  refine State.done_within (by decide) h ?_
  repeat' first
    | with_reducible exact State.WithinM.refl _ _
    | with_reducible assumption
    | with_reducible refine State.onPage_within (fun _ => ?_) ?_
    | with_reducible apply State.WithinM.step (State.ctrDisable_within ..)
    | decide

theorem State.execActCurrentLimit_within (n : Fin 3) (milliamps : Int) (s : State) : ∀ v, execActCurrentLimit n milliamps s = .next v → s.WithinM 154627211394 v := by
  intro v h
  unfold execActCurrentLimit at h
  refine State.done_within (by decide) h ?_
  repeat' first
    | with_reducible exact State.WithinM.refl _ _
    | with_reducible assumption
    | with_reducible apply State.WithinM.step (State.actLimit_within ..)
    | decide

end Sys2Proof.Machine
end

