-- ==== Sys2Proof/Laws/WithinExecDcdc.lean ====
section
/-! SUPPORT. Which kinds of state each operation of Machine/ExecDcdc.lean can change. -/

namespace Sys2Proof.Machine

variable {m : Nat} {s t u : State}

theorem State.execDcdcStart_within (port : Port) (s : State) : ∀ v, execDcdcStart port s = .next v → s.WithinM 1099511627670 v := by
  intro v h
  unfold execDcdcStart at h
  refine State.done_within (by decide) h ?_
  repeat' first
    | with_reducible exact State.WithinM.refl _ _
    | with_reducible assumption
    | with_reducible apply State.WithinM.step (State.portStore_within ..)
    | decide

theorem State.execDcdcStop_within (port : Port) (s : State) : ∀ v, execDcdcStop port s = .next v → s.WithinM 1099511627670 v := by
  intro v h
  unfold execDcdcStop at h
  refine State.done_within (by decide) h ?_
  repeat' first
    | with_reducible exact State.WithinM.refl _ _
    | with_reducible assumption
    | with_reducible apply State.WithinM.step (State.portStore_within ..)
    | decide

theorem State.execDcdcShortCheck_within (s : State) : ∀ v, execDcdcShortCheck s = .next v → s.WithinM 137447344258 v := by
  intro v h
  unfold execDcdcShortCheck at h
  refine State.done_within (by decide) h ?_
  repeat' first
    | with_reducible exact State.WithinM.refl _ _
    | with_reducible assumption
    | with_reducible apply State.WithinM.step (State.dcdcShort_within ..)
    | decide

theorem State.execDcdcHiccupRetry_within (s : State) : ∀ v, execDcdcHiccupRetry s = .next v → s.WithinM 139586439298 v := by
  intro v h
  unfold execDcdcHiccupRetry at h
  refine State.done_within (by decide) h ?_
  repeat' first
    | with_reducible exact State.WithinM.refl _ _
    | with_reducible assumption
    | with_reducible apply State.WithinM.step (State.dcdcRetry_within ..)
    | decide

theorem State.execHiccntClear_within (s : State) : ∀ v, execHiccntClear s = .next v → s.WithinM 137438953602 v := by
  intro v h
  unfold execHiccntClear at h
  refine State.done_within (by decide) h ?_
  repeat' first
    | with_reducible exact State.WithinM.refl _ _
    | with_reducible assumption
    | with_reducible apply State.WithinM.step (State.dcdcHealthy_within ..)
    | decide

theorem State.execDcdcShortClear_within (port : Port) (s : State) : ∀ v, execDcdcShortClear port s = .next v → s.WithinM 1099511627670 v := by
  intro v h
  unfold execDcdcShortClear at h
  refine State.done_within (by decide) h ?_
  repeat' first
    | with_reducible exact State.WithinM.refl _ _
    | with_reducible assumption
    | with_reducible apply State.WithinM.step (State.portStore_within ..)
    | decide

theorem State.execDcdcSyncEdge_within (s : State) : ∀ v, execDcdcSyncEdge s = .next v → s.WithinM 139586437250 v := by
  intro v h
  unfold execDcdcSyncEdge at h
  refine State.done_within (by decide) h ?_
  repeat' first
    | with_reducible exact State.WithinM.refl _ _
    | with_reducible assumption
    | with_reducible apply State.WithinM.step (State.dcdcEdge_within ..)
    | decide

theorem State.execDcdcSyncMissing_within (s : State) : ∀ v, execDcdcSyncMissing s = .next v → s.WithinM 139586439298 v := by
  intro v h
  unfold execDcdcSyncMissing at h
  refine State.done_within (by decide) h ?_
  repeat' first
    | with_reducible exact State.WithinM.refl _ _
    | with_reducible assumption
    | with_reducible apply State.WithinM.step (State.dcdcMissing_within ..)
    | decide

theorem State.execDcdcShed_within (s : State) : ∀ v, execDcdcShed s = .next v → s.WithinM 137438955650 v := by
  intro v h
  unfold execDcdcShed at h
  refine State.done_within (by decide) h ?_
  repeat' first
    | with_reducible exact State.WithinM.refl _ _
    | with_reducible assumption
    | with_reducible apply State.WithinM.step (State.dcdcShed_within ..)
    | decide

theorem State.execDcdcDutyTimeout_within (s : State) : ∀ v, execDcdcDutyTimeout s = .next v → s.WithinM 137447344258 v := by
  intro v h
  unfold execDcdcDutyTimeout at h
  refine State.done_within (by decide) h ?_
  repeat' first
    | with_reducible exact State.WithinM.refl _ _
    | with_reducible assumption
    | with_reducible apply State.WithinM.step (State.dcdcTrip_within ..)
    | decide

end Sys2Proof.Machine
end

