-- ==== Sys2Proof/Laws/WithinExecGate.lean ====
section
/-! SUPPORT. Which kinds of state each operation of Machine/ExecGate.lean can change. -/

namespace Sys2Proof.Machine

variable {m : Nat} {s t u : State}

theorem State.driveOut_within (s : State) (g pos : Nat) (level : Bool) : s.WithinM 8388608 (State.driveOut s g pos level) := by
  unfold State.driveOut
  try dsimp only
  repeat' first
    | with_reducible exact State.WithinM.refl _ _
    | with_reducible assumption
    | with_reducible refine State.WithinM.ite (fun _ => ?_) (fun _ => ?_)
    | with_reducible refine State.WithinM.iteFst (fun _ => ?_) (fun _ => ?_)
    | with_reducible apply State.WithinM.step (State.putPwm_within ..)
    | decide

theorem State.edgeArrives_within (s : State) (ch : Nat) (rising : Bool) : s.WithinM 25165826 (State.edgeArrives s ch rising) := by
  unfold State.edgeArrives
  try dsimp only
  repeat' first
    | with_reducible exact State.WithinM.refl _ _
    | with_reducible assumption
    | with_reducible refine State.WithinM.ite (fun _ => ?_) (fun _ => ?_)
    | with_reducible refine State.WithinM.iteFst (fun _ => ?_) (fun _ => ?_)
    | with_reducible apply State.WithinM.step (State.commandEdge_within ..)
    | with_reducible apply State.WithinM.step (State.driveOut_within ..)
    | decide

theorem State.execGateCommandEdge_within (ch : Fin 36) (rising : Bool) (s : State) : ∀ v, execGateCommandEdge ch rising s = .next v → s.WithinM 137464119426 v := by
  intro v h
  unfold execGateCommandEdge at h
  refine State.done_within (by decide) h ?_
  repeat' first
    | with_reducible exact State.WithinM.refl _ _
    | with_reducible assumption
    | with_reducible apply State.WithinM.step (State.edgeArrives_within ..)
    | decide

theorem State.phaseLate_within (s : State) (ch bit_ : Nat) (onTime : Bool) : s.WithinM 2050 (State.phaseLate s ch bit_ onTime) := by
  unfold State.phaseLate
  repeat' first
    | with_reducible exact State.WithinM.refl _ _
    | with_reducible assumption
    | with_reducible refine State.WithinM.ite (fun _ => ?_) (fun _ => ?_)
    | with_reducible refine State.WithinM.iteFst (fun _ => ?_) (fun _ => ?_)
    | with_reducible apply State.WithinM.step (State.raise_within ..)
    | with_reducible apply State.WithinM.step (State.setFlag_within ..)
    | decide

theorem State.gateLow_within (s : State) (ch : Nat) : s.WithinM 16777218 (State.gateLow s ch) := by
  unfold State.gateLow
  repeat' first
    | with_reducible exact State.WithinM.refl _ _
    | with_reducible assumption
    | with_reducible apply State.WithinM.step (State.confirm_within ..)
    | with_reducible apply State.WithinM.step (State.setPhase_within ..)
    | with_reducible apply State.WithinM.step (State.settleGate_within ..)
    | decide

theorem State.phaseEnd_within (s : State) (ch : Nat) (onTime : Bool) : s.WithinM 16779266 (State.phaseEnd s ch onTime) := by
  unfold State.phaseEnd
  try dsimp only
  repeat' first
    | with_reducible exact State.WithinM.refl _ _
    | with_reducible assumption
    | with_reducible refine State.WithinM.ite (fun _ => ?_) (fun _ => ?_)
    | with_reducible refine State.WithinM.iteFst (fun _ => ?_) (fun _ => ?_)
    | with_reducible apply State.WithinM.step (State.gateLow_within ..)
    | with_reducible apply State.WithinM.step (State.phaseLate_within ..)
    | with_reducible apply State.WithinM.step (State.setPhase_within ..)
    | with_reducible refine State.WithinM.fst (by assumption) ?_
    | decide
    | split

theorem State.execProfilePhaseEnd_within (ch : Fin 36) (onTime : Bool) (s : State) : ∀ v, execProfilePhaseEnd ch onTime s = .next v → s.WithinM 137455732866 v := by
  intro v h
  unfold execProfilePhaseEnd at h
  refine State.done_within (by decide) h ?_
  repeat' first
    | with_reducible exact State.WithinM.refl _ _
    | with_reducible assumption
    | with_reducible apply State.WithinM.step (State.phaseEnd_within ..)
    | decide

theorem State.execPartnerGateLowConfirmed_within (ch : Fin 36) (s : State) : ∀ v, execPartnerGateLowConfirmed ch s = .next v → s.WithinM 137455730818 v := by
  intro v h
  unfold execPartnerGateLowConfirmed at h
  refine State.done_within (by decide) h ?_
  repeat' first
    | with_reducible exact State.WithinM.refl _ _
    | with_reducible assumption
    | with_reducible refine State.WithinM.ite (fun _ => ?_) (fun _ => ?_)
    | with_reducible refine State.WithinM.iteFst (fun _ => ?_) (fun _ => ?_)
    | with_reducible apply State.WithinM.step (State.hoist_within ..)
    | decide

theorem State.handshakeLost_within (s : State) (ch : Nat) : s.WithinM 150996994 (State.handshakeLost s ch) := by
  unfold State.handshakeLost
  try dsimp only
  repeat' first
    | with_reducible exact State.WithinM.refl _ _
    | with_reducible assumption
    | with_reducible refine State.WithinM.ite (fun _ => ?_) (fun _ => ?_)
    | with_reducible refine State.WithinM.iteFst (fun _ => ?_) (fun _ => ?_)
    | with_reducible refine State.when_within (fun _ => ?_) ?_
    | with_reducible apply State.WithinM.step (State.confirm_within ..)
    | with_reducible apply State.WithinM.step (State.gatesRefresh_within ..)
    | with_reducible apply State.WithinM.step (State.latchFault_within ..)
    | with_reducible apply State.WithinM.step (State.putChan_within ..)
    | decide

theorem State.execHandshakeTimeout_within (ch : Fin 36) (s : State) : ∀ v, execHandshakeTimeout ch s = .next v → s.WithinM 137589950594 v := by
  intro v h
  unfold execHandshakeTimeout at h
  refine State.done_within (by decide) h ?_
  repeat' first
    | with_reducible exact State.WithinM.refl _ _
    | with_reducible assumption
    | with_reducible apply State.WithinM.step (State.handshakeLost_within ..)
    | decide

theorem State.execDesaturation_within (ch : Fin 36) (s : State) : ∀ v, execDesaturation ch s = .next v → s.WithinM 137589950594 v := by
  intro v h
  unfold execDesaturation at h
  refine State.done_within (by decide) h ?_
  repeat' first
    | with_reducible exact State.WithinM.refl _ _
    | with_reducible assumption
    | with_reducible refine State.WithinM.ite (fun _ => ?_) (fun _ => ?_)
    | with_reducible refine State.WithinM.iteFst (fun _ => ?_) (fun _ => ?_)
    | with_reducible apply State.WithinM.step (State.gatesRefresh_within ..)
    | with_reducible apply State.WithinM.step (State.latchFault_within ..)
    | with_reducible apply State.WithinM.step (State.reef_within ..)
    | decide

theorem State.reefEnds_within (s : State) (ch : Nat) : s.WithinM 50331650 (State.reefEnds s ch) := by
  unfold State.reefEnds
  repeat' first
    | with_reducible exact State.WithinM.refl _ _
    | with_reducible assumption
    | with_reducible refine State.WithinM.ite (fun _ => ?_) (fun _ => ?_)
    | with_reducible refine State.WithinM.iteFst (fun _ => ?_) (fun _ => ?_)
    | with_reducible apply State.WithinM.step (State.confirm_within ..)
    | with_reducible apply State.WithinM.step (State.finishGclr_within ..)
    | with_reducible apply State.WithinM.step (State.setPhase_within ..)
    | with_reducible apply State.WithinM.step (State.settleGate_within ..)
    | decide

theorem State.execReefStep2_within (ch : Fin 36) (s : State) : ∀ v, execReefStep2 ch s = .next v → s.WithinM 137623502978 v := by
  intro v h
  unfold execReefStep2 at h
  refine State.done_within (by decide) h ?_
  repeat' first
    | with_reducible exact State.WithinM.refl _ _
    | with_reducible assumption
    | with_reducible apply State.WithinM.step (State.gatesRefresh_within ..)
    | with_reducible apply State.WithinM.step (State.reefEnds_within ..)
    | decide

theorem State.execGclr_within (port : Port) (g : Fin 6) (s : State) : ∀ v, execGclr port g s = .next v → s.WithinM 1099511627670 v := by
  intro v h
  unfold execGclr at h
  refine State.done_within (by decide) h ?_
  repeat' first
    | with_reducible exact State.WithinM.refl _ _
    | with_reducible assumption
    | with_reducible apply State.WithinM.step (State.portStore_within ..)
    | decide

theorem State.railLevel_within (s : State) (ch mv : Nat) : s.WithinM 50333698 (State.railLevel s ch mv) := by
  unfold State.railLevel
  try dsimp only
  repeat' first
    | with_reducible exact State.WithinM.refl _ _
    | with_reducible assumption
    | with_reducible refine State.WithinM.ite (fun _ => ?_) (fun _ => ?_)
    | with_reducible refine State.WithinM.iteFst (fun _ => ?_) (fun _ => ?_)
    | with_reducible apply State.WithinM.step (State.finishGclr_within ..)
    | with_reducible apply State.WithinM.step (State.gateLow_within ..)
    | with_reducible apply State.WithinM.step (State.latchFault_within ..)
    | with_reducible apply State.WithinM.step (State.putChan_within ..)
    | with_reducible apply State.WithinM.step (State.setPhase_within ..)
    | decide

theorem State.execUndervoltageLockout_within (ch : Fin 36) (mv : Nat) (s : State) : ∀ v, execUndervoltageLockout ch mv s = .next v → s.WithinM 137489287298 v := by
  intro v h
  unfold execUndervoltageLockout at h
  refine State.done_within (by decide) h ?_
  repeat' first
    | with_reducible exact State.WithinM.refl _ _
    | with_reducible assumption
    | with_reducible apply State.WithinM.step (State.railLevel_within ..)
    | decide

theorem State.execLinkFault_within (ch : Fin 36) (s : State) : ∀ v, execLinkFault ch s = .next v → s.WithinM 137589950594 v := by
  intro v h
  unfold execLinkFault at h
  refine State.done_within (by decide) h ?_
  repeat' first
    | with_reducible exact State.WithinM.refl _ _
    | with_reducible assumption
    | with_reducible refine State.WithinM.ite (fun _ => ?_) (fun _ => ?_)
    | with_reducible refine State.WithinM.iteFst (fun _ => ?_) (fun _ => ?_)
    | with_reducible apply State.WithinM.step (State.gatesRefresh_within ..)
    | with_reducible apply State.WithinM.step (State.latchFault_within ..)
    | with_reducible apply State.WithinM.step (State.putChan_within ..)
    | with_reducible apply State.WithinM.step (State.reef_within ..)
    | decide

theorem State.islandTemp_within (s : State) (ch : Nat) (degC : Int) : s.WithinM 2050 (State.islandTemp s ch degC) := by
  unfold State.islandTemp
  try dsimp only
  repeat' first
    | with_reducible exact State.WithinM.refl _ _
    | with_reducible assumption
    | with_reducible refine State.WithinM.ite (fun _ => ?_) (fun _ => ?_)
    | with_reducible refine State.WithinM.iteFst (fun _ => ?_) (fun _ => ?_)
    | with_reducible apply State.WithinM.step (State.raise_within ..)
    | with_reducible apply State.WithinM.step (State.setFlag_within ..)
    | decide

theorem State.execIslandOvertemperature_within (ch : Fin 36) (degC : Int) (s : State) : ∀ v, execIslandOvertemperature ch degC s = .next v → s.WithinM 137438955650 v := by
  intro v h
  unfold execIslandOvertemperature at h
  refine State.done_within (by decide) h ?_
  repeat' first
    | with_reducible exact State.WithinM.refl _ _
    | with_reducible assumption
    | with_reducible apply State.WithinM.step (State.islandTemp_within ..)
    | decide

theorem State.execSelftestRun_within (port : Port) (g : Fin 6) (s : State) : ∀ v, execSelftestRun port g s = .next v → s.WithinM 1099511627670 v := by
  intro v h
  unfold execSelftestRun at h
  refine State.done_within (by decide) h ?_
  repeat' first
    | with_reducible exact State.WithinM.refl _ _
    | with_reducible assumption
    | with_reducible apply State.WithinM.step (State.portStore_within ..)
    | decide

theorem State.execSelftestDone_within (g : Fin 6) (fails : BitVec 8) (s : State) : ∀ v, execSelftestDone g fails s = .next v → s.WithinM 137472510082 v := by
  intro v h
  unfold execSelftestDone at h
  refine State.done_within (by decide) h ?_
  repeat' first
    | with_reducible exact State.WithinM.refl _ _
    | with_reducible assumption
    | with_reducible refine State.WithinM.ite (fun _ => ?_) (fun _ => ?_)
    | with_reducible refine State.WithinM.iteFst (fun _ => ?_) (fun _ => ?_)
    | with_reducible apply State.WithinM.step (State.bootAdvance_within ..)
    | with_reducible apply State.WithinM.step (State.selfTestDone_within ..)
    | decide

end Sys2Proof.Machine
end

