-- ==== Sys2Proof/Laws/WithinExecGms.lean ====
section
/-! SUPPORT. Which kinds of state each operation of Machine/ExecGms.lean can change. -/

namespace Sys2Proof.Machine

variable {m : Nat} {s t u : State}

theorem State.execVersion_within (pair : Fin 2) (s : State) : ∀ v, execVersion pair s = .next v → s.WithinM 137438955654 v := by
  intro v h
  unfold execVersion at h
  refine State.done_within (by decide) h ?_
  repeat' first
    | with_reducible exact State.WithinM.refl _ _
    | with_reducible assumption
    | with_reducible apply State.WithinM.step (State.ansVersion_within ..)
    | with_reducible refine State.mbxRun_within ?_ (fun _ => ?_)
    | decide

theorem State.execWakeCfg_within (pair : Fin 2) (s : State) : ∀ v, execWakeCfg pair s = .next v → s.WithinM 137438955686 v := by
  intro v h
  unfold execWakeCfg at h
  refine State.done_within (by decide) h ?_
  repeat' first
    | with_reducible exact State.WithinM.refl _ _
    | with_reducible assumption
    | with_reducible apply State.WithinM.step (State.wakeCfg_within ..)
    | with_reducible refine State.mbxRun_within ?_ (fun _ => ?_)
    | decide

theorem State.execRetainWrite_within (pair : Fin 2) (s : State) : ∀ v, execRetainWrite pair s = .next v → s.WithinM 137438955654 v := by
  intro v h
  unfold execRetainWrite at h
  refine State.done_within (by decide) h ?_
  repeat' first
    | with_reducible exact State.WithinM.refl _ _
    | with_reducible assumption
    | with_reducible apply State.WithinM.step (State.ansRetain_within ..)
    | with_reducible refine State.mbxRun_within ?_ (fun _ => ?_)
    | decide

theorem State.execDataStore_within (pair : Fin 2) (s : State) : ∀ v, execDataStore pair s = .next v → s.WithinM 137438955670 v := by
  intro v h
  unfold execDataStore at h
  refine State.done_within (by decide) h ?_
  repeat' first
    | with_reducible exact State.WithinM.refl _ _
    | with_reducible assumption
    | with_reducible apply State.WithinM.step (State.ansDataStore_within ..)
    | with_reducible refine State.mbxRun_within ?_ (fun _ => ?_)
    | decide

theorem State.execDataLoad_within (pair : Fin 2) (s : State) : ∀ v, execDataLoad pair s = .next v → s.WithinM 137438955654 v := by
  intro v h
  unfold execDataLoad at h
  refine State.done_within (by decide) h ?_
  repeat' first
    | with_reducible exact State.WithinM.refl _ _
    | with_reducible assumption
    | with_reducible apply State.WithinM.step (State.ansDataLoad_within ..)
    | with_reducible refine State.mbxRun_within ?_ (fun _ => ?_)
    | decide

theorem State.execBbMark_within (pair : Fin 2) (s : State) : ∀ v, execBbMark pair s = .next v → s.WithinM 137438955654 v := by
  intro v h
  unfold execBbMark at h
  refine State.done_within (by decide) h ?_
  repeat' first
    | with_reducible exact State.WithinM.refl _ _
    | with_reducible assumption
    | with_reducible apply State.WithinM.step (State.ansMark_within ..)
    | with_reducible refine State.mbxRun_within ?_ (fun _ => ?_)
    | decide

theorem State.execBbCommit_within (pair : Fin 2) (s : State) : ∀ v, execBbCommit pair s = .next v → s.WithinM 137438955654 v := by
  intro v h
  unfold execBbCommit at h
  refine State.done_within (by decide) h ?_
  repeat' first
    | with_reducible exact State.WithinM.refl _ _
    | with_reducible assumption
    | with_reducible apply State.WithinM.step (State.Answer.ok_within ..)
    | with_reducible apply State.WithinM.step (State.commitStart_within ..)
    | with_reducible refine State.mbxRun_within ?_ (fun _ => ?_)
    | decide

theorem State.execBbRead_within (pair : Fin 2) (s : State) : ∀ v, execBbRead pair s = .next v → s.WithinM 137438955654 v := by
  intro v h
  unfold execBbRead at h
  refine State.done_within (by decide) h ?_
  repeat' first
    | with_reducible exact State.WithinM.refl _ _
    | with_reducible assumption
    | with_reducible apply State.WithinM.step (State.ansBbRead_within ..)
    | with_reducible refine State.mbxRun_within ?_ (fun _ => ?_)
    | decide

theorem State.execBbCfg_within (pair : Fin 2) (s : State) : ∀ v, execBbCfg pair s = .next v → s.WithinM 137438955654 v := by
  intro v h
  unfold execBbCfg at h
  refine State.done_within (by decide) h ?_
  repeat' first
    | with_reducible exact State.WithinM.refl _ _
    | with_reducible assumption
    | with_reducible apply State.WithinM.step (State.ansBbCfg_within ..)
    | with_reducible refine State.mbxRun_within ?_ (fun _ => ?_)
    | decide

theorem State.execFcCfg_within (pair : Fin 2) (s : State) : ∀ v, execFcCfg pair s = .next v → s.WithinM 137438955654 v := by
  intro v h
  unfold execFcCfg at h
  refine State.done_within (by decide) h ?_
  repeat' first
    | with_reducible exact State.WithinM.refl _ _
    | with_reducible assumption
    | with_reducible apply State.WithinM.step (State.ansFcCfg_within ..)
    | with_reducible refine State.mbxRun_within ?_ (fun _ => ?_)
    | decide

theorem State.execFcArm_within (pair : Fin 2) (s : State) : ∀ v, execFcArm pair s = .next v → s.WithinM 137438955654 v := by
  intro v h
  unfold execFcArm at h
  refine State.done_within (by decide) h ?_
  repeat' first
    | with_reducible exact State.WithinM.refl _ _
    | with_reducible assumption
    | with_reducible apply State.WithinM.step (State.ansFcArm_within ..)
    | with_reducible refine State.mbxRun_within ?_ (fun _ => ?_)
    | decide

theorem State.execMeterRead_within (pair : Fin 2) (s : State) : ∀ v, execMeterRead pair s = .next v → s.WithinM 137438955654 v := by
  intro v h
  unfold execMeterRead at h
  refine State.done_within (by decide) h ?_
  repeat' first
    | with_reducible exact State.WithinM.refl _ _
    | with_reducible assumption
    | with_reducible apply State.WithinM.step (State.ansMeterRead_within ..)
    | with_reducible refine State.mbxRun_within ?_ (fun _ => ?_)
    | decide

theorem State.execMeterCal_within (pair : Fin 2) (s : State) : ∀ v, execMeterCal pair s = .next v → s.WithinM 137438955734 v := by
  intro v h
  unfold execMeterCal at h
  refine State.done_within (by decide) h ?_
  repeat' first
    | with_reducible exact State.WithinM.refl _ _
    | with_reducible assumption
    | with_reducible apply State.WithinM.step (State.ansMeterCal_within ..)
    | with_reducible refine State.mbxRun_within ?_ (fun _ => ?_)
    | decide

theorem State.execPassportGet_within (pair : Fin 2) (s : State) : ∀ v, execPassportGet pair s = .next v → s.WithinM 137438955654 v := by
  intro v h
  unfold execPassportGet at h
  refine State.done_within (by decide) h ?_
  repeat' first
    | with_reducible exact State.WithinM.refl _ _
    | with_reducible assumption
    | with_reducible apply State.WithinM.step (State.ansPassport_within ..)
    | with_reducible refine State.mbxRun_within ?_ (fun _ => ?_)
    | decide

theorem State.execPassportZadd_within (pair : Fin 2) (s : State) : ∀ v, execPassportZadd pair s = .next v → s.WithinM 137438955654 v := by
  intro v h
  unfold execPassportZadd at h
  refine State.done_within (by decide) h ?_
  repeat' first
    | with_reducible exact State.WithinM.refl _ _
    | with_reducible assumption
    | with_reducible apply State.WithinM.step (State.ansZadd_within ..)
    | with_reducible refine State.mbxRun_within ?_ (fun _ => ?_)
    | decide

theorem State.execUpdateConfirm_within (pair : Fin 2) (s : State) : ∀ v, execUpdateConfirm pair s = .next v → s.WithinM 137438955734 v := by
  intro v h
  unfold execUpdateConfirm at h
  refine State.done_within (by decide) h ?_
  repeat' first
    | with_reducible exact State.WithinM.refl _ _
    | with_reducible assumption
    | with_reducible apply State.WithinM.step (State.ansConfirm_within ..)
    | with_reducible refine State.mbxRun_within ?_ (fun _ => ?_)
    | decide

theorem State.execAccessDrop_within (pair : Fin 2) (s : State) : ∀ v, execAccessDrop pair s = .next v → s.WithinM 137438955654 v := by
  intro v h
  unfold execAccessDrop at h
  refine State.done_within (by decide) h ?_
  repeat' first
    | with_reducible exact State.WithinM.refl _ _
    | with_reducible assumption
    | with_reducible apply State.WithinM.step (State.Answer.ok_within ..)
    | with_reducible apply State.WithinM.step (State.setLevel_within ..)
    | with_reducible refine State.mbxRun_within ?_ (fun _ => ?_)
    | decide

theorem State.execBbCommitStart_within (s : State) : ∀ v, execBbCommitStart s = .next v → s.WithinM 137438953602 v := by
  intro v h
  unfold execBbCommitStart at h
  refine State.done_within (by decide) h ?_
  repeat' first
    | with_reducible exact State.WithinM.refl _ _
    | with_reducible assumption
    | with_reducible refine State.onGms_within (fun _ => ?_) ?_
    | with_reducible apply State.WithinM.step (State.commitStart_within ..)
    | decide

theorem State.execBbCommitDone_within (s : State) : ∀ v, execBbCommitDone s = .next v → s.WithinM 1099511627766 v := by
  intro v h
  unfold execBbCommitDone at h
  refine State.done_within (by decide) h ?_
  repeat' first
    | with_reducible exact State.WithinM.refl _ _
    | with_reducible assumption
    | with_reducible apply State.WithinM.step (State.commitDone_within ..)
    | decide

theorem State.execBbPeriod_within (s : State) : ∀ v, execBbPeriod s = .next v → s.WithinM 137438953602 v := by
  intro v h
  unfold execBbPeriod at h
  refine State.done_within (by decide) h ?_
  repeat' first
    | with_reducible exact State.WithinM.refl _ _
    | with_reducible assumption
    | with_reducible refine State.onGms_within (fun _ => ?_) ?_
    | with_reducible apply State.WithinM.step (State.commitStart_within ..)
    | decide

theorem State.execFcTick_within (s : State) : ∀ v, execFcTick s = .next v → s.WithinM 137438953606 v := by
  intro v h
  unfold execFcTick at h
  refine State.done_within (by decide) h ?_
  repeat' first
    | with_reducible exact State.WithinM.refl _ _
    | with_reducible assumption
    | with_reducible refine State.onGms_within (fun _ => ?_) ?_
    | with_reducible apply State.WithinM.step (State.fcTick_within ..)
    | decide

theorem State.execFcFreeze_within (s : State) : ∀ v, execFcFreeze s = .next v → s.WithinM 137438955654 v := by
  intro v h
  unfold execFcFreeze at h
  refine State.done_within (by decide) h ?_
  repeat' first
    | with_reducible exact State.WithinM.refl _ _
    | with_reducible assumption
    | with_reducible refine State.onGms_within (fun _ => ?_) ?_
    | with_reducible apply State.WithinM.step (State.fcFreeze_within ..)
    | decide

theorem State.execMeterSample_within (s : State) : ∀ v, execMeterSample s = .next v → s.WithinM 137438953602 v := by
  intro v h
  unfold execMeterSample at h
  refine State.done_within (by decide) h ?_
  repeat' first
    | with_reducible exact State.WithinM.refl _ _
    | with_reducible assumption
    | with_reducible refine State.onGms_within (fun _ => ?_) ?_
    | with_reducible apply State.WithinM.step (State.meterSample_within ..)
    | decide

theorem State.execMeterRecord_within (s : State) : ∀ v, execMeterRecord s = .next v → s.WithinM 137438953686 v := by
  intro v h
  unfold execMeterRecord at h
  refine State.done_within (by decide) h ?_
  repeat' first
    | with_reducible exact State.WithinM.refl _ _
    | with_reducible assumption
    | with_reducible refine State.onGms_within (fun _ => ?_) ?_
    | with_reducible apply State.WithinM.step (State.meterWrite_within ..)
    | decide

theorem State.execPassportHistogram_within (s : State) : ∀ v, execPassportHistogram s = .next v → s.WithinM 137438953602 v := by
  intro v h
  unfold execPassportHistogram at h
  refine State.done_within (by decide) h ?_
  repeat' first
    | with_reducible exact State.WithinM.refl _ _
    | with_reducible assumption
    | with_reducible refine State.onGms_within (fun _ => ?_) ?_
    | with_reducible apply State.WithinM.step (State.histogram_within ..)
    | decide

theorem State.execMramScrub_within (uncorrectable : Bool) (s : State) : ∀ v, execMramScrub uncorrectable s = .next v → s.WithinM 137438953666 v := by
  intro v h
  unfold execMramScrub at h
  refine State.done_within (by decide) h ?_
  repeat' first
    | with_reducible exact State.WithinM.refl _ _
    | with_reducible assumption
    | with_reducible apply State.WithinM.step (State.scrub_within ..)
    | decide

theorem State.execDiagnosticSessionControl_within (ch : Fin 6) (session : Byte) (s : State) : ∀ v, execDiagnosticSessionControl ch session s = .next v → s.WithinM 137438953602 v := by
  intro v h
  unfold execDiagnosticSessionControl at h
  refine State.done_within (by decide) h ?_
  repeat' first
    | with_reducible exact State.WithinM.refl _ _
    | with_reducible assumption
    | with_reducible apply State.WithinM.step (State.udsSessionControl_within ..)
    | decide

theorem State.execSecurityAccess_within (ch : Fin 6) (sub : Byte) (verdict : Bool) (s : State) : ∀ v, execSecurityAccess ch sub verdict s = .next v → s.WithinM 137438955722 v := by
  intro v h
  unfold execSecurityAccess at h
  refine State.done_within (by decide) h ?_
  repeat' first
    | with_reducible exact State.WithinM.refl _ _
    | with_reducible assumption
    | with_reducible apply State.WithinM.step (State.udsSecurity_within ..)
    | decide

theorem State.execAccessTimeout_within (s : State) : ∀ v, execAccessTimeout s = .next v → s.WithinM 137438955650 v := by
  intro v h
  unfold execAccessTimeout at h
  refine State.done_within (by decide) h ?_
  repeat' first
    | with_reducible exact State.WithinM.refl _ _
    | with_reducible assumption
    | with_reducible refine State.onGms_within (fun _ => ?_) ?_
    | with_reducible apply State.WithinM.step (State.setLevel_within ..)
    | decide

theorem State.execReadDataByIdentifier_within (ch : Fin 6) (did : BitVec 16) (s : State) : ∀ v, execReadDataByIdentifier ch did s = .next v → s.WithinM 137438953602 v := by
  intro v h
  unfold execReadDataByIdentifier at h
  refine State.done_within (by decide) h ?_
  repeat' first
    | with_reducible exact State.WithinM.refl _ _
    | with_reducible assumption
    | with_reducible apply State.WithinM.step (State.udsRead_within ..)
    | decide

theorem State.execRequestDownload_within (ch : Fin 6) (slotB : Bool) (length : Nat) (s : State) : ∀ v, execRequestDownload ch slotB length s = .next v → s.WithinM 137438953602 v := by
  intro v h
  unfold execRequestDownload at h
  refine State.done_within (by decide) h ?_
  repeat' first
    | with_reducible exact State.WithinM.refl _ _
    | with_reducible assumption
    | with_reducible apply State.WithinM.step (State.udsDownload_within ..)
    | decide

theorem State.execTransferData_within (ch : Fin 6) (seq : Byte) (data : List Byte) (s : State) : ∀ v, execTransferData ch seq data s = .next v → s.WithinM 137438953622 v := by
  intro v h
  unfold execTransferData at h
  refine State.done_within (by decide) h ?_
  repeat' first
    | with_reducible exact State.WithinM.refl _ _
    | with_reducible assumption
    | with_reducible apply State.WithinM.step (State.udsTransfer_within ..)
    | decide

theorem State.execRequestTransferExit_within (ch : Fin 6) (s : State) : ∀ v, execRequestTransferExit ch s = .next v → s.WithinM 137438953602 v := by
  intro v h
  unfold execRequestTransferExit at h
  refine State.done_within (by decide) h ?_
  repeat' first
    | with_reducible exact State.WithinM.refl _ _
    | with_reducible assumption
    | with_reducible apply State.WithinM.step (State.udsExit_within ..)
    | decide

theorem State.execRoutineCheckSlot_within (ch : Fin 6) (facts : SlotFacts) (s : State) : ∀ v, execRoutineCheckSlot ch facts s = .next v → s.WithinM 137438953666 v := by
  intro v h
  unfold execRoutineCheckSlot at h
  refine State.done_within (by decide) h ?_
  repeat' first
    | with_reducible exact State.WithinM.refl _ _
    | with_reducible assumption
    | with_reducible apply State.WithinM.step (State.udsCheck_within ..)
    | decide

theorem State.execRoutineActivateSlot_within (ch : Fin 6) (s : State) : ∀ v, execRoutineActivateSlot ch s = .next v → s.WithinM 137438955730 v := by
  intro v h
  unfold execRoutineActivateSlot at h
  refine State.done_within (by decide) h ?_
  repeat' first
    | with_reducible exact State.WithinM.refl _ _
    | with_reducible assumption
    | with_reducible apply State.WithinM.step (State.udsActivate_within ..)
    | decide

theorem State.execRoutinePairRestart_within (ch : Fin 6) (option : Byte) (s : State) : ∀ v, execRoutinePairRestart ch option s = .next v → s.WithinM 137438978182 v := by
  intro v h
  unfold execRoutinePairRestart at h
  refine State.done_within (by decide) h ?_
  repeat' first
    | with_reducible exact State.WithinM.refl _ _
    | with_reducible assumption
    | with_reducible apply State.WithinM.step (State.udsPairRestart_within ..)
    | decide

theorem State.execEcuReset_within (ch : Fin 6) (sub : Byte) (s : State) : ∀ v, execEcuReset ch sub s = .next v → s.WithinM 137438953602 v := by
  intro v h
  unfold execEcuReset at h
  refine State.done_within (by decide) h ?_
  repeat' first
    | with_reducible exact State.WithinM.refl _ _
    | with_reducible assumption
    | with_reducible apply State.WithinM.step (State.udsReset_within ..)
    | decide

theorem State.testerWrite_within (s : State) (ch a : Nat) (w : Word) : s.WithinM 1099511627158 (State.testerWrite s ch a w) := by
  unfold State.testerWrite
  try dsimp only
  repeat' first
    | with_reducible exact State.WithinM.refl _ _
    | with_reducible assumption
    | with_reducible refine State.WithinM.ite (fun _ => ?_) (fun _ => ?_)
    | with_reducible refine State.WithinM.iteFst (fun _ => ?_) (fun _ => ?_)
    | with_reducible apply State.WithinM.step (State.regWrite_within ..)
    | with_reducible apply State.WithinM.step (State.setKey_within ..)
    | with_reducible apply State.WithinM.step (State.udsNo_within ..)
    | with_reducible apply State.WithinM.step (State.udsOk_within ..)
    | with_reducible refine State.WithinM.fst (by assumption) ?_
    | decide
    | split

theorem State.execTesterConfigWrite_within (ch : Fin 6) (addr value : Word) (s : State) : ∀ v, execTesterConfigWrite ch addr value s = .next v → s.WithinM 1099511627158 v := by
  intro v h
  unfold execTesterConfigWrite at h
  split at h
  · refine State.done_within (by decide) h ?_
    repeat' first
      | with_reducible exact State.WithinM.refl _ _
      | with_reducible assumption
      | with_reducible apply State.WithinM.step (State.testerWrite_within ..)
      | with_reducible refine State.WithinM.fst (by assumption) ?_
      | decide
  · contradiction

end Sys2Proof.Machine
end

