-- ==== Sys2Proof/Laws/WithinExecIcx.lean ====
section
/-! SUPPORT. Which kinds of state each operation of Machine/ExecIcx.lean can change. -/

namespace Sys2Proof.Machine

variable {m : Nat} {s t u : State}

theorem State.execTransactionIssue_within (port : Port) (t : Txn) (s : State) : ∀ v, execTransactionIssue port t s = .next v → s.WithinM 137438960258 v := by
  intro v h
  unfold execTransactionIssue at h
  repeat' split at h
  all_goals first
    | contradiction
    | refine State.done_within (by decide) h ?_
  all_goals
    repeat' first
      | with_reducible exact State.WithinM.refl _ _
      | with_reducible assumption
      | with_reducible refine State.WithinM.ite (fun _ => ?_) (fun _ => ?_)
      | with_reducible refine State.WithinM.iteFst (fun _ => ?_) (fun _ => ?_)
      | with_reducible apply State.WithinM.step (State.issue_within ..)
      | decide

theorem State.execArbitrationRound_within (t : Fin 16) (s : State) : ∀ v, execArbitrationRound t s = .next v → s.WithinM 137438959746 v := by
  intro v h
  unfold execArbitrationRound at h
  refine State.done_within (by decide) h ?_
  repeat' first
    | with_reducible exact State.WithinM.refl _ _
    | with_reducible assumption
    | with_reducible apply State.WithinM.step (State.icxArbitrate_within ..)
    | decide

theorem State.execTransactionResponse_within (t : Fin 16) (s : State) : ∀ v, execTransactionResponse t s = .next v → s.WithinM 1099511627670 v := by
  intro v h
  unfold execTransactionResponse at h
  refine State.done_within (by decide) h ?_
  repeat' first
    | with_reducible exact State.WithinM.refl _ _
    | with_reducible assumption
    | with_reducible apply State.WithinM.step (State.respond_within ..)
    | decide

theorem State.execTargetTimeout_within (t : Fin 16) (s : State) : ∀ v, execTargetTimeout t s = .next v → s.WithinM 137438968450 v := by
  intro v h
  unfold execTargetTimeout at h
  refine State.done_within (by decide) h ?_
  repeat' first
    | with_reducible exact State.WithinM.refl _ _
    | with_reducible assumption
    | with_reducible apply State.WithinM.step (State.targetTimeout_within ..)
    | decide

theorem State.execLrW_within (port : Port) (rd : Fin 32) (addr : Word) (s : State) : ∀ v, execLrW port rd addr s = .next v → s.WithinM 1099511627670 v := by
  intro v h
  unfold execLrW at h
  repeat' split at h
  all_goals first
    | contradiction
    | refine State.done_within (by decide) h ?_
  all_goals
    repeat' first
      | with_reducible exact State.WithinM.refl _ _
      | with_reducible assumption
      | with_reducible refine State.WithinM.ite (fun _ => ?_) (fun _ => ?_)
      | with_reducible refine State.WithinM.iteFst (fun _ => ?_) (fun _ => ?_)
      | with_reducible refine State.when_within (fun _ => ?_) ?_
      | with_reducible apply State.WithinM.step (State.loadReserved_within ..)
      | decide

theorem State.execScW_within (port : Port) (rd : Fin 32) (addr value : Word) (s : State) : ∀ v, execScW port rd addr value s = .next v → s.WithinM 1099511627670 v := by
  intro v h
  unfold execScW at h
  repeat' split at h
  all_goals first
    | contradiction
    | refine State.done_within (by decide) h ?_
  all_goals
    repeat' first
      | with_reducible exact State.WithinM.refl _ _
      | with_reducible assumption
      | with_reducible refine State.WithinM.ite (fun _ => ?_) (fun _ => ?_)
      | with_reducible refine State.WithinM.iteFst (fun _ => ?_) (fun _ => ?_)
      | with_reducible refine State.when_within (fun _ => ?_) ?_
      | with_reducible apply State.WithinM.step (State.storeConditional_within ..)
      | decide

theorem State.execAmo_within (port : Port) (op : AmoOp) (rd : Fin 32) (addr value : Word) (s : State) : ∀ v, execAmo port op rd addr value s = .next v → s.WithinM 1099511627670 v := by
  intro v h
  unfold execAmo at h
  repeat' split at h
  all_goals first
    | contradiction
    | refine State.done_within (by decide) h ?_
  all_goals
    repeat' first
      | with_reducible exact State.WithinM.refl _ _
      | with_reducible assumption
      | with_reducible refine State.WithinM.ite (fun _ => ?_) (fun _ => ?_)
      | with_reducible refine State.WithinM.iteFst (fun _ => ?_) (fun _ => ?_)
      | with_reducible refine State.when_within (fun _ => ?_) ?_
      | with_reducible apply State.WithinM.step (State.atomic_within ..)
      | decide

theorem State.execFence_within (core : Fin 4) (s : State) : ∀ v, execFence core s = .next v → s.WithinM 137438961794 v := by
  intro v h
  unfold execFence at h
  refine State.done_within (by decide) h ?_
  repeat' first
    | with_reducible exact State.WithinM.refl _ _
    | with_reducible assumption
    | with_reducible refine State.WithinM.ite (fun _ => ?_) (fun _ => ?_)
    | with_reducible refine State.WithinM.iteFst (fun _ => ?_) (fun _ => ?_)
    | with_reducible apply State.WithinM.step (State.putCore_within ..)
    | decide

theorem State.execLockExpiry_within (t : Fin 16) (s : State) : ∀ v, execLockExpiry t s = .next v → s.WithinM 137438959746 v := by
  intro v h
  unfold execLockExpiry at h
  refine State.done_within (by decide) h ?_
  repeat' first
    | with_reducible exact State.WithinM.refl _ _
    | with_reducible assumption
    | with_reducible apply State.WithinM.step (State.lockExpire_within ..)
    | decide

theorem State.execIcxCfg_within (pair : Fin 2) (s : State) : ∀ v, execIcxCfg pair s = .next v → s.WithinM 137438959750 v := by
  intro v h
  unfold execIcxCfg at h
  refine State.done_within (by decide) h ?_
  repeat' first
    | with_reducible exact State.WithinM.refl _ _
    | with_reducible assumption
    | with_reducible apply State.WithinM.step (State.ansIcxCfg_within ..)
    | with_reducible refine State.mbxRun_within ?_ (fun _ => ?_)
    | decide

theorem State.execInterconnectPeriod_within (s : State) : ∀ v, execInterconnectPeriod s = .next v → s.WithinM 137438959746 v := by
  intro v h
  unfold execInterconnectPeriod at h
  refine State.done_within (by decide) h ?_
  repeat' first
    | with_reducible exact State.WithinM.refl _ _
    | with_reducible assumption
    | with_reducible refine State.onPage_within (fun _ => ?_) ?_
    | with_reducible apply State.WithinM.step (State.icxPeriod_within ..)
    | decide

theorem State.execTrimBudgetCut_within (n : Fin 4) (mismatch : Bool) (s : State) : ∀ v, execTrimBudgetCut n mismatch s = .next v → s.WithinM 137439185026 v := by
  intro v h
  unfold execTrimBudgetCut at h
  refine State.done_within (by decide) h ?_
  repeat' first
    | with_reducible exact State.WithinM.refl _ _
    | with_reducible assumption
    | with_reducible apply State.WithinM.step (State.budgetCut_within ..)
    | with_reducible refine State.WithinM.fst (by assumption) ?_
    | decide

end Sys2Proof.Machine
end

