-- ==== Sys2Proof/Laws/WithinExecNet.lean ====
section
/-! SUPPORT. Which kinds of state each operation of Machine/ExecNet.lean can change. -/

namespace Sys2Proof.Machine

variable {m : Nat} {s t u : State}

theorem State.execCanRxFrame_within (n : Fin 4) (xtd remote fd : Bool) (id : BitVec 29) (data : List Byte) (s : State) : ∀ v, execCanRxFrame n xtd remote fd id data s = .next v → s.WithinM 137438955662 v := by
  intro v h
  unfold execCanRxFrame at h
  refine State.done_within (by decide) h ?_
  repeat' first
    | with_reducible exact State.WithinM.refl _ _
    | with_reducible assumption
    | with_reducible apply State.WithinM.step (State.canReceive_within ..)
    | decide

theorem State.execCanTxtailWrite_within (port : Port) (n : Fin 4) (tail : BitVec 8) (s : State) : ∀ v, execCanTxtailWrite port n tail s = .next v → s.WithinM 1099511627670 v := by
  intro v h
  unfold execCanTxtailWrite at h
  refine State.done_within (by decide) h ?_
  repeat' first
    | with_reducible exact State.WithinM.refl _ _
    | with_reducible assumption
    | with_reducible apply State.WithinM.step (State.portStore_within ..)
    | decide

theorem State.execCanTxDone_within (n : Fin 4) (s : State) : ∀ v, execCanTxDone n s = .next v → s.WithinM 137438955654 v := by
  intro v h
  unfold execCanTxDone at h
  refine State.done_within (by decide) h ?_
  repeat' first
    | with_reducible exact State.WithinM.refl _ _
    | with_reducible assumption
    | with_reducible apply State.WithinM.step (State.canSent_within ..)
    | decide

theorem State.execEthRxFrame_within (n : Fin 2) (frame : List Byte) (crcOk : Bool) (s : State) : ∀ v, execEthRxFrame n frame crcOk s = .next v → s.WithinM 137438955654 v := by
  intro v h
  unfold execEthRxFrame at h
  refine State.done_within (by decide) h ?_
  repeat' first
    | with_reducible exact State.WithinM.refl _ _
    | with_reducible assumption
    | with_reducible apply State.WithinM.step (State.ethReceive_within ..)
    | decide

theorem State.execEthTxtailWrite_within (port : Port) (n : Fin 2) (ring : Fin 2) (tail : BitVec 16) (s : State) : ∀ v, execEthTxtailWrite port n ring tail s = .next v → s.WithinM 1099511627670 v := by
  intro v h
  unfold execEthTxtailWrite at h
  refine State.done_within (by decide) h ?_
  repeat' first
    | with_reducible exact State.WithinM.refl _ _
    | with_reducible assumption
    | with_reducible apply State.WithinM.step (State.portStore_within ..)
    | decide

theorem State.execEthTxDone_within (n : Fin 2) (s : State) : ∀ v, execEthTxDone n s = .next v → s.WithinM 137438955654 v := by
  intro v h
  unfold execEthTxDone at h
  refine State.done_within (by decide) h ?_
  repeat' first
    | with_reducible exact State.WithinM.refl _ _
    | with_reducible assumption
    | with_reducible apply State.WithinM.step (State.ethSent_within ..)
    | decide

theorem State.execEthLinkChange_within (n : Fin 2) (up : Bool) (s : State) : ∀ v, execEthLinkChange n up s = .next v → s.WithinM 687194769538 v := by
  intro v h
  unfold execEthLinkChange at h
  refine State.done_within (by decide) h ?_
  repeat' first
    | with_reducible exact State.WithinM.refl _ _
    | with_reducible assumption
    | with_reducible apply State.WithinM.step (State.ethLink_within ..)
    | decide

theorem State.execNtofshWrite_within (port : Port) (value : Word) (s : State) : ∀ v, execNtofshWrite port value s = .next v → s.WithinM 1099511627670 v := by
  intro v h
  unfold execNtofshWrite at h
  refine State.done_within (by decide) h ?_
  repeat' first
    | with_reducible exact State.WithinM.refl _ _
    | with_reducible assumption
    | with_reducible apply State.WithinM.step (State.portStore_within ..)
    | decide

theorem State.execNtnowlRead_within (port : Port) (s : State) : ∀ v, execNtnowlRead port s = .next v → s.WithinM 1099511627670 v := by
  intro v h
  unfold execNtnowlRead at h
  refine State.done_within (by decide) h ?_
  repeat' first
    | with_reducible exact State.WithinM.refl _ _
    | with_reducible assumption
    | with_reducible apply State.WithinM.step (State.portLoad_within ..)
    | decide

theorem State.execCanBusOff_within (n : Fin 4) (s : State) : ∀ v, execCanBusOff n s = .next v → s.WithinM 687194769538 v := by
  intro v h
  unfold execCanBusOff at h
  refine State.done_within (by decide) h ?_
  repeat' first
    | with_reducible exact State.WithinM.refl _ _
    | with_reducible assumption
    | with_reducible apply State.WithinM.step (State.canBusOff_within ..)
    | decide

end Sys2Proof.Machine
end

