-- ==== Sys2Proof/Laws/WithinExecObc.lean ====
section
/-! SUPPORT. Which kinds of state each operation of Machine/ExecObc.lean can change. -/

namespace Sys2Proof.Machine

variable {m : Nat} {s t u : State}

theorem State.execObcUpdate_within (v1 v2 v3 freq : Nat) (s : State) : ∀ v, execObcUpdate v1 v2 v3 freq s = .next v → s.WithinM 150332278922 v := by
  intro v h
  unfold execObcUpdate at h
  refine State.done_within (by decide) h ?_
  repeat' first
    | with_reducible exact State.WithinM.refl _ _
    | with_reducible assumption
    | with_reducible apply State.WithinM.step (State.obcUpdate_within ..)
    | decide

theorem State.execObcPlugged_within (s : State) : ∀ v, execObcPlugged s = .next v → s.WithinM 150332278914 v := by
  intro v h
  unfold execObcPlugged at h
  refine State.done_within (by decide) h ?_
  repeat' first
    | with_reducible exact State.WithinM.refl _ _
    | with_reducible assumption
    | with_reducible apply State.WithinM.step (State.obcPlugged_within ..)
    | decide

theorem State.execObcStart_within (port : Port) (s : State) : ∀ v, execObcStart port s = .next v → s.WithinM 1099511627670 v := by
  intro v h
  unfold execObcStart at h
  refine State.done_within (by decide) h ?_
  repeat' first
    | with_reducible exact State.WithinM.refl _ _
    | with_reducible assumption
    | with_reducible apply State.WithinM.step (State.portStore_within ..)
    | decide

theorem State.execObcExport_within (port : Port) (s : State) : ∀ v, execObcExport port s = .next v → s.WithinM 1099511627670 v := by
  intro v h
  unfold execObcExport at h
  refine State.done_within (by decide) h ?_
  repeat' first
    | with_reducible exact State.WithinM.refl _ _
    | with_reducible assumption
    | with_reducible apply State.WithinM.step (State.portStore_within ..)
    | decide

theorem State.execObcStop_within (port : Port) (s : State) : ∀ v, execObcStop port s = .next v → s.WithinM 1099511627670 v := by
  intro v h
  unfold execObcStop at h
  refine State.done_within (by decide) h ?_
  repeat' first
    | with_reducible exact State.WithinM.refl _ _
    | with_reducible assumption
    | with_reducible apply State.WithinM.step (State.portStore_within ..)
    | decide

theorem State.execPrechargeDone_within (timeout : Bool) (s : State) : ∀ v, execPrechargeDone timeout s = .next v → s.WithinM 150332278914 v := by
  intro v h
  unfold execPrechargeDone at h
  refine State.done_within (by decide) h ?_
  repeat' first
    | with_reducible exact State.WithinM.refl _ _
    | with_reducible assumption
    | with_reducible apply State.WithinM.step (State.obcPrecharged_within ..)
    | decide

theorem State.execAcPresent_within (timeout : Bool) (s : State) : ∀ v, execAcPresent timeout s = .next v → s.WithinM 150332278914 v := by
  intro v h
  unfold execAcPresent at h
  refine State.done_within (by decide) h ?_
  repeat' first
    | with_reducible exact State.WithinM.refl _ _
    | with_reducible assumption
    | with_reducible apply State.WithinM.step (State.obcAc_within ..)
    | decide

theorem State.execSearchClimb_within (s : State) : ∀ v, execSearchClimb s = .next v → s.WithinM 141733920898 v := by
  intro v h
  unfold execSearchClimb at h
  refine State.done_within (by decide) h ?_
  repeat' first
    | with_reducible exact State.WithinM.refl _ _
    | with_reducible assumption
    | with_reducible apply State.WithinM.step (State.obcClimb_within ..)
    | decide

theorem State.execCvStep_within (s : State) : ∀ v, execCvStep s = .next v → s.WithinM 141733920898 v := by
  intro v h
  unfold execCvStep at h
  refine State.done_within (by decide) h ?_
  repeat' first
    | with_reducible exact State.WithinM.refl _ _
    | with_reducible assumption
    | with_reducible apply State.WithinM.step (State.obcCvStep_within ..)
    | decide

theorem State.execChargeDone_within (s : State) : ∀ v, execChargeDone s = .next v → s.WithinM 150332278914 v := by
  intro v h
  unfold execChargeDone at h
  refine State.done_within (by decide) h ?_
  repeat' first
    | with_reducible exact State.WithinM.refl _ _
    | with_reducible assumption
    | with_reducible apply State.WithinM.step (State.obcDone_within ..)
    | decide

theorem State.execHostWatchdogExpiry_within (s : State) : ∀ v, execHostWatchdogExpiry s = .next v → s.WithinM 150332278914 v := by
  intro v h
  unfold execHostWatchdogExpiry at h
  refine State.done_within (by decide) h ?_
  repeat' first
    | with_reducible exact State.WithinM.refl _ _
    | with_reducible assumption
    | with_reducible apply State.WithinM.step (State.obcHostLost_within ..)
    | decide

theorem State.execHandoverS2Open_within (timeout : Bool) (s : State) : ∀ v, execHandoverS2Open timeout s = .next v → s.WithinM 141742309506 v := by
  intro v h
  unfold execHandoverS2Open at h
  refine State.done_within (by decide) h ?_
  repeat' first
    | with_reducible exact State.WithinM.refl _ _
    | with_reducible assumption
    | with_reducible apply State.WithinM.step (State.obcS2Open_within ..)
    | decide

theorem State.execHandoverAcWaitEnd_within (timeout : Bool) (s : State) : ∀ v, execHandoverAcWaitEnd timeout s = .next v → s.WithinM 141733922946 v := by
  intro v h
  unfold execHandoverAcWaitEnd at h
  refine State.done_within (by decide) h ?_
  repeat' first
    | with_reducible exact State.WithinM.refl _ _
    | with_reducible assumption
    | with_reducible apply State.WithinM.step (State.obcAcGone_within ..)
    | decide

theorem State.execHandoverEnd_within (s : State) : ∀ v, execHandoverEnd s = .next v → s.WithinM 150332278914 v := by
  intro v h
  unfold execHandoverEnd at h
  refine State.done_within (by decide) h ?_
  repeat' first
    | with_reducible exact State.WithinM.refl _ _
    | with_reducible assumption
    | with_reducible apply State.WithinM.step (State.obcFinish_within ..)
    | decide

theorem State.execPilotStateChange_within (high low : Int) (osc : Bool) (s : State) : ∀ v, execPilotStateChange high low osc s = .next v → s.WithinM 150332278914 v := by
  intro v h
  unfold execPilotStateChange at h
  refine State.done_within (by decide) h ?_
  repeat' first
    | with_reducible exact State.WithinM.refl _ _
    | with_reducible assumption
    | with_reducible apply State.WithinM.step (State.pilotState_within ..)
    | decide

theorem State.execPpChange_within (mv : Nat) (s : State) : ∀ v, execPpChange mv s = .next v → s.WithinM 150332278914 v := by
  intro v h
  unfold execPpChange at h
  refine State.done_within (by decide) h ?_
  repeat' first
    | with_reducible exact State.WithinM.refl _ _
    | with_reducible assumption
    | with_reducible apply State.WithinM.step (State.pilotPp_within ..)
    | decide

theorem State.execPilotLimitTimeout_within (s : State) : ∀ v, execPilotLimitTimeout s = .next v → s.WithinM 150332278914 v := by
  intro v h
  unfold execPilotLimitTimeout at h
  refine State.done_within (by decide) h ?_
  repeat' first
    | with_reducible exact State.WithinM.refl _ _
    | with_reducible assumption
    | with_reducible apply State.WithinM.step (State.obcPilotLost_within ..)
    | decide

theorem State.execExportReconnect_within (s : State) : ∀ v, execExportReconnect s = .next v → s.WithinM 141733922946 v := by
  intro v h
  unfold execExportReconnect at h
  refine State.done_within (by decide) h ?_
  repeat' first
    | with_reducible exact State.WithinM.refl _ _
    | with_reducible assumption
    | with_reducible apply State.WithinM.step (State.obcReconnect_within ..)
    | decide

theorem State.execExportWindowTrip_within (s : State) : ∀ v, execExportWindowTrip s = .next v → s.WithinM 141742311554 v := by
  intro v h
  unfold execExportWindowTrip at h
  refine State.done_within (by decide) h ?_
  repeat' first
    | with_reducible exact State.WithinM.refl _ _
    | with_reducible assumption
    | with_reducible apply State.WithinM.step (State.obcWindowTrip_within ..)
    | decide

theorem State.execLampOvercurrent_within (status : Bool) (s : State) : ∀ v, execLampOvercurrent status s = .next v → s.WithinM 146028890242 v := by
  intro v h
  unfold execLampOvercurrent at h
  refine State.done_within (by decide) h ?_
  repeat' first
    | with_reducible exact State.WithinM.refl _ _
    | with_reducible assumption
    | with_reducible refine State.onPage_within (fun _ => ?_) ?_
    | with_reducible apply State.WithinM.step (State.lampOver_within ..)
    | decide

theorem State.execLampRetry_within (status : Bool) (s : State) : ∀ v, execLampRetry status s = .next v → s.WithinM 146028888194 v := by
  intro v h
  unfold execLampRetry at h
  refine State.done_within (by decide) h ?_
  repeat' first
    | with_reducible exact State.WithinM.refl _ _
    | with_reducible assumption
    | with_reducible refine State.onPage_within (fun _ => ?_) ?_
    | with_reducible apply State.WithinM.step (State.lampRetry_within ..)
    | decide

theorem State.execLampPattern_within (status : Bool) (s : State) : ∀ v, execLampPattern status s = .next v → s.WithinM 146028888194 v := by
  intro v h
  unfold execLampPattern at h
  refine State.done_within (by decide) h ?_
  repeat' first
    | with_reducible exact State.WithinM.refl _ _
    | with_reducible assumption
    | with_reducible apply State.WithinM.step (State.lampNext_within ..)
    | decide

theorem State.execPilotCycleMeasured_within (freq duty : Nat) (high low : Int) (s : State) : ∀ v, execPilotCycleMeasured freq duty high low s = .next v → s.WithinM 137438955650 v := by
  intro v h
  unfold execPilotCycleMeasured at h
  refine State.done_within (by decide) h ?_
  repeat' first
    | with_reducible exact State.WithinM.refl _ _
    | with_reducible assumption
    | with_reducible apply State.WithinM.step (State.pilotCycle_within ..)
    | decide

end Sys2Proof.Machine
end

