-- ==== Sys2Proof/Laws/WithinExecPages.lean ====
section
/-! SUPPORT. Which kinds of state each operation of Machine/ExecPages.lean can change. -/

namespace Sys2Proof.Machine

variable {m : Nat} {s t u : State}

theorem State.execPageEnable_within (port : Port) (page : Nat) (s : State) : ∀ v, execPageEnable port page s = .next v → s.WithinM 1099511627670 v := by
  intro v h
  unfold execPageEnable at h
  refine State.done_within (by decide) h ?_
  repeat' first
    | with_reducible exact State.WithinM.refl _ _
    | with_reducible assumption
    | with_reducible apply State.WithinM.step (State.pageStore_within ..)
    | decide

theorem State.execPageDisable_within (port : Port) (page : Nat) (s : State) : ∀ v, execPageDisable port page s = .next v → s.WithinM 1099511627670 v := by
  intro v h
  unfold execPageDisable at h
  refine State.done_within (by decide) h ?_
  repeat' first
    | with_reducible exact State.WithinM.refl _ _
    | with_reducible assumption
    | with_reducible apply State.WithinM.step (State.pageStore_within ..)
    | decide

theorem State.execSoftReset_within (port : Port) (page : Nat) (s : State) : ∀ v, execSoftReset port page s = .next v → s.WithinM 1099511627670 v := by
  intro v h
  unfold execSoftReset at h
  refine State.done_within (by decide) h ?_
  repeat' first
    | with_reducible exact State.WithinM.refl _ _
    | with_reducible assumption
    | with_reducible apply State.WithinM.step (State.pageStore_within ..)
    | decide

theorem State.execConfigLock_within (port : Port) (page : Nat) (s : State) : ∀ v, execConfigLock port page s = .next v → s.WithinM 1099511627670 v := by
  intro v h
  unfold execConfigLock at h
  refine State.done_within (by decide) h ?_
  repeat' first
    | with_reducible exact State.WithinM.refl _ _
    | with_reducible assumption
    | with_reducible apply State.WithinM.step (State.pageStore_within ..)
    | decide

theorem State.execKeyWrite_within (port : Port) (page : Nat) (key : BitVec 16) (s : State) : ∀ v, execKeyWrite port page key s = .next v → s.WithinM 1099511627670 v := by
  intro v h
  unfold execKeyWrite at h
  refine State.done_within (by decide) h ?_
  repeat' first
    | with_reducible exact State.WithinM.refl _ _
    | with_reducible assumption
    | with_reducible apply State.WithinM.step (State.pageStore_within ..)
    | decide

theorem State.keyLapse_within (s : State) (p : Nat) : s.WithinM 256 (State.keyLapse s p) := by
  unfold State.keyLapse
  repeat' first
    | with_reducible exact State.WithinM.refl _ _
    | with_reducible assumption
    | with_reducible apply State.WithinM.step (State.setKey_within ..)
    | with_reducible refine State.WithinM.fst (by assumption) ?_
    | decide
    | split

theorem State.execKeyLapse_within (page : Nat) (s : State) : ∀ v, execKeyLapse page s = .next v → s.WithinM 137438953858 v := by
  intro v h
  unfold execKeyLapse at h
  refine State.done_within (by decide) h ?_
  repeat' first
    | with_reducible exact State.WithinM.refl _ _
    | with_reducible assumption
    | with_reducible apply State.WithinM.step (State.keyLapse_within ..)
    | decide

theorem State.execOwnerClaim_within (port : Port) (page : Nat) (value : Word) (s : State) : ∀ v, execOwnerClaim port page value s = .next v → s.WithinM 1099511627670 v := by
  intro v h
  unfold execOwnerClaim at h
  refine State.done_within (by decide) h ?_
  repeat' first
    | with_reducible exact State.WithinM.refl _ _
    | with_reducible assumption
    | with_reducible apply State.WithinM.step (State.pageStore_within ..)
    | decide

theorem State.execAliasWrite_within (port : Port) (clear : Bool) (addr value : Word) (s : State) : ∀ v, execAliasWrite port clear addr value s = .next v → s.WithinM 1099511627670 v := by
  intro v h
  unfold execAliasWrite at h
  split at h
  · refine State.done_within (by decide) h ?_
    repeat' first
      | with_reducible exact State.WithinM.refl _ _
      | with_reducible assumption
      | with_reducible apply State.WithinM.step (State.perform_within ..)
      | with_reducible refine State.WithinM.fst (by assumption) ?_
      | decide
  · contradiction

theorem State.execRegisterWrite_within (port : Port) (addr value : Word) (s : State) : ∀ v, execRegisterWrite port addr value s = .next v → s.WithinM 1099511627670 v := by
  intro v h
  unfold execRegisterWrite at h
  split at h
  · refine State.done_within (by decide) h ?_
    repeat' first
      | with_reducible exact State.WithinM.refl _ _
      | with_reducible assumption
      | with_reducible apply State.WithinM.step (State.portStore_within ..)
      | with_reducible refine State.WithinM.fst (by assumption) ?_
      | decide
  · contradiction

theorem State.execCrcRecomputed_within (page : Nat) (s : State) : ∀ v, execCrcRecomputed page s = .next v → s.WithinM 137438953858 v := by
  intro v h
  unfold execCrcRecomputed at h
  refine State.done_within (by decide) h ?_
  repeat' first
    | with_reducible exact State.WithinM.refl _ _
    | with_reducible assumption
    | with_reducible refine State.onPage_within (fun _ => ?_) ?_
    | with_reducible apply State.WithinM.step (State.crcDone_within ..)
    | decide

theorem State.upset_within (s : State) (p off : Nat) (x : Word) : s.WithinM 2 (State.upset s p off x) := by
  unfold State.upset
  repeat' first
    | with_reducible exact State.WithinM.refl _ _
    | with_reducible assumption
    | with_reducible refine State.WithinM.ite (fun _ => ?_) (fun _ => ?_)
    | with_reducible refine State.WithinM.iteFst (fun _ => ?_) (fun _ => ?_)
    | with_reducible apply State.WithinM.step (State.setReg_within ..)
    | with_reducible refine State.WithinM.fst (by assumption) ?_
    | decide
    | split

theorem State.crcBad_within (s : State) (p : Nat) : s.WithinM 133341088134 (State.crcBad s p) := by
  unfold State.crcBad
  try dsimp only
  repeat' first
    | with_reducible exact State.WithinM.refl _ _
    | with_reducible assumption
    | with_reducible refine State.WithinM.ite (fun _ => ?_) (fun _ => ?_)
    | with_reducible refine State.WithinM.iteFst (fun _ => ?_) (fun _ => ?_)
    | with_reducible refine State.when_within (fun _ => ?_) ?_
    | with_reducible apply State.WithinM.step (State.fault_within ..)
    | with_reducible apply State.WithinM.step (State.logAcc_within ..)
    | with_reducible apply State.WithinM.step (State.logGms_within ..)
    | with_reducible apply State.WithinM.step (State.pageSafe_within ..)
    | decide

theorem State.crcCompare_within (s : State) (p : Nat) : s.WithinM 133341088134 (State.crcCompare s p) := by
  unfold State.crcCompare
  try dsimp only
  repeat' first
    | with_reducible exact State.WithinM.refl _ _
    | with_reducible assumption
    | with_reducible refine State.WithinM.ite (fun _ => ?_) (fun _ => ?_)
    | with_reducible refine State.WithinM.iteFst (fun _ => ?_) (fun _ => ?_)
    | with_reducible apply State.WithinM.step (State.crcBad_within ..)
    | with_reducible apply State.WithinM.step (State.setReg_within ..)
    | with_reducible refine State.WithinM.fst (by assumption) ?_
    | decide
    | split

theorem State.execCrcCheck_within (page : Nat) (upset : Option (BitVec 12 × Word)) (s : State) : ∀ v, execCrcCheck page upset s = .next v → s.WithinM 270780041606 v := by
  intro v h
  unfold execCrcCheck at h
  refine State.done_within (by decide) h ?_
  repeat' first
    | with_reducible exact State.WithinM.refl _ _
    | with_reducible assumption
    | with_reducible refine State.onPage_within (fun _ => ?_) ?_
    | with_reducible apply State.WithinM.step (State.crcCompare_within ..)
    | with_reducible apply State.WithinM.step (State.upset_within ..)
    | with_reducible refine State.WithinM.fst (by assumption) ?_
    | decide
    | split

theorem State.execEventOccurrence_within (e : Fin 256) (s : State) : ∀ v, execEventOccurrence e s = .next v → s.WithinM 154628951170 v := by
  intro v h
  unfold execEventOccurrence at h
  refine State.done_within (by decide) h ?_
  repeat' first
    | with_reducible exact State.WithinM.refl _ _
    | with_reducible assumption
    | with_reducible apply State.WithinM.step (State.deliver_within ..)
    | decide

theorem State.execCaptureSnap_within (port : Port) (n : Fin 2) (k : Fin 8) (s : State) : ∀ v, execCaptureSnap port n k s = .next v → s.WithinM 1099511627670 v := by
  intro v h
  unfold execCaptureSnap at h
  refine State.done_within (by decide) h ?_
  repeat' first
    | with_reducible exact State.WithinM.refl _ _
    | with_reducible assumption
    | with_reducible apply State.WithinM.step (State.portStore_within ..)
    | decide

theorem State.execCaptureFreezeRead_within (port : Port) (n : Fin 2) (k : Fin 8) (s : State) : ∀ v, execCaptureFreezeRead port n k s = .next v → s.WithinM 1099511627670 v := by
  intro v h
  unfold execCaptureFreezeRead at h
  refine State.done_within (by decide) h ?_
  repeat' first
    | with_reducible exact State.WithinM.refl _ _
    | with_reducible assumption
    | with_reducible apply State.WithinM.step (State.portLoad_within ..)
    | decide

theorem State.execCaptureReleaseRead_within (port : Port) (n : Fin 2) (k : Fin 8) (s : State) : ∀ v, execCaptureReleaseRead port n k s = .next v → s.WithinM 1099511627670 v := by
  intro v h
  unfold execCaptureReleaseRead at h
  refine State.done_within (by decide) h ?_
  repeat' first
    | with_reducible exact State.WithinM.refl _ _
    | with_reducible assumption
    | with_reducible apply State.WithinM.step (State.portLoad_within ..)
    | decide

theorem State.execCaptureFreezeLapse_within (n : Fin 2) (k : Fin 8) (s : State) : ∀ v, execCaptureFreezeLapse n k s = .next v → s.WithinM 137438956674 v := by
  intro v h
  unfold execCaptureFreezeLapse at h
  refine State.done_within (by decide) h ?_
  repeat' first
    | with_reducible exact State.WithinM.refl _ _
    | with_reducible assumption
    | with_reducible apply State.WithinM.step (State.capLapse_within ..)
    | decide

theorem State.execDtimeRead_within (port : Port) (n : Fin 2) (s : State) : ∀ v, execDtimeRead port n s = .next v → s.WithinM 1099511627670 v := by
  intro v h
  unfold execDtimeRead at h
  refine State.done_within (by decide) h ?_
  repeat' first
    | with_reducible exact State.WithinM.refl _ _
    | with_reducible assumption
    | with_reducible apply State.WithinM.step (State.portLoad_within ..)
    | decide

theorem State.execEvrTimerExpiry_within (n : Fin 2) (s : State) : ∀ v, execEvrTimerExpiry n s = .next v → s.WithinM 137438955650 v := by
  intro v h
  unfold execEvrTimerExpiry at h
  refine State.done_within (by decide) h ?_
  repeat' first
    | with_reducible exact State.WithinM.refl _ _
    | with_reducible assumption
    | with_reducible refine State.WithinM.ite (fun _ => ?_) (fun _ => ?_)
    | with_reducible refine State.WithinM.iteFst (fun _ => ?_) (fun _ => ?_)
    | with_reducible apply State.WithinM.step (State.raise_within ..)
    | decide

theorem State.execRecordDrain_within (s : State) : ∀ v, execRecordDrain s = .next v → s.WithinM 137438955650 v := by
  intro v h
  unfold execRecordDrain at h
  refine State.done_within (by decide) h ?_
  repeat' first
    | with_reducible exact State.WithinM.refl _ _
    | with_reducible assumption
    | with_reducible refine State.onGms_within (fun _ => ?_) ?_
    | with_reducible apply State.WithinM.step (State.recordDrain_within ..)
    | decide

end Sys2Proof.Machine
end

