-- ==== Sys2Proof/Laws/WithinExecPair.lean ====
section
/-! SUPPORT. Which kinds of state each operation of Machine/ExecPair.lean can change. -/

namespace Sys2Proof.Machine

variable {m : Nat} {s t u : State}

theorem State.execWindowClose_within (pair : Fin 2) (main checker : List FoldItem) (s : State) : ∀ v, execWindowClose pair main checker s = .next v → s.WithinM 137438969986 v := by
  intro v h
  unfold execWindowClose at h
  refine State.done_within (by decide) h ?_
  repeat' first
    | with_reducible exact State.WithinM.refl _ _
    | with_reducible assumption
    | with_reducible apply State.WithinM.step (State.windowClose_within ..)
    | decide

theorem State.execCompareResult_within (pair : Fin 2) (selfTestOk : Bool) (s : State) : ∀ v, execCompareResult pair selfTestOk s = .next v → s.WithinM 270780070278 v := by
  intro v h
  unfold execCompareResult at h
  refine State.done_within (by decide) h ?_
  repeat' first
    | with_reducible exact State.WithinM.refl _ _
    | with_reducible assumption
    | with_reducible apply State.WithinM.step (State.verdict_within ..)
    | decide

theorem State.execDelayFault_within (pair : Fin 2) (s : State) : ∀ v, execDelayFault pair s = .next v → s.WithinM 270780070278 v := by
  intro v h
  unfold execDelayFault at h
  refine State.done_within (by decide) h ?_
  repeat' first
    | with_reducible exact State.WithinM.refl _ _
    | with_reducible assumption
    | with_reducible apply State.WithinM.step (State.delayFault_within ..)
    | decide

theorem State.execRealignComplete_within (pair : Fin 2) (s : State) : ∀ v, execRealignComplete pair s = .next v → s.WithinM 137438978178 v := by
  intro v h
  unfold execRealignComplete at h
  refine State.done_within (by decide) h ?_
  repeat' first
    | with_reducible exact State.WithinM.refl _ _
    | with_reducible assumption
    | with_reducible apply State.WithinM.step (State.realigned_within ..)
    | decide

theorem State.execAxfinRead_within (core : Fin 4) (rd : Fin 32) (s : State) : ∀ v, execAxfinRead core rd s = .next v → s.WithinM 137438961794 v := by
  intro v h
  unfold execAxfinRead at h
  refine State.done_within (by decide) h ?_
  repeat' first
    | with_reducible exact State.WithinM.refl _ _
    | with_reducible assumption
    | with_reducible apply State.WithinM.step (State.axfinRead_within ..)
    | decide

theorem State.execDevEdgeWake_within (core : Fin 4) (k : Fin 4) (s : State) : ∀ v, execDevEdgeWake core k s = .next v → s.WithinM 137438953602 v := by
  intro v h
  unfold execDevEdgeWake at h
  refine State.done_within (by decide) h ?_
  repeat' first
    | with_reducible exact State.WithinM.refl _ _
    | with_reducible assumption
    | with_reducible apply State.WithinM.step (State.devWake_within ..)
    | decide

theorem State.execPairRestart_within (pair : Fin 2) (s : State) : ∀ v, execPairRestart pair s = .next v → s.WithinM 137438980230 v := by
  intro v h
  unfold execPairRestart at h
  refine State.done_within (by decide) h ?_
  repeat' first
    | with_reducible exact State.WithinM.refl _ _
    | with_reducible assumption
    | with_reducible apply State.WithinM.step (State.ansPairRestart_within ..)
    | with_reducible refine State.mbxRun_within ?_ (fun _ => ?_)
    | decide

theorem State.execSyncReq_within (core : Fin 4) (s : State) : ∀ v, execSyncReq core s = .next v → s.WithinM 1099511627670 v := by
  intro v h
  unfold execSyncReq at h
  refine State.done_within (by decide) h ?_
  repeat' first
    | with_reducible exact State.WithinM.refl _ _
    | with_reducible assumption
    | with_reducible apply State.WithinM.step (State.portStore_within ..)
    | decide

theorem State.execSyncTimeout_within (pair : Fin 2) (s : State) : ∀ v, execSyncTimeout pair s = .next v → s.WithinM 137438980226 v := by
  intro v h
  unfold execSyncTimeout at h
  refine State.done_within (by decide) h ?_
  repeat' first
    | with_reducible exact State.WithinM.refl _ _
    | with_reducible assumption
    | with_reducible apply State.WithinM.step (State.syncTimeout_within ..)
    | decide

theorem State.execLockComplete_within (pair : Fin 2) (s : State) : ∀ v, execLockComplete pair s = .next v → s.WithinM 137438980226 v := by
  intro v h
  unfold execLockComplete at h
  refine State.done_within (by decide) h ?_
  repeat' first
    | with_reducible exact State.WithinM.refl _ _
    | with_reducible assumption
    | with_reducible apply State.WithinM.step (State.lockDone_within ..)
    | decide

theorem State.execSplitReq_within (core : Fin 4) (s : State) : ∀ v, execSplitReq core s = .next v → s.WithinM 1099511627670 v := by
  intro v h
  unfold execSplitReq at h
  refine State.done_within (by decide) h ?_
  repeat' first
    | with_reducible exact State.WithinM.refl _ _
    | with_reducible assumption
    | with_reducible apply State.WithinM.step (State.portStore_within ..)
    | decide

theorem State.execDebugHalt_within (pair : Fin 2) (s : State) : ∀ v, execDebugHalt pair s = .next v → s.WithinM 137438953602 v := by
  intro v h
  unfold execDebugHalt at h
  refine State.done_within (by decide) h ?_
  repeat' first
    | with_reducible exact State.WithinM.refl _ _
    | with_reducible assumption
    | with_reducible apply State.WithinM.step (State.debugHalt_within ..)
    | decide

theorem State.execDebugAbstractCommand_within (pair : Fin 2) (dst : CoreReg) (value : Word) (s : State) : ∀ v, execDebugAbstractCommand pair dst value s = .next v → s.WithinM 137438980226 v := by
  intro v h
  unfold execDebugAbstractCommand at h
  refine State.done_within (by decide) h ?_
  repeat' first
    | with_reducible exact State.WithinM.refl _ _
    | with_reducible assumption
    | with_reducible apply State.WithinM.step (State.debugWrite_within ..)
    | decide

theorem State.execDebugResume_within (pair : Fin 2) (s : State) : ∀ v, execDebugResume pair s = .next v → s.WithinM 137438980226 v := by
  intro v h
  unfold execDebugResume at h
  refine State.done_within (by decide) h ?_
  repeat' first
    | with_reducible exact State.WithinM.refl _ _
    | with_reducible assumption
    | with_reducible apply State.WithinM.step (State.debugResume_within ..)
    | decide

end Sys2Proof.Machine
end

