-- ==== Sys2Proof/Laws/WithinExecPower.lean ====
section
/-! SUPPORT. Which kinds of state each operation of Machine/ExecPower.lean can change. -/

namespace Sys2Proof.Machine

variable {m : Nat} {s t u : State}

theorem State.execPersonality_within (pair : Fin 2) (s : State) : ∀ v, execPersonality pair s = .next v → s.WithinM 137438955734 v := by
  intro v h
  unfold execPersonality at h
  refine State.done_within (by decide) h ?_
  repeat' first
    | with_reducible exact State.WithinM.refl _ _
    | with_reducible assumption
    | with_reducible apply State.WithinM.step (State.ansPersonality_within ..)
    | with_reducible refine State.mbxRun_within ?_ (fun _ => ?_)
    | decide

theorem State.execPdReq_within (pair : Fin 2) (s : State) : ∀ v, execPdReq pair s = .next v → s.WithinM 1099511598486 v := by
  intro v h
  unfold execPdReq at h
  refine State.done_within (by decide) h ?_
  repeat' first
    | with_reducible exact State.WithinM.refl _ _
    | with_reducible assumption
    | with_reducible apply State.WithinM.step (State.pdRequest_within ..)
    | with_reducible refine State.mbxRun_within ?_ (fun _ => ?_)
    | decide

theorem State.execDomainPowered_within (d : Fin 12) (s : State) : ∀ v, execDomainPowered d s = .next v → s.WithinM 137623767186 v := by
  intro v h
  unfold execDomainPowered at h
  refine State.done_within (by decide) h ?_
  repeat' first
    | with_reducible exact State.WithinM.refl _ _
    | with_reducible assumption
    | with_reducible apply State.WithinM.step (State.domainPowered_within ..)
    | decide

theorem State.execSleep_within (pair : Fin 2) (s : State) : ∀ v, execSleep pair s = .next v → s.WithinM 137438955654 v := by
  intro v h
  unfold execSleep at h
  refine State.done_within (by decide) h ?_
  repeat' first
    | with_reducible exact State.WithinM.refl _ _
    | with_reducible assumption
    | with_reducible apply State.WithinM.step (State.sleepGo_within ..)
    | with_reducible refine State.mbxRun_within ?_ (fun _ => ?_)
    | decide

theorem State.execWakeSourceLatch_within (src : Fin 18) (s : State) : ∀ v, execWakeSourceLatch src s = .next v → s.WithinM 137438953634 v := by
  intro v h
  unfold execWakeSourceLatch at h
  refine State.done_within (by decide) h ?_
  repeat' first
    | with_reducible exact State.WithinM.refl _ _
    | with_reducible assumption
    | with_reducible apply State.WithinM.step (State.wakeLatch_within ..)
    | decide

theorem State.execWakeTimerExpiry_within (s : State) : ∀ v, execWakeTimerExpiry s = .next v → s.WithinM 137438955650 v := by
  intro v h
  unfold execWakeTimerExpiry at h
  refine State.done_within (by decide) h ?_
  repeat' first
    | with_reducible exact State.WithinM.refl _ _
    | with_reducible assumption
    | with_reducible apply State.WithinM.step (State.wakeTimerEnd_within ..)
    | decide

theorem State.execWarmWake_within (facts : BootFacts) (s : State) : ∀ v, execWarmWake facts s = .next v → s.WithinM 1099511627766 v := by
  intro v h
  unfold execWarmWake at h
  refine State.done_within (by decide) h ?_
  repeat' first
    | with_reducible exact State.WithinM.refl _ _
    | with_reducible assumption
    | with_reducible apply State.WithinM.step (State.warmWake_within ..)
    | decide

theorem State.execColdStart_within (facts : BootFacts) (s : State) : ∀ v, execColdStart facts s = .next v → s.WithinM 1099511627766 v := by
  intro v h
  unfold execColdStart at h
  refine State.done_within (by decide) h ?_
  repeat' first
    | with_reducible exact State.WithinM.refl _ _
    | with_reducible assumption
    | with_reducible apply State.WithinM.step (State.coldStart_within ..)
    | decide

theorem State.execClockFault_within (xtal : Bool) (s : State) : ∀ v, execClockFault xtal s = .next v → s.WithinM 1043870222470 v := by
  intro v h
  unfold execClockFault at h
  refine State.done_within (by decide) h ?_
  repeat' first
    | with_reducible exact State.WithinM.refl _ _
    | with_reducible assumption
    | with_reducible apply State.WithinM.step (State.clockFault_within ..)
    | decide

theorem State.execPllnetFault_within (s : State) : ∀ v, execPllnetFault s = .next v → s.WithinM 1030792153238 v := by
  intro v h
  unfold execPllnetFault at h
  refine State.done_within (by decide) h ?_
  repeat' first
    | with_reducible exact State.WithinM.refl _ _
    | with_reducible assumption
    | with_reducible apply State.WithinM.step (State.pllnetFault_within ..)
    | decide

theorem State.execPllnetRelock_within (ok : Bool) (s : State) : ∀ v, execPllnetRelock ok s = .next v → s.WithinM 962072676498 v := by
  intro v h
  unfold execPllnetRelock at h
  refine State.done_within (by decide) h ?_
  repeat' first
    | with_reducible exact State.WithinM.refl _ _
    | with_reducible assumption
    | with_reducible apply State.WithinM.step (State.pllnetRelock_within ..)
    | decide

theorem State.execVsWarning_within (vs : BitVec 16) (s : State) : ∀ v, execVsWarning vs s = .next v → s.WithinM 137438955698 v := by
  intro v h
  unfold execVsWarning at h
  refine State.done_within (by decide) h ?_
  repeat' first
    | with_reducible exact State.WithinM.refl _ _
    | with_reducible assumption
    | with_reducible apply State.WithinM.step (State.vsWarning_within ..)
    | decide

theorem State.execVsResume_within (vs lowest : BitVec 16) (s : State) : ∀ v, execVsResume vs lowest s = .next v → s.WithinM 137438955698 v := by
  intro v h
  unfold execVsResume at h
  refine State.done_within (by decide) h ?_
  repeat' first
    | with_reducible exact State.WithinM.refl _ _
    | with_reducible assumption
    | with_reducible apply State.WithinM.step (State.vsResume_within ..)
    | decide

theorem State.execVsOvervoltage_within (vs : BitVec 16) (s : State) : ∀ v, execVsOvervoltage vs s = .next v → s.WithinM 137438955682 v := by
  intro v h
  unfold execVsOvervoltage at h
  refine State.done_within (by decide) h ?_
  repeat' first
    | with_reducible exact State.WithinM.refl _ _
    | with_reducible assumption
    | with_reducible apply State.WithinM.step (State.vsOvervoltage_within ..)
    | decide

theorem State.execSupplyReset_within (vs : BitVec 16) (s : State) : ∀ v, execSupplyReset vs s = .next v → s.WithinM 1099511627766 v := by
  intro v h
  unfold execSupplyReset at h
  refine State.done_within (by decide) h ?_
  repeat' first
    | with_reducible exact State.WithinM.refl _ _
    | with_reducible assumption
    | with_reducible apply State.WithinM.step (State.supplyReset_within ..)
    | decide

theorem State.execHoldupExhausted_within (mastLost : Bool) (s : State) : ∀ v, execHoldupExhausted mastLost s = .next v → s.WithinM 1099511627766 v := by
  intro v h
  unfold execHoldupExhausted at h
  refine State.done_within (by decide) h ?_
  repeat' first
    | with_reducible exact State.WithinM.refl _ _
    | with_reducible assumption
    | with_reducible apply State.WithinM.step (State.holdupExhausted_within ..)
    | decide

theorem State.execColdReset_within (pair : Fin 2) (s : State) : ∀ v, execColdReset pair s = .next v → s.WithinM 137438955654 v := by
  intro v h
  unfold execColdReset at h
  refine State.done_within (by decide) h ?_
  repeat' first
    | with_reducible exact State.WithinM.refl _ _
    | with_reducible assumption
    | with_reducible apply State.WithinM.step (State.ansColdReset_within ..)
    | with_reducible refine State.mbxRun_within ?_ (fun _ => ?_)
    | decide

theorem State.execGmsRestart_within (back : Bool) (s : State) : ∀ v, execGmsRestart back s = .next v → s.WithinM 137438959766 v := by
  intro v h
  unfold execGmsRestart at h
  refine State.done_within (by decide) h ?_
  repeat' first
    | with_reducible exact State.WithinM.refl _ _
    | with_reducible assumption
    | with_reducible refine State.WithinM.ite (fun _ => ?_) (fun _ => ?_)
    | with_reducible refine State.WithinM.iteFst (fun _ => ?_) (fun _ => ?_)
    | with_reducible refine State.onGms_within (fun _ => ?_) ?_
    | with_reducible apply State.WithinM.step (State.gmsBack_within ..)
    | with_reducible apply State.WithinM.step (State.gmsDown_within ..)
    | decide

theorem State.execXtal25Retry_within (facts : BootFacts) (s : State) : ∀ v, execXtal25Retry facts s = .next v → s.WithinM 137590270166 v := by
  intro v h
  unfold execXtal25Retry at h
  refine State.done_within (by decide) h ?_
  repeat' first
    | with_reducible exact State.WithinM.refl _ _
    | with_reducible assumption
    | with_reducible apply State.WithinM.step (State.xtalRetry_within ..)
    | decide

end Sys2Proof.Machine
end

