-- ==== Sys2Proof/Laws/WithinExecPwm.lean ====
section
/-! SUPPORT. Which kinds of state each operation of Machine/ExecPwm.lean can change. -/

namespace Sys2Proof.Machine

variable {m : Nat} {s t u : State}

theorem State.unitBoundary_within (s : State) (u : Nat) : s.WithinM 19335743490 (State.unitBoundary s u) := by
  unfold State.unitBoundary
  try dsimp only
  repeat' first
    | with_reducible exact State.WithinM.refl _ _
    | with_reducible assumption
    | with_reducible refine State.WithinM.ite (fun _ => ?_) (fun _ => ?_)
    | with_reducible refine State.WithinM.iteFst (fun _ => ?_) (fun _ => ?_)
    | with_reducible apply State.WithinM.step (State.actBoundary_within ..)
    | with_reducible apply State.WithinM.step (State.dcdcBoundary_within ..)
    | with_reducible apply State.WithinM.step (State.loadPoint_within ..)
    | with_reducible apply State.WithinM.step (State.obcLoad_within ..)
    | decide

theorem State.boundary_within (s : State) (u : Nat) : s.WithinM 19335743490 (State.boundary s u) := by
  unfold State.boundary
  try dsimp only
  repeat' first
    | with_reducible exact State.WithinM.refl _ _
    | with_reducible assumption
    | with_reducible refine State.WithinM.foldl _ (fun _ _ => ?_) ?_
    | with_reducible apply State.WithinM.step (State.unitBoundary_within ..)
    | with_reducible apply State.WithinM.step (State.syncFollowers_within ..)
    | decide

theorem State.execLoadPoint_within (u : Fin 16) (peak : Bool) (s : State) : ∀ v, execLoadPoint u peak s = .next v → s.WithinM 156774697090 v := by
  intro v h
  unfold execLoadPoint at h
  refine State.done_within (by decide) h ?_
  repeat' first
    | with_reducible exact State.WithinM.refl _ _
    | with_reducible assumption
    | with_reducible refine State.WithinM.ite (fun _ => ?_) (fun _ => ?_)
    | with_reducible refine State.WithinM.iteFst (fun _ => ?_) (fun _ => ?_)
    | with_reducible apply State.WithinM.step (State.boundary_within ..)
    | with_reducible apply State.WithinM.step (State.loadPoint_within ..)
    | with_reducible apply State.WithinM.step (State.setPos_within ..)
    | decide

theorem State.execEventGenerator_within (u : Fin 16) (g : Fin 2) (s : State) : ∀ v, execEventGenerator u g s = .next v → s.WithinM 137447344258 v := by
  intro v h
  unfold execEventGenerator at h
  refine State.done_within (by decide) h ?_
  repeat' first
    | with_reducible exact State.WithinM.refl _ _
    | with_reducible assumption
    | with_reducible apply State.WithinM.step (State.egReference_within ..)
    | decide

theorem State.execAsynchronousTrip_within (u : Fin 16) (s : State) : ∀ v, execAsynchronousTrip u s = .next v → s.WithinM 137598339202 v := by
  intro v h
  unfold execAsynchronousTrip at h
  refine State.done_within (by decide) h ?_
  repeat' first
    | with_reducible exact State.WithinM.refl _ _
    | with_reducible assumption
    | with_reducible refine State.WithinM.ite (fun _ => ?_) (fun _ => ?_)
    | with_reducible refine State.WithinM.iteFst (fun _ => ?_) (fun _ => ?_)
    | with_reducible refine State.each_within (fun _ _ => ?_) ?_
    | with_reducible apply State.WithinM.step (State.gatesRefresh_within ..)
    | with_reducible apply State.WithinM.step (State.outTick_within ..)
    | with_reducible apply State.WithinM.step (State.tripAsync_within ..)
    | decide

theorem State.execTripclr_within (port : Port) (u : Fin 16) (s : State) : ∀ v, execTripclr port u s = .next v → s.WithinM 1099511627670 v := by
  intro v h
  unfold execTripclr at h
  refine State.done_within (by decide) h ?_
  repeat' first
    | with_reducible exact State.WithinM.refl _ _
    | with_reducible assumption
    | with_reducible apply State.WithinM.step (State.portStore_within ..)
    | decide

theorem State.execSwcommit_within (port : Port) (u : Fin 16) (s : State) : ∀ v, execSwcommit port u s = .next v → s.WithinM 1099511627670 v := by
  intro v h
  unfold execSwcommit at h
  refine State.done_within (by decide) h ?_
  repeat' first
    | with_reducible exact State.WithinM.refl _ _
    | with_reducible assumption
    | with_reducible apply State.WithinM.step (State.portStore_within ..)
    | decide

theorem State.execSrdSupplyFail_within (mv : Nat) (s : State) : ∀ v, execSrdSupplyFail mv s = .next v → s.WithinM 137573173378 v := by
  intro v h
  unfold execSrdSupplyFail at h
  refine State.done_within (by decide) h ?_
  repeat' first
    | with_reducible exact State.WithinM.refl _ _
    | with_reducible assumption
    | with_reducible refine State.onPage_within (fun _ => ?_) ?_
    | with_reducible apply State.WithinM.step (State.srdSupply_within ..)
    | decide

end Sys2Proof.Machine
end

