-- ==== Sys2Proof/Laws/WithinExecRing.lean ====
section
/-! SUPPORT. Which kinds of state each operation of Machine/ExecRing.lean can change. -/

namespace Sys2Proof.Machine

variable {m : Nat} {s t u : State}

theorem State.execRingRun_within (port : Port) (k : Fin 4) (s : State) : ∀ v, execRingRun port k s = .next v → s.WithinM 1099511627670 v := by
  intro v h
  unfold execRingRun at h
  refine State.done_within (by decide) h ?_
  repeat' first
    | with_reducible exact State.WithinM.refl _ _
    | with_reducible assumption
    | with_reducible apply State.WithinM.step (State.portStore_within ..)
    | decide

theorem State.execRingStop_within (port : Port) (k : Fin 4) (s : State) : ∀ v, execRingStop port k s = .next v → s.WithinM 1099511627670 v := by
  intro v h
  unfold execRingStop at h
  refine State.done_within (by decide) h ?_
  repeat' first
    | with_reducible exact State.WithinM.refl _ _
    | with_reducible assumption
    | with_reducible apply State.WithinM.step (State.portStore_within ..)
    | decide

theorem State.execRingTone_within (port : Port) (k : Fin 4) (s : State) : ∀ v, execRingTone port k s = .next v → s.WithinM 1099511627670 v := by
  intro v h
  unfold execRingTone at h
  refine State.done_within (by decide) h ?_
  repeat' first
    | with_reducible exact State.WithinM.refl _ _
    | with_reducible assumption
    | with_reducible apply State.WithinM.step (State.portStore_within ..)
    | decide

theorem State.execRingTrainEnd_within (k : Fin 4) (aUp bUp : Bool) (s : State) : ∀ v, execRingTrainEnd k aUp bUp s = .next v → s.WithinM 137438955650 v := by
  intro v h
  unfold execRingTrainEnd at h
  refine State.done_within (by decide) h ?_
  repeat' first
    | with_reducible exact State.WithinM.refl _ _
    | with_reducible assumption
    | with_reducible apply State.WithinM.step (State.ringTrained_within ..)
    | decide

theorem State.execRingEnumDone_within (k : Fin 4) (fromA fromB : List (Nat × NodeFacts)) (full : Bool) (s : State) : ∀ v, execRingEnumDone k fromA fromB full s = .next v → s.WithinM 206158432386 v := by
  intro v h
  unfold execRingEnumDone at h
  refine State.done_within (by decide) h ?_
  repeat' first
    | with_reducible exact State.WithinM.refl _ _
    | with_reducible assumption
    | with_reducible apply State.WithinM.step (State.ringEnumerated_within ..)
    | decide

theorem State.execRingMeasDone_within (k : Fin 4) (hops : List (Nat × Option Nat × Option Nat)) (s : State) : ∀ v, execRingMeasDone k hops s = .next v → s.WithinM 206158432390 v := by
  intro v h
  unfold execRingMeasDone at h
  refine State.done_within (by decide) h ?_
  repeat' first
    | with_reducible exact State.WithinM.refl _ _
    | with_reducible assumption
    | with_reducible apply State.WithinM.step (State.ringMeasured_within ..)
    | decide

theorem State.execRingStreamStart_within (port : Port) (k : Fin 4) (s : State) : ∀ v, execRingStreamStart port k s = .next v → s.WithinM 1099511627670 v := by
  intro v h
  unfold execRingStreamStart at h
  refine State.done_within (by decide) h ?_
  repeat' first
    | with_reducible exact State.WithinM.refl _ _
    | with_reducible assumption
    | with_reducible apply State.WithinM.step (State.portStore_within ..)
    | decide

theorem State.execRingSync_within (k : Fin 4) (s : State) : ∀ v, execRingSync k s = .next v → s.WithinM 206158430338 v := by
  intro v h
  unfold execRingSync at h
  refine State.done_within (by decide) h ?_
  repeat' first
    | with_reducible exact State.WithinM.refl _ _
    | with_reducible assumption
    | with_reducible apply State.WithinM.step (State.ringSync_within ..)
    | decide

theorem State.execRingStreamSend_within (k : Fin 4) (s : State) : ∀ v, execRingStreamSend k s = .next v → s.WithinM 206158430338 v := by
  intro v h
  unfold execRingStreamSend at h
  refine State.done_within (by decide) h ?_
  repeat' first
    | with_reducible exact State.WithinM.refl _ _
    | with_reducible assumption
    | with_reducible apply State.WithinM.step (State.ringSend_within ..)
    | decide

theorem State.execRingStreamReceive_within (k : Fin 4) (areas : List RingArea) (aborted : Bool) (s : State) : ∀ v, execRingStreamReceive k areas aborted s = .next v → s.WithinM 206158694542 v := by
  intro v h
  unfold execRingStreamReceive at h
  refine State.done_within (by decide) h ?_
  repeat' first
    | with_reducible exact State.WithinM.refl _ _
    | with_reducible assumption
    | with_reducible apply State.WithinM.step (State.ringReceive_within ..)
    | decide

theorem State.execZcorCopyDone_within (k : Fin 4) (s : State) : ∀ v, execZcorCopyDone k s = .next v → s.WithinM 137438953606 v := by
  intro v h
  unfold execZcorCopyDone at h
  refine State.done_within (by decide) h ?_
  repeat' first
    | with_reducible exact State.WithinM.refl _ _
    | with_reducible assumption
    | with_reducible apply State.WithinM.step (State.zCopied_within ..)
    | decide

theorem State.execZcorStart_within (port : Port) (k : Fin 4) (s : State) : ∀ v, execZcorStart port k s = .next v → s.WithinM 1099511627670 v := by
  intro v h
  unfold execZcorStart at h
  refine State.done_within (by decide) h ?_
  repeat' first
    | with_reducible exact State.WithinM.refl _ _
    | with_reducible assumption
    | with_reducible apply State.WithinM.step (State.portStore_within ..)
    | decide

theorem State.execZcorAbort_within (port : Port) (k : Fin 4) (s : State) : ∀ v, execZcorAbort port k s = .next v → s.WithinM 1099511627670 v := by
  intro v h
  unfold execZcorAbort at h
  refine State.done_within (by decide) h ?_
  repeat' first
    | with_reducible exact State.WithinM.refl _ _
    | with_reducible assumption
    | with_reducible apply State.WithinM.step (State.portStore_within ..)
    | decide

theorem State.execTqtailWrite_within (port : Port) (k : Fin 4) (tail : BitVec 8) (s : State) : ∀ v, execTqtailWrite port k tail s = .next v → s.WithinM 1099511627670 v := by
  intro v h
  unfold execTqtailWrite at h
  refine State.done_within (by decide) h ?_
  repeat' first
    | with_reducible exact State.WithinM.refl _ _
    | with_reducible assumption
    | with_reducible apply State.WithinM.step (State.portStore_within ..)
    | decide

theorem State.execRingTransactionComplete_within (k : Fin 4) (tag : Fin 32) (data : List Word) (status : Word) (ack : List Byte) (aborted : Bool)
    (s : State) : ∀ v, execRingTransactionComplete k tag data status ack aborted s = .next v → s.WithinM 206158432390 v := by
  intro v h
  unfold execRingTransactionComplete at h
  refine State.done_within (by decide) h ?_
  repeat' first
    | with_reducible exact State.WithinM.refl _ _
    | with_reducible assumption
    | with_reducible apply State.WithinM.step (State.txComplete_within ..)
    | decide

theorem State.execRingTransactionTimeout_within (k : Fin 4) (tag : Fin 32) (s : State) : ∀ v, execRingTransactionTimeout k tag s = .next v → s.WithinM 206158432390 v := by
  intro v h
  unfold execRingTransactionTimeout at h
  refine State.done_within (by decide) h ?_
  repeat' first
    | with_reducible exact State.WithinM.refl _ _
    | with_reducible assumption
    | with_reducible apply State.WithinM.step (State.txTimeout_within ..)
    | decide

theorem State.execRingLaneDown_within (k : Fin 4) (portB : Bool) (reachedA fromB : Nat) (s : State) : ∀ v, execRingLaneDown k portB reachedA fromB s = .next v → s.WithinM 206158432386 v := by
  intro v h
  unfold execRingLaneDown at h
  refine State.done_within (by decide) h ?_
  repeat' first
    | with_reducible exact State.WithinM.refl _ _
    | with_reducible assumption
    | with_reducible apply State.WithinM.step (State.ringLaneDown_within ..)
    | decide

theorem State.execRingLaneUp_within (k : Fin 4) (portB : Bool) (s : State) : ∀ v, execRingLaneUp k portB s = .next v → s.WithinM 137438955650 v := by
  intro v h
  unfold execRingLaneUp at h
  refine State.done_within (by decide) h ?_
  repeat' first
    | with_reducible exact State.WithinM.refl _ _
    | with_reducible assumption
    | with_reducible apply State.WithinM.step (State.ringLaneUp_within ..)
    | decide

end Sys2Proof.Machine
end

