-- ==== Sys2Proof/Laws/WithinExecShroud.lean ====
section
/-! SUPPORT. Which kinds of state each operation of Machine/ExecShroud.lean can change. -/

namespace Sys2Proof.Machine

variable {m : Nat} {s t u : State}

theorem State.execShroudACycle_within (s : State) : ∀ v, execShroudACycle s = .next v → s.WithinM 150516828290 v := by
  intro v h
  unfold execShroudACycle at h
  refine State.done_within (by decide) h ?_
  repeat' first
    | with_reducible exact State.WithinM.refl _ _
    | with_reducible assumption
    | with_reducible apply State.WithinM.step (State.cycleA_within ..)
    | decide

theorem State.execShroudBCycle_within (s : State) : ∀ v, execShroudBCycle s = .next v → s.WithinM 137724201090 v := by
  intro v h
  unfold execShroudBCycle at h
  refine State.done_within (by decide) h ?_
  repeat' first
    | with_reducible exact State.WithinM.refl _ _
    | with_reducible assumption
    | with_reducible apply State.WithinM.step (State.cycleB_within ..)
    | decide

theorem State.stageFour_within (s : State) : s.WithinM 2 (State.stageFour s) := by
  unfold State.stageFour
  repeat' first
    | with_reducible exact State.WithinM.refl _ _
    | with_reducible assumption
    | with_reducible refine State.WithinM.ite (fun _ => ?_) (fun _ => ?_)
    | with_reducible refine State.WithinM.iteFst (fun _ => ?_) (fun _ => ?_)
    | with_reducible apply State.WithinM.step (State.setStage_within ..)
    | decide

theorem State.execXcmpExchange_within (missing lpRcOff : Bool) (s : State) : ∀ v, execXcmpExchange missing lpRcOff s = .next v → s.WithinM 150516828290 v := by
  intro v h
  unfold execXcmpExchange at h
  refine State.done_within (by decide) h ?_
  repeat' first
    | with_reducible exact State.WithinM.refl _ _
    | with_reducible assumption
    | with_reducible apply State.WithinM.step (State.bootAdvance_within ..)
    | with_reducible apply State.WithinM.step (State.exchange_within ..)
    | with_reducible apply State.WithinM.step (State.stageFour_within ..)
    | decide

theorem State.execShroudOperateEntry_within (s : State) : ∀ v, execShroudOperateEntry s = .next v → s.WithinM 150516828290 v := by
  intro v h
  unfold execShroudOperateEntry at h
  refine State.done_within (by decide) h ?_
  repeat' first
    | with_reducible exact State.WithinM.refl _ _
    | with_reducible assumption
    | with_reducible refine State.WithinM.ite (fun _ => ?_) (fun _ => ?_)
    | with_reducible refine State.WithinM.iteFst (fun _ => ?_) (fun _ => ?_)
    | with_reducible apply State.WithinM.step (State.bootAdvance_within ..)
    | with_reducible apply State.WithinM.step (State.reselect_within ..)
    | with_reducible apply State.WithinM.step (State.shroudEnter_within ..)
    | decide

theorem State.execCommission_within (pair : Fin 2) (s : State) : ∀ v, execCommission pair s = .next v → s.WithinM 150516828374 v := by
  intro v h
  unfold execCommission at h
  refine State.done_within (by decide) h ?_
  repeat' first
    | with_reducible exact State.WithinM.refl _ _
    | with_reducible assumption
    | with_reducible apply State.WithinM.step (State.ansCommission_within ..)
    | with_reducible refine State.mbxRun_within ?_ (fun _ => ?_)
    | decide

theorem State.execSinInputChange_within (i : Fin 8) (chB : Bool) (level : Level) (s : State) : ∀ v, execSinInputChange i chB level s = .next v → s.WithinM 137438986370 v := by
  intro v h
  unfold execSinInputChange at h
  refine State.done_within (by decide) h ?_
  repeat' first
    | with_reducible exact State.WithinM.refl _ _
    | with_reducible assumption
    | with_reducible apply State.WithinM.step (State.sinChange_within ..)
    | decide

theorem State.execSinFilterExpiry_within (i : Fin 8) (s : State) : ∀ v, execSinFilterExpiry i s = .next v → s.WithinM 137438986370 v := by
  intro v h
  unfold execSinFilterExpiry at h
  refine State.done_within (by decide) h ?_
  repeat' first
    | with_reducible exact State.WithinM.refl _ _
    | with_reducible assumption
    | with_reducible apply State.WithinM.step (State.sinFilter_within ..)
    | decide

theorem State.execSinDiscrepancy_within (i : Fin 8) (s : State) : ∀ v, execSinDiscrepancy i s = .next v → s.WithinM 137438988418 v := by
  intro v h
  unfold execSinDiscrepancy at h
  refine State.done_within (by decide) h ?_
  repeat' first
    | with_reducible exact State.WithinM.refl _ _
    | with_reducible assumption
    | with_reducible apply State.WithinM.step (State.sinDiffer_within ..)
    | decide

theorem State.execSs1Timeout_within (g : Fin 2) (s : State) : ∀ v, execSs1Timeout g s = .next v → s.WithinM 150516828290 v := by
  intro v h
  unfold execSs1Timeout at h
  refine State.done_within (by decide) h ?_
  repeat' first
    | with_reducible exact State.WithinM.refl _ _
    | with_reducible assumption
    | with_reducible apply State.WithinM.step (State.ss1Timeout_within ..)
    | decide

theorem State.execFinalSto_within (g : Fin 6) (s : State) : ∀ v, execFinalSto g s = .next v → s.WithinM 137455763586 v := by
  intro v h
  unfold execFinalSto at h
  refine State.done_within (by decide) h ?_
  repeat' first
    | with_reducible exact State.WithinM.refl _ _
    | with_reducible assumption
    | with_reducible apply State.WithinM.step (State.finalSto_within ..)
    | decide

theorem State.execIslandSafeCode_within (ch : Fin 36) (code : LineCode) (s : State) : ∀ v, execIslandSafeCode ch code s = .next v → s.WithinM 137455730818 v := by
  intro v h
  unfold execIslandSafeCode at h
  refine State.done_within (by decide) h ?_
  repeat' first
    | with_reducible exact State.WithinM.refl _ _
    | with_reducible assumption
    | with_reducible apply State.WithinM.step (State.pathBCode_within ..)
    | decide

theorem State.execSafeResetRequest_within (idleMs skewMs widthMs : Nat) (s : State) : ∀ v, execSafeResetRequest idleMs skewMs widthMs s = .next v → s.WithinM 137438988418 v := by
  intro v h
  unfold execSafeResetRequest at h
  refine State.done_within (by decide) h ?_
  repeat' first
    | with_reducible exact State.WithinM.refl _ _
    | with_reducible assumption
    | with_reducible refine State.WithinM.ite (fun _ => ?_) (fun _ => ?_)
    | with_reducible refine State.WithinM.iteFst (fun _ => ?_) (fun _ => ?_)
    | with_reducible apply State.WithinM.step (State.safeReset_within ..)
    | decide

theorem State.execSafeResetJam_within (s : State) : ∀ v, execSafeResetJam s = .next v → s.WithinM 137438955650 v := by
  intro v h
  unfold execSafeResetJam at h
  refine State.done_within (by decide) h ?_
  repeat' first
    | with_reducible exact State.WithinM.refl _ _
    | with_reducible assumption
    | with_reducible refine State.onPage_within (fun _ => ?_) ?_
    | with_reducible apply State.WithinM.step (State.raise_within ..)
    | decide

end Sys2Proof.Machine
end

