-- ==== Sys2Proof/Laws/WithinExecTrim.lean ====
section
/-! SUPPORT. Which kinds of state each operation of Machine/ExecTrim.lean can change. -/

namespace Sys2Proof.Machine

variable {m : Nat} {s t u : State}

theorem State.runBegin_within (s : State) (n : Nat) (ecc : Ecc) : s.WithinM 231426 (State.runBegin s n ecc) := by
  unfold State.runBegin
  repeat' first
    | with_reducible exact State.WithinM.refl _ _
    | with_reducible assumption
    | with_reducible refine State.WithinM.ite (fun _ => ?_) (fun _ => ?_)
    | with_reducible refine State.WithinM.iteFst (fun _ => ?_) (fun _ => ?_)
    | with_reducible apply State.WithinM.step (State.ctxFault_within ..)
    | with_reducible apply State.WithinM.step (State.eccCount_within ..)
    | with_reducible apply State.WithinM.step (State.runStart_within ..)
    | with_reducible refine State.WithinM.fst (by assumption) ?_
    | decide
    | split

theorem State.execTrimRunStart_within (n : Fin 4) (ecc : Ecc) (s : State) : ∀ v, execTrimRunStart n ecc s = .next v → s.WithinM 137439185026 v := by
  intro v h
  unfold execTrimRunStart at h
  refine State.done_within (by decide) h ?_
  repeat' first
    | with_reducible exact State.WithinM.refl _ _
    | with_reducible assumption
    | with_reducible refine State.onPage_within (fun _ => ?_) ?_
    | with_reducible apply State.WithinM.step (State.runBegin_within ..)
    | decide

theorem State.isaEnd_within {f : State → TrimRun → State} {n variant : Nat} {ecc : Ecc} (hm : 231426 &&& m = 231426)
    (h : ∀ t r, State.WithinM m t (f t r)) : State.WithinM m s (s.isaEnd n ecc variant f) := by
  unfold State.isaEnd
  split
  · exact State.WithinM.refl _ _
  · refine State.WithinM.ite (fun _ => ?_) (fun _ => ?_)
    · exact (State.ctxFault_within ..).step (mask_sub hm (by decide)) (State.WithinM.refl _ _)
    · refine (h _ _).step (Nat.and_self m) ?_
      refine (State.runOver_within ..).step (mask_sub hm (by decide)) ?_
      exact (State.eccCount_within ..).step (mask_sub hm (by decide)) (State.WithinM.refl _ _)

theorem State.commitTargets_within (s : State) (n : Nat) (r : TrimRun) : s.WithinM 1099511627158 (State.commitTargets s n r) := by
  unfold State.commitTargets
  try dsimp only
  repeat' first
    | with_reducible exact State.WithinM.refl _ _
    | with_reducible assumption
    | with_reducible refine State.WithinM.ite (fun _ => ?_) (fun _ => ?_)
    | with_reducible refine State.WithinM.iteFst (fun _ => ?_) (fun _ => ?_)
    | with_reducible refine State.each_within (fun _ _ => ?_) ?_
    | with_reducible apply State.WithinM.step (State.targetWrite_within ..)
    | decide

theorem State.commitRun_within (s : State) (n : Nat) (r : TrimRun) : s.WithinM 1099511627158 (State.commitRun s n r) := by
  unfold State.commitRun
  repeat' first
    | with_reducible exact State.WithinM.refl _ _
    | with_reducible assumption
    | with_reducible apply State.WithinM.step (State.commitTargets_within ..)
    | with_reducible apply State.WithinM.step (State.commitWords_within ..)
    | with_reducible apply State.WithinM.step (State.raise_within ..)
    | decide

theorem State.execTrEnd_within (n : Fin 4) (ecc : Ecc) (s : State) : ∀ v, execTrEnd n ecc s = .next v → s.WithinM 1099511627158 v := by
  intro v h
  unfold execTrEnd at h
  refine State.done_within (by decide) h ?_
  repeat' first
    | with_reducible exact State.WithinM.refl _ _
    | with_reducible assumption
    | with_reducible apply State.WithinM.step (State.commitRun_within ..)
    | with_reducible apply State.WithinM.step (State.ctxReport_within ..)
    | with_reducible refine State.isaEnd_within ?_ (fun _ _ => ?_)
    | decide

theorem State.execTrEndn_within (n : Fin 4) (ecc : Ecc) (s : State) : ∀ v, execTrEndn n ecc s = .next v → s.WithinM 137439185026 v := by
  intro v h
  unfold execTrEndn at h
  refine State.done_within (by decide) h ?_
  repeat' first
    | with_reducible exact State.WithinM.refl _ _
    | with_reducible assumption
    | with_reducible apply State.WithinM.step (State.ctxReport_within ..)
    | with_reducible refine State.isaEnd_within ?_ (fun _ _ => ?_)
    | decide

theorem State.execTrEndt_within (n : Fin 4) (ecc : Ecc) (s : State) : ∀ v, execTrEndt n ecc s = .next v → s.WithinM 1099511627158 v := by
  intro v h
  unfold execTrEndt at h
  refine State.done_within (by decide) h ?_
  repeat' first
    | with_reducible exact State.WithinM.refl _ _
    | with_reducible assumption
    | with_reducible apply State.WithinM.step (State.commitRun_within ..)
    | with_reducible apply State.WithinM.step (State.ctxReport_within ..)
    | with_reducible apply State.WithinM.step (State.setFlag_within ..)
    | with_reducible refine State.isaEnd_within ?_ (fun _ _ => ?_)
    | decide

theorem State.execTrLds_within (n : Fin 4) (ecc : Ecc) (s : State) : ∀ v, execTrLds n ecc s = .next v → s.WithinM 137439185026 v := by
  intro v h
  unfold execTrLds at h
  refine State.done_within (by decide) h ?_
  repeat' first
    | with_reducible exact State.WithinM.refl _ _
    | with_reducible assumption
    | with_reducible refine State.isaStep_within ?_ (fun _ _ _ _ _ _ e => State.WithinM.step (State.isaLds_within _ _ _ _ _ _ e) ?_ (State.WithinM.refl _ _))
    | decide

theorem State.execTrLdf_within (n : Fin 4) (ecc : Ecc) (s : State) : ∀ v, execTrLdf n ecc s = .next v → s.WithinM 137439185026 v := by
  intro v h
  unfold execTrLdf at h
  refine State.done_within (by decide) h ?_
  repeat' first
    | with_reducible exact State.WithinM.refl _ _
    | with_reducible assumption
    | with_reducible refine State.isaStep_within ?_ (fun _ _ _ _ _ _ e => State.WithinM.step (State.isaLdf_within _ _ _ _ _ _ e) ?_ (State.WithinM.refl _ _))
    | decide

theorem State.execTrLdt_within (n : Fin 4) (ecc : Ecc) (s : State) : ∀ v, execTrLdt n ecc s = .next v → s.WithinM 137439185026 v := by
  intro v h
  unfold execTrLdt at h
  refine State.done_within (by decide) h ?_
  repeat' first
    | with_reducible exact State.WithinM.refl _ _
    | with_reducible assumption
    | with_reducible refine State.isaStep_within ?_ (fun _ _ _ _ _ _ e => State.WithinM.step (State.isaLdt_within _ _ _ _ _ _ e) ?_ (State.WithinM.refl _ _))
    | decide

theorem State.execTrSto_within (n : Fin 4) (ecc : Ecc) (s : State) : ∀ v, execTrSto n ecc s = .next v → s.WithinM 137439185026 v := by
  intro v h
  unfold execTrSto at h
  refine State.done_within (by decide) h ?_
  repeat' first
    | with_reducible exact State.WithinM.refl _ _
    | with_reducible assumption
    | with_reducible refine State.isaStep_within ?_ (fun _ _ _ _ _ _ e => State.WithinM.step (State.isaSto_within _ _ _ _ _ _ e) ?_ (State.WithinM.refl _ _))
    | decide

theorem State.execTrLdk_within (n : Fin 4) (ecc : Ecc) (s : State) : ∀ v, execTrLdk n ecc s = .next v → s.WithinM 137439185026 v := by
  intro v h
  unfold execTrLdk at h
  refine State.done_within (by decide) h ?_
  repeat' first
    | with_reducible exact State.WithinM.refl _ _
    | with_reducible assumption
    | with_reducible refine State.isaStep_within ?_ (fun _ _ _ _ _ _ e => State.WithinM.step (State.isaLdk_within _ _ _ _ _ _ e) ?_ (State.WithinM.refl _ _))
    | decide

theorem State.execTrLst_within (n : Fin 4) (ecc : Ecc) (s : State) : ∀ v, execTrLst n ecc s = .next v → s.WithinM 137439185026 v := by
  intro v h
  unfold execTrLst at h
  refine State.done_within (by decide) h ?_
  repeat' first
    | with_reducible exact State.WithinM.refl _ _
    | with_reducible assumption
    | with_reducible refine State.isaStep_within ?_ (fun _ _ _ _ _ _ e => State.WithinM.step (State.isaLst_within _ _ _ _ _ _ e) ?_ (State.WithinM.refl _ _))
    | decide

theorem State.execTrSst_within (n : Fin 4) (ecc : Ecc) (s : State) : ∀ v, execTrSst n ecc s = .next v → s.WithinM 137439185026 v := by
  intro v h
  unfold execTrSst at h
  refine State.done_within (by decide) h ?_
  repeat' first
    | with_reducible exact State.WithinM.refl _ _
    | with_reducible assumption
    | with_reducible refine State.isaStep_within ?_ (fun _ _ _ _ _ _ e => State.WithinM.step (State.isaSst_within _ _ _ _ _ _ e) ?_ (State.WithinM.refl _ _))
    | decide

theorem State.execTrMov_within (n : Fin 4) (ecc : Ecc) (s : State) : ∀ v, execTrMov n ecc s = .next v → s.WithinM 137439185026 v := by
  intro v h
  unfold execTrMov at h
  refine State.done_within (by decide) h ?_
  repeat' first
    | with_reducible exact State.WithinM.refl _ _
    | with_reducible assumption
    | with_reducible refine State.isaStep_within ?_ (fun _ _ _ _ _ _ e => State.WithinM.step (State.isaMov_within _ _ _ _ _ _ e) ?_ (State.WithinM.refl _ _))
    | decide

theorem State.execTrAdd_within (n : Fin 4) (ecc : Ecc) (s : State) : ∀ v, execTrAdd n ecc s = .next v → s.WithinM 137439185026 v := by
  intro v h
  unfold execTrAdd at h
  refine State.done_within (by decide) h ?_
  repeat' first
    | with_reducible exact State.WithinM.refl _ _
    | with_reducible assumption
    | with_reducible refine State.isaStep_within ?_ (fun _ _ _ _ _ _ e => State.WithinM.step (State.isaAdd_within _ _ _ _ _ _ e) ?_ (State.WithinM.refl _ _))
    | decide

theorem State.execTrSub_within (n : Fin 4) (ecc : Ecc) (s : State) : ∀ v, execTrSub n ecc s = .next v → s.WithinM 137439185026 v := by
  intro v h
  unfold execTrSub at h
  refine State.done_within (by decide) h ?_
  repeat' first
    | with_reducible exact State.WithinM.refl _ _
    | with_reducible assumption
    | with_reducible refine State.isaStep_within ?_ (fun _ _ _ _ _ _ e => State.WithinM.step (State.isaSub_within _ _ _ _ _ _ e) ?_ (State.WithinM.refl _ _))
    | decide

theorem State.execTrNeg_within (n : Fin 4) (ecc : Ecc) (s : State) : ∀ v, execTrNeg n ecc s = .next v → s.WithinM 137439185026 v := by
  intro v h
  unfold execTrNeg at h
  refine State.done_within (by decide) h ?_
  repeat' first
    | with_reducible exact State.WithinM.refl _ _
    | with_reducible assumption
    | with_reducible refine State.isaStep_within ?_ (fun _ _ _ _ _ _ e => State.WithinM.step (State.isaNeg_within _ _ _ _ _ _ e) ?_ (State.WithinM.refl _ _))
    | decide

theorem State.execTrAbs_within (n : Fin 4) (ecc : Ecc) (s : State) : ∀ v, execTrAbs n ecc s = .next v → s.WithinM 137439185026 v := by
  intro v h
  unfold execTrAbs at h
  refine State.done_within (by decide) h ?_
  repeat' first
    | with_reducible exact State.WithinM.refl _ _
    | with_reducible assumption
    | with_reducible refine State.isaStep_within ?_ (fun _ _ _ _ _ _ e => State.WithinM.step (State.isaAbs_within _ _ _ _ _ _ e) ?_ (State.WithinM.refl _ _))
    | decide

theorem State.execTrMul_within (n : Fin 4) (ecc : Ecc) (s : State) : ∀ v, execTrMul n ecc s = .next v → s.WithinM 137439185026 v := by
  intro v h
  unfold execTrMul at h
  refine State.done_within (by decide) h ?_
  repeat' first
    | with_reducible exact State.WithinM.refl _ _
    | with_reducible assumption
    | with_reducible refine State.isaStep_within ?_ (fun _ _ _ _ _ _ e => State.WithinM.step (State.isaMul_within _ _ _ _ _ _ e) ?_ (State.WithinM.refl _ _))
    | decide

theorem State.execTrMulr_within (n : Fin 4) (ecc : Ecc) (s : State) : ∀ v, execTrMulr n ecc s = .next v → s.WithinM 137439185026 v := by
  intro v h
  unfold execTrMulr at h
  refine State.done_within (by decide) h ?_
  repeat' first
    | with_reducible exact State.WithinM.refl _ _
    | with_reducible assumption
    | with_reducible refine State.isaStep_within ?_ (fun _ _ _ _ _ _ e => State.WithinM.step (State.isaMulr_within _ _ _ _ _ _ e) ?_ (State.WithinM.refl _ _))
    | decide

theorem State.execTrAclr_within (n : Fin 4) (ecc : Ecc) (s : State) : ∀ v, execTrAclr n ecc s = .next v → s.WithinM 137439185026 v := by
  intro v h
  unfold execTrAclr at h
  refine State.done_within (by decide) h ?_
  repeat' first
    | with_reducible exact State.WithinM.refl _ _
    | with_reducible assumption
    | with_reducible refine State.isaStep_within ?_ (fun _ _ _ _ _ _ e => State.WithinM.step (State.isaAclr_within _ _ _ _ _ _ e) ?_ (State.WithinM.refl _ _))
    | decide

theorem State.execTrMac_within (n : Fin 4) (ecc : Ecc) (s : State) : ∀ v, execTrMac n ecc s = .next v → s.WithinM 137439185026 v := by
  intro v h
  unfold execTrMac at h
  refine State.done_within (by decide) h ?_
  repeat' first
    | with_reducible exact State.WithinM.refl _ _
    | with_reducible assumption
    | with_reducible refine State.isaStep_within ?_ (fun _ _ _ _ _ _ e => State.WithinM.step (State.isaMac_within _ _ _ _ _ _ e) ?_ (State.WithinM.refl _ _))
    | decide

theorem State.execTrMacr_within (n : Fin 4) (ecc : Ecc) (s : State) : ∀ v, execTrMacr n ecc s = .next v → s.WithinM 137439185026 v := by
  intro v h
  unfold execTrMacr at h
  refine State.done_within (by decide) h ?_
  repeat' first
    | with_reducible exact State.WithinM.refl _ _
    | with_reducible assumption
    | with_reducible refine State.isaStep_within ?_ (fun _ _ _ _ _ _ e => State.WithinM.step (State.isaMacr_within _ _ _ _ _ _ e) ?_ (State.WithinM.refl _ _))
    | decide

theorem State.execTrArnd_within (n : Fin 4) (ecc : Ecc) (s : State) : ∀ v, execTrArnd n ecc s = .next v → s.WithinM 137439185026 v := by
  intro v h
  unfold execTrArnd at h
  refine State.done_within (by decide) h ?_
  repeat' first
    | with_reducible exact State.WithinM.refl _ _
    | with_reducible assumption
    | with_reducible refine State.isaStep_within ?_ (fun _ _ _ _ _ _ e => State.WithinM.step (State.isaArnd_within _ _ _ _ _ _ e) ?_ (State.WithinM.refl _ _))
    | decide

theorem State.execTrSatk_within (n : Fin 4) (ecc : Ecc) (s : State) : ∀ v, execTrSatk n ecc s = .next v → s.WithinM 137439185026 v := by
  intro v h
  unfold execTrSatk at h
  refine State.done_within (by decide) h ?_
  repeat' first
    | with_reducible exact State.WithinM.refl _ _
    | with_reducible assumption
    | with_reducible refine State.isaStep_within ?_ (fun _ _ _ _ _ _ e => State.WithinM.step (State.isaSatk_within _ _ _ _ _ _ e) ?_ (State.WithinM.refl _ _))
    | decide

theorem State.execTrLim_within (n : Fin 4) (ecc : Ecc) (s : State) : ∀ v, execTrLim n ecc s = .next v → s.WithinM 137439185026 v := by
  intro v h
  unfold execTrLim at h
  refine State.done_within (by decide) h ?_
  repeat' first
    | with_reducible exact State.WithinM.refl _ _
    | with_reducible assumption
    | with_reducible refine State.isaStep_within ?_ (fun _ _ _ _ _ _ e => State.WithinM.step (State.isaLim_within _ _ _ _ _ _ e) ?_ (State.WithinM.refl _ _))
    | decide

theorem State.execTrRamp_within (n : Fin 4) (ecc : Ecc) (s : State) : ∀ v, execTrRamp n ecc s = .next v → s.WithinM 137439185026 v := by
  intro v h
  unfold execTrRamp at h
  refine State.done_within (by decide) h ?_
  repeat' first
    | with_reducible exact State.WithinM.refl _ _
    | with_reducible assumption
    | with_reducible refine State.isaStep_within ?_ (fun _ _ _ _ _ _ e => State.WithinM.step (State.isaRamp_within _ _ _ _ _ _ e) ?_ (State.WithinM.refl _ _))
    | decide

theorem State.execTrPi_within (n : Fin 4) (ecc : Ecc) (s : State) : ∀ v, execTrPi n ecc s = .next v → s.WithinM 137439185026 v := by
  intro v h
  unfold execTrPi at h
  refine State.done_within (by decide) h ?_
  repeat' first
    | with_reducible exact State.WithinM.refl _ _
    | with_reducible assumption
    | with_reducible refine State.isaStep_within ?_ (fun _ _ _ _ _ _ e => State.WithinM.step (State.isaPi_within _ _ _ _ _ _ e) ?_ (State.WithinM.refl _ _))
    | decide

theorem State.execTrPit_within (n : Fin 4) (ecc : Ecc) (s : State) : ∀ v, execTrPit n ecc s = .next v → s.WithinM 137439185026 v := by
  intro v h
  unfold execTrPit at h
  refine State.done_within (by decide) h ?_
  repeat' first
    | with_reducible exact State.WithinM.refl _ _
    | with_reducible assumption
    | with_reducible refine State.isaStep_within ?_ (fun _ _ _ _ _ _ e => State.WithinM.step (State.isaPit_within _ _ _ _ _ _ e) ?_ (State.WithinM.refl _ _))
    | decide

theorem State.execTrBiq_within (n : Fin 4) (ecc : Ecc) (s : State) : ∀ v, execTrBiq n ecc s = .next v → s.WithinM 137439185026 v := by
  intro v h
  unfold execTrBiq at h
  refine State.done_within (by decide) h ?_
  repeat' first
    | with_reducible exact State.WithinM.refl _ _
    | with_reducible assumption
    | with_reducible refine State.isaStep_within ?_ (fun _ _ _ _ _ _ e => State.WithinM.step (State.isaBiq_within _ _ _ _ _ _ e) ?_ (State.WithinM.refl _ _))
    | decide

theorem State.execTrClarke_within (n : Fin 4) (ecc : Ecc) (s : State) : ∀ v, execTrClarke n ecc s = .next v → s.WithinM 137439185034 v := by
  intro v h
  unfold execTrClarke at h
  refine State.done_within (by decide) h ?_
  repeat' first
    | with_reducible exact State.WithinM.refl _ _
    | with_reducible assumption
    | with_reducible refine State.isaStep_within ?_ (fun _ _ _ _ _ _ e => State.WithinM.step (State.isaClarke_within _ _ _ _ _ _ e) ?_ (State.WithinM.refl _ _))
    | decide

theorem State.execTrPark_within (n : Fin 4) (ecc : Ecc) (s : State) : ∀ v, execTrPark n ecc s = .next v → s.WithinM 137439185034 v := by
  intro v h
  unfold execTrPark at h
  refine State.done_within (by decide) h ?_
  repeat' first
    | with_reducible exact State.WithinM.refl _ _
    | with_reducible assumption
    | with_reducible refine State.isaStep_within ?_ (fun _ _ _ _ _ _ e => State.WithinM.step (State.isaPark_within _ _ _ _ _ _ e) ?_ (State.WithinM.refl _ _))
    | decide

theorem State.execTrIpark_within (n : Fin 4) (ecc : Ecc) (s : State) : ∀ v, execTrIpark n ecc s = .next v → s.WithinM 137439185034 v := by
  intro v h
  unfold execTrIpark at h
  refine State.done_within (by decide) h ?_
  repeat' first
    | with_reducible exact State.WithinM.refl _ _
    | with_reducible assumption
    | with_reducible refine State.isaStep_within ?_ (fun _ _ _ _ _ _ e => State.WithinM.step (State.isaIpark_within _ _ _ _ _ _ e) ?_ (State.WithinM.refl _ _))
    | decide

theorem State.execTrSvm_within (n : Fin 4) (ecc : Ecc) (s : State) : ∀ v, execTrSvm n ecc s = .next v → s.WithinM 137439185034 v := by
  intro v h
  unfold execTrSvm at h
  refine State.done_within (by decide) h ?_
  repeat' first
    | with_reducible exact State.WithinM.refl _ _
    | with_reducible assumption
    | with_reducible refine State.isaStep_within ?_ (fun _ _ _ _ _ _ e => State.WithinM.step (State.isaSvm_within _ _ _ _ _ _ e) ?_ (State.WithinM.refl _ _))
    | decide

theorem State.execTrSincos_within (n : Fin 4) (ecc : Ecc) (s : State) : ∀ v, execTrSincos n ecc s = .next v → s.WithinM 137439185034 v := by
  intro v h
  unfold execTrSincos at h
  refine State.done_within (by decide) h ?_
  repeat' first
    | with_reducible exact State.WithinM.refl _ _
    | with_reducible assumption
    | with_reducible refine State.isaStep_within ?_ (fun _ _ _ _ _ _ e => State.WithinM.step (State.isaSincos_within _ _ _ _ _ _ e) ?_ (State.WithinM.refl _ _))
    | decide

theorem State.execTrAtan2_within (n : Fin 4) (ecc : Ecc) (s : State) : ∀ v, execTrAtan2 n ecc s = .next v → s.WithinM 137439185034 v := by
  intro v h
  unfold execTrAtan2 at h
  refine State.done_within (by decide) h ?_
  repeat' first
    | with_reducible exact State.WithinM.refl _ _
    | with_reducible assumption
    | with_reducible refine State.isaStep_within ?_ (fun _ _ _ _ _ _ e => State.WithinM.step (State.isaAtan2_within _ _ _ _ _ _ e) ?_ (State.WithinM.refl _ _))
    | decide

theorem State.execTrSqrt_within (n : Fin 4) (ecc : Ecc) (s : State) : ∀ v, execTrSqrt n ecc s = .next v → s.WithinM 137439185026 v := by
  intro v h
  unfold execTrSqrt at h
  refine State.done_within (by decide) h ?_
  repeat' first
    | with_reducible exact State.WithinM.refl _ _
    | with_reducible assumption
    | with_reducible refine State.isaStep_within ?_ (fun _ _ _ _ _ _ e => State.WithinM.step (State.isaSqrt_within _ _ _ _ _ _ e) ?_ (State.WithinM.refl _ _))
    | decide

theorem State.execTrDiv_within (n : Fin 4) (ecc : Ecc) (s : State) : ∀ v, execTrDiv n ecc s = .next v → s.WithinM 137439185026 v := by
  intro v h
  unfold execTrDiv at h
  refine State.done_within (by decide) h ?_
  repeat' first
    | with_reducible exact State.WithinM.refl _ _
    | with_reducible assumption
    | with_reducible refine State.isaStep_within ?_ (fun _ _ _ _ _ _ e => State.WithinM.step (State.isaDiv_within _ _ _ _ _ _ e) ?_ (State.WithinM.refl _ _))
    | decide

theorem State.execTrB_within (n : Fin 4) (ecc : Ecc) (s : State) : ∀ v, execTrB n ecc s = .next v → s.WithinM 137439185026 v := by
  intro v h
  unfold execTrB at h
  refine State.done_within (by decide) h ?_
  repeat' first
    | with_reducible exact State.WithinM.refl _ _
    | with_reducible assumption
    | with_reducible apply State.WithinM.step (State.isaBranch_within ..)
    | decide

theorem State.execContextEnable_within (port : Port) (n : Fin 4) (i : Fin 8) (s : State) : ∀ v, execContextEnable port n i s = .next v → s.WithinM 1099511627670 v := by
  intro v h
  unfold execContextEnable at h
  refine State.done_within (by decide) h ?_
  repeat' first
    | with_reducible exact State.WithinM.refl _ _
    | with_reducible assumption
    | with_reducible apply State.WithinM.step (State.portStore_within ..)
    | decide

theorem State.execEnableScanDone_within (n : Fin 4) (i : Fin 8) (s : State) : ∀ v, execEnableScanDone n i s = .next v → s.WithinM 137439086722 v := by
  intro v h
  unfold execEnableScanDone at h
  refine State.done_within (by decide) h ?_
  repeat' first
    | with_reducible exact State.WithinM.refl _ _
    | with_reducible assumption
    | with_reducible apply State.WithinM.step (State.scanDone_within ..)
    | decide

theorem State.execContextDisable_within (port : Port) (n : Fin 4) (i : Fin 8) (s : State) : ∀ v, execContextDisable port n i s = .next v → s.WithinM 1099511627670 v := by
  intro v h
  unfold execContextDisable at h
  refine State.done_within (by decide) h ?_
  repeat' first
    | with_reducible exact State.WithinM.refl _ _
    | with_reducible assumption
    | with_reducible apply State.WithinM.step (State.portStore_within ..)
    | decide

theorem State.execContextWatchdog_within (n : Fin 4) (i : Fin 8) (s : State) : ∀ v, execContextWatchdog n i s = .next v → s.WithinM 137438986370 v := by
  intro v h
  unfold execContextWatchdog at h
  refine State.done_within (by decide) h ?_
  repeat' first
    | with_reducible exact State.WithinM.refl _ _
    | with_reducible assumption
    | with_reducible apply State.WithinM.step (State.ctxWatchdog_within ..)
    | decide

theorem State.execTrimMemoryWrite_within (port : Port) (addr : Word) (eight : Bool) (data : BitVec 64) (s : State) : ∀ v, execTrimMemoryWrite port addr eight data s = .next v → s.WithinM 1099511627670 v := by
  intro v h
  unfold execTrimMemoryWrite at h
  dsimp only at h
  repeat' split at h
  all_goals first
    | contradiction
    | refine State.done_within (by decide) h ?_
  all_goals
    repeat' first
      | with_reducible exact State.WithinM.refl _ _
      | with_reducible assumption
      | with_reducible refine State.WithinM.ite (fun _ => ?_) (fun _ => ?_)
      | with_reducible refine State.WithinM.iteFst (fun _ => ?_) (fun _ => ?_)
      | with_reducible apply State.WithinM.step (State.perform_within ..)
      | decide

theorem State.execTuneStart_within (port : Port) (n : Fin 4) (slot : Fin 8) (rule : Fin 4) (s : State) : ∀ v, execTuneStart port n slot rule s = .next v → s.WithinM 1099511627670 v := by
  intro v h
  unfold execTuneStart at h
  refine State.done_within (by decide) h ?_
  repeat' first
    | with_reducible exact State.WithinM.refl _ _
    | with_reducible assumption
    | with_reducible apply State.WithinM.step (State.portStore_within ..)
    | decide

theorem State.execTuneAbort_within (port : Port) (n : Fin 4) (s : State) : ∀ v, execTuneAbort port n s = .next v → s.WithinM 1099511627670 v := by
  intro v h
  unfold execTuneAbort at h
  refine State.done_within (by decide) h ?_
  repeat' first
    | with_reducible exact State.WithinM.refl _ _
    | with_reducible assumption
    | with_reducible apply State.WithinM.step (State.portStore_within ..)
    | decide

theorem State.execTuneTimeout_within (n : Fin 4) (s : State) : ∀ v, execTuneTimeout n s = .next v → s.WithinM 137439019138 v := by
  intro v h
  unfold execTuneTimeout at h
  refine State.done_within (by decide) h ?_
  repeat' first
    | with_reducible exact State.WithinM.refl _ _
    | with_reducible assumption
    | with_reducible apply State.WithinM.step (State.tuneFail_within ..)
    | decide

theorem State.execLatencyClear_within (port : Port) (s : State) : ∀ v, execLatencyClear port s = .next v → s.WithinM 1099511627670 v := by
  intro v h
  unfold execLatencyClear at h
  refine State.done_within (by decide) h ?_
  repeat' first
    | with_reducible exact State.WithinM.refl _ _
    | with_reducible assumption
    | with_reducible apply State.WithinM.step (State.portStore_within ..)
    | decide

end Sys2Proof.Machine
end

