-- ==== Sys2Proof/Laws/WithinExecTwin.lean ====
section
/-! SUPPORT. Which kinds of state each operation of Machine/ExecTwin.lean can change. -/

namespace Sys2Proof.Machine

variable {m : Nat} {s t u : State}

theorem State.execTwinRun_within (port : Port) (s : State) : ∀ v, execTwinRun port s = .next v → s.WithinM 1099511627670 v := by
  intro v h
  unfold execTwinRun at h
  refine State.done_within (by decide) h ?_
  repeat' first
    | with_reducible exact State.WithinM.refl _ _
    | with_reducible assumption
    | with_reducible apply State.WithinM.step (State.portStore_within ..)
    | decide

theorem State.execTwinFrameSend_within (s : State) : ∀ v, execTwinFrameSend s = .next v → s.WithinM 412316860546 v := by
  intro v h
  unfold execTwinFrameSend at h
  refine State.done_within (by decide) h ?_
  repeat' first
    | with_reducible exact State.WithinM.refl _ _
    | with_reducible assumption
    | with_reducible apply State.WithinM.step (State.twinSend_within ..)
    | decide

theorem State.execTwinFrameReceive_within (frame : List Byte) (lane1 : Bool) (s : State) : ∀ v, execTwinFrameReceive frame lane1 s = .next v → s.WithinM 412316895362 v := by
  intro v h
  unfold execTwinFrameReceive at h
  refine State.done_within (by decide) h ?_
  repeat' first
    | with_reducible exact State.WithinM.refl _ _
    | with_reducible assumption
    | with_reducible apply State.WithinM.step (State.twinReceive_within ..)
    | decide

theorem State.execTwinPartnerLost_within (s : State) : ∀ v, execTwinPartnerLost s = .next v → s.WithinM 412316862594 v := by
  intro v h
  unfold execTwinPartnerLost at h
  refine State.done_within (by decide) h ?_
  repeat' first
    | with_reducible exact State.WithinM.refl _ _
    | with_reducible assumption
    | with_reducible apply State.WithinM.step (State.twinLost_within ..)
    | decide

theorem State.execTwinXreq_within (port : Port) (groups : BitVec 6) (s : State) : ∀ v, execTwinXreq port groups s = .next v → s.WithinM 1099511627670 v := by
  intro v h
  unfold execTwinXreq at h
  refine State.done_within (by decide) h ?_
  repeat' first
    | with_reducible exact State.WithinM.refl _ _
    | with_reducible assumption
    | with_reducible apply State.WithinM.step (State.portStore_within ..)
    | decide

theorem State.execTwinXreqExpiry_within (groups : BitVec 6) (s : State) : ∀ v, execTwinXreqExpiry groups s = .next v → s.WithinM 412316860546 v := by
  intro v h
  unfold execTwinXreqExpiry at h
  refine State.done_within (by decide) h ?_
  repeat' first
    | with_reducible exact State.WithinM.refl _ _
    | with_reducible assumption
    | with_reducible apply State.WithinM.step (State.twinXreqEnd_within ..)
    | decide

theorem State.execTwinOffsetMeasure_within (offset : Word) (s : State) : ∀ v, execTwinOffsetMeasure offset s = .next v → s.WithinM 137438953602 v := by
  intro v h
  unfold execTwinOffsetMeasure at h
  refine State.done_within (by decide) h ?_
  repeat' first
    | with_reducible exact State.WithinM.refl _ _
    | with_reducible assumption
    | with_reducible apply State.WithinM.step (State.twinOffset_within ..)
    | decide

theorem State.execTwinRingHandover_within (port : Port) (rings : BitVec 4) (s : State) : ∀ v, execTwinRingHandover port rings s = .next v → s.WithinM 1099511627670 v := by
  intro v h
  unfold execTwinRingHandover at h
  refine State.done_within (by decide) h ?_
  repeat' first
    | with_reducible exact State.WithinM.refl _ _
    | with_reducible assumption
    | with_reducible apply State.WithinM.step (State.portStore_within ..)
    | decide

theorem State.execTwinTakeover_within (k : Fin 4) (s : State) : ∀ v, execTwinTakeover k s = .next v → s.WithinM 206158432386 v := by
  intro v h
  unfold execTwinTakeover at h
  refine State.done_within (by decide) h ?_
  repeat' first
    | with_reducible exact State.WithinM.refl _ _
    | with_reducible assumption
    | with_reducible apply State.WithinM.step (State.twinTake_within ..)
    | decide

theorem State.execTwinLinkTrained_within (s : State) : ∀ v, execTwinLinkTrained s = .next v → s.WithinM 137438955650 v := by
  intro v h
  unfold execTwinLinkTrained at h
  refine State.done_within (by decide) h ?_
  repeat' first
    | with_reducible exact State.WithinM.refl _ _
    | with_reducible assumption
    | with_reducible apply State.WithinM.step (State.twinTrained_within ..)
    | decide

theorem State.execTwinTokenReceive_within (k : Fin 4) (s : State) : ∀ v, execTwinTokenReceive k s = .next v → s.WithinM 481036339330 v := by
  intro v h
  unfold execTwinTokenReceive at h
  refine State.done_within (by decide) h ?_
  repeat' first
    | with_reducible exact State.WithinM.refl _ _
    | with_reducible assumption
    | with_reducible apply State.WithinM.step (State.twinToken_within ..)
    | decide

theorem State.execTwinSummaryForward_within (k : Fin 4) (words : List (Word × Bool)) (stamp : BitVec 64) (s : State) : ∀ v, execTwinSummaryForward k words stamp s = .next v → s.WithinM 137439215746 v := by
  intro v h
  unfold execTwinSummaryForward at h
  refine State.done_within (by decide) h ?_
  repeat' first
    | with_reducible exact State.WithinM.refl _ _
    | with_reducible assumption
    | with_reducible apply State.WithinM.step (State.twinSummary_within ..)
    | decide

end Sys2Proof.Machine
end

