-- ==== Sys2Proof/Laws/WithinExecTwl.lean ====
section
/-! SUPPORT. Which kinds of state each operation of Machine/ExecTwl.lean can change. -/

namespace Sys2Proof.Machine

variable {m : Nat} {s t u : State}

theorem State.execTwEdge_within (n : Fin 4) (a b : Bool) (s : State) : ∀ v, execTwEdge n a b s = .next v → s.WithinM 138244524194 v := by
  intro v h
  unfold execTwEdge at h
  refine State.done_within (by decide) h ?_
  repeat' first
    | with_reducible exact State.WithinM.refl _ _
    | with_reducible assumption
    | with_reducible apply State.WithinM.step (State.twEdge_within ..)
    | decide

theorem State.execTwStandstill_within (n : Fin 4) (s : State) : ∀ v, execTwStandstill n s = .next v → s.WithinM 137707391106 v := by
  intro v h
  unfold execTwStandstill at h
  refine State.done_within (by decide) h ?_
  repeat' first
    | with_reducible exact State.WithinM.refl _ _
    | with_reducible assumption
    | with_reducible apply State.WithinM.step (State.twlStandstill_within ..)
    | decide

theorem State.execRestEnd_within (n : Fin 4) (s : State) : ∀ v, execRestEnd n s = .next v → s.WithinM 137707391106 v := by
  intro v h
  unfold execRestEnd at h
  refine State.done_within (by decide) h ?_
  repeat' first
    | with_reducible exact State.WithinM.refl _ _
    | with_reducible assumption
    | with_reducible apply State.WithinM.step (State.twlRestEnd_within ..)
    | decide

theorem State.execHallChange_within (set : Fin 3) (code : BitVec 3) (s : State) : ∀ v, execHallChange set code s = .next v → s.WithinM 155700955298 v := by
  intro v h
  unfold execHallChange at h
  refine State.done_within (by decide) h ?_
  repeat' first
    | with_reducible exact State.WithinM.refl _ _
    | with_reducible assumption
    | with_reducible refine State.WithinM.ite (fun _ => ?_) (fun _ => ?_)
    | with_reducible refine State.WithinM.iteFst (fun _ => ?_) (fun _ => ?_)
    | with_reducible apply State.WithinM.step (State.actHall_within ..)
    | with_reducible apply State.WithinM.step (State.hallChange_within ..)
    | decide

end Sys2Proof.Machine
end

