-- ==== Sys2Proof/Laws/WithinTick.lean ====
section
/-! SUPPORT. Which kinds of state each operation of Machine/Tick.lean can change. -/

namespace Sys2Proof.Machine

variable {m : Nat} {s t u : State}

theorem State.rtcTick_within (s : State) : s.WithinM 2066 (State.rtcTick s) := by
  unfold State.rtcTick
  repeat' first
    | with_reducible exact State.WithinM.refl _ _
    | with_reducible assumption
    | with_reducible refine State.WithinM.ite (fun _ => ?_) (fun _ => ?_)
    | with_reducible refine State.WithinM.iteFst (fun _ => ?_) (fun _ => ?_)
    | with_reducible apply State.WithinM.step (State.rtcSecond_within ..)
    | with_reducible apply State.WithinM.step (State.setPwr_within ..)
    | decide

theorem State.peakTick_within (s : State) (u : Nat) : s.WithinM 8390658 (State.peakTick s u) := by
  unfold State.peakTick
  repeat' first
    | with_reducible exact State.WithinM.refl _ _
    | with_reducible assumption
    | with_reducible refine State.WithinM.ite (fun _ => ?_) (fun _ => ?_)
    | with_reducible refine State.WithinM.iteFst (fun _ => ?_) (fun _ => ?_)
    | with_reducible apply State.WithinM.step (State.loadPoint_within ..)
    | decide

theorem State.pwmTick_within (s : State) : s.WithinM 19335743490 (State.pwmTick s) := by
  unfold State.pwmTick
  try dsimp only
  repeat' first
    | with_reducible exact State.WithinM.refl _ _
    | with_reducible assumption
    | with_reducible refine State.each_within (fun _ _ => ?_) ?_
    | with_reducible refine State.when_within (fun _ => ?_) ?_
    | with_reducible apply State.WithinM.step (State.boundary_within ..)
    | with_reducible apply State.WithinM.step (State.countTick_within ..)
    | with_reducible apply State.WithinM.step (State.egReference_within ..)
    | with_reducible apply State.WithinM.step (State.peakTick_within ..)
    | with_reducible apply State.WithinM.step (State.unitTick_within ..)
    | decide

theorem State.sysTick_within (s : State) : s.WithinM 88743086098 (State.sysTick s) := by
  unfold State.sysTick
  try dsimp only
  repeat' first
    | with_reducible exact State.WithinM.refl _ _
    | with_reducible assumption
    | with_reducible refine State.WithinM.ite (fun _ => ?_) (fun _ => ?_)
    | with_reducible refine State.WithinM.iteFst (fun _ => ?_) (fun _ => ?_)
    | with_reducible refine State.each_within (fun _ _ => ?_) ?_
    | with_reducible apply State.WithinM.step (State.encSteps_within ..)
    | with_reducible apply State.WithinM.step (State.gatesRefresh_within ..)
    | with_reducible apply State.WithinM.step (State.pwmTick_within ..)
    | with_reducible apply State.WithinM.step (State.releaseSrd_within ..)
    | with_reducible apply State.WithinM.step (State.ringToneEnd_within ..)
    | with_reducible apply State.WithinM.step (State.setPwr_within ..)
    | decide

theorem State.tick_within (s : State) : s.WithinM 88743086098 (State.tick s) := by
  unfold State.tick
  repeat' first
    | with_reducible exact State.WithinM.refl _ _
    | with_reducible assumption
    | with_reducible refine State.WithinM.ite (fun _ => ?_) (fun _ => ?_)
    | with_reducible refine State.WithinM.iteFst (fun _ => ?_) (fun _ => ?_)
    | with_reducible apply State.WithinM.step (State.rtcTick_within ..)
    | with_reducible apply State.WithinM.step (State.sysTick_within ..)
    | decide

end Sys2Proof.Machine
end

