-- ==== Sys2Proof/Laws/WithinStep.lean ====
section
/-! SUPPORT. Which kinds of state each operation of Machine/Step.lean can change. -/

namespace Sys2Proof.Machine

variable {m : Nat} {s t u : State}

theorem State.withFetchWord_within (s : State) (nbits w : Nat) : s.WithinM 1 (State.withFetchWord s nbits w) := by
  unfold State.withFetchWord
  repeat' first
    | with_reducible exact State.WithinM.refl _ _
    | with_reducible assumption
    | with_reducible apply State.WithinM.step (State.setPending_within ..)
    | with_reducible refine State.WithinM.fst (by assumption) ?_
    | decide
    | split

end Sys2Proof.Machine
end

