-- ==== Sys2Proof/Tests/Slice0.lean ====
section
/-! SUPPORT. Tests: what WellFormed refuses, check values and worked examples of the spec, and for every statement of Obligations.lean a state and operands
that meet what each of its clauses assumes. -/

open Sys2Proof Sys2Proof.Machine

namespace Sys2Proof.Tests

set_option maxRecDepth 20000
set_option linter.unusedVariables false

/-! ### States to start from -/

/-- A state with words in registers. -/
def poke (s : State) (l : List (Nat × Nat)) : State := l.foldl (fun t e => t.setReg e.1 (BitVec.ofNat 32 e.2)) s

/-- A state with words in memory. -/
def lay (s : State) (l : List (Nat × Nat)) : State := l.foldl (fun t e => t.putWord e.1 (BitVec.ofNat 32 e.2)) s

/-- A running part: every domain on, every clock good, both pairs out of reset. -/
def up : State :=
  poke { State.reset with
    pwr := { Power.reset with phase := .run, dtime := 1000 },
    pairs := [(0, { PairSt.reset with inReset := false, loaded := true }), (1, { PairSt.reset with inReset := false, loaded := true })] }
    [(Adr.SYS_PDSTAT, 0xFFF), (Adr.SYS_CLKSTAT, 0x1F)]

/-- The same with page p owned by o. -/
def mine (p o : Nat) : State := poke up [(Adr.POWNER p, o)]

/-- The same with a mailbox command of a pair in progress: its doorbell, CMD, LEN and the words of its request. -/
def call (s : State) (pair code : Nat) (req : List Nat) : State :=
  let t := lay s ([(mbxBase pair, 9), (mbxBase pair + 4, 0x80000000), (mbxBase pair + 8, code), (mbxBase pair + 0xC, 4 * req.length)]
    ++ (List.range req.length).map fun i => (mbxBase pair + 0x100 + 4 * i, nthD 0 req i))
  { t with gms := { t.gms with doors := [pair] } }

theorem padTo_length (n : Nat) (l : List Byte) : (padTo n l).length = n := by simp [padTo]; omega

theorem bbBody_fits (s : State) (b : BlackBox) (h : s.flag Adr.MBX_GSTAT 12 = false) : (s.bbBody b).length ≤ 0xFFFF0 := by
  simp [State.bbBody, BlackBox.summary, padTo_length, h]

/-- A trim run. -/
def run0 : TrimRun := { slot := 2, pc := 5, cyc := 7, d := [], a0 := 0, a1 := 0, staged := [], written := [], setp := [1#32, 2#32, 3#32, 4#32], trigTime := 9, inv := false, relayed := false }
/-- An instruction word from its opcode and fields. -/
def iw (op d a b c k : Nat) : Nat := op * 2 ^ 26 + d * 2 ^ 22 + a * 2 ^ 18 + b * 2 ^ 14 + c * 2 ^ 10 + k
/-- The run with registers set. -/
def regsD (l : List (Nat × Int)) : TrimRun := l.foldl (fun r e => r.wr e.1 e.2) run0
/-- Engine n at an instruction word. -/
def engAt (n : Nat) (r : TrimRun) (w : Nat) (l : List (Nat × Nat)) : State :=
  poke (lay { up with engines := [(n, { Engine.reset with run := some r })] } [(progAddr n r.pc, w)])
    ([(Adr.TRIM_CBUDGET n r.slot, 1000), (Adr.TRIM_CPROG n r.slot, 0x00140000), (Adr.PCTRL (Pg.TRIM n), 1), (Adr.POWNER (Pg.TRIM n), 1)] ++ l)

/-- A running PWM page. -/
def pwmAt (u : Nat) (p : Pwm) (l : List (Nat × Nat)) : State :=
  poke { up with pwms := [(u, p)] } ([(Adr.PCTRL (Pg.PWM u), 1), (Adr.POWNER (Pg.PWM u), 1)] ++ l)
/-- An enabled gate group. -/
def grpAt (g : Nat) (l : List (Nat × Nat)) : State :=
  poke { up with groups := [(g, { Group.reset with pathA := .run })] } ([(Adr.PCTRL (Pg.GGRP g), 1), (Adr.POWNER (Pg.GGRP g), 1), (Adr.GGRP_GCFG g, 2)] ++ l)

/-- The converter in a state of STAT. -/
def dcAt (stat : Nat) (d : Dcdc) (l : List (Nat × Nat)) (x : Sample) : State :=
  poke { up with dcdc := d, samples := [(0x40, x)], groups := [(4, { Group.reset with pathA := .run })] }
    ([(Adr.POWNER Pg.DCDC, 1), (Adr.PCTRL Pg.DCDC, 1), (Adr.DCDC_STAT, stat), (Adr.DCDC_VSEL, 0x40), (Adr.DCDC_VFS, 1000), (Adr.DCDC_VSET, 400),
      (Adr.DCDC_CFG, 0x00F50143), (Adr.POWNER (Pg.PWM 3), 1), (Adr.POWNER (Pg.PWM 4), 1), (Adr.POWNER (Pg.GGRP 4), 1), (Adr.POWNER Pg.LVDRV, 1),
      (Adr.POWNER (Pg.TRIM 0), 1), (Adr.TRIM_CCTRL 0 1, 1), (Adr.PCTRL (Pg.TRIM 0), 1)] ++ l)
/-- The charger in a state of STAT. -/
def obAt (stat : Nat) (o : Obc) (l : List (Nat × Nat)) (x : List (Nat × Sample)) : State :=
  poke { up with obc := o, samples := x, groups := [(2, { Group.reset with pathA := .run }), (3, { Group.reset with pathA := .run })] }
    ([(Adr.POWNER Pg.OBC, 1), (Adr.PCTRL Pg.OBC, 5), (Adr.POWNER Pg.PILOT, 1), (Adr.PCTRL Pg.PILOT, 1), (Adr.OBC_STAT, stat), (Adr.OBC_CFG, 0x00000800)] ++ l)
/-- A charger that nothing refuses. -/
def obReady (o : Obc) (l : List (Nat × Nat)) : State :=
  obAt 2 o ([(Adr.PILOT_ILIM, 0x00C800A0), (Adr.PILOT_STAT, 0x201), (Adr.TRIM_CCTRL 0 0, 1), (Adr.TRIM_CCTRL 1 0, 1), (Adr.TRIM_CCFG 0 0, 0x101000),
    (Adr.TRIM_CCFG 1 0, 0x102000), (Adr.POWNER (Pg.TRIM 0), 1), (Adr.POWNER (Pg.TRIM 1), 1), (Adr.POWNER (Pg.GGRP 2), 1), (Adr.POWNER (Pg.GGRP 3), 1),
    (Adr.POWNER (Pg.PWM 1), 1), (Adr.POWNER (Pg.PWM 2), 1), (cmpCfg 0, 1), (cmpRoute 0, 4), (Adr.PWM_TRIPCFG 2, 1), (Adr.PCTRL (Pg.TRIM 0), 1),
    (Adr.PCTRL (Pg.TRIM 1), 1), (Adr.OBC_BUS, 0x01900190)] ++ l) [(0xA0, ⟨1000#32, true, 5⟩), (0xA1, ⟨1050#32, true, 5⟩)]
/-- An actuator bridge in a state of STAT. -/
def acAt (n stat : Nat) (a : Act) (l : List (Nat × Nat)) : State :=
  poke { up with acts := [(n, a)] } ([(Adr.POWNER (Pg.ACT n), 1), (Adr.PCTRL (Pg.ACT n), 1), (Adr.ACT_STAT n, stat)] ++ l)
/-- The contactor block in a state of STAT. -/
def ctAt (stat : Nat) (l : List (Nat × Nat)) (x : List (Nat × Sample)) : State :=
  poke { up with samples := x } ([(Adr.POWNER Pg.CTR, 1), (Adr.PCTRL Pg.CTR, 1), (Adr.CTR_STAT, stat), (Adr.CTR_ROLE, 0x43201110), (Adr.SYS_BOOTSTAT, 0x10)] ++ l)

/-- A ring in a state of STAT. -/
def rgAt (k stat : Nat) (r : Ring) (l : List (Nat × Nat)) : State :=
  poke { up with rings := [(k, r)] } ([(Adr.POWNER (Pg.EFR k), 1), (Adr.PCTRL (Pg.EFR k), 1), (Adr.EFR_STAT k, stat)] ++ l)
/-- A node with 18 cells. -/
def nf (t r : Nat) : NodeFacts := ⟨18, 16, 0x30000#18, t, r⟩

/-! ### What WellFormed refuses (R19, R96, R106, R180) -/

/-- A read of SRAM with a size, a number of beats and an address. -/
def readOf (size beats addr : Nat) : Txn := ⟨false, BitVec.ofNat 32 addr, size, beats, []⟩

theorem test_wf_single : (readOf 4 1 0x20000004).wf = true ∧ (readOf 16 3 0x20000010).wf = true := by decide
theorem test_wf_size : (readOf 3 1 0x20000000).wf = false := by decide
theorem test_wf_aligned : (readOf 8 1 0x20000004).wf = false := by decide
theorem test_wf_beats : (readOf 16 5 0x20000000).wf = false := by decide
theorem test_wf_burst_size : (readOf 8 2 0x20000000).wf = false := by decide
theorem test_wf_burst_aligned : (readOf 16 2 0x20000010).wf = false := by decide
theorem test_wf_write_bytes : (Txn.wf ⟨true, 0x20000000#32, 4, 1, [1#8]⟩) = false := by decide
theorem test_wf_burst_bytes : (Txn.wf ⟨true, 0x20000000#32, 16, 2, [1#8]⟩) = false := by decide
theorem test_wf_issue : (Instr.transactionIssue 0 (readOf 3 1 0x20000000)).wf = false := by decide
theorem test_wf_register : (Instr.registerWrite 0 0x40200000#32 0#32).wf = false ∧ (Instr.registerWrite 0 0x40000002#32 0#32).wf = false := by decide
theorem test_wf_alias : (Instr.aliasWrite 0 false 0x41000000#32 0#32).wf = false := by decide
theorem test_wf_tester : (Instr.testerConfigWrite 0 0x3FFFFFFC#32 0#32).wf = false := by decide
theorem test_wf_lr : (Instr.lrW 5 1 0x20000000#32).wf = false ∧ (Instr.lrW 0 1 0x20000002#32).wf = false := by decide
theorem test_wf_sc : (Instr.scW 5 1 0x20000000#32 0#32).wf = false := by decide
theorem test_wf_amo : (Instr.amo 0 .add 1 0x20000001#32 0#32).wf = false := by decide
theorem test_wf_trim : (Instr.trimMemoryWrite 0 0x20000000#32 false 0#64).wf = false ∧ (Instr.trimMemoryWrite 0 0x30000004#32 true 0#64).wf = false := by decide

/-- A command that is not well-formed stops. -/
theorem test_ill_formed_stops : exec (.registerWrite 0 0x40000002#32 0#32) State.reset = .fault .illFormedCommand := rfl

/-! ### The queue -/

theorem test_tick : step up = .next up.tick.settle ∧ up.tick.now = 1001 := ⟨rfl, rfl⟩
theorem test_front : step (up.setPending [.fence 0, .shroudACycle]) = exec (.fence 0) (up.setPending [.shroudACycle]) := rfl

/-! ### Check values and worked examples of the spec -/

/-- The check value of CRC-32 of IEEE 802.3 (R81): that of the bytes of the text 123456789. -/
theorem test_crc32 : crc32 [0x31#8, 0x32#8, 0x33#8, 0x34#8, 0x35#8, 0x36#8, 0x37#8, 0x38#8, 0x39#8] = 0xCBF43926#32 := by decide
/-- The check value of CRC-64 of ECMA-182 (R119). -/
theorem test_crc64 : crc64 [0x31#8, 0x32#8, 0x33#8, 0x34#8, 0x35#8, 0x36#8, 0x37#8, 0x38#8, 0x39#8] = 0x6C40DF5F0B497347#64 := by decide
/-- The set alias of PWM3.PCTRL (01_architecture.md). -/
theorem test_alias : aliasAddr false (Adr.PCTRL (Pg.PWM 3)) = 0x41063004 := by decide
/-- Addresses that 04_registers_events.md and 06_core_pairs.md name. -/
theorem test_addresses : busAddr (Adr.EVR_CAPCTRL 0 0) = 0x40011100 ∧ busAddr (Adr.EVR_ROUTE 0 70) = 0x40011518 ∧ busAddr (Adr.PAIR_CTRL 0) = 0x40020044
    ∧ busAddr (Adr.PAIR_FINSEL 0) = 0x40020070 := by decide
/-- The table of MUL in 08_trim_engines.md. -/
theorem test_mul : satQ (3 * 1) 1 = (2, false) ∧ satQ (-3 * 1) 1 = (-1, false) ∧ satQ (0x40000000 * 0x60000000) 31 = (0x30000000, false)
    ∧ satQ (0x7FFFFFFF * 3) 0 = (0x7FFFFFFF, true) := by decide
/-- k5 = 2.0 takes the word of 800 V, 0.4, to 0.8 (09_acquisition_comparators.md). -/
theorem test_rescale : satQ (0x33333333 * 0x40000000) 29 = (0x66666666, false) := by decide
/-- A duty of 0.30 at P = 480 000 (10_pwm_gate_channels.md). -/
theorem test_duty : dutyOf 0x26666666#32 240000 = 72000 := by decide
/-- 12 index positions of 240 in 1000.0 µs are 3000 rpm (11_toothed_wheel_feedback.md). -/
theorem test_rpm : speedWord 240 12 600000 = 0x05DC0000#32 := by decide
/-- With GAPR = 18, intervals of 333.3 and 1000.0 µs mark the reference; equal ones do not. -/
theorem test_gap : gapTest false 18 [800000, 200000, 0] = true ∧ gapTest false 18 [400000, 200000, 0] = false := by decide
/-- NX = 2757 and HYS = 257: HIGH at 2757 rpm, LOW below 2500 rpm, as before between (07_shroud_safety.md). -/
theorem test_class : speedClass 2757 257 .low (some (2757 * 32768)) = .high ∧ speedClass 2757 257 .high (some (2500 * 32768)) = .high
    ∧ speedClass 2757 257 .high (some (2499 * 32768)) = .low := by decide
/-- The islands of PF4: the median of the other seven of GCH25 is 71 (09_acquisition_comparators.md). -/
theorem test_median : median2 [71, 70, 72, 69, 74, 73, 71] = some (2 * 71) ∧ median2 [70, 72, 69, 74, 73, 71, 104] = some (2 * 72) := by decide
/-- A pilot duty of 50 % gives 30 A, and 2.00 V at PP a cable of 32 A (14_charging.md). -/
theorem test_pilot : pilotLimit 500 0 = 300 ∧ cableLimit (ppDecode 2000) = 320 := by decide

/-- The data slots of a FIXED area whose channel 0 carries a code, and its anchor. -/
def fixedBits (code anchor : Nat) : List Bool :=
  ((List.range 7).map fun i => code.testBit (6 - i)) ++ List.replicate 119 false ++ ((List.range 16).map fun i => anchor.testBit (15 - i))

/-- The four samples of FIXED with q = 2 and r = 36 000 (16_efhimbe_ring.md). -/
theorem test_fixed : (fixedChan (nf 0 0) 2 1 (fixedBits 25 0) ⟨36000, true, false, 0, true, none⟩ 0).r = 36050
    ∧ (fixedChan (nf 0 0) 2 1 (fixedBits 63 0) ⟨36050, true, false, 0, true, none⟩ 0).r = 36176
    ∧ (fixedChan (nf 0 0) 2 1 (fixedBits 63 0) ⟨36050, true, false, 0, true, none⟩ 0).approx = true
    ∧ (fixedChan (nf 0 0) 2 1 (fixedBits 20 0) ⟨36176, true, false, 0, true, none⟩ 0).r = 36216
    ∧ (fixedChan (nf 0 0) 2 64 (fixedBits 0 36219) ⟨36216, true, false, 0, true, none⟩ 0).r = 36219 := by decide

/-! ### What the statements of Obligations.lean assume can hold: a state and operands for each of their clauses -/

theorem witness_StepTakesFront : (∃ (c : Instr) (rest : List Instr) (s : State), s.pending = c :: rest) ∧ (∃ s : State, s.pending = []) :=
  ⟨⟨.fence 0, [.shroudACycle], up.setPending [.fence 0, .shroudACycle], rfl⟩, ⟨up, rfl⟩⟩
theorem witness_CommandsComplete : (∃ c : Instr, c.wf = true) ∧ (∃ c : Instr, c.wf = false) ∧ (∃ s : State, s.pending ≠ [] ∧ s.QueueWf) :=
  ⟨⟨.fence 0, rfl⟩, ⟨.registerWrite 0 0x40000001#32 5#32, by decide⟩,
   ⟨up.setPending [.fence 0], by decide, fun c h => by rw [List.mem_singleton.mp h]; rfl⟩⟩
theorem witness_OnlyWhatARowCanChange : ∃ (c : Instr) (s t : State) (p : Part), exec c s = .next t ∧ p ∉ canChange c :=
  ⟨.fence 0, up, _, .kept, rfl, by decide⟩
theorem witness_InterruptLinesAreShown : ∃ s t : State, step s = .next t := ⟨up, _, rfl⟩
theorem witness_MemoryStaysCanonical : ∃ s t : State, Memory.wf s.mem ∧ step s = .next t := ⟨lay up [(0x20000000, 7)], _, by decide, rfl⟩

theorem witness_FaultedPagesStayDisabled :
    (∃ (s : State) (p : Nat), (pageRow p).isSome = true ∧ s.pageEn p = false ∧ (s.flag (Adr.PFAULT p) 31 = true ∨ s.flag (Adr.PFAULT p) 30 = true))
    ∧ (∃ (s : State) (p : Nat), (pageRow p).isSome = true ∧ s.pageEn p = false ∧ (s.flag (Adr.PFAULT p) 31 = true ∨ s.flag (Adr.PFAULT p) 30 = true))
    ∧ (∃ (s : State) (port : Port) (p : Nat) (w : Word), (pageRow p).isSome = true ∧ s.pageEn p = false ∧ (s.flag (Adr.PFAULT p) 31 = true ∨ s.flag (Adr.PFAULT p) 30 = true) ∧ s.Owns port p ∧ s.storeHeld p = false ∧ bit w 0 = true) :=
  ⟨⟨(poke (mine Pg.HK 1) [(Adr.PFAULT Pg.HK, 0x40000000)]), Pg.HK, by decide, by decide, by decide⟩,
   ⟨(poke (mine Pg.HK 1) [(Adr.PFAULT Pg.HK, 0x40000000)]), Pg.HK, by decide, by decide, by decide⟩,
   ⟨(poke (mine Pg.HK 1) [(Adr.PFAULT Pg.HK, 0x40000000)]), 0, Pg.HK, 1#32, by decide, by decide, by decide, by decide, by decide, by decide⟩⟩

theorem witness_RouterAndPairOwners :
    (∃ (s : State) (n : Fin 2) (port : Port) (p : Nat) (w : Word), port.val < 5 ∧ (p = Pg.EVR n ∨ p = Pg.PAIR n) ∧ s.portLive port = true ∧ s.pageOn p = true ∧ s.owner p = 0 ∧ bits w 1 0 = n + 1 ∧ (portOwner port = n + 1 ∨ port.val = 4))
    ∧ (∃ (s : State) (n : Fin 2) (port : Port) (p : Nat) (w : Word), port.val < 5 ∧ (p = Pg.EVR n ∨ p = Pg.PAIR n) ∧ s.portLive port = true ∧ s.pageOn p = true ∧ s.owner p = 0 ∧ bits w 1 0 = 3 ∧ port.val = 4)
    ∧ (∃ (s : State) (n : Fin 2) (port : Port) (p : Nat) (w : Word), port.val < 5 ∧ (p = Pg.EVR n ∨ p = Pg.PAIR n) ∧ s.portLive port = true ∧ s.pageOn p = true ∧ s.owner p = 0 ∧ bits w 1 0 = 2 - n.val) :=
  ⟨⟨up, 0, 4, (Pg.EVR 0), 1#32, by decide, by decide, by decide, by decide, by decide, by decide, by decide⟩,
   ⟨up, 1, 4, (Pg.PAIR 1), 3#32, by decide, by decide, by decide, by decide, by decide, by decide, by decide⟩,
   ⟨up, 0, 2, (Pg.PAIR 0), 2#32, by decide, by decide, by decide, by decide, by decide, by decide⟩⟩

theorem witness_TargetsTimeOut :
    ∃ (s : State) (k : Fin 16) (p : Nat) (x : Txn) (rest : List (Nat × Txn)), s.icxGranted k = (p, x) :: rest ∧ s.pageOn Pg.ICX = true :=
   ⟨({ up with icx := { Icx.reset with granted := [(1, [(0, { write := false, addr := 0x20000000#32, size := 4, beats := 1, data := [] })])] } }), 1, 0, ({ write := false, addr := 0x20000000#32, size := 4, beats := 1, data := [] }), ([]), by decide, by decide⟩

theorem witness_KeysAndOwners :
    (∃ (s : State) (port : Port) (p : Nat), (pageRow p).isSome = true ∧ s.Owns port p)
    ∧ (∃ (s : State) (port : Port) (p : Nat), (pageRow p).isSome = true ∧ s.Owns port p ∧ (s.page p).key = .first port)
    ∧ (∃ (s : State), ∃ (port : Port), ∃ (p : Nat), ∃ w, (pageRow p).isSome = true ∧ s.Owns port p ∧ w ≠ 0x9C3A#16 ∧ ((w = 0x63C5#16 → (s.page p).key ≠ .first port)))
    ∧ (∃ (s : State), ∃ (p : Nat), ∃ q, (pageRow p).isSome = true ∧ (s.page p).key = .armed q)
    ∧ (∃ (s : State), ∃ (port : Port), ∃ (p : Nat), ∃ w, (pageRow p).isSome = true ∧ s.portLive port = true ∧ port < 5 ∧ s.pageOn p = true ∧ s.owner p = 0 ∧ bits w 1 0 ≠ 0 ∧ ((bits w 1 0 = portOwner port ∨ port = 4)) ∧ (¬(bits w 1 0 = 2 ∧ (p = Pg.EVR 0 ∨ p = Pg.PAIR 0))) ∧ (¬(bits w 1 0 = 1 ∧ (p = Pg.EVR 1 ∨ p = Pg.PAIR 1))))
    ∧ (∃ (s : State) (port : Port) (p : Nat), (pageRow p).isSome = true ∧ s.portLive port = true ∧ port < 5 ∧ s.pageOn p = true ∧ s.owner p ≠ 0) :=
  ⟨⟨(mine Pg.HK 1), 0, Pg.HK, by decide, by decide⟩,
   ⟨(({ mine Pg.HK 1 with pages := [(Pg.HK, { PageHid.reset with key := .first 0 })] })), 0, Pg.HK, by decide, by decide, by decide⟩,
   ⟨(({ mine Pg.HK 1 with pages := [(Pg.HK, { PageHid.reset with key := .armed 0 })] })), 0, Pg.HK, 0x63C5#16, by decide, by decide, by decide, by decide⟩,
   ⟨(({ mine Pg.HK 1 with pages := [(Pg.HK, { PageHid.reset with key := .armed 0 })] })), Pg.HK, 0, by decide, by decide⟩,
   ⟨(poke (up) [(Adr.POWNER Pg.TSCH, 0)]), 4, Pg.TSCH, 3#32, by decide, by decide, by decide, by decide, by decide, by decide, by decide, by decide, by decide⟩,
   ⟨(mine Pg.HK 1), 2, Pg.HK, by decide, by decide, by decide, by decide, by decide⟩⟩

theorem witness_AcceptedWrites :
    (∃ (s : State) (port : Port) (a : Nat) (w : Word), a < 0x200000 ∧ a % 4 = 0 ∧ 0x40 ≤ a % 4096 ∧ s.Owns port (a / 4096) ∧ ((pageBlock (a / 4096) = some .tbu ∨ pageBlock (a / 4096) = some .hk ∨ pageBlock (a / 4096) = some .enc ∨ pageBlock (a / 4096) = some .can)) ∧ (regInfo (a / 4096) (a % 4096)).clamp = .none_ ∧ s.refusalOf port a .plain w = none)
    ∧ (∃ (s : State) (port : Port) (a : Nat) (w : Word), a < 0x200000 ∧ a % 4 = 0 ∧ 0x40 ≤ a % 4096 ∧ s.Owns port (a / 4096) ∧ ((pageBlock (a / 4096) = some .tbu ∨ pageBlock (a / 4096) = some .hk ∨ pageBlock (a / 4096) = some .enc ∨ pageBlock (a / 4096) = some .can)) ∧ (regInfo (a / 4096) (a % 4096)).clamp = .none_ ∧ s.refusalOf port a .set w = none)
    ∧ (∃ (s : State) (port : Port) (a : Nat) (w : Word), a < 0x200000 ∧ a % 4 = 0 ∧ 0x40 ≤ a % 4096 ∧ s.Owns port (a / 4096) ∧ ((pageBlock (a / 4096) = some .tbu ∨ pageBlock (a / 4096) = some .hk ∨ pageBlock (a / 4096) = some .enc ∨ pageBlock (a / 4096) = some .can)) ∧ (regInfo (a / 4096) (a % 4096)).clamp = .none_ ∧ s.refusalOf port a .clear w = none) :=
  ⟨⟨(mine (Pg.CAN 2) 1), 0, (Adr.CAN_FLT 2 31), 0xFFFFFFFF#32, by decide, by decide, by decide, by decide, by decide, by decide, by decide⟩,
   ⟨(mine (Pg.CAN 2) 1), 0, (Adr.CAN_TXTAIL 2), 5#32, by decide, by decide, by decide, by decide, by decide, by decide, by decide⟩,
   ⟨(mine (Pg.CAN 2) 1), 0, (Adr.CAN_TXTAIL 2), 5#32, by decide, by decide, by decide, by decide, by decide, by decide, by decide⟩⟩

theorem witness_RefusedWrites :
    ∃ (s : State), ∃ (port : Port), ∃ (a : Nat), ∃ (w : Word), ∃ r, a < 0x200000 ∧ a % 4 = 0 ∧ a % 4096 ≠ 0x18 ∧ a % 4096 ≠ 0x1C ∧ (pageRow (a / 4096)).isSome = true ∧ s.portLive port = true ∧ s.pageOn (a / 4096) = true ∧ ((∀ b, pageBlock (a / 4096) = some b → b ≠ .evr ∧ b ≠ .can ∧ b ≠ .eth)) ∧ ((5 ≤ port.val ∧ r = 7) ∨ (port < 5 ∧ s.ownerPort (a / 4096) port = false ∧ r = 1) ∨ (s.Owns port (a / 4096) ∧ s.refusalOf port a .plain w = some r)) :=
   ⟨up, 5, Adr.HK_RCFG, 1#32, 7, by decide, by decide, by decide, by decide, by decide, by decide, by decide, by decide, by decide⟩

theorem witness_EnableDisableReset :
    (∃ (s : State) (port : Port) (p : Nat) (b : Block), pageBlock p = some b ∧ s.Owns port p ∧ s.refusalOf port (Adr.PCTRL p) .plain (s.pctrlWith p 1#32) = none)
    ∧ (∃ (s : State) (port : Port) (p : Nat) (b : Block), pageBlock p = some b ∧ s.Owns port p ∧ s.refusalOf port (Adr.PCTRL p) .plain (s.pctrlWithout p 1#32) = none)
    ∧ (∃ (s : State) (port : Port) (p : Nat) (b : Block), pageBlock p = some b ∧ s.Owns port p ∧ s.refusalOf port (Adr.PCTRL p) .plain (s.pctrlWith p 2#32) = none)
    ∧ (∃ (s : State) (port : Port) (p : Nat) (b : Block), pageBlock p = some b ∧ s.Owns port p ∧ s.refusalOf port (Adr.PCTRL p) .plain (s.pctrlWith p 4#32) = none)
    ∧ (∃ (s : State) (p : Nat) (r : BlockRow), pageRow p = some r ∧ s.pageOn p = true ∧ s.flag (Adr.PSTAT p) 31 = true)
    ∧ (∃ (s : State), ∃ (p : Nat), ∃ (r : BlockRow), ∃ l, pageRow p = some r ∧ s.pageOn p = true ∧ s.pageLocked p = true ∧ s.flag (Adr.PSTAT p) 31 = false ∧ (s.page p).latch = some l ∧ pageCrc r.blk (p - r.page) (fun o => s.reg (4096 * p + o)) = l)
    ∧ (∃ (s : State), ∃ (p : Nat), ∃ (r : BlockRow), ∃ l, pageRow p = some r ∧ s.pageOn p = true ∧ s.pageLocked p = true ∧ s.flag (Adr.PSTAT p) 31 = false ∧ (s.page p).latch = some l ∧ pageCrc r.blk (p - r.page) (fun o => s.reg (4096 * p + o)) ≠ l ∧ s.pageMarked p = false ∧ s.owner p = 3 ∧ s.flag (Adr.PFAULT p) 31 = false)
    ∧ (∃ (s : State) (p : Nat) (r : BlockRow) (off : BitVec 12), pageRow p = some r ∧ s.pageOn p = true ∧ s.pageLocked p = false ∧ off.toNat ∈ configOffsets r.blk (p - r.page)) :=
  ⟨⟨(poke (mine (Pg.ICX) 1) []), 0, Pg.ICX, .icx, by decide, by decide, by decide⟩,
   ⟨(poke (mine (Pg.ICX) 1) [(Adr.PCTRL (Pg.ICX), 1)]), 0, Pg.ICX, .icx, by decide, by decide, by decide⟩,
   ⟨(poke (mine (Pg.TBU) 1) [(Adr.PCTRL (Pg.TBU), 9), (Adr.PFAULT (Pg.TBU), 0xC0000001), (Adr.PEVT (Pg.TBU), 1)]), 0, Pg.TBU, .tbu, by decide, by decide, by decide⟩,
   ⟨(poke (mine (Pg.HK) 1) []), 0, Pg.HK, .hk, by decide, by decide, by decide⟩,
   ⟨(poke (mine Pg.HK 3) [(Adr.PSTAT Pg.HK, 0x80000000)]), Pg.HK, ((pageRow Pg.HK).get (by decide)), by decide, by decide, by decide⟩,
   ⟨(({ mine Pg.HK 3 with pages := [(Pg.HK, { PageHid.reset with latch := some (pageCrc .hk 0 fun o => (mine Pg.HK 3).reg (4096 * Pg.HK + o)) })] } : State).setReg (Adr.PCTRL Pg.HK) 4#32), Pg.HK, ((pageRow Pg.HK).get (by decide)), ((((({ mine Pg.HK 3 with pages := [(Pg.HK, { PageHid.reset with latch := some (pageCrc .hk 0 fun o => (mine Pg.HK 3).reg (4096 * Pg.HK + o)) })] } : State).setReg (Adr.PCTRL Pg.HK) 4#32).page Pg.HK).latch.getD 0#32)), by decide, by decide, by decide, by decide, by decide, by decide⟩,
   ⟨(({ mine Pg.HK 3 with pages := [(Pg.HK, { PageHid.reset with latch := some 5#32 })] } : State).setReg (Adr.PCTRL Pg.HK) 4#32), Pg.HK, ((pageRow Pg.HK).get (by decide)), 5#32, by decide, by decide, by decide, by decide, by decide, by decide, by decide, by decide, by decide⟩,
   ⟨(mine Pg.HK 3), Pg.HK, ((pageRow Pg.HK).get (by decide)), 0x40#12, by decide, by decide, by decide, by decide⟩⟩

theorem witness_CapturesAndTime :
    (∃ (s : State) (port : Port) (n : Fin 2), s.portLive port = true ∧ s.pageOn (Pg.EVR n) = true)
    ∧ (∃ (s : State) (port : Port) (n : Fin 2) (k : Fin 8), s.portLive port = true ∧ s.pageOn (Pg.EVR n) = true ∧ (s.cap (8 * n + k)).frozen = some port.val ∧ (s.cap (8 * n + k)).held = none)
    ∧ (∃ (s : State), ∃ (port : Port), ∃ (n : Fin 2), ∃ (k : Fin 8), ∃ at_, ∃ w, s.portLive port = true ∧ s.pageOn (Pg.EVR n) = true ∧ (s.cap (8 * n + k)).frozen = some port.val ∧ (s.cap (8 * n + k)).held = some (at_, w))
    ∧ (∃ (s : State) (n : Fin 2) (k : Fin 8), (s.cap (8 * n + k)).frozen ≠ none ∧ (s.cap (8 * n + k)).held = none)
    ∧ (∃ (s : State) (port : Port) (n : Fin 2) (k : Fin 8), s.Owns port (Pg.EVR n) ∧ s.refusalOf port (Adr.EVR_CAPCTRL n k) .plain (s.withBits (Adr.EVR_CAPCTRL n k) 2#32) = none ∧ (s.cap (8 * n + k)).frozen = none ∧ s.fld (Adr.EVR_CAPCTRL n k) 6 4 = 2)
    ∧ (∃ (s : State) (port : Port) (n : Fin 2), s.portLive port = true ∧ s.pageOn (Pg.EVR n) = true)
    ∧ (∃ (s : State) (e : Fin 256), e.val ∈ s.router.pulses)
    ∧ (∃ (s : State) (n : Fin 2), s.timerRuns n = true ∧ s.pageOn (Pg.EVR n) = true)
    ∧ (∃ (s : State), s.gmsRuns = true ∧ s.gms.bb.log.length + s.router.entries.length ≤ 8192) :=
  ⟨⟨(mine (Pg.EVR 0) 1), 0, 0, by decide, by decide⟩,
   ⟨(poke (({ mine (Pg.EVR 0) 1 with caps := [(3, { frozen := some 0, held := none })] })) [(Adr.EVR_CAPSTAT 0 3, 5)]), 0, 0, 3, by decide, by decide, by decide, by decide⟩,
   ⟨(({ mine (Pg.EVR 0) 1 with caps := [(3, { frozen := some 0, held := some (77, 9#32) })] })), 0, 0, 3, 77, 9#32, by decide, by decide, by decide, by decide⟩,
   ⟨(poke (({ mine (Pg.EVR 0) 1 with caps := [(3, { frozen := some 0, held := none })] })) [(Adr.EVR_CAPSTAT 0 3, 5)]), 0, 3, by decide, by decide⟩,
   ⟨(poke (mine (Pg.EVR 0) 1) [(Adr.EVR_CAPCTRL 0 3, 0x20)]), 0, 0, 3, by decide, by decide, by decide, by decide⟩,
   ⟨up, 0, 0, by decide, by decide⟩,
   ⟨(({ up with router := { pulses := [40], entries := [(40, (5, 2))] } })), 40, by decide⟩,
   ⟨(poke (up) [(Adr.PEVEN (Pg.EVR 1), 2), (Adr.EVR_TMRCTRL 1, 1), (Adr.PCTRL (Pg.EVR 1), 1)]), 1, by decide, by decide⟩,
   ⟨(({ up with router := { pulses := [], entries := [(64, (5, 2)), (70, (3, 1))] } })), by decide, by decide⟩⟩

theorem witness_SupplyLoss :
    (∃ (s : State) (vs : BitVec 16), s.awake = true ∧ vs.toNat < 1600 ∧ s.flag Adr.SYS_VSMON 16 = false ∧ s.flag Adr.MBX_GSTAT 9 = false ∧ s.gms.restarting = false)
    ∧ (∃ (s : State) (vs : BitVec 16), s.awake = true ∧ 1600 ≤ vs.toNat)
    ∧ (∃ (s : State) (vs : BitVec 16) (t0 : Nat) (low : Nat), s.awake = true ∧ 1700 < vs.toNat ∧ s.flag Adr.SYS_VSMON 16 = true ∧ s.pwr.dip = some (t0, low) ∧ s.gms.bb.log.length < 8192)
    ∧ (∃ (s : State) (vs : BitVec 16), s.awake = true ∧ 3600 < vs.toNat ∧ s.flag Adr.SYS_VSMON 17 = false ∧ s.pageOn Pg.SYS = true)
    ∧ (∃ (s : State) (vs : BitVec 16), vs.toNat < 800 ∧ s.pwr.phase = .run)
    ∧ (∃ (s : State), s.pwr.phase = .holdup ∧ s.flag Adr.MBX_GSTAT 9 = false)
    ∧ (∃ (s : State), (s.pwr.phase = .holdup ∨ s.pwr.phase = .dark))
    ∧ (∃ (s : State), s.flag Adr.SYS_CLKSTAT 3 = true ∧ s.gms.restarting = false)
    ∧ (∃ (s : State), s.flag Adr.SYS_CLKSTAT 4 = true ∧ s.pageOn Pg.SYS = true)
    ∧ (∃ (s : State), s.flag Adr.SYS_CLKSTAT 3 = true ∧ s.flag Adr.SYS_CLKSTAT 4 = false ∧ s.domOn 8 = true ∧ s.pwr.relocks < 3 ∧ s.flag Adr.TWIN_CTRL 0 = false)
    ∧ (∃ (s : State), s.flag Adr.SYS_CLKSTAT 3 = true ∧ s.flag Adr.SYS_CLKSTAT 4 = false ∧ s.domOn 8 = true ∧ s.pwr.relocks < 3) :=
  ⟨⟨up, 1599#16, by decide, by decide, by decide, by decide, by decide⟩,
   ⟨up, 1600#16, by decide, by decide⟩,
   ⟨(poke { up with pwr := { up.pwr with dip := some (900, 1500) } } [(Adr.SYS_VSMON, 0x10000)]), 1701#16, 900, 1500, by decide, by decide, by decide, by decide, by decide⟩,
   ⟨up, 3601#16, by decide, by decide, by decide, by decide⟩,
   ⟨up, 799#16, by decide, by decide⟩,
   ⟨(lay (poke { up with pwr := { up.pwr with phase := .holdup } } [(Adr.SYS_RTC, 9)]) [(0x10000000, 5), (0x20000000, 6)]), by decide, by decide⟩,
   ⟨(lay (poke { up with pwr := { up.pwr with phase := .holdup } } [(Adr.SYS_RTC, 9)]) [(0x10000000, 5), (0x20000000, 6)]), by decide⟩,
   ⟨up, by decide, by decide⟩,
   ⟨up, by decide, by decide⟩,
   ⟨(poke (up) [(Adr.SYS_CLKSTAT, 0xF), (Adr.POWNER (Pg.ETH 1), 3), (Adr.PCTRL (Pg.ETH 1), 1)]), by decide, by decide, by decide, by decide, by decide⟩,
   ⟨(poke (up) [(Adr.SYS_CLKSTAT, 0xF)]), by decide, by decide, by decide, by decide⟩⟩

theorem witness_Commits :
    (∃ (s : State), s.gmsRuns = true ∧ s.flag Adr.MBX_GSTAT 11 = true)
    ∧ (∃ (s : State), s.gmsRuns = true ∧ s.flag Adr.MBX_GSTAT 11 = true ∧ s.gms.fc.trigAt.isSome = true ∧ s.flag Adr.MBX_GSTAT 9 = false)
    ∧ (∃ (s : State), s.gmsRuns = true ∧ s.flag Adr.MBX_GSTAT 9 = false)
    ∧ (∃ (s : State), s.gmsRuns = true ∧ s.flag Adr.MBX_GSTAT 9 = true)
    ∧ (∃ (s : State), ∃ b, s.gmsRuns = true ∧ s.flag Adr.MBX_GSTAT 9 = true ∧ s.flag Adr.MBX_GSTAT 10 = false ∧ s.gms.snap = some b ∧ s.gms.after = .nothing ∧ (s.bbBody b).length ≤ 0xFFFF0)
    ∧ (∃ (s : State), s.gmsRuns = true ∧ s.flag Adr.MBX_GSTAT 9 = true ∧ s.flag Adr.MBX_GSTAT 10 = true)
    ∧ (∃ (s : State), s.gmsRuns = true ∧ s.flag Adr.MBX_GSTAT 9 = true ∧ s.flag Adr.MBX_GSTAT 10 = false ∧ s.gms.after = .sleep)
    ∧ (∃ (s : State), ∃ c, s.gmsRuns = true ∧ c < 10 ∧ s.flag Adr.MBX_GSTAT 9 = true ∧ s.flag Adr.MBX_GSTAT 10 = false ∧ s.gms.after = .coldReset c) :=
  ⟨⟨({ poke up [(Adr.MBX_GSTAT, 0x800)] with samples := [(8, ⟨0x70000#32, true, 5⟩), (9, ⟨0x70000000#32, true, 5⟩)], gms := { up.gms with fc := { Capture.reset with sels := [7, 8, 9, 8], open_ := [(1, ⟨some 5, []⟩), (2, ⟨some 5, [some 6]⟩), (3, ⟨some 1, []⟩)], trigAt := none } } }), by decide, by decide⟩,
   ⟨({ poke up [(Adr.MBX_GSTAT, 0x800)] with samples := [], gms := { up.gms with fc := { Capture.reset with sels := [], open_ := [(1, ⟨some 5, [some 6]⟩), (2, ⟨none, [none]⟩)], trigAt := some 500 } } }), by decide, by decide, by decide, by decide⟩,
   ⟨up, by decide, by decide⟩,
   ⟨({ (poke (up) [(Adr.MBX_GSTAT, 0x200)]) with gms := { (poke (up) [(Adr.MBX_GSTAT, 0x200)]).gms with snap := some { BlackBox.reset with starts := 4 }, after := .nothing } }), by decide, by decide⟩,
   ⟨({ (poke (up) [(Adr.MBX_GSTAT, 0x200)]) with gms := { (poke (up) [(Adr.MBX_GSTAT, 0x200)]).gms with snap := some { BlackBox.reset with starts := 4 }, after := .nothing } }), ({ BlackBox.reset with starts := 4 }), by decide, by decide, by decide, by decide, by decide, bbBody_fits _ _ (by decide)⟩,
   ⟨({ (poke (up) [(Adr.MBX_GSTAT, 0x600)]) with gms := { (poke (up) [(Adr.MBX_GSTAT, 0x600)]).gms with snap := some { BlackBox.reset with starts := 4 }, after := .sleep } }), by decide, by decide, by decide⟩,
   ⟨({ (poke (up) [(Adr.MBX_GSTAT, 0x200)]) with gms := { (poke (up) [(Adr.MBX_GSTAT, 0x200)]).gms with snap := some { BlackBox.reset with starts := 4 }, after := .sleep } }), by decide, by decide, by decide, by decide⟩,
   ⟨({ (poke (up) [(Adr.MBX_GSTAT, 0x200)]) with gms := { (poke (up) [(Adr.MBX_GSTAT, 0x200)]).gms with snap := some { BlackBox.reset with starts := 4 }, after := .coldReset 3 } }), 3, by decide, by decide, by decide, by decide, by decide⟩⟩

theorem witness_MeterAndScrub :
    (∃ (s : State), ∃ (m : Meter), ∃ (w : Sample), ∃ t0, ∃ v, s.gmsRuns = true ∧ m = s.gms.meter ∧ w = s.word m.misel ∧ m.lastT = some t0 ∧ t0 < w.time ∧ w.time ≤ t0 + 600000 ∧ w.valid = true ∧ m.vbat w.time = some v)
    ∧ (∃ (s : State), ∃ (m : Meter), ∃ (w : Sample), ∃ t0, s.gmsRuns = true ∧ m = s.gms.meter ∧ w = s.word m.misel ∧ m.lastT = some t0 ∧ t0 < w.time ∧ (t0 + 600000 < w.time ∨ w.valid = false ∨ m.vbat w.time = none))
    ∧ (∃ (s : State) (m : Meter) (w : Sample), s.gmsRuns = true ∧ m = s.gms.meter ∧ w = s.word m.misel ∧ m.record.length ≤ 0xFF0)
    ∧ (∃ (s : State), ∃ (m : Meter), ∃ (w : Sample), ∃ (k : Fin 4), ∃ x, s.gmsRuns = true ∧ m = s.gms.meter ∧ w = s.word m.misel ∧ m.ringMask = 2 ^ k.val ∧ s.live (0xC0 + 4 * k + 2) s.now = x ∧ x.valid = true)
    ∧ (∃ (s : State), ∃ (m : Meter), ∃ (w : Sample), ∃ x, s.gmsRuns = true ∧ m = s.gms.meter ∧ w = s.word m.misel ∧ s.live m.misel s.now = x ∧ x.valid = true ∧ m.capacity ≠ 0 ∧ 0 < m.current x.value)
    ∧ (∃ (s : State) (m : Meter) (w : Sample), s.gmsRuns = true ∧ m = s.gms.meter ∧ w = s.word m.misel ∧ (s.flag Adr.SYS_RSTCAUSE 9 = true ∨ s.kept.scrubbed + 31536000 ≤ (s.reg Adr.SYS_RTC).toNat) ∧ s.gms.bb.log.length < 8192) :=
  ⟨⟨(poke { up with samples := [(7, ⟨0x10000000#32, true, 1700⟩)], gms := { up.gms with meter := { Meter.reset with misel := 7, mifs := 1000000, gain := 0x40000000#32, lastT := some 700, vb0 := ⟨0x20000000#32, true, 2000⟩, vb1 := ⟨0x10000000#32, true, 500⟩ } } } []), ((poke { up with samples := [(7, ⟨0x10000000#32, true, 1700⟩)], gms := { up.gms with meter := { Meter.reset with misel := 7, mifs := 1000000, gain := 0x40000000#32, lastT := some 700, vb0 := ⟨0x20000000#32, true, 2000⟩, vb1 := ⟨0x10000000#32, true, 500⟩ } } } []).gms.meter), ((poke { up with samples := [(7, ⟨0x10000000#32, true, 1700⟩)], gms := { up.gms with meter := { Meter.reset with misel := 7, mifs := 1000000, gain := 0x40000000#32, lastT := some 700, vb0 := ⟨0x20000000#32, true, 2000⟩, vb1 := ⟨0x10000000#32, true, 500⟩ } } } []).word (poke { up with samples := [(7, ⟨0x10000000#32, true, 1700⟩)], gms := { up.gms with meter := { Meter.reset with misel := 7, mifs := 1000000, gain := 0x40000000#32, lastT := some 700, vb0 := ⟨0x20000000#32, true, 2000⟩, vb1 := ⟨0x10000000#32, true, 500⟩ } } } []).gms.meter.misel), 700, (((poke { up with samples := [(7, ⟨0x10000000#32, true, 1700⟩)], gms := { up.gms with meter := { Meter.reset with misel := 7, mifs := 1000000, gain := 0x40000000#32, lastT := some 700, vb0 := ⟨0x20000000#32, true, 2000⟩, vb1 := ⟨0x10000000#32, true, 500⟩ } } } []).gms.meter.vbat 1700).getD 0), by decide, by decide, by decide, by decide, by decide, by decide, by decide, by decide⟩,
   ⟨(poke { up with samples := [(7, ⟨0x10000000#32, false, 1700⟩)], gms := { up.gms with meter := { Meter.reset with misel := 7, lastT := some 700, vb0 := ⟨0x20000000#32, true, 2000⟩, vb1 := ⟨0x10000000#32, true, 500⟩ } } } []), ((poke { up with samples := [(7, ⟨0x10000000#32, false, 1700⟩)], gms := { up.gms with meter := { Meter.reset with misel := 7, lastT := some 700, vb0 := ⟨0x20000000#32, true, 2000⟩, vb1 := ⟨0x10000000#32, true, 500⟩ } } } []).gms.meter), ((poke { up with samples := [(7, ⟨0x10000000#32, false, 1700⟩)], gms := { up.gms with meter := { Meter.reset with misel := 7, lastT := some 700, vb0 := ⟨0x20000000#32, true, 2000⟩, vb1 := ⟨0x10000000#32, true, 500⟩ } } } []).word (poke { up with samples := [(7, ⟨0x10000000#32, false, 1700⟩)], gms := { up.gms with meter := { Meter.reset with misel := 7, lastT := some 700, vb0 := ⟨0x20000000#32, true, 2000⟩, vb1 := ⟨0x10000000#32, true, 500⟩ } } } []).gms.meter.misel), 700, by decide, by decide, by decide, by decide, by decide, by decide⟩,
   ⟨(poke { up with samples := [], gms := { up.gms with meter := { Meter.reset with misel := 7, packId := [1#32] } } } []), ((poke { up with samples := [], gms := { up.gms with meter := { Meter.reset with misel := 7, packId := [1#32] } } } []).gms.meter), ((poke { up with samples := [], gms := { up.gms with meter := { Meter.reset with misel := 7, packId := [1#32] } } } []).word (poke { up with samples := [], gms := { up.gms with meter := { Meter.reset with misel := 7, packId := [1#32] } } } []).gms.meter.misel), by decide, by decide, by decide, by decide⟩,
   ⟨(poke { up with samples := [(0xCA, ⟨0x09C40000#32, true, 1000⟩)], gms := { up.gms with meter := { Meter.reset with ringMask := 4 } } } []), ((poke { up with samples := [(0xCA, ⟨0x09C40000#32, true, 1000⟩)], gms := { up.gms with meter := { Meter.reset with ringMask := 4 } } } []).gms.meter), ((poke { up with samples := [(0xCA, ⟨0x09C40000#32, true, 1000⟩)], gms := { up.gms with meter := { Meter.reset with ringMask := 4 } } } []).word (poke { up with samples := [(0xCA, ⟨0x09C40000#32, true, 1000⟩)], gms := { up.gms with meter := { Meter.reset with ringMask := 4 } } } []).gms.meter.misel), 2, ((poke { up with samples := [(0xCA, ⟨0x09C40000#32, true, 1000⟩)], gms := { up.gms with meter := { Meter.reset with ringMask := 4 } } } []).live (0xC0 + 4 * 2 + 2) (poke { up with samples := [(0xCA, ⟨0x09C40000#32, true, 1000⟩)], gms := { up.gms with meter := { Meter.reset with ringMask := 4 } } } []).now), by decide, by decide, by decide, by decide, by decide, by decide⟩,
   ⟨(poke { up with samples := [(7, ⟨0x10000000#32, true, 1700⟩)], gms := { up.gms with meter := { Meter.reset with misel := 7, gain := 0x40000000#32, mifs := 1000, capacity := 1000 } } } []), ((poke { up with samples := [(7, ⟨0x10000000#32, true, 1700⟩)], gms := { up.gms with meter := { Meter.reset with misel := 7, gain := 0x40000000#32, mifs := 1000, capacity := 1000 } } } []).gms.meter), ((poke { up with samples := [(7, ⟨0x10000000#32, true, 1700⟩)], gms := { up.gms with meter := { Meter.reset with misel := 7, gain := 0x40000000#32, mifs := 1000, capacity := 1000 } } } []).word (poke { up with samples := [(7, ⟨0x10000000#32, true, 1700⟩)], gms := { up.gms with meter := { Meter.reset with misel := 7, gain := 0x40000000#32, mifs := 1000, capacity := 1000 } } } []).gms.meter.misel), ((poke { up with samples := [(7, ⟨0x10000000#32, true, 1700⟩)], gms := { up.gms with meter := { Meter.reset with misel := 7, gain := 0x40000000#32, mifs := 1000, capacity := 1000 } } } []).live (poke { up with samples := [(7, ⟨0x10000000#32, true, 1700⟩)], gms := { up.gms with meter := { Meter.reset with misel := 7, gain := 0x40000000#32, mifs := 1000, capacity := 1000 } } } []).gms.meter.misel (poke { up with samples := [(7, ⟨0x10000000#32, true, 1700⟩)], gms := { up.gms with meter := { Meter.reset with misel := 7, gain := 0x40000000#32, mifs := 1000, capacity := 1000 } } } []).now), by decide, by decide, by decide, by decide, by decide, by decide, by decide⟩,
   ⟨(poke { up with samples := [], gms := { up.gms with meter := { Meter.reset with misel := 7 } } } [(Adr.SYS_RSTCAUSE, 0x200), (Adr.SYS_RTC, 77)]), ((poke { up with samples := [], gms := { up.gms with meter := { Meter.reset with misel := 7 } } } [(Adr.SYS_RSTCAUSE, 0x200), (Adr.SYS_RTC, 77)]).gms.meter), ((poke { up with samples := [], gms := { up.gms with meter := { Meter.reset with misel := 7 } } } [(Adr.SYS_RSTCAUSE, 0x200), (Adr.SYS_RTC, 77)]).word (poke { up with samples := [], gms := { up.gms with meter := { Meter.reset with misel := 7 } } } [(Adr.SYS_RSTCAUSE, 0x200), (Adr.SYS_RTC, 77)]).gms.meter.misel), by decide, by decide, by decide, by decide, by decide⟩⟩

theorem witness_FieldAccess :
    (∃ (s : State) (ch : Fin 6) (x : Byte), s.udsServes ch true = true ∧ 1 ≤ x.toNat ∧ x.toNat ≤ 3)
    ∧ (∃ (s : State) (ch : Fin 6) (sub : Byte), s.udsServes ch true = true ∧ s.udsSession ch ≠ 1#8 ∧ 1 ≤ sub.toNat ∧ sub.toNat ≤ 6 ∧ s.fld Adr.MBX_AFAIL 31 16 ≠ 0)
    ∧ (∃ (s : State) (ch : Fin 6) (sub : Byte), s.udsServes ch true = true ∧ s.udsSession ch ≠ 1#8 ∧ s.fld Adr.MBX_AFAIL 31 16 = 0 ∧ (sub = 3#8 ∨ sub = 5#8))
    ∧ (∃ (s : State) (ch : Fin 6) (lvl : Nat) (c : Challenge), s.udsServes ch true = true ∧ s.udsSession ch ≠ 1#8 ∧ s.fld Adr.MBX_AFAIL 31 16 = 0 ∧ 1 ≤ lvl ∧ lvl ≤ 3 ∧ s.gms.challenge = some c ∧ c.level = lvl ∧ c.chan = ch.val ∧ (lvl = 1 ∨ s.now ≤ c.issued + 36000000000) ∧ s.level ≠ lvl ∧ s.gms.bb.log.length < 8192)
    ∧ (∃ (s : State) (ch : Fin 6) (lvl : Nat) (c : Challenge), s.udsServes ch true = true ∧ s.udsSession ch ≠ 1#8 ∧ s.fld Adr.MBX_AFAIL 31 16 = 0 ∧ 1 ≤ lvl ∧ lvl ≤ 3 ∧ s.gms.challenge = some c ∧ c.level = lvl ∧ c.chan = ch.val ∧ (lvl = 1 ∨ s.now ≤ c.issued + 36000000000))
    ∧ (∃ (s : State) (ch : Fin 6) (lvl : Nat) (c : Challenge), s.udsServes ch true = true ∧ s.udsSession ch ≠ 1#8 ∧ s.fld Adr.MBX_AFAIL 31 16 = 0 ∧ 1 ≤ lvl ∧ lvl ≤ 3 ∧ s.gms.challenge = some c ∧ (c.level ≠ lvl ∨ c.chan ≠ ch.val ∨ (1 < lvl ∧ c.issued + 36000000000 < s.now)))
    ∧ (∃ (s : State), s.gmsRuns = true ∧ s.level ≠ 0 ∧ s.gms.bb.log.length < 8192) :=
  ⟨⟨(poke { up with gms := { up.gms with doors := [] } } ([(Adr.POWNER (Pg.CAN 2), 3), (Adr.PCTRL (Pg.CAN 2), 1)] ++ [])), 2, 3#8, by decide, by decide, by decide⟩,
   ⟨(poke { up with gms := { up.gms with session := [(2, 3#8)] } } ([(Adr.POWNER (Pg.CAN 2), 3), (Adr.PCTRL (Pg.CAN 2), 1)] ++ [(Adr.MBX_AFAIL, 0x50000)])), 2, 3#8, by decide, by decide, by decide, by decide, by decide⟩,
   ⟨(poke { up with gms := { up.gms with session := [(2, 3#8)] } } ([(Adr.POWNER (Pg.CAN 2), 3), (Adr.PCTRL (Pg.CAN 2), 1)] ++ [])), 2, 3#8, by decide, by decide, by decide, by decide⟩,
   ⟨(poke { up with gms := { up.gms with session := [(2, 3#8)], challenge := some ⟨3, 2, 900⟩ } } ([(Adr.POWNER (Pg.CAN 2), 3), (Adr.PCTRL (Pg.CAN 2), 1)] ++ [])), 2, 3, ⟨3, 2, 900⟩, by decide, by decide, by decide, by decide, by decide, by decide, by decide, by decide, by decide, by decide, by decide⟩,
   ⟨(poke { up with gms := { up.gms with session := [(2, 3#8)], challenge := some ⟨2, 2, 900⟩ }, kept := { up.kept with fails := 1 } } ([(Adr.POWNER (Pg.CAN 2), 3), (Adr.PCTRL (Pg.CAN 2), 1)] ++ [])), 2, 2, ⟨2, 2, 900⟩, by decide, by decide, by decide, by decide, by decide, by decide, by decide, by decide, by decide⟩,
   ⟨(poke { up with gms := { up.gms with session := [(2, 3#8)], challenge := some ⟨2, 2, 900⟩ } } ([(Adr.POWNER (Pg.CAN 2), 3), (Adr.PCTRL (Pg.CAN 2), 1)] ++ [])), 2, 3, ⟨2, 2, 900⟩, by decide, by decide, by decide, by decide, by decide, by decide, by decide⟩,
   ⟨(poke (up) [(Adr.MBX_GSTAT, 0x32)]), by decide, by decide, by decide⟩⟩

theorem witness_UpdateServices :
    (∃ (s : State) (ch : Fin 6), s.udsServes ch false = true ∧ 1 ≤ s.level)
    ∧ (∃ (s : State) (ch : Fin 6), s.udsServes ch false = true ∧ s.level = 0)
    ∧ (∃ (s : State) (ch : Fin 6), s.udsServes ch false = true)
    ∧ (∃ (s : State) (ch : Fin 6) (b : Bool) (len : Nat), s.udsServes ch true = true ∧ 2 ≤ s.level ∧ s.slotFree b = true ∧ 0 < len ∧ len ≤ 0xC00000)
    ∧ (∃ (s : State) (ch : Fin 6), s.udsServes ch true = true ∧ 2 ≤ s.level ∧ s.pwr.phase = .run)
    ∧ (∃ (s : State) (ch : Fin 6) (d : Download) (data : List Byte), s.udsServes ch true = true ∧ 2 ≤ s.level ∧ s.flag Adr.MBX_GSTAT 9 = false ∧ s.gms.download = some d ∧ d.got + data.length ≤ d.length)
    ∧ (∃ (s : State) (ch : Fin 6) (d : Download), s.udsServes ch true = true ∧ s.gms.download = some d ∧ d.got = d.length)
    ∧ (∃ (s : State) (ch : Fin 6) (f : SlotFacts), s.udsServes ch true = true ∧ 2 ≤ s.level ∧ s.gms.download = none ∧ f.signed = true ∧ s.kept.rollback ≤ f.rollback ∧ f.oemSigned = true)
    ∧ (∃ (s : State) (ch : Fin 6) (f : SlotFacts), s.udsServes ch true = true ∧ 2 ≤ s.level ∧ s.gms.download = none ∧ (f.signed = false ∨ f.rollback < s.kept.rollback))
    ∧ (∃ (s : State) (ch : Fin 6), s.udsServes ch true = true ∧ 2 ≤ s.level ∧ s.gms.checked = some true ∧ s.kept.trial = none ∧ s.gms.bb.log.length < 8192)
    ∧ (∃ (s : State) (ch : Fin 6), s.udsServes ch true = true ∧ 2 ≤ s.level ∧ s.fld Adr.CTR_STAT 31 24 = 0 ∧ (∀ g : Fin 6, s.pageEn (Pg.GGRP g) = false))
    ∧ (∃ (s : State) (ch : Fin 6), s.udsServes ch true = true ∧ 2 ≤ s.level ∧ (s.fld Adr.CTR_STAT 31 24 ≠ 0 ∨ (∃ g : Fin 6, s.pageEn (Pg.GGRP g) = true)))
    ∧ (∃ (s : State) (ch : Fin 6) (n : Fin 2), s.udsServes ch false = true ∧ s.udsSession ch = 3#8 ∧ s.pairMode n = 3 ∧ s.domOn (3 + n) = true)
    ∧ (∃ (s : State) (ch : Fin 6) (n : Fin 2), s.udsServes ch false = true ∧ s.udsSession ch = 3#8 ∧ s.pairMode n ≠ 3)
    ∧ (∃ (s : State) (ch : Fin 6) (addr : Word) (a : Nat), regOffset addr.toNat = some a ∧ s.udsServes ch false = true ∧ s.level < 2)
    ∧ (∃ (s : State) (ch : Fin 6) (addr : Word) (value : Word) (a : Nat), regOffset addr.toNat = some a ∧ s.udsServes ch false = true ∧ 2 ≤ s.level ∧ s.owner (a / 4096) = 3 ∧ s.pageOn (a / 4096) = true ∧ 0x40 ≤ a % 4096 ∧ ((pageBlock (a / 4096) = some .tbu ∨ pageBlock (a / 4096) = some .hk ∨ pageBlock (a / 4096) = some .enc ∨ pageBlock (a / 4096) = some .can)) ∧ (regInfo (a / 4096) (a % 4096)).clamp = .none_ ∧ (s.setKey (a / 4096) (.armed 4)).refusalOf 4 a .plain value = none) :=
  ⟨⟨(poke { up with gms := { up.gms with doors := [] } } ([(Adr.POWNER (Pg.CAN 2), 3), (Adr.PCTRL (Pg.CAN 2), 1)] ++ [(Adr.MBX_GSTAT, 0x31)])), 2, by decide, by decide⟩,
   ⟨(poke { up with gms := { up.gms with doors := [] } } ([(Adr.POWNER (Pg.CAN 2), 3), (Adr.PCTRL (Pg.CAN 2), 1)] ++ [])), 2, by decide, by decide⟩,
   ⟨(poke { up with gms := { up.gms with doors := [] } } ([(Adr.POWNER (Pg.CAN 2), 3), (Adr.PCTRL (Pg.CAN 2), 1)] ++ [])), 2, by decide⟩,
   ⟨(poke { up with gms := { up.gms with doors := [] } } ([(Adr.POWNER (Pg.CAN 2), 3), (Adr.PCTRL (Pg.CAN 2), 1)] ++ [(Adr.MBX_GSTAT, 0x32)])), 2, true, 0xC00000, by decide, by decide, by decide, by decide, by decide⟩,
   ⟨(poke { up with gms := { up.gms with doors := [] } } ([(Adr.POWNER (Pg.CAN 2), 3), (Adr.PCTRL (Pg.CAN 2), 1)] ++ [(Adr.MBX_GSTAT, 0x32)])), 2, by decide, by decide, by decide⟩,
   ⟨(poke { up with gms := { up.gms with download := some ⟨true, 100, 8, 3#8⟩ } } ([(Adr.POWNER (Pg.CAN 2), 3), (Adr.PCTRL (Pg.CAN 2), 1)] ++ [(Adr.MBX_GSTAT, 0x32)])), 2, ⟨true, 100, 8, 3#8⟩, ([1#8, 2#8, 3#8]), by decide, by decide, by decide, by decide, by decide⟩,
   ⟨(poke { up with gms := { up.gms with download := some ⟨true, 8, 8, 3#8⟩ } } ([(Adr.POWNER (Pg.CAN 2), 3), (Adr.PCTRL (Pg.CAN 2), 1)] ++ [(Adr.MBX_GSTAT, 0x32)])), 2, ⟨true, 8, 8, 3#8⟩, by decide, by decide, by decide⟩,
   ⟨(poke { up with gms := { up.gms with doors := [] } } ([(Adr.POWNER (Pg.CAN 2), 3), (Adr.PCTRL (Pg.CAN 2), 1)] ++ [(Adr.MBX_GSTAT, 0x32)])), 2, ({ signed := true, oemSigned := true, rollback := 7, version := 9#32 }), by decide, by decide, by decide, by decide, by decide, by decide⟩,
   ⟨(poke { up with gms := { up.gms with doors := [] } } ([(Adr.POWNER (Pg.CAN 2), 3), (Adr.PCTRL (Pg.CAN 2), 1)] ++ [(Adr.MBX_GSTAT, 0x32)])), 2, ({ signed := false, oemSigned := true, rollback := 7, version := 9#32 }), by decide, by decide, by decide, by decide⟩,
   ⟨(poke { up with gms := { up.gms with checked := some true } } ([(Adr.POWNER (Pg.CAN 2), 3), (Adr.PCTRL (Pg.CAN 2), 1)] ++ [(Adr.MBX_GSTAT, 0x32)])), 2, by decide, by decide, by decide, by decide, by decide⟩,
   ⟨(poke { up with gms := { up.gms with doors := [] } } ([(Adr.POWNER (Pg.CAN 2), 3), (Adr.PCTRL (Pg.CAN 2), 1)] ++ [(Adr.MBX_GSTAT, 0x32)])), 2, by decide, by decide, by decide, by decide⟩,
   ⟨(poke { up with gms := { up.gms with doors := [] } } ([(Adr.POWNER (Pg.CAN 2), 3), (Adr.PCTRL (Pg.CAN 2), 1)] ++ [(Adr.MBX_GSTAT, 0x32), (Adr.PCTRL (Pg.GGRP 2), 1)])), 2, by decide, by decide, by decide⟩,
   ⟨(poke { up with gms := { up.gms with session := [(2, 3#8)] } } ([(Adr.POWNER (Pg.CAN 2), 3), (Adr.PCTRL (Pg.CAN 2), 1)] ++ [(Adr.PAIR_STAT 1, 3)])), 2, 1, by decide, by decide, by decide, by decide⟩,
   ⟨(poke { up with gms := { up.gms with session := [(2, 3#8)] } } ([(Adr.POWNER (Pg.CAN 2), 3), (Adr.PCTRL (Pg.CAN 2), 1)] ++ [(Adr.PAIR_STAT 1, 1)])), 2, 1, by decide, by decide, by decide⟩,
   ⟨(poke { up with gms := { up.gms with doors := [] } } ([(Adr.POWNER (Pg.CAN 2), 3), (Adr.PCTRL (Pg.CAN 2), 1)] ++ [])), 2, 0x40012340#32, 0x12340, by decide, by decide, by decide⟩,
   ⟨(poke { up with gms := { up.gms with doors := [] } } ([(Adr.POWNER (Pg.CAN 2), 3), (Adr.PCTRL (Pg.CAN 2), 1)] ++ [(Adr.MBX_GSTAT, 0x32), (Adr.POWNER Pg.ENC, 3)])), 2, (w32 (busAddr (Adr.ENC_CFG 1))), 5#32, (Adr.ENC_CFG 1), by decide, by decide, by decide, by decide, by decide, by decide, by decide, by decide, by decide⟩⟩

theorem witness_Waking :
    (∃ (s : State) (src : Fin 18), src.val ≠ 15 ∧ ((src.val < 10 ∨ 13 < src.val ∨ s.cmpState (18 + src) = 2)))
    ∧ (∃ (s : State), s.reg Adr.SYS_WAKETMR ≠ 0#32)
    ∧ (∃ (s : State) (f : BootFacts), s.pwr.phase = .sleep ∧ s.reg Adr.SYS_WAKESRC &&& s.reg Adr.SYS_WAKEEN ≠ 0#32 ∧ s.pwr.writes = s.pwr.sealed ∧ f.xtalOk = true)
    ∧ (∃ (s : State), s.pwr.phase = .sleep ∧ s.reg Adr.SYS_WAKESRC &&& s.reg Adr.SYS_WAKEEN = 0#32) :=
  ⟨⟨up, 2, by decide, by decide⟩,
   ⟨(poke (up) [(Adr.SYS_WAKETMR, 5)]), by decide⟩,
   ⟨(poke { State.reset with pwr := { Power.reset with phase := .sleep, savedReq := 0x3F#32 } } [(Adr.SYS_WAKESRC, 4), (Adr.SYS_WAKEEN, 5), (Adr.SYS_RTC, 77), (Adr.SYS_RETAIN 3, 6)]), ({ slotA := { signed := true, oemSigned := true, rollback := 7, version := 9#32 }, slotB := { signed := true, oemSigned := true, rollback := 7, version := 9#32 }, oemKeyWritten := true, xtalOk := true, configValid := true, provisioned := [], bbBank := true, bistA := true, bistB := true }), by decide, by decide, by decide, by decide⟩,
   ⟨(poke { State.reset with pwr := { Power.reset with phase := .sleep, savedReq := 0x3F#32 } } [(Adr.SYS_WAKESRC, 8), (Adr.SYS_WAKEEN, 5)]), by decide, by decide⟩⟩

theorem witness_ColdStarts :
    (∃ (s : State) (f : BootFacts), s.pwr.phase = .dark ∧ f.xtalOk = false)
    ∧ (∃ (s : State) (f : BootFacts), (s.pwr.phase = .dark) ∧ (f.xtalOk = true) ∧ (s.kept.trial = none) ∧ ((if s.kept.slotB then f.slotB else f.slotA).signed = true) ∧ (s.kept.rollback ≤ (if s.kept.slotB then f.slotB else f.slotA).rollback) ∧ ((f.oemKeyWritten = true → (if s.kept.slotB then f.slotB else f.slotA).oemSigned = true)))
    ∧ (∃ (s : State) (f : BootFacts), s.pwr.phase = .dark ∧ f.xtalOk = true ∧ s.kept.trial = none ∧ f.slotA.signed = false ∧ f.slotB.signed = false)
    ∧ (∃ (s : State) (f : BootFacts), (s.pwr.phase = .halted) ∧ (f.xtalOk = true) ∧ (s.kept.trial = none) ∧ ((if s.kept.slotB then f.slotB else f.slotA).signed = true) ∧ (s.kept.rollback ≤ (if s.kept.slotB then f.slotB else f.slotA).rollback) ∧ ((f.oemKeyWritten = true → (if s.kept.slotB then f.slotB else f.slotA).oemSigned = true)))
    ∧ (∃ (s : State) (f : BootFacts), s.pwr.phase = .halted ∧ f.xtalOk = false) :=
  ⟨⟨(poke { State.reset with kept := { Kept.reset with store := false } } [(Adr.SYS_RTC, 44)]), ({ slotA := { signed := true, oemSigned := true, rollback := 7, version := 9#32 }, slotB := { signed := true, oemSigned := true, rollback := 7, version := 9#32 }, oemKeyWritten := true, xtalOk := false, configValid := true, provisioned := [], bbBank := true, bistA := true, bistB := true }), by decide, by decide⟩,
   ⟨(poke { State.reset with kept := { Kept.reset with store := false } } [(Adr.SYS_RTC, 44)]), ({ slotA := { signed := true, oemSigned := true, rollback := 7, version := 9#32 }, slotB := { signed := true, oemSigned := true, rollback := 7, version := 9#32 }, oemKeyWritten := true, xtalOk := true, configValid := true, provisioned := [], bbBank := true, bistA := true, bistB := true }), by decide, by decide, by decide, by decide, by decide, by decide⟩,
   ⟨(poke { State.reset with kept := { Kept.reset with store := false } } [(Adr.SYS_RTC, 44)]), ({ slotA := { signed := false, oemSigned := true, rollback := 7, version := 9#32 }, slotB := { signed := false, oemSigned := true, rollback := 7, version := 9#32 }, oemKeyWritten := true, xtalOk := true, configValid := true, provisioned := [], bbBank := true, bistA := true, bistB := true }), by decide, by decide, by decide, by decide, by decide⟩,
   ⟨(poke { State.reset with pwr := { Power.reset with phase := .halted }, kept := { Kept.reset with store := false } } [(Adr.SYS_RTC, 44), (Adr.SYS_BOOTSTAT, 1)]), ({ slotA := { signed := true, oemSigned := true, rollback := 7, version := 9#32 }, slotB := { signed := true, oemSigned := true, rollback := 7, version := 9#32 }, oemKeyWritten := true, xtalOk := true, configValid := true, provisioned := [], bbBank := true, bistA := true, bistB := true }), by decide, by decide, by decide, by decide, by decide, by decide⟩,
   ⟨(poke { State.reset with pwr := { Power.reset with phase := .halted }, kept := { Kept.reset with store := false } } [(Adr.SYS_RTC, 44), (Adr.SYS_BOOTSTAT, 1)]), ({ slotA := { signed := true, oemSigned := true, rollback := 7, version := 9#32 }, slotB := { signed := true, oemSigned := true, rollback := 7, version := 9#32 }, oemKeyWritten := true, xtalOk := false, configValid := true, provisioned := [], bbBank := true, bistA := true, bistB := true }), by decide, by decide⟩⟩

theorem witness_DomainsAndGms :
    (∃ (s : State) (pair : Fin 2) (a : Word), s.Calls pair 0x10 0 ∧ 8 ≤ s.reqLen pair ∧ s.reqWord pair 0 = a ∧ s.reqWord pair 1 = 0#32 ∧ a &&& 0xFFFFF007#32 = 0#32 ∧ ((∀ d, d < 12 → bit a d = true → s.domUp d = false → (∀ r ∈ domNeeds d, s.domUp r = true ∨ bit a r = true) ∧ ¬(s.pwr.store = true ∧ d = 9))))
    ∧ (∃ (s : State) (pair : Fin 2) (a : Word) (d : Nat) (r : Nat), s.Calls pair 0x10 0 ∧ 8 ≤ s.reqLen pair ∧ s.reqWord pair 0 = a ∧ s.reqWord pair 1 = 0#32 ∧ a &&& 0xFFFFF007#32 = 0#32 ∧ d < 12 ∧ bit a d = true ∧ s.domUp d = false ∧ r ∈ domNeeds d ∧ s.domUp r = false ∧ bit a r = false)
    ∧ (∃ (s : State) (d : Fin 12), s.pwr.switching.contains d.val = true ∧ (∀ r ∈ domNeeds d, s.domOn r = true))
    ∧ (∃ (s : State), s.gmsRuns = true)
    ∧ (∃ (s : State), s.gms.restarting = true) :=
  ⟨⟨(call (poke (up) [(Adr.SYS_PDSTAT, 0x7), (Adr.SYS_PDREQ, 7)]) 1 0x10 [0x68, 0]), 1, 0x68#32, by decide, by decide, by decide, by decide, by decide, by decide⟩,
   ⟨(call (poke (up) [(Adr.SYS_PDSTAT, 0x7), (Adr.SYS_PDREQ, 7)]) 1 0x10 [0x200, 0]), 1, 0x200#32, 9, 5, by decide, by decide, by decide, by decide, by decide, by decide, by decide, by decide, by decide, by decide, by decide⟩,
   ⟨({ (poke (up) [(Adr.SYS_PDSTAT, 0xDFF)]) with pwr := { (poke (up) [(Adr.SYS_PDSTAT, 0xDFF)]).pwr with switching := [9] } }), 9, by decide, by decide⟩,
   ⟨(poke (call up 1 0x10 [0, 0]) [(Adr.MBX_GSTAT, 0x600)]), by decide⟩,
   ⟨({ up with gms := { up.gms with restarting := true, repeatCommit := true } }), by decide⟩⟩

theorem witness_SystemRequests :
    (∃ (s : State) (pair : Fin 2), s.Calls pair 0x11 0 ∧ s.fld Adr.CTR_STAT 31 24 = 0 ∧ (∀ g : Fin 6, s.pageEn (Pg.GGRP g) = false) ∧ s.flag Adr.MBX_GSTAT 9 = false ∧ s.wakeActive &&& s.reg Adr.SYS_WAKEEN = 0#32)
    ∧ (∃ (s : State) (pair : Fin 2), s.Calls pair 0x11 0 ∧ (s.fld Adr.CTR_STAT 31 24 ≠ 0 ∨ (∃ g : Fin 6, s.pageEn (Pg.GGRP g) = true) ∨ s.flag Adr.MBX_GSTAT 9 = true ∨
      s.wakeActive &&& s.reg Adr.SYS_WAKEEN ≠ 0#32))
    ∧ (∃ (s : State) (pair : Fin 2), s.Calls pair 0x12 0 ∧ s.fld Adr.CTR_STAT 31 24 = 0 ∧ (∀ g : Fin 6, s.pageEn (Pg.GGRP g) = false))
    ∧ (∃ (s : State) (pair : Fin 2), s.Calls pair 0x30 2 ∧ 4 ≤ s.reqLen pair ∧ s.reqWord pair 0 = 1#32 ∧ s.commissionRefusal = 0)
    ∧ (∃ (s : State) (pair : Fin 2), s.Calls pair 0x30 2 ∧ 4 ≤ s.reqLen pair ∧ s.reqWord pair 0 = 0#32 ∧ s.shroud.a.state = 2)
    ∧ (∃ (s : State) (pair : Fin 2), s.Calls pair 0x14 0 ∧ 116 ≤ s.reqLen pair) :=
  ⟨⟨(call up 0 0x11 []), 0, by decide, by decide, by decide, by decide, by decide⟩,
   ⟨(poke (call up 0 0x11 []) [(Adr.CTR_STAT, 0x1000000)]), 0, by decide, by decide⟩,
   ⟨(call up 1 0x12 []), 1, by decide, by decide, by decide⟩,
   ⟨(poke (call { up with shroud := { Shroud.reset with a := { Channel.reset with state := 1 }, b := { Channel.reset with state := 1 } }, pwr := { up.pwr with store := true } } 1 0x30 [1]) [(Adr.MBX_GSTAT, 0x22)]), 1, by decide, by decide, by decide, by decide⟩,
   ⟨(poke (call { up with shroud := { Shroud.reset with a := { Channel.reset with state := 2 }, b := { Channel.reset with state := 2 } }, pwr := { up.pwr with store := true } } 1 0x30 [0]) [(Adr.MBX_GSTAT, 0x22)]), 1, by decide, by decide, by decide, by decide⟩,
   ⟨(call up 0 0x14 [0xFFFFFFFF, 0, 20, 40, 60, 80, 100, 120, 140, 160, 180, 200, 220, 240, 260, 280, 300, 70000, 70001, 70002, 70003, 70004, 70005, 70006, 70007, 70008, 70009, 70010, 70011]), 0, by decide, by decide⟩⟩

theorem witness_RecordRequests :
    (∃ (s : State) (pair : Fin 2) (b : Bool), (s.Calls pair 0x31 2) ∧ (4 ≤ s.reqLen pair) ∧ (s.reqWord pair 0 = (if b then 1#32 else 0#32)))
    ∧ (∃ (s : State) (pair : Fin 2), s.Calls pair 0x41 0 ∧ s.flag Adr.MBX_GSTAT 9 = false)
    ∧ (∃ (s : State) (pair : Fin 2), s.Calls pair 0x41 0 ∧ s.flag Adr.MBX_GSTAT 9 = true)
    ∧ (∃ (s : State) (pair : Fin 2), s.Calls pair 0x51 2 ∧ 44 ≤ s.reqLen pair ∧ s.gms.bb.log.length < 8192)
    ∧ (∃ (s : State), ∃ (pair : Fin 2), ∃ b, s.Calls pair 0x70 0 ∧ s.kept.trial = some b ∧ s.flag Adr.MBX_BOOT 1 = true ∧ s.gms.confirms = [])
    ∧ (∃ (s : State), ∃ (pair : Fin 2), ∃ b, s.Calls pair 0x70 0 ∧ s.kept.trial = some b ∧ s.flag Adr.MBX_BOOT 1 = true ∧ s.gms.confirms = [1 - pair.val] ∧ s.gms.bb.log.length < 8192)
    ∧ (∃ (s : State) (pair : Fin 2), s.Calls pair 0x80 0 ∧ s.level ≠ 0 ∧ s.gms.bb.log.length < 8192) :=
  ⟨⟨(poke (call up 1 0x31 [1]) [(Adr.MBX_GSTAT, 0x22)]), 1, true, by decide, by decide, by decide⟩,
   ⟨(call up 1 0x41 []), 1, by decide, by decide⟩,
   ⟨(poke (call up 1 0x41 []) [(Adr.MBX_GSTAT, 0x200)]), 1, by decide, by decide⟩,
   ⟨(poke (call up 1 0x51 [7, 1000, 5, 6, 1, 4, 900, 1, 2, 3, 4]) [(Adr.MBX_GSTAT, 0x22)]), 1, by decide, by decide, by decide⟩,
   ⟨(poke (call ({ up with kept := { Kept.reset with trial := some true, trialIndex := 12, rollback := 3, trialRan := true } }) 1 0x70 []) [(Adr.MBX_BOOT, 2)]), 1, true, by decide, by decide, by decide, by decide⟩,
   ⟨((fun (s : State) => { s with gms := { s.gms with confirms := [0] } }) (poke (call ({ up with kept := { Kept.reset with trial := some true, trialIndex := 12, rollback := 3, trialRan := true } }) 1 0x70 []) [(Adr.MBX_BOOT, 2)])), 1, true, by decide, by decide, by decide, by decide, by decide⟩,
   ⟨(poke (call up 1 0x80 []) [(Adr.MBX_GSTAT, 0x22)]), 1, by decide, by decide, by decide⟩⟩

theorem witness_DataStoreIsRead :
    ∃ (s : State) (pair : Fin 2) (off : Nat) (len : Nat) (old : List Byte), s.Calls pair 0x20 0 ∧ s.reqLen pair = 8 + len ∧ (s.reqWord pair 0).toNat = off ∧ (s.reqWord pair 1).toNat = len ∧ off + len ≤ dataRoom ∧ s.bankBody Config.dataMagic (dataBank pair) (dataBank pair + 0x80000) 0x80000 = old :=
   ⟨((call up 1 0x20 [5, 4, 0xAABBCCDD])), 1, 5, 4, ((((call up 1 0x20 [5, 4, 0xAABBCCDD])).bankBody Config.dataMagic (dataBank (1 : Fin 2)) (dataBank (1 : Fin 2) + 0x80000) 0x80000)), by decide, by decide, by decide, by decide, by decide, rfl⟩

theorem witness_TwinFrames :
    (∃ (s : State) (port : Port), s.pageOn Pg.TWIN = true ∧ s.Owns port Pg.TWIN ∧ s.refusalOf port Adr.TWIN_CTRL .plain (s.withBits Adr.TWIN_CTRL 1#32) = none ∧ s.pageEn Pg.TWIN = true ∧ s.twinState = 0 ∧ s.flag Adr.SYS_CLKSTAT 4 = true)
    ∧ (∃ (s : State), s.pageOn Pg.TWIN = true ∧ s.twinState = 1)
    ∧ (∃ (s : State), s.pageOn Pg.TWIN = true ∧ 2 ≤ s.twinState)
    ∧ (∃ (s : State) (f : List Byte) (q : Byte) (dem : Nat), s.pageOn Pg.TWIN = true ∧ 2 ≤ s.twinState ∧ f.length = 16 ∧ f = f.take 12 ++ wordBytes (crc32 (f.take 12)) ∧ s.twin.rxSeq = some q ∧ nthD 0#8 f 0 = q + 1#8 ∧ (nthD 0#8 f 1).getLsbD 7 = s.isStore ∧ dem = (nthD 0#8 f 5).toNat % 64)
    ∧ (∃ (s : State) (f : List Byte) (q : Byte), s.pageOn Pg.TWIN = true ∧ 2 ≤ s.twinState ∧ f.length = 16 ∧ f = f.take 12 ++ wordBytes (crc32 (f.take 12)) ∧ s.twin.rxSeq = some q ∧ nthD 0#8 f 0 = q + 1#8 ∧ (nthD 0#8 f 1).getLsbD 7 ≠ s.isStore)
    ∧ (∃ (s : State) (f : List Byte), s.pageOn Pg.TWIN = true ∧ 2 ≤ s.twinState ∧ (f.length ≠ 16 ∨ f ≠ f.take 12 ++ wordBytes (crc32 (f.take 12))))
    ∧ (∃ (s : State) (f : List Byte) (q : Byte), s.pageOn Pg.TWIN = true ∧ 2 ≤ s.twinState ∧ f.length = 16 ∧ f = f.take 12 ++ wordBytes (crc32 (f.take 12)) ∧ s.twin.rxSeq = some q ∧ nthD 0#8 f 0 ≠ q ∧ nthD 0#8 f 0 ≠ q + 1#8)
    ∧ (∃ (s : State), s.pageOn Pg.TWIN = true ∧ 2 ≤ s.twinState ∧ s.twinState ≠ 4)
    ∧ (∃ (s : State) (port : Port) (g : BitVec 6), s.pageOn Pg.TWIN = true ∧ s.Owns port Pg.TWIN ∧ s.refusalOf port Adr.TWIN_XREQ .plain (g.zeroExtend 32) = none)
    ∧ (∃ (s : State), s.pageOn Pg.TWIN = true)
    ∧ (∃ (s : State), s.pageOn Pg.TWIN = true ∧ 2 ≤ s.twinState) :=
  ⟨⟨(poke { up with twin := { Twin.reset with good := 0 } } ([(Adr.TWIN_STAT, 0), (Adr.TWIN_CFG, 0x30), (Adr.POWNER Pg.TWIN, 1), (Adr.PCTRL Pg.TWIN, 1)] ++ [(Adr.TWIN_CFG, 0x21)])), 0, by decide, by decide, by decide, by decide, by decide, by decide⟩,
   ⟨(poke { up with twin := { Twin.reset with good := 0 } } ([(Adr.TWIN_STAT, 1), (Adr.TWIN_CFG, 0x30), (Adr.POWNER Pg.TWIN, 1), (Adr.PCTRL Pg.TWIN, 1)] ++ [])), by decide, by decide⟩,
   ⟨(poke { up with twin := { Twin.reset with seq := 255#8 } } ([(Adr.TWIN_STAT, 2), (Adr.TWIN_CFG, 0x30), (Adr.POWNER Pg.TWIN, 1), (Adr.PCTRL Pg.TWIN, 1)] ++ [])), by decide, by decide⟩,
   ⟨(poke { up with twin := { Twin.reset with rxSeq := some 5#8, dem := 1#32 } } ([(Adr.TWIN_STAT, 2), (Adr.TWIN_CFG, 0x30), (Adr.POWNER Pg.TWIN, 1), (Adr.PCTRL Pg.TWIN, 1)] ++ [(Adr.SHRD_TWX, 0x80000000), (Adr.TWIN_HBCNT, 0xFFFF)])), (([6#8, 0#8, 0#8, 0#8, 0#8, 3#8, 0#8, 0#8, 1#8, 2#8, 3#8, 4#8] ++ wordBytes (crc32 [6#8, 0#8, 0#8, 0#8, 0#8, 3#8, 0#8, 0#8, 1#8, 2#8, 3#8, 4#8]))), 5#8, 3, by decide, by decide, by decide, by decide, by decide, by decide, by decide, by decide⟩,
   ⟨(poke { up with twin := { Twin.reset with rxSeq := some 5#8 } } ([(Adr.TWIN_STAT, 2), (Adr.TWIN_CFG, 0x30), (Adr.POWNER Pg.TWIN, 1), (Adr.PCTRL Pg.TWIN, 1)] ++ [])), (([6#8, 0x80#8, 0#8, 0#8, 0#8, 0#8, 0#8, 0#8, 1#8, 2#8, 3#8, 4#8] ++ wordBytes (crc32 [6#8, 0x80#8, 0#8, 0#8, 0#8, 0#8, 0#8, 0#8, 1#8, 2#8, 3#8, 4#8]))), 5#8, by decide, by decide, by decide, by decide, by decide, by decide, by decide⟩,
   ⟨(poke { up with twin := { Twin.reset with rxSeq := some 5#8 } } ([(Adr.TWIN_STAT, 2), (Adr.TWIN_CFG, 0x30), (Adr.POWNER Pg.TWIN, 1), (Adr.PCTRL Pg.TWIN, 1)] ++ [(Adr.TWIN_HBCNT, 0xFFFF0000)])), (([6#8, 0#8, 0#8, 0#8, 0#8, 0#8, 0#8, 0#8, 1#8, 2#8, 3#8, 4#8] ++ wordBytes (crc32 [6#8, 0#8, 0#8, 0#8, 0#8, 0#8, 0#8, 0#8, 1#8, 2#8, 3#8, 4#8])).take 15), by decide, by decide, by decide⟩,
   ⟨(poke { up with twin := { Twin.reset with rxSeq := some 5#8 } } ([(Adr.TWIN_STAT, 2), (Adr.TWIN_CFG, 0x30), (Adr.POWNER Pg.TWIN, 1), (Adr.PCTRL Pg.TWIN, 1)] ++ [])), (([7#8, 0#8, 0#8, 0#8, 0#8, 0#8, 0#8, 0#8, 1#8, 2#8, 3#8, 4#8] ++ wordBytes (crc32 [7#8, 0#8, 0#8, 0#8, 0#8, 0#8, 0#8, 0#8, 1#8, 2#8, 3#8, 4#8]))), 5#8, by decide, by decide, by decide, by decide, by decide, by decide, by decide⟩,
   ⟨(poke { up with twin := { Twin.reset with rxSeq := some 5#8, dem := 3#32 } } ([(Adr.TWIN_STAT, 2), (Adr.TWIN_CFG, 0x30), (Adr.POWNER Pg.TWIN, 1), (Adr.PCTRL Pg.TWIN, 1)] ++ [])), by decide, by decide, by decide⟩,
   ⟨(poke { up with twin := { Twin.reset with xreq := 1#32 } } ([(Adr.TWIN_STAT, 2), (Adr.TWIN_CFG, 0x30), (Adr.POWNER Pg.TWIN, 1), (Adr.PCTRL Pg.TWIN, 1)] ++ [(Adr.SHRD_TWX, 0x10000)])), 0, 6#6, by decide, by decide, by decide⟩,
   ⟨(poke { up with twin := { Twin.reset with xreq := 7#32 } } ([(Adr.TWIN_STAT, 2), (Adr.TWIN_CFG, 0x30), (Adr.POWNER Pg.TWIN, 1), (Adr.PCTRL Pg.TWIN, 1)] ++ [])), by decide⟩,
   ⟨(poke { up with twin := { Twin.reset with good := 0 } } ([(Adr.TWIN_STAT, 2), (Adr.TWIN_CFG, 0x30), (Adr.POWNER Pg.TWIN, 1), (Adr.PCTRL Pg.TWIN, 1)] ++ [])), by decide, by decide⟩⟩

theorem witness_TwinRings :
    (∃ (s : State) (port : Port) (r : BitVec 4), s.pageOn Pg.TWIN = true ∧ s.Owns port Pg.TWIN ∧ s.refusalOf port Adr.TWIN_RHAND .plain (r.zeroExtend 32) = none ∧ 2 ≤ s.twinState ∧ ((∀ k : Fin 4, r.getLsbD k = true → (s.ring k).tags = [] ∧ s.fld (Adr.EFR_TQHEAD k) 7 0 = s.fld (Adr.EFR_TQTAIL k) 7 0)))
    ∧ (∃ (s : State) (k : Fin 4), s.pageOn Pg.TWIN = true ∧ 2 ≤ s.twinState ∧ s.flag Adr.TWIN_STAT (8 + k) = false)
    ∧ (∃ (s : State) (k : Fin 4), s.pageOn Pg.TWIN = true ∧ s.flag Adr.TWIN_CFG 1 = true ∧ s.twin.lost = true ∧ s.flag Adr.TWIN_STAT (8 + k) = false ∧ s.ringState k = 0 ∧ s.flag Adr.SYS_CLKSTAT 4 = true)
    ∧ (∃ (s : State) (k : Fin 4), s.pageOn Pg.TWIN = true ∧ 2 ≤ s.twinState ∧ s.flag Adr.TWIN_STAT (8 + k) = false)
    ∧ (∃ (s : State) (k : Fin 4), s.pageOn Pg.TWIN = true ∧ 2 ≤ s.twinState ∧ s.flag Adr.TWIN_STAT (8 + k) = true ∧ s.ringFold k = true) :=
  ⟨⟨(poke { up with twin := { Twin.reset with good := 0 } } ([(Adr.TWIN_STAT, 0x702), (Adr.TWIN_CFG, 0x30), (Adr.POWNER Pg.TWIN, 1), (Adr.PCTRL Pg.TWIN, 1)] ++ [(Adr.EFR_STAT 0, 6), (Adr.EFR_STAT 3, 6)])), 0, 0xD#4, by decide, by decide, by decide, by decide, by decide⟩,
   ⟨(poke { up with twin := { Twin.reset with good := 0 } } ([(Adr.TWIN_STAT, 2), (Adr.TWIN_CFG, 0x30), (Adr.POWNER Pg.TWIN, 1), (Adr.PCTRL Pg.TWIN, 1)] ++ [(Adr.PCTRL (Pg.EFR 3), 1), (Adr.EFR_CTRL 3, 1)])), 3, by decide, by decide, by decide⟩,
   ⟨(poke { up with twin := { Twin.reset with lost := true } } ([(Adr.TWIN_STAT, 3), (Adr.TWIN_CFG, 0x30), (Adr.POWNER Pg.TWIN, 1), (Adr.PCTRL Pg.TWIN, 1)] ++ [(Adr.TWIN_CFG, 0x32), (Adr.PCTRL (Pg.EFR 3), 1), (Adr.EFR_CTRL 3, 1)])), 3, by decide, by decide, by decide, by decide, by decide, by decide⟩,
   ⟨(poke { up with twin := { Twin.reset with good := 0 } } ([(Adr.TWIN_STAT, 2), (Adr.TWIN_CFG, 0x30), (Adr.POWNER Pg.TWIN, 1), (Adr.PCTRL Pg.TWIN, 1)] ++ [(Adr.TWIN_TOFS, 0xFFFFFFFF)])), 3, by decide, by decide, by decide⟩,
   ⟨(poke { up with twin := { Twin.reset with good := 0 }, samples := [(0xCC, ⟨0xFFFFFFFF#32, true, 9⟩), (0xCD, ⟨5#32, true, 9⟩), (0xCE, ⟨7#32, true, 9⟩), (0xCF, ⟨8#32, true, 9⟩)] } ([(Adr.TWIN_STAT, 0x802), (Adr.TWIN_CFG, 0x30), (Adr.POWNER Pg.TWIN, 1), (Adr.PCTRL Pg.TWIN, 1)] ++ [(Adr.EFR_STAT 3, 0x16)])), 3, by decide, by decide, by decide, by decide⟩⟩

theorem witness_NetworkFrames :
    (∃ (s : State) (n : Fin 4) (xtd : Bool) (fd : Bool) (id : BitVec 29) (k : Nat) (f : Nat) (a : Nat) (b : Nat) (r : Word × Nat), s.canOn n = true ∧ ((fd = true → s.flag (Adr.CAN_CFG n) 31 = true)) ∧ (List.range 32).find? (s.canAccepts n xtd id.toNat) = some k ∧ f = (s.flag (Adr.CAN_FLT n k) 29).toNat ∧ r = ringOf (s.canRings n) f ∧ a = r.1.toNat + 16 * (s.reg (Adr.CAN_RXHEAD n f)).toNat ∧ b = (s.mword (a + 4)).toNat ∧ bit (s.mword a) 31 = true)
    ∧ (∃ (s : State) (n : Fin 4) (xtd : Bool) (fd : Bool) (id : BitVec 29) (data : List Byte) (k : Nat) (f : Nat) (a : Nat) (b : Nat) (r : Word × Nat), s.canOn n = true ∧ ((fd = true → s.flag (Adr.CAN_CFG n) 31 = true)) ∧ (List.range 32).find? (s.canAccepts n xtd id.toNat) = some k ∧ f = (s.flag (Adr.CAN_FLT n k) 29).toNat ∧ r = ringOf (s.canRings n) f ∧ a = r.1.toNat + 16 * (s.reg (Adr.CAN_RXHEAD n f)).toNat ∧ b = (s.mword (a + 4)).toNat ∧ bit (s.mword a) 31 = false ∧ data.length < 65532 ∧ inSram a 16 = true ∧ inSram b (4 + data.length) = true ∧ (b + 4 + data.length ≤ a ∨ a + 16 ≤ b))
    ∧ (∃ (s : State) (n : Fin 4) (xtd : Bool) (fd : Bool) (id : BitVec 29), s.canOn n = true ∧ ((fd = true → s.flag (Adr.CAN_CFG n) 31 = true)) ∧ ((∀ k, k < 32 → s.canAccepts n xtd id.toNat k = false)))
    ∧ (∃ (s : State) (n : Fin 4) (port : Port) (tail : BitVec 8), s.Owns port (Pg.CAN n) ∧ s.refusalOf port (Adr.CAN_TXTAIL n) .plain (tail.zeroExtend 32) = none)
    ∧ (∃ (s : State) (n : Fin 4) (r : Word × Nat) (a : Nat), s.canOn n = true ∧ s.flag (Adr.CAN_CFG n) 29 = false ∧ s.reg (Adr.CAN_TXHEAD n) ≠ s.reg (Adr.CAN_TXTAIL n) ∧ r = ringOf (s.canRings n) 2 ∧ a = r.1.toNat + 16 * (s.reg (Adr.CAN_TXHEAD n)).toNat ∧ inSram a 16 = true)
    ∧ (∃ (s : State) (n : Fin 4), (s.flag (Adr.CAN_CFG n) 29 = true ∨ s.reg (Adr.CAN_TXHEAD n) = s.reg (Adr.CAN_TXTAIL n)))
    ∧ (∃ (s : State) (n : Fin 4), s.canOn n = true)
    ∧ (∃ (s : State) (n : Fin 2) (frame : List Byte) (k : Nat) (f : Nat) (a : Nat) (b : Nat) (r : Word × Nat) (g : List Byte), s.ethOn n = true ∧ g = frame.take 1522 ∧ (List.range 16).find? (s.ethAccepts n frame) = some k ∧ f = (s.flag (Adr.ETH_FCTL n k) 0).toNat ∧ r = ringOf (s.ethRings n) f ∧ a = r.1.toNat + 16 * (s.reg (Adr.ETH_RXHEAD n f)).toNat ∧ b = (s.mword (a + 4)).toNat ∧ bit (s.mword a) 31 = true)
    ∧ (∃ (s : State) (n : Fin 2) (frame : List Byte) (k : Nat) (f : Nat) (a : Nat) (b : Nat) (r : Word × Nat) (g : List Byte), s.ethOn n = true ∧ g = frame.take 1522 ∧ (List.range 16).find? (s.ethAccepts n frame) = some k ∧ f = (s.flag (Adr.ETH_FCTL n k) 0).toNat ∧ r = ringOf (s.ethRings n) f ∧ a = r.1.toNat + 16 * (s.reg (Adr.ETH_RXHEAD n f)).toNat ∧ b = (s.mword (a + 4)).toNat ∧ bit (s.mword a) 31 = false ∧ inSram a 16 = true ∧ inSram b g.length = true ∧ (b + g.length ≤ a ∨ a + 16 ≤ b))
    ∧ (∃ (s : State) (n : Fin 2) (frame : List Byte), s.ethOn n = true ∧ ((∀ k, k < 16 → s.ethAccepts n frame k = false)))
    ∧ (∃ (s : State) (n : Fin 2) (port : Port) (ring : Fin 2) (tail : BitVec 16), s.Owns port (Pg.ETH n) ∧ s.refusalOf port (Adr.ETH_TXTAIL n ring) .plain (tail.zeroExtend 32) = none)
    ∧ (∃ (s : State) (n : Fin 2) (q : Fin 2) (r : Word × Nat) (a : Nat), s.ethOn n = true ∧ s.reg (Adr.ETH_TXHEAD n q) ≠ s.reg (Adr.ETH_TXTAIL n q) ∧ ((q.val = 1 → s.reg (Adr.ETH_TXHEAD n 0) = s.reg (Adr.ETH_TXTAIL n 0))) ∧ r = ringOf (s.ethRings n) (2 + q) ∧ a = r.1.toNat + 16 * (s.reg (Adr.ETH_TXHEAD n q)).toNat ∧ inSram a 16 = true)
    ∧ (∃ (s : State) (port : Port) (v : Word), s.Owns port (Pg.ETH 0) ∧ s.refusalOf port (Adr.ETH_NTOFSH 0) .plain v = none)
    ∧ (∃ (s : State) (port : Port), s.portLive port = true ∧ s.pageOn (Pg.ETH 0) = true) :=
  ⟨⟨(lay (poke up ([(Adr.POWNER (Pg.CAN 3), 1), (Adr.PCTRL (Pg.CAN 3), 1), (Adr.CAN_RINGLEN 3, 0x030302)] ++ [(Adr.CAN_FLT 3 31, 0xFABCDEF0), (Adr.CAN_FMASK 3 31, 0x1FFFFFFF), (Adr.CAN_RXBASE 3 1, 0x20001000), (Adr.CAN_RXHEAD 3 1, 2)])) [(0x20001020, 0x80000000)]), 3, true, false, 0x1ABCDEF0#29, 31, 1, ((0x20001020 : Nat)), 0, (ringOf ((lay (poke up ([(Adr.POWNER (Pg.CAN 3), 1), (Adr.PCTRL (Pg.CAN 3), 1), (Adr.CAN_RINGLEN 3, 0x030302)] ++ [(Adr.CAN_FLT 3 31, 0xFABCDEF0), (Adr.CAN_FMASK 3 31, 0x1FFFFFFF), (Adr.CAN_RXBASE 3 1, 0x20001000), (Adr.CAN_RXHEAD 3 1, 2)])) [(0x20001020, 0x80000000)]).canRings 3) 1), by decide, by decide, by decide, by decide, by decide, by decide, by decide, by decide⟩,
   ⟨(lay (poke up ([(Adr.POWNER (Pg.CAN 3), 1), (Adr.PCTRL (Pg.CAN 3), 1), (Adr.CAN_RINGLEN 3, 0x030302)] ++ [(Adr.CAN_FLT 3 31, 0xFABCDEF0), (Adr.CAN_FMASK 3 31, 0x1FFFFFFF), (Adr.CAN_RXBASE 3 1, 0x20001000), (Adr.CAN_RXHEAD 3 1, 2)])) [(0x20001024, 0x20002000)]), 3, true, false, 0x1ABCDEF0#29, ([1#8, 2#8, 3#8]), 31, 1, ((0x20001020 : Nat)), 0x20002000, (ringOf ((lay (poke up ([(Adr.POWNER (Pg.CAN 3), 1), (Adr.PCTRL (Pg.CAN 3), 1), (Adr.CAN_RINGLEN 3, 0x030302)] ++ [(Adr.CAN_FLT 3 31, 0xFABCDEF0), (Adr.CAN_FMASK 3 31, 0x1FFFFFFF), (Adr.CAN_RXBASE 3 1, 0x20001000), (Adr.CAN_RXHEAD 3 1, 2)])) [(0x20001024, 0x20002000)]).canRings 3) 1), by decide, by decide, by decide, by decide, by decide, by decide, by decide, by decide, by decide, by decide, by decide, by decide⟩,
   ⟨(lay (poke up ([(Adr.POWNER (Pg.CAN 3), 1), (Adr.PCTRL (Pg.CAN 3), 1), (Adr.CAN_RINGLEN 3, 0x030302)] ++ [(Adr.CAN_FLT 3 31, 0xFABCDEF0), (Adr.CAN_FMASK 3 31, 0x1FFFFFFF), (Adr.CAN_RXBASE 3 1, 0x20001000), (Adr.CAN_RXHEAD 3 1, 2)])) []), 3, false, false, 0x1ABCDEF0#29, by decide, by decide, by decide⟩,
   ⟨(lay (poke up ([(Adr.POWNER (Pg.CAN 3), 1), (Adr.PCTRL (Pg.CAN 3), 1), (Adr.CAN_RINGLEN 3, 0x030302)] ++ [])) []), 3, 0, 255#8, by decide, by decide⟩,
   ⟨(lay (poke up ([(Adr.POWNER (Pg.CAN 3), 1), (Adr.PCTRL (Pg.CAN 3), 1), (Adr.CAN_RINGLEN 3, 0x030302)] ++ [(Adr.CAN_TXTAIL 3, 0), (Adr.CAN_TXHEAD 3, 3), (Adr.CAN_TXBASE 3, 0x20000100)])) [(0x20000130, 0x70000008), (0x20000134, 0x20000200)]), 3, (ringOf ((lay (poke up ([(Adr.POWNER (Pg.CAN 3), 1), (Adr.PCTRL (Pg.CAN 3), 1), (Adr.CAN_RINGLEN 3, 0x030302)] ++ [(Adr.CAN_TXTAIL 3, 0), (Adr.CAN_TXHEAD 3, 3), (Adr.CAN_TXBASE 3, 0x20000100)])) [(0x20000130, 0x70000008), (0x20000134, 0x20000200)]).canRings 3) 2), ((0x20000130 : Nat)), by decide, by decide, by decide, by decide, by decide, by decide⟩,
   ⟨(lay (poke up ([(Adr.POWNER (Pg.CAN 3), 1), (Adr.PCTRL (Pg.CAN 3), 1), (Adr.CAN_RINGLEN 3, 0x030302)] ++ [(Adr.CAN_CFG 3, 0x20000000), (Adr.CAN_TXTAIL 3, 1)])) []), 3, by decide⟩,
   ⟨(lay (poke up ([(Adr.POWNER (Pg.CAN 3), 1), (Adr.PCTRL (Pg.CAN 3), 1), (Adr.CAN_RINGLEN 3, 0x030302)] ++ [])) []), 3, by decide⟩,
   ⟨(lay (poke up ([(Adr.POWNER (Pg.ETH 1), 1), (Adr.PCTRL (Pg.ETH 1), 1), (Adr.ETH_RXLEN 1, 0x00030002), (Adr.ETH_TXLEN 1, 0x00030002)] ++ [(Adr.ETH_FCTL 1 15, 0xB), (Adr.ETH_FTYPE 1 15, 0x08000000), (Adr.ETH_RXBASE 1 1, 0x20001000), (Adr.ETH_RXHEAD 1 1, 3)])) [(0x20001030, 0x80000000)]), 1, ((List.replicate 12 7#8 ++ [8#8, 0#8, 1#8, 2#8])), 15, 1, ((0x20001030 : Nat)), 0, (ringOf ((lay (poke up ([(Adr.POWNER (Pg.ETH 1), 1), (Adr.PCTRL (Pg.ETH 1), 1), (Adr.ETH_RXLEN 1, 0x00030002), (Adr.ETH_TXLEN 1, 0x00030002)] ++ [(Adr.ETH_FCTL 1 15, 0xB), (Adr.ETH_FTYPE 1 15, 0x08000000), (Adr.ETH_RXBASE 1 1, 0x20001000), (Adr.ETH_RXHEAD 1 1, 3)])) [(0x20001030, 0x80000000)]).ethRings 1) 1), ((List.replicate 12 7#8 ++ [8#8, 0#8, 1#8, 2#8]).take 1522), by decide, by decide, by decide, by decide, by decide, by decide, by decide, by decide⟩,
   ⟨(lay (poke up ([(Adr.POWNER (Pg.ETH 1), 1), (Adr.PCTRL (Pg.ETH 1), 1), (Adr.ETH_RXLEN 1, 0x00030002), (Adr.ETH_TXLEN 1, 0x00030002)] ++ [(Adr.ETH_FCTL 1 15, 0xB), (Adr.ETH_FTYPE 1 15, 0x08000000), (Adr.ETH_RXBASE 1 1, 0x20001000), (Adr.ETH_RXHEAD 1 1, 3)])) [(0x20001034, 0x20002000)]), 1, ((List.replicate 12 7#8 ++ [8#8, 0#8, 1#8, 2#8])), 15, 1, ((0x20001030 : Nat)), 0x20002000, (ringOf ((lay (poke up ([(Adr.POWNER (Pg.ETH 1), 1), (Adr.PCTRL (Pg.ETH 1), 1), (Adr.ETH_RXLEN 1, 0x00030002), (Adr.ETH_TXLEN 1, 0x00030002)] ++ [(Adr.ETH_FCTL 1 15, 0xB), (Adr.ETH_FTYPE 1 15, 0x08000000), (Adr.ETH_RXBASE 1 1, 0x20001000), (Adr.ETH_RXHEAD 1 1, 3)])) [(0x20001034, 0x20002000)]).ethRings 1) 1), ((List.replicate 12 7#8 ++ [8#8, 0#8, 1#8, 2#8]).take 1522), by decide, by decide, by decide, by decide, by decide, by decide, by decide, by decide, by decide, by decide, by decide⟩,
   ⟨(lay (poke up ([(Adr.POWNER (Pg.ETH 1), 1), (Adr.PCTRL (Pg.ETH 1), 1), (Adr.ETH_RXLEN 1, 0x00030002), (Adr.ETH_TXLEN 1, 0x00030002)] ++ [])) []), 1, ((List.replicate 12 7#8 ++ [8#8, 0#8, 1#8, 2#8])), by decide, by decide⟩,
   ⟨(lay (poke up ([(Adr.POWNER (Pg.ETH 1), 1), (Adr.PCTRL (Pg.ETH 1), 1), (Adr.ETH_RXLEN 1, 0x00030002), (Adr.ETH_TXLEN 1, 0x00030002)] ++ [])) []), 1, 0, 1, 0xFFFF#16, by decide, by decide⟩,
   ⟨(lay (poke up ([(Adr.POWNER (Pg.ETH 1), 1), (Adr.PCTRL (Pg.ETH 1), 1), (Adr.ETH_RXLEN 1, 0x00030002), (Adr.ETH_TXLEN 1, 0x00030002)] ++ [(Adr.ETH_TXTAIL 1 1, 0), (Adr.ETH_TXHEAD 1 1, 3), (Adr.ETH_TXBASE 1 1, 0x20000100)])) [(0x20000130, 0x70000008)]), 1, 1, (ringOf ((lay (poke up ([(Adr.POWNER (Pg.ETH 1), 1), (Adr.PCTRL (Pg.ETH 1), 1), (Adr.ETH_RXLEN 1, 0x00030002), (Adr.ETH_TXLEN 1, 0x00030002)] ++ [(Adr.ETH_TXTAIL 1 1, 0), (Adr.ETH_TXHEAD 1 1, 3), (Adr.ETH_TXBASE 1 1, 0x20000100)])) [(0x20000130, 0x70000008)]).ethRings 1) 3), ((0x20000130 : Nat)), by decide, by decide, by decide, by decide, by decide, by decide⟩,
   ⟨(poke (mine (Pg.ETH 0) 1) [(Adr.ETH_NTOFSL 0, 7)]), 0, 0xFFFFFFFF#32, by decide, by decide⟩,
   ⟨({ up with pwr := { up.pwr with dtime := 6000000000000 } }), 2, by decide, by decide⟩⟩

theorem witness_TransactionsQueue :
    (∃ (s : State), ∃ (port : Port), ∃ (x : Txn), ∃ k, x.wf = true ∧ s.portLive port = true ∧ targetOf x.addr.toNat = some k ∧ s.icxStuck port = false ∧ s.icxTags port < 16 ∧ ((s.icxTags port < 2 ∨ s.icxShared < 104)))
    ∧ (∃ (s : State), ∃ (port : Port), ∃ (x : Txn), ∃ k, x.wf = true ∧ s.portLive port = true ∧ targetOf x.addr.toNat = some k ∧ s.icxStuck port = false ∧ 2 ≤ s.icxTags port ∧ s.icxTags port < 16 ∧ 104 ≤ s.icxShared)
    ∧ (∃ (s : State) (port : Port) (x : Txn), x.wf = true ∧ s.portLive port = true ∧ targetOf x.addr.toNat = none)
    ∧ (∃ (s : State) (k : Fin 16) (p : Fin 12) (r : Bool) (x : Txn) (rest : List Txn), s.lockHeld k = false ∧ s.icxWinner k = some (p.val, r) ∧ s.icxQueue k p = x :: rest)
    ∧ (∃ (s : State), ∃ (k : Fin 16), ∃ p, ∃ r, s.icxWinner k = some (p, r))
    ∧ (∃ (s : State) (k : Fin 16) (p : Fin 12) (x : Txn) (rest : List Txn), s.lockHeld k = true ∧ s.lockPort k = p ∧ s.icxQueue k p = x :: rest) :=
  ⟨⟨up, 0, (({ write := false, addr := 0x20000000#32, size := 4, beats := 1, data := [] } : Txn)), 1, by decide, by decide, by decide, by decide, by decide, by decide⟩,
   ⟨(poke { up with icx := { Icx.reset with queue := [(12, List.replicate 16 ({ write := false, addr := 0x20000000#32, size := 4, beats := 1, data := [] } : Txn)), (13, List.replicate 16 ({ write := false, addr := 0x20000000#32, size := 4, beats := 1, data := [] } : Txn)), (14, List.replicate 16 ({ write := false, addr := 0x20000000#32, size := 4, beats := 1, data := [] } : Txn)), (15, List.replicate 16 ({ write := false, addr := 0x20000000#32, size := 4, beats := 1, data := [] } : Txn)), (16, List.replicate 16 ({ write := false, addr := 0x20000000#32, size := 4, beats := 1, data := [] } : Txn)), (17, List.replicate 16 ({ write := false, addr := 0x20000000#32, size := 4, beats := 1, data := [] } : Txn)), (18, List.replicate 16 ({ write := false, addr := 0x20000000#32, size := 4, beats := 1, data := [] } : Txn)), (19, List.replicate 8 ({ write := false, addr := 0x20000000#32, size := 4, beats := 1, data := [] } : Txn)), (20, List.replicate 2 ({ write := false, addr := 0x20000000#32, size := 4, beats := 1, data := [] } : Txn))] } } ([])), 8, (({ write := false, addr := 0x20000000#32, size := 4, beats := 1, data := [] } : Txn)), 1, by decide, by decide, by decide, by decide, by decide, by decide, by decide⟩,
   ⟨up, 2, (({ write := false, addr := 0x7FFFFFF0#32, size := 4, beats := 1, data := [] } : Txn)), by decide, by decide, by decide⟩,
   ⟨(poke { up with icx := { Icx.reset with queue := [(12, [({ write := false, addr := 0x20000000#32, size := 4, beats := 1, data := [] } : Txn), ({ write := true, addr := 0x20000004#32, size := 4, beats := 1, data := [1#8, 2#8, 3#8, 4#8] } : Txn)]), (15, [({ write := false, addr := 0x20000000#32, size := 4, beats := 1, data := [] } : Txn)])] } } ([])), 1, 0, true, (({ write := false, addr := 0x20000000#32, size := 4, beats := 1, data := [] } : Txn)), ([({ write := true, addr := 0x20000004#32, size := 4, beats := 1, data := [1#8, 2#8, 3#8, 4#8] } : Txn)]), by decide, by decide, by decide⟩,
   ⟨(poke { up with icx := { Icx.reset with queue := [(12, [({ write := false, addr := 0x20000000#32, size := 4, beats := 1, data := [] } : Txn), ({ write := true, addr := 0x20000004#32, size := 4, beats := 1, data := [1#8, 2#8, 3#8, 4#8] } : Txn)]), (15, [({ write := false, addr := 0x20000000#32, size := 4, beats := 1, data := [] } : Txn)])], wait := [(12, 7), (15, 255)] } } ([(Adr.ICX_WAITLIM 1, 5)])), 1, 3, false, by decide⟩,
   ⟨(poke { up with icx := { Icx.reset with queue := [(12, [({ write := false, addr := 0x20000000#32, size := 4, beats := 1, data := [] } : Txn), ({ write := true, addr := 0x20000004#32, size := 4, beats := 1, data := [1#8, 2#8, 3#8, 4#8] } : Txn)]), (15, [({ write := false, addr := 0x20000000#32, size := 4, beats := 1, data := [] } : Txn)])], lock := [(3, 2)] } } ([(Adr.ICX_LOCKSTAT, 2), (Adr.ICX_TGTSTAT 1, 0x300)])), 1, 3, (({ write := false, addr := 0x20000000#32, size := 4, beats := 1, data := [] } : Txn)), ([]), by decide, by decide, by decide⟩⟩

theorem witness_TargetsAnswer :
    (∃ (s : State) (k : Fin 16) (p : Nat) (x : Txn) (rest : List (Nat × Txn)), s.icxGranted k = (p, x) :: rest ∧ 1 ≤ k.val ∧ k.val ≤ 7 ∧ targetOf x.addr.toNat = some k.val ∧ x.write = false)
    ∧ (∃ (s : State) (k : Fin 16) (p : Nat) (x : Txn) (rest : List (Nat × Txn)), s.icxGranted k = (p, x) :: rest ∧ 1 ≤ k.val ∧ k.val ≤ 7 ∧ targetOf x.addr.toNat = some k.val ∧ x.write = true)
    ∧ (∃ (s : State) (port : Port) (addr : Word) (k : Nat), port.val ≤ 4 ∧ addr.toNat % 4 = 0 ∧ s.portLive port = true ∧ targetOf addr.toNat = some k ∧ 1 ≤ k ∧ k ≤ 7 ∧ s.lockedOut k port = false)
    ∧ (∃ (s : State) (port : Port) (addr : Word) (k : Nat), port.val ≤ 4 ∧ addr.toNat % 4 = 0 ∧ s.portLive port = true ∧ targetOf addr.toNat = some k ∧ 1 ≤ k ∧ k ≤ 7 ∧ s.lockedOut k port = true)
    ∧ (∃ (s : State) (port : Port) (addr : Word) (k : Nat), port.val ≤ 4 ∧ addr.toNat % 4 = 0 ∧ s.portLive port = true ∧ targetOf addr.toNat = some k ∧ 1 ≤ k ∧ k ≤ 7 ∧ s.lockHeld k = true ∧ s.lockPort k = port ∧ bit s.icx.broken k = false)
    ∧ (∃ (s : State) (port : Port) (addr : Word) (k : Nat), port.val ≤ 4 ∧ addr.toNat % 4 = 0 ∧ s.portLive port = true ∧ targetOf addr.toNat = some k ∧ 1 ≤ k ∧ k ≤ 7 ∧ s.lockHeld k = false ∧ bit s.icx.broken k = false)
    ∧ (∃ (s : State) (port : Port) (addr : Word) (k : Nat), port.val ≤ 4 ∧ addr.toNat % 4 = 0 ∧ s.portLive port = true ∧ targetOf addr.toNat = some k ∧ 1 ≤ k ∧ k ≤ 7 ∧ s.lockedOut k port = false ∧ bit s.icx.broken k = true)
    ∧ (∃ (s : State) (port : Port) (addr : Word) (k : Nat), port.val ≤ 4 ∧ addr.toNat % 4 = 0 ∧ s.portLive port = true ∧ targetOf addr.toNat = some k ∧ 1 ≤ k ∧ k ≤ 7 ∧ s.lockedOut k port = false)
    ∧ (∃ (s : State) (port : Port) (addr : Word) (k : Nat) (j : Fin 16), port.val ≤ 4 ∧ addr.toNat % 4 = 0 ∧ s.portLive port = true ∧ targetOf addr.toNat = some k ∧ 1 ≤ k ∧ k ≤ 7 ∧ s.lockHeld j = true)
    ∧ (∃ (s : State) (c : Fin 4), s.coreRuns c = true ∧ 0 < s.icxTags c)
    ∧ (∃ (s : State) (c : Fin 4), s.icxTags c = 0)
    ∧ (∃ (s : State), s.pageOn Pg.TBU = true) :=
  ⟨⟨(lay { up with icx := { Icx.reset with granted := [(1, [(0, ({ write := false, addr := 0x20000000#32, size := 4, beats := 1, data := [] } : Txn))])] } } [(0x20000000, 0x12345678)]), 1, 0, (({ write := false, addr := 0x20000000#32, size := 4, beats := 1, data := [] } : Txn)), ([]), by decide, by decide, by decide, by decide, by decide⟩,
   ⟨(lay { up with icx := { Icx.reset with granted := [(1, [(0, ({ write := true, addr := 0x20000004#32, size := 4, beats := 1, data := [1#8, 2#8, 3#8, 4#8] } : Txn))])] } } [(0x20000000, 0x12345678)]), 1, 0, (({ write := true, addr := 0x20000004#32, size := 4, beats := 1, data := [1#8, 2#8, 3#8, 4#8] } : Txn)), ([]), by decide, by decide, by decide, by decide, by decide⟩,
   ⟨(lay up [(0x20000000, 0x12345678)]), 2, 0x20000000#32, 1, by decide, by decide, by decide, by decide, by decide, by decide, by decide⟩,
   ⟨(poke (lay { up with icx := { Icx.reset with lock := [(2, 2)] } } [(0x20000000, 0x12345678)]) [(Adr.ICX_LOCKSTAT, 2), (Adr.ICX_TGTSTAT 1, 0x200)]), 0, 0x20000000#32, 1, by decide, by decide, by decide, by decide, by decide, by decide, by decide⟩,
   ⟨(poke (lay { up with icx := { Icx.reset with lock := [(2, 2)] } } [(0x20000000, 0x12345678)]) [(Adr.ICX_LOCKSTAT, 2), (Adr.ICX_TGTSTAT 1, 0x200)]), 2, 0x20000000#32, 1, by decide, by decide, by decide, by decide, by decide, by decide, by decide, by decide, by decide⟩,
   ⟨up, 2, 0x20000000#32, 1, by decide, by decide, by decide, by decide, by decide, by decide, by decide, by decide⟩,
   ⟨(lay { up with icx := { Icx.reset with broken := 2#32 } } [(0x20000000, 0x92345678)]), 2, 0x20000000#32, 1, by decide, by decide, by decide, by decide, by decide, by decide, by decide, by decide⟩,
   ⟨(lay { up with icx := { Icx.reset with broken := 2#32 } } [(0x20000000, 0x92345678)]), 2, 0x20000000#32, 1, by decide, by decide, by decide, by decide, by decide, by decide, by decide⟩,
   ⟨(poke (lay { up with icx := { Icx.reset with lock := [(2, 2)] } } [(0x20000000, 0x12345678)]) [(Adr.ICX_LOCKSTAT, 2), (Adr.ICX_TGTSTAT 1, 0x200)]), 2, 0x20000000#32, 1, 1, by decide, by decide, by decide, by decide, by decide, by decide, by decide⟩,
   ⟨({ up with icx := { Icx.reset with queue := [(12, [({ write := false, addr := 0x20000000#32, size := 4, beats := 1, data := [] } : Txn)])] } }), 0, by decide, by decide⟩,
   ⟨up, 0, by decide⟩,
   ⟨(poke ({ up with icx := { Icx.reset with charged := [(0, 70000), (1, 9), (2, 3)] } }) [(Adr.TBU_BUDGET 1, 5)]), by decide⟩⟩

theorem witness_SafetyInputs :
    (∃ (s : State) (i : Fin 8), s.sinShows i false ≠ s.sinShows i true ∧ bit s.shroud.disc i = false)
    ∧ (∃ (s : State) (i : Fin 8), s.sinShows i false = s.sinShows i true) :=
  ⟨⟨({ up with shroud := { Shroud.reset with pins := [(14, .high)] } }), 7, by decide, by decide⟩,
   ⟨up, 2, by decide⟩⟩

theorem witness_SafeResets :
    (∃ (s : State) (idle : Nat) (skew : Nat) (width : Nat) (g : Fin 6), 100 ≤ idle ∧ skew ≤ 20 ∧ 50 ≤ width ∧ width ≤ 2000 ∧ s.domOn 2 = true ∧ s.lockedOutGroup g = true)
    ∧ (∃ (idle : Nat) (skew : Nat) (width : Nat), (idle < 100 ∨ 20 < skew ∨ width < 50 ∨ 2000 < width))
    ∧ (∃ (s : State), s.pageOn Pg.SHRD = true)
    ∧ (∃ (s : State) (h : Fin 2), (s.shroud.a.dec h).ss1.isSome = true)
    ∧ (∃ (s : State) (g : Fin 6), (s.shroud.a.dec g).gst = .l ∧ (s.shroud.b.dec g).gst = .l ∧ (s.shroud.a.dec g).fns.testBit 0 = true ∧ (s.shroud.b.dec g).fns.testBit 0 = true)
    ∧ (∃ (s : State) (g : Fin 6), ((s.shroud.a.dec g).gst = .x ∨ (s.shroud.a.dec g).gst = .xh ∨ (s.shroud.b.dec g).gst = .x ∨ (s.shroud.b.dec g).gst = .xh)) :=
  ⟨⟨(poke { up with shroud := { Shroud.reset with a := { Channel.reset with groups := [(1, { GroupDec.reset with gst := .l, fns := 1 })] }, b := { Channel.reset with groups := [(1, { GroupDec.reset with gst := .l, fns := 1 })] } } } ([(Adr.SHRD_GCAUSE 1, 3)])), 100, 20, 2000, 1, by decide, by decide, by decide, by decide, by decide, by decide⟩,
   ⟨99, 20, 2000, by decide⟩,
   ⟨up, by decide⟩,
   ⟨(poke { up with shroud := { Shroud.reset with a := { Channel.reset with state := 1, groups := [(1, { GroupDec.reset with gst := .ss1, fns := 2, ss1 := some (1000, 5) })] }, b := { Channel.reset with state := 1, groups := [(1, { GroupDec.reset with gst := .ss1, fns := 2, ss1 := some (1000, 5) })] } } } ([])), 1, by decide⟩,
   ⟨(poke { up with shroud := { Shroud.reset with a := { Channel.reset with state := 1, groups := [(1, { GroupDec.reset with gst := .l, fns := 1 })] }, b := { Channel.reset with state := 1, groups := [(1, { GroupDec.reset with gst := .l, fns := 1 })] } } } ([])), 1, by decide, by decide, by decide, by decide⟩,
   ⟨(poke { up with shroud := { Shroud.reset with a := { Channel.reset with state := 1, groups := [(1, { GroupDec.reset with gst := .l, fns := 1 })] }, b := { Channel.reset with state := 1, groups := [(1, { GroupDec.reset with gst := .x, fns := 1 })] } } } ([])), 1, by decide⟩⟩

theorem witness_ShroudDecides :
    (∃ (s : State), s.domOn 2 = true)
    ∧ (∃ (s : State), s.pwr.phase ≠ .dark ∧ s.pwr.phase ≠ .sleep)
    ∧ (∃ (s : State), s.domOn 2 = true ∧ s.shroud.a.image = s.shroud.b.image ∧ s.statesDiffer = false)
    ∧ (∃ (s : State), s.domOn 2 = true ∧ s.shroud.a.image ≠ s.shroud.b.image ∧ s.shroud.diffImages = 0 ∧ s.statesDiffer = false)
    ∧ (∃ (s : State) (missing : Bool) (rcOff : Bool), s.domOn 2 = true ∧ s.shroud.a.state ≠ 3 ∧ (rcOff = true ∨ (missing = true ∧ s.shroud.missed = 1) ∨
      (missing = false ∧ s.shroud.a.image ≠ s.shroud.b.image ∧ s.shroud.diffImages = 2) ∨
      (missing = false ∧ s.statesDiffer = true ∧ s.shroud.diffStates = 1)))
    ∧ (∃ (s : State), s.operateReady = true) :=
  ⟨⟨up, by decide⟩,
   ⟨up, by decide, by decide⟩,
   ⟨(poke { up with shroud := { Shroud.reset with diffImages := 2, diffStates := 1, missed := 1 } } ([(Adr.SHRD_XSTAT, 0xFFFFFFFF)])), by decide, by decide, by decide⟩,
   ⟨(poke { up with shroud := { Shroud.reset with a := { Channel.reset with image := { Image.reset with sin := 5#32 } }, diffStates := 1 } } ([(Adr.SHRD_XSTAT, 0xFFFFFFFF)])), by decide, by decide, by decide, by decide⟩,
   ⟨(poke { up with shroud := { Shroud.reset with  } } ([])), false, true, by decide, by decide, by decide⟩,
   ⟨(poke { up with shroud := { Shroud.reset with a := { Channel.reset with bist := true }, b := { Channel.reset with bist := true }, cfgLoaded := true, cfgOk := true } } ([])), by decide⟩⟩

theorem witness_TrimMoves :
    (∃ (s : State) (n : Fin 4) (e : Ecc) (r : TrimRun) (w : Word), e ≠ .uncorrectable ∧ s.AtInstr n r w 0x01)
    ∧ (∃ (s : State) (n : Fin 4) (e : Ecc) (r : TrimRun) (w : Word), e ≠ .uncorrectable ∧ s.AtInstr n r w 0x02 ∧ (s.sampleFor n r (fSel w)).valid = true)
    ∧ (∃ (s : State), ∃ (n : Fin 4), ∃ (e : Ecc), ∃ (r : TrimRun), ∃ (w : Word), ∃ k, e ≠ .uncorrectable ∧ s.AtInstr n r w 0x02 ∧ (s.sampleFor n r (fSel w)).valid = false ∧ s.coef n (fK w) = some k)
    ∧ (∃ (s : State) (n : Fin 4) (e : Ecc) (r : TrimRun) (w : Word), e ≠ .uncorrectable ∧ s.AtInstr n r w 0x03)
    ∧ (∃ (s : State) (n : Fin 4) (e : Ecc) (r : TrimRun) (w : Word), e ≠ .uncorrectable ∧ s.AtInstr n r w 0x04)
    ∧ (∃ (s : State), ∃ (n : Fin 4), ∃ (e : Ecc), ∃ (r : TrimRun), ∃ (w : Word), ∃ k, e ≠ .uncorrectable ∧ s.AtInstr n r w 0x05 ∧ s.coef n (s.bank n r.slot + fK w) = some k)
    ∧ (∃ (s : State) (n : Fin 4) (e : Ecc) (r : TrimRun) (w : Word), e ≠ .uncorrectable ∧ s.AtInstr n r w 0x06)
    ∧ (∃ (s : State) (n : Fin 4) (e : Ecc) (r : TrimRun) (w : Word), e ≠ .uncorrectable ∧ s.AtInstr n r w 0x07)
    ∧ (∃ (s : State) (n : Fin 4) (e : Ecc) (r : TrimRun) (w : Word), e ≠ .uncorrectable ∧ s.AtInstr n r w 0x08) :=
  ⟨⟨(engAt 1 (regsD []) (iw 1 3 0 0 0 0 + 384 * 1024) [(Adr.TRIM_CRAMP 1 2, 0x80000000)]), 1, .ok, ((regsD [])), ((BitVec.ofNat 32 (iw 1 3 0 0 0 0 + 384 * 1024))), by decide, by decide⟩,
   ⟨(engAt 1 (regsD []) (iw 2 3 0 0 0 0 + 387 * 1024) []), 1, .ok, ((regsD [])), ((BitVec.ofNat 32 (iw 2 3 0 0 0 0 + 387 * 1024))), by decide, by decide, by decide⟩,
   ⟨(lay (engAt 1 (regsD []) (iw 2 3 0 0 0 0 + 1023 * 1024 + 9) []) [(coefAddr 1 9, 0x80000000), (coefAddr 1 9 + 4, 62)]), 1, .ok, ((regsD [])), ((BitVec.ofNat 32 (iw 2 3 0 0 0 0 + 1023 * 1024 + 9))), (((BitVec.ofNat 32 (0x80000000)).toInt, 62)), by decide, by decide, by decide, by decide⟩,
   ⟨(engAt 1 (regsD []) (iw 3 3 0 0 0 0 + 389 * 1024) []), 1, .ok, ((regsD [])), ((BitVec.ofNat 32 (iw 3 3 0 0 0 0 + 389 * 1024))), by decide, by decide⟩,
   ⟨(engAt 1 (regsD [(3, -7)]) (iw 4 3 0 0 0 0 + 35 * 1024) []), 1, .ok, ((regsD [(3, -7)])), ((BitVec.ofNat 32 (iw 4 3 0 0 0 0 + 35 * 1024))), by decide, by decide⟩,
   ⟨(lay (engAt 1 (regsD []) (iw 5 3 0 0 0 4) [(Adr.TRIM_CBANK 1 2, 100)]) [(coefAddr 1 104, 5), (coefAddr 1 104 + 4, 31)]), 1, .ok, ((regsD [])), ((BitVec.ofNat 32 (iw 5 3 0 0 0 4))), (((BitVec.ofNat 32 (5)).toInt, 31)), by decide, by decide, by decide⟩,
   ⟨(engAt 1 (regsD []) (iw 6 3 0 0 15 0) [(Adr.TRIM_ST 1 47, 0x80000001)]), 1, .ok, ((regsD [])), ((BitVec.ofNat 32 (iw 6 3 0 0 15 0))), by decide, by decide⟩,
   ⟨(engAt 1 (regsD [(4, -1)]) (iw 7 0 4 0 15 0) []), 1, .ok, ((regsD [(4, -1)])), ((BitVec.ofNat 32 (iw 7 0 4 0 15 0))), by decide, by decide⟩,
   ⟨(engAt 1 (regsD [(4, -1)]) (iw 8 3 4 0 0 0) []), 1, .ok, ((regsD [(4, -1)])), ((BitVec.ofNat 32 (iw 8 3 4 0 0 0))), by decide, by decide⟩⟩

theorem witness_TrimArithmetic :
    (∃ (s : State), ∃ (n : Fin 4), ∃ (e : Ecc), ∃ (r : TrimRun), ∃ (w : Word), ∃ (op : Nat), ∃ (c : Instr), ∃ x, e ≠ .uncorrectable ∧ ((op = 0x09 ∧ c = .trAdd n e ∧ x = r.rd (fA w) + r.rd (fB w)) ∨ (op = 0x0A ∧ c = .trSub n e ∧ x = r.rd (fA w) - r.rd (fB w)) ∨
      (op = 0x0B ∧ c = .trNeg n e ∧ x = -r.rd (fA w)) ∨ (op = 0x0C ∧ c = .trAbs n e ∧ x = (r.rd (fA w)).natAbs)) ∧ s.AtInstr n r w op)
    ∧ (∃ (s : State), ∃ (n : Fin 4), ∃ (e : Ecc), ∃ (r : TrimRun), ∃ (w : Word), ∃ k, e ≠ .uncorrectable ∧ s.AtInstr n r w 0x10 ∧ s.coef n (s.bank n r.slot + fK w) = some k)
    ∧ (∃ (s : State) (n : Fin 4) (e : Ecc) (r : TrimRun) (w : Word), e ≠ .uncorrectable ∧ s.AtInstr n r w 0x11)
    ∧ (∃ (s : State) (n : Fin 4) (e : Ecc) (r : TrimRun) (w : Word), e ≠ .uncorrectable ∧ s.AtInstr n r w 0x12)
    ∧ (∃ (s : State), ∃ (n : Fin 4), ∃ (e : Ecc), ∃ (r : TrimRun), ∃ (w : Word), ∃ a, e ≠ .uncorrectable ∧ a = r.acc (fD w) + r.rd (fA w) * r.rd (fB w) ∧ s.AtInstr n r w 0x14 ∧ -2 ^ 71 ≤ a ∧ a < 2 ^ 71)
    ∧ (∃ (s : State), ∃ (n : Fin 4), ∃ (e : Ecc), ∃ (r : TrimRun), ∃ (w : Word), ∃ k, ∃ a, (e ≠ .uncorrectable) ∧ (a = r.acc (fD w) + (if k.2 ≤ 31 then r.rd (fA w) * k.1 * 2 ^ (31 - k.2) else roundShift (r.rd (fA w) * k.1) (k.2 - 31))) ∧ (s.AtInstr n r w 0x13) ∧ (s.coef n (s.bank n r.slot + fK w) = some k) ∧ (-2 ^ 71 ≤ a) ∧ (a < 2 ^ 71))
    ∧ (∃ (s : State), ∃ (n : Fin 4), ∃ (e : Ecc), ∃ (r : TrimRun), ∃ (w : Word), ∃ a, e ≠ .uncorrectable ∧ a = r.acc (fD w) + r.rd (fA w) * r.rd (fB w) ∧ s.AtInstr n r w 0x14 ∧ 2 ^ 71 ≤ a)
    ∧ (∃ (s : State) (n : Fin 4) (e : Ecc) (r : TrimRun) (w : Word), e ≠ .uncorrectable ∧ s.AtInstr n r w 0x15)
    ∧ (∃ (s : State), ∃ (n : Fin 4), ∃ (e : Ecc), ∃ (r : TrimRun), ∃ (w : Word), ∃ k, e ≠ .uncorrectable ∧ s.AtInstr n r w 0x16 ∧ s.coef n (s.bank n r.slot + fK w) = some k)
    ∧ (∃ (s : State) (n : Fin 4) (e : Ecc) (r : TrimRun) (w : Word), e ≠ .uncorrectable ∧ s.AtInstr n r w 0x17) :=
  ⟨⟨(engAt 1 (regsD [(4, 2147483647), (5, 1)]) (iw 9 3 4 5 0 0) []), 1, .ok, ((regsD [(4, 2147483647), (5, 1)])), ((BitVec.ofNat 32 (iw 9 3 4 5 0 0))), 0x09, (.trAdd 1 .ok), 2147483648, by decide, by decide, by decide⟩,
   ⟨(lay (engAt 1 (regsD [(4, -2147483648), (5, 1)]) (iw 16 3 4 0 0 4) []) [(coefAddr 1 4, 0x80000000), (coefAddr 1 4 + 4, 31)]), 1, .ok, ((regsD [(4, -2147483648), (5, 1)])), ((BitVec.ofNat 32 (iw 16 3 4 0 0 4))), (((BitVec.ofNat 32 (0x80000000)).toInt, 31)), by decide, by decide, by decide⟩,
   ⟨(engAt 1 (regsD [(4, -2147483648), (5, -2147483648)]) (iw 17 3 4 5 0 0) []), 1, .ok, ((regsD [(4, -2147483648), (5, -2147483648)])), ((BitVec.ofNat 32 (iw 17 3 4 5 0 0))), by decide, by decide⟩,
   ⟨(engAt 1 (regsD []) (iw 18 3 0 0 0 0) []), 1, .ok, ((regsD [])), ((BitVec.ofNat 32 (iw 18 3 0 0 0 0))), by decide, by decide⟩,
   ⟨(engAt 1 (regsD [(4, -2147483648), (5, -2147483648)]) (iw 20 3 4 5 0 0) []), 1, .ok, ((regsD [(4, -2147483648), (5, -2147483648)])), ((BitVec.ofNat 32 (iw 20 3 4 5 0 0))), (2^62), by decide, by decide, by decide, by decide, by decide⟩,
   ⟨(lay (engAt 1 (regsD [(4, -5), (5, 1)]) (iw 19 3 4 0 0 4) []) [(coefAddr 1 4, 0x80000001), (coefAddr 1 4 + 4, 62)]), 1, .ok, ((regsD [(4, -5), (5, 1)])), ((BitVec.ofNat 32 (iw 19 3 4 0 0 4))), (((BitVec.ofNat 32 (0x80000001)).toInt, 62)), (roundShift (5 * 2147483647) 31), by decide, by decide, by decide, by decide, by decide, by decide⟩,
   ⟨(engAt 1 ({ (regsD [(4, -2147483648), (5, -2147483648)]) with a1 := 2^71 - 5 }) (iw 20 3 4 5 0 0) []), 1, .ok, (({ (regsD [(4, -2147483648), (5, -2147483648)]) with a1 := 2^71 - 5 })), ((BitVec.ofNat 32 (iw 20 3 4 5 0 0))), (2^71 - 5 + 2^62), by decide, by decide, by decide, by decide⟩,
   ⟨(engAt 1 ({ run0 with a0 := 2^62 }) (iw 21 3 4 0 0 0) []), 1, .ok, (({ run0 with a0 := 2^62 })), ((BitVec.ofNat 32 (iw 21 3 4 0 0 0))), by decide, by decide⟩,
   ⟨(lay (engAt 1 (regsD [(4, -2147483648), (5, 1)]) (iw 22 3 4 0 0 4) []) [(coefAddr 1 4, 0x80000000), (coefAddr 1 4 + 4, 20)]), 1, .ok, ((regsD [(4, -2147483648), (5, 1)])), ((BitVec.ofNat 32 (iw 22 3 4 0 0 4))), (((BitVec.ofNat 32 (0x80000000)).toInt, 20)), by decide, by decide, by decide⟩,
   ⟨(engAt 1 (regsD [(4, 100), (5, 50), (6, 70)]) (iw 23 3 4 5 6 0) []), 1, .ok, ((regsD [(4, 100), (5, 50), (6, 70)])), ((BitVec.ofNat 32 (iw 23 3 4 5 6 0))), by decide, by decide⟩⟩

theorem witness_TrimControl :
    (∃ (s : State), ∃ (n : Fin 4), ∃ (e : Ecc), ∃ (r : TrimRun), ∃ (w : Word), ∃ k, ∃ y, (e ≠ .uncorrectable) ∧ (s.AtInstr n r w 0x18) ∧ (s.coef n (s.bank n r.slot + fK w) = some k) ∧ (y = (if s.stw n r.slot (fC w) < r.rd (fA w) then min (s.stw n r.slot (fC w) + (ldkValue k).1.natAbs) (r.rd (fA w))
      else max (s.stw n r.slot (fC w) - (ldkValue k).1.natAbs) (r.rd (fA w)))))
    ∧ (∃ (s : State) (n : Fin 4) (e : Ecc) (r : TrimRun) (w : Word) (kp : Coef) (ki : Coef) (p : Int × Bool) (m : Int × Bool) (i : Int × Bool) (op : Nat) (c : Instr), e ≠ .uncorrectable ∧ ((op = 0x19 ∧ c = .trPi n e) ∨ (op = 0x1A ∧ c = .trPit n e ∧ (s.engine n).tuner = none)) ∧ s.AtInstr n r w op ∧ s.coef n (s.bank n r.slot + fK w) = some kp ∧ s.coef n (s.bank n r.slot + (fK w + 1)) = some ki ∧ p = satQ (r.rd (fA w) * kp.1) kp.2 ∧ m = satQ (r.rd (fA w) * ki.1) ki.2 ∧ i = satQ (s.stw n r.slot (fC w) + m.1) 0 ∧ r.rd (fB w + 1) ≤ p.1 + i.1 ∧ p.1 + i.1 ≤ r.rd (fB w) ∧ r.rd (fB w + 1) ≤ i.1 ∧ i.1 ≤ r.rd (fB w))
    ∧ (∃ (s : State) (n : Fin 4) (e : Ecc) (r : TrimRun) (w : Word) (kp : Coef) (ki : Coef) (p : Int × Bool) (m : Int × Bool) (i : Int × Bool) (op : Nat) (c : Instr), e ≠ .uncorrectable ∧ ((op = 0x19 ∧ c = .trPi n e) ∨ (op = 0x1A ∧ c = .trPit n e ∧ (s.engine n).tuner = none)) ∧ s.AtInstr n r w op ∧ s.coef n (s.bank n r.slot + fK w) = some kp ∧ s.coef n (s.bank n r.slot + (fK w + 1)) = some ki ∧ p = satQ (r.rd (fA w) * kp.1) kp.2 ∧ m = satQ (r.rd (fA w) * ki.1) ki.2 ∧ i = satQ (s.stw n r.slot (fC w) + m.1) 0 ∧ r.rd (fB w) < p.1 + i.1 ∧ p.1 + i.1 ≤ 2147483647 ∧ 0 < r.rd (fA w) ∧ r.rd (fB w) ≤ p.1 + s.stw n r.slot (fC w) ∧ p.1 + s.stw n r.slot (fC w) ≤ 2147483647 ∧ r.rd (fB w + 1) ≤ s.stw n r.slot (fC w) ∧ s.stw n r.slot (fC w) ≤ r.rd (fB w) ∧ r.rd (fB w + 1) ≤ r.rd (fB w))
    ∧ (∃ (s : State) (n : Fin 4) (e : Ecc) (r : TrimRun) (w : Word) (b0 : Coef) (b1 : Coef) (b2 : Coef) (a1 : Coef) (a2 : Coef), e ≠ .uncorrectable ∧ s.AtInstr n r w 0x1B ∧ fC w < 15 ∧ s.coef n (s.bank n r.slot + (fK w + 0)) = some b0 ∧ s.coef n (s.bank n r.slot + (fK w + 1)) = some b1 ∧ s.coef n (s.bank n r.slot + (fK w + 2)) = some b2 ∧ s.coef n (s.bank n r.slot + (fK w + 3)) = some a1 ∧ s.coef n (s.bank n r.slot + (fK w + 4)) = some a2)
    ∧ (∃ (s : State) (n : Fin 4) (e : Ecc) (r : TrimRun) (w : Word), e ≠ .uncorrectable ∧ s.AtInstr n r w 0x26 ∧ 0 ≤ r.rd (fA w))
    ∧ (∃ (s : State) (n : Fin 4) (e : Ecc) (r : TrimRun) (w : Word), e ≠ .uncorrectable ∧ s.AtInstr n r w 0x26 ∧ r.rd (fA w) < 0)
    ∧ (∃ (s : State) (n : Fin 4) (e : Ecc) (r : TrimRun) (w : Word), e ≠ .uncorrectable ∧ s.AtInstr n r w 0x27 ∧ r.rd (fB w) = 0)
    ∧ (∃ (s : State) (n : Fin 4) (e : Ecc) (r : TrimRun) (w : Word) (p : Int) (q : Int) (d : Int), (e ≠ .uncorrectable) ∧ (s.AtInstr n r w 0x27) ∧ (r.rd (fB w) ≠ 0) ∧ (p = (if r.rd (fB w) < 0 then -r.rd (fA w) else r.rd (fA w))) ∧ (d = (r.rd (fB w)).natAbs) ∧ (2 * q * d ≤ 2 * (p * 2 ^ 31) + d) ∧ (2 * (p * 2 ^ 31) + d < 2 * (q + 1) * d))
    ∧ (∃ (s : State) (n : Fin 4) (e : Ecc) (r : TrimRun) (w : Word), e ≠ .uncorrectable ∧ s.AtInstr n r w 0x25 ∧ r.rd (fA w) = 0 ∧ r.rd (fB w) = 0)
    ∧ (∃ (s : State) (n : Fin 4) (e : Ecc) (r : TrimRun) (w : Word), e ≠ .uncorrectable ∧ s.AtInstr n r w 0x25 ∧ ((r.rd (fA w) ≠ 0 ∨ r.rd (fB w) ≠ 0))) :=
  ⟨⟨(lay (engAt 1 (regsD [(4, 100)]) (iw 24 3 4 0 2 4) [(Adr.TRIM_ST 1 34, 0xFFFFFFFF)]) [(coefAddr 1 4, 0xFFFFFFFB), (coefAddr 1 4 + 4, 31)]), 1, .ok, ((regsD [(4, 100)])), ((BitVec.ofNat 32 (iw 24 3 4 0 2 4))), (((BitVec.ofNat 32 (0xFFFFFFFB)).toInt, 31)), 4, by decide, by decide, by decide, by decide⟩,
   ⟨(lay (engAt 1 (regsD [(4, 1000), (6, 5000), (7, -5000)]) (iw 25 3 4 6 2 4) [(Adr.TRIM_ST 1 34, 7)]) [(coefAddr 1 4, 1), (coefAddr 1 4 + 4, 31), (coefAddr 1 5, 0x40000000), (coefAddr 1 5 + 4, 31)]), 1, .ok, ((regsD [(4, 1000), (6, 5000), (7, -5000)])), ((BitVec.ofNat 32 (iw 25 3 4 6 2 4))), (((BitVec.ofNat 32 (1)).toInt, 31)), (((BitVec.ofNat 32 (0x40000000)).toInt, 31)), ((0, false)), ((500, false)), ((507, false)), 25, (.trPi 1 .ok), by decide, by decide, by decide, by decide, by decide, by decide, by decide, by decide, by decide, by decide, by decide, by decide⟩,
   ⟨(lay (engAt 1 (regsD [(4, 1000), (6, 400), (7, -5000)]) (iw 25 3 4 6 2 4) [(Adr.TRIM_ST 1 34, 400)]) [(coefAddr 1 4, 1), (coefAddr 1 4 + 4, 31), (coefAddr 1 5, 0x40000000), (coefAddr 1 5 + 4, 31)]), 1, .ok, ((regsD [(4, 1000), (6, 400), (7, -5000)])), ((BitVec.ofNat 32 (iw 25 3 4 6 2 4))), (((BitVec.ofNat 32 (1)).toInt, 31)), (((BitVec.ofNat 32 (0x40000000)).toInt, 31)), ((0, false)), ((500, false)), ((900, false)), 25, (.trPi 1 .ok), by decide, by decide, by decide, by decide, by decide, by decide, by decide, by decide, by decide, by decide, by decide, by decide, by decide, by decide, by decide, by decide⟩,
   ⟨(lay (engAt 1 (regsD [(4, 1000000)]) (iw 27 3 4 0 14 4) [(Adr.TRIM_ST 1 46, 70000), (Adr.TRIM_ST 1 47, 0xFFFF0000)]) [(coefAddr 1 4, 0x40000000), (coefAddr 1 4 + 4, 30), (coefAddr 1 5, 0x20000000), (coefAddr 1 5 + 4, 30), (coefAddr 1 6, 0xF0000000), (coefAddr 1 6 + 4, 30), (coefAddr 1 7, 0x30000000), (coefAddr 1 7 + 4, 30), (coefAddr 1 8, 0xE0000000), (coefAddr 1 8 + 4, 30)]), 1, .ok, ((regsD [(4, 1000000)])), ((BitVec.ofNat 32 (iw 27 3 4 0 14 4))), (((BitVec.ofNat 32 (0x40000000)).toInt, 30)), (((BitVec.ofNat 32 (0x20000000)).toInt, 30)), (((BitVec.ofNat 32 (0xF0000000)).toInt, 30)), (((BitVec.ofNat 32 (0x30000000)).toInt, 30)), (((BitVec.ofNat 32 (0xE0000000)).toInt, 30)), by decide, by decide, by decide, by decide, by decide, by decide, by decide, by decide⟩,
   ⟨(engAt 1 (regsD [(4, 2147483647)]) (iw 38 3 4 0 0 0) []), 1, .ok, ((regsD [(4, 2147483647)])), ((BitVec.ofNat 32 (iw 38 3 4 0 0 0))), by decide, by decide, by decide⟩,
   ⟨(engAt 1 (regsD [(4, -1)]) (iw 38 3 4 0 0 0) []), 1, .ok, ((regsD [(4, -1)])), ((BitVec.ofNat 32 (iw 38 3 4 0 0 0))), by decide, by decide, by decide⟩,
   ⟨(engAt 1 (regsD [(4, -3)]) (iw 39 3 4 5 0 0) []), 1, .ok, ((regsD [(4, -3)])), ((BitVec.ofNat 32 (iw 39 3 4 5 0 0))), by decide, by decide, by decide⟩,
   ⟨(engAt 1 (regsD [(4, 1), (5, 3)]) (iw 39 3 4 5 0 0) []), 1, .ok, ((regsD [(4, 1), (5, 3)])), ((BitVec.ofNat 32 (iw 39 3 4 5 0 0))), 1, 715827883, 3, by decide, by decide, by decide, by decide, by decide, by decide, by decide⟩,
   ⟨(engAt 1 (regsD []) (iw 37 3 4 5 0 0) []), 1, .ok, ((regsD [])), ((BitVec.ofNat 32 (iw 37 3 4 5 0 0))), by decide, by decide, by decide, by decide⟩,
   ⟨(engAt 1 (regsD [(4, 0), (5, 5)]) (iw 37 3 4 5 0 0) []), 1, .ok, ((regsD [(4, 0), (5, 5)])), ((BitVec.ofNat 32 (iw 37 3 4 5 0 0))), by decide, by decide, by decide⟩⟩

theorem witness_TrimTransforms :
    (∃ (s : State) (n : Fin 4) (e : Ecc) (r : TrimRun) (w : Word), e ≠ .uncorrectable ∧ s.AtInstr n r w 0x20)
    ∧ (∃ (s : State) (n : Fin 4) (e : Ecc) (r : TrimRun) (w : Word) (x : Nat) (vd : Int) (vq : Int), e ≠ .uncorrectable ∧ s.AtInstr n r w 0x21 ∧ x = (wInt (r.rd (fB w))).toNat ∧ vd = r.rd (fA w) * turnCos x + r.rd (fA w + 1) * turnSin x ∧ vq = r.rd (fA w + 1) * turnCos x - r.rd (fA w) * turnSin x)
    ∧ (∃ (s : State) (n : Fin 4) (e : Ecc) (r : TrimRun) (w : Word) (x : Nat) (va : Int) (vb : Int), e ≠ .uncorrectable ∧ s.AtInstr n r w 0x22 ∧ x = (wInt (r.rd (fB w))).toNat ∧ va = r.rd (fA w) * turnCos x - r.rd (fA w + 1) * turnSin x ∧ vb = r.rd (fA w) * turnSin x + r.rd (fA w + 1) * turnCos x)
    ∧ (∃ (s : State) (n : Fin 4) (e : Ecc) (r : TrimRun) (w : Word) (a : Int) (b : Int) (z : Int), e ≠ .uncorrectable ∧ s.AtInstr n r w 0x23 ∧ a = r.rd (fA w) ∧ b = r.rd (fA w + 1) ∧ z = svmZero (fC w) (a * 2 ^ 64) (-a * 2 ^ 63 + b * halfRoot3) (-a * 2 ^ 63 - b * halfRoot3))
    ∧ (∃ (s : State) (n : Fin 4) (e : Ecc) (r : TrimRun) (w : Word) (x : Nat), e ≠ .uncorrectable ∧ s.AtInstr n r w 0x24 ∧ x = (wInt (r.rd (fA w))).toNat) :=
  ⟨⟨(engAt 1 (regsD [(4, -2147483648), (5, -2147483648)]) (iw 32 3 4 5 0 0) []), 1, .ok, ((regsD [(4, -2147483648), (5, -2147483648)])), ((BitVec.ofNat 32 (iw 32 3 4 5 0 0))), by decide, by decide⟩,
   ⟨(engAt 1 (regsD [(4, -2147483648), (5, -2147483648), (6, 5)]) (iw 33 3 4 6 0 0) []), 1, .ok, ((regsD [(4, -2147483648), (5, -2147483648), (6, 5)])), ((BitVec.ofNat 32 (iw 33 3 4 6 0 0))), 5, ((((regsD [(4, -2147483648), (5, -2147483648), (6, 5)])) : TrimRun).rd (fA (((BitVec.ofNat 32 (iw 33 3 4 6 0 0))) : Word)) * turnCos (5 : Nat) + (((regsD [(4, -2147483648), (5, -2147483648), (6, 5)])) : TrimRun).rd (fA (((BitVec.ofNat 32 (iw 33 3 4 6 0 0))) : Word) + 1) * turnSin (5 : Nat)), ((((regsD [(4, -2147483648), (5, -2147483648), (6, 5)])) : TrimRun).rd (fA (((BitVec.ofNat 32 (iw 33 3 4 6 0 0))) : Word) + 1) * turnCos (5 : Nat) - (((regsD [(4, -2147483648), (5, -2147483648), (6, 5)])) : TrimRun).rd (fA (((BitVec.ofNat 32 (iw 33 3 4 6 0 0))) : Word)) * turnSin (5 : Nat)), by decide, by decide, by decide, by decide, by decide⟩,
   ⟨(engAt 1 (regsD [(4, -2147483648), (5, -2147483648), (6, 5)]) (iw 34 3 4 6 0 0) []), 1, .ok, ((regsD [(4, -2147483648), (5, -2147483648), (6, 5)])), ((BitVec.ofNat 32 (iw 34 3 4 6 0 0))), 5, ((((regsD [(4, -2147483648), (5, -2147483648), (6, 5)])) : TrimRun).rd (fA (((BitVec.ofNat 32 (iw 34 3 4 6 0 0))) : Word)) * turnCos (5 : Nat) - (((regsD [(4, -2147483648), (5, -2147483648), (6, 5)])) : TrimRun).rd (fA (((BitVec.ofNat 32 (iw 34 3 4 6 0 0))) : Word) + 1) * turnSin (5 : Nat)), ((((regsD [(4, -2147483648), (5, -2147483648), (6, 5)])) : TrimRun).rd (fA (((BitVec.ofNat 32 (iw 34 3 4 6 0 0))) : Word)) * turnSin (5 : Nat) + (((regsD [(4, -2147483648), (5, -2147483648), (6, 5)])) : TrimRun).rd (fA (((BitVec.ofNat 32 (iw 34 3 4 6 0 0))) : Word) + 1) * turnCos (5 : Nat)), by decide, by decide, by decide, by decide, by decide⟩,
   ⟨(engAt 1 (regsD [(4, -2147483648), (5, -2147483648), (6, 5)]) (iw 35 3 4 6 0 0) []), 1, .ok, ((regsD [(4, -2147483648), (5, -2147483648), (6, 5)])), ((BitVec.ofNat 32 (iw 35 3 4 6 0 0))), (-2147483648), (-2147483648), (svmZero (fC (((BitVec.ofNat 32 (iw 35 3 4 6 0 0))) : Word)) (((-2147483648) : Int) * 2 ^ 64) (-((-2147483648) : Int) * 2 ^ 63 + ((-2147483648) : Int) * halfRoot3) (-((-2147483648) : Int) * 2 ^ 63 - ((-2147483648) : Int) * halfRoot3)), by decide, by decide, by decide, by decide, by decide⟩,
   ⟨(engAt 1 (regsD [(4, 0)]) (iw 36 3 4 0 0 0) []), 1, .ok, ((regsD [(4, 0)])), ((BitVec.ofNat 32 (iw 36 3 4 0 0 0))), 0, by decide, by decide, by decide⟩⟩

theorem witness_TrimSequencing :
    (∃ (s : State) (n : Fin 4) (r : TrimRun) (w : Word) (op : Nat) (c : Instr), (op, c) ∈ trimRows n .uncorrectable ∧ s.Stands n r w op)
    ∧ (∃ (s : State) (n : Fin 4) (r : TrimRun) (op : Nat) (c : Instr) (e : Ecc), (op, c) ∈ trimRows n e ∧ (s.engine n).run = some r ∧ fOp (s.mword (progAddr n r.pc)) ≠ op)
    ∧ (∃ (s : State) (n : Fin 4) (op : Nat) (c : Instr) (e : Ecc), (op, c) ∈ trimRows n e ∧ (s.engine n).run = none)
    ∧ (∃ (s : State) (n : Fin 4) (r : TrimRun) (w : Word), s.Stands n r w 0x08 ∧ r.pc + 1 = s.progEnd n r.slot)
    ∧ (∃ (s : State) (n : Fin 4) (r : TrimRun) (w : Word) (e : Ecc), e ≠ .uncorrectable ∧ s.AtInstr n r w 0x30 ∧ s.condHolds n r w = false)
    ∧ (∃ (s : State) (n : Fin 4) (r : TrimRun) (w : Word) (e : Ecc) (p : Nat), e ≠ .uncorrectable ∧ s.Stands n r w 0x30 ∧ s.condHolds n r w = true ∧ (p : Int) = r.pc + 1 + signed 12 (bits w 11 0) ∧ s.fld (Adr.TRIM_CPROG n r.slot) 11 0 ≤ p ∧ p < s.progEnd n r.slot) :=
  ⟨⟨(engAt 1 (regsD []) (iw 1 3 4 5 0 0) []), 1, ((regsD [])), ((BitVec.ofNat 32 (iw 1 3 4 5 0 0))), 1, (.trLds 1 .uncorrectable), by decide, by decide⟩,
   ⟨(engAt 1 (regsD []) (iw 1 3 0 0 0 0) []), 1, ((regsD [])), 8, (.trMov 1 .ok), .ok, by decide, by decide, by decide⟩,
   ⟨up, 1, 8, (.trMov 1 .ok), .ok, by decide, by decide⟩,
   ⟨(engAt 1 ({ run0 with pc := 19 }) (iw 8 3 4 0 0 0) []), 1, (({ run0 with pc := 19 })), ((BitVec.ofNat 32 (iw 8 3 4 0 0 0))), by decide, by decide⟩,
   ⟨(engAt 1 (regsD [(3, 1)]) (iw 48 3 4 0 0 0 + 3) []), 1, ((regsD [(3, 1)])), ((BitVec.ofNat 32 (iw 48 3 4 0 0 0 + 3))), .ok, by decide, by decide, by decide⟩,
   ⟨(engAt 1 (regsD []) (iw 48 3 4 0 0 0 + 0xFFB) []), 1, ((regsD [])), ((BitVec.ofNat 32 (iw 48 3 4 0 0 0 + 0xFFB))), .ok, 1, by decide, by decide, by decide, by decide, by decide, by decide⟩⟩

theorem witness_TrimRuns :
    (∃ (s : State) (n : Fin 4) (i : Fin 8) (e : Ecc), e ≠ .uncorrectable ∧ s.pageOn (Pg.TRIM n) = true ∧ (s.engine n).run = none ∧ (s.engine n).tuner = none ∧ lowestBit (s.reg (Adr.TRIM_ESTAT n) >>> 8) 8 = some i.val ∧ s.flag (Adr.TRIM_RAMPCFG n i) 31 = false)
    ∧ (∃ (s : State) (n : Fin 4) (e : Ecc) (r : TrimRun) (w : Word) (v : Nat) (c : Instr), e ≠ .uncorrectable ∧ (v = 0 ∧ c = .trEnd n e ∨ v = 2 ∧ c = .trEndt n e) ∧ s.Stands n r w 0 ∧ bits w 1 0 = v ∧ s.flag (Adr.TRIM_CCFG n r.slot) 20 = false ∧ s.flag (Adr.TRIM_CCFG n r.slot) 21 = false ∧ (∀ j : Fin 4, bit (s.sptgt (8 * n + r.slot) j) 31 = false) ∧ s.pageOn (Pg.TRIM n) = true)
    ∧ (∃ (s : State) (n : Fin 4) (e : Ecc) (r : TrimRun) (w : Word), e ≠ .uncorrectable ∧ s.Stands n r w 0 ∧ bits w 1 0 = 0 ∧ s.flag (Adr.TRIM_CCFG n r.slot) 20 = true ∧ s.flag (Adr.TRIM_CCFG n r.slot) 21 = false ∧ (r.written.any fun k => decide (k < 8)) = true ∧ (∀ j : Fin 4, bit (s.sptgt (8 * n + r.slot) j) 31 = false))
    ∧ (∃ (s : State) (n : Fin 4) (e : Ecc) (r : TrimRun) (w : Word) (m : Fin 4) (x : Fin 8) (k : Fin 3) (a : Nat), e ≠ .uncorrectable ∧ a = Adr.TRIM_SETP0 m x + 4 * (k.val + 1) ∧ s.Stands n r w 0 ∧ bits w 1 0 = 0 ∧ s.flag (Adr.TRIM_CCFG n r.slot) 20 = false ∧ s.flag (Adr.TRIM_CCFG n r.slot) 21 = false ∧ s.pageOn (Pg.TRIM m) = true ∧ bit (s.sptgt (8 * n + r.slot) 0) 31 = true ∧ bits (s.sptgt (8 * n + r.slot) 0) 20 2 * 4 = a ∧ 0x10 ∈ r.written ∧ (∀ j : Fin 3, bit (s.sptgt (8 * n + r.slot) (j + 1)) 31 = false))
    ∧ (∃ (s : State) (n : Fin 4) (e : Ecc) (r : TrimRun) (w : Word), e ≠ .uncorrectable ∧ s.Stands n r w 0 ∧ bits w 1 0 = 1)
    ∧ (∃ (s : State), ∃ (n : Fin 4), ∃ (e : Ecc), ∃ (r : TrimRun), ∃ mis, e ≠ .uncorrectable ∧ (s.engine n).run = some r ∧ r.slot < 8 ∧ s.pageOn (Pg.TRIM n) = true ∧ s.pageOn Pg.TBU = true ∧ (mis = true ∨ s.fld (Adr.TRIM_CBUDGET n r.slot) 13 0 ≤ r.cyc))
    ∧ (∃ (s : State) (n : Fin 4) (e : Ecc) (r : TrimRun), e ≠ .uncorrectable ∧ (s.engine n).run = some r ∧ r.cyc < s.fld (Adr.TRIM_CBUDGET n r.slot) 13 0) :=
  ⟨⟨(poke up [(Adr.POWNER (Pg.TRIM 1), 1), (Adr.PCTRL (Pg.TRIM 1), 1), (Adr.TRIM_ESTAT 1, 0xC400), (Adr.TRIM_SETP0 1 2, 6), (Adr.TRIM_SETP0 1 2 + 12, 9), (Adr.TRIM_CBSEL 1 2, 1)]), 1, 2, .ok, by decide, by decide, by decide, by decide, by decide, by decide⟩,
   ⟨(engAt 1 ({ run0 with written := [0x20, 0x23, 3, 0x10], staged := [(3, 8#32), (0x10, 55#32), (0x20, 77#32)] }) (0) []), 1, .ok, (({ run0 with written := [0x20, 0x23, 3, 0x10], staged := [(3, 8#32), (0x10, 55#32), (0x20, 77#32)] })), ((BitVec.ofNat 32 (0))), 0, (.trEnd 1 .ok), by decide, by decide, by decide, by decide, by decide, by decide, by decide, by decide⟩,
   ⟨({ (engAt 1 ({ run0 with written := [0x20, 0x23, 3, 0x10], staged := [(3, 8#32), (0x10, 55#32), (0x20, 77#32)] }) (0) [(Adr.TRIM_CCFG 1 2, 0x10C000)] : State) with pwms := [(12, { Pwm.reset with last := [1#32, 2#32], sets := [(3, [4#32])] })] }), 1, .ok, (({ run0 with written := [0x20, 0x23, 3, 0x10], staged := [(3, 8#32), (0x10, 55#32), (0x20, 77#32)] })), ((BitVec.ofNat 32 (0))), by decide, by decide, by decide, by decide, by decide, by decide, by decide⟩,
   ⟨(engAt 1 ({ run0 with written := [0x20, 0x23, 3, 0x10], staged := [(3, 8#32), (0x10, 55#32), (0x20, 77#32)] }) (0) [(Adr.TRIM_SPTGT0 1 2, 0x80000000 + (Adr.TRIM_SETP0 2 5 + 8)), (Adr.PCTRL (Pg.TRIM 2), 1), (Adr.POWNER (Pg.TRIM 2), 2)]), 1, .ok, (({ run0 with written := [0x20, 0x23, 3, 0x10], staged := [(3, 8#32), (0x10, 55#32), (0x20, 77#32)] })), ((BitVec.ofNat 32 (0))), 2, 5, 1, (Adr.TRIM_SETP0 2 5 + 8), by decide, by decide, by decide, by decide, by decide, by decide, by decide, by decide, by decide, by decide, by decide⟩,
   ⟨(engAt 1 ({ run0 with written := [0x20, 0x23, 3, 0x10], staged := [(3, 8#32), (0x10, 55#32), (0x20, 77#32)] }) (1) []), 1, .ok, (({ run0 with written := [0x20, 0x23, 3, 0x10], staged := [(3, 8#32), (0x10, 55#32), (0x20, 77#32)] })), ((BitVec.ofNat 32 (1))), by decide, by decide, by decide⟩,
   ⟨(engAt 1 ({ run0 with cyc := 1000 }) (1) []), 1, .ok, (({ run0 with cyc := 1000 })), false, by decide, by decide, by decide, by decide, by decide, by decide⟩,
   ⟨(engAt 1 ({ run0 with written := [0x20, 0x23, 3, 0x10], staged := [(3, 8#32), (0x10, 55#32), (0x20, 77#32)] }) (1) []), 1, .ok, (({ run0 with written := [0x20, 0x23, 3, 0x10], staged := [(3, 8#32), (0x10, 55#32), (0x20, 77#32)] })), by decide, by decide, by decide⟩⟩

theorem witness_TrimContexts :
    (∃ (s : State) (n : Fin 4) (i : Fin 8) (port : Port), s.Owns port (Pg.TRIM n) ∧ s.refusalOf port (Adr.TRIM_CCTRL n i) .plain (s.withBits (Adr.TRIM_CCTRL n i) 1#32) = none ∧ s.cen n i = false ∧ s.enableCheck n i = 0)
    ∧ (∃ (s : State) (n : Fin 4) (i : Fin 8) (port : Port), s.Owns port (Pg.TRIM n) ∧ s.refusalOf port (Adr.TRIM_CCTRL n i) .plain (s.withBits (Adr.TRIM_CCTRL n i) 1#32) = none ∧ s.cen n i = false ∧ s.enableCheck n i ≠ 0)
    ∧ (∃ (s : State) (n : Fin 4) (i : Fin 8), s.flag (Adr.TRIM_CSTAT n i) 19 = true ∧ s.scanProgram n i = true)
    ∧ (∃ (s : State) (n : Fin 4) (i : Fin 8), s.flag (Adr.TRIM_CSTAT n i) 19 = true ∧ s.scanProgram n i = false ∧ s.pageOn (Pg.TRIM n) = true)
    ∧ (∃ (s : State) (n : Fin 4) (i : Fin 8) (port : Port), s.Owns port (Pg.TRIM n) ∧ s.refusalOf port (Adr.TRIM_CCTRL n i) .plain (s.withoutBits (Adr.TRIM_CCTRL n i) 1#32) = none ∧ s.cen n i = true)
    ∧ (∃ (s : State) (n : Fin 4) (i : Fin 8), (s.ctx (8 * n + i)).wdg = true ∧ s.fld (Adr.TRIM_CBUDGET n i) 31 16 ≠ 0 ∧ s.ctxSafe n i = true)
    ∧ (∃ (s : State) (n : Fin 4) (i : Fin 8), s.ctxSafe n i = false)
    ∧ (∃ (s : State) (n : Fin 4) (port : Port) (p : Nat), p < 4096 ∧ s.portLive port = true ∧ s.ownerPort (Pg.TRIM n) port = true ∧ s.progBusy n p = false)
    ∧ (∃ (s : State) (n : Fin 4) (port : Port) (p : Nat), p < 4096 ∧ s.portLive port = true ∧ s.ownerPort (Pg.TRIM n) port = true ∧ s.progBusy n p = true)
    ∧ (∃ (s : State) (n : Fin 4) (port : Port) (k : Nat), k < 1024 ∧ s.portLive port = true ∧ s.ownerPort (Pg.TRIM n) port = true ∧ s.fixLocked n k = false)
    ∧ (∃ (s : State) (n : Fin 4) (port : Port) (k : Nat), k < 1024 ∧ s.portLive port = true ∧ s.ownerPort (Pg.TRIM n) port = true ∧ s.fixLocked n k = true)
    ∧ (∃ (s : State), ∃ (n : Fin 4), ∃ (i : Fin 8), ∃ (rule : Fin 4), ∃ (port : Port), ∃ w, w = w32 (rule.val * 256 + i.val * 16 + 1) ∧ s.Owns port (Pg.TRIM n) ∧ s.refusalOf port (Adr.TRIM_TCTRL n) .plain w = none ∧ s.fld Adr.SHRD_STATE 1 0 = 2 ∧ (s.ctx (8 * n + i)).accepts = true ∧ s.flag (Adr.TRIM_CCFG n i) 22 = true ∧ (s.engine n).tuner = none ∧ ((rule.val = 3 → s.fld (Adr.TRIM_TCTRL n) 9 8 ≠ 3)))
    ∧ (∃ (s : State), ∃ (n : Fin 4), ∃ (i : Fin 8), ∃ (rule : Fin 4), ∃ (port : Port), ∃ w, w = w32 (rule.val * 256 + i.val * 16 + 1) ∧ s.Owns port (Pg.TRIM n) ∧ s.refusalOf port (Adr.TRIM_TCTRL n) .plain w = none ∧ s.fld Adr.SHRD_STATE 1 0 ≠ 2)
    ∧ (∃ (s : State), ∃ (n : Fin 4), ∃ (i : Fin 8), ∃ (rule : Fin 4), ∃ (port : Port), ∃ w, w = w32 (rule.val * 256 + i.val * 16 + 1) ∧ s.Owns port (Pg.TRIM n) ∧ s.refusalOf port (Adr.TRIM_TCTRL n) .plain w = none ∧ s.fld Adr.SHRD_STATE 1 0 = 2 ∧ ((s.ctx (8 * n + i)).accepts = false ∨ s.flag (Adr.TRIM_CCFG n i) 22 = false ∨ (s.engine n).tuner.isSome))
    ∧ (∃ (s : State), ∃ (n : Fin 4), ∃ (port : Port), ∃ u, s.Owns port (Pg.TRIM n) ∧ s.refusalOf port (Adr.TRIM_TCTRL n) .plain (s.withBits (Adr.TRIM_TCTRL n) 2#32) = none ∧ (s.engine n).tuner = some u ∧ u.failNext = 0)
    ∧ (∃ (s : State), ∃ (n : Fin 4), ∃ u, (s.engine n).tuner = some u ∧ u.failNext = 0)
    ∧ (∃ (s : State), ∃ (n : Fin 4), ∃ (i : Fin 8), ∃ u, ∃ x, s.pageOn (Pg.TRIM n) = true ∧ (s.engine n).run = none ∧ (s.engine n).tuner = some u ∧ u.slot = i.val ∧ u.failNext = x ∧ x ≠ 0 ∧ x < 16 ∧ lowestBit (s.reg (Adr.TRIM_ESTAT n) >>> 8) 8 = some i.val)
    ∧ (∃ (s : State) (port : Port), s.Owns port Pg.TSCH ∧ s.refusalOf port Adr.TSCH_CLR .plain 1#32 = none) :=
  ⟨⟨(poke up [(Adr.POWNER (Pg.TRIM 1), 1), (Adr.PCTRL (Pg.TRIM 1), 1), (Adr.TRIM_CBUDGET 1 7, 100), (Adr.TRIM_CPROG 1 7, 0x00030002)]), 1, 7, 0, by decide, by decide, by decide, by decide⟩,
   ⟨(poke up [(Adr.POWNER (Pg.TRIM 1), 1), (Adr.PCTRL (Pg.TRIM 1), 1)]), 1, 7, 0, by decide, by decide, by decide, by decide⟩,
   ⟨(lay (poke up [(Adr.POWNER (Pg.TRIM 1), 1), (Adr.PCTRL (Pg.TRIM 1), 1), (Adr.TRIM_CBUDGET 1 7, 100), (Adr.TRIM_CPROG 1 7, 0x00030002), (Adr.TRIM_CSTAT 1 7, 0x80000), (Adr.TRIM_SETP0 1 7, 0x80000005)]) [(progAddr 1 2, iw 8 0 0 0 0 0), (progAddr 1 3, iw 8 0 0 0 0 0), (progAddr 1 4, 0)]), 1, 7, by decide, by decide⟩,
   ⟨(lay (poke up [(Adr.POWNER (Pg.TRIM 1), 1), (Adr.PCTRL (Pg.TRIM 1), 1), (Adr.TRIM_CBUDGET 1 7, 100), (Adr.TRIM_CPROG 1 7, 0x00030002), (Adr.TRIM_CSTAT 1 7, 0x80000), (Adr.TRIM_CCTRL 1 7, 1)]) [(progAddr 1 4, iw 0x3F 0 0 0 0 0)]), 1, 7, by decide, by decide, by decide⟩,
   ⟨({ (poke up [(Adr.POWNER (Pg.TRIM 1), 1), (Adr.PCTRL (Pg.TRIM 1), 1), (Adr.TRIM_CBUDGET 1 7, 100), (Adr.TRIM_CPROG 1 7, 0x00030002), (Adr.TRIM_CCTRL 1 7, 1), (Adr.TRIM_CSTAT 1 7, 0x20000), (Adr.TRIM_ESTAT 1, 0x8000)] : State) with ctxs := [(15, { Ctx.reset with accepts := true, wdg := true, pendTime := 5 })] }), 1, 7, 0, by decide, by decide, by decide⟩,
   ⟨({ (poke up [(Adr.POWNER (Pg.TRIM 1), 1), (Adr.PCTRL (Pg.TRIM 1), 1), (Adr.TRIM_CBUDGET 1 7, 0x00050000), (Adr.TRIM_CCFG 1 7, 0x03FF0000)] : State) with ctxs := [(15, { Ctx.reset with accepts := true, wdg := true, pendTime := 5 })] }), 1, 7, by decide, by decide, by decide⟩,
   ⟨({ (poke up [(Adr.POWNER (Pg.TRIM 1), 1), (Adr.PCTRL (Pg.TRIM 1), 1)] : State) with ctxs := [(15, { Ctx.reset with accepts := true, wdg := true, pendTime := 5 })] }), 1, 7, by decide⟩,
   ⟨(poke up [(Adr.POWNER (Pg.TRIM 1), 1), (Adr.PCTRL (Pg.TRIM 1), 1)]), 1, 0, 4095, by decide, by decide, by decide, by decide⟩,
   ⟨(poke up [(Adr.POWNER (Pg.TRIM 1), 1), (Adr.PCTRL (Pg.TRIM 1), 1), (Adr.TRIM_CBUDGET 1 7, 100), (Adr.TRIM_CPROG 1 7, 0x00030002), (Adr.TRIM_CCTRL 1 7, 1)]), 1, 0, 4, by decide, by decide, by decide, by decide⟩,
   ⟨(poke up [(Adr.POWNER (Pg.TRIM 1), 1), (Adr.PCTRL (Pg.TRIM 1), 1), (Adr.TRIM_CFIX 1, 5)]), 1, 0, 1023, by decide, by decide, by decide, by decide⟩,
   ⟨(poke up [(Adr.POWNER (Pg.TRIM 1), 1), (Adr.PCTRL (Pg.TRIM 1), 1), (Adr.TRIM_CFIX 1, 5), (Adr.PCTRL (Pg.TRIM 1), 5)]), 1, 0, 4, by decide, by decide, by decide, by decide⟩,
   ⟨({ (poke up [(Adr.POWNER (Pg.TRIM 1), 1), (Adr.PCTRL (Pg.TRIM 1), 1), (Adr.SHRD_STATE, 2), (Adr.TRIM_CCFG 1 7, 0x400000)] : State) with ctxs := [(15, { Ctx.reset with accepts := true, wdg := true, pendTime := 5 })] }), 1, 7, 2, 0, (w32 (2 * 256 + 7 * 16 + 1)), by decide, by decide, by decide, by decide, by decide, by decide, by decide, by decide⟩,
   ⟨(poke up [(Adr.POWNER (Pg.TRIM 1), 1), (Adr.PCTRL (Pg.TRIM 1), 1), (Adr.SHRD_STATE, 1)]), 1, 7, 3, 0, (w32 (3 * 256 + 7 * 16 + 1)), by decide, by decide, by decide, by decide⟩,
   ⟨({ (poke up [(Adr.POWNER (Pg.TRIM 1), 1), (Adr.PCTRL (Pg.TRIM 1), 1), (Adr.SHRD_STATE, 2)] : State) with ctxs := [(15, { Ctx.reset with accepts := true, wdg := true, pendTime := 5 })] }), 1, 7, 3, 0, (w32 (3 * 256 + 7 * 16 + 1)), by decide, by decide, by decide, by decide, by decide⟩,
   ⟨({ (poke up [(Adr.POWNER (Pg.TRIM 1), 1), (Adr.PCTRL (Pg.TRIM 1), 1)] : State) with engines := [(1, { Engine.reset with tuner := some { slot := 7, rule := 1, y := none, lastUp := none, skipped := false, periods := [], emin := 0, emax := 0, firstT := 0, lastT := 0, runs := 0, failNext := 0 } })] }), 1, 0, (({ slot := 7, rule := 1, y := none, lastUp := none, skipped := false, periods := [], emin := 0, emax := 0, firstT := 0, lastT := 0, runs := 0, failNext := 0 } : Tuner)), by decide, by decide, by decide, by decide⟩,
   ⟨({ (poke up [(Adr.POWNER (Pg.TRIM 1), 1), (Adr.PCTRL (Pg.TRIM 1), 1)] : State) with engines := [(1, { Engine.reset with tuner := some { slot := 7, rule := 1, y := none, lastUp := none, skipped := false, periods := [], emin := 0, emax := 0, firstT := 0, lastT := 0, runs := 0, failNext := 0 } })] }), 1, (({ slot := 7, rule := 1, y := none, lastUp := none, skipped := false, periods := [], emin := 0, emax := 0, firstT := 0, lastT := 0, runs := 0, failNext := 0 } : Tuner)), by decide, by decide⟩,
   ⟨({ (poke up [(Adr.POWNER (Pg.TRIM 1), 1), (Adr.PCTRL (Pg.TRIM 1), 1), (Adr.TRIM_ESTAT 1, 0x8000)] : State) with engines := [(1, { Engine.reset with tuner := some { slot := 7, rule := 1, y := none, lastUp := none, skipped := false, periods := [], emin := 0, emax := 0, firstT := 0, lastT := 0, runs := 0, failNext := 7 } })] }), 1, 7, (({ slot := 7, rule := 1, y := none, lastUp := none, skipped := false, periods := [], emin := 0, emax := 0, firstT := 0, lastT := 0, runs := 0, failNext := 7 } : Tuner)), 7, by decide, by decide, by decide, by decide, by decide, by decide, by decide, by decide⟩,
   ⟨(poke up [(Adr.POWNER Pg.TSCH, 1), (Adr.TSCH_LAT 31, 5)]), 0, by decide, by decide⟩⟩

theorem witness_PwmUnits :
    (∃ (s : State), ∃ (u : Fin 16), ∃ at_, ∃ ws, ∃ rest, (s.pwm u).run = true ∧ u.val ≠ s.dcdcUnit ∧ ((u.val < 7 ∨ 9 < u.val)) ∧ ((∀ v : Nat, v < 16 → s.follows v u = false)) ∧ s.pageEn Pg.OBC = false ∧ s.pwmTripped u = false ∧ (s.pwm u).sets = (at_, ws) :: rest ∧ at_ + 4 ≤ s.now ∧ ws.length = 8)
    ∧ (∃ (s : State) (u : Fin 16), (s.pwm u).run = true ∧ u.val ≠ s.dcdcUnit ∧ ((u.val < 7 ∨ 9 < u.val)) ∧ ((∀ v : Nat, v < 16 → s.follows v u = false)) ∧ s.pageEn Pg.OBC = false ∧ s.pwmTripped u = false ∧ (s.pwm u).sets = [] ∧ s.pwmArmed u = true ∧ s.pageOn (Pg.PWM u) = true)
    ∧ (∃ (s : State) (u : Fin 16) (g : Fin 2), s.flag (Adr.PWM_EG u g) 21 = true ∧ s.pageEn (Pg.PWM u) = true ∧ s.pageOn (Pg.PWM u) = true ∧ (s.pwm u).run = true ∧ Store.get (fun _ => 0) (s.pwm u).eg g = 0)
    ∧ (∃ (s : State) (u : Fin 16), s.flag (Adr.PWM_TRIPCFG u) 0 = true ∧ s.tripA u = true ∧ s.pwmTripped u = false ∧ s.pageOn (Pg.PWM u) = true)
    ∧ (∃ (s : State) (u : Fin 16) (port : Port), s.Owns port (Pg.PWM u) ∧ s.refusalOf port (Adr.PWM_TRIPCLR u) .plain 1#32 = none ∧ s.pwmTripped u = true)
    ∧ (∃ (s : State) (u : Fin 16) (port : Port), s.Owns port (Pg.PWM u) ∧ s.refusalOf port (Adr.PWM_SWCOMMIT u) .plain 1#32 = none)
    ∧ (∃ (s : State), ∃ mv, s.pageOn Pg.LVDRV = true ∧ mv < 8500)
    ∧ (∃ (s : State), ∃ mv, s.pageOn Pg.LVDRV = true ∧ 9000 < mv) :=
  ⟨⟨(pwmAt 12 { Pwm.reset with run := true, count := 3, per := 5000, sets := [(900, [1#32, 2#32, 3#32, 4#32, 5#32, 6#32, 7#32, 8#32]), (800, [20#32, 21#32, 22#32, 23#32, 24#32, 25#32, 26#32, 27#32])] } []), 12, 900, ([1#32, 2#32, 3#32, 4#32, 5#32, 6#32, 7#32, 8#32]), ([(800, [20#32, 21#32, 22#32, 23#32, 24#32, 25#32, 26#32, 27#32])]), by decide, by decide, by decide, by decide, by decide, by decide, by decide, by decide, by decide⟩,
   ⟨(pwmAt 12 { Pwm.reset with run := true, count := 3, per := 5000 } [(Adr.PWM_STAT 12, 0x80000000)]), 12, by decide, by decide, by decide, by decide, by decide, by decide, by decide, by decide, by decide⟩,
   ⟨(pwmAt 12 { Pwm.reset with run := true, count := 3, per := 5000 } [(Adr.PWM_EG 12 1, 0x03200000)]), 12, 1, by decide, by decide, by decide, by decide, by decide⟩,
   ⟨(pwmAt 12 { Pwm.reset with run := true, count := 3, per := 5000, out := 255 } [(Adr.PWM_TRIPCFG 12, 1), (Adr.SDM_STAT 23, 8), (Adr.SDM_SCDROUTE 23, 0x1000)]), 12, by decide, by decide, by decide, by decide⟩,
   ⟨(pwmAt 12 { Pwm.reset with run := true, count := 3, per := 5000 } [(Adr.PWM_STAT 12, 0x40000000)]), 12, 0, by decide, by decide, by decide⟩,
   ⟨(pwmAt 12 { Pwm.reset with run := true, sets := [(5, [])] } [(Adr.PWM_SHD 12 7, 9)]), 12, 0, by decide, by decide⟩,
   ⟨up, 8499, by decide, by decide⟩,
   ⟨(poke { up with lvdrv := { Lv.reset with hold := 3 } } [(Adr.LVDRV_STAT, 1)]), 9001, by decide, by decide⟩⟩

theorem witness_GatesFollow :
    (∃ (s : State) (ch : Fin 36), s.groupBinds (groupOf ch) = true ∧ pathRuns (s.group (groupOf ch)).pathA = true ∧ s.groupLatch (groupOf ch) = false ∧ s.pageEn (Pg.GGRP (groupOf ch)) = true ∧ (s.chan ch).cmd = false ∧ (s.chan ch).supply = true ∧ (s.chan ch).uv = false ∧ (s.chan ch).b = .run ∧ s.ownLatch ch = false ∧ s.phase ch = 0 ∧ (s.chan ch).wait = false)
    ∧ (∃ (s : State) (ch : Fin 36), s.groupBinds (groupOf ch) = true ∧ pathRuns (s.group (groupOf ch)).pathA = true ∧ s.groupLatch (groupOf ch) = false ∧ s.pageEn (Pg.GGRP (groupOf ch)) = true ∧ (s.chan ch).cmd = true ∧ (s.chan ch).b = .run ∧ s.gateOn ch = true)
    ∧ (∃ (s : State) (ch : Fin 36), (s.chan ch).supply = true ∧ (s.chan ch).uv = false ∧ s.ownLatch ch = false ∧ s.reefing ch = false)
    ∧ (∃ (s : State) (ch : Fin 36), (s.chan ch).wait = true ∧ s.partnerLow ch = true ∧ s.reefing ch = false)
    ∧ (∃ (s : State) (ch : Fin 36), s.phase ch = 1)
    ∧ (∃ (s : State) (ch : Fin 36), s.phase ch = 2)
    ∧ (∃ (s : State) (ch : Fin 36), s.phase ch = 4 ∧ s.booster ch = false ∧ s.fld (Adr.GGRP_PROFOFF (groupOf ch) (posOf ch)) 31 24 ≠ 0)
    ∧ (∃ (s : State) (ch : Fin 36), s.phase ch = 5 ∧ s.wantsOn ch = false) :=
  ⟨⟨({ (grpAt 1 [(Adr.GGRP_CSTAT 1 1, 0x400)]) with chans := [(6, { Chan.reset with supply := true, b := .run })] }), 6, by decide, by decide, by decide, by decide, by decide, by decide, by decide, by decide, by decide, by decide, by decide⟩,
   ⟨({ (grpAt 1 [(Adr.GGRP_CSTAT 1 0, 3)]) with chans := [(6, { Chan.reset with supply := true, b := .run, cmd := true })] }), 6, by decide, by decide, by decide, by decide, by decide, by decide, by decide⟩,
   ⟨({ (grpAt 1 [(Adr.GGRP_SAFEOUT 1 0, 0), (Adr.GGRP_CSTAT 1 0, 0)]) with chans := [(6, { Chan.reset with supply := true, b := .run, cmd := true })] }), 6, by decide, by decide, by decide, by decide⟩,
   ⟨({ (grpAt 1 [(Adr.GGRP_CSTAT 1 1, 0x400)]) with chans := [(6, { Chan.reset with supply := true, b := .run, wait := true, cmd := true })] }), 6, by decide, by decide, by decide⟩,
   ⟨({ (grpAt 1 [(Adr.GGRP_CSTAT 1 0, 1)]) with chans := [(6, { Chan.reset with supply := true, b := .run, cmd := true })] }), 6, by decide⟩,
   ⟨({ (grpAt 1 [(Adr.GGRP_CSTAT 1 0, 2)]) with chans := [(6, { Chan.reset with supply := true, b := .run, cmd := true })] }), 6, by decide⟩,
   ⟨({ (grpAt 1 [(Adr.GGRP_CSTAT 1 0, 4), (Adr.GGRP_PROFOFF 1 0, 0x01010000)]) with chans := [(6, { Chan.reset with supply := true, b := .run })] }), 6, by decide, by decide, by decide⟩,
   ⟨({ (grpAt 1 [(Adr.GGRP_CSTAT 1 0, 5)]) with chans := [(6, { Chan.reset with supply := true, b := .run })] }), 6, by decide, by decide⟩⟩

theorem witness_GateFaults :
    (∃ (s : State) (ch : Fin 36), s.ownLatch ch = false ∧ (s.chan ch).hold = false ∧ s.gateOn ch = true)
    ∧ (∃ (s : State) (ch : Fin 36), s.ownLatch ch = false ∧ (s.chan ch).hold = false ∧ (s.chan ch).wait = true)
    ∧ (∃ (s : State) (ch : Fin 36), s.ownLatch ch = false ∧ (s.chan ch).hold = false ∧ (s.chan ch).supply = true)
    ∧ (∃ (s : State) (ch : Fin 36), s.reefing ch = true ∧ (s.group (groupOf ch)).clr = false ∧ s.ownLatch ch = true ∧ s.fld (cstat ch) 8 6 = 1 ∧ (s.chan ch).hold = false)
    ∧ (∃ (s : State) (g : Fin 6) (port : Port), s.Owns port (Pg.GGRP g) ∧ s.refusalOf port (Adr.GGRP_GCLR g) .plain 1#32 = none ∧ s.groupLatch g = true ∧ (∀ c ∈ chansOf g, s.reefing c = false))
    ∧ (∃ (s : State) (g : Fin 6) (port : Port), s.Owns port (Pg.GGRP g) ∧ s.refusalOf port (Adr.GGRP_GCLR g) .plain 1#32 = none ∧ s.groupLatch g = true ∧ (∃ c ∈ chansOf g, s.reefing c = true))
    ∧ (∃ (s : State), ∃ (ch : Fin 36), ∃ mv, (s.chan ch).supply = true ∧ (s.chan ch).uv = false ∧ mv < 13000 ∧ s.ownLatch ch = false ∧ (s.group (groupOf ch)).clr = false)
    ∧ (∃ (s : State), ∃ (ch : Fin 36), ∃ mv, (s.chan ch).supply = true ∧ (s.chan ch).uv = true ∧ 13800 < mv ∧ s.ownLatch ch = true)
    ∧ (∃ (s : State) (ch : Fin 36), (s.chan ch).supply = true)
    ∧ (∃ (s : State) (g : Fin 6) (port : Port), s.Owns port (Pg.GGRP g) ∧ s.refusalOf port (Adr.GGRP_STCTRL g) .plain 1#32 = none ∧ s.pageEn (Pg.GGRP g) = false ∧ s.domOn (islandDom g) = true)
    ∧ (∃ (s : State) (g : Fin 6), s.flag (Adr.GGRP_GSTAT g) 7 = true) :=
  ⟨⟨({ (grpAt 1 [(Adr.GGRP_CSTAT 1 0, 3), (Adr.GGRP_CSTAT 1 4, 2)]) with chans := [(6, { Chan.reset with supply := true, b := .run, cmd := true })] }), 6, by decide, by decide, by decide⟩,
   ⟨({ (grpAt 1 []) with chans := [(6, { Chan.reset with supply := true, b := .run, cmd := true, wait := true })] }), 6, by decide, by decide, by decide⟩,
   ⟨({ (grpAt 1 [(Adr.GGRP_CSTAT 1 0, 3)]) with chans := [(6, { Chan.reset with supply := true, b := .run, cmd := true })] }), 6, by decide, by decide, by decide⟩,
   ⟨({ (grpAt 1 [(Adr.GGRP_CSTAT 1 0, 0x46), (Adr.GGRP_GSTAT 1, 0x00010100)]) with chans := [(6, { Chan.reset with supply := true, b := .run, cmd := true })] }), 6, by decide, by decide, by decide, by decide, by decide⟩,
   ⟨({ (grpAt 1 [(Adr.GGRP_CSTAT 1 0, 0x40), (Adr.GGRP_GSTAT 1, 0x00010100)]) with chans := [(6, { Chan.reset with supply := true, b := .run, cmd := true })] }), 1, 0, by decide, by decide, by decide, by decide⟩,
   ⟨({ (grpAt 1 [(Adr.GGRP_CSTAT 1 0, 0x46), (Adr.GGRP_GSTAT 1, 0x00010100)]) with chans := [(6, { Chan.reset with supply := true, b := .run, cmd := true })] }), 1, 0, by decide, by decide, by decide, by decide⟩,
   ⟨({ (grpAt 1 [(Adr.GGRP_CSTAT 1 0, 3)]) with chans := [(6, { Chan.reset with supply := true, b := .run, cmd := true })] }), 6, 12999, by decide, by decide, by decide, by decide, by decide⟩,
   ⟨({ (grpAt 1 [(Adr.GGRP_GSTAT 1, 0x00010000), (Adr.GGRP_CSTAT 1 0, 0x88)]) with chans := [(6, { Chan.reset with supply := true, b := .run, uv := true, cmd := true })] }), 6, 13801, by decide, by decide, by decide, by decide⟩,
   ⟨({ (grpAt 1 [(Adr.GGRP_MISC 1 0, 0x9600)]) with chans := [(6, { Chan.reset with supply := true, b := .run })] }), 6, by decide⟩,
   ⟨(grpAt 1 [(Adr.PCTRL (Pg.GGRP 1), 0)]), 1, 0, by decide, by decide, by decide, by decide⟩,
   ⟨(grpAt 1 [(Adr.PCTRL (Pg.GGRP 1), 0), (Adr.GGRP_GSTAT 1, 0x80)]), 1, by decide⟩⟩

theorem witness_Conversions :
    (∃ (s : State) (port : Port) (n : Fin 8), s.Owns port (Pg.ADC n) ∧ s.refusalOf port (Adr.ADC_SEQSTART n) .plain 1#32 = none ∧ s.pageEn (Pg.ADC n) = true ∧ s.adcBusy n = false)
    ∧ (∃ (s : State) (port : Port) (n : Fin 8), s.Owns port (Pg.ADC n) ∧ s.refusalOf port (Adr.ADC_SEQSTART n) .plain 1#32 = none ∧ s.pageEn (Pg.ADC n) = true ∧ s.adcBusy n = true)
    ∧ (∃ (s : State) (n : Fin 8) (m : Nat) (i : Nat), s.adcBusy n = true ∧ s.fld (Adr.ADC_SEQSTAT n) 3 0 = m ∧ bits (nthD 0#32 (s.adc n).slots m) 5 0 = i ∧ i < 24 ∧ s.pageOn (Pg.ADC n) = true)
    ∧ (∃ (s : State) (n : Fin 8) (m : Nat) (h : Fin 7), s.adcBusy n = true ∧ s.fld (Adr.ADC_SEQSTAT n) 3 0 = m ∧ bits (nthD 0#32 (s.adc n).slots m) 5 0 = 24 + h.val ∧ s.hvsRuns h = true ∧ (s.word (0xA0 + h)).time ≠ s.now - 96)
    ∧ (∃ (s : State), ∃ (d : Fin 24), ∃ x, s.pageEn (Pg.SDM d) = true ∧ s.pageOn (Pg.SDM d) = true ∧ s.flag (Adr.SDM_STAT d) 2 = false ∧ s.flag (Adr.SDM_STAT d) 1 = false ∧ ((s.flag (Adr.SDM_CFG d) 18 = true → (s.sdm d).window.isSome = true)) ∧ x = s.sdmStart d + s.sdmSpan d / 2)
    ∧ (∃ (s : State), ∃ (d : Fin 24), ∃ stuck, s.pageEn (Pg.SDM d) = true ∧ s.pageOn (Pg.SDM d) = true ∧ s.flag (Adr.SDM_STAT d) (1 + stuck.toNat) = false ∧ ((stuck = true ∨ (s.mclk d).2 = false)))
    ∧ (∃ (s : State), ∃ (d : Fin 24), ∃ count, s.scdRuns d = true ∧ s.pageOn (Pg.SDM d) = true ∧ s.flag (Adr.SDM_STAT d) 3 = false ∧ (s.fld (Adr.SDM_SCD d) 21 16 < count ∨ count < s.fld (Adr.SDM_SCD d) 13 8))
    ∧ (∃ (s : State), ∃ (d : Fin 24), ∃ count, count ≤ s.fld (Adr.SDM_SCD d) 21 16 ∧ s.fld (Adr.SDM_SCD d) 13 8 ≤ count)
    ∧ (∃ (s : State), s.pageOn Pg.HK = true)
    ∧ (∃ (s : State), s.pageOn Pg.HK = true)
    ∧ (∃ (s : State) (j : Fin 9), s.pageOn Pg.HK = true ∧ s.flag (Adr.HK_SUP j) 18 = true)
    ∧ (∃ (s : State), ∃ (j : Fin 9), ∃ ok, s.pageOn Pg.HK = true ∧ (s.flag (Adr.HK_SUP j) 18 = false ∨ ok = false)) :=
  ⟨⟨(poke up [(Adr.POWNER (Pg.ADC 7), 1), (Adr.PCTRL (Pg.ADC 7), 1), (Adr.ADC_SEQCFG 7, 15), (Adr.ADC_SLOT 7 15, 9)]), 0, 7, by decide, by decide, by decide, by decide⟩,
   ⟨(poke up [(Adr.POWNER (Pg.ADC 7), 1), (Adr.PCTRL (Pg.ADC 7), 1), (Adr.ADC_SEQSTAT 7, 0x15)]), 0, 7, by decide, by decide, by decide, by decide⟩,
   ⟨({ (poke up [(Adr.POWNER (Pg.ADC 7), 1), (Adr.PCTRL (Pg.ADC 7), 1), (Adr.ADC_SEQSTAT 7, 0x15)]) with adcs := [(7, { last := 15, slots := List.replicate 16 23#32 })] }), 7, 5, 23, by decide, by decide, by decide, by decide, by decide⟩,
   ⟨({ (poke up [(Adr.POWNER (Pg.ADC 7), 1), (Adr.PCTRL (Pg.ADC 7), 1), (Adr.ADC_SEQSTAT 7, 0x15), (Adr.HVS_CHEN, 0x40), (Adr.HVS_STAT, 0x40)]) with adcs := [(7, { last := 15, slots := List.replicate 16 30#32 })] }), 7, 5, 6, by decide, by decide, by decide, by decide, by decide⟩,
   ⟨(poke up [(Adr.POWNER (Pg.SDM 23), 1), (Adr.PCTRL (Pg.SDM 23), 1)]), 23, ((poke up [(Adr.POWNER (Pg.SDM 23), 1), (Adr.PCTRL (Pg.SDM 23), 1)]).sdmStart (23 : Fin 24) + (poke up [(Adr.POWNER (Pg.SDM 23), 1), (Adr.PCTRL (Pg.SDM 23), 1)]).sdmSpan (23 : Fin 24) / 2), by decide, by decide, by decide, by decide, by decide, by decide⟩,
   ⟨(poke up [(Adr.POWNER (Pg.SDM 23), 1), (Adr.PCTRL (Pg.SDM 23), 1)]), 23, true, by decide, by decide, by decide, by decide⟩,
   ⟨(poke up [(Adr.POWNER (Pg.SDM 23), 1), (Adr.PCTRL (Pg.SDM 23), 1), (Adr.SDM_SCD 23, 0x80100800), (Adr.SDM_SCDROUTE 23, 0x8001), (Adr.PWM_TRIPCFG 15, 1), (Adr.PCTRL (Pg.PWM 15), 1)]), 23, 17, by decide, by decide, by decide, by decide⟩,
   ⟨(poke up [(Adr.POWNER (Pg.SDM 23), 1), (Adr.PCTRL (Pg.SDM 23), 1), (Adr.SDM_SCD 23, 0x80100800), (Adr.SDM_STAT 23, 8)]), 23, 16, by decide, by decide⟩,
   ⟨(poke up [(Adr.POWNER (Pg.HK), 1), (Adr.PCTRL (Pg.HK), 1)]), by decide⟩,
   ⟨(poke up [(Adr.POWNER (Pg.HK), 1), (Adr.PCTRL (Pg.HK), 1)]), by decide⟩,
   ⟨(poke up [(Adr.POWNER (Pg.HK), 1), (Adr.PCTRL (Pg.HK), 1), (Adr.HK_SUP 2, 0x60000)]), 2, by decide, by decide⟩,
   ⟨(poke up [(Adr.POWNER (Pg.HK), 1), (Adr.PCTRL (Pg.HK), 1), (Adr.HK_SUP 2, 0x60000)]), 2, false, by decide, by decide⟩⟩

theorem witness_Comparators :
    (∃ (s : State) (k : Fin 32) (x : Int), s.pageOn (Pg.CMPB (k / 4)) = true ∧ (s.cmp k).running = true ∧ s.flag (cmpStat k) 2 = false ∧ s.cmpState k ≠ 2 ∧ s.cmpAt k x = 2 ∧ s.pageEn Pg.OBC = false)
    ∧ (∃ (s : State) (k : Fin 32) (x : Int), s.pageOn (Pg.CMPB (k / 4)) = true ∧ (s.cmp k).running = true ∧ s.flag (cmpStat k) 2 = false ∧ s.cmpAt k x = 1 ∧ (s.cmpState k = 0 ∨ (s.cmpState k = 2 ∧ s.flag (cmpCfg k) 8 = false)))
    ∧ (∃ (s : State) (k : Fin 32), s.pageOn (Pg.CMPB (k / 4)) = true ∧ (s.cmp k).running = true ∧ s.cmpState k = 2 ∧ s.flag (cmpCfg k) 8 = true)
    ∧ (∃ (s : State) (k : Fin 32), s.pageOn (Pg.CMPB (k / 4)) = true ∧ s.flag (cmpStat k) 2 = true ∧ (s.cmp k).mark = true ∧ s.pageEn Pg.OBC = false)
    ∧ (∃ (s : State) (k : Fin 32), s.pageOn (Pg.CMPB (k / 4)) = true ∧ s.flag (cmpStat k) 2 = true ∧ (s.cmp k).mark = false)
    ∧ (∃ (s : State) (k : Fin 32) (x : Int) (port : Port), s.pageOn (Pg.CMPB (k / 4)) = true ∧ s.Owns port (Pg.CMPB (k / 4)) ∧ s.refusalOf port (Adr.CMPB_CLR (k / 4) (k % 4)) .plain 1#32 = none ∧ (s.cmp k).running = true ∧ s.flag (cmpStat k) 2 = false ∧ s.cmpState k = 2 ∧ s.flag (cmpCfg k) 8 = true ∧ s.cmpAt k x = 1)
    ∧ (∃ (s : State) (k : Fin 32) (x : Int) (port : Port), s.pageOn (Pg.CMPB (k / 4)) = true ∧ s.Owns port (Pg.CMPB (k / 4)) ∧ s.refusalOf port (Adr.CMPB_CLR (k / 4) (k % 4)) .plain 1#32 = none ∧ (s.cmp k).running = true ∧ s.flag (cmpStat k) 2 = false ∧ s.cmpState k = 2 ∧ s.flag (cmpCfg k) 8 = true ∧ s.cmpAt k x ≠ 1) :=
  ⟨⟨({ (poke up [(Adr.POWNER (Pg.CMPB 7), 1), (Adr.PCTRL (Pg.CMPB 7), 1), (Adr.CMPB_THR 7 2, 0x02000100), (Adr.CMPB_HYS 7 2, 0x00050000), (Adr.CMPB_ROUTE 7 2, 0x8001), (Adr.PWM_TRIPCFG 15, 1), (Adr.CMPB_CFG 7 2, 0)]) with cmps := [(30, { Cmp.reset with running := true })] }), 30, 131073, by decide, by decide, by decide, by decide, by decide, by decide⟩,
   ⟨({ (poke up [(Adr.POWNER (Pg.CMPB 7), 1), (Adr.PCTRL (Pg.CMPB 7), 1), (Adr.CMPB_THR 7 2, 0x02000100), (Adr.CMPB_HYS 7 2, 0x00050000), (Adr.CMPB_CFG 7 2, 0)]) with cmps := [(30, { Cmp.reset with running := true })] }), 30, 129791, by decide, by decide, by decide, by decide, by decide⟩,
   ⟨({ (poke up [(Adr.POWNER (Pg.CMPB 7), 1), (Adr.PCTRL (Pg.CMPB 7), 1), (Adr.CMPB_THR 7 2, 0x02000100), (Adr.CMPB_HYS 7 2, 0x00050000), (Adr.CMPB_CFG 7 2, 0x100), (Adr.CMPB_STAT 7 2, 0xA)]) with cmps := [(30, { Cmp.reset with running := true })] }), 30, by decide, by decide, by decide, by decide⟩,
   ⟨({ (poke up [(Adr.POWNER (Pg.CMPB 7), 1), (Adr.PCTRL (Pg.CMPB 7), 1), (Adr.CMPB_THR 7 2, 0x02000100), (Adr.CMPB_HYS 7 2, 0x00050000), (Adr.CMPB_STAT 7 2, 4), (Adr.CMPB_ROUTE 7 2, 1), (Adr.PWM_TRIPCFG 0, 1)]) with cmps := [(30, { Cmp.reset with running := true, mark := true })] }), 30, by decide, by decide, by decide, by decide⟩,
   ⟨({ (poke up [(Adr.POWNER (Pg.CMPB 7), 1), (Adr.PCTRL (Pg.CMPB 7), 1), (Adr.CMPB_THR 7 2, 0x02000100), (Adr.CMPB_HYS 7 2, 0x00050000), (Adr.CMPB_STAT 7 2, 5)]) with cmps := [(30, { Cmp.reset with running := true })] }), 30, by decide, by decide, by decide⟩,
   ⟨({ (poke up [(Adr.POWNER (Pg.CMPB 7), 1), (Adr.PCTRL (Pg.CMPB 7), 1), (Adr.CMPB_THR 7 2, 0x02000100), (Adr.CMPB_HYS 7 2, 0x00050000), (Adr.CMPB_CFG 7 2, 0x100), (Adr.CMPB_STAT 7 2, 0xA)]) with cmps := [(30, { Cmp.reset with running := true })] }), 30, 0, 0, by decide, by decide, by decide, by decide, by decide, by decide, by decide, by decide⟩,
   ⟨({ (poke up [(Adr.POWNER (Pg.CMPB 7), 1), (Adr.PCTRL (Pg.CMPB 7), 1), (Adr.CMPB_THR 7 2, 0x02000100), (Adr.CMPB_HYS 7 2, 0x00050000), (Adr.CMPB_CFG 7 2, 0x100), (Adr.CMPB_STAT 7 2, 0xA)]) with cmps := [(30, { Cmp.reset with running := true })] }), 30, 1000000000, 0, by decide, by decide, by decide, by decide, by decide, by decide, by decide, by decide⟩⟩

theorem witness_PositionEdges :
    (∃ (s : State) (n : Fin 4), s.twlRuns n = false)
    ∧ (∃ (s : State) (n : Fin 4) (a : Bool) (b : Bool) (d : Int) (p : Int) (stamp : Nat), (s.twlRuns n = true) ∧ ((if s.flag (Adr.TWL_CFG n) 0 then (s.twl n).a ≠ a else ((s.twl n).a ≠ a ↔ (s.twl n).b = b))) ∧ ((s.twl n).raw = 0) ∧ (s.tw n 10 = false) ∧ (d = (if s.flag (Adr.TWL_CFG n) 0 then (if s.flag (Adr.TWL_CFG n) 3 then -1 else 1)
      else if (if (s.twl n).a ≠ a then a != b else a == b) ≠ s.flag (Adr.TWL_CFG n) 4 then 1 else -1)) ∧ (p = (s.twl n).pos + d) ∧ (stamp = s.now - 6 * s.fld (Adr.TWL_CFG n) 13 8) ∧ ((a = true → (s.twl n).a = false → (s.twl n).rawRev = decide (d < 0) →
      gapTest (s.flag (Adr.TWL_CFG n) 2) (s.fld (Adr.TWL_CFG n) 31 24) ((stamp :: (s.twl n).rises).take 3) = false)))
    ∧ (∃ (s : State) (n : Fin 4) (a : Bool) (b : Bool), s.twlRuns n = true ∧ s.flag (Adr.TWL_CFG n) 0 = false ∧ (s.twl n).a ≠ a ∧ (s.twl n).b ≠ b ∧ s.pageOn (Pg.TWL n) = true)
    ∧ (∃ (s : State) (n : Fin 4) (a : Bool) (b : Bool), s.twlRuns n = true ∧ s.flag (Adr.TWL_CFG n) 0 = false ∧ s.flag (Adr.TWL_CFG n) 2 = false ∧ (s.twl n).a = false ∧ a = true ∧ (s.twl n).b = b ∧ (a != b) ≠ s.flag (Adr.TWL_CFG n) 4 ∧ (s.twl n).rawRev = false ∧ (s.twl n).raw = 0 ∧ 0 < s.twlN n ∧ s.pageOn (Pg.TWL n) = true ∧ gapTest false (s.fld (Adr.TWL_CFG n) 31 24) (((s.now - 6 * s.fld (Adr.TWL_CFG n) 13 8) :: (s.twl n).rises).take 3) = true)
    ∧ (∃ (s : State) (n : Fin 4), s.twlRuns n = true ∧ s.pageOn (Pg.TWL n) = true)
    ∧ (∃ (s : State) (n : Fin 4), (s.twl n).rest = true ∧ (s.twl n).restDue = false ∧ s.tw n 10 = true ∧ s.flag (Adr.TWL_CTRL n) 0 = false)
    ∧ (∃ (s : State) (n : Fin 4), ((s.twl n).rest = false ∨ (s.twl n).restDue = true))
    ∧ (∃ (s : State) (k : Fin 3) (code : BitVec 3), s.pageOn Pg.HALL = true ∧ code.toNat = (s.hall k).code)
    ∧ (∃ (s : State) (k : Fin 3) (code : BitVec 3) (f : Nat) (sec : Nat) (old : Nat) (stamp : Nat), (s.pageOn Pg.HALL = true) ∧ (code.toNat ≠ (s.hall k).code) ∧ (s.pageEn Pg.HALL = true) ∧ (s.flag (Adr.HALL_CFG k) 0 = true) ∧ (s.pageEn (Pg.ACT k) = false) ∧ (hallSector code.toNat = some f) ∧ (sec = (if s.flag (Adr.HALL_CFG k) 1 then 5 - f else f)) ∧ (old = s.fld (Adr.HALL_STAT k) 2 0) ∧ (stamp = s.now - 6 * s.fld (Adr.HALL_CFG k) 13 8) ∧ (sec = (old + 1) % 6 ∨ old = (sec + 1) % 6))
    ∧ (∃ (s : State) (k : Fin 3) (code : BitVec 3) (f : Nat) (sec : Nat) (old : Nat) (stamp : Nat), (s.pageOn Pg.HALL = true) ∧ (code.toNat ≠ (s.hall k).code) ∧ (s.pageEn Pg.HALL = true) ∧ (s.flag (Adr.HALL_CFG k) 0 = true) ∧ (s.pageEn (Pg.ACT k) = false) ∧ (hallSector code.toNat = some f) ∧ (sec = (if s.flag (Adr.HALL_CFG k) 1 then 5 - f else f)) ∧ (old = s.fld (Adr.HALL_STAT k) 2 0) ∧ (stamp = s.now - 6 * s.fld (Adr.HALL_CFG k) 13 8) ∧ (sec ≠ (old + 1) % 6) ∧ (old ≠ (sec + 1) % 6) ∧ (sec ≠ old))
    ∧ (∃ (s : State) (k : Fin 3) (code : BitVec 3), s.pageOn Pg.HALL = true ∧ code.toNat ≠ (s.hall k).code ∧ s.pageEn Pg.HALL = true ∧ s.flag (Adr.HALL_CFG k) 0 = true ∧ s.pageEn (Pg.ACT k) = false ∧ (code = 0#3 ∨ code = 7#3))
    ∧ (∃ (s : State) (k : Fin 3) (code : BitVec 3) (f : Nat) (sec : Nat) (old : Nat) (d : Int), (s.pageOn Pg.HALL = true) ∧ (code.toNat ≠ (s.hall k).code) ∧ (s.pageEn Pg.HALL = true) ∧ (s.flag (Adr.HALL_CFG k) 0 = true) ∧ (s.pageEn (Pg.ACT k) = true) ∧ (s.actState k = 0) ∧ (hallSector code.toNat = some f) ∧ (sec = (if s.flag (Adr.HALL_CFG k) 1 then 5 - f else f)) ∧ (old = s.fld (Adr.HALL_STAT k) 2 0) ∧ ((sec = (old + 1) % 6 ∧ d = 1) ∨ (old = (sec + 1) % 6 ∧ d = -1))) :=
  ⟨⟨(poke up []), 3, by decide⟩,
   ⟨({ (poke up [(Adr.POWNER (Pg.TWL 3), 1), (Adr.PCTRL (Pg.TWL 3), 1), (Adr.TWL_STAT 3, 1), (Adr.TWL_CFG 3, 0), (Adr.TWL_WHEEL 3, 0x023A003C), (Adr.TWL_WHEEL 3, 60)]) with twls := [(3, { Twl.reset with run := true, pos := 5, net := 32767 })] }), 3, true, false, 1, 6, 1000, by decide, by decide, by decide, by decide, by decide, by decide, by decide, by decide⟩,
   ⟨({ (poke up [(Adr.POWNER (Pg.TWL 3), 1), (Adr.PCTRL (Pg.TWL 3), 1), (Adr.TWL_STAT 3, 1), (Adr.TWL_CFG 3, 0), (Adr.TWL_WHEEL 3, 0x023A003C), (Adr.TWL_WHEEL 3, 60)]) with twls := [(3, { Twl.reset with run := true })] }), 3, true, true, by decide, by decide, by decide, by decide, by decide⟩,
   ⟨({ (poke up [(Adr.POWNER (Pg.TWL 3), 1), (Adr.PCTRL (Pg.TWL 3), 1), (Adr.TWL_STAT 3, 1), (Adr.TWL_CFG 3, 0), (Adr.TWL_CFG 3, 0x14000000), (Adr.TWL_WHEEL 3, 0x3C)]) with twls := [(3, { Twl.reset with run := true, net := 5, rises := [700, 600] })] }), 3, true, false, by decide, by decide, by decide, by decide, by decide, by decide, by decide, by decide, by decide, by decide, by decide, by decide⟩,
   ⟨({ (poke up [(Adr.POWNER (Pg.TWL 3), 1), (Adr.PCTRL (Pg.TWL 3), 1), (Adr.TWL_STAT 3, 1), (Adr.TWL_CFG 3, 0), (Adr.TWL_SPEED 3, 5), (Adr.TWL_STAT 3, 0x181)]) with twls := [(3, { Twl.reset with run := true })] }), 3, by decide, by decide⟩,
   ⟨({ (poke up [(Adr.POWNER (Pg.TWL 3), 1), (Adr.PCTRL (Pg.TWL 3), 1), (Adr.TWL_STAT 3, 1), (Adr.TWL_CFG 3, 0), (Adr.TWL_STAT 3, 0x401), (Adr.TWL_WHEEL 3, 60)]) with twls := [(3, { Twl.reset with run := true, rest := true, pos := 5, raw := -9 })] }), 3, by decide, by decide, by decide, by decide⟩,
   ⟨({ (poke up [(Adr.POWNER (Pg.TWL 3), 1), (Adr.PCTRL (Pg.TWL 3), 1), (Adr.TWL_STAT 3, 1), (Adr.TWL_CFG 3, 0)]) with twls := [(3, { Twl.reset with run := true, rest := true, restDue := true })] }), 3, by decide⟩,
   ⟨({ (poke up [(Adr.POWNER (Pg.HALL), 1), (Adr.PCTRL (Pg.HALL), 1), (Adr.HALL_CFG 2, 1)]) with halls := [(2, { code := 1, lastAdj := none })] }), 2, 1#3, by decide, by decide⟩,
   ⟨({ (poke up [(Adr.POWNER (Pg.HALL), 1), (Adr.PCTRL (Pg.HALL), 1), (Adr.HALL_CFG 2, 1), (Adr.HALL_STAT 2, 5)]) with halls := [(2, { code := 5, lastAdj := none })] }), 2, 1#3, 0, 0, 5, 1000, by decide, by decide, by decide, by decide, by decide, by decide, by decide, by decide, by decide, by decide⟩,
   ⟨({ (poke up [(Adr.POWNER (Pg.HALL), 1), (Adr.PCTRL (Pg.HALL), 1), (Adr.HALL_CFG 2, 1), (Adr.HALL_STAT 2, 2)]) with halls := [(2, { code := 2, lastAdj := none })] }), 2, 1#3, 0, 0, 2, 1000, by decide, by decide, by decide, by decide, by decide, by decide, by decide, by decide, by decide, by decide, by decide, by decide⟩,
   ⟨({ (poke up [(Adr.POWNER (Pg.HALL), 1), (Adr.PCTRL (Pg.HALL), 1), (Adr.HALL_CFG 2, 1), (Adr.HALL_STAT 2, 9)]) with halls := [(2, { code := 1, lastAdj := none })] }), 2, 0#3, by decide, by decide, by decide, by decide, by decide, by decide⟩,
   ⟨({ (poke up [(Adr.POWNER (Pg.HALL), 1), (Adr.PCTRL (Pg.HALL), 1), (Adr.HALL_CFG 2, 1), (Adr.HALL_STAT 2, 5), (Adr.PCTRL (Pg.ACT 2), 1)]) with halls := [(2, { code := 5, lastAdj := none })] }), 2, 1#3, 0, 0, 5, 1, by decide, by decide, by decide, by decide, by decide, by decide, by decide, by decide, by decide, by decide⟩⟩

theorem witness_Converter :
    (∃ (s : State) (port : Port), s.pageOn Pg.DCDC = true ∧ s.Owns port Pg.DCDC ∧ s.refusalOf port Adr.DCDC_CMD .plain 1#32 = none ∧ s.dcdcState = 0 ∧ s.dcdcRefusal = 0)
    ∧ (∃ (s : State) (port : Port), s.pageOn Pg.DCDC = true ∧ s.Owns port Pg.DCDC ∧ s.refusalOf port Adr.DCDC_CMD .plain 1#32 = none ∧ s.dcdcState = 0 ∧ s.dcdcRefusal ≠ 0)
    ∧ (∃ (s : State) (port : Port), s.pageOn Pg.DCDC = true ∧ s.Owns port Pg.DCDC ∧ s.refusalOf port Adr.DCDC_CMD .plain 2#32 = none ∧ s.dcdcState ≠ 4)
    ∧ (∃ (s : State), s.pageOn Pg.DCDC = true ∧ s.dcdcState = 2 ∧ s.dcdcVout.valid = true ∧ 5 * s.dcdcFine s.dcdcVout.value < s.fld Adr.DCDC_VSET 15 0 * 600000)
    ∧ (∃ (s : State), s.pageOn Pg.DCDC = true ∧ s.dcdcState = 3 ∧ s.dcdcRefusal = 0)
    ∧ (∃ (s : State), s.pageOn Pg.DCDC = true ∧ s.dcdcState = 3 ∧ s.dcdcRefusal ≠ 0)
    ∧ (∃ (s : State), s.pageOn Pg.DCDC = true ∧ s.dcdcState = 2 ∧ s.dcdcVout.valid = true ∧ 9 * s.fld Adr.DCDC_VSET 15 0 * 600000 ≤ 10 * s.dcdcFine s.dcdcVout.value)
    ∧ (∃ (s : State) (port : Port), s.pageOn Pg.DCDC = true ∧ s.Owns port Pg.DCDC ∧ s.refusalOf port (Adr.PFAULT Pg.DCDC) .plain 1#32 = none ∧ s.dcdcState = 4)
    ∧ (∃ (s : State), s.pageOn Pg.DCDC = true ∧ s.pageEn Pg.DCDC = true ∧ s.flag Adr.DCDC_CFG 24 = true ∧ s.dcdc.edge = none)
    ∧ (∃ (s : State), ∃ e, s.pageOn Pg.DCDC = true ∧ s.pageEn Pg.DCDC = true ∧ s.flag Adr.DCDC_CFG 24 = true ∧ s.dcdc.edge = some e ∧ e + 3000 ≤ s.now ∧ s.now ≤ e + 7500 ∧ (s.dcdc.interval = 0 ∨ (20 * ((s.now : Int) - e - s.dcdc.interval)).natAbs ≤ s.dcdc.interval))
    ∧ (∃ (s : State), s.pageOn Pg.DCDC = true ∧ s.dcdcSynced = true ∧ s.dcdc.missing < 2)
    ∧ (∃ (s : State), s.pageOn Pg.DCDC = true ∧ s.dcdcSynced = true ∧ 2 ≤ s.dcdc.missing ∧ s.flag Adr.DCDC_STAT 9 = true)
    ∧ (∃ (s : State) (k : Fin 4), s.pageOn Pg.DCDC = true ∧ s.dcdcState = 2 ∧ s.flag Adr.DCDC_CFG 25 = true ∧ s.flag Adr.DCDC_STAT 11 = false ∧ s.fld Adr.DCDC_CFG 17 16 + 1 < s.dcdcCount ∧ 256 * s.dcdcTotal < ((s.dcdcCount - 1 : Nat) : Int) * (s.reg Adr.DCDC_IPH).toInt * s.fld Adr.DCDC_SHED 7 0 ∧ s.dcdcAct.testBit k = true ∧ ((∀ j : Fin 4, k < j → s.dcdcAct.testBit j = false)))
    ∧ (∃ (s : State), s.pageOn Pg.DCDC = true ∧ s.dcdcRuns = true)
    ∧ (∃ (s : State), s.pageOn Pg.DCDC = true ∧ s.dcdcRuns = false) :=
  ⟨⟨(dcAt 0 { Dcdc.reset with badV := 2 } [(Adr.DCDC_TRIM 3, 9)] ⟨0x20000000#32, true, 5⟩), 0, by decide, by decide, by decide, by decide, by decide⟩,
   ⟨(dcAt 0 { Dcdc.reset with vref := 7 } [(Adr.DCDC_CFG, 0x00050143)] ⟨0x20000000#32, true, 5⟩), 0, by decide, by decide, by decide, by decide, by decide⟩,
   ⟨(dcAt 0x000F2202 { Dcdc.reset with vref := 7 } [] ⟨0x20000000#32, true, 5⟩), 0, by decide, by decide, by decide, by decide⟩,
   ⟨(dcAt 0xF0002 { Dcdc.reset with vref := 7 } [] ⟨0x00000005#32, true, 5⟩), by decide, by decide, by decide, by decide⟩,
   ⟨(dcAt 0x1003 { Dcdc.reset with vref := 7 } [] ⟨0x20000000#32, true, 5⟩), by decide, by decide, by decide⟩,
   ⟨(dcAt 0x1003 { Dcdc.reset with vref := 7 } [] ⟨0#32, false, 0⟩), by decide, by decide, by decide⟩,
   ⟨(dcAt 0xF2002 { Dcdc.reset with vref := 7 } [] ⟨0x30000000#32, true, 5⟩), by decide, by decide, by decide, by decide⟩,
   ⟨({ (dcAt 4 { Dcdc.reset with vref := 7 } [(Adr.PFAULT Pg.DCDC, 1)] ⟨0x20000000#32, true, 5⟩) with pages := [(Pg.DCDC, { PageHid.reset with key := .armed 0 })] }), 0, by decide, by decide, by decide, by decide⟩,
   ⟨(dcAt 0 { Dcdc.reset with vref := 7 } [(Adr.DCDC_CFG, 0x07F50143)] ⟨0x20000000#32, true, 5⟩), by decide, by decide, by decide, by decide⟩,
   ⟨({ (dcAt 0 { Dcdc.reset with edge := some 400 } [(Adr.DCDC_CFG, 0x07F50143)] ⟨0x20000000#32, true, 5⟩) with pwr := { up.pwr with dtime := 7900 } }), 400, by decide, by decide, by decide, by decide, by decide, by decide, by decide⟩,
   ⟨(dcAt 0 { Dcdc.reset with edge := some 400, interval := 3000, valid := 4, missing := 1 } [(Adr.DCDC_CFG, 0x07F50143)] ⟨0x20000000#32, true, 5⟩), by decide, by decide, by decide⟩,
   ⟨(dcAt 0x200 { Dcdc.reset with edge := some 400, interval := 3000, valid := 4, missing := 2 } [(Adr.DCDC_CFG, 0x07F50143)] ⟨0x20000000#32, true, 5⟩), by decide, by decide, by decide, by decide⟩,
   ⟨(dcAt 0xD0002 { Dcdc.reset with vref := 7 } [(Adr.DCDC_CFG, 0x07F50143), (Adr.DCDC_IPH, 0x1000), (Adr.DCDC_SHED, 0x8040), (Adr.DCDC_TRIM 4, 7)] ⟨0x20000000#32, true, 5⟩), 3, by decide, by decide, by decide, by decide, by decide, by decide, by decide, by decide⟩,
   ⟨(dcAt 0xF0001 { Dcdc.reset with vref := 7 } [] ⟨0x20000000#32, true, 5⟩), by decide, by decide⟩,
   ⟨(dcAt 0 { Dcdc.reset with vref := 7 } [] ⟨0x20000000#32, true, 5⟩), by decide, by decide⟩⟩

theorem witness_ChargerSessions :
    (∃ (s : State), s.pageOn Pg.OBC = true ∧ s.pageEn Pg.OBC = true ∧ s.obcState = 1 ∧ s.obcConnected = true ∧ s.flag Adr.OBC_CFG 28 = false)
    ∧ (∃ (s : State) (port : Port) (x : Bool) (c : Instr) (w : Word), s.pageOn Pg.OBC = true ∧ ((x = false ∧ c = .obcStart port ∧ w = 1#32) ∨ (x = true ∧ c = .obcExport port ∧ w = 4#32)) ∧ s.Owns port Pg.OBC ∧ s.refusalOf port Adr.OBC_CMD .plain w = none ∧ s.pageEn Pg.OBC = true ∧ s.obcState = 2 ∧ s.obcRefusal x = 0)
    ∧ (∃ (s : State) (port : Port) (x : Bool) (c : Instr) (w : Word), s.pageOn Pg.OBC = true ∧ ((x = false ∧ c = .obcStart port ∧ w = 1#32) ∨ (x = true ∧ c = .obcExport port ∧ w = 4#32)) ∧ s.Owns port Pg.OBC ∧ s.refusalOf port Adr.OBC_CMD .plain w = none ∧ s.pageEn Pg.OBC = true ∧ s.obcState = 2 ∧ s.obcRefusal x ≠ 0)
    ∧ (∃ (s : State), s.pageOn Pg.OBC = true ∧ s.obcState = 3 ∧ s.obc.step = 0 ∧ (s.hvWord 3).valid = true ∧ ((98 * s.fld Adr.OBC_BUS 25 16 * 2 ^ 31 : Nat) : Int) ≤ (s.hvWord 3).value.toInt * 200000)
    ∧ (∃ (s : State), s.pageOn Pg.OBC = true ∧ s.obcState = 3 ∧ s.obc.step = 0)
    ∧ (∃ (s : State), ∃ x, s.pageOn Pg.OBC = true ∧ s.obcState = 3 ∧ s.obc.step = 1 ∧ s.acOk = true ∧ s.obc.export_ = x)
    ∧ (∃ (s : State), s.pageOn Pg.OBC = true ∧ s.obcState = 3 ∧ s.obc.step = 1)
    ∧ (∃ (s : State) (port : Port), s.pageOn Pg.OBC = true ∧ s.Owns port Pg.OBC ∧ s.refusalOf port Adr.OBC_CMD .plain 2#32 = none ∧ s.obcSession = true)
    ∧ (∃ (s : State) (port : Port), s.pageOn Pg.OBC = true ∧ s.Owns port Pg.OBC ∧ s.refusalOf port Adr.OBC_CMD .plain 2#32 = none ∧ s.obcSession = false)
    ∧ (∃ (s : State), s.pageOn Pg.OBC = true ∧ s.obcState = 4 ∧ s.flag Adr.OBC_STAT 13 = false ∧ s.packBelow (s.fld (Adr.OBC_ZIC s.zoneUsed) 31 16) = true)
    ∧ (∃ (s : State), s.pageOn Pg.OBC = true ∧ s.pageEn Pg.OBC = true ∧ s.flag Adr.OBC_STAT 8 = false ∧ (s.obc.export_ && s.obcSession) = false)
    ∧ (∃ (s : State), s.pageOn Pg.OBC = true ∧ s.pageEn Pg.OBC = true ∧ s.flag Adr.OBC_STAT 8 = false ∧ s.obc.export_ = true ∧ s.obcSession = true)
    ∧ (∃ (s : State), s.pageOn Pg.OBC = true ∧ s.obcPilot = 0 ∧ s.obcSession = true)
    ∧ (∃ (s : State), s.pageOn Pg.OBC = true ∧ s.obcPilot ≠ 0) :=
  ⟨⟨(obAt 1 { Obc.reset with step := 0 } [(Adr.PILOT_STAT, 0x201)] []), by decide, by decide, by decide, by decide, by decide⟩,
   ⟨(obReady { Obc.reset with step := 0 } []), 0, false, (.obcStart 0), 1#32, by decide, by decide, by decide, by decide, by decide, by decide, by decide⟩,
   ⟨(obReady { Obc.reset with step := 0 } []), 0, true, (.obcExport 0), 4#32, by decide, by decide, by decide, by decide, by decide, by decide, by decide⟩,
   ⟨(obAt 3 { Obc.reset with step := 0 } [(Adr.OBC_BUS, 0x00640000)] [(0xA3, ⟨107374183#32, true, 990⟩)]), by decide, by decide, by decide, by decide, by decide⟩,
   ⟨(obAt 3 { Obc.reset with dabRun := true, iStar := 7 } [] []), by decide, by decide, by decide⟩,
   ⟨(obAt 3 { Obc.reset with step := 1, export_ := false, freq := 5000, rms := [2300, 10, 20], pre := true } [] []), false, by decide, by decide, by decide, by decide, by decide⟩,
   ⟨(obAt 3 { Obc.reset with step := 1 } [] []), by decide, by decide, by decide⟩,
   ⟨(obAt 4 { Obc.reset with iStar := 9, pfcRun := true } [] []), 0, by decide, by decide, by decide, by decide⟩,
   ⟨(obAt 2 { Obc.reset with step := 0 } [] []), 0, by decide, by decide, by decide, by decide⟩,
   ⟨(obAt 4 { Obc.reset with step := 0 } [(Adr.OBC_ZIC 0, 0x00500000)] [(0x104, ⟨0x1000#32, true, 990⟩)]), by decide, by decide, by decide, by decide⟩,
   ⟨(obAt 4 { Obc.reset with step := 0 } [] []), by decide, by decide, by decide, by decide⟩,
   ⟨(obAt 5 { Obc.reset with export_ := true } [] []), by decide, by decide, by decide, by decide, by decide⟩,
   ⟨(obAt 4 { Obc.reset with step := 0 } [] []), by decide, by decide, by decide⟩,
   ⟨(obAt 4 { Obc.reset with step := 0 } [(Adr.PILOT_ILIM, 1)] []), by decide, by decide⟩⟩

theorem witness_ChargerRuns :
    (∃ (s : State), s.pageOn Pg.OBC = true ∧ s.pageEn Pg.OBC = true ∧ s.obcState = 1 ∧ s.pfcCtx ≠ s.dabCtx)
    ∧ (∃ (s : State), s.pageOn Pg.OBC = true ∧ s.pageEn Pg.OBC = true ∧ s.obcState = 4 ∧ s.flag Adr.OBC_STAT 7 = false)
    ∧ (∃ (s : State), s.pageOn Pg.OBC = true ∧ s.obcState = 4 ∧ s.obc.iSearch * 10 < s.obcIlim ∧ s.obc.iSearch < s.obcIlim / 10 ∧ s.flag Adr.OBC_STAT 11 = false ∧ ((s.obc.sagEnd = 0 ∨ s.obc.sagEnd - 1 + 36000000000 ≤ s.now)) ∧ bit (s.pubWord s.pfcCtx 0).value 0 = true)
    ∧ (∃ (s : State), s.pageOn Pg.OBC = true ∧ s.obcState = 4 ∧ s.flag Adr.OBC_STAT 7 = true ∧ s.flag Adr.OBC_STAT 9 = false ∧ ((s.fld (Adr.OBC_ZV s.zoneUsed) 31 16 * 10 * 2 ^ 15 : Nat) : Int) ≤ s.packMax 1)
    ∧ (∃ (s : State), ∃ x, s.pageOn Pg.OBC = true ∧ s.obcState = 6 ∧ s.obc.step = 0 ∧ s.obcStore = false ∧ (x = true ∨ s.packBelow 10 = true))
    ∧ (∃ (s : State), s.pageOn Pg.OBC = true ∧ s.obcState = 6 ∧ s.obc.step = 1 ∧ s.obcStore = false)
    ∧ (∃ (s : State), s.pageOn Pg.OBC = true ∧ s.obcState = 6 ∧ s.obc.step = 1 ∧ (∀ v ∈ s.obc.rms, v < 500))
    ∧ (∃ (s : State), s.pageOn Pg.OBC = true ∧ s.obcState = 6 ∧ s.obc.step = 2)
    ∧ (∃ (s : State), s.pageOn Pg.OBC = true ∧ s.obcState = 5 ∧ s.flag Adr.OBC_STAT 14 = true ∧ s.gridInside = true)
    ∧ (∃ (s : State), s.pageOn Pg.OBC = true ∧ s.obcState = 5 ∧ s.flag Adr.OBC_STAT 14 = false ∧ s.gridInside = false) :=
  ⟨⟨(obAt 0x1 { Obc.reset with pfcRun := true, pre := true, dabRun := true } [] []), by decide, by decide, by decide, by decide⟩,
   ⟨(obAt 0x24 { Obc.reset with pfcRun := true, dabRun := true, iStar := 100, iSearch := 10 } [(Adr.OBC_ZIC 2, 0x00500064), (Adr.OBC_IBATMAX, 0x200), (Adr.PILOT_ILIM, 0x00C800A0), (Adr.OBC_IACMAX, 16), (Adr.OBC_SEARCH, 0x006E0206)] [(0x100, ⟨1#32, true, 990⟩), (0x120, ⟨5#32, true, 990⟩), (0x121, ⟨0#32, true, 990⟩)]), by decide, by decide, by decide, by decide⟩,
   ⟨(obAt 0x24 { Obc.reset with iSearch := 9 } [(Adr.OBC_DEFLIM, 0x10), (Adr.PILOT_ILIM, 0x00C800A0), (Adr.OBC_IACMAX, 16), (Adr.OBC_SEARCH, 0x006E0206)] [(0x100, ⟨1#32, true, 990⟩)]), by decide, by decide, by decide, by decide, by decide, by decide, by decide⟩,
   ⟨(obAt 0xA4 { Obc.reset with iStar := 100000 } [(Adr.OBC_CFG, 0x01000800), (Adr.OBC_ZV 2, 0x10680000), (Adr.OBC_ZIC 2, 0x00500064), (Adr.OBC_IBATMAX, 0x200), (Adr.PILOT_ILIM, 0x00C800A0), (Adr.OBC_IACMAX, 16), (Adr.OBC_SEARCH, 0x006E0206)] [(0xC1, ⟨0x6B000000#32, true, 990⟩)]), by decide, by decide, by decide, by decide, by decide⟩,
   ⟨(obAt 6 { Obc.reset with pfcRun := true, s2 := true } [(Adr.TRIM_CCFG 0 0, 0x109000)] []), true, by decide, by decide, by decide, by decide, by decide⟩,
   ⟨(obAt 6 { Obc.reset with step := 1 } [] []), by decide, by decide, by decide, by decide⟩,
   ⟨(obAt 6 { Obc.reset with step := 1, rms := [499, 0, 0] } [] []), by decide, by decide, by decide, by decide⟩,
   ⟨(obAt 6 { Obc.reset with step := 2, dabRun := true, pre := true, export_ := true } [] []), by decide, by decide, by decide⟩,
   ⟨(obAt 0x4005 { Obc.reset with rms := [2300, 2300, 2300], freq := 5000 } [(Adr.OBC_EXPLIM, 0x00000010), (Adr.OBC_EXPV, 0x00FF0001), (Adr.OBC_EXPF, 0x17700001)] []), by decide, by decide, by decide, by decide⟩,
   ⟨(obAt 5 { Obc.reset with rms := [230, 2300, 9300], pfcRun := true, dabRun := true, freq := 5000 } [(Adr.TRIM_CCFG 0 0, 0x109000), (Adr.OBC_EXPLIM, 0x00000010), (Adr.OBC_EXPV, 0x00FF0001), (Adr.OBC_EXPF, 0x17700001)] []), by decide, by decide, by decide, by decide⟩⟩

theorem witness_PilotAndLamps :
    (∃ (s : State), s.pageOn Pg.PILOT = true ∧ s.pilotOn = true ∧ s.obcState ≤ 1)
    ∧ (∃ (s : State), ∃ (high : Int), ∃ (low : Int), ∃ osc, s.pageOn Pg.PILOT = true ∧ s.pilotOn = true ∧ s.obcStore = false ∧ s.obcSession = true ∧ cpDecode high low osc = 0)
    ∧ (∃ (s : State), s.pageOn Pg.PILOT = true ∧ s.pilotOn = true ∧ s.obcState ≤ 1)
    ∧ (∃ (s : State), ∃ mv, s.pageOn Pg.PILOT = true ∧ s.pilotOn = true ∧ s.obcStore = false ∧ s.obcSession = true ∧ 4700 < mv)
    ∧ (∃ (s : State) (freq : Nat) (duty : Nat), s.pageOn Pg.PILOT = true ∧ s.pilotOn = true ∧ 980 ≤ freq ∧ freq ≤ 1020 ∧ duty ≤ 1000)
    ∧ (∃ (s : State) (i : Bool), s.pageOn Pg.PILOT = true ∧ (s.lamp i.toNat).on = true ∧ (s.lamp i.toNat).off = false)
    ∧ (∃ (s : State) (i : Bool), s.pageOn Pg.PILOT = true ∧ (s.lamp i.toNat).off = true)
    ∧ (∃ (s : State) (i : Bool), s.pageOn Pg.PILOT = true ∧ ((s.lamp i.toNat).pattern = 2 ∨ (s.lamp i.toNat).pattern = 3 ∨ (s.lamp i.toNat).pattern = 4))
    ∧ (∃ (s : State) (i : Bool), s.pageOn Pg.PILOT = true ∧ (s.lamp i.toNat).pattern ≤ 1) :=
  ⟨⟨(obAt 1 { Obc.reset with step := 0 } [(Adr.PILOT_CPMEAS, 0x40000000)] []), by decide, by decide, by decide⟩,
   ⟨(obAt 4 { Obc.reset with iStar := 5 } [] []), 120, (-120), true, by decide, by decide, by decide, by decide, by decide⟩,
   ⟨(obAt 1 { Obc.reset with step := 0 } [(Adr.PILOT_STAT, 0x200)] []), by decide, by decide, by decide⟩,
   ⟨(obAt 4 { Obc.reset with step := 0 } [] []), 4701, by decide, by decide, by decide, by decide, by decide⟩,
   ⟨(obAt 1 { Obc.reset with step := 0 } [] []), 980, 0, by decide, by decide, by decide, by decide, by decide⟩,
   ⟨({ up with lamps := [(1, { Lamp.reset with on := true })] }), true, by decide, by decide, by decide⟩,
   ⟨({ up with lamps := [(1, { Lamp.reset with off := true })] }), true, by decide, by decide⟩,
   ⟨({ up with lamps := [(1, { Lamp.reset with pattern := 2, phase := 3, on := true })] }), true, by decide, by decide⟩,
   ⟨({ up with lamps := [(1, { Lamp.reset with pattern := 0, on := true })] }), true, by decide, by decide⟩⟩

theorem witness_ActuatorBridges :
    (∃ (s : State) (port : Port) (n : Fin 3), s.pageOn (Pg.ACT n) = true ∧ s.Owns port (Pg.ACT n) ∧ s.refusalOf port (Adr.ACT_CMD n) .plain 1#32 = none ∧ s.pageEn (Pg.ACT n) = true ∧ s.actState n = 0 ∧ s.actSpd n ≠ 0 ∧ s.fld (Adr.PFAULT (Pg.ACT n)) 1 0 = 0 ∧ s.actInhibits n (decide (s.actSpd n < 0)) = false ∧ s.pins.vpAct < 3400)
    ∧ (∃ (s : State), ∃ (port : Port), ∃ (n : Fin 3), ∃ x, s.pageOn (Pg.ACT n) = true ∧ s.Owns port (Pg.ACT n) ∧ s.refusalOf port (Adr.ACT_CMD n) .plain 1#32 = none ∧ s.pageEn (Pg.ACT n) = true ∧ s.actState n = 0 ∧ s.actSpd n ≠ 0 ∧ s.fld (Adr.PFAULT (Pg.ACT n)) 1 0 = 0 ∧ ((s.actInhibits n (decide (s.actSpd n < 0)) = true ∧ x = 4) ∨
      (s.actInhibits n (decide (s.actSpd n < 0)) = false ∧ 3400 ≤ s.pins.vpAct ∧ x = 5)))
    ∧ (∃ (s : State) (port : Port) (n : Fin 3), s.pageOn (Pg.ACT n) = true ∧ s.Owns port (Pg.ACT n) ∧ s.refusalOf port (Adr.ACT_CMD n) .plain 4#32 = none ∧ s.pageEn (Pg.ACT n) = true ∧ s.actState n = 0)
    ∧ (∃ (s : State) (port : Port) (n : Fin 3), s.pageOn (Pg.ACT n) = true ∧ s.Owns port (Pg.ACT n) ∧ s.refusalOf port (Adr.ACT_CMD n) .plain 4#32 = none ∧ s.pageEn (Pg.ACT n) = true ∧ s.actState n ≠ 0)
    ∧ (∃ (s : State) (port : Port) (n : Fin 3), s.pageOn (Pg.ACT n) = true ∧ s.Owns port (Pg.ACT n) ∧ s.refusalOf port (Adr.ACT_CMD n) .plain 2#32 = none ∧ (s.act n).recent = false ∧ s.actState n ≠ 0)
    ∧ (∃ (s : State), ∃ (n : Fin 3), ∃ spd, ∃ ref, s.pageOn (Pg.ACT n) = true ∧ s.actState n = 1 ∧ s.actSpd n = spd ∧ (s.act n).sref = ref ∧ spd ≠ 0 ∧ (((s.act n).speed = 0 ∨ (spd < 0 ↔ (s.act n).speed < 0) ∨ (s.act n).speed.natAbs < s.fld (Adr.ACT_NCOAST n) 15 0)))
    ∧ (∃ (s : State) (n : Fin 3), s.pageOn (Pg.ACT n) = true ∧ s.actState n = 1 ∧ s.actSpd n = 0)
    ∧ (∃ (s : State) (n : Fin 3), s.pageOn (Pg.ACT n) = true ∧ s.actState n = 2 ∧ (s.act n).again = false)
    ∧ (∃ (s : State) (n : Fin 3), s.pageOn (Pg.ACT n) = true ∧ s.actState n ≠ 2)
    ∧ (∃ (s : State) (n : Fin 3), s.pageOn (Pg.ACT n) = true ∧ s.actState n = 1 ∧ (s.act n).recent = false ∧ s.flag (Adr.HALL_STAT n) 3 = false)
    ∧ (∃ (s : State) (n : Fin 3), s.pageOn (Pg.ACT n) = true ∧ s.actState n = 1 ∧ (s.act n).recent = false)
    ∧ (∃ (s : State) (n : Fin 3), s.pageOn (Pg.ACT n) = true ∧ s.actState n = 1 ∧ (s.act n).recent = false ∧ 214748365 ≤ s.actD n)
    ∧ (∃ (s : State) (n : Fin 3), s.pageOn (Pg.ACT n) = true ∧ s.actState n = 1 ∧ (s.act n).recent = false ∧ s.actInhibits n (s.actReverse n) = true)
    ∧ (∃ (s : State) (n : Fin 3), s.pageOn (Pg.ACT n) = true ∧ (s.actState n = 0 ∨ s.actLine n = false))
    ∧ (∃ (s : State), ∃ (n : Fin 3), ∃ mv, s.pageOn (Pg.ACT n) = true ∧ mv < 8000)
    ∧ (∃ (s : State), ∃ (n : Fin 3), ∃ mv, s.pageOn (Pg.ACT n) = true ∧ 8000 ≤ mv)
    ∧ (∃ (s : State), ∃ (n : Fin 3), ∃ mv, s.pageOn (Pg.ACT n) = true ∧ 36000 < mv)
    ∧ (∃ (s : State), ∃ (n : Fin 3), ∃ mv, s.pageOn (Pg.ACT n) = true ∧ mv ≤ 36000)
    ∧ (∃ (s : State) (n : Fin 3) (ma : Int), s.pageOn (Pg.ACT n) = true ∧ s.actState n = 1 ∧ s.fld (Adr.ACT_ILIM n) 4 0 * 1000 < ma.natAbs)
    ∧ (∃ (s : State) (n : Fin 3) (ma : Int), s.pageOn (Pg.ACT n) = true ∧ ma.natAbs ≤ s.fld (Adr.ACT_ILIM n) 4 0 * 1000) :=
  ⟨⟨({ (acAt 2 0 { Act.reset with sref := 9, integ := 5, recent := true } [(Adr.ACT_SPD 2, 0x64)]) with pins := { up.pins with vpAct := 3399 } }), 0, 2, by decide, by decide, by decide, by decide, by decide, by decide, by decide, by decide, by decide⟩,
   ⟨({ (acAt 2 0 { Act.reset with boot := [] } [(Adr.ACT_SPD 2, 0x64), (Adr.SHRD_PLKCFG, 0)]) with shroud := { Shroud.reset with inhibit := 4#32 } }), 0, 2, 4, by decide, by decide, by decide, by decide, by decide, by decide, by decide, by decide⟩,
   ⟨(acAt 2 0 { Act.reset with boot := [] } []), 0, 2, by decide, by decide, by decide, by decide, by decide⟩,
   ⟨(acAt 2 1 { Act.reset with boot := [] } []), 0, 2, by decide, by decide, by decide, by decide, by decide⟩,
   ⟨(acAt 2 0x201 { Act.reset with recent := false, again := true } [(Adr.ACT_DUTY 2, 7)]), 0, 2, by decide, by decide, by decide, by decide, by decide⟩,
   ⟨(acAt 2 1 { Act.reset with speed := -5, sref := 95 } [(Adr.ACT_SPD 2, 0x64), (Adr.ACT_ACCEL 2, 10), (Adr.ACT_NCOAST 2, 6), (Adr.ACT_GAIN 2, 0xFFFFFFFF), (Adr.ACT_DMAX 2, 0x70000000)]), 2, 100, 95, by decide, by decide, by decide, by decide, by decide, by decide⟩,
   ⟨(acAt 2 1 { Act.reset with sref := 5 } [(Adr.ACT_DUTY 2, 7)]), 2, by decide, by decide, by decide⟩,
   ⟨(acAt 2 0x10002 { Act.reset with speed := 5 } []), 2, by decide, by decide, by decide⟩,
   ⟨(acAt 2 0xFFFF0001 { Act.reset with speed := -1 } []), 2, by decide, by decide⟩,
   ⟨(acAt 2 1 { Act.reset with boot := [] } [(Adr.HALL_STAT 2, 0), (Adr.ACT_DUTY 2, 9)]), 2, by decide, by decide, by decide, by decide⟩,
   ⟨(acAt 2 1 { Act.reset with boot := [] } []), 2, by decide, by decide, by decide⟩,
   ⟨(acAt 2 1 { Act.reset with boot := [] } [(Adr.ACT_DUTY 2, 214748365)]), 2, by decide, by decide, by decide, by decide⟩,
   ⟨({ (acAt 2 1 { Act.reset with sref := 7 } [(Adr.SHRD_PLKCFG, 0)]) with shroud := { Shroud.reset with inhibit := 4#32 } }), 2, by decide, by decide, by decide, by decide⟩,
   ⟨({ (acAt 2 0 { Act.reset with boot := [] } []) with shroud := { Shroud.reset with inhibit := 4#32 } }), 2, by decide, by decide⟩,
   ⟨(acAt 2 1 { Act.reset with bsuv := 1 } []), 2, 7999, by decide, by decide⟩,
   ⟨(acAt 2 1 { Act.reset with bsuv := 1 } []), 2, 8000, by decide, by decide⟩,
   ⟨(acAt 2 1 { Act.reset with boot := [] } []), 2, 36001, by decide, by decide⟩,
   ⟨(acAt 2 1 { Act.reset with boot := [] } []), 2, 36000, by decide, by decide⟩,
   ⟨(acAt 2 1 { Act.reset with boot := [] } [(Adr.ACT_ILIM 2, 5)]), 2, (-5001), by decide, by decide, by decide⟩,
   ⟨(acAt 2 1 { Act.reset with boot := [] } [(Adr.ACT_ILIM 2, 5)]), 2, 5000, by decide, by decide⟩⟩

theorem witness_Contactors :
    (∃ (s : State) (port : Port), s.pageOn Pg.CTR = true ∧ s.Owns port Pg.CTR ∧ s.refusalOf port Adr.CTR_CMD .plain 1#32 = none ∧ s.pageEn Pg.CTR = true ∧ s.ctrState = 0 ∧ s.ctrDis = false ∧ s.flag Adr.SYS_BOOTSTAT 4 = true ∧ s.ctrRolesOk = true ∧ (s.hvWord 0).valid = true ∧ s.flag Adr.CTR_STAT 6 = false ∧ s.fld (Adr.PFAULT Pg.CTR) 9 0 = 0)
    ∧ (∃ (s : State) (port : Port), s.pageOn Pg.CTR = true ∧ s.Owns port Pg.CTR ∧ s.refusalOf port Adr.CTR_CMD .plain 1#32 = none ∧ s.pageEn Pg.CTR = true ∧ s.ctrState = 0 ∧ s.ctrDis = true)
    ∧ (∃ (s : State) (port : Port), s.pageOn Pg.CTR = true ∧ s.Owns port Pg.CTR ∧ s.refusalOf port Adr.CTR_CMD .plain 1#32 = none ∧ s.pageEn Pg.CTR = true ∧ s.ctrState = 0 ∧ s.ctrDis = false ∧ s.flag Adr.SYS_BOOTSTAT 4 = true ∧ s.ctrRolesOk = false)
    ∧ (∃ (s : State) (port : Port), s.pageOn Pg.CTR = true ∧ s.Owns port Pg.CTR ∧ s.refusalOf port Adr.CTR_CMD .plain 2#32 = none)
    ∧ (∃ (s : State), ∃ st, ∃ x, s.pageOn Pg.CTR = true ∧ ((st = 1 ∧ x = 4) ∨ (st = 2 ∧ x = 5)) ∧ s.ctrState = st ∧ s.vdcLow = true)
    ∧ (∃ (s : State), ∃ st, ∃ x, s.pageOn Pg.CTR = true ∧ ((st = 1 ∧ x = 4) ∨ (st = 2 ∧ x = 5)) ∧ s.ctrState = st ∧ s.vdcLow = false)
    ∧ (∃ (s : State), s.pageOn Pg.CTR = true ∧ s.ctrState = 3 ∧ s.vdcAbove 20 = true)
    ∧ (∃ (s : State), s.pageOn Pg.CTR = true ∧ s.ctrState = 3 ∧ s.vdcAbove 20 = false)
    ∧ (∃ (s : State), s.pageOn Pg.CTR = true ∧ s.ctrState = 3 ∧ s.vdcAbove (s.fld Adr.CTR_PRECFG 15 8) = true ∧ s.ctr.shortOk = true)
    ∧ (∃ (s : State), s.pageOn Pg.CTR = true ∧ s.ctrState = 3 ∧ s.vdcAbove (s.fld Adr.CTR_PRECFG 15 8) = false)
    ∧ (∃ (s : State), s.pageOn Pg.CTR = true ∧ s.ctrState = 4)
    ∧ (∃ (s : State), s.pageOn Pg.CTR = true)
    ∧ (∃ (s : State), s.pageOn Pg.CTR = true)
    ∧ (∃ (s : State), s.pageOn Pg.CTR = true)
    ∧ (∃ (s : State) (k : Fin 8), s.pageOn Pg.CTR = true ∧ s.flag Adr.CTR_STAT (24 + k) = true)
    ∧ (∃ (s : State), s.pageOn Pg.CTR = true ∧ s.ctrDis = true)
    ∧ (∃ (s : State), s.pageOn Pg.CTR = true ∧ s.ctrDis = false) :=
  ⟨⟨(ctAt 0 [(Adr.CTR_WELD, 0x28)] [(0xA0, ⟨0x10000000#32, true, 990⟩), (0xA1, ⟨0x10#32, true, 990⟩)]), 0, by decide, by decide, by decide, by decide, by decide, by decide, by decide, by decide, by decide, by decide, by decide⟩,
   ⟨({ (ctAt 0 [] []) with shroud := { Shroud.reset with ctrLine := true } }), 0, by decide, by decide, by decide, by decide, by decide, by decide⟩,
   ⟨(ctAt 0 [(Adr.CTR_ROLE, 0x43221110)] []), 0, by decide, by decide, by decide, by decide, by decide, by decide, by decide, by decide⟩,
   ⟨(ctAt 0xE0000005 [] []), 0, by decide, by decide, by decide⟩,
   ⟨(ctAt 0x60000001 [(Adr.CTR_WELD, 0x28)] [(0xA0, ⟨0x10000000#32, true, 990⟩), (0xA1, ⟨0x10#32, true, 990⟩)]), 1, 4, by decide, by decide, by decide, by decide⟩,
   ⟨(ctAt 0x60000001 [(Adr.CTR_WELD, 0x28)] [(0xA0, ⟨0x10000000#32, true, 990⟩)]), 1, 4, by decide, by decide, by decide, by decide⟩,
   ⟨(ctAt 0x60000003 [] [(0xA0, ⟨0x10000000#32, true, 990⟩), (0xA1, ⟨0x0F333334#32, true, 990⟩)]), by decide, by decide, by decide⟩,
   ⟨(ctAt 0x60000003 [] [(0xA0, ⟨0x10000000#32, true, 990⟩), (0xA1, ⟨0x10#32, true, 990⟩)]), by decide, by decide, by decide⟩,
   ⟨({ (ctAt 0x60000003 [(Adr.CTR_PRECFG, 0x5F00)] [(0xA0, ⟨0x10000000#32, true, 990⟩), (0xA1, ⟨0x0F333334#32, true, 990⟩)]) with ctr := { up.ctr with shortOk := true } }), by decide, by decide, by decide, by decide⟩,
   ⟨(ctAt 0x60000003 [(Adr.CTR_PRECFG, 0x5F00)] [(0xA0, ⟨0x10000000#32, true, 990⟩), (0xA1, ⟨0x0F333333#32, true, 990⟩)]), by decide, by decide, by decide⟩,
   ⟨(ctAt 0xE0000004 [] []), by decide, by decide⟩,
   ⟨({ (ctAt 0x20000000 [] []) with ctr := { up.ctr with negDue := true } }), by decide⟩,
   ⟨(ctAt 0x45 [] []), by decide⟩,
   ⟨({ (ctAt 5 [] []) with ctr := { up.ctr with pull := 0xFF#32 } }), by decide⟩,
   ⟨(ctAt 0xFF000005 [] []), 0, by decide, by decide⟩,
   ⟨({ (ctAt 0xFF000005 [] []) with shroud := { Shroud.reset with ctrLine := true } }), by decide, by decide⟩,
   ⟨(ctAt 0xFF000025 [] []), by decide, by decide⟩⟩

theorem witness_RingStartup :
    (∃ (s : State) (port : Port) (k : Fin 4), s.pageOn (Pg.EFR k) = true ∧ s.Owns port (Pg.EFR k) ∧ s.refusalOf port (Adr.EFR_CTRL k) .plain (s.withBits (Adr.EFR_CTRL k) 1#32) = none ∧ s.flag (Adr.EFR_CTRL k) 0 = false ∧ s.pageEn (Pg.EFR k) = true ∧ s.ringState k = 0 ∧ s.ringOwned k = true ∧ s.flag Adr.SYS_CLKSTAT 4 = true)
    ∧ (∃ (s : State) (port : Port) (k : Fin 4), s.pageOn (Pg.EFR k) = true ∧ s.Owns port (Pg.EFR k) ∧ s.refusalOf port (Adr.EFR_CTRL k) .plain (s.withBits (Adr.EFR_CTRL k) 1#32) = none ∧ s.flag (Adr.EFR_CTRL k) 0 = false ∧ s.pageEn (Pg.EFR k) = true ∧ s.ringState k = 0 ∧ s.ringOwned k = true ∧ s.flag Adr.SYS_CLKSTAT 4 = false)
    ∧ (∃ (s : State) (port : Port) (k : Fin 4), s.pageOn (Pg.EFR k) = true ∧ s.Owns port (Pg.EFR k) ∧ s.refusalOf port (Adr.EFR_CTRL k) .plain (s.withBits (Adr.EFR_CTRL k) 1#32) = none ∧ s.flag (Adr.EFR_CTRL k) 0 = false ∧ s.pageEn (Pg.EFR k) = true ∧ s.ringState k = 0 ∧ s.ringOwned k = false)
    ∧ (∃ (s : State) (port : Port) (k : Fin 4), s.pageOn (Pg.EFR k) = true ∧ s.Owns port (Pg.EFR k) ∧ s.refusalOf port (Adr.EFR_CTRL k) .plain (s.withoutBits (Adr.EFR_CTRL k) 1#32) = none ∧ s.flag (Adr.EFR_CTRL k) 0 = true ∧ (s.ring k).tags = [] ∧ s.fld (Adr.EFR_TQHEAD k) 7 0 = s.fld (Adr.EFR_TQTAIL k) 7 0)
    ∧ (∃ (s : State) (port : Port) (k : Fin 4), s.pageOn (Pg.EFR k) = true ∧ s.Owns port (Pg.EFR k) ∧ s.refusalOf port (Adr.EFR_CTRL k) .plain (s.withBits (Adr.EFR_CTRL k) 4#32) = none)
    ∧ (∃ (s : State) (k : Fin 4), s.pageOn (Pg.EFR k) = true ∧ (s.ringState k = 1 ∨ s.ringState k = 2))
    ∧ (∃ (s : State) (k : Fin 4) (l : List (Nat × NodeFacts)), s.pageOn (Pg.EFR k) = true ∧ s.ringState k = 3 ∧ s.ringFold k = false ∧ l.length = s.fld (Adr.EFR_CFG k) 8 0)
    ∧ (∃ (s : State), ∃ (k : Fin 4), ∃ (l : List (Nat × NodeFacts)), ∃ (m : List (Nat × NodeFacts)), ∃ full, s.pageOn (Pg.EFR k) = true ∧ s.ringState k = 3 ∧ (full = true ∨ (m = [] ∧ l.length ≠ s.fld (Adr.EFR_CFG k) 8 0)))
    ∧ (∃ (s : State) (k : Fin 4) (hops : List (Nat × Option Nat × Option Nat)) (ds : List Nat), s.pageOn (Pg.EFR k) = true ∧ s.ringState k = 4 ∧ (∀ h ∈ hops, h.1 < 256) ∧ ds = hops.flatMap (fun h => h.2.1.toList ++ h.2.2.toList) ∧ s.fld (Adr.EFR_TQHEAD k) 7 0 = s.fld (Adr.EFR_TQTAIL k) 7 0)
    ∧ (∃ (s : State) (k : Fin 4) (x : Nat) (y : Nat), s.pageOn (Pg.EFR k) = true ∧ s.ringState k = 4 ∧ x ≤ 39000 ∧ y ≤ 39000 ∧ s.fld (Adr.EFR_TQHEAD k) 7 0 = s.fld (Adr.EFR_TQTAIL k) 7 0) :=
  ⟨⟨(rgAt 3 0 { Ring.reset with nodes := [(3, nf 1 2)], cycle := 7 } [(Adr.EFR_STAT 3, 0x70000010)]), 0, 3, by decide, by decide, by decide, by decide, by decide, by decide, by decide, by decide⟩,
   ⟨(rgAt 3 0 { Ring.reset with cycle := 0 } [(Adr.SYS_CLKSTAT, 0xF)]), 0, 3, by decide, by decide, by decide, by decide, by decide, by decide, by decide, by decide⟩,
   ⟨(rgAt 3 0 { Ring.reset with cycle := 0 } [(Adr.TWIN_STAT, 2)]), 0, 3, by decide, by decide, by decide, by decide, by decide, by decide, by decide⟩,
   ⟨(rgAt 3 0x13 { Ring.reset with sent := true, loopback := true } [(Adr.EFR_CTRL 3, 3)]), 0, 3, by decide, by decide, by decide, by decide, by decide, by decide⟩,
   ⟨(rgAt 3 0 { Ring.reset with cycle := 0 } []), 0, 3, by decide, by decide, by decide⟩,
   ⟨(rgAt 3 1 { Ring.reset with cycle := 0 } [(Adr.EFR_CTRL 3, 1)]), 3, by decide, by decide⟩,
   ⟨(rgAt 3 3 { Ring.reset with cycle := 0 } [(Adr.EFR_CTRL 3, 1), (Adr.EFR_CFG 3, 2), (Adr.EFR_NT 3 1, 0xFFFFFFFF), (Adr.EFR_NT 3 9, 0xFFFFFFFF), (Adr.EFR_NT 3 255, 0xFFFFFFFF)]), 3, ([(9, nf 1 2), (1, nf 3 4)]), by decide, by decide, by decide, by decide⟩,
   ⟨(rgAt 3 3 { Ring.reset with cycle := 0 } [(Adr.EFR_CTRL 3, 1), (Adr.EFR_CFG 3, 2)]), 3, ([(9, nf 1 2)]), ([]), false, by decide, by decide, by decide⟩,
   ⟨(rgAt 3 4 { Ring.reset with nodes := [(9, nf 1 2)] } [(Adr.EFR_CTRL 3, 1)]), 3, (([(9, some 39000, none), (255, none, some 5)] : List (Nat × Option Nat × Option Nat))), ([39000, 5]), by decide, by decide, by decide, by decide, by decide⟩,
   ⟨(rgAt 3 4 { Ring.reset with cycle := 0 } [(Adr.EFR_CTRL 3, 1)]), 3, 0, 39000, by decide, by decide, by decide, by decide, by decide⟩⟩

theorem witness_RingTraffic :
    (∃ (s : State) (port : Port) (k : Fin 4), s.pageOn (Pg.EFR k) = true ∧ s.Owns port (Pg.EFR k) ∧ s.refusalOf port (Adr.EFR_CTRL k) .plain (s.withBits (Adr.EFR_CTRL k) 2#32) = none ∧ s.fld (Adr.EFR_CTRL k) 1 0 = 1 ∧ s.ringState k = 5 ∧ s.ringParam k = false)
    ∧ (∃ (s : State) (port : Port) (k : Fin 4), s.pageOn (Pg.EFR k) = true ∧ s.Owns port (Pg.EFR k) ∧ s.refusalOf port (Adr.EFR_CTRL k) .plain (s.withBits (Adr.EFR_CTRL k) 2#32) = none ∧ s.fld (Adr.EFR_CTRL k) 1 0 = 1 ∧ s.ringState k = 5 ∧ s.ringParam k = true)
    ∧ (∃ (s : State) (k : Fin 4), s.pageOn (Pg.EFR k) = true ∧ (s.ringState k = 5 ∨ s.ringState k = 6))
    ∧ (∃ (s : State) (k : Fin 4), s.pageOn (Pg.EFR k) = true ∧ s.ringState k = 6)
    ∧ (∃ (s : State), ∃ (k : Fin 4), ∃ base, ∃ buf, s.pageOn (Pg.EFR k) = true ∧ s.ringState k = 6 ∧ (s.ring k).sent = true ∧ s.zState k ≠ 1 ∧ buf = 1 - s.fld (Adr.EFR_SSTAT k) 0 0 ∧ base = (s.reg (Adr.EFR_DBASE k)).toNat + buf * 0x3000)
    ∧ (∃ (s : State) (k : Fin 4), s.pageOn (Pg.EFR k) = true ∧ (s.ring k).sent = false)
    ∧ (∃ (s : State) (k : Fin 4) (b : Bool) (i : Nat), (s.pageOn (Pg.EFR k) = true) ∧ (i = (if b then 6 else 5)) ∧ (3 ≤ s.ringState k) ∧ (s.ringState k ≤ 6))
    ∧ (∃ (s : State) (k : Fin 4) (b : Bool) (i : Nat) (j : Nat), (s.pageOn (Pg.EFR k) = true) ∧ (i = (if b then 6 else 5)) ∧ (j = (if b then 5 else 6)) ∧ (s.flag (Adr.EFR_STAT k) j = true) ∧ (s.ringFold k = true))
    ∧ (∃ (s : State) (k : Fin 4) (b : Bool) (i : Nat) (j : Nat), (s.pageOn (Pg.EFR k) = true) ∧ (i = (if b then 6 else 5)) ∧ (j = (if b then 5 else 6)) ∧ (s.flag (Adr.EFR_STAT k) j = false))
    ∧ (∃ (s : State) (port : Port) (k : Fin 4) (tail : BitVec 8), s.pageOn (Pg.EFR k) = true ∧ s.Owns port (Pg.EFR k) ∧ s.refusalOf port (Adr.EFR_TQTAIL k) .plain (tail.zeroExtend 32) = none ∧ s.ringState k ≠ 5 ∧ s.ringState k ≠ 6)
    ∧ (∃ (s : State), ∃ (port : Port), ∃ (k : Fin 4), ∃ (tail : BitVec 8), ∃ i, ∃ ws, s.pageOn (Pg.EFR k) = true ∧ s.Owns port (Pg.EFR k) ∧ s.refusalOf port (Adr.EFR_TQTAIL k) .plain (tail.zeroExtend 32) = none ∧ (s.ringState k = 5 ∨ s.ringState k = 6) ∧ s.pageEn (Pg.EFR k) = true ∧ s.pageSafeSt (Pg.EFR k) = false ∧ s.ringOwned k = true ∧ (s.ring k).tags = [] ∧ i = s.fld (Adr.EFR_TQHEAD k) 7 0 ∧ tail.toNat = (i + 1) % s.tqLen k ∧ i ≠ tail.toNat ∧ ws = (List.range 4).map (fun j => s.mword (s.tqAddr k i + 4 * j)) ∧ s.txRefusal k ws = 0)
    ∧ (∃ (s : State), ∃ (port : Port), ∃ (k : Fin 4), ∃ (tail : BitVec 8), ∃ i, ∃ ws, s.pageOn (Pg.EFR k) = true ∧ s.Owns port (Pg.EFR k) ∧ s.refusalOf port (Adr.EFR_TQTAIL k) .plain (tail.zeroExtend 32) = none ∧ (s.ringState k = 5 ∨ s.ringState k = 6) ∧ s.pageEn (Pg.EFR k) = true ∧ s.pageSafeSt (Pg.EFR k) = false ∧ s.ringOwned k = true ∧ (s.ring k).tags = [] ∧ i = s.fld (Adr.EFR_TQHEAD k) 7 0 ∧ tail.toNat = (i + 1) % s.tqLen k ∧ i ≠ tail.toNat ∧ ws = (List.range 4).map (fun j => s.mword (s.tqAddr k i + 4 * j)) ∧ s.txRefusal k ws ≠ 0 ∧ inSram (s.tqAddr k i + 4) 4 = true)
    ∧ (∃ (s : State), ∃ (k : Fin 4), ∃ (tag : Fin 32), ∃ e, ∃ d, ∃ (c : Instr), ∃ (r : Nat), s.pageOn (Pg.EFR k) = true ∧ (s.ring k).tags = [(tag.val, e)] ∧ s.fld (Adr.EFR_TQHEAD k) 7 0 = s.fld (Adr.EFR_TQTAIL k) 7 0 ∧ d = s.tqAddr k e.index + 4 ∧ inSram d 4 = true ∧ ((c = .ringTransactionTimeout k tag ∧ r = 3) ∨ (∃ data st ack, c = .ringTransactionComplete k tag data st ack true ∧ r = 4)))
    ∧ (∃ (s : State), ∃ (k : Fin 4), ∃ (tag : Fin 32), ∃ e, ∃ d, ∃ pay, s.pageOn (Pg.EFR k) = true ∧ (s.ring k).tags = [(tag.val, e)] ∧ s.fld (Adr.EFR_TQHEAD k) 7 0 = s.fld (Adr.EFR_TQTAIL k) 7 0 ∧ d = s.tqAddr k e.index + 4 ∧ inSram d 4 = true ∧ bits (nthD 0#32 e.words 0) 31 28 = 1 ∧ bits (nthD 0#32 e.words 0) 23 16 = 1 ∧ pay = (nthD 0#32 e.words 2).toNat ∧ inSram pay 8 = true ∧ (pay + 8 ≤ d ∨ d + 4 ≤ pay))
    ∧ (∃ (s : State) (k : Fin 4) (tag : Fin 32), s.pageOn (Pg.EFR k) = true ∧ (∀ e ∈ (s.ring k).tags, e.1 ≠ tag.val)) :=
  ⟨⟨(rgAt 3 5 { Ring.reset with nodes := [(9, nf 1 2)] } [(Adr.EFR_CTRL 3, 1), (Adr.EFR_NT 3 9, 0x30), (Adr.EFR_DBASE 3, 0x20001000), (Adr.EFR_PERIOD 3, 600000), (Adr.EFR_CFG 3, 0x00640000)]), 0, 3, by decide, by decide, by decide, by decide, by decide, by decide⟩,
   ⟨(rgAt 3 5 { Ring.reset with nodes := [(9, nf 1 200)] } [(Adr.EFR_CTRL 3, 1), (Adr.EFR_NT 3 9, 0x30), (Adr.EFR_DBASE 3, 0x20001000), (Adr.EFR_PERIOD 3, 600000), (Adr.EFR_CFG 3, 0x00640000)]), 0, 3, by decide, by decide, by decide, by decide, by decide, by decide⟩,
   ⟨(rgAt 3 5 { Ring.reset with sent := true } [(Adr.EFR_PERIOD 3, 300)]), 3, by decide, by decide⟩,
   ⟨(rgAt 3 6 { Ring.reset with cycle := 0 } []), 3, by decide, by decide⟩,
   ⟨(rgAt 3 6 { Ring.reset with sent := true, cycle := 70000, nodes := [(9, nf 1 2)] } [(Adr.EFR_CTRL 3, 3), (Adr.EFR_NT 3 9, 0x30), (Adr.EFR_DBASE 3, 0x20001000), (Adr.EFR_PERIOD 3, 600000), (Adr.EFR_CFG 3, 0x00640000), (Adr.EFR_SSTAT 3, 0)]), 3, (0x20001000 + 1 * 0x3000), 1, by decide, by decide, by decide, by decide, by decide, by decide⟩,
   ⟨(rgAt 3 6 { Ring.reset with cycle := 0 } []), 3, by decide, by decide⟩,
   ⟨(rgAt 3 6 { Ring.reset with nodes := [(9, nf 1 2)] } [(Adr.EFR_STAT 3, 0x66)]), 3, true, 6, by decide, by decide, by decide, by decide⟩,
   ⟨(rgAt 3 0x36 { Ring.reset with cycle := 0 } []), 3, true, 6, 5, by decide, by decide, by decide, by decide, by decide⟩,
   ⟨(rgAt 3 0x16 { Ring.reset with cycle := 0 } []), 3, true, 6, 5, by decide, by decide, by decide, by decide⟩,
   ⟨(rgAt 3 0 { Ring.reset with cycle := 0 } [(Adr.EFR_TQCFG 3, 3), (Adr.EFR_TQBASE 3, 0x20000000), (Adr.EFR_TQHEAD 3, 3), (Adr.EFR_TQTAIL 3, 3)]), 0, 3, 2#8, by decide, by decide, by decide, by decide, by decide⟩,
   ⟨(lay (rgAt 3 6 { Ring.reset with nodes := [(9, nf 1 2)] } [(Adr.EFR_TQCFG 3, 3), (Adr.EFR_TQBASE 3, 0x20000000), (Adr.EFR_TQHEAD 3, 3), (Adr.EFR_TQTAIL 3, 3)]) [(0x20000030 + 0, 0x10010009), (0x20000030 + 4, 0), (0x20000030 + 8, 0x20001000), (0x20000030 + 12, 0)]), 0, 3, 0#8, 3, ([0x10010009#32, 0#32, 0x20001000#32, 0#32]), by decide, by decide, by decide, by decide, by decide, by decide, by decide, by decide, by decide, by decide, by decide, by decide, by decide⟩,
   ⟨(lay (rgAt 3 5 { Ring.reset with nodes := [(9, nf 1 2)] } [(Adr.EFR_TQCFG 3, 3), (Adr.EFR_TQBASE 3, 0x20000000), (Adr.EFR_TQHEAD 3, 3), (Adr.EFR_TQTAIL 3, 3)]) [(0x20000030 + 0, 0x10000009), (0x20000030 + 4, 0), (0x20000030 + 8, 0x20001000), (0x20000030 + 12, 0)]), 0, 3, 0#8, 3, ([0x10000009#32, 0#32, 0x20001000#32, 0#32]), by decide, by decide, by decide, by decide, by decide, by decide, by decide, by decide, by decide, by decide, by decide, by decide, by decide, by decide⟩,
   ⟨(lay (rgAt 3 6 { Ring.reset with tags := [(7, ⟨2, [0x10010009#32, 0#32, 0x20001000#32, 0#32]⟩)] } [(Adr.EFR_TQCFG 3, 3), (Adr.EFR_TQBASE 3, 0x20000000), (Adr.EFR_TQHEAD 3, 3), (Adr.EFR_TQTAIL 3, 3)]) [(0x20000024, 0x7FFFFFFF)]), 3, 7, ((⟨2, [0x10010009#32, 0#32, 0x20001000#32, 0#32]⟩ : RingTx)), 0x20000024, (.ringTransactionTimeout (3 : Fin 4) (7 : Fin 32)), 3, by decide, by decide, by decide, by decide, by decide, .inl ⟨rfl, rfl⟩⟩,
   ⟨(rgAt 3 6 { Ring.reset with tags := [(7, ⟨2, [0x10010009#32, 0#32, 0x20001000#32, 0#32]⟩)] } [(Adr.EFR_TQCFG 3, 3), (Adr.EFR_TQBASE 3, 0x20000000), (Adr.EFR_TQHEAD 3, 3), (Adr.EFR_TQTAIL 3, 3)]), 3, 7, ((⟨2, [0x10010009#32, 0#32, 0x20001000#32, 0#32]⟩ : RingTx)), 0x20000024, 0x20001000, by decide, by decide, by decide, by decide, by decide, by decide, by decide, by decide, by decide, by decide⟩,
   ⟨(rgAt 3 6 { Ring.reset with tags := [(7, ⟨2, [0x10010009#32, 0#32, 0x20001000#32, 0#32]⟩)] } [(Adr.EFR_TQCFG 3, 3), (Adr.EFR_TQBASE 3, 0x20000000), (Adr.EFR_TQHEAD 3, 3), (Adr.EFR_TQTAIL 3, 3)]), 3, 6, by decide, by decide⟩⟩

theorem witness_CorrelatorBlocks :
    (∃ (s : State) (port : Port) (k : Fin 4), s.Owns port Pg.ZCOR ∧ s.refusalOf port (Adr.ZCOR_ZCTRL k) .plain 1#32 = none ∧ s.pageEn Pg.ZCOR = true ∧ s.ringState k = 6 ∧ s.zState k ≠ 3)
    ∧ (∃ (s : State) (port : Port) (k : Fin 4), s.Owns port Pg.ZCOR ∧ s.refusalOf port (Adr.ZCOR_ZCTRL k) .plain 1#32 = none ∧ (s.ringState k ≠ 6 ∨ s.zState k = 3))
    ∧ (∃ (s : State) (port : Port) (k : Fin 4), s.Owns port Pg.ZCOR ∧ s.refusalOf port (Adr.ZCOR_ZCTRL k) .plain 2#32 = none)
    ∧ (∃ (s : State), ∃ (k : Fin 4), ∃ dst, s.zState k = 3 ∧ Memory.wf s.mem ∧ dst = (s.reg (Adr.ZCOR_ZDST k)).toNat ∧ inSram dst 0x80080 = true)
    ∧ (∃ (s : State) (k : Fin 4), s.zState k ≠ 3) :=
  ⟨⟨(lay (rgAt 3 6 { Ring.reset with cycle := 0 } [(Adr.POWNER Pg.ZCOR, 1), (Adr.PCTRL Pg.ZCOR, 1), (Adr.ZCOR_ZSTAT 3, 0), (Adr.ZCOR_ZN 3, 5), (Adr.ZCOR_IIL0 3 + 8, 9)]) [(0x28180000, 0x11223344), (0x281FFFFC, 0x55), (0x20001000, 0xFFFFFFFF), (0x20000FFC, 7)]), 0, 3, by decide, by decide, by decide, by decide, by decide⟩,
   ⟨(rgAt 3 5 { Ring.reset with cycle := 0 } [(Adr.POWNER Pg.ZCOR, 1), (Adr.PCTRL Pg.ZCOR, 1), (Adr.ZCOR_ZSTAT 3, 0)]), 0, 3, by decide, by decide, by decide⟩,
   ⟨(rgAt 3 6 { Ring.reset with cycle := 0 } [(Adr.POWNER Pg.ZCOR, 1), (Adr.PCTRL Pg.ZCOR, 1), (Adr.ZCOR_ZSTAT 3, 1)]), 0, 3, by decide, by decide⟩,
   ⟨(lay (rgAt 3 6 { Ring.reset with cycle := 0 } [(Adr.POWNER Pg.ZCOR, 1), (Adr.PCTRL Pg.ZCOR, 1), (Adr.ZCOR_ZSTAT 3, 3), (Adr.ZCOR_ZDST 3, 0x20001000), (Adr.ZCOR_IIL0 3 + 8, 9)]) [(0x28180000, 0x11223344), (0x281FFFFC, 0x55), (0x20001000, 0xFFFFFFFF), (0x20000FFC, 7)]), 3, 0x20001000, by decide, by decide, by decide, by decide⟩,
   ⟨(rgAt 3 6 { Ring.reset with cycle := 0 } [(Adr.POWNER Pg.ZCOR, 1), (Adr.PCTRL Pg.ZCOR, 1), (Adr.ZCOR_ZSTAT 3, 1)]), 3, by decide⟩⟩

theorem witness_MailboxRecords :
    (∃ (s : State) (pair : Fin 2), s.Calls pair 0x01 0)
    ∧ (∃ (s : State) (pair : Fin 2), s.Calls pair 0x50 0)
    ∧ (∃ (s : State), ∃ (pair : Fin 2), ∃ off, ∃ len, s.Calls pair 0x21 0 ∧ 8 ≤ s.reqLen pair ∧ (s.reqWord pair 0).toNat = off ∧ (s.reqWord pair 1).toNat = len ∧ len ≤ 16384 ∧ off + len ≤ dataRoom)
    ∧ (∃ (s : State), ∃ (pair : Fin 2), ∃ off, ∃ len, ∃ b, s.Calls pair 0x42 0 ∧ 8 ≤ s.reqLen pair ∧ (s.reqWord pair 0).toNat = off ∧ (s.reqWord pair 1).toNat = len ∧ len ≤ 16384 ∧ off + len ≤ 0x100000 ∧ s.newestBank bbMagic bb0 bb1 0x100000 = some b)
    ∧ (∃ (s : State), ∃ (pair : Fin 2), ∃ off, ∃ len, s.Calls pair 0x60 0 ∧ 8 ≤ s.reqLen pair ∧ (s.reqWord pair 0).toNat = off ∧ (s.reqWord pair 1).toNat = len ∧ len ≤ 16384 ∧ off ≤ s.passport.length)
    ∧ (∃ (s : State) (pair : Fin 2), s.Calls pair 0x15 0 ∧ 16 ≤ s.reqLen pair)
    ∧ (∃ (s : State), ∃ (pair : Fin 2), ∃ n, s.Calls pair 0x16 0 ∧ 0 < n ∧ s.reqLen pair = 8 * n ∧ ((∀ k, k < n → (s.reqWord pair (2 * k)).toNat / 8 = pair.val)))
    ∧ (∃ (s : State) (pair : Fin 2), s.Calls pair 0x40 0 ∧ 4 ≤ s.reqLen pair ∧ s.gms.bb.log.length < 8192)
    ∧ (∃ (s : State) (pair : Fin 2), s.Calls pair 0x43 0 ∧ 36 ≤ s.reqLen pair ∧ 10 ≤ (s.reqWord pair 8).toNat ∧ (s.reqWord pair 8).toNat ≤ 3600)
    ∧ (∃ (s : State) (pair : Fin 2), s.Calls pair 0x44 0 ∧ 92 ≤ s.reqLen pair ∧ 1 ≤ (s.reqWord pair 16).toNat ∧ (s.reqWord pair 16).toNat ≤ 1000 ∧ (s.reqWord pair 17).toNat ≤ 2000)
    ∧ (∃ (s : State) (pair : Fin 2) (w : Bool), (s.Calls pair 0x45 0) ∧ (4 ≤ s.reqLen pair) ∧ (s.reqWord pair 0 = (if w then 1#32 else 0#32)))
    ∧ (∃ (s : State) (pair : Fin 2), s.Calls pair 0x61 0 ∧ 24 ≤ s.reqLen pair ∧ s.gms.meter.trend.length < 1024) :=
  ⟨⟨(call (up) 1 0x1 []), 1, by decide⟩,
   ⟨(call ({ up with gms := { up.gms with meter := { up.gms.meter with eIn := 2^70, qOut := 5 * 2^32, gapTicks := 1200000, calseq := 9 } } }) 0 0x50 []), 0, by decide⟩,
   ⟨(call up 0 0x21 [0, 16384]), 0, 0, 16384, by decide, by decide, by decide, by decide, by decide, by decide⟩,
   ⟨(call ((let s := lay up [(bb0, bbMagic.toNat), (bb0 + 4, 5), (bb0 + 8, 32), (bb0 + 16, 0x04030201)]; lay s [(bb0 + 12, (crc32 (s.bytes bb0 12 ++ s.bytes (bb0 + 16) 16)).toNat)])) 0 0x42 [16, 16]), 0, 16, 16, bb0, by decide, by decide, by decide, by decide, by decide, by decide, by decide⟩,
   ⟨(call (up) 1 0x60 [20, 16384]), 1, 20, 16384, by decide, by decide, by decide, by decide, by decide, by decide⟩,
   ⟨(call (poke up [(Adr.SYS_WAKESRC, 7)]) 0 0x15 [0xFFFFFFFF, 1, 77, 5]), 0, by decide, by decide⟩,
   ⟨(call (up) 1 0x16 [8, 1, 15, 2, 8, 3]), 1, 3, by decide, by decide, by decide, by decide⟩,
   ⟨(call (up) 0 0x40 [0x12345]), 0, by decide, by decide, by decide⟩,
   ⟨(call (up) 1 0x43 [1, 2, 3, 4, 5, 6, 7, 8, 10]), 1, by decide, by decide, by decide, by decide⟩,
   ⟨(call (up) 0 0x44 [32, 33, 34, 35, 36, 37, 38, 39, 40, 41, 42, 43, 44, 45, 46, 0x1FFFF, 1, 0, 0x80000007, 0x00000009, 0x800000FF, 0xFFFFFFFF, 0]), 0, by decide, by decide, by decide, by decide, by decide⟩,
   ⟨(call (poke up [(Adr.MBX_GSTAT, 0x1000)]) 0 0x45 [1]), 0, true, by decide, by decide, by decide⟩,
   ⟨(call (up) 0 0x61 [1, 2, 3, 4, 5, 6]), 0, by decide, by decide, by decide⟩⟩

theorem witness_LockStep :
    (∃ (s : State) (n : Fin 2), s.windowsRun n = true ∧ (s.pair n).window = none)
    ∧ (∃ (s : State), ∃ (n : Fin 2), ∃ w, (s.pair n).window = some w ∧ w.main = w.checker ∧ (s.pair n).final = false)
    ∧ (∃ (s : State), ∃ (n : Fin 2), ∃ w, (s.pair n).window = some w ∧ w.main = w.checker ∧ (s.pair n).final = true)
    ∧ (∃ (s : State), ∃ (n : Fin 2), ∃ w, ∃ ok, (s.pair n).window = some w ∧ s.pairMode n ≠ 3 ∧ ((ok = false ∨ (w.main ≠ w.checker ∧ w.async = false))))
    ∧ (∃ (s : State) (n : Fin 2), s.pairRuns n = true ∧ s.pairMode n = 1)
    ∧ (∃ (s : State) (c : Fin 4) (rd : Fin 32), s.coreRuns c = true ∧ rd ≠ 0)
    ∧ (∃ (s : State) (c : Fin 4), s.coreRuns c = true)
    ∧ (∃ (s : State) (c : Fin 4) (k : Fin 4), s.coreRuns c = true ∧ bit ((s.core c).csrReg 0x7C0) k = true ∧ s.pairMode (c / 2) = 1)
    ∧ (∃ (s : State) (n : Fin 2), s.debugOpen n = true)
    ∧ (∃ (s : State) (n : Fin 2), s.debugOpen n = true ∧ s.flag (Adr.PAIR_STAT n) 6 = true ∧ s.pairMode n = 1 ∧ (s.pair n).replay.length < 64)
    ∧ (∃ (s : State) (n : Fin 2), s.pairRuns n = true ∧ s.flag (Adr.PAIR_STAT n) 6 = true ∧ s.pairMode n = 1)
    ∧ (∃ (s : State) (n : Fin 2), s.Calls n 0x13 0 ∧ s.pairMode (1 - n.val) = 3 ∧ s.domOn (3 + (1 - n.val)) = true)
    ∧ (∃ (s : State) (n : Fin 2), s.Calls n 0x13 0 ∧ s.pairMode (1 - n.val) ≠ 3) :=
  ⟨⟨(poke { up with pairs := [(1, { PairSt.reset with inReset := false, loaded := true })] } [(Adr.PAIR_STAT 1, 9), (Adr.POWNER (Pg.PAIR 1), 2), (Adr.PCTRL (Pg.PAIR 1), 1)]), 1, by decide, by decide⟩,
   ⟨(poke { up with pairs := [(1, { PairSt.reset with inReset := false, loaded := true, window := some ⟨0x1234567800000000#64, 0x1234567800000000#64, true⟩ })], cores := [(2, { Core.reset with x := [(5, 9#32)], f := [(1, 2#32)], csr := [(0x7C0, 2#32)], pc := 5#32, stalled := true }), (3, { Core.reset with x := [(6, 9#32)], stalled := true })] } [(Adr.PAIR_STAT 1, 1), (Adr.POWNER (Pg.PAIR 1), 2), (Adr.PCTRL (Pg.PAIR 1), 1), (Adr.PAIR_WINCNT 1, 0xFFFFFFFF)]), 1, ((⟨0x1234567800000000#64, 0x1234567800000000#64, true⟩ : Window)), by decide, by decide, by decide⟩,
   ⟨(poke { up with pairs := [(1, { PairSt.reset with inReset := false, loaded := true, window := some ⟨0x1234567800000000#64, 0x1234567800000000#64, true⟩, final := true })], cores := [(2, { Core.reset with x := [(5, 9#32)], f := [(1, 2#32)], csr := [(0x7C0, 2#32)], pc := 5#32, stalled := true }), (3, { Core.reset with x := [(6, 9#32)], stalled := true })] } [(Adr.PAIR_STAT 1, 1), (Adr.POWNER (Pg.PAIR 1), 2), (Adr.PCTRL (Pg.PAIR 1), 1), (Adr.PAIR_SPLIT_ENTRY 1, 0x100)]), 1, ((⟨0x1234567800000000#64, 0x1234567800000000#64, true⟩ : Window)), by decide, by decide, by decide⟩,
   ⟨(poke { up with pairs := [(1, { PairSt.reset with inReset := false, loaded := true, window := some ⟨1#64, 2#64, false⟩ })], cores := [(2, { Core.reset with x := [(5, 9#32)], f := [(1, 2#32)], csr := [(0x7C0, 2#32)], pc := 5#32, stalled := true }), (3, { Core.reset with x := [(6, 9#32)], stalled := true })] } [(Adr.PAIR_STAT 1, 1), (Adr.POWNER (Pg.PAIR 1), 2), (Adr.PCTRL (Pg.PAIR 1), 1)]), 1, ((⟨1#64, 2#64, false⟩ : Window)), true, by decide, by decide, by decide⟩,
   ⟨(poke { up with pairs := [(1, { PairSt.reset with inReset := false, loaded := true })], cores := [(2, { Core.reset with x := [(5, 9#32)], f := [(1, 2#32)], csr := [(0x7C0, 2#32)], pc := 5#32, stalled := true }), (3, { Core.reset with x := [(6, 9#32)], stalled := true })] } [(Adr.PAIR_STAT 1, 1), (Adr.POWNER (Pg.PAIR 1), 2), (Adr.PCTRL (Pg.PAIR 1), 1)]), 1, by decide, by decide⟩,
   ⟨(poke { up with pairs := [(1, { PairSt.reset with inReset := false, loaded := true })], cores := [(2, { Core.reset with x := [(5, 9#32), (6, 7#32)] })] } [(Adr.PAIR_STAT 1, 1), (Adr.POWNER (Pg.PAIR 1), 2), (Adr.PCTRL (Pg.PAIR 1), 1), (Adr.PAIR_FINSEL 1, 0x20), (cmpStat 17, 2)]), 2, 5, by decide, by decide⟩,
   ⟨(poke { up with pairs := [(1, { PairSt.reset with inReset := false, loaded := true })] } [(Adr.PAIR_STAT 1, 1), (Adr.POWNER (Pg.PAIR 1), 2), (Adr.PCTRL (Pg.PAIR 1), 1)]), 2, by decide⟩,
   ⟨(poke { up with pairs := [(1, { PairSt.reset with inReset := false, loaded := true })], cores := [(2, { Core.reset with csr := [(0x7C0, 8#32)] })] } [(Adr.PAIR_STAT 1, 1), (Adr.POWNER (Pg.PAIR 1), 2), (Adr.PCTRL (Pg.PAIR 1), 1)]), 2, 3, by decide, by decide, by decide⟩,
   ⟨(poke { up with pairs := [(1, { PairSt.reset with inReset := false, loaded := true })] } [(Adr.PAIR_STAT 1, 1), (Adr.POWNER (Pg.PAIR 1), 2), (Adr.PCTRL (Pg.PAIR 1), 1), (Adr.MBX_GSTAT, 3)]), 1, by decide⟩,
   ⟨(poke { up with pairs := [(1, { PairSt.reset with inReset := false, loaded := true, replay := [(.gpr 3, 1#32)] })] } [(Adr.PAIR_STAT 1, 0x41), (Adr.POWNER (Pg.PAIR 1), 2), (Adr.PCTRL (Pg.PAIR 1), 1), (Adr.MBX_GSTAT, 3)]), 1, by decide, by decide, by decide, by decide⟩,
   ⟨(poke { up with pairs := [(1, { PairSt.reset with inReset := false, loaded := true, replay := [(.gpr 5, 7#32)] })], cores := [(2, { Core.reset with x := [(5, 9#32)], f := [(1, 2#32)], csr := [(0x7C0, 2#32)], pc := 5#32, stalled := true }), (3, { Core.reset with x := [(6, 9#32)], stalled := true })] } [(Adr.PAIR_STAT 1, 0x41), (Adr.POWNER (Pg.PAIR 1), 2), (Adr.PCTRL (Pg.PAIR 1), 1)]), 1, by decide, by decide, by decide⟩,
   ⟨(call (poke { up with pairs := [(1, { PairSt.reset with inReset := false, loaded := true, wire := true })] } [(Adr.PAIR_STAT 1, 3), (Adr.POWNER (Pg.PAIR 1), 2), (Adr.PCTRL (Pg.PAIR 1), 1)]) 0 0x13 []), 0, by decide, by decide, by decide⟩,
   ⟨(call up 0 0x13 []), 0, by decide, by decide⟩⟩

theorem witness_CopiesAndLocks :
    (∃ (s : State) (n : Fin 2), (s.pair n).copying = true ∧ s.pairMode n = 1)
    ∧ (∃ (s : State) (n : Fin 2), (s.pair n).copying = true ∧ s.pairMode n = 0 ∧ s.icxTags (mainCore n) = 0 ∧ s.icxTags (checkCore n) = 0)
    ∧ (∃ (s : State), ∃ (n : Fin 2), ∃ c, (s.pair n).syncCore = some c ∧ (s.pair n).copying = false)
    ∧ (∃ (s : State) (c : Fin 4), s.Owns c (Pg.PAIR (c / 2)) ∧ s.refusalOf c (Adr.PAIR_SYNC (c / 2)) .plain 1#32 = none ∧ s.pairMode (c / 2) = 0 ∧ (s.pair (c / 2)).syncCore = none)
    ∧ (∃ (s : State), ∃ (c : Fin 4), ∃ d, s.Owns c (Pg.PAIR (c / 2)) ∧ s.refusalOf c (Adr.PAIR_SYNC (c / 2)) .plain 1#32 = none ∧ s.pairMode (c / 2) = 0 ∧ (s.pair (c / 2)).syncCore = some d ∧ d ≠ c.val)
    ∧ (∃ (s : State) (c : Fin 4), s.Owns c (Pg.PAIR (c / 2)) ∧ s.refusalOf c (Adr.PAIR_SPLIT (c / 2)) .plain 1#32 = none ∧ s.pairMode (c / 2) = 1 ∧ c.val = mainCore (c / 2) ∧ s.pairMarked (c / 2) = false)
    ∧ (∃ (s : State) (c : Fin 4), s.Owns c (Pg.PAIR (c / 2)) ∧ s.refusalOf c (Adr.PAIR_SPLIT (c / 2)) .plain 1#32 = none ∧ s.pairMode (c / 2) = 1 ∧ c.val = mainCore (c / 2) ∧ s.pairMarked (c / 2) = true) :=
  ⟨⟨(poke { up with pairs := [(1, { PairSt.reset with inReset := false, loaded := true, copying := true })], cores := [(2, { Core.reset with x := [(5, 9#32)], f := [(1, 2#32)], csr := [(0x7C0, 2#32)], pc := 5#32, stalled := true }), (3, { Core.reset with x := [(6, 9#32)], stalled := true })] } [(Adr.PAIR_STAT 1, 1), (Adr.POWNER (Pg.PAIR 1), 2), (Adr.PCTRL (Pg.PAIR 1), 1)]), 1, by decide, by decide⟩,
   ⟨(poke { up with pairs := [(1, { PairSt.reset with inReset := false, loaded := true, copying := true })], cores := [(2, { Core.reset with x := [(5, 9#32)], f := [(1, 2#32)], csr := [(0x7C0, 2#32)], pc := 5#32, stalled := true }), (3, { Core.reset with x := [(6, 9#32)], stalled := true })] } [(Adr.PAIR_STAT 1, 0), (Adr.POWNER (Pg.PAIR 1), 2), (Adr.PCTRL (Pg.PAIR 1), 1), (Adr.PAIR_WINCNT 1, 9), (Adr.PAIR_ALIGNCNT 1, 9)]), 1, by decide, by decide, by decide, by decide⟩,
   ⟨(poke { up with pairs := [(1, { PairSt.reset with inReset := false, loaded := true, syncCore := some 2 })], cores := [(2, { Core.reset with x := [(5, 9#32)], f := [(1, 2#32)], csr := [(0x7C0, 2#32)], pc := 5#32, stalled := true }), (3, { Core.reset with x := [(6, 9#32)], stalled := true })] } [(Adr.PAIR_STAT 1, 4), (Adr.POWNER (Pg.PAIR 1), 2), (Adr.PCTRL (Pg.PAIR 1), 1)]), 1, 2, by decide, by decide⟩,
   ⟨(poke { up with pairs := [(1, { PairSt.reset with inReset := false, loaded := true })] } [(Adr.PAIR_STAT 1, 0), (Adr.POWNER (Pg.PAIR 1), 2), (Adr.PCTRL (Pg.PAIR 1), 1)]), 3, by decide, by decide, by decide, by decide⟩,
   ⟨(poke { up with pairs := [(1, { PairSt.reset with inReset := false, loaded := true, syncCore := some 2 })] } [(Adr.PAIR_STAT 1, 4), (Adr.POWNER (Pg.PAIR 1), 2), (Adr.PCTRL (Pg.PAIR 1), 1)]), 3, 2, by decide, by decide, by decide, by decide, by decide⟩,
   ⟨(poke { up with pairs := [(1, { PairSt.reset with inReset := false, loaded := true })] } [(Adr.PAIR_STAT 1, 0x11), (Adr.POWNER (Pg.PAIR 1), 2), (Adr.PCTRL (Pg.PAIR 1), 1)]), 2, by decide, by decide, by decide, by decide, by decide⟩,
   ⟨(poke { up with pairs := [(0, { PairSt.reset with inReset := false, loaded := true })] } [(Adr.PAIR_STAT 0, 1), (Adr.POWNER (Pg.PAIR 0), 1), (Adr.PCTRL (Pg.PAIR 0), 1), (Adr.POWNER Pg.HK, 1), (Adr.PCTRL Pg.HK, 9)]), 0, by decide, by decide, by decide, by decide, by decide⟩⟩

end Sys2Proof.Tests
end

section
/-! SUPPORT. METER_CAL and a passport that is too long: where the bytes of a two-bank record land (R406, R417), and the refutation of RecordRequests. -/

namespace Sys2Proof.Machine

/-! ### Where a record's bytes land (R406) -/

theorem bankHeader_length (magic seq : Word) (body : List Byte) : (bankHeader magic seq body).length = 16 := by
  simp [bankHeader]

/-- The body of a written record stands behind the 16 bytes of its header, however long it is. -/
theorem State.writeBank_byte_body (s : State) (magic : Word) (b0 b1 size : Nat) (body : List Byte) {k : Nat} (hk : k < body.length) :
    (s.writeBank magic b0 b1 size body).byte (s.targetBank magic b0 b1 size + 16 + k) = body[k] := by
  unfold State.writeBank State.mramWrote
  rw [State.byte_congr (State.setPwr_mem ..), State.byte_putBytes_ne _ _ (by rw [bankHeader_length]; omega), State.byte_putBytes,
    dif_pos (by omega)]
  congr 1
  omega

theorem State.targetBank_cases (s : State) (magic : Word) (b0 b1 size : Nat) :
    s.targetBank magic b0 b1 size = b0 ∨ s.targetBank magic b0 b1 size = b1 := by
  unfold State.targetBank
  split
  · exact .inr rfl
  · exact .inl rfl

@[simp] theorem natBytes_length (n v : Nat) : (natBytes n v).length = n := by
  induction n generalizing v with
  | zero => rfl
  | succ n ih => rw [natBytes, List.length_cons, ih]

/-- A row of the passport's trend whose 24 bytes all read 0xFF. -/
def allOnes : ZTrend := ⟨~~~0#32, ~~~0#32, ~~~0#32, ~~~0#32, ~~~0#32, ~~~0#32⟩

/-- Behind the three histograms (240 bytes) a trend of n such rows fills 24 n bytes of the passport record with 0xFF. -/
theorem Meter.passport_trend {m : Meter} {n k : Nat} (hm : m.trend = List.replicate n allOnes) (h0 : 240 ≤ k) (h1 : k < 240 + n * 24) :
    ∃ h : k < m.passport.length, m.passport[k] = 0xFF#8 := by
  have hrows : (m.trend.flatMap fun z => wordBytes z.rtc ++ wordBytes z.mHz ++ wordBytes z.cells ++ wordBytes z.median ++ wordBytes z.p95 ++
      wordBytes z.maxZ) = List.replicate (n * 24) 0xFF#8 := by
    rw [hm, List.flatMap_replicate, ← List.flatten_replicate_replicate]
    rfl
  refine List.getElem?_eq_some_iff.mp ?_
  unfold Meter.passport
  rw [hrows, List.append_assoc, List.getElem?_append_right (by simp ; omega),
    List.getElem?_append_left (by simp ; omega), List.getElem?_replicate, if_pos (by simp ; omega)]

/-! ### METER_CAL (R417) -/

theorem State.logKind_trend (s : State) (k : LogKind) (event low : Nat) : (s.logKind k event low).gms.meter.trend = s.gms.meter.trend := by
  unfold State.logKind State.logEntry State.setBb
  split <;> simp

/-- An accepted METER_CAL ends by writing the meter and passport records, of a meter whose trend is the one before. -/
theorem State.ansMeterCal_writes (s : State) (pair : Nat) (h : 44 ≤ s.reqLen pair) :
    ∃ v : State, v.gms.meter.trend = s.gms.meter.trend ∧ s.ansMeterCal pair = (v.meterWrite, 0, []) := by
  unfold State.ansMeterCal
  rw [if_neg (by omega)]
  refine ⟨_, ?_, rfl⟩
  rw [State.logKind_trend]
  rfl

/-- A passport whose trend has 2^26 rows of ones or more reaches from MRAM into the mailbox window: DOORBELL of PAIR0's area reads 0xFF. -/
theorem State.meterWrite_overruns (s : State) {n : Nat} (hn : 0x4000000 ≤ n) (hs : s.gms.meter.trend = List.replicate n allOnes) :
    s.meterWrite.byte (mbxBase 0) = 0xFF#8 := by
  unfold State.meterWrite
  dsimp only
  generalize s.writeBank Config.meterMagic meter0 (meter0 + 0x1000) 0x1000 s.gms.meter.record = u
  have ht := u.targetBank_cases Config.meterMagic pass0 (pass0 + 0x80000) 0x80000
  obtain ⟨hk, hb⟩ := Meter.passport_trend hs
    (k := mbxBase 0 - (u.targetBank Config.meterMagic pass0 (pass0 + 0x80000) 0x80000 + 16))
    (by unfold mbxBase pass0 at *; omega) (by unfold mbxBase pass0 at *; omega)
  rw [State.byte_congr (State.setKept_mem ..), ← hb, ← u.writeBank_byte_body Config.meterMagic pass0 (pass0 + 0x80000) 0x80000 _ hk]
  congr 1
  unfold mbxBase pass0 at *
  omega

/-! ### The refutation -/

/-- PAIR0's METER_CAL of 44 bytes is the first in doorbell order, at level 2; the passport's trend holds 2^26 rows. -/
def overlongPassport : State :=
  ({ State.reset with
    mem := [(0x50000008, 0x51#8), (0x5000000C, 44#8)]
    gms := { Gms.reset with doors := [0], meter := { Meter.reset with trend := List.replicate 0x4000000 allOnes } } }).setReg
    Adr.MBX_GSTAT 2#32

theorem overlongPassport_calls : overlongPassport.Calls (0 : Fin 2) 0x51 2 ∧ 44 ≤ overlongPassport.reqLen (0 : Fin 2) := by
  refine ⟨⟨rfl, rfl, rfl, ?_, ?_⟩, ?_⟩ <;> decide

/-- Refutes O24: nothing in the statement bounds the pack passport, which METER_CAL writes to MRAM beside the meter record (R417, R418). With a
trend of 2^26 rows (a list that PASSPORT_ZADD thins to 1024 rows, so that no run builds it) the record runs over the end of MRAM into the mailbox
window, and the SEQ that STATUS answers with is a byte of the passport, 0xFF, where the doorbell held 0. -/
theorem not_recordRequests : ¬ Obligations.RecordRequests := by
  unfold Obligations.RecordRequests
  intro h
  obtain ⟨-, -, -, hcal, -⟩ := h 0 overlongPassport
  obtain ⟨hcalls, hlen⟩ := overlongPassport_calls
  obtain ⟨t, ht, hans, -⟩ := hcal hcalls hlen (by decide)
  obtain ⟨v, hv, hans'⟩ := overlongPassport.ansMeterCal_writes 0 hlen
  have hrun := ht.symm.trans (overlongPassport.mbxRun_done (f := fun t => t.ansMeterCal 0) hcalls)
  simp only [hans', Host.Outcome.next.injEq] at hrun
  have hff := v.meterWrite.answeredFrom_answered v.meterWrite 0 0 [] rfl
  unfold State.Answered at hans hff
  rw [hrun, Fin.val_zero, hff, v.meterWrite_overruns (Nat.le_refl _) hv] at hans
  exact absurd hans (by decide)

end Sys2Proof.Machine
end

section
/-! SUPPORT. Frames of registers: a set of registers that reads as before, and how each shared operation keeps it. -/

namespace Sys2Proof.Machine

/-- Every register that P names reads in t as in s. -/
structure State.RegsOn (P : Nat → Prop) (s t : State) : Prop where
  same : ∀ a, P a → t.reg a = s.reg a

section
variable {P Q : Nat → Prop} {s t u : State}

theorem State.RegsOn.refl : State.RegsOn P s s := ⟨fun _ _ => rfl⟩

theorem State.RegsOn.trans (h : State.RegsOn P s t) (k : State.RegsOn P t u) : State.RegsOn P s u :=
  ⟨fun a ha => (k.same a ha).trans (h.same a ha)⟩

theorem State.RegsOn.mono (h : State.RegsOn P s t) (hQ : ∀ a, Q a → P a) : State.RegsOn Q s t :=
  ⟨fun a ha => h.same a (hQ a ha)⟩

theorem State.RegsOn.flag (h : State.RegsOn P s t) {a : Nat} (ha : P a) (i : Nat) : t.flag a i = s.flag a i := by
  rw [State.flag_eq, State.flag_eq, h.same a ha]

theorem State.RegsOn.fld (h : State.RegsOn P s t) {a : Nat} (ha : P a) (hi lo : Nat) : t.fld a hi lo = s.fld a hi lo := by
  rw [State.fld_eq, State.fld_eq, h.same a ha]

/-- A step that leaves the list of registers alone keeps every frame. -/
theorem State.RegsOn.of_regs (h : t.regs = s.regs) : State.RegsOn P s t := ⟨fun a _ => by unfold State.reg; rw [h]⟩

variable (s)

theorem State.setKey_regsOn (p : Nat) (k : Key) : State.RegsOn P s (s.setKey p k) := .of_regs rfl

theorem State.setReg_regsOn {a : Nat} (h : ¬ P a) (v : Word) : State.RegsOn P s (s.setReg a v) :=
  ⟨fun b hb => s.reg_setReg_ne v (by rintro rfl; exact h hb)⟩

theorem State.setFld_regsOn {a : Nat} (h : ¬ P a) (hi lo v : Nat) : State.RegsOn P s (s.setFld a hi lo v) := s.setReg_regsOn h _

theorem State.setFlag_regsOn {a : Nat} (h : ¬ P a) (i : Nat) (b : Bool) : State.RegsOn P s (s.setFlag a i b) := s.setReg_regsOn h _

theorem State.orReg_regsOn {a : Nat} (h : ¬ P a) (m : Word) : State.RegsOn P s (s.orReg a m) := s.setReg_regsOn h _

theorem State.bump_regsOn {a : Nat} (h : ¬ P a) (hi lo : Nat) : State.RegsOn P s (s.bump a hi lo) := s.setFld_regsOn h _ _ _

theorem State.wrap_regsOn {a : Nat} (h : ¬ P a) (hi lo : Nat) : State.RegsOn P s (s.wrap a hi lo) := s.setFld_regsOn h _ _ _

theorem State.raise_regsOn {p : Nat} (h : ¬ P (Adr.PEVT p)) (i : Nat) : State.RegsOn P s (s.raise p i) :=
  ⟨fun a ha => s.raise_reg_ne p i (by rintro rfl; exact h ha)⟩

theorem State.when_regsOn {f : State → State} (h : ∀ t, State.RegsOn P t (f t)) (b : Bool) : State.RegsOn P s (s.when b f) := by
  cases b
  · exact .refl
  · exact h s

theorem State.each_regsOn {f : State → Nat → State} {l : List Nat} (h : ∀ t, ∀ k ∈ l, State.RegsOn P t (f t k)) :
    State.RegsOn P s (s.each l f) := by
  unfold State.each
  induction l generalizing s with
  | nil => exact .refl
  | cons k l ih => exact (h s k (by simp)).trans (ih (f s k) fun t j hj => h t j (by simp [hj]))

variable {s}

/-- What a command's answer keeps: the registers outside a list that its meaning left alone, and memory. -/
theorem State.RegsOn.keepsBut {l : List Nat} (h : State.RegsOn (· ∉ l) s u) (hm : u.mem = s.mem) : s.KeepsBut l u.settle := by
  refine ⟨fun a ha hi => ?_, fun a => ?_⟩
  · rw [State.settle_reg _ hi, h.same a ha]
  · rw [State.byte_congr (u.settle_mem.trans hm)]

/-- Power as it was and PDSTAT as it was: the same pages are powered. -/
theorem State.RegsOn.pageOn (h : State.RegsOn P s t) (hP : P Adr.SYS_PDSTAT) (hp : t.pwr = s.pwr) (p : Nat) : t.pageOn p = s.pageOn p := by
  simp only [State.pageOn, State.domOn, h.flag hP, hp]

end

end Sys2Proof.Machine
end

section
/-! SUPPORT. The Twin link (R428 to R432): what each of its operations leaves in STAT, HBCNT and PEVT of TWIN, in the link's own
state and on Shroud's wires. -/

namespace Sys2Proof.Machine

/-! ### Fields and flags -/

/-- A field whose bits read alike reads alike. -/
theorem State.fld_congr {s t : State} {a hi lo : Nat} (h : ∀ i, lo ≤ i → i ≤ hi → t.flag a i = s.flag a i) :
    t.fld a hi lo = s.fld a hi lo := by
  apply Nat.eq_of_testBit_eq
  intro k
  rw [State.fld_eq, State.fld_eq, bits_testBit, bits_testBit]
  by_cases hk : k < hi + 1 - lo
  · have := h (lo + k) (by omega) (by omega)
    simp only [State.flag_eq] at this
    rw [this]
  · simp [hk]

theorem State.fld_setFld_self (s : State) (a hi lo v : Nat) (h : hi < 32) : (s.setFld a hi lo v).fld a hi lo = v % 2 ^ (hi + 1 - lo) := by
  rw [State.fld_eq, State.reg_setFld, if_pos rfl, bits_setBits_self _ _ _ _ h]

theorem State.flag_setFld (s : State) (a hi lo v i : Nat) (h : hi < 32) (d : i < lo ∨ hi < i) : (s.setFld a hi lo v).flag a i = s.flag a i := by
  rw [State.flag_eq, State.reg_setFld, if_pos rfl, bit_setBits _ _ _ _ _ h, if_neg (by omega), State.flag_eq]

theorem State.flag_setFlag_ne (s : State) (a : Nat) {i j : Nat} (b : Bool) (h : j ≠ i) : (s.setFlag a i b).flag a j = s.flag a j := by
  rw [State.flag_eq, State.reg_setFlag, if_pos rfl, bit_setBit_ne _ _ (Ne.symm h), State.flag_eq]

/-- An event flag that is set stays set when another is raised. -/
theorem State.raise_flag_mono (s : State) (p i : Nat) {q j : Nat} (h : s.flag (Adr.PEVT q) j = true) :
    (s.raise p i).flag (Adr.PEVT q) j = true := by
  rw [State.flag_eq, State.reg_raise]
  split
  next e =>
    rw [bit_setBit, ← e.1]
    split
    · rfl
    · exact h
  next => exact h

theorem maskOf_succ (n : Nat) (p : Nat → Bool) : maskOf (n + 1) p = if p n then maskOf n p + 2 ^ n else maskOf n p := by
  simp [maskOf, List.range_succ]

theorem maskOf_lt (n : Nat) (p : Nat → Bool) : maskOf n p < 2 ^ n := by
  induction n with
  | zero => simp [maskOf]
  | succ n ih => rw [maskOf_succ]; split <;> omega

theorem maskOf_testBit (n : Nat) (p : Nat → Bool) (k : Nat) : (maskOf n p).testBit k = (decide (k < n) && p k) := by
  induction n with
  | zero => simp [maskOf]
  | succ n ih =>
    rw [maskOf_succ]
    have hk : k < n + 1 ↔ k < n ∨ n = k := by omega
    split
    next hp => rw [← Nat.or_two_pow_eq_add_of_lt (maskOf_lt n p), Nat.testBit_or, ih, Nat.testBit_two_pow]; grind
    next hp => grind

/-- A register that is written with what it holds. -/
theorem State.rewrite_regsOn (s : State) {P : Nat → Prop} (a : Nat) : State.RegsOn P s (s.setReg a (s.reg a)) where
  same b _ := by
    by_cases h : b = a
    · rw [h, State.reg_setReg_self]
    · exact s.reg_setReg_ne _ h

/-- The link's own state is no register. -/
theorem State.setTwin_regsOn (s : State) {P : Nat → Prop} (v : Twin) : State.RegsOn P s (s.setTwin v) := .of_regs rfl

/-! ### STATE (R428, R440) -/

section
variable (s : State) {P : Nat → Prop}

theorem State.twinEnter_regsOn (hS : ¬ P Adr.TWIN_STAT) (hE : ¬ P (Adr.PEVT Pg.TWIN)) (st : Nat) : State.RegsOn P s (s.twinEnter st) := by
  unfold State.twinEnter
  split
  · exact .refl
  · exact (s.setFld_regsOn hS ..).trans (State.raise_regsOn _ hE _)

/-- STAT after a change of state: STATE is replaced, every other bit stays. -/
theorem State.twinEnter_stat (st : Nat) (i : Nat) (h : 2 < i) : (s.twinEnter st).flag Adr.TWIN_STAT i = s.flag Adr.TWIN_STAT i := by
  unfold State.twinEnter
  split
  · rfl
  · rw [State.flag_eq, State.raise_reg_ne _ _ _ (by decide), ← State.flag_eq, s.flag_setFld _ _ _ _ _ (by omega) (by omega)]

theorem State.twinEnter_state {st : Nat} (h : st < 8) : (s.twinEnter st).twinState = st := by
  unfold State.twinEnter
  split
  next e => exact e
  next =>
    rw [State.twinState, State.fld_eq, State.raise_reg_ne _ _ _ (by decide), ← State.fld_eq, s.fld_setFld_self _ _ _ _ (by omega)]
    exact Nat.mod_eq_of_lt h

@[simp] theorem State.twinEnter_twin (st : Nat) : (s.twinEnter st).twin = s.twin := (s.twinEnter_within st).same .twin rfl
@[simp] theorem State.twinEnter_shroud (st : Nat) : (s.twinEnter st).shroud = s.shroud := (s.twinEnter_within st).same .shroud rfl

theorem State.twinEnter_event_mono (st : Nat) {j : Nat} (h : s.flag (Adr.PEVT Pg.TWIN) j = true) :
    (s.twinEnter st).flag (Adr.PEVT Pg.TWIN) j = true := by
  unfold State.twinEnter
  split
  · exact h
  · refine State.raise_flag_mono _ _ _ ?_
    rwa [State.flag_eq, State.reg_setFld, if_neg (by decide), ← State.flag_eq]

/-- A state that is entered raises PEVT.LINK. -/
theorem State.twinEnter_event {st : Nat} (h : s.twinState ≠ st) (hon : s.pageOn Pg.TWIN = true) :
    (s.twinEnter st).flag (Adr.PEVT Pg.TWIN) 0 = true := by
  unfold State.twinEnter
  rw [if_neg h]
  refine State.raise_flag _ _ _ ?_ (by omega)
  rw [(s.setFld_regsOn (P := (· = Adr.SYS_PDSTAT)) (by decide) 2 0 st).pageOn rfl rfl, hon]
/-! ### Lanes (R428) -/

/-- t differs from s in the slots and the OK flags of the two lanes, and in which of them have been heard, at most. -/
structure State.LanesOnly (s t : State) : Prop where
  twin : t.twin = { s.twin with lane0 := t.twin.lane0, lane1 := t.twin.lane1, heard := t.twin.heard }
  regs : State.RegsOn (· ≠ Adr.TWIN_STAT) s t
  stat : ∀ i, i < 4 ∨ 5 < i → t.flag Adr.TWIN_STAT i = s.flag Adr.TWIN_STAT i
  shroud : t.shroud = s.shroud
  pwr : t.pwr = s.pwr

variable {s} {t u : State}

theorem State.LanesOnly.refl : State.LanesOnly s s := ⟨rfl, .refl, fun _ _ => rfl, rfl, rfl⟩

theorem State.LanesOnly.trans (h : State.LanesOnly s t) (k : State.LanesOnly t u) : State.LanesOnly s u :=
  ⟨by rw [k.twin, h.twin], h.regs.trans k.regs, fun i hi => (k.stat i hi).trans (h.stat i hi), k.shroud.trans h.shroud, k.pwr.trans h.pwr⟩

theorem State.LanesOnly.twinState (h : State.LanesOnly s t) : t.twinState = s.twinState :=
  State.fld_congr fun i _ hi => h.stat i (by omega)

variable (s)

theorem State.laneSlot_lanesOnly {lane : Nat} (h : lane < 2) (good : Bool) : State.LanesOnly s (s.laneSlot lane good) where
  twin := by unfold State.laneSlot; dsimp only [State.setFlag_twin, State.setTwin_twin]; split <;> rfl
  regs := (State.setTwin_regsOn ..).trans (State.setFlag_regsOn _ (fun h => h rfl) ..)
  stat i hi := State.flag_setFlag_ne _ _ _ (by omega)
  shroud := rfl
  pwr := rfl

theorem State.heard_lanesOnly (n : Nat) : State.LanesOnly s (s.setTwin { s.twin with heard := n }) :=
  ⟨rfl, .of_regs rfl, fun _ _ => rfl, rfl, rfl⟩

theorem State.each_laneSlot_lanesOnly {l : List Nat} (h : ∀ k ∈ l, k < 2) (good : Bool) :
    State.LanesOnly s (s.each l fun u k => u.laneSlot k good) := by
  unfold State.each
  induction l generalizing s with
  | nil => exact .refl
  | cons k l ih => exact (s.laneSlot_lanesOnly (h k (by simp)) good).trans (ih _ fun j hj => h j (by simp [hj]))

/-- The state in which a new frame of a lane is judged: the last slot's missing lanes are bad, this lane's slot is good. -/
def State.twinSlots (s : State) (lane : Nat) : State :=
  let missed := if s.twin.rxSeq.isSome then [0, 1].filter fun l => !s.twin.heard.testBit l else []
  let t := (s.each missed fun u l => u.laneSlot l false).laneSlot lane true
  t.setTwin { t.twin with heard := 2 ^ lane }

theorem State.twinSlots_lanesOnly {lane : Nat} (h : lane < 2) : State.LanesOnly s (s.twinSlots lane) := by
  unfold State.twinSlots
  refine ((s.each_laneSlot_lanesOnly ?_ false).trans (State.laneSlot_lanesOnly _ h true)).trans (State.heard_lanesOnly _ _)
  intro k hk
  split at hk
  · have := (List.mem_filter.mp hk).1
    simp only [List.mem_cons, List.not_mem_nil, or_false] at this
    omega
  · cases hk

/-! ### What a frame comes to (R428, R429, R432) -/

theorem State.twinLinked_of (h : 2 ≤ s.twinState) (hon : s.pageOn Pg.TWIN = true) : s.twinLinked = true := by
  simp [State.twinLinked, h, hon]

variable {s} {f : List Byte} {lane : Nat} {q : Byte}

/-- A frame of a wrong length or CRC is a bad slot of its lane and counts as an error. -/
theorem State.twinReceive_broken (hl : s.twinLinked = true) (hf : f.length ≠ 16 ∨ f ≠ twinSealed (f.take 12)) :
    ∃ n, s.twinReceive f lane = ((s.laneSlot lane false).twinBad).setTwin { (s.laneSlot lane false).twinBad.twin with heard := n } := by
  unfold State.twinReceive
  rw [if_neg (by simp [hl]), if_pos (hf.imp id Ne.symm)]
  exact ⟨_, rfl⟩

/-- A frame of the next sequence number is valid. -/
theorem State.twinReceive_next (hl : s.twinLinked = true) (h16 : f.length = 16) (hf : f = twinSealed (f.take 12))
    (hq : s.twin.rxSeq = some q) (h0 : nthD 0#8 f 0 = q + 1#8) : s.twinReceive f lane = (s.twinSlots lane).twinValid f := by
  have hne : q ≠ q + 1#8 := by bv_omega
  unfold State.twinReceive
  rw [if_neg (by simp [hl]), if_neg (by simp [h16, ← hf]), if_neg (by simp [hq, h0, hne])]
  simp [hq, h0, State.twinSlots]

/-- A frame of another sequence number than the last and the next counts as an error. -/
theorem State.twinReceive_skipped (hl : s.twinLinked = true) (h16 : f.length = 16) (hf : f = twinSealed (f.take 12))
    (hq : s.twin.rxSeq = some q) (h0 : nthD 0#8 f 0 ≠ q) (h1 : nthD 0#8 f 0 ≠ q + 1#8) :
    s.twinReceive f lane = (s.twinSlots lane).twinBad := by
  unfold State.twinReceive
  rw [if_neg (by simp [hl]), if_neg (by simp [h16, ← hf]), if_neg (by simp [hq, Ne.symm h0])]
  simp [hq, h1, State.twinSlots]

/-! ### Errors and losses (R429, R432) -/

variable (s) {P : Nat → Prop}

theorem State.twinBad_regsOn (h : ¬ P Adr.TWIN_HBCNT) : State.RegsOn P s s.twinBad :=
  (s.setTwin_regsOn _).trans (State.bump_regsOn _ h ..)

/-- An error ends the row of good frames and counts in HBCNT, up to 65535. -/
theorem State.twinBad_counts : s.twinBad.twin = { s.twin with good := 0 } ∧
    s.twinBad.fld Adr.TWIN_HBCNT 31 16 = min (s.fld Adr.TWIN_HBCNT 31 16 + 1) 65535 := by
  refine ⟨rfl, (State.fld_setFld_self _ _ _ _ _ (by omega)).trans ?_⟩
  exact Nat.mod_eq_of_lt (by omega)

theorem State.twinLose_regsOn (hS : ¬ P Adr.TWIN_STAT) (hE : ¬ P (Adr.PEVT Pg.TWIN)) (st : Nat) : State.RegsOn P s (s.twinLose st) := by
  unfold State.twinLose
  exact ((s.setTwin_regsOn _).trans (State.when_regsOn _ (fun t => t.raise_regsOn hE 1) _)).trans (State.twinEnter_regsOn _ hS hE st)

theorem State.when_raise_twin (b : Bool) (p i : Nat) : (s.when b fun t => t.raise p i).twin = s.twin :=
  (State.when_within (fun t => t.raise_within p i) (.refl _ s)).same .twin rfl
theorem State.when_raise_shroud (b : Bool) (p i : Nat) : (s.when b fun t => t.raise p i).shroud = s.shroud :=
  (State.when_within (fun t => t.raise_within p i) (.refl _ s)).same .shroud rfl

/-- A loss: the state is entered, the sequence and the row of good frames are forgotten, the demands stay in force (assumption 49). -/
theorem State.twinLose_twin (st : Nat) : (s.twinLose st).twin = { s.twin with lost := true, rxSeq := none, good := 0 } := by
  unfold State.twinLose
  rw [State.twinEnter_twin, State.when_raise_twin]
  rfl

theorem State.twinLose_state {st : Nat} (h : st < 8) : (s.twinLose st).twinState = st := State.twinEnter_state _ h

theorem State.twinLose_event {st : Nat} (hl : s.twin.lost = false) (hon : s.pageOn Pg.TWIN = true) :
    (s.twinLose st).flag (Adr.PEVT Pg.TWIN) 1 = true := by
  unfold State.twinLose
  refine State.twinEnter_event_mono _ _ ?_
  rw [hl]
  exact State.raise_flag _ _ _ hon (by omega)

variable {s} in
/-- An error in a slot: the sequence, the demands, the state and Shroud's wires stay. -/
theorem State.LanesOnly.error {u : State} (h : State.LanesOnly s u) : u.twinBad.twin.rxSeq = s.twin.rxSeq ∧ u.twinBad.twin.dem = s.twin.dem
    ∧ u.twinBad.twin.good = 0 ∧ u.twinBad.shroud = s.shroud ∧ u.twinBad.twinState = s.twinState
    ∧ u.twinBad.fld Adr.TWIN_HBCNT 31 16 = min (s.fld Adr.TWIN_HBCNT 31 16 + 1) 65535
    ∧ State.RegsOn (· ∉ [Adr.TWIN_STAT, Adr.TWIN_HBCNT]) s u.twinBad := by
  have hrx : u.twin.rxSeq = s.twin.rxSeq := by rw [h.twin]
  have hdem : u.twin.dem = s.twin.dem := by rw [h.twin]
  rw [u.twinBad_counts.1]
  refine ⟨hrx, hdem, rfl, h.shroud, ?_, ?_, ?_⟩
  · exact ((u.twinBad_regsOn (P := (· = Adr.TWIN_STAT)) (by decide)).fld rfl 2 0).trans h.twinState
  · rw [u.twinBad_counts.2, h.regs.fld (by decide)]
  · exact (h.regs.mono fun a ha => by simp at ha; exact ha.1).trans (u.twinBad_regsOn (by decide))

/-! ### Demands (R431) -/

/-- PDEM shows the partner's demands, and a new one raises PEVT.XDEM. -/
def State.twinShow (s : State) (d : Nat) : State :=
  ((s.setTwin { s.twin with dem := w32 d }).setFld Adr.TWIN_STAT 21 16 d).when (w32 d &&& ~~~s.twin.dem != 0#32) fun u => u.raise Pg.TWIN 3

/-- The demands taken over are shown, and under TWEN they stand on Shroud's wires too. -/
theorem State.twinDemands_eq (d : Nat) : s.twinDemands d = (s.twinShow d).setShroud
    (if s.flag Adr.SHRD_TWX 31 then { s.shroud with twinA := s.shroud.twinA ||| w32 d, twinB := s.shroud.twinB ||| w32 d } else s.shroud) := by
  have hs : (s.twinShow d).shroud = s.shroud := State.when_raise_shroud ..
  unfold State.twinDemands
  rw [← hs]
  split <;> rfl

theorem State.twinShow_regsOn (hS : ¬ P Adr.TWIN_STAT) (hE : ¬ P (Adr.PEVT Pg.TWIN)) (d : Nat) : State.RegsOn P s (s.twinShow d) :=
  ((s.setTwin_regsOn _).trans (State.setFld_regsOn _ hS ..)).trans (State.when_regsOn _ (fun t => t.raise_regsOn hE 3) _)

theorem State.twinDemands_regsOn (hS : ¬ P Adr.TWIN_STAT) (hE : ¬ P (Adr.PEVT Pg.TWIN)) (d : Nat) : State.RegsOn P s (s.twinDemands d) := by
  rw [State.twinDemands_eq]
  exact (s.twinShow_regsOn hS hE d).trans (.of_regs rfl)

@[simp] theorem State.twinDemands_twin (d : Nat) : (s.twinDemands d).twin = { s.twin with dem := w32 d } := by
  rw [State.twinDemands_eq]
  exact State.when_raise_twin ..

theorem State.twinDemands_shroud (d : Nat) : (s.twinDemands d).shroud =
    if s.flag Adr.SHRD_TWX 31 then { s.shroud with twinA := s.shroud.twinA ||| w32 d, twinB := s.shroud.twinB ||| w32 d } else s.shroud := by
  rw [State.twinDemands_eq]
  rfl

theorem State.twinDemands_stat (d : Nat) : (s.twinDemands d).reg Adr.TWIN_STAT = setBits (s.reg Adr.TWIN_STAT) 21 16 d := by
  rw [State.twinDemands_eq]
  refine ((State.when_regsOn _ (fun t => t.raise_regsOn (P := (· = Adr.TWIN_STAT)) (by decide) 3) _).same _ rfl).trans ?_
  exact State.reg_setReg_self ..

theorem State.twinDemands_event {d : Nat} (hon : s.pageOn Pg.TWIN = true) (hd : w32 d &&& ~~~s.twin.dem ≠ 0#32) :
    (s.twinDemands d).flag (Adr.PEVT Pg.TWIN) 3 = true := by
  rw [State.twinDemands_eq]
  unfold State.twinShow
  rw [bne_iff_ne.mpr hd]
  refine State.raise_flag _ _ _ (Eq.trans ?_ hon) (by omega)
  exact ((s.setTwin_regsOn _).trans (State.setFld_regsOn (P := (· = Adr.SYS_PDSTAT)) _ (by decide) ..)).pageOn rfl rfl _

/-! ### Valid frames (R3, R432) -/

/-- What every valid frame does: its sequence number and its place in the row, HBCNT, the demands. -/
def State.twinTaken (s : State) (f : List Byte) : State :=
  ((s.setTwin { s.twin with rxSeq := some (nthD 0#8 f 0), good := min (s.twin.good + 1) 10 }).wrap Adr.TWIN_HBCNT 15 0).twinDemands
    (bits (w32 (nthD 0#8 f 5).toNat) 5 0)

/-- The tenth valid frame in a row after a loss brings the link up again. -/
def State.twinRestored (s : State) : State := ((s.setTwin { s.twin with lost := false }).raise Pg.TWIN 1).twinEnter 2

variable {s} in
theorem State.twinValid_same {f : List Byte} (h : (nthD 0#8 f 1).getLsbD 7 = s.isStore) : s.twinValid f =
    if s.twin.lost = true ∧ 9 ≤ s.twin.good then (s.twinTaken f).twinRestored else s.twinTaken f := by
  have hg : (s.twin.lost && decide (10 ≤ min (s.twin.good + 1) 10)) = true ↔ s.twin.lost = true ∧ 9 ≤ s.twin.good := by
    rw [Bool.and_eq_true, decide_eq_true_iff]
    exact and_congr_right fun _ => by omega
  unfold State.twinValid
  dsimp only
  rw [if_neg (by rw [h]; simp), if_congr hg rfl rfl]
  rfl

variable {s} in
theorem State.twinValid_other {f : List Byte} (h : (nthD 0#8 f 1).getLsbD 7 ≠ s.isStore) : s.twinValid f = (s.twinTaken f).twinLose 4 := by
  unfold State.twinValid
  rw [if_pos (bne_iff_ne.mpr h)]
  rfl

theorem State.twinTaken_regsOn (hS : ¬ P Adr.TWIN_STAT) (hH : ¬ P Adr.TWIN_HBCNT) (hE : ¬ P (Adr.PEVT Pg.TWIN)) (f : List Byte) :
    State.RegsOn P s (s.twinTaken f) :=
  ((s.setTwin_regsOn _).trans (State.wrap_regsOn _ hH ..)).trans (State.twinDemands_regsOn _ hS hE _)

theorem State.twinRestored_regsOn (hS : ¬ P Adr.TWIN_STAT) (hE : ¬ P (Adr.PEVT Pg.TWIN)) : State.RegsOn P s s.twinRestored :=
  ((s.setTwin_regsOn _).trans (State.raise_regsOn _ hE _)).trans (State.twinEnter_regsOn _ hS hE _)

theorem State.twinTaken_pwr (f : List Byte) : (s.twinTaken f).pwr = s.pwr := (State.twinDemands_within _ _).same .pwr rfl

theorem bits_demand (b : Byte) : bits (w32 b.toNat) 5 0 = b.toNat % 64 := by
  have := b.isLt
  simp only [bits, w32, BitVec.toNat_ofNat]
  omega

/-- The link's own state after a valid frame. -/
theorem State.twinTaken_twin (f : List Byte) : (s.twinTaken f).twin =
    { s.twin with rxSeq := some (nthD 0#8 f 0), good := min (s.twin.good + 1) 10, dem := w32 ((nthD 0#8 f 5).toNat % 64) } := by
  unfold State.twinTaken
  rw [State.twinDemands_twin, bits_demand]
  rfl

/-- HBCNT counts valid frames modulo 2^16; its errors stay. -/
theorem State.twinTaken_hbcnt (f : List Byte) :
    (s.twinTaken f).fld Adr.TWIN_HBCNT 15 0 = (s.fld Adr.TWIN_HBCNT 15 0 + 1) % 65536 ∧
    (s.twinTaken f).fld Adr.TWIN_HBCNT 31 16 = s.fld Adr.TWIN_HBCNT 31 16 := by
  have h := fun hi lo => (State.twinDemands_regsOn (P := (· = Adr.TWIN_HBCNT)) ((s.setTwin { s.twin with
    rxSeq := some (nthD 0#8 f 0), good := min (s.twin.good + 1) 10 }).wrap Adr.TWIN_HBCNT 15 0) (by decide) (by decide)
    (bits (w32 (nthD 0#8 f 5).toNat) 5 0)).fld rfl hi lo
  unfold State.twinTaken
  rw [h, h]
  refine ⟨State.fld_setFld_self _ _ _ _ _ (by omega), ?_⟩
  rw [State.wrap, State.fld_eq, State.reg_setFld, if_pos rfl, bits_setBits_ne _ _ _ _ _ _ (by omega) (by omega)]
  rfl

theorem State.twinTaken_pdem (f : List Byte) : (s.twinTaken f).fld Adr.TWIN_STAT 21 16 = (nthD 0#8 f 5).toNat % 64 := by
  unfold State.twinTaken
  rw [State.fld_eq, State.twinDemands_stat, bits_setBits_self _ _ _ _ (by omega), bits_demand]
  exact Nat.mod_mod _ _

theorem State.twinTaken_state (f : List Byte) : (s.twinTaken f).twinState = s.twinState := by
  unfold State.twinTaken
  rw [State.twinState, State.fld_eq, State.twinDemands_stat, bits_setBits_ne _ _ _ _ _ _ (by omega) (by omega)]
  exact ((s.setTwin_regsOn _).trans (State.wrap_regsOn (P := (· = Adr.TWIN_STAT)) _ (by decide) ..)).fld rfl 2 0

theorem State.twinTaken_shroud (f : List Byte) : (s.twinTaken f).shroud = if s.flag Adr.SHRD_TWX 31 then { s.shroud with
      twinA := s.shroud.twinA ||| w32 ((nthD 0#8 f 5).toNat % 64), twinB := s.shroud.twinB ||| w32 ((nthD 0#8 f 5).toNat % 64) }
    else s.shroud := by
  unfold State.twinTaken
  rw [State.twinDemands_shroud, bits_demand,
    ((s.setTwin_regsOn _).trans (State.wrap_regsOn (P := (· = Adr.SHRD_TWX)) _ (by decide) ..)).flag rfl 31]
  rfl

theorem State.twinTaken_event {f : List Byte} (hon : s.pageOn Pg.TWIN = true)
    (hd : w32 ((nthD 0#8 f 5).toNat % 64) &&& ~~~s.twin.dem ≠ 0#32) : (s.twinTaken f).flag (Adr.PEVT Pg.TWIN) 3 = true := by
  unfold State.twinTaken
  rw [← bits_demand] at hd
  refine State.twinDemands_event _ (Eq.trans ?_ hon) hd
  exact ((s.setTwin_regsOn _).trans (State.wrap_regsOn (P := (· = Adr.SYS_PDSTAT)) _ (by decide) ..)).pageOn rfl rfl _

@[simp] theorem State.twinRestored_twin : s.twinRestored.twin = { s.twin with lost := false } := by
  unfold State.twinRestored
  rw [State.twinEnter_twin, State.raise_twin]
  rfl

@[simp] theorem State.twinRestored_shroud : s.twinRestored.shroud = s.shroud := by
  unfold State.twinRestored
  rw [State.twinEnter_shroud, State.raise_shroud]
  rfl

theorem State.twinRestored_state : s.twinRestored.twinState = 2 := State.twinEnter_state _ (by omega)

theorem State.twinRestored_pdem : s.twinRestored.fld Adr.TWIN_STAT 21 16 = s.fld Adr.TWIN_STAT 21 16 := by
  refine State.fld_congr fun i hi _ => (State.twinEnter_stat _ _ _ (by omega)).trans ?_
  exact ((s.setTwin_regsOn _).trans (State.raise_regsOn (P := (· = Adr.TWIN_STAT)) _ (by decide) 1)).flag rfl i

theorem State.twinRestored_event (hon : s.pageOn Pg.TWIN = true) : s.twinRestored.flag (Adr.PEVT Pg.TWIN) 1 = true :=
  State.twinEnter_event_mono _ _ (State.raise_flag _ _ _ hon (by omega))

theorem State.twinRestored_event_mono {j : Nat} (h : s.flag (Adr.PEVT Pg.TWIN) j = true) :
    s.twinRestored.flag (Adr.PEVT Pg.TWIN) j = true :=
  State.twinEnter_event_mono _ _ (State.raise_flag_mono _ _ _ h)

/-- t differs from s in LOST, STATE and the events of TWIN at most, and no event has gone. -/
structure State.LostOnly (s t : State) : Prop where
  twin : t.twin = { s.twin with lost := t.twin.lost }
  shroud : t.shroud = s.shroud
  pdem : t.fld Adr.TWIN_STAT 21 16 = s.fld Adr.TWIN_STAT 21 16
  event : ∀ j, s.flag (Adr.PEVT Pg.TWIN) j = true → t.flag (Adr.PEVT Pg.TWIN) j = true
  regs : State.RegsOn (· ∉ [Adr.TWIN_STAT, Adr.PEVT Pg.TWIN]) s t

theorem State.LostOnly.refl : State.LostOnly s s := ⟨rfl, rfl, rfl, fun _ h => h, .refl⟩

theorem State.twinRestored_lostOnly : State.LostOnly s s.twinRestored where
  twin := by rw [State.twinRestored_twin]
  shroud := s.twinRestored_shroud
  pdem := s.twinRestored_pdem
  event _ := s.twinRestored_event_mono
  regs := s.twinRestored_regsOn (by decide) (by decide)

variable {s} in
/-- A valid frame of the partner is taken in, whether or not it restores the link. -/
theorem State.twinValid_lostOnly {f : List Byte} (h : (nthD 0#8 f 1).getLsbD 7 = s.isStore) : State.LostOnly (s.twinTaken f) (s.twinValid f) := by
  rw [State.twinValid_same h]
  split
  · exact State.twinRestored_lostOnly _
  · exact .refl _

variable {s} in
theorem State.twinValid_kept {f : List Byte} (h : (nthD 0#8 f 1).getLsbD 7 = s.isStore) (hl : s.twin.lost = true → s.twin.good < 9) :
    (s.twinValid f).twin.lost = s.twin.lost ∧ (s.twinValid f).twinState = s.twinState := by
  rw [State.twinValid_same h, if_neg fun hc => absurd (hl hc.1) (by omega)]
  exact ⟨by rw [s.twinTaken_twin f], s.twinTaken_state f⟩

variable {s} in
/-- The tenth valid frame in a row after a loss (R432). -/
theorem State.twinValid_restores {f : List Byte} (h : (nthD 0#8 f 1).getLsbD 7 = s.isStore) (hon : s.pageOn Pg.TWIN = true)
    (hl : s.twin.lost = true) (hg : 9 ≤ s.twin.good) : (s.twinValid f).twin.lost = false ∧ (s.twinValid f).twinState = 2
      ∧ (s.twinValid f).flag (Adr.PEVT Pg.TWIN) 1 = true := by
  rw [State.twinValid_same h, if_pos ⟨hl, hg⟩]
  refine ⟨congrArg Twin.lost (State.twinRestored_twin _), State.twinRestored_state _, State.twinRestored_event _ (Eq.trans ?_ hon)⟩
  exact (s.twinTaken_regsOn (P := (· = Adr.SYS_PDSTAT)) (by decide) (by decide) (by decide) f).pageOn rfl (s.twinTaken_pwr f) _

/-! ### Training, frames out, XREQ and the offset (R428 to R431) -/

/-- A link that has trained is up, with both lanes good. -/
theorem State.twinTrained_up (h : s.twinState = 1) : s.twinTrained.twinState = 2 ∧ s.twinTrained.flag Adr.TWIN_STAT 4 = true
    ∧ s.twinTrained.flag Adr.TWIN_STAT 5 = true ∧ (s.pageOn Pg.TWIN = true → s.twinTrained.flag (Adr.PEVT Pg.TWIN) 0 = true)
    ∧ s.twinTrained.twin = s.twin ∧ State.RegsOn (· ∉ [Adr.TWIN_STAT, Adr.PEVT Pg.TWIN]) s s.twinTrained := by
  have hor : ∀ i, (s.orReg Adr.TWIN_STAT 0x30#32).flag Adr.TWIN_STAT i = (s.flag Adr.TWIN_STAT i || bit 0x30#32 i) := fun i => by
    rw [State.flag_eq, State.reg_orReg, if_pos rfl, bit_or, State.flag_eq]
  have hst : (s.orReg Adr.TWIN_STAT 0x30#32).twinState = s.twinState := State.fld_congr fun i _ hi => by
    rw [hor]; interval_cases i <;> exact Bool.or_false _
  unfold State.twinTrained
  rw [if_pos h]
  refine ⟨State.twinEnter_state _ (by omega), ?_, ?_, fun hon => ?_, State.twinEnter_twin _ _, ?_⟩
  · rw [State.twinEnter_stat _ _ _ (by omega), hor]; exact Bool.or_true _
  · rw [State.twinEnter_stat _ _ _ (by omega), hor]; exact Bool.or_true _
  · refine State.twinEnter_event _ (by rw [hst, h]; decide) (Eq.trans ?_ hon)
    exact (s.orReg_regsOn (P := (· = Adr.SYS_PDSTAT)) (by decide) _).pageOn rfl rfl _
  · exact (s.orReg_regsOn (by decide) _).trans (State.twinEnter_regsOn _ (by decide) (by decide) _)

variable {s} in
theorem State.twinLost_eq (hl : s.twinLinked = true) (h : s.twinState ≠ 4) : s.twinLost = s.twinLose 3 := by
  unfold State.twinLost
  rw [if_pos (by simp [hl, h])]

variable {s} in
theorem State.twinSend_eq (hl : s.twinLinked = true) : s.twinSend =
    s.setTwin { s.twin with lastSent := s.twinBody ++ wordBytes (crc32 s.twinBody), seq := s.twin.seq + 1#8 } := by
  unfold State.twinSend
  rw [if_pos hl]
  rfl

/-- XREQ sets the bits asked for while FWEN (TWX bit 16) is set. -/
theorem State.twinXreq_twin (n : Nat) : (s.twinXreq n).twin =
    { s.twin with xreq := if s.flag Adr.SHRD_TWX 16 then s.twin.xreq ||| w32 (n % 64) else s.twin.xreq } := by
  unfold State.twinXreq
  split <;> rfl

theorem State.twinXreq_regs (n : Nat) : (s.twinXreq n).regs = s.regs := by
  unfold State.twinXreq
  split <;> rfl

theorem State.twinXreq_mem (n : Nat) : (s.twinXreq n).mem = s.mem := by
  unfold State.twinXreq
  split <;> rfl

variable {s} in
theorem State.twinOffset_eq (hl : s.twinLinked = true) (o : Word) : s.twinOffset o = s.setReg Adr.TWIN_TOFS o := by
  unfold State.twinOffset
  rw [if_pos hl]

/-- Six groups as a word. -/
theorem groups_word (g : BitVec 6) : w32 (g.toNat % 64) = g.zeroExtend 32 := by
  have := g.isLt
  apply BitVec.eq_of_toNat_eq
  simp only [w32, BitVec.toNat_ofNat, BitVec.truncate_eq_setWidth, BitVec.toNat_setWidth]
  omega

/-! ### Start (R428, R434) -/

theorem State.twinRun_eq (hen : s.pageEn Pg.TWIN = true) (hst : s.twinState = 0) (hclk : s.flag Adr.SYS_CLKSTAT 4 = true) :
    s.twinRun = ((s.setTwin { Twin.reset with seq := s.twin.seq }).setFld Adr.TWIN_STAT 11 8
      (maskOf 4 fun k => s.flag Adr.TWIN_CFG (4 + k) != s.flag Adr.TWIN_CFG 0)).twinEnter 1 := by
  unfold State.twinRun
  rw [if_pos ⟨hen, hst, hclk⟩]
  rfl

/-- Training begins: the link's state is fresh but for the sequence number, RINGA and ROLE say which rings are owned. -/
theorem State.twinRun_starts (hen : s.pageEn Pg.TWIN = true) (hst : s.twinState = 0) (hclk : s.flag Adr.SYS_CLKSTAT 4 = true) :
    s.twinRun.twinState = 1 ∧ s.twinRun.twin = { Twin.reset with seq := s.twin.seq }
    ∧ (∀ k : Fin 4, s.twinRun.flag Adr.TWIN_STAT (8 + k) = (s.flag Adr.TWIN_CFG (4 + k) != s.flag Adr.TWIN_CFG 0))
    ∧ (s.pageOn Pg.TWIN = true → s.twinRun.flag (Adr.PEVT Pg.TWIN) 0 = true) := by
  rw [s.twinRun_eq hen hst hclk]
  refine ⟨State.twinEnter_state _ (by omega), State.twinEnter_twin _ _, fun k => ?_, fun hon => State.twinEnter_event _ ?_ (Eq.trans ?_ hon)⟩
  · rw [State.twinEnter_stat _ _ _ (by omega), State.flag_eq, State.reg_setFld, if_pos rfl, bit_setBits _ _ _ _ _ (by omega),
      if_pos (by omega), Nat.add_sub_cancel_left, maskOf_testBit]
    simp
  · have : State.twinState _ = s.twinState := State.fld_congr fun i _ hi =>
      State.flag_setFld (s.setTwin { Twin.reset with seq := s.twin.seq }) Adr.TWIN_STAT 11 8
        (maskOf 4 fun k => s.flag Adr.TWIN_CFG (4 + k) != s.flag Adr.TWIN_CFG 0) i (by omega) (by omega)
    rw [this, hst]
    decide
  · exact ((s.setTwin_regsOn _).trans (State.setFld_regsOn (P := (· = Adr.SYS_PDSTAT)) _ (by decide) ..)).pageOn rfl rfl _

theorem State.twinRun_regsOn (hS : ¬ P Adr.TWIN_STAT) (hE : ¬ P (Adr.PEVT Pg.TWIN)) : State.RegsOn P s s.twinRun := by
  unfold State.twinRun
  split
  · exact ((s.setTwin_regsOn _).trans (State.setFld_regsOn _ hS ..)).trans (State.twinEnter_regsOn _ hS hE _)
  · exact .refl

end

/-! ### Registers written by firmware (R72) -/

/-- The write of a block's register by a port that owns the page and that nothing refuses is stored and answered. -/
theorem State.portStore_accepted (s : State) {port a : Nat} {w : Word} {r : BlockRow} (ha : a < 0x200000) (hr : pageRow (a / 4096) = some r)
    (ho : s.Owns port (a / 4096)) (h40 : 0x40 ≤ a % 4096) (hw : s.refusalOf port a .plain w = none) :
    s.portStore port a w = ((s.setKey (a / 4096) .idle).writeReg port (a / 4096) (a % 4096) (regInfo (a / 4096) (a % 4096)) .plain w (s.reg a)
      ((s.setKey (a / 4096) .idle).wouldHold (a / 4096) (a % 4096) (regInfo (a / 4096) (a % 4096)) .plain w (s.reg a))).answer port (.ok []) := by
  obtain ⟨hlive, hp, hon, hown⟩ := ho
  rw [State.portStore_eq _ _ _ _ ha, if_pos hlive, s.regWrite_accept port _ a .plain w hr hon hp hown (by omega) (by omega) (by omega) hw]

/-- A run-time register of a block is stored, and its block acts; no CRC is touched (R81). -/
theorem State.writeReg_runTime (s : State) {port p off : Nat} {r : BlockRow} {i : RegInfo} (w old new : Word) (hr : pageRow p = some r)
    (h40 : 0x40 ≤ off) (hc : i.conf = false) : s.writeReg port p off i .plain w old new =
      (s.setReg (4096 * p + off) new).blockHook port r.blk (p - r.page) off w old new := by
  unfold State.writeReg
  rw [hr]
  dsimp only
  rw [if_neg (by omega), if_neg (by omega), if_neg (by omega), hc]
  rfl

/-- An unclamped register outside PCTRL would hold what the access types of its fields make of the word. -/
theorem State.wouldHold_unclamped (s : State) {p off : Nat} {i : RegInfo} (m : WriteMode) (w old : Word) (h : off ≠ 4) (hc : i.clamp = .none_) :
    s.wouldHold p off i m w old = i.next m old w := by
  unfold State.wouldHold storedValue
  rw [hc, if_neg (by omega)]
  dsimp only
  split <;> rfl

/-- An accepted write of a run-time register without limits: the fields are stored and the block acts, nothing else. -/
theorem State.portStore_runTime (s : State) {port a : Nat} {w : Word} {r : BlockRow} {i : RegInfo} (ha : a < 0x200000)
    (hr : pageRow (a / 4096) = some r) (hi : regInfo (a / 4096) (a % 4096) = i) (ho : s.Owns port (a / 4096)) (h40 : 0x40 ≤ a % 4096)
    (hc : i.conf = false) (hl : i.clamp = .none_) (hw : s.refusalOf port a .plain w = none) : s.portStore port a w =
      (((s.setKey (a / 4096) .idle).setReg a (i.next .plain (s.reg a) w)).blockHook port r.blk (a / 4096 - r.page) (a % 4096) w (s.reg a)
        (i.next .plain (s.reg a) w)).answer port (.ok []) := by
  rw [s.portStore_accepted ha hr ho h40 hw, hi, State.wouldHold_unclamped _ _ _ _ (by omega) hl, State.writeReg_runTime _ _ _ _ hr h40 hc,
    Nat.div_add_mod]

/-- RUN written as 1 is stored in CTRL, which has no other field, and starts the link. -/
theorem State.portStore_twinCtrl (s : State) {port : Nat} {w : Word} (ho : s.Owns port Pg.TWIN)
    (hw : s.refusalOf port Adr.TWIN_CTRL .plain w = none) (h0 : bit w 0 = true) : ∃ v, bit v 0 = true ∧
      s.portStore port Adr.TWIN_CTRL w = ((s.setKey Pg.TWIN .idle).setReg Adr.TWIN_CTRL v).twinRun.answer port (.ok []) := by
  have hv : bit (RegInfo.next { RegInfo.ro with rw := 1#32 } .plain (s.reg Adr.TWIN_CTRL) w) 0 = true := by
    unfold bit at *
    simp [RegInfo.next, RegInfo.ro, h0]
  refine ⟨_, hv, ?_⟩
  rw [s.portStore_runTime (a := Adr.TWIN_CTRL) (by decide) (by decide : pageRow _ = some ⟨.twin, 0x162, 1, 0x1F, 8, 0xF, 0x0⟩)
    (by decide : regInfo _ _ = { RegInfo.ro with rw := 1#32 }) ho (by decide) rfl rfl hw]
  unfold State.blockHook
  dsimp only
  rw [if_pos (by decide), if_pos hv]
  rfl

/-- A write of XREQ, which has no field that is stored. -/
theorem State.portStore_twinXreq (s : State) {port : Nat} {w : Word} (ho : s.Owns port Pg.TWIN)
    (hw : s.refusalOf port Adr.TWIN_XREQ .plain w = none) : s.portStore port Adr.TWIN_XREQ w =
      (((s.setKey Pg.TWIN .idle).setReg Adr.TWIN_XREQ (s.reg Adr.TWIN_XREQ)).twinXreq (bits w 5 0)).answer port (.ok []) := by
  have hv : RegInfo.next RegInfo.ro .plain (s.reg Adr.TWIN_XREQ) w = s.reg Adr.TWIN_XREQ := by
    simp only [RegInfo.next, RegInfo.ro, BitVec.or_self, BitVec.not_zero, BitVec.and_allOnes, BitVec.and_zero, BitVec.or_zero]
  rw [s.portStore_runTime (a := Adr.TWIN_XREQ) (by decide) (by decide : pageRow _ = some ⟨.twin, 0x162, 1, 0x1F, 8, 0xF, 0x0⟩)
    (by decide : regInfo _ _ = RegInfo.ro) ho (by decide) rfl rfl hw, hv]
  unfold State.blockHook
  dsimp only
  rw [if_neg (by decide), if_neg (by decide), if_pos (by decide)]
  rfl

/-! ### The commands of the Twin link -/

section
variable {s : State}

theorem State.settle_flag (u : State) {a : Nat} (h : irqReg a = false) (i : Nat) : u.settle.flag a i = u.flag a i := by
  rw [State.flag_eq, State.settle_reg _ h, State.flag_eq]

theorem State.settle_fld (u : State) {a : Nat} (h : irqReg a = false) (hi lo : Nat) : u.settle.fld a hi lo = u.fld a hi lo := by
  rw [State.fld_eq, State.settle_reg _ h, State.fld_eq]

@[simp] theorem State.settle_twinState (u : State) : u.settle.twinState = u.twinState := u.settle_fld (by decide) ..

theorem State.answer_settle_resp (u : State) (p : Nat) (r : Resp) : ((u.answer p r).settle.port p).resp = r := by
  have hp : (u.answer p r).settle.port p = (u.answer p r).port p := by simp [State.port]
  rw [hp, State.answer, State.port_putPort_self]

theorem State.answer_twin (u : State) (p : Nat) (r : Resp) : (u.answer p r).twin = u.twin := rfl

/-- TWIN_RUN on an enabled page with the link off and PLL_NET locked. -/
theorem State.twinRun_outcome {port : Nat} (ho : s.Owns port Pg.TWIN)
    (hw : s.refusalOf port Adr.TWIN_CTRL .plain (s.withBits Adr.TWIN_CTRL 1#32) = none) (hen : s.pageEn Pg.TWIN = true)
    (hst : s.twinState = 0) (hclk : s.flag Adr.SYS_CLKSTAT 4 = true) :
    ∃ u : State, s.portStore port Adr.TWIN_CTRL (s.withBits Adr.TWIN_CTRL 1#32) = u.answer port (.ok []) ∧ u.twinState = 1
      ∧ u.flag Adr.TWIN_CTRL 0 = true ∧ u.twin = { Twin.reset with seq := s.twin.seq }
      ∧ (∀ k : Fin 4, u.flag Adr.TWIN_STAT (8 + k) = (s.flag Adr.TWIN_CFG (4 + k) != s.flag Adr.TWIN_CFG 0))
      ∧ u.flag (Adr.PEVT Pg.TWIN) 0 = true ∧ State.RegsOn (· ∉ [Adr.TWIN_CTRL, Adr.TWIN_STAT, Adr.PEVT Pg.TWIN]) s u ∧ u.mem = s.mem := by
  obtain ⟨v, hv, hu⟩ := s.portStore_twinCtrl ho hw (by rw [State.withBits, bit_or]; exact Bool.or_true _)
  have hr : State.RegsOn (· ≠ Adr.TWIN_CTRL) s ((s.setKey Pg.TWIN .idle).setReg Adr.TWIN_CTRL v) :=
    (s.setKey_regsOn ..).trans (State.setReg_regsOn (P := (· ≠ Adr.TWIN_CTRL)) (s.setKey Pg.TWIN .idle) (fun h => h rfl) v)
  refine ⟨_, hu, ?_⟩
  generalize hs' : (s.setKey Pg.TWIN .idle).setReg Adr.TWIN_CTRL v = s' at hr
  have htwin : s'.twin = s.twin := by rw [← hs']; rfl
  have hmem : s'.mem = s.mem := by rw [← hs']; rfl
  have hctrl : s'.flag Adr.TWIN_CTRL 0 = true := by rw [← hs', State.flag_eq, State.reg_setReg_self]; exact hv
  have hpage : s'.pageOn Pg.TWIN = true := by rw [hr.pageOn (by decide) (by rw [← hs']; rfl)]; exact ho.2.2.1
  obtain ⟨h1, h2, h3, h4⟩ := s'.twinRun_starts ((hr.flag (by decide) 0).trans hen) ((hr.fld (by decide) 2 0).trans hst)
    ((hr.flag (by decide) 4).trans hclk)
  refine ⟨h1, ?_, by rw [h2, htwin], fun k => ?_, h4 hpage, ?_, ?_⟩
  · rw [(s'.twinRun_regsOn (P := (· = Adr.TWIN_CTRL)) (by decide) (by decide)).flag rfl, hctrl]
  · rw [h3, hr.flag (by decide), hr.flag (by decide)]
  · exact (hr.mono fun a ha => by simp at ha; exact ha.1).trans (s'.twinRun_regsOn (by decide) (by decide))
  · rw [(s'.twinRun_within.same .mem rfl : s'.twinRun.mem = s'.mem), hmem]

end

/-- Settles O26: each row is one operation on the link, whose lemmas above say what it leaves in STAT, HBCNT and PEVT; a received frame is judged
in the state its slots leave (`State.twinSlots`), which differs from the present one in the lanes alone. -/
theorem twinFrames : Obligations.TwinFrames := by
  unfold Obligations.TwinFrames
  intro s hon
  have hlink : 2 ≤ s.twinState → s.twinLinked = true := fun h => s.twinLinked_of h hon
  have hlane : ∀ b : Bool, b.toNat < 2 := fun b => by cases b <;> decide
  have hmem : ∀ f lane, (s.twinReceive f lane).mem = s.mem := fun f lane => (s.twinReceive_within f lane).same .mem rfl
  refine ⟨?run, ?trained, ?send, ?valid, ?other, ?broken, ?skipped, ?lost, ?xreq, ?expiry, ?offset⟩
  case run =>
    intro port ho hw hen hst hclk
    obtain ⟨u, hu, hstate, hctrl, htwin, hrings, hevent, hregs, hm⟩ := State.twinRun_outcome ho hw hen hst hclk
    refine ⟨(u.answer port (.ok [])).settle, congrArg done hu, State.answer_settle_resp .., ?_, ?_, ?_, fun k => ?_, ?_, ?_⟩
    · rw [State.settle_twinState]; exact hstate
    · rw [State.settle_flag _ (by decide)]; exact hctrl
    · rw [State.settle_twin]; exact htwin
    · rw [State.settle_flag _ (by decide)]; exact hrings k
    · rw [State.settle_flag _ (by decide)]; exact hevent
    · exact State.RegsOn.keepsBut ⟨hregs.same⟩ hm
  case trained =>
    intro h1
    obtain ⟨hstate, hok0, hok1, hevent, htwin, hregs⟩ := s.twinTrained_up h1
    exact ⟨s.twinTrained.settle, rfl, (State.settle_twinState _).trans hstate, (State.settle_flag _ (by decide) _).trans hok0,
      (State.settle_flag _ (by decide) _).trans hok1, (State.settle_flag _ (by decide) _).trans (hevent hon), (State.settle_twin _).trans htwin,
      hregs.keepsBut (s.twinTrained_within.same .mem rfl)⟩
  case send =>
    intro h2
    refine ⟨_, congrArg done (State.twinSend_eq (hlink h2)), State.settle_twin _, (s.setTwin_regsOn _).keepsBut rfl⟩
  case valid =>
    intro f lane1 q dem h2 h16 hf hq h0 hp hdem
    subst hdem
    have hu := s.twinSlots_lanesOnly (hlane lane1)
    have he := State.twinReceive_next (lane := lane1.toNat) (hlink h2) h16 hf hq h0
    generalize s.twinSlots lane1.toNat = u at hu he
    have hs : (nthD 0#8 f 1).getLsbD 7 = u.isStore := by rw [State.isStore, hu.pwr]; exact hp
    have hpage : u.pageOn Pg.TWIN = true := (hu.regs.pageOn (by decide) hu.pwr _).trans hon
    have hlost : u.twin.lost = s.twin.lost := by rw [hu.twin]
    have hgood : u.twin.good = s.twin.good := by rw [hu.twin]
    have hold : u.twin.dem = s.twin.dem := by rw [hu.twin]
    have hv := State.twinValid_lostOnly hs
    have htwin := hv.twin
    rw [State.twinTaken_twin] at htwin
    refine ⟨_, congrArg done he, ?_, ?_, ?_, ?_, ?_, fun hd => ?_, fun hx => ?_, fun hx => ?_, fun hl => ?_, fun hl hg => ?_, fun hl hg => ?_,
      State.RegsOn.keepsBut ?_ (he ▸ hmem f _)⟩
    · rw [State.settle_twin, htwin, h0]
    · rw [State.settle_twin, htwin]
    · rw [State.settle_fld _ (by decide), hv.pdem, State.twinTaken_pdem]
    · rw [State.settle_fld _ (by decide), hv.regs.fld (by decide), (u.twinTaken_hbcnt f).1, hu.regs.fld (by decide)]
    · rw [State.settle_fld _ (by decide), hv.regs.fld (by decide), (u.twinTaken_hbcnt f).2, hu.regs.fld (by decide)]
    · rw [State.settle_flag _ (by decide)]
      exact hv.event 3 (u.twinTaken_event hpage (by rw [hold]; exact hd))
    · rw [State.settle_shroud, hv.shroud, State.twinTaken_shroud, hu.regs.flag (by decide), if_pos hx, hu.shroud]
    · rw [State.settle_shroud, hv.shroud, State.twinTaken_shroud, hu.regs.flag (by decide), if_neg (by simp [hx]), hu.shroud]
    · obtain ⟨hl', hst⟩ := State.twinValid_kept hs (fun h => by rw [hlost, hl] at h; cases h)
      exact ⟨by rw [State.settle_twin, hl', hlost, hl], by rw [State.settle_twinState, hst, hu.twinState]⟩
    · obtain ⟨hl', hst⟩ := State.twinValid_kept hs (fun _ => by omega)
      refine ⟨by rw [State.settle_twin, hl', hlost, hl], by rw [State.settle_twinState, hst, hu.twinState], ?_⟩
      rw [State.settle_twin, htwin, hgood]
      exact min_eq_left (by omega)
    · obtain ⟨hl', hst, hev⟩ := State.twinValid_restores hs hpage (hlost.trans hl) (by omega)
      exact ⟨by rw [State.settle_twin, hl'], by rw [State.settle_twinState, hst], by rw [State.settle_flag _ (by decide), hev]⟩
    · exact ((hu.regs.mono fun a ha => by simp at ha; exact ha.1).trans (u.twinTaken_regsOn (by decide) (by decide) (by decide) f)).trans
        (hv.regs.mono fun a ha => by simp at ha ⊢; exact ⟨ha.1, ha.2.2⟩)
  case other =>
    intro f lane1 q h2 h16 hf hq h0 hp
    have hu := s.twinSlots_lanesOnly (hlane lane1)
    have he := State.twinReceive_next (lane := lane1.toNat) (hlink h2) h16 hf hq h0
    rw [State.twinValid_other (by rw [State.isStore, hu.pwr]; exact hp)] at he
    refine ⟨_, congrArg done he, (State.settle_twinState _).trans (State.twinLose_state _ (by omega)), ?_,
      State.RegsOn.keepsBut ?_ (he ▸ hmem f _)⟩
    · rw [State.settle_twin, State.twinLose_twin]
    · exact ((hu.regs.mono fun a ha => by simp at ha; exact ha.1).trans (State.twinTaken_regsOn _ (by decide) (by decide) (by decide) f)).trans
        (State.twinLose_regsOn _ (by decide) (by decide) _)
  case broken =>
    intro f lane1 h2 hf
    obtain ⟨n, he⟩ := State.twinReceive_broken (lane := lane1.toNat) (hlink h2) hf
    obtain ⟨hrx, hdem, hgood, hshroud, hstate, hcount, hregs⟩ := (s.laneSlot_lanesOnly (hlane lane1) false).error
    exact ⟨_, congrArg done he, (congrArg Twin.rxSeq (State.settle_twin _)).trans hrx, (congrArg Twin.dem (State.settle_twin _)).trans hdem,
      (congrArg Twin.good (State.settle_twin _)).trans hgood, (State.settle_shroud _).trans hshroud, (State.settle_twinState _).trans hstate,
      (State.settle_fld _ (by decide) ..).trans hcount,
      (hregs.trans (State.setTwin_regsOn ..)).keepsBut (he ▸ hmem f _)⟩
  case skipped =>
    intro f lane1 q h2 h16 hf hq h0 h1
    have he := State.twinReceive_skipped (lane := lane1.toNat) (hlink h2) h16 hf hq h0 h1
    obtain ⟨hrx, hdem, hgood, hshroud, hstate, hcount, hregs⟩ := (s.twinSlots_lanesOnly (hlane lane1)).error
    rw [hq] at hrx
    exact ⟨_, congrArg done he, (congrArg Twin.rxSeq (State.settle_twin _)).trans hrx, (congrArg Twin.dem (State.settle_twin _)).trans hdem,
      (congrArg Twin.good (State.settle_twin _)).trans hgood, (State.settle_shroud _).trans hshroud, (State.settle_twinState _).trans hstate,
      (State.settle_fld _ (by decide) ..).trans hcount, hregs.keepsBut (he ▸ hmem f _)⟩
  case lost =>
    intro h2 h4
    have htwin : (s.twinLose 3).settle.twin = { s.twin with lost := true, rxSeq := none, good := 0 } :=
      (State.settle_twin _).trans (s.twinLose_twin 3)
    refine ⟨_, congrArg done (State.twinLost_eq (hlink h2) h4),
      (State.settle_twinState _).trans (State.twinLose_state _ (by omega)), ?_, ?_, ?_, ?_,
      fun hl => (State.settle_flag _ (by decide) _).trans (s.twinLose_event hl hon),
      (s.twinLose_regsOn (by decide) (by decide) 3).keepsBut ((s.twinLose_within 3).same .mem rfl)⟩ <;> rw [htwin]
  case xreq =>
    intro port g ho hw
    have hbits : w32 (bits (g.zeroExtend 32) 5 0 % 64) = g.zeroExtend 32 := by
      refine Eq.trans (congrArg w32 ?_) (groups_word g)
      have := g.isLt
      simp only [bits, BitVec.truncate_eq_setWidth, BitVec.toNat_setWidth]
      omega
    have hregs : State.RegsOn (fun _ => True) s ((s.setKey Pg.TWIN .idle).setReg Adr.TWIN_XREQ (s.reg Adr.TWIN_XREQ)) :=
      (s.setKey_regsOn ..).trans (State.rewrite_regsOn ..)
    refine ⟨_, congrArg done (s.portStore_twinXreq ho hw), State.answer_settle_resp .., ?_, ?_⟩
    · rw [State.settle_twin, State.answer_twin, State.twinXreq_twin, hregs.flag trivial, hbits]
      rfl
    · exact State.RegsOn.keepsBut ((hregs.mono fun _ _ => trivial).trans (.of_regs (State.twinXreq_regs ..))) (State.twinXreq_mem ..)
  case expiry =>
    intro g
    refine ⟨_, rfl, ?_, (s.setTwin_regsOn _).keepsBut rfl⟩
    rw [State.settle_twin, ← groups_word]
    rfl
  case offset =>
    intro o h2
    refine ⟨_, congrArg done (State.twinOffset_eq (hlink h2) o), ?_, (s.setReg_regsOn (by decide) o).keepsBut rfl⟩
    rw [State.settle_reg _ (by decide), State.reg_setReg_self]

end Sys2Proof.Machine
end

section
/-! SUPPORT. The registers that the effects of a powered domain can write: those of the PWM units, of the gate groups and of the HVS page. -/

namespace Sys2Proof.Machine

/-! ### Gate channels (R240 to R250) -/

theorem State.putSample_regsOn (s : State) {P : Nat → Prop} (k : Nat) (v : Sample) : State.RegsOn P s (s.putSample k v) := .of_regs rfl

theorem State.setPwr_regsOn (s : State) {P : Nat → Prop} (v : Power) : State.RegsOn P s (s.setPwr v) := .of_regs rfl

theorem State.setShroud_regsOn (s : State) {P : Nat → Prop} (v : Shroud) : State.RegsOn P s (s.setShroud v) := .of_regs rfl

theorem State.putChan_regsOn (s : State) {P : Nat → Prop} (ch : Nat) (c : Chan) : State.RegsOn P s (s.putChan ch c) := .of_regs rfl

section
variable {P : Nat → Prop} (hC : ∀ ch, ¬ P (cstat ch)) (hG : ∀ ch, ¬ P (Adr.GGRP_GSTAT (groupOf ch))) (s : State) (ch : Nat)
include hC

theorem State.setPhase_regsOn (p : Nat) : State.RegsOn P s (s.setPhase ch p) := s.setFld_regsOn (hC ch) ..

theorem State.confirm_regsOn : State.RegsOn P s (s.confirm ch) := (s.setFlag_regsOn (hC ch) _ _).trans (State.putChan_regsOn ..)

theorem State.hoist_regsOn : State.RegsOn P s (s.hoist ch) := (State.setPhase_regsOn hC s ch _).trans (State.putChan_regsOn ..)

theorem State.strike_regsOn : State.RegsOn P s (s.strike ch) := by
  have hphase := State.setPhase_regsOn hC s ch
  unfold State.strike
  dsimp only
  split
  · exact hphase 4
  split
  · exact hphase 4
  split
  · exact hphase 5
  · exact (hphase 0).trans (State.confirm_regsOn hC _ ch)

theorem State.turnOn_regsOn : State.RegsOn P s (s.turnOn ch) := by
  unfold State.turnOn
  dsimp only
  split
  · exact .refl
  have hwait := (s.setFlag_regsOn (hC ch) 10 false).trans (State.putChan_regsOn _ ch { s.chan ch with wait := true })
  split
  · exact hwait.trans (State.hoist_regsOn hC _ ch)
  · exact hwait

theorem State.turnOff_regsOn : State.RegsOn P s (s.turnOff ch) := by
  have hwait := s.putChan_regsOn (P := P) ch { s.chan ch with wait := false }
  unfold State.turnOff
  split
  · exact hwait.trans (State.strike_regsOn hC _ ch)
  split
  · exact hwait.trans (State.when_regsOn _ (fun t => State.confirm_regsOn hC t ch) _)
  · exact .refl

theorem State.settleGate_regsOn : State.RegsOn P s (s.settleGate ch) := by
  unfold State.settleGate
  split
  · exact .refl
  split
  · split
    · exact .refl
    · exact State.turnOn_regsOn hC s ch
  · exact State.turnOff_regsOn hC s ch

theorem State.bothRise_regsOn (hi lo : Nat) : State.RegsOn P s (s.bothRise hi lo) :=
  (((s.setFlag_regsOn (hC hi) _ _).trans (State.setFlag_regsOn _ (hC lo) _ _)).trans (State.putChan_regsOn ..)).trans (State.putChan_regsOn ..)

include hG

theorem State.clearLatch_regsOn : State.RegsOn P s (s.clearLatch ch) :=
  ((s.setFlag_regsOn (hG ch) _ _).trans (State.setFld_regsOn _ (hC ch) ..)).trans (State.putChan_regsOn ..)

theorem State.risingEdge_regsOn : State.RegsOn P s (s.risingEdge ch) := by
  have hcmd := s.putChan_regsOn (P := P) ch { s.chan ch with cmd := true }
  unfold State.risingEdge
  dsimp only
  split
  · exact hcmd
  split
  · exact ((hcmd.trans (State.clearLatch_regsOn hC hG _ ch)).trans (State.putChan_regsOn ..)).trans (State.settleGate_regsOn hC _ ch)
  · exact (hcmd.trans (State.putChan_regsOn ..)).trans (State.settleGate_regsOn hC _ ch)

theorem State.commandEdge_regsOn (level : Bool) : State.RegsOn P s (s.commandEdge ch level) := by
  unfold State.commandEdge
  split
  · exact .refl
  split
  · exact State.risingEdge_regsOn hC hG s ch
  · exact (State.putChan_regsOn ..).trans (State.settleGate_regsOn hC _ ch)

theorem State.driveGroup_regsOn (g : Nat) (want : Nat → Bool) : State.RegsOn P s (s.driveGroup g want) := by
  have hedge := fun t ch => State.commandEdge_regsOn hC hG t ch
  unfold State.driveGroup
  refine (s.each_regsOn fun t ch _ => ?falls).trans (State.each_regsOn _ fun t ch _ => ?rises)
  case falls =>
    split
    · exact .refl
    · exact hedge t ch false
  case rises =>
    split
    · exact .refl
    split
    · exact State.bothRise_regsOn hC t ch _
    refine State.RegsOn.trans (t := if want ch then t.commandEdge ch true else t) ?_ (State.when_regsOn _ (fun u => hedge u _ true) _)
    split
    · exact hedge t ch true
    · exact .refl

theorem State.refreshGroups_regsOn : State.RegsOn P s s.refreshGroups :=
  s.each_regsOn fun t g _ => State.driveGroup_regsOn hC hG t g (t.commandOf g)

theorem State.gatesRefresh_regsOn : State.RegsOn P s s.gatesRefresh := by
  unfold State.gatesRefresh State.refreshSrd
  exact (State.refreshGroups_regsOn hC hG s).trans (.of_regs (State.setLvdrv_regs _ _))

end

/-! ### Trips and high-voltage sensing (R230, R219) -/

section
variable {P : Nat → Prop} (s : State)

theorem State.tripAll_regsOn (hS : ∀ u, u < 16 → ¬ P (Adr.PWM_STAT u)) (hE : ∀ u, u < 16 → ¬ P (Adr.PEVT (Pg.PWM u))) :
    State.RegsOn P s s.tripAll := by
  refine s.each_regsOn fun t u hu => ?_
  have hlt := List.mem_range.mp hu
  unfold State.tripAsync
  split
  · unfold State.pwmTrip
    split
    · exact .refl
    · exact (t.setFlag_regsOn (hS u hlt) _ _).trans (State.raise_regsOn _ (hE u hlt) _)
  · exact .refl

theorem State.hvsRefresh_regsOn (h : ¬ P Adr.HVS_STAT) : State.RegsOn P s s.hvsRefresh := by
  refine s.each_regsOn fun t k _ => ?_
  split
  · exact .refl
  · exact (t.putSample_regsOn ..).trans (State.setFlag_regsOn (t.invalidate (0xA0 + k)) h _ _)

end

/-! ### Domains -/

theorem groupOf_lt (ch : Nat) : groupOf ch < 6 := by unfold groupOf; split_ifs <;> omega

/-- A channel's CSTAT has offset 0x20 in its block of 256 bytes, on pages 0x80 and up. -/
theorem cstat_mod (ch : Nat) : cstat ch % 256 = 32 := by unfold cstat Adr.GGRP_CSTAT; omega

theorem cstat_ge (ch : Nat) : 0x80000 ≤ cstat ch := by unfold cstat Adr.GGRP_CSTAT; omega

/-- The registers that a start sets up before the domains come on: clock, epochs and the mailbox's account of the boot. -/
def bootRegs : List Nat := [Adr.SYS_CLKSTAT, Adr.EVR_EPOCH 0, Adr.EVR_EPOCH 1, Adr.MBX_BOOT, Adr.MBX_IMGVER]

theorem cstat_not_bootReg (ch : Nat) : cstat ch ∉ bootRegs := by
  have hmod := cstat_mod ch
  have hge := cstat_ge ch
  intro h
  simp only [bootRegs, List.mem_cons, List.not_mem_nil, or_false, Adr.SYS_CLKSTAT, Adr.EVR_EPOCH, Adr.MBX_BOOT, Adr.MBX_IMGVER] at h
  omega

theorem gstat_not_bootReg (ch : Nat) : Adr.GGRP_GSTAT (groupOf ch) ∉ bootRegs := by
  have hlt := groupOf_lt ch
  generalize groupOf ch = g at hlt
  interval_cases g <;> decide

theorem State.domEffects_regsOn (s : State) : State.RegsOn (· ∈ bootRegs) s s.domEffects := by
  refine ((s.tripAll_regsOn ?_ ?_).trans (State.hvsRefresh_regsOn _ (by decide))).trans
    (State.gatesRefresh_regsOn cstat_not_bootReg gstat_not_bootReg _)
  · intro u hu; interval_cases u <;> decide
  · intro u hu; interval_cases u <;> decide

/-- A pair's domain has no islands and no pages: what comes on is the domain itself. -/
theorem State.domainOn_pair (s : State) {d : Nat} (h : d = 3 ∨ d = 4) :
    s.domainOn d = ((s.setPwr { s.pwr with switching := s.pwr.switching.filter fun x => x != d }).domShow d true).domEffects := by
  unfold State.domainOn State.domIslands
  rcases h with rfl | rfl
  · simp [show domPages 3 = [] by decide, show ((List.range 6).filter fun g => islandDom g == 3) = [] by decide, State.each]
  · simp [show domPages 4 = [] by decide, show ((List.range 6).filter fun g => islandDom g == 4) = [] by decide, State.each]

theorem State.domShow_regsOn (s : State) {P : Nat → Prop} (hS : ¬ P Adr.SYS_PDSTAT) (hE : ¬ P (Adr.PEVT Pg.SYS)) (d : Nat) (b : Bool) :
    State.RegsOn P s (s.domShow d b) := by
  unfold State.domShow
  split
  · exact .refl
  · exact (s.setFlag_regsOn hS _ _).trans (State.raise_regsOn _ hE _)

theorem State.domainOn_pair_regsOn (s : State) {d : Nat} (h : d = 3 ∨ d = 4) : State.RegsOn (· ∈ bootRegs) s (s.domainOn d) := by
  rw [s.domainOn_pair h]
  exact ((s.setPwr_regsOn _).trans (State.domShow_regsOn _ (by decide) (by decide) d true)).trans (State.domEffects_regsOn _)

theorem State.domainOn_pair_pwr (s : State) {d : Nat} (h : d = 3 ∨ d = 4) :
    (s.domainOn d).pwr = { s.pwr with switching := s.pwr.switching.filter fun x => x != d } := by
  rw [s.domainOn_pair h]
  exact ((State.domEffects_within _).same .pwr rfl).trans ((State.domShow_within _ d true).same .pwr rfl)

end Sys2Proof.Machine
end

section
/-! SUPPORT. The cold start (R58, R419): the stages it passes, and what each leaves in the power state, the kept record, the pairs and the registers
that account for the boot. -/

namespace Sys2Proof.Machine

/-! ### A pair leaves reset (R136) -/

section
variable (s : State) (n : Nat)

theorem State.setReg_pair (a : Nat) (v : Word) (m : Nat) : (s.setReg a v).pair m = s.pair m := rfl

theorem State.pairLocked_inReset {m : Nat} : ((s.pairLocked n).pair m).inReset = (s.pair m).inReset := by
  have h : (s.pairLocked n).pair m = (s.putPair n { s.pair n with copying := false, final := false, window := none, syncCore := none }).pair m := rfl
  rw [h, State.pair_putPair]
  split
  next e => rw [e]
  next => rfl

theorem State.pairLocked_mode : (s.pairLocked n).pairMode n = 1 := by
  have h : (s.pairLocked n).reg (Adr.PAIR_STAT n) = setBit (setBits (s.reg (Adr.PAIR_STAT n)) 1 0 1) 3 false := by
    have hreg : (s.pairLocked n).reg (Adr.PAIR_STAT n) = ((((s.setMode n 1).setFlag (Adr.PAIR_STAT n) 3 false).setReg (Adr.PAIR_WINCNT n)
      0#32).setReg (Adr.PAIR_ALIGNCNT n) 0#32).reg (Adr.PAIR_STAT n) := rfl
    rw [hreg, State.reg_setReg_ne _ _ (by simp [Adr.PAIR_STAT, Adr.PAIR_ALIGNCNT]),
      State.reg_setReg_ne _ _ (by simp [Adr.PAIR_STAT, Adr.PAIR_WINCNT]), State.reg_setFlag, if_pos rfl, State.setMode, State.reg_setFld, if_pos rfl]
  rw [State.pairMode, State.fld_eq, h, bits_setBit_ne _ _ _ _ _ (by omega), bits_setBits_self _ _ _ _ (by omega)]
  rfl

theorem State.pairLocked_regsOn {P : Nat → Prop} (hS : ¬ P (Adr.PAIR_STAT n)) (hW : ¬ P (Adr.PAIR_WINCNT n)) (hA : ¬ P (Adr.PAIR_ALIGNCNT n)) :
    State.RegsOn P s (s.pairLocked n) :=
  ((((s.setFld_regsOn hS 1 0 1).trans (State.setFlag_regsOn _ hS 3 false)).trans (State.setReg_regsOn _ hW 0#32)).trans
    (State.setReg_regsOn _ hA 0#32)).trans (.of_regs rfl)

theorem State.pairScope_regsOn {P : Nat → Prop} : State.RegsOn P s (s.pairScope n) := .of_regs ((s.pairScope_within n).same .regs rfl)

theorem State.pairRelease_inReset : ((s.pairRelease n).pair n).inReset = false := by
  unfold State.pairRelease
  rw [State.pairLocked_inReset]
  rw [State.setReg_pair, State.pair_putPair_self]

theorem State.pairRelease_inReset_ne {m : Nat} (h : m ≠ n) : ((s.pairRelease n).pair m).inReset = (s.pair m).inReset := by
  have hscope : (s.pairScope n).pair m = s.pair m := by
    show State.pair (State.putPair _ n _) m = s.pair m
    rw [State.pair_putPair, if_neg h]
    exact congrArg (fun l => Store.get (fun _ => PairSt.reset) l m) ((State.domMemory_within _ (3 + n)).same .pairs rfl)
  unfold State.pairRelease
  rw [State.pairLocked_inReset]
  rw [State.setReg_pair, State.pair_putPair, if_neg h, hscope]

theorem State.pairRelease_mode : (s.pairRelease n).pairMode n = 1 := State.pairLocked_mode _ n

theorem State.pairRelease_regsOn {P : Nat → Prop} (hS : ¬ P (Adr.PAIR_STAT n)) (hW : ¬ P (Adr.PAIR_WINCNT n)) (hA : ¬ P (Adr.PAIR_ALIGNCNT n)) :
    State.RegsOn P s (s.pairRelease n) :=
  (((s.pairScope_regsOn n).trans (.of_regs (State.putPair_regs ..))).trans (State.setReg_regsOn _ hS 1#32)).trans
    (State.pairLocked_regsOn _ n hS hW hA)

end

/-! ### The pairs' domains (R58) -/

section
variable (s : State) (oem : Bool)

/-- The domains of both pairs are on and requested. -/
def State.pairDomains (s : State) : State := ((s.domainOn 3).domainOn 4).orReg Adr.SYS_PDREQ 0x18#32

/-- Both pairs leave reset. -/
def State.bothRelease (s : State) : State := (s.pairRelease 0).pairRelease 1

theorem State.releasePairs_eq : s.releasePairs oem = s.pairDomains.when oem State.bothRelease := rfl

theorem State.pairDomains_regsOn : State.RegsOn (· ∈ bootRegs) s s.pairDomains :=
  ((s.domainOn_pair_regsOn (.inl rfl)).trans (State.domainOn_pair_regsOn _ (.inr rfl))).trans (State.orReg_regsOn _ (by decide) 0x18#32)

theorem State.pairDomains_pwr : ∃ l, s.pairDomains.pwr = { s.pwr with switching := l } := by
  unfold State.pairDomains State.orReg
  rw [State.setReg_pwr, State.domainOn_pair_pwr _ (.inr rfl), State.domainOn_pair_pwr _ (.inl rfl)]
  exact ⟨_, rfl⟩

theorem State.pairDomains_pair (n : Nat) : s.pairDomains.pair n = s.pair n := by
  have h : s.pairDomains.pairs = s.pairs := ((State.orReg_within ..).step rfl ((State.domainOn_within _ 4).step rfl (s.domainOn_within 3))).same
    (m := 151259154) .pairs rfl
  unfold State.pair
  rw [h]

theorem State.bothRelease_regsOn : State.RegsOn (· ∈ bootRegs) s s.bothRelease :=
  (s.pairRelease_regsOn 0 (by decide) (by decide) (by decide)).trans (State.pairRelease_regsOn _ 1 (by decide) (by decide) (by decide))

theorem State.bothRelease_pwr : s.bothRelease.pwr = s.pwr :=
  ((State.pairRelease_within _ 1).same .pwr rfl).trans ((s.pairRelease_within 0).same .pwr rfl)

theorem State.bothRelease_pair (n : Fin 2) : (s.bothRelease.pair n).inReset = false ∧ s.bothRelease.pairMode n = 1 := by
  unfold State.bothRelease
  match n with
  | 0 =>
    refine ⟨(State.pairRelease_inReset_ne _ 1 (by decide)).trans (s.pairRelease_inReset 0), Eq.trans ?_ (s.pairRelease_mode 0)⟩
    exact (State.pairRelease_regsOn (P := (· = Adr.PAIR_STAT 0)) _ 1 (by decide) (by decide) (by decide)).fld rfl 1 0
  | 1 => exact ⟨State.pairRelease_inReset _ 1, State.pairRelease_mode _ 1⟩

theorem State.releasePairs_regsOn : State.RegsOn (· ∈ bootRegs) s (s.releasePairs oem) :=
  s.pairDomains_regsOn.trans (State.when_regsOn _ (fun t => t.bothRelease_regsOn) oem)

/-- Of the power state the list of switching domains alone changes. -/
theorem State.releasePairs_pwr : ∃ l, (s.releasePairs oem).pwr = { s.pwr with switching := l } := by
  have h := s.pairDomains_pwr
  rw [State.releasePairs_eq]
  cases oem with
  | false => exact h
  | true => rwa [← State.bothRelease_pwr] at h

theorem State.releasePairs_pair (h : ∀ n : Fin 2, (s.pair n).inReset = true) (n : Fin 2) :
    ((s.releasePairs oem).pair n).inReset = (!oem) ∧ (oem = true → (s.releasePairs oem).pairMode n = 1) := by
  rw [State.releasePairs_eq]
  cases oem with
  | false => exact ⟨(congrArg PairSt.inReset (s.pairDomains_pair n)).trans (h n), nofun⟩
  | true => exact ⟨(State.bothRelease_pair _ n).1, fun _ => (State.bothRelease_pair _ n).2⟩

end

/-! ### Device time and records (R87, R409) -/

section
variable (s : State)

theorem State.setGms_regsOn {P : Nat → Prop} (g : Gms) : State.RegsOn P s (s.setGms g) := .of_regs rfl

theorem State.logKind_regsOn {P : Nat → Prop} (h : ¬ P Adr.MBX_BBLOST) (k : LogKind) (event low : Nat) :
    State.RegsOn P s (s.logKind k event low) := by
  unfold State.logKind State.logEntry
  split
  · exact .of_regs rfl
  · exact (s.setGms_regsOn _).trans (State.setReg_regsOn _ h _)

/-- Each event router's epoch is the calendar time of the start (R87). -/
theorem State.startTime_epoch (n : Fin 2) : s.startTime.reg (Adr.EVR_EPOCH n) = s.reg Adr.SYS_RTC := by
  unfold State.startTime State.setStage
  dsimp only [State.each, List.foldl]
  match n with
  | 0 =>
    rw [State.reg_setFld, if_neg (by decide), State.reg_setReg_ne _ _ (by decide), State.reg_setReg_ne _ _ (by decide),
      State.reg_setReg_ne _ _ (by decide)]
    exact State.reg_setReg_self ..
  | 1 =>
    rw [State.reg_setFld, if_neg (by decide), State.reg_setReg_ne _ _ (by decide)]
    refine (State.reg_setReg_self ..).trans ?_
    rw [State.reg_setReg_ne _ _ (by decide), State.reg_setReg_ne _ _ (by decide)]
    rfl

theorem State.startTime_regsOn {P : Nat → Prop} (hE : ∀ n : Nat, n < 2 → ¬ P (Adr.EVR_EPOCH n))
    (hU : ∀ n : Nat, n < 2 → ¬ P (Adr.EVR_EPOCHSUB n)) (hB : ¬ P Adr.SYS_BOOTSTAT) : State.RegsOn P s s.startTime := by
  refine ((s.setPwr_regsOn _).trans (State.each_regsOn _ fun t n hn => ?_)).trans (State.setFld_regsOn _ hB ..)
  have hlt : n < 2 := by
    simp only [List.mem_cons, List.not_mem_nil, or_false] at hn
    omega
  exact (t.setReg_regsOn (hE n hlt) _).trans (State.setReg_regsOn _ (hU n hlt) _)

/-- The registers that the start sets up before its records. -/
def clockRegs : List Nat := [Adr.SYS_CLKSTAT, Adr.EVR_EPOCH 0, Adr.EVR_EPOCH 1]

theorem State.logStart_regsOn : State.RegsOn (· ∈ clockRegs) s s.logStart := by
  unfold State.logStart State.setBb
  exact (s.setGms_regsOn _).trans (State.logKind_regsOn _ (by decide) ..)

theorem State.startRecords_regsOn (bank : Bool) (level : Nat) : State.RegsOn (· ∈ clockRegs) s (s.startRecords bank level) := by
  unfold State.startRecords
  dsimp only
  refine (((State.RegsOn.trans ?_ (State.setReg_regsOn _ (by decide) _)).trans (State.setReg_regsOn _ (by decide) _)).trans
    (State.setReg_regsOn _ (by decide) _)).trans (State.setFld_regsOn _ (by decide) ..)
  have hfault : ∀ t : State, State.RegsOn (· ∈ clockRegs) t (t.fault Pg.MBX 1) := fun t => t.setFlag_regsOn (by decide) 1 true
  split
  · exact State.RegsOn.trans ((s.setGms_regsOn _).trans (State.when_regsOn _ hfault _)) (State.logStart_regsOn _)
  · refine (State.RegsOn.trans ?_ (State.logKind_regsOn _ (by decide) .access 0 0)).trans (State.raise_regsOn _ (by decide) 3)
    exact State.RegsOn.trans ((s.setGms_regsOn _).trans (State.when_regsOn _ hfault _)) (State.logStart_regsOn _)

end

end Sys2Proof.Machine
end

section
/-! SUPPORT. Secure boot (R419, R455): what it starts from, the slot it boots, and the start from power alone. -/

namespace Sys2Proof.Machine

/-! ### What secure boot starts from -/

section
variable (s : State) (f : BootFacts)

/-- The running device before it looks at its slots: clocks locked, device time at 0, the records read. -/
def State.bootPrep (level : Nat) : State :=
  (((((s.setReg Adr.SYS_CLKSTAT 0xF#32).setPhaseOf .run).startTime).startRecords f.bbBank level)).notePersonality

variable (level : Nat)

theorem State.bootPrep_pwr : (s.bootPrep f level).pwr = { s.pwr with phase := .run, dtime := 0 } :=
  ((State.notePersonality_within _).same .pwr rfl).trans ((State.startRecords_within _ f.bbBank level).same .pwr rfl)

theorem State.bootPrep_kept : (s.bootPrep f level).kept = s.kept :=
  (((State.notePersonality_within _).same .kept rfl).trans ((State.startRecords_within _ f.bbBank level).same .kept rfl)).trans
    ((State.startTime_within _).same .kept rfl)

theorem State.bootPrep_pair (n : Nat) : (s.bootPrep f level).pair n = s.pair n := by
  have h : (s.bootPrep f level).pairs = s.pairs := (((State.notePersonality_within _).same .pairs rfl).trans
    ((State.startRecords_within _ f.bbBank level).same .pairs rfl)).trans ((State.startTime_within _).same .pairs rfl)
  unfold State.pair
  rw [h]

theorem State.bootPrep_regsOn : State.RegsOn (· ∈ clockRegs) ((s.setReg Adr.SYS_CLKSTAT 0xF#32).setPhaseOf .run).startTime (s.bootPrep f level) :=
  (State.startRecords_regsOn _ f.bbBank level).trans (.of_regs ((State.notePersonality_within _).same .regs rfl))

/-- PLL_SYS is locked (R56). -/
theorem State.bootPrep_clock : (s.bootPrep f level).flag Adr.SYS_CLKSTAT 3 = true := by
  have htime := State.startTime_regsOn (P := (· = Adr.SYS_CLKSTAT)) ((s.setReg Adr.SYS_CLKSTAT 0xF#32).setPhaseOf .run)
    (fun n h => by interval_cases n <;> decide) (fun n h => by interval_cases n <;> decide) (by decide)
  rw [(s.bootPrep_regsOn f level).flag (by decide), htime.flag rfl, State.flag_eq, State.setPhaseOf, State.setPwr_reg, State.reg_setReg_self]
  decide

theorem State.bootPrep_epoch (n : Fin 2) : (s.bootPrep f level).reg (Adr.EVR_EPOCH n) = s.reg Adr.SYS_RTC := by
  rw [(s.bootPrep_regsOn f level).same _ (by fin_cases n <;> decide), State.startTime_epoch, State.setPhaseOf, State.setPwr_reg,
    s.reg_setReg_ne (a := Adr.SYS_CLKSTAT) (b := Adr.SYS_RTC) _ (by decide)]

end

/-! ### The slot that boots -/

theorem State.setStage_regsOn (s : State) {P : Nat → Prop} (h : ¬ P Adr.SYS_BOOTSTAT) (n : Nat) : State.RegsOn P s (s.setStage n) :=
  s.setFld_regsOn h 3 0 n

section
variable (s : State) (f : BootFacts) (b : Bool)

theorem State.loadConfig_regsOn (l : List (Nat × Word)) : State.RegsOn (· ∈ bootRegs) s (s.loadConfig l) := by
  have hofs : ∀ o ∈ configOffsets .shrd 0, Pg.SHRD * 4096 + o ∉ bootRegs := by decide
  unfold State.loadConfig
  induction l generalizing s with
  | nil => exact .refl
  | cons e l ih =>
    refine State.RegsOn.trans ?_ (ih _)
    dsimp only
    split
    next h => exact s.setReg_regsOn (hofs _ (List.contains_iff_mem.mp h)) _
    next => exact .refl

theorem State.loadShroud_regsOn : State.RegsOn (· ∈ bootRegs) s (s.loadShroud f) := by
  unfold State.loadShroud
  dsimp only
  split
  · exact (s.loadConfig_regsOn _).trans (.of_regs rfl)
  · exact (s.setShroud_regsOn _).trans (State.setFlag_regsOn (a := Adr.PFAULT Pg.MBX) _ (by decide) 2 true)

/-- The facts of a slot. -/
def slotFacts (f : BootFacts) (b : Bool) : SlotFacts := if b then f.slotB else f.slotA

/-- Shroud's configuration and self-tests, and their entry in the log. -/
def State.bootShroud (s : State) (f : BootFacts) : State :=
  let u := s.loadShroud f
  let v := u.setShroud { u.shroud with a := { u.shroud.a with bist := f.bistA }, b := { u.shroud.b with bist := f.bistB } }
  if f.bistA && f.bistB then v else v.logKind .event 0 (maskOf 2 fun k => if k = 0 then !f.bistA else !f.bistB)

/-- The mailbox shows the slot that boots. -/
def State.showSlot (s : State) (f : BootFacts) (b : Bool) : State :=
  (s.setFlag Adr.MBX_BOOT 0 b).setReg Adr.MBX_IMGVER (if b then f.slotB.version else f.slotA.version)

/-- A slot boots, no trial: the mailbox shows it, Shroud is set up, the pairs are released. -/
def State.bootSlot (s : State) (f : BootFacts) (b : Bool) : State :=
  ((((s.showSlot f b).bootShroud f).releasePairs f.oemKeyWritten).setStage 3).setFlag Adr.MBX_BOOT 1 false

theorem State.showSlot_regsOn : State.RegsOn (· ∈ clockRegs) s (s.showSlot f b) :=
  (s.setFlag_regsOn (by decide) _ _).trans (State.setReg_regsOn _ (by decide) _)

theorem State.bootShroud_within : s.WithinM 32898 (s.bootShroud f) := by
  have h := (State.setShroud_within (s := s.loadShroud f) { (s.loadShroud f).shroud with
    a := { (s.loadShroud f).shroud.a with bist := f.bistA }, b := { (s.loadShroud f).shroud.b with bist := f.bistB } }).step
    (m := 32898) rfl ((s.loadShroud_within f).step rfl (.refl _ _))
  unfold State.bootShroud
  dsimp only
  split
  · exact h
  · exact (State.logKind_within ..).step rfl h

theorem State.bootShroud_regsOn : State.RegsOn (· ∈ bootRegs) s (s.bootShroud f) := by
  unfold State.bootShroud
  dsimp only
  have h := (s.loadShroud_regsOn f).trans (State.setShroud_regsOn (s.loadShroud f) { (s.loadShroud f).shroud with
    a := { (s.loadShroud f).shroud.a with bist := f.bistA }, b := { (s.loadShroud f).shroud.b with bist := f.bistB } })
  split
  · exact h
  · exact h.trans (State.logKind_regsOn _ (by decide) ..)

/-- What a boot leaves of the state it starts from. -/
structure State.Boots (s : State) (f : BootFacts) (b : Bool) (t : State) : Prop where
  pwr : ∃ l, t.pwr = { s.pwr with switching := l }
  kept : t.kept = s.kept
  stage : t.stage = 3
  clocks : State.RegsOn (· ∈ clockRegs) s t
  slot : t.flag Adr.MBX_BOOT 0 = b
  version : t.reg Adr.MBX_IMGVER = (slotFacts f b).version
  pair : (∀ n : Fin 2, (s.pair n).inReset = true) → ∀ n : Fin 2,
    (t.pair n).inReset = (!f.oemKeyWritten) ∧ (f.oemKeyWritten = true → t.pairMode n = 1)

theorem clockRegs_boot {a : Nat} (h : a ∈ clockRegs) : a ∈ bootRegs := List.mem_of_mem_take (i := 3) h

theorem State.bootSlot_boots : State.Boots s f b (s.bootSlot f b) := by
  have hregs : State.RegsOn (· ∈ bootRegs) (s.showSlot f b) (((s.showSlot f b).bootShroud f).releasePairs f.oemKeyWritten) :=
    (State.bootShroud_regsOn _ f).trans (State.releasePairs_regsOn _ _)
  have hpwr : ((s.showSlot f b).bootShroud f).pwr = s.pwr := (State.bootShroud_within _ f).same .pwr rfl
  have hpair : ∀ n, ((s.showSlot f b).bootShroud f).pair n = s.pair n := fun n =>
    congrArg (fun l => Store.get (fun _ => PairSt.reset) l n) ((State.bootShroud_within _ f).same .pairs rfl)
  have hkept : (((s.showSlot f b).bootShroud f).releasePairs f.oemKeyWritten).kept = s.kept :=
    ((State.releasePairs_within _ _).same .kept rfl).trans ((State.bootShroud_within _ f).same .kept rfl)
  have hpower := State.releasePairs_pwr ((s.showSlot f b).bootShroud f) f.oemKeyWritten
  have hrelease := State.releasePairs_pair ((s.showSlot f b).bootShroud f) f.oemKeyWritten
  unfold State.bootSlot
  generalize ((s.showSlot f b).bootShroud f).releasePairs f.oemKeyWritten = u at *
  have htail : ∀ {P : Nat → Prop}, ¬ P Adr.SYS_BOOTSTAT → ¬ P Adr.MBX_BOOT →
      State.RegsOn P u ((u.setStage 3).setFlag Adr.MBX_BOOT 1 false) :=
    fun hS hB => (u.setStage_regsOn hS 3).trans (State.setFlag_regsOn _ hB 1 false)
  refine ⟨?pwr, hkept, ?stage, ?clocks, ?slot, ?version, ?pair⟩
  case pwr => rw [hpwr] at hpower; exact hpower
  case stage =>
    rw [State.stage, State.fld_eq, State.reg_setFlag, if_neg (by decide), ← State.fld_eq, State.setStage,
      State.fld_setFld_self _ _ _ _ _ (by decide)]
    rfl
  case clocks =>
    exact ((s.showSlot_regsOn f b).trans (hregs.mono fun _ => clockRegs_boot)).trans (htail (by decide) (by decide))
  case slot =>
    rw [State.flag_setFlag_ne _ _ _ (by decide), (u.setStage_regsOn (P := (· ∈ bootRegs)) (by decide) 3).flag (by decide), hregs.flag (by decide),
      State.showSlot, State.flag_eq, State.reg_setReg_ne _ _ (by decide), State.reg_setFlag, if_pos rfl]
    exact bit_setBit_self _ _ (by omega)
  case version =>
    rw [(htail (P := (· = Adr.MBX_IMGVER)) (by decide) (by decide)).same _ rfl, hregs.same _ (by decide), State.showSlot, State.reg_setReg_self]
    exact (apply_ite SlotFacts.version _ _ _).symm
  case pair =>
    intro h n
    obtain ⟨hreset, hmode⟩ := hrelease (fun m => by rw [hpair]; exact h m) n
    refine ⟨hreset, fun ho => ?_⟩
    rw [State.pairMode, (htail (P := (· = Adr.PAIR_STAT n)) (by fin_cases n <;> decide) (by fin_cases n <;> decide)).fld rfl]
    exact hmode ho

/-! ### The choice of the slot -/

variable {s f} {level : Nat}

/-- Without a trial pending the stored slot is booted when the boot ROM accepts it. -/
theorem State.coldBoot_slot (ht : s.kept.trial = none) (hok : s.slotOk (slotFacts f s.kept.slotB) f.oemKeyWritten = true) :
    s.coldBoot f level = (s.bootPrep f level).bootSlot f s.kept.slotB := by
  have hk := s.bootPrep_kept f level
  have hc : (s.bootPrep f level).bootChoice = (s.bootPrep f level, s.kept.slotB, false) := by
    unfold State.bootChoice
    rw [hk, ht]
  have hok' : (s.bootPrep f level).slotOk (slotFacts f s.kept.slotB) f.oemKeyWritten = true := by
    unfold State.slotOk at *
    rwa [hk]
  unfold State.coldBoot
  dsimp only
  unfold State.bootPrep at hc hok'
  rw [hc]
  dsimp only
  unfold slotFacts at hok'
  rw [if_pos hok']
  rfl

/-- With neither slot accepted the device enters recovery (R420). -/
theorem State.coldBoot_recovery (ht : s.kept.trial = none) (hA : f.slotA.signed = false) (hB : f.slotB.signed = false) :
    s.coldBoot f level = ((s.bootPrep f level).setPhaseOf .recovery).setFlag Adr.MBX_GSTAT 8 true := by
  have hc : (s.bootPrep f level).bootChoice = (s.bootPrep f level, s.kept.slotB, false) := by
    unfold State.bootChoice
    rw [s.bootPrep_kept f level, ht]
  have hbad : ∀ b, ¬ (s.bootPrep f level).slotOk (slotFacts f b) f.oemKeyWritten = true := fun b => by
    cases b <;> simp [State.slotOk, slotFacts, hA, hB]
  unfold State.coldBoot
  dsimp only
  unfold State.bootPrep at hc hbad
  rw [hc]
  dsimp only
  unfold slotFacts at hbad
  rw [if_neg (hbad _), if_neg (hbad _)]
  rfl

end

end Sys2Proof.Machine
end

section
/-! SUPPORT. The start from power alone (R110, R459): GMS owns its pages and waits at stage 1. -/

namespace Sys2Proof.Machine

section
variable (s : State)

/-- Neither the pages GMS owns nor their events nor the stage is RTC. -/
theorem State.gmsPages_rtc : s.gmsPages.reg Adr.SYS_RTC = s.reg Adr.SYS_RTC := by
  simp [State.gmsPages, State.crcTouch, State.setStage, State.reg_setFld, State.reg_setFlag, State.reg_setReg, Adr.SYS_RTC, Adr.SYS_BOOTSTAT,
    Adr.POWNER, Adr.PSTAT, Adr.PEVEN, Pg.ICX, Pg.TBU, Pg.SYS, Pg.SHRD, Pg.MBX]

theorem State.gmsPages_owner : s.gmsPages.owner Pg.ICX = 3 ∧ s.gmsPages.owner Pg.TBU = 3 := by
  simp [State.owner, State.fld_eq, State.gmsPages, State.crcTouch, State.setStage, State.reg_setFld, State.reg_setFlag, State.reg_setReg,
    Adr.SYS_BOOTSTAT, Adr.POWNER, Adr.PSTAT, Adr.PEVEN, Pg.ICX, Pg.TBU, Pg.SYS, Pg.SHRD, Pg.MBX, bits]

theorem State.gmsPages_events : s.gmsPages.reg (Adr.PEVEN Pg.SYS) = 0x7F#32 := by
  simp [State.gmsPages, State.crcTouch, State.setStage, State.reg_setFld, State.reg_setFlag, State.reg_setReg, Adr.SYS_BOOTSTAT,
    Adr.POWNER, Adr.PSTAT, Adr.PEVEN, Pg.ICX, Pg.TBU, Pg.SYS, Pg.SHRD, Pg.MBX]

theorem State.gmsPages_stage : s.gmsPages.stage = 1 := State.fld_setFld_self _ _ _ _ _ (by omega)

/-- RTC is one of the registers that a reset leaves to the Masthead. -/
theorem State.resetImage_rtc (ph : Phase) (keepB : Bool) : (s.resetImage ph keepB).reg Adr.SYS_RTC = s.reg Adr.SYS_RTC :=
  (Store.get_clear regDefault (fun a => !mastReg a) s.regs Adr.SYS_RTC).trans (if_neg (by decide))

/-- The device with power and no clock: everything but PD0 as after reset, the stored personality, GMS at stage 1. -/
def State.powerUp : State :=
  let s1 := (s.resetImage .halted false).setVs (max s.pins.vs 900)
  (s1.setPwr { s1.pwr with store := s1.kept.store }).gmsPages

theorem State.coldPower_halts {f : BootFacts} (h : f.xtalOk = false) : s.coldPower f = s.powerUp := by
  unfold State.coldPower
  rw [h]
  rfl

theorem State.coldPower_boots {f : BootFacts} (h : f.xtalOk = true) :
    s.coldPower f = s.powerUp.coldBoot f (if s.pwr.phase = .sleep then 0 else s.level) := by
  unfold State.coldPower
  rw [h]
  rfl

theorem State.powerUp_pwr : s.powerUp.pwr.phase = .halted ∧ s.powerUp.pwr.store = s.kept.store := by
  unfold State.powerUp
  rw [((State.gmsPages_within _).same .pwr rfl : State.pwr (State.gmsPages _) = _)]
  exact ⟨rfl, rfl⟩

theorem State.powerUp_kept : s.powerUp.kept = s.kept := (State.gmsPages_within _).same .kept rfl
theorem State.powerUp_cores : s.powerUp.cores = [] := (State.gmsPages_within _).same .cores rfl

theorem State.powerUp_pair (n : Nat) : (s.powerUp.pair n).inReset = true := by
  have h : s.powerUp.pairs = [] := (State.gmsPages_within _).same .pairs rfl
  unfold State.pair
  rw [h]
  rfl

theorem State.powerUp_rtc : s.powerUp.reg Adr.SYS_RTC = s.reg Adr.SYS_RTC := by
  unfold State.powerUp State.setVs
  dsimp only
  rw [State.gmsPages_rtc, State.setPwr_reg, State.reg_setFlag, if_neg (by decide), State.reg_setFld, if_neg (by decide), State.setPins_reg,
    State.resetImage_rtc]

end

/-! ### The outcome of a start -/

/-- The device runs from the slot that the record names. -/
structure State.Runs (s : State) (f : BootFacts) (t : State) : Prop where
  pwr : ∃ l, t.pwr = { s.pwr with phase := .run, dtime := 0, switching := l }
  kept : t.kept = s.kept
  stage : t.stage = 3
  clock : t.flag Adr.SYS_CLKSTAT 3 = true
  epoch : ∀ n : Fin 2, t.reg (Adr.EVR_EPOCH n) = s.reg Adr.SYS_RTC
  slot : t.flag Adr.MBX_BOOT 0 = s.kept.slotB
  version : t.reg Adr.MBX_IMGVER = (slotFacts f s.kept.slotB).version
  pair : (∀ n : Fin 2, (s.pair n).inReset = true) → ∀ n : Fin 2,
    (t.pair n).inReset = (!f.oemKeyWritten) ∧ (f.oemKeyWritten = true → t.pairMode n = 1)

section
variable {s : State} {f : BootFacts}

theorem State.coldBoot_runs {level : Nat} (ht : s.kept.trial = none) (hok : s.slotOk (slotFacts f s.kept.slotB) f.oemKeyWritten = true) :
    s.Runs f (s.coldBoot f level) := by
  rw [State.coldBoot_slot ht hok]
  obtain ⟨⟨l, hpwr⟩, hkept, hstage, hclocks, hslot, hversion, hpair⟩ := (s.bootPrep f level).bootSlot_boots f s.kept.slotB
  rw [State.bootPrep_pwr] at hpwr
  refine ⟨⟨l, hpwr⟩, hkept.trans (s.bootPrep_kept f level), hstage, (hclocks.flag (by decide) 3).trans (s.bootPrep_clock f level), fun n => ?_,
    hslot, hversion, fun h => hpair fun n => by rw [State.bootPrep_pair]; exact h n⟩
  rw [hclocks.same _ (by fin_cases n <;> decide), State.bootPrep_epoch]

/-- What runs still runs once the command is answered. -/
theorem State.Runs.settle {t : State} (h : s.Runs f t) : s.Runs f t.settle where
  pwr := by rw [State.settle_pwr]; exact h.pwr
  kept := t.settle_kept.trans h.kept
  stage := (t.settle_fld (by decide) 3 0).trans h.stage
  clock := (t.settle_flag (by decide) 3).trans h.clock
  epoch n := (State.settle_reg t (by fin_cases n <;> decide)).trans (h.epoch n)
  slot := (t.settle_flag (by decide) 0).trans h.slot
  version := (State.settle_reg t (by decide)).trans h.version
  pair hr n := by
    obtain ⟨hreset, hmode⟩ := h.pair hr n
    have hp : t.settle.pair n = t.pair n := by simp only [State.pair, State.settle_pairs]
    exact ⟨by rw [hp, hreset], fun ho => (t.settle_fld (by fin_cases n <;> decide) 1 0).trans (hmode ho)⟩

theorem slotOk_of (hs : (slotFacts f s.kept.slotB).signed = true) (hr : s.kept.rollback ≤ (slotFacts f s.kept.slotB).rollback)
    (ho : f.oemKeyWritten = true → (slotFacts f s.kept.slotB).oemSigned = true) :
    s.slotOk (slotFacts f s.kept.slotB) f.oemKeyWritten = true := by
  unfold State.slotOk
  cases hk : f.oemKeyWritten with
  | false => simp [hs, hr]
  | true => simp [hs, hr, ho hk]

theorem State.coldStart_dark (h : s.pwr.phase = .dark) : s.coldStart f = s.coldPower f := by
  unfold State.coldStart State.coldReady
  rw [h]
  rfl

end

/-- Settles O21: without XTAL25 the start is `State.powerUp` alone, with it `State.coldBoot` from there; the retry is `State.coldBoot` from the
halted device. -/
theorem coldStarts : Obligations.ColdStarts := by
  unfold Obligations.ColdStarts
  intro f s
  refine ⟨?halts, ?boots, ?recovers, ?retries, ?waits⟩
  case halts =>
    intro hd hx
    have he : s.coldStart f = s.powerUp := (State.coldStart_dark hd).trans (s.coldPower_halts hx)
    obtain ⟨hphase, hstore⟩ := s.powerUp_pwr
    refine ⟨_, congrArg done he, ?_, ?_, ?_, ?_, ?_, ?_, ?_, ?_⟩
    · rw [State.settle_pwr, hphase]
    · rw [State.settle_pwr, hstore]
    · exact (State.settle_fld _ (by decide) 1 0).trans (State.gmsPages_owner _).1
    · exact (State.settle_fld _ (by decide) 1 0).trans (State.gmsPages_owner _).2
    · exact (State.settle_reg _ (by decide)).trans (State.gmsPages_events _)
    · exact (State.settle_fld _ (by decide) 3 0).trans (State.gmsPages_stage _)
    · rw [State.settle_kept, State.powerUp_kept]
    · rw [State.settle_cores, State.powerUp_cores]
  case boots =>
    intro hd hx ht hs hr ho
    have he := (State.coldStart_dark (f := f) hd).trans (s.coldPower_boots hx)
    have hk := s.powerUp_kept
    have hruns := State.coldBoot_runs (s := s.powerUp) (f := f) (level := if s.pwr.phase = .sleep then 0 else s.level) (by rw [hk, ht])
      (slotOk_of (by rw [hk]; exact hs) (by rw [hk]; exact hr) (by rw [hk]; exact ho))
    rw [← he] at hruns
    obtain ⟨⟨l, hpwr⟩, hkept, hstage, hclock, hepoch, hslot, hversion, hpair⟩ := hruns.settle
    rw [hk] at hkept hslot hversion
    exact ⟨_, rfl, by rw [hpwr], by rw [hpwr]; exact s.powerUp_pwr.2, by rw [State.now, hpwr], hkept, hstage, hclock,
      fun n => (hepoch n).trans s.powerUp_rtc, hslot, hversion, hpair fun n => s.powerUp_pair n⟩
  case recovers =>
    intro hd hx ht hA hB
    have he := (State.coldStart_dark (f := f) hd).trans (s.coldPower_boots hx)
    rw [State.coldBoot_recovery (by rw [State.powerUp_kept, ht]) hA hB] at he
    refine ⟨_, congrArg done he, by rw [State.settle_pwr]; rfl, ?_⟩
    rw [State.settle_flag _ (by decide), State.flag_eq, State.reg_setFlag, if_pos rfl]
    exact bit_setBit_self _ _ (by omega)
  case retries =>
    intro hh hx ht hs hr ho
    have he : s.xtalRetry f = s.coldBoot f 0 := by
      unfold State.xtalRetry
      rw [hh, hx]
      rfl
    obtain ⟨⟨l, hpwr⟩, hkept, hstage, hclock, -⟩ := (State.coldBoot_runs (level := 0) ht (slotOk_of hs hr ho)).settle
    exact ⟨_, congrArg done he, by rw [hpwr], by rw [State.now, hpwr], hstage, hclock, hkept⟩
  case waits =>
    intro hh hx
    have he : s.xtalRetry f = s := by
      unfold State.xtalRetry
      rw [hx, Bool.and_false]
      rfl
    exact ⟨_, congrArg done he, State.settle_pwr _, State.RegsOn.keepsBut .refl rfl⟩

end Sys2Proof.Machine
end

section
/-! SUPPORT. Which kinds of state a command can change, from the lemma of its row, and the queue, which no command changes. -/

namespace Sys2Proof.Machine

/-- Every kind of state that mask m names stands in l. -/
def Part.covered (m : Nat) (l : List Part) : Bool := (Part.allBut []).all fun p => !m.testBit p.idx || l.contains p

theorem Part.mem_all (p : Part) : p ∈ Part.allBut [] := by cases p <;> decide

/-- A change within a mask that a list of kinds covers leaves every other kind alone. -/
theorem State.WithinM.agree {m : Nat} {l : List Part} {s t : State} (h : s.WithinM m t) (hm : Part.covered m l = true) {p : Part} (hp : p ∉ l) :
    s.agree p t := by
  have hcov := List.all_eq_true.mp hm p p.mem_all
  simp only [List.contains_eq_mem, hp, decide_false, Bool.or_false, Bool.not_eq_true'] at hcov
  exact h.same p hcov

/-- Each row's meaning changes the kinds of state of its reach at most. -/
theorem exec_within (c : Instr) (s : State) :
    ∃ m, (∀ t, exec c s = .next t → s.WithinM m t) ∧ Part.covered m (canChange c) = true := by
  cases c with
  | personality pair => exact ⟨_, State.execPersonality_within pair s, rfl⟩
  | pdReq pair => exact ⟨_, State.execPdReq_within pair s, rfl⟩
  | domainPowered d => exact ⟨_, State.execDomainPowered_within d s, rfl⟩
  | sleep pair => exact ⟨_, State.execSleep_within pair s, rfl⟩
  | wakeSourceLatch src => exact ⟨_, State.execWakeSourceLatch_within src s, rfl⟩
  | wakeTimerExpiry => exact ⟨_, State.execWakeTimerExpiry_within s, rfl⟩
  | warmWake facts => exact ⟨_, State.execWarmWake_within facts s, rfl⟩
  | coldStart facts => exact ⟨_, State.execColdStart_within facts s, rfl⟩
  | clockFault xtal => exact ⟨_, State.execClockFault_within xtal s, rfl⟩
  | pllnetFault => exact ⟨_, State.execPllnetFault_within s, rfl⟩
  | pllnetRelock ok => exact ⟨_, State.execPllnetRelock_within ok s, rfl⟩
  | vsWarning vs => exact ⟨_, State.execVsWarning_within vs s, rfl⟩
  | vsResume vs lowest => exact ⟨_, State.execVsResume_within vs lowest s, rfl⟩
  | vsOvervoltage vs => exact ⟨_, State.execVsOvervoltage_within vs s, rfl⟩
  | supplyReset vs => exact ⟨_, State.execSupplyReset_within vs s, rfl⟩
  | holdupExhausted mastLost => exact ⟨_, State.execHoldupExhausted_within mastLost s, rfl⟩
  | coldReset pair => exact ⟨_, State.execColdReset_within pair s, rfl⟩
  | gmsRestart back => exact ⟨_, State.execGmsRestart_within back s, rfl⟩
  | pageEnable port page => exact ⟨_, State.execPageEnable_within port page s, rfl⟩
  | pageDisable port page => exact ⟨_, State.execPageDisable_within port page s, rfl⟩
  | softReset port page => exact ⟨_, State.execSoftReset_within port page s, rfl⟩
  | configLock port page => exact ⟨_, State.execConfigLock_within port page s, rfl⟩
  | keyWrite port page key => exact ⟨_, State.execKeyWrite_within port page key s, rfl⟩
  | keyLapse page => exact ⟨_, State.execKeyLapse_within page s, rfl⟩
  | ownerClaim port page value => exact ⟨_, State.execOwnerClaim_within port page value s, rfl⟩
  | aliasWrite port clear addr value => exact ⟨_, State.execAliasWrite_within port clear addr value s, rfl⟩
  | registerWrite port addr value => exact ⟨_, State.execRegisterWrite_within port addr value s, rfl⟩
  | crcRecomputed page => exact ⟨_, State.execCrcRecomputed_within page s, rfl⟩
  | crcCheck page upset => exact ⟨_, State.execCrcCheck_within page upset s, rfl⟩
  | eventOccurrence e => exact ⟨_, State.execEventOccurrence_within e s, rfl⟩
  | captureSnap port n k => exact ⟨_, State.execCaptureSnap_within port n k s, rfl⟩
  | captureFreezeRead port n k => exact ⟨_, State.execCaptureFreezeRead_within port n k s, rfl⟩
  | captureReleaseRead port n k => exact ⟨_, State.execCaptureReleaseRead_within port n k s, rfl⟩
  | captureFreezeLapse n k => exact ⟨_, State.execCaptureFreezeLapse_within n k s, rfl⟩
  | dtimeRead port n => exact ⟨_, State.execDtimeRead_within port n s, rfl⟩
  | evrTimerExpiry n => exact ⟨_, State.execEvrTimerExpiry_within n s, rfl⟩
  | recordDrain => exact ⟨_, State.execRecordDrain_within s, rfl⟩
  | transactionIssue port t => exact ⟨_, State.execTransactionIssue_within port t s, rfl⟩
  | arbitrationRound t => exact ⟨_, State.execArbitrationRound_within t s, rfl⟩
  | transactionResponse t => exact ⟨_, State.execTransactionResponse_within t s, rfl⟩
  | targetTimeout t => exact ⟨_, State.execTargetTimeout_within t s, rfl⟩
  | lrW port rd addr => exact ⟨_, State.execLrW_within port rd addr s, rfl⟩
  | scW port rd addr value => exact ⟨_, State.execScW_within port rd addr value s, rfl⟩
  | amo port op rd addr value => exact ⟨_, State.execAmo_within port op rd addr value s, rfl⟩
  | fence core => exact ⟨_, State.execFence_within core s, rfl⟩
  | lockExpiry t => exact ⟨_, State.execLockExpiry_within t s, rfl⟩
  | icxCfg pair => exact ⟨_, State.execIcxCfg_within pair s, rfl⟩
  | interconnectPeriod => exact ⟨_, State.execInterconnectPeriod_within s, rfl⟩
  | trimBudgetCut n mismatch => exact ⟨_, State.execTrimBudgetCut_within n mismatch s, rfl⟩
  | windowClose pair main checker => exact ⟨_, State.execWindowClose_within pair main checker s, rfl⟩
  | compareResult pair selfTestOk => exact ⟨_, State.execCompareResult_within pair selfTestOk s, rfl⟩
  | delayFault pair => exact ⟨_, State.execDelayFault_within pair s, rfl⟩
  | realignComplete pair => exact ⟨_, State.execRealignComplete_within pair s, rfl⟩
  | axfinRead core rd => exact ⟨_, State.execAxfinRead_within core rd s, rfl⟩
  | devEdgeWake core k => exact ⟨_, State.execDevEdgeWake_within core k s, rfl⟩
  | pairRestart pair => exact ⟨_, State.execPairRestart_within pair s, rfl⟩
  | syncReq core => exact ⟨_, State.execSyncReq_within core s, rfl⟩
  | syncTimeout pair => exact ⟨_, State.execSyncTimeout_within pair s, rfl⟩
  | lockComplete pair => exact ⟨_, State.execLockComplete_within pair s, rfl⟩
  | splitReq core => exact ⟨_, State.execSplitReq_within core s, rfl⟩
  | debugHalt pair => exact ⟨_, State.execDebugHalt_within pair s, rfl⟩
  | debugAbstractCommand pair dst value => exact ⟨_, State.execDebugAbstractCommand_within pair dst value s, rfl⟩
  | debugResume pair => exact ⟨_, State.execDebugResume_within pair s, rfl⟩
  | shroudACycle => exact ⟨_, State.execShroudACycle_within s, rfl⟩
  | shroudBCycle => exact ⟨_, State.execShroudBCycle_within s, rfl⟩
  | xcmpExchange missing lpRcOff => exact ⟨_, State.execXcmpExchange_within missing lpRcOff s, rfl⟩
  | shroudOperateEntry => exact ⟨_, State.execShroudOperateEntry_within s, rfl⟩
  | commission pair => exact ⟨_, State.execCommission_within pair s, rfl⟩
  | sinInputChange j chB level => exact ⟨_, State.execSinInputChange_within j chB level s, rfl⟩
  | sinFilterExpiry j => exact ⟨_, State.execSinFilterExpiry_within j s, rfl⟩
  | sinDiscrepancy j => exact ⟨_, State.execSinDiscrepancy_within j s, rfl⟩
  | ss1Timeout g => exact ⟨_, State.execSs1Timeout_within g s, rfl⟩
  | finalSto g => exact ⟨_, State.execFinalSto_within g s, rfl⟩
  | islandSafeCode ch code => exact ⟨_, State.execIslandSafeCode_within ch code s, rfl⟩
  | safeResetRequest idleMs skewMs widthMs => exact ⟨_, State.execSafeResetRequest_within idleMs skewMs widthMs s, rfl⟩
  | safeResetJam => exact ⟨_, State.execSafeResetJam_within s, rfl⟩
  | trimRunStart n ecc => exact ⟨_, State.execTrimRunStart_within n ecc s, rfl⟩
  | trEnd n ecc => exact ⟨_, State.execTrEnd_within n ecc s, rfl⟩
  | trEndn n ecc => exact ⟨_, State.execTrEndn_within n ecc s, rfl⟩
  | trEndt n ecc => exact ⟨_, State.execTrEndt_within n ecc s, rfl⟩
  | trLds n ecc => exact ⟨_, State.execTrLds_within n ecc s, rfl⟩
  | trLdf n ecc => exact ⟨_, State.execTrLdf_within n ecc s, rfl⟩
  | trLdt n ecc => exact ⟨_, State.execTrLdt_within n ecc s, rfl⟩
  | trSto n ecc => exact ⟨_, State.execTrSto_within n ecc s, rfl⟩
  | trLdk n ecc => exact ⟨_, State.execTrLdk_within n ecc s, rfl⟩
  | trLst n ecc => exact ⟨_, State.execTrLst_within n ecc s, rfl⟩
  | trSst n ecc => exact ⟨_, State.execTrSst_within n ecc s, rfl⟩
  | trMov n ecc => exact ⟨_, State.execTrMov_within n ecc s, rfl⟩
  | trAdd n ecc => exact ⟨_, State.execTrAdd_within n ecc s, rfl⟩
  | trSub n ecc => exact ⟨_, State.execTrSub_within n ecc s, rfl⟩
  | trNeg n ecc => exact ⟨_, State.execTrNeg_within n ecc s, rfl⟩
  | trAbs n ecc => exact ⟨_, State.execTrAbs_within n ecc s, rfl⟩
  | trMul n ecc => exact ⟨_, State.execTrMul_within n ecc s, rfl⟩
  | trMulr n ecc => exact ⟨_, State.execTrMulr_within n ecc s, rfl⟩
  | trAclr n ecc => exact ⟨_, State.execTrAclr_within n ecc s, rfl⟩
  | trMac n ecc => exact ⟨_, State.execTrMac_within n ecc s, rfl⟩
  | trMacr n ecc => exact ⟨_, State.execTrMacr_within n ecc s, rfl⟩
  | trArnd n ecc => exact ⟨_, State.execTrArnd_within n ecc s, rfl⟩
  | trSatk n ecc => exact ⟨_, State.execTrSatk_within n ecc s, rfl⟩
  | trLim n ecc => exact ⟨_, State.execTrLim_within n ecc s, rfl⟩
  | trRamp n ecc => exact ⟨_, State.execTrRamp_within n ecc s, rfl⟩
  | trPi n ecc => exact ⟨_, State.execTrPi_within n ecc s, rfl⟩
  | trPit n ecc => exact ⟨_, State.execTrPit_within n ecc s, rfl⟩
  | trBiq n ecc => exact ⟨_, State.execTrBiq_within n ecc s, rfl⟩
  | trClarke n ecc => exact ⟨_, State.execTrClarke_within n ecc s, rfl⟩
  | trPark n ecc => exact ⟨_, State.execTrPark_within n ecc s, rfl⟩
  | trIpark n ecc => exact ⟨_, State.execTrIpark_within n ecc s, rfl⟩
  | trSvm n ecc => exact ⟨_, State.execTrSvm_within n ecc s, rfl⟩
  | trSincos n ecc => exact ⟨_, State.execTrSincos_within n ecc s, rfl⟩
  | trAtan2 n ecc => exact ⟨_, State.execTrAtan2_within n ecc s, rfl⟩
  | trSqrt n ecc => exact ⟨_, State.execTrSqrt_within n ecc s, rfl⟩
  | trDiv n ecc => exact ⟨_, State.execTrDiv_within n ecc s, rfl⟩
  | trB n ecc => exact ⟨_, State.execTrB_within n ecc s, rfl⟩
  | contextEnable port n j => exact ⟨_, State.execContextEnable_within port n j s, rfl⟩
  | enableScanDone n j => exact ⟨_, State.execEnableScanDone_within n j s, rfl⟩
  | contextDisable port n j => exact ⟨_, State.execContextDisable_within port n j s, rfl⟩
  | contextWatchdog n j => exact ⟨_, State.execContextWatchdog_within n j s, rfl⟩
  | trimMemoryWrite port addr eight data => exact ⟨_, State.execTrimMemoryWrite_within port addr eight data s, rfl⟩
  | tuneStart port n slot rule => exact ⟨_, State.execTuneStart_within port n slot rule s, rfl⟩
  | tuneAbort port n => exact ⟨_, State.execTuneAbort_within port n s, rfl⟩
  | tuneTimeout n => exact ⟨_, State.execTuneTimeout_within n s, rfl⟩
  | latencyClear port => exact ⟨_, State.execLatencyClear_within port s, rfl⟩
  | adcSeqstartGo port n => exact ⟨_, State.execAdcSeqstartGo_within port n s, rfl⟩
  | adcSlotDone n code => exact ⟨_, State.execAdcSlotDone_within n code s, rfl⟩
  | sdmWindowEnd n sum => exact ⟨_, State.execSdmWindowEnd_within n sum s, rfl⟩
  | sdmFault n stuck => exact ⟨_, State.execSdmFault_within n stuck s, rfl⟩
  | scdTrip n count => exact ⟨_, State.execScdTrip_within n count s, rfl⟩
  | scdRelease n count => exact ⟨_, State.execScdRelease_within n count s, rfl⟩
  | comparatorTrip k x => exact ⟨_, State.execComparatorTrip_within k x s, rfl⟩
  | comparatorRelease k x => exact ⟨_, State.execComparatorRelease_within k x s, rfl⟩
  | comparatorSettled k x => exact ⟨_, State.execComparatorSettled_within k x s, rfl⟩
  | comparatorClear port k x => exact ⟨_, State.execComparatorClear_within port k x s, rfl⟩
  | housekeepingRound r => exact ⟨_, State.execHousekeepingRound_within r s, rfl⟩
  | sup5SwitchOff j => exact ⟨_, State.execSup5SwitchOff_within j s, rfl⟩
  | sup5Retry j ok => exact ⟨_, State.execSup5Retry_within j ok s, rfl⟩
  | loadPoint u peak => exact ⟨_, State.execLoadPoint_within u peak s, rfl⟩
  | eventGenerator u g => exact ⟨_, State.execEventGenerator_within u g s, rfl⟩
  | asynchronousTrip u => exact ⟨_, State.execAsynchronousTrip_within u s, rfl⟩
  | tripclr port u => exact ⟨_, State.execTripclr_within port u s, rfl⟩
  | swcommit port u => exact ⟨_, State.execSwcommit_within port u s, rfl⟩
  | srdSupplyFail mv => exact ⟨_, State.execSrdSupplyFail_within mv s, rfl⟩
  | gateCommandEdge ch rising => exact ⟨_, State.execGateCommandEdge_within ch rising s, rfl⟩
  | profilePhaseEnd ch onTime => exact ⟨_, State.execProfilePhaseEnd_within ch onTime s, rfl⟩
  | partnerGateLowConfirmed ch => exact ⟨_, State.execPartnerGateLowConfirmed_within ch s, rfl⟩
  | handshakeTimeout ch => exact ⟨_, State.execHandshakeTimeout_within ch s, rfl⟩
  | desaturation ch => exact ⟨_, State.execDesaturation_within ch s, rfl⟩
  | reefStep2 ch => exact ⟨_, State.execReefStep2_within ch s, rfl⟩
  | gclr port g => exact ⟨_, State.execGclr_within port g s, rfl⟩
  | undervoltageLockout ch mv => exact ⟨_, State.execUndervoltageLockout_within ch mv s, rfl⟩
  | linkFault ch => exact ⟨_, State.execLinkFault_within ch s, rfl⟩
  | islandOvertemperature ch degC => exact ⟨_, State.execIslandOvertemperature_within ch degC s, rfl⟩
  | selftestRun port g => exact ⟨_, State.execSelftestRun_within port g s, rfl⟩
  | selftestDone g fails => exact ⟨_, State.execSelftestDone_within g fails s, rfl⟩
  | twEdge n a b => exact ⟨_, State.execTwEdge_within n a b s, rfl⟩
  | twStandstill n => exact ⟨_, State.execTwStandstill_within n s, rfl⟩
  | restEnd n => exact ⟨_, State.execRestEnd_within n s, rfl⟩
  | hallChange set code => exact ⟨_, State.execHallChange_within set code s, rfl⟩
  | dcdcStart port => exact ⟨_, State.execDcdcStart_within port s, rfl⟩
  | dcdcStop port => exact ⟨_, State.execDcdcStop_within port s, rfl⟩
  | dcdcShortCheck => exact ⟨_, State.execDcdcShortCheck_within s, rfl⟩
  | dcdcHiccupRetry => exact ⟨_, State.execDcdcHiccupRetry_within s, rfl⟩
  | hiccntClear => exact ⟨_, State.execHiccntClear_within s, rfl⟩
  | dcdcShortClear port => exact ⟨_, State.execDcdcShortClear_within port s, rfl⟩
  | dcdcSyncEdge => exact ⟨_, State.execDcdcSyncEdge_within s, rfl⟩
  | dcdcSyncMissing => exact ⟨_, State.execDcdcSyncMissing_within s, rfl⟩
  | dcdcShed => exact ⟨_, State.execDcdcShed_within s, rfl⟩
  | dcdcDutyTimeout => exact ⟨_, State.execDcdcDutyTimeout_within s, rfl⟩
  | obcUpdate v1 v2 v3 freq => exact ⟨_, State.execObcUpdate_within v1 v2 v3 freq s, rfl⟩
  | obcPlugged => exact ⟨_, State.execObcPlugged_within s, rfl⟩
  | obcStart port => exact ⟨_, State.execObcStart_within port s, rfl⟩
  | obcExport port => exact ⟨_, State.execObcExport_within port s, rfl⟩
  | obcStop port => exact ⟨_, State.execObcStop_within port s, rfl⟩
  | prechargeDone timeout => exact ⟨_, State.execPrechargeDone_within timeout s, rfl⟩
  | acPresent timeout => exact ⟨_, State.execAcPresent_within timeout s, rfl⟩
  | searchClimb => exact ⟨_, State.execSearchClimb_within s, rfl⟩
  | cvStep => exact ⟨_, State.execCvStep_within s, rfl⟩
  | chargeDone => exact ⟨_, State.execChargeDone_within s, rfl⟩
  | hostWatchdogExpiry => exact ⟨_, State.execHostWatchdogExpiry_within s, rfl⟩
  | handoverS2Open timeout => exact ⟨_, State.execHandoverS2Open_within timeout s, rfl⟩
  | handoverAcWaitEnd timeout => exact ⟨_, State.execHandoverAcWaitEnd_within timeout s, rfl⟩
  | handoverEnd => exact ⟨_, State.execHandoverEnd_within s, rfl⟩
  | pilotStateChange high low osc => exact ⟨_, State.execPilotStateChange_within high low osc s, rfl⟩
  | ppChange mv => exact ⟨_, State.execPpChange_within mv s, rfl⟩
  | pilotLimitTimeout => exact ⟨_, State.execPilotLimitTimeout_within s, rfl⟩
  | exportReconnect => exact ⟨_, State.execExportReconnect_within s, rfl⟩
  | exportWindowTrip => exact ⟨_, State.execExportWindowTrip_within s, rfl⟩
  | lampOvercurrent status => exact ⟨_, State.execLampOvercurrent_within status s, rfl⟩
  | lampRetry status => exact ⟨_, State.execLampRetry_within status s, rfl⟩
  | actStart port n => exact ⟨_, State.execActStart_within port n s, rfl⟩
  | actArm port n => exact ⟨_, State.execActArm_within port n s, rfl⟩
  | actStop port n => exact ⟨_, State.execActStop_within port n s, rfl⟩
  | actSpeedUpdate n => exact ⟨_, State.execActSpeedUpdate_within n s, rfl⟩
  | actSpeedZero n => exact ⟨_, State.execActSpeedZero_within n s, rfl⟩
  | actHallTimeout n => exact ⟨_, State.execActHallTimeout_within n s, rfl⟩
  | actOverload n => exact ⟨_, State.execActOverload_within n s, rfl⟩
  | actStall n => exact ⟨_, State.execActStall_within n s, rfl⟩
  | bootstrapUndervoltage n phase mv => exact ⟨_, State.execBootstrapUndervoltage_within n phase mv s, rfl⟩
  | engageInhibit n => exact ⟨_, State.execEngageInhibit_within n s, rfl⟩
  | actSupplyOvervoltage mv => exact ⟨_, State.execActSupplyOvervoltage_within mv s, rfl⟩
  | ctrClose port => exact ⟨_, State.execCtrClose_within port s, rfl⟩
  | ctrOpen port => exact ⟨_, State.execCtrOpen_within port s, rfl⟩
  | ctrStepTimer short => exact ⟨_, State.execCtrStepTimer_within short s, rfl⟩
  | ctrNegOpen => exact ⟨_, State.execCtrNegOpen_within s, rfl⟩
  | tcoolEnd => exact ⟨_, State.execTcoolEnd_within s, rfl⟩
  | pullInEnd k => exact ⟨_, State.execPullInEnd_within k s, rfl⟩
  | hsoOvercurrent k => exact ⟨_, State.execHsoOvercurrent_within k s, rfl⟩
  | contactorDisable => exact ⟨_, State.execContactorDisable_within s, rfl⟩
  | ringRun port k => exact ⟨_, State.execRingRun_within port k s, rfl⟩
  | ringStop port k => exact ⟨_, State.execRingStop_within port k s, rfl⟩
  | ringTone port k => exact ⟨_, State.execRingTone_within port k s, rfl⟩
  | ringTrainEnd k aUp bUp => exact ⟨_, State.execRingTrainEnd_within k aUp bUp s, rfl⟩
  | ringEnumDone k fromA fromB full => exact ⟨_, State.execRingEnumDone_within k fromA fromB full s, rfl⟩
  | ringMeasDone k hops => exact ⟨_, State.execRingMeasDone_within k hops s, rfl⟩
  | ringStreamStart port k => exact ⟨_, State.execRingStreamStart_within port k s, rfl⟩
  | ringSync k => exact ⟨_, State.execRingSync_within k s, rfl⟩
  | ringStreamSend k => exact ⟨_, State.execRingStreamSend_within k s, rfl⟩
  | ringStreamReceive k areas aborted => exact ⟨_, State.execRingStreamReceive_within k areas aborted s, rfl⟩
  | zcorCopyDone k => exact ⟨_, State.execZcorCopyDone_within k s, rfl⟩
  | zcorStart port k => exact ⟨_, State.execZcorStart_within port k s, rfl⟩
  | zcorAbort port k => exact ⟨_, State.execZcorAbort_within port k s, rfl⟩
  | tqtailWrite port k tail => exact ⟨_, State.execTqtailWrite_within port k tail s, rfl⟩
  | ringTransactionComplete k tag data status ack aborted => exact ⟨_, State.execRingTransactionComplete_within k tag data status ack aborted s, rfl⟩
  | ringTransactionTimeout k tag => exact ⟨_, State.execRingTransactionTimeout_within k tag s, rfl⟩
  | ringLaneDown k portB reachedA fromB => exact ⟨_, State.execRingLaneDown_within k portB reachedA fromB s, rfl⟩
  | ringLaneUp k portB => exact ⟨_, State.execRingLaneUp_within k portB s, rfl⟩
  | version pair => exact ⟨_, State.execVersion_within pair s, rfl⟩
  | wakeCfg pair => exact ⟨_, State.execWakeCfg_within pair s, rfl⟩
  | retainWrite pair => exact ⟨_, State.execRetainWrite_within pair s, rfl⟩
  | dataStore pair => exact ⟨_, State.execDataStore_within pair s, rfl⟩
  | dataLoad pair => exact ⟨_, State.execDataLoad_within pair s, rfl⟩
  | bbMark pair => exact ⟨_, State.execBbMark_within pair s, rfl⟩
  | bbCommit pair => exact ⟨_, State.execBbCommit_within pair s, rfl⟩
  | bbRead pair => exact ⟨_, State.execBbRead_within pair s, rfl⟩
  | bbCfg pair => exact ⟨_, State.execBbCfg_within pair s, rfl⟩
  | fcCfg pair => exact ⟨_, State.execFcCfg_within pair s, rfl⟩
  | fcArm pair => exact ⟨_, State.execFcArm_within pair s, rfl⟩
  | meterRead pair => exact ⟨_, State.execMeterRead_within pair s, rfl⟩
  | meterCal pair => exact ⟨_, State.execMeterCal_within pair s, rfl⟩
  | passportGet pair => exact ⟨_, State.execPassportGet_within pair s, rfl⟩
  | passportZadd pair => exact ⟨_, State.execPassportZadd_within pair s, rfl⟩
  | updateConfirm pair => exact ⟨_, State.execUpdateConfirm_within pair s, rfl⟩
  | accessDrop pair => exact ⟨_, State.execAccessDrop_within pair s, rfl⟩
  | bbCommitStart => exact ⟨_, State.execBbCommitStart_within s, rfl⟩
  | bbCommitDone => exact ⟨_, State.execBbCommitDone_within s, rfl⟩
  | bbPeriod => exact ⟨_, State.execBbPeriod_within s, rfl⟩
  | fcTick => exact ⟨_, State.execFcTick_within s, rfl⟩
  | fcFreeze => exact ⟨_, State.execFcFreeze_within s, rfl⟩
  | meterSample => exact ⟨_, State.execMeterSample_within s, rfl⟩
  | meterRecord => exact ⟨_, State.execMeterRecord_within s, rfl⟩
  | passportHistogram => exact ⟨_, State.execPassportHistogram_within s, rfl⟩
  | mramScrub uncorrectable => exact ⟨_, State.execMramScrub_within uncorrectable s, rfl⟩
  | diagnosticSessionControl ch session => exact ⟨_, State.execDiagnosticSessionControl_within ch session s, rfl⟩
  | securityAccess ch sub verdict => exact ⟨_, State.execSecurityAccess_within ch sub verdict s, rfl⟩
  | accessTimeout => exact ⟨_, State.execAccessTimeout_within s, rfl⟩
  | readDataByIdentifier ch did => exact ⟨_, State.execReadDataByIdentifier_within ch did s, rfl⟩
  | requestDownload ch slotB length => exact ⟨_, State.execRequestDownload_within ch slotB length s, rfl⟩
  | transferData ch seq data => exact ⟨_, State.execTransferData_within ch seq data s, rfl⟩
  | requestTransferExit ch => exact ⟨_, State.execRequestTransferExit_within ch s, rfl⟩
  | routineCheckSlot ch facts => exact ⟨_, State.execRoutineCheckSlot_within ch facts s, rfl⟩
  | routineActivateSlot ch => exact ⟨_, State.execRoutineActivateSlot_within ch s, rfl⟩
  | routinePairRestart ch option => exact ⟨_, State.execRoutinePairRestart_within ch option s, rfl⟩
  | ecuReset ch sub => exact ⟨_, State.execEcuReset_within ch sub s, rfl⟩
  | testerConfigWrite ch addr value => exact ⟨_, State.execTesterConfigWrite_within ch addr value s, rfl⟩
  | twinRun port => exact ⟨_, State.execTwinRun_within port s, rfl⟩
  | twinFrameSend => exact ⟨_, State.execTwinFrameSend_within s, rfl⟩
  | twinFrameReceive frame lane1 => exact ⟨_, State.execTwinFrameReceive_within frame lane1 s, rfl⟩
  | twinPartnerLost => exact ⟨_, State.execTwinPartnerLost_within s, rfl⟩
  | twinXreq port groups => exact ⟨_, State.execTwinXreq_within port groups s, rfl⟩
  | twinXreqExpiry groups => exact ⟨_, State.execTwinXreqExpiry_within groups s, rfl⟩
  | twinOffsetMeasure offset => exact ⟨_, State.execTwinOffsetMeasure_within offset s, rfl⟩
  | twinRingHandover port rings => exact ⟨_, State.execTwinRingHandover_within port rings s, rfl⟩
  | twinTakeover k => exact ⟨_, State.execTwinTakeover_within k s, rfl⟩
  | canRxFrame n xtd remote fd id data => exact ⟨_, State.execCanRxFrame_within n xtd remote fd id data s, rfl⟩
  | canTxtailWrite port n tail => exact ⟨_, State.execCanTxtailWrite_within port n tail s, rfl⟩
  | canTxDone n => exact ⟨_, State.execCanTxDone_within n s, rfl⟩
  | ethRxFrame n frame crcOk => exact ⟨_, State.execEthRxFrame_within n frame crcOk s, rfl⟩
  | ethTxtailWrite port n ring tail => exact ⟨_, State.execEthTxtailWrite_within port n ring tail s, rfl⟩
  | ethTxDone n => exact ⟨_, State.execEthTxDone_within n s, rfl⟩
  | ethLinkChange n up => exact ⟨_, State.execEthLinkChange_within n up s, rfl⟩
  | ntofshWrite port value => exact ⟨_, State.execNtofshWrite_within port value s, rfl⟩
  | ntnowlRead port => exact ⟨_, State.execNtnowlRead_within port s, rfl⟩
  | xtal25Retry facts => exact ⟨_, State.execXtal25Retry_within facts s, rfl⟩
  | actCurrentLimit n milliamps => exact ⟨_, State.execActCurrentLimit_within n milliamps s, rfl⟩
  | lampPattern status => exact ⟨_, State.execLampPattern_within status s, rfl⟩
  | pilotCycleMeasured freq duty high low => exact ⟨_, State.execPilotCycleMeasured_within freq duty high low s, rfl⟩
  | canBusOff n => exact ⟨_, State.execCanBusOff_within n s, rfl⟩
  | twinLinkTrained => exact ⟨_, State.execTwinLinkTrained_within s, rfl⟩
  | twinTokenReceive k => exact ⟨_, State.execTwinTokenReceive_within k s, rfl⟩
  | twinSummaryForward k words stamp => exact ⟨_, State.execTwinSummaryForward_within k words stamp s, rfl⟩

theorem exec_agree {c : Instr} {s t : State} (h : exec c s = .next t) {p : Part} (hp : p ∉ canChange c) : s.agree p t := by
  obtain ⟨m, hw, hm⟩ := exec_within c s
  exact (hw t h).agree hm hp

end Sys2Proof.Machine
end

section
/-! SUPPORT. Which commands answer a next state (R19, R96, R106, R180): the operand checks of the rows are the well-formedness of the command, and
nothing but a step takes a command from the queue. -/

namespace Sys2Proof.Machine

/-! ### The operand checks -/

theorem txnOk_eq (x : Txn) : txnOk x = x.wf := by
  unfold txnOk Txn.wf
  rw [Bool.eq_iff_iff]
  by_cases hb : x.beats = 1
  · simp only [hb, singleSizes, Nat.mul_one, if_true, true_and, List.contains_eq_mem, Bool.and_eq_true, Bool.or_eq_true, decide_eq_true_eq, beq_iff_eq,
      Bool.not_eq_true', List.mem_cons, List.not_mem_nil, or_false, Nat.dvd_iff_mod_eq_zero]
    constructor
    · rintro ⟨⟨h | h, ha⟩, hd⟩
      · rw [max_eq_left (by omega)] at ha
        exact ⟨⟨h, ha⟩, hd⟩
      · omega
    · rintro ⟨⟨h, ha⟩, hd⟩
      rw [max_eq_left (by omega)]
      exact ⟨⟨.inl h, ha⟩, hd⟩
  · simp only [hb, if_false, Bool.and_eq_true, Bool.or_eq_true, decide_eq_true_eq, beq_iff_eq, false_and, false_or,
      Bool.not_eq_true', List.mem_cons, List.not_mem_nil, or_false, Nat.dvd_iff_mod_eq_zero]
    constructor
    · rintro ⟨⟨⟨⟨h2, h4⟩, h16⟩, ha⟩, hd⟩
      rw [h16, max_eq_left (by omega)] at ha
      rw [h16] at hd
      exact ⟨⟨⟨by omega, h16⟩, ha⟩, hd⟩
    · rintro ⟨⟨⟨h, h16⟩, ha⟩, hd⟩
      rw [h16, max_eq_left (by omega)]
      exact ⟨⟨⟨by omega, rfl⟩, ha⟩, hd⟩

theorem regOffset_of_registerAddr {addr : Word} (h : registerAddr addr = true) : regOffset addr.toNat = some (addr.toNat - 0x40000000) := by
  simp only [registerAddr, Bool.and_eq_true, decide_eq_true_eq] at h
  exact if_pos (by omega)

theorem regOffset_of_not_registerAddr {addr : Word} (h : registerAddr addr = false) : regOffset addr.toNat = none := by
  simp only [registerAddr, Bool.and_eq_false_iff, decide_eq_false_iff_not] at h
  exact if_neg (by omega)

theorem atomicOk_eq (port : Port) (addr : Word) : atomicOk port addr = atomicPlace port addr := by
  rw [Bool.eq_iff_iff]
  simp only [atomicOk, atomicPlace, Bool.and_eq_true, decide_eq_true_eq, beq_iff_eq]
  omega

theorem trimPlace_eq (addr : Word) (eight : Bool) :
    (trimMemory addr.toNat && addr.toNat % (if eight then 8 else 4) == 0) = trimPlace addr eight := by
  rw [Bool.eq_iff_iff]
  simp only [trimMemory, trimPlace, Bool.and_eq_true, decide_eq_true_eq, beq_iff_eq, List.mem_cons, List.not_mem_nil, or_false,
    Nat.dvd_iff_mod_eq_zero]
  omega

/-! ### Every row but those eight completes whatever its operands -/

/-- A well-formed command answers a next state. -/
theorem exec_completes {c : Instr} (h : c.wf = true) (s : State) : Completes (exec c s) := by
  cases c
  case transactionIssue port x => exact ⟨_, if_pos ((txnOk_eq x).trans h)⟩
  case lrW port rd addr => exact ⟨_, if_pos ((atomicOk_eq port addr).trans h)⟩
  case scW port rd addr value => exact ⟨_, if_pos ((atomicOk_eq port addr).trans h)⟩
  case amo port op rd addr value => exact ⟨_, if_pos ((atomicOk_eq port addr).trans h)⟩
  case trimMemoryWrite port addr eight data => exact ⟨_, if_pos ((trimPlace_eq addr eight).trans h)⟩
  case aliasWrite port clear addr value =>
    change Completes (execAliasWrite port clear addr value s)
    unfold execAliasWrite
    rw [regOffset_of_registerAddr h]
    exact ⟨_, rfl⟩
  case registerWrite port addr value =>
    change Completes (execRegisterWrite port addr value s)
    unfold execRegisterWrite
    rw [regOffset_of_registerAddr h]
    exact ⟨_, rfl⟩
  case testerConfigWrite ch addr value =>
    change Completes (execTesterConfigWrite ch addr value s)
    unfold execTesterConfigWrite
    rw [regOffset_of_registerAddr h]
    exact ⟨_, rfl⟩
  all_goals exact ⟨_, rfl⟩

/-- A command that is not well-formed stops. -/
theorem exec_illFormed {c : Instr} (h : c.wf = false) (s : State) : exec c s = .fault .illFormedCommand := by
  cases c
  case transactionIssue port x => exact if_neg (by rw [txnOk_eq]; exact ne_true_of_eq_false h)
  case lrW port rd addr => exact if_neg (by rw [atomicOk_eq]; exact ne_true_of_eq_false h)
  case scW port rd addr value => exact if_neg (by rw [atomicOk_eq]; exact ne_true_of_eq_false h)
  case amo port op rd addr value => exact if_neg (by rw [atomicOk_eq]; exact ne_true_of_eq_false h)
  case trimMemoryWrite port addr eight data => exact if_neg (by rw [trimPlace_eq]; exact ne_true_of_eq_false h)
  case aliasWrite port clear addr value =>
    change execAliasWrite port clear addr value s = _
    rw [execAliasWrite, regOffset_of_not_registerAddr h]
  case registerWrite port addr value =>
    change execRegisterWrite port addr value s = _
    rw [execRegisterWrite, regOffset_of_not_registerAddr h]
  case testerConfigWrite ch addr value =>
    change execTesterConfigWrite ch addr value s = _
    rw [execTesterConfigWrite, regOffset_of_not_registerAddr h]
  all_goals exact Bool.noConfusion h

/-! ### The queue -/

/-- The queue is no kind of state that a row can change. -/
theorem pending_not_mem_canChange (c : Instr) : Part.pending ∉ canChange c := by
  have h : (canChange c).contains .pending = false := by cases c <;> rfl
  simpa using h

theorem exec_pending {c : Instr} {s t : State} (h : exec c s = .next t) : t.pending = s.pending :=
  exec_agree h (pending_not_mem_canChange c)

/-- A step takes the command at the front, if one waits, and adds none. -/
theorem step_pending {s t : State} (h : step s = .next t) : t.pending = s.pending.tail := by
  unfold step at h
  split at h
  next hq =>
    obtain rfl : s.tick.settle = t := by simpa using h
    rw [State.settle_pending, hq]
    exact (s.tick_within.same .pending rfl).trans hq
  next c rest hq => rw [exec_pending h, hq]; rfl

/-- From a queue of well-formed commands a step answers a next state. -/
theorem State.QueueWf.step_completes {s : State} (hq : s.QueueWf) : Completes (step s) := by
  unfold step
  split
  next => exact ⟨_, rfl⟩
  next c rest h => exact exec_completes (hq c (by rw [h]; exact List.mem_cons_self)) _

/-- Settles O2: the operand checks of the eight rows that have one are the well-formedness of the command, every other row completes whatever its
operands, and the queue is no kind of state that a row can change, so that a step only takes its head. -/
theorem commandsComplete : Obligations.CommandsComplete := by
  unfold Obligations.CommandsComplete
  refine fun c s => ⟨fun h => ?_, fun h => exec_illFormed h s, fun hq => ?_⟩
  · obtain ⟨t, ht⟩ := exec_completes h s
    exact ⟨t, ht, exec_pending ht⟩
  · obtain ⟨t, ht⟩ := hq.step_completes
    have hp := step_pending ht
    exact ⟨t, ht, hp, fun c hc => hq c (List.mem_of_mem_tail (hp ▸ hc))⟩

end Sys2Proof.Machine
end

section
/-! SUPPORT. The canonical form of memory (R19, assumption 7): the operations that write memory keep it, and every other operation does not touch
memory, by the kinds of state it can change. -/

namespace Sys2Proof.Machine

/-- Memory is in canonical form. -/
def State.Canon (s : State) : Prop := Memory.wf s.mem

namespace State.Canon

variable {s t : State} {m n k a p : Nat}

/-! ### How it composes -/

theorem of_mem (h : s.Canon) (hm : t.mem = s.mem) : t.Canon := by unfold State.Canon; rwa [hm]

/-- Past an operation that does not reach memory. -/
theorem past (h : s.Canon) (hw : s.WithinM m t) (hm : m.testBit Part.mem.idx = false) : t.Canon := h.of_mem (hw.same .mem hm)

theorem ite {c : Prop} {_ : Decidable c} (h : s.Canon) (k : t.Canon) : (if c then s else t).Canon := by
  split
  · exact h
  · exact k

theorem iteFst {α : Type} {c : Prop} {_ : Decidable c} {x y : State × α} (h : x.1.Canon) (k : y.1.Canon) : (if c then x else y).1.Canon := by
  split
  · exact h
  · exact k

theorem fst {α : Type} {x : State × α} {r : α} (h : x.1.Canon) (hx : x = (t, r)) : t.Canon := by rwa [hx] at h

theorem foldl {α : Type} {f : State → α → State} {l : List α} (h : s.Canon) (hf : ∀ t x, t.Canon → (f t x).Canon) : (l.foldl f s).Canon := by
  induction l generalizing s with
  | nil => exact h
  | cons x l ih => exact ih (hf s x h)

theorem each {f : State → Nat → State} {l : List Nat} (h : s.Canon) (hf : ∀ t j, t.Canon → (f t j).Canon) : (s.each l f).Canon := h.foldl hf

theorem when {f : State → State} {b : Bool} (h : s.Canon) (hf : ∀ t, t.Canon → (f t).Canon) : (s.when b f).Canon := (hf s h).ite h

theorem next (h : s.Canon) (hd : done s = .next t) : t.Canon := by
  obtain rfl : s.settle = t := by simpa [done] using hd
  exact h.past s.settle_within rfl

/-- Past a row that checks its operands. -/
theorem nextIf {c : Prop} {_ : Decidable c} {f : Fault} (h : s.Canon) (hd : (if c then done s else .fault f) = .next t) : t.Canon := by
  split at hd
  · exact h.next hd
  · cases hd

/-! ### Writes of memory -/

variable {l : List Byte} {w : Word}

theorem putByte {b : Byte} (h : s.Canon) : (s.putByte a b).Canon := s.wf_putByte a b h
theorem putBytes (h : s.Canon) : (s.putBytes a l).Canon := s.wf_putBytes l a h
theorem putWord (h : s.Canon) : (s.putWord a w).Canon := s.wf_putWord a w h
theorem clearMem (h : s.Canon) : (s.clearMem a n).Canon := s.wf_clearMem a n h

theorem dmaPut (h : s.Canon) : (s.dmaPut a l).Canon := h.putBytes.ite h

/-! ### Rings (chapter 16) -/

theorem txResult {i tag r : Nat} (h : s.Canon) : (s.txResult k i tag r).Canon := by
  unfold State.txResult
  exact (h.dmaPut.past (State.raise_within ..) rfl).when fun _ h => h.past (State.raise_within ..) rfl

theorem txIssue (h : s.Canon) : (State.txIssue n s k).Canon := by
  induction n generalizing s with
  | zero => exact h
  | succ n ih =>
    unfold State.txIssue
    dsimp only
    split
    · exact h
    split
    · split
      · exact ih (((h.past (State.putRing_within ..) rfl).past (State.tagsShow_within ..) rfl).past (State.tqNext_within ..) rfl)
      · exact h
    · exact ih (h.txResult.past (State.tqNext_within ..) rfl)

theorem txRun (h : s.Canon) : (s.txRun k).Canon := h.txIssue

theorem txFlush (h : s.Canon) : (State.txFlush n s k).Canon := by
  induction n generalizing s with
  | zero => exact h
  | succ n ih =>
    unfold State.txFlush
    exact h.ite (ih (h.txResult.past (State.tqNext_within ..) rfl))

theorem txAbort (h : s.Canon) : (s.txAbort k).Canon :=
  (((h.foldl fun _ _ h => h.txResult).past (State.putRing_within ..) rfl).past (State.tagsShow_within ..) rfl).txFlush

theorem txEnd {tag r : Nat} {e : RingTx} (h : s.Canon) : (s.txEnd k tag r e).Canon :=
  ((h.past (State.putRing_within ..) rfl).past (State.tagsShow_within ..) rfl).txResult.txRun

theorem txComplete {tag : Nat} {data : List Word} {ack : List Byte} {aborted : Bool} (h : s.Canon) :
    (s.txComplete k tag data w ack aborted).Canon := by
  unfold State.txComplete
  split
  · exact h
  · exact h.txEnd.ite (h.dmaPut.txEnd.ite (h.dmaPut.ite h).dmaPut.txEnd)

theorem txTimeout {tag : Nat} (h : s.Canon) : (s.txTimeout k tag).Canon := by
  unfold State.txTimeout
  split
  · exact h.txEnd
  · exact h

theorem ringStop (h : s.Canon) : (s.ringStop k).Canon :=
  (((h.txAbort.past (State.putRing_within ..) rfl).past (State.setFlag_within ..) rfl).past (State.setFold_within ..) rfl).past
    (State.ringEnter_within ..) rfl

theorem ringMeasured {l : List (Nat × Option Nat × Option Nat)} (h : s.Canon) : (s.ringMeasured k l).Canon := by
  unfold State.ringMeasured
  have measured : ∀ hops : List (Nat × Option Nat × Option Nat), ∀ v : Nat × Option Nat × Option Nat → Word, ∀ x lost,
      ((((hops.foldl (fun u e => u.setReg (Adr.EFR_HOP k e.1) (v e)) s).putComps k hops).setReg (Adr.EFR_DMAX k) x).when lost
        fun u => u.fault (Pg.EFR k) 1).Canon := fun _ _ _ _ =>
    (((h.foldl fun _ _ h => h.past (State.setReg_within ..) rfl).past (State.putComps_within ..) rfl).past (State.setReg_within ..) rfl).when
      fun _ h => h.past (State.fault_within ..) rfl
  dsimp only
  split
  · exact h.when fun _ h => h.past (State.putComps_within ..) rfl
  · exact (measured ..).ite (((measured ..).past (State.ringFail_within ..) rfl).ite ((measured ..).past (State.ringEnter_within ..) rfl).txRun)

theorem ringTake {areas : List RingArea} {aborted : Bool} (h : s.Canon) : (s.ringTake k areas aborted a).Canon := by
  unfold State.ringTake
  dsimp only
  split
  · exact ((h.past (State.putRing_within ..) rfl).dmaPut.past (State.bump_within ..) rfl).past (State.raise_within ..) rfl
  · exact (((h.past (State.putRing_within ..) rfl).dmaPut.past (State.setFlag_within ..) rfl).past (State.raise_within ..) rfl).ite
      (h.past (State.putRing_within ..) rfl).dmaPut

/-! ### Correlators (chapter 16) -/

theorem zBegin (h : s.Canon) : (s.zBegin k).Canon :=
  (((h.clearMem.past (State.clearRegs_within ..) rfl).past (State.putZcor_within ..) rfl).past (State.setReg_within ..) rfl).past
    (State.setFld_within ..) rfl

theorem zStart (h : s.Canon) : (s.zStart k).Canon := h.ite h.zBegin

theorem acc64 {d : Int} (h : s.Canon) : (s.acc64 a d).Canon := h.putBytes

theorem zCell {ch : Nat} {ph : List (Nat × Int × Int)} (h : s.Canon) : (s.zCell k a ch ph).Canon := by
  unfold State.zCell
  exact (h.past (State.setFlag_within ..) rfl).ite (((h.past (State.putZcor_within ..) rfl).ite h).foldl fun _ _ h => h.acc64.acc64)

theorem zCycle (h : s.Canon) : (s.zCycle k).Canon := by
  unfold State.zCycle
  refine h.ite ?_
  extract_lets n ph t t1
  have ht : t.Canon := by
    unfold t
    split
    · exact h.past (State.bump_within ..) rfl
    · exact (h.past (State.zAmps_within ..) rfl).foldl fun _ _ h => h.each fun _ _ h => h.zCell
  have ht1 : t1.Canon := ht.past (State.setReg_within ..) rfl
  exact ht1.ite ((ht1.past (State.setFld_within ..) rfl).past (State.raise_within ..) rfl)

theorem zCopied (h : s.Canon) : (s.zCopied k).Canon := by
  unfold State.zCopied
  exact h.ite (((h.clearMem.foldl fun _ _ h => h.putByte).putBytes).ite h).zBegin

theorem ringReceive {areas : List RingArea} {aborted : Bool} (h : s.Canon) : (s.ringReceive k areas aborted).Canon := by
  unfold State.ringReceive
  refine h.ite ?_
  extract_lets buf base s0 s1 s2 s3
  have h1 : s1.Canon := (h.clearMem.ite h).when fun _ h => h.past (State.bump_within ..) rfl
  have h2 : s2.Canon := h1.each fun _ _ h => h.ringTake
  have h3 : s3.Canon := ((h2.past (State.setReg_within ..) rfl).past (State.raise_within ..) rfl).past (State.took_within ..) rfl
  exact ((h3.past (State.putRing_within ..) rfl).past (State.ringSummary_within ..) rfl).zCycle

/-! ### Networks and the Twin link (chapters 18 and 19) -/

theorem descDone (h : s.Canon) : (s.descDone a w).Canon := h.dmaPut.dmaPut.dmaPut

theorem netReceive {page head errc hi lo : Nat} {r : Word × Nat} (h : s.Canon) : (s.netReceive page head errc hi lo r w l).Canon := by
  unfold State.netReceive
  exact ((h.past (State.bump_within ..) rfl).past (State.raise_within ..) rfl).ite
    ((h.dmaPut.descDone.past (State.setReg_within ..) rfl).past (State.raise_within ..) rfl)

theorem netSent {page head : Nat} {r : Word × Nat} (h : s.Canon) : (s.netSent page head r).Canon :=
  (h.descDone.past (State.setReg_within ..) rfl).past (State.raise_within ..) rfl

theorem canReceive {xtd remote fd : Bool} {id : Nat} (h : s.Canon) : (s.canReceive n xtd remote fd id l).Canon := by
  unfold State.canReceive
  refine h.ite ?_
  split
  · exact h.past (State.bump_within ..) rfl
  · exact h.netReceive.past (State.took_within ..) rfl

theorem canSent (h : s.Canon) : (s.canSent n).Canon := by
  unfold State.canSent
  exact h.netSent.ite h

theorem ethReceive {crcOk : Bool} (h : s.Canon) : (s.ethReceive n l crcOk).Canon := by
  unfold State.ethReceive
  refine h.ite ?_
  split
  · exact h.past (State.bump_within ..) rfl
  · exact h.netReceive

theorem ethSent (h : s.Canon) : (s.ethSent n).Canon := by
  unfold State.ethSent
  refine ite ?_ h
  split
  · exact h.netSent
  · exact h

theorem twinHand (h : s.Canon) : (s.twinHand k).Canon := by
  unfold State.twinHand
  refine ite ?_ h
  extract_lets t _ u
  have hu : u.Canon := (h.txAbort.past (State.putRing_within ..) rfl).past (State.ringEnter_within ..) rfl
  exact ((hu.past (State.setTwin_within ..) rfl).past (State.setFlag_within ..) rfl).past (State.raise_within ..) rfl

theorem twinHands (h : s.Canon) : (s.twinHands n).Canon := h.each fun _ _ h => h.twinHand

end State.Canon

end Sys2Proof.Machine
end

section
/-! SUPPORT. The canonical form of memory, kept by what stops pages, resets pairs and domains, writes records and changes the supply. -/

namespace Sys2Proof.Machine

namespace State.Canon

variable {s t : State} {n k p : Nat} {l : List Byte} {w : Word}

/-! ### Pages that stop and domains that lose power (chapters 03 and 04) -/

/-- Gates that follow their sources again. -/
theorem gates (h : s.Canon) : s.sourceCheck.gatesRefresh.Canon := (h.past (State.sourceCheck_within ..) rfl).past (State.gatesRefresh_within ..) rfl

theorem lamps (h : s.Canon) : s.pilotS2.lampRefresh.Canon := (h.past (State.pilotS2_within ..) rfl).past (State.lampRefresh_within ..) rfl

theorem zIdles (h : s.Canon) : (s.each [0, 1, 2, 3] State.zIdle).Canon := h.each fun _ _ h => h.past (State.zIdle_within ..) rfl

theorem blockStop (h : s.Canon) : (s.blockStop p).Canon := by
  unfold State.blockStop
  split
  · exact h.past (State.engineStop_within ..) rfl
  · exact (h.past (State.pwmStop_within ..) rfl).gates
  · exact h.gates
  · exact h.gates
  · exact h.past (State.adcStop_within ..) rfl
  · exact (h.past (State.sdmInvalidate_within ..) rfl).past (State.scdStop_within ..) rfl
  · exact h.past (State.cmpPage_within ..) rfl
  · exact h.past (State.hvsRefresh_within ..) rfl
  · exact h.past (State.twlStop_within ..) rfl
  · exact h.ringStop
  · exact h.zIdles
  · exact h.past (State.dcdcDisable_within ..) rfl
  · exact h.past (State.obcDisable_within ..) rfl
  · exact h.past (State.actDisable_within ..) rfl
  · exact h.lamps
  · exact h.past (State.ctrDrop_within ..) rfl
  · exact h.past (State.twinOff_within ..) rfl
  all_goals exact h

theorem blockSafe (h : s.Canon) : (s.blockSafe p).Canon := by
  unfold State.blockSafe
  split
  · exact h.past (State.engineStop_within ..) rfl
  · exact h.gates
  · exact h.gates
  · exact h.gates
  · exact (h.past (State.adcStop_within ..) rfl).past (State.adcInvalidate_within ..) rfl
  · exact h.past (State.sdmInvalidate_within ..) rfl
  · exact h.past (State.cmpPage_within ..) rfl
  · exact h.txAbort
  · exact h.zIdles
  · exact h.past (State.dcdcSafe_within ..) rfl
  · exact h.past (State.obcSafe_within ..) rfl
  · exact h.past (State.actSafe_within ..) rfl
  · exact h.lamps
  · exact h.past (State.ctrSafe_within ..) rfl
  all_goals exact h

theorem pageSafe (h : s.Canon) : (s.pageSafe p).Canon := by
  unfold State.pageSafe
  exact (((h.past (State.setFlag_within ..) rfl).past (State.setFlag_within ..) rfl).past (State.setKey_within ..) rfl).blockSafe.ite h

theorem disablePage (h : s.Canon) : (s.disablePage p).Canon := by
  unfold State.disablePage
  exact (h.past (State.setFlag_within ..) rfl).blockStop.ite h

theorem softReset (h : s.Canon) : (s.softReset p).Canon := by
  unfold State.softReset
  split
  · exact h
  extract_lets s1 s2 s3 s4
  have h2 : s2.Canon := (h.past (State.setFlag_within ..) rfl).blockStop.past (State.clearRegs_within ..) rfl
  have h3 : s3.Canon := ((h2.past (State.setReg_within ..) rfl).past (State.setReg_within ..) rfl).past (State.setReg_within ..) rfl
  have h4 : s4.Canon := (h3.past (State.blockHidden_within ..) rfl).past (State.crcTouch_within ..) rfl
  split
  · exact (h4.past (State.setReg_within ..) rfl).gates
  · exact h4.gates
  · exact h4.gates
  · exact h4.past (State.cmpPage_within ..) rfl
  · exact h4.past (State.hkStatus_within ..) rfl
  · exact h4.past (State.hvsRefresh_within ..) rfl
  · exact (h4.past (State.pilotRelimit_within ..) rfl).lamps
  · exact h4.past (State.ctrOutputs_within ..) rfl
  · exact h4

theorem domMemory {d : Nat} (h : s.Canon) : (s.domMemory d).Canon := by
  unfold State.domMemory
  split
  · exact h.clearMem.clearMem.clearMem
  · exact h.clearMem
  · exact h.clearMem
  · exact h.clearMem
  · exact h

theorem domClear {d : Nat} (h : s.Canon) : (s.domClear d).Canon := by
  unfold State.domClear
  exact (((h.past (State.clearRegs_within ..) rfl).foldl fun _ _ h => (h.past (State.blockHidden_within ..) rfl).past
    (State.putPage_within ..) rfl).past
    (State.setSamples_within ..) rfl).domMemory

theorem domStop {d : Nat} (h : s.Canon) : (s.domStop d).Canon := h.foldl fun _ _ h => (h.past (State.setFlag_within ..) rfl).blockStop

theorem domainOff {d : Nat} (h : s.Canon) : (s.domainOff d).Canon := by
  unfold State.domainOff
  refine h.ite ?_
  extract_lets s1 s2 s3 s4
  have h2 : s2.Canon := (h.domStop.past (State.domIslands_within ..) rfl).domClear.past (State.domShow_within ..) rfl
  have h3 : s3.Canon := (h2.past (State.setFlag_within ..) rfl).ite h2
  have h4 : s4.Canon := (h3.past (State.setReg_within ..) rfl).ite h3
  exact h4.past (State.domEffects_within ..) rfl

/-! ### Pairs (chapter 06) -/

theorem pairScope (h : s.Canon) : (s.pairScope n).Canon :=
  ((h.past (State.putCore_within ..) rfl).past (State.putCore_within ..) rfl).domMemory.past (State.putPair_within ..) rfl

theorem pairReset {flt : Bool} (h : s.Canon) : (s.pairReset n flt).Canon := by
  unfold State.pairReset
  extract_lets s1 _ s2 s3
  have h1 : s1.Canon := ((h.past (State.icxReset_within ..) rfl).past (State.icxReset_within ..) rfl).pairScope
  have h3 : s3.Canon := (h1.past (State.putPair_within ..) rfl).when fun _ h => h.past (State.setFlag_within ..) rfl
  exact h3.each fun _ _ h => h.pageSafe.when fun _ h => h.past (State.setFlag_within ..) rfl

theorem pairFault {cause : Nat} (h : s.Canon) : (s.pairFault n cause).Canon := by
  unfold State.pairFault
  refine h.ite ?_
  extract_lets first _ s1 s2 s3
  have h2 : s2.Canon := (h.past (State.putPair_within ..) rfl).when fun _ h => (h.past (State.setReg_within ..) rfl).past (State.setReg_within ..) rfl
  have h3 : s3.Canon := (h2.past (State.fault_within ..) rfl).past (State.setReg_within ..) rfl
  exact (h3.past (State.raise_within ..) rfl).pairReset

theorem pairRelease (h : s.Canon) : (s.pairRelease n).Canon :=
  ((h.pairScope.past (State.putPair_within ..) rfl).past (State.setReg_within ..) rfl).past (State.pairLocked_within ..) rfl

theorem pairRestart (h : s.Canon) : (s.pairRestart n).Canon := by
  unfold State.pairRestart
  exact h.pairRelease.ite h

theorem mismatch {async : Bool} (h : s.Canon) : (s.mismatch n async).Canon := by
  unfold State.mismatch
  refine h.pairFault.ite (h.pairFault.ite (h.pairFault.ite ?_))
  exact ((((h.past (State.setFlag_within ..) rfl).past (State.raise_within ..) rfl).past (State.putPair_within ..) rfl).ite h).past
    (State.realign_within ..) rfl

theorem verdict {ok : Bool} (h : s.Canon) : (s.verdict n ok).Canon := by
  unfold State.verdict
  split
  · exact h
  extract_lets _ s1 count s2
  have h1 : s1.Canon := ((h.past (State.putPair_within ..) rfl).past (State.setReg_within ..) rfl).past (State.setReg_within ..) rfl
  have hc : ∀ t : State, t.Canon → (count t).Canon := fun _ h => h.past (State.setReg_within ..) rfl
  exact h1.pairFault.ite ((h1.mismatch.when hc).ite ((hc s1 h1).when fun _ h => h.past (State.splitDone_within ..) rfl))

theorem delayFault (h : s.Canon) : (s.delayFault n).Canon := by
  unfold State.delayFault
  exact h.pairFault.ite h

/-! ### MRAM records and the fault capture (chapter 17) -/

theorem writeBank {magic : Word} {b0 b1 : Nat} (h : s.Canon) : (s.writeBank magic b0 b1 n l).Canon :=
  h.clearMem.putBytes.putBytes.past (State.mramWrote_within ..) rfl

theorem spoilBank {magic : Word} {b0 b1 : Nat} (h : s.Canon) : (s.spoilBank magic b0 b1 n).Canon := h.clearMem.past (State.mramWrote_within ..) rfl

theorem meterWrite (h : s.Canon) : s.meterWrite.Canon := h.writeBank.writeBank.past (State.setKept_within ..) rfl

theorem commitWritten (h : s.Canon) : s.commitWritten.Canon := by
  unfold State.commitWritten
  extract_lets b s1 _ s2 s3 _ s4
  have h2 : s2.Canon := h.writeBank.meterWrite.past (State.setKept_within ..) rfl
  have h3 : s3.Canon := (h2.past (State.setReg_within ..) rfl).past (State.setFlag_within ..) rfl
  have h4 : s4.Canon := (h3.past (State.setGms_within ..) rfl).past (State.raise_within ..) rfl
  exact ((h4.past (State.setFlag_within ..) rfl).past (State.commitStart_within ..) rfl).ite h4

theorem fcClose {g : Segment} (h : s.Canon) : (s.fcClose g).Canon := (h.past (State.setGms_within ..) rfl).putWord

theorem fcFlush (h : s.Canon) : (s.fcFlush k).Canon := by
  unfold State.fcFlush
  split
  · exact h.fcClose
  · exact h

theorem fcSample {x : Option Int} (h : s.Canon) : (s.fcSample k x).Canon := by
  unfold State.fcSample
  dsimp only
  split
  · exact (h.past (State.putFcOpen_within ..) rfl).ite (h.fcFlush.past (State.putFcOpen_within ..) rfl)
  · exact h.fcFlush.past (State.putFcOpen_within ..) rfl
  · exact h.fcFlush.fcClose.past (State.putFcOpen_within ..) rfl
  · exact (h.past (State.putFcOpen_within ..) rfl).ite (h.fcFlush.past (State.putFcOpen_within ..) rfl)

theorem fcTick (h : s.Canon) : s.fcTick.Canon := by
  unfold State.fcTick
  exact h.ite ((h.each fun _ _ h => h.fcSample).past (State.setGms_within ..) rfl)

theorem fcFreeze (h : s.Canon) : s.fcFreeze.Canon := by
  unfold State.fcFreeze
  refine h.ite ?_
  extract_lets s1 _ _ s2
  have h2 : s2.Canon := (h.each fun _ _ h => h.fcFlush).past (State.setGms_within ..) rfl
  exact (((h2.past (State.setFlag_within ..) rfl).past (State.setFlag_within ..) rfl).past (State.raise_within ..) rfl).past
    (State.commitStart_within ..) rfl

/-! ### Mailboxes (chapter 17) -/

theorem mbxWrite {r : Nat} (h : s.Canon) : (s.mbxWrite p r l).Canon := h.putBytes.putWord.putWord

theorem mbxDone {r : Nat} (h : s.Canon) : (s.mbxDone p r l).Canon := (h.mbxWrite.past (State.setGms_within ..) rfl).past (State.raise_within ..) rfl

theorem mbxAdvance (h : s.Canon) : (State.mbxAdvance n s).Canon := by
  induction n generalizing s with
  | zero => exact h
  | succ n ih =>
    unfold State.mbxAdvance
    split
    · exact h.ite (ih h.mbxDone)
    · exact h

theorem doorbell {q : Byte} (h : s.Canon) : (s.doorbell p q).Canon := by
  unfold State.doorbell
  exact h.ite (h.putByte.mbxDone.ite ((h.putByte.putWord.past (State.setFlag_within ..) rfl).past (State.setGms_within ..) rfl).mbxAdvance)

theorem mbxRun {code lvl : Nat} {f : State → Answer} (h : s.Canon) (hf : ∀ t, t.Canon → (f t).1.Canon) : (s.mbxRun p code lvl f).Canon := by
  unfold State.mbxRun
  refine ite ?_ h
  extract_lets ans
  have ha : ans.1.Canon := by
    unfold ans
    split
    · exact h
    split
    · exact h
    · exact hf s h
  exact ha.mbxDone.mbxAdvance

theorem gmsDown (h : s.Canon) : s.gmsDown.Canon := by
  unfold State.gmsDown
  extract_lets s1 s2 _ s3
  have h2 : s2.Canon := ((h.past (State.icxReset_within ..) rfl).past (State.setFlag_within ..) rfl).foldl fun _ _ h => h.mbxDone
  have h3 : s3.Canon := ((h2.spoilBank.past (State.setFld_within ..) rfl).past (State.setGms_within ..) rfl).ite h2
  exact h3.past (State.setGms_within ..) rfl

/-! ### Power, clocks and reset (chapter 03) -/

theorem resetImage {ph : Phase} {keepB : Bool} (h : s.Canon) : (s.resetImage ph keepB).Canon :=
  Store.wf_clear (fun _ => 0#8) (fun a => decide (a < 0x10000000) || decide (0x12000000 ≤ a)) s.mem h

theorem pdAccept {on off : List Nat} (h : s.Canon) : (s.pdAccept on off).Canon := by
  unfold State.pdAccept
  extract_lets s1 _ s2 req
  have h1 : s1.Canon := h.each fun _ _ h => (h.past (State.setPwr_within ..) rfl).domainOff
  exact ((h1.past (State.setPwr_within ..) rfl).past (State.setReg_within ..) rfl).past (State.bootAdvance_within ..) rfl

theorem pdRequest (h : s.Canon) : (s.pdRequest p).1.Canon := by
  unfold State.pdRequest
  dsimp only
  split
  · exact h
  split
  · exact h
  · exact h.pdAccept

theorem supplyReset {vs : Nat} (h : s.Canon) : (s.supplyReset vs).Canon := by
  unfold State.supplyReset
  extract_lets t _ s1 _ s2 s3 s4 _ s5 _ s6
  have ht : t.Canon := h.past (State.setVs_within ..) rfl
  have h2 : s2.Canon := ((ht.past (State.setShroud_within ..) rfl).past (State.shroudAll_within ..) rfl).past (State.setBb_within ..) rfl
  have h3 : s3.Canon := (h2.pairReset.pairReset.past (State.trimStopAll_within ..) rfl).past (State.ctrDrop_within ..) rfl
  have h5 : s5.Canon := ((h3.each fun _ _ h => h.domainOff).past (State.setPwr_within ..) rfl).past (State.setFlag_within ..) rfl
  have h6 : s6.Canon := h5.past (State.setGms_within ..) rfl
  exact (h6.ite (h6.past (State.commitStart_within ..) rfl)).ite ((ht.resetImage.past (State.setFlag_within ..) rfl).ite ht)

theorem holdupExhausted {lost : Bool} (h : s.Canon) : (s.holdupExhausted lost).Canon := by
  have hm : ∀ t : State, t.Canon → t.mastheadLost.Canon := fun _ h => h.past (State.mastheadLost_within ..) rfl
  unfold State.holdupExhausted
  exact ((h.spoilBank.ite h).resetImage.when hm).ite (h.when hm)

theorem sleepEntry (h : s.Canon) : s.sleepEntry.Canon := by
  unfold State.sleepEntry
  extract_lets _ s1 s2
  have h1 : s1.Canon := (h.past (State.setPwr_within ..) rfl).past (State.wakeCopy_within ..) rfl
  have h2 : s2.Canon := h1.each fun _ _ h => ((h.past (State.putCmp_within ..) rfl).past (State.cmpBegin_within ..) rfl).ite h
  exact h2.resetImage

theorem coldResetNow {cause : Nat} (h : s.Canon) : (s.coldResetNow cause).Canon := h.resetImage.past (State.setFlag_within ..) rfl

theorem commitDone (h : s.Canon) : s.commitDone.Canon := by
  unfold State.commitDone
  refine h.ite (h.commitWritten.ite ?_)
  split
  · exact h.commitWritten
  · exact (h.commitWritten.past (State.setAfter_within ..) rfl).sleepEntry
  · exact (h.commitWritten.past (State.setAfter_within ..) rfl).coldResetNow

theorem releasePairs {oem : Bool} (h : s.Canon) : (s.releasePairs oem).Canon := by
  unfold State.releasePairs
  exact (((h.past (State.domainOn_within ..) rfl).past (State.domainOn_within ..) rfl).past (State.orReg_within ..) rfl).when
    fun _ h => h.pairRelease.pairRelease

/-- The boot of a slot, up to stage 3. -/
theorem booted {f : BootFacts} {b : Bool} (h : s.Canon) :
    ((((s.showSlot f b).bootShroud f).releasePairs f.oemKeyWritten).setStage 3).Canon := by
  have h1 : (s.showSlot f b).Canon := (h.past (State.setFlag_within ..) rfl).past (State.setReg_within ..) rfl
  exact (h1.past (State.bootShroud_within ..) rfl).releasePairs.past (State.setStage_within ..) rfl

theorem coldBoot {f : BootFacts} (h : s.Canon) : (s.coldBoot f n).Canon := by
  unfold State.coldBoot
  extract_lets s1 s2
  have h2 : s2.Canon := ((((h.past (State.setReg_within ..) rfl).past (State.setPhaseOf_within ..) rfl).past (State.startTime_within ..) rfl).past
    (State.startRecords_within ..) rfl).past (State.notePersonality_within ..) rfl
  have h3 : s2.bootChoice.1.Canon := h2.past (State.bootChoice_within ..) rfl
  generalize s2.bootChoice = choice at h3
  obtain ⟨s3, first, trial⟩ := choice
  exact (h3.booted.past (State.setFlag_within ..) rfl).ite (((h3.past (State.setFlag_within ..) rfl).past (State.logUpdate_within ..) rfl).booted.ite
      ((h3.past (State.setPhaseOf_within ..) rfl).past (State.setFlag_within ..) rfl))

theorem coldPower {f : BootFacts} (h : s.Canon) : (s.coldPower f).Canon := by
  unfold State.coldPower
  extract_lets level vs s1 _ s2
  have h2 : s2.Canon := ((h.resetImage.past (State.setVs_within ..) rfl).past (State.setPwr_within ..) rfl).past (State.gmsPages_within ..) rfl
  exact h2.coldBoot.ite h2

theorem coldStart {f : BootFacts} (h : s.Canon) : (s.coldStart f).Canon := by
  unfold State.coldStart
  exact h.coldPower.ite h

theorem xtalRetry {f : BootFacts} (h : s.Canon) : (s.xtalRetry f).Canon := by
  unfold State.xtalRetry
  exact h.coldBoot.ite h

theorem warmWake {f : BootFacts} (h : s.Canon) : (s.warmWake f).Canon := by
  unfold State.warmWake
  refine h.ite (h.coldPower.ite ?_)
  extract_lets s1 s2 s3 s4 s5 s6
  have h1 : s1.Canon := (h.past (State.setPhaseOf_within ..) rfl).past (State.setVs_within ..) rfl
  have h2 : s2.Canon := (h1.each fun _ _ h => h.past (State.putCmp_within ..) rfl).past (State.gmsPages_within ..) rfl
  have h3 : s3.Canon := (h2.past (State.setReg_within ..) rfl).past (State.startTime_within ..) rfl
  have h4 : s4.Canon := ((h3.past (State.setFlag_within ..) rfl).past (State.startRecords_within ..) rfl).past (State.setFlag_within ..) rfl
  have h5 : s5.Canon := (h4.past (State.shroudWake_within ..) rfl).past (State.restoreDomains_within ..) rfl
  have h6 : s6.Canon := h5.when fun _ h => h.foldl fun _ _ h => h.when fun _ h => h.pairRelease
  exact ((h6.past (State.setReg_within ..) rfl).past (State.setFlag_within ..) rfl).past (State.setStage_within ..) rfl

theorem pllnetDown (h : s.Canon) : s.pllnetDown.Canon :=
  (((h.past (State.setFlag_within ..) rfl).each fun _ _ h => h.ringStop).past (State.setNet_within ..) rfl).past (State.twinOff_within ..) rfl

theorem pllnetFault (h : s.Canon) : s.pllnetFault.Canon := by
  unfold State.pllnetFault
  exact ((h.pllnetDown.past (State.raise_within ..) rfl).past (State.setPwr_within ..) rfl).ite h

theorem clockFault {xtal : Bool} (h : s.Canon) : (s.clockFault xtal).Canon := by
  unfold State.clockFault
  refine ite ?_ h
  extract_lets s1 _ s2 s3
  have h2 : s2.Canon := ((h.past (State.setReg_within ..) rfl).past (State.setShroud_within ..) rfl).past (State.shroudAll_within ..) rfl
  have h3 : s3.Canon := ((h2.when fun _ h => h.pllnetDown).past (State.trimStopAll_within ..) rfl).past (State.raise_within ..) rfl
  exact h3.past (State.coldResetGo_within ..) rfl

end State.Canon

end Sys2Proof.Machine
end

section
/-! SUPPORT. The canonical form of memory, kept by mailbox answers, register writes, accesses of every target and the trim's commits: so by every
command and every step. -/

namespace Sys2Proof.Machine

namespace State.Canon

variable {s t : State} {n k a p : Nat} {l : List Byte} {w : Word}

/-! ### Mailbox commands and diagnostics (chapter 17) -/

theorem ansPairRestart (h : s.Canon) : (s.ansPairRestart p).1.Canon := by
  unfold State.ansPairRestart
  split
  · exact h
  · exact h.pairRestart

theorem ansDataStore (h : s.Canon) : (s.ansDataStore p).1.Canon := by
  unfold State.ansDataStore
  dsimp only
  split
  · exact h
  · exact h.writeBank

theorem ansMeterCal (h : s.Canon) : (s.ansMeterCal p).1.Canon := by
  unfold State.ansMeterCal
  split
  · exact h
  · exact ((h.past (State.setGms_within ..) rfl).past (State.logKind_within ..) rfl).meterWrite

theorem udsTransfer {ch : Nat} {q : Byte} (h : s.Canon) : (s.udsTransfer ch q l).Canon := by
  have hno : ∀ c, (s.udsNo c).Canon := fun _ => h.past (State.udsNo_within ..) rfl
  unfold State.udsTransfer
  refine h.ite ?_
  split
  · exact hno _
  refine (hno _).ite ((h.past (State.udsOk_within ..) rfl).ite ((hno _).ite ((hno _).ite ?_)))
  extract_lets t
  have ht : t.Canon := h.putBytes.past (State.mramWrote_within ..) rfl
  exact (ht.past (State.setGms_within ..) rfl).past (State.udsOk_within ..) rfl

theorem udsPairRestart {ch : Nat} {q : Byte} (h : s.Canon) : (s.udsPairRestart ch q).Canon := by
  have hno : ∀ c, (s.udsNo c).Canon := fun _ => h.past (State.udsNo_within ..) rfl
  unfold State.udsPairRestart
  exact h.ite ((hno _).ite ((hno _).ite ((hno _).ite (h.pairRestart.past (State.udsOk_within ..) rfl))))

/-! ### Registers (chapter 04) -/

variable {old new : Word}

theorem ringHook (h : s.Canon) : (s.ringHook n w old new).Canon := by
  unfold State.ringHook
  extract_lets s1 s2
  have h1 : s1.Canon := (((h.past (State.ringRun_within ..) rfl).ite h).ite (h.ringStop.ite h))
  have h2 : s2.Canon := (h1.past (State.ringStream_within ..) rfl).ite ((h1.past (State.ringUnstream_within ..) rfl).ite h1)
  exact (h2.past (State.ringTone_within ..) rfl).ite h2

theorem blockHook {port off : Nat} {b : Block} (h : s.Canon) : (s.blockHook port b n off w old new).Canon := by
  unfold State.blockHook
  cases b
  case sys => exact (h.pdAccept.ite h).ite (((h.past (State.setAfter_within ..) rfl).past (State.commitStart_within ..) rfl).ite h)
  case icx => exact (h.past (State.icxClasses_within ..) rfl).ite h
  case evr => exact ((h.past (State.setReg_within ..) rfl).ite h).ite ((h.past (State.capArrive_within ..) rfl).ite h)
  case pair => exact (h.past (State.syncReq_within ..) rfl).ite ((h.past (State.splitReq_within ..) rfl).ite h)
  case trim => exact h.past (State.trimHook_within ..) rfl
  case tsch => exact (h.past (State.clearRegs_within ..) rfl).ite h
  case pwm => exact h.past (State.pwmHook_within ..) rfl
  case ggrp => exact h.past (State.groupHook_within ..) rfl
  case lvdrv => exact h.gates.ite h
  case adc => exact (h.past (State.adcStart_within ..) rfl).ite h
  case sdm =>
    exact (h.ite (h.past (State.sdmInvalidate_within ..) rfl)).ite ((h.past (State.scdStop_within ..) rfl).ite ((h.past
      (State.sdmClocks_within ..) rfl).ite h))
  case cmpb => exact h.past (State.cmpHook_within ..) rfl
  case hvs => exact (h.past (State.hvsRefresh_within ..) rfl).ite h
  case twl => exact (h.ite (h.past (State.twlTest_within ..) rfl)).ite ((h.past (State.putTwl_within ..) rfl).ite h)
  case hall => exact (h.past (State.hallStart_within ..) rfl).ite h
  case efr => exact h.ringHook.ite (h.txRun.ite h)
  case zcor => exact ((h.past (State.zIdle_within ..) rfl).ite (h.zStart.ite h)).ite h
  case dcdc => exact (h.past (State.dcdcCmd_within ..) rfl).ite h
  case obc => exact (h.past (State.obcCmd_within ..) rfl).ite ((h.past (State.obcHost_within ..) rfl).ite h)
  case pilot =>
    exact (h.past (State.pilotS2_within ..) rfl).ite ((h.past (State.pilotRelimit_within ..) rfl).ite ((h.past
      (State.lampRefresh_within ..) rfl).ite h))
  case ctr => exact (h.past (State.ctrCmd_within ..) rfl).ite ((h.past (State.ctrOutputs_within ..) rfl).ite h)
  case act => exact (h.past (State.actCmd_within ..) rfl).ite h
  case eth => exact (h.past (State.netOffset_within ..) rfl).ite h
  case shrd => exact (h.past (State.sinShow_within ..) rfl).ite h
  case twin =>
    exact ((h.past (State.twinRun_within ..) rfl).ite (h.past (State.twinOff_within ..) rfl)).ite (h.twinHands.ite ((h.past
      (State.twinXreq_within ..) rfl).ite h))
  all_goals exact h

theorem writePctrl {srst : Bool} (h : s.Canon) : (s.writePctrl p srst old new).Canon := by
  unfold State.writePctrl
  extract_lets s1 s2 s3
  have h1 : s1.Canon := h.past (State.setReg_within ..) rfl
  have h2 : s2.Canon := h1.ite (h1.past (State.crcTouch_within ..) rfl)
  have h3 : s3.Canon := (h2.past (State.crcLatch_within ..) rfl).ite h2
  exact h3.softReset.ite ((h3.past (State.enablePage_within ..) rfl).ite (h3.disablePage.ite h3))

theorem writeReg {port off : Nat} {i : RegInfo} {mode : WriteMode} (h : s.Canon) : (s.writeReg port p off i mode w old new).Canon := by
  have h1 : (s.setReg (4096 * p + off) new).Canon := h.past (State.setReg_within ..) rfl
  unfold State.writeReg
  dsimp only
  split
  · exact h1
  refine (h1.ite ((h1.past (State.crcTouch_within ..) rfl).when fun _ h => h.past (State.crcLatch_within ..) rfl)).ite ?_
  exact (h1.past (State.faultHook_within ..) rfl).ite (h1.ite ((h1.past (State.crcTouch_within ..) rfl).ite h1).blockHook)

theorem regWrite {port : Nat} {mode : WriteMode} {bus : Word} (h : s.Canon) : (s.regWrite port bus a mode w).1.Canon := by
  have hno : ∀ u : State, u.Canon → ∀ r, (u.refuse port bus r true).1.Canon := fun _ h _ => h.past (State.refuse_within ..) rfl
  unfold State.regWrite
  extract_lets pg off owned keyed word t i old' new'
  have ht : t.Canon := (h.past (State.setKey_within ..) rfl).ite h
  split
  · exact h
  refine (h.past (State.refuseOff_within ..) rfl).iteFst ((hno s h _).iteFst ((ht.past (State.writeOwner_within ..) rfl).iteFst ((hno s h _).iteFst
    ((ht.iteFst (hno t ht _)).iteFst ?_))))
  split
  · exact hno _ ((ht.past (State.fault_within ..) rfl).ite ht) _
  · exact ht.writePctrl.ite ht.writeReg

theorem targetWrite (h : s.Canon) : (s.targetWrite a w).Canon := by
  unfold State.targetWrite
  exact h.ite h.writeReg

/-! ### Accesses (chapters 01 and 05) -/

variable {x : Txn} {port : Nat}

theorem memAccess (h : s.Canon) : (s.memAccess x).1.Canon := by
  unfold State.memAccess
  exact h.putBytes.iteFst h

theorem pageAccess (h : s.Canon) : (s.pageAccess port x).1.Canon := by
  unfold State.pageAccess
  refine h.iteFst (iteFst ?_ ?_)
  · split
    next u hu => exact h.regWrite.fst hu
    next u r hu => exact h.regWrite.fst hu
  · split
    next u v hu => exact (h.past (State.regRead_within ..) rfl).fst hu
    next u hu => exact (h.past (State.regRead_within ..) rfl).fst hu

theorem entryStored (h : s.Canon) : (s.entryStored a).Canon := h.putWord

theorem trimAccess (h : s.Canon) : (s.trimAccess port x).1.Canon := by
  unfold State.trimAccess
  exact h.memAccess.iteFst (h.iteFst (h.iteFst (h.memAccess.ite (h.memAccess.each fun _ _ h => h.entryStored))))

theorem mbxWord {off : Nat} (h : s.Canon) : (s.mbxWord port p off w).1.Canon := by
  unfold State.mbxWord
  exact h.iteFst (h.doorbell.iteFst (h.putWord.iteFst (h.putWord.iteFst h)))

theorem mbxAccess (h : s.Canon) : (s.mbxAccess port x).1.Canon := by
  unfold State.mbxAccess
  exact (h.iteFst (h.mbxWord.iteFst h)).iteFst (h.memAccess.iteFst (h.memAccess.iteFst h))

theorem access (h : s.Canon) : (s.access port x).1.Canon := by
  unfold State.access
  dsimp only
  split
  · exact h
  · exact h.iteFst h
  · exact h.iteFst (h.iteFst h.memAccess)
  · exact (iteFst (h.memAccess.past (State.mramWrote_within ..) rfl) h).iteFst h.memAccess
  · exact h.trimAccess
  · exact h.pageAccess
  · exact h.pageAccess
  · exact h.mbxAccess
  · exact h.memAccess.iteFst h
  · exact h.iteFst h.memAccess
  · exact h.memAccess

theorem perform (h : s.Canon) : (s.perform port x).Canon := by
  unfold State.perform
  exact (h.access.past (State.answer_within ..) rfl).ite h

theorem portStore (h : s.Canon) : (s.portStore port a w).Canon := h.perform

theorem pageStore {off : Nat} (h : s.Canon) : (s.pageStore port p off w).Canon := by
  unfold State.pageStore
  exact h.portStore.ite (h.when fun _ h => h.past (State.answer_within ..) rfl)

theorem portLoad (h : s.Canon) : (s.portLoad port a).Canon := h.perform

variable {rd : Fin 32} {addr : Word}

theorem loadReserved (h : s.Canon) : (s.loadReserved port rd addr).Canon := by
  unfold State.loadReserved
  split
  · refine (h.past (State.answer_within ..) rfl).ite (h.ite ?_)
    split
    next u b hu => exact ((h.access.fst hu).past (State.lockOpen_within ..) rfl).past (State.give_within ..) rfl
    next u r _ hu => exact (h.access.fst hu).past (State.answer_within ..) rfl
  · exact h.past (State.answer_within ..) rfl

theorem storeConditional (h : s.Canon) : (s.storeConditional port rd addr w).Canon := by
  unfold State.storeConditional
  split
  · refine (h.past (State.answer_within ..) rfl).ite (h.ite (((h.past (State.setIcx_within ..) rfl).past (State.give_within ..) rfl).ite
      (ite ?_ (h.past (State.give_within ..) rfl))))
    split
    next u b hu => exact ((h.access.fst hu).past (State.lockDrop_within ..) rfl).past (State.give_within ..) rfl
    next u r _ hu => exact ((h.access.fst hu).past (State.lockDrop_within ..) rfl).past (State.answer_within ..) rfl
  · exact h.past (State.answer_within ..) rfl

theorem atomic {op : AmoOp} (h : s.Canon) : (s.atomic port op rd addr w).Canon := by
  unfold State.atomic
  split
  · refine (h.past (State.answer_within ..) rfl).ite (h.ite ?_)
    split
    next u b hu =>
      dsimp only
      split
      next v c hc => exact ((h.access.fst hu).access.fst hc).past (State.give_within ..) rfl
      next v r _ hc => exact ((h.access.fst hu).access.fst hc).past (State.answer_within ..) rfl
    next u r _ hu => exact (h.access.fst hu).past (State.answer_within ..) rfl
  · exact h.past (State.answer_within ..) rfl

theorem respond (h : s.Canon) : (s.respond k).Canon := by
  unfold State.respond
  split
  · exact h
  · exact (h.access.past (State.answer_within ..) rfl).past (State.icxAnswer_within ..) rfl

theorem testerWrite {ch : Nat} (h : s.Canon) : (s.testerWrite ch a w).Canon := by
  unfold State.testerWrite
  refine h.ite ((h.past (State.udsNo_within ..) rfl).ite ?_)
  extract_lets pg t
  have ht : t.Canon := (h.past (State.setKey_within ..) rfl).ite h
  split
  next u hu => exact (ht.regWrite.fst hu).past (State.udsOk_within ..) rfl
  next u r hu => exact (ht.regWrite.fst hu).past (State.udsNo_within ..) rfl

/-! ### Configuration checks and the trim engines' commits (chapters 04 and 08) -/

theorem crcBad (h : s.Canon) : (s.crcBad p).Canon := by
  unfold State.crcBad
  refine h.ite ?_
  extract_lets base t u
  have ht : t.Canon := h.past (State.fault_within ..) rfl
  have hu : u.Canon := (ht.past (State.logGms_within ..) rfl).ite (ht.ite (ht.past (State.logAcc_within ..) rfl))
  exact hu.when fun _ h => h.pageSafe

theorem crcCompare (h : s.Canon) : (s.crcCompare p).Canon := by
  unfold State.crcCompare
  refine h.ite ?_
  split
  · exact h
  · exact (h.past (State.setReg_within ..) rfl).ite (h.past (State.setReg_within ..) rfl).crcBad

theorem commitTargets {r : TrimRun} (h : s.Canon) : (s.commitTargets n r).Canon := h.each fun _ _ h => h.targetWrite.ite h

theorem commitRun {r : TrimRun} (h : s.Canon) : (s.commitRun n r).Canon :=
  (h.past (State.commitWords_within ..) rfl).commitTargets.past (State.raise_within ..) rfl

theorem isaEnd {ecc : Ecc} {f : State → TrimRun → State} (h : s.Canon) (hf : ∀ t r, t.Canon → (f t r).Canon) : (s.isaEnd n ecc k f).Canon := by
  unfold State.isaEnd
  split
  · exact h
  · exact (h.past (State.ctxFault_within ..) rfl).ite (hf _ _ ((h.past (State.eccCount_within ..) rfl).past (State.runOver_within ..) rfl))

end State.Canon

/-! ### Every command and every tick -/

theorem exec_mem {c : Instr} {s t : State} (h : exec c s = .next t) (hc : (canChange c).contains .mem = false) : t.mem = s.mem :=
  exec_agree h (p := .mem) (by simpa using hc)

open State.Canon in
/-- A command keeps memory canonical: by the operation of its row where the row reaches memory. -/
theorem State.Canon.exec {c : Instr} {s t : State} (h : s.Canon) (he : exec c s = .next t) : t.Canon := by
  cases c
  case adcSeqstartGo | actStart | actArm | actStop | ctrClose | ctrOpen | dcdcStart | dcdcStop | dcdcShortClear | gclr | selftestRun |
      canTxtailWrite | ethTxtailWrite | ntofshWrite | obcStart | obcExport | obcStop | captureSnap | syncReq | splitReq | tripclr | swcommit |
      ringRun | ringStop | ringTone | ringStreamStart | zcorStart | zcorAbort | tqtailWrite | contextEnable | contextDisable | tuneStart |
      tuneAbort | latencyClear | twinRun | twinXreq | twinRingHandover =>
    exact h.portStore.next he
  case comparatorClear => exact (h.past (State.putCmp_within ..) rfl).portStore.next he
  case captureFreezeRead | captureReleaseRead | dtimeRead | ntnowlRead => exact h.portLoad.next he
  case pageEnable | pageDisable | softReset | configLock | keyWrite | ownerClaim => exact h.pageStore.next he
  case aliasWrite port clear addr value =>
    change execAliasWrite port clear addr value s = .next t at he
    unfold execAliasWrite at he
    split at he
    · exact h.perform.next he
    · cases he
  case registerWrite port addr value =>
    change execRegisterWrite port addr value s = .next t at he
    unfold execRegisterWrite at he
    split at he
    · exact h.portStore.next he
    · cases he
  case testerConfigWrite ch addr value =>
    change execTesterConfigWrite ch addr value s = .next t at he
    unfold execTesterConfigWrite at he
    split at he
    · exact h.testerWrite.next he
    · cases he
  case trimMemoryWrite => exact h.perform.nextIf he
  case lrW => exact (h.when fun _ h => h.loadReserved).nextIf he
  case scW => exact (h.when fun _ h => h.storeConditional).nextIf he
  case amo => exact (h.when fun _ h => h.atomic).nextIf he
  case transactionResponse => exact h.respond.next he
  case version => exact (h.mbxRun fun _ h => h.past (State.ansVersion_within ..) rfl).next he
  case wakeCfg => exact (h.mbxRun fun _ h => h.past (State.wakeCfg_within ..) rfl).next he
  case retainWrite => exact (h.mbxRun fun _ h => h.past (State.ansRetain_within ..) rfl).next he
  case dataStore => exact (h.mbxRun fun _ h => h.ansDataStore).next he
  case dataLoad => exact (h.mbxRun fun _ h => h.past (State.ansDataLoad_within ..) rfl).next he
  case bbMark => exact (h.mbxRun fun _ h => h.past (State.ansMark_within ..) rfl).next he
  case bbCommit => exact (h.mbxRun fun _ h => h.past (State.commitStart_within ..) rfl).next he
  case bbRead => exact (h.mbxRun fun _ h => h.past (State.ansBbRead_within ..) rfl).next he
  case bbCfg => exact (h.mbxRun fun _ h => h.past (State.ansBbCfg_within ..) rfl).next he
  case fcCfg => exact (h.mbxRun fun _ h => h.past (State.ansFcCfg_within ..) rfl).next he
  case fcArm => exact (h.mbxRun fun _ h => h.past (State.ansFcArm_within ..) rfl).next he
  case meterRead => exact (h.mbxRun fun _ h => h.past (State.ansMeterRead_within ..) rfl).next he
  case meterCal => exact (h.mbxRun fun _ h => h.ansMeterCal).next he
  case passportGet => exact (h.mbxRun fun _ h => h.past (State.ansPassport_within ..) rfl).next he
  case passportZadd => exact (h.mbxRun fun _ h => h.past (State.ansZadd_within ..) rfl).next he
  case updateConfirm => exact (h.mbxRun fun _ h => h.past (State.ansConfirm_within ..) rfl).next he
  case accessDrop => exact (h.mbxRun fun _ h => h.past (State.setLevel_within ..) rfl).next he
  case icxCfg => exact (h.mbxRun fun _ h => h.past (State.ansIcxCfg_within ..) rfl).next he
  case pairRestart => exact (h.mbxRun fun _ h => h.ansPairRestart).next he
  case personality => exact (h.mbxRun fun _ h => h.past (State.ansPersonality_within ..) rfl).next he
  case pdReq => exact (h.mbxRun fun _ h => h.pdRequest).next he
  case sleep => exact (h.mbxRun fun _ h => h.past (State.sleepGo_within ..) rfl).next he
  case coldReset => exact (h.mbxRun fun _ h => h.past (State.ansColdReset_within ..) rfl).next he
  case commission => exact (h.mbxRun fun _ h => h.past (State.ansCommission_within ..) rfl).next he
  case bbCommitDone => exact h.commitDone.next he
  case fcTick => exact (ite h.fcTick h).next he
  case fcFreeze => exact (ite h.fcFreeze h).next he
  case meterRecord => exact (ite h.meterWrite h).next he
  case transferData => exact h.udsTransfer.next he
  case routinePairRestart => exact h.udsPairRestart.next he
  case canRxFrame => exact h.canReceive.next he
  case canTxDone => exact h.canSent.next he
  case ethRxFrame => exact h.ethReceive.next he
  case ethTxDone => exact h.ethSent.next he
  case crcCheck page upset =>
    refine next (ite (crcCompare ?_) h) he
    split
    · exact h.past (State.upset_within ..) rfl
    · exact h
  case compareResult => exact h.verdict.next he
  case delayFault => exact h.delayFault.next he
  case warmWake => exact h.warmWake.next he
  case coldStart => exact h.coldStart.next he
  case clockFault => exact h.clockFault.next he
  case pllnetFault => exact h.pllnetFault.next he
  case supplyReset => exact h.supplyReset.next he
  case holdupExhausted => exact h.holdupExhausted.next he
  case gmsRestart => exact (((h.past (State.gmsBack_within ..) rfl).ite h).ite (ite h.gmsDown h)).next he
  case xtal25Retry => exact h.xtalRetry.next he
  case ringMeasDone => exact h.ringMeasured.next he
  case ringStreamReceive => exact h.ringReceive.next he
  case zcorCopyDone => exact h.zCopied.next he
  case ringTransactionComplete => exact h.txComplete.next he
  case ringTransactionTimeout => exact h.txTimeout.next he
  case trEnd => exact (h.isaEnd fun _ _ h => h.commitRun.past (State.ctxReport_within ..) rfl).next he
  case trEndt => exact (h.isaEnd fun _ _ h => (h.commitRun.past (State.setFlag_within ..) rfl).past (State.ctxReport_within ..) rfl).next he
  all_goals exact h.of_mem (exec_mem he rfl)

/-- A step keeps memory canonical: the queue is no memory, and a tick does not reach memory. -/
theorem State.Canon.step {s t : State} (h : s.Canon) (hs : step s = .next t) : t.Canon := by
  unfold Machine.step at hs
  split at hs
  · exact (h.past s.tick_within rfl).next hs
  · exact (h.past (s.setPending_within _) rfl).exec hs

/-- Settles O5: a put and a clear of the store keep its canonical form, memory is written by these alone, and the rows whose reach leaves memory out
do not touch it. -/
theorem memoryStaysCanonical : Obligations.MemoryStaysCanonical := by
  unfold Obligations.MemoryStaysCanonical
  exact fun s t hs ht => State.Canon.step hs ht

end Sys2Proof.Machine
end

section
/-! SUPPORT. The interconnect's queues and rounds (R96 to R104, R106, R111): what a read of its stores gives after a write, what a grant does, and
who wins a round. -/

namespace Sys2Proof.Machine

/-! ### Reads of the stores -/

theorem icxKey_eq_iff {t u p q : Nat} (hp : p < 12) (hq : q < 12) : icxKey t p = icxKey u q ↔ t = u ∧ p = q := by
  unfold icxKey
  omega

section
variable {s t : State} (h : t.icx = s.icx)
include h

theorem State.icxQueue_congr (k p : Nat) : t.icxQueue k p = s.icxQueue k p := by unfold State.icxQueue; rw [h]
theorem State.icxWait_congr (k p : Nat) : t.icxWait k p = s.icxWait k p := by unfold State.icxWait; rw [h]
theorem State.icxGranted_congr (k : Nat) : t.icxGranted k = s.icxGranted k := by unfold State.icxGranted; rw [h]
theorem State.icxCharged_congr (p : Nat) : t.icxCharged p = s.icxCharged p := by unfold State.icxCharged; rw [h]

theorem State.icxTags_congr (p : Nat) : t.icxTags p = s.icxTags p := by
  unfold State.icxTags
  simp only [State.icxQueue_congr h, State.icxGranted_congr h]

end

variable (s : State)

theorem State.icxQueue_putQueue (k : Nat) {p : Nat} (l : List Txn) (j : Nat) {q : Nat} (hp : p < 12) (hq : q < 12) :
    (s.putQueue k p l).icxQueue j q = if j = k ∧ q = p then l else s.icxQueue j q :=
  (Store.get_put _ s.icx.queue _ _ l).trans (if_congr (icxKey_eq_iff hq hp) rfl rfl)

theorem State.icxWait_putWait (k : Nat) {p : Nat} (n j : Nat) {q : Nat} (hp : p < 12) (hq : q < 12) :
    (s.putWait k p n).icxWait j q = if j = k ∧ q = p then n else s.icxWait j q :=
  (Store.get_put _ s.icx.wait _ _ n).trans (if_congr (icxKey_eq_iff hq hp) rfl rfl)

/-! ### Tags (R98) -/

theorem foldl_range_add (f : Nat → Nat) (n : Nat) : (List.range n).foldl (fun a k => a + f k) 0 = ∑ k ∈ Finset.range n, f k := by
  induction n with
  | zero => rfl
  | succ n ih => rw [List.range_succ, List.foldl_append, ih, Finset.sum_range_succ]; rfl

/-- The tags of a port: its requests and its granted transactions, at every target. -/
theorem State.icxTags_eq (p : Nat) : s.icxTags p =
    ∑ k ∈ Finset.range 16, ((s.icxQueue k p).length + ((s.icxGranted k).filter fun e => e.1 == p).length) := by
  rw [← foldl_range_add]
  unfold State.icxTags
  simp only [Nat.add_assoc]

/-- The request x of port p joins its queue at target k. -/
def State.icxJoin (k p : Nat) (x : Txn) : State := s.putQueue k p (s.icxQueue k p ++ [x])

theorem State.icxQueue_join (k : Nat) {p : Nat} (x : Txn) (j : Nat) {q : Nat} (hp : p < 12) (hq : q < 12) :
    (s.icxJoin k p x).icxQueue j q = if j = k ∧ q = p then s.icxQueue k p ++ [x] else s.icxQueue j q :=
  s.icxQueue_putQueue k _ j hp hq

/-- A request more in one of the port's queues is a tag more. -/
theorem State.icxTags_join {k p : Nat} (x : Txn) (hk : k < 16) (hp : p < 12) : (s.icxJoin k p x).icxTags p = s.icxTags p + 1 := by
  have hq : ∀ j, ((s.icxJoin k p x).icxQueue j p).length = (s.icxQueue j p).length + if j = k then 1 else 0 := fun j => by
    rw [s.icxQueue_join k x j hp hp]
    by_cases hj : j = k
    · simp [hj]
    · simp [hj]
  have hg : ∀ j, (s.icxJoin k p x).icxGranted j = s.icxGranted j := fun _ => rfl
  rw [State.icxTags_eq, State.icxTags_eq]
  simp only [hq, hg, Nat.add_right_comm _ (ite _ _ _)]
  rw [Finset.sum_add_distrib, Finset.sum_ite_eq', if_pos (Finset.mem_range.mpr hk)]

/-! ### TAGSTAT and TGTSTAT follow (R98, R102) -/

theorem State.icxShow_icx : s.icxShow.icx = s.icx := s.icxShow_within.same .icx rfl

theorem State.icxShow_regsOn {P : Nat → Prop} (hT : ¬ P Adr.ICX_TAGSTAT) (hQ : ∀ k < 16, ¬ P (Adr.ICX_TGTSTAT k)) : State.RegsOn P s s.icxShow :=
  (s.setFld_regsOn hT ..).trans (State.each_regsOn _ fun t k hk => t.setFld_regsOn (hQ k (List.mem_range.mp hk)) ..)

/-! ### A transaction presented (R98) -/

theorem targetOf_lt {a k : Nat} (h : targetOf a = some k) : k < 16 := by
  unfold targetOf at h
  split_ifs at h <;> simp only [Option.some.injEq] at h <;> omega

variable {s}

theorem exec_transactionIssue {port : Port} {x : Txn} (hx : x.wf = true) : exec (.transactionIssue port x) s = done (s.issue port x) :=
  if_pos ((txnOk_eq x).trans hx)

theorem State.issue_inside {port k : Nat} {x : Txn} (hl : s.portLive port = true) (hk : targetOf x.addr.toNat = some k) :
    s.issue port x = s.icxIssue port k x := by
  unfold State.issue
  rw [hl, hk]
  rfl

theorem State.issue_outside {port : Nat} {x : Txn} (hl : s.portLive port = true) (hk : targetOf x.addr.toNat = none) :
    s.issue port x = s.answer port busError := by
  unfold State.issue
  rw [hl, hk]
  rfl

theorem State.icxIssue_takes {p k : Nat} (x : Txn) (hs : s.icxStuck p = false) (h16 : s.icxTags p < 16) (ht : s.icxTags p < 2 ∨ s.icxShared < 104) :
    s.icxIssue p k x = (s.icxJoin k p x).icxShow := by
  unfold State.icxIssue
  rw [if_neg (by simp [hs, h16]), if_neg (by omega)]
  rfl

theorem State.icxJoin_shown_icx (k p : Nat) (x : Txn) : (s.icxJoin k p x).icxShow.settle.icx = (s.icxJoin k p x).icx :=
  (State.settle_icx _).trans (State.icxShow_icx _)

theorem State.icxJoin_shown_ports (k p : Nat) (x : Txn) : (s.icxJoin k p x).icxShow.settle.ports = s.ports :=
  (State.settle_ports _).trans ((s.icxJoin k p x).icxShow_within.same .ports rfl)

/-- A request shows in TAGSTAT and TGTSTAT alone. -/
theorem State.icxJoin_shown_keepsBut (k p : Nat) (x : Txn) :
    s.KeepsBut (Adr.ICX_TAGSTAT :: (List.range 16).map Adr.ICX_TGTSTAT) (s.icxJoin k p x).icxShow.settle := by
  have hjoin : State.RegsOn (· ∉ Adr.ICX_TAGSTAT :: (List.range 16).map Adr.ICX_TGTSTAT) s (s.icxJoin k p x) := .of_regs rfl
  have hshow : State.RegsOn (· ∉ Adr.ICX_TAGSTAT :: (List.range 16).map Adr.ICX_TGTSTAT) (s.icxJoin k p x) (s.icxJoin k p x).icxShow := by
    refine State.icxShow_regsOn _ ?_ fun j hj => ?_
    · simp
    · exact not_not.mpr (List.mem_cons_of_mem _ (List.mem_map_of_mem (List.mem_range.mpr hj)))
  exact (hjoin.trans hshow).keepsBut ((s.icxJoin k p x).icxShow_within.same .mem rfl)

theorem State.icxIssue_waits {p k : Nat} (x : Txn) (hs : s.icxStuck p = false) (h16 : s.icxTags p < 16) (h2 : 2 ≤ s.icxTags p) (h104 : 104 ≤ s.icxShared) :
    s.icxIssue p k x = s.raise Pg.ICX 2 := by
  unfold State.icxIssue
  rw [if_neg (by simp [hs, h16]), if_pos ⟨h2, h104⟩]

/-! ### A grant (R100, R103, R111) -/

/-- The registers that a round can change. -/
def roundRegs : List Nat := Adr.ICX_TAGSTAT :: Adr.TBU_ICXOVR :: Adr.PEVT Pg.TBU :: (List.range 16).map Adr.ICX_TGTSTAT

/-- In u the transaction x of port p, the first of its queue at target k, has been granted: rest waits, the port's wait is over, its beats are charged. -/
structure State.GrantedTo (s : State) (k p : Nat) (x : Txn) (rest : List Txn) (u : State) : Prop where
  queue : u.icx.queue = Store.put (fun _ => []) (icxKey k p) rest s.icx.queue
  wait : u.icx.wait = Store.put (fun _ => 0) (icxKey k p) 0 s.icx.wait
  granted : u.icx.granted = Store.put (fun _ => []) k (s.icxGranted k ++ [(p, x)]) s.icx.granted
  charged : u.icx.charged = Store.put (fun _ => 0) p (s.icxCharged p + x.beats) s.icx.charged
  regs : State.RegsOn (· ∉ roundRegs) s u

/-- A charge shows in ICXOVR and PEVT of TBU at most (R111). -/
theorem State.icxCharge_icx (p n : Nat) : (s.icxCharge p n).icx = (s.putCharged p (s.icxCharged p + n)).icx := by
  unfold State.icxCharge
  dsimp only
  split
  · rw [State.raise_icx, State.setFlag_icx]
  · rfl

theorem State.icxCharge_regsOn (p n : Nat) : State.RegsOn (· ∉ roundRegs) s (s.icxCharge p n) := by
  have hput : State.RegsOn (· ∉ roundRegs) s (s.putCharged p (s.icxCharged p + n)) := .of_regs rfl
  unfold State.icxCharge
  dsimp only
  split
  · exact (hput.trans (State.setFlag_regsOn _ (by decide) _ _)).trans (State.raise_regsOn _ (by decide) _)
  · exact hput

theorem State.GrantedTo.charge {k p : Nat} {x : Txn} {rest : List Txn} {u : State} (hr : u.regs = s.regs) (hc : u.icx.charged = s.icx.charged)
    (hq : u.icx.queue = Store.put (fun _ => []) (icxKey k p) rest s.icx.queue) (hw : u.icx.wait = Store.put (fun _ => 0) (icxKey k p) 0 s.icx.wait)
    (hg : u.icx.granted = Store.put (fun _ => []) k (s.icxGranted k ++ [(p, x)]) s.icx.granted) :
    s.GrantedTo k p x rest (u.icxCharge p x.beats) := by
  have hi := State.icxCharge_icx (s := u) p x.beats
  have hp : u.icxCharged p = s.icxCharged p := by unfold State.icxCharged; rw [hc]
  refine ⟨?_, ?_, ?_, ?_, (State.RegsOn.of_regs hr).trans (State.icxCharge_regsOn ..)⟩
  · rw [hi, ← hq]; rfl
  · rw [hi, ← hw]; rfl
  · rw [hi, ← hg]; rfl
  · rw [hi, hp, ← hc]; rfl

/-- The interconnect once x, the first request of port p at target k, has left its queue for the granted ones. -/
def State.icxTake (s : State) (k p : Nat) (x : Txn) (rest : List Txn) : State :=
  s.setIcx { s.icx with
    queue := Store.put (fun _ => []) (icxKey k p) rest s.icx.queue
    parked := Store.put (fun _ => false) (icxKey k p) false s.icx.parked
    held := Store.put (fun _ => false) (icxKey k p) false s.icx.held
    wait := Store.put (fun _ => 0) (icxKey k p) 0 s.icx.wait
    granted := Store.put (fun _ => []) k (s.icxGranted k ++ [(p, x)]) s.icx.granted }

theorem State.setIcx_setIcx (v w : Icx) : (s.setIcx v).setIcx w = s.setIcx w := rfl

theorem State.icxGrant_eq {k p : Nat} {x : Txn} {rest : List Txn} (hq : s.icxQueue k p = x :: rest) :
    s.icxGrant k p = (s.icxTake k p x rest).icxCharge p x.beats := by
  unfold State.icxGrant
  rw [hq]
  simp only [State.icxTake, State.putQueue, State.putParked, State.putHeld, State.putWait, State.putGranted, State.icxGranted, State.setIcx_setIcx,
    State.setIcx_icx]

theorem State.icxGrant_granted {k p : Nat} {x : Txn} {rest : List Txn} (hq : s.icxQueue k p = x :: rest) :
    s.GrantedTo k p x rest (s.icxGrant k p) := by
  rw [State.icxGrant_eq hq]
  exact .charge (u := s.icxTake k p x rest) rfl rfl rfl rfl rfl

/-! ### Parking and rank (R101, R102) -/

/-- Parking sets which requests are parked and which ports are held, nothing else. -/
theorem State.icxPark_shape (n k : Nat) (s : State) : ∃ a b, State.icxPark n s k = s.setIcx { s.icx with parked := a, held := b } := by
  have held : ∀ (l : List Nat) (t : State), ∃ b, (t.each l fun u q => u.putHeld k q true) = t.setIcx { t.icx with held := b } := by
    intro l
    induction l with
    | nil => exact fun t => ⟨t.icx.held, rfl⟩
    | cons q l ih => exact fun t => ih (t.putHeld k q true)
  induction n generalizing s with
  | zero => exact ⟨s.icx.parked, s.icx.held, rfl⟩
  | succ n ih =>
    unfold State.icxPark
    dsimp only
    split
    · exact ⟨s.icx.parked, s.icx.held, rfl⟩
    split
    · exact ih _
    · obtain ⟨b, hb⟩ := held _ s
      exact ⟨s.icx.parked, b, hb⟩

namespace State.GrantedTo

variable {k p : Nat} {x : Txn} {rest : List Txn} {u : State}

theorem ranked (h : s.GrantedTo k p x rest u) : s.GrantedTo k p x rest (u.icxLast k p) :=
  ⟨h.queue, h.wait, h.granted, h.charged, h.regs.trans (.of_regs rfl)⟩

theorem parked (h : s.GrantedTo k p x rest u) (n : Nat) : s.GrantedTo k p x rest (State.icxPark n u k) := by
  obtain ⟨a, b, he⟩ := u.icxPark_shape n k
  rw [he]
  exact ⟨h.queue, h.wait, h.granted, h.charged, h.regs.trans (.of_regs rfl)⟩

theorem shown (h : s.GrantedTo k p x rest u) : s.GrantedTo k p x rest u.icxShow := by
  refine ⟨?_, ?_, ?_, ?_, h.regs.trans (u.icxShow_regsOn ?_ fun j hj => ?_)⟩
  · rw [u.icxShow_icx, h.queue]
  · rw [u.icxShow_icx, h.wait]
  · rw [u.icxShow_icx, h.granted]
  · rw [u.icxShow_icx, h.charged]
  · decide
  · simp only [roundRegs, List.mem_cons, List.mem_map, List.mem_range, not_not]
    exact .inr (.inr (.inr ⟨j, hj, rfl⟩))

theorem icxGranted (h : s.GrantedTo k p x rest u) : u.icxGranted k = s.icxGranted k ++ [(p, x)] := by
  unfold State.icxGranted
  rw [h.granted, Store.get_put, if_pos rfl]
  rfl

theorem icxCharged (h : s.GrantedTo k p x rest u) : u.icxCharged p = s.icxCharged p + x.beats := by
  unfold State.icxCharged
  rw [h.charged, Store.get_put, if_pos rfl]
  rfl

theorem icxQueue (h : s.GrantedTo k p x rest u) {q : Nat} (hp : p < 12) (hq : q < 12) :
    u.icxQueue k q = if q = p then rest else s.icxQueue k q := by
  unfold State.icxQueue
  rw [h.queue, Store.get_put, if_congr ((icxKey_eq_iff hq hp).trans (and_iff_right rfl)) rfl rfl]

theorem icxWait (h : s.GrantedTo k p x rest u) {q : Nat} (hp : p < 12) (hq : q < 12) :
    u.icxWait k q = if q = p then 0 else s.icxWait k q := by
  unfold State.icxWait
  rw [h.wait, Store.get_put, if_congr ((icxKey_eq_iff hq hp).trans (and_iff_right rfl)) rfl rfl]

end State.GrantedTo

/-! ### The losers' wait (R103) -/

/-- Each port of a list has waited one round more at target k. -/
def State.icxLose (s : State) (k : Nat) (l : List Nat) : State := l.foldl (fun u q => u.putWait k q (min (u.icxWait k q + 1) 255)) s

theorem State.icxLose_shape (k : Nat) (l : List Nat) (s : State) : ∃ w, s.icxLose k l = s.setIcx { s.icx with wait := w } := by
  induction l generalizing s with
  | nil => exact ⟨s.icx.wait, rfl⟩
  | cons q l ih => exact ih _

theorem State.icxLose_wait (k : Nat) {l : List Nat} (hl : l.Nodup) (h12 : ∀ p ∈ l, p < 12) (s : State) {q : Nat} (hq : q < 12) :
    (s.icxLose k l).icxWait k q = if q ∈ l then min (s.icxWait k q + 1) 255 else s.icxWait k q := by
  induction l generalizing s with
  | nil => rfl
  | cons p l ih =>
    obtain ⟨hp, hl⟩ := List.nodup_cons.mp hl
    have hstep := s.icxWait_putWait k (min (s.icxWait k p + 1) 255) k (h12 p List.mem_cons_self) hq
    refine (ih hl (fun j hj => h12 j (List.mem_cons_of_mem _ hj)) _).trans ?_
    rw [hstep]
    by_cases he : q = p
    · simp [he, hp]
    · simp [he]

/-! ### The winner (R101) -/

theorem bestBy_eq_none {m : Nat → Nat} {l : List Nat} (h : bestBy m l = none) : l = [] := by
  cases l
  · rfl
  · cases h

/-- The best of a list stands in it, and none has a greater measure. -/
theorem bestBy_spec {m : Nat → Nat} {l : List Nat} {p : Nat} (h : bestBy m l = some p) : p ∈ l ∧ ∀ q ∈ l, m q ≤ m p := by
  have key : ∀ (l : List Nat) (a : Nat), l.foldl (better m) a ∈ a :: l ∧ ∀ q ∈ a :: l, m q ≤ m (l.foldl (better m) a) := by
    intro l
    induction l with
    | nil => simp
    | cons b l ih =>
      intro a
      obtain ⟨hmem, hmax⟩ := ih (better m a b)
      have hab : (better m a b = a ∨ better m a b = b) ∧ m a ≤ m (better m a b) ∧ m b ≤ m (better m a b) := by
        unfold better
        split
        · exact ⟨.inr rfl, by omega, le_refl _⟩
        · exact ⟨.inl rfl, le_refl _, by omega⟩
      obtain ⟨hor, ha, hb⟩ := hab
      have htop := hmax _ List.mem_cons_self
      refine ⟨?_, ?_⟩
      · rcases List.mem_cons.mp hmem with hm | hm
        · rw [List.foldl_cons, hm]
          rcases hor with ho | ho <;> simp [ho]
        · exact List.mem_cons_of_mem _ (List.mem_cons_of_mem _ hm)
      · intro q hq
        rcases List.mem_cons.mp hq with rfl | hq
        · exact ha.trans htop
        rcases List.mem_cons.mp hq with rfl | hq
        · exact hb.trans htop
        · exact hmax q (List.mem_cons_of_mem _ hq)
  cases l with
  | nil => cases h
  | cons a l =>
    obtain rfl : l.foldl (better m) a = p := by simpa [bestBy] using h
    exact key l a

/-- The ports of a round: those with a request, and beats left. -/
theorem State.mem_icxRound {k p : Nat} : p ∈ s.icxRound k ↔ p < 12 ∧ s.icxQueue k p ≠ [] ∧ s.icxEligible p = true := by
  simp [State.icxRound, List.mem_filter]

theorem State.icxRound_nodup (k : Nat) : (s.icxRound k).Nodup := List.nodup_range.filter _

/-- The winner takes part in the round. Where a port is at its limit the winner is one that has waited longest; else it is of the highest class. -/
theorem State.icxWinner_spec {k p : Nat} {r : Bool} (h : s.icxWinner k = some (p, r)) : p ∈ s.icxRound k
    ∧ ((s.icxLimit k ≤ s.icxWait k p ∧ ∀ q ∈ s.icxRound k, s.icxLimit k ≤ s.icxWait k q → s.icxWait k q ≤ s.icxWait k p)
      ∨ (∀ q ∈ s.icxRound k, s.icxWait k q < s.icxLimit k) ∧ ∀ q ∈ s.icxRound k, s.icxClass q ≤ s.icxClass p) := by
  unfold State.icxWinner at h
  dsimp only at h
  split at h
  next p' hforced =>
    obtain ⟨rfl, -⟩ : p' = p ∧ false = r := by simpa using h
    obtain ⟨hmem, hmax⟩ := bestBy_spec hforced
    obtain ⟨hin, hlim⟩ := List.mem_filter.mp hmem
    exact ⟨hin, .inl ⟨of_decide_eq_true hlim, fun q hq hl => hmax q (List.mem_filter.mpr ⟨hq, decide_eq_true hl⟩)⟩⟩
  next hnone =>
    have hfree : ∀ q ∈ s.icxRound k, s.icxWait k q < s.icxLimit k := fun q hq => by
      have := List.filter_eq_nil_iff.mp (bestBy_eq_none hnone) q hq
      simpa using this
    split at h
    next => cases h
    next q hbest =>
      obtain ⟨p', hfind, he⟩ := Option.map_eq_some_iff.mp h
      obtain ⟨rfl, -⟩ : p' = p ∧ true = r := by simpa using he
      have hp := List.find?_some hfind
      simp only [Bool.and_eq_true, List.contains_eq_mem, decide_eq_true_eq, beq_iff_eq] at hp
      exact ⟨hp.1, .inr ⟨hfree, fun j hj => hp.2 ▸ (bestBy_spec hbest).2 j hj⟩⟩

/-! ### A round -/

theorem State.icxArbitrate_locked {k : Nat} (h : s.lockHeld k = true) : s.icxArbitrate k = (s.icxGrant k (s.lockPort k)).icxShow := if_pos h

theorem State.icxArbitrate_won {k p : Nat} {r : Bool} (h : s.lockHeld k = false) (hw : s.icxWinner k = some (p, r)) :
    s.icxArbitrate k = (State.icxPark 12 (let u := (s.icxLose k ((s.icxRound k).filter fun q => q != p)).icxGrant k p
      if r then u.icxLast k p else u) k).icxShow := by
  unfold State.icxArbitrate
  rw [h, hw]
  rfl

/-- The losers' counts, the ranks, the parking and the displays leave a grant as it is. -/
theorem State.icxArbitrate_granted {k p : Nat} {r : Bool} {x : Txn} {rest : List Txn} (h : s.lockHeld k = false) (hw : s.icxWinner k = some (p, r))
    (hq : s.icxQueue k p = x :: rest) :
    (s.icxLose k ((s.icxRound k).filter fun q => q != p)).GrantedTo k p x rest (s.icxArbitrate k) := by
  have hg : (s.icxLose k ((s.icxRound k).filter fun q => q != p)).icxQueue k p = x :: rest := by
    obtain ⟨w, he⟩ := State.icxLose_shape k ((s.icxRound k).filter fun q => q != p) s
    rw [he]
    exact hq
  have hgrant := State.icxGrant_granted hg
  rw [State.icxArbitrate_won h hw]
  refine State.GrantedTo.shown (State.GrantedTo.parked ?_ 12)
  cases r
  · exact hgrant
  · exact hgrant.ranked

/-- A round at target k with a winner (R101, R103). -/
theorem State.icxArbitrate_round {k p : Nat} {r : Bool} {x : Txn} {rest : List Txn} (h : s.lockHeld k = false) (hw : s.icxWinner k = some (p, r))
    (hq : s.icxQueue k p = x :: rest) :
    (s.icxArbitrate k).icxGranted k = s.icxGranted k ++ [(p, x)] ∧ (s.icxArbitrate k).icxQueue k p = rest ∧ (s.icxArbitrate k).icxWait k p = 0
      ∧ (s.icxArbitrate k).icxCharged p = s.icxCharged p + x.beats
      ∧ ∀ q : Fin 12, q.val ≠ p → (s.icxArbitrate k).icxQueue k q = s.icxQueue k q
          ∧ (s.icxArbitrate k).icxWait k q = if q.val ∈ s.icxRound k then min (s.icxWait k q + 1) 255 else s.icxWait k q := by
  have hg := State.icxArbitrate_granted h hw hq
  have hp : p < 12 := (State.mem_icxRound.mp (State.icxWinner_spec hw).1).1
  obtain ⟨w, he⟩ := State.icxLose_shape k ((s.icxRound k).filter fun q => q != p) s
  have hqueue : ∀ q, (s.icxLose k ((s.icxRound k).filter fun q => q != p)).icxQueue k q = s.icxQueue k q := fun q => by rw [he]; rfl
  refine ⟨?_, ?_, ?_, ?_, fun q hne => ⟨?_, ?_⟩⟩
  · rw [hg.icxGranted, he]; rfl
  · rw [hg.icxQueue hp hp, if_pos rfl]
  · rw [hg.icxWait hp hp, if_pos rfl]
  · rw [hg.icxCharged, he]; rfl
  · rw [hg.icxQueue hp q.isLt, if_neg hne, hqueue]
  · rw [hg.icxWait hp q.isLt, if_neg hne,
      State.icxLose_wait k ((State.icxRound_nodup k).filter _) (fun j hj => (State.mem_icxRound.mp (List.mem_of_mem_filter hj)).1) s q.isLt]
    simp [List.mem_filter, hne]

theorem State.icxArbitrate_won_regsOn {k p : Nat} {r : Bool} {x : Txn} {rest : List Txn} (h : s.lockHeld k = false)
    (hw : s.icxWinner k = some (p, r)) (hq : s.icxQueue k p = x :: rest) : State.RegsOn (· ∉ roundRegs) s (s.icxArbitrate k) := by
  obtain ⟨w, he⟩ := State.icxLose_shape k ((s.icxRound k).filter fun q => q != p) s
  refine State.RegsOn.trans (.of_regs ?_) (State.icxArbitrate_granted h hw hq).regs
  rw [he]
  rfl

/-- What a command's answer keeps of the interconnect's stores. -/
theorem State.settle_icx_eq {t : State} (k p : Nat) : t.settle.icxQueue k p = t.icxQueue k p ∧ t.settle.icxWait k p = t.icxWait k p
    ∧ t.settle.icxGranted k = t.icxGranted k ∧ t.settle.icxCharged p = t.icxCharged p ∧ t.settle.icxTags p = t.icxTags p :=
  ⟨State.icxQueue_congr t.settle_icx k p, State.icxWait_congr t.settle_icx k p, State.icxGranted_congr t.settle_icx k,
    State.icxCharged_congr t.settle_icx p, State.icxTags_congr t.settle_icx p⟩

/-- Settles O29: a transaction takes a tag, waits or gets a bus error; the rounds by what a grant does and what a winner is. -/
theorem transactionsQueue : Obligations.TransactionsQueue := by
  unfold Obligations.TransactionsQueue
  refine ⟨fun port x s hx hl => ⟨fun k hk hs h16 ht => ?_, fun k hk hs h2 h16 h104 => ?_, fun hk => ?_⟩,
    fun k s => ⟨fun p r x rest h hw hq => ?_, fun p r hw => ?_, fun p x rest h hp hq => ?_⟩⟩
  case refine_1 =>
    have hk16 := targetOf_lt hk
    refine ⟨_, (exec_transactionIssue hx).trans (done_eq _), ?_⟩
    rw [State.issue_inside hl hk, State.icxIssue_takes x hs h16 ht]
    have hi := s.icxJoin_shown_icx k port x
    refine ⟨?_, fun j q hne => ?_, ?_, s.icxJoin_shown_ports k port x, s.icxJoin_shown_keepsBut k port x⟩
    · rw [State.icxQueue_congr hi, s.icxQueue_join k x k port.isLt port.isLt, if_pos ⟨rfl, rfl⟩]
    · rw [State.icxQueue_congr hi, s.icxQueue_join k x j port.isLt q.isLt, if_neg]
      rintro ⟨hj, hq⟩
      exact hne (Prod.ext hj (Fin.ext hq))
    · rw [State.icxTags_congr hi, s.icxTags_join x hk16 port.isLt]
  case refine_2 =>
    refine ⟨_, (exec_transactionIssue hx).trans (done_eq _), ?_⟩
    rw [State.issue_inside hl hk, State.icxIssue_waits x hs h16 h2 h104]
    refine ⟨?_, ?_, fun hon => ?_, State.RegsOn.keepsBut (State.raise_regsOn _ (by simp) _) (State.raise_mem ..)⟩
    · rw [State.settle_icx, State.raise_icx]
    · rw [State.settle_ports, State.raise_ports]
    · rw [State.settle_flag _ (by decide)]
      exact s.raise_flag _ _ hon (by decide)
  case refine_3 =>
    refine ⟨_, (exec_transactionIssue hx).trans (done_eq _), ?_⟩
    rw [State.issue_outside hl hk]
    exact ⟨State.answer_settle_resp .., State.settle_icx _, State.RegsOn.keepsBut (.of_regs rfl) rfl⟩
  case refine_4 =>
    obtain ⟨hqueue, hwait, hgranted, hcharged, -⟩ := State.settle_icx_eq (t := s.icxArbitrate k) k p
    obtain ⟨g, q, w, c, others⟩ := State.icxArbitrate_round h hw hq
    refine ⟨_, done_eq _, hgranted.trans g, hqueue.trans q, hwait.trans w, hcharged.trans c, fun j hj => ?_,
      (State.icxArbitrate_won_regsOn h hw hq).keepsBut ((s.icxArbitrate_within k).same .mem rfl)⟩
    obtain ⟨hqueue, hwait, -⟩ := State.settle_icx_eq (t := s.icxArbitrate k) k j
    obtain ⟨oq, ow⟩ := others j (Fin.val_ne_of_ne hj)
    exact ⟨hqueue.trans oq, hwait.trans ow⟩
  case refine_5 =>
    obtain ⟨hin, hbest⟩ := State.icxWinner_spec hw
    obtain ⟨hp, hne, hel⟩ := State.mem_icxRound.mp hin
    refine ⟨hp, hne, hel, ?_, fun hfree => ?_⟩
    · rintro q hq hlim
      rcases hbest with ⟨hp, hmax⟩ | ⟨hfree, -⟩
      · exact ⟨hp, hmax q hq hlim⟩
      · exact absurd (hfree q hq) (not_lt.mpr hlim)
    · rcases hbest with ⟨hlim, -⟩ | ⟨-, hclass⟩
      · exact absurd (hfree p hin) (not_lt.mpr hlim)
      · exact hclass
  case refine_6 =>
    have hg : s.GrantedTo k p x rest (s.icxArbitrate k) := by
      rw [State.icxArbitrate_locked h, hp]
      exact (State.icxGrant_granted hq).shown
    obtain ⟨hqueue, -, hgranted, -⟩ := State.settle_icx_eq (t := s.icxArbitrate k) k p
    refine ⟨_, done_eq _, hgranted.trans hg.icxGranted, ?_, fun j hj => ?_, hg.regs.keepsBut ((s.icxArbitrate_within k).same .mem rfl)⟩
    · rw [hqueue, hg.icxQueue p.isLt p.isLt, if_pos rfl]
    · obtain ⟨hqueue, hwait, -⟩ := State.settle_icx_eq (t := s.icxArbitrate k) k j
      rw [hqueue, hwait, hg.icxQueue p.isLt j.isLt, hg.icxWait p.isLt j.isLt, if_neg (Fin.val_ne_of_ne hj), if_neg (Fin.val_ne_of_ne hj)]
      exact ⟨rfl, rfl⟩

end Sys2Proof.Machine
end

section
/-! SUPPORT. PWM units (R11, R230 to R235, R238): what a load point, a generator's reference, a trip, a register write and the drive supply leave in
a unit and in its registers. -/

namespace Sys2Proof.Machine

variable {s : State} {u : Nat} {P : Nat → Prop}

theorem clampNat_eq {lo hi : Nat} (h : lo ≤ hi) (n : Nat) : clampNat lo hi n = min hi (max lo n) := by
  unfold clampNat
  split_ifs <;> omega

/-! ### The boundary of a unit that no other follows (R11, R233) -/

theorem State.setPos_zero (s : State) (u : Nat) : ∃ down, s.setPos u 0 = s.putPwm u { s.pwm u with count := 0, down := down } := by
  unfold State.setPos
  simp only [Nat.zero_mod, Nat.not_lt_zero, decide_false, Bool.and_false, Bool.false_eq_true, if_false]
  exact ⟨_, rfl⟩

theorem State.syncFollowers_none (h : ∀ v, v < 16 → s.follows v u = false) (n : Nat) : State.syncFollowers n s u = (s, []) := by
  cases n with
  | zero => rfl
  | succ n =>
    have hnone : (List.range 16).filter (fun v => s.follows v u) = [] :=
      List.filter_eq_nil_iff.mpr fun v hv => by simp [h v (List.mem_range.mp hv)]
    unfold State.syncFollowers
    rw [hnone]
    rfl

theorem State.boundary_alone (h : ∀ v, v < 16 → s.follows v u = false) : s.boundary u = s.unitBoundary u := by
  unfold State.boundary
  rw [State.syncFollowers_none h]
  rfl

/-- No converter commits at the boundary of a unit that none drives. -/
theorem State.unitBoundary_plain (hobc : (s.loadPoint u false).pageEn Pg.OBC = false) (hdcdc : u ≠ (s.loadPoint u false).dcdcUnit) (hact : u < 7 ∨ 9 < u) :
    s.unitBoundary u = s.loadPoint u false := by
  have hload : (s.loadPoint u false).obcLoad u = s.loadPoint u false := by
    unfold State.obcLoad
    rw [hobc]
    rfl
  unfold State.unitBoundary
  dsimp only
  rw [hload, if_neg hdcdc, if_neg (by omega)]

/-! ### Load points (R11, R12, R227, R231) -/

/-- Without a trip, a load point drops what asked for one. -/
theorem State.tripRelease_untripped (h : s.pwmTripped u = false) : s.tripRelease u = s.putPwm u { s.pwm u with tripS := false } := by
  unfold State.tripRelease
  simp [h]

theorem State.loadSet_newest {at_ : Nat} {ws : List Word} {rest : List (Nat × List Word)} (h : (s.pwm u).sets = (at_, ws) :: rest) (hat : at_ + 4 ≤ s.now) :
    s.loadSet u = (s.putPwm u { s.pwm u with sets := (s.pwm u).sets.filter fun e => decide (s.now < e.1 + 4) }).loadWords u ws := by
  have hready : (s.pwm u).ready s.now = (at_, ws) :: rest.filter fun e => decide (e.1 + 4 ≤ s.now) := by
    unfold Pwm.ready
    rw [h, List.filter_cons_of_pos (by simpa using hat)]
  unfold State.loadSet
  rw [hready]

theorem State.loadSet_late (h : (s.pwm u).sets = []) (harm : s.pwmArmed u = true) : s.loadSet u = s.raise (Pg.PWM u) 2 := by
  have hready : (s.pwm u).ready s.now = [] := by
    unfold Pwm.ready
    rw [h]
    rfl
  unfold State.loadSet
  rw [hready, harm]
  rfl

/-- Registers written one after another, none twice, hold what was written. -/
theorem State.each_setReg_reg {f : Nat → Nat} (hf : ∀ i j, f i = f j → i = j) (v : Nat → Word) {l : List Nat} (hl : l.Nodup) {k : Nat} (hk : k ∈ l)
    (s : State) : (s.each l fun t w => t.setReg (f w) (v w)).reg (f k) = v k := by
  induction l generalizing s with
  | nil => cases hk
  | cons j l ih =>
    obtain ⟨hj, hl⟩ := List.nodup_cons.mp hl
    rcases List.mem_cons.mp hk with rfl | hk
    · have hkeep : State.RegsOn (· = f k) (s.setReg (f k) (v k)) ((s.setReg (f k) (v k)).each l fun t w => t.setReg (f w) (v w)) :=
        State.each_regsOn _ fun t i hi => t.setReg_regsOn (P := (· = f k)) (fun he => hj (hf i k he ▸ hi)) _
      exact (hkeep.same _ rfl).trans (State.reg_setReg_self ..)
    · exact ih hl hk _

theorem State.pwm_congr {t : State} (h : t.pwms = s.pwms) (k : Nat) : t.pwm k = s.pwm k := by
  unfold State.pwm
  rw [h]

theorem State.each_pwms {f : State → Nat → State} (hf : ∀ t k, (f t k).pwms = t.pwms) (l : List Nat) (s : State) : (s.each l f).pwms = s.pwms := by
  unfold State.each
  induction l generalizing s with
  | nil => rfl
  | cons k l ih => exact (ih (f s k)).trans (hf s k)

/-- The words of a set of eight gate no channel. -/
theorem State.loadWords_pwm {ws : List Word} (h : ws.length = 8) : (s.loadWords u ws).pwm u = s.pwm u := by
  have hgate : ws[8]? = none := List.getElem?_eq_none (by omega)
  unfold State.loadWords
  rw [hgate]
  dsimp only
  rw [State.pwm_congr (State.setFlag_pwms ..), State.pwm_congr (State.each_pwms (fun t k => State.setReg_pwms ..) _ _), State.pwm_putPwm_self]

theorem State.loadWords_regsOn (hS : ¬ P (Adr.PWM_STAT u)) (hC : ∀ k, k < 8 → ¬ P (Adr.PWM_CMP u k)) (ws : List Word) :
    State.RegsOn P s (s.loadWords u ws) := by
  unfold State.loadWords
  refine .trans (.trans ?gate (State.each_regsOn _ fun t w hw => t.setReg_regsOn (hC w (List.mem_range.mp hw)) _)) (State.setFlag_regsOn _ hS _ _)
  exact .of_regs rfl

theorem State.loadWords_cmp {ws : List Word} (k : Nat) (hk : k < 8) : (s.loadWords u ws).reg (Adr.PWM_CMP u k) = nthD 0#32 ws k := by
  unfold State.loadWords
  rw [State.reg_setFlag, if_neg (by unfold Adr.PWM_CMP Adr.PWM_STAT; omega)]
  exact State.each_setReg_reg (fun i j h => by unfold Adr.PWM_CMP at h; omega) _ List.nodup_range (List.mem_range.mpr hk) _

theorem State.putPwm_pwmArmed (v : Pwm) (j : Nat) : (s.putPwm u v).pwmArmed j = s.pwmArmed j := rfl

theorem State.loadWords_armed (ws : List Word) : (s.loadWords u ws).pwmArmed u = true := by
  unfold State.loadWords State.pwmArmed
  rw [State.flag_eq, State.reg_setFlag, if_pos rfl, bit_setBit_self _ _ (by decide)]

theorem State.loadWords_tripped (ws : List Word) : (s.loadWords u ws).pwmTripped u = s.pwmTripped u := by
  unfold State.loadWords State.pwmTripped
  rw [State.flag_setFlag_ne _ _ _ (by decide)]
  exact State.RegsOn.flag (P := (· = Adr.PWM_STAT u)) (State.each_regsOn _ fun t w _ => t.setReg_regsOn (by unfold Adr.PWM_CMP Adr.PWM_STAT; omega) _)
    rfl 30

/-- The period register taken over, which a boundary begins with. -/
def State.periodTaken (s : State) (u : Nat) : State := s.putPwm u { s.pwm u with per := clampNat 64 1048575 (s.fld (Adr.PWM_PER u) 19 0) }

theorem State.loadPoint_boundary (s : State) (u : Nat) : s.loadPoint u false = ((s.periodTaken u).loadSet u).tripRelease u := rfl

theorem State.periodTaken_pwm (s : State) (u : Nat) :
    (s.periodTaken u).pwm u = { s.pwm u with per := clampNat 64 1048575 (s.fld (Adr.PWM_PER u) 19 0) } := State.pwm_putPwm_self ..

theorem State.loadPoint_loaded {at_ : Nat} {ws : List Word} {rest : List (Nat × List Word)} (htrip : s.pwmTripped u = false)
    (h : (s.pwm u).sets = (at_, ws) :: rest) (hat : at_ + 4 ≤ s.now) (h8 : ws.length = 8) :
    (∀ k : Fin 8, ws[k.val]? = some ((s.loadPoint u false).reg (Adr.PWM_CMP u k))) ∧ (s.loadPoint u false).pwmArmed u = true
      ∧ ((s.loadPoint u false).pwm u).per = clampNat 64 1048575 (s.fld (Adr.PWM_PER u) 19 0)
      ∧ ((s.loadPoint u false).pwm u).count = (s.pwm u).count
      ∧ State.RegsOn (· ∉ Adr.PWM_STAT u :: (List.range 8).map (Adr.PWM_CMP u)) s (s.loadPoint u false) := by
  have hsets : ((s.periodTaken u).pwm u).sets = (at_, ws) :: rest := by rw [s.periodTaken_pwm]; exact h
  rw [State.loadPoint_boundary, State.loadSet_newest hsets hat]
  generalize hv : (s.periodTaken u).putPwm u _ = v
  have hvpwm : (v.pwm u).per = clampNat 64 1048575 (s.fld (Adr.PWM_PER u) 19 0) ∧ (v.pwm u).count = (s.pwm u).count := by
    rw [← hv, State.pwm_putPwm_self, s.periodTaken_pwm]
    exact ⟨rfl, rfl⟩
  have hvregs : v.regs = s.regs := by
    rw [← hv]
    exact (State.putPwm_regs ..).trans (State.putPwm_regs ..)
  have hvtrip : (v.loadWords u ws).pwmTripped u = false := by
    rw [v.loadWords_tripped, ← htrip]
    exact State.RegsOn.flag (P := fun _ => True) (.of_regs hvregs) trivial 30
  rw [State.tripRelease_untripped hvtrip]
  refine ⟨fun k => ?_, (State.putPwm_pwmArmed ..).trans (v.loadWords_armed ws), ?_, ?_, ?_⟩
  · rw [State.putPwm_reg, v.loadWords_cmp k k.isLt, nthD, List.getElem?_eq_getElem (by omega)]
    rfl
  · rw [State.pwm_putPwm_self, v.loadWords_pwm h8]
    exact hvpwm.1
  · rw [State.pwm_putPwm_self, v.loadWords_pwm h8]
    exact hvpwm.2
  · have hwords : State.RegsOn (· ∉ Adr.PWM_STAT u :: (List.range 8).map (Adr.PWM_CMP u)) v (v.loadWords u ws) :=
      v.loadWords_regsOn (by simp) (fun k hk => not_not.mpr (List.mem_cons_of_mem _ (List.mem_map_of_mem (List.mem_range.mpr hk)))) ws
    exact ((State.RegsOn.of_regs hvregs).trans hwords).trans (.of_regs (State.putPwm_regs ..))

theorem State.loadPoint_late (htrip : s.pwmTripped u = false) (h : (s.pwm u).sets = []) (harm : s.pwmArmed u = true) (hon : s.pageOn (Pg.PWM u) = true) :
    (s.loadPoint u false).flag (Adr.PEVT (Pg.PWM u)) 2 = true ∧ State.RegsOn (· ∉ [Adr.PEVT (Pg.PWM u)]) s (s.loadPoint u false) := by
  have hsets : ((s.periodTaken u).pwm u).sets = [] := by rw [s.periodTaken_pwm]; exact h
  have hraise : State.RegsOn (· ∉ [Adr.PEVT (Pg.PWM u)]) (s.periodTaken u) ((s.periodTaken u).raise (Pg.PWM u) 2) :=
    State.raise_regsOn _ (by simp) 2
  have htrip' : ((s.periodTaken u).raise (Pg.PWM u) 2).pwmTripped u = false := by
    unfold State.pwmTripped
    rw [hraise.flag (by simp [Adr.PWM_STAT, Adr.PEVT, Pg.PWM]; omega)]
    exact htrip
  rw [State.loadPoint_boundary, State.loadSet_late hsets harm, State.tripRelease_untripped htrip']
  refine ⟨State.raise_flag _ _ _ hon (by decide), ?_⟩
  exact ((State.RegsOn.of_regs (State.putPwm_regs ..)).trans hraise).trans (.of_regs (State.putPwm_regs ..))

/-! ### Event generators (R234) -/

theorem State.egReference_fires {g : Nat} (hbit : s.flag (Adr.PWM_EG u g) 21 = true) (hen : s.pageEn (Pg.PWM u) = true) (hrun : (s.pwm u).run = true)
    (h0 : Store.get (fun _ => 0) (s.pwm u).eg g = 0) : s.egReference u g =
      (s.putPwm u { s.pwm u with eg := Store.put (fun _ => 0) g (1 % max (s.fld (Adr.PWM_EG u g) 31 24) 1) (s.pwm u).eg }).raise (Pg.PWM u) g := by
  have hon : (bit (s.reg (Adr.PWM_EG u g)) 21 && s.pageEn (Pg.PWM u) && (s.pwm u).run) = true := by
    rw [show bit (s.reg (Adr.PWM_EG u g)) 21 = true from hbit, hen, hrun]
    rfl
  unfold State.egReference
  dsimp only
  rw [h0, if_pos hon, if_pos rfl]
  rfl

/-! ### Trips (R230, R232) -/

theorem State.tripAsync_trips (haen : s.flag (Adr.PWM_TRIPCFG u) 0 = true) (htrip : s.tripA u = true) (hnot : s.pwmTripped u = false) :
    s.tripAsync u = (s.setFlag (Adr.PWM_STAT u) 30 true).raise (Pg.PWM u) 3 := by
  unfold State.tripAsync State.pwmTrip
  rw [haen, htrip, hnot]
  rfl

theorem setOut_testBit (o k : Nat) (b : Bool × Bool) (i : Nat) :
    (setOut o k b).testBit i = (decide (i < 8) && if i = 2 * k then b.1 else if i = 2 * k + 1 then b.2 else o.testBit i) := maskOf_testBit ..

theorem setOut_all_off (o : Nat) : setOut (setOut (setOut (setOut o 0 (false, false)) 1 (false, false)) 2 (false, false)) 3 (false, false) = 0 := by
  refine Nat.eq_of_testBit_eq fun i => ?_
  simp only [setOut_testBit, Nat.zero_testBit]
  by_cases h : i < 8
  · interval_cases i <;> rfl
  · simp [h]

/-- The unit is tripped, bound by no group, and its trip pattern is OFF. -/
def State.TripsOff (s : State) (u : Nat) : Prop := s.boundGroup u = none ∧ s.pwmTripped u = true ∧ s.reg (Adr.PWM_TRIPOUT u) = 0#32

theorem State.TripsOff.requests (h : s.TripsOff u) (k : Nat) (q : Bool × Bool) : s.requests u k q = (false, false) := by
  obtain ⟨hb, ht, ho⟩ := h
  have hzero : ∀ i, s.flag (Adr.PWM_TRIPOUT u) i = false := fun i => by
    rw [State.flag_eq, ho]
    simp [bit]
  unfold State.requests
  dsimp only
  rw [hb, ht, hzero, hzero]
  dsimp only
  split <;> rfl

/-- A tick without a request turns both sides off and raises nothing. -/
theorem State.TripsOff.outTick (h : s.TripsOff u) (k : Nat) (q : Bool × Bool) :
    s.outTick u k q = s.putPwm u { s.pwm u with out := setOut (s.pwm u).out k (false, false) } := by
  unfold State.outTick
  rw [h.requests]
  split <;> rfl

theorem State.TripsOff.putPwm (h : s.TripsOff u) (v : Pwm) : (s.putPwm u v).TripsOff u := h

/-- A tick of all four channels turns the unit off. -/
theorem State.TripsOff.out (h : s.TripsOff u) (q : Bool × Bool) : ((s.each [0, 1, 2, 3] fun v k => v.outTick u k q).pwm u).out = 0 := by
  unfold State.each
  simp only [List.foldl_cons, List.foldl_nil]
  rw [h.outTick, (h.putPwm _).outTick, ((h.putPwm _).putPwm _).outTick, (((h.putPwm _).putPwm _).putPwm _).outTick]
  simp only [State.pwm_putPwm_self]
  exact setOut_all_off _

theorem State.outTick_regsOn (hE : ¬ P (Adr.PEVT (Pg.PWM u))) (k : Nat) (q : Bool × Bool) : State.RegsOn P s (s.outTick u k q) := by
  unfold State.outTick
  dsimp only
  split
  · exact .trans (.of_regs (State.putPwm_regs ..)) (State.when_regsOn _ (fun t => t.raise_regsOn hE 4) _)
  · exact .of_regs (State.putPwm_regs ..)

/-- An event flag of the unit outlives its ticks. -/
theorem State.outTick_flag_mono {i : Nat} (k : Nat) (q : Bool × Bool) (h : s.flag (Adr.PEVT (Pg.PWM u)) i = true) :
    (s.outTick u k q).flag (Adr.PEVT (Pg.PWM u)) i = true := by
  unfold State.outTick State.when
  dsimp only
  split
  · split
    · exact State.raise_flag_mono _ _ _ h
    · exact h
  · exact h

end Sys2Proof.Machine
end

section
/-! SUPPORT. The rows of the PWM units: what each does to the state, from what its operations do. -/

namespace Sys2Proof.Machine

variable {s : State} {u : Nat}

/-! ### The load point of a unit (R11) -/

theorem State.setPos_regs (s : State) (u pos : Nat) : (s.setPos u pos).regs = s.regs := (s.setPos_within u pos).same .regs rfl

theorem State.setPos_pwr (s : State) (u pos : Nat) : (s.setPos u pos).pwr = s.pwr := (s.setPos_within u pos).same .pwr rfl

theorem State.setPos_mem (s : State) (u pos : Nat) : (s.setPos u pos).mem = s.mem := (s.setPos_within u pos).same .mem rfl

/-- A load point that leaves PCTRL of OBC and CFG of DCDC alone is all that the boundary of the unit does. -/
theorem State.boundary_plain {Q : Nat → Prop} (hregs : State.RegsOn Q s (s.loadPoint u false)) (hO : Q (Adr.PCTRL Pg.OBC)) (hD : Q Adr.DCDC_CFG)
    (hdcdc : u ≠ s.dcdcUnit) (hact : u < 7 ∨ 9 < u) (hfollows : ∀ v, v < 16 → s.follows v u = false) (hobc : s.pageEn Pg.OBC = false) :
    s.boundary u = s.loadPoint u false := by
  rw [State.boundary_alone hfollows]
  refine State.unitBoundary_plain ?_ ?_ hact
  · unfold State.pageEn
    rw [hregs.flag hO]
    exact hobc
  · unfold State.dcdcUnit
    rw [hregs.fld hD]
    exact hdcdc

theorem exec_loadPoint {v : Fin 16} (hrun : (s.pwm v).run = true) : exec (.loadPoint v false) s = done ((s.setPos v 0).boundary v) := by
  change execLoadPoint v false s = _
  unfold execLoadPoint
  rw [hrun]
  rfl

/-! ### Asynchronous trips (R230) -/

/-- Groups are bound by what the registers of GGRP and LVDRV say. -/
theorem State.boundGroup_congr {t : State} (h : State.RegsOn (0x80000 ≤ ·) s t) : t.boundGroup u = s.boundGroup u := by
  have huser : ∀ g, t.userUnit g = s.userUnit g := fun g => by
    unfold State.userUnit
    rw [h.fld (by unfold Adr.GGRP_GCFG; omega), h.fld (by decide)]
  have hsrc : ∀ g, t.flag (Adr.GGRP_GSTAT g) 9 = s.flag (Adr.GGRP_GSTAT g) 9 := fun g => h.flag (by unfold Adr.GGRP_GSTAT; omega) 9
  have hen : ∀ g, t.pageEn (Pg.GGRP g) = s.pageEn (Pg.GGRP g) := fun g => h.flag (by unfold Adr.PCTRL Pg.GGRP; omega) 0
  have hsafe : ∀ g, t.pageSafeSt (Pg.GGRP g) = s.pageSafeSt (Pg.GGRP g) := fun g => h.flag (by unfold Adr.PSTAT Pg.GGRP; omega) 30
  unfold State.boundGroup
  simp only [huser, hsrc, hen, hsafe]

/-- What follows a trip at the gates stays in the registers of GGRP. -/
theorem State.gatesRefresh_below (s : State) : State.RegsOn (· < 0x80000) s s.gatesRefresh :=
  State.gatesRefresh_regsOn (fun ch => by unfold cstat Adr.GGRP_CSTAT; omega) (fun ch => by unfold Adr.GGRP_GSTAT; omega) s

/-- A trip shows in STAT and PEVT of its unit. -/
theorem State.tripAsync_regsOn (haen : s.flag (Adr.PWM_TRIPCFG u) 0 = true) (htrip : s.tripA u = true) (hnot : s.pwmTripped u = false) :
    State.RegsOn (· ∉ [Adr.PWM_STAT u, Adr.PEVT (Pg.PWM u)]) s (s.tripAsync u) := by
  rw [State.tripAsync_trips haen htrip hnot]
  exact (s.setFlag_regsOn (by simp) 30 true).trans (State.raise_regsOn _ (by simp) 3)

theorem State.tripAsync_tripped (haen : s.flag (Adr.PWM_TRIPCFG u) 0 = true) (htrip : s.tripA u = true) (hnot : s.pwmTripped u = false) :
    (s.tripAsync u).pwmTripped u = true := by
  rw [State.tripAsync_trips haen htrip hnot]
  unfold State.pwmTripped
  rw [State.flag_eq, State.raise_reg_ne _ _ _ (by unfold Adr.PWM_STAT Adr.PEVT Pg.PWM; omega), State.reg_setFlag, if_pos rfl,
    bit_setBit_self _ _ (by decide)]

theorem State.tripAsync_event (haen : s.flag (Adr.PWM_TRIPCFG u) 0 = true) (htrip : s.tripA u = true) (hnot : s.pwmTripped u = false)
    (hon : s.pageOn (Pg.PWM u) = true) : (s.tripAsync u).flag (Adr.PEVT (Pg.PWM u)) 3 = true := by
  have hset : State.RegsOn (· = Adr.SYS_PDSTAT) s (s.setFlag (Adr.PWM_STAT u) 30 true) :=
    s.setFlag_regsOn (by unfold Adr.PWM_STAT Adr.SYS_PDSTAT; omega) 30 true
  rw [State.tripAsync_trips haen htrip hnot]
  exact State.raise_flag _ _ _ ((hset.pageOn rfl rfl _).trans hon) (by decide)

/-- A unit that has just tripped, which no group binds, has an OFF pattern when TRIPOUT is 0. -/
theorem State.tripAsync_tripsOff (h16 : u < 16) (haen : s.flag (Adr.PWM_TRIPCFG u) 0 = true) (htrip : s.tripA u = true) (hnot : s.pwmTripped u = false)
    (hb : s.boundGroup u = none) (ho : s.reg (Adr.PWM_TRIPOUT u) = 0#32) : (s.tripAsync u).TripsOff u := by
  have hregs := State.tripAsync_regsOn haen htrip hnot
  refine ⟨?_, State.tripAsync_tripped haen htrip hnot, ?_⟩
  · refine (State.boundGroup_congr (hregs.mono fun a ha => ?_)).trans hb
    simp only [List.mem_cons, List.not_mem_nil, or_false, not_or]
    unfold Adr.PWM_STAT Adr.PEVT Pg.PWM
    omega
  · rw [hregs.same _ ?_, ho]
    simp only [List.mem_cons, List.not_mem_nil, or_false, not_or]
    unfold Adr.PWM_TRIPOUT Adr.PWM_STAT Adr.PEVT Pg.PWM
    omega

theorem exec_asynchronousTrip {v : Fin 16} (haen : s.flag (Adr.PWM_TRIPCFG v) 0 = true) (htrip : s.tripA v = true) (hnot : s.pwmTripped v = false) :
    exec (.asynchronousTrip v) s = done (((s.tripAsync v).each [0, 1, 2, 3] fun t k => t.outTick v k (false, false)).gatesRefresh) := by
  change execAsynchronousTrip v s = _
  unfold execAsynchronousTrip
  dsimp only
  rw [State.tripAsync_tripped haen htrip hnot, hnot]
  rfl

/-! ### Requests written by firmware (R72, R231, R235) -/

/-- A write that stores what the register holds, of a page whose key it ends. -/
def State.requestStored (s : State) (p a : Nat) : State := (s.setKey p .idle).setReg a (s.reg a)

/-- A 1 written to TRIPCLR or SWCOMMIT, which hold nothing: the unit acts on it and the port is answered. -/
theorem State.portStore_pwmRequest {port a off : Nat} (h16 : u < 16) (ha : a = 4096 * Pg.PWM u + off) (h40 : 0x40 ≤ off) (hoff : off < 4096)
    (hr : pageRow (Pg.PWM u) = some ⟨.pwm, 0x60, 16, 0x8, 5, 0x1F, 0x0⟩) (hi : regInfo (Pg.PWM u) off = RegInfo.ro) (ho : s.Owns port (Pg.PWM u))
    (hw : s.refusalOf port a .plain 1#32 = none) : s.portStore port a 1#32 =
      ((s.requestStored (Pg.PWM u) a).pwmHook u off 1#32 (s.reg a) (s.reg a)).answer port (.ok []) := by
  have hpage : a / 4096 = Pg.PWM u := by omega
  have hin : a % 4096 = off := by omega
  have hunit : Pg.PWM u - 0x60 = u := by unfold Pg.PWM; omega
  have hv : RegInfo.next RegInfo.ro .plain (s.reg a) 1#32 = s.reg a := by
    simp only [RegInfo.next, RegInfo.ro, BitVec.or_self, BitVec.not_zero, BitVec.and_allOnes, BitVec.and_zero, BitVec.or_zero]
  have hlow : a < 0x200000 := by unfold Pg.PWM at ha; omega
  have hinfo : regInfo (a / 4096) (a % 4096) = RegInfo.ro := by rw [hpage, hin]; exact hi
  rw [s.portStore_runTime hlow (hpage ▸ hr) hinfo (hpage ▸ ho) (by omega) rfl rfl hw, hv, hpage, hin, hunit]
  rfl

theorem pwm_pageRow : ∀ v : Fin 16, pageRow (Pg.PWM v) = some ⟨.pwm, 0x60, 16, 0x8, 5, 0x1F, 0x0⟩ := by decide

theorem tripclr_regInfo : ∀ v : Fin 16, regInfo (Pg.PWM v) 0x64 = RegInfo.ro := by decide

theorem swcommit_regInfo : ∀ v : Fin 16, regInfo (Pg.PWM v) 0x70 = RegInfo.ro := by decide

theorem State.requestStored_regs (s : State) (p a : Nat) {P : Nat → Prop} : State.RegsOn P s (s.requestStored p a) :=
  (s.setKey_regsOn p .idle).trans ((s.setKey p .idle).rewrite_regsOn a)

theorem State.pwmHook_tripclr (htrip : s.pwmTripped u = true) (old new : Word) : s.pwmHook u 0x64 1#32 old new = s.putPwm u { s.pwm u with clr := true } := by
  unfold State.pwmHook
  rw [if_neg (by decide), if_neg (by decide), if_pos rfl, htrip]
  rfl

theorem State.pwmHook_swcommit (s : State) (u : Nat) (old new : Word) :
    s.pwmHook u 0x70 1#32 old new = s.commitSet u ((List.range 8).map fun k => s.reg (Adr.PWM_SHD u k)) := by
  unfold State.pwmHook
  rw [if_neg (by decide), if_neg (by decide), if_neg (by decide), if_pos rfl]
  rfl

theorem State.answer_settle_pwm (s : State) (p : Nat) (r : Resp) (k : Nat) : (s.answer p r).settle.pwm k = s.pwm k :=
  State.pwm_congr ((State.settle_pwms _).trans (State.putPort_pwms ..)) k

/-! ### The drive supply (R238) -/

theorem maskOf_false (n : Nat) : maskOf n (fun _ => false) = 0 := Nat.eq_of_testBit_eq fun i => by simp [maskOf_testBit]

/-- No output is driven while the supply has failed. -/
theorem State.refreshSrd_failed (h : s.flag Adr.LVDRV_STAT 0 = true) : s.refreshSrd.lvdrv.srd = 0 := by
  unfold State.refreshSrd
  simp only [h, Bool.not_true, Bool.and_false, Bool.false_and, maskOf_false]
  rfl

theorem State.refreshSrd_regs (s : State) : s.refreshSrd.regs = s.regs := s.refreshSrd_within.same .regs rfl

/-- Below 8.5 V: SUPF is set, with the event if it was clear, before the outputs follow. -/
theorem State.srdSupply_low_shape {mv : Nat} (hon : s.pageOn Pg.LVDRV = true) (hmv : mv < 8500) : ∃ w : State, s.srdSupply mv = w.refreshSrd
    ∧ w.flag Adr.LVDRV_STAT 0 = true ∧ w.flag (Adr.PEVT Pg.LVDRV) 0 = (s.flag (Adr.PEVT Pg.LVDRV) 0 || !s.flag Adr.LVDRV_STAT 0)
    ∧ State.RegsOn (· ∉ [Adr.LVDRV_STAT, Adr.PEVT Pg.LVDRV]) s w := by
  have hset : (s.setFlag Adr.LVDRV_STAT 0 true).flag Adr.LVDRV_STAT 0 = true := by
    rw [State.flag_eq, State.reg_setFlag, if_pos rfl, bit_setBit_self _ _ (by decide)]
  have hkeep : State.RegsOn (· ≠ Adr.LVDRV_STAT) s (s.setFlag Adr.LVDRV_STAT 0 true) := s.setFlag_regsOn (by simp) 0 true
  unfold State.srdSupply
  dsimp only
  rw [if_pos hmv]
  generalize ht : (s.setFlag Adr.LVDRV_STAT 0 true).setLvdrv { s.lvdrv with hold := 255 } = t
  have hhold : State.RegsOn (fun _ => True) (s.setFlag Adr.LVDRV_STAT 0 true) t := .of_regs (by rw [← ht, State.setLvdrv_regs])
  have hpwr : t.pwr = s.pwr := by rw [← ht]; rfl
  have hregs : State.RegsOn (· ≠ Adr.LVDRV_STAT) s t := hkeep.trans (hhold.mono fun _ _ => trivial)
  have hstat : t.flag Adr.LVDRV_STAT 0 = true := (hhold.flag trivial 0).trans hset
  have hframe : State.RegsOn (· ∉ [Adr.LVDRV_STAT, Adr.PEVT Pg.LVDRV]) s t := hregs.mono fun a ha => by
    simp only [List.mem_cons, not_or] at ha
    exact ha.1
  cases hs : s.flag Adr.LVDRV_STAT 0 with
  | true =>
    refine ⟨t, rfl, hstat, ?_, hframe⟩
    rw [hregs.flag (by decide), Bool.not_true, Bool.or_false]
  | false =>
    refine ⟨t.raise Pg.LVDRV 0, rfl, ?_, ?_, hframe.trans (t.raise_regsOn (by simp) 0)⟩
    · rw [State.flag_eq, State.raise_reg_ne _ _ _ (by decide)]
      exact hstat
    · rw [State.raise_flag _ _ _ ((hregs.pageOn (by decide) hpwr _).trans hon) (by decide), Bool.not_false, Bool.or_true]

/-- Below 8.5 V the supply has failed: the event once, no output. -/
theorem State.srdSupply_low {mv : Nat} (hon : s.pageOn Pg.LVDRV = true) (hmv : mv < 8500) : (s.srdSupply mv).flag Adr.LVDRV_STAT 0 = true
    ∧ (s.srdSupply mv).flag (Adr.PEVT Pg.LVDRV) 0 = (s.flag (Adr.PEVT Pg.LVDRV) 0 || !s.flag Adr.LVDRV_STAT 0) ∧ (s.srdSupply mv).lvdrv.srd = 0
    ∧ State.RegsOn (· ∉ [Adr.LVDRV_STAT, Adr.PEVT Pg.LVDRV]) s (s.srdSupply mv) := by
  obtain ⟨w, he, hstat, hevt, hregs⟩ := State.srdSupply_low_shape hon hmv
  have hshow : State.RegsOn (fun _ => True) w w.refreshSrd := .of_regs w.refreshSrd_regs
  rw [he, hshow.flag trivial, hshow.flag trivial]
  exact ⟨hstat, hevt, State.refreshSrd_failed hstat, hregs.trans (hshow.mono fun _ _ => trivial)⟩

theorem State.srdSupply_high (s : State) {mv : Nat} (hmv : 9000 < mv) : (s.srdSupply mv).flag Adr.LVDRV_STAT 0 = false
    ∧ State.RegsOn (· ∉ [Adr.LVDRV_STAT]) s (s.srdSupply mv) := by
  have hsupply : s.srdSupply mv = (s.setFlag Adr.LVDRV_STAT 0 false).refreshSrd := by
    unfold State.srdSupply
    rw [if_neg (by omega), if_pos hmv]
  have hshow := (s.setFlag Adr.LVDRV_STAT 0 false).refreshSrd_regs
  rw [hsupply]
  refine ⟨?_, (s.setFlag_regsOn (by simp) 0 false).trans (.of_regs hshow)⟩
  rw [State.RegsOn.flag (P := fun _ => True) (.of_regs hshow) trivial, State.flag_eq, State.reg_setFlag, if_pos rfl, bit_setBit_self _ _ (by decide)]

/-! ### What each row answers -/

/-- The registers of a unit's page that show: none of them is the interrupt lines', and none is read by a converter. -/
theorem pwm_not_irq : ∀ v : Fin 16, irqReg (Adr.PWM_STAT v) = false ∧ irqReg (Adr.PEVT (Pg.PWM v)) = false ∧ ∀ k : Fin 8, irqReg (Adr.PWM_CMP v k) = false := by
  decide

theorem pwm_not_converter : ∀ v : Fin 16, ∀ a ∈ [Adr.PCTRL Pg.OBC, Adr.DCDC_CFG],
    a ∉ Adr.PWM_STAT v :: (List.range 8).map (Adr.PWM_CMP v) ∧ a ∉ [Adr.PEVT (Pg.PWM v)] := by
  decide

/-- A running unit, not tripped, that no converter drives and no other unit follows. -/
structure State.RunsAlone (s : State) (v : Fin 16) : Prop where
  run : (s.pwm v).run = true
  dcdc : v.val ≠ s.dcdcUnit
  act : v.val < 7 ∨ 9 < v.val
  follows : ∀ w : Nat, w < 16 → s.follows w v = false
  obc : s.pageEn Pg.OBC = false
  untripped : s.pwmTripped v = false

variable {v : Fin 16}

theorem State.setPos_regsOn (s : State) {P : Nat → Prop} (u pos : Nat) : State.RegsOn P s (s.setPos u pos) := .of_regs (s.setPos_regs u pos)

theorem State.setPos_zero_pwm (s : State) (u : Nat) : ∃ down, (s.setPos u 0).pwm u = { s.pwm u with count := 0, down := down } := by
  obtain ⟨down, h⟩ := s.setPos_zero u
  exact ⟨down, by rw [h, State.pwm_putPwm_self]⟩

namespace State.RunsAlone

/-- The boundary row is the load point at position 0. -/
theorem row (h : s.RunsAlone v) {l : List Nat} (hl : ∀ a ∈ [Adr.PCTRL Pg.OBC, Adr.DCDC_CFG], a ∉ l)
    (hregs : State.RegsOn (· ∉ l) (s.setPos v 0) ((s.setPos v 0).loadPoint v false)) :
    exec (.loadPoint v false) s = .next ((s.setPos v 0).loadPoint v false).settle ∧ s.KeepsBut l ((s.setPos v 0).loadPoint v false).settle := by
  have hpos : State.RegsOn (fun _ => True) s (s.setPos v 0) := s.setPos_regsOn v 0
  have hfollows : ∀ w, w < 16 → (s.setPos v 0).follows w v = false := fun w hw => by
    rw [State.follows, hpos.flag trivial, hpos.fld trivial]
    exact h.follows w hw
  have hplain := State.boundary_plain hregs (hl _ (by simp)) (hl _ (by simp)) (by rw [State.dcdcUnit, hpos.fld trivial]; exact h.dcdc) h.act hfollows
    ((hpos.flag trivial 0).trans h.obc)
  have hmem : ((s.setPos v 0).loadPoint v false).mem = s.mem := (((s.setPos v 0).loadPoint_within v false).same .mem rfl).trans (s.setPos_mem v 0)
  refine ⟨?_, ((s.setPos_regsOn v 0).trans hregs).keepsBut hmem⟩
  rw [exec_loadPoint h.run, hplain, done_eq]

theorem pos_untripped (h : s.RunsAlone v) : (s.setPos v 0).pwmTripped v = false :=
  ((s.setPos_regsOn (P := fun _ => True) v 0).flag trivial 30).trans h.untripped

theorem loads (h : s.RunsAlone v) {at_ : Nat} {ws : List Word} {rest : List (Nat × List Word)} (hsets : (s.pwm v).sets = (at_, ws) :: rest)
    (hat : at_ + 4 ≤ s.now) (h8 : ws.length = 8) :
    ∃ t, exec (.loadPoint v false) s = .next t ∧ (∀ k : Fin 8, ws[k.val]? = some (t.reg (Adr.PWM_CMP v k))) ∧ t.pwmArmed v = true
      ∧ (t.pwm v).per = min 1048575 (max 64 (s.fld (Adr.PWM_PER v) 19 0)) ∧ (t.pwm v).count = 0
      ∧ s.KeepsBut (Adr.PWM_STAT v :: (List.range 8).map (Adr.PWM_CMP v)) t := by
  obtain ⟨hstat, -, hcmp⟩ := pwm_not_irq v
  obtain ⟨down, hpwm⟩ := s.setPos_zero_pwm v
  have hnow : (s.setPos v 0).now = s.now := congrArg Power.dtime (s.setPos_pwr v 0)
  obtain ⟨words, armed, per, count, regs⟩ := State.loadPoint_loaded h.pos_untripped (by rw [hpwm]; exact hsets) (hnow ▸ hat) h8
  obtain ⟨hrow, hkeep⟩ := h.row (fun a ha => (pwm_not_converter v a ha).1) regs
  refine ⟨_, hrow, fun k => ?_, ?_, ?_, ?_, hkeep⟩
  · rw [State.settle_reg _ (hcmp k)]
    exact words k
  · rw [State.pwmArmed, State.settle_flag _ hstat]
    exact armed
  · rw [State.pwm_congr (State.settle_pwms _), per, clampNat_eq (by decide), (s.setPos_regsOn (P := fun _ => True) v 0).fld trivial]
  · rw [State.pwm_congr (State.settle_pwms _), count, hpwm]

theorem late (h : s.RunsAlone v) (hsets : (s.pwm v).sets = []) (harm : s.pwmArmed v = true) (hon : s.pageOn (Pg.PWM v) = true) :
    ∃ t, exec (.loadPoint v false) s = .next t ∧ t.flag (Adr.PEVT (Pg.PWM v)) 2 = true ∧ s.KeepsBut [Adr.PEVT (Pg.PWM v)] t := by
  obtain ⟨-, hevt, -⟩ := pwm_not_irq v
  obtain ⟨down, hpwm⟩ := s.setPos_zero_pwm v
  have hpos : State.RegsOn (fun _ => True) s (s.setPos v 0) := s.setPos_regsOn v 0
  obtain ⟨event, regs⟩ := State.loadPoint_late h.pos_untripped (by rw [hpwm]; exact hsets) ((hpos.flag trivial 31).trans harm)
    ((hpos.pageOn trivial (s.setPos_pwr v 0) _).trans hon)
  obtain ⟨hrow, hkeep⟩ := h.row (fun a ha => (pwm_not_converter v a ha).2) regs
  refine ⟨_, hrow, ?_, hkeep⟩
  rw [State.settle_flag _ hevt]
  exact event

end State.RunsAlone

/-- An event generator's first reference. -/
theorem pwm_event {g : Fin 2} (hbit : s.flag (Adr.PWM_EG v g) 21 = true) (hen : s.pageEn (Pg.PWM v) = true) (hon : s.pageOn (Pg.PWM v) = true)
    (hrun : (s.pwm v).run = true) (h0 : Store.get (fun _ => 0) (s.pwm v).eg g = 0) :
    ∃ t, exec (.eventGenerator v g) s = .next t ∧ t.flag (Adr.PEVT (Pg.PWM v)) g = true
      ∧ Store.get (fun _ => 0) (t.pwm v).eg g = 1 % max (s.fld (Adr.PWM_EG v g) 31 24) 1 ∧ s.KeepsBut [Adr.PEVT (Pg.PWM v)] t := by
  obtain ⟨-, hevt, -⟩ := pwm_not_irq v
  have hmem : (s.egReference v g).mem = s.mem := (s.egReference_within v g).same .mem rfl
  refine ⟨(s.egReference v g).settle, rfl, ?_, ?_, State.RegsOn.keepsBut ?_ hmem⟩ <;> rw [State.egReference_fires hbit hen hrun h0]
  · rw [State.settle_flag _ hevt]
    exact State.raise_flag _ _ _ hon (by omega)
  · rw [State.pwm_congr (State.settle_pwms _), State.pwm_congr (State.raise_pwms ..), State.pwm_putPwm_self, Store.get_put, if_pos rfl]
  · exact .trans (.of_regs (State.putPwm_regs ..)) (State.raise_regsOn _ (by simp) g)

/-- An event flag of the unit outlives the ticks of its channels. -/
theorem State.ticks_flag_mono {i : Nat} (q : Bool × Bool) (l : List Nat) (h : s.flag (Adr.PEVT (Pg.PWM v)) i = true) :
    (s.each l fun t k => t.outTick v k q).flag (Adr.PEVT (Pg.PWM v)) i = true := by
  unfold State.each
  induction l generalizing s with
  | nil => exact h
  | cons k l ih => exact ih (State.outTick_flag_mono k q h)

theorem State.ticks_within (s : State) (u : Nat) (q : Bool × Bool) (l : List Nat) : s.WithinM 8390658 (s.each l fun t k => t.outTick u k q) :=
  State.each_within (fun t k => t.outTick_within u k q) (.refl ..)

/-- A unit whose AEN is set trips on TRIPA. -/
theorem pwm_trips (haen : s.flag (Adr.PWM_TRIPCFG v) 0 = true) (htrip : s.tripA v = true) (hnot : s.pwmTripped v = false)
    (hon : s.pageOn (Pg.PWM v) = true) : ∃ t, exec (.asynchronousTrip v) s = .next t ∧ t.pwmTripped v = true
      ∧ t.flag (Adr.PEVT (Pg.PWM v)) 3 = true ∧ (s.boundGroup v = none → s.reg (Adr.PWM_TRIPOUT v) = 0#32 → (t.pwm v).out = 0) ∧ s.MemSame t := by
  obtain ⟨hstat, hevt, -⟩ := pwm_not_irq v
  refine ⟨_, (exec_asynchronousTrip haen htrip hnot).trans (done_eq _), ?_⟩
  have htripped := State.tripAsync_tripped haen htrip hnot
  have hevent := State.tripAsync_event haen htrip hnot hon
  have hoff := State.tripAsync_tripsOff v.isLt haen htrip hnot
  have hmem : (s.tripAsync v).mem = s.mem := (s.tripAsync_within v).same .mem rfl
  generalize s.tripAsync v = t at htripped hevent hoff hmem
  have hticks := t.ticks_within v (false, false) [0, 1, 2, 3]
  have hshown : State.RegsOn (· = Adr.PWM_STAT v) t (t.each [0, 1, 2, 3] fun w k => w.outTick v k (false, false)) :=
    t.each_regsOn fun w k _ => State.outTick_regsOn (by unfold Adr.PWM_STAT Adr.PEVT Pg.PWM; omega) k _
  have hflag := State.ticks_flag_mono (false, false) [0, 1, 2, 3] hevent
  have hout := fun hb ho => State.TripsOff.out (hoff hb ho) (false, false)
  generalize (t.each [0, 1, 2, 3] fun w k => w.outTick v k (false, false)) = w at hticks hshown hflag hout
  refine ⟨?_, ?_, fun hb ho => ?_, State.byte_congr ?_⟩
  · rw [State.pwmTripped, State.settle_flag _ hstat, w.gatesRefresh_below.flag (by unfold Adr.PWM_STAT; omega), hshown.flag rfl]
    exact htripped
  · rw [State.settle_flag _ hevt, w.gatesRefresh_below.flag (by unfold Adr.PEVT Pg.PWM; omega)]
    exact hflag
  · rw [State.pwm_congr ((State.settle_pwms _).trans (w.gatesRefresh_within.same .pwms rfl))]
    exact hout hb ho
  · exact (State.settle_mem _).trans ((w.gatesRefresh_within.same .mem rfl).trans ((hticks.same .mem rfl).trans hmem))

theorem pwm_tripclr {port : Port} (ho : s.Owns port (Pg.PWM v)) (hw : s.refusalOf port (Adr.PWM_TRIPCLR v) .plain 1#32 = none)
    (htrip : s.pwmTripped v = true) : ∃ t, exec (.tripclr port v) s = .next t ∧ (t.port port).resp = .ok []
      ∧ t.pwm v = { s.pwm v with clr := true } ∧ s.KeepsBut [] t := by
  have hstore := State.portStore_pwmRequest v.isLt (off := 0x64) (by unfold Adr.PWM_TRIPCLR Pg.PWM; omega) (by decide) (by decide) (pwm_pageRow v)
    (tripclr_regInfo v) ho hw
  have hregs : State.RegsOn (fun _ => True) s (s.requestStored (Pg.PWM v) (Adr.PWM_TRIPCLR v)) := s.requestStored_regs _ _
  rw [State.pwmHook_tripclr ((hregs.flag trivial 30).trans htrip)] at hstore
  refine ⟨_, (congrArg done hstore).trans (done_eq _), State.answer_settle_resp .., ?_, State.RegsOn.keepsBut ((hregs.mono fun _ _ => trivial).trans (.of_regs rfl)) rfl⟩
  rw [State.answer_settle_pwm, State.pwm_putPwm_self]
  rfl

theorem pwm_swcommit {port : Port} (ho : s.Owns port (Pg.PWM v)) (hw : s.refusalOf port (Adr.PWM_SWCOMMIT v) .plain 1#32 = none) :
    ∃ t, exec (.swcommit port v) s = .next t ∧ (t.port port).resp = .ok []
      ∧ (t.pwm v).sets = (s.now, (List.range 8).map fun k => s.reg (Adr.PWM_SHD v k)) :: (s.pwm v).sets ∧ s.KeepsBut [] t := by
  have hstore := State.portStore_pwmRequest v.isLt (off := 0x70) (by unfold Adr.PWM_SWCOMMIT Pg.PWM; omega) (by decide) (by decide) (pwm_pageRow v)
    (swcommit_regInfo v) ho hw
  have hregs : State.RegsOn (fun _ => True) s (s.requestStored (Pg.PWM v) (Adr.PWM_SWCOMMIT v)) := s.requestStored_regs _ _
  rw [State.pwmHook_swcommit] at hstore
  refine ⟨_, (congrArg done hstore).trans (done_eq _), State.answer_settle_resp .., ?_, State.RegsOn.keepsBut ((hregs.mono fun _ _ => trivial).trans (.of_regs rfl)) rfl⟩
  simp only [State.answer_settle_pwm, State.commitSet, State.pwm_putPwm_self, fun a => hregs.same a trivial]
  rfl

theorem exec_srdSupplyFail {mv : Nat} (hon : s.pageOn Pg.LVDRV = true) : exec (.srdSupplyFail mv) s = .next (s.srdSupply mv).settle := by
  change execSrdSupplyFail mv s = _
  unfold execSrdSupplyFail State.onPage
  rw [hon]
  rfl

theorem State.srdSupply_mem (s : State) (mv : Nat) : (s.srdSupply mv).mem = s.mem := (s.srdSupply_within mv).same .mem rfl

theorem srd_fails {mv : Nat} (hon : s.pageOn Pg.LVDRV = true) (hmv : mv < 8500) : ∃ t, exec (.srdSupplyFail mv) s = .next t
    ∧ t.flag Adr.LVDRV_STAT 0 = true ∧ t.flag (Adr.PEVT Pg.LVDRV) 0 = (s.flag (Adr.PEVT Pg.LVDRV) 0 || !s.flag Adr.LVDRV_STAT 0) ∧ t.lvdrv.srd = 0
    ∧ s.KeepsBut [Adr.LVDRV_STAT, Adr.PEVT Pg.LVDRV] t := by
  obtain ⟨hstat, hevt, hsrd, hregs⟩ := State.srdSupply_low hon hmv
  refine ⟨_, exec_srdSupplyFail hon, ?_, ?_, ?_, hregs.keepsBut (s.srdSupply_mem mv)⟩
  · rw [State.settle_flag _ (by decide)]
    exact hstat
  · rw [State.settle_flag _ (by decide)]
    exact hevt
  · rw [State.settle_lvdrv]
    exact hsrd

theorem srd_returns {mv : Nat} (hon : s.pageOn Pg.LVDRV = true) (hmv : 9000 < mv) : ∃ t, exec (.srdSupplyFail mv) s = .next t
    ∧ t.flag Adr.LVDRV_STAT 0 = false ∧ s.KeepsBut [Adr.LVDRV_STAT] t := by
  obtain ⟨hstat, hregs⟩ := s.srdSupply_high hmv
  refine ⟨_, exec_srdSupplyFail hon, ?_, hregs.keepsBut (s.srdSupply_mem mv)⟩
  rw [State.settle_flag _ (by decide)]
  exact hstat

/-- Settles O42: the unit's rows, each by what its operation leaves. -/
theorem pwmUnits : Obligations.PwmUnits := by
  unfold Obligations.PwmUnits
  intro v port s
  refine ⟨?loads, ?late, ?event, ?trips, ?tripclr, ?swcommit, ?fails, ?returns⟩
  case loads =>
    intro at_ ws rest hrun hdcdc hact hfollows hobc htrip hsets hat h8
    exact State.RunsAlone.loads ⟨hrun, hdcdc, hact, hfollows, hobc, htrip⟩ hsets hat h8
  case late =>
    intro hrun hdcdc hact hfollows hobc htrip hsets harm hon
    exact State.RunsAlone.late ⟨hrun, hdcdc, hact, hfollows, hobc, htrip⟩ hsets harm hon
  case event => exact fun g hbit hen hon hrun h0 => pwm_event hbit hen hon hrun h0
  case trips => exact pwm_trips
  case tripclr => exact pwm_tripclr
  case swcommit => exact pwm_swcommit
  case fails => exact fun mv hon hmv => srd_fails hon hmv
  case returns => exact fun mv hon hmv => srd_returns hon hmv

end Sys2Proof.Machine
end

section
/-! SUPPORT. The supply's levels (R34, R62, R63): the voltage that VSMON shows, its warning and the dip that the warning begins, the end of the
warning, the overvoltage; and how a black-box commit starts (R412). -/

namespace Sys2Proof.Machine

/-! ### A commit starts (R412) -/

section
variable (s : State)

theorem State.fld_setFlag_ne (a : Nat) {i hi lo : Nat} (b : Bool) (h : i < lo ∨ hi < i) : (s.setFlag a i b).fld a hi lo = s.fld a hi lo := by
  rw [State.fld_eq, State.reg_setFlag, if_pos rfl, bits_setBit_ne _ _ _ _ _ h, State.fld_eq]

theorem State.flag_setFlag_self (a : Nat) {i : Nat} (b : Bool) (h : i < 32) : (s.setFlag a i b).flag a i = b := by
  rw [State.flag_eq, State.reg_setFlag, if_pos rfl, bit_setBit_self _ _ h]

theorem State.commitStart_idle (hr : s.gms.restarting = false) (hc : s.flag Adr.MBX_GSTAT 9 = false) :
    s.commitStart = (s.setFlag Adr.MBX_GSTAT 9 true).setGms { s.gms with snap := some s.gms.bb } := by
  unfold State.commitStart
  rw [hr, hc]
  rfl

theorem State.commitStart_busy (hr : s.gms.restarting = false) (hc : s.flag Adr.MBX_GSTAT 9 = true) :
    s.commitStart = s.setFlag Adr.MBX_GSTAT 10 true := by
  unfold State.commitStart
  rw [hr, hc]
  rfl

/-- A commit is in progress once one has been started, whether it is the one asked for or one before it. -/
theorem State.commitStart_running (hr : s.gms.restarting = false) : s.commitStart.flag Adr.MBX_GSTAT 9 = true := by
  cases hc : s.flag Adr.MBX_GSTAT 9 with
  | false =>
    rw [s.commitStart_idle hr hc]
    exact s.flag_setFlag_self Adr.MBX_GSTAT true (by decide)
  | true =>
    rw [s.commitStart_busy hr hc, s.flag_setFlag_ne _ _ (by decide), hc]

theorem State.commitStart_regsOn {P : Nat → Prop} (h : ¬ P Adr.MBX_GSTAT) : State.RegsOn P s s.commitStart := by
  unfold State.commitStart
  split
  · exact .refl
  split
  · exact s.setFlag_regsOn h _ _
  · exact (s.setFlag_regsOn h _ _).trans (State.setGms_regsOn _ _)

theorem State.commitStart_after : s.commitStart.gms.after = s.gms.after := by
  unfold State.commitStart
  split
  · rfl
  split <;> rfl

end

/-! ### VSMON -/

section
variable (s : State) (vs : Nat)

theorem State.setVs_regsOn {P : Nat → Prop} (h : ¬ P Adr.SYS_VSMON) : State.RegsOn P s (s.setVs vs) :=
  ((State.RegsOn.of_regs (State.setPins_regs ..)).trans (State.setFld_regsOn _ h 15 0 vs)).trans (State.setFlag_regsOn _ h 17 _)

theorem State.setVs_over : (s.setVs vs).flag Adr.SYS_VSMON 17 = decide (3600 < vs) := State.flag_setFlag_self _ _ _ (by decide)

theorem State.setVs_warn : (s.setVs vs).flag Adr.SYS_VSMON 16 = s.flag Adr.SYS_VSMON 16 := by
  unfold State.setVs
  rw [State.flag_setFlag_ne _ _ _ (by decide), State.flag_setFld _ _ _ _ _ _ (by decide) (by decide)]
  rfl

theorem State.setVs_fld (h : vs < 65536) : (s.setVs vs).fld Adr.SYS_VSMON 15 0 = vs := by
  unfold State.setVs
  rw [State.fld_setFlag_ne _ _ _ (by decide), State.fld_setFld_self _ _ _ _ _ (by decide)]
  exact Nat.mod_eq_of_lt h

theorem State.setVs_mem : (s.setVs vs).mem = s.mem := rfl

theorem State.setVs_pageOn (p : Nat) : (s.setVs vs).pageOn p = s.pageOn p :=
  (s.setVs_regsOn vs (P := (· = Adr.SYS_PDSTAT)) (by decide)).pageOn rfl rfl p

end

/-! ### The warning (R62) -/

section
variable {s : State} {vs : Nat}

/-- WARN brought to a level, with its event, and the dip that goes on from now. -/
def State.warnTo (s : State) (vs : Nat) (b : Bool) (dip : Option (Nat × Nat)) : State :=
  (((s.setVs vs).setFlag Adr.SYS_VSMON 16 b).raise Pg.SYS 4).setPwr { s.pwr with dip := dip }

theorem State.warnTo_regsOn (b : Bool) (dip : Option (Nat × Nat)) :
    State.RegsOn (· ∉ [Adr.SYS_VSMON, Adr.PEVT Pg.SYS]) s (s.warnTo vs b dip) :=
  (((s.setVs_regsOn vs (by decide)).trans (State.setFlag_regsOn _ (by decide) 16 b)).trans (State.raise_regsOn _ (by decide) 4)).trans
    (State.setPwr_regsOn _ _)

theorem State.warnTo_vsmon (b : Bool) (dip : Option (Nat × Nat)) :
    (s.warnTo vs b dip).reg Adr.SYS_VSMON = ((s.setVs vs).setFlag Adr.SYS_VSMON 16 b).reg Adr.SYS_VSMON := State.raise_reg_ne _ _ _ (by decide)

theorem State.warnTo_warn (b : Bool) (dip : Option (Nat × Nat)) : (s.warnTo vs b dip).flag Adr.SYS_VSMON 16 = b := by
  rw [State.flag_eq, State.warnTo_vsmon]
  exact State.flag_setFlag_self _ _ _ (by decide)

theorem State.warnTo_fld (h : vs < 65536) (b : Bool) (dip : Option (Nat × Nat)) : (s.warnTo vs b dip).fld Adr.SYS_VSMON 15 0 = vs := by
  rw [State.fld_eq, State.warnTo_vsmon, ← State.fld_eq, State.fld_setFlag_ne _ _ _ (by decide)]
  exact s.setVs_fld vs h

theorem State.warnTo_gms (b : Bool) (dip : Option (Nat × Nat)) : (s.warnTo vs b dip).gms = s.gms := State.raise_gms ..
theorem State.warnTo_pins (b : Bool) (dip : Option (Nat × Nat)) : (s.warnTo vs b dip).pins = { s.pins with vs := vs } := State.raise_pins ..
theorem State.warnTo_mem (b : Bool) (dip : Option (Nat × Nat)) : (s.warnTo vs b dip).mem = s.mem := State.raise_mem ..

theorem State.vsWarning_warns (haw : s.awake = true) (hlow : vs < 1600) (hw : s.flag Adr.SYS_VSMON 16 = false)
    (hc : s.flag Adr.MBX_GSTAT 9 = false) (hr : s.gms.restarting = false) :
    s.vsWarning vs = ((s.warnTo vs true (some (s.now, vs))).setFlag Adr.MBX_GSTAT 9 true).setGms { s.gms with snap := some s.gms.bb } := by
  have hcond : (s.awake && decide (vs < 1600) && !s.flag Adr.SYS_VSMON 16) = true := by simp [haw, hlow, hw]
  have hbusy : (s.warnTo vs true (some (s.now, vs))).flag Adr.MBX_GSTAT 9 = false := ((State.warnTo_regsOn ..).flag (by decide) 9).trans hc
  have hshape : s.vsWarning vs = if (s.warnTo vs true (some (s.now, vs))).flag Adr.MBX_GSTAT 9 then s.warnTo vs true (some (s.now, vs))
    else (s.warnTo vs true (some (s.now, vs))).commitStart := if_pos hcond
  rw [hshape, hbusy, if_neg Bool.false_ne_true, State.commitStart_idle _ (by rw [State.warnTo_gms]; exact hr) hbusy, State.warnTo_gms]

theorem State.vsWarning_above (h : 1600 ≤ vs) : s.vsWarning vs = s.setVs vs := if_neg (by simp [h])

theorem vsWarning_dips {vs : BitVec 16} (haw : s.awake = true) (hlow : vs.toNat < 1600) (hw : s.flag Adr.SYS_VSMON 16 = false)
    (hc : s.flag Adr.MBX_GSTAT 9 = false) (hr : s.gms.restarting = false) :
    ∃ t, exec (.vsWarning vs) s = .next t ∧ t.flag Adr.SYS_VSMON 16 = true ∧ t.fld Adr.SYS_VSMON 15 0 = vs.toNat
      ∧ t.pins.vs = vs.toNat ∧ t.pwr.dip = some (s.now, vs.toNat) ∧ t.flag Adr.MBX_GSTAT 9 = true ∧ t.gms.snap = some s.gms.bb
      ∧ s.KeepsBut [Adr.SYS_VSMON, Adr.MBX_GSTAT, Adr.PEVT Pg.SYS] t := by
  let u := ((s.warnTo vs.toNat true (some (s.now, vs.toNat))).setFlag Adr.MBX_GSTAT 9 true).setGms { s.gms with snap := some s.gms.bb }
  have hu : s.vsWarning vs.toNat = u := State.vsWarning_warns haw hlow hw hc hr
  have hvsmon : State.RegsOn (· = Adr.SYS_VSMON) (s.warnTo vs.toNat true (some (s.now, vs.toNat))) u :=
    (State.setFlag_regsOn _ (by decide) 9 true).trans (State.setGms_regsOn _ _)
  have hframe : State.RegsOn (· ∉ [Adr.SYS_VSMON, Adr.MBX_GSTAT, Adr.PEVT Pg.SYS]) s u :=
    (((State.warnTo_regsOn ..).mono fun a => by simp +contextual).trans (State.setFlag_regsOn _ (by decide) 9 true)).trans (State.setGms_regsOn _ _)
  have hmem : u.mem = s.mem := State.warnTo_mem true (some (s.now, vs.toNat))
  obtain ⟨a, b, hgms⟩ := u.settle_gms
  refine ⟨u.settle, congrArg done hu, ?warn, ?shown, ?pins, ?dip, ?commit, ?snap, hframe.keepsBut hmem⟩
  case warn => rw [State.settle_flag _ (by decide), hvsmon.flag rfl, State.warnTo_warn]
  case shown => rw [State.settle_fld _ (by decide), hvsmon.fld rfl, State.warnTo_fld vs.isLt]
  case pins =>
    rw [State.settle_pins]
    exact congrArg Pins.vs (State.warnTo_pins true (some (s.now, vs.toNat)))
  case dip => rw [State.settle_pwr]; rfl
  case commit =>
    rw [State.settle_flag _ (by decide)]
    exact State.flag_setFlag_self _ _ _ (by decide)
  case snap => rw [hgms]; rfl

theorem vsWarning_shows {vs : BitVec 16} (h : 1600 ≤ vs.toNat) :
    ∃ t, exec (.vsWarning vs) s = .next t ∧ t.flag Adr.SYS_VSMON 16 = s.flag Adr.SYS_VSMON 16
      ∧ t.fld Adr.SYS_VSMON 15 0 = vs.toNat ∧ t.gms.snap = s.gms.snap ∧ s.KeepsBut [Adr.SYS_VSMON] t := by
  obtain ⟨a, b, hgms⟩ := (s.setVs vs.toNat).settle_gms
  refine ⟨(s.setVs vs.toNat).settle, congrArg done (State.vsWarning_above h), ?_, ?_, ?_,
    (s.setVs_regsOn vs.toNat (by decide)).keepsBut (s.setVs_mem _)⟩
  · rw [State.settle_flag _ (by decide), State.setVs_warn]
  · rw [State.settle_fld _ (by decide), State.setVs_fld _ _ vs.isLt]
  · rw [hgms]; rfl

end

/-! ### The end of the warning, and the overvoltage (R34, R63) -/

section
variable {s : State}

/-- The black box once a dip of this length and lowest voltage has ended: the dip among the last 32, and its entry in the log. -/
def State.dipLogged (s : State) (d : Dip) : BlackBox :=
  { s.gms.bb with
    log := s.gms.bb.log ++ [⟨s.now, 1, .dip, 0, s.gms.bb.starts % 65536, d.lowest % 65536⟩]
    dips := (s.gms.bb.dips ++ [d]).drop (s.gms.bb.dips.length + 1 - 32) }

theorem State.vsResume_ends {vs lowest t0 low : Nat} (haw : s.awake = true) (hhigh : 1700 < vs) (hw : s.flag Adr.SYS_VSMON 16 = true)
    (hdip : s.pwr.dip = some (t0, low)) (hlog : s.gms.bb.log.length < 8192) :
    s.vsResume vs lowest = (s.warnTo vs false none).setBb (s.dipLogged ⟨s.now - t0, min low lowest⟩) := by
  have hcond : (s.awake && decide (1700 < vs) && s.flag Adr.SYS_VSMON 16) = true := by simp [haw, hhigh, hw]
  have hgms : (((s.setVs vs).setFlag Adr.SYS_VSMON 16 false).raise Pg.SYS 4).gms = s.gms := State.raise_gms ..
  have hpwr : (((s.setVs vs).setFlag Adr.SYS_VSMON 16 false).raise Pg.SYS 4).pwr = s.pwr := State.raise_pwr ..
  unfold State.vsResume
  dsimp only
  rw [if_pos hcond, hdip, Option.getD_some, hpwr]
  unfold State.logKind State.logEntry
  rw [if_pos (by rw [State.setPwr_gms, hgms]; exact hlog)]
  rw [State.setPwr_gms, hgms]
  rfl

theorem vsResume_logs {vs lowest : BitVec 16} {t0 low : Nat} (haw : s.awake = true) (hhigh : 1700 < vs.toNat)
    (hw : s.flag Adr.SYS_VSMON 16 = true) (hdip : s.pwr.dip = some (t0, low)) (hlog : s.gms.bb.log.length < 8192) :
    ∃ t, exec (.vsResume vs lowest) s = .next t ∧ t.flag Adr.SYS_VSMON 16 = false
      ∧ t.fld Adr.SYS_VSMON 15 0 = vs.toNat ∧ t.pwr.dip = none
      ∧ t.gms.bb.dips.getLast? = some ⟨s.now - t0, min low lowest.toNat⟩ ∧ t.gms.bb.dips.length = min (s.gms.bb.dips.length + 1) 32
      ∧ t.gms.bb.log = s.gms.bb.log ++ [⟨s.now, 1, .dip, 0, s.gms.bb.starts % 65536, min low lowest.toNat % 65536⟩]
      ∧ s.KeepsBut [Adr.SYS_VSMON, Adr.PEVT Pg.SYS] t := by
  let u := (s.warnTo vs.toNat false none).setBb (s.dipLogged ⟨s.now - t0, min low lowest.toNat⟩)
  have hu : s.vsResume vs.toNat lowest.toNat = u := State.vsResume_ends haw hhigh hw hdip hlog
  have hframe : State.RegsOn (· ∉ [Adr.SYS_VSMON, Adr.PEVT Pg.SYS]) s u := (State.warnTo_regsOn ..).trans (State.setGms_regsOn _ _)
  obtain ⟨a, b, hgms⟩ := u.settle_gms
  have hbb : u.settle.gms.bb = s.dipLogged ⟨s.now - t0, min low lowest.toNat⟩ := by rw [hgms]; rfl
  refine ⟨u.settle, congrArg done hu, ?warn, ?shown, ?dip, ?last, ?count, ?log, hframe.keepsBut (State.warnTo_mem false none)⟩
  case warn =>
    rw [State.settle_flag _ (by decide)]
    exact State.warnTo_warn false none
  case shown =>
    rw [State.settle_fld _ (by decide)]
    exact State.warnTo_fld vs.isLt false none
  case dip => rw [State.settle_pwr]; rfl
  case last =>
    rw [hbb]
    unfold State.dipLogged
    rw [List.getLast?_drop, if_neg (by simp), List.getLast?_concat]
  case count =>
    rw [hbb]
    simp only [State.dipLogged, List.length_drop, List.length_append, List.length_singleton]
    omega
  case log => rw [hbb]; rfl

theorem vsOvervoltage_shows {vs : BitVec 16} (haw : s.awake = true) (hhigh : 3600 < vs.toNat) (hov : s.flag Adr.SYS_VSMON 17 = false)
    (hon : s.pageOn Pg.SYS = true) :
    ∃ t, exec (.vsOvervoltage vs) s = .next t ∧ t.flag Adr.SYS_VSMON 17 = true ∧ t.fld Adr.SYS_VSMON 15 0 = vs.toNat
      ∧ t.flag (Adr.PEVT Pg.SYS) 5 = true ∧ s.KeepsBut [Adr.SYS_VSMON, Adr.PEVT Pg.SYS] t := by
  let u := (s.setVs vs.toNat).raise Pg.SYS 5
  have hu : s.vsOvervoltage vs.toNat = u := if_pos (by simp [haw, hhigh, hov])
  have hreg : u.reg Adr.SYS_VSMON = (s.setVs vs.toNat).reg Adr.SYS_VSMON := State.raise_reg_ne _ _ _ (by decide)
  have hframe : State.RegsOn (· ∉ [Adr.SYS_VSMON, Adr.PEVT Pg.SYS]) s u :=
    (s.setVs_regsOn _ (by decide)).trans (State.raise_regsOn _ (by decide) 5)
  refine ⟨u.settle, congrArg done hu, ?high, ?shown, ?event, hframe.keepsBut (State.raise_mem ..)⟩
  case high =>
    rw [State.settle_flag _ (by decide), State.flag_eq, hreg, ← State.flag_eq, State.setVs_over]
    exact decide_eq_true hhigh
  case shown => rw [State.settle_fld _ (by decide), State.fld_eq, hreg, ← State.fld_eq, State.setVs_fld _ _ vs.isLt]
  case event =>
    rw [State.settle_flag _ (by decide)]
    exact State.raise_flag _ _ _ ((s.setVs_pageOn _ _).trans hon) (by decide)

end

end Sys2Proof.Machine
end

section
/-! SUPPORT. The supply reset and the hold-up (R61, R64, R65): what the supply reset stops, and what is left once the hold-up has run out. -/

namespace Sys2Proof.Machine

/-! ### A pair's reset (R61, R107) -/

section
variable {s t : State} {m : Nat}

theorem State.WithinM.pair (h : s.WithinM m t) (hm : m.testBit Part.pairs.idx = false) (n : Nat) : t.pair n = s.pair n :=
  congrArg (fun l => Store.get (fun _ => PairSt.reset) l n) (h.same .pairs hm)

theorem State.WithinM.core (h : s.WithinM m t) (hm : m.testBit Part.cores.idx = false) (c : Nat) : t.core c = s.core c :=
  congrArg (fun l => Store.get (fun _ => Core.reset) l c) (h.same .cores hm)

/-- The pair as its reset takes hold, before the pages it owns are made safe. -/
def State.pairDown (s : State) (n : Nat) : State :=
  let u := ((s.icxReset (mainCore n)).icxReset (checkCore n)).pairScope n
  u.putPair n { u.pair n with inReset := true }

/-- What follows a pair's reset are safe pages and fault bits: the kinds of state that `State.pageSafe` changes. -/
theorem State.pairReset_from_pairDown (n : Nat) (flt : Bool) : (s.pairDown n).WithinM 133341088006 (s.pairReset n flt) := by
  have hflag (u : State) (a i : Nat) : u.WithinM 133341088006 (u.setFlag a i true) := (State.setFlag_within ..).step (by decide) (.refl ..)
  refine State.each_within (fun u p => ?page) (State.when_within (fun u => hflag u _ _) (.refl ..))
  case page => exact State.when_within (fun v => hflag v _ _) (State.pageSafe_within u p)

theorem State.icxResets_within (n : Nat) : s.WithinM 6146 ((s.icxReset (mainCore n)).icxReset (checkCore n)) :=
  (State.icxReset_within ..).step (by decide) (State.icxReset_within ..)

theorem State.pairScope_pair (u : State) {n k : Nat} (h : k ≠ n) : (u.pairScope n).pair k = u.pair k := by
  show State.pair (State.putPair _ n _) k = u.pair k
  rw [State.pair_putPair, if_neg h, (State.domMemory_within _ (3 + n)).pair (by decide)]
  rfl

theorem State.pairScope_core (u : State) (n c : Nat) :
    (u.pairScope n).core c = if c = checkCore n ∨ c = mainCore n then Core.reset else u.core c := by
  show State.core (State.domMemory ((u.putCore (mainCore n) Core.reset).putCore (checkCore n) Core.reset) (3 + n)) c = _
  rw [(State.domMemory_within _ (3 + n)).core (by decide), State.core_putCore, State.core_putCore]
  split_ifs <;> tauto

theorem State.pairReset_inReset (n : Nat) (flt : Bool) : ((s.pairReset n flt).pair n).inReset = true := by
  rw [(State.pairReset_from_pairDown n flt).pair (by decide)]
  unfold State.pairDown
  rw [State.pair_putPair_self]

theorem State.pairReset_pair (flt : Bool) {n k : Nat} (h : k ≠ n) : (s.pairReset n flt).pair k = s.pair k := by
  rw [(State.pairReset_from_pairDown n flt).pair (by decide)]
  unfold State.pairDown
  dsimp only
  rw [State.pair_putPair, if_neg h, State.pairScope_pair _ h, (State.icxResets_within n).pair (by decide)]

theorem State.pairReset_core (n : Nat) (flt : Bool) (c : Nat) :
    (s.pairReset n flt).core c = if c = checkCore n ∨ c = mainCore n then Core.reset else s.core c := by
  rw [(State.pairReset_from_pairDown n flt).core (by decide)]
  show (State.pairScope ((s.icxReset (mainCore n)).icxReset (checkCore n)) n).core c = _
  rw [State.pairScope_core, (State.icxResets_within n).core (by decide)]

end

/-! ### What the supply reset stops (R64) -/

section
variable {s : State} {vs : Nat}

/-- Both pairs reset, the trim engines stopped, the contactors open, and the domains off that the hold-up does without. -/
def State.stopAll (s : State) : State :=
  ((((s.pairReset 0 false).pairReset 1 false).trimStopAll).ctrDrop 0).each [11, 8, 7, 4, 3] State.domainOff

/-- After the pairs' resets neither a pair nor a core changes: the mask, that of `State.domainOff`, leaves out pairs, cores, power and GMS. -/
theorem State.stopAll_from_resets : ((s.pairReset 0 false).pairReset 1 false).WithinM 1099511598342 s.stopAll :=
  State.each_within (fun u d => u.domainOff_within d)
    ((State.ctrDrop_within ..).step (by decide) ((State.trimStopAll_within _).step (by decide) (.refl ..)))

/-- Altogether neither power nor GMS changes. -/
theorem State.stopAll_within : s.WithinM 1099511627078 s.stopAll :=
  State.stopAll_from_resets.step (by decide) ((State.pairReset_within ..).step (by decide) ((State.pairReset_within ..).step (by decide) (.refl ..)))

theorem State.stopAll_inReset (n : Fin 2) : (s.stopAll.pair n).inReset = true := by
  rw [State.stopAll_from_resets.pair (by decide)]
  fin_cases n
  · show (State.pair (State.pairReset _ 1 false) 0).inReset = true
    rw [State.pairReset_pair _ (by decide), State.pairReset_inReset]
  · exact State.pairReset_inReset 1 false

theorem State.stopAll_core (c : Fin 4) : s.stopAll.core c = Core.reset := by
  rw [State.stopAll_from_resets.core (by decide), State.pairReset_core, State.pairReset_core]
  fin_cases c <;> rfl

/-- VSMON, the lost supply on Shroud's wire, and SF1 on every group. -/
def State.supplyLost (s : State) (vs : Nat) : State :=
  let t := s.setVs vs
  (t.setShroud { t.shroud with supply := true }).shroudAll 11

/-- The black box keeps the converter's cause. -/
def State.noteConverter (s : State) : State := s.setBb { s.gms.bb with dcdcCause := s.fld Adr.DCDC_CAUSE 7 0 }

/-- The hold-up as it begins, before its commit. -/
def State.heldUp (s : State) : State :=
  let t := (s.setPwr { s.pwr with phase := .holdup, switching := [] }).setFlag Adr.SYS_RSTCAUSE 1 true
  t.setGms { t.gms with after := .nothing, doors := [] }

theorem State.noteConverter_restarting : s.noteConverter.gms.restarting = s.gms.restarting := rfl

theorem State.supplyLost_gms : (s.supplyLost vs).gms = s.gms := (State.shroudAll_within ..).same .gms (by decide)

theorem State.supplyReset_holds (hlow : vs < 800) (hrun : s.pwr.phase = .run) :
    s.supplyReset vs = if (s.supplyLost vs).noteConverter.stopAll.heldUp.flag Adr.MBX_GSTAT 9 then
      (s.supplyLost vs).noteConverter.stopAll.heldUp else (s.supplyLost vs).noteConverter.stopAll.heldUp.commitStart := by
  have hcond : (decide (vs < 800) && (s.pwr.phase == .run || s.pwr.phase == .recovery || s.pwr.phase == .halted)) = true := by
    simp [hlow, hrun]
  unfold State.supplyReset
  extract_lets _ _ u1 _ u2 _ u4 _ _ _ u6
  rw [if_pos hcond]
  have hlost : u1 = s.supplyLost vs := rfl
  clear_value u1
  have hnoted : u2 = u1.noteConverter := rfl
  clear_value u2
  have hstopped : u4 = u2.stopAll := rfl
  clear_value u4
  have hheld : u6 = u4.heldUp := rfl
  rw [hheld, hstopped, hnoted, hlost]

/-- What the command answers once the hold-up has begun: its commit runs, and the pairs and cores are as the resets left them. -/
theorem State.heldUp_answer {u v : State} (hv : v = if u.heldUp.flag Adr.MBX_GSTAT 9 then u.heldUp else u.heldUp.commitStart) :
    v.settle.pwr.phase = .holdup ∧ v.settle.pwr.switching = [] ∧ v.settle.flag Adr.SYS_RSTCAUSE 1 = true
      ∧ (u.gms.restarting = false → v.settle.flag Adr.MBX_GSTAT 9 = true)
      ∧ (∀ n, v.settle.pair n = u.pair n) ∧ (∀ c, v.settle.core c = u.core c) := by
  have hcommit : u.heldUp.WithinM 130 v := by
    rw [hv]
    exact State.WithinM.ite (fun _ => .refl ..) fun _ => u.heldUp.commitStart_within
  have hcause : State.RegsOn (· = Adr.SYS_RSTCAUSE) u.heldUp v := by
    rw [hv]
    split
    · exact .refl
    · exact u.heldUp.commitStart_regsOn (by decide)
  have hwithin : u.heldUp.WithinM 137438953602 v.settle := v.settle_within.step (by decide) (hcommit.step (by decide) (.refl ..))
  have hpwr : v.settle.pwr = { u.pwr with phase := .holdup, switching := [] } := hwithin.same .pwr (by decide)
  refine ⟨congrArg Power.phase hpwr, congrArg Power.switching hpwr, ?cause, ?commit, hwithin.pair (by decide), hwithin.core (by decide)⟩
  case cause =>
    rw [State.settle_flag _ (by decide), hcause.flag rfl]
    exact State.flag_setFlag_self _ _ _ (by decide)
  case commit =>
    intro hr
    rw [State.settle_flag _ (by decide), hv]
    split
    next hbusy => exact hbusy
    next => exact u.heldUp.commitStart_running hr

theorem supplyReset_holdsUp {vs : BitVec 16} (hlow : vs.toNat < 800) (hrun : s.pwr.phase = .run) :
    ∃ t, exec (.supplyReset vs) s = .next t ∧ t.pwr.phase = .holdup
      ∧ t.pwr.switching = [] ∧ t.flag Adr.SYS_RSTCAUSE 1 = true ∧ (s.gms.restarting = false → t.flag Adr.MBX_GSTAT 9 = true)
      ∧ (∀ n : Fin 2, (t.pair n).inReset = true) ∧ (∀ c : Fin 4, t.core c = Core.reset) := by
  obtain ⟨hphase, hswitching, hcause, hcommit, hpair, hcore⟩ := State.heldUp_answer (State.supplyReset_holds hlow hrun)
  have hgms : (s.supplyLost vs.toNat).noteConverter.stopAll.gms = (s.supplyLost vs.toNat).noteConverter.gms :=
    State.stopAll_within.same .gms (by decide)
  refine ⟨(s.supplyReset vs.toNat).settle, rfl, hphase, hswitching, hcause, fun hr => hcommit ?_, fun n => ?_, fun c => ?_⟩
  · rw [hgms, State.noteConverter_restarting, State.supplyLost_gms, hr]
  · rw [hpair, State.stopAll_inReset]
  · rw [hcore, State.stopAll_core]

end

/-! ### The end of the hold-up (R61, R65) -/

section
variable (s : State)

/-- A reset leaves the Masthead's registers and takes every other one to its reset value. -/
theorem State.resetImage_reg (ph : Phase) (keepB : Bool) (a : Nat) :
    (s.resetImage ph keepB).reg a = if mastReg a then s.reg a else regDefault a := by
  refine (Store.get_clear regDefault (fun a => !mastReg a) s.regs a).trans ?_
  cases mastReg a <;> rfl

/-- A reset leaves the MRAM and the OTP and clears every other byte. -/
theorem State.resetImage_byte (ph : Phase) (keepB : Bool) (a : Nat) :
    (s.resetImage ph keepB).byte a = if a < 0x10000000 ∨ 0x12000000 ≤ a then 0#8 else s.byte a := by
  refine (Store.get_clear (fun _ => 0#8) (fun a => decide (a < 0x10000000) || decide (0x12000000 ≤ a)) s.mem a).trans ?_
  simp only [Bool.or_eq_true, decide_eq_true_eq]
  rfl

theorem State.settle_byte (a : Nat) : s.settle.byte a = s.byte a := State.byte_congr s.settle_mem a

theorem State.holdupExhausted_kept (hph : s.pwr.phase = .holdup) (hc : s.flag Adr.MBX_GSTAT 9 = false) :
    s.holdupExhausted false = s.resetImage .dark false := by
  unfold State.holdupExhausted
  rw [if_pos hph, hc]
  rfl

theorem holdup_ends (hph : s.pwr.phase = .holdup) (hc : s.flag Adr.MBX_GSTAT 9 = false) :
    ∃ t, exec (.holdupExhausted false) s = .next t ∧ t.pwr.phase = .dark
      ∧ (∀ a, mastReg a = true → irqReg a = false → t.reg a = s.reg a)
      ∧ (∀ a, mastReg a = false → irqReg a = false → t.reg a = regDefault a)
      ∧ t.kept = s.kept ∧ (∀ a, 0x10000000 ≤ a → a < 0x12000000 → t.byte a = s.byte a)
      ∧ (∀ a, a < 0x10000000 ∨ 0x12000000 ≤ a → t.byte a = 0#8) ∧ t.cores = [] ∧ t.rings = [] ∧ t.router = Router.reset := by
  let u := s.resetImage .dark false
  refine ⟨u.settle, congrArg done (s.holdupExhausted_kept hph hc), ?phase, ?masthead, ?others, ?kept, ?mram, ?cleared, ?cores, ?rings, ?router⟩
  case phase => rw [State.settle_pwr]; rfl
  case masthead =>
    intro a hm hi
    rw [State.settle_reg _ hi, State.resetImage_reg, if_pos hm]
  case others =>
    intro a hm hi
    rw [State.settle_reg _ hi, State.resetImage_reg, hm, if_neg Bool.false_ne_true]
  case kept => rw [State.settle_kept]; rfl
  case mram =>
    intro a hlo hhi
    rw [State.settle_byte, State.resetImage_byte, if_neg (by omega)]
  case cleared =>
    intro a h
    rw [State.settle_byte, State.resetImage_byte, if_pos h]
  case cores => rw [State.settle_cores]; rfl
  case rings => rw [State.settle_rings]; rfl
  case router => rw [State.settle_router]; rfl

/-! ### The Masthead lost (R51, R61) -/

/-- Without the Masthead every register but RSTCAUSE is at its reset value. -/
theorem State.mastheadLost_reg {a : Nat} (h : a ≠ Adr.SYS_RSTCAUSE) : s.mastheadLost.reg a = regDefault a := by
  unfold State.mastheadLost
  rw [State.setPwr_reg, State.reg_setReg_ne _ _ h]
  rfl

theorem State.mastheadLost_cause : s.mastheadLost.flag Adr.SYS_RSTCAUSE 9 = true := by
  have h : s.mastheadLost.reg Adr.SYS_RSTCAUSE = oneBit 9 ||| (s.reg Adr.SYS_RSTCAUSE &&& 2#32) := by
    unfold State.mastheadLost
    rw [State.setPwr_reg, State.reg_setReg_self]
  rw [State.flag_eq, h, bit_or, bit_oneBit]
  rfl

/-- The Masthead is lost with the end of the hold-up, or later in the dark. -/
theorem State.holdupExhausted_lost (h : s.pwr.phase = .holdup ∨ s.pwr.phase = .dark) :
    ∃ u : State, s.holdupExhausted true = u.mastheadLost ∧ u.pwr.phase = .dark := by
  unfold State.holdupExhausted
  rcases h with hph | hph
  · rw [if_pos hph]
    exact ⟨_, rfl, rfl⟩
  · rw [if_neg (by rw [hph]; decide), hph]
    exact ⟨s, rfl, hph⟩

theorem masthead_lost (h : s.pwr.phase = .holdup ∨ s.pwr.phase = .dark) :
    ∃ t, exec (.holdupExhausted true) s = .next t ∧ t.pwr.phase = .dark
      ∧ t.flag Adr.SYS_RSTCAUSE 9 = true ∧ t.reg Adr.SYS_RTC = 0#32 ∧ (∀ k : Fin 16, t.reg (Adr.SYS_RETAIN k) = 0#32)
      ∧ t.reg Adr.SYS_WAKEEN = 1#32 ∧ t.pwr.savedReq = 7#32 := by
  obtain ⟨u, hu, hdark⟩ := s.holdupExhausted_lost h
  have hreset : ∀ a, irqReg a = false → a ≠ Adr.SYS_RSTCAUSE → u.mastheadLost.settle.reg a = regDefault a := fun a hi ha => by
    rw [State.settle_reg _ hi, State.mastheadLost_reg _ ha]
  have hretain : ∀ k : Fin 16, irqReg (Adr.SYS_RETAIN k) = false ∧ Adr.SYS_RETAIN k ≠ Adr.SYS_RSTCAUSE
      ∧ regDefault (Adr.SYS_RETAIN k) = 0#32 := by decide
  refine ⟨u.mastheadLost.settle, congrArg done hu, ?phase, ?cause, ?rtc, ?retain, ?wakeen, ?saved⟩
  case phase => rw [State.settle_pwr]; exact hdark
  case cause => rw [State.settle_flag _ (by decide), State.mastheadLost_cause]
  case rtc => exact (hreset _ (by decide) (by decide)).trans (by decide)
  case retain =>
    intro k
    obtain ⟨hi, hne, hzero⟩ := hretain k
    exact (hreset _ hi hne).trans hzero
  case wakeen => exact (hreset _ (by decide) (by decide)).trans (by decide)
  case saved => rw [State.settle_pwr]; rfl

end

end Sys2Proof.Machine
end

section
/-! SUPPORT. SF1 on every group (R145, R153, R165): which decisions Shroud's channels hold after it, and that neither it nor what stops with it writes
a register of the SYS page. -/

namespace Sys2Proof.Machine

/-! ### One index after another -/

/-- What f brings about for an index, and keeps for every other, holds for each index of a list once f has been done for all of them. -/
theorem State.each_reaches {f : State → Nat → State} {Q : Nat → State → Prop} (hset : ∀ t k, Q k (f t k))
    (hkeep : ∀ t j k, Q k t → Q k (f t j)) {l : List Nat} {k : Nat} (hk : k ∈ l) (s : State) : Q k (s.each l f) := by
  have hstays : ∀ (l : List Nat) (t : State), Q k t → Q k (t.each l f) := fun l => by
    induction l with
    | nil => exact fun t h => h
    | cons j l ih => exact fun t h => ih (f t j) (hkeep t j k h)
  induction l generalizing s with
  | nil => exact absurd hk (by simp)
  | cons j l ih =>
    rcases List.mem_cons.mp hk with rfl | hin
    · exact hstays l _ (hset s k)
    · exact ih hin (f s j)

/-! ### What the channels decide -/

/-- Both channels, and the failed clock on Shroud's wire, are in t as in s. -/
structure State.SameChannels (s t : State) : Prop where
  a : t.shroud.a = s.shroud.a
  b : t.shroud.b = s.shroud.b
  clock : t.shroud.clock = s.shroud.clock

section
variable {s t u : State} {m : Nat}

theorem State.SameChannels.refl : State.SameChannels s s := ⟨rfl, rfl, rfl⟩

theorem State.SameChannels.trans (h : State.SameChannels s t) (k : State.SameChannels t u) : State.SameChannels s u :=
  ⟨k.a.trans h.a, k.b.trans h.b, k.clock.trans h.clock⟩

theorem State.SameChannels.of_shroud (h : t.shroud = s.shroud) : State.SameChannels s t := by
  constructor <;> rw [h]

/-- An operation outside Shroud leaves its channels alone. -/
theorem State.WithinM.sameChannels (h : s.WithinM m t) (hm : m.testBit Part.shroud.idx = false) : State.SameChannels s t :=
  .of_shroud (h.same .shroud hm)

theorem State.SameChannels.past (h : State.SameChannels s t) (k : t.WithinM m u) (hm : m.testBit Part.shroud.idx = false) :
    State.SameChannels s u := h.trans (k.sameChannels hm)

theorem State.SameChannels.each {f : State → Nat → State} (h : ∀ t k, State.SameChannels t (f t k)) (l : List Nat) (s : State) :
    State.SameChannels s (s.each l f) := by
  unfold State.each
  induction l generalizing s with
  | nil => exact .refl
  | cons k l ih => exact (h s k).trans (ih (f s k))

theorem State.SameChannels.ite {c : Prop} {_ : Decidable c} (h : State.SameChannels s t) (k : State.SameChannels s u) :
    State.SameChannels s (if c then t else u) := by
  split
  · exact h
  · exact k

theorem State.SameChannels.when {f : State → State} (h : ∀ t, State.SameChannels t (f t)) (b : Bool) (s : State) :
    State.SameChannels s (s.when b f) := (h s).ite .refl

variable (s)

theorem State.cutGroup_sameChannels (g : Nat) (cut : Bool) : State.SameChannels s (s.cutGroup g cut) := by
  have hset : State.SameChannels s (s.setShroud { s.shroud with cut := setBit s.shroud.cut g cut }) := ⟨rfl, rfl, rfl⟩
  exact .ite .refl (.ite (hset.trans ((State.groupSupply_within ..).sameChannels rfl)) hset)

theorem State.restoreGroup_sameChannels (g : Nat) : State.SameChannels s (s.restoreGroup g) := (s.cutGroup_sameChannels g false).ite .refl

theorem State.shroudLines_sameChannels : State.SameChannels s s.shroudLines := ⟨rfl, rfl, rfl⟩

theorem State.obcEnter_sameChannels (st : Nat) : State.SameChannels s (s.obcEnter st) := by
  have hgate (u : State) : State.SameChannels u u.obcGate := (State.obcGate_within u).sameChannels rfl
  have hwire (u : State) : State.SameChannels u u.pilotWire := ⟨rfl, rfl, rfl⟩
  have hlamps (u : State) : State.SameChannels u u.pilotS2.lampRefresh :=
    ((State.pilotS2_within u).sameChannels rfl).past (State.lampRefresh_within _) rfl
  refine State.SameChannels.trans ?_ (((hgate _).trans (hwire _)).trans (hlamps _))
  exact .ite .refl (((State.setFld_within ..).sameChannels rfl).past (State.raise_within ..) rfl)

theorem State.obcEnd_sameChannels (cause : Nat) : State.SameChannels s (s.obcEnd cause) := by
  refine .ite .refl (State.SameChannels.trans ?_ (.when (fun u => (State.raise_within ..).sameChannels rfl) _ _))
  refine State.SameChannels.trans ?_ (State.obcEnter_sameChannels _ 6)
  exact .of_shroud rfl

theorem State.obcShroud_sameChannels : State.SameChannels s s.obcShroud := .ite .refl (s.obcEnd_sameChannels 6)

/-- A group's path A takes a selection. -/
theorem State.pathTaken_sameChannels (g : Nat) (sel : Gst) :
    State.SameChannels s ((s.putGroup g { s.group g with pathA := sel }).restoreGroup g) := by
  refine State.SameChannels.trans ?_ (State.restoreGroup_sameChannels _ g)
  exact .of_shroud rfl

theorem State.pathAll_sameChannels : State.SameChannels s s.pathAll := by
  unfold State.pathAll
  extract_lets u
  have hpaths : State.SameChannels s u := .each (fun t g =>
    (State.SameChannels.when (fun u => (State.raise_within ..).sameChannels rfl) _ t).trans (State.pathTaken_sameChannels _ g _)) _ s
  exact (((hpaths.past (State.refreshGroups_within _) rfl).past (State.refreshSrd_within _) rfl).past (State.dcdcShroud_within _) rfl).trans
    (State.obcShroud_sameChannels _)

/-! ### Trim engines stop (R183): their status wires are all that Shroud sees of it -/

theorem State.reportStatus_sameChannels (c : Nat) (st : CtxStatus) : State.SameChannels s (s.reportStatus c st) := by
  cases st <;> exact ⟨rfl, rfl, rfl⟩

theorem State.ctxReport_sameChannels (n i : Nat) (st : CtxStatus) : State.SameChannels s (s.ctxReport n i st) :=
  (s.reportStatus_sameChannels _ st).ite .refl

theorem State.dropPending_sameChannels (n i : Nat) : State.SameChannels s (s.dropPending n i) := by
  refine .ite ?_ .refl
  exact (((State.setFlag_within ..).sameChannels rfl).trans (State.ctxReport_sameChannels _ n i .overrun)).past (State.estat_within ..) rfl

theorem State.engineStop_sameChannels (n : Nat) : State.SameChannels s (s.engineStop n) := by
  have hslot (t : State) (i : Nat) : State.SameChannels t (((t.dropPending n i).ctxOff n i).tuneAbortSlot n i) :=
    ((t.dropPending_sameChannels n i).past (State.ctxOff_within ..) rfl).past (State.tuneAbortSlot_within ..) rfl
  refine State.SameChannels.trans ?_ (.each hslot _ _)
  split
  next r _ => exact ((State.runOver_within ..).sameChannels rfl).trans (State.ctxReport_sameChannels _ n r.slot .overrun)
  next => exact .refl

theorem State.trimStopAll_sameChannels : State.SameChannels s s.trimStopAll := .each (fun t n => t.engineStop_sameChannels n) _ s

end

/-! ### SF1 on every group (R145, R153) -/

section
variable {s t : State}

/-- SF1 acts on group g in both channels. -/
def State.Sf1 (s : State) (g : Nat) : Prop := (s.shroud.a.dec g).fns.testBit 0 = true ∧ (s.shroud.b.dec g).fns.testBit 0 = true

theorem State.SameChannels.sf1 {g : Nat} (h : State.SameChannels s t) (k : s.Sf1 g) : t.Sf1 g := by
  unfold State.Sf1
  rw [h.a, h.b]
  exact k

theorem Channel.dec_putDec (c : Channel) (g : Nat) (d : GroupDec) (j : Nat) : (c.putDec g d).dec j = if j = g then d else c.dec j :=
  Store.get_put _ c.groups g j d

/-- A channel with SF1 added to a group's functions. -/
def Channel.addSf1 (c : Channel) (g : Nat) : Channel := c.putDec g { c.dec g with fns := (c.dec g).fns ||| 1, ss1 := none }

theorem Channel.addSf1_self (c : Channel) (g : Nat) : ((c.addSf1 g).dec g).fns.testBit 0 = true := by
  unfold Channel.addSf1
  rw [Channel.dec_putDec, if_pos rfl, Nat.testBit_or]
  simp

theorem Channel.addSf1_mono (c : Channel) (g : Nat) {j : Nat} (h : (c.dec j).fns.testBit 0 = true) : ((c.addSf1 g).dec j).fns.testBit 0 = true := by
  by_cases hj : j = g
  · rw [hj]
    exact c.addSf1_self g
  · unfold Channel.addSf1
    rw [Channel.dec_putDec, if_neg hj]
    exact h

/-- Where SF1 does not act in both channels yet, both take it up; where it does, nothing changes. -/
theorem State.forceSf1_shroud (g cause : Nat) : (s.Sf1 g ∧ s.forceSf1 g cause = s)
    ∨ (s.forceSf1 g cause).shroud = { s.shroud with a := s.shroud.a.addSf1 g, b := s.shroud.b.addSf1 g } := by
  unfold State.forceSf1
  extract_lets put u
  split
  next h => exact .inl ⟨Bool.and_eq_true_iff.mp h, rfl⟩
  next =>
    have hu : u.shroud = s.shroud :=
      (State.raise_shroud ..).trans ((State.when_within (m := 2) (fun t => State.setReg_within ..) (.refl ..)).same .shroud (by decide))
    refine .inr ?_
    show ({ u.shroud with a := put u.shroud.a, b := put u.shroud.b } : Shroud) = _
    rw [hu]
    rfl

theorem State.forceSf1_self (g cause : Nat) : (s.forceSf1 g cause).Sf1 g := by
  rcases s.forceSf1_shroud g cause with ⟨hsf1, hsame⟩ | hadd
  · rw [hsame]
    exact hsf1
  · unfold State.Sf1
    rw [hadd]
    exact ⟨Channel.addSf1_self _ g, Channel.addSf1_self _ g⟩

theorem State.forceSf1_mono (g cause : Nat) {j : Nat} (h : s.Sf1 j) : (s.forceSf1 g cause).Sf1 j := by
  rcases s.forceSf1_shroud g cause with ⟨-, hsame⟩ | hadd
  · rw [hsame]
    exact h
  · unfold State.Sf1
    rw [hadd]
    exact ⟨Channel.addSf1_mono _ g h.1, Channel.addSf1_mono _ g h.2⟩

theorem State.forceSf1_clock (g cause : Nat) : (s.forceSf1 g cause).shroud.clock = s.shroud.clock := by
  rcases s.forceSf1_shroud g cause with ⟨-, hsame⟩ | hadd
  · rw [hsame]
  · rw [hadd]

/-- A channel whose selections of some groups are made again, by a rule. -/
def Channel.selectAgain (rule : Channel → Nat → Gst) (c : Channel) (l : List Nat) : Channel :=
  l.foldl (fun k g => k.putDec g { k.dec g with gst := rule k g }) c

/-- A selection changes no function. -/
theorem Channel.selectAgain_fns (rule : Channel → Nat → Gst) (c : Channel) (l : List Nat) (j : Nat) :
    ((c.selectAgain rule l).dec j).fns = (c.dec j).fns := by
  unfold Channel.selectAgain
  induction l generalizing c with
  | nil => rfl
  | cons g l ih =>
    rw [List.foldl_cons, ih, Channel.dec_putDec]
    split
    next h => rw [h]
    next => rfl

theorem State.reselect_sf1 {g : Nat} (h : s.Sf1 g) : s.reselect.Sf1 g := by
  unfold State.reselect
  extract_lets pick
  have hfns (b : Bool) (c : Channel) : ((pick b c).dec g).fns = (c.dec g).fns := Channel.selectAgain_fns _ c _ g
  have hpicked : (s.setShroud { s.shroud with a := pick false s.shroud.a, b := pick true s.shroud.b }).Sf1 g :=
    ⟨(congrArg (Nat.testBit · 0) (hfns false _)).trans h.1, (congrArg (Nat.testBit · 0) (hfns true _)).trans h.2⟩
  exact (((State.shroudLines_sameChannels _).trans (State.pathAll_sameChannels _)).past (State.shroudShow_within _) rfl).sf1 hpicked

theorem State.reselect_clock : s.reselect.shroud.clock = s.shroud.clock := by
  unfold State.reselect
  extract_lets pick
  exact (((State.shroudLines_sameChannels _).trans (State.pathAll_sameChannels _)).past (State.shroudShow_within _) rfl).clock

theorem State.shroudAll_sf1 (cause : Nat) {g : Nat} (h : g < 6) : (s.shroudAll cause).Sf1 g :=
  State.reselect_sf1 (State.each_reaches (Q := fun g t => t.Sf1 g) (fun t k => t.forceSf1_self k cause) (fun t j _ h => t.forceSf1_mono j cause h)
    (List.mem_range.mpr h) s)

theorem State.shroudAll_clock (cause : Nat) : (s.shroudAll cause).shroud.clock = s.shroud.clock := by
  unfold State.shroudAll
  rw [State.reselect_clock]
  refine List.foldlRecOn (motive := fun u : State => u.shroud.clock = s.shroud.clock) _ _ rfl fun u h g _ => ?_
  rw [State.forceSf1_clock, h]

end

end Sys2Proof.Machine
end

section
/-! SUPPORT. Registers that a loss of the supply or of a clock leaves alone: the SYS page under SF1 and with the trim engines stopped, and every
page but its own when a ring stops. -/

namespace Sys2Proof.Machine

/-! ### Gates, converter and charger under SF1 (R155, R321, R340) -/

/-- A register of the SYS page. -/
abbrev SysReg (a : Nat) : Prop := a < 0x1000

section
variable (s : State)

theorem cstat_not_sys (ch : Nat) : ¬ SysReg (cstat ch) := by
  have hge := cstat_ge ch
  unfold SysReg
  omega

theorem gstat_not_sys (ch : Nat) : ¬ SysReg (Adr.GGRP_GSTAT (groupOf ch)) := by unfold SysReg Adr.GGRP_GSTAT; omega

theorem State.islandSupply_sys (ch : Nat) (up : Bool) : State.RegsOn SysReg s (s.islandSupply ch up) := by
  have hC := cstat_not_sys
  unfold State.islandSupply
  extract_lets kind c u
  have hu : State.RegsOn SysReg s u := (s.setReg_regsOn (hC ch) _).trans (State.putChan_regsOn ..)
  split
  · exact ((hu.trans (State.setFlag_regsOn _ (hC ch) ..)).trans (State.setFlag_regsOn _ (hC ch) ..)).trans (State.settleGate_regsOn hC _ ch)
  · exact hu

theorem State.cutGroup_sys (g : Nat) (cut : Bool) : State.RegsOn SysReg s (s.cutGroup g cut) := by
  unfold State.cutGroup
  split
  · exact .refl
  extract_lets _ t
  have ht : State.RegsOn SysReg s t := s.setShroud_regsOn _
  split
  · exact ht.trans (t.each_regsOn fun u ch _ => u.islandSupply_sys ch _)
  · exact ht

theorem State.restoreGroup_sys (g : Nat) : State.RegsOn SysReg s (s.restoreGroup g) := by
  unfold State.restoreGroup
  split
  · exact s.cutGroup_sys g false
  · exact .refl

theorem State.dcdcPhases_sys (act : Nat) : State.RegsOn SysReg s (s.dcdcPhases act false) := by
  refine (s.setFld_regsOn (by decide) 19 16 act).trans (State.each_regsOn _ fun t k _ => ?_)
  split
  · exact .refl
  · exact t.setReg_regsOn (by unfold SysReg Adr.DCDC_TRIM; omega) _

theorem State.putSetp_sys (c j : Nat) (v : Word) : State.RegsOn SysReg s (s.putSetp c j v) := by
  have hset := s.setReg_regsOn (P := SysReg) (a := Adr.TRIM_SETP0 (c / 8) (c % 8) + 4 * j) (by unfold SysReg Adr.TRIM_SETP0; omega) v
  unfold State.putSetp
  extract_lets t
  split
  · exact hset.trans (State.setFlag_regsOn _ (by unfold SysReg Adr.TRIM_CSTAT; omega) ..)
  · exact hset

theorem State.dcdcEnter_sys (st : Nat) : State.RegsOn SysReg s (s.dcdcEnter st) := by
  unfold State.dcdcEnter
  split
  · exact .refl
  · exact (s.setFld_regsOn (by decide) 2 0 st).trans (State.raise_regsOn _ (by decide) 0)

theorem State.dcdcShroud_sys : State.RegsOn SysReg s s.dcdcShroud := by
  have hgated (u : State) (a b : Nat) : State.RegsOn SysReg u ((u.gateUnit a 15).gateUnit b 15) := .of_regs rfl
  have hhalt : State.RegsOn SysReg s (s.dcdcHalt 0) :=
    (((s.dcdcPhases_sys 0).trans (hgated ..)).trans (State.putSetp_sys ..)).trans (State.dcdcEnter_sys _ 0)
  unfold State.dcdcShroud State.dcdcTrip
  split
  · exact .refl
  split
  · exact (hhalt.trans (State.setReg_regsOn _ (by decide) _)).trans (State.raise_regsOn _ (by decide) 3)
  · exact .refl

theorem State.obcEnter_sys (st : Nat) : State.RegsOn SysReg s (s.obcEnter st) := by
  have hgate (u : State) : State.RegsOn SysReg u u.obcGate := .of_regs ((State.obcGate_within u).same .regs rfl)
  have hwire (u : State) : State.RegsOn SysReg u u.pilotWire := (u.setFlag_regsOn (by decide) 13 _).trans (State.setShroud_regsOn _ _)
  have hlamps (u : State) : State.RegsOn SysReg u u.pilotS2.lampRefresh :=
    (u.setFlag_regsOn (by decide) 12 _).trans (.of_regs ((State.lampRefresh_within _).same .regs rfl))
  unfold State.obcEnter
  extract_lets t
  have ht : State.RegsOn SysReg s t := by
    unfold t
    split
    · exact .refl
    · exact (s.setFld_regsOn (by decide) 2 0 st).trans (State.raise_regsOn _ (by decide) 0)
  exact ((ht.trans (hgate _)).trans (hwire _)).trans (hlamps _)

theorem State.obcShroud_sys : State.RegsOn SysReg s s.obcShroud := by
  unfold State.obcShroud State.obcEnd
  split
  · exact .refl
  split
  · exact .refl
  extract_lets fast o o1 t
  have ht : State.RegsOn SysReg s t :=
    ((State.RegsOn.of_regs (State.setObc_regs ..)).trans (State.setFlag_regsOn _ (by decide) 14 false)).trans (State.setReg_regsOn _ (by decide) _)
  exact (ht.trans (t.obcEnter_sys 6)).trans (State.when_regsOn _ (fun u => u.raise_regsOn (by decide) 3) _)

/-! ### Shroud's paths (R155) -/

theorem State.pathAll_sys : State.RegsOn SysReg s s.pathAll := by
  unfold State.pathAll
  extract_lets t
  have ht : State.RegsOn SysReg s t := by
    refine s.each_regsOn fun u g _ => ?_
    exact ((State.when_regsOn _ (fun v => v.raise_regsOn (by decide) 4) _).trans (.of_regs (State.putGroup_regs ..))).trans
      (State.restoreGroup_sys _ g)
  exact (((ht.trans (State.refreshGroups_regsOn cstat_not_sys gstat_not_sys _)).trans (.of_regs (State.refreshSrd_regs _))).trans
    (State.dcdcShroud_sys _)).trans (State.obcShroud_sys _)

theorem State.reselect_sys : State.RegsOn SysReg s s.reselect := by
  have hlines (u : State) : State.RegsOn SysReg u u.shroudLines := .of_regs rfl
  have hshow (u : State) : State.RegsOn SysReg u u.shroudShow :=
    (u.setReg_regsOn (by decide) _).trans (State.setReg_regsOn _ (by decide) _)
  exact (((s.setShroud_regsOn _).trans (hlines _)).trans (State.pathAll_sys _)).trans (hshow _)

theorem State.forceSf1_sys (g cause : Nat) : State.RegsOn SysReg s (s.forceSf1 g cause) := by
  unfold State.forceSf1
  extract_lets put t
  split
  · exact .refl
  · exact ((s.when_regsOn (fun u => u.setReg_regsOn (by unfold SysReg Adr.SHRD_GCAUSE; omega) _) _).trans (State.raise_regsOn _ (by decide) 0)).trans
      (State.setShroud_regsOn _ _)

theorem State.shroudAll_sys (cause : Nat) : State.RegsOn SysReg s (s.shroudAll cause) :=
  (s.each_regsOn fun t g _ => t.forceSf1_sys g cause).trans (State.reselect_sys _)

/-! ### Trim engines stop (R183) -/

theorem State.ctxReport_regs (n i : Nat) (st : CtxStatus) : (s.ctxReport n i st).regs = s.regs := (State.ctxReport_within ..).same .regs rfl

theorem State.estat_sys (n : Nat) : State.RegsOn SysReg s (s.estat n) := s.setReg_regsOn (by unfold SysReg Adr.TRIM_ESTAT; omega) _

theorem State.runOver_sys (n : Nat) (r : TrimRun) : State.RegsOn SysReg s (s.runOver n r) := by
  have hcstat : ¬ SysReg (Adr.TRIM_CSTAT n r.slot) := by unfold SysReg Adr.TRIM_CSTAT; omega
  have hlat : ¬ SysReg (Adr.TSCH_LAT (8 * n + r.slot)) := by unfold SysReg Adr.TSCH_LAT; omega
  have hengine (u : State) (e : Engine) (c : Nat) (x : Ctx) : State.RegsOn SysReg u ((u.putEngine n e).putCtx c x) := .of_regs rfl
  exact ((((s.setFld_regsOn hcstat 13 0 _).trans (State.setFlag_regsOn _ hcstat _ _)).trans (State.setReg_regsOn _ hlat _)).trans
    (hengine ..)).trans (State.estat_sys _ n)

theorem State.dropPending_sys (n i : Nat) : State.RegsOn SysReg s (s.dropPending n i) := by
  unfold State.dropPending
  split
  · exact ((s.setFlag_regsOn (by unfold SysReg Adr.TRIM_CSTAT; omega) _ _).trans (.of_regs (State.ctxReport_regs ..))).trans (State.estat_sys _ n)
  · exact .refl

theorem State.ctxOff_sys (n i : Nat) : State.RegsOn SysReg s (s.ctxOff n i) :=
  ((s.setFlag_regsOn (by unfold SysReg Adr.TRIM_CCTRL; omega) 0 false).trans
    (State.setFlag_regsOn _ (by unfold SysReg Adr.TRIM_CSTAT; omega) _ _)).trans (.of_regs (State.putCtx_regs ..))

theorem State.engineStop_sys (n : Nat) : State.RegsOn SysReg s (s.engineStop n) := by
  unfold State.engineStop
  extract_lets u
  have hu : State.RegsOn SysReg s u := by
    unfold u
    split
    next r _ => exact (s.runOver_sys n r).trans (.of_regs (State.ctxReport_regs ..))
    next => exact .refl
  exact hu.trans (u.each_regsOn fun t i _ => ((t.dropPending_sys n i).trans (State.ctxOff_sys _ n i)).trans
    (.of_regs ((State.tuneAbortSlot_within ..).same .regs rfl)))

theorem State.trimStopAll_sys : State.RegsOn SysReg s s.trimStopAll := s.each_regsOn fun t n _ => t.engineStop_sys n

end

/-! ### A ring stops (R391, R394) -/

section
variable (s : State) (k : Nat)

theorem efr_page {k off : Nat} (h : off < 4096) : (0x100000 + off + k * 0x1000) / 4096 = Pg.EFR k := by unfold Pg.EFR; omega

theorem pevt_page (p : Nat) : Adr.PEVT p / 4096 = p := by unfold Adr.PEVT; omega

theorem State.raise_efr (i : Nat) : State.RegsOn (· / 4096 ≠ Pg.EFR k) s (s.raise (Pg.EFR k) i) := s.raise_regsOn (fun h => h (pevt_page _)) i

theorem efrStat_page : Adr.EFR_STAT k / 4096 = Pg.EFR k := efr_page (off := 0x4C) (by decide)

theorem State.txResult_regsOn (i tag result : Nat) : State.RegsOn (· / 4096 ≠ Pg.EFR k) s (s.txResult k i tag result) := by
  have hdma (u : State) (a : Nat) (l : List Byte) : State.RegsOn (· / 4096 ≠ Pg.EFR k) u (u.dmaPut a l) :=
    .of_regs ((State.dmaPut_within ..).same .regs rfl)
  exact ((hdma ..).trans (State.raise_efr _ k 1)).trans (State.when_regsOn _ (fun u => u.raise_efr k 2) _)

theorem State.tagsShow_regsOn : State.RegsOn (· / 4096 ≠ Pg.EFR k) s (s.tagsShow k) :=
  s.setReg_regsOn (fun h => h (efr_page (off := 0x74) (by decide))) _

theorem State.tqNext_regsOn : State.RegsOn (· / 4096 ≠ Pg.EFR k) s (s.tqNext k) :=
  s.setReg_regsOn (fun h => h (efr_page (off := 0x6C) (by decide))) _

theorem State.txFlush_regsOn (n : Nat) : State.RegsOn (· / 4096 ≠ Pg.EFR k) s (State.txFlush n s k) := by
  induction n generalizing s with
  | zero => exact .refl
  | succ n ih =>
    unfold State.txFlush
    extract_lets i
    split
    · exact .refl
    · exact ((s.txResult_regsOn k i 0 4).trans (State.tqNext_regsOn _ k)).trans (ih _)

theorem State.txAbort_regsOn : State.RegsOn (· / 4096 ≠ Pg.EFR k) s (s.txAbort k) := by
  unfold State.txAbort
  extract_lets t
  have ht : State.RegsOn (· / 4096 ≠ Pg.EFR k) s t :=
    List.foldlRecOn (motive := fun u : State => State.RegsOn (· / 4096 ≠ Pg.EFR k) s u) _ _ .refl fun u h e _ =>
      h.trans (u.txResult_regsOn k e.2.index e.1 4)
  exact ((ht.trans (.of_regs (State.putRing_regs ..))).trans (State.tagsShow_regsOn _ k)).trans (State.txFlush_regsOn _ k 256)

theorem State.setFold_regsOn (b : Bool) : State.RegsOn (· / 4096 ≠ Pg.EFR k) s (s.setFold k b) := by
  unfold State.setFold
  split
  · exact .refl
  · exact (s.setFlag_regsOn (fun h => h (efrStat_page k)) 4 b).trans (State.raise_efr _ k 3)

theorem State.ringEnter_regsOn (st : Nat) : State.RegsOn (· / 4096 ≠ Pg.EFR k) s (s.ringEnter k st) := by
  unfold State.ringEnter
  split
  · exact .refl
  · exact (s.setFld_regsOn (fun h => h (efrStat_page k)) 2 0 st).trans (State.raise_efr _ k 6)

/-- A ring that stops writes registers of its own page alone. -/
theorem State.ringStop_regsOn : State.RegsOn (· / 4096 ≠ Pg.EFR k) s (s.ringStop k) :=
  (((((s.txAbort_regsOn k).trans (.of_regs (State.putRing_regs ..))).trans
    (State.setFlag_regsOn _ (fun h => h (efr_page (off := 0x48) (by decide))) 1 false)).trans (State.setFold_regsOn _ k false)).trans
    (State.ringEnter_regsOn _ k 0))

theorem State.ringEnter_state {st : Nat} (h : st < 8) : (s.ringEnter k st).ringState k = st := by
  unfold State.ringEnter
  split
  next he => exact he
  next =>
    have hne : Adr.EFR_STAT k ≠ Adr.PEVT (Pg.EFR k) := by unfold Adr.EFR_STAT Adr.PEVT Pg.EFR; omega
    rw [State.ringState, State.fld_eq, State.raise_reg_ne _ _ _ hne, ← State.fld_eq, State.fld_setFld_self _ _ _ _ _ (by decide)]
    exact Nat.mod_eq_of_lt h

theorem State.ringStop_off : (s.ringStop k).ringState k = 0 := State.ringEnter_state _ k (by decide)

/-- A ring that is OFF stays OFF when another stops. -/
theorem State.ringStop_mono (j : Nat) (h : s.ringState k = 0) : (s.ringStop j).ringState k = 0 := by
  by_cases hj : k = j
  · rw [hj]
    exact s.ringStop_off j
  · have hpage : Adr.EFR_STAT k / 4096 ≠ Pg.EFR j := by
      rw [efrStat_page]
      unfold Pg.EFR
      omega
    exact ((s.ringStop_regsOn j).fld hpage 2 0).trans h

end

end Sys2Proof.Machine
end

section
/-! SUPPORT. Clock faults (R56, R57): what the loss of PLL_NET stops, its relocks, and the fault of PLL_SYS or XTAL25; and the settling of the
statement on supply and clock losses. -/

namespace Sys2Proof.Machine

/-! ### PLL_NET is lost (R57) -/

section
variable (s : State)

/-- The rings, with PLL_NET not locked: each is stopped. -/
def State.ringsOff (s : State) : State := (s.setFlag Adr.SYS_CLKSTAT 4 false).each [0, 1, 2, 3] State.ringStop

theorem State.pllnetDown_eq :
    s.pllnetDown = (s.ringsOff.setNet { s.ringsOff.net with stopped := s.ringsOff.net.stopped ||| 0x30#32 }).twinOff := rfl

theorem State.ringsOff_within : s.WithinM 68719478790 s.ringsOff :=
  State.each_within (fun t k => t.ringStop_within k) ((State.setFlag_within ..).step (by decide) (.refl ..))

theorem State.ringsOff_sys : State.RegsOn SysReg (s.setFlag Adr.SYS_CLKSTAT 4 false) s.ringsOff :=
  State.each_regsOn _ fun t k _ => (t.ringStop_regsOn k).mono fun a (ha : a < 0x1000) => by unfold Pg.EFR; omega

theorem State.ringsOff_state (k : Fin 4) : s.ringsOff.ringState k = 0 :=
  State.each_reaches (Q := fun k t => t.ringState k = 0) (fun t k => t.ringStop_off k) (fun t j k h => t.ringStop_mono k j h)
    (by fin_cases k <;> decide) _

theorem State.twinOff_regsOn {P : Nat → Prop} (hS : ¬ P Adr.TWIN_STAT) (hE : ¬ P (Adr.PEVT Pg.TWIN)) : State.RegsOn P s s.twinOff := by
  unfold State.twinOff
  split
  · exact .refl
  · exact ((s.setTwin_regsOn _).trans (State.setReg_regsOn _ hS _)).trans (State.twinEnter_regsOn _ hS hE 0)

theorem State.linksOff_regsOn {P : Nat → Prop} (hS : ¬ P Adr.TWIN_STAT) (hE : ¬ P (Adr.PEVT Pg.TWIN)) :
    State.RegsOn P s.ringsOff s.pllnetDown := by
  rw [State.pllnetDown_eq]
  exact (State.RegsOn.of_regs (State.setNet_regs ..)).trans (State.twinOff_regsOn _ hS hE)

/-- Of the SYS page the loss of PLL_NET changes its own bit of CLKSTAT alone. -/
theorem State.pllnetDown_sys : State.RegsOn SysReg (s.setFlag Adr.SYS_CLKSTAT 4 false) s.pllnetDown :=
  s.ringsOff_sys.trans (s.linksOff_regsOn (by decide) (by decide))

theorem State.pllnetDown_ringState (k : Fin 4) : s.pllnetDown.ringState k = 0 := by
  have hframe : State.RegsOn (· = Adr.EFR_STAT k) s.ringsOff s.pllnetDown :=
    s.linksOff_regsOn (by fin_cases k <;> decide) (by fin_cases k <;> decide)
  exact (hframe.fld rfl 2 0).trans (s.ringsOff_state k)

theorem State.pllnetDown_net : s.pllnetDown.net.stopped = s.net.stopped ||| 0x30#32 := by
  have hrings : s.ringsOff.net = s.net := s.ringsOff_within.same .net rfl
  rw [State.pllnetDown_eq, ((State.twinOff_within _).same .net rfl : State.net (State.twinOff _) = _), hrings]
  rfl

theorem State.pllnetDown_pwr : s.pllnetDown.pwr = s.pwr := s.pllnetDown_within.same .pwr rfl

theorem State.pllnetDown_pageOn (p : Nat) : s.pllnetDown.pageOn p = s.pageOn p :=
  (s.pllnetDown_sys.pageOn (by decide) s.pllnetDown_pwr p).trans
    ((s.setFlag_regsOn (P := (· = Adr.SYS_PDSTAT)) (by decide) 4 false).pageOn rfl rfl p)

end

section
variable {s : State}

theorem pllnetFault_stops (hnet : s.flag Adr.SYS_CLKSTAT 4 = true) (hon : s.pageOn Pg.SYS = true) :
    ∃ t, exec .pllnetFault s = .next t ∧ t.flag Adr.SYS_CLKSTAT 4 = false
      ∧ t.flag (Adr.PEVT Pg.SYS) 6 = true ∧ t.pwr.relocks = 0 ∧ t.flag Adr.SYS_CLKSTAT 3 = s.flag Adr.SYS_CLKSTAT 3
      ∧ bit t.net.stopped 4 = true ∧ bit t.net.stopped 5 = true ∧ (∀ k : Fin 4, t.ringState k = 0) := by
  let v := s.pllnetDown.raise Pg.SYS 6
  let u := v.setPwr { v.pwr with relocks := 0 }
  have hu : s.pllnetFault = u := if_pos hnet
  have hraised : State.RegsOn (· ≠ Adr.PEVT Pg.SYS) s.pllnetDown u := (State.raise_regsOn _ (by decide) 6).trans (State.setPwr_regsOn _ _)
  have hclk (i : Nat) : u.settle.flag Adr.SYS_CLKSTAT i = (s.setFlag Adr.SYS_CLKSTAT 4 false).flag Adr.SYS_CLKSTAT i := by
    rw [State.settle_flag _ (by decide), hraised.flag (by decide), s.pllnetDown_sys.flag (by decide)]
  have hstopped : u.settle.net.stopped = s.net.stopped ||| 0x30#32 := by
    rw [State.settle_net, ← s.pllnetDown_net]
    exact congrArg Net.stopped (State.raise_net ..)
  refine ⟨u.settle, congrArg done hu, ?lock, ?event, ?relocks, ?sys, ?eth0, ?eth1, ?rings⟩
  case lock => rw [hclk, State.flag_setFlag_self _ _ _ (by decide)]
  case event =>
    rw [State.settle_flag _ (by decide)]
    exact State.raise_flag _ _ _ ((s.pllnetDown_pageOn _).trans hon) (by decide)
  case relocks => rw [State.settle_pwr]; rfl
  case sys => rw [hclk, State.flag_setFlag_ne _ _ _ (by decide)]
  case eth0 => rw [hstopped, bit_or, Bool.or_eq_true]; exact .inr (by decide)
  case eth1 => rw [hstopped, bit_or, Bool.or_eq_true]; exact .inr (by decide)
  case rings =>
    intro k
    have hne : Adr.EFR_STAT k ≠ Adr.PEVT Pg.SYS := by fin_cases k <;> decide
    unfold State.ringState
    rw [State.settle_fld _ (by fin_cases k <;> decide), hraised.fld hne]
    exact s.pllnetDown_ringState k

/-! ### Relocks of PLL_NET (R57) -/

/-- An attempt to relock, counted and noted in the black box. -/
def State.relockTried (s : State) (ok : Bool) : State :=
  (s.setBb { s.gms.bb with relocks := s.gms.bb.relocks ++ [ok] }).setPwr { s.pwr with relocks := s.pwr.relocks + 1 }

/-- PLL_NET locked again: the Ethernet ports that GMS owns run on, the others wait for their owner. -/
def State.relocked (s : State) : State :=
  let keep := w32 (maskOf 2 fun n => s.owner (Pg.ETH n) != 3) <<< 4
  (s.setFlag Adr.SYS_CLKSTAT 4 true).setNet { s.net with stopped := s.net.stopped &&& (keep ||| 0xFFFFFFCF#32) }

theorem State.pllnetRelock_tries (ok : Bool) (hsys : s.flag Adr.SYS_CLKSTAT 3 = true) (hnet : s.flag Adr.SYS_CLKSTAT 4 = false)
    (hdom : s.domOn 8 = true) (hfew : s.pwr.relocks < 3) :
    s.pllnetRelock ok = if !ok then s.relockTried ok
      else (s.relockTried ok).relocked.when ((s.relockTried ok).relocked.flag Adr.TWIN_CTRL 0) State.twinRun :=
  if_pos (by simp [hsys, hnet, hdom, hfew])

theorem State.relocked_runs (u : State) (n : Fin 2) (h : u.owner (Pg.ETH n) = 3) : bit u.relocked.net.stopped (4 + n) = false := by
  have hkept : (maskOf 2 fun n => u.owner (Pg.ETH n) != 3).testBit n = false := by
    rw [maskOf_testBit, h]
    simp
  have hshift : bit (w32 (maskOf 2 fun n => u.owner (Pg.ETH n) != 3) <<< 4) (4 + n) = false := by
    unfold bit
    rw [BitVec.getLsbD_shiftLeft, Nat.add_sub_cancel_left]
    refine Bool.and_eq_false_imp.mpr fun _ => ?_
    exact (bit_ofNat _ _).trans (by rw [hkept, Bool.and_false])
  have hmask : bit 0xFFFFFFCF#32 (4 + n) = false := by fin_cases n <;> decide
  show bit (u.net.stopped &&& (_ ||| 0xFFFFFFCF#32)) (4 + n) = false
  rw [bit_and, bit_or, hshift, hmask, Bool.or_false, Bool.and_false]

theorem pllnetRelock_locks (hsys : s.flag Adr.SYS_CLKSTAT 3 = true) (hnet : s.flag Adr.SYS_CLKSTAT 4 = false) (hdom : s.domOn 8 = true)
    (hfew : s.pwr.relocks < 3) (htwin : s.flag Adr.TWIN_CTRL 0 = false) :
    ∃ t, exec (.pllnetRelock true) s = .next t ∧ t.flag Adr.SYS_CLKSTAT 4 = true ∧ t.pwr.relocks = s.pwr.relocks + 1
      ∧ (∀ n : Fin 2, s.owner (Pg.ETH n) = 3 → bit t.net.stopped (4 + n) = false) ∧ s.KeepsBut [Adr.SYS_CLKSTAT] t := by
  let u := (s.relockTried true).relocked
  have hframe : State.RegsOn (· ∉ [Adr.SYS_CLKSTAT]) s u :=
    ((s.setGms_regsOn _).trans (State.setPwr_regsOn _ _)).trans ((State.setFlag_regsOn _ (by decide) 4 true).trans (.of_regs (State.setNet_regs ..)))
  have hidle : u.flag Adr.TWIN_CTRL 0 = false := (hframe.flag (by decide) 0).trans htwin
  have hu : s.pllnetRelock true = u := by
    rw [State.pllnetRelock_tries true hsys hnet hdom hfew]
    show u.when (u.flag Adr.TWIN_CTRL 0) State.twinRun = u
    rw [hidle]
    rfl
  refine ⟨u.settle, congrArg done hu, ?lock, ?count, ?ports, hframe.keepsBut rfl⟩
  case lock =>
    rw [State.settle_flag _ (by decide)]
    exact State.flag_setFlag_self _ _ _ (by decide)
  case count => rw [State.settle_pwr]; rfl
  case ports =>
    intro n hn
    rw [State.settle_net]
    exact State.relocked_runs _ n hn

theorem pllnetRelock_fails (hsys : s.flag Adr.SYS_CLKSTAT 3 = true) (hnet : s.flag Adr.SYS_CLKSTAT 4 = false) (hdom : s.domOn 8 = true)
    (hfew : s.pwr.relocks < 3) :
    ∃ t, exec (.pllnetRelock false) s = .next t ∧ t.pwr.relocks = s.pwr.relocks + 1
      ∧ t.gms.bb.relocks = s.gms.bb.relocks ++ [false] ∧ t.net = s.net ∧ s.KeepsBut [] t := by
  let u := s.relockTried false
  have hu : s.pllnetRelock false = u := State.pllnetRelock_tries false hsys hnet hdom hfew
  have hframe : State.RegsOn (· ∉ []) s u := (s.setGms_regsOn _).trans (State.setPwr_regsOn _ _)
  obtain ⟨a, b, hgms⟩ := u.settle_gms
  refine ⟨u.settle, congrArg done hu, ?count, ?noted, ?net, hframe.keepsBut rfl⟩
  case count => rw [State.settle_pwr]; rfl
  case noted => rw [hgms]; rfl
  case net => rw [State.settle_net]; rfl

/-! ### A fault of PLL_SYS or XTAL25 (R56) -/

/-- CLKSTAT at the fault, and the failed clock on Shroud's wire. -/
def State.clockLost (s : State) (xtal : Bool) : State :=
  let t := s.setReg Adr.SYS_CLKSTAT (if xtal then 3#32 else setBit (s.reg Adr.SYS_CLKSTAT) 3 false)
  t.setShroud { t.shroud with clock := true }

/-- What stops with the clock once SF1 acts: with XTAL25 PLL_NET too, and the trim engines. -/
def State.clockStops (s : State) (xtal : Bool) : State := (s.when xtal State.pllnetDown).trimStopAll.raise Pg.SYS 6

theorem State.clockFault_eq (xtal : Bool) (h : s.flag Adr.SYS_CLKSTAT 3 = true) :
    s.clockFault xtal = (((s.clockLost xtal).shroudAll 10).clockStops xtal).coldResetGo 8 := if_pos h

theorem State.clockStops_sameChannels (xtal : Bool) : State.SameChannels s (s.clockStops xtal) :=
  ((State.SameChannels.when (fun t => t.pllnetDown_within.sameChannels rfl) xtal s).trans (State.trimStopAll_sameChannels _)).past
    (State.raise_within ..) rfl

theorem State.clockStops_gms (xtal : Bool) : (s.clockStops xtal).gms = s.gms := by
  have hdown : (s.when xtal State.pllnetDown).WithinM 229378 (s.when xtal State.pllnetDown).trimStopAll := State.trimStopAll_within _
  have hpll : s.WithinM 893353199622 (s.when xtal State.pllnetDown) := State.when_within (fun t => t.pllnetDown_within) (.refl ..)
  exact (State.raise_gms ..).trans ((hdown.same .gms rfl).trans (hpll.same .gms rfl))

/-- CLKSTAT keeps what the fault left, but for the lock of PLL_NET, which goes with XTAL25. -/
theorem State.clockStops_clkstat (xtal : Bool) : (s.clockStops xtal).reg Adr.SYS_CLKSTAT
    = if xtal then setBit (s.reg Adr.SYS_CLKSTAT) 4 false else s.reg Adr.SYS_CLKSTAT := by
  unfold State.clockStops
  rw [State.raise_reg_ne _ _ _ (by decide), (State.trimStopAll_sys _).same _ (by decide)]
  cases xtal with
  | false => rfl
  | true =>
    show s.pllnetDown.reg Adr.SYS_CLKSTAT = _
    rw [s.pllnetDown_sys.same _ (by decide), State.reg_setFlag, if_pos rfl, if_pos rfl]

theorem State.coldResetGo_regsOn {P : Nat → Prop} (h : ¬ P Adr.MBX_GSTAT) (cause : Nat) : State.RegsOn P s (s.coldResetGo cause) :=
  (s.setGms_regsOn _).trans (State.commitStart_regsOn _ h)

theorem State.coldResetGo_after (cause : Nat) : (s.coldResetGo cause).gms.after = .coldReset cause := State.commitStart_after _

theorem State.coldResetGo_shroud (cause : Nat) : (s.coldResetGo cause).shroud = s.shroud := (State.commitStart_within _).same .shroud rfl

theorem State.coldResetGo_running (cause : Nat) (h : s.gms.restarting = false) : (s.coldResetGo cause).flag Adr.MBX_GSTAT 9 = true :=
  State.commitStart_running _ h

theorem clockFault_resets (xtal : Bool) (hsys : s.flag Adr.SYS_CLKSTAT 3 = true) (hr : s.gms.restarting = false) :
    ∃ t, exec (.clockFault xtal) s = .next t
      ∧ t.flag Adr.SYS_CLKSTAT 3 = false ∧ (xtal = true → t.reg Adr.SYS_CLKSTAT = 3#32) ∧ t.shroud.clock = true
      ∧ (∀ g : Fin 6, (t.shroud.a.dec g).fns.testBit 0 = true ∧ (t.shroud.b.dec g).fns.testBit 0 = true)
      ∧ t.gms.after = .coldReset 8 ∧ t.flag Adr.MBX_GSTAT 9 = true := by
  obtain ⟨u, hu⟩ : ∃ u, u = (s.clockLost xtal).shroudAll 10 := ⟨_, rfl⟩
  have hv : s.clockFault xtal = (u.clockStops xtal).coldResetGo 8 := by rw [hu, State.clockFault_eq xtal hsys]
  have hlost : u.reg Adr.SYS_CLKSTAT = if xtal then 3#32 else setBit (s.reg Adr.SYS_CLKSTAT) 3 false := by
    rw [hu, (State.shroudAll_sys _ 10).same _ (by decide)]
    exact State.reg_setReg_self ..
  have hclk : ((u.clockStops xtal).coldResetGo 8).settle.reg Adr.SYS_CLKSTAT
      = if xtal then 3#32 else setBit (s.reg Adr.SYS_CLKSTAT) 3 false := by
    rw [State.settle_reg _ (by decide), (State.coldResetGo_regsOn (P := (· = Adr.SYS_CLKSTAT)) (by decide) 8).same _ rfl,
      State.clockStops_clkstat, hlost]
    cases xtal with
    | false => rfl
    | true => exact (by decide : setBit 3#32 4 false = 3#32)
  have hwires : State.SameChannels u ((u.clockStops xtal).coldResetGo 8).settle :=
    ((State.clockStops_sameChannels xtal).trans (.of_shroud (State.coldResetGo_shroud 8))).past (State.settle_within _) rfl
  obtain ⟨a, b, hgms⟩ := ((u.clockStops xtal).coldResetGo 8).settle_gms
  refine ⟨((u.clockStops xtal).coldResetGo 8).settle, congrArg done hv, ?lock, ?reg, ?clock, ?sf1, ?after, ?commit⟩
  case lock =>
    rw [State.flag_eq, hclk]
    cases xtal with
    | false =>
      rw [if_neg Bool.false_ne_true]
      exact bit_setBit_self _ _ (by decide)
    | true =>
      rw [if_pos rfl]
      decide
  case reg =>
    intro hx
    rw [hclk, if_pos hx]
  case clock =>
    rw [hwires.clock, hu, State.shroudAll_clock]
    rfl
  case sf1 =>
    intro g
    refine hwires.sf1 ?_
    rw [hu]
    exact State.shroudAll_sf1 10 g.isLt
  case after =>
    rw [hgms]
    exact State.coldResetGo_after 8
  case commit =>
    rw [State.settle_flag _ (by decide)]
    refine State.coldResetGo_running 8 ?_
    have hsame : u.gms = s.gms := by
      rw [hu]
      exact (State.shroudAll_within _ 10).same .gms rfl
    rw [State.clockStops_gms, hsame, hr]

end

/-- Settles O15: the rows of the supply and of the clocks, each by what its operation leaves. -/
theorem supplyLoss : Obligations.SupplyLoss := by
  unfold Obligations.SupplyLoss
  refine ⟨fun s haw => ⟨?warns, ?shows, ?resumes, ?overvoltage⟩, fun s => ⟨?reset, ?ends, ?lost⟩,
    fun s => ⟨?clock, ?net, ?relock, ?fails⟩⟩
  case warns => exact fun vs hlow hw hc hr => vsWarning_dips haw hlow hw hc hr
  case shows => exact fun vs h => vsWarning_shows h
  case resumes => exact fun vs lowest t0 low hhigh hw hdip hlog => vsResume_logs haw hhigh hw hdip hlog
  case overvoltage => exact fun vs hhigh hov hon => vsOvervoltage_shows haw hhigh hov hon
  case reset => exact fun vs hlow hrun => supplyReset_holdsUp hlow hrun
  case ends => exact holdup_ends s
  case lost => exact masthead_lost s
  case clock => exact clockFault_resets
  case net => exact pllnetFault_stops
  case relock => exact pllnetRelock_locks
  case fails => exact pllnetRelock_fails

end Sys2Proof.Machine
end

section
/-! SUPPORT. A domain comes on (R43, R46): what it leaves in the power state, and the registers that it leaves alone. -/

namespace Sys2Proof.Machine

/-- A register of a block, not of its page's header, below the pages of the PWM units; and not CLKSTAT, which a domain with PLL_NET's users
changes. -/
abbrev LowReg (a : Nat) : Prop := a < 0x60000 ∧ 0x40 ≤ a % 4096 ∧ a ≠ Adr.SYS_CLKSTAT

section
variable (s : State)

theorem cstat_not_low (ch : Nat) : ¬ LowReg (cstat ch) := by
  have hge := cstat_ge ch
  unfold LowReg
  omega

theorem gstat_not_low (ch : Nat) : ¬ LowReg (Adr.GGRP_GSTAT (groupOf ch)) := by unfold LowReg Adr.GGRP_GSTAT; omega

theorem pstat_not_low (p : Nat) : ¬ LowReg (Adr.PSTAT p) := by unfold LowReg Adr.PSTAT; omega

/-- An island's supply writes its channel's CSTAT alone (R46). -/
theorem State.islandSupply_regsOn {P : Nat → Prop} (hC : ∀ ch, ¬ P (cstat ch)) (ch : Nat) (up : Bool) :
    State.RegsOn P s (s.islandSupply ch up) := by
  unfold State.islandSupply
  extract_lets kind c u
  have hu : State.RegsOn P s u := (s.setReg_regsOn (hC ch) _).trans (State.putChan_regsOn ..)
  split
  · exact ((hu.trans (State.setFlag_regsOn _ (hC ch) ..)).trans (State.setFlag_regsOn _ (hC ch) ..)).trans (State.settleGate_regsOn hC _ ch)
  · exact hu

theorem State.groupSupply_regsOn {P : Nat → Prop} (hC : ∀ ch, ¬ P (cstat ch)) (g : Nat) (up : Bool) :
    State.RegsOn P s (s.groupSupply g up) := s.each_regsOn fun t ch _ => t.islandSupply_regsOn hC ch up

theorem State.domIslands_regsOn {P : Nat → Prop} (hC : ∀ ch, ¬ P (cstat ch)) (d : Nat) (up : Bool) :
    State.RegsOn P s (s.domIslands d up) := by
  refine s.each_regsOn fun t g _ => ?_
  split
  · exact .refl
  · exact t.groupSupply_regsOn hC g up

theorem State.domEffects_low : State.RegsOn LowReg s s.domEffects := by
  refine ((s.tripAll_regsOn ?_ ?_).trans (State.hvsRefresh_regsOn _ (by decide))).trans
    (State.gatesRefresh_regsOn cstat_not_low gstat_not_low _)
  · intro u _
    unfold LowReg Adr.PWM_STAT
    omega
  · intro u _
    unfold LowReg Adr.PEVT
    omega

/-- What follows once PDSTAT shows the domain: its islands, the CRCs of its owned pages, PLL_NET, and what other blocks see of it. -/
def State.domRise (s : State) (d : Nat) : State :=
  let s2 := s.domIslands d true
  let s3 := (domPages d).foldl (fun t p => if t.owner p = 0 then t else t.crcTouch p) s2
  let s4 := if (d = 7 ∨ d = 8) ∧ s3.pwr.relocks < 3 then s3.setFlag Adr.SYS_CLKSTAT 4 true else s3
  let s5 := if d = 6 then s4.setReg Adr.HVS_STAT 0x7F#32 else s4
  s5.domEffects

theorem State.domainOn_eq (d : Nat) : s.domainOn d =
    ((s.setPwr { s.pwr with switching := s.pwr.switching.filter fun x => x != d }).domShow d true).domRise d := rfl

theorem State.domRise_low (d : Nat) : State.RegsOn LowReg s (s.domRise d) := by
  unfold State.domRise
  extract_lets s2 s3 s4 s5
  have h3 : State.RegsOn LowReg s2 s3 :=
    List.foldlRecOn (motive := fun u : State => State.RegsOn LowReg s2 u) _ _ .refl fun u h p _ => h.trans (by
      split
      · exact .refl
      · exact u.setFlag_regsOn (pstat_not_low p) 31 true)
  have h4 : State.RegsOn LowReg s3 s4 := by
    unfold s4
    split
    · exact s3.setFlag_regsOn (by decide) 4 true
    · exact .refl
  have h5 : State.RegsOn LowReg s4 s5 := by
    unfold s5
    split
    · exact s4.setReg_regsOn (by decide) _
    · exact .refl
  exact ((((s.domIslands_regsOn cstat_not_low d true).trans h3).trans h4).trans h5).trans s5.domEffects_low

theorem State.domainOn_low (d : Nat) : State.RegsOn (fun a => LowReg a ∧ a ≠ Adr.SYS_PDSTAT) s (s.domainOn d) := by
  rw [State.domainOn_eq]
  exact ((s.setPwr_regsOn _).trans (State.domShow_regsOn _ (by decide) (by decide) d true)).trans
    ((State.domRise_low _ d).mono fun _ h => h.1)

/-- PDSTAT shows the domain (R46). -/
theorem State.domShow_shows {d : Nat} (h : d < 32) (b : Bool) : (s.domShow d b).flag Adr.SYS_PDSTAT d = b := by
  unfold State.domShow
  split
  next he => exact he
  next => rw [State.flag_eq, State.raise_reg_ne _ _ _ (by decide)]; exact State.flag_setFlag_self _ _ _ h

theorem State.domainOn_shows {d : Nat} (h : d < 32) : (s.domainOn d).flag Adr.SYS_PDSTAT d = true := by
  rw [State.domainOn_eq, (State.domRise_low _ d).flag (by decide), State.domShow_shows _ h]

/-- Of the power state the list of switching domains alone changes. -/
theorem State.domRise_within (d : Nat) : s.WithinM 151259138 (s.domRise d) := by
  unfold State.domRise
  extract_lets s2 s3 s4 s5
  have h3 : s.WithinM 151259138 s3 := State.WithinM.foldl _
    (fun t p => .ite (fun _ => .refl ..) fun _ => (State.crcTouch_within ..).step rfl (.refl ..)) ((s.domIslands_within d true).step rfl (.refl ..))
  have h4 : s.WithinM 151259138 s4 := .ite (fun _ => (State.setFlag_within ..).step rfl h3) fun _ => h3
  have h5 : s.WithinM 151259138 s5 := .ite (fun _ => (State.setReg_within ..).step rfl h4) fun _ => h4
  exact (State.domEffects_within _).step rfl h5

theorem State.domainOn_pwr (d : Nat) :
    (s.domainOn d).pwr = { s.pwr with switching := s.pwr.switching.filter fun x => x != d } := by
  rw [State.domainOn_eq]
  exact ((State.domRise_within _ d).same .pwr rfl).trans ((State.domShow_within _ d true).same .pwr rfl)

end

end Sys2Proof.Machine
end

section
/-! SUPPORT. Wake sources and the wake timer (R50, R458), and the start from sleep (R59, R60), stage by stage. -/

namespace Sys2Proof.Machine

/-! ### Wake sources and the wake timer (R50, R458) -/

section
variable {s : State}

/-- A source that qualifies sets its bit of WAKESRC; a WAKE pin's level is noted beside. -/
theorem State.wakeLatch_latches {src : Nat} (hne : src ≠ 15) (hq : src < 10 ∨ 13 < src ∨ s.cmpState (18 + src) = 2) :
    ∃ t : State, t.regs = s.regs ∧ t.mem = s.mem ∧ s.wakeLatch src = t.setFlag Adr.SYS_WAKESRC src true := by
  have hok : (if src = 15 then false else if 10 ≤ src ∧ src ≤ 13 then s.cmpState (18 + src) == 2 else true) = true := by
    rw [if_neg hne]
    split
    next h =>
      have hcmp : s.cmpState (18 + src) = 2 := by
        rcases hq with hlt | hgt | hcmp
        · omega
        · omega
        · exact hcmp
      exact beq_iff_eq.mpr hcmp
    next => rfl
  unfold State.wakeLatch
  rw [hok]
  refine ⟨if src < 2 then s.setPins { s.pins with pins := setBit s.pins.pins (17 + src) true } else s, ?_, ?_, rfl⟩ <;> split <;> rfl

theorem wakeSourceLatch_latches {src : Fin 18} (hne : src.val ≠ 15) (hq : src.val < 10 ∨ 13 < src.val ∨ s.cmpState (18 + src) = 2) :
    ∃ t, exec (.wakeSourceLatch src) s = .next t ∧ t.flag Adr.SYS_WAKESRC src = true
      ∧ (∀ j, j < 32 → j ≠ src.val → t.flag Adr.SYS_WAKESRC j = s.flag Adr.SYS_WAKESRC j) ∧ s.KeepsBut [Adr.SYS_WAKESRC] t := by
  obtain ⟨u, hregs, hmem, hu⟩ := State.wakeLatch_latches hne hq
  have hsame : State.RegsOn (fun _ => True) s u := .of_regs hregs
  refine ⟨_, congrArg done hu, ?sets, ?others, ?frame⟩
  case sets =>
    rw [State.settle_flag _ (by decide)]
    exact State.flag_setFlag_self _ _ _ (by omega)
  case others =>
    intro j _ hj
    rw [State.settle_flag _ (by decide), State.flag_setFlag_ne _ _ _ hj, hsame.flag trivial]
  case frame => exact ((hsame.mono fun _ _ => trivial).trans (u.setFlag_regsOn (by decide) src true)).keepsBut hmem

/-- The timer at 0 and its bit of WAKESRC set: what an expiry does before its event. -/
def State.timerOver (s : State) : State := (s.setReg Adr.SYS_WAKETMR 0#32).setFlag Adr.SYS_WAKESRC 15 true

theorem State.timerOver_regsOn : State.RegsOn (· ∉ [Adr.SYS_WAKETMR, Adr.SYS_WAKESRC]) s s.timerOver :=
  (s.setReg_regsOn (by decide) _).trans (State.setFlag_regsOn _ (by decide) 15 true)

theorem wakeTimerExpiry_wakes (h : s.reg Adr.SYS_WAKETMR ≠ 0#32) :
    ∃ t, exec .wakeTimerExpiry s = .next t ∧ t.reg Adr.SYS_WAKETMR = 0#32 ∧ t.flag Adr.SYS_WAKESRC 15 = true
      ∧ (s.awake = true → s.pageOn Pg.SYS = true → t.flag (Adr.PEVT Pg.SYS) 3 = true)
      ∧ s.KeepsBut [Adr.SYS_WAKETMR, Adr.SYS_WAKESRC, Adr.PEVT Pg.SYS] t := by
  let u := s.timerOver.when s.awake fun t => t.raise Pg.SYS 3
  have hu : s.wakeTimerEnd = u := if_neg h
  have hraised : State.RegsOn (· ≠ Adr.PEVT Pg.SYS) s.timerOver u := State.when_regsOn _ (fun t => t.raise_regsOn (by decide) 3) _
  have hmem : u.mem = s.mem := (State.when_within (fun _ => State.raise_within ..) (.refl ..)).same .mem (m := 2050) rfl
  refine ⟨u.settle, congrArg done hu, ?timer, ?source, ?event, ?frame⟩
  case timer =>
    rw [State.settle_reg _ (by decide), hraised.same _ (by decide), State.timerOver, State.reg_setFlag, if_neg (by decide),
      State.reg_setReg_self]
  case source =>
    rw [State.settle_flag _ (by decide), hraised.flag (by decide)]
    exact State.flag_setFlag_self _ _ _ (by decide)
  case event =>
    intro haw hon
    have hraise : u = s.timerOver.raise Pg.SYS 3 := if_pos haw
    rw [State.settle_flag _ (by decide), hraise]
    exact State.raise_flag _ _ _ ((State.timerOver_regsOn.pageOn (by decide) rfl _).trans hon) (by decide)
  case frame =>
    exact ((State.timerOver_regsOn.mono fun a ha => by simp_all).trans (hraised.mono fun a ha => by simp_all)).keepsBut hmem

end

/-! ### The start from sleep (R59, R60) -/

section
variable (s : State) (f : BootFacts)

/-- The registers of the Masthead and of the event routers that a start from sleep accounts for once its device time runs. -/
def wakeRegs : List Nat := [Adr.SYS_RSTCAUSE, Adr.SYS_RTC, Adr.EVR_EPOCH 0, Adr.EVR_EPOCH 1] ++ (List.range 16).map Adr.SYS_RETAIN

/-- The supply and GMS's pages, before the clocks. -/
def State.wakePower (s : State) : State :=
  (((s.setPhaseOf .run).setVs s.pins.vs).each [28, 29, 30, 31] fun t k => t.putCmp k { t.cmp k with asleep := false }).gmsPages

/-- The clocks locked, device time at 0. -/
def State.wakeClock (s : State) : State := (s.wakePower.setReg Adr.SYS_CLKSTAT 0xF#32).startTime

/-- The cause of the start, the records read, the slot shown. -/
def State.wakeRecords (s : State) (f : BootFacts) (slotB : Bool) : State :=
  ((s.setFlag Adr.SYS_RSTCAUSE 2 true).startRecords f.bbBank 0).setFlag Adr.MBX_BOOT 0 slotB

/-- The pairs whose domains are on leave reset. -/
def State.wakePairs (s : State) : State := [0, 1].foldl (fun u n => u.when (u.domOn (3 + n)) fun v => v.pairRelease n) s

/-- The image's version, WARM, and stage 3. -/
def State.wakeShown (s : State) (version : Word) : State := ((s.setReg Adr.MBX_IMGVER version).setFlag Adr.SYS_BOOTSTAT 5 true).setStage 3

/-- The start from sleep as far as the saved domains. -/
def State.wakeDomains (s : State) (f : BootFacts) : State := ((s.wakeClock.wakeRecords f s.kept.slotB).shroudWake f).restoreDomains

variable {s f} in
theorem State.warmWake_runs (hph : s.pwr.phase = .sleep) (hsrc : s.reg Adr.SYS_WAKESRC &&& s.reg Adr.SYS_WAKEEN ≠ 0#32)
    (hseal : s.pwr.writes = s.pwr.sealed) (hx : f.xtalOk = true) :
    s.warmWake f = ((s.wakeDomains f).when f.oemKeyWritten State.wakePairs).wakeShown
      (if s.kept.slotB then f.slotB.version else f.slotA.version) := by
  have hlatched : s.wakeLatched = true := bne_iff_ne.mpr hsrc
  unfold State.warmWake
  rw [if_neg (by simp [hph, hlatched]), if_neg (by simp [hseal, hx])]
  rfl

variable {s f} in
theorem State.warmWake_sleeps (hsrc : s.reg Adr.SYS_WAKESRC &&& s.reg Adr.SYS_WAKEEN = 0#32) : s.warmWake f = s := by
  have hlatched : s.wakeLatched = false := bne_eq_false_iff_eq.mpr hsrc
  unfold State.warmWake
  rw [if_pos (by simp [hlatched])]

/-- GMS owns a page. -/
def State.gmsOwns (s : State) (p : Nat) : State := (s.setReg (Adr.POWNER p) 3#32).crcTouch p

/-- Events of a page are enabled. -/
def State.eventsOn (s : State) (p : Nat) (m : Word) : State := (s.setReg (Adr.PEVEN p) m).crcTouch p

theorem State.gmsPages_eq : s.gmsPages = (((((((s.gmsOwns Pg.ICX).gmsOwns Pg.TBU).eventsOn Pg.SYS 0x7F#32).eventsOn Pg.ICX 0xF#32).eventsOn
    Pg.TBU 0xFF#32).eventsOn Pg.SHRD 0xFF#32).eventsOn Pg.MBX 0x3F#32).setStage 1 := rfl

/-- GMS's pages: registers of headers and the stage alone are written (R110, R459). -/
theorem State.gmsPages_regsOn {P : Nat → Prop} (hH : ∀ a, a % 4096 < 0x40 → ¬ P a) (hB : ¬ P Adr.SYS_BOOTSTAT) :
    State.RegsOn P s s.gmsPages := by
  have htouch (u : State) (p : Nat) : State.RegsOn P u (u.crcTouch p) := u.setFlag_regsOn (hH _ (by unfold Adr.PSTAT; omega)) 31 true
  have howns (u : State) (p : Nat) : State.RegsOn P u (u.gmsOwns p) :=
    (u.setReg_regsOn (hH _ (by unfold Adr.POWNER; omega)) _).trans (htouch _ p)
  have hevents (u : State) (p : Nat) (m : Word) : State.RegsOn P u (u.eventsOn p m) :=
    (u.setReg_regsOn (hH _ (by unfold Adr.PEVEN; omega)) m).trans (htouch _ p)
  rw [State.gmsPages_eq]
  exact (((((((howns ..).trans (howns ..)).trans (hevents ..)).trans (hevents ..)).trans (hevents ..)).trans (hevents ..)).trans
    (hevents ..)).trans (State.setStage_regsOn _ hB 1)

/-- Of a block's registers the way to the clocks writes the stage and VSMON. -/
theorem State.wakePower_regsOn : State.RegsOn (fun a => 0x40 ≤ a % 4096 ∧ a ≠ Adr.SYS_BOOTSTAT ∧ a ≠ Adr.SYS_VSMON) s s.wakePower := by
  have hvs : State.RegsOn (fun a => 0x40 ≤ a % 4096 ∧ a ≠ Adr.SYS_BOOTSTAT ∧ a ≠ Adr.SYS_VSMON) s ((s.setPhaseOf .run).setVs s.pins.vs) :=
    (s.setPwr_regsOn _).trans (State.setVs_regsOn _ _ (by decide))
  exact (hvs.trans (State.each_regsOn _ fun t k _ => .of_regs (State.putCmp_regs ..))).trans
    (State.gmsPages_regsOn _ (fun a ha => by omega) (by decide))

/-- GMS's records at a start: registers of the mailbox page alone are written (R409, R410). -/
theorem State.startRecords_below (bank : Bool) : State.RegsOn (· < 0x161000) s (s.startRecords bank 0) := by
  have hlog (u : State) : State.RegsOn (· < 0x161000) u u.logStart :=
    (u.setGms_regsOn _).trans (State.logKind_regsOn _ (by decide) ..)
  have hfault (u : State) : State.RegsOn (· < 0x161000) u (u.fault Pg.MBX 1) := u.setFlag_regsOn (by decide) 1 true
  unfold State.startRecords
  dsimp only
  rw [if_pos rfl]
  exact ((((((s.setGms_regsOn _).trans (State.when_regsOn _ hfault _)).trans (hlog _)).trans (State.setReg_regsOn _ (by decide) _)).trans
    (State.setReg_regsOn _ (by decide) _)).trans (State.setReg_regsOn _ (by decide) _)).trans (State.setFld_regsOn _ (by decide) ..)

theorem State.wakeRecords_regsOn (b : Bool) : State.RegsOn (fun a => a < 0x161000 ∧ a ≠ Adr.SYS_RSTCAUSE) s (s.wakeRecords f b) :=
  ((s.setFlag_regsOn (by simp) 2 true).trans ((State.startRecords_below _ _).mono fun _ h => h.1)).trans
    (State.setFlag_regsOn _ (by decide) 0 b)

theorem State.wakeRecords_cause (b : Bool) : (s.wakeRecords f b).flag Adr.SYS_RSTCAUSE 2 = true := by
  have hafter : State.RegsOn (· < 0x161000) (s.setFlag Adr.SYS_RSTCAUSE 2 true) (s.wakeRecords f b) :=
    (State.startRecords_below _ _).trans (State.setFlag_regsOn _ (by decide) 0 b)
  rw [hafter.flag (by decide)]
  exact State.flag_setFlag_self _ _ _ (by decide)

/-- A stored configuration stays within Shroud's page, whatever its offsets (R407). -/
theorem State.loadConfig_below (l : List (Nat × Word)) : State.RegsOn (· < 0x160000) s (s.loadConfig l) :=
  List.foldlRecOn (motive := fun u : State => State.RegsOn (· < 0x160000) s u) _ _ .refl fun u h e _ => h.trans (by
    split
    · exact u.setReg_regsOn (by unfold Pg.SHRD; omega) _
    · exact .refl)

theorem State.loadShroud_below : State.RegsOn (· < 0x160000) s (s.loadShroud f) := by
  unfold State.loadShroud
  extract_lets l u
  split
  · exact (s.loadConfig_below _).trans (State.setShroud_regsOn _ _)
  · exact (s.setShroud_regsOn _).trans (State.setFlag_regsOn (a := Adr.PFAULT Pg.MBX) _ (by decide) 2 true)

theorem State.shroudWake_below : State.RegsOn (· < 0x160000) s (s.shroudWake f) :=
  ((s.setShroud_regsOn _).trans (State.setReg_regsOn _ (by decide) _)).trans (State.loadShroud_below _ f)

/-- The domains of the saved mask, in dependency order. -/
def savedDomains (req : Word) : List Nat := domOrder.filter fun d => decide (3 ≤ d) && bit req d

/-- The saved domains on, and the requests as saved. -/
def State.domainsBack (s : State) : State :=
  (s.each (savedDomains s.pwr.savedReq) State.domainOn).setReg Adr.SYS_PDREQ (s.pwr.savedReq ||| 7#32)

theorem State.restoreDomains_regs : s.restoreDomains.regs = s.domainsBack.regs :=
  (State.each_within (m := 33554432) (fun _ _ => State.putGroup_within ..) (.refl ..)).same .regs rfl

theorem State.restoreDomains_pwr : s.restoreDomains.pwr = (s.each (savedDomains s.pwr.savedReq) State.domainOn).pwr :=
  (State.each_within (m := 33554432) (fun _ _ => State.putGroup_within ..) (.refl ..)).same .pwr rfl

/-- PDREQ reads the saved requests and the domains that are always on. -/
theorem State.restoreDomains_pdreq : s.restoreDomains.reg Adr.SYS_PDREQ = s.pwr.savedReq ||| 7#32 :=
  ((State.RegsOn.of_regs (P := fun _ => True) s.restoreDomains_regs).same _ trivial).trans (State.reg_setReg_self ..)

theorem State.restoreDomains_low : State.RegsOn (fun a => LowReg a ∧ a ≠ Adr.SYS_PDSTAT ∧ a ≠ Adr.SYS_PDREQ) s s.restoreDomains := by
  refine State.RegsOn.trans ?_ (.of_regs s.restoreDomains_regs)
  exact (s.each_regsOn fun t d _ => (t.domainOn_low d).mono fun a h => ⟨h.1, h.2.1⟩).trans (State.setReg_regsOn _ (by simp) _)

/-- Of the power state the list of switching domains alone changes when domains come on. -/
theorem State.eachDomainOn_pwr (l : List Nat) : ∃ w, (s.each l State.domainOn).pwr = { s.pwr with switching := w } := by
  refine List.foldlRecOn (motive := fun u : State => ∃ w, u.pwr = { s.pwr with switching := w }) _ _ ⟨_, rfl⟩ fun u ⟨w, h⟩ d _ => ?_
  rw [State.domainOn_pwr, h]
  exact ⟨_, rfl⟩

theorem State.wakePairs_regsOn {P : Nat → Prop} (h : ∀ a, P a → a < 0x20000) : State.RegsOn P s s.wakePairs :=
  List.foldlRecOn (motive := fun u : State => State.RegsOn P s u) _ _ .refl fun u hu n _ =>
    hu.trans (State.when_regsOn _ (fun v => v.pairRelease_regsOn n (fun hp => absurd (h _ hp) (by unfold Adr.PAIR_STAT; omega))
      (fun hp => absurd (h _ hp) (by unfold Adr.PAIR_WINCNT; omega)) (fun hp => absurd (h _ hp) (by unfold Adr.PAIR_ALIGNCNT; omega))) _)

theorem State.wakePairs_pwr : s.wakePairs.pwr = s.pwr :=
  (State.WithinM.foldl (m := 24582) [0, 1] (fun _ n => State.when_within (fun v => v.pairRelease_within n) (.refl ..)) (.refl ..)).same .pwr rfl

/-- What follows the saved domains keeps the registers below the pairs' pages but the stage's. -/
theorem State.wakeEnd_regsOn (oem : Bool) (version : Word) :
    State.RegsOn (fun a => a < 0x20000 ∧ a ≠ Adr.SYS_BOOTSTAT) s ((s.when oem State.wakePairs).wakeShown version) :=
  (((State.when_regsOn _ (fun t => t.wakePairs_regsOn fun _ h => h.1) oem).trans (State.setReg_regsOn _ (by decide) _)).trans
    (State.setFlag_regsOn _ (by simp) 5 true)).trans (State.setFld_regsOn _ (by simp) 3 0 3)

theorem State.wakeEnd_pwr (oem : Bool) (version : Word) : ((s.when oem State.wakePairs).wakeShown version).pwr = s.pwr := by
  cases oem with
  | false => rfl
  | true => exact s.wakePairs_pwr

theorem State.wakeShown_stage (version : Word) : (s.wakeShown version).stage = 3 := State.fld_setFld_self _ _ _ _ _ (by decide)

theorem State.wakeShown_warm (version : Word) : (s.wakeShown version).flag Adr.SYS_BOOTSTAT 5 = true := by
  unfold State.wakeShown State.setStage
  rw [State.flag_setFld _ _ _ _ _ _ (by decide) (by decide)]
  exact State.flag_setFlag_self _ _ _ (by decide)

/-! ### Device time, the records and the domains of the start -/

theorem State.wakeClock_pwr : s.wakeClock.pwr = { s.pwr with phase := .run, dtime := 0 } := by
  have hpower : s.wakePower.pwr = { s.pwr with phase := .run } :=
    ((State.gmsPages_within _).same .pwr rfl).trans ((State.each_within (m := 2097152) (fun _ _ => State.putCmp_within ..) (.refl ..)).same .pwr rfl)
  have htime (u : State) : u.startTime.pwr = { u.pwr with dtime := 0 } := rfl
  unfold State.wakeClock
  rw [htime, State.setReg_pwr, hpower]

theorem State.wakeRecords_pwr (b : Bool) : (s.wakeRecords f b).pwr = s.pwr := by
  have hrecords : ((s.setFlag Adr.SYS_RSTCAUSE 2 true).startRecords f.bbBank 0).pwr = (s.setFlag Adr.SYS_RSTCAUSE 2 true).pwr :=
    (State.startRecords_within ..).same .pwr rfl
  unfold State.wakeRecords
  rw [State.setFlag_pwr, hrecords, State.setFlag_pwr]

theorem State.shroudWake_pwr : (s.shroudWake f).pwr = s.pwr := (s.shroudWake_within f).same .pwr rfl

/-- Of the power state the phase, the device time and the list of switching domains alone change. -/
theorem State.wakeDomains_pwr : ∃ w, (s.wakeDomains f).pwr = { s.pwr with phase := .run, dtime := 0, switching := w } := by
  unfold State.wakeDomains
  obtain ⟨w, h⟩ := State.eachDomainOn_pwr ((s.wakeClock.wakeRecords f s.kept.slotB).shroudWake f)
    (savedDomains ((s.wakeClock.wakeRecords f s.kept.slotB).shroudWake f).pwr.savedReq)
  rw [State.restoreDomains_pwr, h, State.shroudWake_pwr, State.wakeRecords_pwr, State.wakeClock_pwr]
  exact ⟨w, rfl⟩

theorem State.wakeDomains_pdreq : (s.wakeDomains f).reg Adr.SYS_PDREQ = s.pwr.savedReq ||| 7#32 := by
  unfold State.wakeDomains
  rw [State.restoreDomains_pdreq, State.shroudWake_pwr, State.wakeRecords_pwr, State.wakeClock_pwr]

/-- What Shroud, the domains, the pairs and the stage do at a start from sleep keeps the registers it accounts for. -/
theorem State.wakeDomains_wakeRegs : State.RegsOn (· ∈ wakeRegs) (s.wakeClock.wakeRecords f s.kept.slotB) (s.wakeDomains f) :=
  ((State.shroudWake_below _ f).mono (by decide)).trans ((State.restoreDomains_low _).mono (by decide))

/-- Each event router's epoch is the calendar time of the start (R87). -/
theorem State.wakeClock_epoch (n : Fin 2) : s.wakeClock.reg (Adr.EVR_EPOCH n) = s.reg Adr.SYS_RTC := by
  unfold State.wakeClock
  rw [State.startTime_epoch, State.reg_setReg_ne _ _ (by decide), s.wakePower_regsOn.same _ (by decide)]

/-- The Masthead's registers as they were in sleep. -/
theorem State.wakeClock_masthead {a : Nat} (h : a ∈ Adr.SYS_RTC :: (List.range 16).map Adr.SYS_RETAIN) : s.wakeClock.reg a = s.reg a := by
  have hall : ∀ a ∈ Adr.SYS_RTC :: (List.range 16).map Adr.SYS_RETAIN, 0x60 < a ∧ a < 0x1000 := by decide
  obtain ⟨hlo, hhi⟩ := hall a h
  have htime : State.RegsOn (· = a) (s.wakePower.setReg Adr.SYS_CLKSTAT 0xF#32) s.wakeClock :=
    State.startTime_regsOn _ (fun n _ => by unfold Adr.EVR_EPOCH; omega) (fun n _ => by unfold Adr.EVR_EPOCHSUB; omega)
      (by unfold Adr.SYS_BOOTSTAT; omega)
  rw [htime.same _ rfl, State.reg_setReg_ne _ _ (by unfold Adr.SYS_CLKSTAT; omega),
    s.wakePower_regsOn.same _ (by unfold Adr.SYS_BOOTSTAT Adr.SYS_VSMON; omega)]

end

theorem warmWake_wakes {s : State} {f : BootFacts} (hph : s.pwr.phase = .sleep) (hsrc : s.reg Adr.SYS_WAKESRC &&& s.reg Adr.SYS_WAKEEN ≠ 0#32)
    (hseal : s.pwr.writes = s.pwr.sealed) (hx : f.xtalOk = true) :
    ∃ t, exec (.warmWake f) s = .next t ∧ t.pwr.phase = .run ∧ t.flag Adr.SYS_RSTCAUSE 2 = true
      ∧ t.flag Adr.SYS_BOOTSTAT 5 = true ∧ t.stage = 3 ∧ t.reg Adr.SYS_PDREQ = s.pwr.savedReq ||| 7#32 ∧ t.now = 0
      ∧ (∀ n : Fin 2, t.reg (Adr.EVR_EPOCH n) = s.reg Adr.SYS_RTC) ∧ t.reg Adr.SYS_RTC = s.reg Adr.SYS_RTC
      ∧ (∀ k : Fin 16, t.reg (Adr.SYS_RETAIN k) = s.reg (Adr.SYS_RETAIN k)) := by
  obtain ⟨version, hu⟩ : ∃ v, s.warmWake f = ((s.wakeDomains f).when f.oemKeyWritten State.wakePairs).wakeShown v :=
    ⟨_, State.warmWake_runs hph hsrc hseal hx⟩
  obtain ⟨w, hpwr⟩ := s.wakeDomains_pwr f
  rw [← State.wakeEnd_pwr _ f.oemKeyWritten version, ← hu, ← State.settle_pwr] at hpwr
  have hend := (s.wakeDomains f).wakeEnd_regsOn f.oemKeyWritten version
  rw [← hu] at hend
  have hkept {a : Nat} (ha : a ∈ wakeRegs) : (s.warmWake f).settle.reg a = (s.wakeClock.wakeRecords f s.kept.slotB).reg a := by
    have hall : ∀ a ∈ wakeRegs, irqReg a = false ∧ a < 0x20000 ∧ a ≠ Adr.SYS_BOOTSTAT := by decide
    obtain ⟨hirq, hlow⟩ := hall a ha
    rw [State.settle_reg _ hirq, hend.same _ hlow, (s.wakeDomains_wakeRegs f).same _ ha]
  have hclock {a : Nat} (ha : a ∈ wakeRegs) (hne : a ≠ Adr.SYS_RSTCAUSE) : (s.warmWake f).settle.reg a = s.wakeClock.reg a := by
    have hall : ∀ a ∈ wakeRegs, a < 0x161000 := by decide
    rw [hkept ha, (State.wakeRecords_regsOn _ f _).same _ ⟨hall a ha, hne⟩]
  refine ⟨(s.warmWake f).settle, rfl, ?phase, ?cause, ?warm, ?stage, ?requests, ?time, ?epoch, ?rtc, ?retain⟩
  case phase => rw [hpwr]
  case cause => rw [State.flag_eq, hkept (by decide), ← State.flag_eq, State.wakeRecords_cause]
  case warm => rw [State.settle_flag _ (by decide), hu, State.wakeShown_warm]
  case stage => exact (State.settle_fld _ (by decide) 3 0).trans (by rw [hu]; exact State.wakeShown_stage _ _)
  case requests => rw [State.settle_reg _ (by decide), hend.same _ (by decide), State.wakeDomains_pdreq]
  case time => rw [State.now, hpwr]
  case epoch =>
    intro n
    rw [hclock (by fin_cases n <;> decide) (by fin_cases n <;> decide), State.wakeClock_epoch]
  case rtc => rw [hclock (by decide) (by decide), State.wakeClock_masthead _ (by decide)]
  case retain =>
    intro k
    rw [hclock (by fin_cases k <;> decide) (by fin_cases k <;> decide), State.wakeClock_masthead _ (by fin_cases k <;> decide)]

theorem warmWake_sleepsOn {s : State} {f : BootFacts} (hph : s.pwr.phase = .sleep) (hsrc : s.reg Adr.SYS_WAKESRC &&& s.reg Adr.SYS_WAKEEN = 0#32) :
    ∃ t, exec (.warmWake f) s = .next t ∧ t.pwr.phase = .sleep ∧ s.KeepsBut [] t :=
  ⟨s.settle, congrArg done (State.warmWake_sleeps hsrc), by rw [State.settle_pwr, hph], State.RegsOn.keepsBut .refl rfl⟩

/-- Settles O20: a source and the timer by the bits they set, the start from sleep by its stages: `State.wakeClock`, `State.wakeRecords`, the
saved domains and the pairs. -/
theorem waking : Obligations.Waking := by
  unfold Obligations.Waking
  intro s
  refine ⟨fun src hne hq => wakeSourceLatch_latches hne hq, fun h => wakeTimerExpiry_wakes h, fun f hph hsrc hseal hx => ?_, fun f hph hsrc => ?_⟩
  · exact warmWake_wakes hph hsrc hseal hx
  · exact warmWake_sleepsOn hph hsrc

end Sys2Proof.Machine
end

section
/-! SUPPORT. A mailbox command that runs (R402 to R404): its answer beside what its meaning left in registers and memory. -/

namespace Sys2Proof.Machine

section
variable {s u : State} {pair r : Nat} {resp : List Byte}

/-- A called command answers from the state that its meaning leaves, with the result and response that it gives. -/
theorem State.Calls.run {code lvl : Nat} {f : State → Answer} (h : s.Calls pair code lvl) (hf : f s = (u, r, resp)) :
    done (s.mbxRun pair code lvl f) = .next (u.answeredFrom pair r resp) := by
  rw [State.mbxRun_done _ h, hf]

/-- An answer changes PEVT of MBX alone: the frame of the meaning and that register. -/
theorem State.RegsOn.answered {l : List Nat} (h : State.RegsOn (· ∉ l) s u) : s.RegsBut (Adr.PEVT Pg.MBX :: l) (u.answeredFrom pair r resp) := by
  intro a ha hi
  obtain ⟨hevt, hl⟩ := not_or.mp (mt List.mem_cons.mpr ha)
  rw [State.answeredFrom_reg _ _ _ _ hevt hi, h.same _ hl]

theorem State.answeredFrom_memBut (h : u.mem = s.mem) : s.MemButMailbox (u.answeredFrom pair r resp) := fun a ha => by
  rw [State.answeredFrom_byte _ _ _ _ a ha, State.byte_congr h]

/-- STATUS after an answer whose meaning did not touch memory. -/
theorem State.answeredFrom_status (h : u.mem = s.mem) : s.Answered pair r (u.answeredFrom pair r resp) :=
  State.answeredFrom_answered _ _ _ _ _ (State.byte_congr h _)

theorem State.answeredFrom_flag {a : Nat} (h : a ≠ Adr.PEVT Pg.MBX) (hi : irqReg a = false) (i : Nat) :
    (u.answeredFrom pair r resp).flag a i = u.flag a i := by
  rw [State.flag_eq, State.answeredFrom_reg _ _ _ _ h hi, State.flag_eq]

end

end Sys2Proof.Machine
end

section
/-! SUPPORT. Domain requests (R43, R44), a domain powered (R46, R253), and a restart of GMS (R61, R403, R412). -/

namespace Sys2Proof.Machine

/-! ### Masks of domains -/

theorem maskOf_eq_zero {n : Nat} {p : Nat → Bool} (h : ∀ k, k < n → p k = false) : maskOf n p = 0 :=
  Nat.eq_of_testBit_eq fun i => by
    rw [maskOf_testBit, Nat.zero_testBit]
    by_cases hi : i < n
    · rw [h i hi, Bool.and_false]
    · rw [decide_eq_false hi, Bool.false_and]

theorem maskOf_ne_zero {n k : Nat} {p : Nat → Bool} (hk : k < n) (h : p k = true) : maskOf n p ≠ 0 := fun hz => by
  have hbit := maskOf_testBit n p k
  rw [hz, Nat.zero_testBit, h, decide_eq_true hk] at hbit
  exact Bool.false_ne_true hbit

theorem bit_maskOf {n k : Nat} (hn : n ≤ 32) (hk : k < n) (p : Nat → Bool) : bit (w32 (maskOf n p)) k = p k := by
  unfold w32
  rw [bit_ofNat, maskOf_testBit, decide_eq_true (by omega), decide_eq_true hk, Bool.true_and, Bool.true_and]

theorem mem_domOrder {d : Nat} (h : d < 12) : d ∈ domOrder ↔ 1 ≤ d := by
  interval_cases d <;> decide

/-! ### Start-up stages (R58) -/

section
variable (s : State)

/-- The stages write BOOTSTAT, and PEVT of SYS when the part is ready for precharge. -/
theorem State.bootAdvance_regsOn {P : Nat → Prop} (hB : ¬ P Adr.SYS_BOOTSTAT) (hE : ¬ P (Adr.PEVT Pg.SYS)) : State.RegsOn P s s.bootAdvance := by
  have hready (u : State) : State.RegsOn P u u.readyForPrecharge :=
    ((u.setStage_regsOn hB 8).trans (State.setFlag_regsOn _ hB 4 true)).trans (State.raise_regsOn _ hE 2)
  have hstage (u : State) (b : Bool) (n : Nat) : State.RegsOn P u (u.when b fun t => t.setStage n) :=
    u.when_regsOn (fun t => t.setStage_regsOn hB n) b
  unfold State.bootAdvance
  dsimp only
  split
  · exact s.when_regsOn hready _
  · exact (((hstage ..).trans (hstage ..)).trans (hstage ..)).trans (State.when_regsOn _ hready _)

end

/-! ### Domain requests (R43, R44) -/

section
variable {s : State} {a : Word}

/-- The domains that a request to switch on finds off. -/
def State.pdOn (s : State) (a : Word) : List Nat := (List.range 12).filter fun d => bit a d && !s.domUp d

theorem State.mem_pdOn {d : Nat} : d ∈ s.pdOn a ↔ d < 12 ∧ bit a d = true ∧ s.domUp d = false := by
  simp [State.pdOn]

theorem State.pdOn_contains {d : Nat} (h : d < 12) : (s.pdOn a).contains d = (bit a d && !s.domUp d) := by
  rw [Bool.eq_iff_iff, List.contains_iff_mem, State.mem_pdOn]
  simp [h]

/-- A request of the right form that switches nothing off is refused or accepted by what its domains need. -/
theorem State.pdRequest_on {pair : Nat} (hlen : 8 ≤ s.reqLen pair) (ha : s.reqWord pair 0 = a) (hb : s.reqWord pair 1 = 0#32)
    (hform : a &&& 0xFFFFF007#32 = 0#32) : s.pdRequest pair =
      if s.pdRefusal (s.pdOn a) [] ≠ 0 then .refused s (s.pdRefusal (s.pdOn a) []) else .ok (s.pdAccept (s.pdOn a) []) [] := by
  have hoff : ((List.range 12).filter fun d => bit 0#32 d && s.domUp d) = [] := by simp [bit]
  unfold State.pdRequest
  rw [ha, hb]
  dsimp only
  rw [if_neg (by simp [hform, hlen]), hoff]
  rfl

theorem State.pdRefusal_none (h : ∀ d, d < 12 → bit a d = true → s.domUp d = false →
    (∀ r ∈ domNeeds d, s.domUp r = true ∨ bit a r = true) ∧ ¬(s.pwr.store = true ∧ d = 9)) :
    s.pdRefusal (s.pdOn a) [] = 0 := by
  have hneeds : ∀ d, d < 12 → ∀ r ∈ domNeeds d, r < 12 := by decide
  refine maskOf_eq_zero fun d hd => ?_
  rw [s.pdOn_contains hd]
  cases hon : bit a d && !s.domUp d with
  | false => simp
  | true =>
    simp only [Bool.and_eq_true, Bool.not_eq_true'] at hon
    obtain ⟨hmet, hstore⟩ := h d hd hon.1 hon.2
    have hup : ∀ r ∈ domNeeds d, (s.domUp r || (s.pdOn a).contains r) = true := fun r hr => by
      rw [s.pdOn_contains (hneeds d hd r hr)]
      rcases hmet r hr with hu | hb
      · rw [hu, Bool.true_or]
      · rw [hb]
        cases s.domUp r <;> rfl
    simp only [List.contains_nil, Bool.not_false, Bool.and_true, Bool.true_and, Bool.false_and, Bool.or_false, Bool.or_eq_false_iff]
    constructor
    · rw [List.any_eq_false]
      intro r hr
      rw [hup r hr]
      decide
    · rw [Bool.and_eq_false_imp]
      intro hs
      exact beq_eq_false_iff_ne.mpr fun h9 => hstore ⟨hs, h9⟩

theorem State.pdRefusal_lacks {d r : Nat} (hd : d < 12) (hb : bit a d = true) (hu : s.domUp d = false) (hr : r ∈ domNeeds d)
    (hru : s.domUp r = false) (hrb : bit a r = false) : s.pdRefusal (s.pdOn a) [] ≠ 0 := by
  have hnot : r ∉ s.pdOn a := fun h => by simpa [hrb] using State.mem_pdOn.mp h
  refine maskOf_ne_zero hd ?_
  have hlack : (domNeeds d).any (fun r => !((s.domUp r || (s.pdOn a).contains r) && !([] : List Nat).contains r)) = true :=
    List.any_eq_true.mpr ⟨r, hr, by simp [hru, hnot]⟩
  rw [s.pdOn_contains hd, hb, hu, hlack]
  rfl

/-- An accepted request to switch on. -/
theorem State.pdAccept_on (on : List Nat) : s.pdAccept on [] =
    ((s.setPwr { s.pwr with switching := s.pwr.switching ++ domOrder.filter on.contains }).setReg Adr.SYS_PDREQ
      (s.reg Adr.SYS_PDREQ ||| w32 (maskOf 12 on.contains))).bootAdvance := by
  have hnone : domOrder.reverse.filter ([] : List Nat).contains = [] := by decide
  have hmask (w : Word) : w &&& ~~~w32 (maskOf 12 ([] : List Nat).contains) = w := by
    rw [show ~~~w32 (maskOf 12 ([] : List Nat).contains) = BitVec.allOnes 32 by decide, BitVec.and_allOnes]
  unfold State.pdAccept
  dsimp only
  rw [hnone, hmask]
  rfl

theorem State.pdAccept_regsOn (on : List Nat) :
    State.RegsOn (· ∉ [Adr.SYS_PDREQ, Adr.SYS_BOOTSTAT, Adr.PEVT Pg.SYS]) s (s.pdAccept on []) := by
  rw [State.pdAccept_on]
  exact ((s.setPwr_regsOn _).trans (State.setReg_regsOn _ (by decide) _)).trans (State.bootAdvance_regsOn _ (by decide) (by decide))

theorem State.pdAccept_pdreq (on : List Nat) : (s.pdAccept on []).reg Adr.SYS_PDREQ = s.reg Adr.SYS_PDREQ ||| w32 (maskOf 12 on.contains) := by
  rw [State.pdAccept_on, (State.bootAdvance_regsOn (P := (· = Adr.SYS_PDREQ)) _ (by decide) (by decide)).same _ rfl, State.reg_setReg_self]

theorem State.pdAccept_switching (on : List Nat) :
    (s.pdAccept on []).pwr.switching = s.pwr.switching ++ domOrder.filter on.contains := by
  rw [State.pdAccept_on]
  exact congrArg Power.switching ((State.bootAdvance_within _).same .pwr rfl)

theorem State.pdAccept_mem (on : List Nat) : (s.pdAccept on []).mem = s.mem := by
  rw [State.pdAccept_on]
  exact (State.bootAdvance_within _).same .mem rfl

theorem pdReq_switchesOn {pair : Fin 2} (hc : s.Calls pair 0x10 0) (hlen : 8 ≤ s.reqLen pair) (ha : s.reqWord pair 0 = a)
    (hb : s.reqWord pair 1 = 0#32) (hform : a &&& 0xFFFFF007#32 = 0#32)
    (hmet : ∀ d, d < 12 → bit a d = true → s.domUp d = false →
    (∀ r ∈ domNeeds d, s.domUp r = true ∨ bit a r = true) ∧ ¬(s.pwr.store = true ∧ d = 9)) :
    ∃ t, exec (.pdReq pair) s = .next t ∧ s.Answered pair 0 t
      ∧ (∀ d, d < 12 → t.flag Adr.SYS_PDREQ d = (s.flag Adr.SYS_PDREQ d || (bit a d && !s.domUp d)))
      ∧ (∀ d, d < 12 → (d ∈ t.pwr.switching ↔ d ∈ s.pwr.switching ∨ (1 ≤ d ∧ bit a d = true ∧ s.domUp d = false)))
      ∧ s.RegsBut [Adr.PEVT Pg.MBX, Adr.SYS_PDREQ, Adr.SYS_BOOTSTAT, Adr.PEVT Pg.SYS] t ∧ s.MemButMailbox t := by
  have hf : s.pdRequest pair = (s.pdAccept (s.pdOn a) [], 0, []) := by
    rw [State.pdRequest_on hlen ha hb hform, if_neg (not_not.mpr (State.pdRefusal_none hmet))]
    rfl
  refine ⟨_, hc.run hf, State.answeredFrom_status (State.pdAccept_mem _), ?requested, ?switching, (State.pdAccept_regsOn _).answered,
    State.answeredFrom_memBut (State.pdAccept_mem _)⟩
  case requested =>
    intro d hd
    rw [State.answeredFrom_flag (by decide) (by decide), State.flag_eq, State.pdAccept_pdreq, bit_or, bit_maskOf (by decide) hd,
      State.pdOn_contains hd, State.flag_eq]
  case switching =>
    intro d hd
    rw [State.answeredFrom_pwr, State.pdAccept_switching, List.mem_append, List.mem_filter, mem_domOrder hd, State.pdOn_contains hd]
    simp

theorem pdReq_refused {pair : Fin 2} {d r : Nat} (hc : s.Calls pair 0x10 0) (hlen : 8 ≤ s.reqLen pair) (ha : s.reqWord pair 0 = a)
    (hb : s.reqWord pair 1 = 0#32) (hform : a &&& 0xFFFFF007#32 = 0#32) (hd : d < 12) (hbit : bit a d = true) (hu : s.domUp d = false)
    (hr : r ∈ domNeeds d) (hru : s.domUp r = false) (hrb : bit a r = false) :
    ∃ t, exec (.pdReq pair) s = .next t ∧ s.Answered pair 4 t ∧ t.pwr = s.pwr ∧ s.RegsBut [Adr.PEVT Pg.MBX] t ∧ s.MemButMailbox t := by
  have hf : s.pdRequest pair = (s, 4, wordBytes (w32 (s.pdRefusal (s.pdOn a) []))) := by
    rw [State.pdRequest_on hlen ha hb hform, if_pos (State.pdRefusal_lacks hd hbit hu hr hru hrb)]
    rfl
  exact ⟨_, hc.run hf, State.answeredFrom_status rfl, State.answeredFrom_pwr .., State.RegsOn.refl.answered, State.answeredFrom_memBut rfl⟩

end

/-! ### A domain powered (R46, R253) -/

section
variable {s : State}

/-- The gate groups whose self-test the powered domain starts. -/
def State.poweredGroups (s : State) (d : Nat) : List Nat :=
  (List.range 6).filter fun g => islandDom g == d && !s.islandHeld g && !bit s.shroud.cut g

theorem State.domainPowered_eq {d : Nat} (h : s.pwr.switching.contains d = true) (hn : ∀ r ∈ domNeeds d, s.domOn r = true) :
    s.domainPowered d = ((s.domainOn d).each (s.poweredGroups d) State.selfTestStart).bootAdvance := by
  have hcond : (s.pwr.switching.contains d && (domNeeds d).all s.domOn) = true := by rw [h, List.all_eq_true.mpr hn]; rfl
  exact if_pos hcond

theorem State.selfTestStart_regsOn {P : Nat → Prop} (t : State) (g : Nat) (hG : ¬ P (Adr.GGRP_GSTAT g)) (hS : ¬ P (Adr.GGRP_STRES g)) :
    State.RegsOn P t (t.selfTestStart g) :=
  ((t.setFlag_regsOn hG 7 true).trans (State.setReg_regsOn _ hS _)).trans (.of_regs (State.putGroup_regs ..))

theorem State.selfTestStart_low (t : State) (g : Nat) : State.RegsOn LowReg t (t.selfTestStart g) :=
  t.selfTestStart_regsOn g (by unfold LowReg Adr.GGRP_GSTAT; omega) (by unfold LowReg Adr.GGRP_STRES; omega)

/-- GSTAT shows the test of the group that has started. -/
theorem State.selfTestStart_runs (t : State) (g : Nat) : (t.selfTestStart g).flag (Adr.GGRP_GSTAT g) 7 = true := by
  have hreg : (t.selfTestStart g).reg (Adr.GGRP_GSTAT g) = (t.setFlag (Adr.GGRP_GSTAT g) 7 true).reg (Adr.GGRP_GSTAT g) :=
    State.reg_setReg_ne _ _ (by unfold Adr.GGRP_GSTAT Adr.GGRP_STRES; omega)
  rw [State.flag_eq, hreg]
  exact State.flag_setFlag_self _ _ _ (by decide)

theorem State.selfTestStart_keeps (t : State) (j g : Nat) (h : t.flag (Adr.GGRP_GSTAT g) 7 = true) :
    (t.selfTestStart j).flag (Adr.GGRP_GSTAT g) 7 = true := by
  by_cases hj : j = g
  · rw [hj]
    exact t.selfTestStart_runs g
  · rw [(t.selfTestStart_regsOn (P := (· = Adr.GGRP_GSTAT g)) j (by unfold Adr.GGRP_GSTAT; omega)
      (by unfold Adr.GGRP_GSTAT Adr.GGRP_STRES; omega)).flag rfl, h]

theorem domainPowered_shows {d : Fin 12} (h : s.pwr.switching.contains d.val = true) (hn : ∀ r ∈ domNeeds d, s.domOn r = true) :
    ∃ t, exec (.domainPowered d) s = .next t ∧ t.flag Adr.SYS_PDSTAT d = true ∧ t.pwr.switching.contains d.val = false
      ∧ (∀ g : Fin 6, islandDom g = d → s.islandHeld g = false → bit s.shroud.cut g = false → t.flag (Adr.GGRP_GSTAT g) 7 = true)
      ∧ s.MemSame t := by
  let u := (s.domainOn d).each (s.poweredGroups d) State.selfTestStart
  have hu : s.domainPowered d = u.bootAdvance := State.domainPowered_eq h hn
  have htests : State.RegsOn LowReg (s.domainOn d) u := State.each_regsOn _ fun t g _ => t.selfTestStart_low g
  have hpwr : u.bootAdvance.pwr = (s.domainOn d).pwr :=
    ((State.bootAdvance_within _).same .pwr rfl).trans
      ((State.each_within (fun t g => t.selfTestStart_within g) (.refl ..)).same .pwr (m := 33554434) rfl)
  have hmem : (s.domainPowered d).mem = s.mem := (s.domainPowered_within d).same .mem rfl
  refine ⟨u.bootAdvance.settle, congrArg done hu, ?shown, ?switched, ?tests, ?memory⟩
  case shown =>
    rw [State.settle_flag _ (by decide), (State.bootAdvance_regsOn (P := (· = Adr.SYS_PDSTAT)) u (by decide) (by decide)).flag rfl,
      htests.flag (by decide), s.domainOn_shows (by omega)]
  case switched =>
    rw [State.settle_pwr, hpwr, State.domainOn_pwr]
    simp
  case tests =>
    intro g hg hheld hcut
    have hin : g.val ∈ s.poweredGroups d := by simp [State.poweredGroups, hg, hheld, hcut]
    rw [State.settle_flag _ (by fin_cases g <;> decide),
      (State.bootAdvance_regsOn (P := (· = Adr.GGRP_GSTAT g)) u (by fin_cases g <;> decide) (by fin_cases g <;> decide)).flag rfl]
    exact State.each_reaches (Q := fun g t => t.flag (Adr.GGRP_GSTAT g) 7 = true) State.selfTestStart_runs State.selfTestStart_keeps hin _
  case memory =>
    intro a
    rw [State.byte_congr (State.settle_mem _), ← hu, State.byte_congr hmem]

end

end Sys2Proof.Machine
end

section
/-! SUPPORT. A restart of GMS (R61, R403, R412): its port's requests withdrawn, the waiting commands answered GMS_DOWN, a broken commit repeated; and
the settling of the statement on domains and GMS. -/

namespace Sys2Proof.Machine

/-! ### A port of the interconnect is reset (R107) -/

/-- A lock that its port's reset breaks. -/
def State.lockBroken (s : State) (t : Nat) : State :=
  let v := (s.lockDrop t).setFlag Adr.ICX_LOCKSTAT (16 + t) true
  (v.setIcx { v.icx with broken := setBit v.icx.broken t true }).raise Pg.ICX 0

/-- Port p has no request and no granted transaction at target t. -/
def State.icxWithdraw (s : State) (p t : Nat) : State :=
  let u := (((s.putQueue t p []).putParked t p false).putHeld t p false).putWait t p 0
  u.putGranted t ((u.icxGranted t).filter fun e => e.1 != p)

theorem State.icxWithdraw_regs (s : State) (p t : Nat) : (s.icxWithdraw p t).regs = s.regs := by
  have hqueues : s.WithinM 4096 ((((s.putQueue t p []).putParked t p false).putHeld t p false).putWait t p 0) :=
    (State.putWait_within ..).step rfl ((State.putHeld_within ..).step rfl ((State.putParked_within ..).step rfl (State.putQueue_within ..)))
  exact ((State.putGranted_within ..).step rfl hqueues).same .regs rfl

theorem State.icxReset_eq (s : State) (p : Nat) : s.icxReset p =
    (s.each (List.range 16) fun u t => (if u.lockHeld t && u.lockPort t == p then u.lockBroken t else u).icxWithdraw p t).icxShow := rfl

theorem State.icxReset_regsOn (s : State) {P : Nat → Prop} (hL : ¬ P Adr.ICX_LOCKSTAT) (hE : ¬ P (Adr.PEVT Pg.ICX)) (hT : ¬ P Adr.ICX_TAGSTAT)
    (hQ : ∀ k < 16, ¬ P (Adr.ICX_TGTSTAT k)) (p : Nat) : State.RegsOn P s (s.icxReset p) := by
  have hbroken (u : State) (t : Nat) : State.RegsOn P u (u.lockBroken t) :=
    ((((u.setFlag_regsOn hL _ _).trans (.of_regs (State.setIcx_regs ..))).trans (State.setFlag_regsOn _ hL _ _)).trans
      (.of_regs (State.setIcx_regs ..))).trans (State.raise_regsOn _ hE 0)
  rw [State.icxReset_eq]
  refine (s.each_regsOn fun u t _ => ?_).trans (State.icxShow_regsOn _ hT hQ)
  refine State.RegsOn.trans ?_ (.of_regs (State.icxWithdraw_regs ..))
  split
  · exact hbroken u t
  · exact .refl

/-! ### Waiting commands are answered GMS_DOWN (R403) -/

section
variable (s : State)

/-- STATUS of a pair's area shows an answer with result r to the doorbell's SEQ as it stands. -/
def State.Shows (r pair : Nat) (s : State) : Prop := s.mword (mbxBase pair + 4) = w32 (r * 65536 + (s.byte (mbxBase pair)).toNat)

/-- An answer leaves every area's SEQ. -/
theorem State.mbxDone_seq (d r pair : Nat) : (s.mbxDone d r []).byte (mbxBase pair) = s.byte (mbxBase pair) := by
  rw [State.byte_congr (State.mbxDone_mem ..)]
  by_cases h : d = pair
  · unfold State.mbxWrite State.putWord
    rw [h, State.byte_putBytes_ne _ _ (by simp), State.byte_putBytes_ne _ _ (by simp), State.putBytes]
  · exact s.mbxWrite_byte_ne pair d r h 0 (by decide)

theorem State.mbxDone_shows (d r : Nat) : State.Shows r d (s.mbxDone d r []) := by
  unfold State.Shows
  rw [State.mbxDone_seq, State.mword_congr (State.mbxDone_mem ..), State.mbxWrite_status]

theorem State.mbxDone_shows_mono {r pair : Nat} (d : Nat) (h : State.Shows r pair s) : State.Shows r pair (s.mbxDone d r []) := by
  by_cases hd : d = pair
  · rw [← hd]
    exact s.mbxDone_shows d r
  · unfold State.Shows
    rw [State.mbxDone_seq, State.mword_congr (State.mbxDone_mem ..), State.mbxWrite_mword_ne _ pair d r hd 4 (by decide), h]

/-- Every waiting command is answered r, with no response. -/
def State.answerAll (s : State) (r : Nat) : State := s.each s.gms.doors fun t d => t.mbxDone d r []

theorem State.answerAll_regsOn (r : Nat) : State.RegsOn (· ≠ Adr.PEVT Pg.MBX) s (s.answerAll r) :=
  s.each_regsOn fun t d _ => ⟨fun _ ha => t.mbxDone_reg d r [] ha⟩

theorem State.answerAll_answered (r : Nat) {pair : Nat} (h : pair ∈ s.gms.doors) : s.Answered pair r (s.answerAll r) := by
  have hseq : (s.answerAll r).byte (mbxBase pair) = s.byte (mbxBase pair) :=
    List.foldlRecOn (motive := fun u : State => u.byte (mbxBase pair) = s.byte (mbxBase pair)) _ _ rfl fun u hu d _ => by
      rw [State.mbxDone_seq, hu]
  have hshows : State.Shows r pair (s.answerAll r) :=
    State.each_reaches (Q := State.Shows r) (fun t d => t.mbxDone_shows d r) (fun t d _ ht => t.mbxDone_shows_mono d ht) h s
  unfold State.Shows at hshows
  rwa [hseq] at hshows

/-- No doorbell waits afterwards; the rest of GMS is as it was. -/
theorem State.answerAll_gms (r : Nat) : (s.answerAll r).gms = { s.gms with doors := [] } := by
  obtain ⟨l, hl, hsub⟩ : ∃ l, (s.answerAll r).gms = { s.gms with doors := l } ∧ ∀ d ∈ l, d ∈ s.gms.doors :=
    List.foldlRecOn (motive := fun u : State => ∃ l, u.gms = { s.gms with doors := l } ∧ ∀ d ∈ l, d ∈ s.gms.doors) _ _
      ⟨_, rfl, fun _ h => h⟩ fun u ⟨l, hl, hsub⟩ d _ => by
        rw [State.mbxDone_gms, hl]
        exact ⟨_, rfl, fun e he => hsub e (List.mem_of_mem_filter he)⟩
  have hgone : ∀ d ∈ s.gms.doors, d ∉ (s.answerAll r).gms.doors := fun d hd =>
    State.each_reaches (Q := fun d t => d ∉ t.gms.doors) (fun t d => by simp) (fun t e d h => by simp [h]) hd s
  rw [hl] at hgone ⊢
  rw [List.eq_nil_iff_forall_not_mem.mpr fun d hd => hgone d (hsub d hd) hd]

end

/-! ### GMS goes down and comes back (R61, R412) -/

section
variable (s : State)

/-- GMS's requests withdrawn, the cause shown, the waiting commands answered. -/
def State.downAnswered (s : State) : State := ((s.icxReset 4).setFlag Adr.SYS_RSTCAUSE 7 true).answerAll 1

/-- A commit that GMS broke off: its bank is spoilt, and it will be repeated. -/
def State.commitBroken (s : State) : State :=
  if s.flag Adr.MBX_GSTAT 9 then
    ((s.spoilBank bbMagic bb0 bb1 0x100000).setFld Adr.MBX_GSTAT 10 9 0).setGms { s.gms with repeatCommit := true, snap := none }
  else s

theorem State.gmsDown_eq : s.gmsDown =
    s.downAnswered.commitBroken.setGms { s.downAnswered.commitBroken.gms with
      restarting := true, challenge := none, download := none, session := [] } := rfl

theorem State.downWithdrawn_within : s.WithinM 6146 ((s.icxReset 4).setFlag Adr.SYS_RSTCAUSE 7 true) :=
  (State.setFlag_within ..).step rfl (State.icxReset_within s 4)

theorem State.downAnswered_gms : s.downAnswered.gms = { s.gms with doors := [] } := by
  have hgms : ((s.icxReset 4).setFlag Adr.SYS_RSTCAUSE 7 true).gms = s.gms := s.downWithdrawn_within.same .gms rfl
  unfold State.downAnswered
  rw [State.answerAll_gms, hgms]

theorem State.downAnswered_answered {pair : Nat} (h : pair ∈ s.gms.doors) : s.Answered pair 1 s.downAnswered := by
  have hgms : ((s.icxReset 4).setFlag Adr.SYS_RSTCAUSE 7 true).gms = s.gms := s.downWithdrawn_within.same .gms rfl
  have hmem : ((s.icxReset 4).setFlag Adr.SYS_RSTCAUSE 7 true).mem = s.mem := s.downWithdrawn_within.same .mem rfl
  have hans := State.answerAll_answered ((s.icxReset 4).setFlag Adr.SYS_RSTCAUSE 7 true) 1 (by rw [hgms]; exact h)
  unfold State.Answered at hans ⊢
  rwa [State.byte_congr hmem] at hans

theorem State.downAnswered_cause : s.downAnswered.flag Adr.SYS_RSTCAUSE 7 = true := by
  unfold State.downAnswered
  rw [(State.answerAll_regsOn _ 1).flag (by decide)]
  exact State.flag_setFlag_self _ _ _ (by decide)

theorem State.downAnswered_commit (i : Nat) : s.downAnswered.flag Adr.MBX_GSTAT i = s.flag Adr.MBX_GSTAT i := by
  have hreset : State.RegsOn (· = Adr.MBX_GSTAT) s (s.icxReset 4) := s.icxReset_regsOn (by decide) (by decide) (by decide) (by decide) 4
  exact ((hreset.trans (State.setFlag_regsOn _ (by decide) 7 true)).trans ((State.answerAll_regsOn _ 1).mono (by rintro a rfl; decide))).flag rfl i

/-- The banks of the black box lie in MRAM, below the mailbox. -/
theorem State.commitBroken_byte {a : Nat} (h : 0x50000000 ≤ a) : s.commitBroken.byte a = s.byte a := by
  have hspoil : (s.spoilBank bbMagic bb0 bb1 0x100000).byte a = s.byte a := by
    have ht : s.targetBank bbMagic bb0 bb1 0x100000 ≤ 0x11D00000 := by
      rcases s.targetBank_cases bbMagic bb0 bb1 0x100000 with hb | hb <;> rw [hb] <;> decide
    refine (s.byte_clearMem _ 16 a).trans (if_neg (by omega))
  unfold State.commitBroken
  split
  · exact hspoil
  · rfl

theorem State.commitBroken_answered {t : State} {pair r : Nat} (h : t.Answered pair r s) : t.Answered pair r s.commitBroken := by
  have hword : s.commitBroken.mword (mbxBase pair + 4) = s.mword (mbxBase pair + 4) := by
    unfold State.mword State.bytes
    rw [List.map_congr_left fun i _ => s.commitBroken_byte (a := mbxBase pair + 4 + i) (by unfold mbxBase; omega)]
  exact hword.trans h

theorem State.commitBroken_regsOn : State.RegsOn (· ≠ Adr.MBX_GSTAT) s s.commitBroken := by
  unfold State.commitBroken
  split
  · exact ((State.RegsOn.of_regs ((State.spoilBank_within ..).same .regs rfl)).trans (State.setFld_regsOn _ (by simp) 10 9 0)).trans
      (State.setGms_regsOn _ _)
  · exact .refl

/-- The GMS state after the break, but for what the restart itself drops. -/
theorem State.commitBroken_gms : ∃ sn rc, s.commitBroken.gms = { s.gms with snap := sn, repeatCommit := rc } := by
  unfold State.commitBroken
  split
  · exact ⟨_, _, rfl⟩
  · exact ⟨_, _, rfl⟩

/-- With a commit in progress both its bits go out, and it is marked to be repeated. -/
theorem State.commitBroken_busy (h : s.flag Adr.MBX_GSTAT 9 = true) :
    s.commitBroken.flag Adr.MBX_GSTAT 9 = false ∧ s.commitBroken.flag Adr.MBX_GSTAT 10 = false ∧ s.commitBroken.gms.repeatCommit = true := by
  have hreg : s.commitBroken.reg Adr.MBX_GSTAT = setBits (s.reg Adr.MBX_GSTAT) 10 9 0 := by
    unfold State.commitBroken
    rw [if_pos h, State.setGms_reg, State.reg_setFld, if_pos rfl]
    rfl
  refine ⟨?_, ?_, ?_⟩
  · rw [State.flag_eq, hreg, bit_setBits _ _ _ _ _ (by decide)]
    rfl
  · rw [State.flag_eq, hreg, bit_setBits _ _ _ _ _ (by decide)]
    rfl
  · unfold State.commitBroken
    rw [if_pos h]
    rfl

theorem State.commitStart_gms : ∃ sn, s.commitStart.gms = { s.gms with snap := sn } := by
  unfold State.commitStart
  split
  · exact ⟨_, rfl⟩
  split
  · exact ⟨_, rfl⟩
  · exact ⟨_, rfl⟩

variable {s}

theorem gmsRestart_goesDown (h : s.gmsRuns = true) :
    ∃ t, exec (.gmsRestart false) s = .next t ∧ t.gms.restarting = true ∧ t.gms.doors = [] ∧ t.gms.session = []
      ∧ t.gms.challenge = none ∧ t.gms.download = none ∧ t.flag Adr.SYS_RSTCAUSE 7 = true
      ∧ (∀ pair : Fin 2, pair.val ∈ s.gms.doors → s.Answered pair 1 t)
      ∧ (s.flag Adr.MBX_GSTAT 9 = true → t.flag Adr.MBX_GSTAT 9 = false ∧ t.flag Adr.MBX_GSTAT 10 = false ∧ t.gms.repeatCommit = true) := by
  have hu : s.onGms State.gmsDown = s.gmsDown := if_pos h
  obtain ⟨x, y, hsettle⟩ := s.gmsDown.settle_gms
  have hregs : State.RegsOn (fun _ => True) s.downAnswered.commitBroken s.gmsDown := State.setGms_regsOn _ _
  obtain ⟨sn, rc, hbroken⟩ := s.downAnswered.commitBroken_gms
  rw [State.downAnswered_gms] at hbroken
  have hdoors : s.gmsDown.settle.gms.doors = [] := by
    rw [hsettle, State.gmsDown_eq]
    exact congrArg Gms.doors hbroken
  refine ⟨s.gmsDown.settle, congrArg done hu, ?restarting, hdoors, ?session, ?challenge, ?download, ?cause, ?answers, ?commit⟩
  case restarting => rw [hsettle]; rfl
  case session => rw [hsettle]; rfl
  case challenge => rw [hsettle]; rfl
  case download => rw [hsettle]; rfl
  case cause =>
    rw [State.settle_flag _ (by decide), hregs.flag trivial, (State.commitBroken_regsOn _).flag (by decide), State.downAnswered_cause]
  case answers =>
    intro pair hp
    have hans : s.Answered pair 1 s.downAnswered.commitBroken := State.commitBroken_answered _ (s.downAnswered_answered hp)
    unfold State.Answered at hans ⊢
    rw [State.mword_congr (State.settle_mem _)]
    exact hans
  case commit =>
    intro hc
    obtain ⟨h9, h10, hrepeat⟩ := s.downAnswered.commitBroken_busy ((s.downAnswered_commit 9).trans hc)
    refine ⟨?_, ?_, ?_⟩
    · rw [State.settle_flag _ (by decide), hregs.flag trivial, h9]
    · rw [State.settle_flag _ (by decide), hregs.flag trivial, h10]
    · rw [hsettle]
      exact hrepeat

theorem gmsRestart_comesBack (h : s.gms.restarting = true) :
    ∃ t, exec (.gmsRestart true) s = .next t ∧ t.gms.restarting = false ∧ t.gms.repeatCommit = false
      ∧ (s.gms.repeatCommit = true → t.flag Adr.MBX_GSTAT 9 = true) ∧ s.KeepsBut [Adr.MBX_GSTAT] t := by
  let u := s.setGms { s.gms with restarting := false, repeatCommit := false }
  let v := if s.gms.repeatCommit then u.commitStart else u
  have hv : (if s.gms.restarting then s.gmsBack else s) = v := if_pos h
  have hgms : ∃ sn, v.gms = { u.gms with snap := sn } := by
    unfold v
    split
    · exact u.commitStart_gms
    · exact ⟨_, rfl⟩
  have hframe : State.RegsOn (· ∉ [Adr.MBX_GSTAT]) s v := by
    refine (s.setGms_regsOn _).trans (t := u) ?_
    unfold v
    split
    · exact u.commitStart_regsOn (by decide)
    · exact .refl
  have hmem : v.mem = s.mem :=
    (State.WithinM.ite (m := 130) (fun _ => u.commitStart_within) (fun _ => .refl ..)).same .mem (s := u) rfl
  obtain ⟨sn, hgms⟩ := hgms
  obtain ⟨x, y, hsettle⟩ := v.settle_gms
  rw [hgms] at hsettle
  refine ⟨v.settle, congrArg done hv, by rw [hsettle]; rfl, by rw [hsettle]; rfl, fun hr => ?_, hframe.keepsBut hmem⟩
  have hstart : v = u.commitStart := if_pos hr
  rw [State.settle_flag _ (by decide), hstart, u.commitStart_running rfl]

end

/-- Settles O22: a request to switch on by what its domains need, a powered domain by its rise and its groups' self-tests, and GMS's restart by
what each of its stages leaves. -/
theorem domainsAndGms : Obligations.DomainsAndGms := by
  unfold Obligations.DomainsAndGms
  intro s
  refine ⟨?accepted, ?refused, ?powered, ?down, ?back⟩
  case accepted => exact fun pair a hc hlen ha hb hform hmet => pdReq_switchesOn hc hlen ha hb hform hmet
  case refused => exact fun pair a d r hc hlen ha hb hform hd hbit hu hr hru hrb => pdReq_refused hc hlen ha hb hform hd hbit hu hr hru hrb
  case powered => exact fun d h hn => domainPowered_shows h hn
  case down => exact gmsRestart_goesDown
  case back => exact gmsRestart_comesBack

end Sys2Proof.Machine
end

section
/-! SUPPORT. Shroud's state (R145 to R148): what entering a state, leaving COMMISSION and selecting again leave in it and in STATE. -/

namespace Sys2Proof.Machine

/-! ### STATE of Shroud's page is written by entering a state alone -/

/-- STATE of Shroud's page. -/
abbrev ShrdState (a : Nat) : Prop := a = Adr.SHRD_STATE

section
variable (s : State)

theorem cstat_not_state (ch : Nat) : ¬ ShrdState (cstat ch) := by
  have hmod := cstat_mod ch
  unfold ShrdState Adr.SHRD_STATE
  omega

theorem gstat_not_state (ch : Nat) : ¬ ShrdState (Adr.GGRP_GSTAT (groupOf ch)) := by unfold ShrdState Adr.GGRP_GSTAT Adr.SHRD_STATE; omega

theorem State.cutGroup_state (g : Nat) (cut : Bool) : State.RegsOn ShrdState s (s.cutGroup g cut) := by
  have hsupply (u : State) (up : Bool) : State.RegsOn ShrdState u (u.groupSupply g up) := u.groupSupply_regsOn cstat_not_state g up
  unfold State.cutGroup
  dsimp only
  split
  · exact .refl
  split
  · exact (s.setShroud_regsOn _).trans (hsupply _ _)
  · exact s.setShroud_regsOn _

theorem State.restoreGroup_state (g : Nat) : State.RegsOn ShrdState s (s.restoreGroup g) := by
  unfold State.restoreGroup
  split
  · exact s.cutGroup_state g false
  · exact .refl

theorem State.dcdcPhases_state (act : Nat) : State.RegsOn ShrdState s (s.dcdcPhases act false) := by
  refine (s.setFld_regsOn (by decide) 19 16 act).trans (State.each_regsOn _ fun t k hk => ?_)
  have hadr : ∀ k ∈ [0, 1, 2, 3], ¬ ShrdState (Adr.DCDC_TRIM (k + 1)) := by decide
  split
  · exact .refl
  · exact t.setReg_regsOn (hadr k hk) _

theorem State.putSetp_state (c : Nat) (v : Word) : State.RegsOn ShrdState s (s.putSetp c 1 v) :=
  s.setReg_regsOn (by unfold ShrdState Adr.TRIM_SETP0 Adr.SHRD_STATE; omega) v

theorem State.dcdcEnter_state (st : Nat) : State.RegsOn ShrdState s (s.dcdcEnter st) := by
  unfold State.dcdcEnter
  split
  · exact .refl
  · exact (s.setFld_regsOn (by decide) 2 0 st).trans (State.raise_regsOn _ (by decide) 0)

theorem State.dcdcShroud_state : State.RegsOn ShrdState s s.dcdcShroud := by
  have hgated (u : State) (a b : Nat) : State.RegsOn ShrdState u ((u.gateUnit a 15).gateUnit b 15) := .of_regs rfl
  have hhalt : State.RegsOn ShrdState s (s.dcdcHalt 0) :=
    (((s.dcdcPhases_state 0).trans (hgated ..)).trans (State.putSetp_state ..)).trans (State.dcdcEnter_state _ 0)
  unfold State.dcdcShroud State.dcdcTrip
  split
  · exact .refl
  split
  · exact (hhalt.trans (State.setReg_regsOn _ (by decide) _)).trans (State.raise_regsOn _ (by decide) 3)
  · exact .refl

theorem State.obcEnter_state (st : Nat) : State.RegsOn ShrdState s (s.obcEnter st) := by
  have hgate (u : State) : State.RegsOn ShrdState u u.obcGate := .of_regs ((State.obcGate_within u).same .regs rfl)
  have hwire (u : State) : State.RegsOn ShrdState u u.pilotWire := (u.setFlag_regsOn (by decide) 13 _).trans (State.setShroud_regsOn _ _)
  have hlamps (u : State) : State.RegsOn ShrdState u u.pilotS2.lampRefresh :=
    (u.setFlag_regsOn (by decide) 12 _).trans (.of_regs ((State.lampRefresh_within _).same .regs rfl))
  unfold State.obcEnter
  extract_lets t
  have ht : State.RegsOn ShrdState s t := by
    unfold t
    split
    · exact .refl
    · exact (s.setFld_regsOn (by decide) 2 0 st).trans (State.raise_regsOn _ (by decide) 0)
  exact ((ht.trans (hgate _)).trans (hwire _)).trans (hlamps _)

theorem State.obcShroud_state : State.RegsOn ShrdState s s.obcShroud := by
  unfold State.obcShroud State.obcEnd
  split
  · exact .refl
  split
  · exact .refl
  extract_lets fast o o1 t
  have ht : State.RegsOn ShrdState s t :=
    ((State.RegsOn.of_regs (State.setObc_regs ..)).trans (State.setFlag_regsOn _ (by decide) 14 false)).trans (State.setReg_regsOn _ (by decide) _)
  exact (ht.trans (t.obcEnter_state 6)).trans (State.when_regsOn _ (fun u => u.raise_regsOn (by decide) 3) _)

theorem State.pathAll_state : State.RegsOn ShrdState s s.pathAll := by
  unfold State.pathAll
  extract_lets t
  have ht : State.RegsOn ShrdState s t := by
    refine s.each_regsOn fun u g _ => ?_
    exact ((State.when_regsOn _ (fun v => v.raise_regsOn (by decide) 4) _).trans (.of_regs (State.putGroup_regs ..))).trans
      (State.restoreGroup_state _ g)
  exact (((ht.trans (State.refreshGroups_regsOn cstat_not_state gstat_not_state _)).trans (.of_regs (State.refreshSrd_regs _))).trans
    (State.dcdcShroud_state _)).trans (State.obcShroud_state _)

theorem State.reselect_state : State.RegsOn ShrdState s s.reselect := by
  have hlines (u : State) : State.RegsOn ShrdState u u.shroudLines := .of_regs rfl
  have hshow (u : State) : State.RegsOn ShrdState u u.shroudShow :=
    (u.setReg_regsOn (by decide) _).trans (State.setReg_regsOn _ (by decide) _)
  exact (((s.setShroud_regsOn _).trans (hlines _)).trans (State.pathAll_state _)).trans (hshow _)

/-! ### The channels' states -/

/-- Both channels are in a state. -/
def State.InState (s : State) (st : Nat) : Prop := s.shroud.a.state = st ∧ s.shroud.b.state = st

theorem Channel.selectAgain_state (rule : Channel → Nat → Gst) (c : Channel) (l : List Nat) : (c.selectAgain rule l).state = c.state :=
  List.foldlRecOn (motive := fun k : Channel => k.state = c.state) _ _ rfl fun _ h _ _ => h

variable {s} in
/-- Selecting again changes no state. -/
theorem State.reselect_inState {st : Nat} (h : s.InState st) : s.reselect.InState st := by
  unfold State.reselect
  extract_lets pick
  have hstate (b : Bool) (c : Channel) : (pick b c).state = c.state := Channel.selectAgain_state _ c _
  have hsame := ((State.shroudLines_sameChannels (s.setShroud { s.shroud with a := pick false s.shroud.a, b := pick true s.shroud.b })).trans
    (State.pathAll_sameChannels _)).past (State.shroudShow_within _) rfl
  unfold State.InState
  rw [hsame.a, hsame.b]
  exact ⟨(hstate false _).trans h.1, (hstate true _).trans h.2⟩

variable {s} in
/-- A state that the channels are not in yet is entered and shown. -/
theorem State.shroudEnter_enters {st : Nat} (h : s.shroud.a.state ≠ st) :
    (s.shroudEnter st).InState st ∧ (s.shroudEnter st).reg Adr.SHRD_STATE = w32 st := by
  unfold State.shroudEnter
  rw [if_neg fun hin => h hin.1]
  constructor
  · unfold State.InState
    rw [State.raise_shroud]
    exact ⟨rfl, rfl⟩
  · rw [State.raise_reg_ne _ _ _ (by decide), State.reg_setReg_self]

variable {s} in
theorem State.enterReselect {st : Nat} (h : s.shroud.a.state ≠ st) :
    (s.shroudEnter st).reselect.InState st ∧ (s.shroudEnter st).reselect.reg Adr.SHRD_STATE = w32 st := by
  obtain ⟨hstate, hreg⟩ := State.shroudEnter_enters h
  exact ⟨State.reselect_inState hstate, ((State.reselect_state _).same _ rfl).trans hreg⟩

theorem State.enterReselect_within (st : Nat) : s.WithinM 13077874690 (s.shroudEnter st).reselect :=
  (State.reselect_within _).step rfl ((s.shroudEnter_within st).step rfl (.refl ..))

end

end Sys2Proof.Machine
end

section
/-! SUPPORT. SLEEP, COLD_RESET, COMMISSION and ICX_CFG (R53, R61, R110, R148, R404), and the settling of their statement. -/

namespace Sys2Proof.Machine

/-! ### SLEEP and COLD_RESET (R53, R61) -/

section
variable {s : State} {pair : Fin 2}

/-- No contactor output is on and no gate group is enabled. -/
def State.Idle (s : State) : Prop := s.fld Adr.CTR_STAT 31 24 = 0 ∧ ∀ g : Fin 6, s.pageEn (Pg.GGRP g) = false

theorem State.offRefusal_eq_zero : s.offRefusal = 0 ↔ s.Idle := by
  have hgroups : ((List.range 6).any fun g => s.pageEn (Pg.GGRP g)) = false ↔ ∀ g : Fin 6, s.pageEn (Pg.GGRP g) = false := by
    rw [List.any_eq_false]
    exact ⟨fun h g => by simpa using h g (List.mem_range.mpr g.isLt), fun h g hg => by simpa using h ⟨g, List.mem_range.mp hg⟩⟩
  unfold State.offRefusal State.Idle
  rw [← hgroups]
  split_ifs <;> simp_all

theorem State.sleepRefusal_eq_zero :
    s.sleepRefusal = 0 ↔ s.Idle ∧ s.flag Adr.MBX_GSTAT 9 = false ∧ s.wakeActive &&& s.reg Adr.SYS_WAKEEN = 0#32 := by
  rw [← State.offRefusal_eq_zero]
  unfold State.sleepRefusal
  split_ifs <;> simp_all

/-- GO, and sleep to follow the commit. -/
def State.sleepAsked (s : State) : State := (s.setFlag Adr.SYS_SLEEPCTRL 0 true).setAfter .sleep

theorem State.sleepAsked_regsOn : State.RegsOn (· ∉ [Adr.SYS_SLEEPCTRL]) s s.sleepAsked :=
  (s.setFlag_regsOn (by decide) 0 true).trans (State.setGms_regsOn _ _)

theorem State.sleepAsked_starts (hr : s.gms.restarting = false) (hc : s.flag Adr.MBX_GSTAT 9 = false) : s.sleepAsked.commitStart =
    (s.sleepAsked.setFlag Adr.MBX_GSTAT 9 true).setGms { s.sleepAsked.gms with snap := some s.gms.bb } :=
  State.commitStart_idle _ hr ((State.sleepAsked_regsOn.flag (by decide) 9).trans hc)

theorem sleep_accepted (hc : s.Calls pair 0x11 0) (hidle : s.Idle) (hcommit : s.flag Adr.MBX_GSTAT 9 = false)
    (hwake : s.wakeActive &&& s.reg Adr.SYS_WAKEEN = 0#32) :
    ∃ t, exec (.sleep pair) s = .next t ∧ s.Answered pair 0 t
      ∧ t.flag Adr.SYS_SLEEPCTRL 0 = true ∧ t.gms.after = .sleep ∧ t.flag Adr.MBX_GSTAT 9 = true ∧ t.gms.snap = some s.gms.bb
      ∧ s.RegsBut [Adr.PEVT Pg.MBX, Adr.SYS_SLEEPCTRL, Adr.MBX_GSTAT] t ∧ s.MemButMailbox t := by
  have ⟨_, _, hrestart, _⟩ := hc
  have hf : s.sleepGo = (s.sleepAsked.commitStart, 0, []) :=
    if_neg (not_not.mpr (State.sleepRefusal_eq_zero.mpr ⟨hidle, hcommit, hwake⟩))
  have hmem : s.sleepAsked.commitStart.mem = s.mem := (State.commitStart_within _).same .mem rfl
  have hframe : State.RegsOn (· ∉ [Adr.SYS_SLEEPCTRL, Adr.MBX_GSTAT]) s s.sleepAsked.commitStart :=
    (State.sleepAsked_regsOn.mono fun a ha => by simp_all).trans (State.commitStart_regsOn _ (by decide))
  obtain ⟨d, x, y, hgms⟩ := State.answeredFrom_gms s.sleepAsked.commitStart pair 0 []
  refine ⟨_, hc.run hf, State.answeredFrom_status hmem, ?go, ?after, ?running, ?snap, hframe.answered, State.answeredFrom_memBut hmem⟩
  case go =>
    rw [State.answeredFrom_flag (by decide) (by decide), (State.commitStart_regsOn (P := (· = Adr.SYS_SLEEPCTRL)) _ (by decide)).flag rfl]
    exact State.flag_setFlag_self _ _ _ (by decide)
  case after =>
    rw [hgms]
    exact State.commitStart_after _
  case running =>
    rw [State.answeredFrom_flag (by decide) (by decide)]
    exact State.commitStart_running _ hrestart
  case snap =>
    rw [hgms, State.sleepAsked_starts hrestart hcommit]
    rfl

theorem sleep_refused (hc : s.Calls pair 0x11 0)
    (hwhy : s.fld Adr.CTR_STAT 31 24 ≠ 0 ∨ (∃ g : Fin 6, s.pageEn (Pg.GGRP g) = true) ∨ s.flag Adr.MBX_GSTAT 9 = true ∨
      s.wakeActive &&& s.reg Adr.SYS_WAKEEN ≠ 0#32) :
    ∃ t, exec (.sleep pair) s = .next t ∧ s.Answered pair 4 t ∧ t.gms.after = s.gms.after
      ∧ s.RegsBut [Adr.PEVT Pg.MBX] t ∧ s.MemButMailbox t := by
  have hne : s.sleepRefusal ≠ 0 := fun h0 => by
    obtain ⟨⟨hctr, hgroups⟩, hcommit, hwake⟩ := State.sleepRefusal_eq_zero.mp h0
    rcases hwhy with h | ⟨g, h⟩ | h | h
    · exact h hctr
    · exact Bool.false_ne_true ((hgroups g).symm.trans h)
    · exact Bool.false_ne_true (hcommit.symm.trans h)
    · exact h hwake
  have hf : s.sleepGo = (s, 4, wordBytes (w32 s.sleepRefusal)) := if_pos hne
  obtain ⟨d, x, y, hgms⟩ := s.answeredFrom_gms pair 4 (wordBytes (w32 s.sleepRefusal))
  exact ⟨_, hc.run hf, State.answeredFrom_status rfl, by rw [hgms], State.RegsOn.refl.answered, State.answeredFrom_memBut rfl⟩

theorem coldReset_accepted (hc : s.Calls pair 0x12 0) (hidle : s.Idle) :
    ∃ t, exec (.coldReset pair) s = .next t ∧ s.Answered pair 0 t ∧ t.gms.after = .coldReset 3 ∧ t.flag Adr.MBX_GSTAT 9 = true
      ∧ s.RegsBut [Adr.PEVT Pg.MBX, Adr.MBX_GSTAT] t ∧ s.MemButMailbox t := by
  have ⟨_, _, hrestart, _⟩ := hc
  have hf : s.ansColdReset = (s.coldResetGo 3, 0, []) := if_neg (not_not.mpr (State.offRefusal_eq_zero.mpr hidle))
  have hmem : (s.coldResetGo 3).mem = s.mem := (State.commitStart_within _).same .mem rfl
  obtain ⟨d, x, y, hgms⟩ := (s.coldResetGo 3).answeredFrom_gms pair 0 []
  refine ⟨_, hc.run hf, State.answeredFrom_status hmem, ?after, ?running, (s.coldResetGo_regsOn (by decide) 3).answered,
    State.answeredFrom_memBut hmem⟩
  case after => rw [hgms]; exact s.coldResetGo_after 3
  case running => rw [State.answeredFrom_flag (by decide) (by decide), s.coldResetGo_running 3 hrestart]

end

/-! ### COMMISSION (R148) -/

section
variable {s : State} {pair : Fin 2}

theorem commission_enters (hc : s.Calls pair 0x30 2) (hlen : 4 ≤ s.reqLen pair) (hw : s.reqWord pair 0 = 1#32) (hok : s.commissionRefusal = 0) :
    ∃ t, exec (.commission pair) s = .next t
      ∧ s.Answered pair 0 t ∧ t.shroud.a.state = 2 ∧ t.shroud.b.state = 2 ∧ t.reg Adr.SHRD_STATE = 2#32 ∧ t.kept = s.kept := by
  have hoperate : s.shroud.a.state = 1 := by
    by_contra hne
    rw [State.commissionRefusal, if_pos hne] at hok
    exact absurd hok (by decide)
  have hf : s.ansCommission pair = ((s.shroudEnter 2).reselect, 0, []) := by
    unfold State.ansCommission
    rw [hw]
    dsimp only
    rw [if_neg (by simp ; omega), if_pos rfl, if_neg (not_not.mpr hok)]
    rfl
  obtain ⟨⟨ha, hb⟩, hreg⟩ := State.enterReselect (s := s) (st := 2) (by omega)
  have hwithin := s.enterReselect_within 2
  refine ⟨_, hc.run hf, State.answeredFrom_status (hwithin.same .mem rfl), ?_, ?_, ?_, ?_⟩
  · rw [State.answeredFrom_shroud, ha]
  · rw [State.answeredFrom_shroud, hb]
  · rw [State.answeredFrom_reg _ _ _ _ (by decide) (by decide), hreg]
    rfl
  · rw [State.answeredFrom_kept]
    exact hwithin.same .kept rfl

/-- Shroud's configuration is stored, and taken as loaded and compared. -/
def State.configStored (s : State) : State :=
  let t := s.setKept { s.kept with config := some s.shroudConfig }
  t.setShroud { t.shroud with cfgOk := true, cfgLoaded := true }

theorem State.commissionLeave_eq : s.commissionLeave = (s.configStored.shroudEnter 0).reselect := rfl

theorem commission_leaves (hc : s.Calls pair 0x30 2) (hlen : 4 ≤ s.reqLen pair) (hw : s.reqWord pair 0 = 0#32) (hin : s.shroud.a.state = 2) :
    ∃ t, exec (.commission pair) s = .next t
      ∧ s.Answered pair 0 t ∧ t.shroud.a.state = 0 ∧ t.shroud.b.state = 0 ∧ t.reg Adr.SHRD_STATE = 0#32
      ∧ t.kept.config = some s.shroudConfig ∧ t.pwr.writes = s.pwr.writes + 1 := by
  have hf : s.ansCommission pair = (s.commissionLeave.mramWrote, 0, []) := by
    unfold State.ansCommission
    rw [hw]
    dsimp only
    rw [if_neg (by simp ; omega), if_neg (by decide), if_neg (not_not.mpr hin)]
    rfl
  have hne : s.configStored.shroud.a.state ≠ 0 := by
    rw [show s.configStored.shroud.a.state = s.shroud.a.state from rfl, hin]
    decide
  obtain ⟨⟨ha, hb⟩, hreg⟩ := State.enterReselect hne
  rw [← State.commissionLeave_eq] at ha hb hreg
  have hwithin := s.configStored.enterReselect_within 0
  have hkept : s.commissionLeave.kept = s.configStored.kept := hwithin.same .kept rfl
  have hpwr : s.commissionLeave.pwr = s.pwr := hwithin.same .pwr rfl
  have hmem : s.commissionLeave.mramWrote.mem = s.mem := by
    rw [State.mramWrote, State.setPwr_mem]
    exact s.commissionLeave_within.same .mem rfl
  refine ⟨_, hc.run hf, State.answeredFrom_status hmem, ?_, ?_, ?_, ?_, ?_⟩
  · rw [State.answeredFrom_shroud, State.mramWrote, State.setPwr_shroud, ha]
  · rw [State.answeredFrom_shroud, State.mramWrote, State.setPwr_shroud, hb]
  · rw [State.answeredFrom_reg _ _ _ _ (by decide) (by decide), State.mramWrote, State.setPwr_reg, hreg]
    rfl
  · rw [State.answeredFrom_kept, State.mramWrote, State.setPwr_kept, hkept]
    rfl
  · rw [State.answeredFrom_pwr, State.mramWrote, State.setPwr_pwr, hpwr]

end

/-! ### ICX_CFG (R110) -/

section
variable {s : State} {pair : Fin 2}

/-- Registers at distinct addresses, each made to hold its word. -/
theorem State.each_setReg {adr : Nat → Nat} (hinj : Function.Injective adr) (v : Nat → Word) {l : List Nat} {k : Nat} (hk : k ∈ l) (t : State) :
    (t.each l fun u j => u.setReg (adr j) (v j)).reg (adr k) = v k :=
  State.each_reaches (Q := fun k u => u.reg (adr k) = v k) (fun u k => u.reg_setReg_self _ _) (fun u j k h => by
    rw [State.reg_setReg]
    split
    next he => rw [hinj he]
    next => exact h) hk t

/-- A wait limit as ICX_CFG stores it: the low byte of its word, at least 4. -/
theorem limitField_wait (w : Word) : limitField (w &&& 0xFF#32) 7 0 4 255 = w32 (max 4 (bits w 7 0)) := by
  have hcut : bits (w &&& 0xFF#32) 7 0 = bits w 7 0 := bits_ext (bits_lt w 7 0) fun k hk => by
    have hones : bit 0xFF#32 k = true := by interval_cases k <;> rfl
    rw [bits_testBit, Nat.zero_add, bit_and, hones, Bool.and_true, decide_eq_true hk, Bool.true_and]
  have hlt := bits_lt w 7 0
  have hclear : w &&& 0xFF#32 &&& ~~~fieldMask 7 0 = 0#32 := by
    rw [BitVec.and_assoc, show (0xFF#32 &&& ~~~fieldMask 7 0) = 0#32 by decide, BitVec.and_zero]
  have hclamp : clampNat 4 255 (bits w 7 0) = max 4 (bits w 7 0) := by
    unfold clampNat
    split_ifs <;> omega
  unfold limitField setBits
  rw [hcut, hclear, hclamp, BitVec.zero_or, Nat.pow_zero, Nat.mul_one, Nat.mod_eq_of_lt (by omega)]
  rfl

/-- CLASS, with the ranks of the ports that change class. -/
def State.icxClassed (s : State) (w : Word) : State := (s.setReg Adr.ICX_CLASS w).icxClasses (s.reg Adr.ICX_CLASS)

/-- The wait limits of the targets. -/
def State.icxWaits (s : State) (v : Nat → Word) : State := s.each (List.range 16) fun t k => t.setReg (Adr.ICX_WAITLIM k) (v k)

/-- The budgets of the ports. -/
def State.icxBudgets (s : State) (v : Nat → Word) : State := s.each (List.range 12) fun t p => t.setReg (Adr.TBU_BUDGET p) (v p)

/-- Both pages' CRCs are due. -/
def State.icxTouched (s : State) : State := (s.crcTouch Pg.ICX).crcTouch Pg.TBU

theorem State.icxClassed_regsOn {P : Nat → Prop} (h : ¬ P Adr.ICX_CLASS) (w : Word) : State.RegsOn P s (s.icxClassed w) :=
  (s.setReg_regsOn h w).trans (.of_regs ((State.icxClasses_within ..).same .regs rfl))

theorem State.icxClassed_class (w : Word) : (s.icxClassed w).reg Adr.ICX_CLASS = w := by
  have hregs : State.RegsOn (fun _ => True) (s.setReg Adr.ICX_CLASS w) (s.icxClassed w) := .of_regs ((State.icxClasses_within ..).same .regs rfl)
  rw [hregs.same _ trivial, State.reg_setReg_self]

theorem State.icxWaits_regsOn {P : Nat → Prop} (h : ∀ k < 16, ¬ P (Adr.ICX_WAITLIM k)) (v : Nat → Word) : State.RegsOn P s (s.icxWaits v) :=
  s.each_regsOn fun t k hk => t.setReg_regsOn (h k (List.mem_range.mp hk)) _

theorem State.icxBudgets_regsOn {P : Nat → Prop} (h : ∀ k < 12, ¬ P (Adr.TBU_BUDGET k)) (v : Nat → Word) : State.RegsOn P s (s.icxBudgets v) :=
  s.each_regsOn fun t k hk => t.setReg_regsOn (h k (List.mem_range.mp hk)) _

theorem State.icxTouched_regsOn {P : Nat → Prop} (hI : ¬ P (Adr.PSTAT Pg.ICX)) (hT : ¬ P (Adr.PSTAT Pg.TBU)) : State.RegsOn P s s.icxTouched :=
  (s.setFlag_regsOn hI 31 true).trans (State.setFlag_regsOn _ hT 31 true)

theorem icxCfg_writes (hc : s.Calls pair 0x14 0) (hlen : 116 ≤ s.reqLen pair) :
    ∃ t, exec (.icxCfg pair) s = .next t ∧ s.Answered pair 0 t
      ∧ t.reg Adr.ICX_CLASS = s.reqWord pair 0 &&& 0xFFFFFF#32
      ∧ (∀ k : Fin 16, t.reg (Adr.ICX_WAITLIM k) = w32 (max 4 (bits (s.reqWord pair (1 + k)) 7 0)))
      ∧ (∀ p : Fin 12, t.reg (Adr.TBU_BUDGET p) = s.reqWord pair (17 + p) &&& 0xFFFF#32)
      ∧ s.RegsBut ([Adr.PEVT Pg.MBX, Adr.ICX_CLASS, Adr.PSTAT Pg.ICX, Adr.PSTAT Pg.TBU] ++ (List.range 16).map Adr.ICX_WAITLIM
          ++ (List.range 12).map Adr.TBU_BUDGET) t ∧ s.MemButMailbox t := by
  let c := s.icxClassed (s.reqWord pair 0 &&& 0xFFFFFF#32)
  let w := c.icxWaits fun k => limitField (s.reqWord pair (1 + k) &&& 0xFF#32) 7 0 4 255
  let b := w.icxBudgets fun p => s.reqWord pair (17 + p) &&& 0xFFFF#32
  have hf : s.ansIcxCfg pair = (b.icxTouched, 0, []) := if_neg (by omega)
  have hmem : b.icxTouched.mem = s.mem := by
    have hall := (s.ansIcxCfg_within pair).same .mem rfl
    rw [hf] at hall
    exact hall
  have hwaits : State.RegsOn (· = Adr.ICX_CLASS) c b.icxTouched :=
    ((State.icxWaits_regsOn (by decide) _).trans (State.icxBudgets_regsOn (by decide) _)).trans (State.icxTouched_regsOn (by decide) (by decide))
  have hbudgets (k : Fin 16) : State.RegsOn (· = Adr.ICX_WAITLIM k) w b.icxTouched :=
    (State.icxBudgets_regsOn (fun p _ => by unfold Adr.TBU_BUDGET Adr.ICX_WAITLIM; omega) _).trans
      (State.icxTouched_regsOn (by fin_cases k <;> decide) (by fin_cases k <;> decide))
  have htouched (p : Fin 12) : State.RegsOn (· = Adr.TBU_BUDGET p) b b.icxTouched :=
    State.icxTouched_regsOn (by fin_cases p <;> decide) (by fin_cases p <;> decide)
  have hframe : State.RegsOn (· ∉ [Adr.ICX_CLASS, Adr.PSTAT Pg.ICX, Adr.PSTAT Pg.TBU] ++ (List.range 16).map Adr.ICX_WAITLIM
      ++ (List.range 12).map Adr.TBU_BUDGET) s b.icxTouched :=
    (((State.icxClassed_regsOn (by simp) _).trans (State.icxWaits_regsOn (by decide) _)).trans (State.icxBudgets_regsOn (by decide) _)).trans
      (State.icxTouched_regsOn (by simp) (by simp))
  refine ⟨_, hc.run hf, State.answeredFrom_status hmem, ?cls, ?waits, ?budgets, hframe.answered, State.answeredFrom_memBut hmem⟩
  case cls => rw [State.answeredFrom_reg _ _ _ _ (by decide) (by decide), hwaits.same _ rfl, State.icxClassed_class]
  case waits =>
    intro k
    rw [State.answeredFrom_reg _ _ _ _ (by fin_cases k <;> decide) (by fin_cases k <;> decide), (hbudgets k).same _ rfl, ← limitField_wait]
    exact State.each_setReg (fun i j h => by unfold Adr.ICX_WAITLIM at h; omega)
      (fun k => limitField (s.reqWord pair (1 + k) &&& 0xFF#32) 7 0 4 255) (List.mem_range.mpr k.isLt) c
  case budgets =>
    intro p
    rw [State.answeredFrom_reg _ _ _ _ (by fin_cases p <;> decide) (by fin_cases p <;> decide), (htouched p).same _ rfl]
    exact State.each_setReg (fun i j h => by unfold Adr.TBU_BUDGET at h; omega) (fun p => s.reqWord pair (17 + p) &&& 0xFFFF#32)
      (List.mem_range.mpr p.isLt) w

end

/-- Settles O23: each request by the state that its meaning leaves, answered by GMS (`State.Calls.run`). -/
theorem systemRequests : Obligations.SystemRequests := by
  unfold Obligations.SystemRequests
  intro pair s
  refine ⟨?sleeps, ?stays, ?resets, ?enters, ?leaves, ?icx⟩
  case sleeps => exact fun hc hctr hgroups hcommit hwake => sleep_accepted hc ⟨hctr, hgroups⟩ hcommit hwake
  case stays => exact fun hc hwhy => sleep_refused hc hwhy
  case resets => exact fun hc hctr hgroups => coldReset_accepted hc ⟨hctr, hgroups⟩
  case enters => exact fun hc hlen hw hok => commission_enters hc hlen hw hok
  case leaves => exact fun hc hlen hw hin => commission_leaves hc hlen hw hin
  case icx => exact fun hc hlen => icxCfg_writes hc hlen

end Sys2Proof.Machine
end

section
/-! SUPPORT. Interrupt lines (R91): the registers that assert them are none of the IRQPEND registers, and every command and every tick ends by showing
them. -/

namespace Sys2Proof.Machine

section
variable {s t : State}

theorem irqReg_eq_false {a : Nat} (h : a ≠ 0x11060 ∧ a ≠ 0x11064 ∧ a ≠ 0x12060 ∧ a ≠ 0x12064) : irqReg a = false := by
  simp [irqReg, Adr.EVR_IRQPEND, h]

theorem irqReg_pairStat (n : Nat) : irqReg (Adr.PAIR_STAT n) = false := irqReg_eq_false (by unfold Adr.PAIR_STAT; omega)

theorem irqReg_spend (n : Fin 2) {k : Nat} (h : k < 8) : irqReg (Adr.EVR_SPEND n k) = false :=
  irqReg_eq_false (by unfold Adr.EVR_SPEND; omega)

theorem irqReg_route (n : Fin 2) {e : Nat} (h : e < 256) : irqReg (Adr.EVR_ROUTE n e) = false :=
  irqReg_eq_false (by unfold Adr.EVR_ROUTE; omega)

theorem State.pendingSources_lt {n e : Nat} (h : e ∈ s.pendingSources n) : e < 256 := by
  obtain ⟨k, hk, he⟩ := List.mem_flatMap.mp h
  have hk8 := List.mem_range.mp hk
  dsimp only at he
  split at he
  · simp at he
  · obtain ⟨b, hb, rfl⟩ := List.mem_map.mp he
    have hb32 := List.mem_range.mp (List.mem_filter.mp hb).1
    omega

theorem State.RegsOn.pendingSources (h : State.RegsOn (irqReg · = false) s t) (n : Fin 2) : t.pendingSources n = s.pendingSources n :=
  List.flatMap_congr fun k hk => by rw [h.same _ (irqReg_spend n (List.mem_range.mp hk))]

/-- The lines hang on registers other than IRQPEND alone: MODE, SPEND and ROUTE. -/
theorem State.RegsOn.irqLines (h : State.RegsOn (irqReg · = false) s t) (n c : Fin 2) : t.irqLines n c = s.irqLines n c := by
  have hmode : t.pairMode n = s.pairMode n := h.fld (irqReg_pairStat n) ..
  have hroute : ∀ w, ∀ e ∈ s.pendingSources n, w ||| t.routeLine n c e = w ||| s.routeLine n c e := fun w e he => by
    rw [State.routeLine, h.same _ (irqReg_route n (State.pendingSources_lt he)), State.routeLine]
  unfold State.irqLines
  rw [hmode, h.pendingSources, List.foldl_ext _ _ _ hroute]

variable (s)

theorem State.settleIrq_reg (n c : Fin 2) : s.settleIrq.reg (Adr.EVR_IRQPEND n c) = s.irqLines n c := by
  fin_cases n <;> fin_cases c <;> simp [State.settleIrq, State.reg_setReg, Adr.EVR_IRQPEND]

theorem State.settleIrq_regsOn : State.RegsOn (irqReg · = false) s s.settleIrq :=
  (((s.setReg_regsOn (by decide) _).trans (State.setReg_regsOn _ (by decide) _)).trans (State.setReg_regsOn _ (by decide) _)).trans
    (State.setReg_regsOn _ (by decide) _)

/-- What follows every command and every tick shows the lines. -/
theorem State.settle_irqShown : s.settle.IrqShown := fun n c => by
  rw [State.settle, State.settleIrq_reg, (State.settleIrq_regsOn _).irqLines]

end

/-- Every row that completes ends with what follows every command; the eight rows that check their operands do so past the check. -/
theorem exec_settles {c : Instr} {s t : State} (h : exec c s = .next t) : ∃ u : State, u.settle = t := by
  cases c
  case transactionIssue | lrW | scW | amo | trimMemoryWrite =>
    exact (ite_eq_iff.mp h).elim (fun e => ⟨_, Host.Outcome.next.inj e.2⟩) fun e => nomatch e.2
  case aliasWrite | registerWrite | testerConfigWrite =>
    delta exec execAliasWrite execRegisterWrite execTesterConfigWrite at h
    dsimp only at h
    split at h
    · exact ⟨_, Host.Outcome.next.inj h⟩
    · cases h
  all_goals exact ⟨_, Host.Outcome.next.inj h⟩

theorem step_settles {s t : State} (h : step s = .next t) : ∃ u : State, u.settle = t := by
  unfold step at h
  split at h
  · exact ⟨_, Host.Outcome.next.inj h⟩
  · exact exec_settles h

/-- Settles O4: every step ends with what follows every command, whose last act is to write the lines into IRQPEND, and no line hangs on IRQPEND. -/
theorem interruptLinesAreShown : Obligations.InterruptLinesAreShown := by
  unfold Obligations.InterruptLinesAreShown
  intro s t h
  obtain ⟨u, rfl⟩ := step_settles h
  exact u.settle_irqShown

end Sys2Proof.Machine
end

section
/-! SUPPORT. Registers written by a port (R72 to R79): the answer it gets, what a refused write leaves alone and where it is logged, and what is written
of POWNER and PKEY. -/

namespace Sys2Proof.Machine

/-! ### The access and its answer -/

/-- A port's write with its answer: OK, or a bus error with the reason of the refusal. -/
def State.writeDone (port : Nat) (x : State × Option Nat) : State := x.1.answer port (x.2.elim (.ok []) .err)

section
variable (port : Nat) (x : State × Option Nat)

theorem State.writeDone_resp : ((State.writeDone port x).settle.port port).resp = x.2.elim (.ok []) .err := State.answer_settle_resp ..

theorem State.writeDone_reg {a : Nat} (h : irqReg a = false) : (State.writeDone port x).settle.reg a = x.1.reg a := State.settle_reg _ h

theorem State.writeDone_flag {a : Nat} (h : irqReg a = false) (i : Nat) : (State.writeDone port x).settle.flag a i = x.1.flag a i :=
  State.settle_flag _ h i

theorem State.writeDone_page (q : Nat) : (State.writeDone port x).settle.page q = x.1.page q := by
  unfold State.page
  rw [State.settle_pages]
  rfl

theorem State.writeDone_mem : (State.writeDone port x).settle.mem = x.1.mem := State.settle_mem _

theorem State.writeDone_keepsBut {s : State} {l : List Nat} (h : State.RegsOn (· ∉ l) s x.1) (hm : x.1.mem = s.mem) :
    s.KeepsBut l (State.writeDone port x).settle :=
  State.RegsOn.keepsBut (h.trans (.of_regs rfl)) hm

end

/-- The mode of a write through the set or the clear address range (R77). -/
def aliasMode (clear : Bool) : WriteMode := if clear then .clear else .set

theorem aliasAddr_toNat {a : Nat} (clear : Bool) (h : a < 0x200000) : (BitVec.ofNat 32 (aliasAddr clear a)).toNat = aliasAddr clear a := by
  unfold aliasAddr
  rw [BitVec.toNat_ofNat]
  cases clear <;> simp only [Bool.false_eq_true, if_false, if_true] <;> omega

theorem targetOf_alias {a : Nat} (clear : Bool) (h : a < 0x200000) : targetOf (aliasAddr clear a) = some (12 + a / 0x100000) := by
  unfold targetOf aliasAddr
  cases clear
  · simp only [Bool.false_eq_true, if_false]
    repeat rw [if_neg (by omega)]
    rw [if_pos (by omega), Nat.add_sub_cancel_left]
  · simp only [if_true]
    repeat rw [if_neg (by omega)]
    rw [if_pos (by omega), Nat.add_sub_cancel_left]

theorem writeMode_alias {a : Nat} (clear : Bool) (h : a < 0x200000) : writeMode (aliasAddr clear a) = aliasMode clear := by
  unfold writeMode aliasAddr aliasMode
  cases clear
  · simp only [Bool.false_eq_true, if_false]
    rw [if_neg (by omega), if_pos (by omega)]
  · simp only [if_true]
    rw [if_neg (by omega), if_neg (by omega)]

section
variable (s : State) {port a : Nat} (w : Word)

theorem State.portStore_live (ha : a < 0x200000) (hl : s.portLive port = true) :
    s.portStore port a w = State.writeDone port (s.regWrite port (w32 (busAddr a)) a .plain w) := by
  rw [State.portStore_eq _ _ _ _ ha, if_pos hl]
  unfold State.writeDone w32
  split <;> rename_i e <;> rw [e] <;> rfl

/-- A write through such a range is a write of the register itself in the mode of the range (R77). -/
theorem State.aliasStore_live (clear : Bool) (ha : a < 0x200000) (hl : s.portLive port = true) :
    s.perform port (writeTxn (aliasAddr clear a) w) =
      State.writeDone port (s.regWrite port (w32 (aliasAddr clear a)) a (aliasMode clear) w) := by
  have hq : a / 0x100000 = 0 ∨ a / 0x100000 = 1 := by omega
  have hmod : aliasAddr clear a % 0x1000000 = a := by unfold aliasAddr; split <;> omega
  unfold State.perform State.access writeTxn State.writeDone w32
  rw [if_pos hl]
  dsimp only
  rw [aliasAddr_toNat clear ha, targetOf_alias clear ha]
  rcases hq with hq | hq <;> rw [hq] <;>
  · simp only [State.pageAccess, aliasAddr_toNat clear ha, hmod, writeMode_alias clear ha, bytesNat_wordBytes, ne_eq, not_true_eq_false, or_self, if_false,
      if_true]
    split <;> rename_i e <;> simp [e]

theorem State.portStore_dead (a : Nat) (hl : s.portLive port = false) : s.portStore port a w = s := by
  unfold State.portStore State.perform
  rw [hl]
  rfl

theorem State.aliasStore_dead (clear : Bool) (a : Nat) (hl : s.portLive port = false) : s.perform port (writeTxn (aliasAddr clear a) w) = s := by
  unfold State.perform
  rw [hl]
  rfl

end

theorem regOffset_busAddr {a : Nat} (ha : a < 0x200000) (h4 : a % 4 = 0) : regOffset (w32 (busAddr a)).toNat = some a := by
  unfold regOffset w32
  rw [busAddr_toNat ha, if_pos (by omega), Nat.add_sub_cancel_left]

theorem exec_registerWrite (port : Port) {a : Nat} (w : Word) (s : State) (ha : a < 0x200000) (h4 : a % 4 = 0) :
    exec (.registerWrite port (w32 (busAddr a)) w) s = done (s.portStore port a w) := by
  change execRegisterWrite .. = _
  unfold execRegisterWrite
  rw [regOffset_busAddr ha h4]

theorem exec_aliasWrite (port : Port) (clear : Bool) {a : Nat} (w : Word) (s : State) (ha : a < 0x200000) (h4 : a % 4 = 0) :
    exec (.aliasWrite port clear (w32 (busAddr a)) w) s = done (s.perform port (writeTxn (aliasAddr clear a) w)) := by
  change execAliasWrite .. = _
  unfold execAliasWrite
  rw [regOffset_busAddr ha h4]

theorem pageRow_lt {p : Nat} (h : (pageRow p).isSome = true) : p < 0x163 := by
  obtain ⟨r, hr⟩ := Option.isSome_iff_exists.mp h
  have hp := List.find?_some hr
  have hm := List.mem_of_find?_eq_some hr
  have hall : ∀ r ∈ pageMap, r.page + r.count ≤ 0x163 := by decide
  have hle := hall r hm
  simp only [Bool.and_eq_true, decide_eq_true_eq] at hp
  omega

theorem State.pageStore_eq (s : State) (port : Nat) {p : Nat} (off : Nat) (w : Word) (h : p < 512) :
    s.pageStore port p off w = s.portStore port (4096 * p + off) w := if_pos (decide_eq_true h)

/-! ### Refusals (R72, R74) -/

/-- The registers in which a refused access shows: the access logs of both routers and their events. -/
def refusalRegs : List Nat :=
  [Adr.EVR_ACCADDR 0, Adr.EVR_ACCINFO 0, Adr.PEVT (Pg.EVR 0), Adr.EVR_ACCADDR 1, Adr.EVR_ACCINFO 1, Adr.PEVT (Pg.EVR 1)]

/-- The same with the event of an access to a page without power (R48). -/
def offRegs : List Nat := Adr.PEVT Pg.SYS :: refusalRegs

section
variable (s : State) (port : Nat) (addr : Word) (reason : Nat) (write : Bool)

theorem State.logAcc_regsOn {P : Nat → Prop} {n : Nat} (hA : ¬ P (Adr.EVR_ACCADDR n)) (hI : ¬ P (Adr.EVR_ACCINFO n)) (hE : ¬ P (Adr.PEVT (Pg.EVR n))) :
    State.RegsOn P s (s.logAcc n port addr reason write) := by
  unfold State.logAcc
  extract_lets info s1 e bb
  have hs1 : State.RegsOn P s s1 := by
    unfold s1
    split
    · exact s.bump_regsOn hI 15 8
    · exact (s.setReg_regsOn hA _).trans (State.setReg_regsOn _ hI _)
  refine (hs1.trans ?_).trans (State.raise_regsOn _ hE 0)
  exact .of_regs rfl

theorem State.logRefusal_regsOn : State.RegsOn (· ∉ refusalRegs) s (s.logRefusal port addr reason write) := by
  have h0 (t : State) := t.logAcc_regsOn port addr reason write (P := (· ∉ refusalRegs)) (n := 0) (by decide) (by decide) (by decide)
  have h1 (t : State) := t.logAcc_regsOn port addr reason write (P := (· ∉ refusalRegs)) (n := 1) (by decide) (by decide) (by decide)
  unfold State.logRefusal
  split
  · exact h0 s
  split
  · exact h1 s
  split
  · exact .of_regs rfl
  · exact ((h0 s).trans (h1 _)).trans (.of_regs rfl)

theorem State.refuseOff_regsOn : State.RegsOn (· ∉ offRegs) s (s.refuseOff port addr write).1 :=
  (s.raise_regsOn (by decide) 1).trans ((State.logRefusal_regsOn ..).mono fun _ hb hm => hb (List.mem_cons_of_mem _ hm))

theorem State.logRefusal_mem : (s.logRefusal port addr reason write).mem = s.mem := (State.logRefusal_within ..).same .mem rfl

end

theorem ite_eq_or_of {α : Type} {c q : Prop} {_ : Decidable c} {x y : α} (h : c → q) : (if c then x else y) = y ∨ q ∧ (if c then x else y) = x := by
  split
  next hc => exact .inr ⟨h hc, rfl⟩
  next => exact .inl rfl

section
variable (s : State) (port : Nat) (bus : Word) (a : Nat) (m : WriteMode) (w : Word) {r : BlockRow} (hr : pageRow (a / 4096) = some r)
include hr

theorem State.regWrite_off (hon : s.pageOn (a / 4096) = false) : s.regWrite port bus a m w = s.refuseOff port bus true := by
  unfold State.regWrite
  simp [hr, hon]

/-- A port that is no core and not GMS writes no register of a page. -/
theorem State.regWrite_port (hon : s.pageOn (a / 4096) = true) (hp : 5 ≤ port) : s.regWrite port bus a m w = s.refuse port bus Reason.port true := by
  unfold State.regWrite
  simp [hr, hon, hp]

/-- An owner's write that a check refuses; what a network page's rings fail shows in its PFAULT (R447). -/
theorem State.regWrite_refused (hon : s.pageOn (a / 4096) = true) (hp : port < 5) (ho : s.ownerPort (a / 4096) port = true)
    (h18 : a % 4096 ≠ 0x18) (h1C : a % 4096 ≠ 0x1C) {reason : Nat} (hw : s.refusalOf port a m w = some reason) :
    ∃ t, (t = s.setKey (a / 4096) .idle ∨ (r.blk = .can ∨ r.blk = .eth) ∧ t = (s.setKey (a / 4096) .idle).fault (a / 4096) 0)
      ∧ s.regWrite port bus a m w = t.refuse port bus reason true := by
  unfold State.refusalOf at hw
  have hkey : ∀ k : Key, k.after port none = .idle := fun _ => rfl
  unfold State.regWrite
  simp only [hr, hon, ho, h18, h1C, hkey, show ¬ 5 ≤ port by omega, Bool.not_true, Bool.false_eq_true, if_false, if_true, false_and, State.setKey_reg, hw]
  exact ⟨_, ite_eq_or_of fun h => h.2.1, rfl⟩

/-- A write of a register but POWNER and PKEY is refused, and only the registers of refusals and PFAULT change, or its port owns the page and no check
refuses it. -/
theorem State.regWrite_refused_or (h18 : a % 4096 ≠ 0x18) (h1C : a % 4096 ≠ 0x1C) :
    (State.RegsOn (· ∉ Adr.PFAULT (a / 4096) :: offRegs) s (s.regWrite port bus a m w).1) ∨
      (s.pageOn (a / 4096) = true ∧ port < 5 ∧ s.ownerPort (a / 4096) port = true ∧ s.refusalOf port a m w = none) := by
  have hlog (t : State) (reason : Nat) : State.RegsOn (· ∉ Adr.PFAULT (a / 4096) :: offRegs) t (t.logRefusal port bus reason true) :=
    (t.logRefusal_regsOn ..).mono fun _ hb hm => hb (List.mem_cons_of_mem _ (List.mem_cons_of_mem _ hm))
  cases hon : s.pageOn (a / 4096)
  · rw [s.regWrite_off port bus a m w hr hon]
    exact .inl ((s.refuseOff_regsOn ..).mono fun _ hb hm => hb (List.mem_cons_of_mem _ hm))
  by_cases hp : 5 ≤ port
  · rw [s.regWrite_port port bus a m w hr hon hp]
    exact .inl (hlog ..)
  have hp5 : port < 5 := by omega
  cases ho : s.ownerPort (a / 4096) port
  · rw [s.regWrite_notOwner port bus a m w hr hon hp5 ho h18]
    exact .inl (hlog ..)
  cases hw : s.refusalOf port a m w with
  | none => exact .inr ⟨rfl, hp5, rfl, rfl⟩
  | some reason =>
    obtain ⟨t, ht, he⟩ := s.regWrite_refused port bus a m w hr hon hp5 ho h18 h1C hw
    have hst : State.RegsOn (· ∉ Adr.PFAULT (a / 4096) :: offRegs) s t := by
      rcases ht with rfl | ⟨-, rfl⟩
      · exact s.setKey_regsOn _ _
      · exact (s.setKey_regsOn _ _).trans (State.setFlag_regsOn _ (by simp) 0 true)
    rw [he]
    exact .inl (hst.trans (hlog ..))

end

end Sys2Proof.Machine
end

section
/-! SUPPORT. PCTRL when blocks stop (R69 to R71): what a block does as it stops, goes to reset or looks again at its neighbours writes no PCTRL. -/

namespace Sys2Proof.Machine

/-- The address of some page's PCTRL. -/
abbrev CtrlReg (a : Nat) : Prop := a % 4096 = 4

/-! ### Blocks that stop -/

section
variable (s : State)

theorem State.raise_ctrl (p i : Nat) : State.RegsOn CtrlReg s (s.raise p i) := s.raise_regsOn (by unfold CtrlReg Adr.PEVT; omega) i

theorem cstat_not_ctrl (ch : Nat) : ¬ CtrlReg (cstat ch) := by
  have hmod := cstat_mod ch
  unfold CtrlReg
  omega

theorem gstat_not_ctrl (ch : Nat) : ¬ CtrlReg (Adr.GGRP_GSTAT (groupOf ch)) := by unfold CtrlReg Adr.GGRP_GSTAT; omega

theorem State.gatesRefresh_ctrl : State.RegsOn CtrlReg s s.gatesRefresh := State.gatesRefresh_regsOn cstat_not_ctrl gstat_not_ctrl s

/-- The source check writes SRCERR of a group or of LVDRV and raises its event (R237). -/
theorem State.setUser_regsOn {P : Nat → Prop} (hG : ∀ g, ¬ P (Adr.GGRP_GSTAT g)) (hL : ¬ P Adr.LVDRV_STAT)
    (hE : ∀ p, ¬ P (Adr.PEVT p)) (x : Nat) (ok : Bool) : State.RegsOn P s (s.setUser x ok) := by
  unfold State.setUser
  extract_lets b g l s1 s2 s3
  have h1 : State.RegsOn P s s1 := by
    unfold s1
    split
    · exact .of_regs (State.putGroup_regs ..)
    · exact .of_regs (State.setLvdrv_regs ..)
  have h2 : State.RegsOn P s s2 := h1.trans (s1.setFlag_regsOn (hG x) 9 _)
  have h3 : State.RegsOn P s s3 := h1.trans (s1.setFlag_regsOn hL 1 _)
  split
  · split
    · exact h2
    · exact h2.trans (s2.raise_regsOn (hE _) 3)
  · split
    · exact h3
    · exact h3.trans (s3.raise_regsOn (hE _) 1)

theorem State.sourceCheck_regsOn {P : Nat → Prop} (hG : ∀ g, ¬ P (Adr.GGRP_GSTAT g)) (hL : ¬ P Adr.LVDRV_STAT) (hE : ∀ p, ¬ P (Adr.PEVT p)) :
    State.RegsOn P s s.sourceCheck := by
  refine s.each_regsOn fun t x _ => ?_
  split
  · exact t.setUser_regsOn hG hL hE x _
  split
  · split
    · exact .refl
    · exact .of_regs (State.putGroup_regs ..)
  · exact .of_regs (State.setLvdrv_regs ..)

theorem State.gates_ctrl : State.RegsOn CtrlReg s s.sourceCheck.gatesRefresh :=
  (s.sourceCheck_regsOn (fun g => by unfold CtrlReg Adr.GGRP_GSTAT; omega) (by decide) (fun p => by unfold CtrlReg Adr.PEVT; omega)).trans
    (State.gatesRefresh_ctrl _)

theorem cmpStat_not_ctrl (k : Nat) : ¬ CtrlReg (cmpStat k) := by unfold CtrlReg cmpStat Adr.CMPB_STAT; omega

theorem State.tripAll_ctrl : State.RegsOn CtrlReg s s.tripAll :=
  s.tripAll_regsOn (fun u _ => by unfold CtrlReg Adr.PWM_STAT; omega) (fun u _ => by unfold CtrlReg Adr.PEVT; omega)

theorem State.cmpRefresh_ctrl (k : Nat) : State.RegsOn CtrlReg s (s.cmpRefresh k) := by
  have hput (t : State) (c : Cmp) : State.RegsOn CtrlReg t (t.putCmp k c) := .of_regs (State.putCmp_regs ..)
  unfold State.cmpRefresh
  split
  · exact .refl
  split
  · exact (((s.setFlag_regsOn (cmpStat_not_ctrl k) 2 true).trans (State.setFld_regsOn _ (cmpStat_not_ctrl k) 1 0 _)).trans (hput _ _)).trans
      (State.tripAll_ctrl _)
  · exact (s.setReg_regsOn (cmpStat_not_ctrl k) _).trans (hput _ _)

theorem State.cmpPage_ctrl (n : Nat) : State.RegsOn CtrlReg s (s.cmpPage n) := s.each_regsOn fun t k _ => t.cmpRefresh_ctrl k

theorem State.sdmInvalidate_ctrl (n : Nat) : State.RegsOn CtrlReg s (s.sdmInvalidate n) :=
  ((s.putSample_regsOn ..).trans (State.setFlag_regsOn (s.invalidate n) (by unfold CtrlReg Adr.SDM_STAT; omega) 0 false)).trans
    (.of_regs (State.putSdm_regs ..))

theorem State.scdStop_ctrl (n : Nat) : State.RegsOn CtrlReg s (s.scdStop n) := by
  unfold State.scdStop
  split
  · exact .refl
  · exact s.setFlag_regsOn (by unfold CtrlReg Adr.SDM_STAT; omega) 3 false

theorem State.adcStop_ctrl (n : Nat) : State.RegsOn CtrlReg s (s.adcStop n) :=
  (s.setReg_regsOn (by unfold CtrlReg Adr.ADC_SEQSTAT; omega) _).trans (.of_regs (State.putAdc_regs ..))

theorem State.setTw_ctrl (n i : Nat) (b : Bool) (ev : Option Nat) : State.RegsOn CtrlReg s (s.setTw n i b ev) := by
  have hstat : State.RegsOn CtrlReg s (s.setFlag (Adr.TWL_STAT n) i b) := s.setFlag_regsOn (by unfold CtrlReg Adr.TWL_STAT; omega) i b
  unfold State.setTw
  split
  · exact .refl
  extract_lets t
  split
  · exact hstat.trans (State.raise_ctrl _ _ _)
  · exact hstat

theorem State.twlStop_ctrl (n : Nat) : State.RegsOn CtrlReg s (s.twlStop n) :=
  (((s.setTw_ctrl n _ _ _).trans (State.setTw_ctrl _ n _ _ _)).trans (State.setTw_ctrl _ n _ _ _)).trans (.of_regs (State.putTwl_regs ..))

theorem State.zIdle_ctrl {k : Nat} (_ : k < 4) : State.RegsOn CtrlReg s (s.zIdle k) :=
  s.setFld_regsOn (by unfold CtrlReg Adr.ZCOR_ZSTAT; omega) 1 0 0

theorem State.gateUnit_regsOn {P : Nat → Prop} (u mask : Nat) : State.RegsOn P s (s.gateUnit u mask) := .of_regs (State.putPwm_regs ..)

theorem State.pilotS2_ctrl : State.RegsOn CtrlReg s s.pilotS2 := s.setFlag_regsOn (by decide) 12 _

theorem State.pilotLamps_ctrl : State.RegsOn CtrlReg s s.pilotS2.lampRefresh :=
  s.pilotS2_ctrl.trans (.of_regs ((State.lampRefresh_within _).same .regs rfl))

theorem State.pilotRelimit_ctrl : State.RegsOn CtrlReg s s.pilotRelimit := by
  have hstat (b : Bool) : State.RegsOn CtrlReg s (s.setFlag Adr.PILOT_STAT 11 b) := s.setFlag_regsOn (by decide) 11 b
  unfold State.pilotRelimit
  extract_lets duty osc lim t
  split
  · exact hstat _
  · exact ((hstat _).trans (t.setFld_regsOn (by decide) 11 0 lim)).trans (State.raise_ctrl _ _ _)

theorem State.ctrOutputs_ctrl : State.RegsOn CtrlReg s s.ctrOutputs :=
  (s.setFld_regsOn (by decide) 31 24 _).trans (.of_regs (State.setCtr_regs ..))

theorem State.ctrDrop_ctrl (cause : Nat) : State.RegsOn CtrlReg s (s.ctrDrop cause) := by
  have hcause (t : State) : State.RegsOn CtrlReg t (t.ctrCause cause) := t.setFld_regsOn (by decide) 11 8 cause
  have henter (t : State) : State.RegsOn CtrlReg t (t.ctrEnter 0) := by
    refine State.RegsOn.trans ?_ (State.ctrOutputs_ctrl _)
    split
    · exact .refl
    · exact (t.setFld_regsOn (by decide) 2 0 0).trans (State.raise_ctrl _ _ _)
  have hctr : State.RegsOn CtrlReg s (s.setCtr { s.ctr with negDue := false, shortOk := false }) := .of_regs (State.setCtr_regs ..)
  exact (hctr.trans (hcause _)).trans (henter _)

theorem State.hkStatus_ctrl : State.RegsOn CtrlReg s s.hkStatus :=
  (s.setFlag_regsOn (by decide) 1 _).trans (State.setFlag_regsOn _ (by decide) 0 _)

/-! ### Converter, charger and actuators -/

theorem State.putSetp_ctrl (c : Nat) {j : Nat} (hj : j < 4) (v : Word) : State.RegsOn CtrlReg s (s.putSetp c j v) := by
  have hset := s.setReg_regsOn (P := CtrlReg) (a := Adr.TRIM_SETP0 (c / 8) (c % 8) + 4 * j) (by unfold CtrlReg Adr.TRIM_SETP0; omega) v
  unfold State.putSetp
  extract_lets t
  split
  · exact hset.trans (State.setFlag_regsOn _ (by unfold CtrlReg Adr.TRIM_CSTAT; omega) ..)
  · exact hset

theorem State.dcdcDisable_ctrl : State.RegsOn CtrlReg s s.dcdcDisable := by
  have hrelease (t : State) : State.RegsOn CtrlReg t t.dcdcRelease := (t.gateUnit_regsOn _ 0).trans (State.gateUnit_regsOn _ _ 0)
  have hphases : State.RegsOn CtrlReg s (s.dcdcPhases 0 false) := by
    refine (s.setFld_regsOn (by decide) 19 16 0).trans (State.each_regsOn _ fun t k hk => ?_)
    have hk4 : k < 4 := by simp at hk; omega
    split
    · exact .refl
    · exact t.setReg_regsOn (by unfold CtrlReg Adr.DCDC_TRIM; omega) _
  have henter (t : State) : State.RegsOn CtrlReg t (t.dcdcEnter 0) := by
    unfold State.dcdcEnter
    split
    · exact .refl
    · exact (t.setFld_regsOn (by decide) 2 0 0).trans (State.raise_ctrl _ _ _)
  have hhalt : State.RegsOn CtrlReg s (s.dcdcHalt 0) :=
    (((hphases.trans (State.gateUnit_regsOn _ _ 15)).trans (State.gateUnit_regsOn _ _ 15)).trans (State.putSetp_ctrl _ _ (by decide) _)).trans
      (henter _)
  unfold State.dcdcDisable
  split
  · exact hrelease s
  · exact hhalt.trans (hrelease _)

theorem State.obcEnter_ctrl (st : Nat) : State.RegsOn CtrlReg s (s.obcEnter st) := by
  have hgate (u : State) : State.RegsOn CtrlReg u u.obcGate := .of_regs ((State.obcGate_within u).same .regs rfl)
  have hwire (u : State) : State.RegsOn CtrlReg u u.pilotWire := (u.setFlag_regsOn (by decide) 13 _).trans (State.setShroud_regsOn _ _)
  unfold State.obcEnter
  extract_lets t
  have ht : State.RegsOn CtrlReg s t := by
    unfold t
    split
    · exact .refl
    · exact (s.setFld_regsOn (by decide) 2 0 st).trans (State.raise_ctrl _ _ _)
  exact ((ht.trans (hgate _)).trans (hwire _)).trans (State.pilotLamps_ctrl _)

theorem State.obcDisable_ctrl : State.RegsOn CtrlReg s s.obcDisable := by
  unfold State.obcDisable
  extract_lets o t rel
  have ht : State.RegsOn CtrlReg s t := (State.RegsOn.of_regs (State.setObc_regs ..)).trans (State.obcEnter_ctrl _ 0)
  have hrel (u : State) (c : Nat) : State.RegsOn CtrlReg u (rel u c) := by
    unfold rel
    split
    · exact u.gateUnit_regsOn _ 0
    · exact .refl
  exact (ht.trans (hrel _ _)).trans (hrel _ _)

theorem State.actDisable_ctrl (n : Nat) : State.RegsOn CtrlReg s (s.actDisable n) := by
  have hstat : ¬ CtrlReg (Adr.ACT_STAT n) := by unfold CtrlReg Adr.ACT_STAT; omega
  have henter (t : State) : State.RegsOn CtrlReg t (t.actEnter n 0) := by
    unfold State.actEnter
    split
    · exact .refl
    · exact (t.setFld_regsOn hstat 1 0 0).trans (State.raise_ctrl _ _ _)
  have hleave (t : State) : State.RegsOn CtrlReg t (t.actLeave n 0) :=
    (((t.gateUnit_regsOn _ 7).trans (State.setReg_regsOn _ (by unfold CtrlReg Adr.ACT_DUTY; omega) _)).trans (.of_regs (State.putAct_regs ..))).trans
      (henter _)
  exact (((s.setFlag_regsOn hstat 9 false).trans (hleave _)).trans (State.gateUnit_regsOn _ _ 0)).trans (.of_regs (State.putPwm_regs ..))

/-! ### Rings (R391, R394) -/

theorem State.txResult_ctrl (k i tag result : Nat) : State.RegsOn CtrlReg s (s.txResult k i tag result) := by
  have hdma (u : State) (a : Nat) (l : List Byte) : State.RegsOn CtrlReg u (u.dmaPut a l) := .of_regs ((State.dmaPut_within ..).same .regs rfl)
  exact ((hdma ..).trans (State.raise_ctrl _ _ 1)).trans (State.when_regsOn _ (fun u => u.raise_ctrl _ 2) _)

theorem State.txFlush_ctrl (k n : Nat) : State.RegsOn CtrlReg s (State.txFlush n s k) := by
  induction n generalizing s with
  | zero => exact .refl
  | succ n ih =>
    unfold State.txFlush
    extract_lets i
    split
    · exact .refl
    · exact ((s.txResult_ctrl k i 0 4).trans (State.setReg_regsOn _ (by unfold CtrlReg Adr.EFR_TQHEAD; omega) _)).trans (ih _)

theorem State.txAbort_ctrl (k : Nat) : State.RegsOn CtrlReg s (s.txAbort k) := by
  unfold State.txAbort
  extract_lets t
  have ht : State.RegsOn CtrlReg s t :=
    List.foldlRecOn (motive := fun u : State => State.RegsOn CtrlReg s u) _ _ .refl fun u h e _ => h.trans (u.txResult_ctrl k e.2.index e.1 4)
  exact ((ht.trans (.of_regs (State.putRing_regs ..))).trans (State.setReg_regsOn _ (by unfold CtrlReg Adr.EFR_TAGS; omega) _)).trans
    (State.txFlush_ctrl _ k 256)

theorem State.ringStop_ctrl (k : Nat) : State.RegsOn CtrlReg s (s.ringStop k) := by
  have hstat : ¬ CtrlReg (Adr.EFR_STAT k) := by unfold CtrlReg Adr.EFR_STAT; omega
  have hfold (t : State) : State.RegsOn CtrlReg t (t.setFold k false) := by
    unfold State.setFold
    split
    · exact .refl
    · exact (t.setFlag_regsOn hstat 4 false).trans (State.raise_ctrl _ _ 3)
  have henter (t : State) : State.RegsOn CtrlReg t (t.ringEnter k 0) := by
    unfold State.ringEnter
    split
    · exact .refl
    · exact (t.setFld_regsOn hstat 2 0 0).trans (State.raise_ctrl _ _ 6)
  exact (((s.txAbort_ctrl k).trans (.of_regs (State.putRing_regs ..))).trans
    (State.setFlag_regsOn _ (by unfold CtrlReg Adr.EFR_CTRL; omega) 1 false)).trans ((hfold _).trans (henter _))

/-! ### Trim engines (R183) -/

/-- A stop of a trim engine writes CSTAT, CCTRL and ESTAT of its page, and latency words of TSCH. -/
theorem State.engineStop_regsOn {P : Nat → Prop} {n : Nat} (hS : ∀ i, ¬ P (Adr.TRIM_CSTAT n i)) (hC : ∀ i, ¬ P (Adr.TRIM_CCTRL n i))
    (hE : ¬ P (Adr.TRIM_ESTAT n)) (hL : ∀ c, ¬ P (Adr.TSCH_LAT c)) : State.RegsOn P s (s.engineStop n) := by
  have hestat (t : State) : State.RegsOn P t (t.estat n) := t.setReg_regsOn hE _
  have hreport (t : State) (i : Nat) (st : CtxStatus) : State.RegsOn P t (t.ctxReport n i st) := .of_regs (State.ctxReport_regs ..)
  have hover (r : TrimRun) : State.RegsOn P s (s.runOver n r) := by
    have hput (u : State) (e : Engine) (c : Nat) (x : Ctx) : State.RegsOn P u ((u.putEngine n e).putCtx c x) := .of_regs rfl
    exact ((((s.setFld_regsOn (hS _) 13 0 _).trans (State.setFlag_regsOn _ (hS _) _ _)).trans (State.setReg_regsOn _ (hL _) _)).trans (hput ..)).trans
      (hestat _)
  have hdrop (t : State) (i : Nat) : State.RegsOn P t (t.dropPending n i) := by
    unfold State.dropPending
    split
    · exact ((t.setFlag_regsOn (hS i) _ _).trans (hreport ..)).trans (hestat _)
    · exact .refl
  have hoff (t : State) (i : Nat) : State.RegsOn P t (t.ctxOff n i) :=
    ((t.setFlag_regsOn (hC i) 0 false).trans (State.setFlag_regsOn _ (hS i) _ _)).trans (.of_regs (State.putCtx_regs ..))
  unfold State.engineStop
  extract_lets u
  have hu : State.RegsOn P s u := by
    unfold u
    split
    next r _ => exact (hover r).trans (hreport ..)
    next => exact .refl
  exact hu.trans (u.each_regsOn fun t i _ => ((hdrop t i).trans (hoff _ i)).trans (.of_regs ((State.tuneAbortSlot_within ..).same .regs rfl)))

end

/-! ### A page's block stops, and goes to reset -/

/-- The trim engines' pages lie below the page of TSCH. -/
theorem pageBlock_trim_lt {p : Nat} (h : pageBlock p = some .trim) : p < 0x44 := by
  obtain ⟨r, hr, hb⟩ := Option.map_eq_some_iff.mp h
  have hp := List.find?_some hr
  have hall : ∀ r ∈ pageMap, r.blk = .trim → r.page + r.count ≤ 0x44 := by decide
  have hle := hall r (List.mem_of_find?_eq_some hr) hb
  simp only [Bool.and_eq_true, decide_eq_true_eq] at hp
  omega

section
variable (s : State) (p : Nat)

theorem State.blockStop_pctrl : (s.blockStop p).reg (Adr.PCTRL p) = s.reg (Adr.PCTRL p) := by
  have hat {u : State} (h : State.RegsOn CtrlReg s u) : u.reg (Adr.PCTRL p) = s.reg (Adr.PCTRL p) := h.same _ (by unfold CtrlReg Adr.PCTRL; omega)
  unfold State.blockStop
  cases hb : pageBlock p with
  | none => rfl
  | some b =>
    cases b
    case trim =>
      have hp := pageBlock_trim_lt hb
      have hS (i : Nat) : ¬ Adr.TRIM_CSTAT (pageInst p) i = Adr.PCTRL p := by unfold Adr.TRIM_CSTAT Adr.PCTRL; omega
      have hC (i : Nat) : ¬ Adr.TRIM_CCTRL (pageInst p) i = Adr.PCTRL p := by unfold Adr.TRIM_CCTRL Adr.PCTRL; omega
      have hE : ¬ Adr.TRIM_ESTAT (pageInst p) = Adr.PCTRL p := by unfold Adr.TRIM_ESTAT Adr.PCTRL; omega
      have hL (c : Nat) : ¬ Adr.TSCH_LAT c = Adr.PCTRL p := by unfold Adr.TSCH_LAT Adr.PCTRL; omega
      exact (s.engineStop_regsOn (P := (· = Adr.PCTRL p)) hS hC hE hL).same _ rfl
    case pwm => exact hat ((State.RegsOn.of_regs (State.putPwm_regs ..)).trans (State.gates_ctrl (s.pwmStop (pageInst p))))
    case ggrp | lvdrv => exact hat s.gates_ctrl
    case adc => exact hat (s.adcStop_ctrl _)
    case sdm => exact hat ((s.sdmInvalidate_ctrl _).trans (State.scdStop_ctrl _ _))
    case cmpb => exact hat (s.cmpPage_ctrl _)
    case hvs => exact hat (s.hvsRefresh_regsOn (by decide))
    case twl => exact hat (s.twlStop_ctrl _)
    case efr => exact hat (s.ringStop_ctrl _)
    case zcor => exact hat (s.each_regsOn fun t k hk => t.zIdle_ctrl (by simp at hk; omega))
    case dcdc => exact hat s.dcdcDisable_ctrl
    case obc => exact hat s.obcDisable_ctrl
    case act => exact hat (s.actDisable_ctrl _)
    case pilot => exact hat s.pilotLamps_ctrl
    case ctr => exact hat (s.ctrDrop_ctrl 0)
    case twin => exact hat (s.twinOff_regsOn (by decide) (by decide))
    all_goals rfl

/-- Of the registers, a block's hidden state takes the validity bits of an ADC's results alone. -/
theorem State.blockHidden_ctrl : State.RegsOn CtrlReg s (s.blockHidden p) := by
  unfold State.blockHidden
  cases hb : pageBlock p with
  | none => exact .refl
  | some b =>
    cases b
    case adc =>
      refine (State.RegsOn.of_regs (State.putAdc_regs ..)).trans (State.each_regsOn _ fun t m hm => ?_)
      have hm16 := List.mem_range.mp hm
      exact (t.putSample_regsOn ..).trans (State.setFlag_regsOn (t.invalidate _) (by unfold CtrlReg Adr.ADC_RES; omega) 31 false)
    case evr | cmpb | hall => exact s.each_regsOn fun t k _ => .of_regs rfl
    case trim => exact (State.RegsOn.of_regs (State.putEngine_regs ..)).trans (State.each_regsOn _ fun t k _ => .of_regs rfl)
    case eth => exact .of_regs (State.setNet_regs ..)
    all_goals exact .of_regs rfl

/-- After PCTRL.SRST the page's PCTRL is as before but for EN, which is 0 (R71). -/
theorem State.softReset_pctrl {r : BlockRow} (hr : pageRow p = some r) :
    (s.softReset p).reg (Adr.PCTRL p) = setBit (s.reg (Adr.PCTRL p)) 0 false := by
  have hat {t u : State} (h : State.RegsOn CtrlReg t u) : u.reg (Adr.PCTRL p) = t.reg (Adr.PCTRL p) := h.same _ (by unfold CtrlReg Adr.PCTRL; omega)
  unfold State.softReset
  split
  next hn => rw [hr] at hn; cases hn
  next r _ =>
  extract_lets s1 s2 s3 s4
  have h1 : s1.reg (Adr.PCTRL p) = setBit (s.reg (Adr.PCTRL p)) 0 false := by
    unfold s1
    rw [State.blockStop_pctrl, State.reg_setFlag, if_pos rfl]
  have h2 : s2.reg (Adr.PCTRL p) = s1.reg (Adr.PCTRL p) := by
    unfold s2
    rw [State.reg_clearRegs, if_neg]
    unfold Adr.PCTRL
    simp only [Bool.and_eq_true, decide_eq_true_eq]
    omega
  have h3 : State.RegsOn CtrlReg s2 s3 :=
    ((s2.setReg_regsOn (by unfold CtrlReg Adr.PEVT; omega) _).trans (State.setReg_regsOn _ (by unfold CtrlReg Adr.PEVEN; omega) _)).trans
      (State.setReg_regsOn _ (by unfold CtrlReg Adr.PFAULT; omega) _)
  have h4 : State.RegsOn CtrlReg s3 s4 := (s3.blockHidden_ctrl p).trans (State.setFlag_regsOn _ (by unfold CtrlReg Adr.PSTAT; omega) 31 true)
  rw [← h1, ← h2]
  refine hat ((h3.trans h4).trans ?_)
  cases r.blk
  case ggrp => exact (s4.setReg_regsOn (by unfold CtrlReg Adr.GGRP_GSTAT; omega) _).trans (State.gates_ctrl _)
  case lvdrv | pwm => exact s4.gates_ctrl
  case cmpb => exact s4.cmpPage_ctrl _
  case hk => exact s4.hkStatus_ctrl
  case hvs => exact s4.hvsRefresh_regsOn (by decide)
  case pilot => exact s4.pilotRelimit_ctrl.trans (State.pilotLamps_ctrl _)
  case ctr => exact s4.ctrOutputs_ctrl
  all_goals exact .refl

end

end Sys2Proof.Machine
end

section
/-! SUPPORT. Writes of PCTRL (R69, R70): the fields it takes, the refusal of EN on a page with a fault, and the settling of their statement. -/

namespace Sys2Proof.Machine

/-! ### PCTRL as a register -/

theorem pctrl_div (p : Nat) : Adr.PCTRL p / 4096 = p := by unfold Adr.PCTRL; omega
theorem pctrl_mod (p : Nat) : Adr.PCTRL p % 4096 = 4 := by unfold Adr.PCTRL; omega
theorem pctrl_eq (p : Nat) : 4096 * p + 4 = Adr.PCTRL p := by unfold Adr.PCTRL; omega
theorem pctrl_lt {p : Nat} (h : p < 512) : Adr.PCTRL p < 0x200000 := by unfold Adr.PCTRL; omega

theorem irqReg_pctrl (p : Nat) : irqReg (Adr.PCTRL p) = false := irqReg_eq_false (by unfold Adr.PCTRL; omega)

/-- PCTRL (R69): EN is RW, LOCK is RW1, SAFETY is RWD. -/
def pctrlInfo : RegInfo := { RegInfo.ro with rw := 1#32, rwd := 8#32, rw1 := 4#32 }

theorem regInfo_pctrl {p : Nat} {r : BlockRow} (hr : pageRow p = some r) : regInfo p 4 = pctrlInfo := by
  unfold regInfo
  rw [hr]
  rfl

/-- EN, LOCK and SAFETY of a plain write are stored; the other bits stay. -/
theorem pctrl_next_plain (old w : Word) : pctrlInfo.next .plain old w = (old &&& ~~~0xD#32) ||| (w &&& 0xD#32) := by
  change ((old &&& ~~~(1#32 ||| 8#32 ||| 0#32 ||| 4#32)) ||| (w &&& (1#32 ||| 8#32 ||| 0#32 ||| 4#32))) &&& ~~~(w &&& 0#32) = _
  rw [BitVec.and_zero, BitVec.not_zero, BitVec.and_allOnes]
  rfl

/-- A write of EN as 1 would set it, through the page and through the set range. -/
theorem pctrl_next_en {m : WriteMode} (hm : m = .plain ∨ m = .set) {w : Word} (h : bit w 0 = true) (old : Word) :
    bit (pctrlInfo.next m old w) 0 = true := by
  rcases hm with rfl | rfl
  · rw [pctrl_next_plain, bit_or, bit_and w, h]
    exact Bool.or_true _
  · change bit (old ||| (w &&& 1#32)) 0 = true
    rw [bit_or, bit_and, h]
    exact Bool.or_true _

section
variable (s : State) {p : Nat} {r : BlockRow} (hr : pageRow p = some r)
include hr

/-- What PCTRL would hold is what its fields make of the word, but for EN on a page that STORE holds (R442). -/
theorem State.wouldHold_pctrl (m : WriteMode) (w old : Word) : s.wouldHold p 4 (regInfo p 4) m w old =
    if s.storeHeld p = true ∧ bit old 0 = false then setBit (pctrlInfo.next m old w) 0 false else pctrlInfo.next m old w := by
  unfold State.wouldHold
  rw [regInfo_pctrl hr]
  extract_lets v u
  have hu : u = v := ite_self v
  rw [hu]
  simp only [v, true_and, Bool.not_eq_true]

/-- R70: EN does not become 1 on a page with a fault; no check of a write of PCTRL comes before this one. -/
theorem State.writeRefusal_faulted {keyed : Bool} {m : WriteMode} {w old new : Word} (hold : bit old 0 = false) (hnew : bit new 0 = true)
    (hf : s.enableFaulted p = true) : s.writeRefusal p 4 keyed m (regInfo p 4) w old new = some Reason.faulted := by
  unfold State.writeRefusal
  rw [hr, regInfo_pctrl hr]
  simp [pctrlInfo, RegInfo.ro, hold, hnew, hf]

theorem State.refusalOf_faulted {port : Nat} {m : WriteMode} {w : Word} (hen : s.pageEn p = false) (hf : s.enableFaulted p = true)
    (hnew : bit ((s.setKey p .idle).wouldHold p 4 (regInfo p 4) m w (s.reg (Adr.PCTRL p))) 0 = true) :
    s.refusalOf port (Adr.PCTRL p) m w = some Reason.faulted := by
  unfold State.refusalOf
  rw [pctrl_div, pctrl_mod]
  exact State.writeRefusal_faulted _ hr hen hnew hf

/-- A write that leaves EN at 0, with or without SRST. -/
theorem State.writePctrl_disabled {srst : Bool} {old new : Word} (hold : bit old 0 = false) (hnew : bit new 0 = false) :
    (s.writePctrl p srst old new).pageEn p = false := by
  unfold State.writePctrl
  extract_lets s1 s2 s3
  have h1 : s1.pageEn p = false := by
    change bit ((s.setReg _ _).reg _) 0 = false
    rw [State.reg_setReg_self, hold, bit_setBit_self _ _ (by decide)]
  have h2 : State.RegsOn CtrlReg s1 s2 := by
    unfold s2
    split
    · exact .refl
    · exact s1.setFlag_regsOn (by unfold CtrlReg Adr.PSTAT; omega) 31 true
  have h3 : State.RegsOn CtrlReg s2 s3 := by
    unfold s3
    split
    · exact .of_regs ((State.crcLatch_within ..).same .regs rfl)
    · exact .refl
  have hen : s3.pageEn p = false := ((h2.trans h3).flag (by unfold CtrlReg Adr.PCTRL; omega) 0).trans h1
  simp only [hold, hnew, Bool.false_and, Bool.and_false, Bool.false_eq_true, if_false]
  split
  · change bit ((s3.softReset p).reg (Adr.PCTRL p)) 0 = false
    rw [State.softReset_pctrl s3 p hr, bit_setBit_self _ _ (by decide)]
  · exact hen

/-- The write of PCTRL of a disabled page with a fault: refused, or it leaves EN at 0. -/
theorem State.regWrite_keepsDisabled (port : Nat) (bus : Word) (m : WriteMode) (w : Word) (hen : s.pageEn p = false) (hf : s.enableFaulted p = true) :
    (s.regWrite port bus (Adr.PCTRL p) m w).1.pageEn p = false := by
  have hr' : pageRow (Adr.PCTRL p / 4096) = some r := by rw [pctrl_div, hr]
  have hmod := pctrl_mod p
  rcases s.regWrite_refused_or port bus (Adr.PCTRL p) m w hr' (by omega) (by omega) with h | ⟨hon, hp, ho, hw⟩
  · have hnot : Adr.PCTRL p ∉ Adr.PFAULT (Adr.PCTRL p / 4096) :: offRegs := by
      simp only [offRegs, refusalRegs, List.mem_cons, List.not_mem_nil, or_false, Adr.PFAULT, Adr.EVR_ACCADDR, Adr.EVR_ACCINFO, Adr.PEVT]
      omega
    exact (h.flag hnot 0).trans hen
  · rw [s.regWrite_pctrl port bus _ m w hr' hon hp ho hmod hw, pctrl_div, hmod]
    refine State.writePctrl_disabled _ hr hen ?_
    by_contra hnew
    rw [Bool.not_eq_false] at hnew
    rw [s.refusalOf_faulted hr hen hf hnew] at hw
    cases hw

/-- The owner's write of EN as 1 to such a page. -/
theorem State.regWrite_enRefused {port : Nat} {m : WriteMode} {w : Word} (bus : Word) (ho : s.Owns port p) (hm : m = .plain ∨ m = .set)
    (hw : bit w 0 = true) (hen : s.pageEn p = false) (hf : s.enableFaulted p = true) (hst : s.storeHeld p = false) :
    ∃ t, s.regWrite port bus (Adr.PCTRL p) m w = (t, some Reason.faulted) ∧ t.reg (Adr.PCTRL p) = s.reg (Adr.PCTRL p) := by
  obtain ⟨-, hp, hon, hown⟩ := ho
  have hmod := pctrl_mod p
  have hdiv := pctrl_div p
  have hnew : bit ((s.setKey p .idle).wouldHold p 4 (regInfo p 4) m w (s.reg (Adr.PCTRL p))) 0 = true := by
    have hst' : (s.setKey p .idle).storeHeld p = false := hst
    rw [State.wouldHold_pctrl _ hr, if_neg (by simp [hst']), pctrl_next_en hm hw]
  obtain ⟨t, ht, he⟩ := s.regWrite_refused port bus (Adr.PCTRL p) m w (by rw [hdiv, hr]) (by rwa [hdiv]) hp (by rwa [hdiv]) (by omega) (by omega)
    (s.refusalOf_faulted hr hen hf hnew)
  have hst : State.RegsOn CtrlReg s t := by
    rcases ht with rfl | ⟨-, rfl⟩
    · exact s.setKey_regsOn _ _
    · exact (s.setKey_regsOn _ _).trans (State.setFlag_regsOn _ (by unfold CtrlReg Adr.PFAULT; omega) 0 true)
  have hlog := (t.logRefusal_regsOn port bus Reason.faulted true).mono (Q := CtrlReg) fun b hb => by
    simp only [refusalRegs, List.mem_cons, List.not_mem_nil, or_false, Adr.EVR_ACCADDR, Adr.EVR_ACCINFO, Adr.PEVT, Pg.EVR]
    unfold CtrlReg at hb
    omega
  exact ⟨_, he, (hst.trans hlog).same _ hmod⟩

end

/-- Settles O7: a write of PCTRL that would set EN on such a page is refused before any other check can let it pass, and a write that leaves EN at 0,
with a soft reset or without, starts nothing. -/
theorem faultedPagesStayDisabled : Obligations.FaultedPagesStayDisabled := by
  unfold Obligations.FaultedPagesStayDisabled
  intro port p w s hpage hen hflt
  obtain ⟨r, hr⟩ := Option.isSome_iff_exists.mp hpage
  have hlt : Adr.PCTRL p < 0x200000 := pctrl_lt (by have := pageRow_lt hpage; omega)
  have h4 : Adr.PCTRL p % 4 = 0 := by unfold Adr.PCTRL; omega
  have hf : s.enableFaulted p = true := by unfold State.enableFaulted; rcases hflt with h | h <;> simp [h]
  have hplain := exec_registerWrite port w s hlt h4
  have halias := exec_aliasWrite port false w s hlt h4
  have hirq := irqReg_pctrl p
  refine ⟨⟨_, hplain, ?plain⟩, ⟨_, halias, ?alias_⟩, fun ho hst hw => ⟨_, _, hplain, halias, ?refused⟩⟩
  case plain =>
    cases hl : s.portLive port with
    | false => rw [s.portStore_dead w _ hl]; exact (State.settle_flag _ hirq 0).trans hen
    | true =>
      rw [s.portStore_live w hlt hl]
      exact (State.writeDone_flag _ _ hirq 0).trans (s.regWrite_keepsDisabled hr port _ _ w hen hf)
  case alias_ =>
    cases hl : s.portLive port with
    | false => rw [s.aliasStore_dead w false _ hl]; exact (State.settle_flag _ hirq 0).trans hen
    | true =>
      rw [s.aliasStore_live w false hlt hl]
      exact (State.writeDone_flag _ _ hirq 0).trans (s.regWrite_keepsDisabled hr port _ _ w hen hf)
  case refused =>
    obtain ⟨t, ht, htr⟩ := s.regWrite_enRefused hr (w32 (busAddr (Adr.PCTRL p))) ho (.inl rfl) hw hen hf hst
    obtain ⟨u, hu, hur⟩ := s.regWrite_enRefused hr (m := aliasMode false) (w32 (aliasAddr false (Adr.PCTRL p))) ho (.inr rfl) hw hen hf hst
    rw [s.portStore_live w hlt ho.1, s.aliasStore_live w false hlt ho.1, State.writeDone_resp, State.writeDone_resp,
      State.writeDone_reg _ _ hirq, State.writeDone_reg _ _ hirq, ht, hu]
    exact ⟨rfl, htr, rfl, hur⟩

end Sys2Proof.Machine
end

section
/-! SUPPORT. POWNER and PKEY (R75, R76, R78, R79): claims, keys and their lapse, and the settling of their statements. -/

namespace Sys2Proof.Machine

/-! ### Claims of POWNER (R78, R79) -/

theorem powner_div (p : Nat) : (4096 * p + 0x18) / 4096 = p := by omega
theorem powner_mod (p : Nat) : (4096 * p + 0x18) % 4096 = 0x18 := by omega
theorem powner_eq (p : Nat) : 4096 * p + 0x18 = Adr.POWNER p := by unfold Adr.POWNER; omega

theorem irqReg_powner (p : Nat) : irqReg (Adr.POWNER p) = false := irqReg_eq_false (by unfold Adr.POWNER; omega)
theorem irqReg_pstat (p : Nat) : irqReg (Adr.PSTAT p) = false := irqReg_eq_false (by unfold Adr.PSTAT; omega)

/-- The address of some page's POWNER or PSTAT. -/
abbrev OwnerReg (a : Nat) : Prop := a % 4096 = 0x18 ∨ a % 4096 = 8

theorem bits_owner {v : Nat} (h : v < 4) : bits (w32 v) 1 0 = v := by
  unfold bits w32
  rw [BitVec.toNat_ofNat]
  omega

section
variable (s : State)

theorem State.sourceHook_owner (b : Block) : State.RegsOn OwnerReg s (s.sourceHook b) := by
  have hgates : State.RegsOn OwnerReg s s.sourceCheck.gatesRefresh := by
    refine (s.sourceCheck_regsOn (fun g => ?_) (by decide) fun p => ?_).trans (State.gatesRefresh_regsOn (fun ch => ?_) (fun ch => ?_) _)
    · unfold OwnerReg Adr.GGRP_GSTAT; omega
    · unfold OwnerReg Adr.PEVT; omega
    · have hmod := cstat_mod ch
      unfold OwnerReg; omega
    · unfold OwnerReg Adr.GGRP_GSTAT; omega
  cases b
  case pwm | ggrp | lvdrv => exact hgates
  all_goals exact .refl

theorem State.sourceHook_other {b : Block} (h : b ≠ .pwm ∧ b ≠ .ggrp ∧ b ≠ .lvdrv) : s.sourceHook b = s := by
  obtain ⟨hpwm, hggrp, hlv⟩ := h
  cases b
  case pwm => exact absurd rfl hpwm
  case ggrp => exact absurd rfl hggrp
  case lvdrv => exact absurd rfl hlv
  all_goals rfl

variable {p port : Nat} {bus w : Word} (hv : bits w 1 0 ≠ 0)
include hv

/-- A claim of an unowned page that the port may make: POWNER holds it, and the CRC is to be computed again. -/
theorem State.writeOwner_claims (ho : s.owner p = 0) (hc : claimOk p port (bits w 1 0) = true) :
    ∃ u, s.writeOwner port p bus .plain w = (u, none) ∧ u.owner p = bits w 1 0 ∧ u.flag (Adr.PSTAT p) 31 = true ∧ u.mem = s.mem
      ∧ (pageBlock p ≠ some .pwm → pageBlock p ≠ some .ggrp → pageBlock p ≠ some .lvdrv → State.RegsOn (· ∉ [Adr.POWNER p, Adr.PSTAT p]) s u) := by
  have hlt : bits w 1 0 < 4 := bits_lt w 1 0
  have hne : Adr.POWNER p ≠ Adr.PSTAT p := by unfold Adr.POWNER Adr.PSTAT; omega
  let t := (s.setReg (Adr.POWNER p) (w32 (bits w 1 0))).crcTouch p
  have hst : State.RegsOn (· ∉ [Adr.POWNER p, Adr.PSTAT p]) s t := (s.setReg_regsOn (by simp) _).trans (State.setFlag_regsOn _ (by simp) 31 true)
  have howner : t.owner p = bits w 1 0 := by
    change bits (t.reg (Adr.POWNER p)) 1 0 = _
    unfold t State.crcTouch
    rw [State.reg_setFlag, if_neg hne, State.reg_setReg_self, bits_owner hlt]
  have hbusy : t.flag (Adr.PSTAT p) 31 = true := by
    change bit (t.reg (Adr.PSTAT p)) 31 = _
    unfold t State.crcTouch
    rw [State.reg_setFlag, if_pos rfl, bit_setBit_self _ _ (by decide)]
  unfold State.writeOwner
  simp only [ho, hv, hc, ne_eq, not_true_eq_false, if_false, Bool.not_true, Bool.false_eq_true]
  refine ⟨_, rfl, ?_⟩
  cases hb : pageBlock p with
  | none => exact ⟨howner, hbusy, rfl, fun _ _ _ => hst⟩
  | some b =>
    have hhook := t.sourceHook_owner b
    refine ⟨(hhook.fld (.inl (powner_eq p ▸ powner_mod p)) 1 0).trans howner, (hhook.flag (.inr ?_) 31).trans hbusy,
      (State.sourceHook_within ..).same .mem rfl, fun h1 h2 h3 => ?_⟩
    · unfold Adr.PSTAT; omega
    · have hb' : b ≠ .pwm ∧ b ≠ .ggrp ∧ b ≠ .lvdrv := ⟨fun h => h1 (by rw [h]), fun h => h2 (by rw [h]), fun h => h3 (by rw [h])⟩
      dsimp only
      rw [t.sourceHook_other hb']
      exact hst

/-- Any other claim of an unowned page is refused. -/
theorem State.writeOwner_notOwner (ho : s.owner p = 0) (hc : claimOk p port (bits w 1 0) = false) :
    s.writeOwner port p bus .plain w = s.refuse port bus Reason.notOwner true := by
  unfold State.writeOwner
  simp [ho, hv, hc]

omit hv in
/-- A page that has an owner is not claimed again (R78). -/
theorem State.writeOwner_locked (ho : s.owner p ≠ 0) : s.writeOwner port p bus .plain w = s.refuse port bus Reason.locked true := by
  unfold State.writeOwner
  simp [ho]

end

section
variable (s : State) (p : Nat)

theorem State.ownerPort_unowned {port : Nat} (h : s.owner p = 0) : s.ownerPort p port = false := by
  unfold State.ownerPort
  rw [h]
  rfl

theorem powner_notMem_refusalRegs : Adr.POWNER p ∉ refusalRegs := by
  simp only [refusalRegs, List.mem_cons, List.not_mem_nil, or_false, Adr.POWNER, Adr.EVR_ACCADDR, Adr.EVR_ACCINFO, Adr.PEVT, Pg.EVR]
  omega

variable {p} {port : Port} {w : Word} (hpage : (pageRow p).isSome = true) (hl : s.portLive port = true) (hp : port.val < 5)
  (hon : s.pageOn p = true)
include hpage hl hp hon

/-- A claim is a write of POWNER by a port that need not own the page; an owner's write cancels its key (R76). -/
theorem exec_ownerClaim : exec (.ownerClaim port p w) s = .next (State.writeDone port
    ((if s.ownerPort p port then s.setKey p .idle else s).writeOwner port p (w32 (busAddr (4096 * p + 0x18))) .plain w)).settle := by
  have hlt := pageRow_lt hpage
  obtain ⟨r, hr⟩ := Option.isSome_iff_exists.mp hpage
  have hkey : ∀ k : Key, k.after port none = .idle := fun _ => rfl
  change done (s.pageStore port p 0x18 w) = _
  rw [s.pageStore_eq port 0x18 w (by omega), s.portStore_live w (by omega) hl, done_eq]
  unfold State.regWrite
  simp only [powner_div, powner_mod, hr, hon, hkey, show ¬ 5 ≤ port.val by omega, Bool.not_true, Bool.false_eq_true, if_false, if_true, false_and,
    show ¬ (0x18 = 0x1C) by decide]

theorem ownerClaim_accepted (ho : s.owner p = 0) (hv : bits w 1 0 ≠ 0) (hc : claimOk p port (bits w 1 0) = true) :
    ∃ t, exec (.ownerClaim port p w) s = .next t ∧ (t.port port).resp = .ok [] ∧ t.owner p = bits w 1 0 ∧ t.flag (Adr.PSTAT p) 31 = true
      ∧ s.MemSame t
      ∧ (pageBlock p ≠ some .pwm → pageBlock p ≠ some .ggrp → pageBlock p ≠ some .lvdrv → s.RegsBut [Adr.POWNER p, Adr.PSTAT p] t) := by
  obtain ⟨u, hu, hown, hbusy, hmem, hregs⟩ := s.writeOwner_claims (bus := w32 (busAddr (4096 * p + 0x18))) hv ho hc
  refine ⟨_, exec_ownerClaim s hpage hl hp hon, ?_⟩
  rw [s.ownerPort_unowned p ho, if_neg (by decide), hu]
  refine ⟨State.writeDone_resp .., (State.settle_fld _ (irqReg_powner p) 1 0).trans hown, (State.writeDone_flag _ _ (irqReg_pstat p) 31).trans hbusy,
    fun a => State.byte_congr ((State.writeDone_mem ..).trans hmem) a, fun h1 h2 h3 => (State.writeDone_keepsBut _ _ (hregs h1 h2 h3) hmem).1⟩

/-- A claim that is refused leaves the owner and memory alone. -/
theorem ownerClaim_refused {reason : Nat} {s' : State} (hs : State.RegsOn (· ∉ refusalRegs) s s') (hm : s'.mem = s.mem)
    (hw : (if s.ownerPort p port then s.setKey p .idle else s).writeOwner port p (w32 (busAddr (4096 * p + 0x18))) .plain w
      = s'.refuse port (w32 (busAddr (4096 * p + 0x18))) reason true) :
    ∃ t, exec (.ownerClaim port p w) s = .next t ∧ (t.port port).resp = .err reason ∧ t.owner p = s.owner p ∧ s.MemSame t := by
  refine ⟨_, exec_ownerClaim s hpage hl hp hon, ?_⟩
  rw [hw]
  have hlog := hs.trans (s'.logRefusal_regsOn port (w32 (busAddr (4096 * p + 0x18))) reason true)
  exact ⟨State.writeDone_resp .., (State.settle_fld _ (irqReg_powner p) 1 0).trans (hlog.fld (powner_notMem_refusalRegs p) 1 0),
    fun a => State.byte_congr ((State.writeDone_mem ..).trans ((State.logRefusal_mem ..).trans hm)) a⟩

theorem ownerClaim_notOwner (ho : s.owner p = 0) (hv : bits w 1 0 ≠ 0) (hc : claimOk p port (bits w 1 0) = false) :
    ∃ t, exec (.ownerClaim port p w) s = .next t ∧ (t.port port).resp = .err Reason.notOwner ∧ t.owner p = s.owner p ∧ s.MemSame t := by
  refine ownerClaim_refused s hpage hl hp hon .refl rfl ?_
  rw [s.ownerPort_unowned p ho, if_neg (by decide), s.writeOwner_notOwner hv ho hc]

theorem ownerClaim_locked (ho : s.owner p ≠ 0) :
    ∃ t, exec (.ownerClaim port p w) s = .next t ∧ (t.port port).resp = .err Reason.locked ∧ t.owner p = s.owner p ∧ s.MemSame t := by
  let s' := if s.ownerPort p port then s.setKey p .idle else s
  have hregs : s'.regs = s.regs := by unfold s'; split <;> rfl
  have hmem : s'.mem = s.mem := by unfold s'; split <;> rfl
  have ho' : s'.owner p ≠ 0 := by unfold State.owner State.fld State.reg at *; rwa [hregs]
  exact ownerClaim_refused s hpage hl hp hon (.of_regs hregs) hmem (s'.writeOwner_locked ho')

end

/-- Settles O8: of the claims that R78 lets a port make, R79 takes from a router page and a pair page those of the other pair alone. -/
theorem routerAndPairOwners : Obligations.RouterAndPairOwners := by
  unfold Obligations.RouterAndPairOwners
  intro n port p w s hp hpg hl hon ho
  have hpage : (pageRow p).isSome = true := by rcases hpg with rfl | rfl <;> fin_cases n <;> decide
  have hclaim (v : Nat) : claimOk p port v = ((v == portOwner port && decide (v ≠ 0) || (port.val == 4 && (v == 1 || v == 2)))
      && !(v == 2 - n.val)) := by
    rcases hpg with rfl | rfl <;> fin_cases n <;> simp [claimOk, Pg.EVR, Pg.PAIR]
  have hn : n.val = 0 ∨ n.val = 1 := by omega
  refine ⟨fun hv hown => ?own, fun hv hgms => ?gms, fun hv => ?other⟩
  case own =>
    have hc : claimOk p port (bits w 1 0) = true := by
      rw [hclaim, hv]
      rcases hown with h | h <;> rcases hn with hn | hn <;> simp [h, hn]
    obtain ⟨t, ht, hresp, howner, -⟩ := ownerClaim_accepted s hpage hl hp hon ho (by omega) hc
    exact ⟨t, ht, hresp, howner.trans hv⟩
  case gms =>
    have hc : claimOk p port (bits w 1 0) = true := by
      rw [hclaim, hv, hgms]
      rcases hn with hn | hn <;> simp [hn, portOwner]
    obtain ⟨t, ht, hresp, howner, -⟩ := ownerClaim_accepted s hpage hl hp hon ho (by omega) hc
    exact ⟨t, ht, hresp, howner.trans hv⟩
  case other =>
    have hc : claimOk p port (bits w 1 0) = false := by
      rw [hclaim, hv]
      simp
    obtain ⟨t, ht, hresp, howner, -⟩ := ownerClaim_notOwner s hpage hl hp hon ho (by omega) hc
    exact ⟨t, ht, hresp, howner.trans ho⟩

/-! ### Keys (R75, R76) -/

section
variable (s : State) {p : Nat} {port : Port} (hpage : (pageRow p).isSome = true)

theorem State.settle_page (q : Nat) : s.settle.page q = s.page q := by
  unfold State.page
  rw [State.settle_pages]

theorem State.setKey_page (k : Key) (q : Nat) : (s.setKey p k).page q = if q = p then { s.page p with key := k } else s.page q :=
  State.page_putPage ..

include hpage in
/-- The owner's write of PKEY moves the key alone. -/
theorem keyWrite_moves (ho : s.Owns port p) (w : BitVec 16) : ∃ t, exec (.keyWrite port p w) s = .next t ∧ (t.port port).resp = .ok []
    ∧ (t.page p).key = (s.page p).key.after port (some w.toNat) ∧ (∀ q, q ≠ p → t.page q = s.page q) ∧ s.KeepsBut [] t := by
  obtain ⟨hl, hp, hon, hown⟩ := ho
  have hlt := pageRow_lt hpage
  obtain ⟨r, hr⟩ := Option.isSome_iff_exists.mp hpage
  have hdiv : (4096 * p + 0x1C) / 4096 = p := by omega
  have hmod : (4096 * p + 0x1C) % 4096 = 0x1C := by omega
  have hw : bits (w.zeroExtend 32) 15 0 = w.toNat := by
    have hw16 := w.isLt
    unfold bits
    rw [BitVec.zeroExtend, BitVec.toNat_setWidth]
    omega
  have hwrite : s.regWrite port (w32 (busAddr (4096 * p + 0x1C))) (4096 * p + 0x1C) .plain (w.zeroExtend 32) =
      (s.setKey p ((s.page p).key.after port (some w.toNat)), none) := by
    unfold State.regWrite
    simp only [hdiv, hmod, hr, hon, hown, hw, show ¬ 5 ≤ port.val by omega, Bool.not_true, Bool.false_eq_true, if_false, if_true, true_and,
      show ¬ (0x1C = 0x18) by decide]
  have hexec : exec (.keyWrite port p w) s =
      .next (State.writeDone port (s.setKey p ((s.page p).key.after port (some w.toNat)), none)).settle := by
    change done (s.pageStore port p 0x1C (w.zeroExtend 32)) = _
    rw [s.pageStore_eq port 0x1C _ (by omega), s.portStore_live _ (by omega) hl, hwrite, done_eq]
  refine ⟨_, hexec, State.writeDone_resp .., ?_, fun q hq => ?_, State.writeDone_keepsBut _ _ (s.setKey_regsOn _ _) rfl⟩
  · rw [State.writeDone_page, State.setKey_page, if_pos rfl]
  · rw [State.writeDone_page, State.setKey_page, if_neg hq]

/-- An armed key lapses. -/
theorem keyLapse_idles {q : Nat} (hk : (s.page p).key = .armed q) : ∃ t, exec (.keyLapse p) s = .next t ∧ (t.page p).key = .idle
    ∧ (∀ q, q ≠ p → t.page q = s.page q) ∧ s.KeepsBut [] t := by
  have hlapse : s.keyLapse p = s.setKey p .idle := by
    unfold State.keyLapse
    rw [hk]
  refine ⟨(s.setKey p .idle).settle, congrArg done hlapse, ?_, fun q hq => ?_, (s.setKey_regsOn _ _).keepsBut rfl⟩
  · rw [State.settle_page, State.setKey_page, if_pos rfl]
  · rw [State.settle_page, State.setKey_page, if_neg hq]

end

/-- A word that is neither the first key word nor a second one due idles the key. -/
theorem Key.after_idle {k : Key} {port : Nat} {w : BitVec 16} (h1 : w ≠ 0x9C3A#16) (h2 : w = 0x63C5#16 → k ≠ .first port) :
    k.after port (some w.toNat) = .idle := by
  unfold Key.after
  split
  · rfl
  next h => exact absurd (BitVec.eq_of_toNat_eq (Option.some.inj h)) h1
  next h => rw [if_neg (h2 (BitVec.eq_of_toNat_eq (Option.some.inj h)))]
  next => rfl

/-- Settles O10: a key word moves the key as `Key.after` says and nothing else; a claim is accepted or refused by `claimOk` and the owner. -/
theorem keysAndOwners : Obligations.KeysAndOwners := by
  unfold Obligations.KeysAndOwners
  intro port p s hpage
  refine ⟨fun ho => keyWrite_moves s hpage ho _, fun ho hk => ?second, fun w ho h1 h2 => ?other, fun q hk => keyLapse_idles s hk,
    fun w hl hp hon ho hv hown h79 h79' => ?claim, fun w hl hp hon ho => ownerClaim_locked s hpage hl hp hon ho⟩
  case second =>
    have hmoves := keyWrite_moves s hpage ho 0x63C5#16
    rw [hk] at hmoves
    obtain ⟨t, ht, hresp, hkey, hrest⟩ := hmoves
    exact ⟨t, ht, hresp, hkey.trans (if_pos rfl), hrest⟩
  case other =>
    have hmoves := keyWrite_moves s hpage ho w
    rwa [Key.after_idle h1 h2] at hmoves
  case claim =>
    refine ownerClaim_accepted s hpage hl hp hon ho hv ?_
    have hlt : bits w 1 0 < 4 := bits_lt w 1 0
    unfold claimOk
    rw [Bool.and_eq_true, Bool.and_eq_true]
    refine ⟨⟨?_, by simpa [imp_iff_not_or] using h79⟩, by simpa [imp_iff_not_or] using h79'⟩
    rcases hown with h | rfl
    · rw [← h]
      simp [hv]
    · have hcases : bits w 1 0 = 1 ∨ bits w 1 0 = 2 ∨ bits w 1 0 = 3 := by omega
      rcases hcases with h | h | h <;> simp [h, portOwner]

end Sys2Proof.Machine
end

section
/-! SUPPORT. Accepted writes of a block's registers (R68, R77, R81, R82), and the settling of their statement. -/

namespace Sys2Proof.Machine

/-! ### Blocks whose writes only store -/

/-- The blocks of the statement, in which a write does nothing beside storing. -/
def storesOnly (b : Block) : Prop := b = .tbu ∨ b = .hk ∨ b = .enc ∨ b = .can

theorem irqReg_of_block {a : Nat} (h : pageBlock (a / 4096) ≠ some .evr) : irqReg a = false := by
  refine irqReg_eq_false ⟨?_, ?_, ?_, ?_⟩ <;>
  · rintro rfl
    exact h (by decide)

theorem State.blockHook_storesOnly (s : State) {b : Block} (h : storesOnly b) (port n off : Nat) (plain old new : Word) :
    s.blockHook port b n off plain old new = s := by
  rcases h with rfl | rfl | rfl | rfl <;> rfl

/-- What such a write leaves: the word stored, and CRCBUSY where a configuration register changed (R81). -/
def State.stored (s : State) (a : Nat) (conf : Bool) (v : Word) : State :=
  (s.setReg a v).when (conf && s.reg a != v) fun t => t.crcTouch (a / 4096)

section
variable (s : State) {a : Nat} (conf : Bool) (v : Word)

theorem State.stored_regsOn : State.RegsOn (· ∉ [a, Adr.PSTAT (a / 4096)]) s (s.stored a conf v) :=
  (s.setReg_regsOn (by simp) v).trans (State.when_regsOn _ (fun t => t.setFlag_regsOn (by simp) 31 true) _)

theorem State.stored_mem : (s.stored a conf v).mem = s.mem := by
  unfold State.stored State.when
  split <;> rfl

theorem State.stored_page (q : Nat) : (s.stored a conf v).page q = s.page q := by
  unfold State.stored State.when
  split <;> rfl

variable (h40 : 0x40 ≤ a % 4096)
include h40

theorem pstat_ne_of_le : a ≠ Adr.PSTAT (a / 4096) := by unfold Adr.PSTAT; omega

theorem State.stored_reg : (s.stored a conf v).reg a = v := by
  have hne := pstat_ne_of_le h40
  unfold State.stored State.when
  split
  · exact (State.reg_setFlag ..).trans ((if_neg hne).trans (s.reg_setReg_self a v))
  · exact s.reg_setReg_self a v

theorem State.stored_busy : (s.stored a conf v).flag (Adr.PSTAT (a / 4096)) 31 = (s.flag (Adr.PSTAT (a / 4096)) 31 || (conf && v != s.reg a)) := by
  have hne := pstat_ne_of_le h40
  unfold State.stored State.when
  rw [bne_comm (a := v)]
  split
  next h =>
    rw [h, Bool.or_true]
    exact (congrArg (bit · 31) ((State.reg_setFlag ..).trans (if_pos rfl))).trans (bit_setBit_self _ _ (by decide))
  next h =>
    rw [Bool.not_eq_true] at h
    rw [h, Bool.or_false, State.flag_eq, State.reg_setReg_ne _ _ (Ne.symm hne), State.flag_eq]

/-- A write that no check refuses, to such a block's register that has no limits. -/
theorem State.regWrite_stores {port : Nat} {b : Block} {m : WriteMode} {w : Word} (bus : Word) (hb : pageBlock (a / 4096) = some b) (hs : storesOnly b)
    (ho : s.Owns port (a / 4096)) (hc : (regInfo (a / 4096) (a % 4096)).clamp = .none_) (hw : s.refusalOf port a m w = none) :
    s.regWrite port bus a m w = ((s.setKey (a / 4096) .idle).stored a (regInfo (a / 4096) (a % 4096)).conf
      ((regInfo (a / 4096) (a % 4096)).next m (s.reg a) w), none) := by
  obtain ⟨-, hp, hon, hown⟩ := ho
  obtain ⟨r, hr, rfl⟩ := Option.map_eq_some_iff.mp hb
  rw [s.regWrite_accept port bus a m w hr hon hp hown (by omega) (by omega) (by omega) hw, State.wouldHold_unclamped _ _ _ _ (by omega) hc]
  unfold State.writeReg State.stored
  rw [hr]
  dsimp only
  rw [if_neg (by omega), if_neg (by omega), if_neg (by omega), State.blockHook_storesOnly _ hs, Nat.div_add_mod]
  rfl

end

/-- Settles O11: the writes through the page and its two other ranges store `RegInfo.next` of their mode, and the blocks of the statement do nothing beside. -/
theorem acceptedWrites : Obligations.AcceptedWrites := by
  unfold Obligations.AcceptedWrites
  intro port a w s ha h4 h40 ho hblk hc
  obtain ⟨b, hb, hs⟩ : ∃ b, pageBlock (a / 4096) = some b ∧ storesOnly b := by
    rcases hblk with h | h | h | h
    · exact ⟨_, h, .inl rfl⟩
    · exact ⟨_, h, .inr (.inl rfl)⟩
    · exact ⟨_, h, .inr (.inr (.inl rfl))⟩
    · exact ⟨_, h, .inr (.inr (.inr rfl))⟩
  have hirq : irqReg a = false := irqReg_of_block (by rw [hb]; rcases hs with rfl | rfl | rfl | rfl <;> decide)
  let u (m : WriteMode) := (s.setKey (a / 4096) .idle).stored a (regInfo (a / 4096) (a % 4096)).conf
    ((regInfo (a / 4096) (a % 4096)).next m (s.reg a) w)
  have hreg (m : WriteMode) : (State.writeDone port (u m, none)).settle.reg a = (regInfo (a / 4096) (a % 4096)).next m (s.reg a) w :=
    (State.writeDone_reg _ _ hirq).trans (State.stored_reg _ _ _ h40)
  have hkeeps (m : WriteMode) : s.KeepsBut [a, Adr.PSTAT (a / 4096)] (State.writeDone port (u m, none)).settle :=
    State.writeDone_keepsBut _ _ ((s.setKey_regsOn _ _).trans (State.stored_regsOn _ _ _)) (State.stored_mem ..)
  have halias (clear : Bool) (hw : s.refusalOf port a (aliasMode clear) w = none) :
      exec (.aliasWrite port clear (w32 (busAddr a)) w) s = .next (State.writeDone port (u (aliasMode clear), none)).settle := by
    rw [exec_aliasWrite port clear w s ha h4, s.aliasStore_live w clear ha ho.1, s.regWrite_stores h40 _ hb hs ho hc hw, done_eq]
  refine ⟨fun hw => ⟨(State.writeDone port (u .plain, none)).settle, ?_, State.writeDone_resp .., hreg .plain, ?_, ?_, hkeeps .plain⟩,
    fun hw => ⟨_, halias false hw, State.writeDone_resp .., hreg .set, hkeeps .set⟩,
    fun hw => ⟨_, halias true hw, State.writeDone_resp .., hreg .clear, hkeeps .clear⟩⟩
  · rw [exec_registerWrite port w s ha h4, s.portStore_live w ha ho.1, s.regWrite_stores h40 _ hb hs ho hc hw, done_eq]
  · rw [State.writeDone_flag _ _ (irqReg_pstat _), hreg]
    exact State.stored_busy _ _ _ h40
  · rw [State.writeDone_page]
    refine (congrArg PageHid.key (State.stored_page _ _ _ _)).trans ?_
    rw [State.setKey_page, if_pos rfl]

end Sys2Proof.Machine
end

section
/-! SUPPORT. Refused writes (R72, R74, R89): what the access log of a router and GMS's own record hold after one, and the settling of their statement. -/

namespace Sys2Proof.Machine

/-! ### One router's access log -/

/-- What ACCINFO holds of a refusal that finds it empty: VALID, REASON, PORT and WRITE (R89). -/
def accWord (reason port : Nat) (write : Bool) : Word := w32 (2 ^ 31 + reason * 2 ^ 24 + port * 2 ^ 16 + write.toNat)

section
variable {reason port : Nat} {write : Bool}

theorem accWord_reason (hp : port < 16) : bits (accWord reason port write) 28 24 = reason % 32 := by
  have hw := write.toNat_lt
  unfold bits accWord w32
  rw [BitVec.toNat_ofNat]
  omega

theorem accWord_port (hp : port < 16) : bits (accWord reason port write) 19 16 = port := by
  have hw := write.toNat_lt
  unfold bits accWord w32
  rw [BitVec.toNat_ofNat]
  omega

theorem accWord_valid (hr : reason < 16) (hp : port < 16) : bit (accWord reason port write) 31 = true := by
  have hw := write.toNat_lt
  have h1 : bits (accWord reason port write) 31 31 = 1 := by
    unfold bits accWord w32
    rw [BitVec.toNat_ofNat]
    omega
  have h2 := bits_testBit (accWord reason port write) 31 31 0
  rw [h1] at h2
  simpa using h2.symm

end

section
variable (s : State) (n port : Nat) (addr : Word) (reason : Nat) (write : Bool)

theorem State.reg_setBb (b : BlackBox) (a : Nat) : (s.setBb b).reg a = s.reg a := rfl

theorem accRegs_ne : Adr.EVR_ACCADDR n ≠ Adr.EVR_ACCINFO n ∧ Adr.EVR_ACCADDR n ≠ Adr.PEVT (Pg.EVR n) ∧ Adr.EVR_ACCINFO n ≠ Adr.PEVT (Pg.EVR n) := by
  unfold Adr.EVR_ACCADDR Adr.EVR_ACCINFO Adr.PEVT Pg.EVR
  omega

theorem State.logAcc_first (h : s.flag (Adr.EVR_ACCINFO n) 31 = false) :
    (s.logAcc n port addr reason write).reg (Adr.EVR_ACCADDR n) = addr
      ∧ (s.logAcc n port addr reason write).reg (Adr.EVR_ACCINFO n) = accWord reason port write := by
  obtain ⟨hai, hae, hie⟩ := accRegs_ne n
  have h' : ¬ bit (s.reg (Adr.EVR_ACCINFO n)) 31 = true := by rw [← State.flag_eq, h]; decide
  unfold State.logAcc accWord
  dsimp only
  rw [State.raise_reg_ne _ _ _ hae, State.raise_reg_ne _ _ _ hie, State.reg_setBb, State.reg_setBb, if_neg h']
  exact ⟨(State.reg_setReg_ne _ _ hai).trans (State.reg_setReg_self ..), State.reg_setReg_self ..⟩

theorem State.logAcc_later (h : s.flag (Adr.EVR_ACCINFO n) 31 = true) :
    (s.logAcc n port addr reason write).reg (Adr.EVR_ACCADDR n) = s.reg (Adr.EVR_ACCADDR n)
      ∧ (s.logAcc n port addr reason write).fld (Adr.EVR_ACCINFO n) 15 8 = min (s.fld (Adr.EVR_ACCINFO n) 15 8 + 1) 255 := by
  obtain ⟨hai, hae, hie⟩ := accRegs_ne n
  have h' : bit (s.reg (Adr.EVR_ACCINFO n)) 31 = true := h
  have hcount : (s.bump (Adr.EVR_ACCINFO n) 15 8).fld (Adr.EVR_ACCINFO n) 15 8 = min (s.fld (Adr.EVR_ACCINFO n) 15 8 + 1) 255 := by
    unfold State.bump
    rw [State.fld_setFld_self _ _ _ _ _ (by decide)]
    omega
  unfold State.logAcc
  dsimp only
  rw [State.fld_eq, State.raise_reg_ne _ _ _ hae, State.raise_reg_ne _ _ _ hie, State.reg_setBb, State.reg_setBb, if_pos h']
  exact ⟨State.reg_bump _ _ _ _ _ hai, hcount⟩

/-- The registers in which router n holds a refusal. -/
abbrev AccReg (n a : Nat) : Prop := a = Adr.EVR_ACCADDR n ∨ a = Adr.EVR_ACCINFO n

theorem State.logAcc_other {k m : Fin 2} (h : k ≠ m) : State.RegsOn (AccReg k) s (s.logAcc m port addr reason write) := by
  have hval : k.val ≠ m.val := fun e => h (Fin.ext e)
  have hk : k.val < 2 := k.isLt
  have hm : m.val < 2 := m.isLt
  refine s.logAcc_regsOn port addr reason write ?_ ?_ ?_ <;>
  · unfold AccReg Adr.EVR_ACCADDR Adr.EVR_ACCINFO
    try unfold Adr.PEVT Pg.EVR
    omega

/-- A refusal is logged once in the router of the port's pair; in both for a port that is no core and not GMS. -/
theorem State.logRefusal_router {k : Fin 2} (h : 5 ≤ port ∨ port / 2 = k.val) : ∃ u : State, State.RegsOn (AccReg k) s u
    ∧ State.RegsOn (AccReg k) (u.logAcc k port addr reason write) (s.logRefusal port addr reason write) := by
  have hgms (t : State) : State.RegsOn (AccReg k) t (t.logGms port addr reason write) := .of_regs rfl
  unfold State.logRefusal
  rcases (by omega : k = 0 ∨ k = 1) with rfl | rfl
  · change 5 ≤ port ∨ port / 2 = 0 at h
    by_cases hp : port < 2
    · rw [if_pos hp]
      exact ⟨s, .refl, .refl⟩
    · rw [if_neg hp, if_neg (by omega), if_neg (by omega)]
      exact ⟨s, .refl, (State.logAcc_other _ _ _ _ _ (k := 0) (m := 1) (by decide)).trans (hgms _)⟩
  · change 5 ≤ port ∨ port / 2 = 1 at h
    by_cases hp : port < 4
    · rw [if_neg (by omega), if_pos hp]
      exact ⟨s, .refl, .refl⟩
    · rw [if_neg (by omega), if_neg hp, if_neg (by omega)]
      exact ⟨_, s.logAcc_other _ _ _ _ (k := 1) (m := 0) (by decide), hgms _⟩

theorem keep16_getLast? {α : Type} (l : List α) (a : α) : (keep16 l a).getLast? = some a := by
  unfold keep16
  rw [List.getLast?_drop, if_neg (by simp), List.getLast?_append]
  rfl

/-- Refusals of GMS and of the engines also go to the black box. -/
theorem State.logRefusal_gms (h : 4 ≤ port) :
    (s.logRefusal port addr reason write).gms.bb.refusedGms.getLast? = some ⟨addr, port, reason, write⟩ := by
  unfold State.logRefusal
  rw [if_neg (by omega), if_neg (by omega)]
  split <;> exact keep16_getLast? _ _

end

/-! ### What GMS records follows no command -/

theorem State.vbatWatch_bb (s : State) : s.vbatWatch.gms.bb = s.gms.bb := by
  unfold State.vbatWatch
  dsimp only
  split <;> rfl

theorem State.settle_bb (s : State) : s.settle.gms.bb = s.gms.bb := by
  simp [State.settle, State.each, State.vbatWatch_bb]

/-! ### The refused write -/

theorem State.writeRefusal_lt {s : State} {p off : Nat} {keyed : Bool} {m : WriteMode} {i : RegInfo} {w old new : Word} {reason : Nat}
    (h : s.writeRefusal p off keyed m i w old new = some reason) : reason < 16 := by
  unfold State.writeRefusal at h
  extract_lets d conf at h
  split at h
  · cases h
  · repeat' split at h
    all_goals cases h <;> decide

/-- What a refused write leaves, whatever refused it: t is the state that is logged in, s but for a key. -/
theorem refused_outcome {port : Port} {a : Nat} {s t : State} {bus : Word} {reason : Nat} (ha : a ∉ refusalRegs) (hirq : irqReg a = false)
    (hregs : t.regs = s.regs) (hmem : t.mem = s.mem) (hreason : reason < 16) {u : State}
    (hu : u = (State.writeDone port (t.refuse port bus reason true)).settle) :
    (u.port port).resp = .err reason ∧ u.reg a = s.reg a ∧ s.MemSame u
      ∧ (∀ n : Fin 2, (5 ≤ port.val ∨ port.val / 2 = n.val) → s.flag (Adr.EVR_ACCINFO n) 31 = false →
          u.reg (Adr.EVR_ACCADDR n) = bus ∧ u.fld (Adr.EVR_ACCINFO n) 28 24 = reason % 32 ∧ u.fld (Adr.EVR_ACCINFO n) 19 16 = port.val
            ∧ u.flag (Adr.EVR_ACCINFO n) 31 = true)
      ∧ (∀ n : Fin 2, (5 ≤ port.val ∨ port.val / 2 = n.val) → s.flag (Adr.EVR_ACCINFO n) 31 = true →
          u.reg (Adr.EVR_ACCADDR n) = s.reg (Adr.EVR_ACCADDR n) ∧ u.fld (Adr.EVR_ACCINFO n) 15 8 = min (s.fld (Adr.EVR_ACCINFO n) 15 8 + 1) 255)
      ∧ (4 ≤ port.val → u.gms.bb.refusedGms.getLast? = some ⟨bus, port, reason, true⟩) := by
  subst hu
  have hp16 : port.val < 16 := by omega
  have hst : State.RegsOn (fun _ => True) s t := .of_regs hregs
  have hA (n : Fin 2) : irqReg (Adr.EVR_ACCADDR n) = false := irqReg_eq_false (by unfold Adr.EVR_ACCADDR; omega)
  have hI (n : Fin 2) : irqReg (Adr.EVR_ACCINFO n) = false := irqReg_eq_false (by unfold Adr.EVR_ACCINFO; omega)
  refine ⟨State.writeDone_resp .., ?_, fun b => ?_, fun n hn hv => ?_, fun n hn hv => ?_, fun h4 => ?_⟩
  · rw [State.writeDone_reg _ _ hirq]
    exact ((t.logRefusal_regsOn ..).same _ ha).trans (hst.same _ trivial)
  · exact State.byte_congr ((State.writeDone_mem ..).trans ((State.logRefusal_mem ..).trans hmem)) b
  · obtain ⟨v, htv, hlog⟩ := t.logRefusal_router port bus reason true hn
    have hsv : State.RegsOn (AccReg n) s v := (hst.mono fun _ _ => trivial).trans htv
    obtain ⟨haddr, hinfo⟩ := v.logAcc_first n port bus reason true ((hsv.flag (.inr rfl) 31).trans hv)
    have hinfo' := (hlog.same _ (.inr rfl)).trans hinfo
    rw [State.fld_eq, State.fld_eq, State.flag_eq, State.writeDone_reg _ _ (hA n), State.writeDone_reg _ _ (hI n)]
    refine ⟨(hlog.same _ (.inl rfl)).trans haddr, ?_⟩
    change bits ((t.logRefusal _ _ _ _).reg _) 28 24 = _ ∧ bits ((t.logRefusal _ _ _ _).reg _) 19 16 = _ ∧ bit ((t.logRefusal _ _ _ _).reg _) 31 = _
    rw [hinfo']
    exact ⟨accWord_reason hp16, accWord_port hp16, accWord_valid hreason hp16⟩
  · obtain ⟨v, htv, hlog⟩ := t.logRefusal_router port bus reason true hn
    have hsv : State.RegsOn (AccReg n) s v := (hst.mono fun _ _ => trivial).trans htv
    obtain ⟨haddr, hcount⟩ := v.logAcc_later n port bus reason true ((hsv.flag (.inr rfl) 31).trans hv)
    rw [State.writeDone_reg _ _ (hA n), State.fld_eq, State.writeDone_reg _ _ (hI n)]
    rw [hsv.same _ (.inl rfl)] at haddr
    rw [hsv.fld (.inr rfl)] at hcount
    exact ⟨(hlog.same _ (.inl rfl)).trans haddr, (hlog.fld (.inr rfl) 15 8).trans hcount⟩
  · rw [State.settle_bb]
    exact t.logRefusal_gms port bus reason true h4

/-- Settles O12: each of the three cases is a refusal of the state or of the state with the owner's key idled, logged by `State.logRefusal`. -/
theorem refusedWrites : Obligations.RefusedWrites := by
  unfold Obligations.RefusedWrites
  intro port a w s ha h4 h18 h1C hpage hl hon hblk reason hcase
  obtain ⟨r, hr⟩ := Option.isSome_iff_exists.mp hpage
  have hb : pageBlock (a / 4096) = some r.blk := by unfold pageBlock; rw [hr]; rfl
  obtain ⟨hevr, hcan, heth⟩ := hblk r.blk hb
  have hnot : pageBlock (a / 4096) ≠ some .evr := by rw [hb]; exact fun h => hevr (Option.some.inj h)
  have hlog : a ∉ refusalRegs := by
    intro hm
    refine hnot ?_
    simp only [refusalRegs, List.mem_cons, List.not_mem_nil, or_false] at hm
    rcases hm with rfl | rfl | rfl | rfl | rfl | rfl <;> decide
  obtain ⟨t, hregs, hmem, hwrite, hlt⟩ : ∃ t : State, t.regs = s.regs ∧ t.mem = s.mem
      ∧ s.regWrite port (w32 (busAddr a)) a .plain w = t.refuse port (w32 (busAddr a)) reason true ∧ reason < 16 := by
    rcases hcase with ⟨hp, rfl⟩ | ⟨hp, hown, rfl⟩ | ⟨⟨-, hp, -, hown⟩, hw⟩
    · exact ⟨s, rfl, rfl, s.regWrite_port port _ a .plain w hr hon hp, by decide⟩
    · exact ⟨s, rfl, rfl, s.regWrite_notOwner port _ a .plain w hr hon hp hown h18, by decide⟩
    · obtain ⟨t, ht, he⟩ := s.regWrite_refused port (w32 (busAddr a)) a .plain w hr hon hp hown h18 h1C hw
      rcases ht with rfl | ⟨hnet, -⟩
      · exact ⟨s.setKey (a / 4096) .idle, rfl, rfl, he, State.writeRefusal_lt hw⟩
      · exact absurd hnet (by simp [hcan, heth])
  refine ⟨(State.writeDone port (t.refuse port (w32 (busAddr a)) reason true)).settle, ?_,
    refused_outcome hlog (irqReg_of_block hnot) hregs hmem hlt rfl⟩
  rw [exec_registerWrite port w s ha h4, s.portStore_live w ha hl, hwrite, done_eq]

end Sys2Proof.Machine
end

section
/-! SUPPORT. PCTRL and the configuration CRC (R69 to R71, R81, R82): what setting and clearing EN, SRST and LOCK leave, the recomputation and the check of
a page, and the settling of their statement. -/

namespace Sys2Proof.Machine

/-! ### Writes of PCTRL -/

theorem setBit_same (w : Word) (i : Nat) : setBit w i (bit w i) = w := by
  refine word_ext fun j _ => ?_
  rw [bit_setBit]
  split
  next hj => rw [hj.1]
  next => rfl

theorem setBit_false_of_clear {w : Word} {i : Nat} (h : bit w i = false) : setBit w i false = w := h ▸ setBit_same w i

section
variable (s : State) {p : Nat}

/-- What a write of PCTRL that nothing refuses leaves beside its answer. -/
def State.pctrlWritten (s : State) (p : Nat) (w : Word) : State :=
  (s.setKey p .idle).writePctrl p (bit w 1) (s.reg (Adr.PCTRL p)) ((s.setKey p .idle).wouldHold p 4 (regInfo p 4) .plain w (s.reg (Adr.PCTRL p)))

theorem done_pctrlStore {port : Port} {w : Word} (hpage : (pageRow p).isSome = true) (ho : s.Owns port p)
    (hw : s.refusalOf port (Adr.PCTRL p) .plain w = none) :
    done (s.pageStore port p 0x04 w) = .next (State.writeDone port (s.pctrlWritten p w, none)).settle := by
  obtain ⟨hl, hp, hon, hown⟩ := ho
  have hlt := pageRow_lt hpage
  obtain ⟨r, hr⟩ := Option.isSome_iff_exists.mp hpage
  have hdiv := pctrl_div p
  rw [s.pageStore_eq port 0x04 w (by omega), pctrl_eq, s.portStore_live w (pctrl_lt (by omega)) hl,
    s.regWrite_pctrl port _ _ .plain w (by rwa [hdiv]) (by rwa [hdiv]) hp (by rwa [hdiv]) (pctrl_mod p) hw, done_eq, hdiv, pctrl_mod p]
  rfl

/-- Where EN does not rise on a page that STORE holds, PCTRL takes what its fields make of the word. -/
theorem State.pctrlWritten_eq {r : BlockRow} (hr : pageRow p = some r) {w new : Word} (hn : pctrlInfo.next .plain (s.reg (Adr.PCTRL p)) w = new)
    (h : s.storeHeld p = true → bit (s.reg (Adr.PCTRL p)) 0 = false → bit new 0 = false) :
    s.pctrlWritten p w = (s.setKey p .idle).writePctrl p (bit w 1) (s.reg (Adr.PCTRL p)) new := by
  unfold State.pctrlWritten
  rw [State.wouldHold_pctrl _ hr, hn]
  split
  next hc => rw [setBit_false_of_clear (h hc.1 hc.2)]
  next => rfl

/-- The word with a bit set sets it beside what PCTRL holds; SRST is not stored. -/
theorem State.pctrlWith_next (m : Word) :
    pctrlInfo.next .plain (s.reg (Adr.PCTRL p)) (s.pctrlWith p m) = s.reg (Adr.PCTRL p) ||| (m &&& 0xD#32) := by
  unfold State.pctrlWith
  rw [pctrl_next_plain]
  refine word_ext fun i hi => ?_
  simp only [bit_or, bit_and, bit_not _ _ hi]
  cases bit (s.reg (Adr.PCTRL p)) i <;> cases bit m i <;> cases bit 0xD#32 i <;> rfl

/-- The word with a bit cleared clears it alone. -/
theorem State.pctrlWithout_next (m : Word) :
    pctrlInfo.next .plain (s.reg (Adr.PCTRL p)) (s.pctrlWithout p m) = s.reg (Adr.PCTRL p) &&& ~~~(m &&& 0xD#32) := by
  unfold State.pctrlWithout
  rw [pctrl_next_plain]
  refine word_ext fun i hi => ?_
  simp only [bit_or, bit_and, bit_not _ _ hi]
  cases bit (s.reg (Adr.PCTRL p)) i <;> cases bit m i <;> cases bit 0xD#32 i <;> rfl

theorem State.pctrlWith_srst (m : Word) : bit (s.pctrlWith p m) 1 = bit m 1 := by
  unfold State.pctrlWith
  rw [bit_or, bit_and]
  exact (congrArg (· || bit m 1) (Bool.and_false _)).trans (Bool.false_or _)

theorem State.pctrlWithout_srst (m : Word) : bit (s.pctrlWithout p m) 1 = false := by
  unfold State.pctrlWithout
  rw [bit_and, bit_and]
  exact congrArg (· && bit (~~~m) 1) (Bool.and_false _)

/-- A bit set in PCTRL, where that is not EN rising on a page that STORE holds. -/
theorem State.pctrlWritten_with {r : BlockRow} (hr : pageRow p = some r) (m : Word) (h : s.storeHeld p = true → bit m 0 = false) :
    s.pctrlWritten p (s.pctrlWith p m) =
      (s.setKey p .idle).writePctrl p (bit m 1) (s.reg (Adr.PCTRL p)) (s.reg (Adr.PCTRL p) ||| (m &&& 0xD#32)) := by
  rw [s.pctrlWritten_eq hr (s.pctrlWith_next m) fun hs hold => by rw [bit_or, bit_and, hold, h hs]; rfl, s.pctrlWith_srst]

/-- EN cleared in PCTRL. -/
theorem State.pctrlWritten_without {r : BlockRow} (hr : pageRow p = some r) :
    s.pctrlWritten p (s.pctrlWithout p 1#32) =
      (s.setKey p .idle).writePctrl p false (s.reg (Adr.PCTRL p)) (s.reg (Adr.PCTRL p) &&& ~~~1#32) := by
  rw [s.pctrlWritten_eq hr (s.pctrlWithout_next 1#32) fun _ _ => (bit_and ..).trans (Bool.and_false _), s.pctrlWithout_srst]
  rfl

section
variable {old new : Word} (h3 : bit new 3 = bit old 3) (h2 : bit new 2 = bit old 2)
include h3 h2

/-! A write of PCTRL that leaves LOCK and SAFETY resets the page, or acts on the edge of EN. -/

theorem State.writePctrl_srst : s.writePctrl p true old new = (s.setReg (Adr.PCTRL p) (setBit new 0 (bit old 0))).softReset p := by
  unfold State.writePctrl
  simp [h3, h2]

theorem State.writePctrl_rise (ho : bit old 0 = false) (hn : bit new 0 = true) :
    s.writePctrl p false old new = (s.setReg (Adr.PCTRL p) (setBit new 0 false)).enablePage p := by
  unfold State.writePctrl
  simp [h3, h2, ho, hn]

theorem State.writePctrl_fall (ho : bit old 0 = true) (hn : bit new 0 = false) :
    s.writePctrl p false old new = (s.setReg (Adr.PCTRL p) (setBit new 0 true)).disablePage p := by
  unfold State.writePctrl
  simp [h3, h2, ho, hn]

omit h2 in
theorem State.writePctrl_steady (h : bit new 0 = bit old 0) :
    s.writePctrl p false old new = (s.setReg (Adr.PCTRL p) new).when (bit new 2 && !bit old 2) fun t => t.crcLatch p := by
  have hnew : setBit new 0 (bit old 0) = new := h ▸ setBit_same new 0
  unfold State.writePctrl
  simp [h3, h, hnew, State.when]

end

theorem State.pageEn_setPctrl (v : Word) : (s.setReg (Adr.PCTRL p) v).pageEn p = bit v 0 := by
  unfold State.pageEn
  rw [State.flag_eq, State.reg_setReg_self]

theorem pctrl_ne_pstat (p : Nat) : Adr.PCTRL p ≠ Adr.PSTAT p := by unfold Adr.PCTRL Adr.PSTAT; omega

/-! ### EN set and cleared (R69, R70) -/

theorem State.storeHeld_other {b : Block} (hb : pageBlock p = some b) (h : b ∉ [Block.ggrp, .twl, .enc, .act]) : s.storeHeld p = false := by
  simp only [List.mem_cons, List.not_mem_nil, or_false, not_or] at h
  obtain ⟨hggrp, htwl, henc, hact⟩ := h
  unfold State.storeHeld
  rw [hb]
  cases b
  case ggrp => exact absurd rfl hggrp
  case twl => exact absurd rfl htwl
  case enc => exact absurd rfl henc
  case act => exact absurd rfl hact
  all_goals exact Bool.and_false _

/-- Blocks that setting EN starts nothing in. -/
def startsNothing : List Block := [.icx, .evr, .tbu, .pair, .trim, .tsch, .adc, .hk, .zcor]

/-- Blocks that clearing EN stops nothing in. -/
def stopsNothing : List Block := [.icx, .evr, .tbu, .pair, .tsch, .hk, .hall, .can, .eth]

theorem State.blockStart_nothing {b : Block} (hb : pageBlock p = some b) (h : b ∈ startsNothing) : s.blockStart p = s := by
  unfold State.blockStart
  rw [hb]
  simp only [startsNothing, List.mem_cons, List.not_mem_nil, or_false] at h
  rcases h with rfl | rfl | rfl | rfl | rfl | rfl | rfl | rfl | rfl <;> rfl

theorem State.blockStop_nothing {b : Block} (hb : pageBlock p = some b) (h : b ∈ stopsNothing) : s.blockStop p = s := by
  unfold State.blockStop
  rw [hb]
  simp only [stopsNothing, List.mem_cons, List.not_mem_nil, or_false] at h
  rcases h with rfl | rfl | rfl | rfl | rfl | rfl | rfl | rfl | rfl <;> rfl

/-- EN written as 1 on such a block's page, disabled before. -/
theorem State.writePctrl_enables {b : Block} (hb : pageBlock p = some b) (h : b ∈ startsNothing) {old : Word} (hold : bit old 0 = false) :
    ∃ u, s.writePctrl p false old (old ||| 1#32) = u ∧ u.pageEn p = true ∧ u.pageSafeSt p = false
      ∧ State.RegsOn (· ∉ [Adr.PCTRL p, Adr.PSTAT p]) s u ∧ u.mem = s.mem := by
  have hb0 : bit (old ||| 1#32) 0 = true := by rw [bit_or]; exact Bool.or_true _
  have hk (i : Nat) (hi : bit 1#32 i = false) : bit (old ||| 1#32) i = bit old i := by rw [bit_or, hi, Bool.or_false]
  let s1 := s.setReg (Adr.PCTRL p) (setBit (old ||| 1#32) 0 false)
  have hen : s1.pageEn p = false := by rw [State.pageEn_setPctrl, bit_setBit_self _ _ (by decide)]
  have hstore : s1.storeHeld p = false := s1.storeHeld_other hb fun hm => by revert hm h; cases b <;> decide
  have hwrite : s.writePctrl p false old (old ||| 1#32) = (s1.setFlag (Adr.PCTRL p) 0 true).setFlag (Adr.PSTAT p) 30 false := by
    rw [s.writePctrl_rise (hk 3 (by decide)) (hk 2 (by decide)) hold hb0]
    change s1.enablePage p = _
    unfold State.enablePage
    rw [hstore, hen, if_neg (by decide), State.blockStart_nothing _ hb h]
  refine ⟨_, hwrite, ?_, ?_, ?_, rfl⟩
  · change bit (((s1.setFlag _ 0 true).setFlag _ 30 false).reg _) 0 = true
    rw [State.reg_setFlag, if_neg (pctrl_ne_pstat p), State.reg_setFlag, if_pos rfl, bit_setBit_self _ _ (by decide)]
  · exact State.flag_setFlag_self _ _ false (by decide)
  · exact ((s.setReg_regsOn (by simp) _).trans (State.setFlag_regsOn _ (by simp) 0 true)).trans (State.setFlag_regsOn _ (by simp) 30 false)

/-- EN written as 0 on such a block's page. -/
theorem State.writePctrl_disables {b : Block} (hb : pageBlock p = some b) (h : b ∈ stopsNothing) (old : Word) :
    ∃ u, s.writePctrl p false old (old &&& ~~~1#32) = u ∧ u.pageEn p = false ∧ State.RegsOn (· ∉ [Adr.PCTRL p]) s u ∧ u.mem = s.mem := by
  have hb0 : bit (old &&& ~~~1#32) 0 = false := by rw [bit_and]; exact Bool.and_false _
  have hk (i : Nat) (hi : bit (~~~1#32) i = true) : bit (old &&& ~~~1#32) i = bit old i := by rw [bit_and, hi, Bool.and_true]
  cases hold : bit old 0 with
  | false =>
    rw [s.writePctrl_steady (hk 3 (by decide)) (hb0.trans hold.symm), hk 2 (by decide), Bool.and_not_self]
    exact ⟨_, rfl, (State.pageEn_setPctrl ..).trans hb0, s.setReg_regsOn (by simp) _, rfl⟩
  | true =>
    let s1 := s.setReg (Adr.PCTRL p) (setBit (old &&& ~~~1#32) 0 true)
    have hen : s1.pageEn p = true := by rw [State.pageEn_setPctrl, bit_setBit_self _ _ (by decide)]
    have hwrite : s.writePctrl p false old (old &&& ~~~1#32) = s1.setFlag (Adr.PCTRL p) 0 false := by
      rw [s.writePctrl_fall (hk 3 (by decide)) (hk 2 (by decide)) hold hb0]
      change s1.disablePage p = _
      unfold State.disablePage
      rw [hen, if_pos rfl, State.blockStop_nothing _ hb h]
    exact ⟨_, hwrite, State.flag_setFlag_self _ _ false (by decide),
      (s.setReg_regsOn (by simp) _).trans (State.setFlag_regsOn _ (by simp) 0 false), rfl⟩

/-! ### LOCK (R82) -/

theorem State.crcLatch_idle (h : s.flag (Adr.PSTAT p) 31 = false) :
    s.crcLatch p = s.putPage p { s.page p with latch := some (s.reg (Adr.PCRC p)), due := false } := by
  unfold State.crcLatch
  rw [h]
  rfl

theorem State.crcLatch_busy (h : s.flag (Adr.PSTAT p) 31 = true) : s.crcLatch p = s.putPage p { s.page p with due := true } := by
  unfold State.crcLatch
  rw [h]
  rfl

theorem State.crcLatch_regsOn {P : Nat → Prop} : State.RegsOn P s (s.crcLatch p) := .of_regs ((State.crcLatch_within ..).same .regs rfl)

theorem State.crcLatch_mem : (s.crcLatch p).mem = s.mem := (State.crcLatch_within ..).same .mem rfl

/-- LOCK written as 1: PCRC is latched where LOCK was 0, at once or when the recomputation completes. -/
theorem State.writePctrl_locks (old : Word) : ∃ u, s.writePctrl p false old (old ||| 4#32) = u ∧ u.pageLocked p = true
    ∧ State.RegsOn (· ∉ [Adr.PCTRL p]) s u ∧ u.mem = s.mem
    ∧ (bit old 2 = false → s.flag (Adr.PSTAT p) 31 = false → (u.page p).latch = some (s.reg (Adr.PCRC p)))
    ∧ (bit old 2 = false → s.flag (Adr.PSTAT p) 31 = true → (u.page p).due = true) := by
  have hk (i : Nat) (hi : bit 4#32 i = false) : bit (old ||| 4#32) i = bit old i := by rw [bit_or, hi, Bool.or_false]
  have hl : bit (old ||| 4#32) 2 = true := by rw [bit_or]; exact Bool.or_true _
  let s1 := s.setReg (Adr.PCTRL p) (old ||| 4#32)
  have hs1 : State.RegsOn (· ∉ [Adr.PCTRL p]) s s1 := s.setReg_regsOn (by simp) _
  have hlock : s1.pageLocked p = true := by
    unfold State.pageLocked
    rw [State.flag_eq, State.reg_setReg_self, hl]
  have hstat : s1.flag (Adr.PSTAT p) 31 = s.flag (Adr.PSTAT p) 31 := hs1.flag (by simp [Adr.PCTRL, Adr.PSTAT]) 31
  have hcrc : s1.reg (Adr.PCRC p) = s.reg (Adr.PCRC p) := hs1.same _ (by simp [Adr.PCTRL, Adr.PCRC])
  rw [s.writePctrl_steady (hk 3 (by decide)) (hk 0 (by decide)), hl, Bool.true_and]
  cases hold : bit old 2 with
  | true => exact ⟨_, rfl, hlock, hs1, rfl, nofun, nofun⟩
  | false =>
    refine ⟨s1.crcLatch p, rfl, ((s1.crcLatch_regsOn (P := fun _ => True)).flag trivial 2).trans hlock, hs1.trans s1.crcLatch_regsOn, s1.crcLatch_mem,
      fun _ h => ?_, fun _ h => ?_⟩
    · rw [s1.crcLatch_idle (hstat.trans h), State.page_putPage_self, hcrc]
    · rw [s1.crcLatch_busy (hstat.trans h), State.page_putPage_self]

/-! ### SRST (R71) -/

/-- Blocks whose soft reset is that of their registers and hidden state alone. -/
def resetsPlainly : List Block := [.tbu, .tsch, .hall, .enc, .can]

theorem State.blockHidden_plain {b : Block} (hb : pageBlock p = some b) (h : b ∈ resetsPlainly) :
    State.RegsOn (fun _ => True) s (s.blockHidden p) := by
  unfold State.blockHidden
  rw [hb]
  simp only [resetsPlainly, List.mem_cons, List.not_mem_nil, or_false] at h
  rcases h with rfl | rfl | rfl | rfl | rfl
  case inr.inr.inl => exact s.each_regsOn fun t k _ => .of_regs (State.putHall_regs ..)
  case inr.inr.inr.inl => exact .of_regs (State.setEncs_regs ..)
  case inr.inr.inr.inr => exact .of_regs (State.setNet_regs ..)
  all_goals exact .refl

theorem State.blockStop_plain {b : Block} (hb : pageBlock p = some b) (h : b ∈ resetsPlainly) : s.blockStop p = s := by
  unfold State.blockStop
  rw [hb]
  simp only [resetsPlainly, List.mem_cons, List.not_mem_nil, or_false] at h
  rcases h with rfl | rfl | rfl | rfl | rfl <;> rfl

theorem State.softReset_plain {r : BlockRow} (hr : pageRow p = some r) (h : r.blk ∈ resetsPlainly) :
    (∀ a, a / 4096 = p → 0x40 ≤ a % 4096 → (s.softReset p).reg a = regDefault a)
      ∧ (s.softReset p).reg (Adr.PEVT p) = 0#32 ∧ (s.softReset p).reg (Adr.PEVEN p) = 0#32
      ∧ (s.softReset p).reg (Adr.PFAULT p) = s.reg (Adr.PFAULT p) &&& 0xC0000000#32
      ∧ State.RegsOn (fun a => a / 4096 ≠ p ∨ a = Adr.POWNER p) s (s.softReset p) ∧ (s.softReset p).mem = s.mem := by
  have hb : pageBlock p = some r.blk := by unfold pageBlock; rw [hr]; rfl
  let s2 := (s.setFlag (Adr.PCTRL p) 0 false).clearRegs fun a => decide (a / 4096 = p) && decide (0x40 ≤ a % 4096)
  let s3 := ((s2.setReg (Adr.PEVT p) 0#32).setReg (Adr.PEVEN p) 0#32).setReg (Adr.PFAULT p) (s.reg (Adr.PFAULT p) &&& 0xC0000000#32)
  have hsoft : s.softReset p = (s3.blockHidden p).crcTouch p := by
    unfold State.softReset
    rw [hr]
    dsimp only
    rw [State.blockStop_plain _ hb h]
    simp only [resetsPlainly, List.mem_cons, List.not_mem_nil, or_false] at h
    rcases h with h | h | h | h | h <;> rw [h] <;> simp only [keepsOnSoftReset, Bool.not_false, Bool.and_true] <;> rfl
  have h34 : State.RegsOn (· ≠ Adr.PSTAT p) s3 (s.softReset p) :=
    hsoft ▸ ((s3.blockHidden_plain hb h).mono fun _ _ => trivial).trans (State.setFlag_regsOn _ (by simp) 31 true)
  have hblock (a : Nat) (ha : a / 4096 = p ∧ 0x40 ≤ a % 4096) : s2.reg a = regDefault a := by
    unfold s2
    rw [State.reg_clearRegs, if_pos (by simpa using ha)]
  have hrest (a : Nat) (ha : a / 4096 ≠ p ∨ a % 4096 < 0x40) (hc : a ≠ Adr.PCTRL p) : s2.reg a = s.reg a := by
    unfold s2
    rw [State.reg_clearRegs, if_neg (by simp only [Bool.and_eq_true, decide_eq_true_eq]; omega), State.reg_setFlag, if_neg hc]
  have h23 : State.RegsOn (fun a => a ≠ Adr.PEVT p ∧ a ≠ Adr.PEVEN p ∧ a ≠ Adr.PFAULT p) s2 s3 :=
    ((s2.setReg_regsOn (by simp) _).trans (State.setReg_regsOn _ (by simp) _)).trans (State.setReg_regsOn _ (by simp) _)
  have hevt : s3.reg (Adr.PEVT p) = 0#32 := by simp [s3, State.reg_setReg, Adr.PEVT, Adr.PEVEN, Adr.PFAULT]
  have heven : s3.reg (Adr.PEVEN p) = 0#32 := by simp [s3, State.reg_setReg, Adr.PEVEN, Adr.PFAULT]
  refine ⟨fun a hp ha => ?_, (h34.same _ ?_).trans hevt, (h34.same _ ?_).trans heven, (h34.same _ ?_).trans (State.reg_setReg_self ..),
    ⟨fun a ha => ?_⟩, hsoft ▸ (State.blockHidden_within s3 p).same .mem rfl⟩
  case refine_1 =>
    rw [h34.same a (by unfold Adr.PSTAT; omega), h23.same a (by unfold Adr.PEVT Adr.PEVEN Adr.PFAULT; omega), hblock a ⟨hp, ha⟩]
  case refine_5 =>
    unfold Adr.POWNER at ha
    rw [h34.same a (by unfold Adr.PSTAT; omega), h23.same a (by unfold Adr.PEVT Adr.PEVEN Adr.PFAULT; omega),
      hrest a (by omega) (by unfold Adr.PCTRL; omega)]
  all_goals simp [Adr.PSTAT, Adr.PEVT, Adr.PEVEN, Adr.PFAULT]

/-! ### The recomputation and the check (R81, R82) -/

theorem State.crcNow_eq {r : BlockRow} (hr : pageRow p = some r) : s.crcNow p = pageCrc r.blk (p - r.page) fun o => s.reg (4096 * p + o) := by
  unfold State.crcNow
  rw [hr]

theorem irqReg_pcrc (p : Nat) : irqReg (Adr.PCRC p) = false := irqReg_eq_false (by unfold Adr.PCRC; omega)
theorem irqReg_pfault (p : Nat) : irqReg (Adr.PFAULT p) = false := irqReg_eq_false (by unfold Adr.PFAULT; omega)

/-- The recomputation of a page whose CRCBUSY is 1. -/
theorem State.crcDone_busy (h : s.flag (Adr.PSTAT p) 31 = true) : (s.crcDone p).reg (Adr.PCRC p) = s.crcNow p ∧ (s.crcDone p).flag (Adr.PSTAT p) 31 = false
    ∧ ((s.page p).due = true → ((s.crcDone p).page p).latch = some (s.crcNow p)) ∧ State.RegsOn (· ∉ [Adr.PCRC p, Adr.PSTAT p]) s (s.crcDone p)
    ∧ (s.crcDone p).mem = s.mem := by
  let u := (s.setReg (Adr.PCRC p) (s.crcNow p)).setFlag (Adr.PSTAT p) 31 false
  have hdone : s.crcDone p = u.when (s.page p).due fun t => t.crcLatch p := by
    unfold State.crcDone
    rw [h]
    rfl
  have hsame : State.RegsOn (fun _ => True) u (s.crcDone p) := hdone ▸ u.when_regsOn (fun t => t.crcLatch_regsOn) _
  have hcrc : u.reg (Adr.PCRC p) = s.crcNow p := by
    unfold u
    rw [State.reg_setFlag, if_neg (by unfold Adr.PCRC Adr.PSTAT; omega), State.reg_setReg_self]
  have hbusy : u.flag (Adr.PSTAT p) 31 = false := State.flag_setFlag_self _ _ false (by decide)
  refine ⟨(hsame.same _ trivial).trans hcrc, (hsame.flag trivial 31).trans hbusy, fun hd => ?_, ?_, ?_⟩
  · rw [hdone, hd]
    change ((u.crcLatch p).page p).latch = _
    rw [u.crcLatch_idle hbusy, State.page_putPage_self, hcrc]
  · exact ((s.setReg_regsOn (by simp) _).trans (State.setFlag_regsOn _ (by simp) 31 false)).trans (hsame.mono fun _ _ => trivial)
  · rw [hdone]
    unfold State.when
    split
    · exact u.crcLatch_mem
    · rfl

/-- The check compares what PCRC comes to be with what it was when LOCK was set. -/
theorem State.crcCompare_latched {l : Word} (hlock : s.pageLocked p = true) (hbusy : s.flag (Adr.PSTAT p) 31 = false) (hl : (s.page p).latch = some l) :
    s.crcCompare p = if s.crcNow p = l then s.setReg (Adr.PCRC p) (s.crcNow p) else (s.setReg (Adr.PCRC p) (s.crcNow p)).crcBad p := by
  unfold State.crcCompare
  rw [hlock, hbusy, hl]
  rfl

theorem State.crcCompare_unlocked (h : s.pageLocked p = false) : s.crcCompare p = s := by
  unfold State.crcCompare
  rw [h]
  rfl

/-- A mismatch on a page of GMS that is not safety-marked, not seen before. -/
theorem State.crcBad_gms (hf : s.flag (Adr.PFAULT p) 31 = false) (ho : s.owner p = 3) (hm : s.pageMarked p = false) :
    s.crcBad p = (s.fault p 31).logGms 15 (w32 (busAddr (4096 * p))) Reason.cfgCrc false := by
  unfold State.crcBad
  rw [hf, ho, hm]
  rfl

theorem mem_insertNat {a b : Nat} {l : List Nat} : b ∈ insertNat a l ↔ b = a ∨ b ∈ l := by
  induction l with
  | nil => simp [insertNat]
  | cons c t ih =>
    unfold insertNat
    split
    · simp
    · simp only [List.mem_cons, ih]
      tauto

theorem mem_sortNat {b : Nat} {l : List Nat} : b ∈ sortNat l ↔ b ∈ l := by
  induction l with
  | nil => rfl
  | cons a t ih => rw [sortNat, mem_insertNat, ih, List.mem_cons]

/-- A configuration register is one of a row of its block that is configuration. -/
theorem row_of_configOffsets {b : Block} {inst off : Nat} (h : off ∈ configOffsets b inst) :
    ∃ row ∈ rowsOf b, isConfig row = true ∧ ∃ k < row.count, off = row.off + k * row.stride := by
  have hmem := (List.mem_filter.mp (mem_sortNat.mp h)).1
  obtain ⟨row, hrow, hoff⟩ := List.mem_flatMap.mp hmem
  obtain ⟨hrow, hconf⟩ := List.mem_filter.mp hrow
  obtain ⟨k, hk, rfl⟩ := List.mem_map.mp hoff
  exact ⟨row, hrow, hconf, k, List.mem_range.mp hk, rfl⟩

/-- Configuration registers lie past the header, and none is an IRQPEND. -/
theorem configRow_off (b : Block) : ∀ row ∈ rowsOf b, isConfig row = true →
    0x40 ≤ row.off ∧ (b = .evr → row.off + row.count * row.stride ≤ 0x60 ∨ 0x68 ≤ row.off) := by
  cases b <;> decide

theorem rowStride_pos (b : Block) : ∀ row ∈ rowsOf b, 0 < row.stride := by
  cases b <;> decide

theorem configOffsets_irqReg {r : BlockRow} (hr : pageRow p = some r) {off : Nat} (hlt : off < 4096) (h : off ∈ configOffsets r.blk (p - r.page)) :
    0x40 ≤ off ∧ irqReg (4096 * p + off) = false := by
  obtain ⟨row, hrow, hconf, k, hk, rfl⟩ := row_of_configOffsets h
  obtain ⟨h40, hevr⟩ := configRow_off r.blk row hrow hconf
  refine ⟨by omega, ?_⟩
  by_cases hb : r.blk = .evr
  · have hoff := hevr hb
    have hmul : (k + 1) * row.stride ≤ row.count * row.stride := Nat.mul_le_mul_right _ hk
    rw [Nat.succ_mul] at hmul
    have hstride : 0 < row.stride := rowStride_pos r.blk row hrow
    exact irqReg_eq_false (by omega)
  · refine irqReg_of_block ?_
    rw [show (4096 * p + (row.off + k * row.stride)) / 4096 = p by omega]
    unfold pageBlock
    rw [hr]
    exact fun e => hb (Option.some.inj e)

/-- An upset of a covered word of a page that is not locked. -/
theorem State.upset_eq {r : BlockRow} (hr : pageRow p = some r) {off : Nat} (h : off ∈ configOffsets r.blk (p - r.page)) (x : Word) :
    s.upset p off x = s.setReg (4096 * p + off) (s.reg (4096 * p + off) ^^^ (x &&& crcMask r.blk off)) := by
  unfold State.upset
  rw [hr]
  simp [h]

end

/-! ### The commands -/

section
variable (s : State) {p : Nat} {b : Block} (hb : pageBlock p = some b) {port : Port} (ho : s.Owns port p)

include hb in
theorem pageRow_of_pageBlock : ∃ r, pageRow p = some r ∧ r.blk = b := Option.map_eq_some_iff.mp hb

include hb ho

theorem pageEnable_enables (hw : s.refusalOf port (Adr.PCTRL p) .plain (s.pctrlWith p 1#32) = none) :
    ∃ t, exec (.pageEnable port p) s = .next t ∧ (t.port port).resp = .ok []
      ∧ (b ∈ startsNothing → s.pageEn p = false → t.pageEn p = true ∧ t.pageSafeSt p = false ∧ s.KeepsBut [Adr.PCTRL p, Adr.PSTAT p] t) := by
  obtain ⟨r, hr, rfl⟩ := pageRow_of_pageBlock hb
  refine ⟨_, done_pctrlStore s (by rw [hr]; rfl) ho hw, State.writeDone_resp .., fun hq hen => ?_⟩
  have hstore : s.storeHeld p = false := State.storeHeld_other _ hb fun hm => by revert hm hq; cases r.blk <;> decide
  obtain ⟨u, hu, hon, hsafe, hregs, hmem⟩ := (s.setKey p .idle).writePctrl_enables hb hq hen
  rw [(s.pctrlWritten_with hr 1#32 fun h => absurd h (by simp [hstore])).trans hu]
  exact ⟨(State.writeDone_flag _ _ (irqReg_pctrl p) 0).trans hon, (State.writeDone_flag _ _ (irqReg_pstat p) 30).trans hsafe,
    State.writeDone_keepsBut _ _ ((s.setKey_regsOn _ _).trans hregs) hmem⟩

theorem pageDisable_disables (hw : s.refusalOf port (Adr.PCTRL p) .plain (s.pctrlWithout p 1#32) = none) :
    ∃ t, exec (.pageDisable port p) s = .next t ∧ (t.port port).resp = .ok []
      ∧ (b ∈ stopsNothing → t.pageEn p = false ∧ s.KeepsBut [Adr.PCTRL p] t) := by
  obtain ⟨r, hr, rfl⟩ := pageRow_of_pageBlock hb
  refine ⟨_, done_pctrlStore s (by rw [hr]; rfl) ho hw, State.writeDone_resp .., fun hq => ?_⟩
  obtain ⟨u, hu, hoff, hregs, hmem⟩ := (s.setKey p .idle).writePctrl_disables hb hq (s.reg (Adr.PCTRL p))
  rw [(s.pctrlWritten_without hr).trans hu]
  exact ⟨(State.writeDone_flag _ _ (irqReg_pctrl p) 0).trans hoff, State.writeDone_keepsBut _ _ ((s.setKey_regsOn _ _).trans hregs) hmem⟩

theorem configLock_locks (hw : s.refusalOf port (Adr.PCTRL p) .plain (s.pctrlWith p 4#32) = none) :
    ∃ t, exec (.configLock port p) s = .next t ∧ (t.port port).resp = .ok [] ∧ t.pageLocked p = true ∧ s.KeepsBut [Adr.PCTRL p] t
      ∧ (s.pageLocked p = false → s.flag (Adr.PSTAT p) 31 = false → (t.page p).latch = some (s.reg (Adr.PCRC p)))
      ∧ (s.pageLocked p = false → s.flag (Adr.PSTAT p) 31 = true → (t.page p).due = true) := by
  obtain ⟨r, hr, rfl⟩ := pageRow_of_pageBlock hb
  refine ⟨_, done_pctrlStore s (by rw [hr]; rfl) ho hw, State.writeDone_resp .., ?_⟩
  obtain ⟨u, hu, hlock, hregs, hmem, hlatch, hdue⟩ := (s.setKey p .idle).writePctrl_locks (p := p) (s.reg (Adr.PCTRL p))
  rw [(s.pctrlWritten_with hr 4#32 fun _ => rfl).trans hu, State.writeDone_page]
  exact ⟨(State.writeDone_flag _ _ (irqReg_pctrl p) 2).trans hlock, State.writeDone_keepsBut _ _ ((s.setKey_regsOn _ _).trans hregs) hmem, hlatch, hdue⟩

theorem softReset_resets (hw : s.refusalOf port (Adr.PCTRL p) .plain (s.pctrlWith p 2#32) = none) :
    ∃ t, exec (.softReset port p) s = .next t ∧ (t.port port).resp = .ok [] ∧ (b ∈ resetsPlainly → t.pageEn p = false
      ∧ (∀ a, a / 4096 = p → 0x40 ≤ a % 4096 → t.reg a = regDefault a) ∧ t.reg (Adr.PEVT p) = 0#32 ∧ t.reg (Adr.PEVEN p) = 0#32
      ∧ t.reg (Adr.PFAULT p) = s.reg (Adr.PFAULT p) &&& 0xC0000000#32 ∧ t.owner p = s.owner p ∧ t.pageLocked p = s.pageLocked p
      ∧ t.pageMarked p = s.pageMarked p ∧ (∀ a, a / 4096 ≠ p → irqReg a = false → t.reg a = s.reg a) ∧ s.MemSame t) := by
  obtain ⟨r, hr, rfl⟩ := pageRow_of_pageBlock hb
  refine ⟨_, done_pctrlStore s (by rw [hr]; rfl) ho hw, State.writeDone_resp .., fun hq => ?_⟩
  let old := s.reg (Adr.PCTRL p)
  have hnew : old ||| (2#32 &&& 0xD#32) = old := BitVec.or_zero
  let u := (s.setKey p .idle).setReg (Adr.PCTRL p) old
  have hsu : State.RegsOn (fun _ => True) s u := (s.setKey_regsOn _ _).trans (State.rewrite_regsOn (s.setKey p .idle) (Adr.PCTRL p))
  have hwritten : s.pctrlWritten p (s.pctrlWith p 2#32) = u.softReset p := by
    rw [s.pctrlWritten_with hr 2#32 fun _ => rfl, hnew]
    exact (State.writePctrl_srst _ rfl rfl).trans (by rw [setBit_same])
  have hctrl : (u.softReset p).reg (Adr.PCTRL p) = setBit old 0 false := (State.softReset_pctrl u p hr).trans (by rw [hsu.same _ trivial])
  obtain ⟨hblock, hevt, heven, hfault, hkeep, hmem⟩ := u.softReset_plain hr hq
  have hirq (a : Nat) (ha : a / 4096 = p) : irqReg a = false := irqReg_of_block (by
    rw [ha, hb]
    intro e
    rw [Option.some.inj e] at hq
    revert hq
    decide)
  rw [hwritten]
  have hflag (i : Nat) : (State.writeDone port (u.softReset p, none)).settle.flag (Adr.PCTRL p) i = bit (setBit old 0 false) i :=
    (State.writeDone_flag _ _ (irqReg_pctrl p) i).trans (congrArg (bit · i) hctrl)
  refine ⟨(hflag 0).trans (bit_setBit_self _ _ (by decide)), fun a ha h40 => (State.writeDone_reg _ _ (hirq a ha)).trans (hblock a ha h40),
    ?_, ?_, ?_, ?_, (hflag 2).trans (bit_setBit_ne _ _ (by decide)), (hflag 3).trans (bit_setBit_ne _ _ (by decide)),
    fun a ha hi => (State.writeDone_reg _ _ hi).trans ((hkeep.same a (.inl ha)).trans (hsu.same a trivial)),
    fun a => State.byte_congr ((State.writeDone_mem ..).trans hmem) a⟩
  · exact (State.writeDone_reg _ _ (hirq _ (by unfold Adr.PEVT; omega))).trans hevt
  · exact (State.writeDone_reg _ _ (hirq _ (by unfold Adr.PEVEN; omega))).trans heven
  · rw [State.writeDone_reg _ _ (irqReg_pfault p), ← hsu.same _ trivial]
    exact hfault
  · exact (State.settle_fld _ (irqReg_powner p) 1 0).trans ((hkeep.fld (.inr rfl) 1 0).trans (hsu.fld trivial 1 0))

end

section
variable (s : State) {p : Nat} {r : BlockRow} (hr : pageRow p = some r) (hon : s.pageOn p = true)
include hr hon

omit hr in
theorem State.onPage_on (f : State → State) : s.onPage p f = f s := if_pos hon

theorem crcRecomputed_completes (h : s.flag (Adr.PSTAT p) 31 = true) : ∃ t, exec (.crcRecomputed p) s = .next t
    ∧ t.reg (Adr.PCRC p) = pageCrc r.blk (p - r.page) (fun o => s.reg (4096 * p + o)) ∧ t.flag (Adr.PSTAT p) 31 = false
    ∧ ((s.page p).due = true → (t.page p).latch = some (t.reg (Adr.PCRC p))) ∧ s.KeepsBut [Adr.PCRC p, Adr.PSTAT p] t := by
  obtain ⟨hcrc, hbusy, hlatch, hregs, hmem⟩ := s.crcDone_busy h
  have hexec : exec (.crcRecomputed p) s = .next (s.crcDone p).settle := congrArg done (s.onPage_on hon _)
  have hreg := (State.settle_reg (s.crcDone p) (irqReg_pcrc p)).trans hcrc
  refine ⟨_, hexec, hreg.trans (s.crcNow_eq hr), (State.settle_flag _ (irqReg_pstat p) 31).trans hbusy, fun hd => ?_, hregs.keepsBut hmem⟩
  rw [State.settle_page, hreg]
  exact hlatch hd

omit hr in
theorem exec_crcCheck (upset : Option (BitVec 12 × Word)) : exec (.crcCheck p upset) s = .next (State.crcCompare
    (match upset with
      | some (off, x) => s.upset p off.toNat x
      | none => s) p).settle := congrArg done (s.onPage_on hon _)

section
variable {l : Word} (hlock : s.pageLocked p = true) (hbusy : s.flag (Adr.PSTAT p) 31 = false) (hl : (s.page p).latch = some l)
include hlock hbusy hl

theorem crcCheck_agrees (h : pageCrc r.blk (p - r.page) (fun o => s.reg (4096 * p + o)) = l) :
    ∃ t, exec (.crcCheck p none) s = .next t ∧ t.reg (Adr.PCRC p) = l ∧ s.KeepsBut [Adr.PCRC p] t := by
  have hnow : s.crcNow p = l := (s.crcNow_eq hr).trans h
  refine ⟨_, exec_crcCheck s hon none, ?_⟩
  dsimp only
  rw [s.crcCompare_latched hlock hbusy hl, if_pos hnow, hnow]
  exact ⟨(State.settle_reg _ (irqReg_pcrc p)).trans (State.reg_setReg_self ..), (s.setReg_regsOn (by simp) l).keepsBut rfl⟩

theorem crcCheck_differs (h : pageCrc r.blk (p - r.page) (fun o => s.reg (4096 * p + o)) ≠ l) (hm : s.pageMarked p = false)
    (ho : s.owner p = 3) (hf : s.flag (Adr.PFAULT p) 31 = false) : ∃ t, exec (.crcCheck p none) s = .next t ∧ t.flag (Adr.PFAULT p) 31 = true
      ∧ t.reg (Adr.PCRC p) = pageCrc r.blk (p - r.page) (fun o => s.reg (4096 * p + o))
      ∧ t.gms.bb.refusedGms.getLast? = some ⟨w32 (busAddr (4096 * p)), 15, 9, false⟩ ∧ s.KeepsBut [Adr.PCRC p, Adr.PFAULT p] t := by
  have hnow := s.crcNow_eq hr
  let u := s.setReg (Adr.PCRC p) (s.crcNow p)
  have hsu : State.RegsOn (· ≠ Adr.PCRC p) s u := s.setReg_regsOn (by simp) _
  have hbad := u.crcBad_gms ((hsu.flag (by simp [Adr.PFAULT, Adr.PCRC]) 31).trans hf) ((hsu.fld (by simp [Adr.POWNER, Adr.PCRC]) 1 0).trans ho)
    ((hsu.flag (by simp [Adr.PCTRL, Adr.PCRC]) 3).trans hm)
  have hlog : State.RegsOn (fun _ => True) (u.fault p 31) (u.crcBad p) := by
    rw [hbad]
    exact .of_regs rfl
  refine ⟨_, exec_crcCheck s hon none, ?_⟩
  dsimp only
  rw [s.crcCompare_latched hlock hbusy hl, if_neg (hnow ▸ h)]
  refine ⟨?_, ?_, ?_, State.RegsOn.keepsBut ?_ ?_⟩
  · rw [State.settle_flag _ (irqReg_pfault p), hlog.flag trivial]
    exact State.flag_setFlag_self _ _ true (by decide)
  · rw [State.settle_reg _ (irqReg_pcrc p), hlog.same _ trivial, State.reg_fault, if_neg (by unfold Adr.PCRC Adr.PFAULT; omega),
      State.reg_setReg_self, hnow]
  · rw [State.settle_bb, hbad]
    exact keep16_getLast? _ _
  · exact ((s.setReg_regsOn (by simp) _).trans (State.setFlag_regsOn _ (by simp) 31 true)).trans (hlog.mono fun _ _ => trivial)
  · rw [hbad]
    rfl

end

/-- An upset on a page that is not locked goes unnoticed. -/
theorem crcCheck_upset {off : BitVec 12} (x : Word) (hlock : s.pageLocked p = false) (h : off.toNat ∈ configOffsets r.blk (p - r.page)) :
    ∃ t, exec (.crcCheck p (some (off, x))) s = .next t
      ∧ t.reg (4096 * p + off.toNat) = s.reg (4096 * p + off.toNat) ^^^ (x &&& crcMask r.blk off.toNat)
      ∧ s.KeepsBut [4096 * p + off.toNat] t := by
  obtain ⟨h40, hirq⟩ := configOffsets_irqReg hr off.isLt h
  have hregs (v : Word) : State.RegsOn (· ∉ [4096 * p + off.toNat]) s (s.setReg (4096 * p + off.toNat) v) := s.setReg_regsOn (by simp) v
  refine ⟨_, exec_crcCheck s hon _, ?_⟩
  dsimp only
  rw [s.upset_eq hr h, State.crcCompare_unlocked]
  · exact ⟨(State.settle_reg _ hirq).trans (State.reg_setReg_self ..), (hregs _).keepsBut rfl⟩
  · refine ((hregs _).flag ?_ 2).trans hlock
    simp only [List.mem_singleton, Adr.PCTRL]
    omega

end

/-- Settles O13: a write of PCTRL acts on the bit that its word changes, as `State.writePctrl` says for each; the check compares `State.crcNow` with the
latch. -/
theorem enableDisableReset : Obligations.EnableDisableReset := by
  unfold Obligations.EnableDisableReset
  refine ⟨fun port p b s hb ho => ⟨pageEnable_enables s hb ho, pageDisable_disables s hb ho, softReset_resets s hb ho, configLock_locks s hb ho⟩,
    fun p r s hr hon => ⟨crcRecomputed_completes s hr hon, fun l => crcCheck_agrees s hr hon, fun l => crcCheck_differs s hr hon,
      fun off x => crcCheck_upset s hr hon x⟩⟩

end Sys2Proof.Machine
end

section
/-! SUPPORT. Capture units and device time (R73, R87, R92, R93): what reads and SNAP do, and the freeze of a set with its end. -/

namespace Sys2Proof.Machine

/-! ### Reads of a router's page -/

/-- A port's read with its answer. -/
def State.readDone (port : Nat) (t : State) (v : Word) : State := t.answer port (.ok (wordBytes v))

section
variable (s : State) {port : Nat}

/-- A live port's read of a powered page's register. -/
theorem State.portLoad_live {a : Nat} (ha : a < 0x200000) (hl : s.portLive port = true) (hon : s.pageOn (a / 4096) = true) :
    s.portLoad port a = State.readDone port (s.readHook port a) (s.regView port a) := by
  rw [State.portLoad_eq _ _ _ ha, if_pos hl]
  unfold State.regRead State.readDone
  rw [hon]
  simp

theorem State.readDone_resp (t : State) (v : Word) : ((State.readDone port t v).settle.port port).resp = .ok (wordBytes v) := State.answer_settle_resp ..

theorem State.readDone_cap (t : State) (v : Word) (i : Nat) : (State.readDone port t v).settle.cap i = t.cap i := by
  unfold State.cap
  rw [State.settle_caps]
  rfl

theorem State.readDone_reg (t : State) (v : Word) {a : Nat} (h : irqReg a = false) : (State.readDone port t v).settle.reg a = t.reg a :=
  State.settle_reg _ h

theorem State.readDone_keepsBut {t : State} {l : List Nat} (v : Word) (h : State.RegsOn (· ∉ l) s t) (hm : t.mem = s.mem) :
    s.KeepsBut l (State.readDone port t v).settle :=
  State.RegsOn.keepsBut (h.trans (.of_regs rfl)) hm

end

/-! ### Addresses of a router's registers -/

section
variable (n : Fin 2) (k : Fin 8)

theorem pageRow_evr : ∃ r, pageRow (Pg.EVR n) = some r ∧ r.blk = .evr ∧ r.page = Pg.EVR 0 := by
  fin_cases n <;> exact ⟨_, rfl, rfl, rfl⟩

theorem evr_pages : (Pg.EVR n = Pg.EVR 0 ∨ Pg.EVR n = Pg.EVR 1) ∧ Pg.EVR n - Pg.EVR 0 = n := by
  unfold Pg.EVR
  omega

theorem dtimel_split : Adr.EVR_DTIMEL n / 4096 = Pg.EVR n ∧ Adr.EVR_DTIMEL n % 4096 = 0x40 := by
  unfold Adr.EVR_DTIMEL Pg.EVR
  omega

theorem captl_split : Adr.EVR_CAPTL n k / 4096 = Pg.EVR n ∧ Adr.EVR_CAPTL n k % 4096 = 0x100 + k * 0x20 + 8 := by
  unfold Adr.EVR_CAPTL Pg.EVR
  omega

theorem capv_split : Adr.EVR_CAPV n k / 4096 = Pg.EVR n ∧ Adr.EVR_CAPV n k % 4096 = 0x100 + k * 0x20 + 0x10 := by
  unfold Adr.EVR_CAPV Pg.EVR
  omega

theorem capctrl_split : Adr.EVR_CAPCTRL n k / 4096 = Pg.EVR n ∧ Adr.EVR_CAPCTRL n k % 4096 = 0x100 + k * 0x20 := by
  unfold Adr.EVR_CAPCTRL Pg.EVR
  omega

theorem evr_lt {a : Nat} (h : a / 4096 = Pg.EVR n) : a < 0x200000 := by
  unfold Pg.EVR at h
  omega

theorem irqReg_capstat : irqReg (Adr.EVR_CAPSTAT n k) = false := irqReg_eq_false (by unfold Adr.EVR_CAPSTAT; omega)
theorem irqReg_captl : irqReg (Adr.EVR_CAPTL n k) = false := irqReg_eq_false (by unfold Adr.EVR_CAPTL; omega)
theorem irqReg_capth : irqReg (Adr.EVR_CAPTH n k) = false := irqReg_eq_false (by unfold Adr.EVR_CAPTH; omega)
theorem irqReg_capv : irqReg (Adr.EVR_CAPV n k) = false := irqReg_eq_false (by unfold Adr.EVR_CAPV; omega)
theorem irqReg_pevt (p : Nat) : irqReg (Adr.PEVT p) = false := irqReg_eq_false (by unfold Adr.PEVT; omega)

variable (s : State) (port : Nat)

/-- What reads of the router's registers past the header show: what they hold, but for the device time. -/
theorem State.regView_evr {a : Nat} (hp : a / 4096 = Pg.EVR n) (ha : 0x48 ≤ a % 4096) : s.regView port a = s.reg a := by
  obtain ⟨r, hr, hb, -⟩ := pageRow_evr n
  unfold State.regView
  simp only [hp, hr, hb]
  rw [if_neg (by omega), if_neg (by omega), if_neg (by omega)]

theorem State.regView_dtimel : s.regView port (Adr.EVR_DTIMEL n) = w32 s.now := by
  obtain ⟨r, hr, hb, -⟩ := pageRow_evr n
  obtain ⟨hp, hoff⟩ := dtimel_split n
  unfold State.regView
  simp only [hp, hoff, hr, hb]
  rfl

theorem State.readHook_dtimel : s.readHook port (Adr.EVR_DTIMEL n) = s.dtimeRead port n := by
  obtain ⟨hp, hoff⟩ := dtimel_split n
  obtain ⟨hpg, hn⟩ := evr_pages n
  unfold State.readHook
  simp only [hp, hoff, if_pos hpg, hn, if_true]

theorem State.readHook_captl : s.readHook port (Adr.EVR_CAPTL n k) = s.capFreeze port n k := by
  obtain ⟨hp, hoff⟩ := captl_split n k
  obtain ⟨hpg, hn⟩ := evr_pages n
  unfold State.readHook
  simp only [hp, hoff, if_pos hpg, hn]
  rw [if_neg (by omega), if_pos (by omega), show (0x100 + k.val * 0x20 + 8 - 0x100) / 0x20 = k.val by omega]

theorem State.readHook_capv : s.readHook port (Adr.EVR_CAPV n k) = s.capRelease port n k := by
  obtain ⟨hp, hoff⟩ := capv_split n k
  obtain ⟨hpg, hn⟩ := evr_pages n
  unfold State.readHook
  simp only [hp, hoff, if_pos hpg, hn]
  rw [if_neg (by omega), if_neg (by omega), if_pos (by omega), show (0x100 + k.val * 0x20 + 0x10 - 0x100) / 0x20 = k.val by omega]

end

/-! ### Capture units (R92, R93) -/

/-- The registers of capture unit k of router n, and the event flags of the router's page. -/
abbrev capRegs (n k : Nat) : List Nat :=
  [Adr.EVR_CAPTL n k, Adr.EVR_CAPTH n k, Adr.EVR_CAPV n k, Adr.EVR_CAPSTAT n k, Adr.PEVT (Pg.EVR n)]

section
variable (s : State) (n : Fin 2) (k : Fin 8)

theorem capRegs_ne : (capRegs n k).Nodup := by
  simp only [capRegs, List.nodup_cons, List.mem_cons, List.not_mem_nil, or_false, not_or, not_false_eq_true, List.nodup_nil, and_true, Adr.EVR_CAPTL,
    Adr.EVR_CAPTH, Adr.EVR_CAPV, Adr.EVR_CAPSTAT, Adr.PEVT, Pg.EVR]
  omega

/-- A set that is taken: its stamp, its word and FULL; OVR and HELD stay. -/
theorem State.capTake_takes (t : Nat) (w : Word) : (s.capTake n k t w).reg (Adr.EVR_CAPTL n k) = w32 t
    ∧ (s.capTake n k t w).reg (Adr.EVR_CAPTH n k) = w32 (t / 2 ^ 32) ∧ (s.capTake n k t w).reg (Adr.EVR_CAPV n k) = w
    ∧ (s.capTake n k t w).reg (Adr.EVR_CAPSTAT n k) = setBit (s.reg (Adr.EVR_CAPSTAT n k)) 0 true := by
  have hnd := capRegs_ne n k
  simp only [capRegs, List.nodup_cons, List.mem_cons, List.not_mem_nil, or_false, not_or] at hnd
  obtain ⟨⟨hlh, hlv, hls, hle⟩, ⟨hhv, hhs, hhe⟩, ⟨hvs, hve⟩, hse, -⟩ := hnd
  unfold State.capTake
  simp [State.raise_reg_ne, State.reg_setFlag, State.reg_setReg, *, Ne.symm hls, Ne.symm hhs, Ne.symm hvs]

theorem State.capTake_regsOn (t : Nat) (w : Word) : State.RegsOn (· ∉ capRegs n k) s (s.capTake n k t w) := by
  refine ((((s.setReg_regsOn ?_ _).trans (State.setReg_regsOn _ ?_ _)).trans (State.setReg_regsOn _ ?_ _)).trans
    (State.setFlag_regsOn _ ?_ 0 true)).trans (State.raise_regsOn _ ?_ _) <;> simp [capRegs]

theorem State.capTake_mem (t : Nat) (w : Word) : (s.capTake n k t w).mem = s.mem := (State.capTake_within ..).same .mem rfl

theorem State.capTake_caps (t : Nat) (w : Word) : (s.capTake n k t w).caps = s.caps := (State.capTake_within ..).same .caps rfl

/-- A freeze with nothing held ends. -/
theorem State.capThaw_none (h : (s.cap (8 * n + k)).held = none) :
    s.capThaw n k = (s.putCap (8 * n + k) CapHid.reset).setFlag (Adr.EVR_CAPSTAT n k) 2 false := by
  unfold State.capThaw
  dsimp only
  rw [h]

/-- A freeze ends and lets the held capture in. -/
theorem State.capThaw_some {at_ : Nat} {w : Word} (h : (s.cap (8 * n + k)).held = some (at_, w)) :
    s.capThaw n k = ((s.putCap (8 * n + k) CapHid.reset).setFlag (Adr.EVR_CAPSTAT n k) 2 false).capTake n k at_ w := by
  unfold State.capThaw
  dsimp only
  rw [h]

variable {port : Port} (hl : s.portLive port = true) (hon : s.pageOn (Pg.EVR n) = true)

section
include hl hon

theorem exec_captureFreezeRead : exec (.captureFreezeRead port n k) s =
    .next (State.readDone port (s.capFreeze port n k) (s.reg (Adr.EVR_CAPTL n k))).settle := by
  obtain ⟨hp, hoff⟩ := captl_split n k
  change done (s.portLoad port (Adr.EVR_CAPTL n k)) = _
  rw [s.portLoad_live (evr_lt n hp) hl (by rwa [hp]), s.readHook_captl, s.regView_evr n port hp (by omega), done_eq]

theorem exec_captureReleaseRead : exec (.captureReleaseRead port n k) s =
    .next (State.readDone port (s.capRelease port n k) (s.reg (Adr.EVR_CAPV n k))).settle := by
  obtain ⟨hp, hoff⟩ := capv_split n k
  change done (s.portLoad port (Adr.EVR_CAPV n k)) = _
  rw [s.portLoad_live (evr_lt n hp) hl (by rwa [hp]), s.readHook_capv, s.regView_evr n port hp (by omega), done_eq]

theorem exec_dtimeRead : exec (.dtimeRead port n) s = .next (State.readDone port (s.dtimeRead port n) (w32 s.now)).settle := by
  obtain ⟨hp, hoff⟩ := dtimel_split n
  change done (s.portLoad port (Adr.EVR_DTIMEL n)) = _
  rw [s.portLoad_live (evr_lt n hp) hl (by rwa [hp]), s.readHook_dtimel, s.regView_dtimel, done_eq]

/-- CAPTL read: its owner freezes a set that nobody has frozen. -/
theorem captureFreezeRead_freezes : ∃ t, exec (.captureFreezeRead port n k) s = .next t
    ∧ (t.port port).resp = .ok (wordBytes (s.reg (Adr.EVR_CAPTL n k)))
    ∧ (s.ownerPort (Pg.EVR n) port = true → (s.cap (8 * n + k)).frozen = none →
        t.cap (8 * n + k) = { s.cap (8 * n + k) with frozen := some port.val })
    ∧ (s.ownerPort (Pg.EVR n) port = false ∨ (s.cap (8 * n + k)).frozen ≠ none → t.caps = s.caps) ∧ s.KeepsBut [] t := by
  refine ⟨_, exec_captureFreezeRead s n k hl hon, State.readDone_resp .., fun ho hf => ?_, fun h => ?_,
    State.readDone_keepsBut _ _ (.of_regs ((State.capFreeze_within ..).same .regs rfl)) ((State.capFreeze_within ..).same .mem rfl)⟩
  · rw [State.readDone_cap]
    unfold State.capFreeze
    simp [ho, hf]
  · rw [State.settle_caps]
    change (s.capFreeze port n k).caps = s.caps
    unfold State.capFreeze
    rcases h with h | h
    · simp [h]
    · simp [Option.isNone_iff_eq_none, h]

/-- CAPV read by the port that froze the set, with nothing held: FULL and HELD clear. -/
theorem captureReleaseRead_releases (hf : (s.cap (8 * n + k)).frozen = some port.val) (hh : (s.cap (8 * n + k)).held = none) :
    ∃ t, exec (.captureReleaseRead port n k) s = .next t ∧ (t.port port).resp = .ok (wordBytes (s.reg (Adr.EVR_CAPV n k)))
      ∧ t.cap (8 * n + k) = CapHid.reset ∧ t.flag (Adr.EVR_CAPSTAT n k) 0 = false ∧ t.flag (Adr.EVR_CAPSTAT n k) 2 = false
      ∧ s.KeepsBut [Adr.EVR_CAPSTAT n k] t := by
  let u := s.setFlag (Adr.EVR_CAPSTAT n k) 0 false
  have hrel : s.capRelease port n k = (u.putCap (8 * n + k) CapHid.reset).setFlag (Adr.EVR_CAPSTAT n k) 2 false := by
    unfold State.capRelease
    rw [if_pos hf]
    exact u.capThaw_none n k hh
  have hstat : (s.capRelease port n k).reg (Adr.EVR_CAPSTAT n k) = setBit (setBit (s.reg (Adr.EVR_CAPSTAT n k)) 0 false) 2 false := by
    rw [hrel, State.reg_setFlag, if_pos rfl]
    exact congrArg (setBit · 2 false) ((State.reg_setFlag ..).trans (if_pos rfl))
  refine ⟨_, exec_captureReleaseRead s n k hl hon, State.readDone_resp .., ?_, ?_, ?_, State.readDone_keepsBut _ _ ?_ ?_⟩
  · rw [State.readDone_cap, hrel]
    exact State.cap_putCap_self u (8 * n + k) CapHid.reset
  · rw [State.flag_eq, State.readDone_reg _ _ (irqReg_capstat n k), hstat, bit_setBit_ne _ _ (by decide), bit_setBit_self _ _ (by decide)]
  · rw [State.flag_eq, State.readDone_reg _ _ (irqReg_capstat n k), hstat, bit_setBit_self _ _ (by decide)]
  · rw [hrel]
    exact ((s.setFlag_regsOn (by simp) 0 false).trans (.of_regs (State.putCap_regs ..))).trans (State.setFlag_regsOn _ (by simp) 2 false)
  · rw [hrel]
    rfl

/-- The same with a capture held: it is taken. -/
theorem captureReleaseRead_takes (hf : (s.cap (8 * n + k)).frozen = some port.val) {at_ : Nat} {w : Word}
    (hh : (s.cap (8 * n + k)).held = some (at_, w)) : ∃ t, exec (.captureReleaseRead port n k) s = .next t
      ∧ (t.port port).resp = .ok (wordBytes (s.reg (Adr.EVR_CAPV n k))) ∧ t.cap (8 * n + k) = CapHid.reset
      ∧ t.reg (Adr.EVR_CAPTL n k) = w32 at_ ∧ t.reg (Adr.EVR_CAPTH n k) = w32 (at_ / 2 ^ 32) ∧ t.reg (Adr.EVR_CAPV n k) = w
      ∧ t.flag (Adr.EVR_CAPSTAT n k) 0 = true ∧ t.flag (Adr.EVR_CAPSTAT n k) 2 = false ∧ s.KeepsBut (capRegs n k) t := by
  let u := s.setFlag (Adr.EVR_CAPSTAT n k) 0 false
  let v := (u.putCap (8 * n + k) CapHid.reset).setFlag (Adr.EVR_CAPSTAT n k) 2 false
  have hrel : s.capRelease port n k = v.capTake n k at_ w := by
    unfold State.capRelease
    rw [if_pos hf]
    exact u.capThaw_some n k hh
  have hv2 : bit (v.reg (Adr.EVR_CAPSTAT n k)) 2 = false := by
    unfold v
    rw [State.reg_setFlag, if_pos rfl, bit_setBit_self _ _ (by decide)]
  obtain ⟨hcl, hch, hcv, hcs⟩ := v.capTake_takes n k at_ w
  rw [← hrel] at hcl hch hcv hcs
  refine ⟨_, exec_captureReleaseRead s n k hl hon, State.readDone_resp .., ?_, (State.readDone_reg _ _ (irqReg_captl n k)).trans hcl,
    (State.readDone_reg _ _ (irqReg_capth n k)).trans hch, (State.readDone_reg _ _ (irqReg_capv n k)).trans hcv, ?_, ?_,
    State.readDone_keepsBut _ _ ?_ ?_⟩
  · rw [State.readDone_cap, hrel]
    unfold State.cap
    rw [State.capTake_caps]
    exact State.cap_putCap_self u (8 * n + k) CapHid.reset
  · rw [State.flag_eq, State.readDone_reg _ _ (irqReg_capstat n k), hcs, bit_setBit_self _ _ (by decide)]
  · rw [State.flag_eq, State.readDone_reg _ _ (irqReg_capstat n k), hcs, bit_setBit_ne _ _ (by decide), hv2]
  · rw [hrel]
    exact (((s.setFlag_regsOn (by simp [capRegs]) 0 false).trans (.of_regs (State.putCap_regs ..))).trans
      (State.setFlag_regsOn _ (by simp [capRegs]) 2 false)).trans (v.capTake_regsOn n k at_ w)
  · rw [hrel]
    exact v.capTake_mem n k at_ w

theorem dtimeRead_latches : ∃ t, exec (.dtimeRead port n) s = .next t
    ∧ (t.port port).resp = .ok (wordBytes (w32 s.now)) ∧ (if n = 0 then (t.port port).dtimeH0 else (t.port port).dtimeH1) = w32 (s.now / 2 ^ 32)
    ∧ s.KeepsBut [] t := by
  refine ⟨_, exec_dtimeRead s n hl hon, State.readDone_resp .., ?_, State.readDone_keepsBut _ _ (.of_regs rfl) rfl⟩
  unfold State.port
  rw [State.settle_ports]
  change (if n = 0 then ((State.answer _ _ _).port port).dtimeH0 else ((State.answer _ _ _).port port).dtimeH1) = _
  unfold State.answer State.dtimeRead
  rw [State.port_putPort_self]
  rcases (by omega : n = 0 ∨ n = 1) with rfl | rfl <;> simp

end

theorem captureFreezeLapse_releases (hf : (s.cap (8 * n + k)).frozen ≠ none) (hh : (s.cap (8 * n + k)).held = none) :
    ∃ t, exec (.captureFreezeLapse n k) s = .next t
      ∧ t.cap (8 * n + k) = CapHid.reset ∧ t.flag (Adr.EVR_CAPSTAT n k) 0 = s.flag (Adr.EVR_CAPSTAT n k) 0
      ∧ t.flag (Adr.EVR_CAPSTAT n k) 2 = false ∧ s.KeepsBut [Adr.EVR_CAPSTAT n k] t := by
  let u := (s.putCap (8 * n + k) CapHid.reset).setFlag (Adr.EVR_CAPSTAT n k) 2 false
  have hlapse : s.capLapse n k = u := by
    unfold State.capLapse
    rw [if_pos (Option.isSome_iff_ne_none.mpr hf)]
    exact s.capThaw_none n k hh
  have hstat : u.reg (Adr.EVR_CAPSTAT n k) = setBit (s.reg (Adr.EVR_CAPSTAT n k)) 2 false := (State.reg_setFlag ..).trans (if_pos rfl)
  refine ⟨u.settle, congrArg done hlapse, ?_, ?_, ?_, State.RegsOn.keepsBut (u := u) ?_ rfl⟩
  · unfold State.cap
    rw [State.settle_caps]
    exact State.cap_putCap_self s (8 * n + k) CapHid.reset
  · rw [State.settle_flag _ (irqReg_capstat n k), State.flag_eq, hstat, bit_setBit_ne _ _ (by decide), State.flag_eq]
  · rw [State.settle_flag _ (irqReg_capstat n k), State.flag_eq, hstat, bit_setBit_self _ _ (by decide)]
  · exact (State.RegsOn.of_regs (State.putCap_regs ..)).trans (State.setFlag_regsOn _ (by simp) 2 false)

/-! ### SNAP (R93) -/

/-- CAPCTRL (R92): its fields are RW and configuration, and it has no limits. -/
def capctrlInfo : RegInfo := { RegInfo.ro with rw := 0xFF71#32, conf := true }

theorem regInfo_capctrl : regInfo (Pg.EVR n) (0x100 + k * 0x20) = capctrlInfo := by
  fin_cases n <;> fin_cases k <;> rfl

/-- A word that adds to the RW fields bits outside of them stores what the register holds. -/
theorem capctrl_next_held (old : Word) {m : Word} (hm : m &&& 0xFF71#32 = 0#32) :
    capctrlInfo.next .plain old ((old &&& 0xFF71#32) ||| m) = old := by
  change ((old &&& ~~~(0xFF71#32 ||| 0#32 ||| 0#32 ||| 0#32)) ||| (((old &&& 0xFF71#32) ||| m) &&& (0xFF71#32 ||| 0#32 ||| 0#32 ||| 0#32)))
    &&& ~~~(((old &&& 0xFF71#32) ||| m) &&& 0#32) = old
  rw [BitVec.and_zero, BitVec.not_zero, BitVec.and_allOnes]
  refine word_ext fun i hi => ?_
  have hmi : (bit m i && bit 0xFF71#32 i) = false := by
    rw [← bit_and, hm]
    exact BitVec.getLsbD_zero
  simp only [BitVec.or_zero, bit_or, bit_and, bit_not _ _ hi]
  revert hmi
  cases bit old i <;> cases bit m i <;> cases bit 0xFF71#32 i <;> decide

variable {port : Port} (ho : s.Owns port (Pg.EVR n))
  (hw : s.refusalOf port (Adr.EVR_CAPCTRL n k) .plain (s.withBits (Adr.EVR_CAPCTRL n k) 2#32) = none)
include ho hw

/-- The write of SNAP leaves CAPCTRL as it is, and the capture arrives. -/
theorem exec_captureSnap : exec (.captureSnap port n k) s = .next (State.writeDone port
    ((((s.setKey (Pg.EVR n) .idle).setReg (Adr.EVR_CAPCTRL n k) (s.reg (Adr.EVR_CAPCTRL n k))).capArrive n k), none)).settle := by
  obtain ⟨hl, hp5, hon, hown⟩ := ho
  obtain ⟨hp, hoff⟩ := capctrl_split n k
  obtain ⟨r, hr, hb, hpage⟩ := pageRow_evr n
  obtain ⟨-, hn⟩ := evr_pages n
  have hword : s.withBits (Adr.EVR_CAPCTRL n k) 2#32 = (s.reg (Adr.EVR_CAPCTRL n k) &&& 0xFF71#32) ||| 2#32 := by
    unfold State.withBits State.rwBits
    rw [hp, hoff, regInfo_capctrl]
    rfl
  have hsnap : bit (s.withBits (Adr.EVR_CAPCTRL n k) 2#32) 1 = true := by
    rw [hword, bit_or]
    exact Bool.or_true _
  have hnew : capctrlInfo.next .plain (s.reg (Adr.EVR_CAPCTRL n k)) (s.withBits (Adr.EVR_CAPCTRL n k) 2#32) = s.reg (Adr.EVR_CAPCTRL n k) := by
    rw [hword, capctrl_next_held _ (by decide)]
  have hadr : 4096 * Pg.EVR n + (0x100 + k.val * 0x20) = Adr.EVR_CAPCTRL n k := by
    unfold Pg.EVR Adr.EVR_CAPCTRL
    omega
  have hwrite (bus : Word) : s.regWrite port bus (Adr.EVR_CAPCTRL n k) .plain (s.withBits (Adr.EVR_CAPCTRL n k) 2#32) =
      (((s.setKey (Pg.EVR n) .idle).setReg (Adr.EVR_CAPCTRL n k) (s.reg (Adr.EVR_CAPCTRL n k))).capArrive n k, none) := by
    rw [s.regWrite_accept port bus (Adr.EVR_CAPCTRL n k) .plain _ (by rwa [hp]) (by rwa [hp]) hp5 (by rwa [hp]) (by omega) (by omega) (by omega) hw,
      State.wouldHold_unclamped _ _ _ _ (by omega) (by rw [hp, hoff, regInfo_capctrl]; rfl), hp, hoff, regInfo_capctrl, hnew]
    unfold State.writeReg State.blockHook
    simp only [hr, hb, hpage, hn, hadr, hsnap, bne_self_eq_false, Bool.and_false, Bool.false_eq_true, if_false, if_true, and_true]
    rw [if_neg (by omega), if_neg (by omega), if_neg (by omega), if_neg (by omega), if_pos (by omega),
      show (0x100 + k.val * 0x20 - 0x100) / 0x20 = k.val by omega]
  change done (s.portStore port (Adr.EVR_CAPCTRL n k) _) = _
  rw [s.portStore_live _ (evr_lt n hp) hl, hwrite, done_eq]

theorem captureSnap_takes (hf : (s.cap (8 * n + k)).frozen = none) (hsel : s.fld (Adr.EVR_CAPCTRL n k) 6 4 = 2) :
    ∃ t, exec (.captureSnap port n k) s = .next t ∧ (t.port port).resp = .ok []
      ∧ t.reg (Adr.EVR_CAPTL n k) = w32 s.now ∧ t.reg (Adr.EVR_CAPTH n k) = w32 (s.now / 2 ^ 32)
      ∧ t.reg (Adr.EVR_CAPV n k) = s.pins.pins &&& 0xFFFFF#32 ∧ t.flag (Adr.EVR_CAPSTAT n k) 0 = true ∧ s.KeepsBut (capRegs n k) t := by
  let u := (s.setKey (Pg.EVR n) .idle).setReg (Adr.EVR_CAPCTRL n k) (s.reg (Adr.EVR_CAPCTRL n k))
  have hu : State.RegsOn (· ∉ capRegs n k) s u :=
    (s.setKey_regsOn _ _).trans (State.rewrite_regsOn (s.setKey (Pg.EVR n) .idle) (Adr.EVR_CAPCTRL n k))
  have harrive : u.capArrive n k = u.capTake n k s.now (s.pins.pins &&& 0xFFFFF#32) := by
    have hsel' : u.fld (Adr.EVR_CAPCTRL n k) 6 4 = 2 := (congrArg (bits · 6 4) (State.reg_setReg_self ..)).trans hsel
    have hf' : (u.cap (8 * n + k)).frozen = none := hf
    unfold State.capArrive
    simp only [hsel', hf', Option.isSome_none, Bool.false_eq_true, if_false]
    rfl
  obtain ⟨hcl, hch, hcv, hcs⟩ := u.capTake_takes n k s.now (s.pins.pins &&& 0xFFFFF#32)
  refine ⟨_, exec_captureSnap s n k ho hw, State.writeDone_resp .., ?_⟩
  rw [show (s.setKey (Pg.EVR n) .idle).setReg (Adr.EVR_CAPCTRL n k) (s.reg (Adr.EVR_CAPCTRL n k)) = u from rfl, harrive]
  refine ⟨(State.writeDone_reg _ _ (irqReg_captl n k)).trans hcl, (State.writeDone_reg _ _ (irqReg_capth n k)).trans hch,
    (State.writeDone_reg _ _ (irqReg_capv n k)).trans hcv, ?_, State.writeDone_keepsBut _ _ (hu.trans (u.capTake_regsOn n k _ _)) (u.capTake_mem n k _ _)⟩
  rw [State.writeDone_flag _ _ (irqReg_capstat n k), State.flag_eq, hcs, bit_setBit_self _ _ (by decide)]

end

end Sys2Proof.Machine
end

section
/-! SUPPORT. Events, the periodic timer and the record channel (R85 to R87, R91, R94), and the settling of their statement. -/

namespace Sys2Proof.Machine

/-! ### What an occurrence leaves of SPEND and of the record channel -/

/-- The address of some SPEND register of a router. -/
abbrev SpendReg (a : Nat) : Prop := (a / 4096 = Pg.EVR 0 ∨ a / 4096 = Pg.EVR 1) ∧ 0x80 ≤ a % 4096 ∧ a % 4096 < 0xA0

/-- The SPEND registers and the entries of the record channel are the same in both states. -/
structure State.SameEvents (s t : State) : Prop where
  spend : State.RegsOn SpendReg s t
  entries : t.router.entries = s.router.entries

section
variable {s t u : State}

theorem State.SameEvents.refl : State.SameEvents s s := ⟨.refl, rfl⟩

theorem State.SameEvents.trans (h : State.SameEvents s t) (k : State.SameEvents t u) : State.SameEvents s u :=
  ⟨h.spend.trans k.spend, k.entries.trans h.entries⟩

theorem State.SameEvents.of_parts (hr : t.regs = s.regs) (he : t.router = s.router) : State.SameEvents s t :=
  ⟨.of_regs hr, by rw [he]⟩

variable (s)

theorem State.setReg_sameEvents {a : Nat} (h : ¬ SpendReg a) (v : Word) : State.SameEvents s (s.setReg a v) := ⟨s.setReg_regsOn h v, rfl⟩

theorem State.setFlag_sameEvents {a : Nat} (h : ¬ SpendReg a) (i : Nat) (b : Bool) : State.SameEvents s (s.setFlag a i b) := s.setReg_sameEvents h _

theorem State.setFld_sameEvents {a : Nat} (h : ¬ SpendReg a) (hi lo v : Nat) : State.SameEvents s (s.setFld a hi lo v) := s.setReg_sameEvents h _

theorem pevt_not_spend (p : Nat) : ¬ SpendReg (Adr.PEVT p) := by unfold SpendReg Adr.PEVT; omega

theorem State.pulse_entries (e : Nat) : (s.pulse e).router.entries = s.router.entries := by
  unfold State.pulse
  split <;> rfl

theorem State.raise_entries (p i : Nat) : (s.raise p i).router.entries = s.router.entries := by
  unfold State.raise State.when
  split
  · split
    · exact State.pulse_entries ..
    · rfl
  · rfl

theorem State.raise_sameEvents (p i : Nat) : State.SameEvents s (s.raise p i) := ⟨s.raise_regsOn (pevt_not_spend p) i, s.raise_entries p i⟩

theorem State.when_sameEvents {f : State → State} (h : ∀ t, State.SameEvents t (f t)) (b : Bool) : State.SameEvents s (s.when b f) := by
  unfold State.when
  split
  · exact h s
  · exact .refl

theorem State.each_sameEvents {f : State → Nat → State} {l : List Nat} (h : ∀ t, ∀ k ∈ l, State.SameEvents t (f t k)) :
    State.SameEvents s (s.each l f) :=
  List.foldlRecOn (motive := fun u => State.SameEvents s u) l f .refl fun u hu k hk => hu.trans (h u k hk)

/-! ### The destinations of an event (R86) -/

theorem State.capTake_sameEvents (n : Nat) {k : Nat} (hk : k < 8) (t : Nat) (w : Word) : State.SameEvents s (s.capTake n k t w) := by
  have hreg {a : Nat} (ha : 0xA0 ≤ a % 4096) : ¬ SpendReg a := fun h => by omega
  refine ((((s.setReg_sameEvents (hreg ?_) _).trans (State.setReg_sameEvents _ (hreg ?_) _)).trans (State.setReg_sameEvents _ (hreg ?_) _)).trans
    (State.setFlag_sameEvents _ (hreg ?_) 0 true)).trans (State.raise_sameEvents ..)
  · unfold Adr.EVR_CAPTL; omega
  · unfold Adr.EVR_CAPTH; omega
  · unfold Adr.EVR_CAPV; omega
  · unfold Adr.EVR_CAPSTAT; omega

theorem State.capArrive_sameEvents (n : Nat) {k : Nat} (hk : k < 8) : State.SameEvents s (s.capArrive n k) := by
  have hstat : ¬ SpendReg (Adr.EVR_CAPSTAT n k) := by unfold SpendReg Adr.EVR_CAPSTAT; omega
  unfold State.capArrive
  dsimp only
  split
  · exact ((s.setFlag_sameEvents hstat 2 true).trans (State.when_sameEvents _ (fun t => t.setFlag_sameEvents hstat 1 true) _)).trans (.of_parts rfl rfl)
  · exact s.capTake_sameEvents n hk _ _

theorem State.capEvent_sameEvents (e : Nat) : State.SameEvents s (s.capEvent e) := s.each_sameEvents fun t i _ => by
  dsimp only
  split
  · exact t.capArrive_sameEvents _ (by omega)
  · exact .refl

theorem State.pwmTrip_sameEvents (u : Nat) : State.SameEvents s (s.pwmTrip u) := by
  unfold State.pwmTrip
  split
  · exact .refl
  · exact (s.setFlag_sameEvents (by unfold SpendReg Adr.PWM_STAT; omega) 30 true).trans (State.raise_sameEvents ..)

theorem State.tripSync_sameEvents (e : Nat) : State.SameEvents s (s.tripSync e) := s.each_sameEvents fun t u _ => by
  have hput (q : Pwm) : State.SameEvents t (t.putPwm u q) := .of_parts rfl rfl
  dsimp only
  split
  · exact (hput _).trans (State.pwmTrip_sameEvents _ u)
  · exact .refl

theorem State.adcStart_sameEvents (n : Nat) : State.SameEvents s (s.adcStart n) := by
  unfold State.adcStart
  split
  · exact .refl
  split
  · exact s.raise_sameEvents _ _
  · exact (s.setReg_sameEvents (by unfold SpendReg Adr.ADC_SEQSTAT; omega) _).trans (.of_parts rfl rfl)

theorem State.adcTrigger_sameEvents (e : Nat) : State.SameEvents s (s.adcTrigger e) := s.each_sameEvents fun t n _ => by
  split
  · exact t.adcStart_sameEvents n
  · exact .refl

theorem State.sdmOpen_sameEvents (n : Nat) : State.SameEvents s (s.sdmOpen n) := by
  unfold State.sdmOpen
  split
  · exact s.raise_sameEvents _ _
  · exact .of_parts rfl rfl

theorem State.sdmTrigger_sameEvents (e : Nat) : State.SameEvents s (s.sdmTrigger e) := s.each_sameEvents fun t n _ => by
  split
  · exact t.sdmOpen_sameEvents n
  · exact .refl

theorem State.ctxTrigger_sameEvents (n : Nat) {i : Nat} (hi : i < 8) : State.SameEvents s (s.ctxTrigger n i) := by
  have hreport (t : State) (st : CtxStatus) : State.SameEvents t (t.ctxReport n i st) :=
    .of_parts (State.ctxReport_regs ..) ((State.ctxReport_within ..).same .router rfl)
  have hflag : ¬ SpendReg (Adr.TRIM_CFLAG n i) := by unfold SpendReg Adr.TRIM_CFLAG Pg.EVR; omega
  have hstat : ¬ SpendReg (Adr.TRIM_CSTAT n i) := by unfold SpendReg Adr.TRIM_CSTAT Pg.EVR; omega
  have hestat : ¬ SpendReg (Adr.TRIM_ESTAT n) := by unfold SpendReg Adr.TRIM_ESTAT Pg.EVR; omega
  have hput (t : State) (c : Ctx) : State.SameEvents t (t.putCtx (8 * n + i) c) := .of_parts rfl rfl
  unfold State.ctxTrigger
  split
  · exact hreport s _
  split
  · exact ((s.setFlag_sameEvents hflag 5 true).trans (State.raise_sameEvents ..)).trans (hreport _ _)
  · exact ((s.setFlag_sameEvents hstat _ true).trans (hput _ _)).trans (State.setReg_sameEvents _ hestat _)

theorem State.trimTrigger_sameEvents (e : Nat) : State.SameEvents s (s.trimTrigger e) := by
  unfold State.trimTrigger
  split
  · exact .refl
  · refine s.each_sameEvents fun t c hc => ?_
    have hc32 := List.mem_range.mp hc
    split
    · exact t.ctxTrigger_sameEvents _ (by omega)
    · exact .refl

theorem actStat_not_spend (n : Nat) : ¬ SpendReg (Adr.ACT_STAT n) := by unfold SpendReg Adr.ACT_STAT; omega

theorem State.actStart_sameEvents (n : Nat) : State.SameEvents s (s.actStart n) := by
  have hcause (v : Nat) : State.SameEvents s ((s.setFld (Adr.ACT_STAT n) 7 4 v).raise (Pg.ACT n) 0) :=
    (s.setFld_sameEvents (actStat_not_spend n) 7 4 v).trans (State.raise_sameEvents ..)
  have henter (t : State) : State.SameEvents t (t.actEnter n 1) := by
    unfold State.actEnter
    split
    · exact .refl
    · exact (t.setFld_sameEvents (actStat_not_spend n) 1 0 1).trans (State.raise_sameEvents ..)
  have hput (a : Act) : State.SameEvents s (s.putAct n a) := .of_parts rfl rfl
  unfold State.actStart
  split
  · exact .refl
  split
  · exact s.raise_sameEvents _ _
  split
  · exact hcause 4
  split
  · exact hcause 5
  · exact (hput _).trans (henter _)

theorem State.actTrigger_sameEvents (e : Nat) : State.SameEvents s (s.actTrigger e) := s.each_sameEvents fun t n _ => by
  split
  · exact (t.setFlag_sameEvents (actStat_not_spend n) 9 false).trans (State.actStart_sameEvents _ n)
  · exact .refl

theorem State.fcTrigger_sameEvents (e : Nat) : State.SameEvents s (s.fcTrigger e) :=
  .of_parts ((State.fcTrigger_within ..).same .regs rfl) ((State.fcTrigger_within ..).same .router rfl)

/-- After SPEND and the record channel have taken an occurrence, its destinations leave both. -/
theorem State.occur_sameEvents (e : Nat) : State.SameEvents ((s.pend e).record e) (s.occur e) :=
  ((((((State.capEvent_sameEvents _ e).trans (State.tripSync_sameEvents _ e)).trans (State.adcTrigger_sameEvents _ e)).trans
    (State.sdmTrigger_sameEvents _ e)).trans (State.trimTrigger_sameEvents _ e)).trans (State.actTrigger_sameEvents _ e)).trans
    (State.fcTrigger_sameEvents _ e)

/-! ### The command of an occurrence -/

/-- Both routers show a pending source. -/
theorem State.pend_shows (e : Fin 256) (n : Fin 2) : (s.pend e).flag (Adr.EVR_SPEND n (e / 32)) (e % 32) = true := by
  have hlt : e.val % 32 < 32 := Nat.mod_lt _ (by decide)
  unfold State.pend
  have hne : Adr.EVR_SPEND 0 (e / 32) ≠ Adr.EVR_SPEND 1 (e / 32) := by
    unfold Adr.EVR_SPEND
    omega
  rcases (by omega : n = 0 ∨ n = 1) with rfl | rfl
  · exact (State.RegsOn.flag (P := (· ≠ Adr.EVR_SPEND 1 (e / 32))) (State.setFlag_regsOn _ (by simp) _ _) hne _).trans (State.flag_setFlag_self _ _ _ hlt)
  · exact State.flag_setFlag_self _ _ _ hlt

/-- The entry of a source in the record channel: the time of its first occurrence and the count. -/
abbrev State.recorded (s : State) (e : Nat) : Nat × Nat := Store.get (fun _ => (0, 0)) s.router.entries e

/-- The record channel counts an occurrence, and stamps the first. -/
theorem State.record_recorded (e : Nat) :
    (s.record e).recorded e = if (s.recorded e).2 = 0 then (s.now, 1) else ((s.recorded e).1, min ((s.recorded e).2 + 1) 65535) :=
  (Store.get_put _ s.router.entries e e _).trans (if_pos rfl)

theorem spendReg_of {n k : Nat} (hn : n < 2) (hk : k < 8) : SpendReg (Adr.EVR_SPEND n k) := by
  unfold SpendReg Adr.EVR_SPEND Pg.EVR
  omega

theorem eventOccurrence_shows (e : Fin 256) (h : e.val ∈ s.router.pulses) : ∃ t, exec (.eventOccurrence e) s = .next t
    ∧ (∀ n : Fin 2, t.flag (Adr.EVR_SPEND n (e / 32)) (e % 32) = true)
    ∧ (s.recorded e = (0, 0) → t.recorded e = (s.now, 1))
    ∧ (∀ first m, s.recorded e = (first, m) → 0 < m → t.recorded e = (first, min (m + 1) 65535)) := by
  let u := s.setRouter { s.router with pulses := s.router.pulses.filter fun x => x != e.val }
  have hdeliver : s.deliver e = u.occur e := by
    unfold State.deliver
    rw [if_pos (List.contains_iff_mem.mpr h)]
  have hsame := u.occur_sameEvents e
  have hentry : (s.deliver e).settle.recorded e = if (s.recorded e).2 = 0 then (s.now, 1) else ((s.recorded e).1, min ((s.recorded e).2 + 1) 65535) := by
    rw [hdeliver]
    unfold State.recorded
    rw [State.settle_router, hsame.entries]
    exact (u.pend e).record_recorded e
  refine ⟨_, rfl, fun n => ?_, fun h0 => ?_, fun first m hm hpos => ?_⟩
  · have he : e.val / 32 < 8 := by omega
    rw [State.settle_flag _ (irqReg_spend n he), hdeliver, hsame.spend.flag (spendReg_of n.isLt he)]
    exact u.pend_shows e n
  · rw [hentry, h0]
    rfl
  · rw [hentry, hm, if_neg (by omega)]

/-! ### The periodic timer (R87) -/

theorem pageLine_timer (n : Fin 2) : pageLine (Pg.EVR n) 1 = 254 + n := by fin_cases n <;> rfl

/-- A flag that becomes set while PEVEN enables it pulses its line (R85). -/
theorem State.raise_pulses {p i : Nat} (hon : s.pageOn p = true) (hf : s.flag (Adr.PEVT p) i = false) (he : s.flag (Adr.PEVEN p) i = true) :
    pageLine p i ∈ (s.raise p i).router.pulses := by
  unfold State.raise State.when
  rw [hon, hf, he]
  simp only [Bool.not_false, Bool.and_true, if_true]
  unfold State.pulse
  split
  next hc => exact List.contains_iff_mem.mp hc
  next => exact List.mem_append_right _ (List.mem_singleton.mpr rfl)

theorem evrTimerExpiry_raises (n : Fin 2) (hr : s.timerRuns n = true) (hon : s.pageOn (Pg.EVR n) = true) :
    ∃ t, exec (.evrTimerExpiry n) s = .next t ∧ t.flag (Adr.PEVT (Pg.EVR n)) 1 = true
      ∧ (s.flag (Adr.PEVT (Pg.EVR n)) 1 = false → s.flag (Adr.PEVEN (Pg.EVR n)) 1 = true → (254 + n.val) ∈ t.router.pulses)
      ∧ s.KeepsBut [Adr.PEVT (Pg.EVR n)] t := by
  have hexec : exec (.evrTimerExpiry n) s = .next (s.raise (Pg.EVR n) 1).settle := congrArg done (if_pos hr)
  refine ⟨_, hexec, ?_, fun hf he => ?_, (s.raise_regsOn (by simp) 1).keepsBut ((State.raise_within ..).same .mem rfl)⟩
  · rw [State.settle_flag _ (irqReg_pevt _)]
    exact s.raise_flag _ _ hon (by decide)
  · rw [State.settle_router, ← pageLine_timer]
    exact s.raise_pulses hon hf he

/-! ### The record channel drained (R94, R411) -/

/-- The log entry of a drained one. -/
def drained (starts : Nat) (e : Nat × (Nat × Nat)) : LogEntry := ⟨e.2.1, e.2.2, .event, e.1, starts % 65536, 0⟩

/-- One entry drained: logged where the mask passes it, its flags cleared. -/
def State.drainEntry (s : State) (e : Nat × (Nat × Nat)) : State :=
  (if s.gms.bb.recmask.getLsbD e.1 then s.logEntry (drained s.gms.bb.starts e) else s).clearGmsFlags e.1

theorem State.recordDrain_eq (h : s.gmsRuns = true) : s.recordDrain =
    ((sortEntries s.router.entries).foldl State.drainEntry s).setRouter
      { ((sortEntries s.router.entries).foldl State.drainEntry s).router with entries := [] } := by
  unfold State.recordDrain
  rw [h]
  rfl

/-- The event flags of all pages. -/
abbrev NotPevt (a : Nat) : Prop := a ∉ allPages.map Adr.PEVT

theorem State.clearGmsFlags_regsOn (e : Nat) : State.RegsOn NotPevt s (s.clearGmsFlags e) :=
  List.foldlRecOn (motive := fun t => State.RegsOn NotPevt s t) _ _ .refl fun t ht _ hp =>
    ht.trans (t.setReg_regsOn (fun hn => hn (List.mem_map_of_mem (List.mem_filter.mp hp).1)) _)

theorem State.logEntry_short (h : s.gms.bb.log.length < 8192) (e : LogEntry) :
    s.logEntry e = s.setBb { s.gms.bb with log := s.gms.bb.log ++ [e] } := if_pos h

theorem length_insertEntry (e : Nat × (Nat × Nat)) (l : List (Nat × (Nat × Nat))) : (insertEntry e l).length = l.length + 1 := by
  induction l with
  | nil => rfl
  | cons f t ih =>
    unfold insertEntry
    split
    · rfl
    · rw [List.length_cons, ih, List.length_cons]

theorem length_foldl_insertEntry (l m : List (Nat × (Nat × Nat))) : (l.foldl (fun m e => insertEntry e m) m).length = m.length + l.length := by
  induction l generalizing m with
  | nil => rfl
  | cons e t ih =>
    rw [List.foldl_cons, ih, length_insertEntry, List.length_cons]
    omega

theorem length_sortEntries (l : List (Nat × (Nat × Nat))) : (sortEntries l).length = l.length := by
  unfold sortEntries
  rw [length_foldl_insertEntry, List.length_nil, Nat.zero_add]

/-- What the drained entries of a list put into the log of a black box. -/
def BlackBox.withDrained (b : BlackBox) (l : List (Nat × (Nat × Nat))) : BlackBox :=
  { b with log := b.log ++ (l.filter fun e => b.recmask.getLsbD e.1).map (drained b.starts) }

theorem BlackBox.withDrained_cons (b : BlackBox) (e : Nat × (Nat × Nat)) (l : List (Nat × (Nat × Nat))) :
    (b.withDrained [e]).withDrained l = b.withDrained (e :: l) := by
  unfold BlackBox.withDrained
  rw [BlackBox.mk.injEq]
  simp only [List.append_assoc, ← List.map_append, ← List.filter_append, List.singleton_append, and_self]

theorem BlackBox.withDrained_length (b : BlackBox) (e : Nat × (Nat × Nat)) : (b.withDrained [e]).log.length ≤ b.log.length + 1 := by
  unfold BlackBox.withDrained
  rw [List.length_append, List.length_map]
  exact Nat.add_le_add_left (List.length_filter_le ..) _

/-- While the log has room, draining an entry puts it there and touches event flags alone. -/
theorem State.drainEntry_appends (h : s.gms.bb.log.length < 8192) (e : Nat × (Nat × Nat)) :
    (s.drainEntry e).gms.bb = s.gms.bb.withDrained [e] ∧ State.RegsOn NotPevt s (s.drainEntry e) ∧ (s.drainEntry e).mem = s.mem := by
  have hlog (b : BlackBox) : State.RegsOn NotPevt s (s.setBb b) := .of_regs rfl
  unfold State.drainEntry
  rw [(State.clearGmsFlags_within ..).same .gms rfl, (State.clearGmsFlags_within ..).same .mem rfl, s.logEntry_short h]
  cases hm : s.gms.bb.recmask.getLsbD e.1 with
  | false =>
    refine ⟨?_, s.clearGmsFlags_regsOn e.1, rfl⟩
    simp [BlackBox.withDrained, hm]
  | true =>
    refine ⟨?_, (hlog _).trans (State.clearGmsFlags_regsOn _ e.1), rfl⟩
    simp [BlackBox.withDrained, hm, State.setBb]

/-- The same for a list that the log has room for. -/
theorem State.drainEntries_append (l : List (Nat × (Nat × Nat))) (h : s.gms.bb.log.length + l.length ≤ 8192) :
    (l.foldl State.drainEntry s).gms.bb = s.gms.bb.withDrained l ∧ State.RegsOn NotPevt s (l.foldl State.drainEntry s)
      ∧ (l.foldl State.drainEntry s).mem = s.mem := by
  induction l generalizing s with
  | nil => exact ⟨by simp [BlackBox.withDrained], .refl, rfl⟩
  | cons e l ih =>
    rw [List.length_cons] at h
    obtain ⟨hbb, hregs, hmem⟩ := s.drainEntry_appends (by omega) e
    have hlen := s.gms.bb.withDrained_length e
    obtain ⟨hbbs, hall, hmems⟩ := ih (s.drainEntry e) (by rw [hbb]; omega)
    exact ⟨hbbs.trans (by rw [hbb, BlackBox.withDrained_cons]), hregs.trans hall, hmems.trans hmem⟩

theorem recordDrain_drains (h : s.gmsRuns = true) (hlen : s.gms.bb.log.length + s.router.entries.length ≤ 8192) :
    ∃ t, exec .recordDrain s = .next t ∧ t.router.entries = []
      ∧ t.gms.bb.log = s.gms.bb.log ++ ((sortEntries s.router.entries).filter fun e => s.gms.bb.recmask.getLsbD e.1).map (drained s.gms.bb.starts)
      ∧ s.KeepsBut (allPages.map Adr.PEVT) t := by
  have hexec : exec .recordDrain s = .next s.recordDrain.settle := congrArg done (if_pos h)
  obtain ⟨hbb, hregs, hmem⟩ := s.drainEntries_append (sortEntries s.router.entries) (by rwa [length_sortEntries])
  refine ⟨_, hexec, ?_⟩
  rw [s.recordDrain_eq h]
  refine ⟨?_, ?_, State.RegsOn.keepsBut (hregs.trans (.of_regs rfl)) hmem⟩
  · rw [State.settle_router]
    rfl
  · rw [State.settle_bb]
    exact congrArg BlackBox.log hbb

end

/-- Settles O14: the reads act by `State.readHook`, SNAP by `State.capArrive`; an occurrence pends and is recorded before its destinations act, which
leave both alone; the drain logs entry by entry. -/
theorem capturesAndTime : Obligations.CapturesAndTime := by
  unfold Obligations.CapturesAndTime
  exact ⟨fun port n k s => ⟨captureFreezeRead_freezes s n k, captureReleaseRead_releases s n k, fun _ _ hl hon hf => captureReleaseRead_takes s n k hl hon hf,
      captureFreezeLapse_releases s n k, captureSnap_takes s n k, dtimeRead_latches s n⟩,
    fun s => ⟨eventOccurrence_shows s, evrTimerExpiry_raises s, recordDrain_drains s⟩⟩

end Sys2Proof.Machine
end

section
/-! SUPPORT. The interconnect's answers (R97, R109): what a transaction that leaves its target leaves in the ports, the cores and the tags; and the
settling of the statement on targets that time out. -/

namespace Sys2Proof.Machine

/-! ### Units that no operation touched -/

theorem State.port_congr {s t : State} (h : t.ports = s.ports) (q : Nat) : t.port q = s.port q := by unfold State.port; rw [h]

theorem State.core_congr {s t : State} (h : t.cores = s.cores) (c : Nat) : t.core c = s.core c := by unfold State.core; rw [h]

/-! ### The answer to the oldest granted transaction -/

/-- The registers in which tags and pending queues show (R98, R102). -/
abbrev tagRegs : List Nat := Adr.ICX_TAGSTAT :: (List.range 16).map Adr.ICX_TGTSTAT

theorem tgtstat_mem_tagRegs {k : Nat} (h : k < 16) : Adr.ICX_TGTSTAT k ∈ tagRegs :=
  List.mem_cons_of_mem _ (List.mem_map_of_mem (List.mem_range.mpr h))

theorem State.icxShow_tagRegs (s : State) : State.RegsOn (· ∉ tagRegs) s s.icxShow :=
  s.icxShow_regsOn (not_not.mpr List.mem_cons_self) fun _ h => not_not.mpr (tgtstat_mem_tagRegs h)

/-- The FENCE of core p ends where the core has no transaction left (R97). -/
def State.unfence (s : State) (p : Nat) : State :=
  if p < 4 ∧ s.icxTags p = 0 then s.putCore p { s.core p with fence := false } else s

theorem State.unfence_shape (s : State) (p : Nat) : ∃ c, s.unfence p = s.setCores c := by
  unfold State.unfence
  split
  · exact ⟨_, rfl⟩
  · exact ⟨s.cores, rfl⟩

theorem State.unfence_icx (s : State) (p : Nat) : (s.unfence p).icx = s.icx := by
  obtain ⟨c, h⟩ := s.unfence_shape p
  rw [h]
  rfl

theorem State.unfence_regs (s : State) (p : Nat) : (s.unfence p).regs = s.regs := by
  obtain ⟨c, h⟩ := s.unfence_shape p
  rw [h]
  rfl

theorem State.unfence_fence (s : State) {p : Nat} (hp : p < 4) (h : s.icxTags p = 0) : ((s.unfence p).core p).fence = false := by
  unfold State.unfence
  rw [if_pos ⟨hp, h⟩, State.core_putCore_self]

section
variable {s t u : State} {k p : Nat} {r : Resp} {x : Txn} {rest : List (Nat × Txn)}

theorem State.icxAnswer_eq (h : s.icxGranted k = (p, x) :: rest) : s.icxAnswer k = (s.putGranted k rest).icxShow.unfence p := by
  unfold State.icxAnswer
  rw [h]
  rfl

/-- In t the oldest granted transaction of target k, of port p, has left with the answer r; the others of the target are rest. -/
structure State.Delivered (s : State) (k p : Nat) (r : Resp) (rest : List (Nat × Txn)) (t : State) : Prop where
  resp : (t.port p).resp = r
  granted : t.icxGranted k = rest
  others : ∀ q, q ≠ p → t.port q = s.port q
  fence : p < 4 → t.icxTags p = 0 → (t.core p).fence = false

/-- What leaves ports, interconnect and cores alone leaves the delivery as it is. -/
theorem State.Delivered.past (h : s.Delivered k p r rest t) (hp : u.ports = t.ports) (hi : u.icx = t.icx) (hc : u.cores = t.cores) :
    s.Delivered k p r rest u where
  resp := (congrArg PortSt.resp (State.port_congr hp p)).trans h.resp
  granted := (State.icxGranted_congr hi k).trans h.granted
  others q hq := (State.port_congr hp q).trans (h.others q hq)
  fence hlt h0 := (congrArg Core.fence (State.core_congr hc p)).trans (h.fence hlt ((State.icxTags_congr hi p).symm.trans h0))

theorem State.Delivered.settle (h : s.Delivered k p r rest t) : s.Delivered k p r rest t.settle :=
  h.past t.settle_ports t.settle_icx t.settle_cores

variable (h : s.icxGranted k = (p, x) :: rest) (r)
include h

theorem State.answer_delivers : s.Delivered k p r rest ((s.answer p r).icxAnswer k) := by
  have hports : ((s.answer p r).icxAnswer k).ports = (s.answer p r).ports := (State.icxAnswer_within ..).same .ports rfl
  have heq : (s.answer p r).icxAnswer k = _ := State.icxAnswer_eq h
  have hicx : ((s.answer p r).icxAnswer k).icx = ((s.answer p r).putGranted k rest).icx := by rw [heq, State.unfence_icx, State.icxShow_icx]
  refine ⟨?_, ?_, fun q hq => ?_, fun hp h0 => ?_⟩
  · rw [State.port_congr hports, State.answer, State.port_putPort_self]
  · rw [State.icxGranted_congr hicx]
    exact (Store.get_put ..).trans (if_pos rfl)
  · rw [State.port_congr hports, State.answer, State.port_putPort, if_neg hq]
  · rw [heq] at h0 ⊢
    exact State.unfence_fence _ hp ((State.icxTags_congr (State.unfence_icx _ p) p).symm.trans h0)

theorem State.answer_icxAnswer_regsOn : State.RegsOn (· ∉ tagRegs) s ((s.answer p r).icxAnswer k) := by
  have hgranted : State.RegsOn (· ∉ tagRegs) s ((s.answer p r).putGranted k rest) := .of_regs rfl
  have heq : (s.answer p r).icxAnswer k = _ := State.icxAnswer_eq h
  rw [heq]
  exact (hgranted.trans (State.icxShow_tagRegs _)).trans (.of_regs (State.unfence_regs ..))

theorem State.targetTimeout_eq : s.targetTimeout k = ((s.answer p busError).icxAnswer k).raise Pg.ICX 3 := by
  unfold State.targetTimeout
  rw [h]

end

/-- Settles O9: the time-out answers the oldest granted transaction as its target would have, with a bus error, and raises TOUT. -/
theorem targetsTimeOut : Obligations.TargetsTimeOut := by
  unfold Obligations.TargetsTimeOut
  intro k p x rest s h hon
  have hdel := State.answer_delivers busError h
  have hregs := State.answer_icxAnswer_regsOn busError h
  have hpwr : ((s.answer p busError).icxAnswer k).pwr = s.pwr := (State.icxAnswer_within ..).same .pwr rfl
  have hmem : ((s.answer p busError).icxAnswer k).mem = s.mem := (State.icxAnswer_within ..).same .mem rfl
  obtain ⟨hresp, hgranted, hothers, -⟩ := (hdel.past (State.raise_ports _ Pg.ICX 3) (State.raise_icx ..) (State.raise_cores ..)).settle
  have hframe : State.RegsOn (· ∉ Adr.ICX_TAGSTAT :: Adr.PEVT Pg.ICX :: (List.range 16).map Adr.ICX_TGTSTAT) s
      (((s.answer p busError).icxAnswer k).raise Pg.ICX 3) :=
    (hregs.mono fun a ha => by simp only [List.mem_cons, not_or] at ha ⊢; exact ⟨ha.1, ha.2.2⟩).trans (State.raise_regsOn _ (by simp) 3)
  refine ⟨_, done_eq _, ?_⟩
  rw [State.targetTimeout_eq h]
  refine ⟨hresp, hgranted, ?_, hothers, hframe.keepsBut ((State.raise_mem ..).trans hmem)⟩
  rw [State.settle_flag _ (irqReg_pevt _)]
  exact State.raise_flag _ _ _ ((hregs.pageOn (by decide) hpwr Pg.ICX).trans hon) (by decide)

end Sys2Proof.Machine
end

section
/-! SUPPORT. Accesses to SRAM (R97), locked sequences and atomic instructions (R106, R107), FENCE (R97) and the budgets of ports (R111); and the settling
of the statement on what targets answer. -/

namespace Sys2Proof.Machine

theorem State.RegsOn.regsBut {s u : State} {l : List Nat} (h : State.RegsOn (· ∉ l) s u) : s.RegsBut l u.settle :=
  fun a ha hi => (State.settle_reg u hi).trans (h.same a ha)

section
variable (s : State)

/-! ### Accesses to SRAM -/

/-- Banks 0 to 6 of SRAM, the targets that every port reads and writes. -/
theorem State.access_sram (port : Nat) {x : Txn} {k : Nat} (h : targetOf x.addr.toNat = some k) (h1 : 1 ≤ k) (h7 : k ≤ 7) :
    s.access port x = s.memAccess x := by
  unfold State.access
  simp only [h]
  interval_cases k <;> rfl

theorem State.memAccess_read {x : Txn} (h : x.write = false) : s.memAccess x = (s, .ok (s.bytes x.addr.toNat (x.size * x.beats))) := by
  unfold State.memAccess
  rw [h]
  rfl

theorem State.memAccess_write {x : Txn} (h : x.write = true) : s.memAccess x = (s.putBytes x.addr.toNat x.data, .ok []) := by
  unfold State.memAccess
  rw [h]
  rfl

theorem readTxn_addr (a : Word) : (readTxn a.toNat).addr = a := (BitVec.ofNat_toNat ..).trans (BitVec.setWidth_eq a)
theorem writeTxn_addr (a w : Word) : (writeTxn a.toNat w).addr = a := (BitVec.ofNat_toNat ..).trans (BitVec.setWidth_eq a)

section
variable {s} {k port : Nat} {a : Word} (h : targetOf a.toNat = some k) (h1 : 1 ≤ k) (h7 : k ≤ 7)
include h h1 h7

theorem State.access_readWord : s.access port (readTxn a.toNat) = (s, .ok (s.bytes a.toNat 4)) := by
  rw [s.access_sram port ((congrArg (targetOf ·.toNat) (readTxn_addr a)).trans h) h1 h7, s.memAccess_read rfl, readTxn_addr]
  rfl

theorem State.access_writeWord (w : Word) : s.access port (writeTxn a.toNat w) = (s.putWord a.toNat w, .ok []) := by
  rw [s.access_sram port ((congrArg (targetOf ·.toNat) (writeTxn_addr a w)).trans h) h1 h7, s.memAccess_write rfl, writeTxn_addr]
  rfl

end

/-! ### Results of atomic instructions -/

/-- The result w stands in the port's answer, and in x[rd] where the port is a core's. -/
def State.Gave (port : Nat) (rd : Fin 32) (w : Word) (t : State) : Prop :=
  (t.port port).resp = .ok (wordBytes w) ∧ (port < 4 → rd ≠ 0 → (t.core port).xreg rd = w)

theorem State.give_gave (port : Nat) (rd : Fin 32) (w : Word) : State.Gave port rd w (s.give port rd w).settle := by
  refine ⟨State.answer_settle_resp .., fun hp h0 => ?_⟩
  rw [State.core_congr (State.settle_cores _), State.give, if_pos hp, State.answer, State.core_congr (State.putPort_cores ..), State.toX,
    State.core_putCore_self, Core.write, if_neg h0]
  exact (Store.get_put ..).trans (if_pos rfl)

theorem State.give_mem (port : Nat) (rd : Fin 32) (w : Word) : (s.give port rd w).mem = s.mem := (State.give_within ..).same .mem rfl
theorem State.give_icx (port : Nat) (rd : Fin 32) (w : Word) : (s.give port rd w).icx = s.icx := (State.give_within ..).same .icx rfl
theorem State.give_regs (port : Nat) (rd : Fin 32) (w : Word) : (s.give port rd w).regs = s.regs := (State.give_within ..).same .regs rfl

theorem State.give_regsOn {P : Nat → Prop} (port : Nat) (rd : Fin 32) (w : Word) : State.RegsOn P s (s.give port rd w) := .of_regs (s.give_regs port rd w)

/-! ### Locks (R106) -/

theorem irqReg_lockstat : irqReg Adr.ICX_LOCKSTAT = false := by decide
theorem irqReg_tgtstat (k : Fin 16) : irqReg (Adr.ICX_TGTSTAT k) = false := irqReg_eq_false (by unfold Adr.ICX_TGTSTAT; omega)

theorem State.settle_lockHeld (k : Nat) : s.settle.lockHeld k = s.lockHeld k := s.settle_flag irqReg_lockstat k

theorem State.lockHeld_congr {s t : State} (h : t.reg Adr.ICX_LOCKSTAT = s.reg Adr.ICX_LOCKSTAT) (k : Nat) : t.lockHeld k = s.lockHeld k := by
  unfold State.lockHeld State.flag
  rw [h]

/-- The end of a lock clears its bit of LOCKSTAT and no other. -/
theorem State.lockDrop_lockHeld {k : Nat} (hk : k < 32) (j : Nat) : (s.lockDrop k).lockHeld j = if k = j then false else s.lockHeld j := by
  have hreg : (s.lockDrop k).reg Adr.ICX_LOCKSTAT = setBit (s.reg Adr.ICX_LOCKSTAT) k false := (State.reg_setFlag ..).trans (if_pos rfl)
  unfold State.lockHeld State.flag
  rw [hreg, bit_setBit, if_congr (and_iff_left hk) rfl rfl]

theorem State.lockDrop_regsOn {P : Nat → Prop} (h : ¬ P Adr.ICX_LOCKSTAT) (k : Nat) : State.RegsOn P s (s.lockDrop k) :=
  (s.setFlag_regsOn h k false).trans (.of_regs rfl)

theorem State.lockDrop_mem (k : Nat) : (s.lockDrop k).mem = s.mem := (State.lockDrop_within ..).same .mem rfl

theorem State.lockExpire_regsOn {P : Nat → Prop} (hL : ¬ P Adr.ICX_LOCKSTAT) (hE : ¬ P (Adr.PEVT Pg.ICX)) (k : Nat) :
    State.RegsOn P s (s.lockExpire k) := by
  unfold State.lockExpire
  split
  · exact (s.lockDrop_regsOn hL k).trans (State.raise_regsOn _ hE 1)
  · exact .refl

/-- The state in which port p opens a lock at target k: a lock that it holds elsewhere has ended. -/
def State.lockElsewhere (k p : Nat) : State :=
  if Store.get (fun _ => 0) s.icx.lock p ≠ 0 ∧ Store.get (fun _ => 0) s.icx.lock p ≠ k + 1
  then s.lockExpire (Store.get (fun _ => 0) s.icx.lock p - 1) else s

theorem State.lockOpen_regs (k p : Nat) : (s.lockOpen k p).regs =
    (((s.lockElsewhere k p).setFlag Adr.ICX_LOCKSTAT k true).setFld (Adr.ICX_TGTSTAT k) 11 8 p).regs := rfl

theorem State.lockOpen_regsOn {P : Nat → Prop} {k : Nat} (hL : ¬ P Adr.ICX_LOCKSTAT) (hE : ¬ P (Adr.PEVT Pg.ICX)) (hT : ¬ P (Adr.ICX_TGTSTAT k))
    (p : Nat) : State.RegsOn P s (s.lockOpen k p) := by
  have helse : State.RegsOn P s (s.lockElsewhere k p) := by
    unfold State.lockElsewhere
    split
    · exact s.lockExpire_regsOn hL hE _
    · exact .refl
  exact ((helse.trans (State.setFlag_regsOn _ hL k true)).trans (State.setFld_regsOn _ hT 11 8 p)).trans (.of_regs (s.lockOpen_regs k p))

/-- The lock that LR.W opens is held by its port. -/
theorem State.lockOpen_opens {k p : Nat} (hk : k < 16) (hp : p < 16) : (s.lockOpen k p).lockHeld k = true ∧ (s.lockOpen k p).lockPort k = p := by
  have hne : Adr.ICX_LOCKSTAT ≠ Adr.ICX_TGTSTAT k := by unfold Adr.ICX_LOCKSTAT Adr.ICX_TGTSTAT; omega
  have hreg (a : Nat) : (s.lockOpen k p).reg a = (((s.lockElsewhere k p).setFlag Adr.ICX_LOCKSTAT k true).setFld (Adr.ICX_TGTSTAT k) 11 8 p).reg a := by
    unfold State.reg
    rw [s.lockOpen_regs]
  constructor
  · unfold State.lockHeld State.flag
    rw [hreg, State.reg_setFld, if_neg hne, State.reg_setFlag, if_pos rfl, bit_setBit_self _ _ (by omega)]
  · unfold State.lockPort State.fld
    rw [hreg, State.reg_setFld, if_pos rfl, bits_setBits_self _ _ _ _ (by decide), Nat.mod_eq_of_lt (by omega)]

/-! ### LR.W, SC.W and AMO at a bank of SRAM -/

theorem lockable_sram {k : Nat} (h1 : 1 ≤ k) (h7 : k ≤ 7) : lockable k = true := by
  unfold lockable
  simp only [Bool.or_eq_true, Bool.and_eq_true, decide_eq_true_eq]
  omega

theorem State.lockedOut_held {k port : Nat} (hh : s.lockHeld k = true) (hp : s.lockPort k = port) : s.lockedOut k port = false := by
  unfold State.lockedOut
  rw [hh, hp, bne_self_eq_false]
  rfl

theorem State.lockedOut_free {k : Nat} (hh : s.lockHeld k = false) (port : Nat) : s.lockedOut k port = false := by
  unfold State.lockedOut
  rw [hh]
  rfl

section
variable {s} {k port : Nat} (rd : Fin 32) {a : Word} (value : Word) (h : targetOf a.toNat = some k) (h1 : 1 ≤ k) (h7 : k ≤ 7)
include h h1 h7

theorem State.loadReserved_waits (hl : s.lockedOut k port = true) : s.loadReserved port rd a = s := by
  unfold State.loadReserved
  simp only [h, lockable_sram h1 h7, hl]
  rfl

theorem State.loadReserved_reads (hl : s.lockedOut k port = false) :
    s.loadReserved port rd a = (s.lockOpen k port).give port rd (s.mword a.toNat) := by
  unfold State.loadReserved
  simp only [h, lockable_sram h1 h7, hl, State.access_readWord h h1 h7]
  rfl

theorem State.storeConditional_stores (hh : s.lockHeld k = true) (hp : s.lockPort k = port) (hb : bit s.icx.broken k = false) :
    s.storeConditional port rd a value = ((s.putWord a.toNat value).lockDrop k).give port rd 0#32 := by
  unfold State.storeConditional
  simp only [h, lockable_sram h1 h7, s.lockedOut_held hh hp, hb, hh, State.access_writeWord h h1 h7]
  rfl

theorem State.storeConditional_unlocked (hh : s.lockHeld k = false) (hb : bit s.icx.broken k = false) :
    s.storeConditional port rd a value = s.give port rd 1#32 := by
  unfold State.storeConditional
  simp only [h, lockable_sram h1 h7, s.lockedOut_free hh, hb, hh]
  rfl

theorem State.storeConditional_broken (hl : s.lockedOut k port = false) (hb : bit s.icx.broken k = true) :
    s.storeConditional port rd a value = (s.setIcx { s.icx with broken := setBit s.icx.broken k false }).give port rd 2#32 := by
  unfold State.storeConditional
  simp only [h, lockable_sram h1 h7, hl, hb]
  rfl

theorem State.atomic_updates (op : AmoOp) (hl : s.lockedOut k port = false) :
    s.atomic port op rd a value = (s.putWord a.toNat (amoResult op (s.mword a.toNat) value)).give port rd (s.mword a.toNat) := by
  have hpage : ¬ (k = 0 ∨ k = 12 ∨ k = 13) := by omega
  unfold State.atomic
  simp only [h, if_neg hpage, hl, State.access_readWord h h1 h7, State.access_writeWord h h1 h7]
  rfl

end

/-- A word stored, beside what leaves memory alone: the word reads back and no other byte has changed. -/
theorem State.putWord_settled {t : State} {a : Nat} {w : Word} (h : t.mem = (s.putWord a w).mem) :
    t.settle.mword a = w ∧ ∀ b, b < a ∨ a + 4 ≤ b → t.settle.byte b = s.byte b := by
  refine ⟨?_, fun b hb => ?_⟩
  · rw [State.mword_congr (t.settle_mem.trans h), State.mword_putWord_self]
  · rw [State.byte_congr (t.settle_mem.trans h)]
    exact s.byte_putBytes_ne _ hb

section
variable {s} {port : Port} {a : Word} (hp : port.val ≤ 4) (h4 : a.toNat % 4 = 0) (hl : s.portLive port = true)
include hp h4

theorem atomicOk_of_le : atomicOk port a = true := by
  unfold atomicOk
  rw [h4, decide_eq_true (by omega)]
  rfl

include hl

theorem exec_lrW (rd : Fin 32) : exec (.lrW port rd a) s = .next (s.loadReserved port rd a).settle :=
  (if_pos (atomicOk_of_le hp h4)).trans (congrArg done (if_pos hl))

theorem exec_scW (rd : Fin 32) (w : Word) : exec (.scW port rd a w) s = .next (s.storeConditional port rd a w).settle :=
  (if_pos (atomicOk_of_le hp h4)).trans (congrArg done (if_pos hl))

theorem exec_amo (op : AmoOp) (rd : Fin 32) (w : Word) : exec (.amo port op rd a w) s = .next (s.atomic port op rd a w).settle :=
  (if_pos (atomicOk_of_le hp h4)).trans (congrArg done (if_pos hl))

end

end

/-! ### What the commands at a bank of SRAM leave -/

section
variable {port : Port} {a : Word} {k : Nat} {s : State} (hp : port.val ≤ 4) (h4 : a.toNat % 4 = 0) (hl : s.portLive port = true)
  (h : targetOf a.toNat = some k) (h1 : 1 ≤ k) (h7 : k ≤ 7) (rd : Fin 32) (value : Word)
include hp h4 hl h h1 h7

theorem lrW_reads (hout : s.lockedOut k port = false) : ∃ t, exec (.lrW port rd a) s = .next t ∧ (t.port port).resp = .ok (wordBytes (s.mword a.toNat))
    ∧ (port.val < 4 → rd ≠ 0 → (t.core port).xreg rd = s.mword a.toNat) ∧ t.lockHeld k = true ∧ t.lockPort k = port
    ∧ s.KeepsBut (Adr.ICX_LOCKSTAT :: Adr.PEVT Pg.ICX :: (List.range 16).map Adr.ICX_TGTSTAT) t := by
  obtain ⟨hresp, hx⟩ := (s.lockOpen k port).give_gave port rd (s.mword a.toNat)
  obtain ⟨hheld, hport⟩ := s.lockOpen_opens (k := k) (p := port) (by omega) (by omega)
  have hgive : State.RegsOn (fun _ => True) (s.lockOpen k port) ((s.lockOpen k port).give port rd (s.mword a.toNat)) := State.give_regsOn ..
  have hopen : State.RegsOn (· ∉ Adr.ICX_LOCKSTAT :: Adr.PEVT Pg.ICX :: (List.range 16).map Adr.ICX_TGTSTAT) s (s.lockOpen k port) := by
    refine s.lockOpen_regsOn (by simp) (by simp) ?_ port
    exact not_not.mpr (List.mem_cons_of_mem _ (List.mem_cons_of_mem _ (List.mem_map_of_mem (List.mem_range.mpr (by omega)))))
  refine ⟨_, exec_lrW hp h4 hl rd, ?_⟩
  rw [State.loadReserved_reads rd h h1 h7 hout]
  refine ⟨hresp, hx, ?_, ?_, (hopen.trans (State.give_regsOn ..)).keepsBut ?_⟩
  · rw [State.settle_lockHeld, State.lockHeld_congr (hgive.same _ trivial), hheld]
  · exact (State.settle_fld _ (irqReg_tgtstat ⟨k, by omega⟩) 11 8).trans ((hgive.fld trivial 11 8).trans hport)
  · exact (State.give_mem ..).trans ((State.lockOpen_within ..).same .mem rfl)

theorem lrW_waits (hout : s.lockedOut k port = true) : ∃ t, exec (.lrW port rd a) s = .next t ∧ t.ports = s.ports ∧ t.cores = s.cores
    ∧ s.KeepsBut [] t := by
  refine ⟨_, exec_lrW hp h4 hl rd, ?_⟩
  rw [State.loadReserved_waits rd h h1 h7 hout]
  exact ⟨State.settle_ports _, State.settle_cores _, State.RegsOn.refl.keepsBut rfl⟩

theorem scW_stores (hheld : s.lockHeld k = true) (hport : s.lockPort k = port) (hb : bit s.icx.broken k = false) :
    ∃ t, exec (.scW port rd a value) s = .next t ∧ (t.port port).resp = .ok (wordBytes 0#32)
      ∧ (port.val < 4 → rd ≠ 0 → (t.core port).xreg rd = 0#32) ∧ t.mword a.toNat = value
      ∧ (∀ b, b < a.toNat ∨ a.toNat + 4 ≤ b → t.byte b = s.byte b) ∧ t.lockHeld k = false ∧ s.RegsBut [Adr.ICX_LOCKSTAT] t := by
  obtain ⟨hresp, hx⟩ := ((s.putWord a.toNat value).lockDrop k).give_gave port rd 0#32
  have hmem : (((s.putWord a.toNat value).lockDrop k).give port rd 0#32).mem = (s.putWord a.toNat value).mem :=
    (State.give_mem ..).trans (State.lockDrop_mem ..)
  have hgive : State.RegsOn (fun _ => True) _ (((s.putWord a.toNat value).lockDrop k).give port rd 0#32) := State.give_regsOn ..
  have hput : State.RegsOn (· ∉ [Adr.ICX_LOCKSTAT]) s (s.putWord a.toNat value) := .of_regs (State.putWord_regs ..)
  obtain ⟨hword, hbytes⟩ := s.putWord_settled hmem
  refine ⟨_, exec_scW hp h4 hl rd value, ?_⟩
  rw [State.storeConditional_stores rd value h h1 h7 hheld hport hb]
  refine ⟨hresp, hx, hword, hbytes, ?_, ((hput.trans (State.lockDrop_regsOn _ (by simp) k)).trans (State.give_regsOn ..)).regsBut⟩
  rw [State.settle_lockHeld, State.lockHeld_congr (hgive.same _ trivial), State.lockDrop_lockHeld _ (by omega), if_pos rfl]

theorem scW_unlocked (hheld : s.lockHeld k = false) (hb : bit s.icx.broken k = false) :
    ∃ t, exec (.scW port rd a value) s = .next t ∧ (t.port port).resp = .ok (wordBytes 1#32)
      ∧ (port.val < 4 → rd ≠ 0 → (t.core port).xreg rd = 1#32) ∧ t.icx = s.icx ∧ s.KeepsBut [] t := by
  obtain ⟨hresp, hx⟩ := s.give_gave port rd 1#32
  refine ⟨_, exec_scW hp h4 hl rd value, ?_⟩
  rw [State.storeConditional_unlocked rd value h h1 h7 hheld hb]
  exact ⟨hresp, hx, (State.settle_icx _).trans (s.give_icx ..), (s.give_regsOn ..).keepsBut (s.give_mem ..)⟩

theorem scW_broken (hout : s.lockedOut k port = false) (hb : bit s.icx.broken k = true) :
    ∃ t, exec (.scW port rd a value) s = .next t ∧ (t.port port).resp = .ok (wordBytes 2#32)
      ∧ (port.val < 4 → rd ≠ 0 → (t.core port).xreg rd = 2#32) ∧ bit t.icx.broken k = false ∧ s.KeepsBut [] t := by
  obtain ⟨hresp, hx⟩ := (s.setIcx { s.icx with broken := setBit s.icx.broken k false }).give_gave port rd 2#32
  refine ⟨_, exec_scW hp h4 hl rd value, ?_⟩
  rw [State.storeConditional_broken rd value h h1 h7 hout hb]
  refine ⟨hresp, hx, ?_, State.RegsOn.keepsBut (.of_regs (State.give_regs ..)) (State.give_mem ..)⟩
  rw [State.settle_icx, State.give_icx, State.setIcx_icx]
  exact bit_setBit_self _ _ (by omega)

theorem amo_updates (op : AmoOp) (hout : s.lockedOut k port = false) :
    ∃ t, exec (.amo port op rd a value) s = .next t ∧ (t.port port).resp = .ok (wordBytes (s.mword a.toNat))
      ∧ (port.val < 4 → rd ≠ 0 → (t.core port).xreg rd = s.mword a.toNat) ∧ t.mword a.toNat = amoResult op (s.mword a.toNat) value
      ∧ (∀ b, b < a.toNat ∨ a.toNat + 4 ≤ b → t.byte b = s.byte b) ∧ s.RegsBut [] t := by
  obtain ⟨hresp, hx⟩ := (s.putWord a.toNat (amoResult op (s.mword a.toNat) value)).give_gave port rd (s.mword a.toNat)
  obtain ⟨hword, hbytes⟩ := s.putWord_settled (State.give_mem (s.putWord a.toNat (amoResult op (s.mword a.toNat) value)) port rd (s.mword a.toNat))
  refine ⟨_, exec_amo hp h4 hl op rd value, ?_⟩
  rw [State.atomic_updates rd value h h1 h7 op hout]
  exact ⟨hresp, hx, hword, hbytes, State.RegsOn.regsBut (.of_regs ((State.give_regs ..).trans (State.putWord_regs ..)))⟩

end

section
variable (s : State)

theorem lockExpiry_drops (j : Fin 16) (h : s.lockHeld j = true) : ∃ t, exec (.lockExpiry j) s = .next t ∧ t.lockHeld j = false
    ∧ (∀ i : Fin 16, i ≠ j → t.lockHeld i = s.lockHeld i) ∧ (s.pageOn Pg.ICX = true → t.flag (Adr.PEVT Pg.ICX) 1 = true)
    ∧ s.KeepsBut [Adr.ICX_LOCKSTAT, Adr.PEVT Pg.ICX] t := by
  have heq : s.lockExpire j = (s.lockDrop j).raise Pg.ICX 1 := if_pos h
  have hdrop : State.RegsOn (· ≠ Adr.ICX_LOCKSTAT) s (s.lockDrop j) := s.lockDrop_regsOn (by simp) j
  have hheld (i : Nat) : (s.lockExpire j).settle.lockHeld i = if j.val = i then false else s.lockHeld i := by
    rw [State.settle_lockHeld, heq, State.lockHeld_congr (State.raise_reg_ne _ _ _ (by decide)), State.lockDrop_lockHeld _ (by omega)]
  refine ⟨_, done_eq _, ?_, fun i hi => ?_, fun hon => ?_, (s.lockExpire_regsOn (by simp) (by simp) j).keepsBut ?_⟩
  · rw [hheld, if_pos rfl]
  · rw [hheld, if_neg (Fin.val_ne_of_ne hi.symm)]
  · rw [State.settle_flag _ (irqReg_pevt _), heq]
    exact State.raise_flag _ _ _ ((hdrop.pageOn (by decide) ((State.lockDrop_within ..).same .pwr rfl) _).trans hon) (by decide)
  · exact (State.lockExpire_within ..).same .mem rfl

/-! ### FENCE (R97) -/

theorem fence_holds (c : Fin 4) (hr : s.coreRuns c = true) (ht : 0 < s.icxTags c) : ∃ t, exec (.fence c) s = .next t
    ∧ t.core c = { s.core c with fence := true } ∧ (∀ d, d ≠ c.val → t.core d = s.core d) ∧ s.KeepsBut [] t := by
  have hexec : exec (.fence c) s = .next (s.putCore c { s.core c with fence := true }).settle := congrArg done (if_pos (by simp [hr, ht]))
  refine ⟨_, hexec, ?_, fun d hd => ?_, State.RegsOn.keepsBut (.of_regs rfl) rfl⟩
  · rw [State.core_congr (State.settle_cores _), State.core_putCore_self]
  · rw [State.core_congr (State.settle_cores _), State.core_putCore, if_neg hd]

theorem fence_passes (c : Fin 4) (ht : s.icxTags c = 0) : ∃ t, exec (.fence c) s = .next t ∧ t.cores = s.cores ∧ s.KeepsBut [] t := by
  have hexec : exec (.fence c) s = .next s.settle := congrArg done (if_neg (by simp [ht]))
  exact ⟨_, hexec, s.settle_cores, State.RegsOn.refl.keepsBut rfl⟩

/-! ### A period of the ports' budgets (R111) -/

/-- The beats that port p owes the next period. -/
def State.icxDebt (p : Nat) : Nat := if s.icxBudget p = 0 then 0 else s.icxCharged p - s.icxBudget p

/-- The period's count of each port stands in USED, and its debt is charged to the next period. -/
def State.icxCarry : State :=
  s.each (List.range 12) fun u p => (u.setReg (Adr.TBU_USED p) (w32 (min (s.icxCharged p) 65535))).putCharged p (s.icxDebt p)

theorem State.putCharged_reg (p n a : Nat) : (s.putCharged p n).reg a = s.reg a := rfl

theorem State.icxCharged_putCharged (p n q : Nat) : (s.putCharged p n).icxCharged q = if q = p then n else s.icxCharged q := Store.get_put ..

theorem State.icxCarry_used {p : Nat} (hp : p < 12) : s.icxCarry.reg (Adr.TBU_USED p) = w32 (min (s.icxCharged p) 65535) := by
  refine State.each_reaches (Q := fun p u => u.reg (Adr.TBU_USED p) = w32 (min (s.icxCharged p) 65535)) (fun t k => ?_) (fun t j k h => ?_)
    (List.mem_range.mpr hp) s
  · rw [State.putCharged_reg, State.reg_setReg_self]
  · rw [State.putCharged_reg, State.reg_setReg]
    split
    next he =>
      unfold Adr.TBU_USED at he
      rw [show j = k by omega]
    next => exact h

theorem State.icxCarry_charged {p : Nat} (hp : p < 12) : s.icxCarry.icxCharged p = s.icxDebt p := by
  refine State.each_reaches (Q := fun p u => u.icxCharged p = s.icxDebt p) (fun t k => ?_) (fun t j k h => ?_) (List.mem_range.mpr hp) s
  · rw [State.icxCharged_putCharged, if_pos rfl]
  · rw [State.icxCharged_putCharged]
    split
    next he => rw [he]
    next => exact h

theorem State.icxCarry_regsOn {P : Nat → Prop} (h : ∀ p < 12, ¬ P (Adr.TBU_USED p)) : State.RegsOn P s s.icxCarry :=
  s.each_regsOn fun t p hp => (t.setReg_regsOn (h p (List.mem_range.mp hp)) _).trans (.of_regs rfl)

theorem State.icxCarry_within : s.WithinM 4098 s.icxCarry :=
  State.each_within (fun _ _ => (State.putCharged_within ..).step rfl ((State.setReg_within ..).step rfl (.refl _ _))) (.refl _ _)

/-- The period counted, before its events. -/
def State.icxClose : State := s.icxCarry.setReg Adr.TBU_PERIOD (s.icxCarry.reg Adr.TBU_PERIOD + 1#32)

theorem State.icxPeriod_eq : s.icxPeriod =
    (s.icxClose.raise Pg.TBU 7).when ((List.range 12).any fun p => decide (0 < s.icxDebt p)) fun u => u.raise Pg.TBU 5 := rfl

/-- The events of a period show in PEVT of TBU alone, and touch no count. -/
theorem State.icxPeriod_events : State.RegsOn (· ≠ Adr.PEVT Pg.TBU) s.icxClose s.icxPeriod := by
  rw [s.icxPeriod_eq]
  exact (s.icxClose.raise_regsOn (by simp) 7).trans (State.when_regsOn _ (fun t => t.raise_regsOn (by simp) 5) _)

theorem State.icxPeriod_charged (p : Nat) : s.icxPeriod.icxCharged p = s.icxCarry.icxCharged p := by
  have hevents : State.WithinM 2050 s.icxClose s.icxPeriod := by
    rw [s.icxPeriod_eq]
    exact State.when_within (fun t => State.raise_within t Pg.TBU 5) (State.raise_within _ Pg.TBU 7)
  exact State.icxCharged_congr ((hevents.same .icx rfl).trans (State.setReg_icx ..)) p

/-- The registers that a period writes. -/
abbrev periodRegs : List Nat := Adr.TBU_PERIOD :: Adr.PEVT Pg.TBU :: (List.range 12).map Adr.TBU_USED

theorem State.icxClose_regsOn : State.RegsOn (· ∉ periodRegs) s s.icxClose := by
  refine (s.icxCarry_regsOn fun p hp => ?_).trans (State.setReg_regsOn _ (by simp) _)
  exact not_not.mpr (List.mem_cons_of_mem _ (List.mem_cons_of_mem _ (List.mem_map_of_mem (List.mem_range.mpr hp))))

theorem State.icxPeriod_regsOn : State.RegsOn (· ∉ periodRegs) s s.icxPeriod :=
  s.icxClose_regsOn.trans (s.icxPeriod_events.mono fun _ ha he => ha (he ▸ List.mem_cons_of_mem _ List.mem_cons_self))

theorem State.icxPeriod_raises (hon : s.pageOn Pg.TBU = true) : s.icxPeriod.flag (Adr.PEVT Pg.TBU) 7 = true := by
  have hpwr : s.icxClose.pwr = s.pwr := ((State.setReg_within ..).step rfl s.icxCarry_within).same .pwr rfl
  have hset : (s.icxClose.raise Pg.TBU 7).flag (Adr.PEVT Pg.TBU) 7 = true :=
    State.raise_flag _ _ _ ((s.icxClose_regsOn.pageOn (by decide) hpwr _).trans hon) (by decide)
  rw [s.icxPeriod_eq]
  unfold State.when
  split
  · exact State.raise_flag_mono _ _ _ hset
  · exact hset

theorem interconnectPeriod_publishes (hon : s.pageOn Pg.TBU = true) : ∃ t, exec .interconnectPeriod s = .next t
    ∧ (∀ p : Fin 12, t.reg (Adr.TBU_USED p) = w32 (min (s.icxCharged p) 65535)
        ∧ t.icxCharged p = (if s.icxBudget p = 0 then 0 else s.icxCharged p - s.icxBudget p))
    ∧ t.reg Adr.TBU_PERIOD = s.reg Adr.TBU_PERIOD + 1#32 ∧ t.flag (Adr.PEVT Pg.TBU) 7 = true
    ∧ s.KeepsBut (Adr.TBU_PERIOD :: Adr.PEVT Pg.TBU :: (List.range 12).map Adr.TBU_USED) t := by
  have hcarry : State.RegsOn (· = Adr.TBU_PERIOD) s s.icxCarry :=
    s.icxCarry_regsOn fun p _ => by unfold Adr.TBU_USED Adr.TBU_PERIOD; omega
  have hexec : exec .interconnectPeriod s = .next s.icxPeriod.settle := congrArg done (s.onPage_on hon _)
  refine ⟨_, hexec, fun p => ⟨?_, ?_⟩, ?_, ?_, s.icxPeriod_regsOn.keepsBut ((State.icxPeriod_within s).same .mem rfl)⟩
  · have hirq : irqReg (Adr.TBU_USED p) = false := irqReg_eq_false (by unfold Adr.TBU_USED; omega)
    have hpevt : Adr.TBU_USED p ≠ Adr.PEVT Pg.TBU := by unfold Adr.TBU_USED Adr.PEVT Pg.TBU; omega
    have hperiod : Adr.TBU_USED p ≠ Adr.TBU_PERIOD := by unfold Adr.TBU_USED Adr.TBU_PERIOD; omega
    rw [State.settle_reg _ hirq, s.icxPeriod_events.same _ hpevt, State.icxClose, State.reg_setReg_ne _ _ hperiod, s.icxCarry_used p.isLt]
  · rw [State.icxCharged_congr (State.settle_icx _), s.icxPeriod_charged, s.icxCarry_charged p.isLt]
    rfl
  · rw [State.settle_reg _ (by decide), s.icxPeriod_events.same _ (by decide), State.icxClose, State.reg_setReg_self, hcarry.same _ rfl]
  · rw [State.settle_flag _ (irqReg_pevt _), s.icxPeriod_raises hon]

end

/-! ### The transactions of the targets (R97) -/

section
variable {k : Fin 16} {p : Nat} {x : Txn} {rest : List (Nat × Txn)} {s : State} (h : s.icxGranted k = (p, x) :: rest)
  (h1 : 1 ≤ k.val) (h7 : k.val ≤ 7) (ht : targetOf x.addr.toNat = some k.val)
include h h1 h7 ht

theorem transactionResponse_sram : exec (.transactionResponse k) s = .next
    (((s.memAccess x).1.answer p (s.memAccess x).2).icxAnswer k).settle := by
  refine (done_eq (s.respond k)).trans ?_
  unfold State.respond
  rw [h]
  dsimp only
  rw [s.access_sram p ht h1 h7]

theorem transactionResponse_reads (hw : x.write = false) : ∃ t, exec (.transactionResponse k) s = .next t
    ∧ (t.port p).resp = .ok (s.bytes x.addr.toNat (x.size * x.beats)) ∧ t.icxGranted k = rest ∧ (∀ q, q ≠ p → t.port q = s.port q)
    ∧ (p < 4 → t.icxTags p = 0 → (t.core p).fence = false) ∧ s.KeepsBut (Adr.ICX_TAGSTAT :: (List.range 16).map Adr.ICX_TGTSTAT) t := by
  refine ⟨_, transactionResponse_sram h h1 h7 ht, ?_⟩
  rw [s.memAccess_read hw]
  obtain ⟨hresp, hgranted, hothers, hfence⟩ := (State.answer_delivers (.ok (s.bytes x.addr.toNat (x.size * x.beats))) h).settle
  exact ⟨hresp, hgranted, hothers, hfence, (State.answer_icxAnswer_regsOn _ h).keepsBut ((State.icxAnswer_within ..).same .mem rfl)⟩

theorem transactionResponse_writes (hw : x.write = true) : ∃ t, exec (.transactionResponse k) s = .next t
    ∧ (t.port p).resp = .ok [] ∧ t.icxGranted k = rest ∧ (∀ i, ∀ hi : i < x.data.length, t.byte (x.addr.toNat + i) = x.data[i])
    ∧ (∀ a, a < x.addr.toNat ∨ x.addr.toNat + x.data.length ≤ a → t.byte a = s.byte a)
    ∧ (p < 4 → t.icxTags p = 0 → (t.core p).fence = false) ∧ s.RegsBut (Adr.ICX_TAGSTAT :: (List.range 16).map Adr.ICX_TGTSTAT) t := by
  let u := s.putBytes x.addr.toNat x.data
  have hu : u.icxGranted k = (p, x) :: rest := (State.icxGranted_congr (s.putBytes_icx ..) k).trans h
  have hbyte (a : Nat) : ((u.answer p (.ok [])).icxAnswer k).settle.byte a = u.byte a :=
    State.byte_congr ((State.settle_mem _).trans ((State.icxAnswer_within ..).same .mem rfl)) a
  have hput : State.RegsOn (· ∉ tagRegs) s u := .of_regs (s.putBytes_regs ..)
  refine ⟨_, transactionResponse_sram h h1 h7 ht, ?_⟩
  rw [s.memAccess_write hw]
  obtain ⟨hresp, hgranted, -, hfence⟩ := (State.answer_delivers (.ok []) hu).settle
  refine ⟨hresp, hgranted, fun i hi => ?_, fun a ha => ?_, hfence, (hput.trans (State.answer_icxAnswer_regsOn _ hu)).regsBut⟩
  · rw [hbyte, State.byte_putBytes, dif_pos (by omega)]
    simp only [Nat.add_sub_cancel_left]
  · rw [hbyte, s.byte_putBytes_ne _ ha]

end

/-- Settles O30: an access to a bank of SRAM is `State.memAccess`; LR.W, SC.W and AMO are accesses beside the lock, and a period is the carry of each
port's debt. -/
theorem targetsAnswer : Obligations.TargetsAnswer := by
  unfold Obligations.TargetsAnswer
  exact ⟨fun _ _ _ _ _ h => ⟨fun h1 h7 ht hw => transactionResponse_reads h h1 h7 ht hw, fun h1 h7 ht hw => transactionResponse_writes h h1 h7 ht hw⟩,
    fun _ rd _ value _ s hp h4 hl ht h1 h7 => ⟨lrW_reads hp h4 hl ht h1 h7 rd, lrW_waits hp h4 hl ht h1 h7 rd, scW_stores hp h4 hl ht h1 h7 rd value,
      scW_unlocked hp h4 hl ht h1 h7 rd value, scW_broken hp h4 hl ht h1 h7 rd value, amo_updates hp h4 hl ht h1 h7 rd value, lockExpiry_drops s⟩,
    fun s => ⟨fence_holds s, fence_passes s, interconnectPeriod_publishes s⟩⟩

end Sys2Proof.Machine
end

section
/-! SUPPORT. A run of the trim that ends (R168, R178, R179): what the end leaves in the engine and in CSTAT, what a commit publishes, and the writes of
its set-point targets. -/

namespace Sys2Proof.Machine

theorem State.engine_congr {s t : State} (h : t.engines = s.engines) (n : Nat) : t.engine n = s.engine n := by unfold State.engine; rw [h]

theorem State.word_congr {s t : State} (h : t.samples = s.samples) (k : Nat) : t.word k = s.word k := by unfold State.word; rw [h]

/-- What every step of a fold keeps, the fold keeps. -/
theorem State.each_keeps {M : State → Prop} {f : State → Nat → State} {l : List Nat} (hf : ∀ t, ∀ k ∈ l, M t → M (f t k)) {s : State} (h : M s) :
    M (s.each l f) :=
  List.foldlRecOn (motive := M) l f h fun t ht k hk => hf t k hk ht

theorem State.each_id {f : State → Nat → State} {l : List Nat} (hf : ∀ t, ∀ k ∈ l, f t k = t) (s : State) : s.each l f = s :=
  State.each_keeps (M := (· = s)) (fun t k hk ht => (hf t k hk).trans ht) rfl

section
variable (s : State) (n : Nat) (r : TrimRun)

/-! ### Registers that a run only reads -/

/-- The configuration of the slots of engine n, and every register of the pages before those of the trim. -/
abbrev SteadyReg (n a : Nat) : Prop := a < 0x40000 ∨ (0x40100 + n * 0x1000 ≤ a ∧ a < 0x40300 + n * 0x1000)

/-- The registers that the end of a run of slot i writes. -/
abbrev endRegs (n i : Nat) : List Nat := [Adr.TRIM_CSTAT n i, Adr.TRIM_ESTAT n, Adr.TRIM_ECCCNT n, Adr.TSCH_LAT (8 * n + i)]

theorem State.RegsOn.steady {s t : State} {n i : Nat} (hn : n < 4) (h : State.RegsOn (· ∉ endRegs n i) s t) : State.RegsOn (SteadyReg n) s t := by
  refine h.mono fun a ha => ?_
  simp only [endRegs, List.mem_cons, List.not_mem_nil, or_false, not_or, Adr.TRIM_CSTAT, Adr.TRIM_ESTAT, Adr.TRIM_ECCCNT, Adr.TSCH_LAT]
  omega

/-- The set-point targets of a slot are part of its configuration. -/
theorem State.sptgt_steady {s t : State} {n i j : Nat} (h : State.RegsOn (SteadyReg n) s t) (hi : i < 8) (hj : j < 4) :
    t.sptgt (8 * n + i) j = s.sptgt (8 * n + i) j := by
  refine h.same _ ?_
  unfold SteadyReg Adr.TRIM_SPTGT0
  omega

theorem State.ccfg_steady {s t : State} {n i : Nat} (h : State.RegsOn (SteadyReg n) s t) (hi : i < 8) :
    t.reg (Adr.TRIM_CCFG n i) = s.reg (Adr.TRIM_CCFG n i) := by
  refine h.same _ ?_
  unfold SteadyReg Adr.TRIM_CCFG
  omega

theorem State.pageOn_steady {s t : State} {n : Nat} (h : State.RegsOn (SteadyReg n) s t) (hp : t.pwr = s.pwr) (p : Nat) : t.pageOn p = s.pageOn p :=
  h.pageOn (.inl (by decide)) hp p

/-! ### The end of a run (R179, R187) -/

theorem State.eccCount_regsOn {P : Nat → Prop} (h : ¬ P (Adr.TRIM_ECCCNT n)) (e : Ecc) : State.RegsOn P s (s.eccCount n e) := by
  unfold State.eccCount
  split
  · exact s.bump_regsOn h 15 0
  · exact .refl

theorem State.runOver_regsOn {P : Nat → Prop} (hC : ¬ P (Adr.TRIM_CSTAT n r.slot)) (hE : ¬ P (Adr.TRIM_ESTAT n))
    (hL : ¬ P (Adr.TSCH_LAT (8 * n + r.slot))) : State.RegsOn P s (s.runOver n r) := by
  have hunits (u : State) (e : Engine) (c : Nat) (x : Ctx) : State.RegsOn P u ((u.putEngine n e).putCtx c x) := .of_regs rfl
  exact ((((s.setFld_regsOn hC 13 0 _).trans (State.setFlag_regsOn _ hC _ _)).trans (State.setReg_regsOn _ hL _)).trans (hunits ..)).trans
    (State.setReg_regsOn _ hE _)

theorem State.runOver_idle : ((s.runOver n r).engine n).run = none := by
  unfold State.runOver
  rw [State.engine_congr ((State.estat_within ..).same .engines rfl), State.engine_congr (State.putCtx_engines ..), State.engine_putEngine_self]

/-- The run has left CSTAT with its cycles (R179). -/
theorem State.runOver_cstat (hr : r.slot < 8) : (s.runOver n r).reg (Adr.TRIM_CSTAT n r.slot) =
    setBit (setBits (s.reg (Adr.TRIM_CSTAT n r.slot)) 13 0 (min r.cyc 16383)) Cstat.run false := by
  have hE : Adr.TRIM_CSTAT n r.slot ≠ Adr.TRIM_ESTAT n := by unfold Adr.TRIM_CSTAT Adr.TRIM_ESTAT; omega
  have hL : Adr.TRIM_CSTAT n r.slot ≠ Adr.TSCH_LAT (8 * n + r.slot) := by unfold Adr.TRIM_CSTAT Adr.TSCH_LAT; omega
  unfold State.runOver State.estat
  rw [State.reg_setReg_ne _ _ hE, State.putCtx_reg, State.putEngine_reg, State.reg_setReg_ne _ _ hL, State.reg_setFlag, if_pos rfl, State.reg_setFld,
    if_pos rfl]

/-- The run with the cycle of its END counted (R172). -/
def TrimRun.counted (r : TrimRun) : TrimRun := { r with cyc := r.cyc + 1 }

@[simp] theorem TrimRun.counted_slot (r : TrimRun) : r.counted.slot = r.slot := rfl

/-- The state after an END variant of run r has issued, before what the variant does. -/
def State.ended (n : Nat) (e : Ecc) (r : TrimRun) : State := (s.eccCount n e).runOver n r.counted

/-- Run r of engine n is over: the engine is idle, and CSTAT of its slot shows neither a run nor other cycles than those of r and its END. -/
structure State.RunEnded (n : Nat) (r : TrimRun) (t : State) : Prop where
  idle : (t.engine n).run = none
  shown : t.flag (Adr.TRIM_CSTAT n r.slot) 16 = false
  cycles : t.fld (Adr.TRIM_CSTAT n r.slot) 13 0 = min (r.cyc + 1) 16383

theorem State.ended_runEnded (e : Ecc) (hr : r.slot < 8) : State.RunEnded n r (s.ended n e r) := by
  have hcstat : (s.ended n e r).reg (Adr.TRIM_CSTAT n r.slot) =
      setBit (setBits ((s.eccCount n e).reg (Adr.TRIM_CSTAT n r.slot)) 13 0 (min (r.cyc + 1) 16383)) Cstat.run false :=
    State.runOver_cstat _ n r.counted hr
  refine ⟨State.runOver_idle .., ?_, ?_⟩
  · rw [State.flag_eq, hcstat]
    exact bit_setBit_self _ _ (by decide)
  · rw [State.fld_eq, hcstat, bits_setBit_ne _ _ _ _ _ (.inr (by decide)), bits_setBits_self _ _ _ _ (by decide), Nat.mod_eq_of_lt (by omega)]

theorem State.RunEnded.past {n : Nat} {r : TrimRun} {t u : State} (h : State.RunEnded n r t) (he : u.engines = t.engines)
    (hc : u.reg (Adr.TRIM_CSTAT n r.slot) = t.reg (Adr.TRIM_CSTAT n r.slot)) : State.RunEnded n r u where
  idle := (congrArg Engine.run (State.engine_congr he n)).trans h.idle
  shown := (congrArg (bit · 16) hc).trans h.shown
  cycles := (congrArg (bits · 13 0) hc).trans h.cycles

theorem State.ended_regsOn (e : Ecc) : State.RegsOn (· ∉ endRegs n r.slot) s (s.ended n e r) :=
  (s.eccCount_regsOn n (by simp) e).trans (State.runOver_regsOn _ n _ (by simp) (by simp) (by simp))

/-- The end of a run is seen in registers, its engine and its context alone. -/
theorem State.ended_within (e : Ecc) : s.WithinM 196610 (s.ended n e r) :=
  (State.runOver_within ..).step rfl ((State.eccCount_within ..).step rfl (.refl 196610 s))

variable {s n r} {e : Ecc} {w : Word}

theorem State.issues_stands {op : Nat} {p : Word → Bool} (h : s.Stands n r w op) (hp : p w = true) : s.issues n p = some (r, w) := by
  obtain ⟨hrun, -, hw, -, hbudget⟩ := h
  unfold State.issues
  rw [hrun]
  dsimp only
  rw [hw, if_pos ⟨hbudget, hp⟩]

theorem State.isaEnd_ends (h : s.Stands n r w 0) {v : Nat} (hv : bits w 1 0 = v) (he : e ≠ .uncorrectable) (f : State → TrimRun → State) :
    s.isaEnd n e v f = f (s.ended n e r) r.counted := by
  obtain ⟨-, -, -, hop, -⟩ := id h
  unfold State.isaEnd
  rw [State.issues_stands h (by simp [hop, hv])]
  exact if_neg he

/-! ### Reports to Shroud (R188) -/

theorem State.ctxReport_trip {i : Nat} (h : s.ctxSafe n i = true) (hc : 8 * n + i < 32) :
    bit (s.ctxReport n i .trip).shroud.trips (8 * n + i) = true := by
  unfold State.ctxReport
  rw [if_pos h]
  exact bit_setBit_self _ _ hc

end

/-! ### Words published by a commit (R178) -/

section
variable (s : State) (n : Nat) (r : TrimRun)

/-- The staged outputs of run r placed on the sample bus, with the trigger's time. -/
def State.publishWords : State := s.each (List.range 4) fun t j =>
  if r.written.contains (0x20 + j) then
    t.publish (0x100 + 4 * (8 * n + r.slot) + j) (Store.get (fun _ => 0#32) r.staged (0x20 + j)) r.trigTime
  else t

theorem State.publishWords_within : s.WithinM 262144 (s.publishWords n r) :=
  State.each_within (fun _ _ => .ite (fun _ => State.publish_within ..) fun _ => .refl _ _) (.refl _ _)

theorem State.publishWords_written (j : Fin 4) (h : 0x20 + j.val ∈ r.written) : (s.publishWords n r).word (0x100 + 4 * (8 * n + r.slot) + j) =
    ⟨Store.get (fun _ => 0#32) r.staged (0x20 + j), true, r.trigTime⟩ := by
  refine State.each_reaches (Q := fun j t => 0x20 + j ∈ r.written → t.word (0x100 + 4 * (8 * n + r.slot) + j) =
    ⟨Store.get (fun _ => 0#32) r.staged (0x20 + j), true, r.trigTime⟩) (fun t k hk => ?_) (fun t i k hq hk => ?_) (List.mem_range.mpr j.isLt) s h
  · rw [if_pos (List.contains_iff_mem.mpr hk), State.publish, State.word_putSample_self]
  · split
    · rw [State.publish, State.word_putSample]
      split
      next he => rw [show i = k by omega]
      next => exact hq hk
    · exact hq hk

theorem State.publishWords_other {k : Nat} (h : ∀ j : Fin 4, 0x20 + j.val ∈ r.written → k ≠ 0x100 + 4 * (8 * n + r.slot) + j) :
    (s.publishWords n r).word k = s.word k := by
  refine State.each_keeps (M := fun t => t.word k = s.word k) (fun t j hj ht => ?_) rfl
  split
  next hw => rw [State.publish, State.word_putSample, if_neg (h ⟨j, List.mem_range.mp hj⟩ (List.contains_iff_mem.mp hw)), ht]
  next => exact ht

variable {s n r}

theorem State.commitWords_noUnit (h20 : s.flag (Adr.TRIM_CCFG n r.slot) 20 = false) (h21 : s.flag (Adr.TRIM_CCFG n r.slot) 21 = false) :
    s.commitWords n r = s.publishWords n r := by
  rw [State.flag_eq] at h20 h21
  unfold State.commitWords
  simp only [h20, h21]
  rfl

/-- The set that a commit completes for its first PWM unit u: words not written keep the last committed value. -/
def State.setOf (s : State) (r : TrimRun) (u : Nat) : List Word := (List.range 8).map fun k =>
  if r.written.contains k then Store.get (fun _ => 0#32) r.staged k else nthD 0#32 (s.pwm u).last k

theorem State.commitWords_unit (h20 : s.flag (Adr.TRIM_CCFG n r.slot) 20 = true) (h21 : s.flag (Adr.TRIM_CCFG n r.slot) 21 = false)
    (hw : (r.written.any fun k => decide (k < 8)) = true) : s.commitWords n r =
    (s.commitSet (s.fld (Adr.TRIM_CCFG n r.slot) 15 12) (s.setOf r (s.fld (Adr.TRIM_CCFG n r.slot) 15 12))).publishWords n r := by
  obtain ⟨k, hk, h8⟩ := List.any_eq_true.mp hw
  have hany : ((List.range 8).any fun k => r.written.contains (0 + k)) = true := by
    refine List.any_eq_true.mpr ⟨k, List.mem_range.mpr (of_decide_eq_true h8), ?_⟩
    rw [Nat.zero_add]
    exact List.contains_iff_mem.mpr hk
  rw [State.flag_eq] at h20 h21
  unfold State.commitWords State.commitUnit
  rw [hany]
  simp only [h20, h21, Nat.zero_add]
  rfl

/-! ### Set-point targets (R178) -/

theorem State.commitTargets_none (h : ∀ j : Fin 4, bit (s.sptgt (8 * n + r.slot) j) 31 = false) : s.commitTargets n r = s := by
  refine State.each_id (fun t j hj => ?_) s
  dsimp only
  rw [h ⟨j, List.mem_range.mp hj⟩]
  rfl

/-- Only the first target is enabled, and its word is staged. -/
theorem State.commitTargets_first (h0 : bit (s.sptgt (8 * n + r.slot) 0) 31 = true) (hw : 0x10 ∈ r.written)
    (h : ∀ j : Fin 3, bit (s.sptgt (8 * n + r.slot) (j + 1)) 31 = false) : s.commitTargets n r =
    s.targetWrite (bits (s.sptgt (8 * n + r.slot) 0) 20 2 * 4) (Store.get (fun _ => 0#32) r.staged 0x10) := by
  have hrest (t : State) : (t.each [1, 2, 3] fun t j =>
      if bit (s.sptgt (8 * n + r.slot) j) 31 && r.written.contains (0x10 + j) then
        t.targetWrite (bits (s.sptgt (8 * n + r.slot) j) 20 2 * 4) (Store.get (fun _ => 0#32) r.staged (0x10 + j))
      else t) = t := by
    refine State.each_id (fun t j hj => ?_) t
    obtain ⟨i, rfl⟩ : ∃ i : Fin 3, j = i + 1 := by
      simp only [List.mem_cons, List.not_mem_nil, or_false] at hj
      exact ⟨⟨j - 1, by omega⟩, by dsimp only; omega⟩
    rw [h i]
    rfl
  refine (hrest _).trans ?_
  dsimp only
  rw [h0, List.contains_iff_mem.mpr hw]
  rfl

end

/-! ### The set-points of a slot as targets -/

theorem regInfo_setp : ∀ (m : Fin 4) (x : Fin 8) (k : Fin 3),
    regInfo (Pg.TRIM m) (0x130 + x.val * 0x40 + 4 * (k.val + 1)) = { RegInfo.ro with rw := 0xFFFFFFFF#32 } := by decide

theorem pageRow_trim : ∀ m : Fin 4, ∃ r, pageRow (Pg.TRIM m) = some r ∧ r.blk = .trim := by
  intro m
  fin_cases m <;> exact ⟨_, rfl, rfl⟩

section
variable (m : Fin 4) (x : Fin 8) (k : Fin 3)

theorem setp_split : (Adr.TRIM_SETP0 m x + 4 * (k.val + 1)) / 4096 = Pg.TRIM m
    ∧ (Adr.TRIM_SETP0 m x + 4 * (k.val + 1)) % 4096 = 0x130 + x.val * 0x40 + 4 * (k.val + 1) := by
  unfold Adr.TRIM_SETP0 Pg.TRIM
  omega

/-- SETP1 to SETP3 of a slot take the word, and nothing else follows. -/
theorem State.targetWrite_setp (s : State) (hon : s.pageOn (Pg.TRIM m) = true) (v : Word) :
    s.targetWrite (Adr.TRIM_SETP0 m x + 4 * (k.val + 1)) v = s.setReg (Adr.TRIM_SETP0 m x + 4 * (k.val + 1)) v := by
  obtain ⟨b, hb, hblk⟩ := pageRow_trim m
  obtain ⟨hp, hoff⟩ := setp_split m x k
  have hword (old : Word) : (old &&& ~~~0xFFFFFFFF#32) ||| (v &&& 0xFFFFFFFF#32) = v := by
    rw [show ~~~0xFFFFFFFF#32 = (0#32 : Word) from rfl, BitVec.and_zero, BitVec.zero_or]
    exact BitVec.and_allOnes
  have haddr : 4096 * Pg.TRIM m + (0x130 + x.val * 0x40 + 4 * (k.val + 1)) = Adr.TRIM_SETP0 m x + 4 * (k.val + 1) := by
    unfold Adr.TRIM_SETP0 Pg.TRIM
    omega
  have hhook (t : State) (old : Word) : t.trimHook (Pg.TRIM m - b.page) (0x130 + x.val * 0x40 + 4 * (k.val + 1)) v old v = t := by
    unfold State.trimHook
    dsimp only
    rw [if_neg (by omega), if_pos (by omega), if_neg (by omega), if_neg (by omega)]
  unfold State.targetWrite
  simp only [hp, hoff, regInfo_setp, hon]
  rw [if_neg (by simp; omega)]
  unfold State.writeReg
  simp only [hb, hblk, haddr, storedValue, RegInfo.ro, hword]
  rw [if_neg (by omega), if_neg (by omega), if_neg (by omega)]
  exact hhook ..

end

end Sys2Proof.Machine
end

section
/-! SUPPORT. END, ENDT and ENDN (R173, R178, R179, R188): what each publishes, commits to PWM units and targets, and reports. -/

namespace Sys2Proof.Machine

theorem irqReg_cstat (n : Fin 4) {i : Nat} (h : i < 8) : irqReg (Adr.TRIM_CSTAT n i) = false := irqReg_eq_false (by unfold Adr.TRIM_CSTAT; omega)

theorem irqReg_cflag (n : Fin 4) {i : Nat} (h : i < 8) : irqReg (Adr.TRIM_CFLAG n i) = false := irqReg_eq_false (by unfold Adr.TRIM_CFLAG; omega)

theorem State.ctxReport_regsOn {P : Nat → Prop} (s : State) (n i : Nat) (st : CtxStatus) : State.RegsOn P s (s.ctxReport n i st) :=
  .of_regs (State.ctxReport_regs ..)

/-! ### Sets of PWM units (R10, R11) -/

theorem State.commitSet_congr {s t : State} (hp : t.pwms = s.pwms) (hw : t.pwr = s.pwr) (u : Nat) (ws : List Word) :
    (t.commitSet u ws).pwms = (s.commitSet u ws).pwms := by
  unfold State.commitSet State.putPwm State.now State.pwm
  rw [State.setPwms_pwms, State.setPwms_pwms, hp, hw]

theorem State.commitSet_pwm (s : State) (u : Nat) (ws : List Word) (v : Nat) :
    (s.commitSet u ws).pwm v = if v = u then { s.pwm u with sets := (s.now, ws) :: (s.pwm u).sets, last := ws } else s.pwm v :=
  State.pwm_putPwm ..

/-! ### A run that publishes (R178) -/

section
variable {s t u : State} {n : Fin 4} {r : TrimRun}

/-- Run r of engine n is over, and its commit has published the staged outputs and raised DONE; no PWM unit has a new set. -/
structure State.Published (s : State) (n : Nat) (r : TrimRun) (t : State) : Prop where
  ended : State.RunEnded n r t
  written : ∀ j : Fin 4, 0x20 + j.val ∈ r.written →
    t.word (0x100 + 4 * (8 * n + r.slot) + j) = ⟨Store.get (fun _ => 0#32) r.staged (0x20 + j), true, r.trigTime⟩
  other : ∀ k, (∀ j : Fin 4, 0x20 + j.val ∈ r.written → k ≠ 0x100 + 4 * (8 * n + r.slot) + j) → t.word k = s.word k
  raised : t.flag (Adr.PEVT (Pg.TRIM n)) r.slot = true
  pwms : t.pwms = s.pwms

/-- CFLAG, Shroud's wires and what follows every command leave a publication as it is. -/
theorem State.Published.settle (h : s.Published n r t) (hr : r.slot < 8) (hregs : State.RegsOn (· ∉ [Adr.TRIM_CFLAG n r.slot]) t u)
    (hu : t.WithinM 32770 u) : s.Published n r u.settle where
  ended := by
    refine h.ended.past ((State.settle_engines _).trans (hu.same .engines rfl)) ((State.settle_reg _ (irqReg_cstat n hr)).trans (hregs.same _ ?_))
    simp [Adr.TRIM_CSTAT, Adr.TRIM_CFLAG]
  written j hj := (State.word_congr ((State.settle_samples _).trans (hu.same .samples rfl)) _).trans (h.written j hj)
  other k hk := (State.word_congr ((State.settle_samples _).trans (hu.same .samples rfl)) _).trans (h.other k hk)
  raised := by
    have hne : Adr.PEVT (Pg.TRIM n) ∉ [Adr.TRIM_CFLAG n r.slot] := by
      simp only [List.mem_singleton, Adr.PEVT, Pg.TRIM, Adr.TRIM_CFLAG]
      omega
    rw [State.settle_flag _ (irqReg_pevt _), hregs.flag hne, h.raised]
  pwms := (State.settle_pwms _).trans ((hu.same .pwms rfl).trans h.pwms)

end

section
variable {s : State} {n : Fin 4} {r : TrimRun} {w : Word} (e : Ecc) (hr : r.slot < 8)

/-- The state after the commit of an END or ENDT of run r. -/
def State.committed (s : State) (n : Nat) (e : Ecc) (r : TrimRun) : State := (s.ended n e r).commitRun n r.counted

/-- The end of a run writes no configuration of a slot and no register of the pages before those of the trim. -/
theorem State.ended_steady : State.RegsOn (SteadyReg n) s (s.ended n e r) := (s.ended_regsOn n r e).steady n.isLt

include hr

theorem State.ended_flag_ccfg (b : Nat) : (s.ended n e r).flag (Adr.TRIM_CCFG n r.slot) b = s.flag (Adr.TRIM_CCFG n r.slot) b :=
  congrArg (bit · b) (State.ccfg_steady (State.ended_steady e) hr)

section
variable (h20 : s.flag (Adr.TRIM_CCFG n r.slot) 20 = false) (h21 : s.flag (Adr.TRIM_CCFG n r.slot) 21 = false)
  (hsp : ∀ j : Fin 4, bit (s.sptgt (8 * n + r.slot) j) 31 = false)
include h20 h21 hsp

/-- Without PWM units and targets the commit is the publication and DONE. -/
theorem State.committed_eq : s.committed n e r =
    ((s.ended n e r).publishWords n r.counted).raise (Pg.TRIM n) r.slot := by
  have hwords : State.RegsOn (SteadyReg n) s ((s.ended n e r).publishWords n r.counted) :=
    (State.ended_steady e).trans (.of_regs ((State.publishWords_within ..).same .regs rfl))
  unfold State.committed State.commitRun
  rw [State.commitWords_noUnit (r := r.counted) ((State.ended_flag_ccfg e hr 20).trans h20) ((State.ended_flag_ccfg e hr 21).trans h21),
    State.commitTargets_none (r := r.counted) fun j => (congrArg (bit · 31) (State.sptgt_steady hwords hr j.isLt)).trans (hsp j)]
  rfl

theorem State.committed_regsOn : State.RegsOn (· ∉ endRegs n r.slot ++ [Adr.PEVT (Pg.TRIM n)]) s (s.committed n e r) := by
  rw [State.committed_eq e hr h20 h21 hsp]
  exact (((s.ended_regsOn n r e).mono fun a ha hin => ha (List.mem_append_left _ hin)).trans
    (.of_regs ((State.publishWords_within ..).same .regs rfl))).trans (State.raise_regsOn _ (by simp) _)

theorem State.committed_mem : (s.committed n e r).mem = s.mem := by
  rw [State.committed_eq e hr h20 h21 hsp, State.raise_mem, (State.publishWords_within ..).same .mem rfl, (State.ended_within ..).same .mem rfl]

theorem State.committed_published (hon : s.pageOn (Pg.TRIM n) = true) : s.Published n r (s.committed n e r) := by
  have hpwr : ((s.ended n e r).publishWords n r.counted).pwr = s.pwr :=
    ((State.publishWords_within ..).same .pwr rfl).trans ((State.ended_within ..).same .pwr rfl)
  have hregs : ((s.ended n e r).publishWords n r.counted).regs = (s.ended n e r).regs := (State.publishWords_within ..).same .regs rfl
  have hpage : ((s.ended n e r).publishWords n r.counted).pageOn (Pg.TRIM n) = true :=
    (State.pageOn_steady ((State.ended_steady e).trans (.of_regs hregs)) hpwr _).trans hon
  have hne : Adr.TRIM_CSTAT n r.slot ≠ Adr.PEVT (Pg.TRIM n) := by unfold Adr.TRIM_CSTAT Adr.PEVT Pg.TRIM; omega
  rw [State.committed_eq e hr h20 h21 hsp]
  refine ⟨(s.ended_runEnded n r e hr).past ?_ ?_, fun j hj => ?_, fun k hk => ?_, State.raise_flag _ _ _ hpage (by omega), ?_⟩
  · rw [State.raise_engines, (State.publishWords_within ..).same .engines rfl]
  · rw [State.raise_reg_ne _ _ _ hne]
    unfold State.reg
    rw [hregs]
  · rw [State.word_congr (State.raise_samples ..)]
    exact State.publishWords_written _ _ _ j hj
  · rw [State.word_congr (State.raise_samples ..), State.publishWords_other _ _ r.counted hk]
    exact State.word_congr ((State.ended_within ..).same .samples rfl) k
  · rw [State.raise_pwms, (State.publishWords_within ..).same .pwms rfl, (State.ended_within ..).same .pwms rfl]

end

/-! ### Commits to PWM units (R178) -/

/-- The commit of a context with one PWM unit completes a set of that unit and no other (R178). -/
theorem State.committed_pwms (h20 : s.flag (Adr.TRIM_CCFG n r.slot) 20 = true) (h21 : s.flag (Adr.TRIM_CCFG n r.slot) 21 = false)
    (hw : (r.written.any fun k => decide (k < 8)) = true) (hsp : ∀ j : Fin 4, bit (s.sptgt (8 * n + r.slot) j) 31 = false) :
    (s.committed n e r).pwms =
      (s.commitSet (s.fld (Adr.TRIM_CCFG n r.slot) 15 12) (s.setOf r (s.fld (Adr.TRIM_CCFG n r.slot) 15 12))).pwms := by
  have hunit : (s.ended n e r).fld (Adr.TRIM_CCFG n r.slot) 15 12 = s.fld (Adr.TRIM_CCFG n r.slot) 15 12 :=
    congrArg (bits · 15 12) (State.ccfg_steady (State.ended_steady e) hr)
  have hpwms : (s.ended n e r).pwms = s.pwms := (State.ended_within ..).same .pwms rfl
  have hset (u : Nat) : (s.ended n e r).setOf r.counted u = s.setOf r u := by
    unfold State.setOf
    rw [State.pwm_congr hpwms]
    rfl
  have hwords : State.RegsOn (SteadyReg n) s ((s.ended n e r).commitWords n r.counted) :=
    (State.ended_steady e).trans (.of_regs ((State.commitWords_within ..).same .regs rfl))
  unfold State.committed State.commitRun
  rw [State.raise_pwms,
    State.commitTargets_none (r := r.counted) fun j => (congrArg (bit · 31) (State.sptgt_steady hwords hr j.isLt)).trans (hsp j),
    State.commitWords_unit (r := r.counted) ((State.ended_flag_ccfg e hr 20).trans h20) ((State.ended_flag_ccfg e hr 21).trans h21) hw,
    (State.publishWords_within ..).same .pwms rfl, TrimRun.counted_slot, hunit, hset]
  exact State.commitSet_congr hpwms ((State.ended_within ..).same .pwr rfl) _ _

/-! ### The set-point target of a commit (R178) -/

theorem State.committed_target {m : Fin 4} {x : Fin 8} {k : Fin 3} (h20 : s.flag (Adr.TRIM_CCFG n r.slot) 20 = false)
    (h21 : s.flag (Adr.TRIM_CCFG n r.slot) 21 = false) (hon : s.pageOn (Pg.TRIM m) = true) (h0 : bit (s.sptgt (8 * n + r.slot) 0) 31 = true)
    (ha : bits (s.sptgt (8 * n + r.slot) 0) 20 2 * 4 = Adr.TRIM_SETP0 m x + 4 * (k.val + 1)) (hw : 0x10 ∈ r.written)
    (hsp : ∀ j : Fin 3, bit (s.sptgt (8 * n + r.slot) (j + 1)) 31 = false) : s.committed n e r =
      (((s.ended n e r).publishWords n r.counted).setReg (Adr.TRIM_SETP0 m x + 4 * (k.val + 1)) (Store.get (fun _ => 0#32) r.staged 0x10)).raise
        (Pg.TRIM n) r.slot := by
  have hwords : State.RegsOn (SteadyReg n) s ((s.ended n e r).publishWords n r.counted) :=
    (State.ended_steady e).trans (.of_regs ((State.publishWords_within ..).same .regs rfl))
  have hpwr : ((s.ended n e r).publishWords n r.counted).pwr = s.pwr :=
    ((State.publishWords_within ..).same .pwr rfl).trans ((State.ended_within ..).same .pwr rfl)
  have hgoal (j : Nat) (hj : j < 4) : ((s.ended n e r).publishWords n r.counted).sptgt (8 * n + r.counted.slot) j = s.sptgt (8 * n + r.slot) j :=
    State.sptgt_steady hwords hr hj
  unfold State.committed State.commitRun
  rw [State.commitWords_noUnit (r := r.counted) ((State.ended_flag_ccfg e hr 20).trans h20) ((State.ended_flag_ccfg e hr 21).trans h21),
    State.commitTargets_first (r := r.counted) (by rw [hgoal 0 (by decide), h0]) hw (fun j => by rw [hgoal _ (by omega), hsp]), hgoal 0 (by decide), ha,
    State.targetWrite_setp m x k _ ((State.pageOn_steady hwords hpwr _).trans hon)]
  rfl

end

/-! ### The commands of the END variants -/

section
variable {s : State} {n : Fin 4} {r : TrimRun} {w : Word} {e : Ecc} (he : e ≠ .uncorrectable) (hs : s.Stands n r w 0)
include he hs

theorem exec_trEnd (hv : bits w 1 0 = 0) : exec (.trEnd n e) s = .next ((s.committed n e r).ctxReport n r.slot .ok).settle :=
  congrArg done (State.isaEnd_ends hs hv he _)

theorem exec_trEndn (hv : bits w 1 0 = 1) : exec (.trEndn n e) s = .next ((s.ended n e r).ctxReport n r.slot .ok).settle :=
  congrArg done (State.isaEnd_ends hs hv he _)

theorem exec_trEndt (hv : bits w 1 0 = 2) : exec (.trEndt n e) s =
    .next (((s.committed n e r).setFlag (Adr.TRIM_CFLAG n r.slot) 7 true).ctxReport n r.slot .trip).settle :=
  congrArg done (State.isaEnd_ends hs hv he _)

theorem trimEnd_publishes (v : Nat) (c : Instr) (hvc : v = 0 ∧ c = .trEnd n e ∨ v = 2 ∧ c = .trEndt n e) (hv : bits w 1 0 = v)
    (h20 : s.flag (Adr.TRIM_CCFG n r.slot) 20 = false) (h21 : s.flag (Adr.TRIM_CCFG n r.slot) 21 = false)
    (hsp : ∀ j : Fin 4, bit (s.sptgt (8 * n + r.slot) j) 31 = false) (hon : s.pageOn (Pg.TRIM n) = true) :
    ∃ t, exec c s = .next t ∧ s.Published n r t
      ∧ (v = 2 → t.flag (Adr.TRIM_CFLAG n r.slot) 7 = true ∧ (s.ctxSafe n r.slot = true → bit t.shroud.trips (8 * n + r.slot) = true))
      ∧ s.KeepsBut ([Adr.TRIM_CSTAT n r.slot, Adr.TRIM_ESTAT n, Adr.TRIM_ECCCNT n, Adr.TSCH_LAT (8 * n + r.slot), Adr.PEVT (Pg.TRIM n)]
          ++ if v = 2 then [Adr.TRIM_CFLAG n r.slot] else []) t := by
  obtain ⟨-, hr, -⟩ := id hs
  have hpub := State.committed_published e hr h20 h21 hsp hon
  have hregs := State.committed_regsOn e hr h20 h21 hsp
  have hmem := State.committed_mem e hr h20 h21 hsp
  rcases hvc with ⟨rfl, rfl⟩ | ⟨rfl, rfl⟩
  case inl =>
    have hrep : (s.committed n e r).WithinM 32770 ((s.committed n e r).ctxReport n r.slot .ok) := (State.ctxReport_within ..).step rfl (.refl ..)
    refine ⟨_, exec_trEnd he hs hv, hpub.settle hr (State.ctxReport_regsOn ..) hrep, fun h => absurd h (by decide), ?_⟩
    rw [if_neg (by decide), List.append_nil]
    exact (hregs.trans (State.ctxReport_regsOn ..)).keepsBut ((hrep.same .mem rfl).trans hmem)
  case inr =>
    let u := (s.committed n e r).setFlag (Adr.TRIM_CFLAG n r.slot) 7 true
    have hrep : (s.committed n e r).WithinM 32770 (u.ctxReport n r.slot .trip) :=
      (State.ctxReport_within ..).step rfl ((State.setFlag_within ..).step rfl (.refl ..))
    have hflag : State.RegsOn (· ∉ [Adr.TRIM_CFLAG n r.slot]) (s.committed n e r) u := State.setFlag_regsOn _ (by simp) 7 true
    have hall : State.RegsOn (fun _ => True) u (u.ctxReport n r.slot .trip) := State.ctxReport_regsOn ..
    refine ⟨_, exec_trEndt he hs hv, hpub.settle hr (hflag.trans (State.ctxReport_regsOn ..)) hrep, fun _ => ⟨?_, fun hsafe => ?_⟩, ?_⟩
    · rw [State.settle_flag _ (irqReg_cflag n hr), hall.flag trivial, State.flag_eq, State.reg_setFlag, if_pos rfl]
      exact bit_setBit_self _ _ (by decide)
    · rw [State.settle_shroud]
      refine State.ctxReport_trip ?_ (by omega)
      have hsteady : State.RegsOn (· = Adr.TRIM_CCFG n r.slot) s u := by
        refine (hregs.mono fun a ha => ?_).trans (State.setFlag_regsOn _ ?_ 7 true)
        · subst ha
          simp only [endRegs, List.mem_append, List.mem_cons, List.not_mem_nil, or_false, not_or, Adr.TRIM_CCFG, Adr.TRIM_CSTAT, Adr.TRIM_ESTAT,
            Adr.TRIM_ECCCNT, Adr.TSCH_LAT, Adr.PEVT, Pg.TRIM]
          omega
        · unfold Adr.TRIM_CCFG Adr.TRIM_CFLAG
          omega
      exact (hsteady.flag rfl 23).trans hsafe
    · rw [if_pos rfl]
      refine (((hregs.mono fun a ha hin => ha (List.mem_append_left _ hin)).trans (hflag.mono fun a ha hin => ha (List.mem_append_right _ hin))).trans
        (State.ctxReport_regsOn ..)).keepsBut ((hrep.same .mem rfl).trans hmem)

theorem trEnd_commitsSet (hv : bits w 1 0 = 0) (h20 : s.flag (Adr.TRIM_CCFG n r.slot) 20 = true) (h21 : s.flag (Adr.TRIM_CCFG n r.slot) 21 = false)
    (hw : (r.written.any fun k => decide (k < 8)) = true) (hsp : ∀ j : Fin 4, bit (s.sptgt (8 * n + r.slot) j) 31 = false) :
    ∃ t, exec (.trEnd n e) s = .next t
      ∧ (t.pwm (s.fld (Adr.TRIM_CCFG n r.slot) 15 12)).sets = (s.now, (List.range 8).map fun k => if r.written.contains k then
          Store.get (fun _ => 0#32) r.staged k else nthD 0#32 (s.pwm (s.fld (Adr.TRIM_CCFG n r.slot) 15 12)).last k)
            :: (s.pwm (s.fld (Adr.TRIM_CCFG n r.slot) 15 12)).sets
      ∧ ∀ u, u ≠ s.fld (Adr.TRIM_CCFG n r.slot) 15 12 → t.pwm u = s.pwm u := by
  obtain ⟨-, hr, -⟩ := id hs
  have hpwms := ((State.settle_pwms _).trans ((State.ctxReport_within (s.committed n e r) n r.slot .ok).same .pwms rfl)).trans
    (State.committed_pwms e hr h20 h21 hw hsp)
  refine ⟨_, exec_trEnd he hs hv, ?_, fun u hu => ?_⟩
  · rw [State.pwm_congr hpwms, State.commitSet_pwm, if_pos rfl]
    rfl
  · rw [State.pwm_congr hpwms, State.commitSet_pwm, if_neg hu]

theorem trEnd_writesTarget (m : Fin 4) (x : Fin 8) (k : Fin 3) (a : Nat) (ha : a = Adr.TRIM_SETP0 m x + 4 * (k.val + 1)) (hv : bits w 1 0 = 0)
    (h20 : s.flag (Adr.TRIM_CCFG n r.slot) 20 = false) (h21 : s.flag (Adr.TRIM_CCFG n r.slot) 21 = false) (hon : s.pageOn (Pg.TRIM m) = true)
    (h0 : bit (s.sptgt (8 * n + r.slot) 0) 31 = true) (htgt : bits (s.sptgt (8 * n + r.slot) 0) 20 2 * 4 = a) (hw : 0x10 ∈ r.written)
    (hsp : ∀ j : Fin 3, bit (s.sptgt (8 * n + r.slot) (j + 1)) 31 = false) : ∃ t, exec (.trEnd n e) s = .next t
      ∧ t.reg a = Store.get (fun _ => 0#32) r.staged 0x10
      ∧ s.KeepsBut [a, Adr.TRIM_CSTAT n r.slot, Adr.TRIM_ESTAT n, Adr.TRIM_ECCCNT n, Adr.TSCH_LAT (8 * n + r.slot), Adr.PEVT (Pg.TRIM n)] t := by
  obtain ⟨-, hr, -⟩ := id hs
  subst ha
  have hirq : irqReg (Adr.TRIM_SETP0 m x + 4 * (k.val + 1)) = false := irqReg_eq_false (by unfold Adr.TRIM_SETP0; omega)
  have hne : Adr.TRIM_SETP0 m x + 4 * (k.val + 1) ≠ Adr.PEVT (Pg.TRIM n) := by unfold Adr.TRIM_SETP0 Adr.PEVT Pg.TRIM; omega
  have hall : State.RegsOn (fun _ => True) (s.committed n e r) ((s.committed n e r).ctxReport n r.slot .ok) := State.ctxReport_regsOn ..
  have heq := State.committed_target e hr h20 h21 hon h0 htgt hw hsp
  refine ⟨_, exec_trEnd he hs hv, ?_, State.RegsOn.keepsBut (.trans ?_ (State.ctxReport_regsOn ..)) ?_⟩
  · rw [State.settle_reg _ hirq, hall.same _ trivial, heq, State.raise_reg_ne _ _ _ hne, State.reg_setReg_self]
  · rw [heq]
    exact ((((s.ended_regsOn n r e).mono fun _ ha hin => ha (List.mem_cons_of_mem _ (List.mem_append_left [Adr.PEVT (Pg.TRIM n)] hin))).trans
      (.of_regs ((State.publishWords_within ..).same .regs rfl))).trans (State.setReg_regsOn _ (by simp) _)).trans (State.raise_regsOn _ (by simp) _)
  · rw [(State.ctxReport_within ..).same .mem rfl, heq, State.raise_mem, State.setReg_mem, (State.publishWords_within ..).same .mem rfl,
      (State.ended_within ..).same .mem rfl]

theorem trEndn_publishesNothing (hv : bits w 1 0 = 1) : ∃ t, exec (.trEndn n e) s = .next t ∧ (t.engine n).run = none
    ∧ t.fld (Adr.TRIM_CSTAT n r.slot) 13 0 = min (r.cyc + 1) 16383 ∧ t.samples = s.samples ∧ t.pwms = s.pwms
    ∧ s.KeepsBut [Adr.TRIM_CSTAT n r.slot, Adr.TRIM_ESTAT n, Adr.TRIM_ECCCNT n, Adr.TSCH_LAT (8 * n + r.slot)] t := by
  obtain ⟨-, hr, -⟩ := id hs
  have hall : State.RegsOn (fun _ => True) (s.ended n e r) ((s.ended n e r).ctxReport n r.slot .ok) := State.ctxReport_regsOn ..
  have hend : s.WithinM 229378 ((s.ended n e r).ctxReport n r.slot .ok) :=
    (State.ctxReport_within ..).step rfl ((State.ended_within ..).step rfl (.refl ..))
  obtain ⟨hidle, -, hcycles⟩ := (s.ended_runEnded n r e hr).past (u := ((s.ended n e r).ctxReport n r.slot .ok).settle)
    ((State.settle_engines _).trans ((State.ctxReport_within ..).same .engines rfl))
    ((State.settle_reg _ (irqReg_cstat n hr)).trans (hall.same _ trivial))
  exact ⟨_, exec_trEndn he hs hv, hidle, hcycles, (State.settle_samples _).trans (hend.same .samples rfl),
    (State.settle_pwms _).trans (hend.same .pwms rfl), ((s.ended_regsOn n r e).trans (State.ctxReport_regsOn ..)).keepsBut (hend.same .mem rfl)⟩

end

end Sys2Proof.Machine
end

section
/-! SUPPORT. The cut of a run by the budget unit (R112, R113) and the start of a run (R168, R181, R184, R195); and the settling of the statement on runs of
the trim. -/

namespace Sys2Proof.Machine

/-! ### The cut (R112, R113) -/

section
variable (s : State) (n : Fin 4) (r : TrimRun) (mis : Bool)

/-- Run r of engine n cut at its budget: TRIMOVR, and the event of its slot. -/
def State.cutRun (n : Nat) : State := ((s.runOver n r).setFlag Adr.TBU_TRIMOVR (8 * n + r.slot) true).raise (Pg.TRIM n) (8 + r.slot)

/-- The events of the budget unit for a cut: 3 for a safety-marked context, 2 for any other, and 6 where its two counters disagree. -/
def State.cutEvents (safe : Bool) : State := (s.raise Pg.TBU (if safe then 3 else 2)).when mis fun u => u.raise Pg.TBU 6

theorem State.budgetCut_eq {s : State} {n : Fin 4} {r : TrimRun} {mis : Bool} (hrun : (s.engine n).run = some r)
    (hcut : mis = true ∨ s.fld (Adr.TRIM_CBUDGET n r.slot) 13 0 ≤ r.cyc) :
    s.budgetCut n mis = ((s.cutRun r n).cutEvents mis (s.ctxSafe n r.slot)).ctxReport n r.slot .overrun := by
  unfold State.budgetCut
  rw [hrun]
  exact if_pos (by simpa using hcut)

theorem State.budgetCut_below {s : State} {n : Fin 4} {r : TrimRun} (hrun : (s.engine n).run = some r)
    (h : r.cyc < s.fld (Adr.TRIM_CBUDGET n r.slot) 13 0) : s.budgetCut n false = s := by
  unfold State.budgetCut
  rw [hrun]
  exact if_neg (by simpa using h)

theorem State.cutEvents_within (safe : Bool) : s.WithinM 2050 (s.cutEvents mis safe) :=
  State.when_within (fun t => State.raise_within t Pg.TBU 6) (State.raise_within ..)

theorem State.cutEvents_regsOn {P : Nat → Prop} (h : ¬ P (Adr.PEVT Pg.TBU)) (safe : Bool) : State.RegsOn P s (s.cutEvents mis safe) :=
  (s.raise_regsOn h _).trans (State.when_regsOn _ (fun t => t.raise_regsOn h 6) mis)

theorem State.cutEvents_mono (safe : Bool) {q j : Nat} (h : s.flag (Adr.PEVT q) j = true) : (s.cutEvents mis safe).flag (Adr.PEVT q) j = true := by
  unfold State.cutEvents State.when
  split
  · exact State.raise_flag_mono _ _ _ (State.raise_flag_mono _ _ _ h)
  · exact State.raise_flag_mono _ _ _ h

theorem State.cutEvents_raised (safe : Bool) (hon : s.pageOn Pg.TBU = true) :
    (s.cutEvents mis safe).flag (Adr.PEVT Pg.TBU) (if safe then 3 else 2) = true
      ∧ (mis = true → (s.cutEvents mis safe).flag (Adr.PEVT Pg.TBU) 6 = true) := by
  have hset : (s.raise Pg.TBU (if safe then 3 else 2)).flag (Adr.PEVT Pg.TBU) (if safe then 3 else 2) = true :=
    s.raise_flag _ _ hon (by split <;> decide)
  have hpage : (s.raise Pg.TBU (if safe then 3 else 2)).pageOn Pg.TBU = true :=
    ((s.raise_regsOn (P := (· ≠ Adr.PEVT Pg.TBU)) (by simp) _).pageOn (by decide) (State.raise_pwr ..) _).trans hon
  unfold State.cutEvents State.when
  cases mis
  · exact ⟨hset, fun h => absurd h (by decide)⟩
  · exact ⟨State.raise_flag_mono _ _ _ hset, fun _ => State.raise_flag _ _ _ hpage (by decide)⟩

/-- The registers that the cut of a run of slot i writes, before the events of the budget unit. -/
abbrev cutRegs (n i : Nat) : List Nat :=
  [Adr.TRIM_CSTAT n i, Adr.TRIM_ESTAT n, Adr.TSCH_LAT (8 * n + i), Adr.TBU_TRIMOVR, Adr.PEVT (Pg.TRIM n)]

theorem State.cutRun_regsOn : State.RegsOn (· ∉ cutRegs n r.slot) s (s.cutRun r n) :=
  ((s.runOver_regsOn n r (by simp) (by simp) (by simp)).trans (State.setFlag_regsOn _ (by simp) _ true)).trans (State.raise_regsOn _ (by simp) _)

theorem State.cutRun_within : s.WithinM 198658 (s.cutRun r n) :=
  (State.raise_within ..).step rfl ((State.setFlag_within ..).step rfl ((State.runOver_within ..).step rfl (.refl ..)))

theorem State.cutRun_idle : ((s.cutRun r n).engine n).run = none := by
  unfold State.cutRun
  rw [State.engine_congr (State.raise_engines ..), State.engine_congr (State.setFlag_engines ..), State.runOver_idle]

theorem State.cutRun_overrun (hr : r.slot < 8) : (s.cutRun r n).flag Adr.TBU_TRIMOVR (8 * n + r.slot) = true := by
  have hne : Adr.TBU_TRIMOVR ≠ Adr.PEVT (Pg.TRIM n) := by unfold Adr.TBU_TRIMOVR Adr.PEVT Pg.TRIM; omega
  unfold State.cutRun
  rw [State.flag_eq, State.raise_reg_ne _ _ _ hne, State.reg_setFlag, if_pos rfl]
  exact bit_setBit_self _ _ (by omega)

theorem State.cutRun_raised (hr : r.slot < 8) (hon : s.pageOn (Pg.TRIM n) = true) :
    (s.cutRun r n).flag (Adr.PEVT (Pg.TRIM n)) (8 + r.slot) = true := by
  have hregs : State.RegsOn (· = Adr.SYS_PDSTAT) s ((s.runOver n r).setFlag Adr.TBU_TRIMOVR (8 * n + r.slot) true) := by
    refine (s.runOver_regsOn n r ?_ ?_ ?_).trans (State.setFlag_regsOn _ (by decide) _ true)
    · unfold Adr.TRIM_CSTAT Adr.SYS_PDSTAT; omega
    · unfold Adr.TRIM_ESTAT Adr.SYS_PDSTAT; omega
    · unfold Adr.TSCH_LAT Adr.SYS_PDSTAT; omega
  have hpwr : ((s.runOver n r).setFlag Adr.TBU_TRIMOVR (8 * n + r.slot) true).pwr = s.pwr :=
    ((State.setFlag_within ..).step rfl (State.runOver_within ..)).same .pwr rfl
  exact State.raise_flag _ _ _ ((hregs.pageOn rfl hpwr _).trans hon) (by omega)

theorem State.cutRun_pageOn (p : Nat) : (s.cutRun r n).pageOn p = s.pageOn p := by
  refine (s.cutRun_regsOn n r).pageOn ?_ ((s.cutRun_within n r).same .pwr rfl) p
  simp only [cutRegs, List.mem_cons, List.not_mem_nil, or_false, not_or, Adr.SYS_PDSTAT, Adr.TRIM_CSTAT, Adr.TRIM_ESTAT, Adr.TSCH_LAT, Adr.TBU_TRIMOVR,
    Adr.PEVT, Pg.TRIM]
  omega

theorem trimBudgetCut_cuts (hrun : (s.engine n).run = some r) (hr : r.slot < 8) (hon : s.pageOn (Pg.TRIM n) = true) (htbu : s.pageOn Pg.TBU = true)
    (hcut : mis = true ∨ s.fld (Adr.TRIM_CBUDGET n r.slot) 13 0 ≤ r.cyc) :
    ∃ t, exec (.trimBudgetCut n mis) s = .next t ∧ (t.engine n).run = none
      ∧ t.flag Adr.TBU_TRIMOVR (8 * n + r.slot) = true ∧ t.flag (Adr.PEVT (Pg.TRIM n)) (8 + r.slot) = true
      ∧ t.flag (Adr.PEVT Pg.TBU) (if s.ctxSafe n r.slot then 3 else 2) = true ∧ (mis = true → t.flag (Adr.PEVT Pg.TBU) 6 = true)
      ∧ t.samples = s.samples ∧ t.pwms = s.pwms ∧ s.KeepsBut [Adr.TRIM_CSTAT n r.slot, Adr.TRIM_ESTAT n, Adr.TSCH_LAT (8 * n + r.slot),
          Adr.TBU_TRIMOVR, Adr.PEVT (Pg.TRIM n), Adr.PEVT Pg.TBU] t := by
  let u := (s.cutRun r n).cutEvents mis (s.ctxSafe n r.slot)
  have hu : s.WithinM 198658 u := (State.cutEvents_within ..).step rfl (s.cutRun_within n r)
  have hrep : s.WithinM 231426 (u.ctxReport n r.slot .overrun) := (State.ctxReport_within ..).step rfl (hu.step rfl (.refl ..))
  have hall : State.RegsOn (fun _ => True) u (u.ctxReport n r.slot .overrun) := State.ctxReport_regsOn ..
  have hflag {a i : Nat} (hirq : irqReg a = false) (h : u.flag a i = true) : (u.ctxReport n r.slot .overrun).settle.flag a i = true :=
    (State.settle_flag _ hirq i).trans ((hall.flag trivial i).trans h)
  obtain ⟨hcause, hmis⟩ := (s.cutRun r n).cutEvents_raised mis (s.ctxSafe n r.slot) ((s.cutRun_pageOn n r Pg.TBU).trans htbu)
  have hexec : exec (.trimBudgetCut n mis) s = .next (u.ctxReport n r.slot .overrun).settle := congrArg done (State.budgetCut_eq hrun hcut)
  refine ⟨_, hexec, ?_, hflag (by decide) ?_, hflag (irqReg_pevt _) ?_, hflag (irqReg_pevt _) hcause, fun h => hflag (irqReg_pevt _) (hmis h),
    (State.settle_samples _).trans (hrep.same .samples rfl), (State.settle_pwms _).trans (hrep.same .pwms rfl),
    State.RegsOn.keepsBut (.trans ?_ (State.ctxReport_regsOn ..)) (hrep.same .mem rfl)⟩
  · rw [State.engine_congr (State.settle_engines _), State.engine_congr ((State.ctxReport_within ..).same .engines rfl),
      State.engine_congr ((State.cutEvents_within ..).same .engines rfl), State.cutRun_idle]
  · exact ((State.cutEvents_regsOn (P := (· = Adr.TBU_TRIMOVR)) _ _ (by decide) _).flag rfl _).trans (s.cutRun_overrun n r hr)
  · exact State.cutEvents_mono _ _ _ (s.cutRun_raised n r hr hon)
  · exact ((s.cutRun_regsOn n r).mono fun _ ha hin => ha (List.mem_append_left [Adr.PEVT Pg.TBU] hin)).trans (State.cutEvents_regsOn _ _ (by simp) _)

theorem trimBudgetCut_passes (hrun : (s.engine n).run = some r) (h : r.cyc < s.fld (Adr.TRIM_CBUDGET n r.slot) 13 0) :
    ∃ t, exec (.trimBudgetCut n false) s = .next t ∧ t.engines = s.engines ∧ s.KeepsBut [] t := by
  have hexec : exec (.trimBudgetCut n false) s = .next s.settle := congrArg done (State.budgetCut_below hrun h)
  exact ⟨_, hexec, s.settle_engines, State.RegsOn.refl.keepsBut rfl⟩

end

/-! ### ESTAT (R195) -/

section
variable (s : State) (n : Nat)

theorem State.estat_shows {r : TrimRun} (h : (s.engine n).run = some r) (hr : r.slot < 8) : (s.estat n).fld (Adr.TRIM_ESTAT n) 7 0 = 8 + r.slot
    ∧ ∀ j < 8, (s.estat n).flag (Adr.TRIM_ESTAT n) (8 + j) = s.ctxPend n j := by
  have hlt := maskOf_lt 8 fun i => s.ctxPend n i
  have hreg : (s.estat n).reg (Adr.TRIM_ESTAT n) = w32 (maskOf 8 (fun i => s.ctxPend n i) * 256 + (8 + r.slot)) := by
    unfold State.estat
    rw [h]
    exact State.reg_setReg_self ..
  refine ⟨?_, fun j hj => ?_⟩
  · rw [State.fld_eq, hreg]
    unfold bits w32
    rw [BitVec.toNat_ofNat]
    omega
  · have hdiv : (maskOf 8 (fun i => s.ctxPend n i) * 256 + (8 + r.slot)) / 2 ^ 8 = maskOf 8 fun i => s.ctxPend n i := by omega
    rw [State.flag_eq, hreg, w32, bit_ofNat, decide_eq_true (by omega), Bool.true_and, Nat.add_comm 8 j, ← Nat.testBit_div_two_pow, hdiv, maskOf_testBit,
      decide_eq_true hj, Bool.true_and]

end

/-! ### The start of a run (R168, R181, R184) -/

section
variable (s : State) (n : Fin 4) (i : Fin 8)

/-- The run that begins in slot i of engine n: its registers cleared, its set-points latched. -/
def State.firstRun (n i : Nat) : TrimRun :=
  { slot := i, pc := s.fld (Adr.TRIM_CPROG n i) 11 0, cyc := 0, d := [], a0 := 0, a1 := 0, staged := [], written := [],
    setp := (List.range 4).map fun j => s.reg (Adr.TRIM_SETP0 n i + 4 * j), trigTime := (s.ctx (8 * n + i)).pendTime, inv := false, relayed := false }

/-- CSTAT, the bank and the latency as the start of a run leaves them. -/
def State.startShown (n i : Nat) : State :=
  (((s.setFlag (Adr.TRIM_CSTAT n i) Cstat.pend false).setFlag (Adr.TRIM_CSTAT n i) Cstat.run true).setFlag
    (Adr.TRIM_CBSEL n i) 8 (s.flag (Adr.TRIM_CBSEL n i) 0)).setReg (Adr.TSCH_LAT (8 * n + i))
    (setBits (s.reg (Adr.TSCH_LAT (8 * n + i))) 15 0
      (max (bits (s.reg (Adr.TSCH_LAT (8 * n + i))) 15 0) (min (s.latency (s.ctx (8 * n + i)).pendTime) 65535)))

/-- The run started with its ramp at the set-point, before ESTAT shows it. -/
def State.started (n i : Nat) : State :=
  ((s.startShown n i).putEngine n { s.engine n with run := some (s.firstRun n i) }).setReg (Adr.TRIM_CRAMP n i) (s.reg (Adr.TRIM_SETP0 n i))

theorem State.rampStep_plain {s : State} {n i : Nat} (h : s.flag (Adr.TRIM_RAMPCFG n i) 31 = false) (goal : Word) :
    s.rampStep n i goal = s.setReg (Adr.TRIM_CRAMP n i) goal := if_pos (by rw [h]; rfl)

theorem State.tuneCheck_untuned {s : State} {n : Nat} (h : (s.engine n).tuner = none) (i : Nat) : s.tuneCheck n i = s := by
  unfold State.tuneCheck
  rw [h]

theorem State.startShown_regsOn {P : Nat → Prop} (hC : ¬ P (Adr.TRIM_CSTAT n i)) (hB : ¬ P (Adr.TRIM_CBSEL n i))
    (hL : ¬ P (Adr.TSCH_LAT (8 * n + i))) : State.RegsOn P s (s.startShown n i) :=
  (((s.setFlag_regsOn hC _ false).trans (State.setFlag_regsOn _ hC _ true)).trans (State.setFlag_regsOn _ hB 8 _)).trans
    (State.setReg_regsOn _ hL _)

theorem State.started_regsOn {P : Nat → Prop} (hC : ¬ P (Adr.TRIM_CSTAT n i)) (hB : ¬ P (Adr.TRIM_CBSEL n i))
    (hL : ¬ P (Adr.TSCH_LAT (8 * n + i))) (hR : ¬ P (Adr.TRIM_CRAMP n i)) : State.RegsOn P s (s.started n i) := by
  have hengine (u : State) (x : Engine) : State.RegsOn P u (u.putEngine n x) := .of_regs rfl
  exact ((s.startShown_regsOn n i hC hB hL).trans (hengine ..)).trans (State.setReg_regsOn _ hR _)

theorem State.started_engine : (s.started n i).engine n = { s.engine n with run := some (s.firstRun n i) } := by
  unfold State.started
  rw [State.engine_congr (State.setReg_engines ..), State.engine_putEngine_self]

theorem State.started_cstat : (s.started n i).reg (Adr.TRIM_CSTAT n i) =
    setBit (setBit (s.reg (Adr.TRIM_CSTAT n i)) Cstat.pend false) Cstat.run true := by
  have hR : Adr.TRIM_CSTAT n i ≠ Adr.TRIM_CRAMP n i := by unfold Adr.TRIM_CSTAT Adr.TRIM_CRAMP; omega
  have hL : Adr.TRIM_CSTAT n i ≠ Adr.TSCH_LAT (8 * n + i) := by unfold Adr.TRIM_CSTAT Adr.TSCH_LAT; omega
  have hB : Adr.TRIM_CSTAT n i ≠ Adr.TRIM_CBSEL n i := by unfold Adr.TRIM_CSTAT Adr.TRIM_CBSEL; omega
  unfold State.started State.startShown
  rw [State.reg_setReg_ne _ _ hR, State.putEngine_reg, State.reg_setReg_ne _ _ hL, State.reg_setFlag, if_neg hB, State.reg_setFlag, if_pos rfl,
    State.reg_setFlag, if_pos rfl]

theorem State.started_cbsel : (s.started n i).reg (Adr.TRIM_CBSEL n i) = setBit (s.reg (Adr.TRIM_CBSEL n i)) 8 (s.flag (Adr.TRIM_CBSEL n i) 0) := by
  have hR : Adr.TRIM_CBSEL n i ≠ Adr.TRIM_CRAMP n i := by unfold Adr.TRIM_CBSEL Adr.TRIM_CRAMP; omega
  have hL : Adr.TRIM_CBSEL n i ≠ Adr.TSCH_LAT (8 * n + i) := by unfold Adr.TRIM_CBSEL Adr.TSCH_LAT; omega
  have hC : Adr.TRIM_CBSEL n i ≠ Adr.TRIM_CSTAT n i := by unfold Adr.TRIM_CBSEL Adr.TRIM_CSTAT; omega
  unfold State.started State.startShown
  rw [State.reg_setReg_ne _ _ hR, State.putEngine_reg, State.reg_setReg_ne _ _ hL, State.reg_setFlag, if_pos rfl, State.reg_setFlag, if_neg hC,
    State.reg_setFlag, if_neg hC]

theorem State.started_within : s.WithinM 67586 (s.started n i) := by
  have hshown : s.WithinM 67586 (s.startShown n i) := (State.setReg_within ..).step rfl ((State.setFlag_within ..).step rfl
    ((State.setFlag_within ..).step rfl ((State.setFlag_within ..).step rfl (.refl ..))))
  exact (State.setReg_within ..).step rfl ((State.putEngine_within ..).step rfl hshown)

/-- The trigger of the slot is pending no more, that of every other slot as before. -/
theorem State.started_pending (j : Fin 8) : (s.started n i).ctxPend n j = (decide (j ≠ i) && s.ctxPend n j) := by
  unfold State.ctxPend State.flag
  by_cases hj : j = i
  case pos =>
    subst hj
    rw [s.started_cstat, bit_setBit_ne _ _ (by decide), bit_setBit_self _ _ (by decide)]
    simp
  case neg =>
    have hne := Fin.val_ne_of_ne hj
    have hkeeps : State.RegsOn (· = Adr.TRIM_CSTAT n j) s (s.started n i) := by
      refine s.started_regsOn n i ?_ ?_ ?_ ?_
      · unfold Adr.TRIM_CSTAT; omega
      · unfold Adr.TRIM_CSTAT Adr.TRIM_CBSEL; omega
      · unfold Adr.TRIM_CSTAT Adr.TSCH_LAT; omega
      · unfold Adr.TRIM_CSTAT Adr.TRIM_CRAMP; omega
    rw [hkeeps.same _ rfl]
    simp [hj]

/-- The run begun: ESTAT shows it, and a corrected ECC error is counted. -/
def State.begun (n i : Nat) (e : Ecc) : State := ((s.started n i).estat n).eccCount n e

theorem State.begun_within (e : Ecc) : s.WithinM 67586 (s.begun n i e) :=
  (State.eccCount_within ..).step rfl ((State.estat_within ..).step rfl (s.started_within n i))

theorem State.begun_run (e : Ecc) : ((s.begun n i e).engine n).run = some (s.firstRun n i) := by
  unfold State.begun
  rw [State.engine_congr ((State.eccCount_within ..).same .engines rfl), State.engine_congr ((State.estat_within ..).same .engines rfl),
    State.started_engine]

theorem State.begun_regsOn (e : Ecc) : State.RegsOn (fun a => a ≠ Adr.TRIM_ECCCNT n ∧ a ≠ Adr.TRIM_ESTAT n) (s.started n i) (s.begun n i e) :=
  (State.setReg_regsOn _ (by simp) _).trans (State.eccCount_regsOn _ n (by simp) e)

theorem State.begun_estat (e : Ecc) : (s.begun n i e).fld (Adr.TRIM_ESTAT n) 7 0 = 8 + i.val
    ∧ ∀ j : Fin 8, (s.begun n i e).flag (Adr.TRIM_ESTAT n) (8 + j) = (decide (j ≠ i) && s.ctxPend n j) := by
  have hecc : State.RegsOn (· = Adr.TRIM_ESTAT n) ((s.started n i).estat n) (s.begun n i e) :=
    State.eccCount_regsOn _ n (by unfold Adr.TRIM_ECCCNT Adr.TRIM_ESTAT; omega) e
  obtain ⟨hrun, hpending⟩ := (s.started n i).estat_shows n (congrArg Engine.run (s.started_engine n i)) i.isLt
  exact ⟨(hecc.fld rfl 7 0).trans hrun, fun j => (hecc.flag rfl _).trans ((hpending j j.isLt).trans (s.started_pending n i j))⟩

variable {s n i}

theorem State.runStart_eq (hidle : (s.engine n).run = none) (htuner : (s.engine n).tuner = none)
    (hlow : lowestBit (s.reg (Adr.TRIM_ESTAT n) >>> 8) 8 = some i.val) (hramp : s.flag (Adr.TRIM_RAMPCFG n i) 31 = false) :
    s.runStart n = (s.started n i).estat n := by
  have hkeeps : State.RegsOn (· = Adr.TRIM_RAMPCFG n i) s ((s.startShown n i).putEngine n { s.engine n with run := some (s.firstRun n i) }) := by
    refine (s.startShown_regsOn n i ?_ ?_ ?_).trans (.of_regs rfl)
    · unfold Adr.TRIM_CSTAT Adr.TRIM_RAMPCFG; omega
    · unfold Adr.TRIM_CBSEL Adr.TRIM_RAMPCFG; omega
    · unfold Adr.TSCH_LAT Adr.TRIM_RAMPCFG; omega
  have hstep : ((s.startShown n i).putEngine n { s.engine n with run := some (s.firstRun n i) }).rampStep n i (s.reg (Adr.TRIM_SETP0 n i)) =
      s.started n i := State.rampStep_plain ((hkeeps.flag rfl 31).trans hramp) _
  have huntuned : ((s.started n i).engine n).tuner = none := (congrArg Engine.tuner (s.started_engine n i)).trans htuner
  have hall : s.runStart n = ((((s.startShown n i).putEngine n { s.engine n with run := some (s.firstRun n i) }).rampStep n i
      (s.reg (Adr.TRIM_SETP0 n i))).tuneCheck n i).estat n := by
    unfold State.runStart
    rw [hidle, hlow]
    rfl
  rw [hall, hstep, State.tuneCheck_untuned huntuned]

section
variable {e : Ecc} (he : e ≠ .uncorrectable) (hon : s.pageOn (Pg.TRIM n) = true) (hidle : (s.engine n).run = none)
  (htuner : (s.engine n).tuner = none) (hlow : lowestBit (s.reg (Adr.TRIM_ESTAT n) >>> 8) 8 = some i.val)
  (hramp : s.flag (Adr.TRIM_RAMPCFG n i) 31 = false)
include he hon hidle htuner hlow hramp

theorem exec_trimRunStart : exec (.trimRunStart n e) s = .next (s.begun n i e).settle := by
  have hstart := State.runStart_eq hidle htuner hlow hramp
  have hrun : ((s.runStart n).engine n).run = some (s.firstRun n i) := by
    rw [hstart, State.engine_congr ((State.estat_within ..).same .engines rfl), State.started_engine]
  have hbegin : s.runBegin n e = s.begun n i e := by
    unfold State.runBegin
    rw [hidle, hrun]
    exact (if_neg he).trans (congrArg (·.eccCount n e) hstart)
  exact congrArg done ((s.onPage_on hon _).trans hbegin)

theorem trimRunStart_starts : ∃ t q, exec (.trimRunStart n e) s = .next t ∧ (t.engine n).run = some q ∧ q.slot = i.val
      ∧ q.pc = s.fld (Adr.TRIM_CPROG n i) 11 0
      ∧ q.cyc = 0 ∧ q.d = [] ∧ q.a0 = 0 ∧ q.a1 = 0 ∧ q.written = [] ∧ q.trigTime = (s.ctx (8 * n + i)).pendTime
      ∧ q.setp = (List.range 4).map (fun j => s.reg (Adr.TRIM_SETP0 n i + 4 * j)) ∧ t.ctxPend n i = false
      ∧ t.flag (Adr.TRIM_CSTAT n i) 16 = true ∧ t.flag (Adr.TRIM_CBSEL n i) 8 = s.flag (Adr.TRIM_CBSEL n i) 0
      ∧ t.reg (Adr.TRIM_CRAMP n i) = s.reg (Adr.TRIM_SETP0 n i) ∧ t.fld (Adr.TRIM_ESTAT n) 7 0 = 8 + i.val
      ∧ (∀ j : Fin 8, t.flag (Adr.TRIM_ESTAT n) (8 + j) = (decide (j ≠ i) && s.ctxPend n j))
      ∧ s.KeepsBut [Adr.TRIM_CSTAT n i, Adr.TRIM_CBSEL n i, Adr.TRIM_CRAMP n i, Adr.TRIM_ESTAT n, Adr.TRIM_ECCCNT n, Adr.TSCH_LAT (8 * n + i)] t := by
  have hreg {a : Nat} (hirq : irqReg a = false) (h : a ≠ Adr.TRIM_ECCCNT n ∧ a ≠ Adr.TRIM_ESTAT n) :
      (s.begun n i e).settle.reg a = (s.started n i).reg a := (State.settle_reg _ hirq).trans ((s.begun_regsOn n i e).same a h)
  have hcstat := (hreg (irqReg_cstat n i.isLt) (by unfold Adr.TRIM_CSTAT Adr.TRIM_ECCCNT Adr.TRIM_ESTAT; omega)).trans (s.started_cstat n i)
  have hcbsel := (hreg (irqReg_eq_false (by unfold Adr.TRIM_CBSEL; omega))
    (by unfold Adr.TRIM_CBSEL Adr.TRIM_ECCCNT Adr.TRIM_ESTAT; omega)).trans (s.started_cbsel n i)
  have hcramp := hreg (irqReg_eq_false (a := Adr.TRIM_CRAMP n i) (by unfold Adr.TRIM_CRAMP; omega))
    (by unfold Adr.TRIM_CRAMP Adr.TRIM_ECCCNT Adr.TRIM_ESTAT; omega)
  have hestat : irqReg (Adr.TRIM_ESTAT n) = false := irqReg_eq_false (by unfold Adr.TRIM_ESTAT; omega)
  obtain ⟨hrun, hpending⟩ := s.begun_estat n i e
  refine ⟨_, s.firstRun n i, exec_trimRunStart he hon hidle htuner hlow hramp, ?_, rfl, rfl, rfl, rfl, rfl, rfl, rfl, rfl, rfl, ?_, ?_, ?_,
    hcramp.trans (State.reg_setReg_self ..), (State.settle_fld _ hestat 7 0).trans hrun, fun j => (State.settle_flag _ hestat _).trans (hpending j),
    State.RegsOn.keepsBut (.trans (s.started_regsOn n i (by simp) (by simp) (by simp) (by simp)) ((s.begun_regsOn n i e).mono fun a ha => ?_))
      ((s.begun_within n i e).same .mem rfl)⟩
  · rw [State.engine_congr (State.settle_engines _), s.begun_run n i e]
  · unfold State.ctxPend State.flag
    rw [hcstat, bit_setBit_ne _ _ (by decide), bit_setBit_self _ _ (by decide)]
  · rw [State.flag_eq, hcstat]
    exact bit_setBit_self _ _ (by decide)
  · rw [State.flag_eq, hcbsel, bit_setBit_self _ _ (by decide)]
  · simp only [List.mem_cons, not_or] at ha
    exact ⟨ha.2.2.2.2.1, ha.2.2.2.1⟩

end

end

/-- Settles O40: an END variant ends the run and then commits what it staged; a start is the run's record beside CSTAT, the bank and the ramp; a cut is the
end of a run with its events. -/
theorem trimRuns : Obligations.TrimRuns := by
  unfold Obligations.TrimRuns
  intro n i e r w s he
  refine ⟨trimRunStart_starts he, fun v c hvc hs hv h20 h21 hsp hon => ?_, fun hs => trEnd_commitsSet he hs,
    fun m x k a ha hs => trEnd_writesTarget he hs m x k a ha, fun hs => trEndn_publishesNothing he hs, trimBudgetCut_cuts s n r,
    trimBudgetCut_passes s n r⟩
  obtain ⟨t, hexec, ⟨⟨hidle, hshown, hcycles⟩, hwritten, hother, hraised, hpwms⟩, htrip, hkeeps⟩ :=
    trimEnd_publishes he hs v c hvc hv h20 h21 hsp hon
  exact ⟨t, hexec, hidle, hshown, hcycles, hwritten, hother, hraised, hpwms, htrip, hkeeps⟩

end Sys2Proof.Machine
end

section
/-! SUPPORT. Pairs that realign, lock and split (R128, R136, R137): what the copy leaves in the cores, what SYNC and SPLIT written by a core do to a
pair, and the settling of their statement. -/

namespace Sys2Proof.Machine

/-! ### Cores and pairs after a command -/

theorem State.pair_congr {s t : State} (h : t.pairs = s.pairs) (n : Nat) : t.pair n = s.pair n := by unfold State.pair; rw [h]

theorem State.settle_core (s : State) (c : Nat) : s.settle.core c = s.core c := State.core_congr s.settle_cores c

theorem State.settle_pair (s : State) (n : Nat) : s.settle.pair n = s.pair n := State.pair_congr s.settle_pairs n

theorem State.raise_core (s : State) (p i c : Nat) : (s.raise p i).core c = s.core c := State.core_congr (s.raise_cores p i) c

theorem State.raise_pair (s : State) (p i n : Nat) : (s.raise p i).pair n = s.pair n := State.pair_congr (s.raise_pairs p i) n

theorem irqReg_pairWincnt (n : Nat) : irqReg (Adr.PAIR_WINCNT n) = false := irqReg_eq_false (by unfold Adr.PAIR_WINCNT; omega)

theorem irqReg_pairAligncnt (n : Nat) : irqReg (Adr.PAIR_ALIGNCNT n) = false := irqReg_eq_false (by unfold Adr.PAIR_ALIGNCNT; omega)

theorem pairStat_ne_pevt (n p : Nat) : Adr.PAIR_STAT n ≠ Adr.PEVT p := by unfold Adr.PAIR_STAT Adr.PEVT; omega

theorem mainCore_ne_checkCore (n : Nat) : mainCore n ≠ checkCore n := by unfold mainCore checkCore; omega

/-! ### The copy of the main core (R128, R136) -/

/-- A core that has another core's registers, CSRs and pc, and runs. -/
def Core.follows (c m : Core) : Prop := c.x = m.x ∧ c.f = m.f ∧ c.csr = m.csr ∧ c.pc = m.pc ∧ c.stalled = false

section
variable (s : State) (n : Nat)

theorem State.stallPair_main (b : Bool) : (s.stallPair n b).core (mainCore n) = { s.core (mainCore n) with stalled := b } := by
  unfold State.stallPair
  rw [State.core_putCore, if_neg (mainCore_ne_checkCore n), State.core_putCore_self]

theorem State.stallPair_check (b : Bool) : (s.stallPair n b).core (checkCore n) = { s.core (checkCore n) with stalled := b } := by
  unfold State.stallPair
  rw [State.core_putCore_self, State.core_putCore, if_neg (mainCore_ne_checkCore n).symm]

theorem State.copyCore_main : (s.copyCore n).core (mainCore n) = s.core (mainCore n) := by
  unfold State.copyCore
  rw [State.core_putCore, if_neg (mainCore_ne_checkCore n)]

theorem State.copyCore_regsOn {P : Nat → Prop} : State.RegsOn P s (s.copyCore n) := .of_regs (State.putCore_regs ..)

theorem State.copyCore_check : Core.follows { (s.copyCore n).core (checkCore n) with stalled := false } (s.core (mainCore n)) := by
  unfold State.copyCore
  rw [State.core_putCore_self]
  exact ⟨rfl, rfl, rfl, rfl, rfl⟩

theorem State.stallPair_regs (b : Bool) : (s.stallPair n b).regs = s.regs := by
  unfold State.stallPair
  rw [State.putCore_regs, State.putCore_regs]

theorem State.pairLocked_main : (s.pairLocked n).core (mainCore n) = { s.core (mainCore n) with stalled := false } := by
  unfold State.pairLocked
  rw [State.stallPair_main]
  rfl

theorem State.pairLocked_check : (s.pairLocked n).core (checkCore n) = { s.core (checkCore n) with stalled := false } := by
  unfold State.pairLocked
  rw [State.stallPair_check]
  rfl

theorem State.pairLocked_wincnt : (s.pairLocked n).reg (Adr.PAIR_WINCNT n) = 0#32 := by
  have h : (s.pairLocked n).reg (Adr.PAIR_WINCNT n) = ((((s.setMode n 1).setFlag (Adr.PAIR_STAT n) 3 false).setReg (Adr.PAIR_WINCNT n)
    0#32).setReg (Adr.PAIR_ALIGNCNT n) 0#32).reg (Adr.PAIR_WINCNT n) := rfl
  rw [h, State.reg_setReg_ne _ _ (by simp [Adr.PAIR_WINCNT, Adr.PAIR_ALIGNCNT]), State.reg_setReg_self]

theorem State.pairLocked_aligncnt : (s.pairLocked n).reg (Adr.PAIR_ALIGNCNT n) = 0#32 := State.reg_setReg_self _ (Adr.PAIR_ALIGNCNT n) 0#32

end

/-- The pair whose copy has been made resumes, and its window starts anew. -/
def State.resumed (s : State) (n : Nat) : State :=
  let t := (s.copyCore n).stallPair n false
  t.putPair n { t.pair n with copying := false, window := none }

section
variable (s : State) (n : Nat)

theorem State.resumed_core (c : Nat) : (s.resumed n).core c = ((s.copyCore n).stallPair n false).core c := State.core_congr (State.putPair_cores ..) c

theorem State.resumed_copying : ((s.resumed n).pair n).copying = false := congrArg PairSt.copying (State.pair_putPair_self ..)

theorem State.resumed_regsOn {P : Nat → Prop} : State.RegsOn P s (s.resumed n) :=
  ((s.copyCore_regsOn n).trans (.of_regs (State.stallPair_regs _ n false))).trans (.of_regs (State.putPair_regs ..))

end

section
variable {s : State} {n : Nat}

theorem State.realigned_eq (hcopy : (s.pair n).copying = true) (hmode : s.pairMode n = 1) :
    s.realigned n = (s.resumed n).setFlag (Adr.PAIR_STAT n) 3 false := by
  unfold State.realigned
  rw [hcopy, hmode]
  rfl

theorem State.lockDone_eq (hcopy : (s.pair n).copying = true) (hmode : s.pairMode n = 0) (hmain : s.icxTags (mainCore n) = 0)
    (hcheck : s.icxTags (checkCore n) = 0) : s.lockDone n = ((s.copyCore n).pairLocked n).raise (Pg.PAIR n) 2 := by
  unfold State.lockDone
  rw [hcopy, hmode, hmain, hcheck]
  rfl

/-- The core that waits at SYNC gives up waiting. -/
def State.syncDropped (s : State) (n c : Nat) : State :=
  (((s.putPair n { s.pair n with syncCore := none }).putCore c { s.core c with stalled := false }).setFlag (Adr.PAIR_STAT n) 2 false).setFlag
    (Adr.PAIR_STAT n) 5 true

theorem State.syncDropped_regsOn (s : State) (n c : Nat) {P : Nat → Prop} (h : ¬ P (Adr.PAIR_STAT n)) : State.RegsOn P s (s.syncDropped n c) := by
  have hcore : State.RegsOn P s ((s.putPair n { s.pair n with syncCore := none }).putCore c { s.core c with stalled := false }) := .of_regs rfl
  exact (hcore.trans (State.setFlag_regsOn _ h 2 false)).trans (State.setFlag_regsOn _ h 5 true)

theorem State.syncTimeout_eq {c : Nat} (hwait : (s.pair n).syncCore = some c) (hcopy : (s.pair n).copying = false) :
    s.syncTimeout n = (s.syncDropped n c).raise (Pg.PAIR n) 2 := by
  unfold State.syncTimeout
  rw [hwait, hcopy]
  rfl

end

/-! ### The commands that end a copy or a wait -/

section
variable {s : State} {n : Fin 2}

theorem realignComplete_resumes (hcopy : (s.pair n).copying = true) (hmode : s.pairMode n = 1) : ∃ t, exec (.realignComplete n) s = .next t
    ∧ (t.core (checkCore n)).follows (s.core (mainCore n)) ∧ t.core (mainCore n) = { s.core (mainCore n) with stalled := false }
    ∧ (t.pair n).copying = false ∧ s.RegsBut [Adr.PAIR_STAT n] t ∧ t.mem = s.mem := by
  have hcore (c : Nat) : (s.realigned n).settle.core c = ((s.copyCore n).stallPair n false).core c := by
    rw [State.settle_core, State.realigned_eq hcopy hmode, ← State.resumed_core]
    rfl
  have hregs : State.RegsOn (· ∉ [Adr.PAIR_STAT n]) s (s.realigned n) := by
    rw [State.realigned_eq hcopy hmode]
    exact (s.resumed_regsOn n).trans (State.setFlag_regsOn _ (by simp) 3 false)
  have hmem : (s.realigned n).mem = s.mem := (s.realigned_within n).same .mem rfl
  refine ⟨(s.realigned n).settle, rfl, ?_, ?_, ?_, (hregs.keepsBut hmem).1, (State.settle_mem _).trans hmem⟩
  · rw [hcore, State.stallPair_check]
    exact s.copyCore_check n
  · rw [hcore, State.stallPair_main, State.copyCore_main]
  · rw [State.settle_pair, State.realigned_eq hcopy hmode]
    exact s.resumed_copying n

theorem lockComplete_locks (hcopy : (s.pair n).copying = true) (hmode : s.pairMode n = 0) (hmain : s.icxTags (mainCore n) = 0)
    (hcheck : s.icxTags (checkCore n) = 0) : ∃ t, exec (.lockComplete n) s = .next t ∧ t.pairMode n = 1
      ∧ (t.core (checkCore n)).follows (s.core (mainCore n)) ∧ (t.core (mainCore n)).stalled = false
      ∧ t.reg (Adr.PAIR_WINCNT n) = 0#32 ∧ t.reg (Adr.PAIR_ALIGNCNT n) = 0#32
      ∧ s.RegsBut [Adr.PAIR_STAT n, Adr.PAIR_WINCNT n, Adr.PAIR_ALIGNCNT n, Adr.PEVT (Pg.PAIR n)] t ∧ t.mem = s.mem := by
  have heq := State.lockDone_eq hcopy hmode hmain hcheck
  have hcore (c : Nat) : (s.lockDone n).settle.core c = ((s.copyCore n).pairLocked n).core c := by
    rw [State.settle_core, heq, State.raise_core]
  have hreg {a : Nat} (hirq : irqReg a = false) (hne : a ≠ Adr.PEVT (Pg.PAIR n)) :
      (s.lockDone n).settle.reg a = ((s.copyCore n).pairLocked n).reg a := by
    rw [State.settle_reg _ hirq, heq, State.raise_reg_ne _ _ _ hne]
  have hregs : State.RegsOn (· ∉ [Adr.PAIR_STAT n, Adr.PAIR_WINCNT n, Adr.PAIR_ALIGNCNT n, Adr.PEVT (Pg.PAIR n)]) s (s.lockDone n) := by
    rw [heq]
    exact ((s.copyCore_regsOn n).trans (State.pairLocked_regsOn _ n (by simp) (by simp) (by simp))).trans (State.raise_regsOn _ (by simp) 2)
  have hmem : (s.lockDone n).mem = s.mem := (s.lockDone_within n).same .mem rfl
  refine ⟨(s.lockDone n).settle, rfl, ?_, ?_, ?_,
    (hreg (irqReg_pairWincnt n) (by unfold Adr.PAIR_WINCNT Adr.PEVT; omega)).trans (State.pairLocked_wincnt _ n),
    (hreg (irqReg_pairAligncnt n) (by unfold Adr.PAIR_ALIGNCNT Adr.PEVT; omega)).trans (State.pairLocked_aligncnt _ n),
    (hregs.keepsBut hmem).1, (State.settle_mem _).trans hmem⟩
  · rw [State.pairMode, State.fld_eq, hreg (irqReg_pairStat n) (pairStat_ne_pevt _ _)]
    exact State.pairLocked_mode (s.copyCore n) n
  · rw [hcore, State.pairLocked_check]
    exact s.copyCore_check n
  · rw [hcore, State.pairLocked_main]

theorem syncTimeout_drops {c : Nat} (hwait : (s.pair n).syncCore = some c) (hcopy : (s.pair n).copying = false) :
    ∃ t, exec (.syncTimeout n) s = .next t ∧ (t.pair n).syncCore = none ∧ t.core c = { s.core c with stalled := false }
      ∧ t.flag (Adr.PAIR_STAT n) 2 = false ∧ t.flag (Adr.PAIR_STAT n) 5 = true
      ∧ s.RegsBut [Adr.PAIR_STAT n, Adr.PEVT (Pg.PAIR n)] t ∧ t.mem = s.mem := by
  have heq := State.syncTimeout_eq hwait hcopy
  have hflag (i : Nat) : (s.syncTimeout n).settle.flag (Adr.PAIR_STAT n) i = (s.syncDropped n c).flag (Adr.PAIR_STAT n) i := by
    rw [State.settle_flag _ (irqReg_pairStat n), heq, State.flag_eq, State.raise_reg_ne _ _ _ (pairStat_ne_pevt _ _), State.flag_eq]
  have hregs : State.RegsOn (· ∉ [Adr.PAIR_STAT n, Adr.PEVT (Pg.PAIR n)]) s (s.syncTimeout n) := by
    rw [heq]
    exact (s.syncDropped_regsOn n c (by simp)).trans (State.raise_regsOn _ (by simp) 2)
  have hmem : (s.syncTimeout n).mem = s.mem := (s.syncTimeout_within n).same .mem rfl
  refine ⟨(s.syncTimeout n).settle, rfl, ?_, ?_, ?_, (hflag 5).trans (State.flag_setFlag_self _ _ _ (by decide)),
    (hregs.keepsBut hmem).1, (State.settle_mem _).trans hmem⟩
  · rw [State.settle_pair, heq, State.raise_pair]
    exact congrArg PairSt.syncCore (State.pair_putPair_self ..)
  · rw [State.settle_core, heq, State.raise_core]
    exact State.core_putCore_self ..
  · rw [hflag]
    exact (State.flag_setFlag_ne _ _ _ (by decide)).trans (State.flag_setFlag_self _ _ _ (by decide))

end

/-! ### Requests of a core (R72, R136, R137) -/

theorem RegInfo.next_ro (old w : Word) : RegInfo.next RegInfo.ro .plain old w = old := by
  simp only [RegInfo.next, RegInfo.ro, BitVec.or_self, BitVec.not_zero, BitVec.and_allOnes, BitVec.and_zero, BitVec.or_zero]

theorem pair_pageRow : ∀ c : Fin 4, pageRow (Pg.PAIR (c / 2)) = some ⟨.pair, 0x20, 2, 0x5, 1, 0xF, 0x1F⟩ := by decide

theorem sync_regInfo : ∀ c : Fin 4, regInfo (Pg.PAIR (c / 2)) 0x4C = RegInfo.ro := by decide

theorem split_regInfo : ∀ c : Fin 4, regInfo (Pg.PAIR (c / 2)) 0x50 = RegInfo.ro := by decide

section
variable {s : State} {c : Fin 4} {a off : Nat}

/-- A 1 written to SYNC or SPLIT, which hold nothing: the pair acts on it and the core is answered. -/
theorem State.portStore_pairRequest (ha : a = 4096 * Pg.PAIR (c / 2) + off) (h40 : 0x40 ≤ off) (hoff : off < 4096)
    (hi : regInfo (Pg.PAIR (c / 2)) off = RegInfo.ro) (ho : s.Owns c (Pg.PAIR (c / 2))) (hw : s.refusalOf c a .plain 1#32 = none) :
    s.portStore c a 1#32 = State.writeDone c
      ((s.requestStored (Pg.PAIR (c / 2)) a).blockHook c .pair (c / 2) off 1#32 (s.reg a) (s.reg a), none) := by
  have hpage : a / 4096 = Pg.PAIR (c / 2) := by omega
  have hin : a % 4096 = off := by omega
  have hlow : a < 0x200000 := by unfold Pg.PAIR at ha; omega
  have hunit : Pg.PAIR (c / 2) - 0x20 = c / 2 := by unfold Pg.PAIR; omega
  rw [s.portStore_runTime hlow (hpage ▸ pair_pageRow c) (i := RegInfo.ro) (by rw [hpage, hin]; exact hi) (hpage ▸ ho) (by omega) rfl rfl hw,
    RegInfo.next_ro, hpage, hin, hunit]
  rfl

theorem State.requestStored_pairMode (p n : Nat) : (s.requestStored p a).pairMode n = s.pairMode n :=
  (s.requestStored_regs p a).fld (P := fun _ => True) trivial 1 0

theorem State.requestStored_marked (p n : Nat) : (s.requestStored p a).pairMarked n = s.pairMarked n := by
  have h : State.RegsOn (fun _ => True) s (s.requestStored p a) := s.requestStored_regs p a
  unfold State.pairMarked State.owner State.pageMarked State.pageEn
  simp only [h.pageOn trivial rfl, h.fld trivial, h.flag trivial]

theorem exec_syncReq (ho : s.Owns c (Pg.PAIR (c / 2))) (hw : s.refusalOf c (Adr.PAIR_SYNC (c / 2)) .plain 1#32 = none) :
    exec (.syncReq c) s = .next (State.writeDone c
      ((s.requestStored (Pg.PAIR (c / 2)) (Adr.PAIR_SYNC (c / 2))).syncReq (c / 2) c, none)).settle := by
  change done (s.portStore c (Adr.PAIR_SYNC (c / 2)) 1#32) = _
  rw [State.portStore_pairRequest (off := 0x4C) (by unfold Adr.PAIR_SYNC Pg.PAIR; omega) (by decide) (by decide) (sync_regInfo c) ho hw, done_eq]
  rfl

theorem exec_splitReq (ho : s.Owns c (Pg.PAIR (c / 2))) (hw : s.refusalOf c (Adr.PAIR_SPLIT (c / 2)) .plain 1#32 = none) :
    exec (.splitReq c) s = .next (State.writeDone c
      ((s.requestStored (Pg.PAIR (c / 2)) (Adr.PAIR_SPLIT (c / 2))).splitReq (c / 2) c, none)).settle := by
  change done (s.portStore c (Adr.PAIR_SPLIT (c / 2)) 1#32) = _
  rw [State.portStore_pairRequest (off := 0x50) (by unfold Adr.PAIR_SPLIT Pg.PAIR; omega) (by decide) (by decide) (split_regInfo c) ho hw, done_eq]
  rfl

end

section
variable (port : Nat) (x : State × Option Nat)

theorem State.writeDone_core (c : Nat) : (State.writeDone port x).settle.core c = x.1.core c := State.settle_core _ c

theorem State.writeDone_pair (n : Nat) : (State.writeDone port x).settle.pair n = x.1.pair n := State.settle_pair _ n

end

/-! ### SYNC (R136) -/

/-- SYNC taken: the writing core stalls, an earlier timeout is forgotten; p is the pair's new record and STAT tells whether a core waits. -/
def State.syncTaken (s : State) (n c : Nat) (p : PairSt) (waits : Bool) : State :=
  (((s.setFlag (Adr.PAIR_STAT n) 5 false).putCore c { s.core c with stalled := true }).putPair n p).setFlag (Adr.PAIR_STAT n) 2 waits

section
variable {s : State} {n c : Nat}

theorem State.syncReq_first (hmode : s.pairMode n = 0) (hpair : c / 2 = n) (hwait : (s.pair n).syncCore = none) :
    s.syncReq n c = s.syncTaken n c { s.pair n with syncCore := some c } true := by
  unfold State.syncReq
  rw [hmode, hpair, if_neg (by simp), hwait]
  rfl

theorem State.syncReq_second {d : Nat} (hmode : s.pairMode n = 0) (hpair : c / 2 = n) (hwait : (s.pair n).syncCore = some d) (hne : d ≠ c) :
    s.syncReq n c = s.syncTaken n c { s.pair n with copying := true } false := by
  unfold State.syncReq
  rw [hmode, hpair, if_neg (by simp), hwait]
  exact if_neg hne

variable (s n c) (p : PairSt) (waits : Bool)

theorem State.syncTaken_pair : (s.syncTaken n c p waits).pair n = p := State.pair_putPair_self ..

theorem State.syncTaken_stalled : ((s.syncTaken n c p waits).core c).stalled = true := congrArg Core.stalled (State.core_putCore_self ..)

theorem State.syncTaken_waits : (s.syncTaken n c p waits).flag (Adr.PAIR_STAT n) 2 = waits := State.flag_setFlag_self _ _ _ (by decide)

theorem State.syncTaken_regsOn {P : Nat → Prop} (h : ¬ P (Adr.PAIR_STAT n)) : State.RegsOn P s (s.syncTaken n c p waits) := by
  have hcore := (s.setFlag_regsOn h 5 false).trans (.of_regs (State.putCore_regs _ c { s.core c with stalled := true }))
  exact (hcore.trans (.of_regs (State.putPair_regs ..))).trans (State.setFlag_regsOn _ h 2 waits)

end

section
variable {s : State} {c : Fin 4} (ho : s.Owns c (Pg.PAIR (c / 2))) (hw : s.refusalOf c (Adr.PAIR_SYNC (c / 2)) .plain 1#32 = none)
include ho hw

/-- A request for the lock that the pair takes. -/
theorem syncReq_stalls {p : PairSt} {waits : Bool} (heq : (s.requestStored (Pg.PAIR (c / 2)) (Adr.PAIR_SYNC (c / 2))).syncReq (c / 2) c
      = (s.requestStored (Pg.PAIR (c / 2)) (Adr.PAIR_SYNC (c / 2))).syncTaken (c / 2) c p waits) :
    ∃ t, exec (.syncReq c) s = .next t ∧ (t.port c).resp = .ok [] ∧ t.pair (c / 2) = p ∧ (t.core c).stalled = true
      ∧ t.flag (Adr.PAIR_STAT (c / 2)) 2 = waits ∧ s.RegsBut [Adr.PAIR_SYNC (c / 2), Adr.PAIR_STAT (c / 2)] t ∧ t.mem = s.mem := by
  have hregs : State.RegsOn (· ∉ [Adr.PAIR_SYNC (c / 2), Adr.PAIR_STAT (c / 2)]) s
      ((s.requestStored (Pg.PAIR (c / 2)) (Adr.PAIR_SYNC (c / 2))).syncTaken (c / 2) c p waits) :=
    (s.requestStored_regs ..).trans (State.syncTaken_regsOn _ _ _ _ _ (by simp))
  have hexec := exec_syncReq ho hw
  rw [heq] at hexec
  exact ⟨_, hexec, State.writeDone_resp .., (State.writeDone_pair ..).trans (State.syncTaken_pair ..),
    (congrArg Core.stalled (State.writeDone_core ..)).trans (State.syncTaken_stalled ..),
    (State.writeDone_flag _ _ (irqReg_pairStat _) 2).trans (State.syncTaken_waits ..), (State.writeDone_keepsBut _ (_, none) hregs rfl).1,
    State.writeDone_mem ..⟩

theorem syncReq_waits (hmode : s.pairMode (c / 2) = 0) (hwait : (s.pair (c / 2)).syncCore = none) :
    ∃ t, exec (.syncReq c) s = .next t ∧ (t.port c).resp = .ok []
      ∧ (t.pair (c / 2)).syncCore = some c.val ∧ (t.core c).stalled = true ∧ t.flag (Adr.PAIR_STAT (c / 2)) 2 = true
      ∧ s.RegsBut [Adr.PAIR_SYNC (c / 2), Adr.PAIR_STAT (c / 2)] t ∧ t.mem = s.mem := by
  obtain ⟨t, hexec, hresp, hpair, hrest⟩ :=
    syncReq_stalls ho hw (State.syncReq_first ((State.requestStored_pairMode ..).trans hmode) rfl hwait)
  exact ⟨t, hexec, hresp, congrArg PairSt.syncCore hpair, hrest⟩

theorem syncReq_copies {d : Nat} (hmode : s.pairMode (c / 2) = 0) (hwait : (s.pair (c / 2)).syncCore = some d) (hne : d ≠ c.val) :
    ∃ t, exec (.syncReq c) s = .next t ∧ (t.port c).resp = .ok []
      ∧ (t.pair (c / 2)).copying = true ∧ (t.core c).stalled = true ∧ t.flag (Adr.PAIR_STAT (c / 2)) 2 = false
      ∧ s.RegsBut [Adr.PAIR_SYNC (c / 2), Adr.PAIR_STAT (c / 2)] t ∧ t.mem = s.mem := by
  obtain ⟨t, hexec, hresp, hpair, hrest⟩ :=
    syncReq_stalls ho hw (State.syncReq_second ((State.requestStored_pairMode ..).trans hmode) rfl hwait hne)
  exact ⟨t, hexec, hresp, congrArg PairSt.copying hpair, hrest⟩

end

/-! ### SPLIT (R137) -/

section
variable {s : State} {n c : Nat}

theorem State.splitReq_final (hmode : s.pairMode n = 1) (hmain : c = mainCore n) (hfree : s.pairMarked n = false) :
    s.splitReq n c = ((s.setFlag (Adr.PAIR_STAT n) 4 false).putPair n { s.pair n with final := true }).putCore c { s.core c with stalled := true } := by
  unfold State.splitReq
  rw [hmode, hfree, if_neg (by simp [hmain]), if_neg (by simp)]

theorem State.splitReq_refused (hmode : s.pairMode n = 1) (hmain : c = mainCore n) (hmarked : s.pairMarked n = true) :
    s.splitReq n c = (s.setFlag (Adr.PAIR_STAT n) 4 true).raise (Pg.PAIR n) 2 := by
  unfold State.splitReq
  rw [hmode, hmarked, if_neg (by simp [hmain]), if_pos rfl]

end

section
variable {s : State} {c : Fin 4} (ho : s.Owns c (Pg.PAIR (c / 2))) (hw : s.refusalOf c (Adr.PAIR_SPLIT (c / 2)) .plain 1#32 = none)
  (hmode : s.pairMode (c / 2) = 1) (hmain : c.val = mainCore (c / 2))
include ho hw hmode hmain

theorem splitReq_waits (hfree : s.pairMarked (c / 2) = false) : ∃ t, exec (.splitReq c) s = .next t ∧ (t.port c).resp = .ok []
      ∧ (t.pair (c / 2)).final = true ∧ (t.core c).stalled = true ∧ t.flag (Adr.PAIR_STAT (c / 2)) 4 = false
      ∧ s.RegsBut [Adr.PAIR_SPLIT (c / 2), Adr.PAIR_STAT (c / 2)] t ∧ t.mem = s.mem := by
  let u := s.requestStored (Pg.PAIR (c / 2)) (Adr.PAIR_SPLIT (c / 2))
  have heq := State.splitReq_final (s := u) ((State.requestStored_pairMode ..).trans hmode) hmain ((State.requestStored_marked ..).trans hfree)
  have hmem : (u.splitReq (c / 2) c).mem = s.mem := (u.splitReq_within ..).same .mem rfl
  have hframe : State.RegsOn (· ∉ [Adr.PAIR_SPLIT (c / 2), Adr.PAIR_STAT (c / 2)]) s (u.splitReq (c / 2) c) := by
    rw [heq]
    exact ((s.requestStored_regs ..).trans (State.setFlag_regsOn _ (by simp) 4 false)).trans
      ((State.RegsOn.of_regs (State.putPair_regs ..)).trans (.of_regs (State.putCore_regs ..)))
  refine ⟨_, exec_splitReq ho hw, State.writeDone_resp .., ?_, ?_, (State.writeDone_flag _ _ (irqReg_pairStat _) 4).trans ?_,
    (State.writeDone_keepsBut _ _ hframe hmem).1, (State.writeDone_mem ..).trans hmem⟩
  · rw [State.writeDone_pair, heq, State.pair_congr (State.putCore_pairs ..), State.pair_putPair_self]
  · rw [State.writeDone_core, heq, State.core_putCore_self]
  · rw [heq, State.flag_eq, State.putCore_reg, State.putPair_reg, ← State.flag_eq, State.flag_setFlag_self _ _ _ (by decide)]

theorem splitReq_refuses (hmarked : s.pairMarked (c / 2) = true) : ∃ t, exec (.splitReq c) s = .next t ∧ (t.port c).resp = .ok []
      ∧ t.pairs = s.pairs ∧ t.cores = s.cores ∧ t.flag (Adr.PAIR_STAT (c / 2)) 4 = true
      ∧ s.RegsBut [Adr.PAIR_SPLIT (c / 2), Adr.PAIR_STAT (c / 2), Adr.PEVT (Pg.PAIR (c / 2))] t ∧ t.mem = s.mem := by
  let u := s.requestStored (Pg.PAIR (c / 2)) (Adr.PAIR_SPLIT (c / 2))
  have heq := State.splitReq_refused (s := u) ((State.requestStored_pairMode ..).trans hmode) hmain ((State.requestStored_marked ..).trans hmarked)
  have hmem : (u.splitReq (c / 2) c).mem = s.mem := (u.splitReq_within ..).same .mem rfl
  have hframe : State.RegsOn (· ∉ [Adr.PAIR_SPLIT (c / 2), Adr.PAIR_STAT (c / 2), Adr.PEVT (Pg.PAIR (c / 2))]) s (u.splitReq (c / 2) c) := by
    rw [heq]
    exact ((s.requestStored_regs ..).trans (State.setFlag_regsOn _ (by simp) 4 true)).trans (State.raise_regsOn _ (by simp) 2)
  refine ⟨_, exec_splitReq ho hw, State.writeDone_resp .., (State.settle_pairs _).trans ?_, (State.settle_cores _).trans ?_,
    (State.writeDone_flag _ _ (irqReg_pairStat _) 4).trans ?_, (State.writeDone_keepsBut _ _ hframe hmem).1, (State.writeDone_mem ..).trans hmem⟩
  · exact (congrArg State.pairs heq).trans (State.raise_pairs ..)
  · exact (congrArg State.cores heq).trans (State.raise_cores ..)
  · rw [heq, State.flag_eq, State.raise_reg_ne _ _ _ (pairStat_ne_pevt _ _)]
    exact State.flag_setFlag_self _ _ _ (by decide)

end

/-- Settles O59: a realignment and a lock end with the copy of the main core in the checker; SYNC and SPLIT, once their write is accepted, act on the
pair's record, the writing core and STAT. -/
theorem copiesAndLocks : Obligations.CopiesAndLocks := by
  unfold Obligations.CopiesAndLocks
  refine ⟨fun n s => ⟨fun hcopy hmode => ?realign, fun hcopy hmode hmain hcheck => ?lock, fun c => syncTimeout_drops⟩,
    fun c s => ⟨syncReq_waits, fun _ ho hw => syncReq_copies ho hw, splitReq_waits, splitReq_refuses⟩⟩
  case realign =>
    obtain ⟨t, hexec, ⟨hx, hf, hcsr, hpc, hruns⟩, hmain, hrest⟩ := realignComplete_resumes hcopy hmode
    exact ⟨t, hexec, hx, hf, hcsr, hpc, hmain, hruns, hrest⟩
  case lock =>
    obtain ⟨t, hexec, hlocked, ⟨hx, hf, hcsr, hpc, hruns⟩, hmainRuns, hrest⟩ := lockComplete_locks hcopy hmode hmain hcheck
    exact ⟨t, hexec, hlocked, hx, hf, hcsr, hpc, hmainRuns, hruns, hrest⟩

end Sys2Proof.Machine
end

section
/-! SUPPORT. The safety inputs (R149 to R151): their levels, their filtered demand and their discrepancies, SINSTAT that shows them; and the settling
of their statement. -/

namespace Sys2Proof.Machine

/-! ### SINSTAT -/

section
variable (s : State)

theorem State.sinShow_regsOn {P : Nat → Prop} (h : ¬ P Adr.SHRD_SINSTAT) : State.RegsOn P s s.sinShow := s.setReg_regsOn h _

theorem State.sinShow_demand {k : Nat} (h : k < 8) : s.sinShow.flag Adr.SHRD_SINSTAT k = (bit s.shroud.demand k || bit s.shroud.disc k) := by
  rw [State.flag_eq, State.sinShow, State.reg_setReg_self, bit_maskOf (by decide) (by omega), if_pos h]

theorem State.sinShow_disc {k : Nat} (h : k < 8) : s.sinShow.flag Adr.SHRD_SINSTAT (8 + k) = bit s.shroud.disc k := by
  rw [State.flag_eq, State.sinShow, State.reg_setReg_self, bit_maskOf (by decide) (by omega), if_neg (by omega), if_pos (by omega),
    Nat.add_sub_cancel_left]

theorem State.sinShow_pageOn (p : Nat) : s.sinShow.pageOn p = s.pageOn p :=
  (State.sinShow_regsOn (P := (· = Adr.SYS_PDSTAT)) s (by decide)).pageOn rfl rfl p

/-! ### Levels, filter and discrepancy -/

theorem State.sinLevel_congr {t : State} (h : t.shroud = s.shroud) (i : Nat) (c : Bool) : t.sinLevel i c = s.sinLevel i c := by
  unfold State.sinLevel
  rw [h]

theorem State.sinChange_level (i : Nat) (c : Bool) (l : Level) (j : Nat) (d : Bool) :
    (s.sinChange i c l).sinLevel j d = if j = i ∧ d = c then l else s.sinLevel j d := by
  have hkey : 2 * j + d.toNat = 2 * i + c.toNat ↔ j = i ∧ d = c := by cases c <;> cases d <;> simp <;> omega
  exact (Store.get_put ..).trans (if_congr hkey rfl rfl)

/-- The channels of an input differ for too long: a discrepancy, shown and raised. -/
theorem State.sinDiffer_latches {i : Nat} (hdiff : s.sinShows i false ≠ s.sinShows i true) (hdisc : bit s.shroud.disc i = false) :
    s.sinDiffer i = ((s.setShroud { s.shroud with disc := setBit s.shroud.disc i true }).sinShow).raise Pg.SHRD 3 := by
  unfold State.sinDiffer
  rw [if_pos (by rw [hdisc, bne_iff_ne.mpr hdiff]; rfl)]

theorem State.sinDiffer_agreed {i : Nat} (h : s.sinShows i false = s.sinShows i true) : s.sinDiffer i = s := by
  unfold State.sinDiffer
  rw [if_neg (by rw [h]; simp)]

end

/-! ### The commands -/

section
variable {s : State} {i : Fin 8}

theorem sinInputChange_sets (c : Bool) (l : Level) : ∃ t, exec (.sinInputChange i c l) s = .next t ∧ t.sinLevel i c = l
    ∧ (∀ (j : Fin 8) (d : Bool), (j, d) ≠ (i, c) → t.sinLevel j d = s.sinLevel j d)
    ∧ t.shroud.demand = s.shroud.demand ∧ t.shroud.disc = s.shroud.disc ∧ s.KeepsBut [Adr.SHRD_SINSTAT] t := by
  have hshroud : (s.sinChange i c l).settle.shroud = (s.sinChange i c l).shroud := State.settle_shroud _
  refine ⟨(s.sinChange i c l).settle, rfl, ?_, fun j d hne => ?_, (congrArg Shroud.demand hshroud).trans rfl,
    (congrArg Shroud.disc hshroud).trans rfl, ((s.setShroud_regsOn _).trans (State.sinShow_regsOn _ (by simp))).keepsBut rfl⟩
  · rw [State.sinLevel_congr _ hshroud, State.sinChange_level, if_pos ⟨rfl, rfl⟩]
  · rw [State.sinLevel_congr _ hshroud, State.sinChange_level, if_neg fun h => hne (Prod.ext (Fin.ext h.1) h.2)]

theorem sinFilterExpiry_filters : ∃ t, exec (.sinFilterExpiry i) s = .next t
    ∧ bit t.shroud.demand i = (s.sinShows i false || s.sinShows i true)
    ∧ (∀ j : Fin 8, j ≠ i → bit t.shroud.demand j = bit s.shroud.demand j)
    ∧ t.flag Adr.SHRD_SINSTAT i = (s.sinShows i false || s.sinShows i true || bit s.shroud.disc i) ∧ s.KeepsBut [Adr.SHRD_SINSTAT] t := by
  have hdemand : (s.sinFilter i).settle.shroud.demand = setBit s.shroud.demand i (s.sinShows i false || s.sinShows i true) :=
    congrArg Shroud.demand (State.settle_shroud _)
  refine ⟨(s.sinFilter i).settle, rfl, ?_, fun j hj => ?_, ?_, ((s.setShroud_regsOn _).trans (State.sinShow_regsOn _ (by simp))).keepsBut rfl⟩
  · rw [hdemand, bit_setBit_self _ _ (by omega)]
  · rw [hdemand, bit_setBit_ne _ _ (Fin.val_ne_of_ne hj.symm)]
  · rw [State.settle_flag _ (by decide), State.sinFilter, State.sinShow_demand _ i.isLt, State.setShroud_shroud, bit_setBit_self _ _ (by omega)]

theorem sinDiscrepancy_latches (hdiff : s.sinShows i false ≠ s.sinShows i true) (hdisc : bit s.shroud.disc i = false) :
    ∃ t, exec (.sinDiscrepancy i) s = .next t ∧ bit t.shroud.disc i = true ∧ t.flag Adr.SHRD_SINSTAT i = true
      ∧ t.flag Adr.SHRD_SINSTAT (8 + i) = true ∧ (s.pageOn Pg.SHRD = true → t.flag (Adr.PEVT Pg.SHRD) 3 = true)
      ∧ s.KeepsBut [Adr.SHRD_SINSTAT, Adr.PEVT Pg.SHRD] t := by
  let u := s.setShroud { s.shroud with disc := setBit s.shroud.disc i true }
  have heq : s.sinDiffer i = u.sinShow.raise Pg.SHRD 3 := s.sinDiffer_latches hdiff hdisc
  have hset : bit u.shroud.disc i = true := bit_setBit_self _ _ (by omega)
  have hstat (k : Nat) : (u.sinShow.raise Pg.SHRD 3).flag Adr.SHRD_SINSTAT k = u.sinShow.flag Adr.SHRD_SINSTAT k :=
    (State.raise_regsOn (P := (· = Adr.SHRD_SINSTAT)) _ (by decide) 3).flag rfl k
  refine ⟨(s.sinDiffer i).settle, rfl, ?_, ?_, ?_, fun hon => ?_, State.RegsOn.keepsBut ?_ ((s.sinDiffer_within i).same .mem rfl)⟩
  · rw [State.settle_shroud, heq, State.raise_shroud]
    exact hset
  · rw [State.settle_flag _ (by decide), heq, hstat, State.sinShow_demand _ i.isLt, hset, Bool.or_true]
  · rw [State.settle_flag _ (by decide), heq, hstat, State.sinShow_disc _ i.isLt, hset]
  · rw [State.settle_flag _ (by decide), heq]
    exact State.raise_flag _ _ _ ((u.sinShow_pageOn _).trans hon) (by decide)
  · rw [heq]
    exact ((s.setShroud_regsOn _).trans (u.sinShow_regsOn (by simp))).trans (State.raise_regsOn _ (by simp) 3)

theorem sinDiscrepancy_agreed (h : s.sinShows i false = s.sinShows i true) :
    ∃ t, exec (.sinDiscrepancy i) s = .next t ∧ t.shroud = s.shroud ∧ s.KeepsBut [] t := by
  have hexec : exec (.sinDiscrepancy i) s = .next s.settle := congrArg done (s.sinDiffer_agreed h)
  exact ⟨_, hexec, State.settle_shroud _, State.RegsOn.refl.keepsBut rfl⟩

end

/-- Settles O31: each of the three commands writes its part of Shroud's inputs and shows it in SINSTAT. -/
theorem safetyInputs : Obligations.SafetyInputs := by
  unfold Obligations.SafetyInputs
  exact fun i s => ⟨sinInputChange_sets, sinFilterExpiry_filters, sinDiscrepancy_latches, sinDiscrepancy_agreed⟩

end Sys2Proof.Machine
end

section
/-! SUPPORT. SAFE_RESET (R151, R162, R163): the discrepancies it lets go, the lock-outs it clears and keeps, and the events that tell of them. -/

namespace Sys2Proof.Machine

/-! ### Bits cleared one after another -/

theorem bit_clearEach (p : Nat → Prop) [DecidablePred p] {k : Nat} (hk : k < 32) (l : List Nat) (w : Word) :
    bit (l.foldl (fun w i => if p i then setBit w i false else w) w) k = (bit w k && !decide (k ∈ l ∧ p k)) := by
  induction l generalizing w with
  | nil => simp
  | cons j l ih =>
    have hstep : bit (if p j then setBit w j false else w) k = (bit w k && !decide (k = j ∧ p k)) := by
      by_cases hj : k = j
      · subst hj
        by_cases hp : p k
        · rw [if_pos hp, bit_setBit_self _ _ hk]
          simp [hp]
        · rw [if_neg hp]
          simp [hp]
      · have hne : bit (setBit w j false) k = bit w k := bit_setBit_ne _ _ (Ne.symm hj)
        split <;> simp [hj, hne]
    rw [List.foldl_cons, ih, hstep, Bool.and_assoc, ← Bool.not_or, ← Bool.decide_or]
    simp only [List.mem_cons, or_and_right]

/-! ### What a reset does, in its order -/

section
variable (s : State)

/-- The discrepancies left once those whose channels agree are gone. -/
def State.discAgreed : Word :=
  (List.range 8).foldl (fun w i => if s.sinShows i false = s.sinShows i true then setBit w i false else w) s.shroud.disc

/-- Discrepancies w in force and shown. -/
def State.withDisc (w : Word) : State := (s.setShroud { s.shroud with disc := w }).sinShow

/-- The groups locked out. -/
def State.lockedGroups : List Nat := (List.range 6).filter s.lockedOutGroup

/-- Those of them whose causes are gone. -/
def State.clearable : List Nat := s.lockedGroups.filter fun g => !s.causePresent g

/-- The discrepancies let go and the lock-outs cleared. -/
def State.resetCleared : State := (s.withDisc s.discAgreed).each (s.withDisc s.discAgreed).clearable State.clearLockout

/-- EV241 when a lock-out was cleared, EV242 when one stays. -/
def State.resetRaised : State :=
  (s.resetCleared.when (!(s.withDisc s.discAgreed).clearable.isEmpty) fun t => t.raise Pg.SHRD 1).when
    ((s.withDisc s.discAgreed).clearable.length != (s.withDisc s.discAgreed).lockedGroups.length) fun t => t.raise Pg.SHRD 2

theorem State.safeReset_eq : s.safeReset = s.resetRaised.shroudShow := rfl

theorem State.discAgreed_bit (i : Fin 8) : bit s.discAgreed i = (bit s.shroud.disc i && (s.sinShows i false != s.sinShows i true)) := by
  have hmem : i.val ∈ List.range 8 := List.mem_range.mpr i.isLt
  rw [State.discAgreed, bit_clearEach _ (by omega)]
  cases s.sinShows i false <;> cases s.sinShows i true <;> simp [hmem]

theorem State.mem_lockedGroups {g : Nat} : g ∈ s.lockedGroups ↔ g < 6 ∧ s.lockedOutGroup g = true := by
  simp [State.lockedGroups]

theorem State.mem_clearable {g : Nat} : g ∈ s.clearable ↔ (g < 6 ∧ s.lockedOutGroup g = true) ∧ s.causePresent g = false := by
  simp [State.clearable, State.mem_lockedGroups]

/-- A locked-out group whose cause is present keeps the two lists of different lengths. -/
theorem State.clearable_shorter {g : Nat} (hg : g < 6) (hlock : s.lockedOutGroup g = true) (hcause : s.causePresent g = true) :
    s.clearable.length ≠ s.lockedGroups.length := fun h => by
  have hall := List.length_filter_eq_length_iff.mp h g (s.mem_lockedGroups.mpr ⟨hg, hlock⟩)
  rw [hcause] at hall
  exact absurd hall (by decide)

/-! ### Lock-outs cleared -/

theorem State.clearLockout_lockedOutGroup (g j : Nat) : (s.clearLockout g).lockedOutGroup j = if j = g then false else s.lockedOutGroup j := by
  have hdec (c : Channel) (d : GroupDec) : (c.putDec g d).dec j = if j = g then d else c.dec j := c.dec_putDec g d j
  unfold State.lockedOutGroup State.clearLockout
  simp only [State.setReg_shroud, State.setShroud_shroud, hdec]
  split <;> rfl

theorem State.clearLockout_gcause (g j : Nat) :
    (s.clearLockout g).reg (Adr.SHRD_GCAUSE j) = if j = g then 0#32 else s.reg (Adr.SHRD_GCAUSE j) := by
  have hadr : Adr.SHRD_GCAUSE j = Adr.SHRD_GCAUSE g ↔ j = g := by unfold Adr.SHRD_GCAUSE; omega
  exact (State.reg_setReg ..).trans (if_congr hadr rfl rfl)

theorem State.clearLockout_regsOn {P : Nat → Prop} {g : Nat} (h : ¬ P (Adr.SHRD_GCAUSE g)) : State.RegsOn P s (s.clearLockout g) :=
  (s.setShroud_regsOn _).trans (State.setReg_regsOn _ h _)

/-- Group g is not locked out, and no cause is recorded. -/
def State.Unlocked (g : Nat) (t : State) : Prop := t.lockedOutGroup g = false ∧ t.reg (Adr.SHRD_GCAUSE g) = 0#32

/-- Group g is locked out or not, and with the cause, as in s. -/
def State.SameLock (g : Nat) (t : State) : Prop :=
  t.lockedOutGroup g = s.lockedOutGroup g ∧ t.reg (Adr.SHRD_GCAUSE g) = s.reg (Adr.SHRD_GCAUSE g)

theorem State.clearAll_unlocked {l : List Nat} {g : Nat} (hg : g ∈ l) : State.Unlocked g (s.each l State.clearLockout) := by
  refine State.each_reaches (Q := State.Unlocked) (fun t k => ?_) (fun t j k h => ?_) hg s
  · exact ⟨(t.clearLockout_lockedOutGroup k k).trans (if_pos rfl), (t.clearLockout_gcause k k).trans (if_pos rfl)⟩
  · rw [State.Unlocked, State.clearLockout_lockedOutGroup, State.clearLockout_gcause]
    split
    · exact ⟨rfl, rfl⟩
    · exact h

theorem State.clearAll_sameLock {l : List Nat} {g : Nat} (hg : g ∉ l) : s.SameLock g (s.each l State.clearLockout) := by
  refine State.each_keeps (M := s.SameLock g) (fun t k hk h => ?_) ⟨rfl, rfl⟩
  have hne : g ≠ k := fun he => hg (he ▸ hk)
  rw [State.SameLock, State.clearLockout_lockedOutGroup, State.clearLockout_gcause, if_neg hne, if_neg hne]
  exact h

theorem State.resetCleared_disc : s.resetCleared.shroud.disc = s.discAgreed :=
  State.each_keeps (M := fun t : State => t.shroud.disc = s.discAgreed) (f := State.clearLockout) (fun _ _ _ h => h) rfl

theorem State.resetCleared_pwr : s.resetCleared.pwr = s.pwr :=
  State.each_keeps (M := fun t : State => t.pwr = s.pwr) (f := State.clearLockout) (fun _ _ _ h => h) rfl

/-- The registers that the lock-outs cleared show in. -/
abbrev lockoutRegs : List Nat := Adr.SHRD_SINSTAT :: (List.range 6).map Adr.SHRD_GCAUSE

theorem State.resetCleared_regsOn {P : Nat → Prop} (h : ∀ a ∈ lockoutRegs, ¬ P a) : State.RegsOn P s s.resetCleared := by
  have hdisc : State.RegsOn P s (s.withDisc s.discAgreed) := (s.setShroud_regsOn _).trans (State.sinShow_regsOn _ (h _ (by simp)))
  refine hdisc.trans (State.each_regsOn _ fun t g hg => t.clearLockout_regsOn (h _ ?_))
  exact List.mem_cons_of_mem _ (List.mem_map_of_mem (List.mem_range.mpr ((State.mem_clearable _).mp hg).1.1))

/-! ### Events and what shows -/

theorem State.resetRaised_shroud : s.resetRaised.shroud = s.resetCleared.shroud :=
  (State.when_raise_shroud ..).trans (State.when_raise_shroud ..)

theorem State.resetRaised_regsOn {P : Nat → Prop} (h : ¬ P (Adr.PEVT Pg.SHRD)) : State.RegsOn P s.resetCleared s.resetRaised :=
  (State.when_regsOn _ (fun t => t.raise_regsOn h 1) _).trans (State.when_regsOn _ (fun t => t.raise_regsOn h 2) _)

theorem State.shroudShow_regsOn {P : Nat → Prop} (hG : ¬ P Adr.SHRD_GSTAT) (hS : ¬ P Adr.SHRD_SPEED) : State.RegsOn P s s.shroudShow :=
  (s.setReg_regsOn hG _).trans (State.setReg_regsOn _ hS _)

theorem State.shroudShow_shroud : s.shroudShow.shroud = s.shroud := s.shroudShow_within.same .shroud rfl

theorem State.resetCleared_pageOn (p : Nat) : s.resetCleared.pageOn p = s.pageOn p :=
  (State.resetCleared_regsOn (P := (· = Adr.SYS_PDSTAT)) s (by decide)).pageOn rfl s.resetCleared_pwr p

theorem State.resetRaised_cleared (hon : s.pageOn Pg.SHRD = true) {g : Nat} (h : g ∈ (s.withDisc s.discAgreed).clearable) :
    s.resetRaised.flag (Adr.PEVT Pg.SHRD) 1 = true := by
  have hsome : (!(s.withDisc s.discAgreed).clearable.isEmpty) = true := by
    rw [Bool.not_eq_true', List.isEmpty_eq_false_iff]
    exact List.ne_nil_of_mem h
  have hset : (s.resetCleared.raise Pg.SHRD 1).flag (Adr.PEVT Pg.SHRD) 1 = true :=
    State.raise_flag _ _ _ ((s.resetCleared_pageOn _).trans hon) (by decide)
  unfold State.resetRaised
  rw [hsome]
  unfold State.when
  split
  · exact State.raise_flag_mono _ _ _ hset
  · exact hset

theorem State.resetRaised_kept (hon : s.pageOn Pg.SHRD = true)
    (h : (s.withDisc s.discAgreed).clearable.length ≠ (s.withDisc s.discAgreed).lockedGroups.length) :
    s.resetRaised.flag (Adr.PEVT Pg.SHRD) 2 = true := by
  have hfirst (b : Bool) : (s.resetCleared.when b fun t => t.raise Pg.SHRD 1).pageOn Pg.SHRD = true := by
    refine ((State.when_regsOn (P := (· = Adr.SYS_PDSTAT)) _ (fun t => t.raise_regsOn (by decide) 1) b).pageOn rfl ?_ _).trans
      ((s.resetCleared_pageOn _).trans hon)
    cases b
    · rfl
    · exact State.raise_pwr ..
  unfold State.resetRaised
  rw [bne_iff_ne.mpr h]
  exact State.raise_flag _ _ _ (hfirst _) (by decide)

end

/-! ### The commands -/

section
variable {s : State}

/-- The registers that a reset writes. -/
abbrev resetRegs : List Nat := [Adr.SHRD_SINSTAT, Adr.SHRD_GSTAT, Adr.SHRD_SPEED, Adr.PEVT Pg.SHRD] ++ (List.range 6).map Adr.SHRD_GCAUSE

theorem State.safeReset_regsOn : State.RegsOn (· ∉ resetRegs) s s.safeReset := by
  have hlisted : ∀ a ∈ lockoutRegs, ¬ (a ∉ resetRegs) := by decide
  exact ((s.resetCleared_regsOn hlisted).trans (s.resetRaised_regsOn (by simp))).trans (State.shroudShow_regsOn _ (by simp) (by simp))

/-- Lock-out, recorded cause and events read after the command as after the reset's events. -/
theorem State.safeReset_shows : State.RegsOn (fun a => a = Adr.PEVT Pg.SHRD ∨ a ∈ (List.range 6).map Adr.SHRD_GCAUSE) s.resetRaised s.safeReset.settle := by
  have hirq : ∀ a, a = Adr.PEVT Pg.SHRD ∨ a ∈ (List.range 6).map Adr.SHRD_GCAUSE → irqReg a = false := by
    rintro a (rfl | ha)
    · decide
    · revert a
      decide
  exact (State.shroudShow_regsOn _ (by decide) (by decide)).trans ⟨fun a ha => State.settle_reg _ (hirq a ha)⟩

theorem State.safeReset_shroud : s.safeReset.settle.shroud = s.resetCleared.shroud := by
  rw [State.settle_shroud, State.safeReset_eq, ← s.resetRaised_shroud]
  exact State.shroudShow_shroud _

theorem State.safeReset_lockedOutGroup (g : Nat) : s.safeReset.settle.lockedOutGroup g = s.resetCleared.lockedOutGroup g := by
  unfold State.lockedOutGroup
  rw [State.safeReset_shroud]

theorem State.safeReset_gcause {g : Nat} (hg : g < 6) :
    s.safeReset.settle.reg (Adr.SHRD_GCAUSE g) = s.resetCleared.reg (Adr.SHRD_GCAUSE g) := by
  have hraised : State.RegsOn (· = Adr.SHRD_GCAUSE g) s.resetCleared s.resetRaised :=
    s.resetRaised_regsOn (by unfold Adr.SHRD_GCAUSE Adr.PEVT Pg.SHRD; omega)
  rw [State.safeReset_shows.same _ (.inr (List.mem_map_of_mem (List.mem_range.mpr hg))), hraised.same _ rfl]

theorem State.safeReset_disc : s.safeReset.settle.shroud.disc = s.discAgreed := by
  rw [State.safeReset_shroud, s.resetCleared_disc]

theorem exec_safeResetRequest {idle skew width : Nat} (hvalid : resetValid idle skew width = true) (hon : s.domOn 2 = true) :
    exec (.safeResetRequest idle skew width) s = .next s.safeReset.settle := by
  change execSafeResetRequest idle skew width s = _
  unfold execSafeResetRequest State.shroudAOn
  rw [hvalid, hon]
  rfl

theorem safeResetRequest_resets {idle skew width : Nat} {g : Fin 6} (hidle : 100 ≤ idle) (hskew : skew ≤ 20) (hmin : 50 ≤ width)
    (hmax : width ≤ 2000) (hon : s.domOn 2 = true) (hlock : s.lockedOutGroup g = true) :
    ∃ t, exec (.safeResetRequest idle skew width) s = .next t
      ∧ (((s.setShroud { s.shroud with disc := t.shroud.disc }).sinShow).causePresent g = false → t.lockedOutGroup g = false
        ∧ t.reg (Adr.SHRD_GCAUSE g) = 0#32 ∧ (s.pageOn Pg.SHRD = true → t.flag (Adr.PEVT Pg.SHRD) 1 = true))
      ∧ (((s.setShroud { s.shroud with disc := t.shroud.disc }).sinShow).causePresent g = true → t.lockedOutGroup g = true
        ∧ t.reg (Adr.SHRD_GCAUSE g) = s.reg (Adr.SHRD_GCAUSE g) ∧ (s.pageOn Pg.SHRD = true → t.flag (Adr.PEVT Pg.SHRD) 2 = true))
      ∧ (∀ i : Fin 8, bit t.shroud.disc i = (bit s.shroud.disc i && (s.sinShows i false != s.sinShows i true)))
      ∧ s.KeepsBut resetRegs t := by
  have hvalid : resetValid idle skew width = true := by simp [resetValid, hidle, hskew, hmin, hmax]
  refine ⟨_, exec_safeResetRequest hvalid hon, fun hgone => ?gone, fun hpresent => ?present, fun i => ?disc,
    State.safeReset_regsOn.keepsBut ((State.safeReset_within s).same .mem rfl)⟩
  case gone =>
    rw [State.safeReset_disc] at hgone
    have hin : g.val ∈ (s.withDisc s.discAgreed).clearable := (State.mem_clearable _).mpr ⟨⟨g.isLt, hlock⟩, hgone⟩
    obtain ⟨hfree, hcause⟩ := (s.withDisc s.discAgreed).clearAll_unlocked hin
    refine ⟨(State.safeReset_lockedOutGroup g).trans hfree, (State.safeReset_gcause g.isLt).trans hcause, fun hpage => ?_⟩
    rw [State.safeReset_shows.flag (.inl rfl)]
    exact s.resetRaised_cleared hpage hin
  case present =>
    rw [State.safeReset_disc] at hpresent
    have hout : g.val ∉ (s.withDisc s.discAgreed).clearable := fun h =>
      absurd (((State.mem_clearable _).mp h).2.symm.trans hpresent) (by decide)
    obtain ⟨hsame, hcause⟩ := (s.withDisc s.discAgreed).clearAll_sameLock hout
    refine ⟨(State.safeReset_lockedOutGroup g).trans (hsame.trans hlock), (State.safeReset_gcause g.isLt).trans (hcause.trans ?_), fun hpage => ?_⟩
    · exact ((s.setShroud_regsOn _).trans (State.sinShow_regsOn (P := (· = Adr.SHRD_GCAUSE g)) _
        (by unfold Adr.SHRD_GCAUSE Adr.SHRD_SINSTAT; omega))).same _ rfl
    · rw [State.safeReset_shows.flag (.inl rfl)]
      exact s.resetRaised_kept hpage ((s.withDisc s.discAgreed).clearable_shorter g.isLt hlock hpresent)
  case disc => rw [State.safeReset_disc, s.discAgreed_bit]

theorem safeResetRequest_ignored {idle skew width : Nat} (h : idle < 100 ∨ 20 < skew ∨ width < 50 ∨ 2000 < width) :
    ∃ t, exec (.safeResetRequest idle skew width) s = .next t ∧ t.shroud = s.shroud ∧ s.KeepsBut [] t := by
  have hinvalid : resetValid idle skew width = false := by
    simp only [resetValid, Bool.and_eq_false_iff, decide_eq_false_iff_not]
    omega
  have hexec : exec (.safeResetRequest idle skew width) s = .next s.settle := by
    change execSafeResetRequest idle skew width s = _
    unfold execSafeResetRequest
    rw [hinvalid]
    rfl
  exact ⟨_, hexec, State.settle_shroud _, State.RegsOn.refl.keepsBut rfl⟩

theorem safeResetJam_raises (hon : s.pageOn Pg.SHRD = true) : ∃ t, exec .safeResetJam s = .next t ∧ t.flag (Adr.PEVT Pg.SHRD) 2 = true
    ∧ t.shroud = s.shroud ∧ s.KeepsBut [Adr.PEVT Pg.SHRD] t := by
  have hexec : exec .safeResetJam s = .next (s.raise Pg.SHRD 2).settle := congrArg done (s.onPage_on hon _)
  refine ⟨_, hexec, ?_, (State.settle_shroud _).trans (State.raise_shroud ..), (s.raise_regsOn (by simp) 2).keepsBut (State.raise_mem ..)⟩
  rw [State.settle_flag _ (by decide)]
  exact State.raise_flag _ _ _ hon (by decide)

end

end Sys2Proof.Machine
end

section
/-! SUPPORT. SF1 in both channels (R145, R153): no group that it acts on runs; the end of SS1 and the final STO (R157), and the settling of the
statement on resets. -/

namespace Sys2Proof.Machine

/-! ### Selections (R153, R154) -/

/-- A group under SF1 is selected neither RUN nor SS1. -/
theorem State.selection_sf1 (s : State) (c : Channel) (m : Image) (hold : Bool) (g : Nat) {d : GroupDec} (h : d.fns.testBit 0 = true) :
    pathRuns (s.selection c m hold g d) = false := by
  have hfns : (d.fns == 0 || (d.fns == 2 && d.ss1.isSome)) = false := by
    have h0 : d.fns ≠ 0 := fun he => by simp [he] at h
    have h2 : d.fns ≠ 2 := fun he => by simp [he] at h
    simp [h0, h2]
  unfold State.selection
  rw [hfns, Bool.and_false, if_neg Bool.false_ne_true]
  split
  · rfl
  split
  · split <;> rfl
  · rfl

/-- A group selected again has a selection that the rule gave it, from a channel with the same state and functions. -/
theorem Channel.selectAgain_gst {Q : Gst → Prop} {rule : Channel → Nat → Gst} {fns : Nat} {g : Nat}
    (hrule : ∀ k : Channel, (k.dec g).fns = fns → Q (rule k g)) (l : List Nat) (c : Channel) (hc : (c.dec g).fns = fns)
    (h : g ∈ l ∨ Q (c.dec g).gst) : Q ((c.selectAgain rule l).dec g).gst := by
  unfold Channel.selectAgain
  induction l generalizing c with
  | nil => exact h.resolve_left (by simp)
  | cons j l ih =>
    rw [List.foldl_cons]
    by_cases hj : g = j
    · subst hj
      refine ih _ ?_ (.inr ?_) <;> rw [Channel.dec_putDec, if_pos rfl]
      · exact hc
      · exact hrule c hc
    · have hkeep (d : GroupDec) : (c.putDec j d).dec g = c.dec g := (c.dec_putDec j d g).trans (if_neg hj)
      refine ih _ ?_ ?_ <;> rw [hkeep]
      · exact hc
      · exact h.imp_left fun hin => (List.mem_cons.mp hin).resolve_left hj

/-- Both channels decide that group g does not run. -/
def State.Stopped (s : State) (g : Nat) : Prop := pathRuns (s.shroud.a.dec g).gst = false ∧ pathRuns (s.shroud.b.dec g).gst = false

section
variable {s : State} {g : Nat}

/-- After both channels have selected again, no group under SF1 runs. -/
theorem State.reselect_stopped (hg : g < 6) (h : s.Sf1 g) : s.reselect.Stopped g := by
  unfold State.reselect
  extract_lets pick
  have hpick (b : Bool) (c : Channel) (hc : (c.dec g).fns.testBit 0 = true) : pathRuns ((pick b c).dec g).gst = false :=
    Channel.selectAgain_gst (Q := fun sel => pathRuns sel = false) (fun k hk => s.selection_sf1 _ _ _ _ (hk ▸ hc)) _ c rfl
      (.inl (List.mem_range.mpr hg))
  have hsame := ((State.shroudLines_sameChannels (s.setShroud { s.shroud with a := pick false s.shroud.a, b := pick true s.shroud.b })).trans
    (State.pathAll_sameChannels _)).past (State.shroudShow_within _) rfl
  unfold State.Stopped
  rw [hsame.a, hsame.b]
  exact ⟨hpick false _ h.1, hpick true _ h.2⟩

theorem State.forceSf1_inState {st : Nat} (cause : Nat) (h : s.InState st) : (s.forceSf1 g cause).InState st := by
  rcases s.forceSf1_shroud g cause with ⟨-, hsame⟩ | hadd
  · rw [hsame]
    exact h
  · unfold State.InState
    rw [hadd]
    exact h

theorem State.forceSf1_stateA (cause : Nat) : (s.forceSf1 g cause).shroud.a.state = s.shroud.a.state := by
  rcases s.forceSf1_shroud g cause with ⟨-, hsame⟩ | hadd
  · rw [hsame]
  · rw [hadd]
    rfl

theorem State.reselect_stateA : s.reselect.shroud.a.state = s.shroud.a.state := by
  unfold State.reselect
  extract_lets pick
  have hsame := ((State.shroudLines_sameChannels (s.setShroud { s.shroud with a := pick false s.shroud.a, b := pick true s.shroud.b })).trans
    (State.pathAll_sameChannels _)).past (State.shroudShow_within _) rfl
  rw [hsame.a]
  exact Channel.selectAgain_state _ s.shroud.a _

theorem ne_of_pathRuns_false {sel : Gst} (h : pathRuns sel = false) : sel ≠ .run ∧ sel ≠ .ss1 := by
  constructor <;> rintro rfl <;> exact absurd h (by decide)

end

/-! ### The commands -/

section
variable {s : State}

theorem ss1Timeout_stops {h : Fin 2} (hss1 : (s.shroud.a.dec h).ss1.isSome = true) : ∃ t, exec (.ss1Timeout h) s = .next t
    ∧ (t.shroud.a.dec h).fns.testBit 0 = true ∧ (t.shroud.b.dec h).fns.testBit 0 = true
    ∧ (t.shroud.a.dec h).gst ≠ .run ∧ (t.shroud.a.dec h).gst ≠ .ss1 ∧ t.shroud.a.state = s.shroud.a.state := by
  have hexec : exec (.ss1Timeout h) s = .next (s.forceSf1 h 9).reselect.settle :=
    congrArg done (if_pos (by rw [hss1, Bool.true_or]))
  obtain ⟨hA, hB⟩ := State.reselect_sf1 (s.forceSf1_self h 9)
  have hstop := State.reselect_stopped (by omega) (s.forceSf1_self h 9)
  obtain ⟨hrun, hnoSs1⟩ := ne_of_pathRuns_false hstop.1
  refine ⟨_, hexec, ?_⟩
  rw [State.settle_shroud]
  exact ⟨hA, hB, hrun, hnoSs1, State.reselect_stateA.trans (State.forceSf1_stateA 9)⟩

variable {g : Fin 6}

/-- The supplies of a group cut: its bit, no other's, and no channel. -/
theorem State.cutGroup_cuts (s : State) (g : Fin 6) : bit (s.cutGroup g true).shroud.cut g = true
    ∧ ∀ h : Fin 6, h ≠ g → bit (s.cutGroup g true).shroud.cut h = bit s.shroud.cut h := by
  by_cases hcut : bit s.shroud.cut g = true
  · have hsame : s.cutGroup g true = s := if_pos hcut
    rw [hsame]
    exact ⟨hcut, fun _ _ => rfl⟩
  · have hshroud : (s.cutGroup g true).shroud.cut = setBit s.shroud.cut g true := by
      unfold State.cutGroup
      rw [if_neg hcut]
      dsimp only
      split
      · rw [(State.groupSupply_within _ g (!true)).same .shroud rfl]
        rfl
      · rfl
    rw [hshroud]
    exact ⟨bit_setBit_self _ _ (by omega), fun h hne => bit_setBit_ne _ _ (Fin.val_ne_of_ne hne.symm)⟩

theorem finalSto_cuts (ha : (s.shroud.a.dec g).gst = .l) (hb : (s.shroud.b.dec g).gst = .l) (hfa : (s.shroud.a.dec g).fns.testBit 0 = true)
    (hfb : (s.shroud.b.dec g).fns.testBit 0 = true) : ∃ t, exec (.finalSto g) s = .next t ∧ bit t.shroud.cut g = true
      ∧ (∀ h : Fin 6, h ≠ g → bit t.shroud.cut h = bit s.shroud.cut h) ∧ t.shroud.a = s.shroud.a ∧ t.shroud.b = s.shroud.b := by
  have hexec : exec (.finalSto g) s = .next (s.cutGroup g true).shroudShow.settle := by
    refine congrArg done (if_pos ?_)
    dsimp only
    rw [ha, hb, hfa, hfb]
    rfl
  have hsame := s.cutGroup_sameChannels g true
  obtain ⟨hcut, hothers⟩ := s.cutGroup_cuts g
  refine ⟨_, hexec, ?_⟩
  rw [State.settle_shroud, State.shroudShow_shroud]
  exact ⟨hcut, hothers, hsame.a, hsame.b⟩

theorem finalSto_holdsX (h : (s.shroud.a.dec g).gst = .x ∨ (s.shroud.a.dec g).gst = .xh ∨ (s.shroud.b.dec g).gst = .x
    ∨ (s.shroud.b.dec g).gst = .xh) : ∃ t, exec (.finalSto g) s = .next t ∧ t.shroud = s.shroud ∧ s.KeepsBut [] t := by
  have hexec : exec (.finalSto g) s = .next s.settle := by
    refine congrArg done (if_neg ?_)
    dsimp only
    rcases h with h | h | h | h <;> rw [h] <;> simp
  exact ⟨_, hexec, State.settle_shroud _, State.RegsOn.refl.keepsBut rfl⟩

end

/-- Settles O32: a valid pulse clears what it may, an invalid one nothing; the end of SS1 and a final STO go through both channels. -/
theorem safeResets : Obligations.SafeResets := by
  unfold Obligations.SafeResets
  refine ⟨fun s => ⟨?valid, ?invalid, safeResetJam_raises⟩, fun g s => ⟨fun h => ss1Timeout_stops, finalSto_cuts, finalSto_holdsX⟩⟩
  case valid => exact fun idle skew width g hidle hskew hmin hmax hon hlock => safeResetRequest_resets hidle hskew hmin hmax hon hlock
  case invalid => exact fun idle skew width h => safeResetRequest_ignored h

end Sys2Proof.Machine
end

section
/-! SUPPORT. Shroud's cycles (R143, R152 to R154): what a channel decides for each group, and under what it selects RUN. -/

namespace Sys2Proof.Machine

/-! ### One group's decision -/

/-- The functions n with those demanded added. -/
def addDemands (l : List Demand) (n : Nat) : Nat := l.foldl (fun n e => n ||| 2 ^ e.1) n

theorem addDemands_mono (l : List Demand) {n k : Nat} (h : n.testBit k = true) : (addDemands l n).testBit k = true :=
  List.foldlRecOn (motive := fun v : Nat => v.testBit k = true) l _ h fun v hv e _ => by rw [Nat.testBit_or, hv, Bool.true_or]

/-- No function at the end means that none was demanded. -/
theorem addDemands_eq_zero {l : List Demand} {n : Nat} (h : addDemands l n = 0) : l = [] := by
  cases l with
  | nil => rfl
  | cons e l =>
    have hset : (addDemands l (n ||| 2 ^ e.1)).testBit e.1 = true := addDemands_mono l (by rw [Nat.testBit_or, Nat.testBit_two_pow_self, Bool.or_true])
    rw [show addDemands l (n ||| 2 ^ e.1) = 0 from h, Nat.zero_testBit] at hset
    exact absurd hset Bool.false_ne_true

section
variable {s : State} {b : Bool} {c : Channel} {m : Image} {g : Nat}

/-- RUN is selected only in OPERATE or COMMISSION, for a group without a function and without a hold. -/
theorem State.selection_run {hold : Bool} {d : GroupDec} (h : s.selection c m hold g d = .run) :
    d.fns = 0 ∧ (c.state = 1 ∨ c.state = 2) ∧ hold = false := by
  unfold State.selection at h
  split at h
  next hc =>
    simp only [Bool.and_eq_true, Bool.or_eq_true, beq_iff_eq, Bool.not_eq_true'] at hc
    obtain ⟨⟨⟨hstate, hhold⟩, -⟩, -⟩ := hc
    split at h
    next h0 => exact ⟨h0, hstate, hhold⟩
    next => exact absurd h (by decide)
  next =>
    split at h
    · exact absurd h (by decide)
    split at h
    · split at h <;> exact absurd h (by decide)
    · exact absurd h (by decide)

/-- The functions decided: those before with what is demanded, and SF1 where SS1 ends. -/
theorem State.decide_fns : (s.decide_ b c m g).fns = addDemands (s.demands c m (s.vehicleAt b (s.fld Adr.SHRD_NSTILL 15 0)) g) (c.dec g).fns
    ∨ (s.decide_ b c m g).fns = addDemands (s.demands c m (s.vehicleAt b (s.fld Adr.SHRD_NSTILL 15 0)) g) (c.dec g).fns ||| 1 := by
  unfold State.decide_ addDemands
  extract_lets d veh fns v ss1 ends e
  change (if ends then fns ||| 1 else fns) = fns ∨ (if ends then fns ||| 1 else fns) = fns ||| 1
  cases ends
  · exact .inl rfl
  · exact .inr rfl

/-- The selection decided follows from the functions decided. -/
theorem State.decide_gst : (s.decide_ b c m g).gst =
    s.selection c m (s.holds m (s.vehicleAt b (s.fld Adr.SHRD_NSTILL 15 0)) g) g (s.decide_ b c m g) := rfl

/-- A function that acts stays. -/
theorem State.decide_fns_mono {k : Nat} (h : (c.dec g).fns.testBit k = true) : (s.decide_ b c m g).fns.testBit k = true := by
  rcases State.decide_fns (s := s) (b := b) (c := c) (m := m) (g := g) with heq | heq
  · rw [heq, addDemands_mono _ h]
  · rw [heq, Nat.testBit_or, addDemands_mono _ h, Bool.true_or]

/-- RUN is decided only without a function, a demand or a hold. -/
theorem State.decide_run (h : (s.decide_ b c m g).gst = .run) : (s.decide_ b c m g).fns = 0 ∧ (c.state = 1 ∨ c.state = 2)
    ∧ s.demands c m (s.vehicleAt b (s.fld Adr.SHRD_NSTILL 15 0)) g = []
    ∧ s.holds m (s.vehicleAt b (s.fld Adr.SHRD_NSTILL 15 0)) g = false := by
  rw [State.decide_gst] at h
  obtain ⟨hfns, hstate, hhold⟩ := State.selection_run h
  refine ⟨hfns, hstate, addDemands_eq_zero (n := (c.dec g).fns) ?_, hhold⟩
  rcases State.decide_fns (s := s) (b := b) (c := c) (m := m) (g := g) with heq | heq
  · exact heq.symm.trans hfns
  · exact (Nat.or_eq_zero_iff.mp (heq.symm.trans hfns)).1

end

/-! ### One channel's cycle -/

theorem Channel.dec_putDecs (f : Nat → GroupDec) (l : List Nat) (c : Channel) (j : Nat) :
    ((l.map fun g => (g, f g)).foldl (fun k e => k.putDec e.1 e.2) c).dec j = if j ∈ l then f j else c.dec j := by
  induction l generalizing c with
  | nil => simp
  | cons g l ih =>
    rw [List.map_cons, List.foldl_cons, ih, Channel.dec_putDec]
    by_cases hj : j = g
    · simp [hj]
    · simp [hj]

section
variable (s : State) (b : Bool)

/-- A channel that has taken its image, its speed classes and the vehicle's speed. -/
def State.looked : Channel :=
  { s.chanOf b with
    image := s.shroudImage b
    cls := (List.range 3).foldl (fun l g => Store.put (fun _ => Speed.unknown) g
      (speedClass (s.classLimits g).1 (s.classLimits g).2 ((s.chanOf b).clsOf g) (s.chanSpeed b g)) l) (s.chanOf b).cls
    park := s.vehicleAt b (s.fld Adr.SHRD_PLKCFG 15 0) }

/-- The channel with every group decided. -/
def State.decided : Channel :=
  ((List.range 6).map fun g => (g, s.decide_ b (s.looked b) (s.shroudImage b) g)).foldl (fun k e => k.putDec e.1 e.2) (s.looked b)

theorem State.decided_image : (s.decided b).image = s.shroudImage b :=
  List.foldlRecOn (motive := fun k : Channel => k.image = s.shroudImage b) _ _ rfl fun _ h _ _ => h

theorem State.decided_state : (s.decided b).state = (s.chanOf b).state :=
  List.foldlRecOn (motive := fun k : Channel => k.state = (s.chanOf b).state) _ _ rfl fun _ h _ _ => h

theorem State.decided_dec {g : Nat} (hg : g < 6) : (s.decided b).dec g = s.decide_ b (s.looked b) (s.shroudImage b) g :=
  (Channel.dec_putDecs _ _ _ g).trans (if_pos (List.mem_range.mpr hg))

theorem State.when_shroud {f : State → State} (hf : ∀ t, (f t).shroud = t.shroud) (p : Bool) : (s.when p f).shroud = s.shroud := by
  cases p
  · rfl
  · exact hf s

theorem State.noteFns_shroud (old new : GroupDec) (g cause : Nat) : (s.noteFns old new g cause).shroud = s.shroud := by
  unfold State.noteFns
  split
  · rfl
  · exact (State.raise_shroud ..).trans (s.when_shroud (fun t => t.setReg_shroud ..) _)

theorem State.debugSeen_shroud (old new : Image) : (s.debugSeen old new).shroud = s.shroud := by
  unfold State.debugSeen
  dsimp only
  split
  · exact State.raise_shroud ..
  · rfl

theorem State.putChannel_chanOf (c : Channel) : (s.putChannel b c).chanOf b = c := by cases b <;> rfl

/-- After its cycle the channel is as it decided. -/
theorem State.channelCycle_chanOf : (s.channelCycle b).chanOf b = s.decided b := by
  unfold State.channelCycle
  extract_lets m c cls c1 ds s1 c2 s2
  have hs1 : s1.shroud = s.shroud :=
    List.foldlRecOn (motive := fun t : State => t.shroud = s.shroud) _ _ rfl fun t h e _ => (t.noteFns_shroud ..).trans h
  have hs2 : s2.shroud = (s1.putChannel b c2).shroud :=
    (State.when_shroud _ (fun t => t.raise_shroud Pg.SHRD 6) _).trans (State.debugSeen_shroud ..)
  have hc2 : s2.chanOf b = c2 := by
    unfold State.chanOf
    rw [hs2]
    exact s1.putChannel_chanOf b c2
  change _ = c2
  rw [← hc2]
  clear_value s2
  cases b <;> rfl

/-- What a cycle decides for a group: latched functions stay, and RUN needs every condition. -/
theorem State.decided_spec {g : Nat} (hg : g < 6) :
    (∀ k, ((s.chanOf b).dec g).fns.testBit k = true → ((s.decided b).dec g).fns.testBit k = true)
    ∧ (((s.decided b).dec g).gst = .run → ((s.decided b).dec g).fns = 0 ∧ ((s.chanOf b).state = 1 ∨ (s.chanOf b).state = 2)
      ∧ s.demands (s.chanOf b) (s.shroudImage b) (s.vehicleAt b (s.fld Adr.SHRD_NSTILL 15 0)) g = []
      ∧ s.holds (s.shroudImage b) (s.vehicleAt b (s.fld Adr.SHRD_NSTILL 15 0)) g = false) := by
  rw [s.decided_dec b hg]
  exact ⟨fun _ => State.decide_fns_mono, State.decide_run⟩

end

/-! ### The two cycles -/

section
variable {s : State}

theorem State.cycleA_channel (hon : s.domOn 2 = true) : s.cycleA.shroud.a = s.decided false := by
  have hcycle : s.cycleA = ((s.channelCycle false).shroudLines).pathAll.shroudShow := if_pos hon
  have hsame := ((State.shroudLines_sameChannels (s.channelCycle false)).trans (State.pathAll_sameChannels _)).past (State.shroudShow_within _) rfl
  rw [hcycle, hsame.a]
  exact s.channelCycle_chanOf false

/-- Channel B's stand-still counts raised, with which its cycle begins. -/
def State.quietCounted (s : State) : State :=
  s.each [0, 1, 2] fun t g => t.putTwl g { t.twl g with bQuiet := min ((t.twl g).bQuiet + 1) 400 }

theorem State.quietCounted_chanOf : s.quietCounted.chanOf true = s.shroud.b :=
  congrArg Shroud.b ((State.each_within (fun _ _ => State.putTwl_within ..) (.refl 268435456 s)).same .shroud rfl)

theorem State.cycleB_channel (hdark : s.pwr.phase ≠ .dark) (hsleep : s.pwr.phase ≠ .sleep) :
    s.cycleB.shroud.b = s.quietCounted.decided true := by
  have hcycle : s.cycleB = (((s.quietCounted.channelCycle true).shroudLines).each (List.range 6) State.restoreGroup).shroudShow := by
    have hon : s.shroudBOn = true := by
      unfold State.shroudBOn
      rw [bne_iff_ne.mpr hdark, bne_iff_ne.mpr hsleep]
      rfl
    unfold State.cycleB
    rw [if_pos hon]
    rfl
  have hsame := ((State.shroudLines_sameChannels (s.quietCounted.channelCycle true)).trans
    (.each (fun t g => t.restoreGroup_sameChannels g) (List.range 6) _)).past (State.shroudShow_within _) rfl
  rw [hcycle, hsame.b]
  exact s.quietCounted.channelCycle_chanOf true

theorem shroudACycle_decides (hon : s.domOn 2 = true) : ∃ t, exec .shroudACycle s = .next t ∧ t.shroud.a.image = s.shroudImage false
    ∧ t.shroud.a.state = s.shroud.a.state
    ∧ ∀ g : Fin 6, (∀ k, (s.shroud.a.dec g).fns.testBit k = true → (t.shroud.a.dec g).fns.testBit k = true)
      ∧ ((t.shroud.a.dec g).gst = .run → (t.shroud.a.dec g).fns = 0 ∧ (s.shroud.a.state = 1 ∨ s.shroud.a.state = 2)
        ∧ s.demands s.shroud.a (s.shroudImage false) (s.vehicleAt false (s.fld Adr.SHRD_NSTILL 15 0)) g = []
        ∧ s.holds (s.shroudImage false) (s.vehicleAt false (s.fld Adr.SHRD_NSTILL 15 0)) g = false) := by
  have hexec : exec .shroudACycle s = .next s.cycleA.settle := rfl
  refine ⟨_, hexec, ?_⟩
  rw [State.settle_shroud, State.cycleA_channel hon]
  exact ⟨s.decided_image false, s.decided_state false, fun g => s.decided_spec false g.isLt⟩

theorem shroudBCycle_decides (hdark : s.pwr.phase ≠ .dark) (hsleep : s.pwr.phase ≠ .sleep) : ∃ t, exec .shroudBCycle s = .next t
    ∧ t.shroud.b.state = s.shroud.b.state
    ∧ ∀ g : Fin 6, (∀ k, (s.shroud.b.dec g).fns.testBit k = true → (t.shroud.b.dec g).fns.testBit k = true)
      ∧ ((t.shroud.b.dec g).gst = .run → (t.shroud.b.dec g).fns = 0 ∧ (s.shroud.b.state = 1 ∨ s.shroud.b.state = 2)) := by
  have hexec : exec .shroudBCycle s = .next s.cycleB.settle := rfl
  refine ⟨_, hexec, ?_⟩
  rw [State.settle_shroud, State.cycleB_channel hdark hsleep]
  rw [s.quietCounted.decided_state true, State.quietCounted_chanOf]
  refine ⟨rfl, fun g => ?_⟩
  obtain ⟨hstays, hruns⟩ := s.quietCounted.decided_spec true g.isLt
  rw [State.quietCounted_chanOf] at hstays hruns
  refine ⟨hstays, fun hrun => ?_⟩
  obtain ⟨hfns, hstate, -⟩ := hruns hrun
  exact ⟨hfns, hstate⟩

end

end Sys2Proof.Machine
end

section
/-! SUPPORT. The exchange of Shroud's channels (R144, R145, R154), FAILSAFE, the entry into OPERATE (R147), and the settling of the statement on
Shroud's decisions. -/

namespace Sys2Proof.Machine

/-! ### An exchange whose frame arrived (R144, R154) -/

section
variable (s : State)

/-- Differing images, and differing states, in a row, this exchange counted. -/
def State.imageCount : Nat := if s.shroud.a.image != s.shroud.b.image then s.shroud.diffImages + 1 else 0
def State.stateCount : Nat := if s.statesDiffer then s.shroud.diffStates + 1 else 0

/-- The exchange counted in Shroud's state and in XSTAT's exchanges. -/
def State.exchanged : State :=
  (s.setShroud { s.shroud with
    missed := 0
    diffImages := s.imageCount
    diffStates := s.stateCount
    classDiff := w32 (maskOf 2 fun g => s.shroud.a.clsOf g != s.shroud.b.clsOf g) }).wrap Adr.SHRD_XSTAT 15 0

/-- A difference counted in XSTAT as well. -/
def State.compared : State :=
  s.exchanged.when (s.shroud.a.image != s.shroud.b.image || s.statesDiffer) fun u => u.bump Adr.SHRD_XSTAT 31 16

theorem State.compared_shroud : s.compared.shroud = s.exchanged.shroud := State.when_shroud _ (f := fun u => u.bump Adr.SHRD_XSTAT 31 16) (fun _ => rfl) _

theorem State.compared_regsOn {P : Nat → Prop} (h : ¬ P Adr.SHRD_XSTAT) : State.RegsOn P s s.compared :=
  ((s.setShroud_regsOn _).trans (State.wrap_regsOn _ h 15 0)).trans (State.when_regsOn _ (fun u => u.bump_regsOn h 31 16) _)

theorem State.compared_mem : s.compared.mem = s.mem := by
  unfold State.compared State.when
  split <;> rfl

theorem State.exchanged_count : s.exchanged.fld Adr.SHRD_XSTAT 15 0 = (s.fld Adr.SHRD_XSTAT 15 0 + 1) % 65536 :=
  State.fld_setFld_self _ _ _ _ _ (by decide)

theorem State.exchanged_differences : s.exchanged.fld Adr.SHRD_XSTAT 31 16 = s.fld Adr.SHRD_XSTAT 31 16 := by
  unfold State.exchanged State.wrap
  rw [State.fld_eq, State.reg_setFld, if_pos rfl, bits_setBits_ne _ _ _ _ _ _ (by decide) (by decide)]
  rfl

variable {s}

/-- Both channels run where Shroud A is powered. -/
theorem State.bothOn (h : s.domOn 2 = true) : ¬ (!s.shroudAOn || !s.shroudBOn) = true := by
  have hphase : s.pwr.phase ≠ .dark ∧ s.pwr.phase ≠ .sleep := by
    simp only [State.domOn, Bool.or_eq_true, Bool.and_eq_true, bne_iff_ne] at h
    exact (h.resolve_left (by decide)).1
  unfold State.shroudAOn State.shroudBOn
  rw [h, bne_iff_ne.mpr hphase.1, bne_iff_ne.mpr hphase.2]
  decide

theorem State.exchange_arrived (hon : s.domOn 2 = true) (rcOff : Bool) : s.exchange false rcOff =
    s.compared.when (decide (3 ≤ s.imageCount) || decide (2 ≤ s.stateCount) || rcOff) State.xcmpFault := by
  unfold State.exchange
  rw [if_neg (State.bothOn hon), if_neg Bool.false_ne_true]
  rfl

theorem State.exchange_missing (hon : s.domOn 2 = true) (rcOff : Bool) : s.exchange true rcOff =
    (s.setShroud { s.shroud with missed := s.shroud.missed + 1 }).when (decide (2 ≤ s.shroud.missed + 1) || rcOff) State.xcmpFault := by
  unfold State.exchange
  rw [if_neg (State.bothOn hon), if_pos rfl]

/-- Below the limits of R144 an exchange only counts. -/
theorem State.exchange_counts (hon : s.domOn 2 = true) (hi : s.imageCount < 3) (hs : s.stateCount < 2) : s.exchange false false = s.compared := by
  rw [State.exchange_arrived hon, decide_eq_false (by omega), decide_eq_false (by omega)]
  rfl

end

/-! ### The start-up stages that an exchange may end (R58) -/

section
variable (s : State)

/-- What follows an exchange in the stages of the start. -/
def State.stagesAdvanced : State := s.stageFour.bootAdvance

theorem State.stagesAdvanced_within : s.WithinM 2050 s.stagesAdvanced := by
  have hstage : s.WithinM 2 s.stageFour := State.WithinM.ite (fun _ => State.setStage_within ..) (fun _ => .refl ..)
  exact (State.bootAdvance_within _).step rfl (hstage.step rfl (.refl ..))

theorem State.stagesAdvanced_shroud : s.stagesAdvanced.shroud = s.shroud := s.stagesAdvanced_within.same .shroud rfl

theorem State.stagesAdvanced_regsOn {P : Nat → Prop} (hB : ¬ P Adr.SYS_BOOTSTAT) (hE : ¬ P (Adr.PEVT Pg.SYS)) :
    State.RegsOn P s s.stagesAdvanced := by
  have hstage : State.RegsOn P s s.stageFour := by
    unfold State.stageFour
    split
    · exact s.setStage_regsOn hB 4
    · exact .refl
  exact hstage.trans (State.bootAdvance_regsOn _ hB hE)

/-- XSTAT and STATE of Shroud's page read after the command as after the exchange. -/
theorem State.stagesAdvanced_settles : State.RegsOn (fun a => a = Adr.SHRD_XSTAT ∨ a = Adr.SHRD_STATE) s s.stagesAdvanced.settle := by
  refine (s.stagesAdvanced_regsOn (by decide) (by decide)).trans ⟨?_⟩
  rintro a (rfl | rfl)
  · exact State.settle_reg _ (by decide)
  · exact State.settle_reg _ (by decide)

theorem exec_xcmpExchange (missing rcOff : Bool) :
    exec (.xcmpExchange missing rcOff) s = .next (s.exchange missing rcOff).stagesAdvanced.settle := rfl

end

/-! ### FAILSAFE (R145) -/

section
variable {s : State}

theorem State.forceSf1_state (t : State) (g cause : Nat) : State.RegsOn ShrdState t (t.forceSf1 g cause) := by
  unfold State.forceSf1
  extract_lets put u
  split
  · exact .refl
  · exact ((t.when_regsOn (fun u => u.setReg_regsOn (by unfold ShrdState Adr.SHRD_GCAUSE Adr.SHRD_STATE; omega) _) _).trans
      (State.raise_regsOn _ (by decide) 0)).trans (State.setShroud_regsOn _ _)

/-- Both channels in FAILSAFE, shown, with every group under SF1. -/
def State.FailSafe (s : State) : Prop := s.InState 3 ∧ s.reg Adr.SHRD_STATE = w32 3 ∧ ∀ g, g < 6 → s.Sf1 g

/-- An XCMP fault outside FAILSAFE enters it. -/
theorem State.xcmpFault_failsafe (h : s.shroud.a.state ≠ 3) : s.xcmpFault.FailSafe ∧ ∀ g, g < 6 → s.xcmpFault.Stopped g := by
  obtain ⟨hin, hreg⟩ := State.shroudEnter_enters h
  have hforced : ((s.shroudEnter 3).each (List.range 6) fun t g => t.forceSf1 g 12).FailSafe :=
    ⟨State.each_keeps (M := fun t => t.InState 3) (fun _ _ _ ht => State.forceSf1_inState 12 ht) hin,
      ((State.each_regsOn _ fun t g _ => t.forceSf1_state g 12).same _ rfl).trans hreg,
      fun g hg => State.each_reaches (Q := fun g t => t.Sf1 g) (fun t k => t.forceSf1_self k 12) (fun t j _ ht => t.forceSf1_mono j 12 ht)
        (List.mem_range.mpr hg) _⟩
  have hfault : s.xcmpFault = (((s.shroudEnter 3).each (List.range 6) fun t g => t.forceSf1 g 12).raise Pg.SHRD 7).reselect := if_neg h
  rw [hfault]
  generalize (s.shroudEnter 3).each (List.range 6) (fun t g => t.forceSf1 g 12) = u at hforced
  obtain ⟨hstate, hshown, hsf1⟩ := hforced
  have hraised : State.SameChannels u (u.raise Pg.SHRD 7) := .of_shroud (State.raise_shroud ..)
  have hinRaised : (u.raise Pg.SHRD 7).InState 3 := by
    unfold State.InState
    rw [State.raise_shroud]
    exact hstate
  refine ⟨⟨State.reselect_inState hinRaised, ?_, fun g hg => State.reselect_sf1 (hraised.sf1 (hsf1 g hg))⟩,
    fun g hg => State.reselect_stopped hg (hraised.sf1 (hsf1 g hg))⟩
  rw [(State.reselect_state _).same _ rfl, State.raise_reg_ne _ _ _ (by decide)]
  exact hshown

/-- At the limits of R144, and at a loss of the clock, an exchange is an XCMP fault, of a state whose channels are as they were. -/
theorem State.exchange_faults {missing rcOff : Bool} (hon : s.domOn 2 = true) (h : rcOff = true ∨ (missing = true ∧ s.shroud.missed = 1) ∨
      (missing = false ∧ s.shroud.a.image ≠ s.shroud.b.image ∧ s.shroud.diffImages = 2) ∨
      (missing = false ∧ s.statesDiffer = true ∧ s.shroud.diffStates = 1)) :
    ∃ u : State, s.exchange missing rcOff = u.xcmpFault ∧ u.shroud.a = s.shroud.a := by
  cases missing with
  | true =>
    have hlimit : (decide (2 ≤ s.shroud.missed + 1) || rcOff) = true := by
      rcases h with rfl | ⟨-, hmissed⟩ | ⟨hno, -⟩ | ⟨hno, -⟩
      · exact Bool.or_true _
      · rw [hmissed]
        rfl
      · exact absurd hno (by decide)
      · exact absurd hno (by decide)
    exact ⟨_, (State.exchange_missing hon rcOff).trans (if_pos hlimit), rfl⟩
  | false =>
    have hlimit : (decide (3 ≤ s.imageCount) || decide (2 ≤ s.stateCount) || rcOff) = true := by
      rcases h with rfl | ⟨hno, -⟩ | ⟨-, himage, hcount⟩ | ⟨-, hdiffer, hcount⟩
      · exact Bool.or_true _
      · exact absurd hno (by decide)
      · rw [State.imageCount, if_pos (bne_iff_ne.mpr himage), hcount]
        rfl
      · rw [State.stateCount, if_pos hdiffer, hcount, Bool.or_assoc]
        exact Bool.or_true _
    exact ⟨s.compared, (State.exchange_arrived hon rcOff).trans (if_pos hlimit), (congrArg Shroud.a s.compared_shroud).trans rfl⟩

end

/-! ### The commands -/

section
variable {s : State}

theorem xcmpExchange_agrees (hon : s.domOn 2 = true) (himage : s.shroud.a.image = s.shroud.b.image) (hstates : s.statesDiffer = false) :
    ∃ t, exec (.xcmpExchange false false) s = .next t
    ∧ t.shroud.diffImages = 0 ∧ t.shroud.diffStates = 0 ∧ t.shroud.missed = 0
    ∧ t.fld Adr.SHRD_XSTAT 15 0 = (s.fld Adr.SHRD_XSTAT 15 0 + 1) % 65536 ∧ t.fld Adr.SHRD_XSTAT 31 16 = s.fld Adr.SHRD_XSTAT 31 16
    ∧ t.shroud.a = s.shroud.a ∧ t.shroud.b = s.shroud.b ∧ s.KeepsBut [Adr.SHRD_XSTAT, Adr.SYS_BOOTSTAT, Adr.PEVT Pg.SYS] t := by
  have hsame : (s.shroud.a.image != s.shroud.b.image) = false := by rw [himage, bne_self_eq_false]
  have hi : s.imageCount = 0 := if_neg (ne_true_of_eq_false hsame)
  have hs : s.stateCount = 0 := if_neg (ne_true_of_eq_false hstates)
  have hexchange : s.exchange false false = s.compared := State.exchange_counts hon (by omega) (by omega)
  have hcompared : s.compared = s.exchanged := by
    unfold State.compared
    rw [hsame, hstates]
    rfl
  have hshown := s.compared.stagesAdvanced_settles
  have hframe : State.RegsOn (· ∉ [Adr.SHRD_XSTAT, Adr.SYS_BOOTSTAT, Adr.PEVT Pg.SYS]) s s.compared.stagesAdvanced :=
    (s.compared_regsOn (by simp)).trans (State.stagesAdvanced_regsOn _ (by simp) (by simp))
  refine ⟨_, hexchange ▸ exec_xcmpExchange s false false, ?_⟩
  rw [hshown.fld (.inl rfl), hshown.fld (.inl rfl), State.settle_shroud, State.stagesAdvanced_shroud, s.compared_shroud]
  refine ⟨hi, hs, rfl, ?_, ?_, rfl, rfl, hframe.keepsBut ((s.compared.stagesAdvanced_within.same .mem rfl).trans s.compared_mem)⟩
  · rw [hcompared, s.exchanged_count]
  · rw [hcompared, s.exchanged_differences]

theorem xcmpExchange_differs (hon : s.domOn 2 = true) (himage : s.shroud.a.image ≠ s.shroud.b.image) (hcount : s.shroud.diffImages = 0)
    (hstates : s.statesDiffer = false) : ∃ t, exec (.xcmpExchange false false) s = .next t ∧ t.shroud.diffImages = 1 ∧ t.shroud.a = s.shroud.a
      ∧ t.shroud.b = s.shroud.b ∧ t.fld Adr.SHRD_XSTAT 31 16 = min (s.fld Adr.SHRD_XSTAT 31 16 + 1) 65535 := by
  have hdiffer : (s.shroud.a.image != s.shroud.b.image) = true := bne_iff_ne.mpr himage
  have hi : s.imageCount = 1 := by rw [State.imageCount, if_pos hdiffer, hcount]
  have hs : s.stateCount = 0 := if_neg (ne_true_of_eq_false hstates)
  have hexchange : s.exchange false false = s.compared := State.exchange_counts hon (by omega) (by omega)
  have hcompared : s.compared = s.exchanged.bump Adr.SHRD_XSTAT 31 16 := by
    unfold State.compared
    rw [hdiffer]
    rfl
  refine ⟨_, hexchange ▸ exec_xcmpExchange s false false, ?_⟩
  rw [s.compared.stagesAdvanced_settles.fld (.inl rfl), State.settle_shroud, State.stagesAdvanced_shroud, s.compared_shroud]
  refine ⟨hi, rfl, rfl, ?_⟩
  rw [hcompared, State.bump, State.fld_setFld_self _ _ _ _ _ (by decide), s.exchanged_differences]
  exact Nat.mod_eq_of_lt (by omega)

theorem xcmpExchange_faults (missing rcOff : Bool) (hon : s.domOn 2 = true) (hstate : s.shroud.a.state ≠ 3)
    (h : rcOff = true ∨ (missing = true ∧ s.shroud.missed = 1) ∨
      (missing = false ∧ s.shroud.a.image ≠ s.shroud.b.image ∧ s.shroud.diffImages = 2) ∨
      (missing = false ∧ s.statesDiffer = true ∧ s.shroud.diffStates = 1)) : ∃ t, exec (.xcmpExchange missing rcOff) s = .next t
    ∧ t.shroud.a.state = 3 ∧ t.shroud.b.state = 3 ∧ t.reg Adr.SHRD_STATE = 3#32
    ∧ ∀ g : Fin 6, (t.shroud.a.dec g).fns.testBit 0 = true ∧ (t.shroud.b.dec g).fns.testBit 0 = true
      ∧ (t.shroud.a.dec g).gst ≠ .run ∧ (t.shroud.b.dec g).gst ≠ .run := by
  obtain ⟨u, hexchange, hchannel⟩ := State.exchange_faults hon h
  obtain ⟨⟨⟨hA, hB⟩, hshown, hsf1⟩, hstop⟩ := State.xcmpFault_failsafe (s := u) (by rw [hchannel]; exact hstate)
  refine ⟨_, hexchange ▸ exec_xcmpExchange s missing rcOff, ?_⟩
  rw [u.xcmpFault.stagesAdvanced_settles.same _ (.inr rfl), State.settle_shroud, State.stagesAdvanced_shroud]
  refine ⟨hA, hB, hshown, fun g => ?_⟩
  obtain ⟨hsfA, hsfB⟩ := hsf1 g g.isLt
  obtain ⟨hstopA, hstopB⟩ := hstop g g.isLt
  exact ⟨hsfA, hsfB, (ne_of_pathRuns_false hstopA).1, (ne_of_pathRuns_false hstopB).1⟩

theorem shroudOperateEntry_enters (h : s.operateReady = true) :
    ∃ t, exec .shroudOperateEntry s = .next t ∧ t.shroud.a.state = 1 ∧ t.shroud.b.state = 1 ∧ t.reg Adr.SHRD_STATE = 1#32 := by
  have hinit : s.shroud.a.state = 0 := by
    simp only [State.operateReady, Bool.and_eq_true, beq_iff_eq] at h
    obtain ⟨⟨⟨⟨⟨⟨⟨hinit, -⟩, -⟩, -⟩, -⟩, -⟩, -⟩, -⟩ := h
    exact hinit
  have hexec : exec .shroudOperateEntry s = .next (s.shroudEnter 1).reselect.bootAdvance.settle := congrArg done (if_pos h)
  obtain ⟨⟨hA, hB⟩, hshown⟩ := State.enterReselect (s := s) (st := 1) (by omega)
  have hstages : State.RegsOn ShrdState (s.shroudEnter 1).reselect (s.shroudEnter 1).reselect.bootAdvance :=
    State.bootAdvance_regsOn _ (by decide) (by decide)
  refine ⟨_, hexec, ?_⟩
  rw [State.settle_reg _ (by decide), hstages.same _ rfl, State.settle_shroud, (State.bootAdvance_within _).same .shroud rfl]
  exact ⟨hA, hB, hshown⟩

end

/-- Settles O33: a cycle decides each group by `State.decide_`, and an exchange counts, or enters FAILSAFE with SF1 on every group. -/
theorem shroudDecides : Obligations.ShroudDecides := by
  unfold Obligations.ShroudDecides
  exact ⟨fun s => ⟨shroudACycle_decides, shroudBCycle_decides⟩,
    fun s => ⟨xcmpExchange_agrees, xcmpExchange_differs, xcmpExchange_faults, shroudOperateEntry_enters⟩⟩

end Sys2Proof.Machine
end

section
/-! SUPPORT. Gate channels (R240, R248, R250): what each operation of one channel leaves in its CSTAT and in its private state, and that it touches
nothing else. -/

namespace Sys2Proof.Machine

/-! ### Where an operation of one channel stays -/

/-- What decides a gate of a channel's private state: all but the wait for the partner and the time of its confirmation. -/
def Chan.acting (c : Chan) : Chan := { c with wait := false, confAt := 0 }

/-- t differs from s in CSTAT of channel ch, without its code bit, and in that channel's wait and confirmation at most. -/
structure State.ChanOnly (ch : Nat) (s t : State) : Prop where
  within : s.WithinM 16777218 t
  regs : State.RegsOn (· ≠ cstat ch) s t
  chans : ∀ c, c ≠ ch → t.chan c = s.chan c
  acting : (t.chan ch).acting = (s.chan ch).acting
  code : t.flag (cstat ch) 9 = s.flag (cstat ch) 9

section
variable {s t u : State} {ch : Nat}

theorem State.ChanOnly.refl : State.ChanOnly ch s s := ⟨.refl .., .refl, fun _ _ => rfl, rfl, rfl⟩

theorem State.ChanOnly.trans (h : State.ChanOnly ch s t) (k : State.ChanOnly ch t u) : State.ChanOnly ch s u :=
  ⟨k.within.step rfl h.within, h.regs.trans k.regs, fun c hc => (k.chans c hc).trans (h.chans c hc), k.acting.trans h.acting,
    k.code.trans h.code⟩

theorem State.ChanOnly.ite {p : Prop} {_ : Decidable p} (h : State.ChanOnly ch s t) (k : State.ChanOnly ch s u) :
    State.ChanOnly ch s (if p then t else u) := by
  split
  · exact h
  · exact k

theorem State.ChanOnly.when {f : State → State} (h : ∀ t, State.ChanOnly ch t (f t)) (p : Bool) : State.ChanOnly ch s (s.when p f) :=
  (h s).ite .refl

theorem State.ChanOnly.cmd (h : State.ChanOnly ch s t) : (t.chan ch).cmd = (s.chan ch).cmd := (congrArg Chan.cmd h.acting :)

theorem State.ChanOnly.path (h : State.ChanOnly ch s t) : (t.chan ch).b = (s.chan ch).b := (congrArg Chan.b h.acting :)

variable (s ch)

theorem State.putChan_chanOnly (v : Chan) (h : v.acting = (s.chan ch).acting) : State.ChanOnly ch s (s.putChan ch v) := by
  refine ⟨(State.putChan_within ..).step rfl (.refl ..), s.putChan_regsOn ch v, fun c hc => (s.chan_putChan ch v c).trans (if_neg hc), ?_, rfl⟩
  rw [State.chan_putChan_self]
  exact h

theorem State.setPhase_chanOnly (p : Nat) : State.ChanOnly ch s (s.setPhase ch p) :=
  ⟨(State.setPhase_within ..).step rfl (.refl ..), s.setFld_regsOn (by simp) 3 0 p, fun _ _ => rfl, rfl,
    s.flag_setFld _ 3 0 p 9 (by decide) (by decide)⟩

theorem State.setLow_chanOnly (low : Bool) : State.ChanOnly ch s (s.setFlag (cstat ch) 10 low) :=
  ⟨(State.setFlag_within ..).step rfl (.refl ..), s.setFlag_regsOn (by simp) 10 low, fun _ _ => rfl, rfl, s.flag_setFlag_ne _ low (by decide)⟩

theorem State.confirm_chanOnly : State.ChanOnly ch s (s.confirm ch) := (s.setLow_chanOnly ch true).trans (State.putChan_chanOnly _ ch _ rfl)

theorem State.hoist_chanOnly : State.ChanOnly ch s (s.hoist ch) := (s.setPhase_chanOnly ch _).trans (State.putChan_chanOnly _ ch _ rfl)

theorem State.strike_chanOnly : State.ChanOnly ch s (s.strike ch) :=
  .ite (s.setPhase_chanOnly ch 4) (.ite (s.setPhase_chanOnly ch 4) (.ite (s.setPhase_chanOnly ch 5)
    ((s.setPhase_chanOnly ch 0).trans (State.confirm_chanOnly _ ch))))

/-- A turn-on that has begun to wait. -/
def State.waiting : State := (s.setFlag (cstat ch) 10 false).putChan ch { s.chan ch with wait := true }

/-- A turn-on that waits no more. -/
def State.unwaiting : State := s.putChan ch { s.chan ch with wait := false }

theorem State.waiting_chanOnly : State.ChanOnly ch s (s.waiting ch) := (s.setLow_chanOnly ch false).trans (State.putChan_chanOnly _ ch _ rfl)

theorem State.unwaiting_chanOnly : State.ChanOnly ch s (s.unwaiting ch) := s.putChan_chanOnly ch _ rfl

theorem State.turnOn_chanOnly : State.ChanOnly ch s (s.turnOn ch) :=
  .ite .refl (.ite ((s.waiting_chanOnly ch).trans (State.hoist_chanOnly _ ch)) (s.waiting_chanOnly ch))

theorem State.turnOff_chanOnly : State.ChanOnly ch s (s.turnOff ch) :=
  .ite ((s.unwaiting_chanOnly ch).trans (State.strike_chanOnly _ ch))
    (.ite ((s.unwaiting_chanOnly ch).trans (.when (fun t => t.confirm_chanOnly ch) _)) .refl)

theorem State.settleGate_chanOnly : State.ChanOnly ch s (s.settleGate ch) :=
  .ite .refl (.ite (.ite .refl (s.turnOn_chanOnly ch)) (s.turnOff_chanOnly ch))

end

/-! ### Phases and the gate -/

section
variable (s : State) (ch : Nat)

theorem State.setPhase_phase {p : Nat} (h : p < 16) : (s.setPhase ch p).phase ch = p :=
  (s.fld_setFld_self _ 3 0 p (by decide)).trans (Nat.mod_eq_of_lt h)

theorem State.confirm_phase : (s.confirm ch).phase ch = s.phase ch := s.fld_setFlag_ne (cstat ch) true (by decide)

theorem State.confirm_low : (s.confirm ch).flag (cstat ch) 10 = true := s.flag_setFlag_self (cstat ch) true (by decide)

theorem State.confirm_confAt : ((s.confirm ch).chan ch).confAt = s.now := congrArg Chan.confAt (State.chan_putChan_self ..)

theorem State.confirm_wait : ((s.confirm ch).chan ch).wait = (s.chan ch).wait := (congrArg Chan.wait (State.chan_putChan_self ..) :)

theorem State.waiting_phase : (s.waiting ch).phase ch = s.phase ch := s.fld_setFlag_ne (cstat ch) false (by decide)

theorem State.waiting_low : (s.waiting ch).flag (cstat ch) 10 = false := s.flag_setFlag_self (cstat ch) false (by decide)

theorem State.waiting_wait : ((s.waiting ch).chan ch).wait = true := congrArg Chan.wait (State.chan_putChan_self ..)

theorem State.unwaiting_wait : ((s.unwaiting ch).chan ch).wait = false := congrArg Chan.wait (State.chan_putChan_self ..)

variable {s ch}

theorem State.gateOn_of_phase {p : Nat} (h : s.phase ch = p) : s.gateOn ch = (p == 1 || p == 2 || p == 3) := by
  unfold State.gateOn
  rw [h]

theorem State.reefing_of_gateOn (h : s.gateOn ch = true) : s.reefing ch = false := by
  unfold State.gateOn at h
  unfold State.reefing
  generalize s.phase ch = p at h
  simp only [Bool.or_eq_true, beq_iff_eq] at h
  rcases h with (rfl | rfl) | rfl <;> rfl

variable (s ch)

/-- A turn-on that begins: the gate is on, nothing waits, and the confirmation is as it was. -/
theorem State.hoist_on : (s.hoist ch).gateOn ch = true ∧ ((s.hoist ch).chan ch).wait = false
    ∧ (s.hoist ch).flag (cstat ch) 10 = s.flag (cstat ch) 10 := by
  have hwait : ((s.hoist ch).chan ch).wait = false := congrArg Chan.wait (State.chan_putChan_self ..)
  have hlow : (s.hoist ch).flag (cstat ch) 10 = s.flag (cstat ch) 10 := s.flag_setFld _ 3 0 _ 10 (by decide) (by decide)
  refine ⟨?_, hwait, hlow⟩
  unfold State.hoist
  extract_lets on p
  have hp : p = 1 ∨ p = 2 ∨ p = 3 := by
    unfold p
    split_ifs <;> simp
  have hphase : ((s.setPhase ch p).putChan ch { s.chan ch with wait := false }).phase ch = p := s.setPhase_phase ch (by omega)
  rw [State.gateOn_of_phase hphase]
  rcases hp with h | h | h <;> rw [h] <;> rfl

/-- A turn-off that begins: the gate is off, and the wait is as it was. -/
theorem State.strike_off : (s.strike ch).gateOn ch = false ∧ ((s.strike ch).chan ch).wait = (s.chan ch).wait := by
  have hphase {p : Nat} (h : p < 16) : (s.setPhase ch p).gateOn ch = (p == 1 || p == 2 || p == 3) :=
    State.gateOn_of_phase (s.setPhase_phase ch h)
  have hlow : ((s.setPhase ch 0).confirm ch).gateOn ch = false :=
    State.gateOn_of_phase ((State.confirm_phase _ ch).trans (s.setPhase_phase ch (by decide)))
  unfold State.strike
  dsimp only
  split
  · exact ⟨hphase (by decide), rfl⟩
  split
  · exact ⟨hphase (by decide), rfl⟩
  split
  · exact ⟨hphase (by decide), rfl⟩
  · exact ⟨hlow, State.confirm_wait _ ch⟩

variable {s ch}

theorem State.turnOn_waits (h : (s.chan ch).wait = true) : s.turnOn ch = s := if_pos h

theorem State.turnOn_begins (h : (s.chan ch).wait = false) :
    s.turnOn ch = if (s.waiting ch).partnerLowLong ch then (s.waiting ch).hoist ch else s.waiting ch := if_neg (ne_true_of_eq_false h)

/-- After a turn-on the gate is on or waits for the partner. -/
theorem State.turnOn_on : (s.turnOn ch).gateOn ch = true ∨ ((s.turnOn ch).chan ch).wait = true := by
  cases hw : (s.chan ch).wait with
  | true =>
    rw [State.turnOn_waits hw]
    exact .inr hw
  | false =>
    rw [State.turnOn_begins hw]
    split
    · exact .inl (State.hoist_on _ ch).1
    · exact .inr (s.waiting_wait ch)

theorem State.turnOff_strikes (h : s.gateOn ch = true) : s.turnOff ch = (s.unwaiting ch).strike ch := if_pos h

theorem State.turnOff_drops (h : s.gateOn ch = false) :
    s.turnOff ch = if (s.chan ch).wait then (s.unwaiting ch).when (s.phase ch == 0) fun t => t.confirm ch else s :=
  if_neg (ne_true_of_eq_false h)

/-- After a turn-off the gate is neither on nor waiting. -/
theorem State.turnOff_off : (s.turnOff ch).gateOn ch = false ∧ ((s.turnOff ch).chan ch).wait = false := by
  cases hon : s.gateOn ch with
  | true =>
    rw [State.turnOff_strikes hon]
    obtain ⟨hoff, hwait⟩ := (s.unwaiting ch).strike_off ch
    exact ⟨hoff, hwait.trans (s.unwaiting_wait ch)⟩
  | false =>
    rw [State.turnOff_drops hon]
    split
    · unfold State.when
      split
      · exact ⟨(State.gateOn_of_phase (State.confirm_phase _ ch)).trans hon, (State.confirm_wait _ ch).trans (s.unwaiting_wait ch)⟩
      · exact ⟨hon, s.unwaiting_wait ch⟩
    next hw => exact ⟨hon, eq_false_of_ne_true hw⟩

/-- After a turn-off of a channel that is low and confirmed it is so still, since when it was or from now on. -/
theorem State.turnOff_low (hphase : s.phase ch = 0) (hlow : s.flag (cstat ch) 10 = true) (hconf : (s.chan ch).confAt = s.now) :
    (s.turnOff ch).phase ch = 0 ∧ (s.turnOff ch).flag (cstat ch) 10 = true ∧ ((s.turnOff ch).chan ch).confAt = s.now := by
  rw [State.turnOff_drops (State.gateOn_of_phase hphase)]
  split
  · rw [hphase]
    exact ⟨(State.confirm_phase _ ch).trans hphase, State.confirm_low _ ch, State.confirm_confAt _ ch⟩
  · exact ⟨hphase, hlow, hconf⟩

/-! ### The gate follows what is wanted (R250) -/

theorem State.settleGate_on (hreef : s.reefing ch = false) (hwant : s.wantsOn ch = true) :
    s.settleGate ch = if s.gateOn ch then s else s.turnOn ch := by
  unfold State.settleGate
  rw [if_neg (ne_true_of_eq_false hreef), if_pos hwant]

theorem State.settleGate_off (hreef : s.reefing ch = false) (hwant : s.wantsOn ch = false) : s.settleGate ch = s.turnOff ch := by
  unfold State.settleGate
  rw [if_neg (ne_true_of_eq_false hreef), if_neg (ne_true_of_eq_false hwant)]

/-- The registers that R250 reads: GSTAT of the group and SAFEOUT of the channel. -/
abbrev DecidingReg (a : Nat) : Prop := a % 256 = 0x44 ∨ a % 256 = 0x18

theorem cstat_not_deciding (ch : Nat) : ¬ DecidingReg (cstat ch) := by
  have hmod := cstat_mod ch
  unfold DecidingReg
  omega

theorem State.ownLatch_congr {t : State} (h : State.RegsOn DecidingReg s t) : t.ownLatch ch = s.ownLatch ch :=
  h.flag (.inl (by unfold Adr.GGRP_GSTAT; omega)) _

theorem State.safeOut_congr {t : State} (h : State.RegsOn DecidingReg s t) (sel : Gst) : t.safeOut ch sel = s.safeOut ch sel := by
  unfold State.safeOut
  rw [h.same _ (.inr (by unfold Adr.GGRP_SAFEOUT; omega))]

theorem State.wantsOn_congr {t : State} (h : State.RegsOn DecidingReg s t) (hact : (t.chan ch).acting = (s.chan ch).acting) :
    t.wantsOn ch = s.wantsOn ch := by
  simp only [Chan.acting, Chan.mk.injEq] at hact
  obtain ⟨hcmd, -, hhold, hb, huv, hsupply, -, -⟩ := hact
  unfold State.wantsOn
  simp only [hsupply, huv, hb, hcmd, hhold, State.ownLatch_congr h, State.safeOut_congr h]

theorem State.ChanOnly.deciding {t : State} (h : State.ChanOnly ch s t) : State.RegsOn DecidingReg s t :=
  h.regs.mono fun _ ha he => cstat_not_deciding ch (he ▸ ha)

theorem State.ChanOnly.keepsBut {t : State} (h : State.ChanOnly ch s t) : s.KeepsBut [cstat ch] t.settle :=
  (h.regs.mono fun _ ha he => ha (he ▸ List.mem_cons_self)).keepsBut (h.within.same .mem rfl)

end

end Sys2Proof.Machine
end

section
/-! SUPPORT. The commands of one gate channel (R155, R240, R248, R250), and the settling of their statement. -/

namespace Sys2Proof.Machine

/-! ### What the settling of the lines leaves of a channel -/

section
variable (u : State)

theorem State.settle_chan (c : Nat) : u.settle.chan c = u.chan c := by
  unfold State.chan
  rw [State.settle_chans]

theorem State.settle_gates : State.RegsOn (0x80000 ≤ ·) u u.settle :=
  ⟨fun a ha => State.settle_reg _ (irqReg_eq_false (by omega))⟩

theorem State.settle_phase (ch : Nat) : u.settle.phase ch = u.phase ch := u.settle_gates.fld (cstat_ge ch) 3 0

theorem State.settle_gateOn (ch : Nat) : u.settle.gateOn ch = u.gateOn ch := State.gateOn_of_phase (u.settle_phase ch)

end

/-! ### Edges of the command (R240, R248) -/

theorem posOf_lt : ∀ ch : Fin 36, posOf ch < 8 := by decide

theorem partner_apart : ∀ ch : Fin 36, partnerOf ch ≠ ch ∧ cstat (partnerOf ch) ≠ cstat ch := by decide

section
variable {s : State} {ch : Fin 36}

/-- How long the partner has been low depends on neither CSTAT nor the private state of the channel itself. -/
theorem State.partnerLowLong_congr {t : State} (hregs : State.RegsOn (· ≠ cstat ch) s t) (hchans : ∀ c : Nat, c ≠ ch → t.chan c = s.chan c)
    (hpwr : t.pwr = s.pwr) : t.partnerLowLong ch = s.partnerLowLong ch := by
  obtain ⟨hpartner, hstat⟩ := partner_apart ch
  have hmod := cstat_mod ch
  have hunused : t.unusedChan (partnerOf ch) = s.unusedChan (partnerOf ch) := hregs.flag (by unfold chcfg Adr.GGRP_CHCFG; omega) 13
  have hlow : t.flag (cstat (partnerOf ch)) 10 = s.flag (cstat (partnerOf ch)) 10 := hregs.flag hstat 10
  have hmin : t.dtMin ch = s.dtMin ch := congrArg (6 * ·) (hregs.fld (by unfold Adr.GGRP_MISC; omega) 5 0)
  have hnow : t.now = s.now := congrArg Power.dtime hpwr
  unfold State.partnerLowLong State.partnerLow
  rw [hunused, hlow, hmin, hnow, hchans _ hpartner]

/-- The command at the island high, and no hold. -/
def State.commanded (s : State) (ch : Nat) : State :=
  (s.putChan ch { s.chan ch with cmd := true }).putChan ch { (s.putChan ch { s.chan ch with cmd := true }).chan ch with hold := false }

theorem State.commanded_chan (s : State) (ch : Nat) : (s.commanded ch).chan ch = { s.chan ch with cmd := true, hold := false } := by
  unfold State.commanded
  rw [State.chan_putChan_self, State.chan_putChan_self]

theorem State.commanded_chans (s : State) {ch c : Nat} (h : c ≠ ch) : (s.commanded ch).chan c = s.chan c := by
  unfold State.commanded
  rw [State.chan_putChan, if_neg h, State.chan_putChan, if_neg h]

theorem State.commanded_within (s : State) (ch : Nat) : s.WithinM 16777216 (s.commanded ch) :=
  (State.putChan_within ..).step rfl (State.putChan_within ..)

/-- A rising command of a channel that neither reefs nor latches. -/
theorem State.commandEdge_rises {ch : Nat} (hcmd : (s.chan ch).cmd = false) (hreef : s.reefing ch = false) (hown : s.ownLatch ch = false) :
    s.commandEdge ch true = (s.commanded ch).settleGate ch := by
  have hclears : (s.putChan ch { s.chan ch with cmd := true }).edgeClears ch = false := by
    unfold State.edgeClears
    rw [show (s.putChan ch { s.chan ch with cmd := true }).ownLatch ch = false from hown]
    rfl
  unfold State.commandEdge State.risingEdge
  dsimp only
  rw [hcmd, if_neg Bool.false_ne_true, if_pos rfl, if_neg (ne_true_of_eq_false hreef), hclears]
  rfl

theorem State.commandEdge_falls {ch : Nat} (hcmd : (s.chan ch).cmd = true) :
    s.commandEdge ch false = (s.putChan ch { s.chan ch with cmd := false }).settleGate ch := by
  unfold State.commandEdge State.fallingEdge
  rw [hcmd, if_neg Bool.true_eq_false_eq_False, if_neg Bool.false_ne_true]

/-- Under path B's RUN the command and the hold decide. -/
theorem State.wantsOn_run {ch : Nat} (hsupply : (s.chan ch).supply = true) (huv : (s.chan ch).uv = false) (hown : s.ownLatch ch = false)
    (hb : (s.chan ch).b = .run) : s.wantsOn ch = ((s.chan ch).cmd && !(s.chan ch).hold) := by
  unfold State.wantsOn
  simp only [hsupply, huv, hown, hb]
  rfl

/-- Under path B's RUN a low command wants the gate off. -/
theorem State.wantsOn_low {ch : Nat} (hb : (s.chan ch).b = .run) (hcmd : (s.chan ch).cmd = false) : s.wantsOn ch = false := by
  unfold State.wantsOn
  simp only [hb, hcmd, Bool.false_and, ite_self]

/-- Under a safe code of path B the safe output decides. -/
theorem State.wantsOn_safe {ch : Nat} (hsupply : (s.chan ch).supply = true) (huv : (s.chan ch).uv = false) (hown : s.ownLatch ch = false)
    (hb : (s.chan ch).b ≠ .run) : s.wantsOn ch = s.safeOut ch (s.chan ch).b.sel := by
  unfold State.wantsOn
  simp only [hsupply, huv, hown]
  cases hpath : (s.chan ch).b
  · exact absurd hpath hb
  all_goals rfl

/-- A low channel that wants its gate on, and did not yet, turns it on or waits for the partner. -/
theorem State.settleGate_begins {ch : Nat} (hphase : s.phase ch = 0) (hwait : (s.chan ch).wait = false) (hwant : s.wantsOn ch = true) :
    s.settleGate ch = if (s.waiting ch).partnerLowLong ch then (s.waiting ch).hoist ch else s.waiting ch := by
  have hreef : s.reefing ch = false := by
    unfold State.reefing
    rw [hphase]
    rfl
  rw [State.settleGate_on hreef hwant, State.gateOn_of_phase hphase, State.turnOn_begins hwait]
  rfl

/-- The command of a unit's output reaches the islands of the group that is bound to it and follows it. -/
theorem exec_gateCommandEdge (level : Bool) (hbinds : s.groupBinds (groupOf ch) = true) (hruns : pathRuns (s.group (groupOf ch)).pathA = true)
    (hlatch : s.groupLatch (groupOf ch) = false) (hen : s.pageEn (Pg.GGRP (groupOf ch)) = true) :
    exec (.gateCommandEdge ch level) s = .next ((s.driveOut (groupOf ch) (posOf ch) level).commandEdge ch level).settle := by
  have hedge : s.edgeArrives ch level = (s.driveOut (groupOf ch) (posOf ch) level).commandEdge ch level := by
    unfold State.edgeArrives
    dsimp only
    rw [hruns, hlatch, hen, hbinds]
    rfl
  exact congrArg done hedge

/-- The output of the source unit is at the level of the edge. -/
theorem State.driveOut_out (s : State) (ch : Fin 36) (level : Bool) :
    ((s.driveOut (groupOf ch) (posOf ch) level).pwm (s.userUnit (groupOf ch))).out.testBit (posOf ch) = level := by
  unfold State.driveOut
  dsimp only
  rw [State.pwm_putPwm_self, maskOf_testBit, decide_eq_true (posOf_lt ch), Bool.true_and, if_pos rfl]

theorem State.driveOut_chan (s : State) (g pos : Nat) (level : Bool) (c : Nat) : (s.driveOut g pos level).chan c = s.chan c := by
  unfold State.chan
  rw [(s.driveOut_within g pos level).same .chans rfl]

theorem State.driveOut_regsOn (s : State) {P : Nat → Prop} (g pos : Nat) (level : Bool) : State.RegsOn P s (s.driveOut g pos level) :=
  .of_regs ((s.driveOut_within g pos level).same .regs rfl)

theorem State.commandEdge_out (u : State) (ch : Nat) (level : Bool) (k : Nat) : (u.commandEdge ch level).settle.pwm k = u.pwm k :=
  State.pwm_congr ((State.settle_pwms _).trans ((State.commandEdge_within u ch level).same .pwms rfl)) k

end

/-! The gate once the command has come: v is s with another command in one channel, and with other outputs of units. -/

section
variable {s v : State} {ch : Fin 36} (hv : s.WithinM 25165824 v)
include hv

theorem State.WithinM.commanded_regsOn {P : Nat → Prop} : State.RegsOn P s v := .of_regs (hv.same .regs rfl)

theorem State.WithinM.commanded_keepsBut {t : State} (h : State.ChanOnly ch v t) : s.KeepsBut [cstat ch] t.settle :=
  ((hv.commanded_regsOn.trans h.regs).mono fun _ ha he => ha (he ▸ List.mem_cons_self)).keepsBut
    ((h.within.same .mem rfl).trans (hv.same .mem rfl))

theorem State.WithinM.commanded_phase : v.phase ch = s.phase ch :=
  (hv.commanded_regsOn (P := fun _ => True)).fld trivial 3 0

theorem State.settleGate_rises (hchan : v.chan ch = { s.chan ch with cmd := true, hold := false }) (hchans : ∀ c : Nat, c ≠ ch → v.chan c = s.chan c)
    (hsupply : (s.chan ch).supply = true) (huv : (s.chan ch).uv = false) (hb : (s.chan ch).b = .run) (hown : s.ownLatch ch = false)
    (hphase : s.phase ch = 0) (hwait : (s.chan ch).wait = false) : (v.settleGate ch).flag (cstat ch) 10 = false
      ∧ (s.partnerLowLong ch = true → (v.settleGate ch).gateOn ch = true ∧ ((v.settleGate ch).chan ch).wait = false)
      ∧ (s.partnerLowLong ch = false → (v.settleGate ch).phase ch = 0 ∧ ((v.settleGate ch).chan ch).wait = true) := by
  have hwaiting := v.waiting_chanOnly ch
  have hvphase : v.phase ch = 0 := hv.commanded_phase.trans hphase
  have hwant : v.wantsOn ch = true := by
    rw [State.wantsOn_run (by rw [hchan]; exact hsupply) (by rw [hchan]; exact huv) ((State.ownLatch_congr hv.commanded_regsOn).trans hown)
      (by rw [hchan]; exact hb), hchan]
    rfl
  have hlong : (v.waiting ch).partnerLowLong ch = s.partnerLowLong ch :=
    State.partnerLowLong_congr (hv.commanded_regsOn.trans hwaiting.regs) (fun c hc => (hwaiting.chans c hc).trans (hchans c hc))
      ((hwaiting.within.same .pwr rfl).trans (hv.same .pwr rfl))
  rw [State.settleGate_begins hvphase (by rw [hchan]; exact hwait) hwant, hlong]
  obtain ⟨hon, hgone, hlow⟩ := (v.waiting ch).hoist_on ch
  refine ⟨?_, fun hl => ?_, fun hl => ?_⟩
  · split
    · exact hlow.trans (v.waiting_low ch)
    · exact v.waiting_low ch
  · rw [if_pos hl]
    exact ⟨hon, hgone⟩
  · rw [if_neg (ne_true_of_eq_false hl)]
    exact ⟨(v.waiting_phase ch).trans hvphase, v.waiting_wait ch⟩

theorem State.settleGate_falls (hchan : v.chan ch = { s.chan ch with cmd := false }) (hb : (s.chan ch).b = .run) (hon : s.gateOn ch = true) :
    (v.settleGate ch).gateOn ch = false := by
  have hvon : v.gateOn ch = true := (State.gateOn_of_phase hv.commanded_phase).trans hon
  rw [State.settleGate_off (State.reefing_of_gateOn hvon) (State.wantsOn_low (by rw [hchan]; exact hb) (by rw [hchan]))]
  exact State.turnOff_off.1

end

section
variable {s : State} {ch : Fin 36}

theorem gateCommandEdge_rises (hbinds : s.groupBinds (groupOf ch) = true) (hruns : pathRuns (s.group (groupOf ch)).pathA = true)
    (hlatch : s.groupLatch (groupOf ch) = false) (hen : s.pageEn (Pg.GGRP (groupOf ch)) = true) (hcmd : (s.chan ch).cmd = false)
    (hsupply : (s.chan ch).supply = true) (huv : (s.chan ch).uv = false) (hb : (s.chan ch).b = .run) (hown : s.ownLatch ch = false)
    (hphase : s.phase ch = 0) (hwait : (s.chan ch).wait = false) : ∃ t, exec (.gateCommandEdge ch true) s = .next t
      ∧ (t.chan ch).cmd = true ∧ t.flag (cstat ch) 10 = false
      ∧ (s.partnerLowLong ch = true → t.gateOn ch = true ∧ (t.chan ch).wait = false)
      ∧ (s.partnerLowLong ch = false → t.phase ch = 0 ∧ (t.chan ch).wait = true)
      ∧ (t.pwm (s.userUnit (groupOf ch))).out.testBit (posOf ch) = true ∧ s.KeepsBut [cstat ch] t := by
  have hout := s.driveOut_out ch true
  have hu := s.driveOut_within (groupOf ch) (posOf ch) true
  have huchan := s.driveOut_chan (groupOf ch) (posOf ch) true
  have huregs := s.driveOut_regsOn (P := fun _ => True) (groupOf ch) (posOf ch) true
  have hexec := exec_gateCommandEdge true hbinds hruns hlatch hen
  generalize s.driveOut (groupOf ch) (posOf ch) true = u at hout hu huchan huregs hexec
  have hureef : u.reefing ch = false := by
    unfold State.reefing
    rw [show u.phase ch = 0 from (huregs.fld trivial 3 0).trans hphase]
    rfl
  have hedge : u.commandEdge ch true = (u.commanded ch).settleGate ch :=
    State.commandEdge_rises (by rw [huchan]; exact hcmd) hureef ((State.ownLatch_congr (huregs.mono fun _ _ => trivial)).trans hown)
  have hv : s.WithinM 25165824 (u.commanded ch) := (u.commanded_within ch).step rfl (hu.step rfl (.refl ..))
  have hchan : (u.commanded ch).chan ch = { s.chan ch with cmd := true, hold := false } := by rw [State.commanded_chan, huchan]
  have hchans (c : Nat) (hc : c ≠ ch) : (u.commanded ch).chan c = s.chan c := (u.commanded_chans hc).trans (huchan c)
  have honly := (u.commanded ch).settleGate_chanOnly ch
  obtain ⟨hlow, hon, hwaits⟩ := State.settleGate_rises hv hchan hchans hsupply huv hb hown hphase hwait
  refine ⟨_, hexec, ?_, ?_, fun hl => ?_, fun hl => ?_, ?_, ?_⟩
  · rw [hedge, State.settle_chan, honly.cmd, hchan]
  · rw [hedge, (State.settle_gates _).flag (cstat_ge ch), hlow]
  · rw [hedge, State.settle_gateOn, State.settle_chan]
    exact hon hl
  · rw [hedge, State.settle_phase, State.settle_chan]
    exact hwaits hl
  · rw [State.commandEdge_out, hout]
  · rw [hedge]
    exact hv.commanded_keepsBut honly

theorem gateCommandEdge_falls (hbinds : s.groupBinds (groupOf ch) = true) (hruns : pathRuns (s.group (groupOf ch)).pathA = true)
    (hlatch : s.groupLatch (groupOf ch) = false) (hen : s.pageEn (Pg.GGRP (groupOf ch)) = true) (hcmd : (s.chan ch).cmd = true)
    (hb : (s.chan ch).b = .run) (hon : s.gateOn ch = true) : ∃ t, exec (.gateCommandEdge ch false) s = .next t
      ∧ (t.chan ch).cmd = false ∧ t.gateOn ch = false
      ∧ (t.pwm (s.userUnit (groupOf ch))).out.testBit (posOf ch) = false ∧ s.KeepsBut [cstat ch] t := by
  have hout := s.driveOut_out ch false
  have hu := s.driveOut_within (groupOf ch) (posOf ch) false
  have huchan := s.driveOut_chan (groupOf ch) (posOf ch) false ch
  have hexec := exec_gateCommandEdge false hbinds hruns hlatch hen
  generalize s.driveOut (groupOf ch) (posOf ch) false = u at hout hu huchan hexec
  have hedge := State.commandEdge_falls (s := u) (ch := ch) (by rw [huchan]; exact hcmd)
  have hchan : (u.putChan ch { u.chan ch with cmd := false }).chan ch = { s.chan ch with cmd := false } := by
    rw [State.chan_putChan_self, huchan]
  have hv : s.WithinM 25165824 (u.putChan ch { u.chan ch with cmd := false }) := (State.putChan_within ..).step rfl (hu.step rfl (.refl ..))
  have honly := (u.putChan ch { u.chan ch with cmd := false }).settleGate_chanOnly ch
  refine ⟨_, hexec, ?_, ?_, ?_, ?_⟩
  · rw [hedge, State.settle_chan, honly.cmd, hchan]
  · rw [hedge, State.settle_gateOn, State.settleGate_falls hv hchan hb hon]
  · rw [State.commandEdge_out, hout]
  · rw [hedge]
    exact hv.commanded_keepsBut honly

end

/-! ### Path B (R155, R250) -/

section
variable {s : State} {ch : Fin 36}

/-- A code of path B taken, and shown in CSTAT. -/
def State.decoded (s : State) (ch : Nat) (b : PathB) : State :=
  (s.putChan ch { s.chan ch with b := b }).setFlag (cstat ch) 9 (b != .run)

theorem State.pathBCode_decodes {ch : Nat} (b : PathB) (hsupply : (s.chan ch).supply = true) :
    s.pathBCode ch b = (s.decoded ch b).settleGate ch := by
  unfold State.pathBCode
  exact congrArg (State.settleGate · ch) (if_pos hsupply)

theorem State.decoded_chan (s : State) (ch : Nat) (b : PathB) : (s.decoded ch b).chan ch = { s.chan ch with b := b } := State.chan_putChan_self ..

theorem State.decoded_regsOn (s : State) (ch : Nat) (b : PathB) : State.RegsOn (· ≠ cstat ch) s (s.decoded ch b) :=
  (s.putChan_regsOn ch _).trans (State.setFlag_regsOn _ (by simp) 9 _)

theorem State.decoded_reefing (s : State) (ch : Nat) (b : PathB) : (s.decoded ch b).reefing ch = s.reefing ch := by
  have hphase : (s.decoded ch b).phase ch = s.phase ch := State.fld_setFlag_ne _ (cstat ch) _ (by decide)
  unfold State.reefing
  rw [hphase]

/-- A gate that is wanted on is on or waits. -/
theorem State.settleGate_wanted {ch : Nat} (hreef : s.reefing ch = false) (hwant : s.wantsOn ch = true) :
    (s.settleGate ch).gateOn ch = true ∨ ((s.settleGate ch).chan ch).wait = true := by
  rw [State.settleGate_on hreef hwant]
  split
  next hon => exact .inl hon
  next => exact State.turnOn_on

theorem pathBOf_ne_run {code : LineCode} (h : code ≠ .run) : pathBOf code ≠ .run := by
  cases code
  · exact absurd rfl h
  all_goals decide

theorem islandSafeCode_decides (code : LineCode) (hsupply : (s.chan ch).supply = true) (huv : (s.chan ch).uv = false)
    (hown : s.ownLatch ch = false) (hreef : s.reefing ch = false) : ∃ t, exec (.islandSafeCode ch code) s = .next t
      ∧ (t.chan ch).b = pathBOf code ∧ t.flag (cstat ch) 9 = (pathBOf code != .run)
      ∧ (code ≠ .run → s.safeOut ch (pathBOf code).sel = true → t.gateOn ch = true ∨ (t.chan ch).wait = true)
      ∧ (code ≠ .run → s.safeOut ch (pathBOf code).sel = false → t.gateOn ch = false ∧ (t.chan ch).wait = false)
      ∧ (∀ c : Fin 36, c ≠ ch → t.chan c = s.chan c) ∧ s.KeepsBut [cstat ch] t := by
  let v := s.decoded ch (pathBOf code)
  have hchan : v.chan ch = { s.chan ch with b := pathBOf code } := s.decoded_chan ch _
  have hregs : State.RegsOn (· ≠ cstat ch) s v := s.decoded_regsOn ch _
  have hdeciding : State.RegsOn DecidingReg s v := hregs.mono fun _ ha he => cstat_not_deciding ch (he ▸ ha)
  have hvreef : v.reefing ch = false := (s.decoded_reefing ch _).trans hreef
  have hwant (hcode : code ≠ .run) : v.wantsOn ch = s.safeOut ch (pathBOf code).sel := by
    rw [State.wantsOn_safe (s := v) (by rw [hchan]; exact hsupply) (by rw [hchan]; exact huv) ((State.ownLatch_congr hdeciding).trans hown)
      (by rw [hchan]; exact pathBOf_ne_run hcode), State.safeOut_congr hdeciding, hchan]
  have honly := v.settleGate_chanOnly ch
  have hexec : exec (.islandSafeCode ch code) s = .next (v.settleGate ch).settle := congrArg done (State.pathBCode_decodes _ hsupply)
  refine ⟨_, hexec, ?path, ?code, fun hcode hsafe => ?on, fun hcode hsafe => ?off, fun c hc => ?others, ?keeps⟩
  case path => rw [State.settle_chan, honly.path, hchan]
  case code =>
    rw [(State.settle_gates _).flag (cstat_ge ch), honly.code]
    exact State.flag_setFlag_self _ _ _ (by decide)
  case on =>
    rw [State.settle_gateOn, State.settle_chan]
    exact State.settleGate_wanted hvreef ((hwant hcode).trans hsafe)
  case off =>
    rw [State.settle_gateOn, State.settle_chan, State.settleGate_off hvreef ((hwant hcode).trans hsafe)]
    exact State.turnOff_off
  case others =>
    rw [State.settle_chan, honly.chans _ (Fin.val_ne_of_ne hc)]
    exact (State.chan_putChan ..).trans (if_neg (Fin.val_ne_of_ne hc))
  case keeps =>
    exact ((hregs.trans honly.regs).mono fun _ ha he => ha (he ▸ List.mem_cons_self)).keepsBut (honly.within.same .mem rfl)

end

/-! ### The partner's confirmation (R248) -/

theorem partnerGateLowConfirmed_turnsOn {s : State} {ch : Fin 36} (hwait : (s.chan ch).wait = true) (hlow : s.partnerLow ch = true)
    (hreef : s.reefing ch = false) : ∃ t, exec (.partnerGateLowConfirmed ch) s = .next t
    ∧ t.gateOn ch = true ∧ (t.chan ch).wait = false ∧ s.KeepsBut [cstat ch] t := by
  have hexec : exec (.partnerGateLowConfirmed ch) s = .next (s.hoist ch).settle :=
    congrArg done (if_pos (by rw [hwait, hlow, hreef]; rfl))
  obtain ⟨hon, hgone, -⟩ := s.hoist_on ch
  exact ⟨_, hexec, (State.settle_gateOn ..).trans hon, (congrArg Chan.wait (State.settle_chan ..)).trans hgone, (s.hoist_chanOnly ch).keepsBut⟩

/-! ### Phases of the profile (R240) -/

section
variable {s : State} {ch : Fin 36} {onTime : Bool}

theorem cflag_mod (ch : Nat) : cflag ch % 256 = 36 := by unfold cflag Adr.GGRP_CFLAG; omega

theorem cflag_ge (ch : Nat) : 0x80000 ≤ cflag ch := by unfold cflag Adr.GGRP_CFLAG; omega

theorem cflag_ne_pevt (ch p : Nat) : cflag ch ≠ Adr.PEVT p := by
  have hmod := cflag_mod ch
  unfold Adr.PEVT
  omega

theorem cflag_ne_cstat (ch c : Nat) : cflag ch ≠ cstat c := by
  have hflag := cflag_mod ch
  have hstat := cstat_mod c
  omega

theorem State.phaseLate_regsOn (s : State) {P : Nat → Prop} {ch : Nat} (hF : ¬ P (cflag ch)) (hE : ¬ P (Adr.PEVT (Pg.GGRP (groupOf ch)))) (k : Nat)
    (onTime : Bool) : State.RegsOn P s (s.phaseLate ch k onTime) := by
  unfold State.phaseLate
  split
  · exact (s.setFlag_regsOn hF k true).trans (State.raise_regsOn _ hE 1)
  · exact .refl

/-- A phase that ends on its time notes the missed comparison. -/
theorem State.phaseLate_flag (s : State) (ch : Nat) {k : Nat} (hk : k < 32) (onTime : Bool) :
    (s.phaseLate ch k onTime).flag (cflag ch) k = (s.flag (cflag ch) k || onTime) := by
  cases onTime with
  | false => exact (Bool.or_false _).symm
  | true =>
    refine ((State.raise_regsOn (P := (· = cflag ch)) _ (cflag_ne_pevt ch _).symm 1).flag rfl k).trans ?_
    rw [Bool.or_true]
    exact s.flag_setFlag_self _ true hk

/-- The registers in which the end of a phase shows. -/
abbrev phaseRegs (ch : Nat) : List Nat := [cstat ch, cflag ch, Adr.PEVT (Pg.GGRP (groupOf ch))]

/-- A phase that gives way to another. -/
theorem profilePhaseEnd_moves {k p : Nat} (hk : k < 32) (hp : p < 16)
    (hend : s.phaseEnd ch onTime = (s.phaseLate ch k onTime).setPhase ch p) : ∃ t, exec (.profilePhaseEnd ch onTime) s = .next t
    ∧ t.phase ch = p ∧ t.flag (cflag ch) k = (s.flag (cflag ch) k || onTime) ∧ s.KeepsBut (phaseRegs ch) t := by
  have hexec : exec (.profilePhaseEnd ch onTime) s = .next ((s.phaseLate ch k onTime).setPhase ch p).settle := congrArg done hend
  have honly := (s.phaseLate ch k onTime).setPhase_chanOnly ch p
  refine ⟨_, hexec, (State.settle_phase ..).trans (State.setPhase_phase _ _ hp), ?_, State.RegsOn.keepsBut ?_ ?_⟩
  · rw [(State.settle_gates _).flag (cflag_ge ch), honly.regs.flag (cflag_ne_cstat ch ch), s.phaseLate_flag _ hk]
  · exact (s.phaseLate_regsOn (by simp) (by simp) k onTime).trans (honly.regs.mono fun _ ha he => ha (he ▸ List.mem_cons_self))
  · exact (honly.within.same .mem rfl).trans ((s.phaseLate_within ch k onTime).same .mem rfl)

theorem State.phaseEnd_hoist {ch : Nat} (h : s.phase ch = 1) : s.phaseEnd ch onTime =
    (s.phaseLate ch 0 onTime).setPhase ch (if s.fld (Adr.GGRP_PROFON (groupOf ch) (posOf ch)) 31 24 = 0 then 3 else 2) := by
  unfold State.phaseEnd
  rw [h]
  rfl

theorem State.phaseEnd_luffOn {ch : Nat} (h : s.phase ch = 2) : s.phaseEnd ch onTime = (s.phaseLate ch 1 onTime).setPhase ch 3 := by
  unfold State.phaseEnd
  rw [h]
  rfl

theorem State.phaseEnd_strike {ch : Nat} (h : s.phase ch = 4) (hbooster : s.booster ch = false)
    (hoff : s.fld (Adr.GGRP_PROFOFF (groupOf ch) (posOf ch)) 31 24 ≠ 0) : s.phaseEnd ch onTime = (s.phaseLate ch 0 onTime).setPhase ch 5 := by
  unfold State.phaseEnd
  rw [h]
  dsimp only
  rw [if_neg (ne_true_of_eq_false hbooster)]
  exact if_neg hoff

theorem State.phaseEnd_luffOff {ch : Nat} (h : s.phase ch = 5) : s.phaseEnd ch onTime = (s.phaseLate ch 1 onTime).gateLow ch := by
  unfold State.phaseEnd
  rw [h]
  rfl

theorem State.gateLow_chanOnly (s : State) (ch : Nat) : State.ChanOnly ch s (s.gateLow ch) :=
  ((s.setPhase_chanOnly ch 0).trans (State.confirm_chanOnly _ ch)).trans (State.settleGate_chanOnly _ ch)

/-- A gate that has come to be low, and is not wanted on, stays low, confirmed from now on. -/
theorem State.gateLow_low {ch : Nat} (hwant : s.wantsOn ch = false) :
    (s.gateLow ch).phase ch = 0 ∧ (s.gateLow ch).flag (cstat ch) 10 = true ∧ ((s.gateLow ch).chan ch).confAt = s.now := by
  let v := (s.setPhase ch 0).confirm ch
  have honly : State.ChanOnly ch s v := (s.setPhase_chanOnly ch 0).trans (State.confirm_chanOnly _ ch)
  have hphase : v.phase ch = 0 := (State.confirm_phase _ ch).trans (s.setPhase_phase ch (by decide))
  have hreef : v.reefing ch = false := by
    unfold State.reefing
    rw [hphase]
    rfl
  have hgate : s.gateLow ch = v.turnOff ch := State.settleGate_off hreef ((State.wantsOn_congr honly.deciding honly.acting).trans hwant)
  rw [hgate]
  exact State.turnOff_low hphase (State.confirm_low _ ch) (State.confirm_confAt _ ch)

theorem profilePhaseEnd_lowers (hphase : s.phase ch = 5) (hwant : s.wantsOn ch = false) : ∃ t, exec (.profilePhaseEnd ch onTime) s = .next t
    ∧ t.phase ch = 0 ∧ t.flag (cstat ch) 10 = true ∧ (t.chan ch).confAt = s.now
    ∧ t.flag (cflag ch) 1 = (s.flag (cflag ch) 1 || onTime) ∧ s.KeepsBut (phaseRegs ch) t := by
  let u := s.phaseLate ch 1 onTime
  have hexec : exec (.profilePhaseEnd ch onTime) s = .next (u.gateLow ch).settle := congrArg done (State.phaseEnd_luffOff hphase)
  have hwithin : s.WithinM 2050 u := s.phaseLate_within ch 1 onTime
  have hdeciding : State.RegsOn DecidingReg s u := by
    have hmod := cflag_mod ch
    exact s.phaseLate_regsOn (by unfold DecidingReg; omega) (by unfold DecidingReg Adr.PEVT; omega) 1 onTime
  have hchan : u.chan ch = s.chan ch := by
    unfold State.chan
    rw [hwithin.same .chans rfl]
  have hnow : u.now = s.now := congrArg Power.dtime (hwithin.same .pwr rfl)
  have honly := u.gateLow_chanOnly ch
  obtain ⟨hlowered, hlow, hconf⟩ := State.gateLow_low ((State.wantsOn_congr hdeciding (by rw [hchan])).trans hwant)
  refine ⟨_, hexec, (State.settle_phase ..).trans hlowered, ((State.settle_gates _).flag (cstat_ge ch) 10).trans hlow, ?_, ?_,
    State.RegsOn.keepsBut ?_ ((honly.within.same .mem rfl).trans (hwithin.same .mem rfl))⟩
  · rw [State.settle_chan, hconf, hnow]
  · rw [(State.settle_gates _).flag (cflag_ge ch), honly.regs.flag (cflag_ne_cstat ch ch), s.phaseLate_flag _ (by decide)]
  · exact (s.phaseLate_regsOn (by simp) (by simp) 1 onTime).trans (honly.regs.mono fun _ ha he => ha (he ▸ List.mem_cons_self))

end

/-- Settles O43: each command of a channel is an operation on that channel alone, after which its gate follows R250. -/
theorem gatesFollow : Obligations.GatesFollow := by
  unfold Obligations.GatesFollow
  refine fun ch s => ⟨gateCommandEdge_rises, gateCommandEdge_falls, fun code => islandSafeCode_decides code, partnerGateLowConfirmed_turnsOn,
    fun onTime h1 => ?hoist, fun onTime h2 => ?luffOn, fun onTime h4 hbooster hoff => ?strike, fun onTime => profilePhaseEnd_lowers⟩
  case hoist => exact profilePhaseEnd_moves (by decide) (by split <;> decide) (State.phaseEnd_hoist h1)
  case luffOn => exact profilePhaseEnd_moves (by decide) (by decide) (State.phaseEnd_luffOn h2)
  case strike => exact profilePhaseEnd_moves (by decide) (by decide) (State.phaseEnd_strike h4 hbooster hoff)

end Sys2Proof.Machine
end

section
/-! SUPPORT. One instruction of the trim (R172, R173, R187): what its step leaves once its meaning has answered, and what the count of corrected
errors, which comes first, leaves of what a meaning reads. -/

namespace Sys2Proof.Machine

/-! ### What an operation on a run's context touches -/

/-- t differs from s in registers of the list l alone, as far as registers, engines and memory go. -/
structure State.Touches (l : List Nat) (s t : State) : Prop where
  regs : State.RegsOn (· ∉ l) s t
  engines : t.engines = s.engines
  mem : t.mem = s.mem

section
variable {s t u : State} {l k : List Nat}

theorem State.Touches.refl : State.Touches l s s := ⟨.refl, rfl, rfl⟩

theorem State.Touches.trans (h : State.Touches l s t) (g : State.Touches l t u) : State.Touches l s u :=
  ⟨h.regs.trans g.regs, g.engines.trans h.engines, g.mem.trans h.mem⟩

theorem State.Touches.mono (h : State.Touches l s t) (hlk : l ⊆ k) : State.Touches k s t :=
  ⟨h.regs.mono fun _ ha hin => ha (hlk hin), h.engines, h.mem⟩

end

section
variable (s : State) (n i : Nat)

theorem State.took_touches (k : Nat) : State.Touches [] s (s.took k) := ⟨.of_regs rfl, rfl, rfl⟩

theorem State.ctxFlag_touches (b : Nat) (on : Bool) : State.Touches [Adr.TRIM_CFLAG n i] s (s.ctxFlag n i b on) := by
  unfold State.ctxFlag
  split
  · exact ⟨s.setFlag_regsOn (by simp) b true, rfl, rfl⟩
  · exact .refl

theorem State.setStw_touches (c : Nat) (v : Int) : State.Touches [Adr.TRIM_ST n (16 * i + c)] s (s.setStw n i c v) :=
  ⟨s.setReg_regsOn (by simp) _, rfl, rfl⟩

theorem State.eccCount_touches (e : Ecc) : State.Touches [Adr.TRIM_ECCCNT n] s (s.eccCount n e) :=
  ⟨s.eccCount_regsOn n (by simp) e, (s.eccCount_within n e).same .engines rfl, (s.eccCount_within n e).same .mem rfl⟩

theorem State.ctxFlag_reg (b : Nat) (on : Bool) : (s.ctxFlag n i b on).reg (Adr.TRIM_CFLAG n i) =
    if on then setBit (s.reg (Adr.TRIM_CFLAG n i)) b true else s.reg (Adr.TRIM_CFLAG n i) := by
  unfold State.ctxFlag
  split
  · exact s.reg_setReg_self _ _
  · rfl

theorem State.ctxFlag_flag_ne {b c : Nat} (on : Bool) (h : c ≠ b) :
    (s.ctxFlag n i b on).flag (Adr.TRIM_CFLAG n i) c = s.flag (Adr.TRIM_CFLAG n i) c := by
  unfold State.ctxFlag
  split
  · exact s.flag_setFlag_ne _ true h
  · rfl

theorem State.ctxFlag_flag {b : Nat} (on : Bool) (h : b < 32) :
    (s.ctxFlag n i b on).flag (Adr.TRIM_CFLAG n i) b = (s.flag (Adr.TRIM_CFLAG n i) b || on) := by
  unfold State.ctxFlag
  cases on
  · exact (Bool.or_false _).symm
  · exact (s.flag_setFlag_self _ true h).trans (Bool.or_true _).symm

end

/-! ### The count of corrected errors (R187) -/

section
variable (s : State) (n : Nat) (e : Ecc)

theorem State.eccCount_reg {a : Nat} (h : a ≠ Adr.TRIM_ECCCNT n) : (s.eccCount n e).reg a = s.reg a :=
  (s.eccCount_regsOn (P := (· ≠ Adr.TRIM_ECCCNT n)) n (by simp) e).same a h

theorem State.eccCount_stw (i c : Nat) : (s.eccCount n e).stw n i c = s.stw n i c := by
  unfold State.stw
  rw [State.eccCount_reg _ _ _ (by unfold Adr.TRIM_ST Adr.TRIM_ECCCNT; omega)]

theorem State.eccCount_coef (k : Nat) : (s.eccCount n e).coef n k = s.coef n k := by
  unfold State.coef
  simp only [State.mword_congr (s.eccCount_touches n e).mem]

theorem State.eccCount_entry (i k : Nat) : (s.eccCount n e).entry n i k = s.coef n (s.bank n i + k) := by
  have hsel : (s.eccCount n e).reg (Adr.TRIM_CBSEL n i) = s.reg (Adr.TRIM_CBSEL n i) :=
    State.eccCount_reg _ _ _ (by unfold Adr.TRIM_CBSEL Adr.TRIM_ECCCNT; omega)
  have hbank : (s.eccCount n e).reg (Adr.TRIM_CBANK n i) = s.reg (Adr.TRIM_CBANK n i) :=
    State.eccCount_reg _ _ _ (by unfold Adr.TRIM_CBANK Adr.TRIM_ECCCNT; omega)
  unfold State.entry State.bank State.flag State.fld
  rw [State.eccCount_coef, hsel, hbank]

end

/-! ### Sample words (R176) -/

section
variable {s t : State} (hregs : State.RegsOn (0xE0000 ≤ ·) s t)
include hregs

theorem State.tw_congr (n i : Nat) : t.tw n i = s.tw n i := hregs.flag (by unfold Adr.TWL_STAT; omega) i

theorem State.twlN_congr (n : Nat) : t.twlN n = s.twlN n := by
  unfold State.twlN State.twlEpe
  rw [hregs.flag (by unfold Adr.TWL_CFG; omega), hregs.fld (by unfold Adr.TWL_WHEEL; omega)]

theorem State.twlPp_congr (n : Nat) : t.twlPp n = s.twlPp n := by
  unfold State.twlPp
  rw [hregs.fld (by unfold Adr.TWL_CFG; omega)]

variable (hw : t.samples = s.samples) (htwl : t.twls = s.twls)
include hw htwl

theorem State.twlSpeed_congr (n now : Nat) : t.twlSpeed n now = s.twlSpeed n now := by
  have hspeed : t.reg (Adr.TWL_SPEED n) = s.reg (Adr.TWL_SPEED n) := hregs.same _ (by unfold Adr.TWL_SPEED; omega)
  have hsec : t.twl n = s.twl n := by unfold State.twl; rw [htwl]
  unfold State.twlSpeed
  rw [hspeed, hsec, State.word_congr hw]
  simp only [State.tw_congr hregs, State.twlN_congr hregs]

theorem State.twlAdvance_congr (n now mul : Nat) : t.twlAdvance n now mul = s.twlAdvance n now mul := by
  unfold State.twlAdvance
  rw [State.tw_congr hregs, State.twlN_congr hregs, State.twlSpeed_congr hregs hw htwl, State.word_congr hw]

variable (hp : t.pwr = s.pwr)
include hp

theorem State.twlWord_congr (n j now : Nat) : t.twlWord n j now = s.twlWord n j now := by
  have hstat : t.reg (Adr.TWL_STAT n) = s.reg (Adr.TWL_STAT n) := hregs.same _ (by unfold Adr.TWL_STAT; omega)
  have hnow : t.now = s.now := congrArg Power.dtime hp
  unfold State.twlWord State.twlRuns
  simp only [State.tw_congr hregs, State.twlPp_congr hregs, State.twlSpeed_congr hregs hw htwl, State.twlAdvance_congr hregs hw htwl,
    State.word_congr hw, hstat, hnow]

/-- A sample word is read from the bus, the clock, the interfaces' latches and registers of wheels and rings. -/
theorem State.live_congr (sel now : Nat) : t.live sel now = s.live sel now := by
  have hper (k : Nat) : t.reg (Adr.EFR_PERIOD k) = s.reg (Adr.EFR_PERIOD k) := hregs.same _ (by unfold Adr.EFR_PERIOD; omega)
  have hnow : t.now = s.now := congrArg Power.dtime hp
  unfold State.live
  rw [State.twlWord_congr hregs hw htwl hp, State.word_congr hw, hper, hnow]

end

theorem State.eccCount_sampleFor (s : State) (n : Fin 4) (e : Ecc) (r : TrimRun) (sel : Nat) :
    (s.eccCount n e).sampleFor n r sel = s.sampleFor n r sel := by
  have hramp : (s.eccCount n e).reg (Adr.TRIM_CRAMP n r.slot) = s.reg (Adr.TRIM_CRAMP n r.slot) :=
    State.eccCount_reg _ _ _ (by unfold Adr.TRIM_CRAMP Adr.TRIM_ECCCNT; omega)
  have hkept := s.eccCount_within n e
  have hlive := State.live_congr (s.eccCount_regsOn n (by unfold Adr.TRIM_ECCCNT; omega) e) (hkept.same .samples rfl) (hkept.same .twls rfl)
    (hkept.same .pwr rfl) sel r.trigTime
  unfold State.sampleFor
  rw [hramp, hlive]

/-! ### The step of an instruction (R172, R173) -/

/-- Registers that an instruction can touch: the flags and state words of the slots of engine n. -/
abbrev RunRegs (n : Nat) (l : List Nat) : Prop := ∀ a ∈ l, 0x40304 + n * 0x1000 ≤ a

section
variable {s t : State} {n : Fin 4} {e : Ecc} {r r' : TrimRun} {w : Word} {op cost : Nat} {l : List Nat}
  {f : State → Nat → TrimRun → Word → IsaRes}

theorem State.goOn_inside {n pc : Nat} (hlo : s.fld (Adr.TRIM_CPROG n r.slot) 11 0 ≤ pc) (hhi : pc < s.progEnd n r.slot) (c : Nat) :
    s.goOn n r pc c = s.putEngine n { s.engine n with run := some { r with pc := pc, cyc := r.cyc + c } } := by
  unfold State.goOn
  rw [if_neg (by simp; omega)]
  rfl

/-- The run goes on in a state that differs from s in registers of the run alone. -/
theorem State.goOn_ranOn {pc : Nat} (ht : State.Touches (Adr.TRIM_ECCCNT n :: l) s t) (hl : RunRegs n l)
    (hlo : s.fld (Adr.TRIM_CPROG n r.slot) 11 0 ≤ pc) (hhi : pc < s.progEnd n r.slot) (hr : r.slot < 8) (c : Nat) :
    (t.goOn n r pc c).settle.engine n = { s.engine n with run := some { r with pc := pc, cyc := r.cyc + c } }
      ∧ (∀ m, m ≠ n.val → (t.goOn n r pc c).settle.engine m = s.engine m) ∧ s.KeepsBut (Adr.TRIM_ECCCNT n :: l) (t.goOn n r pc c).settle
      ∧ ∀ a, irqReg a = false → (t.goOn n r pc c).settle.reg a = t.reg a := by
  have hprog : t.reg (Adr.TRIM_CPROG n r.slot) = s.reg (Adr.TRIM_CPROG n r.slot) := by
    refine ht.regs.same _ fun hin => ?_
    rcases List.mem_cons.mp hin with h | h
    · unfold Adr.TRIM_CPROG Adr.TRIM_ECCCNT at h; omega
    · have hle := hl _ h
      unfold Adr.TRIM_CPROG at hle; omega
  have hend : t.progEnd n r.slot = s.progEnd n r.slot := by
    unfold State.progEnd State.fld
    rw [hprog]
  rw [State.goOn_inside ((congrArg (bits · 11 0) hprog).trans_le hlo) (hhi.trans_eq hend.symm) c]
  refine ⟨?_, fun m hm => ?_, (ht.regs.trans (.of_regs (State.putEngine_regs ..))).keepsBut ht.mem,
    fun a ha => State.settle_reg _ ha⟩
  · rw [State.engine_congr (State.settle_engines _), State.engine_putEngine_self, State.engine_congr ht.engines]
  · rw [State.engine_congr (State.settle_engines _), State.engine_putEngine, if_neg hm, State.engine_congr ht.engines]

theorem State.isaStep_issued (h : s.Stands n r w op) (he : e ≠ .uncorrectable) (hf : f (s.eccCount n e) n r w = some (t, r')) :
    s.isaStep n e op cost f = t.goOn n r' (r.pc + 1) cost := by
  obtain ⟨-, -, -, hop, -⟩ := id h
  unfold State.isaStep
  rw [State.issues_stands h (by simp [hop])]
  dsimp only
  rw [if_neg he, hf]

/-- An instruction that answers, having touched registers of the run alone: the run goes on at the next index. -/
theorem State.isaStep_ranOn (h : s.AtInstr n r w op) (he : e ≠ .uncorrectable) (hf : f (s.eccCount n e) n r w = some (t, r'))
    (hslot : r'.slot = r.slot) (hpc : r'.pc = r.pc) (ht : State.Touches (Adr.TRIM_ECCCNT n :: l) s t) (hl : RunRegs n l) :
    s.RanOn n r' cost l (s.isaStep n e op cost f).settle ∧ ∀ a, irqReg a = false → (s.isaStep n e op cost f).settle.reg a = t.reg a := by
  obtain ⟨hstands, hlo, hhi⟩ := h
  obtain ⟨-, hr, -⟩ := id hstands
  rw [State.isaStep_issued hstands he hf]
  unfold State.RanOn
  rw [← hslot] at hlo hhi hr
  rw [hpc]
  obtain ⟨hengine, hothers, hkeeps, hreg⟩ := State.goOn_ranOn ht hl hlo hhi hr cost
  exact ⟨⟨hengine, hothers, hkeeps⟩, hreg⟩

/-- The same where the meaning ends with a flag of the context. -/
theorem State.isaStep_ranFlag {v : State} {b : Nat} {on : Bool} (h : s.AtInstr n r w op) (he : e ≠ .uncorrectable)
    (hf : f (s.eccCount n e) n r w = some (t, r')) (hslot : r'.slot = r.slot) (hpc : r'.pc = r.pc) (hv : State.Touches (Adr.TRIM_ECCCNT n :: l) s v)
    (hl : ∀ a ∈ l, 0x40800 + n * 0x1000 ≤ a) (ht : State.Touches [] (v.ctxFlag n r.slot b on) t) :
    s.RanFlag n r' cost b on l (s.isaStep n e op cost f).settle := by
  obtain ⟨⟨-, hr, -⟩, -⟩ := id h
  have hcflag : Adr.TRIM_CFLAG n r.slot ∉ Adr.TRIM_ECCCNT n :: l := by
    rw [List.mem_cons, not_or]
    refine ⟨by unfold Adr.TRIM_CFLAG Adr.TRIM_ECCCNT; omega, fun hin => ?_⟩
    have hle := hl _ hin
    unfold Adr.TRIM_CFLAG at hle
    omega
  have hrunRegs : RunRegs n (Adr.TRIM_CFLAG n r.slot :: l) := by
    refine List.forall_mem_cons.mpr ⟨by unfold Adr.TRIM_CFLAG; omega, fun a ha => ?_⟩
    have hle := hl a ha
    omega
  have hflag : State.Touches (Adr.TRIM_ECCCNT n :: Adr.TRIM_CFLAG n r.slot :: l) s t :=
    ((hv.mono (by simp)).trans ((v.ctxFlag_touches n r.slot b on).mono (by simp))).trans (ht.mono (by simp))
  obtain ⟨hran, hreg⟩ := State.isaStep_ranOn (cost := cost) h he hf hslot hpc hflag hrunRegs
  unfold State.RanFlag
  rw [hslot]
  refine ⟨hran, ?_⟩
  rw [hreg _ (irqReg_cflag n hr), ht.regs.same _ (by simp), State.ctxFlag_reg, hv.regs.same _ hcflag]

/-- The same for a result in a data register with its SAT flag. -/
theorem State.isaStep_toD {v : State} {d : Nat} {x : Int × Bool} (h : s.AtInstr n r w op) (he : e ≠ .uncorrectable)
    (hf : f (s.eccCount n e) n r w = some (v.toD n r d x)) (hv : State.Touches (Adr.TRIM_ECCCNT n :: l) s v)
    (hl : ∀ a ∈ l, 0x40800 + n * 0x1000 ≤ a) : s.RanFlag n (r.wr d x.1) cost 0 x.2 l (s.isaStep n e op cost f).settle :=
  State.isaStep_ranFlag h he hf rfl rfl hv hl .refl

theorem State.isaStep_result {d : Nat} {x : Int × Bool} (h : s.AtInstr n r w op) (he : e ≠ .uncorrectable)
    (hf : f (s.eccCount n e) n r w = some ((s.eccCount n e).toD n r d x)) :
    s.RanFlag n (r.wr d x.1) cost 0 x.2 [] (s.isaStep n e op cost f).settle :=
  State.isaStep_toD (l := []) h he hf (s.eccCount_touches n e) (by simp)

/-- The same for an instruction that changes the run alone. -/
theorem State.isaStep_runOnly (h : s.AtInstr n r w op) (he : e ≠ .uncorrectable) (hf : f (s.eccCount n e) n r w = some (s.eccCount n e, r'))
    (hslot : r'.slot = r.slot) (hpc : r'.pc = r.pc) : s.RanOn n r' cost [] (s.isaStep n e op cost f).settle :=
  (State.isaStep_ranOn (l := []) h he hf hslot hpc (s.eccCount_touches n e) fun _ ha => absurd ha List.not_mem_nil).1

end

end Sys2Proof.Machine
end

section
/-! SUPPORT. Loads, stores and moves of the trim (R173, R176 to R178), and the settling of their statement. -/

namespace Sys2Proof.Machine

theorem wInt_toInt (w : Word) : wInt w.toInt = w := BitVec.ofInt_toInt

theorem TrimRun.wInt_rd (r : TrimRun) (i : Nat) : wInt (r.rd i) = Store.get (fun _ => 0#32) r.d i := wInt_toInt _

section
variable {s : State} {n : Fin 4} {e : Ecc} {r : TrimRun} {w : Word} (he : e ≠ .uncorrectable)
include he

theorem trLds_loads (h : s.AtInstr n r w 0x01) : ∃ t, exec (.trLds n e) s = .next t
    ∧ s.RanFlag n { r.wr (fD w) (s.sampleFor n r (fSel w)).value.toInt with inv := !(s.sampleFor n r (fSel w)).valid } 1
        4 (!(s.sampleFor n r (fSel w)).valid) [] t := by
  refine ⟨_, rfl, State.isaStep_ranFlag h he ?_ rfl rfl (s.eccCount_touches n e) (by simp) .refl⟩
  unfold isaLds
  rw [State.eccCount_sampleFor]

theorem trLdf_loads (h : s.AtInstr n r w 0x02) (hvalid : (s.sampleFor n r (fSel w)).valid = true) : ∃ t, exec (.trLdf n e) s = .next t
    ∧ s.RanOn n { r.wr (fD w) (s.sampleFor n r (fSel w)).value.toInt with inv := false } 1 [] t := by
  refine ⟨_, rfl, State.isaStep_runOnly h he ?_ rfl rfl⟩
  unfold isaLdf
  rw [State.eccCount_sampleFor]
  exact if_pos hvalid

/-- An invalid word: the substitute of the fixed region, with its own saturation (R177). -/
theorem trLdf_substitutes {k : Coef} (h : s.AtInstr n r w 0x02) (hvalid : (s.sampleFor n r (fSel w)).valid = false)
    (hk : s.coef n (fK w) = some k) : ∃ t, exec (.trLdf n e) s = .next t
    ∧ s.RanOn n { r.wr (fD w) (ldkValue k).1 with inv := true } 1 [Adr.TRIM_CFLAG n r.slot] t ∧ t.flag (Adr.TRIM_CFLAG n r.slot) 4 = true
    ∧ t.flag (Adr.TRIM_CFLAG n r.slot) 0 = (s.flag (Adr.TRIM_CFLAG n r.slot) 0 || (ldkValue k).2)
    ∧ ∀ b, b ≠ 4 → b ≠ 0 → t.flag (Adr.TRIM_CFLAG n r.slot) b = s.flag (Adr.TRIM_CFLAG n r.slot) b := by
  obtain ⟨⟨-, hr, -⟩, -⟩ := id h
  have hf : isaLdf (s.eccCount n e) n r w = some ((((s.eccCount n e).ctxFlag n r.slot 4 true).ctxFlag n r.slot 0 (ldkValue k).2),
      { r.wr (fD w) (ldkValue k).1 with inv := true }) := by
    unfold isaLdf
    rw [State.eccCount_sampleFor, State.eccCount_coef, hk]
    exact if_neg (ne_true_of_eq_false hvalid)
  have hflags := (State.ctxFlag_touches (s.eccCount n e) n r.slot 4 true).trans (State.ctxFlag_touches _ n r.slot 0 (ldkValue k).2)
  have htouches := ((s.eccCount_touches n e).mono (k := [Adr.TRIM_ECCCNT n, Adr.TRIM_CFLAG n r.slot]) (by simp)).trans (hflags.mono (by simp))
  obtain ⟨hran, hreg⟩ := State.isaStep_ranOn (cost := 1) h he hf rfl rfl htouches (by simp [RunRegs, Adr.TRIM_CFLAG])
  have hflag (b : Nat) : (s.isaStep n e 0x02 1 isaLdf).settle.flag (Adr.TRIM_CFLAG n r.slot) b = _ :=
    congrArg (bit · b) (hreg _ (irqReg_cflag n hr))
  have hold (b : Nat) : (s.eccCount n e).flag (Adr.TRIM_CFLAG n r.slot) b = s.flag (Adr.TRIM_CFLAG n r.slot) b :=
    congrArg (bit · b) (State.eccCount_reg _ _ _ (by unfold Adr.TRIM_CFLAG Adr.TRIM_ECCCNT; omega))
  refine ⟨_, rfl, hran, (hflag 4).trans ?_, (hflag 0).trans ?_, fun b h4 h0 => (hflag b).trans ?_⟩ <;> rw [← State.flag_eq]
  · rw [State.ctxFlag_flag_ne _ _ _ _ (by decide), State.ctxFlag_flag _ _ _ _ (by decide), Bool.or_true]
  · rw [State.ctxFlag_flag _ _ _ _ (by decide), State.ctxFlag_flag_ne _ _ _ _ (by decide), hold]
  · rw [State.ctxFlag_flag_ne _ _ _ _ h0, State.ctxFlag_flag_ne _ _ _ _ h4, hold]

theorem trLdt_loads (h : s.AtInstr n r w 0x03) : ∃ t, exec (.trLdt n e) s = .next t
    ∧ s.RanOn n (r.wr (fD w) (w32 (s.sampleFor n r (fSel w)).time).toInt) 1 [] t := by
  refine ⟨_, rfl, State.isaStep_runOnly h he ?_ rfl rfl⟩
  unfold isaLdt
  rw [State.eccCount_sampleFor]

theorem trSto_stages (h : s.AtInstr n r w 0x04) : ∃ t q, exec (.trSto n e) s = .next t ∧ (t.engine n).run = some q
    ∧ Store.get (fun _ => 0#32) q.staged (fSel w) = Store.get (fun _ => 0#32) r.d (fD w) ∧ fSel w ∈ q.written
    ∧ (∀ x, x ≠ fSel w → Store.get (fun _ => 0#32) q.staged x = Store.get (fun _ => 0#32) r.staged x ∧ (x ∈ q.written ↔ x ∈ r.written))
    ∧ q.d = r.d ∧ q.pc = r.pc + 1 ∧ q.cyc = r.cyc + 1 ∧ s.KeepsBut [Adr.TRIM_ECCCNT n] t := by
  obtain ⟨hengine, -, hkeeps⟩ := State.isaStep_runOnly (cost := 1) (f := isaSto) h he rfl rfl rfl
  refine ⟨_, _, rfl, congrArg Engine.run hengine, ?_, ?_, fun x hx => ⟨?_, ?_⟩, rfl, rfl, rfl, hkeeps⟩ <;> dsimp only
  · rw [Store.get_put, if_pos rfl, TrimRun.wInt_rd]
  · split
    next hin => exact List.contains_iff_mem.mp hin
    next => exact List.mem_cons_self
  · rw [Store.get_put, if_neg hx]
  · split
    next => rfl
    next => rw [List.mem_cons, or_iff_right hx]

theorem trLdk_loads {k : Coef} (h : s.AtInstr n r w 0x05) (hk : s.coef n (s.bank n r.slot + fK w) = some k) :
    ∃ t, exec (.trLdk n e) s = .next t ∧ s.RanFlag n (r.wr (fD w) (ldkValue k).1) 1 0 (ldkValue k).2 [] t := by
  refine ⟨_, rfl, State.isaStep_result h he ?_⟩
  unfold isaLdk
  rw [State.eccCount_entry, hk]
  rfl

theorem trLst_loads (h : s.AtInstr n r w 0x06) : ∃ t, exec (.trLst n e) s = .next t
    ∧ s.RanOn n (r.wr (fD w) (s.reg (Adr.TRIM_ST n (16 * r.slot + fC w))).toInt) 1 [] t := by
  refine ⟨_, rfl, State.isaStep_runOnly h he ?_ rfl rfl⟩
  unfold isaLst
  rw [State.eccCount_stw]
  rfl

theorem trSst_stores (h : s.AtInstr n r w 0x07) : ∃ t, exec (.trSst n e) s = .next t
    ∧ t.reg (Adr.TRIM_ST n (16 * r.slot + fC w)) = Store.get (fun _ => 0#32) r.d (fA w)
    ∧ s.RanOn n r 1 [Adr.TRIM_ST n (16 * r.slot + fC w)] t := by
  have htouches := ((s.eccCount_touches n e).mono (k := [Adr.TRIM_ECCCNT n, Adr.TRIM_ST n (16 * r.slot + fC w)]) (by simp)).trans
    ((State.setStw_touches _ n r.slot (fC w) (r.rd (fA w))).mono (by simp))
  obtain ⟨hran, hreg⟩ := State.isaStep_ranOn (cost := 1) (f := isaSst) h he rfl rfl rfl htouches (by simp [RunRegs, Adr.TRIM_ST]; omega)
  refine ⟨_, rfl, ?_, hran⟩
  rw [hreg _ (irqReg_eq_false (by unfold Adr.TRIM_ST; omega)), State.setStw, State.reg_setReg_self, TrimRun.wInt_rd]

theorem trMov_moves (h : s.AtInstr n r w 0x08) :
    ∃ t, exec (.trMov n e) s = .next t ∧ s.RanOn n (r.wr (fD w) (r.rd (fA w))) 1 [] t :=
  ⟨_, rfl, State.isaStep_runOnly h he rfl rfl rfl⟩

end

/-- Settles O34: each row is the step of one instruction, whose meaning reads what it read before the count of corrected errors. -/
theorem trimMoves : Obligations.TrimMoves := by
  unfold Obligations.TrimMoves
  exact fun n e r w s he => ⟨trLds_loads he, trLdf_loads he, fun _ => trLdf_substitutes he, trLdt_loads he, trSto_stages he,
    fun _ => trLdk_loads he, trLst_loads he, trSst_stores he, trMov_moves he⟩

end Sys2Proof.Machine
end

section
/-! SUPPORT. Rounding, saturation and square roots of the trim (R170, R171, R173): what each is in exact arithmetic, and the settling of the statement
on them. -/

namespace Sys2Proof.Machine

/-! ### Rounding (R170) -/

theorem clampInt_eq {lo hi : Int} (h : lo ≤ hi) (x : Int) : clampInt lo hi x = max lo (min x hi) := by
  unfold clampInt
  split
  · omega
  · split <;> omega

/-- Rounding half up is the greatest integer not above the exact value by more than a half. -/
theorem le_roundShift_iff {k x : Int} {n : Nat} : k ≤ roundShift x n ↔ 2 * k * 2 ^ n ≤ 2 * x + 2 ^ n := by
  unfold roundShift
  cases n with
  | zero => simp only [if_true, pow_zero]; omega
  | succ n =>
    rw [if_neg (by omega), Nat.add_sub_cancel, Int.le_ediv_iff_mul_le (by positivity), pow_succ]
    constructor <;> intro h <;> linarith

theorem roundShift_lt_iff {k x : Int} {n : Nat} : roundShift x n < k ↔ 2 * x + 2 ^ n < 2 * k * 2 ^ n := by
  rw [← not_le, le_roundShift_iff, not_le]

@[simp] theorem roundShift_zero (x : Int) : roundShift x 0 = x := rfl

/-! ### Saturation (R170) -/

theorem satQ_value (x : Int) (n : Nat) : (satQ x n).1 = max (-2147483648) (min (roundShift x n) 2147483647) := clampInt_eq (by decide) _

theorem satQ_zero (x : Int) : satQ x 0 = (max (-2147483648) (min x 2147483647), decide (2147483648 < x) || decide (x < -2147483648)) := by
  refine Prod.ext (satQ_value x 0) ?_
  unfold satQ
  rw [pow_zero, mul_one, mul_one]

theorem satQ_range (x : Int) (n : Nat) : -2147483648 ≤ (satQ x n).1 ∧ (satQ x n).1 ≤ 2147483647 := by
  rw [satQ_value]
  omega

/-- A value in range is kept, without SAT. -/
theorem satQ_exact {x : Int} (hlo : -2147483648 ≤ x) (hhi : x ≤ 2147483647) : satQ x 0 = (x, false) := by
  rw [satQ_zero, decide_eq_false (by omega), decide_eq_false (by omega)]
  exact Prod.ext (by dsimp only; omega) rfl

section
variable {x : Int} {n : Nat}

theorem satQ_rounds (hlo : -(2 ^ 31 * 2 ^ n) ≤ x) (hhi : 2 * x < (2 ^ 32 - 1) * 2 ^ n) : (satQ x n).1 = roundShift x n := by
  have hge : -2147483648 ≤ roundShift x n := by
    rw [le_roundShift_iff]
    have hpos : (0 : Int) < 2 ^ n := by positivity
    linarith
  have hlt : roundShift x n < 2147483648 := by
    rw [roundShift_lt_iff]
    linarith
  rw [satQ_value]
  omega

theorem satQ_upper (h : 2 ^ 31 * 2 ^ n ≤ x) : (satQ x n).1 = 2 ^ 31 - 1 := by
  have hge : 2147483648 ≤ roundShift x n := by
    rw [le_roundShift_iff]
    have hpos : (0 : Int) < 2 ^ n := by positivity
    linarith
  rw [satQ_value]
  omega

theorem satQ_lower (h : x ≤ -(2 ^ 31 * 2 ^ n)) : (satQ x n).1 = -2 ^ 31 := by
  have hlt : roundShift x n < -2147483647 := by
    rw [roundShift_lt_iff]
    have hpos : (0 : Int) < 2 ^ n := by positivity
    linarith
  rw [satQ_value]
  omega

theorem satQ_flag : (satQ x n).2 = true ↔ 2 ^ 31 * 2 ^ n < x ∨ x < -(2 ^ 31 * 2 ^ n) := by
  unfold satQ
  rw [Bool.or_eq_true, decide_eq_true_iff, decide_eq_true_iff, neg_mul]
  norm_num

end

/-! ### Accumulators (R171) -/

theorem acc72_exact {a : Int} (hlo : -2 ^ 71 ≤ a) (hhi : a < 2 ^ 71) : acc72 a = (a, false) := by
  unfold acc72 clampInt
  rw [if_neg (by omega), if_neg (by omega), decide_eq_false (by omega), decide_eq_false (by omega)]
  rfl

theorem acc72_upper {a : Int} (h : 2 ^ 71 ≤ a) : acc72 a = (2 ^ 71 - 1, true) := by
  unfold acc72 clampInt
  rw [if_neg (by omega), if_pos (by omega), decide_eq_true (by omega)]
  rfl

/-! ### Square roots (R173) -/

/-- The root by bits is the greatest integer whose square does not exceed x. -/
theorem rootBits_floor (x : Nat) : ∀ n base, base * base ≤ x → x < (base + 2 ^ n) * (base + 2 ^ n) →
    rootBits x n base * rootBits x n base ≤ x ∧ x < (rootBits x n base + 1) * (rootBits x n base + 1) := by
  intro n
  induction n with
  | zero => exact fun base hlo hhi => ⟨hlo, hhi⟩
  | succ n ih =>
    intro base hlo hhi
    unfold rootBits
    split
    next h => exact ih _ h (by rwa [pow_succ, mul_two, ← add_assoc] at hhi)
    next h => exact ih _ hlo (not_le.mp h)

theorem rootRound_nearest {m : Nat} (hm : m < 2 ^ 64) : 4 * m < (2 * rootRound m + 1) * (2 * rootRound m + 1)
    ∧ (0 < m → (2 * rootRound m - 1 : Int) * (2 * rootRound m - 1) < 4 * m + 1) := by
  obtain ⟨hlo, hhi⟩ := rootBits_floor m 32 0 (Nat.zero_le _) (by omega)
  unfold rootRound
  generalize rootBits m 32 0 = r at hlo hhi
  dsimp only
  split
  next h =>
    have hgap : r + r * r < m := by omega
    refine ⟨by nlinarith, fun _ => ?_⟩
    push_cast
    nlinarith [(by exact_mod_cast hgap : (r : Int) + r * r < m)]
  next h =>
    have hgap : m ≤ r + r * r := by omega
    refine ⟨by nlinarith, fun hpos => ?_⟩
    have hr : 0 < r := by
      by_contra h0
      have hr0 : r = 0 := by omega
      rw [hr0] at hgap
      omega
    have hlo' : (r : Int) * r ≤ m := by exact_mod_cast hlo
    have hr' : (0 : Int) < r := by exact_mod_cast hr
    nlinarith

theorem rootRound_eq_zero {m : Nat} (hm : m < 2 ^ 64) : rootRound m = 0 ↔ m = 0 := by
  obtain ⟨hlt, -⟩ := rootRound_nearest hm
  constructor
  · intro h
    rw [h] at hlt
    omega
  · rintro rfl
    obtain ⟨hlo, -⟩ := rootBits_floor 0 32 0 le_rfl (by omega)
    unfold rootRound
    rw [mul_self_eq_zero.mp (Nat.le_zero.mp hlo)]
    rfl

/-- Settles O35: rounding by the greatest integer within a half, the limits from there, and the root by its square. -/
theorem roundingIsExact : Obligations.RoundingIsExact := by
  unfold Obligations.RoundingIsExact
  refine fun x n => ⟨fun hlo hhi => ?_, satQ_upper, satQ_lower, satQ_flag, fun m hm => ?_⟩
  · rw [satQ_rounds hlo hhi]
    exact ⟨le_roundShift_iff.mp le_rfl, roundShift_lt_iff.mp (Int.lt_succ _)⟩
  · have hm64 : m < 2 ^ 64 := by omega
    obtain ⟨habove, hbelow⟩ := rootRound_nearest hm64
    exact ⟨rootRound_eq_zero hm64, by exact_mod_cast habove, hbelow⟩

end Sys2Proof.Machine
end

section
/-! SUPPORT. Arithmetic, multiply-accumulate and limits of the trim (R170, R171, R173), and the settling of their statement. -/

namespace Sys2Proof.Machine

section
variable {s t : State} {n : Fin 4} {e : Ecc} {r r' : TrimRun} {w : Word} {op cost b : Nat} {l : List Nat}
  {f : State → Nat → TrimRun → Word → IsaRes}

/-- A flag that is not raised reads as before. -/
theorem State.RanFlag.unflagged (h : s.RanFlag n r' cost b false l t) : s.RanOn n r' cost l t := by
  obtain ⟨⟨hengine, hothers, hregs, hmem⟩, hflag⟩ := h
  refine ⟨hengine, hothers, fun a ha hirq => ?_, hmem⟩
  by_cases hc : a = Adr.TRIM_CFLAG n r'.slot
  · rw [hc]
    exact hflag
  · refine hregs a ?_ hirq
    rw [List.mem_cons, not_or] at ha
    simp only [List.mem_cons, not_or]
    exact ⟨ha.1, hc, ha.2⟩

/-- An exact result that is limited to a signed word. -/
theorem State.isaStep_limited {d : Nat} {x : Int} (h : s.AtInstr n r w op) (he : e ≠ .uncorrectable)
    (hf : f (s.eccCount n e) n r w = some ((s.eccCount n e).toD n r d (satQ x 0))) :
    s.RanFlag n (r.wr d (max (-2147483648) (min x 2147483647))) cost 0 (decide (2147483648 < x) || decide (x < -2147483648)) []
      (s.isaStep n e op cost f).settle := by
  have hran := State.isaStep_result (cost := cost) h he hf
  rwa [satQ_zero] at hran

/-- Accumulator i of a run at a. -/
def TrimRun.setAcc (r : TrimRun) (i : Nat) (a : Int) : TrimRun := if i % 2 = 0 then { r with a0 := a } else { r with a1 := a }

theorem TrimRun.setAcc_slot (r : TrimRun) (i : Nat) (a : Int) : (r.setAcc i a).slot = r.slot := by
  unfold TrimRun.setAcc
  split <;> rfl

theorem TrimRun.setAcc_pc (r : TrimRun) (i : Nat) (a : Int) : (r.setAcc i a).pc = r.pc := by
  unfold TrimRun.setAcc
  split <;> rfl

/-- A sum that goes into an accumulator, with its ASAT flag. -/
theorem State.isaStep_toAcc {i : Nat} {a : Int} (h : s.AtInstr n r w op) (he : e ≠ .uncorrectable)
    (hf : f (s.eccCount n e) n r w = some ((s.eccCount n e).toAcc n r i a)) :
    s.RanFlag n (r.setAcc i (acc72 a).1) cost 1 (acc72 a).2 [] (s.isaStep n e op cost f).settle :=
  State.isaStep_ranFlag (l := []) h he hf (r.setAcc_slot ..) (r.setAcc_pc ..) (s.eccCount_touches n e) (by simp) .refl

theorem State.isaStep_toAcc_exact {i : Nat} {a : Int} (h : s.AtInstr n r w op) (he : e ≠ .uncorrectable)
    (hf : f (s.eccCount n e) n r w = some ((s.eccCount n e).toAcc n r i a)) (hlo : -2 ^ 71 ≤ a) (hhi : a < 2 ^ 71) :
    s.RanOn n (r.setAcc i a) cost [] (s.isaStep n e op cost f).settle := by
  have hran := State.isaStep_toAcc (cost := cost) h he hf
  rw [acc72_exact hlo hhi] at hran
  exact hran.unflagged

end

section
variable {s : State} {n : Fin 4} {e : Ecc} {r : TrimRun} {w : Word} (he : e ≠ .uncorrectable)
include he

theorem trSum_limits (op : Nat) (c : Instr) (x : Int) (hrow : (op = 0x09 ∧ c = .trAdd n e ∧ x = r.rd (fA w) + r.rd (fB w)) ∨
      (op = 0x0A ∧ c = .trSub n e ∧ x = r.rd (fA w) - r.rd (fB w)) ∨ (op = 0x0B ∧ c = .trNeg n e ∧ x = -r.rd (fA w)) ∨
      (op = 0x0C ∧ c = .trAbs n e ∧ x = (r.rd (fA w)).natAbs)) (h : s.AtInstr n r w op) :
    ∃ t, exec c s = .next t ∧ s.RanFlag n (r.wr (fD w) (max (-2147483648) (min x 2147483647))) 1
      0 (decide (2147483648 < x) || decide (x < -2147483648)) [] t := by
  rcases hrow with ⟨rfl, rfl, rfl⟩ | ⟨rfl, rfl, rfl⟩ | ⟨rfl, rfl, rfl⟩ | ⟨rfl, rfl, rfl⟩
  case inl => exact ⟨_, rfl, State.isaStep_limited (f := isaAdd) h he rfl⟩
  case inr.inl => exact ⟨_, rfl, State.isaStep_limited (f := isaSub) h he rfl⟩
  case inr.inr.inl => exact ⟨_, rfl, State.isaStep_limited (f := isaNeg) h he rfl⟩
  case inr.inr.inr => exact ⟨_, rfl, State.isaStep_limited (f := isaAbs) h he rfl⟩

theorem trMul_rounds {k : Coef} (h : s.AtInstr n r w 0x10) (hk : s.coef n (s.bank n r.slot + fK w) = some k) :
    ∃ t, exec (.trMul n e) s = .next t
      ∧ s.RanFlag n (r.wr (fD w) (satQ (r.rd (fA w) * k.1) k.2).1) 2 0 (satQ (r.rd (fA w) * k.1) k.2).2 [] t := by
  refine ⟨_, rfl, State.isaStep_result h he ?_⟩
  unfold isaMul
  rw [State.eccCount_entry, hk]
  rfl

theorem trMac_adds {k : Coef} {a : Int} (h : s.AtInstr n r w 0x13) (hk : s.coef n (s.bank n r.slot + fK w) = some k)
    (ha : a = r.acc (fD w) + macTerm (r.rd (fA w)) k) (hlo : -2 ^ 71 ≤ a) (hhi : a < 2 ^ 71) :
    ∃ t, exec (.trMac n e) s = .next t ∧ s.RanOn n (r.setAcc (fD w) a) 1 [] t := by
  refine ⟨_, rfl, State.isaStep_toAcc_exact h he ?_ hlo hhi⟩
  unfold isaMac
  rw [State.eccCount_entry, hk, ha]
  rfl

theorem trMacr_saturates {a : Int} (ha : a = r.acc (fD w) + r.rd (fA w) * r.rd (fB w)) (h : s.AtInstr n r w 0x14) (hhi : 2 ^ 71 ≤ a) :
    ∃ t, exec (.trMacr n e) s = .next t ∧ s.RanFlag n (r.setAcc (fD w) (2 ^ 71 - 1)) 1 1 true [] t := by
  have hran := State.isaStep_toAcc (cost := 1) (f := isaMacr) h he rfl
  rw [← ha, acc72_upper hhi] at hran
  exact ⟨_, rfl, hran⟩

theorem trSatk_limits {k : Coef} (h : s.AtInstr n r w 0x16) (hk : s.coef n (s.bank n r.slot + fK w) = some k) :
    ∃ t, exec (.trSatk n e) s = .next t ∧ s.RanFlag n (r.wr (fD w)
      (max (min (r.rd (fA w)) (ldkValue k).1.natAbs) (-(ldkValue k).1.natAbs))) 1 0 (ldkValue k).2 [] t := by
  refine ⟨_, rfl, State.isaStep_result (x := (max (min (r.rd (fA w)) (ldkValue k).1.natAbs) (-(ldkValue k).1.natAbs), _)) h he ?_⟩
  unfold isaSatk
  rw [State.eccCount_entry, hk]
  rfl

end

/-- Settles O36: a result in a data register is limited with SAT, a sum in an accumulator with ASAT, and no other row has a flag. -/
theorem trimArithmetic : Obligations.TrimArithmetic := by
  unfold Obligations.TrimArithmetic
  refine fun n e r w s he => ⟨trSum_limits he, fun _ => trMul_rounds he, fun h => ?mulr, fun h => ?aclr, fun a ha h hlo hhi => ?macr,
    fun k a ha h hk => trMac_adds he h hk ha, fun a => trMacr_saturates he, fun h => ?arnd, fun _ => trSatk_limits he, fun h => ?lim⟩
  case mulr => exact ⟨_, rfl, State.isaStep_result (f := isaMulr) h he rfl⟩
  case aclr => exact ⟨_, rfl, State.isaStep_toAcc_exact (f := isaAclr) h he rfl (by decide) (by decide)⟩
  case macr =>
    subst ha
    exact ⟨_, rfl, State.isaStep_toAcc_exact (f := isaMacr) h he rfl hlo hhi⟩
  case arnd => exact ⟨_, rfl, State.isaStep_result (f := isaArnd) h he rfl⟩
  case lim => exact ⟨_, rfl, State.isaStep_runOnly (f := isaLim) h he rfl rfl rfl⟩

end Sys2Proof.Machine
end

section
/-! SUPPORT. Ramps, PI, biquad, root, quotient and arctangent of the trim (R173 to R175, R189), and the settling of their statement. -/

namespace Sys2Proof.Machine

/-! ### Signed words and state words -/

theorem toInt_range (w : Word) : -2147483648 ≤ w.toInt ∧ w.toInt ≤ 2147483647 := by
  have hlo := BitVec.le_toInt w
  have hhi := BitVec.toInt_lt (x := w)
  omega

theorem TrimRun.rd_range (r : TrimRun) (i : Nat) : -2147483648 ≤ r.rd i ∧ r.rd i ≤ 2147483647 := toInt_range _

theorem State.stw_range (s : State) (n i c : Nat) : -2147483648 ≤ s.stw n i c ∧ s.stw n i c ≤ 2147483647 := toInt_range _

theorem toInt_wInt {x : Int} (hlo : -2147483648 ≤ x) (hhi : x ≤ 2147483647) : (wInt x).toInt = x := by
  unfold wInt
  rw [BitVec.toInt_ofInt, Int.bmod_eq_of_le] <;> omega

section
variable (s : State) (n i : Nat)

theorem State.stw_setStw {c : Nat} {x : Int} (hlo : -2147483648 ≤ x) (hhi : x ≤ 2147483647) : (s.setStw n i c x).stw n i c = x := by
  unfold State.stw State.setStw
  rw [State.reg_setReg_self, toInt_wInt hlo hhi]

theorem State.stw_setStw_ne {c d : Nat} (x : Int) (h : d ≠ c) : (s.setStw n i c x).stw n i d = s.stw n i d := by
  unfold State.stw State.setStw
  rw [State.reg_setReg_ne _ _ (by unfold Adr.TRIM_ST; omega)]

theorem State.stw_ctxFlag (b : Nat) (on : Bool) (c : Nat) : (s.ctxFlag n i b on).stw n i c = s.stw n i c :=
  congrArg BitVec.toInt ((s.ctxFlag_touches n i b on).regs.same _ (by simp [Adr.TRIM_ST, Adr.TRIM_CFLAG]; omega))

theorem irqReg_st (k : Nat) : irqReg (Adr.TRIM_ST n k) = false := irqReg_eq_false (by unfold Adr.TRIM_ST; omega)

end

section
variable {s v : State} {n : Fin 4} {e : Ecc} {r : TrimRun} {w : Word} {op cost d c : Nat} {x : Int × Bool} {y : Int}
  {f : State → Nat → TrimRun → Word → IsaRes}

/-- An instruction with a new state word y beside its result. -/
theorem State.isaStep_toD_stw (h : s.AtInstr n r w op) (he : e ≠ .uncorrectable)
    (hf : f (s.eccCount n e) n r w = some (((s.eccCount n e).setStw n r.slot c y).toD n r d x)) (hlo : -2147483648 ≤ y) (hhi : y ≤ 2147483647) :
    (s.isaStep n e op cost f).settle.stw n r.slot c = y
      ∧ s.RanFlag n (r.wr d x.1) cost 0 x.2 [Adr.TRIM_ST n (16 * r.slot + c)] (s.isaStep n e op cost f).settle := by
  have hv : State.Touches [Adr.TRIM_ECCCNT n, Adr.TRIM_ST n (16 * r.slot + c)] s ((s.eccCount n e).setStw n r.slot c y) :=
    ((s.eccCount_touches n e).mono (by simp)).trans ((State.setStw_touches ..).mono (by simp))
  have ht : State.Touches [Adr.TRIM_ECCCNT n, Adr.TRIM_CFLAG n r.slot, Adr.TRIM_ST n (16 * r.slot + c)] s
      (((s.eccCount n e).setStw n r.slot c y).toD n r d x).1 := (hv.mono (by simp)).trans ((State.ctxFlag_touches ..).mono (by simp))
  obtain ⟨-, hreg⟩ := State.isaStep_ranOn (cost := cost) h he hf rfl rfl ht (by simp [RunRegs, Adr.TRIM_CFLAG, Adr.TRIM_ST]; omega)
  refine ⟨?_, State.isaStep_toD h he hf hv (by simp [Adr.TRIM_ST])⟩
  unfold State.stw
  rw [hreg _ (irqReg_st _ _)]
  exact (State.stw_ctxFlag _ n r.slot 0 x.2 c).trans (State.stw_setStw _ _ _ hlo hhi)

end

/-- A state word that reads as before belongs to what is kept. -/
theorem State.RanFlag.stw_kept {s t : State} {n i c cost b : Nat} {r : TrimRun} {on : Bool}
    (h : s.RanFlag n r cost b on [Adr.TRIM_ST n (16 * i + c)] t) (hst : t.stw n i c = s.stw n i c) : s.RanFlag n r cost b on [] t := by
  obtain ⟨⟨hengine, hothers, hregs, hmem⟩, hflag⟩ := h
  refine ⟨⟨hengine, hothers, fun a ha hirq => ?_, hmem⟩, hflag⟩
  by_cases hc : a = Adr.TRIM_ST n (16 * i + c)
  · rw [hc]
    exact BitVec.toInt_inj.mp hst
  · refine hregs a ?_ hirq
    simp only [List.mem_cons, List.not_mem_nil, or_false, not_or] at ha ⊢
    exact ⟨ha.1, ha.2, hc⟩

/-! ### PI (R175) -/

section
variable {e st hi lo : Int} {kp ki : Coef} {p m i : Int × Bool} (hp : p = satQ (e * kp.1) kp.2) (hm : m = satQ (e * ki.1) ki.2)
  (hi' : i = satQ (st + m.1) 0) (hlo : -2147483648 ≤ lo)
include hp hm hi' hlo

/-- Within the limits P + I stands, and the integral takes its step. -/
theorem piLaw_within (hhi : hi ≤ 2147483647) (h1 : lo ≤ p.1 + i.1) (h2 : p.1 + i.1 ≤ hi) (h3 : lo ≤ i.1) (h4 : i.1 ≤ hi) :
    piLaw e st hi lo kp ki = (p.1 + i.1, i.1, p.2 || m.2 || i.2) := by
  have hu : satQ (p.1 + i.1) 0 = (p.1 + i.1, false) := satQ_exact (by omega) (by omega)
  unfold piLaw mulK
  simp only [← hp, ← hm, ← hi', hu, decide_eq_false (show ¬ hi < p.1 + i.1 by omega), decide_eq_false (show ¬ p.1 + i.1 < lo by omega),
    Bool.false_and, Bool.or_false, Bool.false_eq_true, if_false]
  rw [min_eq_left h2, max_eq_left h1, min_eq_left h4, max_eq_left h3]

/-- Above the upper limit, driven further up: the integral is held. -/
theorem piLaw_held (h1 : hi < p.1 + i.1) (h2 : p.1 + i.1 ≤ 2147483647) (he : 0 < e) (h3 : hi ≤ p.1 + st) (h4 : p.1 + st ≤ 2147483647)
    (h5 : lo ≤ st) (h6 : st ≤ hi) : piLaw e st hi lo kp ki = (hi, st, p.2 || m.2 || i.2) := by
  have hu : satQ (p.1 + i.1) 0 = (p.1 + i.1, false) := satQ_exact (by omega) h2
  have hu2 : satQ (p.1 + st) 0 = (p.1 + st, false) := satQ_exact (by omega) h4
  unfold piLaw mulK
  simp only [← hp, ← hm, ← hi', hu, hu2, decide_eq_true h1, decide_eq_true he, Bool.true_and, Bool.true_or, Bool.or_false, if_true]
  rw [min_eq_right h3, max_eq_left (h5.trans h6), min_eq_left h6, max_eq_left h5]

end

/-! ### Quotients (R173) -/

theorem divQ_rounds {a b p q d : Int} (hb : b ≠ 0) (hp : p = if b < 0 then -a else a) (hd : d = b.natAbs) (hlo : 2 * q * d ≤ 2 * (p * 2 ^ 31) + d)
    (hhi : 2 * (p * 2 ^ 31) + d < 2 * (q + 1) * d) :
    divQ a b = (max (-2147483648) (min q 2147483647), decide (d < p) || decide (p < -d)) := by
  have hpos : 0 < 2 * d := by omega
  have hq : (2 * p * 2 ^ 31 + d) / (2 * d) = q := by
    rw [Int.ediv_eq_iff_of_pos hpos]
    constructor <;> linarith
  unfold divQ
  dsimp only
  rw [← hp, ← hd, hq, clampInt_eq (by decide)]

/-! ### Free errors (R174) -/

theorem State.err_range (s : State) (k : Nat) {b : Int} (hb : 0 ≤ b) : -b ≤ s.err k b ∧ s.err k b ≤ b := by
  unfold State.err
  rw [clampInt_eq (by omega)]
  omega

/-! ### The rows -/

/-- What a root leaves (R173). -/
theorem isaSqrt_of_nonneg {v : State} {i : Nat} {r : TrimRun} {w : Word} (ha : 0 ≤ r.rd (fA w)) :
    isaSqrt v i r w = some (v, r.wr (fD w) (rootRound ((r.rd (fA w)).toNat * 2 ^ 31))) := by
  unfold isaSqrt
  exact if_neg (not_lt.mpr ha)

section
variable {s : State} {n : Fin 4} {e : Ecc} {r : TrimRun} {w : Word} (he : e ≠ .uncorrectable)
include he

theorem trRamp_steps {k : Coef} {y : Int} (h : s.AtInstr n r w 0x18) (hk : s.coef n (s.bank n r.slot + fK w) = some k)
    (hy : y = toward (s.stw n r.slot (fC w)) (r.rd (fA w)) (ldkValue k).1.natAbs) : ∃ t, exec (.trRamp n e) s = .next t
    ∧ t.stw n r.slot (fC w) = y ∧ s.RanFlag n (r.wr (fD w) y) 3 0 (ldkValue k).2 [Adr.TRIM_ST n (16 * r.slot + fC w)] t := by
  have hf : isaRamp (s.eccCount n e) n r w =
      some (((s.eccCount n e).setStw n r.slot (fC w) y).toD n r (fD w) (y, (ldkValue k).2)) := by
    unfold isaRamp
    rw [State.eccCount_entry, hk, State.eccCount_stw, hy]
    rfl
  have hst := s.stw_range n r.slot (fC w)
  have hgoal := r.rd_range (fA w)
  have hrange : -2147483648 ≤ y ∧ y ≤ 2147483647 := by
    rw [hy]
    unfold toward
    split <;> omega
  exact ⟨_, rfl, State.isaStep_toD_stw h he hf hrange.1 hrange.2⟩

section
variable {kp ki : Coef} {op : Nat} {c : Instr}
  (hrow : (op = 0x19 ∧ c = .trPi n e) ∨ (op = 0x1A ∧ c = .trPit n e ∧ (s.engine n).tuner = none))
  (h : s.AtInstr n r w op) (hkp : s.coef n (s.bank n r.slot + fK w) = some kp) (hki : s.coef n (s.bank n r.slot + (fK w + 1)) = some ki)
include hrow h hkp hki

/-- PI and, with no tuner, PIT do what the PI law says. -/
theorem trPi_follows {u y : Int} {on : Bool}
    (hlaw : piLaw (r.rd (fA w)) (s.stw n r.slot (fC w)) (r.rd (fB w)) (r.rd (fB w + 1)) kp ki = (u, y, on))
    (hlo : -2147483648 ≤ y) (hhi : y ≤ 2147483647) : ∃ t, exec c s = .next t ∧ t.stw n r.slot (fC w) = y
      ∧ s.RanFlag n (r.wr (fD w) u) 6 0 on [Adr.TRIM_ST n (16 * r.slot + fC w)] t := by
  have hpi : isaPi (s.eccCount n e) n r w = some (((s.eccCount n e).setStw n r.slot (fC w) y).toD n r (fD w) (u, on)) := by
    unfold isaPi
    rw [State.eccCount_entry, State.eccCount_entry, hkp, hki]
    dsimp only
    rw [State.eccCount_stw, hlaw]
  rcases hrow with ⟨rfl, rfl⟩ | ⟨rfl, rfl, htuner⟩
  case inl => exact ⟨_, rfl, State.isaStep_toD_stw h he hpi hlo hhi⟩
  case inr =>
    have hpit : isaPit (s.eccCount n e) n r w = isaPi (s.eccCount n e) n r w := by
      unfold isaPit
      rw [State.engine_congr (s.eccCount_touches n e).engines, htuner]
    exact ⟨_, rfl, State.isaStep_toD_stw h he (hpit.trans hpi) hlo hhi⟩

section
variable {p m i : Int × Bool} (hp : p = satQ (r.rd (fA w) * kp.1) kp.2) (hm : m = satQ (r.rd (fA w) * ki.1) ki.2)
  (hi : i = satQ (s.stw n r.slot (fC w) + m.1) 0)
include hp hm hi

theorem trPi_controls (h1 : r.rd (fB w + 1) ≤ p.1 + i.1) (h2 : p.1 + i.1 ≤ r.rd (fB w)) (h3 : r.rd (fB w + 1) ≤ i.1) (h4 : i.1 ≤ r.rd (fB w)) :
    ∃ t, exec c s = .next t ∧ t.stw n r.slot (fC w) = i.1
      ∧ s.RanFlag n (r.wr (fD w) (p.1 + i.1)) 6 0 (p.2 || m.2 || i.2) [Adr.TRIM_ST n (16 * r.slot + fC w)] t := by
  have hhi := (r.rd_range (fB w)).2
  have hlo := (r.rd_range (fB w + 1)).1
  exact trPi_follows he hrow h hkp hki (piLaw_within hp hm hi hlo hhi h1 h2 h3 h4) (by omega) (by omega)

theorem trPi_holds (h1 : r.rd (fB w) < p.1 + i.1) (h2 : p.1 + i.1 ≤ 2147483647) (hdrive : 0 < r.rd (fA w))
    (h3 : r.rd (fB w) ≤ p.1 + s.stw n r.slot (fC w)) (h4 : p.1 + s.stw n r.slot (fC w) ≤ 2147483647)
    (h5 : r.rd (fB w + 1) ≤ s.stw n r.slot (fC w)) (h6 : s.stw n r.slot (fC w) ≤ r.rd (fB w)) :
    ∃ t, exec c s = .next t ∧ s.RanFlag n (r.wr (fD w) (r.rd (fB w))) 6 0 (p.2 || m.2 || i.2) [] t := by
  obtain ⟨hlo, hhi⟩ := s.stw_range n r.slot (fC w)
  obtain ⟨t, hexec, hst, hran⟩ := trPi_follows he hrow h hkp hki
    (piLaw_held hp hm hi (r.rd_range _).1 h1 h2 hdrive h3 h4 h5 h6) hlo hhi
  exact ⟨t, hexec, hran.stw_kept hst⟩

end

end

theorem trBiq_filters {b0 b1 b2 a1 a2 : Coef} {o : Int × Int × Int × Bool × Bool} (h : s.AtInstr n r w 0x1B)
    (h0 : s.coef n (s.bank n r.slot + (fK w + 0)) = some b0)
    (h1 : s.coef n (s.bank n r.slot + (fK w + 1)) = some b1) (h2 : s.coef n (s.bank n r.slot + (fK w + 2)) = some b2)
    (h3 : s.coef n (s.bank n r.slot + (fK w + 3)) = some a1) (h4 : s.coef n (s.bank n r.slot + (fK w + 4)) = some a2)
    (ho : o = biquad (r.rd (fA w)) (s.stw n r.slot (fC w)) (s.stw n r.slot (fC w + 1)) b0 b1 b2 a1 a2) : ∃ t, exec (.trBiq n e) s = .next t
      ∧ t.stw n r.slot (fC w) = o.2.1 ∧ t.stw n r.slot (fC w + 1) = o.2.2.1
      ∧ s.RanOn n (r.wr (fD w) o.1) 8
          [Adr.TRIM_CFLAG n r.slot, Adr.TRIM_ST n (16 * r.slot + fC w), Adr.TRIM_ST n (16 * r.slot + (fC w + 1))] t
      ∧ ∀ b, 2 ≤ b → t.flag (Adr.TRIM_CFLAG n r.slot) b = s.flag (Adr.TRIM_CFLAG n r.slot) b := by
  obtain ⟨⟨-, hr, -⟩, -⟩ := id h
  let v := ((s.eccCount n e).setStw n r.slot (fC w) o.2.1).setStw n r.slot (fC w + 1) o.2.2.1
  have hf : isaBiq (s.eccCount n e) n r w = some ((v.ctxFlag n r.slot 1 o.2.2.2.2).toD n r (fD w) (o.1, o.2.2.2.1)) := by
    unfold isaBiq
    simp only [State.eccCount_entry, h0, h1, h2, h3, h4, State.eccCount_stw, ← ho]
    rfl
  have hstates : State.Touches [Adr.TRIM_ECCCNT n, Adr.TRIM_ST n (16 * r.slot + fC w), Adr.TRIM_ST n (16 * r.slot + (fC w + 1))] s v :=
    (((s.eccCount_touches n e).mono (by simp)).trans ((State.setStw_touches ..).mono (by simp))).trans ((State.setStw_touches ..).mono (by simp))
  have hflags : State.Touches [Adr.TRIM_CFLAG n r.slot] v ((v.ctxFlag n r.slot 1 o.2.2.2.2).toD n r (fD w) (o.1, o.2.2.2.1)).1 :=
    (State.ctxFlag_touches ..).trans (State.ctxFlag_touches ..)
  obtain ⟨hran, hreg⟩ := State.isaStep_ranOn (cost := 8)
    (l := [Adr.TRIM_CFLAG n r.slot, Adr.TRIM_ST n (16 * r.slot + fC w), Adr.TRIM_ST n (16 * r.slot + (fC w + 1))])
    h he hf rfl rfl ((hstates.mono (by simp)).trans (hflags.mono (by simp))) (by simp [RunRegs, Adr.TRIM_CFLAG, Adr.TRIM_ST]; omega)
  have hstw (c : Nat) : (s.isaStep n e 0x1B 8 isaBiq).settle.stw n r.slot c = v.stw n r.slot c :=
    (congrArg BitVec.toInt (hreg _ (irqReg_st ..))).trans ((State.stw_ctxFlag ..).trans (State.stw_ctxFlag ..))
  have hrange : (-2147483648 ≤ o.2.1 ∧ o.2.1 ≤ 2147483647) ∧ (-2147483648 ≤ o.2.2.1 ∧ o.2.2.1 ≤ 2147483647) := by
    rw [ho]
    exact ⟨satQ_range .., satQ_range ..⟩
  refine ⟨_, rfl, (hstw _).trans ?_, (hstw _).trans (State.stw_setStw _ _ _ hrange.2.1 hrange.2.2), hran, fun b hb => ?_⟩
  · exact (State.stw_setStw_ne _ _ _ _ (by omega)).trans (State.stw_setStw _ _ _ hrange.1.1 hrange.1.2)
  · refine (congrArg (bit · b) (hreg _ (irqReg_cflag n hr))).trans ?_
    refine (State.ctxFlag_flag_ne _ _ _ _ (by omega)).trans ((State.ctxFlag_flag_ne _ _ _ _ (by omega)).trans ?_)
    refine hstates.regs.flag ?_ b
    simp [Adr.TRIM_CFLAG, Adr.TRIM_ST, Adr.TRIM_ECCCNT]
    omega

/-- A result without a flag. -/
theorem State.isaStep_wrote {op cost : Nat} {f : State → Nat → TrimRun → Word → IsaRes} {x : Int} (h : s.AtInstr n r w op)
    (hf : f (s.eccCount n e) n r w = some (s.eccCount n e, r.wr (fD w) x)) :
    s.RanOn n (r.wr (fD w) x) cost [] (s.isaStep n e op cost f).settle :=
  State.isaStep_runOnly h he hf rfl rfl

theorem trSqrt_roots (h : s.AtInstr n r w 0x26) (ha : 0 ≤ r.rd (fA w)) : ∃ t, exec (.trSqrt n e) s = .next t
    ∧ s.RanOn n (r.wr (fD w) (rootRound ((r.rd (fA w)).toNat * 2 ^ 31))) 18 [] t :=
  ⟨_, rfl, State.isaStep_wrote he h (isaSqrt_of_nonneg ha)⟩

/-- A result with a flag that the operands ask for (R173). -/
theorem State.isaStep_flagged {op cost b : Nat} {f : State → Nat → TrimRun → Word → IsaRes} {x : Int} (h : s.AtInstr n r w op)
    (hf : f (s.eccCount n e) n r w = some ((s.eccCount n e).ctxFlag n r.slot b true, r.wr (fD w) x)) :
    s.RanFlag n (r.wr (fD w) x) cost b true [] (s.isaStep n e op cost f).settle :=
  State.isaStep_ranFlag (l := []) h he hf rfl rfl (s.eccCount_touches n e) (by simp) .refl

theorem trSqrt_domain (h : s.AtInstr n r w 0x26) (ha : r.rd (fA w) < 0) :
    ∃ t, exec (.trSqrt n e) s = .next t ∧ s.RanFlag n (r.wr (fD w) 0) 18 3 true [] t :=
  ⟨_, rfl, State.isaStep_flagged (f := isaSqrt) he h (if_pos ha)⟩

theorem trDiv_zero (h : s.AtInstr n r w 0x27) (hb : r.rd (fB w) = 0) : ∃ t, exec (.trDiv n e) s = .next t
    ∧ s.RanFlag n (r.wr (fD w) (if 0 ≤ r.rd (fA w) then 2147483647 else -2147483648)) 34 2 true [] t :=
  ⟨_, rfl, State.isaStep_flagged (f := isaDiv) he h (if_pos hb)⟩

theorem trDiv_rounds {p q d : Int} (h : s.AtInstr n r w 0x27) (hb : r.rd (fB w) ≠ 0)
    (hp : p = if r.rd (fB w) < 0 then -r.rd (fA w) else r.rd (fA w)) (hd : d = (r.rd (fB w)).natAbs) (hlo : 2 * q * d ≤ 2 * (p * 2 ^ 31) + d)
    (hhi : 2 * (p * 2 ^ 31) + d < 2 * (q + 1) * d) : ∃ t, exec (.trDiv n e) s = .next t
    ∧ s.RanFlag n (r.wr (fD w) (max (-2147483648) (min q 2147483647))) 34 0 (decide (d < p) || decide (p < -d)) [] t := by
  have hran := State.isaStep_result (cost := 34) (f := isaDiv) h he (if_neg hb)
  rw [divQ_rounds hb hp hd hlo hhi] at hran
  exact ⟨_, rfl, hran⟩

theorem trAtan2_zero (h : s.AtInstr n r w 0x25) (ha : r.rd (fA w) = 0) (hb : r.rd (fB w) = 0) :
    ∃ t, exec (.trAtan2 n e) s = .next t ∧ s.RanFlag n (r.wr (fD w) 0) 24 3 true [] t :=
  ⟨_, rfl, State.isaStep_flagged (f := isaAtan2) he h (if_pos ⟨ha, hb⟩)⟩

theorem trAtan2_turns (h : s.AtInstr n r w 0x25) (hab : r.rd (fA w) ≠ 0 ∨ r.rd (fB w) ≠ 0) : ∃ t, ∃ x : Int, exec (.trAtan2 n e) s = .next t
    ∧ (x - turnAtan2 (r.rd (fA w)) (r.rd (fB w))).natAbs ≤ 1000 ∧ s.RanOn n (r.wr (fD w) x) 24 [] t := by
  have hf : isaAtan2 (s.eccCount n e) n r w = some ((s.eccCount n e).took 1,
      r.wr (fD w) (turnAtan2 (r.rd (fA w)) (r.rd (fB w)) + (s.eccCount n e).err 0 1000)) := if_neg (by omega)
  have herr := (s.eccCount n e).err_range 0 (b := 1000) (by decide)
  obtain ⟨hran, -⟩ := State.isaStep_ranOn (l := []) (cost := 24) h he hf rfl rfl
    ((s.eccCount_touches n e).trans ((State.took_touches _ 1).mono (by simp))) fun _ ha => absurd ha List.not_mem_nil
  exact ⟨_, _, rfl, by omega, hran⟩

end

/-- Settles O37: each row by its model function, the PI law by its two cases, states and flags by the rule of one instruction. -/
theorem trimControl : Obligations.TrimControl := by
  intro n e r w s he
  refine ⟨fun k y h hk hy => trRamp_steps he h hk hy, fun kp ki p m i op c hrow h hkp hki hp hm hi => ⟨?within, ?held⟩,
    fun b0 b1 b2 a1 a2 h _ h0 h1 h2 h3 h4 => trBiq_filters he h h0 h1 h2 h3 h4 rfl, trSqrt_roots he, trSqrt_domain he, trDiv_zero he,
    fun p q d => trDiv_rounds he, trAtan2_zero he, trAtan2_turns he⟩
  case within => exact trPi_controls he hrow h hkp hki hp hm hi
  case held => exact fun h1 h2 hdrive h3 h4 h5 h6 _ => trPi_holds he hrow h hkp hki hp hm hi h1 h2 hdrive h3 h4 h5 h6

end Sys2Proof.Machine
end

section
/-! SUPPORT. The transforms of the trim (R173, R174), and the settling of their statement. -/

namespace Sys2Proof.Machine

/-! ### Results with a free error (R174) -/

/-- A free error moves a limited word by no more than its bound. -/
theorem clampInt_near {lo hi y err b : Int} (h : lo ≤ hi) (hlo : -b ≤ err) (hhi : err ≤ b) :
    (lo ≤ clampInt lo hi (y + err) ∧ clampInt lo hi (y + err) ≤ hi) ∧ |clampInt lo hi (y + err) - max lo (min y hi)| ≤ b := by
  rw [clampInt_eq h, abs_le]
  omega

theorem State.nearQ_near (s : State) (k : Nat) (x : Int) : NearTo (s.nearQ k x).1 x := by
  obtain ⟨hlo, hhi⟩ := s.err_range k (b := 510) (by decide)
  obtain ⟨⟨hmin, hmax⟩, hnear⟩ := clampInt_near (lo := -2147483648) (hi := 2147483647) (y := roundShift x 64) (by decide) hlo hhi
  exact ⟨hmin, hmax, by rw [abs_le] at hnear; unfold State.nearQ; omega⟩

theorem State.nearQ_flag (s : State) (k : Nat) (x : Int) : (s.nearQ k x).2 = (satQ x 64).2 := rfl

/-- The value of a duty before its limits. -/
theorem roundShift_one : roundShift (2 ^ 96) 65 = 2147483648 := by decide

theorem State.svmDuty_near (s : State) (k : Nat) (v z : Int) : (0 ≤ (s.svmDuty k v z).1 ∧ (s.svmDuty k v z).1 ≤ 2147483647)
    ∧ ((s.svmDuty k v z).1 - max 0 (min (roundShift (2 ^ 95 + 2 * v + z) 65) 2147483647)).natAbs ≤ 510 := by
  obtain ⟨hlo, hhi⟩ := s.err_range k (b := 510) (by decide)
  unfold State.svmDuty
  generalize 2 ^ 95 + 2 * v + z = x
  dsimp only
  split
  case isTrue hx =>
    rw [hx, roundShift_one, clampInt_eq (by decide)]
    decide
  case isFalse =>
    obtain ⟨hrange, hnear⟩ := clampInt_near (lo := 0) (hi := 2147483647) (y := roundShift x 65) (by decide) hlo hhi
    rw [abs_le] at hnear
    exact ⟨hrange, by omega⟩

theorem State.sineWord_one (s : State) (k : Nat) {x : Nat} (h : x % 2 ^ 32 = 2 ^ 30) : s.sineWord k x = 2147483647 := if_pos h

theorem State.sineWord_near (s : State) (k : Nat) {x : Nat} (h : x % 2 ^ 32 ≠ 2 ^ 30) : NearTo (s.sineWord k x) (turnSin x * 2 ^ 31) := by
  unfold State.sineWord
  rw [if_neg h]
  exact s.nearQ_near _ _

/-! ### The rows -/

section
variable {s : State} {n : Fin 4} {e : Ecc} {r : TrimRun} {w : Word} {op cost : Nat} {f : State → Nat → TrimRun → Word → IsaRes}
  (he : e ≠ .uncorrectable)
include he

/-- Two results in neighbouring data registers, with one SAT flag. -/
theorem State.isaStep_toD2 {x y : Int × Bool} (h : s.AtInstr n r w op)
    (hf : f (s.eccCount n e) n r w = some ((s.eccCount n e).toD2 n r (fD w) x y)) :
    s.RanFlag n ((r.wr (fD w) x.1).wr (fD w + 1) y.1) cost 0 (x.2 || y.2) [] (s.isaStep n e op cost f).settle :=
  State.isaStep_ranFlag (l := []) h he hf rfl rfl (s.eccCount_touches n e) (by simp) (State.took_touches _ 2)

theorem trClarke_near (h : s.AtInstr n r w 0x20) : ∃ t, ∃ b : Int, exec (.trClarke n e) s = .next t
    ∧ NearTo b ((r.rd (fA w) + 2 * r.rd (fB w)) * invRoot3)
    ∧ s.RanFlag n ((r.wr (fD w) (r.rd (fA w))).wr (fD w + 1) b) 3 0 (satQ ((r.rd (fA w) + 2 * r.rd (fB w)) * invRoot3) 64).2 [] t := by
  have hran := State.isaStep_toD2 (cost := 3) (f := isaClarke) he h rfl
  rw [Bool.false_or, State.nearQ_flag] at hran
  exact ⟨_, _, rfl, State.nearQ_near _ 1 _, hran⟩

theorem trPark_near {x : Nat} {vd vq : Int} (h : s.AtInstr n r w 0x21) (hx : x = (wInt (r.rd (fB w))).toNat)
    (hd : vd = r.rd (fA w) * turnCos x + r.rd (fA w + 1) * turnSin x) (hq : vq = r.rd (fA w + 1) * turnCos x - r.rd (fA w) * turnSin x) :
    ∃ t, ∃ d q : Int, exec (.trPark n e) s = .next t ∧ NearTo d vd ∧ NearTo q vq
      ∧ s.RanFlag n ((r.wr (fD w) d).wr (fD w + 1) q) 6 0 ((satQ vd 64).2 || (satQ vq 64).2) [] t := by
  refine ⟨_, _, _, rfl, State.nearQ_near (s.eccCount n e) 0 _, State.nearQ_near (s.eccCount n e) 1 _,
    State.isaStep_toD2 (f := isaPark) he h ?_⟩
  rw [hd, hq, hx]
  rfl

theorem trIpark_near {x : Nat} {va vb : Int} (h : s.AtInstr n r w 0x22) (hx : x = (wInt (r.rd (fB w))).toNat)
    (ha : va = r.rd (fA w) * turnCos x - r.rd (fA w + 1) * turnSin x) (hb : vb = r.rd (fA w) * turnSin x + r.rd (fA w + 1) * turnCos x) :
    ∃ t, ∃ a b : Int, exec (.trIpark n e) s = .next t ∧ NearTo a va ∧ NearTo b vb
      ∧ s.RanFlag n ((r.wr (fD w) a).wr (fD w + 1) b) 6 0 ((satQ va 64).2 || (satQ vb 64).2) [] t := by
  refine ⟨_, _, _, rfl, State.nearQ_near (s.eccCount n e) 0 _, State.nearQ_near (s.eccCount n e) 1 _,
    State.isaStep_toD2 (f := isaIpark) he h ?_⟩
  rw [ha, hb, hx]
  rfl

theorem trSincos_near {x : Nat} (h : s.AtInstr n r w 0x24) (hx : x = (wInt (r.rd (fA w))).toNat) :
    ∃ t, ∃ a b : Int, exec (.trSincos n e) s = .next t ∧ (x = 2 ^ 30 → a = 2147483647) ∧ (x = 0 → b = 2147483647)
      ∧ (x ≠ 2 ^ 30 → NearTo a (turnSin x * 2 ^ 31)) ∧ (x ≠ 0 → NearTo b (turnCos x * 2 ^ 31))
      ∧ s.RanOn n ((r.wr (fD w) a).wr (fD w + 1) b) 5 [] t := by
  have hlt : x < 2 ^ 32 := hx ▸ BitVec.isLt _
  have hf : isaSincos (s.eccCount n e) n r w = some ((s.eccCount n e).toD2 n r (fD w) ((s.eccCount n e).sineWord 0 x, false)
      ((s.eccCount n e).sineWord 1 (x + 2 ^ 30), false)) := by
    unfold isaSincos
    dsimp only
    rw [← hx]
  have hran := State.isaStep_toD2 (cost := 5) he h hf
  simp only [Bool.or_self] at hran
  refine ⟨_, _, _, rfl, fun h0 => State.sineWord_one _ _ (by omega), fun h0 => State.sineWord_one _ _ (by omega),
    fun h0 => State.sineWord_near _ _ (by omega), fun h0 => State.sineWord_near _ _ (by omega), hran.unflagged⟩

/-- The three duties of SVM, and the SAT flag alone of the flags. -/
theorem trSvm_near {a b z : Int} (h : s.AtInstr n r w 0x23) (ha : a = r.rd (fA w)) (hb : b = r.rd (fA w + 1))
    (hz : z = svmZero (fC w) (a * 2 ^ 64) (-a * 2 ^ 63 + b * halfRoot3) (-a * 2 ^ 63 - b * halfRoot3)) :
    ∃ t, ∃ x : Fin 3 → Int, exec (.trSvm n e) s = .next t
      ∧ (∀ k, 0 ≤ x k ∧ x k ≤ 2147483647)
      ∧ (x 0 - max 0 (min (roundShift (2 ^ 95 + 2 * (a * 2 ^ 64) + z) 65) 2147483647)).natAbs ≤ 510
      ∧ (x 1 - max 0 (min (roundShift (2 ^ 95 + 2 * (-a * 2 ^ 63 + b * halfRoot3) + z) 65) 2147483647)).natAbs ≤ 510
      ∧ (x 2 - max 0 (min (roundShift (2 ^ 95 + 2 * (-a * 2 ^ 63 - b * halfRoot3) + z) 65) 2147483647)).natAbs ≤ 510
      ∧ s.RanOn n (((r.wr (fD w) (x 0)).wr (fD w + 1) (x 1)).wr (fD w + 2) (x 2)) 8 [Adr.TRIM_CFLAG n r.slot] t
      ∧ ∀ f, 1 ≤ f → t.flag (Adr.TRIM_CFLAG n r.slot) f = s.flag (Adr.TRIM_CFLAG n r.slot) f := by
  obtain ⟨hx0, hn0⟩ := State.svmDuty_near (s.eccCount n e) 0 (a * 2 ^ 64) z
  obtain ⟨hx1, hn1⟩ := State.svmDuty_near (s.eccCount n e) 1 (-a * 2 ^ 63 + b * halfRoot3) z
  obtain ⟨hx2, hn2⟩ := State.svmDuty_near (s.eccCount n e) 2 (-a * 2 ^ 63 - b * halfRoot3) z
  have hf : ∃ on, isaSvm (s.eccCount n e) n r w = some (((s.eccCount n e).ctxFlag n r.slot 0 on).took 3,
      ((r.wr (fD w) ((s.eccCount n e).svmDuty 0 (a * 2 ^ 64) z).1).wr (fD w + 1)
        ((s.eccCount n e).svmDuty 1 (-a * 2 ^ 63 + b * halfRoot3) z).1).wr (fD w + 2)
        ((s.eccCount n e).svmDuty 2 (-a * 2 ^ 63 - b * halfRoot3) z).1) := by
    rw [hz, ha, hb]
    exact ⟨_, rfl⟩
  obtain ⟨on, hf⟩ := hf
  generalize (s.eccCount n e).svmDuty 0 (a * 2 ^ 64) z = x0 at hf hx0 hn0
  generalize (s.eccCount n e).svmDuty 1 (-a * 2 ^ 63 + b * halfRoot3) z = x1 at hf hx1 hn1
  generalize (s.eccCount n e).svmDuty 2 (-a * 2 ^ 63 - b * halfRoot3) z = x2 at hf hx2 hn2
  obtain ⟨hran, hreg⟩ := State.isaStep_ranFlag (l := []) (cost := 8) h he hf rfl rfl (s.eccCount_touches n e) (by simp)
    (State.took_touches _ 3)
  refine ⟨_, ![x0.1, x1.1, x2.1], rfl, ?_, hn0, hn1, hn2, hran, fun b hb => ?_⟩
  · exact Fin.forall_fin_succ.mpr ⟨hx0, Fin.forall_fin_two.mpr ⟨hx1, hx2⟩⟩
  · refine (congrArg (bit · b) hreg).trans ?_
    split
    · exact bit_setBit_ne _ _ (by omega)
    · rfl

end

/-- Settles O38: every result is its rounded value with a free error of at most 510, limited, and the exact end points of SINCOS come first. -/
theorem trimTransforms : Obligations.TrimTransforms := by
  intro n e r w s he
  exact ⟨trClarke_near he, fun _ _ _ => trPark_near he, fun _ _ _ => trIpark_near he, fun _ _ _ => trSvm_near he, fun _ => trSincos_near he⟩

end Sys2Proof.Machine
end

section
/-! SUPPORT. What ends a run of the trim besides its END: faults of its context, a step of another instruction, and branches (R172, R187), and the
settling of their statement. -/

namespace Sys2Proof.Machine

/-! ### A context after its fault (R187) -/

/-- Engine n has no run; context i shows the cause of its fault, is disabled and accepts no trigger. -/
structure State.CtxStopped (n i cause : Nat) (t : State) : Prop where
  idle : (t.engine n).run = none
  shown : t.fld (Adr.TRIM_CSTAT n i) 27 24 = cause
  disabled : t.cen n i = false
  refuses : (t.ctx (8 * n + i)).accepts = false

theorem State.CtxStopped.past {n i cause : Nat} {t u : State} (h : State.CtxStopped n i cause t) (hrun : (u.engine n).run = (t.engine n).run)
    (hcstat : u.fld (Adr.TRIM_CSTAT n i) 27 24 = t.fld (Adr.TRIM_CSTAT n i) 27 24) (hcctrl : u.reg (Adr.TRIM_CCTRL n i) = t.reg (Adr.TRIM_CCTRL n i))
    (hctxs : u.ctxs = t.ctxs) : State.CtxStopped n i cause u where
  idle := hrun.trans h.idle
  shown := hcstat.trans h.shown
  disabled := (congrArg (bit · 0) hcctrl).trans h.disabled
  refuses := by
    unfold State.ctx
    rw [hctxs]
    exact h.refuses

section
variable (s : State) (n i : Nat)

theorem State.ctxReport_reg (st : CtxStatus) (a : Nat) : (s.ctxReport n i st).reg a = s.reg a := by
  unfold State.reg
  rw [State.ctxReport_regs]

theorem State.ctxOff_stopped {cause : Nat} (hrun : (s.engine n).run = none) (hcstat : s.fld (Adr.TRIM_CSTAT n i) 27 24 = cause) :
    State.CtxStopped n i cause (s.ctxOff n i) where
  idle := hrun
  shown := by
    unfold State.ctxOff
    rw [State.fld_eq, State.putCtx_reg, ← State.fld_eq, State.fld_setFlag_ne _ _ _ (.inl (by decide)), State.fld_eq, State.reg_setFlag,
      if_neg (by unfold Adr.TRIM_CSTAT Adr.TRIM_CCTRL; omega), ← State.fld_eq, hcstat]
  disabled := by
    unfold State.ctxOff State.cen
    rw [State.flag_eq, State.putCtx_reg, State.reg_setFlag, if_neg (by unfold Adr.TRIM_CSTAT Adr.TRIM_CCTRL; omega), ← State.flag_eq,
      State.flag_setFlag_self _ _ _ (by decide)]
  refuses := by
    unfold State.ctxOff
    rw [State.ctx_putCtx_self]

theorem State.dropPending_stopped {cause : Nat} (hi : i < 8) (h : State.CtxStopped n i cause s) : State.CtxStopped n i cause (s.dropPending n i) := by
  have hkept := s.dropPending_within n i
  refine h.past (by rw [State.engine_congr (hkept.same .engines rfl)]) ?_ ?_ (hkept.same .ctxs rfl)
  all_goals
    unfold State.dropPending State.estat
    split
  · rw [State.fld_eq, State.reg_setReg_ne _ _ (by unfold Adr.TRIM_CSTAT Adr.TRIM_ESTAT; omega), State.ctxReport_reg,
      ← State.fld_eq, State.fld_setFlag_ne _ _ _ (.inl (by decide))]
  · rfl
  · rw [State.reg_setReg_ne _ _ (by unfold Adr.TRIM_CCTRL Adr.TRIM_ESTAT; omega), State.ctxReport_reg,
      State.reg_setFlag, if_neg (by unfold Adr.TRIM_CSTAT Adr.TRIM_CCTRL; omega)]
  · rfl

theorem State.tuneAbortSlot_run : ((s.tuneAbortSlot n i).engine n).run = (s.engine n).run := by
  unfold State.tuneAbortSlot
  split
  · split
    · rw [State.engine_putEngine_self]
    · rfl
  · rfl

theorem State.tuneAbortSlot_stopped {cause : Nat} (h : State.CtxStopped n i cause s) : State.CtxStopped n i cause (s.tuneAbortSlot n i) := by
  have hkept := s.tuneAbortSlot_within n i
  have hregs : State.RegsOn (fun _ => True) s (s.tuneAbortSlot n i) := .of_regs (hkept.same .regs rfl)
  exact h.past (s.tuneAbortSlot_run n i) (hregs.fld trivial ..) (hregs.same _ trivial) (hkept.same .ctxs rfl)

/-- The fault bit of the page, its event and the report to Shroud leave a stopped context stopped. -/
theorem State.CtxStopped.told {cause : Nat} (h : State.CtxStopped n i cause s) : State.CtxStopped n i cause
    (((s.fault (Pg.TRIM n) i).raise (Pg.TRIM n) (16 + i)).ctxReport n i .overrun) := by
  have hreg (a : Nat) (hf : a ≠ Adr.PFAULT (Pg.TRIM n)) (he : a ≠ Adr.PEVT (Pg.TRIM n)) :
      (((s.fault (Pg.TRIM n) i).raise (Pg.TRIM n) (16 + i)).ctxReport n i .overrun).reg a = s.reg a := by
    rw [State.ctxReport_reg, State.raise_reg_ne _ _ _ he, State.reg_fault, if_neg hf]
  have hkept := ((s.fault (Pg.TRIM n) i).raise (Pg.TRIM n) (16 + i)).ctxReport_within n i .overrun
  refine h.past ?_ (congrArg (bits · 27 24) (hreg _ ?_ ?_)) (hreg _ ?_ ?_) ((hkept.same .ctxs rfl).trans (State.raise_ctxs ..))
  · exact congrArg Engine.run (State.engine_congr ((hkept.same .engines rfl).trans (State.raise_engines ..)) n)
  all_goals
    unfold Pg.TRIM
  · unfold Adr.TRIM_CSTAT Adr.PFAULT; omega
  · unfold Adr.TRIM_CSTAT Adr.PEVT; omega
  · unfold Adr.TRIM_CCTRL Adr.PFAULT; omega
  · unfold Adr.TRIM_CCTRL Adr.PEVT; omega

end

section
variable (s : State) (n : Fin 4) {r : TrimRun} (hr : r.slot < 8)
include hr

theorem State.ctxFault_stopped {cause : Nat} (hc : cause < 16) : State.CtxStopped n r.slot cause (s.ctxFault n r cause).settle := by
  have hcstat : ((s.setFld (Adr.TRIM_CSTAT n r.slot) 27 24 cause).runOver n r).fld (Adr.TRIM_CSTAT n r.slot) 27 24 = cause := by
    rw [State.fld_eq, State.runOver_cstat _ _ _ hr, bits_setBit_ne _ _ _ _ _ (.inl (by decide)), bits_setBits_ne _ _ _ _ _ _ (by decide) (by decide),
      State.reg_setFld, if_pos rfl, bits_setBits_self _ _ _ _ (by decide)]
    exact Nat.mod_eq_of_lt hc
  have hstopped := (State.tuneAbortSlot_stopped _ n r.slot (State.dropPending_stopped _ n r.slot hr
    (State.ctxOff_stopped _ n r.slot (State.runOver_idle _ n r) hcstat))).told
  exact hstopped.past (by rw [State.engine_congr (State.settle_engines _)]; rfl) (State.settle_fld _ (irqReg_cstat n hr) _ _)
    (State.settle_reg _ (irqReg_eq_false (by unfold Adr.TRIM_CCTRL; omega))) (State.settle_ctxs _)

theorem State.ctxFault_pfault (cause : Nat) : (s.ctxFault n r cause).settle.flag (Adr.PFAULT (Pg.TRIM n)) r.slot = true := by
  rw [State.settle_flag _ (irqReg_eq_false (by unfold Adr.PFAULT Pg.TRIM; omega)), State.flag_eq]
  unfold State.ctxFault
  rw [State.ctxReport_reg, State.raise_reg_ne _ _ _ (by unfold Adr.PFAULT Adr.PEVT; omega), State.reg_fault,
    if_pos rfl, bit_setBit_self _ _ (by omega)]

end

/-! ### The step of each row (R172) -/

/-- A row of the trim is a step of an ordinary instruction, or it is the branch. -/
def State.StepsRow (s : State) (n : Fin 4) (e : Ecc) (row : Nat × Instr) : Prop :=
  (∃ cost f, exec row.2 s = .next (s.isaStep n e row.1 cost f).settle) ∨ (row.1 = 0x30 ∧ exec row.2 s = .next (s.isaBranch n e).settle)

theorem trimRows_steps (s : State) (n : Fin 4) (e : Ecc) : ∀ row ∈ trimRows n e, s.StepsRow n e row := by
  simp only [trimRows, List.cons_append, List.nil_append, List.forall_mem_cons]
  iterate 32 refine ⟨.inl ⟨_, _, rfl⟩, ?_⟩
  exact ⟨.inr ⟨rfl, rfl⟩, List.forall_mem_nil _⟩

section
variable {s : State} {n : Fin 4} {e : Ecc} {r : TrimRun} {w : Word} {op : Nat} {c : Instr}

theorem State.issues_none_of_run (h : (s.engine n).run = none) (p : Word → Bool) : s.issues n p = none := by
  unfold State.issues
  rw [h]

theorem State.issues_none_of_word {p : Word → Bool} (h : (s.engine n).run = some r) (hw : p (s.mword (progAddr n r.pc)) = false) :
    s.issues n p = none := by
  unfold State.issues
  rw [h]
  exact if_neg fun hp => Bool.false_ne_true (hw.symm.trans hp.2)

/-- Where the engine issues no such instruction, nothing happens. -/
theorem exec_trimRow_of_none (hrow : (op, c) ∈ trimRows n e) (h : s.issues n (fun w => fOp w == op) = none) : exec c s = .next s.settle := by
  rcases trimRows_steps s n e _ hrow with ⟨cost, f, hexec⟩ | ⟨rfl, hexec⟩
  · rw [hexec]
    unfold State.isaStep
    rw [h]
  · rw [hexec]
    unfold State.isaBranch
    rw [h]

/-- An uncorrectable error faults the context with cause 1. -/
theorem exec_trimRow_of_ecc (hrow : (op, c) ∈ trimRows n .uncorrectable) (h : s.Stands n r w op) :
    exec c s = .next (s.ctxFault n r 1).settle := by
  obtain ⟨-, -, -, hop, -⟩ := id h
  have hissues : s.issues n (fun w => fOp w == op) = some (r, w) := State.issues_stands h (by simp [hop])
  rcases trimRows_steps s n _ _ hrow with ⟨cost, f, hexec⟩ | ⟨rfl, hexec⟩
  · rw [hexec]
    unfold State.isaStep
    rw [hissues]
    rfl
  · rw [hexec]
    unfold State.isaBranch
    rw [hissues]
    rfl

theorem State.keepsBut_settle (s : State) : s.KeepsBut [] s.settle := (State.RegsOn.refl (P := (· ∉ []))).keepsBut rfl

theorem trimRow_idle (hrow : (op, c) ∈ trimRows n e) (h : s.issues n (fun w => fOp w == op) = none) :
    ∃ t, exec c s = .next t ∧ t.engines = s.engines ∧ s.KeepsBut [] t :=
  ⟨_, exec_trimRow_of_none hrow h, State.settle_engines _, s.keepsBut_settle⟩

theorem trimRow_ecc (hrow : (op, c) ∈ trimRows n .uncorrectable) (h : s.Stands n r w op) : ∃ t, exec c s = .next t ∧ (t.engine n).run = none
    ∧ t.fld (Adr.TRIM_CSTAT n r.slot) 27 24 = 1 ∧ t.cen n r.slot = false ∧ (t.ctx (8 * n + r.slot)).accepts = false
    ∧ t.flag (Adr.PFAULT (Pg.TRIM n)) r.slot = true ∧ t.samples = s.samples ∧ t.pwms = s.pwms ∧ s.MemSame t := by
  obtain ⟨-, hr, -⟩ := id h
  obtain ⟨hidle, hshown, hdisabled, hrefuses⟩ := s.ctxFault_stopped n hr (cause := 1) (by decide)
  have hkept := s.ctxFault_within n r 1
  exact ⟨_, exec_trimRow_of_ecc hrow h, hidle, hshown, hdisabled, hrefuses, s.ctxFault_pfault n hr 1,
    (State.settle_samples _).trans (hkept.same .samples rfl), (State.settle_pwms _).trans (hkept.same .pwms rfl),
    State.byte_congr ((State.settle_mem _).trans (hkept.same .mem rfl))⟩

/-- Past the end of the program the context faults with cause 2. -/
theorem State.goOn_past_end {pc : Int} (hr : r.slot < 8) (h : s.progEnd n r.slot ≤ pc) (cost : Nat) :
    State.CtxStopped n r.slot 2 (s.goOn n r pc cost).settle ∧ (s.goOn n r pc cost).settle.flag (Adr.PFAULT (Pg.TRIM n)) r.slot = true := by
  unfold State.goOn
  rw [if_pos (by simp [h])]
  have hslot : ({ r with pc := pc.toNat, cyc := r.cyc + cost } : TrimRun).slot < 8 := hr
  exact ⟨s.ctxFault_stopped n hslot (by decide), s.ctxFault_pfault n hslot 2⟩

theorem trMov_at_end (h : s.Stands n r w 0x08) (hend : r.pc + 1 = s.progEnd n r.slot) : ∃ t, exec (.trMov n .ok) s = .next t
    ∧ (t.engine n).run = none ∧ t.fld (Adr.TRIM_CSTAT n r.slot) 27 24 = 2 ∧ t.cen n r.slot = false
    ∧ t.flag (Adr.PFAULT (Pg.TRIM n)) r.slot = true := by
  obtain ⟨-, hr, -⟩ := id h
  have hmov : isaMov (s.eccCount n .ok) n r w = some (s, r.wr (fD w) (r.rd (fA w))) := rfl
  have hstep := State.isaStep_issued (cost := 1) h (by decide) hmov
  have hpast : (s.progEnd n r.slot : Int) ≤ r.pc + 1 := by omega
  obtain ⟨⟨hidle, hshown, hdisabled, -⟩, hfault⟩ := State.goOn_past_end (r := r.wr (fD w) (r.rd (fA w))) hr hpast 1
  exact ⟨_, congrArg done hstep, hidle, hshown, hdisabled, hfault⟩

/-! ### Branches (R172) -/

theorem trB_falls (he : e ≠ .uncorrectable) (h : s.AtInstr n r w 0x30) (hcond : s.condHolds n r w = false) :
    ∃ t, exec (.trB n e) s = .next t ∧ s.RanOn n r 1 [] t := by
  obtain ⟨hstands, hlo, hhi⟩ := h
  obtain ⟨-, hr, -, hop, -⟩ := id hstands
  have hstep : s.isaBranch n e = (s.eccCount n e).goOn n r (r.pc + 1) 1 := by
    unfold State.isaBranch
    rw [State.issues_stands hstands (by simp [hop])]
    dsimp only
    rw [if_neg he, hcond]
    rfl
  obtain ⟨hengine, hothers, hkeeps, -⟩ := State.goOn_ranOn (pc := r.pc + 1) (s.eccCount_touches n e)
    (fun _ ha => absurd ha List.not_mem_nil) hlo hhi hr 1
  exact ⟨_, congrArg done hstep, hengine, hothers, hkeeps⟩

theorem trB_jumps {p : Nat} (he : e ≠ .uncorrectable) (h : s.Stands n r w 0x30) (hcond : s.condHolds n r w = true)
    (hp : (p : Int) = r.pc + 1 + signed 12 (bits w 11 0)) (hlo : s.fld (Adr.TRIM_CPROG n r.slot) 11 0 ≤ p) (hhi : p < s.progEnd n r.slot) :
    ∃ t, exec (.trB n e) s = .next t ∧ (t.engine n).run = some { r with pc := p, cyc := r.cyc + 2 } ∧ s.KeepsBut [Adr.TRIM_ECCCNT n] t := by
  obtain ⟨-, hr, -, hop, -⟩ := id h
  have hstep : s.isaBranch n e = (s.eccCount n e).goOn n r p 2 := by
    unfold State.isaBranch
    rw [State.issues_stands h (by simp [hop]), hp]
    dsimp only
    rw [if_neg he, hcond]
    rfl
  obtain ⟨hengine, -, hkeeps, -⟩ := State.goOn_ranOn (s.eccCount_touches n e) (fun _ ha => absurd ha List.not_mem_nil) hlo hhi hr 2
  exact ⟨_, congrArg done hstep, congrArg Engine.run hengine, hkeeps⟩

end

/-- Settles O39: every row is one step of its engine, which a fault of the context ends; the branch goes on at one of two indices. -/
theorem trimSequencing : Obligations.TrimSequencing := by
  intro n r w s
  refine ⟨fun _ _ => trimRow_ecc, fun op c e hrow hrun hop => ?other, fun op c e hrow hrun => ?none, trMov_at_end, fun _ => trB_falls,
    fun _ _ => trB_jumps⟩
  case other => exact trimRow_idle hrow (State.issues_none_of_word hrun (beq_eq_false_iff_ne.mpr hop))
  case none => exact trimRow_idle hrow (State.issues_none_of_run hrun _)

end Sys2Proof.Machine
end

section
/-! SUPPORT. The latency records cleared (R197), and the refutation of the statement on trim contexts. -/

namespace Sys2Proof.Machine

theorem latencyClear_pageRow : pageRow (Adr.TSCH_CLR / 4096) = some ⟨.tsch, 0x44, 1, 0x7, 5, 0x0, 0x0⟩ := by decide

theorem latencyClear_regInfo : regInfo (Adr.TSCH_CLR / 4096) (Adr.TSCH_CLR % 4096) = RegInfo.ro := by decide

/-- The range of register addresses that CLR takes back to their reset values: the latency records, and what lies between them. -/
def latencyRange (a : Nat) : Bool := decide (Adr.TSCH_LAT 0 ≤ a) && decide (a ≤ Adr.TSCH_LAT 31)

/-- An accepted CLR clears its range. -/
theorem exec_latencyClear {s : State} {port : Port} (ho : s.Owns port Pg.TSCH) (hw : s.refusalOf port Adr.TSCH_CLR .plain 1#32 = none) :
    exec (.latencyClear port) s =
      .next (((s.requestStored Pg.TSCH Adr.TSCH_CLR).clearRegs latencyRange).answer port (.ok [])).settle := by
  have hstore : s.portStore port Adr.TSCH_CLR 1#32 = ((s.requestStored Pg.TSCH Adr.TSCH_CLR).clearRegs latencyRange).answer port (.ok []) := by
    rw [s.portStore_runTime (by decide) latencyClear_pageRow latencyClear_regInfo ho (by decide) rfl rfl hw, RegInfo.next_ro]
    rfl
  exact congrArg done hstore

/-- A running part whose TSCH page GMS owns. The store of registers also holds a word at 0x44041, no word address, so no register of the part. -/
def strayLatency : State :=
  ((({ State.reset with pwr := { Power.reset with phase := .run } }).setReg Adr.SYS_PDSTAT 0xFFF#32).setReg (Adr.POWNER Pg.TSCH) 3#32).setReg 0x44041 5#32

theorem strayLatency_owns : strayLatency.Owns (4 : Port) Pg.TSCH := by decide

theorem strayLatency_accepts : strayLatency.refusalOf (4 : Port) Adr.TSCH_CLR .plain 1#32 = none := by decide

/-- Refutes O41: the frame of its last clause lists the 32 latency records, where CLR (R197) takes back every address from the first record to the
last. A store of registers that holds a word at an address between two records (which no write of the part puts there) loses it. -/
theorem not_trimContexts : ¬ Obligations.TrimContexts := by
  unfold Obligations.TrimContexts
  rintro ⟨-, htuner⟩
  obtain ⟨-, -, -, -, hclear⟩ := htuner 0 0 0 4 strayLatency
  obtain ⟨t, hexec, -, -, hregs, -⟩ := hclear strayLatency_owns strayLatency_accepts
  rw [exec_latencyClear strayLatency_owns strayLatency_accepts] at hexec
  obtain rfl := Host.Outcome.next.inj hexec
  have hcleared : ((strayLatency.requestStored Pg.TSCH Adr.TSCH_CLR).clearRegs latencyRange).reg 0x44041 = 0#32 := by
    rw [State.reg_clearRegs]
    decide
  have hkept := hregs 0x44041 (by decide) (by decide)
  rw [State.settle_reg _ (by decide)] at hkept
  exact absurd (hcleared.symm.trans hkept) (by decide)

end Sys2Proof.Machine
end
